-- ==== Sys2Proof/Word.lean ====
section
/-! DEFINITION. The words of the ML640 and the plainest arithmetic on them.
Bit 0 is the least significant bit everywhere (00 R4) and bytes are little-endian (00 R5). -/

namespace Sys2Proof

/-- One byte. -/
abbrev Byte := BitVec 8

/-- A Tram data word (17 R441). -/
abbrev Word := BitVec 32

/-- A register, a bus word or a frame word (00 R6). -/
abbrev DWord := BitVec 64

/-- A Tram accumulator (17 R441). -/
abbrev Acc72 := BitVec 72

/-- Bits `lsb + wid - 1` down to `lsb` of a number. -/
def bitsOf (v lsb wid : Nat) : Nat := (v >>> lsb) % 2 ^ wid

/-- Bit `i` of a number. -/
def bitAt (v i : Nat) : Bool := v.testBit i

/-- A number with bit `i` set. -/
def setBit (v i : Nat) : Nat := v ||| (1 <<< i)

/-- A number with bit `i` clear. -/
def clearBit (v i : Nat) : Nat := if v.testBit i then v - (1 <<< i) else v

/-- A number with bit `i` as given. -/
def putBit (v i : Nat) (b : Bool) : Nat := if b then setBit v i else clearBit v i

/-- A number with the bits of `m` clear. -/
def clearMask (v m : Nat) : Nat := v - (v &&& m)

/-- 1 for true, 0 for false. -/
def b2n (b : Bool) : Nat := if b then 1 else 0

/-- Addition that stops at the largest value of `w` bits. -/
def satAdd (w v n : Nat) : Nat := min (v + n) (2 ^ w - 1)

/-- All ones in `w` bits. -/
def ones (w : Nat) : Nat := 2 ^ w - 1

end Sys2Proof
end

