-- ==== Sys2Proof/Syntax.lean ====
section
/-! DEFINITION. The commands of the part: one constructor per row of the opcode table, each with what the event or
access carries. Unit numbers (stope, engine, crew, port, sub-port, channel, bank, queue, NI) are as the spec counts them. -/

namespace Sys2Proof

/-- 257 bits of a lane at a place where a comma may lie: the bits with `RX_INV` clear, the position of the first in the lane's stream,
counted in bits, and its arrival time in ps (09 R239, R245 to R247). -/
structure AlignBlock where
  block : Nat
  pos : Nat
  time : Nat
  deriving DecidableEq, Repr

/-- A block as a lane releases it, descrambled, with the number of the codeword it lay in, counted from the one in which the lane became
ALIGNED (09 R240, R241). Without FEC the number says nothing. -/
structure XBlock where
  cw : Nat
  bits : Nat
  deriving DecidableEq, Repr

/-- An access to a gallery address as it reaches its target (13 R346, R347): bytes little-endian, made by the Foreman or
not. -/
structure GalAccess where
  addr : Nat
  size : Nat
  write : Bool
  posted : Bool
  data : Nat
  poison : Bool
  src : Nat
  tag : Nat
  foreman : Bool
  deriving DecidableEq, Repr

/-- The stream header, field by field (06 R151). -/
structure StreamHeader where
  magic : Nat
  version : Nat
  hlen : Nat
  kind : Nat
  f : Nat
  k : Nat
  keysel : Nat
  device : Nat
  minstep : Nat
  nmin : Nat
  streamId : Nat
  segments : Nat
  frames : Nat
  length : Nat
  stopes : Nat
  /-- [0] `CLEARMEM`; [7:1] reserved -/
  flags : Nat
  /-- the 640 bits of `SET` -/
  set : Nat
  build : Nat
  /-- a reserved byte is non-zero -/
  reserved : Bool
  deriving DecidableEq, Repr

/-- A segment header (06 R154). -/
structure SegHeader where
  index : Nat
  plen : Nat
  nonce : Nat
  sflags : Nat
  /-- the word at 0x1C, reserved -/
  reserved : Nat
  deriving DecidableEq, Repr

/-- A frame command's header (06 R158). -/
structure IbeusHdr where
  op : Nat
  count : Nat
  addr : Nat
  arg : Nat
  /-- a reserved field is non-zero -/
  reserved : Bool
  deriving DecidableEq, Repr

/-- Who makes an access, as its target can tell (13 R345, 16 R425): the host through the Cage, a Lamp port, the Foreman,
the Winder or loader, a stope port, an engine with its queue port, a crew's hoist, a seam periphery. -/
inductive Master where
  | host
  | lamp
  | foreman
  | control
  | stope (n : Nat)
  | engine (e port : Nat)
  | crew (c : Nat)
  | periphery (seam : Nat)
  deriving DecidableEq, Repr

/-- A PCI Express configuration request, by what it reads or sets (12 R313, R316, R317). -/
inductive ConfigOp where
  | readIds
  | readClass
  | readSubsystem
  | readSerial
  | readBar2Size
  | readOther (offset : Nat)
  | busMaster (on : Bool)
  | msixControl (enable functionMask : Bool)
  | bar2Size (log2Gib : Nat)
  | maxPayload (log2 : Nat)
  | maxRead (log2 : Nat)
  | relaxedOrdering (on : Bool)
  deriving DecidableEq, Repr

/-- A request as its initiator makes it (13 R345 to R347): initiator NI, the engine whose injection point it uses, address,
size, `OP` (0 READ, 1 WRITE, 2 WRITEP), data, poison, and the priority its own chapter asks for. -/
structure GalReq where
  ni : Nat
  engine : Option Nat
  addr : Nat
  size : Nat
  op : Nat
  data : Nat
  poison : Bool
  pri : Nat
  deriving DecidableEq, Repr

/-- A slot of the sample store that could serve a group restore, as a member tells its leader: its tally, its sequence number, and whether
neither `TAINTED` nor `STALE_CFG` is set (11 R300, R308). -/
structure SlotView where
  slot : Nat
  tally : Nat
  seq : Nat
  clean : Bool
  deriving DecidableEq, Repr

/-- A request at a DRAM controller: initiator NI, tag, service class, address, length or write data with byte enables,
and the poison mark of a write (13 R347, 14 R372). -/
structure DramReq where
  src : Nat
  tag : Nat
  pri : Nat
  addr : Nat
  len : Nat
  /-- the bytes of a write; empty for a read -/
  data : List Nat
  be : Nat
  poison : Bool
  posted : Bool
  /-- made by the Foreman (01 R28) -/
  foreman : Bool
  deriving DecidableEq, Repr

/-- What comes back from the DRAM devices beyond what the part stored (14 R380, 15 R397): further symbols in error
(number and value), reserved or `WLEVEL` bits that cannot be right, more than `t` errors taken for another codeword, and
whether the page, decoded cleanly, is not the one the part stored last. And how the channel's scheduler stands at the arrival (14 R373): no
bank it needs can accept a command, and the Gallery cycles since the last arrival on the channel. -/
structure DramView where
  errs : List (Nat × Nat)
  badMeta : Bool
  miscorrect : Bool
  tampered : Bool
  busy : Bool
  cycles : Nat
  deriving DecidableEq, Repr

/-- What the devices give where a command brings nothing: the page as stored, at once. -/
def DramView.plain : DramView := ⟨[], false, false, false, false, 0⟩

/-- What the Foreman finds in a channel's slots (14 R362, R363). -/
structure Population where
  dimms : Nat
  supported : Bool
  same : Bool
  serials : List Nat
  gib : Nat
  rate : Nat
  x8 : Nat
  ranks : Nat
  deriving DecidableEq, Repr

/-- What the check bits find while an engine issues an instruction (16 R419): bit errors in the fetched word and in the
word that its access reads. -/
structure TramView where
  fetchErrs : Nat
  dataErrs : Nat
  deriving DecidableEq, Repr

/-- What a hoist channel has moved when it stops (16 R423, R424): bytes completed in order, the bytes that its reads
returned (FETCH), the 8-byte words of them that were poisoned, and whether an access got an error response. -/
structure HoistEnd where
  bytes : Nat
  data : List Nat
  poison : List Nat
  fail : Bool
  deriving DecidableEq, Repr

/-- An image as the boot ROM or the Foreman reads it (18 R464): the bytes of its header, and SHA-384 over its firmware section and over its
diagnostic section as read. -/
structure ImageView where
  header : List Nat
  fwHash : List Nat
  diagHash : List Nat
  deriving DecidableEq, Repr

/-- A TIME message's payload (19 R497). -/
structure TimeMsg where
  mtime : Nat
  corr : Nat
  hops : Nat
  mseq : Nat
  mlock : Bool
  deriving DecidableEq, Repr

/-- A Lamp port request (20 R505, R511, R512): on LAMP_CLK and LAMP_DIO or on one wire, and its bits in the order sent. -/
structure LampReq where
  two : Bool
  bits : Nat
  deriving DecidableEq, Repr

/-- What a target outside the register windows answers to an access (13 R356, R359): status, data, poison. -/
structure Answer where
  status : Nat
  data : Nat
  poison : Bool
  deriving DecidableEq, Repr

/-- The operand of a loader command whose bytes the loader already holds (06 R164, R165): a header, frames, units or a tag that
EXTENT_READ_DATA brought. The command itself carries nothing of them. -/
inductive Staged where
  | staged
  deriving DecidableEq, Repr

/-- A lane of a port. -/
structure LaneAt where
  port : Nat
  lane : Nat
  deriving DecidableEq, Repr

/-- A control block from its parts (09 R237, R238): the type bit, `CODE`, bits [248:9] and `CCRC`, in codeword `cw`. -/
def XBlock.ofParts (cw kind code fields ccrc : Nat) : XBlock :=
  ⟨cw, kind % 2 + code % 2 ^ 8 * 2 + fields % 2 ^ 240 * 2 ^ 9 + ccrc * 2 ^ 249⟩

/-- The retry timer of a sub-port's oldest frame, or with `nak` that of its last NAK (10 R275). -/
structure RetryTimer where
  sub : Nat
  nak : Bool
  deriving DecidableEq, Repr

/-- The bits that have inverted in the three copies of a scrubber's SB_CTRL since they were last seen (07 R198). -/
structure SbCopies where
  a : Nat
  b : Nat
  c : Nat
  deriving DecidableEq, Repr

/-- A scrubber without a refresh, and the bits that have inverted in its copies. -/
structure SbLost where
  scrubber : Nat
  seen : SbCopies
  deriving DecidableEq, Repr

/-- A message to all (18 R485): its sender, and whether it came from upstream. -/
structure MsgFrom where
  src : Nat
  fromUp : Bool
  deriving DecidableEq, Repr

/-- A message to one part (18 R485): its sender and its destination. -/
structure MsgRoute where
  src : Nat
  dst : Nat
  deriving DecidableEq, Repr

/-- What a member's STATE brings beside the payload of 18 R485: its horizon (08 R223), its slots (11 R300, R308) and its scrub passes (R306). -/
structure MemberHold where
  horizon : Nat
  slots : List SlotView
  passes : Nat
  deriving DecidableEq, Repr

/-- A command of the part. -/
inductive Instr where
  /-- COLD (R13): Power-on brings the whole part, including always-on state, to its cold values and starts the supervisor. -/
  | cold
  /-- VCC_AON_LOSS (R50): Loss of VCC_AON stops the part, which returns only through COLD when VCC_AON comes back. -/
  | vccAonLoss
  /-- REFCLK_WINDOW_END (R42): At the end of a 65,536-cycle REFCLK window the supervisor judges the ring count, counts a failure, enters limp mode after 16 failures or treats a failure after ALIGNED as a loss of ROOT. -/
  | refclkWindowEnd (ringCount : Nat)
  /-- REFCLK_EDGE_TIMEOUT (R42): If 8 ring cycles pass without a REFCLK rising edge, the window count restarts, and after ALIGNED the window counts as failed. -/
  | refclkEdgeTimeout
  /-- ROOT_LOCK (R43): The root PLL reports lock and the ROOT dividers are released on a common edge. -/
  | rootLock
  /-- LOCK_TIMEOUT (R43): If the root PLL has not locked 1 ms after enable, the supervisor counts the failure and retries, and after three failures it sets ROOT_FAIL and enters limp mode. -/
  | lockTimeout
  /-- ALIGNED (R45): At the first alignment point after release ALIGNED sets and the Foreman clock switch to ROOT/12 begins. -/
  | aligned
  /-- CLOCK_SWITCH_DONE (R47): The Foreman clock mux starts the new clock at its low phase and FM_CLK_SRC follows. -/
  | clockSwitchDone
  /-- SWITCH_HANG (R48): A clock switch unfinished after 256 ring cycles is forced, the Foreman domain is held in reset, and HANG_COUNT and SWITCH_HANG are set. -/
  | switchHang
  /-- FOREMAN_RESET_RELEASE (R48): After 64 cycles of the new clock the Foreman domain leaves reset and boots again from flash. -/
  | foremanResetRelease
  /-- ROOT_LOST (R49): Loss of root PLL lock after ALIGNED gates the ROOT clocks, moves the Foreman to the ring, issues a WARM with cause ROOT_LOST and restarts from the REFCLK window. -/
  | rootLost
  /-- RAIL_LOST (R50): A rail other than VCC_AON that leaves its good window causes a WARM with cause RAIL and holds the part in reset. -/
  | railLost (rail : Nat)
  /-- RAIL_GOOD (R50): Once every rail has been good for 1 ms, the supervisor restarts from the REFCLK stability window. -/
  | railGood
  /-- RETRY (R51): A Foreman write of RETRY in limp mode restarts the clock bring-up from R42. -/
  | retry (byForeman : Bool)
  /-- PHASE_DIV_WRITE (R46): A write to CK_PHASE_DIV is accepted while the Winder is stopped and N is in range, and otherwise sets DIV_ERR. -/
  | phaseDivWrite (n : Nat)
  /-- PHASE_DIV_APPLY (R46): An accepted divider value takes effect at the next multiple of LCM(48, n) ROOT cycles and PHASE_DIV_CUR changes. -/
  | phaseDivApply
  /-- CLOCK_GATE (R53): A unit that has met its class's idle condition has its clock gated. -/
  | clockGate (cls unit : Nat)
  /-- PERST_ASSERT (R13): Assertion of PERST# starts a WARM. -/
  | perstAssert
  /-- WARM_REQ (R54): A write to CK_RESET_CTRL with KEY 0x5A5A and WARM_REQ = 1 starts a WARM. -/
  | warmReq (key : Nat) (req : Bool)
  /-- WARM_HOLD_END (R58): After the 1 µs reset hold the domains are released and the Foreman reboots from flash. -/
  | warmHoldEnd
  /-- STOPE_RESET_REQ (R55): A write of GO to CK_STOPE_RST requests a STOPE reset, which is refused, merged or accepted. -/
  | stopeResetReq (stope : Nat)
  /-- STOPE_RESET_LINE_HIGH (R57): Once the stope-port accesses accepted before the request have completed, the stope reset line rises and the state files load their init values. -/
  | stopeResetLineHigh
  /-- STOPE_RESET_END (R57): After 96 Gallery cycles the stope reset line falls and STOPE_BUSY clears. -/
  | stopeResetEnd
  /-- ENGINE_RESET_REQ (R56): A write of GO to CK_ENGINE_RST requests an ENGINE reset, which is refused, merged or accepted. -/
  | engineResetReq (engine : Nat)
  /-- ENGINE_RESET_DONE (R438): 65 Tram cycles after acceptance the engine's registers hold their cold values and it enters HELD with IMEM_STALE set. -/
  | engineResetDone
  /-- STOPE_POWER_DOWN (R61): Clearing a stope's bit in CK_STOPE_PWR powers it down unless refused. -/
  | stopePowerDown (stope : Nat)
  /-- STOPE_POWER_UP (R61): Setting a stope's bit in CK_STOPE_PWR starts its power-up. -/
  | stopePowerUp (stope : Nat)
  /-- STOPE_POWER_UP_DONE (R61): The powered-up stope reports in CK_STOPE_PWR_STAT, has memory repairs applied and returns unconfigured. -/
  | stopePowerUpDone (stope : Nat)
  /-- CREW_POWER_DOWN (R62): Clearing a crew's bit in CK_CREW_PWR powers it down if all its engines are HELD or in RESET, clearing its ready bit. -/
  | crewPowerDown (crew : Nat)
  /-- CREW_POWER_UP (R62): Setting a crew's bit in CK_CREW_PWR starts its power-up. -/
  | crewPowerUp (crew : Nat)
  /-- CREW_POWER_UP_DONE (R62): The Foreman clears the crew's memories, applies fuse repair and sets the crew's ready bit. -/
  | crewPowerUpDone (crew : Nat)
  /-- STROKE_START (R211): When the run gate passes, the Winder begins phase 0 of the next stroke. -/
  | strokeStart
  /-- ACTIVE_PHASE (R83): On each active phase-clock edge, routing pipeline registers capture and pending port requests execute. -/
  | activePhase
  /-- SLOT_END (R82): On the edge that ends a slot, the context's PHASE bits and USER staging latches capture. -/
  | slotEnd
  /-- HOLD_PHASE (R85): The Winder inserts a hold phase in which nothing captures. -/
  | holdPhase
  /-- STROKE_BOUNDARY (R86): At the boundary slot F minus 1 captures, USER bits commit, the tally rises and the Winder broadcasts context, phase and edge vector. -/
  | strokeBoundary
  /-- COLUMN_REPAIR (R202): A write of GO to ST_REPAIR requests a spare column switch-in, refused unless the stope is isolated or unconfigured and the position is new. -/
  | columnRepair (stope pos : Nat)
  /-- REFILL_DONE (R203): The seam path finishes rewriting frames 0 to 4,319 from the shadow and the stope returns to its earlier state. -/
  | refillDone (stope : Nat)
  /-- REFILL_SHADOW_ERROR (R203): A failed shadow read during re-fill leaves the stope unconfigured with FRAME_LOST set. -/
  | refillShadowError (stope : Nat)
  /-- TREE_SRC_WRITE (R107): A write of SRC to ST_TREE_CTRL starts a clock source switch or is refused with SRC_ERR. -/
  | treeSrcWrite (stope src : Nat)
  /-- TREE_SWITCH_DONE (R107): The regional source mux starts the new source and SWITCHING clears. -/
  | treeSwitchDone (stope : Nat)
  /-- TREE_SWITCH_HANG (R108): A switch not done 64 Gallery cycles after the write is forced, HANG sets and captures stay disabled. -/
  | treeSwitchHang (stope : Nat)
  /-- TREE_STEP (R109): A write of GO to ST_TREE_STEP makes one phase pulse in a stepped stope, or sets STEP_ERR. -/
  | treeStep (stope : Nat) (go : Bool)
  /-- ECC_WRITEBACK (R129): A corrected bin or sump unit is written back in the next free port phase. -/
  | eccWriteback (stope mem unit : Nat)
  /-- SWEEP_STEP (R131): Every 16 x SWEEP_INT phase clocks the sweeper reads one unit of each memory and corrects or reports errors. -/
  | sweepStep (stope : Nat)
  /-- COPY_STARVED (R131): A copy that finds no free phase for 16 strokes makes the stope request one hold phase. -/
  | copyStarved (stope mem : Nat)
  /-- MEM_INJECT_ARM (R132): A write of INJ_ARM arms injection of a bit error into the next write to the chosen memory. -/
  | memInjectArm (stope mem : Nat) (double : Bool)
  /-- BIN_QUEUE_MOVE (R133): The bin queue controller moves one word per phase clock on port B between the bin and its Cage queue. -/
  | binQueueMove (stope bin : Nat)
  /-- LEVEL_IRQ_RESPONSE (R136): The response to a level interrupt write arrives, setting WRITE_FAIL on error. -/
  | levelIrqResponse (stope bin : Nat) (error : Bool)
  /-- CORER_COPY_UNIT (R140): The Corer's copy reads the next unjournalled unit and advances the copy pointer, disarming the memory at the end. -/
  | corerCopyUnit (stope mem : Nat) (error : Bool)
  /-- JOURNAL_STORE (R289): The Corer stores a journal entry at its unit's place in the memory area. -/
  | journalStore (stope mem : Nat) (error : Bool)
  /-- START (R166): A write of START to CF_LD_CTRL begins a load from the extent FIFO, or sets START_ERR outside IDLE. -/
  | start (byForeman : Bool)
  /-- ABORT (R166): A write of ABORT to CF_LD_CTRL aborts the load in progress with ABORT. -/
  | abort
  /-- EXTENT_PUSH (R164): A write to CF_EXT_LEN pushes one extent, or is refused with EXT_ERR. -/
  | extentPush (len space : Nat) (last byForeman : Bool)
  /-- EXTENT_READ_DATA (R164): Source data of an extent arrives, or a source error aborts the load with SOURCE. -/
  | extentReadData (data : List Nat) (error : Bool)
  /-- STREAM_HEADER (R153): The loader checks the stream header and on acceptance clears the configuration of the stopes in its set. -/
  | streamHeader (h : Staged)
  /-- SEGMENT_HEADER (R154): The loader checks a segment header and derives the segment key. -/
  | segmentHeader (h : Staged)
  /-- SEGMENT_TAG_CHECK (R156): The loader verifies a segment's GCM tag, releasing its plaintext or aborting with AUTH. -/
  | segmentTagCheck (tag : Staged)
  /-- NOP (R159): An Ibeus NOP command skips its data. -/
  | nop (h : Staged)
  /-- WRITE (R160): An Ibeus WRITE command checks and dispatches frames to its seam path. -/
  | write (h frames : Staged)
  /-- MEMINIT (R162): An Ibeus MEMINIT command writes initial contents into a bin or sump. -/
  | meminit (h units : Staged)
  /-- END (R163): An Ibeus END command is checked and moves the loader to FINISHING. -/
  | ibeusEnd (h : Staged)
  /-- FRAME_WRITTEN (R165): A seam path writes a decoded frame with fresh check bits and the loader issues its shadow writes. -/
  | frameWritten (seam : Nat)
  /-- SHADOW_WRITE_ACK (R172): A frame-shadow write is acknowledged, or its error aborts the load with SHADOW. -/
  | shadowWriteAck (error : Bool)
  /-- LOAD_COMPLETE (R168): Once END is accepted and all shadow writes are acknowledged, the loader sets fold settings and INIT values and marks the stopes configured. -/
  | loadComplete
  /-- ABORT_DONE (R169): The abort finishes: the set's stopes are unconfigured, ERR and the error offset recorded and FAILED set. -/
  | abortDone
  /-- LOAD_DEADLINE (R175): The load deadline timer expires with no FULL load done, aborting any host load and starting the diagnostic load. -/
  | loadDeadline
  /-- DIAG_SECTION_CHECK (R176): The Foreman checks a diagnostic section against DIAG_DIGEST and pushes its FLASH extents, or tries the other image. -/
  | diagSectionCheck (good : Bool) (ofs len : Nat)
  /-- READBACK (R174): A write of GO to CF_RB_CTRL requests readback of one frame, or sets RB_ERR. -/
  | readback (seam faddr : Nat)
  /-- READBACK_DONE (R174): The path places the frame's words in CF_RB_DATA and clears BUSY. -/
  | readbackDone (seam : Nat)
  /-- ISOLATE (R184): A write of ISOLATE to ST_ISO requests isolation of the stope. -/
  | isolate (stope : Nat) (release : Bool)
  /-- RELEASE (R184): A write of RELEASE to ST_ISO requests release of the stope. -/
  | release (stope : Nat) (isolate : Bool)
  /-- ISO_EFFECT (R186): A pending isolation or release takes effect at a boundary or, with the Winder stopped, within 64 Gallery cycles. -/
  | isoEffect (stope : Nat)
  /-- STOPE_PORT_RESPONSE (R183): A response to a stope-port master transaction arrives and is held for presentation at its consumer slot. -/
  | stopePortResponse (stope tag status data : Nat) (poison : Bool)
  /-- STOPE_PORT_TARGET_ACCESS (R561): An access to a stope-port range is accepted into the target request register or refused with an error. -/
  | stopePortTargetAccess (a : GalAccess)
  /-- SCRUB_FRAME_READ (R190): Every INTERVAL Gallery cycles a scrubber reads a frame, decodes it and corrects words or starts a shadow repair. -/
  | scrubFrameRead (scrubber : Nat) (upsets : List (Nat × Nat)) (reread reject : Bool)
  /-- SHADOW_REPAIR_READ (R192): The shadow copy of a frame arrives and the scrubber rewrites the frame, or sets FRAME_LOST on error. -/
  | shadowRepairRead (scrubber : Nat) (error reject : Bool)
  /-- SPOIL_CLEAR (R205): A write of 1 to SPOIL in ST_SPOIL clears the flag and its cause bits. -/
  | spoilClear (stope : Nat)
  /-- SB_CTRL_REFRESH (R198): Every 1 ms the Foreman rewrites the three SB_CTRL copies, counting disagreements. -/
  | sbCtrlRefresh (scrubber : Nat) (seen : SbCopies)
  /-- REFRESH_LOST (R198): No control refresh for 8 ms sets REFRESH_LOST. -/
  | refreshLost (lost : SbLost)
  /-- PEER_FAULT_RESTART (R200): The Foreman logs a peer fault, restarts the faulty scrubber and the checker may take over its half. -/
  | peerFaultRestart (scrubber : Nat)
  /-- SCRUB_ENABLE (R206): A change of EN in SB_CTRL from 0 to 1 starts a new scrub pass. -/
  | scrubEnable (scrubber value : Nat)
  /-- SCRUB_INJECT (R206): A write of GO to SB_INJ inverts the chosen bits of a stored configuration word, or sets INJ_ERR. -/
  | scrubInject (scrubber value : Nat)
  /-- RUN (R225): The leader checks the members and starts the group running under grants. -/
  | run (arg : Nat) (stopes replayTrig : Bool)
  /-- STOP_AT (R225): STOP-AT schedules a group STOP, or runs a stopped group to T. -/
  | stopAt (arg : Nat) (stopes replayTrig : Bool)
  /-- STEP (R225): STEP runs a stopped group for N strokes. -/
  | step (arg : Nat) (stopes replayTrig : Bool)
  /-- SAMPLE (R225): SAMPLE schedules a sample at H_g, or takes it at once on a stopped group. -/
  | sample (arg : Nat) (stopes replayTrig : Bool)
  /-- BACKFILL (R225): BACKFILL restores a sample on every member, or with STOPES into this part's isolated stopes. -/
  | backfill (arg : Nat) (stopes replayTrig : Bool)
  /-- REWIND (R225): REWIND stops the group if needed, restores a sample and arms replay. -/
  | rewind (arg : Nat) (stopes replayTrig : Bool)
  /-- REPLAY (R225): REPLAY runs an armed replay and stops at T. -/
  | replay (arg : Nat) (stopes replayTrig : Bool)
  /-- GROUP_STALL (R224): A running member whose tally has not changed for STALL_LIMIT ms sets GROUP_STALL and raises the GROUP source. -/
  | groupStall
  /-- SAMPLE_COPY_OUT (R287): At a SAMPLE boundary, once ready and acknowledged, the member runs COPY-OUT, arms memories, starts its Corers and notifies engines. -/
  | sampleCopyOut
  /-- CORER_DRAIN_FRAME (R288): Every FRAME_INT Gallery cycles a Corer reads a shadow frame and writes it to the shadow area, ending the drain after the last. -/
  | corerDrainFrame (seam : Nat) (uncorrectable storeError : Bool)
  /-- SAMPLE_COMPLETE (R290): When the readiness conditions hold the sample's slot becomes VALID. -/
  | sampleComplete
  /-- ENG_LIMIT_EXPIRY (R290): An engine that has not acknowledged within ENG_LIMIT fails the sample with ENGINE. -/
  | engLimitExpiry
  /-- ENGINE_ACK (R299): A write to WD_SMP_ENG_ACK acknowledges an engine's pending notice. -/
  | engineAck (mask : Nat)
  /-- RESTORE_DONE (R301): Once the page journal is applied and shadows, memories, histories and queue state are written, the member runs COPY-IN and completes the restore. -/
  | restoreDone (error : Bool)
  /-- STOPE_BACKFILL_DONE (R302): The Corer finishes a STOPES restore into the named isolated stopes with one COPY-IN pulse. -/
  | stopeBackfillDone (seam : Nat)
  /-- XC_PORT_CTRL_WRITE (R256): A write to XC_PORT_CTRL sets split, rates and FEC and enables or disables sub-ports, or sets CFG_ERR. -/
  | xcPortCtrlWrite (port value : Nat)
  /-- LANE_PLL_LOCK (R236): A port's lane PLL locks. -/
  | lanePllLock (port : Nat)
  /-- LOS (R244): The input stays below 60 mVppd for 100 ns and the receiver enters CDR. -/
  | los (port lane : Nat)
  /-- CDR_LOCK (R244): The receiver's CDR locks and the lane enters SEARCH. -/
  | cdrLock (port lane : Nat)
  /-- CDR_LOCK_LOST (R243): The receiver loses CDR lock and returns to CDR. -/
  | cdrLockLost (port lane : Nat)
  /-- FEC_CODEWORD (R240): A received codeword is decoded and its 20 blocks released, marked errored if uncorrectable. -/
  | fecCodeword (port lane : Nat) (early late check : List Nat)
  /-- ALIGNMENT_BLOCK (R245): At the expected alignment position the receiver counts a comma seen or missed, aligns or returns to SEARCH. -/
  | alignmentBlock (port lane : Nat) (b : AlignBlock)
  /-- SLIP (R246): A write to XC_LANE_SLIP moves the block boundary in manual alignment, or sets SLIP_ERR. -/
  | slip (port lane bits : Nat)
  /-- TX_SLEEP (R249): A change of TX_SLEEP starts transmitter sleep entry or wake. -/
  | txSleep (port lane : Nat) (v : Bool)
  /-- TX_SLEEP_ENTERED (R249): After the group in hand and one group of SLEEP blocks, the transmitter enters electrical idle. -/
  | txSleepEntered (port lane : Nat)
  /-- TX_WAKE_DONE (R249): The woken driver is on and the transmitter restarts at a new alignment period. -/
  | txWakeDone (port lane : Nat)
  /-- RX_SLEEP (R250): A change of RX_SLEEP puts the receiver to sleep or restarts it from CDR. -/
  | rxSleep (port lane : Nat) (v : Bool)
  /-- SLEEP_BLOCK (R249): A received SLEEP block sets PEER_SLEEP and moves the receiver to CDR. -/
  | sleepBlock (at_ : LaneAt) (b : XBlock)
  /-- TEST_WRITE (R255): A write of TEST selects a lane test mode while its sub-port is disabled, or sets LANE_CFG_ERR. -/
  | testWrite (port lane value : Nat)
  /-- TXEQ_WRITE (R257): A write to XC_LANE_TXEQ sets the transmit equaliser, or sets EQ_ERR. -/
  | txeqWrite (port lane value : Nat)
  /-- EYE_SCAN_GO (R254): A write of GO to XC_LANE_EYE_CTRL starts an eye scan, or sets EYE_ERR. -/
  | eyeScanGo (port lane phase voff eye dwell : Nat)
  /-- EYE_SCAN_DONE (R253): After 2^DWELL_LOG2 UI the scan stops and sets VALID. -/
  | eyeScanDone (port lane errors : Nat)
  /-- GATE (R268): A write of GATE_x gates a sub-port for cut nets, or is refused with XP_CFG_ERR. -/
  | gate (port half : Nat) (v : Bool)
  /-- STREAM_MAP_WRITE (R267): A write to a stream or map entry is taken only while allowed, else sets XP_CFG_ERR. -/
  | streamMapWrite (port off value : Nat)
  /-- ALT_WRITE (R281): A write of ALT_A or ALT_B sets a stand-in half, or is refused. -/
  | altWrite (port half : Nat) (v : Bool)
  /-- STROKE_FRAME (R274): A received stroke frame is checked, acknowledged or NAKed, and delivered or forwarded. -/
  | strokeFrame (port half : Nat) (header : XBlock) (data : List XBlock)
  /-- ACK (R275): A received cumulative acknowledgement frees the sender's covered replay slots. -/
  | ack (at_ : LaneAt) (b : XBlock)
  /-- NAK (R275): A received NAK makes the sender resend every unacknowledged frame from NEXT. -/
  | nak (at_ : LaneAt) (b : XBlock)
  /-- ACK_TIMER (R275): If no frame header goes out within 32 Gallery cycles of an acceptance, an ACK block is sent. -/
  | ackTimer (sub : Nat)
  /-- RESEND_TIMEOUT (R275): An oldest unacknowledged frame not acknowledged within RTO is resent with those after it. -/
  | resendTimeout (timer : RetryTimer)
  /-- SYNC (R280): A received SYNC block with matching RCNT synchronises the sub-port and triggers resend from NEXT. -/
  | sync (port lane cw kind code fields ccrc : Nat)
  /-- SYNC_TIMER (R280): An unsynced sub-port sends SYNC every 1 µs. -/
  | syncTimer (sub : Nat)
  /-- FAILOVER (R283): A gated half down for FAILOVER x 10 µs with a stand-in has its role moved to the stand-in. -/
  | failover (port half : Nat)
  /-- PERST_RELEASE (R317): Release of PERST# starts link training on fuse settings. -/
  | perstRelease
  /-- CONFIG_REQUEST (R317): A PCIe configuration request is answered, with Request Retry Status until BASE_DONE. -/
  | configRequest (op : ConfigOp)
  /-- BASE_TIMEOUT (R317): At 900 ms without BASE_DONE the Cage applies fuse defaults and sets BASE_DONE and BASE_LATE. -/
  | baseTimeout
  /-- HOST_MEMORY_REQUEST (R318): A host memory TLP on BAR0 or BAR2 is split into Gallery accesses and completed. -/
  | hostMemoryRequest (bar ofs len : Nat) (write : Bool) (data : List Nat) (poison : Bool) (answers : List Answer)
  /-- LINK_DOWN (R319): A link-down event clears BME, drops DMA reads and halts active queues with cause LINK. -/
  | linkDown
  /-- DMA_TURN (R321): The DMA engine serves the next queue or loader extent with work, moving one packet or 4 KiB. -/
  | dmaTurn (corrected : Nat) (uncorrectable : Bool)
  /-- DMA_COMPLETION (R321): A DMA read completion arrives, filling lines or halting the queue with HOSTERR. -/
  | dmaCompletion (queue status : Nat) (data : List Nat) (poison : Bool)
  /-- QUEUE_ENABLE (R325): CMD ENABLE activates a queue, or is refused with CFG_ERR. -/
  | queueEnable (queue value : Nat)
  /-- QUEUE_STOP (R326): CMD STOP drains the queue and then disables it. -/
  | queueStop (queue value : Nat)
  /-- QUEUE_ABORT (R326): CMD ABORT discards the queue's banks and spill ring and disables it. -/
  | queueAbort (queue value : Nat)
  /-- QU_PUSH (R338): A write to QU_PUSH appends a word to the open up packet, or is refused and dropped. -/
  | quPush (queue : Nat) (m : Master) (size word tag : Nat) (posted poison : Bool)
  /-- QU_PUSH_LAST (R338): A write to QU_PUSH_LAST appends a word and closes the packet. -/
  | quPushLast (queue : Nat) (m : Master) (size word tag : Nat) (posted poison : Bool)
  /-- QU_POP (R338): A read of QU_POP takes the next word of the oldest closed down packet, or is refused. -/
  | quPop (queue : Nat) (m : Master) (size tag : Nat) (peek : Bool)
  /-- QU_DOORBELL (R336): A doorbell names the next down packet, which is fetched or closed in the fill bank, or is dropped with DB_OVF. -/
  | quDoorbell (queue len : Nat)
  /-- DOORBELL_FLIP (R337): A DIRECT doorbell with FLIP closes the fill bank for a swap. -/
  | doorbellFlip (queue len : Nat)
  /-- BANK_SWAP (R332): With the drain bank and spill ring empty, a fill bank holding a closed packet or full becomes the drain bank. -/
  | bankSwap (queue : Nat)
  /-- SPILL_DONE (R332): A full fill bank's copy to the spill ring completes and the bank fills again. -/
  | spillDone (queue : Nat) (error : Bool)
  /-- COPY_BACK_DONE (R332): The oldest spill entry has been copied back into the empty drain bank. -/
  | copyBackDone (queue : Nat) (error : Bool)
  /-- NOTICE_WRITE (R334): After a packet's last line and length word reach the host, the Cage writes its notice. -/
  | noticeWrite (queue : Nat)
  /-- COALESCE_TIMER (R335): COAL_TIME after the oldest unsignalled notice, the queue requests an MSI-X message. -/
  | coalesceTimer (queue : Nat)
  /-- MSIX_GAP_END (R335): At the end of a vector's GAP, merged requests go out as one message. -/
  | msixGapEnd (vector : Nat)
  /-- MSIX_UNMASK (R335): Unmasking a vector with its pending bit set sends the message. -/
  | msixUnmask (vector : Nat)
  /-- BIN_LINK_WRITE (R323): A word-run write between the queue engine and a bin queue controller arrives, or its error halts the queue with BINLINK. -/
  | binLinkWrite (stope bin : Nat) (error : Bool)
  /-- GALLERY_REQUEST (R345): An initiator NI decodes and routes a request, answering no-window, NOROUTE or SIZE errors itself. -/
  | galleryRequest (r : GalReq)
  /-- PACKET_HOP (R349): A switch checks a packet's flits and moves it by its route fields. -/
  | packetHop (index corrected upset : Nat) (headerUe dataUe : Bool)
  /-- GALLERY_RESPONSE (R356): A response reaches its initiator NI and is matched by TAG, or discarded as late. -/
  | galleryResponse (ni tag status data : Nat) (poison : Bool)
  /-- GALLERY_TIMEOUT (R360): A non-posted request with no response after TIMEOUT gets a made-up TIMEOUT response. -/
  | galleryTimeout (ni tag : Nat)
  /-- TAG_RELEASE (R360): A timed-out tag returns to use after 16 x TIMEOUT. -/
  | tagRelease (ni tag : Nat)
  /-- ROUTE_WRITE (R350): A write to a route entry applies from the next cycle, or is refused with CFG_ERR. -/
  | routeWrite (ni dest value : Nat)
  /-- REGULATOR_REFILL (R355): Every 64 Gallery cycles a regulator adds RATE flits to its bucket. -/
  | regulatorRefill (point : Nat)
  /-- AGE_PROMOTION (R354): A packet at an input head for AGE_LIMIT cycles is promoted to priority 3. -/
  | agePromotion (index : Nat)
  /-- CHANNEL_TRAIN (R365): An admitted channel enters TRAINING, applies a stored set or trains fully, and repairs rows. -/
  | channelTrain (chan : Nat) (p : Population)
  /-- TRAINING_DONE (R365): A channel's training ends, entering READY or HELD_OUT. -/
  | trainingDone (chan : Nat) (storedOk fullOk : Bool) (failStep ms : Nat) (repairs : List (Nat × Nat))
  /-- AREA (R370): The Foreman places the device regions at the top of installed memory and writes their registers. -/
  | area
  /-- REPLAN (R371): A write of REPLAN re-places the device area, or sets REPLAN_ERR. -/
  | replan
  /-- DRAM_READ (R380): A DRAM read is decoded by the page code, tag-checked and answered, with poison for bad pages. -/
  | dramRead (r : DramReq) (v : DramView)
  /-- DRAM_WRITE (R372): A DRAM write enters the write queue and is acknowledged, then stored with encryption and page code. -/
  | dramWrite (r : DramReq) (v : DramView)
  /-- WC_TIMEOUT (R374): A combiner half whose wait ends alone completes as a partial write. -/
  | wcTimeout (chan page : Nat) (v : DramView)
  /-- REFRESH_DUE (R375): A rank's refresh falls due and is issued or postponed. -/
  | refreshDue (chan rank : Nat) (busy : Bool)
  /-- DRAM_WRITEBACK (R384): A queued corrected-page write-back rewrites the page unless a write overtook it. -/
  | dramWriteback (page : Nat)
  /-- FILL_COMPLETE (R385): A block's zero fill ends, its fresh bit sets and its tracker frees. -/
  | fillComplete (chan block : Nat)
  /-- FLIP_ARM (R386): Setting ARM arms the flip mask to corrupt the next qualifying write. -/
  | flipArm (chan value : Nat)
  /-- RANGE_ENABLE (R394): CMD ENABLE to EN_RANGE_CTRL starts protection of a range, or sets RANGE_ERR. -/
  | rangeEnable (key : Nat)
  /-- RANGE_ENABLE_DONE (R394): The range's blocks are cleared, root counters zeroed and STATE becomes ON. -/
  | rangeEnableDone (key : Nat)
  /-- RANGE_RETIRE (R395): CMD RETIRE holds the range's accesses and begins draining it. -/
  | rangeRetire (key : Nat)
  /-- RANGE_RETIRE_DONE (R395): Once drained, the key id's cache entries and slot are cleared and STATE becomes OFF. -/
  | rangeRetireDone (key : Nat)
  /-- NODE_FETCH_DONE (R401): A counter node arrives and is tag-checked against its parent's counter. -/
  | nodeFetchDone (v : DramView)
  /-- ADD (R445): Tram ADD. -/
  | add (engine : Nat) (v : TramView)
  /-- SUB (R445): Tram SUB. -/
  | sub (engine : Nat) (v : TramView)
  /-- AND (R445): Tram AND. -/
  | and (engine : Nat) (v : TramView)
  /-- OR (R445): Tram OR. -/
  | or (engine : Nat) (v : TramView)
  /-- XOR (R445): Tram XOR. -/
  | xor (engine : Nat) (v : TramView)
  /-- ANDN (R445): Tram ANDN. -/
  | andn (engine : Nat) (v : TramView)
  /-- CMPLT (R445): Tram signed compare. -/
  | cmplt (engine : Nat) (v : TramView)
  /-- CMPLTU (R445): Tram unsigned compare. -/
  | cmpltu (engine : Nat) (v : TramView)
  /-- SHL (R445): Tram shift left by register. -/
  | shl (engine : Nat) (v : TramView)
  /-- SHR (R445): Tram logical shift right by register. -/
  | shr (engine : Nat) (v : TramView)
  /-- SAR (R445): Tram arithmetic shift right by register. -/
  | sar (engine : Nat) (v : TramView)
  /-- SHLI (R445): Tram shift left by immediate. -/
  | shli (engine : Nat) (v : TramView)
  /-- SHRI (R445): Tram logical shift right by immediate. -/
  | shri (engine : Nat) (v : TramView)
  /-- SARI (R445): Tram arithmetic shift right by immediate. -/
  | sari (engine : Nat) (v : TramView)
  /-- MUL (R445): Tram 32-bit multiply, low word. -/
  | mul (engine : Nat) (v : TramView)
  /-- MULHS (R445): Tram signed multiply, high word. -/
  | mulhs (engine : Nat) (v : TramView)
  /-- MULHU (R445): Tram unsigned multiply, high word. -/
  | mulhu (engine : Nat) (v : TramView)
  /-- MIN (R445): Tram signed minimum. -/
  | min (engine : Nat) (v : TramView)
  /-- MAX (R445): Tram signed maximum. -/
  | max (engine : Nat) (v : TramView)
  /-- ABS (R445): Tram absolute value. -/
  | abs (engine : Nat) (v : TramView)
  /-- CLZ (R445): Tram count leading zeros. -/
  | clz (engine : Nat) (v : TramView)
  /-- JMP (R451): Tram jump to register. -/
  | jmp (engine : Nat) (v : TramView)
  /-- CALLR (R451): Tram call through register with link. -/
  | callr (engine : Nat) (v : TramView)
  /-- ADDC (R447): Tram add immediate. -/
  | addc (engine : Nat) (v : TramView)
  /-- CMPLTC (R447): Tram signed compare with immediate. -/
  | cmpltc (engine : Nat) (v : TramView)
  /-- CMPLTUC (R447): Tram unsigned compare with immediate. -/
  | cmpltuc (engine : Nat) (v : TramView)
  /-- ANDC (R447): Tram AND with immediate. -/
  | andc (engine : Nat) (v : TramView)
  /-- ORC (R447): Tram OR with immediate. -/
  | orc (engine : Nat) (v : TramView)
  /-- XORC (R447): Tram XOR with immediate. -/
  | xorc (engine : Nat) (v : TramView)
  /-- MOVH (R447): Tram move immediate to the high half. -/
  | movh (engine : Nat) (v : TramView)
  /-- LD_B (R448): Tram sign-extending byte load. -/
  | ldB (engine : Nat) (v : TramView)
  /-- LD_BU (R448): Tram zero-extending byte load. -/
  | ldBu (engine : Nat) (v : TramView)
  /-- LD_H (R448): Tram sign-extending half-word load. -/
  | ldH (engine : Nat) (v : TramView)
  /-- LD_HU (R448): Tram zero-extending half-word load. -/
  | ldHu (engine : Nat) (v : TramView)
  /-- LD_W (R448): Tram word load. -/
  | ldW (engine : Nat) (v : TramView)
  /-- LD_P (R448): Tram register-pair load. -/
  | ldP (engine : Nat) (v : TramView)
  /-- LDR_W (R450): Tram load-locked word, setting the reservation. -/
  | ldrW (engine : Nat) (v : TramView)
  /-- LDR_P (R450): Tram load-locked pair, setting the reservation. -/
  | ldrP (engine : Nat) (v : TramView)
  /-- ST_B (R448): Tram byte store. -/
  | stB (engine : Nat) (v : TramView)
  /-- ST_H (R448): Tram half-word store. -/
  | stH (engine : Nat) (v : TramView)
  /-- ST_W (R448): Tram word store. -/
  | stW (engine : Nat) (v : TramView)
  /-- ST_P (R448): Tram pair store. -/
  | stP (engine : Nat) (v : TramView)
  /-- STS_W (R448): Tram sync word store, non-posted through an aperture. -/
  | stsW (engine : Nat) (v : TramView)
  /-- STS_P (R448): Tram sync pair store. -/
  | stsP (engine : Nat) (v : TramView)
  /-- STC_W (R450): Tram store-conditional word. -/
  | stcW (engine : Nat) (v : TramView)
  /-- STC_P (R450): Tram store-conditional pair. -/
  | stcP (engine : Nat) (v : TramView)
  /-- LDK (R449): Tram load through a circular pointer, updating the pointer. -/
  | ldk (engine : Nat) (v : TramView)
  /-- STK (R449): Tram store through a circular pointer, updating the pointer. -/
  | stk (engine : Nat) (v : TramView)
  /-- BR_EQ (R451): Tram branch if equal. -/
  | brEq (engine : Nat) (v : TramView)
  /-- BR_NE (R451): Tram branch if not equal. -/
  | brNe (engine : Nat) (v : TramView)
  /-- BR_LT (R451): Tram branch if signed less. -/
  | brLt (engine : Nat) (v : TramView)
  /-- BR_GE (R451): Tram branch if signed greater or equal. -/
  | brGe (engine : Nat) (v : TramView)
  /-- BR_LTU (R451): Tram branch if unsigned less. -/
  | brLtu (engine : Nat) (v : TramView)
  /-- BR_GEU (R451): Tram branch if unsigned greater or equal. -/
  | brGeu (engine : Nat) (v : TramView)
  /-- GO (R451): Tram absolute jump to an instruction index. -/
  | go (engine : Nat) (v : TramView)
  /-- CALL (R451): Tram call to an instruction index with link in g30. -/
  | call (engine : Nat) (v : TramView)
  /-- REP (R453): Tram repeat block with immediate count. -/
  | rep (engine : Nat) (v : TramView)
  /-- REPR (R453): Tram repeat block with count from a register. -/
  | repr (engine : Nat) (v : TramView)
  /-- MAC2 (R454): Tram dual multiply-accumulate. -/
  | mac2 (engine : Nat) (v : TramView)
  /-- MSU2 (R454): Tram dual multiply-subtract. -/
  | msu2 (engine : Nat) (v : TramView)
  /-- MACX (R454): Tram crossed dual multiply-accumulate. -/
  | macx (engine : Nat) (v : TramView)
  /-- MUL2 (R454): Tram dual multiply into an accumulator. -/
  | mul2 (engine : Nat) (v : TramView)
  /-- MAC1 (R454): Tram single multiply-accumulate. -/
  | mac1 (engine : Nat) (v : TramView)
  /-- MACR (R454): Tram real-part complex multiply-accumulate. -/
  | macr (engine : Nat) (v : TramView)
  /-- MFA (R454): Tram move from accumulator with shift, rounding and saturation. -/
  | mfa (engine : Nat) (v : TramView)
  /-- MTA (R454): Tram move shifted register to an accumulator. -/
  | mta (engine : Nat) (v : TramView)
  /-- ACLR (R454): Tram clear an accumulator. -/
  | aclr (engine : Nat) (v : TramView)
  /-- AADD (R454): Tram add accumulators. -/
  | aadd (engine : Nat) (v : TramView)
  /-- ASR (R454): Tram arithmetic shift of an accumulator. -/
  | asr (engine : Nat) (v : TramView)
  /-- MFAH (R454): Tram read accumulator high bits. -/
  | mfah (engine : Nat) (v : TramView)
  /-- MTAL (R454): Tram write accumulator low word. -/
  | mtal (engine : Nat) (v : TramView)
  /-- MTAM (R454): Tram write accumulator middle word. -/
  | mtam (engine : Nat) (v : TramView)
  /-- MTAH (R454): Tram write accumulator high bits. -/
  | mtah (engine : Nat) (v : TramView)
  /-- QPUSH (R456): Tram push a word to a bound queue. -/
  | qpush (engine : Nat) (v : TramView)
  /-- QPUSHL (R456): Tram push a word and close the packet. -/
  | qpushl (engine : Nat) (v : TramView)
  /-- QPOP (R456): Tram pop a word from a bound queue. -/
  | qpop (engine : Nat) (v : TramView)
  /-- QPOPH (R456): Tram pop a packet's length word and lower the port count. -/
  | qpoph (engine : Nat) (v : TramView)
  /-- STIM (R456): Tram emit a trace packet on a stimulus port. -/
  | stim (engine ticks : Nat) (v : TramView)
  /-- WAIT (R457): Tram enter WAITING and clear the reservation. -/
  | wait (engine : Nat) (v : TramView)
  /-- EI (R457): Tram enable interrupts. -/
  | ei (engine : Nat) (v : TramView)
  /-- DI (R457): Tram disable interrupts. -/
  | di (engine : Nat) (v : TramView)
  /-- RETX (R457): Tram return from handler to XPC. -/
  | retx (engine : Nat) (v : TramView)
  /-- RETM (R457): Tram return from monitor to MPC. -/
  | retm (engine : Nat) (v : TramView)
  /-- BREAK (R457): Tram debug entry, or a no-operation in monitor mode. -/
  | break (engine : Nat) (v : TramView)
  /-- TRAP (R457): Tram raise TRAP with a code. -/
  | trap (engine : Nat) (v : TramView)
  /-- RDC (R457): Tram read a control register. -/
  | rdc (engine cycles : Nat) (v : TramView)
  /-- WRC (R457): Tram write a control register. -/
  | wrc (engine cycles : Nat) (v : TramView)
  /-- RDK (R457): Tram read a circular pointer register. -/
  | rdk (engine : Nat) (v : TramView)
  /-- WRK (R457): Tram write a circular pointer register. -/
  | wrk (engine : Nat) (v : TramView)
  /-- INTERRUPT_ENTRY (R428): At an eligible boundary with an enabled pending source, IE 1 and INH 0, the engine enters its interrupt handler. -/
  | interruptEntry (engine : Nat)
  /-- DEBUG_ENTRY (R433): At an eligible boundary a debug cause enters monitor mode, saving MPC and MREASON. -/
  | debugEntry (engine : Nat)
  /-- TR_START (R437): CMD START begins a held engine at ENTRY, or sets CMD_ERR. -/
  | trStart (engine value : Nat)
  /-- TR_RESUME (R437): CMD RESUME continues a held engine at TR_PC, or sets CMD_ERR. -/
  | trResume (engine value : Nat)
  /-- TR_HALT (R437): CMD HALT stops the engine at the next eligible boundary. -/
  | trHalt (engine value : Nat)
  /-- LOADED (R438): A write of LOADED clears IMEM_STALE. -/
  | loaded (engine value : Nat)
  /-- HALT_REQ (R518): A write of HALT_REQ requests debug entry according to the engine's state. -/
  | haltReq (engine value : Nat)
  /-- WATCHDOG_EXPIRY (R432): The engine watchdog reaches 0 and resets the engine or warns first. -/
  | watchdogExpiry (engine : Nat)
  /-- KICK (R432): A write of KICK to TR_WDOG_KICK reloads the watchdog. -/
  | kick (engine : Nat)
  /-- WDOG_WRITE (R432): A write to TR_WDOG sets its fields and reloads the counter. -/
  | wdogWrite (engine value : Nat)
  /-- HOIST_GO (R423): A write of GO starts a hoist transfer, or sets ERR with BADGO. -/
  | hoistGo (crew channel value : Nat)
  /-- HOIST_ABORT (R424): A write of ABORT stops the hoist channel after its accesses in flight. -/
  | hoistAbort (crew channel : Nat) (r : HoistEnd)
  /-- HOIST_DONE (R423): The hoist's last access completes, DONE sets and the chosen member may be notified. -/
  | hoistDone (crew channel : Nat) (r : HoistEnd)
  /-- QNOTE (R426): A write to TR_QNOTE raises a port's notice count and the QNOTE source. -/
  | qnote (engine port : Nat)
  /-- NOTICE_RESEND (R426): After an ENGINE reset the Cage writes a notice for each waiting closed down packet. -/
  | noticeResend (engine : Nat)
  /-- IRQ_POST (R427): A write to TR_IRQ_POST pushes a value into the post FIFO, or gets TARGET. -/
  | irqPost (engine value src tag : Nat) (posted : Bool)
  /-- POST_POP (R427): A read of TR_POST_DATA pops the oldest post FIFO entry. -/
  | postPop (engine size src tag : Nat) (peek : Bool)
  /-- CRIB_WRITEBACK (R419): A corrected crib or engine memory word is written back in the next free cycle of its port. -/
  | cribWriteback (addr : Nat)
  /-- CRIB_GALLERY_ACCESS (R416): A Gallery access to a crib or engine memory is served on its Gallery port. -/
  | cribGalleryAccess (a : GalAccess) (errs : Nat) (sameCycle : Bool)
  /-- FW_PRIMARY (R466): The boot ROM reads and authenticates the primary image and sets the Foreman ready bit on success. -/
  | fwPrimary (v : ImageView)
  /-- FW_GOLDEN (R466): The boot ROM reads and authenticates the golden image, entering recovery if both fail. -/
  | fwGolden (v : ImageView)
  /-- BASE (R465): The Foreman writes the Cage base settings and BASE_DONE. -/
  | base
  /-- FUSE (R465): The Foreman applies Cage buffer fuse repairs and sets the Cage ready bit. -/
  | fuse (ok : Bool)
  /-- SEAM_SELF_TEST (R465): A seam's configuration path self-test and scrubber start set its ready bit. -/
  | seamSelfTest (seam : Nat) (ok : Bool)
  /-- CREW_INIT (R465): A crew's memories are cleared and repaired and its ready bit set. -/
  | crewInit (crew : Nat) (ok : Bool)
  /-- XC_CALIBRATE (R257): The Foreman calibrates every port's lanes and sets the port ready bits. -/
  | xcCalibrate (good : Nat)
  /-- SHIFT_START (R491): The Shift clock counter starts and its ready bit sets. -/
  | shiftStart
  /-- FABRIC (R465): The load deadline timer starts when the four configuration paths are ready. -/
  | fabric
  /-- RECORD (R472): The start record is written alternately to flash copy A or B. -/
  | record (ok : Bool)
  /-- IDENTIFY (R480): Mailbox IDENTIFY returns identity and image versions. -/
  | identify (len tag : Nat)
  /-- READ_RECORD (R480): Mailbox READ_RECORD returns the start record. -/
  | readRecord (len tag : Nat)
  /-- CLEAR_RECORD (R480): Mailbox CLEAR_RECORD clears failed marks and writes the flash record. -/
  | clearRecord (len tag : Nat)
  /-- KEY_LOAD (R481): Mailbox KEY_LOAD unwraps a key into a slot or the owner key. -/
  | keyLoad (len tag : Nat)
  /-- KEY_DRAW (R480): Mailbox KEY_DRAW fills a slot with a random key. -/
  | keyDraw (len tag : Nat)
  /-- KEY_CLEAR (R480): Mailbox KEY_CLEAR empties a key slot or the owner key. -/
  | keyClear (len tag : Nat)
  /-- FLASH_UPDATE (R473): Mailbox FLASH_UPDATE authenticates, programs and verifies a firmware image. -/
  | flashUpdate (len tag : Nat) (header : List Nat) (hashes : List Nat × List Nat) (programOk : Bool)
  /-- REMAP_ADD (R480): Mailbox REMAP_ADD adds a row to a channel's flash remap table. -/
  | remapAdd (len tag : Nat)
  /-- READ_LOG (R480): Mailbox READ_LOG returns up to eight log entries. -/
  | readLog (len tag : Nat)
  /-- ECHO (R480): Mailbox ECHO returns its payload. -/
  | echo (len tag : Nat)
  /-- SENSOR_SAMPLE (R475): Every 1 ms the Foreman samples thermal, rail and analogue sensors and applies the limits. -/
  | sensorSample (temps rails ains : List Nat)
  /-- CURRENT_MONITOR_READ (R474): Every 10 ms the Foreman reads each external current monitor over I2C. -/
  | currentMonitorRead (monitor : Nat) (raw : Option Nat)
  /-- LOG_ENTRY (R478): The Foreman writes an event into its on-chip log ring. -/
  | logEntry (time : Nat)
  /-- LOG_FLASH_MIRROR (R478): Log entries are mirrored to flash and FLASHED advances. -/
  | logFlashMirror (seq : Nat)
  /-- LOAD_DEADLINE_WRITE (R489): A write to FM_LOAD_DEADLINE changes, expires or stops the deadline timer. -/
  | loadDeadlineWrite (ms elapsed : Nat)
  /-- ENUM (R488): A received ENUM makes the part take the next address and forward ENUM. -/
  | enum (addr : Nat)
  /-- ENUM_DONE (R488): ENUM_DONE is forwarded upstream and the head records the part count. -/
  | enumDone (parts : Nat)
  /-- LINK_CHANGE (R485): A LINK_CHANGE reaches the head and schedules an enumeration. -/
  | linkChange (part : Nat)
  /-- ANNOUNCE (R488): A received ANNOUNCE counts a group member and may prompt an answering ANNOUNCE. -/
  | announce (msg : MsgFrom) (group size : Nat) (leadEn join : Bool)
  /-- STATE_REQ (R485): A member answers a leader's STATE_REQ with its STATE. -/
  | stateReq (msg : MsgRoute)
  /-- STATE (R220): The leader collects a member's state for its command checks. -/
  | state (msg : MsgRoute) (tally st : Nat) (valid : Bool) (f k div nmin crc : Nat) (holds : MemberHold)
  /-- GRANT (R221): A member raises WD_HORIZON to a received grant. -/
  | grant (msg : MsgFrom) (h : Nat)
  /-- EVENT (R222): A member schedules a STOP, SAMPLE or REWIND at E and acknowledges it. -/
  | event (msg : MsgFrom) (e kind slot cause : Nat)
  /-- EVENT_ACK (R222): The leader records an event acknowledgement and clears BUSY when all have acknowledged. -/
  | eventAck (msg : MsgRoute) (e kind : Nat)
  /-- REPORT (R216): The leader schedules a STOP or SAMPLE for a trigger report, or handles a spoil report. -/
  | report (msg : MsgRoute) (value kind slot : Nat)
  /-- CMD (R485): A member carries out a group command broadcast by the leader. -/
  | cmd (msg : MsgFrom) (arg op : Nat) (trig : Bool)
  /-- CMD_DONE (R485): The leader collects a member's command result. -/
  | cmdDone (msg : MsgRoute) (result : Nat)
  /-- MESSAGE_RESEND (R486): An unacknowledged Bellwire message is sent again in the next window. -/
  | messageResend (crcFailed : Bool)
  /-- HOP_STATE_CHANGE (R486): A hop goes UP after 8 good windows or DOWN after 16 bad ones and sends LINK_CHANGE. -/
  | hopStateChange (down v : Bool)
  /-- HEAD_TIMEOUT (R488): BW_CLK_IN silent for 100 µs after the Foreman bit makes the part the chain head. -/
  | headTimeout
  /-- ENUM_TIMER (R488): 1 ms after the last LINK_CHANGE the head starts an enumeration. -/
  | enumTimer
  /-- ENUM_REQUEST (R490): A write of ENUM to BW_CTRL starts an enumeration at the head, or sets ENUM_ERR. -/
  | enumRequest
  /-- ANNOUNCE_TIMER (R488): A joined part announces itself every 1 ms until its group forms. -/
  | announceTimer
  /-- TIME (R497): A received TIME message gives a servo measurement and is forwarded with updated CORR and HOPS. -/
  | time (m : TimeMsg) (ticks residence : Nat)
  /-- TIME_SEND (R497): Every PERIOD_MS the head sends a TIME message. -/
  | timeSend (ticks : Nat)
  /-- PTP_SYNC (R499): A PTP Sync exchange gives a servo measurement. -/
  | ptpSync (offset16 : Int) (ticks : Nat)
  /-- INC_WRITE (R493): A write to SC_INC latches a new epoch and slope, or sets INC_ERR or SRC_ERR. -/
  | incWrite (v : Nat) (foreman : Bool) (ticks : Nat)
  /-- TIME_STEP (R494): A write to SC_TIME steps corrected time and sets STEPPED. -/
  | timeStep (v half : Nat) (foreman : Bool) (ticks : Nat)
  /-- TIME_SRC_WRITE (R496): A write of SRC selects the time master and enters the new state. -/
  | timeSrcWrite (src : Nat)
  /-- TIME_READ (R495): A 32-bit read of the low half of SC_COUNT or SC_TIME latches the high half and fraction. -/
  | timeRead (time : Bool) (src tag ticks : Nat)
  /-- MASTER_LOSS (R500): LOSS_N intervals without a measurement, or a DOWN upstream hop, enter HOLDOVER. -/
  | masterLoss
  /-- CAPTURE (R501): A rising edge on TIME_IN latches corrected time into SC_CAP. -/
  | capture (input ticks : Nat)
  /-- COMPARE_WINDOW (R502): A compare unit's IN changes as T enters or leaves its window, or MISS sets. -/
  | compareWindow (unit ticks : Nat)
  /-- PEEK (R508): Lamp PEEK reads a register without side effects. -/
  | peek (q : LampReq) (a : Answer)
  /-- CONSUME (R505): Lamp CONSUME reads with normal side effects. -/
  | consume (q : LampReq) (a : Answer)
  /-- LAMP_WRITE (R507): Lamp WRITE issues a non-posted Gallery write. -/
  | lampWrite (two : Bool) (bits : Nat) (a : Answer)
  /-- REPEAT (R509): Lamp REPEAT resends the last response without a new access. -/
  | lampRepeat (two : Bool) (bits : Nat)
  /-- LAMP_BREAK (R511): A 12 µs to 1 ms low on nRST_LAMP returns the port to waiting for START. -/
  | lampBreak
  /-- LAMP_RESET (R511): A low of 1 ms or more on nRST_LAMP starts a WARM with cause LAMP. -/
  | lampReset (low : Bool)
  /-- LAMP_CLOCK_TIMEOUT (R510): LAMP_CLK low for 100 µs mid-transaction returns the port to waiting for START. -/
  | lampClockTimeout
  /-- GET (R516): A write of GET to LP_UNLOCK draws a challenge, or sets UNLOCK_ERR. -/
  | get (level : Nat)
  /-- SUBMIT (R516): A write of SUBMIT compares the response and raises the level or counts a failure. -/
  | submit
  /-- LOCK (R515): A write of LOCK returns the Lamp port level to DEFAULT. -/
  | lock
  /-- CHALLENGE_EXPIRY (R516): A challenge not submitted within 10 s expires. -/
  | challengeExpiry
  /-- LOCKOUT_END (R516): LOCKOUT clears 1 s after a failed response. -/
  | lockoutEnd
  /-- TRACE_ENABLE (R520): A change of EN in LP_TRACE_CTRL from 0 to 1 emits a SYNC packet. -/
  | traceEnable (v ticks : Nat)
  /-- TRACE_SYNC (R520): Every SYNC_MS the trace path emits a SYNC packet. -/
  | traceSync (ticks : Nat)
  /-- TRACE_LINE_TIMEOUT (R523): A trace ring line partly filled for 1 µs is completed with IDLE units and written. -/
  | traceLineTimeout
  /-- VCCIO_DETECT (R529): A bank's VCCIO is detected and the bank enters SETTLING. -/
  | vccioDetect (bank : Nat)
  /-- SETTLING_END (R529): After 100 µs the bank enters ON, applies its settings and takes the safe state. -/
  | settlingEnd (bank : Nat)
  /-- VCCIO_LOSS (R529): A bank's VCCIO is lost and the bank goes OFF, with DROPPED set if it was ON. -/
  | vccioLoss (bank : Nat)
  /-- MG_EN_WRITE (R538): A write to IO_MG_EN changes management pin ownership under the handover sequence. -/
  | mgEnWrite (v : Nat)
  /-- PIN_WRITE (R534): A write to an IO_PIN or IO_MPIN changes the pad settings within 100 ns, or sets CFG_ERR. -/
  | pinWrite (bank pin v : Nat)
  /-- REGISTER_WRITE (R7): A write to a register with no row of its own sets its fields by their access types. -/
  | registerWrite (addr size data : Nat) (m : Master) (tag ticks : Nat) (posted poison : Bool)
  /-- REGISTER_READ (R8): A normal read of a register returns its fields and clears the RC fields that lie wholly within the half it reads. -/
  | registerRead (addr size : Nat) (m : Master) (tag ticks : Nat) (peek : Bool)
  /-- DATA_LINK_UP (R314): PCIe link training completes, CG_LINK reports speed, width and DEGRADED, and the Foreman logs a degraded training. -/
  | dataLinkUp (speed width : Nat) (flit : Bool)
  /-- STOPE_POWER_DOWN_DONE (R61): Within 2 µs of an accepted power-down, the stope is off and its CK_STOPE_PWR_STAT bit clears. -/
  | stopePowerDownDone (stope : Nat)
  /-- CREW_POWER_DOWN_DONE (R62): Within 2 µs of an accepted crew power-down, the crew is off and its ON_STAT bit clears. -/
  | crewPowerDownDone (crew : Nat)
  /-- MB_DONE (R479): The Foreman finishes a mailbox command, writes the response, RESULT, RLEN and TAG, clears BUSY and sets DONE. -/
  | mbDone
  /-- TRACE_FUNNEL (R521): Each Gallery cycle the funnel moves one packet, round-robin over the engines, from an engine FIFO into the trace buffer, with a LOST packet first if that engine has dropped packets. -/
  | traceFunnel (ticks : Nat)
  /-- TRACE_BUFFER_OUTPUT (R522): A packet leaves the trace buffer once every enabled output has taken it: the pins send it on TRC_D, and the ring fills a line and writes it when the line is complete. -/
  | traceBufferOutput
  /-- DIMM_THERMAL_SENSOR (R375): The DIMM thermal sensor reading crosses 85 °C, which switches the refresh interval between 1.95 µs and 0.975 µs and sets or clears HOT. -/
  | dimmThermalSensor (chan : Nat) (hot : Bool)
  /-- ILLEGAL_INSTRUCTION (R444): A Tram engine issues a word whose opcode or func is not listed, and it raises the ILLEGAL exception. -/
  | illegalInstruction (engine : Nat) (v : TramView)
  deriving DecidableEq, Repr

end Sys2Proof
end

