-- ==== Sys2Proof/Decode.lean ====
section
/-! DEFINITION. The decoder of table words. The block takes commands, not encoded words: no row of the spec's table of
operations and events gives bits, so no word spells a command. -/

namespace Sys2Proof

/-- The command that a word of the table's bits spells: none, since no row gives bits (98, the reader's counts). -/
def decodeTableWord (_nbits _w : Nat) : Option Instr := none

end Sys2Proof
end

