-- ==== Sys2Proof/Config.lean ====
section
/-! DEFINITION. What an implementation or one part of it fixes, and the free values.
Every constant here is opaque: nothing can be proved of its value, so a statement holds whatever it is. -/

namespace Sys2Proof

/-- What the device fuse map, the straps and the flash hold (00 R12: the entries "fuse", "strap" and "from flash"
of the Cold columns). -/
inductive FuseItem where
  | stMemRepairInUse | cfLdStatusDskHost | stRepairPos | cgIdVendor
  | trCrewStatusBankRepair | trCrewStatusEngRepair | fmIdGrade2 | fmIdTempI | fmIdSerial
  | lpStatusDefault | lpStatusMax | bwStatusStrapHead
  deriving DecidableEq, Repr

/-- The value of a fuse, strap or flash item for a unit of the part (00 R12). DESIGN CHOICE, safe: left free
(log entry 5). -/
opaque Config.fuse : FuseItem → Nat → Nat

/-- The `n`-th value drawn where the spec leaves a value open (log entry 3). -/
opaque Config.freeValue : Nat → Nat

/-- The value on a node of a combinational loop of the fabric, at the `n`-th evaluation (03 R79: undefined). -/
opaque Config.loopBit : Nat → Nat × Nat × Nat → Bool

/-- The pre-sum of a pick slice whose pre-adder is off (05 R143: not stated), by its operands (log entry 10). -/
opaque Config.preAdderOff : Nat → Nat → Nat

/-- The level on a pad that the part does not drive, by pin, at the `n`-th look (21 R526): what lies outside. -/
opaque Config.padLevel : Nat → Nat → Bool

/-- A unit of a bin or sump that lost power and has not been written since, by the draw, memory, stope and unit (02
R61: not stated). -/
opaque Config.lostUnit : Nat → Nat × Nat × Nat → Nat

/-- AES-CMAC with a 256-bit key over a message of bytes (06 R155, 15 R391): the function is AES's, no property of it is
used. -/
opaque Config.cmac : Nat → List Nat → Nat

/-- AES with a 256-bit key on one block of 16 bytes, the first byte as the most significant (15 R396): the function is AES's, no property of it
is used. -/
opaque Config.aes256 : Nat → Nat → Nat

/-- The inverse of AES with a 256-bit key on one block (18 R481). -/
opaque Config.aes256Inv : Nat → Nat → Nat

/-- SHA-384 of a message of bytes, as its 48 bytes (18 R464): no property of it is used. -/
opaque Config.sha384 : List Nat → List Nat

/-- ECDSA P-384 verification under a public key (x, y), of a signature (r, s), over a message (18 R464): no property of it is used. -/
opaque Config.ecdsaP384 : List Nat → List Nat → List Nat → Bool

/-- The fused hash of the signing key, and the fused minimum `SVN` (18 R464). -/
opaque Config.keyHash : List Nat
opaque Config.minSvn : Nat

/-- The device stream key fused into the part (06 R157). -/
opaque Config.deviceStreamKey : Nat

end Sys2Proof
end

