-- ==== Sys2Proof/Machine/Tab.lean ====
section
/-! DEFINITION. Sparse tables: sorted lists of key and value pairs with a value for every unlisted key.
One canonical form holds all the state that comes in large numbers: registers, memories, frames, queues. -/

namespace Sys2Proof.Machine

/-- The key of one cell of a sparse table: which thing, of which unit, at which index. -/
structure Key where
  /-- what it is (a register field, a kind of store) -/
  id : Nat
  /-- the block instance, stope, engine, queue or port -/
  unit : Nat := 0
  /-- the index within the unit -/
  idx : Nat := 0
  deriving DecidableEq, Repr

/-- The order of keys: by thing, then unit, then index. -/
def Key.lt (a b : Key) : Bool :=
  if a.id = b.id then (if a.unit = b.unit then Nat.blt a.idx b.idx else Nat.blt a.unit b.unit) else Nat.blt a.id b.id

/-- The order of plain numbers as keys. -/
def natLt (a b : Nat) : Bool := Nat.blt a b

/-- The value at `k`, or `d` where `k` is not listed. -/
def Tab.get {κ α : Type} [DecidableEq κ] (d : α) : List (κ × α) → κ → α
  | [], _ => d
  | (k', v) :: r, k => if k' = k then v else Tab.get d r k

/-- The table without the key `k`. -/
def Tab.erase {κ α : Type} [DecidableEq κ] (t : List (κ × α)) (k : κ) : List (κ × α) :=
  t.filter (fun p => decide (p.1 ≠ k))

/-- The pair put in its place by the order. -/
def Tab.insert {κ α : Type} (lt : κ → κ → Bool) : List (κ × α) → κ → α → List (κ × α)
  | [], k, v => [(k, v)]
  | (k', v') :: r, k, v => if lt k k' then (k, v) :: (k', v') :: r else (k', v') :: Tab.insert lt r k v

/-- The table with `v` at `k`; a value equal to the default is not listed. -/
def Tab.set {κ α : Type} [DecidableEq κ] [DecidableEq α] (lt : κ → κ → Bool) (d : α)
    (t : List (κ × α)) (k : κ) (v : α) : List (κ × α) :=
  if v = d then Tab.erase t k else Tab.insert lt (Tab.erase t k) k v

/-- The keys rise strictly. -/
def Tab.rising {κ α : Type} (lt : κ → κ → Bool) : List (κ × α) → Bool
  | [] => true
  | [_] => true
  | a :: b :: r => lt a.1 b.1 && Tab.rising lt (b :: r)

/-- The canonical form: keys strictly rising and no entry equal to the default. -/
def Tab.wf {κ α : Type} [DecidableEq α] (lt : κ → κ → Bool) (d : α) (t : List (κ × α)) : Bool :=
  Tab.rising lt t && t.all (fun p => decide (p.2 ≠ d))

end Sys2Proof.Machine
end

