-- ==== Sys2Proof/Machine/Fields.lean ====
section
/-! DEFINITION. The registers of the part: every field of every block of 01 R32, from the tables of 02 to 21
(Bits, Field, Access, Cold), as named constants, and the table that finds them by offset. -/

namespace Sys2Proof.Machine

/-- The register blocks of 01 R32, one constructor per row of its table. -/
inductive Block where
  | cg | trc | tr | qu | st | cf | cfs | sb | wd | cr | xc | xcp | dc | pc | en | gl | fm | bw | sc | io | iob | iom | lp | ck
  deriving DecidableEq, Repr

/-- The blocks numbered in the order of the table of 01 R32. -/
def Block.code : Block → Nat
  | .cg => 0 | .trc => 1 | .tr => 2 | .qu => 3 | .st => 4 | .cf => 5 | .cfs => 6 | .sb => 7 | .wd => 8 | .cr => 9
  | .xc => 10 | .xcp => 11 | .dc => 12 | .pc => 13 | .en => 14 | .gl => 15 | .fm => 16 | .bw => 17 | .sc => 18
  | .io => 19 | .iob => 20 | .iom => 21 | .lp => 22 | .ck => 23

/-- Base address of instance 0, span and number of instances of a block (01 R32). The span is also the distance
between instances; a Tram engine block spans 64 KiB and lies every 256 KiB, a stope block spans 64 KiB and lies
every 1 MiB. -/
def Block.place : Block → Nat × Nat × Nat × Nat
  | .cg  => (0x010002000000, 0x1000000, 0x1000000, 1)
  | .trc => (0x010003000000, 0x10000, 0x10000, 8)
  | .tr  => (0x010005020000, 0x10000, 0x40000, 64)
  | .qu  => (0x010006000000, 0x1000, 0x1000, 4096)
  | .st  => (0x010010000000, 0x10000, 0x100000, 640)
  | .cf  => (0x010040000000, 0x100000, 0x100000, 1)
  | .cfs => (0x010040100000, 0x100000, 0x100000, 4)
  | .sb  => (0x010040800000, 0x100000, 0x100000, 8)
  | .wd  => (0x010041000000, 0x800000, 0x800000, 1)
  | .cr  => (0x010041800000, 0x100000, 0x100000, 4)
  | .xc  => (0x010042000000, 0x800000, 0x800000, 1)
  | .xcp => (0x010042800000, 0x80000, 0x80000, 16)
  | .dc  => (0x010043000000, 0x100000, 0x100000, 8)
  | .pc  => (0x010043800000, 0x400000, 0x400000, 1)
  | .en  => (0x010043C00000, 0x400000, 0x400000, 1)
  | .gl  => (0x010044000000, 0x1000000, 0x1000000, 1)
  | .fm  => (0x010045000000, 0x800000, 0x800000, 1)
  | .bw  => (0x010045800000, 0x400000, 0x400000, 1)
  | .sc  => (0x010045C00000, 0x400000, 0x400000, 1)
  | .io  => (0x010046000000, 0x80000, 0x80000, 1)
  | .iob => (0x010046080000, 0x80000, 0x80000, 16)
  | .iom => (0x010046880000, 0x80000, 0x80000, 1)
  | .lp  => (0x010047000000, 0x1000000, 0x1000000, 1)
  | .ck  => (0x010048000000, 0x1000000, 0x1000000, 1)

/-- Every block. -/
def Block.all : List Block :=
  [.cg, .trc, .tr, .qu, .st, .cf, .cfs, .sb, .wd, .cr, .xc, .xcp, .dc, .pc, .en, .gl, .fm, .bw, .sc, .io, .iob, .iom, .lp, .ck]

/-- The access types of 00 R7. -/
inductive Access where
  | ro | rw | rw1c | rc | wo | rws
  deriving DecidableEq, Repr

/-- Where the cold value of a field comes from (00 R12). -/
inductive Cold where
  | lit (n : Nat)
  | fuse (i : FuseItem)
  /-- `PHASE_DIV_MIN`: 6 for grade -2 and 8 for grade -1 (02 R46), the grade as `FM_ID.GRADE2` shows it -/
  | phaseMin
  /-- `QU_BUF.BASE`: queue number × 0x20 (12 R343) -/
  | perQueue
  /-- a route field of `GL_ROUTE`: the default route of 13 R350, by the field's lowest bit -/
  | route (lsb : Nat)
  deriving DecidableEq, Repr

/-- One register field. -/
structure Fld where
  blk : Block
  /-- offset of the register (of index 0, for an array) from its block base -/
  off : Nat
  lsb : Nat
  wid : Nat
  acc : Access
  cold : Cold
  /-- the field keeps its value through WARM (00 R14 and the Meaning column) -/
  keepWarm : Bool
  /-- a stope or engine field keeps its value through the STOPE or ENGINE reset of its unit -/
  keepUnit : Bool
  deriving DecidableEq, Repr

/-- The number a field's value is stored under. Its two low bits are the keep flags, the next its block's place. -/
def Fld.id (f : Fld) : Nat :=
  (((f.off * 64 + f.lsb) * 32 + f.blk.code) * 2 + b2n f.keepWarm) * 2 + b2n f.keepUnit

/-- The block code of a stored field number. -/
def Fld.idBlock (n : Nat) : Nat := (n / 4) % 32

/-- A stored field number keeps its value through WARM. -/
def Fld.idKeepWarm (n : Nat) : Bool := n.testBit 1

/-- A stored field number keeps its value through the reset of its unit. -/
def Fld.idKeepUnit (n : Nat) : Bool := n.testBit 0

/-- The main gallery port of a network interface (13 R345). -/
def niPort (n : Nat) : Nat :=
  if n < 640 then n / 160 else n - 640

/-- The seam of a network interface, if it lies on one (13 R345). -/
def niSeam (n : Nat) : Option Nat :=
  if n < 640 then some (n / 160) else if n < 644 then some (n - 640) else none

/-- Row and column of a stope within its seam (01 R17, R18). -/
def stopeRow (n : Nat) : Nat := (n % 160) / 10
def stopeCol (n : Nat) : Nat := (n % 160) % 10

/-- A signed hop count as its direction bit and hops: `w` is the weight of the direction bit (13 R347). -/
def hopField (w src dst : Nat) : Nat := if src ≤ dst then dst - src else w + (src - dst)

/-- The default route from NI `n` to NI `d` (13 R350) as (SX, SY, SJ, MG, DSJ, DY). The rows for a periphery that
sends off its seam, and for a stope that sends to another seam's periphery, are DEDUCED (log entry 6). -/
def defaultRoute (n d : Nat) : Nat × Nat × Nat × Nat × Nat × Nat :=
  let far := if d < 640 then (stopeCol d, stopeRow d) else if d < 644 then (10, 0) else (0, 0)
  match niSeam n with
  | some s =>
    if n < 640 then
      if niSeam d = some s then
        if d < 640 then (hopField 16 (stopeCol n) (stopeCol d), hopField 32 (stopeRow n) (stopeRow d), 0, 0, 0, 0)
        else (0, 32 + (stopeRow n + 1), 10, 0, 0, 0)
      else (0, 32 + (stopeRow n + 1), 11, niPort d, far.1, far.2)
    else
      if niSeam d = some s then
        if d < 640 then (0, 0, stopeCol d, 0, 0, stopeRow d) else (0, 0, 10, 0, 0, 0)
      else (0, 0, 11, niPort d, far.1, far.2)
  | none => (0, 0, 0, niPort d, far.1, far.2)

/-- The field of a default route that starts at header bit 96 + `lsb` (13 R347, R361). -/
def defaultRouteField (n d lsb : Nat) : Nat :=
  let (sx, sy, sj, mg, dsj, dy) := defaultRoute n d
  if lsb = 0 then sx else if lsb = 5 then sy else if lsb = 11 then sj else if lsb = 15 then mg
  else if lsb = 20 then dsj else dy

/-- The cold value of a field of unit `u` at index `j` (00 R12). -/
def Fld.coldAt (f : Fld) (u j : Nat) : Nat :=
  match f.cold with
  | .lit n => n
  | .fuse i => Config.fuse i u % 2 ^ f.wid
  | .phaseMin => if Config.fuse .fmIdGrade2 0 % 2 = 1 then 6 else 8
  | .perQueue => u * 0x20
  | .route lsb => defaultRouteField (j / 1024) (j % 1024) lsb

/-- One register, or one array of registers. -/
structure RegRow where
  name : String
  blk : Block
  off : Nat
  stride : Nat
  count : Nat
  fields : List Fld
  deriving DecidableEq, Repr

/-- R63 (RO): REFCLK judged stable (R42) -/
def CK_CLK_STATUS.REFCLK_OK : Fld := ⟨.ck, 0x0, 0, 1, .ro, .lit 0, true, false⟩

/-- R63 (RO): Root PLL in lock -/
def CK_CLK_STATUS.ROOT_LOCK : Fld := ⟨.ck, 0x0, 1, 1, .ro, .lit 0, true, false⟩

/-- R63 (RO): Dividers released and aligned (R45) -/
def CK_CLK_STATUS.ALIGNED : Fld := ⟨.ck, 0x0, 2, 1, .ro, .lit 0, true, false⟩

/-- R63 (RO): 0: ring; 1: ROOT/12 -/
def CK_CLK_STATUS.FM_CLK_SRC : Fld := ⟨.ck, 0x0, 3, 1, .ro, .lit 0, true, false⟩

/-- R63 (RO): Limp mode (R51) -/
def CK_CLK_STATUS.LIMP : Fld := ⟨.ck, 0x0, 4, 1, .ro, .lit 0, true, false⟩

/-- R63 (RW1C): A CK_PHASE_DIV write was refused -/
def CK_CLK_STATUS.DIV_ERR : Fld := ⟨.ck, 0x0, 5, 1, .rw1c, .lit 0, false, false⟩

/-- R63 (RO): Divider n in force -/
def CK_CLK_STATUS.PHASE_DIV_CUR : Fld := ⟨.ck, 0x0, 8, 7, .ro, .lit 8, false, false⟩

/-- R63 (RO): Minimum n: 6 for grade -2, 8 for grade -1 -/
def CK_CLK_STATUS.PHASE_DIV_MIN : Fld := ⟨.ck, 0x0, 16, 7, .ro, .phaseMin, true, false⟩

/-- R63 (RW): Requested n (R46). A refused write leaves the field unchanged. -/
def CK_PHASE_DIV.N : Fld := ⟨.ck, 0x8, 0, 7, .rw, .lit 8, false, false⟩

/-- R63 (WO): 1: restart from R42. Acts only when written by the Foreman in limp mode, including a Lamp port wr... -/
def CK_CLK_CTRL.RETRY : Fld := ⟨.ck, 0x10, 0, 1, .wo, .lit 0, false, false⟩

/-- R63 (RW): In CK_GATE_DIS: 1 keeps class b ungated (R53) -/
def CK_GATE_DIS.DIS : Fld := ⟨.ck, 0x18, 0, 8, .rw, .lit 0, false, false⟩

/-- R63 (RO): In CK_GATE_STATUS: 1 while at least one unit of class b is gated -/
def CK_GATE_STATUS.GATED : Fld := ⟨.ck, 0x20, 0, 8, .ro, .lit 0, false, false⟩

/-- R63 (WO): Must be 0x5A5A for WARM_REQ to act -/
def CK_RESET_CTRL.KEY : Fld := ⟨.ck, 0x28, 0, 16, .wo, .lit 0, false, false⟩

/-- R63 (WO): 1 with a valid key: WARM -/
def CK_RESET_CTRL.WARM_REQ : Fld := ⟨.ck, 0x28, 16, 1, .wo, .lit 0, false, false⟩

/-- R63 (WO): In CK_STOPE_RST: device stope number -/
def CK_STOPE_RST.STOPE : Fld := ⟨.ck, 0x30, 0, 10, .wo, .lit 0, false, false⟩

/-- R63 (WO): In CK_ENGINE_RST: engine number. Bits [15:6] are reserved. -/
def CK_ENGINE_RST.ENGINE : Fld := ⟨.ck, 0x38, 0, 6, .wo, .lit 0, false, false⟩

/-- R63 (WO): 1: request the reset (R55, R56) -/
def CK_STOPE_RST.GO : Fld := ⟨.ck, 0x30, 16, 1, .wo, .lit 0, false, false⟩

/-- R63 (WO): 1: request the reset (R55, R56) -/
def CK_ENGINE_RST.GO : Fld := ⟨.ck, 0x38, 16, 1, .wo, .lit 0, false, false⟩

/-- R63 (RO): STOPE reset in progress -/
def CK_RST_STATUS.STOPE_BUSY : Fld := ⟨.ck, 0x40, 0, 1, .ro, .lit 0, false, false⟩

/-- R63 (RO): ENGINE reset in progress -/
def CK_RST_STATUS.ENGINE_BUSY : Fld := ⟨.ck, 0x40, 1, 1, .ro, .lit 0, false, false⟩

/-- R63 (RW1C): A STOPE request was refused -/
def CK_RST_STATUS.STOPE_REFUSED : Fld := ⟨.ck, 0x40, 2, 1, .rw1c, .lit 0, false, false⟩

/-- R63 (RW1C): An ENGINE request was refused -/
def CK_RST_STATUS.ENGINE_REFUSED : Fld := ⟨.ck, 0x40, 3, 1, .rw1c, .lit 0, false, false⟩

/-- R63 (RW1C): A stope or crew power-down was refused -/
def CK_RST_STATUS.PWR_REFUSED : Fld := ⟨.ck, 0x40, 4, 1, .rw1c, .lit 0, false, false⟩

/-- R63 (RO): Stope of the last accepted STOPE reset -/
def CK_RST_STATUS.LAST_STOPE : Fld := ⟨.ck, 0x40, 16, 10, .ro, .lit 0, false, false⟩

/-- R63 (RO): Engine of the last accepted ENGINE reset -/
def CK_RST_STATUS.LAST_ENGINE : Fld := ⟨.ck, 0x40, 32, 6, .ro, .lit 0, false, false⟩

/-- R63 (RWS): Last WARM came from PERST# -/
def CK_RST_CAUSE.PERST : Fld := ⟨.ck, 0x48, 0, 1, .rws, .lit 0, true, false⟩

/-- R63 (RWS): Last WARM came from CK_RESET_CTRL -/
def CK_RST_CAUSE.SW_WARM : Fld := ⟨.ck, 0x48, 1, 1, .rws, .lit 0, true, false⟩

/-- R63 (RWS): Last WARM came from R49 -/
def CK_RST_CAUSE.ROOT_LOST : Fld := ⟨.ck, 0x48, 2, 1, .rws, .lit 0, true, false⟩

/-- R63 (RWS): Last WARM came from R50 -/
def CK_RST_CAUSE.RAIL : Fld := ⟨.ck, 0x48, 3, 1, .rws, .lit 0, true, false⟩

/-- R63 (RWS): Last WARM came from a long low on nRST_LAMP (R511) -/
def CK_RST_CAUSE.LAMP : Fld := ⟨.ck, 0x48, 4, 1, .rws, .lit 0, true, false⟩

/-- R63 (RWS): WARMs since COLD, saturating at 255 -/
def CK_RST_CAUSE.WARM_COUNT : Fld := ⟨.ck, 0x48, 8, 8, .rws, .lit 0, true, false⟩

/-- R63 (RWS): 16 failed REFCLK windows in a row (R42) -/
def CK_AON_STATUS.REFCLK_BAD : Fld := ⟨.ck, 0x50, 0, 1, .rws, .lit 0, true, false⟩

/-- R63 (RWS): Three failed lock attempts (R43) -/
def CK_AON_STATUS.ROOT_FAIL : Fld := ⟨.ck, 0x50, 1, 1, .rws, .lit 0, true, false⟩

/-- R63 (RWS): A clock switch hung (R48) -/
def CK_AON_STATUS.SWITCH_HANG : Fld := ⟨.ck, 0x50, 2, 1, .rws, .lit 0, true, false⟩

/-- R63 (RWS): Lock lost, or a REFCLK window failed, in operation (R49). Not set by a loss of VCC_AUX (R50). -/
def CK_AON_STATUS.ROOT_LOST : Fld := ⟨.ck, 0x50, 3, 1, .rws, .lit 0, true, false⟩

/-- R63 (RWS): Hung switches, saturating at 255 -/
def CK_AON_STATUS.HANG_COUNT : Fld := ⟨.ck, 0x50, 8, 8, .rws, .lit 0, true, false⟩

/-- R63 (RWS): Failed REFCLK windows, saturating at 255 -/
def CK_AON_STATUS.REFCLK_FAIL_COUNT : Fld := ⟨.ck, 0x50, 16, 8, .rws, .lit 0, true, false⟩

/-- R63 (RWS): Failed lock attempts, saturating at 255 -/
def CK_AON_STATUS.LOCK_FAIL_COUNT : Fld := ⟨.ck, 0x50, 24, 8, .rws, .lit 0, true, false⟩

/-- R63 (RO): VCC_CORE in its good window -/
def CK_RAIL_STATUS.CORE_GOOD : Fld := ⟨.ck, 0x58, 0, 1, .ro, .lit 1, true, false⟩

/-- R63 (RO): VCC_SRAM -/
def CK_RAIL_STATUS.SRAM_GOOD : Fld := ⟨.ck, 0x58, 1, 1, .ro, .lit 1, true, false⟩

/-- R63 (RO): VCC_LANE 0.90 V -/
def CK_RAIL_STATUS.LANE09_GOOD : Fld := ⟨.ck, 0x58, 2, 1, .ro, .lit 1, true, false⟩

/-- R63 (RO): VCC_LANE 1.20 V -/
def CK_RAIL_STATUS.LANE12_GOOD : Fld := ⟨.ck, 0x58, 3, 1, .ro, .lit 1, true, false⟩

/-- R63 (RO): VDDQ_DDR -/
def CK_RAIL_STATUS.DDR_GOOD : Fld := ⟨.ck, 0x58, 4, 1, .ro, .lit 1, true, false⟩

/-- R63 (RO): VCC_AUX -/
def CK_RAIL_STATUS.AUX_GOOD : Fld := ⟨.ck, 0x58, 5, 1, .ro, .lit 1, true, false⟩

/-- R63 (RO): 1 for each user bank whose VCCIO is present, updated within 1 µs of any change -/
def CK_RAIL_STATUS.BANK_GOOD : Fld := ⟨.ck, 0x58, 16, 16, .ro, .lit 0, true, false⟩

/-- R63 (RO): Management bank VCCIO present, updated likewise -/
def CK_RAIL_STATUS.MGMT_GOOD : Fld := ⟨.ck, 0x58, 32, 1, .ro, .lit 0, true, false⟩

/-- R63 (RW): Bit c: 1 requests crew c powered (R62). A refused clear leaves the bit at 1. -/
def CK_CREW_PWR.ON : Fld := ⟨.ck, 0x60, 0, 8, .rw, .lit 255, false, false⟩

/-- R63 (RO): Bit 8 + c: 1 while crew c is powered -/
def CK_CREW_PWR.ON_STAT : Fld := ⟨.ck, 0x60, 8, 8, .ro, .lit 255, false, false⟩

/-- R63 (RW): In CK_STOPE_PWRi: bit j requests stope 64i + j powered (R61). A refused clear leaves the bit at 1. -/
def CK_STOPE_PWR.ON : Fld := ⟨.ck, 0x100, 0, 64, .rw, .lit 0xffffffffffffffff, false, false⟩

/-- R63 (RO): In CK_STOPE_PWR_STATi: bit j is 1 while stope 64i + j is powered -/
def CK_STOPE_PWR_STAT.ON_STAT : Fld := ⟨.ck, 0x180, 0, 64, .ro, .lit 0xffffffffffffffff, false, false⟩

/-- R119 (RW): 0: PHASE; 1: STEP; 2–3: reserved. A write is accepted under R107. A refused write leaves the fiel... -/
def ST_TREE_CTRL.SRC : Fld := ⟨.st, 0x100, 0, 2, .rw, .lit 0, false, false⟩

/-- R119 (WO): 1: make one phase in STEP mode (R109) -/
def ST_TREE_STEP.GO : Fld := ⟨.st, 0x108, 0, 1, .wo, .lit 0, false, false⟩

/-- R119 (RW): Bit j: line j has a rising edge at each stepped boundary -/
def ST_TREE_EDGES.RISE : Fld := ⟨.st, 0x110, 0, 16, .rw, .lit 0, false, false⟩

/-- R119 (RW): Bit 16 + j: line j has a falling edge at each stepped boundary. A line with both its bits set has... -/
def ST_TREE_EDGES.FALL : Fld := ⟨.st, 0x110, 16, 16, .rw, .lit 0, false, false⟩

/-- R119 (RO): Source in force: 0 PHASE, 1 STEP -/
def ST_TREE_STATUS.SRC_CUR : Fld := ⟨.st, 0x118, 0, 2, .ro, .lit 0, false, false⟩

/-- R119 (RO): Source switch in progress (R107) -/
def ST_TREE_STATUS.SWITCHING : Fld := ⟨.st, 0x118, 2, 1, .ro, .lit 0, false, false⟩

/-- R119 (RW1C): An SRC write was refused -/
def ST_TREE_STATUS.SRC_ERR : Fld := ⟨.st, 0x118, 3, 1, .rw1c, .lit 0, false, false⟩

/-- R119 (RW1C): A GO was ignored (R109) -/
def ST_TREE_STATUS.STEP_ERR : Fld := ⟨.st, 0x118, 4, 1, .rw1c, .lit 0, false, false⟩

/-- R119 (RW1C): A source switch was forced (R108). Kept by STOPE reset. -/
def ST_TREE_STATUS.HANG : Fld := ⟨.st, 0x118, 5, 1, .rw1c, .lit 0, false, true⟩

/-- R119 (RW1C): The stope divider disagreed with the Winder (R106). Kept by STOPE reset. -/
def ST_TREE_STATUS.SLIP : Fld := ⟨.st, 0x118, 6, 1, .rw1c, .lit 0, false, true⟩

/-- R119 (RO): Captures disabled, waiting for a device boundary (R110, R116, R118) -/
def ST_TREE_STATUS.HOLD_SYNC : Fld := ⟨.st, 0x118, 7, 1, .ro, .lit 0, false, false⟩

/-- R119 (RO): Context in force in the stope divider -/
def ST_TREE_STATUS.LOCAL_CTX : Fld := ⟨.st, 0x118, 8, 2, .ro, .lit 0, false, false⟩

/-- R119 (RO): Phase within the slot, 0 to k − 1 -/
def ST_TREE_STATUS.LOCAL_PHASE : Fld := ⟨.st, 0x118, 10, 4, .ro, .lit 0, false, false⟩

/-- R119 (RO): Slips since COLD or WARM, saturating at 255. Kept by STOPE reset. -/
def ST_TREE_STATUS.SLIP_COUNT : Fld := ⟨.st, 0x118, 16, 8, .ro, .lit 0, false, true⟩

/-- R149 (RC): Corrected errors, saturating at 65,535. Kept by STOPE reset. -/
def ST_MEM_ECC.CE_COUNT : Fld := ⟨.st, 0x200, 0, 16, .rc, .lit 0, false, true⟩

/-- R149 (RC): Uncorrectable errors, saturating at 255. Kept by STOPE reset. -/
def ST_MEM_ECC.UE_COUNT : Fld := ⟨.st, 0x200, 16, 8, .rc, .lit 0, false, true⟩

/-- R149 (RO): Memory id of the last error -/
def ST_MEM_ECC.LAST_MEM : Fld := ⟨.st, 0x200, 24, 5, .ro, .lit 0, false, false⟩

/-- R149 (RO): The last error was uncorrectable -/
def ST_MEM_ECC.LAST_UE : Fld := ⟨.st, 0x200, 29, 1, .ro, .lit 0, false, false⟩

/-- R149 (RO): Unit of the last error -/
def ST_MEM_ECC.LAST_UNIT : Fld := ⟨.st, 0x200, 32, 14, .ro, .lit 0, false, false⟩

/-- R149 (RO): 0: fabric port; 1: sweeper; 2: Corer copy; 3: queue controller -/
def ST_MEM_ECC.LAST_SRC : Fld := ⟨.st, 0x200, 46, 2, .ro, .lit 0, false, false⟩

/-- R149 (RW1C): Two ports wrote different data to one byte (R128) -/
def ST_MEM_COLL.COLL : Fld := ⟨.st, 0x208, 0, 1, .rw1c, .lit 0, false, false⟩

/-- R149 (RC): Such collisions, saturating at 255 -/
def ST_MEM_COLL.COLL_COUNT : Fld := ⟨.st, 0x208, 8, 8, .rc, .lit 0, false, false⟩

/-- R149 (RO): Bin of the last collision -/
def ST_MEM_COLL.COLL_BIN : Fld := ⟨.st, 0x208, 16, 4, .ro, .lit 0, false, false⟩

/-- R149 (RO): Word of the last collision -/
def ST_MEM_COLL.COLL_ADDR : Fld := ⟨.st, 0x208, 20, 11, .ro, .lit 0, false, false⟩

/-- R149 (RO): Bit m: memory m is armed for a sample (R138) -/
def ST_MEM_JRNL.ARMED : Fld := ⟨.st, 0x210, 0, 18, .ro, .lit 0, false, false⟩

/-- R149 (RC): Highest journal occupancy in any memory of the stope, 0–64 -/
def ST_MEM_JRNL.MAX_FILL : Fld := ⟨.st, 0x210, 32, 7, .rc, .lit 0, false, false⟩

/-- R149 (RC): Holds requested for a full journal (R142), saturating at 65,535 -/
def ST_MEM_JRNL.STALL_COUNT : Fld := ⟨.st, 0x210, 40, 16, .rc, .lit 0, false, false⟩

/-- R149 (RO): Bit m: memory m uses a spare, from the device fuse map (R148). Kept by STOPE reset. -/
def ST_MEM_REPAIR.IN_USE : Fld := ⟨.st, 0x218, 0, 18, .ro, .fuse .stMemRepairInUse, false, true⟩

/-- R149 (RW): Sweeper enabled (R131). Kept by STOPE reset. -/
def ST_MEM_CTRL.SWEEP_EN : Fld := ⟨.st, 0x220, 0, 1, .rw, .lit 1, false, true⟩

/-- R149 (RW): Memory id to inject. Values 18–31 inject nothing. -/
def ST_MEM_CTRL.INJ_MEM : Fld := ⟨.st, 0x220, 8, 5, .rw, .lit 0, false, false⟩

/-- R149 (RW): 0: invert bit 0; 1: invert bits 0 and 1 -/
def ST_MEM_CTRL.INJ_DOUBLE : Fld := ⟨.st, 0x220, 13, 1, .rw, .lit 0, false, false⟩

/-- R149 (RW): 1: inject on the next write; clears when done (R132) -/
def ST_MEM_CTRL.INJ_ARM : Fld := ⟨.st, 0x220, 14, 1, .rw, .lit 0, false, false⟩

/-- R149 (RW): Sweeper step every 16 × SWEEP_INT phase clocks. A write of 0 acts as 1. Kept by STOPE reset. -/
def ST_MEM_CTRL.SWEEP_INT : Fld := ⟨.st, 0x220, 16, 8, .rw, .lit 16, false, true⟩

/-- R149 (RW): Level threshold in words, 1–2,048. A write of 0, or of a value above 2,048, leaves the field unch... -/
def ST_BQ_CTRL.LEVEL : Fld := ⟨.st, 0x400, 0, 12, .rw, .lit 1024, false, true⟩

/-- R149 (RW): Rearm distance in words (R136). Kept by STOPE reset. -/
def ST_BQ_CTRL.HYST : Fld := ⟨.st, 0x400, 16, 12, .rw, .lit 64, false, true⟩

/-- R149 (RW): Issue the interrupt write. Kept by STOPE reset. -/
def ST_BQ_CTRL.IRQ_EN : Fld := ⟨.st, 0x400, 28, 1, .rw, .lit 0, false, true⟩

/-- R149 (RW): Gallery address of the interrupt write, 4-byte aligned. Kept by STOPE reset. -/
def ST_BQ_IRQ_ADDR.ADDR : Fld := ⟨.st, 0x408, 2, 46, .rw, .lit 0, false, true⟩

/-- R149 (RW): Value written. Kept by STOPE reset. -/
def ST_BQ_IRQ_DATA.DATA : Fld := ⟨.st, 0x410, 0, 32, .rw, .lit 0, false, true⟩

/-- R149 (RO): Words held, 0–2,048. Reads 0 in RAM mode. -/
def ST_BQ_STATUS.COUNT : Fld := ⟨.st, 0x418, 0, 12, .ro, .lit 0, false, false⟩

/-- R149 (RO): BQMODE as loaded (R133) -/
def ST_BQ_STATUS.MODE : Fld := ⟨.st, 0x418, 12, 2, .ro, .lit 0, false, false⟩

/-- R149 (RW1C): The level interrupt fired -/
def ST_BQ_STATUS.IRQ_PEND : Fld := ⟨.st, 0x418, 14, 1, .rw1c, .lit 0, false, false⟩

/-- R149 (RO): The level interrupt is armed -/
def ST_BQ_STATUS.IRQ_ARMED : Fld := ⟨.st, 0x418, 15, 1, .ro, .lit 1, false, false⟩

/-- R149 (RW1C): A push was dropped (R135) -/
def ST_BQ_STATUS.OVERRUN : Fld := ⟨.st, 0x418, 16, 1, .rw1c, .lit 0, false, false⟩

/-- R149 (RW1C): A pop found the queue empty -/
def ST_BQ_STATUS.UNDERRUN : Fld := ⟨.st, 0x418, 17, 1, .rw1c, .lit 0, false, false⟩

/-- R149 (RW1C): An interrupt write got an error response -/
def ST_BQ_STATUS.WRITE_FAIL : Fld := ⟨.st, 0x418, 18, 1, .rw1c, .lit 0, false, false⟩

/-- R177 (WO): 1: begin a load from the extent FIFO (R166) -/
def CF_LD_CTRL.START : Fld := ⟨.cf, 0x0, 0, 1, .wo, .lit 0, false, false⟩

/-- R177 (WO): 1: abort the load in progress with ABORT -/
def CF_LD_CTRL.ABORT : Fld := ⟨.cf, 0x0, 1, 1, .wo, .lit 0, false, false⟩

/-- R177 (RO): Loader state (R166) -/
def CF_LD_STATUS.STATE : Fld := ⟨.cf, 0x8, 0, 3, .ro, .lit 0, false, false⟩

/-- R177 (RW1C): A START was ignored -/
def CF_LD_STATUS.START_ERR : Fld := ⟨.cf, 0x8, 3, 1, .rw1c, .lit 0, false, false⟩

/-- R177 (RW1C): An extent push was refused (R164) -/
def CF_LD_STATUS.EXT_ERR : Fld := ⟨.cf, 0x8, 4, 1, .rw1c, .lit 0, false, false⟩

/-- R177 (RO): Result of the last load (R171); cleared by START -/
def CF_LD_STATUS.ERR : Fld := ⟨.cf, 0x8, 8, 5, .ro, .lit 0, false, false⟩

/-- R177 (RW1C): A load completed -/
def CF_LD_STATUS.DONE : Fld := ⟨.cf, 0x8, 13, 1, .rw1c, .lit 0, false, false⟩

/-- R177 (RW1C): A load aborted -/
def CF_LD_STATUS.FAILED : Fld := ⟨.cf, 0x8, 14, 1, .rw1c, .lit 0, false, false⟩

/-- R177 (RO): Key RAM holds an owner key -/
def CF_LD_STATUS.OWNER_KEY : Fld := ⟨.cf, 0x8, 16, 1, .ro, .lit 0, false, false⟩

/-- R177 (RO): 1: host and gallery streams may use the device stream key -/
def CF_LD_STATUS.DSK_HOST : Fld := ⟨.cf, 0x8, 17, 1, .ro, .fuse .cfLdStatusDskHost, false, false⟩

/-- R177 (RWS): Both diagnostic copies failed (R176) -/
def CF_LD_STATUS.DIAG_FAIL : Fld := ⟨.cf, 0x8, 18, 1, .rws, .lit 0, true, false⟩

/-- R177 (RW): Extent start: bus address, gallery address or flash offset. Bits [5:0] must be 0. -/
def CF_EXT_ADDR.ADDR : Fld := ⟨.cf, 0x10, 0, 64, .rw, .lit 0, false, false⟩

/-- R177 (WO): Extent length in bytes, at least 1 -/
def CF_EXT_LEN.LEN : Fld := ⟨.cf, 0x18, 0, 32, .wo, .lit 0, false, false⟩

/-- R177 (WO): 0: HOST; 1: GALLERY; 2: FLASH; 3: reserved -/
def CF_EXT_LEN.SPACE : Fld := ⟨.cf, 0x18, 32, 2, .wo, .lit 0, false, false⟩

/-- R177 (WO): Last extent of the stream -/
def CF_EXT_LEN.LAST : Fld := ⟨.cf, 0x18, 34, 1, .wo, .lit 0, false, false⟩

/-- R177 (RO): Free FIFO entries -/
def CF_EXT_STATUS.FREE : Fld := ⟨.cf, 0x20, 0, 7, .ro, .lit 64, false, false⟩

/-- R177 (RO): Extents waiting, including the one being read -/
def CF_EXT_STATUS.HELD : Fld := ⟨.cf, 0x20, 8, 7, .ro, .lit 0, false, false⟩

/-- R177 (RO): Segments whose tags verified in the current or last load -/
def CF_LD_PROGRESS.SEGS : Fld := ⟨.cf, 0x28, 0, 32, .ro, .lit 0, false, false⟩

/-- R177 (RO): Frames written by the current or last load -/
def CF_LD_PROGRESS.FRAMES : Fld := ⟨.cf, 0x28, 32, 32, .ro, .lit 0, false, false⟩

/-- R177 (RO): Stream offset of the error (R171) -/
def CF_LD_ERRPOS.POS : Fld := ⟨.cf, 0x30, 0, 64, .ro, .lit 0, false, false⟩

/-- R177 (RO): A FULL load has completed since COLD or WARM -/
def CF_LOADED.VALID : Fld := ⟨.cf, 0x38, 0, 1, .ro, .lit 0, false, false⟩

/-- R177 (RO): The image in force is the diagnostic image -/
def CF_LOADED.DIAG : Fld := ⟨.cf, 0x38, 1, 1, .ro, .lit 0, false, false⟩

/-- R177 (RO): Fold factor in force -/
def CF_LOADED.F : Fld := ⟨.cf, 0x38, 2, 3, .ro, .lit 0, false, false⟩

/-- R177 (RO): Routing depth in force -/
def CF_LOADED.K : Fld := ⟨.cf, 0x38, 5, 5, .ro, .lit 0, false, false⟩

/-- R177 (RO): NMIN of the image in force -/
def CF_LOADED.NMIN : Fld := ⟨.cf, 0x38, 10, 7, .ro, .lit 0, false, false⟩

/-- R177 (RO): STREAM_ID of the last completed load of either kind -/
def CF_LOADED_ID.ID : Fld := ⟨.cf, 0x40, 0, 64, .ro, .lit 0, false, false⟩

/-- R177 (RW): Bits [39:21] of the frame shadow's DRAM address. Written by the Foreman only (R172). -/
def CF_SHADOW_BASE.BASE : Fld := ⟨.cf, 0x48, 21, 19, .rw, .lit 0, false, false⟩

/-- R177 (RW): The base is set and its memory is ready -/
def CF_SHADOW_BASE.SHADOW_OK : Fld := ⟨.cf, 0x48, 63, 1, .rw, .lit 0, false, false⟩

/-- R177 (RO): In CF_CONFIGUREDi: bit j is 1 while stope 64i + j is configured and its frame shadow is valid -/
def CF_CONFIGURED.CONF : Fld := ⟨.cf, 0x100, 0, 64, .ro, .lit 0, false, false⟩

/-- R177 (RO): In CF_LOADINGi: bit j is 1 while stope 64i + j is partly loaded -/
def CF_LOADING.LOADING : Fld := ⟨.cf, 0x180, 0, 64, .ro, .lit 0, false, false⟩

/-- R178 (RO): The path is writing frames -/
def CF_SEAM_STATUS.BUSY : Fld := ⟨.cfs, 0x0, 0, 1, .ro, .lit 0, false, false⟩

/-- R178 (RO): Frames in the input FIFO, 0 to 512 -/
def CF_SEAM_STATUS.FIFO : Fld := ⟨.cfs, 0x0, 8, 10, .ro, .lit 0, false, false⟩

/-- R178 (RO): Frames written since COLD or WARM, wrapping -/
def CF_SEAM_STATUS.WRITTEN : Fld := ⟨.cfs, 0x0, 32, 32, .ro, .lit 0, false, false⟩

/-- R178 (RW): Frame address to read (R174) -/
def CF_RB_CTRL.FADDR : Fld := ⟨.cfs, 0x8, 0, 32, .rw, .lit 0, false, false⟩

/-- R178 (WO): 1: start the readback -/
def CF_RB_CTRL.GO : Fld := ⟨.cfs, 0x8, 32, 1, .wo, .lit 0, false, false⟩

/-- R178 (RO): Readback in progress -/
def CF_RB_STATUS.BUSY : Fld := ⟨.cfs, 0x10, 0, 1, .ro, .lit 0, false, false⟩

/-- R178 (RW1C): A request was ignored -/
def CF_RB_STATUS.RB_ERR : Fld := ⟨.cfs, 0x10, 1, 1, .rw1c, .lit 0, false, false⟩

/-- R178 (RO): At least one word of the last readback was corrected -/
def CF_RB_STATUS.CORRECTED : Fld := ⟨.cfs, 0x10, 2, 1, .ro, .lit 0, false, false⟩

/-- R178 (RO): At least one word of the last readback was uncorrectable -/
def CF_RB_STATUS.UNCORR : Fld := ⟨.cfs, 0x10, 3, 1, .ro, .lit 0, false, false⟩

/-- R178 (RO): Word w of the last frame read back -/
def CF_RB_DATA.DATA : Fld := ⟨.cfs, 0x1000, 0, 64, .ro, .lit 0, false, false⟩

/-- R205 (WO): 1: request isolation (R184) -/
def ST_ISO.ISOLATE : Fld := ⟨.st, 0x0, 0, 1, .wo, .lit 0, false, true⟩

/-- R205 (WO): 1: request release -/
def ST_ISO.RELEASE : Fld := ⟨.st, 0x0, 1, 1, .wo, .lit 0, false, true⟩

/-- R205 (RO): State code (R179) -/
def ST_STATUS.STATE : Fld := ⟨.st, 0x8, 0, 3, .ro, .lit 0, false, true⟩

/-- R205 (RO): Isolation bit (R187) -/
def ST_STATUS.ISOLATED : Fld := ⟨.st, 0x8, 3, 1, .ro, .lit 0, false, true⟩

/-- R205 (RO): Isolation pending -/
def ST_STATUS.ISO_PEND : Fld := ⟨.st, 0x8, 4, 1, .ro, .lit 0, false, true⟩

/-- R205 (RO): Release pending -/
def ST_STATUS.REL_PEND : Fld := ⟨.st, 0x8, 5, 1, .ro, .lit 0, false, true⟩

/-- R205 (RW1C): A request was refused (R185) -/
def ST_STATUS.ISO_ERR : Fld := ⟨.st, 0x8, 6, 1, .rw1c, .lit 0, false, true⟩

/-- R205 (RW1C): Spoil flag (R195). Writing 1 also clears bits [5:1]. -/
def ST_SPOIL.SPOIL : Fld := ⟨.st, 0x10, 0, 1, .rw1c, .lit 0, false, true⟩

/-- R205 (RO): Cause: scrubber correction -/
def ST_SPOIL.C_CORR : Fld := ⟨.st, 0x10, 1, 1, .ro, .lit 0, false, true⟩

/-- R205 (RO): Cause: shadow repair -/
def ST_SPOIL.C_REPAIR : Fld := ⟨.st, 0x10, 2, 1, .ro, .lit 0, false, true⟩

/-- R205 (RO): Cause: shadow repair failed -/
def ST_SPOIL.C_LOST : Fld := ⟨.st, 0x10, 3, 1, .ro, .lit 0, false, true⟩

/-- R205 (RO): Cause: divider slip -/
def ST_SPOIL.C_SLIP : Fld := ⟨.st, 0x10, 4, 1, .ro, .lit 0, false, true⟩

/-- R205 (RO): Cause: memory uncorrectable error -/
def ST_SPOIL.C_MEMUE : Fld := ⟨.st, 0x10, 5, 1, .ro, .lit 0, false, true⟩

/-- R205 (RC): Spoil events, saturating at 65,535 -/
def ST_SPOIL.SPOIL_COUNT : Fld := ⟨.st, 0x10, 16, 16, .rc, .lit 0, false, true⟩

/-- R205 (RO): In ST_SPOIL_TALLY: tally at the first detection since SPOIL was last clear -/
def ST_SPOIL_TALLY.FIRST : Fld := ⟨.st, 0x18, 0, 64, .ro, .lit 0, false, true⟩

/-- R205 (RO): In ST_SPOIL_BOUND: lowest detection bound since SPOIL was last clear -/
def ST_SPOIL_BOUND.BOUND : Fld := ⟨.st, 0x20, 0, 64, .ro, .lit 0, false, true⟩

/-- R205 (RC): Words corrected, saturating at 65,535 -/
def ST_SCRUB.CORR_WORDS : Fld := ⟨.st, 0x28, 0, 16, .rc, .lit 0, false, true⟩

/-- R205 (RC): Frames repaired from the shadow, saturating at 255 -/
def ST_SCRUB.REPAIRED : Fld := ⟨.st, 0x28, 16, 8, .rc, .lit 0, false, true⟩

/-- R205 (RC): Failed shadow repairs, saturating at 255 -/
def ST_SCRUB.LOST_COUNT : Fld := ⟨.st, 0x28, 24, 8, .rc, .lit 0, false, true⟩

/-- R205 (RO): Frame of the last scrub event -/
def ST_SCRUB.LAST_FRAME : Fld := ⟨.st, 0x28, 32, 13, .ro, .lit 0, false, true⟩

/-- R205 (RO): 1: the last event was a repair or a failed repair -/
def ST_SCRUB.LAST_REPAIR : Fld := ⟨.st, 0x28, 45, 1, .ro, .lit 0, false, true⟩

/-- R205 (RO): A frame could not be repaired (R192). Cleared when a load covering the stope completes. -/
def ST_SCRUB.FRAME_LOST : Fld := ⟨.st, 0x28, 46, 1, .ro, .lit 0, false, true⟩

/-- R205 (WO): Requested position, 0–64 (R202) -/
def ST_REPAIR.REQ_POS : Fld := ⟨.st, 0x30, 0, 7, .wo, .lit 0, false, true⟩

/-- R205 (WO): 1: request the repair -/
def ST_REPAIR.GO : Fld := ⟨.st, 0x30, 7, 1, .wo, .lit 0, false, true⟩

/-- R205 (RO): Position in force; 64 means no repair. Cold value from the device fuse map. Kept by WARM. -/
def ST_REPAIR.POS : Fld := ⟨.st, 0x30, 8, 7, .ro, .fuse .stRepairPos, true, true⟩

/-- R205 (RO): Re-fill in progress -/
def ST_REPAIR.REFILL : Fld := ⟨.st, 0x30, 15, 1, .ro, .lit 0, false, true⟩

/-- R205 (RW1C): A request was refused -/
def ST_REPAIR.REP_ERR : Fld := ⟨.st, 0x30, 16, 1, .rw1c, .lit 0, false, true⟩

/-- R205 (RO): 1: POS was set in service. Kept by WARM. -/
def ST_REPAIR.IN_SERVICE : Fld := ⟨.st, 0x30, 17, 1, .ro, .lit 0, true, true⟩

/-- R206 (RW): Scrubber enabled. A change from 0 to 1 starts a new pass at frame 0. The pass cut short does not ... -/
def SB_CTRL.EN : Fld := ⟨.sb, 0x0, 0, 1, .rw, .lit 1, false, false⟩

/-- R206 (RW): Cover the peer's half on PEER_FAULT (R200) -/
def SB_CTRL.AUTO_TAKEOVER : Fld := ⟨.sb, 0x0, 1, 1, .rw, .lit 1, false, false⟩

/-- R206 (RW): Gallery cycles per frame (R190). Writes below 32 act as 32. -/
def SB_CTRL.INTERVAL : Fld := ⟨.sb, 0x0, 8, 12, .rw, .lit 173, false, false⟩

/-- R206 (RO): 0: disabled or idle; 1: scanning; 2: paused (R194); 3: repairing -/
def SB_STATUS.STATE : Fld := ⟨.sb, 0x8, 0, 2, .ro, .lit 0, false, false⟩

/-- R206 (RW1C): The peer failed a check (R199) -/
def SB_STATUS.PEER_FAULT : Fld := ⟨.sb, 0x8, 2, 1, .rw1c, .lit 0, false, false⟩

/-- R206 (RO): Covering the peer's half -/
def SB_STATUS.TAKEOVER : Fld := ⟨.sb, 0x8, 3, 1, .ro, .lit 0, false, false⟩

/-- R206 (RO): No control refresh for 8 ms -/
def SB_STATUS.REFRESH_LOST : Fld := ⟨.sb, 0x8, 4, 1, .ro, .lit 0, false, false⟩

/-- R206 (RW1C): A write failed its address parity (R201) -/
def SB_STATUS.WR_REJECT : Fld := ⟨.sb, 0x8, 5, 1, .rw1c, .lit 0, false, false⟩

/-- R206 (RW1C): Restarted by the Foreman after a fault -/
def SB_STATUS.RESTARTED : Fld := ⟨.sb, 0x8, 6, 1, .rw1c, .lit 0, false, false⟩

/-- R206 (RC): Copies corrected by refresh, saturating at 255 -/
def SB_STATUS.VOTE_FIX : Fld := ⟨.sb, 0x8, 16, 8, .rc, .lit 0, false, false⟩

/-- R206 (RO): Frames read in the current pass -/
def SB_PROGRESS.POS : Fld := ⟨.sb, 0x10, 0, 20, .ro, .lit 0, false, false⟩

/-- R206 (RO): Completed passes, wrapping -/
def SB_PROGRESS.PASS : Fld := ⟨.sb, 0x10, 32, 32, .ro, .lit 0, false, false⟩

/-- R206 (RO): Stroke tally as each register's purpose gives (R190, R197, R194) -/
def SB_PASS_TALLY.TALLY : Fld := ⟨.sb, 0x18, 0, 64, .ro, .lit 0, false, false⟩

/-- R206 (RO): Stroke tally as each register's purpose gives (R190, R197, R194) -/
def SB_PREV_TALLY.TALLY : Fld := ⟨.sb, 0x20, 0, 64, .ro, .lit 0, false, false⟩

/-- R206 (RO): Stroke tally as each register's purpose gives (R190, R197, R194) -/
def SB_PAUSE_TALLY.TALLY : Fld := ⟨.sb, 0x28, 0, 64, .ro, .lit 0, false, false⟩

/-- R206 (RC): Words corrected, saturating -/
def SB_COUNTS.CORR_WORDS : Fld := ⟨.sb, 0x30, 0, 24, .rc, .lit 0, false, false⟩

/-- R206 (RC): Frames repaired, saturating -/
def SB_COUNTS.REPAIRED : Fld := ⟨.sb, 0x30, 24, 16, .rc, .lit 0, false, false⟩

/-- R206 (RC): Failed repairs, saturating -/
def SB_COUNTS.LOST : Fld := ⟨.sb, 0x30, 40, 16, .rc, .lit 0, false, false⟩

/-- R206 (RW): Frame address, which must lie in this scrubber's seam -/
def SB_INJ.FADDR : Fld := ⟨.sb, 0x38, 0, 32, .rw, .lit 0, false, false⟩

/-- R206 (RW): Word 0–63 -/
def SB_INJ.WORD : Fld := ⟨.sb, 0x38, 32, 6, .rw, .lit 0, false, false⟩

/-- R206 (RW): First bit to invert, 0–71; 64–71 are check bits -/
def SB_INJ.BITA : Fld := ⟨.sb, 0x38, 38, 7, .rw, .lit 0, false, false⟩

/-- R206 (RW): Second bit, used when TWO is 1 -/
def SB_INJ.BITB : Fld := ⟨.sb, 0x38, 45, 7, .rw, .lit 0, false, false⟩

/-- R206 (RW): Invert two bits -/
def SB_INJ.TWO : Fld := ⟨.sb, 0x38, 52, 1, .rw, .lit 0, false, false⟩

/-- R206 (WO): 1: invert the bits in the stored word without changing the other bits, through one frame-network ... -/
def SB_INJ.GO : Fld := ⟨.sb, 0x38, 53, 1, .wo, .lit 0, false, false⟩

/-- R206 (RW1C): A GO was ignored -/
def SB_INJ.INJ_ERR : Fld := ⟨.sb, 0x38, 54, 1, .rw1c, .lit 0, false, false⟩

/-- R206 (RO): Bit b: SPOIL of the stope with seam-local index 64i + b. In SB_SPOIL2, bits [63:32] are reserved.... -/
def SB_SPOIL.SPOIL : Fld := ⟨.sb, 0x100, 0, 64, .ro, .lit 0, false, false⟩

/-- R232 (RO): State code (R207) -/
def WD_STATUS.STATE : Fld := ⟨.wd, 0x0, 0, 3, .ro, .lit 0, false, false⟩

/-- R232 (RO): This part is the leader, or solo -/
def WD_STATUS.LEADER : Fld := ⟨.wd, 0x0, 3, 1, .ro, .lit 1, false, false⟩

/-- R232 (RO): Group formed, or solo (R218) -/
def WD_STATUS.FORMED : Fld := ⟨.wd, 0x0, 4, 1, .ro, .lit 1, false, false⟩

/-- R232 (RO): Replay armed and the tally below WD_REPLAY_END -/
def WD_STATUS.REPLAYING : Fld := ⟨.wd, 0x0, 5, 1, .ro, .lit 0, false, false⟩

/-- R232 (RO): Replay armed (R227) -/
def WD_STATUS.REPLAY_ARMED : Fld := ⟨.wd, 0x0, 6, 1, .ro, .lit 0, false, false⟩

/-- R232 (RO): Cause of the last stop. 0: none; 1: command target; 2: TRIGGER; 3: RECOVERY; 4: CHAIN; 5: HALT; 6... -/
def WD_STATUS.STOP_CAUSE : Fld := ⟨.wd, 0x0, 8, 4, .ro, .lit 0, false, false⟩

/-- R232 (RO): In WD_TALLY: stroke tally (R209). Kept by CHAIN. -/
def WD_TALLY.TALLY : Fld := ⟨.wd, 0x8, 0, 64, .ro, .lit 0, false, false⟩

/-- R232 (RO): In WD_HORIZON: this part's horizon (R221) -/
def WD_HORIZON.H : Fld := ⟨.wd, 0x28, 0, 64, .ro, .lit 0, false, false⟩

/-- R232 (RO): In WD_STOP_TALLY: lowest scheduled STOP; all ones when none -/
def WD_STOP_TALLY.S : Fld := ⟨.wd, 0x30, 0, 64, .ro, .lit 0xffffffffffffffff, false, false⟩

/-- R232 (RO): In WD_REPLAY_END: tally at which replay ends -/
def WD_REPLAY_END.END : Fld := ⟨.wd, 0x38, 0, 64, .ro, .lit 0, false, false⟩

/-- R232 (RW): Operand of the next command (R225) -/
def WD_CMD_ARG.ARG : Fld := ⟨.wd, 0x10, 0, 64, .rw, .lit 0, false, false⟩

/-- R232 (WO): Command (R225). 0x0 and 0x8–0xF are refused with ARG. -/
def WD_CMD.OP : Fld := ⟨.wd, 0x18, 0, 4, .wo, .lit 0, false, false⟩

/-- R232 (WO): BACKFILL of this part's isolated stopes only -/
def WD_CMD.STOPES : Fld := ⟨.wd, 0x18, 4, 1, .wo, .lit 0, false, false⟩

/-- R232 (WO): Trigger actions apply during replay (R217) -/
def WD_CMD.REPLAY_TRIG : Fld := ⟨.wd, 0x18, 5, 1, .wo, .lit 0, false, false⟩

/-- R232 (RO): A command is in progress -/
def WD_CMD_STATUS.BUSY : Fld := ⟨.wd, 0x20, 0, 1, .ro, .lit 0, false, false⟩

/-- R232 (RW1C): A command completed -/
def WD_CMD_STATUS.DONE : Fld := ⟨.wd, 0x20, 1, 1, .rw1c, .lit 0, false, false⟩

/-- R232 (RW1C): A command was refused -/
def WD_CMD_STATUS.REFUSED : Fld := ⟨.wd, 0x20, 2, 1, .rw1c, .lit 0, false, false⟩

/-- R232 (RO): OP of the last command written -/
def WD_CMD_STATUS.LAST_OP : Fld := ⟨.wd, 0x20, 8, 4, .ro, .lit 0, false, false⟩

/-- R232 (RO): Result code (R226) -/
def WD_CMD_STATUS.RESULT : Fld := ⟨.wd, 0x20, 16, 4, .ro, .lit 0, false, false⟩

/-- R232 (RW): Group identity (R218, R229) -/
def WD_GROUP_CTRL.GROUP_ID : Fld := ⟨.wd, 0x40, 0, 16, .rw, .lit 0, false, false⟩

/-- R232 (RW): Members, 1 to 256. A write of 0 or above 256 leaves the field unchanged and sets GROUP_ERR. -/
def WD_GROUP_CTRL.SIZE : Fld := ⟨.wd, 0x40, 16, 9, .rw, .lit 1, false, false⟩

/-- R232 (RW): 1: join the group; 0: solo -/
def WD_GROUP_CTRL.JOIN : Fld := ⟨.wd, 0x40, 25, 1, .rw, .lit 0, false, false⟩

/-- R232 (RW): Candidate for leader (R219) -/
def WD_GROUP_CTRL.LEAD_EN : Fld := ⟨.wd, 0x40, 26, 1, .rw, .lit 1, false, false⟩

/-- R232 (RW): Silent recovery (R228); the leader's value applies -/
def WD_GROUP_CTRL.AUTO_REWIND : Fld := ⟨.wd, 0x40, 27, 1, .rw, .lit 0, false, false⟩

/-- R232 (RO): Members seen, including this part -/
def WD_GROUP_STATUS.MEMBERS : Fld := ⟨.wd, 0x48, 0, 9, .ro, .lit 1, false, false⟩

/-- R232 (RO): Bellwire address of the leader -/
def WD_GROUP_STATUS.LEADER_ADDR : Fld := ⟨.wd, 0x48, 16, 8, .ro, .lit 0, false, false⟩

/-- R232 (RW1C): Members disagreed at a RUN check (R220) -/
def WD_GROUP_STATUS.MISMATCH : Fld := ⟨.wd, 0x48, 24, 1, .rw1c, .lit 0, false, false⟩

/-- R232 (RW1C): Group settings conflict or a refused write (R218, R229) -/
def WD_GROUP_STATUS.GROUP_ERR : Fld := ⟨.wd, 0x48, 25, 1, .rw1c, .lit 0, false, false⟩

/-- R232 (RW1C): The tally did not change for STALL_LIMIT (R224) -/
def WD_GROUP_STATUS.GROUP_STALL : Fld := ⟨.wd, 0x48, 26, 1, .rw1c, .lit 0, false, false⟩

/-- R232 (RW1C): A CHAIN ended the group during a run (R223) -/
def WD_GROUP_STATUS.LEADER_LOST : Fld := ⟨.wd, 0x48, 27, 1, .rw1c, .lit 0, false, false⟩

/-- R232 (RW): Grant window W = 2^value strokes, 10 to 31. Other values leave the field unchanged. The leader's ... -/
def WD_GRANT.WINDOW_LOG2 : Fld := ⟨.wd, 0x50, 0, 5, .rw, .lit 20, false, false⟩

/-- R232 (RW): Stall watchdog in ms; 0 disables it -/
def WD_GRANT.STALL_LIMIT : Fld := ⟨.wd, 0x50, 16, 16, .rw, .lit 100, false, false⟩

/-- R232 (RO): Bit 2q + h: the gate waits on that sub-port's frames -/
def WD_GATE_WAIT.PORT_WAIT : Fld := ⟨.wd, 0x58, 0, 32, .ro, .lit 0, false, false⟩

/-- R232 (RO): The gate waits on a grant -/
def WD_GATE_WAIT.HORIZON_WAIT : Fld := ⟨.wd, 0x58, 32, 1, .ro, .lit 0, false, false⟩

/-- R232 (RO): A stope holds the part (R212) -/
def WD_GATE_WAIT.STOPE_WAIT : Fld := ⟨.wd, 0x58, 33, 1, .ro, .lit 0, false, false⟩

/-- R232 (RO): Hold phases for the register's reason (R212), or active phases in WD_PHASES. Wraps. Cleared when ... -/
def WD_HOLDS_FRAME.COUNT : Fld := ⟨.wd, 0x60, 0, 64, .ro, .lit 0, false, false⟩

/-- R232 (RO): Hold phases for the register's reason (R212), or active phases in WD_PHASES. Wraps. Cleared when ... -/
def WD_HOLDS_GRANT.COUNT : Fld := ⟨.wd, 0x68, 0, 64, .ro, .lit 0, false, false⟩

/-- R232 (RO): Hold phases for the register's reason (R212), or active phases in WD_PHASES. Wraps. Cleared when ... -/
def WD_HOLDS_STOPE.COUNT : Fld := ⟨.wd, 0x70, 0, 64, .ro, .lit 0, false, false⟩

/-- R232 (RO): Hold phases for the register's reason (R212), or active phases in WD_PHASES. Wraps. Cleared when ... -/
def WD_HOLDS_SAMPLE.COUNT : Fld := ⟨.wd, 0x78, 0, 64, .ro, .lit 0, false, false⟩

/-- R232 (RO): Hold phases for the register's reason (R212), or active phases in WD_PHASES. Wraps. Cleared when ... -/
def WD_PHASES.COUNT : Fld := ⟨.wd, 0x80, 0, 64, .ro, .lit 0, false, false⟩

/-- R232 (RW): P_j / 2, from 1 to 0x8000_0000 (R111, R229) -/
def WD_CLK_CFG.HALF : Fld := ⟨.wd, 0x100, 0, 32, .rw, .lit 1, false, false⟩

/-- R232 (RW): O_j, below 2 × HALF -/
def WD_CLK_CFG.OFFSET : Fld := ⟨.wd, 0x100, 32, 32, .rw, .lit 0, false, false⟩

/-- R232 (RW): Bit j: line j enabled (R112) -/
def WD_CLK_CTRL.EN : Fld := ⟨.wd, 0x180, 0, 16, .rw, .lit 0, false, false⟩

/-- R232 (RW1C): A clock-line write was refused -/
def WD_CLK_CTRL.CFG_ERR : Fld := ⟨.wd, 0x180, 16, 1, .rw1c, .lit 0, false, false⟩

/-- R232 (RO): CRC of the line parameters at the last RUN check (R229) -/
def WD_CLK_CTRL.CRC : Fld := ⟨.wd, 0x180, 32, 32, .ro, .lit 0, false, false⟩

/-- R232 (RW): Trigger enabled -/
def WD_TRIG_CFG.EN : Fld := ⟨.wd, 0x200, 0, 1, .rw, .lit 0, false, false⟩

/-- R232 (RW): 0: LEVEL; 1: RISING; 2: FALLING. A write of 3 leaves the field unchanged. -/
def WD_TRIG_CFG.MATCH : Fld := ⟨.wd, 0x200, 1, 2, .rw, .lit 0, false, false⟩

/-- R232 (RW): Action: raise TRIG -/
def WD_TRIG_CFG.IRQ : Fld := ⟨.wd, 0x200, 3, 1, .rw, .lit 0, false, false⟩

/-- R232 (RW): Action: stop report -/
def WD_TRIG_CFG.STOP : Fld := ⟨.wd, 0x200, 4, 1, .rw, .lit 0, false, false⟩

/-- R232 (RW): Action: sample report -/
def WD_TRIG_CFG.SAMPLE : Fld := ⟨.wd, 0x200, 5, 1, .rw, .lit 0, false, false⟩

/-- R232 (RW): Sample slot that the SAMPLE action names (R216) -/
def WD_TRIG_CFG.SLOT : Fld := ⟨.wd, 0x200, 6, 4, .rw, .lit 0, false, false⟩

/-- R232 (RW): First tally of the window (R215) -/
def WD_TRIG_START.START : Fld := ⟨.wd, 0x208, 0, 64, .rw, .lit 0, false, false⟩

/-- R232 (RW): First tally after the window; 0 means no end -/
def WD_TRIG_END.END : Fld := ⟨.wd, 0x210, 0, 64, .rw, .lit 0, false, false⟩

/-- R232 (RO): Tally of the first hit since HIT j was last clear (R216) -/
def WD_TRIG_HIT.HIT : Fld := ⟨.wd, 0x218, 0, 64, .ro, .lit 0, false, false⟩

/-- R232 (RW1C): Bit j: trigger j has hit -/
def WD_TRIG_STATUS.HIT : Fld := ⟨.wd, 0x400, 0, 16, .rw1c, .lit 0, false, false⟩

/-- R232 (RO): Bit 16 + j: net j in the last stroke evaluated (R214) -/
def WD_TRIG_STATUS.VALUE : Fld := ⟨.wd, 0x400, 16, 16, .ro, .lit 0, false, false⟩

/-- R232 (RW): In WD_IRQ_EN: bit b enables source b -/
def WD_IRQ_EN.EN : Fld := ⟨.wd, 0x408, 0, 5, .rw, .lit 0, false, false⟩

/-- R232 (RW1C): In WD_IRQ_STATUS: bit 0 CMD_DONE (DONE or REFUSED set); bit 1 STOPPED (the group stopped); bit 2 ... -/
def WD_IRQ_STATUS.SRC : Fld := ⟨.wd, 0x410, 0, 5, .rw1c, .lit 0, false, false⟩

/-- R232 (RW): In WD_IRQ_EN: MSI-X vector, 0 to 2,047 -/
def WD_IRQ_EN.VECTOR : Fld := ⟨.wd, 0x408, 16, 11, .rw, .lit 0, false, false⟩

/-- R259 (RO): Bit p: port p's ready bit (R257) -/
def XC_LINK_SUMMARY.READY : Fld := ⟨.xc, 0x0, 0, 16, .ro, .lit 0, false, false⟩

/-- R259 (RO): Bit 16 + s: sub-port s is up (R248) -/
def XC_LINK_SUMMARY.LINK_UP : Fld := ⟨.xc, 0x0, 16, 32, .ro, .lit 0, false, false⟩

/-- R259 (RW): In XC_IRQ_EN: enable the down source of sub-port s -/
def XC_IRQ_EN.DOWN : Fld := ⟨.xc, 0x8, 0, 32, .rw, .lit 0, false, false⟩

/-- R259 (RW1C): In XC_IRQ_STATUS: sub-port s went down -/
def XC_IRQ_STATUS.DOWN : Fld := ⟨.xc, 0x10, 0, 32, .rw1c, .lit 0, false, false⟩

/-- R259 (RW): In XC_IRQ_EN: enable the up source of sub-port s − 32 -/
def XC_IRQ_EN.UP : Fld := ⟨.xc, 0x8, 32, 32, .rw, .lit 0, false, false⟩

/-- R259 (RW1C): In XC_IRQ_STATUS: sub-port s − 32 came up -/
def XC_IRQ_STATUS.UP : Fld := ⟨.xc, 0x10, 32, 32, .rw1c, .lit 0, false, false⟩

/-- R259 (RW): MSI-X vector, 0 to 2,047 -/
def XC_IRQ_VEC.VECTOR : Fld := ⟨.xc, 0x18, 0, 11, .rw, .lit 0, false, false⟩

/-- R260 (RW): Enable sub-port 2p (R256) -/
def XC_PORT_CTRL.EN_A : Fld := ⟨.xcp, 0x0, 0, 1, .rw, .lit 0, false, false⟩

/-- R260 (RW): Enable sub-port 2p + 1; only with SPLIT = 1 -/
def XC_PORT_CTRL.EN_B : Fld := ⟨.xcp, 0x0, 1, 1, .rw, .lit 0, false, false⟩

/-- R260 (RW): 1: two x4 sub-ports -/
def XC_PORT_CTRL.SPLIT : Fld := ⟨.xcp, 0x0, 2, 1, .rw, .lit 0, false, false⟩

/-- R260 (RW): Rate code (R235) -/
def XC_PORT_CTRL.RATE_A : Fld := ⟨.xcp, 0x0, 4, 3, .rw, .lit 0, false, false⟩

/-- R260 (RW): Rate code -/
def XC_PORT_CTRL.RATE_B : Fld := ⟨.xcp, 0x0, 8, 3, .rw, .lit 0, false, false⟩

/-- R260 (RW): FEC on for sub-port 2p -/
def XC_PORT_CTRL.FEC_A : Fld := ⟨.xcp, 0x0, 12, 1, .rw, .lit 1, false, false⟩

/-- R260 (RW): FEC on for sub-port 2p + 1 -/
def XC_PORT_CTRL.FEC_B : Fld := ⟨.xcp, 0x0, 13, 1, .rw, .lit 1, false, false⟩

/-- R260 (RO): Lane PLL locked -/
def XC_PORT_STATUS.PLL_LOCK : Fld := ⟨.xcp, 0x8, 0, 1, .ro, .lit 0, false, false⟩

/-- R260 (RO): 0: A; 1: B -/
def XC_PORT_STATUS.PLL_FAMILY : Fld := ⟨.xcp, 0x8, 1, 1, .ro, .lit 0, false, false⟩

/-- R260 (RO): Sub-port 2p up -/
def XC_PORT_STATUS.LINK_UP_A : Fld := ⟨.xcp, 0x8, 2, 1, .ro, .lit 0, false, false⟩

/-- R260 (RO): Sub-port 2p + 1 up -/
def XC_PORT_STATUS.LINK_UP_B : Fld := ⟨.xcp, 0x8, 3, 1, .ro, .lit 0, false, false⟩

/-- R260 (RW1C): A control write was refused -/
def XC_PORT_STATUS.CFG_ERR : Fld := ⟨.xcp, 0x8, 4, 1, .rw1c, .lit 0, false, false⟩

/-- R260 (RW1C): Peer check failed (R247) -/
def XC_PORT_STATUS.PEER_ERR_A : Fld := ⟨.xcp, 0x8, 5, 1, .rw1c, .lit 0, false, false⟩

/-- R260 (RW1C): As PEER_ERR_A, for B -/
def XC_PORT_STATUS.PEER_ERR_B : Fld := ⟨.xcp, 0x8, 6, 1, .rw1c, .lit 0, false, false⟩

/-- R260 (RW1C): Skew above 32 ns -/
def XC_PORT_STATUS.DESKEW_ERR_A : Fld := ⟨.xcp, 0x8, 7, 1, .rw1c, .lit 0, false, false⟩

/-- R260 (RW1C): As DESKEW_ERR_A, for B -/
def XC_PORT_STATUS.DESKEW_ERR_B : Fld := ⟨.xcp, 0x8, 8, 1, .rw1c, .lit 0, false, false⟩

/-- R260 (RO): Largest deskew delay, in Gallery cycles, 0 to 39 -/
def XC_PORT_STATUS.SKEW_A : Fld := ⟨.xcp, 0x8, 16, 6, .ro, .lit 0, false, false⟩

/-- R260 (RO): As SKEW_A, for B -/
def XC_PORT_STATUS.SKEW_B : Fld := ⟨.xcp, 0x8, 24, 6, .ro, .lit 0, false, false⟩

/-- R260 (RC): Link-down events, saturating at 255 -/
def XC_PORT_STATUS.DOWNS_A : Fld := ⟨.xcp, 0x8, 32, 8, .rc, .lit 0, false, false⟩

/-- R260 (RC): As DOWNS_A, for B -/
def XC_PORT_STATUS.DOWNS_B : Fld := ⟨.xcp, 0x8, 40, 8, .rc, .lit 0, false, false⟩

/-- R261 (RW): Transmitter sleep (R249) -/
def XC_LANE_CTRL.TX_SLEEP : Fld := ⟨.xcp, 0x1000, 0, 1, .rw, .lit 0, false, false⟩

/-- R261 (RW): Receiver sleep (R250) -/
def XC_LANE_CTRL.RX_SLEEP : Fld := ⟨.xcp, 0x1000, 1, 1, .rw, .lit 0, false, false⟩

/-- R261 (RW): Invert transmit polarity -/
def XC_LANE_CTRL.TX_INV : Fld := ⟨.xcp, 0x1000, 2, 1, .rw, .lit 0, false, false⟩

/-- R261 (RW): Invert receive polarity; set by hardware under AUTO_INV -/
def XC_LANE_CTRL.RX_INV : Fld := ⟨.xcp, 0x1000, 3, 1, .rw, .lit 0, false, false⟩

/-- R261 (RW): Correct polarity from a complement comma (R245) -/
def XC_LANE_CTRL.AUTO_INV : Fld := ⟨.xcp, 0x1000, 4, 1, .rw, .lit 1, false, false⟩

/-- R261 (RW): PAM4 precoding, both directions (R237) -/
def XC_LANE_CTRL.PRECODE : Fld := ⟨.xcp, 0x1000, 5, 1, .rw, .lit 0, false, false⟩

/-- R261 (RW): 0: automatic; 1: manual (R246) -/
def XC_LANE_CTRL.ALIGN_MODE : Fld := ⟨.xcp, 0x1000, 6, 1, .rw, .lit 0, false, false⟩

/-- R261 (RW): Hold the equaliser coefficients -/
def XC_LANE_CTRL.ADAPT_FREEZE : Fld := ⟨.xcp, 0x1000, 7, 1, .rw, .lit 0, false, false⟩

/-- R261 (RW): 0: none; 1: PRBS31; 2: near-end loopback; 3: reserved (R255) -/
def XC_LANE_CTRL.TEST : Fld := ⟨.xcp, 0x1000, 8, 2, .rw, .lit 0, false, false⟩

/-- R261 (RW1C): A TEST write was refused -/
def XC_LANE_CTRL.LANE_CFG_ERR : Fld := ⟨.xcp, 0x1000, 10, 1, .rw1c, .lit 0, false, false⟩

/-- R261 (WO): Move the boundary this many bits later (R246) -/
def XC_LANE_SLIP.SLIP : Fld := ⟨.xcp, 0x1008, 0, 19, .wo, .lit 0, false, false⟩

/-- R261 (RW): Pre-cursor tap, in 1/64 of full swing -/
def XC_LANE_TXEQ.PRE : Fld := ⟨.xcp, 0x1010, 0, 4, .rw, .lit 4, false, false⟩

/-- R261 (RW): Post-cursor tap, in 1/64; main tap = 64 − PRE − POST -/
def XC_LANE_TXEQ.POST : Fld := ⟨.xcp, 0x1010, 8, 5, .rw, .lit 8, false, false⟩

/-- R261 (RW): Swing code 0 to 15; 15 gives the maximum of R258 -/
def XC_LANE_TXEQ.AMP : Fld := ⟨.xcp, 0x1010, 16, 4, .rw, .lit 12, false, false⟩

/-- R261 (RW1C): A write was refused (R257) -/
def XC_LANE_TXEQ.EQ_ERR : Fld := ⟨.xcp, 0x1010, 20, 1, .rw1c, .lit 0, false, false⟩

/-- R261 (RO): Receiver state (R243) -/
def XC_LANE_STATUS.RX_STATE : Fld := ⟨.xcp, 0x1018, 0, 3, .ro, .lit 0, false, false⟩

/-- R261 (RO): 0: OFF; 1: ON; 2: ENTERING; 3: SLEEP; 4: WAKING -/
def XC_LANE_STATUS.TX_STATE : Fld := ⟨.xcp, 0x1018, 4, 3, .ro, .lit 0, false, false⟩

/-- R261 (RO): Loss of signal (R244) -/
def XC_LANE_STATUS.LOS : Fld := ⟨.xcp, 0x1018, 8, 1, .ro, .lit 1, false, false⟩

/-- R261 (RO): CDR locked -/
def XC_LANE_STATUS.CDR_LOCK : Fld := ⟨.xcp, 0x1018, 9, 1, .ro, .lit 0, false, false⟩

/-- R261 (RW1C): Polarity corrected by hardware -/
def XC_LANE_STATUS.INV_SEEN : Fld := ⟨.xcp, 0x1018, 10, 1, .rw1c, .lit 0, false, false⟩

/-- R261 (RW1C): SLEEP blocks received (R249) -/
def XC_LANE_STATUS.PEER_SLEEP : Fld := ⟨.xcp, 0x1018, 11, 1, .rw1c, .lit 0, false, false⟩

/-- R261 (RW1C): A SLIP write was ignored -/
def XC_LANE_STATUS.SLIP_ERR : Fld := ⟨.xcp, 0x1018, 12, 1, .rw1c, .lit 0, false, false⟩

/-- R261 (RW1C): A GO was refused (R254) -/
def XC_LANE_STATUS.EYE_ERR : Fld := ⟨.xcp, 0x1018, 13, 1, .rw1c, .lit 0, false, false⟩

/-- R261 (RO): Bits from the boundary to the last comma found (R246) -/
def XC_LANE_STATUS.COMMA_OFS : Fld := ⟨.xcp, 0x1018, 32, 19, .ro, .lit 0, false, false⟩

/-- R261 (RC): Entries to SEARCH from ALIGNED or READY, saturating at 255 -/
def XC_LANE_STATUS.ALIGN_LOST : Fld := ⟨.xcp, 0x1018, 56, 8, .rc, .lit 0, false, false⟩

/-- R261 (RO): From the latest alignment block whose CCRC passed (R239) -/
def XC_LANE_PEER.PART : Fld := ⟨.xcp, 0x1020, 0, 8, .ro, .lit 0, false, false⟩

/-- R261 (RO): As PART -/
def XC_LANE_PEER.PORT : Fld := ⟨.xcp, 0x1020, 8, 4, .ro, .lit 0, false, false⟩

/-- R261 (RO): As PART -/
def XC_LANE_PEER.LANE : Fld := ⟨.xcp, 0x1020, 12, 3, .ro, .lit 0, false, false⟩

/-- R261 (RO): As PART -/
def XC_LANE_PEER.FEC : Fld := ⟨.xcp, 0x1020, 15, 1, .ro, .lit 0, false, false⟩

/-- R261 (RO): As PART -/
def XC_LANE_PEER.RATE : Fld := ⟨.xcp, 0x1020, 16, 3, .ro, .lit 0, false, false⟩

/-- R261 (RO): As PART -/
def XC_LANE_PEER.SPLIT : Fld := ⟨.xcp, 0x1020, 19, 1, .ro, .lit 0, false, false⟩

/-- R261 (RO): Fields hold a received block; cleared on entry to OFF, SLEEP or CDR -/
def XC_LANE_PEER.VALID : Fld := ⟨.xcp, 0x1020, 20, 1, .ro, .lit 0, false, false⟩

/-- R261 (RC): Codewords with corrections, saturating (R240) -/
def XC_LANE_FEC.CW_CORR : Fld := ⟨.xcp, 0x1028, 0, 32, .rc, .lit 0, false, false⟩

/-- R261 (RC): Uncorrectable codewords, saturating (R241) -/
def XC_LANE_FEC.CW_UNCORR : Fld := ⟨.xcp, 0x1028, 32, 16, .rc, .lit 0, false, false⟩

/-- R261 (RC): Most symbols corrected in one codeword, 0 to 15 -/
def XC_LANE_FEC.MAX_SYM : Fld := ⟨.xcp, 0x1028, 48, 4, .rc, .lit 0, false, false⟩

/-- R261 (RC): Control blocks dropped (R238), saturating -/
def XC_LANE_ERR.CTRL_CRC : Fld := ⟨.xcp, 0x1030, 0, 16, .rc, .lit 0, false, false⟩

/-- R261 (RC): Differing bits in seen commas (R245), saturating -/
def XC_LANE_ERR.COMMA_BITS : Fld := ⟨.xcp, 0x1030, 16, 16, .rc, .lit 0, false, false⟩

/-- R261 (RC): PRBS31 bit errors (R255), saturating -/
def XC_LANE_ERR.PRBS_ERR : Fld := ⟨.xcp, 0x1030, 32, 32, .rc, .lit 0, false, false⟩

/-- R261 (RW): Signed, −64 to +63, in 1/128 UI (R253) -/
def XC_LANE_EYE_CTRL.PHASE : Fld := ⟨.xcp, 0x1038, 0, 7, .rw, .lit 0, false, false⟩

/-- R261 (RW): Signed, −128 to +127, in 1/256 of full scale -/
def XC_LANE_EYE_CTRL.VOFF : Fld := ⟨.xcp, 0x1038, 8, 8, .rw, .lit 0, false, false⟩

/-- R261 (RW): 0: lower; 1: middle; 2: upper; 3: reserved -/
def XC_LANE_EYE_CTRL.EYE : Fld := ⟨.xcp, 0x1038, 16, 2, .rw, .lit 1, false, false⟩

/-- R261 (RW): Dwell of 2^value UI, 16 to 40; other values leave the field unchanged -/
def XC_LANE_EYE_CTRL.DWELL_LOG2 : Fld := ⟨.xcp, 0x1038, 18, 6, .rw, .lit 20, false, false⟩

/-- R261 (WO): 1: start a scan (R254) -/
def XC_LANE_EYE_CTRL.GO : Fld := ⟨.xcp, 0x1038, 24, 1, .wo, .lit 0, false, false⟩

/-- R261 (RO): Scan running -/
def XC_LANE_EYE_RESULT.BUSY : Fld := ⟨.xcp, 0x1040, 0, 1, .ro, .lit 0, false, false⟩

/-- R261 (RO): The last scan completed; cleared by GO -/
def XC_LANE_EYE_RESULT.VALID : Fld := ⟨.xcp, 0x1040, 1, 1, .ro, .lit 0, false, false⟩

/-- R261 (RO): The last scan was aborted; cleared by GO -/
def XC_LANE_EYE_RESULT.ABORTED : Fld := ⟨.xcp, 0x1040, 2, 1, .ro, .lit 0, false, false⟩

/-- R261 (RO): Mismatches in the last scan, saturating at 2^40 − 1 -/
def XC_LANE_EYE_RESULT.ERRORS : Fld := ⟨.xcp, 0x1040, 8, 40, .ro, .lit 0, false, false⟩

/-- R284 (RW): Sub-port 2p gated (R268). A refused write leaves the field unchanged. -/
def XC_XP_CTRL.GATE_A : Fld := ⟨.xcp, 0x100, 0, 1, .rw, .lit 0, false, false⟩

/-- R284 (RW): Sub-port 2p + 1 gated -/
def XC_XP_CTRL.GATE_B : Fld := ⟨.xcp, 0x100, 1, 1, .rw, .lit 0, false, false⟩

/-- R284 (RW): 0: lockstep; 1: registered (R264) -/
def XC_XP_CTRL.MODE_A : Fld := ⟨.xcp, 0x100, 2, 1, .rw, .lit 0, false, false⟩

/-- R284 (RW): As MODE_A -/
def XC_XP_CTRL.MODE_B : Fld := ⟨.xcp, 0x100, 3, 1, .rw, .lit 0, false, false⟩

/-- R284 (RW): d in registered mode, 2 to 31. Other values leave the field unchanged and set XP_CFG_ERR. -/
def XC_XP_CTRL.LAT_A : Fld := ⟨.xcp, 0x100, 4, 5, .rw, .lit 2, false, false⟩

/-- R284 (RW): As LAT_A -/
def XC_XP_CTRL.LAT_B : Fld := ⟨.xcp, 0x100, 9, 5, .rw, .lit 2, false, false⟩

/-- R284 (RW): Half B stands in for half A (R281) -/
def XC_XP_CTRL.ALT_A : Fld := ⟨.xcp, 0x100, 14, 1, .rw, .lit 0, false, false⟩

/-- R284 (RW): Half A stands in for half B -/
def XC_XP_CTRL.ALT_B : Fld := ⟨.xcp, 0x100, 15, 1, .rw, .lit 0, false, false⟩

/-- R284 (RW): Resend timeout in units of 100 ns. A write of 0 acts as 1. -/
def XC_XP_CTRL.RTO : Fld := ⟨.xcp, 0x100, 16, 8, .rw, .lit 20, false, false⟩

/-- R284 (RW): Down time before failover, in units of 10 µs; 0 disables (R283) -/
def XC_XP_CTRL.FAILOVER : Fld := ⟨.xcp, 0x100, 24, 8, .rw, .lit 10, false, false⟩

/-- R284 (RO): Sub-port 2p synchronised (R280) -/
def XC_XP_STATUS.SYNCED_A : Fld := ⟨.xcp, 0x108, 0, 1, .ro, .lit 0, false, false⟩

/-- R284 (RO): As SYNCED_A -/
def XC_XP_STATUS.SYNCED_B : Fld := ⟨.xcp, 0x108, 1, 1, .ro, .lit 0, false, false⟩

/-- R284 (RO): Half A's role is on half B (R283) -/
def XC_XP_STATUS.OVER_A : Fld := ⟨.xcp, 0x108, 2, 1, .ro, .lit 0, false, false⟩

/-- R284 (RO): Half B's role is on half A -/
def XC_XP_STATUS.OVER_B : Fld := ⟨.xcp, 0x108, 3, 1, .ro, .lit 0, false, false⟩

/-- R284 (RW1C): A write was refused or ignored -/
def XC_XP_STATUS.XP_CFG_ERR : Fld := ⟨.xcp, 0x108, 4, 1, .rw1c, .lit 0, false, false⟩

/-- R284 (RW1C): Peer SYNC mismatched -/
def XC_XP_STATUS.SYNC_ERR_A : Fld := ⟨.xcp, 0x108, 5, 1, .rw1c, .lit 0, false, false⟩

/-- R284 (RW1C): As SYNC_ERR_A -/
def XC_XP_STATUS.SYNC_ERR_B : Fld := ⟨.xcp, 0x108, 6, 1, .rw1c, .lit 0, false, false⟩

/-- R284 (RW1C): A stream slipped (R277) -/
def XC_XP_STATUS.SLIP_A : Fld := ⟨.xcp, 0x108, 7, 1, .rw1c, .lit 0, false, false⟩

/-- R284 (RW1C): As SLIP_A -/
def XC_XP_STATUS.SLIP_B : Fld := ⟨.xcp, 0x108, 8, 1, .rw1c, .lit 0, false, false⟩

/-- R284 (RW1C): A frame had no matching entry (R274) -/
def XC_XP_STATUS.STREAM_ERR : Fld := ⟨.xcp, 0x108, 9, 1, .rw1c, .lit 0, false, false⟩

/-- R284 (RW1C): Frames arrived on an ungated sub-port -/
def XC_XP_STATUS.UNGATED_RX : Fld := ⟨.xcp, 0x108, 10, 1, .rw1c, .lit 0, false, false⟩

/-- R284 (RW1C): A frame found no free slot (R276) -/
def XC_XP_STATUS.REPLAY_OVF : Fld := ⟨.xcp, 0x108, 11, 1, .rw1c, .lit 0, false, false⟩

/-- R284 (RW1C): A ROLE_MOVE was ignored -/
def XC_XP_STATUS.FAILOVER_ERR : Fld := ⟨.xcp, 0x108, 12, 1, .rw1c, .lit 0, false, false⟩

/-- R284 (RO): Stream of the last slip -/
def XC_XP_STATUS.SLIP_STREAM : Fld := ⟨.xcp, 0x108, 16, 4, .ro, .lit 0, false, false⟩

/-- R284 (RO): Half of the last slip -/
def XC_XP_STATUS.SLIP_HALF : Fld := ⟨.xcp, 0x108, 20, 1, .ro, .lit 0, false, false⟩

/-- R284 (RO): TALLY received in the last slip -/
def XC_XP_STATUS.SLIP_TALLY : Fld := ⟨.xcp, 0x108, 32, 16, .ro, .lit 0, false, false⟩

/-- R284 (RC): In XC_XP_RETRY: NAKs sent by sub-port 2p, saturating -/
def XC_XP_RETRY.NAK_SENT_A : Fld := ⟨.xcp, 0x110, 0, 16, .rc, .lit 0, false, false⟩

/-- R284 (RC): In XC_XP_RETRY: frames resent, saturating -/
def XC_XP_RETRY.RESENT_A : Fld := ⟨.xcp, 0x110, 16, 16, .rc, .lit 0, false, false⟩

/-- R284 (RC): As NAK_SENT_A, for B -/
def XC_XP_RETRY.NAK_SENT_B : Fld := ⟨.xcp, 0x110, 32, 16, .rc, .lit 0, false, false⟩

/-- R284 (RC): As RESENT_A, for B -/
def XC_XP_RETRY.RESENT_B : Fld := ⟨.xcp, 0x110, 48, 16, .rc, .lit 0, false, false⟩

/-- R284 (RC): In XC_XP_DROP: frames discarded as errored, ahead or failing CRC, saturating -/
def XC_XP_DROP.BAD_A : Fld := ⟨.xcp, 0x118, 0, 16, .rc, .lit 0, false, false⟩

/-- R284 (RC): In XC_XP_DROP: duplicates discarded, saturating -/
def XC_XP_DROP.DUP_A : Fld := ⟨.xcp, 0x118, 16, 16, .rc, .lit 0, false, false⟩

/-- R284 (RC): As BAD_A, for B -/
def XC_XP_DROP.BAD_B : Fld := ⟨.xcp, 0x118, 32, 16, .rc, .lit 0, false, false⟩

/-- R284 (RC): As DUP_A, for B -/
def XC_XP_DROP.DUP_B : Fld := ⟨.xcp, 0x118, 48, 16, .rc, .lit 0, false, false⟩

/-- R284 (RO): SEQ of the next new frame on sub-port 2p -/
def XC_XP_SEQ.TX_NEXT_A : Fld := ⟨.xcp, 0x120, 0, 12, .ro, .lit 0, false, false⟩

/-- R284 (RO): SEQ expected on receive -/
def XC_XP_SEQ.RX_NEXT_A : Fld := ⟨.xcp, 0x120, 12, 12, .ro, .lit 0, false, false⟩

/-- R284 (RO): Replay slots in use, 0 to 64 -/
def XC_XP_SEQ.SLOTS_A : Fld := ⟨.xcp, 0x120, 24, 7, .ro, .lit 0, false, false⟩

/-- R284 (RO): As TX_NEXT_A, for B -/
def XC_XP_SEQ.TX_NEXT_B : Fld := ⟨.xcp, 0x120, 32, 12, .ro, .lit 0, false, false⟩

/-- R284 (RO): As RX_NEXT_A, for B -/
def XC_XP_SEQ.RX_NEXT_B : Fld := ⟨.xcp, 0x120, 44, 12, .ro, .lit 0, false, false⟩

/-- R284 (RO): As SLOTS_A, for B -/
def XC_XP_SEQ.SLOTS_B : Fld := ⟨.xcp, 0x120, 56, 7, .ro, .lit 0, false, false⟩

/-- R284 (RW): Entry enabled (R266, R267) -/
def XC_TXS.EN : Fld := ⟨.xcp, 0x200, 0, 1, .rw, .lit 0, false, false⟩

/-- R284 (RW): Entry enabled (R266, R267) -/
def XC_RXS.EN : Fld := ⟨.xcp, 0x400, 0, 1, .rw, .lit 0, false, false⟩

/-- R284 (RW): In XC_RXSn only: load receive points. Reserved in XC_TXSn. -/
def XC_RXS.DELIVER : Fld := ⟨.xcp, 0x400, 1, 1, .rw, .lit 0, false, false⟩

/-- R284 (RW): In XC_RXSn only: forward (R278). Reserved in XC_TXSn. -/
def XC_RXS.FWD : Fld := ⟨.xcp, 0x400, 2, 1, .rw, .lit 0, false, false⟩

/-- R284 (RW): In XC_RXSn: target port. Reserved in XC_TXSn. -/
def XC_RXS.FWD_PORT : Fld := ⟨.xcp, 0x400, 4, 4, .rw, .lit 0, false, false⟩

/-- R284 (RW): In XC_RXSn: target half. Reserved in XC_TXSn. -/
def XC_RXS.FWD_HALF : Fld := ⟨.xcp, 0x400, 8, 1, .rw, .lit 0, false, false⟩

/-- R284 (RW): In XC_RXSn: outgoing stream. Reserved in XC_TXSn. -/
def XC_RXS.FWD_STREAM : Fld := ⟨.xcp, 0x400, 12, 4, .rw, .lit 0, false, false⟩

/-- R284 (RW): First map entry -/
def XC_TXS.MAP_BASE : Fld := ⟨.xcp, 0x200, 16, 14, .rw, .lit 0, false, false⟩

/-- R284 (RW): First map entry -/
def XC_RXS.MAP_BASE : Fld := ⟨.xcp, 0x400, 16, 14, .rw, .lit 0, false, false⟩

/-- R284 (RW): Cut nets per frame, 0 to 16,384 -/
def XC_TXS.BITS : Fld := ⟨.xcp, 0x200, 32, 15, .rw, .lit 0, false, false⟩

/-- R284 (RW): Cut nets per frame, 0 to 16,384 -/
def XC_RXS.BITS : Fld := ⟨.xcp, 0x400, 32, 15, .rw, .lit 0, false, false⟩

/-- R284 (RW): Seam-local stope index. Above 159: the cut net reads 0 on transmit and loads nothing on receive. -/
def XC_TXMAP.STOPE : Fld := ⟨.xcp, 0x20000, 0, 8, .rw, .lit 0, false, false⟩

/-- R284 (RW): Seam-local stope index. Above 159: the cut net reads 0 on transmit and loads nothing on receive. -/
def XC_RXMAP.STOPE : Fld := ⟨.xcp, 0x40000, 0, 8, .rw, .lit 0, false, false⟩

/-- R284 (RW): Tap (XC_TXMAPe) or receive point (XC_RXMAPe), 0 to 1,023 -/
def XC_TXMAP.POINT : Fld := ⟨.xcp, 0x20000, 8, 10, .rw, .lit 0, false, false⟩

/-- R284 (RW): Tap (XC_TXMAPe) or receive point (XC_RXMAPe), 0 to 1,023 -/
def XC_RXMAP.POINT : Fld := ⟨.xcp, 0x40000, 8, 10, .rw, .lit 0, false, false⟩

/-- R311 (RW): Replay log enabled (R296, R297) -/
def WD_SMP_CTRL.LOG_EN : Fld := ⟨.wd, 0x1000, 0, 1, .rw, .lit 0, false, false⟩

/-- R311 (RW): Page journal enabled (R293) -/
def WD_SMP_CTRL.PJ_EN : Fld := ⟨.wd, 0x1000, 1, 1, .rw, .lit 0, false, false⟩

/-- R311 (RW): Engine acknowledgement limit in µs; a write of 0 acts as 1 -/
def WD_SMP_CTRL.ENG_LIMIT : Fld := ⟨.wd, 0x1000, 16, 16, .rw, .lit 1000, false, false⟩

/-- R311 (RO): Ready for a new sample (R286) -/
def WD_SMP_STATUS.READY : Fld := ⟨.wd, 0x1008, 0, 1, .ro, .lit 1, false, false⟩

/-- R311 (RO): A sample is draining on this part -/
def WD_SMP_STATUS.DRAINING : Fld := ⟨.wd, 0x1008, 1, 1, .ro, .lit 0, false, false⟩

/-- R311 (RW1C): Page-journal reclaim or drop (R295) -/
def WD_SMP_STATUS.PJ_OVF : Fld := ⟨.wd, 0x1008, 2, 1, .rw1c, .lit 0, false, false⟩

/-- R311 (RW1C): Replay-log reclaim or drop (R298) -/
def WD_SMP_STATUS.LOG_OVF : Fld := ⟨.wd, 0x1008, 3, 1, .rw1c, .lit 0, false, false⟩

/-- R311 (RW1C): Silent recovery failed (R310) -/
def WD_SMP_STATUS.RECOVERY_FAIL : Fld := ⟨.wd, 0x1008, 4, 1, .rw1c, .lit 0, false, false⟩

/-- R311 (RW1C): A sample setting write was refused -/
def WD_SMP_STATUS.SMP_CFG_ERR : Fld := ⟨.wd, 0x1008, 5, 1, .rw1c, .lit 0, false, false⟩

/-- R311 (RO): Slot of the newest sample -/
def WD_SMP_STATUS.LAST_SLOT : Fld := ⟨.wd, 0x1008, 8, 4, .ro, .lit 0, false, false⟩

/-- R311 (RO): Slot of the last restore -/
def WD_SMP_STATUS.RESTORED_SLOT : Fld := ⟨.wd, 0x1008, 12, 4, .ro, .lit 0, false, false⟩

/-- R311 (RC): Completed recoveries, saturating at 65,535 -/
def WD_SMP_STATUS.RECOVERIES : Fld := ⟨.wd, 0x1008, 16, 16, .rc, .lit 0, false, false⟩

/-- R311 (RW): Auto-checkpoints enabled (R306) -/
def WD_SMP_AC.AC_EN : Fld := ⟨.wd, 0x1010, 0, 1, .rw, .lit 0, false, false⟩

/-- R311 (RW): Bit s: slot s serves auto-checkpoints (R307) -/
def WD_SMP_AC.AC_SLOTS : Fld := ⟨.wd, 0x1010, 16, 16, .rw, .lit 0x3fff, false, false⟩

/-- R311 (RW): Minimum spacing in units of 65,536 strokes -/
def WD_SMP_AC.AC_MIN : Fld := ⟨.wd, 0x1010, 32, 32, .rw, .lit 160, false, false⟩

/-- R311 (RO): Sequence number of the newest sample or restore (R287, R301) -/
def WD_SMP_SEQ.SEQ : Fld := ⟨.wd, 0x1018, 0, 32, .ro, .lit 0, false, false⟩

/-- R311 (RW): In WD_SMP_ENG: bit e: engine e takes part (R299) -/
def WD_SMP_ENG.MASK : Fld := ⟨.wd, 0x1020, 0, 64, .rw, .lit 0, false, false⟩

/-- R311 (WO): In WD_SMP_ENG_ACK: 1 in bit e acknowledges engine e's pending notice -/
def WD_SMP_ENG_ACK.ACK : Fld := ⟨.wd, 0x1028, 0, 64, .wo, .lit 0, false, false⟩

/-- R311 (RW): Bits [39:21] of the region's DRAM address -/
def WD_SMP_STORE.BASE : Fld := ⟨.wd, 0x1030, 21, 19, .rw, .lit 0, false, false⟩

/-- R311 (RW): Bits [39:21] of the region's DRAM address -/
def WD_PJ_RING.BASE : Fld := ⟨.wd, 0x1038, 21, 19, .rw, .lit 0, false, false⟩

/-- R311 (RW): Bits [39:21] of the region's DRAM address -/
def WD_PJ_STAMP.BASE : Fld := ⟨.wd, 0x1040, 21, 19, .rw, .lit 0, false, false⟩

/-- R311 (RW): Bits [39:21] of the region's DRAM address -/
def WD_LOG_RING.BASE : Fld := ⟨.wd, 0x1048, 21, 19, .rw, .lit 0, false, false⟩

/-- R311 (RW): Size in units of 2 MiB -/
def WD_SMP_STORE.SIZE : Fld := ⟨.wd, 0x1030, 40, 23, .rw, .lit 0, false, false⟩

/-- R311 (RW): Size in units of 2 MiB -/
def WD_PJ_RING.SIZE : Fld := ⟨.wd, 0x1038, 40, 23, .rw, .lit 0, false, false⟩

/-- R311 (RW): Size in units of 2 MiB -/
def WD_PJ_STAMP.SIZE : Fld := ⟨.wd, 0x1040, 40, 23, .rw, .lit 0, false, false⟩

/-- R311 (RW): Size in units of 2 MiB -/
def WD_LOG_RING.SIZE : Fld := ⟨.wd, 0x1048, 40, 23, .rw, .lit 0, false, false⟩

/-- R311 (RW): Region placed and ready -/
def WD_SMP_STORE.OK : Fld := ⟨.wd, 0x1030, 63, 1, .rw, .lit 0, false, false⟩

/-- R311 (RW): Region placed and ready -/
def WD_PJ_RING.OK : Fld := ⟨.wd, 0x1038, 63, 1, .rw, .lit 0, false, false⟩

/-- R311 (RW): Region placed and ready -/
def WD_PJ_STAMP.OK : Fld := ⟨.wd, 0x1040, 63, 1, .rw, .lit 0, false, false⟩

/-- R311 (RW): Region placed and ready -/
def WD_LOG_RING.OK : Fld := ⟨.wd, 0x1048, 63, 1, .rw, .lit 0, false, false⟩

/-- R311 (RO): Page-journal entries held, saturating -/
def WD_SMP_USE.PJ_ENTRIES : Fld := ⟨.wd, 0x1050, 0, 32, .ro, .lit 0, false, false⟩

/-- R311 (RO): Replay log held, in KiB, saturating -/
def WD_SMP_USE.LOG_KIB : Fld := ⟨.wd, 0x1050, 32, 32, .ro, .lit 0, false, false⟩

/-- R311 (RW): Bits [39:21] of the range's DRAM address -/
def WD_PJ_RANGE.BASE : Fld := ⟨.wd, 0x1100, 21, 19, .rw, .lit 0, false, false⟩

/-- R311 (RW): Length in units of 2 MiB -/
def WD_PJ_RANGE.LEN : Fld := ⟨.wd, 0x1100, 40, 23, .rw, .lit 0, false, false⟩

/-- R311 (RW): Range journalled (R293) -/
def WD_PJ_RANGE.EN : Fld := ⟨.wd, 0x1100, 63, 1, .rw, .lit 0, false, false⟩

/-- R311 (RO): In WD_SLOTs: slot state (R292) -/
def WD_SLOT.STATE : Fld := ⟨.wd, 0x1200, 0, 2, .ro, .lit 0, false, false⟩

/-- R311 (RO): Auto-checkpoint -/
def WD_SLOT.AUTO : Fld := ⟨.wd, 0x1200, 2, 1, .ro, .lit 0, false, false⟩

/-- R311 (RO): A unit was stored with an uncorrectable error (R289) -/
def WD_SLOT.TAINTED : Fld := ⟨.wd, 0x1200, 3, 1, .ro, .lit 0, false, false⟩

/-- R311 (RO): A PARTIAL load followed the sample -/
def WD_SLOT.STALE_CFG : Fld := ⟨.wd, 0x1200, 4, 1, .ro, .lit 0, false, false⟩

/-- R311 (RO): 0: none; 1: SHADOW; 2: STORE; 3: STOPE; 4: ENGINE; 5: RING; 6–7: reserved (R290) -/
def WD_SLOT.FAIL_CAUSE : Fld := ⟨.wd, 0x1200, 5, 3, .ro, .lit 0, false, false⟩

/-- R311 (RO): Sequence number of the slot's sample or epoch -/
def WD_SLOT.SEQ : Fld := ⟨.wd, 0x1200, 32, 32, .ro, .lit 0, false, false⟩

/-- R311 (RO): In WD_SLOT_TALLYs: event tally E of the slot's sample -/
def WD_SLOT_TALLY.TALLY : Fld := ⟨.wd, 0x1280, 0, 64, .ro, .lit 0, false, false⟩

/-- R312 (RO): Shadow drain in progress (R288) -/
def CR_STATUS.DRAIN : Fld := ⟨.cr, 0x0, 0, 1, .ro, .lit 0, false, false⟩

/-- R312 (RO): Memory copy or journal storage in progress (R289) -/
def CR_STATUS.COPY : Fld := ⟨.cr, 0x0, 1, 1, .ro, .lit 0, false, false⟩

/-- R312 (RO): Restore in progress (R301, R302) -/
def CR_STATUS.RESTORE : Fld := ⟨.cr, 0x0, 2, 1, .ro, .lit 0, false, false⟩

/-- R312 (RO): Stopes of the seam not yet drained, 0 to 160 -/
def CR_STATUS.STOPES_LEFT : Fld := ⟨.cr, 0x0, 8, 8, .ro, .lit 0, false, false⟩

/-- R312 (RO): Shadow frames drained since COLD or WARM, wrapping -/
def CR_STATUS.FRAMES : Fld := ⟨.cr, 0x0, 32, 32, .ro, .lit 0, false, false⟩

/-- R312 (RW): Gallery cycles per drained frame. Writes below 26 act as 26. -/
def CR_PACE.FRAME_INT : Fld := ⟨.cr, 0x8, 0, 8, .rw, .lit 36, false, false⟩

/-- R312 (RC): Journal entries stored, saturating -/
def CR_COUNTS.JOURNAL : Fld := ⟨.cr, 0x10, 0, 32, .rc, .lit 0, false, false⟩

/-- R312 (RC): Units stored by the copy, saturating -/
def CR_COUNTS.UNITS : Fld := ⟨.cr, 0x10, 32, 32, .rc, .lit 0, false, false⟩

/-- R312 (RW): Bit b: restore the stope with seam-local index 64i + b (R302). In CR_RESTORE_MASK2, bits [63:32] ... -/
def CR_RESTORE_MASK.MASK : Fld := ⟨.cr, 0x100, 0, 64, .rw, .lit 0, false, false⟩

/-- R342 (RO): Vendor ID, from the device fuse map -/
def CG_ID.VENDOR : Fld := ⟨.cg, 0x0, 0, 16, .ro, .fuse .cgIdVendor, false, false⟩

/-- R342 (RO): Device ID -/
def CG_ID.DEVICE : Fld := ⟨.cg, 0x0, 16, 16, .ro, .lit 1600, false, false⟩

/-- R342 (RO): Revision ID (R3) -/
def CG_ID.REVISION : Fld := ⟨.cg, 0x0, 32, 8, .ro, .lit 1, false, false⟩

/-- R342 (RO): 1: 2.5; 2: 5.0; 3: 8; 4: 16; 5: 32; 6: 64 GT/s -/
def CG_LINK.SPEED : Fld := ⟨.cg, 0x8, 0, 3, .ro, .lit 0, false, false⟩

/-- R342 (RO): Negotiated width, 1 to 16 -/
def CG_LINK.WIDTH : Fld := ⟨.cg, 0x8, 3, 5, .ro, .lit 0, false, false⟩

/-- R342 (RO): Flit Mode in force -/
def CG_LINK.FLIT : Fld := ⟨.cg, 0x8, 8, 1, .ro, .lit 0, false, false⟩

/-- R342 (RO): Data link up -/
def CG_LINK.UP : Fld := ⟨.cg, 0x8, 9, 1, .ro, .lit 0, false, false⟩

/-- R342 (RO): Below 64 GT/s or below x16 (R314) -/
def CG_LINK.DEGRADED : Fld := ⟨.cg, 0x8, 10, 1, .ro, .lit 0, false, false⟩

/-- R342 (RW1C): A link-down event occurred (R319) -/
def CG_LINK.LINK_RESET : Fld := ⟨.cg, 0x8, 11, 1, .rw1c, .lit 0, false, false⟩

/-- R342 (RC): Link-down events, saturating at 65,535 -/
def CG_LINK.DOWN_COUNT : Fld := ⟨.cg, 0x8, 16, 16, .rc, .lit 0, false, false⟩

/-- R342 (RO): Base settings applied (R317) -/
def CG_BASE.BASE_DONE : Fld := ⟨.cg, 0x10, 0, 1, .ro, .lit 0, false, false⟩

/-- R342 (RO): Fuse defaults applied at 900 ms -/
def CG_BASE.BASE_LATE : Fld := ⟨.cg, 0x10, 1, 1, .ro, .lit 0, false, false⟩

/-- R342 (RO): Bus Master Enable as set by the host -/
def CG_BASE.BME : Fld := ⟨.cg, 0x10, 2, 1, .ro, .lit 0, false, false⟩

/-- R342 (RW): Bits [39:30] of the DRAM window base. Bits below the BAR2 size read 0 (R37). -/
def CG_BAR2_BASE.BASE : Fld := ⟨.cg, 0x18, 30, 10, .rw, .lit 0, false, false⟩

/-- R342 (RW1C): A host read completed with Completer Abort (R318) -/
def CG_ERR_STATUS.HOST_RD_ERR : Fld := ⟨.cg, 0x20, 0, 1, .rw1c, .lit 0, false, false⟩

/-- R342 (RW1C): Part of a host write was dropped -/
def CG_ERR_STATUS.HOST_WR_ERR : Fld := ⟨.cg, 0x20, 1, 1, .rw1c, .lit 0, false, false⟩

/-- R342 (RW1C): Poisoned TLP received (R320) -/
def CG_ERR_STATUS.EP_RX : Fld := ⟨.cg, 0x20, 2, 1, .rw1c, .lit 0, false, false⟩

/-- R342 (RW1C): Poisoned TLP sent -/
def CG_ERR_STATUS.EP_TX : Fld := ⟨.cg, 0x20, 3, 1, .rw1c, .lit 0, false, false⟩

/-- R342 (RW1C): A DMA read timed out (R321) -/
def CG_ERR_STATUS.CPL_TIMEOUT : Fld := ⟨.cg, 0x20, 4, 1, .rw1c, .lit 0, false, false⟩

/-- R342 (RW1C): A DMA read completed with UR or CA -/
def CG_ERR_STATUS.CPL_ERR : Fld := ⟨.cg, 0x20, 5, 1, .rw1c, .lit 0, false, false⟩

/-- R342 (RW1C): Uncorrectable Cage buffer error (R327) -/
def CG_ERR_STATUS.BUF_UE : Fld := ⟨.cg, 0x20, 6, 1, .rw1c, .lit 0, false, false⟩

/-- R342 (RC): Corrected Cage buffer errors, saturating at 65,535 -/
def CG_ERR_STATUS.BUF_CE : Fld := ⟨.cg, 0x20, 16, 16, .rc, .lit 0, false, false⟩

/-- R342 (RO): Gallery address of the first failing host access since HOST_RD_ERR and HOST_WR_ERR were last both... -/
def CG_ERR_ADDR.ADDR : Fld := ⟨.cg, 0x28, 0, 48, .ro, .lit 0, false, false⟩

/-- R342 (RO): 0: none; 1: no window (R31); 2: initiator timeout; 3: other error response; 4: size or alignment ... -/
def CG_ERR_ADDR.CAUSE : Fld := ⟨.cg, 0x28, 48, 3, .ro, .lit 0, false, false⟩

/-- R342 (RO): 1: the access was a write -/
def CG_ERR_ADDR.WRITE : Fld := ⟨.cg, 0x28, 51, 1, .ro, .lit 0, false, false⟩

/-- R342 (RW): Bit b: CG_ERR_STATUS bit b posts an event when it goes from 0 to 1 -/
def CG_IRQ.EN : Fld := ⟨.cg, 0x30, 0, 7, .rw, .lit 0, false, false⟩

/-- R342 (RW): MSI-X vector, 0 to 2,047 -/
def CG_IRQ.VECTOR : Fld := ⟨.cg, 0x30, 16, 11, .rw, .lit 0, false, false⟩

/-- R342 (RW): Minimum spacing of messages on one vector, in units of 100 ns (R335) -/
def CG_MSIX_GAP.GAP : Fld := ⟨.cg, 0x38, 0, 16, .rw, .lit 0, false, false⟩

/-- R342 (RW): Bits [39:21] of the area's DRAM address. Written by the Foreman only. -/
def CG_SPILL_AREA.BASE : Fld := ⟨.cg, 0x40, 21, 19, .rw, .lit 0, false, false⟩

/-- R342 (RW): Size in units of 2 MiB -/
def CG_SPILL_AREA.SIZE : Fld := ⟨.cg, 0x40, 40, 23, .rw, .lit 0, false, false⟩

/-- R342 (RW): Area placed and ready -/
def CG_SPILL_AREA.OK : Fld := ⟨.cg, 0x40, 63, 1, .rw, .lit 0, false, false⟩

/-- R343 (WO): 0: none; 1: ENABLE (R325); 2: STOP; 3: ABORT (R326) -/
def QU_CTRL.CMD : Fld := ⟨.qu, 0x0, 0, 2, .wo, .lit 0, false, false⟩

/-- R343 (RW): 0: down; 1: up -/
def QU_CTRL.DIR : Fld := ⟨.qu, 0x0, 2, 1, .rw, .lit 0, false, false⟩

/-- R343 (RW): 0: RING; 1: DIRECT (down only) -/
def QU_CTRL.HMODE : Fld := ⟨.qu, 0x0, 3, 1, .rw, .lit 0, false, false⟩

/-- R343 (RW): Bank size 2^value bytes, 8 to 20 -/
def QU_CTRL.BANK_LOG2 : Fld := ⟨.qu, 0x0, 4, 5, .rw, .lit 12, false, false⟩

/-- R343 (RO): State code (R324) -/
def QU_STATUS.STATE : Fld := ⟨.qu, 0x8, 0, 2, .ro, .lit 0, false, false⟩

/-- R343 (RW1C): A posted push was refused and dropped (R338) -/
def QU_STATUS.PUSH_ERR : Fld := ⟨.qu, 0x8, 2, 1, .rw1c, .lit 0, false, false⟩

/-- R343 (RO): Cause of the last halt (R324) -/
def QU_STATUS.HALT_CAUSE : Fld := ⟨.qu, 0x8, 3, 3, .ro, .lit 0, false, false⟩

/-- R343 (RO): Bank now filling -/
def QU_STATUS.FILL_BANK : Fld := ⟨.qu, 0x8, 6, 1, .ro, .lit 0, false, false⟩

/-- R343 (RO): A DIRECT fill bank is closed and waiting to swap (R337) -/
def QU_STATUS.FLIP_PEND : Fld := ⟨.qu, 0x8, 7, 1, .ro, .lit 0, false, false⟩

/-- R343 (RW1C): A doorbell was dropped (R336) -/
def QU_STATUS.DB_OVF : Fld := ⟨.qu, 0x8, 8, 1, .rw1c, .lit 0, false, false⟩

/-- R343 (RW1C): A write or command was refused -/
def QU_STATUS.CFG_ERR : Fld := ⟨.qu, 0x8, 9, 1, .rw1c, .lit 0, false, false⟩

/-- R343 (RW1C): A packet of the queue carried poison -/
def QU_STATUS.POISON_SEEN : Fld := ⟨.qu, 0x8, 10, 1, .rw1c, .lit 0, false, false⟩

/-- R343 (RW1C): A packet of the queue was truncated (R340) -/
def QU_STATUS.TRUNC_SEEN : Fld := ⟨.qu, 0x8, 11, 1, .rw1c, .lit 0, false, false⟩

/-- R343 (RO): The end is held (R333) -/
def QU_STATUS.BACKPRESSURE : Fld := ⟨.qu, 0x8, 12, 1, .ro, .lit 0, false, false⟩

/-- R343 (RO): Serving the end from the replay log (R341) -/
def QU_STATUS.REPLAYING : Fld := ⟨.qu, 0x8, 13, 1, .ro, .lit 0, false, false⟩

/-- R343 (RO): Pending doorbells, 0 to 64 -/
def QU_STATUS.DB_PEND : Fld := ⟨.qu, 0x8, 16, 7, .ro, .lit 0, false, false⟩

/-- R343 (RO): Bytes used in the fill bank -/
def QU_STATUS.FILL_OFS : Fld := ⟨.qu, 0x8, 24, 21, .ro, .lit 0, false, false⟩

/-- R343 (RO): Entries held in the spill ring -/
def QU_STATUS.SPILLED : Fld := ⟨.qu, 0x8, 48, 16, .ro, .lit 0, false, false⟩

/-- R343 (RW): 0: ENGINE; 1: STOPE; 2: BIN; 3: reserved (R322) -/
def QU_END.KIND : Fld := ⟨.qu, 0x10, 0, 2, .rw, .lit 0, false, false⟩

/-- R343 (RW): Engine number, or device stope number -/
def QU_END.UNIT : Fld := ⟨.qu, 0x10, 2, 10, .rw, .lit 0, false, false⟩

/-- R343 (RW): Engine queue port (ENGINE) or bin (BIN) -/
def QU_END.PORT : Fld := ⟨.qu, 0x10, 12, 4, .rw, .lit 0, false, false⟩

/-- R343 (RW): Stope-port offset for down notices, 8-byte aligned (STOPE) -/
def QU_END.NOTE_OFS : Fld := ⟨.qu, 0x10, 16, 20, .rw, .lit 0, false, false⟩

/-- R343 (RW): Send STOPE notices (R339) -/
def QU_END.NOTE_EN : Fld := ⟨.qu, 0x10, 36, 1, .rw, .lit 0, false, false⟩

/-- R343 (RW): Bits [24:8] of the bank pair's Cage buffer offset, so the cold offset is q × 0x2000 (R327) -/
def QU_BUF.BASE : Fld := ⟨.qu, 0x18, 8, 17, .rw, .perQueue, false, false⟩

/-- R343 (RW): In QU_DATA_RING: ring size 2^value bytes, 12 to 31 -/
def QU_DATA_RING.DATA_LOG2 : Fld := ⟨.qu, 0x20, 0, 5, .rw, .lit 0, false, false⟩

/-- R343 (RW): In QU_NOTICE_RING: ring size 2^value entries, 4 to 16 -/
def QU_NOTICE_RING.NOTICE_LOG2 : Fld := ⟨.qu, 0x28, 0, 5, .rw, .lit 0, false, false⟩

/-- R343 (RW): Bits [63:12] of the ring's bus address -/
def QU_DATA_RING.BASE : Fld := ⟨.qu, 0x20, 12, 52, .rw, .lit 0, false, false⟩

/-- R343 (RW): Bits [63:12] of the ring's bus address -/
def QU_NOTICE_RING.BASE : Fld := ⟨.qu, 0x28, 12, 52, .rw, .lit 0, false, false⟩

/-- R343 (RW): In QU_HOST_HEAD: up data ring position freed by the host (R331); unused in down queues -/
def QU_HOST_HEAD.DATA_HEAD : Fld := ⟨.qu, 0x30, 0, 32, .rw, .lit 0, false, false⟩

/-- R343 (RW): In QU_HOST_HEAD: notice entries consumed (R334) -/
def QU_HOST_HEAD.NOTICE_HEAD : Fld := ⟨.qu, 0x30, 32, 32, .rw, .lit 0, false, false⟩

/-- R343 (RO): In QU_POS: up, next line position; down RING, fetch position -/
def QU_POS.DATA_TAIL : Fld := ⟨.qu, 0x38, 0, 32, .ro, .lit 0, false, false⟩

/-- R343 (RO): In QU_POS: notices written -/
def QU_POS.NOTICE_TAIL : Fld := ⟨.qu, 0x38, 32, 32, .ro, .lit 0, false, false⟩

/-- R343 (RW): Ring start in the spill area, in units of 4 KiB (R333) -/
def QU_SPILL.OFS : Fld := ⟨.qu, 0x40, 0, 28, .rw, .lit 0, false, false⟩

/-- R343 (RW): Entries, 0 to 65,535; 0 means no spill -/
def QU_SPILL.NBANKS : Fld := ⟨.qu, 0x40, 32, 16, .rw, .lit 0, false, false⟩

/-- R343 (RW): MSI-X vector, 0 to 2,047 -/
def QU_IRQ.VECTOR : Fld := ⟨.qu, 0x48, 0, 11, .rw, .lit 0, false, false⟩

/-- R343 (RW): Notices per message (R335); a write of 0 acts as 1 -/
def QU_IRQ.COAL_COUNT : Fld := ⟨.qu, 0x48, 16, 8, .rw, .lit 1, false, false⟩

/-- R343 (RW): Coalescing time in units of 100 ns; 0 means no timer -/
def QU_IRQ.COAL_TIME : Fld := ⟨.qu, 0x48, 24, 12, .rw, .lit 0, false, false⟩

/-- R343 (RW): Request messages -/
def QU_IRQ.IRQ_EN : Fld := ⟨.qu, 0x48, 36, 1, .rw, .lit 0, false, false⟩

/-- R343 (RW): Down queue writes notices (R334) -/
def QU_IRQ.DN_NOTICE : Fld := ⟨.qu, 0x48, 37, 1, .rw, .lit 0, false, false⟩

/-- R343 (RO): Sequence number of the next packet (R330, R336) -/
def QU_SEQ.NEXT_SEQ : Fld := ⟨.qu, 0x50, 0, 32, .ro, .lit 0, false, false⟩

/-- R343 (RO): Up-queue drop mark (R341) -/
def QU_SEQ.DROP_MARK : Fld := ⟨.qu, 0x50, 32, 32, .ro, .lit 0, false, false⟩

/-- R343 (RC): Packets notified (up) or closed (down), saturating -/
def QU_STATS.PACKETS : Fld := ⟨.qu, 0x58, 0, 32, .rc, .lit 0, false, false⟩

/-- R343 (RC): Duplicate packets discarded, saturating -/
def QU_STATS.DUP : Fld := ⟨.qu, 0x58, 32, 16, .rc, .lit 0, false, false⟩

/-- R343 (RC): Banks spilled, saturating -/
def QU_STATS.SPILLS : Fld := ⟨.qu, 0x58, 48, 16, .rc, .lit 0, false, false⟩

/-- R343 (WO): Payload bytes of the next packet (R336) -/
def QU_DOORBELL.LEN : Fld := ⟨.qu, 0x800, 0, 24, .wo, .lit 0, false, false⟩

/-- R343 (WO): DIRECT: close the fill bank; LEN must be 0 (R337) -/
def QU_DOORBELL.FLIP : Fld := ⟨.qu, 0x800, 24, 1, .wo, .lit 0, false, false⟩

/-- R343 (WO): In QU_PUSH and QU_PUSH_LAST: one end word (R338) -/
def QU_PUSH.WORD : Fld := ⟨.qu, 0x808, 0, 64, .wo, .lit 0, false, false⟩

/-- R343 (WO): In QU_PUSH and QU_PUSH_LAST: one end word (R338) -/
def QU_PUSH_LAST.WORD : Fld := ⟨.qu, 0x810, 0, 64, .wo, .lit 0, false, false⟩

/-- R343 (RO): In QU_POP: a read takes the next word. A Lamp port peek returns it without taking it. -/
def QU_POP.WORD : Fld := ⟨.qu, 0x818, 0, 64, .ro, .lit 0, false, false⟩

/-- R361 (RW): Gallery cycles before promotion (R354). A write of 0 acts as 1. -/
def GL_CTRL.AGE_LIMIT : Fld := ⟨.gl, 0x0, 0, 16, .rw, .lit 256, false, false⟩

/-- R361 (RW1C): A route entry write was refused (R350) -/
def GL_CTRL.CFG_ERR : Fld := ⟨.gl, 0x0, 16, 1, .rw1c, .lit 0, false, false⟩

/-- R361 (RC): Corrected flit errors, saturating (R348) -/
def GL_STATUS.CE_COUNT : Fld := ⟨.gl, 0x8, 0, 32, .rc, .lit 0, false, false⟩

/-- R361 (RC): Packets dropped for uncorrectable headers, saturating -/
def GL_STATUS.HDR_DROP : Fld := ⟨.gl, 0x8, 32, 16, .rc, .lit 0, false, false⟩

/-- R361 (RC): Packets dropped under R352, saturating -/
def GL_STATUS.ROUTE_ERR : Fld := ⟨.gl, 0x8, 48, 16, .rc, .lit 0, false, false⟩

/-- R361 (RW1C): A drop is recorded. Later drops are not recorded until it is cleared. -/
def GL_ERR.VALID : Fld := ⟨.gl, 0x10, 0, 1, .rw1c, .lit 0, false, false⟩

/-- R361 (RO): 0: none; 1: uncorrectable header; 2: off mesh or reserved exit; 3: wrong destination -/
def GL_ERR.KIND : Fld := ⟨.gl, 0x10, 1, 2, .ro, .lit 0, false, false⟩

/-- R361 (RO): 0–639: junction of that stope; 640–643: shaft junction of seam 0–3; 0xFFF: main gallery -/
def GL_ERR.WHERE : Fld := ⟨.gl, 0x10, 4, 12, .ro, .lit 0, false, false⟩

/-- R361 (RO): SRC of the dropped packet; 0 for KIND = 1 -/
def GL_ERR.SRC : Fld := ⟨.gl, 0x10, 16, 10, .ro, .lit 0, false, false⟩

/-- R361 (RW): Stope regulator enabled (R355). Reserved for n ≥ 640. -/
def GL_NI_CFG.REG_EN : Fld := ⟨.gl, 0x1000, 0, 1, .rw, .lit 0, false, false⟩

/-- R361 (RW): Flits added per 64 Gallery cycles, 1 to 128; writes above 128 act as 128 and 0 as 1. Reserved for... -/
def GL_NI_CFG.RATE : Fld := ⟨.gl, 0x1000, 8, 8, .rw, .lit 128, false, false⟩

/-- R361 (RW): Bucket size in flits, 5 to 4,095; writes below 5 act as 5. Reserved for n ≥ 640. -/
def GL_NI_CFG.BURST : Fld := ⟨.gl, 0x1000, 16, 12, .rw, .lit 4095, false, false⟩

/-- R361 (RW): Request priority (R354) -/
def GL_NI_CFG.PRI : Fld := ⟨.gl, 0x1000, 28, 2, .rw, .lit 0, false, false⟩

/-- R361 (RW): Initiator timeout in µs (R360); a write of 0 acts as 1 -/
def GL_NI_CFG.TIMEOUT : Fld := ⟨.gl, 0x1000, 32, 10, .rw, .lit 16, false, false⟩

/-- R361 (RC): Responses made up under R360, saturating -/
def GL_NI_STAT.TIMEOUTS : Fld := ⟨.gl, 0x4000, 0, 16, .rc, .lit 0, false, false⟩

/-- R361 (RC): Late responses discarded, saturating -/
def GL_NI_STAT.LATE : Fld := ⟨.gl, 0x4000, 16, 16, .rc, .lit 0, false, false⟩

/-- R361 (RC): Requests refused by this NI as NOWIN, NOROUTE or SIZE, saturating -/
def GL_NI_STAT.NOROUTE : Fld := ⟨.gl, 0x4000, 32, 16, .rc, .lit 0, false, false⟩

/-- R361 (RO): Tags in use, including quarantined tags, 0 to 1,024 -/
def GL_NI_STAT.OUTSTANDING : Fld := ⟨.gl, 0x4000, 48, 11, .ro, .lit 0, false, false⟩

/-- R361 (RW): Regulator of engine e's injection point enabled (R355) -/
def GL_ENG_REG.REG_EN : Fld := ⟨.gl, 0x8000, 0, 1, .rw, .lit 0, false, false⟩

/-- R361 (RW): Flits added per 64 Gallery cycles, 1 to 255; a write of 0 acts as 1 -/
def GL_ENG_REG.RATE : Fld := ⟨.gl, 0x8000, 8, 8, .rw, .lit 255, false, false⟩

/-- R361 (RW): Bucket size in flits, 5 to 4,095; writes below 5 act as 5 -/
def GL_ENG_REG.BURST : Fld := ⟨.gl, 0x8000, 16, 12, .rw, .lit 4095, false, false⟩

/-- R361 (RW): As header bits [100:96] (R347) -/
def GL_ROUTE.SX : Fld := ⟨.gl, 0x100000, 0, 5, .rw, .route 0, false, false⟩

/-- R361 (RW): As header bits [106:101] -/
def GL_ROUTE.SY : Fld := ⟨.gl, 0x100000, 5, 6, .rw, .route 5, false, false⟩

/-- R361 (RW): As header bits [110:107] -/
def GL_ROUTE.SJ : Fld := ⟨.gl, 0x100000, 11, 4, .rw, .route 11, false, false⟩

/-- R361 (RW): As header bits [115:111] -/
def GL_ROUTE.MG : Fld := ⟨.gl, 0x100000, 15, 5, .rw, .route 15, false, false⟩

/-- R361 (RW): As header bits [119:116] -/
def GL_ROUTE.DSJ : Fld := ⟨.gl, 0x100000, 20, 4, .rw, .route 20, false, false⟩

/-- R361 (RW): As header bits [123:120] -/
def GL_ROUTE.DY : Fld := ⟨.gl, 0x100000, 24, 4, .rw, .route 24, false, false⟩

/-- R361 (RW): Entry usable (R350) -/
def GL_ROUTE.VALID : Fld := ⟨.gl, 0x100000, 63, 1, .rw, .lit 1, false, false⟩

/-- R388 (RO): Page-code level in force (R376) -/
def PC_CTRL.LEVEL : Fld := ⟨.pc, 0x0, 0, 2, .ro, .lit 1, false, false⟩

/-- R388 (RWS): Level to apply at the next COLD or WARM -/
def PC_CTRL.LEVEL_NEXT : Fld := ⟨.pc, 0x0, 2, 2, .rws, .lit 1, true, false⟩

/-- R388 (WO): 1: place the device area again (R371) -/
def PC_CTRL.REPLAN : Fld := ⟨.pc, 0x0, 8, 1, .wo, .lit 0, false, false⟩

/-- R388 (RW1C): A REPLAN was refused -/
def PC_CTRL.REPLAN_ERR : Fld := ⟨.pc, 0x0, 9, 1, .rw1c, .lit 0, false, false⟩

/-- R388 (RO): Bit c: channel c is in S (R367) -/
def PC_MAP.SET : Fld := ⟨.pc, 0x8, 0, 8, .ro, .lit 0, false, false⟩

/-- R388 (RO): Active channels -/
def PC_MAP.N : Fld := ⟨.pc, 0x8, 8, 4, .ro, .lit 0, false, false⟩

/-- R388 (RO): C in GiB, 0 to 128 -/
def PC_MAP.C_GIB : Fld := ⟨.pc, 0x8, 16, 8, .ro, .lit 0, false, false⟩

/-- R388 (RO): T in GiB, 0 to 1,024 -/
def PC_MAP.TOP_GIB : Fld := ⟨.pc, 0x8, 24, 11, .ro, .lit 0, false, false⟩

/-- R388 (RO): Device area placed; the map is final (R366) -/
def PC_MAP.FINAL : Fld := ⟨.pc, 0x8, 35, 1, .ro, .lit 0, false, false⟩

/-- R388 (RO): A remap occurred in this start -/
def PC_MAP.REMAPPED : Fld := ⟨.pc, 0x8, 36, 1, .ro, .lit 0, false, false⟩

/-- R388 (RO): Bits [39:21] of the device area's base (R370) -/
def PC_AREA.BASE : Fld := ⟨.pc, 0x10, 21, 19, .ro, .lit 0, false, false⟩

/-- R388 (RO): Area size in units of 2 MiB -/
def PC_AREA.SIZE : Fld := ⟨.pc, 0x10, 40, 23, .ro, .lit 0, false, false⟩

/-- R388 (RO): Area placed -/
def PC_AREA.OK : Fld := ⟨.pc, 0x10, 63, 1, .ro, .lit 0, false, false⟩

/-- R388 (RWS): In PC_PLAN0: sample store (6 GiB) -/
def PC_PLAN0.STORE : Fld := ⟨.pc, 0x18, 0, 16, .rws, .lit 3072, true, false⟩

/-- R388 (RWS): In PC_PLAN0: page-journal ring (1 GiB) -/
def PC_PLAN0.PJ_RING : Fld := ⟨.pc, 0x18, 16, 16, .rws, .lit 512, true, false⟩

/-- R388 (RWS): In PC_PLAN0: stamp table -/
def PC_PLAN0.STAMP : Fld := ⟨.pc, 0x18, 32, 16, .rws, .lit 0, true, false⟩

/-- R388 (RWS): In PC_PLAN0: replay-log ring (256 MiB) -/
def PC_PLAN0.LOG : Fld := ⟨.pc, 0x18, 48, 16, .rws, .lit 128, true, false⟩

/-- R388 (RWS): In PC_PLAN1: spill area (256 MiB) -/
def PC_PLAN1.SPILL : Fld := ⟨.pc, 0x20, 0, 16, .rws, .lit 128, true, false⟩

/-- R388 (RWS): In PC_PLAN1: trace ring (64 MiB) -/
def PC_PLAN1.TRACE : Fld := ⟨.pc, 0x20, 16, 16, .rws, .lit 32, true, false⟩

/-- R389 (RO): State code (R364) -/
def DC_STATUS.STATE : Fld := ⟨.dc, 0x0, 0, 3, .ro, .lit 0, false, false⟩

/-- R389 (RO): 0: none; 1: NODIMM; 2: UNSUPPORTED; 3: MIXED; 4: TRAIN; 5: RECORD (R363, R366) -/
def DC_STATUS.HOLD_CAUSE : Fld := ⟨.dc, 0x0, 3, 3, .ro, .lit 0, false, false⟩

/-- R389 (RO): More than 128 GiB installed -/
def DC_STATUS.CAP_TRUNC : Fld := ⟨.dc, 0x0, 6, 1, .ro, .lit 0, false, false⟩

/-- R389 (RO): Thermal sensor above 85 °C (R375) -/
def DC_STATUS.HOT : Fld := ⟨.dc, 0x0, 7, 1, .ro, .lit 0, false, false⟩

/-- R389 (RO): 0: 4,800 to 6: 9,600 MT/s, in steps of 800 -/
def DC_STATUS.RATE : Fld := ⟨.dc, 0x0, 8, 3, .ro, .lit 0, false, false⟩

/-- R389 (RO): Modules of x8 devices -/
def DC_STATUS.X8 : Fld := ⟨.dc, 0x0, 11, 1, .ro, .lit 0, false, false⟩

/-- R389 (RO): DIMMs, 0 to 2 -/
def DC_STATUS.DIMMS : Fld := ⟨.dc, 0x0, 12, 2, .ro, .lit 0, false, false⟩

/-- R389 (RO): Ranks in the channel: 0: 1; 1: 2; 2: 4 -/
def DC_STATUS.RANKS : Fld := ⟨.dc, 0x0, 14, 2, .ro, .lit 0, false, false⟩

/-- R389 (RO): Trained capacity used, in GiB, 0 to 128 -/
def DC_STATUS.CAP_GIB : Fld := ⟨.dc, 0x0, 16, 8, .ro, .lit 0, false, false⟩

/-- R389 (RO): A stored set was applied (R365) -/
def DC_TRAIN.STORED_TRIED : Fld := ⟨.dc, 0x8, 0, 1, .ro, .lit 0, false, false⟩

/-- R389 (RO): Its verify passed -/
def DC_TRAIN.STORED_OK : Fld := ⟨.dc, 0x8, 1, 1, .ro, .lit 0, false, false⟩

/-- R389 (RO): Full training ran -/
def DC_TRAIN.FULL_TRIED : Fld := ⟨.dc, 0x8, 2, 1, .ro, .lit 0, false, false⟩

/-- R389 (RO): Full training passed -/
def DC_TRAIN.FULL_OK : Fld := ⟨.dc, 0x8, 3, 1, .ro, .lit 0, false, false⟩

/-- R389 (RO): 0: none; 1: CS; 2: CA; 3: write levelling; 4: read DQ; 5: write DQ; 6: equalisation; 7: verify -/
def DC_TRAIN.FAIL_STEP : Fld := ⟨.dc, 0x8, 4, 4, .ro, .lit 0, false, false⟩

/-- R389 (RO): Time spent in TRAINING, ms -/
def DC_TRAIN.TRAIN_MS : Fld := ⟨.dc, 0x8, 32, 16, .ro, .lit 0, false, false⟩

/-- R389 (RW): Gallery cycles before promotion (R373); a write of 0 acts as 1 -/
def DC_SCHED.AGE : Fld := ⟨.dc, 0x10, 0, 16, .rw, .lit 2048, false, false⟩

/-- R389 (RW): Refreshes that may be owed, 0 to 8; writes above 8 act as 8 -/
def DC_SCHED.REF_POSTPONE : Fld := ⟨.dc, 0x10, 16, 4, .rw, .lit 8, false, false⟩

/-- R389 (RW): Combiner wait in Gallery cycles (R374) -/
def DC_SCHED.WC_WAIT : Fld := ⟨.dc, 0x10, 24, 8, .rw, .lit 24, false, false⟩

/-- R389 (RW): Write combiner enabled -/
def DC_SCHED.WC_EN : Fld := ⟨.dc, 0x10, 32, 1, .rw, .lit 1, false, false⟩

/-- R389 (RO): Highest count owed by any rank (R375) -/
def DC_REFRESH.OWED : Fld := ⟨.dc, 0x18, 0, 4, .ro, .lit 0, false, false⟩

/-- R389 (RC): Make-up bursts, saturating -/
def DC_REFRESH.BURSTS : Fld := ⟨.dc, 0x18, 16, 32, .rc, .lit 0, false, false⟩

/-- R389 (RC): CORRECTED reads, saturating (R380) -/
def DC_ECC.CE_COUNT : Fld := ⟨.dc, 0x20, 0, 32, .rc, .lit 0, false, false⟩

/-- R389 (RC): UNCORRECTABLE reads, saturating -/
def DC_ECC.UE_COUNT : Fld := ⟨.dc, 0x20, 32, 16, .rc, .lit 0, false, false⟩

/-- R389 (RC): Reads of pages marked poisoned, saturating (R381) -/
def DC_ECC.POISON_RD : Fld := ⟨.dc, 0x20, 48, 8, .rc, .lit 0, false, false⟩

/-- R389 (RC): Partial writes over bad pages, saturating (R383) -/
def DC_ECC.PW_ERR : Fld := ⟨.dc, 0x20, 56, 8, .rc, .lit 0, false, false⟩

/-- R389 (RO): Page index p of the last event -/
def DC_ECC_LAST.PAGE : Fld := ⟨.dc, 0x28, 0, 30, .ro, .lit 0, false, false⟩

/-- R389 (RO): 0: corrected read; 1: uncorrectable read; 2: poisoned read; 3: partial write over a bad page -/
def DC_ECC_LAST.KIND : Fld := ⟨.dc, 0x28, 30, 2, .ro, .lit 0, false, false⟩

/-- R389 (RO): Symbols corrected, 0 to 15 -/
def DC_ECC_LAST.SYMS : Fld := ⟨.dc, 0x28, 32, 4, .ro, .lit 0, false, false⟩

/-- R389 (RO): All corrected symbols lie in one x4 device -/
def DC_ECC_LAST.ONE_DEV : Fld := ⟨.dc, 0x28, 36, 1, .ro, .lit 0, false, false⟩

/-- R389 (RO): That device: 10h + d for data, 10h + 8 + e for check (R377) -/
def DC_ECC_LAST.DEV : Fld := ⟨.dc, 0x28, 37, 5, .ro, .lit 0, false, false⟩

/-- R389 (RO): Initiator NI of the access -/
def DC_ECC_LAST.SRC : Fld := ⟨.dc, 0x28, 48, 10, .ro, .lit 0, false, false⟩

/-- R389 (RW): Value XORed into each selected symbol (R386) -/
def DC_FLIP_CTRL.VAL : Fld := ⟨.dc, 0x30, 0, 8, .rw, .lit 1, false, false⟩

/-- R389 (RW): Corrupt the next qualifying write; clears when done -/
def DC_FLIP_CTRL.ARM : Fld := ⟨.dc, 0x30, 8, 1, .rw, .lit 0, false, false⟩

/-- R389 (RW): Only a write to page MATCH qualifies -/
def DC_FLIP_CTRL.MATCH_EN : Fld := ⟨.dc, 0x30, 9, 1, .rw, .lit 0, false, false⟩

/-- R389 (RW1C): A write was corrupted -/
def DC_FLIP_CTRL.DONE : Fld := ⟨.dc, 0x30, 10, 1, .rw1c, .lit 0, false, false⟩

/-- R389 (RW): Page index p -/
def DC_FLIP_CTRL.MATCH : Fld := ⟨.dc, 0x30, 32, 30, .rw, .lit 0, false, false⟩

/-- R389 (RW): Bit b selects codeword symbol 64k + b in DC_FLIP_SYMk. In DC_FLIP_SYM2, bits [63:32] are reserved. -/
def DC_FLIP_SYM.SYM : Fld := ⟨.dc, 0x38, 0, 64, .rw, .lit 0, false, false⟩

/-- R389 (RO): Fill trackers in use, 0 to 16 (R385) -/
def DC_FRESH.FILLS : Fld := ⟨.dc, 0x50, 0, 5, .ro, .lit 0, false, false⟩

/-- R389 (RO): A first write waits for a tracker -/
def DC_FRESH.TRACKER_WAIT : Fld := ⟨.dc, 0x50, 5, 1, .ro, .lit 0, false, false⟩

/-- R389 (RO): Blocks whose fresh bit is 1 -/
def DC_FRESH.LIVE : Fld := ⟨.dc, 0x50, 16, 22, .ro, .lit 0, false, false⟩

/-- R389 (RW): Row -/
def DC_PPR.ROW : Fld := ⟨.dc, 0x100, 0, 18, .rw, .lit 0, false, false⟩

/-- R389 (RW): Bank group -/
def DC_PPR.BG : Fld := ⟨.dc, 0x100, 18, 3, .rw, .lit 0, false, false⟩

/-- R389 (RW): Bank -/
def DC_PPR.BANK : Fld := ⟨.dc, 0x100, 21, 2, .rw, .lit 0, false, false⟩

/-- R389 (RW): Rank, numbered as in R369 -/
def DC_PPR.RANK : Fld := ⟨.dc, 0x100, 23, 2, .rw, .lit 0, false, false⟩

/-- R389 (RW): 1: hPPR; 0: sPPR -/
def DC_PPR.HARD : Fld := ⟨.dc, 0x100, 25, 1, .rw, .lit 0, false, false⟩

/-- R389 (RW): Entry in use -/
def DC_PPR.VALID : Fld := ⟨.dc, 0x100, 26, 1, .rw, .lit 0, false, false⟩

/-- R389 (RO): 0: PENDING; 1: DONE; 2: NORES; 3: FAILED -/
def DC_PPR.STATE : Fld := ⟨.dc, 0x100, 27, 3, .ro, .lit 0, false, false⟩

/-- R407 (RO): The part is halted (R405) -/
def EN_STATUS.HALTED : Fld := ⟨.en, 0x0, 0, 1, .ro, .lit 0, false, false⟩

/-- R407 (RO): At least one fault record is valid, or a range is in FAULT -/
def EN_STATUS.FAULTED : Fld := ⟨.en, 0x0, 1, 1, .ro, .lit 0, false, false⟩

/-- R407 (RC): Uncorrectable node reads (R403), saturating -/
def EN_STATUS.NODE_UE : Fld := ⟨.en, 0x0, 16, 16, .rc, .lit 0, false, false⟩

/-- R407 (RO): In EN_HALT: 0 none; 1 read; 2 node fetch; 3 read half of a partial write -/
def EN_HALT.KIND : Fld := ⟨.en, 0x8, 0, 2, .ro, .lit 0, false, false⟩

/-- R407 (RO): In EN_HALT: page kind, 0 DATA, 1 NODE, 2 OPEN -/
def EN_HALT.PKIND : Fld := ⟨.en, 0x8, 2, 2, .ro, .lit 0, false, false⟩

/-- R407 (RO): In EN_HALT: key id of the page -/
def EN_HALT.KEY_ID : Fld := ⟨.en, 0x8, 4, 4, .ro, .lit 0, false, false⟩

/-- R407 (RO): In EN_HALT: initiator NI of the access; 0x3FF for a node fetch -/
def EN_HALT.SRC : Fld := ⟨.en, 0x8, 8, 10, .ro, .lit 0, false, false⟩

/-- R407 (RO): In EN_HALT_ADDR: gallery address of the page; bits [63:48] reserved -/
def EN_HALT_ADDR.ADDR : Fld := ⟨.en, 0x10, 0, 48, .ro, .lit 0, false, false⟩

/-- R407 (RC): Level-1 lookups that hit, saturating -/
def EN_CACHE.HITS : Fld := ⟨.en, 0x18, 0, 32, .rc, .lit 0, false, false⟩

/-- R407 (RC): Level-1 lookups that missed, saturating -/
def EN_CACHE.MISSES : Fld := ⟨.en, 0x18, 32, 32, .rc, .lit 0, false, false⟩

/-- R407 (RO): Bit k: slot k holds a key (R390). Kept by WARM. -/
def EN_KEY_STATUS.FILLED : Fld := ⟨.en, 0x20, 0, 16, .ro, .lit 0, true, false⟩

/-- R407 (WO): 0 none; 1 ENABLE (R394); 2 RETIRE (R395); 3 refused with RANGE_ERR -/
def EN_RANGE_CTRL.CMD : Fld := ⟨.en, 0x100, 0, 2, .wo, .lit 0, false, false⟩

/-- R407 (RO): 0 OFF; 1 ON; 2 RETIRING; 3 FAULT -/
def EN_RANGE_CTRL.STATE : Fld := ⟨.en, 0x100, 2, 2, .ro, .lit 0, false, false⟩

/-- R407 (RW1C): A command was refused -/
def EN_RANGE_CTRL.RANGE_ERR : Fld := ⟨.en, 0x100, 4, 1, .rw1c, .lit 0, false, false⟩

/-- R407 (RO): Stored levels h, 1 to 10 (R398) -/
def EN_RANGE_CTRL.HEIGHT : Fld := ⟨.en, 0x100, 8, 4, .ro, .lit 0, false, false⟩

/-- R407 (RW): Bits [39:21] of the range's or tree region's DRAM address. Writes are ignored unless STATE is OFF. -/
def EN_RANGE_BASE.BASE : Fld := ⟨.en, 0x108, 21, 19, .rw, .lit 0, false, false⟩

/-- R407 (RW): Bits [39:21] of the range's or tree region's DRAM address. Writes are ignored unless STATE is OFF. -/
def EN_RANGE_TREE.BASE : Fld := ⟨.en, 0x110, 21, 19, .rw, .lit 0, false, false⟩

/-- R407 (RW): Length in units of 2 MiB, 0 to 524,288. Writes are ignored unless STATE is OFF. -/
def EN_RANGE_BASE.LEN : Fld := ⟨.en, 0x108, 40, 23, .rw, .lit 0, false, false⟩

/-- R407 (RW): Length in units of 2 MiB, 0 to 524,288. Writes are ignored unless STATE is OFF. -/
def EN_RANGE_TREE.LEN : Fld := ⟨.en, 0x110, 40, 23, .rw, .lit 0, false, false⟩

/-- R407 (RO): Dirty cache entries of k, 0 to 8,192 -/
def EN_RANGE_STAT.DIRTY : Fld := ⟨.en, 0x118, 0, 14, .ro, .lit 0, false, false⟩

/-- R407 (RO): Valid fault records of k, 0 to 64 -/
def EN_RANGE_STAT.FAULTS : Fld := ⟨.en, 0x118, 16, 7, .ro, .lit 0, false, false⟩

/-- R407 (RO): Record in use (R403) -/
def EN_FAULT.VALID : Fld := ⟨.en, 0x400, 0, 1, .ro, .lit 0, false, false⟩

/-- R407 (RO): Key id of the faulty node -/
def EN_FAULT.KEY_ID : Fld := ⟨.en, 0x400, 1, 4, .ro, .lit 0, false, false⟩

/-- R407 (RO): Level of the node, 1 to 10 -/
def EN_FAULT.LEVEL : Fld := ⟨.en, 0x400, 5, 4, .ro, .lit 0, false, false⟩

/-- R407 (RO): Node index within its level -/
def EN_FAULT.INDEX : Fld := ⟨.en, 0x400, 10, 30, .ro, .lit 0, false, false⟩

/-- R439 (RO): Bit b: crib bank b uses a spare row (R420), from the device fuse map -/
def TR_CREW_STATUS.BANK_REPAIR : Fld := ⟨.trc, 0x0, 0, 16, .ro, .fuse .trCrewStatusBankRepair, false, false⟩

/-- R439 (RO): Bit 16 + 2m: instruction memory of member m uses a spare; bit 17 + 2m: its data memory -/
def TR_CREW_STATUS.ENG_REPAIR : Fld := ⟨.trc, 0x0, 16, 16, .ro, .fuse .trCrewStatusEngRepair, false, false⟩

/-- R439 (RC): Corrected words, saturating (R419) -/
def TR_CRIB_ECC.CE_COUNT : Fld := ⟨.trc, 0x8, 0, 16, .rc, .lit 0, false, false⟩

/-- R439 (RC): Uncorrectable words, saturating -/
def TR_CRIB_ECC.UE_COUNT : Fld := ⟨.trc, 0x8, 16, 8, .rc, .lit 0, false, false⟩

/-- R439 (RO): Crib offset bits [20:3] of the last error -/
def TR_CRIB_ECC.LAST_WORD : Fld := ⟨.trc, 0x8, 24, 18, .ro, .lit 0, false, false⟩

/-- R439 (RO): The last error was uncorrectable -/
def TR_CRIB_ECC.LAST_UE : Fld := ⟨.trc, 0x8, 42, 1, .ro, .lit 0, false, false⟩

/-- R439 (RO): 0: port E; 1: Gallery; 2: hoist; 3: write-back -/
def TR_CRIB_ECC.LAST_SRC : Fld := ⟨.trc, 0x8, 43, 2, .ro, .lit 0, false, false⟩

/-- R439 (RW1C): Both ports wrote different data to one byte (R418) -/
def TR_CRIB_COLL.COLL : Fld := ⟨.trc, 0x10, 0, 1, .rw1c, .lit 0, false, false⟩

/-- R439 (RC): Such collisions, saturating -/
def TR_CRIB_COLL.COLL_COUNT : Fld := ⟨.trc, 0x10, 8, 8, .rc, .lit 0, false, false⟩

/-- R439 (RO): Crib offset bits [20:3] of the last collision -/
def TR_CRIB_COLL.COLL_WORD : Fld := ⟨.trc, 0x10, 16, 18, .ro, .lit 0, false, false⟩

/-- R439 (RW): In TR_HOIST_GADDRh: gallery address; bits [2:0] must be 0. Bits [63:48] are reserved. -/
def TR_HOIST_GADDR.GADDR : Fld := ⟨.trc, 0x100, 0, 48, .rw, .lit 0, false, false⟩

/-- R439 (RW): In TR_HOIST_CADDRh: crib offset; bits [2:0] must be 0. Bits [63:21] are reserved. -/
def TR_HOIST_CADDR.CADDR : Fld := ⟨.trc, 0x108, 0, 21, .rw, .lit 0, false, false⟩

/-- R439 (RW): Bytes to move, 8 to 2 MiB, multiple of 8 (R423) -/
def TR_HOIST_CTRL.LEN : Fld := ⟨.trc, 0x110, 0, 22, .rw, .lit 0, false, false⟩

/-- R439 (RW): 0: FETCH; 1: STOW -/
def TR_HOIST_CTRL.DIR : Fld := ⟨.trc, 0x110, 22, 1, .rw, .lit 0, false, false⟩

/-- R439 (RW): Crew member to notify -/
def TR_HOIST_CTRL.NOTIFY : Fld := ⟨.trc, 0x110, 24, 3, .rw, .lit 0, false, false⟩

/-- R439 (RW): Set that member's HOIST source on completion -/
def TR_HOIST_CTRL.NOTIFY_EN : Fld := ⟨.trc, 0x110, 27, 1, .rw, .lit 0, false, false⟩

/-- R439 (WO): 1: start -/
def TR_HOIST_CTRL.GO : Fld := ⟨.trc, 0x110, 28, 1, .wo, .lit 0, false, false⟩

/-- R439 (WO): 1: abort (R424) -/
def TR_HOIST_CTRL.ABORT : Fld := ⟨.trc, 0x110, 29, 1, .wo, .lit 0, false, false⟩

/-- R439 (RO): Transfer in progress -/
def TR_HOIST_STATUS.BUSY : Fld := ⟨.trc, 0x118, 0, 1, .ro, .lit 0, false, false⟩

/-- R439 (RW1C): A transfer completed -/
def TR_HOIST_STATUS.DONE : Fld := ⟨.trc, 0x118, 1, 1, .rw1c, .lit 0, false, false⟩

/-- R439 (RW1C): A transfer stopped or a GO was refused -/
def TR_HOIST_STATUS.ERR : Fld := ⟨.trc, 0x118, 2, 1, .rw1c, .lit 0, false, false⟩

/-- R439 (RO): 0: none; 1: RESPONSE; 2: BADGO; 3: ABORTED; 4: POWER -/
def TR_HOIST_STATUS.ERR_CAUSE : Fld := ⟨.trc, 0x118, 3, 3, .ro, .lit 0, false, false⟩

/-- R439 (RW1C): Poisoned data was carried -/
def TR_HOIST_STATUS.POISONED : Fld := ⟨.trc, 0x118, 6, 1, .rw1c, .lit 0, false, false⟩

/-- R439 (RO): Bytes completed in the current or last transfer -/
def TR_HOIST_STATUS.BYTES : Fld := ⟨.trc, 0x118, 32, 22, .ro, .lit 0, false, false⟩

/-- R440 (WO): 0: none; 1: START; 2: RESUME; 3: HALT (R437) -/
def TR_CTRL.CMD : Fld := ⟨.tr, 0x0, 0, 2, .wo, .lit 0, false, false⟩

/-- R440 (WO): 1: clear IMEM_STALE (R438) -/
def TR_CTRL.LOADED : Fld := ⟨.tr, 0x0, 2, 1, .wo, .lit 0, false, false⟩

/-- R440 (RW): START address, instruction memory offset bits [15:2]. Kept. -/
def TR_CTRL.ENTRY : Fld := ⟨.tr, 0x0, 16, 14, .rw, .lit 192, false, true⟩

/-- R440 (RW): Vector base, instruction memory offset bits [15:8]. Kept. -/
def TR_CTRL.VBASE : Fld := ⟨.tr, 0x0, 32, 8, .rw, .lit 0, false, true⟩

/-- R440 (RO): State code (R436) -/
def TR_STATUS.STATE : Fld := ⟨.tr, 0x8, 0, 2, .ro, .lit 0, false, false⟩

/-- R440 (RO): Instruction memory not yet declared loaded -/
def TR_STATUS.IMEM_STALE : Fld := ⟨.tr, 0x8, 2, 1, .ro, .lit 1, false, false⟩

/-- R440 (RO): Monitor mode (R433) -/
def TR_STATUS.MON : Fld := ⟨.tr, 0x8, 3, 1, .ro, .lit 0, false, false⟩

/-- R440 (RO): In an interrupt or exception handler (R428, R430) -/
def TR_STATUS.INH : Fld := ⟨.tr, 0x8, 4, 1, .ro, .lit 0, false, false⟩

/-- R440 (RO): Interrupts enabled -/
def TR_STATUS.IE : Fld := ⟨.tr, 0x8, 5, 1, .ro, .lit 0, false, false⟩

/-- R440 (RW1C): A command was refused -/
def TR_STATUS.CMD_ERR : Fld := ⟨.tr, 0x8, 6, 1, .rw1c, .lit 0, false, false⟩

/-- R440 (RW1C): Double exception (R430) -/
def TR_STATUS.DOUBLE : Fld := ⟨.tr, 0x8, 7, 1, .rw1c, .lit 0, false, false⟩

/-- R440 (RO): Last reset: 0 none; 1 request; 2 WATCHDOG. Kept. -/
def TR_STATUS.RST_CAUSE : Fld := ⟨.tr, 0x8, 8, 2, .ro, .lit 0, false, true⟩

/-- R440 (RO): Watchdog resets, saturating at 255. Kept. -/
def TR_STATUS.WDOG_RESETS : Fld := ⟨.tr, 0x8, 16, 8, .ro, .lit 0, false, true⟩

/-- R440 (RO): In TR_PC: instruction memory offset of the next instruction; exact outside RUNNING -/
def TR_PC.PC : Fld := ⟨.tr, 0x10, 0, 16, .ro, .lit 0, false, false⟩

/-- R440 (RW): In TR_XPC: handler return address (R428, R430) -/
def TR_XPC.XPC : Fld := ⟨.tr, 0x18, 0, 16, .rw, .lit 0, false, false⟩

/-- R440 (RW): In TR_XPC: the exception was in a branch delay slot -/
def TR_XPC.XBD : Fld := ⟨.tr, 0x18, 16, 1, .rw, .lit 0, false, false⟩

/-- R440 (RO): In TR_XPC: the exception ended a repeat block -/
def TR_XPC.XINREP : Fld := ⟨.tr, 0x18, 17, 1, .ro, .lit 0, false, false⟩

/-- R440 (RO): In TR_XPC: iterations left in that block. Bits [31:18] and [63:48] are reserved. -/
def TR_XPC.XREP : Fld := ⟨.tr, 0x18, 32, 16, .ro, .lit 0, false, false⟩

/-- R440 (RO): In TR_EXC: cause code (Tram Instruction Set) -/
def TR_EXC.CAUSE : Fld := ⟨.tr, 0x20, 0, 5, .ro, .lit 0, false, false⟩

/-- R440 (RO): In TR_EXC: engine address of the faulting access. Bits [31:5] are reserved. -/
def TR_EXC.EADDR : Fld := ⟨.tr, 0x20, 32, 32, .ro, .lit 0, false, false⟩

/-- R440 (RW): In TR_MPC: monitor return address (R433) -/
def TR_MPC.MPC : Fld := ⟨.tr, 0x28, 0, 16, .rw, .lit 0, false, false⟩

/-- R440 (RO): In TR_MPC: bit 16 BREAK, 17 BP, 18 WP, 19 STEP, 20 HALT_REQ. Bits [63:21] are reserved. -/
def TR_MPC.MREASON : Fld := ⟨.tr, 0x28, 16, 5, .ro, .lit 0, false, false⟩

/-- R440 (RW): In TR_IRQ_EN: bit b enables source b (R428) -/
def TR_IRQ_EN.EN : Fld := ⟨.tr, 0x30, 0, 5, .rw, .lit 0, false, false⟩

/-- R440 (RW1C, RO): In TR_IRQ_PEND: bits 0, 3 and 4 are RW1C; bits 1 and 2 are RO (R428) -/
def TR_IRQ_PEND.PEND : Fld := ⟨.tr, 0x38, 0, 5, .rw1c, .lit 0, false, false⟩

/-- R440 (WO): In TR_IRQ_POST: value to push (R427). Bits [63:32] are ignored. -/
def TR_IRQ_POST.DATA : Fld := ⟨.tr, 0x40, 0, 32, .wo, .lit 0, false, false⟩

/-- R440 (RC): In TR_POST_DATA: oldest entry, popped by the read -/
def TR_POST_DATA.DATA : Fld := ⟨.tr, 0x48, 0, 32, .rc, .lit 0, false, false⟩

/-- R440 (RC): In TR_POST_DATA: DATA holds an entry. Bits [63:33] are reserved. -/
def TR_POST_DATA.VALID : Fld := ⟨.tr, 0x48, 32, 1, .rc, .lit 0, false, false⟩

/-- R440 (WO): In TR_QNOTE: port notified (R426). Bits [63:4] are reserved. -/
def TR_QNOTE.PORT : Fld := ⟨.tr, 0x60, 0, 4, .wo, .lit 0, false, false⟩

/-- R440 (RO): 0: none; 1: SAMPLE; 2: RESTORE. Set by the Winder; 0 after acknowledgement. -/
def TR_SYSNOTE.KIND : Fld := ⟨.tr, 0x50, 0, 2, .ro, .lit 0, false, false⟩

/-- R440 (RO): Sample slot -/
def TR_SYSNOTE.SLOT : Fld := ⟨.tr, 0x50, 4, 4, .ro, .lit 0, false, false⟩

/-- R440 (RW1C): A notice replaced a pending one. Bits [63:9] are reserved. -/
def TR_SYSNOTE.OVR : Fld := ⟨.tr, 0x50, 8, 1, .rw1c, .lit 0, false, false⟩

/-- R440 (RO): In TR_SYSNOTE_TALLY: event tally E -/
def TR_SYSNOTE_TALLY.TALLY : Fld := ⟨.tr, 0x58, 0, 64, .ro, .lit 0, false, false⟩

/-- R440 (RW): In TR_QPORTp: queue number (R425). Kept. -/
def TR_QPORT.QUEUE : Fld := ⟨.tr, 0x80, 0, 12, .rw, .lit 0, false, true⟩

/-- R440 (RW): In TR_QPORTp: port bound. Kept. -/
def TR_QPORT.VALID : Fld := ⟨.tr, 0x80, 12, 1, .rw, .lit 0, false, true⟩

/-- R440 (RW1C): In TR_QPORTp: the count saturated (R426). Bits [63:14] are reserved. -/
def TR_QPORT.SAT : Fld := ⟨.tr, 0x80, 13, 1, .rw1c, .lit 0, false, false⟩

/-- R440 (RO): In TR_QCOUNTi: bits [16j + 15:16j] count port 4i + j -/
def TR_QCOUNT.COUNT : Fld := ⟨.tr, 0x100, 0, 64, .ro, .lit 0, false, false⟩

/-- R440 (RW): Units of 1,024 Tram cycles (R432); a write of 0 acts as 1. Kept. -/
def TR_WDOG.LIMIT : Fld := ⟨.tr, 0x120, 0, 24, .rw, .lit 0x3d09, false, true⟩

/-- R440 (RW): Watchdog counting. Kept. -/
def TR_WDOG.EN : Fld := ⟨.tr, 0x120, 24, 1, .rw, .lit 0, false, true⟩

/-- R440 (RW): 0: reset on expiry; 1: warn, then reset. Kept. -/
def TR_WDOG.ACT : Fld := ⟨.tr, 0x120, 25, 1, .rw, .lit 0, false, true⟩

/-- R440 (RW): Hold in monitor mode. Kept. -/
def TR_WDOG.DBG_STOP : Fld := ⟨.tr, 0x120, 26, 1, .rw, .lit 1, false, true⟩

/-- R440 (RO): Units left before expiry -/
def TR_WDOG.REMAIN : Fld := ⟨.tr, 0x120, 40, 24, .ro, .lit 0, false, false⟩

/-- R440 (WO): In TR_WDOG_KICK: 1 reloads the counter. Bits [63:1] are reserved. -/
def TR_WDOG_KICK.KICK : Fld := ⟨.tr, 0x128, 0, 1, .wo, .lit 0, false, false⟩

/-- R440 (RW): Gallery address bits [47:28] (R410). Kept. -/
def TR_APER.BASE : Fld := ⟨.tr, 0x140, 28, 20, .rw, .lit 0, false, true⟩

/-- R440 (RW): Aperture usable. Kept. -/
def TR_APER.VALID : Fld := ⟨.tr, 0x140, 63, 1, .rw, .lit 0, false, true⟩

/-- R440 (WO): In TR_DBG_CTRL: 1 requests a debug entry (R433) -/
def TR_DBG_CTRL.HALT_REQ : Fld := ⟨.tr, 0x180, 0, 1, .wo, .lit 0, false, false⟩

/-- R440 (RW): In TR_DBG_CTRL: step after each debug return -/
def TR_DBG_CTRL.STEP : Fld := ⟨.tr, 0x180, 1, 1, .rw, .lit 0, false, false⟩

/-- R440 (RW1C): In TR_DBG_CTRL: BREAK executed in monitor mode. Bits [63:3] are reserved. -/
def TR_DBG_CTRL.DBG_NEST : Fld := ⟨.tr, 0x180, 2, 1, .rw1c, .lit 0, false, false⟩

/-- R440 (RW): In TR_BPi and TR_WPi: enabled -/
def TR_BP.EN : Fld := ⟨.tr, 0x188, 0, 1, .rw, .lit 0, false, false⟩

/-- R440 (RW): In TR_BPi and TR_WPi: enabled -/
def TR_WP.EN : Fld := ⟨.tr, 0x1a8, 0, 1, .rw, .lit 0, false, false⟩

/-- R440 (RW): In TR_BPi: instruction memory offset bits [15:2]. Bits [1] and [63:16] are reserved. -/
def TR_BP.ADDR : Fld := ⟨.tr, 0x188, 2, 14, .rw, .lit 0, false, false⟩

/-- R440 (RW): In TR_WPi: match loads -/
def TR_WP.ON_RD : Fld := ⟨.tr, 0x1a8, 1, 1, .rw, .lit 0, false, false⟩

/-- R440 (RW): In TR_WPi: match stores -/
def TR_WP.ON_WR : Fld := ⟨.tr, 0x1a8, 2, 1, .rw, .lit 0, false, false⟩

/-- R440 (RW): In TR_WPi: engine address bits [31:3]. Bits [63:32] are reserved. -/
def TR_WP.WADDR : Fld := ⟨.tr, 0x1a8, 3, 29, .rw, .lit 0, false, false⟩

/-- R440 (RC): In TR_MEM_ECC: corrected words in either engine memory, saturating. Kept. -/
def TR_MEM_ECC.CE_COUNT : Fld := ⟨.tr, 0x1c0, 0, 16, .rc, .lit 0, false, true⟩

/-- R440 (RC): In TR_MEM_ECC: uncorrectable words, saturating. Kept. -/
def TR_MEM_ECC.UE_COUNT : Fld := ⟨.tr, 0x1c0, 16, 8, .rc, .lit 0, false, true⟩

/-- R440 (RO): In TR_MEM_ECC: word index of the last error -/
def TR_MEM_ECC.LAST_WORD : Fld := ⟨.tr, 0x1c0, 24, 13, .ro, .lit 0, false, false⟩

/-- R440 (RO): In TR_MEM_ECC: 1: instruction memory; 0: data memory -/
def TR_MEM_ECC.LAST_IMEM : Fld := ⟨.tr, 0x1c0, 37, 1, .ro, .lit 0, false, false⟩

/-- R440 (RO): In TR_MEM_ECC: the last error was uncorrectable -/
def TR_MEM_ECC.LAST_UE : Fld := ⟨.tr, 0x1c0, 38, 1, .ro, .lit 0, false, false⟩

/-- R440 (RW1C): In TR_MEM_ECC: two-port write collision (R418) -/
def TR_MEM_ECC.COLL : Fld := ⟨.tr, 0x1c0, 39, 1, .rw1c, .lit 0, false, false⟩

/-- R440 (RC): In TR_MEM_ECC: collisions, saturating. Bits [63:48] are reserved. -/
def TR_MEM_ECC.COLL_COUNT : Fld := ⟨.tr, 0x1c0, 40, 8, .rc, .lit 0, false, false⟩

/-- R440 (RW): In TR_STIM: bit j enables stimulus port j (R435). Kept. -/
def TR_STIM.EN : Fld := ⟨.tr, 0x1c8, 0, 32, .rw, .lit 0, false, true⟩

/-- R440 (RC): In TR_STIM: packets dropped, saturating. Bits [63:48] are reserved. -/
def TR_STIM.DROPS : Fld := ⟨.tr, 0x1c8, 32, 16, .rc, .lit 0, false, false⟩

/-- R489 (RO): Stepping (R3) -/
def FM_ID.REVISION : Fld := ⟨.fm, 0x0, 0, 8, .ro, .lit 1, false, false⟩

/-- R489 (RO): 1: speed grade -2 -/
def FM_ID.GRADE2 : Fld := ⟨.fm, 0x0, 8, 1, .ro, .fuse .fmIdGrade2, false, false⟩

/-- R489 (RO): 1: temperature range I -/
def FM_ID.TEMP_I : Fld := ⟨.fm, 0x0, 9, 1, .ro, .fuse .fmIdTempI, false, false⟩

/-- R489 (RO): Part serial number -/
def FM_ID.SERIAL : Fld := ⟨.fm, 0x0, 16, 48, .ro, .fuse .fmIdSerial, false, false⟩

/-- R489 (RO): In FM_READY: ready bits (R467) -/
def FM_READY.READY : Fld := ⟨.fm, 0x8, 0, 64, .ro, .lit 0, false, false⟩

/-- R489 (RO): In FM_START_REC: step outcomes (R470). Bits [5:0] are kept by WARM; bits [63:6] are cleared at WA... -/
def FM_START_REC.REC : Fld := ⟨.fm, 0x10, 0, 64, .ro, .lit 0, true, false⟩

/-- R489 (RO): 0: primary; 1: golden -/
def FM_BOOT.IMAGE : Fld := ⟨.fm, 0x18, 0, 1, .ro, .lit 0, false, false⟩

/-- R489 (RO): The record marks the primary failed -/
def FM_BOOT.PRIMARY_BAD : Fld := ⟨.fm, 0x18, 1, 1, .ro, .lit 0, false, false⟩

/-- R489 (RO): Both images failed (R466) -/
def FM_BOOT.RECOVERY : Fld := ⟨.fm, 0x18, 2, 1, .ro, .lit 0, false, false⟩

/-- R489 (RO): Version running -/
def FM_BOOT.FW_VER : Fld := ⟨.fm, 0x18, 32, 32, .ro, .lit 0, false, false⟩

/-- R489 (RW): Deadline in ms from the timer start (R175). A write applies at once, and a value not above the ti... -/
def FM_LOAD_DEADLINE.MS : Fld := ⟨.fm, 0x20, 0, 32, .rw, .lit 2000, false, false⟩

/-- R489 (RO): Timer running -/
def FM_LOAD_DEADLINE.RUNNING : Fld := ⟨.fm, 0x20, 32, 1, .ro, .lit 0, false, false⟩

/-- R489 (RO): Timer expired and the diagnostic load began -/
def FM_LOAD_DEADLINE.EXPIRED : Fld := ⟨.fm, 0x20, 33, 1, .ro, .lit 0, false, false⟩

/-- R489 (RW): In FM_IRQ_EN: bit b enables source b -/
def FM_IRQ_EN.EN : Fld := ⟨.fm, 0x28, 0, 6, .rw, .lit 0, false, false⟩

/-- R489 (RW1C): In FM_IRQ_STATUS: 0 MB_DONE; 1 THERM; 2 VOLT; 3 CUR; 4 LOG (an entry with SEV ≥ 2); 5 READY (R468) -/
def FM_IRQ_STATUS.SRC : Fld := ⟨.fm, 0x30, 0, 6, .rw1c, .lit 0, false, false⟩

/-- R489 (RW): In FM_IRQ_EN: MSI-X vector, 0 to 2,047 -/
def FM_IRQ_EN.VECTOR : Fld := ⟨.fm, 0x28, 16, 11, .rw, .lit 0, false, false⟩

/-- R489 (WO): In FM_MB_REQ: command (R480); the write issues it -/
def FM_MB_REQ.OP : Fld := ⟨.fm, 0x100, 0, 8, .wo, .lit 0, false, false⟩

/-- R489 (WO): In FM_MB_REQ: request payload in 8-byte words, 0 to 32 -/
def FM_MB_REQ.LEN : Fld := ⟨.fm, 0x100, 8, 8, .wo, .lit 0, false, false⟩

/-- R489 (WO): In FM_MB_REQ: returned in the status -/
def FM_MB_REQ.TAG : Fld := ⟨.fm, 0x100, 16, 16, .wo, .lit 0, false, false⟩

/-- R489 (RO): In FM_MB_STATUS: command in progress -/
def FM_MB_STATUS.BUSY : Fld := ⟨.fm, 0x108, 0, 1, .ro, .lit 0, false, false⟩

/-- R489 (RW1C): In FM_MB_STATUS: command completed -/
def FM_MB_STATUS.DONE : Fld := ⟨.fm, 0x108, 1, 1, .rw1c, .lit 0, false, false⟩

/-- R489 (RW1C): In FM_MB_STATUS: a request was ignored (R479) -/
def FM_MB_STATUS.MB_OVR : Fld := ⟨.fm, 0x108, 2, 1, .rw1c, .lit 0, false, false⟩

/-- R489 (RO): In FM_MB_STATUS: result (R482) -/
def FM_MB_STATUS.RESULT : Fld := ⟨.fm, 0x108, 8, 8, .ro, .lit 0, false, false⟩

/-- R489 (RO): In FM_MB_STATUS: tag of the completed command -/
def FM_MB_STATUS.TAG : Fld := ⟨.fm, 0x108, 16, 16, .ro, .lit 0, false, false⟩

/-- R489 (RO): In FM_MB_STATUS: response payload in 8-byte words. Bits [7:3] and [63:40] are reserved. -/
def FM_MB_STATUS.RLEN : Fld := ⟨.fm, 0x108, 32, 8, .ro, .lit 0, false, false⟩

/-- R489 (RW): Payload bytes 8i to 8i + 7 -/
def FM_MB_DATA.DATA : Fld := ⟨.fm, 0x200, 0, 64, .rw, .lit 0, false, false⟩

/-- R489 (RO): SEQ of the next entry. Kept by WARM. -/
def FM_LOG_POS.NEXT_SEQ : Fld := ⟨.fm, 0x400, 0, 32, .ro, .lit 0, true, false⟩

/-- R489 (RO): Entries below this SEQ are in flash. Kept by WARM. -/
def FM_LOG_POS.FLASHED : Fld := ⟨.fm, 0x400, 32, 32, .ro, .lit 0, true, false⟩

/-- R489 (RW): Warning limit, signed 1/16 °C (95 °C) -/
def FM_SENS_CTRL.TWARN : Fld := ⟨.fm, 0x800, 0, 16, .rw, .lit 1520, false, false⟩

/-- R489 (RW): Critical limit (105 °C) -/
def FM_SENS_CTRL.TCRIT : Fld := ⟨.fm, 0x800, 16, 16, .rw, .lit 1680, false, false⟩

/-- R489 (RW): Rail tolerance in 0.1 % (3.0 %) -/
def FM_SENS_CTRL.VTOL : Fld := ⟨.fm, 0x800, 32, 8, .rw, .lit 30, false, false⟩

/-- R489 (RW1C): A sensor reached TWARN (R475) -/
def FM_SENS_STATUS.TWARN : Fld := ⟨.fm, 0x808, 0, 1, .rw1c, .lit 0, false, false⟩

/-- R489 (RW1C): A sensor reached TCRIT -/
def FM_SENS_STATUS.TCRIT : Fld := ⟨.fm, 0x808, 1, 1, .rw1c, .lit 0, false, false⟩

/-- R489 (RW1C): A rail left its tolerance -/
def FM_SENS_STATUS.VWARN : Fld := ⟨.fm, 0x808, 2, 1, .rw1c, .lit 0, false, false⟩

/-- R489 (RW1C): A current exceeded its limit -/
def FM_SENS_STATUS.IWARN : Fld := ⟨.fm, 0x808, 3, 1, .rw1c, .lit 0, false, false⟩

/-- R489 (RW1C): A current monitor did not answer -/
def FM_SENS_STATUS.I2C_ERR : Fld := ⟨.fm, 0x808, 4, 1, .rw1c, .lit 0, false, false⟩

/-- R489 (RO): ALERT_N is driven low -/
def FM_SENS_STATUS.ALERT : Fld := ⟨.fm, 0x808, 5, 1, .ro, .lit 0, false, false⟩

/-- R489 (RO): Hottest thermal sensor -/
def FM_SENS_STATUS.HOT_SENSOR : Fld := ⟨.fm, 0x808, 8, 6, .ro, .lit 0, false, false⟩

/-- R489 (RO): Its reading -/
def FM_SENS_STATUS.HOT_TEMP : Fld := ⟨.fm, 0x808, 16, 16, .ro, .lit 0, false, false⟩

/-- R489 (RO): Reading 4i + j of the register's source, in the format of R474 -/
def FM_TEMP.VAL0 : Fld := ⟨.fm, 0x900, 0, 16, .ro, .lit 0, false, false⟩

/-- R489 (RO): Reading 4i + j of the register's source, in the format of R474 -/
def FM_VOLT.VAL0 : Fld := ⟨.fm, 0x980, 0, 16, .ro, .lit 0, false, false⟩

/-- R489 (RO): Reading 4i + j of the register's source, in the format of R474 -/
def FM_AIN.VAL0 : Fld := ⟨.fm, 0x9b0, 0, 16, .ro, .lit 0, false, false⟩

/-- R489 (RO): Reading 4i + j of the register's source, in the format of R474 -/
def FM_CUR.VAL0 : Fld := ⟨.fm, 0x9c0, 0, 16, .ro, .lit 0, false, false⟩

/-- R489 (RO): Reading 4i + j of the register's source, in the format of R474 -/
def FM_TEMP.VAL1 : Fld := ⟨.fm, 0x900, 16, 16, .ro, .lit 0, false, false⟩

/-- R489 (RO): Reading 4i + j of the register's source, in the format of R474 -/
def FM_VOLT.VAL1 : Fld := ⟨.fm, 0x980, 16, 16, .ro, .lit 0, false, false⟩

/-- R489 (RO): Reading 4i + j of the register's source, in the format of R474 -/
def FM_AIN.VAL1 : Fld := ⟨.fm, 0x9b0, 16, 16, .ro, .lit 0, false, false⟩

/-- R489 (RO): Reading 4i + j of the register's source, in the format of R474 -/
def FM_CUR.VAL1 : Fld := ⟨.fm, 0x9c0, 16, 16, .ro, .lit 0, false, false⟩

/-- R489 (RO): Reading 4i + j of the register's source, in the format of R474 -/
def FM_TEMP.VAL2 : Fld := ⟨.fm, 0x900, 32, 16, .ro, .lit 0, false, false⟩

/-- R489 (RO): Reading 4i + j of the register's source, in the format of R474 -/
def FM_VOLT.VAL2 : Fld := ⟨.fm, 0x980, 32, 16, .ro, .lit 0, false, false⟩

/-- R489 (RO): Reading 4i + j of the register's source, in the format of R474 -/
def FM_AIN.VAL2 : Fld := ⟨.fm, 0x9b0, 32, 16, .ro, .lit 0, false, false⟩

/-- R489 (RO): Reading 4i + j of the register's source, in the format of R474 -/
def FM_CUR.VAL2 : Fld := ⟨.fm, 0x9c0, 32, 16, .ro, .lit 0, false, false⟩

/-- R489 (RO): Reading 4i + j of the register's source, in the format of R474 -/
def FM_TEMP.VAL3 : Fld := ⟨.fm, 0x900, 48, 16, .ro, .lit 0, false, false⟩

/-- R489 (RO): Reading 4i + j of the register's source, in the format of R474 -/
def FM_VOLT.VAL3 : Fld := ⟨.fm, 0x980, 48, 16, .ro, .lit 0, false, false⟩

/-- R489 (RO): Reading 4i + j of the register's source, in the format of R474 -/
def FM_AIN.VAL3 : Fld := ⟨.fm, 0x9b0, 48, 16, .ro, .lit 0, false, false⟩

/-- R489 (RO): Reading 4i + j of the register's source, in the format of R474 -/
def FM_CUR.VAL3 : Fld := ⟨.fm, 0x9c0, 48, 16, .ro, .lit 0, false, false⟩

/-- R489 (RW): I2C address. Kept by WARM. -/
def FM_CURMON.ADDR : Fld := ⟨.fm, 0xa00, 0, 7, .rw, .lit 0, true, false⟩

/-- R489 (RW): Monitor read. Kept by WARM. -/
def FM_CURMON.EN : Fld := ⟨.fm, 0xa00, 7, 1, .rw, .lit 0, true, false⟩

/-- R489 (RW): Register read. Kept by WARM. -/
def FM_CURMON.REG : Fld := ⟨.fm, 0xa00, 8, 8, .rw, .lit 0, true, false⟩

/-- R489 (RW): mA per count. Kept by WARM. -/
def FM_CURMON.LSB_MA : Fld := ⟨.fm, 0xa00, 16, 16, .rw, .lit 0, true, false⟩

/-- R489 (RW): IWARN limit in 0.1 A. Kept by WARM. -/
def FM_CURMON.LIMIT : Fld := ⟨.fm, 0xa00, 32, 16, .rw, .lit 0xffff, true, false⟩

/-- R489 (RW): Rail index of R474, reported in the log. Kept by WARM. -/
def FM_CURMON.RAIL : Fld := ⟨.fm, 0xa00, 48, 5, .rw, .lit 0, true, false⟩

/-- R490 (WO): 1: start an enumeration (R488). Ignored, with ENUM_ERR set, on a part that is not the head. -/
def BW_CTRL.ENUM : Fld := ⟨.bw, 0x0, 0, 1, .wo, .lit 0, false, false⟩

/-- R490 (RW): Drive the downstream hop at 25 MHz (R483) -/
def BW_CTRL.SLOW : Fld := ⟨.bw, 0x0, 1, 1, .rw, .lit 0, false, false⟩

/-- R490 (RO): Bellwire address -/
def BW_STATUS.ADDR : Fld := ⟨.bw, 0x8, 0, 8, .ro, .lit 0, false, false⟩

/-- R490 (RO): This part is the head -/
def BW_STATUS.HEAD : Fld := ⟨.bw, 0x8, 8, 1, .ro, .lit 0, false, false⟩

/-- R490 (RO): No UP downstream hop at the last enumeration -/
def BW_STATUS.TAIL : Fld := ⟨.bw, 0x8, 9, 1, .ro, .lit 0, false, false⟩

/-- R490 (RO): An address is held -/
def BW_STATUS.ENUMERATED : Fld := ⟨.bw, 0x8, 10, 1, .ro, .lit 0, false, false⟩

/-- R490 (RO): Beyond address 255; no address -/
def BW_STATUS.ADDR_OVF : Fld := ⟨.bw, 0x8, 11, 1, .ro, .lit 0, false, false⟩

/-- R490 (RO): Upstream hop UP (R486) -/
def BW_STATUS.UP_LINK : Fld := ⟨.bw, 0x8, 12, 1, .ro, .lit 0, false, false⟩

/-- R490 (RO): Downstream hop UP -/
def BW_STATUS.DOWN_LINK : Fld := ⟨.bw, 0x8, 13, 1, .ro, .lit 0, false, false⟩

/-- R490 (RO): BW_HEAD strap sampled at COLD -/
def BW_STATUS.STRAP_HEAD : Fld := ⟨.bw, 0x8, 14, 1, .ro, .fuse .bwStatusStrapHead, false, false⟩

/-- R490 (RW1C): An ENUM write was ignored -/
def BW_STATUS.ENUM_ERR : Fld := ⟨.bw, 0x8, 15, 1, .rw1c, .lit 0, false, false⟩

/-- R490 (RO): Parts counted by the last enumeration; head only -/
def BW_STATUS.PARTS : Fld := ⟨.bw, 0x8, 16, 9, .ro, .lit 0, false, false⟩

/-- R490 (RO): Enumerations since COLD or WARM, wrapping -/
def BW_STATUS.CHAINS : Fld := ⟨.bw, 0x8, 32, 32, .ro, .lit 0, false, false⟩

/-- R490 (RC): Windows that failed CRC, both hops, saturating -/
def BW_ERR.CRC_ERR : Fld := ⟨.bw, 0x10, 0, 16, .rc, .lit 0, false, false⟩

/-- R490 (RC): Messages sent again, saturating -/
def BW_ERR.RESENT : Fld := ⟨.bw, 0x10, 16, 16, .rc, .lit 0, false, false⟩

/-- R490 (RC): Hop changes to DOWN, saturating -/
def BW_ERR.HOP_DOWNS : Fld := ⟨.bw, 0x10, 32, 16, .rc, .lit 0, false, false⟩

/-- R504 (RW): 0: NONE; 1: BELLWIRE; 2: PTP; 3: reserved, leaves the field unchanged (R496) -/
def SC_CTRL.SRC : Fld := ⟨.sc, 0x0, 0, 2, .rw, .lit 0, false, false⟩

/-- R504 (RW): Send TIME messages when this part is the head (R497) -/
def SC_CTRL.HEAD_SEND : Fld := ⟨.sc, 0x0, 2, 1, .rw, .lit 1, false, false⟩

/-- R504 (RW): TIME period in ms; a write of 0 acts as 1 -/
def SC_CTRL.PERIOD_MS : Fld := ⟨.sc, 0x0, 8, 8, .rw, .lit 1, false, false⟩

/-- R504 (RW): Missed intervals before loss (R500); a write of 0 acts as 1 -/
def SC_CTRL.LOSS_N : Fld := ⟨.sc, 0x0, 16, 4, .rw, .lit 3, false, false⟩

/-- R504 (RW): Hop delay in 1/16 ns (12 ns) -/
def SC_CTRL.HOP_NS : Fld := ⟨.sc, 0x0, 20, 12, .rw, .lit 192, false, false⟩

/-- R504 (RW): Step threshold in ns (R498) -/
def SC_CTRL.STEP_NS : Fld := ⟨.sc, 0x0, 32, 16, .rw, .lit 1000, false, false⟩

/-- R504 (RW): Lock threshold in ns -/
def SC_CTRL.LOCK_NS : Fld := ⟨.sc, 0x0, 48, 8, .rw, .lit 20, false, false⟩

/-- R504 (RO): State code (R496) -/
def SC_STATUS.STATE : Fld := ⟨.sc, 0x8, 0, 2, .ro, .lit 0, false, false⟩

/-- R504 (RW1C): An increment write was refused (R495) -/
def SC_STATUS.INC_ERR : Fld := ⟨.sc, 0x8, 2, 1, .rw1c, .lit 0, false, false⟩

/-- R504 (RW1C): A write was refused while the servo owns the clock -/
def SC_STATUS.SRC_ERR : Fld := ⟨.sc, 0x8, 3, 1, .rw1c, .lit 0, false, false⟩

/-- R504 (RW1C): The master was lost (R500) -/
def SC_STATUS.LOST : Fld := ⟨.sc, 0x8, 4, 1, .rw1c, .lit 0, false, false⟩

/-- R504 (RW1C): Time was stepped (R494) -/
def SC_STATUS.STEPPED : Fld := ⟨.sc, 0x8, 5, 1, .rw1c, .lit 0, false, false⟩

/-- R504 (RO): HOPS of the last TIME message -/
def SC_STATUS.HOPS : Fld := ⟨.sc, 0x8, 8, 8, .ro, .lit 0, false, false⟩

/-- R504 (RO): Last measured offset, signed ns, saturating -/
def SC_STATUS.OFFSET : Fld := ⟨.sc, 0x8, 32, 32, .ro, .lit 0, false, false⟩

/-- R504 (RO): In SC_COUNT: the count (R491). Kept by WARM. -/
def SC_COUNT.COUNT : Fld := ⟨.sc, 0x10, 0, 64, .ro, .lit 0, true, false⟩

/-- R504 (RW): In SC_TIME: read, T in whole ns (R492); write, step (R494) -/
def SC_TIME.TIME : Fld := ⟨.sc, 0x18, 0, 64, .rw, .lit 0, false, false⟩

/-- R504 (RO): In SC_TIME_FRAC: fraction latched by the last SC_TIME read. Bits [63:48] are reserved. -/
def SC_TIME_FRAC.FRAC : Fld := ⟨.sc, 0x20, 0, 48, .ro, .lit 0, false, false⟩

/-- R504 (RW): In SC_INC: increment, 16.48 ns (R493, R495). Kept by WARM. -/
def SC_INC.INC : Fld := ⟨.sc, 0x28, 0, 64, .rw, .lit 0x3555555555555, true, false⟩

/-- R504 (RO): In SC_EPOCH_COUNT. Kept by WARM. -/
def SC_EPOCH_COUNT.EPOCH_COUNT : Fld := ⟨.sc, 0x30, 0, 64, .ro, .lit 0, true, false⟩

/-- R504 (RO): In SC_EPOCH_TIME: whole ns. Kept by WARM. -/
def SC_EPOCH_TIME.EPOCH_TIME : Fld := ⟨.sc, 0x38, 0, 64, .ro, .lit 0, true, false⟩

/-- R504 (RW): In SC_IRQ_EN: bit b enables source b -/
def SC_IRQ_EN.EN : Fld := ⟨.sc, 0x40, 0, 10, .rw, .lit 0, false, false⟩

/-- R504 (RW1C): In SC_IRQ_STATUS: bits 0–3 HIT0–3; bits 4–5 CAP0–1; bit 6 LOST; bit 7 LOCKED (entry to LOCKED); b... -/
def SC_IRQ_STATUS.SRCS : Fld := ⟨.sc, 0x48, 0, 10, .rw1c, .lit 0, false, false⟩

/-- R504 (RW): In SC_IRQ_EN: MSI-X vector, 0 to 2,047 -/
def SC_IRQ_EN.VECTOR : Fld := ⟨.sc, 0x40, 16, 11, .rw, .lit 0, false, false⟩

/-- R504 (RO): In SC_CAPi: T latched by TIME_INi (R501) -/
def SC_CAP.CAP : Fld := ⟨.sc, 0x50, 0, 64, .ro, .lit 0, false, false⟩

/-- R504 (RW): In SC_CMP_CTRLj: unit enabled (R502) -/
def SC_CMP_CTRL.EN : Fld := ⟨.sc, 0x100, 0, 1, .rw, .lit 0, false, false⟩

/-- R504 (RW): In SC_CMP_CTRLj: drive TIME_OUTj -/
def SC_CMP_CTRL.OUT_EN : Fld := ⟨.sc, 0x100, 1, 1, .rw, .lit 0, false, false⟩

/-- R504 (RO): In SC_CMP_CTRLj: T is inside the window -/
def SC_CMP_CTRL.IN : Fld := ⟨.sc, 0x100, 2, 1, .ro, .lit 0, false, false⟩

/-- R504 (RW1C): In SC_CMP_CTRLj: the window was passed over. Bits [63:4] are reserved. -/
def SC_CMP_CTRL.MISS : Fld := ⟨.sc, 0x100, 3, 1, .rw1c, .lit 0, false, false⟩

/-- R504 (RW): In SC_CMP_STARTj: first ns of the window -/
def SC_CMP_START.START : Fld := ⟨.sc, 0x108, 0, 64, .rw, .lit 0, false, false⟩

/-- R504 (RW): In SC_CMP_ENDj: first ns after the window -/
def SC_CMP_END.END : Fld := ⟨.sc, 0x110, 0, 64, .rw, .lit 0, false, false⟩

/-- R504 (RO): In SC_CMP_HITj: T of the first entry since HITj was last clear -/
def SC_CMP_HIT.HIT : Fld := ⟨.sc, 0x118, 0, 64, .ro, .lit 0, false, false⟩

/-- R524 (RO): Level in force (R514); cold value DEFAULT -/
def LP_STATUS.LEVEL : Fld := ⟨.lp, 0x0, 0, 2, .ro, .fuse .lpStatusDefault, false, false⟩

/-- R524 (RO): 0: one-wire; 1: two-wire (R512) -/
def LP_STATUS.MODE : Fld := ⟨.lp, 0x0, 2, 1, .ro, .lit 0, false, false⟩

/-- R524 (RO): A challenge is pending (R516) -/
def LP_STATUS.CHAL_VALID : Fld := ⟨.lp, 0x0, 3, 1, .ro, .lit 0, false, false⟩

/-- R524 (RO): GET refused for 1 s after a failure -/
def LP_STATUS.LOCKOUT : Fld := ⟨.lp, 0x0, 4, 1, .ro, .lit 0, false, false⟩

/-- R524 (RW1C): A GET or SUBMIT was refused, or a response failed -/
def LP_STATUS.UNLOCK_ERR : Fld := ⟨.lp, 0x0, 5, 1, .rw1c, .lit 0, false, false⟩

/-- R524 (RO): Level after COLD and WARM, from the device fuse map -/
def LP_STATUS.DEFAULT : Fld := ⟨.lp, 0x0, 8, 2, .ro, .fuse .lpStatusDefault, false, false⟩

/-- R524 (RO): Highest level an unlock can reach, from the device fuse map -/
def LP_STATUS.MAX : Fld := ⟨.lp, 0x0, 10, 2, .ro, .fuse .lpStatusMax, false, false⟩

/-- R524 (RWS): Failed responses since COLD, saturating at 255; at 16, GET is refused (R517). A write has no effe... -/
def LP_STATUS.FAIL_COUNT : Fld := ⟨.lp, 0x0, 16, 8, .rws, .lit 0, true, false⟩

/-- R524 (RC): Requests answered with ACK = CRC, saturating -/
def LP_STATUS.CRC_ERR : Fld := ⟨.lp, 0x0, 24, 16, .rc, .lit 0, false, false⟩

/-- R524 (WO): 1: draw a challenge for LEVEL -/
def LP_UNLOCK.GET : Fld := ⟨.lp, 0x8, 0, 1, .wo, .lit 0, false, false⟩

/-- R524 (WO): Level requested, 1 or 2 -/
def LP_UNLOCK.LEVEL : Fld := ⟨.lp, 0x8, 1, 2, .wo, .lit 0, false, false⟩

/-- R524 (WO): 1: compare the response -/
def LP_UNLOCK.SUBMIT : Fld := ⟨.lp, 0x8, 3, 1, .wo, .lit 0, false, false⟩

/-- R524 (WO): 1: return to DEFAULT (R515) -/
def LP_UNLOCK.LOCK : Fld := ⟨.lp, 0x8, 4, 1, .wo, .lit 0, false, false⟩

/-- R524 (RO): In LP_CHALLENGEi: challenge bytes 8i to 8i + 7; 0 while CHAL_VALID is 0 -/
def LP_CHALLENGE.CHAL : Fld := ⟨.lp, 0x10, 0, 64, .ro, .lit 0, false, false⟩

/-- R524 (WO): In LP_RESPONSEi: response bytes 8i to 8i + 7 -/
def LP_RESPONSE.RESP : Fld := ⟨.lp, 0x20, 0, 64, .wo, .lit 0, false, false⟩

/-- R524 (RW): Trace path enabled (R521) -/
def LP_TRACE_CTRL.EN : Fld := ⟨.lp, 0x40, 0, 1, .rw, .lit 0, false, false⟩

/-- R524 (RW): Output on TRC_CLK and TRC_D[7:0] (R522) -/
def LP_TRACE_CTRL.PINS_EN : Fld := ⟨.lp, 0x40, 1, 1, .rw, .lit 0, false, false⟩

/-- R524 (RW): Output to the trace ring (R523) -/
def LP_TRACE_CTRL.RING_EN : Fld := ⟨.lp, 0x40, 2, 1, .rw, .lit 0, false, false⟩

/-- R524 (RW): 0: overwrite; 1: stop when full -/
def LP_TRACE_CTRL.STOP_ON_FULL : Fld := ⟨.lp, 0x40, 3, 1, .rw, .lit 0, false, false⟩

/-- R524 (RW): TRC_CLK frequency in MHz, 50 to 300; other values leave the field unchanged -/
def LP_TRACE_CTRL.TRC_MHZ : Fld := ⟨.lp, 0x40, 8, 9, .rw, .lit 100, false, false⟩

/-- R524 (RW): SYNC period in ms; a write of 0 acts as 1 -/
def LP_TRACE_CTRL.SYNC_MS : Fld := ⟨.lp, 0x40, 24, 8, .rw, .lit 1, false, false⟩

/-- R524 (RW1C): The ring filled with STOP_ON_FULL = 1 -/
def LP_TRACE_STATUS.FULL : Fld := ⟨.lp, 0x48, 0, 1, .rw1c, .lit 0, false, false⟩

/-- R524 (RW1C): The ring overwrote units -/
def LP_TRACE_STATUS.WRAPPED : Fld := ⟨.lp, 0x48, 1, 1, .rw1c, .lit 0, false, false⟩

/-- R524 (RW1C): A ring write got an error response -/
def LP_TRACE_STATUS.RING_ERR : Fld := ⟨.lp, 0x48, 2, 1, .rw1c, .lit 0, false, false⟩

/-- R524 (RO): Packets in the trace buffer, 0 to 256 -/
def LP_TRACE_STATUS.BUF_FILL : Fld := ⟨.lp, 0x48, 8, 9, .ro, .lit 0, false, false⟩

/-- R524 (RW): Bits [39:21] of the ring's DRAM address. Written by the Foreman only (R370). -/
def LP_TRACE_RING.BASE : Fld := ⟨.lp, 0x50, 21, 19, .rw, .lit 0, false, false⟩

/-- R524 (RW): Size in units of 2 MiB -/
def LP_TRACE_RING.SIZE : Fld := ⟨.lp, 0x50, 40, 23, .rw, .lit 0, false, false⟩

/-- R524 (RW): Ring placed and ready -/
def LP_TRACE_RING.OK : Fld := ⟨.lp, 0x50, 63, 1, .rw, .lit 0, false, false⟩

/-- R524 (RO): 16-byte units written, free-running (R523) -/
def LP_TRACE_POS.WPOS : Fld := ⟨.lp, 0x58, 0, 32, .ro, .lit 0, false, false⟩

/-- R524 (RW): Units consumed by the reader; used only with STOP_ON_FULL = 1 -/
def LP_TRACE_POS.RPOS : Fld := ⟨.lp, 0x58, 32, 32, .rw, .lit 0, false, false⟩

/-- R539 (RO): FLASH always enabled -/
def IO_MG_EN.FLASH : Fld := ⟨.io, 0x0, 0, 1, .ro, .lit 1, false, false⟩

/-- R539 (RW): ALERT enabled -/
def IO_MG_EN.ALERT : Fld := ⟨.io, 0x0, 1, 1, .rw, .lit 1, false, false⟩

/-- R539 (RW): I2C enabled -/
def IO_MG_EN.I2C : Fld := ⟨.io, 0x0, 2, 1, .rw, .lit 0, false, false⟩

/-- R539 (RW): ETH enabled -/
def IO_MG_EN.ETH : Fld := ⟨.io, 0x0, 3, 1, .rw, .lit 0, false, false⟩

/-- R539 (RW): TIME enabled -/
def IO_MG_EN.TIME : Fld := ⟨.io, 0x0, 4, 1, .rw, .lit 0, false, false⟩

/-- R539 (RW): 0: location A; 1: B -/
def IO_MG_EN.TIME_LOC : Fld := ⟨.io, 0x0, 5, 1, .rw, .lit 0, false, false⟩

/-- R539 (RW): TRACE enabled -/
def IO_MG_EN.TRACE : Fld := ⟨.io, 0x0, 6, 1, .rw, .lit 0, false, false⟩

/-- R539 (RW): 0: location A; 1: B -/
def IO_MG_EN.TRACE_LOC : Fld := ⟨.io, 0x0, 7, 1, .rw, .lit 0, false, false⟩

/-- R539 (RW): AIN enabled -/
def IO_MG_EN.AIN : Fld := ⟨.io, 0x0, 8, 1, .rw, .lit 0, false, false⟩

/-- R539 (RO): Bit k: block k holds its pins. Blocks: 0 FLASH, 1 ALERT, 2 I2C, 3 ETH, 4 TIME, 5 TRACE, 6 AIN. -/
def IO_MG_STATUS.OWNED : Fld := ⟨.io, 0x8, 0, 7, .ro, .lit 1, false, false⟩

/-- R539 (RO): Bit 8 + k: block k is enabled but holds no pins (R536) -/
def IO_MG_STATUS.BLOCKED : Fld := ⟨.io, 0x8, 8, 7, .ro, .lit 0, false, false⟩

/-- R539 (RO): Bit 16 + i: TIME_INi is fed from two pins (R537) -/
def IO_MG_STATUS.CONFLICT : Fld := ⟨.io, 0x8, 16, 2, .ro, .lit 0, false, false⟩

/-- R539 (RW1C): Bit 18 + i: a conflict on TIME_INi occurred -/
def IO_MG_STATUS.CONFLICT_SEEN : Fld := ⟨.io, 0x8, 18, 2, .rw1c, .lit 0, false, false⟩

/-- R539 (RO): An owner change is in progress (R538) -/
def IO_MG_STATUS.SWITCHING : Fld := ⟨.io, 0x8, 20, 1, .ro, .lit 0, false, false⟩

/-- R539 (RO): In IO_MG_LEVEL: bit i is the level at pin Mi -/
def IO_MG_LEVEL.LEVEL : Fld := ⟨.io, 0x10, 0, 64, .ro, .lit 0, false, false⟩

/-- R539 (RO): In IO_BANK_LEVEL: bit j is the level at pin j. Bits [63:48] are reserved. A pin in analogue mode,... -/
def IO_BANK_LEVEL.LEVEL : Fld := ⟨.iob, 0x8, 0, 48, .ro, .lit 0, false, false⟩

/-- R539 (RO): Bank state (R529) -/
def IO_BANK_STATUS.STATE : Fld := ⟨.iob, 0x0, 0, 2, .ro, .lit 0, false, false⟩

/-- R539 (RO): VCCIO class (R531) -/
def IO_BANK_STATUS.CLASS : Fld := ⟨.iob, 0x0, 2, 2, .ro, .lit 0, false, false⟩

/-- R539 (RW1C): A pin write was refused (R534) -/
def IO_BANK_STATUS.CFG_ERR : Fld := ⟨.iob, 0x0, 4, 1, .rw1c, .lit 0, false, false⟩

/-- R539 (RW1C): VCCIO was lost while ON -/
def IO_BANK_STATUS.DROPPED : Fld := ⟨.iob, 0x0, 5, 1, .rw1c, .lit 0, false, false⟩

/-- R539 (RW1C): A pin's THR does not suit CLASS (R533) -/
def IO_BANK_STATUS.THR_MISMATCH : Fld := ⟨.iob, 0x0, 6, 1, .rw1c, .lit 0, false, false⟩

/-- R539 (RW): 0: none; 1: up; 2: down; 3: keeper -/
def IO_PIN.PULL : Fld := ⟨.iob, 0x100, 0, 2, .rw, .lit 0, true, false⟩

/-- R539 (RW): 0: none; 1: up; 2: down; 3: keeper -/
def IO_MPIN.PULL : Fld := ⟨.iom, 0x100, 0, 2, .rw, .lit 1, true, false⟩

/-- R539 (RW): 0: 4 mA; 1: 8 mA; 2: 12 mA; 3: 16 mA -/
def IO_PIN.DRIVE : Fld := ⟨.iob, 0x100, 2, 2, .rw, .lit 1, true, false⟩

/-- R539 (RW): 0: 4 mA; 1: 8 mA; 2: 12 mA; 3: 16 mA -/
def IO_MPIN.DRIVE : Fld := ⟨.iom, 0x100, 2, 2, .rw, .lit 1, true, false⟩

/-- R539 (RW): 0: slow; 1: fast (R532) -/
def IO_PIN.SLEW : Fld := ⟨.iob, 0x100, 4, 1, .rw, .lit 0, true, false⟩

/-- R539 (RW): 0: slow; 1: fast (R532) -/
def IO_MPIN.SLEW : Fld := ⟨.iom, 0x100, 4, 1, .rw, .lit 0, true, false⟩

/-- R539 (RW): 0: CMOS; 1: TTL; 2: LOW; 3: reserved (R533) -/
def IO_PIN.THR : Fld := ⟨.iob, 0x100, 5, 2, .rw, .lit 0, true, false⟩

/-- R539 (RW): 0: CMOS; 1: TTL; 2: LOW; 3: reserved (R533) -/
def IO_MPIN.THR : Fld := ⟨.iom, 0x100, 5, 2, .rw, .lit 0, true, false⟩

/-- R539 (RW): Input hysteresis -/
def IO_PIN.HYST : Fld := ⟨.iob, 0x100, 7, 1, .rw, .lit 0, true, false⟩

/-- R539 (RW): Input hysteresis -/
def IO_MPIN.HYST : Fld := ⟨.iom, 0x100, 7, 1, .rw, .lit 0, true, false⟩

/-- R539 (RW): Analogue mode -/
def IO_PIN.ANALOG : Fld := ⟨.iob, 0x100, 8, 1, .rw, .lit 0, true, false⟩

/-- R539 (RW): Analogue mode -/
def IO_MPIN.ANALOG : Fld := ⟨.iom, 0x100, 8, 1, .rw, .lit 0, true, false⟩

/-- R539 (RW): In IO_PIN: safe state (R528) -/
def IO_PIN.SAFE : Fld := ⟨.iob, 0x100, 9, 2, .rw, .lit 0, true, false⟩

/-- R539 (RO): In IO_PIN: the pin is under fabric control (R527). Bits [63:17] are reserved. -/
def IO_PIN.FABRIC : Fld := ⟨.iob, 0x100, 16, 1, .ro, .lit 0, false, false⟩

/-- R539 (RW): In IO_MPIN: GPIO output enable -/
def IO_MPIN.GPIO_OE : Fld := ⟨.iom, 0x100, 9, 1, .rw, .lit 0, true, false⟩

/-- R539 (RW): In IO_MPIN: GPIO output value -/
def IO_MPIN.GPIO_OUT : Fld := ⟨.iom, 0x100, 10, 1, .rw, .lit 0, true, false⟩

/-- R539 (RW): In IO_MPIN: 0 none; 1 TIME_IN0; 2 TIME_IN1; 3 reserved (R537) -/
def IO_MPIN.ALT_IN : Fld := ⟨.iom, 0x100, 11, 2, .rw, .lit 0, true, false⟩

/-- R539 (RO): In IO_MPIN: 0 GPIO; 1 + k for block k of OWNED. Bits [63:20] are reserved. -/
def IO_MPIN.OWNER : Fld := ⟨.iom, 0x100, 16, 4, .ro, .lit 0, false, false⟩
/-- The fields of `CK_CLK_STATUS`. -/
def CK_CLK_STATUS.regs : List Fld :=
    [CK_CLK_STATUS.REFCLK_OK, CK_CLK_STATUS.ROOT_LOCK, CK_CLK_STATUS.ALIGNED, CK_CLK_STATUS.FM_CLK_SRC, CK_CLK_STATUS.LIMP, CK_CLK_STATUS.DIV_ERR, CK_CLK_STATUS.PHASE_DIV_CUR, CK_CLK_STATUS.PHASE_DIV_MIN]

/-- The fields of `CK_PHASE_DIV`. -/
def CK_PHASE_DIV.regs : List Fld :=
    [CK_PHASE_DIV.N]

/-- The fields of `CK_CLK_CTRL`. -/
def CK_CLK_CTRL.regs : List Fld :=
    [CK_CLK_CTRL.RETRY]

/-- The fields of `CK_GATE_DIS`. -/
def CK_GATE_DIS.regs : List Fld :=
    [CK_GATE_DIS.DIS]

/-- The fields of `CK_GATE_STATUS`. -/
def CK_GATE_STATUS.regs : List Fld :=
    [CK_GATE_STATUS.GATED]

/-- The fields of `CK_RESET_CTRL`. -/
def CK_RESET_CTRL.regs : List Fld :=
    [CK_RESET_CTRL.KEY, CK_RESET_CTRL.WARM_REQ]

/-- The fields of `CK_STOPE_RST`. -/
def CK_STOPE_RST.regs : List Fld :=
    [CK_STOPE_RST.STOPE, CK_STOPE_RST.GO]

/-- The fields of `CK_ENGINE_RST`. -/
def CK_ENGINE_RST.regs : List Fld :=
    [CK_ENGINE_RST.ENGINE, CK_ENGINE_RST.GO]

/-- The fields of `CK_RST_STATUS`. -/
def CK_RST_STATUS.regs : List Fld :=
    [CK_RST_STATUS.STOPE_BUSY, CK_RST_STATUS.ENGINE_BUSY, CK_RST_STATUS.STOPE_REFUSED, CK_RST_STATUS.ENGINE_REFUSED, CK_RST_STATUS.PWR_REFUSED, CK_RST_STATUS.LAST_STOPE, CK_RST_STATUS.LAST_ENGINE]

/-- The fields of `CK_RST_CAUSE`. -/
def CK_RST_CAUSE.regs : List Fld :=
    [CK_RST_CAUSE.PERST, CK_RST_CAUSE.SW_WARM, CK_RST_CAUSE.ROOT_LOST, CK_RST_CAUSE.RAIL, CK_RST_CAUSE.LAMP, CK_RST_CAUSE.WARM_COUNT]

/-- The fields of `CK_AON_STATUS`. -/
def CK_AON_STATUS.regs : List Fld :=
    [CK_AON_STATUS.REFCLK_BAD, CK_AON_STATUS.ROOT_FAIL, CK_AON_STATUS.SWITCH_HANG, CK_AON_STATUS.ROOT_LOST, CK_AON_STATUS.HANG_COUNT, CK_AON_STATUS.REFCLK_FAIL_COUNT, CK_AON_STATUS.LOCK_FAIL_COUNT]

/-- The fields of `CK_RAIL_STATUS`. -/
def CK_RAIL_STATUS.regs : List Fld :=
    [CK_RAIL_STATUS.CORE_GOOD, CK_RAIL_STATUS.SRAM_GOOD, CK_RAIL_STATUS.LANE09_GOOD, CK_RAIL_STATUS.LANE12_GOOD, CK_RAIL_STATUS.DDR_GOOD, CK_RAIL_STATUS.AUX_GOOD, CK_RAIL_STATUS.BANK_GOOD, CK_RAIL_STATUS.MGMT_GOOD]

/-- The fields of `CK_CREW_PWR`. -/
def CK_CREW_PWR.regs : List Fld :=
    [CK_CREW_PWR.ON, CK_CREW_PWR.ON_STAT]

/-- The fields of `CK_STOPE_PWR`. -/
def CK_STOPE_PWR.regs : List Fld :=
    [CK_STOPE_PWR.ON]

/-- The fields of `CK_STOPE_PWR_STAT`. -/
def CK_STOPE_PWR_STAT.regs : List Fld :=
    [CK_STOPE_PWR_STAT.ON_STAT]

/-- The fields of `ST_ISO`. -/
def ST_ISO.regs : List Fld :=
    [ST_ISO.ISOLATE, ST_ISO.RELEASE]

/-- The fields of `ST_STATUS`. -/
def ST_STATUS.regs : List Fld :=
    [ST_STATUS.STATE, ST_STATUS.ISOLATED, ST_STATUS.ISO_PEND, ST_STATUS.REL_PEND, ST_STATUS.ISO_ERR]

/-- The fields of `ST_SPOIL`. -/
def ST_SPOIL.regs : List Fld :=
    [ST_SPOIL.SPOIL, ST_SPOIL.C_CORR, ST_SPOIL.C_REPAIR, ST_SPOIL.C_LOST, ST_SPOIL.C_SLIP, ST_SPOIL.C_MEMUE, ST_SPOIL.SPOIL_COUNT]

/-- The fields of `ST_SPOIL_TALLY`. -/
def ST_SPOIL_TALLY.regs : List Fld :=
    [ST_SPOIL_TALLY.FIRST]

/-- The fields of `ST_SPOIL_BOUND`. -/
def ST_SPOIL_BOUND.regs : List Fld :=
    [ST_SPOIL_BOUND.BOUND]

/-- The fields of `ST_SCRUB`. -/
def ST_SCRUB.regs : List Fld :=
    [ST_SCRUB.CORR_WORDS, ST_SCRUB.REPAIRED, ST_SCRUB.LOST_COUNT, ST_SCRUB.LAST_FRAME, ST_SCRUB.LAST_REPAIR, ST_SCRUB.FRAME_LOST]

/-- The fields of `ST_REPAIR`. -/
def ST_REPAIR.regs : List Fld :=
    [ST_REPAIR.REQ_POS, ST_REPAIR.GO, ST_REPAIR.POS, ST_REPAIR.REFILL, ST_REPAIR.REP_ERR, ST_REPAIR.IN_SERVICE]

/-- The fields of `ST_TREE_CTRL`. -/
def ST_TREE_CTRL.regs : List Fld :=
    [ST_TREE_CTRL.SRC]

/-- The fields of `ST_TREE_STEP`. -/
def ST_TREE_STEP.regs : List Fld :=
    [ST_TREE_STEP.GO]

/-- The fields of `ST_TREE_EDGES`. -/
def ST_TREE_EDGES.regs : List Fld :=
    [ST_TREE_EDGES.RISE, ST_TREE_EDGES.FALL]

/-- The fields of `ST_TREE_STATUS`. -/
def ST_TREE_STATUS.regs : List Fld :=
    [ST_TREE_STATUS.SRC_CUR, ST_TREE_STATUS.SWITCHING, ST_TREE_STATUS.SRC_ERR, ST_TREE_STATUS.STEP_ERR, ST_TREE_STATUS.HANG, ST_TREE_STATUS.SLIP, ST_TREE_STATUS.HOLD_SYNC, ST_TREE_STATUS.LOCAL_CTX, ST_TREE_STATUS.LOCAL_PHASE, ST_TREE_STATUS.SLIP_COUNT]

/-- The fields of `ST_MEM_ECC`. -/
def ST_MEM_ECC.regs : List Fld :=
    [ST_MEM_ECC.CE_COUNT, ST_MEM_ECC.UE_COUNT, ST_MEM_ECC.LAST_MEM, ST_MEM_ECC.LAST_UE, ST_MEM_ECC.LAST_UNIT, ST_MEM_ECC.LAST_SRC]

/-- The fields of `ST_MEM_COLL`. -/
def ST_MEM_COLL.regs : List Fld :=
    [ST_MEM_COLL.COLL, ST_MEM_COLL.COLL_COUNT, ST_MEM_COLL.COLL_BIN, ST_MEM_COLL.COLL_ADDR]

/-- The fields of `ST_MEM_JRNL`. -/
def ST_MEM_JRNL.regs : List Fld :=
    [ST_MEM_JRNL.ARMED, ST_MEM_JRNL.MAX_FILL, ST_MEM_JRNL.STALL_COUNT]

/-- The fields of `ST_MEM_REPAIR`. -/
def ST_MEM_REPAIR.regs : List Fld :=
    [ST_MEM_REPAIR.IN_USE]

/-- The fields of `ST_MEM_CTRL`. -/
def ST_MEM_CTRL.regs : List Fld :=
    [ST_MEM_CTRL.SWEEP_EN, ST_MEM_CTRL.INJ_MEM, ST_MEM_CTRL.INJ_DOUBLE, ST_MEM_CTRL.INJ_ARM, ST_MEM_CTRL.SWEEP_INT]

/-- The fields of `ST_BQ_CTRL`. -/
def ST_BQ_CTRL.regs : List Fld :=
    [ST_BQ_CTRL.LEVEL, ST_BQ_CTRL.HYST, ST_BQ_CTRL.IRQ_EN]

/-- The fields of `ST_BQ_IRQ_ADDR`. -/
def ST_BQ_IRQ_ADDR.regs : List Fld :=
    [ST_BQ_IRQ_ADDR.ADDR]

/-- The fields of `ST_BQ_IRQ_DATA`. -/
def ST_BQ_IRQ_DATA.regs : List Fld :=
    [ST_BQ_IRQ_DATA.DATA]

/-- The fields of `ST_BQ_STATUS`. -/
def ST_BQ_STATUS.regs : List Fld :=
    [ST_BQ_STATUS.COUNT, ST_BQ_STATUS.MODE, ST_BQ_STATUS.IRQ_PEND, ST_BQ_STATUS.IRQ_ARMED, ST_BQ_STATUS.OVERRUN, ST_BQ_STATUS.UNDERRUN, ST_BQ_STATUS.WRITE_FAIL]

/-- The fields of `CF_LD_CTRL`. -/
def CF_LD_CTRL.regs : List Fld :=
    [CF_LD_CTRL.START, CF_LD_CTRL.ABORT]

/-- The fields of `CF_LD_STATUS`. -/
def CF_LD_STATUS.regs : List Fld :=
    [CF_LD_STATUS.STATE, CF_LD_STATUS.START_ERR, CF_LD_STATUS.EXT_ERR, CF_LD_STATUS.ERR, CF_LD_STATUS.DONE, CF_LD_STATUS.FAILED, CF_LD_STATUS.OWNER_KEY, CF_LD_STATUS.DSK_HOST, CF_LD_STATUS.DIAG_FAIL]

/-- The fields of `CF_EXT_ADDR`. -/
def CF_EXT_ADDR.regs : List Fld :=
    [CF_EXT_ADDR.ADDR]

/-- The fields of `CF_EXT_LEN`. -/
def CF_EXT_LEN.regs : List Fld :=
    [CF_EXT_LEN.LEN, CF_EXT_LEN.SPACE, CF_EXT_LEN.LAST]

/-- The fields of `CF_EXT_STATUS`. -/
def CF_EXT_STATUS.regs : List Fld :=
    [CF_EXT_STATUS.FREE, CF_EXT_STATUS.HELD]

/-- The fields of `CF_LD_PROGRESS`. -/
def CF_LD_PROGRESS.regs : List Fld :=
    [CF_LD_PROGRESS.SEGS, CF_LD_PROGRESS.FRAMES]

/-- The fields of `CF_LD_ERRPOS`. -/
def CF_LD_ERRPOS.regs : List Fld :=
    [CF_LD_ERRPOS.POS]

/-- The fields of `CF_LOADED`. -/
def CF_LOADED.regs : List Fld :=
    [CF_LOADED.VALID, CF_LOADED.DIAG, CF_LOADED.F, CF_LOADED.K, CF_LOADED.NMIN]

/-- The fields of `CF_LOADED_ID`. -/
def CF_LOADED_ID.regs : List Fld :=
    [CF_LOADED_ID.ID]

/-- The fields of `CF_SHADOW_BASE`. -/
def CF_SHADOW_BASE.regs : List Fld :=
    [CF_SHADOW_BASE.BASE, CF_SHADOW_BASE.SHADOW_OK]

/-- The fields of `CF_CONFIGURED`. -/
def CF_CONFIGURED.regs : List Fld :=
    [CF_CONFIGURED.CONF]

/-- The fields of `CF_LOADING`. -/
def CF_LOADING.regs : List Fld :=
    [CF_LOADING.LOADING]

/-- The fields of `CF_SEAM_STATUS`. -/
def CF_SEAM_STATUS.regs : List Fld :=
    [CF_SEAM_STATUS.BUSY, CF_SEAM_STATUS.FIFO, CF_SEAM_STATUS.WRITTEN]

/-- The fields of `CF_RB_CTRL`. -/
def CF_RB_CTRL.regs : List Fld :=
    [CF_RB_CTRL.FADDR, CF_RB_CTRL.GO]

/-- The fields of `CF_RB_STATUS`. -/
def CF_RB_STATUS.regs : List Fld :=
    [CF_RB_STATUS.BUSY, CF_RB_STATUS.RB_ERR, CF_RB_STATUS.CORRECTED, CF_RB_STATUS.UNCORR]

/-- The fields of `CF_RB_DATA`. -/
def CF_RB_DATA.regs : List Fld :=
    [CF_RB_DATA.DATA]

/-- The fields of `SB_CTRL`. -/
def SB_CTRL.regs : List Fld :=
    [SB_CTRL.EN, SB_CTRL.AUTO_TAKEOVER, SB_CTRL.INTERVAL]

/-- The fields of `SB_STATUS`. -/
def SB_STATUS.regs : List Fld :=
    [SB_STATUS.STATE, SB_STATUS.PEER_FAULT, SB_STATUS.TAKEOVER, SB_STATUS.REFRESH_LOST, SB_STATUS.WR_REJECT, SB_STATUS.RESTARTED, SB_STATUS.VOTE_FIX]

/-- The fields of `SB_PROGRESS`. -/
def SB_PROGRESS.regs : List Fld :=
    [SB_PROGRESS.POS, SB_PROGRESS.PASS]

/-- The fields of `SB_PASS_TALLY`. -/
def SB_PASS_TALLY.regs : List Fld :=
    [SB_PASS_TALLY.TALLY]

/-- The fields of `SB_PREV_TALLY`. -/
def SB_PREV_TALLY.regs : List Fld :=
    [SB_PREV_TALLY.TALLY]

/-- The fields of `SB_PAUSE_TALLY`. -/
def SB_PAUSE_TALLY.regs : List Fld :=
    [SB_PAUSE_TALLY.TALLY]

/-- The fields of `SB_COUNTS`. -/
def SB_COUNTS.regs : List Fld :=
    [SB_COUNTS.CORR_WORDS, SB_COUNTS.REPAIRED, SB_COUNTS.LOST]

/-- The fields of `SB_INJ`. -/
def SB_INJ.regs : List Fld :=
    [SB_INJ.FADDR, SB_INJ.WORD, SB_INJ.BITA, SB_INJ.BITB, SB_INJ.TWO, SB_INJ.GO, SB_INJ.INJ_ERR]

/-- The fields of `SB_SPOIL`. -/
def SB_SPOIL.regs : List Fld :=
    [SB_SPOIL.SPOIL]

/-- The fields of `WD_STATUS`. -/
def WD_STATUS.regs : List Fld :=
    [WD_STATUS.STATE, WD_STATUS.LEADER, WD_STATUS.FORMED, WD_STATUS.REPLAYING, WD_STATUS.REPLAY_ARMED, WD_STATUS.STOP_CAUSE]

/-- The fields of `WD_TALLY`. -/
def WD_TALLY.regs : List Fld :=
    [WD_TALLY.TALLY]

/-- The fields of `WD_CMD_ARG`. -/
def WD_CMD_ARG.regs : List Fld :=
    [WD_CMD_ARG.ARG]

/-- The fields of `WD_CMD`. -/
def WD_CMD.regs : List Fld :=
    [WD_CMD.OP, WD_CMD.STOPES, WD_CMD.REPLAY_TRIG]

/-- The fields of `WD_CMD_STATUS`. -/
def WD_CMD_STATUS.regs : List Fld :=
    [WD_CMD_STATUS.BUSY, WD_CMD_STATUS.DONE, WD_CMD_STATUS.REFUSED, WD_CMD_STATUS.LAST_OP, WD_CMD_STATUS.RESULT]

/-- The fields of `WD_HORIZON`. -/
def WD_HORIZON.regs : List Fld :=
    [WD_HORIZON.H]

/-- The fields of `WD_STOP_TALLY`. -/
def WD_STOP_TALLY.regs : List Fld :=
    [WD_STOP_TALLY.S]

/-- The fields of `WD_REPLAY_END`. -/
def WD_REPLAY_END.regs : List Fld :=
    [WD_REPLAY_END.END]

/-- The fields of `WD_GROUP_CTRL`. -/
def WD_GROUP_CTRL.regs : List Fld :=
    [WD_GROUP_CTRL.GROUP_ID, WD_GROUP_CTRL.SIZE, WD_GROUP_CTRL.JOIN, WD_GROUP_CTRL.LEAD_EN, WD_GROUP_CTRL.AUTO_REWIND]

/-- The fields of `WD_GROUP_STATUS`. -/
def WD_GROUP_STATUS.regs : List Fld :=
    [WD_GROUP_STATUS.MEMBERS, WD_GROUP_STATUS.LEADER_ADDR, WD_GROUP_STATUS.MISMATCH, WD_GROUP_STATUS.GROUP_ERR, WD_GROUP_STATUS.GROUP_STALL, WD_GROUP_STATUS.LEADER_LOST]

/-- The fields of `WD_GRANT`. -/
def WD_GRANT.regs : List Fld :=
    [WD_GRANT.WINDOW_LOG2, WD_GRANT.STALL_LIMIT]

/-- The fields of `WD_GATE_WAIT`. -/
def WD_GATE_WAIT.regs : List Fld :=
    [WD_GATE_WAIT.PORT_WAIT, WD_GATE_WAIT.HORIZON_WAIT, WD_GATE_WAIT.STOPE_WAIT]

/-- The fields of `WD_HOLDS_FRAME`. -/
def WD_HOLDS_FRAME.regs : List Fld :=
    [WD_HOLDS_FRAME.COUNT]

/-- The fields of `WD_HOLDS_GRANT`. -/
def WD_HOLDS_GRANT.regs : List Fld :=
    [WD_HOLDS_GRANT.COUNT]

/-- The fields of `WD_HOLDS_STOPE`. -/
def WD_HOLDS_STOPE.regs : List Fld :=
    [WD_HOLDS_STOPE.COUNT]

/-- The fields of `WD_HOLDS_SAMPLE`. -/
def WD_HOLDS_SAMPLE.regs : List Fld :=
    [WD_HOLDS_SAMPLE.COUNT]

/-- The fields of `WD_PHASES`. -/
def WD_PHASES.regs : List Fld :=
    [WD_PHASES.COUNT]

/-- The fields of `WD_CLK_CFG`. -/
def WD_CLK_CFG.regs : List Fld :=
    [WD_CLK_CFG.HALF, WD_CLK_CFG.OFFSET]

/-- The fields of `WD_CLK_CTRL`. -/
def WD_CLK_CTRL.regs : List Fld :=
    [WD_CLK_CTRL.EN, WD_CLK_CTRL.CFG_ERR, WD_CLK_CTRL.CRC]

/-- The fields of `WD_TRIG_CFG`. -/
def WD_TRIG_CFG.regs : List Fld :=
    [WD_TRIG_CFG.EN, WD_TRIG_CFG.MATCH, WD_TRIG_CFG.IRQ, WD_TRIG_CFG.STOP, WD_TRIG_CFG.SAMPLE, WD_TRIG_CFG.SLOT]

/-- The fields of `WD_TRIG_START`. -/
def WD_TRIG_START.regs : List Fld :=
    [WD_TRIG_START.START]

/-- The fields of `WD_TRIG_END`. -/
def WD_TRIG_END.regs : List Fld :=
    [WD_TRIG_END.END]

/-- The fields of `WD_TRIG_HIT`. -/
def WD_TRIG_HIT.regs : List Fld :=
    [WD_TRIG_HIT.HIT]

/-- The fields of `WD_TRIG_STATUS`. -/
def WD_TRIG_STATUS.regs : List Fld :=
    [WD_TRIG_STATUS.HIT, WD_TRIG_STATUS.VALUE]

/-- The fields of `WD_IRQ_EN`. -/
def WD_IRQ_EN.regs : List Fld :=
    [WD_IRQ_EN.EN, WD_IRQ_EN.VECTOR]

/-- The fields of `WD_IRQ_STATUS`. -/
def WD_IRQ_STATUS.regs : List Fld :=
    [WD_IRQ_STATUS.SRC]

/-- The fields of `WD_SMP_CTRL`. -/
def WD_SMP_CTRL.regs : List Fld :=
    [WD_SMP_CTRL.LOG_EN, WD_SMP_CTRL.PJ_EN, WD_SMP_CTRL.ENG_LIMIT]

/-- The fields of `WD_SMP_STATUS`. -/
def WD_SMP_STATUS.regs : List Fld :=
    [WD_SMP_STATUS.READY, WD_SMP_STATUS.DRAINING, WD_SMP_STATUS.PJ_OVF, WD_SMP_STATUS.LOG_OVF, WD_SMP_STATUS.RECOVERY_FAIL, WD_SMP_STATUS.SMP_CFG_ERR, WD_SMP_STATUS.LAST_SLOT, WD_SMP_STATUS.RESTORED_SLOT, WD_SMP_STATUS.RECOVERIES]

/-- The fields of `WD_SMP_AC`. -/
def WD_SMP_AC.regs : List Fld :=
    [WD_SMP_AC.AC_EN, WD_SMP_AC.AC_SLOTS, WD_SMP_AC.AC_MIN]

/-- The fields of `WD_SMP_SEQ`. -/
def WD_SMP_SEQ.regs : List Fld :=
    [WD_SMP_SEQ.SEQ]

/-- The fields of `WD_SMP_ENG`. -/
def WD_SMP_ENG.regs : List Fld :=
    [WD_SMP_ENG.MASK]

/-- The fields of `WD_SMP_ENG_ACK`. -/
def WD_SMP_ENG_ACK.regs : List Fld :=
    [WD_SMP_ENG_ACK.ACK]

/-- The fields of `WD_SMP_STORE`. -/
def WD_SMP_STORE.regs : List Fld :=
    [WD_SMP_STORE.BASE, WD_SMP_STORE.SIZE, WD_SMP_STORE.OK]

/-- The fields of `WD_PJ_RING`. -/
def WD_PJ_RING.regs : List Fld :=
    [WD_PJ_RING.BASE, WD_PJ_RING.SIZE, WD_PJ_RING.OK]

/-- The fields of `WD_PJ_STAMP`. -/
def WD_PJ_STAMP.regs : List Fld :=
    [WD_PJ_STAMP.BASE, WD_PJ_STAMP.SIZE, WD_PJ_STAMP.OK]

/-- The fields of `WD_LOG_RING`. -/
def WD_LOG_RING.regs : List Fld :=
    [WD_LOG_RING.BASE, WD_LOG_RING.SIZE, WD_LOG_RING.OK]

/-- The fields of `WD_SMP_USE`. -/
def WD_SMP_USE.regs : List Fld :=
    [WD_SMP_USE.PJ_ENTRIES, WD_SMP_USE.LOG_KIB]

/-- The fields of `WD_PJ_RANGE`. -/
def WD_PJ_RANGE.regs : List Fld :=
    [WD_PJ_RANGE.BASE, WD_PJ_RANGE.LEN, WD_PJ_RANGE.EN]

/-- The fields of `WD_SLOT`. -/
def WD_SLOT.regs : List Fld :=
    [WD_SLOT.STATE, WD_SLOT.AUTO, WD_SLOT.TAINTED, WD_SLOT.STALE_CFG, WD_SLOT.FAIL_CAUSE, WD_SLOT.SEQ]

/-- The fields of `WD_SLOT_TALLY`. -/
def WD_SLOT_TALLY.regs : List Fld :=
    [WD_SLOT_TALLY.TALLY]

/-- The fields of `CR_STATUS`. -/
def CR_STATUS.regs : List Fld :=
    [CR_STATUS.DRAIN, CR_STATUS.COPY, CR_STATUS.RESTORE, CR_STATUS.STOPES_LEFT, CR_STATUS.FRAMES]

/-- The fields of `CR_PACE`. -/
def CR_PACE.regs : List Fld :=
    [CR_PACE.FRAME_INT]

/-- The fields of `CR_COUNTS`. -/
def CR_COUNTS.regs : List Fld :=
    [CR_COUNTS.JOURNAL, CR_COUNTS.UNITS]

/-- The fields of `CR_RESTORE_MASK`. -/
def CR_RESTORE_MASK.regs : List Fld :=
    [CR_RESTORE_MASK.MASK]

/-- The fields of `XC_LINK_SUMMARY`. -/
def XC_LINK_SUMMARY.regs : List Fld :=
    [XC_LINK_SUMMARY.READY, XC_LINK_SUMMARY.LINK_UP]

/-- The fields of `XC_IRQ_EN`. -/
def XC_IRQ_EN.regs : List Fld :=
    [XC_IRQ_EN.DOWN, XC_IRQ_EN.UP]

/-- The fields of `XC_IRQ_STATUS`. -/
def XC_IRQ_STATUS.regs : List Fld :=
    [XC_IRQ_STATUS.DOWN, XC_IRQ_STATUS.UP]

/-- The fields of `XC_IRQ_VEC`. -/
def XC_IRQ_VEC.regs : List Fld :=
    [XC_IRQ_VEC.VECTOR]

/-- The fields of `XC_PORT_CTRL`. -/
def XC_PORT_CTRL.regs : List Fld :=
    [XC_PORT_CTRL.EN_A, XC_PORT_CTRL.EN_B, XC_PORT_CTRL.SPLIT, XC_PORT_CTRL.RATE_A, XC_PORT_CTRL.RATE_B, XC_PORT_CTRL.FEC_A, XC_PORT_CTRL.FEC_B]

/-- The fields of `XC_PORT_STATUS`. -/
def XC_PORT_STATUS.regs : List Fld :=
    [XC_PORT_STATUS.PLL_LOCK, XC_PORT_STATUS.PLL_FAMILY, XC_PORT_STATUS.LINK_UP_A, XC_PORT_STATUS.LINK_UP_B, XC_PORT_STATUS.CFG_ERR, XC_PORT_STATUS.PEER_ERR_A, XC_PORT_STATUS.PEER_ERR_B, XC_PORT_STATUS.DESKEW_ERR_A, XC_PORT_STATUS.DESKEW_ERR_B, XC_PORT_STATUS.SKEW_A, XC_PORT_STATUS.SKEW_B, XC_PORT_STATUS.DOWNS_A, XC_PORT_STATUS.DOWNS_B]

/-- The fields of `XC_XP_CTRL`. -/
def XC_XP_CTRL.regs : List Fld :=
    [XC_XP_CTRL.GATE_A, XC_XP_CTRL.GATE_B, XC_XP_CTRL.MODE_A, XC_XP_CTRL.MODE_B, XC_XP_CTRL.LAT_A, XC_XP_CTRL.LAT_B, XC_XP_CTRL.ALT_A, XC_XP_CTRL.ALT_B, XC_XP_CTRL.RTO, XC_XP_CTRL.FAILOVER]

/-- The fields of `XC_XP_STATUS`. -/
def XC_XP_STATUS.regs : List Fld :=
    [XC_XP_STATUS.SYNCED_A, XC_XP_STATUS.SYNCED_B, XC_XP_STATUS.OVER_A, XC_XP_STATUS.OVER_B, XC_XP_STATUS.XP_CFG_ERR, XC_XP_STATUS.SYNC_ERR_A, XC_XP_STATUS.SYNC_ERR_B, XC_XP_STATUS.SLIP_A, XC_XP_STATUS.SLIP_B, XC_XP_STATUS.STREAM_ERR, XC_XP_STATUS.UNGATED_RX, XC_XP_STATUS.REPLAY_OVF, XC_XP_STATUS.FAILOVER_ERR, XC_XP_STATUS.SLIP_STREAM, XC_XP_STATUS.SLIP_HALF, XC_XP_STATUS.SLIP_TALLY]

/-- The fields of `XC_XP_RETRY`. -/
def XC_XP_RETRY.regs : List Fld :=
    [XC_XP_RETRY.NAK_SENT_A, XC_XP_RETRY.RESENT_A, XC_XP_RETRY.NAK_SENT_B, XC_XP_RETRY.RESENT_B]

/-- The fields of `XC_XP_DROP`. -/
def XC_XP_DROP.regs : List Fld :=
    [XC_XP_DROP.BAD_A, XC_XP_DROP.DUP_A, XC_XP_DROP.BAD_B, XC_XP_DROP.DUP_B]

/-- The fields of `XC_XP_SEQ`. -/
def XC_XP_SEQ.regs : List Fld :=
    [XC_XP_SEQ.TX_NEXT_A, XC_XP_SEQ.RX_NEXT_A, XC_XP_SEQ.SLOTS_A, XC_XP_SEQ.TX_NEXT_B, XC_XP_SEQ.RX_NEXT_B, XC_XP_SEQ.SLOTS_B]

/-- The fields of `XC_TXS`. -/
def XC_TXS.regs : List Fld :=
    [XC_TXS.EN, XC_TXS.MAP_BASE, XC_TXS.BITS]

/-- The fields of `XC_RXS`. -/
def XC_RXS.regs : List Fld :=
    [XC_RXS.EN, XC_RXS.DELIVER, XC_RXS.FWD, XC_RXS.FWD_PORT, XC_RXS.FWD_HALF, XC_RXS.FWD_STREAM, XC_RXS.MAP_BASE, XC_RXS.BITS]

/-- The fields of `XC_LANE_CTRL`. -/
def XC_LANE_CTRL.regs : List Fld :=
    [XC_LANE_CTRL.TX_SLEEP, XC_LANE_CTRL.RX_SLEEP, XC_LANE_CTRL.TX_INV, XC_LANE_CTRL.RX_INV, XC_LANE_CTRL.AUTO_INV, XC_LANE_CTRL.PRECODE, XC_LANE_CTRL.ALIGN_MODE, XC_LANE_CTRL.ADAPT_FREEZE, XC_LANE_CTRL.TEST, XC_LANE_CTRL.LANE_CFG_ERR]

/-- The fields of `XC_LANE_SLIP`. -/
def XC_LANE_SLIP.regs : List Fld :=
    [XC_LANE_SLIP.SLIP]

/-- The fields of `XC_LANE_TXEQ`. -/
def XC_LANE_TXEQ.regs : List Fld :=
    [XC_LANE_TXEQ.PRE, XC_LANE_TXEQ.POST, XC_LANE_TXEQ.AMP, XC_LANE_TXEQ.EQ_ERR]

/-- The fields of `XC_LANE_STATUS`. -/
def XC_LANE_STATUS.regs : List Fld :=
    [XC_LANE_STATUS.RX_STATE, XC_LANE_STATUS.TX_STATE, XC_LANE_STATUS.LOS, XC_LANE_STATUS.CDR_LOCK, XC_LANE_STATUS.INV_SEEN, XC_LANE_STATUS.PEER_SLEEP, XC_LANE_STATUS.SLIP_ERR, XC_LANE_STATUS.EYE_ERR, XC_LANE_STATUS.COMMA_OFS, XC_LANE_STATUS.ALIGN_LOST]

/-- The fields of `XC_LANE_PEER`. -/
def XC_LANE_PEER.regs : List Fld :=
    [XC_LANE_PEER.PART, XC_LANE_PEER.PORT, XC_LANE_PEER.LANE, XC_LANE_PEER.FEC, XC_LANE_PEER.RATE, XC_LANE_PEER.SPLIT, XC_LANE_PEER.VALID]

/-- The fields of `XC_LANE_FEC`. -/
def XC_LANE_FEC.regs : List Fld :=
    [XC_LANE_FEC.CW_CORR, XC_LANE_FEC.CW_UNCORR, XC_LANE_FEC.MAX_SYM]

/-- The fields of `XC_LANE_ERR`. -/
def XC_LANE_ERR.regs : List Fld :=
    [XC_LANE_ERR.CTRL_CRC, XC_LANE_ERR.COMMA_BITS, XC_LANE_ERR.PRBS_ERR]

/-- The fields of `XC_LANE_EYE_CTRL`. -/
def XC_LANE_EYE_CTRL.regs : List Fld :=
    [XC_LANE_EYE_CTRL.PHASE, XC_LANE_EYE_CTRL.VOFF, XC_LANE_EYE_CTRL.EYE, XC_LANE_EYE_CTRL.DWELL_LOG2, XC_LANE_EYE_CTRL.GO]

/-- The fields of `XC_LANE_EYE_RESULT`. -/
def XC_LANE_EYE_RESULT.regs : List Fld :=
    [XC_LANE_EYE_RESULT.BUSY, XC_LANE_EYE_RESULT.VALID, XC_LANE_EYE_RESULT.ABORTED, XC_LANE_EYE_RESULT.ERRORS]

/-- The fields of `XC_TXMAP`. -/
def XC_TXMAP.regs : List Fld :=
    [XC_TXMAP.STOPE, XC_TXMAP.POINT]

/-- The fields of `XC_RXMAP`. -/
def XC_RXMAP.regs : List Fld :=
    [XC_RXMAP.STOPE, XC_RXMAP.POINT]

/-- The fields of `CG_ID`. -/
def CG_ID.regs : List Fld :=
    [CG_ID.VENDOR, CG_ID.DEVICE, CG_ID.REVISION]

/-- The fields of `CG_LINK`. -/
def CG_LINK.regs : List Fld :=
    [CG_LINK.SPEED, CG_LINK.WIDTH, CG_LINK.FLIT, CG_LINK.UP, CG_LINK.DEGRADED, CG_LINK.LINK_RESET, CG_LINK.DOWN_COUNT]

/-- The fields of `CG_BASE`. -/
def CG_BASE.regs : List Fld :=
    [CG_BASE.BASE_DONE, CG_BASE.BASE_LATE, CG_BASE.BME]

/-- The fields of `CG_BAR2_BASE`. -/
def CG_BAR2_BASE.regs : List Fld :=
    [CG_BAR2_BASE.BASE]

/-- The fields of `CG_ERR_STATUS`. -/
def CG_ERR_STATUS.regs : List Fld :=
    [CG_ERR_STATUS.HOST_RD_ERR, CG_ERR_STATUS.HOST_WR_ERR, CG_ERR_STATUS.EP_RX, CG_ERR_STATUS.EP_TX, CG_ERR_STATUS.CPL_TIMEOUT, CG_ERR_STATUS.CPL_ERR, CG_ERR_STATUS.BUF_UE, CG_ERR_STATUS.BUF_CE]

/-- The fields of `CG_ERR_ADDR`. -/
def CG_ERR_ADDR.regs : List Fld :=
    [CG_ERR_ADDR.ADDR, CG_ERR_ADDR.CAUSE, CG_ERR_ADDR.WRITE]

/-- The fields of `CG_IRQ`. -/
def CG_IRQ.regs : List Fld :=
    [CG_IRQ.EN, CG_IRQ.VECTOR]

/-- The fields of `CG_MSIX_GAP`. -/
def CG_MSIX_GAP.regs : List Fld :=
    [CG_MSIX_GAP.GAP]

/-- The fields of `CG_SPILL_AREA`. -/
def CG_SPILL_AREA.regs : List Fld :=
    [CG_SPILL_AREA.BASE, CG_SPILL_AREA.SIZE, CG_SPILL_AREA.OK]

/-- The fields of `QU_CTRL`. -/
def QU_CTRL.regs : List Fld :=
    [QU_CTRL.CMD, QU_CTRL.DIR, QU_CTRL.HMODE, QU_CTRL.BANK_LOG2]

/-- The fields of `QU_STATUS`. -/
def QU_STATUS.regs : List Fld :=
    [QU_STATUS.STATE, QU_STATUS.PUSH_ERR, QU_STATUS.HALT_CAUSE, QU_STATUS.FILL_BANK, QU_STATUS.FLIP_PEND, QU_STATUS.DB_OVF, QU_STATUS.CFG_ERR, QU_STATUS.POISON_SEEN, QU_STATUS.TRUNC_SEEN, QU_STATUS.BACKPRESSURE, QU_STATUS.REPLAYING, QU_STATUS.DB_PEND, QU_STATUS.FILL_OFS, QU_STATUS.SPILLED]

/-- The fields of `QU_END`. -/
def QU_END.regs : List Fld :=
    [QU_END.KIND, QU_END.UNIT, QU_END.PORT, QU_END.NOTE_OFS, QU_END.NOTE_EN]

/-- The fields of `QU_BUF`. -/
def QU_BUF.regs : List Fld :=
    [QU_BUF.BASE]

/-- The fields of `QU_DATA_RING`. -/
def QU_DATA_RING.regs : List Fld :=
    [QU_DATA_RING.DATA_LOG2, QU_DATA_RING.BASE]

/-- The fields of `QU_NOTICE_RING`. -/
def QU_NOTICE_RING.regs : List Fld :=
    [QU_NOTICE_RING.NOTICE_LOG2, QU_NOTICE_RING.BASE]

/-- The fields of `QU_HOST_HEAD`. -/
def QU_HOST_HEAD.regs : List Fld :=
    [QU_HOST_HEAD.DATA_HEAD, QU_HOST_HEAD.NOTICE_HEAD]

/-- The fields of `QU_POS`. -/
def QU_POS.regs : List Fld :=
    [QU_POS.DATA_TAIL, QU_POS.NOTICE_TAIL]

/-- The fields of `QU_SPILL`. -/
def QU_SPILL.regs : List Fld :=
    [QU_SPILL.OFS, QU_SPILL.NBANKS]

/-- The fields of `QU_IRQ`. -/
def QU_IRQ.regs : List Fld :=
    [QU_IRQ.VECTOR, QU_IRQ.COAL_COUNT, QU_IRQ.COAL_TIME, QU_IRQ.IRQ_EN, QU_IRQ.DN_NOTICE]

/-- The fields of `QU_SEQ`. -/
def QU_SEQ.regs : List Fld :=
    [QU_SEQ.NEXT_SEQ, QU_SEQ.DROP_MARK]

/-- The fields of `QU_STATS`. -/
def QU_STATS.regs : List Fld :=
    [QU_STATS.PACKETS, QU_STATS.DUP, QU_STATS.SPILLS]

/-- The fields of `QU_DOORBELL`. -/
def QU_DOORBELL.regs : List Fld :=
    [QU_DOORBELL.LEN, QU_DOORBELL.FLIP]

/-- The fields of `QU_PUSH`. -/
def QU_PUSH.regs : List Fld :=
    [QU_PUSH.WORD]

/-- The fields of `QU_PUSH_LAST`. -/
def QU_PUSH_LAST.regs : List Fld :=
    [QU_PUSH_LAST.WORD]

/-- The fields of `QU_POP`. -/
def QU_POP.regs : List Fld :=
    [QU_POP.WORD]

/-- The fields of `GL_CTRL`. -/
def GL_CTRL.regs : List Fld :=
    [GL_CTRL.AGE_LIMIT, GL_CTRL.CFG_ERR]

/-- The fields of `GL_STATUS`. -/
def GL_STATUS.regs : List Fld :=
    [GL_STATUS.CE_COUNT, GL_STATUS.HDR_DROP, GL_STATUS.ROUTE_ERR]

/-- The fields of `GL_ERR`. -/
def GL_ERR.regs : List Fld :=
    [GL_ERR.VALID, GL_ERR.KIND, GL_ERR.WHERE, GL_ERR.SRC]

/-- The fields of `GL_NI_CFG`. -/
def GL_NI_CFG.regs : List Fld :=
    [GL_NI_CFG.REG_EN, GL_NI_CFG.RATE, GL_NI_CFG.BURST, GL_NI_CFG.PRI, GL_NI_CFG.TIMEOUT]

/-- The fields of `GL_NI_STAT`. -/
def GL_NI_STAT.regs : List Fld :=
    [GL_NI_STAT.TIMEOUTS, GL_NI_STAT.LATE, GL_NI_STAT.NOROUTE, GL_NI_STAT.OUTSTANDING]

/-- The fields of `GL_ENG_REG`. -/
def GL_ENG_REG.regs : List Fld :=
    [GL_ENG_REG.REG_EN, GL_ENG_REG.RATE, GL_ENG_REG.BURST]

/-- The fields of `GL_ROUTE`. -/
def GL_ROUTE.regs : List Fld :=
    [GL_ROUTE.SX, GL_ROUTE.SY, GL_ROUTE.SJ, GL_ROUTE.MG, GL_ROUTE.DSJ, GL_ROUTE.DY, GL_ROUTE.VALID]

/-- The fields of `DC_STATUS`. -/
def DC_STATUS.regs : List Fld :=
    [DC_STATUS.STATE, DC_STATUS.HOLD_CAUSE, DC_STATUS.CAP_TRUNC, DC_STATUS.HOT, DC_STATUS.RATE, DC_STATUS.X8, DC_STATUS.DIMMS, DC_STATUS.RANKS, DC_STATUS.CAP_GIB]

/-- The fields of `DC_TRAIN`. -/
def DC_TRAIN.regs : List Fld :=
    [DC_TRAIN.STORED_TRIED, DC_TRAIN.STORED_OK, DC_TRAIN.FULL_TRIED, DC_TRAIN.FULL_OK, DC_TRAIN.FAIL_STEP, DC_TRAIN.TRAIN_MS]

/-- The fields of `DC_SCHED`. -/
def DC_SCHED.regs : List Fld :=
    [DC_SCHED.AGE, DC_SCHED.REF_POSTPONE, DC_SCHED.WC_WAIT, DC_SCHED.WC_EN]

/-- The fields of `DC_REFRESH`. -/
def DC_REFRESH.regs : List Fld :=
    [DC_REFRESH.OWED, DC_REFRESH.BURSTS]

/-- The fields of `DC_ECC`. -/
def DC_ECC.regs : List Fld :=
    [DC_ECC.CE_COUNT, DC_ECC.UE_COUNT, DC_ECC.POISON_RD, DC_ECC.PW_ERR]

/-- The fields of `DC_ECC_LAST`. -/
def DC_ECC_LAST.regs : List Fld :=
    [DC_ECC_LAST.PAGE, DC_ECC_LAST.KIND, DC_ECC_LAST.SYMS, DC_ECC_LAST.ONE_DEV, DC_ECC_LAST.DEV, DC_ECC_LAST.SRC]

/-- The fields of `DC_FLIP_CTRL`. -/
def DC_FLIP_CTRL.regs : List Fld :=
    [DC_FLIP_CTRL.VAL, DC_FLIP_CTRL.ARM, DC_FLIP_CTRL.MATCH_EN, DC_FLIP_CTRL.DONE, DC_FLIP_CTRL.MATCH]

/-- The fields of `DC_FLIP_SYM`. -/
def DC_FLIP_SYM.regs : List Fld :=
    [DC_FLIP_SYM.SYM]

/-- The fields of `DC_FRESH`. -/
def DC_FRESH.regs : List Fld :=
    [DC_FRESH.FILLS, DC_FRESH.TRACKER_WAIT, DC_FRESH.LIVE]

/-- The fields of `DC_PPR`. -/
def DC_PPR.regs : List Fld :=
    [DC_PPR.ROW, DC_PPR.BG, DC_PPR.BANK, DC_PPR.RANK, DC_PPR.HARD, DC_PPR.VALID, DC_PPR.STATE]

/-- The fields of `PC_CTRL`. -/
def PC_CTRL.regs : List Fld :=
    [PC_CTRL.LEVEL, PC_CTRL.LEVEL_NEXT, PC_CTRL.REPLAN, PC_CTRL.REPLAN_ERR]

/-- The fields of `PC_MAP`. -/
def PC_MAP.regs : List Fld :=
    [PC_MAP.SET, PC_MAP.N, PC_MAP.C_GIB, PC_MAP.TOP_GIB, PC_MAP.FINAL, PC_MAP.REMAPPED]

/-- The fields of `PC_AREA`. -/
def PC_AREA.regs : List Fld :=
    [PC_AREA.BASE, PC_AREA.SIZE, PC_AREA.OK]

/-- The fields of `PC_PLAN0`. -/
def PC_PLAN0.regs : List Fld :=
    [PC_PLAN0.STORE, PC_PLAN0.PJ_RING, PC_PLAN0.STAMP, PC_PLAN0.LOG]

/-- The fields of `PC_PLAN1`. -/
def PC_PLAN1.regs : List Fld :=
    [PC_PLAN1.SPILL, PC_PLAN1.TRACE]

/-- The fields of `EN_STATUS`. -/
def EN_STATUS.regs : List Fld :=
    [EN_STATUS.HALTED, EN_STATUS.FAULTED, EN_STATUS.NODE_UE]

/-- The fields of `EN_HALT`. -/
def EN_HALT.regs : List Fld :=
    [EN_HALT.KIND, EN_HALT.PKIND, EN_HALT.KEY_ID, EN_HALT.SRC]

/-- The fields of `EN_HALT_ADDR`. -/
def EN_HALT_ADDR.regs : List Fld :=
    [EN_HALT_ADDR.ADDR]

/-- The fields of `EN_CACHE`. -/
def EN_CACHE.regs : List Fld :=
    [EN_CACHE.HITS, EN_CACHE.MISSES]

/-- The fields of `EN_KEY_STATUS`. -/
def EN_KEY_STATUS.regs : List Fld :=
    [EN_KEY_STATUS.FILLED]

/-- The fields of `EN_RANGE_CTRL`. -/
def EN_RANGE_CTRL.regs : List Fld :=
    [EN_RANGE_CTRL.CMD, EN_RANGE_CTRL.STATE, EN_RANGE_CTRL.RANGE_ERR, EN_RANGE_CTRL.HEIGHT]

/-- The fields of `EN_RANGE_BASE`. -/
def EN_RANGE_BASE.regs : List Fld :=
    [EN_RANGE_BASE.BASE, EN_RANGE_BASE.LEN]

/-- The fields of `EN_RANGE_TREE`. -/
def EN_RANGE_TREE.regs : List Fld :=
    [EN_RANGE_TREE.BASE, EN_RANGE_TREE.LEN]

/-- The fields of `EN_RANGE_STAT`. -/
def EN_RANGE_STAT.regs : List Fld :=
    [EN_RANGE_STAT.DIRTY, EN_RANGE_STAT.FAULTS]

/-- The fields of `EN_FAULT`. -/
def EN_FAULT.regs : List Fld :=
    [EN_FAULT.VALID, EN_FAULT.KEY_ID, EN_FAULT.LEVEL, EN_FAULT.INDEX]

/-- The fields of `TR_CREW_STATUS`. -/
def TR_CREW_STATUS.regs : List Fld :=
    [TR_CREW_STATUS.BANK_REPAIR, TR_CREW_STATUS.ENG_REPAIR]

/-- The fields of `TR_CRIB_ECC`. -/
def TR_CRIB_ECC.regs : List Fld :=
    [TR_CRIB_ECC.CE_COUNT, TR_CRIB_ECC.UE_COUNT, TR_CRIB_ECC.LAST_WORD, TR_CRIB_ECC.LAST_UE, TR_CRIB_ECC.LAST_SRC]

/-- The fields of `TR_CRIB_COLL`. -/
def TR_CRIB_COLL.regs : List Fld :=
    [TR_CRIB_COLL.COLL, TR_CRIB_COLL.COLL_COUNT, TR_CRIB_COLL.COLL_WORD]

/-- The fields of `TR_HOIST_GADDR`. -/
def TR_HOIST_GADDR.regs : List Fld :=
    [TR_HOIST_GADDR.GADDR]

/-- The fields of `TR_HOIST_CADDR`. -/
def TR_HOIST_CADDR.regs : List Fld :=
    [TR_HOIST_CADDR.CADDR]

/-- The fields of `TR_HOIST_CTRL`. -/
def TR_HOIST_CTRL.regs : List Fld :=
    [TR_HOIST_CTRL.LEN, TR_HOIST_CTRL.DIR, TR_HOIST_CTRL.NOTIFY, TR_HOIST_CTRL.NOTIFY_EN, TR_HOIST_CTRL.GO, TR_HOIST_CTRL.ABORT]

/-- The fields of `TR_HOIST_STATUS`. -/
def TR_HOIST_STATUS.regs : List Fld :=
    [TR_HOIST_STATUS.BUSY, TR_HOIST_STATUS.DONE, TR_HOIST_STATUS.ERR, TR_HOIST_STATUS.ERR_CAUSE, TR_HOIST_STATUS.POISONED, TR_HOIST_STATUS.BYTES]

/-- The fields of `TR_CTRL`. -/
def TR_CTRL.regs : List Fld :=
    [TR_CTRL.CMD, TR_CTRL.LOADED, TR_CTRL.ENTRY, TR_CTRL.VBASE]

/-- The fields of `TR_STATUS`. -/
def TR_STATUS.regs : List Fld :=
    [TR_STATUS.STATE, TR_STATUS.IMEM_STALE, TR_STATUS.MON, TR_STATUS.INH, TR_STATUS.IE, TR_STATUS.CMD_ERR, TR_STATUS.DOUBLE, TR_STATUS.RST_CAUSE, TR_STATUS.WDOG_RESETS]

/-- The fields of `TR_PC`. -/
def TR_PC.regs : List Fld :=
    [TR_PC.PC]

/-- The fields of `TR_XPC`. -/
def TR_XPC.regs : List Fld :=
    [TR_XPC.XPC, TR_XPC.XBD, TR_XPC.XINREP, TR_XPC.XREP]

/-- The fields of `TR_EXC`. -/
def TR_EXC.regs : List Fld :=
    [TR_EXC.CAUSE, TR_EXC.EADDR]

/-- The fields of `TR_MPC`. -/
def TR_MPC.regs : List Fld :=
    [TR_MPC.MPC, TR_MPC.MREASON]

/-- The fields of `TR_IRQ_EN`. -/
def TR_IRQ_EN.regs : List Fld :=
    [TR_IRQ_EN.EN]

/-- The fields of `TR_IRQ_PEND`. -/
def TR_IRQ_PEND.regs : List Fld :=
    [TR_IRQ_PEND.PEND]

/-- The fields of `TR_IRQ_POST`. -/
def TR_IRQ_POST.regs : List Fld :=
    [TR_IRQ_POST.DATA]

/-- The fields of `TR_POST_DATA`. -/
def TR_POST_DATA.regs : List Fld :=
    [TR_POST_DATA.DATA, TR_POST_DATA.VALID]

/-- The fields of `TR_SYSNOTE`. -/
def TR_SYSNOTE.regs : List Fld :=
    [TR_SYSNOTE.KIND, TR_SYSNOTE.SLOT, TR_SYSNOTE.OVR]

/-- The fields of `TR_SYSNOTE_TALLY`. -/
def TR_SYSNOTE_TALLY.regs : List Fld :=
    [TR_SYSNOTE_TALLY.TALLY]

/-- The fields of `TR_QNOTE`. -/
def TR_QNOTE.regs : List Fld :=
    [TR_QNOTE.PORT]

/-- The fields of `TR_QPORT`. -/
def TR_QPORT.regs : List Fld :=
    [TR_QPORT.QUEUE, TR_QPORT.VALID, TR_QPORT.SAT]

/-- The fields of `TR_QCOUNT`. -/
def TR_QCOUNT.regs : List Fld :=
    [TR_QCOUNT.COUNT]

/-- The fields of `TR_WDOG`. -/
def TR_WDOG.regs : List Fld :=
    [TR_WDOG.LIMIT, TR_WDOG.EN, TR_WDOG.ACT, TR_WDOG.DBG_STOP, TR_WDOG.REMAIN]

/-- The fields of `TR_WDOG_KICK`. -/
def TR_WDOG_KICK.regs : List Fld :=
    [TR_WDOG_KICK.KICK]

/-- The fields of `TR_APER`. -/
def TR_APER.regs : List Fld :=
    [TR_APER.BASE, TR_APER.VALID]

/-- The fields of `TR_DBG_CTRL`. -/
def TR_DBG_CTRL.regs : List Fld :=
    [TR_DBG_CTRL.HALT_REQ, TR_DBG_CTRL.STEP, TR_DBG_CTRL.DBG_NEST]

/-- The fields of `TR_BP`. -/
def TR_BP.regs : List Fld :=
    [TR_BP.EN, TR_BP.ADDR]

/-- The fields of `TR_WP`. -/
def TR_WP.regs : List Fld :=
    [TR_WP.EN, TR_WP.ON_RD, TR_WP.ON_WR, TR_WP.WADDR]

/-- The fields of `TR_MEM_ECC`. -/
def TR_MEM_ECC.regs : List Fld :=
    [TR_MEM_ECC.CE_COUNT, TR_MEM_ECC.UE_COUNT, TR_MEM_ECC.LAST_WORD, TR_MEM_ECC.LAST_IMEM, TR_MEM_ECC.LAST_UE, TR_MEM_ECC.COLL, TR_MEM_ECC.COLL_COUNT]

/-- The fields of `TR_STIM`. -/
def TR_STIM.regs : List Fld :=
    [TR_STIM.EN, TR_STIM.DROPS]

/-- The fields of `FM_ID`. -/
def FM_ID.regs : List Fld :=
    [FM_ID.REVISION, FM_ID.GRADE2, FM_ID.TEMP_I, FM_ID.SERIAL]

/-- The fields of `FM_READY`. -/
def FM_READY.regs : List Fld :=
    [FM_READY.READY]

/-- The fields of `FM_START_REC`. -/
def FM_START_REC.regs : List Fld :=
    [FM_START_REC.REC]

/-- The fields of `FM_BOOT`. -/
def FM_BOOT.regs : List Fld :=
    [FM_BOOT.IMAGE, FM_BOOT.PRIMARY_BAD, FM_BOOT.RECOVERY, FM_BOOT.FW_VER]

/-- The fields of `FM_LOAD_DEADLINE`. -/
def FM_LOAD_DEADLINE.regs : List Fld :=
    [FM_LOAD_DEADLINE.MS, FM_LOAD_DEADLINE.RUNNING, FM_LOAD_DEADLINE.EXPIRED]

/-- The fields of `FM_IRQ_EN`. -/
def FM_IRQ_EN.regs : List Fld :=
    [FM_IRQ_EN.EN, FM_IRQ_EN.VECTOR]

/-- The fields of `FM_IRQ_STATUS`. -/
def FM_IRQ_STATUS.regs : List Fld :=
    [FM_IRQ_STATUS.SRC]

/-- The fields of `FM_MB_REQ`. -/
def FM_MB_REQ.regs : List Fld :=
    [FM_MB_REQ.OP, FM_MB_REQ.LEN, FM_MB_REQ.TAG]

/-- The fields of `FM_MB_STATUS`. -/
def FM_MB_STATUS.regs : List Fld :=
    [FM_MB_STATUS.BUSY, FM_MB_STATUS.DONE, FM_MB_STATUS.MB_OVR, FM_MB_STATUS.RESULT, FM_MB_STATUS.TAG, FM_MB_STATUS.RLEN]

/-- The fields of `FM_MB_DATA`. -/
def FM_MB_DATA.regs : List Fld :=
    [FM_MB_DATA.DATA]

/-- The fields of `FM_LOG_POS`. -/
def FM_LOG_POS.regs : List Fld :=
    [FM_LOG_POS.NEXT_SEQ, FM_LOG_POS.FLASHED]

/-- The fields of `FM_SENS_CTRL`. -/
def FM_SENS_CTRL.regs : List Fld :=
    [FM_SENS_CTRL.TWARN, FM_SENS_CTRL.TCRIT, FM_SENS_CTRL.VTOL]

/-- The fields of `FM_SENS_STATUS`. -/
def FM_SENS_STATUS.regs : List Fld :=
    [FM_SENS_STATUS.TWARN, FM_SENS_STATUS.TCRIT, FM_SENS_STATUS.VWARN, FM_SENS_STATUS.IWARN, FM_SENS_STATUS.I2C_ERR, FM_SENS_STATUS.ALERT, FM_SENS_STATUS.HOT_SENSOR, FM_SENS_STATUS.HOT_TEMP]

/-- The fields of `FM_TEMP`. -/
def FM_TEMP.regs : List Fld :=
    [FM_TEMP.VAL0, FM_TEMP.VAL1, FM_TEMP.VAL2, FM_TEMP.VAL3]

/-- The fields of `FM_VOLT`. -/
def FM_VOLT.regs : List Fld :=
    [FM_VOLT.VAL0, FM_VOLT.VAL1, FM_VOLT.VAL2, FM_VOLT.VAL3]

/-- The fields of `FM_AIN`. -/
def FM_AIN.regs : List Fld :=
    [FM_AIN.VAL0, FM_AIN.VAL1, FM_AIN.VAL2, FM_AIN.VAL3]

/-- The fields of `FM_CUR`. -/
def FM_CUR.regs : List Fld :=
    [FM_CUR.VAL0, FM_CUR.VAL1, FM_CUR.VAL2, FM_CUR.VAL3]

/-- The fields of `FM_CURMON`. -/
def FM_CURMON.regs : List Fld :=
    [FM_CURMON.ADDR, FM_CURMON.EN, FM_CURMON.REG, FM_CURMON.LSB_MA, FM_CURMON.LIMIT, FM_CURMON.RAIL]

/-- The fields of `BW_CTRL`. -/
def BW_CTRL.regs : List Fld :=
    [BW_CTRL.ENUM, BW_CTRL.SLOW]

/-- The fields of `BW_STATUS`. -/
def BW_STATUS.regs : List Fld :=
    [BW_STATUS.ADDR, BW_STATUS.HEAD, BW_STATUS.TAIL, BW_STATUS.ENUMERATED, BW_STATUS.ADDR_OVF, BW_STATUS.UP_LINK, BW_STATUS.DOWN_LINK, BW_STATUS.STRAP_HEAD, BW_STATUS.ENUM_ERR, BW_STATUS.PARTS, BW_STATUS.CHAINS]

/-- The fields of `BW_ERR`. -/
def BW_ERR.regs : List Fld :=
    [BW_ERR.CRC_ERR, BW_ERR.RESENT, BW_ERR.HOP_DOWNS]

/-- The fields of `SC_CTRL`. -/
def SC_CTRL.regs : List Fld :=
    [SC_CTRL.SRC, SC_CTRL.HEAD_SEND, SC_CTRL.PERIOD_MS, SC_CTRL.LOSS_N, SC_CTRL.HOP_NS, SC_CTRL.STEP_NS, SC_CTRL.LOCK_NS]

/-- The fields of `SC_STATUS`. -/
def SC_STATUS.regs : List Fld :=
    [SC_STATUS.STATE, SC_STATUS.INC_ERR, SC_STATUS.SRC_ERR, SC_STATUS.LOST, SC_STATUS.STEPPED, SC_STATUS.HOPS, SC_STATUS.OFFSET]

/-- The fields of `SC_COUNT`. -/
def SC_COUNT.regs : List Fld :=
    [SC_COUNT.COUNT]

/-- The fields of `SC_TIME`. -/
def SC_TIME.regs : List Fld :=
    [SC_TIME.TIME]

/-- The fields of `SC_TIME_FRAC`. -/
def SC_TIME_FRAC.regs : List Fld :=
    [SC_TIME_FRAC.FRAC]

/-- The fields of `SC_INC`. -/
def SC_INC.regs : List Fld :=
    [SC_INC.INC]

/-- The fields of `SC_EPOCH_COUNT`. -/
def SC_EPOCH_COUNT.regs : List Fld :=
    [SC_EPOCH_COUNT.EPOCH_COUNT]

/-- The fields of `SC_EPOCH_TIME`. -/
def SC_EPOCH_TIME.regs : List Fld :=
    [SC_EPOCH_TIME.EPOCH_TIME]

/-- The fields of `SC_IRQ_EN`. -/
def SC_IRQ_EN.regs : List Fld :=
    [SC_IRQ_EN.EN, SC_IRQ_EN.VECTOR]

/-- The fields of `SC_IRQ_STATUS`. -/
def SC_IRQ_STATUS.regs : List Fld :=
    [SC_IRQ_STATUS.SRCS]

/-- The fields of `SC_CAP`. -/
def SC_CAP.regs : List Fld :=
    [SC_CAP.CAP]

/-- The fields of `SC_CMP_CTRL`. -/
def SC_CMP_CTRL.regs : List Fld :=
    [SC_CMP_CTRL.EN, SC_CMP_CTRL.OUT_EN, SC_CMP_CTRL.IN, SC_CMP_CTRL.MISS]

/-- The fields of `SC_CMP_START`. -/
def SC_CMP_START.regs : List Fld :=
    [SC_CMP_START.START]

/-- The fields of `SC_CMP_END`. -/
def SC_CMP_END.regs : List Fld :=
    [SC_CMP_END.END]

/-- The fields of `SC_CMP_HIT`. -/
def SC_CMP_HIT.regs : List Fld :=
    [SC_CMP_HIT.HIT]

/-- The fields of `LP_STATUS`. -/
def LP_STATUS.regs : List Fld :=
    [LP_STATUS.LEVEL, LP_STATUS.MODE, LP_STATUS.CHAL_VALID, LP_STATUS.LOCKOUT, LP_STATUS.UNLOCK_ERR, LP_STATUS.DEFAULT, LP_STATUS.MAX, LP_STATUS.FAIL_COUNT, LP_STATUS.CRC_ERR]

/-- The fields of `LP_UNLOCK`. -/
def LP_UNLOCK.regs : List Fld :=
    [LP_UNLOCK.GET, LP_UNLOCK.LEVEL, LP_UNLOCK.SUBMIT, LP_UNLOCK.LOCK]

/-- The fields of `LP_CHALLENGE`. -/
def LP_CHALLENGE.regs : List Fld :=
    [LP_CHALLENGE.CHAL]

/-- The fields of `LP_RESPONSE`. -/
def LP_RESPONSE.regs : List Fld :=
    [LP_RESPONSE.RESP]

/-- The fields of `LP_TRACE_CTRL`. -/
def LP_TRACE_CTRL.regs : List Fld :=
    [LP_TRACE_CTRL.EN, LP_TRACE_CTRL.PINS_EN, LP_TRACE_CTRL.RING_EN, LP_TRACE_CTRL.STOP_ON_FULL, LP_TRACE_CTRL.TRC_MHZ, LP_TRACE_CTRL.SYNC_MS]

/-- The fields of `LP_TRACE_STATUS`. -/
def LP_TRACE_STATUS.regs : List Fld :=
    [LP_TRACE_STATUS.FULL, LP_TRACE_STATUS.WRAPPED, LP_TRACE_STATUS.RING_ERR, LP_TRACE_STATUS.BUF_FILL]

/-- The fields of `LP_TRACE_RING`. -/
def LP_TRACE_RING.regs : List Fld :=
    [LP_TRACE_RING.BASE, LP_TRACE_RING.SIZE, LP_TRACE_RING.OK]

/-- The fields of `LP_TRACE_POS`. -/
def LP_TRACE_POS.regs : List Fld :=
    [LP_TRACE_POS.WPOS, LP_TRACE_POS.RPOS]

/-- The fields of `IO_MG_EN`. -/
def IO_MG_EN.regs : List Fld :=
    [IO_MG_EN.FLASH, IO_MG_EN.ALERT, IO_MG_EN.I2C, IO_MG_EN.ETH, IO_MG_EN.TIME, IO_MG_EN.TIME_LOC, IO_MG_EN.TRACE, IO_MG_EN.TRACE_LOC, IO_MG_EN.AIN]

/-- The fields of `IO_MG_STATUS`. -/
def IO_MG_STATUS.regs : List Fld :=
    [IO_MG_STATUS.OWNED, IO_MG_STATUS.BLOCKED, IO_MG_STATUS.CONFLICT, IO_MG_STATUS.CONFLICT_SEEN, IO_MG_STATUS.SWITCHING]

/-- The fields of `IO_MG_LEVEL`. -/
def IO_MG_LEVEL.regs : List Fld :=
    [IO_MG_LEVEL.LEVEL]

/-- The fields of `IO_BANK_STATUS`. -/
def IO_BANK_STATUS.regs : List Fld :=
    [IO_BANK_STATUS.STATE, IO_BANK_STATUS.CLASS, IO_BANK_STATUS.CFG_ERR, IO_BANK_STATUS.DROPPED, IO_BANK_STATUS.THR_MISMATCH]

/-- The fields of `IO_BANK_LEVEL`. -/
def IO_BANK_LEVEL.regs : List Fld :=
    [IO_BANK_LEVEL.LEVEL]

/-- The fields of `IO_PIN`. -/
def IO_PIN.regs : List Fld :=
    [IO_PIN.PULL, IO_PIN.DRIVE, IO_PIN.SLEW, IO_PIN.THR, IO_PIN.HYST, IO_PIN.ANALOG, IO_PIN.SAFE, IO_PIN.FABRIC]

/-- The fields of `IO_MPIN`. -/
def IO_MPIN.regs : List Fld :=
    [IO_MPIN.PULL, IO_MPIN.DRIVE, IO_MPIN.SLEW, IO_MPIN.THR, IO_MPIN.HYST, IO_MPIN.ANALOG, IO_MPIN.GPIO_OE, IO_MPIN.GPIO_OUT, IO_MPIN.ALT_IN, IO_MPIN.OWNER]

/-- The registers of block CK, by rising offset. -/
def tableCk : List RegRow := [
  ⟨"CK_CLK_STATUS", .ck, 0x0, 0x0, 1,
    CK_CLK_STATUS.regs⟩,
  ⟨"CK_PHASE_DIV", .ck, 0x8, 0x0, 1,
    CK_PHASE_DIV.regs⟩,
  ⟨"CK_CLK_CTRL", .ck, 0x10, 0x0, 1,
    CK_CLK_CTRL.regs⟩,
  ⟨"CK_GATE_DIS", .ck, 0x18, 0x0, 1,
    CK_GATE_DIS.regs⟩,
  ⟨"CK_GATE_STATUS", .ck, 0x20, 0x0, 1,
    CK_GATE_STATUS.regs⟩,
  ⟨"CK_RESET_CTRL", .ck, 0x28, 0x0, 1,
    CK_RESET_CTRL.regs⟩,
  ⟨"CK_STOPE_RST", .ck, 0x30, 0x0, 1,
    CK_STOPE_RST.regs⟩,
  ⟨"CK_ENGINE_RST", .ck, 0x38, 0x0, 1,
    CK_ENGINE_RST.regs⟩,
  ⟨"CK_RST_STATUS", .ck, 0x40, 0x0, 1,
    CK_RST_STATUS.regs⟩,
  ⟨"CK_RST_CAUSE", .ck, 0x48, 0x0, 1,
    CK_RST_CAUSE.regs⟩,
  ⟨"CK_AON_STATUS", .ck, 0x50, 0x0, 1,
    CK_AON_STATUS.regs⟩,
  ⟨"CK_RAIL_STATUS", .ck, 0x58, 0x0, 1,
    CK_RAIL_STATUS.regs⟩,
  ⟨"CK_CREW_PWR", .ck, 0x60, 0x0, 1,
    CK_CREW_PWR.regs⟩,
  ⟨"CK_STOPE_PWR", .ck, 0x100, 0x8, 10,
    CK_STOPE_PWR.regs⟩,
  ⟨"CK_STOPE_PWR_STAT", .ck, 0x180, 0x8, 10,
    CK_STOPE_PWR_STAT.regs⟩]

/-- The registers of block ST, by rising offset. -/
def tableSt : List RegRow := [
  ⟨"ST_ISO", .st, 0x0, 0x0, 1,
    ST_ISO.regs⟩,
  ⟨"ST_STATUS", .st, 0x8, 0x0, 1,
    ST_STATUS.regs⟩,
  ⟨"ST_SPOIL", .st, 0x10, 0x0, 1,
    ST_SPOIL.regs⟩,
  ⟨"ST_SPOIL_TALLY", .st, 0x18, 0x0, 1,
    ST_SPOIL_TALLY.regs⟩,
  ⟨"ST_SPOIL_BOUND", .st, 0x20, 0x0, 1,
    ST_SPOIL_BOUND.regs⟩,
  ⟨"ST_SCRUB", .st, 0x28, 0x0, 1,
    ST_SCRUB.regs⟩,
  ⟨"ST_REPAIR", .st, 0x30, 0x0, 1,
    ST_REPAIR.regs⟩,
  ⟨"ST_TREE_CTRL", .st, 0x100, 0x0, 1,
    ST_TREE_CTRL.regs⟩,
  ⟨"ST_TREE_STEP", .st, 0x108, 0x0, 1,
    ST_TREE_STEP.regs⟩,
  ⟨"ST_TREE_EDGES", .st, 0x110, 0x0, 1,
    ST_TREE_EDGES.regs⟩,
  ⟨"ST_TREE_STATUS", .st, 0x118, 0x0, 1,
    ST_TREE_STATUS.regs⟩,
  ⟨"ST_MEM_ECC", .st, 0x200, 0x0, 1,
    ST_MEM_ECC.regs⟩,
  ⟨"ST_MEM_COLL", .st, 0x208, 0x0, 1,
    ST_MEM_COLL.regs⟩,
  ⟨"ST_MEM_JRNL", .st, 0x210, 0x0, 1,
    ST_MEM_JRNL.regs⟩,
  ⟨"ST_MEM_REPAIR", .st, 0x218, 0x0, 1,
    ST_MEM_REPAIR.regs⟩,
  ⟨"ST_MEM_CTRL", .st, 0x220, 0x0, 1,
    ST_MEM_CTRL.regs⟩,
  ⟨"ST_BQ_CTRL", .st, 0x400, 0x20, 16,
    ST_BQ_CTRL.regs⟩,
  ⟨"ST_BQ_IRQ_ADDR", .st, 0x408, 0x20, 16,
    ST_BQ_IRQ_ADDR.regs⟩,
  ⟨"ST_BQ_IRQ_DATA", .st, 0x410, 0x20, 16,
    ST_BQ_IRQ_DATA.regs⟩,
  ⟨"ST_BQ_STATUS", .st, 0x418, 0x20, 16,
    ST_BQ_STATUS.regs⟩]

/-- The registers of block CF, by rising offset. -/
def tableCf : List RegRow := [
  ⟨"CF_LD_CTRL", .cf, 0x0, 0x0, 1,
    CF_LD_CTRL.regs⟩,
  ⟨"CF_LD_STATUS", .cf, 0x8, 0x0, 1,
    CF_LD_STATUS.regs⟩,
  ⟨"CF_EXT_ADDR", .cf, 0x10, 0x0, 1,
    CF_EXT_ADDR.regs⟩,
  ⟨"CF_EXT_LEN", .cf, 0x18, 0x0, 1,
    CF_EXT_LEN.regs⟩,
  ⟨"CF_EXT_STATUS", .cf, 0x20, 0x0, 1,
    CF_EXT_STATUS.regs⟩,
  ⟨"CF_LD_PROGRESS", .cf, 0x28, 0x0, 1,
    CF_LD_PROGRESS.regs⟩,
  ⟨"CF_LD_ERRPOS", .cf, 0x30, 0x0, 1,
    CF_LD_ERRPOS.regs⟩,
  ⟨"CF_LOADED", .cf, 0x38, 0x0, 1,
    CF_LOADED.regs⟩,
  ⟨"CF_LOADED_ID", .cf, 0x40, 0x0, 1,
    CF_LOADED_ID.regs⟩,
  ⟨"CF_SHADOW_BASE", .cf, 0x48, 0x0, 1,
    CF_SHADOW_BASE.regs⟩,
  ⟨"CF_CONFIGURED", .cf, 0x100, 0x8, 10,
    CF_CONFIGURED.regs⟩,
  ⟨"CF_LOADING", .cf, 0x180, 0x8, 10,
    CF_LOADING.regs⟩]

/-- The registers of block CFS, by rising offset. -/
def tableCfs : List RegRow := [
  ⟨"CF_SEAM_STATUS", .cfs, 0x0, 0x0, 1,
    CF_SEAM_STATUS.regs⟩,
  ⟨"CF_RB_CTRL", .cfs, 0x8, 0x0, 1,
    CF_RB_CTRL.regs⟩,
  ⟨"CF_RB_STATUS", .cfs, 0x10, 0x0, 1,
    CF_RB_STATUS.regs⟩,
  ⟨"CF_RB_DATA", .cfs, 0x1000, 0x8, 64,
    CF_RB_DATA.regs⟩]

/-- The registers of block SB, by rising offset. -/
def tableSb : List RegRow := [
  ⟨"SB_CTRL", .sb, 0x0, 0x0, 1,
    SB_CTRL.regs⟩,
  ⟨"SB_STATUS", .sb, 0x8, 0x0, 1,
    SB_STATUS.regs⟩,
  ⟨"SB_PROGRESS", .sb, 0x10, 0x0, 1,
    SB_PROGRESS.regs⟩,
  ⟨"SB_PASS_TALLY", .sb, 0x18, 0x0, 1,
    SB_PASS_TALLY.regs⟩,
  ⟨"SB_PREV_TALLY", .sb, 0x20, 0x0, 1,
    SB_PREV_TALLY.regs⟩,
  ⟨"SB_PAUSE_TALLY", .sb, 0x28, 0x0, 1,
    SB_PAUSE_TALLY.regs⟩,
  ⟨"SB_COUNTS", .sb, 0x30, 0x0, 1,
    SB_COUNTS.regs⟩,
  ⟨"SB_INJ", .sb, 0x38, 0x0, 1,
    SB_INJ.regs⟩,
  ⟨"SB_SPOIL", .sb, 0x100, 0x8, 3,
    SB_SPOIL.regs⟩]

/-- The registers of block WD, by rising offset. -/
def tableWd0 : List RegRow := [
  ⟨"WD_STATUS", .wd, 0x0, 0x0, 1,
    WD_STATUS.regs⟩,
  ⟨"WD_TALLY", .wd, 0x8, 0x0, 1,
    WD_TALLY.regs⟩,
  ⟨"WD_CMD_ARG", .wd, 0x10, 0x0, 1,
    WD_CMD_ARG.regs⟩,
  ⟨"WD_CMD", .wd, 0x18, 0x0, 1,
    WD_CMD.regs⟩,
  ⟨"WD_CMD_STATUS", .wd, 0x20, 0x0, 1,
    WD_CMD_STATUS.regs⟩,
  ⟨"WD_HORIZON", .wd, 0x28, 0x0, 1,
    WD_HORIZON.regs⟩,
  ⟨"WD_STOP_TALLY", .wd, 0x30, 0x0, 1,
    WD_STOP_TALLY.regs⟩,
  ⟨"WD_REPLAY_END", .wd, 0x38, 0x0, 1,
    WD_REPLAY_END.regs⟩,
  ⟨"WD_GROUP_CTRL", .wd, 0x40, 0x0, 1,
    WD_GROUP_CTRL.regs⟩,
  ⟨"WD_GROUP_STATUS", .wd, 0x48, 0x0, 1,
    WD_GROUP_STATUS.regs⟩,
  ⟨"WD_GRANT", .wd, 0x50, 0x0, 1,
    WD_GRANT.regs⟩,
  ⟨"WD_GATE_WAIT", .wd, 0x58, 0x0, 1,
    WD_GATE_WAIT.regs⟩,
  ⟨"WD_HOLDS_FRAME", .wd, 0x60, 0x0, 1,
    WD_HOLDS_FRAME.regs⟩,
  ⟨"WD_HOLDS_GRANT", .wd, 0x68, 0x0, 1,
    WD_HOLDS_GRANT.regs⟩,
  ⟨"WD_HOLDS_STOPE", .wd, 0x70, 0x0, 1,
    WD_HOLDS_STOPE.regs⟩,
  ⟨"WD_HOLDS_SAMPLE", .wd, 0x78, 0x0, 1,
    WD_HOLDS_SAMPLE.regs⟩,
  ⟨"WD_PHASES", .wd, 0x80, 0x0, 1,
    WD_PHASES.regs⟩,
  ⟨"WD_CLK_CFG", .wd, 0x100, 0x8, 16,
    WD_CLK_CFG.regs⟩,
  ⟨"WD_CLK_CTRL", .wd, 0x180, 0x0, 1,
    WD_CLK_CTRL.regs⟩,
  ⟨"WD_TRIG_CFG", .wd, 0x200, 0x20, 16,
    WD_TRIG_CFG.regs⟩,
  ⟨"WD_TRIG_START", .wd, 0x208, 0x20, 16,
    WD_TRIG_START.regs⟩,
  ⟨"WD_TRIG_END", .wd, 0x210, 0x20, 16,
    WD_TRIG_END.regs⟩,
  ⟨"WD_TRIG_HIT", .wd, 0x218, 0x20, 16,
    WD_TRIG_HIT.regs⟩,
  ⟨"WD_TRIG_STATUS", .wd, 0x400, 0x0, 1,
    WD_TRIG_STATUS.regs⟩]

/-- The registers of block WD, by rising offset. -/
def tableWd1 : List RegRow := [
  ⟨"WD_IRQ_EN", .wd, 0x408, 0x0, 1,
    WD_IRQ_EN.regs⟩,
  ⟨"WD_IRQ_STATUS", .wd, 0x410, 0x0, 1,
    WD_IRQ_STATUS.regs⟩,
  ⟨"WD_SMP_CTRL", .wd, 0x1000, 0x0, 1,
    WD_SMP_CTRL.regs⟩,
  ⟨"WD_SMP_STATUS", .wd, 0x1008, 0x0, 1,
    WD_SMP_STATUS.regs⟩,
  ⟨"WD_SMP_AC", .wd, 0x1010, 0x0, 1,
    WD_SMP_AC.regs⟩,
  ⟨"WD_SMP_SEQ", .wd, 0x1018, 0x0, 1,
    WD_SMP_SEQ.regs⟩,
  ⟨"WD_SMP_ENG", .wd, 0x1020, 0x0, 1,
    WD_SMP_ENG.regs⟩,
  ⟨"WD_SMP_ENG_ACK", .wd, 0x1028, 0x0, 1,
    WD_SMP_ENG_ACK.regs⟩,
  ⟨"WD_SMP_STORE", .wd, 0x1030, 0x0, 1,
    WD_SMP_STORE.regs⟩,
  ⟨"WD_PJ_RING", .wd, 0x1038, 0x0, 1,
    WD_PJ_RING.regs⟩,
  ⟨"WD_PJ_STAMP", .wd, 0x1040, 0x0, 1,
    WD_PJ_STAMP.regs⟩,
  ⟨"WD_LOG_RING", .wd, 0x1048, 0x0, 1,
    WD_LOG_RING.regs⟩,
  ⟨"WD_SMP_USE", .wd, 0x1050, 0x0, 1,
    WD_SMP_USE.regs⟩,
  ⟨"WD_PJ_RANGE", .wd, 0x1100, 0x8, 8,
    WD_PJ_RANGE.regs⟩,
  ⟨"WD_SLOT", .wd, 0x1200, 0x8, 16,
    WD_SLOT.regs⟩,
  ⟨"WD_SLOT_TALLY", .wd, 0x1280, 0x8, 16,
    WD_SLOT_TALLY.regs⟩]

/-- The registers of block CR, by rising offset. -/
def tableCr : List RegRow := [
  ⟨"CR_STATUS", .cr, 0x0, 0x0, 1,
    CR_STATUS.regs⟩,
  ⟨"CR_PACE", .cr, 0x8, 0x0, 1,
    CR_PACE.regs⟩,
  ⟨"CR_COUNTS", .cr, 0x10, 0x0, 1,
    CR_COUNTS.regs⟩,
  ⟨"CR_RESTORE_MASK", .cr, 0x100, 0x8, 3,
    CR_RESTORE_MASK.regs⟩]

/-- The registers of block XC, by rising offset. -/
def tableXc : List RegRow := [
  ⟨"XC_LINK_SUMMARY", .xc, 0x0, 0x0, 1,
    XC_LINK_SUMMARY.regs⟩,
  ⟨"XC_IRQ_EN", .xc, 0x8, 0x0, 1,
    XC_IRQ_EN.regs⟩,
  ⟨"XC_IRQ_STATUS", .xc, 0x10, 0x0, 1,
    XC_IRQ_STATUS.regs⟩,
  ⟨"XC_IRQ_VEC", .xc, 0x18, 0x0, 1,
    XC_IRQ_VEC.regs⟩]

/-- The registers of block XCP, by rising offset. -/
def tableXcp : List RegRow := [
  ⟨"XC_PORT_CTRL", .xcp, 0x0, 0x0, 1,
    XC_PORT_CTRL.regs⟩,
  ⟨"XC_PORT_STATUS", .xcp, 0x8, 0x0, 1,
    XC_PORT_STATUS.regs⟩,
  ⟨"XC_XP_CTRL", .xcp, 0x100, 0x0, 1,
    XC_XP_CTRL.regs⟩,
  ⟨"XC_XP_STATUS", .xcp, 0x108, 0x0, 1,
    XC_XP_STATUS.regs⟩,
  ⟨"XC_XP_RETRY", .xcp, 0x110, 0x0, 1,
    XC_XP_RETRY.regs⟩,
  ⟨"XC_XP_DROP", .xcp, 0x118, 0x0, 1,
    XC_XP_DROP.regs⟩,
  ⟨"XC_XP_SEQ", .xcp, 0x120, 0x0, 1,
    XC_XP_SEQ.regs⟩,
  ⟨"XC_TXS", .xcp, 0x200, 0x8, 32,
    XC_TXS.regs⟩,
  ⟨"XC_RXS", .xcp, 0x400, 0x8, 32,
    XC_RXS.regs⟩,
  ⟨"XC_LANE_CTRL", .xcp, 0x1000, 0x100, 8,
    XC_LANE_CTRL.regs⟩,
  ⟨"XC_LANE_SLIP", .xcp, 0x1008, 0x100, 8,
    XC_LANE_SLIP.regs⟩,
  ⟨"XC_LANE_TXEQ", .xcp, 0x1010, 0x100, 8,
    XC_LANE_TXEQ.regs⟩,
  ⟨"XC_LANE_STATUS", .xcp, 0x1018, 0x100, 8,
    XC_LANE_STATUS.regs⟩,
  ⟨"XC_LANE_PEER", .xcp, 0x1020, 0x100, 8,
    XC_LANE_PEER.regs⟩,
  ⟨"XC_LANE_FEC", .xcp, 0x1028, 0x100, 8,
    XC_LANE_FEC.regs⟩,
  ⟨"XC_LANE_ERR", .xcp, 0x1030, 0x100, 8,
    XC_LANE_ERR.regs⟩,
  ⟨"XC_LANE_EYE_CTRL", .xcp, 0x1038, 0x100, 8,
    XC_LANE_EYE_CTRL.regs⟩,
  ⟨"XC_LANE_EYE_RESULT", .xcp, 0x1040, 0x100, 8,
    XC_LANE_EYE_RESULT.regs⟩,
  ⟨"XC_TXMAP", .xcp, 0x20000, 0x8, 16384,
    XC_TXMAP.regs⟩,
  ⟨"XC_RXMAP", .xcp, 0x40000, 0x8, 16384,
    XC_RXMAP.regs⟩]

/-- The registers of block CG, by rising offset. -/
def tableCg : List RegRow := [
  ⟨"CG_ID", .cg, 0x0, 0x0, 1,
    CG_ID.regs⟩,
  ⟨"CG_LINK", .cg, 0x8, 0x0, 1,
    CG_LINK.regs⟩,
  ⟨"CG_BASE", .cg, 0x10, 0x0, 1,
    CG_BASE.regs⟩,
  ⟨"CG_BAR2_BASE", .cg, 0x18, 0x0, 1,
    CG_BAR2_BASE.regs⟩,
  ⟨"CG_ERR_STATUS", .cg, 0x20, 0x0, 1,
    CG_ERR_STATUS.regs⟩,
  ⟨"CG_ERR_ADDR", .cg, 0x28, 0x0, 1,
    CG_ERR_ADDR.regs⟩,
  ⟨"CG_IRQ", .cg, 0x30, 0x0, 1,
    CG_IRQ.regs⟩,
  ⟨"CG_MSIX_GAP", .cg, 0x38, 0x0, 1,
    CG_MSIX_GAP.regs⟩,
  ⟨"CG_SPILL_AREA", .cg, 0x40, 0x0, 1,
    CG_SPILL_AREA.regs⟩]

/-- The registers of block QU, by rising offset. -/
def tableQu : List RegRow := [
  ⟨"QU_CTRL", .qu, 0x0, 0x0, 1,
    QU_CTRL.regs⟩,
  ⟨"QU_STATUS", .qu, 0x8, 0x0, 1,
    QU_STATUS.regs⟩,
  ⟨"QU_END", .qu, 0x10, 0x0, 1,
    QU_END.regs⟩,
  ⟨"QU_BUF", .qu, 0x18, 0x0, 1,
    QU_BUF.regs⟩,
  ⟨"QU_DATA_RING", .qu, 0x20, 0x0, 1,
    QU_DATA_RING.regs⟩,
  ⟨"QU_NOTICE_RING", .qu, 0x28, 0x0, 1,
    QU_NOTICE_RING.regs⟩,
  ⟨"QU_HOST_HEAD", .qu, 0x30, 0x0, 1,
    QU_HOST_HEAD.regs⟩,
  ⟨"QU_POS", .qu, 0x38, 0x0, 1,
    QU_POS.regs⟩,
  ⟨"QU_SPILL", .qu, 0x40, 0x0, 1,
    QU_SPILL.regs⟩,
  ⟨"QU_IRQ", .qu, 0x48, 0x0, 1,
    QU_IRQ.regs⟩,
  ⟨"QU_SEQ", .qu, 0x50, 0x0, 1,
    QU_SEQ.regs⟩,
  ⟨"QU_STATS", .qu, 0x58, 0x0, 1,
    QU_STATS.regs⟩,
  ⟨"QU_DOORBELL", .qu, 0x800, 0x0, 1,
    QU_DOORBELL.regs⟩,
  ⟨"QU_PUSH", .qu, 0x808, 0x0, 1,
    QU_PUSH.regs⟩,
  ⟨"QU_PUSH_LAST", .qu, 0x810, 0x0, 1,
    QU_PUSH_LAST.regs⟩,
  ⟨"QU_POP", .qu, 0x818, 0x0, 1,
    QU_POP.regs⟩]

/-- The registers of block GL, by rising offset. -/
def tableGl : List RegRow := [
  ⟨"GL_CTRL", .gl, 0x0, 0x0, 1,
    GL_CTRL.regs⟩,
  ⟨"GL_STATUS", .gl, 0x8, 0x0, 1,
    GL_STATUS.regs⟩,
  ⟨"GL_ERR", .gl, 0x10, 0x0, 1,
    GL_ERR.regs⟩,
  ⟨"GL_NI_CFG", .gl, 0x1000, 0x8, 662,
    GL_NI_CFG.regs⟩,
  ⟨"GL_NI_STAT", .gl, 0x4000, 0x8, 662,
    GL_NI_STAT.regs⟩,
  ⟨"GL_ENG_REG", .gl, 0x8000, 0x8, 64,
    GL_ENG_REG.regs⟩,
  ⟨"GL_ROUTE", .gl, 0x100000, 0x8, 677888,
    GL_ROUTE.regs⟩]

/-- The registers of block DC, by rising offset. -/
def tableDc : List RegRow := [
  ⟨"DC_STATUS", .dc, 0x0, 0x0, 1,
    DC_STATUS.regs⟩,
  ⟨"DC_TRAIN", .dc, 0x8, 0x0, 1,
    DC_TRAIN.regs⟩,
  ⟨"DC_SCHED", .dc, 0x10, 0x0, 1,
    DC_SCHED.regs⟩,
  ⟨"DC_REFRESH", .dc, 0x18, 0x0, 1,
    DC_REFRESH.regs⟩,
  ⟨"DC_ECC", .dc, 0x20, 0x0, 1,
    DC_ECC.regs⟩,
  ⟨"DC_ECC_LAST", .dc, 0x28, 0x0, 1,
    DC_ECC_LAST.regs⟩,
  ⟨"DC_FLIP_CTRL", .dc, 0x30, 0x0, 1,
    DC_FLIP_CTRL.regs⟩,
  ⟨"DC_FLIP_SYM", .dc, 0x38, 0x8, 3,
    DC_FLIP_SYM.regs⟩,
  ⟨"DC_FRESH", .dc, 0x50, 0x0, 1,
    DC_FRESH.regs⟩,
  ⟨"DC_PPR", .dc, 0x100, 0x8, 32,
    DC_PPR.regs⟩]

/-- The registers of block PC, by rising offset. -/
def tablePc : List RegRow := [
  ⟨"PC_CTRL", .pc, 0x0, 0x0, 1,
    PC_CTRL.regs⟩,
  ⟨"PC_MAP", .pc, 0x8, 0x0, 1,
    PC_MAP.regs⟩,
  ⟨"PC_AREA", .pc, 0x10, 0x0, 1,
    PC_AREA.regs⟩,
  ⟨"PC_PLAN0", .pc, 0x18, 0x0, 1,
    PC_PLAN0.regs⟩,
  ⟨"PC_PLAN1", .pc, 0x20, 0x0, 1,
    PC_PLAN1.regs⟩]

/-- The registers of block EN, by rising offset. -/
def tableEn : List RegRow := [
  ⟨"EN_STATUS", .en, 0x0, 0x0, 1,
    EN_STATUS.regs⟩,
  ⟨"EN_HALT", .en, 0x8, 0x0, 1,
    EN_HALT.regs⟩,
  ⟨"EN_HALT_ADDR", .en, 0x10, 0x0, 1,
    EN_HALT_ADDR.regs⟩,
  ⟨"EN_CACHE", .en, 0x18, 0x0, 1,
    EN_CACHE.regs⟩,
  ⟨"EN_KEY_STATUS", .en, 0x20, 0x0, 1,
    EN_KEY_STATUS.regs⟩,
  ⟨"EN_RANGE_CTRL", .en, 0x100, 0x20, 16,
    EN_RANGE_CTRL.regs⟩,
  ⟨"EN_RANGE_BASE", .en, 0x108, 0x20, 16,
    EN_RANGE_BASE.regs⟩,
  ⟨"EN_RANGE_TREE", .en, 0x110, 0x20, 16,
    EN_RANGE_TREE.regs⟩,
  ⟨"EN_RANGE_STAT", .en, 0x118, 0x20, 16,
    EN_RANGE_STAT.regs⟩,
  ⟨"EN_FAULT", .en, 0x400, 0x8, 64,
    EN_FAULT.regs⟩]

/-- The registers of block TRC, by rising offset. -/
def tableTrc : List RegRow := [
  ⟨"TR_CREW_STATUS", .trc, 0x0, 0x0, 1,
    TR_CREW_STATUS.regs⟩,
  ⟨"TR_CRIB_ECC", .trc, 0x8, 0x0, 1,
    TR_CRIB_ECC.regs⟩,
  ⟨"TR_CRIB_COLL", .trc, 0x10, 0x0, 1,
    TR_CRIB_COLL.regs⟩,
  ⟨"TR_HOIST_GADDR", .trc, 0x100, 0x20, 4,
    TR_HOIST_GADDR.regs⟩,
  ⟨"TR_HOIST_CADDR", .trc, 0x108, 0x20, 4,
    TR_HOIST_CADDR.regs⟩,
  ⟨"TR_HOIST_CTRL", .trc, 0x110, 0x20, 4,
    TR_HOIST_CTRL.regs⟩,
  ⟨"TR_HOIST_STATUS", .trc, 0x118, 0x20, 4,
    TR_HOIST_STATUS.regs⟩]

/-- The registers of block TR, by rising offset. -/
def tableTr : List RegRow := [
  ⟨"TR_CTRL", .tr, 0x0, 0x0, 1,
    TR_CTRL.regs⟩,
  ⟨"TR_STATUS", .tr, 0x8, 0x0, 1,
    TR_STATUS.regs⟩,
  ⟨"TR_PC", .tr, 0x10, 0x0, 1,
    TR_PC.regs⟩,
  ⟨"TR_XPC", .tr, 0x18, 0x0, 1,
    TR_XPC.regs⟩,
  ⟨"TR_EXC", .tr, 0x20, 0x0, 1,
    TR_EXC.regs⟩,
  ⟨"TR_MPC", .tr, 0x28, 0x0, 1,
    TR_MPC.regs⟩,
  ⟨"TR_IRQ_EN", .tr, 0x30, 0x0, 1,
    TR_IRQ_EN.regs⟩,
  ⟨"TR_IRQ_PEND", .tr, 0x38, 0x0, 1,
    TR_IRQ_PEND.regs⟩,
  ⟨"TR_IRQ_POST", .tr, 0x40, 0x0, 1,
    TR_IRQ_POST.regs⟩,
  ⟨"TR_POST_DATA", .tr, 0x48, 0x0, 1,
    TR_POST_DATA.regs⟩,
  ⟨"TR_SYSNOTE", .tr, 0x50, 0x0, 1,
    TR_SYSNOTE.regs⟩,
  ⟨"TR_SYSNOTE_TALLY", .tr, 0x58, 0x0, 1,
    TR_SYSNOTE_TALLY.regs⟩,
  ⟨"TR_QNOTE", .tr, 0x60, 0x0, 1,
    TR_QNOTE.regs⟩,
  ⟨"TR_QPORT", .tr, 0x80, 0x8, 16,
    TR_QPORT.regs⟩,
  ⟨"TR_QCOUNT", .tr, 0x100, 0x8, 4,
    TR_QCOUNT.regs⟩,
  ⟨"TR_WDOG", .tr, 0x120, 0x0, 1,
    TR_WDOG.regs⟩,
  ⟨"TR_WDOG_KICK", .tr, 0x128, 0x0, 1,
    TR_WDOG_KICK.regs⟩,
  ⟨"TR_APER", .tr, 0x140, 0x8, 8,
    TR_APER.regs⟩,
  ⟨"TR_DBG_CTRL", .tr, 0x180, 0x0, 1,
    TR_DBG_CTRL.regs⟩,
  ⟨"TR_BP", .tr, 0x188, 0x8, 4,
    TR_BP.regs⟩,
  ⟨"TR_WP", .tr, 0x1a8, 0x8, 2,
    TR_WP.regs⟩,
  ⟨"TR_MEM_ECC", .tr, 0x1c0, 0x0, 1,
    TR_MEM_ECC.regs⟩,
  ⟨"TR_STIM", .tr, 0x1c8, 0x0, 1,
    TR_STIM.regs⟩]

/-- The registers of block FM, by rising offset. -/
def tableFm : List RegRow := [
  ⟨"FM_ID", .fm, 0x0, 0x0, 1,
    FM_ID.regs⟩,
  ⟨"FM_READY", .fm, 0x8, 0x0, 1,
    FM_READY.regs⟩,
  ⟨"FM_START_REC", .fm, 0x10, 0x0, 1,
    FM_START_REC.regs⟩,
  ⟨"FM_BOOT", .fm, 0x18, 0x0, 1,
    FM_BOOT.regs⟩,
  ⟨"FM_LOAD_DEADLINE", .fm, 0x20, 0x0, 1,
    FM_LOAD_DEADLINE.regs⟩,
  ⟨"FM_IRQ_EN", .fm, 0x28, 0x0, 1,
    FM_IRQ_EN.regs⟩,
  ⟨"FM_IRQ_STATUS", .fm, 0x30, 0x0, 1,
    FM_IRQ_STATUS.regs⟩,
  ⟨"FM_MB_REQ", .fm, 0x100, 0x0, 1,
    FM_MB_REQ.regs⟩,
  ⟨"FM_MB_STATUS", .fm, 0x108, 0x0, 1,
    FM_MB_STATUS.regs⟩,
  ⟨"FM_MB_DATA", .fm, 0x200, 0x8, 32,
    FM_MB_DATA.regs⟩,
  ⟨"FM_LOG_POS", .fm, 0x400, 0x0, 1,
    FM_LOG_POS.regs⟩,
  ⟨"FM_SENS_CTRL", .fm, 0x800, 0x0, 1,
    FM_SENS_CTRL.regs⟩,
  ⟨"FM_SENS_STATUS", .fm, 0x808, 0x0, 1,
    FM_SENS_STATUS.regs⟩,
  ⟨"FM_TEMP", .fm, 0x900, 0x8, 16,
    FM_TEMP.regs⟩,
  ⟨"FM_VOLT", .fm, 0x980, 0x8, 6,
    FM_VOLT.regs⟩,
  ⟨"FM_AIN", .fm, 0x9b0, 0x8, 2,
    FM_AIN.regs⟩,
  ⟨"FM_CUR", .fm, 0x9c0, 0x8, 2,
    FM_CUR.regs⟩,
  ⟨"FM_CURMON", .fm, 0xa00, 0x8, 8,
    FM_CURMON.regs⟩]

/-- The registers of block BW, by rising offset. -/
def tableBw : List RegRow := [
  ⟨"BW_CTRL", .bw, 0x0, 0x0, 1,
    BW_CTRL.regs⟩,
  ⟨"BW_STATUS", .bw, 0x8, 0x0, 1,
    BW_STATUS.regs⟩,
  ⟨"BW_ERR", .bw, 0x10, 0x0, 1,
    BW_ERR.regs⟩]

/-- The registers of block SC, by rising offset. -/
def tableSc : List RegRow := [
  ⟨"SC_CTRL", .sc, 0x0, 0x0, 1,
    SC_CTRL.regs⟩,
  ⟨"SC_STATUS", .sc, 0x8, 0x0, 1,
    SC_STATUS.regs⟩,
  ⟨"SC_COUNT", .sc, 0x10, 0x0, 1,
    SC_COUNT.regs⟩,
  ⟨"SC_TIME", .sc, 0x18, 0x0, 1,
    SC_TIME.regs⟩,
  ⟨"SC_TIME_FRAC", .sc, 0x20, 0x0, 1,
    SC_TIME_FRAC.regs⟩,
  ⟨"SC_INC", .sc, 0x28, 0x0, 1,
    SC_INC.regs⟩,
  ⟨"SC_EPOCH_COUNT", .sc, 0x30, 0x0, 1,
    SC_EPOCH_COUNT.regs⟩,
  ⟨"SC_EPOCH_TIME", .sc, 0x38, 0x0, 1,
    SC_EPOCH_TIME.regs⟩,
  ⟨"SC_IRQ_EN", .sc, 0x40, 0x0, 1,
    SC_IRQ_EN.regs⟩,
  ⟨"SC_IRQ_STATUS", .sc, 0x48, 0x0, 1,
    SC_IRQ_STATUS.regs⟩,
  ⟨"SC_CAP", .sc, 0x50, 0x8, 2,
    SC_CAP.regs⟩,
  ⟨"SC_CMP_CTRL", .sc, 0x100, 0x20, 4,
    SC_CMP_CTRL.regs⟩,
  ⟨"SC_CMP_START", .sc, 0x108, 0x20, 4,
    SC_CMP_START.regs⟩,
  ⟨"SC_CMP_END", .sc, 0x110, 0x20, 4,
    SC_CMP_END.regs⟩,
  ⟨"SC_CMP_HIT", .sc, 0x118, 0x20, 4,
    SC_CMP_HIT.regs⟩]

/-- The registers of block LP, by rising offset. -/
def tableLp : List RegRow := [
  ⟨"LP_STATUS", .lp, 0x0, 0x0, 1,
    LP_STATUS.regs⟩,
  ⟨"LP_UNLOCK", .lp, 0x8, 0x0, 1,
    LP_UNLOCK.regs⟩,
  ⟨"LP_CHALLENGE", .lp, 0x10, 0x8, 2,
    LP_CHALLENGE.regs⟩,
  ⟨"LP_RESPONSE", .lp, 0x20, 0x8, 2,
    LP_RESPONSE.regs⟩,
  ⟨"LP_TRACE_CTRL", .lp, 0x40, 0x0, 1,
    LP_TRACE_CTRL.regs⟩,
  ⟨"LP_TRACE_STATUS", .lp, 0x48, 0x0, 1,
    LP_TRACE_STATUS.regs⟩,
  ⟨"LP_TRACE_RING", .lp, 0x50, 0x0, 1,
    LP_TRACE_RING.regs⟩,
  ⟨"LP_TRACE_POS", .lp, 0x58, 0x0, 1,
    LP_TRACE_POS.regs⟩]

/-- The registers of block IO, by rising offset. -/
def tableIo : List RegRow := [
  ⟨"IO_MG_EN", .io, 0x0, 0x0, 1,
    IO_MG_EN.regs⟩,
  ⟨"IO_MG_STATUS", .io, 0x8, 0x0, 1,
    IO_MG_STATUS.regs⟩,
  ⟨"IO_MG_LEVEL", .io, 0x10, 0x0, 1,
    IO_MG_LEVEL.regs⟩]

/-- The registers of block IOB, by rising offset. -/
def tableIob : List RegRow := [
  ⟨"IO_BANK_STATUS", .iob, 0x0, 0x0, 1,
    IO_BANK_STATUS.regs⟩,
  ⟨"IO_BANK_LEVEL", .iob, 0x8, 0x0, 1,
    IO_BANK_LEVEL.regs⟩,
  ⟨"IO_PIN", .iob, 0x100, 0x8, 48,
    IO_PIN.regs⟩]

/-- The registers of block IOM, by rising offset. -/
def tableIom : List RegRow := [
  ⟨"IO_MPIN", .iom, 0x100, 0x8, 64,
    IO_MPIN.regs⟩]

/-- Every register of the part, block by block (01 R32). -/
def regTable : List RegRow :=
  tableCk ++
  tableSt ++
  tableCf ++
  tableCfs ++
  tableSb ++
  tableWd0 ++
  tableWd1 ++
  tableCr ++
  tableXc ++
  tableXcp ++
  tableCg ++
  tableQu ++
  tableGl ++
  tableDc ++
  tablePc ++
  tableEn ++
  tableTrc ++
  tableTr ++
  tableFm ++
  tableBw ++
  tableSc ++
  tableLp ++
  tableIo ++
  tableIob ++
  tableIom
end Sys2Proof.Machine
end

