-- ==== Sys2Proof/Machine/State.lean ====
section
/-! DEFINITION. The state of the part: every register (one sparse table), every memory, and all state that no
register shows, chapter by chapter; the state after reset; the faults and refusals. -/

namespace Sys2Proof.Machine

/-! ### What the part drives outwards -/

/-- A Bellwire message by its type and payload (18 R485); sender and destination stand beside it. -/
inductive BwMsg where
  | enum (addr : Nat)
  | enumDone (parts : Nat)
  | linkChange (part : Nat)
  | announce (group size : Nat) (leadEn join : Bool)
  | stateReq
  | state (tally state : Nat) (valid : Bool) (f k div nmin crc : Nat)
  | grant (h : Nat)
  | event (e kind slot cause : Nat)
  | eventAck (e kind : Nat)
  | report (value kind slot : Nat)
  | cmd (arg op : Nat) (trig : Bool)
  | cmdDone (result : Nat)
  | time (payload : List Nat)
  deriving DecidableEq, Repr

/-- What the part sends or drives: to other parts, the host, memory, pins, or across the Gallery from a master of its
own. A record only: the arrival of each is a command of its own. -/
inductive Emission where
  /-- a non-posted 4-byte interrupt write of a bin queue (05 R136) -/
  | levelWrite (stope bin addr data : Nat)
  /-- an MSI-X message on a vector (12 R335) -/
  | msix (vector : Nat)
  /-- a spoil flag signalled to the Winder and the Foreman, with its bound (07 R195) -/
  | spoil (stope bound : Nat)
  /-- a Bellwire message: its destination, or none for a broadcast (18 R484, R485) -/
  | bell (dst : Option Nat) (m : BwMsg)
  /-- a Bellwire message of another part that goes on downstream or upstream (18 R487) -/
  | relay (down : Bool) (src : Nat) (dst : Option Nat) (m : BwMsg)
  /-- a row that the port logic offers to the lanes of a sub-port, lane 0 first (10 R269) -/
  | row (sub : Nat) (blocks : List Nat)
  /-- levels that a lane sends: a group with its check bits, or PRBS31 (09 R237, R240, R255) -/
  | line (port lane : Nat) (levels : List Nat)
  /-- a Gallery response: from a target NI to an initiator NI's tag, with status, data and poison (13 R356, R359) -/
  | response (target initiator tag status data : Nat) (poison : Bool)
  /-- a DMA write of the Cage to a host address, and a DMA read for a queue (12 R321) -/
  | hostWrite (addr : Nat) (data : List Nat) (poison relaxed : Bool)
  | hostRead (queue addr len : Nat)
  /-- completion of a host memory request: 0 successful, 1 Completer Abort (12 R318); of a configuration request: 0
  successful, 2 Request Retry Status (R317) -/
  | hostCompletion (status data : Nat)
  | configCompletion (status data : Nat)
  /-- ERR_FATAL with an Uncorrectable Internal Error (12 R320) -/
  | errFatal
  /-- a request of a block as initiator NI (13 R346): address, size, whether a write, whether posted, data -/
  | access (ni addr size : Nat) (write posted : Bool) (data : Nat) (poison : Bool)
  /-- a request that its destination NI delivers to the target (13 R348, R349) -/
  | delivered (dst : Nat) (req : GalReq) (tag : Nat)
  /-- a response that an NI hands to its initiator: status, data, poison (13 R356, R359, R360) -/
  | answered (ni tag status data : Nat) (poison : Bool)
  /-- the 76 bits of a response of the Lamp port after its `BUSY` bits, in the order sent (20 R506) -/
  | lamp (bits : Nat)
  /-- the bytes of a packet on TRC_D (20 R522) -/
  | traceBytes (bytes : List Nat)
  deriving DecidableEq, Repr

/-! ### 02 Clocks, resets and power domains -/

/-- Where the always-on supervisor stands in bringing up the clocks (02 R42 to R51). -/
inductive ClockStage where
  /-- VCC_AON is lost: nothing runs until COLD (R50) -/
  | aonLost
  /-- measuring a REFCLK window (R42) -/
  | window
  /-- the root PLL is enabled and has not locked (R43) -/
  | locking
  /-- three lock attempts failed: limp mode until RETRY or a WARM (R43, R51) -/
  | failed
  /-- locked, waiting for the first alignment point (R45) -/
  | aligning
  /-- the ROOT-derived clocks run -/
  | running
  /-- a rail is lost: held until every rail has been good for 1 ms (R50) -/
  | railHold
  /-- a halted part lost ROOT or a rail: gated until COLD (R49, R50, 15 R406) -/
  | frozen
  deriving DecidableEq, Repr

/-- The clock and reset state behind the CK_ registers. -/
structure Clocks where
  stage : ClockStage
  /-- failed REFCLK windows in a row (R42) -/
  failedWindows : Nat
  /-- failed lock attempts since REFCLK was judged stable (R43) -/
  lockAttempts : Nat
  /-- the Foreman clock switch in progress: `some true` towards ROOT/12, `some false` towards the ring (R47) -/
  fmSwitch : Option Bool
  /-- the Foreman domain is held in reset after a hung switch (R48) -/
  fmHeld : Bool
  /-- a divider value accepted and not yet applied (R46) -/
  pendingDiv : Option Nat
  /-- the 1 µs hold of a WARM is running (R58 step 4) -/
  warmHold : Bool
  /-- PERST# is asserted (00 R13) -/
  perst : Bool
  /-- nRST_LAMP has been low for 1 ms: the part is held in WARM until it rises (20 R511) -/
  lampHold : Bool
  /-- the STOPE reset in progress: its stope, and whether the reset line is high (R57) -/
  stopeReset : Option (Nat × Bool)
  /-- the engine whose ENGINE reset is in progress (R56) -/
  engineReset : Option Nat
  /-- stopes whose power-up or power-down is under way, `true` for up (R61) -/
  stopePower : List (Nat × Bool)
  /-- crews whose power-up or power-down is under way, `true` for up (R62) -/
  crewPower : List (Nat × Bool)
  /-- the gated units: gating class and unit (R53) -/
  gated : List (Nat × Nat)
  /-- stopes in which a STEP pulse runs (04 R109) -/
  pulses : List Nat
  deriving DecidableEq, Repr

/-- The clock state right after COLD: the supervisor has started (R41, R42). -/
def Clocks.cold : Clocks :=
  { stage := .window, failedWindows := 0, lockAttempts := 0, fmSwitch := none, fmHeld := false, pendingDiv := none
    warmHold := false, perst := true, lampHold := false, stopeReset := none, engineReset := none
    stopePower := [], crewPower := [], gated := [], pulses := [] }

/-! ### 03, 04, 05 The fabric of a stope

Which bit of which frame configures what is recorded in the Sihild device database and not in the spec (03 intro,
04 R101). A frame therefore configures a stope through `Config.decodeFrame`, a free function of the frame's number
and words, which answers the items below; what each item does is as the rules say. -/

/-- A source of a routing mux, a crossbar or a port input inside one stope (03 R77, R78, R82; 04 R93 to R101). -/
inductive Src where
  | zero
  | one
  /-- output O0 or O1 of a cell; cells are numbered cluster × 16 + cell -/
  | cellOut (cell o : Nat)
  /-- the far end of a short or long wire -/
  | wire (w : Nat)
  /-- a boundary register: the side it faces (0 north, 1 east, 2 south, 3 west), tile along that side, wire -/
  | boundary (side tile n : Nat)
  /-- the receiving register of a seam tie -/
  | tie (n : Nat)
  /-- a cut-net receive point (10 R262) -/
  | recv (point : Nat)
  /-- a read-data output of a memory port, or a result output of a pick slice -/
  | portOut (port bit : Nat)
  /-- `QRDY` of a fabric-side queue port -/
  | qrdy (port : Nat)
  /-- flag output of a pick slice: 0 `PEQ`, 1 `PGT`, 2 `OVF` -/
  | flag (slice n : Nat)
  /-- an output of the stope port to the target design (07 R182, R561) -/
  | stopePort (bit : Nat)
  /-- the input register of a user pin (21 R526) -/
  | pin (n : Nat)
  deriving DecidableEq, Repr, Inhabited

/-- What a configured mux drives (04 R101, R102): every sink has one driver. -/
inductive Sink where
  | routingInput (cluster i : Nat)
  | wire (w : Nat)
  | boundary (side tile n : Nat)
  | tie (n : Nat)
  /-- input bit `i` of a memory port or pick slice (05 R122, R143) -/
  | port (port i : Nat)
  /-- cut-net transmit tap (10 R262) -/
  | tap (point : Nat)
  /-- trigger tap of one of the 16 nets (08 R214) -/
  | trigger (net : Nat)
  | pinO (n : Nat)
  | pinT (n : Nat)
  /-- an input of the stope port from the target design (07 R182, R561) -/
  | stopePort (bit : Nat)
  deriving DecidableEq, Repr

/-- The sink as a key of the driver table. -/
def Sink.key : Sink → Key
  | .routingInput c i => ⟨0, c, i⟩
  | .wire w => ⟨1, 0, w⟩
  | .boundary d t n => ⟨2, d, t * 16 + n⟩
  | .tie n => ⟨3, 0, n⟩
  | .port p i => ⟨4, p, i⟩
  | .tap i => ⟨5, 0, i⟩
  | .trigger n => ⟨6, 0, n⟩
  | .pinO n => ⟨7, 0, n⟩
  | .pinT n => ⟨8, 0, n⟩
  | .stopePort b => ⟨9, 0, b⟩

/-- The source that a select of a mux names: recorded in the Sihild device database, not in the spec (04 R101; log entry 18). -/
opaque Config.muxSource : Sink → Nat → Src

/-- The fields of one state bit (03 R71). -/
structure StateBit where
  mode : Nat
  dsel : Nat
  clk : Nat
  edge : Nat
  cesel : Nat
  srsel : Nat
  srtype : Nat
  init : Bool
  deriving DecidableEq, Repr, Inhabited

/-- An unconfigured state bit is OFF (03 R69, R71). -/
def StateBit.off : StateBit := ⟨0, 0, 0, 0, 0, 0, 0, false⟩

/-- One context of a cell (03 R64): truth table, LUT mode, carry role, the two output selects. -/
structure CellCtx where
  lut : Nat
  lmode : Nat
  carry : Nat
  osel0 : Nat
  osel1 : Nat
  deriving DecidableEq, Repr, Inhabited

/-- An unconfigured cell outputs 0 (03 R69): an all-zero truth table. -/
def CellCtx.none : CellCtx := ⟨0, 0, 0, 0, 0⟩

/-- The configuration of a bin port, a sump port or a pick slice (05 R123, R125, R127, R133, R143). Ports are
numbered: bin `b` A is 2b and B is 2b + 1, sump `j` is 32 + j, slice `i` is 34 + i. -/
structure PortCfg where
  tags : Nat
  wmode : Nat
  otag0 : Nat
  otag1 : Nat
  otag2 : Nat
  otag3 : Nat
  pre : Nat
  pattern : Nat
  mask : Nat
  deriving DecidableEq, Repr, Inhabited

/-- An unconfigured port: no tags, so no requests. -/
def PortCfg.none : PortCfg := ⟨0, 0, 0, 0, 0, 0, 0, 0, 0⟩

/-- What a frame configures: the fields of cells, state bits, crossbars and ports, and the select of each routing mux (04 R101). -/
inductive CfgItem where
  | cell (cell ctx : Nat) (v : CellCtx)
  | stateBit (cell bit : Nat) (v : StateBit)
  /-- crossbar output select: outputs 0 to 111 are cell inputs (cell × 7 + L1..L6, BP), 112 to 115 CE0, CE1, SR0, SR1 -/
  | xbar (cluster ctx out sel : Nat)
  | drive (s : Sink) (sel : Nat)
  | preg (wire : Nat) (b : Bool)
  | port (port : Nat) (v : PortCfg)
  | binMode (bin mode : Nat)
  /-- the slot a transmit tap captures in (10 R262) -/
  | tapSlot (point slot : Nat)
  /-- the stope-port configuration (07 R183, R561): consumer slot of responses, whether it waits, whether the design
  has target logic, the target consumer slot and the target answer slot -/
  | stopePort (consumer : Nat) (waits target : Bool) (present answer : Nat)
  deriving DecidableEq, Repr

/-- The configuration of one stope. -/
structure StopeCfg where
  cells : List (Key × CellCtx)
  bits : List (Key × StateBit)
  xbar : List (Key × Nat)
  /-- selects of the routing muxes (04 R101) -/
  drive : List (Key × Nat)
  preg : List (Nat × Bool)
  ports : List (Nat × PortCfg)
  binMode : List (Nat × Nat)
  tapSlot : List (Nat × Nat)
  consumer : Nat
  waits : Bool
  target : Bool
  present : Nat
  answer : Nat
  deriving DecidableEq, Repr, Inhabited

/-- An unconfigured stope (03 R69). Every crossbar output then reads source 0, an output that is 0. -/
def StopeCfg.none : StopeCfg :=
  { cells := [], bits := [], xbar := [], drive := [], preg := [], ports := [], binMode := [], tapSlot := []
    consumer := 0, waits := false, target := false, present := 0, answer := 0 }

/-- A bin queue (05 R133 to R137). -/
structure BinQueue where
  rp : Nat
  wp : Nat
  count : Nat
  deriving DecidableEq, Repr

/-- An empty bin queue. -/
def BinQueue.empty : BinQueue := ⟨0, 0, 0⟩

/-- One entry of a journal (05 R141). -/
structure JournalEntry where
  old : Nat
  unit : Nat
  mem : Nat
  ue : Bool
  deriving DecidableEq, Repr

/-- The entry as the journal port presents it, 128 bits (05 R141): `OLD` [63:0], `UNIT` [77:64], `MEM` [82:78], `UE` [83], zero above. -/
def JournalEntry.bits (e : JournalEntry) : Nat :=
  e.old % 2 ^ 64 + e.unit % 2 ^ 14 * 2 ^ 64 + e.mem % 2 ^ 5 * 2 ^ 78 + b2n e.ue * 2 ^ 83

/-- The copy and journal state of one memory (05 R138 to R142). -/
structure MemJournal where
  copyPtr : Nat
  journalled : List Nat
  fifo : List JournalEntry
  deriving DecidableEq, Repr

/-- A memory that no sample has armed. -/
def MemJournal.idle : MemJournal := ⟨0, [], []⟩

/-- The port registers of a stope (05 R147): what COPY-OUT and COPY-IN move beside the state bits. -/
structure PortRegs where
  /-- request registers by port and tag: the captured inputs as one number; no entry is a no-op -/
  req : List (Key × Nat)
  /-- requests captured and not yet executed: port and tag -/
  due : List (Nat × Nat)
  /-- output registers, or accumulators of the pick slices, by port and tag -/
  out : List (Key × Nat)
  /-- results that load at the next slot end, by port and tag -/
  loading : List (Key × Nat)
  /-- flags that load with them -/
  loadingFlags : List (Key × Nat)
  /-- flags of the pick slices by slice and tag: bit 0 `PEQ`, 1 `PGT`, 2 `OVF` -/
  flags : List (Key × Nat)
  queues : List (Nat × BinQueue)
  /-- bin words marked as the last of an UP packet (05 R133), by bin and word. DESIGN CHOICE (log entry 93): the mark moves with the
  port registers -/
  lastMark : List (Key × Bool)
  deriving DecidableEq, Repr

/-- Port registers after a load, a STOPE reset, COLD or WARM (05 R147). -/
def PortRegs.cleared : PortRegs := ⟨[], [], [], [], [], [], [], []⟩

/-- A transaction of the stope port as master (07 R182, R183). -/
structure MasterTxn where
  tag : Nat
  write : Bool
  /-- the response, once it has arrived: data, error, poison -/
  resp : Option (Nat × Bool × Bool)
  deriving DecidableEq, Repr

/-- The access held in the target request register (07 R561). -/
structure TargetAccess where
  write : Bool
  addr : Nat
  be : Nat
  wdata : Nat
  presented : Bool
  posted : Bool
  src : Nat
  tag : Nat
  deriving DecidableEq, Repr

/-- One stope behind its ST_ registers. -/
structure Stope where
  cfg : StopeCfg
  /-- state bits by cell × 8 + bit -/
  q : List (Nat × Bool)
  /-- staging latches: D, CE, SR as bits 0, 1, 2 -/
  staged : List (Nat × Nat)
  shadow : List (Nat × Bool)
  /-- pipeline registers by sink: PREG, boundary and tie registers -/
  regs : List (Key × Bool)
  /-- the pipeline registers as they stood before the last active edge -/
  regsBefore : List (Key × Bool)
  ports : PortRegs
  shadowPorts : PortRegs
  qrdy : List (Nat × Bool)
  journals : List (Nat × MemJournal)
  /-- units corrected and waiting for their write-back: memory and unit (05 R129) -/
  writebacks : List (Nat × Nat)
  /-- sweeper positions by memory (05 R131) -/
  sweep : List (Nat × Nat)
  /-- bins with a level-interrupt write outstanding (05 R136) -/
  levelOut : List Nat
  recv : List (Nat × Bool)
  taps : List (Nat × Bool)
  trig : List (Nat × Bool)
  /-- the source the tree is switching to (04 R107) -/
  switchTo : Option Nat
  /-- captures are off until the divider reaches phase 0 of slot 0, after a forced switch (04 R108) -/
  capturesOff : Bool
  /-- a re-fill under way, with the new position (07 R203) -/
  refill : Option Nat
  /-- the use tally, and whether the next stroke evaluated in use sets it (07 R180) -/
  useTally : Nat
  usePending : Bool
  masters : List MasterTxn
  target : Option TargetAccess
  /-- accesses that wait in the Gallery for the target request register (07 R561) -/
  targetWait : List TargetAccess
  /-- the stope port's outputs to the target design, by bit -/
  portOut : List (Nat × Bool)
  /-- memory contents were lost by a power-down: the free value its units read as until written (log entry 19) -/
  lost : Option Nat
  deriving DecidableEq, Repr

/-- A stope after COLD or WARM (02 R59, 03 R69, 05 R147). -/
def Stope.cold : Stope :=
  { cfg := .none, q := [], staged := [], shadow := [], regs := [], regsBefore := [], ports := .cleared
    shadowPorts := .cleared, qrdy := [], journals := [], writebacks := [], sweep := [], levelOut := []
    recv := [], taps := [], trig := [], switchTo := none, capturesOff := false, refill := none
    useTally := 0, usePending := false, masters := [], target := none, targetWait := [], portOut := [], lost := none }

/-- A word of a state frame (07 R189): which bit holds which state bit, shadow or port register is recorded in the Sihild
device database (11 R288; log entry 18). -/
opaque Config.stateFrame : Stope → Nat → Nat → Nat

/-! ### 06 The loader -/

/-- What a frame configures, from its number and its 64 words: recorded in the Sihild device database, not in the spec
(03 R64, 04 R101; log entry 18). -/
opaque Config.decodeFrame : Nat → List Nat → List CfgItem

/-- An extent of the FIFO, with the bytes read of it (R164). -/
structure Extent where
  addr : Nat
  len : Nat
  space : Nat
  last : Bool
  taken : Nat
  deriving DecidableEq, Repr

/-- A staged segment (R154, R165): its index, the stream offset of its header, its payload length, its key, whether it is the last; and once
its tag has verified, the plaintext not yet consumed. -/
structure Segment where
  index : Nat
  start : Nat
  plen : Nat
  key : Nat
  last : Bool
  body : Option (List Nat)
  deriving DecidableEq, Repr

/-- AES-256-GCM decryption (R155, R156): key, IV, AAD, ciphertext and tag as bytes; none where the tag does not verify. The function is AES's:
no property of it is used. -/
opaque Config.gcmOpen : Nat → List Nat → List Nat → List Nat → List Nat → Option (List Nat)

/-- A frame on its way to its seam path, with the stream offset of its WRITE (R160, R165). -/
structure FrameJob where
  stope : Nat
  frame : Nat
  words : List Nat
  pos : Nat
  deriving DecidableEq, Repr

/-- The Foreman's diagnostic load (R176): the image whose copy is in hand, whether it is the second try, whether the
loader runs it. -/
structure DiagLoad where
  image : Nat
  second : Bool
  loading : Bool
  deriving DecidableEq, Repr

/-- The loader behind the CF_ registers. -/
structure Loader where
  extents : List Extent
  /-- an extent marked `LAST` has been pushed for this load -/
  lastPushed : Bool
  /-- the `LAST` extent has been read to its end -/
  lastDone : Bool
  /-- the bytes of the stream received so far -/
  stream : List Nat
  /-- every extent so far is FLASH (R157) -/
  fromFlash : Bool
  header : Option StreamHeader
  /-- the declared stopes -/
  set : List Nat
  /-- index of the next segment, and the stream offset at which it begins -/
  nextSeg : Nat
  pos : Nat
  segs : List Segment
  /-- the newest derived key (R155); 0 where none is held -/
  key : Nat
  /-- the frame that each stope expects next (R160) -/
  nextFrame : List (Nat × Nat)
  dispatched : Nat
  /-- frames in the input FIFOs, oldest first, and those of a WRITE that waits for room (R165) -/
  fifo : List FrameJob
  stalled : List FrameJob
  /-- frame-shadow writes not yet acknowledged (R172), by the stream offset of their WRITE -/
  shadowOut : List Nat
  /-- END has been accepted -/
  ended : Bool
  /-- the code and offset of the abort in progress (R169) -/
  abort : Option (Nat × Nat)
  diag : Option DiagLoad
  /-- the readback in progress by seam: frame address (R174) -/
  readback : List (Nat × Nat)
  deriving DecidableEq, Repr

/-- Bytes of the stream received. -/
def Loader.received (l : Loader) : Nat := l.stream.length

/-- The loader after COLD or WARM: IDLE. -/
def Loader.cold : Loader :=
  { extents := [], lastPushed := false, lastDone := false, stream := [], fromFlash := true, header := none, set := []
    nextSeg := 0, pos := 0, segs := [], key := 0, nextFrame := [], dispatched := 0, fifo := [], stalled := []
    shadowOut := [], ended := false, abort := none, diag := none, readback := [] }

/-! ### 07 Scrubbers -/

/-- A scrubber behind its SB_ registers. -/
structure Scrub where
  /-- the next frame of the pass: seam-local stope index × 4,320 + frame -/
  next : Nat
  /-- frames read since the last refresh (R199) -/
  since : Nat
  /-- a peer check of the pass in progress found a fault (R197) -/
  faulted : Bool
  /-- start tallies of complete passes that await the first peer check after them, newest first (R197) -/
  awaiting : List Nat
  /-- start tallies of complete fault-free passes, newest first (R306) -/
  good : List Nat
  /-- the takeover pass: 0 none begun, 1 in progress, 2 one has completed (R200) -/
  took : Nat
  /-- the Foreman has logged a fault since the last fault-free pass (R200) -/
  logged : Bool
  /-- the frame under repair from the shadow: stope and frame (R192) -/
  repair : Option (Nat × Nat)
  /-- a drain has begun, and the pause waits for the frame in hand (R194) -/
  pauseDue : Bool
  /-- no pass is in progress: nothing is covered, or the scrubber is disabled (R190) -/
  idle : Bool
  /-- bits in which each of the three copies of `SB_CTRL` differs from the Foreman's master copy (R198) -/
  flips : Nat × Nat × Nat
  deriving DecidableEq, Repr

/-- A scrubber after COLD or WARM: idle. -/
def Scrub.cold : Scrub :=
  { next := 0, since := 0, faulted := false, awaiting := [], good := [], took := 0, logged := false, repair := none, pauseDue := false, idle := true, flips := (0, 0, 0) }

/-! ### 08 The Winder, 18 Bellwire group messages -/

/-- The kind of a scheduled event (08 R222). -/
inductive EventKind where
  | stop | sample | rewind
  deriving DecidableEq, Repr

/-- An event scheduled at boundary `e` (08 R222): sample slot, stop cause, and the members whose acknowledgement the
leader still waits for. -/
structure SchedEvent where
  kind : EventKind
  e : Nat
  slot : Nat
  cause : Nat
  waiting : List Nat
  deriving DecidableEq, Repr

/-- What a member reports to the leader (08 R220, R223). -/
structure Member where
  addr : Nat
  size : Nat
  leadEn : Bool
  state : Nat
  tally : Nat
  valid : Bool
  f : Nat
  k : Nat
  div : Nat
  nmin : Nat
  crc : Nat
  horizon : Nat
  /-- the slots that could serve a restore on the member (11 R300, R308) -/
  slots : List SlotView
  /-- one above the tally of `State.passBound` there (11 R306) -/
  passes : Nat
  deriving DecidableEq, Repr

/-- How far a group command has come at the leader. -/
inductive CmdStage where
  /-- collecting the members' states (R220) -/
  | checking
  /-- waiting until every member runs, has acknowledged or has restored (R225) -/
  | waiting
  /-- waiting until every member of a stopped group has taken the sample (R225) -/
  | sampling
  /-- waiting for the group to stop (STEP, REPLAY, REWIND while running) -/
  | stopping
  deriving DecidableEq, Repr

/-- The command in progress (08 R225); the leader's own recovery is not one (R228). -/
structure WindCmd where
  op : Nat
  arg : Nat
  stopes : Bool
  trig : Bool
  stage : CmdStage
  /-- members whose answer is outstanding -/
  waiting : List Nat
  /-- the result to report: 0, or the first failure -/
  result : Nat
  /-- this part has done its own share -/
  ownDone : Bool
  deriving DecidableEq, Repr

/-- The stages of a silent recovery (08 R228). -/
inductive RecoveryStage where
  | stopping | asking | rewinding | replaying | running
  deriving DecidableEq, Repr

/-- A silent recovery in progress: the lowest bound reported, the stop cause it keeps, whether the group was stopped
when it began, and the tally to replay to. -/
structure Recovery where
  stage : RecoveryStage
  bound : Nat
  cause : Nat
  wasStopped : Bool
  target : Nat
  /-- members that have not answered, restored, run again or replayed yet, and whether this part has -/
  waiting : List Nat
  ownDone : Bool
  deriving DecidableEq, Repr

/-- The Winder behind the WD_ registers. -/
structure Winder where
  /-- a stroke is being evaluated, `phase` active phases and `slots` slot ends into it (03 R81) -/
  inStroke : Bool
  phase : Nat
  slots : Nat
  events : List SchedEvent
  /-- `REPLAY_TRIG` of the command that started the run (R217) -/
  runTrig : Bool
  /-- trigger nets of the previous stroke (R215) -/
  prevTrig : Nat
  cmd : Option WindCmd
  /-- members of the group by Bellwire address, as last reported; this part is not listed -/
  members : List Member
  recovery : Option Recovery
  /-- hold requests of stopes: the stope, and whether one phase serves it (05 R131, R142) -/
  holdReq : List (Nat × Bool)
  /-- the group command this member carries out for its leader (18 R485 CMD) -/
  duty : Option Nat
  /-- a CHAIN has ended the group in a run: the members whose tally and horizon the new leader still awaits (R223) -/
  regroup : Option (List Nat)
  /-- the lowest bound of a spoil flag that rose after a recovery's restore began (11 R309) -/
  lateBound : Option Nat
  /-- the stopes whose flag rose before the restore began (11 R309) -/
  spoiled : List Nat
  /-- COPY-OUT has run at the present boundary for the sample scheduled there (R213) -/
  sampled : Bool
  deriving DecidableEq, Repr

/-- The Winder after COLD or WARM: UNLOADED, no stroke, nothing scheduled (08 R207, R209). -/
def Winder.cold : Winder :=
  { inStroke := false, phase := 0, slots := 0, events := [], runTrig := false, prevTrig := 0, cmd := none
    members := [], recovery := none, holdReq := []
    duty := none, regroup := none, lateBound := none, spoiled := [], sampled := false }

/-! ### 18 Bellwire -/

/-- Bellwire behind the BW_ registers. -/
structure Bell where
  /-- the head has received a LINK_CHANGE and no enumeration has followed (18 R488) -/
  enumDue : Bool
  deriving DecidableEq, Repr

/-! ### 14 DRAM, 15 Encryption -/

/-- A page of DRAM beyond its plaintext bytes (14 R376 to R386). -/
structure Page where
  poison : Bool
  /-- symbols of the stored codeword in error: number and value (R386) -/
  errs : List (Nat × Nat)
  /-- a master has written it: `FRESH` is clear (R379, R385) -/
  written : Bool
  deriving DecidableEq, Repr

/-- A page as a fill stores it. -/
def Page.clean : Page := ⟨false, [], false⟩

/-- A request that waits at its controller: channel, request, what the devices give, Gallery cycles it has waited (14 R372, R373). -/
structure DramWait where
  chan : Nat
  req : DramReq
  view : DramView
  waited : Nat
  deriving DecidableEq, Repr

/-- A fill in progress: channel, block, pages of the block that a write has marked filled (14 R385). -/
structure Fill where
  chan : Nat
  block : Nat
  marked : List Nat
  deriving DecidableEq, Repr

/-- A half-page held in a write combiner (14 R374). -/
structure HeldHalf where
  chan : Nat
  req : DramReq
  deriving DecidableEq, Repr

/-- The DRAM subsystem behind the DC_ and PC_ registers. -/
structure Dram where
  /-- by gallery page number, address / 128 -/
  pages : List (Nat × Page)
  /-- fresh bits by channel × 2^21 + block (14 R385) -/
  live : List (Nat × Bool)
  fills : List Fill
  /-- blocks with first writes that wait for a tracker: channel and block -/
  trackerWait : List (Nat × Nat)
  combiner : List HeldHalf
  /-- refreshes owed by channel × 4 + rank (R375) -/
  owed : List (Nat × Nat)
  /-- corrected pages waiting for their write-back (R384) -/
  writebacks : List Nat
  /-- accesses held while their range is being enabled or retired (15 R394, R395) -/
  heldReqs : List DramReq
  /-- requests that wait at the controllers, oldest first (R372, R373) -/
  queue : List DramWait
  /-- serial numbers of a channel's DIMMs as the Foreman read them (R365) -/
  serials : List (Nat × List Nat)
  deriving DecidableEq, Repr

/-- After COLD or WARM: every DRAM byte reads zero (02 R59, 14 R385). -/
def Dram.cold : Dram :=
  { pages := [], live := [], fills := [], trackerWait := [], combiner := [], owed := [], writebacks := [], heldReqs := [], queue := [], serials := [] }

/-- An entry of the counter cache (15 R401): key id, level, node index, dirty. -/
structure CacheEnt where
  key : Nat
  level : Nat
  index : Nat
  dirty : Bool
  deriving DecidableEq, Repr

/-- A row that the flash table repairs (14 R387, 18 R480). -/
structure FlashRow where
  chan : Nat
  row : Nat
  bg : Nat
  bank : Nat
  rank : Nat
  hard : Bool
  /-- a hard repair that has been made -/
  done : Bool
  deriving DecidableEq, Repr

/-- A request whose page waits for its counter (15 R402). -/
structure CounterWait where
  req : DramReq
  view : DramView
  deriving DecidableEq, Repr

/-- The encryption stage behind the EN_ registers. Slot keys and the owner key lie in always-on key RAM. -/
structure Crypto where
  /-- 256-bit slot keys by key id (15 R390) -/
  slots : List (Nat × Nat)
  owner : Option Nat
  /-- 128-bit boot nonce and 256-bit device memory key (15 R391) -/
  nonce : Nat
  devKey : Nat
  /-- counters: level 0 by page of the range, level i by node of level i; the root counters are those of the highest
  level. Keys are level, key id, index (15 R398). -/
  counters : List (Key × Nat)
  /-- held nodes, least recently used first -/
  cache : List CacheEnt
  waiting : List CounterWait
  /-- key ids whose ENABLE has been accepted and not completed (15 R394) -/
  enabling : List Nat
  deriving DecidableEq, Repr

/-- Key RAM empty, nothing derived (15 R390). -/
def Crypto.cold : Crypto :=
  { slots := [], owner := none, nonce := 0, devKey := 0, counters := [], cache := [], waiting := [], enabling := [] }

/-! ### 09, 10 The Crosscut -/

/-- A lane's receiver and transmitter behind its registers (09 R245 to R252). -/
structure Lane where
  /-- missed alignment blocks in a row -/
  misses : Nat
  /-- positions of the commas found in this search, back to one alignment period (R245) -/
  seen : List Nat
  /-- the position at which the last alignment period showed `COMMA_OFS` = 0 (R246) -/
  zeroAt : Option Nat
  /-- the block boundary: the position of an alignment period's first bit (R245, R246) -/
  bound : Nat
  /-- arrival time of the latest alignment block, in ps (R247) -/
  time : Nat
  /-- codewords decoded since the lane became ALIGNED, and the numbers of the latest uncorrectable ones (R240, R241) -/
  codewords : Nat
  bad : List Nat
  /-- the blocks of the latest codeword (R240) -/
  released : List Nat
  /-- the last level received, after polarity, and the last 58 body bits: the far precoder and scrambler (R237) -/
  rxLevel : Nat
  descrambler : Nat
  /-- the equaliser's coefficients (R244, R253) -/
  coefficients : Nat
  /-- the state of R243 on the looped data while `TEST` = 2 (R255) -/
  loop : Nat
  /-- `TX_SLEEP` cleared while ENTERING: wake follows (R252) -/
  wakeNext : Bool
  /-- the blocks of the group in hand, as they go out; the groups of this alignment period already sent; `ACOUNT` (R239) -/
  group : List Nat
  groups : Nat
  acount : Nat
  /-- the last 58 body bits sent, the last level sent before polarity, and the last 31 bits of PRBS31 (R237, R255) -/
  scrambler : Nat
  txLevel : Nat
  prbs : Nat
  deriving DecidableEq, Repr

/-- A lane that has sent and received nothing. -/
def Lane.cold : Lane :=
  { misses := 0, seen := [], zeroAt := none, bound := 0, time := 0, codewords := 0, bad := [], released := [], rxLevel := 0, descrambler := 0,
    coefficients := 0, loop := 0, wakeNext := false, group := [], groups := 0, acount := 0, scrambler := 0, txLevel := 0, prbs := 0 }

/-- A frame that a sub-port holds: in a replay slot, in the history, or received and not yet delivered (10 R276). -/
structure XSlot where
  seq : Nat
  stream : Nat
  tally : Nat
  data : List Nat
  crc : Nat
  deriving DecidableEq, Repr

/-- The transport state of a sub-port's role (10 R273 to R283). -/
structure XpSub where
  slots : List XSlot
  /-- the staging buffer: frames that found no free slot (R276) -/
  staging : List XSlot
  /-- the last `d` frames of each local transmit stream (R276, R282) -/
  history : List XSlot
  /-- received frames of delivering streams that no stroke has loaded yet (R263) -/
  held : List XSlot
  /-- the tally expected of each receive stream (R274) -/
  expTally : List (Nat × Nat)
  /-- streams that slipped (R277) -/
  stopped : List Nat
  /-- the `NEXT` of the last NAK (R275) -/
  nakSent : Option Nat
  /-- an acceptance awaits acknowledgement (R275) -/
  ackDue : Bool
  /-- transport resets (R280) -/
  rcnt : Nat
  /-- the peer's SYNC has come since `LINK_UP` returned, at an end that is not gated (R280) -/
  heard : Bool
  deriving DecidableEq, Repr

/-- A sub-port after COLD or WARM. -/
def XpSub.cold : XpSub := ⟨[], [], [], [], [], [], none, false, 0, false⟩

/-! ### 11 Core sample -/

/-- The sampled state of one stope (11 R285): its shadows as COPY-OUT left them. -/
structure StopeSample where
  shadow : List (Nat × Bool)
  ports : PortRegs
  deriving DecidableEq, Repr

/-- What a slot of the sample store holds beside its registers (11 R285). The memory area lies in DRAM as R291 lays it
out; header, queue state and histories are ML640 internal. -/
structure SlotData where
  stopes : List Nat
  f : Nat
  k : Nat
  crc : Nat
  trig : Nat
  shadows : List (Nat × StopeSample)
  /-- units stored, by memory, stope and unit -/
  mems : List (Key × Nat)
  /-- histories by role of the sub-port -/
  hist : List (Nat × List XSlot)
  /-- next packet sequence number of the up queues, by queue -/
  upSeq : List (Nat × Nat)
  /-- replay-log position of the down queues, by queue -/
  logPos : List (Nat × Nat)
  deriving DecidableEq, Repr

/-- An empty slot. -/
def SlotData.none : SlotData :=
  { stopes := [], f := 0, k := 0, crc := 0, trig := 0, shadows := [], mems := [], hist := [], upSeq := [], logPos := [] }

/-- An entry of the page journal (11 R294). -/
structure PjEntry where
  page : Nat
  epoch : Nat
  old : List Nat
  poison : Bool
  deriving DecidableEq, Repr

/-- A record of the replay log (11 R296, R297). -/
inductive LogRecord where
  /-- a down packet: queue, packet sequence number, tally, payload bytes -/
  | packet (queue seq tally : Nat) (data : List Nat)
  /-- a count committed by a bin queue end -/
  | commit (stope bin tally count : Nat)
  deriving DecidableEq, Repr

/-- Samples, journals and the replay log behind the WD_ and CR_ registers. -/
structure Sampler where
  slots : List (Nat × SlotData)
  /-- the slot that drains, if any -/
  draining : Option Nat
  /-- stopes not yet drained by seam, in rising seam-local index, and the next frame of the first (R288) -/
  drain : List (Nat × List Nat)
  drainFrame : List (Nat × Nat)
  /-- DRAM epoch (R293) -/
  epoch : Nat
  pj : List PjEntry
  /-- no sample remains: appends are dropped until the next sample, in the page journal (R295) and in the replay log (R298) -/
  pjDropping : Bool
  logDropping : Bool
  log : List LogRecord
  /-- words moved on each bin in the stroke, for the commit at its boundary (R297): in and out by stope and bin -/
  moved : List (Key × Int)
  /-- engines whose SAMPLE notice is pending, and whose RESTORE notice is (R299) -/
  noticeSample : Nat
  noticeRestore : Nat
  /-- engines whose latest notice has not been acknowledged: the `SYSNOTE` source (16 R427) -/
  noticePend : Nat
  /-- the restore in progress: slot, and whether it is a STOPES restore -/
  restoring : Option (Nat × Bool)
  /-- a STOPES restore: stopes not yet restored -/
  backfill : List Nat
  /-- the replay-log records to present again, oldest first (R304) -/
  replay : List LogRecord
  /-- the tally of the previous auto-checkpoint, its slot, and whether it has been taken or failed (R306) -/
  lastAuto : Option Nat
  autoSlot : Option Nat
  deriving DecidableEq, Repr

/-- After COLD or WARM: no sample, empty rings (11 R303). -/
def Sampler.cold : Sampler :=
  { slots := [], draining := none, drain := [], drainFrame := [], epoch := 0, pj := [], pjDropping := false, logDropping := false
    log := [], moved := [], noticeSample := 0, noticeRestore := 0, noticePend := 0, restoring := none, backfill := []
    replay := [], lastAuto := none, autoSlot := none }

/-! ### 12 MSI-X (01 R38, 12 R335) -/

/-- The MSI-X state: table, masks, pending bits and the per-vector gap. Keys are vectors 0 to 2,047. -/
structure Msix where
  enable : Bool
  functionMask : Bool
  addr : List (Nat × Nat)
  data : List (Nat × Nat)
  /-- vectors whose mask bit is 0 -/
  unmasked : List (Nat × Bool)
  pending : List (Nat × Bool)
  /-- vectors within `GAP` of their last message -/
  inGap : List (Nat × Bool)
  /-- vectors with requests merged for the end of the gap -/
  merged : List (Nat × Bool)
  deriving DecidableEq, Repr

/-- MSI-X after reset: disabled, every vector masked, nothing pending (PCI Express; log entry 8). -/
def Msix.cold : Msix := ⟨false, false, [], [], [], [], [], []⟩

/-! ### 12 The Cage and its queues -/

/-- A line of a bank or a spill entry by its tag (12 R328): the packet's sequence number, valid bytes, first, last, and
poison. `valid` 0 marks a line that was discarded in place. Its 64 bytes lie in the Cage buffer or the spill area. -/
structure QLine where
  seq : Nat
  valid : Nat
  first : Bool
  last : Bool
  poison : Bool
  deriving DecidableEq, Repr

/-- A packet of a queue that is not finished (12 R330, R336). -/
structure QPkt where
  seq : Nat
  /-- payload bytes -/
  len : Nat
  trunc : Bool
  /-- its slot line passed through the spill ring -/
  spilled : Bool
  poison : Bool
  /-- below the drop mark: its words are discarded (R341) -/
  dup : Bool
  closed : Bool
  /-- lines begun -/
  lines : Nat
  /-- ring position of the slot, once the slot line is at the host (R331) -/
  slotPos : Option Nat
  deriving DecidableEq, Repr

/-- A notice that is due (12 R334). -/
structure QNotice where
  seq : Nat
  ofs : Nat
  len : Nat
  poison : Bool
  trunc : Bool
  spilled : Bool
  deriving DecidableEq, Repr

/-- A queue behind its QU_ registers (12 R326 to R341). -/
structure Queue where
  /-- complete lines of the fill bank -/
  fill : List QLine
  /-- lines of the drain bank that have not left, and the place of the first in the bank -/
  drain : List QLine
  drainPos : Nat
  /-- spill entries, oldest first, and the ring place of the oldest -/
  spill : List (List QLine)
  spillHead : Nat
  /-- the fill bank is being copied to the spill ring -/
  spilling : Bool
  /-- the bytes of the line in the packer (R328) -/
  packer : List Nat
  pkts : List QPkt
  /-- words held by back-pressure, with their last-word marks (R333) -/
  waiting : List (Nat × Bool)
  doorbells : List Nat
  /-- lines read from the host for the first doorbell, and lines of them that have arrived -/
  asked : Nat
  arrived : Nat
  /-- words taken of the packet that the end is taking -/
  popped : Nat
  notices : List QNotice
  unsignalled : Nat
  deriving DecidableEq, Repr

/-- An empty queue. -/
def Queue.cold : Queue :=
  { fill := [], drain := [], drainPos := 0, spill := [], spillHead := 0, spilling := false, packer := [], pkts := []
    waiting := [], doorbells := [], asked := 0, arrived := 0, popped := 0, notices := [], unsignalled := 0 }

/-- The link between a bin queue controller and the queue engine (12 R323). -/
structure BinEnd where
  /-- words popped and not yet written to the queue engine, with their last-word marks -/
  run : List (Nat × Bool)
  /-- words that the queue engine still grants -/
  grant : Nat
  /-- words received and not yet pushed into the bin -/
  inbuf : List Nat
  /-- free entries last reported, less the words sent since -/
  credit : Nat
  /-- words that the fabric has popped since the last report -/
  taken : Nat
  deriving DecidableEq, Repr

/-- A link that has moved nothing. -/
def BinEnd.cold : BinEnd := ⟨[], 0, [], 0, 0⟩

/-- The Cage behind the CG_ and QU_ registers. -/
structure Cage where
  queues : List (Nat × Queue)
  /-- by stope and bin: key unit and index -/
  bins : List (Key × BinEnd)
  /-- the requester the DMA engine served last; 4,096 is the loader (R321) -/
  rr : Nat
  /-- BAR2 size as 2^n GiB (01 R36) -/
  bar2 : Nat
  /-- Max Payload Size and Max Read Request Size in bytes (R313) -/
  maxPayload : Nat
  maxRead : Nat
  relaxed : Bool
  deriving DecidableEq, Repr

/-- The Cage after COLD or WARM: BAR2 at its smallest, the PCI Express reset values 128 and 512 (log entry 23). -/
def Cage.cold : Cage := { queues := [], bins := [], rr := 4096, bar2 := 0, maxPayload := 128, maxRead := 512, relaxed := true }

/-! ### 13 The Gallery -/

/-- The route fields of a header (13 R347). -/
structure Route where
  sx : Nat
  sy : Nat
  sj : Nat
  mg : Nat
  dsj : Nat
  dy : Nat
  deriving DecidableEq, Repr

/-- Where a packet is (13 R349): a mesh junction, a shaft junction (entered from the shaft link or from the seam side),
the main gallery, a network interface; `off` is an exit that does not exist. -/
inductive Place where
  | junction (n : Nat)
  | shaft (seam : Nat) (fromLink : Bool)
  | main
  | ni (n : Nat)
  | off
  deriving DecidableEq, Repr

/-- A request packet in the network (13 R346, R347). -/
structure Packet where
  req : GalReq
  /-- `PRI` as the NI set it -/
  pri : Nat
  tag : Nat
  dst : Nat
  route : Route
  place : Place
  /-- a data flit carries its poison bit (R348) -/
  bad : Bool
  /-- promoted by age (R354) -/
  aged : Bool
  deriving DecidableEq, Repr

/-- The Gallery behind the GL_ registers. -/
structure Gallery where
  /-- tags in use: NI, tag, and whether it is quarantined after a timeout (R360) -/
  tags : List (Nat × Nat × Bool)
  /-- flits missing from a regulator's bucket, by stope NI or 1,024 + engine (R355) -/
  short : List (Nat × Nat)
  /-- packets in the network, in the order of injection -/
  packets : List Packet
  /-- requests held by a regulator or for want of a tag, oldest first -/
  held : List GalReq
  deriving DecidableEq, Repr

/-- An idle Gallery. -/
def Gallery.cold : Gallery := ⟨[], [], [], []⟩

/-! ### 16, 17 Tram engines and crews -/

/-- What an access that waits for its response does when it comes (16 R411, R425): destination register, size, sign
extension, the circular pointer and its step, the port of a head pop, and the engine address. -/
structure Landing where
  dest : Option Nat
  size : Nat
  signed : Bool
  ptr : Option (Nat × BitVec 32)
  head : Option Nat
  eaddr : Nat
  deriving DecidableEq, Repr

/-- What freezes an engine (16 R409, R411, R425). -/
inductive EngWait where
  /-- a posted store that its NI has not accepted -/
  | accept
  /-- a queue push that the Cage has not seen -/
  | push
  /-- an access without its response; the tag is known once the NI has sent it -/
  | answer (l : Landing) (tag : Option Nat)
  deriving DecidableEq, Repr

/-- A Tram engine behind its TR_ registers (17 R441, R442; 16 R412 to R437). Results in a gap of 16 R413 stand in the
registers at once; the `Old` fields hold what the next instruction reads in their place. -/
structure Engine where
  g : List (Nat × BitVec 32)
  acc : List (Nat × BitVec 72)
  /-- k, kb and kl by 3-way kind × 8 + number -/
  k : List (Nat × BitVec 32)
  sv : Bool
  cycles : BitVec 64
  /-- the high half that the last read of c2 latched -/
  cyclesHi : BitVec 32
  /-- the granule of the load-locked reservation, by crib offset / 8 (16 R421) -/
  resv : Option Nat
  /-- the branch whose slots issue: its address, where issue goes after them, slots left (16 R413) -/
  branch : Option (Nat × Nat × Nat)
  /-- the repeat block in progress: first offset, length, iterations left (17 R453) -/
  rep : Option (Nat × Nat × Nat)
  gOld : List (Nat × BitVec 32)
  accOld : List (Nat × BitVec 72)
  kOld : List (Nat × BitVec 32)
  /-- stores to the own TR_ block that have not taken effect: instructions left, offset, size, data (16 R413) -/
  stores : List (Nat × Nat × Nat × Nat)
  /-- own instruction words stored to, as the fetch still sees them: instructions left, offset, word (17 R461) -/
  imemOld : List (Nat × Nat × Nat)
  wait : Option EngWait
  /-- a HALT waits for an eligible boundary (16 R437) -/
  haltDue : Bool
  /-- debug causes that wait for an eligible boundary, by the bits of `MREASON` (16 R433) -/
  dbg : Nat
  /-- a monitor return with `STEP` set: the next instruction issues whatever breakpoint it has (16 R434) -/
  stepOver : Bool
  /-- the engine has run since its last reset (16 R437) -/
  ran : Bool
  /-- the watchdog has warned and has not been kicked (16 R432) -/
  warned : Bool
  /-- the post FIFO, oldest first (16 R427) -/
  posts : List Nat
  deriving DecidableEq, Repr

/-- An engine after COLD, WARM or an ENGINE reset (17 R441). -/
def Engine.cold : Engine :=
  { g := [], acc := [], k := [], sv := false, cycles := 0, cyclesHi := 0, resv := none, branch := none, rep := none, gOld := []
    accOld := [], kOld := [], stores := [], imemOld := [], wait := none, haltDue := false, dbg := 0, stepOver := false, ran := false
    warned := false, posts := [] }

/-- A running hoist channel (16 R423): gallery address, crib offset, length, STOW, the member to notify. -/
structure Hoist where
  gaddr : Nat
  caddr : Nat
  len : Nat
  stow : Bool
  notify : Option Nat
  deriving DecidableEq, Repr

/-- The engines, crews and their memories' error state. The bytes themselves lie in `mem`. -/
structure Tram where
  engines : List (Nat × Engine)
  /-- running hoist channels by crew × 4 + channel -/
  hoists : List (Nat × Hoist)
  /-- words of cribs and engine memories by gallery address / 8 (16 R419): 1 a single-bit error not yet written back,
  2 the poison bit, 3 uncorrectable -/
  errs : List (Nat × Nat)
  /-- the last engine-side store of each memory: gallery address / 8, lanes, the word before, the word after (16 R418) -/
  lastStore : List (Nat × Nat × Nat × Nat)
  /-- engines to which the Cage owes notices after their ENGINE reset (16 R426) -/
  resend : List Nat
  /-- engines whose watchdog reset waits for another ENGINE reset (16 R432) -/
  wdogWait : List Nat
  deriving DecidableEq, Repr

/-- No engine has run. -/
def Tram.cold : Tram := { engines := [], hoists := [], errs := [], lastStore := [], resend := [], wdogWait := [] }

/-! ### 18 Foreman, 19 Shift clock -/

/-- The start record (18 R471, R472). -/
structure StartRecord where
  /-- `FM_START_REC` of the start that wrote it -/
  rec_ : Nat
  /-- the primary's failed mark, with the `DIGEST` of the image that failed -/
  primary : Option Nat
  /-- failed channels, with the serial numbers of their DIMMs -/
  failed : List (Nat × List Nat)
  /-- stored training sets: channel, serial numbers, rate -/
  trained : List (Nat × List Nat × Nat)
  /-- failed ports and crews, one bit each -/
  ports : Nat
  crews : Nat
  deriving DecidableEq, Repr

/-- An empty record: no step is skipped. -/
def StartRecord.empty : StartRecord := { rec_ := 0, primary := none, failed := [], trained := [], ports := 0, crews := 0 }

/-- A log entry (18 R476). -/
structure LogRec where
  time : Nat
  tally : Nat
  seq : Nat
  sev : Nat
  src : Nat
  code : Nat
  arg : Nat
  deriving DecidableEq, Repr

/-- A valid copy of the start record, with its sequence number (18 R472). -/
structure RecordCopy where
  seq : Nat
  record : StartRecord
  deriving DecidableEq, Repr

/-- The flash device, as far as the part writes it (18 R463): the two copies of the start record (none where a copy is not valid), the row
tables, the log mirror. -/
structure Flash where
  copyA : Option RecordCopy
  copyB : Option RecordCopy
  rows : List FlashRow
  log : List LogRec
  deriving DecidableEq, Repr

/-- A flash without a record (log entry 31). -/
def Flash.blank : Flash := { copyA := none, copyB := none, rows := [], log := [] }

/-- Copy B is the one in force: the valid copy with the higher sequence number (18 R472). -/
def Flash.inB (f : Flash) : Bool :=
  match f.copyA, f.copyB with
  | some a, some b => decide (a.seq < b.seq)
  | none, some _ => true
  | _, none => false

/-- The copy in force. -/
def Flash.current (f : Flash) : Option RecordCopy := if f.inB then f.copyB else f.copyA

/-- The record that a start reads: empty where neither copy is valid (18 R472). -/
def Flash.record (f : Flash) : StartRecord := (f.current.map (·.record)).getD .empty

/-- The copy that is not in force is rewritten: with a record and the next sequence number, or, where the write fails, to nothing valid. -/
def Flash.writeOther (f : Flash) (r : Option StartRecord) : Flash :=
  let c := r.map (fun x => (⟨((f.current.map (·.seq)).getD 0 + 1) % 2 ^ 32, x⟩ : RecordCopy))
  if f.inB || f.copyA.isNone then { f with copyA := c } else { f with copyB := c }

/-- A mailbox command in progress (18 R479): operation, payload words, tag; its result and response once carried out. -/
structure Mailbox where
  op : Nat
  len : Nat
  tag : Nat
  done : Option (Nat × List Nat)
  deriving DecidableEq, Repr

/-- The Foreman behind the FM_ registers. -/
structure Foreman where
  /-- the record as read at this start, with what this start has added to it -/
  record : StartRecord
  /-- start steps that have ended, one bit each (18 R465) -/
  ended : Nat
  /-- the load deadline timer has been started (06 R175) -/
  timed : Bool
  /-- versions of the images authenticated at this start, and the `SVN` in force (18 R480) -/
  primaryVer : Nat
  goldenVer : Nat
  svn : Nat
  mailbox : Option Mailbox
  /-- limits that a sensor stands at or beyond: kind (0 TWARN, 1 TCRIT, 2 voltage, 3 current) and sensor (18 R475) -/
  beyond : List (Nat × Nat)
  /-- reads in a row that a current monitor did not acknowledge (18 R474) -/
  nacks : List (Nat × Nat)
  /-- the on-chip log ring, oldest first (18 R478) -/
  log : List LogRec
  /-- the completed loads as logged, oldest first: `STREAM_ID`, `BUILD`, set (06 R168) -/
  loads : List (Nat × Nat × Nat)
  deriving DecidableEq, Repr

/-- The Foreman before its first start. -/
def Foreman.cold : Foreman :=
  { record := .empty, ended := 0, timed := false, primaryVer := 0, goldenVer := 0, svn := 0, mailbox := none, beyond := [], nacks := []
    log := [], loads := [] }

/-- The Shift clock behind the SC_ registers (19). -/
structure Shift where
  /-- the 48 fraction bits of `EPOCH_TIME` (R492) -/
  epochFrac : Nat
  /-- bits [63:32] latched by the last low-half read of `SC_COUNT` and of `SC_TIME` (R495) -/
  countHi : Nat
  timeHi : Nat
  /-- measurements in a row within `LOCK_NS`, and above it (R496) -/
  within : Nat
  above : Nat
  /-- T, in whole ns, of the edge before the epoch's edge, under the epoch before it (R502) -/
  before : Nat
  /-- TIME_OUT levels, one bit each (R502) -/
  out : Nat
  /-- sequence number of the next TIME message (R497) -/
  mseq : Nat
  deriving DecidableEq, Repr

/-- The Shift clock at COLD. -/
def Shift.cold : Shift := { epochFrac := 0, countHi := 0, timeHi := 0, within := 0, above := 0, before := 0, out := 0, mseq := 0 }

/-! ### 20 Lamp port and trace -/

/-- A trace packet (20 R519): STIM with engine, port, width code, time and data; SYNC with tally and time; LOST with engine,
time and count; the IDLE unit. -/
inductive TracePkt where
  | stim (engine port width time data : Nat)
  | sync (tally time : Nat)
  | lost (engine time drops : Nat)
  | idle
  deriving DecidableEq, Repr

/-- The trace path behind `LP_TRACE_CTRL` (20 R521 to R523). -/
structure Trace where
  /-- STIM packets waiting by engine, oldest first -/
  fifos : List (Nat × List TracePkt)
  /-- packets dropped since the engine's last LOST or STIM packet that left -/
  lost : List (Nat × Nat)
  /-- the engine the funnel served last -/
  rr : Nat
  /-- packets in the trace buffer, oldest first; their number is `BUF_FILL` -/
  buffer : List TracePkt
  /-- a SYNC is due with the next packet (R520) -/
  syncDue : Bool
  /-- the ring line in the making -/
  line : List TracePkt
  deriving DecidableEq, Repr

/-- The trace path at COLD. -/
def Trace.cold : Trace := { fifos := [], lost := [], rr := 63, buffer := [], syncDue := false, line := [] }

/-- The Lamp port behind `LP_STATUS` (20 R509, R516). -/
structure Lamp where
  /-- `ACK` and `RDATA` of the last transaction that issued an access -/
  ack : Nat
  rdata : Nat
  /-- the level that the pending challenge is for -/
  want : Nat
  /-- the response registers, which read 0 -/
  resp : List Nat
  deriving DecidableEq, Repr

/-- The Lamp port at COLD: REPEAT answers OK with 0 (R509). -/
def Lamp.cold : Lamp := { ack := 0, rdata := 0, want := 0, resp := [0, 0] }

/-! ### 21 Pins -/

/-- A user pin's I/O tile and pad (21 R526 to R528). -/
structure Pin where
  /-- O and T as captured at the end of slot F − 1 -/
  o : Bool
  t : Bool
  /-- O and T in force at the pad -/
  padO : Bool
  padT : Bool
  /-- the input register -/
  input : Bool
  /-- the pin is under fabric control -/
  fabric : Bool
  deriving DecidableEq, Repr

/-- A pin after COLD: output off (21 R528). -/
def Pin.cold : Pin := ⟨false, false, false, false, false, false⟩

/-! ### The whole part -/

/-- An event on its way to the Foreman's log (18 R476, R477). -/
structure LogEvent where
  src : Nat
  code : Nat
  sev : Nat
  arg : Nat
  tally : Nat
  deriving DecidableEq, Repr

/-- The state of the part. `regs` holds every register field that differs from its cold value. -/
structure State where
  regs : List (Key × Nat)
  /-- bytes of the data windows of 01 R30 by gallery address: DRAM, Cage buffer, cribs, engine memories -/
  mem : List Host.Cell
  /-- bin and sump units by memory, stope and unit (05 R120) -/
  fabMem : List (Key × Nat)
  /-- the check state of those units: 0 clean, b + 1 a single-bit error at bit b, 100 uncorrectable (05 R129, R130) -/
  fabErr : List (Key × Nat)
  clk : Clocks
  stopes : List (Nat × Stope)
  msix : Msix
  winder : Winder
  /-- lanes by port × 8 + lane -/
  lanes : List (Nat × Lane)
  /-- sub-port roles by port × 2 + half (10 R283) -/
  xp : List (Nat × XpSub)
  sampler : Sampler
  dram : Dram
  crypto : Crypto
  /-- scrubbers by SB_ instance -/
  scrubs : List (Nat × Scrub)
  /-- user pins by bank × 48 + pin -/
  pins : List (Nat × Pin)
  loader : Loader
  /-- configuration frames as loaded, by stope, frame and word (04 R101, 06 R160) -/
  frames : List (Key × Nat)
  /-- bits of the stored frame words that differ from those, check bits above bit 63 (07 R191) -/
  frameErr : List (Key × Nat)
  bell : Bell
  cage : Cage
  gallery : Gallery
  tram : Tram
  /-- what the flash keeps; it survives COLD (18 R463, R472; log entry 31) -/
  flash : Flash
  fm : Foreman
  shift : Shift
  trace : Trace
  lamp : Lamp
  /-- events raised and not yet written by LOG_ENTRY (18 R478) -/
  events : List LogEvent
  /-- what the part has driven outwards, newest last (MODEL'S OWN, log entry 7) -/
  sent : List Emission
  /-- free values drawn so far (MODEL'S OWN, log entry 3) -/
  freeCount : Nat
  /-- the commands waiting, first in first out (MODEL'S OWN) -/
  pending : List Instr
  deriving DecidableEq, Repr

/-- Why a step can stop with a fault. -/
inductive Fault where
  /-- raised by a meaning whose command names a unit the part does not have (a stope above 639, an engine above 63,
  a port, bank, queue, channel or register number outside the spec's range). Safe: no such command exists. -/
  | noSuchUnit
  deriving DecidableEq, Repr

/-- Why a step can refuse a command. -/
inductive Refusal where
  /-- a command without a meaning yet, by its mnemonic. Safe: the model stops. -/
  | notModelled (mnemonic : String)
  deriving DecidableEq, Repr

/-- The part right after COLD (00 R12, R13; 02 R41, R42, R59): every register at its cold value, every memory
reading zero, nothing configured, the supervisor measuring its first REFCLK window, no command waiting. -/
def State.reset : State :=
  { regs := [], mem := [], fabMem := [], fabErr := [], clk := .cold, stopes := []
    msix := .cold, winder := .cold, lanes := [], xp := [], sampler := .cold, dram := .cold, crypto := .cold, scrubs := [], pins := [], loader := .cold, bell := ⟨false⟩, frames := [], frameErr := [], cage := .cold, gallery := .cold, tram := .cold, flash := .blank, fm := .cold, shift := .cold, trace := .cold, lamp := .cold
    events := [], sent := [], freeCount := 0, pending := [] }

end Sys2Proof.Machine
end

