-- ==== Sys2Proof/Machine/Ops.lean ====
section
/-! DEFINITION. The operations every meaning is built of: reading and writing register fields, status vectors,
stopes, saturating counts, log events, interrupts, free values. -/

namespace Sys2Proof.Machine

/-- The outcome of a meaning. -/
abbrev Res := Host.Outcome State Fault Refusal

/-- The next state, where the unit the command names exists. -/
def need (ok : Bool) (t : State) : Res := if ok then .next t else .fault .noSuchUnit

/-! ### Register fields -/

/-- The value of a field of unit `u` at index `j`. -/
def State.rd (s : State) (f : Fld) (u : Nat := 0) (j : Nat := 0) : Nat :=
  Tab.get (f.coldAt u j) s.regs ⟨f.id, u, j⟩

/-- A field set to `v`, cut to the field's width. -/
def State.wr (s : State) (f : Fld) (v : Nat) (u : Nat := 0) (j : Nat := 0) : State :=
  { s with regs := Tab.set Key.lt (f.coldAt u j) s.regs ⟨f.id, u, j⟩ (v % 2 ^ f.wid) }

/-- A field reads other than 0. -/
def State.on (s : State) (f : Fld) (u : Nat := 0) (j : Nat := 0) : Bool := decide (s.rd f u j ≠ 0)

/-- A field set to 1 or 0. -/
def State.put (s : State) (f : Fld) (b : Bool) (u : Nat := 0) (j : Nat := 0) : State := s.wr f (b2n b) u j

/-- A counter raised by `n`, stopping at its largest value. -/
def State.count (s : State) (f : Fld) (n : Nat := 1) (u : Nat := 0) (j : Nat := 0) : State :=
  s.wr f (satAdd f.wid (s.rd f u j) n) u j

/-- A counter raised by `n`, wrapping. -/
def State.countWrap (s : State) (f : Fld) (n : Nat := 1) (u : Nat := 0) (j : Nat := 0) : State :=
  s.wr f (s.rd f u j + n) u j

/-- Bit `b` of a field. -/
def State.bit (s : State) (f : Fld) (b : Nat) (u : Nat := 0) (j : Nat := 0) : Bool := (s.rd f u j).testBit b

/-- Bit `b` of a field set or cleared. -/
def State.putBit (s : State) (f : Fld) (b : Nat) (v : Bool) (u : Nat := 0) (j : Nat := 0) : State :=
  s.wr f (Sys2Proof.putBit (s.rd f u j) b v) u j

/-- Bit `n` of a vector held in 64-bit registers. -/
def State.vec (s : State) (f : Fld) (n : Nat) (u : Nat := 0) : Bool := s.bit f (n % 64) u (n / 64)

/-- Bit `n` of a vector held in 64-bit registers set or cleared. -/
def State.putVec (s : State) (f : Fld) (n : Nat) (v : Bool) (u : Nat := 0) : State := s.putBit f (n % 64) v u (n / 64)

/-- The field of half A or of half B. -/
def ab (h : Nat) (a b : Fld) : Fld := if h = 0 then a else b

/-- A register as a number, from its fields. -/
def State.raw (s : State) (fs : List Fld) (u : Nat := 0) (j : Nat := 0) : Nat :=
  fs.foldl (fun a f => a + s.rd f u j * 2 ^ f.lsb) 0

/-- The fields of a register take their bits of a written value. -/
def State.setFields (s : State) (fs : List Fld) (v : Nat) (u : Nat := 0) (j : Nat := 0) : State :=
  fs.foldl (fun s f => s.wr f (bitsOf v f.lsb f.wid) u j) s

/-- Several fields of one register written. -/
def State.setRaw (s : State) (fvs : List (Fld × Nat)) (u : Nat := 0) (j : Nat := 0) : State :=
  fvs.foldl (fun s fv => s.wr fv.1 fv.2 u j) s

/-- A write of `v` to the fields would change one of them. -/
def State.fieldsDiffer (s : State) (fs : List Fld) (v : Nat) (u : Nat := 0) (j : Nat := 0) : Bool :=
  fs.any (fun f => decide (s.rd f u j ≠ bitsOf v f.lsb f.wid))

/-! ### Free values, output, log, interrupts -/

/-- The next free value below 2^w. -/
def State.draw (s : State) (w : Nat) : Nat := Config.freeValue s.freeCount % 2 ^ w

/-- One free value is used up. -/
def State.drawn (s : State) : State := { s with freeCount := s.freeCount + 1 }

/-- What the part drives outwards. -/
def State.emit (s : State) (e : Emission) : State := { s with sent := s.sent ++ [e] }

/-- An event for the Foreman's log (18 R477): source block, code, severity, argument. -/
def State.post (s : State) (src code sev arg : Nat) : State :=
  { s with events := s.events ++ [{ src := src, code := code, sev := sev, arg := arg, tally := s.rd WD_TALLY.TALLY }] }

/-- A message can go to the host: the link is up and the host has set Bus Master Enable (12 R319, R342; log entry 24). -/
def State.hostReach (s : State) : Bool := s.on CG_LINK.UP && s.on CG_BASE.BME && !s.on EN_STATUS.HALTED

/-- A message request on an MSI-X vector (12 R335): masked, it sets the pending bit; within the gap it is merged;
otherwise the message goes out and the gap starts. A halted part sends none (R320). -/
def State.requestVector (s : State) (v : Nat) : State :=
  if s.on EN_STATUS.HALTED then s
  else if !s.hostReach || !s.msix.enable || s.msix.functionMask || !(Tab.get false s.msix.unmasked v) then
    { s with msix := { s.msix with pending := Tab.set natLt false s.msix.pending v true } }
  else if Tab.get false s.msix.inGap v then
    { s with msix := { s.msix with merged := Tab.set natLt false s.msix.merged v true } }
  else
    { s.emit (.msix v) with
      msix := { s.msix with inGap := Tab.set natLt false s.msix.inGap v (decide (s.rd CG_MSIX_GAP.GAP ≠ 0)) } }

/-- Pending messages whose vectors are no longer masked go out (12 R335). -/
def State.flushPending (s : State) : State :=
  if s.hostReach && s.msix.enable && !s.msix.functionMask then
    (s.msix.pending.filter (fun p => Tab.get false s.msix.unmasked p.1)).foldl (fun t p =>
      ({ t with msix := { t.msix with pending := Tab.erase t.msix.pending p.1 } }).requestVector p.1) s
  else s

/-- An interrupt source bit sets: where it was clear and is enabled, one request goes to the vector (08 R233). -/
def State.raise (s : State) (status en vector : Fld) (b : Nat) : State :=
  if s.bit status b then s
  else
    let t := s.putBit status b true
    if s.bit en b then t.requestVector (s.rd vector) else t

/-- A target ends an access (13 R357, R359): a response with a status, or nothing for a posted write, whose failure
the Foreman logs. -/
def State.respond (s : State) (target src tag status data : Nat) (poison posted : Bool) : State :=
  if posted then (if status = 0 then s else s.post 9 0x0090 2 status)
  else s.emit (.response target src tag status data poison)

/-- The part is halted (15 R405). -/
def State.halted (s : State) : Bool := s.on EN_STATUS.HALTED

/-- The ROOT-derived domains are out of reset: ROOT is aligned and no WARM holds them (02 R49, R51, R58). -/
def State.rootRuns (s : State) : Bool := decide (s.clk.stage = .running) && !s.clk.warmHold

/-- Ready bit `b` of the Foreman (01 R27). -/
def State.ready (s : State) (b : Nat) : Bool := s.bit FM_READY.READY b

/-- A ready bit changes, and with it the `READY` source of the Foreman (18 R467, R468). -/
def State.setReady (s : State) (b : Nat) (v : Bool) : State :=
  if s.ready b = v then s
  else (s.putBit FM_READY.READY b v).raise FM_IRQ_STATUS.SRC FM_IRQ_EN.EN FM_IRQ_EN.VECTOR 5

/-- The Foreman changed. -/
def State.fo (s : State) (g : Foreman → Foreman) : State := { s with fm := g s.fm }

/-- The record as this start has it, changed. -/
def State.onRecord (s : State) (g : StartRecord → StartRecord) : State := s.fo (fun f => { f with record := g f.record })

/-- Start step `i` has ended. -/
def State.stepEnded (s : State) (i : Nat) : Bool := s.fm.ended.testBit i

/-- A start step ends (18 R465, R469, R470): 0 NOT_RUN, 1 PASS, 2 FAIL, 3 ALT. A failed one is logged (R477). -/
def State.recordStep (s : State) (i code : Nat) : State :=
  let t := s.wr FM_START_REC.REC (clearMask (s.rd FM_START_REC.REC) (3 * 4 ^ i) + code * 4 ^ i)
  let t := t.fo (fun f => { f with ended := setBit f.ended i })
  if code = 2 then t.post 0 0x0003 2 (i + 256 * code) else t

/-! ### Memory bytes by gallery address -/

/-- The byte at a gallery address of a data window; a byte never written reads 0 (02 R59, 14 R385; log entry 4 for the
Cage buffer). -/
def State.byte (s : State) (a : Nat) : BitVec 8 := Tab.get 0 s.mem a

/-- A byte written. -/
def State.putByte (s : State) (a : Nat) (b : BitVec 8) : State := { s with mem := Tab.set natLt 0 s.mem a b }

/-- `n` bytes from an address as a little-endian number. -/
def State.load (s : State) (a n : Nat) : Nat :=
  (List.range n).foldl (fun v i => v + (s.byte (a + i)).toNat * 2 ^ (8 * i)) 0

/-- `n` bytes of a number stored from an address, little-endian. -/
def State.store (s : State) (a n v : Nat) : State :=
  (List.range n).foldl (fun s i => s.putByte (a + i) (BitVec.ofNat 8 (bitsOf v (8 * i) 8))) s

/-- `n` bytes from an address. -/
def State.loadBytes (s : State) (a n : Nat) : List Nat := (List.range n).map (fun i => (s.byte (a + i)).toNat)

/-- A run of bytes stored from an address. -/
def State.storeBytes (s : State) (a : Nat) : List Nat → State
  | [] => s
  | b :: r => State.storeBytes (s.putByte a (BitVec.ofNat 8 b)) (a + 1) r

/-- Bytes stored where the byte enables allow. -/
def State.storeMasked (s : State) (a : Nat) (data : List Nat) (be : Nat) : State :=
  (List.range data.length).foldl (fun s i =>
    if be.testBit i then s.putByte (a + i) (BitVec.ofNat 8 (data.getD i 0)) else s) s

/-- Symbols that the page code corrects at the level in force (14 R376). -/
def State.pageT (s : State) : Nat := [4, 8, 11, 15].getD (s.rd PC_CTRL.LEVEL) 15

/-- An owning block's read of its device region meets a poisoned or uncorrectable page (14 R380, R381). -/
def State.agentBad (s : State) (a n : Nat) : Bool :=
  s.dram.pages.any (fun p => decide (a / 128 ≤ p.1) && decide (p.1 ≤ (a + n - 1) / 128) && (p.2.poison || decide (s.pageT < p.2.errs.length)))

/-- The `n` bytes of a number, least significant first. -/
def bytesOf (n v : Nat) : List Nat := (List.range n).map (fun i => bitsOf v (8 * i) 8)

/-- Bytes as a number, least significant first. -/
def leNat (l : List Nat) : Nat := l.foldr (fun b v => b % 256 + 256 * v) 0

/-- A 256-bit key by the counter-mode KDF from a key, a label and a context (06 R155; 15 R391, 20 R516). -/
def kdf256 (key : Nat) (label ctx : List Nat) : Nat :=
  let tail := label ++ [0] ++ ctx ++ [1, 0]
  Config.cmac key (1 :: tail) % 2 ^ 128 * 2 ^ 128 + Config.cmac key (2 :: tail) % 2 ^ 128

/-- The 8 bytes of a word. -/
def wordBytes (w : Nat) : List Nat := (List.range 8).map (fun i => bitsOf w (8 * i) 8)

/-- Bits set in a number of `w` bits. -/
def popcount (w v : Nat) : Nat := ((List.range w).filter v.testBit).length

/-! ### Stopes -/

/-- The hidden state of a stope. -/
def State.stope (s : State) (n : Nat) : Stope := Tab.get .cold s.stopes n

/-- The hidden state of a stope replaced. -/
def State.setStope (s : State) (n : Nat) (x : Stope) : State := { s with stopes := Tab.set natLt .cold s.stopes n x }

/-- The hidden state of a stope changed. -/
def State.updStope (s : State) (n : Nat) (g : Stope → Stope) : State := s.setStope n (g (s.stope n))

/-- The stope is powered (02 R61). -/
def State.powered (s : State) (n : Nat) : Bool := s.vec CK_STOPE_PWR_STAT.ON_STAT n

/-- A STOPE reset of this stope runs (02 R57). -/
def State.inReset (s : State) (n : Nat) : Bool :=
  match s.clk.stopeReset with
  | some (m, _) => decide (m = n)
  | none => false

/-- The stope is configured and its frame shadow is valid (06 R177). -/
def State.configured (s : State) (n : Nat) : Bool := s.vec CF_CONFIGURED.CONF n

/-- The stope is partly loaded (06 R177). -/
def State.loading (s : State) (n : Nat) : Bool := s.vec CF_LOADING.LOADING n

/-- The isolation bit (07 R187). -/
def State.isolated (s : State) (n : Nat) : Bool := s.on ST_STATUS.ISOLATED n

/-- The state code of a stope (07 R179): where several apply, the first of the rule's table. -/
def State.stopeState (s : State) (n : Nat) : Nat :=
  if !s.powered n then 5
  else if s.inReset n then 4
  else if s.loading n then 1
  else if (s.stope n).refill.isSome then 6
  else if !s.configured n then 0
  else if s.isolated n then 2 else 3

/-- The stope is in use (07 R180). -/
def State.inUse (s : State) (n : Nat) : Bool := decide (s.stopeState n = 3)

/-- The stopes in use (07 R180). -/
def State.usedStopes (s : State) : List Nat := (List.range 640).filter s.inUse

/-- The hidden state of every stope of a list changed. -/
def State.forStopes (s : State) (l : List Nat) (g : State → Nat → State) : State := l.foldl g s

/-- The Winder is stopped (08 R208): UNLOADED or STOPPED, and no command in progress. -/
def State.winderStopped (s : State) : Bool :=
  decide (s.rd WD_STATUS.STATE ≤ 1) && !s.on WD_CMD_STATUS.BUSY

/-- The clock of unit `u` of gating class `c` runs again (02 R52), and the class's status bit follows (02 R53). -/
def State.ungate (s : State) (c u : Nat) : State :=
  let g := s.clk.gated.filter (fun p => decide (p ≠ (c, u)))
  { s.putBit CK_GATE_STATUS.GATED c (g.any (fun p => decide (p.1 = c))) with clk := { s.clk with gated := g } }

/-- One phase-clock period has passed: no STEP pulse runs any more (04 R109). -/
def State.endPulses (s : State) : State := { s with clk := { s.clk with pulses := [] } }

end Sys2Proof.Machine
end

