-- ==== Sys2Proof/Machine/FabricEval.lean ====
section
/-! DEFINITION. What the cells, the crossbars and the routing of a stope compute in one slot (03, 04). -/

namespace Sys2Proof.Machine

/-- A value of the combinational network of one context: what O0 or O1 drives, a LUT or carry output, a crossbar
output, a source, or the driver of a sink. -/
inductive Node where
  | out (cell o : Nat)
  /-- 0 `FULL`, 1 `HALF0`, 2 `HALF1`, 3 SUM, 4 COUT -/
  | lut (cell kind : Nat)
  /-- carry input of a cell -/
  | cin (cell : Nat)
  | xbar (cluster output : Nat)
  | src (s : Src)
  | sink (s : Sink)
  deriving DecidableEq, Repr

/-! ### Wires and routing muxes (04 R93, R94, R96, R101)

A cluster's tile has the cluster's number, row × 64 + column; directions are 0 north, 1 east, 2 south, 3 west. Wire `w` starts at tile
`w / 128` in direction `w / 32 % 4`, as number `w % 32` of that tile and direction. -/

/-- Short and long wires of a stope. -/
def wireCount : Nat := 4096 * 4 * 32

/-- The span of wire number `i` of a tile and direction (R93): 8 short wires each of 1, 2 and 4 clusters, 4 long wires each of 8 and 16. -/
def wireSpan (i : Nat) : Nat := if i < 8 then 1 else if i < 16 then 2 else if i < 24 then 4 else if i < 28 then 8 else 16

/-- The wire is of the long class (R93). -/
def longWire (w : Nat) : Bool := decide (24 ≤ w % 32)

/-- The tile in which a wire ends: one that would run past the stope's edge ends in the edge tile (R93). -/
def wireEnd (w : Nat) : Nat :=
  let r := w / 128 / 64
  let c := w / 128 % 64
  let n := wireSpan (w % 32)
  match w / 32 % 4 with
  | 0 => min 63 (r + n) * 64 + c
  | 1 => r * 64 + min 63 (c + n)
  | 2 => (r - n) * 64 + c
  | _ => r * 64 + (c - n)

/-- The edge tile number `t` along a side, from which boundary wires start and in which they end (R93). -/
def edgeTile (side t : Nat) : Nat :=
  if side = 0 then 63 * 64 + t else if side = 1 then t * 64 + 63 else if side = 2 then t else t * 64

/-- Tie wires that a stope holds in each direction (R96). -/
def tieWires (n : Nat) : Nat :=
  let seam := n / 160
  let r := n % 160 / 10
  let c := n % 160 % 10
  if (c = 9 ∧ seam % 2 = 0) ∨ (c = 0 ∧ seam % 2 = 1) then 1024
  else if r = 0 ∧ 1 ≤ c ∧ c ≤ 8 then 2048 else 0

/-- The tile of a mux, where it lies in one. -/
def Sink.tile : Sink → Option Nat
  | .routingInput c _ => some c
  | .wire w => some (w / 128)
  | .boundary d t _ => some (edgeTile d t)
  | _ => none

/-- The source lies at the tile: an output of one of its cells, the end of a wire, a boundary register of its edge (R93, R101). -/
def Src.atTile (tile : Nat) : Src → Bool
  | .cellOut c o => decide (c / 16 = tile ∧ o < 2)
  | .wire w => decide (w < wireCount ∧ wireEnd w = tile)
  | .boundary d t n => decide (d < 4 ∧ t < 64 ∧ n < 16 ∧ edgeTile d t = tile)
  | _ => true

/-- The number of defined selects of a mux, from 0 up (R101). The table has no row for the inputs of ports, taps, pins and stope ports:
none of their selects is undefined. -/
def Sink.selects : Sink → Option Nat
  | .wire w => some (if longWire w then 20 else 24)
  | .boundary .. => some 16
  | .tie _ => some 24
  | .routingInput .. => some 40
  | _ => none

/-- The select names a source (R101). -/
def Sink.defined (k : Sink) (sel : Nat) : Bool := match k.selects with | some n => decide (sel < n) | none => true

/-- The stope has this mux (R93, R96, R101; 05 R120, R143; 10 R262; 08 R214). -/
def Sink.inStope (n : Nat) : Sink → Bool
  | .routingInput c i => decide (c < 4096 ∧ i < 48)
  | .wire w => decide (w < wireCount)
  | .boundary d t i => decide (d < 4 ∧ t < 64 ∧ i < 16)
  | .tie i => decide (i < tieWires n)
  | .port p i => decide (p < 66 ∧ i < 154)
  | .tap i => decide (i < 1024)
  | .trigger j => decide (j < 16)
  | .pinO _ => true
  | .pinT _ => true
  | .stopePort b => decide (b < 1024)

/-- What a mux drives: constant 0 for select 0 (R101) and, after an upset, for an undefined one (R104); else the source that the device
database names, which lies at the mux's tile. -/
def muxSrc (k : Sink) (sel : Nat) : Src :=
  if sel = 0 ∨ k.defined sel = false then .zero
  else
    let r := Config.muxSource k sel
    match k.tile with
    | some t => if r.atTile t then r else .zero
    | none => r

/-- A number for each source, to tell the free values of a loop apart. -/
def Src.code : Src → Nat × Nat × Nat
  | .zero => (20, 0, 0) | .one => (21, 0, 0) | .cellOut c o => (22, c, o) | .wire w => (23, w, 0)
  | .boundary d t n => (24, d, t * 16 + n) | .tie n => (25, n, 0) | .recv p => (26, p, 0) | .portOut p b => (27, p, b)
  | .qrdy p => (28, p, 0) | .flag i n => (29, i, n) | .stopePort b => (30, b, 0) | .pin n => (31, n, 0)

/-- A number for each node. -/
def Node.code : Node → Nat × Nat × Nat
  | .out c o => (0, c, o) | .lut c k => (1, c, k) | .cin c => (2, c, 0) | .xbar c o => (3, c, o)
  | .src r => r.code | .sink k => (4 + k.key.id, k.key.unit, k.key.idx)

/-- What an evaluation reads: the stope, its number, the context and the pipeline registers it sees. -/
structure EvalEnv where
  st : Stope
  ctx : Nat
  regs : List (Key × Bool)
  /-- the count of free values drawn, for a value of a combinational loop (03 R79) -/
  draw : Nat
  /-- input registers of the user pins of the seam -/
  pins : List (Nat × Bool)

/-- The context's configuration of a cell (03 R64). -/
def StopeCfg.cell (c : StopeCfg) (n ctx : Nat) : CellCtx := Tab.get .none c.cells ⟨0, n, ctx⟩

/-- The fields of a state bit (03 R71). -/
def StopeCfg.stateBit (c : StopeCfg) (n b : Nat) : StateBit := Tab.get .off c.bits ⟨0, n, b⟩

/-- A crossbar select (03 R77); unconfigured crossbars select source 0. -/
def StopeCfg.sel (c : StopeCfg) (cluster ctx o : Nat) : Nat := Tab.get 0 c.xbar ⟨ctx, cluster, o⟩

/-- The driver of a sink: constant 0 where the select is 0 or undefined (04 R101, R104). -/
def StopeCfg.driver (c : StopeCfg) (k : Sink) : Src := muxSrc k (Tab.get 0 c.drive k.key)

/-- The configuration of a port (05 R123). -/
def StopeCfg.port (c : StopeCfg) (p : Nat) : PortCfg := Tab.get .none c.ports p

/-- `OTAG` of a port in a context (05 R125). -/
def PortCfg.otag (p : PortCfg) (ctx : Nat) : Nat :=
  if ctx = 0 then p.otag0 else if ctx = 1 then p.otag1 else if ctx = 2 then p.otag2 else p.otag3

/-- The carry role (03 R67): in 6-input mode the carry is OFF. DESIGN CHOICE (log entry 90): a reserved role, as an upset can leave it,
has CIN = 0 and is not OFF. -/
def CellCtx.role (c : CellCtx) : Nat := if c.lmode = 0 then 0 else c.carry

/-- The value of state bit `b` of a cell: an OFF bit reads 0 (03 R71). -/
def Stope.stateQ (s : Stope) (cell b : Nat) : Bool :=
  if (s.cfg.stateBit cell b).mode = 0 then false else Tab.get false s.q (cell * 8 + b)

/-- The index into the truth table from six input values (03 R65). -/
def lutIndex (l1 l2 l3 l4 l5 l6 : Bool) : Nat :=
  b2n l6 * 32 + b2n l5 * 16 + b2n l4 * 8 + b2n l3 * 4 + b2n l2 * 2 + b2n l1

/-- `FULL` (03 R65): 0 in fractured mode. -/
def lutFull (c : CellCtx) (i : Nat) : Bool := if c.lmode = 0 then c.lut.testBit i else false

/-- `HALF0`: bits 0 to 31, indexed by L1 to L5 (03 R65). -/
def lutHalf0 (c : CellCtx) (i : Nat) : Bool := c.lut.testBit (i % 32)

/-- `HALF1`: bits 32 to 63, indexed by L1 to L5 (03 R65). -/
def lutHalf1 (c : CellCtx) (i : Nat) : Bool := c.lut.testBit (32 + i % 32)

/-- COUT = P ? CIN : G; 0 where the carry is OFF (03 R66). -/
def carryOut (role : Nat) (p g cin : Bool) : Bool := if role = 0 then false else if p then cin else g

/-- SUM = P XOR CIN (03 R66). -/
def carrySum (p cin : Bool) : Bool := p != cin

/-- The value of a node with `fuel` levels left. An acyclic network never runs out; a combinational loop always
does, and the values on it are free (03 R79). -/
def evalNode (e : EvalEnv) : Nat → Node → Bool
  | 0, n => Config.loopBit e.draw n.code
  | fuel + 1, .out cell o =>
    let c := e.st.cfg.cell cell e.ctx
    let sel := if o = 0 then c.osel0 else c.osel1
    if sel ≤ 4 then evalNode e fuel (.lut cell sel)
    else if 8 ≤ sel ∧ sel < 16 then e.st.stateQ cell (sel - 8) else false
  | fuel + 1, .lut cell kind =>
    let c := e.st.cfg.cell cell e.ctx
    let inp := fun i => evalNode e fuel (.xbar (cell / 16) ((cell % 16) * 7 + i))
    let i := lutIndex (inp 0) (inp 1) (inp 2) (inp 3) (inp 4) (if c.lmode = 0 then inp 5 else false)
    if kind = 0 then lutFull c i
    else if kind = 1 then lutHalf0 c i
    else if kind = 2 then lutHalf1 c i
    else
      let cin := evalNode e fuel (.cin cell)
      if kind = 3 then carrySum (lutHalf0 c i) cin
      else carryOut c.role (lutHalf0 c i) (lutHalf1 c i) cin
  | fuel + 1, .cin cell =>
    let role := (e.st.cfg.cell cell e.ctx).role
    if role = 1 then
      -- cell 15 of a cluster chains to cell 0 of the cluster one row higher in the same column (R67)
      if cell % 16 ≠ 0 then evalNode e fuel (.lut (cell - 1) 4)
      else if 64 ≤ cell / 16 then evalNode e fuel (.lut ((cell / 16 - 64) * 16 + 15) 4) else false
    else if role = 3 then true
    else if role = 4 then evalNode e fuel (.xbar (cell / 16) ((cell % 16) * 7 + 6))
    else false
  | fuel + 1, .xbar cluster o =>
    let sel := e.st.cfg.sel cluster e.ctx o
    if sel < 32 then evalNode e fuel (.out (cluster * 16 + sel / 2) (sel % 2))
    else if sel < 80 then evalNode e fuel (.sink (.routingInput cluster (sel - 32)))
    else decide (sel = 81)
  | fuel + 1, .sink k => evalNode e fuel (.src (e.st.cfg.driver k))
  | fuel + 1, .src r =>
    match r with
    | .zero => false
    | .one => true
    | .cellOut cell o => evalNode e fuel (.out cell o)
    | .wire w =>
      if Tab.get false e.st.cfg.preg w then Tab.get false e.regs (Sink.wire w).key
      else evalNode e fuel (.sink (.wire w))
    | .boundary d t n => Tab.get false e.regs (Sink.boundary d t n).key
    | .tie n => Tab.get false e.regs ⟨10, 0, n⟩
    | .recv p => Tab.get false e.st.recv p
    | .portOut p b => (Tab.get 0 e.st.ports.out ⟨0, p, (e.st.cfg.port p).otag e.ctx⟩).testBit b
    | .qrdy p => Tab.get false e.st.qrdy p
    | .flag i n => (Tab.get 0 e.st.ports.flags ⟨0, i, (e.st.cfg.port (34 + i)).otag e.ctx⟩).testBit n
    | .stopePort b => Tab.get false e.st.portOut b
    | .pin n => Tab.get false e.pins n

/-- Levels enough for every acyclic path of a stope: more than its cells, crossbar outputs, wires and inputs. -/
def evalFuel : Nat := 8000000

/-- The value that drives a sink. -/
def EvalEnv.sink (e : EvalEnv) (k : Sink) : Bool := evalNode e evalFuel (.sink k)

/-- The value of a crossbar output. -/
def EvalEnv.xbarOut (e : EvalEnv) (cluster o : Nat) : Bool := evalNode e evalFuel (.xbar cluster o)

/-- The context that owns state bit `b` (03 R70). -/
def bitOwner (f b : Nat) : Nat := (b / 2) % (max f 1)

/-- The D value of a state bit (03 R71). -/
def EvalEnv.dValue (e : EvalEnv) (cell : Nat) (b : StateBit) : Bool :=
  if b.dsel ≤ 3 then evalNode e evalFuel (.lut cell b.dsel)
  else e.xbarOut (cell / 16) ((cell % 16) * 7 + (if b.dsel = 4 then 6 else 5))

/-- The selected clock enable (03 R71): always enabled where none is selected. An upset can leave a reserved value in a field of a state
bit, for which the spec states no effect. DESIGN CHOICE (log entry 90): `CESEL` 3 reads the net after CE1, `SRSEL` 3 an output that no
source drives, `DSEL` 6 and 7 act as L6, `EDGE` 3 acts on no edge, `MODE` 3 holds. -/
def EvalEnv.ceValue (e : EvalEnv) (cell : Nat) (b : StateBit) : Bool :=
  if b.cesel = 0 then true else e.xbarOut (cell / 16) (111 + b.cesel)

/-- The selected set or reset (03 R71): none reads 0. -/
def EvalEnv.srValue (e : EvalEnv) (cell : Nat) (b : StateBit) : Bool :=
  if b.srsel = 0 then false else e.xbarOut (cell / 16) (113 + b.srsel)

/-- The value a set or reset type gives (03 R71 `SRTYPE`). -/
def StateBit.srTo (b : StateBit) : Bool := b.srtype % 2 = 1

/-- A PHASE bit at the end of its owner's slot (03 R72). -/
def phaseNext (b : StateBit) (q d ce sr : Bool) : Bool := if sr then b.srTo else if ce then d else q

/-- A USER bit at a stroke boundary (03 R73). `rise` and `fall` are the edges of its line. -/
def userNext (b : StateBit) (q d ce sr rise fall : Bool) : Bool :=
  if 2 ≤ b.srtype ∧ sr then b.srTo
  else if (b.edge = 0 ∧ rise) ∨ (b.edge = 1 ∧ fall) ∨ (b.edge = 2 ∧ (rise ∨ fall)) then
    if b.srtype < 2 ∧ sr then b.srTo else if ce then d else q
  else q

/-- A staging latch as one number: D, CE and SR in bits 0, 1 and 2. -/
def packStage (d ce sr : Bool) : Nat := b2n d + 2 * b2n ce + 4 * b2n sr

/-- Everything of one stope's cells that captures at the end of a slot of context `e.ctx` (03 R72, R73): PHASE bits
load, staging latches capture. All values are those before the edge. -/
def captureCells (e : EvalEnv) (f : Nat) (bits : List (Key × StateBit)) (s : Stope) : Stope :=
  bits.foldl (fun s kb =>
    let cell := kb.1.unit
    let b := kb.2
    if bitOwner f kb.1.idx ≠ e.ctx then s
    else
      let d := e.dValue cell b
      let ce := e.ceValue cell b
      let sr := e.srValue cell b
      let i := cell * 8 + kb.1.idx
      if b.mode = 1 then { s with q := Tab.set natLt false s.q i (phaseNext b (Tab.get false s.q i) d ce sr) }
      else if b.mode = 2 then { s with staged := Tab.set natLt 0 s.staged i (packStage d ce sr) }
      else s) s

/-- Every USER bit applies its staging latch at a boundary with edge vector `edges` (03 R73, 04 R113): bits 15 to 0
are rising edges and bits 31 to 16 falling edges. -/
def commitUser (edges : Nat) (s : Stope) : Stope :=
  s.cfg.bits.foldl (fun s kb =>
    let b := kb.2
    let i := kb.1.unit * 8 + kb.1.idx
    if b.mode = 2 then
      let g := Tab.get 0 s.staged i
      let v := userNext b (Tab.get false s.q i) (g.testBit 0) (g.testBit 1) (g.testBit 2)
        (edges.testBit b.clk) (edges.testBit (16 + b.clk))
      { s with q := Tab.set natLt false s.q i v }
    else s) s

/-- Every state bit at its `INIT` value (03 R76); an OFF bit has none. -/
def initBits (s : Stope) : Stope :=
  { s with q := s.cfg.bits.foldl (fun q kb =>
      if kb.2.mode = 0 then q else Tab.set natLt false q (kb.1.unit * 8 + kb.1.idx) kb.2.init) [] }

/-- COPY-OUT (03 R75, 05 R147): state bits and port registers into their shadows. OFF bits copy as 0. -/
def copyOut (s : Stope) : Stope :=
  { s with
    shadow := s.cfg.bits.foldl (fun t kb =>
      let i := kb.1.unit * 8 + kb.1.idx
      if kb.2.mode = 0 then t else Tab.set natLt false t i (Tab.get false s.q i)) []
    shadowPorts := s.ports }

/-- COPY-IN (03 R75, 05 R147): shadows into state bits and port registers. DESIGN CHOICE (log entry 93): `QRDY`, which the rule does not
list among the port registers, keeps its value until the next slot end. -/
def copyIn (s : Stope) : Stope :=
  { s with
    q := s.cfg.bits.foldl (fun t kb =>
      let i := kb.1.unit * 8 + kb.1.idx
      if kb.2.mode = 0 then t else Tab.set natLt false t i (Tab.get false s.shadow i)) []
    ports := s.shadowPorts }

/-- A configured item takes its place (03, 04, 05). -/
def StopeCfg.apply (c : StopeCfg) : CfgItem → StopeCfg
  | .cell n ctx v => { c with cells := Tab.set Key.lt .none c.cells ⟨0, n, ctx⟩ v }
  | .stateBit n b v => { c with bits := Tab.set Key.lt .off c.bits ⟨0, n, b⟩ v }
  | .xbar cl ctx o v => { c with xbar := Tab.set Key.lt 0 c.xbar ⟨ctx, cl, o⟩ v }
  | .drive k sel => { c with drive := Tab.set Key.lt 0 c.drive k.key sel }
  | .preg w b => { c with preg := Tab.set natLt false c.preg w b }
  | .port p v => { c with ports := Tab.set natLt .none c.ports p v }
  | .binMode b m => { c with binMode := Tab.set natLt 0 c.binMode b m }
  | .tapSlot p v => { c with tapSlot := Tab.set natLt 0 c.tapSlot p v }
  | .stopePort a w g p b => { c with consumer := a, waits := w, target := g, present := p, answer := b }

/-- The stope has the part that an item configures, with fields of its width (03 R64, R71, R77; 04 R93 to R96). -/
def CfgItem.inStope (n : Nat) : CfgItem → Bool
  | .cell c ctx _ => decide (c < 65536 ∧ ctx < 4)
  | .stateBit c b _ => decide (c < 65536 ∧ b < 8)
  | .xbar cl ctx o sel => decide (cl < 4096 ∧ ctx < 4 ∧ o < 116 ∧ sel < 128)
  | .drive k sel => k.inStope n && decide (sel < 64)
  | .preg w _ => decide (w < wireCount)
  | .port p _ => decide (p < 66)
  | .binMode b _ => decide (b < 16)
  | .tapSlot p _ => decide (p < 1024)
  | .stopePort .. => true

/-- What a frame configures in a stope (03, 04, 05; log entry 18). -/
def frameItems (n f : Nat) (words : List Nat) : List CfgItem := (Config.decodeFrame f words).filter (CfgItem.inStope n)

/-- An item the loader rejects (03 R66, R67, R68, R71, R77; 04 R103; 05 R123, R127, R133, R143): a reserved or
undefined value, or a forbidden chain. `f` is the fold factor of the stream. -/
def CfgItem.rejected (f : Nat) : CfgItem → Bool
  | .cell n _ v =>
    (decide (v.lmode = 0) && decide (v.carry ≠ 0)) || decide (5 ≤ v.carry)
      || (decide (v.carry = 1) && decide (n < 64 * 16) && decide (n % 16 = 0))
      || (decide (5 ≤ v.osel0) && decide (v.osel0 < 8)) || (decide (5 ≤ v.osel1) && decide (v.osel1 < 8))
  | .stateBit _ _ v =>
    decide (v.mode = 3) || decide (6 ≤ v.dsel) || decide (v.edge = 3) || decide (v.cesel = 3) || decide (v.srsel = 3)
  | .xbar _ _ _ sel => decide (82 ≤ sel)
  | .drive k sel => !k.defined sel
  | .preg _ _ => false
  | .port p v =>
    decide (2 ^ f ≤ v.tags) || (decide (p < 34) && decide (v.wmode = 3)) || (decide (34 ≤ p) && decide (v.pre = 3))
  | .binMode _ m => decide (4 ≤ m)
  | .tapSlot _ v => decide (f ≤ v)
  | .stopePort .. => false

/-- The loader rejects a stream that tags port B of a bin in the UP or DOWN mode (05 R133), and a `DSEL` of L6 in a
bit whose owning context is not fractured (03 R71). -/
def StopeCfg.rejected (c : StopeCfg) (f : Nat) : Bool :=
  c.binMode.any (fun bm => decide (2 ≤ bm.2) && decide ((c.port (2 * bm.1 + 1)).tags ≠ 0)) ||
  c.bits.any (fun kb => decide (kb.2.dsel = 5) && decide (kb.2.mode ≠ 0)
    && decide ((c.cell kb.1.unit (bitOwner f kb.1.idx)).lmode = 0))

end Sys2Proof.Machine
end

