-- ==== Sys2Proof/Machine/CryptoOps.lean ====
section
/-! DEFINITION. Protected ranges, page counters, the counter cache and fault records (15 R392 to R403). -/

namespace Sys2Proof.Machine

/-- The encryption stage changed. -/
def State.en (s : State) (g : Crypto → Crypto) : State := { s with crypto := g s.crypto }

/-- The region that a base and a length register hold, as byte addresses: first, and first behind it (R407). -/
def State.rangeSpan (s : State) (k : Nat) : Nat × Nat :=
  (s.rd EN_RANGE_BASE.BASE 0 k * 2 ^ 21, (s.rd EN_RANGE_BASE.BASE 0 k + s.rd EN_RANGE_BASE.LEN 0 k) * 2 ^ 21)

/-- The tree region of a range. -/
def State.treeSpan (s : State) (k : Nat) : Nat × Nat :=
  (s.rd EN_RANGE_TREE.BASE 0 k * 2 ^ 21, (s.rd EN_RANGE_TREE.BASE 0 k + s.rd EN_RANGE_TREE.LEN 0 k) * 2 ^ 21)

/-- The address lies in a span. -/
def inSpan (sp : Nat × Nat) (a : Nat) : Bool := decide (sp.1 ≤ a) && decide (a < sp.2)

/-- `STATE` of a range: 0 OFF, 1 ON, 2 RETIRING, 3 FAULT. -/
def State.rangeState (s : State) (k : Nat) : Nat := s.rd EN_RANGE_CTRL.STATE 0 k

/-- The key id that protects the page of a byte address (R392). -/
def State.protectedBy (s : State) (a : Nat) : Option Nat :=
  (List.range 16).find? (fun k => decide (s.rangeState k = 1 ∨ s.rangeState k = 3) && inSpan (s.rangeSpan k) a)

/-- The page's index within its range. -/
def State.rangePage (s : State) (k page : Nat) : Nat := page - (s.rangeSpan k).1 / 128

/-- The counter of a page (level 0) or of a node (R398). -/
def State.counter (s : State) (k level idx : Nat) : Nat := Tab.get 0 s.crypto.counters ⟨level, k, idx⟩

/-- A counter set. -/
def State.setCounter (s : State) (k level idx v : Nat) : State :=
  s.en (fun c => { c with counters := Tab.set Key.lt 0 c.counters ⟨level, k, idx⟩ v })

/-- A node is held in the cache (R401); the root always is. -/
def State.nodeHeld (s : State) (k level idx : Nat) : Bool :=
  decide (s.rd EN_RANGE_CTRL.HEIGHT 0 k < level)
    || s.crypto.cache.any (fun e => decide (e.key = k ∧ e.level = level ∧ e.index = idx))

/-- `DIRTY` and `FAULTS` follow the cache and the records (R407). -/
def State.showRange (s : State) (k : Nat) : State :=
  let t := s.wr EN_RANGE_STAT.DIRTY (s.crypto.cache.filter (fun e => decide (e.key = k) && e.dirty)).length 0 k
  t.wr EN_RANGE_STAT.FAULTS ((List.range 64).filter (fun i => t.on EN_FAULT.VALID 0 i && decide (t.rd EN_FAULT.KEY_ID 0 i = k))).length 0 k

/-- A held node becomes the most recently used, dirty where `d` says so. -/
def State.touchNode (s : State) (k level idx : Nat) (d : Bool) : State :=
  match s.crypto.cache.find? (fun e => decide (e.key = k ∧ e.level = level ∧ e.index = idx)) with
  | some e =>
    (s.en (fun c => { c with cache := c.cache.filter (fun f => decide (f ≠ e)) ++ [{ e with dirty := e.dirty || d }] })).showRange k
  | none => s

/-- `FAULTED` follows the records and the ranges (R407). -/
def State.showFaulted (s : State) : State :=
  s.put EN_STATUS.FAULTED ((List.range 64).any (fun i => s.on EN_FAULT.VALID 0 i) || (List.range 16).any (fun k => decide (s.rangeState k = 3)))

/-- A range enters FAULT (R399, R403). -/
def State.rangeFault (s : State) (k : Nat) : State := (s.wr EN_RANGE_CTRL.STATE 3 0 k).showFaulted

/-- The counter of a page that is stored rises (R399); false where it would pass its end: the write is dropped and the range
enters FAULT. An open page has no counter. -/
def State.raiseCounter (s : State) (page : Nat) : Bool × State :=
  match s.protectedBy (page * 128) with
  | none => (true, s)
  | some k =>
    let i := s.rangePage k page
    let c := s.counter k 0 i
    if c = 2 ^ 64 - 1 then (false, s.rangeFault k)
    else (true, (s.setCounter k 0 i (c + 1)).touchNode k 1 (i / 8) true)

/-- A fault record or a range in FAULT covers the page (R403). -/
def State.pageFaulted (s : State) (page : Nat) : Bool :=
  match s.protectedBy (page * 128) with
  | none => false
  | some k =>
    let i := s.rangePage k page
    decide (s.rangeState k = 3) || (List.range 64).any (fun f =>
      s.on EN_FAULT.VALID 0 f && decide (s.rd EN_FAULT.KEY_ID 0 f = k)
        && decide (i / 8 ^ s.rd EN_FAULT.LEVEL 0 f = s.rd EN_FAULT.INDEX 0 f))

/-- Nodes of level `i` of a tree over `p` pages (R398). -/
def nodesAt (p i : Nat) : Nat := (p + 8 ^ i - 1) / 8 ^ i

/-- The stored levels of a tree over `p` pages: the least with at most 8 nodes (R398). -/
def treeHeight (p : Nat) : Nat := ((List.range 11).find? (fun i => decide (1 ≤ i) && decide (nodesAt p i ≤ 8))).getD 10

/-- Bytes that a tree needs, rounded up to 2 MiB (R398). -/
def treeBytes (p : Nat) : Nat :=
  let n := (List.range (treeHeight p)).foldl (fun a i => a + nodesAt p (i + 1)) 0
  (128 * n + 2 ^ 21 - 1) / 2 ^ 21 * 2 ^ 21

/-- Gallery address of a node page (R398). -/
def State.nodeAddr (s : State) (k level idx : Nat) : Nat :=
  let p := s.rd EN_RANGE_BASE.LEN 0 k * 2 ^ 14
  (s.treeSpan k).1 + 128 * ((List.range (level - 1)).foldl (fun a i => a + nodesAt p (i + 1)) 0 + idx)

/-- A node with a held child is never evicted (R401). -/
def State.hasChild (s : State) (e : CacheEnt) : Bool :=
  s.crypto.cache.any (fun f => decide (f.key = e.key ∧ f.level + 1 = e.level ∧ f.index / 8 = e.index))

/-- The least recently used node without a held child goes; dirty, it raises its counter in its parent, which becomes
dirty (R401). -/
def State.evictNode (s : State) : State :=
  match s.crypto.cache.find? (fun e => !s.hasChild e) with
  | none => s
  | some e =>
    let t := s.en (fun c => { c with cache := c.cache.filter (fun f => decide (f ≠ e)) })
    let t := if e.dirty then
        (t.setCounter e.key e.level e.index (t.counter e.key e.level e.index + 1)).touchNode e.key (e.level + 1) (e.index / 8) true
      else t
    t.showRange e.key

/-- A checked node enters the cache of 8,192 nodes (R401). -/
def State.holdNode (s : State) (k level idx : Nat) : State :=
  let t := if 8192 ≤ s.crypto.cache.length then s.evictNode else s
  t.en (fun c => { c with cache := c.cache ++ [⟨k, level, idx, false⟩] })

/-- The next node to fetch for a page: the highest on its path that is not held (R401). -/
def State.nextNode (s : State) (k page : Nat) : Option (Nat × Nat) :=
  let i := s.rangePage k page
  let h := s.rd EN_RANGE_CTRL.HEIGHT 0 k
  ((List.range h).reverse.find? (fun l => !s.nodeHeld k (l + 1) (i / 8 ^ (l + 1)))).map (fun l => (l + 1, i / 8 ^ (l + 1)))

/-- Key RAM as `EN_KEY_STATUS` shows it (R390). -/
def State.showKeys (s : State) : State :=
  s.wr EN_KEY_STATUS.FILLED (s.crypto.slots.foldl (fun v p => setBit v p.1) 0)

end Sys2Proof.Machine
end

