-- ==== Sys2Proof/Machine/SampleOps.lean ====
section
/-! DEFINITION. Samples: slots, readiness, failure, the page journal and the replay log (11), and the scrubbers'
coverage and pauses (07 R188, R194). -/

namespace Sys2Proof.Machine

/-- The sampler changed. -/
def State.smp (s : State) (g : Sampler → Sampler) : State := { s with sampler := g s.sampler }

/-- The hidden state of a scrubber. -/
def State.scrub (s : State) (i : Nat) : Scrub := Tab.get .cold s.scrubs i

/-- The hidden state of a scrubber changed. -/
def State.updScrub (s : State) (i : Nat) (g : Scrub → Scrub) : State :=
  { s with scrubs := Tab.set natLt .cold s.scrubs i (g (s.scrub i)) }

/-! ### Scrubber coverage (07 R188) -/

/-- The scrubber reads this stope: ISOLATED or IN USE, no frame lost (07 R188). -/
def State.scrubbed (s : State) (n : Nat) : Bool :=
  (decide (s.stopeState n = 2) || decide (s.stopeState n = 3)) && !s.on ST_SCRUB.FRAME_LOST n

/-- The device stopes of scrubber `i`'s half, in rising seam-local index (07 R188). -/
def halfStopes (i : Nat) : List Nat := (List.range 80).map (fun k => (i / 2) * 160 + (i % 2) * 80 + k)

/-- The stopes a scrubber covers now, with its peer's half in a takeover (07 R188, R200). -/
def State.coverage (s : State) (i : Nat) : List Nat :=
  let both := s.on SB_STATUS.TAKEOVER i
  let half := if both then halfStopes (i - i % 2) ++ halfStopes (i - i % 2 + 1) else halfStopes i
  half.filter s.scrubbed

/-- The state code of a scrubber that runs: idle where it is disabled or covers nothing (07 R206). -/
def State.scrubState (s : State) (i : Nat) : Nat :=
  if s.on SB_CTRL.EN i && !(s.coverage i).isEmpty then 1 else 0

/-- A scrubber pauses now: it copies the stroke tally (07 R194). -/
def State.scrubPauses (s : State) (i : Nat) : State :=
  ((s.wr SB_STATUS.STATE 2 i).wr SB_PAUSE_TALLY.TALLY (s.rd WD_TALLY.TALLY) i).updScrub i (fun x => { x with pauseDue := false })

/-- Both scrubbers of a seam pause, after the frame in hand: one that repairs a frame ends the repair first (07 R194). -/
def State.scrubPause (s : State) (seam : Nat) : State :=
  [2 * seam, 2 * seam + 1].foldl (fun s i =>
    if (s.scrub i).repair.isSome then s.updScrub i (fun x => { x with pauseDue := true }) else s.scrubPauses i) s

/-- A new pass begins at frame 0 (07 R190). -/
def State.startPass (s : State) (i : Nat) : State :=
  let t := ((s.wr SB_PASS_TALLY.TALLY (s.rd WD_TALLY.TALLY) i).wr SB_PROGRESS.POS 0 i).updScrub i
    (fun x => { x with next := 0, faulted := false, idle := decide (s.scrubState i = 0)
                       took := if s.on SB_STATUS.TAKEOVER i then (if x.took = 2 then 2 else 1) else 0 })
  if t.rd SB_STATUS.STATE i = 2 then t else t.wr SB_STATUS.STATE (t.scrubState i) i

/-- The pass ends without counting, and the scrubber is idle (07 R190). -/
def State.endPass (s : State) (i : Nat) : State :=
  let t := (s.wr SB_PROGRESS.POS 0 i).updScrub i (fun x => { x with idle := true })
  if t.rd SB_STATUS.STATE i = 1 then t.wr SB_STATUS.STATE 0 i else t

/-- A scrubber meets a change of its coverage: idle, it starts a pass at its first covered stope; without a covered
stope it becomes idle and the pass ends without counting (07 R190). A paused one starts nothing before it resumes. -/
def State.scrubMeets (s : State) (i : Nat) : State :=
  if s.scrubState i = 0 then (if (s.scrub i).idle then s else s.endPass i)
  else if (s.scrub i).idle && decide (s.rd SB_STATUS.STATE i ≠ 2) then s.startPass i else s

/-- Both scrubbers of a stope's seam meet a change of its state. -/
def State.scrubsMeet (s : State) (n : Nat) : State := (s.scrubMeets (2 * (n / 160))).scrubMeets (2 * (n / 160) + 1)

/-- Both scrubbers of a seam resume with the next frame (07 R194). -/
def State.scrubResume (s : State) (seam : Nat) : State :=
  [2 * seam, 2 * seam + 1].foldl (fun s i =>
    let t := s.updScrub i (fun x => { x with pauseDue := false })
    if s.rd SB_STATUS.STATE i ≠ 2 then t
    else (t.wr SB_STATUS.STATE (if (s.scrub i).idle then 0 else s.scrubState i) i).scrubMeets i) s

/-! ### Slots (11 R291, R292) -/

/-- 384 MiB, the size of a slot (11 R291). -/
def slotBytes : Nat := 0x18000000

/-- The slot can be used (11 R291). -/
def State.slotUsable (s : State) (n : Nat) : Bool :=
  decide (n < 16) && s.on WD_SMP_STORE.OK && decide ((n + 1) * slotBytes ≤ s.rd WD_SMP_STORE.SIZE * 0x200000)

/-- The DRAM address of a slot. -/
def State.slotBase (s : State) (n : Nat) : Nat := s.rd WD_SMP_STORE.BASE * 0x200000 + n * slotBytes

/-- State of a slot: 0 EMPTY, 1 DRAINING, 2 VALID, 3 FAILED. -/
def State.slotState (s : State) (n : Nat) : Nat := s.rd WD_SLOT.STATE 0 n

/-- The content of a slot. -/
def State.slotData (s : State) (n : Nat) : SlotData := Tab.get .none s.sampler.slots n

/-- The content of a slot replaced. -/
def State.setSlot (s : State) (n : Nat) (d : SlotData) : State :=
  s.smp (fun x => { x with slots := Tab.set natLt .none x.slots n d })

/-- A slot becomes EMPTY. -/
def State.emptySlot (s : State) (n : Nat) : State :=
  (((((s.wr WD_SLOT.STATE 0 0 n).wr WD_SLOT.AUTO 0 0 n).wr WD_SLOT.TAINTED 0 0 n).wr WD_SLOT.STALE_CFG 0 0 n).wr
    WD_SLOT.FAIL_CAUSE 0 0 n).setSlot n .none

/-- The slots in a state. -/
def State.slotsIn (s : State) (st : Nat) : List Nat := (List.range 16).filter (fun n => decide (s.slotState n = st))

/-- The slot with the lowest sequence number among some (11 R295). -/
def State.oldestOf (s : State) (l : List Nat) : Option Nat :=
  l.foldl (fun b n => match b with
    | none => some n
    | some m => if s.rd WD_SLOT.SEQ 0 n < s.rd WD_SLOT.SEQ 0 m then some n else some m) none

/-- No sample drains: `READY`, and the Corers are idle (11 R286). -/
def State.samplerReady (s : State) : State :=
  let s := (s.wr WD_SMP_STATUS.READY 1).wr WD_SMP_STATUS.DRAINING 0
  s.smp (fun x => { x with draining := none, drain := [], drainFrame := [] })

/-- The draining sample fails with a cause (11 R290): the Corers stop, memories disarm, journals are discarded. -/
def State.failSample (s : State) (cause : Nat) : State :=
  match s.sampler.draining with
  | none => s
  | some n =>
    let t := (s.wr WD_SLOT.STATE 3 0 n).wr WD_SLOT.FAIL_CAUSE cause 0 n
    let t := (s.slotData n).stopes.foldl (fun t m =>
      (t.updStope m (fun x => { x with journals := [] })).wr ST_MEM_JRNL.ARMED 0 m) t
    let t := (List.range 4).foldl (fun t k =>
      (((t.wr CR_STATUS.DRAIN 0 k).wr CR_STATUS.COPY 0 k).wr CR_STATUS.STOPES_LEFT 0 k).scrubResume k) t
    t.samplerReady.smp (fun x => { x with noticeSample := 0 })

/-! ### Page journal (11 R293 to R295) -/

/-- The byte address lies in an enabled journalled range (11 R293). -/
def State.journalled (s : State) (a : Nat) : Bool :=
  s.on WD_SMP_CTRL.PJ_EN && (List.range 8).any (fun r =>
    s.on WD_PJ_RANGE.EN 0 r && decide (s.rd WD_PJ_RANGE.BASE 0 r * 0x200000 ≤ a)
      && decide (a < (s.rd WD_PJ_RANGE.BASE 0 r + s.rd WD_PJ_RANGE.LEN 0 r) * 0x200000))

/-- Entries the page-journal ring has room for (11 R295). -/
def State.pjRoom (s : State) : Nat := s.rd WD_PJ_RING.SIZE * 0x200000 / 192

/-- The lowest sequence number of a VALID or DRAINING sample. -/
def State.oldestEpoch (s : State) : Option Nat :=
  (s.oldestOf (s.slotsIn 2 ++ s.slotsIn 1)).map (fun n => s.rd WD_SLOT.SEQ 0 n)

/-- Journal entries of epochs older than the oldest sample are free (11 R295). -/
def State.pjTrim (s : State) : State :=
  match s.oldestEpoch with
  | some q => s.smp (fun x => { x with pj := x.pj.filter (fun e => decide (q ≤ e.epoch)) })
  | none => s.smp (fun x => { x with pj := [] })

/-- The oldest VALID sample is given up, or failing that the oldest DRAINING one (11 R295, R298). -/
def State.giveUpSample (s : State) : State :=
  match s.oldestOf (s.slotsIn 2) with
  | some n => s.emptySlot n
  | none => if (s.slotsIn 1).isEmpty then s else s.failSample 5

/-- Some slot is VALID or DRAINING. -/
def State.sampleHeld (s : State) : Bool := s.oldestEpoch.isSome

/-- Room is made for one entry of the page journal (11 R295): at most one round per slot. Where no sample remains, appends are dropped until
the next. -/
def State.pjReclaim (s : State) : Nat → State
  | 0 => s
  | k + 1 =>
    let s := s.pjTrim
    if s.sampler.pj.length < s.pjRoom then s
    else
      let t := s.giveUpSample.wr WD_SMP_STATUS.PJ_OVF 1
      if t.sampleHeld then State.pjReclaim t k else t.pjTrim.smp (fun x => { x with pjDropping := true })

/-- The address of a page's stamp (11 R294): 4 bytes in the stamp table for each page of the enabled ranges, taken in range order; none outside
them. -/
def State.stampAddr (s : State) (page : Nat) : Option Nat :=
  let walk := (List.range 8).foldl (fun (b : Nat × Option Nat) r =>
    let n := if s.on WD_PJ_RANGE.EN 0 r then s.rd WD_PJ_RANGE.LEN 0 r * 0x4000 else 0
    let base := s.rd WD_PJ_RANGE.BASE 0 r * 0x4000
    (b.1 + n, if b.2.isNone ∧ base ≤ page ∧ page < base + n then some (b.1 + (page - base)) else b.2)) (0, none)
  walk.2.map (fun i => s.rd WD_PJ_STAMP.BASE * 0x200000 + 4 * i)

/-- The stamp table clears (11 R294). -/
def State.clearStamps (s : State) : State :=
  let b := s.rd WD_PJ_STAMP.BASE * 0x200000
  let e := b + s.rd WD_PJ_STAMP.SIZE * 0x200000
  { s with mem := s.mem.filter (fun m => !(decide (b ≤ m.1) && decide (m.1 < e))) }

/-- The first write of an epoch to a journalled page saves its old contents and stamps the page (11 R294). `old` is the page's bytes. -/
def State.journalPage (s : State) (page : Nat) (old : List Nat) (poison : Bool) : State :=
  let q := s.sampler.epoch
  if !s.journalled (page * 128) then s
  else match s.stampAddr page with
    | none => s
    | some a =>
      if s.load a 4 = q then s
      else if s.sampler.pjDropping then s.wr WD_SMP_STATUS.PJ_OVF 1
      else
        let t := s.pjReclaim 17
        if t.sampler.pjDropping || decide (t.pjRoom ≤ t.sampler.pj.length) then t
        else
          let t := (t.smp (fun x => { x with pj := x.pj ++ [⟨page, q, old, poison⟩] })).store a 4 q
          t.wr WD_SMP_USE.PJ_ENTRIES (min t.sampler.pj.length (ones 32))

/-! ### Replay log (11 R296 to R298) -/

/-- Bytes a record takes in the log ring (11 R296, R297); a packet takes its length. -/
def LogRecord.bytes : LogRecord → Nat
  | .packet _ _ _ d => 64 + (d.length + 63) / 64 * 64
  | .commit .. => 8

/-- The tally of a record. -/
def LogRecord.tally : LogRecord → Nat
  | .packet _ _ t _ => t
  | .commit _ _ t _ => t

/-- Bytes held in the log. -/
def State.logBytes (s : State) : Nat := s.sampler.log.foldl (fun a r => a + r.bytes) 0

/-- Records older than the oldest sample are free (11 R298): those of tallies below its event tally. -/
def State.logTrim (s : State) : State :=
  match s.oldestOf (s.slotsIn 2 ++ s.slotsIn 1) with
  | some n => s.smp (fun x => { x with log := x.log.filter (fun r => decide (s.rd WD_SLOT_TALLY.TALLY 0 n ≤ r.tally)) })
  | none => s.smp (fun x => { x with log := [] })

/-- Room is made in the log ring (11 R298), as in the page journal's. -/
def State.logReclaim (s : State) (need : Nat) : Nat → State
  | 0 => s
  | k + 1 =>
    let s := s.logTrim
    if s.logBytes + need ≤ s.rd WD_LOG_RING.SIZE * 0x200000 then s
    else
      let t := s.giveUpSample.wr WD_SMP_STATUS.LOG_OVF 1
      if t.sampleHeld then State.logReclaim t need k else t.logTrim.smp (fun x => { x with logDropping := true })

/-- A record enters the replay log while `LOG_EN` is 1 (11 R296, R297). -/
def State.logRecord (s : State) (r : LogRecord) : State :=
  if !s.on WD_SMP_CTRL.LOG_EN then s
  else if s.sampler.logDropping then s.wr WD_SMP_STATUS.LOG_OVF 1
  else
    let t := s.logReclaim r.bytes 17
    if !t.sampler.logDropping && decide (t.logBytes + r.bytes ≤ t.rd WD_LOG_RING.SIZE * 0x200000) then
      let t := t.smp (fun x => { x with log := x.log ++ [r] })
      t.wr WD_SMP_USE.LOG_KIB (min ((t.logBytes + 1023) / 1024) (ones 32))
    else t

end Sys2Proof.Machine
end

