-- ==== Sys2Proof/Machine/WinderOps.lean ====
section
/-! DEFINITION. The Winder's shared operations: groups, horizon and grants, scheduled events, stops, command results,
restores and silent recovery (08 R207 to R233, 11 R300 to R310). -/

namespace Sys2Proof.Machine

/-- The Winder changed. -/
def State.wd (s : State) (g : Winder → Winder) : State := { s with winder := g s.winder }

/-- An interrupt source of the Winder sets (08 R233). -/
def State.wdIrq (s : State) (b : Nat) : State := s.raise WD_IRQ_STATUS.SRC WD_IRQ_EN.EN WD_IRQ_EN.VECTOR b

/-- A fault of the group: a bit of `WD_GROUP_STATUS` sets, and the `GROUP` source with it (08 R232). -/
def State.groupFault (s : State) (f : Fld) : State := (s.wr f 1).wdIrq 3

/-- The part is solo (08 R218). -/
def State.solo (s : State) : Bool := !s.on WD_GROUP_CTRL.JOIN

/-- The part is the leader, or solo (08 R219). -/
def State.leads (s : State) : Bool := s.on WD_STATUS.LEADER

/-- The other members of the group, by address. -/
def State.others (s : State) : List Nat := if s.solo then [] else s.winder.members.map (fun m => m.addr)

/-- A broadcast of a group message (18 R485). -/
def State.tellAll (s : State) (m : BwMsg) : State := if s.solo then s else s.emit (.bell none m)

/-- A message to the leader (18 R485). -/
def State.tellLeader (s : State) (m : BwMsg) : State := s.emit (.bell (some (s.rd WD_GROUP_STATUS.LEADER_ADDR)) m)

/-- The largest tally (08 R209). -/
def tallyMax : Nat := ones 64

/-- The stroke tally. -/
def State.tally (s : State) : Nat := s.rd WD_TALLY.TALLY

/-- `STATE` of the Winder (08 R207). -/
def State.wdState (s : State) : Nat := s.rd WD_STATUS.STATE

/-- The Winder's state changes; HALTED is left by COLD alone (08 R207, R230). -/
def State.windTo (s : State) (v : Nat) : State := if s.wdState = 4 then s else s.wr WD_STATUS.STATE v

/-- `REPLAYING` follows the arming and the tally (08 R227). -/
def State.refreshReplaying (s : State) : State :=
  s.put WD_STATUS.REPLAYING (s.on WD_STATUS.REPLAY_ARMED && decide (s.tally < s.rd WD_REPLAY_END.END))

/-! ### Command results (08 R226) -/

/-- A command completes: `DONE`, `RESULT`, and the `CMD_DONE` source. -/
def State.cmdFinish (s : State) (result : Nat) : State :=
  let t := ((s.wr WD_CMD_STATUS.BUSY 0).wr WD_CMD_STATUS.DONE 1).wr WD_CMD_STATUS.RESULT result
  (t.wd (fun w => { w with cmd := none })).wdIrq 0

/-- The command in progress ends with the result it has. -/
def State.cmdEnd (s : State) : State := s.cmdFinish ((s.winder.cmd.map (fun c => c.result)).getD 0)

/-- A command is refused. -/
def State.cmdRefuse (s : State) (result : Nat) : State :=
  let t := (s.wr WD_CMD_STATUS.REFUSED 1).wr WD_CMD_STATUS.RESULT result
  (t.wd (fun w => { w with cmd := none })).wdIrq 0

/-- This part has done its share of the command in progress; the command ends when no member is waited for. -/
def State.cmdLocalDone (s : State) (result : Nat) : State :=
  match s.winder.cmd with
  | some c =>
    let r := if c.result = 0 then result else c.result
    if c.waiting.isEmpty then s.cmdFinish r
    else s.wd (fun w => { w with cmd := some { c with result := r, ownDone := true } })
  | none =>
    match s.winder.duty with
    | some _ => (s.tellLeader (.cmdDone result)).wd (fun w => { w with duty := none })
    | none => s

/-! ### Scheduled events and grants (08 R221, R222) -/

/-- `WD_STOP_TALLY`: the lowest tally at which the part is to stop (08 R221). -/
def State.refreshStop (s : State) : State :=
  s.wr WD_STOP_TALLY.S ((s.winder.events.filter (fun e => decide (e.kind ≠ .sample))).foldl (fun m e => min m e.e) tallyMax)

/-- An event joins the schedule of this part. -/
def State.addEvent (s : State) (e : SchedEvent) : State :=
  (s.wd (fun w => { w with events := w.events ++ [e] })).refreshStop

/-- The leader schedules an event and sends it to every member (08 R222); a STOP whose `E` is not below `S` changes
nothing. -/
def State.schedule (s : State) (k : EventKind) (e slot cause : Nat) : State :=
  if k = .stop ∧ s.rd WD_STOP_TALLY.S ≤ e then s
  else
    let code := match k with | .stop => 1 | .sample => 2 | .rewind => 3
    (s.tellAll (.event e code slot cause)).addEvent ⟨k, e, slot, cause, s.others⟩

/-- The leader schedules a STOP of its own, of a silent recovery or after a CHAIN: it acts beside any other STOP at that tally (08 R223,
R228). -/
def State.scheduleOwn (s : State) (e cause : Nat) : State := (s.tellAll (.event e 1 0 cause)).addEvent ⟨.stop, e, 0, cause, s.others⟩

/-- The leader's horizon: the highest it has granted (08 R221). -/
def State.horizon (s : State) : Nat := s.rd WD_HORIZON.H

/-- No grant passes an event that a member has not acknowledged (08 R222). -/
def State.grantCap (s : State) : Nat :=
  (s.winder.events.filter (fun e => !e.waiting.isEmpty)).foldl (fun m e => min m e.e) tallyMax

/-- Window `W` (08 R221). -/
def State.window (s : State) : Nat := 2 ^ s.rd WD_GRANT.WINDOW_LOG2

/-- min(tally + W, S), granted where it exceeds the horizon (08 R221). -/
def State.grantNow (s : State) : State :=
  let h := min (min (s.tally + s.window) (s.rd WD_STOP_TALLY.S)) (min s.grantCap tallyMax)
  if s.horizon < h then (s.wr WD_HORIZON.H h).tellAll (.grant h) else s

/-- The slot an auto-checkpoint takes (11 R307). -/
def State.autoSlotChoice (s : State) : Option Nat :=
  let own := (List.range 16).filter (fun n => s.bit WD_SMP_AC.AC_SLOTS n && s.slotUsable n)
  match own.find? (fun n => decide (s.slotState n = 0 ∨ s.slotState n = 3)) with
  | some n => some n
  | none =>
    (own.filter (fun n => decide (s.slotState n = 2))).foldl (fun b n => match b with
      | none => some n
      | some m => if s.rd WD_SLOT_TALLY.TALLY 0 n < s.rd WD_SLOT_TALLY.TALLY 0 m then some n else some m) none

/-- One above the lowest tally at which a scrubber that covers a stope in use began the second newest of its fault-free passes; 0 where one
has not completed two (11 R306). -/
def State.passBound (s : State) : Nat :=
  (List.range 8).foldl (fun b i =>
    if (s.coverage i).any s.inUse then min b (((s.scrub i).good[1]?.map (fun g => g + 1)).getD 0) else b) tallyMax

/-- Every member has reported two complete fault-free passes, each begun at or after `t`, of every scrubber that covers a stope in use (11
R306). -/
def State.twoPasses (s : State) (t : Nat) : Bool :=
  decide (t < s.passBound) && (s.solo || s.winder.members.all (fun m => decide (t < m.passes)))

/-- A member whose scrubbers have completed a pass reports it to the leader (11 R306; log entry 53). -/
def State.passReport (s : State) : State := if s.leads then s else s.tellLeader (.report s.passBound 3 0)

/-- The previous auto-checkpoint has completed or failed (11 R306). -/
def State.autoSettled (s : State) : Bool :=
  match s.sampler.autoSlot with
  | some n => decide (s.slotState n ≠ 1) && !s.winder.events.any (fun e => decide (e.kind = .sample ∧ e.cause = 1))
  | none => true

/-- The leader takes an auto-checkpoint at a grant point (11 R306): its event tally is the horizon before the grant.
The event's cause field 1 marks it in this model. -/
def State.autoCheckpoint (s : State) : State :=
  if s.on WD_SMP_AC.AC_EN && decide (s.wdState = 2) && !s.on WD_STATUS.REPLAYING && s.autoSettled then
    let far := decide (s.rd WD_SMP_SEQ.SEQ < ones 32) && match s.sampler.lastAuto with
      | none => true
      | some t => decide (t + s.rd WD_SMP_AC.AC_MIN * 65536 ≤ s.tally) && s.twoPasses t
    if far then
      match s.autoSlotChoice with
      | some n => (s.schedule .sample s.horizon n 1).smp (fun x => { x with autoSlot := some n, lastAuto := some s.horizon })
      | none => s
    else s
  else s

/-- The leader's grant point: its tally has reached `H_g` − W / 2 (08 R221, 11 R306). -/
def State.grantPoint (s : State) : State :=
  if s.leads && decide (s.wdState = 2) && s.winder.regroup.isNone && decide (s.horizon ≤ s.tally + s.window / 2) then
    let h := min (min (s.tally + s.window) (s.rd WD_STOP_TALLY.S)) (min s.grantCap tallyMax)
    (if s.horizon < h then s.autoCheckpoint else s).grantNow
  else s

/-- This part begins to run (08 R225): the leader grants. -/
def State.startRun (s : State) (trig : Bool) : State :=
  let t := (s.windTo 2).wd (fun w => { w with runTrig := trig, sampled := false })
  let t := t.refreshReplaying
  -- the first auto-checkpoint after a RUN needs only the first two conditions (11 R306)
  let t := t.smp (fun x => { x with lastAuto := none })
  if t.leads then (if t.horizon ≤ t.tally + t.window / 2 then t.autoCheckpoint else t).grantNow else t

/-! ### Restores (11 R300, R301) -/

/-- Each page of the page journal from the newest entry back to the first of epoch `q` gets its old bytes (11 R301
step 1) under a raised counter (15 R400), and the entries go. -/
def State.applyJournal (s : State) (q : Nat) : State :=
  let undo := (s.sampler.pj.filter (fun e => decide (q ≤ e.epoch))).reverse
  let t := undo.foldl (fun t e =>
    match t.raiseCounter e.page with
    | (false, t) => t
    | (true, t) =>
      let t := t.storeBytes (e.page * 128) e.old
      { t with dram := { t.dram with
          pages := Tab.set natLt .clean t.dram.pages e.page ⟨e.poison, [], true⟩
          writebacks := t.dram.writebacks.filter (fun p => decide (p ≠ e.page)) } }) s
  let t := t.smp (fun x => { x with pj := x.pj.filter (fun e => decide (e.epoch < q)) })
  t.wr WD_SMP_USE.PJ_ENTRIES (min t.sampler.pj.length (ones 32))

/-- A group restore of a slot begins (11 R301, 08 R227): a REWIND arms replay to the present tally, a BACKFILL disarms. From here on the
DRAM controllers hold every access to the journalled ranges, until RESTORE_DONE. -/
def State.startRestore (s : State) (slot : Nat) (rewind : Bool) : State :=
  let t := s.windTo 3
  let t := if rewind then (t.wr WD_REPLAY_END.END t.tally).wr WD_STATUS.REPLAY_ARMED 1 else t.wr WD_STATUS.REPLAY_ARMED 0
  let t := t.refreshReplaying.smp (fun x => { x with restoring := some (slot, false) })
  let t := t.wd (fun w => { w with spoiled := (List.range 640).filter (fun n => s.on ST_SPOIL.SPOIL n) })
  (List.range 4).foldl (fun t k => t.wr CR_STATUS.RESTORE 1 k) t

/-- The DRAM controllers hold an access to this address: step 1 of a group restore runs, and it lies in a journalled range (11 R301). -/
def State.restoreHolds (s : State) (a : Nat) : Bool :=
  (match s.sampler.restoring with
    | some (_, b) => !b
    | none => false) && decide (s.sampler.noticeRestore = 0) && s.journalled a

/-- The slot can serve a group restore on this part (11 R300). -/
def State.restorable (s : State) (slot : Nat) : Bool :=
  s.slotUsable slot && decide (s.slotState slot = 2) && decide ((s.slotData slot).stopes = s.usedStopes)

/-- The slots that could serve a group restore on this part, as a member tells its leader (11 R300, R308; log entry 22). -/
def State.slotViews (s : State) : List SlotView :=
  ((List.range 16).filter s.restorable).map (fun n =>
    ⟨n, s.rd WD_SLOT_TALLY.TALLY 0 n, s.rd WD_SLOT.SEQ 0 n, !s.on WD_SLOT.TAINTED 0 n && !s.on WD_SLOT.STALE_CFG 0 n⟩)

/-- A member holds the slot with this part's tally and sequence number (11 R300); where `clean`, without its flags (R308). -/
def State.memberServes (s : State) (slot : Nat) (clean : Bool) (m : Member) : Bool :=
  m.slots.any (fun v => decide (v.slot = slot) && decide (v.tally = s.rd WD_SLOT_TALLY.TALLY 0 slot) && decide (v.seq = s.rd WD_SLOT.SEQ 0 slot)
    && (v.clean || !clean))

/-- The slot can serve a group restore on every member (11 R300). -/
def State.groupRestorable (s : State) (slot : Nat) : Bool :=
  s.restorable slot && (s.solo || s.winder.members.all (s.memberServes slot false))

/-! ### Silent recovery (08 R228, 11 R308 to R310) -/

/-- The slot that a recovery to bound `b` takes (11 R308). -/
def State.recoverySlot (s : State) (b : Nat) : Option Nat :=
  ((List.range 16).filter (fun n => s.restorable n && !s.on WD_SLOT.TAINTED 0 n && !s.on WD_SLOT.STALE_CFG 0 n
    && (s.solo || s.winder.members.all (s.memberServes n true)) && decide (s.rd WD_SLOT_TALLY.TALLY 0 n ≤ b))).foldl (fun best n => match best with
      | none => some n
      | some m => if s.rd WD_SLOT_TALLY.TALLY 0 m < s.rd WD_SLOT_TALLY.TALLY 0 n then some n else some m) none

/-- A recovery fails (11 R310): the group stays stopped, so a STEP or REPLAY that it cut has its stop. -/
def State.recoveryFail (s : State) : State :=
  let t := ((s.wr WD_STATUS.STOP_CAUSE 3).wr WD_SMP_STATUS.RECOVERY_FAIL 1).wd (fun w => { w with recovery := none, lateBound := none })
  let t := (t.wdIrq 1).post 7 0x0070 1 1
  match t.winder.cmd with
  | some c => if c.op = 3 ∨ c.op = 7 then t.cmdFinish 0 else t
  | none => t

/-- The stopes whose spoil flag is set. -/
def State.spoiledStopes (s : State) : List Nat := (List.range 640).filter (fun n => s.on ST_SPOIL.SPOIL n)

/-- The recovery's restore begins from the slot that serves on every member (08 R228, 11 R308). -/
def State.recoveryChosen (s : State) (r : Recovery) : State :=
  match s.recoverySlot r.bound with
  | none => s.recoveryFail
  | some n =>
    let t := s.wd (fun w => { w with
      recovery := some { r with stage := .rewinding, target := s.tally, waiting := s.others, ownDone := false } })
    (t.tellAll (.cmd n 6 true)).startRestore n true

/-- The recovery's restore, the group being stopped: the leader asks the members for their slots first (08 R228, 11 R308). -/
def State.recoveryRestore (s : State) (r : Recovery) : State :=
  if s.others.isEmpty then s.recoveryChosen r
  else s.others.foldl (fun t m => t.emit (.bell (some m) .stateReq))
    (s.wd (fun w => { w with recovery := some { r with stage := .asking, waiting := s.others } }))

/-- A spoil bound is kept until the leader can act on it. -/
def State.keepBound (s : State) (bound : Nat) : State := s.wd (fun w => { w with lateBound := some (min bound (w.lateBound.getD bound)) })

/-- A recovery begins (08 R228): a running group stops first, a stopped one is restored at once. One that comes while a command or a
restore of the host is in progress on a stopped group waits for its end. -/
def State.recoveryBegin (s : State) (bound : Nat) : State :=
  if s.wdState = 2 then
    let t := s.wd (fun w => { w with recovery := some ⟨.stopping, bound, 3, false, 0, [], false⟩ })
    t.scheduleOwn t.horizon 3
  else if s.wdState = 1 ∧ s.winder.cmd.isNone then
    s.recoveryRestore ⟨.stopping, bound, s.rd WD_STATUS.STOP_CAUSE, true, s.tally, [], false⟩
  else if s.wdState = 1 ∨ s.wdState = 3 then s.keepBound bound
  else s

/-- A spoil bound reaches the leader (08 R228, 11 R308, R309): before the restore of a recovery begins it lowers its bound. -/
def State.spoilAtLeader (s : State) (bound : Nat) : State :=
  if !s.on WD_GROUP_CTRL.AUTO_REWIND then s
  else match s.winder.recovery with
    | some r =>
      if r.stage = .stopping ∨ r.stage = .asking then s.wd (fun w => { w with recovery := some { r with bound := min r.bound bound } })
      else if r.stage = .running then s.recoveryBegin bound
      else s.keepBound bound
    | none => s.recoveryBegin bound

/-- A spoil bound that was kept begins a recovery once nothing is in its way (08 R228). -/
def State.lateSpoil (s : State) : State :=
  match s.winder.lateBound with
  | some b =>
    if s.winder.recovery.isNone && s.winder.cmd.isNone && decide (s.wdState = 1 ∨ s.wdState = 2) then
      (s.wd (fun w => { w with lateBound := none })).spoilAtLeader b
    else s
  | none => s

/-- A member that raises a spoil flag reports its bound to the leader (08 R228). -/
def State.spoilReport (s : State) (bound : Nat) : State :=
  if s.leads then s.spoilAtLeader bound else s.tellLeader (.report bound 2 0)

/-- The spoil summary of a stope in its seam's SB_ instances (07 R195). -/
def State.putSpoilBit (s : State) (n : Nat) (v : Bool) : State :=
  let i := n % 160
  [2 * (n / 160), 2 * (n / 160) + 1].foldl (fun s k => s.putBit SB_SPOIL.SPOIL (i % 64) v k (i / 64)) s

/-- A spoil flag and its causes clear (07 R205). -/
def State.clearSpoil (s : State) (n : Nat) : State :=
  let t := [ST_SPOIL.SPOIL, ST_SPOIL.C_CORR, ST_SPOIL.C_REPAIR, ST_SPOIL.C_LOST, ST_SPOIL.C_SLIP, ST_SPOIL.C_MEMUE].foldl
    (fun t f => t.wr f 0 n) s
  t.putSpoilBit n false

/-- The recovery to the restored tally `e` is complete: counted, signalled and logged (08 R228, 11 R309; 18 R477). A flag
that rose after its restore began starts a new recovery where its bound is below `e`; otherwise the leader has every member clear it. -/
def State.recovered (s : State) (e : Nat) (next : Option Recovery) : State :=
  let t := (s.count WD_SMP_STATUS.RECOVERIES).wd (fun w => { w with recovery := next, lateBound := none })
  let t := (t.wdIrq 4).post 7 0x0070 1 (e / 2 * 2)
  match s.winder.lateBound with
  | none => t
  | some b => if b < e then t.spoilAtLeader b else t.spoiledStopes.foldl (fun t n => t.clearSpoil n) (t.tellAll (.cmd e 9 false))

/-- The run that a recovery cut goes on (08 R228 step 3): the members run again, with a STEP or REPLAY of the host that is still in
progress. Otherwise the leader waits for them as for a RUN. -/
def State.recoveryRun (s : State) : State :=
  match s.winder.cmd with
  | some c =>
    if c.op = 3 ∨ c.op = 7 then
      let t := s.wd (fun w => { w with cmd := some { c with waiting := s.others, ownDone := false } })
      ((t.tellAll (.cmd c.arg c.op false)).startRun false).recovered s.tally none
    else ((s.tellAll (.cmd 0 2 false)).startRun false).recovered s.tally none
  | none =>
    let next : Option Recovery := if s.others.isEmpty then none else some ⟨.running, s.tally, 0, false, 0, s.others, true⟩
    ((s.tellAll (.cmd 0 1 false)).startRun false).recovered s.tally next

/-- The recovery goes on once this part and every member have restored (08 R228): a running group runs again, a stopped
one replays to where it stood. -/
def State.recoveryProceed (s : State) : State :=
  match s.winder.recovery with
  | none => s
  | some r =>
    if !r.waiting.isEmpty then s
    else if r.stage = .rewinding ∧ r.ownDone then
      if r.wasStopped then
        let t := s.wd (fun w => { w with recovery := some { r with stage := .replaying, bound := s.tally, waiting := s.others, ownDone := false } })
        if r.target ≤ s.tally then t.recovered s.tally none
        else ((t.scheduleOwn r.target 8).tellAll (.cmd r.target 7 false)).startRun false
      else s.recoveryRun
    else if r.stage = .replaying ∧ r.ownDone then s.recovered r.bound none
    else if r.stage = .running then s.wd (fun w => { w with recovery := none })
    else s

/-! ### Stopping (08 R207, R213) -/

/-- The run ends at the present boundary (08 R213): the state, the cause, then what waited for the stop. A recovery's stop (cause 3) leaves
any other STOP of that tally in the schedule, and a STEP or REPLAY in progress: both are for the run that follows. The stop of a recovery's
replay (8 in an EVENT) keeps the cause of before (08 R228). -/
def State.stopHere (s : State) (ev : SchedEvent) : State :=
  let mine := decide (ev.cause = 3)
  let t := s.wd (fun w => { w with events := w.events.filter (fun e =>
    decide (e.kind = .sample ∨ s.tally < e.e) || (mine && decide (e.cause ≠ 3))) })
  let t := t.refreshStop.windTo 1
  if mine then
    let t := t.wr WD_STATUS.STOP_CAUSE 3
    match s.winder.recovery with
    | some r => if r.stage = .stopping then t.recoveryRestore r else t
    | none => t
  else if ev.cause = 8 then
    match s.winder.recovery with
    | some r => (t.wd (fun w => { w with recovery := some { r with ownDone := true } })).recoveryProceed
    | none => t.cmdLocalDone 0
  else
    let t := (t.wr WD_STATUS.STOP_CAUSE ev.cause).wdIrq 1
    match ev.kind with
    | .rewind => if t.restorable ev.slot then t.startRestore ev.slot true else t.cmdLocalDone 7
    | _ =>
      match t.winder.cmd, t.winder.duty with
      | some c, _ => if c.op = 3 ∨ c.op = 7 then t.cmdLocalDone 0 else t
      | none, some d => if d = 3 ∨ d = 7 then t.cmdLocalDone 0 else t
      | none, none => t

/-- The event that stops the run at the present boundary (08 R213, R222): a recovery's STOP before any other, and a REWIND with the cause of a STOP at the
same tally. -/
def State.stopDue (s : State) : Option SchedEvent :=
  let due := s.winder.events.filter (fun e => decide (e.kind ≠ .sample ∧ e.e ≤ s.tally))
  match due.find? (fun e => decide (e.cause = 3)) with
  | some e => some e
  | none => match due.find? (fun e => decide (e.kind = .rewind)) with
    | some e => some { e with cause := ((due.find? (fun x => decide (x.kind = .stop))).getD e).cause }
    | none => due.head?

/-- A SAMPLE is scheduled at the present boundary and has not been taken (08 R213). -/
def State.sampleDue (s : State) : Option SchedEvent :=
  if s.winder.inStroke then none
  else s.winder.events.find? (fun e => decide (e.kind = .sample ∧ e.e = s.tally))

/-- After a boundary: a SAMPLE first, then a STOP (08 R213). -/
def State.settle (s : State) : State :=
  if s.wdState = 2 && !s.winder.inStroke && s.sampleDue.isNone then
    match s.stopDue with
    | some ev => s.stopHere ev
    | none => s
  else s

end Sys2Proof.Machine
end

