-- ==== Sys2Proof/Machine/Memory.lean ====
section
/-! DEFINITION. Bins, sumps and pick slices: units and their check bits, requests, collisions, queues, journals,
the slice datapath (05). -/

namespace Sys2Proof.Machine

/-! ### Spoil flags (07 R195) -/

/-- An event hits a stope: in use, it sets `SPOIL`, the cause bit, the tally and the bound, and signals the Winder and
the Foreman; not in use, it raises nothing (07 R195, R196). -/
def State.raiseSpoil (s : State) (n : Nat) (cause : Fld) (bound : Nat) : State :=
  if s.inUse n then
    let t :=
      if s.on ST_SPOIL.SPOIL n then
        (if bound < s.rd ST_SPOIL_BOUND.BOUND n then s.wr ST_SPOIL_BOUND.BOUND bound n else s)
      else (s.wr ST_SPOIL_TALLY.FIRST (s.rd WD_TALLY.TALLY) n).wr ST_SPOIL_BOUND.BOUND bound n
    let t := ((t.wr ST_SPOIL.SPOIL 1 n).wr cause 1 n).count ST_SPOIL.SPOIL_COUNT 1 n
    let bits := t.rd ST_SPOIL.SPOIL n + 2 * t.rd ST_SPOIL.C_CORR n + 4 * t.rd ST_SPOIL.C_REPAIR n
      + 8 * t.rd ST_SPOIL.C_LOST n + 16 * t.rd ST_SPOIL.C_SLIP n + 32 * t.rd ST_SPOIL.C_MEMUE n
    (((t.putSpoilBit n true).post 6 0x0061 1 (n + 1024 * bits)).emit (.spoil n bound)).spoilReport bound
  else s

/-! ### Units (05 R120, R121, R129, R130) -/

/-- The stored data bits of a unit. In a stope that has lost power (02 R61) a unit reads as a free value until it is
written; written units then carry bit 64 as a mark (log entry 19). -/
def State.unitRaw (s : State) (n m u : Nat) : Nat :=
  let v := Tab.get 0 s.fabMem ⟨m, n, u⟩
  match (s.stope n).lost with
  | some g => if v.testBit 64 then v % 2 ^ 64 else Config.lostUnit g (m, n, u) % 2 ^ 64
  | none => v % 2 ^ 64

/-- The check state of a unit. -/
def State.unitErr (s : State) (n m u : Nat) : Nat := Tab.get 0 s.fabErr ⟨m, n, u⟩

/-- A unit stored with a check state. -/
def State.putUnit (s : State) (n m u v err : Nat) : State :=
  let w := v % 2 ^ 64 + (if (s.stope n).lost.isSome then 2 ^ 64 else 0)
  { s with fabMem := Tab.set Key.lt 0 s.fabMem ⟨m, n, u⟩ w, fabErr := Tab.set Key.lt 0 s.fabErr ⟨m, n, u⟩ err }

/-- The data a unit's decoder gives: a single-bit error corrected, an uncorrectable one as stored. -/
def decodeUnit (raw err : Nat) : Nat := if err = 0 ∨ 64 < err then raw else raw ^^^ (2 ^ (err - 1))

/-- What a memory error records (05 R129, R130): counts, memory, unit and source. -/
def State.memError (s : State) (n m u src : Nat) (ue : Bool) : State :=
  let s := if ue then s.count ST_MEM_ECC.UE_COUNT 1 n else s.count ST_MEM_ECC.CE_COUNT 1 n
  (((s.wr ST_MEM_ECC.LAST_MEM m n).put ST_MEM_ECC.LAST_UE ue n).wr ST_MEM_ECC.LAST_UNIT u n).wr ST_MEM_ECC.LAST_SRC src n

/-- A unit read by an access of source `src` (0 fabric, 1 sweeper, 2 Corer copy, 3 queue controller): the data it
returns, whether it was uncorrectable, and the state after. -/
def State.readUnit (s : State) (n m u src : Nat) : Nat × Bool × State :=
  let e := s.unitErr n m u
  let v := decodeUnit (s.unitRaw n m u) e
  if e = 0 then (v, false, s)
  else if e < 100 then
    (v, false, (s.memError n m u src false).updStope n (fun x =>
      if (m, u) ∈ x.writebacks then x else { x with writebacks := x.writebacks ++ [(m, u)] }))
  else (v, true, (s.memError n m u src true).raiseSpoil n ST_SPOIL.C_MEMUE (s.rd WD_TALLY.TALLY))

/-- A unit written by the fabric or the queue controller (05 R121, R130, R132): over an uncorrectable unit the check
bits keep it uncorrectable; an armed injection inverts its bits and disarms. -/
def State.writeUnit (s : State) (n m u v : Nat) (wasUe : Bool) : State :=
  let s := s.updStope n (fun x => { x with writebacks := x.writebacks.filter (fun p => decide (p ≠ (m, u))) })
  if s.on ST_MEM_CTRL.INJ_ARM n && decide (s.rd ST_MEM_CTRL.INJ_MEM n = m) then
    let d := s.on ST_MEM_CTRL.INJ_DOUBLE n
    (s.putUnit n m u (v ^^^ (if d then 3 else 1)) (if wasUe || d then 100 else 1)).wr ST_MEM_CTRL.INJ_ARM 0 n
  else s.putUnit n m u v (if wasUe then 100 else 0)

/-! ### Journals (05 R138 to R142) -/

/-- The journal state of a memory. -/
def Stope.journal (x : Stope) (m : Nat) : MemJournal := Tab.get .idle x.journals m

/-- Units of a memory: 1,024 pairs of a bin, 16,384 words of a sump (05 R120). -/
def unitsOf (m : Nat) : Nat := if m < 16 then 1024 else 16384

/-- A write to the unit pushes its old contents (05 R139). -/
def State.mustPush (s : State) (n m u : Nat) : Bool :=
  let j := (s.stope n).journal m
  s.bit ST_MEM_JRNL.ARMED m n && decide (j.copyPtr ≤ u) && !(j.journalled.contains u)

/-- Writes of one phase to these units wait: the journal has no room for every old unit that they must push (05 R139, R142). DEDUCED
(log entry 94): two writes that must both push wait together. -/
def State.journalWaits (s : State) (n m : Nat) (us : List Nat) : Bool :=
  let k := (us.eraseDups.filter (s.mustPush n m)).length
  decide (k ≠ 0) && decide (64 < ((s.stope n).journal m).fifo.length + k)

/-- The write waits: it must push and the journal is full (05 R142). -/
def State.journalFull (s : State) (n m u : Nat) : Bool := s.journalWaits n m [u]

/-- The old contents of a unit enter the journal where they must (05 R139, R141). -/
def State.journalPush (s : State) (n m u old : Nat) (ue : Bool) : State :=
  if s.mustPush n m u then
    let j := (s.stope n).journal m
    let j' : MemJournal := { j with journalled := j.journalled ++ [u], fifo := j.fifo ++ [⟨old, u, m, ue⟩] }
    let t := s.updStope n (fun x => { x with journals := Tab.set natLt .idle x.journals m j' })
    if s.rd ST_MEM_JRNL.MAX_FILL n < j'.fifo.length then t.wr ST_MEM_JRNL.MAX_FILL j'.fifo.length n else t
  else s

/-- A memory arms for a sample (05 R138). -/
def State.armMemory (s : State) (n m : Nat) : State :=
  (s.updStope n (fun x => { x with journals := Tab.set natLt .idle x.journals m .idle })).putBit ST_MEM_JRNL.ARMED m true n

/-- The copy has passed the last unit and the journal is empty: the memory disarms (05 R140). -/
def State.disarmIfDone (s : State) (n m : Nat) : State :=
  let j := (s.stope n).journal m
  if s.bit ST_MEM_JRNL.ARMED m n && decide (unitsOf m ≤ j.copyPtr) && j.fifo.isEmpty then
    s.putBit ST_MEM_JRNL.ARMED m false n
  else s

/-! ### Requests (05 R122 to R128) -/

/-- Bytes of `w` where `be` enables them, else of `old` (`nb` bytes). -/
def mergeBytes (nb old w be : Nat) : Nat :=
  (List.range nb).foldl (fun acc i => acc + (bitsOf (if be.testBit i then w else old) (8 * i) 8) * 2 ^ (8 * i)) 0

/-- A word put in its place in a bin pair. -/
def putHalf (unit half w : Nat) : Nat :=
  if half = 0 then (unit / 2 ^ 32) * 2 ^ 32 + w % 2 ^ 32 else (w % 2 ^ 32) * 2 ^ 32 + unit % 2 ^ 32

/-- The word of a bin pair. -/
def half (unit h : Nat) : Nat := if h = 0 then unit % 2 ^ 32 else (unit / 2 ^ 32) % 2 ^ 32

/-- A captured memory request: word address, data, byte enables, read. -/
structure MemReq where
  tag : Nat
  addr : Nat
  wdata : Nat
  be : Nat
  re : Bool
  deriving DecidableEq, Repr

/-- A bin request from its captured input bits: `ADDR` 0 to 10, `WDATA` 11 to 42, `BE` 43 to 46, `RE` 47. -/
def binReq (tag v : Nat) : MemReq := ⟨tag, bitsOf v 0 11, bitsOf v 11 32, bitsOf v 43 4, v.testBit 47⟩

/-- A sump request: `ADDR` 0 to 13, `WDATA` 14 to 77, `BE` 78 to 85, `RE` 86. -/
def sumpReq (tag v : Nat) : MemReq := ⟨tag, bitsOf v 0 14, bitsOf v 14 64, bitsOf v 78 8, v.testBit 86⟩

/-- What a port's read gives (05 R127): none where the register keeps its value. -/
def readResult (wmode : Nat) (r : MemReq) (before after : Nat) : Option Nat :=
  if !r.re then none else if r.be = 0 then some before
  else if wmode = 0 then some before else if wmode = 1 then some after else none

/-- A result for port `p` and tag `c` that loads at the next slot end (05 R124). -/
def State.loadLater (s : State) (n p c : Nat) (v : Option Nat) : State :=
  match v with
  | none => s
  | some v => s.updStope n (fun x =>
      { x with ports := { x.ports with loading := ((⟨0, p, c⟩ : Key), v) :: Tab.erase x.ports.loading ⟨0, p, c⟩ } })

/-- A request is no longer due. -/
def State.notDue (s : State) (n p c : Nat) : State :=
  s.updStope n (fun x => { x with ports := { x.ports with due := x.ports.due.filter (fun d => decide (d ≠ (p, c))) } })

/-- The write of a bin RAM request merged into a pair. -/
def applyWrite (r : MemReq) (u unit : Nat) : Nat :=
  if r.be ≠ 0 ∧ r.addr / 2 = u then putHalf unit (r.addr % 2) (mergeBytes 4 (half unit (r.addr % 2)) r.wdata r.be) else unit

/-- Two writes of one word enable a byte with different data (05 R128). -/
def conflicting (a b : MemReq) : Bool :=
  decide (a.addr = b.addr) && (List.range 4).any (fun i =>
    a.be.testBit i && b.be.testBit i && decide (bitsOf a.wdata (8 * i) 8 ≠ bitsOf b.wdata (8 * i) 8))

/-- A pair that requests touch is read once, port B's bytes merge first and port A's over them, and a written pair is
stored (05 R121, R128). Answers the pair before and after. -/
def State.binPair (s : State) (n m u : Nat) (rs : List MemReq) : Nat × Nat × State :=
  let (old, ue, s1) := s.readUnit n m u 0
  let new := rs.reverse.foldl (fun v r => applyWrite r u v) old
  if rs.any (fun r => decide (r.be ≠ 0 ∧ r.addr / 2 = u)) then
    (old, new, (s1.journalPush n m u old ue).writeUnit n m u new ue)
  else (old, new, s1)

/-- The pairs that requests write. -/
def writtenPairs (rs : List MemReq) : List Nat := (rs.filter (fun r => decide (r.be ≠ 0))).map (fun r => r.addr / 2)

/-- The requests of one bin in RAM mode in one phase: `pr` lists port and request, port A first (05 R127, R128). A
write that must push into a full journal waits, with the requests of its phase (05 R142). DESIGN CHOICE (log entry 93): where the ports
write different pairs, an armed injection (R132) hits port A's. -/
def State.binRam (s : State) (n m : Nat) (pr : List (Nat × MemReq)) : State :=
  let rs := pr.map Prod.snd
  let units := (rs.filter (fun r => r.re || decide (r.be ≠ 0))).map (fun r => r.addr / 2) |>.eraseDups
  if s.journalWaits n m (writtenPairs rs) then s
  else
    let (res, s) := units.foldl (fun (acc : List (Nat × Nat × Nat) × State) u =>
      let (o, v, t) := acc.2.binPair n m u rs
      (acc.1 ++ [(u, o, v)], t)) ([], s)
    let s := match rs with
      | [a, b] =>
        if conflicting a b then
          (((s.wr ST_MEM_COLL.COLL 1 n).count ST_MEM_COLL.COLL_COUNT 1 n).wr ST_MEM_COLL.COLL_BIN m n).wr
            ST_MEM_COLL.COLL_ADDR a.addr n
        else s
      | _ => s
    pr.foldl (fun s pq =>
      let r := pq.2
      let (o, v) := (res.lookup (r.addr / 2)).getD (0, 0)
      let out := readResult ((s.stope n).cfg.port pq.1).wmode r (half o (r.addr % 2)) (half v (r.addr % 2))
      (s.loadLater n pq.1 r.tag out).notDue n pq.1 r.tag) s

/-- A request of a sump (05 R127). -/
def State.sumpRam (s : State) (n m p : Nat) (r : MemReq) : State :=
  if decide (r.be ≠ 0) && s.journalFull n m r.addr then s
  else
    let s' :=
      if r.re || decide (r.be ≠ 0) then
        let (old, ue, s1) := s.readUnit n m r.addr 0
        let new := mergeBytes 8 old r.wdata r.be
        let s2 := if r.be ≠ 0 then (s1.journalPush n m r.addr old ue).writeUnit n m r.addr new ue else s1
        s2.loadLater n p r.tag (readResult ((s.stope n).cfg.port p).wmode r old new)
      else s
    s'.notDue n p r.tag

/-! ### Bin queues (05 R133 to R137) -/

/-- The queue of a bin. -/
def Stope.queue (x : Stope) (b : Nat) : BinQueue := Tab.get .empty x.ports.queues b

/-- `BQMODE` of a bin (05 R133). -/
def Stope.bqmode (x : Stope) (b : Nat) : Nat := Tab.get 0 x.cfg.binMode b

/-- The queue of a bin replaced. -/
def State.setQueue (s : State) (n b : Nat) (q : BinQueue) : State :=
  s.updStope n (fun x => { x with ports := { x.ports with queues := Tab.set natLt .empty x.ports.queues b q } })

/-- The level interrupt after the count went from `old` to `new` (05 R136). While an interrupt write of the bin is outstanding a firing
sends no second one (DESIGN CHOICE, log entry 94). -/
def State.levelCheck (s : State) (n b old new : Nat) : State :=
  let level := s.rd ST_BQ_CTRL.LEVEL n b
  let hyst := s.rd ST_BQ_CTRL.HYST n b
  if s.on ST_BQ_STATUS.IRQ_ARMED n b then
    if old < level ∧ level ≤ new then
      let t := (s.wr ST_BQ_STATUS.IRQ_ARMED 0 n b).wr ST_BQ_STATUS.IRQ_PEND 1 n b
      if s.on ST_BQ_CTRL.IRQ_EN n b && !(s.stope n).levelOut.contains b then
        (t.updStope n (fun x => { x with levelOut := x.levelOut ++ [b] })).emit
          (.levelWrite n b (4 * s.rd ST_BQ_IRQ_ADDR.ADDR n b) (s.rd ST_BQ_IRQ_DATA.DATA n b))
      else t
    else s
  else if new ≤ level - hyst then s.wr ST_BQ_STATUS.IRQ_ARMED 1 n b
  else s

/-- Words that the controller has moved and no boundary has committed: arrivals positive, removals negative (11
R297). -/
def State.uncommitted (s : State) (n b : Nat) : Int := Tab.get 0 s.sampler.moved ⟨0, n, b⟩

/-- The count that the fabric sees (05 R134, 11 R297). -/
def State.visible (s : State) (n b : Nat) : Nat := (((s.stope n).queue b).count - s.uncommitted n b).toNat

/-- The Cage changed. -/
def State.cg (s : State) (g : Cage → Cage) : State := { s with cage := g s.cage }

/-- The link of a bin. -/
def State.binEnd (s : State) (n b : Nat) : BinEnd := Tab.get .cold s.cage.bins ⟨0, n, b⟩

/-- The link of a bin replaced. -/
def State.setBinEnd (s : State) (n b : Nat) (e : BinEnd) : State :=
  s.cg (fun c => { c with bins := Tab.set Key.lt .cold c.bins ⟨0, n, b⟩ e })

/-- The controller of a DOWN bin reports its free entries after every 16 words that the fabric pops and whenever the queue
empties (12 R323). -/
def State.binReport (s : State) (n b : Nat) : State :=
  let e := s.binEnd n b
  let count := ((s.stope n).queue b).count
  if e.taken = 15 ∨ count = 0 then s.setBinEnd n b { e with taken := 0, credit := 2048 - count - e.inbuf.length }
  else s.setBinEnd n b { e with taken := e.taken + 1 }

/-- A word enters a bin queue at its write pointer, with its last-word mark (05 R133). -/
def State.queuePush (s : State) (n b w src : Nat) (last : Bool) : State :=
  let q := (s.stope n).queue b
  let (old, ue, s1) := s.readUnit n b (q.wp / 2) src
  let new := putHalf old (q.wp % 2) w
  let s2 := (s1.journalPush n b (q.wp / 2) old ue).writeUnit n b (q.wp / 2) new ue
  let s3 := s2.updStope n (fun x => { x with ports := { x.ports with lastMark := Tab.set Key.lt false x.ports.lastMark ⟨0, b, q.wp⟩ last } })
  s3.setQueue n b { q with wp := (q.wp + 1) % 2048, count := q.count + 1 }

/-- The oldest word of a bin queue leaves, with its last-word mark (05 R133). -/
def State.queuePop (s : State) (n b src : Nat) : (Nat × Bool) × State :=
  let q := (s.stope n).queue b
  let (old, _, s1) := s.readUnit n b (q.rp / 2) src
  ((half old (q.rp % 2), Tab.get false (s.stope n).ports.lastMark ⟨0, b, q.rp⟩),
    s1.setQueue n b { q with rp := (q.rp + 1) % 2048, count := q.count - 1 })

/-- A request on a push port (05 R133, R135): a full queue drops the word and sets `OVERRUN`. In UP mode byte enable 3
alone marks the last word of a packet. -/
def State.binPush (s : State) (n b p : Nat) (r : MemReq) : State :=
  let v := s.visible n b
  if r.be = 0 then s.notDue n p r.tag
  else if 2048 ≤ v then (s.wr ST_BQ_STATUS.OVERRUN 1 n b).notDue n p r.tag
  else if s.journalFull n b (((s.stope n).queue b).wp / 2) then s
  else (s.queuePush n b r.wdata 0 (decide (r.be = 8) && decide ((s.stope n).bqmode b = 2))).notDue n p r.tag

/-- A request on a pop port (05 R133, R135): an empty queue loads 0 and sets `UNDERRUN`. -/
def State.binPop (s : State) (n b p : Nat) (r : MemReq) : State :=
  let v := s.visible n b
  if !r.re then s.notDue n p r.tag
  else if v = 0 then ((s.wr ST_BQ_STATUS.UNDERRUN 1 n b).loadLater n p r.tag (some 0)).notDue n p r.tag
  else
    let (w, t) := s.queuePop n b 0
    let t := if (s.stope n).bqmode b = 3 then t.binReport n b else t
    (t.loadLater n p r.tag (some w.1)).notDue n p r.tag

/-- The due request of a bin's port A (0) or B (1). -/
def State.binDue (s : State) (n b port : Nat) : Option (Nat × MemReq) :=
  let x := s.stope n
  (x.ports.due.find? (fun d => decide (d.1 = 2 * b + port))).map (fun d => (d.1, binReq d.2 (Tab.get 0 x.ports.req ⟨0, d.1, d.2⟩)))

/-- A due write of the bin, or a push on its push port, must push into a full journal (05 R133, R142). -/
def State.binWaits (s : State) (n b : Nat) : Bool :=
  let x := s.stope n
  let mode := x.bqmode b
  let a := s.binDue n b 0
  if mode = 0 then s.journalWaits n b (writtenPairs (a.toList ++ (s.binDue n b 1).toList |>.map Prod.snd))
  else if mode = 3 then false
  else a.any (fun pq => decide (pq.2.be ≠ 0)) && decide (s.visible n b < 2048) && s.journalFull n b ((x.queue b).wp / 2)

/-- The due requests of one bin execute (05 R124, R133). In FABRIC mode the pop takes its word before the push of the
same phase (DEDUCED, log entry 9); the level interrupt sees what the phase leaves (R136). -/
def State.binExecute (s : State) (n b : Nat) : State :=
  let x := s.stope n
  let a := s.binDue n b 0
  let bb := s.binDue n b 1
  let mode := x.bqmode b
  if mode = 0 then s.binRam n b (a.toList ++ bb.toList)
  else
    let t := match bb with
      | some (p, r) => if mode = 1 then s.binPop n b p r else s.notDue n p r.tag
      | none => s
    let t := match a with
      | some (p, r) => if mode = 3 then t.binPop n b p r else t.binPush n b p r
      | none => t
    t.levelCheck n b (s.visible n b) (t.visible n b)

/-! ### Pick slices (05 R143 to R146) -/

/-- A number of `w` bits taken as signed. -/
def sext (w v : Nat) : Int := let m := v % 2 ^ w; if m < 2 ^ (w - 1) then (m : Int) else (m : Int) - 2 ^ w

/-- A signed value as `w` bits. -/
def toBits (w : Nat) (v : Int) : Nat := (v % (2 ^ w : Int)).toNat

/-- The result of a slice operation: P and `OVF` (05 R144, R145); none under HOLD. `acc` is ACC of the tag, `link` the
accumulator of the slice below. With `PRE` = 0 the spec states no PS: PADD then adds a free value (log entry 10). -/
def sliceOp (cfg : PortCfg) (op u v y z acc link : Nat) : Option (Nat × Bool) :=
  let ps := toBits 30 (if cfg.pre = 2 then sext 30 u - sext 30 v else sext 30 u + sext 30 v)
  let m1 := if cfg.pre = 0 then u % 2 ^ 27 else ps % 2 ^ 27
  let m := sext 27 m1 * sext 27 y
  let sum := fun (r : Int) => some (toBits 64 r, decide (sext 64 (toBits 64 r) ≠ r))
  if op = 0 then none
  else if op = 1 then some (toBits 64 m, false)
  else if op = 2 then sum (sext 64 acc + m)
  else if op = 3 then sum (sext 64 acc - m)
  else if op = 4 then sum (sext 64 z + m)
  else if op = 5 then sum (sext 64 link + m)
  else if op = 6 then sum (sext 64 acc + sext 30 (if cfg.pre = 0 then Config.preAdderOff u v else ps))
  else some (z % 2 ^ 64, false)

/-- The flags of a result (05 R145): bit 0 `PEQ`, bit 1 `PGT`, bit 2 `OVF`. -/
def sliceFlags (cfg : PortCfg) (p : Nat) (ovf : Bool) : Nat :=
  b2n (decide (((p ^^^ cfg.pattern) &&& (ones 64 ^^^ cfg.mask)) = 0)) + 2 * b2n (decide (sext 64 cfg.pattern < sext 64 p))
    + 4 * b2n ovf

/-- A due slice request executes (05 R144, R146): inputs U 0 to 29, V 30 to 59, Y 60 to 86, Z 87 to 150, OP 151 to
153. `LINK` is the accumulator below as it stands; the result loads at the slot end. -/
def State.sliceExecute (s : State) (n p c : Nat) : State :=
  let x := s.stope n
  let v := Tab.get 0 x.ports.req ⟨0, p, c⟩
  let cfg := x.cfg.port p
  let link := if p = 34 then 0 else Tab.get 0 x.ports.out ⟨0, p - 1, c⟩
  match sliceOp cfg (bitsOf v 151 3) (bitsOf v 0 30) (bitsOf v 30 30) (bitsOf v 60 27) (bitsOf v 87 64)
      (Tab.get 0 x.ports.out ⟨0, p, c⟩) link with
  | none => s.notDue n p c
  | some (r, ovf) =>
    let t := (s.loadLater n p c (some r)).notDue n p c
    t.updStope n (fun x => { x with ports := { x.ports with
      loadingFlags := ((⟨0, p - 34, c⟩ : Key), sliceFlags cfg r ovf) :: Tab.erase x.ports.loadingFlags ⟨0, p - 34, c⟩ } })

/-- Every due request of a stope executes (05 R124): bins, sumps, slices. -/
def State.executeDue (s : State) (n : Nat) : State :=
  let due := (s.stope n).ports.due
  let bins := (due.filter (fun d => decide (d.1 < 32))).map (fun d => d.1 / 2) |>.eraseDups
  let s := bins.foldl (fun s b => s.binExecute n b) s
  due.foldl (fun s d =>
    if d.1 < 32 then s
    else if d.1 < 34 then
      s.sumpRam n (d.1 - 16) d.1 (sumpReq d.2 (Tab.get 0 (s.stope n).ports.req ⟨0, d.1, d.2⟩))
    else s.sliceExecute n d.1 d.2) s

/-- Results waiting for the slot end load (05 R124, R125). -/
def loadResults (x : Stope) : Stope :=
  { x with ports := { x.ports with
      out := x.ports.loading.foldl (fun t kv => Tab.set Key.lt 0 t kv.1 kv.2) x.ports.out
      flags := x.ports.loadingFlags.foldl (fun t kv => Tab.set Key.lt 0 t kv.1 kv.2) x.ports.flags
      loading := [], loadingFlags := [] } }

/-- Input bits of a port (05 R122, R143). -/
def portWidth (p : Nat) : Nat := if p < 32 then 48 else if p < 34 then 87 else 154

/-- Every port tagged with context `c` captures its inputs (05 R123, R124). -/
def capturePorts (e : EvalEnv) (x : Stope) : Stope :=
  e.st.cfg.ports.foldl (fun x pc =>
    if pc.2.tags.testBit e.ctx then
      let v := (List.range (portWidth pc.1)).foldl (fun a i => a + b2n (e.sink (.port pc.1 i)) * 2 ^ i) 0
      { x with ports := { x.ports with
          req := Tab.set Key.lt 0 x.ports.req ⟨0, pc.1, e.ctx⟩ v
          due := x.ports.due.filter (fun d => decide (d ≠ (pc.1, e.ctx))) ++ [(pc.1, e.ctx)] } }
    else x) x

/-- `QRDY` of every fabric-side queue port at a slot end (05 R134). `seen` is the count that the fabric sees. -/
def updateQrdy (c : Nat) (seen : Nat → Nat) (x : Stope) : Stope :=
  let captured := fun p (want : MemReq → Bool) =>
    decide ((p, c) ∈ x.ports.due) && want (binReq c (Tab.get 0 x.ports.req ⟨0, p, c⟩))
  { x with qrdy := x.cfg.binMode.foldl (fun t bm =>
      let n := seen bm.1
      let push := fun p => decide (1 + b2n (captured p (fun r => decide (r.be ≠ 0))) ≤ 2048 - n)
      let pop := fun p => decide (1 + b2n (captured p (fun r => r.re)) ≤ n)
      let a := 2 * bm.1
      if bm.2 = 1 then Tab.set natLt false (Tab.set natLt false t a (push a)) (a + 1) (pop (a + 1))
      else if bm.2 = 2 then Tab.set natLt false t a (push a)
      else if bm.2 = 3 then Tab.set natLt false t a (pop a) else t) x.qrdy }

/-! ### Commits of the bin queue ends (11 R297, R304) -/

/-- The logged commit that a replay is to repeat on a bin at a boundary that has passed, if any: its count. -/
def State.replayCommit (s : State) (n b : Nat) : Option Nat :=
  s.sampler.replay.findSome? (fun r => match r with
    | .commit m c t k => if m = n ∧ c = b ∧ t < s.tally then some k else none
    | .packet .. => none)

/-- The bin's logged commits are not exhausted (11 R304). -/
def State.replaysBin (s : State) (n b : Nat) : Bool :=
  s.sampler.replay.any (fun r => match r with
    | .commit m c _ _ => decide (m = n ∧ c = b)
    | .packet .. => false)

/-- `k` words of a bin commit at a boundary (11 R297): the fabric sees them, and the level interrupt follows. -/
def State.commitWords (s : State) (n b k : Nat) : State :=
  let d := s.uncommitted n b
  let d' : Int := if 0 ≤ d then d - k else d + k
  let v := s.visible n b
  let t := s.smp (fun x => { x with moved := Tab.set Key.lt 0 x.moved ⟨0, n, b⟩ d' })
  t.levelCheck n b v (t.visible n b)

/-- A bin commits at the boundary that ended the stroke before the present tally (11 R297): all that moved, with a
record in the log; in a replay exactly the logged count at each logged boundary, once the words are there (R304). -/
def State.commitBin (s : State) (n b : Nat) : State :=
  let d := s.uncommitted n b
  if s.replaysBin n b then
    match s.replayCommit n b with
    | some k =>
      if k ≤ d.natAbs then
        (s.commitWords n b k).smp (fun x => { x with replay := x.replay.filter (fun r => match r with
          | .commit m c t _ => !decide (m = n ∧ c = b ∧ t < s.tally)
          | .packet .. => true) })
      else s
    | none => s
  else if d = 0 then s
  else (s.commitWords n b d.natAbs).logRecord (.commit n b (s.tally - 1) d.natAbs)

/-- Every bin with words moved or a logged commit due commits (11 R297, R304). -/
def State.commitBins (s : State) : State :=
  let moved := s.sampler.moved.map (fun kv => (kv.1.unit, kv.1.idx))
  let logged := s.sampler.replay.filterMap (fun r => match r with
    | .commit m c t _ => if t < s.tally then some (m, c) else none
    | .packet .. => none)
  (moved ++ logged).eraseDups.foldl (fun s nb => s.commitBin nb.1 nb.2) s

/-- A bin of the stope still waits for the words of a logged commit (11 R304). -/
def State.commitWaits (s : State) (n : Nat) : Bool :=
  s.sampler.replay.any (fun r => match r with
    | .commit m _ t _ => decide (m = n ∧ t < s.tally)
    | .packet .. => false)

end Sys2Proof.Machine
end

