-- ==== Sys2Proof/Machine/PinOps.lean ====
section
/-! DEFINITION. User pins: owners, safe states, what the pad shows and what the fabric sees (21 R525 to R529, 07 R181). -/

namespace Sys2Proof.Machine

/-- The stope that owns pin `j` of user bank `b` (21 R525). -/
def pinStope (b j : Nat) : Nat :=
  let h := b % 4
  (b / 4) * 160 + ((h % 2) * 8 + j / 6) * 10 + (if h < 2 then 0 else 9)

/-- The user pins of a stope as (bank, pin) (21 R525). -/
def stopePins (n : Nat) : List (Nat × Nat) :=
  let c := (n % 160) % 10
  let r := (n % 160) / 10
  if c ≠ 0 ∧ c ≠ 9 then []
  else
    let b := (n / 160) * 4 + (if c = 0 then 0 else 2) + r / 8
    (List.range 6).map (fun k => (b, (r % 8) * 6 + k))

/-- The state of a pin. -/
def State.pin (s : State) (b j : Nat) : Pin := Tab.get .cold s.pins (48 * b + j)

/-- A pin changed. -/
def State.updPin (s : State) (b j : Nat) (g : Pin → Pin) : State :=
  { s with pins := Tab.set natLt .cold s.pins (48 * b + j) (g (s.pin b j)) }

/-- The bank is ON and the pin is digital (21 R527). -/
def State.pinLive (s : State) (b j : Nat) : Bool :=
  decide (s.rd IO_BANK_STATUS.STATE b = 2) && !s.on IO_PIN.ANALOG b j

/-- What the pad drives: nothing, or a level (21 R527, R528). -/
def State.padDrive (s : State) (b j : Nat) : Option Bool :=
  let p := s.pin b j
  if !s.pinLive b j then none
  else if p.fabric then (if p.padT then some p.padO else none)
  else
    let safe := s.rd IO_PIN.SAFE b j
    if safe = 0 then none else if safe = 1 then some false else if safe = 2 then some true
    else if p.padT then some p.padO else none

/-- The level on a pad: what the part drives, else what lies outside (free). -/
def State.padLevel (s : State) (b j : Nat) : Bool :=
  (s.padDrive b j).getD (Config.padLevel (48 * b + j) s.freeCount)

/-- The pins of a stope that leaves use take their safe state and read 0 (07 R181, 21 R527). -/
def State.pinsSafe (s : State) (n : Nat) : State :=
  (stopePins n).foldl (fun s bj => s.updPin bj.1 bj.2 (fun p => { p with fabric := false, input := false })) s

/-- Before phase 0 of a stroke the input registers of the pins of a stope in use load, and the pins return to fabric
control (21 R526, R529; 07 R181). -/
def State.loadPins (s : State) (n : Nat) : State :=
  (stopePins n).foldl (fun s bj =>
    let live := s.pinLive bj.1 bj.2
    s.updPin bj.1 bj.2 (fun p => { p with input := live && s.padLevel bj.1 bj.2, fabric := live })) s

/-- The pads of a stope's pins take the captured O and T on the stroke boundary (21 R526). -/
def State.drivePins (s : State) (n : Nat) : State :=
  (stopePins n).foldl (fun s bj =>
    s.updPin bj.1 bj.2 (fun p => if p.fabric then { p with padO := p.o, padT := p.t } else p)) s

end Sys2Proof.Machine
end

