-- ==== Sys2Proof/Machine/Blocks.lean ====
section
/-! DEFINITION. Codes of the lanes and the page code as plain arithmetic: Reed-Solomon codes over GF(2^w), the CRC-8 of control blocks, the
257-bit blocks (09 R237 to R239, 10 R270 to R272), the scrambler, Gray mapping and precoding (09 R237). The bit orders that the spec takes
from the standards it names are marked in log entry 98. -/

namespace Sys2Proof.Machine

/-! ### Reed-Solomon codes over GF(2^w): the roots are α^0, α^1, …; the first symbol has the highest power -/

/-- Product in GF(2^w) with the field polynomial `poly`. -/
def gfMul (w poly a b : Nat) : Nat :=
  (List.range w).foldl (fun r i =>
    let r := 2 * r
    let r := if bitAt r w then r ^^^ poly else r
    if bitAt b (w - 1 - i) then r ^^^ a else r) 0

/-- `a` to the power `n`. -/
def gfPow (w poly a n : Nat) : Nat := (List.range n).foldl (fun r _ => gfMul w poly r a) 1

/-- The inverse of `a`: its power 2^w − 2. -/
def gfInv (w poly a : Nat) : Nat :=
  ((List.range (w - 1)).foldl (fun p _ => let q := gfMul w poly p.1 p.1; (q, gfMul w poly p.2 q)) (a, 1)).2

/-- A polynomial with the constant term first, at `x`. -/
def gfEval (w poly : Nat) (p : List Nat) (x : Nat) : Nat := p.reverse.foldl (fun r c => gfMul w poly r x ^^^ c) 0

/-- The generator polynomial of `n` check symbols, without its leading 1, highest power first. -/
def rsGen (w poly n : Nat) : List Nat :=
  ((List.range n).foldl (fun g j =>
    let a := gfPow w poly 2 j
    (g ++ [0]).zipWith (fun x y => x ^^^ gfMul w poly a y) ([0] ++ g)) [1]).drop 1

/-- The check symbols of a message. -/
def rsCheck (w poly n : Nat) (msg : List Nat) : List Nat :=
  let g := rsGen w poly n
  msg.foldl (fun r m =>
    let f := m ^^^ r.headD 0
    (r.drop 1 ++ [0]).zipWith (fun x y => x ^^^ gfMul w poly f y) g) (List.replicate n 0)

/-- The syndromes of a received word. -/
def rsSyndromes (w poly n : Nat) (cw : List Nat) : List Nat :=
  (List.range n).map (fun j =>
    let a := gfPow w poly 2 j
    cw.foldl (fun r c => gfMul w poly r a ^^^ c) 0)

/-- The search for the error locator (Berlekamp and Massey): locator, last locator, length, gap, last discrepancy. -/
structure RsSearch where
  c : List Nat
  b : List Nat
  len : Nat
  gap : Nat
  disc : Nat
  deriving DecidableEq, Repr

/-- One syndrome more. -/
def RsSearch.next (w poly : Nat) (syn : List Nat) (x : RsSearch) (n : Nat) : RsSearch :=
  let d := (List.range (x.len + 1)).foldl (fun a i => a ^^^ gfMul w poly (x.c.getD i 0) (if i ≤ n then syn.getD (n - i) 0 else 0)) 0
  if d = 0 then { x with gap := x.gap + 1 }
  else
    let k := gfMul w poly d (gfInv w poly x.disc)
    let sh := List.replicate x.gap 0 ++ x.b.map (gfMul w poly k)
    let c := (List.range (max x.c.length sh.length)).map (fun i => x.c.getD i 0 ^^^ sh.getD i 0)
    if 2 * x.len ≤ n then ⟨c, x.c, n + 1 - x.len, 1, d⟩ else { x with c := c, gap := x.gap + 1 }

/-- A received word decoded: the number of symbols corrected and the word, or none where more than `n` / 2 symbols differ from every word
of the code. -/
def rsDecode (w poly n : Nat) (cw : List Nat) : Option (Nat × List Nat) :=
  let syn := rsSyndromes w poly n cw
  if syn.all (· = 0) then some (0, cw)
  else
    let x := (List.range n).foldl (fun x k => x.next w poly syn k) (⟨[1], [1], 0, 1, 1⟩ : RsSearch)
    let omega := (List.range n).map (fun k =>
      (List.range (k + 1)).foldl (fun a i => a ^^^ gfMul w poly (x.c.getD i 0) (syn.getD (k - i) 0)) 0)
    let deriv := (List.range x.c.length).map (fun i => if i % 2 = 0 then x.c.getD (i + 1) 0 else 0)
    let fixed := (List.range cw.length).map (fun i =>
      let v := gfPow w poly 2 ((cw.length - 1 - i) % (2 ^ w - 1))
      let u := gfInv w poly v
      if gfEval w poly x.c u = 0 then
        cw.getD i 0 ^^^ gfMul w poly v (gfMul w poly (gfEval w poly omega u) (gfInv w poly (gfEval w poly deriv u)))
      else cw.getD i 0)
    let errs := ((List.range cw.length).filter (fun i => decide (fixed.getD i 0 ≠ cw.getD i 0))).length
    if n < 2 * x.len ∨ errs ≠ x.len ∨ !(rsSyndromes w poly n fixed).all (· = 0) then none else some (errs, fixed)

/-! ### Control blocks (09 R238) -/

/-- CRC-8 of `n` bits, the first sent first (09 R238; 20 R505). -/
def crc8Of (n v : Nat) : Nat :=
  (List.range n).foldl (fun c i => if bitAt c 7 ≠ bitAt v i then (2 * c % 256) ^^^ 7 else 2 * c % 256) 0

/-- CRC-8 of the 248 bits of a control block's code and content, bit 1 of the block first (09 R238). -/
def crc8 (v : Nat) : Nat := crc8Of 248 v

/-- A control block with a code and content (09 R238). -/
def ctrlBlock (code content : Nat) : Nat :=
  let v := code + content * 2 ^ 8
  1 + v * 2 + crc8 v * 2 ^ 249

/-- `CODE` of a block. -/
def blockCode (b : Nat) : Nat := bitsOf b 1 8

/-- `CCRC` passes. -/
def ccrcOk (b : Nat) : Bool := decide (bitsOf b 249 8 = crc8 (bitsOf b 1 248))

/-- Codes that are not reserved (09 R238, 10 R272). -/
def codeKnown (c : Nat) : Bool := c = 0x00 || c = 0xA5 || c = 0x5A || (decide (0x10 ≤ c) && decide (c ≤ 0x13))

/-- IDLE and SLEEP (09 R238). -/
def idleBlock : Nat := ctrlBlock 0x00 0
def sleepBlock : Nat := ctrlBlock 0x5A 0

/-- `COMMA` (09 R239). -/
def comma : Nat := 0xB62D49F02D6B0F94

/-- An alignment block (09 R239). -/
def alignBlock (lane port part fec rate split acount : Nat) : Nat :=
  ctrlBlock 0xA5 (comma + lane * 2 ^ 64 + port * 2 ^ 67 + part * 2 ^ 71 + fec * 2 ^ 79 + rate * 2 ^ 80 + split * 2 ^ 83
    + acount % 2 ^ 32 * 2 ^ 84)

/-- Bits of a number that are 1, below `n`. -/
def countOnes (n v : Nat) : Nat := (List.range n).foldl (fun a i => a + b2n (bitAt v i)) 0

/-- Bits in which a block's comma field differs from `COMMA` (09 R245). -/
def commaBits (b : Nat) : Nat := countOnes 64 (bitsOf b 9 64 ^^^ comma)

/-! ### Blocks of the transport (10 R270 to R272) -/

/-- The header of a stroke frame (10 R270). -/
def frameHeader (seq ack : Nat) (ackv : Bool) (stream dlen tally crc : Nat) : Nat :=
  ctrlBlock 0x10 (seq % 2 ^ 12 + ack % 2 ^ 12 * 2 ^ 12 + b2n ackv * 2 ^ 24 + stream % 16 * 2 ^ 25 + dlen % 128 * 2 ^ 29
    + tally % 2 ^ 16 * 2 ^ 36 + crc % 2 ^ 32 * 2 ^ 52)

/-- ACK, NAK and SYNC (10 R272). -/
def ackBlock (ack : Nat) : Nat := ctrlBlock 0x11 (ack % 2 ^ 12)
def nakBlock (next : Nat) : Nat := ctrlBlock 0x12 (next % 2 ^ 12)
def syncBlock (next mode lat : Nat) (gated roleMove : Bool) (rcnt : Nat) : Nat :=
  ctrlBlock 0x13 (next % 2 ^ 12 + mode % 2 * 2 ^ 12 + lat % 32 * 2 ^ 13 + b2n gated * 2 ^ 18 + b2n roleMove * 2 ^ 19
    + rcnt % 256 * 2 ^ 20)

/-- A data block with a body of 256 bits (09 R237, 10 R271). -/
def dataBlock (body : Nat) : Nat := body % 2 ^ 256 * 2

/-- A stroke frame: header fields and the bodies of its data blocks (10 R270, R271). -/
structure XFrame where
  seq : Nat
  ack : Nat
  ackv : Bool
  stream : Nat
  dlen : Nat
  tally : Nat
  data : List Nat
  crc : Nat
  deriving DecidableEq, Repr

/-- The frame that a header and the data blocks after it give (10 R270, R271). -/
def XFrame.ofBlocks (h : Nat) (data : List Nat) : XFrame :=
  ⟨bitsOf h 9 12, bitsOf h 21 12, bitAt h 33, bitsOf h 34 4, bitsOf h 38 7, bitsOf h 45 16, data.map (fun b => bitsOf b 1 256), bitsOf h 61 32⟩

/-- The rows of a frame on a sub-port of width `w`: a header starts a row, and IDLE fills the last (10 R269). -/
def frameRows (w : Nat) (blocks : List Nat) : List (List Nat) :=
  (List.range ((blocks.length + w - 1) / w)).map (fun r => (List.range w).map (fun j => blocks.getD (r * w + j) idleBlock))

/-! ### The line (09 R237) -/

/-- Up to 39 bits through the scrambler x^58 + x^39 + 1: `h` holds the last 58 bits sent, the oldest as bit 0. -/
def scrambleStep (h v n : Nat) : Nat × Nat :=
  let o := (v ^^^ h ^^^ (h >>> 19)) % 2 ^ n
  (o, (h + o * 2 ^ 58) >>> n)

/-- The cuts of a 256-bit body for the scrambler: offset and bits. -/
def bodyCuts : List (Nat × Nat) := [(0, 39), (39, 39), (78, 39), (117, 39), (156, 39), (195, 39), (234, 22)]

/-- A body of 256 bits scrambled, and the bits the scrambler holds after it. -/
def scramble (h v : Nat) : Nat × Nat :=
  bodyCuts.foldl (fun p c => let x := scrambleStep p.2 (bitsOf v c.1 c.2) c.2; (p.1 + x.1 * 2 ^ c.1, x.2)) (0, h)

/-- A received body descrambled, and the bits held after it. -/
def descramble (h v : Nat) : Nat × Nat :=
  bodyCuts.foldl (fun p c =>
    let x := bitsOf v c.1 c.2
    (p.1 + ((x ^^^ p.2 ^^^ (p.2 >>> 19)) % 2 ^ c.2) * 2 ^ c.1, (p.2 + x * 2 ^ 58) >>> c.2)) (0, h)

/-- Blocks of 257 bits end to end, bit 0 of the first block first. -/
def packBlocks (bs : List Nat) : Nat := (bs.foldl (fun p b => (p.1 + b % 2 ^ 257 * 2 ^ p.2, p.2 + 257)) (0, 0)).1

/-- The Gray mapping of two bits to a PAM4 level, and of a level to its bits: 00, 01, 11 and 10 are levels 0 to 3. -/
def gray (v : Nat) : Nat := if v < 2 then v else 5 - v

/-- The levels of `n` bits on the line and the last level before polarity: NRZ, or PAM4 with or without the 1/(1+D) precoder. -/
def lineLevels (pam pre inv : Bool) (prev n v : Nat) : List Nat × Nat :=
  if pam then
    (List.range (n / 2)).foldl (fun p j =>
      let g := gray (bitsOf v (2 * j) 2)
      let l := if pre then (g + 4 - p.2) % 4 else g
      (p.1 ++ [if inv then 3 - l else l], l)) ([], prev)
  else ((List.range n).map (fun j => b2n (bitAt v j != inv)), prev)

/-- The bits of received levels, and the last level after polarity. -/
def lineBits (pam pre inv : Bool) (prev : Nat) (ls : List Nat) : Nat × Nat :=
  let r := ls.foldl (fun (p : Nat × Nat × Nat) x =>
    if pam then
      let l := if inv then 3 - x % 4 else x % 4
      (p.1 + gray (if pre then (l + p.2.2) % 4 else l) * 2 ^ p.2.1, p.2.1 + 2, l)
    else (p.1 + b2n (bitAt x 0 != inv) * 2 ^ p.2.1, p.2.1 + 1, p.2.2)) (0, 0, prev)
  (r.1, r.2.2)

/-- 256 bits of PRBS31 (x^31 + x^28 + 1) after the last 31, the oldest as bit 0, and the last 31 after them (09 R255). -/
def prbs31 (h : Nat) : Nat × Nat :=
  (List.range 10).foldl (fun p k =>
    let n := if k = 9 then 4 else 28
    let o := (p.2 ^^^ (p.2 >>> 3)) % 2 ^ n
    (p.1 + o * 2 ^ (28 * k), (p.2 + o * 2 ^ 31) >>> n)) (0, h)

/-- The codeword of a group with FEC on: 514 message symbols of 10 bits and 30 check symbols, the first bit first (09 R240). -/
def fecEncode (group : Nat) : Nat :=
  let checks := rsCheck 10 0x409 30 ((List.range 514).map (fun i => bitsOf group (10 * i) 10))
  group + ((List.range 30).foldl (fun a i => a + checks.getD i 0 * 2 ^ (10 * i)) 0) * 2 ^ 5140

/-- The decoder of RS(544,514): the symbols corrected and the group, or none (09 R240, R241). -/
def fecDecode (bits : Nat) : Option (Nat × Nat) :=
  (rsDecode 10 0x409 30 ((List.range 544).map (fun i => bitsOf bits (10 * i) 10))).map (fun r =>
    (r.1, (List.range 514).foldl (fun a i => a + r.2.getD i 0 * 2 ^ (10 * i)) 0))

end Sys2Proof.Machine
end

