-- ==== Sys2Proof/Machine/Lanes.lean ====
section
/-! DEFINITION. The Crosscut lanes: ports, sending, alignment, FEC, deskew, sleep, eye scans (09). Units are ports 0 to 15; lanes
are indexes 0 to 7 within their port. -/

namespace Sys2Proof.Machine

/-- The hidden state of a lane. -/
def State.lane (s : State) (p i : Nat) : Lane := Tab.get .cold s.lanes (8 * p + i)

/-- The hidden state of a lane changed. -/
def State.updLane (s : State) (p i : Nat) (g : Lane → Lane) : State :=
  { s with lanes := Tab.set natLt .cold s.lanes (8 * p + i) (g (s.lane p i)) }

/-- The half of its port that a lane belongs to (R234). -/
def State.halfOf (s : State) (p i : Nat) : Nat := if s.on XC_PORT_CTRL.SPLIT p then i / 4 else 0

/-- The lanes of half `h` of a port (R234). -/
def State.lanesOf (s : State) (p h : Nat) : List Nat :=
  if s.on XC_PORT_CTRL.SPLIT p then [4 * h, 4 * h + 1, 4 * h + 2, 4 * h + 3]
  else if h = 0 then List.range 8 else []

/-- The sub-port is enabled (R256). -/
def State.subEnabled (s : State) (p h : Nat) : Bool := s.on (ab h XC_PORT_CTRL.EN_A XC_PORT_CTRL.EN_B) p

/-- The sub-port is up (R248). -/
def State.linkUp (s : State) (p h : Nat) : Bool := s.on (ab h XC_PORT_STATUS.LINK_UP_A XC_PORT_STATUS.LINK_UP_B) p

/-- `LINK_UP` of a sub-port set or cleared, in the port and in the summary. -/
def State.putLink (s : State) (p h : Nat) (v : Bool) : State :=
  (s.put (ab h XC_PORT_STATUS.LINK_UP_A XC_PORT_STATUS.LINK_UP_B) v p).putBit XC_LINK_SUMMARY.LINK_UP (2 * p + h) v

/-- A sub-port goes down: counted, reported, unsynchronised (R248, R260; 10 R280). -/
def State.linkDown (s : State) (p h : Nat) : State :=
  if s.linkUp p h then
    let t := (s.putLink p h false).count (ab h XC_PORT_STATUS.DOWNS_A XC_PORT_STATUS.DOWNS_B) 1 p
    let t := t.wr (ab h XC_XP_STATUS.SYNCED_A XC_XP_STATUS.SYNCED_B) 0 p
    let t := { t with xp := Tab.set natLt .cold t.xp (2 * p + h) { (Tab.get XpSub.cold t.xp (2 * p + h)) with heard := false } }
    t.raise XC_IRQ_STATUS.DOWN XC_IRQ_EN.DOWN XC_IRQ_VEC.VECTOR (2 * p + h)
  else s

/-- A running eye scan ends aborted; `ERRORS` holds the mismatches counted so far, a free value (R253, R254). -/
def State.eyeAbort (s : State) (p i : Nat) : State :=
  if s.on XC_LANE_EYE_RESULT.BUSY p i then
    ((((s.wr XC_LANE_EYE_RESULT.BUSY 0 p i).wr XC_LANE_EYE_RESULT.ABORTED 1 p i).wr XC_LANE_EYE_RESULT.VALID 0 p i).wr
      XC_LANE_EYE_RESULT.ERRORS (s.draw 40) p i).drawn
  else s

/-! ### Sending (R237 to R240) -/

/-- FEC is on for the lane's sub-port. -/
def State.fecOn (s : State) (p i : Nat) : Bool := s.on (ab (s.halfOf p i) XC_PORT_CTRL.FEC_A XC_PORT_CTRL.FEC_B) p

/-- The lane's rate code. -/
def State.laneRate (s : State) (p i : Nat) : Nat := s.rd (ab (s.halfOf p i) XC_PORT_CTRL.RATE_A XC_PORT_CTRL.RATE_B) p

/-- The lane is PAM4 (R235). -/
def State.pam4 (s : State) (p i : Nat) : Bool := decide (s.laneRate p i ≤ 1)

/-- Bits in an alignment period (R239, R242). -/
def alignPeriod (fec : Bool) : Nat := if fec then 348160 else 328960

/-- `n` bits go out on a lane: Gray-mapped, precoded and inverted as the lane is set (R237, R261). -/
def State.sendBits (s : State) (p i n v : Nat) : State :=
  let o := lineLevels (s.pam4 p i) (s.on XC_LANE_CTRL.PRECODE p i) (s.on XC_LANE_CTRL.TX_INV p i) (s.lane p i).txLevel n v
  (s.updLane p i (fun l => { l with txLevel := o.2 })).emit (.line p i o.1)

/-- A block of 257 bits enters the group in hand; a group of 20 goes out, with FEC on as a codeword (R239, R240, R242). -/
def State.pushBlock (s : State) (p i b : Nat) : State :=
  let g := (s.lane p i).group ++ [b]
  if g.length < 20 then s.updLane p i (fun l => { l with group := g })
  else
    let t := s.updLane p i (fun l => { l with group := [], groups := (l.groups + 1) % 64 })
    if s.fecOn p i then t.sendBits p i 5440 (fecEncode (packBlocks g)) else t.sendBits p i 5140 (packBlocks g)

/-- The alignment block that opens a period (R239). -/
def State.sendAlign (s : State) (p i : Nat) : State :=
  let h := s.halfOf p i
  let b := alignBlock (i - 4 * h) p (s.rd BW_STATUS.ADDR) (b2n (s.fecOn p i)) (s.laneRate p i) (s.rd XC_PORT_CTRL.SPLIT p) (s.lane p i).acount
  (s.updLane p i (fun l => { l with acount := (l.acount + 1) % 2 ^ 32 })).pushBlock p i b

/-- A block goes out on a lane, its body scrambled; an alignment block comes first where a period begins (R237, R239). -/
def State.laneSend (s : State) (p i b : Nat) : State :=
  let l := s.lane p i
  let t := if l.group = [] ∧ l.groups = 0 then s.sendAlign p i else s
  let o := scramble l.scrambler (b / 2)
  (t.updLane p i (fun l => { l with scrambler := o.2 })).pushBlock p i (b % 2 + o.1 * 2)

/-- The lane sends blocks: its transmitter is on and it is not under PRBS31 (R237, R255). -/
def State.sends (s : State) (p i : Nat) : Bool :=
  decide (s.rd XC_LANE_STATUS.TX_STATE p i = 1) && decide (s.rd XC_LANE_CTRL.TEST p i ≠ 1)

/-- A block that the port logic offers to a lane: during sleep, entry and wake it is not sent (R249). -/
def State.offer (s : State) (p i b : Nat) : State := if s.sends p i then s.laneSend p i b else s

/-- The group in hand filled with a block; nothing where no group is in hand and none is asked for. -/
def State.fillGroup (s : State) (p i b : Nat) (whole : Bool) : State :=
  let l := s.lane p i
  let n := if l.group = [] then (if whole then (if l.groups = 0 then 19 else 20) else 0) else 20 - l.group.length
  (List.range n).foldl (fun t _ => t.laneSend p i b) s

/-- A lane with nothing to send for a block time: IDLE, or PRBS31 under test (R237, R255). -/
def State.laneIdle (s : State) (p i : Nat) : State :=
  if s.rd XC_LANE_STATUS.TX_STATE p i ≠ 1 then s
  else if s.rd XC_LANE_CTRL.TEST p i = 1 then
    let o := prbs31 (s.lane p i).prbs
    (s.updLane p i (fun l => { l with prbs := o.2 })).sendBits p i 256 (2 ^ 256 - 1 - o.1)
  else s.laneSend p i idleBlock

/-- A block time passes in which the port logic offers nothing: every lane that runs sends IDLE or PRBS31 (R237). -/
def State.lanesIdle (s : State) : State :=
  (List.range 128).foldl (fun t l => t.laneIdle (l / 8) (l % 8)) s

/-- A transmitter starts at a new alignment period; what its scrambler and test generator hold is free (R249, R256). -/
def State.txStart (s : State) (p i : Nat) : State :=
  (((s.wr XC_LANE_STATUS.TX_STATE 1 p i).updLane p i (fun l =>
    { l with group := [], groups := 0, acount := 0, scrambler := s.draw 58, prbs := s.drawn.draw 31, txLevel := s.drawn.drawn.draw 2 })).drawn).drawn.drawn

/-! ### Receiving -/

/-- The receiver's state of R243: of a lane in TEST, its state on the looped data (R255). -/
def State.rxState (s : State) (p i : Nat) : Nat :=
  if s.rd XC_LANE_STATUS.RX_STATE p i = 6 then (s.lane p i).loop else s.rd XC_LANE_STATUS.RX_STATE p i

/-- The receiver's state of R243 replaced; a lane in TEST stays there. -/
def State.putRx (s : State) (p i st : Nat) : State :=
  if s.rd XC_LANE_STATUS.RX_STATE p i = 6 then s.updLane p i (fun l => { l with loop := st })
  else s.wr XC_LANE_STATUS.RX_STATE st p i

/-- The equaliser adapts: its coefficients become a free value, but where `ADAPT_FREEZE` or a running scan holds them (R244, R253). -/
def State.adapt (s : State) (p i : Nat) : State :=
  if s.on XC_LANE_CTRL.ADAPT_FREEZE p i || s.on XC_LANE_EYE_RESULT.BUSY p i then s
  else (s.updLane p i (fun l => { l with coefficients := s.draw 64 })).drawn

/-- A receiver enters a state other than READY (R243). Leaving READY takes the sub-port down and its other READY lanes
back to ALIGNED; entering OFF, SLEEP or CDR makes the peer fields stale and clears the lock; a search after a lock begins from a free
boundary (R251). `ALIGN_LOST` counts entries to SEARCH from ALIGNED or READY (R261; DEDUCED, log entry 13). -/
def State.rxTo (s : State) (p i st : Nat) : State :=
  let was := s.rxState p i
  let h := s.halfOf p i
  let t := (s.putRx p i st).updLane p i (fun l => { l with misses := 0, seen := [], zeroAt := none })
  let t := if st = 4 then t.updLane p i (fun l => { l with codewords := 0, bad := [], released := [] }) else t
  let t := if st = 3 ∧ (was = 4 ∨ was = 5) then t.count XC_LANE_STATUS.ALIGN_LOST 1 p i else t
  let t := if st = 3 ∧ was = 2 then
      ((t.updLane p i (fun l => { l with bound := t.draw 19, rxLevel := t.drawn.draw 2, descrambler := t.drawn.drawn.draw 58 })).drawn).drawn.drawn
    else t
  let t := if st ≤ 2 then (t.wr XC_LANE_PEER.VALID 0 p i).wr XC_LANE_STATUS.CDR_LOCK 0 p i else t
  let t := if st ≤ 2 then t.eyeAbort p i else t
  if was = 5 then
    ((s.lanesOf p h).foldl (fun t j =>
      if j ≠ i ∧ t.rd XC_LANE_STATUS.RX_STATE p j = 5 then t.wr XC_LANE_STATUS.RX_STATE 4 p j else t) t).linkDown p h
  else t

/-- A receiver starts as its sub-port is enabled: in CDR, asleep, or under test; a looped receiver runs from CDR (R243, R252, R255). -/
def State.rxStart (s : State) (p i : Nat) : State :=
  if s.on XC_LANE_CTRL.TEST p i then
    ((s.wr XC_LANE_STATUS.RX_STATE 6 p i).updLane p i (fun l => { l with loop := if s.rd XC_LANE_CTRL.TEST p i = 2 then 2 else 0 }))
  else s.rxTo p i (if s.on XC_LANE_CTRL.RX_SLEEP p i then 1 else 2)

/-- The lanes of an enabled sub-port start once the PLL is locked: transmitters on, or asleep where `TX_SLEEP` is set; receivers enter CDR
(R252, R256). -/
def State.startSub (s : State) (p h : Nat) : State :=
  (s.lanesOf p h).foldl (fun t i =>
    (if t.on XC_LANE_CTRL.TX_SLEEP p i then t.wr XC_LANE_STATUS.TX_STATE 3 p i else t.txStart p i).rxStart p i) s

/-- An enabled sub-port whose lanes have not started: it waits for the PLL (R256). -/
def State.subWaitsPll (s : State) (p h : Nat) : Bool :=
  s.subEnabled p h && (s.lanesOf p h).all (fun i => decide (s.rd XC_LANE_STATUS.TX_STATE p i = 0))

/-- The sub-ports that wait for a locked PLL start. -/
def State.startWaiting (s : State) (p : Nat) : State :=
  if s.on XC_PORT_STATUS.PLL_LOCK p then
    [0, 1].foldl (fun t h => if t.subWaitsPll p h then t.startSub p h else t) s
  else s

/-- A sub-port is disabled: lanes OFF, transmitters idle at once; a lane under test stays in TEST (R255, R256). -/
def State.disableSub (s : State) (p h : Nat) : State :=
  (s.lanesOf p h).foldl (fun t i =>
    let t := (t.wr XC_LANE_STATUS.TX_STATE 0 p i).updLane p i (fun l => { l with wakeNext := false, group := [] })
    if t.rd XC_LANE_STATUS.RX_STATE p i = 6 then
      ((t.eyeAbort p i).wr XC_LANE_STATUS.CDR_LOCK 0 p i).updLane p i (fun l => { l with loop := 0 })
    else t.rxTo p i 0) s

/-- The PLL family of a rate (R235, R236). -/
def rateFamily (r : Nat) : Nat := if r = 4 then 1 else 0

/-- `FEC` values a rate allows (R235). -/
def fecAllowed (r fec : Nat) : Bool := if r ≤ 1 then decide (fec = 1) else if r ≤ 3 then true else decide (fec = 0)

/-- A write of `v` to `XC_PORT_CTRL` is refused (R256). -/
def State.portCtrlRefused (s : State) (p v : Nat) : Bool :=
  let split := bitAt v 2
  let ra := bitsOf v 4 3
  let rb := bitsOf v 8 3
  let fa := bitsOf v 12 1
  let fb := bitsOf v 13 1
  let changeA := s.rd XC_PORT_CTRL.RATE_A p ≠ ra ∨ s.rd XC_PORT_CTRL.FEC_A p ≠ fa
  let changeB := s.rd XC_PORT_CTRL.RATE_B p ≠ rb ∨ s.rd XC_PORT_CTRL.FEC_B p ≠ fb
  let changeS := s.on XC_PORT_CTRL.SPLIT p ≠ split
  decide (s.subEnabled p 0 ∧ (changeA ∨ changeS)) || decide (s.subEnabled p 1 ∧ (changeB ∨ changeS))
    || decide (5 ≤ ra) || !fecAllowed ra fa
    || (split && (decide (5 ≤ rb) || !fecAllowed rb fb || decide (rateFamily ra ≠ rateFamily rb)))
    || (bitAt v 1 && !split)
    || (!s.winderStopped && ((s.subEnabled p 0 && !bitAt v 0 && s.on XC_XP_CTRL.GATE_A p)
      || (s.subEnabled p 1 && !bitAt v 1 && s.on XC_XP_CTRL.GATE_B p)))

/-- XC_PORT_CTRL_WRITE (R256): settings first, then enables and disables. -/
def execXcPortCtrlWrite (port value : Nat) (s : State) : Res :=
  need (port < 16)
    (if s.portCtrlRefused port value then s.wr XC_PORT_STATUS.CFG_ERR 1 port
     else
       let a0 := s.subEnabled port 0
       let b0 := s.subEnabled port 1
       let s := if a0 ∧ ¬ bitAt value 0 then s.disableSub port 0 else s
       let s := if b0 ∧ ¬ bitAt value 1 then s.disableSub port 1 else s
       let t := s.setFields [XC_PORT_CTRL.EN_A, XC_PORT_CTRL.EN_B, XC_PORT_CTRL.SPLIT, XC_PORT_CTRL.RATE_A,
         XC_PORT_CTRL.RATE_B, XC_PORT_CTRL.FEC_A, XC_PORT_CTRL.FEC_B] value port
       let t := t.ungate 3 port
       let fam := rateFamily (if bitAt value 0 then bitsOf value 4 3 else bitsOf value 8 3)
       let startA := bitAt value 0 && !a0
       let startB := bitAt value 1 && !b0
       let t := if (startA || startB) && (!t.on XC_PORT_STATUS.PLL_LOCK port || decide (t.rd XC_PORT_STATUS.PLL_FAMILY port ≠ fam))
         then (t.wr XC_PORT_STATUS.PLL_LOCK 0 port).wr XC_PORT_STATUS.PLL_FAMILY fam port else t
       t.startWaiting port)

/-- LANE_PLL_LOCK (R236, R256): the lane PLL of a port with an enabled sub-port locks, and the sub-ports that wait for it start. -/
def execLanePllLock (port : Nat) (s : State) : Res :=
  need (port < 16)
    (if s.subEnabled port 0 || s.subEnabled port 1 then (s.wr XC_PORT_STATUS.PLL_LOCK 1 port).startWaiting port else s)

/-- LOS (R244): the flag sets; a receiver that runs enters CDR. A lane under test stays in TEST, and a looped one does not see its input
(R255). -/
def execLos (port lane : Nat) (s : State) : Res :=
  need (port < 16 ∧ lane < 8)
    (let t := s.wr XC_LANE_STATUS.LOS 1 port lane
     let st := s.rd XC_LANE_STATUS.RX_STATE port lane
     if st < 2 then t
     else if st = 6 then
       (if s.rd XC_LANE_CTRL.TEST port lane = 2 then t else (t.eyeAbort port lane).wr XC_LANE_STATUS.CDR_LOCK 0 port lane)
     else t.rxTo port lane 2)

/-- CDR_LOCK (R243, R244): signal is present and the CDR locks, the PLL being locked; the lane searches and its equaliser adapts. -/
def execCdrLock (port lane : Nat) (s : State) : Res :=
  need (port < 16 ∧ lane < 8)
    (let looped := decide (s.rd XC_LANE_STATUS.RX_STATE port lane = 6) && decide (s.rd XC_LANE_CTRL.TEST port lane = 2)
     let t := if looped then s else s.wr XC_LANE_STATUS.LOS 0 port lane
     if !s.on XC_PORT_STATUS.PLL_LOCK port then s
     else if s.rxState port lane = 2 then
       ((t.rxTo port lane 3).wr XC_LANE_STATUS.CDR_LOCK 1 port lane).adapt port lane
     else if s.rd XC_LANE_STATUS.RX_STATE port lane = 6 ∧ ¬ looped then (t.wr XC_LANE_STATUS.CDR_LOCK 1 port lane).adapt port lane
     else s)

/-- CDR_LOCK_LOST (R243): back to CDR. -/
def execCdrLockLost (port lane : Nat) (s : State) : Res :=
  need (port < 16 ∧ lane < 8)
    (if 3 ≤ s.rxState port lane then s.rxTo port lane 2
     else if s.rd XC_LANE_STATUS.RX_STATE port lane = 6 then (s.eyeAbort port lane).wr XC_LANE_STATUS.CDR_LOCK 0 port lane
     else s)

/-- The receiver reads blocks: it is aligned (R243). -/
def State.laneReads (s : State) (p i : Nat) : Bool := decide (s.rxState p i = 4) || decide (s.rxState p i = 5)

/-- A missed alignment block at the expected position: three in a row return an aligned lane to SEARCH (R245). -/
def State.alignMiss (s : State) (p i : Nat) : State :=
  if s.laneReads p i then
    if 2 ≤ (s.lane p i).misses then s.rxTo p i 3
    else s.updLane p i (fun l => { l with misses := l.misses + 1 })
  else s

/-- The 20 blocks of a group, bodies descrambled but for an alignment block in front, and what the descrambler holds after them (R237). -/
def openGroup (h : Nat) (aligned : Bool) (group : Nat) : List Nat × Nat :=
  (List.range 20).foldl (fun p k =>
    let b := bitsOf group (257 * k) 257
    if aligned && decide (k = 0) then (p.1 ++ [b], p.2)
    else
      let o := descramble p.2 (b / 2)
      (p.1 ++ [b % 2 + o.1 * 2], o.2)) ([], h)

/-- FEC_CODEWORD (R240, R241): a codeword of 5,440 bits, as levels, is decoded and its 20 blocks released. Corrected symbols are counted;
the blocks of an uncorrectable codeword are marked errored, and an alignment block due in it counts as missed. The codeword in which
the lane became ALIGNED and every 64th after it begin with an alignment block (R239). -/
def execFecCodeword (port lane : Nat) (early late check : List Nat) (s : State) : Res :=
  need (port < 16 ∧ lane < 8)
    (if s.laneReads port lane && s.fecOn port lane then
       let l := s.lane port lane
       let r := lineBits (s.pam4 port lane) (s.on XC_LANE_CTRL.PRECODE port lane) (s.on XC_LANE_CTRL.RX_INV port lane) l.rxLevel (early ++ late ++ check)
       let due := decide (l.codewords % 64 = 0)
       let d := fecDecode r.1
       let g := openGroup l.descrambler due (match d with | some c => c.2 | none => r.1 % 2 ^ 5140)
       let bad := if d.isNone then [l.codewords] else []
       let t := s.updLane port lane (fun l => { l with
         rxLevel := r.2, descrambler := g.2, released := g.1, codewords := l.codewords + 1,
         bad := l.bad.filter (fun n => decide (l.codewords < n + 4)) ++ bad })
       match d with
       | none =>
         let t := t.count XC_LANE_FEC.CW_UNCORR 1 port lane
         if due then t.alignMiss port lane else t
       | some c =>
         if c.1 = 0 then t
         else
           let t := t.count XC_LANE_FEC.CW_CORR 1 port lane
           if t.rd XC_LANE_FEC.MAX_SYM port lane < c.1 then t.wr XC_LANE_FEC.MAX_SYM c.1 port lane else t
     else s)

/-- The block lies in an uncorrectable codeword (R241). -/
def State.errored (s : State) (p i : Nat) (b : XBlock) : Bool := s.fecOn p i && (s.lane p i).bad.contains b.cw

/-- A control block that a lane releases: one that is errored is lost, one whose `CCRC` fails or whose `CODE` is reserved is dropped and
counted, and of any other the code is handed on (R238, R241). -/
def State.control (s : State) (p i : Nat) (b : XBlock) : State × Option Nat :=
  if !s.laneReads p i || s.errored p i b || decide (b.bits % 2 = 0) then (s, none)
  else if !ccrcOk b.bits || !codeKnown (blockCode b.bits) then (s.count XC_LANE_ERR.CTRL_CRC 1 p i, none)
  else (s, some (blockCode b.bits))

/-- The peer fields of a lane from an alignment block (R239). A block whose `CCRC` fails is dropped and counted
(R238). -/
def State.peerFields (s : State) (p i b : Nat) : State :=
  if ccrcOk b && decide (blockCode b = 0xA5) then
    s.setRaw [(XC_LANE_PEER.LANE, bitsOf b 73 3), (XC_LANE_PEER.PORT, bitsOf b 76 4), (XC_LANE_PEER.PART, bitsOf b 80 8),
      (XC_LANE_PEER.FEC, bitsOf b 88 1), (XC_LANE_PEER.RATE, bitsOf b 89 3), (XC_LANE_PEER.SPLIT, bitsOf b 92 1), (XC_LANE_PEER.VALID, 1)] p i
  else s.count XC_LANE_ERR.CTRL_CRC 1 p i

/-- The peer checks of R247 over every lane of a sub-port. -/
def State.peersAgree (s : State) (p h : Nat) : Bool :=
  let ls := s.lanesOf p h
  let eq := fun (f : Fld) (v : Nat) => ls.all (fun i => decide (s.rd f p i = v))
  let first := ls.headD 0
  ls.all (fun i => s.on XC_LANE_PEER.VALID p i)
    && eq XC_LANE_PEER.PART (s.rd XC_LANE_PEER.PART p first) && eq XC_LANE_PEER.PORT (s.rd XC_LANE_PEER.PORT p first)
    && (List.range ls.length).all (fun n => ls.any (fun i => decide (s.rd XC_LANE_PEER.LANE p i = n)))
    && eq XC_LANE_PEER.RATE (s.rd (ab h XC_PORT_CTRL.RATE_A XC_PORT_CTRL.RATE_B) p)
    && eq XC_LANE_PEER.FEC (s.rd (ab h XC_PORT_CTRL.FEC_A XC_PORT_CTRL.FEC_B) p)
    && eq XC_LANE_PEER.SPLIT (s.rd XC_PORT_CTRL.SPLIT p)

/-- Rates in units of 100 kbit/s (R235). -/
def rateBits (r : Nat) : Nat := if r = 0 then 1120000 else if r ≤ 2 then 560000 else if r = 3 then 280000 else 103125

/-- An alignment period in ps (R242). -/
def periodTime (fec : Bool) (r : Nat) : Nat := alignPeriod fec * 10000000 / rateBits r

/-- How far time `b` lies after time `a`, both modulo a period, between − half a period and half a period. -/
def circular (per a b : Nat) : Int :=
  let d := (b % per + per - a % per) % per
  if 2 * d ≤ per then d else d - per

/-- Skew in ps between the lanes of a sub-port: how far apart their latest alignment blocks lie within the period (R247). -/
def State.skew (s : State) (p h : Nat) : Nat :=
  let ls := s.lanesOf p h
  let per := periodTime (s.fecOn p (ls.headD 0)) (s.laneRate p (ls.headD 0))
  let ds := ls.map (fun i => circular per (s.lane p (ls.headD 0)).time (s.lane p i).time)
  (ds.foldl max 0 - ds.foldl min 0).toNat

/-- A skew in ps as Gallery cycles of 1.2 GHz, rounded up: 32 ns is 39 (R247, R259). -/
def skewCycles (ps : Nat) : Nat := (ps * 12 + 9999) / 10000

/-- When every lane of an enabled sub-port is ALIGNED, the port deskews and checks it, and brings it up (R247, R248). -/
def State.tryReady (s : State) (p h : Nat) : State :=
  if !s.subEnabled p h || (s.lanesOf p h).isEmpty || !(s.lanesOf p h).all (fun i => decide (s.rd XC_LANE_STATUS.RX_STATE p i = 4)) then s
  else if !s.peersAgree p h then s.wr (ab h XC_PORT_STATUS.PEER_ERR_A XC_PORT_STATUS.PEER_ERR_B) 1 p
  else if 32000 < s.skew p h then s.wr (ab h XC_PORT_STATUS.DESKEW_ERR_A XC_PORT_STATUS.DESKEW_ERR_B) 1 p
  else
    let t := (s.lanesOf p h).foldl (fun t i => t.wr XC_LANE_STATUS.RX_STATE 5 p i) s
    let t := t.wr (ab h XC_PORT_STATUS.SKEW_A XC_PORT_STATUS.SKEW_B) (skewCycles (s.skew p h)) p
    (t.putLink p h true).raise XC_IRQ_STATUS.UP XC_IRQ_EN.UP XC_IRQ_VEC.VECTOR (2 * p + h)

/-- A comma found while the lane searches, at position `pos` (R245, R246). In automatic alignment a second match one period after an
earlier one aligns the lane there; in manual alignment the boundary stays, and the lane aligns when two consecutive periods show
`COMMA_OFS` = 0. -/
def State.searchMatch (s : State) (p i b pos time : Nat) : State :=
  let l := s.lane p i
  let per := alignPeriod (s.fecOn p i)
  let t := (s.peerFields p i b).updLane p i (fun l => { l with time := time })
  if s.on XC_LANE_CTRL.ALIGN_MODE p i then
    let ofs := (pos + per - l.bound % per) % per
    let t := (t.wr XC_LANE_STATUS.COMMA_OFS ofs p i).updLane p i (fun l => { l with zeroAt := if ofs = 0 then some pos else none })
    if ofs = 0 ∧ l.zeroAt = some (pos - per) ∧ per ≤ pos then t.rxTo p i 4 else t
  else if per ≤ pos ∧ l.seen.contains (pos - per) then (t.updLane p i (fun l => { l with bound := pos })).rxTo p i 4
  else t.updLane p i (fun l => { l with seen := l.seen.filter (fun q => decide (pos ≤ q + per)) ++ [pos] })

/-- ALIGNMENT_BLOCK (R245 to R247): in SEARCH a comma or its complement moves the lane towards ALIGNED; once aligned, only the block at the
expected position is looked at, and counts as seen or missed; the sub-port tries to come up at each. The equaliser adapts all along
(R244). -/
def execAlignmentBlock (port lane : Nat) (b : AlignBlock) (s : State) : Res :=
  need (port < 16 ∧ lane < 8)
    (let h := s.halfOf port lane
     let per := alignPeriod (s.fecOn port lane)
     let bits := if s.on XC_LANE_CTRL.RX_INV port lane then 2 ^ 257 - 1 - b.block % 2 ^ 257 else b.block % 2 ^ 257
     let diff := commaBits bits
     if s.rxState port lane = 3 then
       if diff ≤ 4 then (((s.adapt port lane).searchMatch port lane bits b.pos b.time)).tryReady port h
       else if 60 ≤ diff ∧ s.on XC_LANE_CTRL.AUTO_INV port lane then
         ((s.wr XC_LANE_CTRL.RX_INV (1 - s.rd XC_LANE_CTRL.RX_INV port lane) port lane).wr XC_LANE_STATUS.INV_SEEN 1 port lane).updLane port lane
           (fun l => { l with seen := [], zeroAt := none })
       else s
     else if s.laneReads port lane && decide (b.pos % per = (s.lane port lane).bound % per) then
       if diff ≤ 4 then
         let t := ((s.adapt port lane).count XC_LANE_ERR.COMMA_BITS diff port lane).peerFields port lane bits
         let t := t.updLane port lane (fun l => { l with misses := 0, time := b.time })
         t.tryReady port h
       else s.alignMiss port lane
     else s)

/-- SLIP (R246): the boundary moves `bits` later, so the next comma lies that much closer. -/
def execSlip (port lane bits : Nat) (s : State) : Res :=
  need (port < 16 ∧ lane < 8)
    (let per := alignPeriod (s.fecOn port lane)
     if !s.on XC_LANE_CTRL.ALIGN_MODE port lane || decide (s.rxState port lane ≠ 3) || decide (per ≤ bits)
     then s.wr XC_LANE_STATUS.SLIP_ERR 1 port lane
     else s.updLane port lane (fun l => { l with bound := (l.bound + bits) % per, zeroAt := none }))

/-- TX_SLEEP (R249, R252): entry finishes the group and sends SLEEP blocks; wake follows an entry in hand. As a transmitter's sleep takes
the path of a link that is down (10 R280), the sub-port is no longer synchronised (DEDUCED, log entry 98). -/
def execTxSleep (port lane : Nat) (v : Bool) (s : State) : Res :=
  need (port < 16 ∧ lane < 8)
    (let t := s.put XC_LANE_CTRL.TX_SLEEP v port lane
     let tx := s.rd XC_LANE_STATUS.TX_STATE port lane
     let out := t.wr (ab (s.halfOf port lane) XC_XP_STATUS.SYNCED_A XC_XP_STATUS.SYNCED_B) 0 port
     if v then
       (if tx = 1 then out.wr XC_LANE_STATUS.TX_STATE 2 port lane
        else if tx = 2 then t.updLane port lane (fun l => { l with wakeNext := false })
        else if tx = 4 then out.wr XC_LANE_STATUS.TX_STATE 2 port lane else t)
     else
       (if tx = 3 then t.wr XC_LANE_STATUS.TX_STATE 4 port lane
        else if tx = 2 then t.updLane port lane (fun l => { l with wakeNext := true }) else t))

/-- TX_SLEEP_ENTERED (R249): the group in hand and the SLEEP group are out and the driver is idle. A lane under PRBS31 sends no blocks. -/
def execTxSleepEntered (port lane : Nat) (s : State) : Res :=
  need (port < 16 ∧ lane < 8)
    (if s.rd XC_LANE_STATUS.TX_STATE port lane = 2 then
       let t := if s.rd XC_LANE_CTRL.TEST port lane = 1 then s
         else (s.fillGroup port lane idleBlock false).fillGroup port lane sleepBlock true
       if (s.lane port lane).wakeNext then
         (t.wr XC_LANE_STATUS.TX_STATE 4 port lane).updLane port lane (fun l => { l with wakeNext := false })
       else t.wr XC_LANE_STATUS.TX_STATE 3 port lane
     else s)

/-- TX_WAKE_DONE (R249): the driver is on, and the transmitter starts at a new alignment period. -/
def execTxWakeDone (port lane : Nat) (s : State) : Res :=
  need (port < 16 ∧ lane < 8)
    (if s.rd XC_LANE_STATUS.TX_STATE port lane = 4 then s.txStart port lane else s)

/-- RX_SLEEP (R250, R251, R254): the receiver sleeps, or starts again from CDR. -/
def execRxSleep (port lane : Nat) (v : Bool) (s : State) : Res :=
  need (port < 16 ∧ lane < 8)
    (let t := (s.put XC_LANE_CTRL.RX_SLEEP v port lane).eyeAbort port lane
     let st := s.rd XC_LANE_STATUS.RX_STATE port lane
     if v then (if st = 0 ∨ st = 6 then t else t.rxTo port lane 1)
     else if st = 1 then t.rxTo port lane 2 else t)

/-- SLEEP_BLOCK (R249): the far transmitter goes to sleep. -/
def execSleepBlock (at_ : LaneAt) (b : XBlock) (s : State) : Res :=
  need (at_.port < 16 ∧ at_.lane < 8)
    (let r := s.control at_.port at_.lane b
     if r.2 = some 0x5A then (r.1.wr XC_LANE_STATUS.PEER_SLEEP 1 at_.port at_.lane).rxTo at_.port at_.lane 2 else r.1)

/-- TEST_WRITE (R255): only while the sub-port is disabled, and never the reserved value; back at 0 the receiver enters CDR (R243). -/
def execTestWrite (port lane value : Nat) (s : State) : Res :=
  need (port < 16 ∧ lane < 8)
    (if s.subEnabled port (s.halfOf port lane) ∨ 3 ≤ value then s.wr XC_LANE_CTRL.LANE_CFG_ERR 1 port lane
     else
       let t := (s.wr XC_LANE_CTRL.TEST value port lane).updLane port lane (fun l => { l with loop := 0 })
       if value = 0 then
         (if s.rd XC_LANE_STATUS.RX_STATE port lane = 6 then (t.wr XC_LANE_STATUS.RX_STATE 0 port lane).rxTo port lane 2 else t)
       else (t.rxTo port lane 0).wr XC_LANE_STATUS.RX_STATE 6 port lane)

/-- TXEQ_WRITE (R257): `PRE` + `POST` above 40 leaves both unchanged. -/
def execTxeqWrite (port lane value : Nat) (s : State) : Res :=
  need (port < 16 ∧ lane < 8)
    (let t := s.wr XC_LANE_TXEQ.AMP (bitsOf value 16 4) port lane
     let t := if bitAt value 20 then t.wr XC_LANE_TXEQ.EQ_ERR 0 port lane else t
     if 40 < bitsOf value 0 4 + bitsOf value 8 5 then t.wr XC_LANE_TXEQ.EQ_ERR 1 port lane
     else t.setFields [XC_LANE_TXEQ.PRE, XC_LANE_TXEQ.POST] value port lane)

/-- EYE_SCAN_GO (R253, R254): a scan starts with the point written, or the write changes nothing. -/
def execEyeScanGo (port lane phase voff eye dwell : Nat) (s : State) : Res :=
  need (port < 16 ∧ lane < 8)
    (let eyeOk := if s.pam4 port lane then decide (eye ≤ 2) else decide (eye = 1)
     if s.on XC_LANE_STATUS.CDR_LOCK port lane && !s.on XC_LANE_CTRL.TEST port lane
         && !s.on XC_LANE_EYE_RESULT.BUSY port lane && eyeOk then
       let t := ((s.wr XC_LANE_EYE_CTRL.PHASE phase port lane).wr XC_LANE_EYE_CTRL.VOFF voff port lane).wr
         XC_LANE_EYE_CTRL.EYE eye port lane
       let t := if 16 ≤ dwell ∧ dwell ≤ 40 then t.wr XC_LANE_EYE_CTRL.DWELL_LOG2 dwell port lane else t
       (((t.wr XC_LANE_EYE_RESULT.BUSY 1 port lane).wr XC_LANE_EYE_RESULT.VALID 0 port lane).wr
         XC_LANE_EYE_RESULT.ABORTED 0 port lane).wr XC_LANE_EYE_RESULT.ERRORS 0 port lane
     else s.wr XC_LANE_STATUS.EYE_ERR 1 port lane)

/-- EYE_SCAN_DONE (R253): the dwell has passed; the mismatches counted saturate at 40 bits. -/
def execEyeScanDone (port lane errors : Nat) (s : State) : Res :=
  need (port < 16 ∧ lane < 8)
    (if s.on XC_LANE_EYE_RESULT.BUSY port lane then
       ((s.wr XC_LANE_EYE_RESULT.BUSY 0 port lane).wr XC_LANE_EYE_RESULT.VALID 1 port lane).wr
         XC_LANE_EYE_RESULT.ERRORS (min errors (ones 40)) port lane
     else s)

end Sys2Proof.Machine
end

