-- ==== Sys2Proof/Machine/Transport.lean ====
section
/-! DEFINITION. Cut-net transport: gates, stroke frames, acknowledgements, forwarding, synchronisation, stand-ins
(10). A sub-port is numbered 2 × port + half. A role is a half's gate, stream entries, slots and sequence state; it is
carried by its own half or, after a failover, by the other (R283). -/

namespace Sys2Proof.Machine

/-! ### Roles and settings -/

/-- `OVER_x` of a role (R283). -/
def State.stoodIn (s : State) (p h : Nat) : Bool := s.on (ab h XC_XP_STATUS.OVER_A XC_XP_STATUS.OVER_B) p

/-- `GATE_x` of a half. -/
def State.gated (s : State) (p h : Nat) : Bool := s.on (ab h XC_XP_CTRL.GATE_A XC_XP_CTRL.GATE_B) p

/-- `SYNCED_x` of a half. -/
def State.synced (s : State) (p h : Nat) : Bool := s.on (ab h XC_XP_STATUS.SYNCED_A XC_XP_STATUS.SYNCED_B) p

/-- The role that half `h` carries (R283). -/
def State.roleOf (s : State) (p h : Nat) : Nat := if s.stoodIn p (1 - h) then 1 - h else h

/-- The half that carries role `r`. -/
def State.carrier (s : State) (p r : Nat) : Nat := if s.stoodIn p r then 1 - r else r

/-- Receive distance of a role (R264). -/
def State.distance (s : State) (p r : Nat) : Nat :=
  if s.on (ab r XC_XP_CTRL.MODE_A XC_XP_CTRL.MODE_B) p then s.rd (ab r XC_XP_CTRL.LAT_A XC_XP_CTRL.LAT_B) p else 1

/-- The transport state of a role. -/
def State.sub (s : State) (p r : Nat) : XpSub := Tab.get .cold s.xp (2 * p + r)

/-- The transport state of a role replaced, with `SLOTS_x` (R276). -/
def State.setSub (s : State) (p r : Nat) (x : XpSub) : State :=
  let t := s.wr (ab r XC_XP_SEQ.SLOTS_A XC_XP_SEQ.SLOTS_B) x.slots.length p
  { t with xp := Tab.set natLt .cold t.xp (2 * p + r) x }

/-- The entries of a role's streams that are enabled: indexes 16r to 16r + 15 (R266). -/
def State.entries (s : State) (en : Fld) (p r : Nat) : List Nat :=
  ((List.range 16).map (fun n => 16 * r + n)).filter (fun n => s.on en p n)

/-- The gated sub-ports of the part as (port, half), lowest first. -/
def State.gatedSubs (s : State) : List (Nat × Nat) :=
  (List.range 16).flatMap (fun p => [(p, 0), (p, 1)].filter (fun ph => s.gated ph.1 ph.2))

/-- The enabled delivering streams of a role, by entry index (R268). -/
def State.delivering (s : State) (p r : Nat) : List Nat :=
  (s.entries XC_RXS.EN p r).filter (fun n => s.on XC_RXS.DELIVER p n)

/-- The tally expected of a receive stream (R274). -/
def XpSub.expected (x : XpSub) (stream : Nat) : Nat := Tab.get 0 x.expTally stream

/-! ### The gate (08 R210) -/

/-- The sub-port still waits for the frames of strokes up to `t` − d, or keeps a frame in its staging buffer
(08 R210, 10 R276). -/
def State.subWaits (s : State) (p h t : Nat) : Bool :=
  let r := s.roleOf p h
  let x := s.sub p r
  !x.staging.isEmpty || (s.delivering p r).any (fun n => decide (x.expected (n % 16) + s.distance p r ≤ t))

/-- `PORT_WAIT` of stroke `t` (08 R211). -/
def State.portWait (s : State) (t : Nat) : Nat :=
  s.gatedSubs.foldl (fun m ph => if s.subWaits ph.1 ph.2 t then setBit m (2 * ph.1 + ph.2) else m) 0

/-! ### CRC-32 (R271) -/

/-- One byte into a CRC-32 of IEEE 802.3, in reflected form. -/
def crc32Byte (c b : Nat) : Nat :=
  (List.range 8).foldl (fun c _ => if c % 2 = 1 then (c / 2) ^^^ 0xEDB88320 else c / 2) (c ^^^ b)

/-- CRC-32 of a run of bytes. -/
def crc32 (bs : List Nat) : Nat := (bs.foldl crc32Byte 0xFFFFFFFF) ^^^ 0xFFFFFFFF

/-- The `CRC` of a stroke frame: tally as 2 bytes, then the body of each data block (R271). -/
def frameCrc (tally : Nat) (data : List Nat) : Nat :=
  crc32 (bytesOf 2 tally ++ data.flatMap (bytesOf 32))

/-! ### Sending -/

/-- A row of block slots goes out on the lanes of half `h` (R269). -/
def State.offerRow (s : State) (p h : Nat) (row : List Nat) : State :=
  ((s.lanesOf p h).zip row).foldl (fun t x => t.offer p x.1 x.2) (s.emit (.row (2 * p + h) row))

/-- Rows of block slots go out in order. -/
def State.offerRows (s : State) (p h : Nat) (blocks : List Nat) : State :=
  (frameRows (s.lanesOf p h).length blocks).foldl (fun t row => t.offerRow p h row) s

/-- The cumulative acknowledgement of a role: the last sequence number accepted (R275; DEDUCED, log entry 12). -/
def State.ackNow (s : State) (p r : Nat) : Nat := (s.rd (ab r XC_XP_SEQ.RX_NEXT_A XC_XP_SEQ.RX_NEXT_B) p + 4095) % 4096

/-- A frame leaves for the link of half `h`, with the acknowledgement due (R269, R270, R275). A halted part sends no frame (08 R230). -/
def State.sendFrame (s : State) (p h : Nat) (f : XSlot) : State :=
  if s.rd WD_STATUS.STATE = 4 then s
  else
    let r := s.roleOf p h
    let x := s.sub p r
    (s.setSub p r { x with ackDue := false }).offerRows p h
      (frameHeader f.seq (s.ackNow p r) x.ackDue f.stream f.data.length f.tally f.crc :: f.data.map dataBlock)

/-- A frame enters a replay slot of role `r` and is sent if the link is synchronised; with no free slot it waits in
the staging buffer (R273, R276). -/
def State.queueFrame (s : State) (p r stream tally : Nat) (data : List Nat) (crc : Nat) : State :=
  let nx := ab r XC_XP_SEQ.TX_NEXT_A XC_XP_SEQ.TX_NEXT_B
  let x := s.sub p r
  if 64 ≤ x.slots.length then
    let t := s.setSub p r { x with staging := x.staging ++ [⟨0, stream, tally, data, crc⟩] }
    t.wr XC_XP_STATUS.REPLAY_OVF 1 p
  else
    let f : XSlot := ⟨s.rd nx p, stream, tally, data, crc⟩
    let t := (s.setSub p r { x with slots := x.slots ++ [f] }).countWrap nx 1 p
    let h := s.carrier p r
    if t.synced p h && t.gated p h then t.sendFrame p h f else t

/-- Freed slots take the frames of the staging buffer (R276). -/
def State.unstage (s : State) (p r : Nat) : State :=
  let x := s.sub p r
  x.staging.foldl (fun t f => t.queueFrame p r f.stream f.tally f.data f.crc) (s.setSub p r { x with staging := [] })

/-- `a` is old relative to `x`, modulo 4,096 (R273). -/
def seqOld (x a : Nat) : Bool := let d := (x + 4096 - a % 4096) % 4096; decide (1 ≤ d ∧ d ≤ 2047)

/-- The slots below sequence number `next` are freed (R275, R280). -/
def State.freeBelow (s : State) (p r next : Nat) : State :=
  let x := s.sub p r
  (s.setSub p r { x with slots := x.slots.filter (fun f => !seqOld next f.seq) }).unstage p r

/-- Every unacknowledged frame from `next` onward is sent again (R275, R280). -/
def State.resendFrom (s : State) (p h next : Nat) : State :=
  let r := s.roleOf p h
  let fs := (s.sub p r).slots.filter (fun f => !seqOld next f.seq)
  fs.foldl (fun t f => (t.sendFrame p h f).count (ab r XC_XP_RETRY.RESENT_A XC_XP_RETRY.RESENT_B) 1 p) s

/-- A cumulative acknowledgement: it covers the frame whose `SEQ` it names and those before (R275; DEDUCED, log entry
12). -/
def State.acked (s : State) (p h n : Nat) : State := s.freeBelow p (s.roleOf p h) ((n + 1) % 4096)

/-- A SYNC block of this end (R272, R280); `ROLE_MOVE` while the half stands in for the other (R283). -/
def State.sendSync (s : State) (p h : Nat) : State :=
  let r := s.roleOf p h
  s.offerRows p h [syncBlock (s.rd (ab r XC_XP_SEQ.RX_NEXT_A XC_XP_SEQ.RX_NEXT_B) p)
    (s.rd (ab r XC_XP_CTRL.MODE_A XC_XP_CTRL.MODE_B) p) (s.rd (ab r XC_XP_CTRL.LAT_A XC_XP_CTRL.LAT_B) p)
    (s.gated p h) (s.stoodIn p r) (s.sub p r).rcnt]

/-! ### Frames of a stroke (R262, R263, 04 R95) -/

/-- The value of a transmit-map entry: the tap it names, 0 where the stope is not in use or above 159 (R262, R284). -/
def State.tapValue (s : State) (p e : Nat) : Bool :=
  let st := s.rd XC_TXMAP.STOPE p e
  let n := (p / 4) * 160 + st
  if st ≤ 159 ∧ s.inUse n then Tab.get false (s.stope n).taps (s.rd XC_TXMAP.POINT p e) else false

/-- Bits packed into bodies of 256 bits (R271). -/
def packBodies (bits : List Bool) : List Nat :=
  (List.range ((bits.length + 255) / 256)).map (fun j =>
    (List.range 256).foldl (fun a i => a + b2n (bits.getD (256 * j + i) false) * 2 ^ i) 0)

/-- The history keeps the last `d` frames of each stream (R276). -/
def keepHistory (d : Nat) (hist : List XSlot) (f : XSlot) : List XSlot :=
  let own := hist.filter (fun g => decide (g.stream = f.stream))
  let drop := own.length + 1 - d
  (hist.filter (fun g => decide (g.stream ≠ f.stream))) ++ (own ++ [f]).drop drop

/-- The frame of stroke `t` of transmit entry `n` is built (R263, R266, R271). -/
def State.buildFrame (s : State) (p r n t : Nat) : State :=
  let base := s.rd XC_TXS.MAP_BASE p n
  let data := packBodies ((List.range (s.rd XC_TXS.BITS p n)).map (fun b => s.tapValue p (base + b)))
  let crc := frameCrc (t % 65536) data
  let x := s.sub p r
  let s := s.setSub p r { x with history := keepHistory (s.distance p r) x.history ⟨0, n % 16, t, data, crc⟩ }
  s.queueFrame p r (n % 16) t data crc

/-- Every gated sub-port builds the frames of stroke `t` (R263, R268). -/
def State.buildFrames (s : State) (t : Nat) : State :=
  s.gatedSubs.foldl (fun s ph =>
    let r := s.roleOf ph.1 ph.2
    (s.entries XC_TXS.EN ph.1 r).foldl (fun s n => s.buildFrame ph.1 r n t) s) s

/-- The receive points of one delivering stream load from the frame of stroke `t` − d; without one they load 0
(R263, R266, R268). -/
def State.loadStream (s : State) (p r n t : Nat) : State :=
  let d := s.distance p r
  let data := match (s.sub p r).held.find? (fun f => decide (f.stream = n % 16 ∧ f.tally + d = t)) with
    | some f => f.data
    | none => []
  let base := s.rd XC_RXS.MAP_BASE p n
  (List.range (s.rd XC_RXS.BITS p n)).foldl (fun s b =>
    let st := s.rd XC_RXMAP.STOPE p (base + b)
    if st ≤ 159 then
      s.updStope ((p / 4) * 160 + st) (fun x =>
        { x with recv := Tab.set natLt false x.recv (s.rd XC_RXMAP.POINT p (base + b)) (bitAt (data.getD (b / 256) 0) (b % 256)) })
    else s) s

/-- The receive points of every delivering stream load for stroke `t`: the highest port and, in a port, the highest
entry loads last (R266). Frames of strokes up to `t` − d are used up. -/
def State.loadReceivePoints (s : State) (t : Nat) : State :=
  s.gatedSubs.foldl (fun s ph =>
    let p := ph.1
    let r := s.roleOf p ph.2
    let s := (s.delivering p r).foldl (fun s n => s.loadStream p r n t) s
    let x := s.sub p r
    s.setSub p r { x with held := x.held.filter (fun f => decide (t < f.tally + s.distance p r)) }) s

/-! ### Gating and resets -/

/-- A role's delivering streams expect tally `e`, and frames held for strokes below it are gone (R268, R282). -/
def State.expectAll (s : State) (p r e : Nat) : State :=
  let x := s.sub p r
  s.setSub p r { x with held := x.held.filter (fun f => decide (e ≤ f.tally)), expTally := (List.range 16).foldl (fun t n => Tab.set natLt 0 t n e) x.expTally }

/-- Every gated sub-port resets at a restore to tally `e` or a FULL load (`e` = 0 and no history), and sends its
restored history again (R280, R282). -/
def State.xpReset (s : State) (e : Nat) (hist : List (Nat × List XSlot)) (full : Bool) : State :=
  s.gatedSubs.foldl (fun s ph =>
    let p := ph.1
    let r := s.roleOf p ph.2
    let h := if full then [] else Tab.get [] hist (2 * p + r)
    let x := s.sub p r
    let s := s.setSub p r { x with slots := [], staging := [], held := [], stopped := [], nakSent := none, ackDue := false, rcnt := (x.rcnt + 1) % 256, history := h }
    let s := (s.wr (ab r XC_XP_SEQ.TX_NEXT_A XC_XP_SEQ.TX_NEXT_B) 0 p).wr (ab r XC_XP_SEQ.RX_NEXT_A XC_XP_SEQ.RX_NEXT_B) 0 p
    let s := s.wr (ab ph.2 XC_XP_STATUS.SYNCED_A XC_XP_STATUS.SYNCED_B) 0 p
    let s := s.expectAll p r (if full then 0 else e - s.distance p r)
    h.foldl (fun s f => s.queueFrame p r f.stream f.tally f.data f.crc) s) s

/-- Enabled receive entries anywhere that forward into role `r` of port `p`, as (port, entry). -/
def State.forwardsInto (s : State) (p r : Nat) : List (Nat × Nat) :=
  (List.range 16).flatMap (fun q => ((s.entries XC_RXS.EN q 0 ++ s.entries XC_RXS.EN q 1).filter (fun n =>
    s.on XC_RXS.FWD q n && decide (s.rd XC_RXS.FWD_PORT q n = p) && decide (s.rd XC_RXS.FWD_HALF q n = r))).map (fun n => (q, n)))

/-- Two roles have the same mode and distance (R265). -/
def State.sameMode (s : State) (p r q u : Nat) : Bool :=
  decide (s.rd (ab r XC_XP_CTRL.MODE_A XC_XP_CTRL.MODE_B) p = s.rd (ab u XC_XP_CTRL.MODE_A XC_XP_CTRL.MODE_B) q)
    && decide (s.distance p r = s.distance q u)

/-- A forward from or into the role breaks R265. -/
def State.forwardBroken (s : State) (p r : Nat) : Bool :=
  (s.entries XC_RXS.EN p r).any (fun n => s.on XC_RXS.FWD p n
      && !s.sameMode p r (s.rd XC_RXS.FWD_PORT p n) (s.rd XC_RXS.FWD_HALF p n))
    || (s.forwardsInto p r).any (fun qn => !s.sameMode p r qn.1 (qn.2 / 16))

/-- A write of `GATE_x` = 1 is refused (R268). -/
def State.gateRefused (s : State) (p h : Nat) : Bool :=
  !s.winderStopped || !s.subEnabled p h
    || (s.entries XC_TXS.EN p h).any (fun n => decide (16384 < s.rd XC_TXS.MAP_BASE p n + s.rd XC_TXS.BITS p n))
    || (s.entries XC_RXS.EN p h).any (fun n => decide (16384 < s.rd XC_RXS.MAP_BASE p n + s.rd XC_RXS.BITS p n))
    || s.forwardBroken p h
    || decide (64 < (2 * s.distance p h + 2) * ((s.entries XC_TXS.EN p h).length + (s.forwardsInto p h).length))

/-- GATE (R268, R283): gating treats frames below the tally as received; a role that a stand-in carries moves back. -/
def execGate (port half : Nat) (v : Bool) (s : State) : Res :=
  need (port < 16 ∧ half < 2)
    (let g := ab half XC_XP_CTRL.GATE_A XC_XP_CTRL.GATE_B
     if !v then
       (s.wr g 0 port).wr (ab half XC_XP_STATUS.SYNCED_A XC_XP_STATUS.SYNCED_B) 0 port
     else if s.gateRefused port half then s.wr XC_XP_STATUS.XP_CFG_ERR 1 port
     else if s.stoodIn port half then
       let t := (s.wr g 1 port).wr (ab half XC_XP_STATUS.OVER_A XC_XP_STATUS.OVER_B) 0 port
       let t := (t.wr (ab half XC_XP_CTRL.GATE_B XC_XP_CTRL.GATE_A) 0 port).wr
         (ab half XC_XP_STATUS.SYNCED_B XC_XP_STATUS.SYNCED_A) 0 port
       t.sendSync port half
     else if s.gated port half then s
     else
       ((s.wr g 1 port).expectAll port half (s.rd WD_TALLY.TALLY)).sendSync port half)

/-- STREAM_MAP_WRITE (R267): stream entries and maps take writes while the Winder is stopped or neither half is gated.
`off` is the offset in the port's block. -/
def execStreamMapWrite (port off value : Nat) (s : State) : Res :=
  need (port < 16 ∧ off % 8 = 0 ∧
      ((0x200 ≤ off ∧ off < 0x300) ∨ (0x400 ≤ off ∧ off < 0x500) ∨ (0x20000 ≤ off ∧ off < 0x60000)))
    (if !(s.winderStopped || (!s.gated port 0 && !s.gated port 1)) then s.wr XC_XP_STATUS.XP_CFG_ERR 1 port
     else if off < 0x300 then
       s.setFields [XC_TXS.EN, XC_TXS.MAP_BASE, XC_TXS.BITS] value port ((off - 0x200) / 8)
     else if off < 0x500 then
       s.setFields [XC_RXS.EN, XC_RXS.DELIVER, XC_RXS.FWD, XC_RXS.FWD_PORT, XC_RXS.FWD_HALF, XC_RXS.FWD_STREAM,
         XC_RXS.MAP_BASE, XC_RXS.BITS] value port ((off - 0x400) / 8)
     else if off < 0x40000 then
       s.setFields [XC_TXMAP.STOPE, XC_TXMAP.POINT] value port ((off - 0x20000) / 8)
     else s.setFields [XC_RXMAP.STOPE, XC_RXMAP.POINT] value port ((off - 0x40000) / 8))

/-- Payload of a rate and FEC setting per lane, in units of 10 Mbit/s (09 R242). -/
def ratePayload (rate fec : Nat) : Nat :=
  if rate = 0 then 10533 else if rate = 1 then 5266 else if rate = 2 then (if fec = 1 then 5266 else 5574)
  else if rate = 3 then (if fec = 1 then 2633 else 2787) else 1026

/-- The stand-in's rate lets it carry the half's frames (R281): read as a payload not below the half's (DEDUCED, log
entry 14). -/
def State.rateCarries (s : State) (p h : Nat) : Bool :=
  decide (ratePayload (s.rd (ab h XC_PORT_CTRL.RATE_A XC_PORT_CTRL.RATE_B) p) (s.rd (ab h XC_PORT_CTRL.FEC_A XC_PORT_CTRL.FEC_B) p)
    ≤ ratePayload (s.rd (ab h XC_PORT_CTRL.RATE_B XC_PORT_CTRL.RATE_A) p) (s.rd (ab h XC_PORT_CTRL.FEC_B XC_PORT_CTRL.FEC_A) p))

/-- ALT_WRITE (R281). -/
def execAltWrite (port half : Nat) (v : Bool) (s : State) : Res :=
  need (port < 16 ∧ half < 2)
    (let f := ab half XC_XP_CTRL.ALT_A XC_XP_CTRL.ALT_B
     if s.on XC_PORT_CTRL.SPLIT port && s.winderStopped && s.subEnabled port (1 - half) && !s.gated port (1 - half)
         && s.rateCarries port half then s.put f v port
     else s.wr XC_XP_STATUS.XP_CFG_ERR 1 port)

/-! ### Receiving -/

/-- The lane of a half that carries the blocks of logical lane `n`: the one whose peer says so (R269, 09 R247). -/
def State.peerLane (s : State) (p h n : Nat) : Nat :=
  ((s.lanesOf p h).find? (fun i => decide (s.rd XC_LANE_PEER.LANE p i = n))).getD ((s.lanesOf p h).getD n (4 * h))

/-- A block of a frame is errored: block `j` lies on logical lane `j` modulo the width (R269, 09 R241). -/
def State.anyErrored (s : State) (p h : Nat) (blocks : List XBlock) : Bool :=
  let w := (s.lanesOf p h).length
  (blocks.zipIdx).any (fun bj => s.errored p (s.peerLane p h (bj.2 % w)) bj.1)

/-- A frame is discarded as errored, ahead or failing its CRC (R274). -/
def State.badFrame (s : State) (p r : Nat) : State := s.count (ab r XC_XP_DROP.BAD_A XC_XP_DROP.BAD_B) 1 p

/-- At most one NAK per expected value goes out (R275). -/
def State.sendNak (s : State) (p h : Nat) : State :=
  let r := s.roleOf p h
  let x := s.sub p r
  let next := s.rd (ab r XC_XP_SEQ.RX_NEXT_A XC_XP_SEQ.RX_NEXT_B) p
  if x.nakSent = some next then s
  else ((s.setSub p r { x with nakSent := some next }).count (ab r XC_XP_RETRY.NAK_SENT_A XC_XP_RETRY.NAK_SENT_B) 1 p).offerRows p h
    [nakBlock next]

/-- An accepted frame at its stream (R274, R277, R278): no matching entry, slip, or delivered and forwarded. -/
def State.deliver (s : State) (p r : Nat) (f : XFrame) : State :=
  let n := 16 * r + f.stream
  let x := s.sub p r
  let e := x.expected f.stream
  if !s.on XC_RXS.EN p n || (s.on XC_RXS.DELIVER p n && decide (f.dlen ≠ (s.rd XC_RXS.BITS p n + 255) / 256)) then
    s.wr XC_XP_STATUS.STREAM_ERR 1 p
  else if f.stream ∈ x.stopped then s
  else if f.tally ≠ e % 65536 then
    let t := s.setSub p r { x with stopped := x.stopped ++ [f.stream] }
    let t := (t.wr (ab r XC_XP_STATUS.SLIP_A XC_XP_STATUS.SLIP_B) 1 p).wr XC_XP_STATUS.SLIP_STREAM f.stream p
    let t := (t.wr XC_XP_STATUS.SLIP_HALF r p).wr XC_XP_STATUS.SLIP_TALLY f.tally p
    t.post 8 0x0080 2 (2 ^ 60 * p + t.raw XC_XP_STATUS.regs p)
  else
    let t := s.setSub p r { x with
      expTally := Tab.set natLt 0 x.expTally f.stream (e + 1)
      held := if s.on XC_RXS.DELIVER p n then x.held ++ [⟨f.seq, f.stream, e, f.data, f.crc⟩] else x.held }
    if s.on XC_RXS.FWD p n then
      let q := s.rd XC_RXS.FWD_PORT p n
      let u := s.rd XC_RXS.FWD_HALF p n
      if t.gated q (t.carrier q u) then t.queueFrame q u (s.rd XC_RXS.FWD_STREAM p n) e f.data f.crc else t
    else t

/-- The frame of a header and its data blocks at a synchronised sub-port, past the checks for errored blocks (R274, R275). -/
def State.takeFrame (s : State) (p h : Nat) (f : XFrame) : State :=
  let r := s.roleOf p h
  let next := ab r XC_XP_SEQ.RX_NEXT_A XC_XP_SEQ.RX_NEXT_B
  let x := s.rd next p
  let s := if f.ackv then s.acked p h f.ack else s
  if seqOld x f.seq then
    let y := s.sub p r
    (s.setSub p r { y with ackDue := true }).count (ab r XC_XP_DROP.DUP_A XC_XP_DROP.DUP_B) 1 p
  else if f.seq ≠ x ∨ f.crc ≠ frameCrc f.tally f.data ∨ f.data.length ≠ f.dlen then (s.badFrame p r).sendNak p h
  else
    let y := s.sub p r
    let t := (s.setSub p r { y with ackDue := true, nakSent := none }).countWrap next 1 p
    t.deliver p r f

/-- STROKE_FRAME (R268, R274, R280): a header and the data blocks after it, as the lanes of the sub-port release them. A header that its lane
drops is counted there (09 R238); data blocks after a control block that is no header are discarded. -/
def execStrokeFrame (port half : Nat) (header : XBlock) (data : List XBlock) (s : State) : Res :=
  need (port < 16 ∧ half < 2)
    (let p := port
     let h := half
     let head := header
     let f := XFrame.ofBlocks header.bits (data.map (·.bits))
     if !s.linkUp p h then s
     else
       let c := s.control p (s.peerLane p h 0) head
       let lost := s.errored p (s.peerLane p h 0) head || (decide (head.bits % 2 = 1) && (!ccrcOk head.bits || !codeKnown (blockCode head.bits)))
       if !lost && decide (c.2 ≠ some 0x10) then c.1
       else if !s.gated p h then c.1.wr XC_XP_STATUS.UNGATED_RX 1 p
       else if !s.synced p h then c.1
       else if lost ∨ s.anyErrored p h (header :: data) ∨ 64 < f.dlen then c.1.badFrame p (s.roleOf p h)
       else c.1.takeFrame p h f)

/-- A sub-port hears the link layer's blocks: it is up, gated and synchronised (R280). -/
def State.hearsLink (s : State) (p h : Nat) : Bool := s.linkUp p h && s.gated p h && s.synced p h

/-- ACK (R272, R275). -/
def execAck (at_ : LaneAt) (b : XBlock) (s : State) : Res :=
  need (at_.port < 16 ∧ at_.lane < 8)
    (let h := s.halfOf at_.port at_.lane
     let r := s.control at_.port at_.lane b
     if r.2 = some 0x11 ∧ s.hearsLink at_.port h then r.1.acked at_.port h (bitsOf b.bits 9 12) else r.1)

/-- NAK (R272, R275): it also tells that everything below `NEXT` has arrived. -/
def execNak (at_ : LaneAt) (b : XBlock) (s : State) : Res :=
  need (at_.port < 16 ∧ at_.lane < 8)
    (let h := s.halfOf at_.port at_.lane
     let r := s.control at_.port at_.lane b
     if r.2 = some 0x12 ∧ s.hearsLink at_.port h then r.1.resendFrom at_.port h (bitsOf b.bits 9 12) else r.1)

/-- ACK_TIMER (R275): no header went out within 32 Gallery cycles of an acceptance, so an ACK block does. -/
def execAckTimer (sub : Nat) (s : State) : Res :=
  need (sub < 32)
    (let p := sub / 2
     let r := s.roleOf p (sub % 2)
     let x := s.sub p r
     if x.ackDue && s.gated p (sub % 2) && s.synced p (sub % 2) then
       (s.setSub p r { x with ackDue := false }).offerRows p (sub % 2) [ackBlock (s.ackNow p r)]
     else s)

/-- RESEND_TIMEOUT (R275): `RTO` has passed since the oldest unacknowledged frame went out, and it goes out again with those after it; or,
with `nak`, since the last NAK went out, and the receiving side may send another for the same `NEXT`. -/
def execResendTimeout (timer : RetryTimer) (s : State) : Res :=
  need (timer.sub < 32)
    (let p := timer.sub / 2
     let h := timer.sub % 2
     let r := s.roleOf p h
     let x := s.sub p r
     if !s.gated p h || !s.synced p h then s
     else if timer.nak then s.setSub p r { x with nakSent := none }
     else
       match x.slots.head? with
       | some f => s.resendFrom p h f.seq
       | none => s)

/-- The role of half `h` moves onto the other half (R283). -/
def State.moveRole (s : State) (p h : Nat) : State :=
  let t := (s.wr (ab h XC_XP_STATUS.OVER_A XC_XP_STATUS.OVER_B) 1 p).wr (ab h XC_XP_CTRL.GATE_A XC_XP_CTRL.GATE_B) 0 p
  let t := t.wr (ab h XC_XP_STATUS.SYNCED_A XC_XP_STATUS.SYNCED_B) 0 p
  t.wr (ab h XC_XP_CTRL.GATE_B XC_XP_CTRL.GATE_A) 1 p

/-- A SYNC block at a gated half (R280): another `RCNT` is ignored, a mismatch sets `SYNC_ERR_x`, a match
synchronises and sends again from `NEXT`. -/
def State.onSync (s : State) (p h b : Nat) : State :=
  let r := s.roleOf p h
  let next := bitsOf b 9 12
  if bitsOf b 29 8 ≠ (s.sub p r).rcnt then s
  else if !bitAt b 27 || decide (bitsOf b 21 1 ≠ s.rd (ab r XC_XP_CTRL.MODE_A XC_XP_CTRL.MODE_B) p)
      || decide (bitsOf b 22 5 ≠ s.rd (ab r XC_XP_CTRL.LAT_A XC_XP_CTRL.LAT_B) p) then
    s.wr (ab h XC_XP_STATUS.SYNC_ERR_A XC_XP_STATUS.SYNC_ERR_B) 1 p
  else
    let t := s.wr (ab h XC_XP_STATUS.SYNCED_A XC_XP_STATUS.SYNCED_B) 1 p
    (t.freeBelow p r next).resendFrom p h next

/-- SYNC (R272, R280, R283): with `ROLE_MOVE`, a half that stands in for its gated other half takes its role over, sends its own SYNC and
hears this one; an end that is not gated has now heard its peer. The block comes in its parts. -/
def execSync (port lane cw kind code fields ccrc : Nat) (s : State) : Res :=
  need (port < 16 ∧ lane < 8)
    (let p := port
     let b := XBlock.ofParts cw kind code fields ccrc
     let h := s.halfOf port lane
     let c := s.control port lane b
     let t := c.1
     if c.2 ≠ some 0x13 ∨ !s.linkUp p h then t
     else if bitAt b.bits 28 && !s.stoodIn p (1 - h) then
       (if s.on (ab h XC_XP_CTRL.ALT_B XC_XP_CTRL.ALT_A) p && s.gated p (1 - h) then
          ((t.moveRole p (1 - h)).sendSync p h).onSync p h b.bits
        else t.wr XC_XP_STATUS.FAILOVER_ERR 1 p)
     else if s.gated p h then t.onSync p h b.bits
     else t.setSub p h { t.sub p h with heard := true })

/-- SYNC_TIMER (R280): a sub-port that is up sends SYNC until it has the peer's: a gated one until it is synchronised, another until one has
come since the link returned. -/
def execSyncTimer (sub : Nat) (s : State) : Res :=
  need (sub < 32)
    (let p := sub / 2
     let h := sub % 2
     if s.linkUp p h && (if s.gated p h then !s.synced p h else !(s.sub p h).heard) then s.sendSync p h else s)

/-- FAILOVER (R281, R283): a gated half that has been down for `FAILOVER` moves its role to its stand-in. A half that carries the other's role
has no stand-in. -/
def execFailover (port half : Nat) (s : State) : Res :=
  need (port < 16 ∧ half < 2)
    (if s.gated port half && !s.linkUp port half && !s.stoodIn port (1 - half) && s.on (ab half XC_XP_CTRL.ALT_A XC_XP_CTRL.ALT_B) port
        && s.on XC_XP_CTRL.FAILOVER port then (s.moveRole port half).sendSync port (1 - half) else s)

end Sys2Proof.Machine
end

