-- ==== Sys2Proof/Machine/Fabric.lean ====
section
/-! DEFINITION. A stroke: its start, active phases, slot ends and hold phases (03 R81 to R86, 08 R210 to R212), and the
single phases of a stepped stope (04 R109). -/

namespace Sys2Proof.Machine

/-- Fold factor and routing depth in force (06 R168). -/
def State.foldF (s : State) : Nat := s.rd CF_LOADED.F
def State.depthK (s : State) : Nat := s.rd CF_LOADED.K

/-! ### Values between stopes (04 R93 to R96) -/

/-- The stope beyond a side (0 north, 1 east, 2 south, 3 west) in the same seam (01 R17, 04 R93). -/
def neighbour (n side : Nat) : Option Nat :=
  let r := (n % 160) / 10
  let c := (n % 160) % 10
  if side = 0 then (if r < 15 then some (n + 10) else none)
  else if side = 1 then (if c < 9 then some (n + 1) else none)
  else if side = 2 then (if 0 < r then some (n - 10) else none)
  else if 0 < c then some (n - 1) else none

/-- The stope at the far end of the seam ties of a tie stope (04 R96). -/
def tiePartner (n : Nat) : Option Nat :=
  let seam := n / 160
  let r := (n % 160) / 10
  let c := (n % 160) % 10
  if c = 9 ∧ seam % 2 = 0 then some (n + 160 - 9)
  else if c = 0 ∧ seam % 2 = 1 then some (n - 160 + 9)
  else if r = 0 ∧ 1 ≤ c ∧ c ≤ 8 then (if seam < 2 then some (n + 320) else some (n - 320))
  else none

/-- What stope `n` evaluates in a context, with the pipeline registers given (03 R82). -/
def State.env (s : State) (n ctx : Nat) (regs : List (Key × Bool)) : EvalEnv :=
  { st := s.stope n, ctx := ctx, regs := regs, draw := s.freeCount
    pins := (stopePins n).map (fun bj => (48 * bj.1 + bj.2, (s.pin bj.1 bj.2).input)) }

/-- The values that a stope's pipeline registers take at the end of an active phase (03 R83, 04 R93 to R95): `PREG`
wires, tie registers at its own end and from the partner, boundary registers from the neighbours. A neighbour or
partner that is not in use sends 0, and the tie and boundary registers of a stope that is not in use itself (a stepped one) take 0. -/
def State.nextRegs (s : State) (n ctx : Nat) : List (Key × Bool) :=
  let x := s.stope n
  let e := s.env n ctx x.regs
  let wires := x.cfg.preg.foldl (fun t w => Tab.set Key.lt false t (Sink.wire w.1).key (e.sink (.wire w.1))) []
  let own := if s.inUse n then (x.cfg.drive.filter (fun kv => decide (kv.1.id = 3))).foldl (fun t kv =>
    Tab.set Key.lt false t kv.1 (e.sink (.tie kv.1.idx))) wires else wires
  let ties := match tiePartner n with
    | some m => if s.inUse m && s.inUse n then
        ((s.stope m).regs.filter (fun kv => decide (kv.1.id = 3))).foldl (fun t kv =>
          Tab.set Key.lt false t ⟨10, 0, kv.1.idx⟩ kv.2) own else own
    | none => own
  [0, 1, 2, 3].foldl (fun t side => match neighbour n side with
    | some m =>
      if s.inUse m && s.inUse n then
        let em := s.env m ctx (s.stope m).regs
        ((s.stope m).cfg.drive.filter (fun kv => decide (kv.1.id = 2 ∧ kv.1.unit = (side + 2) % 4))).foldl (fun t kv =>
          Tab.set Key.lt false t ⟨2, side, kv.1.idx⟩ (em.sink (.boundary ((side + 2) % 4) (kv.1.idx / 16) (kv.1.idx % 16)))) t
      else t
    | none => t) ties

/-! ### The stope port (07 R183, R561) -/

/-- Outputs of the stope port to routing, as this model numbers them: 0 `RVALID`, 1 `RERR`, 2 `RPOISON`, 3 `TVALID`,
4 `TWRITE`, 16 to 35 `TADDR`, 64 to 127 `TBE`, 512 to 1023 `RDATA`, 1024 to 1535 `TWDATA`. Inputs: 0 `TDONE`, 1
`TERR`, 512 to 1023 `TRDATA`. Which of its nets the configuration places data on is the frames' (DEDUCED, log entry 17). -/
def portBits (base w v : Nat) (t : List (Nat × Bool)) : List (Nat × Bool) :=
  (List.range w).foldl (fun t i => Tab.set natLt false t (base + i) (v.testBit i)) t

/-- At the presentation point of slot `c` the port loads its outputs: the oldest response that has arrived, and the
held target access (07 R183, R561). -/
def presentPort (c : Nat) (x : Stope) : Stope :=
  let x :=
    if x.cfg.consumer = c then
      match x.masters.find? (fun m => m.resp.isSome) with
      | some m =>
        let (d, er, po) := m.resp.getD (0, false, false)
        let out := portBits 512 512 (if er ∨ m.write then 0 else d) (Tab.set natLt false (Tab.set natLt false
          (Tab.set natLt false x.portOut 0 true) 1 er) 2 po)
        { x with portOut := out, masters := x.masters.erase m }
      | none => { x with portOut := portBits 0 3 0 (portBits 512 512 0 x.portOut) }
    else x
  if x.cfg.target ∧ x.cfg.present = c then
    match x.target with
    | some a =>
      if a.presented then { x with portOut := Tab.set natLt false x.portOut 3 false }
      else
        let out := portBits 16 20 a.addr (portBits 64 64 a.be (portBits 1024 512 a.wdata
          (Tab.set natLt false (Tab.set natLt false x.portOut 3 true) 4 a.write)))
        { x with portOut := out, target := some { a with presented := true } }
    | none => { x with portOut := Tab.set natLt false x.portOut 3 false }
  else x

/-- The held target access ends with a response, and the next one that waits is accepted (07 R561). A WRITEP gets no
response. -/
def State.answerTarget (s : State) (n status data : Nat) : State :=
  match (s.stope n).target with
  | some a =>
    let t := s.updStope n (fun x => { x with target := x.targetWait.head?, targetWait := x.targetWait.tail })
    t.respond n a.src a.tag status (if a.write then 0 else data) false a.posted
  | none => s

/-- At the end of the target answer slot the port captures `TDONE`; `TERR` makes the status TARGET (07 R561). -/
def State.targetAnswer (s : State) (n c : Nat) (e : EvalEnv) : State :=
  let x := s.stope n
  match x.target with
  | some a =>
    if x.cfg.target ∧ x.cfg.answer = c ∧ a.presented ∧ e.sink (.stopePort 0) then
      let err := e.sink (.stopePort 1)
      let d := (List.range 512).foldl (fun v i => v + b2n (e.sink (.stopePort (512 + i))) * 2 ^ i) 0
      s.answerTarget n (if err then 1 else 0) d
    else s
  | none => s

/-! ### Holds (08 R212) -/

/-- A due write of the stope must push into a full journal (05 R142). -/
def State.journalHolds (s : State) (n : Nat) : Bool :=
  (List.range 16).any (fun b => s.binWaits n b) ||
  (s.stope n).ports.due.any (fun d => decide (32 ≤ d.1 ∧ d.1 < 34) &&
    (let r := sumpReq d.2 (Tab.get 0 (s.stope n).ports.req ⟨0, d.1, d.2⟩)
     decide (r.be ≠ 0) && s.journalFull n (d.1 - 16) r.addr))

/-- The stope holds the part before slot `c`: a write must push into a full journal, or a consumer waits for its
response, or a logged commit waits for its words (05 R142, 07 R183, 11 R304, 08 R212). -/
def State.stopeHolds (s : State) (n c : Nat) : Bool :=
  let x := s.stope n
  (x.cfg.waits && decide (x.cfg.consumer = c) && !x.masters.isEmpty && !x.masters.any (fun m => m.resp.isSome))
    || (decide (c = 0) && s.commitWaits n) || s.journalHolds n

/-- A stope holds the part before slot `c` (08 R212). -/
def State.slotHeld (s : State) (c : Nat) : Bool :=
  s.winder.holdReq.any (fun q => s.inUse q.1) || s.usedStopes.any (fun n => s.stopeHolds n c)

/-- The run gate of stroke `t` = the tally (08 R210, R213). -/
def State.gateOpen (s : State) : Bool :=
  decide (s.wdState = 2) && !s.winder.inStroke && s.sampleDue.isNone
    && decide (s.portWait s.tally = 0) && decide (s.tally < s.horizon) && !s.slotHeld 0
    && !s.winder.events.any (fun e => decide (e.kind ≠ .sample ∧ e.e ≤ s.tally))

/-! ### Commands -/

/-- The stope waits for the device's boundary and can take it: configured, out of reset, on the phase clock (04 R110, R116, R118). -/
def State.syncDue (s : State) (n : Nat) : Bool :=
  s.on ST_TREE_STATUS.HOLD_SYNC n && decide (s.stopeState n = 2 ∨ s.stopeState n = 3)
    && decide (s.rd ST_TREE_STATUS.SRC_CUR n = 0) && !s.on ST_TREE_STATUS.SWITCHING n

/-- Every stope that waits for the device's boundary takes part from here on: the divider loads the broadcast, and the clock of a stope
in use runs again (04 R110, R116, R118). -/
def State.syncStopes (s : State) : State :=
  ((List.range 640).filter s.syncDue).foldl (fun s n =>
    let t := ((s.wr ST_TREE_STATUS.HOLD_SYNC 0 n).wr ST_TREE_STATUS.LOCAL_CTX 0 n).wr ST_TREE_STATUS.LOCAL_PHASE 0 n
    if s.inUse n then t.ungate 4 n else t) s

/-- The stope divider advances by one phase: phases into slots of k, slots into strokes of F (04 R105). -/
def State.dividerStep (s : State) (n : Nat) : State :=
  let p := s.rd ST_TREE_STATUS.LOCAL_PHASE n + 1
  let c := s.rd ST_TREE_STATUS.LOCAL_CTX n + 1
  if p < s.depthK then s.wr ST_TREE_STATUS.LOCAL_PHASE p n
  else (s.wr ST_TREE_STATUS.LOCAL_PHASE 0 n).wr ST_TREE_STATUS.LOCAL_CTX (if c < s.foldF then c else 0) n

/-- The stopes that evaluate: in use, on the phase clock, in step with the Winder (07 R179, 04 R107, R110). -/
def State.activeStopes (s : State) : List Nat :=
  s.usedStopes.filter (fun n => decide (s.rd ST_TREE_STATUS.SRC_CUR n = 0) && !s.on ST_TREE_STATUS.HOLD_SYNC n)

/-- STROKE_START (08 R210, 10 R263, 21 R526, 07 R180): the gate passes, receive points and pin inputs load, and the
stroke begins. While the gate is shut nothing happens. -/
def execStrokeStart (s : State) : Res :=
  .next
    (if s.gateOpen then
       let t := s.syncStopes.loadReceivePoints s.tally
       let t := t.activeStopes.foldl (fun t n => t.loadPins n) t
       let t := t.activeStopes.foldl (fun t n => t.updStope n (fun x =>
         if x.usePending then { x with usePending := false, useTally := s.tally } else x)) t
       t.drawn.wd (fun w => { w with inStroke := true, phase := 0, slots := 0, sampled := false })
     else s)

/-- What one stope captures on the edge that ends slot `c` (03 R72, R73, R82; 05 R124, R134; 08 R214; 10 R262; 21
R526), from the values before the edge. -/
def State.slotEndStope (s : State) (f c n : Nat) : State :=
  let x := s.stope n
  let e := s.env n c x.regsBefore
  let y := captureCells e f x.cfg.bits x
  let y := capturePorts e (loadResults y)
  let y := updateQrdy c (s.visible n) y
  let y := { y with taps := (x.cfg.drive.filter (fun kv =>
      decide (kv.1.id = 5) && decide (Tab.get 0 x.cfg.tapSlot kv.1.idx = c))).foldl (fun t kv =>
    Tab.set natLt false t kv.1.idx (e.sink (.tap kv.1.idx))) y.taps }
  let y := if c + 1 = f then
      { y with trig := (List.range 16).foldl (fun t j => Tab.set natLt false t j (e.sink (.trigger j))) y.trig }
    else y
  let t := s.setStope n y
  let t := if c + 1 = f then
      (stopePins n).foldl (fun t bj =>
        let j := 48 * bj.1 + bj.2
        t.updPin bj.1 bj.2 (fun q => { q with o := e.sink (.pinO j), t := e.sink (.pinT j) })) t
    else t
  t.targetAnswer n c e

/-- The slot that the stope divider has just counted to its end, if it stands at one: its capture enable (04 R105). -/
def State.dividerSlot (s : State) (n : Nat) : Option Nat :=
  if s.rd ST_TREE_STATUS.LOCAL_PHASE n = 0 then
    some (if s.rd ST_TREE_STATUS.LOCAL_CTX n = 0 then s.foldF - 1 else s.rd ST_TREE_STATUS.LOCAL_CTX n - 1)
  else none

/-- The stope captures where its divider gives the enable (04 R105; 03 R82). -/
def State.slotCapture (s : State) (n : Nat) : State :=
  match s.dividerSlot n with
  | some c => s.slotEndStope s.foldF c n
  | none => s

/-- ACTIVE_PHASE (03 R81 to R83, 04 R105, 05 R124): in the first phase of a slot the stope ports present and due requests
execute; on the edge that ends the phase the pipeline registers capture, all at once, and every stope divider advances. Each stope
goes by its own divider: one that has slipped captures where its own slot ends (04 R106). -/
def execActivePhase (s : State) : Res :=
  .next
    (let f := s.foldF
     let k := s.depthK
     let p := s.winder.phase
     if !s.winder.inStroke || s.halted || decide (f * k ≤ p) || decide ((s.winder.slots + 1) * k ≤ p)
         || (decide (p % k = 0) && decide (p ≠ 0) && s.slotHeld (p / k)) then s
     else
       let act := s.activeStopes
       let t := act.foldl (fun t n =>
         if s.rd ST_TREE_STATUS.LOCAL_PHASE n = 0 then
           (t.updStope n (presentPort (s.rd ST_TREE_STATUS.LOCAL_CTX n))).executeDue n else t) s
       let t := act.foldl (fun u n => (u.updStope n (fun x => { x with
         regsBefore := (t.stope n).regs, regs := t.nextRegs n (s.rd ST_TREE_STATUS.LOCAL_CTX n) }))) t
       let t := act.foldl State.dividerStep t
       let t := if (p + 1) % k = 0 then t else act.foldl State.slotCapture t
       (((t.countWrap WD_PHASES.COUNT).drawn).wd (fun w => { w with phase := p + 1 })).endPulses)

/-- The end of slot `slots` in every active stope. -/
def State.endSlot (s : State) : State :=
  let c := s.winder.slots
  (s.activeStopes.foldl State.slotCapture s).drawn.wd (fun w => { w with slots := c + 1 })

/-- The slot's last phase has run and its end has not been taken. -/
def State.slotEndDue (s : State) : Bool :=
  !s.halted && s.winder.inStroke && decide (s.winder.phase = (s.winder.slots + 1) * s.depthK) && decide (s.winder.slots < s.foldF)

/-- SLOT_END (03 R72, R82): on the edge that ends the slot's last phase everything of its context captures. -/
def execSlotEnd (s : State) : Res := .next (if s.slotEndDue then s.endSlot else s)

/-- Each hold that a full journal asks for, in the stope's count (05 R142). -/
def State.countStalls (s : State) : State :=
  s.usedStopes.foldl (fun s n => if s.journalHolds n then s.count ST_MEM_JRNL.STALL_COUNT 1 n else s) s

/-- HOLD_PHASE (08 R210, R212): one phase clock passes while the part holds. A part that holds where a STOP is scheduled stops. It counts once, in the first register whose
reason applies; requests for a single phase are served. -/
def execHoldPhase (s : State) : Res :=
  .next
    (if s.wdState ≠ 2 ∨ s.halted then s
     else if s.settle.wdState ≠ 2 then s.settle
     else
       let c := if s.winder.inStroke then s.winder.phase / max s.depthK 1 else 0
       let between := !s.winder.inStroke || decide (s.winder.phase = s.winder.slots * s.depthK)
       let t := s.endPulses.wd (fun w => { w with holdReq := w.holdReq.filter (fun q => !q.2) })
       if !s.winder.inStroke && s.sampleDue.isSome then t.countWrap WD_HOLDS_SAMPLE.COUNT
       else if !s.winder.inStroke && decide (s.horizon ≤ s.tally) then t.countWrap WD_HOLDS_GRANT.COUNT
       else if !s.winder.inStroke && decide (s.portWait s.tally ≠ 0) then t.countWrap WD_HOLDS_FRAME.COUNT
       else if between && s.slotHeld c then (t.countWrap WD_HOLDS_STOPE.COUNT).countStalls
       else s)

/-! ### One phase of a stepped stope (04 R109) -/

/-- A pulse in a stepped stope: one phase of its divider, with the slot's end and the boundary where it reaches them.
USER bits see the edges held in `ST_TREE_EDGES`; a line with both its bits set has no edge (04 R109, R119). A stope that is not ISOLATED
or IN USE evaluates nothing: its divider alone advances (07 R179). -/
def State.stepPulse (s : State) (n : Nat) : State :=
  let c := s.rd ST_TREE_STATUS.LOCAL_CTX n
  let p := s.rd ST_TREE_STATUS.LOCAL_PHASE n
  let s := s.updStope n (fun x => { x with capturesOff := x.capturesOff && !decide (c = 0 ∧ p = 0) })
  if (s.stope n).capturesOff || (decide (s.stopeState n ≠ 2) && decide (s.stopeState n ≠ 3)) then s.dividerStep n
  else
    let t := if p = 0 then s.executeDue n else s
    let t := t.updStope n (fun x => { x with regsBefore := x.regs, regs := t.nextRegs n c })
    let t := (t.dividerStep n).slotCapture n
    let rise := s.rd ST_TREE_EDGES.RISE n
    let fall := s.rd ST_TREE_EDGES.FALL n
    let both := rise &&& fall
    let edges := clearMask rise both + 65536 * clearMask fall both
    (if t.rd ST_TREE_STATUS.LOCAL_PHASE n = 0 ∧ t.rd ST_TREE_STATUS.LOCAL_CTX n = 0 then t.updStope n (commitUser edges) else t).drawn

end Sys2Proof.Machine
end

