-- ==== Sys2Proof/Machine/Boundary.lean ====
section
/-! DEFINITION. The stroke boundary: commits, clock line edges, triggers, frames, scheduled events (03 R86, 04 R106 to
R114, 08 R213 to R222). -/

namespace Sys2Proof.Machine

/-- Level of a clock line of half period `half` and offset `ofs` during stroke `t` (04 R111). -/
def lineLevel (half ofs t : Nat) : Bool :=
  let per := 2 * half
  decide ((t % per + per - ofs % per) % per < half)

/-- The edge vector of the boundary that ends stroke `t`: rising edges in bits 15 to 0, falling in 31 to 16 (04 R112,
R113). -/
def State.edgeVector (s : State) (t : Nat) : Nat :=
  (List.range 16).foldl (fun v j =>
    if s.bit WD_CLK_CTRL.EN j then
      let h := s.rd WD_CLK_CFG.HALF 0 j
      let o := s.rd WD_CLK_CFG.OFFSET 0 j
      match lineLevel h o t, lineLevel h o (t + 1) with
      | false, true => setBit v j
      | true, false => setBit v (16 + j)
      | _, _ => v
    else v) 0

/-- The stope divider stands at the boundary: phase 0 of slot 0 (04 R105). -/
def State.atBoundary (s : State) (n : Nat) : Bool :=
  decide (s.rd ST_TREE_STATUS.LOCAL_CTX n = 0) && decide (s.rd ST_TREE_STATUS.LOCAL_PHASE n = 0)

/-- A divider that disagrees with the broadcast at the boundary reloads, counts a slip and spoils its stope in use (04
R106, 07 R195). -/
def State.slipCheck (s : State) (n : Nat) : State :=
  let ok := s.atBoundary n
  let t := (s.wr ST_TREE_STATUS.LOCAL_CTX 0 n).wr ST_TREE_STATUS.LOCAL_PHASE 0 n
  if ok then t
  else ((t.wr ST_TREE_STATUS.SLIP 1 n).count ST_TREE_STATUS.SLIP_COUNT 1 n).raiseSpoil n ST_SPOIL.C_SLIP (s.tally - 1)

/-- The 16 trigger nets of the stroke just evaluated: the OR over the stopes in use (08 R214). -/
def State.triggerNets (s : State) : Nat :=
  (List.range 16).foldl (fun v j =>
    if s.usedStopes.any (fun n => Tab.get false (s.stope n).trig j) then setBit v j else v) 0

/-- Trigger `j` hits in stroke `t` with nets `now` and the nets of the stroke before (08 R215). -/
def State.triggerHits (s : State) (j t now : Nat) : Bool :=
  let start := s.rd WD_TRIG_START.START 0 j
  let stop := s.rd WD_TRIG_END.END 0 j
  let m := s.rd WD_TRIG_CFG.MATCH 0 j
  let a := s.winder.prevTrig.testBit j
  let b := now.testBit j
  s.on WD_TRIG_CFG.EN 0 j && decide (start ≤ t) && (decide (stop = 0) || decide (t < stop))
    && (if m = 0 then b else if m = 1 then !a && b else a && !b)

/-- The leader schedules what a trigger report asks for (no SAMPLE above the last sequence number, 11 R294): at its horizon, or at the common tally while stopped, where a
STOP changes nothing (08 R216, R222). -/
def State.triggerReport (s : State) (sample : Bool) (slot : Nat) : State :=
  let e := if s.wdState = 2 then s.horizon else s.tally
  if sample then (if (s.wdState = 1 ∨ s.wdState = 2) ∧ s.rd WD_SMP_SEQ.SEQ < ones 32 then s.schedule .sample e slot 0 else s)
  else if s.wdState = 2 then s.schedule .stop e 0 2 else s

/-- A hit at the boundary that ends its stroke `t` (08 R216, R217). -/
def State.triggerHit (s : State) (j t : Nat) : State :=
  let u := if s.bit WD_TRIG_STATUS.HIT j then s else s.wr WD_TRIG_HIT.HIT t 0 j
  let u := u.putBit WD_TRIG_STATUS.HIT j true
  let acts := !(s.on WD_STATUS.REPLAY_ARMED && decide (t < s.rd WD_REPLAY_END.END)) || s.winder.runTrig
  if !acts then u
  else
    let u := if s.on WD_TRIG_CFG.IRQ 0 j then u.wdIrq 2 else u
    let slot := s.rd WD_TRIG_CFG.SLOT 0 j
    let u := if s.on WD_TRIG_CFG.STOP 0 j then
        (if u.leads then u.triggerReport false 0 else u.tellLeader (.report t 0 0)) else u
    if s.on WD_TRIG_CFG.SAMPLE 0 j then
      (if u.leads then u.triggerReport true slot else u.tellLeader (.report t 1 slot)) else u

/-- The triggers of the stroke `t` just ended (08 R214 to R216). -/
def State.triggers (s : State) (t : Nat) : State :=
  let now := s.triggerNets
  let hits := (List.range 16).filter (fun j => s.triggerHits j t now)
  let u := hits.foldl (fun u j => u.triggerHit j t) s
  (u.wr WD_TRIG_STATUS.VALUE now).wd (fun w => { w with prevTrig := now })

/-- Replay disarms when the tally reaches `WD_REPLAY_END` in a run (08 R227). -/
def State.replayEnd (s : State) : State :=
  if s.on WD_STATUS.REPLAY_ARMED && decide (s.rd WD_REPLAY_END.END ≤ s.tally) then
    (s.wr WD_STATUS.REPLAY_ARMED 0).wr WD_STATUS.REPLAYING 0
  else s.refreshReplaying

/-- STROKE_BOUNDARY (03 R86, 08 R209, R213): the last slot captures on this edge if it has not; every USER bit commits;
pads take O and T; the tally rises; slips, triggers, frames, bin commits, grants and stops follow. -/
def execStrokeBoundary (s : State) : Res :=
  .next
    (let s := if s.slotEndDue && decide (s.winder.slots + 1 = s.foldF) then s.endSlot else s
     if s.halted || !s.winder.inStroke || decide (s.winder.slots ≠ s.foldF) || decide (s.foldF = 0) then s
     else
       let t := s.tally
       let edges := s.edgeVector t
       let act := s.activeStopes
       let u := act.foldl (fun u n => if u.atBoundary n then (u.updStope n (commitUser edges)).drivePins n else u) s
       let u := (u.wr WD_TALLY.TALLY (t + 1)).wd (fun w => { w with inStroke := false, phase := 0, slots := 0 })
       let u := act.foldl (fun u n => u.slipCheck n) u
       let u := u.triggers t
       let u := u.buildFrames t
       let u := u.replayEnd
       let u := u.commitBins
       let u := u.syncStopes
       u.grantPoint.settle)

end Sys2Proof.Machine
end

