-- ==== Sys2Proof/Machine/ShiftOps.lean ====
section
/-! DEFINITION. The Shift clock: count, corrected time, epochs, the servo's states (19 R491 to R500). A command carries the
Shift edges that have passed since the block was last looked at. -/

namespace Sys2Proof.Machine

/-- The Shift clock changed. -/
def State.sh (s : State) (g : Shift → Shift) : State := { s with shift := g s.shift }

/-- The count after `ticks` more edges; it stands while ROOT is absent (R491). -/
def State.tick (s : State) (ticks : Nat) : State :=
  if s.clk.stage = .running then s.countWrap SC_COUNT.COUNT ticks else s

/-- Corrected time at a count, in units of 2^-48 ns, modulo 2^64 ns (R492). -/
def State.timeAt (s : State) (c : Nat) : Nat :=
  let since : Int := (c : Int) - s.rd SC_EPOCH_COUNT.EPOCH_COUNT
  (((s.rd SC_EPOCH_TIME.EPOCH_TIME * 2 ^ 48 + s.shift.epochFrac : Nat) : Int) + since * s.rd SC_INC.INC).emod (2 ^ 112) |>.toNat

/-- Corrected time now. -/
def State.timeNow (s : State) : Nat := s.timeAt (s.rd SC_COUNT.COUNT)

/-- Corrected time now in whole ns. -/
def State.nowNs (s : State) : Nat := s.timeNow / 2 ^ 48

/-- T of the edge before the present one, in whole ns (R502). -/
def State.prevNs (s : State) : Nat :=
  let c := s.rd SC_COUNT.COUNT
  if c = s.rd SC_EPOCH_COUNT.EPOCH_COUNT then s.shift.before else s.timeAt (c - 1) / 2 ^ 48

/-- A new epoch at the present count (R493, R494). -/
def State.epoch (s : State) (t : Nat) : State :=
  let p := s.prevNs
  ((s.wr SC_EPOCH_COUNT.EPOCH_COUNT (s.rd SC_COUNT.COUNT)).wr SC_EPOCH_TIME.EPOCH_TIME (t / 2 ^ 48)).sh
    (fun x => { x with epochFrac := t % 2 ^ 48, before := p })

/-- The increment changes; corrected time stays continuous (R493). -/
def State.setInc (s : State) (v : Nat) : State := (s.epoch s.timeNow).wr SC_INC.INC v

/-- Corrected time is stepped to `v` whole ns; the Foreman logs the step and the trace path owes a SYNC (R494, 20 R520). -/
def State.stepTime (s : State) (v : Nat) : State :=
  let old := s.nowNs
  let v := v % 2 ^ 64
  let t := (s.epoch (v * 2 ^ 48)).wr SC_STATUS.STEPPED 1
  { t with trace := { t.trace with syncDue := t.on LP_TRACE_CTRL.EN } }.post 10 0x00A0 1 ((v + 2 ^ 64 - old) % 2 ^ 64)

/-- A write to `SC_INC` (R493, R495). -/
def State.writeInc (s : State) (v : Nat) (foreman : Bool) : State :=
  let v := v % 2 ^ 64
  let bad := decide (v < 0x0003000000000000 ∨ 0x0003FFFFFFFFFFFF < v)
  let owned := s.on SC_CTRL.SRC && !foreman
  let t := if bad then s.wr SC_STATUS.INC_ERR 1 else s
  let t := if owned then t.wr SC_STATUS.SRC_ERR 1 else t
  if bad || owned then t else t.setInc v

/-- A write to `SC_TIME`: 0 whole, 1 the low half, 2 the high half, the other half from the present time (R494, R495). -/
def State.writeTime (s : State) (v half : Nat) (foreman : Bool) : State :=
  if s.on SC_CTRL.SRC && !foreman then s.wr SC_STATUS.SRC_ERR 1
  else
    let now := s.nowNs
    s.stepTime (if half = 1 then now / 2 ^ 32 * 2 ^ 32 + v % 2 ^ 32
      else if half = 2 then (v % 2 ^ 32) * 2 ^ 32 + now % 2 ^ 32 else v)

/-- This part is the time master of its chain (R496, R497). -/
def State.timeMaster (s : State) : Bool := decide (s.rd SC_CTRL.SRC = 1) && s.on BW_STATUS.HEAD

/-- The part can hear the master that a source selects: the upstream hop under BELLWIRE, the Ethernet port under PTP. -/
def State.canHear (s : State) (src : Nat) : Bool :=
  if src = 1 then !s.on BW_STATUS.HEAD && s.on BW_STATUS.UP_LINK
  else if src = 2 then s.bit IO_MG_STATUS.OWNED 3 else false

/-- A write to `SRC` (R496): 3 leaves the field; a change enters its state at once. -/
def State.writeSrc (s : State) (src : Nat) : State :=
  let src := src % 4
  if src = 3 ∨ src = s.rd SC_CTRL.SRC then s
  else
    let t := (s.wr SC_CTRL.SRC src).wr SC_STATUS.STATE (if s.canHear src then 1 else 0)
    t.sh (fun x => { x with within := 0, above := 0 })

/-- The master is lost (R500). -/
def State.loseMaster (s : State) : State :=
  if s.on SC_CTRL.SRC ∧ (s.rd SC_STATUS.STATE = 1 ∨ s.rd SC_STATUS.STATE = 2) then
    let t := (s.wr SC_STATUS.STATE 3).wr SC_STATUS.LOST 1
    let t := t.raise SC_IRQ_STATUS.SRCS SC_IRQ_EN.EN SC_IRQ_EN.VECTOR 6
    (t.sh (fun x => { x with within := 0, above := 0 })).post 10 0x00A1 1 (s.rd SC_CTRL.SRC)
  else s

/-- A signed number saturated to 32 bits, as its bits. -/
def satOffset (v : Int) : Nat := (max (-(2 ^ 31)) (min (2 ^ 31 - 1) v)).emod (2 ^ 32) |>.toNat

/-- The servo's states after a measurement (R496). -/
def State.servoState (s : State) (near : Bool) : State :=
  let st := s.rd SC_STATUS.STATE
  let s := if st = 0 ∨ st = 3 then (s.wr SC_STATUS.STATE 1).sh (fun x => { x with within := 0, above := 0 }) else s
  let t := s.sh (fun x => if near then { x with within := min 8 (x.within + 1), above := 0 } else { x with within := 0, above := min 4 (x.above + 1) })
  let st := t.rd SC_STATUS.STATE
  if st = 1 ∧ 8 ≤ t.shift.within then (t.wr SC_STATUS.STATE 2).raise SC_IRQ_STATUS.SRCS SC_IRQ_EN.EN SC_IRQ_EN.VECTOR 7
  else if st = 2 ∧ 4 ≤ t.shift.above then (t.wr SC_STATUS.STATE 1).sh (fun x => { x with within := 0, above := 0 })
  else t

/-- One measurement, in 1/16 ns (R498): a step, or an increment. The rate estimate under the increment is not stated: the
increment is a free value within the range of R495. -/
def State.measure (s : State) (off16 : Int) : State :=
  let whole := off16.fdiv 16
  let t := s.wr SC_STATUS.OFFSET (satOffset whole)
  let t := if 16 * s.rd SC_CTRL.STEP_NS < off16.natAbs then t.stepTime (((t.nowNs : Int) + whole).emod (2 ^ 64)).toNat
    else t.drawn.setInc (0x0003000000000000 + t.draw 48)
  t.servoState (decide (off16.natAbs ≤ 16 * s.rd SC_CTRL.LOCK_NS))

/-- The upper half that a 32-bit read latched, or the register as it stands (R495): `SC_COUNT`, or `SC_TIME` in whole ns. -/
def State.shiftValue (s : State) (time : Bool) : Nat := if time then s.nowNs else s.rd SC_COUNT.COUNT

/-- What a normal read of `SC_COUNT` or `SC_TIME` latches (R492, R495): the fraction, and on a 32-bit read of the low half
the upper half. -/
def State.shiftLatch (s : State) (time low : Bool) : State :=
  let hi := s.shiftValue time / 2 ^ 32
  let t := if low then s.sh (fun x => if time then { x with timeHi := hi } else { x with countHi := hi }) else s
  if time then t.wr SC_TIME_FRAC.FRAC (s.timeNow % 2 ^ 48) else t

end Sys2Proof.Machine
end

