-- ==== Sys2Proof/Machine/WinderCmds.lean ====
section
/-! DEFINITION. The Winder's commands (08 R220, R225, R226) and the stall watchdog (R224). -/

namespace Sys2Proof.Machine

/-- A command is in progress, a member check or a recovery included (R226, R228). -/
def State.cmdBusy (s : State) : Bool :=
  s.on WD_CMD_STATUS.BUSY || s.winder.cmd.isSome || s.winder.recovery.isSome

/-- The tally that a REPLAY names (R225). -/
def State.replayTarget (s : State) (arg : Nat) : Nat := if arg = 0 then s.rd WD_REPLAY_END.END else arg

/-- The command is accepted in this part's state (R225). -/
def State.cmdState (s : State) (op : Nat) (stopes : Bool) : Bool :=
  let st := s.wdState
  if op = 1 ∨ op = 3 then decide (st = 1)
  else if op = 2 ∨ op = 6 then decide (st = 1 ∨ st = 2)
  else if op = 4 then decide (st = 1 ∨ st = 2) && decide (s.rd WD_SMP_SEQ.SEQ < ones 32)
  else if op = 5 then stopes || decide (st = 1)
  else decide (st = 1) && s.on WD_STATUS.REPLAY_ARMED

/-- The stopes that a `STOPES` restore names (11 R302). -/
def State.restoreMask (s : State) : List Nat := (List.range 640).filter (fun n => s.vec CR_RESTORE_MASK.MASK (n % 160) (n / 160))

/-- The slot serves the command (R226, 11 R291, R300, R302). -/
def State.slotServes (s : State) (op slot : Nat) (stopes : Bool) : Bool :=
  if op = 4 then s.slotUsable slot
  else if op = 5 ∧ stopes then
    s.slotUsable slot && decide (s.slotState slot = 2)
      && s.restoreMask.all (fun n => decide (s.stopeState n = 2) && decide (n ∈ (s.slotData slot).stopes))
  else if op = 5 ∨ op = 6 then s.groupRestorable slot
  else true

/-- The first test that refuses a command, before the member checks (R226 steps 1 to 6); 0 where none does. -/
def State.cmdTest (s : State) (op arg : Nat) (stopes : Bool) : Nat :=
  let own := decide (op = 5) && stopes
  if s.halted ∨ s.wdState = 4 then 8
  else if op = 0 ∨ 8 ≤ op ∨ (stopes ∧ op ≠ 5) ∨ (op = 3 ∧ (arg = 0 ∨ 2 ^ 32 < arg)) then 6
  else if s.cmdBusy then 9
  else if !own && !s.on WD_STATUS.FORMED then 10
  else if !own && !s.leads then 2
  else if !s.cmdState op stopes then 1
  else if op = 7 ∧ (s.rd WD_REPLAY_END.END < s.replayTarget arg ∨ s.replayTarget arg ≤ s.tally) then 6
  else 0

/-- `CRC` over the clock-line settings (R229). -/
def State.lineCrc (s : State) : Nat :=
  crc32 ((List.range 16).flatMap (fun j => bytesOf 8 (s.raw WD_CLK_CFG.regs 0 j)) ++ bytesOf 2 (s.rd WD_CLK_CTRL.EN))

/-- The member checks (R220, R226 step 7): the refusal code, 0 where they pass. -/
def State.memberCheck (s : State) : Nat :=
  let ms := if s.solo then [] else s.winder.members
  if ms.any (fun m => decide (m.state = 4)) then 8
  else if ms.any (fun m => decide (m.state ≠ 1)) then 1
  else if !s.on CF_LOADED.VALID || ms.any (fun m => !m.valid) then 3
  else if decide (s.rd CK_CLK_STATUS.PHASE_DIV_CUR < s.rd CF_LOADED.NMIN) || ms.any (fun m => decide (m.div < m.nmin)) then 4
  else if ms.any (fun m => decide (m.tally ≠ s.tally ∨ m.f ≠ s.rd CF_LOADED.F ∨ m.k ≠ s.rd CF_LOADED.K ∨ m.crc ≠ s.rd WD_CLK_CTRL.CRC)) then 5
  else 0

/-- A group run begins with the command in progress (R225). -/
def State.groupRun (s : State) (arg op : Nat) (trig : Bool) : State := (s.tellAll (.cmd arg op trig)).startRun trig

/-- An accepted command acts (R221, R222, R225). Its share at this part ends at once, at the stop, at the sample or at
the end of the restore. -/
def State.cmdAct (s : State) (c : WindCmd) : State :=
  let s := (s.wr WD_CMD_STATUS.BUSY 1).wd (fun w => { w with cmd := some { c with stage := .waiting, waiting := s.others } })
  let running := decide (s.wdState = 2)
  if c.op = 1 then (s.groupRun c.arg 1 c.trig).cmdLocalDone 0
  else if c.op = 2 then
    if running then
      let e := max c.arg s.horizon
      if s.rd WD_STOP_TALLY.S ≤ e then s.cmdFinish 0 else (s.schedule .stop e 0 1).cmdLocalDone 0
    else if c.arg ≤ s.tally then s.cmdFinish 0
    else ((s.schedule .stop c.arg 0 1).groupRun c.arg 2 c.trig).cmdLocalDone 0
  else if c.op = 3 then (s.schedule .stop (s.tally + c.arg) 0 1).groupRun c.arg 3 c.trig
  else if c.op = 4 then
    if running then (s.schedule .sample s.horizon c.arg 0).cmdLocalDone 0
    else (s.wd (fun w => { w with cmd := some { c with stage := .sampling, waiting := s.others } })).schedule .sample s.tally c.arg 2
  else if c.op = 5 then
    if c.stopes then
      let t := s.wd (fun w => { w with cmd := some { c with stage := .waiting, waiting := [] } })
      let named := t.restoreMask
      let t := t.smp (fun x => { x with restoring := some (c.arg, true), backfill := named })
      (List.range 4).foldl (fun t k => if named.any (fun n => decide (n / 160 = k)) then t.wr CR_STATUS.RESTORE 1 k else t) t
    else (s.tellAll (.cmd c.arg 5 false)).startRestore c.arg false
  else if c.op = 6 then
    if running then s.schedule .rewind s.horizon c.arg 1 else (s.tellAll (.cmd c.arg 6 false)).startRestore c.arg true
  else (s.schedule .stop (s.replayTarget c.arg) 0 1).groupRun c.arg 7 c.trig

/-- The command starts a run from STOPPED, so that the members are checked first (R220). -/
def State.runCheck (s : State) (op : Nat) : Bool :=
  decide (op = 1 ∨ op = 3 ∨ op = 7) || (decide (op = 2) && decide (s.wdState = 1))

/-- The members are asked before the command acts: for a run (R220), and for a group restore, whose slot every member must hold (11 R300). -/
def State.needsCheck (s : State) (op : Nat) (stopes : Bool) : Bool := s.runCheck op || decide (op = 6) || (decide (op = 5) && !stopes)

/-- The member checks have their answers: the command is refused or acts (R220, R226). MISMATCH sets in every member (log entry 53). -/
def State.cmdChecked (s : State) (c : WindCmd) : State :=
  if c.op = 5 ∨ c.op = 6 then
    if !s.solo && s.winder.members.any (fun m => decide (m.state = 4)) then s.cmdRefuse 8
    else if s.groupRestorable c.arg then s.cmdAct c
    else s.cmdRefuse 7
  else
    let r := s.memberCheck
    if r = 5 then ((s.tellAll (.cmd 5 0 false)).groupFault WD_GROUP_STATUS.MISMATCH).cmdRefuse 5
    else if r ≠ 0 then s.cmdRefuse r
    else s.cmdAct c

/-- A write of `WD_CMD` (R225, R226). -/
def State.windCmd (s : State) (op arg : Nat) (stopes trig : Bool) : State :=
  let s := (s.wr WD_CMD_ARG.ARG arg).wr WD_CMD_STATUS.LAST_OP op
  let r := s.cmdTest op arg stopes
  if r ≠ 0 then
    -- a refusal leaves a command in progress as it is
    ((s.wr WD_CMD_STATUS.REFUSED 1).wr WD_CMD_STATUS.RESULT r).wdIrq 0
  else
    let c : WindCmd := ⟨op, arg, stopes, trig, .checking, s.others, 0, false⟩
    if s.needsCheck op stopes then
      let s := if s.runCheck op then s.wr WD_CLK_CTRL.CRC s.lineCrc else s
      if s.others.isEmpty then s.cmdChecked c
      else s.others.foldl (fun t m => t.emit (.bell (some m) .stateReq)) (s.wd (fun w => { w with cmd := some c }))
    else if s.slotServes op arg stopes then s.cmdAct c
    else s.cmdRefuse 7

/-- RUN (R225). -/
def execRun (arg : Nat) (stopes replayTrig : Bool) (s : State) : Res := .next (s.windCmd 1 arg stopes replayTrig).settle

/-- STOP-AT (R225, R222). -/
def execStopAt (arg : Nat) (stopes replayTrig : Bool) (s : State) : Res := .next (s.windCmd 2 arg stopes replayTrig).settle

/-- STEP (R225). -/
def execStep (arg : Nat) (stopes replayTrig : Bool) (s : State) : Res := .next (s.windCmd 3 arg stopes replayTrig).settle

/-- SAMPLE (R225). -/
def execSample (arg : Nat) (stopes replayTrig : Bool) (s : State) : Res := .next (s.windCmd 4 arg stopes replayTrig).settle

/-- BACKFILL (R225). -/
def execBackfill (arg : Nat) (stopes replayTrig : Bool) (s : State) : Res := .next (s.windCmd 5 arg stopes replayTrig).settle

/-- REWIND (R225, R227). -/
def execRewind (arg : Nat) (stopes replayTrig : Bool) (s : State) : Res := .next (s.windCmd 6 arg stopes replayTrig).settle

/-- REPLAY (R225). -/
def execReplay (arg : Nat) (stopes replayTrig : Bool) (s : State) : Res := .next (s.windCmd 7 arg stopes replayTrig).settle

/-- GROUP_STALL (R224): while RUNNING the tally has not changed for `STALL_LIMIT` ms. -/
def execGroupStall (s : State) : Res :=
  .next
    (if s.wdState = 2 ∧ s.on WD_GRANT.STALL_LIMIT then
       s.groupFault WD_GROUP_STATUS.GROUP_STALL
     else s)

end Sys2Proof.Machine
end

