-- ==== Sys2Proof/Machine/Bellwire.lean ====
section
/-! DEFINITION. Bellwire: enumeration, hops, group formation, and the messages of a group (18 R483 to R490; 08 R218 to
R223, R228). Group settings and the CHAIN reset stand here too. -/

namespace Sys2Proof.Machine

/-! ### The bits of a message (R484, R485) -/

/-- `TYPE` of a message (R485). -/
def bwType : BwMsg → Nat
  | .enum _ => 0x01
  | .enumDone _ => 0x02
  | .linkChange _ => 0x03
  | .announce .. => 0x10
  | .stateReq => 0x11
  | .state .. => 0x12
  | .grant _ => 0x13
  | .event .. => 0x14
  | .eventAck .. => 0x15
  | .report .. => 0x16
  | .cmd .. => 0x17
  | .cmdDone _ => 0x18
  | .time _ => 0x20

/-- `PAYLOAD` of a message (R485; 19 R497): each field at its place. -/
def bwPayload : BwMsg → Nat
  | .enum a => a
  | .enumDone n => n
  | .linkChange a => a
  | .announce g n l j => g + n * 2 ^ 16 + b2n l * 2 ^ 25 + b2n j * 2 ^ 26
  | .stateReq => 0
  | .state t st v f k d n c => t + st * 2 ^ 64 + b2n v * 2 ^ 67 + f * 2 ^ 68 + k * 2 ^ 71 + d * 2 ^ 76 + n * 2 ^ 83 + c * 2 ^ 90
  | .grant h => h
  | .event e k slot cause => e + k * 2 ^ 64 + slot * 2 ^ 67 + cause * 2 ^ 71
  | .eventAck e k => e + k * 2 ^ 64
  | .report v k slot => v + k * 2 ^ 64 + slot * 2 ^ 66
  | .cmd a op trig => a + op * 2 ^ 64 + b2n trig * 2 ^ 68
  | .cmdDone r => r
  | .time l => ((l.zip [0, 64, 96, 104, 112]).map (fun p => p.1 * 2 ^ p.2)).sum

/-- CRC-16 of a message's bits [159:0], the first sent first (R484). -/
def crc16 (v : Nat) : Nat :=
  (List.range 160).foldl (fun c i => if c.testBit 15 ≠ v.testBit i then (2 * c % 65536) ^^^ 0x1021 else 2 * c % 65536) 0xFFFF

/-- The 176 bits of a message (R484): a broadcast carries `BCAST` = 1. -/
def bwBits (src : Nat) (dst : Option Nat) (m : BwMsg) : Nat :=
  let v := bwType m + src * 2 ^ 8 + dst.getD 0 * 2 ^ 16 + b2n dst.isNone * 2 ^ 24 + bwPayload m * 2 ^ 32
  v + crc16 v * 2 ^ 160

/-! ### Groups (08 R218, R219) -/

/-- This part's Bellwire address. -/
def State.bellAddr (s : State) : Nat := s.rd BW_STATUS.ADDR

/-- Sizes disagree or too many parts announce the group (08 R218). -/
def State.groupConflict (s : State) : Bool :=
  s.winder.members.any (fun m => decide (m.size ≠ s.rd WD_GROUP_CTRL.SIZE))
    || decide (s.rd WD_GROUP_CTRL.SIZE < s.winder.members.length + 1)

/-- The leader of the members seen: the lowest address among those with `LEAD_EN` = 1, else the lowest (08 R219). -/
def State.electLeader (s : State) : Nat :=
  let own := (s.bellAddr, s.on WD_GROUP_CTRL.LEAD_EN)
  let all := own :: s.winder.members.map (fun m => (m.addr, m.leadEn))
  let cand := all.filter (fun p => p.2)
  (if cand.isEmpty then all else cand).foldl (fun b p => min b p.1) 255

/-- The new leader of a group that a CHAIN had ended in a run asks every member for its tally and horizon (08 R223). -/
def State.regroupStart (s : State) : State :=
  if s.winder.regroup.isSome then
    if s.leads then
      s.others.foldl (fun t m => t.emit (.bell (some m) .stateReq)) (s.wd (fun w => { w with regroup := some s.others }))
    else s.wd (fun w => { w with regroup := none })
  else s

/-- Formation follows the members seen (08 R218, R219), and the election with it. A conflict sets `GROUP_ERR` and no group forms. -/
def State.refreshGroup (s : State) : State :=
  if s.solo then
    (((s.wr WD_GROUP_STATUS.MEMBERS 1).wr WD_STATUS.FORMED 1).wr WD_STATUS.LEADER 1).wr WD_GROUP_STATUS.LEADER_ADDR s.bellAddr
  else
    let n := s.winder.members.length + 1
    let t := s.wr WD_GROUP_STATUS.MEMBERS n
    if s.groupConflict then (t.wr WD_STATUS.FORMED 0).groupFault WD_GROUP_STATUS.GROUP_ERR
    else
      let formed := decide (n = s.rd WD_GROUP_CTRL.SIZE)
      let l := s.electLeader
      let t := (t.put WD_STATUS.FORMED formed).put WD_STATUS.LEADER (formed && decide (l = s.bellAddr))
      let t := if formed then t.wr WD_GROUP_STATUS.LEADER_ADDR l else t
      if formed ∧ ¬s.on WD_STATUS.FORMED then t.regroupStart else t

/-- This part announces itself (18 R485). -/
def State.announceSelf (s : State) : State :=
  s.emit (.bell none (.announce (s.rd WD_GROUP_CTRL.GROUP_ID) (s.rd WD_GROUP_CTRL.SIZE) (s.on WD_GROUP_CTRL.LEAD_EN) (s.on WD_GROUP_CTRL.JOIN)))

/-- A write of `WD_GROUP_CTRL` (08 R229): group fields only while the Winder is stopped; `SIZE` within 1 to 256. A change
of the group's identity or of `JOIN` starts the group afresh, and a part that leaves announces it. -/
def State.writeGroupCtrl (s : State) (v : Nat) : State :=
  let size := bitsOf v 16 9
  let s := s.wr WD_GROUP_CTRL.AUTO_REWIND (bitsOf v 27 1)
  let badSize := decide (size = 0 ∨ 256 < size)
  let fs := if badSize then [WD_GROUP_CTRL.GROUP_ID, WD_GROUP_CTRL.JOIN, WD_GROUP_CTRL.LEAD_EN]
    else [WD_GROUP_CTRL.GROUP_ID, WD_GROUP_CTRL.SIZE, WD_GROUP_CTRL.JOIN, WD_GROUP_CTRL.LEAD_EN]
  if !s.winderStopped then
    (if s.fieldsDiffer fs v then s.groupFault WD_GROUP_STATUS.GROUP_ERR else s)
  else
    let differ := s.fieldsDiffer fs v
    let anew := s.fieldsDiffer [WD_GROUP_CTRL.GROUP_ID, WD_GROUP_CTRL.JOIN] v
    let t := if anew ∧ ¬s.solo then
        s.emit (.bell none (.announce (s.rd WD_GROUP_CTRL.GROUP_ID) (s.rd WD_GROUP_CTRL.SIZE) (s.on WD_GROUP_CTRL.LEAD_EN) false))
      else s
    let t := t.setFields fs v
    let t := if badSize then t.groupFault WD_GROUP_STATUS.GROUP_ERR else t
    if !differ then t
    else
      let t := if anew then (t.wd (fun w => { w with members := [] })).wr WD_STATUS.FORMED 0 else t.wr WD_STATUS.FORMED 0
      let t := t.refreshGroup
      if t.solo then t else t.announceSelf

/-- A CHAIN reset (00 R13, 02 R59; 08 R223; 18 R490): the address and the group go. A command in progress ends with
GROUP; a member that runs holds at its horizon until a new leader stops the group. A solo part stays its own group. -/
def State.chainReset (s : State) : State :=
  let t := [BW_STATUS.ADDR, BW_STATUS.ENUMERATED, BW_STATUS.TAIL, BW_STATUS.ADDR_OVF, BW_STATUS.PARTS].foldl (fun t f => t.wr f 0) s
  let t := ({ t with bell := ⟨false⟩ }).wr WD_GROUP_STATUS.LEADER_ADDR 0
  if s.solo then t
  else
    let t := match s.winder.cmd with
      | some c => if s.on WD_CMD_STATUS.BUSY then (if c.stopes then t else t.cmdFinish 10) else t.cmdRefuse 10
      | none => t
    let run := decide (s.wdState = 2)
    let t := if run then t.groupFault WD_GROUP_STATUS.LEADER_LOST else t
    let t := t.wd (fun w => { w with members := [], duty := none, recovery := none, regroup := if run then some [] else none })
    ((t.wr WD_STATUS.FORMED 0).wr WD_STATUS.LEADER 0).wr WD_GROUP_STATUS.MEMBERS 1

/-! ### Enumeration (18 R488) -/

/-- The part takes an address. -/
def State.takeAddr (s : State) (a : Nat) : State :=
  ((s.wr BW_STATUS.ADDR a).wr BW_STATUS.ENUMERATED 1).refreshGroup

/-- The head's enumeration is complete (R488 step 5). -/
def State.enumComplete (s : State) (parts : Nat) : State := (s.wr BW_STATUS.PARTS parts).post 11 0x00B0 0 parts

/-- ENUM goes on to the next part, or the last part answers (R488 steps 2 and 4). -/
def State.enumOn (s : State) : State :=
  let a := s.bellAddr
  if s.on BW_STATUS.DOWN_LINK then s.emit (.bell (some ((a + 1) % 256)) (.enum a))
  else
    let t := s.wr BW_STATUS.TAIL 1
    if t.on BW_STATUS.HEAD then t.enumComplete (a + 1) else t.emit (.bell (some 0) (.enumDone (a + 1)))

/-- The head enumerates (R488 step 1). -/
def State.enumerate (s : State) : State := ((s.chainReset.countWrap BW_STATUS.CHAINS).takeAddr 0).enumOn

/-- ENUM (R488 steps 2 and 3). A halted part acts on nothing (15 R406); during a WARM it is dropped (00 R15); the head ignores its
upstream hop. -/
def execEnum (addr : Nat) (s : State) : Res :=
  .next
    (if s.halted ∨ s.clk.warmHold ∨ s.on BW_STATUS.HEAD then s
     else
       let t := s.chainReset.countWrap BW_STATUS.CHAINS
       if 255 ≤ addr then t.wr BW_STATUS.ADDR_OVF 1 else (t.takeAddr (addr + 1)).enumOn)

/-- The part acts on Bellwire messages: not halted, and enumerated (R488, 15 R406). -/
def State.hears (s : State) : Bool := !s.halted && s.on BW_STATUS.ENUMERATED

/-- A message goes on over a hop that is UP; the head ignores its upstream hop (R487, R488). -/
def State.relay (s : State) (down : Bool) (src : Nat) (dst : Option Nat) (m : BwMsg) : State :=
  if s.on (if down then BW_STATUS.DOWN_LINK else BW_STATUS.UP_LINK) && (down || !s.on BW_STATUS.HEAD) then s.emit (.relay down src dst m) else s

/-- A broadcast is acted on and goes on away from the hop it arrived on (R487). -/
def State.heardAll (s : State) (fromUp : Bool) (src : Nat) (m : BwMsg) (act : State → State) : State :=
  if !s.hears || (fromUp && s.on BW_STATUS.HEAD) then s else act (s.relay fromUp src none m)

/-- A message for one part is acted on there; elsewhere it goes downstream to a higher address, upstream to a lower (R487). -/
def State.heardOne (s : State) (src dst : Nat) (m : BwMsg) (act : State → State) : State :=
  if !s.hears then s else if dst = s.bellAddr then act s else s.relay (decide (s.bellAddr < dst)) src (some dst) m

/-- ENUM_DONE (R488 steps 4 and 5). -/
def execEnumDone (parts : Nat) (s : State) : Res :=
  .next
    (if !s.hears then s else if s.on BW_STATUS.HEAD then s.enumComplete parts else s.relay false (parts - 1) (some 0) (.enumDone parts))

/-- LINK_CHANGE (R488): at the head the 1 ms before an enumeration starts again; elsewhere it goes on to the head. -/
def execLinkChange (part : Nat) (s : State) : Res :=
  .next
    (if !s.hears then s
     else if s.on BW_STATUS.HEAD then { s with bell := ⟨true⟩ } else s.relay false part (some 0) (.linkChange part))

/-- ENUM_TIMER (R488). -/
def execEnumTimer (s : State) : Res :=
  .next (if s.bell.enumDue ∧ s.on BW_STATUS.HEAD ∧ ¬s.halted then s.enumerate else s)

/-- ENUM_REQUEST (R488, R490); dropped during a WARM (00 R15). -/
def execEnumRequest (s : State) : Res :=
  .next (if s.clk.warmHold then s else if s.on BW_STATUS.HEAD then s.enumerate else s.wr BW_STATUS.ENUM_ERR 1)

/-- HEAD_TIMEOUT (R488): the part becomes the head and enumerates once. -/
def execHeadTimeout (s : State) : Res :=
  .next (if s.ready 0 ∧ ¬s.on BW_STATUS.HEAD then (s.wr BW_STATUS.HEAD 1).enumerate else s)

/-- HOP_STATE_CHANGE (R486): the downstream or upstream hop goes UP or DOWN, and the head hears of it. -/
def execHopStateChange (down v : Bool) (s : State) : Res :=
  .next
    (let f := if down then BW_STATUS.DOWN_LINK else BW_STATUS.UP_LINK
     if s.on f = v then s
     else
       let t := s.put f v
       let t := if v then t else t.count BW_ERR.HOP_DOWNS
       let t := if !down ∧ !v ∧ t.rd SC_CTRL.SRC = 1 ∧ !t.timeMaster then t.loseMaster else t
       if s.halted then t else if s.on BW_STATUS.HEAD then { t with bell := ⟨true⟩ } else t.emit (.bell (some 0) (.linkChange s.bellAddr)))

/-- MESSAGE_RESEND (R486): an unacknowledged message goes out again; `crcFailed` says that a window received here failed
its CRC too. -/
def execMessageResend (crcFailed : Bool) (s : State) : Res :=
  .next (let t := s.count BW_ERR.RESENT; if crcFailed then t.count BW_ERR.CRC_ERR else t)

/-! ### Group messages (R485) -/

/-- ANNOUNCE (08 R218; 18 R488): a part of this group is counted, and a part not counted before is answered. -/
def execAnnounce (msg : MsgFrom) (group size : Nat) (leadEn join : Bool) (s : State) : Res :=
  .next (s.heardAll msg.fromUp msg.src (.announce group size leadEn join) (fun s =>
     if s.solo || decide (group ≠ s.rd WD_GROUP_CTRL.GROUP_ID) || decide (msg.src = s.bellAddr) then s
     else if !join then
       (s.wd (fun w => { w with members := w.members.filter (fun m => decide (m.addr ≠ msg.src)) })).refreshGroup
     else if s.winder.members.any (fun m => decide (m.addr = msg.src)) then
       (s.wd (fun w => { w with members := w.members.map (fun m => if m.addr = msg.src then { m with size := size, leadEn := leadEn } else m) })).refreshGroup
     else
       ((s.wd (fun w => { w with members := w.members ++ [⟨msg.src, size, leadEn, 0, 0, false, 0, 0, 0, 0, 0, 0, [], 0⟩] })).refreshGroup).announceSelf))

/-- ANNOUNCE_TIMER (R488). -/
def execAnnounceTimer (s : State) : Res :=
  .next (if s.hears ∧ ¬s.solo ∧ ¬s.on WD_STATUS.FORMED then s.announceSelf else s)

/-- The message comes from a member of this part's group (R485). -/
def State.fromMember (s : State) (src : Nat) : Bool := s.hears && decide (src ∈ s.others)

/-- The message comes from the group's leader. -/
def State.fromLeader (s : State) (src : Nat) : Bool := s.fromMember src && decide (src = s.rd WD_GROUP_STATUS.LEADER_ADDR)

/-- STATE_REQ (08 R220): the member answers, its line CRC computed afresh (R229). -/
def execStateReq (msg : MsgRoute) (s : State) : Res :=
  .next (s.heardOne msg.src msg.dst .stateReq (fun s =>
     if s.fromLeader msg.src then
       let t := s.wr WD_CLK_CTRL.CRC s.lineCrc
       t.emit (.bell (some msg.src) (.state s.tally s.wdState (s.on CF_LOADED.VALID) (s.rd CF_LOADED.F) (s.rd CF_LOADED.K)
         (s.rd CK_CLK_STATUS.PHASE_DIV_CUR) (s.rd CF_LOADED.NMIN) s.lineCrc))
     else s))

/-- The STOPs at or below a tally leave the schedule: one of a CHAIN coincides with them (08 R223). -/
def State.mergeStops (s : State) (h : Nat) : State :=
  s.wd (fun w => { w with events := w.events.filter (fun e => !(decide (e.kind = .stop) && decide (e.e ≤ h))) })

/-- Every member has answered after a CHAIN: the highest horizon is granted and a STOP scheduled there (08 R223). -/
def State.regroupDone (s : State) : State :=
  let h := s.winder.members.foldl (fun b m => max b m.horizon) s.horizon
  let t := (s.wd (fun w => { w with regroup := none })).wr WD_HORIZON.H h
  ((t.tellAll (.grant h)).mergeStops h).scheduleOwn h 4

/-- A member has answered a collection: the CHAIN's (R223), a recovery's (11 R308) or a command's (R220). -/
def State.collected (s : State) (src : Nat) : State :=
  match s.winder.regroup with
  | some l =>
    let l := l.filter (fun a => decide (a ≠ src))
    if s.leads then (if l.isEmpty then s.regroupDone else s.wd (fun w => { w with regroup := some l })) else s
  | none =>
    match s.winder.recovery with
    | some r =>
      if r.stage = .asking then
        let r := { r with waiting := r.waiting.filter (fun a => decide (a ≠ src)) }
        if r.waiting.isEmpty then s.recoveryChosen r else s.wd (fun w => { w with recovery := some r })
      else s
    | none =>
      match s.winder.cmd with
      | some c =>
        if c.stage = .checking then
          let c := { c with waiting := c.waiting.filter (fun a => decide (a ≠ src)) }
          if c.waiting.isEmpty then s.cmdChecked c else s.wd (fun w => { w with cmd := some c })
        else s
      | none => s

/-- STATE (08 R220, R223): the leader collects a member's answer. The member's horizon, which R223 has the leader collect, its slots (11
R300, R308) and its scrub passes (R306) are not in the payload of R485; they come with the message (log entry 22). -/
def execState (msg : MsgRoute) (tally st : Nat) (valid : Bool) (f k div nmin crc : Nat) (holds : MemberHold) (s : State) : Res :=
  .next (s.heardOne msg.src msg.dst (.state tally st valid f k div nmin crc) (fun s =>
     if !s.fromMember msg.src then s
     else
       let t := s.wd (fun w => { w with members := w.members.map (fun m =>
         if m.addr = msg.src then ⟨msg.src, m.size, m.leadEn, st, tally, valid, f, k, div, nmin, crc, holds.horizon, holds.slots, holds.passes⟩ else m) })
       (t.collected msg.src).lateSpoil.settle))

/-- GRANT (08 R221). -/
def execGrant (msg : MsgFrom) (h : Nat) (s : State) : Res :=
  .next (s.heardAll msg.fromUp msg.src (.grant h) (fun s => if s.fromLeader msg.src ∧ s.horizon < h then s.wr WD_HORIZON.H h else s))

/-- EVENT (08 R222): the member schedules it and acknowledges; one that holds at `E` acts on it at once. The STOP of a recovery (cause 3), of
its replay (8) and of a CHAIN (4) acts beside another STOP at its tally; 2 in a SAMPLE marks the command of a stopped group, whose end the
member reports (log entry 53). -/
def execEvent (msg : MsgFrom) (e kind slot cause : Nat) (s : State) : Res :=
  .next (s.heardAll msg.fromUp msg.src (.event e kind slot cause) (fun s =>
     if !s.fromLeader msg.src then s
     else
       let k : EventKind := if kind = 1 then .stop else if kind = 2 then .sample else .rewind
       let own := decide (cause = 3 ∨ cause = 4 ∨ cause = 8)
       let s := if kind = 1 ∧ cause = 4 then s.mergeStops e else s
       let t := if kind = 1 ∧ !own ∧ s.rd WD_STOP_TALLY.S ≤ e then s else s.addEvent ⟨k, e, slot, cause, []⟩
       let t := if kind = 3 then t.wd (fun w => { w with duty := some 6 })
         else if kind = 2 ∧ cause = 2 ∧ s.wdState = 1 then t.wd (fun w => { w with duty := some 4 }) else t
       (t.emit (.bell (some msg.src) (.eventAck e kind))).settle))

/-- A member no longer holds up the command in progress. -/
def State.memberDone (s : State) (src result : Nat) : State :=
  match s.winder.cmd with
  | some c =>
    let c := { c with waiting := c.waiting.filter (fun a => decide (a ≠ src)), result := if c.result = 0 then result else c.result }
    let t := s.wd (fun w => { w with cmd := some c })
    if c.waiting.isEmpty ∧ c.ownDone then t.cmdFinish c.result else t
  | none => s

/-- EVENT_ACK (08 R222). -/
def execEventAck (msg : MsgRoute) (e kind : Nat) (s : State) : Res :=
  .next (s.heardOne msg.src msg.dst (.eventAck e kind) (fun s =>
     if !s.fromMember msg.src || !s.leads then s
     else
       let k : EventKind := if kind = 1 then .stop else if kind = 2 then .sample else .rewind
       let t := s.wd (fun w => { w with events := w.events.map (fun v =>
         if v.e = e ∧ v.kind = k then { v with waiting := v.waiting.filter (fun a => decide (a ≠ msg.src)) } else v) })
       let t := match t.winder.cmd with
         | some c => if c.op = 2 ∨ (c.op = 4 ∧ c.stage ≠ CmdStage.sampling) then t.memberDone msg.src 0 else t
         | none => t
       t.grantPoint.lateSpoil))

/-- REPORT (08 R216, R228): a trigger or spoil report reaches the leader. Kind 3, which R485 leaves free, carries a member's scrub passes (11 R306;
log entry 53). -/
def execReport (msg : MsgRoute) (value kind slot : Nat) (s : State) : Res :=
  .next (s.heardOne msg.src msg.dst (.report value kind slot) (fun s =>
     if !s.fromMember msg.src || !s.leads then s
     else if kind = 0 then (s.triggerReport false 0).settle
     else if kind = 1 then s.triggerReport true slot
     else if kind = 2 then (s.spoilAtLeader value).settle
     else if kind = 3 then s.wd (fun w => { w with members := w.members.map (fun m => if m.addr = msg.src then { m with passes := value } else m) })
     else s))

/-- CMD (08 R225; 18 R485): the member carries out the leader's command. `REPLAY_TRIG` in a REWIND marks a silent recovery's; `OP` 0 sets
MISMATCH (08 R220) and `OP` 9 clears the spoil flags (11 R309), for which R485 names no message (log entry 53). -/
def execCmd (msg : MsgFrom) (arg op : Nat) (trig : Bool) (s : State) : Res :=
  .next (s.heardAll msg.fromUp msg.src (.cmd arg op trig) (fun s =>
     if !s.fromLeader msg.src then s
     else if op = 0 then s.groupFault WD_GROUP_STATUS.MISMATCH
     else if op = 1 then (s.startRun trig).tellLeader (.cmdDone 0)
     else if op = 2 then s.startRun trig
     else if op = 3 ∨ op = 7 then (s.wd (fun w => { w with duty := some op })).startRun trig
     else if op = 5 ∨ op = 6 then
       if s.restorable arg then (s.wd (fun w => { w with duty := some (if op = 6 ∧ trig then 14 else op) })).startRestore arg (decide (op = 6))
       else s.tellLeader (.cmdDone 7)
     else if op = 9 then s.spoiledStopes.foldl (fun t n => t.clearSpoil n) s
     else s))

/-- CMD_DONE (08 R225, R228): a member's result, for the command in progress or for the recovery's restore. -/
def execCmdDone (msg : MsgRoute) (result : Nat) (s : State) : Res :=
  .next (s.heardOne msg.src msg.dst (.cmdDone result) (fun s =>
     if !s.fromMember msg.src || !s.leads then s
     else match s.winder.recovery with
       | some r =>
         if r.stage = .stopping ∨ r.stage = .asking then s.memberDone msg.src result
         else if result ≠ 0 then s.recoveryFail
         else (s.wd (fun w => { w with recovery := some { r with waiting := r.waiting.filter (fun a => decide (a ≠ msg.src)) } })).recoveryProceed
       | none => (s.memberDone msg.src result).lateSpoil))

end Sys2Proof.Machine
end

