-- ==== Sys2Proof/Machine/RegOps.lean ====
section
/-! DEFINITION. Reading and writing a register by the access types of its fields (00 R6 to R11). -/

namespace Sys2Proof.Machine

/-- The register at an offset of a block's table, and its index in an array of registers; none at an empty offset (00 R11). -/
def findReg (rows : List RegRow) (off : Nat) : Option (RegRow × Nat) :=
  match rows.find? (fun r =>
      if r.count = 1 then decide (off = r.off)
      else decide (r.off ≤ off) && decide ((off - r.off) % r.stride = 0) && decide ((off - r.off) / r.stride < r.count)) with
  | some r => some (r, if r.count = 1 then 0 else (off - r.off) / r.stride)
  | none => none

/-- The bits of a register that an access of `size` bytes at an offset reaches (00 R6). -/
def halfMask (off size : Nat) : Nat := if size = 8 then 2 ^ 64 - 1 else if off % 8 = 4 then (2 ^ 32 - 1) * 2 ^ 32 else 2 ^ 32 - 1

/-- Write data at its place in the register. -/
def halfData (off size data : Nat) : Nat := if size = 8 then data % 2 ^ 64 else if off % 8 = 4 then (data % 2 ^ 32) * 2 ^ 32 else data % 2 ^ 32

/-- The bits of a register as the access returns them. -/
def halfRead (off size v : Nat) : Nat := if size = 8 then v else if off % 8 = 4 then v / 2 ^ 32 else v % 2 ^ 32

/-- The bits of a field that a mask of the register covers. -/
def fieldMask (f : Fld) (mask : Nat) : Nat := bitsOf mask f.lsb f.wid

/-- One field takes a write by its access type (00 R7). -/
def State.writeField (s : State) (f : Fld) (mask v u j : Nat) : State :=
  let m := fieldMask f mask
  let x := bitsOf v f.lsb f.wid &&& m
  match f.acc with
  | .rw | .rws => if m = 0 then s else s.wr f (clearMask (s.rd f u j) m + x) u j
  | .rw1c => if m = 0 then s else s.wr f (clearMask (s.rd f u j) x) u j
  | _ => s

/-- The fields of a register take a write by their access types. -/
def State.writeFields (s : State) (fs : List Fld) (mask v u j : Nat) : State := fs.foldl (fun s f => s.writeField f mask v u j) s

/-- The value of a register as a read returns it: WO fields read 0 (00 R7). -/
def State.readFields (s : State) (fs : List Fld) (u j : Nat) : Nat :=
  fs.foldl (fun a f => if f.acc = .wo then a else a + s.rd f u j * 2 ^ f.lsb) 0

/-- RC fields that lie wholly within the half read clear (00 R8). -/
def State.clearRc (s : State) (fs : List Fld) (mask u j : Nat) : State :=
  fs.foldl (fun s f => if f.acc = .rc ∧ fieldMask f mask = ones f.wid then s.wr f 0 u j else s) s

end Sys2Proof.Machine
end

