-- ==== Sys2Proof/Machine/EngineOps.lean ====
section
/-! DEFINITION. A Tram engine's operations: its registers and their gaps, exceptions, issue order, its TR_ block, its
memories (16 R408 to R440, 17 R441 to R461). -/

namespace Sys2Proof.Machine

/-- The Tram part changed. -/
def State.tr (s : State) (f : Tram → Tram) : State := { s with tram := f s.tram }

/-- The hidden state of an engine. -/
def State.eng (s : State) (e : Nat) : Engine := Tab.get .cold s.tram.engines e

/-- The hidden state of an engine replaced. -/
def State.setEng (s : State) (e : Nat) (x : Engine) : State :=
  s.tr (fun t => { t with engines := Tab.set natLt .cold t.engines e x })

/-- The hidden state of an engine changed. -/
def State.updEng (s : State) (e : Nat) (f : Engine → Engine) : State := s.setEng e (f (s.eng e))

/-- The crew of an engine (16 R408). -/
def crewOf (e : Nat) : Nat := e / 8

/-- Gallery address of an engine's instruction memory, data memory and TR_ block, and of a crew's crib (01 R33). -/
def imemBase (e : Nat) : Nat := 0x010005000000 + e * 0x40000
def dmemBase (e : Nat) : Nat := 0x010005010000 + e * 0x40000
def trBase (e : Nat) : Nat := 0x010005020000 + e * 0x40000
def cribBase (c : Nat) : Nat := 0x010004000000 + c * 0x200000

/-! ### Registers (17 R441, R442; 16 R413) -/

/-- A g register as the instruction in issue reads it; g0 reads 0. -/
def Engine.rg (x : Engine) (r : Nat) : Word :=
  if r = 0 then 0
  else match x.gOld.find? (fun p => decide (p.1 = r)) with
    | some p => p.2
    | none => Tab.get 0 x.g r

/-- A g register written; writes to g0 are discarded. -/
def Engine.wg (x : Engine) (r : Nat) (v : Word) : Engine :=
  if r = 0 then x else { x with g := Tab.set natLt 0 x.g r v }

/-- A g register written with one slot: the next instruction still reads the value from before. -/
def Engine.wgLate (x : Engine) (r : Nat) (v : Word) : Engine :=
  { x.wg r v with gOld := x.gOld ++ [(r, Tab.get 0 x.g r)] }

/-- An accumulator as a MAC instruction that writes it reads it (forwarded, 17 R455). -/
def Engine.accD (x : Engine) (i : Nat) : Acc72 := Tab.get 0 x.acc i

/-- An accumulator as any other read sees it (17 R455). -/
def Engine.accS (x : Engine) (i : Nat) : Acc72 :=
  match x.accOld.find? (fun p => decide (p.1 = i)) with
  | some p => p.2
  | none => Tab.get 0 x.acc i

/-- An accumulator written. -/
def Engine.wacc (x : Engine) (i : Nat) (v : Acc72) : Engine :=
  { x with acc := Tab.set natLt 0 x.acc i v, accOld := [(i, Tab.get 0 x.acc i)] }

/-- The key of k, kb or kl number `n`: `sel` 0, 1, 2. -/
def kKey (sel n : Nat) : Nat := sel * 8 + n % 8

/-- A circular register as RDK reads it. -/
def Engine.rk (x : Engine) (sel n : Nat) : Word := Tab.get 0 x.k (kKey sel n)

/-- A circular register as an address computation reads it (16 R413). -/
def Engine.rkAddr (x : Engine) (sel n : Nat) : Word :=
  match x.kOld.find? (fun p => decide (p.1 = kKey sel n)) with
  | some p => p.2
  | none => x.rk sel n

/-- A pointer moved by LDK or STK; the next address computation sees it (17 R449). -/
def Engine.wk (x : Engine) (n : Nat) (v : Word) : Engine := { x with k := Tab.set natLt 0 x.k (kKey 0 n) v }

/-- A circular register written by WRK, with one slot; a length above 2 MiB becomes 2 MiB (17 R441). -/
def Engine.wkLate (x : Engine) (sel n : Nat) (v : Word) : Engine :=
  let v := if sel = 2 ∧ 0x200000 < v.toNat then 0x200000 else v
  { x with k := Tab.set natLt 0 x.k (kKey sel n) v, kOld := [(kKey sel n, x.rk sel n)] }

/-- The values of the gap before this instruction are gone. -/
def Engine.noOld (x : Engine) : Engine := { x with gOld := [], accOld := [], kOld := [] }

/-- The pointer after an access of LDK or STK (17 R449). -/
def Engine.ptrNext (x : Engine) (n : Nat) (by_ : Word) : Word :=
  let next := x.rkAddr 0 n + by_
  let kb := (x.rkAddr 1 n).toNat
  let kl := x.rkAddr 2 n
  if kl = 0 then next
  else if kb + kl.toNat ≤ next.toNat then next - kl
  else if next.toNat < kb then next + kl else next

/-! ### Memory errors (16 R419) -/

/-- The error state of the word that holds an address. -/
def State.wordErr (s : State) (a : Nat) : Nat := Tab.get 0 s.tram.errs (a / 8)

/-- The error state of a word set. -/
def State.setWordErr (s : State) (a v : Nat) : State := s.tr (fun t => { t with errs := Tab.set natLt 0 t.errs (a / 8) v })

/-- The address lies in a crib. -/
def inCrib (a : Nat) : Bool := decide (0x010004000000 ≤ a) && decide (a < 0x010005000000)

/-- An error of a word is counted and recorded: `src` as in `LAST_SRC`. -/
def State.countErr (s : State) (a : Nat) (ue : Bool) (src : Nat) : State :=
  if inCrib a then
    let c := (a - 0x010004000000) / 0x200000
    let s := s.count (if ue then TR_CRIB_ECC.UE_COUNT else TR_CRIB_ECC.CE_COUNT) 1 c
    ((s.wr TR_CRIB_ECC.LAST_WORD (a % 0x200000 / 8) c).put TR_CRIB_ECC.LAST_UE ue c).wr TR_CRIB_ECC.LAST_SRC src c
  else
    let e := (a - 0x010005000000) / 0x40000
    let s := s.count (if ue then TR_MEM_ECC.UE_COUNT else TR_MEM_ECC.CE_COUNT) 1 e
    ((s.wr TR_MEM_ECC.LAST_WORD (a % 0x10000 / 8) e).put TR_MEM_ECC.LAST_IMEM (decide (a % 0x40000 < 0x10000)) e).put TR_MEM_ECC.LAST_UE ue e

/-- A word is read, with `errs` further bit errors in it: whether it is bad, and what is counted. -/
def State.checkWord (s : State) (a errs src : Nat) : Bool × State :=
  let c := s.wordErr a
  if c = 2 then (true, s)
  else if c = 3 ∨ 2 ≤ (if c = 1 then 1 else 0) + errs then (true, (s.setWordErr a 3).countErr a true src)
  else if c = 1 ∨ errs = 1 then (false, (s.setWordErr a 1).countErr a false src)
  else (false, s)

/-- Reservations on the granule of a crib address clear (16 R422). -/
def State.clearResv (s : State) (a : Nat) : State :=
  if inCrib a then
    let c := (a - 0x010004000000) / 0x200000
    (List.range 8).foldl (fun s m =>
      let e := 8 * c + m
      if (s.eng e).resv = some (a % 0x200000 / 8) then s.updEng e (fun x => { x with resv := none }) else s) s
  else s

/-- A store of 1 to 8 bytes into one word of a crib or engine memory (16 R417, R419, R422). -/
def State.memStore (s : State) (a size v errs src : Nat) (poison : Bool) : State :=
  let (bad, t) := if size = 8 then (false, s) else s.checkWord a errs src
  ((t.store a size v).setWordErr a (if bad || poison then 2 else 0)).clearResv a

/-- The lanes of a store, one bit each (16 R417). -/
def laneMask (a size : Nat) : Nat := (2 ^ size - 1) * 2 ^ (a % 8)

/-- An engine-side store: the memory remembers it against a Gallery access of the same cycle (16 R418). -/
def State.engStore (s : State) (a size v errs : Nat) : State :=
  let before := s.load (a / 8 * 8) 8
  let t := s.memStore a size v errs 0 false
  t.tr (fun x => { x with
    lastStore := x.lastStore.filter (fun p => decide (p.1 / 0x2000 ≠ a / 0x10000)) ++ [(a / 8, laneMask a size, before, t.load (a / 8 * 8) 8)] })

/-! ### Boundaries, interrupts, exceptions (16 R428 to R430, R433) -/

/-- The pending interrupt sources (16 R428). -/
def State.irqPend (s : State) (e : Nat) : Nat :=
  (s.rd TR_IRQ_PEND.PEND e &&& 0x19) + 2 * b2n (!(s.eng e).posts.isEmpty) + 4 * b2n (s.sampler.noticePend.testBit e)

/-- A source is pending and enabled. -/
def State.irqDue (s : State) (e : Nat) : Bool := decide (s.irqPend e &&& s.rd TR_IRQ_EN.EN e ≠ 0)

/-- The engine takes an interrupt at the next eligible boundary (16 R428). -/
def State.takesIrq (s : State) (e : Nat) : Bool := s.irqDue e && s.on TR_STATUS.IE e && !s.on TR_STATUS.INH e

/-- The engine stands at an eligible boundary (16 R429). -/
def Engine.eligible (x : Engine) : Bool :=
  x.gOld.isEmpty && x.accOld.isEmpty && x.kOld.isEmpty && x.stores.isEmpty && x.branch.isNone && x.rep.isNone && x.wait.isNone

/-- An enabled breakpoint names the address (16 R433). -/
def State.bpAt (s : State) (e pc : Nat) : Bool :=
  (List.range 4).any (fun i => s.on TR_BP.EN e i && decide (s.rd TR_BP.ADDR e i = pc / 4))

/-- Debug causes present at the boundary before the next instruction, by the bits of `MREASON` (16 R433, R434). -/
def State.dbgCauses (s : State) (e : Nat) : Nat :=
  if s.on TR_STATUS.MON e then 0
  else (s.eng e).dbg ||| (if s.bpAt e (s.rd TR_PC.PC e) && !(s.eng e).stepOver then 2 else 0)

/-- An address of the vector area (16 R428). -/
def State.vector (s : State) (e off : Nat) : Nat := s.rd TR_CTRL.VBASE e * 256 + off

/-- An enabled watchpoint matches an access (16 R433). -/
def State.wpAt (s : State) (e a : Nat) (write : Bool) : Bool :=
  (List.range 2).any (fun i => s.on TR_WP.EN e i && decide (s.rd TR_WP.WADDR e i = a / 8)
    && (if write then s.on TR_WP.ON_WR e i else s.on TR_WP.ON_RD e i))

/-- An access that was made is held against the watchpoints. -/
def State.watch (s : State) (e a : Nat) (write : Bool) : State :=
  if s.wpAt e a write && !s.on TR_STATUS.MON e then s.updEng e (fun x => { x with dbg := x.dbg ||| 4 }) else s

/-- Debug entry (16 R433). -/
def State.enterMonitor (s : State) (e : Nat) : State :=
  let t := (s.wr TR_MPC.MPC (s.rd TR_PC.PC e) e).wr TR_MPC.MREASON (s.dbgCauses e) e
  let t := (t.wr TR_STATUS.MON 1 e).wr TR_PC.PC (s.vector e 0xC0) e
  t.updEng e (fun x => { x with resv := none, dbg := 0, stepOver := false })

/-- Interrupt entry (16 R428, R422). -/
def State.enterIrq (s : State) (e : Nat) : State :=
  let t := (s.wr TR_XPC.XPC (s.rd TR_PC.PC e) e).wr TR_STATUS.INH 1 e
  (t.wr TR_PC.PC (s.vector e 0x80) e).updEng e (fun x => { x with resv := none })

/-- A HALT that waited for the boundary acts (16 R437). -/
def State.haltAtBoundary (s : State) (e : Nat) : State :=
  if (s.eng e).haltDue && (s.eng e).eligible then
    (s.wr TR_STATUS.STATE 0 e).updEng e (fun x => { x with haltDue := false })
  else s

/-! ### The TR_ block of an engine (16 R427, R432, R437, R440) -/

/-- The watchdog counter is reloaded by a kick (16 R432). -/
def State.kick (s : State) (e : Nat) : State := s.updEng e (fun x => { x with warned := false })

/-- CMD of `TR_CTRL` (16 R437): 1 START, 2 RESUME, 3 HALT. -/
def State.trCmd (s : State) (e cmd : Nat) : State :=
  let st := s.rd TR_STATUS.STATE e
  let refused := s.wr TR_STATUS.CMD_ERR 1 e
  let mayRun := decide (st = 0) && !s.on TR_STATUS.IMEM_STALE e && s.ready (30 + crewOf e)
  match cmd with
  | 1 =>
    if mayRun then
      let t := (s.wr TR_STATUS.STATE 1 e).wr TR_PC.PC (4 * s.rd TR_CTRL.ENTRY e) e
      let t := ((t.wr TR_STATUS.IE 0 e).wr TR_STATUS.INH 0 e).wr TR_STATUS.MON 0 e
      ((t.updEng e (fun x => { x with ran := true, stepOver := false })).kick e).ungate 0 e
    else refused
  | 2 => if mayRun && (s.eng e).ran then ((s.wr TR_STATUS.STATE 1 e).kick e).ungate 0 e else refused
  | 3 =>
    if st = 2 then s.wr TR_STATUS.STATE 0 e
    else if st = 1 then (s.updEng e (fun x => { x with haltDue := true })).haltAtBoundary e
    else refused
  | _ => s

/-- A push into the post FIFO (16 R427): the status of its response. -/
def State.irqPost (s : State) (e v : Nat) : Nat × State :=
  if 16 ≤ (s.eng e).posts.length ∨ s.rd TR_STATUS.STATE e = 3 then (1, s)
  else (0, s.updEng e (fun x => { x with posts := x.posts ++ [v % 2 ^ 32] }))

/-- The notice count of a port (16 R426). -/
def State.noticeCount (s : State) (e p : Nat) : Nat := bitsOf (s.rd TR_QCOUNT.COUNT e (p / 4)) (16 * (p % 4)) 16

/-- The notice count of a port set. -/
def State.setNoticeCount (s : State) (e p v : Nat) : State :=
  let old := s.rd TR_QCOUNT.COUNT e (p / 4)
  s.wr TR_QCOUNT.COUNT (clearMask old (0xFFFF * 2 ^ (16 * (p % 4))) + v * 2 ^ (16 * (p % 4))) e (p / 4)

/-- A queue notice is latched (16 R426). -/
def State.latchNotice (s : State) (e p : Nat) : State :=
  let n := min (s.noticeCount e p + 1) 0xFFFF
  let t := (s.setNoticeCount e p n).putBit TR_IRQ_PEND.PEND 0 true e
  if n = 0xFFFF then t.wr TR_QPORT.SAT 1 e p else t

/-- HALT_REQ by the engine's state (20 R518). -/
def State.haltReq (s : State) (e : Nat) : State :=
  let st := s.rd TR_STATUS.STATE e
  if st = 3 ∨ s.on TR_STATUS.MON e then s
  else
    let t := s.updEng e (fun x => { x with dbg := x.dbg ||| 16 })
    if st = 2 then ((t.wr TR_STATUS.STATE 1 e).ungate 0 e).enterMonitor e else t

/-- A write of `TR_WDOG` (16 R432, R440). -/
def State.writeWdog (s : State) (e mask v : Nat) : State :=
  let t := s.writeFields TR_WDOG.regs mask v e 0
  (if t.rd TR_WDOG.LIMIT e = 0 then t.wr TR_WDOG.LIMIT 1 e else t).kick e

/-- A write to the TR_ engine block: the status of its response. `LOADED` counts for a later `CMD` only (17 R438). -/
def State.trWrite (s : State) (e off size data : Nat) : Nat × State :=
  let mask := halfMask off size
  let v := halfData off size data
  match off / 8 * 8 with
  | 0x000 =>
    let t := s.writeFields TR_CTRL.regs mask v e 0
    let t := t.trCmd e (v % 4)
    (0, if v.testBit 2 then t.wr TR_STATUS.IMEM_STALE 0 e else t)
  | 0x038 => (0, s.wr TR_IRQ_PEND.PEND (clearMask (s.rd TR_IRQ_PEND.PEND e) (v &&& 0x19)) e)
  | 0x040 => if mask.testBit 0 then s.irqPost e v else (0, s)
  | 0x060 => (0, if mask.testBit 0 then s.latchNotice e (v % 16) else s)
  | 0x120 => (0, s.writeWdog e mask v)
  | 0x128 => (0, if v.testBit 0 then s.kick e else s)
  | 0x180 =>
    let t := s.writeFields TR_DBG_CTRL.regs mask v e 0
    (0, if v.testBit 0 then t.haltReq e else t)
  | o =>
    match findReg tableTr o with
    | some (r, j) => (0, s.writeFields r.fields mask v e j)
    | none => (0, s)

/-- `TR_POST_DATA` is read: its value, and the FIFO after a read that takes the entry (16 R427). -/
def State.postRead (s : State) (e mask : Nat) (peek : Bool) : Nat × State :=
  match (s.eng e).posts with
  | [] => (0, s)
  | p :: r => (p + 2 ^ 32, if mask.testBit 0 && !peek then s.updEng e (fun x => { x with posts := r }) else s)

/-- The read of a TR_ engine register: its 64 bits and the state after (16 R440). `TR_PC` is exact only outside RUNNING, and
the watchdog's units left are a matter of time: free values there. -/
def State.trRead (s : State) (e off size : Nat) (peek : Bool) : Nat × State :=
  let mask := halfMask off size
  let out := fun (p : Nat × State) => (halfRead off size p.1, p.2)
  match off / 8 * 8 with
  | 0x010 => out (if s.rd TR_STATUS.STATE e = 1 then (s.draw 16, s.drawn) else (s.rd TR_PC.PC e, s))
  | 0x038 => out (s.irqPend e, s)
  | 0x048 => out (s.postRead e mask peek)
  | 0x120 => out (s.readFields TR_WDOG.regs e 0 % 2 ^ 40 + s.draw 24 * 2 ^ 40, s.drawn)
  | o =>
    match findReg tableTr o with
    | some (r, j) => out (s.readFields r.fields e j, if peek then s else s.clearRc r.fields mask e j)
    | none => (0, s)

/-! ### Issue (16 R412 to R414, R430; 17 R451 to R453, R459, R461) -/

/-- Stores to the own TR_ block take effect. -/
def State.landStores (s : State) (e : Nat) (l : List (Nat × Nat × Nat × Nat)) : State :=
  l.foldl (fun s p => (s.trWrite e p.2.1 p.2.2.1 p.2.2.2).2) s

/-- Everything that stood in a gap is past it (17 R460). -/
def State.settleGaps (s : State) (e : Nat) : State :=
  let l := (s.eng e).stores
  (s.updEng e (fun x => { x.noOld with stores := [] })).landStores e l

/-- An exception (16 R430, 17 R458): the engine enters its handler, or HELD on a double exception. -/
def State.raiseExc (s : State) (e cause eaddr : Nat) : State :=
  let x := s.eng e
  let pc := s.rd TR_PC.PC e
  let s := s.updEng e (fun y => { y with branch := none, rep := none, wait := none, stepOver := false })
  let s := s.settleGaps e
  let t := (s.wr TR_EXC.CAUSE cause e).wr TR_EXC.EADDR eaddr e
  if s.on TR_STATUS.INH e then ((t.wr TR_STATUS.STATE 0 e).wr TR_STATUS.DOUBLE 1 e).updEng e (fun y => { y with haltDue := false })
  else
    let t := match x.branch with
      | some (b, _, _) => (t.wr TR_XPC.XPC b e).wr TR_XPC.XBD 1 e
      | none => (t.wr TR_XPC.XPC pc e).wr TR_XPC.XBD 0 e
    let t := match x.rep with
      | some (_, _, left) => (t.wr TR_XPC.XINREP 1 e).wr TR_XPC.XREP left e
      | none => (t.wr TR_XPC.XINREP 0 e).wr TR_XPC.XREP 0 e
    let t := (t.wr TR_STATUS.INH 1 e).wr TR_PC.PC (t.vector e 0x40) e
    (t.updEng e (fun y => { y with resv := none })).haltAtBoundary e

/-- Where issue goes after an instruction. -/
inductive Ctl where
  | next
  /-- a branch or jump, and whether it is taken (17 R451) -/
  | branch (taken : Bool) (target : Nat)
  /-- a return (17 R457) -/
  | goto (pc : Nat)
  /-- a repeat block (17 R453) -/
  | rep (len count : Nat)
  deriving DecidableEq, Repr

/-- The address of the next instruction, the branch whose slots issue, and the repeat block. -/
def Engine.flow (x : Engine) (pc : Nat) : Ctl → Nat × Option (Nat × Nat × Nat) × Option (Nat × Nat × Nat)
  | .branch taken target => ((pc + 4) % 65536, some (pc, if taken then target % 65536 else (pc + 12) % 65536, 2), none)
  | .goto a => (a, none, none)
  | .rep len count =>
    if count = 0 then ((pc + 4 + 4 * len) % 65536, none, none) else ((pc + 4) % 65536, none, some ((pc + 4) % 65536, len, count))
  | .next =>
    match x.branch, x.rep with
    | some (_, t, 1), _ => (t, none, none)
    | some (b, t, _), _ => ((pc + 4) % 65536, some (b, t, 1), none)
    | none, some (start, len, left) =>
      if pc = (start + 4 * (len - 1)) % 65536 then
        if left ≤ 1 then ((pc + 4) % 65536, none, none) else (start, none, some (start, len, left - 1))
      else ((pc + 4) % 65536, none, some (start, len, left))
    | none, none => ((pc + 4) % 65536, none, none)

/-- The instruction whose effect stands in `s` has issued: `x` is the engine before it. The address moves on, gaps count
down, the debug causes it leaves are noted, and a HALT acts at the boundary. -/
def State.retire (s : State) (e : Nat) (x : Engine) (mon : Bool) (ctl : Ctl) : State :=
  let pc := s.rd TR_PC.PC e
  let (pc', br, rp) := x.flow pc ctl
  let inSlot := !(Engine.eligible { x with wait := none }) && s.bpAt e pc
  let cause := if mon then 0 else (if s.on TR_DBG_CTRL.STEP e then 8 else 0) ||| (if inSlot then 2 else 0)
  let y := s.eng e
  let fresh := y.stores.drop x.stores.length
  let due := x.stores.filter (fun p => decide (p.1 ≤ 1))
  let aged := (x.stores.filter (fun p => decide (1 < p.1))).map (fun p => (p.1 - 1, p.2))
  let words := (x.imemOld.filter (fun p => decide (1 < p.1))).map (fun p => (p.1 - 1, p.2))
  let t := s.setEng e { y with branch := br, rep := rp, stores := aged ++ fresh, imemOld := words ++ y.imemOld.drop x.imemOld.length
                               dbg := y.dbg ||| cause, stepOver := y.stepOver && !x.stepOver }
  ((t.wr TR_PC.PC pc' e).landStores e due).haltAtBoundary e

/-! ### Accesses that have their response (16 R411, R425, R426) -/

/-- A load's bytes right-justified and extended (16 R417). -/
def extend (size : Nat) (signed : Bool) (v : Nat) : Word :=
  let w := BitVec.ofNat 32 (v % 2 ^ (8 * size))
  if signed && (v.testBit (8 * size - 1)) && decide (size < 4) then w - BitVec.ofNat 32 (2 ^ (8 * size)) else w

/-- A load's destination takes its data: a pair for 8 bytes (16 R413, 17 R443). -/
def Engine.land (x : Engine) (l : Landing) (v : Nat) : Engine :=
  let y := match l.dest with
    | none => x
    | some r =>
      if l.size = 8 then (x.wgLate r (BitVec.ofNat 32 v)).wgLate (r + 1) (BitVec.ofNat 32 (v / 2 ^ 32))
      else x.wgLate r (extend l.size l.signed v)
  match l.ptr with
  | some (n, d) => y.wk n d
  | none => y

/-- The access of the instruction in issue completes without an exception. -/
def State.landed (s : State) (e : Nat) (l : Landing) (v : Nat) : State :=
  let x := s.eng e
  let t := s.setEng e { x.noOld.land l v with wait := none }
  let t := match l.head with
    | some p => t.setNoticeCount e p (t.noticeCount e p - 1)
    | none => t
  t.retire e x (s.on TR_STATUS.MON e) .next

/-- The response of an access that froze the engine (16 R411): BUS, POISON, or its data. -/
def State.answerEngine (s : State) (e : Nat) (l : Landing) (status data : Nat) (poison : Bool) : State :=
  if status ≠ 0 then s.raiseExc e 3 l.eaddr
  else if poison && l.dest.isSome then s.raiseExc e 4 l.eaddr
  else s.landed e l data

/-- A response reaches the initiator `ni` for a tag: the engine that waits for it goes on. -/
def State.answerTag (s : State) (ni tag status data : Nat) (poison : Bool) : State :=
  if ni < 653 ∨ 661 ≤ ni then s
  else
    (List.range 8).foldl (fun s m =>
      let e := 8 * (ni - 653) + m
      match (s.eng e).wait with
      | some (.answer l (some t)) => if t = tag then s.answerEngine e l status data poison else s
      | _ => s) s

/-- The NI refuses an engine's access at once (13 R359). -/
def State.refuseEngine (s : State) (e status : Nat) : State :=
  match (s.eng e).wait with
  | some (.answer l none) => s.answerEngine e l status 0 false
  | some _ => (s.updEng e (fun x => { x with wait := none })).haltAtBoundary e
  | none => s

/-- The NI takes an engine's request: a posted store no longer holds it, any other waits for its response. -/
def State.acceptEngine (s : State) (e tag : Nat) : State :=
  (s.updEng e (fun x => { x with wait := match x.wait with
    | some .accept => none
    | some (.answer l none) => some (.answer l (some tag))
    | w => w })).haltAtBoundary e

/-- A push of the engine has reached the Cage, or was lost on the way. -/
def State.pushSeen (s : State) (e : Nat) : State :=
  if (s.eng e).wait = some .push then (s.updEng e (fun x => { x with wait := none })).haltAtBoundary e else s

end Sys2Proof.Machine
end

