-- ==== Sys2Proof/Machine/Gallery.lean ====
section
/-! DEFINITION. The Gallery network: address decode, routes, tags, regulators, hops (13 R344 to R361). Responses travel
as commands of their own. -/

namespace Sys2Proof.Machine

/-- The Gallery changed. -/
def State.gl (s : State) (g : Gallery → Gallery) : State := { s with gallery := g s.gallery }

/-! ### Address decode (R345; 01 R30 to R32; 14 R368) -/

/-- The active channels, in ascending order (14 R367). -/
def State.channels (s : State) : List Nat := (List.range 8).filter (fun c => s.bit PC_MAP.SET c)

/-- Channel and channel address of a DRAM window address (14 R368); with no active channel, controller 0. -/
def State.dramPlace (s : State) (a : Nat) : Nat × Nat :=
  let cs := s.channels
  match cs.length with
  | 0 => (0, a)
  | n => (cs.getD (a / 4096 % n) 0, a / 4096 / n * 4096 + a % 4096)

/-- The destination NI of an address (R345); none where it lies in no window (01 R30). Empty offsets of the crew register
window go to the last crew (DEDUCED, log entry 29). -/
def State.decodeNi (s : State) (a : Nat) : Option Nat :=
  let within := fun (b e : Nat) => decide (b ≤ a) && decide (a < e)
  if a < 0x010000000000 then some (645 + (s.dramPlace a).1)
  else if a < 0x010003000000 then some 644
  else if a < 0x010004000000 then some (653 + min 7 ((a - 0x010003000000) / 0x10000))
  else if a < 0x010005000000 then some (653 + (a - 0x010004000000) / 0x200000)
  else if a < 0x010006000000 then some (653 + (a - 0x010005000000) / 0x200000)
  else if a < 0x010007000000 then some 644
  else if within 0x010010000000 0x010038000000 then some ((a - 0x010010000000) / 0x100000)
  else if within 0x010040100000 0x010040500000 then some (640 + (a - 0x010040100000) / 0x100000)
  else if within 0x010040800000 0x010041000000 then some (640 + (a - 0x010040800000) / 0x200000)
  else if within 0x010041800000 0x010041C00000 then some (640 + (a - 0x010041800000) / 0x100000)
  else if within 0x010042800000 0x010043000000 then some (640 + (a - 0x010042800000) / 0x200000)
  else if within 0x010043000000 0x010043800000 then some (645 + (a - 0x010043000000) / 0x100000)
  else if within 0x010040000000 0x010049000000 then some 661
  else none

/-! ### Routes (R347 to R350) -/

/-- Where a packet enters the network from its NI. -/
def startPlace (n : Nat) : Place := if n < 640 then .junction n else if n < 644 then .shaft (n - 640) false else .main

/-- One switch moves a packet by its route fields (R349). -/
def Route.move (r : Route) : Place → Place × Route
  | .junction n =>
    let row := n % 160 / 10
    let col := n % 10
    if r.sx % 16 ≠ 0 then
      let r' := { r with sx := r.sx - 1 }
      if 16 ≤ r.sx then (if col = 0 then .off else .junction (n - 1), r') else (if col = 9 then .off else .junction (n + 1), r')
    else if r.sy % 32 ≠ 0 then
      let r' := { r with sy := r.sy - 1 }
      if 32 ≤ r.sy then (if row = 0 then .shaft (n / 160) false else .junction (n - 10), r')
      else (if row = 15 then .off else .junction (n + 10), r')
    else if r.dy ≠ 0 then (if row = 15 then .off else .junction (n + 10), { r with dy := r.dy - 1 })
    else (.ni n, r)
  | .shaft k link =>
    let e := if link then r.dsj else r.sj
    (if e < 10 then .junction (k * 160 + e) else if e = 10 then .ni (640 + k) else if e = 11 ∧ !link then .main else .off, r)
  | .main => (if r.mg < 4 then .shaft r.mg true else if r.mg < 22 then .ni (640 + r.mg) else .off, r)
  | .ni n => (.ni n, r)
  | .off => (.off, r)

/-- The route delivers at NI `d` within `k` moves, with no mesh hop left over when it enters a shaft. -/
def Route.reaches (r : Route) (p : Place) (d : Nat) : Nat → Bool
  | 0 => false
  | k + 1 =>
    match r.move p with
    | (.ni n, _) => decide (n = d)
    | (.off, _) => false
    | (.shaft q l, r') => (l || decide (r'.sy % 32 = 0 ∧ r'.sx % 16 = 0)) && r'.reaches (.shaft q l) d k
    | (p', r') => r'.reaches p' d k

/-- The route fields of an entry's value (R361). -/
def routeOf (v : Nat) : Route := ⟨bitsOf v 0 5, bitsOf v 5 6, bitsOf v 11 4, bitsOf v 15 5, bitsOf v 20 4, bitsOf v 24 4⟩

/-- An entry may be written (R350): hops within the fields' ranges, no reserved code, and the route delivers at the
entry's destination (R352). -/
def routeOk (n d v : Nat) : Bool :=
  let r := routeOf v
  decide (r.sx % 16 ≤ 9) && decide (r.sy % 32 ≤ 16) && decide (r.sj ≤ 11) && decide (r.mg ≤ 21) && decide (r.dsj ≤ 10)
    && r.reaches (startPlace n) d 64

/-- The index of a route entry in the register table. -/
def routeIdx (n d : Nat) : Nat := n * 1024 + d

/-- A write to a route entry (R350, R351). -/
def State.writeRoute (s : State) (n d v : Nat) : State :=
  if routeOk n d v then s.setFields GL_ROUTE.regs v 0 (routeIdx n d) else s.wr GL_CTRL.CFG_ERR 1

/-- ROUTE_WRITE (R350). -/
def execRouteWrite (ni dest value : Nat) (s : State) : Res := need (ni < 662 ∧ dest < 662) (s.writeRoute ni dest value)

/-! ### Injection (R353 to R355, R359) -/

/-- 16-byte blocks that an access touches (R346). -/
def blocksTouched (addr size : Nat) : Nat := (addr % 16 + size + 15) / 16

/-- Flits of a request (R346). -/
def GalFlits (r : GalReq) : Nat := 1 + (if r.op = 0 then 0 else blocksTouched r.addr r.size)

/-- The regulator that guards a request's injection (R355): whether enabled, its key, and its bucket size. -/
def State.regulator (s : State) (r : GalReq) : Option (Nat × Nat) :=
  match r.engine with
  | some e => if s.on GL_ENG_REG.REG_EN 0 e then some (1024 + e, s.rd GL_ENG_REG.BURST 0 e) else none
  | none => if r.ni < 640 ∧ s.on GL_NI_CFG.REG_EN 0 r.ni then some (r.ni, s.rd GL_NI_CFG.BURST 0 r.ni) else none

/-- The lowest tag of an NI that is not in use; none where all 1,024 are (R353). -/
def State.freeTag (s : State) (ni : Nat) : Option Nat :=
  let used := (s.gallery.tags.filter (fun t => decide (t.1 = ni))).map (fun t => t.2.1)
  (List.range (used.length + 1)).find? (fun k => decide (k < 1024) && !used.contains k)

/-- `OUTSTANDING` follows the tags. -/
def State.showTags (s : State) (ni : Nat) : State :=
  s.wr GL_NI_STAT.OUTSTANDING (s.gallery.tags.filter (fun t => decide (t.1 = ni))).length 0 ni

/-- The NI refuses a request itself (R31, R35, R350). -/
def State.niRefuse (s : State) (r : GalReq) (status : Nat) : State :=
  let t := s.count GL_NI_STAT.NOROUTE 1 0 r.ni
  let t := if r.op = 2 then t else t.emit (.answered r.ni 0 status 0 false)
  -- a stope port holds the error response for its presentation (07 R183)
  let t := if r.ni < 640 ∧ r.op ≠ 2 then t.updStope r.ni (fun x => { x with masters := x.masters ++ [⟨1024, decide (r.op = 1), some (0, true, false)⟩] }) else t
  match r.engine with
  | some e => t.refuseEngine e status
  | none => t

/-- An initiator that a waiting request holds (R355): the part behind a stope port, or an engine. -/
def State.initiatorHeld (s : State) (r : GalReq) : Bool :=
  (decide (r.ni < 640) || r.engine.isSome) && s.gallery.held.any (fun q => decide (q.ni = r.ni ∧ q.engine = r.engine))

/-- A request enters the network, or is held (R353, R355): whether it was injected. -/
def State.inject (s : State) (r : GalReq) (d : Nat) : Bool × State :=
  let f := GalFlits r
  let short := if s.initiatorHeld r then none else match s.regulator r with
    | some (k, burst) => if burst < Tab.get 0 s.gallery.short k + f then none else some [(k, Tab.get 0 s.gallery.short k + f)]
    | none => some []
  match short, (if r.op = 2 then some 0 else s.freeTag r.ni) with
  | some sh, some tag =>
    let e := routeIdx r.ni d
    let route : Route := ⟨s.rd GL_ROUTE.SX 0 e, s.rd GL_ROUTE.SY 0 e, s.rd GL_ROUTE.SJ 0 e, s.rd GL_ROUTE.MG 0 e, s.rd GL_ROUTE.DSJ 0 e, s.rd GL_ROUTE.DY 0 e⟩
    let pri := if r.ni < 644 then s.rd GL_NI_CFG.PRI 0 r.ni else max (s.rd GL_NI_CFG.PRI 0 r.ni) (min r.pri 3)
    let t := s.gl (fun g => { g with
      packets := g.packets ++ [⟨r, pri, tag, d, route, startPlace r.ni, r.poison, false⟩]
      tags := if r.op = 2 then g.tags else g.tags ++ [(r.ni, tag, false)]
      short := sh.foldl (fun b p => Tab.set natLt 0 b p.1 p.2) g.short })
    let t := if r.ni < 640 ∧ r.op ≠ 2 then
        t.updStope r.ni (fun x => { x with masters := x.masters ++ [⟨tag, decide (r.op = 1), none⟩] }) else t
    let t := match r.engine with
      | some e => t.acceptEngine e tag
      | none => t
    (true, t.showTags r.ni)
  | _, _ => (false, s)

/-- A request at its NI (R345, R350, R353, R355): decoded, routed and injected, refused by its own NI, or held. -/
def State.request (s : State) (r : GalReq) : State :=
  match s.decodeNi r.addr with
  | none => s.niRefuse r 2
  | some d =>
    if r.size = 0 ∨ 64 < r.addr % 64 + r.size then s.niRefuse r 5
    else if !s.on GL_ROUTE.VALID 0 (routeIdx r.ni d) then s.niRefuse r 6
    else
      match s.inject r d with
      | (true, t) => t
      | (false, t) => t.gl (fun g => { g with held := g.held ++ [r] })

/-- GALLERY_REQUEST (R345, R350, R353, R355). A stope that is not in use issues none (07 R182); without the ROOT clocks nothing moves
(02 R49, R51). -/
def execGalleryRequest (r : GalReq) (s : State) : Res :=
  need (r.ni < 662 ∧ r.op < 3) (if !s.rootRuns ∨ (r.ni < 640 ∧ !s.inUse r.ni) then s else s.request r)

/-- Held requests are tried again, oldest first. -/
def State.retryHeld (s : State) : State :=
  let l := s.gallery.held
  l.foldl (fun t r =>
    match t.decodeNi r.addr with
    | none => t.niRefuse r 2
    | some d => match t.inject r d with
      | (true, u) => u
      | (false, u) => u.gl (fun g => { g with held := g.held ++ [r] })) (s.gl (fun g => { g with held := [] }))

/-- REGULATOR_REFILL (R355): `point` is a stope NI, or 1,024 + engine. -/
def execRegulatorRefill (point : Nat) (s : State) : Res :=
  need (point < 640 ∨ (1024 ≤ point ∧ point < 1088))
    (let rate := if point < 640 then s.rd GL_NI_CFG.RATE 0 point else s.rd GL_ENG_REG.RATE 0 (point - 1024)
     let en := if point < 640 then s.on GL_NI_CFG.REG_EN 0 point else s.on GL_ENG_REG.REG_EN 0 (point - 1024)
     if en then
       (s.gl (fun g => { g with short := Tab.set natLt 0 g.short point (Tab.get 0 g.short point - rate) })).retryHeld
     else s)

/-! ### Hops (R348, R349, R352, R354, R356) -/

/-- The code of a place in `GL_ERR` (R361). -/
def Place.code : Place → Nat
  | .junction n => n
  | .shaft k _ => 640 + k
  | .main => 0xFFF
  | .ni n => n
  | .off => 0xFFF

/-- A dropped packet is recorded and logged (R348, R352). -/
def State.galDrop (s : State) (kind place src : Nat) : State :=
  let t := if s.on GL_ERR.VALID then s
    else (((s.wr GL_ERR.VALID 1).wr GL_ERR.KIND kind).wr GL_ERR.WHERE place).wr GL_ERR.SRC src
  t.post 9 0x0090 2 (t.raw GL_ERR.regs)

/-- The priority that the main gallery honours (R354). -/
def Packet.rank (p : Packet) : Nat := if p.aged then 3 else p.pri

/-- The header flit of a request (R347). -/
def Packet.header (p : Packet) : Nat :=
  let r := p.route
  p.req.op % 16 + p.pri % 4 * 2 ^ 4 + b2n p.req.poison * 2 ^ 6 + (p.req.size - 1) % 64 * 2 ^ 8 + p.req.ni % 1024 * 2 ^ 17 + p.tag % 1024 * 2 ^ 27
    + p.dst % 1024 * 2 ^ 37 + p.req.addr % 2 ^ 48 * 2 ^ 48
    + (r.sx % 32 + r.sy % 64 * 2 ^ 5 + r.sj % 16 * 2 ^ 11 + r.mg % 32 * 2 ^ 15 + r.dsj % 16 * 2 ^ 20 + r.dy % 16 * 2 ^ 24) * 2 ^ 96

/-- A packet with another header flit (R347). -/
def Packet.withHeader (p : Packet) (v : Nat) : Packet :=
  { p with
    req := { p.req with op := bitsOf v 0 4, poison := bitAt v 6, size := bitsOf v 8 6 + 1, ni := bitsOf v 17 10, addr := bitsOf v 48 48 }
    pri := bitsOf v 4 2, tag := bitsOf v 27 10, dst := bitsOf v 37 10, route := routeOf (v / 2 ^ 96) }

/-- Packet `i` may move now (R354, R356): no earlier packet of its initiator, destination and priority waits at the same
switch, and on the main gallery no packet for its output ranks higher or, promoted, is older. -/
def Gallery.mayHop (g : Gallery) (i : Nat) (p : Packet) : Bool :=
  let before := g.packets.take i
  !before.any (fun q => decide (q.place = p.place ∧ q.req.ni = p.req.ni ∧ q.dst = p.dst ∧ q.pri = p.pri))
    && (decide (p.place ≠ .main) || (
      !g.packets.any (fun q => decide (q.place = .main ∧ q.route.mg = p.route.mg ∧ p.rank < q.rank))
        && (!(before.any (fun q => decide (q.place = .main ∧ q.route.mg = p.route.mg) && q.aged)))))

/-- Packet `i` leaves the network. -/
def State.dropPacket (s : State) (i : Nat) : State := s.gl (fun g => { g with packets := g.packets.eraseIdx i })

/-- A packet is lost: a push it carried holds its engine no longer. -/
def State.losePacket (s : State) (i : Nat) (r : GalReq) : State :=
  match r.engine with
  | some e => (s.dropPacket i).pushSeen e
  | none => s.dropPacket i

/-- PACKET_HOP (R346 to R349, R352): packet `index` of those in the network meets one switch. `corrected` counts single-bit
errors found, `headerUe` and `dataUe` uncorrectable ones; `upset` is an undetected change of bits of the header flit. -/
def execPacketHop (index corrected upset : Nat) (headerUe dataUe : Bool) (s : State) : Res :=
  .next
    (match s.gallery.packets[index]? with
     | none => s
     | some p0 =>
       if !s.gallery.mayHop index p0 then s
       else
         let s := s.count GL_STATUS.CE_COUNT corrected
         if headerUe then ((s.losePacket index p0.req).count GL_STATUS.HDR_DROP).galDrop 1 p0.place.code 0
         else
           let p := if upset = 0 then p0 else p0.withHeader (p0.header ^^^ upset)
           let bad := p.bad || dataUe
           let lose := fun (kind : Nat) => ((s.losePacket index p0.req).count GL_STATUS.ROUTE_ERR).galDrop kind p.place.code p.req.ni
           if 5 ≤ p.req.op then lose 2
           else
             match p.route.move p.place with
             | (.off, _) => lose 2
             | (.ni n, _) =>
               if n = p.dst then (s.dropPacket index).emit (.delivered n { p.req with poison := bad } p.tag) else lose 3
             | (q, r') => s.gl (fun g => { g with packets := g.packets.set index { p with place := q, route := r', bad := bad } }))

/-- AGE_PROMOTION (R354): a packet that has waited on the main gallery for `AGE_LIMIT`. -/
def execAgePromotion (index : Nat) (s : State) : Res :=
  .next
    (match s.gallery.packets[index]? with
     | none => s
     | some p => if p.place = .main then s.gl (fun g => { g with packets := g.packets.set index { p with aged := true } }) else s)

/-! ### Responses and timeouts (R356, R360) -/

/-- The state of a tag: none where it is free, else whether it is quarantined. -/
def State.tagState (s : State) (ni tag : Nat) : Option Bool :=
  (s.gallery.tags.find? (fun t => decide (t.1 = ni ∧ t.2.1 = tag))).map (fun t => t.2.2)

/-- A tag is free again; a request that waited for one goes out. -/
def State.untag (s : State) (ni tag : Nat) : State :=
  ((s.gl (fun g => { g with tags := g.tags.filter (fun t => !decide (t.1 = ni ∧ t.2.1 = tag)) })).retryHeld).showTags ni

/-- GALLERY_RESPONSE (R356, R360): matched by its tag and delivered, or discarded as late. -/
def execGalleryResponse (ni tag status data : Nat) (poison : Bool) (s : State) : Res :=
  need (ni < 662)
    (match s.tagState ni tag with
     | none => s
     | some false => ((s.untag ni tag).emit (.answered ni tag status data poison)).answerTag ni tag status data poison
     | some true => (s.untag ni tag).count GL_NI_STAT.LATE 1 0 ni)

/-- GALLERY_TIMEOUT (R360). -/
def execGalleryTimeout (ni tag : Nat) (s : State) : Res :=
  need (ni < 662)
    (if s.tagState ni tag = some false then
       let t := s.gl (fun g => { g with tags := g.tags.map (fun t => if t.1 = ni ∧ t.2.1 = tag then (ni, tag, true) else t) })
       ((t.count GL_NI_STAT.TIMEOUTS 1 0 ni).emit (.answered ni tag 3 0 false)).answerTag ni tag 3 0 false
     else s)

/-- TAG_RELEASE (R360). -/
def execTagRelease (ni tag : Nat) (s : State) : Res :=
  need (ni < 662) (if s.tagState ni tag = some true then s.untag ni tag else s)

end Sys2Proof.Machine
end

