-- ==== Sys2Proof/Machine/DramOps.lean ====
section
/-! DEFINITION. The DRAM controllers' shared operations: pages and the page code, the fresh map, flips, stores, the halt
(14 R372 to R386, 15 R396 to R405). -/

namespace Sys2Proof.Machine

/-- The DRAM subsystem changed. -/
def State.dr (s : State) (g : Dram → Dram) : State := { s with dram := g s.dram }

/-- Channel, block and page index of a gallery page (14 R368, R369, R385). -/
def State.pagePlace (s : State) (page : Nat) : Nat × Nat × Nat :=
  let (c, a) := s.dramPlace (page * 128)
  (c, a / 65536, a / 128)

/-- The page as stored. -/
def State.page (s : State) (page : Nat) : Page := Tab.get .clean s.dram.pages page

/-- The fresh bit of a block (R385). -/
def State.isLive (s : State) (c b : Nat) : Bool := Tab.get false s.dram.live (c * 2 ^ 21 + b)

/-- `DC_FRESH` of a channel follows its trackers and fresh bits (R389). -/
def State.showFresh (s : State) (c : Nat) : State :=
  let t := s.wr DC_FRESH.FILLS (s.dram.fills.filter (fun f => decide (f.chan = c))).length c
  let t := t.put DC_FRESH.TRACKER_WAIT (s.dram.trackerWait.any (fun p => decide (p.1 = c))) c
  t.wr DC_FRESH.LIVE (s.dram.live.filter (fun p => decide (p.1 / 2 ^ 21 = c))).length c

/-- A read of the page reaches DRAM: its block is live, or its fill holds the page as filled (R385). -/
def State.touches (s : State) (page : Nat) : Bool :=
  let (c, b, p) := s.pagePlace page
  s.isLive c b || s.dram.fills.any (fun f => decide (f.chan = c ∧ f.block = b) && f.marked.contains p)

/-- A page of a block has been written (R385): the first write of a block starts its fill, or waits for a tracker. -/
def State.markWritten (s : State) (page : Nat) : State :=
  let (c, b, p) := s.pagePlace page
  if s.isLive c b then s
  else if s.dram.fills.any (fun f => decide (f.chan = c ∧ f.block = b)) then
    s.dr (fun d => { d with fills := d.fills.map (fun f =>
      if f.chan = c ∧ f.block = b ∧ !f.marked.contains p then { f with marked := f.marked ++ [p] } else f) })
  else if (s.dram.fills.filter (fun f => decide (f.chan = c))).length < 16 then
    (s.dr (fun d => { d with fills := d.fills ++ [⟨c, b, [p]⟩] })).showFresh c
  else if (c, b) ∈ s.dram.trackerWait then s
  else (s.dr (fun d => { d with trackerWait := d.trackerWait ++ [(c, b)] })).showFresh c

/-! ### The page code (R376 to R380) -/

/-- Symbol errors combined: XOR at each symbol, zero values gone. -/
def mergeErrs (a b : List (Nat × Nat)) : List (Nat × Nat) :=
  (b.foldl (fun l p => Tab.set natLt 0 l p.1 (Tab.get 0 l p.1 ^^^ (p.2 % 256))) a)

/-- The x4 device of a codeword symbol (R377, R389). -/
def symDevice (s : Nat) : Nat :=
  if s < 128 then 10 * (s / 64) + s % 64 / 8 else 10 * ((s - 128) / 16) + 8 + (s - 128) % 16 / 8

/-- What the decoder makes of a page (R380); `wrong` is a miscorrection. -/
inductive Decoded where
  | clean
  | corrected (syms : List (Nat × Nat))
  | wrong
  | uncorrectable (syms : List (Nat × Nat))
  deriving DecidableEq, Repr

/-- A page is decoded (R380, R385). -/
def State.decodePage (s : State) (page : Nat) (v : DramView) : Decoded :=
  if !s.touches page then .clean
  else
    let e := mergeErrs (s.page page).errs v.errs
    if s.pageT < e.length then (if v.miscorrect then .wrong else .uncorrectable e)
    else if v.badMeta then .uncorrectable e
    else if e.isEmpty then .clean
    else .corrected e

/-- The decoded page fails its tag (15 R397): levels 0 to 2 only. -/
def State.tagFails (s : State) (page : Nat) (v : DramView) : Bool :=
  decide (s.rd PC_CTRL.LEVEL < 3) && s.touches page && (match s.decodePage page v with
    | .wrong => true
    | .uncorrectable _ => false
    | _ => v.tampered)

/-- The last error of a channel is recorded (R380, R389). -/
def State.eccLast (s : State) (page kind : Nat) (syms : List (Nat × Nat)) (src : Nat) : State :=
  let (c, _, p) := s.pagePlace page
  let dev := (syms.head?.map (fun e => symDevice e.1)).getD 0
  let one := decide (kind = 0) && syms.all (fun e => decide (symDevice e.1 = dev))
  let t := ((s.wr DC_ECC_LAST.PAGE p c).wr DC_ECC_LAST.KIND kind c).wr DC_ECC_LAST.SYMS (if kind = 0 then syms.length else 0) c
  ((t.put DC_ECC_LAST.ONE_DEV one c).wr DC_ECC_LAST.DEV (if one then dev else 0) c).wr DC_ECC_LAST.SRC src c

/-- The row of a page of a channel (R369), for a soft repair. -/
def State.rowOf (s : State) (c p : Nat) : FlashRow :=
  let a := p / 32 / (if s.on DC_STATUS.X8 c then 64 else 128)
  let n := s.rd DC_STATUS.RANKS c
  ⟨c, a / (if n = 0 then 1 else n), p % 8, p / 8 % 4, a % (if n = 0 then 1 else n), false, false⟩

/-- The Foreman adds the row of an uncorrectable page that it logs to its flash table, where the table does not hold the row and has room
(R387); for a soft repair (DESIGN CHOICE, log entry 99). -/
def State.noteRow (s : State) (c p : Nat) : State :=
  let r := s.rowOf c p
  let mine := s.flash.rows.filter (fun f => decide (f.chan = c))
  if 32 ≤ mine.length ∨ mine.any (fun f => decide (f.row = r.row ∧ f.bg = r.bg ∧ f.bank = r.bank ∧ f.rank = r.rank)) then s
  else { s with flash := { s.flash with rows := s.flash.rows ++ [r] } }

/-- What a decoded page leaves in the counts (R380, R384): `src` is the initiator NI. -/
def State.eccCount (s : State) (page src : Nat) (d : Decoded) : State :=
  let (c, _, p) := s.pagePlace page
  match d with
  | .corrected e =>
    let t := (s.count DC_ECC.CE_COUNT 1 c).eccLast page 0 e src
    if page ∈ t.dram.writebacks then t else t.dr (fun d => { d with writebacks := d.writebacks ++ [page] })
  | .uncorrectable e =>
    let t := (s.count DC_ECC.UE_COUNT 1 c).eccLast page 1 e src
    (t.post 3 0x0031 2 (t.raw DC_ECC_LAST.regs c)).noteRow c p
  | _ => s

/-- The 128 bytes of a page as read (R381): the errors of an uncorrectable page show in its bytes. At level 3 a page that
is not the stored one reads as a free value, as does a miscorrected one. -/
def State.pageBytes (s : State) (page : Nat) (v : DramView) (d : Decoded) : List Nat × State :=
  let plain := s.loadBytes (page * 128) 128
  match d with
  | .uncorrectable e => ((List.range 128).zip plain |>.map (fun p => p.2 ^^^ Tab.get 0 e p.1), s)
  | .wrong => ((List.range 128).map (fun i => bitsOf (s.draw 1024) (8 * i) 8), s.drawn)
  | _ =>
    if v.tampered && s.touches page then ((List.range 128).map (fun i => bitsOf (s.draw 1024) (8 * i) 8), s.drawn)
    else (plain, s)

/-! ### The halt (15 R405) -/

/-- The part halts: keys are cleared, the Winder freezes, the Cage reports, the pins go safe. -/
def State.haltPart (s : State) (kind pkind key src addr : Nat) : State :=
  let t := (((s.wr EN_STATUS.HALTED 1).wr EN_HALT.KIND kind).wr EN_HALT.PKIND pkind).wr EN_HALT.KEY_ID key
  let t := (t.wr EN_HALT.SRC src).wr EN_HALT_ADDR.ADDR addr
  let t := (t.en (fun c => { c with slots := [], owner := none, nonce := 0, devKey := 0, cache := [], waiting := [] })).showKeys
  let t := t.dr (fun d => { d with queue := [] })
  let t := (t.wr WD_STATUS.STATE 4).wr WD_STATUS.STOP_CAUSE 5
  let t := if t.rd LP_STATUS.LEVEL = 2 then t.wr LP_STATUS.LEVEL 1 else t
  let t := t.pins.foldl (fun t p => t.updPin (p.1 / 48) (p.1 % 48) (fun x => { x with fabric := false, input := false })) t
  (t.emit .errFatal).post 4 0x0040 3 addr

/-- The halt of a data page: DATA under a key id, or OPEN (15 R396, R407). -/
def State.haltAt (s : State) (kind page src : Nat) : State :=
  match s.protectedBy (page * 128) with
  | some k => s.haltPart kind 0 k src (page * 128)
  | none => s.haltPart kind 2 0 src (page * 128)

/-! ### Stores (R374, R382, R383, R386; 15 R399) -/

/-- The symbols that an armed flip mask corrupts in this write (R386); none where it does not qualify. -/
def State.flipOf (s : State) (page : Nat) : Option (List (Nat × Nat)) :=
  let (c, _, p) := s.pagePlace page
  if s.on DC_FLIP_CTRL.ARM c && (!s.on DC_FLIP_CTRL.MATCH_EN c || decide (s.rd DC_FLIP_CTRL.MATCH c = p)) then
    some (((List.range 160).filter (fun b => s.bit DC_FLIP_SYM.SYM (b % 64) c (b / 64))).map (fun b => (b, s.rd DC_FLIP_CTRL.VAL c)) |>.filter (fun e => decide (e.2 ≠ 0)))
  else none

/-- A page is stored for a Gallery request (R294, R374, R382, R386, 15 R399): `mask` selects bytes of `data`, which has
128. None where its counter may not rise. -/
def State.storePage (s : State) (page mask : Nat) (data : List Nat) (poison : Bool) : Option State :=
  let old := s.page page
  let s := s.journalPage page (s.loadBytes (page * 128) 128) (old.poison || decide (s.pageT < old.errs.length))
  match s.raiseCounter page with
  | (false, _) => none
  | (true, t) =>
    let c := (t.pagePlace page).1
    let flip := t.flipOf page
    let t := t.storeMasked (page * 128) data mask
    let t := t.dr (fun d => { d with
      pages := Tab.set natLt .clean d.pages page ⟨poison, flip.getD [], true⟩
      writebacks := d.writebacks.filter (fun q => decide (q ≠ page)) })
    let t := t.markWritten page
    some (if flip.isSome then (t.wr DC_FLIP_CTRL.ARM 0 c).wr DC_FLIP_CTRL.DONE 1 c else t)

/-- A block of the part's own write to DRAM (01 R26; 11 R293, 14 R374, R385): it is journalled, counted and encoded as any master's. A page
written in part keeps its poison. -/
def State.agentStore (s : State) (a : Nat) (data : List Nat) : State :=
  let first := a / 128
  (List.range ((a + data.length + 127) / 128 - first)).foldl (fun t i =>
    let page := first + i
    let here := fun k => decide (a ≤ 128 * page + k) && decide (128 * page + k < a + data.length)
    let mask := (List.range 128).foldl (fun m k => if here k then setBit m k else m) 0
    let bytes := (List.range 128).map (fun k => if here k then data.getD (128 * page + k - a) 0 else 0)
    let old := t.page page
    let bad := decide (mask ≠ ones 128) && (old.poison || decide (t.pageT < old.errs.length))
    (t.storePage page mask bytes bad).getD t) s

/-! ### Clearing (R366, 15 R394, R395) -/

/-- A block of a channel holds an address of the span. -/
def State.blockMeets (s : State) (sp : Nat × Nat) (c b : Nat) : Bool :=
  let cs := s.channels
  let n := cs.length
  match cs.findIdx? (fun x => decide (x = c)) with
  | none => false
  | some i => (List.range 16).any (fun r => inSpan sp (((16 * b + r) * n + i) * 4096))

/-- The fresh bits of every block of a span clear, so that it reads zero. -/
def State.clearSpan (s : State) (sp : Nat × Nat) : State :=
  let hit := fun (a : Nat) =>
    let (c, b, _) := s.pagePlace (a / 128)
    s.blockMeets sp c b
  let t := { s with mem := s.mem.filter (fun m => decide (2 ^ 40 ≤ m.1) || !hit m.1) }
  let t := t.dr (fun d => { d with
    pages := d.pages.filter (fun p => !hit (p.1 * 128))
    live := d.live.filter (fun p => !s.blockMeets sp (p.1 / 2 ^ 21) (p.1 % 2 ^ 21))
    fills := d.fills.filter (fun f => !s.blockMeets sp f.chan f.block)
    trackerWait := d.trackerWait.filter (fun p => !s.blockMeets sp p.1 p.2)
    writebacks := d.writebacks.filter (fun p => !hit (p * 128)) })
  (List.range 8).foldl (fun t c => t.showFresh c) t

/-- The fresh map of every channel clears (R366). -/
def State.clearDram (s : State) : State :=
  let t := { s with mem := s.mem.filter (fun m => decide (2 ^ 40 ≤ m.1)) }
  let t := t.dr (fun d => { d with pages := [], live := [], fills := [], trackerWait := [], combiner := [], writebacks := [], queue := [] })
  (List.range 8).foldl (fun t c => t.showFresh c) t

end Sys2Proof.Machine
end

