-- ==== Sys2Proof/Machine/QueueOps.lean ====
section
/-! DEFINITION. The Cage's queue engine: lines, banks, spill, packets, notices, ends (12 R322 to R341). -/

namespace Sys2Proof.Machine

/-- The hidden state of a queue. -/
def State.queue (s : State) (q : Nat) : Queue := Tab.get .cold s.cage.queues q

/-- The hidden state of a queue replaced, and the status fields that follow it (R343). -/
def State.setQu (s : State) (q : Nat) (x : Queue) : State :=
  let t := s.cg (fun c => { c with queues := Tab.set natLt .cold c.queues q x })
  let t := (t.wr QU_STATUS.DB_PEND x.doorbells.length q).wr QU_STATUS.FILL_OFS (64 * x.fill.length) q
  (t.wr QU_STATUS.SPILLED x.spill.length q).put QU_STATUS.BACKPRESSURE (!x.waiting.isEmpty) q

/-- The hidden state of a queue changed. -/
def State.updQu (s : State) (q : Nat) (g : Queue → Queue) : State := s.setQu q (g (s.queue q))

/-! ### Geometry (R322, R325, R327, R333) -/

/-- Word width of the queue's end (R322). -/
def State.quWidth (s : State) (q : Nat) : Nat := if s.rd QU_END.KIND q = 1 then 8 else 4

/-- Bytes of a bank (R327). -/
def State.bankBytes (s : State) (q : Nat) : Nat := 2 ^ s.rd QU_CTRL.BANK_LOG2 q

/-- Gallery address of a bank. -/
def State.bankAddr (s : State) (q bank : Nat) : Nat :=
  0x010000000000 + s.rd QU_BUF.BASE q * 256 + bank * s.bankBytes q

/-- The fill bank and the drain bank. -/
def State.fillBank (s : State) (q : Nat) : Nat := s.rd QU_STATUS.FILL_BANK q
def State.drainBank (s : State) (q : Nat) : Nat := 1 - s.fillBank q

/-- DRAM address of the spill entry `k` places behind the oldest (R333). -/
def State.spillAddr (s : State) (q k : Nat) : Nat :=
  s.rd CG_SPILL_AREA.BASE * 2 ^ 21 + s.rd QU_SPILL.OFS q * 4096
    + (((s.queue q).spillHead + k) % s.rd QU_SPILL.NBANKS q) * s.bankBytes q

/-- The queue is an up queue. -/
def State.quUp (s : State) (q : Nat) : Bool := s.on QU_CTRL.DIR q

/-- State code of a queue (R324). -/
def State.quState (s : State) (q : Nat) : Nat := s.rd QU_STATUS.STATE q

/-- The fill bank is full. -/
def State.fillFull (s : State) (q : Nat) : Bool := decide (s.bankBytes q ≤ 64 * (s.queue q).fill.length)

/-- A new line may begin in the fill bank. -/
def State.fillRoom (s : State) (q : Nat) : Bool :=
  !s.fillFull q && !(s.queue q).spilling && !s.on QU_STATUS.FLIP_PEND q

/-- A queue halts (R324); the data it holds stays. -/
def State.haltQueue (s : State) (q cause : Nat) : State :=
  (s.wr QU_STATUS.STATE 3 q).wr QU_STATUS.HALT_CAUSE cause q

/-! ### Ping-pong and spill (R332, R333) -/

/-- The fill bank becomes the drain bank where it may (R332, R337). -/
def State.trySwap (s : State) (q : Nat) : State :=
  let x := s.queue q
  if x.drain.isEmpty && x.spill.isEmpty && !x.spilling
      && (s.on QU_STATUS.FLIP_PEND q || (!x.fill.isEmpty && (s.fillFull q || x.fill.any (fun l => l.last)))) then
    ((s.wr QU_STATUS.FILL_BANK (1 - s.fillBank q) q).wr QU_STATUS.FLIP_PEND 0 q).setQu q
      { x with drain := x.fill, drainPos := 0, fill := [] }
  else s

/-- The oldest spill entry comes back into the empty drain bank, whole and with its tags (R332); lines over poisoned
memory are poisoned. -/
def State.tryCopyBack (s : State) (q : Nat) : State :=
  let x := s.queue q
  match x.drain, x.spill with
  | [], e :: r =>
    let a := s.spillAddr q 0
    let tags := (List.range e.length).zip e |>.map (fun p => { p.2 with poison := p.2.poison || s.agentBad (a + 64 * p.1) 64 })
    let t := s.storeBytes (s.bankAddr q (s.drainBank q)) (s.loadBytes a (64 * e.length))
    t.setQu q { x with drain := tags, drainPos := 0, spill := r, spillHead := (x.spillHead + 1) % s.rd QU_SPILL.NBANKS q }
  | _, _ => s

/-- Lines discarded in place leave the head of the drain bank. -/
def dropDead (x : Queue) : Queue :=
  let n := (x.drain.takeWhile (fun l => decide (l.valid = 0))).length
  { x with drain := x.drain.drop n, drainPos := x.drainPos + n }

/-- The order of banks is kept up (R332): dead lines go, the oldest spill entry comes back, the banks swap. -/
def State.advance (s : State) (q : Nat) : State := ((s.updQu q dropDead).tryCopyBack q).trySwap q

/-- A full fill bank begins to spill where older data remains and the ring has room (R332, R333). -/
def State.startSpill (s : State) (q : Nat) : State :=
  let x := s.queue q
  if s.fillFull q && !x.spilling && !(x.drain.isEmpty && x.spill.isEmpty) && decide (s.rd QU_CTRL.HMODE q = 0)
      && decide (x.spill.length < s.rd QU_SPILL.NBANKS q) && s.on CG_SPILL_AREA.OK then
    s.setQu q { x with spilling := true }
  else s

/-! ### Packets (R328 to R330) -/

/-- The length word of a packet (R329). -/
def QPkt.lengthWord (p : QPkt) : Nat :=
  p.len % 2 ^ 24 + b2n p.trunc * 2 ^ 24 + b2n p.spilled * 2 ^ 25 + (p.seq % 16) * 2 ^ 28

/-- Lines that a packet of `len` payload bytes takes (R328). -/
def lineCount (w len : Nat) : Nat := (w + len + 63) / 64

/-- A sequence number lies below the drop mark (R341). -/
def State.belowMark (s : State) (q seq : Nat) : Bool :=
  let d := (s.rd QU_SEQ.DROP_MARK q + 2 ^ 32 - seq % 2 ^ 32) % 2 ^ 32
  decide (1 ≤ d) && decide (d ≤ 2 ^ 31)

/-- The place of a packet's slot line: Cage buffer or DRAM address, where the line is still on the part. -/
def State.slotPlace (s : State) (q seq : Nat) : Option (Nat × Bool) :=
  let x := s.queue q
  let here := fun (l : QLine) => l.first && decide (l.seq = seq) && decide (l.valid ≠ 0)
  match x.drain.findIdx? here with
  | some i => some (s.bankAddr q (s.drainBank q) + 64 * (x.drainPos + i), false)
  | none => match x.fill.findIdx? here with
    | some i => some (s.bankAddr q (s.fillBank q) + 64 * i, false)
    | none => (List.range x.spill.length).findSome? (fun k =>
        ((x.spill.getD k []).findIdx? here).map (fun i => (s.spillAddr q k + 64 * i, true)))

/-- A line of the packet lies on the part. -/
def Queue.holds (x : Queue) (seq : Nat) : Bool :=
  (x.drain ++ x.fill ++ x.spill.flatten).any (fun l => decide (l.seq = seq) && decide (l.valid ≠ 0))

/-- Every tag of a queue changed. -/
def Queue.tags (x : Queue) (g : QLine → QLine) : Queue :=
  { x with drain := x.drain.map g, fill := x.fill.map g, spill := x.spill.map (fun e => e.map g) }

/-- The address of ring position `pos` at the host (R331). -/
def State.ringAddr (s : State) (q pos : Nat) : Nat :=
  s.rd QU_DATA_RING.BASE q * 4096 + pos % 2 ^ s.rd QU_DATA_RING.DATA_LOG2 q

/-- The length word goes to the slot line wherever it lies (R330). -/
def State.writeSlot (s : State) (q : Nat) (p : QPkt) : State :=
  let b := bytesOf 4 p.lengthWord
  match s.slotPlace q p.seq with
  | some (a, false) => s.storeBytes a b
  | some (a, true) => s.agentStore a b
  | none => match p.slotPos with
    | some pos => s.emit (.hostWrite (s.ringAddr q pos) b false false)
    | none => s

/-- Up packets that are closed and wholly at the host get their notices, oldest first (R330). -/
def settlePkts : Nat → Queue → Queue
  | 0, x => x
  | k + 1, x =>
    match x.pkts with
    | p :: r =>
      if p.closed && !x.holds p.seq then
        settlePkts k { x with pkts := r, notices := x.notices ++ [⟨p.seq, p.slotPos.getD 0, p.len, p.poison, p.trunc, p.spilled⟩] }
      else x
    | [] => x

/-- A STOPPING queue that has drained is DISABLED (R326). -/
def State.checkDrained (s : State) (q : Nat) : State :=
  let x := s.queue q
  if s.quState q = 2 ∧ x.pkts = [] ∧ x.notices = [] ∧ x.doorbells = [] ∧ x.waiting = [] then s.wr QU_STATUS.STATE 0 q else s

/-- Closed packets settle and the state follows. -/
def State.settleQu (s : State) (q : Nat) : State :=
  let t := if s.quUp q then s.updQu q (fun x => settlePkts x.pkts.length x) else s
  t.checkDrained q

/-- A line of 64 bytes enters the fill bank with its tag. -/
def State.placeLine (s : State) (q : Nat) (bytes : List Nat) (tag : QLine) : State :=
  let x := s.queue q
  let t := s.storeBytes (s.bankAddr q (s.fillBank q) + 64 * x.fill.length) (bytes ++ List.replicate (64 - bytes.length) 0)
  (t.setQu q { x with fill := x.fill ++ [tag] }).startSpill q

/-- The open packet of an up queue. -/
def Queue.openPkt (x : Queue) : Option QPkt := (x.pkts.getLast?).filter (fun p => !p.closed)

/-- The newest packet replaced. -/
def Queue.setLast (x : Queue) (p : QPkt) : Queue := { x with pkts := x.pkts.dropLast ++ [p] }

/-- The open up packet closes (R330, R340). -/
def State.closePkt (s : State) (q : Nat) (trunc : Bool) : State :=
  let x := s.queue q
  match x.openPkt with
  | none => s
  | some p =>
    if p.dup then (s.setQu q { x with pkts := x.pkts.dropLast, packer := [] }).count QU_STATS.DUP 1 q
    else
      let p := { p with closed := true, trunc := trunc }
      let s := if trunc then s.wr QU_STATUS.TRUNC_SEEN 1 q else s
      let s := s.setQu q ({ x with packer := [] }.setLast p)
      let s :=
        if x.packer.isEmpty then
          -- the last line is complete already: its tag takes the mark, wherever it lies
          (s.updQu q (fun y => y.tags (fun l => if l.seq = p.seq then { l with last := true } else l))).writeSlot q p
        else if p.lines = 1 then
          s.placeLine q (bytesOf 4 p.lengthWord ++ x.packer.drop 4) ⟨p.seq, x.packer.length, true, true, false⟩
        else (s.placeLine q x.packer ⟨p.seq, x.packer.length, false, true, false⟩).writeSlot q p
      s.settleQu q

/-- A packet opens with the next sequence number (R330, R341). -/
def State.openPacket (s : State) (q : Nat) : State :=
  let seq := s.rd QU_SEQ.NEXT_SEQ q
  let x := s.queue q
  (s.countWrap QU_SEQ.NEXT_SEQ 1 q).setQu q
    { x with packer := List.replicate (s.quWidth q) 0
             pkts := x.pkts ++ [⟨seq, 0, false, false, false, s.belowMark q seq, false, 1, none⟩] }

/-- A word begins a line of the packet: the queue needs room, and the packet's size must fit the host ring (R331). -/
inductive Take where
  | taken | held | ring
  deriving DecidableEq, Repr

/-- A word enters the open packet, opening one where none is open (R328, R330). -/
def State.takeWord (s : State) (q data : Nat) (last : Bool) : Take × State :=
  let w := s.quWidth q
  let s := match (s.queue q).openPkt with
    | some p => if 16777215 < p.len + w then s.closePkt q true else s
    | none => s
  let fresh := (s.queue q).openPkt.isNone
  let dup := match (s.queue q).openPkt with
    | some p => p.dup
    | none => s.belowMark q (s.rd QU_SEQ.NEXT_SEQ q)
  let newLine := !dup && (s.queue q).packer.isEmpty
  let lines := match (s.queue q).openPkt with
    | some p => p.lines
    | none => 0
  if newLine && decide (2 ^ s.rd QU_DATA_RING.DATA_LOG2 q < 64 * (lines + 1)) then (.ring, s)
  else if newLine && !(s.trySwap q).fillRoom q then (.held, (s.trySwap q).startSpill q)
  else
    let s := if newLine then s.trySwap q else s
    let s := if fresh then s.openPacket q else s
    let x := s.queue q
    match x.openPkt with
    | none => (.taken, s)
    | some p =>
      let p := { p with len := p.len + w, lines := if newLine && !fresh then p.lines + 1 else p.lines }
      if p.dup then
        let t := s.setQu q ({ x with packer := [] }.setLast p)
        (.taken, if last then t.closePkt q false else t)
      else
        let bytes := x.packer ++ bytesOf w data
        if last then (.taken, (s.setQu q ({ x with packer := bytes }.setLast p)).closePkt q false)
        else if bytes.length = 64 then
          (.taken, (s.setQu q ({ x with packer := [] }.setLast p)).placeLine q bytes ⟨p.seq, 64, decide (p.lines = 1), false, false⟩)
        else (.taken, s.setQu q ({ x with packer := bytes }.setLast p))

/-- Held words enter while they can (R333); a packet larger than the host ring halts the queue (R331). -/
def State.feed (s : State) (q : Nat) : Nat → State
  | 0 => s
  | k + 1 =>
    match (s.queue q).waiting with
    | [] => s
    | w :: r =>
      match s.takeWord q w.1 w.2 with
      | (.taken, t) => State.feed (t.updQu q (fun x => { x with waiting := r })) q k
      | (.held, t) => t
      | (.ring, t) => t.haltQueue q 3

/-- The queue moves on after a change: held words enter, packets settle. -/
def State.moveOn (s : State) (q : Nat) : State :=
  if s.quUp q ∧ (s.quState q = 1 ∨ s.quState q = 2) then (s.feed q (s.queue q).waiting.length).settleQu q else s.checkDrained q

/-! ### Down queues (R336 to R339, R341) -/

/-- The number of the end's bound queue kind agrees with the accessing master (R338). -/
def State.boundTo (s : State) (q : Nat) (m : Master) : Bool :=
  match m with
  | .engine e p => decide (s.rd QU_END.KIND q = 0) && decide (s.rd QU_END.UNIT q = e) && decide (s.rd QU_END.PORT q = p)
  | .stope n => decide (s.rd QU_END.KIND q = 1) && decide (s.rd QU_END.UNIT q = n)
  | _ => false

/-- The end is told that a down packet has closed (R339, 16 R426). -/
def State.tellEnd (s : State) (q : Nat) : State :=
  let u := s.rd QU_END.UNIT q
  match s.rd QU_END.KIND q with
  | 0 => s.emit (.access 644 (0x010005020000 + u * 0x40000 + TR_QNOTE.PORT.off) 4 true false (s.rd QU_END.PORT q) false)
  | 1 =>
    if s.on QU_END.NOTE_EN q then
      s.emit (.access 644 (0x010010010000 + u * 0x100000 + s.rd QU_END.NOTE_OFS q) 4 true false q false)
    else s
  | _ => s

/-- The first doorbell's packet, which is being fetched. -/
def Queue.fetching (x : Queue) : Option QPkt := (x.pkts.getLast?).filter (fun p => !p.closed)

/-- The packet of the first doorbell closes (R336). -/
def State.closeDown (s : State) (q : Nat) : State :=
  let x := s.queue q
  match x.openPkt with
  | none => s
  | some p =>
    let t := s.setQu q ({ x with doorbells := x.doorbells.tail, asked := 0, arrived := 0 }.setLast { p with closed := true })
    let t := if s.rd QU_CTRL.HMODE q = 0 then t.countWrap QU_POS.DATA_TAIL (64 * lineCount (s.quWidth q) p.len) q else t
    ((t.count QU_STATS.PACKETS 1 q).tellEnd q).trySwap q

/-- A down packet takes its sequence number (R336). -/
def State.openDown (s : State) (q len : Nat) : State :=
  let seq := s.rd QU_SEQ.NEXT_SEQ q
  (s.countWrap QU_SEQ.NEXT_SEQ 1 q).updQu q (fun x =>
    { x with pkts := x.pkts ++ [⟨seq, len, false, false, false, false, false, 0, none⟩] })

/-- The doorbell's packet is in the fill bank already (R337): it closes without a fetch where it fits. -/
def State.directPacket (s : State) (q len : Nat) : State :=
  let w := s.quWidth q
  let n := lineCount w len
  let s := (s.updQu q (fun x => { x with doorbells := x.doorbells ++ [len] })).openDown q len
  let x := s.queue q
  match x.openPkt with
  | none => s
  | some p =>
    let a := s.bankAddr q (s.fillBank q) + 64 * x.fill.length
    let t := s.storeBytes a (bytesOf w p.lengthWord)
    let tags := (List.range n).map (fun i =>
      (⟨p.seq, if i + 1 = n then w + len - 64 * i else 64, decide (i = 0), decide (i + 1 = n), false⟩ : QLine))
    (t.setQu q { x with fill := x.fill ++ tags }).closeDown q

/-- The packet's lines by address, in order, with poison: of a closed down packet, wherever they lie. -/
def State.pktLines (s : State) (q seq : Nat) : List (Nat × QLine) :=
  let x := s.queue q
  let at_ := fun (a : Nat) (l : List QLine) => ((List.range l.length).zip l).map (fun p => (a + 64 * p.1, p.2))
  let all := at_ (s.bankAddr q (s.drainBank q) + 64 * x.drainPos) x.drain
    ++ ((List.range x.spill.length).flatMap (fun k => at_ (s.spillAddr q k) (x.spill.getD k [])))
    ++ at_ (s.bankAddr q (s.fillBank q)) x.fill
  all.filter (fun p => decide (p.2.seq = seq) && decide (p.2.valid ≠ 0))

/-- The payload of a down packet. -/
def State.pktPayload (s : State) (q : Nat) (p : QPkt) : List Nat :=
  (((s.pktLines q p.seq).flatMap (fun l => s.loadBytes l.1 64)).drop (s.quWidth q)).take p.len

/-- The end has finished a down packet (R334). -/
def State.finishDown (s : State) (q : Nat) (p : QPkt) : State :=
  let t := s.updQu q (fun x => { x with
    popped := 0
    notices := if s.on QU_IRQ.DN_NOTICE q then x.notices ++ [⟨p.seq, 0, p.len, p.poison, p.trunc, p.spilled⟩] else x.notices })
  t.checkDrained q

/-- The next replay record of a down queue (R341). -/
def State.replayPkt (s : State) (q : Nat) : Option (Nat × List Nat) :=
  s.sampler.replay.findSome? (fun r => match r with
    | .packet q' seq _ d => if q' = q then some (seq, d) else none
    | .commit .. => none)

/-- The first packet record of a queue leaves the replay list. -/
def dropReplay (q : Nat) : List LogRecord → List LogRecord
  | [] => []
  | .packet q' seq t d :: r => if q' = q then r else .packet q' seq t d :: dropReplay q r
  | .commit n b t k :: r => .commit n b t k :: dropReplay q r

/-- Word `i` of a packet whose bytes after the slot are `d` (R328). -/
def wordAt (w i : Nat) (d : List Nat) : Nat :=
  (List.range w).foldl (fun v k => v + (d.getD (w * (i - 1) + k) 0) * 2 ^ (8 * k)) 0

/-- The next word that the end would take (R338, R341), with its poison; none where no closed packet waits. -/
def State.nextWord (s : State) (q : Nat) : Option (Nat × Bool) :=
  let w := s.quWidth q
  match s.replayPkt q with
  | some (seq, d) =>
    let i := (s.queue q).popped
    some (if i = 0 then QPkt.lengthWord ⟨seq, d.length, false, false, false, false, true, 0, none⟩ else wordAt w i d, false)
  | none =>
    let x := s.queue q
    match x.pkts with
    | p :: _ =>
      if p.closed then
        let k := w * x.popped
        match (s.pktLines q p.seq)[0]? with
        | some (a, l) => some (s.load (a + k % 64) w, l.poison)
        | none => none
      else none
    | [] => none

/-- The end takes the next word (R338). -/
def State.popWord (s : State) (q : Nat) : Option ((Nat × Bool) × State) :=
  let w := s.quWidth q
  match s.replayPkt q with
  | some (seq, d) =>
    (s.nextWord q).map (fun word =>
      let x := s.queue q
      if w * x.popped < d.length then (word, s.setQu q { x with popped := x.popped + 1 })
      else
        let t := s.smp (fun y => { y with replay := dropReplay q y.replay })
        let t := t.finishDown q ⟨seq, d.length, false, false, false, false, true, 0, none⟩
        (word, t.put QU_STATUS.REPLAYING (t.replayPkt q).isSome q))
  | none =>
    let s := s.advance q
    match (s.queue q).pkts with
    | [] => none
    | p :: r =>
      if !p.closed then none
      else
        (s.nextWord q).map (fun word =>
          let s := if (s.queue q).popped = 0 then s.logRecord (.packet q p.seq s.tally (s.pktPayload q p)) else s
          let s := if word.2 then s.wr QU_STATUS.POISON_SEEN 1 q else s
          let x := s.queue q
          let p := { p with poison := p.poison || word.2 }
          let k := x.popped + 1
          let done := decide (p.len ≤ w * (k - 1))
          let lineOut := done || decide ((w * k) % 64 = 0)
          let x := if lineOut then { x with drain := x.drain.drop 1, drainPos := x.drainPos + 1 } else x
          if done then (word, ((s.setQu q { x with pkts := r }).finishDown q p).advance q)
          else (word, s.setQu q { x with popped := k, pkts := p :: r }))

/-- The end abandons the packet it was taking (R340, R341): its lines are discarded in place. -/
def State.dropTaken (s : State) (q : Nat) (notice : Bool) : State :=
  let x := s.queue q
  let w := s.quWidth q
  if x.popped = 0 then s
  else match s.replayPkt q with
  | some (seq, d) =>
    let t := s.smp (fun y => { y with replay := dropReplay q y.replay })
    let t := t.setQu q { x with popped := 0 }
    let t := t.put QU_STATUS.REPLAYING (t.replayPkt q).isSome q
    if notice then (t.wr QU_STATUS.TRUNC_SEEN 1 q).finishDown q ⟨seq, min d.length (w * (x.popped - 1)), true, false, false, false, true, 0, none⟩
    else t
  | none =>
    match x.pkts with
    | [] => s.setQu q { x with popped := 0 }
    | p :: r =>
      let y := { x with pkts := r, popped := 0 }.tags (fun l => if l.seq = p.seq then { l with valid := 0 } else l)
      let t := s.setQu q y
      let t := if notice then (t.wr QU_STATUS.TRUNC_SEEN 1 q).finishDown q { p with len := min p.len (w * (x.popped - 1)), trunc := true } else t
      t.advance q

/-! ### Ends that reset (R340) -/

/-- The device-side ends that can reset. -/
inductive QueueEnd where
  | stope (n : Nat)
  | engine (e : Nat)
  deriving DecidableEq, Repr

/-- The queue is bound to the end. -/
def State.endsAt (s : State) (q : Nat) (e : QueueEnd) : Bool :=
  match e with
  | .engine k => decide (s.rd QU_END.KIND q = 0) && decide (s.rd QU_END.UNIT q = k)
  | .stope n => decide (s.rd QU_END.KIND q = 1 ∨ s.rd QU_END.KIND q = 2) && decide (s.rd QU_END.UNIT q = n)

/-- The queues that hold or move anything: those with hidden state, and those not DISABLED. -/
def State.liveQueues (s : State) : List Nat := (List.range 4096).filter (fun q => decide (s.quState q ≠ 0))

/-- A bin's link starts over: the controller holds a grant of 16 words and has reported its free entries (R323). -/
def State.openLink (s : State) (n b : Nat) : State :=
  s.setBinEnd n b ⟨[], 16, [], 2048 - (Tab.get .empty (s.stope n).ports.queues b).count, 0⟩

/-- An end resets (R340; 16 R426): the open up packet closes truncated, the down packet begun is discarded, a bin's link
starts over. -/
def State.endReset (s : State) (e : QueueEnd) : State :=
  (s.liveQueues.filter (fun q => s.endsAt q e)).foldl (fun s q =>
    let s := s.updQu q (fun x => { x with waiting := [] })
    let s := if s.quUp q then s.closePkt q true else s.dropTaken q true
    if s.rd QU_END.KIND q = 2 then s.openLink (s.rd QU_END.UNIT q) (s.rd QU_END.PORT q) else s) s

/-- After an ENGINE reset, one notice for each closed packet that waits in a down queue bound to the engine (16 R426). -/
def State.resendNotices (s : State) (e : Nat) : State :=
  (s.liveQueues.filter (fun q => s.endsAt q (.engine e) && !s.quUp q)).foldl (fun s q =>
    ((s.queue q).pkts.filter (fun p => p.closed)).foldl (fun s _ => s.tellEnd q) s) s

/-- A load that covers a stope completes: a bound bin whose mode does not match its queue halts it (R324 END). -/
def State.checkBinEnds (s : State) (n : Nat) : State :=
  (s.liveQueues.filter (fun q => decide (s.rd QU_END.KIND q = 2) && decide (s.rd QU_END.UNIT q = n))).foldl (fun s q =>
    let mode := Tab.get 0 (s.stope n).cfg.binMode (s.rd QU_END.PORT q)
    if mode = (if s.quUp q then 2 else 3) then s else s.haltQueue q 5) s

/-! ### Samples and restores (R341, 11 R304) -/

/-- The queue state that a sample keeps: the next sequence number of every queue (R341). -/
def State.queueSeqs (s : State) (up : Bool) : List (Nat × Nat) :=
  ((List.range 4096).filter (fun q => decide (s.quUp q = up) && decide (s.rd QU_SEQ.NEXT_SEQ q ≠ 0))).map
    (fun q => (q, s.rd QU_SEQ.NEXT_SEQ q))

/-- An up queue abandons its open packet (R341): its lines leave the banks and the spill ring, and `DATA_TAIL` returns to
its slot. -/
def State.abandonOpen (s : State) (q : Nat) : State :=
  let x := s.queue q
  match x.openPkt with
  | none => s.setQu q { x with waiting := [] }
  | some p =>
    let keep := fun (l : List QLine) => l.filter (fun k => decide (k.seq ≠ p.seq))
    let y := { x with drain := keep x.drain, fill := keep x.fill, spill := (x.spill.map keep).filter (fun e => !e.isEmpty)
                      pkts := x.pkts.dropLast, packer := [], waiting := [] }
    let t := s.setQu q y
    match p.slotPos with
    | some pos => t.wr QU_POS.DATA_TAIL pos q
    | none => t

/-- Every down queue discards the rest of the packet its end had begun to take, without a notice (R341). -/
def State.queuesDrop (s : State) : State :=
  (List.range 4096).foldl (fun s q => if s.quUp q then s else s.dropTaken q false) s

/-- The queues at a group restore (R341, 11 R304). `seqs` are the up queues' numbers at `E`. -/
def State.queuesRestore (s : State) (seqs : List (Nat × Nat)) (rewind : Bool) : State :=
  (List.range 4096).foldl (fun s q =>
    if s.quUp q then
      let s := s.abandonOpen q
      if rewind then
        let next := s.rd QU_SEQ.NEXT_SEQ q
        let s := if s.belowMark q next then s else s.wr QU_SEQ.DROP_MARK next q
        s.wr QU_SEQ.NEXT_SEQ (Tab.get 0 seqs q) q
      else s.wr QU_SEQ.DROP_MARK 0 q
    else s.put QU_STATUS.REPLAYING (rewind && (s.replayPkt q).isSome) q) s

end Sys2Proof.Machine
end

