-- ==== Sys2Proof/Machine/BinLink.lean ====
section
/-! DEFINITION. The bin queue controller and its link to the Cage's queue engine (05 R133, 12 R323). -/

namespace Sys2Proof.Machine

/-- The queue bound to a bin in its direction and ACTIVE (R322). -/
def State.binQueue (s : State) (n b : Nat) (up : Bool) : Option Nat :=
  (List.range 4096).find? (fun q => decide (s.quState q = 1) && decide (s.rd QU_END.KIND q = 2)
    && decide (s.rd QU_END.UNIT q = n) && decide (s.rd QU_END.PORT q = b) && decide (s.quUp q = up))

/-- A word moved by the controller changes the count that the fabric sees: at once, or at the boundary while `LOG_EN` is
1 (11 R297). -/
def State.binMoved (s : State) (n b old : Nat) (d : Int) : State :=
  if s.on WD_SMP_CTRL.LOG_EN then
    s.smp (fun x => { x with moved := Tab.set Key.lt 0 x.moved ⟨0, n, b⟩ (Tab.get 0 x.moved ⟨0, n, b⟩ + d) })
  else s.levelCheck n b old ((s.stope n).queue b).count

/-- UP: the controller pops a word into its run while it holds a grant and the run has room (R323). -/
def State.binUpMove (s : State) (n b : Nat) : State :=
  let e := s.binEnd n b
  let count := ((s.stope n).queue b).count
  if e.grant = 0 ∨ count = 0 ∨ 16 ≤ e.run.length ∨ (e.run.getLast?.map (fun w => w.2)).getD false then s
  else
    let (w, t) := s.queuePop n b 3
    (t.setBinEnd n b { e with run := e.run ++ [w], grant := e.grant - 1 }).binMoved n b count (-1)

/-- DOWN: the controller pushes a received word into the bin (R133, R323). -/
def State.binDownMove (s : State) (n b : Nat) : State :=
  let e := s.binEnd n b
  let count := ((s.stope n).queue b).count
  match e.inbuf with
  | [] => s
  | w :: r =>
    if 2048 ≤ count ∨ s.journalFull n b (((s.stope n).queue b).wp / 2) then s
    else ((s.setBinEnd n b { e with inbuf := r }).queuePush n b w 3 false).binMoved n b count 1

/-- Words sent to a DOWN controller, up to `k` (R323): never more than it reported free. -/
def State.binSend (s : State) (q n b : Nat) : Nat → State
  | 0 => s
  | k + 1 =>
    let e := s.binEnd n b
    if e.credit = 0 then s
    else match s.popWord q with
    | none => s
    | some (w, t) =>
      State.binSend (t.setBinEnd n b { e with inbuf := e.inbuf ++ [w.1], credit := e.credit - 1 }) q n b k

/-- A run of words between the two arrives (R323), or its error halts the queue (R324). -/
def State.binLink (s : State) (n b : Nat) (error : Bool) : State :=
  let mode := (s.stope n).bqmode b
  match s.binQueue n b (decide (mode = 2)) with
  | none => s
  | some q =>
    if !s.inUse n ∨ (mode ≠ 2 ∧ mode ≠ 3) then s
    else if error then s.haltQueue q 6
    else if mode = 2 then
      let e := s.binEnd n b
      let t := (s.updQu q (fun x => { x with waiting := x.waiting ++ e.run })).moveOn q
      -- the queue engine grants 16 more once nothing is held
      let g := if (t.queue q).waiting.isEmpty && decide (e.grant = 0) then 16 else e.grant
      t.setBinEnd n b { e with run := [], grant := g }
    else s.binSend q n b 16

end Sys2Proof.Machine
end

