-- ==== Sys2Proof/Machine/Cage.lean ====
section
/-! DEFINITION. The Cage: link, configuration space, DMA, queues, notices, MSI-X (12 R313 to R343). Host memory requests
stand in Host.lean, over the register windows. -/

namespace Sys2Proof.Machine

/-- The network interface a master sends from (13 R345). -/
def masterNi : Master → Nat
  | .host => 644
  | .lamp => 661
  | .foreman => 661
  | .control => 661
  | .stope n => n
  | .engine e _ => 653 + e / 8
  | .crew c => 653 + c
  | .periphery k => 640 + k

/-- An error flag of the Cage sets; going from 0 to 1 it posts an event where enabled (R342). -/
def State.cgErr (s : State) (f : Fld) : State :=
  let b := f.lsb
  let t := s.wr f 1
  if !s.on f && s.bit CG_IRQ.EN b then t.requestVector (s.rd CG_IRQ.VECTOR) else t

/-! ### Link and configuration space -/

/-- PERST_RELEASE (R317). -/
def execPerstRelease (s : State) : Res := .next { s with clk := { s.clk with perst := false } }

/-- DATA_LINK_UP (R314): speed code, width; a x2 partner trains at x1. With the ROOT clocks gated or in limp mode the Cage is down
(02 R49, R51). -/
def execDataLinkUp (speed width : Nat) (flit : Bool) (s : State) : Res :=
  .next
    (if s.clk.perst ∨ !s.rootRuns ∨ s.on CG_LINK.UP ∨ speed < 3 ∨ 6 < speed ∨ width ∉ [1, 2, 4, 8, 16] then s
     else
       let w := if width = 2 then 1 else width
       let low := decide (speed < 6 ∨ w < 16)
       let t := ((s.wr CG_LINK.SPEED speed).wr CG_LINK.WIDTH w).put CG_LINK.FLIT flit
       let t := (t.wr CG_LINK.UP 1).put CG_LINK.DEGRADED low
       (if low then t.post 2 0x0020 1 (t.raw CG_LINK.regs) else t).flushPending)

/-- A base address register as it reads (01 R36): BAR0 is 64-bit and not prefetchable, 2 GiB; BAR2 is 64-bit and prefetchable, of its size; BAR4
reads zero. The address that the host gave is its own: a free value `v`. -/
def State.barRead (s : State) (ofs v : Nat) : Nat :=
  if ofs = 0x10 then 4 + v % 2 ^ 32 / 2 ^ 31 * 2 ^ 31
  else if ofs = 0x18 then 12 + v % 2 ^ 32 / 2 ^ 30 * 2 ^ 30 % 2 ^ 32 / 2 ^ min 32 (30 + s.cage.bar2) * 2 ^ min 32 (30 + s.cage.bar2)
  else if ofs = 0x1C then v % 2 ^ 32 / 2 ^ (30 + s.cage.bar2 - 32) * 2 ^ (30 + s.cage.bar2 - 32)
  else if ofs = 0x20 ∨ ofs = 0x24 then 0
  else v

/-- What a configuration read answers, and the state after (R316). Contents that only PCI Express defines are free. -/
def State.configRead (s : State) : ConfigOp → Nat × State
  | .readIds => (s.rd CG_ID.VENDOR + 0x0640 * 2 ^ 16, s)
  | .readClass => (s.rd CG_ID.REVISION + 0x120000 * 2 ^ 8, s)
  | .readSubsystem => (s.rd CG_ID.VENDOR + s.draw 16 * 2 ^ 16, s.drawn)
  | .readSerial => (s.rd FM_ID.SERIAL, s)
  | .readBar2Size => (s.cage.bar2, s)
  | .readOther ofs => (s.barRead ofs (s.draw 32), s.drawn)
  | _ => (0, s)

/-- `CG_BAR2_BASE` ignores the bits below the size of BAR2 (01 R37). -/
def State.bar2Mask (s : State) (v : Nat) : Nat := (v % 1024) / 2 ^ s.cage.bar2 * 2 ^ s.cage.bar2

/-- What a configuration write changes. -/
def State.configWrite (s : State) : ConfigOp → State
  | .busMaster on => (s.put CG_BASE.BME on).flushPending
  | .msixControl en fm => ({ s with msix := { s.msix with enable := en, functionMask := fm } }).flushPending
  | .bar2Size n =>
    if n ≤ 10 then
      let t := s.cg (fun c => { c with bar2 := n })
      t.wr CG_BAR2_BASE.BASE (t.bar2Mask (t.rd CG_BAR2_BASE.BASE))
    else s
  | .maxPayload n => if 7 ≤ n ∧ n ≤ 9 then s.cg (fun c => { c with maxPayload := 2 ^ n }) else s
  | .maxRead n => if 7 ≤ n ∧ n ≤ 12 then s.cg (fun c => { c with maxRead := 2 ^ n }) else s
  | .relaxedOrdering on => s.cg (fun c => { c with relaxed := on })
  | _ => s

/-- A configuration request that reads. -/
def configReads : ConfigOp → Bool
  | .readIds | .readClass | .readSubsystem | .readSerial | .readBar2Size | .readOther _ => true
  | _ => false

/-- CONFIG_REQUEST (R317): Request Retry Status until `BASE_DONE`; also on a halted part (R320). -/
def execConfigRequest (op : ConfigOp) (s : State) : Res :=
  .next
    (if !s.on CG_LINK.UP then s
     else if !s.on CG_BASE.BASE_DONE then s.emit (.configCompletion 2 0)
     else if configReads op then
       let (v, t) := s.configRead op
       t.emit (.configCompletion 0 v)
     else (s.configWrite op).emit (.configCompletion 0 0))

/-- BASE_TIMEOUT (R317). -/
def execBaseTimeout (s : State) : Res :=
  .next (if s.clk.perst ∨ s.on CG_BASE.BASE_DONE then s else (s.wr CG_BASE.BASE_DONE 1).wr CG_BASE.BASE_LATE 1)

/-- LINK_DOWN (R319): the MSI-X capability returns to its reset state, DMA reads in flight go, queues that move data
halt. -/
def execLinkDown (s : State) : Res :=
  .next
    (if !s.on CG_LINK.UP then s
     else
       let t := ((s.wr CG_BASE.BME 0).wr CG_LINK.UP 0).wr CG_LINK.LINK_RESET 1
       let t := { (t.count CG_LINK.DOWN_COUNT) with msix := { Msix.cold with pending := s.msix.pending } }
       let t := t.cg (fun c => { c with bar2 := 0, maxPayload := 128, maxRead := 512, relaxed := true })
       t.liveQueues.foldl (fun t q =>
         let t := t.updQu q (fun x => { x with asked := x.arrived })
         if t.quState q = 3 then t else t.haltQueue q 1) t)

/-! ### DMA (R320, R321) -/

/-- The host ring has room for a line (R331). -/
def State.ringRoom (s : State) (q : Nat) : Bool :=
  decide ((s.rd QU_POS.DATA_TAIL q + 2 ^ 32 - s.rd QU_HOST_HEAD.DATA_HEAD q) % 2 ^ 32 + 64 ≤ 2 ^ s.rd QU_DATA_RING.DATA_LOG2 q)

/-- The queue moves data (R324). -/
def State.moves (s : State) (q : Nat) : Bool := decide (s.quState q = 1 ∨ s.quState q = 2)

/-- Lines of the first doorbell's packet. -/
def State.doorLines (s : State) (q : Nat) : Nat :=
  match (s.queue q).doorbells with
  | [] => 0
  | l :: _ => lineCount (s.quWidth q) l

/-- Lines the fill bank has room for. -/
def State.roomLines (s : State) (q : Nat) : Nat :=
  if s.fillRoom q then s.bankBytes q / 64 - (s.queue q).fill.length else 0

/-- The requester has work for the DMA engine (R321). -/
def State.hasWork (s : State) (q : Nat) : Bool :=
  if q = 4096 then
    decide (1 ≤ s.rd CF_LD_STATUS.STATE) && decide (s.rd CF_LD_STATUS.STATE ≤ 3)
      && ((s.loader.extents.head?).map (fun e => decide (e.space = 0))).getD false
  else if !s.moves q then false
  else if s.quUp q then !((s.advance q).queue q).drain.isEmpty && s.ringRoom q
  else
    decide (s.rd QU_CTRL.HMODE q = 0) && decide ((s.queue q).asked = (s.queue q).arrived)
      && decide ((s.queue q).asked < s.doorLines q) && decide (0 < (s.advance q).roomLines q)

/-- A line of an up queue goes to the host ring (R330, R331); false where none may. -/
def State.sendLine (s : State) (q : Nat) (ue : Bool) : Bool × State :=
  let x := s.queue q
  match x.drain with
  | [] => (false, s)
  | l :: r =>
    if !s.ringRoom q then (false, s)
    else
      let tail := s.rd QU_POS.DATA_TAIL q
      let poison := l.poison || ue
      let bytes := s.loadBytes (s.bankAddr q (s.drainBank q) + 64 * x.drainPos) 64
      let t := s.emit (.hostWrite (s.ringAddr q tail) bytes poison s.cage.relaxed)
      let pk := x.pkts.map (fun p =>
        if p.seq = l.seq then { p with poison := p.poison || poison, slotPos := if l.first then some tail else p.slotPos } else p)
      let t := (t.setQu q { x with drain := r, drainPos := x.drainPos + 1, pkts := pk }).countWrap QU_POS.DATA_TAIL 64 q
      (!l.last, if poison then (t.cgErr CG_ERR_STATUS.EP_TX).wr QU_STATUS.POISON_SEEN 1 q else t)

/-- Lines go out until the packet ends, 4 KiB have gone, or none may (R321). -/
def State.sendLines (s : State) (q : Nat) (ue : Bool) : Nat → State
  | 0 => s
  | k + 1 =>
    let (more, t) := s.sendLine q ue
    if more then State.sendLines t q false k else t

/-- Host reads of a run of ring bytes: at most the Max Read Request Size, none across a 4 KiB boundary (R321). -/
def State.readRun (s : State) (q pos len : Nat) : Nat → State
  | 0 => s
  | k + 1 =>
    if len = 0 then s
    else
      let c := min len (min s.cage.maxRead (4096 - pos % 4096))
      State.readRun (s.emit (.hostRead q (s.ringAddr q pos) c)) q (pos + c) (len - c) k

/-- DMA_TURN (R321): the next requester after the last one served moves one packet or 4 KiB. `corrected` and
`uncorrectable` are what the buffer's check bits find on the way (R327). -/
def execDmaTurn (corrected : Nat) (uncorrectable : Bool) (s : State) : Res :=
  .next
    (if !s.hostReach then s
     else
       let order := (List.range 4097).map (fun i => (s.cage.rr + 1 + i) % 4097)
       match order.find? s.hasWork with
       | none => s
       | some q =>
         let s := s.cg (fun c => { c with rr := q })
         if q = 4096 then
           match s.loader.extents with
           | e :: _ => s.emit (.hostRead q (e.addr + e.taken) (min 4096 (e.len - e.taken)))
           | [] => s
         else if s.quUp q then
           let s := s.count CG_ERR_STATUS.BUF_CE corrected
           let s := if uncorrectable then s.cgErr CG_ERR_STATUS.BUF_UE else s
           ((s.advance q).sendLines q uncorrectable 64).moveOn q
         else
           let s := s.advance q
           let len := (s.queue q).doorbells.headD 0
           let s := if (s.queue q).asked = 0 then s.openDown q len else s
           let x := s.queue q
           let n := min (min (s.doorLines q - x.asked) (s.roomLines q)) 64
           (s.setQu q { x with asked := x.asked + n }).readRun q (s.rd QU_POS.DATA_TAIL q + 64 * x.asked) (64 * n) 128)

/-- A line of the packet being fetched arrives (R336). -/
def State.fetchedLine (s : State) (q : Nat) (bytes : List Nat) (poison : Bool) : State :=
  let x := s.queue q
  match x.openPkt with
  | none => s
  | some p =>
    let w := s.quWidth q
    let n := lineCount w p.len
    let i := x.arrived
    let valid := if i + 1 = n then w + p.len - 64 * i else 64
    let b := if i = 0 then bytesOf w p.lengthWord ++ bytes.drop w else bytes
    let t := s.setQu q ({ x with arrived := i + 1 }.setLast { p with poison := p.poison || poison })
    let t := t.placeLine q (b.take 64) ⟨p.seq, valid, decide (i = 0), decide (i + 1 = n), poison⟩
    if i + 1 = n then t.closeDown q else t

/-- Fetched lines arrive one after the other. -/
def State.fetchedLines (s : State) (q : Nat) (data : List Nat) (poison : Bool) : Nat → State
  | 0 => s
  | k + 1 =>
    if data.isEmpty ∨ (s.queue q).asked ≤ (s.queue q).arrived then s
    else State.fetchedLines (s.fetchedLine q (data.take 64) poison) q (data.drop 64) poison k

/-- DMA_COMPLETION (R320, R321): status 0 good, 1 Completion Timeout, 2 Unsupported Request or Completer Abort. -/
def execDmaCompletion (queue status : Nat) (data : List Nat) (poison : Bool) (s : State) : Res :=
  need (queue ≤ 4096)
    (if s.halted then s
     else
       let t := if status = 1 then s.cgErr CG_ERR_STATUS.CPL_TIMEOUT
         else if status ≠ 0 then s.cgErr CG_ERR_STATUS.CPL_ERR
         else if poison then s.cgErr CG_ERR_STATUS.EP_RX else s
       let x := t.queue queue
       if queue = 4096 ∨ !t.moves queue ∨ x.asked ≤ x.arrived then t
       else if status ≠ 0 then
         -- the packet being fetched is not delivered; held lines of it go
         let y := { (x.tags (fun l => if some l.seq = x.openPkt.map (fun p => p.seq) then { l with valid := 0 } else l)) with
           pkts := if x.openPkt.isSome then x.pkts.dropLast else x.pkts
           doorbells := x.doorbells.tail, asked := 0, arrived := 0 }
         (t.setQu queue y).haltQueue queue 2
       else
         let t := if poison then t.wr QU_STATUS.POISON_SEEN 1 queue else t
         t.fetchedLines queue data poison 64)

/-! ### Queue commands (R324 to R326) -/

/-- Two queues' ends are the same (R322). -/
def State.sameEnd (s : State) (q r : Nat) : Bool :=
  decide (s.rd QU_END.KIND q = s.rd QU_END.KIND r) && decide (s.rd QU_END.UNIT q = s.rd QU_END.UNIT r)
    && (decide (s.rd QU_END.KIND q = 1) || decide (s.rd QU_END.PORT q = s.rd QU_END.PORT r))

/-- The end is in range (R322). -/
def State.endExists (s : State) (q : Nat) : Bool :=
  let u := s.rd QU_END.UNIT q
  match s.rd QU_END.KIND q with
  | 0 => decide (u < 64)
  | 1 => decide (u < 640)
  | 2 => decide (u < 640)
  | _ => false

/-- ENABLE may be accepted (R325). -/
def State.enableOk (s : State) (q : Nat) : Bool :=
  let lg := s.rd QU_CTRL.BANK_LOG2 q
  let base := s.rd QU_BUF.BASE q * 256
  let up := s.quUp q
  let ring := up || decide (s.rd QU_CTRL.HMODE q = 0)
  let dl := s.rd QU_DATA_RING.DATA_LOG2 q
  let nb := s.rd QU_SPILL.NBANKS q
  let others := s.liveQueues.filter (fun r => decide (r ≠ q))
  s.ready 1 && decide (8 ≤ lg ∧ lg ≤ 20) && decide (base % 2 ^ lg = 0) && decide (base + 2 * 2 ^ lg ≤ 0x2000000)
    && others.all (fun r =>
      let b := s.rd QU_BUF.BASE r * 256
      decide (base + 2 * 2 ^ lg ≤ b ∨ b + 2 * s.bankBytes r ≤ base))
    && s.endExists q && others.all (fun r => !(s.sameEnd q r && decide (s.quUp r = up)))
    && !(up && s.on QU_CTRL.HMODE q)
    && (!ring || decide (max 12 (lg + 1) ≤ dl ∧ dl ≤ 31))
    && decide (4 ≤ s.rd QU_NOTICE_RING.NOTICE_LOG2 q ∧ s.rd QU_NOTICE_RING.NOTICE_LOG2 q ≤ 16)
    && (decide (nb = 0) || (s.on CG_SPILL_AREA.OK
      && decide (s.rd QU_SPILL.OFS q * 4096 + nb * 2 ^ lg ≤ s.rd CG_SPILL_AREA.SIZE * 0x200000)))

/-- ENABLE (R325): from DISABLED or HALTED; in the other states it changes nothing (DEDUCED, log entry 25). -/
def State.queueEnable (s : State) (q : Nat) : State :=
  let st := s.quState q
  if st = 1 ∨ st = 2 then s
  else if !s.enableOk q then s.wr QU_STATUS.CFG_ERR 1 q
  else
    let t := s.wr QU_STATUS.STATE 1 q
    let t := if st = 0 then t.setQu q .cold else t
    let t := if st = 0 ∧ t.rd QU_END.KIND q = 2 then t.openLink (t.rd QU_END.UNIT q) (t.rd QU_END.PORT q) else t
    t.moveOn q

/-- STOP (R326). -/
def State.queueStop (s : State) (q : Nat) : State :=
  if s.quState q = 1 then ((s.wr QU_STATUS.STATE 2 q).settleQu q) else s

/-- ABORT (R326): everything held goes, without notices; numbers and ring positions stay. -/
def State.queueAbort (s : State) (q : Nat) : State :=
  let t := (s.wr QU_STATUS.STATE 0 q).wr QU_STATUS.FLIP_PEND 0 q
  let t := if t.rd QU_END.KIND q = 2 then t.setBinEnd (t.rd QU_END.UNIT q) (t.rd QU_END.PORT q) .cold else t
  t.setQu q .cold

/-- The configuration fields of a QU_ register take a write only in DISABLED; a write that would change one at any other
time sets `CFG_ERR` (R324). -/
def State.quConfig (s : State) (q : Nat) (fs : List Fld) (v : Nat) : State :=
  if s.quState q = 0 then s.setFields fs v q
  else if s.fieldsDiffer fs v q then s.wr QU_STATUS.CFG_ERR 1 q else s

/-- A write of `QU_CTRL` (R324 to R326). -/
def State.writeQuCtrl (s : State) (q v : Nat) : State :=
  let t := s.quConfig q [QU_CTRL.DIR, QU_CTRL.HMODE, QU_CTRL.BANK_LOG2] v
  match v % 4 with
  | 1 => t.queueEnable q
  | 2 => t.queueStop q
  | 3 => t.queueAbort q
  | _ => t

/-- QUEUE_ENABLE: a write of `QU_CTRL` with `CMD` = ENABLE. -/
def execQueueEnable (queue value : Nat) (s : State) : Res := need (queue < 4096) (s.writeQuCtrl queue (value / 4 * 4 + 1))

/-- QUEUE_STOP: a write of `QU_CTRL` with `CMD` = STOP. -/
def execQueueStop (queue value : Nat) (s : State) : Res := need (queue < 4096) (s.writeQuCtrl queue (value / 4 * 4 + 2))

/-- QUEUE_ABORT: a write of `QU_CTRL` with `CMD` = ABORT. -/
def execQueueAbort (queue value : Nat) (s : State) : Res := need (queue < 4096) (s.writeQuCtrl queue (value / 4 * 4 + 3))

/-! ### Windows and doorbells (R336 to R338) -/

/-- A push through a window (R338, 13 R358): accepted, or refused and dropped. Answers the status. -/
def State.push (s : State) (q : Nat) (m : Master) (size word : Nat) (last posted poison : Bool) : Nat × State :=
  if size = s.quWidth q ∧ !poison ∧ s.quUp q ∧ s.boundTo q m ∧ s.quState q = 1 then
    (0, (s.updQu q (fun x => { x with waiting := x.waiting ++ [(word, last)] })).moveOn q)
  else if posted then
    (1, (if s.on QU_STATUS.PUSH_ERR q then s else s.post 2 0x0021 1 q).wr QU_STATUS.PUSH_ERR 1 q)
  else (if size = s.quWidth q then 1 else 5, s)

/-- The response to an access at a QU_ window. -/
def State.quAnswer (s : State) (m : Master) (tag status data : Nat) (poison : Bool) : State :=
  s.emit (.response 644 (masterNi m) tag status data poison)

/-- The push of an engine has reached the Cage (16 R425). -/
def State.sawPush (s : State) (m : Master) : State :=
  match m with
  | .engine e _ => s.pushSeen e
  | _ => s

/-- QU_PUSH (R338). -/
def execQuPush (queue : Nat) (m : Master) (size word tag : Nat) (posted poison : Bool) (s : State) : Res :=
  need (queue < 4096)
    (let (st, t) := (s.sawPush m).push queue m size word false posted poison
     if posted then t else t.quAnswer m tag st 0 false)

/-- QU_PUSH_LAST (R338). -/
def execQuPushLast (queue : Nat) (m : Master) (size word tag : Nat) (posted poison : Bool) (s : State) : Res :=
  need (queue < 4096)
    (let (st, t) := (s.sawPush m).push queue m size word true posted poison
     if posted then t else t.quAnswer m tag st 0 false)

/-- A pop through the window (R338; 16 R425 refuses it where the queue moves no data): status, word, poison. -/
def State.pop (s : State) (q : Nat) (m : Master) (size : Nat) (peek : Bool) : Nat × Nat × Bool × State :=
  if size ≠ s.quWidth q then (5, 0, false, s)
  else if s.quUp q ∨ !s.moves q then (1, 0, false, s)
  else if peek && decide (m = .lamp) then
    match s.nextWord q with
    | some (w, p) => (0, w, p, s)
    | none => (1, 0, false, s)
  else if !s.boundTo q m then (1, 0, false, s)
  else
    match s.popWord q with
    | some ((w, p), t) => (0, w, p, t)
    | none => (1, 0, false, s)

/-- QU_POP (R338). -/
def execQuPop (queue : Nat) (m : Master) (size tag : Nat) (peek : Bool) (s : State) : Res :=
  need (queue < 4096)
    (let (st, w, p, t) := s.pop queue m size peek
     t.quAnswer m tag st w p)

/-- A DIRECT packet fits the rest of the fill bank (R337). -/
def State.directFits (s : State) (q len : Nat) : Bool := decide (lineCount (s.quWidth q) len ≤ s.roomLines q)

/-- A doorbell (R336, R337): pending, closed at once in a DIRECT queue, or dropped. -/
def State.doorbell (s : State) (q len : Nat) : State :=
  let x := s.queue q
  let lines := lineCount (s.quWidth q) len
  if s.quState q ≠ 1 ∨ s.quUp q ∨ 64 ≤ x.doorbells.length then s.wr QU_STATUS.DB_OVF 1 q
  else if s.rd QU_CTRL.HMODE q = 0 then
    if 2 ^ s.rd QU_DATA_RING.DATA_LOG2 q < 64 * lines then s.wr QU_STATUS.DB_OVF 1 q
    else s.setQu q { x with doorbells := x.doorbells ++ [len] }
  else if s.on QU_STATUS.FLIP_PEND q then s.setQu q { x with doorbells := x.doorbells ++ [len] }
  else if s.directFits q len then s.directPacket q len
  else s.wr QU_STATUS.DB_OVF 1 q

/-- Doorbells of a DIRECT queue that waited for the swap (R337). -/
def State.directPending (s : State) (q : Nat) : State :=
  if s.rd QU_CTRL.HMODE q = 1 ∧ !s.on QU_STATUS.FLIP_PEND q then
    let l := (s.queue q).doorbells
    l.foldl (fun t len => t.doorbell q len) (s.updQu q (fun x => { x with doorbells := [] }))
  else s

/-- QU_DOORBELL (R336, R337). -/
def execQuDoorbell (queue len : Nat) (s : State) : Res := need (queue < 4096) (s.doorbell queue len)

/-- A doorbell with `FLIP` (R337): the DIRECT fill bank closes. With a length, or on a queue that is not DIRECT, nothing
is accepted and `CFG_ERR` sets (DESIGN CHOICE, log entry 26). -/
def State.flip (s : State) (q len : Nat) : State :=
  if s.quState q ≠ 1 ∨ s.quUp q then s.wr QU_STATUS.DB_OVF 1 q
  else if s.rd QU_CTRL.HMODE q = 0 ∨ len ≠ 0 then s.wr QU_STATUS.CFG_ERR 1 q
  else ((s.wr QU_STATUS.FLIP_PEND 1 q).trySwap q).directPending q

/-- DOORBELL_FLIP (R337). -/
def execDoorbellFlip (queue len : Nat) (s : State) : Res := need (queue < 4096) (s.flip queue len)

/-! ### Banks (R332, R333) -/

/-- BANK_SWAP (R332). -/
def execBankSwap (queue : Nat) (s : State) : Res :=
  need (queue < 4096) (if s.moves queue then (((s.updQu queue dropDead).trySwap queue).moveOn queue).directPending queue else s)

/-- The packets whose slot lines are in the bank pass through the spill ring (R329). -/
def Queue.markSpilled (x : Queue) : Queue :=
  { x with pkts := x.pkts.map (fun p =>
      if x.fill.any (fun l => l.first && decide (l.seq = p.seq)) then { p with spilled := true } else p) }

/-- SPILL_DONE (R332, R324): the bank's copy is in the ring, or its error halts the queue. -/
def execSpillDone (queue : Nat) (error : Bool) (s : State) : Res :=
  need (queue < 4096)
    (let x := s.queue queue
     if !x.spilling ∨ !s.moves queue then s
     else if error then (s.setQu queue { x with spilling := false }).haltQueue queue 4
     else
       let bytes := s.loadBytes (s.bankAddr queue (s.fillBank queue)) (64 * x.fill.length)
       let t := s.agentStore (s.spillAddr queue x.spill.length) bytes
       let y := x.markSpilled
       let t := (t.setQu queue { y with spill := x.spill ++ [x.fill], fill := [], spilling := false }).count QU_STATS.SPILLS 1 queue
       let t := (y.pkts.filter (fun p => p.closed && p.spilled)).foldl (fun t p => t.writeSlot queue p) t
       t.moveOn queue)

/-- COPY_BACK_DONE (R332, R324). -/
def execCopyBackDone (queue : Nat) (error : Bool) (s : State) : Res :=
  need (queue < 4096)
    (let s := s.updQu queue dropDead
     let x := s.queue queue
     if !s.moves queue ∨ !x.drain.isEmpty ∨ x.spill.isEmpty then s
     else if error then s.haltQueue queue 4
     else (s.tryCopyBack queue).moveOn queue)

/-! ### Notices and MSI-X (R334, R335) -/

/-- A notice as 128 bits (R334). -/
def State.noticeBits (s : State) (q : Nat) (n : QNotice) : Nat :=
  let lg := s.rd QU_NOTICE_RING.NOTICE_LOG2 q
  let tail := s.rd QU_POS.NOTICE_TAIL q
  n.seq + n.ofs * 2 ^ 32 + (n.len % 2 ^ 24) * 2 ^ 64 + b2n n.poison * 2 ^ 88 + b2n n.trunc * 2 ^ 89
    + b2n n.spilled * 2 ^ 90 + b2n (!s.quUp q) * 2 ^ 91 + q * 2 ^ 96 + (1 - tail / 2 ^ lg % 2) * 2 ^ 127

/-- NOTICE_WRITE (R334, R335). -/
def execNoticeWrite (queue : Nat) (s : State) : Res :=
  need (queue < 4096)
    (let x := s.queue queue
     let lg := s.rd QU_NOTICE_RING.NOTICE_LOG2 queue
     let tail := s.rd QU_POS.NOTICE_TAIL queue
     match x.notices with
     | [] => s
     | n :: r =>
       if !s.moves queue ∨ !s.hostReach ∨ (tail + 2 ^ 32 - s.rd QU_HOST_HEAD.NOTICE_HEAD queue) % 2 ^ 32 = 2 ^ lg then s
       else
         let t := s.emit (.hostWrite (s.rd QU_NOTICE_RING.BASE queue * 4096 + 16 * (tail % 2 ^ lg)) (bytesOf 16 (s.noticeBits queue n)) false false)
         let t := if s.quUp queue then t.count QU_STATS.PACKETS 1 queue else t
         let fire := decide (s.rd QU_IRQ.COAL_COUNT queue ≤ x.unsignalled + 1) && s.on QU_IRQ.IRQ_EN queue
         let t := (t.setQu queue { x with notices := r, unsignalled := if fire then 0 else x.unsignalled + 1 }).countWrap QU_POS.NOTICE_TAIL 1 queue
         (if fire then t.requestVector (s.rd QU_IRQ.VECTOR queue) else t).checkDrained queue)

/-- COALESCE_TIMER (R335). -/
def execCoalesceTimer (queue : Nat) (s : State) : Res :=
  need (queue < 4096)
    (if s.on QU_IRQ.COAL_TIME queue && s.on QU_IRQ.IRQ_EN queue && decide (0 < (s.queue queue).unsignalled) then
       (s.updQu queue (fun x => { x with unsignalled := 0 })).requestVector (s.rd QU_IRQ.VECTOR queue)
     else s)

/-- MSIX_GAP_END (R335). -/
def execMsixGapEnd (vector : Nat) (s : State) : Res :=
  need (vector < 2048)
    (let m := Tab.get false s.msix.merged vector
     let t := { s with msix := { s.msix with inGap := Tab.erase s.msix.inGap vector, merged := Tab.erase s.msix.merged vector } }
     if m then t.requestVector vector else t)

/-- MSIX_UNMASK (R335). -/
def execMsixUnmask (vector : Nat) (s : State) : Res :=
  need (vector < 2048)
    (({ s with msix := { s.msix with unmasked := Tab.set natLt false s.msix.unmasked vector true } }).flushPending)

/-- BIN_LINK_WRITE (R323). -/
def execBinLinkWrite (stope bin : Nat) (error : Bool) (s : State) : Res :=
  need (stope < 640 ∧ bin < 16) (s.binLink stope bin error)

end Sys2Proof.Machine
end

