-- ==== Sys2Proof/Machine/Crews.lean ====
section
/-! DEFINITION. A crew's crib and engine memories on their Gallery port, and the hoist (16 R415 to R424, R439). -/

namespace Sys2Proof.Machine

/-! ### Gallery accesses (R416 to R419, R422; 01 R28, R33; 13 R358) -/

/-- The engine whose memory holds an address of the engine windows. -/
def memEngine (a : Nat) : Nat := (a - 0x010005000000) / 0x40000

/-- The crew whose memory holds an address. -/
def memCrew (a : Nat) : Nat := if inCrib a then (a - 0x010004000000) / 0x200000 else memEngine a / 8

/-- The status with which a memory of a crew refuses an access; 0 where it accepts it. -/
def State.crewStatus (s : State) (a : GalAccess) : Nat :=
  let sizeOk := if inCrib a.addr then decide (a.size ∈ [1, 2, 4, 8]) else decide (a.size ∈ [4, 8])
  if !sizeOk || decide (a.addr % a.size ≠ 0) then 5
  else if !a.foreman && !s.ready (30 + memCrew a.addr) then 4
  else if !inCrib a.addr && decide (s.rd TR_STATUS.STATE (memEngine a.addr) = 3) then 4
  else if a.write && a.poison && !inCrib a.addr then 1
  else 0

/-- A collision of the two ports is noted (R418). -/
def State.noteCollision (s : State) (a : Nat) : State :=
  if inCrib a then
    let c := memCrew a
    ((s.wr TR_CRIB_COLL.COLL 1 c).count TR_CRIB_COLL.COLL_COUNT 1 c).wr TR_CRIB_COLL.COLL_WORD (a % 0x200000 / 8) c
  else
    let e := memEngine a
    let t := (s.wr TR_MEM_ECC.COLL 1 e).count TR_MEM_ECC.COLL_COUNT 1 e
    (t.wr TR_MEM_ECC.LAST_WORD (a % 0x10000 / 8) e).put TR_MEM_ECC.LAST_IMEM (decide (a % 0x40000 < 0x10000)) e

/-- The engine-side store of the same Tram cycle, if it was to this word: lanes, word before, word after. -/
def State.collides (s : State) (a : Nat) (sameCycle : Bool) : Option (Nat × Nat × Nat) :=
  if sameCycle then (s.tram.lastStore.find? (fun p => decide (p.1 = a / 8))).map (fun p => p.2) else none

/-- A byte of a word that both ports enable with different data (R418). -/
def lanesClash (m1 v1 m2 v2 : Nat) : Bool :=
  (List.range 8).any (fun i => m1.testBit i && m2.testBit i && decide (bitsOf v1 (8 * i) 8 ≠ bitsOf v2 (8 * i) 8))

/-- The data of a Gallery write where the engine side has stored to the same bytes in the same cycle: those keep the engine
side's (R418). -/
def mergeLanes (addr size data lanes after : Nat) : Nat :=
  (List.range size).foldl (fun v i =>
    v + (if lanes.testBit (addr % 8 + i) then bitsOf after (8 * (addr % 8 + i)) 8 else bitsOf data (8 * i) 8) * 2 ^ (8 * i)) 0

/-- CRIB_GALLERY_ACCESS: `errs` bit errors are found in the word; `sameCycle` where the access meets the last engine-side
store's cycle. -/
def execCribGalleryAccess (a : GalAccess) (errs : Nat) (sameCycle : Bool) (s : State) : Res :=
  need (0x010004000000 ≤ a.addr ∧ a.addr < 0x010006000000 ∧ (inCrib a.addr ∨ a.addr % 0x40000 < 0x20000))
    (let ni := 653 + memCrew a.addr
     let st := s.crewStatus a
     if st ≠ 0 then s.respond ni a.src a.tag st 0 false a.posted
     else
       let s := if inCrib a.addr then s.ungate 1 (memCrew a.addr * 16 + a.addr / 8 % 16) else s
       match a.write, s.collides a.addr sameCycle with
       | false, m =>
         let (bad, t) := s.checkWord a.addr errs 1
         let w := match m with
           | some (_, before, _) => bitsOf before (8 * (a.addr % 8)) (8 * a.size)
           | none => t.load a.addr a.size
         t.respond ni a.src a.tag 0 w bad false
       | true, none => (s.memStore a.addr a.size a.data errs 1 a.poison).respond ni a.src a.tag 0 0 false a.posted
       | true, some (lanes, _, after) =>
         let t := s.memStore a.addr a.size (mergeLanes a.addr a.size a.data lanes after) errs 1 a.poison
         let clash := lanesClash lanes after (laneMask a.addr a.size) (a.data * 2 ^ (8 * (a.addr % 8)))
         (if clash then t.noteCollision a.addr else t).respond ni a.src a.tag 0 0 false a.posted)

/-- CRIB_WRITEBACK (R419): the corrected word is written back. -/
def execCribWriteback (addr : Nat) (s : State) : Res := .next (if s.wordErr addr = 1 then s.setWordErr addr 0 else s)

/-! ### The hoist (R423, R424) -/

/-- The running transfer of a channel. -/
def State.hoist (s : State) (c h : Nat) : Option Hoist := (s.tram.hoists.find? (fun p => decide (p.1 = 4 * c + h))).map (fun p => p.2)

/-- The channel runs nothing. -/
def State.dropHoist (s : State) (c h : Nat) : State :=
  (s.tr (fun t => { t with hoists := t.hoists.filter (fun p => decide (p.1 ≠ 4 * c + h)) })).wr TR_HOIST_STATUS.BUSY 0 c h

/-- A channel stops or refuses: `ERR` with its cause. -/
def State.hoistErr (s : State) (c h cause : Nat) : State := (s.wr TR_HOIST_STATUS.ERR 1 c h).wr TR_HOIST_STATUS.ERR_CAUSE cause c h

/-- A `GO` keeps the rules of R423, by the written value of `TR_HOIST_CTRL`. -/
def State.goOk (s : State) (c h v : Nat) : Bool :=
  let len := bitsOf v 0 22
  let g := s.rd TR_HOIST_GADDR.GADDR c h
  let a := s.rd TR_HOIST_CADDR.CADDR c h
  !s.on TR_HOIST_STATUS.BUSY c h && decide (8 ≤ len ∧ len ≤ 0x200000 ∧ len % 8 = 0 ∧ g % 8 = 0 ∧ a % 8 = 0 ∧ a + len ≤ 0x200000)

/-- A `GO`: the transfer starts, or `ERR` sets with BADGO and nothing changes. -/
def State.hoistGo (s : State) (c h v : Nat) : State :=
  if s.goOk c h v then
    let t := s.setFields TR_HOIST_CTRL.regs (v % 2 ^ 28) c h
    let run : Hoist := ⟨s.rd TR_HOIST_GADDR.GADDR c h, s.rd TR_HOIST_CADDR.CADDR c h, bitsOf v 0 22, v.testBit 22,
      if v.testBit 27 then some (8 * c + bitsOf v 24 3) else none⟩
    let t := t.tr (fun x => { x with hoists := x.hoists ++ [(4 * c + h, run)] })
    (((t.wr TR_HOIST_STATUS.BUSY 1 c h).wr TR_HOIST_STATUS.ERR_CAUSE 0 c h).wr TR_HOIST_STATUS.BYTES 0 c h)
  else s.hoistErr c h 2

/-- HOIST_GO: a write of `TR_HOIST_CTRL` with `GO` = 1. A powered-down crew ignores it (R439). -/
def execHoistGo (crew channel value : Nat) (s : State) : Res :=
  need (crew < 8 ∧ channel < 4) (if s.bit CK_CREW_PWR.ON_STAT crew then s.hoistGo crew channel value else s)

/-- Bytes read by a FETCH go into the crib, word by word; poisoned words with their mark (R424). -/
def State.hoistStore (s : State) (a : Nat) (data poison : List Nat) (i : Nat) : Nat → State
  | 0 => s
  | k + 1 =>
    if data.isEmpty then s
    else
      let v := (data.take 8).reverse.foldl (fun v b => v * 256 + b % 256) 0
      State.hoistStore (s.memStore a 8 v 0 2 (poison.contains i)) (a + 8) (data.drop 8) poison (i + 1) k

/-- The words that a STOW reads that are bad. -/
def State.badWords (s : State) (a len : Nat) : Bool :=
  s.tram.errs.any (fun p => decide (a / 8 ≤ p.1) && decide (p.1 < (a + len) / 8) && decide (2 ≤ p.2))

/-- Bytes of the crib go out by a STOW in accesses within 64-byte lines (R423); a bad word makes its access poisoned. -/
def State.hoistSend (s : State) (c a g len : Nat) : Nat → State
  | 0 => s
  | k + 1 =>
    if len = 0 then s
    else
      let n := min len (64 - g % 64)
      let t := s.emit (.access (653 + c) g n true false (s.load a n) (s.badWords a n))
      State.hoistSend t c (a + n) (g + n) (len - n) k

/-- What a channel has moved when it stops. -/
def State.hoistMoved (s : State) (c h : Nat) (x : Hoist) (r : HoistEnd) : State :=
  let n := min r.bytes x.len / 8 * 8
  let a := cribBase c + x.caddr
  let bad := if x.stow then s.badWords a n else r.poison.any (fun i => decide (i < n / 8))
  let t := if x.stow then s.hoistSend c a x.gaddr n 32769 else s.hoistStore a (r.data.take n) r.poison 0 (n / 8)
  let t := t.wr TR_HOIST_STATUS.BYTES n c h
  if bad then t.wr TR_HOIST_STATUS.POISONED 1 c h else t

/-- HOIST_ABORT: a write of `TR_HOIST_CTRL` with `ABORT` = 1; `r` is what the channel has moved when its accesses in flight
have ended. -/
def execHoistAbort (crew channel : Nat) (r : HoistEnd) (s : State) : Res :=
  need (crew < 8 ∧ channel < 4)
    (match s.hoist crew channel with
     | some x => ((s.hoistMoved crew channel x r).dropHoist crew channel).hoistErr crew channel 3
     | none => s)

/-- The member that a channel notifies (R423, R424). -/
def State.hoistNotify (s : State) (x : Hoist) : State :=
  match x.notify with
  | some e => if s.rd TR_STATUS.STATE e = 3 then s else s.putBit TR_IRQ_PEND.PEND 3 true e
  | none => s

/-- HOIST_DONE: the last access of a channel has completed, or an error response has stopped it. -/
def execHoistDone (crew channel : Nat) (r : HoistEnd) (s : State) : Res :=
  need (crew < 8 ∧ channel < 4)
    (match s.hoist crew channel with
     | some x =>
       if r.fail then ((s.hoistMoved crew channel x r).dropHoist crew channel).hoistErr crew channel 1
       else (((s.hoistMoved crew channel x { r with bytes := x.len }).dropHoist crew channel).wr TR_HOIST_STATUS.DONE 1 crew channel).hoistNotify x
     | none => s)

/-- A crew power-down stops every channel of the crew (R424). -/
def State.stopHoists (s : State) (c : Nat) : State :=
  (List.range 4).foldl (fun s h =>
    match s.hoist c h with
    | some _ => (s.dropHoist c h).hoistErr c h 4
    | none => s) s

end Sys2Proof.Machine
end

