-- ==== Sys2Proof/Machine/EngineReset.lean ====
section
/-! DEFINITION. The ENGINE reset (00 R13, 02 R56, 16 R438) and the watchdog's (16 R432). -/

namespace Sys2Proof.Machine

/-- An ENGINE reset is accepted (16 R438): cause 1 a request, 2 the watchdog. Accesses without a response are abandoned, queue
ends reset, the reservation and the post FIFO clear. -/
def State.startEngineReset (s : State) (e cause : Nat) : State :=
  let t := (s.wr TR_STATUS.STATE 3 e).wr TR_STATUS.RST_CAUSE cause e
  let t := if cause = 2 then t.count TR_STATUS.WDOG_RESETS 1 e else t
  let t := (t.wr CK_RST_STATUS.ENGINE_BUSY 1).wr CK_RST_STATUS.LAST_ENGINE e
  let t := t.gl (fun g => { g with held := g.held.filter (fun r => decide (r.engine ≠ some e)) })
  let t := t.updEng e (fun x => { x with wait := none, resv := none, posts := [], dbg := 0, haltDue := false, stores := [] })
  (({ t with clk := { t.clk with engineReset := some e } }).endReset (.engine e)).ungate 0 e

/-- An engine's registers take their cold values, those it keeps apart (16 R440). -/
def State.coldEngine (s : State) (e : Nat) (all : Bool) : State :=
  ({ s with regs := s.regs.filter (fun p =>
      !(decide (Fld.idBlock p.1.id = Block.tr.code ∧ p.1.unit = e) && (all || !Fld.idKeepUnit p.1.id))) }).setEng e .cold

/-- The ENGINE reset completes (16 R438): HELD, cold values, `IMEM_STALE` set; a watchdog reset that waited starts (16 R432). -/
def State.finishEngineReset (s : State) (e : Nat) : State :=
  let t := (s.coldEngine e false).wr CK_RST_STATUS.ENGINE_BUSY 0
  let t := { t with clk := { t.clk with engineReset := none } }
  let t := t.tr (fun x => { x with resend := x.resend.filter (fun k => decide (k ≠ e)) ++ [e] })
  match t.tram.wdogWait with
  | k :: r => (t.tr (fun x => { x with wdogWait := r })).startEngineReset k 2
  | [] => t

/-- The watchdog resets the engine; while another engine's reset runs, it waits (16 R432). -/
def State.wdogReset (s : State) (e : Nat) : State :=
  match s.clk.engineReset with
  | some _ => s.tr (fun x => { x with wdogWait := x.wdogWait.filter (fun k => decide (k ≠ e)) ++ [e] })
  | none => s.startEngineReset e 2

/-- The engine is HELD or in RESET (02 R62, 16 R436). -/
def State.engineIdle (s : State) (e : Nat) : Bool := decide (s.rd TR_STATUS.STATE e = 0 ∨ s.rd TR_STATUS.STATE e = 3)

end Sys2Proof.Machine
end

