-- ==== Sys2Proof/Machine/IoOps.lean ====
section
/-! DEFINITION. Pin settings, VCCIO classes, the management bank's owners and inputs (21 R529 to R538). -/

namespace Sys2Proof.Machine

/-- The pins of management block `k` at the location its enable register selects (R535). -/
def State.mgPins (s : State) (k : Nat) : List Nat :=
  let span := fun (a n : Nat) => (List.range n).map (fun i => a + i)
  match k with
  | 0 => span 0 6
  | 1 => [6]
  | 2 => [7, 8]
  | 3 => span 16 14
  | 4 => if s.on IO_MG_EN.TIME_LOC then span 10 6 else span 32 6
  | 5 => if s.on IO_MG_EN.TRACE_LOC then span 16 9 else span 40 9
  | _ => span 56 8

/-- Block `k` is enabled; FLASH always is (R536). -/
def State.mgEnabled (s : State) (k : Nat) : Bool :=
  match k with
  | 0 => true
  | 1 => s.on IO_MG_EN.ALERT
  | 2 => s.on IO_MG_EN.I2C
  | 3 => s.on IO_MG_EN.ETH
  | 4 => s.on IO_MG_EN.TIME
  | 5 => s.on IO_MG_EN.TRACE
  | _ => s.on IO_MG_EN.AIN

/-- The blocks that hold their pins, in the order of priority (R536). -/
def State.mgHolders (s : State) : List Nat :=
  (List.range 7).foldl (fun l k =>
    if s.mgEnabled k && (s.mgPins k).all (fun p => l.all (fun h => !(s.mgPins h).contains p)) then l ++ [k] else l) []

/-- The owner code of a management pin: 0 GPIO, 1 + k for block k. -/
def State.mgOwner (s : State) (p : Nat) : Nat := ((s.mgHolders.find? (fun k => (s.mgPins k).contains p)).map (· + 1)).getD 0

/-- The pins that feed TIME_IN`i` (R537): the TIME block's, and GPIO pins by `ALT_IN`. -/
def State.timeFeeds (s : State) (i : Nat) : List Nat :=
  (List.range 64).filter (fun p =>
    let o := s.mgOwner p
    (decide (o = 5) && decide ((s.mgPins 4)[i]? = some p)) || (decide (o = 0) && decide (s.rd IO_MPIN.ALT_IN 0 p = i + 1)))

/-- Ownership and conflicts as `IO_MG_STATUS` and the pins show them (R536, R537). -/
def State.showMg (s : State) : State :=
  let held := s.mgHolders
  let bits := fun (l : List Nat) => l.foldl setBit 0
  let t := (s.wr IO_MG_STATUS.OWNED (bits held)).wr IO_MG_STATUS.BLOCKED
    (bits ((List.range 7).filter (fun k => s.mgEnabled k && !held.contains k)))
  let t := (List.range 64).foldl (fun t p => t.wr IO_MPIN.OWNER (s.mgOwner p) 0 p) t
  let c := bits ((List.range 2).filter (fun i => decide (2 ≤ (s.timeFeeds i).length)))
  (t.wr IO_MG_STATUS.CONFLICT c).wr IO_MG_STATUS.CONFLICT_SEEN (t.rd IO_MG_STATUS.CONFLICT_SEEN ||| c)

/-- A write of `IO_MG_EN` (R538): the pins change hands. -/
def State.writeMgEn (s : State) (v : Nat) : State :=
  (s.setFields [IO_MG_EN.ALERT, IO_MG_EN.I2C, IO_MG_EN.ETH, IO_MG_EN.TIME, IO_MG_EN.TIME_LOC, IO_MG_EN.TRACE, IO_MG_EN.TRACE_LOC, IO_MG_EN.AIN] v).showMg

/-- The threshold does not suit the bank's class (R533). -/
def thrMismatch (thr cls : Nat) : Bool := (decide (thr = 1) && decide (cls ≠ 2)) || (decide (thr = 2) && decide (cls ≠ 0))

/-- Pins of a bank: 48, or 64 in the management bank (16). -/
def bankPins (b : Nat) : Nat := if b = 16 then 64 else 48

/-- The threshold of a pin. -/
def State.pinThr (s : State) (b j : Nat) : Nat := if b = 16 then s.rd IO_MPIN.THR 0 j else s.rd IO_PIN.THR b j

/-- A write of a pin's settings (R533, R534); bank 16 is the management bank. -/
def State.writePin (s : State) (b j v : Nat) : State :=
  let thr := bitsOf v 5 2
  if thr = 3 ∨ (b = 16 ∧ bitsOf v 11 2 = 3) then s.wr IO_BANK_STATUS.CFG_ERR 1 b
  else
    let t := if thrMismatch thr (s.rd IO_BANK_STATUS.CLASS b) then s.wr IO_BANK_STATUS.THR_MISMATCH 1 b else s
    if b = 16 then
      (t.setFields [IO_MPIN.PULL, IO_MPIN.DRIVE, IO_MPIN.SLEW, IO_MPIN.THR, IO_MPIN.HYST, IO_MPIN.ANALOG, IO_MPIN.GPIO_OE, IO_MPIN.GPIO_OUT, IO_MPIN.ALT_IN] v 0 j).showMg
    else
      let t := t.setFields [IO_PIN.PULL, IO_PIN.DRIVE, IO_PIN.SLEW, IO_PIN.THR, IO_PIN.HYST, IO_PIN.ANALOG, IO_PIN.SAFE] v b j
      if t.on IO_PIN.ANALOG b j then t.updPin b j (fun p => { p with input := false }) else t

/-- The VCCIO class of a measured voltage in mV (R531); an unpowered bank keeps its last class. -/
def vccioClass (mv : Nat) : Nat :=
  if 1700 ≤ mv ∧ mv ≤ 1900 then 0 else if 2375 ≤ mv ∧ mv ≤ 2625 then 1 else if 3000 ≤ mv ∧ mv ≤ 3600 then 2 else 3

/-- The Foreman has measured a bank's VCCIO (R531, R533). -/
def State.setClass (s : State) (b mv : Nat) : State :=
  if mv < 1700 ∨ 3600 < mv then s
  else
    let c := vccioClass mv
    let t := s.wr IO_BANK_STATUS.CLASS c b
    if (List.range (bankPins b)).any (fun j => thrMismatch (s.pinThr b j) c) then t.wr IO_BANK_STATUS.THR_MISMATCH 1 b else t

/-- The rail bit of a bank follows the detection (R529). -/
def State.bankRail (s : State) (b : Nat) (v : Bool) : State :=
  if b = 16 then s.put CK_RAIL_STATUS.MGMT_GOOD v else s.putBit CK_RAIL_STATUS.BANK_GOOD b v

/-- The pins of a user bank leave fabric control (R527). -/
def State.bankSafe (s : State) (b : Nat) : State :=
  s.pins.foldl (fun t p => if p.1 / 48 = b then t.updPin b (p.1 % 48) (fun x => { x with fabric := false, input := false }) else t) s

/-- What the part drives on a management pin as far as its state says (R535): a GPIO output, ALERT_N low (18 R475), TIME_OUT (19 R502). -/
def State.mgDrive (s : State) (p : Nat) : Option Bool :=
  match s.mgOwner p with
  | 0 => if s.on IO_MPIN.GPIO_OE 0 p then some (s.on IO_MPIN.GPIO_OUT 0 p) else none
  | 2 => if s.on FM_SENS_STATUS.ALERT then some false else none
  | 5 => ((List.range 4).find? (fun j => decide ((s.mgPins 4)[2 + j]? = some p))).map (fun j => s.shift.out.testBit j)
  | _ => none

/-- The level on a management pad (R533): what the part drives, else what lies outside. -/
def State.mgLevel (s : State) (p : Nat) : Bool :=
  if s.rd IO_BANK_STATUS.STATE 16 ≠ 2 ∨ s.on IO_MPIN.ANALOG 0 p then false
  else (s.mgDrive p).getD (Config.padLevel (768 + p) s.freeCount)

end Sys2Proof.Machine
end

