-- ==== Sys2Proof/Machine/StopeOps.lean ====
section
/-! DEFINITION. A stope's configuration frames, what happens when it leaves use or loses its configuration, scrub
passes, and what a STOPE reset does (06 R167 to R173, 07 R179 to R197, 02 R57). -/

namespace Sys2Proof.Machine

/-! ### Configuration frames -/

/-- Word `w` of a frame as loaded. -/
def State.frameWord (s : State) (n f w : Nat) : Nat := Tab.get 0 s.frames ⟨n, f, w⟩

/-- The bits of a stored frame word that differ from the loaded one, check bits above bit 63. -/
def State.frameMask (s : State) (n f w : Nat) : Nat := Tab.get 0 s.frameErr ⟨n, f, w⟩

/-- The fabric takes what the frame as stored configures, upset bits included (03 R104). -/
def State.applyFrame (s : State) (n f : Nat) : State :=
  let words := (List.range 64).map (fun w => s.frameWord n f w ^^^ (s.frameMask n f w % 2 ^ 64))
  s.updStope n (fun x => { x with cfg := (frameItems n f words).foldl StopeCfg.apply x.cfg })

/-- A frame written with fresh check bits (06 R161). -/
def State.writeFrame (s : State) (n f : Nat) (words : List Nat) : State :=
  let t := (List.range 64).foldl (fun s w =>
    { s with frames := Tab.set Key.lt 0 s.frames ⟨n, f, w⟩ (words.getD w 0 % 2 ^ 64)
             frameErr := Tab.erase s.frameErr ⟨n, f, w⟩ }) s
  t.applyFrame n f

/-- A stored bit of a frame word inverts. -/
def State.flipFrame (s : State) (n f w mask : Nat) : State :=
  { s with frameErr := Tab.set Key.lt 0 s.frameErr ⟨n, f, w⟩ (s.frameMask n f w ^^^ mask) }

/-- The configuration memory of a stope is cleared (06 R167, R169): its cells output 0 and its state bits are OFF. -/
def State.clearFrames (s : State) (n : Nat) : State :=
  let t := { s with frames := s.frames.filter (fun p => decide (p.1.id ≠ n)), frameErr := s.frameErr.filter (fun p => decide (p.1.id ≠ n)) }
  t.updStope n (fun x => { x with
    cfg := .none, q := [], staged := [], regs := [], regsBefore := [], recv := [], taps := [], trig := []
    ports := .cleared, qrdy := [], portOut := [] })

/-- Address of a frame in the frame shadow (06 R172). -/
def State.shadowAddr (s : State) (n f : Nat) : Nat :=
  s.rd CF_SHADOW_BASE.BASE * 2 ^ 21 + (n * 4608 + f) * 512

/-- The words of a frame in the shadow. -/
def State.shadowWords (s : State) (n f : Nat) : List Nat :=
  (List.range 64).map (fun w => s.load (s.shadowAddr n f + 8 * w) 8)

/-- The stope and frame of a frame address (06 R160); none where it breaks the range rules. -/
def frameAddr (a : Nat) : Option (Nat × Nat) :=
  let st := bitsOf a 22 8
  let f := bitsOf a 9 13
  if a % 512 ≠ 0 ∨ 160 ≤ st ∨ 4608 ≤ f then none else some (bitsOf a 30 2 * 160 + st, f)

/-! ### The seam paths (06 R165, R178; 07 R203) -/

/-- Frames waiting in the FIFO of a seam. -/
def Loader.inSeam (l : Loader) (seam : Nat) : List FrameJob := l.fifo.filter (fun j => decide (j.stope / 160 = seam))

/-- A stope of the seam is in REFILL: the path rewrites its frames (07 R203). -/
def State.refilling (s : State) (seam : Nat) : Bool := s.stopes.any (fun p => decide (p.1 / 160 = seam) && p.2.refill.isSome)

/-- `CF_SEAM_STATUS` of every seam follows the FIFOs and the re-fills (06 R178). -/
def State.showSeams (s : State) : State :=
  (List.range 4).foldl (fun t k =>
    let n := (s.loader.inSeam k).length
    (t.wr CF_SEAM_STATUS.FIFO n k).put CF_SEAM_STATUS.BUSY (decide (n ≠ 0) || s.refilling k) k) s

/-! ### Leaving use -/

/-- Every target access held in a stope port or waiting for it ends with TARGET (07 R561, 01 R34). -/
def State.endTargets (s : State) (n : Nat) : State :=
  let x := s.stope n
  (x.target.toList ++ x.targetWait).foldl (fun t a => t.respond n a.src a.tag 1 0 false a.posted)
    (s.updStope n (fun x => { x with target := none, targetWait := [] }))

/-- The stope leaves use (07 R181, R561): pins to their safe state, target accesses end. -/
def State.leaveUse (s : State) (n : Nat) : State := (s.endTargets n).pinsSafe n

/-- The stope's part of the draining sample is not finished (11 R290). -/
def State.sampling (s : State) (n : Nat) : Bool :=
  match s.sampler.draining with
  | some k => decide (n ∈ (s.slotData k).stopes)
      && (s.sampler.drain.any (fun p => decide (n ∈ p.2)) || s.on ST_MEM_JRNL.ARMED n)
  | none => false

/-- A stope that enters RESET, POWERED DOWN or LOADING (11 R290, R302; 07 R182, R561): it leaves use, its sample fails,
its held responses are dropped, and a restore of it is abandoned. -/
def State.stopeDown (s : State) (n : Nat) : State :=
  let t := s.leaveUse n
  let t := if t.sampling n then t.failSample 3 else t
  let t := t.updStope n (fun x => { x with masters := x.masters.filter (fun m => m.resp.isNone) })
  if n ∈ t.sampler.backfill then
    let t := t.smp (fun x => { x with backfill := x.backfill.filter (fun m => decide (m ≠ n)) })
    let t := t.wd (fun w => { w with cmd := w.cmd.map (fun c => { c with result := 7 }) })
    if t.sampler.backfill.isEmpty then (t.smp (fun x => { x with restoring := none })).cmdEnd else t
  else t

/-- An abort begins (06 R169, R171); the error is recorded when it ends. -/
def State.loadAbort (s : State) (err pos : Nat) : State :=
  let t := s.wr CF_LD_STATUS.STATE 4
  { t with loader := { s.loader with abort := some (err, pos), fifo := [], stalled := [], segs := [] } }.showSeams

/-- A STOPE reset or a power-down of a stope of the set aborts the load (06 R170). -/
def State.loadInterrupt (s : State) (n : Nat) : State :=
  let st := s.rd CF_LD_STATUS.STATE
  if (st = 2 ∨ st = 3) ∧ n ∈ s.loader.set then s.loadAbort 17 s.loader.received else s

/-- A STOPE reset or a power-down of the stope is accepted (02 R57, R61; 06 R170). -/
def State.stopeLeaves (s : State) (n : Nat) : State := (s.loadInterrupt n).stopeDown n

/-- The stope becomes unconfigured and its shadow copy invalid (06 R167, R173); a re-fill of its columns is over. -/
def State.unconfigure (s : State) (n : Nat) : State :=
  let t := ((s.clearFrames n).wr ST_REPAIR.REFILL 0 n).updStope n (fun x => { x with refill := none })
  (t.putVec CF_CONFIGURED.CONF n false).scrubsMeet n

/-- A power-down of the stope takes effect on its state (02 R61): unconfigured; the contents of its memories are lost and
not stated (log entry 19). -/
def State.losePower (s : State) (n : Nat) : State :=
  let t := s.unconfigure n
  let t := { t with fabMem := t.fabMem.filter (fun p => decide (p.1.unit ≠ n)), fabErr := t.fabErr.filter (fun p => decide (p.1.unit ≠ n)) }
  (t.updStope n (fun x => { x with lost := some s.freeCount, journals := [], writebacks := [] })).drawn

/-- The registers of a stope's block that a STOPE reset returns to their cold values. -/
def State.coldStopeRegs (s : State) (n : Nat) : State :=
  { s with regs := s.regs.filter (fun p =>
      !(decide (Fld.idBlock p.1.id = Block.st.code) && decide (p.1.unit = n) && !(Fld.idKeepUnit p.1.id))) }

/-- Words that a bin queue of the stope has moved and not committed are forgotten: its queues are empty (05 R137, R147). -/
def State.dropMoved (s : State) (n : Nat) : State := s.smp (fun x => { x with moved := x.moved.filter (fun p => decide (p.1.unit ≠ n)) })

/-- A bin queue as the commits of the last boundary left it: words moved since are not part of it (11 R285, R297). -/
def State.committedQueue (s : State) (n b : Nat) : BinQueue :=
  let q := (s.stope n).queue b
  let d := s.uncommitted n b
  if 0 ≤ d then { q with wp := (q.wp + 2048 - d.toNat % 2048) % 2048, count := q.count - d.toNat }
  else { q with rp := (q.rp + 2048 - d.natAbs % 2048) % 2048, count := q.count + d.natAbs }

/-- COPY-OUT of a stope: the state after the commits of the boundary (03 R75, 11 R285). -/
def State.copyOutStope (s : State) (n : Nat) : State :=
  let queues := (List.range 16).foldl (fun t b => Tab.set natLt .empty t b (s.committedQueue n b)) []
  s.updStope n (fun x => let y := copyOut x; { y with shadowPorts := { y.shadowPorts with queues := queues } })

/-- The STOPE reset line is high (04 R116, R118; 05 R147; 02 R59): `INIT` values, registers 0, shadows clear, queues
empty, the tree on PHASE and waiting for the device boundary. A tree on STEP, or on its way there, returns to PHASE through a switch. -/
def State.stopeResetState (s : State) (n : Nat) : State :=
  let back := s.on ST_TREE_STATUS.SRC_CUR n || (s.stope n).switchTo.isSome
  let t := (s.coldStopeRegs n).dropMoved n
  let t := if back then (t.wr ST_TREE_STATUS.SRC_CUR (s.rd ST_TREE_STATUS.SRC_CUR n) n).wr ST_TREE_STATUS.SWITCHING 1 n
    else t.wr ST_TREE_STATUS.HOLD_SYNC 1 n
  t.updStope n (fun x => { initBits x with
    staged := [], shadow := [], regs := [], regsBefore := [], ports := .cleared, shadowPorts := .cleared, qrdy := []
    journals := [], recv := [], taps := [], trig := [], switchTo := if back then some 0 else none
    capturesOff := false, portOut := [], writebacks := [], sweep := [] })

end Sys2Proof.Machine
end

