-- ==== Sys2Proof/Machine/Loader.lean ====
section
/-! DEFINITION. The Ibeus loader (06): extents, header, segments, commands, completion, abort, the diagnostic load,
readback. A command that the loader does not wait for has no effect. -/

namespace Sys2Proof.Machine

/-- The loader changed. -/
def State.ld (s : State) (g : Loader → Loader) : State := { s with loader := g s.loader }

/-- `STATE` of the loader (R166). -/
def State.ldState (s : State) : Nat := s.rd CF_LD_STATUS.STATE

/-- `CF_EXT_STATUS` follows the FIFO (R177). -/
def State.showExtents (s : State) : State :=
  let n := s.loader.extents.length
  (s.wr CF_EXT_STATUS.FREE (64 - n)).wr CF_EXT_STATUS.HELD n

/-- A load begins from the extent FIFO (R166). -/
def State.loadStart (s : State) : State :=
  let t := s.ld (fun l => { Loader.cold with
    extents := l.extents, lastPushed := l.lastPushed, diag := l.diag, readback := l.readback })
  (((t.wr CF_LD_STATUS.STATE 1).wr CF_LD_STATUS.ERR 0).wr CF_LD_PROGRESS.SEGS 0).wr CF_LD_PROGRESS.FRAMES 0

/-- START (R166, R175; 15 R406): ignored outside IDLE, on a halted part, and from another master while the Foreman's
diagnostic load runs. -/
def execStart (byForeman : Bool) (s : State) : Res :=
  .next (if s.ldState ≠ 0 ∨ s.halted ∨ (s.loader.diag.isSome ∧ !byForeman) then s.wr CF_LD_STATUS.START_ERR 1 else s.loadStart)

/-- ABORT (R166, R169). -/
def execAbort (s : State) : Res :=
  .next (if 1 ≤ s.ldState ∧ s.ldState ≤ 3 then s.loadAbort 15 s.loader.received else s)

/-- EXTENT_PUSH (R164): the extent at `CF_EXT_ADDR` enters the FIFO, or `EXT_ERR` sets. -/
def execExtentPush (len space : Nat) (last byForeman : Bool) (s : State) : Res :=
  let addr := s.rd CF_EXT_ADDR.ADDR
  let bad := decide (addr % 64 ≠ 0) || decide (len = 0) || (!last && decide (len % 64 ≠ 0))
    || decide (64 ≤ s.loader.extents.length) || decide (3 ≤ space) || (decide (space = 2) && !byForeman) || s.loader.lastPushed
  .next
    (if bad then s.wr CF_LD_STATUS.EXT_ERR 1
     else (s.ld (fun l => { l with extents := l.extents ++ [⟨addr, len, space, last, 0⟩], lastPushed := last })).showExtents)

/-- Stream bytes that the next item needs (R150): the header, the staged segments, or the next segment header. -/
def State.streamNeed (s : State) : Nat :=
  let l := s.loader
  if s.ldState = 1 then 256
  else if l.received < l.pos then l.pos
  else match l.header with
    | some h => if l.nextSeg < h.segments ∨ h.segments = 0 then l.pos + 32 else 0
    | none => 0

/-- The `LAST` extent has ended before the stream (R164): END, at the number of bytes received. -/
def State.truncation (s : State) : State :=
  if (s.ldState = 1 ∨ s.ldState = 2) ∧ s.loader.lastDone ∧ s.loader.received < s.streamNeed then s.loadAbort 14 s.loader.received
  else s

/-- Bytes that the staging buffers still take (R165): four segments are staged at most. -/
def Loader.room (l : Loader) : Nat := if l.segs.length < 4 then 2 ^ 32 else l.pos - l.received

/-- A GALLERY extent's bytes: those of the gallery's memories, with the control NI's reads of at most 64 bytes each (R164, R165). -/
def State.galleryExtent (s : State) (a n : Nat) : List Nat × State :=
  (s.loadBytes a n, (List.range ((n + 63) / 64)).foldl (fun t i => t.emit (.access 661 (a + 64 * i) (min 64 (n - 64 * i)) false false 0 false)) s)

/-- EXTENT_READ_DATA (R164, R165): bytes of the extent being read arrive, or its read fails: an error response, poisoned data or a flash read
error. HOST and FLASH bytes are the operand; a GALLERY extent reads as many of the gallery's own, 64 reads of 64 bytes at most. -/
def execExtentReadData (data : List Nat) (error : Bool) (s : State) : Res :=
  .next
    (match s.loader.extents with
     | [] => s
     | e :: r =>
       if s.ldState ≠ 1 ∧ s.ldState ≠ 2 then s
       else
         let m := min data.length (min (e.len - e.taken) s.loader.room)
         let m := if e.space = 1 then min m 4096 else m
         if error ∨ (e.space = 1 ∧ s.agentBad (e.addr + e.taken) m) then s.loadAbort 13 s.loader.received
         else
           let (bytes, s) := if e.space = 1 then s.galleryExtent (e.addr + e.taken) m else ((data.take m).map (fun b => b % 256), s)
           let done := decide (e.taken + m = e.len)
           ((s.ld (fun l => { l with
             extents := if done then r else { e with taken := e.taken + m } :: r
             stream := l.stream ++ bytes, lastDone := l.lastDone || (done && e.last)
             fromFlash := l.fromFlash && decide (e.space = 2) })).showExtents).truncation)

/-! ### The layouts of the stream (R151, R154, R158) -/

/-- `n` bytes of a list from offset `o`, as a little-endian number (R150). -/
def le (b : List Nat) (o n : Nat) : Nat := (List.range n).foldl (fun v i => v + b.getD (o + i) 0 % 256 * 2 ^ (8 * i)) 0

/-- The 64-bit words of a run of bytes. -/
def wordsOf (b : List Nat) (n : Nat) : List Nat := (List.range n).map (fun i => le b (8 * i) 8)

/-- The stream header's fields at their offsets (R151). -/
def StreamHeader.ofBytes (b : List Nat) : StreamHeader :=
  { magic := le b 0x00 4, version := le b 0x04 2, hlen := le b 0x06 2, kind := le b 0x08 1, f := le b 0x09 1, k := le b 0x0A 1
    keysel := le b 0x0B 1, device := le b 0x0C 2, minstep := le b 0x0E 1, nmin := le b 0x0F 1, streamId := le b 0x10 8
    segments := le b 0x18 4, frames := le b 0x1C 4, length := le b 0x20 8, stopes := le b 0x28 2, flags := le b 0x2A 1
    set := le b 0x30 80, build := le b 0x80 8, reserved := decide (le b 0x2B 5 ≠ 0) || decide (le b 0x88 120 ≠ 0) }

/-- The segment header's fields at their offsets (R154). -/
def SegHeader.ofBytes (b : List Nat) : SegHeader :=
  { index := le b 0x00 4, plen := le b 0x04 4, nonce := le b 0x08 16, sflags := le b 0x18 4, reserved := le b 0x1C 4 }

/-- A command header's fields (R158). -/
def IbeusHdr.ofBytes (b : List Nat) : IbeusHdr :=
  let w := le b 0 16
  { op := bitsOf w 0 8, count := bitsOf w 16 16, addr := bitsOf w 32 32, arg := bitsOf w 64 32
    reserved := decide (bitsOf w 8 8 ≠ 0) || decide (bitsOf w 96 32 ≠ 0) }

/-! ### The stream header (R151 to R153, R167) -/

/-- The stopes of a header's set. -/
def streamSet (h : StreamHeader) : List Nat := (List.range 640).filter h.set.testBit

/-- The error code of a header, 0 where every check of R153 passes, in the rule's order. DESIGN CHOICE (log entry 57): a `KIND` that R151
does not define and the reserved bits of `FLAGS` fail as HEADER, and a `KEYSEL` above 1, which selects no root key, as KEY. -/
def State.headerError (s : State) (h : StreamHeader) : Nat :=
  let full := decide (h.kind = 0)
  let set := streamSet h
  if h.magic ≠ 0x55454249 ∨ h.version ≠ 1 ∨ h.hlen ≠ 256 ∨ 2 ≤ h.kind ∨ h.reserved ∨ 2 ≤ h.flags then 1
  else if h.device ≠ 0x640 ∨ s.rd CG_ID.REVISION < h.minstep then 2
  else if ¬(h.f = 1 ∨ h.f = 2 ∨ h.f = 4) ∨ h.k = 0 ∨ 16 < h.k ∨ h.nmin < 6 ∨ 96 < h.nmin
      ∨ h.nmin < s.rd CK_CLK_STATUS.PHASE_DIV_MIN
      ∨ (¬full ∧ (h.f ≠ s.rd CF_LOADED.F ∨ h.k ≠ s.rd CF_LOADED.K ∨ ¬s.on CF_LOADED.VALID)) then 3
  else if s.halted ∨ 2 ≤ h.keysel ∨ (h.keysel = 1 ∧ s.crypto.owner.isNone)
      ∨ (h.keysel = 0 ∧ ¬s.loader.fromFlash ∧ ¬s.on CF_LD_STATUS.DSK_HOST) then 4
  else if h.stopes ≠ set.length ∨ set.isEmpty ∨ h.frames ≠ 4608 * h.stopes ∨ set.any (fun n => !s.powered n)
      ∨ set.any (fun n => !s.ready (26 + n / 160))
      ∨ (full ∧ (¬s.winderStopped ∨ ¬[26, 27, 28, 29].all s.ready))
      ∨ (¬full ∧ set.any (fun n => !(decide (s.stopeState n = 0) || decide (s.stopeState n = 2)) || s.on ST_STATUS.ISO_PEND n)) then 5
  else if ¬s.on CF_SHADOW_BASE.SHADOW_OK then 6
  else 0

/-- Every bin and sump of a stope is written with zero (R167 step 3). -/
def State.clearMemories (s : State) (n : Nat) : State :=
  { s with fabMem := s.fabMem.filter (fun p => decide (p.1.unit ≠ n))
           fabErr := s.fabErr.filter (fun p => decide (p.1.unit ≠ n)) }.updStope n (fun x => { x with lost := none, writebacks := [] })

/-- An accepted header (R167). -/
def State.headerAccept (s : State) (h : StreamHeader) : State :=
  let set := streamSet h
  let t := set.foldl (fun t n => t.stopeDown n) s
  let t := if h.kind = 0 then
      (List.range 640).foldl (fun t n => ((t.leaveUse n).clearFrames n).putVec CF_CONFIGURED.CONF n false) t
    else t
  let t := if h.kind = 0 then (t.wr CF_LOADED.VALID 0).windTo 0 else t
  let t := set.foldl (fun t n => ((t.clearFrames n).putVec CF_LOADING.LOADING n true).putVec CF_CONFIGURED.CONF n false) t
  let t := if bitAt h.flags 0 then set.foldl (fun t n => t.clearMemories n) t else t
  let t := (List.range 8).foldl (fun t i => t.scrubMeets i) t
  let root := if h.keysel = 0 then Config.deviceStreamKey else s.crypto.owner.getD 0
  (t.wr CF_LD_STATUS.STATE 2).ld (fun l => { l with header := some h, set := set, pos := 256, key := root })

/-- STREAM_HEADER (R153, R167). -/
def execStreamHeader (_ : Staged) (s : State) : Res :=
  .next
    (if s.ldState ≠ 1 then s
     else if s.loader.received < 256 then s.truncation
     else
       let h := StreamHeader.ofBytes s.loader.stream
       let e := s.headerError h
       if e = 0 then (s.headerAccept h).truncation else s.loadAbort e 0)

/-! ### Segments (R154 to R156) -/

/-- The key of a segment from the one before it (R155). -/
def segmentKey (prev nonce streamId i : Nat) : Nat :=
  let label := [0x49, 0x42, 0x45, 0x55, 0x53, 0x20, 0x53, 0x45, 0x47]
  kdf256 prev label (bytesOf 16 nonce ++ bytesOf 8 streamId ++ bytesOf 4 i)

/-- A segment header breaks R154, at stream offset `pos` as segment `i` of the stream. -/
def SegHeader.bad (h : SegHeader) (g : StreamHeader) (i pos : Nat) : Bool :=
  let last := bitAt h.sflags 0
  decide (h.index ≠ i ∨ h.plen = 0 ∨ 1048576 < h.plen ∨ h.plen % 16 ≠ 0 ∨ 2 ≤ h.sflags ∨ h.reserved ≠ 0
    ∨ last ≠ decide (i + 1 = g.segments) ∨ (last ∧ pos + 48 + h.plen ≠ g.length))

/-- SEGMENT_HEADER (R154, R155): up to four segments are staged. A stream of no segment has none that a header could be: it is refused with
SEGMENT at the first. -/
def execSegmentHeader (_ : Staged) (s : State) : Res :=
  .next
    (match s.loader.header with
     | none => s
     | some g =>
       let l := s.loader
       if s.ldState ≠ 2 ∨ l.ended ∨ (g.segments ≤ l.nextSeg ∧ g.segments ≠ 0) ∨ 4 ≤ l.segs.length then s
       else if l.received < l.pos + 32 then s.truncation
       else
         let h := SegHeader.ofBytes (l.stream.drop l.pos)
         if g.segments = 0 ∨ SegHeader.bad h g l.nextSeg l.pos then s.loadAbort 7 l.pos
         else
           let key := segmentKey l.key h.nonce g.streamId l.nextSeg
           (s.ld (fun l => { l with
             segs := l.segs ++ [⟨l.nextSeg, l.pos, h.plen, key, bitAt h.sflags 0, none⟩], nextSeg := l.nextSeg + 1, pos := l.pos + 48 + h.plen
             key := key })).truncation)

/-- A segment's payload, opened with its key: none where the tag does not match (R155, R156). The stream header is part of the first
segment's AAD. -/
def Loader.openSegment (l : Loader) (streamId : Nat) (g : Segment) : Option (List Nat) :=
  let at_ := fun o n => (l.stream.drop o).take n
  let aad := (if g.index = 0 then at_ 0 256 else []) ++ at_ g.start 32
  (Config.gcmOpen g.key (bytesOf 8 streamId ++ bytesOf 4 g.index) aad (at_ (g.start + 32) g.plen) (at_ (g.start + 32 + g.plen) 16)).map
    (fun p => (List.range g.plen).map (fun i => p.getD i 0 % 256))

/-- The first segment of a list whose tag is not verified. -/
def firstClosed (segs : List Segment) : Option Segment := segs.find? (fun g => g.body.isNone)

/-- SEGMENT_TAG_CHECK (R155, R156): once the oldest unverified segment has arrived its tag is checked; its plaintext is released, or the load
aborts with AUTH. -/
def execSegmentTagCheck (_ : Staged) (s : State) : Res :=
  .next
    (match firstClosed s.loader.segs, s.loader.header with
     | some g, some h =>
       if s.ldState ≠ 2 ∨ s.loader.received < g.start + 48 + g.plen then s
       else match s.loader.openSegment h.streamId g with
         | some p => (s.ld (fun l => { l with segs := l.segs.map (fun q => if q = g then { g with body := some p } else q) })).countWrap CF_LD_PROGRESS.SEGS
         | none => s.loadAbort 8 g.start
     | _, _ => s)

/-! ### Frame commands (R158 to R163) -/

/-- The opcodes of R159. -/
def ibeusOps : List Nat := [0x00, 0x01, 0x02, 0x0F]

/-- The prelude of every command (R158, R159, R163): the next header of the oldest segment, released, is read. A command of another opcode is not
this one's turn; an unknown opcode or a reserved field aborts whatever was expected. `size` is the length of the data, `form` the command's
own form rule; `act` carries it out at its stream offset with its data. DESIGN CHOICE (log entry 95): a `COUNT` out of range and an unused
`ADDR` or `ARG` that is not 0 abort with COMMAND, and a malformed command does so after END too. -/
def State.ibeus (s : State) (op : Nat) (size : IbeusHdr → Nat) (form : IbeusHdr → Bool)
    (act : State → Segment → Nat → IbeusHdr → List Nat → State) : State :=
  match s.loader.segs with
  | [] => s
  | g :: r =>
    match g.body with
    | none => s
    | some b =>
      let pos := g.start + 32 + (g.plen - b.length)
      let h := IbeusHdr.ofBytes b
      if (s.ldState ≠ 2 ∧ s.ldState ≠ 3) ∨ s.loader.stalled ≠ [] ∨ (h.op ≠ op ∧ h.op ∈ ibeusOps) then s
      else if h.op ≠ op ∨ h.reserved ∨ ¬form h ∨ b.length < 16 + size h then s.loadAbort 9 pos
      else if s.loader.ended ∧ op ≠ 0 then s.loadAbort 14 pos
      else
        let rest := b.drop (16 + (size h + 15) / 16 * 16)
        let t := s.ld (fun l => { l with segs := if rest.isEmpty then r else { g with body := some rest } :: r })
        let t := act t g pos h ((b.drop 16).take (size h))
        if t.ldState = 4 then t
        else if rest.isEmpty ∧ g.last ∧ ¬t.loader.ended then t.loadAbort 14 g.start
        else t

/-- NOP (R159). -/
def execNop (_ : Staged) (s : State) : Res :=
  .next (s.ibeus 0x00 (fun h => 16 * h.count) (fun h => decide (h.addr = 0 ∧ h.arg = 0)) (fun t _ _ _ _ => t))

/-- Frames move into the FIFOs of their seams while there is room; the first that finds none stalls all (R165). -/
def pumpFrames (fifo : List FrameJob) : List FrameJob → List FrameJob × List FrameJob
  | [] => (fifo, [])
  | j :: r =>
    if (fifo.filter (fun k => decide (k.stope / 160 = j.stope / 160))).length < 512 then pumpFrames (fifo ++ [j]) r
    else (fifo, j :: r)

/-- The stalled frames enter the FIFOs as far as there is room. -/
def State.pump (s : State) : State :=
  let p := pumpFrames s.loader.fifo s.loader.stalled
  (s.ld (fun l => { l with fifo := p.1, stalled := p.2 })).showSeams

/-- WRITE (R160): the address rules, the set, the sequence; then the frames are dispatched. -/
def execWrite (_ _ : Staged) (s : State) : Res :=
  .next (s.ibeus 0x01 (fun h => 512 * h.count) (fun h => decide (1 ≤ h.count ∧ h.count ≤ 2047 ∧ h.arg = 0)) (fun t _ pos h data =>
    match frameAddr h.addr with
    | none => t.loadAbort 11 pos
    | some (n, f) =>
      if n ∉ t.loader.set then t.loadAbort 10 pos
      else if Tab.get 0 t.loader.nextFrame n ≠ f ∨ 4608 < f + h.count then t.loadAbort 11 pos
      else
        (t.ld (fun l => { l with
          stalled := (List.range h.count).map (fun i => ⟨n, f + i, wordsOf (data.drop (512 * i)) 64, pos⟩)
          nextFrame := Tab.set natLt 0 l.nextFrame n (f + h.count), dispatched := l.dispatched + h.count })).pump))

/-- The fields of a memory address (R162): stope, whether its seam-local index exists, memory id, first unit. -/
def memAddr (a : Nat) : Nat × Nat × Nat := (bitsOf a 30 2 * 160 + bitsOf a 22 8, bitsOf a 17 5, bitsOf a 0 14)

/-- MEMINIT (R162). DESIGN CHOICE (log entry 95): the range rules, with the reserved bits of `ADDR`, are checked before the set, and a seam-local
stope index above 159 lies outside every set. -/
def execMeminit (_ _ : Staged) (s : State) : Res :=
  .next (s.ibeus 0x02 (fun h => 8 * h.count) (fun h =>
      let (_, m, u) := memAddr h.addr
      decide (1 ≤ h.count ∧ h.count ≤ 16384 ∧ h.arg = 0 ∧ bitsOf h.addr 14 3 = 0 ∧ m < 18 ∧ u + h.count ≤ unitsOf m))
    (fun t _ pos h data =>
      let (n, m, u) := memAddr h.addr
      if 160 ≤ bitsOf h.addr 22 8 ∨ n ∉ t.loader.set then t.loadAbort 10 pos
      else (List.range h.count).foldl (fun t i => t.putUnit n m (u + i) (le data (8 * i) 8) 0) t))

/-- END (R163). -/
def execIbeusEnd (_ : Staged) (s : State) : Res :=
  .next (s.ibeus 0x0F (fun _ => 0) (fun h => decide (h.count = 0 ∧ h.addr = 0)) (fun t g pos h _ =>
    let want := (t.loader.header.map (fun x => x.frames)).getD 0
    if ¬g.last ∨ h.arg ≠ want ∨ h.arg ≠ t.loader.dispatched then t.loadAbort 14 pos
    else (t.ld (fun l => { l with ended := true })).wr CF_LD_STATUS.STATE 3))

/-- FRAME_WRITTEN (R161, R165, R172; 03 R103): the seam path decodes its next frame, writes it with fresh check bits, and
the loader issues its eight shadow writes; a frame that the decode rejects aborts the load. What depends on more than one frame is
checked at the stope's last (DEDUCED, log entry 90). -/
def execFrameWritten (seam : Nat) (s : State) : Res :=
  need (seam < 4)
    (match s.loader.inSeam seam with
     | [] => s
     | j :: _ =>
       if s.ldState ≠ 2 ∧ s.ldState ≠ 3 then s
       else
         let f := (s.loader.header.map (fun x => x.f)).getD 1
         let items := frameItems j.stope j.frame j.words
         let cfg := items.foldl StopeCfg.apply (s.stope j.stope).cfg
         if items.any (fun i => i.rejected f) || (decide (j.frame = 4607) && cfg.rejected f) then s.loadAbort 12 j.pos
         else
           let t := (s.writeFrame j.stope j.frame j.words).agentStore (s.shadowAddr j.stope j.frame) (j.words.flatMap wordBytes)
           let t := t.ld (fun l => { l with fifo := l.fifo.erase j, shadowOut := l.shadowOut ++ List.replicate 8 j.pos })
           ((t.countWrap CF_SEAM_STATUS.WRITTEN 1 seam).countWrap CF_LD_PROGRESS.FRAMES).pump)

/-- SHADOW_WRITE_ACK (R172). -/
def execShadowWriteAck (error : Bool) (s : State) : Res :=
  .next
    (match s.loader.shadowOut with
     | [] => s
     | pos :: r =>
       let t := s.ld (fun l => { l with shadowOut := r })
       if error ∧ (s.ldState = 2 ∨ s.ldState = 3) then t.loadAbort 6 pos else t)

/-! ### Completion and abort (R168, R169) -/

/-- A stope of the set becomes configured (R168 steps 2 to 4; 05 R147, 07 R187). -/
def State.stopeLoaded (s : State) (full : Bool) (n : Nat) : State :=
  let t := (s.dropMoved n).updStope n (fun x => { initBits x with
    staged := [], regs := [], regsBefore := [], ports := .cleared, qrdy := [], journals := [], recv := []
    taps := [], trig := [], portOut := [], usePending := true })
  let t := (t.putVec CF_LOADING.LOADING n false).putVec CF_CONFIGURED.CONF n true
  let t := ((t.put ST_STATUS.ISOLATED (!full) n).wr ST_SCRUB.FRAME_LOST 0 n).wr ST_MEM_JRNL.ARMED 0 n
  ((t.wr ST_TREE_STATUS.HOLD_SYNC 1 n).wr ST_TREE_STATUS.LOCAL_CTX 0 n).wr ST_TREE_STATUS.LOCAL_PHASE 0 n

/-- What a FULL load does to the Winder, the samples and the Crosscut (08 R231, 10 R282, 11 R294, R303). -/
def State.fullLoaded (s : State) : State :=
  let t := ((s.wr WD_TALLY.TALLY 0).wr WD_HORIZON.H 0).windTo 1
  let t := (t.wr WD_STATUS.REPLAY_ARMED 0).wr WD_STATUS.REPLAYING 0
  let t := t.wd (fun w => { w with prevTrig := 0, events := [], sampled := false })
  let t := [WD_HOLDS_FRAME.COUNT, WD_HOLDS_GRANT.COUNT, WD_HOLDS_STOPE.COUNT, WD_HOLDS_SAMPLE.COUNT, WD_PHASES.COUNT].foldl
    (fun t f => t.wr f 0) t.refreshStop
  let t := (List.range 16).foldl (fun t k => t.emptySlot k) (t.failSample 3)
  let t := ((t.wr WD_SMP_SEQ.SEQ 0).wr WD_SMP_USE.PJ_ENTRIES 0).wr WD_SMP_USE.LOG_KIB 0
  let t := t.clearStamps.smp (fun x => { x with
    pj := [], log := [], epoch := 0, moved := [], replay := []
    pjDropping := false, logDropping := false, lastAuto := none, autoSlot := none })
  t.xpReset 0 [] true

/-- LOAD_COMPLETE (R168). The log's argument holds `STREAM_ID` alone (18 R477): `BUILD` and the set stand beside it (log entry 96). -/
def execLoadComplete (s : State) : Res :=
  .next
    (match s.loader.header with
     | none => s
     | some h =>
       let l := s.loader
       if s.ldState ≠ 3 ∨ l.segs ≠ [] ∨ l.fifo ≠ [] ∨ l.stalled ≠ [] ∨ l.shadowOut ≠ [] then s
       else
         let full := decide (h.kind = 0)
         let t := if full then
             ((((s.wr CF_LOADED.F h.f).wr CF_LOADED.K h.k).wr CF_LOADED.NMIN h.nmin).wr CF_LOADED.VALID 1).put
               CF_LOADED.DIAG l.diag.isSome
           else s
         let t := if full then t.fullLoaded
           else (List.range 16).foldl (fun t k =>
             if (t.slotData k).stopes.any (fun n => decide (n ∈ l.set)) then t.wr WD_SLOT.STALE_CFG 1 0 k else t) t
         let t := l.set.foldl (fun t n => t.stopeLoaded full n) t
         let t := l.set.foldl (fun t n => (t.endReset (.stope n)).checkBinEnds n) t
         let t := (List.range 8).foldl (fun t i => t.scrubMeets i) t
         let t := ((t.wr CF_LOADED_ID.ID h.streamId).wr CF_LD_STATUS.DONE 1).wr CF_LD_STATUS.STATE 0
         let t := if full then
             let t := if t.stepEnded 30 then t else t.recordStep 30 (if l.diag.isSome then 3 else 1)
             t.wr FM_LOAD_DEADLINE.RUNNING 0
           else t
         let t := (t.ld (fun l => { Loader.cold with readback := l.readback })).showExtents
         (t.fo (fun x => { x with loads := x.loads ++ [(h.streamId, h.build, h.set)] })).post 5 0x0050 0 h.streamId)

/-- A diagnostic copy has failed: the other image's copy is tried, or `DIAG_FAIL` sets (R176). -/
def State.diagFailed (s : State) (d : DiagLoad) (aborted : Bool) (err : Nat) : State :=
  let t := s.post 5 0x0052 2 (d.image + 2 * b2n aborted + 256 * err)
  if d.second then
    let t := if t.stepEnded 30 then t else t.recordStep 30 2
    (t.wr CF_LD_STATUS.DIAG_FAIL 1).ld (fun l => { l with diag := none })
  else t.ld (fun l => { l with diag := some ⟨1 - d.image, true, false⟩ })

/-- ABORT_DONE (R169, R171, R176): the set is unconfigured, the error recorded, the FIFO flushed. -/
def execAbortDone (s : State) : Res :=
  .next
    (match s.loader.abort with
     | none => s
     | some (err, pos) =>
       let l := s.loader
       let t := l.set.foldl (fun t n =>
         ((t.clearFrames n).putVec CF_LOADING.LOADING n false).putVec CF_CONFIGURED.CONF n false) s
       let t := (List.range 8).foldl (fun t i => t.scrubMeets i) t
       let t := ((t.wr CF_LD_STATUS.ERR err).wr CF_LD_ERRPOS.POS pos).wr CF_LD_STATUS.FAILED 1
       let t := (t.wr CF_LD_STATUS.STATE 0).post 5 0x0051 2 (err + 256 * (pos % 2 ^ 56))
       let t := ((t.ld (fun l => { Loader.cold with diag := l.diag, readback := l.readback })).showExtents).showSeams
       match l.diag with
       | some d => if d.loading then t.diagFailed d true err else t
       | none => t)

/-! ### The load deadline and the diagnostic image (R175, R176) -/

/-- The deadline timer expires (R175): a host load aborts with DEADLINE and the Foreman turns to the diagnostic image. -/
def State.deadlineExpires (s : State) : State :=
  let t := (s.wr FM_LOAD_DEADLINE.RUNNING 0).wr FM_LOAD_DEADLINE.EXPIRED 1
  let t := if 1 ≤ s.ldState ∧ s.ldState ≤ 3 then t.loadAbort 16 s.loader.received else t
  t.ld (fun l => { l with diag := some ⟨s.rd FM_BOOT.IMAGE, false, false⟩ })

/-- LOAD_DEADLINE (R175). -/
def execLoadDeadline (s : State) : Res := .next (if s.on FM_LOAD_DEADLINE.RUNNING then s.deadlineExpires else s)

/-- DIAG_SECTION_CHECK (R176): the section of the copy in hand passes, and its FLASH extent is pushed and started; or it
fails. Extents that wait in the FIFO give way to it (DEDUCED, log entry 20). -/
def execDiagSectionCheck (good : Bool) (ofs len : Nat) (s : State) : Res :=
  .next
    (match s.loader.diag with
     | some d =>
       if d.loading ∨ s.ldState ≠ 0 then s
       else if good then
         let ext : Extent := ⟨d.image * 0x8000000 + ofs, len, 2, true, 0⟩
         let t := s.ld (fun l => { l with extents := [ext], lastPushed := true, diag := some { d with loading := true } })
         t.showExtents.loadStart
       else s.diagFailed d false 0
     | none => s)

/-! ### Readback (R174) -/

/-- READBACK (R174). -/
def execReadback (seam faddr : Nat) (s : State) : Res :=
  need (seam < 4)
    (if s.on CF_RB_STATUS.BUSY seam then s.wr CF_RB_STATUS.RB_ERR 1 seam
     else
       let t := s.wr CF_RB_CTRL.FADDR faddr seam
       match frameAddr faddr with
       | some (n, _) =>
         if n / 160 = seam then
           (t.ld (fun l => { l with readback := Tab.insert natLt (Tab.erase l.readback seam) seam faddr })).wr CF_RB_STATUS.BUSY 1 seam
         else t.wr CF_RB_STATUS.RB_ERR 1 seam
       | none => t.wr CF_RB_STATUS.RB_ERR 1 seam)

/-- A frame word as a reader's decode gives it: the word, 1 where it was corrected, 2 where it is uncorrectable. -/
def State.decodeWord (s : State) (n f w : Nat) : Nat × Nat :=
  if 4320 ≤ f then (Config.stateFrame (s.stope n) f w % 2 ^ 64, 0)
  else
    let m := s.frameMask n f w
    if m = 0 then (s.frameWord n f w, 0)
    else if popcount 72 m = 1 then (s.frameWord n f w, 1)
    else (s.frameWord n f w ^^^ (m % 2 ^ 64), 2)

/-- READBACK_DONE (R174). -/
def execReadbackDone (seam : Nat) (s : State) : Res :=
  need (seam < 4)
    (match s.loader.readback.lookup seam with
     | none => s
     | some a =>
       let (n, f) := (frameAddr a).getD (0, 0)
       let ws := (List.range 64).map (fun w => s.decodeWord n f w)
       let t := (List.range 64).foldl (fun t w => t.wr CF_RB_DATA.DATA (ws.getD w (0, 0)).1 seam w) s
       let t := (t.put CF_RB_STATUS.CORRECTED (ws.any (fun x => decide (x.2 = 1))) seam).put CF_RB_STATUS.UNCORR
         (ws.any (fun x => decide (x.2 = 2))) seam
       (t.wr CF_RB_STATUS.BUSY 0 seam).ld (fun l => { l with readback := Tab.erase l.readback seam }))

end Sys2Proof.Machine
end

