-- ==== Sys2Proof/Machine/Foreman.lean ====
section
/-! DEFINITION. The Foreman: start-up steps, the start record, sensors, the event log (18 R462 to R478; 06 R175). -/

namespace Sys2Proof.Machine

/-! ### Start-up (R465, R466, R469 to R472) -/

/-- Bytes of a region of the flash that holds an image: 0 the primary's, 1 the golden image's (R463). -/
def regionBytes (target : Nat) : Nat := if target = 0 then 0x8000000 else 0x7000000

/-- A field of a header: `n` bytes from an offset, little-endian (R464). -/
def imgField (v : ImageView) (ofs n : Nat) : Nat := leNat ((v.header.drop ofs).take n)

/-- `FW_VER`, `SVN` and `DIGEST` of an image (R464). -/
def imgFwVer (v : ImageView) : Nat := imgField v 0x008 4
def imgSvn (v : ImageView) : Nat := imgField v 0x00C 4
def imgDigest (v : ImageView) : Nat := imgField v 0x020 48

/-- The first check of R464 that an image of a region fails, numbered in the rule's order from 0 (log entry 41); none where it authenticates. -/
def imgFail (v : ImageView) (target : Nat) : Option Nat :=
  let inside := fun (o n : Nat) => decide (imgField v o 4 + imgField v n 4 ≤ regionBytes target)
  let bytes := fun (o n : Nat) => (v.header.drop o).take n
  if imgField v 0x000 4 ≠ 0x4D494D46 ∨ imgField v 0x004 2 ≠ 1 ∨ !inside 0x010 0x014 ∨ 8 * 2 ^ 20 < imgField v 0x014 4 ∨ !inside 0x018 0x01C then some 0
  else if Config.sha384 (bytes 0x0E0 96) ≠ Config.keyHash then some 1
  else if !Config.ecdsaP384 (bytes 0x0E0 96) (bytes 0x080 96) (bytes 0x000 0x80) then some 2
  else if v.fwHash ≠ bytes 0x020 48 then some 3
  else if (imgSvn v) < Config.minSvn then some 4
  else none

/-- The diagnostic section passes its check (R464). -/
def imgDiagOk (v : ImageView) : Bool := decide (v.diagHash = (v.header.drop 0x050).take 48)

/-- ROOT is aligned, the Foreman's clock runs from it and its domain is out of reset: the boot ROM may read images (R465, 02 R47,
R48, R58). -/
def State.romRuns (s : State) : Bool :=
  decide (s.clk.stage = .running) && s.clk.fmSwitch.isNone && s.on CK_CLK_STATUS.FM_CLK_SRC && !s.clk.fmHeld && !s.clk.warmHold && !s.ready 0 && !s.on FM_BOOT.RECOVERY

/-- An image boots: 0 the primary, 1 the golden image (R466, R477). A part whose BW_HEAD strap is 1 is the chain head, which enumerates once
after its own start (R488). -/
def State.bootImage (s : State) (image : Nat) (v : ImageView) : State :=
  let t := ((s.wr FM_BOOT.IMAGE image).wr FM_BOOT.FW_VER (imgFwVer v)).setReady 0 true
  let t := (t.fo (fun f => { f with svn := (imgSvn v) })).post 0 0x0001 0 (image + 2 ^ 32 * (imgFwVer v))
  if t.on BW_STATUS.STRAP_HEAD then (t.wr BW_STATUS.HEAD 1).enumerate else t

/-- An image fails authentication at check `c` (R464, R477; log entry 41). -/
def State.imageFailed (s : State) (image c : Nat) : State := s.post 0 0x0002 2 (image + 16 * c)

/-- FW_PRIMARY (R466): where the record marks this very image failed, the golden image comes first (R471). -/
def execFwPrimary (v : ImageView) (s : State) : Res :=
  .next
    (if !s.romRuns ∨ s.stepEnded 3 then s
     else if s.fm.record.primary = some (imgDigest v) ∧ !s.stepEnded 4 then s
     else
       let s := if s.fm.record.primary.isSome ∧ s.fm.record.primary ≠ some (imgDigest v) then
           (s.onRecord (fun r => { r with primary := none })).wr FM_BOOT.PRIMARY_BAD 0 else s
       match imgFail v 0 with
       | none =>
         let t := (s.recordStep 3 1).fo (fun f => { f with primaryVer := (imgFwVer v) })
         (if s.stepEnded 4 then t else t.recordStep 4 0).bootImage 0 v
       | some c =>
         let t := ((s.recordStep 3 2).onRecord (fun r => { r with primary := some (imgDigest v) })).wr FM_BOOT.PRIMARY_BAD 1
         let t := t.imageFailed 0 c
         if s.stepEnded 4 then t.wr FM_BOOT.RECOVERY 1 else t)

/-- FW_GOLDEN (R466): after the primary has failed, or first where the record marks the primary failed. -/
def execFwGolden (v : ImageView) (s : State) : Res :=
  .next
    (if !s.romRuns ∨ s.stepEnded 4 ∨ (!s.stepEnded 3 ∧ s.fm.record.primary.isNone) then s
     else
       match imgFail v 1 with
       | none =>
         let t := if s.stepEnded 3 then s else s.recordStep 3 3
         ((t.recordStep 4 3).fo (fun f => { f with goldenVer := (imgFwVer v) })).bootImage 1 v
       | some c =>
         let t := (s.recordStep 4 2).imageFailed 1 c
         if s.stepEnded 3 then t.wr FM_BOOT.RECOVERY 1 else t)

/-- BASE (R465, 12 R317): ALT where the Cage had to apply the defaults. -/
def execBase (s : State) : Res :=
  .next
    (if !s.ready 0 ∨ s.stepEnded 5 then s
     else if s.on CG_BASE.BASE_LATE then s.recordStep 5 3
     else (s.wr CG_BASE.BASE_DONE 1).recordStep 5 1)

/-- FUSE (R465): the Cage buffer's fuse repairs. -/
def execFuse (ok : Bool) (s : State) : Res :=
  .next
    (if !s.stepEnded 5 ∨ s.stepEnded 6 then s
     else if ok then (s.recordStep 6 1).setReady 1 true else s.recordStep 6 2)

/-- SEAM_SELF_TEST (R465). -/
def execSeamSelfTest (seam : Nat) (ok : Bool) (s : State) : Res :=
  need (seam < 4)
    (if !s.ready 0 ∨ s.stepEnded (16 + seam) then s
     else if ok then (s.recordStep (16 + seam) 1).setReady (26 + seam) true else s.recordStep (16 + seam) 2)

/-- A crew's crib and engine memories are cleared (02 R62). -/
def State.clearCrewMem (s : State) (c : Nat) : State :=
  let mine := fun (a : Nat) => (decide (cribBase c ≤ a) && decide (a < cribBase c + 0x200000))
    || (decide (imemBase (8 * c) ≤ a) && decide (a < imemBase (8 * c) + 0x200000))
  { s with mem := s.mem.filter (fun p => !mine p.1)
           tram := { s.tram with errs := s.tram.errs.filter (fun p => !mine (8 * p.1)), lastStore := [] } }

/-- CREW_INIT (R465, R471): a crew with a failed mark stays powered down. -/
def execCrewInit (crew : Nat) (ok : Bool) (s : State) : Res :=
  need (crew < 8)
    (if !s.ready 0 ∨ s.stepEnded (20 + crew) then s
     else if s.fm.record.crews.testBit crew then
       ((s.recordStep (20 + crew) 3).putBit CK_CREW_PWR.ON crew false).putBit CK_CREW_PWR.ON_STAT crew false
     else if ok then ((s.clearCrewMem crew).recordStep (20 + crew) 1).setReady (30 + crew) true
     else (s.recordStep (20 + crew) 2).onRecord (fun r => { r with crews := setBit r.crews crew }))

/-- XC_CALIBRATE (R465, R471; 09 R257): `good` has a bit for each port whose lanes calibrate; a port with a failed mark is
not calibrated. -/
def execXcCalibrate (good : Nat) (s : State) : Res :=
  .next
    (if !s.ready 0 ∨ s.stepEnded 28 then s
     else
       let marked := s.fm.record.ports
       let bad := (List.range 16).filter (fun p => !marked.testBit p && !good.testBit p)
       let t := s.recordStep 28 (if !bad.isEmpty then 2 else if marked % 2 ^ 16 ≠ 0 then 3 else 1)
       let t := t.onRecord (fun r => { r with ports := bad.foldl setBit r.ports })
       (List.range 16).foldl (fun t p => if !marked.testBit p && good.testBit p then t.setReady (10 + p) true else t) t)

/-- SHIFT_START (R465, 19 R491). -/
def execShiftStart (s : State) : Res :=
  .next (if !s.ready 0 ∨ s.stepEnded 29 then s else (s.recordStep 29 1).setReady 38 true)

/-- FABRIC (R465, 06 R175): the deadline timer starts when the four configuration paths are ready. -/
def execFabric (s : State) : Res :=
  .next
    (if s.fm.timed ∨ s.stepEnded 30 ∨ !(List.range 4).all (fun k => s.ready (26 + k)) then s
     else (s.fo (fun f => { f with timed := true })).put FM_LOAD_DEADLINE.RUNNING (decide (s.rd FM_LOAD_DEADLINE.MS ≠ 0)))

/-- A record is written to the copy that is not in force (R472). -/
def State.writeRecord (s : State) (r : Option StartRecord) : State := { s with flash := s.flash.writeOther r }

/-- RECORD (R472): after steps 0 to 29, and again after 30. A failed write leaves the other copy in force (log entry 31). -/
def execRecord (ok : Bool) (s : State) : Res :=
  .next
    (if !(List.range 30).all s.stepEnded then s
     else if ok then let t := s.recordStep 31 1; t.writeRecord (some { t.fm.record with rec_ := t.rd FM_START_REC.REC })
     else (s.recordStep 31 2).writeRecord none)

/-- LOAD_DEADLINE_WRITE (R489, 06 R175): `elapsed` is the time since the timer started, in ms. -/
def execLoadDeadlineWrite (ms elapsed : Nat) (s : State) : Res :=
  .next
    (let t := s.wr FM_LOAD_DEADLINE.MS ms
     if !s.on FM_LOAD_DEADLINE.RUNNING then t
     else if t.rd FM_LOAD_DEADLINE.MS = 0 then t.wr FM_LOAD_DEADLINE.RUNNING 0
     else if t.rd FM_LOAD_DEADLINE.MS ≤ elapsed then t.deadlineExpires else t)

/-! ### The event log (R476 to R478) -/

/-- LOG_ENTRY (R478): the oldest event that has reached the Foreman becomes an entry; `time` is the corrected time at the event. -/
def execLogEntry (time : Nat) (s : State) : Res :=
  .next
    (match s.events with
     | [] => s
     | e :: r =>
       let seq := s.rd FM_LOG_POS.NEXT_SEQ
       let x : LogRec := ⟨time % 2 ^ 64, e.tally, seq, e.sev, e.src, e.code, e.arg % 2 ^ 64⟩
       let t := { s with events := r }
       let t := t.fo (fun f => { f with log := (f.log ++ [x]).drop ((f.log.length + 1) - 2048) })
       let t := t.wr FM_LOG_POS.NEXT_SEQ (seq + 1)
       if 2 ≤ e.sev then t.raise FM_IRQ_STATUS.SRC FM_IRQ_EN.EN FM_IRQ_EN.VECTOR 4 else t)

/-- `FLASHED` moves over the entries that are in flash. -/
def State.advanceFlashed (s : State) : Nat → State
  | 0 => s
  | k + 1 =>
    let p := s.rd FM_LOG_POS.FLASHED
    if s.flash.log.any (fun x => decide (x.seq = p)) ∧ p ≠ s.rd FM_LOG_POS.NEXT_SEQ then
      State.advanceFlashed (s.wr FM_LOG_POS.FLASHED (p + 1)) k
    else s

/-- LOG_FLASH_MIRROR (R478): the entry `seq` of the on-chip ring reaches flash. -/
def execLogFlashMirror (seq : Nat) (s : State) : Res :=
  .next
    (match s.fm.log.find? (fun x => decide (x.seq = seq)) with
     | some x =>
       let l := s.flash.log.filter (fun y => decide (y.seq ≠ seq)) ++ [x]
       let t := { s with flash := { s.flash with log := l.drop (l.length - 262144) } }
       t.advanceFlashed 2048
     | none => s)

/-- An entry as four words (R476). -/
def logWords (x : LogRec) : List Nat := [x.time, x.tally, x.seq + 2 ^ 32 * x.sev + 2 ^ 40 * x.src + 2 ^ 48 * x.code, x.arg]

/-- The entry that a slot of the log window shows (R478). -/
def State.logSlot (s : State) (i : Nat) : List Nat :=
  match s.fm.log.find? (fun x => decide (x.seq % 2048 = i)) with
  | some x => logWords x
  | none => [0, 0, 0, 0]

/-! ### Sensors (R474, R475) -/

/-- A signed 16-bit reading. -/
def signed16 (v : Nat) : Int := if v.testBit 15 then (v % 65536 : Int) - 65536 else (v % 65536 : Int)

/-- Reading `i` of a source of four readings a register. -/
def State.setReading (s : State) (fs : List Fld) (i v : Nat) : State :=
  match fs[i % 4]? with
  | some f => s.wr f v 0 (i / 4)
  | none => s

/-- A sensor's sample against a limit: on the crossing the source sets and the Foreman logs; it acts again only after a sample
well within the limit (R475). `kind` as in `beyond`. -/
def State.limit (s : State) (kind i : Nat) (at_ back : Bool) (flag : Fld) (irq sev arg : Nat) : State :=
  let k := s.fm.beyond.contains (kind, i)
  let t := if at_ then s.wr flag 1 else s
  if at_ && !k then
    ((t.fo (fun f => { f with beyond := f.beyond ++ [(kind, i)] })).raise FM_IRQ_STATUS.SRC FM_IRQ_EN.EN FM_IRQ_EN.VECTOR irq).post 12 0x00C0 sev arg
  else if back && k then t.fo (fun f => { f with beyond := f.beyond.filter (fun p => decide (p ≠ (kind, i))) })
  else t

/-- One thermal sensor (R475). -/
def State.sampleTemp (s : State) (i v : Nat) : State :=
  let x := signed16 v
  let w := signed16 (s.rd FM_SENS_CTRL.TWARN)
  let c := signed16 (s.rd FM_SENS_CTRL.TCRIT)
  let arg := i + v % 65536 * 2 ^ 16
  let t := s.setReading FM_TEMP.regs i v
  let t := t.limit 0 i (decide (w ≤ x)) (decide (x ≤ w - 16)) FM_SENS_STATUS.TWARN 1 1 arg
  t.limit 1 i (decide (c ≤ x)) (decide (x ≤ c - 16)) FM_SENS_STATUS.TCRIT 1 3 arg

/-- Nominal voltages of rails 0 to 6 in mV (22 R541). -/
def railNominal (i : Nat) : Nat := [720, 800, 900, 1200, 1100, 1800, 1800].getD i 0

/-- A rail beyond its tolerance, or a powered bank outside 1.7 to 3.6 V (R474, R475; log entry 42). -/
def State.railOff (s : State) (i v : Nat) : Bool :=
  if i < 7 then
    let n := railNominal i
    decide (s.rd FM_SENS_CTRL.VTOL * n < 1000 * ((v - n) + (n - v)))
  else decide (v ≠ 0) && (decide (v < 1700) || decide (3600 < v))

/-- The hottest of the readings. -/
def hottest (l : List Nat) : Nat × Nat :=
  ((List.range l.length).zip l).foldl (fun b p => if signed16 b.2 < signed16 p.2 then p else b) (0, l.headD 0)

/-- SENSOR_SAMPLE (R474, R475): 64 temperatures, 24 rails, 8 analogue inputs. -/
def execSensorSample (temps rails ains : List Nat) (s : State) : Res :=
  .next
    (let temps := temps.take 64
     let at_ := fun (l : List Nat) => (List.range l.length).zip l
     let t := (at_ temps).foldl (fun t p => t.sampleTemp p.1 p.2) s
     let t := (at_ (rails.take 24)).foldl (fun t p =>
       let off := t.railOff p.1 p.2
       let t := if 7 ≤ p.1 then t.setClass (p.1 - 7) p.2 else t
       (t.setReading FM_VOLT.regs p.1 p.2).limit 2 p.1 off (!off) FM_SENS_STATUS.VWARN 2 1 (p.1 + p.2 % 65536 * 2 ^ 16)) t
     let t := (at_ (ains.take 8)).foldl (fun t p => t.setReading FM_AIN.regs p.1 p.2) t
     let h := hottest temps
     let t := if temps.isEmpty then t else (t.wr FM_SENS_STATUS.HOT_SENSOR h.1).wr FM_SENS_STATUS.HOT_TEMP h.2
     if temps.any (fun v => decide (signed16 (t.rd FM_SENS_CTRL.TCRIT) ≤ signed16 v)) then t.wr FM_SENS_STATUS.ALERT 1
     else if !t.on FM_SENS_STATUS.TCRIT ∧ temps.all (fun v => decide (signed16 v < signed16 (t.rd FM_SENS_CTRL.TWARN))) then
       t.wr FM_SENS_STATUS.ALERT 0
     else t)

/-- CURRENT_MONITOR_READ (R474, R475): the raw value, or none where the device does not acknowledge. -/
def execCurrentMonitorRead (monitor : Nat) (raw : Option Nat) (s : State) : Res :=
  need (monitor < 8)
    (if !s.on FM_CURMON.EN 0 monitor then s
     else
       let n := match raw with
         | some _ => 0
         | none => Tab.get 0 s.fm.nacks monitor + 1
       let t := s.fo (fun f => { f with nacks := Tab.set natLt 0 f.nacks monitor (min n 3) })
       let v := match raw with
         | some r => some (min 0xFFFF (r % 65536 * s.rd FM_CURMON.LSB_MA 0 monitor / 100))
         | none => if 3 ≤ n then some 0xFFFF else none
       let t := if 3 ≤ n then t.wr FM_SENS_STATUS.I2C_ERR 1 else t
       match v with
       | some v =>
         let above := decide (s.rd FM_CURMON.LIMIT 0 monitor < v)
         (t.setReading FM_CUR.regs monitor v).limit 3 monitor above (!above) FM_SENS_STATUS.IWARN 3 1
           (s.rd FM_CURMON.RAIL 0 monitor + v * 2 ^ 16)
       | none => t)

end Sys2Proof.Machine
end

