-- ==== Sys2Proof/Machine/Resets.lean ====
section
/-! DEFINITION. COLD and WARM, the clock gates, and what a crew's power takes (00 R13 to R15; 02 R49, R53, R58, R59, R62). -/

namespace Sys2Proof.Machine

/-- The clock state changed. -/
def State.ck (s : State) (g : Clocks → Clocks) : State := { s with clk := g s.clk }

/-- A new boot nonce and device memory key; the keys derived from them need no state of their own (15 R391). -/
def State.deriveKeys (s : State) : State :=
  let n := s.draw 128
  let t := s.drawn
  (t.en (fun c => { c with nonce := n, devKey := t.draw 256 })).drawn

/-- `CK_AON_STATUS` as a word, the argument of a clock fault's log entry (18 R477). -/
def State.aonStatusWord (s : State) : Nat := s.raw CK_AON_STATUS.regs

/-- Every ROOT-derived clock is gated and the Foreman's clock goes to the ring (02 R49 steps 1 and 2); a switch to ROOT/12
that was under way turns back. -/
def State.gateRoot (s : State) : State :=
  (((s.wr CK_CLK_STATUS.REFCLK_OK 0).wr CK_CLK_STATUS.ROOT_LOCK 0).wr CK_CLK_STATUS.ALIGNED 0).ck
    (fun c => { c with fmSwitch := if s.on CK_CLK_STATUS.FM_CLK_SRC || decide (c.fmSwitch = some true) then some false else c.fmSwitch })

/-- The supervisor restarts from the REFCLK window; its failure counts stay (02 R42, R49, R51, R58). DESIGN CHOICE (log entry 89):
the counts of failures in a row start again, and the Foreman's clock stays where it is: the spec states the switch to the ring only for a
loss of ROOT and of VCC_AUX. -/
def State.restartSupervisor (s : State) : State :=
  ((((s.wr CK_CLK_STATUS.REFCLK_OK 0).wr CK_CLK_STATUS.ROOT_LOCK 0).wr CK_CLK_STATUS.ALIGNED 0).wr CK_CLK_STATUS.LIMP 0).ck
    (fun c => { c with stage := .window, failedWindows := 0, lockAttempts := 0 })

/-- The Foreman boots from flash: the start steps from 3 on run again (02 R48, R58; 18 R470). -/
def State.foremanReboot (s : State) : State := s.fo (fun f => { f with ended := f.ended % 8, mailbox := none })

/-- The event log's positions after COLD, from the entries in flash (02 R59, 18 R476, R478). -/
def State.reloadLog (s : State) : State :=
  let l := s.flash.log
  let t := s.fo (fun f => { f with log := l.drop (l.length - 2048) })
  if l.isEmpty then t
  else
    let n := l.foldl (fun b x => max b x.seq) 0 + 1
    (t.wr FM_LOG_POS.NEXT_SEQ n).wr FM_LOG_POS.FLASHED n

/-- COLD (00 R13, 02 R59): everything but the flash, and what is the model's own. -/
def State.cold (s : State) : State :=
  let t := { State.reset with
    flash := s.flash, sent := s.sent, freeCount := s.freeCount, pending := s.pending
    fm := { Foreman.cold with record := s.flash.record } }
  t.reloadLog.deriveKeys

/-- Accesses in flight get error responses (02 R58 step 2). -/
def State.failTags (s : State) : State :=
  (s.gallery.tags.filter (fun t => !t.2.2)).foldl (fun t p => t.emit (.answered p.1 p.2.1 4 0 false)) s

/-- The registers after a WARM (00 R14, 02 R59): the fields that keep their values, and the outcomes of steps 0 to 2. -/
def State.warmRegs (s : State) : State :=
  let t := { s with regs := s.regs.filter (fun p => Fld.idKeepWarm p.1.id) }
  t.wr FM_START_REC.REC (s.rd FM_START_REC.REC % 64)

/-- The lanes whose eye scan runs, as (port, lane). -/
def State.scanning (s : State) : List (Nat × Nat) :=
  ((List.range 128).map (fun n => (n / 8, n % 8))).filter (fun x => s.on XC_LANE_EYE_RESULT.BUSY x.1 x.2)

/-- The parts behind the registers after a WARM (02 R59). -/
def State.warmParts (s : State) : State :=
  { s with
    mem := [], fabMem := [], fabErr := [], stopes := [], msix := .cold, winder := .cold, lanes := [], xp := []
    sampler := .cold, dram := .cold, scrubs := [], loader := .cold, frames := [], frameErr := [], bell := ⟨false⟩
    cage := .cold, gallery := .cold, tram := .cold, trace := .cold, lamp := .cold
    crypto := { Crypto.cold with slots := s.crypto.slots, owner := s.crypto.owner }
    pins := s.pins.map (fun p => (p.1, { p.2 with o := false, t := false, input := false, fabric := false })) |>.filter (fun p => decide (p.2 ≠ .cold))
    fm := { Foreman.cold with record := { s.flash.record with trained := s.fm.record.trained }, ended := s.fm.ended % 8, log := s.fm.log, loads := s.fm.loads }
    shift := { Shift.cold with epochFrac := s.shift.epochFrac, before := s.shift.before }
    clk := { s.clk with pendingDiv := none, warmHold := true, stopeReset := none, engineReset := none, stopePower := [], crewPower := [], gated := [], pulses := [] } }

/-- Every target access that a stope port holds ends with TARGET (07 R561: a WARM begins). -/
def State.endAllTargets (s : State) : State := (s.stopes.map (·.1)).foldl State.endTargets s

/-- A WARM with its cause (02 R54, R58, R59, R63; 14 R388; 18 R477); an eye scan that runs ends aborted (09 R254). With ROOT not good the supervisor starts again, but where a lost rail
holds the part (02 R50); without VCC_AON there is nothing left to reset. -/
def State.warm (s : State) (cause : Fld) : State :=
  if s.clk.stage = .aonLost then s
  else
    let next := s.rd PC_CTRL.LEVEL_NEXT
    let t := s.endAllTargets.failTags.warmRegs.warmParts
    let t := s.scanning.foldl (fun t x => t.wr XC_LANE_EYE_RESULT.ABORTED 1 x.1 x.2) t
    let t := (t.wr PC_CTRL.LEVEL next).showKeys
    let t := [CK_RST_CAUSE.PERST, CK_RST_CAUSE.SW_WARM, CK_RST_CAUSE.ROOT_LOST, CK_RST_CAUSE.RAIL, CK_RST_CAUSE.LAMP].foldl (fun t f => t.wr f 0) t
    let t := (t.wr cause 1).count CK_RST_CAUSE.WARM_COUNT
    let t := t.deriveKeys.post 1 0x0011 1 (t.raw CK_RST_CAUSE.regs)
    if t.clk.stage = .running ∨ t.clk.stage = .railHold ∨ t.clk.stage = .frozen then t else t.restartSupervisor

/-- A gating class's unit is idle (02 R53). A count of idle cycles that the model does not keep is taken as reached. -/
def State.gateIdle (s : State) (cls unit : Nat) : Bool :=
  match cls with
  | 0 => decide (unit < 64 ∧ s.rd TR_STATUS.STATE unit ≠ 1)
  | 1 => decide (unit < 128)
  | 2 => decide (unit < 8) && !s.dram.queue.any (fun w => decide (w.chan = unit)) && !s.dram.combiner.any (fun h => decide (h.chan = unit))
      && !s.dram.heldReqs.any (fun r => decide ((s.dramPlace r.addr).1 = unit))
      && !s.crypto.waiting.any (fun w => decide ((s.dramPlace w.req.addr).1 = unit))
      && !s.dram.owed.any (fun p => decide (p.1 / 4 = unit))
  | 3 => decide (unit < 16) && !s.on XC_PORT_CTRL.EN_A unit && !s.on XC_PORT_CTRL.EN_B unit
  | 4 => decide (unit < 640 ∧ s.stopeState unit ≠ 3 ∧ s.rd ST_TREE_STATUS.SRC_CUR unit = 0) && (s.stope unit).switchTo.isNone
  | 5 => decide (unit < 4) && !s.on CR_STATUS.DRAIN unit && !s.on CR_STATUS.COPY unit && !s.on CR_STATUS.RESTORE unit
  | 6 => decide (unit < 640) && !s.gallery.packets.any (fun p => decide (p.place = .junction unit))
  | 7 => decide (unit = 0) && !(List.range 4097).any s.hasWork
  | _ => false

/-- The classes with a unit gated now (02 R52, R53): a unit that its class's condition no longer holds of, or whose class is disabled, runs. -/
def State.gatedNow (s : State) : Nat :=
  s.clk.gated.foldl (fun m p => if s.gateIdle p.1 p.2 && !s.bit CK_GATE_DIS.DIS p.1 then setBit m p.1 else m) 0

/-- A crew's power-down is accepted (02 R62, 16 R424). -/
def State.crewLeaves (s : State) (c : Nat) : State :=
  (s.stopHoists c).tr (fun x => { x with wdogWait := x.wdogWait.filter (fun e => decide (e / 8 ≠ c)), resend := x.resend.filter (fun e => decide (e / 8 ≠ c)) })

/-- A crew powers up: its memories are cleared and its engines cold (02 R62, 16 R420). -/
def State.clearCrew (s : State) (c : Nat) : State :=
  (List.range 8).foldl (fun t m => t.coldEngine (8 * c + m) true) (s.clearCrewMem c)

end Sys2Proof.Machine
end

