-- ==== Sys2Proof/Machine/Clocks.lean ====
section
/-! DEFINITION. Clock bring-up, the supervisor, clock switches, gating, reset and power requests (02). -/

namespace Sys2Proof.Machine

/-- COLD (00 R13, 02 R41, R59): the part as after power-on. The queue of commands is not the part's. -/
def execCold (s : State) : Res := .next s.cold

/-- VCC_AON_LOSS (02 R50): the part stops; only COLD brings it back. -/
def execVccAonLoss (s : State) : Res := .next { s with clk := { s.clk with stage := .aonLost } }

/-- The supervisor enters limp mode and the Foreman logs the clock fault (02 R51, 18 R477). -/
def State.enterLimp (s : State) : State :=
  let t := s.wr CK_CLK_STATUS.LIMP 1
  t.post 1 0x0010 2 (t.aonStatusWord)

/-- The loss of ROOT after `ALIGNED` (02 R49): the ROOT clocks are gated, the Foreman goes to the ring, `ROOT_LOST`
sets and a WARM follows; a halted part issues none and stays gated until COLD. -/
def State.rootLoss (s : State) : State :=
  let t := (s.gateRoot).wr CK_AON_STATUS.ROOT_LOST 1
  let t := t.post 1 0x0010 2 t.aonStatusWord
  if t.halted then { t.wr CG_LINK.UP 0 with clk := { t.clk with stage := .frozen } }
  else (t.warm CK_RST_CAUSE.ROOT_LOST).restartSupervisor

/-- REFCLK_WINDOW_END (02 R42): the ring count of a window is judged. -/
def execRefclkWindowEnd (ringCount : Nat) (s : State) : Res :=
  let good := decide (24576 ≤ ringCount ∧ ringCount ≤ 40960)
  .next
    (match s.clk.stage with
     | .window =>
       if good then
         { (s.wr CK_CLK_STATUS.REFCLK_OK 1).recordStep 0 1 with
           clk := { s.clk with stage := .locking, failedWindows := 0, lockAttempts := 0 } }
       else
         let t := s.count CK_AON_STATUS.REFCLK_FAIL_COUNT
         let t := { t with clk := { s.clk with failedWindows := s.clk.failedWindows + 1 } }
         if s.clk.failedWindows + 1 = 16 then
           (((t.wr CK_AON_STATUS.REFCLK_BAD 1).recordStep 0 2).enterLimp) else t
     | .running => if good then s else (s.count CK_AON_STATUS.REFCLK_FAIL_COUNT).rootLoss
     | _ => s)

/-- REFCLK_EDGE_TIMEOUT (02 R42): without an edge for 8 ring cycles the count restarts; after `ALIGNED` the window
fails and ROOT is lost. -/
def execRefclkEdgeTimeout (s : State) : Res :=
  .next
    (match s.clk.stage with
     | .running => (s.count CK_AON_STATUS.REFCLK_FAIL_COUNT).rootLoss
     | _ => s)

/-- ROOT_LOCK (02 R43, R45): lock releases the dividers. -/
def execRootLock (s : State) : Res :=
  .next
    (if s.clk.stage = .locking then
       { (s.wr CK_CLK_STATUS.ROOT_LOCK 1).recordStep 1 1 with clk := { s.clk with stage := .aligning } }
     else s)

/-- LOCK_TIMEOUT (02 R43): a failed attempt is counted and retried; the third enters limp mode. -/
def execLockTimeout (s : State) : Res :=
  .next
    (if s.clk.stage = .locking then
       let t := s.count CK_AON_STATUS.LOCK_FAIL_COUNT
       if s.clk.lockAttempts + 1 < 3 then { t with clk := { s.clk with lockAttempts := s.clk.lockAttempts + 1 } }
       else
         let t := { t with clk := { s.clk with lockAttempts := s.clk.lockAttempts + 1, stage := .failed } }
         ((t.wr CK_AON_STATUS.ROOT_FAIL 1).recordStep 1 2).enterLimp
     else s)

/-- ALIGNED (02 R45, R47): the first alignment point; the switch of the Foreman clock begins. A part that came out of
limp mode by a good window leaves it here (DEDUCED, log entry 11). -/
def execAligned (s : State) : Res :=
  .next
    (if s.clk.stage = .aligning then
       let t := (s.wr CK_CLK_STATUS.ALIGNED 1).wr CK_CLK_STATUS.LIMP 0
       { t with clk := { s.clk with stage := .running, fmSwitch := some true } }
     else s)

/-- CLOCK_SWITCH_DONE (02 R47). -/
def execClockSwitchDone (s : State) : Res :=
  .next
    (match s.clk.fmSwitch with
     | some root =>
       let t := { s.put CK_CLK_STATUS.FM_CLK_SRC root with clk := { s.clk with fmSwitch := none } }
       if root then t.recordStep 2 1 else t
     | none => s)

/-- SWITCH_HANG (02 R48): the switch is forced, counted, and the Foreman domain is held in reset. -/
def execSwitchHang (s : State) : Res :=
  .next
    (match s.clk.fmSwitch with
     | some root =>
       let t := ((s.put CK_CLK_STATUS.FM_CLK_SRC root).count CK_AON_STATUS.HANG_COUNT).wr CK_AON_STATUS.SWITCH_HANG 1
       { t with clk := { s.clk with fmSwitch := none, fmHeld := true } }
     | none => s)

/-- FOREMAN_RESET_RELEASE (02 R48): the Foreman domain leaves reset and boots again from flash. -/
def execForemanResetRelease (s : State) : Res :=
  .next
    (if s.clk.fmHeld then { s.foremanReboot with clk := { s.clk with fmHeld := false } } else s)

/-- ROOT_LOST (02 R49): the root PLL loses lock after `ALIGNED`. -/
def execRootLost (s : State) : Res := .next (if s.clk.stage = .running then s.rootLoss else s)

/-- The good flag of a rail, by its bit in `CK_RAIL_STATUS` (02 R50, R63). -/
def railField (rail : Nat) : Fld :=
  if rail = 0 then CK_RAIL_STATUS.CORE_GOOD else if rail = 1 then CK_RAIL_STATUS.SRAM_GOOD
  else if rail = 2 then CK_RAIL_STATUS.LANE09_GOOD else if rail = 3 then CK_RAIL_STATUS.LANE12_GOOD
  else if rail = 4 then CK_RAIL_STATUS.DDR_GOOD else CK_RAIL_STATUS.AUX_GOOD

/-- RAIL_LOST (02 R50): a rail other than VCC_AON is lost while VCC_AON is good. A loss of VCC_AUX first gates the ROOT clocks. The
part is held in reset; a halted part issues no WARM and is held until COLD. -/
def execRailLost (rail : Nat) (s : State) : Res :=
  need (rail < 6)
    (if s.clk.stage = .aonLost then s
     else
       let t := s.wr (railField rail) 0
       let t := if rail = 5 then t.gateRoot else t
       if t.halted then { t.wr CG_LINK.UP 0 with clk := { t.clk with stage := .frozen } }
       else
         let t := t.warm CK_RST_CAUSE.RAIL
         { t with clk := { t.clk with stage := .railHold } })

/-- RAIL_GOOD (02 R50): every rail has been good for 1 ms; the supervisor restarts from R42. A halted part stays held. -/
def execRailGood (s : State) : Res :=
  .next
    (if s.clk.stage = .aonLost then s
     else
       let t := (List.range 6).foldl (fun t r => t.wr (railField r) 1) s
       if s.clk.stage = .railHold then t.restartSupervisor else t)

/-- RETRY (02 R51): in limp mode, a write by the Foreman restarts the bring-up from R42. -/
def execRetry (byForeman : Bool) (s : State) : Res :=
  .next (if byForeman && s.on CK_CLK_STATUS.LIMP then (s.wr CK_CLK_STATUS.LIMP 0).restartSupervisor else s)

/-- PHASE_DIV_WRITE (02 R46). -/
def execPhaseDivWrite (n : Nat) (s : State) : Res :=
  .next
    (if s.winderStopped && decide (s.rd CK_CLK_STATUS.PHASE_DIV_MIN ≤ n ∧ n ≤ 96) then
       { s.wr CK_PHASE_DIV.N n with clk := { s.clk with pendingDiv := some n } }
     else s.wr CK_CLK_STATUS.DIV_ERR 1)

/-- PHASE_DIV_APPLY (02 R46): the accepted value takes effect. -/
def execPhaseDivApply (s : State) : Res :=
  .next
    (match s.clk.pendingDiv with
     | some n => { s.wr CK_CLK_STATUS.PHASE_DIV_CUR n with clk := { s.clk with pendingDiv := none } }
     | none => s)

/-- CLOCK_GATE (02 R52, R53): a unit that meets its class's idle condition is gated, unless the class is disabled. -/
def execClockGate (cls unit : Nat) (s : State) : Res :=
  need (cls < 8)
    (if s.bit CK_GATE_DIS.DIS cls || !(s.gateIdle cls unit) || decide ((cls, unit) ∈ s.clk.gated) then s
     else { s.putBit CK_GATE_STATUS.GATED cls true with clk := { s.clk with gated := s.clk.gated ++ [(cls, unit)] } })

/-- PERST_ASSERT (00 R13, 02 R58): a WARM, unless the part is halted (15 R406). -/
def execPerstAssert (s : State) : Res :=
  .next
    (let t := { s with clk := { s.clk with perst := true } }
     if s.halted then t else t.warm CK_RST_CAUSE.PERST)

/-- WARM_REQ (02 R54): the key 0x5A5A with `WARM_REQ` = 1 starts a WARM; any other write does nothing. -/
def execWarmReq (key : Nat) (req : Bool) (s : State) : Res :=
  .next (if req && decide (key = 0x5A5A) && !s.halted then s.warm CK_RST_CAUSE.SW_WARM else s)

/-- WARM_HOLD_END (02 R58): the domains are released and the Foreman reboots; with nRST_LAMP still low (20 R511), or a rail lost
(02 R50), the part stays held. -/
def execWarmHoldEnd (s : State) : Res :=
  .next
    (if s.clk.warmHold && !s.clk.lampHold && decide (s.clk.stage ≠ .railHold) then
       { s.foremanReboot with clk := { s.clk with warmHold := false } }
     else s)

/-- A STOPE request, or a power-down, of this stope is refused whatever the stope in reset (02 R55, R61). -/
def State.stopeBlocked (s : State) (n : Nat) : Bool :=
  !s.winderStopped && s.configured n && !s.isolated n

/-- STOPE_RESET_REQ (02 R55, R57; 00 R15). -/
def execStopeResetReq (stope : Nat) (s : State) : Res :=
  .next
    (if s.clk.warmHold then s
     else
       let other := match s.clk.stopeReset with | some (m, _) => decide (m ≠ stope) | none => false
       if decide (640 ≤ stope) || !s.powered stope || s.stopeBlocked stope || other then s.wr CK_RST_STATUS.STOPE_REFUSED 1
       else if s.inReset stope then s
       else
         let t := s.stopeLeaves stope
         let t := (t.wr CK_RST_STATUS.STOPE_BUSY 1).wr CK_RST_STATUS.LAST_STOPE stope
         { t with clk := { t.clk with stopeReset := some (stope, false) } }.scrubsMeet stope)

/-- STOPE_RESET_LINE_HIGH (02 R57; 04 R116, R118; 05 R147): every element of the stope takes its reset value. -/
def execStopeResetLineHigh (s : State) : Res :=
  .next
    (match s.clk.stopeReset with
     | some (n, false) => { s.stopeResetState n with clk := { s.clk with stopeReset := some (n, true) } }
     | _ => s)

/-- STOPE_RESET_END (02 R57): the line falls. -/
def execStopeResetEnd (s : State) : Res :=
  .next
    (match s.clk.stopeReset with
     | some (n, true) =>
       let t := s.wr CK_RST_STATUS.STOPE_BUSY 0
       let t := t.endReset (.stope n)
       { t with clk := { t.clk with stopeReset := none } }.scrubsMeet n
     | _ => s)

/-- ENGINE_RESET_REQ (02 R56; 00 R15). -/
def execEngineResetReq (engine : Nat) (s : State) : Res :=
  need (engine < 64)
    (if s.clk.warmHold then s
     else
       match s.clk.engineReset with
       | some m => if m = engine then s else s.wr CK_RST_STATUS.ENGINE_REFUSED 1
       | none => s.startEngineReset engine 1)

/-- ENGINE_RESET_DONE (16 R438): the engine's registers hold their cold values; it is HELD with `IMEM_STALE` set. -/
def execEngineResetDone (s : State) : Res :=
  .next
    (match s.clk.engineReset with
     | some e => s.finishEngineReset e
     | none => s)

/-- STOPE_POWER_DOWN (02 R61). -/
def execStopePowerDown (stope : Nat) (s : State) : Res :=
  need (stope < 640)
    (if !s.powered stope || s.stopeBlocked stope then s.wr CK_RST_STATUS.PWR_REFUSED 1
     else
       let t := (s.stopeLeaves stope).losePower stope
       let t := t.putVec CK_STOPE_PWR.ON stope false
       { t with clk := { t.clk with stopePower := (t.clk.stopePower.filter (fun p => decide (p.1 ≠ stope))) ++ [(stope, false)] } })

/-- STOPE_POWER_UP (02 R61). -/
def execStopePowerUp (stope : Nat) (s : State) : Res :=
  need (stope < 640)
    (let t := s.putVec CK_STOPE_PWR.ON stope true
     if s.powered stope then { t with clk := { t.clk with stopePower := t.clk.stopePower.filter (fun p => decide (p.1 ≠ stope)) } }
     else { t with clk := { t.clk with stopePower := (t.clk.stopePower.filter (fun p => decide (p.1 ≠ stope))) ++ [(stope, true)] } })

/-- STOPE_POWER_UP_DONE (02 R61, 05 R148): the stope reports and returns unconfigured, its memory repairs applied. -/
def execStopePowerUpDone (stope : Nat) (s : State) : Res :=
  need (stope < 640)
    (if (stope, true) ∈ s.clk.stopePower then
       { s.putVec CK_STOPE_PWR_STAT.ON_STAT stope true with
         clk := { s.clk with stopePower := s.clk.stopePower.filter (fun p => decide (p.1 ≠ stope)) } }
     else s)

/-- STOPE_POWER_DOWN_DONE (02 R61): the stope is off. -/
def execStopePowerDownDone (stope : Nat) (s : State) : Res :=
  need (stope < 640)
    (if (stope, false) ∈ s.clk.stopePower then
       { s.putVec CK_STOPE_PWR_STAT.ON_STAT stope false with
         clk := { s.clk with stopePower := s.clk.stopePower.filter (fun p => decide (p.1 ≠ stope)) } }
     else s)

/-- CREW_POWER_DOWN (02 R62): accepted only while all eight engines are HELD or in RESET; the ready bit clears. -/
def execCrewPowerDown (crew : Nat) (s : State) : Res :=
  need (crew < 8)
    (if (List.range 8).all (fun m => s.engineIdle (8 * crew + m)) then
       let t := (s.crewLeaves crew).putBit CK_CREW_PWR.ON crew false
       let t := t.setReady (30 + crew) false
       { t with clk := { t.clk with crewPower := (t.clk.crewPower.filter (fun p => decide (p.1 ≠ crew))) ++ [(crew, false)] } }
     else s.wr CK_RST_STATUS.PWR_REFUSED 1)

/-- CREW_POWER_UP (02 R62). -/
def execCrewPowerUp (crew : Nat) (s : State) : Res :=
  need (crew < 8)
    (let t := s.putBit CK_CREW_PWR.ON crew true
     { t with clk := { t.clk with crewPower := (t.clk.crewPower.filter (fun p => decide (p.1 ≠ crew))) ++ [(crew, true)] } })

/-- CREW_POWER_UP_DONE (02 R62, 16 R420): memories cleared, repairs applied, ready bit set; the engines stay held. -/
def execCrewPowerUpDone (crew : Nat) (s : State) : Res :=
  need (crew < 8)
    (if (crew, true) ∈ s.clk.crewPower then
       let t := (s.clearCrew crew).putBit CK_CREW_PWR.ON_STAT crew true
       { t.setReady (30 + crew) true with
         clk := { t.clk with crewPower := t.clk.crewPower.filter (fun p => decide (p.1 ≠ crew)) } }
     else s)

/-- CREW_POWER_DOWN_DONE (02 R62): the crew is off. -/
def execCrewPowerDownDone (crew : Nat) (s : State) : Res :=
  need (crew < 8)
    (if (crew, false) ∈ s.clk.crewPower then
       { s.putBit CK_CREW_PWR.ON_STAT crew false with
         clk := { s.clk with crewPower := s.clk.crewPower.filter (fun p => decide (p.1 ≠ crew)) } }
     else s)

end Sys2Proof.Machine
end

