-- ==== Sys2Proof/Machine/DramAccess.lean ====
section
/-! DEFINITION. An access to the DRAM window from its arrival to its answer (14 R372 to R385, 15 R392 to R404). -/

namespace Sys2Proof.Machine

/-- The page of a request. -/
def pageOf (r : DramReq) : Nat := r.addr / 128

/-- The request writes. -/
def isWrite (r : DramReq) : Bool := !r.data.isEmpty

/-- The answer to a request. -/
def State.dramAnswer (s : State) (r : DramReq) (status data : Nat) (poison : Bool) : State :=
  s.respond (645 + (s.dramPlace r.addr).1) r.src r.tag status data poison r.posted

/-- Bytes as a little-endian number. -/
def bytesNat (l : List Nat) : Nat := l.foldr (fun b v => b + 256 * v) 0

/-- A read whose counter is known (R380, R381; 15 R397). -/
def State.readPage (s : State) (r : DramReq) (v : DramView) : State :=
  let page := pageOf r
  if s.tagFails page v then (s.haltAt 1 page r.src).dramAnswer r 1 0 false
  else
    let d := s.decodePage page v
    let (bytes, s) := s.pageBytes page v d
    let marked := (s.page page).poison
    let ue := match d with
      | .uncorrectable _ => true
      | _ => false
    let s := s.eccCount page r.src d
    let s := if marked && !ue then (s.count DC_ECC.POISON_RD 1 (s.pagePlace page).1).eccLast page 2 [] r.src else s
    s.dramAnswer r 0 (bytesNat ((bytes.drop (r.addr % 128)).take r.len)) (marked || ue)

/-- The bytes of a request in their places in the page. -/
def pageData (r : DramReq) : List Nat := List.replicate (r.addr % 128) 0 ++ r.data ++ List.replicate (128 - r.addr % 128 - r.data.length) 0

/-- The bytes of the page that a request writes. -/
def pageMask (r : DramReq) : Nat := (r.be % 2 ^ r.data.length) * 2 ^ (r.addr % 128)

/-- A write whose counter is known (R374, R382, R383; 15 R397, R399, R404). -/
def State.writePage (s : State) (r : DramReq) (v : DramView) : State :=
  let page := pageOf r
  if pageMask r = ones 128 then
    match s.storePage page (ones 128) (pageData r) r.poison with
    | some t => t.dramAnswer r 0 0 false
    | none => match s.raiseCounter page with
      | (_, t) => t.dramAnswer r 1 0 false
  else if s.tagFails page v then (s.haltAt 3 page r.src).dramAnswer r 1 0 false
  else
    let d := s.decodePage page v
    let (bytes, s) := s.pageBytes page v d
    let bad := (s.page page).poison || (match d with
      | .uncorrectable _ => true
      | _ => false)
    let s := s.eccCount page r.src d
    let merged := (List.range 128).map (fun i => if (pageMask r).testBit i then (pageData r).getD i 0 else bytes.getD i 0)
    match s.storePage page (ones 128) merged (r.poison || bad) with
    | none => match s.raiseCounter page with
      | (_, t) => t.dramAnswer r 1 0 false
    | some t =>
      if bad then
        let c := (t.pagePlace page).1
        let t := (t.count DC_ECC.PW_ERR 1 c).eccLast page 3 [] r.src
        let t := t.post 3 0x0031 2 (t.raw DC_ECC_LAST.regs c)
        if r.posted then t else t.dramAnswer r 1 0 false
      else t.dramAnswer r 0 0 false

/-- A request whose counter is known, or that needs none. -/
def State.servePage (s : State) (r : DramReq) (v : DramView) : State := if isWrite r then s.writePage r v else s.readPage r v

/-- A request to a page under a fault (15 R403): poison for a read, TARGET for a write. -/
def State.faultAnswer (s : State) (r : DramReq) : State :=
  if isWrite r then s.dramAnswer r 1 0 false
  else s.dramAnswer r 0 (bytesNat ((s.loadBytes (pageOf r * 128) 128).drop (r.addr % 128) |>.take r.len)) true

/-- The counter stage (15 R401, R402): a request waits while its counter is not in the cache, and behind an earlier one for
the same page; a full-page write is acknowledged meanwhile. -/
def State.counterStage (s : State) (r : DramReq) (v : DramView) : State :=
  let page := pageOf r
  let wait := fun (t : State) =>
    let full := isWrite r && decide (pageMask r = ones 128)
    let t := if full && !r.posted then t.dramAnswer r 0 0 false else t
    t.en (fun c => { c with waiting := c.waiting ++ [⟨{ r with posted := r.posted || full }, v⟩] })
  match s.protectedBy (page * 128) with
  | none => s.servePage r v
  | some k =>
    if s.pageFaulted page then s.faultAnswer r
    else if s.crypto.waiting.any (fun w => decide (pageOf w.req = page)) then wait s
    else
      let i := s.rangePage k page / 8
      if s.nodeHeld k 1 i then ((s.count EN_CACHE.HITS).touchNode k 1 i false).servePage r v
      else wait (s.count EN_CACHE.MISSES)

/-- A held half of a page completes as a partial write before any other access to the page (R374). -/
def State.flushHalf (s : State) (page : Nat) (v : DramView) : State :=
  match s.dram.combiner.find? (fun h => decide (pageOf h.req = page)) with
  | none => s
  | some h => (s.dr (fun d => { d with combiner := d.combiner.filter (fun x => decide (x ≠ h)) })).counterStage h.req v

/-- Two halves joined into a full-page write (R374). -/
def joinHalves (a b : DramReq) : DramReq :=
  let lo := if a.addr % 128 = 0 then a else b
  let hi := if a.addr % 128 = 0 then b else a
  { b with addr := lo.addr, len := 128, data := lo.data ++ hi.data, be := ones 128, poison := a.poison || b.poison }

/-- The request is a whole aligned half-page write (R374). -/
def isHalf (r : DramReq) : Bool :=
  isWrite r && decide (r.data.length = 64) && decide (r.addr % 64 = 0) && decide (r.be % 2 ^ 64 = ones 64)

/-- The write combiner (R374). -/
def State.combine (s : State) (r : DramReq) (v : DramView) : State :=
  let c := (s.dramPlace r.addr).1
  if s.on DC_SCHED.WC_EN c && isHalf r then
    match s.dram.combiner.find? (fun h => decide (pageOf h.req = pageOf r)) with
    | some h =>
      if h.req.src = r.src ∧ h.req.addr ≠ r.addr then
        ((s.dr (fun d => { d with combiner := d.combiner.filter (fun x => decide (x ≠ h)) })).dramAnswer h.req 0 0 false).counterStage (joinHalves h.req r) v
      else
        let t := s.flushHalf (pageOf r) v
        if t.halted then t.dramAnswer r 1 0 false else t.dr (fun d => { d with combiner := d.combiner ++ [⟨c, r⟩] })
    | none =>
      if (s.dram.combiner.filter (fun h => decide (h.chan = c))).length < 32 then s.dr (fun d => { d with combiner := d.combiner ++ [⟨c, r⟩] })
      else s.counterStage r v
  else
    let t := s.flushHalf (pageOf r) v
    if t.halted then t.dramAnswer r 1 0 false else t.counterStage r v

/-- The range holds its accesses (15 R394, R395). -/
def State.rangeHolds (s : State) (a : Nat) : Bool :=
  (List.range 16).any (fun k =>
    (s.crypto.enabling.contains k && (inSpan (s.rangeSpan k) a || inSpan (s.treeSpan k) a))
      || (decide (s.rangeState k = 2) && inSpan (s.rangeSpan k) a))

/-- The address lies in the tree region of a range that is not OFF (15 R393). -/
def State.inTree (s : State) (a : Nat) : Bool := (List.range 16).any (fun k => decide (s.rangeState k ≠ 0) && inSpan (s.treeSpan k) a)

/-! ### The scheduler (14 R372, R373) -/

/-- The class that the scheduler sees: `PRI`, or 3 once the request has waited `AGE` Gallery cycles (R373). -/
def State.schedClass (s : State) (w : DramWait) : Nat := if max 1 (s.rd DC_SCHED.AGE w.chan) ≤ w.waited then 3 else w.req.pri % 4

/-- The next request of a channel: of those with no earlier one to their page, the highest class, and in it the oldest (R372, R373). -/
def State.schedNext (s : State) (c : Nat) : Option DramWait :=
  let q := s.dram.queue.filter (fun w => decide (w.chan = c))
  let heads := q.zipIdx.filter (fun w => !(q.take w.2).any (fun e => decide (pageOf e.req = pageOf w.1.req)))
  heads.foldl (fun best w => match best with
    | none => some w.1
    | some b => if s.schedClass b < s.schedClass w.1 then some w.1 else best) none

/-- One request of a channel is performed. -/
def State.schedOne (s : State) (c : Nat) : State :=
  match s.schedNext c with
  | none => s
  | some w =>
    let t := s.dr (fun d => { d with queue := d.queue.erase w })
    if t.halted then t else t.combine w.req w.view

/-- The channel's requests are performed, as its banks accept commands. -/
def State.schedDrain (s : State) (c : Nat) : State :=
  (s.dram.queue.filter (fun w => decide (w.chan = c))).foldl (fun t _ => t.schedOne c) s

/-- Time passes for the requests of a channel. -/
def State.schedAge (s : State) (c cycles : Nat) : State :=
  s.dr (fun d => { d with queue := d.queue.map (fun w => if w.chan = c then { w with waited := w.waited + cycles } else w) })

/-- Every controller performs what waits. -/
def State.dramIdle (s : State) : State := (List.range 8).foldl (fun t c => t.schedDrain c) s

/-- A request enters its controller's queue (R372, R373). While no bank accepts a command it waits there, and a full-page write is answered
as it enters; else the queue is performed. -/
def State.enqueue (s : State) (c : Nat) (r : DramReq) (v : DramView) : State :=
  let t := s.schedAge c v.cycles
  let full := v.busy && isWrite r && decide (pageMask r = ones 128) && !r.posted
  let t := if full then t.dramAnswer r 0 0 false else t
  let t := t.dr (fun d => { d with queue := d.queue ++ [⟨c, { r with posted := r.posted || full }, v, 0⟩] })
  if v.busy then t else t.schedDrain c

/-- An access reaches its controller (01 R28, R35; 14 R368, R372; 15 R393 to R395, R405). -/
def State.dramAccess (s : State) (r : DramReq) (v : DramView) : State :=
  let c := (s.dramPlace r.addr).1
  if s.halted then s.dramAnswer r 1 0 false
  else if r.len = 0 ∨ 64 < r.addr % 64 + r.len then s.dramAnswer r 5 0 false
  else if !s.ready (2 + c) ∧ !r.foreman then s.dramAnswer r 4 0 false
  else if s.rd PC_MAP.TOP_GIB * 2 ^ 30 ≤ r.addr then s.dramAnswer r 1 0 false
  else if s.rangeHolds r.addr ∨ s.restoreHolds r.addr then s.dr (fun d => { d with heldReqs := d.heldReqs ++ [r] })
  else if s.inTree r.addr then s.dramAnswer r 1 0 false
  else s.enqueue c r v

/-- Every access that a controller has accepted completes (01 R29). -/
def State.dramSettle (s : State) : State :=
  let t := s.dramIdle
  t.dram.combiner.foldl (fun t h => t.flushHalf (pageOf h.req) .plain) t

/-- Held accesses proceed, in order (11 R301, 15 R394, R395). -/
def State.releaseHeld (s : State) : State :=
  let l := s.dram.heldReqs
  l.foldl (fun t r => t.dramAccess r .plain) (s.dr (fun d => { d with heldReqs := [] }))

end Sys2Proof.Machine
end

