-- ==== Sys2Proof/Machine/Dram.lean ====
section
/-! DEFINITION. DRAM channels: training, the map, the device area, accesses, refresh, fills (14 R362 to R389). -/

namespace Sys2Proof.Machine

/-! ### Channels and the map (R363 to R368) -/

/-- `PC_MAP` follows the active set (R367). -/
def State.showMap (s : State) : State :=
  let cs := s.channels
  let c := match cs with
    | [] => 0
    | _ => cs.foldl (fun m k => min m (s.rd DC_STATUS.CAP_GIB k)) 128
  ((s.wr PC_MAP.N cs.length).wr PC_MAP.C_GIB c).wr PC_MAP.TOP_GIB (cs.length * c)

/-- A channel is held out with a cause, and the Foreman logs it (R363, R366; 18 R477). -/
def State.holdOut (s : State) (c cause : Nat) : State :=
  let t := ((s.wr DC_STATUS.STATE 3 c).wr DC_STATUS.HOLD_CAUSE cause c).putBit PC_MAP.SET c false
  let t := t.showMap.post 3 0x0030 (if cause = 1 then 0 else 2) (c + 256 * cause)
  t.recordStep (7 + c) (if cause = 1 then 0 else if cause = 5 then 3 else 2)

/-- The row-remap table is loaded from flash (R387). -/
def State.loadRows (s : State) (c : Nat) : State :=
  let rows := s.flash.rows.filter (fun r => decide (r.chan = c))
  ((List.range 32).zip rows).foldl (fun t p =>
    let r := p.2
    let t := (((t.wr DC_PPR.ROW r.row c p.1).wr DC_PPR.BG r.bg c p.1).wr DC_PPR.BANK r.bank c p.1).wr DC_PPR.RANK r.rank c p.1
    ((t.put DC_PPR.HARD r.hard c p.1).wr DC_PPR.VALID 1 c p.1).put DC_PPR.STATE r.done c p.1) s

/-- A channel's share of the counter cache goes (R365, 15 R401). -/
def State.dropShare (s : State) (c : Nat) : State :=
  let t := s.en (fun x => { x with cache := x.cache.filter (fun e => decide ((s.dramPlace (s.nodeAddr e.key e.level e.index)).1 ≠ c)) })
  (List.range 16).foldl (fun t k => t.showRange k) t

/-- CHANNEL_TRAIN (R363, R365, R366, R387): what the Foreman finds in the slots decides whether the channel is admitted. -/
def execChannelTrain (chan : Nat) (p : Population) (s : State) : Res :=
  need (chan < 8)
    (if s.rd DC_STATUS.STATE chan ≠ 0 ∨ s.on PC_MAP.FINAL ∨ !s.ready 0 then s
     else if p.dimms = 0 then (s.loadRows chan).holdOut chan 1
     else
       let s := s.loadRows chan
       let s := ((s.wr DC_STATUS.DIMMS p.dimms chan).wr DC_STATUS.RANKS p.ranks chan).wr DC_STATUS.X8 p.x8 chan
       if !p.supported then s.holdOut chan 2
       else if !p.same then s.holdOut chan 3
       else if s.fm.record.failed.any (fun f => decide (f.1 = chan ∧ f.2 = p.serials)) then s.holdOut chan 5
       else
         let t := ((s.wr DC_STATUS.STATE 1 chan).wr DC_STATUS.RATE p.rate chan).wr DC_STATUS.CAP_GIB (min 128 p.gib) chan
         let t := (t.put DC_STATUS.CAP_TRUNC (decide (128 < p.gib)) chan).putBit PC_MAP.SET chan true
         let t := t.onRecord (fun r => { r with failed := r.failed.filter (fun (f : Nat × List Nat) => decide (f.1 ≠ chan)) })
         let stored := t.fm.record.trained.any (fun f => decide (f.1 = chan ∧ f.2.1 = p.serials ∧ f.2.2 = p.rate))
         let t := t.dr (fun d => { d with serials := Tab.set natLt [] d.serials chan p.serials })
         (((t.put DC_TRAIN.STORED_TRIED stored chan).put DC_TRAIN.FULL_TRIED (!stored) chan).dropShare chan).showMap)

/-- Row repairs in TRAINING (R387): `repairs` gives the outcome of an entry where it is not DONE. -/
def State.repairRows (s : State) (c : Nat) (repairs : List (Nat × Nat)) : State :=
  (List.range 32).foldl (fun t i =>
    if t.on DC_PPR.VALID c i && (!t.on DC_PPR.HARD c i || decide (t.rd DC_PPR.STATE c i = 0)) then
      let r := Tab.get 1 repairs i
      let t := t.wr DC_PPR.STATE r c i
      let row : FlashRow := ⟨c, t.rd DC_PPR.ROW c i, t.rd DC_PPR.BG c i, t.rd DC_PPR.BANK c i, t.rd DC_PPR.RANK c i, true, false⟩
      let t := if t.on DC_PPR.HARD c i ∧ r = 1 then
          { t with flash := { t.flash with rows := t.flash.rows.map (fun f => if f = row then { f with done := true } else f) } }
        else t
      if r = 3 then t.post 3 0x0032 1 (i + 256 * c + 2048 * r) else t
    else t) s

/-- A channel of the set has failed its training: accesses in flight complete, the map is rebuilt without it and every address reads zero
(R366, 01 R29). -/
def State.remap (s : State) : State :=
  let up := (List.range 8).filter (fun c => decide (s.rd DC_STATUS.STATE c = 2))
  let t := (up.foldl (fun t c => t.setReady (2 + c) false) s).dramSettle
  let t := (t.showMap.clearDram).wr PC_MAP.REMAPPED 1
  up.foldl (fun t c => t.setReady (2 + c) true) t

/-- TRAINING_DONE (R365, R366): the verify of a stored set, a full training where there is none or it fails, the row
repairs, and READY or HELD_OUT. -/
def execTrainingDone (chan : Nat) (storedOk fullOk : Bool) (failStep ms : Nat) (repairs : List (Nat × Nat)) (s : State) : Res :=
  need (chan < 8)
    (if s.rd DC_STATUS.STATE chan ≠ 1 then s
     else
       let tried := s.on DC_TRAIN.STORED_TRIED chan
       let byStore := tried && storedOk
       let t := s.put DC_TRAIN.STORED_OK byStore chan
       let t := (t.put DC_TRAIN.FULL_TRIED (!byStore) chan).put DC_TRAIN.FULL_OK (!byStore && fullOk) chan
       let t := t.wr DC_TRAIN.TRAIN_MS ms chan
       let serials := Tab.get [] t.dram.serials chan
       if byStore ∨ fullOk then
         let t := if byStore then t else
           let rate := t.rd DC_STATUS.RATE chan
           t.onRecord (fun r => { r with trained := r.trained.filter (fun (f : Nat × List Nat × Nat) => decide (f.1 ≠ chan)) ++ [(chan, serials, rate)] })
         ((((t.repairRows chan repairs).wr DC_STATUS.STATE 2 chan).recordStep (7 + chan) 1).setReady (2 + chan) true)
       else
         let t := t.onRecord (fun r => { r with failed := r.failed.filter (fun (f : Nat × List Nat) => decide (f.1 ≠ chan)) ++ [(chan, serials)] })
         ((t.wr DC_TRAIN.FAIL_STEP failStep chan).holdOut chan 4).remap)

/-! ### The device area (R370, R371) -/

/-- The regions downward from the top, in units of 2 MiB (R370): base, size. -/
def placeRegions (top : Nat) : List Nat → List (Nat × Nat)
  | [] => []
  | n :: r => (top - n, n) :: placeRegions (top - n) r

/-- The sizes of a plan in the order of R370: the frame shadow first. -/
def State.planned (s : State) : List Nat :=
  [720, s.rd PC_PLAN0.STORE, s.rd PC_PLAN0.PJ_RING, s.rd PC_PLAN0.STAMP, s.rd PC_PLAN0.LOG, s.rd PC_PLAN1.SPILL, s.rd PC_PLAN1.TRACE]

/-- The cold sizes (R388). -/
def coldPlan : List Nat := [720, 3072, 512, 0, 128, 128, 32]

/-- The regions' registers are written (R370). -/
def State.writeRegions (s : State) (l : List (Nat × Nat)) : State :=
  let b := fun i => (l.getD i (0, 0)).1
  let z := fun i => (l.getD i (0, 0)).2
  let s := (s.wr CF_SHADOW_BASE.BASE (b 0)).wr CF_SHADOW_BASE.SHADOW_OK 1
  let s := ((s.wr WD_SMP_STORE.BASE (b 1)).wr WD_SMP_STORE.SIZE (z 1)).wr WD_SMP_STORE.OK 1
  let s := ((s.wr WD_PJ_RING.BASE (b 2)).wr WD_PJ_RING.SIZE (z 2)).wr WD_PJ_RING.OK 1
  let s := ((s.wr WD_PJ_STAMP.BASE (b 3)).wr WD_PJ_STAMP.SIZE (z 3)).wr WD_PJ_STAMP.OK 1
  let s := ((s.wr WD_LOG_RING.BASE (b 4)).wr WD_LOG_RING.SIZE (z 4)).wr WD_LOG_RING.OK 1
  let s := ((s.wr CG_SPILL_AREA.BASE (b 5)).wr CG_SPILL_AREA.SIZE (z 5)).wr CG_SPILL_AREA.OK 1
  ((s.wr LP_TRACE_RING.BASE (b 6)).wr LP_TRACE_RING.SIZE (z 6)).wr LP_TRACE_RING.OK 1

/-- Every region's `OK` reads 0 (R370, R371). -/
def State.clearRegions (s : State) : State :=
  [CF_SHADOW_BASE.SHADOW_OK, WD_SMP_STORE.OK, WD_PJ_RING.OK, WD_PJ_STAMP.OK, WD_LOG_RING.OK, CG_SPILL_AREA.OK, LP_TRACE_RING.OK,
   PC_AREA.OK].foldl (fun t f => t.wr f 0) s

/-- The area is placed from a plan that leaves at least 1 GiB of target memory (R370). -/
def State.placeArea (s : State) : State :=
  let top := s.rd PC_MAP.TOP_GIB * 512
  let sum := fun (l : List Nat) => l.foldl (· + ·) 0
  let put := fun (t : State) (l : List Nat) =>
    let t := t.writeRegions (placeRegions top l)
    ((t.wr PC_AREA.BASE (top - sum l)).wr PC_AREA.SIZE (sum l)).wr PC_AREA.OK 1
  let t := s.clearRegions
  if sum s.planned + 512 ≤ top then put t s.planned
  else if sum coldPlan + 512 ≤ top then (put t coldPlan).post 3 0x0033 1 0
  else t.post 3 0x0033 1 1

/-- AREA (R370): once every channel of the set is READY or held out; the map is final from then on (R366). -/
def execArea (s : State) : Res :=
  .next
    (if s.on PC_MAP.FINAL ∨ (List.range 8).any (fun c => !s.stepEnded (7 + c)) then s
     else
       let t := s.placeArea.wr PC_MAP.FINAL 1
       t.recordStep 15 (if t.on PC_AREA.OK then 1 else 2))

/-- REPLAN (R371): a write of `REPLAN` = 1. -/
def State.replanWrite (s : State) : State :=
  if s.rd WD_STATUS.STATE = 0 ∧ s.rd CF_LD_STATUS.STATE = 0
      ∧ (List.range 4096).all (fun q => decide (s.rd QU_STATUS.STATE q = 0))
      ∧ !s.on WD_SMP_CTRL.LOG_EN ∧ !s.on WD_SMP_CTRL.PJ_EN ∧ !s.on LP_TRACE_CTRL.RING_EN then
    s.placeArea
  else s.wr PC_CTRL.REPLAN_ERR 1

/-- REPLAN (R371). -/
def execReplan (s : State) : Res := .next s.replanWrite

/-! ### Accesses -/

/-- DRAM_READ (R372, R380, R381). -/
def execDramRead (r : DramReq) (v : DramView) (s : State) : Res :=
  need (r.addr < 2 ^ 40) (s.dramAccess { r with data := [], posted := false } v)

/-- DRAM_WRITE (R372, R374, R382). -/
def execDramWrite (r : DramReq) (v : DramView) (s : State) : Res :=
  need (decide (r.addr < 2 ^ 40) && decide (0 < r.data.length)) (s.dramAccess { r with len := r.data.length } v)

/-- WC_TIMEOUT (R374). -/
def execWcTimeout (chan page : Nat) (v : DramView) (s : State) : Res :=
  need (chan < 8) (if (s.pagePlace page).1 = chan ∧ !s.halted then s.flushHalf page v else s)

/-- The highest count owed by any rank of the channel (R375). -/
def State.showOwed (s : State) (c : Nat) : State :=
  s.wr DC_REFRESH.OWED ((List.range 4).foldl (fun m r => max m (Tab.get 0 s.dram.owed (4 * c + r))) 0) c

/-- REFRESH_DUE (R375): postponed while a request waits for the rank, at the controller or beyond it, unless the limit is reached; owed refreshes go out as
one burst when none waits. -/
def execRefreshDue (chan rank : Nat) (busy : Bool) (s : State) : Res :=
  need (chan < 8 ∧ rank < 4)
    (let owed := Tab.get 0 s.dram.owed (4 * chan + rank)
     if busy || s.dram.queue.any (fun w => decide (w.chan = chan ∧ (s.rowOf chan ((s.dramPlace w.req.addr).2 / 128)).rank = rank)) then
       if owed < s.rd DC_SCHED.REF_POSTPONE chan then
         (s.dr (fun d => { d with owed := Tab.set natLt 0 d.owed (4 * chan + rank) (owed + 1) })).showOwed chan
       else s
     else if owed = 0 then s
     else ((s.dr (fun d => { d with owed := Tab.set natLt 0 d.owed (4 * chan + rank) 0 })).showOwed chan).count DC_REFRESH.BURSTS 1 chan)

/-- DRAM_WRITEBACK (R384): the corrected page is rewritten, unless a write overtook it. -/
def execDramWriteback (page : Nat) (s : State) : Res :=
  .next
    (if page ∈ s.dram.writebacks ∧ !s.halted then
       s.dr (fun d => { d with
         writebacks := d.writebacks.filter (fun q => decide (q ≠ page))
         pages := Tab.set natLt .clean d.pages page { (Tab.get .clean d.pages page) with errs := [] } })
     else s)

/-- FILL_COMPLETE (R385): the block is live, and a write that waited takes the tracker. -/
def execFillComplete (chan block : Nat) (s : State) : Res :=
  need (chan < 8)
    (if s.dram.fills.any (fun f => decide (f.chan = chan ∧ f.block = block)) ∧ !s.halted then
       let t := s.dr (fun d => { d with
         fills := d.fills.filter (fun f => !decide (f.chan = chan ∧ f.block = block))
         live := Tab.set natLt false d.live (chan * 2 ^ 21 + block) true })
       let t := match t.dram.trackerWait.find? (fun p => decide (p.1 = chan)) with
         | some p => t.dr (fun d => { d with
             trackerWait := d.trackerWait.filter (fun x => decide (x ≠ p)), fills := d.fills ++ [({ chan := chan, block := p.2, marked := [] } : Fill)] })
         | none => t
       t.showFresh chan
     else s)

/-- FLIP_ARM (R386): a write of `DC_FLIP_CTRL` with `ARM` = 1. -/
def execFlipArm (chan value : Nat) (s : State) : Res :=
  need (chan < 8)
    ((s.setFields [DC_FLIP_CTRL.VAL, DC_FLIP_CTRL.MATCH_EN, DC_FLIP_CTRL.MATCH] value chan).wr DC_FLIP_CTRL.ARM 1 chan)

/-- DIMM_THERMAL_SENSOR (R375). -/
def execDimmThermalSensor (chan : Nat) (hot : Bool) (s : State) : Res := need (chan < 8) (s.put DC_STATUS.HOT hot chan)

end Sys2Proof.Machine
end

