-- ==== Sys2Proof/Machine/RegReads.lean ====
section
/-! DEFINITION. Where a gallery address lies (01 R30 to R34), and what a read of a register returns and changes (00 R6 to
R11, with the registers whose value is the state of their block). -/

namespace Sys2Proof.Machine

/-- The kinds of window of 01 R30, R33 and R34. -/
inductive Window where
  | register | data | hole
  deriving DecidableEq, Repr

/-- The window of a gallery address (01 R30, R33, R34). -/
def windowOf (a : Nat) : Window :=
  if a < 0x010002000000 then .data
  else if a < 0x010004000000 then .register
  else if a < 0x010005000000 then .data
  else if a < 0x010006000000 then (if (a - 0x010005000000) % 0x40000 < 0x20000 then .data else .register)
  else if a < 0x010007000000 then .register
  else if a < 0x010010000000 then .hole
  else if a < 0x010038000000 then (if (a - 0x010010000000) % 0x100000 < 0x10000 then .register else .data)
  else if a < 0x010040000000 then .hole
  else if a < 0x010049000000 then .register else .hole

/-- The address lies in this block: the instance, and the offset within it (01 R32). -/
def Block.holds (b : Block) (a : Nat) : Option (Nat × Nat) :=
  let (base, span, stride, count) := b.place
  if a < base then none
  else
    let i := (a - base) / stride
    if i < count ∧ (a - base) % stride < span then some (i, (a - base) % stride) else none

/-- The block, instance and offset of an address; none where no block lies (00 R11). -/
def blockAt (a : Nat) : Option (Block × Nat × Nat) :=
  Block.all.findSome? (fun b => (b.holds a).map (fun p => (b, p.1, p.2)))

/-- The registers of a block. -/
def Block.table : Block → List RegRow
  | .cg => tableCg | .trc => tableTrc | .tr => tableTr | .qu => tableQu | .st => tableSt | .cf => tableCf
  | .cfs => tableCfs | .sb => tableSb | .wd => tableWd0 ++ tableWd1 | .cr => tableCr | .xc => tableXc | .xcp => tableXcp
  | .dc => tableDc | .pc => tablePc | .en => tableEn | .gl => tableGl | .fm => tableFm | .bw => tableBw | .sc => tableSc
  | .io => tableIo | .iob => tableIob | .iom => tableIom | .lp => tableLp | .ck => tableCk

/-- A register found: its row, its unit and index. -/
structure RegAt where
  row : RegRow
  unit : Nat
  idx : Nat
  deriving DecidableEq, Repr

/-- The register at an offset of an instance: `IO_BANK_STATUS` of the management bank is that of unit 16; the destinations
of `GL_ROUTE` end at 661 (13 R361, 21 R539). -/
def regAt (b : Block) (i off : Nat) : Option RegAt :=
  if b = .iom ∧ off = 0 then (findReg tableIob 0).map (fun p => ⟨p.1, 16, 0⟩)
  else
    match findReg b.table off with
    | some (r, j) => if b = .gl ∧ r.off = 0x100000 ∧ 662 ≤ j % 1024 then none else some ⟨r, if b = .iom then 0 else i, j⟩
    | none => none

/-- A field of a register's value replaced. -/
def withField (v : Nat) (f : Fld) (x : Nat) : Nat := clearMask v (ones f.wid * 2 ^ f.lsb) + x % 2 ^ f.wid * 2 ^ f.lsb

/-- What the gate waits for, as `WD_GATE_WAIT` shows it (08 R211, R212). -/
def State.gateWait (s : State) : Nat :=
  if s.wdState ≠ 2 then 0
  else
    let c := if s.winder.inStroke then s.winder.phase / max s.depthK 1 else 0
    let between := !s.winder.inStroke || decide (s.winder.phase = s.winder.slots * s.depthK)
    let held := between && s.slotHeld c
    (if s.winder.inStroke then 0 else s.portWait s.tally + b2n (decide (s.horizon ≤ s.tally)) * 2 ^ 32) + b2n held * 2 ^ 33

/-- The levels of `n` pins as bits. -/
def levels (n : Nat) (g : Nat → Bool) : Nat := (List.range n).foldl (fun v j => if g j then setBit v j else v) 0

/-- A register's value with the fields that show the present state of their block: stope state and bin queue (07 R205, 05
R149), owner key (06 R177), gate (08 R232), gated classes (02 R52), ports ready (09 R259), pin levels and control (21 R539). -/
def State.liveValue (s : State) (b : Block) (x : RegAt) (v : Nat) : Nat :=
  match b, x.row.off with
  | .st, 0x008 => withField v ST_STATUS.STATE (s.stopeState x.unit)
  | .st, 0x418 =>
    let p := s.stope x.unit
    let w := withField v ST_BQ_STATUS.MODE (p.bqmode x.idx)
    withField w ST_BQ_STATUS.COUNT (if p.bqmode x.idx = 0 then 0 else (p.queue x.idx).count)
  | .cf, 0x008 => withField v CF_LD_STATUS.OWNER_KEY (b2n s.crypto.owner.isSome)
  | .wd, 0x058 => s.gateWait
  | .xc, 0x000 => withField v XC_LINK_SUMMARY.READY (s.rd FM_READY.READY / 2 ^ 10)
  | .io, 0x010 => levels 64 s.mgLevel
  | .xcp, 0x1040 =>
    if s.on XC_LANE_EYE_RESULT.BUSY x.unit x.idx then withField v XC_LANE_EYE_RESULT.ERRORS (s.draw 40) else v
  | .iob, 0x008 => levels 48 (fun j => s.pinLive x.unit j && s.padLevel x.unit j)
  | .iob, 0x100 => withField v IO_PIN.FABRIC (b2n (s.pin x.unit x.idx).fabric)
  | .ck, 0x020 => withField v CK_GATE_STATUS.GATED s.gatedNow
  | .gl, 0x1000 => if 640 ≤ x.idx then clearMask v 0x0FFFFFFF else v
  | _, _ => v

/-- The MSI-X table and pending-bit array (01 R38): an entry holds address, data and the mask bit. -/
def State.msixRead (s : State) (off : Nat) : Nat :=
  if 0x180000 ≤ off then levels 64 (fun j => Tab.get false s.msix.pending ((off - 0x180000) / 8 * 64 + j))
  else
    let v := (off - 0x100000) / 16
    if off / 8 % 2 = 0 then Tab.get 0 s.msix.addr v
    else Tab.get 0 s.msix.data v + b2n (!Tab.get false s.msix.unmasked v) * 2 ^ 32

/-- The offset lies in the MSI-X table or array. -/
def isMsix (off : Nat) : Bool := (decide (0x100000 ≤ off) && decide (off < 0x108000)) || (decide (0x180000 ≤ off) && decide (off < 0x180100))

/-- A powered-down crew's registers read their cold values and ignore writes (16 R439; of the engine registers DEDUCED from
01 R28). -/
def State.crewOff (s : State) (b : Block) (i : Nat) : Bool :=
  match b with
  | .trc => !s.bit CK_CREW_PWR.ON_STAT i
  | .tr => !s.bit CK_CREW_PWR.ON_STAT (i / 8)
  | _ => false

/-- The cold value of a register. -/
def coldValue (x : RegAt) : Nat := x.row.fields.foldl (fun a f => if f.acc = .wo then a else a + f.coldAt x.unit x.idx * 2 ^ f.lsb) 0

/-- The registers of the Shift clock that latch (19 R495): the value of the access, and the state after. -/
def State.clockRead (s : State) (time : Bool) (off size : Nat) (peek : Bool) : Nat × State :=
  if off % 8 = 4 then ((if time then s.shift.timeHi else s.shift.countHi), s)
  else
    let v := s.shiftValue time
    let t := if peek then s
      else if size = 4 then s.shiftLatch time true
      else if time then s.shiftLatch time false else s
    (halfRead off size v, t)

/-- A read of a register that takes queue words or lies in a block with its own reading (12 R338, 16 R440, 19 R495). -/
def State.ownRead (s : State) (b : Block) (i off size : Nat) (m : Master) (peek : Bool) : Option (Nat × Nat × Bool × State) :=
  match b, off / 8 * 8 with
  | .qu, 0x818 => some (s.pop i m (if off % 8 = 0 then size else 0) peek)
  | .sc, 0x10 => let p := s.clockRead false off size peek; some (0, p.1, false, p.2)
  | .sc, 0x18 => let p := s.clockRead true off size peek; some (0, p.1, false, p.2)
  | .tr, _ => let p := s.trRead i off size peek; some (0, p.1, false, p.2)
  | .cg, o => if isMsix o then some (0, halfRead off size (s.msixRead o), false, s) else none
  | .fm, o =>
    if 0x100000 ≤ o ∧ o < 0x110000 then
      some (0, halfRead off size ((s.logSlot ((o - 0x100000) / 32)).getD (o / 8 % 4) 0), false, s)
    else none
  | _, _ => none

/-- A read of a register found in its table: RC fields clear unless the read is a peek (00 R8). -/
def State.plainRead (s : State) (b : Block) (x : RegAt) (off size : Nat) (peek : Bool) : Nat × State :=
  let v := s.liveValue b x (s.readFields x.row.fields x.unit x.idx)
  (halfRead off size v, if peek then s else s.clearRc x.row.fields (halfMask off size) x.unit x.idx)

/-- A read in a register window (00 R6 to R11): status, data, poison, and the state after. -/
def State.regRead (s : State) (a size : Nat) (m : Master) (peek : Bool) : Nat × Nat × Bool × State :=
  if (size ≠ 4 ∧ size ≠ 8) ∨ a % size ≠ 0 then (5, 0, false, s)
  else
    match blockAt a with
    | none => (0, 0, false, s)
    | some (b, i, off) =>
      if s.crewOff b i then
        (0, (match regAt b i (off / 8 * 8) with | some x => halfRead off size (coldValue x) | none => 0), false, s)
      else
        match s.ownRead b i off size m peek with
        | some r => r
        | none =>
          match regAt b i (off / 8 * 8) with
          | some x => let p := s.plainRead b x off size peek; (0, p.1, false, p.2)
          | none => (0, 0, false, s)

end Sys2Proof.Machine
end

