-- ==== Sys2Proof/Machine/TraceOps.lean ====
section
/-! DEFINITION. The trace path: packets, buffer, outputs (20 R519 to R523). -/

namespace Sys2Proof.Machine

/-- The trace path changed, and `BUF_FILL` with it. -/
def State.trac (s : State) (g : Trace → Trace) : State :=
  let t := { s with trace := g s.trace }
  t.wr LP_TRACE_STATUS.BUF_FILL t.trace.buffer.length

/-- The 16 bytes of a packet (R519). -/
def TracePkt.bytes : TracePkt → List Nat
  | .stim e j w t d => [e % 64, j % 32 + 32 * (w % 4)] ++ bytesOf 6 t ++ bytesOf 8 d
  | .sync y t => [0x7F, 0] ++ bytesOf 6 y ++ bytesOf 8 t
  | .lost e t n => [128 + e % 64, 0] ++ bytesOf 6 t ++ bytesOf 8 n
  | .idle => List.replicate 16 0xFF

/-- The trace buffer has room for `n` more packets (R521). -/
def State.traceRoom (s : State) (n : Nat) : Bool := decide (s.trace.buffer.length + n ≤ 256)

/-- A packet of an engine is dropped (R521, 16 R435). -/
def State.traceDrop (s : State) (e : Nat) : State :=
  (s.trac (fun x => { x with lost := Tab.set natLt 0 x.lost e (satAdd 64 (Tab.get 0 x.lost e) 1) })).count TR_STIM.DROPS 1 e

/-- The present SYNC packet (R519, R520). -/
def State.syncPkt (s : State) : TracePkt := .sync (s.rd WD_TALLY.TALLY % 2 ^ 48) s.nowNs

/-- A SYNC packet enters the buffer; where it is full, it goes with the next packet. -/
def State.traceSyncNow (s : State) : State :=
  if s.traceRoom 1 then s.trac (fun x => { x with buffer := x.buffer ++ [s.syncPkt], syncDue := false })
  else s.trac (fun x => { x with syncDue := true })

/-- A STIM packet enters its engine's FIFO, or is dropped (R521). -/
def State.traceStim (s : State) (e j w d : Nat) : State :=
  let f := Tab.get [] s.trace.fifos e
  if !s.on LP_TRACE_CTRL.EN ∨ 8 ≤ f.length then s.traceDrop e
  else s.trac (fun x => { x with fifos := Tab.set natLt [] x.fifos e (f ++ [.stim e j w (s.nowNs % 2 ^ 48) d]) })

/-- The engine that the funnel serves next (R521). -/
def State.traceNext (s : State) : Option Nat :=
  (List.range 64).findSome? (fun i =>
    let e := (s.trace.rr + 1 + i) % 64
    if (Tab.get [] s.trace.fifos e).isEmpty then none else some e)

/-- Time of a packet. -/
def TracePkt.time : TracePkt → Nat
  | .stim _ _ _ t _ => t
  | .sync _ t => t
  | .lost _ t _ => t
  | .idle => 0

/-- The engine whose packet it is. -/
def TracePkt.engine : TracePkt → Option Nat
  | .stim e _ _ _ _ => some e
  | .lost e _ _ => some e
  | _ => none

/-- The packets that go in front of a packet of engine `e` (R520, R521). -/
def State.traceFront (s : State) (e : Nat) (p : TracePkt) : List TracePkt :=
  let n := Tab.get 0 s.trace.lost e
  (if s.trace.syncDue then [s.syncPkt] else []) ++ (if n = 0 then [] else [.lost e p.time n]) ++ [p]

/-- One cycle of the funnel (R521). -/
def State.funnel (s : State) : State :=
  match s.traceNext with
  | none => s
  | some e =>
    match Tab.get [] s.trace.fifos e with
    | [] => s
    | p :: r =>
      let l := s.traceFront e p
      if !s.traceRoom l.length then s
      else s.trac (fun x => { x with
        buffer := x.buffer ++ l, syncDue := false, rr := e
        lost := Tab.set natLt 0 x.lost e 0, fifos := Tab.set natLt [] x.fifos e r })

/-! ### Outputs (R522, R523) -/

/-- Units of the trace ring. -/
def State.ringUnits (s : State) : Nat := s.rd LP_TRACE_RING.SIZE * 131072

/-- The ring is full (R523). -/
def State.ringFull (s : State) : Bool :=
  decide (s.ringUnits ≤ (s.rd LP_TRACE_POS.WPOS + 2 ^ 32 - s.rd LP_TRACE_POS.RPOS) % 2 ^ 32)

/-- Ring output runs: enabled, placed, not stopped by an error (R523). -/
def State.ringRuns (s : State) : Bool :=
  s.on LP_TRACE_CTRL.RING_EN && s.on LP_TRACE_RING.OK && !s.on LP_TRACE_STATUS.RING_ERR

/-- A write of the trace path to DRAM gets an error response (01 R28, R35; 15 R405). -/
def State.ringError (s : State) (a : Nat) : Bool :=
  s.halted || !s.ready (2 + (s.dramPlace a).1) || decide (s.rd PC_MAP.TOP_GIB * 2 ^ 30 < a + 64)

/-- A complete ring line is written (R523). -/
def State.ringLine (s : State) : State :=
  let bytes := s.trace.line.flatMap TracePkt.bytes
  let n := s.ringUnits
  let a := s.rd LP_TRACE_RING.BASE * 2 ^ 21 + (if n = 0 then 0 else s.rd LP_TRACE_POS.WPOS % n) * 16
  let t := s.trac (fun x => { x with line := [] })
  if s.ringError a then t.wr LP_TRACE_STATUS.RING_ERR 1
  else
    let t := if s.ringFull then t.wr LP_TRACE_STATUS.WRAPPED 1 else t
    let t := (t.agentStore a bytes).countWrap LP_TRACE_POS.WPOS 4
    if t.on LP_TRACE_CTRL.STOP_ON_FULL ∧ t.ringFull then t.wr LP_TRACE_STATUS.FULL 1 else t

/-- The ring takes a packet (R523). -/
def State.ringTake (s : State) (p : TracePkt) : State :=
  if !s.ringRuns then s
  else if s.on LP_TRACE_STATUS.FULL ∨ (s.on LP_TRACE_CTRL.STOP_ON_FULL ∧ s.ringFull) then
    let t := s.wr LP_TRACE_STATUS.FULL 1
    match p.engine with
    | some e => t.traceDrop e
    | none => t
  else
    let t := s.trac (fun x => { x with line := x.line ++ [p] })
    if 4 ≤ t.trace.line.length then t.ringLine else t

/-- The trace pins carry what is sent: enabled, held by the TRACE block (21 R536), their bank ON. -/
def State.pinsRun (s : State) : Bool := s.on LP_TRACE_CTRL.PINS_EN && s.mgHolders.contains 5 && decide (s.rd IO_BANK_STATUS.STATE 16 = 2)

/-- The pins take a packet (R522): an IDLE unit comes before a SYNC. With the TRACE block's pins held elsewhere the bytes
go nowhere (21 R536). -/
def State.pinsTake (s : State) (p : TracePkt) : State :=
  if !s.pinsRun then s
  else
    match p with
    | .sync _ _ => (s.emit (.traceBytes TracePkt.idle.bytes)).emit (.traceBytes p.bytes)
    | _ => s.emit (.traceBytes p.bytes)

/-- The oldest packet leaves the buffer; with none there the pins send an IDLE unit (R522, R523). -/
def State.traceOut (s : State) : State :=
  match s.trace.buffer with
  | [] => s.pinsTake .idle
  | p :: r => ((s.trac (fun x => { x with buffer := r })).pinsTake p).ringTake p

/-- A partly filled ring line is completed with IDLE units (R523). -/
def State.traceFlush (s : State) : State :=
  if s.trace.line.isEmpty ∨ !s.ringRuns then s
  else (s.trac (fun x => { x with line := x.line ++ List.replicate (4 - x.line.length) .idle })).ringLine

/-- A write of `LP_TRACE_CTRL` (R520, R524): a change of `EN` from 0 to 1 sends a SYNC. -/
def State.writeTraceCtrl (s : State) (v : Nat) : State :=
  let mhz := bitsOf v 8 9
  let ms := bitsOf v 24 8
  let t := s.setFields [LP_TRACE_CTRL.EN, LP_TRACE_CTRL.PINS_EN, LP_TRACE_CTRL.RING_EN, LP_TRACE_CTRL.STOP_ON_FULL] v
  let t := if 50 ≤ mhz ∧ mhz ≤ 300 then t.wr LP_TRACE_CTRL.TRC_MHZ mhz else t
  let t := t.wr LP_TRACE_CTRL.SYNC_MS (max 1 ms)
  if t.on LP_TRACE_CTRL.EN ∧ !s.on LP_TRACE_CTRL.EN then t.traceSyncNow else t

end Sys2Proof.Machine
end

