-- ==== Sys2Proof/Machine/LampOps.lean ====
section
/-! DEFINITION. Unlocking the Lamp port (20 R514 to R517): what a write of `LP_UNLOCK` and the two timers do. -/

namespace Sys2Proof.Machine

/-- The hidden state of the Lamp port changed. -/
def State.lp (s : State) (g : Lamp → Lamp) : State := { s with lamp := g s.lamp }

/-- The pending challenge is gone: `CHAL_VALID` clears, and the challenge reads 0 (R516, R524). -/
def State.dropChallenge (s : State) : State :=
  ((s.wr LP_STATUS.CHAL_VALID 0).wr LP_CHALLENGE.CHAL 0 0 0).wr LP_CHALLENGE.CHAL 0 0 1

/-- A GET is refused (R517); `LEVEL` is 1 or 2 (R524). -/
def State.getRefused (s : State) (level : Nat) : Bool :=
  s.crypto.owner.isNone || decide (2 < level) || decide (level ≤ s.rd LP_STATUS.LEVEL) || decide (s.rd LP_STATUS.MAX < level)
    || s.on LP_STATUS.LOCKOUT || decide (16 ≤ s.rd LP_STATUS.FAIL_COUNT) || s.halted

/-- GET = 1 (R516, R517): the random source draws a challenge, which replaces a pending one. -/
def State.lampGet (s : State) (level : Nat) : State :=
  if s.getRefused level then s.wr LP_STATUS.UNLOCK_ERR 1
  else
    let a := s.draw 64
    let t := s.drawn
    let b := t.draw 64
    let t := (t.drawn.wr LP_CHALLENGE.CHAL a 0 0).wr LP_CHALLENGE.CHAL b 0 1
    (t.wr LP_STATUS.CHAL_VALID 1).lp (fun l => { l with want := level % 4 })

/-- *K*ₗ (R516): the KDF of R155 over the owner key, label "LAMP UNLOCK", context `SERIAL`. -/
def State.lampKey (s : State) (owner : Nat) : Nat :=
  let label := [0x4C, 0x41, 0x4D, 0x50, 0x20, 0x55, 0x4E, 0x4C, 0x4F, 0x43, 0x4B]
  kdf256 owner label (bytesOf 6 (s.rd FM_ID.SERIAL))

/-- The 16 bytes of the response that unlocks (R516 step 3), first byte first. -/
def State.lampAnswer (s : State) (owner : Nat) : List Nat :=
  let chal := bytesOf 8 (s.rd LP_CHALLENGE.CHAL 0 0) ++ bytesOf 8 (s.rd LP_CHALLENGE.CHAL 0 1)
  (bytesOf 16 (Config.cmac (s.lampKey owner) (chal ++ [s.lamp.want] ++ bytesOf 6 (s.rd FM_ID.SERIAL)))).reverse

/-- The response registers hold the response. -/
def State.lampMatches (s : State) : Bool :=
  match s.crypto.owner with
  | some k => decide (bytesOf 8 (s.lamp.resp.getD 0 0) ++ bytesOf 8 (s.lamp.resp.getD 1 0) = s.lampAnswer k)
  | none => false

/-- SUBMIT = 1 (R516, R517). -/
def State.lampSubmit (s : State) : State :=
  if !s.on LP_STATUS.CHAL_VALID then s.wr LP_STATUS.UNLOCK_ERR 1
  else if s.lampMatches then s.dropChallenge.wr LP_STATUS.LEVEL s.lamp.want
  else
    ((s.dropChallenge.count LP_STATUS.FAIL_COUNT).wr LP_STATUS.UNLOCK_ERR 1).wr LP_STATUS.LOCKOUT 1

/-- LOCK = 1 (R515). -/
def State.lampLock (s : State) : State := s.wr LP_STATUS.LEVEL (s.rd LP_STATUS.DEFAULT)

/-- A write of `LP_UNLOCK` (R524): more than one of the three bits changes nothing and sets `UNLOCK_ERR`. -/
def State.writeUnlock (s : State) (v : Nat) : State :=
  match v.testBit 0, v.testBit 3, v.testBit 4 with
  | true, false, false => s.lampGet (bitsOf v 1 2)
  | false, true, false => s.lampSubmit
  | false, false, true => s.lampLock
  | false, false, false => s
  | _, _, _ => s.wr LP_STATUS.UNLOCK_ERR 1

end Sys2Proof.Machine
end

