-- ==== Sys2Proof/Machine/Mailbox.lean ====
section
/-! DEFINITION. The Foreman's mailbox (18 R473, R479 to R482). A command's row is the write of `FM_MB_REQ` and the Foreman's
carrying it out; MB_DONE shows the result. -/

namespace Sys2Proof.Machine

/-- Word `i` of the payload. -/
def State.mbWord (s : State) (i : Nat) : Nat := s.rd FM_MB_DATA.DATA 0 i

/-- Byte `i` of the payload. -/
def State.mbByte (s : State) (i : Nat) : Nat := bitsOf (s.mbWord (i / 8)) (8 * (i % 8)) 8

/-- What FLASH_UPDATE meets (R473): the staged image, and whether programming and the read-back succeed. -/
structure UpdateView where
  image : ImageView
  programOk : Bool
  deriving DecidableEq, Repr

/-- The outcome of a command: result code, response words, state. -/
abbrev MbOut := Nat × List Nat × State

/-- IDENTIFY (R480). -/
def State.mbIdentify (s : State) : MbOut :=
  (0, [s.raw FM_ID.regs, s.fm.primaryVer + 2 ^ 32 * s.fm.goldenVer, s.rd FM_BOOT.IMAGE + 2 ^ 32 * s.fm.svn], s)

/-- The 8 bytes of a channel's DIMM serial numbers, DIMM 0 low. -/
def serialWord (l : List Nat) : Nat := l.getD 0 0 % 2 ^ 32 + 2 ^ 32 * (l.getD 1 0 % 2 ^ 32)

/-- READ_RECORD (R480). -/
def State.mbReadRecord (s : State) : MbOut :=
  let r := s.fm.record
  let dram := r.failed.foldl (fun m f => setBit m f.1) 0
  (0, [s.rd FM_START_REC.REC, r.rec_, dram + 2 ^ 8 * r.ports + 2 ^ 24 * r.crews + 2 ^ 32 * b2n r.primary.isSome]
    ++ (List.range 8).map (fun c => serialWord (Tab.get [] s.dram.serials c)), s)

/-- CLEAR_RECORD (R471, R480): the record in flash is written at once. -/
def State.mbClearRecord (s : State) (mask : Nat) : MbOut :=
  let t := s.onRecord (fun r => { r with
    primary := if mask.testBit 3 then none else r.primary
    failed := r.failed.filter (fun f => !mask.testBit (7 + f.1))
    ports := if mask.testBit 28 then 0 else r.ports
    crews := clearMask r.crews (bitsOf mask 20 8) })
  let t := if mask.testBit 3 then t.wr FM_BOOT.PRIMARY_BAD 0 else t
  (0, [], t.writeRecord (some { t.fm.record with rec_ := t.flash.record.rec_ }))

/-- A slot's range is OFF (15 R390). -/
def State.slotFree (s : State) (k : Nat) : Bool := decide (s.rangeState k = 0) && !s.crypto.enabling.contains k

/-- A slot takes a key. -/
def State.fillSlot (s : State) (k key : Nat) : State := (s.en (fun c => { c with slots := Tab.erase c.slots k ++ [(k, key)] })).showKeys

/-- The key-encryption key of KEY_LOAD (R481): the KDF of 06 R155 over the device stream key, label "KEY WRAP", context `SERIAL`. -/
def State.wrapKey (s : State) : Nat :=
  kdf256 Config.deviceStreamKey [0x4B, 0x45, 0x59, 0x20, 0x57, 0x52, 0x41, 0x50] (bytesOf 6 (s.rd FM_ID.SERIAL))

/-- The unwrapping rounds of AES Key Wrap, the last first (R481): the integrity register and the four semiblocks of the key. -/
def unwrapRounds (kek : Nat) : Nat → Nat × List Nat → Nat × List Nat
  | 0, x => x
  | t + 1, (a, r) =>
    let i := t % 4
    let b := Config.aes256Inv kek ((a ^^^ (t + 1)) * 2 ^ 64 + r.getD i 0)
    unwrapRounds kek t (b / 2 ^ 64, r.set i (b % 2 ^ 64))

/-- AES Key Wrap's unwrapping of 40 bytes (R481): none where the integrity check fails. -/
def keyUnwrap (kek : Nat) (c : List Nat) : Option Nat :=
  let semi := fun (i : Nat) => leNat ((c.drop (8 * i)).take 8).reverse
  let (a, r) := unwrapRounds kek 24 (semi 0, (List.range 4).map (fun i => semi (i + 1)))
  if a = 0xA6A6A6A6A6A6A6A6 then some (r.foldl (fun k v => k * 2 ^ 64 + v) 0) else none

/-- KEY_LOAD (R480, R481). -/
def State.mbKeyLoad (s : State) (slot : Nat) : MbOut :=
  if 16 < slot then (2, [], s)
  else if (slot < 16 ∧ !s.slotFree slot) ∨ (slot = 16 ∧ s.crypto.owner.isSome) then (3, [], s)
  else match keyUnwrap s.wrapKey ((List.range 40).map (fun i => s.mbByte (8 + i))) with
    | none => (4, [], s)
    | some key => (0, [], if slot < 16 then s.fillSlot slot (key % 2 ^ 256) else s.en (fun c => { c with owner := some (key % 2 ^ 256) }))

/-- KEY_DRAW (R480): the key is the part's own, a free value. -/
def State.mbKeyDraw (s : State) (slot : Nat) : MbOut :=
  if 15 < slot then (2, [], s)
  else if !s.slotFree slot then (3, [], s)
  else (0, [], s.drawn.fillSlot slot (s.draw 256))

/-- KEY_CLEAR (R480). -/
def State.mbKeyClear (s : State) (slot : Nat) : MbOut :=
  if 16 < slot then (2, [], s)
  else if slot = 16 then (0, [], s.en (fun c => { c with owner := none }))
  else if !s.slotFree slot then (3, [], s)
  else (0, [], (s.en (fun c => { c with slots := Tab.erase c.slots slot })).showKeys)

/-- FLASH_UPDATE (R473). -/
def State.mbFlashUpdate (s : State) (v : UpdateView) : MbOut :=
  let target := s.mbByte 0
  let len := s.mbWord 2 % 2 ^ 32
  if 1 < target ∨ 1 < s.mbByte 1 then (2, [], s)
  else if (target = 1 ∧ s.rd FM_BOOT.IMAGE = 1 ∧ !s.on FM_BOOT.RECOVERY) ∨ regionBytes target < len ∨ s.mbWord 1 % 64 ≠ 0 then (3, [], s)
  else if (imgFail v.image target).isSome ∨ !imgDiagOk v.image then (4, [], s)
  else if !v.programOk then (5, [], s)
  else if target = 0 then
    let t := (s.onRecord (fun r => { r with primary := none })).wr FM_BOOT.PRIMARY_BAD 0
    (0, [(imgFwVer v.image) % 2 ^ 32], t.writeRecord (some { t.flash.record with primary := none }))
  else (0, [(imgFwVer v.image) % 2 ^ 32], s)

/-- REMAP_ADD (R480): the row takes effect at the next start. -/
def State.mbRemapAdd (s : State) : MbOut :=
  let c := s.mbByte 0
  let e := s.mbWord 0 / 2 ^ 32
  let at_ := fun (f : Fld) => bitsOf e f.lsb f.wid
  if 7 < c ∨ at_ DC_PPR.VALID = 0 then (2, [], s)
  else if 32 ≤ (s.flash.rows.filter (fun r => decide (r.chan = c))).length then (3, [], s)
  else
    let row : FlashRow := ⟨c, at_ DC_PPR.ROW, at_ DC_PPR.BG, at_ DC_PPR.BANK, at_ DC_PPR.RANK, decide (at_ DC_PPR.HARD = 1), false⟩
    (0, [], { s with flash := { s.flash with rows := s.flash.rows ++ [row] } })

/-- An entry that the flash ring or the on-chip ring holds (R478). -/
def State.logHeld (s : State) (seq : Nat) : Option LogRec :=
  match s.fm.log.find? (fun x => decide (x.seq = seq)) with
  | some x => some x
  | none => s.flash.log.find? (fun x => decide (x.seq = seq))

/-- READ_LOG (R480). -/
def State.mbReadLog (s : State) (first : Nat) : MbOut :=
  let next := s.rd FM_LOG_POS.NEXT_SEQ
  let l := (List.range 8).filterMap (fun i => if first + i < next then s.logHeld (first + i) else none)
  if next ≤ first ∨ (s.logHeld first).isNone then (3, [], s) else (0, l.flatMap logWords, s)

/-- Payload words that a command needs (R480). -/
def mbNeeds (op : Nat) : Nat := [0, 0, 0, 1, 6, 1, 1, 3, 1, 1, 0].getD op 0

/-- The Foreman carries out a command; none where it needs a view that the write does not give. -/
def State.mbCarry (s : State) (op len : Nat) (v : Option UpdateView) : Option MbOut :=
  if s.halted then some (6, [], s)
  else if op = 0 ∨ 10 < op ∨ (s.on FM_BOOT.RECOVERY ∧ op ≠ 1 ∧ op ≠ 2 ∧ op ≠ 7) then some (1, [], s)
  else if 32 < len ∨ len < mbNeeds op then some (2, [], s)
  else match op with
    | 1 => some s.mbIdentify
    | 2 => some s.mbReadRecord
    | 3 => some (s.mbClearRecord (s.mbWord 0))
    | 4 => some (s.mbKeyLoad (s.mbByte 0))
    | 5 => some (s.mbKeyDraw (s.mbByte 0))
    | 6 => some (s.mbKeyClear (s.mbByte 0))
    | 7 => v.map s.mbFlashUpdate
    | 8 => some s.mbRemapAdd
    | 9 => some (s.mbReadLog (s.mbWord 0 % 2 ^ 32))
    | _ => some (0, (List.range len).map s.mbWord, s)

/-- The Foreman answers the mailbox: booted, or in recovery (R466). -/
def State.mbServes (s : State) : Bool := s.ready 0 || s.on FM_BOOT.RECOVERY || s.halted

/-- The command in progress is carried out where it can be. -/
def State.mbRun (s : State) (v : Option UpdateView) : State :=
  match s.fm.mailbox with
  | some m =>
    if m.done.isSome ∨ !s.mbServes then s
    else match s.mbCarry m.op m.len v with
      | some (r, resp, t) => t.fo (fun f => { f with mailbox := some { m with done := some (r, resp) } })
      | none => s
  | none => s

/-- MB_DONE: response, `RESULT`, `RLEN` and `TAG` are written, `BUSY` clears, `DONE` sets (R479). -/
def State.mbFinish (s : State) : State :=
  match s.fm.mailbox with
  | some ⟨_, _, tag, some (r, resp)⟩ =>
    let t := ((List.range resp.length).zip resp).foldl (fun t p => t.wr FM_MB_DATA.DATA p.2 0 p.1) s
    let t := ((t.wr FM_MB_STATUS.RESULT r).wr FM_MB_STATUS.RLEN resp.length).wr FM_MB_STATUS.TAG tag
    let t := ((t.wr FM_MB_STATUS.BUSY 0).wr FM_MB_STATUS.DONE 1).fo (fun f => { f with mailbox := none })
    t.raise FM_IRQ_STATUS.SRC FM_IRQ_EN.EN FM_IRQ_EN.VECTOR 0
  | _ => s

/-- A write of `FM_MB_REQ` (R479): ignored while `BUSY`; on a halted part the command completes at once. -/
def State.mbIssue (s : State) (op len tag : Nat) (v : Option UpdateView) : State :=
  if s.on FM_MB_STATUS.BUSY then s.wr FM_MB_STATUS.MB_OVR 1
  else
    let t := ((s.wr FM_MB_STATUS.BUSY 1).fo (fun f => { f with mailbox := some ⟨op % 256, len % 256, tag % 65536, none⟩ })).mbRun v
    if s.halted then t.mbFinish else t

/-- A command of the mailbox: one that waits to be carried out is; else the write issues it. -/
def State.mbCommand (s : State) (op len tag : Nat) (v : Option UpdateView) : State :=
  match s.fm.mailbox with
  | some m => if m.op = op ∧ m.done.isNone then s.mbRun v else s.mbIssue op len tag v
  | none => s.mbIssue op len tag v

/-- IDENTIFY. -/
def execIdentify (len tag : Nat) (s : State) : Res := .next (s.mbCommand 1 len tag none)
/-- READ_RECORD. -/
def execReadRecord (len tag : Nat) (s : State) : Res := .next (s.mbCommand 2 len tag none)
/-- CLEAR_RECORD. -/
def execClearRecord (len tag : Nat) (s : State) : Res := .next (s.mbCommand 3 len tag none)
/-- KEY_LOAD. -/
def execKeyLoad (len tag : Nat) (s : State) : Res := .next (s.mbCommand 4 len tag none)
/-- KEY_DRAW. -/
def execKeyDraw (len tag : Nat) (s : State) : Res := .next (s.mbCommand 5 len tag none)
/-- KEY_CLEAR. -/
def execKeyClear (len tag : Nat) (s : State) : Res := .next (s.mbCommand 6 len tag none)
/-- FLASH_UPDATE (R473). -/
def execFlashUpdate (len tag : Nat) (header : List Nat) (hashes : List Nat × List Nat) (programOk : Bool) (s : State) : Res :=
  .next (s.mbCommand 7 len tag (some ⟨⟨header, hashes.1, hashes.2⟩, programOk⟩))
/-- REMAP_ADD. -/
def execRemapAdd (len tag : Nat) (s : State) : Res := .next (s.mbCommand 8 len tag none)
/-- READ_LOG. -/
def execReadLog (len tag : Nat) (s : State) : Res := .next (s.mbCommand 9 len tag none)
/-- ECHO. -/
def execEcho (len tag : Nat) (s : State) : Res := .next (s.mbCommand 10 len tag none)
/-- MB_DONE. -/
def execMbDone (s : State) : Res := .next s.mbFinish

end Sys2Proof.Machine
end

