-- ==== Sys2Proof/Machine/Ranges.lean ====
section
/-! DEFINITION. Protected ranges and the counter tree's fetches (15 R394, R395, R401, R403). -/

namespace Sys2Proof.Machine

/-- Two spans meet. -/
def spansMeet (a b : Nat × Nat) : Bool := decide (a.1 < b.2) && decide (b.1 < a.2)

/-- ENABLE may be accepted (R394). -/
def State.rangeOk (s : State) (k : Nat) : Bool :=
  let r := s.rangeSpan k
  let t := s.treeSpan k
  let area := s.rd PC_AREA.BASE * 2 ^ 21
  let len := s.rd EN_RANGE_BASE.LEN 0 k
  let tlen := s.rd EN_RANGE_TREE.LEN 0 k
  let others := (List.range 16).filter (fun j => decide (j ≠ k) && (decide (s.rangeState j ≠ 0) || s.crypto.enabling.contains j))
  decide (s.rangeState k = 0) && !s.crypto.enabling.contains k && s.crypto.slots.any (fun p => decide (p.1 = k)) && s.on PC_MAP.FINAL
    && decide (1 ≤ len ∧ len ≤ 524288) && decide (1 ≤ tlen ∧ tlen ≤ 524288) && decide (r.2 ≤ area) && decide (t.2 ≤ area)
    && !spansMeet r t
    && others.all (fun j => !spansMeet r (s.rangeSpan j) && !spansMeet r (s.treeSpan j) && !spansMeet t (s.rangeSpan j) && !spansMeet t (s.treeSpan j))
    && decide (treeBytes (len * 2 ^ 14) ≤ tlen * 2 ^ 21)

/-- A write of `EN_RANGE_CTRL` with a command (R394, R395, R407). -/
def State.rangeCmd (s : State) (k cmd : Nat) : State :=
  if cmd = 0 then s
  else if cmd = 1 ∧ s.rangeOk k ∧ !s.halted then s.dramIdle.en (fun c => { c with enabling := c.enabling ++ [k] })
  else if cmd = 2 ∧ (s.rangeState k = 1 ∨ s.rangeState k = 3) ∧ !s.halted then
    -- what waits at the controllers and the combiner halves of the range complete
    let halves := s.dramIdle.dram.combiner.filter (fun h => inSpan (s.rangeSpan k) h.req.addr)
    (halves.foldl (fun t h => t.flushHalf (pageOf h.req) .plain) s.dramIdle).wr EN_RANGE_CTRL.STATE 2 0 k
  else s.wr EN_RANGE_CTRL.RANGE_ERR 1 0 k

/-- RANGE_ENABLE (R394). -/
def execRangeEnable (key : Nat) (s : State) : Res := need (key < 16) (s.rangeCmd key 1)

/-- The counters of a key id return to 0 (R394, R395). -/
def State.zeroCounters (s : State) (k : Nat) : State :=
  s.en (fun c => { c with counters := c.counters.filter (fun p => decide (p.1.unit ≠ k)), cache := c.cache.filter (fun e => decide (e.key ≠ k)) })

/-- RANGE_ENABLE_DONE (R394). -/
def execRangeEnableDone (key : Nat) (s : State) : Res :=
  need (key < 16)
    (if s.crypto.enabling.contains key then
       let t := ((s.clearSpan (s.rangeSpan key)).clearSpan (s.treeSpan key)).zeroCounters key
       let t := t.en (fun c => { c with enabling := c.enabling.filter (fun k => decide (k ≠ key)) })
       let t := t.wr EN_RANGE_CTRL.HEIGHT (treeHeight (t.rd EN_RANGE_BASE.LEN 0 key * 2 ^ 14)) 0 key
       ((t.wr EN_RANGE_CTRL.STATE 1 0 key).showRange key).releaseHeld
     else s)

/-- RANGE_RETIRE (R395). -/
def execRangeRetire (key : Nat) (s : State) : Res := need (key < 16) (s.rangeCmd key 2)

/-- RANGE_RETIRE_DONE (R395): once the accesses already accepted have drained. -/
def execRangeRetireDone (key : Nat) (s : State) : Res :=
  need (key < 16)
    (if s.rangeState key = 2 ∧ !s.crypto.waiting.any (fun w => inSpan (s.rangeSpan key) w.req.addr) then
       let t := ((s.clearSpan (s.rangeSpan key)).clearSpan (s.treeSpan key)).zeroCounters key
       let t := (List.range 64).foldl (fun t i =>
         if t.rd EN_FAULT.KEY_ID 0 i = key ∧ t.on EN_FAULT.VALID 0 i then EN_FAULT.regs.foldl (fun t f => t.wr f 0 0 i) t else t) t
       let t := (t.en (fun c => { c with slots := Tab.erase c.slots key })).showKeys
       let t := (((t.wr EN_RANGE_CTRL.STATE 0 0 key).wr EN_RANGE_CTRL.HEIGHT 0 0 key).showRange key).showFaulted
       t.releaseHeld
     else s)

/-- A fault record for a node, or FAULT for its range where all are in use (R403). -/
def State.nodeFault (s : State) (k level idx : Nat) : State :=
  let t := s.count EN_STATUS.NODE_UE
  match (List.range 64).find? (fun i => !t.on EN_FAULT.VALID 0 i) with
  | some i =>
    let t := (((t.wr EN_FAULT.VALID 1 0 i).wr EN_FAULT.KEY_ID k 0 i).wr EN_FAULT.LEVEL level 0 i).wr EN_FAULT.INDEX idx 0 i
    ((t.showRange k).showFaulted).post 4 0x0041 2 (t.raw EN_FAULT.regs 0 i)
  | none => (t.rangeFault k).post 4 0x0041 2 (2 * k + 32 * level + 1024 * idx)

/-- Requests that waited for a counter proceed in order: those under a fault end, those whose node is held are served. -/
def State.retryWaiting (s : State) : State :=
  let l := s.crypto.waiting
  l.foldl (fun t w =>
    let page := pageOf w.req
    if t.halted then t
    else if t.pageFaulted page then
      -- an acknowledged write is dropped and logged with its address (R403)
      if isWrite w.req ∧ w.req.posted then t.post 4 0x0042 2 w.req.addr else t.faultAnswer w.req
    else match t.protectedBy (page * 128) with
      | none => t.servePage w.req w.view
      | some k =>
        if t.nodeHeld k 1 (t.rangePage k page / 8)
            ∧ !t.crypto.waiting.any (fun x => decide (pageOf x.req = page)) then t.servePage w.req w.view
        else t.en (fun c => { c with waiting := c.waiting ++ [w] })) (s.en (fun c => { c with waiting := [] }))

/-- NODE_FETCH_DONE (R397, R401, R403): the next node that the oldest waiting request needs arrives and is checked. -/
def execNodeFetchDone (v : DramView) (s : State) : Res :=
  .next
    (match s.crypto.waiting with
     | [] => s
     | w :: _ =>
       let page := pageOf w.req
       match s.protectedBy (page * 128) with
       | none => s.retryWaiting
       | some k =>
         match s.nextNode k page with
         | none => s.retryWaiting
         | some (l, i) =>
           let a := s.nodeAddr k l i
           if s.tagFails (a / 128) v then s.haltPart 2 1 k 0x3FF a
           else
             let d := s.decodePage (a / 128) v
             let bad := match d with
               | .uncorrectable _ => true
               | _ => false
             let s := s.eccCount (a / 128) 0x3FF d
             if bad then (s.nodeFault k l i).retryWaiting else (s.holdNode k l i).retryWaiting)

end Sys2Proof.Machine
end

