-- ==== Sys2Proof/Machine/Samples.lean ====
section
/-! DEFINITION. Core samples: COPY-OUT, the Corers' drain, completion, engines, restores (11 R285 to R304). -/

namespace Sys2Proof.Machine

/-- A system notice to an engine (R299, 16 R427): kind 1 SAMPLE, 2 RESTORE; a pending one is replaced and `OVR` sets. -/
def State.sysNotice (s : State) (kind slot tally e : Nat) : State :=
  let t := ((s.wr TR_SYSNOTE.KIND kind e).wr TR_SYSNOTE.SLOT slot e).wr TR_SYSNOTE_TALLY.TALLY tally e
  let t := if s.sampler.noticePend.testBit e then t.wr TR_SYSNOTE.OVR 1 e else t
  t.smp (fun x => { x with noticePend := setBit x.noticePend e })

/-- Notices to every engine that takes part. -/
def State.sysNotices (s : State) (kind slot tally : Nat) : State :=
  ((List.range 64).filter (fun e => s.bit WD_SMP_ENG.MASK e)).foldl (fun s e => s.sysNotice kind slot tally e) s

/-- A stope-port master transaction of the part has no response yet (R287 step 2). -/
def State.masterOut (s : State) : Bool := s.stopes.any (fun p => p.2.masters.any (fun m => m.resp.isNone))

/-- An event leaves the schedule; a SAMPLE command of a stopped group ends on this part with it (08 R225). -/
def State.sampleOver (s : State) (ev : SchedEvent) (result : Nat) : State :=
  let t := s.wd (fun w => { w with events := w.events.filter (fun e => decide (e ≠ ev)) })
  if t.wdState = 1 then (if ev.cause = 2 then t.cmdLocalDone result else t) else t.settle

/-- Steps 3 to 5 of R287: the sample of event `ev` is taken. -/
def State.takeSample (s : State) (ev : SchedEvent) : State :=
  let n := ev.slot
  let q := s.rd WD_SMP_SEQ.SEQ + 1
  let used := s.usedStopes
  let data : SlotData :=
    { stopes := used, f := s.rd CF_LOADED.F, k := s.rd CF_LOADED.K, crc := s.lineCrc, trig := s.winder.prevTrig
      shadows := [], mems := [], hist := s.xp.map (fun p => (p.1, p.2.history)), upSeq := s.queueSeqs true
      logPos := s.queueSeqs false }
  let t := used.foldl (fun t m => (List.range 18).foldl (fun t k => t.armMemory m k) (t.copyOutStope m)) s
  let t := (((t.emptySlot n).setSlot n data).wr WD_SLOT.STATE 1 0 n).put WD_SLOT.AUTO (decide (ev.cause = 1)) 0 n
  let t := ((t.wr WD_SLOT.SEQ q 0 n).wr WD_SLOT_TALLY.TALLY s.tally 0 n).wr WD_SMP_SEQ.SEQ q
  let t := ((t.wr WD_SMP_STATUS.READY 0).wr WD_SMP_STATUS.DRAINING 1).wr WD_SMP_STATUS.LAST_SLOT n
  let seams := (List.range 4).map (fun k => (k, used.filter (fun m => decide (m / 160 = k))))
  let t := t.smp (fun x => { x with
    epoch := q, draining := some n, drain := seams.filter (fun p => !p.2.isEmpty), drainFrame := [], pjDropping := false, logDropping := false
    noticeSample := s.rd WD_SMP_ENG.MASK })
  let t := seams.foldl (fun t p =>
    if p.2.isEmpty then t
    else ((((t.scrubPause p.1).wr CR_STATUS.DRAIN 1 p.1).wr CR_STATUS.COPY 1 p.1).wr CR_STATUS.STOPES_LEFT p.2.length p.1)) t
  let t := (t.countWrap WD_HOLDS_SAMPLE.COUNT).sysNotices 1 n s.tally
  t.sampleOver ev 0

/-- SAMPLE_COPY_OUT (R287): once `READY` is 1 and no stope-port transaction is outstanding. A slot that this part's store cannot hold takes no
sample, nor does any slot above the last sequence number (R291, R294; log entry 97). -/
def execSampleCopyOut (s : State) : Res :=
  .next
    (match s.sampleDue with
     | none => s
     | some ev =>
       if (s.wdState = 1 ∨ s.wdState = 2) ∧ s.on WD_SMP_STATUS.READY ∧ !s.masterOut then
         (if s.slotUsable ev.slot ∧ s.rd WD_SMP_SEQ.SEQ < ones 32 then s.takeSample ev else s.sampleOver ev 7).lateSpoil
       else s)

/-- Frame `j` of the 144 that hold shadows (R288). -/
def shadowFrame (j : Nat) : Nat := if j < 128 then 4448 + j else 4592 + (j - 128)

/-- CORER_DRAIN_FRAME (R288, R290): the next shadow frame of the seam goes to the shadow area. -/
def execCorerDrainFrame (seam : Nat) (uncorrectable storeError : Bool) (s : State) : Res :=
  need (seam < 4)
    (match s.sampler.draining, Tab.get [] s.sampler.drain seam with
     | some slot, n :: rest =>
       if uncorrectable then s.failSample 1
       else if storeError then s.failSample 2
       else
         let j := Tab.get 0 s.sampler.drainFrame seam
         let x := s.stope n
         let words := (List.range 64).map (fun w => Config.stateFrame x (shadowFrame j) w % 2 ^ 64)
         let t := s.agentStore (s.slotBase slot + 0x400000 + n * 0x12000 + j * 512) (words.flatMap wordBytes)
         let t := t.countWrap CR_STATUS.FRAMES 1 seam
         if j < 143 then t.smp (fun y => { y with drainFrame := Tab.set natLt 0 y.drainFrame seam (j + 1) })
         else
           let d := t.slotData slot
           let t := t.setSlot slot { d with shadows := d.shadows ++ [(n, ⟨x.shadow, x.shadowPorts⟩)] }
           let t := t.smp (fun y => { y with drainFrame := Tab.set natLt 0 y.drainFrame seam 0, drain := Tab.set natLt [] y.drain seam rest })
           let t := t.wr CR_STATUS.STOPES_LEFT rest.length seam
           if rest.isEmpty then (t.wr CR_STATUS.DRAIN 0 seam).scrubResume seam else t
     | _, _ => s)

/-- The readiness conditions of R286 hold for the draining sample. -/
def State.sampleDone (s : State) (slot : Nat) : Bool :=
  s.sampler.drain.isEmpty && (s.slotData slot).stopes.all (fun n => !s.on ST_MEM_JRNL.ARMED n)
    && decide (s.sampler.noticeSample = 0)

/-- SAMPLE_COMPLETE (R290): the slot becomes VALID. -/
def execSampleComplete (s : State) : Res :=
  .next
    (match s.sampler.draining with
     | none => s
     | some slot =>
       if s.sampleDone slot then
         (List.range 4).foldl (fun t k => t.wr CR_STATUS.COPY 0 k) ((s.wr WD_SLOT.STATE 2 0 slot).samplerReady)
       else s)

/-! ### Restores (R301, R302) -/

/-- The restored contents of a stope's memories and port state (R301 steps 2 and 3). -/
def State.restoreStope (s : State) (d : SlotData) (n : Nat) : State :=
  let kept := s.fabMem.filter (fun p => decide (p.1.unit ≠ n))
  let t := { s with
    fabMem := (d.mems.filter (fun (p : Key × Nat) => decide (p.1.unit = n))).foldl (fun m (p : Key × Nat) => Tab.set Key.lt 0 m p.1 p.2) kept
    fabErr := s.fabErr.filter (fun p => decide (p.1.unit ≠ n)) }
  let sh := Tab.get (⟨[], .cleared⟩ : StopeSample) d.shadows n
  (t.dropMoved n).updStope n (fun x => copyIn { x with shadow := sh.shadow, shadowPorts := sh.ports, journals := [], writebacks := [], lost := none })

/-- A group restore fails (R301, R310): every stope unconfigured, `VALID` 0, every slot EMPTY, the Winder UNLOADED. -/
def State.restoreFail (s : State) : State :=
  let t := (List.range 640).foldl (fun t n => if t.configured n then (t.leaveUse n).unconfigure n else t) s
  let t := (List.range 16).foldl (fun t k => t.emptySlot k) ((t.wr CF_LOADED.VALID 0).failSample 5)
  let t := (t.windTo 0).smp (fun x => { x with restoring := none, noticeRestore := 0 })
  let t := (List.range 4).foldl (fun t k => t.wr CR_STATUS.RESTORE 0 k) t
  if t.winder.recovery.isSome then t.recoveryFail else t.cmdLocalDone 7

/-- Step 5 of R301: samples with a higher sequence number become EMPTY, and the slot takes a new one as its epoch. At the last sequence number
it keeps that one (log entry 97). -/
def State.restoreEpoch (s : State) (slot : Nat) : State :=
  let q := s.rd WD_SLOT.SEQ 0 slot
  let newer := (List.range 16).filter (fun k => decide (s.slotState k ≠ 0) && decide (q < s.rd WD_SLOT.SEQ 0 k) && decide (k ≠ slot))
  let t := if newer.any (fun k => decide (some k = s.sampler.draining)) then s.failSample 5 else s
  let t := newer.foldl (fun t k => t.emptySlot k) t
  let q' := min (t.rd WD_SMP_SEQ.SEQ + 1) (ones 32)
  let t := ((t.wr WD_SMP_SEQ.SEQ q').wr WD_SLOT.SEQ q' 0 slot).wr WD_SMP_STATUS.RESTORED_SLOT slot
  t.smp (fun x => { x with epoch := q' })

/-- The restore completes on this part (R301 steps 5 and 6, R309; 08 R227, R228). -/
def State.restoreFinish (s : State) : State :=
  let t := match s.sampler.restoring with
    | some (slot, _) => s.restoreEpoch slot
    | none => s
  let t := ((t.windTo 1).smp (fun x => { x with restoring := none })).refreshReplaying
  match t.winder.recovery with
  | some r =>
    let t := t.winder.spoiled.foldl (fun t n => t.clearSpoil n) t
    (t.wd (fun w => { w with spoiled := [], recovery := some { r with ownDone := true } })).recoveryProceed
  | none =>
    let t := if t.winder.duty = some 14 then t.winder.spoiled.foldl (fun t n => t.clearSpoil n) t else t
    t.cmdLocalDone 0

/-- Steps 1 to 4 of R301 for a slot: the page journal is applied and the held accesses go on, the sample's state takes effect, and the notices go
to the engines. -/
def State.restoreAll (s : State) (slot : Nat) : State :=
  let d := s.slotData slot
  let e := s.rd WD_SLOT_TALLY.TALLY 0 slot
  let rewind := s.on WD_STATUS.REPLAY_ARMED
  let t := s.applyJournal (s.rd WD_SLOT.SEQ 0 slot)
  let t := (List.range 640).foldl (fun t n => t.endTargets n) t
  let t := d.stopes.foldl (fun t n => t.restoreStope d n) t
  let t := ((t.wr WD_TALLY.TALLY e).wd (fun w => { w with prevTrig := d.trig })).xpReset e d.hist false
  let t := t.queuesDrop
  let log := t.sampler.log
  let t := t.smp (fun x => { x with
    moved := []
    replay := if rewind then log.filter (fun r => decide (e ≤ r.tally)) else []
    log := if rewind then log else log.filter (fun r => decide (r.tally < e)) })
  let t := t.wr WD_SMP_USE.LOG_KIB (min ((t.logBytes + 1023) / 1024) (ones 32))
  let t := (t.cage.bins.map (fun p => p.1)).foldl (fun t k => t.openLink k.unit k.idx) t
  let t := t.queuesRestore d.upSeq rewind
  let t := (List.range 4).foldl (fun t k => t.wr CR_STATUS.RESTORE 0 k) t
  (t.smp (fun x => { x with noticeRestore := t.rd WD_SMP_ENG.MASK })).sysNotices 2 slot e

/-- RESTORE_DONE (R301): every step before the notices has ended, or one has failed. -/
def execRestoreDone (error : Bool) (s : State) : Res :=
  .next
    (match s.sampler.restoring with
     | some (slot, false) =>
       if s.wdState ≠ 3 ∨ s.sampler.noticeRestore ≠ 0 then s
       else if error then s.restoreFail.releaseHeld
       else
         let t := s.restoreAll slot
         (if t.sampler.noticeRestore = 0 then t.restoreFinish else t).releaseHeld.lateSpoil
     | _ => s)

/-- ENG_LIMIT_EXPIRY (R290, R301): an engine has not acknowledged in time. -/
def execEngLimitExpiry (s : State) : Res :=
  .next
    (if s.sampler.noticeRestore ≠ 0 then s.restoreFail
     else if s.sampler.draining.isSome ∧ s.sampler.noticeSample ≠ 0 then s.failSample 4
     else s)

/-- ENGINE_ACK (R299; 16 R427): a write of `WD_SMP_ENG_ACK`; bits of engines without a pending notice are ignored. -/
def State.engineAck (s : State) (mask : Nat) : State :=
  let m := mask % 2 ^ 64
  let was := s.sampler.noticeRestore
  let t := s.smp (fun x => { x with
    noticeSample := clearMask x.noticeSample m, noticeRestore := clearMask x.noticeRestore m, noticePend := clearMask x.noticePend m })
  if was ≠ 0 ∧ t.sampler.noticeRestore = 0 ∧ t.wdState = 3 then t.restoreFinish.lateSpoil else t

/-- ENGINE_ACK (R299). -/
def execEngineAck (mask : Nat) (s : State) : Res := .next (s.engineAck mask)

/-- STOPE_BACKFILL_DONE (R302): the seam's named stopes take the slot's state with one COPY-IN pulse; after the last seam
the command ends. -/
def execStopeBackfillDone (seam : Nat) (s : State) : Res :=
  need (seam < 4)
    (match s.sampler.restoring with
     | some (slot, true) =>
       let here := s.sampler.backfill.filter (fun n => decide (n / 160 = seam))
       if here.isEmpty ∧ s.sampler.backfill ≠ [] then s
       else
         let d := s.slotData slot
         let t := here.foldl (fun t n => t.restoreStope d n) s
         let t := (t.smp (fun x => { x with backfill := x.backfill.filter (fun n => decide (n / 160 ≠ seam)) })).wr CR_STATUS.RESTORE 0 seam
         if t.sampler.backfill.isEmpty then (t.smp (fun x => { x with restoring := none })).cmdEnd else t
     | _ => s)

end Sys2Proof.Machine
end

