-- ==== Sys2Proof/Machine/Scrubs.lean ====
section
/-! DEFINITION. The scrubbers (07 R188 to R201, R206). Units are SB_ instances 0 to 7. -/

namespace Sys2Proof.Machine

/-- The next frame that a scrubber reads (R190): the first covered stope at or after its place. -/
def State.nextFrame (s : State) (i : Nat) : Option (Nat × Nat) :=
  let nx := (s.scrub i).next
  match (s.coverage i).find? (fun n => decide (nx / 4320 ≤ n % 160)) with
  | some n => some (n, if n % 160 = nx / 4320 then nx % 4320 else 0)
  | none => none

/-- A pass is complete and the next one begins (R190, R197). -/
def State.passDone (s : State) (i : Nat) : State :=
  let t := (s.countWrap SB_PROGRESS.PASS 1 i).updScrub i (fun x => { x with
    awaiting := if x.faulted then x.awaiting else s.rd SB_PASS_TALLY.TALLY i :: x.awaiting
    took := if x.took = 1 then 2 else x.took })
  t.startPass i

/-- The detection bound of a scrubber's event (R195, R200): the later of `SB_PREV_TALLY` and the stope's use tally. In
a takeover the peer's half uses the peer's until the first full takeover pass. -/
def State.scrubBound (s : State) (i n : Nat) : Nat :=
  let own := decide (n % 160 / 80 = i % 2)
  let peer := if i % 2 = 0 then i + 1 else i - 1
  let k := if own || decide ((s.scrub i).took = 2) then i else peer
  max (s.rd SB_PREV_TALLY.TALLY k) (s.stope n).useTally

/-- What a scrub event records for its stope (R191, R205). -/
def State.scrubEvent (s : State) (n f : Nat) (repair : Bool) : State :=
  (s.wr ST_SCRUB.LAST_FRAME f n).put ST_SCRUB.LAST_REPAIR repair n

/-- The frame has been dealt with: on to the next, or the pass ends. -/
def State.frameDone (s : State) (i : Nat) : State :=
  if (s.nextFrame i).isNone then (if (s.coverage i).isEmpty then s.scrubMeets i else s.passDone i) else s

/-- SCRUB_FRAME_READ (R190, R191, R201): the next frame is read and decoded. `upsets` are bits that have inverted in it
since it was last seen, by word and mask; `reread` says that the re-reads agree; `reject` that the address parity of the
write fails, so that the frame stays as read (nothing is counted: DEDUCED, log entry 21). -/
def execScrubFrameRead (scrubber : Nat) (upsets : List (Nat × Nat)) (reread reject : Bool) (s : State) : Res :=
  need (scrubber < 8)
    (let i := scrubber
     if ¬s.on SB_CTRL.EN i ∨ 2 ≤ s.rd SB_STATUS.STATE i ∨ (s.scrub i).repair.isSome then s
     else
       let s := s.scrubMeets i
       match s.nextFrame i with
       | none => s.frameDone i
       | some (n, f) =>
         let t := upsets.foldl (fun t u => t.flipFrame n f (u.1 % 64) (u.2 % 2 ^ 72)) s
         let t := if upsets.isEmpty then t else t.applyFrame n f
         let t := (t.countWrap SB_PROGRESS.POS 1 i).updScrub i (fun x => { x with next := n % 160 * 4320 + f + 1, since := x.since + 1 })
         let bad := (List.range 64).filter (fun w => decide (t.frameMask n f w ≠ 0))
         let single := bad.filter (fun w => decide (popcount 72 (t.frameMask n f w) = 1))
         if bad.isEmpty then t.frameDone i
         else if single.length ≠ bad.length ∨ ¬reread then
           (t.wr SB_STATUS.STATE 3 i).updScrub i (fun x => { x with repair := some (n, f) })
         else if reject then (t.wr SB_STATUS.WR_REJECT 1 i).frameDone i
         else
           let t := single.foldl (fun t w => t.flipFrame n f w (t.frameMask n f w)) t
           let t := (t.applyFrame n f).scrubEvent n f false
           let t := (t.count ST_SCRUB.CORR_WORDS single.length n).count SB_COUNTS.CORR_WORDS single.length i
           (single.foldl (fun t _ => t.raiseSpoil n ST_SPOIL.C_CORR (t.scrubBound i n)) t).frameDone i)

/-- The repair in hand ends; a pause that waited for it begins (R194). -/
def State.repairEnd (s : State) (i : Nat) : State :=
  let t := (s.updScrub i (fun x => { x with repair := none })).frameDone i
  if (s.scrub i).pauseDue then t.scrubPauses i
  else if t.rd SB_STATUS.STATE i = 3 then t.wr SB_STATUS.STATE (t.scrubState i) i else t

/-- SHADOW_REPAIR_READ (R192, R193): the shadow copy arrives and the frame is rewritten; an error or poison loses the
frame; a stope that has left its state drops the repair. -/
def execShadowRepairRead (scrubber : Nat) (error reject : Bool) (s : State) : Res :=
  need (scrubber < 8)
    (let i := scrubber
     match (s.scrub i).repair with
     | none => s
     | some (n, f) =>
       let st := s.stopeState n
       if st ≠ 2 ∧ st ≠ 3 then s.repairEnd i
       else
         let bound := s.scrubBound i n
         if error ∨ s.agentBad (s.shadowAddr n f) 512 then
           let t := ((s.wr ST_SCRUB.FRAME_LOST 1 n).count ST_SCRUB.LOST_COUNT 1 n).count SB_COUNTS.LOST 1 i
           ((t.scrubEvent n f true).raiseSpoil n ST_SPOIL.C_LOST bound).repairEnd i
         else if reject then (s.wr SB_STATUS.WR_REJECT 1 i).repairEnd i
         else
           let t := s.writeFrame n f (s.shadowWords n f)
           let t := (t.count ST_SCRUB.REPAIRED 1 n).count SB_COUNTS.REPAIRED 1 i
           ((t.scrubEvent n f true).raiseSpoil n ST_SPOIL.C_REPAIR bound).repairEnd i)

/-- The scrubber is expected to move (R199). -/
def State.scrubMoves (s : State) (i : Nat) : Bool :=
  s.on SB_CTRL.EN i && decide (s.rd SB_STATUS.STATE i ≠ 2) && decide (s.rd SB_STATUS.STATE i ≠ 0)

/-- The fields of `SB_CTRL` take the value that the copies vote (R198, R206): `EN` from 0 to 1 starts a pass, to 0 it cuts one short. -/
def State.setSbCtrl (s : State) (i v : Nat) : State :=
  let was := s.on SB_CTRL.EN i
  let t := s.setFields SB_CTRL.regs v i
  if t.on SB_CTRL.EN i then (if was then t else t.startPass i)
  else
    let t := t.updScrub i (fun x => { x with idle := true })
    if t.rd SB_STATUS.STATE i = 2 then t else t.wr SB_STATUS.STATE 0 i

/-- A write of `SB_CTRL` (R198, R206) sets the three copies and the master copy; below 32, `INTERVAL` is 32. -/
def State.writeSbCtrl (s : State) (i v : Nat) : State :=
  (s.setSbCtrl i (v % 4 + max 32 (bitsOf v 8 12) * 2 ^ 8)).updScrub i (fun x => { x with flips := (0, 0, 0) })

/-- The bits in which the vote of the three copies differs from the master copy (R198). -/
def Scrub.voteFlips (x : Scrub) : Nat :=
  let (a, b, c) := x.flips
  (a &&& b) ||| (a &&& c) ||| (b &&& c)

/-- The Foreman's master copy of `SB_CTRL` (R198). -/
def State.sbMaster (s : State) (i : Nat) : Nat := s.raw SB_CTRL.regs i ^^^ (s.scrub i).voteFlips

/-- Bits of the three copies invert; the scrubber runs on what they vote (R198). -/
def State.flipCopies (s : State) (i a b c : Nat) : State :=
  let m := fun (v : Nat) => v &&& 0xFFF03
  let x := s.scrub i
  let t := s.updScrub i (fun x => { x with flips := (x.flips.1 ^^^ m a, x.flips.2.1 ^^^ m b, x.flips.2.2 ^^^ m c) })
  if (t.scrub i).voteFlips = x.voteFlips then t else t.setSbCtrl i (s.sbMaster i ^^^ (t.scrub i).voteFlips)

/-- SB_CTRL_REFRESH (R198, R199): the three copies, in which bits have inverted since they were last seen, are rewritten
from the master copy, each that disagreed counted, and the scrubber
checks its peer's frames since the last refresh; without a fault the peer's passes that await this check count as
fault-free, and a takeover ends (R197, R200). -/
def execSbCtrlRefresh (scrubber : Nat) (seen : SbCopies) (s : State) : Res :=
  need (scrubber < 8)
    (let i := scrubber
     let p := if i % 2 = 0 then i + 1 else i - 1
     let s := s.flipCopies i seen.a seen.b seen.c
     let fl := (s.scrub i).flips
     let fix := b2n (decide (fl.1 ≠ 0)) + b2n (decide (fl.2.1 ≠ 0)) + b2n (decide (fl.2.2 ≠ 0))
     let s := if (s.scrub i).voteFlips = 0 then s else s.setSbCtrl i (s.sbMaster i)
     let s := s.updScrub i (fun x => { x with flips := (0, 0, 0) })
     let t := (s.count SB_STATUS.VOTE_FIX fix i).wr SB_STATUS.REFRESH_LOST 0 i
     let x := s.scrub p
     let fault := (s.scrubMoves p && decide (x.since = 0))
       || decide (1200000 / max 1 (s.rd SB_CTRL.INTERVAL p) + 1 < x.since)
     if fault then
       (t.wr SB_STATUS.PEER_FAULT 1 i).updScrub p (fun x => { x with since := 0, faulted := true, awaiting := [] })
     else
       match x.awaiting with
       | [] => t.updScrub p (fun x => { x with since := 0 })
       | a :: _ =>
         let t := (t.wr SB_PREV_TALLY.TALLY a p).updScrub p (fun x => { x with
           since := 0, good := x.awaiting ++ x.good, awaiting := [], logged := false })
         ((t.wr SB_STATUS.TAKEOVER 0 i).updScrub i (fun x => { x with took := 0 })).passReport)

/-- REFRESH_LOST (R198): no rewrite for 8 ms; the scrubber runs on what the copies vote, bits of them having inverted. -/
def execRefreshLost (lost : SbLost) (s : State) : Res :=
  need (lost.scrubber < 8) ((s.wr SB_STATUS.REFRESH_LOST 1 lost.scrubber).flipCopies lost.scrubber lost.seen.a lost.seen.b lost.seen.c)

/-- PEER_FAULT_RESTART (R200): the Foreman logs the fault of this scrubber's peer once, restarts the peer, and this
scrubber may take over its half. -/
def execPeerFaultRestart (scrubber : Nat) (s : State) : Res :=
  need (scrubber < 8)
    (let i := scrubber
     let p := if i % 2 = 0 then i + 1 else i - 1
     if s.on SB_STATUS.PEER_FAULT i then
       let t := if (s.scrub p).logged then s else s.post 6 0x0060 2 p
       let t := (t.updScrub p (fun x => { x with logged := true, repair := none })).wr SB_STATUS.RESTARTED 1 p
       let t := if t.rd SB_STATUS.STATE p = 3 then t.wr SB_STATUS.STATE 1 p else t
       let t := t.startPass p
       if s.on SB_CTRL.AUTO_TAKEOVER i ∧ ¬s.on SB_STATUS.TAKEOVER i then
         ((t.wr SB_STATUS.TAKEOVER 1 i).updScrub i (fun x => { x with took := 0 })).scrubMeets i
       else t
     else s)

/-- SCRUB_ENABLE (R206): a write of `SB_CTRL`. -/
def execScrubEnable (scrubber value : Nat) (s : State) : Res := need (scrubber < 8) (s.writeSbCtrl scrubber value)

/-- SCRUB_INJECT (R206): a write of `SB_INJ`; `GO` inverts the bits in the stored word. -/
def execScrubInject (scrubber value : Nat) (s : State) : Res :=
  need (scrubber < 8)
    (let i := scrubber
     let t := s.setFields [SB_INJ.FADDR, SB_INJ.WORD, SB_INJ.BITA, SB_INJ.BITB, SB_INJ.TWO] value i
     let t := if bitAt value 54 then t.wr SB_INJ.INJ_ERR 0 i else t
     if !bitAt value 53 then t
     else
       let a := bitsOf value 38 7
       let b := bitsOf value 45 7
       let two := bitAt value 52
       match frameAddr (bitsOf value 0 32) with
       | some (n, f) =>
         if n / 160 ≠ i / 2 ∨ 4320 ≤ f ∨ 71 < a ∨ (two ∧ (71 < b ∨ b = a)) then t.wr SB_INJ.INJ_ERR 1 i
         else (t.flipFrame n f (bitsOf value 32 6) (2 ^ a + (if two then 2 ^ b else 0))).applyFrame n f
       | none => t.wr SB_INJ.INJ_ERR 1 i)

end Sys2Proof.Machine
end

