-- ==== Sys2Proof/Machine/Stopes.lean ====
section
/-! DEFINITION. Isolation, release, the stope port, column repair, spoil clears (07 R180 to R187, R202 to R205, R561). -/

namespace Sys2Proof.Machine

/-- ISOLATE (07 R184, R185): `release` says that the write also sets `RELEASE`. -/
def execIsolate (stope : Nat) (release : Bool) (s : State) : Res :=
  need (stope < 640)
    (if release ∨ s.stopeState stope = 5 ∨ s.stopeState stope = 4 then s.wr ST_STATUS.ISO_ERR 1 stope
     else
       let t := s.wr ST_STATUS.REL_PEND 0 stope
       if s.isolated stope then t else t.wr ST_STATUS.ISO_PEND 1 stope)

/-- RELEASE (07 R184, R185): `isolate` says that the write also sets `ISOLATE`. -/
def execRelease (stope : Nat) (isolate : Bool) (s : State) : Res :=
  need (stope < 640)
    (if isolate ∨ s.stopeState stope = 5 ∨ s.stopeState stope = 4 ∨ ¬s.configured stope ∨ s.loading stope
         ∨ (s.stope stope).refill.isSome ∨ s.rd ST_TREE_STATUS.SRC_CUR stope ≠ 0 ∨ s.on ST_TREE_STATUS.SWITCHING stope then
       s.wr ST_STATUS.ISO_ERR 1 stope
     else
       let t := s.wr ST_STATUS.ISO_PEND 0 stope
       if s.isolated stope then t.wr ST_STATUS.REL_PEND 1 stope else t)

/-- ISO_EFFECT (07 R184, R186): between strokes the pending request takes effect. -/
def execIsoEffect (stope : Nat) (s : State) : Res :=
  need (stope < 640)
    (if s.winder.inStroke then s
     else if s.on ST_STATUS.ISO_PEND stope then
       let t := (s.wr ST_STATUS.ISO_PEND 0 stope).wr ST_STATUS.ISOLATED 1 stope
       let t := if s.inUse stope then t.leaveUse stope else t
       t.scrubsMeet stope
     else if s.on ST_STATUS.REL_PEND stope then
       let t := (s.wr ST_STATUS.REL_PEND 0 stope).wr ST_STATUS.ISOLATED 0 stope
       let t := (t.wr ST_TREE_STATUS.LOCAL_CTX 0 stope).wr ST_TREE_STATUS.LOCAL_PHASE 0 stope
       t.updStope stope (fun x => { x with usePending := true })
     else s)

/-- SPOIL_CLEAR (07 R205). -/
def execSpoilClear (stope : Nat) (s : State) : Res := need (stope < 640) (s.clearSpoil stope)

/-- STOPE_PORT_RESPONSE (07 R182, R183): the response to a master transaction is held for its presentation, in an
isolated stope until after release; a stope in another state drops it. -/
def execStopePortResponse (stope tag status data : Nat) (poison : Bool) (s : State) : Res :=
  need (stope < 640)
    (let st := s.stopeState stope
     if st = 3 ∨ st = 2 then
       s.updStope stope (fun x => { x with masters := x.masters.map (fun m =>
         if m.tag = tag ∧ m.resp.isNone then { m with resp := some (data, decide (status ≠ 0), poison) } else m) })
     else s.updStope stope (fun x => { x with masters := x.masters.filter (fun m => decide (m.tag ≠ tag)) }))

/-- STOPE_PORT_TARGET_ACCESS (01 R28, R31, R34; 07 R561): the access is accepted, waits for the one in the target request
register, or gets an error response. -/
def execStopePortTargetAccess (a : GalAccess) (s : State) : Res :=
  let n := (a.addr - 0x010010000000) / 0x100000
  let off := (a.addr - 0x010010000000) % 0x100000
  need (decide (0x010010000000 ≤ a.addr) && decide (n < 640) && decide (0x10000 ≤ off))
    (if a.size = 0 ∨ 64 < a.addr % 64 + a.size then s.respond n a.src a.tag 5 0 false a.posted
     else if ¬s.ready (26 + n / 160) ∧ ¬a.foreman then s.respond n a.src a.tag 4 0 false a.posted
     else if ¬s.inUse n ∨ ¬(s.stope n).cfg.target then s.respond n a.src a.tag 1 0 false a.posted
     else
       let be := ones a.size * 2 ^ (a.addr % 64)
       let t : TargetAccess := ⟨a.write, off - 0x10000, be, a.data % 2 ^ (8 * a.size), false, a.posted, a.src, a.tag⟩
       s.updStope n (fun x => match x.target with
         | none => { x with target := some t }
         | some _ => { x with targetWait := x.targetWait ++ [t] }))

/-! ### Column repair (07 R202 to R204; 03 R90 to R92) -/

/-- The repair position in force changes, and the Foreman logs it (R204). -/
def State.repairAt (s : State) (n pos : Nat) : State :=
  let old := s.rd ST_REPAIR.POS n
  ((s.wr ST_REPAIR.POS pos n).wr ST_REPAIR.IN_SERVICE 1 n).post 6 0x0062 1 (n + old * 2 ^ 16 + pos * 2 ^ 24)

/-- The physical column, 0 to 64, of logical column `j` at repair position `r`; position 64 is no repair (03 R90). -/
def physColumn (r j : Nat) : Nat := if j < r then j else j + 1

/-- The logical column that a physical column serves: none in the idle one, whose cells output 0 (03 R90). -/
def logicalColumn (r p : Nat) : Option Nat := if p < r then some p else if p = r then none else some (p - 1)

/-- A change of the repair position makes the column stale: it moves, or lies at or above the new position (03 R92). -/
def columnStale (old new j : Nat) : Bool := decide (logicalColumn old (physColumn new j) ≠ some j) || decide (new ≤ j)

/-- The state bits of every stale column go OFF until the frames are written again (03 R92). -/
def dropColumns (old new : Nat) (x : Stope) : Stope :=
  { x with q := x.q.filter (fun p => !columnStale old new (p.1 / 8 / 16 % 64))
           cfg := { x.cfg with bits := x.cfg.bits.filter (fun p => !columnStale old new (p.1.unit / 16 % 64)) } }

/-- COLUMN_REPAIR (R202, R203). -/
def execColumnRepair (stope pos : Nat) (s : State) : Res :=
  need (stope < 640)
    (let st := s.stopeState stope
     if (st = 2 ∨ st = 0) ∧ pos ≤ 64 ∧ pos ≠ s.rd ST_REPAIR.POS stope then
       let t := s.updStope stope (dropColumns (s.rd ST_REPAIR.POS stope) pos)
       if st = 0 then t.repairAt stope pos
       else ((t.wr ST_REPAIR.REFILL 1 stope).updStope stope (fun x => { x with refill := some pos })).showSeams.scrubsMeet stope
     else s.wr ST_REPAIR.REP_ERR 1 stope)

/-- REFILL_DONE (R203): the frames are rewritten from the shadow and the stope returns to its earlier state. -/
def execRefillDone (stope : Nat) (s : State) : Res :=
  need (stope < 640)
    (match (s.stope stope).refill with
     | none => s
     | some pos =>
       let t := (List.range 4320).foldl (fun t f => t.writeFrame stope f (s.shadowWords stope f)) s
       let t := (t.updStope stope (fun x => { x with refill := none })).wr ST_REPAIR.REFILL 0 stope
       ((t.countWrap CF_SEAM_STATUS.WRITTEN 4320 (stope / 160)).repairAt stope pos).showSeams.scrubsMeet stope)

/-- REFILL_SHADOW_ERROR (R203): a shadow read failed: the stope becomes UNCONFIGURED with `FRAME_LOST` set. -/
def execRefillShadowError (stope : Nat) (s : State) : Res :=
  need (stope < 640)
    (match (s.stope stope).refill with
     | none => s
     | some pos =>
       let t := (s.updStope stope (fun x => { x with refill := none })).wr ST_REPAIR.REFILL 0 stope
       (((t.repairAt stope pos).wr ST_SCRUB.FRAME_LOST 1 stope).unconfigure stope).showSeams)

end Sys2Proof.Machine
end

