-- ==== Sys2Proof/Machine/Trees.lean ====
section
/-! DEFINITION. The regional clock trees: source switches and single phases (04 R105 to R110). -/

namespace Sys2Proof.Machine

/-- TREE_SRC_WRITE (04 R107): a write of `SRC` starts a switch while the stope is ISOLATED; a reserved value, a switch
in progress or a stope that is not isolated refuses it. DESIGN CHOICE (log entry 66): a write that names the source in force
while the stope is isolated starts nothing. -/
def execTreeSrcWrite (stope src : Nat) (s : State) : Res :=
  need (stope < 640)
    (if 2 ≤ src ∨ s.on ST_TREE_STATUS.SWITCHING stope ∨ s.stopeState stope ≠ 2 then s.wr ST_TREE_STATUS.SRC_ERR 1 stope
     else if src = s.rd ST_TREE_STATUS.SRC_CUR stope then s
     else
       let t := ((s.wr ST_TREE_CTRL.SRC src stope).wr ST_TREE_STATUS.SWITCHING 1 stope).updStope stope
         (fun x => { x with switchTo := some src })
       t.ungate 4 stope)

/-- The new source runs (04 R107, R110): back on PHASE the captures wait for the next device boundary. -/
def State.treeSwitched (s : State) (n src : Nat) : State :=
  let t := ((s.wr ST_TREE_STATUS.SRC_CUR src n).wr ST_TREE_STATUS.SWITCHING 0 n).updStope n
    (fun x => { x with switchTo := none })
  if src = 0 then t.wr ST_TREE_STATUS.HOLD_SYNC 1 n else t

/-- TREE_SWITCH_DONE (04 R107, R110). -/
def execTreeSwitchDone (stope : Nat) (s : State) : Res :=
  need (stope < 640)
    (match (s.stope stope).switchTo with
     | some src => s.treeSwitched stope src
     | none => s)

/-- TREE_SWITCH_HANG (04 R108): the mux is forced onto the new source, `HANG` sets, and captures stay disabled until
the stope divider next reaches phase 0 of slot 0. -/
def execTreeSwitchHang (stope : Nat) (s : State) : Res :=
  need (stope < 640)
    (match (s.stope stope).switchTo with
     | some src =>
       let t := (s.treeSwitched stope src).wr ST_TREE_STATUS.HANG 1 stope
       if src = 0 then t else t.updStope stope (fun x => { x with capturesOff := true })
     | none => s)

/-- TREE_STEP (04 R109): `GO` makes one phase in a stepped stope; while the source is PHASE, or a pulse still runs,
it is ignored and sets `STEP_ERR`. A pulse is one phase of the stope: routing registers capture, due requests execute
in the first phase of a slot, the slot's end and the boundary apply when the divider reaches them. DESIGN CHOICE (log entry 92): the
pulse runs until a phase of the device passes or the part idles. -/
def execTreeStep (stope : Nat) (go : Bool) (s : State) : Res :=
  need (stope < 640)
    (if !go then s
     else if decide (s.rd ST_TREE_STATUS.SRC_CUR stope ≠ 1) || s.on ST_TREE_STATUS.SWITCHING stope
         || s.clk.pulses.contains stope then s.wr ST_TREE_STATUS.STEP_ERR 1 stope
     else
       let t := s.stepPulse stope
       { t with clk := { t.clk with pulses := t.clk.pulses ++ [stope] } })

end Sys2Proof.Machine
end

