-- ==== Sys2Proof/Machine/RegWrites.lean ====
section
/-! DEFINITION. What a write of a register does (00 R6 to R11): the fields by their access types, and the registers whose
Meaning column says more. A register whose write has a command of its own takes that command's effect here too. -/

namespace Sys2Proof.Machine

/-- The state after a meaning; a meaning that names no unit of the part changes nothing. -/
def settled (s : State) : Res → State
  | .next t => t
  | .fault _ => s
  | .refused _ => s

/-- What is written where: unit, index, block offset, bits covered, and the data at its place in the register. -/
structure RegPut where
  u : Nat
  j : Nat
  off : Nat
  mask : Nat
  v : Nat
  deriving DecidableEq, Repr

/-- The write reaches the low half of the register. -/
def RegPut.low (p : RegPut) : Bool := p.mask.testBit 0

/-- The register as a whole after a write of its RW fields: the half that a 32-bit write leaves keeps its value (00 R6). Bits
of other access types are those written. -/
def State.merged (s : State) (fs : List Fld) (p : RegPut) : Nat :=
  clearMask (s.raw (fs.filter (fun f => decide (f.acc = .rw ∨ f.acc = .rws))) p.u p.j) p.mask + p.v

/-- Every field takes the write by its access type (00 R7). -/
def State.plainWrite (s : State) (fs : List Fld) (p : RegPut) : State := s.writeFields fs p.mask p.v p.u p.j

/-- The RW1C fields of a register take the write. -/
def State.clearOnes (s : State) (fs : List Fld) (p : RegPut) : State :=
  s.plainWrite (fs.filter (fun f => decide (f.acc = .rw1c))) p

/-- A field that a write cannot leave outside a range: values outside act as the nearest end. -/
def State.clampField (s : State) (f : Fld) (lo hi : Nat) (p : RegPut) : State :=
  s.wr f (max lo (min hi (s.rd f p.u p.j))) p.u p.j

/-- A field that values outside a range leave unchanged. -/
def State.rangedField (s : State) (f : Fld) (lo hi : Nat) (p : RegPut) : State :=
  let x := bitsOf p.v f.lsb f.wid
  if p.mask.testBit f.lsb ∧ lo ≤ x ∧ x ≤ hi then s.wr f x p.u p.j else s

/-- Power requests (02 R61, R62): each bit that the write changes asks for its unit. -/
def State.powerWrite (s : State) (f : Fld) (n first : Nat) (p : RegPut) (up down : Nat → State → Res) : State :=
  let was := s.rd f p.u p.j
  (List.range n).foldl (fun t b =>
    if !p.mask.testBit b || was.testBit b = p.v.testBit b then t
    else settled t (if p.v.testBit b then up (first + b) t else down (first + b) t)) s

/-- CK_ (02 R63). -/
def State.writeCk (s : State) (fs : List Fld) (p : RegPut) (m : Master) : State :=
  match p.off with
  | 0x008 => if p.low then settled s (execPhaseDivWrite (p.v % 128) s) else s
  | 0x010 => if p.v.testBit 0 then settled s (execRetry (decide (m = .foreman ∨ m = .lamp)) s) else s
  | 0x018 =>
    let t := s.plainWrite fs p
    (t.clk.gated.filter (fun g => t.bit CK_GATE_DIS.DIS g.1)).foldl (fun t g => t.ungate g.1 g.2) t
  | 0x028 => settled s (execWarmReq (p.v % 65536) (p.v.testBit 16) s)
  | 0x030 => if p.v.testBit 16 then settled s (execStopeResetReq (p.v % 1024) s) else s
  | 0x038 => if p.v.testBit 16 then settled s (execEngineResetReq (p.v % 64) s) else s
  | 0x060 => s.powerWrite CK_CREW_PWR.ON 8 0 p execCrewPowerUp execCrewPowerDown
  | o =>
    if 0x100 ≤ o ∧ o < 0x150 then s.powerWrite CK_STOPE_PWR.ON 64 (64 * p.j) p execStopePowerUp execStopePowerDown
    else s.plainWrite fs p

/-- ST_ (04 R119, 05 R149, 07 R205). -/
def State.writeSt (s : State) (row : Nat) (fs : List Fld) (p : RegPut) : State :=
  match row with
  | 0x000 =>
    if p.v.testBit 0 then settled s (execIsolate p.u (p.v.testBit 1) s)
    else if p.v.testBit 1 then settled s (execRelease p.u false s) else s
  | 0x010 => if p.v.testBit 0 then s.clearSpoil p.u else s
  | 0x030 =>
    let t := s.clearOnes fs p
    if p.v.testBit 7 then settled t (execColumnRepair p.u (p.v % 128) t) else t
  | 0x100 => if p.low then settled s (execTreeSrcWrite p.u (p.v % 4) s) else s
  | 0x108 => settled s (execTreeStep p.u (p.v.testBit 0) s)
  | 0x220 => (s.plainWrite fs p).clampField ST_MEM_CTRL.SWEEP_INT 1 255 p
  | 0x400 => (s.plainWrite [ST_BQ_CTRL.HYST, ST_BQ_CTRL.IRQ_EN] p).rangedField ST_BQ_CTRL.LEVEL 1 2048 p
  | _ => s.plainWrite fs p

/-- CF_ of the device (06 R177). -/
def State.writeCf (s : State) (fs : List Fld) (p : RegPut) (m : Master) : State :=
  let fm := decide (m = .foreman)
  match p.off with
  | 0x00 =>
    let t := if p.v.testBit 0 then settled s (execStart fm s) else s
    if p.v.testBit 1 then settled t (execAbort t) else t
  | 0x18 => settled s (execExtentPush (p.v % 2 ^ 32) (bitsOf p.v 32 2) (p.v.testBit 34) fm s)
  | _ => s.plainWrite fs p

/-- CF_ of a seam (06 R178). -/
def State.writeCfs (s : State) (fs : List Fld) (p : RegPut) : State :=
  let t := s.plainWrite fs p
  if p.off = 0x08 ∧ p.v.testBit 32 then settled t (execReadback p.u (t.rd CF_RB_CTRL.FADDR p.u) t) else t

/-- SB_ (07 R206). -/
def State.writeSb (s : State) (fs : List Fld) (p : RegPut) : State :=
  match p.off with
  | 0x00 => if p.low then s.writeSbCtrl p.u p.v else s
  | 0x38 => settled s (execScrubInject p.u (s.merged fs p) s)
  | _ => s.plainWrite fs p

/-- A setting that the Winder accepts only while it is stopped: at any other time a write that would change it sets an
error flag (08 R229, 11 R311). -/
def State.stoppedOnly (s : State) (fs : List Fld) (err : Fld) (p : RegPut) : State :=
  if s.winderStopped then s.plainWrite fs p
  else if s.fieldsDiffer fs (s.merged fs p) p.u p.j then s.wr err 1 else s

/-- A clock line (08 R229). -/
def State.writeClkCfg (s : State) (p : RegPut) : State :=
  let fs := [WD_CLK_CFG.HALF, WD_CLK_CFG.OFFSET]
  let w := s.merged fs p
  let half := bitsOf w 0 32
  if half = 0 ∨ 0x80000000 < half ∨ 2 * half ≤ bitsOf w 32 32 then s.wr WD_CLK_CTRL.CFG_ERR 1
  else s.stoppedOnly fs WD_CLK_CTRL.CFG_ERR p

/-- A page-journal range (11 R293): 32 bytes of range need a byte of a stamp table that is in place. -/
def State.writePjRange (s : State) (fs : List Fld) (p : RegPut) : State :=
  if !s.winderStopped then s.stoppedOnly fs WD_SMP_STATUS.SMP_CFG_ERR p
  else
    let t := s.plainWrite fs p
    let need := (List.range 8).foldl (fun n r => if t.on WD_PJ_RANGE.EN 0 r then n + t.rd WD_PJ_RANGE.LEN 0 r else n) 0
    let room := if s.on WD_PJ_STAMP.OK then 32 * s.rd WD_PJ_STAMP.SIZE else 0
    if (need ≤ room ∧ s.on WD_PJ_STAMP.OK) ∨ !t.on WD_PJ_RANGE.EN 0 p.j then t else s.wr WD_SMP_STATUS.SMP_CFG_ERR 1

/-- WD_ (08 R232, 11 R311). -/
def State.writeWd (s : State) (row : Nat) (fs : List Fld) (p : RegPut) : State :=
  match row with
  | 0x018 =>
    if p.low then s.windCmd (p.v % 16) (s.rd WD_CMD_ARG.ARG) (p.v.testBit 4) (p.v.testBit 5) else s
  | 0x040 => if p.low then s.writeGroupCtrl p.v else s
  | 0x050 => (s.plainWrite [WD_GRANT.STALL_LIMIT] p).rangedField WD_GRANT.WINDOW_LOG2 10 31 p
  | 0x100 => s.writeClkCfg p
  | 0x180 => (s.clearOnes fs p).stoppedOnly [WD_CLK_CTRL.EN] WD_CLK_CTRL.CFG_ERR p
  | 0x200 =>
    (s.plainWrite [WD_TRIG_CFG.EN, WD_TRIG_CFG.IRQ, WD_TRIG_CFG.STOP, WD_TRIG_CFG.SAMPLE, WD_TRIG_CFG.SLOT] p).rangedField
      WD_TRIG_CFG.MATCH 0 2 p
  | 0x1000 =>
    ((s.plainWrite [WD_SMP_CTRL.ENG_LIMIT] p).clampField WD_SMP_CTRL.ENG_LIMIT 1 65535 p).stoppedOnly
      [WD_SMP_CTRL.LOG_EN, WD_SMP_CTRL.PJ_EN] WD_SMP_STATUS.SMP_CFG_ERR p
  | 0x1020 => s.stoppedOnly fs WD_SMP_STATUS.SMP_CFG_ERR p
  | 0x1028 => s.engineAck p.v
  | 0x1100 => s.writePjRange fs p
  | _ => s.plainWrite fs p

/-- CR_ (11 R312). -/
def State.writeCr (s : State) (fs : List Fld) (p : RegPut) : State :=
  match p.off with
  | 0x008 => (s.plainWrite fs p).clampField CR_PACE.FRAME_INT 26 255 p
  | 0x110 => s.plainWrite fs { p with mask := p.mask % 2 ^ 32 }
  | _ => s.plainWrite fs p

/-- The bits of one half of a port in `XC_XP_CTRL`: distance, stand-in, gate; each acts where the write changes it (10 R268,
R281, R284). -/
def State.writeHalf (s : State) (h : Nat) (p : RegPut) : State :=
  let lat := ab h XC_XP_CTRL.LAT_A XC_XP_CTRL.LAT_B
  let alt := ab h XC_XP_CTRL.ALT_A XC_XP_CTRL.ALT_B
  let gate := ab h XC_XP_CTRL.GATE_A XC_XP_CTRL.GATE_B
  let d := bitsOf p.v lat.lsb 5
  let t := if d < 2 then s.wr XC_XP_STATUS.XP_CFG_ERR 1 p.u else s.wr lat d p.u
  let t := if t.on alt p.u = p.v.testBit alt.lsb then t else settled t (execAltWrite p.u h (p.v.testBit alt.lsb) t)
  if t.on gate p.u = p.v.testBit gate.lsb then t else settled t (execGate p.u h (p.v.testBit gate.lsb) t)

/-- `XC_LANE_CTRL` (09 R249, R250, R255): a refused `TEST` changes nothing. -/
def State.writeLaneCtrl (s : State) (fs : List Fld) (p : RegPut) : State :=
  let test := bitsOf p.v 8 2
  if s.rd XC_LANE_CTRL.TEST p.u p.j ≠ test ∧ (s.subEnabled p.u (s.halfOf p.u p.j) ∨ test = 3) then settled s (execTestWrite p.u p.j test s)
  else
    let t := (s.clearOnes fs p).plainWrite [XC_LANE_CTRL.TX_INV, XC_LANE_CTRL.RX_INV, XC_LANE_CTRL.AUTO_INV, XC_LANE_CTRL.PRECODE,
      XC_LANE_CTRL.ALIGN_MODE, XC_LANE_CTRL.ADAPT_FREEZE] p
    let tx := p.v.testBit 0
    let rx := p.v.testBit 1
    let t := if t.on XC_LANE_CTRL.TX_SLEEP p.u p.j = tx then t else settled t (execTxSleep p.u p.j tx t)
    let t := if t.on XC_LANE_CTRL.RX_SLEEP p.u p.j = rx then t else settled t (execRxSleep p.u p.j rx t)
    if t.rd XC_LANE_CTRL.TEST p.u p.j = test then t else settled t (execTestWrite p.u p.j test t)

/-- `XC_LANE_EYE_CTRL` (09 R253, R254): a refused `GO` changes nothing but `EYE_ERR`. -/
def State.writeEye (s : State) (p : RegPut) : State :=
  if p.v.testBit 24 then
    settled s (execEyeScanGo p.u p.j (bitsOf p.v 0 7) (bitsOf p.v 8 8) (bitsOf p.v 16 2) (bitsOf p.v 18 6) s)
  else
    (s.plainWrite [XC_LANE_EYE_CTRL.PHASE, XC_LANE_EYE_CTRL.VOFF, XC_LANE_EYE_CTRL.EYE] p).rangedField XC_LANE_EYE_CTRL.DWELL_LOG2 16 40 p

/-- XC_ of a port (09 R260, R261, 10 R284). -/
def State.writeXcp (s : State) (row : Nat) (fs : List Fld) (p : RegPut) : State :=
  match row with
  | 0x0000 => if p.low then settled s (execXcPortCtrlWrite p.u p.v s) else s
  | 0x0100 =>
    if !p.low then s
    else
      let t := (s.plainWrite [XC_XP_CTRL.MODE_A, XC_XP_CTRL.MODE_B, XC_XP_CTRL.RTO, XC_XP_CTRL.FAILOVER] p).clampField XC_XP_CTRL.RTO 1 255 p
      (t.writeHalf 0 p).writeHalf 1 p
  | 0x1000 => if p.low then s.writeLaneCtrl fs p else s
  | 0x1008 => if p.low then settled s (execSlip p.u p.j (p.v % 2 ^ 19) s) else s
  | 0x1010 => if p.low then settled s (execTxeqWrite p.u p.j p.v s) else s
  | 0x1038 => if p.low then s.writeEye p else s
  | 0x0200 | 0x0400 | 0x20000 | 0x40000 => settled s (execStreamMapWrite p.u p.off (s.merged fs p) s)
  | _ => s.plainWrite fs p

/-- A write of the MSI-X table (01 R38): address, then data and mask bit; an unmasked vector sends what it holds (12 R335). The
pending-bit array takes no write. -/
def State.msixWrite (s : State) (off mask v : Nat) : State :=
  let k := (off - 0x100000) / 16
  if 0x108000 ≤ off then s
  else if off / 8 % 2 = 0 then
    let a := clearMask (Tab.get 0 s.msix.addr k) mask + v
    { s with msix := { s.msix with addr := Tab.set natLt 0 s.msix.addr k a } }
  else
    let x := s.msix
    let d := if mask.testBit 0 then Tab.set natLt 0 x.data k (v % 2 ^ 32) else x.data
    let um := if mask.testBit 32 then Tab.set natLt false x.unmasked k (!v.testBit 32) else x.unmasked
    ({ s with msix := { x with data := d, unmasked := um } }).flushPending

/-- CG_ (12 R342). -/
def State.writeCg (s : State) (fs : List Fld) (p : RegPut) : State :=
  let t := s.plainWrite fs p
  if p.off = 0x18 then t.wr CG_BAR2_BASE.BASE (t.bar2Mask (t.rd CG_BAR2_BASE.BASE)) else t

/-- QU_, but for the push and pop windows (12 R343). -/
def State.writeQu (s : State) (fs : List Fld) (p : RegPut) : State :=
  match p.off with
  | 0x000 => if p.low then s.writeQuCtrl p.u p.v else s
  | 0x010 | 0x018 | 0x020 | 0x028 | 0x040 => s.quConfig p.u fs (s.merged fs p)
  | 0x048 => (s.plainWrite fs p).clampField QU_IRQ.COAL_COUNT 1 255 p
  | 0x800 => if !p.low then s else if p.v.testBit 24 then s.flip p.u (p.v % 2 ^ 24) else s.doorbell p.u (p.v % 2 ^ 24)
  | 0x808 | 0x810 | 0x818 => s
  | _ => s.plainWrite fs p

/-- A regulator's settings (13 R355): setting `REG_EN`, or changing `RATE` or `BURST`, fills the bucket. -/
def State.writeRegulator (s : State) (en rate burst : Fld) (top point : Nat) (p : RegPut) : State :=
  let t := ((s.plainWrite [en, rate, burst] p).clampField rate 1 top p).clampField burst 5 4095 p
  let fills := (t.on en p.u p.j && p.mask.testBit 0 && p.v.testBit 0)
    || decide (t.rd rate p.u p.j ≠ s.rd rate p.u p.j ∨ t.rd burst p.u p.j ≠ s.rd burst p.u p.j)
  if fills then t.gl (fun g => { g with short := Tab.erase g.short point }) else t

/-- GL_ (13 R361). -/
def State.writeGl (s : State) (row : Nat) (fs : List Fld) (p : RegPut) : State :=
  match row with
  | 0x000 => (s.plainWrite fs p).clampField GL_CTRL.AGE_LIMIT 1 65535 p
  | 0x1000 =>
    let t := (s.plainWrite [GL_NI_CFG.PRI, GL_NI_CFG.TIMEOUT] p).clampField GL_NI_CFG.TIMEOUT 1 1023 p
    if p.j < 640 then t.writeRegulator GL_NI_CFG.REG_EN GL_NI_CFG.RATE GL_NI_CFG.BURST 128 p.j p else t
  | 0x8000 => s.writeRegulator GL_ENG_REG.REG_EN GL_ENG_REG.RATE GL_ENG_REG.BURST 255 (1024 + p.j) p
  | 0x100000 => s.writeRoute (p.j / 1024) (p.j % 1024) (s.merged fs p)
  | _ => s.plainWrite fs p

/-- DC_ (14 R389). -/
def State.writeDc (s : State) (fs : List Fld) (p : RegPut) : State :=
  match p.off with
  | 0x010 => ((s.plainWrite fs p).clampField DC_SCHED.AGE 1 65535 p).clampField DC_SCHED.REF_POSTPONE 0 8 p
  | 0x048 => s.plainWrite fs { p with mask := p.mask % 2 ^ 32 }
  | _ => s.plainWrite fs p

/-- PC_ (14 R388). -/
def State.writePc (s : State) (fs : List Fld) (p : RegPut) : State :=
  let t := s.plainWrite fs p
  if p.off = 0 ∧ p.v.testBit 8 then t.replanWrite else t

/-- EN_ (15 R407). -/
def State.writeEn (s : State) (row : Nat) (fs : List Fld) (p : RegPut) : State :=
  match row with
  | 0x100 => (s.plainWrite fs p).rangeCmd p.j (p.v % 4)
  | 0x108 | 0x110 => if s.rangeState p.j = 0 then s.plainWrite fs p else s
  | _ => s.plainWrite fs p

/-- TR_ of a crew (16 R423, R424, R439). An `ABORT` in a plain write stops the channel with the bytes moved so far. -/
def State.writeTrc (s : State) (row : Nat) (fs : List Fld) (p : RegPut) : State :=
  if row = 0x110 ∧ p.low then
    let t := if p.v.testBit 28 then s.hoistGo p.u p.j (p.v % 2 ^ 32) else s.plainWrite fs p
    if p.v.testBit 29 then settled t (execHoistAbort p.u p.j ⟨t.rd TR_HOIST_STATUS.BYTES p.u p.j, [], [], false⟩ t) else t
  else s.plainWrite fs p

/-- FM_ (18 R489). The time since the load deadline's start is not kept: it is a free value here (06 R175). -/
def State.writeFm (s : State) (row : Nat) (fs : List Fld) (p : RegPut) : State :=
  match row with
  | 0x020 => if p.low then settled s (execLoadDeadlineWrite (p.v % 2 ^ 32) (s.draw 32) s.drawn) else s
  | 0x100 => if p.low then s.mbIssue (bitsOf p.v 0 8) (bitsOf p.v 8 8) (bitsOf p.v 16 16) none else s
  | 0x200 => if s.on FM_MB_STATUS.BUSY then s else s.plainWrite fs p
  | 0x808 =>
    let t := s.plainWrite fs p
    if !t.on FM_SENS_STATUS.TCRIT
        && decide (signed16 (t.rd FM_SENS_STATUS.HOT_TEMP) < signed16 (t.rd FM_SENS_CTRL.TWARN)) then t.wr FM_SENS_STATUS.ALERT 0 else t
  | _ => s.plainWrite fs p

/-- BW_ (18 R490). -/
def State.writeBw (s : State) (fs : List Fld) (p : RegPut) : State :=
  let t := s.plainWrite fs p
  if p.off = 0 ∧ p.v.testBit 0 then settled t (execEnumRequest t) else t

/-- SC_ (19 R494 to R496, R504). -/
def State.writeSc (s : State) (fs : List Fld) (p : RegPut) (m : Master) : State :=
  let fm := decide (m = .foreman)
  match p.off with
  | 0x00 =>
    let t := s.plainWrite (fs.filter (fun f => decide (f ≠ SC_CTRL.SRC))) p
    let t := (t.clampField SC_CTRL.PERIOD_MS 1 255 p).clampField SC_CTRL.LOSS_N 1 15 p
    if p.low then t.writeSrc (p.v % 4) else t
  | 0x18 => if p.mask = 2 ^ 64 - 1 then s.writeTime p.v 0 fm else if p.low then s.writeTime p.v 1 fm else s.writeTime (p.v / 2 ^ 32) 2 fm
  | 0x28 => s.writeInc (s.merged fs p) fm
  | _ => s.plainWrite fs p

/-- LP_ (20 R524): `FAIL_COUNT` takes no write. -/
def State.writeLp (s : State) (row : Nat) (fs : List Fld) (p : RegPut) : State :=
  match row with
  | 0x00 => s.clearOnes fs p
  | 0x08 => s.writeUnlock p.v
  | 0x20 => s.lp (fun l => { l with resp := l.resp.set p.j (clearMask (l.resp.getD p.j 0) p.mask + p.v) })
  | 0x40 => if p.low then s.writeTraceCtrl p.v else s
  | _ => s.plainWrite fs p

/-- IO_ (21 R539). -/
def State.writeIo (s : State) (fs : List Fld) (p : RegPut) : State :=
  if p.off = 0 then (if p.low then s.writeMgEn p.v else s) else s.plainWrite fs p

/-- IO_ of a bank, and of the management bank as bank 16 (21 R539). -/
def State.writeIob (s : State) (bank row : Nat) (fs : List Fld) (p : RegPut) : State :=
  if row = 0x100 then (if p.low then s.writePin bank p.j p.v else s) else s.plainWrite fs p

/-- A write of a register found in its table. -/
def State.putReg (s : State) (b : Block) (x : RegAt) (off size data : Nat) (m : Master) : State :=
  let p : RegPut := ⟨x.unit, x.idx, off / 8 * 8, halfMask off size, halfData off size data⟩
  let fs := x.row.fields
  let row := x.row.off
  match b with
  | .ck => s.writeCk fs p m
  | .st => s.writeSt row fs p
  | .cf => s.writeCf fs p m
  | .cfs => s.writeCfs fs p
  | .sb => s.writeSb fs p
  | .wd => s.writeWd row fs p
  | .cr => s.writeCr fs p
  | .xc => s.plainWrite fs p
  | .xcp => s.writeXcp row fs p
  | .cg => s.writeCg fs p
  | .qu => s.writeQu fs p
  | .gl => s.writeGl row fs p
  | .dc => s.writeDc fs p
  | .pc => s.writePc fs p
  | .en => s.writeEn row fs p
  | .trc => s.writeTrc row fs p
  | .tr => s.plainWrite fs p
  | .fm => s.writeFm row fs p
  | .bw => s.writeBw fs p
  | .sc => s.writeSc fs p m
  | .lp => s.writeLp row fs p
  | .io => s.writeIo fs p
  | .iob => s.writeIob x.unit row fs p
  | .iom => s.writeIob 16 row fs p

/-- A write that answers with more than OK: engine registers (16 R427, R440), queue windows (12 R338), the Lamp port's own
registers (20 R517), the MSI-X table. -/
def State.ownWrite (s : State) (b : Block) (i off size data : Nat) (m : Master) (posted poison : Bool) : Option (Nat × State) :=
  match b, off / 8 * 8 with
  | .tr, _ => some (if poison then (1, s) else s.trWrite i off size data)
  | .qu, 0x808 => some ((s.sawPush m).push i m (if off % 8 = 0 then size else 0) data false posted poison)
  | .qu, 0x810 => some ((s.sawPush m).push i m (if off % 8 = 0 then size else 0) data true posted poison)
  | .cg, o => if isMsix o ∧ !poison then some (0, s.msixWrite o (halfMask off size) (halfData off size data)) else none
  | .lp, o => if (o = 0x08 ∨ o = 0x20 ∨ o = 0x28) ∧ m ≠ .lamp then some (1, s) else none
  | _, _ => none

/-- A write in a register window (00 R6 to R11): its status and the state after. A poisoned write is dropped (13 R358). -/
def State.regWrite (s : State) (a size data : Nat) (m : Master) (posted poison : Bool) : Nat × State :=
  if (size ≠ 4 ∧ size ≠ 8) ∨ a % size ≠ 0 then (5, s)
  else
    match blockAt a with
    | none => (if poison then 1 else 0, s)
    | some (b, i, off) =>
      if s.crewOff b i then (if poison then 1 else 0, s)
      else
        match s.ownWrite b i off size data m posted poison with
        | some r => r
        | none =>
          if poison then (1, s)
          else
            match regAt b i (off / 8 * 8) with
            | some x => (0, s.putReg b x off size data m)
            | none => (0, s)

end Sys2Proof.Machine
end

