-- ==== Sys2Proof/Machine/Registers.lean ====
section
/-! DEFINITION. REGISTER_READ and REGISTER_WRITE: one Gallery access to a register window (00 R6 to R11), from any master.
`ticks` are the Shift clock's edges since its last look (log entry 43). -/

namespace Sys2Proof.Machine

/-- The address lies in a block that the Foreman serves before the Gallery runs: CK_, FM_, LP_ (02 R51, 20 R513). -/
def foremanServes (a : Nat) : Bool :=
  match blockAt a with
  | some (b, _, _) => decide (b = .ck ∨ b = .fm ∨ b = .lp)
  | none => false

/-- An access of this master can reach the window: the ROOT-derived clocks run and no WARM holds them; before that only the
Foreman, and the Lamp port through it, reach CK_, FM_ and LP_ (01 R28, 02 R51, R58, 20 R513). A halted part's Cage makes no
access for the host (12 R320). -/
def State.reaches (s : State) (a : Nat) (m : Master) : Bool :=
  if decide (s.clk.stage = .running) && !s.clk.warmHold then !(decide (m = .host) && s.halted)
  else decide (m = .foreman ∨ m = .lamp) && foremanServes a

/-- The push windows report their own refusals (12 R338). -/
def isPush (a : Nat) : Bool :=
  match blockAt a with
  | some (.qu, _, off) => decide (0x808 ≤ off) && decide (off < 0x818)
  | _ => false

/-! ### Accesses of the host and the Lamp port to data windows (01 R27, R28, R31, R35) -/

/-- The address lies in the Cage buffer (01 R30). -/
def inCageBuffer (a : Nat) : Bool := decide (0x010000000000 ≤ a) && decide (a < 0x010002000000)

/-- The ready bit of a data window (01 R27). -/
def State.windowBit (s : State) (a : Nat) : Nat :=
  if a < 0x010000000000 then 2 + (s.dramPlace a).1
  else if a < 0x010002000000 then 1
  else if a < 0x010005000000 then 30 + (a - 0x010004000000) / 0x200000
  else if a < 0x010010000000 then 30 + (a - 0x010005000000) / 0x200000
  else 26 + (a - 0x010010000000) / 0x100000 / 160

/-- The error that a data window gives at once: an access across a line of DRAM or of the Cage buffer, SIZE; a ready bit that is clear,
NOTREADY (01 R28, R35; 13 R359). -/
def State.windowRefuses (s : State) (a size : Nat) : Option Nat :=
  if a < 0x010002000000 ∧ 64 < a % 64 + size then some 5
  else if !s.ready (s.windowBit a) then some 4 else none

/-- An access of the host or the Lamp port to a data window: the Cage buffer is the part's own memory, where the answer says only whether
an uncorrectable error is found (12 R327); of another window the answer is the target's, which a
write of the host reaches with its poison mark (12 R320). -/
def State.dataAccess (s : State) (ni a size : Nat) (write : Bool) (data : Nat) (poison : Bool) (ans : Answer) : Answer × State :=
  match s.windowRefuses a size with
  | some st => (⟨st, 0, false⟩, s)
  | none =>
    if inCageBuffer a then
      if write then (⟨0, 0, false⟩, s.storeBytes a (bytesOf size data))
      else (⟨0, (s.loadBytes a size).foldr (fun b v => b + 256 * v) 0, ans.poison⟩, if ans.poison then s.wr CG_ERR_STATUS.BUF_UE 1 else s)
    else (ans, s.emit (.access ni a size write false data poison))

/-- The network interface that answers for an address; the initiator's own for a hole. -/
def State.target (s : State) (a : Nat) (m : Master) : Nat := (s.decodeNi a).getD (masterNi m)

/-- REGISTER_READ (00 R8): a response with the register's fields; a Lamp port peek clears nothing. -/
def execRegisterRead (addr size : Nat) (m : Master) (tag ticks : Nat) (peek : Bool) (s : State) : Res :=
  .next
    (if windowOf addr ≠ .register ∨ !s.reaches addr m then s
     else
       let t := s.tick ticks
       let (st, d, p, u) := t.regRead addr size m (peek && decide (m = .lamp))
       u.respond (s.target addr m) (masterNi m) tag st d p false)

/-- REGISTER_WRITE (00 R7): the fields by their access types, or the effect of the register's own rules. -/
def execRegisterWrite (addr size data : Nat) (m : Master) (tag ticks : Nat) (posted poison : Bool) (s : State) : Res :=
  .next
    (if windowOf addr ≠ .register ∨ !s.reaches addr m then s
     else
       let t := s.tick ticks
       let (st, u) := t.regWrite addr size data m posted poison
       if posted && isPush addr then u else u.respond (s.target addr m) (masterNi m) tag st 0 false posted)

end Sys2Proof.Machine
end

