-- ==== Sys2Proof/Machine/Host.lean ====
section
/-! DEFINITION. Host memory requests through BAR0 and BAR2 (12 R318, R320; 01 R36 to R39). -/

namespace Sys2Proof.Machine

/-- The gallery address of a BAR offset (01 R36, R37). -/
def State.barAddr (s : State) (bar ofs : Nat) : Nat :=
  if bar = 0 then 0x010000000000 + ofs else s.rd CG_BAR2_BASE.BASE * 2 ^ 30 + ofs

/-- The request lies in a BAR that the host can address. -/
def State.barHolds (s : State) (bar ofs len : Nat) : Bool :=
  decide (1 ≤ len) && ((decide (bar = 0) && decide (ofs + len ≤ 2 ^ 31))
    || (decide (bar = 2) && decide (ofs + len ≤ 2 ^ (30 + s.cage.bar2))))

/-- The size of the next access of a request with `n` bytes left at `a` (R318): in the DRAM window and the Cage buffer up to
the end of the line, elsewhere the largest aligned one of 8, 4, 2 and 1. -/
def pieceSize (a n : Nat) : Nat :=
  if a < 0x010002000000 then min n (64 - a % 64)
  else if a % 8 = 0 ∧ 8 ≤ n then 8
  else if a % 4 = 0 ∧ 4 ≤ n then 4
  else if a % 2 = 0 ∧ 2 ≤ n then 2 else 1

/-- The accesses of a request: address and size, rising. The first argument bounds their number. -/
def pieces : Nat → Nat → Nat → List (Nat × Nat)
  | 0, _, _ => []
  | k + 1, a, n => if n = 0 then [] else (a, pieceSize a n) :: pieces k (a + pieceSize a n) (n - pieceSize a n)

/-- `CAUSE` of `CG_ERR_ADDR` for a status (13 R359). -/
def errCause (status : Nat) : Nat :=
  match status with
  | 2 => 1
  | 3 => 2
  | 5 => 4
  | 4 => 5
  | _ => 3

/-- A host access fails (01 R39, 12 R342): the first since both flags were clear is recorded. -/
def State.hostFail (s : State) (addr status : Nat) (write : Bool) : State :=
  let t := if !s.on CG_ERR_STATUS.HOST_RD_ERR && !s.on CG_ERR_STATUS.HOST_WR_ERR then
      ((s.wr CG_ERR_ADDR.ADDR addr).wr CG_ERR_ADDR.CAUSE (errCause status)).put CG_ERR_ADDR.WRITE write
    else s
  t.cgErr (if write then CG_ERR_STATUS.HOST_WR_ERR else CG_ERR_STATUS.HOST_RD_ERR)

/-- A request under way: the answers of data windows still to come, the bytes read, whether an access of it failed. -/
structure HostRun where
  answers : List Answer
  bytes : List Nat
  failed : Bool
  deriving DecidableEq, Repr

/-- One read access: in a register window by its rules; in a data window as the target answers; a hole answers NOWIN. An
answer that never comes is a timeout (13 R360). -/
def State.hostReadPiece (s : State) (p : Nat × Nat) (r : HostRun) : State × HostRun :=
  let done := fun (t : State) (st d : Nat) (poison : Bool) (l : List Answer) =>
    if st ≠ 0 ∨ poison then (t.hostFail p.1 st false, { r with answers := l, failed := true })
    else (t, { r with answers := l, bytes := r.bytes ++ (List.range p.2).map (fun i => bitsOf d (8 * i) 8) })
  match windowOf p.1 with
  | .hole => done s 2 0 false r.answers
  | .register =>
    let t := (s.tick (s.draw 32)).drawn
    let (st, d, poison, u) := t.regRead p.1 p.2 .host false
    done u st d poison r.answers
  | .data =>
    let (a, t) := s.dataAccess 644 p.1 p.2 false 0 false (r.answers.headD ⟨3, 0, false⟩)
    done t a.status a.data a.poison r.answers.tail

/-- One write access. -/
def State.hostWritePiece (s : State) (p : Nat × Nat) (data : Nat) (poison : Bool) (r : HostRun) : State × HostRun :=
  let done := fun (t : State) (st : Nat) (l : List Answer) =>
    if st ≠ 0 then (t.hostFail p.1 st true, { r with answers := l, failed := true }) else (t, { r with answers := l })
  match windowOf p.1 with
  | .hole => done s 2 r.answers
  | .register =>
    let t := (s.tick (s.draw 32)).drawn
    let (st, u) := t.regWrite p.1 p.2 data .host false poison
    done u st r.answers
  | .data =>
    let (a, t) := s.dataAccess 644 p.1 p.2 true data poison (r.answers.headD ⟨3, 0, false⟩)
    done t a.status r.answers.tail

/-- Bytes as a little-endian number. -/
def natOf : List Nat → Nat
  | [] => 0
  | b :: r => b % 256 + 256 * natOf r

/-- A host read (R318): one completion for the whole request. -/
def State.hostRead (s : State) (addr len : Nat) (answers : List Answer) : State :=
  let (t, r) := (pieces len addr len).foldl (fun x p => x.1.hostReadPiece p x.2) (s, ⟨answers, [], false⟩)
  if r.failed then t.emit (.hostCompletion 1 0) else t.emit (.hostCompletion 0 (natOf r.bytes))

/-- A host write (R318, R320): the accesses that fail are dropped, the others take effect. -/
def State.hostWrite (s : State) (addr : Nat) (data : List Nat) (poison : Bool) (answers : List Answer) : State :=
  let s := if poison then s.cgErr CG_ERR_STATUS.EP_RX else s
  ((pieces data.length addr data.length).foldl (fun x p =>
    x.1.hostWritePiece p (natOf ((data.drop (p.1 - addr)).take p.2)) poison x.2) (s, ⟨answers, [], false⟩)).1

/-- HOST_MEMORY_REQUEST (R318): a read of `len` bytes, or a write of `data`. Outside the two BARs, without a link, or with
the Gallery's clocks stopped, no request arrives; a halted part answers reads with Completer Abort and drops writes (R320). -/
def execHostMemoryRequest (bar ofs len : Nat) (write : Bool) (data : List Nat) (poison : Bool) (answers : List Answer)
    (s : State) : Res :=
  .next
    (if !s.barHolds bar ofs (if write then data.length else len) ∨ !s.on CG_LINK.UP ∨ s.clk.stage ≠ .running ∨ s.clk.warmHold then s
     else if s.halted then (if write then s else s.emit (.hostCompletion 1 0))
     else if write then s.hostWrite (s.barAddr bar ofs) data poison answers
     else s.hostRead (s.barAddr bar ofs) len answers)

end Sys2Proof.Machine
end

