-- ==== Sys2Proof/Machine/LampPort.lean ====
section
/-! DEFINITION. The Lamp port (20 R505 to R517). A transaction is one command: the request as decoded, and for an address in
a data window the answer that the access there gets. -/

namespace Sys2Proof.Machine

/-- Shift clock edges pass whose number no operand gives (log entry 43). -/
def State.someTicks (s : State) : State := (s.tick (s.draw 32)).drawn

/-- The registers that level NONE may peek (R514). -/
def noneSet (a : Nat) : Bool :=
  let r := a / 8 * 8
  decide (r ∈ [0x010047000000, 0x010047000010, 0x010047000018, 0x010045000000, 0x010045000010, 0x010045000400, 0x010048000050,
    0x010048000048, 0x010043C00000, 0x010043C00008, 0x010043C00010])
    || (decide (0x010045100000 ≤ a) && decide (a < 0x010045110000))

/-- The registers that levels NONE and WATCH may write (R514). -/
def lowWrites (level a : Nat) : Bool :=
  let r := a / 8 * 8
  decide (r ∈ [0x010047000008, 0x010047000020, 0x010047000028]) || (decide (level = 1) && decide (r = 0x010047000040))

/-- `CMD` of a request, whether it is of 8 bytes, `ADDR`, `WDATA`, and the request bits that its `CRC` covers (R505). -/
def lampCmd (q : LampReq) : Nat := bitsOf q.bits 1 4
def lampEight (q : LampReq) : Bool := q.bits.testBit 5
def lampAddr (q : LampReq) : Nat := bitsOf q.bits 6 48
def lampData (q : LampReq) : Nat := bitsOf q.bits 54 64
def lampCovered (q : LampReq) : Nat := if (lampCmd q) = 3 then 117 else 53

/-- The request's `CRC` passes (R505). -/
def lampCrcOk (q : LampReq) : Bool := decide (bitsOf q.bits (1 + (lampCovered q)) 8 = crc8Of (lampCovered q) (q.bits / 2))

/-- The bits of a response from its `START` (R506). -/
def lampBits (ack rdata : Nat) : Nat :=
  let v := ack % 8 + rdata % 2 ^ 64 * 8
  v * 2 + crc8Of 67 v * 2 ^ 68

/-- What a low on nRST_LAMP means, by its length in ns (R511). -/
inductive LampLow where
  | one | zero | brk | reset
  deriving DecidableEq, Repr

def lampLow (ns : Nat) : LampLow := if ns < 2500 then .one else if ns < 12000 then .zero else if ns < 1000000 then .brk else .reset

/-- What a request asks for. -/
inductive LampKind where
  | peek | consume | write
  deriving DecidableEq, Repr

/-- `CMD` of a kind (R505). -/
def LampKind.cmd (k : LampKind) : Nat := match k with
  | .peek => 1
  | .consume => 2
  | .write => 3

/-- The level allows the request (R514). -/
def levelAllows (level : Nat) (k : LampKind) (a : Nat) : Bool :=
  if 2 ≤ level then true
  else
    match k with
    | .peek => decide (level = 1) || noneSet a
    | .consume => false
    | .write => lowWrites level a

/-- The port hears a request (R512): in two-wire mode it ignores the reset wire's bits; held in reset it hears nothing. -/
def State.lampHears (s : State) (two : Bool) : Bool := (two || !s.on LP_STATUS.MODE) && !s.clk.lampHold

/-- The check that a request fails, as `ACK` and `RDATA` (R506, R513, R514; the order HALTED before LEVEL is DEDUCED). -/
def State.lampRefuses (s : State) (q : LampReq) (k : LampKind) : Option (Nat × Nat) :=
  if (lampAddr q) % (if (lampEight q) then 8 else 4) ≠ 0 then some (5, 0)
  else if s.halted ∧ k ≠ .peek then some (4, 0)
  else if !levelAllows (s.rd LP_STATUS.LEVEL) k (lampAddr q) then some (1, 0)
  else if !s.ready 0 ∧ !foremanServes (lampAddr q) then some (2, 4)
  else none

/-- An access ends: its response is sent and kept for REPEAT (R506, R509). -/
def State.lampEnd (s : State) (read : Bool) (size status data : Nat) (poison : Bool) : State :=
  let ack := if status ≠ 0 then 2 else if read && poison then 6 else 0
  let rdata := if status ≠ 0 then status else if read then data % 2 ^ (8 * size) else 0
  (s.lp (fun l => { l with ack := ack, rdata := rdata })).emit (.lamp (lampBits ack rdata))

/-- The access of a request that passed its checks (R507). -/
def State.lampAccess (s : State) (q : LampReq) (k : LampKind) (data : Nat) (a : Answer) : State :=
  let size := if (lampEight q) then 8 else 4
  let write := decide (k = .write)
  match windowOf (lampAddr q) with
  | .hole => s.lampEnd (!write) size 2 0 false
  | .data =>
    let (b, t) := s.dataAccess 661 (lampAddr q) size write data false a
    t.lampEnd (!write) size b.status b.data b.poison
  | .register =>
    let t := s.someTicks
    if write then
      let (st, u) := t.regWrite (lampAddr q) size data .lamp false false
      u.lampEnd false size st 0 false
    else
      let (st, d, p, u) := t.regRead (lampAddr q) size .lamp (decide (k = .peek))
      u.lampEnd true size st d p

/-- A request whose row is `cmd` (R505 to R508, R512): one that the port does not hear, that begins with no `START`, or whose bits spell
another row's command has no effect; one with a reserved `CMD` is BAD. -/
def State.lampHeard (s : State) (q : LampReq) (cmd : Nat) (act : State → State) : State :=
  if !s.lampHears q.two || q.bits.testBit 0 then s
  else if !(lampCrcOk q) then (s.count LP_STATUS.CRC_ERR).emit (.lamp (lampBits 3 0))
  else
    let t := if q.two then s.wr LP_STATUS.MODE 1 else s
    if (lampCmd q) = cmd then act t else if (lampCmd q) = 0 ∨ 4 < (lampCmd q) then t.emit (.lamp (lampBits 5 0)) else s

/-- A request for an access. -/
def State.lampRequest (s : State) (q : LampReq) (k : LampKind) (a : Answer) : State :=
  s.lampHeard q k.cmd (fun t =>
    match t.lampRefuses q k with
    | some (ack, rdata) => t.emit (.lamp (lampBits ack rdata))
    | none => t.lampAccess q k ((lampData q) % 2 ^ (if (lampEight q) then 64 else 32)) a)

/-- PEEK (R508). -/
def execPeek (q : LampReq) (a : Answer) (s : State) : Res := .next (s.lampRequest q .peek a)

/-- CONSUME (R505). -/
def execConsume (q : LampReq) (a : Answer) (s : State) : Res := .next (s.lampRequest q .consume a)

/-- LAMP_WRITE (R507). -/
def execLampWrite (two : Bool) (bits : Nat) (a : Answer) (s : State) : Res := .next (s.lampRequest ⟨two, bits⟩ .write a)

/-- REPEAT (R509). -/
def execLampRepeat (two : Bool) (bits : Nat) (s : State) : Res :=
  .next (s.lampHeard ⟨two, bits⟩ 4 (fun t => t.emit (.lamp (lampBits t.lamp.ack t.lamp.rdata))))

/-- LAMP_BREAK (R511): the port waits for `START`; what an access issued before gave is kept. A transaction is one command
here, so nothing is cut short. -/
def execLampBreak (s : State) : Res := .next s

/-- LAMP_CLOCK_TIMEOUT (R510): as a BREAK. -/
def execLampClockTimeout (s : State) : Res := .next s

/-- LAMP_RESET (R511): a low of 1 ms or more starts a WARM, held until the line rises. A halted part starts none. -/
def execLampReset (low : Bool) (s : State) : Res :=
  .next
    (if !low then s.ck (fun c => { c with lampHold := false })
     else (if s.halted then s else s.warm CK_RST_CAUSE.LAMP).ck (fun c => { c with lampHold := true }))

/-- GET (R516, R517). -/
def execGet (level : Nat) (s : State) : Res := .next (s.lampGet level)

/-- SUBMIT (R516, R517). -/
def execSubmit (s : State) : Res := .next s.lampSubmit

/-- LOCK (R515). -/
def execLock (s : State) : Res := .next s.lampLock

/-- CHALLENGE_EXPIRY (R516): 10 s without a SUBMIT. -/
def execChallengeExpiry (s : State) : Res := .next (if s.on LP_STATUS.CHAL_VALID then s.dropChallenge else s)

/-- LOCKOUT_END (R516): 1 s after a failure. -/
def execLockoutEnd (s : State) : Res := .next (s.wr LP_STATUS.LOCKOUT 0)

end Sys2Proof.Machine
end

