-- ==== Sys2Proof/Machine/Memories.lean ====
section
/-! DEFINITION. The memories' own agents: write-backs, sweeper, starved copies, injection, bin queue controller, the
Corer's copy and the journal stores (05 R129 to R142). -/

namespace Sys2Proof.Machine

/-- ECC_WRITEBACK (05 R129): a corrected unit is written back, unless a write overtook it. -/
def execEccWriteback (stope mem unit : Nat) (s : State) : Res :=
  need (stope < 640 ∧ mem < 18)
    (if (mem, unit) ∈ (s.stope stope).writebacks then
       let t := s.updStope stope (fun x => { x with writebacks := x.writebacks.filter (fun p => decide (p ≠ (mem, unit))) })
       let e := s.unitErr stope mem unit
       if e = 0 ∨ 100 ≤ e then t else t.putUnit stope mem unit (decodeUnit (s.unitRaw stope mem unit) e) 0
     else s)

/-- SWEEP_STEP (05 R131): the sweeper reads one unit of each bin and each sump, in address order and wrapping; it
pauses while `SWEEP_EN` is 0 and while the stope is unconfigured or in RESET. -/
def execSweepStep (stope : Nat) (s : State) : Res :=
  need (stope < 640)
    (if s.on ST_MEM_CTRL.SWEEP_EN stope && s.configured stope && s.powered stope && !s.inReset stope then
       (List.range 18).foldl (fun s m =>
         let u := Tab.get 0 (s.stope stope).sweep m
         let (_, _, t) := s.readUnit stope m u 1
         t.updStope stope (fun x => { x with sweep := Tab.set natLt 0 x.sweep m ((u + 1) % unitsOf m) })) s
     else s)

/-- The place of a unit in the memory area of a slot (11 R291). -/
def State.unitPlace (s : State) (slot n m u : Nat) : Nat :=
  s.slotBase slot + 0x4000000 + n * 0x60000 + (if m < 16 then 0x2000 * m else 0x20000 + 0x20000 * (m - 16)) + 8 * u

/-- A unit reaches the sample store (11 R289): stored as read; an uncorrectable one taints the slot. -/
def State.storeUnit (s : State) (slot n m u v : Nat) (ue : Bool) : State :=
  let t := s.agentStore (s.unitPlace slot n m u) (wordBytes v)
  let d := t.slotData slot
  let t := t.setSlot slot { d with mems := Tab.set Key.lt 0 d.mems ⟨m, n, u⟩ v }
  if ue then t.wr WD_SLOT.TAINTED 1 0 slot else t

/-- `COPY` in a seam's `CR_STATUS`: a memory of the seam is armed (11 R312). -/
def State.showCopy (s : State) (seam : Nat) : State :=
  s.put CR_STATUS.COPY (s.sampler.draining.isSome && (List.range 160).any (fun k => s.on ST_MEM_JRNL.ARMED (seam * 160 + k))) seam

/-- The first unit at or above `u` that is not journalled, within `k` units. -/
def nextUnit (done : List Nat) : Nat → Nat → Nat
  | 0, u => u
  | k + 1, u => if done.contains u then nextUnit done k (u + 1) else u

/-- CORER_COPY_UNIT (05 R140, 11 R289): the copy skips journalled units, reads the next one and stores it; journal
entries of the memory go first. `error` is an error response of the store (11 R290). -/
def execCorerCopyUnit (stope mem : Nat) (error : Bool) (s : State) : Res :=
  need (stope < 640 ∧ mem < 18)
    (match s.sampler.draining with
     | none => s
     | some slot =>
       let x := s.stope stope
       let j := x.journal mem
       if !s.bit ST_MEM_JRNL.ARMED mem stope || !j.fifo.isEmpty then s
       else if error then s.failSample 2
       else
         let u := nextUnit j.journalled j.journalled.length j.copyPtr
         let past := fun (t : State) (p : Nat) => (t.updStope stope (fun y =>
           { y with journals := Tab.set natLt .idle y.journals mem { (y.journal mem) with copyPtr := p } }))
         if unitsOf mem ≤ u then (((past s (unitsOf mem)).disarmIfDone stope mem).showCopy (stope / 160))
         else
           let (v, ue, t) := s.readUnit stope mem u 2
           let t := (t.storeUnit slot stope mem u v ue).count CR_COUNTS.UNITS 1 (stope / 160)
           (((past t (u + 1)).disarmIfDone stope mem).showCopy (stope / 160)))

/-- JOURNAL_STORE (05 R141, 11 R289): the oldest journal entry is stored, as the journal port presents it. -/
def execJournalStore (stope mem : Nat) (error : Bool) (s : State) : Res :=
  need (stope < 640 ∧ mem < 18)
    (match s.sampler.draining, ((s.stope stope).journal mem).fifo with
     | some slot, e :: r =>
       if error then s.failSample 2
       else
         let b := e.bits
         let t := (s.storeUnit slot stope (bitsOf b 78 5) (bitsOf b 64 14) (bitsOf b 0 64) (b.testBit 83)).count CR_COUNTS.JOURNAL 1 (stope / 160)
         let t := t.updStope stope (fun y => { y with journals := Tab.set natLt .idle y.journals mem { (y.journal mem) with fifo := r } })
         (t.disarmIfDone stope mem).showCopy (stope / 160)
     | _, _ => s)

/-- COPY_STARVED (05 R131): the stope asks the Winder for one hold phase after the next slot. -/
def execCopyStarved (stope mem : Nat) (s : State) : Res :=
  need (stope < 640 ∧ mem < 18)
    (if s.bit ST_MEM_JRNL.ARMED mem stope then { s with winder := { s.winder with holdReq := s.winder.holdReq ++ [(stope, true)] } } else s)

/-- MEM_INJECT_ARM (05 R132): the next write to the chosen memory stores its unit with one or two bits inverted. -/
def execMemInjectArm (stope mem : Nat) (double : Bool) (s : State) : Res :=
  need (stope < 640)
    (((s.wr ST_MEM_CTRL.INJ_MEM mem stope).put ST_MEM_CTRL.INJ_DOUBLE double stope).wr ST_MEM_CTRL.INJ_ARM 1 stope)

/-- BIN_QUEUE_MOVE (05 R133, 12 R323): the controller of a bin in UP or DOWN mode moves one word on port B; a stope
not in use moves none (07 R182). -/
def execBinQueueMove (stope bin : Nat) (s : State) : Res :=
  need (stope < 640 ∧ bin < 16)
    (if s.inUse stope then
       (if (s.stope stope).bqmode bin = 2 then s.binUpMove stope bin
        else if (s.stope stope).bqmode bin = 3 then s.binDownMove stope bin else s)
     else s)

/-- LEVEL_IRQ_RESPONSE (05 R136): the interrupt write is answered; an error sets `WRITE_FAIL`. -/
def execLevelIrqResponse (stope bin : Nat) (error : Bool) (s : State) : Res :=
  need (stope < 640 ∧ bin < 16)
    (if bin ∈ (s.stope stope).levelOut then
       let t := s.updStope stope (fun x => { x with levelOut := x.levelOut.erase bin })
       if error then t.wr ST_BQ_STATUS.WRITE_FAIL 1 stope bin else t
     else s)

end Sys2Proof.Machine
end

