-- ==== Sys2Proof/Machine/Pins.lean ====
section
/-! DEFINITION. The pins' commands: bank power and pin writes (21 R529 to R538). Bank 16 is the management bank. -/

namespace Sys2Proof.Machine

/-- VCCIO_DETECT (R529). -/
def execVccioDetect (bank : Nat) (s : State) : Res :=
  need (bank < 17)
    (if s.rd IO_BANK_STATUS.STATE bank = 0 then (s.wr IO_BANK_STATUS.STATE 1 bank).bankRail bank true else s)

/-- SETTLING_END (R529): the pads are stale; the pins take the safe state until the first stroke boundary. -/
def execSettlingEnd (bank : Nat) (s : State) : Res :=
  need (bank < 17)
    (if s.rd IO_BANK_STATUS.STATE bank = 1 then
       let t := s.wr IO_BANK_STATUS.STATE 2 bank
       if bank = 16 then t else t.bankSafe bank
     else s)

/-- VCCIO_LOSS (R529). -/
def execVccioLoss (bank : Nat) (s : State) : Res :=
  need (bank < 17)
    (if s.rd IO_BANK_STATUS.STATE bank = 0 then s
     else
       let t := if s.rd IO_BANK_STATUS.STATE bank = 2 then s.wr IO_BANK_STATUS.DROPPED 1 bank else s
       let t := (t.wr IO_BANK_STATUS.STATE 0 bank).bankRail bank false
       if bank = 16 then t else t.bankSafe bank)

/-- MG_EN_WRITE (R535, R536, R538). -/
def execMgEnWrite (v : Nat) (s : State) : Res := .next (s.writeMgEn v)

/-- PIN_WRITE (R533, R534). -/
def execPinWrite (bank pin v : Nat) (s : State) : Res :=
  need (bank < 17 ∧ pin < bankPins bank) (s.writePin bank pin v)

end Sys2Proof.Machine
end

