-- ==== Sys2Proof/Machine/Shift.lean ====
section
/-! DEFINITION. The Shift clock's commands: time messages, writes, reads, captures, compare windows (19 R493 to R503). -/

namespace Sys2Proof.Machine

/-- TIME (R497, R498): `ticks` run to the stamp; `residence` is the time to the outgoing window in 1/16 ns. The message goes
on down the chain. -/
def execTime (m : TimeMsg) (ticks residence : Nat) (s : State) : Res :=
  .next
    (if s.halted ∨ s.on BW_STATUS.HEAD ∨ !s.on BW_STATUS.ENUMERATED then s
     else
       let t := (s.tick ticks).wr SC_STATUS.HOPS m.hops
       let hop := t.rd SC_CTRL.HOP_NS
       let t := if t.rd SC_CTRL.SRC = 1 then
           t.measure (((16 * m.mtime + m.corr + hop : Nat) : Int) - 16 * t.nowNs) else t
       if t.on BW_STATUS.DOWN_LINK then
         t.emit (.bell (some ((t.rd BW_STATUS.ADDR + 1) % 256))
           (.time [m.mtime, (m.corr + residence + hop) % 2 ^ 32, (m.hops + 1) % 256, m.mseq, b2n m.mlock]))
       else t)

/-- TIME_SEND (R497): the head's message. -/
def execTimeSend (ticks : Nat) (s : State) : Res :=
  .next
    (let t := s.tick ticks
     if !t.on BW_STATUS.HEAD || !t.on SC_CTRL.HEAD_SEND || !t.on BW_STATUS.DOWN_LINK || t.halted then t
     else
       let lock := decide (t.rd SC_CTRL.SRC = 2 ∧ t.rd SC_STATUS.STATE = 2)
       (t.emit (.bell (some ((t.rd BW_STATUS.ADDR + 1) % 256)) (.time [t.nowNs, 0, 0, t.shift.mseq, b2n lock]))).sh
         (fun x => { x with mseq := (x.mseq + 1) % 256 }))

/-- PTP_SYNC (R498, R499): the offset that the exchange gives, in 1/16 ns. -/
def execPtpSync (offset16 : Int) (ticks : Nat) (s : State) : Res :=
  .next
    (let t := s.tick ticks
     if t.rd SC_CTRL.SRC = 2 ∧ t.bit IO_MG_STATUS.OWNED 3 then t.measure offset16 else t)

/-- INC_WRITE (R493, R495). -/
def execIncWrite (v : Nat) (foreman : Bool) (ticks : Nat) (s : State) : Res := .next ((s.tick ticks).writeInc v foreman)

/-- TIME_STEP (R494, R495): `half` 0 the whole register, 1 its low half, 2 its high half. -/
def execTimeStep (v half : Nat) (foreman : Bool) (ticks : Nat) (s : State) : Res := .next ((s.tick ticks).writeTime v half foreman)

/-- TIME_SRC_WRITE (R496). -/
def execTimeSrcWrite (src : Nat) (s : State) : Res := .next (s.writeSrc src)

/-- TIME_READ (R495): a 32-bit read of the low half of `SC_TIME` or `SC_COUNT`. -/
def execTimeRead (time : Bool) (src tag ticks : Nat) (s : State) : Res :=
  .next
    (let t := s.tick ticks
     (t.shiftLatch time true).respond 661 src tag 0 (t.shiftValue time % 2 ^ 32) false false)

/-- MASTER_LOSS (R500). The time master itself has none to lose. -/
def execMasterLoss (s : State) : Res := .next (if s.timeMaster then s else s.loseMaster)

/-- CAPTURE (R501, 21 R537): a rising edge on TIME_IN0 or TIME_IN1. An input that no pin feeds, or two, stands at its
default and has no edge. -/
def execCapture (input ticks : Nat) (s : State) : Res :=
  need (input < 2)
    (let t := s.tick ticks
     if (t.timeFeeds input).length ≠ 1 then t
     else
       let again := t.bit SC_IRQ_STATUS.SRCS (4 + input)
       let t := t.wr SC_CAP.CAP t.nowNs 0 input
       if again then t.raise SC_IRQ_STATUS.SRCS SC_IRQ_EN.EN SC_IRQ_EN.VECTOR 9
       else t.raise SC_IRQ_STATUS.SRCS SC_IRQ_EN.EN SC_IRQ_EN.VECTOR (4 + input))

/-- COMPARE_WINDOW (R502): one unit's evaluation at a Shift edge. -/
def execCompareWindow (unit ticks : Nat) (s : State) : Res :=
  need (unit < 4)
    (let t := s.tick ticks
     let now := t.nowNs
     let prev := t.prevNs
     let a := t.rd SC_CMP_START.START 0 unit
     let b := t.rd SC_CMP_END.END 0 unit
     let inside := decide (a ≤ now) && decide (now < b)
     let was := t.on SC_CMP_CTRL.IN 0 unit
     let t := t.put SC_CMP_CTRL.IN inside 0 unit
     if !t.on SC_CMP_CTRL.EN 0 unit then t
     else if inside && !was then
       let t := if t.bit SC_IRQ_STATUS.SRCS unit then t else t.wr SC_CMP_HIT.HIT now 0 unit
       let t := t.raise SC_IRQ_STATUS.SRCS SC_IRQ_EN.EN SC_IRQ_EN.VECTOR unit
       if t.on SC_CMP_CTRL.OUT_EN 0 unit then t.sh (fun x => { x with out := setBit x.out unit }) else t
     else if was && !inside then t.sh (fun x => { x with out := clearBit x.out unit })
     else if decide (prev < a ∧ a < b ∧ b ≤ now) then
       (t.wr SC_CMP_CTRL.MISS 1 0 unit).raise SC_IRQ_STATUS.SRCS SC_IRQ_EN.EN SC_IRQ_EN.VECTOR 8
     else t)

end Sys2Proof.Machine
end

