-- ==== Sys2Proof/Machine/TramIssue.lean ====
section
/-! DEFINITION. How a Tram engine issues one instruction: the fetch, the row its word belongs to, the checks in the order
of 17 R459, the effect, and what follows (16 R412, 17 R443, R444). -/

namespace Sys2Proof.Machine

/-- A row of the instruction tables (17 R444, R445, R454, R456, R457): opcode, function where the opcode has functions, the
bits that must be 0, and whether it is a branch, jump, repeat, wait or return, which 16 R414 and 17 R453, R457 place. -/
structure TramRow where
  op : Nat
  func : Option Nat
  zero : Nat
  flow : Bool
  deriving DecidableEq, Repr

/-- The word belongs to the row. -/
def rowNames (r : TramRow) (w : Nat) : Bool :=
  decide (bitsOf w 26 6 = r.op) && (match r.func with
    | none => true
    | some f => decide (bitsOf w 0 6 = f))

/-- The opcode of a word, or its function under an opcode that has functions, is in no table (17 R444). -/
def unlisted (w : Nat) : Bool :=
  let f := bitsOf w 0 6
  match bitsOf w 26 6 with
  | 0 => decide (0x16 < f)
  | 1 => decide (f ∉ [0, 1, 2, 3, 4, 5, 8, 9, 0xA, 0xB, 0xC, 0xD, 0xE, 0xF, 0x10])
  | 2 => decide (f = 0 ∨ 0xB < f)
  | 3 => decide (f ∉ [0, 1, 2, 3, 8])
  | op => !(decide (8 ≤ op ∧ op ≤ 0xE) || decide (0x10 ≤ op ∧ op ≤ 0x21) || decide (0x28 ≤ op ∧ op ≤ 0x2D)
      || decide (op ∈ [0x30, 0x31, 0x34, 0x35]))

/-- What an instruction does once it is known to be legal in its place. -/
inductive Eff where
  /-- it raises an exception: cause and `EADDR` (17 R458) -/
  | exc (s : State) (cause eaddr : Nat)
  /-- it has its effect, and issue goes on as given -/
  | done (s : State) (c : Ctl)
  /-- it freezes the engine until its access ends (16 R409) -/
  | frozen (s : State)

/-- The effect of a row: the engine before it, the word, the engine's number, and the state with the gaps before it past. -/
abbrev Body := Engine → Nat → Nat → State → Eff

/-- A word pushed by the engine waits in the Cage under back-pressure (12 R333). -/
def State.pushHeld (s : State) (e : Nat) : Bool :=
  s.cage.queues.any (fun p => !p.2.waiting.isEmpty && decide (s.rd QU_END.KIND p.1 = 0) && decide (s.rd QU_END.UNIT p.1 = e))

/-- The engine issues its next instruction now: it is RUNNING, nothing freezes it, and no debug entry or interrupt is due
before it (16 R412, R428, R429, R433, R436). -/
def State.canIssue (s : State) (e : Nat) : Bool :=
  decide (s.rd TR_STATUS.STATE e = 1) && (s.eng e).wait.isNone && !s.pushHeld e
    && !((s.eng e).eligible && (decide (s.dbgCauses e ≠ 0) || s.takesIrq e))

/-- The word at the next instruction's address, as the fetch sees it (17 R461). -/
def State.fetchWord (s : State) (e : Nat) : Nat :=
  let i := s.rd TR_PC.PC e / 4
  match (s.eng e).imemOld.find? (fun p => decide (p.2.1 = i)) with
  | some p => p.2.2
  | none => s.load (imemBase e + 4 * i) 4

/-- The outcome of an effect. -/
def State.finishIssue (s : State) (e : Nat) (x : Engine) : Eff → State
  | .exc t cause eaddr => t.raiseExc e cause eaddr
  | .done t c => t.retire e x (s.on TR_STATUS.MON e) c
  | .frozen t => t

/-- Engine `e` issues its next instruction, of row `r`: FETCH, then ILLEGAL, then what the instruction does (17 R459). Where the
engine does not issue now, or its next word is of another row, nothing happens (log entry 2). -/
def State.issue (s : State) (r : TramRow) (body : Body) (e : Nat) (v : TramView) : Res :=
  need (e < 64)
    (if !s.canIssue e then s
     else
       let (bad, t) := s.checkWord (imemBase e + s.rd TR_PC.PC e) v.fetchErrs 0
       let w := s.fetchWord e
       let x := s.eng e
       if bad then t.raiseExc e 5 0
       else if !rowNames r w then s
       else if w &&& r.zero ≠ 0 ∨ (r.flow ∧ (x.branch.isSome ∨ x.rep.isSome)) then t.raiseExc e 1 0
       else s.finishIssue e x (body x w e (t.updEng e Engine.noOld)))

/-- ILLEGAL_INSTRUCTION (17 R444): a word whose opcode or function is in no table. -/
def execIllegalInstruction (engine : Nat) (v : TramView) (s : State) : Res :=
  need (engine < 64)
    (if !s.canIssue engine then s
     else
       let (bad, t) := s.checkWord (imemBase engine + s.rd TR_PC.PC engine) v.fetchErrs 0
       if bad then t.raiseExc engine 5 0
       else if unlisted (s.fetchWord engine) then t.raiseExc engine 1 0 else s)

/-! ### Fields of a word (17 R443) -/

/-- rd, rs and rt of formats A, N and C; the same places hold r, k or idx in the others. -/
def fD (w : Nat) : Nat := bitsOf w 21 5
def fS (w : Nat) : Nat := bitsOf w 16 5
def fT (w : Nat) : Nat := bitsOf w 11 5

/-- A field of `n` bits as a signed number. -/
def sextN (n v : Nat) : Int := if v.testBit (n - 1) then (v : Int) - 2 ^ n else v

/-- imm16 or off16, signed. -/
def simm (w : Nat) : Int := sextN 16 (bitsOf w 0 16)

/-- aD and aS of the MAC functions. -/
def fAD (w : Nat) : Nat := bitsOf w 24 2
def fAS (w : Nat) : Nat := bitsOf w 13 2

/-- A true result that must fit `n` signed bits: the nearer limit, and whether it was needed (17 R446, R455). -/
def satInt (n : Nat) (x : Int) : Int × Bool :=
  if 2 ^ (n - 1) - 1 < x then (2 ^ (n - 1) - 1, true) else if x < -2 ^ (n - 1) then (-2 ^ (n - 1), true) else (x, false)

/-- `SV` sets where a result was limited. -/
def Engine.sticky (x : Engine) (b : Bool) : Engine := { x with sv := x.sv || b }

end Sys2Proof.Machine
end

