-- ==== Sys2Proof/Machine/TramMem.lean ====
section
/-! DEFINITION. Tram loads, stores, load-locked and store-conditional, and queue instructions (17 R448 to R450, R456; 16
R409 to R411, R421, R425). -/

namespace Sys2Proof.Machine

/-- Where an engine address leads (16 R409, R410). -/
inductive Space where
  | dmem (a : Nat)
  | imem (a : Nat)
  | regs (off : Nat)
  | crib (a : Nat)
  | aperture (a : Nat)
  deriving DecidableEq, Repr

/-- The place of an access; none where it raises ADDRESS: misaligned, outside the table, a size the table does not allow, or
an aperture that is not valid. -/
def State.spaceOf (s : State) (e a size : Nat) : Option Space :=
  if a % size ≠ 0 then none
  else if a < 0x10000 then some (.dmem (dmemBase e + a))
  else if a < 0x20000 then if 4 ≤ size then some (.imem (imemBase e + a % 0x10000)) else none
  else if a < 0x30000 then if 4 ≤ size then some (.regs (a % 0x10000)) else none
  else if 0x400000 ≤ a ∧ a < 0x600000 then some (.crib (cribBase (crewOf e) + a % 0x200000))
  else if 0x80000000 ≤ a then
    let i := (a - 0x80000000) / 0x10000000
    if s.on TR_APER.VALID e i then some (.aperture (s.rd TR_APER.BASE e i * 0x10000000 + a % 0x10000000)) else none
  else none

/-- An access to a crib bank wakes its clock (02 R52). -/
def State.useBank (s : State) (a : Nat) : State := s.ungate 1 ((a - 0x010004000000) / 0x200000 * 16 + a / 8 % 16)

/-- A request of an engine through its injection point (16 R410, 13 R346). -/
def engReq (e a size op data : Nat) : GalReq := ⟨653 + crewOf e, some e, a, size, op, data, false, 0⟩

/-- A load from a memory of the crew. -/
def memLoad (t : State) (e a : Nat) (l : Landing) (errs : Nat) (resv : Bool) : Eff :=
  let (bad, t) := t.checkWord a errs 0
  if bad then .exc t 4 l.eaddr
  else
    let t := (t.watch e l.eaddr false).updEng e (fun y => y.land l (t.load a l.size))
    .done (if resv then t.updEng e (fun y => { y with resv := some (a % 0x200000 / 8) }) else t) .next

/-- A load at an engine address; `resv` for a load-locked, which works only on the own crib (16 R421). -/
def loadAt (t : State) (e : Nat) (l : Landing) (errs : Nat) (resv : Bool) : Eff :=
  match t.spaceOf e l.eaddr l.size with
  | none => .exc t 2 l.eaddr
  | some (.crib a) => memLoad (t.useBank a) e a l errs resv
  | some sp =>
    if resv then .exc t 2 l.eaddr
    else match sp with
      | .dmem a | .imem a => memLoad t e a l errs false
      | .regs off =>
        let (d, t) := t.trRead e off l.size false
        .done ((t.watch e l.eaddr false).updEng e (fun y => y.land l d)) .next
      | .aperture a =>
        .frozen (((t.watch e l.eaddr false).updEng e (fun y => { y with wait := some (.answer l none) })).request (engReq e a l.size 0 0))
      | .crib _ => .exc t 2 l.eaddr

/-- The words of instruction memory that a store changes, as the fetch still sees them (17 R461). -/
def State.oldWords (s : State) (e a size : Nat) : List (Nat × Nat × Nat) :=
  (List.range (size / 4)).map (fun i => (3, a % 0x10000 / 4 + i, s.load (imemBase e + a % 0x10000 / 4 * 4 + 4 * i) 4))

/-- A store at an engine address. `sync` through an aperture waits for its response (17 R448). -/
def storeAt (t : State) (e a size v errs : Nat) (sync : Bool) (move : Engine → Engine) : Eff :=
  match t.spaceOf e a size with
  | none => .exc t 2 a
  | some sp =>
    let u := (t.watch e a true).updEng e move
    match sp with
    | .dmem g => .done (u.engStore g size v errs) .next
    | .crib g => .done ((u.useBank g).engStore g size v errs) .next
    | .imem g => .done ((u.engStore g size v errs).updEng e (fun y => { y with imemOld := y.imemOld ++ t.oldWords e g size })) .next
    | .regs off => .done (u.updEng e (fun y => { y with stores := y.stores ++ [(2, off, size, v)] })) .next
    | .aperture g =>
      if sync then
        .frozen ((u.updEng e (fun y => { y with wait := some (.answer ⟨none, size, false, none, none, a⟩ none) })).request (engReq e g size 1 v))
      else .done ((u.updEng e (fun y => { y with wait := some .accept })).request (engReq e g size 2 v)) .next

/-- The register data of a store: a register, or a pair for 8 bytes. -/
def Engine.storeData (x : Engine) (r size : Nat) : Nat :=
  if size = 8 then (x.rg r).toNat + (x.rg (r + 1)).toNat * 2 ^ 32 else (x.rg r).toNat % 2 ^ (8 * size)

/-- The address of an N-format access. -/
def Engine.addrN (x : Engine) (w : Nat) : Nat := (x.rg (fS w) + BitVec.ofInt 32 (simm w)).toNat

/-- The address of a C-format access. -/
def Engine.addrC (x : Engine) (w : Nat) : Nat := (x.rg (fS w) + BitVec.ofInt 32 (sextN 11 (bitsOf w 0 11))).toNat

/-- A load in format N: a pair register must be even. -/
def ldBody (size : Nat) (signed resv : Bool) (v : TramView) : Body := fun x w e t =>
  if size = 8 ∧ fD w % 2 = 1 then .exc t 1 0
  else loadAt t e ⟨some (fD w), size, signed, none, none, x.addrN w⟩ v.dataErrs resv

/-- A store in format N. -/
def stBody (size : Nat) (sync : Bool) (v : TramView) : Body := fun x w e t =>
  if size = 8 ∧ fD w % 2 = 1 then .exc t 1 0
  else storeAt t e (x.addrN w) size (x.storeData (fD w) size) v.dataErrs sync id

/-- A store-conditional (16 R421, 17 R450). -/
def stcBody (size : Nat) (v : TramView) : Body := fun x w e t =>
  let a := x.addrC w
  if size = 8 ∧ fT w % 2 = 1 then .exc t 1 0
  else match t.spaceOf e a size with
    | some (.crib g) =>
      let hit := decide (x.resv = some (g % 0x200000 / 8))
      let t := (t.useBank g).updEng e (fun y => { y.wgLate (fD w) (if hit then 1 else 0) with resv := none })
      .done (if hit then (t.watch e a true).engStore g size (x.storeData (fT w) size) v.dataErrs else t) .next
    | _ => .exc t 2 a

/-- The access size of format K (17 R443). -/
def kSize (w : Nat) : Nat := 2 ^ bitsOf w 16 2

/-- The number of the pointer of format K. -/
def kNum (w : Nat) : Nat := bitsOf w 18 3

/-- The pointer's step in bytes. -/
def kStep (w : Nat) : Word := BitVec.ofInt 32 (sextN 15 (bitsOf w 0 15) * kSize w)

/-- A K-format word with U set for a word or pair, or an odd pair register (17 R449). -/
def kIllegal (w : Nat) : Bool := (w.testBit 15 && decide (4 ≤ kSize w)) || (decide (kSize w = 8) && decide (fD w % 2 = 1))

/-- A row of a memory opcode. -/
def rowOp (op : Nat) : TramRow := ⟨op, none, 0, false⟩

def execLdB (engine : Nat) (v : TramView) (s : State) : Res := s.issue (rowOp 0x10) (ldBody 1 true false v) engine v
def execLdBu (engine : Nat) (v : TramView) (s : State) : Res := s.issue (rowOp 0x11) (ldBody 1 false false v) engine v
def execLdH (engine : Nat) (v : TramView) (s : State) : Res := s.issue (rowOp 0x12) (ldBody 2 true false v) engine v
def execLdHu (engine : Nat) (v : TramView) (s : State) : Res := s.issue (rowOp 0x13) (ldBody 2 false false v) engine v
def execLdW (engine : Nat) (v : TramView) (s : State) : Res := s.issue (rowOp 0x14) (ldBody 4 false false v) engine v
def execLdP (engine : Nat) (v : TramView) (s : State) : Res := s.issue (rowOp 0x15) (ldBody 8 false false v) engine v
def execLdrW (engine : Nat) (v : TramView) (s : State) : Res := s.issue (rowOp 0x16) (ldBody 4 false true v) engine v
def execLdrP (engine : Nat) (v : TramView) (s : State) : Res := s.issue (rowOp 0x17) (ldBody 8 false true v) engine v
def execStB (engine : Nat) (v : TramView) (s : State) : Res := s.issue (rowOp 0x18) (stBody 1 false v) engine v
def execStH (engine : Nat) (v : TramView) (s : State) : Res := s.issue (rowOp 0x19) (stBody 2 false v) engine v
def execStW (engine : Nat) (v : TramView) (s : State) : Res := s.issue (rowOp 0x1A) (stBody 4 false v) engine v
def execStP (engine : Nat) (v : TramView) (s : State) : Res := s.issue (rowOp 0x1B) (stBody 8 false v) engine v
def execStsW (engine : Nat) (v : TramView) (s : State) : Res := s.issue (rowOp 0x1C) (stBody 4 true v) engine v
def execStsP (engine : Nat) (v : TramView) (s : State) : Res := s.issue (rowOp 0x1D) (stBody 8 true v) engine v
def execStcW (engine : Nat) (v : TramView) (s : State) : Res := s.issue (rowOp 0x1E) (stcBody 4 v) engine v
def execStcP (engine : Nat) (v : TramView) (s : State) : Res := s.issue (rowOp 0x1F) (stcBody 8 v) engine v

def execLdk (engine : Nat) (v : TramView) (s : State) : Res :=
  s.issue (rowOp 0x20) (fun x w e t =>
    if kIllegal w then .exc t 1 0
    else loadAt t e ⟨some (fD w), kSize w, !w.testBit 15, some (kNum w, x.ptrNext (kNum w) (kStep w)), none, (x.rkAddr 0 (kNum w)).toNat⟩
      v.dataErrs false) engine v

def execStk (engine : Nat) (v : TramView) (s : State) : Res :=
  s.issue (rowOp 0x21) (fun x w e t =>
    if kIllegal w then .exc t 1 0
    else storeAt t e (x.rkAddr 0 (kNum w)).toNat (kSize w) (x.storeData (fD w) (kSize w)) v.dataErrs false
      (fun y => y.wk (kNum w) (x.ptrNext (kNum w) (kStep w)))) engine v

/-! ### Queue instructions (17 R456, 16 R425) -/

/-- The gallery address of a window of the queue bound to a port. -/
def State.portWindow (s : State) (e p off : Nat) : Nat := 0x010006000000 + s.rd TR_QPORT.QUEUE e p * 0x1000 + off

/-- A push: a posted 4-byte write to a window of the queue. -/
def pushBody (off : Nat) : Body := fun x w e t =>
  let p := fS w
  if !t.on TR_QPORT.VALID e p then .exc t 6 0
  else .done ((t.updEng e (fun y => { y with wait := some .push })).request (engReq e (t.portWindow e p off) 4 2 (x.rg (fD w)).toNat)) .next

/-- A pop: a non-posted 4-byte read, which freezes the engine until its response. -/
def popBody (head : Bool) : Body := fun _ w e t =>
  let p := fS w
  let a := t.portWindow e p QU_POP.WORD.off
  if !t.on TR_QPORT.VALID e p then .exc t 6 0
  else
    let l : Landing := ⟨some (fD w), 4, false, none, if head then some p else none, a % 2 ^ 32⟩
    .frozen ((t.updEng e (fun y => { y with wait := some (.answer l none) })).request (engReq e a 4 0 0))

/-- A row of the queue functions: bits [20], [15:8] and the width are 0. -/
def rowQ (func : Nat) : TramRow := ⟨3, some func, 0x10FFC0, false⟩

def execQpush (engine : Nat) (v : TramView) (s : State) : Res := s.issue (rowQ 0) (pushBody QU_PUSH.WORD.off) engine v
def execQpushl (engine : Nat) (v : TramView) (s : State) : Res := s.issue (rowQ 1) (pushBody QU_PUSH_LAST.WORD.off) engine v
def execQpop (engine : Nat) (v : TramView) (s : State) : Res := s.issue (rowQ 2) (popBody false) engine v
def execQpoph (engine : Nat) (v : TramView) (s : State) : Res := s.issue (rowQ 3) (popBody true) engine v

end Sys2Proof.Machine
end

