-- ==== Sys2Proof/Machine/Trace.lean ====
section
/-! DEFINITION. The trace path's commands and the stimulus instruction (20 R519 to R523; 17 R456; 16 R435). -/

namespace Sys2Proof.Machine

/-- STIM: width 3, a width 0 with a register, and an odd pair are illegal; on a port that is not enabled nothing happens.
`ticks` run to the Shift edge of the issue (20 R520). -/
def execStim (engine ticks : Nat) (v : TramView) (s : State) : Res :=
  s.issue ⟨3, some 8, 0xFF00, false⟩ (fun x w e t =>
    let wd := bitsOf w 6 2
    let r := fD w
    if wd = 3 ∨ (wd = 0 ∧ r ≠ 0) ∨ (wd = 2 ∧ r % 2 = 1) then .exc t 1 0
    else if !t.bit TR_STIM.EN (fS w) e then .done t .next
    else
      let d := if wd = 0 then 0 else if wd = 1 then (x.rg r).toNat else x.storeData r 8
      .done ((t.tick ticks).traceStim e (fS w) wd d) .next) engine v

/-- TRACE_ENABLE (R520): a write of `LP_TRACE_CTRL`. -/
def execTraceEnable (v ticks : Nat) (s : State) : Res := .next ((s.tick ticks).writeTraceCtrl v)

/-- TRACE_SYNC (R520). -/
def execTraceSync (ticks : Nat) (s : State) : Res :=
  .next (let t := s.tick ticks; if t.on LP_TRACE_CTRL.EN then t.traceSyncNow else t)

/-- TRACE_LINE_TIMEOUT (R523). -/
def execTraceLineTimeout (s : State) : Res := .next s.traceFlush

/-- TRACE_FUNNEL (R521). -/
def execTraceFunnel (ticks : Nat) (s : State) : Res := .next ((s.tick ticks).funnel)

/-- TRACE_BUFFER_OUTPUT (R522, R523). -/
def execTraceBufferOutput (s : State) : Res := .next s.traceOut

end Sys2Proof.Machine
end

