-- ==== Sys2Proof/Machine/TramAlu.lean ====
section
/-! DEFINITION. Tram integer, branch, repeat and MAC instructions (17 R445 to R447, R451 to R455). Each command is one
issue by an engine; the operands stand in the instruction word. -/

namespace Sys2Proof.Machine

/-! ### Integer instructions -/

/-- A function of rs, rt and the shift count into rd. -/
def aluBody (f : Word → Word → Nat → Word) : Body := fun x w e t =>
  .done (t.updEng e (fun y => y.wg (fD w) (f (x.rg (fS w)) (x.rg (fT w)) (fT w)))) .next

/-- As `aluBody` for a MAC-unit result, which has one slot (16 R413). -/
def mulBody (f : Word → Word → Word) : Body := fun x w e t =>
  .done (t.updEng e (fun y => y.wgLate (fD w) (f (x.rg (fS w)) (x.rg (fT w))))) .next

/-- A result that the S bit saturates (R446): its true value, and whether it has one slot. -/
def satBody (late : Bool) (f : Word → Word → Int) : Body := fun x w e t =>
  let r := f (x.rg (fS w)) (x.rg (fT w))
  let (v, lim) := if w.testBit 10 then satInt 32 r else (r, false)
  let word := BitVec.ofInt 32 v
  .done (t.updEng e (fun y => (if late then y.wgLate (fD w) word else y.wg (fD w) word).sticky lim)) .next

/-- A row of format A under opcode 0. -/
def rowA (func zeros : Nat) : TramRow := ⟨0, some func, zeros, false⟩

/-- 1 for true as a word. -/
def flag (b : Bool) : Word := if b then 1 else 0

/-- Leading zeros of a word. -/
def clz (x : Word) : Nat := (List.range 32).findIdx (fun i => x.getLsbD (31 - i))

def execAdd (engine : Nat) (v : TramView) (s : State) : Res := s.issue (rowA 0x00 0x3C0) (satBody false (fun a b => a.toInt + b.toInt)) engine v
def execSub (engine : Nat) (v : TramView) (s : State) : Res := s.issue (rowA 0x01 0x3C0) (satBody false (fun a b => a.toInt - b.toInt)) engine v
def execAnd (engine : Nat) (v : TramView) (s : State) : Res := s.issue (rowA 0x02 0x7C0) (aluBody (fun a b _ => a &&& b)) engine v
def execOr (engine : Nat) (v : TramView) (s : State) : Res := s.issue (rowA 0x03 0x7C0) (aluBody (fun a b _ => a ||| b)) engine v
def execXor (engine : Nat) (v : TramView) (s : State) : Res := s.issue (rowA 0x04 0x7C0) (aluBody (fun a b _ => a ^^^ b)) engine v
def execAndn (engine : Nat) (v : TramView) (s : State) : Res := s.issue (rowA 0x05 0x7C0) (aluBody (fun a b _ => a &&& ~~~b)) engine v
def execCmplt (engine : Nat) (v : TramView) (s : State) : Res := s.issue (rowA 0x06 0x7C0) (aluBody (fun a b _ => flag (a.slt b))) engine v
def execCmpltu (engine : Nat) (v : TramView) (s : State) : Res := s.issue (rowA 0x07 0x7C0) (aluBody (fun a b _ => flag (a.ult b))) engine v
def execShl (engine : Nat) (v : TramView) (s : State) : Res := s.issue (rowA 0x08 0x7C0) (aluBody (fun a b _ => a <<< (b.toNat % 32))) engine v
def execShr (engine : Nat) (v : TramView) (s : State) : Res := s.issue (rowA 0x09 0x7C0) (aluBody (fun a b _ => a >>> (b.toNat % 32))) engine v
def execSar (engine : Nat) (v : TramView) (s : State) : Res := s.issue (rowA 0x0A 0x7C0) (aluBody (fun a b _ => a.sshiftRight (b.toNat % 32))) engine v
def execShli (engine : Nat) (v : TramView) (s : State) : Res := s.issue (rowA 0x0B 0x7C0) (aluBody (fun a _ n => a <<< n)) engine v
def execShri (engine : Nat) (v : TramView) (s : State) : Res := s.issue (rowA 0x0C 0x7C0) (aluBody (fun a _ n => a >>> n)) engine v
def execSari (engine : Nat) (v : TramView) (s : State) : Res := s.issue (rowA 0x0D 0x7C0) (aluBody (fun a _ n => a.sshiftRight n)) engine v
def execMul (engine : Nat) (v : TramView) (s : State) : Res := s.issue (rowA 0x0E 0x3C0) (satBody true (fun a b => a.toInt * b.toInt)) engine v
def execMulhs (engine : Nat) (v : TramView) (s : State) : Res :=
  s.issue (rowA 0x0F 0x7C0) (mulBody (fun a b => BitVec.ofInt 32 (a.toInt * b.toInt / 2 ^ 32))) engine v
def execMulhu (engine : Nat) (v : TramView) (s : State) : Res :=
  s.issue (rowA 0x10 0x7C0) (mulBody (fun a b => BitVec.ofNat 32 (a.toNat * b.toNat / 2 ^ 32))) engine v
def execMin (engine : Nat) (v : TramView) (s : State) : Res := s.issue (rowA 0x11 0x7C0) (aluBody (fun a b _ => if a.slt b then a else b)) engine v
def execMax (engine : Nat) (v : TramView) (s : State) : Res := s.issue (rowA 0x12 0x7C0) (aluBody (fun a b _ => if a.slt b then b else a)) engine v
def execAbs (engine : Nat) (v : TramView) (s : State) : Res := s.issue (rowA 0x13 0xFBC0) (satBody false (fun a _ => a.toInt.natAbs)) engine v
def execClz (engine : Nat) (v : TramView) (s : State) : Res := s.issue (rowA 0x14 0xFFC0) (aluBody (fun a _ _ => BitVec.ofNat 32 (clz a))) engine v

/-- An N-format arithmetic instruction (R447): rs and imm16. -/
def immBody (f : Word → Nat → Word) : Body := fun x w e t => .done (t.updEng e (fun y => y.wg (fD w) (f (x.rg (fS w)) (bitsOf w 0 16)))) .next

/-- A sign-extended imm16. -/
def simmWord (i : Nat) : Word := BitVec.ofInt 32 (sextN 16 i)

def execAddc (engine : Nat) (v : TramView) (s : State) : Res := s.issue ⟨0x08, none, 0, false⟩ (immBody (fun a i => a + simmWord i)) engine v
def execCmpltc (engine : Nat) (v : TramView) (s : State) : Res := s.issue ⟨0x09, none, 0, false⟩ (immBody (fun a i => flag (a.slt (simmWord i)))) engine v
def execCmpltuc (engine : Nat) (v : TramView) (s : State) : Res := s.issue ⟨0x0A, none, 0, false⟩ (immBody (fun a i => flag (a.ult (simmWord i)))) engine v
def execAndc (engine : Nat) (v : TramView) (s : State) : Res := s.issue ⟨0x0B, none, 0, false⟩ (immBody (fun a i => a &&& BitVec.ofNat 32 i)) engine v
def execOrc (engine : Nat) (v : TramView) (s : State) : Res := s.issue ⟨0x0C, none, 0, false⟩ (immBody (fun a i => a ||| BitVec.ofNat 32 i)) engine v
def execXorc (engine : Nat) (v : TramView) (s : State) : Res := s.issue ⟨0x0D, none, 0, false⟩ (immBody (fun a i => a ^^^ BitVec.ofNat 32 i)) engine v
def execMovh (engine : Nat) (v : TramView) (s : State) : Res := s.issue ⟨0x0E, none, 0x1F0000, false⟩ (immBody (fun _ i => BitVec.ofNat 32 (i * 2 ^ 16))) engine v

/-! ### Branches, jumps and repeat blocks -/

/-- The address of the instruction in issue. -/
def State.here (s : State) (e : Nat) : Nat := s.rd TR_PC.PC e

/-- The offset of a 32-bit target, modulo 64 KiB. -/
def offTo (pc : Nat) (d : Int) : Nat := ((pc + d) % 65536).toNat

/-- A conditional branch (R451): rs in [25:21], rt in [20:16]. -/
def brBody (c : Word → Word → Bool) : Body := fun x w e t => .done t (.branch (c (x.rg (fD w)) (x.rg (fS w))) (offTo (t.here e) (4 * simm w)))

/-- A branch row. -/
def rowB (op : Nat) : TramRow := ⟨op, none, 0, true⟩

def execBrEq (engine : Nat) (v : TramView) (s : State) : Res := s.issue (rowB 0x28) (brBody (fun a b => decide (a = b))) engine v
def execBrNe (engine : Nat) (v : TramView) (s : State) : Res := s.issue (rowB 0x29) (brBody (fun a b => decide (a ≠ b))) engine v
def execBrLt (engine : Nat) (v : TramView) (s : State) : Res := s.issue (rowB 0x2A) (brBody (fun a b => a.slt b)) engine v
def execBrGe (engine : Nat) (v : TramView) (s : State) : Res := s.issue (rowB 0x2B) (brBody (fun a b => !a.slt b)) engine v
def execBrLtu (engine : Nat) (v : TramView) (s : State) : Res := s.issue (rowB 0x2C) (brBody (fun a b => a.ult b)) engine v
def execBrGeu (engine : Nat) (v : TramView) (s : State) : Res := s.issue (rowB 0x2D) (brBody (fun a b => !a.ult b)) engine v

/-- The link of a call at an offset. -/
def linkOf (pc : Nat) : Word := BitVec.ofNat 32 ((pc + 12) % 65536)

def execGo (engine : Nat) (v : TramView) (s : State) : Res :=
  s.issue ⟨0x30, none, 0x3FFC000, true⟩ (fun _ w _ t => .done t (.branch true (4 * bitsOf w 0 14))) engine v

def execCall (engine : Nat) (v : TramView) (s : State) : Res :=
  s.issue ⟨0x31, none, 0x3FFC000, true⟩
    (fun _ w e t => .done (t.updEng e (fun y => y.wg 30 (linkOf (t.here e)))) (.branch true (4 * bitsOf w 0 14))) engine v

/-- A jump through a register (R451): a target with bits [1:0] set raises ADDRESS. -/
def jumpBody (link : Option Nat) : Body := fun x w e t =>
  let a := (x.rg (fS w)).toNat
  if a % 4 ≠ 0 then .exc t 2 a
  else .done (match link with
    | some r => t.updEng e (fun y => y.wg r (linkOf (t.here e)))
    | none => t) (.branch true (a % 65536))

def execJmp (engine : Nat) (v : TramView) (s : State) : Res := s.issue ⟨0, some 0x15, 0x3E0FFC0, true⟩ (jumpBody none) engine v

def execCallr (engine : Nat) (v : TramView) (s : State) : Res :=
  s.issue ⟨0, some 0x16, 0x7C0, true⟩ (fun x w e t => if fD w = fS w then .exc t 1 0 else jumpBody (some (fD w)) x w e t) engine v

def execRep (engine : Nat) (v : TramView) (s : State) : Res :=
  s.issue ⟨0x34, none, 0x3E00000, true⟩ (fun _ w _ t => .done t (.rep (fS w + 1) (bitsOf w 0 16))) engine v

def execRepr (engine : Nat) (v : TramView) (s : State) : Res :=
  s.issue ⟨0x35, none, 0, true⟩ (fun x w _ t => .done t (.rep (fS w + 1) ((x.rg (fD w)).toNat % 65536))) engine v

/-! ### The MAC unit (R454, R455) -/

/-- A 16-bit half as a number: unsigned for U = 1. -/
def halfInt (unsigned : Bool) (h : Nat) : Int := if unsigned then (h : Int) else sextN 16 h

/-- A row of the MAC unit. -/
def rowM (func zeros : Nat) : TramRow := ⟨1, some func, zeros, false⟩

/-- A multiply function: `f` takes lo and hi of rs, lo and hi of rt; `keep` adds to the accumulator. -/
def macBody (keep : Bool) (f : Int → Int → Int → Int → Int) : Body := fun x w e t =>
  let a := (x.rg (fS w)).toNat
  let b := (x.rg (fT w)).toNat
  let u := w.testBit 9
  let h := halfInt u
  let r := (if keep then (x.accD (fAD w)).toInt else 0) + f (h (a % 65536)) (h (a / 65536)) (h (b % 65536)) (h (b / 65536))
  let (v, lim) := if w.testBit 10 then satInt 72 r else (r, false)
  .done (t.updEng e (fun y => (y.wacc (fAD w) (BitVec.ofInt 72 v)).sticky lim)) .next

def execMac2 (engine : Nat) (v : TramView) (s : State) : Res := s.issue (rowM 0x00 0xE001C0) (macBody true (fun al ah bl bh => al * bl + ah * bh)) engine v
def execMsu2 (engine : Nat) (v : TramView) (s : State) : Res := s.issue (rowM 0x01 0xE001C0) (macBody true (fun al ah bl bh => -(al * bl) - ah * bh)) engine v
def execMacx (engine : Nat) (v : TramView) (s : State) : Res := s.issue (rowM 0x02 0xE001C0) (macBody true (fun al ah bl bh => al * bh + ah * bl)) engine v
def execMul2 (engine : Nat) (v : TramView) (s : State) : Res := s.issue (rowM 0x03 0xE001C0) (macBody false (fun al ah bl bh => al * bl + ah * bh)) engine v
def execMac1 (engine : Nat) (v : TramView) (s : State) : Res := s.issue (rowM 0x04 0xE001C0) (macBody true (fun al _ bl _ => al * bl)) engine v
def execMacr (engine : Nat) (v : TramView) (s : State) : Res := s.issue (rowM 0x05 0xE001C0) (macBody true (fun al ah bl bh => al * bl - ah * bh)) engine v

/-- MFA: the accumulator rounded, shifted and cut or saturated. The rounding sum is exact (log entry 32). -/
def execMfa (engine : Nat) (v : TramView) (s : State) : Res :=
  s.issue (rowM 0x08 0xBC0) (fun x w e t =>
    let sh := bitsOf w 15 6
    let a := (x.accS (fAS w)).toInt
    let r := (if w.testBit 12 ∧ 0 < sh then a + 2 ^ (sh - 1) else a) / 2 ^ sh
    let (z, lim) := if w.testBit 10 then satInt 32 r else (r, false)
    .done (t.updEng e (fun y => (y.wgLate (fD w) (BitVec.ofInt 32 z)).sticky lim)) .next) engine v

/-- A function of rs and a count into an accumulator, given its value before. -/
def accBody (f : Acc72 → Word → Nat → Acc72) : Body := fun x w e t =>
  .done (t.updEng e (fun y => y.wacc (fAD w) (f (x.accD (fAD w)) (x.rg (fS w)) (fT w)))) .next

def execMta (engine : Nat) (v : TramView) (s : State) : Res := s.issue (rowM 0x09 0xE007C0) (accBody (fun _ r n => (r.signExtend 72) <<< n)) engine v
def execAclr (engine : Nat) (v : TramView) (s : State) : Res := s.issue (rowM 0x0A 0xFFFFC0) (accBody (fun _ _ _ => 0)) engine v
def execAadd (engine : Nat) (v : TramView) (s : State) : Res :=
  s.issue (rowM 0x0B 0xFF9BC0) (fun x w e t =>
    let r := (x.accD (fAD w)).toInt + (x.accS (fAS w)).toInt
    let (z, lim) := if w.testBit 10 then satInt 72 r else (r, false)
    .done (t.updEng e (fun y => (y.wacc (fAD w) (BitVec.ofInt 72 z)).sticky lim)) .next) engine v
def execAsr (engine : Nat) (v : TramView) (s : State) : Res := s.issue (rowM 0x0C 0xFF07C0) (accBody (fun a _ n => a.sshiftRight n)) engine v
def execMfah (engine : Nat) (v : TramView) (s : State) : Res :=
  s.issue (rowM 0x0D 0x1F9FC0) (fun x w e t =>
    .done (t.updEng e (fun y => y.wgLate (fD w) (((x.accS (fAS w)).extractLsb' 64 8).signExtend 32))) .next) engine v
def execMtal (engine : Nat) (v : TramView) (s : State) : Res :=
  s.issue (rowM 0x0E 0xE0FFC0) (accBody (fun a r _ => a.extractLsb' 32 40 ++ r)) engine v
def execMtam (engine : Nat) (v : TramView) (s : State) : Res :=
  s.issue (rowM 0x0F 0xE0FFC0) (accBody (fun a r _ => (a.extractLsb' 64 8 ++ r : BitVec 40) ++ a.extractLsb' 0 32)) engine v
def execMtah (engine : Nat) (v : TramView) (s : State) : Res :=
  s.issue (rowM 0x10 0xE0FFC0) (accBody (fun a r _ => r.extractLsb' 0 8 ++ a.extractLsb' 0 64)) engine v

end Sys2Proof.Machine
end

