-- ==== Sys2Proof/Machine/TramSys.lean ====
section
/-! DEFINITION. Tram system instructions (17 R457), entries to handler and monitor, engine commands, watchdog, notices and
posts (16 R426 to R438). -/

namespace Sys2Proof.Machine

/-! ### System instructions -/

/-- A row of the system functions. -/
def rowS (func zeros : Nat) (flow : Bool) : TramRow := ⟨2, some func, zeros, flow⟩

def execWait (engine : Nat) (v : TramView) (s : State) : Res :=
  s.issue (rowS 1 0x3FFFFC0 true) (fun _ _ e t => .done ((t.wr TR_STATUS.STATE 2 e).updEng e (fun y => { y with resv := none })) .next) engine v

def execEi (engine : Nat) (v : TramView) (s : State) : Res :=
  s.issue (rowS 2 0x3FFFFC0 false) (fun _ _ e t => .done (t.wr TR_STATUS.IE 1 e) .next) engine v

def execDi (engine : Nat) (v : TramView) (s : State) : Res :=
  s.issue (rowS 3 0x3FFFFC0 false) (fun _ _ e t => .done (t.wr TR_STATUS.IE 0 e) .next) engine v

def execRetx (engine : Nat) (v : TramView) (s : State) : Res :=
  s.issue (rowS 4 0x3FFFFC0 true) (fun _ _ e t =>
    if t.on TR_STATUS.INH e then .done (t.wr TR_STATUS.INH 0 e) (.goto (t.rd TR_XPC.XPC e)) else .exc t 1 0) engine v

def execRetm (engine : Nat) (v : TramView) (s : State) : Res :=
  s.issue (rowS 5 0x3FFFFC0 true) (fun _ _ e t =>
    if t.on TR_STATUS.MON e then
      .done ((t.wr TR_STATUS.MON 0 e).updEng e (fun y => { y with stepOver := t.on TR_DBG_CTRL.STEP e })) (.goto (t.rd TR_MPC.MPC e))
    else .exc t 1 0) engine v

/-- Debug entry where the engine stands at an eligible boundary with a cause present (16 R433). -/
def State.debugEntry (s : State) (e : Nat) : State :=
  if s.rd TR_STATUS.STATE e = 1 ∧ (s.eng e).eligible ∧ !s.pushHeld e ∧ s.dbgCauses e ≠ 0 then s.enterMonitor e else s

/-- BREAK: in monitor mode a no-operation that sets `DBG_NEST`; else debug entry at once, or at the next eligible boundary. -/
def execBreak (engine : Nat) (v : TramView) (s : State) : Res :=
  match s.issue (rowS 6 0x3FFFFC0 false) (fun _ _ e t =>
      .done (if t.on TR_STATUS.MON e then t.wr TR_DBG_CTRL.DBG_NEST 1 e else t.updEng e (fun y => { y with dbg := y.dbg ||| 1 })) .next) engine v with
  | .next t => .next (if s.canIssue engine then t.debugEntry engine else t)
  | o => o

def execTrap (engine : Nat) (v : TramView) (s : State) : Res :=
  s.issue (rowS 7 0 false) (fun _ w _ t => .exc t 7 (bitsOf w 6 20)) engine v

/-- The cycle counter moves on by the Tram cycles since the program last looked (17 R442; log entry 33). -/
def Engine.tick (x : Engine) (n : Nat) : Engine := { x with cycles := x.cycles + BitVec.ofNat 64 n }

/-- RDC. `cycles` counts the Tram cycles since the last RDC or WRC of the engine. -/
def execRdc (engine cycles : Nat) (v : TramView) (s : State) : Res :=
  s.issue (rowS 8 0xFFC0 false) (fun x w e t =>
    let y := (t.eng e).tick cycles
    let put := fun (y : Engine) (d : Word) => Eff.done (t.setEng e (y.wg (fD w) d)) .next
    match fS w with
    | 0 => put y (BitVec.ofNat 32 (b2n x.sv + 2 * b2n (t.on TR_STATUS.IE e)))
    | 1 => put y (BitVec.ofNat 32 (match x.rep with
      | some (_, _, left) => left
      | none => 0))
    | 2 => put { y with cyclesHi := y.cycles.extractLsb' 32 32 } (y.cycles.extractLsb' 0 32)
    | 3 => put y x.cyclesHi
    | 4 => put y (BitVec.ofNat 32 e)
    | _ => .exc t 1 0) engine v

/-- WRC: writes to read-only bits are ignored. -/
def execWrc (engine cycles : Nat) (v : TramView) (s : State) : Res :=
  s.issue (rowS 9 0xFFC0 false) (fun x w e t =>
    let y := (t.eng e).tick cycles
    let d := x.rg (fD w)
    let put := fun (y : Engine) => Eff.done (t.setEng e y) .next
    match fS w with
    | 0 => put { y with sv := d.getLsbD 0 }
    | 1 => put y
    | 2 => put { y with cycles := y.cycles.extractLsb' 32 32 ++ d }
    | 3 => put { y with cycles := d ++ y.cycles.extractLsb' 0 32 }
    | 4 => put y
    | _ => .exc t 1 0) engine v

def execRdk (engine : Nat) (v : TramView) (s : State) : Res :=
  s.issue (rowS 0xA 0x183FC0 false) (fun x w e t =>
    if bitsOf w 14 2 = 3 then .exc t 1 0
    else .done (t.updEng e (fun y => y.wg (fD w) (x.rk (bitsOf w 14 2) (bitsOf w 16 3)))) .next) engine v

def execWrk (engine : Nat) (v : TramView) (s : State) : Res :=
  s.issue (rowS 0xB 0x183FC0 false) (fun x w e t =>
    if bitsOf w 14 2 = 3 then .exc t 1 0
    else .done (t.updEng e (fun y => y.wkLate (bitsOf w 14 2) (bitsOf w 16 3) (x.rg (fD w)))) .next) engine v

/-! ### Entries (16 R428, R433, R436) -/

/-- INTERRUPT_ENTRY: at an eligible boundary, or out of WAITING; a waiting engine wakes whatever IE is. -/
def execInterruptEntry (engine : Nat) (s : State) : Res :=
  need (engine < 64)
    (let st := s.rd TR_STATUS.STATE engine
     if st = 2 ∧ s.irqDue engine then
       let t := (s.wr TR_STATUS.STATE 1 engine).ungate 0 engine
       if s.takesIrq engine then (t.settleGaps engine).enterIrq engine else t
     else if st = 1 ∧ (s.eng engine).eligible ∧ !s.pushHeld engine ∧ s.takesIrq engine then s.enterIrq engine
     else s)

/-- DEBUG_ENTRY. -/
def execDebugEntry (engine : Nat) (s : State) : Res := need (engine < 64) (s.debugEntry engine)

/-! ### Commands (16 R437, R438; 20 R518) -/

/-- TR_START: a write of `TR_CTRL` with `CMD` = START. -/
def execTrStart (engine value : Nat) (s : State) : Res := need (engine < 64) (s.trWrite engine 0 8 (value / 4 * 4 + 1)).2

/-- TR_RESUME: a write of `TR_CTRL` with `CMD` = RESUME. -/
def execTrResume (engine value : Nat) (s : State) : Res := need (engine < 64) (s.trWrite engine 0 8 (value / 4 * 4 + 2)).2

/-- TR_HALT: a write of `TR_CTRL` with `CMD` = HALT. -/
def execTrHalt (engine value : Nat) (s : State) : Res := need (engine < 64) (s.trWrite engine 0 8 (value / 4 * 4 + 3)).2

/-- LOADED: a write of `TR_CTRL` with `LOADED` = 1. -/
def execLoaded (engine value : Nat) (s : State) : Res := need (engine < 64) (s.trWrite engine 0 8 (value ||| 4)).2

/-- HALT_REQ: a write of `TR_DBG_CTRL` with `HALT_REQ` = 1. -/
def execHaltReq (engine value : Nat) (s : State) : Res := need (engine < 64) (s.trWrite engine 0x180 8 (value ||| 1)).2

/-! ### The watchdog (16 R432) -/

/-- The watchdog counts. -/
def State.wdogCounts (s : State) (e : Nat) : Bool :=
  s.on TR_WDOG.EN e && decide (s.rd TR_STATUS.STATE e = 1 ∨ s.rd TR_STATUS.STATE e = 2)
    && !(s.on TR_STATUS.MON e && s.on TR_WDOG.DBG_STOP e)

/-- WATCHDOG_EXPIRY. -/
def execWatchdogExpiry (engine : Nat) (s : State) : Res :=
  need (engine < 64)
    (if !s.wdogCounts engine then s
     else if s.on TR_WDOG.ACT engine && !(s.eng engine).warned then
       (s.putBit TR_IRQ_PEND.PEND 4 true engine).updEng engine (fun x => { x with warned := true })
     else s.wdogReset engine)

/-- KICK: a write of `TR_WDOG_KICK` with `KICK` = 1. -/
def execKick (engine : Nat) (s : State) : Res := need (engine < 64) (s.trWrite engine 0x128 8 1).2

/-- WDOG_WRITE: a write of `TR_WDOG`. -/
def execWdogWrite (engine value : Nat) (s : State) : Res := need (engine < 64) (s.trWrite engine 0x120 8 value).2

/-! ### Notices and posts (16 R426, R427) -/

/-- QNOTE: a write of `TR_QNOTE`. -/
def execQnote (engine port : Nat) (s : State) : Res := need (engine < 64 ∧ port < 16) (s.trWrite engine 0x060 4 port).2

/-- NOTICE_RESEND. -/
def execNoticeResend (engine : Nat) (s : State) : Res :=
  need (engine < 64)
    (if s.tram.resend.contains engine then
       (s.tr (fun x => { x with resend := x.resend.filter (fun k => decide (k ≠ engine)) })).resendNotices engine
     else s)

/-- IRQ_POST: a write of `TR_IRQ_POST` from a master. -/
def execIrqPost (engine value src tag : Nat) (posted : Bool) (s : State) : Res :=
  need (engine < 64)
    (let (st, t) := s.trWrite engine 0x040 4 value
     t.respond (653 + crewOf engine) src tag st 0 false posted)

/-- POST_POP: a read of `TR_POST_DATA` of 4 or 8 bytes; a peek takes nothing. -/
def execPostPop (engine size src tag : Nat) (peek : Bool) (s : State) : Res :=
  need (engine < 64 ∧ (size = 4 ∨ size = 8))
    (let (d, t) := s.trRead engine 0x048 size peek
     t.respond (653 + crewOf engine) src tag 0 d false false)

end Sys2Proof.Machine
end

