-- ==== Sys2Proof/Machine/Dispatch.lean ====
section
/-! DEFINITION. The effect of each command: one arm per constructor of `Instr`, in the order of the table. -/

namespace Sys2Proof.Machine

/-- The effect of a command on everything but the queue. -/
def exec (i : Instr) (s : State) : Host.Outcome State Fault Refusal :=
  match i with
  | .cold => Sys2Proof.Machine.execCold s
  | .vccAonLoss => Sys2Proof.Machine.execVccAonLoss s
  | .refclkWindowEnd ringCount => Sys2Proof.Machine.execRefclkWindowEnd ringCount s
  | .refclkEdgeTimeout => Sys2Proof.Machine.execRefclkEdgeTimeout s
  | .rootLock => Sys2Proof.Machine.execRootLock s
  | .lockTimeout => Sys2Proof.Machine.execLockTimeout s
  | .aligned => Sys2Proof.Machine.execAligned s
  | .clockSwitchDone => Sys2Proof.Machine.execClockSwitchDone s
  | .switchHang => Sys2Proof.Machine.execSwitchHang s
  | .foremanResetRelease => Sys2Proof.Machine.execForemanResetRelease s
  | .rootLost => Sys2Proof.Machine.execRootLost s
  | .railLost rail => Sys2Proof.Machine.execRailLost rail s
  | .railGood => Sys2Proof.Machine.execRailGood s
  | .retry byForeman => Sys2Proof.Machine.execRetry byForeman s
  | .phaseDivWrite n => Sys2Proof.Machine.execPhaseDivWrite n s
  | .phaseDivApply => Sys2Proof.Machine.execPhaseDivApply s
  | .clockGate cls unit => Sys2Proof.Machine.execClockGate cls unit s
  | .perstAssert => Sys2Proof.Machine.execPerstAssert s
  | .warmReq key req => Sys2Proof.Machine.execWarmReq key req s
  | .warmHoldEnd => Sys2Proof.Machine.execWarmHoldEnd s
  | .stopeResetReq stope => Sys2Proof.Machine.execStopeResetReq stope s
  | .stopeResetLineHigh => Sys2Proof.Machine.execStopeResetLineHigh s
  | .stopeResetEnd => Sys2Proof.Machine.execStopeResetEnd s
  | .engineResetReq engine => Sys2Proof.Machine.execEngineResetReq engine s
  | .engineResetDone => Sys2Proof.Machine.execEngineResetDone s
  | .stopePowerDown stope => Sys2Proof.Machine.execStopePowerDown stope s
  | .stopePowerUp stope => Sys2Proof.Machine.execStopePowerUp stope s
  | .stopePowerUpDone stope => Sys2Proof.Machine.execStopePowerUpDone stope s
  | .crewPowerDown crew => Sys2Proof.Machine.execCrewPowerDown crew s
  | .crewPowerUp crew => Sys2Proof.Machine.execCrewPowerUp crew s
  | .crewPowerUpDone crew => Sys2Proof.Machine.execCrewPowerUpDone crew s
  | .strokeStart => Sys2Proof.Machine.execStrokeStart s
  | .activePhase => Sys2Proof.Machine.execActivePhase s
  | .slotEnd => Sys2Proof.Machine.execSlotEnd s
  | .holdPhase => Sys2Proof.Machine.execHoldPhase s
  | .strokeBoundary => Sys2Proof.Machine.execStrokeBoundary s
  | .columnRepair stope pos => Sys2Proof.Machine.execColumnRepair stope pos s
  | .refillDone stope => Sys2Proof.Machine.execRefillDone stope s
  | .refillShadowError stope => Sys2Proof.Machine.execRefillShadowError stope s
  | .treeSrcWrite stope src => Sys2Proof.Machine.execTreeSrcWrite stope src s
  | .treeSwitchDone stope => Sys2Proof.Machine.execTreeSwitchDone stope s
  | .treeSwitchHang stope => Sys2Proof.Machine.execTreeSwitchHang stope s
  | .treeStep stope go => Sys2Proof.Machine.execTreeStep stope go s
  | .eccWriteback stope mem unit => Sys2Proof.Machine.execEccWriteback stope mem unit s
  | .sweepStep stope => Sys2Proof.Machine.execSweepStep stope s
  | .copyStarved stope mem => Sys2Proof.Machine.execCopyStarved stope mem s
  | .memInjectArm stope mem double => Sys2Proof.Machine.execMemInjectArm stope mem double s
  | .binQueueMove stope bin => Sys2Proof.Machine.execBinQueueMove stope bin s
  | .levelIrqResponse stope bin error => Sys2Proof.Machine.execLevelIrqResponse stope bin error s
  | .corerCopyUnit stope mem error => Sys2Proof.Machine.execCorerCopyUnit stope mem error s
  | .journalStore stope mem error => Sys2Proof.Machine.execJournalStore stope mem error s
  | .start byForeman => Sys2Proof.Machine.execStart byForeman s
  | .abort => Sys2Proof.Machine.execAbort s
  | .extentPush len space last byForeman => Sys2Proof.Machine.execExtentPush len space last byForeman s
  | .extentReadData data error => Sys2Proof.Machine.execExtentReadData data error s
  | .streamHeader h => Sys2Proof.Machine.execStreamHeader h s
  | .segmentHeader h => Sys2Proof.Machine.execSegmentHeader h s
  | .segmentTagCheck tag => Sys2Proof.Machine.execSegmentTagCheck tag s
  | .nop h => Sys2Proof.Machine.execNop h s
  | .write h frames => Sys2Proof.Machine.execWrite h frames s
  | .meminit h units => Sys2Proof.Machine.execMeminit h units s
  | .ibeusEnd h => Sys2Proof.Machine.execIbeusEnd h s
  | .frameWritten seam => Sys2Proof.Machine.execFrameWritten seam s
  | .shadowWriteAck error => Sys2Proof.Machine.execShadowWriteAck error s
  | .loadComplete => Sys2Proof.Machine.execLoadComplete s
  | .abortDone => Sys2Proof.Machine.execAbortDone s
  | .loadDeadline => Sys2Proof.Machine.execLoadDeadline s
  | .diagSectionCheck good ofs len => Sys2Proof.Machine.execDiagSectionCheck good ofs len s
  | .readback seam faddr => Sys2Proof.Machine.execReadback seam faddr s
  | .readbackDone seam => Sys2Proof.Machine.execReadbackDone seam s
  | .isolate stope release => Sys2Proof.Machine.execIsolate stope release s
  | .release stope isolate => Sys2Proof.Machine.execRelease stope isolate s
  | .isoEffect stope => Sys2Proof.Machine.execIsoEffect stope s
  | .stopePortResponse stope tag status data poison => Sys2Proof.Machine.execStopePortResponse stope tag status data poison s
  | .stopePortTargetAccess a => Sys2Proof.Machine.execStopePortTargetAccess a s
  | .scrubFrameRead scrubber upsets reread reject => Sys2Proof.Machine.execScrubFrameRead scrubber upsets reread reject s
  | .shadowRepairRead scrubber error reject => Sys2Proof.Machine.execShadowRepairRead scrubber error reject s
  | .spoilClear stope => Sys2Proof.Machine.execSpoilClear stope s
  | .sbCtrlRefresh scrubber seen => Sys2Proof.Machine.execSbCtrlRefresh scrubber seen s
  | .refreshLost lost => Sys2Proof.Machine.execRefreshLost lost s
  | .peerFaultRestart scrubber => Sys2Proof.Machine.execPeerFaultRestart scrubber s
  | .scrubEnable scrubber value => Sys2Proof.Machine.execScrubEnable scrubber value s
  | .scrubInject scrubber value => Sys2Proof.Machine.execScrubInject scrubber value s
  | .run arg stopes replayTrig => Sys2Proof.Machine.execRun arg stopes replayTrig s
  | .stopAt arg stopes replayTrig => Sys2Proof.Machine.execStopAt arg stopes replayTrig s
  | .step arg stopes replayTrig => Sys2Proof.Machine.execStep arg stopes replayTrig s
  | .sample arg stopes replayTrig => Sys2Proof.Machine.execSample arg stopes replayTrig s
  | .backfill arg stopes replayTrig => Sys2Proof.Machine.execBackfill arg stopes replayTrig s
  | .rewind arg stopes replayTrig => Sys2Proof.Machine.execRewind arg stopes replayTrig s
  | .replay arg stopes replayTrig => Sys2Proof.Machine.execReplay arg stopes replayTrig s
  | .groupStall => Sys2Proof.Machine.execGroupStall s
  | .sampleCopyOut => Sys2Proof.Machine.execSampleCopyOut s
  | .corerDrainFrame seam uncorrectable storeError => Sys2Proof.Machine.execCorerDrainFrame seam uncorrectable storeError s
  | .sampleComplete => Sys2Proof.Machine.execSampleComplete s
  | .engLimitExpiry => Sys2Proof.Machine.execEngLimitExpiry s
  | .engineAck mask => Sys2Proof.Machine.execEngineAck mask s
  | .restoreDone error => Sys2Proof.Machine.execRestoreDone error s
  | .stopeBackfillDone seam => Sys2Proof.Machine.execStopeBackfillDone seam s
  | .xcPortCtrlWrite port value => Sys2Proof.Machine.execXcPortCtrlWrite port value s
  | .lanePllLock port => Sys2Proof.Machine.execLanePllLock port s
  | .los port lane => Sys2Proof.Machine.execLos port lane s
  | .cdrLock port lane => Sys2Proof.Machine.execCdrLock port lane s
  | .cdrLockLost port lane => Sys2Proof.Machine.execCdrLockLost port lane s
  | .fecCodeword port lane early late check => Sys2Proof.Machine.execFecCodeword port lane early late check s
  | .alignmentBlock port lane b => Sys2Proof.Machine.execAlignmentBlock port lane b s
  | .slip port lane bits => Sys2Proof.Machine.execSlip port lane bits s
  | .txSleep port lane v => Sys2Proof.Machine.execTxSleep port lane v s
  | .txSleepEntered port lane => Sys2Proof.Machine.execTxSleepEntered port lane s
  | .txWakeDone port lane => Sys2Proof.Machine.execTxWakeDone port lane s
  | .rxSleep port lane v => Sys2Proof.Machine.execRxSleep port lane v s
  | .sleepBlock at_ b => Sys2Proof.Machine.execSleepBlock at_ b s
  | .testWrite port lane value => Sys2Proof.Machine.execTestWrite port lane value s
  | .txeqWrite port lane value => Sys2Proof.Machine.execTxeqWrite port lane value s
  | .eyeScanGo port lane phase voff eye dwell => Sys2Proof.Machine.execEyeScanGo port lane phase voff eye dwell s
  | .eyeScanDone port lane errors => Sys2Proof.Machine.execEyeScanDone port lane errors s
  | .gate port half v => Sys2Proof.Machine.execGate port half v s
  | .streamMapWrite port off value => Sys2Proof.Machine.execStreamMapWrite port off value s
  | .altWrite port half v => Sys2Proof.Machine.execAltWrite port half v s
  | .strokeFrame port half header data => Sys2Proof.Machine.execStrokeFrame port half header data s
  | .ack at_ b => Sys2Proof.Machine.execAck at_ b s
  | .nak at_ b => Sys2Proof.Machine.execNak at_ b s
  | .ackTimer sub => Sys2Proof.Machine.execAckTimer sub s
  | .resendTimeout timer => Sys2Proof.Machine.execResendTimeout timer s
  | .sync port lane cw kind code fields ccrc => Sys2Proof.Machine.execSync port lane cw kind code fields ccrc s
  | .syncTimer sub => Sys2Proof.Machine.execSyncTimer sub s
  | .failover port half => Sys2Proof.Machine.execFailover port half s
  | .perstRelease => Sys2Proof.Machine.execPerstRelease s
  | .configRequest op => Sys2Proof.Machine.execConfigRequest op s
  | .baseTimeout => Sys2Proof.Machine.execBaseTimeout s
  | .hostMemoryRequest bar ofs len write data poison answers => Sys2Proof.Machine.execHostMemoryRequest bar ofs len write data poison answers s
  | .linkDown => Sys2Proof.Machine.execLinkDown s
  | .dmaTurn corrected uncorrectable => Sys2Proof.Machine.execDmaTurn corrected uncorrectable s
  | .dmaCompletion queue status data poison => Sys2Proof.Machine.execDmaCompletion queue status data poison s
  | .queueEnable queue value => Sys2Proof.Machine.execQueueEnable queue value s
  | .queueStop queue value => Sys2Proof.Machine.execQueueStop queue value s
  | .queueAbort queue value => Sys2Proof.Machine.execQueueAbort queue value s
  | .quPush queue m size word tag posted poison => Sys2Proof.Machine.execQuPush queue m size word tag posted poison s
  | .quPushLast queue m size word tag posted poison => Sys2Proof.Machine.execQuPushLast queue m size word tag posted poison s
  | .quPop queue m size tag peek => Sys2Proof.Machine.execQuPop queue m size tag peek s
  | .quDoorbell queue len => Sys2Proof.Machine.execQuDoorbell queue len s
  | .doorbellFlip queue len => Sys2Proof.Machine.execDoorbellFlip queue len s
  | .bankSwap queue => Sys2Proof.Machine.execBankSwap queue s
  | .spillDone queue error => Sys2Proof.Machine.execSpillDone queue error s
  | .copyBackDone queue error => Sys2Proof.Machine.execCopyBackDone queue error s
  | .noticeWrite queue => Sys2Proof.Machine.execNoticeWrite queue s
  | .coalesceTimer queue => Sys2Proof.Machine.execCoalesceTimer queue s
  | .msixGapEnd vector => Sys2Proof.Machine.execMsixGapEnd vector s
  | .msixUnmask vector => Sys2Proof.Machine.execMsixUnmask vector s
  | .binLinkWrite stope bin error => Sys2Proof.Machine.execBinLinkWrite stope bin error s
  | .galleryRequest r => Sys2Proof.Machine.execGalleryRequest r s
  | .packetHop index corrected upset headerUe dataUe => Sys2Proof.Machine.execPacketHop index corrected upset headerUe dataUe s
  | .galleryResponse ni tag status data poison => Sys2Proof.Machine.execGalleryResponse ni tag status data poison s
  | .galleryTimeout ni tag => Sys2Proof.Machine.execGalleryTimeout ni tag s
  | .tagRelease ni tag => Sys2Proof.Machine.execTagRelease ni tag s
  | .routeWrite ni dest value => Sys2Proof.Machine.execRouteWrite ni dest value s
  | .regulatorRefill point => Sys2Proof.Machine.execRegulatorRefill point s
  | .agePromotion index => Sys2Proof.Machine.execAgePromotion index s
  | .channelTrain chan p => Sys2Proof.Machine.execChannelTrain chan p s
  | .trainingDone chan storedOk fullOk failStep ms repairs => Sys2Proof.Machine.execTrainingDone chan storedOk fullOk failStep ms repairs s
  | .area => Sys2Proof.Machine.execArea s
  | .replan => Sys2Proof.Machine.execReplan s
  | .dramRead r v => Sys2Proof.Machine.execDramRead r v s
  | .dramWrite r v => Sys2Proof.Machine.execDramWrite r v s
  | .wcTimeout chan page v => Sys2Proof.Machine.execWcTimeout chan page v s
  | .refreshDue chan rank busy => Sys2Proof.Machine.execRefreshDue chan rank busy s
  | .dramWriteback page => Sys2Proof.Machine.execDramWriteback page s
  | .fillComplete chan block => Sys2Proof.Machine.execFillComplete chan block s
  | .flipArm chan value => Sys2Proof.Machine.execFlipArm chan value s
  | .rangeEnable key => Sys2Proof.Machine.execRangeEnable key s
  | .rangeEnableDone key => Sys2Proof.Machine.execRangeEnableDone key s
  | .rangeRetire key => Sys2Proof.Machine.execRangeRetire key s
  | .rangeRetireDone key => Sys2Proof.Machine.execRangeRetireDone key s
  | .nodeFetchDone v => Sys2Proof.Machine.execNodeFetchDone v s
  | .add engine v => Sys2Proof.Machine.execAdd engine v s
  | .sub engine v => Sys2Proof.Machine.execSub engine v s
  | .and engine v => Sys2Proof.Machine.execAnd engine v s
  | .or engine v => Sys2Proof.Machine.execOr engine v s
  | .xor engine v => Sys2Proof.Machine.execXor engine v s
  | .andn engine v => Sys2Proof.Machine.execAndn engine v s
  | .cmplt engine v => Sys2Proof.Machine.execCmplt engine v s
  | .cmpltu engine v => Sys2Proof.Machine.execCmpltu engine v s
  | .shl engine v => Sys2Proof.Machine.execShl engine v s
  | .shr engine v => Sys2Proof.Machine.execShr engine v s
  | .sar engine v => Sys2Proof.Machine.execSar engine v s
  | .shli engine v => Sys2Proof.Machine.execShli engine v s
  | .shri engine v => Sys2Proof.Machine.execShri engine v s
  | .sari engine v => Sys2Proof.Machine.execSari engine v s
  | .mul engine v => Sys2Proof.Machine.execMul engine v s
  | .mulhs engine v => Sys2Proof.Machine.execMulhs engine v s
  | .mulhu engine v => Sys2Proof.Machine.execMulhu engine v s
  | .min engine v => Sys2Proof.Machine.execMin engine v s
  | .max engine v => Sys2Proof.Machine.execMax engine v s
  | .abs engine v => Sys2Proof.Machine.execAbs engine v s
  | .clz engine v => Sys2Proof.Machine.execClz engine v s
  | .jmp engine v => Sys2Proof.Machine.execJmp engine v s
  | .callr engine v => Sys2Proof.Machine.execCallr engine v s
  | .addc engine v => Sys2Proof.Machine.execAddc engine v s
  | .cmpltc engine v => Sys2Proof.Machine.execCmpltc engine v s
  | .cmpltuc engine v => Sys2Proof.Machine.execCmpltuc engine v s
  | .andc engine v => Sys2Proof.Machine.execAndc engine v s
  | .orc engine v => Sys2Proof.Machine.execOrc engine v s
  | .xorc engine v => Sys2Proof.Machine.execXorc engine v s
  | .movh engine v => Sys2Proof.Machine.execMovh engine v s
  | .ldB engine v => Sys2Proof.Machine.execLdB engine v s
  | .ldBu engine v => Sys2Proof.Machine.execLdBu engine v s
  | .ldH engine v => Sys2Proof.Machine.execLdH engine v s
  | .ldHu engine v => Sys2Proof.Machine.execLdHu engine v s
  | .ldW engine v => Sys2Proof.Machine.execLdW engine v s
  | .ldP engine v => Sys2Proof.Machine.execLdP engine v s
  | .ldrW engine v => Sys2Proof.Machine.execLdrW engine v s
  | .ldrP engine v => Sys2Proof.Machine.execLdrP engine v s
  | .stB engine v => Sys2Proof.Machine.execStB engine v s
  | .stH engine v => Sys2Proof.Machine.execStH engine v s
  | .stW engine v => Sys2Proof.Machine.execStW engine v s
  | .stP engine v => Sys2Proof.Machine.execStP engine v s
  | .stsW engine v => Sys2Proof.Machine.execStsW engine v s
  | .stsP engine v => Sys2Proof.Machine.execStsP engine v s
  | .stcW engine v => Sys2Proof.Machine.execStcW engine v s
  | .stcP engine v => Sys2Proof.Machine.execStcP engine v s
  | .ldk engine v => Sys2Proof.Machine.execLdk engine v s
  | .stk engine v => Sys2Proof.Machine.execStk engine v s
  | .brEq engine v => Sys2Proof.Machine.execBrEq engine v s
  | .brNe engine v => Sys2Proof.Machine.execBrNe engine v s
  | .brLt engine v => Sys2Proof.Machine.execBrLt engine v s
  | .brGe engine v => Sys2Proof.Machine.execBrGe engine v s
  | .brLtu engine v => Sys2Proof.Machine.execBrLtu engine v s
  | .brGeu engine v => Sys2Proof.Machine.execBrGeu engine v s
  | .go engine v => Sys2Proof.Machine.execGo engine v s
  | .call engine v => Sys2Proof.Machine.execCall engine v s
  | .rep engine v => Sys2Proof.Machine.execRep engine v s
  | .repr engine v => Sys2Proof.Machine.execRepr engine v s
  | .mac2 engine v => Sys2Proof.Machine.execMac2 engine v s
  | .msu2 engine v => Sys2Proof.Machine.execMsu2 engine v s
  | .macx engine v => Sys2Proof.Machine.execMacx engine v s
  | .mul2 engine v => Sys2Proof.Machine.execMul2 engine v s
  | .mac1 engine v => Sys2Proof.Machine.execMac1 engine v s
  | .macr engine v => Sys2Proof.Machine.execMacr engine v s
  | .mfa engine v => Sys2Proof.Machine.execMfa engine v s
  | .mta engine v => Sys2Proof.Machine.execMta engine v s
  | .aclr engine v => Sys2Proof.Machine.execAclr engine v s
  | .aadd engine v => Sys2Proof.Machine.execAadd engine v s
  | .asr engine v => Sys2Proof.Machine.execAsr engine v s
  | .mfah engine v => Sys2Proof.Machine.execMfah engine v s
  | .mtal engine v => Sys2Proof.Machine.execMtal engine v s
  | .mtam engine v => Sys2Proof.Machine.execMtam engine v s
  | .mtah engine v => Sys2Proof.Machine.execMtah engine v s
  | .qpush engine v => Sys2Proof.Machine.execQpush engine v s
  | .qpushl engine v => Sys2Proof.Machine.execQpushl engine v s
  | .qpop engine v => Sys2Proof.Machine.execQpop engine v s
  | .qpoph engine v => Sys2Proof.Machine.execQpoph engine v s
  | .stim engine ticks v => Sys2Proof.Machine.execStim engine ticks v s
  | .wait engine v => Sys2Proof.Machine.execWait engine v s
  | .ei engine v => Sys2Proof.Machine.execEi engine v s
  | .di engine v => Sys2Proof.Machine.execDi engine v s
  | .retx engine v => Sys2Proof.Machine.execRetx engine v s
  | .retm engine v => Sys2Proof.Machine.execRetm engine v s
  | .break engine v => Sys2Proof.Machine.execBreak engine v s
  | .trap engine v => Sys2Proof.Machine.execTrap engine v s
  | .rdc engine cycles v => Sys2Proof.Machine.execRdc engine cycles v s
  | .wrc engine cycles v => Sys2Proof.Machine.execWrc engine cycles v s
  | .rdk engine v => Sys2Proof.Machine.execRdk engine v s
  | .wrk engine v => Sys2Proof.Machine.execWrk engine v s
  | .interruptEntry engine => Sys2Proof.Machine.execInterruptEntry engine s
  | .debugEntry engine => Sys2Proof.Machine.execDebugEntry engine s
  | .trStart engine value => Sys2Proof.Machine.execTrStart engine value s
  | .trResume engine value => Sys2Proof.Machine.execTrResume engine value s
  | .trHalt engine value => Sys2Proof.Machine.execTrHalt engine value s
  | .loaded engine value => Sys2Proof.Machine.execLoaded engine value s
  | .haltReq engine value => Sys2Proof.Machine.execHaltReq engine value s
  | .watchdogExpiry engine => Sys2Proof.Machine.execWatchdogExpiry engine s
  | .kick engine => Sys2Proof.Machine.execKick engine s
  | .wdogWrite engine value => Sys2Proof.Machine.execWdogWrite engine value s
  | .hoistGo crew channel value => Sys2Proof.Machine.execHoistGo crew channel value s
  | .hoistAbort crew channel r => Sys2Proof.Machine.execHoistAbort crew channel r s
  | .hoistDone crew channel r => Sys2Proof.Machine.execHoistDone crew channel r s
  | .qnote engine port => Sys2Proof.Machine.execQnote engine port s
  | .noticeResend engine => Sys2Proof.Machine.execNoticeResend engine s
  | .irqPost engine value src tag posted => Sys2Proof.Machine.execIrqPost engine value src tag posted s
  | .postPop engine size src tag peek => Sys2Proof.Machine.execPostPop engine size src tag peek s
  | .cribWriteback addr => Sys2Proof.Machine.execCribWriteback addr s
  | .cribGalleryAccess a errs sameCycle => Sys2Proof.Machine.execCribGalleryAccess a errs sameCycle s
  | .fwPrimary v => Sys2Proof.Machine.execFwPrimary v s
  | .fwGolden v => Sys2Proof.Machine.execFwGolden v s
  | .base => Sys2Proof.Machine.execBase s
  | .fuse ok => Sys2Proof.Machine.execFuse ok s
  | .seamSelfTest seam ok => Sys2Proof.Machine.execSeamSelfTest seam ok s
  | .crewInit crew ok => Sys2Proof.Machine.execCrewInit crew ok s
  | .xcCalibrate good => Sys2Proof.Machine.execXcCalibrate good s
  | .shiftStart => Sys2Proof.Machine.execShiftStart s
  | .fabric => Sys2Proof.Machine.execFabric s
  | .record ok => Sys2Proof.Machine.execRecord ok s
  | .identify len tag => Sys2Proof.Machine.execIdentify len tag s
  | .readRecord len tag => Sys2Proof.Machine.execReadRecord len tag s
  | .clearRecord len tag => Sys2Proof.Machine.execClearRecord len tag s
  | .keyLoad len tag => Sys2Proof.Machine.execKeyLoad len tag s
  | .keyDraw len tag => Sys2Proof.Machine.execKeyDraw len tag s
  | .keyClear len tag => Sys2Proof.Machine.execKeyClear len tag s
  | .flashUpdate len tag header hashes programOk => Sys2Proof.Machine.execFlashUpdate len tag header hashes programOk s
  | .remapAdd len tag => Sys2Proof.Machine.execRemapAdd len tag s
  | .readLog len tag => Sys2Proof.Machine.execReadLog len tag s
  | .echo len tag => Sys2Proof.Machine.execEcho len tag s
  | .sensorSample temps rails ains => Sys2Proof.Machine.execSensorSample temps rails ains s
  | .currentMonitorRead monitor raw => Sys2Proof.Machine.execCurrentMonitorRead monitor raw s
  | .logEntry time => Sys2Proof.Machine.execLogEntry time s
  | .logFlashMirror seq => Sys2Proof.Machine.execLogFlashMirror seq s
  | .loadDeadlineWrite ms elapsed => Sys2Proof.Machine.execLoadDeadlineWrite ms elapsed s
  | .enum addr => Sys2Proof.Machine.execEnum addr s
  | .enumDone parts => Sys2Proof.Machine.execEnumDone parts s
  | .linkChange part => Sys2Proof.Machine.execLinkChange part s
  | .announce msg group size leadEn join => Sys2Proof.Machine.execAnnounce msg group size leadEn join s
  | .stateReq msg => Sys2Proof.Machine.execStateReq msg s
  | .state msg tally st valid f k div nmin crc holds => Sys2Proof.Machine.execState msg tally st valid f k div nmin crc holds s
  | .grant msg h => Sys2Proof.Machine.execGrant msg h s
  | .event msg e kind slot cause => Sys2Proof.Machine.execEvent msg e kind slot cause s
  | .eventAck msg e kind => Sys2Proof.Machine.execEventAck msg e kind s
  | .report msg value kind slot => Sys2Proof.Machine.execReport msg value kind slot s
  | .cmd msg arg op trig => Sys2Proof.Machine.execCmd msg arg op trig s
  | .cmdDone msg result => Sys2Proof.Machine.execCmdDone msg result s
  | .messageResend crcFailed => Sys2Proof.Machine.execMessageResend crcFailed s
  | .hopStateChange down v => Sys2Proof.Machine.execHopStateChange down v s
  | .headTimeout => Sys2Proof.Machine.execHeadTimeout s
  | .enumTimer => Sys2Proof.Machine.execEnumTimer s
  | .enumRequest => Sys2Proof.Machine.execEnumRequest s
  | .announceTimer => Sys2Proof.Machine.execAnnounceTimer s
  | .time m ticks residence => Sys2Proof.Machine.execTime m ticks residence s
  | .timeSend ticks => Sys2Proof.Machine.execTimeSend ticks s
  | .ptpSync offset16 ticks => Sys2Proof.Machine.execPtpSync offset16 ticks s
  | .incWrite v foreman ticks => Sys2Proof.Machine.execIncWrite v foreman ticks s
  | .timeStep v half foreman ticks => Sys2Proof.Machine.execTimeStep v half foreman ticks s
  | .timeSrcWrite src => Sys2Proof.Machine.execTimeSrcWrite src s
  | .timeRead time src tag ticks => Sys2Proof.Machine.execTimeRead time src tag ticks s
  | .masterLoss => Sys2Proof.Machine.execMasterLoss s
  | .capture input ticks => Sys2Proof.Machine.execCapture input ticks s
  | .compareWindow unit ticks => Sys2Proof.Machine.execCompareWindow unit ticks s
  | .peek q a => Sys2Proof.Machine.execPeek q a s
  | .consume q a => Sys2Proof.Machine.execConsume q a s
  | .lampWrite two bits a => Sys2Proof.Machine.execLampWrite two bits a s
  | .lampRepeat two bits => Sys2Proof.Machine.execLampRepeat two bits s
  | .lampBreak => Sys2Proof.Machine.execLampBreak s
  | .lampReset low => Sys2Proof.Machine.execLampReset low s
  | .lampClockTimeout => Sys2Proof.Machine.execLampClockTimeout s
  | .get level => Sys2Proof.Machine.execGet level s
  | .submit => Sys2Proof.Machine.execSubmit s
  | .lock => Sys2Proof.Machine.execLock s
  | .challengeExpiry => Sys2Proof.Machine.execChallengeExpiry s
  | .lockoutEnd => Sys2Proof.Machine.execLockoutEnd s
  | .traceEnable v ticks => Sys2Proof.Machine.execTraceEnable v ticks s
  | .traceSync ticks => Sys2Proof.Machine.execTraceSync ticks s
  | .traceLineTimeout => Sys2Proof.Machine.execTraceLineTimeout s
  | .vccioDetect bank => Sys2Proof.Machine.execVccioDetect bank s
  | .settlingEnd bank => Sys2Proof.Machine.execSettlingEnd bank s
  | .vccioLoss bank => Sys2Proof.Machine.execVccioLoss bank s
  | .mgEnWrite v => Sys2Proof.Machine.execMgEnWrite v s
  | .pinWrite bank pin v => Sys2Proof.Machine.execPinWrite bank pin v s
  | .registerWrite addr size data m tag ticks posted poison => Sys2Proof.Machine.execRegisterWrite addr size data m tag ticks posted poison s
  | .registerRead addr size m tag ticks peek => Sys2Proof.Machine.execRegisterRead addr size m tag ticks peek s
  | .dataLinkUp speed width flit => Sys2Proof.Machine.execDataLinkUp speed width flit s
  | .stopePowerDownDone stope => Sys2Proof.Machine.execStopePowerDownDone stope s
  | .crewPowerDownDone crew => Sys2Proof.Machine.execCrewPowerDownDone crew s
  | .mbDone => Sys2Proof.Machine.execMbDone s
  | .traceFunnel ticks => Sys2Proof.Machine.execTraceFunnel ticks s
  | .traceBufferOutput => Sys2Proof.Machine.execTraceBufferOutput s
  | .dimmThermalSensor chan hot => Sys2Proof.Machine.execDimmThermalSensor chan hot s
  | .illegalInstruction engine v => Sys2Proof.Machine.execIllegalInstruction engine v s

end Sys2Proof.Machine
end

