-- ==== Sys2Proof/Machine/Tick.lean ====
section
/-! DEFINITION. What happens while no command waits. -/

namespace Sys2Proof.Machine

/-- A block time without a command (DESIGN CHOICE, log entries 1 and 92): STEP pulses that ran have passed (04 R109), the lanes that run send
IDLE or PRBS31 (09 R237), and the DRAM controllers perform the accesses that wait (14 R373). -/
def State.idleTime (s : State) : State := if s.rootRuns then s.endPulses.lanesIdle.dramIdle else s.endPulses

end Sys2Proof.Machine
end

