-- ==== Sys2Proof/Safety.lean ====
section
/-! DEFINITION. What the claims call a sound state: every table of the state in its one canonical form, so that equal
contents are equal data. -/

namespace Sys2Proof.Machine

/-- The bytes of the data windows are in canonical form: addresses rising, no entry that reads as an unlisted byte does. -/
def Memory.wf (m : List Host.Cell) : Bool := Tab.wf natLt 0 m

/-- The bins and sumps and their check state are in canonical form. -/
def State.unitsWf (s : State) : Bool := Tab.wf Key.lt 0 s.fabMem && Tab.wf Key.lt 0 s.fabErr

/-- The configuration frames and their upset bits are in canonical form. -/
def State.framesWf (s : State) : Bool := Tab.wf Key.lt 0 s.frames && Tab.wf Key.lt 0 s.frameErr

/-- A state in canonical form: one value for each register field, memory byte, bin or sump unit, frame word and stope, and
nothing listed that reads as an unlisted entry does (for a register field, whose unlisted value is its cold value, the order
of the fields alone). -/
def State.canonical (s : State) : Bool :=
  Tab.rising Key.lt s.regs && Memory.wf s.mem && s.unitsWf && s.framesWf && Tab.wf natLt Stope.cold s.stopes

/-- Where a field of unit `u` at index `j` is kept. -/
def Fld.key (f : Fld) (u : Nat := 0) (j : Nat := 0) : Key := ⟨f.id, u, j⟩

/-- Every register field of every unit and index reads in `t` as in `s`, but those listed. -/
def State.regsKeptBut (s t : State) (ks : List Key) : Prop :=
  ∀ (f : Fld) (u j : Nat), f.key u j ∉ ks → t.rd f u j = s.rd f u j

/-- Engine `e` stands at an eligible boundary: RUNNING, with `w` its next word, free of errors; no interrupt, debug cause, HALT,
held push or single step stops it there. -/
def State.standsAt (s : State) (e w : Nat) : Bool :=
  decide (e < 64) && s.canIssue e && (s.eng e).eligible && !(s.eng e).haltDue && (s.eng e).imemOld.isEmpty && !(s.eng e).stepOver
    && (!s.on TR_DBG_CTRL.STEP e || s.on TR_STATUS.MON e) && decide (s.wordErr (imemBase e + s.rd TR_PC.PC e) = 0) && decide (s.fetchWord e = w)

/-- The state after engine `e` has issued one instruction that leaves it with `x` and goes on to the next word. -/
def State.issued (s : State) (e : Nat) (x : Engine) : State := (s.setEng e x).wr TR_PC.PC ((s.rd TR_PC.PC e + 4) % 65536) e

/-- The parts that the frame of a command names: the registers of a block, and the state behind the registers. The memories
have predicates of their own. -/
inductive Part where
  | regs (b : Block)
  /-- clocks and resets -/
  | clk
  /-- MSI-X -/
  | msix
  /-- the Winder -/
  | winder
  /-- lanes -/
  | lanes
  /-- transport -/
  | xp
  /-- samples, journals and the replay log -/
  | sampler
  /-- DRAM beside its bytes -/
  | dram
  /-- the encryption stage, keys included -/
  | crypto
  /-- scrubbers -/
  | scrubs
  /-- user pins -/
  | pins
  /-- the loader -/
  | loader
  /-- Bellwire -/
  | bell
  /-- the Cage -/
  | cage
  /-- the Gallery -/
  | gallery
  /-- engines, hoists and memory errors -/
  | tram
  /-- the Foreman -/
  | fm
  /-- the Shift clock -/
  | shift
  /-- the trace path -/
  | trace
  /-- the Lamp port -/
  | lamp
  /-- events for the log -/
  | events
  /-- what goes out -/
  | sent
  /-- the stopes -/
  | stopes
  deriving DecidableEq, Repr

/-- The part is in `t` as it is in `s`. -/
def State.partKept (s t : State) : Part → Prop
  | .regs b => ∀ (f : Fld) (u j : Nat), f.blk = b → t.rd f u j = s.rd f u j
  | .clk => t.clk = s.clk
  | .msix => t.msix = s.msix
  | .winder => t.winder = s.winder
  | .lanes => t.lanes = s.lanes
  | .xp => t.xp = s.xp
  | .sampler => t.sampler = s.sampler
  | .dram => t.dram = s.dram
  | .crypto => t.crypto = s.crypto
  | .scrubs => t.scrubs = s.scrubs
  | .pins => t.pins = s.pins
  | .loader => t.loader = s.loader
  | .bell => t.bell = s.bell
  | .cage => t.cage = s.cage
  | .gallery => t.gallery = s.gallery
  | .tram => t.tram = s.tram
  | .fm => t.fm = s.fm
  | .shift => t.shift = s.shift
  | .trace => t.trace = s.trace
  | .lamp => t.lamp = s.lamp
  | .events => t.events = s.events
  | .sent => t.sent = s.sent
  | .stopes => t.stopes = s.stopes

/-- Commands that may change a byte of the data windows: stores, device regions, restores and resets. -/
def storesBytes : Instr → Bool
  | .cold | .refclkWindowEnd .. | .refclkEdgeTimeout | .rootLost | .railLost .. | .perstAssert | .warmReq ..
  | .stopeResetEnd | .engineResetReq .. | .engineResetDone | .crewPowerUpDone .. | .corerCopyUnit ..
  | .journalStore .. | .frameWritten .. | .loadComplete | .corerDrainFrame .. | .restoreDone ..
  | .hostMemoryRequest .. | .dmaTurn .. | .dmaCompletion .. | .queueEnable .. | .queueStop .. | .queueAbort ..
  | .quPush .. | .quPushLast .. | .quPop .. | .quDoorbell .. | .doorbellFlip .. | .bankSwap .. | .spillDone ..
  | .copyBackDone .. | .binLinkWrite .. | .trainingDone .. | .dramRead .. | .dramWrite .. | .wcTimeout ..
  | .rangeEnable .. | .rangeEnableDone .. | .rangeRetire .. | .rangeRetireDone .. | .nodeFetchDone .. | .stB ..
  | .stH .. | .stW .. | .stP .. | .stsW .. | .stsP .. | .stcW .. | .stcP .. | .stk .. | .watchdogExpiry ..
  | .hoistAbort .. | .hoistDone .. | .cribGalleryAccess .. | .crewInit .. | .peek .. | .consume .. | .lampWrite ..
  | .lampReset .. | .traceLineTimeout | .registerWrite .. | .registerRead .. | .traceBufferOutput
    => true
  | _ => false

/-- Commands that may change the contents of a bin or sump, or their check state. -/
def changesUnits : Instr → Bool
  | .cold | .refclkWindowEnd .. | .refclkEdgeTimeout | .rootLost | .railLost .. | .perstAssert | .warmReq ..
  | .stopePowerDown .. | .activePhase | .treeStep .. | .eccWriteback .. | .binQueueMove .. | .streamHeader ..
  | .meminit .. | .restoreDone .. | .stopeBackfillDone .. | .hostMemoryRequest .. | .peek .. | .consume ..
  | .lampWrite .. | .lampReset .. | .registerWrite ..
    => true
  | _ => false

/-- Commands that may change configuration frames or their upset bits. -/
def changesFrames : Instr → Bool
  | .cold | .refclkWindowEnd .. | .refclkEdgeTimeout | .rootLost | .railLost .. | .perstAssert | .warmReq ..
  | .stopePowerDown .. | .refillDone .. | .refillShadowError .. | .streamHeader .. | .frameWritten .. | .abortDone
  | .scrubFrameRead .. | .shadowRepairRead .. | .scrubInject .. | .engLimitExpiry | .restoreDone ..
  | .hostMemoryRequest .. | .peek .. | .consume .. | .lampWrite .. | .lampReset .. | .registerWrite ..
    => true
  | _ => false

/-- Commands that may change the flash: its record, log and repair rows. -/
def changesFlash : Instr → Bool
  | .restoreDone .. | .hostMemoryRequest .. | .trainingDone .. | .dramRead .. | .dramWrite .. | .wcTimeout ..
  | .rangeEnable .. | .rangeEnableDone .. | .rangeRetire .. | .rangeRetireDone .. | .nodeFetchDone .. | .record ..
  | .identify .. | .readRecord .. | .clearRecord .. | .keyLoad .. | .keyDraw .. | .keyClear .. | .flashUpdate ..
  | .remapAdd .. | .readLog .. | .echo .. | .logFlashMirror .. | .peek .. | .consume .. | .lampWrite ..
  | .registerWrite ..
    => true
  | _ => false

/-- Commands that may change the installed keys: the key slots and the owner key. -/
def changesKeys : Instr → Bool
  | .cold | .restoreDone .. | .hostMemoryRequest .. | .trainingDone .. | .dramRead .. | .dramWrite ..
  | .wcTimeout .. | .rangeEnable .. | .rangeEnableDone .. | .rangeRetire .. | .rangeRetireDone ..
  | .nodeFetchDone .. | .identify .. | .readRecord .. | .clearRecord .. | .keyLoad .. | .keyDraw .. | .keyClear ..
  | .flashUpdate .. | .remapAdd .. | .readLog .. | .echo .. | .peek .. | .consume .. | .lampWrite ..
  | .registerWrite ..
    => true
  | _ => false

/-- The registers of every block. -/
def Part.blocks : List Part := Block.all.map .regs

/-- The parts that a command may change: the register blocks it may write, and the state behind them. -/
def reach : Instr → List Part
  | .cold | .refclkWindowEnd .. | .refclkEdgeTimeout | .rootLost | .railLost .. | .perstAssert | .warmReq ..
  | .hostMemoryRequest .. | .peek .. | .consume .. | .lampWrite .. | .lampReset .. | .registerWrite .. =>
    Part.blocks ++ [.clk, .msix, .winder, .lanes, .xp, .sampler, .dram, .crypto, .scrubs, .pins, .loader, .bell,
    .cage, .gallery, .tram, .fm, .shift, .trace, .lamp, .events, .sent, .stopes]
  | .vccAonLoss | .perstRelease =>
    [.clk]
  | .rootLock | .lockTimeout | .clockSwitchDone =>
    [.regs .fm, .regs .ck, .clk, .fm, .events]
  | .aligned | .switchHang | .railGood | .retry .. | .phaseDivWrite .. | .phaseDivApply | .clockGate ..
  | .stopePowerUp .. | .stopePowerUpDone .. | .crewPowerUp .. | .stopePowerDownDone .. | .crewPowerDownDone .. =>
    [.regs .ck, .clk]
  | .foremanResetRelease | .warmHoldEnd =>
    [.clk, .fm]
  | .stopeResetReq .. | .stopePowerDown .. =>
    [.regs .st, .regs .cf, .regs .cfs, .regs .sb, .regs .wd, .regs .cr, .regs .ck, .clk, .msix, .winder, .sampler,
    .scrubs, .pins, .loader, .events, .sent, .stopes]
  | .stopeResetLineHigh =>
    [.regs .st, .clk, .sampler, .stopes]
  | .stopeResetEnd =>
    [.regs .qu, .regs .st, .regs .sb, .regs .wd, .regs .cr, .regs .dc, .regs .en, .regs .ck, .clk, .sampler, .dram,
    .crypto, .scrubs, .cage, .sent, .stopes]
  | .engineResetReq .. | .engineResetDone | .watchdogExpiry .. =>
    [.regs .tr, .regs .qu, .regs .st, .regs .sb, .regs .wd, .regs .cr, .regs .dc, .regs .en, .regs .ck, .clk,
    .sampler, .dram, .crypto, .scrubs, .cage, .gallery, .tram, .sent, .stopes]
  | .crewPowerDown .. =>
    [.regs .trc, .regs .fm, .regs .ck, .clk, .msix, .tram, .sent]
  | .crewPowerUpDone .. =>
    [.regs .tr, .regs .fm, .regs .ck, .clk, .msix, .tram, .sent]
  | .strokeStart =>
    [.regs .st, .regs .xcp, .regs .ck, .clk, .winder, .xp, .pins, .stopes]
  | .activePhase | .treeStep .. =>
    [.regs .st, .regs .sb, .regs .wd, .regs .cr, .clk, .msix, .winder, .sampler, .pins, .cage, .events, .sent,
    .stopes]
  | .slotEnd =>
    [.winder, .pins, .events, .sent, .stopes]
  | .holdPhase =>
    [.regs .st, .regs .sb, .regs .wd, .regs .cr, .clk, .msix, .winder, .sampler, .events, .sent]
  | .strokeBoundary =>
    [.regs .st, .regs .sb, .regs .wd, .regs .cr, .regs .xcp, .regs .ck, .clk, .msix, .winder, .lanes, .xp, .sampler,
    .scrubs, .pins, .events, .sent, .stopes]
  | .columnRepair .. | .refillDone .. =>
    [.regs .st, .regs .cfs, .regs .sb, .scrubs, .events, .stopes]
  | .refillShadowError .. =>
    [.regs .st, .regs .cf, .regs .cfs, .regs .sb, .scrubs, .events, .stopes]
  | .treeSrcWrite .. =>
    [.regs .st, .regs .ck, .clk, .stopes]
  | .treeSwitchDone .. | .treeSwitchHang .. | .levelIrqResponse .. =>
    [.regs .st, .stopes]
  | .eccWriteback .. | .stopePortResponse .. =>
    [.stopes]
  | .sweepStep .. =>
    [.regs .st, .regs .sb, .regs .wd, .regs .cr, .msix, .winder, .sampler, .events, .sent, .stopes]
  | .copyStarved .. =>
    [.winder]
  | .memInjectArm .. | .isolate .. | .release .. =>
    [.regs .st]
  | .binQueueMove .. =>
    [.regs .st, .regs .sb, .regs .wd, .regs .cr, .msix, .winder, .sampler, .cage, .events, .sent, .stopes]
  | .corerCopyUnit .. =>
    [.regs .st, .regs .sb, .regs .wd, .regs .cr, .regs .dc, .regs .en, .msix, .winder, .sampler, .dram, .crypto,
    .scrubs, .events, .sent, .stopes]
  | .journalStore .. | .corerDrainFrame .. =>
    [.regs .st, .regs .sb, .regs .wd, .regs .cr, .regs .dc, .regs .en, .sampler, .dram, .crypto, .scrubs, .stopes]
  | .start .. | .extentPush .. =>
    [.regs .cf, .loader]
  | .abort | .segmentHeader .. | .segmentTagCheck .. | .nop .. | .write .. | .meminit .. | .ibeusEnd .. | .shadowWriteAck .. =>
    [.regs .cf, .regs .cfs, .loader]
  | .extentReadData .. =>
    [.regs .cf, .regs .cfs, .loader, .sent]
  | .streamHeader .. =>
    [.regs .st, .regs .cf, .regs .cfs, .regs .sb, .regs .wd, .regs .cr, .msix, .winder, .sampler, .scrubs, .pins,
    .loader, .events, .sent, .stopes]
  | .frameWritten .. =>
    [.regs .st, .regs .cf, .regs .cfs, .regs .sb, .regs .wd, .regs .cr, .regs .dc, .regs .en, .sampler, .dram,
    .crypto, .scrubs, .loader, .stopes]
  | .loadComplete =>
    [.regs .qu, .regs .st, .regs .cf, .regs .sb, .regs .wd, .regs .cr, .regs .xcp, .regs .dc, .regs .en, .regs .fm,
    .winder, .lanes, .xp, .sampler, .dram, .crypto, .scrubs, .loader, .cage, .fm, .events, .sent, .stopes]
  | .abortDone =>
    [.regs .cf, .regs .cfs, .regs .sb, .regs .fm, .scrubs, .loader, .fm, .events, .stopes]
  | .loadDeadline | .loadDeadlineWrite .. =>
    [.regs .cf, .regs .cfs, .regs .fm, .loader]
  | .diagSectionCheck .. =>
    [.regs .cf, .regs .fm, .loader, .fm, .events]
  | .readback .. | .readbackDone .. =>
    [.regs .cfs, .loader]
  | .isoEffect .. =>
    [.regs .st, .regs .sb, .scrubs, .pins, .events, .sent, .stopes]
  | .stopePortTargetAccess .. =>
    [.events, .sent, .stopes]
  | .scrubFrameRead .. | .shadowRepairRead .. | .engineAck .. =>
    [.regs .st, .regs .sb, .regs .wd, .regs .cr, .msix, .winder, .sampler, .scrubs, .events, .sent, .stopes]
  | .spoilClear .. =>
    [.regs .st, .regs .sb]
  | .sbCtrlRefresh .. =>
    [.regs .sb, .scrubs, .sent]
  | .refreshLost .. | .scrubEnable .. =>
    [.regs .sb, .scrubs]
  | .peerFaultRestart .. =>
    [.regs .sb, .scrubs, .events]
  | .scrubInject .. =>
    [.regs .sb, .stopes]
  | .run .. | .stopAt .. | .step .. | .sample .. | .backfill .. | .rewind .. | .replay .. | .state .. | .event ..
  | .report .. | .cmd .. | .cmdDone .. =>
    [.regs .st, .regs .sb, .regs .wd, .regs .cr, .msix, .winder, .sampler, .events, .sent]
  | .groupStall =>
    [.regs .wd, .msix, .sent]
  | .sampleCopyOut =>
    [.regs .tr, .regs .st, .regs .sb, .regs .wd, .regs .cr, .msix, .winder, .sampler, .scrubs, .events, .sent,
    .stopes]
  | .sampleComplete =>
    [.regs .wd, .regs .cr, .sampler]
  | .engLimitExpiry =>
    [.regs .st, .regs .cf, .regs .sb, .regs .wd, .regs .cr, .msix, .winder, .sampler, .scrubs, .pins, .events, .sent,
    .stopes]
  | .restoreDone .. =>
    [.regs .tr, .regs .qu, .regs .st, .regs .cf, .regs .sb, .regs .wd, .regs .cr, .regs .xcp, .regs .dc, .regs .en,
    .regs .lp, .msix, .winder, .lanes, .xp, .sampler, .dram, .crypto, .scrubs, .pins, .cage, .events, .sent, .stopes]
  | .stopeBackfillDone .. =>
    [.regs .wd, .regs .cr, .msix, .winder, .sampler, .sent, .stopes]
  | .xcPortCtrlWrite .. =>
    [.regs .xc, .regs .xcp, .regs .ck, .clk, .msix, .lanes, .xp, .sent]
  | .lanePllLock .. | .los .. | .cdrLock .. | .cdrLockLost .. | .fecCodeword .. | .rxSleep .. | .sleepBlock ..
  | .testWrite .. =>
    [.regs .xc, .regs .xcp, .msix, .lanes, .xp, .sent]
  | .alignmentBlock .. =>
    Part.blocks ++ [.msix, .lanes, .xp, .sent]
  | .slip .. | .txSleep .. | .txWakeDone .. =>
    [.regs .xcp, .lanes]
  | .txSleepEntered .. | .failover .. =>
    [.regs .xcp, .lanes, .sent]
  | .txeqWrite .. | .eyeScanGo .. | .eyeScanDone .. | .streamMapWrite .. | .altWrite .. =>
    [.regs .xcp]
  | .gate .. =>
    [.regs .wd, .regs .xcp, .lanes, .xp, .sent]
  | .strokeFrame .. =>
    [.regs .xcp, .lanes, .xp, .events, .sent]
  | .ack .. | .nak .. | .ackTimer .. | .resendTimeout .. | .sync .. =>
    [.regs .xcp, .lanes, .xp, .sent]
  | .syncTimer .. =>
    [.lanes, .sent]
  | .configRequest .. =>
    [.regs .cg, .msix, .cage, .sent]
  | .baseTimeout =>
    [.regs .cg]
  | .linkDown =>
    [.regs .cg, .regs .qu, .msix, .cage]
  | .dmaTurn .. =>
    [.regs .cg, .regs .qu, .regs .st, .regs .sb, .regs .wd, .regs .cr, .regs .dc, .regs .en, .msix, .sampler, .dram,
    .crypto, .scrubs, .cage, .sent, .stopes]
  | .dmaCompletion .. =>
    [.regs .cg, .regs .qu, .msix, .cage, .sent]
  | .queueEnable .. | .queueStop .. | .queueAbort .. | .bankSwap .. | .spillDone .. | .copyBackDone ..
  | .binLinkWrite .. =>
    [.regs .qu, .regs .st, .regs .sb, .regs .wd, .regs .cr, .regs .dc, .regs .en, .sampler, .dram, .crypto, .scrubs,
    .cage, .sent, .stopes]
  | .quPush .. | .quPushLast .. =>
    [.regs .tr, .regs .qu, .regs .st, .regs .sb, .regs .wd, .regs .cr, .regs .dc, .regs .en, .sampler, .dram, .crypto,
    .scrubs, .cage, .tram, .events, .sent, .stopes]
  | .quPop .. =>
    [.regs .qu, .regs .st, .regs .sb, .regs .wd, .regs .cr, .sampler, .scrubs, .cage, .sent, .stopes]
  | .quDoorbell .. | .doorbellFlip .. =>
    [.regs .qu, .cage, .sent]
  | .noticeWrite .. | .coalesceTimer .. =>
    [.regs .qu, .msix, .cage, .sent]
  | .msixGapEnd .. | .msixUnmask .. =>
    [.msix, .sent]
  | .galleryRequest .. | .galleryResponse .. | .tagRelease .. | .regulatorRefill .. =>
    [.regs .tr, .regs .gl, .regs .ck, .clk, .gallery, .tram, .sent, .stopes]
  | .packetHop .. =>
    [.regs .tr, .regs .gl, .gallery, .tram, .events, .sent]
  | .galleryTimeout .. =>
    [.regs .tr, .regs .gl, .regs .ck, .clk, .gallery, .tram, .sent]
  | .routeWrite .. =>
    [.regs .gl]
  | .agePromotion .. =>
    [.gallery]
  | .channelTrain .. =>
    [.regs .dc, .regs .pc, .regs .en, .regs .fm, .dram, .crypto, .fm, .events]
  | .trainingDone .. =>
    [.regs .st, .regs .sb, .regs .wd, .regs .cr, .regs .dc, .regs .pc, .regs .en, .regs .fm, .regs .lp, .msix,
    .sampler, .dram, .crypto, .scrubs, .pins, .fm, .events, .sent, .stopes]
  | .area =>
    [.regs .cg, .regs .cf, .regs .wd, .regs .pc, .regs .fm, .regs .lp, .fm, .events]
  | .replan =>
    [.regs .cg, .regs .cf, .regs .wd, .regs .pc, .regs .lp, .events]
  | .dramRead .. | .dramWrite .. | .wcTimeout .. | .rangeEnable .. | .rangeEnableDone .. | .rangeRetire ..
  | .rangeRetireDone .. | .nodeFetchDone .. =>
    [.regs .st, .regs .sb, .regs .wd, .regs .cr, .regs .dc, .regs .en, .regs .lp, .sampler, .dram, .crypto, .scrubs,
    .pins, .events, .sent, .stopes]
  | .refreshDue .. | .fillComplete .. =>
    [.regs .dc, .dram]
  | .dramWriteback .. =>
    [.dram]
  | .flipArm .. | .dimmThermalSensor .. =>
    [.regs .dc]
  | .add .. | .sub .. | .and .. | .or .. | .xor .. | .andn .. | .cmplt .. | .cmpltu .. | .shl .. | .shr .. | .sar ..
  | .shli .. | .shri .. | .sari .. | .mul .. | .mulhs .. | .mulhu .. | .min .. | .max .. | .abs .. | .clz .. | .jmp ..
  | .callr .. | .addc .. | .cmpltc .. | .cmpltuc .. | .andc .. | .orc .. | .xorc .. | .movh .. | .stcW .. | .stcP ..
  | .brEq .. | .brNe .. | .brLt .. | .brGe .. | .brLtu .. | .brGeu .. | .go .. | .call .. | .rep .. | .repr ..
  | .mac2 .. | .msu2 .. | .macx .. | .mul2 .. | .mac1 .. | .macr .. | .mfa .. | .mta .. | .aclr .. | .aadd ..
  | .asr .. | .mfah .. | .mtal .. | .mtam .. | .mtah .. | .wait .. | .ei .. | .di .. | .retx .. | .retm .. | .break ..
  | .trap .. | .rdc .. | .wrc .. | .rdk .. | .wrk .. | .illegalInstruction .. =>
    [.regs .trc, .regs .tr, .regs .ck, .clk, .tram]
  | .ldB .. | .ldBu .. | .ldH .. | .ldHu .. | .ldW .. | .ldP .. | .ldrW .. | .ldrP .. | .stB .. | .stH .. | .stW ..
  | .stP .. | .stsW .. | .stsP .. | .ldk .. | .stk .. | .qpush .. | .qpushl .. | .qpop .. | .qpoph .. =>
    [.regs .trc, .regs .tr, .regs .gl, .regs .ck, .clk, .gallery, .tram, .sent, .stopes]
  | .stim .. =>
    [.regs .trc, .regs .tr, .regs .sc, .regs .lp, .regs .ck, .clk, .tram, .trace]
  | .interruptEntry .. | .trStart .. | .trResume .. | .trHalt .. | .loaded .. | .haltReq .. | .kick .. | .wdogWrite ..
  | .qnote .. =>
    [.regs .tr, .regs .ck, .clk, .tram]
  | .debugEntry .. =>
    [.regs .tr, .tram]
  | .hoistGo .. =>
    [.regs .trc, .tram]
  | .hoistAbort .. | .hoistDone .. =>
    [.regs .trc, .regs .tr, .tram, .sent]
  | .noticeResend .. =>
    [.tram, .sent]
  | .irqPost .. =>
    [.regs .tr, .regs .ck, .clk, .tram, .events, .sent]
  | .postPop .. =>
    [.regs .tr, .tram, .events, .sent]
  | .cribWriteback .. =>
    [.tram]
  | .cribGalleryAccess .. =>
    [.regs .trc, .regs .tr, .regs .ck, .clk, .tram, .events, .sent]
  | .fwPrimary .. | .fwGolden .. =>
    [.regs .wd, .regs .fm, .regs .bw, .msix, .winder, .bell, .fm, .events, .sent]
  | .base =>
    [.regs .cg, .regs .fm, .fm, .events]
  | .fuse .. | .seamSelfTest .. | .xcCalibrate .. | .shiftStart | .currentMonitorRead .. | .logEntry .. =>
    [.regs .fm, .msix, .fm, .events, .sent]
  | .crewInit .. =>
    [.regs .fm, .regs .ck, .msix, .tram, .fm, .events, .sent]
  | .fabric =>
    [.regs .fm, .fm]
  | .record .. =>
    [.regs .fm, .fm, .events]
  | .identify .. | .readRecord .. | .clearRecord .. | .keyLoad .. | .keyDraw .. | .keyClear .. | .flashUpdate ..
  | .remapAdd .. | .readLog .. | .echo .. =>
    [.regs .en, .regs .fm, .msix, .dram, .crypto, .fm, .sent]
  | .sensorSample .. =>
    [.regs .fm, .regs .iob, .msix, .fm, .events, .sent]
  | .logFlashMirror .. =>
    [.regs .fm]
  | .enum .. | .headTimeout | .enumTimer | .enumRequest =>
    [.regs .wd, .regs .bw, .msix, .winder, .bell, .events, .sent]
  | .enumDone .. =>
    [.regs .bw, .events, .sent]
  | .linkChange .. =>
    [.bell, .sent]
  | .announce .. =>
    [.regs .wd, .msix, .winder, .sent]
  | .stateReq .. | .grant .. =>
    [.regs .wd, .sent]
  | .eventAck .. =>
    [.regs .wd, .regs .cr, .msix, .winder, .sampler, .events, .sent]
  | .messageResend .. =>
    [.regs .bw]
  | .hopStateChange .. =>
    [.regs .bw, .regs .sc, .msix, .bell, .shift, .events, .sent]
  | .announceTimer =>
    [.sent]
  | .time .. | .ptpSync .. =>
    [.regs .sc, .msix, .shift, .trace, .events, .sent]
  | .timeSend .. =>
    [.regs .sc, .shift, .sent]
  | .incWrite .. | .timeSrcWrite .. =>
    [.regs .sc, .shift]
  | .timeStep .. =>
    [.regs .sc, .shift, .trace, .events]
  | .timeRead .. =>
    [.regs .sc, .shift, .events, .sent]
  | .masterLoss =>
    [.regs .sc, .msix, .shift, .events, .sent]
  | .capture .. =>
    [.regs .sc, .msix, .sent]
  | .compareWindow .. =>
    [.regs .sc, .msix, .shift, .sent]
  | .lampRepeat .. =>
    [.regs .lp, .sent]
  | .lampBreak | .lampClockTimeout =>
    []
  | .get .. =>
    [.regs .lp, .lamp]
  | .submit | .lock | .challengeExpiry | .lockoutEnd =>
    [.regs .lp]
  | .traceEnable .. | .traceSync .. | .traceFunnel .. =>
    [.regs .sc, .regs .lp, .trace]
  | .traceLineTimeout =>
    [.regs .st, .regs .sb, .regs .wd, .regs .cr, .regs .dc, .regs .en, .regs .lp, .sampler, .dram, .crypto, .scrubs,
    .trace, .stopes]
  | .vccioDetect .. =>
    [.regs .iob, .regs .ck]
  | .settlingEnd .. =>
    [.regs .iob, .pins]
  | .vccioLoss .. =>
    [.regs .iob, .regs .ck, .pins]
  | .mgEnWrite .. =>
    [.regs .io, .regs .iom]
  | .pinWrite .. =>
    [.regs .io, .regs .iob, .regs .iom, .pins]
  | .registerRead .. =>
    Part.blocks ++ [.sampler, .scrubs, .cage, .tram, .shift, .events, .sent, .stopes]
  | .dataLinkUp .. =>
    [.regs .cg, .msix, .events, .sent]
  | .mbDone =>
    [.regs .fm, .msix, .fm, .sent]
  | .traceBufferOutput =>
    [.regs .tr, .regs .st, .regs .sb, .regs .wd, .regs .cr, .regs .dc, .regs .en, .regs .lp, .sampler, .dram, .crypto,
    .scrubs, .trace, .sent, .stopes]

end Sys2Proof.Machine
end

