-- ==== Sys2Proof/WellFormed.lean ====
section
/-! DEFINITION. Which commands the part has: the units an operand may name, from 00 R1 (stopes, engines, crews, queues, ports,
lanes, channels, banks), 01 R30 to R34 (addresses) and the registers' ranges. Everything else about an operand is for
the meaning to judge. -/

namespace Sys2Proof

/-- The address lies in the stope-port range of a stope (01 R34). -/
def inPortRange (a : Nat) : Bool :=
  decide (0x010010000000 ≤ a) && decide ((a - 0x010010000000) / 0x100000 < 640)
    && decide (0x10000 ≤ (a - 0x010010000000) % 0x100000)

/-- The address lies in a crib or in an engine's instruction or data memory (01 R30, R33). -/
def inTramMemory (a : Nat) : Bool :=
  decide (0x010004000000 ≤ a) && decide (a < 0x010006000000)
    && (decide (a < 0x010005000000) || decide (a % 0x40000 < 0x20000))

/-- The offset is that of a stream or map entry of a Crosscut port (10 R284). -/
def isStreamOffset (off : Nat) : Bool :=
  decide (off % 8 = 0) && ((decide (0x200 ≤ off) && decide (off < 0x300)) || (decide (0x400 ≤ off) && decide (off < 0x500))
    || (decide (0x20000 ≤ off) && decide (off < 0x60000)))

/-- The command names only units that the part has. -/
def wellFormed (i : Instr) : Bool :=
  match i with
  | .cold => true
  | .vccAonLoss => true
  | .refclkWindowEnd _ => true
  | .refclkEdgeTimeout => true
  | .rootLock => true
  | .lockTimeout => true
  | .aligned => true
  | .clockSwitchDone => true
  | .switchHang => true
  | .foremanResetRelease => true
  | .rootLost => true
  | .railLost rail => decide (rail < 6)
  | .railGood => true
  | .retry _ => true
  | .phaseDivWrite _ => true
  | .phaseDivApply => true
  | .clockGate cls _ => decide (cls < 8)
  | .perstAssert => true
  | .warmReq _ _ => true
  | .warmHoldEnd => true
  | .stopeResetReq _ => true
  | .stopeResetLineHigh => true
  | .stopeResetEnd => true
  | .engineResetReq engine => decide (engine < 64)
  | .engineResetDone => true
  | .stopePowerDown stope => decide (stope < 640)
  | .stopePowerUp stope => decide (stope < 640)
  | .stopePowerUpDone stope => decide (stope < 640)
  | .crewPowerDown crew => decide (crew < 8)
  | .crewPowerUp crew => decide (crew < 8)
  | .crewPowerUpDone crew => decide (crew < 8)
  | .strokeStart => true
  | .activePhase => true
  | .slotEnd => true
  | .holdPhase => true
  | .strokeBoundary => true
  | .columnRepair stope _ => decide (stope < 640)
  | .refillDone stope => decide (stope < 640)
  | .refillShadowError stope => decide (stope < 640)
  | .treeSrcWrite stope _ => decide (stope < 640)
  | .treeSwitchDone stope => decide (stope < 640)
  | .treeSwitchHang stope => decide (stope < 640)
  | .treeStep stope _ => decide (stope < 640)
  | .eccWriteback stope mem _ => decide (stope < 640 ∧ mem < 18)
  | .sweepStep stope => decide (stope < 640)
  | .copyStarved stope mem => decide (stope < 640 ∧ mem < 18)
  | .memInjectArm stope _ _ => decide (stope < 640)
  | .binQueueMove stope bin => decide (stope < 640 ∧ bin < 16)
  | .levelIrqResponse stope bin _ => decide (stope < 640 ∧ bin < 16)
  | .corerCopyUnit stope mem _ => decide (stope < 640 ∧ mem < 18)
  | .journalStore stope mem _ => decide (stope < 640 ∧ mem < 18)
  | .start _ => true
  | .abort => true
  | .extentPush _ _ _ _ => true
  | .extentReadData _ _ => true
  | .streamHeader _ => true
  | .segmentHeader _ => true
  | .segmentTagCheck _ => true
  | .nop _ => true
  | .write _ _ => true
  | .meminit _ _ => true
  | .ibeusEnd _ => true
  | .frameWritten seam => decide (seam < 4)
  | .shadowWriteAck _ => true
  | .loadComplete => true
  | .abortDone => true
  | .loadDeadline => true
  | .diagSectionCheck _ _ _ => true
  | .readback seam _ => decide (seam < 4)
  | .readbackDone seam => decide (seam < 4)
  | .isolate stope _ => decide (stope < 640)
  | .release stope _ => decide (stope < 640)
  | .isoEffect stope => decide (stope < 640)
  | .stopePortResponse stope _ _ _ _ => decide (stope < 640)
  | .stopePortTargetAccess a => decide (inPortRange a.addr)
  | .scrubFrameRead scrubber _ _ _ => decide (scrubber < 8)
  | .shadowRepairRead scrubber _ _ => decide (scrubber < 8)
  | .spoilClear stope => decide (stope < 640)
  | .sbCtrlRefresh scrubber _ => decide (scrubber < 8)
  | .refreshLost lost => decide (lost.scrubber < 8)
  | .peerFaultRestart scrubber => decide (scrubber < 8)
  | .scrubEnable scrubber _ => decide (scrubber < 8)
  | .scrubInject scrubber _ => decide (scrubber < 8)
  | .run _ _ _ => true
  | .stopAt _ _ _ => true
  | .step _ _ _ => true
  | .sample _ _ _ => true
  | .backfill _ _ _ => true
  | .rewind _ _ _ => true
  | .replay _ _ _ => true
  | .groupStall => true
  | .sampleCopyOut => true
  | .corerDrainFrame seam _ _ => decide (seam < 4)
  | .sampleComplete => true
  | .engLimitExpiry => true
  | .engineAck _ => true
  | .restoreDone _ => true
  | .stopeBackfillDone seam => decide (seam < 4)
  | .xcPortCtrlWrite port _ => decide (port < 16)
  | .lanePllLock port => decide (port < 16)
  | .los port lane => decide (port < 16 ∧ lane < 8)
  | .cdrLock port lane => decide (port < 16 ∧ lane < 8)
  | .cdrLockLost port lane => decide (port < 16 ∧ lane < 8)
  | .fecCodeword port lane _ _ _ => decide (port < 16 ∧ lane < 8)
  | .alignmentBlock port lane _ => decide (port < 16 ∧ lane < 8)
  | .slip port lane _ => decide (port < 16 ∧ lane < 8)
  | .txSleep port lane _ => decide (port < 16 ∧ lane < 8)
  | .txSleepEntered port lane => decide (port < 16 ∧ lane < 8)
  | .txWakeDone port lane => decide (port < 16 ∧ lane < 8)
  | .rxSleep port lane _ => decide (port < 16 ∧ lane < 8)
  | .sleepBlock at_ _ => decide (at_.port < 16 ∧ at_.lane < 8)
  | .testWrite port lane _ => decide (port < 16 ∧ lane < 8)
  | .txeqWrite port lane _ => decide (port < 16 ∧ lane < 8)
  | .eyeScanGo port lane _ _ _ _ => decide (port < 16 ∧ lane < 8)
  | .eyeScanDone port lane _ => decide (port < 16 ∧ lane < 8)
  | .gate port half _ => decide (port < 16 ∧ half < 2)
  | .streamMapWrite port off _ => decide (port < 16 ∧ isStreamOffset off)
  | .altWrite port half _ => decide (port < 16 ∧ half < 2)
  | .strokeFrame port half _ _ => decide (port < 16 ∧ half < 2)
  | .ack at_ _ => decide (at_.port < 16 ∧ at_.lane < 8)
  | .nak at_ _ => decide (at_.port < 16 ∧ at_.lane < 8)
  | .ackTimer sub => decide (sub < 32)
  | .resendTimeout timer => decide (timer.sub < 32)
  | .sync port lane _ _ _ _ _ => decide (port < 16 ∧ lane < 8)
  | .syncTimer sub => decide (sub < 32)
  | .failover port half => decide (port < 16 ∧ half < 2)
  | .perstRelease => true
  | .configRequest _ => true
  | .baseTimeout => true
  | .hostMemoryRequest _ _ _ _ _ _ _ => true
  | .linkDown => true
  | .dmaTurn _ _ => true
  | .dmaCompletion queue _ _ _ => decide (queue ≤ 4096)
  | .queueEnable queue _ => decide (queue < 4096)
  | .queueStop queue _ => decide (queue < 4096)
  | .queueAbort queue _ => decide (queue < 4096)
  | .quPush queue _ _ _ _ _ _ => decide (queue < 4096)
  | .quPushLast queue _ _ _ _ _ _ => decide (queue < 4096)
  | .quPop queue _ _ _ _ => decide (queue < 4096)
  | .quDoorbell queue _ => decide (queue < 4096)
  | .doorbellFlip queue _ => decide (queue < 4096)
  | .bankSwap queue => decide (queue < 4096)
  | .spillDone queue _ => decide (queue < 4096)
  | .copyBackDone queue _ => decide (queue < 4096)
  | .noticeWrite queue => decide (queue < 4096)
  | .coalesceTimer queue => decide (queue < 4096)
  | .msixGapEnd vector => decide (vector < 2048)
  | .msixUnmask vector => decide (vector < 2048)
  | .binLinkWrite stope bin _ => decide (stope < 640 ∧ bin < 16)
  | .galleryRequest r => decide (r.ni < 662 ∧ r.op < 3)
  | .packetHop _ _ _ _ _ => true
  | .galleryResponse ni _ _ _ _ => decide (ni < 662)
  | .galleryTimeout ni _ => decide (ni < 662)
  | .tagRelease ni _ => decide (ni < 662)
  | .routeWrite ni dest _ => decide (ni < 662 ∧ dest < 662)
  | .regulatorRefill point => decide (point < 640 ∨ (1024 ≤ point ∧ point < 1088))
  | .agePromotion _ => true
  | .channelTrain chan _ => decide (chan < 8)
  | .trainingDone chan _ _ _ _ _ => decide (chan < 8)
  | .area => true
  | .replan => true
  | .dramRead r _ => decide (r.addr < 2 ^ 40)
  | .dramWrite r _ => decide (r.addr < 2 ^ 40 ∧ 0 < r.data.length)
  | .wcTimeout chan _ _ => decide (chan < 8)
  | .refreshDue chan rank _ => decide (chan < 8 ∧ rank < 4)
  | .dramWriteback _ => true
  | .fillComplete chan _ => decide (chan < 8)
  | .flipArm chan _ => decide (chan < 8)
  | .rangeEnable key => decide (key < 16)
  | .rangeEnableDone key => decide (key < 16)
  | .rangeRetire key => decide (key < 16)
  | .rangeRetireDone key => decide (key < 16)
  | .nodeFetchDone _ => true
  | .add engine _ => decide (engine < 64)
  | .sub engine _ => decide (engine < 64)
  | .and engine _ => decide (engine < 64)
  | .or engine _ => decide (engine < 64)
  | .xor engine _ => decide (engine < 64)
  | .andn engine _ => decide (engine < 64)
  | .cmplt engine _ => decide (engine < 64)
  | .cmpltu engine _ => decide (engine < 64)
  | .shl engine _ => decide (engine < 64)
  | .shr engine _ => decide (engine < 64)
  | .sar engine _ => decide (engine < 64)
  | .shli engine _ => decide (engine < 64)
  | .shri engine _ => decide (engine < 64)
  | .sari engine _ => decide (engine < 64)
  | .mul engine _ => decide (engine < 64)
  | .mulhs engine _ => decide (engine < 64)
  | .mulhu engine _ => decide (engine < 64)
  | .min engine _ => decide (engine < 64)
  | .max engine _ => decide (engine < 64)
  | .abs engine _ => decide (engine < 64)
  | .clz engine _ => decide (engine < 64)
  | .jmp engine _ => decide (engine < 64)
  | .callr engine _ => decide (engine < 64)
  | .addc engine _ => decide (engine < 64)
  | .cmpltc engine _ => decide (engine < 64)
  | .cmpltuc engine _ => decide (engine < 64)
  | .andc engine _ => decide (engine < 64)
  | .orc engine _ => decide (engine < 64)
  | .xorc engine _ => decide (engine < 64)
  | .movh engine _ => decide (engine < 64)
  | .ldB engine _ => decide (engine < 64)
  | .ldBu engine _ => decide (engine < 64)
  | .ldH engine _ => decide (engine < 64)
  | .ldHu engine _ => decide (engine < 64)
  | .ldW engine _ => decide (engine < 64)
  | .ldP engine _ => decide (engine < 64)
  | .ldrW engine _ => decide (engine < 64)
  | .ldrP engine _ => decide (engine < 64)
  | .stB engine _ => decide (engine < 64)
  | .stH engine _ => decide (engine < 64)
  | .stW engine _ => decide (engine < 64)
  | .stP engine _ => decide (engine < 64)
  | .stsW engine _ => decide (engine < 64)
  | .stsP engine _ => decide (engine < 64)
  | .stcW engine _ => decide (engine < 64)
  | .stcP engine _ => decide (engine < 64)
  | .ldk engine _ => decide (engine < 64)
  | .stk engine _ => decide (engine < 64)
  | .brEq engine _ => decide (engine < 64)
  | .brNe engine _ => decide (engine < 64)
  | .brLt engine _ => decide (engine < 64)
  | .brGe engine _ => decide (engine < 64)
  | .brLtu engine _ => decide (engine < 64)
  | .brGeu engine _ => decide (engine < 64)
  | .go engine _ => decide (engine < 64)
  | .call engine _ => decide (engine < 64)
  | .rep engine _ => decide (engine < 64)
  | .repr engine _ => decide (engine < 64)
  | .mac2 engine _ => decide (engine < 64)
  | .msu2 engine _ => decide (engine < 64)
  | .macx engine _ => decide (engine < 64)
  | .mul2 engine _ => decide (engine < 64)
  | .mac1 engine _ => decide (engine < 64)
  | .macr engine _ => decide (engine < 64)
  | .mfa engine _ => decide (engine < 64)
  | .mta engine _ => decide (engine < 64)
  | .aclr engine _ => decide (engine < 64)
  | .aadd engine _ => decide (engine < 64)
  | .asr engine _ => decide (engine < 64)
  | .mfah engine _ => decide (engine < 64)
  | .mtal engine _ => decide (engine < 64)
  | .mtam engine _ => decide (engine < 64)
  | .mtah engine _ => decide (engine < 64)
  | .qpush engine _ => decide (engine < 64)
  | .qpushl engine _ => decide (engine < 64)
  | .qpop engine _ => decide (engine < 64)
  | .qpoph engine _ => decide (engine < 64)
  | .stim engine _ _ => decide (engine < 64)
  | .wait engine _ => decide (engine < 64)
  | .ei engine _ => decide (engine < 64)
  | .di engine _ => decide (engine < 64)
  | .retx engine _ => decide (engine < 64)
  | .retm engine _ => decide (engine < 64)
  | .break engine _ => decide (engine < 64)
  | .trap engine _ => decide (engine < 64)
  | .rdc engine _ _ => decide (engine < 64)
  | .wrc engine _ _ => decide (engine < 64)
  | .rdk engine _ => decide (engine < 64)
  | .wrk engine _ => decide (engine < 64)
  | .interruptEntry engine => decide (engine < 64)
  | .debugEntry engine => decide (engine < 64)
  | .trStart engine _ => decide (engine < 64)
  | .trResume engine _ => decide (engine < 64)
  | .trHalt engine _ => decide (engine < 64)
  | .loaded engine _ => decide (engine < 64)
  | .haltReq engine _ => decide (engine < 64)
  | .watchdogExpiry engine => decide (engine < 64)
  | .kick engine => decide (engine < 64)
  | .wdogWrite engine _ => decide (engine < 64)
  | .hoistGo crew channel _ => decide (crew < 8 ∧ channel < 4)
  | .hoistAbort crew channel _ => decide (crew < 8 ∧ channel < 4)
  | .hoistDone crew channel _ => decide (crew < 8 ∧ channel < 4)
  | .qnote engine port => decide (engine < 64 ∧ port < 16)
  | .noticeResend engine => decide (engine < 64)
  | .irqPost engine _ _ _ _ => decide (engine < 64)
  | .postPop engine size _ _ _ => decide (engine < 64 ∧ (size = 4 ∨ size = 8))
  | .cribWriteback _ => true
  | .cribGalleryAccess a _ _ => decide (inTramMemory a.addr)
  | .fwPrimary _ => true
  | .fwGolden _ => true
  | .base => true
  | .fuse _ => true
  | .seamSelfTest seam _ => decide (seam < 4)
  | .crewInit crew _ => decide (crew < 8)
  | .xcCalibrate _ => true
  | .shiftStart => true
  | .fabric => true
  | .record _ => true
  | .identify _ _ => true
  | .readRecord _ _ => true
  | .clearRecord _ _ => true
  | .keyLoad _ _ => true
  | .keyDraw _ _ => true
  | .keyClear _ _ => true
  | .flashUpdate _ _ _ _ _ => true
  | .remapAdd _ _ => true
  | .readLog _ _ => true
  | .echo _ _ => true
  | .sensorSample _ _ _ => true
  | .currentMonitorRead monitor _ => decide (monitor < 8)
  | .logEntry _ => true
  | .logFlashMirror _ => true
  | .loadDeadlineWrite _ _ => true
  | .enum _ => true
  | .enumDone _ => true
  | .linkChange _ => true
  | .announce _ _ _ _ _ => true
  | .stateReq _ => true
  | .state _ _ _ _ _ _ _ _ _ _ => true
  | .grant _ _ => true
  | .event _ _ _ _ _ => true
  | .eventAck _ _ _ => true
  | .report _ _ _ _ => true
  | .cmd _ _ _ _ => true
  | .cmdDone _ _ => true
  | .messageResend _ => true
  | .hopStateChange _ _ => true
  | .headTimeout => true
  | .enumTimer => true
  | .enumRequest => true
  | .announceTimer => true
  | .time _ _ _ => true
  | .timeSend _ => true
  | .ptpSync _ _ => true
  | .incWrite _ _ _ => true
  | .timeStep _ _ _ _ => true
  | .timeSrcWrite _ => true
  | .timeRead _ _ _ _ => true
  | .masterLoss => true
  | .capture input _ => decide (input < 2)
  | .compareWindow unit _ => decide (unit < 4)
  | .peek _ _ => true
  | .consume _ _ => true
  | .lampWrite _ _ _ => true
  | .lampRepeat _ _ => true
  | .lampBreak => true
  | .lampReset _ => true
  | .lampClockTimeout => true
  | .get _ => true
  | .submit => true
  | .lock => true
  | .challengeExpiry => true
  | .lockoutEnd => true
  | .traceEnable _ _ => true
  | .traceSync _ => true
  | .traceLineTimeout => true
  | .vccioDetect bank => decide (bank < 17)
  | .settlingEnd bank => decide (bank < 17)
  | .vccioLoss bank => decide (bank < 17)
  | .mgEnWrite _ => true
  | .pinWrite bank pin _ => decide (bank < 17 ∧ pin < if bank = 16 then 64 else 48)
  | .registerWrite _ _ _ _ _ _ _ _ => true
  | .registerRead _ _ _ _ _ _ => true
  | .dataLinkUp _ _ _ => true
  | .stopePowerDownDone stope => decide (stope < 640)
  | .crewPowerDownDone crew => decide (crew < 8)
  | .mbDone => true
  | .traceFunnel _ => true
  | .traceBufferOutput => true
  | .dimmThermalSensor chan _ => decide (chan < 8)
  | .illegalInstruction engine _ => decide (engine < 64)

end Sys2Proof
end

