-- ==== Sys2Proof/Certificates/Slice0/Obligations.lean ====
section
/-! DEFINITION. The statements for the provers: what each command does, frames, invariants of every step, and whole-machine rules. -/

open Sys2Proof Sys2Proof.Machine

/-- For every command and state, a step with that command at the front of the queue is the command's effect on the state with the queue's
rest. -/
def Obligations.StepRunsFront : Prop :=
  ∀ (c : Instr) (s : State), step { s with pending := c :: s.pending } = exec c s

/-- With no command waiting a step is a block time (the model's choice, log entry 1): with the part's clocks not running, or with no DRAM
access waiting and no lane's transmitter ON, only the STEP pulses that ran have passed (04 R109); and in every case the step answers a next
state, no command waits in it, the fabric's memories and configuration frames are as before, and so is every part but those that the lanes'
idle blocks (09 R237) and the DRAM accesses that waited (14 R373) reach. -/
def Obligations.EmptyQueueIdles : Prop :=
  ∀ s : State, s.pending = [] →
    (s.clk.stage ≠ .running ∨ s.clk.warmHold = true → step s = .next { s with clk := { s.clk with pulses := [] } }) ∧
    (s.dram.queue = [] → ((List.range 128).all fun l => decide (s.rd XC_LANE_STATUS.TX_STATE (l / 8) (l % 8) ≠ 1)) = true →
      step s = .next { s with clk := { s.clk with pulses := [] } }) ∧
    (∃ t, step s = .next t ∧ t.pending = [] ∧ t.fabMem = s.fabMem ∧ t.frames = s.frames ∧
      ∀ p : Part, p ∉ ([.regs .st, .regs .sb, .regs .wd, .regs .cr, .regs .dc, .regs .en, .regs .lp, .clk, .lanes, .sampler, .dram, .crypto,
        .scrubs, .pins, .events, .sent, .stopes] : List Part) → s.partKept t p)

/-- After reset the state is in canonical form, no command waits, nothing is in memory, and every register field of every unit reads
its cold value (for a field whose reset value the spec does not give, that value is the model's: its log entry names it). -/
def Obligations.ResetCanonical : Prop :=
  State.reset.canonical = true ∧ State.reset.pending = [] ∧ State.reset.mem = [] ∧
    ∀ (f : Fld) (u j : Nat), State.reset.rd f u j = f.coldAt u j

/-- From every state in canonical form a step that answers a next state answers one in canonical form: one value for each register
field, memory byte, bin or sump unit, frame word and stope, listed in order, and none listed that reads as an unlisted one does. -/
def Obligations.StepKeepsCanonical : Prop :=
  ∀ s t : State, s.canonical = true → step s = .next t → t.canonical = true

/-- A step takes exactly the command at the front of the queue (no command puts another into it), what has gone out of the part stays
gone out and in its order, and no free value is drawn twice. -/
def Obligations.StepTakesOneCommand : Prop :=
  ∀ s t : State, step s = .next t → t.pending = s.pending.tail ∧ s.sent <+: t.sent ∧ s.freeCount ≤ t.freeCount

/-- A command that names only units the part has (stopes 0 to 639, engines 0 to 63, and so on, 00 R1) answers a next state from every
state; a command that names another answers the fault for a unit that does not exist. -/
def Obligations.WellFormedCompletes : Prop :=
  ∀ (c : Instr) (s : State), (wellFormed c = true → ∃ t, exec c s = .next t) ∧ (wellFormed c = false → exec c s = .fault .noSuchUnit)

/-- Which commands change which store, for every command and state: a byte of the data windows reads as before after every command that
is not one of the classes that store bytes; bins and sumps, configuration frames, the flash, and the installed keys likewise. -/
def Obligations.OnlyTheirClassesChangeStores : Prop :=
  ∀ (c : Instr) (s t : State), exec c s = .next t →
    (storesBytes c = false → t.mem = s.mem) ∧
    (changesUnits c = false → t.fabMem = s.fabMem ∧ t.fabErr = s.fabErr) ∧
    (changesFrames c = false → t.frames = s.frames ∧ t.frameErr = s.frameErr) ∧
    (changesFlash c = false → t.flash = s.flash) ∧
    (changesKeys c = false → t.crypto.slots = s.crypto.slots ∧ t.crypto.owner = s.crypto.owner)

/-- The frame of every command: the registers of every block, and every part behind the registers, that `reach` does not list for the
command are after it as before it. -/
def Obligations.CommandsReachOnly : Prop :=
  ∀ (c : Instr) (s t : State) (p : Part), exec c s = .next t → p ∉ reach c → s.partKept t p

/-- Clock bring-up, the phase divider and clock gating (02 R42, R43, R45 to R47, R53). In the REFCLK window a ring count of 24,576
to 40,960 sets `REFCLK_OK` and enables the PLL; its lock sets `ROOT_LOCK`; the first alignment point sets `ALIGNED`, ends limp mode
(the model's reading, log entry 11) and starts the Foreman's clock switch, whose end shows in `FM_CLK_SRC`. With the Winder stopped
and the value between `PHASE_DIV_MIN` and 96, a write of the phase divider is taken, and `PHASE_DIV_CUR` shows it when it applies; any
other write sets `DIV_ERR` and leaves the divider. An idle unit of an enabled gating class is gated and shows in `GATED`. Each changes
no other register and nothing else, but for the start record (18 R470), which log entry of a passed step is none. -/
def Obligations.ClockBringUp : Prop :=
  ∀ s : State,
    (∀ n, s.clk.stage = .window → 24576 ≤ n → n ≤ 40960 → ∃ t, exec (.refclkWindowEnd n) s = .next t ∧
      t.clk = { s.clk with stage := .locking, failedWindows := 0, lockAttempts := 0 } ∧ t.rd CK_CLK_STATUS.REFCLK_OK = 1 ∧
      s.regsKeptBut t [CK_CLK_STATUS.REFCLK_OK.key, FM_START_REC.REC.key] ∧
      { t with regs := s.regs, clk := s.clk, fm := s.fm } = s) ∧
    (s.clk.stage = .locking → ∃ t, exec .rootLock s = .next t ∧
      t.clk = { s.clk with stage := .aligning } ∧ t.rd CK_CLK_STATUS.ROOT_LOCK = 1 ∧
      s.regsKeptBut t [CK_CLK_STATUS.ROOT_LOCK.key, FM_START_REC.REC.key] ∧
      { t with regs := s.regs, clk := s.clk, fm := s.fm } = s) ∧
    (s.clk.stage = .aligning → ∃ t, exec .aligned s = .next t ∧
      t.clk = { s.clk with stage := .running, fmSwitch := some true } ∧ t.rd CK_CLK_STATUS.ALIGNED = 1 ∧
      t.rd CK_CLK_STATUS.LIMP = 0 ∧
      s.regsKeptBut t [CK_CLK_STATUS.ALIGNED.key, CK_CLK_STATUS.LIMP.key] ∧ { t with regs := s.regs, clk := s.clk } = s) ∧
    (∀ root, s.clk.fmSwitch = some root → ∃ t, exec .clockSwitchDone s = .next t ∧
      t.clk = { s.clk with fmSwitch := none } ∧ t.rd CK_CLK_STATUS.FM_CLK_SRC = b2n root ∧
      s.regsKeptBut t [CK_CLK_STATUS.FM_CLK_SRC.key, FM_START_REC.REC.key] ∧
      { t with regs := s.regs, clk := s.clk, fm := s.fm } = s) ∧
    (∀ n, s.winderStopped = true → s.rd CK_CLK_STATUS.PHASE_DIV_MIN ≤ n → n ≤ 96 → ∃ t, exec (.phaseDivWrite n) s = .next t ∧
      t.clk = { s.clk with pendingDiv := some n } ∧ t.rd CK_PHASE_DIV.N = n ∧
      s.regsKeptBut t [CK_PHASE_DIV.N.key] ∧ { t with regs := s.regs, clk := s.clk } = s) ∧
    (∀ n, (s.winderStopped = false ∨ n < s.rd CK_CLK_STATUS.PHASE_DIV_MIN ∨ 96 < n) → ∃ t, exec (.phaseDivWrite n) s = .next t ∧
      t.rd CK_CLK_STATUS.DIV_ERR = 1 ∧ s.regsKeptBut t [CK_CLK_STATUS.DIV_ERR.key] ∧ { t with regs := s.regs } = s) ∧
    (∀ n, n ≤ 96 → s.clk.pendingDiv = some n → ∃ t, exec .phaseDivApply s = .next t ∧
      t.clk = { s.clk with pendingDiv := none } ∧ t.rd CK_CLK_STATUS.PHASE_DIV_CUR = n ∧
      s.regsKeptBut t [CK_CLK_STATUS.PHASE_DIV_CUR.key] ∧ { t with regs := s.regs, clk := s.clk } = s) ∧
    (∀ cls unit, cls < 8 → s.bit CK_GATE_DIS.DIS cls = false → s.gateIdle cls unit = true → (cls, unit) ∉ s.clk.gated →
      ∃ t, exec (.clockGate cls unit) s = .next t ∧ t.clk = { s.clk with gated := s.clk.gated ++ [(cls, unit)] } ∧
      t.bit CK_GATE_STATUS.GATED cls = true ∧ s.regsKeptBut t [CK_GATE_STATUS.GATED.key] ∧
      { t with regs := s.regs, clk := s.clk } = s)

/-- WARM (00 R14; 02 R49, R50, R54, R58, R59, R63). On a part that is not halted and has VCC_AON, PERST#, the keyed write of `CK_RESET_CTRL`, the loss
of ROOT (lock lost, an edge timeout or a failed window while running), the loss of a rail and the long low on nRST_LAMP each start a
WARM: exactly the bit of its own cause is set among bits [4:0] of `CK_RST_CAUSE`; `WARM_COUNT` rises and stops at 255; every field that
keeps its value through WARM keeps it and every other field takes its cold value, but for the fields listed, which report the hardware
or are set by these events; the outcomes of start steps 0 to 2 are kept and the later ones cleared; an eye scan that runs
ends `ABORTED` (09 R254); the page-code level becomes `LEVEL_NEXT`; the bytes of the data windows read 0, bins, sumps, frames and stopes are cleared, and flash, key slots, owner key and
event log are kept. The 1 µs hold starts. -/
def Obligations.WarmReset : Prop :=
  ∀ (s : State) (c : Instr) (cause : Fld), s.halted = false → s.clk.stage ≠ .aonLost →
    ((c = .perstAssert ∧ cause = CK_RST_CAUSE.PERST) ∨ (c = .warmReq 0x5A5A true ∧ cause = CK_RST_CAUSE.SW_WARM) ∨
      (s.clk.stage = .running ∧ cause = CK_RST_CAUSE.ROOT_LOST ∧
        (c = .rootLost ∨ c = .refclkEdgeTimeout ∨ ∃ n, (n < 24576 ∨ 40960 < n) ∧ c = .refclkWindowEnd n)) ∨
      ((∃ r, r < 6 ∧ c = .railLost r) ∧ cause = CK_RST_CAUSE.RAIL) ∨ (c = .lampReset true ∧ cause = CK_RST_CAUSE.LAMP)) →
    ∃ t, exec c s = .next t ∧
      (∀ g ∈ [CK_RST_CAUSE.PERST, CK_RST_CAUSE.SW_WARM, CK_RST_CAUSE.ROOT_LOST, CK_RST_CAUSE.RAIL, CK_RST_CAUSE.LAMP],
        t.rd g = if g = cause then 1 else 0) ∧
      t.rd CK_RST_CAUSE.WARM_COUNT = min (s.rd CK_RST_CAUSE.WARM_COUNT + 1) 255 ∧
      (∀ (f : Fld) (u j : Nat),
        (∀ g ∈ [CK_RST_CAUSE.PERST, CK_RST_CAUSE.SW_WARM, CK_RST_CAUSE.ROOT_LOST, CK_RST_CAUSE.RAIL, CK_RST_CAUSE.LAMP,
          CK_RST_CAUSE.WARM_COUNT, CK_CLK_STATUS.REFCLK_OK, CK_CLK_STATUS.ROOT_LOCK, CK_CLK_STATUS.ALIGNED, CK_CLK_STATUS.LIMP,
          CK_AON_STATUS.ROOT_LOST, CK_AON_STATUS.REFCLK_FAIL_COUNT, CK_RAIL_STATUS.CORE_GOOD, CK_RAIL_STATUS.SRAM_GOOD,
          CK_RAIL_STATUS.LANE09_GOOD, CK_RAIL_STATUS.LANE12_GOOD, CK_RAIL_STATUS.DDR_GOOD, CK_RAIL_STATUS.AUX_GOOD,
          FM_START_REC.REC, XC_LANE_EYE_RESULT.ABORTED, PC_CTRL.LEVEL, EN_KEY_STATUS.FILLED], f.id ≠ g.id) →
        t.rd f u j = if f.keepWarm then s.rd f u j else f.coldAt u j) ∧
      t.rd FM_START_REC.REC = s.rd FM_START_REC.REC % 64 ∧ t.rd PC_CTRL.LEVEL = s.rd PC_CTRL.LEVEL_NEXT % 4 ∧
      (∀ p i, p < 16 → i < 8 → t.rd XC_LANE_EYE_RESULT.ABORTED p i = if s.on XC_LANE_EYE_RESULT.BUSY p i then 1 else 0) ∧
      t.mem = [] ∧ t.fabMem = [] ∧ t.fabErr = [] ∧ t.frames = [] ∧ t.frameErr = [] ∧ t.stopes = [] ∧ t.flash = s.flash ∧
      t.crypto.slots = s.crypto.slots ∧ t.crypto.owner = s.crypto.owner ∧ t.fm.log = s.fm.log ∧ t.clk.warmHold = true

/-- Failures of the clocks (02 R42, R43, R48, R50, R51, R58). A failed REFCLK window before alignment adds 1 to `REFCLK_FAIL_COUNT`
(no further than 255) and another window starts; the sixteenth in a row sets `REFCLK_BAD` and enters limp mode. A lock timeout adds 1 to
`LOCK_FAIL_COUNT` and the PLL is tried again; the third sets `ROOT_FAIL` and enters limp mode. A hung switch is forced, counted, and
holds the Foreman in reset until its release, from which it boots. `RETRY` by the Foreman in limp mode, and every rail good after a rail
loss, restart the bring-up. When the WARM hold ends the Foreman reboots. A loss of VCC_AON stops the part. Nothing else changes; what the
log gets is in `events`. -/
def Obligations.ClockFailures : Prop :=
  ∀ s : State,
    (∀ n, s.clk.stage = .window → (n < 24576 ∨ 40960 < n) → s.clk.failedWindows + 1 ≠ 16 → ∃ t, exec (.refclkWindowEnd n) s = .next t ∧
      t.clk = { s.clk with failedWindows := s.clk.failedWindows + 1 } ∧
      t.rd CK_AON_STATUS.REFCLK_FAIL_COUNT = min (s.rd CK_AON_STATUS.REFCLK_FAIL_COUNT + 1) 255 ∧
      s.regsKeptBut t [CK_AON_STATUS.REFCLK_FAIL_COUNT.key] ∧ { t with regs := s.regs, clk := s.clk } = s) ∧
    (∀ n, s.clk.stage = .window → (n < 24576 ∨ 40960 < n) → s.clk.failedWindows = 15 → ∃ t, exec (.refclkWindowEnd n) s = .next t ∧
      t.clk = { s.clk with failedWindows := 16 } ∧ t.rd CK_AON_STATUS.REFCLK_BAD = 1 ∧ t.rd CK_CLK_STATUS.LIMP = 1 ∧
      t.rd CK_AON_STATUS.REFCLK_FAIL_COUNT = min (s.rd CK_AON_STATUS.REFCLK_FAIL_COUNT + 1) 255 ∧
      s.regsKeptBut t [CK_AON_STATUS.REFCLK_FAIL_COUNT.key, CK_AON_STATUS.REFCLK_BAD.key, FM_START_REC.REC.key, CK_CLK_STATUS.LIMP.key] ∧
      { t with regs := s.regs, clk := s.clk, fm := s.fm, events := s.events } = s) ∧
    (s.clk.stage = .locking → s.clk.lockAttempts < 2 → ∃ t, exec .lockTimeout s = .next t ∧
      t.clk = { s.clk with lockAttempts := s.clk.lockAttempts + 1 } ∧
      t.rd CK_AON_STATUS.LOCK_FAIL_COUNT = min (s.rd CK_AON_STATUS.LOCK_FAIL_COUNT + 1) 255 ∧
      s.regsKeptBut t [CK_AON_STATUS.LOCK_FAIL_COUNT.key] ∧ { t with regs := s.regs, clk := s.clk } = s) ∧
    (s.clk.stage = .locking → 2 ≤ s.clk.lockAttempts → ∃ t, exec .lockTimeout s = .next t ∧ t.clk.stage = .failed ∧
      t.rd CK_AON_STATUS.ROOT_FAIL = 1 ∧ t.rd CK_CLK_STATUS.LIMP = 1 ∧
      t.rd CK_AON_STATUS.LOCK_FAIL_COUNT = min (s.rd CK_AON_STATUS.LOCK_FAIL_COUNT + 1) 255 ∧
      s.regsKeptBut t [CK_AON_STATUS.LOCK_FAIL_COUNT.key, CK_AON_STATUS.ROOT_FAIL.key, FM_START_REC.REC.key, CK_CLK_STATUS.LIMP.key] ∧
      { t with regs := s.regs, clk := s.clk, fm := s.fm, events := s.events } = s) ∧
    (∀ root, s.clk.fmSwitch = some root → ∃ t, exec .switchHang s = .next t ∧ t.clk = { s.clk with fmSwitch := none, fmHeld := true } ∧
      t.rd CK_CLK_STATUS.FM_CLK_SRC = b2n root ∧ t.rd CK_AON_STATUS.HANG_COUNT = min (s.rd CK_AON_STATUS.HANG_COUNT + 1) 255 ∧
      t.rd CK_AON_STATUS.SWITCH_HANG = 1 ∧
      s.regsKeptBut t [CK_CLK_STATUS.FM_CLK_SRC.key, CK_AON_STATUS.HANG_COUNT.key, CK_AON_STATUS.SWITCH_HANG.key] ∧
      { t with regs := s.regs, clk := s.clk } = s) ∧
    (s.clk.fmHeld = true → ∃ t, exec .foremanResetRelease s = .next t ∧ t.clk = { s.clk with fmHeld := false } ∧
      t.fm = { s.fm with ended := s.fm.ended % 8, mailbox := none } ∧ { t with clk := s.clk, fm := s.fm } = s) ∧
    (s.on CK_CLK_STATUS.LIMP = true → ∃ t, exec (.retry true) s = .next t ∧
      t.clk = { s.clk with stage := .window, failedWindows := 0, lockAttempts := 0 } ∧ t.rd CK_CLK_STATUS.LIMP = 0 ∧
      s.regsKeptBut t [CK_CLK_STATUS.REFCLK_OK.key, CK_CLK_STATUS.ROOT_LOCK.key, CK_CLK_STATUS.ALIGNED.key, CK_CLK_STATUS.LIMP.key] ∧
      { t with regs := s.regs, clk := s.clk } = s) ∧
    (s.clk.stage = .railHold → ∃ t, exec .railGood s = .next t ∧
      t.clk = { s.clk with stage := .window, failedWindows := 0, lockAttempts := 0 } ∧
      (∀ g ∈ [CK_RAIL_STATUS.CORE_GOOD, CK_RAIL_STATUS.SRAM_GOOD, CK_RAIL_STATUS.LANE09_GOOD, CK_RAIL_STATUS.LANE12_GOOD,
        CK_RAIL_STATUS.DDR_GOOD, CK_RAIL_STATUS.AUX_GOOD], t.rd g = 1) ∧ { t with regs := s.regs, clk := s.clk } = s) ∧
    (s.clk.warmHold = true → s.clk.lampHold = false → s.clk.stage ≠ .railHold → ∃ t, exec .warmHoldEnd s = .next t ∧ t.clk = { s.clk with warmHold := false } ∧
      t.fm = { s.fm with ended := s.fm.ended % 8, mailbox := none } ∧ { t with clk := s.clk, fm := s.fm } = s) ∧
    (∃ t, exec .vccAonLoss s = .next t ∧ t = { s with clk := { s.clk with stage := .aonLost } })

/-- COLD (00 R13, 02 R59): every register field takes its cold value, but for the log's positions, which come from the log in flash;
data windows, bins, sumps, frames and stopes are clear, key RAM is empty, nothing runs and the supervisor measures its first REFCLK
window; the flash is kept. -/
def Obligations.ColdReset : Prop :=
  ∀ s : State, ∃ t, exec .cold s = .next t ∧
    (∀ (f : Fld) (u j : Nat), f.id ≠ FM_LOG_POS.NEXT_SEQ.id → f.id ≠ FM_LOG_POS.FLASHED.id → t.rd f u j = f.coldAt u j) ∧
    t.mem = [] ∧ t.fabMem = [] ∧ t.fabErr = [] ∧ t.frames = [] ∧ t.frameErr = [] ∧ t.stopes = [] ∧ t.clk = .cold ∧
    t.crypto.slots = [] ∧ t.crypto.owner = none ∧ t.winder = .cold ∧ t.sampler = .cold ∧ t.dram = .cold ∧ t.tram = .cold ∧
    t.shift = .cold ∧ t.events = [] ∧ t.flash = s.flash ∧ t.fm.log = s.flash.log.drop (s.flash.log.length - 2048)

/-- STOPE and ENGINE resets (00 R15; 02 R55 to R57, R59; 16 R438). A STOPE request is refused, with `STOPE_REFUSED` set and nothing
else done, for a stope number above 639, a stope powered down, a stope configured and not isolated while the Winder is not stopped, or
while another stope's reset runs; for the stope in reset it merges and changes nothing; else it starts: `STOPE_BUSY` and `LAST_STOPE`.
While the line is high the stope's registers that the reset reaches take their cold values (`HOLD_SYNC` reads 1; a tree on STEP, or switching, starts its switch back to PHASE instead), its shadows and ports
clear, its configuration, the other stopes and the memories stay; the line's fall clears `STOPE_BUSY`. An ENGINE request for another
engine than the one in reset sets `ENGINE_REFUSED` and does nothing else; for the same engine it merges; else the engine enters RESET.
The end of the reset leaves the engine HELD with `IMEM_STALE` set. -/
def Obligations.StopeAndEngineReset : Prop :=
  ∀ s : State,
    (∀ n, s.clk.warmHold = false →
      (640 ≤ n ∨ s.powered n = false ∨ s.stopeBlocked n = true ∨ s.clk.stopeReset.any (fun p => decide (p.1 ≠ n)) = true) →
      ∃ t, exec (.stopeResetReq n) s = .next t ∧ t.rd CK_RST_STATUS.STOPE_REFUSED = 1 ∧
        s.regsKeptBut t [CK_RST_STATUS.STOPE_REFUSED.key] ∧ { t with regs := s.regs } = s) ∧
    (∀ n h, s.clk.warmHold = false → n < 640 → s.powered n = true → s.stopeBlocked n = false → s.clk.stopeReset = some (n, h) →
      exec (.stopeResetReq n) s = .next s) ∧
    (∀ n, s.clk.warmHold = false → n < 640 → s.powered n = true → s.stopeBlocked n = false → s.clk.stopeReset = none →
      ∃ t, exec (.stopeResetReq n) s = .next t ∧ t.rd CK_RST_STATUS.STOPE_BUSY = 1 ∧ t.rd CK_RST_STATUS.LAST_STOPE = n ∧
        t.clk.stopeReset = some (n, false)) ∧
    (∀ n, s.clk.stopeReset = some (n, false) → ∃ t, exec .stopeResetLineHigh s = .next t ∧
      t.clk = { s.clk with stopeReset := some (n, true) } ∧ 
      (s.on ST_TREE_STATUS.SRC_CUR n = false → (s.stope n).switchTo = none →
        t.rd ST_TREE_STATUS.HOLD_SYNC n = 1 ∧ t.rd ST_TREE_STATUS.SWITCHING n = 0 ∧ (t.stope n).switchTo = none) ∧
      ((s.on ST_TREE_STATUS.SRC_CUR n = true ∨ (s.stope n).switchTo ≠ none) →
        t.rd ST_TREE_STATUS.SRC_CUR n = s.rd ST_TREE_STATUS.SRC_CUR n % 4 ∧ t.rd ST_TREE_STATUS.SWITCHING n = 1 ∧
        (t.stope n).switchTo = some 0) ∧
      (∀ (f : Fld) (u j : Nat), (u = n → f.id ≠ ST_TREE_STATUS.HOLD_SYNC.id ∧ f.id ≠ ST_TREE_STATUS.SRC_CUR.id ∧
          f.id ≠ ST_TREE_STATUS.SWITCHING.id) →
        t.rd f u j = if f.blk = .st ∧ u = n ∧ f.keepUnit = false then f.coldAt u j else s.rd f u j) ∧
      (t.stope n).cfg = (s.stope n).cfg ∧ (t.stope n).shadow = [] ∧ (t.stope n).ports = .cleared ∧ (t.stope n).shadowPorts = .cleared ∧
      (t.stope n).regs = [] ∧ (t.stope n).journals = [] ∧ (∀ m, m ≠ n → t.stope m = s.stope m) ∧
      { t with regs := s.regs, clk := s.clk, stopes := s.stopes, sampler := s.sampler } = s) ∧
    (∀ n, s.clk.stopeReset = some (n, true) → ∃ t, exec .stopeResetEnd s = .next t ∧ t.clk.stopeReset = none) ∧
    (∀ e m, e < 64 → s.clk.warmHold = false → s.clk.engineReset = some m → m ≠ e → ∃ t, exec (.engineResetReq e) s = .next t ∧
      t.rd CK_RST_STATUS.ENGINE_REFUSED = 1 ∧ s.regsKeptBut t [CK_RST_STATUS.ENGINE_REFUSED.key] ∧ { t with regs := s.regs } = s) ∧
    (∀ e, e < 64 → s.clk.warmHold = false → s.clk.engineReset = some e → exec (.engineResetReq e) s = .next s) ∧
    (∀ e, e < 64 → s.clk.warmHold = false → s.clk.engineReset = none → ∃ t, exec (.engineResetReq e) s = .next t ∧
      t.clk.engineReset = some e) ∧
    (∀ e, e < 64 → s.clk.engineReset = some e → s.tram.wdogWait = [] → ∃ t, exec .engineResetDone s = .next t ∧
      t.clk = { s.clk with engineReset := none } ∧ t.rd TR_STATUS.STATE e = 0 ∧ t.rd TR_STATUS.IMEM_STALE e = 1 ∧
      t.rd CK_RST_STATUS.ENGINE_BUSY = 0 ∧ t.eng e = .cold ∧
      (∀ (f : Fld) (u j : Nat), f.id ≠ CK_RST_STATUS.ENGINE_BUSY.id →
        t.rd f u j = if f.blk = .tr ∧ u = e ∧ f.keepUnit = false then f.coldAt u j else s.rd f u j) ∧
      { t with regs := s.regs, clk := s.clk, tram := s.tram } = s)

/-- Power (02 R61, R62). A power-down of a stope that is off, or configured and not isolated while the Winder is not stopped, is refused:
`PWR_REFUSED` sets, the request bit stays. An accepted one clears the request bit and leaves the stope unconfigured. A power-up sets the
request bit. When the power is up or down the status bit follows. A crew powers down only while all eight of its engines are HELD or in
RESET: its request bit clears; else `PWR_REFUSED` sets and nothing else changes. When a crew is up again its status bit sets. -/
def Obligations.PowerDomains : Prop :=
  ∀ s : State,
    (∀ n, n < 640 → (s.powered n = false ∨ s.stopeBlocked n = true) → ∃ t, exec (.stopePowerDown n) s = .next t ∧
      t.rd CK_RST_STATUS.PWR_REFUSED = 1 ∧ s.regsKeptBut t [CK_RST_STATUS.PWR_REFUSED.key] ∧ { t with regs := s.regs } = s) ∧
    (∀ n, n < 640 → s.powered n = true → s.stopeBlocked n = false → ∃ t, exec (.stopePowerDown n) s = .next t ∧
      t.vec CK_STOPE_PWR.ON n = false ∧ (n, false) ∈ t.clk.stopePower) ∧
    (∀ n, n < 640 → s.powered n = false → ∃ t, exec (.stopePowerUp n) s = .next t ∧ t.vec CK_STOPE_PWR.ON n = true ∧
      (n, true) ∈ t.clk.stopePower ∧ s.regsKeptBut t [CK_STOPE_PWR.ON.key 0 (n / 64)] ∧ { t with regs := s.regs, clk := s.clk } = s) ∧
    (∀ n, n < 640 → (n, true) ∈ s.clk.stopePower → ∃ t, exec (.stopePowerUpDone n) s = .next t ∧ t.powered n = true ∧
      t.clk = { s.clk with stopePower := s.clk.stopePower.filter (fun p => decide (p.1 ≠ n)) } ∧
      s.regsKeptBut t [CK_STOPE_PWR_STAT.ON_STAT.key 0 (n / 64)] ∧ { t with regs := s.regs, clk := s.clk } = s) ∧
    (∀ n, n < 640 → (n, false) ∈ s.clk.stopePower → ∃ t, exec (.stopePowerDownDone n) s = .next t ∧ t.powered n = false ∧
      t.clk = { s.clk with stopePower := s.clk.stopePower.filter (fun p => decide (p.1 ≠ n)) } ∧
      s.regsKeptBut t [CK_STOPE_PWR_STAT.ON_STAT.key 0 (n / 64)] ∧ { t with regs := s.regs, clk := s.clk } = s) ∧
    (∀ c, c < 8 → (∃ m, m < 8 ∧ s.engineIdle (8 * c + m) = false) → ∃ t, exec (.crewPowerDown c) s = .next t ∧
      t.rd CK_RST_STATUS.PWR_REFUSED = 1 ∧ s.regsKeptBut t [CK_RST_STATUS.PWR_REFUSED.key] ∧ { t with regs := s.regs } = s) ∧
    (∀ c, c < 8 → (∀ m, m < 8 → s.engineIdle (8 * c + m) = true) → ∃ t, exec (.crewPowerDown c) s = .next t ∧
      t.bit CK_CREW_PWR.ON c = false ∧ t.ready (30 + c) = false ∧ (c, false) ∈ t.clk.crewPower) ∧
    (∀ c, c < 8 → ∃ t, exec (.crewPowerUp c) s = .next t ∧ t.bit CK_CREW_PWR.ON c = true ∧ (c, true) ∈ t.clk.crewPower ∧
      s.regsKeptBut t [CK_CREW_PWR.ON.key] ∧ { t with regs := s.regs, clk := s.clk } = s) ∧
    (∀ c, c < 8 → (c, true) ∈ s.clk.crewPower → ∃ t, exec (.crewPowerUpDone c) s = .next t ∧ t.ready (30 + c) = true ∧
      t.bit CK_CREW_PWR.ON_STAT c = true ∧ (c, true) ∉ t.clk.crewPower) ∧
    (∀ c, c < 8 → (c, false) ∈ s.clk.crewPower → ∃ t, exec (.crewPowerDownDone c) s = .next t ∧ t.bit CK_CREW_PWR.ON_STAT c = false ∧
      t.clk = { s.clk with crewPower := s.clk.crewPower.filter (fun p => decide (p.1 ≠ c)) } ∧
      s.regsKeptBut t [CK_CREW_PWR.ON_STAT.key] ∧ { t with regs := s.regs, clk := s.clk } = s)

/-- A stroke (03 R81 to R86; 08 R209 to R213). While the Winder is not RUNNING, a stroke runs already, the tally has reached the
horizon or a port waits for its frames, a start does nothing; with the gate open the stroke starts at phase 0 of slot 0, and every stope
in use that waits for the device boundary comes into step. With the dividers of the active stopes in step with the Winder, a phase that
does not begin a slot makes every active stope's pipeline registers capture at once, from the values before its edge, and changes nothing
else in a stope, no memory and no other part but the phase counts, the dividers and STEP pulses, which end; a phase that begins a slot
advances likewise. The edge that ends a slot takes the next slot, and each active stope's port results that waited are loaded. The boundary
after the last slot raises the tally by one and ends the stroke. A hold phase between strokes counts in the first of SAMPLE, GRANT and
FRAME whose reason applies, and changes nothing else but the holds asked for and STEP pulses, which end. -/
def Obligations.Strokes : Prop :=
  ∀ s : State,
    (s.rd WD_STATUS.STATE ≠ 2 ∨ s.winder.inStroke = true ∨ s.rd WD_HORIZON.H ≤ s.rd WD_TALLY.TALLY ∨
      s.portWait (s.rd WD_TALLY.TALLY) ≠ 0 → exec .strokeStart s = .next s) ∧
    (s.rd WD_STATUS.STATE = 2 → s.winder.inStroke = false → s.sampleDue = none → s.portWait (s.rd WD_TALLY.TALLY) = 0 →
      s.rd WD_TALLY.TALLY < s.rd WD_HORIZON.H → s.slotHeld 0 = false →
      (∀ e ∈ s.winder.events, e.kind = .sample ∨ s.rd WD_TALLY.TALLY < e.e) →
      ∃ t, exec .strokeStart s = .next t ∧ t.winder = { s.winder with inStroke := true, phase := 0, slots := 0, sampled := false } ∧
        (∀ n, n < 640 → s.inUse n = true → s.rd ST_TREE_STATUS.SRC_CUR n = 0 → s.rd ST_TREE_STATUS.SWITCHING n = 0 →
          t.rd ST_TREE_STATUS.HOLD_SYNC n = 0)) ∧
    (∀ p k, p = s.winder.phase → k = s.rd CF_LOADED.K → s.winder.inStroke = true → s.halted = false → p < s.rd CF_LOADED.F * k →
      p < (s.winder.slots + 1) * k → p % k ≠ 0 → k ≤ 16 →
      (s.activeStopes.all fun n => decide (s.rd ST_TREE_STATUS.LOCAL_PHASE n = p % k ∧ s.rd ST_TREE_STATUS.LOCAL_CTX n = p / k)) = true →
      ∃ t, exec .activePhase s = .next t ∧
      t.winder = { s.winder with phase := p + 1 } ∧ t.rd WD_PHASES.COUNT = (s.rd WD_PHASES.COUNT + 1) % 2 ^ 64 ∧
      (∀ n ∈ s.activeStopes,
        t.stope n = { s.stope n with regsBefore := (s.stope n).regs, regs := s.nextRegs n (p / k) }) ∧
      (∀ n, n ∉ s.activeStopes → t.stope n = s.stope n) ∧ t.clk = { s.clk with pulses := [] } ∧
      { t with regs := s.regs, winder := s.winder, stopes := s.stopes, clk := s.clk, freeCount := s.freeCount } = s) ∧
    (s.winder.inStroke = true → s.halted = false → s.winder.phase < s.rd CF_LOADED.F * s.rd CF_LOADED.K →
      s.winder.phase < (s.winder.slots + 1) * s.rd CF_LOADED.K → s.winder.phase % s.rd CF_LOADED.K = 0 →
      (s.winder.phase ≠ 0 → s.slotHeld (s.winder.phase / s.rd CF_LOADED.K) = false) →
      ∃ t, exec .activePhase s = .next t ∧ t.winder.phase = s.winder.phase + 1) ∧
    (s.winder.inStroke = true → s.halted = false → s.winder.phase = (s.winder.slots + 1) * s.rd CF_LOADED.K →
      s.winder.slots < s.rd CF_LOADED.F → (s.activeStopes.all fun n => decide (s.rd ST_TREE_STATUS.LOCAL_PHASE n = 0)) = true →
      ∃ t, exec .slotEnd s = .next t ∧ t.winder.slots = s.winder.slots + 1 ∧
        (∀ n ∈ s.activeStopes, (t.stope n).ports.loading = []) ∧ (∀ n, n ∉ s.activeStopes → t.stope n = s.stope n)) ∧
    (s.winder.inStroke = true → s.halted = false → s.winder.slots = s.rd CF_LOADED.F → s.rd CF_LOADED.F ≠ 0 →
      s.rd WD_TALLY.TALLY + 1 < 2 ^ 64 →
      ∃ t, exec .strokeBoundary s = .next t ∧ t.rd WD_TALLY.TALLY = s.rd WD_TALLY.TALLY + 1 ∧ t.winder.inStroke = false ∧
        t.winder.phase = 0 ∧ t.winder.slots = 0) ∧
    (∀ (f : Fld), s.rd WD_STATUS.STATE = 2 → s.winder.inStroke = false → s.halted = false →
      ((s.sampleDue.isSome = true ∧ f = WD_HOLDS_SAMPLE.COUNT) ∨
        (s.sampleDue = none ∧ s.stopDue = none ∧ s.rd WD_HORIZON.H ≤ s.rd WD_TALLY.TALLY ∧ f = WD_HOLDS_GRANT.COUNT) ∨
        (s.sampleDue = none ∧ s.stopDue = none ∧ s.rd WD_TALLY.TALLY < s.rd WD_HORIZON.H ∧
          s.portWait (s.rd WD_TALLY.TALLY) ≠ 0 ∧ f = WD_HOLDS_FRAME.COUNT)) →
      ∃ t, exec .holdPhase s = .next t ∧ t.rd f = (s.rd f + 1) % 2 ^ 64 ∧ s.regsKeptBut t [f.key] ∧
      t.clk = { s.clk with pulses := [] } ∧ t.winder = { s.winder with holdReq := t.winder.holdReq } ∧
      { t with regs := s.regs, winder := s.winder, clk := s.clk } = s)

/-- The clock tree of a stope (04 R107 to R110). A write of `SRC` with a reserved value, during a switch, or on a stope that is not
ISOLATED (04 R107, 07 R179) sets `SRC_ERR` and does nothing else; one that names the source in force starts nothing (the model's choice,
log entry 66); any other starts a switch, whose end makes the new source current, with captures held
until the next device boundary where it is PHASE. A hung switch is forced and sets `HANG`. `GO` is ignored, with `STEP_ERR` set, while
the source is not STEP, a switch runs or a pulse is running; else it makes one phase of the stope, whose divider moves on, and the pulse runs (its end is the model's choice, log entry 92). -/
def Obligations.StopeTree : Prop :=
  ∀ (s : State) (n src : Nat), n < 640 →
    (2 ≤ src ∨ s.rd ST_TREE_STATUS.SWITCHING n ≠ 0 ∨ s.stopeState n ≠ 2 → ∃ t, exec (.treeSrcWrite n src) s = .next t ∧
      t.rd ST_TREE_STATUS.SRC_ERR n = 1 ∧ s.regsKeptBut t [ST_TREE_STATUS.SRC_ERR.key n] ∧ { t with regs := s.regs } = s) ∧
    (src = s.rd ST_TREE_STATUS.SRC_CUR n → src < 2 → s.rd ST_TREE_STATUS.SWITCHING n = 0 → s.stopeState n = 2 →
      exec (.treeSrcWrite n src) s = .next s) ∧
    (src < 2 → src ≠ s.rd ST_TREE_STATUS.SRC_CUR n → s.rd ST_TREE_STATUS.SWITCHING n = 0 → s.stopeState n = 2 → ∃ t, exec (.treeSrcWrite n src) s = .next t ∧
      t.rd ST_TREE_CTRL.SRC n = src ∧ t.rd ST_TREE_STATUS.SWITCHING n = 1 ∧ (t.stope n) = { s.stope n with switchTo := some src } ∧
      s.regsKeptBut t [ST_TREE_CTRL.SRC.key n, ST_TREE_STATUS.SWITCHING.key n, CK_GATE_STATUS.GATED.key] ∧
      { t with regs := s.regs, stopes := s.stopes, clk := s.clk } = s) ∧
    ((s.stope n).switchTo = some src → src < 2 → ∃ t, exec (.treeSwitchDone n) s = .next t ∧
      t.rd ST_TREE_STATUS.SRC_CUR n = src ∧ t.rd ST_TREE_STATUS.SWITCHING n = 0 ∧
      t.rd ST_TREE_STATUS.HOLD_SYNC n = (if src = 0 then 1 else s.rd ST_TREE_STATUS.HOLD_SYNC n) ∧
      (t.stope n) = { s.stope n with switchTo := none } ∧
      s.regsKeptBut t [ST_TREE_STATUS.SRC_CUR.key n, ST_TREE_STATUS.SWITCHING.key n, ST_TREE_STATUS.HOLD_SYNC.key n] ∧
      { t with regs := s.regs, stopes := s.stopes } = s) ∧
    ((s.stope n).switchTo = some src → src < 2 → ∃ t, exec (.treeSwitchHang n) s = .next t ∧
      t.rd ST_TREE_STATUS.SRC_CUR n = src ∧ t.rd ST_TREE_STATUS.SWITCHING n = 0 ∧ t.rd ST_TREE_STATUS.HANG n = 1 ∧
      (t.stope n).switchTo = none ∧
      s.regsKeptBut t [ST_TREE_STATUS.SRC_CUR.key n, ST_TREE_STATUS.SWITCHING.key n, ST_TREE_STATUS.HOLD_SYNC.key n,
        ST_TREE_STATUS.HANG.key n] ∧
      { t with regs := s.regs, stopes := s.stopes } = s) ∧
    (exec (.treeStep n false) s = .next s) ∧
    (s.rd ST_TREE_STATUS.SRC_CUR n ≠ 1 ∨ s.rd ST_TREE_STATUS.SWITCHING n ≠ 0 ∨ n ∈ s.clk.pulses →
      ∃ t, exec (.treeStep n true) s = .next t ∧
      t.rd ST_TREE_STATUS.STEP_ERR n = 1 ∧ s.regsKeptBut t [ST_TREE_STATUS.STEP_ERR.key n] ∧ { t with regs := s.regs } = s) ∧
    (s.rd ST_TREE_STATUS.SRC_CUR n = 1 → s.rd ST_TREE_STATUS.SWITCHING n = 0 → n ∉ s.clk.pulses →
      (s.stope n).capturesOff = false → s.stopeState n = 2 → s.rd ST_TREE_STATUS.LOCAL_PHASE n < s.rd CF_LOADED.K → s.rd CF_LOADED.K ≤ 16 →
      s.rd ST_TREE_STATUS.LOCAL_CTX n < s.rd CF_LOADED.F → s.rd CF_LOADED.F ≤ 4 → ∃ t, exec (.treeStep n true) s = .next t ∧
      n ∈ t.clk.pulses ∧
      (t.rd ST_TREE_STATUS.LOCAL_PHASE n, t.rd ST_TREE_STATUS.LOCAL_CTX n) =
        (if s.rd ST_TREE_STATUS.LOCAL_PHASE n + 1 < s.rd CF_LOADED.K then
          (s.rd ST_TREE_STATUS.LOCAL_PHASE n + 1, s.rd ST_TREE_STATUS.LOCAL_CTX n)
         else (0, if s.rd ST_TREE_STATUS.LOCAL_CTX n + 1 < s.rd CF_LOADED.F then s.rd ST_TREE_STATUS.LOCAL_CTX n + 1 else 0)))

/-- The agents of a stope's memories (05 R129 to R141; 11 R289; 12 R323). A write-back that no write overtook stores the corrected unit
and clears its error; one that was overtaken does nothing. The sweeper reads one unit of each memory and moves on, wrapping, and is still
while it is disabled or the stope is unconfigured. A starved copy of an armed memory asks for a hold phase. Arming an injection records its
memory and kind. A controller in UP mode with a grant pops the oldest word into its run; one in DOWN mode pushes the oldest word received;
in a stope not in use none moves. An error answer to a level-interrupt write sets `WRITE_FAIL`. The Corer's copy of an armed memory stores
the next unit that is not journalled, and a journal entry is stored before it; each counts, and nothing is copied while no sample drains. -/
def Obligations.StopeMemories : Prop :=
  ∀ (s : State) (n m : Nat), n < 640 → m < 18 →
    (∀ u, (m, u) ∈ (s.stope n).writebacks → 1 ≤ s.unitErr n m u → s.unitErr n m u ≤ 64 → ∃ t, exec (.eccWriteback n m u) s = .next t ∧
      t.unitErr n m u = 0 ∧ t.unitRaw n m u = s.unitRaw n m u ^^^ 2 ^ (s.unitErr n m u - 1) ∧ (m, u) ∉ (t.stope n).writebacks ∧
      { t with stopes := s.stopes, fabMem := s.fabMem, fabErr := s.fabErr } = s) ∧
    (∀ u, (m, u) ∉ (s.stope n).writebacks → exec (.eccWriteback n m u) s = .next s) ∧
    (s.rd ST_MEM_CTRL.SWEEP_EN n = 0 ∨ s.configured n = false ∨ s.powered n = false ∨ s.inReset n = true →
      exec (.sweepStep n) s = .next s) ∧
    (s.rd ST_MEM_CTRL.SWEEP_EN n ≠ 0 → s.configured n = true → s.powered n = true → s.inReset n = false →
      (∀ k, k < 18 → s.unitErr n k (Tab.get 0 (s.stope n).sweep k) = 0) → ∃ t, exec (.sweepStep n) s = .next t ∧
      (∀ k, k < 18 → Tab.get 0 (t.stope n).sweep k = (Tab.get 0 (s.stope n).sweep k + 1) % unitsOf k) ∧
      { t with stopes := s.stopes } = s) ∧
    (s.bit ST_MEM_JRNL.ARMED m n = true → ∃ t, exec (.copyStarved n m) s = .next t ∧
      t = { s with winder := { s.winder with holdReq := s.winder.holdReq ++ [(n, true)] } }) ∧
    (s.bit ST_MEM_JRNL.ARMED m n = false → exec (.copyStarved n m) s = .next s) ∧
    (∀ d, ∃ t, exec (.memInjectArm n m d) s = .next t ∧ t.rd ST_MEM_CTRL.INJ_MEM n = m ∧ t.rd ST_MEM_CTRL.INJ_DOUBLE n = b2n d ∧
      t.rd ST_MEM_CTRL.INJ_ARM n = 1 ∧
      s.regsKeptBut t [ST_MEM_CTRL.INJ_MEM.key n, ST_MEM_CTRL.INJ_DOUBLE.key n, ST_MEM_CTRL.INJ_ARM.key n] ∧
      { t with regs := s.regs } = s) ∧
    (m < 16 → s.inUse n = false → exec (.binQueueMove n m) s = .next s) ∧
    (m < 16 → s.inUse n = true → (s.stope n).bqmode m = 2 → 0 < (s.binEnd n m).grant → 0 < ((s.stope n).queue m).count →
      (s.binEnd n m).run.length < 16 → (∀ w ∈ (s.binEnd n m).run, w.2 = false) →
      s.unitErr n m (((s.stope n).queue m).rp / 2) = 0 → ∃ t, exec (.binQueueMove n m) s = .next t ∧
      t.binEnd n m = { s.binEnd n m with
        run := (s.binEnd n m).run ++ [(half (s.unitRaw n m (((s.stope n).queue m).rp / 2)) (((s.stope n).queue m).rp % 2),
          Tab.get false (s.stope n).ports.lastMark ⟨0, m, ((s.stope n).queue m).rp⟩)],
        grant := (s.binEnd n m).grant - 1 } ∧
      (t.stope n).queue m = { (s.stope n).queue m with
        rp := (((s.stope n).queue m).rp + 1) % 2048, count := ((s.stope n).queue m).count - 1 }) ∧
    (∀ w r, m < 16 → s.inUse n = true → (s.stope n).bqmode m = 3 → (s.binEnd n m).inbuf = w :: r → ((s.stope n).queue m).count < 2048 →
      s.journalFull n m (((s.stope n).queue m).wp / 2) = false → ∃ t, exec (.binQueueMove n m) s = .next t ∧
      (t.binEnd n m).inbuf = r ∧ (t.stope n).queue m = { (s.stope n).queue m with
        wp := (((s.stope n).queue m).wp + 1) % 2048, count := ((s.stope n).queue m).count + 1 }) ∧
    (∀ err, m < 16 → m ∈ (s.stope n).levelOut → ∃ t, exec (.levelIrqResponse n m err) s = .next t ∧
      t.stope n = { s.stope n with levelOut := (s.stope n).levelOut.erase m } ∧
      t.rd ST_BQ_STATUS.WRITE_FAIL n m = (if err then 1 else s.rd ST_BQ_STATUS.WRITE_FAIL n m) ∧
      s.regsKeptBut t [ST_BQ_STATUS.WRITE_FAIL.key n m] ∧ { t with regs := s.regs, stopes := s.stopes } = s) ∧
    (s.sampler.draining = none → exec (.corerCopyUnit n m false) s = .next s ∧ exec (.journalStore n m false) s = .next s) ∧
    (∀ slot, s.sampler.draining = some slot → s.bit ST_MEM_JRNL.ARMED m n = true → ((s.stope n).journal m).fifo = [] →
      ((s.stope n).journal m).journalled = [] → ((s.stope n).journal m).copyPtr < unitsOf m →
      s.unitErr n m ((s.stope n).journal m).copyPtr = 0 →
      s.journalled (s.unitPlace slot n m ((s.stope n).journal m).copyPtr / 128 * 128) = false → ∃ t, exec (.corerCopyUnit n m false) s = .next t ∧
      t.rd CR_COUNTS.UNITS (n / 160) = min (s.rd CR_COUNTS.UNITS (n / 160) + 1) (2 ^ 32 - 1) ∧
      ((t.stope n).journal m).copyPtr = ((s.stope n).journal m).copyPtr + 1 ∧
      Tab.get 0 (t.slotData slot).mems ⟨m, n, ((s.stope n).journal m).copyPtr⟩ = s.unitRaw n m ((s.stope n).journal m).copyPtr) ∧
    (∀ slot e r, s.sampler.draining = some slot → ((s.stope n).journal m).fifo = e :: r → e.old < 2 ^ 64 → e.unit < 2 ^ 14 → e.mem = m →
      s.journalled (s.unitPlace slot n m e.unit / 128 * 128) = false →
      ∃ t, exec (.journalStore n m false) s = .next t ∧
      t.rd CR_COUNTS.JOURNAL (n / 160) = min (s.rd CR_COUNTS.JOURNAL (n / 160) + 1) (2 ^ 32 - 1) ∧
      ((t.stope n).journal m).fifo = r ∧ Tab.get 0 (t.slotData slot).mems ⟨m, n, e.unit⟩ = e.old)

/-- The loader's control (06 R164, R166, R169 to R171, R175, R176). START outside IDLE, on a halted part, or from another master while the
diagnostic load runs sets `START_ERR` and changes nothing else; any other clears the last result and begins a load in HEADER. ABORT in
HEADER, LOADING or FINISHING begins the abort with the next byte it would have read, and in another state has no effect. An extent push that
breaks a rule of R164 sets `EXT_ERR` and leaves the FIFO; any other enters at its end, and the counts follow. Bytes of the extent being read
join the stream (those of a GALLERY extent are read by the control NI, 64 at a time, R165); a failed read aborts with SOURCE; the end of the `LAST` extent inside the header aborts with END at the bytes received.
The end of an abort records the error and its offset, flushes the FIFO, sets `FAILED` and unconfigures the set, whose frames read 0.
The deadline aborts a host load and turns to the diagnostic image; a good section is started from flash, a bad one gives way to the other
image's and at the second failure sets `DIAG_FAIL`. -/
def Obligations.LoadControl : Prop :=
  ∀ s : State,
    (∀ fm, (s.rd CF_LD_STATUS.STATE ≠ 0 ∨ s.halted = true ∨ (s.loader.diag.isSome = true ∧ fm = false)) → ∃ t, exec (.start fm) s = .next t ∧
      t.rd CF_LD_STATUS.START_ERR = 1 ∧ s.regsKeptBut t [CF_LD_STATUS.START_ERR.key] ∧ { t with regs := s.regs } = s) ∧
    (∀ fm, s.rd CF_LD_STATUS.STATE = 0 → s.halted = false → (s.loader.diag = none ∨ fm = true) → ∃ t, exec (.start fm) s = .next t ∧
      t.rd CF_LD_STATUS.STATE = 1 ∧ t.rd CF_LD_STATUS.ERR = 0 ∧ t.rd CF_LD_PROGRESS.SEGS = 0 ∧ t.rd CF_LD_PROGRESS.FRAMES = 0 ∧
      t.loader.extents = s.loader.extents ∧ t.loader.received = 0 ∧ t.loader.header = none ∧
      s.regsKeptBut t [CF_LD_STATUS.STATE.key, CF_LD_STATUS.ERR.key, CF_LD_PROGRESS.SEGS.key, CF_LD_PROGRESS.FRAMES.key] ∧
      { t with regs := s.regs, loader := s.loader } = s) ∧
    (1 ≤ s.rd CF_LD_STATUS.STATE → s.rd CF_LD_STATUS.STATE ≤ 3 → ∃ t, exec .abort s = .next t ∧ t.rd CF_LD_STATUS.STATE = 4 ∧
      t.loader.abort = some (15, s.loader.received) ∧ s.regsKeptBut t [CF_LD_STATUS.STATE.key] ∧
      { t with regs := s.regs, loader := s.loader } = s) ∧
    (s.rd CF_LD_STATUS.STATE = 0 ∨ 4 ≤ s.rd CF_LD_STATUS.STATE → exec .abort s = .next s) ∧
    (∀ len space last fm, (s.rd CF_EXT_ADDR.ADDR % 64 ≠ 0 ∨ len = 0 ∨ (last = false ∧ len % 64 ≠ 0) ∨ 64 ≤ s.loader.extents.length ∨
        3 ≤ space ∨ (space = 2 ∧ fm = false) ∨ s.loader.lastPushed = true) → ∃ t, exec (.extentPush len space last fm) s = .next t ∧
      t.rd CF_LD_STATUS.EXT_ERR = 1 ∧ s.regsKeptBut t [CF_LD_STATUS.EXT_ERR.key] ∧ { t with regs := s.regs } = s) ∧
    (∀ len space last fm, s.rd CF_EXT_ADDR.ADDR % 64 = 0 → len ≠ 0 → (last = true ∨ len % 64 = 0) → s.loader.extents.length < 64 →
        space < 3 → (space = 2 → fm = true) → s.loader.lastPushed = false → ∃ t, exec (.extentPush len space last fm) s = .next t ∧
      t.loader = { s.loader with
        extents := s.loader.extents ++ [⟨s.rd CF_EXT_ADDR.ADDR, len, space, last, 0⟩], lastPushed := last } ∧
      t.rd CF_EXT_STATUS.HELD = s.loader.extents.length + 1 ∧ t.rd CF_EXT_STATUS.FREE = 63 - s.loader.extents.length ∧
      s.regsKeptBut t [CF_EXT_STATUS.HELD.key, CF_EXT_STATUS.FREE.key] ∧ { t with regs := s.regs, loader := s.loader } = s) ∧
    (∀ (b : List Nat) e r, s.loader.extents = e :: r → (s.rd CF_LD_STATUS.STATE = 1 ∨ s.rd CF_LD_STATUS.STATE = 2) → ∃ t,
      exec (.extentReadData b true) s = .next t ∧ t.rd CF_LD_STATUS.STATE = 4 ∧ t.loader.abort = some (13, s.loader.received) ∧
      s.regsKeptBut t [CF_LD_STATUS.STATE.key] ∧ { t with regs := s.regs, loader := s.loader } = s) ∧
    (∀ (b : List Nat) e r, s.loader.extents = e :: r → (s.rd CF_LD_STATUS.STATE = 1 ∨ s.rd CF_LD_STATUS.STATE = 2) → e.space ≠ 1 →
      e.taken + b.length < e.len → b.length ≤ s.loader.room → s.loader.lastDone = false → ∃ t, exec (.extentReadData b false) s = .next t ∧
      t.loader.stream = s.loader.stream ++ b.map (fun x => x % 256) ∧ t.loader.extents = { e with taken := e.taken + b.length } :: r ∧
      t.rd CF_LD_STATUS.STATE = s.rd CF_LD_STATUS.STATE ∧ s.regsKeptBut t [CF_EXT_STATUS.HELD.key, CF_EXT_STATUS.FREE.key] ∧
      { t with regs := s.regs, loader := s.loader } = s) ∧
    (∀ (b : List Nat) e r m, s.loader.extents = e :: r → (s.rd CF_LD_STATUS.STATE = 1 ∨ s.rd CF_LD_STATUS.STATE = 2) → e.space = 1 →
      m = min (min b.length s.loader.room) 4096 → e.taken + m < e.len → s.agentBad (e.addr + e.taken) m = false → s.loader.lastDone = false →
      ∃ t, exec (.extentReadData b false) s = .next t ∧ t.loader.stream = s.loader.stream ++ s.loadBytes (e.addr + e.taken) m ∧
      t.loader.extents = { e with taken := e.taken + m } :: r ∧ t.sent.length = s.sent.length + (m + 63) / 64) ∧
    (∀ (b : List Nat) e r, s.loader.extents = e :: r → s.rd CF_LD_STATUS.STATE = 1 → e.space ≠ 1 → e.taken + b.length = e.len →
      b.length ≤ s.loader.room → e.last = true → s.loader.received + b.length < 256 → ∃ t,
      exec (.extentReadData b false) s = .next t ∧ t.rd CF_LD_STATUS.STATE = 4 ∧
      t.loader.abort = some (14, s.loader.received + b.length)) ∧
    (∀ err pos, s.loader.abort = some (err, pos) → err < 32 → pos < 2 ^ 64 → s.loader.diag = none → ∃ t, exec .abortDone s = .next t ∧
      t.rd CF_LD_STATUS.ERR = err ∧ t.rd CF_LD_ERRPOS.POS = pos ∧ t.rd CF_LD_STATUS.FAILED = 1 ∧ t.rd CF_LD_STATUS.STATE = 0 ∧
      t.loader.extents = [] ∧
      (∀ n ∈ s.loader.set, t.vec CF_LOADING.LOADING n = false ∧ t.vec CF_CONFIGURED.CONF n = false ∧
        ∀ f w, t.frameWord n f w = 0 ∧ t.frameMask n f w = 0)) ∧
    (s.loader.abort = none → exec .abortDone s = .next s) ∧
    (s.rd FM_LOAD_DEADLINE.RUNNING = 0 → exec .loadDeadline s = .next s) ∧
    (s.rd FM_LOAD_DEADLINE.RUNNING ≠ 0 → ∃ t, exec .loadDeadline s = .next t ∧ t.rd FM_LOAD_DEADLINE.RUNNING = 0 ∧
      t.rd FM_LOAD_DEADLINE.EXPIRED = 1 ∧ t.loader.diag = some ⟨s.rd FM_BOOT.IMAGE, false, false⟩ ∧
      (1 ≤ s.rd CF_LD_STATUS.STATE → s.rd CF_LD_STATUS.STATE ≤ 3 → t.rd CF_LD_STATUS.STATE = 4 ∧
        t.loader.abort = some (16, s.loader.received)) ∧
      (s.rd CF_LD_STATUS.STATE = 0 → t.rd CF_LD_STATUS.STATE = 0 ∧ t.loader.abort = s.loader.abort)) ∧
    (∀ d ofs len, s.loader.diag = some d → d.loading = false → s.rd CF_LD_STATUS.STATE = 0 → ∃ t,
      exec (.diagSectionCheck true ofs len) s = .next t ∧ t.rd CF_LD_STATUS.STATE = 1 ∧
      t.loader.extents = [⟨d.image * 0x8000000 + ofs, len, 2, true, 0⟩] ∧ t.loader.diag = some { d with loading := true }) ∧
    (∀ d ofs len, s.loader.diag = some d → d.loading = false → s.rd CF_LD_STATUS.STATE = 0 → ∃ t,
      exec (.diagSectionCheck false ofs len) s = .next t ∧
      (d.second = true → t.rd CF_LD_STATUS.DIAG_FAIL = 1 ∧ t.loader.diag = none) ∧
      (d.second = false → t.loader.diag = some ⟨1 - d.image, true, false⟩ ∧ t.regs = s.regs)) ∧
    (∀ good ofs len, s.loader.diag = none → exec (.diagSectionCheck good ofs len) s = .next s)

/-- A stream in the loader. In HEADER, with its 256 bytes received, a header that passes R153 is accepted (06 R167): LOADING, with its set
marked loading and unconfigured; one that fails aborts with the code of the first check failed, at offset 0. A segment header as R154 asks
is staged and rolls the key (R155); any other aborts with SEGMENT at its offset. When the oldest segment not yet open has arrived, its tag is
checked (the cipher is a constant of the configuration, log entry 85): a match releases its plaintext and counts in `SEGS`; a mismatch aborts
with AUTH. A frame that the decode accepts is written with fresh check bits, counted, and its shadow writes issued (R172); one that it
rejects aborts with DECODE (what depends on several frames is checked at a stope's last, log entry 90). A shadow write in error aborts with
SHADOW. With END accepted and nothing outstanding the load completes (R168). -/
def Obligations.LoadStream : Prop :=
  ∀ s : State,
    (∀ h, h = StreamHeader.ofBytes s.loader.stream → s.rd CF_LD_STATUS.STATE = 1 → 256 ≤ s.loader.received → s.headerError h ≠ 0 →
      ∃ t, exec (.streamHeader .staged) s = .next t ∧
      t.rd CF_LD_STATUS.STATE = 4 ∧ t.loader.abort = some (s.headerError h, 0) ∧ s.regsKeptBut t [CF_LD_STATUS.STATE.key] ∧
      { t with regs := s.regs, loader := s.loader } = s) ∧
    (∀ h, h = StreamHeader.ofBytes s.loader.stream → s.rd CF_LD_STATUS.STATE = 1 → 256 ≤ s.loader.received → s.loader.lastDone = false →
      s.headerError h = 0 → ∃ t,
      exec (.streamHeader .staged) s = .next t ∧ t.rd CF_LD_STATUS.STATE = 2 ∧ t.loader.header = some h ∧ t.loader.set = streamSet h ∧
      t.loader.key = (if h.keysel = 0 then Config.deviceStreamKey else s.crypto.owner.getD 0) ∧ t.loader.pos = 256 ∧
      (∀ n ∈ streamSet h, t.vec CF_LOADING.LOADING n = true ∧ t.vec CF_CONFIGURED.CONF n = false) ∧
      (h.kind = 0 → t.rd CF_LOADED.VALID = 0 ∧ ∀ n, n < 640 → t.vec CF_CONFIGURED.CONF n = false)) ∧
    (s.rd CF_LD_STATUS.STATE ≠ 1 → exec (.streamHeader .staged) s = .next s) ∧
    (∀ (g : StreamHeader) (h : SegHeader), h = SegHeader.ofBytes (s.loader.stream.drop s.loader.pos) → s.loader.header = some g →
      s.rd CF_LD_STATUS.STATE = 2 → s.loader.ended = false → (s.loader.nextSeg < g.segments ∨ g.segments = 0) →
      s.loader.segs.length < 4 → s.loader.pos + 32 ≤ s.loader.received → s.loader.lastDone = false →
      ((g.segments ≠ 0 ∧ h.index = s.loader.nextSeg ∧ h.plen ≠ 0 ∧ h.plen ≤ 1048576 ∧ h.plen % 16 = 0 ∧ h.sflags < 2 ∧ h.reserved = 0 ∧
        bitAt h.sflags 0 = decide (s.loader.nextSeg + 1 = g.segments) ∧
        (bitAt h.sflags 0 = true → s.loader.pos + 48 + h.plen = g.length)) → exec (.segmentHeader .staged) s = .next { s with loader := { s.loader with
          segs := s.loader.segs ++ [⟨s.loader.nextSeg, s.loader.pos, h.plen, segmentKey s.loader.key h.nonce g.streamId s.loader.nextSeg,
            bitAt h.sflags 0, none⟩],
          nextSeg := s.loader.nextSeg + 1, pos := s.loader.pos + 48 + h.plen,
          key := segmentKey s.loader.key h.nonce g.streamId s.loader.nextSeg } }) ∧
      ((g.segments = 0 ∨ h.index ≠ s.loader.nextSeg ∨ h.plen = 0 ∨ 1048576 < h.plen ∨ h.plen % 16 ≠ 0 ∨ 2 ≤ h.sflags ∨ h.reserved ≠ 0 ∨
        bitAt h.sflags 0 ≠ decide (s.loader.nextSeg + 1 = g.segments) ∨
        (bitAt h.sflags 0 = true ∧ s.loader.pos + 48 + h.plen ≠ g.length)) → ∃ t, exec (.segmentHeader .staged) s = .next t ∧
        t.rd CF_LD_STATUS.STATE = 4 ∧ t.loader.abort = some (7, s.loader.pos))) ∧
    (∀ g h, firstClosed s.loader.segs = some g → s.loader.header = some h → s.rd CF_LD_STATUS.STATE = 2 →
      g.start + 48 + g.plen ≤ s.loader.received →
      ∃ t, exec (.segmentTagCheck .staged) s = .next t ∧ { t with regs := s.regs, loader := s.loader } = s ∧
      (match s.loader.openSegment h.streamId g with
       | some p => t.rd CF_LD_PROGRESS.SEGS = (s.rd CF_LD_PROGRESS.SEGS + 1) % 2 ^ 32 ∧ s.regsKeptBut t [CF_LD_PROGRESS.SEGS.key] ∧
           t.loader = { s.loader with segs := s.loader.segs.map (fun q => if q = g then { g with body := some p } else q) }
       | none => t.rd CF_LD_STATUS.STATE = 4 ∧ t.loader.abort = some (8, g.start))) ∧
    (∀ k j h rej items, k < 4 → s.loader.inSeam k = [j] → s.loader.fifo = [j] → s.loader.stalled = [] → s.loader.header = some h →
      (s.rd CF_LD_STATUS.STATE = 2 ∨ s.rd CF_LD_STATUS.STATE = 3) → items = frameItems j.stope j.frame j.words →
      rej = (items.any (fun i => i.rejected h.f) ||
        (decide (j.frame = 4607) && (items.foldl StopeCfg.apply (s.stope j.stope).cfg).rejected h.f)) → ∃ t,
      exec (.frameWritten k) s = .next t ∧
      (rej = true → t.rd CF_LD_STATUS.STATE = 4 ∧ t.loader.abort = some (12, j.pos)) ∧
      (rej = false →
        (∀ w, w < 64 → t.frameWord j.stope j.frame w = j.words.getD w 0 % 2 ^ 64 ∧ t.frameMask j.stope j.frame w = 0) ∧
        t.rd CF_LD_PROGRESS.FRAMES = (s.rd CF_LD_PROGRESS.FRAMES + 1) % 2 ^ 32 ∧
        t.rd CF_SEAM_STATUS.WRITTEN k = (s.rd CF_SEAM_STATUS.WRITTEN k + 1) % 2 ^ 32 ∧ t.loader.fifo = [] ∧
        t.loader.shadowOut = s.loader.shadowOut ++ List.replicate 8 j.pos)) ∧
    (∀ p r, s.loader.shadowOut = p :: r → (s.rd CF_LD_STATUS.STATE = 2 ∨ s.rd CF_LD_STATUS.STATE = 3) →
      exec (.shadowWriteAck false) s = .next { s with loader := { s.loader with shadowOut := r } } ∧
      ∃ t, exec (.shadowWriteAck true) s = .next t ∧ t.rd CF_LD_STATUS.STATE = 4 ∧ t.loader.abort = some (6, p)) ∧
    (∀ h, s.loader.header = some h → s.rd CF_LD_STATUS.STATE = 3 → s.loader.segs = [] → s.loader.fifo = [] → s.loader.stalled = [] →
      s.loader.shadowOut = [] → h.streamId < 2 ^ 64 → h.f < 8 → h.k < 32 → h.nmin < 128 → ∃ t, exec .loadComplete s = .next t ∧
      t.rd CF_LD_STATUS.STATE = 0 ∧ t.rd CF_LD_STATUS.DONE = 1 ∧ t.rd CF_LOADED_ID.ID = h.streamId ∧
      (h.kind = 0 → t.rd CF_LOADED.VALID = 1 ∧ t.rd CF_LOADED.F = h.f ∧ t.rd CF_LOADED.K = h.k ∧ t.rd CF_LOADED.NMIN = h.nmin ∧
        t.rd CF_LOADED.DIAG = b2n s.loader.diag.isSome ∧ t.rd WD_TALLY.TALLY = 0 ∧ t.rd FM_LOAD_DEADLINE.RUNNING = 0) ∧
      (∀ n ∈ s.loader.set, t.vec CF_LOADING.LOADING n = false ∧ t.vec CF_CONFIGURED.CONF n = true))

/-- The commands of a stream in LOADING (06 R158 to R163), read from the front of the oldest segment, released, with no frame stalled (R165). A
command word of an unknown opcode aborts with COMMAND at its offset whichever command was expected, and so does a reserved field, a `COUNT`
out of range, data past the segment's end, and an unused `ADDR` or `ARG` not 0 (these two the model's choice, log entry 95). A NOP takes its
place and changes nothing else; a WRITE of a stope outside the set aborts with OUTSIDE, one of no frame's address with SEQUENCE, and
one of the next frame of a stope of the set enters it for its seam; a MEMINIT writes its unit with fresh check bits; an END of the last
segment with the header's count, all dispatched, goes to FINISHING, and any other END aborts with END. -/
def Obligations.IbeusCommands : Prop :=
  ∀ (s : State) (g : Segment) (r : List Segment) (b : List Nat) (h : IbeusHdr) (pos : Nat),
    s.loader.segs = g :: r → g.body = some b → h = IbeusHdr.ofBytes b → pos = g.start + 32 + (g.plen - b.length) → s.loader.stalled = [] →
    s.rd CF_LD_STATUS.STATE = 2 → s.loader.ended = false →
    (∀ c : Instr, (c = .nop .staged ∨ c = .write .staged .staged ∨ c = .meminit .staged .staged ∨ c = .ibeusEnd .staged) → h.op ∉ [0x00, 0x01, 0x02, 0x0F] → ∃ t, exec c s = .next t ∧
      t.rd CF_LD_STATUS.STATE = 4 ∧ t.loader.abort = some (9, pos)) ∧
    (∀ c : Instr, ((c = .nop .staged ∧ h.op = 0 ∧ (h.addr ≠ 0 ∨ h.arg ≠ 0 ∨ b.length < 16 + 16 * h.count ∨ h.reserved = true)) ∨
        (c = .write .staged .staged ∧ h.op = 1 ∧ (h.count = 0 ∨ 2047 < h.count ∨ h.arg ≠ 0 ∨ b.length < 16 + 512 * h.count ∨ h.reserved = true)) ∨
        (c = .meminit .staged .staged ∧ h.op = 2 ∧ (h.count = 0 ∨ 16384 < h.count ∨ h.arg ≠ 0 ∨ b.length < 16 + 8 * h.count ∨ h.reserved = true)) ∨
        (c = .ibeusEnd .staged ∧ h.op = 15 ∧ (h.count ≠ 0 ∨ h.addr ≠ 0 ∨ b.length < 16 ∨ h.reserved = true))) →
      ∃ t, exec c s = .next t ∧ t.rd CF_LD_STATUS.STATE = 4 ∧ t.loader.abort = some (9, pos)) ∧
    (h.op = 0 → h.reserved = false → h.addr = 0 → h.arg = 0 → 16 + 16 * h.count < b.length →
      exec (.nop .staged) s = .next { s with loader := { s.loader with segs := { g with body := some (b.drop (16 + 16 * h.count)) } :: r } }) ∧
    (∀ n f, h.op = 1 → h.reserved = false → 1 ≤ h.count → h.count ≤ 2047 → h.arg = 0 → 16 + 512 * h.count ≤ b.length →
      frameAddr h.addr = some (n, f) → n ∉ s.loader.set →
      ∃ t, exec (.write .staged .staged) s = .next t ∧ t.rd CF_LD_STATUS.STATE = 4 ∧ t.loader.abort = some (10, pos)) ∧
    (h.op = 1 → h.reserved = false → 1 ≤ h.count → h.count ≤ 2047 → h.arg = 0 → 16 + 512 * h.count ≤ b.length → frameAddr h.addr = none →
      ∃ t, exec (.write .staged .staged) s = .next t ∧ t.rd CF_LD_STATUS.STATE = 4 ∧ t.loader.abort = some (11, pos)) ∧
    (∀ n f, h.op = 1 → h.reserved = false → h.count = 1 → h.arg = 0 → 16 + 512 < b.length → frameAddr h.addr = some (n, f) → n ∈ s.loader.set →
      Tab.get 0 s.loader.nextFrame n = f → f < 4608 → (s.loader.inSeam (n / 160)).length < 512 →
      ∃ t, exec (.write .staged .staged) s = .next t ∧ t.loader.fifo = s.loader.fifo ++ [⟨n, f, wordsOf ((b.drop 16).take 512) 64, pos⟩] ∧
      t.loader.stalled = [] ∧ t.loader.segs = { g with body := some (b.drop 528) } :: r ∧
      Tab.get 0 t.loader.nextFrame n = f + 1 ∧ t.loader.dispatched = s.loader.dispatched + 1 ∧ t.rd CF_LD_STATUS.STATE = 2) ∧
    (∀ n m u, h.op = 2 → h.reserved = false → h.count = 1 → h.arg = 0 → 32 < b.length →
      h.addr = n / 160 * 2 ^ 30 + n % 160 * 2 ^ 22 + m * 2 ^ 17 + u → n < 640 → n ∈ s.loader.set → m < 18 → u < unitsOf m →
      ∃ t, exec (.meminit .staged .staged) s = .next t ∧ t.unitRaw n m u = le ((b.drop 16).take 8) 0 8 ∧ t.unitErr n m u = 0 ∧ t.regs = s.regs ∧
      t.loader = { s.loader with segs := { g with body := some (b.drop 32) } :: r }) ∧
    (∀ f : StreamHeader, h.op = 15 → h.reserved = false → g.last = true → s.loader.header = some f → h.count = 0 → h.addr = 0 →
      h.arg = f.frames → s.loader.dispatched = f.frames → b.length = 16 → ∃ t, exec (.ibeusEnd .staged) s = .next t ∧ t.rd CF_LD_STATUS.STATE = 3 ∧
      t.loader = { s.loader with segs := r, ended := true } ∧ s.regsKeptBut t [CF_LD_STATUS.STATE.key]) ∧
    (∀ f : StreamHeader, h.op = 15 → h.reserved = false → s.loader.header = some f → h.count = 0 → h.addr = 0 → 16 ≤ b.length →
      (g.last = false ∨ h.arg ≠ f.frames ∨ h.arg ≠ s.loader.dispatched) → ∃ t, exec (.ibeusEnd .staged) s = .next t ∧
      t.rd CF_LD_STATUS.STATE = 4 ∧ t.loader.abort = some (14, pos))

/-- Frame readback (06 R174, R178). A request while one runs, or for a frame of another seam or out of range, is ignored and sets `RB_ERR`;
any other sets `BUSY`. Its end clears `BUSY`, and a frame of data bits without an upset reads back word for word, nothing corrected, and
changes no frame. -/
def Obligations.FrameReadback : Prop :=
  ∀ (s : State) (k a : Nat), k < 4 → a < 2 ^ 32 →
    (s.rd CF_RB_STATUS.BUSY k ≠ 0 → ∃ t, exec (.readback k a) s = .next t ∧ t.rd CF_RB_STATUS.RB_ERR k = 1 ∧
      s.regsKeptBut t [CF_RB_STATUS.RB_ERR.key k] ∧ { t with regs := s.regs } = s) ∧
    (s.rd CF_RB_STATUS.BUSY k = 0 → (frameAddr a).map (fun p => p.1 / 160) ≠ some k → ∃ t, exec (.readback k a) s = .next t ∧
      t.rd CF_RB_STATUS.RB_ERR k = 1 ∧ t.rd CF_RB_STATUS.BUSY k = 0 ∧ { t with regs := s.regs } = s) ∧
    (∀ n f, s.rd CF_RB_STATUS.BUSY k = 0 → frameAddr a = some (n, f) → n / 160 = k → ∃ t, exec (.readback k a) s = .next t ∧
      t.rd CF_RB_STATUS.BUSY k = 1 ∧ t.rd CF_RB_CTRL.FADDR k = a ∧ s.regsKeptBut t [CF_RB_STATUS.BUSY.key k, CF_RB_CTRL.FADDR.key k] ∧
      { t with regs := s.regs, loader := s.loader } = s) ∧
    (∀ n f, s.loader.readback.lookup k = some a → frameAddr a = some (n, f) → f < 4320 → (∀ w, w < 64 → s.frameMask n f w = 0) → ∃ t,
      exec (.readbackDone k) s = .next t ∧ t.rd CF_RB_STATUS.BUSY k = 0 ∧ t.rd CF_RB_STATUS.CORRECTED k = 0 ∧
      t.rd CF_RB_STATUS.UNCORR k = 0 ∧ (∀ w, w < 64 → t.rd CF_RB_DATA.DATA k w = s.frameWord n f w % 2 ^ 64) ∧
      { t with regs := s.regs, loader := s.loader } = s)

/-- Isolation and release (07 R184 to R186, R205). A request with both bits set, or for a stope POWERED DOWN or in RESET, sets `ISO_ERR` and
changes nothing else; so does a release of a stope that is not configured, LOADING, in REFILL, off the PHASE source or switching it. An
accepted request sets its pending bit where the stope is not in that state already and cancels the other kind's. Between strokes a pending
isolation sets the isolation bit; a pending release clears it and brings the stope's divider to phase 0 of slot 0; during a stroke neither
takes effect. A clear of `SPOIL` clears its causes too. -/
def Obligations.Isolation : Prop :=
  ∀ (s : State) (n : Nat), n < 640 →
    (∀ both, (both = true ∨ s.stopeState n = 5 ∨ s.stopeState n = 4) → ∃ t, exec (.isolate n both) s = .next t ∧
      t.rd ST_STATUS.ISO_ERR n = 1 ∧ s.regsKeptBut t [ST_STATUS.ISO_ERR.key n] ∧ { t with regs := s.regs } = s) ∧
    (s.stopeState n ≠ 5 → s.stopeState n ≠ 4 → ∃ t, exec (.isolate n false) s = .next t ∧
      t.rd ST_STATUS.ISO_PEND n = (if s.isolated n then s.rd ST_STATUS.ISO_PEND n else 1) ∧ t.rd ST_STATUS.REL_PEND n = 0 ∧
      s.regsKeptBut t [ST_STATUS.ISO_PEND.key n, ST_STATUS.REL_PEND.key n] ∧ { t with regs := s.regs } = s) ∧
    (∀ both, (both = true ∨ s.stopeState n = 5 ∨ s.stopeState n = 4 ∨ s.configured n = false ∨ s.loading n = true ∨
      (s.stope n).refill.isSome = true ∨ s.rd ST_TREE_STATUS.SRC_CUR n ≠ 0 ∨ s.rd ST_TREE_STATUS.SWITCHING n ≠ 0) →
      ∃ t, exec (.release n both) s = .next t ∧
      t.rd ST_STATUS.ISO_ERR n = 1 ∧ s.regsKeptBut t [ST_STATUS.ISO_ERR.key n] ∧ { t with regs := s.regs } = s) ∧
    (s.stopeState n ≠ 5 → s.stopeState n ≠ 4 → s.configured n = true → s.loading n = false → (s.stope n).refill = none →
      s.rd ST_TREE_STATUS.SRC_CUR n = 0 → s.rd ST_TREE_STATUS.SWITCHING n = 0 → ∃ t, exec (.release n false) s = .next t ∧
      t.rd ST_STATUS.REL_PEND n = (if s.isolated n then 1 else s.rd ST_STATUS.REL_PEND n) ∧ t.rd ST_STATUS.ISO_PEND n = 0 ∧
      s.regsKeptBut t [ST_STATUS.ISO_PEND.key n, ST_STATUS.REL_PEND.key n] ∧ { t with regs := s.regs } = s) ∧
    (s.winder.inStroke = true → exec (.isoEffect n) s = .next s) ∧
    (s.winder.inStroke = false → s.rd ST_STATUS.ISO_PEND n ≠ 0 → ∃ t, exec (.isoEffect n) s = .next t ∧
      t.rd ST_STATUS.ISO_PEND n = 0 ∧ t.rd ST_STATUS.ISOLATED n = 1) ∧
    (s.winder.inStroke = false → s.rd ST_STATUS.ISO_PEND n = 0 → s.rd ST_STATUS.REL_PEND n ≠ 0 → ∃ t, exec (.isoEffect n) s = .next t ∧
      t.rd ST_STATUS.REL_PEND n = 0 ∧ t.rd ST_STATUS.ISOLATED n = 0 ∧ t.rd ST_TREE_STATUS.LOCAL_CTX n = 0 ∧
      t.rd ST_TREE_STATUS.LOCAL_PHASE n = 0 ∧ t.stope n = { s.stope n with usePending := true } ∧
      { t with regs := s.regs, stopes := s.stopes } = s) ∧
    (∃ t, exec (.spoilClear n) s = .next t ∧
      (∀ f ∈ [ST_SPOIL.SPOIL, ST_SPOIL.C_CORR, ST_SPOIL.C_REPAIR, ST_SPOIL.C_LOST, ST_SPOIL.C_SLIP, ST_SPOIL.C_MEMUE], t.rd f n = 0) ∧
      { t with regs := s.regs } = s)

/-- Column repair (03 R90, R92; 07 R202 to R204). A request for a stope that is neither ISOLATED nor UNCONFIGURED, for a position above 64, or
for the position in force sets `REP_ERR` and changes nothing else. An accepted one turns the state bits of every column from the lower
position upward OFF; the position of an unconfigured stope changes at once, an isolated stope enters REFILL, and its position changes when the
re-fill ends. A re-fill that fails leaves the stope unconfigured with `FRAME_LOST` set. Without a re-fill under way neither end does
anything. -/
def Obligations.ColumnRepair : Prop :=
  ∀ (s : State) (n pos : Nat), n < 640 →
    ((s.stopeState n ≠ 2 ∧ s.stopeState n ≠ 0) ∨ 64 < pos ∨ pos = s.rd ST_REPAIR.POS n → ∃ t, exec (.columnRepair n pos) s = .next t ∧
      t.rd ST_REPAIR.REP_ERR n = 1 ∧ s.regsKeptBut t [ST_REPAIR.REP_ERR.key n] ∧ { t with regs := s.regs } = s) ∧
    (s.stopeState n = 0 → pos ≤ 64 → pos ≠ s.rd ST_REPAIR.POS n → ∃ t, exec (.columnRepair n pos) s = .next t ∧
      t.rd ST_REPAIR.POS n = pos ∧ t.rd ST_REPAIR.IN_SERVICE n = 1 ∧
      (t.stope n).q = (s.stope n).q.filter (fun p => decide (p.1 / 8 / 16 % 64 < min pos (s.rd ST_REPAIR.POS n))) ∧
      (t.stope n).cfg = { (s.stope n).cfg with
        bits := (s.stope n).cfg.bits.filter (fun p => decide (p.1.unit / 16 % 64 < min pos (s.rd ST_REPAIR.POS n))) } ∧
      s.regsKeptBut t [ST_REPAIR.POS.key n, ST_REPAIR.IN_SERVICE.key n]) ∧
    (s.stopeState n = 2 → pos ≤ 64 → pos ≠ s.rd ST_REPAIR.POS n → ∃ t, exec (.columnRepair n pos) s = .next t ∧
      t.rd ST_REPAIR.REFILL n = 1 ∧ t.rd ST_REPAIR.POS n = s.rd ST_REPAIR.POS n ∧ (t.stope n).refill = some pos ∧
      (t.stope n).q = (s.stope n).q.filter (fun p => decide (p.1 / 8 / 16 % 64 < min pos (s.rd ST_REPAIR.POS n))) ∧
      (t.stope n).cfg = { (s.stope n).cfg with
        bits := (s.stope n).cfg.bits.filter (fun p => decide (p.1.unit / 16 % 64 < min pos (s.rd ST_REPAIR.POS n))) }) ∧
    ((s.stope n).refill = some pos → pos ≤ 64 → ∃ t, exec (.refillDone n) s = .next t ∧
      t.rd ST_REPAIR.POS n = pos ∧ t.rd ST_REPAIR.REFILL n = 0 ∧ t.rd ST_REPAIR.IN_SERVICE n = 1 ∧ (t.stope n).refill = none) ∧
    ((s.stope n).refill = some pos → ∃ t, exec (.refillShadowError n) s = .next t ∧
      t.rd ST_REPAIR.REFILL n = 0 ∧ t.rd ST_SCRUB.FRAME_LOST n = 1 ∧ t.configured n = false) ∧
    ((s.stope n).refill = none → exec (.refillDone n) s = .next s ∧ exec (.refillShadowError n) s = .next s)

/-- The stope port (01 R34; 07 R182, R183, R561). A response to a transaction of a stope in use or isolated is held with its data, error and
poison until it is presented; in any other state it is discarded. A target access of an impossible size is answered SIZE, one to a seam that
is not ready NOT READY (unless the Foreman sends it), and one to a stope not in use, or that serves no targets, TARGET; an accepted access
enters the target request register, or waits behind the one there. -/
def Obligations.StopePort : Prop :=
  ∀ (s : State) (n : Nat), n < 640 →
    (∀ tag status data poison, (s.stopeState n = 3 ∨ s.stopeState n = 2) → ∃ t,
      exec (.stopePortResponse n tag status data poison) s = .next t ∧
      t.stope n = { s.stope n with masters := (s.stope n).masters.map (fun m =>
        if m.tag = tag ∧ m.resp.isNone then { m with resp := some (data, decide (status ≠ 0), poison) } else m) } ∧
      { t with stopes := s.stopes } = s) ∧
    (∀ tag status data poison, s.stopeState n ≠ 3 → s.stopeState n ≠ 2 → ∃ t,
      exec (.stopePortResponse n tag status data poison) s = .next t ∧
      t.stope n = { s.stope n with masters := (s.stope n).masters.filter (fun m => decide (m.tag ≠ tag)) } ∧
      { t with stopes := s.stopes } = s) ∧
    (∀ (a : GalAccess) (off : Nat), a.addr = 0x010010000000 + n * 0x100000 + off → 0x10000 ≤ off → off < 0x100000 → a.posted = false →
      ((a.size = 0 ∨ 64 < a.addr % 64 + a.size) → ∃ t, exec (.stopePortTargetAccess a) s = .next t ∧
        t = { s with sent := s.sent ++ [Emission.response n a.src a.tag 5 0 false] }) ∧
      (0 < a.size → a.addr % 64 + a.size ≤ 64 → s.ready (26 + n / 160) = false → a.foreman = false → ∃ t,
        exec (.stopePortTargetAccess a) s = .next t ∧ t = { s with sent := s.sent ++ [Emission.response n a.src a.tag 4 0 false] }) ∧
      (0 < a.size → a.addr % 64 + a.size ≤ 64 → (s.ready (26 + n / 160) = true ∨ a.foreman = true) →
        (s.inUse n = false ∨ (s.stope n).cfg.target = false) → ∃ t,
        exec (.stopePortTargetAccess a) s = .next t ∧ t = { s with sent := s.sent ++ [Emission.response n a.src a.tag 1 0 false] })) ∧
    (∀ (a : GalAccess) (off : Nat), a.addr = 0x010010000000 + n * 0x100000 + off → 0x10000 ≤ off → off < 0x100000 → 0 < a.size →
      a.addr % 64 + a.size ≤ 64 → (s.ready (26 + n / 160) = true ∨ a.foreman = true) → s.inUse n = true → (s.stope n).cfg.target = true →
      ∃ t, exec (.stopePortTargetAccess a) s = .next t ∧ { t with stopes := s.stopes } = s ∧
        (let req : TargetAccess := ⟨a.write, off - 0x10000, (2 ^ a.size - 1) * 2 ^ (a.addr % 64), a.data % 2 ^ (8 * a.size), false, a.posted,
          a.src, a.tag⟩;
         ((s.stope n).target = none → t.stope n = { s.stope n with target := some req }) ∧
         ((s.stope n).target.isSome = true → t.stope n = { s.stope n with targetWait := (s.stope n).targetWait ++ [req] })))

/-- The scrubbers (07 R190 to R193, R198 to R200, R206). A scrubber that is disabled, paused or repairing reads nothing. A clean frame moves
it on to the next and changes no frame; a frame whose only upset is one bit of one word, the re-read agreeing, is corrected and counted; one
with a word it cannot correct, or a re-read that differs, goes to repair. A repair whose shadow read fails loses the frame; one of a stope
that has left its state is dropped; any other rewrites the frame from the shadow with fresh check bits. A refresh rewrites the three copies of the controls, counts those that
disagreed (one in which bits inverted runs nothing: the vote is the others'), and sets `PEER_FAULT` where the peer should have read frames and read none; the Foreman's restart of a faulty peer sets its
`RESTARTED`. A lost refresh is recorded. A write of the controls takes an interval below 32 as 32. An injection inverts the bits named, or
sets `INJ_ERR` where it names no word of the scrubber's seam. -/
def Obligations.Scrubbers : Prop :=
  ∀ (s : State) (i : Nat), i < 8 →
    (∀ ups rr rj, (s.rd SB_CTRL.EN i = 0 ∨ 2 ≤ s.rd SB_STATUS.STATE i ∨ (s.scrub i).repair.isSome = true) →
      exec (.scrubFrameRead i ups rr rj) s = .next s) ∧
    (∀ n f rr rj, s.rd SB_CTRL.EN i ≠ 0 → s.rd SB_STATUS.STATE i = 1 → (s.scrub i).repair = none → (s.scrub i).idle = false → s.nextFrame i = some (n, f) →
      f < 4319 → (∀ w, w < 64 → s.frameMask n f w = 0) → ∃ t, exec (.scrubFrameRead i [] rr rj) s = .next t ∧
      t.rd SB_PROGRESS.POS i = (s.rd SB_PROGRESS.POS i + 1) % 2 ^ 20 ∧
      (t.scrub i) = { s.scrub i with next := n % 160 * 4320 + f + 1, since := (s.scrub i).since + 1 } ∧
      s.regsKeptBut t [SB_PROGRESS.POS.key i] ∧ { t with regs := s.regs, scrubs := s.scrubs } = s) ∧
    (∀ n f b w rj, s.rd SB_CTRL.EN i ≠ 0 → s.rd SB_STATUS.STATE i = 1 → (s.scrub i).repair = none → (s.scrub i).idle = false → s.nextFrame i = some (n, f) →
      f < 4320 → w < 64 → b < 72 → (∀ v, v < 64 → s.frameMask n f v = 0) → rj = false → ∃ t,
      exec (.scrubFrameRead i [(w, 2 ^ b)] true rj) s = .next t ∧ t.frameMask n f w = 0 ∧
      t.rd ST_SCRUB.CORR_WORDS n = min (s.rd ST_SCRUB.CORR_WORDS n + 1) (2 ^ 16 - 1) ∧ t.rd ST_SCRUB.LAST_FRAME n = f) ∧
    (∀ n f b c w rr rj, s.rd SB_CTRL.EN i ≠ 0 → s.rd SB_STATUS.STATE i = 1 → (s.scrub i).repair = none → (s.scrub i).idle = false → s.nextFrame i = some (n, f) →
      w < 64 → b < 72 → c < 72 → b ≠ c → (∀ v, v < 64 → s.frameMask n f v = 0) → ∃ t,
      exec (.scrubFrameRead i [(w, 2 ^ b ^^^ 2 ^ c)] rr rj) s = .next t ∧ t.rd SB_STATUS.STATE i = 3 ∧ (t.scrub i).repair = some (n, f)) ∧
    ((s.scrub i).repair = none → exec (.shadowRepairRead i false false) s = .next s) ∧
    (∀ n f err rj, (s.scrub i).repair = some (n, f) → s.stopeState n ≠ 2 → s.stopeState n ≠ 3 → ∃ t,
      exec (.shadowRepairRead i err rj) s = .next t ∧ (t.scrub i).repair = none ∧ t.frames = s.frames ∧ t.frameErr = s.frameErr) ∧
    (∀ n f rj, (s.scrub i).repair = some (n, f) → (s.stopeState n = 2 ∨ s.stopeState n = 3) → ∃ t,
      exec (.shadowRepairRead i true rj) s = .next t ∧ t.rd ST_SCRUB.FRAME_LOST n = 1 ∧ t.frames = s.frames ∧ t.frameErr = s.frameErr) ∧
    (∀ n f, (s.scrub i).repair = some (n, f) → (s.stopeState n = 2 ∨ s.stopeState n = 3) → s.agentBad (s.shadowAddr n f) 512 = false →
      ∃ t, exec (.shadowRepairRead i false false) s = .next t ∧ (t.scrub i).repair = none ∧
      ∀ w, w < 64 → t.frameWord n f w = s.load (s.shadowAddr n f + 8 * w) 8 % 2 ^ 64 ∧ t.frameMask n f w = 0) ∧
    (∀ a b c, ∃ t, exec (.sbCtrlRefresh i ⟨a, b, c⟩) s = .next t ∧ t.rd SB_STATUS.REFRESH_LOST i = 0 ∧ (t.scrub i).flips = (0, 0, 0)) ∧
    (∀ p a, p = (if i % 2 = 0 then i + 1 else i - 1) → (s.scrub i).flips = (0, 0, 0) → s.rd SB_CTRL.EN p ≠ 0 → s.rd SB_STATUS.STATE p = 1 →
      (s.scrub p).since = 0 → ∃ t, exec (.sbCtrlRefresh i ⟨a, 0, 0⟩) s = .next t ∧
      t.rd SB_STATUS.PEER_FAULT i = 1 ∧ t.rd SB_STATUS.REFRESH_LOST i = 0 ∧
      t.rd SB_STATUS.VOTE_FIX i = min (s.rd SB_STATUS.VOTE_FIX i + (if a &&& 0xFFF03 = 0 then 0 else 1)) 255 ∧
      s.regsKeptBut t [SB_STATUS.PEER_FAULT.key i, SB_STATUS.REFRESH_LOST.key i, SB_STATUS.VOTE_FIX.key i] ∧
      { t with regs := s.regs, scrubs := s.scrubs } = s) ∧
    (∀ a b c, ∃ t, exec (.refreshLost ⟨i, a, b, c⟩) s = .next t ∧ t.rd SB_STATUS.REFRESH_LOST i = 1) ∧
    (∀ a, (s.scrub i).flips = (0, 0, 0) → ∃ t, exec (.refreshLost ⟨i, a, 0, 0⟩) s = .next t ∧ t.rd SB_STATUS.REFRESH_LOST i = 1 ∧
      t.scrub i = { s.scrub i with flips := (a &&& 0xFFF03, 0, 0) } ∧ s.regsKeptBut t [SB_STATUS.REFRESH_LOST.key i] ∧
      { t with regs := s.regs, scrubs := s.scrubs } = s) ∧
    (s.rd SB_STATUS.PEER_FAULT i = 0 → exec (.peerFaultRestart i) s = .next s) ∧
    (∀ p, p = (if i % 2 = 0 then i + 1 else i - 1) → s.rd SB_STATUS.PEER_FAULT i ≠ 0 → ∃ t, exec (.peerFaultRestart i) s = .next t ∧
      t.rd SB_STATUS.RESTARTED p = 1) ∧
    (∀ v, ∃ t, exec (.scrubEnable i v) s = .next t ∧ t.rd SB_CTRL.EN i = v % 2 ∧ t.rd SB_CTRL.AUTO_TAKEOVER i = v / 2 % 2 ∧
      t.rd SB_CTRL.INTERVAL i = max 32 (v / 256 % 4096)) ∧
    (∀ n f w a, n / 160 = i / 2 → n < 640 → f < 4320 → w < 64 → a ≤ 71 → ∃ t,
      exec (.scrubInject i ((n / 160 * 2 ^ 30 + n % 160 * 2 ^ 22 + f * 512) + w * 2 ^ 32 + a * 2 ^ 38 + 2 ^ 53)) s = .next t ∧
      t.frameMask n f w = s.frameMask n f w ^^^ 2 ^ a)

/-- A refused Winder command (08 R225, R226). `cmd op arg st trig` is the write of `WD_CMD` with operation 1 to 7 (RUN, STOP-AT, STEP,
SAMPLE, BACKFILL, REWIND, REPLAY). The codes in the order of R226: HALTED on a halted part; ARG for `STOPES` with another command than BACKFILL or a STEP of 0 or above 2^32; BUSY; GROUP where no group is
formed; NOT_LEADER at a part that does not lead; STATE where R225 does not accept the command in the present state. A refused command sets
`REFUSED` and `RESULT`, shows in `LAST_OP`, keeps `BUSY` as it was and changes nothing else but the operand register and the command's
interrupt source. (A stop that is due at the present boundary of a running part is not refused with it: no such stop stands.) -/
def Obligations.WinderRefusals : Prop :=
  ∀ (s : State) (c : Instr) (op arg : Nat) (st trig : Bool) (code : Nat),
    (c, op) ∈ [(Instr.run arg st trig, 1), (.stopAt arg st trig, 2), (.step arg st trig, 3), (.sample arg st trig, 4),
      (.backfill arg st trig, 5), (.rewind arg st trig, 6), (.replay arg st trig, 7)] →
    code = (if s.halted = true ∨ s.rd WD_STATUS.STATE = 4 then 8
      else if (st = true ∧ op ≠ 5) ∨ (op = 3 ∧ (arg = 0 ∨ 2 ^ 32 < arg)) then 6
      else if s.rd WD_CMD_STATUS.BUSY ≠ 0 ∨ s.winder.cmd.isSome = true ∨ s.winder.recovery.isSome = true then 9
      else if ¬(op = 5 ∧ st = true) ∧ s.rd WD_STATUS.FORMED = 0 then 10
      else if ¬(op = 5 ∧ st = true) ∧ s.rd WD_STATUS.LEADER = 0 then 2
      else if (op = 1 ∨ op = 3 ∨ (op = 5 ∧ st = false) ∨ op = 7) ∧ s.rd WD_STATUS.STATE ≠ 1 then 1
      else if (op = 2 ∨ op = 4 ∨ op = 6) ∧ s.rd WD_STATUS.STATE ≠ 1 ∧ s.rd WD_STATUS.STATE ≠ 2 then 1
      else 0) →
    code ≠ 0 → (s.rd WD_STATUS.STATE ≠ 2 ∨ s.winder.inStroke = true ∨ s.sampleDue.isSome = true ∨ s.stopDue = none) →
    ∃ t, exec c s = .next t ∧ t.rd WD_CMD_STATUS.REFUSED = 1 ∧ t.rd WD_CMD_STATUS.RESULT = code ∧
      t.rd WD_CMD_STATUS.LAST_OP = op ∧ t.rd WD_CMD_ARG.ARG = arg % 2 ^ 64 ∧
      s.regsKeptBut t [WD_CMD_STATUS.REFUSED.key, WD_CMD_STATUS.RESULT.key, WD_CMD_STATUS.LAST_OP.key, WD_CMD_ARG.ARG.key,
        WD_IRQ_STATUS.SRC.key] ∧
      { t with regs := s.regs, msix := s.msix, sent := s.sent } = s

/-- Accepted Winder commands of a solo leader (08 R220 to R222, R225 to R227; 11 R300 to R302). With an image in force and the divider not
below `NMIN`, RUN, STEP and REPLAY from STOPPED set the Winder RUNNING: RUN is done at once; STEP schedules a stop at tally + N and REPLAY at
its tally. STOP-AT schedules a stop at the later of its tally and the horizon, unless an earlier one stands. SAMPLE schedules a sample of a
usable slot at the tally, or at the horizon while RUNNING, and a slot that is not usable is refused with SAMPLE. A group BACKFILL or a REWIND
from STOPPED of a slot that serves starts the restore; a REWIND arms replay to the present tally and a BACKFILL disarms it; a REWIND while
RUNNING is scheduled at the horizon; a BACKFILL of isolated stopes leaves the state and the tally. While RUNNING with a `STALL_LIMIT` the
stall watchdog sets `GROUP_STALL`, and otherwise does nothing. -/
def Obligations.WinderCommands : Prop :=
  ∀ s : State, s.halted = false → s.rd WD_GROUP_CTRL.JOIN = 0 → s.rd WD_STATUS.FORMED ≠ 0 → s.rd WD_STATUS.LEADER ≠ 0 →
    s.rd WD_CMD_STATUS.BUSY = 0 → s.winder.cmd = none → s.winder.recovery = none →
    (s.winder.inStroke = true ∨ s.winder.events.all (fun e => decide (e.kind = .sample ∨ s.rd WD_TALLY.TALLY < e.e)) = true) →
    (∀ arg trig, s.rd WD_STATUS.STATE = 1 → s.rd CF_LOADED.VALID ≠ 0 → s.rd CF_LOADED.NMIN ≤ s.rd CK_CLK_STATUS.PHASE_DIV_CUR → ∃ t,
      exec (.run arg false trig) s = .next t ∧ t.rd WD_STATUS.STATE = 2 ∧ t.rd WD_CMD_STATUS.DONE = 1 ∧ t.rd WD_CMD_STATUS.BUSY = 0 ∧
      t.rd WD_CMD_STATUS.RESULT = 0 ∧ t.winder.runTrig = trig ∧ t.rd WD_TALLY.TALLY = s.rd WD_TALLY.TALLY) ∧
    (∀ arg trig, s.rd WD_STATUS.STATE = 1 → s.rd CF_LOADED.VALID = 0 → ∃ t, exec (.run arg false trig) s = .next t ∧
      t.rd WD_CMD_STATUS.REFUSED = 1 ∧ t.rd WD_CMD_STATUS.RESULT = 3 ∧ t.rd WD_STATUS.STATE = 1 ∧ t.winder = s.winder) ∧
    (∀ arg trig, s.rd WD_STATUS.STATE = 1 → s.rd CF_LOADED.VALID ≠ 0 → s.rd CK_CLK_STATUS.PHASE_DIV_CUR < s.rd CF_LOADED.NMIN → ∃ t,
      exec (.run arg false trig) s = .next t ∧ t.rd WD_CMD_STATUS.REFUSED = 1 ∧ t.rd WD_CMD_STATUS.RESULT = 4 ∧
      t.rd WD_STATUS.STATE = 1 ∧ t.winder = s.winder) ∧
    (∀ arg trig, s.rd WD_STATUS.STATE = 2 → max arg (s.rd WD_HORIZON.H) < s.rd WD_STOP_TALLY.S →
      (s.winder.inStroke = true ∨ s.rd WD_TALLY.TALLY < max arg (s.rd WD_HORIZON.H)) → ∃ t,
      exec (.stopAt arg false trig) s = .next t ∧
      t.winder.events = s.winder.events ++ [⟨.stop, max arg (s.rd WD_HORIZON.H), 0, 1, []⟩] ∧ t.rd WD_STATUS.STATE = 2 ∧
      t.rd WD_CMD_STATUS.DONE = 1 ∧ t.rd WD_CMD_STATUS.RESULT = 0) ∧
    (∀ arg trig, s.rd WD_STATUS.STATE = 1 → arg ≤ s.rd WD_TALLY.TALLY → s.rd CF_LOADED.VALID ≠ 0 →
      s.rd CF_LOADED.NMIN ≤ s.rd CK_CLK_STATUS.PHASE_DIV_CUR → ∃ t, exec (.stopAt arg false trig) s = .next t ∧
      t.rd WD_STATUS.STATE = 1 ∧ t.rd WD_CMD_STATUS.DONE = 1 ∧ t.winder.events = s.winder.events) ∧
    (∀ n trig, 0 < n → n ≤ 2 ^ 32 → s.rd WD_STATUS.STATE = 1 → s.rd CF_LOADED.VALID ≠ 0 →
      s.rd CF_LOADED.NMIN ≤ s.rd CK_CLK_STATUS.PHASE_DIV_CUR → s.rd WD_TALLY.TALLY + n < s.rd WD_STOP_TALLY.S → ∃ t,
      exec (.step n false trig) s = .next t ∧ t.rd WD_STATUS.STATE = 2 ∧ t.rd WD_CMD_STATUS.BUSY = 1 ∧
      ⟨.stop, s.rd WD_TALLY.TALLY + n, 0, 1, []⟩ ∈ t.winder.events) ∧
    (∀ slot trig, s.rd WD_STATUS.STATE = 1 → s.slotUsable slot = true → s.rd WD_SMP_SEQ.SEQ < 2 ^ 32 - 1 → ∃ t,
      exec (.sample slot false trig) s = .next t ∧ t.rd WD_CMD_STATUS.BUSY = 1 ∧ t.rd WD_STATUS.STATE = 1 ∧
      t.winder.events = s.winder.events ++ [⟨.sample, s.rd WD_TALLY.TALLY, slot, 2, []⟩]) ∧
    (∀ slot trig, s.rd WD_STATUS.STATE = 2 → s.slotUsable slot = true → s.rd WD_SMP_SEQ.SEQ < 2 ^ 32 - 1 → ∃ t,
      exec (.sample slot false trig) s = .next t ∧ t.rd WD_CMD_STATUS.DONE = 1 ∧ t.rd WD_STATUS.STATE = 2 ∧
      t.winder.events = s.winder.events ++ [⟨.sample, s.rd WD_HORIZON.H, slot, 0, []⟩]) ∧
    (∀ slot trig, s.rd WD_STATUS.STATE = 1 → s.slotUsable slot = false → s.rd WD_SMP_SEQ.SEQ < 2 ^ 32 - 1 → ∃ t,
      exec (.sample slot false trig) s = .next t ∧ t.rd WD_CMD_STATUS.REFUSED = 1 ∧ t.rd WD_CMD_STATUS.RESULT = 7 ∧
      t.winder = s.winder) ∧
    (∀ slot trig, s.rd WD_STATUS.STATE = 1 → s.restorable slot = true → ∃ t, exec (.backfill slot false trig) s = .next t ∧
      t.rd WD_STATUS.STATE = 3 ∧ t.rd WD_STATUS.REPLAY_ARMED = 0 ∧ t.sampler.restoring = some (slot, false) ∧
      t.rd WD_CMD_STATUS.BUSY = 1 ∧ t.rd WD_TALLY.TALLY = s.rd WD_TALLY.TALLY) ∧
    (∀ slot trig, s.rd WD_STATUS.STATE = 1 → s.restorable slot = true → ∃ t, exec (.rewind slot false trig) s = .next t ∧
      t.rd WD_STATUS.STATE = 3 ∧ t.rd WD_STATUS.REPLAY_ARMED = 1 ∧ t.rd WD_REPLAY_END.END = s.rd WD_TALLY.TALLY % 2 ^ 64 ∧
      t.sampler.restoring = some (slot, false) ∧ t.rd WD_CMD_STATUS.BUSY = 1) ∧
    (∀ slot trig, s.rd WD_STATUS.STATE = 2 → s.restorable slot = true →
      (s.winder.inStroke = true ∨ s.rd WD_TALLY.TALLY < s.rd WD_HORIZON.H) → ∃ t, exec (.rewind slot false trig) s = .next t ∧
      t.rd WD_STATUS.STATE = 2 ∧ t.rd WD_CMD_STATUS.BUSY = 1 ∧
      t.winder.events = s.winder.events ++ [⟨.rewind, s.rd WD_HORIZON.H, slot, 1, []⟩]) ∧
    (∀ slot trig, s.slotUsable slot = true → s.rd WD_SLOT.STATE 0 slot = 2 → s.rd WD_STATUS.STATE ≠ 4 →
      (∀ n ∈ s.restoreMask, s.stopeState n = 2 ∧ n ∈ (s.slotData slot).stopes) → ∃ t, exec (.backfill slot true trig) s = .next t ∧
      t.sampler.restoring = some (slot, true) ∧ t.sampler.backfill = s.restoreMask ∧ t.rd WD_CMD_STATUS.BUSY = 1 ∧
      t.rd WD_STATUS.STATE = s.rd WD_STATUS.STATE ∧ t.rd WD_TALLY.TALLY = s.rd WD_TALLY.TALLY) ∧
    (∀ arg trig e, e = (if arg = 0 then s.rd WD_REPLAY_END.END else arg) → s.rd WD_STATUS.STATE = 1 → s.rd WD_STATUS.REPLAY_ARMED ≠ 0 →
      s.rd WD_TALLY.TALLY < e → e ≤ s.rd WD_REPLAY_END.END → e < s.rd WD_STOP_TALLY.S → s.rd CF_LOADED.VALID ≠ 0 →
      s.rd CF_LOADED.NMIN ≤ s.rd CK_CLK_STATUS.PHASE_DIV_CUR → ∃ t, exec (.replay arg false trig) s = .next t ∧
      t.rd WD_STATUS.STATE = 2 ∧ t.rd WD_CMD_STATUS.BUSY = 1 ∧ ⟨.stop, e, 0, 1, []⟩ ∈ t.winder.events) ∧
    (∀ arg trig e, e = (if arg = 0 then s.rd WD_REPLAY_END.END else arg) → s.rd WD_STATUS.STATE = 1 → s.rd WD_STATUS.REPLAY_ARMED ≠ 0 →
      (e ≤ s.rd WD_TALLY.TALLY ∨ s.rd WD_REPLAY_END.END < e) → ∃ t, exec (.replay arg false trig) s = .next t ∧
      t.rd WD_CMD_STATUS.REFUSED = 1 ∧ t.rd WD_CMD_STATUS.RESULT = 6 ∧ t.winder = s.winder) ∧
    (s.rd WD_STATUS.STATE = 2 → s.rd WD_GRANT.STALL_LIMIT ≠ 0 → ∃ t, exec .groupStall s = .next t ∧
      t.rd WD_GROUP_STATUS.GROUP_STALL = 1 ∧ s.regsKeptBut t [WD_GROUP_STATUS.GROUP_STALL.key, WD_IRQ_STATUS.SRC.key] ∧
      { t with regs := s.regs, msix := s.msix, sent := s.sent } = s) ∧
    (s.rd WD_STATUS.STATE ≠ 2 ∨ s.rd WD_GRANT.STALL_LIMIT = 0 → exec .groupStall s = .next s)

/-- Core samples and restores (11 R286 to R290, R299 to R302, R310). With a sample due, the sampler ready and no stope-port transaction
outstanding the copy-out takes it: the slot is DRAINING with the next sequence number and the tally, `READY` clears, and nothing is taken
otherwise; a slot that is not usable takes no sample, nor does any above the last sequence number (the model's choice, log entry 97). A shadow frame that reads uncorrectable, or whose store fails, fails the sample with its cause; another goes to its place in the
slot and the drain moves on. When the drain, the copies and the notices have ended the slot is VALID; before that, nothing. An engine that
does not acknowledge in time fails the sample with cause 4; its acknowledgement clears its notice. A failed group restore leaves the Winder
UNLOADED and no image in force; a good one without engines sets the slot's tally and stops the Winder STOPPED. A restored seam of a `STOPES`
restore leaves the mask, and the last one ends the command. -/
def Obligations.CoreSamples : Prop :=
  ∀ s : State,
    (∀ ev, s.sampleDue = some ev → ev.slot < 16 → (s.rd WD_STATUS.STATE = 1 ∨ s.rd WD_STATUS.STATE = 2) →
      s.rd WD_SMP_STATUS.READY ≠ 0 → s.masterOut = false → s.slotUsable ev.slot = true → s.rd WD_SMP_SEQ.SEQ < 2 ^ 32 - 1 →
      s.winder.lateBound = none → (∀ e ∈ s.winder.events, e.kind = .sample ∨ s.rd WD_TALLY.TALLY < e.e) → ∃ t,
      exec .sampleCopyOut s = .next t ∧
      t.rd WD_SLOT.STATE 0 ev.slot = 1 ∧ t.rd WD_SLOT.SEQ 0 ev.slot = (s.rd WD_SMP_SEQ.SEQ + 1) % 2 ^ 32 ∧
      t.rd WD_SLOT_TALLY.TALLY 0 ev.slot = s.rd WD_TALLY.TALLY % 2 ^ 64 ∧ t.rd WD_SMP_SEQ.SEQ = (s.rd WD_SMP_SEQ.SEQ + 1) % 2 ^ 32 ∧
      t.rd WD_SMP_STATUS.READY = 0 ∧ t.rd WD_SMP_STATUS.DRAINING = 1 ∧ t.rd WD_SMP_STATUS.LAST_SLOT = ev.slot ∧
      t.sampler.draining = some ev.slot ∧ (t.slotData ev.slot).stopes = s.usedStopes) ∧
    (∀ ev, s.sampleDue = some ev → s.rd WD_STATUS.STATE = 1 → s.rd WD_SMP_STATUS.READY ≠ 0 → s.masterOut = false →
      (s.slotUsable ev.slot = false ∨ s.rd WD_SMP_SEQ.SEQ = 2 ^ 32 - 1) → s.winder.lateBound = none → ev.cause ≠ 2 → ∃ t,
      exec .sampleCopyOut s = .next t ∧
      t = { s with winder := { s.winder with events := s.winder.events.filter (fun e => decide (e ≠ ev)) } }) ∧
    (s.sampleDue = none ∨ s.rd WD_SMP_STATUS.READY = 0 ∨ s.masterOut = true → exec .sampleCopyOut s = .next s) ∧
    (∀ k slot n r ue, k < 4 → s.sampler.draining = some slot → Tab.get [] s.sampler.drain k = n :: r → slot < 16 → ∃ t,
      exec (.corerDrainFrame k ue true) s = .next t ∧ t.rd WD_SLOT.STATE 0 slot = 3 ∧
      t.rd WD_SLOT.FAIL_CAUSE 0 slot = (if ue then 1 else 2) ∧ t.sampler.draining = none ∧ t.rd WD_SMP_STATUS.READY = 1) ∧
    (∀ k slot n r, k < 4 → s.sampler.draining = some slot → Tab.get [] s.sampler.drain k = n :: r →
      Tab.get 0 s.sampler.drainFrame k < 143 →
      (List.range 4).all (fun i => !s.journalled (s.slotBase slot + 0x400000 + n * 0x12000 + Tab.get 0 s.sampler.drainFrame k * 512 + 128 * i)) = true →
      ∃ t, exec (.corerDrainFrame k false false) s = .next t ∧
      Tab.get 0 t.sampler.drainFrame k = Tab.get 0 s.sampler.drainFrame k + 1 ∧
      t.rd CR_STATUS.FRAMES k = (s.rd CR_STATUS.FRAMES k + 1) % 2 ^ 32 ∧ t.sampler.drain = s.sampler.drain ∧
      t.sampler.draining = some slot ∧ t.fabMem = s.fabMem ∧ t.stopes = s.stopes ∧ t.winder = s.winder) ∧
    (∀ k slot n r, k < 4 → s.sampler.draining = some slot → Tab.get [] s.sampler.drain k = n :: r →
      Tab.get 0 s.sampler.drainFrame k = 143 →
      (List.range 4).all (fun i => !s.journalled (s.slotBase slot + 0x400000 + n * 0x12000 + Tab.get 0 s.sampler.drainFrame k * 512 + 128 * i)) = true →
      ∃ t, exec (.corerDrainFrame k false false) s = .next t ∧
      Tab.get [] t.sampler.drain k = r ∧ t.rd CR_STATUS.STOPES_LEFT k = r.length % 2 ^ 8 ∧
      (t.slotData slot).shadows = (s.slotData slot).shadows ++ [(n, ⟨(s.stope n).shadow, (s.stope n).shadowPorts⟩)]) ∧
    (∀ slot, s.sampler.draining = some slot → s.sampler.drain = [] → (∀ n ∈ (s.slotData slot).stopes, s.rd ST_MEM_JRNL.ARMED n = 0) →
      s.sampler.noticeSample = 0 → ∃ t, exec .sampleComplete s = .next t ∧ t.rd WD_SLOT.STATE 0 slot = 2 ∧
      t.rd WD_SMP_STATUS.READY = 1 ∧ t.rd WD_SMP_STATUS.DRAINING = 0 ∧ t.sampler.draining = none) ∧
    (s.sampler.draining = none ∨ s.sampler.drain ≠ [] ∨ s.sampler.noticeSample ≠ 0 → exec .sampleComplete s = .next s) ∧
    (∀ slot, s.sampler.draining = some slot → s.sampler.noticeSample ≠ 0 → s.sampler.noticeRestore = 0 → ∃ t,
      exec .engLimitExpiry s = .next t ∧ t.rd WD_SLOT.STATE 0 slot = 3 ∧ t.rd WD_SLOT.FAIL_CAUSE 0 slot = 4 ∧
      t.sampler.draining = none) ∧
    (s.sampler.noticeSample = 0 → s.sampler.noticeRestore = 0 → exec .engLimitExpiry s = .next s) ∧
    (∀ e, e < 64 → s.sampler.noticeRestore = 0 → ∃ t, exec (.engineAck (2 ^ e)) s = .next t ∧ t.sampler.noticeSample.testBit e = false ∧
      t.sampler.noticePend.testBit e = false ∧ { t with sampler := s.sampler } = s) ∧
    (∀ slot, s.sampler.restoring = some (slot, false) → s.rd WD_STATUS.STATE = 3 → s.sampler.noticeRestore = 0 → s.dram.heldReqs = [] → ∃ t,
      exec (.restoreDone true) s = .next t ∧ t.rd WD_STATUS.STATE = 0 ∧ t.rd CF_LOADED.VALID = 0 ∧ t.sampler.restoring = none) ∧
    (∀ slot, s.sampler.restoring = some (slot, false) → s.rd WD_STATUS.STATE = 3 → s.sampler.noticeRestore = 0 →
      s.rd WD_SMP_ENG.MASK = 0 → s.winder.recovery = none → s.winder.duty = none → s.winder.lateBound = none →
      s.dram.heldReqs = [] → ∃ t, exec (.restoreDone false) s = .next t ∧ t.rd WD_STATUS.STATE = 1 ∧
      t.rd WD_TALLY.TALLY = s.rd WD_SLOT_TALLY.TALLY 0 slot % 2 ^ 64 ∧ t.sampler.restoring = none ∧
      t.winder.prevTrig = (s.slotData slot).trig) ∧
    (∀ k slot, k < 4 → s.sampler.restoring = some (slot, true) → s.sampler.backfill.any (fun n => n / 160 != k) = true →
      s.sampler.backfill.any (fun n => n / 160 == k) = true → ∃ t, exec (.stopeBackfillDone k) s = .next t ∧
      t.sampler.backfill = s.sampler.backfill.filter (fun n => decide (n / 160 ≠ k)) ∧ t.rd CR_STATUS.RESTORE k = 0 ∧
      t.sampler.restoring = some (slot, true)) ∧
    (∀ k slot, k < 4 → s.sampler.restoring = some (slot, true) → (∀ n ∈ s.sampler.backfill, n / 160 = k) → ∃ t,
      exec (.stopeBackfillDone k) s = .next t ∧ t.sampler.backfill = [] ∧ t.sampler.restoring = none ∧
      t.rd WD_CMD_STATUS.DONE = 1 ∧ t.rd WD_CMD_STATUS.BUSY = 0)

/-- The receiver of a lane (09 R236 to R249, R261). A loss of signal returns a running receiver to CDR, its peer fields stale and its lock
lost; a lane under test only loses its lock, one whose data is looped keeps it; one that is off or asleep is only flagged. A lock takes CDR to
SEARCH while the PLL is locked, its loss takes a searching or aligned lane to CDR. A READY lane that leaves takes the sub-port down and the other READY lanes to ALIGNED. A codeword's corrected symbols
and uncorrectable codewords are counted; with FEC off nothing is. A match in search is noted, a second one period later aligns the lane there; the
complement inverts the receiver where `AUTO_INV` allows; a block away from the boundary says nothing; the third miss in a row returns an aligned lane to SEARCH; when every lane is
ALIGNED with agreeing peers and skew of at most 32 ns the sub-port is READY and up. A slip needs manual alignment and a searching lane, and
fewer bits than the period, or sets `SLIP_ERR`. A sleeping receiver is in SLEEP until it is woken into CDR; a SLEEP block sends it to CDR,
one whose `CCRC` fails is counted, and one of an uncorrectable codeword is lost. -/
def Obligations.LaneReceivers : Prop :=
  ∀ (s : State) (p i : Nat), p < 16 → i < 8 →
    (s.rd XC_LANE_STATUS.RX_STATE p i < 2 → ∃ t, exec (.los p i) s = .next t ∧ t.rd XC_LANE_STATUS.LOS p i = 1 ∧
      s.regsKeptBut t [XC_LANE_STATUS.LOS.key p i] ∧ { t with regs := s.regs } = s) ∧
    (2 ≤ s.rd XC_LANE_STATUS.RX_STATE p i → s.rd XC_LANE_STATUS.RX_STATE p i ≤ 5 → ∃ t, exec (.los p i) s = .next t ∧
      t.rd XC_LANE_STATUS.LOS p i = 1 ∧ t.rd XC_LANE_STATUS.RX_STATE p i = 2 ∧ t.rd XC_LANE_STATUS.CDR_LOCK p i = 0 ∧
      t.rd XC_LANE_PEER.VALID p i = 0) ∧
    (s.rd XC_LANE_STATUS.RX_STATE p i = 6 → ∃ t, exec (.los p i) s = .next t ∧
      t.rd XC_LANE_STATUS.LOS p i = 1 ∧ t.rd XC_LANE_STATUS.RX_STATE p i = 6 ∧
      t.rd XC_LANE_STATUS.CDR_LOCK p i = (if s.rd XC_LANE_CTRL.TEST p i = 2 then s.rd XC_LANE_STATUS.CDR_LOCK p i else 0)) ∧
    (∀ c : Instr, (c = .los p i ∨ c = .cdrLockLost p i ∨ c = .rxSleep p i true) →
      s.rd XC_LANE_STATUS.RX_STATE p i = 5 → s.rd XC_PORT_CTRL.SPLIT p = 0 → s.rd XC_PORT_STATUS.LINK_UP_A p ≠ 0 → ∃ t,
      exec c s = .next t ∧ t.rd XC_PORT_STATUS.LINK_UP_A p = 0 ∧ t.rd XC_XP_STATUS.SYNCED_A p = 0 ∧
      t.rd XC_PORT_STATUS.DOWNS_A p = min (s.rd XC_PORT_STATUS.DOWNS_A p + 1) 255 ∧
      (∀ j, j < 8 → j ≠ i → s.rd XC_LANE_STATUS.RX_STATE p j = 5 → t.rd XC_LANE_STATUS.RX_STATE p j = 4)) ∧
    (s.rd XC_LANE_STATUS.RX_STATE p i = 2 → s.rd XC_PORT_STATUS.PLL_LOCK p ≠ 0 → ∃ t, exec (.cdrLock p i) s = .next t ∧
      t.rd XC_LANE_STATUS.RX_STATE p i = 3 ∧ t.rd XC_LANE_STATUS.LOS p i = 0 ∧ t.rd XC_LANE_STATUS.CDR_LOCK p i = 1 ∧
      s.regsKeptBut t [XC_LANE_STATUS.RX_STATE.key p i, XC_LANE_STATUS.LOS.key p i, XC_LANE_STATUS.CDR_LOCK.key p i]) ∧
    ((s.rd XC_PORT_STATUS.PLL_LOCK p = 0 ∨ (s.rd XC_LANE_STATUS.RX_STATE p i ≠ 2 ∧ s.rd XC_LANE_STATUS.RX_STATE p i ≠ 6)) →
      exec (.cdrLock p i) s = .next s) ∧
    (3 ≤ s.rd XC_LANE_STATUS.RX_STATE p i → s.rd XC_LANE_STATUS.RX_STATE p i ≤ 5 → ∃ t, exec (.cdrLockLost p i) s = .next t ∧
      t.rd XC_LANE_STATUS.RX_STATE p i = 2 ∧ t.rd XC_LANE_STATUS.CDR_LOCK p i = 0 ∧ t.rd XC_LANE_PEER.VALID p i = 0) ∧
    (s.rd XC_LANE_STATUS.RX_STATE p i < 3 → exec (.cdrLockLost p i) s = .next s) ∧
    (∀ (e l c : List Nat) (r : Nat), r = (lineBits (s.pam4 p i) (s.on XC_LANE_CTRL.PRECODE p i) (s.on XC_LANE_CTRL.RX_INV p i)
        (s.lane p i).rxLevel (e ++ l ++ c)).1 →
      (s.rd XC_LANE_STATUS.RX_STATE p i = 4 ∨ s.rd XC_LANE_STATUS.RX_STATE p i = 5) → s.fecOn p i = true → ∃ t,
      exec (.fecCodeword p i e l c) s = .next t ∧
      t.rd XC_LANE_FEC.CW_UNCORR p i = (match fecDecode r with
        | none => min (s.rd XC_LANE_FEC.CW_UNCORR p i + 1) (2 ^ 16 - 1)
        | some _ => s.rd XC_LANE_FEC.CW_UNCORR p i) ∧
      t.rd XC_LANE_FEC.CW_CORR p i = (match fecDecode r with
        | none => s.rd XC_LANE_FEC.CW_CORR p i
        | some c => if c.1 = 0 then s.rd XC_LANE_FEC.CW_CORR p i else min (s.rd XC_LANE_FEC.CW_CORR p i + 1) (2 ^ 32 - 1)) ∧
      t.rd XC_LANE_FEC.MAX_SYM p i = (match fecDecode r with
        | none => s.rd XC_LANE_FEC.MAX_SYM p i
        | some c => if s.rd XC_LANE_FEC.MAX_SYM p i < c.1 then c.1 % 2 ^ 4 else s.rd XC_LANE_FEC.MAX_SYM p i) ∧
      (t.lane p i).codewords = (s.lane p i).codewords + 1) ∧
    (∀ e l c, (s.rd XC_LANE_STATUS.RX_STATE p i < 4 ∨ (s.rd XC_LANE_STATUS.RX_STATE p i ≠ 6 ∧ s.fecOn p i = false)) →
      exec (.fecCodeword p i e l c) s = .next s) ∧
    (∀ (b : AlignBlock) (bits : Nat), bits = (if s.rd XC_LANE_CTRL.RX_INV p i = 0 then b.block % 2 ^ 257 else 2 ^ 257 - 1 - b.block % 2 ^ 257) →
      (s.rd XC_LANE_STATUS.RX_STATE p i = 3 → 4 < commaBits bits → (commaBits bits < 60 ∨ s.rd XC_LANE_CTRL.AUTO_INV p i = 0) →
        exec (.alignmentBlock p i b) s = .next s) ∧
      (s.rd XC_LANE_STATUS.RX_STATE p i = 3 → 60 ≤ commaBits bits → s.rd XC_LANE_CTRL.AUTO_INV p i ≠ 0 → ∃ t,
        exec (.alignmentBlock p i b) s = .next t ∧
        t.rd XC_LANE_CTRL.RX_INV p i = 1 - s.rd XC_LANE_CTRL.RX_INV p i ∧ t.rd XC_LANE_STATUS.INV_SEEN p i = 1 ∧
        s.regsKeptBut t [XC_LANE_CTRL.RX_INV.key p i, XC_LANE_STATUS.INV_SEEN.key p i]) ∧
      (s.rd XC_LANE_STATUS.RX_STATE p i = 3 → commaBits bits ≤ 4 → s.rd XC_LANE_CTRL.ALIGN_MODE p i = 0 →
        (b.pos < alignPeriod (s.fecOn p i) ∨ (s.lane p i).seen.contains (b.pos - alignPeriod (s.fecOn p i)) = false) → ∃ t,
        exec (.alignmentBlock p i b) s = .next t ∧ t.rd XC_LANE_STATUS.RX_STATE p i = 3 ∧ b.pos ∈ (t.lane p i).seen ∧
        (t.lane p i).time = b.time) ∧
      (s.rd XC_LANE_STATUS.RX_STATE p i = 3 → commaBits bits ≤ 4 → s.rd XC_LANE_CTRL.ALIGN_MODE p i = 0 →
        alignPeriod (s.fecOn p i) ≤ b.pos → (s.lane p i).seen.contains (b.pos - alignPeriod (s.fecOn p i)) = true → ∃ t,
        exec (.alignmentBlock p i b) s = .next t ∧ (t.rd XC_LANE_STATUS.RX_STATE p i = 4 ∨ t.rd XC_LANE_STATUS.RX_STATE p i = 5) ∧
        (t.lane p i).bound = b.pos) ∧
      ((s.rd XC_LANE_STATUS.RX_STATE p i = 4 ∨ s.rd XC_LANE_STATUS.RX_STATE p i = 5) →
        b.pos % alignPeriod (s.fecOn p i) ≠ (s.lane p i).bound % alignPeriod (s.fecOn p i) → exec (.alignmentBlock p i b) s = .next s) ∧
      ((s.rd XC_LANE_STATUS.RX_STATE p i = 4 ∨ s.rd XC_LANE_STATUS.RX_STATE p i = 5) →
        b.pos % alignPeriod (s.fecOn p i) = (s.lane p i).bound % alignPeriod (s.fecOn p i) → 4 < commaBits bits →
        (s.lane p i).misses < 2 → ∃ t, exec (.alignmentBlock p i b) s = .next t ∧ t.regs = s.regs ∧
        t.lane p i = { s.lane p i with misses := (s.lane p i).misses + 1 }) ∧
      ((s.rd XC_LANE_STATUS.RX_STATE p i = 4 ∨ s.rd XC_LANE_STATUS.RX_STATE p i = 5) →
        b.pos % alignPeriod (s.fecOn p i) = (s.lane p i).bound % alignPeriod (s.fecOn p i) → 4 < commaBits bits →
        2 ≤ (s.lane p i).misses → ∃ t, exec (.alignmentBlock p i b) s = .next t ∧ t.rd XC_LANE_STATUS.RX_STATE p i = 3 ∧
        t.rd XC_LANE_STATUS.ALIGN_LOST p i = min (s.rd XC_LANE_STATUS.ALIGN_LOST p i + 1) 255) ∧
      (s.rd XC_PORT_CTRL.SPLIT p = 0 → s.rd XC_PORT_CTRL.EN_A p ≠ 0 → (∀ j, j < 8 → s.rd XC_LANE_STATUS.RX_STATE p j = 4) →
        b.pos % alignPeriod (s.fecOn p i) = (s.lane p i).bound % alignPeriod (s.fecOn p i) → commaBits bits ≤ 4 → ccrcOk bits = false →
        b.time = (s.lane p i).time → s.peersAgree p 0 = true → s.skew p 0 ≤ 32000 → ∃ t,
        exec (.alignmentBlock p i b) s = .next t ∧ t.rd XC_PORT_STATUS.LINK_UP_A p = 1 ∧
        (∀ j, j < 8 → t.rd XC_LANE_STATUS.RX_STATE p j = 5))) ∧
    (∀ n, (s.rd XC_LANE_CTRL.ALIGN_MODE p i = 0 ∨ (s.rd XC_LANE_STATUS.RX_STATE p i ≠ 3 ∧ s.rd XC_LANE_STATUS.RX_STATE p i ≠ 6) ∨
      alignPeriod (s.fecOn p i) ≤ n) → ∃ t,
      exec (.slip p i n) s = .next t ∧ t.rd XC_LANE_STATUS.SLIP_ERR p i = 1 ∧ s.regsKeptBut t [XC_LANE_STATUS.SLIP_ERR.key p i] ∧
      { t with regs := s.regs } = s) ∧
    (∀ n, s.rd XC_LANE_CTRL.ALIGN_MODE p i ≠ 0 → s.rd XC_LANE_STATUS.RX_STATE p i = 3 → n < alignPeriod (s.fecOn p i) → ∃ t,
      exec (.slip p i n) s = .next t ∧
      t.lane p i = { s.lane p i with bound := ((s.lane p i).bound + n) % alignPeriod (s.fecOn p i), zeroAt := none } ∧
      { t with lanes := s.lanes } = s) ∧
    (s.rd XC_LANE_STATUS.RX_STATE p i ≠ 0 → s.rd XC_LANE_STATUS.RX_STATE p i ≠ 6 → ∃ t, exec (.rxSleep p i true) s = .next t ∧
      t.rd XC_LANE_CTRL.RX_SLEEP p i = 1 ∧ t.rd XC_LANE_STATUS.RX_STATE p i = 1 ∧ t.rd XC_LANE_PEER.VALID p i = 0) ∧
    (∃ t, exec (.rxSleep p i false) s = .next t ∧ t.rd XC_LANE_CTRL.RX_SLEEP p i = 0 ∧
      t.rd XC_LANE_STATUS.RX_STATE p i = (if s.rd XC_LANE_STATUS.RX_STATE p i = 1 then 2 else s.rd XC_LANE_STATUS.RX_STATE p i)) ∧
    (∀ b : XBlock, (s.rd XC_LANE_STATUS.RX_STATE p i = 4 ∨ s.rd XC_LANE_STATUS.RX_STATE p i = 5) → s.errored p i b = false →
      b.bits % 2 = 1 → ccrcOk b.bits = true → blockCode b.bits = 0x5A → ∃ t, exec (.sleepBlock ⟨p, i⟩ b) s = .next t ∧
      t.rd XC_LANE_STATUS.PEER_SLEEP p i = 1 ∧ t.rd XC_LANE_STATUS.RX_STATE p i = 2 ∧ t.rd XC_LANE_PEER.VALID p i = 0) ∧
    (∀ b : XBlock, (s.rd XC_LANE_STATUS.RX_STATE p i = 4 ∨ s.rd XC_LANE_STATUS.RX_STATE p i = 5) → s.errored p i b = false →
      b.bits % 2 = 1 → ccrcOk b.bits = false → ∃ t, exec (.sleepBlock ⟨p, i⟩ b) s = .next t ∧
      t.rd XC_LANE_ERR.CTRL_CRC p i = min (s.rd XC_LANE_ERR.CTRL_CRC p i + 1) (2 ^ 16 - 1) ∧ s.regsKeptBut t [XC_LANE_ERR.CTRL_CRC.key p i] ∧
      { t with regs := s.regs } = s) ∧
    (∀ b : XBlock, (s.rd XC_LANE_STATUS.RX_STATE p i < 4 ∨ s.errored p i b = true) → exec (.sleepBlock ⟨p, i⟩ b) s = .next s)

/-- Port control, transmitters and lane tools (09 R235, R236, R249 to R257). A write of `XC_PORT_CTRL` that changes the settings of an enabled
sub-port, names a reserved rate, a FEC the rate does not allow, or half B without a split sets `CFG_ERR` and changes nothing else; enabling
an idle port in one piece takes its settings and, once the PLL is locked, starts its lanes, asleep or under test where asked; disabling it turns
its lanes OFF but those under test. The PLL of an enabled port locks. A transmitter enters sleep, is asleep when its SLEEP blocks are out, and wakes. A test is taken only while the
sub-port is disabled; an equaliser setting above 40 in sum sets `EQ_ERR` and leaves the taps; an eye scan runs on a locked lane that is
neither under test nor scanning, or sets `EYE_ERR`, and its end gives the saturated count. -/
def Obligations.LaneTools : Prop :=
  ∀ (s : State) (p i : Nat), p < 16 → i < 8 →
    (∀ v, ((s.rd XC_PORT_CTRL.EN_A p ≠ 0 ∧ (s.rd XC_PORT_CTRL.RATE_A p ≠ v / 16 % 8 ∨ s.rd XC_PORT_CTRL.FEC_A p ≠ v / 4096 % 2)) ∨
      (s.rd XC_PORT_CTRL.EN_B p ≠ 0 ∧ (s.rd XC_PORT_CTRL.RATE_B p ≠ v / 256 % 8 ∨ s.rd XC_PORT_CTRL.FEC_B p ≠ v / 8192 % 2)) ∨
      5 ≤ v / 16 % 8 ∨ (v / 16 % 8 ≤ 1 ∧ v / 4096 % 2 = 0) ∨ (v / 16 % 8 = 4 ∧ v / 4096 % 2 = 1) ∨ (v / 2 % 2 = 1 ∧ v / 4 % 2 = 0)) →
      ∃ t, exec (.xcPortCtrlWrite p v) s = .next t ∧ t.rd XC_PORT_STATUS.CFG_ERR p = 1 ∧
      s.regsKeptBut t [XC_PORT_STATUS.CFG_ERR.key p] ∧ { t with regs := s.regs } = s) ∧
    (∀ v, s.rd XC_PORT_CTRL.EN_A p = 0 → s.rd XC_PORT_CTRL.EN_B p = 0 → v % 8 = 1 → v / 16 % 8 ≤ 4 →
      (v / 16 % 8 ≤ 1 → v / 4096 % 2 = 1) → (v / 16 % 8 = 4 → v / 4096 % 2 = 0) → (∀ j, j < 8 → s.rd XC_LANE_STATUS.TX_STATE p j = 0 ∧ s.rd XC_LANE_STATUS.RX_STATE p j = (if s.rd XC_LANE_CTRL.TEST p j = 0 then 0 else 6)) →
      s.rd XC_PORT_STATUS.PLL_LOCK p ≠ 0 → s.rd XC_PORT_STATUS.PLL_FAMILY p = (if v / 16 % 8 = 4 then 1 else 0) → ∃ t,
      exec (.xcPortCtrlWrite p v) s = .next t ∧ t.rd XC_PORT_CTRL.EN_A p = 1 ∧ t.rd XC_PORT_CTRL.SPLIT p = 0 ∧
      t.rd XC_PORT_CTRL.RATE_A p = v / 16 % 8 ∧ t.rd XC_PORT_CTRL.FEC_A p = v / 4096 % 2 ∧
      t.rd XC_LANE_STATUS.TX_STATE p i = (if s.rd XC_LANE_CTRL.TX_SLEEP p i = 0 then 1 else 3) ∧
      t.rd XC_LANE_STATUS.RX_STATE p i =
        (if s.rd XC_LANE_CTRL.TEST p i ≠ 0 then 6 else if s.rd XC_LANE_CTRL.RX_SLEEP p i ≠ 0 then 1 else 2)) ∧
    (∀ v, s.rd XC_PORT_CTRL.EN_A p = 0 → s.rd XC_PORT_CTRL.EN_B p = 0 → v % 8 = 1 → v / 16 % 8 ≤ 4 →
      (v / 16 % 8 ≤ 1 → v / 4096 % 2 = 1) → (v / 16 % 8 = 4 → v / 4096 % 2 = 0) → s.rd XC_PORT_STATUS.PLL_LOCK p = 0 → ∃ t,
      exec (.xcPortCtrlWrite p v) s = .next t ∧ t.rd XC_PORT_CTRL.EN_A p = 1 ∧ t.rd XC_PORT_CTRL.RATE_A p = v / 16 % 8 ∧
      t.rd XC_PORT_STATUS.PLL_LOCK p = 0 ∧ t.rd XC_PORT_STATUS.PLL_FAMILY p = (if v / 16 % 8 = 4 then 1 else 0) ∧
      t.rd XC_LANE_STATUS.TX_STATE p i = s.rd XC_LANE_STATUS.TX_STATE p i ∧
      t.rd XC_LANE_STATUS.RX_STATE p i = s.rd XC_LANE_STATUS.RX_STATE p i) ∧
    (∀ v, s.rd XC_PORT_CTRL.EN_A p ≠ 0 → s.rd XC_PORT_CTRL.EN_B p = 0 → s.rd XC_PORT_CTRL.SPLIT p = 0 → s.winderStopped = true →
      v % 8 = 0 → v / 16 % 8 = s.rd XC_PORT_CTRL.RATE_A p → v / 4096 % 2 = s.rd XC_PORT_CTRL.FEC_A p → v / 16 % 8 ≤ 4 →
      (v / 16 % 8 ≤ 1 → v / 4096 % 2 = 1) → (v / 16 % 8 = 4 → v / 4096 % 2 = 0) → ∃ t,
      exec (.xcPortCtrlWrite p v) s = .next t ∧ t.rd XC_PORT_CTRL.EN_A p = 0 ∧ t.rd XC_LANE_STATUS.TX_STATE p i = 0 ∧
      t.rd XC_LANE_STATUS.RX_STATE p i = (if s.rd XC_LANE_STATUS.RX_STATE p i = 6 then 6 else 0)) ∧
    ((s.rd XC_PORT_CTRL.EN_A p ≠ 0 ∨ s.rd XC_PORT_CTRL.EN_B p ≠ 0) → s.subWaitsPll p 0 = false → s.subWaitsPll p 1 = false → ∃ t,
      exec (.lanePllLock p) s = .next t ∧ t.rd XC_PORT_STATUS.PLL_LOCK p = 1 ∧ s.regsKeptBut t [XC_PORT_STATUS.PLL_LOCK.key p] ∧
      { t with regs := s.regs } = s) ∧
    (s.rd XC_PORT_CTRL.EN_A p ≠ 0 → s.rd XC_PORT_CTRL.EN_B p = 0 → s.rd XC_PORT_CTRL.SPLIT p = 0 →
      (∀ j, j < 8 → s.rd XC_LANE_STATUS.TX_STATE p j = 0 ∧ s.rd XC_LANE_STATUS.RX_STATE p j = (if s.rd XC_LANE_CTRL.TEST p j = 0 then 0 else 6)) → ∃ t,
      exec (.lanePllLock p) s = .next t ∧ t.rd XC_PORT_STATUS.PLL_LOCK p = 1 ∧
      t.rd XC_LANE_STATUS.TX_STATE p i = (if s.rd XC_LANE_CTRL.TX_SLEEP p i = 0 then 1 else 3) ∧
      t.rd XC_LANE_STATUS.RX_STATE p i =
        (if s.rd XC_LANE_CTRL.TEST p i ≠ 0 then 6 else if s.rd XC_LANE_CTRL.RX_SLEEP p i ≠ 0 then 1 else 2)) ∧
    (s.rd XC_PORT_CTRL.EN_A p = 0 → s.rd XC_PORT_CTRL.EN_B p = 0 → exec (.lanePllLock p) s = .next s) ∧
    (∀ f, f = (if s.rd XC_PORT_CTRL.SPLIT p = 0 ∨ i < 4 then XC_XP_STATUS.SYNCED_A else XC_XP_STATUS.SYNCED_B) → ∃ t,
      exec (.txSleep p i true) s = .next t ∧ t.rd XC_LANE_CTRL.TX_SLEEP p i = 1 ∧
      t.rd XC_LANE_STATUS.TX_STATE p i = (if s.rd XC_LANE_STATUS.TX_STATE p i = 1 ∨ s.rd XC_LANE_STATUS.TX_STATE p i = 4 then 2
        else s.rd XC_LANE_STATUS.TX_STATE p i) ∧
      t.rd f p = (if s.rd XC_LANE_STATUS.TX_STATE p i = 1 ∨ s.rd XC_LANE_STATUS.TX_STATE p i = 4 then 0 else s.rd f p) ∧
      s.regsKeptBut t [XC_LANE_CTRL.TX_SLEEP.key p i, XC_LANE_STATUS.TX_STATE.key p i, f.key p]) ∧
    (∃ t, exec (.txSleep p i false) s = .next t ∧ t.rd XC_LANE_CTRL.TX_SLEEP p i = 0 ∧
      t.rd XC_LANE_STATUS.TX_STATE p i = (if s.rd XC_LANE_STATUS.TX_STATE p i = 3 then 4 else s.rd XC_LANE_STATUS.TX_STATE p i) ∧
      s.regsKeptBut t [XC_LANE_CTRL.TX_SLEEP.key p i, XC_LANE_STATUS.TX_STATE.key p i]) ∧
    (s.rd XC_LANE_STATUS.TX_STATE p i = 2 → ∃ t, exec (.txSleepEntered p i) s = .next t ∧
      t.rd XC_LANE_STATUS.TX_STATE p i = (if (s.lane p i).wakeNext then 4 else 3) ∧
      s.regsKeptBut t [XC_LANE_STATUS.TX_STATE.key p i]) ∧
    (s.rd XC_LANE_STATUS.TX_STATE p i ≠ 2 → exec (.txSleepEntered p i) s = .next s) ∧
    (s.rd XC_LANE_STATUS.TX_STATE p i = 4 → ∃ t, exec (.txWakeDone p i) s = .next t ∧ t.rd XC_LANE_STATUS.TX_STATE p i = 1 ∧
      (t.lane p i).group = [] ∧ (t.lane p i).groups = 0 ∧ s.regsKeptBut t [XC_LANE_STATUS.TX_STATE.key p i]) ∧
    (s.rd XC_LANE_STATUS.TX_STATE p i ≠ 4 → exec (.txWakeDone p i) s = .next s) ∧
    (∀ v h, h = (if s.rd XC_PORT_CTRL.SPLIT p = 0 then 0 else i / 4) →
      (s.rd (if h = 0 then XC_PORT_CTRL.EN_A else XC_PORT_CTRL.EN_B) p ≠ 0 ∨ 3 ≤ v) → ∃ t, exec (.testWrite p i v) s = .next t ∧
      t.rd XC_LANE_CTRL.LANE_CFG_ERR p i = 1 ∧ s.regsKeptBut t [XC_LANE_CTRL.LANE_CFG_ERR.key p i] ∧ { t with regs := s.regs } = s) ∧
    (∀ v h, h = (if s.rd XC_PORT_CTRL.SPLIT p = 0 then 0 else i / 4) →
      s.rd (if h = 0 then XC_PORT_CTRL.EN_A else XC_PORT_CTRL.EN_B) p = 0 → v < 3 → ∃ t, exec (.testWrite p i v) s = .next t ∧
      t.rd XC_LANE_CTRL.TEST p i = v ∧ t.rd XC_LANE_STATUS.RX_STATE p i =
        (if v = 0 then (if s.rd XC_LANE_STATUS.RX_STATE p i = 6 then 2 else s.rd XC_LANE_STATUS.RX_STATE p i) else 6)) ∧
    (∀ v, 40 < v % 16 + v / 256 % 32 → ∃ t, exec (.txeqWrite p i v) s = .next t ∧ t.rd XC_LANE_TXEQ.EQ_ERR p i = 1 ∧
      t.rd XC_LANE_TXEQ.AMP p i = v / 65536 % 16 ∧ s.regsKeptBut t [XC_LANE_TXEQ.EQ_ERR.key p i, XC_LANE_TXEQ.AMP.key p i] ∧
      { t with regs := s.regs } = s) ∧
    (∀ v, v % 16 + v / 256 % 32 ≤ 40 → ∃ t, exec (.txeqWrite p i v) s = .next t ∧ t.rd XC_LANE_TXEQ.PRE p i = v % 16 ∧
      t.rd XC_LANE_TXEQ.POST p i = v / 256 % 32 ∧ t.rd XC_LANE_TXEQ.AMP p i = v / 65536 % 16 ∧
      s.regsKeptBut t [XC_LANE_TXEQ.EQ_ERR.key p i, XC_LANE_TXEQ.AMP.key p i, XC_LANE_TXEQ.PRE.key p i, XC_LANE_TXEQ.POST.key p i] ∧
      { t with regs := s.regs } = s) ∧
    (∀ ph vo eye dw, (s.rd XC_LANE_STATUS.CDR_LOCK p i = 0 ∨ s.rd XC_LANE_CTRL.TEST p i ≠ 0 ∨ s.rd XC_LANE_EYE_RESULT.BUSY p i ≠ 0 ∨ 3 ≤ eye) →
      ∃ t, exec (.eyeScanGo p i ph vo eye dw) s = .next t ∧ t.rd XC_LANE_STATUS.EYE_ERR p i = 1 ∧
      s.regsKeptBut t [XC_LANE_STATUS.EYE_ERR.key p i] ∧ { t with regs := s.regs } = s) ∧
    (∀ ph vo dw, s.rd XC_LANE_STATUS.CDR_LOCK p i ≠ 0 → s.rd XC_LANE_CTRL.TEST p i = 0 → s.rd XC_LANE_EYE_RESULT.BUSY p i = 0 →
      16 ≤ dw → dw ≤ 40 → ∃ t, exec (.eyeScanGo p i ph vo 1 dw) s = .next t ∧ t.rd XC_LANE_EYE_RESULT.BUSY p i = 1 ∧
      t.rd XC_LANE_EYE_RESULT.VALID p i = 0 ∧ t.rd XC_LANE_EYE_RESULT.ERRORS p i = 0 ∧ t.rd XC_LANE_EYE_CTRL.DWELL_LOG2 p i = dw ∧
      { t with regs := s.regs } = s) ∧
    (∀ n, s.rd XC_LANE_EYE_RESULT.BUSY p i ≠ 0 → ∃ t, exec (.eyeScanDone p i n) s = .next t ∧ t.rd XC_LANE_EYE_RESULT.BUSY p i = 0 ∧
      t.rd XC_LANE_EYE_RESULT.VALID p i = 1 ∧ t.rd XC_LANE_EYE_RESULT.ERRORS p i = min n (2 ^ 40 - 1) ∧
      s.regsKeptBut t [XC_LANE_EYE_RESULT.BUSY.key p i, XC_LANE_EYE_RESULT.VALID.key p i, XC_LANE_EYE_RESULT.ERRORS.key p i] ∧
      { t with regs := s.regs } = s) ∧
    (∀ n, s.rd XC_LANE_EYE_RESULT.BUSY p i = 0 → exec (.eyeScanDone p i n) s = .next s)

/-- Cut-net transport on a gated half that carries its own role (10 R268 to R280), from the blocks its lanes release. A frame that arrives
while the link is down or not synchronised does nothing, one for an ungated half sets `UNGATED_RX`, an errored one, or one whose header fails
its `CCRC`, counts as bad; a frame older than the expected one
counts as a duplicate and is acknowledged; one ahead of it, or whose CRC or length is wrong, counts as bad and is answered by one NAK; the
expected frame moves the expected number on, and one of no enabled stream sets `STREAM_ERR`, one with another tally than expected sets `SLIP`
and stops its stream, and one of a delivering stream is held for its stroke. An acknowledgement frees the frame it names and those before it;
a NAK sends every frame from the one it names again, and the retry timer the oldest and those after it, or allows another NAK. An acceptance not yet acknowledged is
acknowledged by the timer. A SYNC of another reset count is ignored; one with other settings sets `SYNC_ERR`; a matching one synchronises
the half and frees what has arrived; one that moves a role where no stand-in is set up sets `FAILOVER_ERR`. A half that has not the peer's
sends SYNC. A block that goes out starts a row. -/
def Obligations.CutNetFrames : Prop :=
  ∀ (s : State) (p h w : Nat), p < 16 → h < 2 → w = (s.lanesOf p h).length → w ≠ 0 →
    s.rd XC_XP_STATUS.OVER_A p = 0 → s.rd XC_XP_STATUS.OVER_B p = 0 →
    (∀ hd dt, s.linkUp p h = false → exec (.strokeFrame p h hd dt) s = .next s) ∧
    (∀ (hd : XBlock) (dt : List XBlock) (q : Nat) (f : XFrame), q = s.peerLane p h 0 →
      f = XFrame.ofBlocks hd.bits (dt.map (fun b => b.bits)) → s.linkUp p h = true →
      (s.laneReads p q = true → s.errored p q hd = false → hd.bits % 2 = 1 → ccrcOk hd.bits = false → s.gated p h = true →
        s.synced p h = true → ∃ t, exec (.strokeFrame p h hd dt) s = .next t ∧
        t.rd XC_LANE_ERR.CTRL_CRC p q = min (s.rd XC_LANE_ERR.CTRL_CRC p q + 1) (2 ^ 16 - 1) ∧
        t.rd (ab h XC_XP_DROP.BAD_A XC_XP_DROP.BAD_B) p = min (s.rd (ab h XC_XP_DROP.BAD_A XC_XP_DROP.BAD_B) p + 1) (2 ^ 16 - 1) ∧
        { t with regs := s.regs } = s) ∧
      (s.laneReads p q = true → s.errored p q hd = false → hd.bits % 2 = 1 → ccrcOk hd.bits = true → blockCode hd.bits = 0x10 →
        (s.gated p h = false → ∃ t, exec (.strokeFrame p h hd dt) s = .next t ∧
          t.rd XC_XP_STATUS.UNGATED_RX p = 1 ∧ s.regsKeptBut t [XC_XP_STATUS.UNGATED_RX.key p] ∧ { t with regs := s.regs } = s) ∧
        (s.gated p h = true → s.synced p h = false → exec (.strokeFrame p h hd dt) s = .next s) ∧
        (s.gated p h = true → s.synced p h = true → (s.anyErrored p h (hd :: dt) = true ∨ 64 < f.dlen) → ∃ t,
          exec (.strokeFrame p h hd dt) s = .next t ∧
          t.rd (ab h XC_XP_DROP.BAD_A XC_XP_DROP.BAD_B) p = min (s.rd (ab h XC_XP_DROP.BAD_A XC_XP_DROP.BAD_B) p + 1) (2 ^ 16 - 1) ∧
          { t with regs := s.regs } = s) ∧
        (s.gated p h = true → s.synced p h = true → s.anyErrored p h (hd :: dt) = false → f.dlen ≤ 64 → f.ackv = false →
          (seqOld (s.rd (ab h XC_XP_SEQ.RX_NEXT_A XC_XP_SEQ.RX_NEXT_B) p) f.seq = true → ∃ t, exec (.strokeFrame p h hd dt) s = .next t ∧
            t.rd (ab h XC_XP_DROP.DUP_A XC_XP_DROP.DUP_B) p = min (s.rd (ab h XC_XP_DROP.DUP_A XC_XP_DROP.DUP_B) p + 1) (2 ^ 16 - 1) ∧
            t.sub p h = { s.sub p h with ackDue := true } ∧ t.sent = s.sent) ∧
          (seqOld (s.rd (ab h XC_XP_SEQ.RX_NEXT_A XC_XP_SEQ.RX_NEXT_B) p) f.seq = false →
            (f.seq ≠ s.rd (ab h XC_XP_SEQ.RX_NEXT_A XC_XP_SEQ.RX_NEXT_B) p ∨ f.crc ≠ frameCrc f.tally f.data ∨ f.data.length ≠ f.dlen) →
            (s.sub p h).nakSent = none → ∃ t, exec (.strokeFrame p h hd dt) s = .next t ∧
            Emission.row (2 * p + h) (nakBlock (s.rd (ab h XC_XP_SEQ.RX_NEXT_A XC_XP_SEQ.RX_NEXT_B) p) :: List.replicate (w - 1) idleBlock) ∈ t.sent ∧
            t.rd (ab h XC_XP_DROP.BAD_A XC_XP_DROP.BAD_B) p = min (s.rd (ab h XC_XP_DROP.BAD_A XC_XP_DROP.BAD_B) p + 1) (2 ^ 16 - 1)) ∧
          (∀ n, n = 16 * h + f.stream → f.seq = s.rd (ab h XC_XP_SEQ.RX_NEXT_A XC_XP_SEQ.RX_NEXT_B) p → f.crc = frameCrc f.tally f.data → f.data.length = f.dlen →
            (s.rd XC_RXS.EN p n = 0 → ∃ t, exec (.strokeFrame p h hd dt) s = .next t ∧
              t.rd XC_XP_STATUS.STREAM_ERR p = 1 ∧ t.rd (ab h XC_XP_SEQ.RX_NEXT_A XC_XP_SEQ.RX_NEXT_B) p = (f.seq + 1) % 4096) ∧
            (s.rd XC_RXS.EN p n ≠ 0 → s.rd XC_RXS.DELIVER p n = 0 → f.stream ∉ (s.sub p h).stopped →
              f.tally ≠ (s.sub p h).expected f.stream % 65536 → ∃ t, exec (.strokeFrame p h hd dt) s = .next t ∧
              t.rd (ab h XC_XP_STATUS.SLIP_A XC_XP_STATUS.SLIP_B) p = 1 ∧ t.rd XC_XP_STATUS.SLIP_STREAM p = f.stream ∧
              (t.sub p h).stopped = (s.sub p h).stopped ++ [f.stream]) ∧
            (s.rd XC_RXS.EN p n ≠ 0 → s.rd XC_RXS.DELIVER p n ≠ 0 → s.rd XC_RXS.FWD p n = 0 →
              f.dlen = (s.rd XC_RXS.BITS p n + 255) / 256 → f.stream ∉ (s.sub p h).stopped →
              f.tally = (s.sub p h).expected f.stream % 65536 → ∃ t, exec (.strokeFrame p h hd dt) s = .next t ∧
              (t.sub p h).held = (s.sub p h).held ++ [⟨f.seq, f.stream, (s.sub p h).expected f.stream, f.data, f.crc⟩] ∧
              (t.sub p h).expected f.stream = (s.sub p h).expected f.stream + 1 ∧ (t.sub p h).ackDue = true))))) ∧
    (∀ (q : Nat) (b : XBlock), q < 8 → s.halfOf p q = h → s.laneReads p q = true → s.errored p q b = false → b.bits % 2 = 1 → ccrcOk b.bits = true →
      blockCode b.bits = 0x11 →
      (s.hearsLink p h = true → (s.sub p h).staging = [] → ∃ t, exec (.ack ⟨p, q⟩ b) s = .next t ∧
        (t.sub p h).slots = (s.sub p h).slots.filter (fun f => !seqOld ((b.bits / 2 ^ 9 % 2 ^ 12 + 1) % 4096) f.seq) ∧ t.sent = s.sent) ∧
      (s.hearsLink p h = false → exec (.ack ⟨p, q⟩ b) s = .next s)) ∧
    (∀ (q : Nat) (b : XBlock), q < 8 → s.halfOf p q = h → s.laneReads p q = true → s.errored p q b = false → b.bits % 2 = 1 → ccrcOk b.bits = true →
      blockCode b.bits = 0x12 →
      (∀ f g r, s.hearsLink p h = true → (s.sub p h).slots = f :: g :: r → b.bits / 2 ^ 9 % 2 ^ 12 = f.seq →
        (∀ e ∈ f :: g :: r, seqOld f.seq e.seq = false) → ∃ t, exec (.nak ⟨p, q⟩ b) s = .next t ∧
        t.rd (ab h XC_XP_RETRY.RESENT_A XC_XP_RETRY.RESENT_B) p =
          min (s.rd (ab h XC_XP_RETRY.RESENT_A XC_XP_RETRY.RESENT_B) p + (r.length + 2)) (2 ^ 16 - 1) ∧
        (t.sub p h).slots = (s.sub p h).slots) ∧
      (s.hearsLink p h = false → exec (.nak ⟨p, q⟩ b) s = .next s)) ∧
    (∀ f r, s.gated p h = true → s.synced p h = true → (s.sub p h).slots = f :: r → (∀ e ∈ f :: r, seqOld f.seq e.seq = false) → ∃ t,
      exec (.resendTimeout ⟨2 * p + h, false⟩) s = .next t ∧
      t.rd (ab h XC_XP_RETRY.RESENT_A XC_XP_RETRY.RESENT_B) p =
        min (s.rd (ab h XC_XP_RETRY.RESENT_A XC_XP_RETRY.RESENT_B) p + (r.length + 1)) (2 ^ 16 - 1) ∧
      (t.sub p h).slots = (s.sub p h).slots ∧ (t.sub p h).nakSent = (s.sub p h).nakSent) ∧
    (s.gated p h = true → s.synced p h = true → ∃ t, exec (.resendTimeout ⟨2 * p + h, true⟩) s = .next t ∧
      t.sub p h = { s.sub p h with nakSent := none } ∧ t.sent = s.sent) ∧
    (s.gated p h = true → s.synced p h = true → (s.sub p h).ackDue = true → ∃ t, exec (.ackTimer (2 * p + h)) s = .next t ∧
      Emission.row (2 * p + h) (ackBlock ((s.rd (ab h XC_XP_SEQ.RX_NEXT_A XC_XP_SEQ.RX_NEXT_B) p + 4095) % 4096) :: List.replicate (w - 1) idleBlock) ∈ t.sent ∧
      t.sub p h = { s.sub p h with ackDue := false }) ∧
    ((s.gated p h = false ∨ s.synced p h = false) → exec (.ackTimer (2 * p + h)) s = .next s ∧
      exec (.resendTimeout ⟨2 * p + h, false⟩) s = .next s ∧ exec (.resendTimeout ⟨2 * p + h, true⟩) s = .next s) ∧
    (∀ (q c y k v e : Nat) (b : XBlock), b = XBlock.ofParts c y k v e → q < 8 → s.halfOf p q = h → s.laneReads p q = true → s.errored p q b = false → b.bits % 2 = 1 → ccrcOk b.bits = true →
      blockCode b.bits = 0x13 → s.linkUp p h = true →
      (b.bits / 2 ^ 28 % 2 = 0 → s.gated p h = true → b.bits / 2 ^ 29 % 2 ^ 8 ≠ (s.sub p h).rcnt → exec (.sync p q c y k v e) s = .next s) ∧
      (b.bits / 2 ^ 28 % 2 = 0 → s.gated p h = true → b.bits / 2 ^ 29 % 2 ^ 8 = (s.sub p h).rcnt →
        (b.bits / 2 ^ 27 % 2 = 0 ∨ b.bits / 2 ^ 21 % 2 ≠ s.rd (ab h XC_XP_CTRL.MODE_A XC_XP_CTRL.MODE_B) p ∨
          b.bits / 2 ^ 22 % 2 ^ 5 ≠ s.rd (ab h XC_XP_CTRL.LAT_A XC_XP_CTRL.LAT_B) p) → ∃ t, exec (.sync p q c y k v e) s = .next t ∧
        t.rd (ab h XC_XP_STATUS.SYNC_ERR_A XC_XP_STATUS.SYNC_ERR_B) p = 1 ∧
        s.regsKeptBut t [(ab h XC_XP_STATUS.SYNC_ERR_A XC_XP_STATUS.SYNC_ERR_B).key p] ∧ { t with regs := s.regs } = s) ∧
      (b.bits / 2 ^ 28 % 2 = 0 → s.gated p h = true → b.bits / 2 ^ 29 % 2 ^ 8 = (s.sub p h).rcnt → b.bits / 2 ^ 27 % 2 = 1 →
        b.bits / 2 ^ 21 % 2 = s.rd (ab h XC_XP_CTRL.MODE_A XC_XP_CTRL.MODE_B) p →
        b.bits / 2 ^ 22 % 2 ^ 5 = s.rd (ab h XC_XP_CTRL.LAT_A XC_XP_CTRL.LAT_B) p → (s.sub p h).slots = [] → (s.sub p h).staging = [] →
        ∃ t, exec (.sync p q c y k v e) s = .next t ∧ t.rd (ab h XC_XP_STATUS.SYNCED_A XC_XP_STATUS.SYNCED_B) p = 1 ∧ t.sent = s.sent) ∧
      (b.bits / 2 ^ 28 % 2 = 1 → s.rd (ab h XC_XP_CTRL.ALT_B XC_XP_CTRL.ALT_A) p = 0 → ∃ t, exec (.sync p q c y k v e) s = .next t ∧
        t.rd XC_XP_STATUS.FAILOVER_ERR p = 1 ∧ s.regsKeptBut t [XC_XP_STATUS.FAILOVER_ERR.key p] ∧ { t with regs := s.regs } = s)) ∧
    (s.linkUp p h = true → (if s.gated p h = true then s.synced p h = false else (s.sub p h).heard = false) → ∃ t,
      exec (.syncTimer (2 * p + h)) s = .next t ∧
      Emission.row (2 * p + h) (syncBlock (s.rd (ab h XC_XP_SEQ.RX_NEXT_A XC_XP_SEQ.RX_NEXT_B) p) (s.rd (ab h XC_XP_CTRL.MODE_A XC_XP_CTRL.MODE_B) p)
        (s.rd (ab h XC_XP_CTRL.LAT_A XC_XP_CTRL.LAT_B) p) (s.gated p h) false (s.sub p h).rcnt :: List.replicate (w - 1) idleBlock) ∈ t.sent ∧ t.regs = s.regs) ∧
    ((s.linkUp p h = false ∨ (s.gated p h = true ∧ s.synced p h = true) ∨ (s.gated p h = false ∧ (s.sub p h).heard = true)) →
      exec (.syncTimer (2 * p + h)) s = .next s)

/-- Cut-net settings (10 R267, R268, R281, R283). With the Winder running and a half of the port gated a write of a stream entry or a map is
refused with `XP_CFG_ERR`; with the Winder stopped, or neither half gated, it is taken. Clearing a gate clears `SYNCED`; setting one while
the Winder runs or the sub-port is disabled is refused; setting one otherwise, with no stream enabled, opens it, expects the tally
and sends a SYNC. An alternate is refused on a port that is not split. A gated half that is down, with an alternate and failover
enabled, moves its role: its gate passes to the other half, which sends a SYNC that says so; without them nothing happens. -/
def Obligations.CutNetSettings : Prop :=
  ∀ (s : State) (p h : Nat), p < 16 → h < 2 →
    (∀ off v, off % 8 = 0 → ((0x200 ≤ off ∧ off < 0x300) ∨ (0x400 ≤ off ∧ off < 0x500) ∨ (0x20000 ≤ off ∧ off < 0x60000)) →
      s.winderStopped = false → (s.gated p 0 = true ∨ s.gated p 1 = true) → ∃ t, exec (.streamMapWrite p off v) s = .next t ∧
      t.rd XC_XP_STATUS.XP_CFG_ERR p = 1 ∧ s.regsKeptBut t [XC_XP_STATUS.XP_CFG_ERR.key p] ∧ { t with regs := s.regs } = s) ∧
    (∀ n v, n < 32 → (s.winderStopped = true ∨ (s.gated p 0 = false ∧ s.gated p 1 = false)) → ∃ t,
      exec (.streamMapWrite p (0x200 + 8 * n) v) s = .next t ∧ t.rd XC_TXS.EN p n = v % 2 ∧
      s.regsKeptBut t [XC_TXS.EN.key p n, XC_TXS.MAP_BASE.key p n, XC_TXS.BITS.key p n] ∧ { t with regs := s.regs } = s) ∧
    (∀ n v, n < 16384 → (s.winderStopped = true ∨ (s.gated p 0 = false ∧ s.gated p 1 = false)) → ∃ t,
      exec (.streamMapWrite p (0x20000 + 8 * n) v) s = .next t ∧
      s.regsKeptBut t [XC_TXMAP.STOPE.key p n, XC_TXMAP.POINT.key p n] ∧ { t with regs := s.regs } = s) ∧
    (∃ t, exec (.gate p h false) s = .next t ∧ t.rd (ab h XC_XP_CTRL.GATE_A XC_XP_CTRL.GATE_B) p = 0 ∧
      t.rd (ab h XC_XP_STATUS.SYNCED_A XC_XP_STATUS.SYNCED_B) p = 0 ∧
      s.regsKeptBut t [(ab h XC_XP_CTRL.GATE_A XC_XP_CTRL.GATE_B).key p, (ab h XC_XP_STATUS.SYNCED_A XC_XP_STATUS.SYNCED_B).key p] ∧
      { t with regs := s.regs } = s) ∧
    (s.winderStopped = false ∨ s.subEnabled p h = false → ∃ t, exec (.gate p h true) s = .next t ∧
      t.rd XC_XP_STATUS.XP_CFG_ERR p = 1 ∧ s.regsKeptBut t [XC_XP_STATUS.XP_CFG_ERR.key p] ∧ { t with regs := s.regs } = s) ∧
    (∀ w, s.winderStopped = true → s.subEnabled p h = true → s.entries XC_TXS.EN p h = [] → s.entries XC_RXS.EN p h = [] →
      s.forwardsInto p h = [] → w = (s.lanesOf p h).length → w ≠ 0 → s.rd XC_XP_STATUS.OVER_A p = 0 → s.rd XC_XP_STATUS.OVER_B p = 0 → s.gated p h = false → ∃ t,
      exec (.gate p h true) s = .next t ∧ t.rd (ab h XC_XP_CTRL.GATE_A XC_XP_CTRL.GATE_B) p = 1 ∧
      (∀ n, n < 16 → (t.sub p h).expected n = s.rd WD_TALLY.TALLY) ∧ Emission.row (2 * p + h) (syncBlock (s.rd (ab h XC_XP_SEQ.RX_NEXT_A XC_XP_SEQ.RX_NEXT_B) p) (s.rd (ab h XC_XP_CTRL.MODE_A XC_XP_CTRL.MODE_B) p)
        (s.rd (ab h XC_XP_CTRL.LAT_A XC_XP_CTRL.LAT_B) p) true false (s.sub p h).rcnt :: List.replicate (w - 1) idleBlock) ∈ t.sent) ∧
    (∀ v, s.rd XC_PORT_CTRL.SPLIT p = 0 → ∃ t, exec (.altWrite p h v) s = .next t ∧
      t.rd XC_XP_STATUS.XP_CFG_ERR p = 1 ∧ s.regsKeptBut t [XC_XP_STATUS.XP_CFG_ERR.key p] ∧ { t with regs := s.regs } = s) ∧
    (∀ v, s.rd XC_PORT_CTRL.SPLIT p ≠ 0 → s.winderStopped = true → s.subEnabled p (1 - h) = true → s.gated p (1 - h) = false →
      s.rd XC_PORT_CTRL.RATE_A p = s.rd XC_PORT_CTRL.RATE_B p → s.rd XC_PORT_CTRL.FEC_A p = s.rd XC_PORT_CTRL.FEC_B p → ∃ t,
      exec (.altWrite p h v) s = .next t ∧ t.rd (ab h XC_XP_CTRL.ALT_A XC_XP_CTRL.ALT_B) p = b2n v ∧
      s.regsKeptBut t [(ab h XC_XP_CTRL.ALT_A XC_XP_CTRL.ALT_B).key p] ∧ { t with regs := s.regs } = s) ∧
    (∀ w, w = (s.lanesOf p (1 - h)).length → w ≠ 0 → s.gated p h = true → s.linkUp p h = false →
      s.rd (ab h XC_XP_CTRL.ALT_A XC_XP_CTRL.ALT_B) p ≠ 0 → s.rd XC_XP_CTRL.FAILOVER p ≠ 0 →
      s.rd (ab h XC_XP_STATUS.OVER_B XC_XP_STATUS.OVER_A) p = 0 → ∃ t, exec (.failover p h) s = .next t ∧
      t.rd (ab h XC_XP_STATUS.OVER_A XC_XP_STATUS.OVER_B) p = 1 ∧ t.rd (ab h XC_XP_CTRL.GATE_A XC_XP_CTRL.GATE_B) p = 0 ∧
      t.rd (ab h XC_XP_CTRL.GATE_B XC_XP_CTRL.GATE_A) p = 1 ∧
      Emission.row (2 * p + (1 - h)) (syncBlock (s.rd (ab h XC_XP_SEQ.RX_NEXT_A XC_XP_SEQ.RX_NEXT_B) p) (s.rd (ab h XC_XP_CTRL.MODE_A XC_XP_CTRL.MODE_B) p)
        (s.rd (ab h XC_XP_CTRL.LAT_A XC_XP_CTRL.LAT_B) p) true true (s.sub p h).rcnt :: List.replicate (w - 1) idleBlock) ∈ t.sent) ∧
    ((s.gated p h = false ∨ s.linkUp p h = true ∨ s.rd XC_XP_CTRL.FAILOVER p = 0) → exec (.failover p h) s = .next s)

/-- The host link (12 R314 to R320; 01 R39). The release of PERST# lets the link train; a data link of a speed and width that the part has
shows in `CG_LINK`, a x2 partner at x1, and `DEGRADED` below full speed or width; any other does nothing. Configuration requests answer
Request Retry Status until `BASE_DONE`; then the identifiers read as the spec gives and a write of a setting takes effect. The base time-out
sets `BASE_DONE` and `BASE_LATE` once. The loss of the link clears `UP` and Bus Master Enable, sets `LINK_RESET`, counts, returns the
capability's settings to their reset values and halts every queue that moves data. A host request outside the BARs, or without a link, does
not arrive; a halted part answers a read with Completer Abort and drops a write; a read of a hole answers Completer Abort, sets
`HOST_RD_ERR` and records the address; a read of a data window returns what the target answers, and a write sends its bytes; the Cage buffer
is the part's own memory. -/
def Obligations.HostLink : Prop :=
  ∀ s : State,
    (exec .perstRelease s = .next { s with clk := { s.clk with perst := false } }) ∧
    (∀ sp w fl, (s.clk.perst = true ∨ s.rootRuns = false ∨ s.rd CG_LINK.UP ≠ 0 ∨ sp < 3 ∨ 6 < sp ∨ w ∉ [1, 2, 4, 8, 16]) →
      exec (.dataLinkUp sp w fl) s = .next s) ∧
    (∀ sp w fl, s.clk.perst = false → s.rootRuns = true → s.rd CG_LINK.UP = 0 → 3 ≤ sp → sp ≤ 6 → w ∈ [1, 2, 4, 8, 16] → ∃ t,
      exec (.dataLinkUp sp w fl) s = .next t ∧ t.rd CG_LINK.UP = 1 ∧ t.rd CG_LINK.SPEED = sp ∧
      t.rd CG_LINK.WIDTH = (if w = 2 then 1 else w) ∧ t.rd CG_LINK.FLIT = b2n fl ∧
      t.rd CG_LINK.DEGRADED = (if sp < 6 ∨ w < 16 then 1 else 0) ∧
      s.regsKeptBut t [CG_LINK.UP.key, CG_LINK.SPEED.key, CG_LINK.WIDTH.key, CG_LINK.FLIT.key, CG_LINK.DEGRADED.key]) ∧
    (∀ op, s.rd CG_LINK.UP = 0 → exec (.configRequest op) s = .next s) ∧
    (∀ op, s.rd CG_LINK.UP ≠ 0 → s.rd CG_BASE.BASE_DONE = 0 →
      exec (.configRequest op) s = .next { s with sent := s.sent ++ [Emission.configCompletion 2 0] }) ∧
    (s.rd CG_LINK.UP ≠ 0 → s.rd CG_BASE.BASE_DONE ≠ 0 →
      exec (.configRequest .readIds) s = .next { s with sent := s.sent ++ [Emission.configCompletion 0 (s.rd CG_ID.VENDOR + 0x640 * 2 ^ 16)] } ∧
      exec (.configRequest .readBar2Size) s = .next { s with sent := s.sent ++ [Emission.configCompletion 0 s.cage.bar2] }) ∧
    (∀ on, s.rd CG_LINK.UP ≠ 0 → s.rd CG_BASE.BASE_DONE ≠ 0 → ∃ t, exec (.configRequest (.busMaster on)) s = .next t ∧
      t.rd CG_BASE.BME = b2n on ∧ t.sent.getLast? = some (.configCompletion 0 0) ∧ s.regsKeptBut t [CG_BASE.BME.key]) ∧
    (∀ n, s.rd CG_LINK.UP ≠ 0 → s.rd CG_BASE.BASE_DONE ≠ 0 → ∃ t, exec (.configRequest (.bar2Size n)) s = .next t ∧
      t.cage = { s.cage with bar2 := if n ≤ 10 then n else s.cage.bar2 } ∧ t.sent = s.sent ++ [Emission.configCompletion 0 0]) ∧
    (s.clk.perst = false → s.rd CG_BASE.BASE_DONE = 0 → ∃ t, exec .baseTimeout s = .next t ∧ t.rd CG_BASE.BASE_DONE = 1 ∧
      t.rd CG_BASE.BASE_LATE = 1 ∧ s.regsKeptBut t [CG_BASE.BASE_DONE.key, CG_BASE.BASE_LATE.key] ∧ { t with regs := s.regs } = s) ∧
    (s.clk.perst = true ∨ s.rd CG_BASE.BASE_DONE ≠ 0 → exec .baseTimeout s = .next s) ∧
    (s.rd CG_LINK.UP = 0 → exec .linkDown s = .next s) ∧
    (s.rd CG_LINK.UP ≠ 0 → ∃ t, exec .linkDown s = .next t ∧ t.rd CG_LINK.UP = 0 ∧ t.rd CG_BASE.BME = 0 ∧ t.rd CG_LINK.LINK_RESET = 1 ∧
      t.rd CG_LINK.DOWN_COUNT = min (s.rd CG_LINK.DOWN_COUNT + 1) (2 ^ 16 - 1) ∧ t.msix = { Msix.cold with pending := s.msix.pending } ∧
      t.cage.bar2 = 0 ∧ ∀ q, q < 4096 → (s.rd QU_STATUS.STATE q = 1 ∨ s.rd QU_STATUS.STATE q = 2) →
        t.rd QU_STATUS.STATE q = 3 ∧ t.rd QU_STATUS.HALT_CAUSE q = 1) ∧
    (∀ bar ofs len data p ans, (s.rd CG_LINK.UP = 0 ∨ s.barHolds bar ofs len = false) →
      exec (.hostMemoryRequest bar ofs len false data p ans) s = .next s) ∧
    (∀ bar ofs len (data : List Nat) p ans, s.barHolds bar ofs len = true → s.barHolds bar ofs data.length = true → s.rd CG_LINK.UP ≠ 0 →
      s.clk.stage = .running → s.clk.warmHold = false → s.halted = true →
      exec (.hostMemoryRequest bar ofs len false data p ans) s = .next { s with sent := s.sent ++ [Emission.hostCompletion 1 0] } ∧
      exec (.hostMemoryRequest bar ofs len true data p ans) s = .next s) ∧
    (∀ ofs ans, ofs + 1 ≤ 2 ^ 31 → s.rd CG_LINK.UP ≠ 0 → s.clk.stage = .running → s.clk.warmHold = false → s.halted = false →
      windowOf (0x010000000000 + ofs) = .hole → s.rd CG_ERR_STATUS.HOST_RD_ERR = 0 → s.rd CG_ERR_STATUS.HOST_WR_ERR = 0 → ∃ t,
      exec (.hostMemoryRequest 0 ofs 1 false [] false ans) s = .next t ∧ t.rd CG_ERR_STATUS.HOST_RD_ERR = 1 ∧
      t.rd CG_ERR_ADDR.ADDR = 0x010000000000 + ofs ∧ t.rd CG_ERR_ADDR.CAUSE = 1 ∧ t.rd CG_ERR_ADDR.WRITE = 0 ∧
      t.sent.getLast? = some (.hostCompletion 1 0)) ∧
    (∀ ofs d, ofs + 8 ≤ 2 ^ 31 → ofs % 8 = 0 → s.rd CG_LINK.UP ≠ 0 → s.clk.stage = .running → s.clk.warmHold = false →
      s.halted = false → windowOf (0x010000000000 + ofs) = .data → s.windowRefuses (0x010000000000 + ofs) 8 = none →
      inCageBuffer (0x010000000000 + ofs) = false → d < 2 ^ 64 →
      exec (.hostMemoryRequest 0 ofs 8 false [] false [⟨0, d, false⟩]) s = .next { s with
        sent := s.sent ++ [Emission.access 644 (0x010000000000 + ofs) 8 false false 0 false, .hostCompletion 0 d] } ∧
      exec (.hostMemoryRequest 0 ofs 0 true [1, 2, 3, 4, 5, 6, 7, 8] false [⟨0, 0, false⟩]) s = .next { s with
        sent := s.sent ++ [Emission.access 644 (0x010000000000 + ofs) 8 true false 0x0807060504030201 false] }) ∧
    (∀ ofs, ofs + 8 ≤ 2 ^ 25 → ofs % 8 = 0 → s.rd CG_LINK.UP ≠ 0 → s.clk.stage = .running → s.clk.warmHold = false → s.halted = false →
      s.ready 1 = true →
      exec (.hostMemoryRequest 0 ofs 8 false [] false [⟨0, 0, false⟩]) s = .next { s with
        sent := s.sent ++ [Emission.hostCompletion 0 ((s.loadBytes (0x010000000000 + ofs) 8).foldr (fun b v => b + 256 * v) 0 % 2 ^ 64)] } ∧
      exec (.hostMemoryRequest 0 ofs 0 true [1, 2, 3, 4, 5, 6, 7, 8] false [⟨0, 0, false⟩]) s =
        .next (s.storeBytes (0x010000000000 + ofs) [1, 2, 3, 4, 5, 6, 7, 8]))

/-- Queue commands and windows (12 R322 to R338). ENABLE of a DISABLED queue whose settings R325 allows makes it ACTIVE and empty, and
otherwise sets `CFG_ERR`; STOP of an ACTIVE queue that holds nothing makes it DISABLED and of one with an open packet STOPPING; ABORT makes
any queue DISABLED and empty. A push of the right size by the queue's end into an ACTIVE, empty up queue opens a packet with the next sequence
number, and a last push closes it into one line with its length in the first word; a push that is refused is answered TARGET, or sets
`PUSH_ERR` where it was posted. A pop of the wrong size is answered SIZE, one of an up queue or by another master TARGET; the first pop of a
closed packet answers its length word and takes it. A doorbell of an ACTIVE down queue waits behind the others, and is dropped with `DB_OVF`
on any other queue or above 64; a flip closes the fill bank of a DIRECT queue, and on another queue sets `CFG_ERR` (DESIGN CHOICE, log entry
26). -/
def Obligations.QueueWindows : Prop :=
  ∀ (s : State) (q : Nat), q < 4096 →
    (∀ v, s.rd QU_STATUS.STATE q = 0 → (s.setFields [QU_CTRL.DIR, QU_CTRL.HMODE, QU_CTRL.BANK_LOG2] (v / 4 * 4 + 1) q).enableOk q = true →
      s.rd QU_END.KIND q ≠ 2 → ∃ t, exec (.queueEnable q v) s = .next t ∧ t.rd QU_STATUS.STATE q = 1 ∧ t.queue q = .cold ∧
      t.rd QU_CTRL.DIR q = v / 4 % 2 ∧ t.rd QU_CTRL.HMODE q = v / 8 % 2 ∧ t.rd QU_CTRL.BANK_LOG2 q = v / 16 % 32) ∧
    (∀ v, s.rd QU_STATUS.STATE q = 0 → (s.setFields [QU_CTRL.DIR, QU_CTRL.HMODE, QU_CTRL.BANK_LOG2] (v / 4 * 4 + 1) q).enableOk q = false →
      ∃ t, exec (.queueEnable q v) s = .next t ∧ t.rd QU_STATUS.CFG_ERR q = 1 ∧ t.rd QU_STATUS.STATE q = 0 ∧
      { t with regs := s.regs } = s) ∧
    (∀ v, s.rd QU_STATUS.STATE q = 1 → s.fieldsDiffer [QU_CTRL.DIR, QU_CTRL.HMODE, QU_CTRL.BANK_LOG2] (v / 4 * 4 + 2) q = false →
      s.queue q = .cold → ∃ t, exec (.queueStop q v) s = .next t ∧ t.rd QU_STATUS.STATE q = 0 ∧ t.queue q = .cold) ∧
    (∀ v p r, s.rd QU_STATUS.STATE q = 1 → s.fieldsDiffer [QU_CTRL.DIR, QU_CTRL.HMODE, QU_CTRL.BANK_LOG2] (v / 4 * 4 + 2) q = false →
      (s.queue q).pkts = p :: r → p.closed = false → ∃ t, exec (.queueStop q v) s = .next t ∧ t.rd QU_STATUS.STATE q = 2 ∧
      t.queue q = s.queue q) ∧
    (∀ v, ∃ t, exec (.queueAbort q v) s = .next t ∧ t.rd QU_STATUS.STATE q = 0 ∧ t.rd QU_STATUS.FLIP_PEND q = 0 ∧ t.queue q = .cold ∧
      t.sent = s.sent) ∧
    (∀ m w tag n, s.rd QU_STATUS.STATE q = 1 → s.rd QU_CTRL.DIR q ≠ 0 → s.boundTo q m = true → s.queue q = .cold → w = s.quWidth q →
      s.rd QU_STATUS.FLIP_PEND q = 0 → s.belowMark q (s.rd QU_SEQ.NEXT_SEQ q) = false → 12 ≤ s.rd QU_DATA_RING.DATA_LOG2 q →
      n = s.rd QU_SEQ.NEXT_SEQ q →
      (∀ word, ∃ t, exec (.quPush q m w word tag false false) s = .next t ∧ t.rd QU_SEQ.NEXT_SEQ q = (n + 1) % 2 ^ 32 ∧
        t.queue q = { Queue.cold with
          packer := List.replicate w 0 ++ bytesOf w word, pkts := [⟨n, w, false, false, false, false, false, 1, none⟩] } ∧
        t.sent = s.sent ++ [Emission.response 644 (masterNi m) tag 0 0 false]) ∧
      (∀ word, ∃ t, exec (.quPushLast q m w word tag false false) s = .next t ∧ t.rd QU_SEQ.NEXT_SEQ q = (n + 1) % 2 ^ 32 ∧
        (t.queue q).fill = [⟨n, 2 * w, true, true, false⟩] ∧ (t.queue q).packer = [] ∧
        (t.queue q).pkts = [⟨n, w, false, false, false, false, true, 1, none⟩] ∧
        t.sent = s.sent ++ [Emission.response 644 (masterNi m) tag 0 0 false])) ∧
    (∀ n w word tag, s.rd QU_STATUS.STATE q ≠ 1 ∨ s.rd QU_CTRL.DIR q = 0 → w = s.quWidth q →
      exec (.quPush q (.stope n) w word tag false false) s = .next { s with sent := s.sent ++ [Emission.response 644 n tag 1 0 false] } ∧
      exec (.quPushLast q (.stope n) w word tag false false) s = .next { s with sent := s.sent ++ [Emission.response 644 n tag 1 0 false] }) ∧
    (∀ n w word tag, s.rd QU_STATUS.STATE q ≠ 1 ∨ w ≠ s.quWidth q → ∃ t, exec (.quPush q (.stope n) w word tag true false) s = .next t ∧
      t.rd QU_STATUS.PUSH_ERR q = 1 ∧ s.regsKeptBut t [QU_STATUS.PUSH_ERR.key q] ∧ { t with regs := s.regs, events := s.events } = s) ∧
    (∀ m w tag, w ≠ s.quWidth q →
      exec (.quPop q m w tag false) s = .next { s with sent := s.sent ++ [Emission.response 644 (masterNi m) tag 5 0 false] }) ∧
    (∀ m w tag, w = s.quWidth q → (s.rd QU_CTRL.DIR q ≠ 0 ∨ s.boundTo q m = false) →
      exec (.quPop q m w tag false) s = .next { s with sent := s.sent ++ [Emission.response 644 (masterNi m) tag 1 0 false] }) ∧
    (∀ m w tag (p : QPkt) (l : QLine), w = s.quWidth q → s.rd QU_CTRL.DIR q = 0 → s.boundTo q m = true → s.rd QU_STATUS.STATE q = 1 →
      s.sampler.replay = [] → s.rd WD_SMP_CTRL.LOG_EN = 0 → (s.queue q).pkts = [p] → p.closed = true → 0 < p.len → (s.queue q).drain = [l] →
      l.seq = p.seq → l.valid ≠ 0 → l.poison = false → p.poison = false → (s.queue q).popped = 0 → ∃ t,
      exec (.quPop q m w tag false) s = .next t ∧ (t.queue q).popped = 1 ∧ (t.queue q).pkts = [p] ∧
      t.sent = s.sent ++ [Emission.response 644 (masterNi m) tag 0
        (s.load (s.bankAddr q (1 - s.rd QU_STATUS.FILL_BANK q) + 64 * (s.queue q).drainPos) w) false]) ∧
    (∀ len, (s.rd QU_STATUS.STATE q ≠ 1 ∨ s.rd QU_CTRL.DIR q ≠ 0 ∨ 64 ≤ (s.queue q).doorbells.length) → ∃ t,
      exec (.quDoorbell q len) s = .next t ∧ t.rd QU_STATUS.DB_OVF q = 1 ∧ s.regsKeptBut t [QU_STATUS.DB_OVF.key q] ∧
      { t with regs := s.regs } = s) ∧
    (∀ len, s.rd QU_STATUS.STATE q = 1 → s.rd QU_CTRL.DIR q = 0 → (s.queue q).doorbells.length < 64 → s.rd QU_CTRL.HMODE q = 0 →
      64 * lineCount (s.quWidth q) len ≤ 2 ^ s.rd QU_DATA_RING.DATA_LOG2 q → ∃ t, exec (.quDoorbell q len) s = .next t ∧
      t.queue q = { s.queue q with doorbells := (s.queue q).doorbells ++ [len] } ∧
      t.rd QU_STATUS.DB_PEND q = (s.queue q).doorbells.length + 1) ∧
    (∀ len, (s.rd QU_STATUS.STATE q ≠ 1 ∨ s.rd QU_CTRL.DIR q ≠ 0) → ∃ t, exec (.doorbellFlip q len) s = .next t ∧
      t.rd QU_STATUS.DB_OVF q = 1 ∧ { t with regs := s.regs } = s) ∧
    (∀ len, s.rd QU_STATUS.STATE q = 1 → s.rd QU_CTRL.DIR q = 0 → (s.rd QU_CTRL.HMODE q = 0 ∨ len ≠ 0) → ∃ t,
      exec (.doorbellFlip q len) s = .next t ∧ t.rd QU_STATUS.CFG_ERR q = 1 ∧ { t with regs := s.regs } = s) ∧
    (s.rd QU_STATUS.STATE q = 1 → s.rd QU_CTRL.DIR q = 0 → s.rd QU_CTRL.HMODE q = 1 → (s.queue q).doorbells = [] →
      (s.queue q).drain = [] → (s.queue q).spill = [] → (s.queue q).spilling = false → s.rd QU_STATUS.FILL_BANK q ≤ 1 → ∃ t,
      exec (.doorbellFlip q 0) s = .next t ∧ t.rd QU_STATUS.FLIP_PEND q = 0 ∧
      t.rd QU_STATUS.FILL_BANK q = 1 - s.rd QU_STATUS.FILL_BANK q ∧ (t.queue q).drain = (s.queue q).fill ∧ (t.queue q).fill = [])

/-- The DMA engine and the banks (12 R321 to R336). With no way to the host a turn does nothing; otherwise the next requester with work
moves: an up queue sends its oldest line to its ring position, the loader reads its HOST extent, a down queue asks for the lines of its first
doorbell. A completion with an error halts a queue that fetches, and a timeout sets `CPL_TIMEOUT`; the last line of a packet that arrives
closes it and moves the ring position on. A swap makes the fill bank the drain bank where the drain bank is empty and a packet has ended. The
end of a spill moves the fill bank to the spill ring and counts it; a copy-back brings the oldest entry into the empty drain bank; an error of
either halts the queue. A notice goes to the ring where there is room and the position moves on. The coalescing timer asks for the vector
where notices are unsignalled. The end of a gap sends a merged message; an unmasked vector's pending message goes out. A run of words between a
bin and its queue arrives, or its error halts the queue. -/
def Obligations.QueueEngine : Prop :=
  ∀ (s : State) (q : Nat), q < 4096 →
    (s.hostReach = false → ∀ c u, exec (.dmaTurn c u) s = .next s) ∧
    (∀ l c, s.hostReach = true → q = (s.cage.rr + 1) % 4097 → (s.rd QU_STATUS.STATE q = 1 ∨ s.rd QU_STATUS.STATE q = 2) →
      s.rd QU_CTRL.DIR q ≠ 0 → (s.queue q).drain = [l] → l.valid ≠ 0 → l.last = true → (s.queue q).waiting = [] → s.ringRoom q = true → ∃ t,
      exec (.dmaTurn c false) s = .next t ∧
      s.sent ++ [Emission.hostWrite (s.ringAddr q (s.rd QU_POS.DATA_TAIL q))
        (s.loadBytes (s.bankAddr q (1 - s.rd QU_STATUS.FILL_BANK q) + 64 * (s.queue q).drainPos) 64) l.poison s.cage.relaxed] <+: t.sent ∧
      t.rd QU_POS.DATA_TAIL q = (s.rd QU_POS.DATA_TAIL q + 64) % 2 ^ 32 ∧ t.cage.rr = q) ∧
    (∀ e r c u, s.hostReach = true → s.cage.rr = 4095 → 1 ≤ s.rd CF_LD_STATUS.STATE → s.rd CF_LD_STATUS.STATE ≤ 3 →
      s.loader.extents = e :: r → e.space = 0 → ∃ t, exec (.dmaTurn c u) s = .next t ∧
      t = { s with
        cage := { s.cage with rr := 4096 }, sent := s.sent ++ [Emission.hostRead 4096 (e.addr + e.taken) (min 4096 (e.len - e.taken))] }) ∧
    (∀ len c u, s.hostReach = true → q = (s.cage.rr + 1) % 4097 → s.rd QU_STATUS.STATE q = 1 → s.rd QU_CTRL.DIR q = 0 →
      s.rd QU_CTRL.HMODE q = 0 → s.queue q = { Queue.cold with doorbells := [len] } → lineCount (s.quWidth q) len = 1 →
      s.rd QU_STATUS.FLIP_PEND q = 0 → 6 ≤ s.rd QU_CTRL.BANK_LOG2 q → s.cage.maxRead = 512 → s.rd QU_POS.DATA_TAIL q % 64 = 0 → ∃ t,
      exec (.dmaTurn c u) s = .next t ∧ (t.queue q).asked = 1 ∧
      t.rd QU_SEQ.NEXT_SEQ q = (s.rd QU_SEQ.NEXT_SEQ q + 1) % 2 ^ 32 ∧
      t.sent = s.sent ++ [Emission.hostRead q (s.ringAddr q (s.rd QU_POS.DATA_TAIL q)) 64]) ∧
    (∀ st d p, s.halted = false → (s.rd QU_STATUS.STATE q = 1 ∨ s.rd QU_STATUS.STATE q = 2) → (s.queue q).arrived < (s.queue q).asked →
      st ≠ 0 → ∃ t, exec (.dmaCompletion q st d p) s = .next t ∧ t.rd QU_STATUS.STATE q = 3 ∧ t.rd QU_STATUS.HALT_CAUSE q = 2 ∧
      t.rd (if st = 1 then CG_ERR_STATUS.CPL_TIMEOUT else CG_ERR_STATUS.CPL_ERR) = 1) ∧
    (∀ (d : List Nat) (p : QPkt) r, s.halted = false → s.rd QU_STATUS.STATE q = 1 → s.rd QU_CTRL.DIR q = 0 → s.rd QU_CTRL.HMODE q = 0 →
      s.queue q = { Queue.cold with doorbells := r, pkts := [p], asked := 1 } → p.closed = false →
      lineCount (s.quWidth q) p.len = 1 → d.length = 64 → ∃ t, exec (.dmaCompletion q 0 d false) s = .next t ∧
      (t.queue q).pkts = [{ p with closed := true }] ∧ (t.queue q).doorbells = r.tail ∧ (t.queue q).asked = 0 ∧
      t.rd QU_POS.DATA_TAIL q = (s.rd QU_POS.DATA_TAIL q + 64) % 2 ^ 32) ∧
    (s.rd QU_STATUS.STATE q ≠ 1 → s.rd QU_STATUS.STATE q ≠ 2 → exec (.bankSwap q) s = .next s ∧ ∀ e, exec (.spillDone q e) s = .next s) ∧
    (s.rd QU_STATUS.STATE q = 1 → s.rd QU_CTRL.DIR q = 0 → s.rd QU_CTRL.HMODE q = 0 → (s.queue q).drain = [] → (s.queue q).spill = [] →
      (s.queue q).spilling = false → (s.queue q).fill.any (fun l => l.last) = true → s.rd QU_STATUS.FILL_BANK q ≤ 1 → ∃ t,
      exec (.bankSwap q) s = .next t ∧ t.rd QU_STATUS.FILL_BANK q = 1 - s.rd QU_STATUS.FILL_BANK q ∧
      (t.queue q).drain = (s.queue q).fill ∧ (t.queue q).fill = []) ∧
    ((s.rd QU_STATUS.STATE q = 1 ∨ s.rd QU_STATUS.STATE q = 2) → (s.queue q).spilling = true → ∃ t,
      exec (.spillDone q true) s = .next t ∧ t.rd QU_STATUS.STATE q = 3 ∧ t.rd QU_STATUS.HALT_CAUSE q = 4 ∧
      (t.queue q).spilling = false) ∧
    (s.rd QU_STATUS.STATE q = 1 → s.rd QU_CTRL.DIR q = 0 → (s.queue q).spilling = true → (s.queue q).pkts = [] → ∃ t,
      exec (.spillDone q false) s = .next t ∧ (t.queue q).spill = (s.queue q).spill ++ [(s.queue q).fill] ∧ (t.queue q).fill = [] ∧
      (t.queue q).spilling = false ∧ t.rd QU_STATS.SPILLS q = min (s.rd QU_STATS.SPILLS q + 1) (2 ^ 16 - 1)) ∧
    (∀ e r, s.rd QU_STATUS.STATE q = 1 → s.rd QU_CTRL.DIR q = 0 → (s.queue q).drain = [] → (s.queue q).spill = e :: r →
      (∃ t, exec (.copyBackDone q true) s = .next t ∧ t.rd QU_STATUS.STATE q = 3 ∧ t.rd QU_STATUS.HALT_CAUSE q = 4) ∧
      (∃ t, exec (.copyBackDone q false) s = .next t ∧ (t.queue q).spill = r ∧ (t.queue q).drain.length = e.length)) ∧
    ((s.queue q).notices = [] ∨ s.hostReach = false → exec (.noticeWrite q) s = .next s) ∧
    (∀ n r, (s.rd QU_STATUS.STATE q = 1 ∨ s.rd QU_STATUS.STATE q = 2) → s.hostReach = true → (s.queue q).notices = n :: r →
      (s.rd QU_POS.NOTICE_TAIL q + 2 ^ 32 - s.rd QU_HOST_HEAD.NOTICE_HEAD q) % 2 ^ 32 ≠ 2 ^ s.rd QU_NOTICE_RING.NOTICE_LOG2 q → ∃ t,
      exec (.noticeWrite q) s = .next t ∧ t.rd QU_POS.NOTICE_TAIL q = (s.rd QU_POS.NOTICE_TAIL q + 1) % 2 ^ 32 ∧
      (t.queue q).notices = r ∧
      s.sent ++ [Emission.hostWrite (s.rd QU_NOTICE_RING.BASE q * 4096 + 16 * (s.rd QU_POS.NOTICE_TAIL q % 2 ^ s.rd QU_NOTICE_RING.NOTICE_LOG2 q))
        (bytesOf 16 (s.noticeBits q n)) false false] <+: t.sent) ∧
    (s.rd QU_IRQ.COAL_TIME q ≠ 0 → s.rd QU_IRQ.IRQ_EN q ≠ 0 → 0 < (s.queue q).unsignalled → ∃ t, exec (.coalesceTimer q) s = .next t ∧
      (t.queue q).unsignalled = 0) ∧
    (s.rd QU_IRQ.COAL_TIME q = 0 ∨ s.rd QU_IRQ.IRQ_EN q = 0 ∨ (s.queue q).unsignalled = 0 → exec (.coalesceTimer q) s = .next s) ∧
    (∀ v, v < 2048 → Tab.get false s.msix.merged v = true → s.hostReach = true → s.msix.enable = true → s.msix.functionMask = false →
      Tab.get false s.msix.unmasked v = true → ∃ t, exec (.msixGapEnd v) s = .next t ∧ t.sent = s.sent ++ [Emission.msix v] ∧
      Tab.get false t.msix.merged v = false) ∧
    (∀ v, v < 2048 → Tab.get false s.msix.merged v = false → ∃ t, exec (.msixGapEnd v) s = .next t ∧
      Tab.get false t.msix.inGap v = false ∧ t.sent = s.sent ∧ t.regs = s.regs) ∧
    (∀ v, v < 2048 → s.msix.pending = [(v, true)] → s.hostReach = true → s.msix.enable = true → s.msix.functionMask = false →
      Tab.get false s.msix.inGap v = false → ∃ t, exec (.msixUnmask v) s = .next t ∧ t.sent = s.sent ++ [Emission.msix v] ∧ t.msix.pending = []) ∧
    (∀ n b, n < 640 → b < 16 → s.inUse n = true → ((s.stope n).bqmode b = 2 ∨ (s.stope n).bqmode b = 3) →
      s.binQueue n b (decide ((s.stope n).bqmode b = 2)) = some q → ∃ t, exec (.binLinkWrite n b true) s = .next t ∧
      t.rd QU_STATUS.STATE q = 3 ∧ t.rd QU_STATUS.HALT_CAUSE q = 6 ∧
      s.regsKeptBut t [QU_STATUS.STATE.key q, QU_STATUS.HALT_CAUSE.key q] ∧ { t with regs := s.regs } = s) ∧
    (∀ n b, n < 640 → b < 16 → s.inUse n = true → (s.stope n).bqmode b = 2 → s.binQueue n b true = some q → ∃ t,
      exec (.binLinkWrite n b false) s = .next t ∧ (t.binEnd n b).run = []) ∧
    (∀ n b, n < 640 → b < 16 → s.binQueue n b (decide ((s.stope n).bqmode b = 2)) = none → ∀ e, exec (.binLinkWrite n b e) s = .next s)

/-- A request at its network interface (13 R345, R350, R353 to R355; 01 R31, R35). One to no window is answered NOWIN, one that crosses a
64-byte boundary SIZE, one whose route entry is withdrawn NOROUTE, each counted in `NOROUTE` and held for presentation where a stope port
sent it; a stope that is not in use sends none, and without the ROOT clocks nothing moves. A
non-posted request takes the lowest free tag, copies its route entry and enters the network at its NI's switch, with the NI's priority, which
a Headframe initiator may raise. A request for which the bucket holds too few flits waits, and so does one behind it from the same stope port;
one that fits takes its flits. A refill gives the bucket `RATE` flits back. -/
def Obligations.GalleryRequests : Prop :=
  ∀ (s : State) (r : GalReq), r.ni < 662 → r.op < 3 →
    (r.ni < 640 → s.inUse r.ni = false → exec (.galleryRequest r) s = .next s) ∧
    (s.rootRuns = false → exec (.galleryRequest r) s = .next s) ∧
    (∀ (d : Nat), s.rootRuns = true → (640 ≤ r.ni ∨ s.inUse r.ni = true) → r.engine = none →
      (s.decodeNi r.addr = none → r.op ≠ 2 → ∃ t, exec (.galleryRequest r) s = .next t ∧
        t.rd GL_NI_STAT.NOROUTE 0 r.ni = min (s.rd GL_NI_STAT.NOROUTE 0 r.ni + 1) 65535 ∧ t.sent = s.sent ++ [Emission.answered r.ni 0 2 0 false] ∧
        s.regsKeptBut t [GL_NI_STAT.NOROUTE.key 0 r.ni] ∧ { t with regs := s.regs, sent := s.sent, stopes := s.stopes } = s ∧
        (r.ni < 640 → (t.stope r.ni).masters = (s.stope r.ni).masters ++ [⟨1024, decide (r.op = 1), some (0, true, false)⟩])) ∧
      (s.decodeNi r.addr = some d → r.op ≠ 2 → (r.size = 0 ∨ 64 < r.addr % 64 + r.size) → ∃ t, exec (.galleryRequest r) s = .next t ∧
        t.rd GL_NI_STAT.NOROUTE 0 r.ni = min (s.rd GL_NI_STAT.NOROUTE 0 r.ni + 1) 65535 ∧ t.sent = s.sent ++ [Emission.answered r.ni 0 5 0 false] ∧
        s.regsKeptBut t [GL_NI_STAT.NOROUTE.key 0 r.ni] ∧ { t with regs := s.regs, sent := s.sent, stopes := s.stopes } = s ∧
        (r.ni < 640 → (t.stope r.ni).masters = (s.stope r.ni).masters ++ [⟨1024, decide (r.op = 1), some (0, true, false)⟩])) ∧
      (s.decodeNi r.addr = some d → 0 < r.size → r.addr % 64 + r.size ≤ 64 → s.rd GL_ROUTE.VALID 0 (routeIdx r.ni d) = 0 →
        ∃ t, exec (.galleryRequest r) s = .next t ∧
        t.rd GL_NI_STAT.NOROUTE 0 r.ni = min (s.rd GL_NI_STAT.NOROUTE 0 r.ni + 1) 65535 ∧
        t.sent = (if r.op = 2 then s.sent else s.sent ++ [Emission.answered r.ni 0 6 0 false]) ∧
        s.regsKeptBut t [GL_NI_STAT.NOROUTE.key 0 r.ni] ∧ { t with regs := s.regs, sent := s.sent, stopes := s.stopes } = s ∧
        (r.ni < 640 → r.op ≠ 2 → (t.stope r.ni).masters = (s.stope r.ni).masters ++ [⟨1024, decide (r.op = 1), some (0, true, false)⟩])) ∧
      (∀ e tag, s.decodeNi r.addr = some d → e = routeIdx r.ni d → 0 < r.size → r.addr % 64 + r.size ≤ 64 →
        s.rd GL_ROUTE.VALID 0 e ≠ 0 → r.op ≠ 2 → 640 ≤ r.ni → s.freeTag r.ni = some tag → ∃ t, exec (.galleryRequest r) s = .next t ∧
        t.gallery.packets = s.gallery.packets ++ [⟨r,
          (if r.ni < 644 then s.rd GL_NI_CFG.PRI 0 r.ni else max (s.rd GL_NI_CFG.PRI 0 r.ni) (min r.pri 3)), tag, d,
          ⟨s.rd GL_ROUTE.SX 0 e, s.rd GL_ROUTE.SY 0 e, s.rd GL_ROUTE.SJ 0 e, s.rd GL_ROUTE.MG 0 e, s.rd GL_ROUTE.DSJ 0 e,
            s.rd GL_ROUTE.DY 0 e⟩, (if r.ni < 644 then .shaft (r.ni - 640) false else .main), r.poison, false⟩] ∧
        t.gallery.tags = s.gallery.tags ++ [(r.ni, tag, false)] ∧ t.gallery.held = s.gallery.held ∧ t.sent = s.sent ∧
        s.regsKeptBut t [GL_NI_STAT.OUTSTANDING.key 0 r.ni] ∧ { t with regs := s.regs, gallery := s.gallery } = s) ∧
      (s.decodeNi r.addr = some d → 0 < r.size → r.addr % 64 + r.size ≤ 64 → s.rd GL_ROUTE.VALID 0 (routeIdx r.ni d) ≠ 0 →
        r.ni < 640 → s.rd GL_NI_CFG.REG_EN 0 r.ni ≠ 0 →
        s.rd GL_NI_CFG.BURST 0 r.ni < Tab.get 0 s.gallery.short r.ni + (1 + (if r.op = 0 then 0 else (r.addr % 16 + r.size + 15) / 16)) →
        ∃ t, exec (.galleryRequest r) s = .next t ∧ t = { s with gallery := { s.gallery with held := s.gallery.held ++ [r] } }) ∧
      (s.decodeNi r.addr = some d → 0 < r.size → r.addr % 64 + r.size ≤ 64 → s.rd GL_ROUTE.VALID 0 (routeIdx r.ni d) ≠ 0 →
        r.ni < 640 → s.gallery.held.any (fun q => decide (q.ni = r.ni ∧ q.engine = r.engine)) = true →
        ∃ t, exec (.galleryRequest r) s = .next t ∧ t = { s with gallery := { s.gallery with held := s.gallery.held ++ [r] } }) ∧
      (s.decodeNi r.addr = some d → 0 < r.size → r.addr % 64 + r.size ≤ 64 → s.rd GL_ROUTE.VALID 0 (routeIdx r.ni d) ≠ 0 →
        r.ni < 640 → s.gallery.held = [] → r.op = 2 → s.rd GL_NI_CFG.REG_EN 0 r.ni ≠ 0 →
        Tab.get 0 s.gallery.short r.ni + (1 + (r.addr % 16 + r.size + 15) / 16) ≤ s.rd GL_NI_CFG.BURST 0 r.ni →
        ∃ t, exec (.galleryRequest r) s = .next t ∧ t.gallery.packets.length = s.gallery.packets.length + 1 ∧
        t.gallery.tags = s.gallery.tags ∧
        Tab.get 0 t.gallery.short r.ni = Tab.get 0 s.gallery.short r.ni + (1 + (r.addr % 16 + r.size + 15) / 16))) ∧
    (r.ni < 640 → s.rd GL_NI_CFG.REG_EN 0 r.ni ≠ 0 → s.gallery.held = [] → ∃ t, exec (.regulatorRefill r.ni) s = .next t ∧
      Tab.get 0 t.gallery.short r.ni = Tab.get 0 s.gallery.short r.ni - s.rd GL_NI_CFG.RATE 0 r.ni ∧
      { t with gallery := s.gallery } = s) ∧
    (∀ e, e < 64 → s.rd GL_ENG_REG.REG_EN 0 e = 0 → exec (.regulatorRefill (1024 + e)) s = .next s)

/-- The switches and the initiators' bookkeeping (13 R348 to R360). A packet that may move makes one hop by its route fields alone: east or
west, then north or south, through the shaft by `SJ` or `DSJ`, over the main gallery by `MG`, north again, and is delivered. An
uncorrectable header loses it, counted and recorded; a packet that leaves the mesh or reaches another NI is lost as a route error. Promotion
marks a packet on the main gallery. A response frees its tag and reaches its initiator; after a timeout, which answers by itself, the tag is
quarantined, and a late response is counted or the quarantine ends. A route entry that would break the shape of R349 is refused. -/
def Obligations.GalleryHops : Prop :=
  ∀ (s : State),
    (∀ i, s.gallery.packets.length ≤ i → ∀ c x h u, exec (.packetHop i c x h u) s = .next s) ∧
    (∀ i (p : Packet), s.gallery.packets[i]? = some p → s.gallery.mayHop i p = false → ∀ c x h u, exec (.packetHop i c x h u) s = .next s) ∧
    (∀ (i c : Nat) (p : Packet), s.gallery.packets[i]? = some p → s.gallery.mayHop i p = true → p.req.engine = none → p.req.op < 5 →
      (∀ x u, s.rd GL_ERR.VALID = 0 → p.place.code < 4096 → ∃ t, exec (.packetHop i c x true u) s = .next t ∧
        t.gallery.packets = s.gallery.packets.eraseIdx i ∧ t.rd GL_STATUS.CE_COUNT = min (s.rd GL_STATUS.CE_COUNT + c) (2 ^ 32 - 1) ∧
        t.rd GL_STATUS.HDR_DROP = min (s.rd GL_STATUS.HDR_DROP + 1) 65535 ∧ t.rd GL_ERR.VALID = 1 ∧ t.rd GL_ERR.KIND = 1 ∧
        t.rd GL_ERR.WHERE = p.place.code ∧ t.rd GL_ERR.SRC = 0) ∧
      (∀ n, p.place = .junction n → p.route.sx % 16 ≠ 0 → p.route.sx < 16 → n % 10 < 9 → ∃ t, exec (.packetHop i c 0 false false) s = .next t ∧
        t.gallery = { s.gallery with
          packets := s.gallery.packets.set i { p with place := .junction (n + 1), route := { p.route with sx := p.route.sx - 1 } } } ∧
        s.regsKeptBut t [GL_STATUS.CE_COUNT.key]) ∧
      (∀ n, p.place = .junction n → p.route.sx % 16 ≠ 0 → 16 ≤ p.route.sx → n % 10 ≠ 0 → ∃ t, exec (.packetHop i c 0 false false) s = .next t ∧
        t.gallery = { s.gallery with
          packets := s.gallery.packets.set i { p with place := .junction (n - 1), route := { p.route with sx := p.route.sx - 1 } } }) ∧
      (∀ n, p.place = .junction n → p.route.sx % 16 = 0 → p.route.sy % 32 ≠ 0 → 32 ≤ p.route.sy → ∃ t,
        exec (.packetHop i c 0 false false) s = .next t ∧
        t.gallery = { s.gallery with
          packets := s.gallery.packets.set i { p with
            place := (if n % 160 / 10 = 0 then .shaft (n / 160) false else .junction (n - 10)),
            route := { p.route with sy := p.route.sy - 1 } } }) ∧
      (∀ n, p.place = .junction n → p.route.sx % 16 = 0 → p.route.sy % 32 = 0 → p.route.dy ≠ 0 → n % 160 / 10 < 15 → ∃ t,
        exec (.packetHop i c 0 false true) s = .next t ∧
        t.gallery = { s.gallery with
          packets := s.gallery.packets.set i { p with
            place := .junction (n + 10),
            route := { p.route with dy := p.route.dy - 1 },
            bad := true } }) ∧
      (∀ k l e, p.place = .shaft k l → e = (if l then p.route.dsj else p.route.sj) → e ≤ 9 → ∃ t,
        exec (.packetHop i c 0 false false) s = .next t ∧
        t.gallery = { s.gallery with packets := s.gallery.packets.set i { p with place := .junction (160 * k + e) } }) ∧
      (∀ k, p.place = .shaft k false → p.route.sj = 11 → ∃ t, exec (.packetHop i c 0 false false) s = .next t ∧
        t.gallery = { s.gallery with packets := s.gallery.packets.set i { p with place := .main } }) ∧
      (p.place = .main → p.route.mg < 4 → ∃ t, exec (.packetHop i c 0 false false) s = .next t ∧
        t.gallery = { s.gallery with packets := s.gallery.packets.set i { p with place := .shaft p.route.mg true } }) ∧
      (p.place = .main → 4 ≤ p.route.mg → p.route.mg < 22 → p.dst = 640 + p.route.mg → ∃ t, exec (.packetHop i c 0 false false) s = .next t ∧
        t.gallery.packets = s.gallery.packets.eraseIdx i ∧ t.sent = s.sent ++ [Emission.delivered p.dst { p.req with poison := p.bad } p.tag]) ∧
      (∀ n, p.place = .junction n → p.route.sx % 16 = 0 → p.route.sy % 32 = 0 → p.route.dy = 0 → p.dst = n → ∃ t,
        exec (.packetHop i c 0 false false) s = .next t ∧ t.gallery.packets = s.gallery.packets.eraseIdx i ∧
        t.sent = s.sent ++ [Emission.delivered n { p.req with poison := p.bad } p.tag]) ∧
      (∀ n k, ((p.route.move p.place = (.ni n, p.route) ∧ n ≠ p.dst ∧ k = 3) ∨ ((p.route.move p.place).1 = .off ∧ k = 2)) →
        s.rd GL_ERR.VALID = 0 → ∃ t, exec (.packetHop i c 0 false false) s = .next t ∧ t.sent = s.sent ∧
        t.gallery.packets = s.gallery.packets.eraseIdx i ∧
        t.rd GL_STATUS.ROUTE_ERR = min (s.rd GL_STATUS.ROUTE_ERR + 1) 65535 ∧ t.rd GL_ERR.KIND = k) ∧
      (p.place = .main → ∃ t, exec (.agePromotion i) s = .next t ∧
        t = { s with gallery := { s.gallery with packets := s.gallery.packets.set i { p with aged := true } } }) ∧
      (p.place ≠ .main → exec (.agePromotion i) s = .next s)) ∧
    (∀ n g, n < 662 →
      (s.tagState n g = none → exec (.galleryTimeout n g) s = .next s ∧ exec (.tagRelease n g) s = .next s ∧
        ∀ x d p, exec (.galleryResponse n g x d p) s = .next s) ∧
      (s.tagState n g = some false → exec (.tagRelease n g) s = .next s) ∧
      (∀ x d p, s.tagState n g = some false → s.gallery.held = [] → (n < 653 ∨ n = 661) → ∃ t, exec (.galleryResponse n g x d p) s = .next t ∧
        t.tagState n g = none ∧ t.sent = s.sent ++ [Emission.answered n g x d p] ∧ s.regsKeptBut t [GL_NI_STAT.OUTSTANDING.key 0 n]) ∧
      (∀ x d p, s.tagState n g = some true → s.gallery.held = [] → ∃ t, exec (.galleryResponse n g x d p) s = .next t ∧ t.tagState n g = none ∧
        t.sent = s.sent ∧ t.rd GL_NI_STAT.LATE 0 n = min (s.rd GL_NI_STAT.LATE 0 n + 1) 65535 ∧
        s.regsKeptBut t [GL_NI_STAT.OUTSTANDING.key 0 n, GL_NI_STAT.LATE.key 0 n]) ∧
      (s.tagState n g = some false → (n < 653 ∨ n = 661) → ∃ t, exec (.galleryTimeout n g) s = .next t ∧ t.tagState n g = some true ∧
        t.sent = s.sent ++ [Emission.answered n g 3 0 false] ∧ t.rd GL_NI_STAT.TIMEOUTS 0 n = min (s.rd GL_NI_STAT.TIMEOUTS 0 n + 1) 65535 ∧
        s.regsKeptBut t [GL_NI_STAT.TIMEOUTS.key 0 n]) ∧
      (s.tagState n g = some true → exec (.galleryTimeout n g) s = .next s) ∧
      (s.tagState n g = some true → s.gallery.held = [] → ∃ t, exec (.tagRelease n g) s = .next t ∧ t.tagState n g = none ∧ t.sent = s.sent ∧
        s.regsKeptBut t [GL_NI_STAT.OUTSTANDING.key 0 n])) ∧
    (∀ n d v, n < 662 → d < 662 →
      (routeOk n d v = true → ∃ t, exec (.routeWrite n d v) s = .next t ∧ t.rd GL_ROUTE.SX 0 (routeIdx n d) = v % 32 ∧
        t.rd GL_ROUTE.SY 0 (routeIdx n d) = v / 32 % 64 ∧ t.rd GL_ROUTE.SJ 0 (routeIdx n d) = v / 2048 % 16 ∧
        t.rd GL_ROUTE.MG 0 (routeIdx n d) = v / 2 ^ 15 % 32 ∧ t.rd GL_ROUTE.DSJ 0 (routeIdx n d) = v / 2 ^ 20 % 16 ∧
        t.rd GL_ROUTE.DY 0 (routeIdx n d) = v / 2 ^ 24 % 16 ∧ t.rd GL_ROUTE.VALID 0 (routeIdx n d) = v / 2 ^ 63 % 2 ∧
        { t with regs := s.regs } = s) ∧
      (routeOk n d v = false → ∃ t, exec (.routeWrite n d v) s = .next t ∧ t.rd GL_CTRL.CFG_ERR = 1 ∧
        s.regsKeptBut t [GL_CTRL.CFG_ERR.key] ∧ { t with regs := s.regs } = s))

/-- The DRAM channels (14 R363 to R387). Before the map is final, an empty, unsupported, mixed or recorded-bad channel is held out with
its cause; an admitted one enters TRAINING with its rate and capacity (at most 128 GiB) and joins the map. A stored set that verifies, or a
full training that passes, makes it READY; a failure holds it out, clears every DRAM byte and sets `REMAPPED`. The device area is placed
downward from the top where it leaves 1 GiB, and the map is final from then on. `REPLAN` places it again only while the Winder is UNLOADED,
the loader IDLE, the queues disabled and logging and tracing off. A postponed refresh is owed up to the limit, and owed ones go out in one
burst. A write-back cleans the stored page; the end of a fill makes its block live and gives the tracker to the next; a flip is armed; the
thermal sensor shows in `HOT`. -/
def Obligations.DramChannels : Prop :=
  ∀ (s : State) (c : Nat), c < 8 →
    (∀ (p : Population), (s.rd DC_STATUS.STATE c ≠ 0 ∨ s.rd PC_MAP.FINAL ≠ 0 ∨ s.ready 0 = false) → exec (.channelTrain c p) s = .next s) ∧
    (∀ (p : Population), s.rd DC_STATUS.STATE c = 0 → s.rd PC_MAP.FINAL = 0 → s.ready 0 = true →
      (p.dimms = 0 → ∃ t, exec (.channelTrain c p) s = .next t ∧ t.rd DC_STATUS.STATE c = 3 ∧ t.rd DC_STATUS.HOLD_CAUSE c = 1 ∧
        t.bit PC_MAP.SET c = false) ∧
      (p.dimms ≠ 0 → p.supported = false → ∃ t, exec (.channelTrain c p) s = .next t ∧ t.rd DC_STATUS.STATE c = 3 ∧
        t.rd DC_STATUS.HOLD_CAUSE c = 2) ∧
      (p.dimms ≠ 0 → p.supported = true → p.same = false → ∃ t, exec (.channelTrain c p) s = .next t ∧ t.rd DC_STATUS.STATE c = 3 ∧
        t.rd DC_STATUS.HOLD_CAUSE c = 3) ∧
      (p.dimms ≠ 0 → p.supported = true → p.same = true → (c, p.serials) ∈ s.fm.record.failed → ∃ t, exec (.channelTrain c p) s = .next t ∧
        t.rd DC_STATUS.STATE c = 3 ∧ t.rd DC_STATUS.HOLD_CAUSE c = 5) ∧
      (p.dimms ≠ 0 → p.supported = true → p.same = true → s.fm.record.failed = [] → ∃ t, exec (.channelTrain c p) s = .next t ∧
        t.rd DC_STATUS.STATE c = 1 ∧ t.rd DC_STATUS.RATE c = p.rate % 8 ∧ t.rd DC_STATUS.CAP_GIB c = min 128 p.gib ∧
        t.rd DC_STATUS.CAP_TRUNC c = (if 128 < p.gib then 1 else 0) ∧ t.bit PC_MAP.SET c = true ∧
        t.rd DC_TRAIN.STORED_TRIED c = (if (c, p.serials, p.rate) ∈ s.fm.record.trained then 1 else 0))) ∧
    (∀ x f m l, s.rd DC_STATUS.STATE c ≠ 1 → exec (.trainingDone c x f m l []) s = .next s) ∧
    (∀ f n ms, s.rd DC_STATUS.STATE c = 1 → s.rd DC_TRAIN.STORED_TRIED c ≠ 0 → ∃ t, exec (.trainingDone c true f n ms []) s = .next t ∧
      t.rd DC_STATUS.STATE c = 2 ∧ t.ready (2 + c) = true ∧ t.rd DC_TRAIN.STORED_OK c = 1 ∧ t.rd DC_TRAIN.FULL_TRIED c = 0 ∧
      t.rd DC_TRAIN.TRAIN_MS c = ms % 2 ^ 16 ∧ t.stepEnded (7 + c) = true) ∧
    (∀ x n ms, s.rd DC_STATUS.STATE c = 1 → s.rd DC_TRAIN.STORED_TRIED c = 0 → ∃ t, exec (.trainingDone c x true n ms []) s = .next t ∧
      t.rd DC_STATUS.STATE c = 2 ∧ t.ready (2 + c) = true ∧ t.rd DC_TRAIN.STORED_OK c = 0 ∧ t.rd DC_TRAIN.FULL_OK c = 1) ∧
    (∀ x n ms, s.rd DC_STATUS.STATE c = 1 → s.rd DC_TRAIN.STORED_TRIED c = 0 → s.dram.queue = [] → s.dram.combiner = [] → ∃ t,
      exec (.trainingDone c x false n ms []) s = .next t ∧
      t.rd DC_STATUS.STATE c = 3 ∧ t.rd DC_STATUS.HOLD_CAUSE c = 4 ∧ t.bit PC_MAP.SET c = false ∧ t.rd PC_MAP.REMAPPED = 1 ∧
      t.rd DC_TRAIN.FAIL_STEP c = n % 16 ∧ t.dram.pages = [] ∧ t.mem = s.mem.filter (fun m => decide (2 ^ 40 ≤ m.1))) ∧
    ((s.rd PC_MAP.FINAL ≠ 0 ∨ s.stepEnded (7 + c) = false) → exec .area s = .next s) ∧
    (∀ sz, s.rd PC_MAP.FINAL = 0 → (∀ k, k < 8 → s.stepEnded (7 + k) = true) →
      sz = 720 + s.rd PC_PLAN0.STORE + s.rd PC_PLAN0.PJ_RING + s.rd PC_PLAN0.STAMP + s.rd PC_PLAN0.LOG + s.rd PC_PLAN1.SPILL +
        s.rd PC_PLAN1.TRACE → sz + 512 ≤ s.rd PC_MAP.TOP_GIB * 512 → s.rd PC_MAP.TOP_GIB ≤ 1024 → ∃ t, exec .area s = .next t ∧
      t.rd PC_MAP.FINAL = 1 ∧ t.rd PC_AREA.OK = 1 ∧ t.rd PC_AREA.SIZE = sz ∧ t.rd PC_AREA.BASE = s.rd PC_MAP.TOP_GIB * 512 - sz ∧
      t.rd CF_SHADOW_BASE.BASE = s.rd PC_MAP.TOP_GIB * 512 - 720 ∧ t.rd CF_SHADOW_BASE.SHADOW_OK = 1 ∧
      t.rd LP_TRACE_RING.BASE = s.rd PC_MAP.TOP_GIB * 512 - sz ∧ t.rd LP_TRACE_RING.SIZE = s.rd PC_PLAN1.TRACE ∧
      t.rd LP_TRACE_RING.OK = 1) ∧
    (s.rd PC_MAP.FINAL = 0 → (∀ k, k < 8 → s.stepEnded (7 + k) = true) → s.rd PC_MAP.TOP_GIB * 512 < 720 + 512 → ∃ t,
      exec .area s = .next t ∧ t.rd PC_MAP.FINAL = 1 ∧ t.rd PC_AREA.OK = 0 ∧ t.rd CF_SHADOW_BASE.SHADOW_OK = 0) ∧
    ((s.rd WD_STATUS.STATE ≠ 0 ∨ s.rd CF_LD_STATUS.STATE ≠ 0 ∨ s.rd QU_STATUS.STATE c ≠ 0 ∨ s.rd WD_SMP_CTRL.LOG_EN ≠ 0 ∨
      s.rd WD_SMP_CTRL.PJ_EN ≠ 0 ∨ s.rd LP_TRACE_CTRL.RING_EN ≠ 0) → ∃ t, exec .replan s = .next t ∧ t.rd PC_CTRL.REPLAN_ERR = 1 ∧
      s.regsKeptBut t [PC_CTRL.REPLAN_ERR.key] ∧ { t with regs := s.regs } = s) ∧
    (∀ sz, s.rd WD_STATUS.STATE = 0 → s.rd CF_LD_STATUS.STATE = 0 → (List.range 4096).all (fun q => s.rd QU_STATUS.STATE q == 0) = true →
      s.rd WD_SMP_CTRL.LOG_EN = 0 → s.rd WD_SMP_CTRL.PJ_EN = 0 → s.rd LP_TRACE_CTRL.RING_EN = 0 →
      sz = 720 + s.rd PC_PLAN0.STORE + s.rd PC_PLAN0.PJ_RING + s.rd PC_PLAN0.STAMP + s.rd PC_PLAN0.LOG + s.rd PC_PLAN1.SPILL +
        s.rd PC_PLAN1.TRACE → sz + 512 ≤ s.rd PC_MAP.TOP_GIB * 512 → s.rd PC_MAP.TOP_GIB ≤ 1024 → ∃ t, exec .replan s = .next t ∧
      t.rd PC_AREA.OK = 1 ∧ t.rd PC_AREA.SIZE = sz ∧ t.rd PC_AREA.BASE = s.rd PC_MAP.TOP_GIB * 512 - sz ∧
      { t with regs := s.regs } = s) ∧
    (∀ k owed, k < 4 → owed = Tab.get 0 s.dram.owed (4 * c + k) →
      (owed < s.rd DC_SCHED.REF_POSTPONE c → ∃ t, exec (.refreshDue c k true) s = .next t ∧
        Tab.get 0 t.dram.owed (4 * c + k) = owed + 1 ∧ s.regsKeptBut t [DC_REFRESH.OWED.key c]) ∧
      (s.rd DC_SCHED.REF_POSTPONE c ≤ owed → exec (.refreshDue c k true) s = .next s) ∧
      (owed = 0 → s.dram.queue = [] → exec (.refreshDue c k false) s = .next s) ∧
      (owed ≠ 0 → s.dram.queue = [] → ∃ t, exec (.refreshDue c k false) s = .next t ∧ Tab.get 0 t.dram.owed (4 * c + k) = 0 ∧
        t.rd DC_REFRESH.BURSTS c = min (s.rd DC_REFRESH.BURSTS c + 1) (2 ^ 32 - 1) ∧
        s.regsKeptBut t [DC_REFRESH.OWED.key c, DC_REFRESH.BURSTS.key c])) ∧
    (∀ p, (p ∉ s.dram.writebacks ∨ s.halted = true) → exec (.dramWriteback p) s = .next s) ∧
    (∀ p, p ∈ s.dram.writebacks → s.halted = false → ∃ t, exec (.dramWriteback p) s = .next t ∧ p ∉ t.dram.writebacks ∧
      t.page p = { s.page p with errs := [] } ∧ { t with dram := s.dram } = s) ∧
    (∀ b, s.dram.fills.any (fun f => decide (f.chan = c ∧ f.block = b)) = false → exec (.fillComplete c b) s = .next s) ∧
    (∀ b, b < 2 ^ 21 → s.dram.fills.any (fun f => decide (f.chan = c ∧ f.block = b)) = true → s.halted = false → s.dram.trackerWait = [] →
      ∃ t, exec (.fillComplete c b) s = .next t ∧ t.isLive c b = true ∧
      t.dram.fills = s.dram.fills.filter (fun f => !decide (f.chan = c ∧ f.block = b)) ∧
      s.regsKeptBut t [DC_FRESH.FILLS.key c, DC_FRESH.TRACKER_WAIT.key c, DC_FRESH.LIVE.key c]) ∧
    (∀ v, ∃ t, exec (.flipArm c v) s = .next t ∧ t.rd DC_FLIP_CTRL.ARM c = 1 ∧ t.rd DC_FLIP_CTRL.VAL c = v % 256 ∧
      t.rd DC_FLIP_CTRL.MATCH_EN c = v / 512 % 2 ∧ t.rd DC_FLIP_CTRL.MATCH c = v / 2 ^ 32 % 2 ^ 30 ∧
      s.regsKeptBut t [DC_FLIP_CTRL.ARM.key c, DC_FLIP_CTRL.VAL.key c, DC_FLIP_CTRL.MATCH_EN.key c, DC_FLIP_CTRL.MATCH.key c] ∧
      { t with regs := s.regs } = s) ∧
    (∀ h, ∃ t, exec (.dimmThermalSensor c h) s = .next t ∧ t.rd DC_STATUS.HOT c = (if h then 1 else 0) ∧
      s.regsKeptBut t [DC_STATUS.HOT.key c] ∧ { t with regs := s.regs } = s)

/-- Accesses to the DRAM window (14 R368 to R384; 15 R393, R396, R405; 01 R28, R35). A halted part, an address at or above the top or one in a
tree region answers TARGET; a crossing SIZE; a channel that is not ready NOTREADY. A request whose range is held waits, and so does one
for which no bank accepts a command. An open page that decodes cleanly answers the bytes
stored; a corrected one as well, counted and queued for its write-back; an uncorrectable one answers poison and is counted; a page that fails
its tag halts the part. A write changes exactly the enabled bytes, clears the page's errors and takes the write's poison mark. A half-page
write waits in the combiner, its answer with it, until its other half joins it, both answered, or its time is up. -/
def Obligations.DramAccesses : Prop :=
  ∀ (s : State) (r : DramReq) (v : DramView) (c page : Nat), r.addr < 2 ^ 40 → c = (s.dramPlace r.addr).1 → page = r.addr / 128 →
    (s.halted = true → ∃ t, exec (.dramRead r v) s = .next t ∧
      t = { s with sent := s.sent ++ [Emission.response (645 + c) r.src r.tag 1 0 false] }) ∧
    (s.halted = false → (r.len = 0 ∨ 64 < r.addr % 64 + r.len) → ∃ t, exec (.dramRead r v) s = .next t ∧
      t = { s with sent := s.sent ++ [Emission.response (645 + c) r.src r.tag 5 0 false] }) ∧
    (s.halted = false → 0 < r.len → r.addr % 64 + r.len ≤ 64 → s.ready (2 + c) = false → r.foreman = false → ∃ t,
      exec (.dramRead r v) s = .next t ∧ t = { s with sent := s.sent ++ [Emission.response (645 + c) r.src r.tag 4 0 false] }) ∧
    (s.halted = false → 0 < r.len → r.addr % 64 + r.len ≤ 64 → s.ready (2 + c) = true →
      (s.rd PC_MAP.TOP_GIB * 2 ^ 30 ≤ r.addr → ∃ t, exec (.dramRead r v) s = .next t ∧
        t = { s with sent := s.sent ++ [Emission.response (645 + c) r.src r.tag 1 0 false] }) ∧
      (r.addr < s.rd PC_MAP.TOP_GIB * 2 ^ 30 → (s.rangeHolds r.addr = true ∨ s.restoreHolds r.addr = true) → ∃ t, exec (.dramRead r v) s = .next t ∧
        t = { s with dram := { s.dram with heldReqs := s.dram.heldReqs ++ [{ r with data := [], posted := false }] } }) ∧
      (r.addr < s.rd PC_MAP.TOP_GIB * 2 ^ 30 → s.rangeHolds r.addr = false → s.restoreHolds r.addr = false → s.inTree r.addr = true → ∃ t, exec (.dramRead r v) s = .next t ∧
        t = { s with sent := s.sent ++ [Emission.response (645 + c) r.src r.tag 1 0 false] }) ∧
      (r.addr < s.rd PC_MAP.TOP_GIB * 2 ^ 30 → s.rangeHolds r.addr = false → s.restoreHolds r.addr = false → s.inTree r.addr = false →
        s.dram.queue = [] → v.busy = true → ∃ t, exec (.dramRead r v) s = .next t ∧
        t = { s with dram := { s.dram with queue := [⟨c, { r with data := [], posted := false }, v, 0⟩] } }) ∧
      (r.addr < s.rd PC_MAP.TOP_GIB * 2 ^ 30 → s.rangeHolds r.addr = false → s.restoreHolds r.addr = false → s.inTree r.addr = false →
        s.dram.queue = [] → v.busy = false → s.dram.combiner = [] →
        s.protectedBy (page * 128) = none →
        (s.decodePage page v = .clean → v.tampered = false → (s.page page).poison = false → ∃ t, exec (.dramRead r v) s = .next t ∧
          t = { s with sent := s.sent ++ [Emission.response (645 + c) r.src r.tag 0 (bytesNat (s.loadBytes r.addr r.len)) false] }) ∧
        (∀ e, s.decodePage page v = .corrected e → v.tampered = false → (s.page page).poison = false → ∃ t,
          exec (.dramRead r v) s = .next t ∧ t.rd DC_ECC.CE_COUNT c = min (s.rd DC_ECC.CE_COUNT c + 1) (2 ^ 32 - 1) ∧
          page ∈ t.dram.writebacks ∧ t.mem = s.mem ∧
          t.sent = s.sent ++ [Emission.response (645 + c) r.src r.tag 0 (bytesNat (s.loadBytes r.addr r.len)) false]) ∧
        (∀ e, s.decodePage page v = .uncorrectable e → ∃ t, exec (.dramRead r v) s = .next t ∧
          t.rd DC_ECC.UE_COUNT c = min (s.rd DC_ECC.UE_COUNT c + 1) (2 ^ 16 - 1) ∧ t.mem = s.mem ∧ t.dram = s.dram ∧
          t.sent.getLast? = some (.response (645 + c) r.src r.tag 0
            (bytesNat (((s.pageBytes page v (.uncorrectable e)).1.drop (r.addr % 128)).take r.len)) true)) ∧
        (s.tagFails page v = true → ∃ t, exec (.dramRead r v) s = .next t ∧ t.halted = true ∧ t.rd EN_HALT.KIND = 1 ∧
          t.rd EN_HALT_ADDR.ADDR = page * 128 ∧ t.rd WD_STATUS.STATE = 4 ∧ t.mem = s.mem ∧
          t.sent.getLast? = some (.response (645 + c) r.src r.tag 1 0 false)))) ∧
    (s.halted = false → 0 < r.data.length → r.addr % 64 + r.data.length ≤ 64 → s.ready (2 + c) = true →
      r.addr < s.rd PC_MAP.TOP_GIB * 2 ^ 30 → s.rangeHolds r.addr = false → s.restoreHolds r.addr = false → s.inTree r.addr = false →
      s.dram.queue = [] → v.busy = false → s.dram.combiner = [] →
      s.protectedBy (page * 128) = none → s.rd WD_SMP_CTRL.PJ_EN = 0 → s.rd DC_FLIP_CTRL.ARM c = 0 →
      (s.decodePage page v = .clean → v.tampered = false → (s.page page).poison = false → s.rd DC_SCHED.WC_EN c = 0 → ∃ t,
        exec (.dramWrite r v) s = .next t ∧
        (∀ i, i < r.data.length → r.be.testBit i = true → t.byte (r.addr + i) = BitVec.ofNat 8 (r.data.getD i 0)) ∧
        (∀ a, (a < r.addr ∨ r.addr + r.data.length ≤ a ∨ r.be.testBit (a - r.addr) = false) → t.byte a = s.byte a) ∧
        t.page page = ⟨r.poison, [], true⟩ ∧
        t.sent = (if r.posted then s.sent else s.sent ++ [Emission.response (645 + c) r.src r.tag 0 0 false])) ∧
      (s.rd DC_SCHED.WC_EN c ≠ 0 → r.data.length = 64 → r.addr % 64 = 0 → r.be % 2 ^ 64 = 2 ^ 64 - 1 → ∃ t,
        exec (.dramWrite r v) s = .next t ∧ t = { s with dram := { s.dram with combiner := [⟨c, { r with len := 64 }⟩] } })) ∧
    (∀ (h : DramReq), s.halted = false → r.data.length = 64 → r.addr % 128 = 64 → r.be = 2 ^ 64 - 1 → s.ready (2 + c) = true →
      r.addr < s.rd PC_MAP.TOP_GIB * 2 ^ 30 → s.rangeHolds r.addr = false → s.restoreHolds r.addr = false → s.inTree r.addr = false →
      s.dram.queue = [] → v.busy = false → s.rd DC_SCHED.WC_EN c ≠ 0 →
      s.protectedBy (page * 128) = none → s.rd WD_SMP_CTRL.PJ_EN = 0 → s.rd DC_FLIP_CTRL.ARM c = 0 → s.dram.combiner = [⟨c, h⟩] →
      h.addr + 64 = r.addr → h.src = r.src → h.data.length = 64 → h.posted = false → r.posted = false → ∃ t,
      exec (.dramWrite r v) s = .next t ∧ t.dram.combiner = [] ∧ t.page page = ⟨h.poison || r.poison, [], true⟩ ∧
      t.sent = s.sent ++ [Emission.response (645 + c) h.src h.tag 0 0 false, .response (645 + c) r.src r.tag 0 0 false] ∧
      (∀ i, i < 64 → t.byte (h.addr + i) = BitVec.ofNat 8 (h.data.getD i 0) ∧ t.byte (r.addr + i) = BitVec.ofNat 8 (r.data.getD i 0))) ∧
    (∀ (h : DramReq), c < 8 → s.halted = false → s.dram.combiner = [⟨c, h⟩] → h.addr / 128 = page → h.data.length = 64 → h.addr % 64 = 0 →
      h.be = 2 ^ 64 - 1 → h.posted = false → (s.pagePlace page).1 = c → s.protectedBy (page * 128) = none → s.rd WD_SMP_CTRL.PJ_EN = 0 →
      s.rd DC_FLIP_CTRL.ARM c = 0 → s.decodePage page v = .clean → v.tampered = false → (s.page page).poison = false → ∃ t,
      exec (.wcTimeout c page v) s = .next t ∧ t.dram.combiner = [] ∧
      t.sent = s.sent ++ [Emission.response (645 + (s.dramPlace h.addr).1) h.src h.tag 0 0 false] ∧
      (∀ i, i < 64 → t.byte (h.addr + i) = BitVec.ofNat 8 (h.data.getD i 0))) ∧
    (c < 8 → s.dram.combiner = [] → exec (.wcTimeout c page v) s = .next s)

/-- Protected ranges (15 R392 to R407). ENABLE is refused with `RANGE_ERR` unless the range is OFF, its slot filled, the map final, both
lengths 1 to 524,288 units, both regions below the device area and clear of each other and of every other range, and the tree region long
enough; accepted, it holds the accesses, and its end sets `HEIGHT`, zeroes the counters and makes every address of the range read zero in
ON. RETIRE is taken in ON and FAULT; its end empties the slot, drops the counters and the fault records and leaves the range OFF. A request
to a page whose leaf node is not held counts a miss and waits; one whose node is held counts a hit, and a store raises the page's counter. A
fetched node that fails its tag halts the part; an uncorrectable one leaves a fault record and poison; a good one is held and its
request goes on. -/
def Obligations.ProtectedRanges : Prop :=
  ∀ (s : State) (k : Nat), k < 16 →
    ((s.rangeState k ≠ 0 ∨ k ∈ s.crypto.enabling ∨ s.crypto.slots.any (fun p => decide (p.1 = k)) = false ∨ s.rd PC_MAP.FINAL = 0 ∨
      s.rd EN_RANGE_BASE.LEN 0 k = 0 ∨ 524288 < s.rd EN_RANGE_BASE.LEN 0 k ∨ s.rd EN_RANGE_TREE.LEN 0 k = 0 ∨
      524288 < s.rd EN_RANGE_TREE.LEN 0 k ∨
      s.rd PC_AREA.BASE < s.rd EN_RANGE_BASE.BASE 0 k + s.rd EN_RANGE_BASE.LEN 0 k ∨
      s.rd PC_AREA.BASE < s.rd EN_RANGE_TREE.BASE 0 k + s.rd EN_RANGE_TREE.LEN 0 k ∨ spansMeet (s.rangeSpan k) (s.treeSpan k) = true ∨
      (∃ j, j < 16 ∧ j ≠ k ∧ s.rangeState j ≠ 0 ∧ (spansMeet (s.rangeSpan k) (s.rangeSpan j) = true ∨
        spansMeet (s.rangeSpan k) (s.treeSpan j) = true ∨ spansMeet (s.treeSpan k) (s.rangeSpan j) = true ∨
        spansMeet (s.treeSpan k) (s.treeSpan j) = true)) ∨
      s.rd EN_RANGE_TREE.LEN 0 k * 2 ^ 21 < treeBytes (s.rd EN_RANGE_BASE.LEN 0 k * 2 ^ 14)) → ∃ t, exec (.rangeEnable k) s = .next t ∧
      t.rd EN_RANGE_CTRL.RANGE_ERR 0 k = 1 ∧ s.regsKeptBut t [EN_RANGE_CTRL.RANGE_ERR.key 0 k] ∧ { t with regs := s.regs } = s) ∧
    (s.rangeOk k = true → s.halted = false → s.dram.queue = [] → ∃ t, exec (.rangeEnable k) s = .next t ∧
      t = { s with crypto := { s.crypto with enabling := s.crypto.enabling ++ [k] } }) ∧
    (k ∉ s.crypto.enabling → exec (.rangeEnableDone k) s = .next s) ∧
    (k ∈ s.crypto.enabling → s.dram.heldReqs = [] → s.rd EN_RANGE_CTRL.STATE 0 k = 0 → ∃ t, exec (.rangeEnableDone k) s = .next t ∧
      t.rangeState k = 1 ∧ t.rd EN_RANGE_CTRL.HEIGHT 0 k = treeHeight (s.rd EN_RANGE_BASE.LEN 0 k * 2 ^ 14) % 16 ∧
      k ∉ t.crypto.enabling ∧ (∀ l i, t.counter k l i = 0) ∧
      (s.channels ≠ [] → ∀ a, inSpan (s.rangeSpan k) a = true → a < 2 ^ 40 → t.byte a = 0)) ∧
    ((s.rangeState k = 0 ∨ s.rangeState k = 2 ∨ s.halted = true) → ∃ t, exec (.rangeRetire k) s = .next t ∧
      t.rd EN_RANGE_CTRL.RANGE_ERR 0 k = 1 ∧ s.regsKeptBut t [EN_RANGE_CTRL.RANGE_ERR.key 0 k] ∧ { t with regs := s.regs } = s) ∧
    ((s.rangeState k = 1 ∨ s.rangeState k = 3) → s.halted = false → s.dram.queue = [] → s.dram.combiner = [] → ∃ t,
      exec (.rangeRetire k) s = .next t ∧
      t.rangeState k = 2 ∧ s.regsKeptBut t [EN_RANGE_CTRL.STATE.key 0 k] ∧ { t with regs := s.regs } = s) ∧
    (s.rangeState k ≠ 2 → exec (.rangeRetireDone k) s = .next s) ∧
    (s.rangeState k = 2 → s.crypto.waiting = [] → s.dram.heldReqs = [] → ∃ t, exec (.rangeRetireDone k) s = .next t ∧
      t.rangeState k = 0 ∧ t.rd EN_RANGE_CTRL.HEIGHT 0 k = 0 ∧ t.crypto.slots.any (fun p => decide (p.1 = k)) = false ∧
      (∀ l i, t.counter k l i = 0) ∧ (∀ i, i < 64 → t.rd EN_FAULT.VALID 0 i ≠ 0 → t.rd EN_FAULT.KEY_ID 0 i ≠ k)) ∧
    (∀ (r : DramReq) (v : DramView) c page i, c = (s.dramPlace r.addr).1 → page = r.addr / 128 → i = s.rangePage k page →
      r.addr < 2 ^ 40 → s.halted = false → 0 < r.len → r.addr % 64 + r.len ≤ 64 → s.ready (2 + c) = true →
      r.addr < s.rd PC_MAP.TOP_GIB * 2 ^ 30 → s.rangeHolds r.addr = false → s.restoreHolds r.addr = false → s.inTree r.addr = false →
      s.dram.queue = [] → v.busy = false → s.dram.combiner = [] →
      s.protectedBy (page * 128) = some k → s.pageFaulted page = false → s.crypto.waiting = [] →
      (s.nodeHeld k 1 (i / 8) = false → ∃ t, exec (.dramRead r v) s = .next t ∧
        t.rd EN_CACHE.MISSES = min (s.rd EN_CACHE.MISSES + 1) (2 ^ 32 - 1) ∧ t.sent = s.sent ∧
        t.crypto.waiting = [⟨{ r with data := [], posted := false }, v⟩] ∧ s.regsKeptBut t [EN_CACHE.MISSES.key]) ∧
      (s.nodeHeld k 1 (i / 8) = true → s.decodePage page v = .clean → v.tampered = false → (s.page page).poison = false → ∃ t,
        exec (.dramRead r v) s = .next t ∧ t.rd EN_CACHE.HITS = min (s.rd EN_CACHE.HITS + 1) (2 ^ 32 - 1) ∧
        t.sent = s.sent ++ [Emission.response (645 + c) r.src r.tag 0 (bytesNat (s.loadBytes r.addr r.len)) false]) ∧
      (s.nodeHeld k 1 (i / 8) = true → r.data.length = r.len → s.rd DC_SCHED.WC_EN c = 0 → s.decodePage page v = .clean →
        v.tampered = false → (s.page page).poison = false → s.rd WD_SMP_CTRL.PJ_EN = 0 → s.rd DC_FLIP_CTRL.ARM c = 0 →
        (s.counter k 0 i < 2 ^ 64 - 1 → ∃ t, exec (.dramWrite r v) s = .next t ∧ t.counter k 0 i = s.counter k 0 i + 1 ∧
          (∀ b, b < r.len → r.be.testBit b = true → t.byte (r.addr + b) = BitVec.ofNat 8 (r.data.getD b 0))) ∧
        (s.counter k 0 i = 2 ^ 64 - 1 → r.posted = false → ∃ t, exec (.dramWrite r v) s = .next t ∧ t.rangeState k = 3 ∧ t.mem = s.mem ∧
          t.counter k 0 i = s.counter k 0 i ∧ t.sent = s.sent ++ [Emission.response (645 + c) r.src r.tag 1 0 false]))) ∧
    (s.crypto.waiting = [] → ∀ v, exec (.nodeFetchDone v) s = .next s) ∧
    (∀ (w : CounterWait) (v : DramView) page l i a, s.crypto.waiting = [w] → page = pageOf w.req → s.protectedBy (page * 128) = some k →
      s.nextNode k page = some (l, i) → a = s.nodeAddr k l i → s.halted = false →
      (s.tagFails (a / 128) v = true → ∃ t, exec (.nodeFetchDone v) s = .next t ∧ t.halted = true ∧ t.rd EN_HALT.KIND = 2 ∧
        t.rd EN_HALT.PKIND = 1 ∧ t.rd EN_HALT.KEY_ID = k ∧ t.crypto.waiting = [] ∧ t.crypto.slots = []) ∧
      (∀ e, s.decodePage (a / 128) v = .uncorrectable e → s.rd EN_FAULT.VALID = 0 → l < 16 → i < 2 ^ 30 → ∃ t,
        exec (.nodeFetchDone v) s = .next t ∧ t.rd EN_STATUS.NODE_UE = min (s.rd EN_STATUS.NODE_UE + 1) (2 ^ 16 - 1) ∧
        t.rd EN_FAULT.VALID = 1 ∧ t.rd EN_FAULT.KEY_ID = k ∧ t.rd EN_FAULT.LEVEL = l ∧ t.rd EN_FAULT.INDEX = i ∧
        t.rd EN_STATUS.FAULTED = 1) ∧
      (s.decodePage (a / 128) v = .clean → v.tampered = false → s.crypto.cache = [] → s.pageFaulted page = false → 1 < l → ∃ t,
        exec (.nodeFetchDone v) s = .next t ∧ t = { s with crypto := { s.crypto with cache := [⟨k, l, i, false⟩] } }))

/-- Engine memories and cribs. A store stores exactly its bytes, and in a crib ends the crew's reservations on the 8-byte granule (16 R417, R422).
A Gallery access of an allowed size to a ready crew reads or writes exactly its bytes and is answered; a refused one is answered with its
status; a bad word is answered poisoned (16 R419); one that meets an engine's store of the same cycle reads the word before it, and where both
write a byte the engine's stays and a difference is recorded (16 R418). A corrected word is written back. A hoist's `GO` starts a transfer or,
against the rules of 16 R423, sets `ERR` with BADGO; its end moves the bytes, sets `DONE` and the member's `HOIST` source, or `ERR` with the
cause (16 R424). -/
def Obligations.CrewMemories : Prop :=
  (∀ (s t : State) (g z n : Nat), (z = 1 ∨ z = 2 ∨ z = 4 ∨ z = 8) → g % z = 0 → t = s.engStore g z n 0 →
    (s.wordErr g = 0 →
      (∀ i : Nat, i < z → t.byte (g + i) = BitVec.ofNat 8 (n / 256 ^ i)) ∧
      (∀ h : Nat, h < g ∨ g + z ≤ h → t.byte h = s.byte h) ∧
      (∀ h : Nat, t.wordErr h = s.wordErr h) ∧
      (∀ e : Nat, e < 64 → t.eng e = (if 0x010004000000 ≤ g ∧ g < 0x010005000000 ∧ e / 8 = (g - 0x010004000000) / 0x200000 ∧
          (s.eng e).resv = some (g % 0x200000 / 8) then { s.eng e with resv := none } else s.eng e)) ∧
      { t with mem := s.mem, tram := s.tram } = s) ∧
    (s.wordErr g = 2 → z = 8 → t.wordErr g = 0) ∧
    (s.wordErr g = 2 → z ≠ 8 → t.wordErr g = 2)) ∧
  (∀ (s u : State) (a : GalAccess) (c ni : Nat), a.addr % a.size = 0 → ni = 653 + c →
    ((c < 8 ∧ 0x010004000000 + c * 0x200000 ≤ a.addr ∧ a.addr < 0x010004000000 + (c + 1) * 0x200000 ∧ a.size ∈ [1, 2, 4, 8] ∧
        u = s.ungate 1 (c * 16 + a.addr / 8 % 16)) ∨
      (c < 8 ∧ 0x010005000000 + c * 0x200000 ≤ a.addr ∧ a.addr < 0x010005000000 + (c + 1) * 0x200000 ∧ a.addr % 0x40000 < 0x20000 ∧
        a.size ∈ [4, 8] ∧ s.rd TR_STATUS.STATE ((a.addr - 0x010005000000) / 0x40000) ≠ 3 ∧ (a.write = true → a.poison = false) ∧ u = s)) →
    (s.ready (30 + c) = true ∨ a.foreman = true) →
    (a.write = false → s.wordErr a.addr = 0 → exec (.cribGalleryAccess a 0 false) s = .next
      { u with sent := s.sent ++ [Emission.response ni a.src a.tag 0 (s.load a.addr a.size) false] }) ∧
    (a.write = false → s.wordErr a.addr = 2 → exec (.cribGalleryAccess a 0 false) s = .next
      { u with sent := s.sent ++ [Emission.response ni a.src a.tag 0 (s.load a.addr a.size) true] }) ∧
    (a.write = true → s.wordErr a.addr = 0 → ∃ t, exec (.cribGalleryAccess a 0 false) s = .next t ∧
      (∀ i : Nat, i < a.size → t.byte (a.addr + i) = BitVec.ofNat 8 (a.data / 256 ^ i)) ∧
      (∀ h : Nat, h < a.addr ∨ a.addr + a.size ≤ h → t.byte h = s.byte h) ∧
      (∀ h : Nat, t.wordErr h = (if h / 8 = a.addr / 8 ∧ a.poison = true then 2 else s.wordErr h)) ∧
      (∀ e : Nat, e < 64 → t.eng e = (if a.addr < 0x010005000000 ∧ e / 8 = c ∧ (s.eng e).resv = some (a.addr % 0x200000 / 8) then
          { s.eng e with resv := none } else s.eng e)) ∧
      t.sent = s.sent ++ (if a.posted then [] else [Emission.response ni a.src a.tag 0 0 false]) ∧
      { t with mem := u.mem, tram := u.tram, sent := u.sent } = u) ∧
    (∀ m b f : Nat, a.write = false → s.wordErr a.addr = 0 → s.tram.lastStore = [(a.addr / 8, m, b, f)] →
      exec (.cribGalleryAccess a 0 true) s = .next
      { u with sent := s.sent ++ [Emission.response ni a.src a.tag 0 (b / 2 ^ (8 * (a.addr % 8)) % 2 ^ (8 * a.size)) false] }) ∧
    (∀ m b f i : Nat, a.write = true → a.size = 8 → a.data < 2 ^ 64 → s.wordErr a.addr = 0 → s.tram.lastStore = [(a.addr / 8, m, b, f)] → i < 8 →
      ∃ t, exec (.cribGalleryAccess a 0 true) s = .next t ∧
        t.byte (a.addr + i) = BitVec.ofNat 8 ((if m.testBit i then f else a.data) / 256 ^ i) ∧
        (m.testBit i → f / 256 ^ i % 256 ≠ a.data / 256 ^ i % 256 → a.addr < 0x010005000000 → t.rd TR_CRIB_COLL.COLL c = 1 ∧
          t.rd TR_CRIB_COLL.COLL_COUNT c = min (s.rd TR_CRIB_COLL.COLL_COUNT c + 1) 255 ∧
          t.rd TR_CRIB_COLL.COLL_WORD c = a.addr % 0x200000 / 8) ∧
        (m = 0 → s.regsKeptBut t [CK_GATE_STATUS.GATED.key]))) ∧
  (∀ (s : State) (a : GalAccess) (c e n : Nat) (b : Bool), n < 0x200000 → a.posted = false → c < 8 → e = c * 8 + n / 0x40000 →
    (a.addr = 0x010004000000 + c * 0x200000 + n → a.size ∉ [1, 2, 4, 8] → exec (.cribGalleryAccess a 0 b) s = .next
      { s with sent := s.sent ++ [Emission.response (653 + c) a.src a.tag 5 0 false] }) ∧
    (a.addr = 0x010004000000 + c * 0x200000 + n → a.size ∈ [1, 2, 4, 8] → n % a.size = 0 → s.ready (30 + c) = false → a.foreman = false →
      exec (.cribGalleryAccess a 0 b) s = .next { s with sent := s.sent ++ [Emission.response (653 + c) a.src a.tag 4 0 false] }) ∧
    (a.addr = 0x010005000000 + c * 0x200000 + n → n % 0x40000 < 0x20000 → a.size = 8 → n % 8 = 0 → s.ready (30 + c) = true →
      s.rd TR_STATUS.STATE e = 3 → exec (.cribGalleryAccess a 0 b) s = .next
        { s with sent := s.sent ++ [Emission.response (653 + c) a.src a.tag 4 0 false] }) ∧
    (a.addr = 0x010005000000 + c * 0x200000 + n → n % 0x40000 < 0x20000 → a.size = 8 → n % 8 = 0 → s.ready (30 + c) = true →
      s.rd TR_STATUS.STATE e ≠ 3 → a.write = true → a.poison = true → exec (.cribGalleryAccess a 0 b) s = .next
        { s with sent := s.sent ++ [Emission.response (653 + c) a.src a.tag 1 0 false] })) ∧
  (∀ (s : State) (g : Nat), (s.wordErr g = 1 → exec (.cribWriteback g) s = .next (s.setWordErr g 0)) ∧
    (s.wordErr g ≠ 1 → exec (.cribWriteback g) s = .next s)) ∧
  (∀ (s : State) (c h v len ga ca : Nat), c < 8 → h < 4 → len = v % 2 ^ 22 → ga = s.rd TR_HOIST_GADDR.GADDR c h →
    ca = s.rd TR_HOIST_CADDR.CADDR c h →
    (s.bit CK_CREW_PWR.ON_STAT c = true → s.rd TR_HOIST_STATUS.BUSY c h = 0 → 8 ≤ len → len % 8 = 0 → ga % 8 = 0 → ca % 8 = 0 →
      ca + len ≤ 0x200000 → ∃ t, exec (.hoistGo c h v) s = .next t ∧ t.tram = { s.tram with hoists := s.tram.hoists ++ [(4 * c + h,
        ⟨ga, ca, len, v.testBit 22, if v.testBit 27 then some (8 * c + v / 2 ^ 24 % 8) else none⟩)] } ∧
      t.rd TR_HOIST_CTRL.LEN c h = len ∧ t.rd TR_HOIST_CTRL.DIR c h = v / 2 ^ 22 % 2 ∧ t.rd TR_HOIST_CTRL.NOTIFY c h = v / 2 ^ 24 % 8 ∧
      t.rd TR_HOIST_CTRL.NOTIFY_EN c h = v / 2 ^ 27 % 2 ∧ t.rd TR_HOIST_STATUS.BUSY c h = 1 ∧ t.rd TR_HOIST_STATUS.ERR_CAUSE c h = 0 ∧
      t.rd TR_HOIST_STATUS.BYTES c h = 0 ∧ s.regsKeptBut t [TR_HOIST_CTRL.LEN.key c h, TR_HOIST_CTRL.DIR.key c h, TR_HOIST_CTRL.NOTIFY.key c h,
        TR_HOIST_CTRL.NOTIFY_EN.key c h, TR_HOIST_CTRL.GO.key c h, TR_HOIST_CTRL.ABORT.key c h, TR_HOIST_STATUS.BUSY.key c h,
        TR_HOIST_STATUS.ERR_CAUSE.key c h, TR_HOIST_STATUS.BYTES.key c h] ∧ { t with regs := s.regs, tram := s.tram } = s) ∧
    (s.bit CK_CREW_PWR.ON_STAT c = true → (s.rd TR_HOIST_STATUS.BUSY c h = 1 ∨ len < 8 ∨ len % 8 ≠ 0 ∨ ga % 8 ≠ 0 ∨ ca % 8 ≠ 0 ∨
        0x200000 < ca + len) →
      exec (.hoistGo c h v) s = .next ((s.wr TR_HOIST_STATUS.ERR 1 c h).wr TR_HOIST_STATUS.ERR_CAUSE 2 c h)) ∧
    (s.bit CK_CREW_PWR.ON_STAT c = false → exec (.hoistGo c h v) s = .next s)) ∧
  (∀ (s : State) (c h k m : Nat) (x : Hoist) (r : HoistEnd), c < 8 → h < 4 → k = 0x010004000000 + c * 0x200000 + x.caddr →
    m = min r.bytes x.len / 8 * 8 →
    (s.hoist c h = none → exec (.hoistDone c h r) s = .next s) ∧ (s.hoist c h = none → exec (.hoistAbort c h r) s = .next s) ∧
    (s.hoist c h = some x → x.stow = false → r.fail = false → x.notify = none → x.len % 8 = 0 → k % 8 = 0 → r.poison = [] →
      r.data.length = x.len → ∃ t, exec (.hoistDone c h r) s = .next t ∧
      (∀ i : Nat, i < x.len → t.byte (k + i) = BitVec.ofNat 8 (r.data.getD i 0)) ∧
      (∀ g : Nat, g < k ∨ k + x.len ≤ g → t.byte g = s.byte g) ∧
      t.tram.hoists = s.tram.hoists.filter (fun p => decide (p.1 ≠ 4 * c + h)) ∧ t.rd TR_HOIST_STATUS.BUSY c h = 0 ∧
      t.rd TR_HOIST_STATUS.DONE c h = 1 ∧ t.rd TR_HOIST_STATUS.BYTES c h = x.len % 2 ^ 22 ∧
      s.regsKeptBut t [TR_HOIST_STATUS.BUSY.key c h, TR_HOIST_STATUS.DONE.key c h, TR_HOIST_STATUS.BYTES.key c h] ∧
      { t with regs := s.regs, tram := s.tram, mem := s.mem } = s) ∧
    (∀ e : Nat, s.hoist c h = some x → x.stow = true → r.fail = false → x.notify = some e → s.rd TR_STATUS.STATE e ≠ 3 → 0 < x.len →
      x.len % 8 = 0 → x.gaddr % 64 + x.len ≤ 64 → s.badWords k x.len = false → ∃ t, exec (.hoistDone c h r) s = .next t ∧
      t.sent = s.sent ++ [Emission.access (653 + c) x.gaddr x.len true false (s.load k x.len) false] ∧
      t.tram = { s.tram with hoists := s.tram.hoists.filter (fun p => decide (p.1 ≠ 4 * c + h)) } ∧ t.rd TR_HOIST_STATUS.BUSY c h = 0 ∧
      t.rd TR_HOIST_STATUS.DONE c h = 1 ∧ t.rd TR_HOIST_STATUS.BYTES c h = x.len ∧ t.rd TR_IRQ_PEND.PEND e = s.rd TR_IRQ_PEND.PEND e ||| 8 ∧
      s.regsKeptBut t [TR_HOIST_STATUS.BUSY.key c h, TR_HOIST_STATUS.DONE.key c h, TR_HOIST_STATUS.BYTES.key c h, TR_IRQ_PEND.PEND.key e] ∧
      { t with regs := s.regs, tram := s.tram, sent := s.sent } = s) ∧
    (s.hoist c h = some x → r.fail = true → r.bytes < 8 → ∃ t, exec (.hoistDone c h r) s = .next t ∧ t.rd TR_HOIST_STATUS.BUSY c h = 0 ∧
      t.rd TR_HOIST_STATUS.ERR c h = 1 ∧ t.rd TR_HOIST_STATUS.ERR_CAUSE c h = 1 ∧ t.rd TR_HOIST_STATUS.BYTES c h = 0 ∧
      t.rd TR_HOIST_STATUS.DONE c h = s.rd TR_HOIST_STATUS.DONE c h ∧ t.mem = s.mem) ∧
    (s.hoist c h = some x → ∃ t, exec (.hoistAbort c h r) s = .next t ∧ t.rd TR_HOIST_STATUS.BUSY c h = 0 ∧ t.rd TR_HOIST_STATUS.ERR c h = 1 ∧
      t.rd TR_HOIST_STATUS.ERR_CAUSE c h = 3 ∧ t.rd TR_HOIST_STATUS.BYTES c h = m % 2 ^ 22 ∧
      t.tram.hoists = s.tram.hoists.filter (fun p => decide (p.1 ≠ 4 * c + h)) ∧
      (∀ g : Nat, x.stow = true ∨ g < k ∨ k + m ≤ g → t.byte g = s.byte g)))

/-- The integer instructions of a Tram engine (17 R445 to R447). At an eligible boundary, where the word has the row's opcode and function
and zeros where the row wants them, the engine issues it: rd takes the result, g0 discards it (17 R441), the address moves on by 4, and nothing
else in the part changes. With S = 1 a result beyond 32 signed bits becomes the nearer limit and sets `SV`. A result of the MAC unit has one
slot: the next instruction still sees the old value (16 R413). A word with a wrong bit raises ILLEGAL. -/
def Obligations.TramIntegers : Prop :=
  ∀ (s : State) (e w d n i y z : Nat) (v : TramView) (x : Engine) (a b : Word), s.standsAt e w = true → v.fetchErrs = 0 → x = s.eng e →
    d = w / 2 ^ 21 % 32 → a = x.rg (w / 2 ^ 16 % 32) → b = x.rg (w / 2 ^ 11 % 32) → n = w / 2 ^ 11 % 32 → i = w % 2 ^ 16 →
    y = (if i < 2 ^ 15 then i else i + 2 ^ 32 - 2 ^ 16) → z = w % 64 →
    (w / 2 ^ 26 = 0 → z = 0 → w &&& 0x3C0 = 0 → w / 1024 % 2 = 0 → exec (.add e v) s = .next (s.issued e (x.wg d (a + b)))) ∧
    (w / 2 ^ 26 = 0 → z = 0 → w &&& 0x3C0 = 0 → w / 1024 % 2 = 1 → -2 ^ 31 ≤ a.toInt + b.toInt → a.toInt + b.toInt < 2 ^ 31 →
      exec (.add e v) s = .next (s.issued e (x.wg d (a + b)))) ∧
    (w / 2 ^ 26 = 0 → z = 0 → w &&& 0x3C0 = 0 → w / 1024 % 2 = 1 → 2 ^ 31 ≤ a.toInt + b.toInt →
      exec (.add e v) s = .next (s.issued e { x.wg d (0x7FFFFFFF) with sv := true })) ∧
    (w / 2 ^ 26 = 0 → z = 0 → w &&& 0x3C0 = 0 → w / 1024 % 2 = 1 → a.toInt + b.toInt < -2 ^ 31 →
      exec (.add e v) s = .next (s.issued e { x.wg d (0x80000000) with sv := true })) ∧
    (w / 2 ^ 26 = 0 → z = 1 → w &&& 0x3C0 = 0 → w / 1024 % 2 = 0 → exec (.sub e v) s = .next (s.issued e (x.wg d (a - b)))) ∧
    (w / 2 ^ 26 = 0 → z = 1 → w &&& 0x3C0 = 0 → w / 1024 % 2 = 1 → -2 ^ 31 ≤ a.toInt - b.toInt → a.toInt - b.toInt < 2 ^ 31 →
      exec (.sub e v) s = .next (s.issued e (x.wg d (a - b)))) ∧
    (w / 2 ^ 26 = 0 → z = 1 → w &&& 0x3C0 = 0 → w / 1024 % 2 = 1 → 2 ^ 31 ≤ a.toInt - b.toInt →
      exec (.sub e v) s = .next (s.issued e { x.wg d (0x7FFFFFFF) with sv := true })) ∧
    (w / 2 ^ 26 = 0 → z = 1 → w &&& 0x3C0 = 0 → w / 1024 % 2 = 1 → a.toInt - b.toInt < -2 ^ 31 →
      exec (.sub e v) s = .next (s.issued e { x.wg d (0x80000000) with sv := true })) ∧
    (w / 2 ^ 26 = 0 → z = 2 → w &&& 0x7C0 = 0 → exec (.and e v) s = .next (s.issued e (x.wg d (a &&& b)))) ∧
    (w / 2 ^ 26 = 0 → z = 3 → w &&& 0x7C0 = 0 → exec (.or e v) s = .next (s.issued e (x.wg d (a ||| b)))) ∧
    (w / 2 ^ 26 = 0 → z = 4 → w &&& 0x7C0 = 0 → exec (.xor e v) s = .next (s.issued e (x.wg d (a ^^^ b)))) ∧
    (w / 2 ^ 26 = 0 → z = 5 → w &&& 0x7C0 = 0 → exec (.andn e v) s = .next (s.issued e (x.wg d (a &&& ~~~b)))) ∧
    (w / 2 ^ 26 = 0 → z = 6 → w &&& 0x7C0 = 0 → exec (.cmplt e v) s = .next (s.issued e (x.wg d (if a.toInt < b.toInt then 1 else 0)))) ∧
    (w / 2 ^ 26 = 0 → z = 7 → w &&& 0x7C0 = 0 → exec (.cmpltu e v) s = .next (s.issued e (x.wg d (if a.toNat < b.toNat then 1 else 0)))) ∧
    (w / 2 ^ 26 = 0 → z = 8 → w &&& 0x7C0 = 0 → exec (.shl e v) s = .next (s.issued e (x.wg d (a <<< (b.toNat % 32))))) ∧
    (w / 2 ^ 26 = 0 → z = 9 → w &&& 0x7C0 = 0 → exec (.shr e v) s = .next (s.issued e (x.wg d (a >>> (b.toNat % 32))))) ∧
    (w / 2 ^ 26 = 0 → z = 10 → w &&& 0x7C0 = 0 → exec (.sar e v) s = .next (s.issued e (x.wg d (a.sshiftRight (b.toNat % 32))))) ∧
    (w / 2 ^ 26 = 0 → z = 11 → w &&& 0x7C0 = 0 → exec (.shli e v) s = .next (s.issued e (x.wg d (a <<< n)))) ∧
    (w / 2 ^ 26 = 0 → z = 12 → w &&& 0x7C0 = 0 → exec (.shri e v) s = .next (s.issued e (x.wg d (a >>> n)))) ∧
    (w / 2 ^ 26 = 0 → z = 13 → w &&& 0x7C0 = 0 → exec (.sari e v) s = .next (s.issued e (x.wg d (a.sshiftRight n)))) ∧
    (w / 2 ^ 26 = 0 → z = 14 → w &&& 0x3C0 = 0 → w / 1024 % 2 = 0 →
      exec (.mul e v) s = .next (s.issued e { x.wg d (a * b) with gOld := [(d, Tab.get 0 x.g d)] })) ∧
    (w / 2 ^ 26 = 0 → z = 14 → w &&& 0x3C0 = 0 → w / 1024 % 2 = 1 → -2 ^ 31 ≤ a.toInt * b.toInt → a.toInt * b.toInt < 2 ^ 31 →
      exec (.mul e v) s = .next (s.issued e { x.wg d (a * b) with gOld := [(d, Tab.get 0 x.g d)] })) ∧
    (w / 2 ^ 26 = 0 → z = 14 → w &&& 0x3C0 = 0 → w / 1024 % 2 = 1 → 2 ^ 31 ≤ a.toInt * b.toInt →
      exec (.mul e v) s = .next (s.issued e { x.wg d (0x7FFFFFFF) with gOld := [(d, Tab.get 0 x.g d)], sv := true })) ∧
    (w / 2 ^ 26 = 0 → z = 14 → w &&& 0x3C0 = 0 → w / 1024 % 2 = 1 → a.toInt * b.toInt < -2 ^ 31 →
      exec (.mul e v) s = .next (s.issued e { x.wg d (0x80000000) with gOld := [(d, Tab.get 0 x.g d)], sv := true })) ∧
    (w / 2 ^ 26 = 0 → z = 15 → w &&& 0x7C0 = 0 →
      exec (.mulhs e v) s = .next (s.issued e { x.wg d (BitVec.ofInt 32 (a.toInt * b.toInt / 2 ^ 32)) with gOld := [(d, Tab.get 0 x.g d)] })) ∧
    (w / 2 ^ 26 = 0 → z = 16 → w &&& 0x7C0 = 0 →
      exec (.mulhu e v) s = .next (s.issued e { x.wg d (BitVec.ofNat 32 (a.toNat * b.toNat / 2 ^ 32)) with gOld := [(d, Tab.get 0 x.g d)] })) ∧
    (w / 2 ^ 26 = 0 → z = 17 → w &&& 0x7C0 = 0 → exec (.min e v) s = .next (s.issued e (x.wg d (if a.toInt < b.toInt then a else b)))) ∧
    (w / 2 ^ 26 = 0 → z = 18 → w &&& 0x7C0 = 0 → exec (.max e v) s = .next (s.issued e (x.wg d (if a.toInt < b.toInt then b else a)))) ∧
    (w / 2 ^ 26 = 0 → z = 19 → w &&& 0xFBC0 = 0 → w / 1024 % 2 = 0 →
      exec (.abs e v) s = .next (s.issued e (x.wg d (if a.toInt < 0 then -a else a)))) ∧
    (w / 2 ^ 26 = 0 → z = 19 → w &&& 0xFBC0 = 0 → w / 1024 % 2 = 1 → (a.toInt.natAbs : Int) < 2 ^ 31 →
      exec (.abs e v) s = .next (s.issued e (x.wg d (if a.toInt < 0 then -a else a)))) ∧
    (w / 2 ^ 26 = 0 → z = 19 → w &&& 0xFBC0 = 0 → w / 1024 % 2 = 1 → 2 ^ 31 ≤ (a.toInt.natAbs : Int) →
      exec (.abs e v) s = .next (s.issued e { x.wg d (0x7FFFFFFF) with sv := true })) ∧
    (∀ k, w / 2 ^ 26 = 0 → z = 20 → w &&& 0xFFC0 = 0 → k ≤ 32 → a.toNat < 2 ^ (32 - k) → (k < 32 → 2 ^ (31 - k) ≤ a.toNat) →
      exec (.clz e v) s = .next (s.issued e (x.wg d (BitVec.ofNat 32 k)))) ∧
    (w / 2 ^ 26 = 8 → exec (.addc e v) s = .next (s.issued e (x.wg d (a + BitVec.ofNat 32 y)))) ∧
    (w / 2 ^ 26 = 9 → exec (.cmpltc e v) s = .next (s.issued e (x.wg d (if a.toInt < (BitVec.ofNat 32 y).toInt then 1 else 0)))) ∧
    (w / 2 ^ 26 = 10 → exec (.cmpltuc e v) s = .next (s.issued e (x.wg d (if a.toNat < y then 1 else 0)))) ∧
    (w / 2 ^ 26 = 11 → exec (.andc e v) s = .next (s.issued e (x.wg d (a &&& BitVec.ofNat 32 i)))) ∧
    (w / 2 ^ 26 = 12 → exec (.orc e v) s = .next (s.issued e (x.wg d (a ||| BitVec.ofNat 32 i)))) ∧
    (w / 2 ^ 26 = 13 → exec (.xorc e v) s = .next (s.issued e (x.wg d (a ^^^ BitVec.ofNat 32 i)))) ∧
    (w / 2 ^ 26 = 14 → w &&& 0x1F0000 = 0 → exec (.movh e v) s = .next (s.issued e (x.wg d (BitVec.ofNat 32 (i * 2 ^ 16))))) ∧
    (w / 2 ^ 26 = 0 → z = 2 → w &&& 0x7C0 ≠ 0 → exec (.and e v) s = .next (s.raiseExc e 1 0)) ∧
    (w / 2 ^ 26 = 14 → w &&& 0x1F0000 ≠ 0 → exec (.movh e v) s = .next (s.raiseExc e 1 0)) ∧
    ((w / 2 ^ 26 ≠ 0 ∨ z ≠ 2) → exec (.and e v) s = .next s) ∧
    (w / 2 ^ 26 = 0 → 22 < z → exec (.illegalInstruction e v) s = .next (s.raiseExc e 1 0))
/-- The MAC unit (17 R454, R455). The multiply functions take the halves of rs and rt as signed numbers, unsigned with U = 1, and add their
products to aD, which MUL2 replaces; with S = 1 a sum beyond 72 signed bits becomes the nearer limit and sets `SV`. MFA rounds and shifts
right; with S = 1 it saturates to 32 bits. The accumulator moves take, fill or shift aD as their names say. A result in an accumulator or a
g register has one slot. -/
def Obligations.TramMac : Prop :=
  ∀ (s : State) (e w d m k n sh : Nat) (v : TramView) (x y : Engine) (a b : Word) (acc src : Acc72) (al ah bl bh : Int),
    s.standsAt e w = true → v.fetchErrs = 0 → x = s.eng e → d = w / 2 ^ 21 % 32 → m = w / 2 ^ 24 % 4 → k = w / 2 ^ 13 % 4 →
    n = w / 2 ^ 11 % 32 → sh = w / 2 ^ 15 % 64 → a = x.rg (w / 2 ^ 16 % 32) → b = x.rg n → acc = Tab.get 0 x.acc m →
    src = Tab.get 0 x.acc k → y = { x with accOld := [(m, acc)] } →
    al = (if w / 512 % 2 = 1 then ((a.toNat % 65536 : Nat) : Int) else (a.extractLsb' 0 16).toInt) →
    ah = (if w / 512 % 2 = 1 then ((a.toNat / 65536 : Nat) : Int) else (a.extractLsb' 16 16).toInt) →
    bl = (if w / 512 % 2 = 1 then ((b.toNat % 65536 : Nat) : Int) else (b.extractLsb' 0 16).toInt) →
    bh = (if w / 512 % 2 = 1 then ((b.toNat / 65536 : Nat) : Int) else (b.extractLsb' 16 16).toInt) → w / 2 ^ 26 = 1 →
    (∀ r : Int, r = acc.toInt + (al * bl + ah * bh) → w % 64 = 0 → w &&& 0xE001C0 = 0 →
      ((w / 1024 % 2 = 0 ∨ (-2 ^ 71 ≤ r ∧ r < 2 ^ 71)) →
        exec (.mac2 e v) s = .next (s.issued e { y with acc := Tab.set natLt 0 x.acc m (BitVec.ofInt 72 r) })) ∧
      (w / 1024 % 2 = 1 → 2 ^ 71 ≤ r →
        exec (.mac2 e v) s = .next (s.issued e { y with acc := Tab.set natLt 0 x.acc m (BitVec.ofNat 72 (2 ^ 71 - 1)), sv := true })) ∧
      (w / 1024 % 2 = 1 → r < -2 ^ 71 →
        exec (.mac2 e v) s = .next (s.issued e { y with acc := Tab.set natLt 0 x.acc m (BitVec.ofNat 72 (2 ^ 71)), sv := true }))) ∧
    (∀ r : Int, r = acc.toInt + (-(al * bl) - ah * bh) → w % 64 = 1 → w &&& 0xE001C0 = 0 →
      ((w / 1024 % 2 = 0 ∨ (-2 ^ 71 ≤ r ∧ r < 2 ^ 71)) →
        exec (.msu2 e v) s = .next (s.issued e { y with acc := Tab.set natLt 0 x.acc m (BitVec.ofInt 72 r) })) ∧
      (w / 1024 % 2 = 1 → 2 ^ 71 ≤ r →
        exec (.msu2 e v) s = .next (s.issued e { y with acc := Tab.set natLt 0 x.acc m (BitVec.ofNat 72 (2 ^ 71 - 1)), sv := true })) ∧
      (w / 1024 % 2 = 1 → r < -2 ^ 71 →
        exec (.msu2 e v) s = .next (s.issued e { y with acc := Tab.set natLt 0 x.acc m (BitVec.ofNat 72 (2 ^ 71)), sv := true }))) ∧
    (∀ r : Int, r = acc.toInt + (al * bh + ah * bl) → w % 64 = 2 → w &&& 0xE001C0 = 0 →
      ((w / 1024 % 2 = 0 ∨ (-2 ^ 71 ≤ r ∧ r < 2 ^ 71)) →
        exec (.macx e v) s = .next (s.issued e { y with acc := Tab.set natLt 0 x.acc m (BitVec.ofInt 72 r) })) ∧
      (w / 1024 % 2 = 1 → 2 ^ 71 ≤ r →
        exec (.macx e v) s = .next (s.issued e { y with acc := Tab.set natLt 0 x.acc m (BitVec.ofNat 72 (2 ^ 71 - 1)), sv := true })) ∧
      (w / 1024 % 2 = 1 → r < -2 ^ 71 →
        exec (.macx e v) s = .next (s.issued e { y with acc := Tab.set natLt 0 x.acc m (BitVec.ofNat 72 (2 ^ 71)), sv := true }))) ∧
    (∀ r : Int, r = al * bl + ah * bh → w % 64 = 3 → w &&& 0xE001C0 = 0 →
      ((w / 1024 % 2 = 0 ∨ (-2 ^ 71 ≤ r ∧ r < 2 ^ 71)) →
        exec (.mul2 e v) s = .next (s.issued e { y with acc := Tab.set natLt 0 x.acc m (BitVec.ofInt 72 r) }))) ∧
    (∀ r : Int, r = acc.toInt + al * bl → w % 64 = 4 → w &&& 0xE001C0 = 0 →
      ((w / 1024 % 2 = 0 ∨ (-2 ^ 71 ≤ r ∧ r < 2 ^ 71)) →
        exec (.mac1 e v) s = .next (s.issued e { y with acc := Tab.set natLt 0 x.acc m (BitVec.ofInt 72 r) })) ∧
      (w / 1024 % 2 = 1 → 2 ^ 71 ≤ r →
        exec (.mac1 e v) s = .next (s.issued e { y with acc := Tab.set natLt 0 x.acc m (BitVec.ofNat 72 (2 ^ 71 - 1)), sv := true })) ∧
      (w / 1024 % 2 = 1 → r < -2 ^ 71 →
        exec (.mac1 e v) s = .next (s.issued e { y with acc := Tab.set natLt 0 x.acc m (BitVec.ofNat 72 (2 ^ 71)), sv := true }))) ∧
    (∀ r : Int, r = acc.toInt + (al * bl - ah * bh) → w % 64 = 5 → w &&& 0xE001C0 = 0 →
      ((w / 1024 % 2 = 0 ∨ (-2 ^ 71 ≤ r ∧ r < 2 ^ 71)) →
        exec (.macr e v) s = .next (s.issued e { y with acc := Tab.set natLt 0 x.acc m (BitVec.ofInt 72 r) })) ∧
      (w / 1024 % 2 = 1 → 2 ^ 71 ≤ r →
        exec (.macr e v) s = .next (s.issued e { y with acc := Tab.set natLt 0 x.acc m (BitVec.ofNat 72 (2 ^ 71 - 1)), sv := true })) ∧
      (w / 1024 % 2 = 1 → r < -2 ^ 71 →
        exec (.macr e v) s = .next (s.issued e { y with acc := Tab.set natLt 0 x.acc m (BitVec.ofNat 72 (2 ^ 71)), sv := true }))) ∧
    (∀ r : Int, r = (src.toInt + (if w / 4096 % 2 = 1 ∧ 0 < sh then 2 ^ (sh - 1) else 0)) / 2 ^ sh → w % 64 = 8 → w &&& 0xBC0 = 0 →
      ((w / 1024 % 2 = 0 ∨ (-2 ^ 31 ≤ r ∧ r < 2 ^ 31)) →
        exec (.mfa e v) s = .next (s.issued e { x.wg d (BitVec.ofInt 32 r) with gOld := [(d, Tab.get 0 x.g d)] })) ∧
      (w / 1024 % 2 = 1 → 2 ^ 31 ≤ r →
        exec (.mfa e v) s = .next (s.issued e { x.wg d (0x7FFFFFFF) with gOld := [(d, Tab.get 0 x.g d)], sv := true })) ∧
      (w / 1024 % 2 = 1 → r < -2 ^ 31 →
        exec (.mfa e v) s = .next (s.issued e { x.wg d (0x80000000) with gOld := [(d, Tab.get 0 x.g d)], sv := true }))) ∧
    (w % 64 = 9 → w &&& 0xE007C0 = 0 → exec (.mta e v) s = .next (s.issued e { y with acc := Tab.set natLt 0 x.acc m (a.signExtend 72 <<< n) })) ∧
    (w % 64 = 10 → w &&& 0xFFFFC0 = 0 → exec (.aclr e v) s = .next (s.issued e { y with acc := Tab.set natLt 0 x.acc m (0) })) ∧
    (w % 64 = 11 → w &&& 0xFF9BC0 = 0 →
      ((w / 1024 % 2 = 0 ∨ (-2 ^ 71 ≤ acc.toInt + src.toInt ∧ acc.toInt + src.toInt < 2 ^ 71)) →
        exec (.aadd e v) s = .next (s.issued e { y with acc := Tab.set natLt 0 x.acc m (acc + src) })) ∧
      (w / 1024 % 2 = 1 → 2 ^ 71 ≤ acc.toInt + src.toInt →
        exec (.aadd e v) s = .next (s.issued e { y with acc := Tab.set natLt 0 x.acc m (BitVec.ofNat 72 (2 ^ 71 - 1)), sv := true })) ∧
      (w / 1024 % 2 = 1 → acc.toInt + src.toInt < -2 ^ 71 →
        exec (.aadd e v) s = .next (s.issued e { y with acc := Tab.set natLt 0 x.acc m (BitVec.ofNat 72 (2 ^ 71)), sv := true }))) ∧
    (w % 64 = 12 → w &&& 0xFF07C0 = 0 → exec (.asr e v) s = .next (s.issued e { y with acc := Tab.set natLt 0 x.acc m (acc.sshiftRight n) })) ∧
    (w % 64 = 13 → w &&& 0x1F9FC0 = 0 →
      exec (.mfah e v) s = .next (s.issued e { x.wg d ((src.extractLsb' 64 8).signExtend 32) with gOld := [(d, Tab.get 0 x.g d)] })) ∧
    (w % 64 = 14 → w &&& 0xE0FFC0 = 0 →
      exec (.mtal e v) s = .next (s.issued e { y with acc := Tab.set natLt 0 x.acc m (acc.extractLsb' 32 40 ++ a) })) ∧
    (w % 64 = 15 → w &&& 0xE0FFC0 = 0 →
      exec (.mtam e v) s = .next (s.issued e { y with acc := Tab.set natLt 0 x.acc m ((acc.extractLsb' 64 8 ++ a : BitVec 40) ++ acc.extractLsb' 0 32) })) ∧
    (w % 64 = 16 → w &&& 0xE0FFC0 = 0 →
      exec (.mtah e v) s = .next (s.issued e { y with acc := Tab.set natLt 0 x.acc m (a.extractLsb' 0 8 ++ acc.extractLsb' 0 64) }))

/-- The branches and jumps of a Tram engine at an eligible boundary (17 R451): the two slots after the word come before the target, taken or not;
a call leaves the offset of the word + 12 in g30 or rd; a target of JMP or CALLR with bits [1:0] set raises ADDRESS with the target, and CALLR
with rd = rs ILLEGAL. REP and REPR begin a block of the words after them, or skip it where the count is 0 (17 R453). The last slot goes on at
the target; a jump in a slot raises ILLEGAL (16 R414); the last word of a body goes back to its first, or past it in the last iteration.
Nothing else in the part changes. -/
def Obligations.TramFlow : Prop :=
  ∀ (s : State) (e w p i : Nat) (v : TramView) (x : Engine) (a b : Word), s.standsAt e w = true → v.fetchErrs = 0 → x = s.eng e →
    p = s.rd TR_PC.PC e → i = w % 2 ^ 16 → a = x.rg (w / 2 ^ 21 % 32) → b = x.rg (w / 2 ^ 16 % 32) →
    (w / 2 ^ 26 = 0x28 → a = b → exec (.brEq e v) s = .next (s.issued e { x with branch := some (p, (p + 4 * i) % 65536, 2) })) ∧
    (w / 2 ^ 26 = 0x28 → a ≠ b → exec (.brEq e v) s = .next (s.issued e { x with branch := some (p, (p + 12) % 65536, 2) })) ∧
    (w / 2 ^ 26 = 0x29 → a ≠ b → exec (.brNe e v) s = .next (s.issued e { x with branch := some (p, (p + 4 * i) % 65536, 2) })) ∧
    (w / 2 ^ 26 = 0x29 → a = b → exec (.brNe e v) s = .next (s.issued e { x with branch := some (p, (p + 12) % 65536, 2) })) ∧
    (w / 2 ^ 26 = 0x2A → a.toInt < b.toInt → exec (.brLt e v) s = .next (s.issued e { x with branch := some (p, (p + 4 * i) % 65536, 2) })) ∧
    (w / 2 ^ 26 = 0x2A → b.toInt ≤ a.toInt → exec (.brLt e v) s = .next (s.issued e { x with branch := some (p, (p + 12) % 65536, 2) })) ∧
    (w / 2 ^ 26 = 0x2B → b.toInt ≤ a.toInt → exec (.brGe e v) s = .next (s.issued e { x with branch := some (p, (p + 4 * i) % 65536, 2) })) ∧
    (w / 2 ^ 26 = 0x2B → a.toInt < b.toInt → exec (.brGe e v) s = .next (s.issued e { x with branch := some (p, (p + 12) % 65536, 2) })) ∧
    (w / 2 ^ 26 = 0x2C → a.toNat < b.toNat → exec (.brLtu e v) s = .next (s.issued e { x with branch := some (p, (p + 4 * i) % 65536, 2) })) ∧
    (w / 2 ^ 26 = 0x2C → b.toNat ≤ a.toNat → exec (.brLtu e v) s = .next (s.issued e { x with branch := some (p, (p + 12) % 65536, 2) })) ∧
    (w / 2 ^ 26 = 0x2D → b.toNat ≤ a.toNat → exec (.brGeu e v) s = .next (s.issued e { x with branch := some (p, (p + 4 * i) % 65536, 2) })) ∧
    (w / 2 ^ 26 = 0x2D → a.toNat < b.toNat → exec (.brGeu e v) s = .next (s.issued e { x with branch := some (p, (p + 12) % 65536, 2) })) ∧
    (w / 2 ^ 26 = 0x30 → w &&& 0x3FFC000 = 0 → exec (.go e v) s = .next (s.issued e { x with branch := some (p, 4 * (w % 2 ^ 14), 2) })) ∧
    (w / 2 ^ 26 = 0x31 → w &&& 0x3FFC000 = 0 →
      exec (.call e v) s = .next (s.issued e { x.wg 30 (BitVec.ofNat 32 ((p + 12) % 65536)) with branch := some (p, 4 * (w % 2 ^ 14), 2) })) ∧
    (w / 2 ^ 26 = 0 → w % 64 = 0x15 → w &&& 0x3E0FFC0 = 0 → b.toNat % 4 = 0 →
      exec (.jmp e v) s = .next (s.issued e { x with branch := some (p, b.toNat % 65536, 2) })) ∧
    (w / 2 ^ 26 = 0 → w % 64 = 0x15 → w &&& 0x3E0FFC0 = 0 → b.toNat % 4 ≠ 0 → exec (.jmp e v) s = .next (s.raiseExc e 2 b.toNat)) ∧
    (w / 2 ^ 26 = 0 → w % 64 = 0x16 → w &&& 0x7C0 = 0 → w / 2 ^ 21 % 32 ≠ w / 2 ^ 16 % 32 → b.toNat % 4 = 0 →
      exec (.callr e v) s = .next (s.issued e { x.wg (w / 2 ^ 21 % 32) (BitVec.ofNat 32 ((p + 12) % 65536)) with branch := some (p, b.toNat % 65536, 2) })) ∧
    (w / 2 ^ 26 = 0 → w % 64 = 0x16 → w / 2 ^ 21 % 32 = w / 2 ^ 16 % 32 → exec (.callr e v) s = .next (s.raiseExc e 1 0)) ∧
    (w / 2 ^ 26 = 0x34 → w &&& 0x3E00000 = 0 → 0 < i →
      exec (.rep e v) s = .next (s.issued e { x with rep := some ((p + 4) % 65536, w / 2 ^ 16 % 32 + 1, i) })) ∧
    (w / 2 ^ 26 = 0x34 → w &&& 0x3E00000 = 0 → i = 0 →
      exec (.rep e v) s = .next ((s.setEng e x).wr TR_PC.PC ((p + 4 + 4 * (w / 2 ^ 16 % 32 + 1)) % 65536) e)) ∧
    (w / 2 ^ 26 = 0x35 → 0 < a.toNat % 65536 →
      exec (.repr e v) s = .next (s.issued e { x with rep := some ((p + 4) % 65536, w / 2 ^ 16 % 32 + 1, a.toNat % 65536) })) ∧
    (w / 2 ^ 26 = 0x35 → a.toNat % 65536 = 0 →
      exec (.repr e v) s = .next ((s.setEng e x).wr TR_PC.PC ((p + 4 + 4 * (w / 2 ^ 16 % 32 + 1)) % 65536) e)) ∧
    (∀ (u : State) (q t : Nat), u = s.setEng e { x with branch := some (q, t, 1) } → w = 0 →
      exec (.add e v) u = .next ((s.setEng e x).wr TR_PC.PC t e)) ∧
    (∀ (u : State) (q t : Nat), u = s.setEng e { x with branch := some (q, t, 2) } → w / 2 ^ 26 = 0x30 →
      exec (.go e v) u = .next (u.raiseExc e 1 0)) ∧
    (∀ (u : State) (q n c : Nat), u = s.setEng e { x with rep := some (q, n, c) } → w = 0 → p = (q + 4 * (n - 1)) % 65536 → 1 < c →
      exec (.add e v) u = .next ((s.setEng e { x with rep := some (q, n, c - 1) }).wr TR_PC.PC q e)) ∧
    (∀ (u : State) (q n : Nat), u = s.setEng e { x with rep := some (q, n, 1) } → w = 0 → p = (q + 4 * (n - 1)) % 65536 →
      exec (.add e v) u = .next (s.issued e x))
/-- The system instructions at an eligible boundary (17 R457). WAIT, EI and DI; RETX and RETM, illegal out of their state; BREAK enters the
monitor at once, with `MPC` past it (16 R433), and in monitor mode only sets `DBG_NEST`; TRAP shows how an exception is taken (16 R430): cause,
address, `XPC`, `INH` and the vector, and HELD with `DOUBLE` where `INH` is already 1. RDC and WRC reach the control registers (17 R442), `c`
being the Tram cycles since the engine's last RDC or WRC; RDK and WRK the circular registers, with one slot and lengths of at most 2 MiB. -/
def Obligations.TramSystem : Prop :=
  ∀ (s : State) (e w p d i c : Nat) (v : TramView) (x : Engine) (a : Word) (n : BitVec 64), s.standsAt e w = true → v.fetchErrs = 0 →
    x = s.eng e → p = s.rd TR_PC.PC e → d = w / 2 ^ 21 % 32 → i = w / 2 ^ 16 % 32 → a = x.rg d → n = x.cycles + BitVec.ofNat 64 c →
    (w / 2 ^ 26 = 2 → w % 64 = 1 → w &&& 0x3FFFFC0 = 0 → 
      exec (.wait e v) s = .next ((s.wr TR_STATUS.STATE 2 e).issued e { x with resv := none })) ∧
    (w / 2 ^ 26 = 2 → w % 64 = 2 → w &&& 0x3FFFFC0 = 0 → 
      exec (.ei e v) s = .next ((s.wr TR_STATUS.IE 1 e).issued e x)) ∧
    (w / 2 ^ 26 = 2 → w % 64 = 3 → w &&& 0x3FFFFC0 = 0 → 
      exec (.di e v) s = .next ((s.wr TR_STATUS.IE 0 e).issued e x)) ∧
    (w / 2 ^ 26 = 2 → w % 64 = 4 → w &&& 0x3FFFFC0 = 0 → s.rd TR_STATUS.INH e = 1 → 
      exec (.retx e v) s = .next (((s.wr TR_STATUS.INH 0 e).setEng e x).wr TR_PC.PC (s.rd TR_XPC.XPC e) e)) ∧
    (w / 2 ^ 26 = 2 → w % 64 = 4 → w &&& 0x3FFFFC0 = 0 → s.rd TR_STATUS.INH e = 0 → 
      exec (.retx e v) s = .next (s.raiseExc e 1 0)) ∧
    (w / 2 ^ 26 = 2 → w % 64 = 5 → w &&& 0x3FFFFC0 = 0 → s.rd TR_STATUS.MON e = 1 → 
      exec (.retm e v) s = .next (((s.wr TR_STATUS.MON 0 e).setEng e { x with stepOver := s.on TR_DBG_CTRL.STEP e }).wr TR_PC.PC (s.rd TR_MPC.MPC e) e)) ∧
    (w / 2 ^ 26 = 2 → w % 64 = 5 → w &&& 0x3FFFFC0 = 0 → s.rd TR_STATUS.MON e = 0 → 
      exec (.retm e v) s = .next (s.raiseExc e 1 0)) ∧
    (w / 2 ^ 26 = 2 → w % 64 = 6 → w &&& 0x3FFFFC0 = 0 → s.rd TR_STATUS.MON e = 1 → 
      exec (.break e v) s = .next ((s.wr TR_DBG_CTRL.DBG_NEST 1 e).issued e x)) ∧
    (w / 2 ^ 26 = 2 → w % 64 = 6 → w &&& 0x3FFFFC0 = 0 → s.rd TR_STATUS.MON e = 0 → 
      exec (.break e v) s = .next (((((s.issued e { x with resv := none }).wr TR_MPC.MPC ((p + 4) % 65536) e).wr TR_MPC.MREASON
        (1 + if s.bpAt e ((p + 4) % 65536) then 2 else 0) e).wr TR_STATUS.MON 1 e).wr TR_PC.PC (s.rd TR_CTRL.VBASE e * 256 + 0xC0) e)) ∧
    (w / 2 ^ 26 = 2 → w % 64 = 7 → s.rd TR_STATUS.INH e = 0 → 
      exec (.trap e v) s = .next (((((((((s.setEng e { x with resv := none }).wr TR_EXC.CAUSE 7 e).wr TR_EXC.EADDR (w / 64 % 2 ^ 20) e).wr TR_XPC.XPC p e).wr
        TR_XPC.XBD 0 e).wr TR_XPC.XINREP 0 e).wr TR_XPC.XREP 0 e).wr TR_STATUS.INH 1 e).wr TR_PC.PC (s.rd TR_CTRL.VBASE e * 256 + 0x40) e)) ∧
    (w / 2 ^ 26 = 2 → w % 64 = 7 → s.rd TR_STATUS.INH e = 1 → 
      exec (.trap e v) s = .next (((((s.setEng e x).wr TR_EXC.CAUSE 7 e).wr TR_EXC.EADDR (w / 64 % 2 ^ 20) e).wr TR_STATUS.STATE 0 e).wr
        TR_STATUS.DOUBLE 1 e)) ∧
    (w / 2 ^ 26 = 2 → w % 64 = 8 → w &&& 0xFFC0 = 0 → i = 0 → exec (.rdc e c v) s = .next (s.issued e
      ({ x with cycles := n }.wg d ((if x.sv then 1 else 0) + (if s.rd TR_STATUS.IE e = 0 then 0 else 2))))) ∧
    (w / 2 ^ 26 = 2 → w % 64 = 8 → w &&& 0xFFC0 = 0 → i = 1 → exec (.rdc e c v) s = .next (s.issued e ({ x with cycles := n }.wg d 0))) ∧
    (w / 2 ^ 26 = 2 → w % 64 = 8 → w &&& 0xFFC0 = 0 → i = 2 → exec (.rdc e c v) s = .next (s.issued e
      ({ x with cycles := n, cyclesHi := n.extractLsb' 32 32 }.wg d (n.extractLsb' 0 32)))) ∧
    (w / 2 ^ 26 = 2 → w % 64 = 8 → w &&& 0xFFC0 = 0 → i = 3 → exec (.rdc e c v) s = .next (s.issued e ({ x with cycles := n }.wg d x.cyclesHi))) ∧
    (w / 2 ^ 26 = 2 → w % 64 = 8 → w &&& 0xFFC0 = 0 → i = 4 →
      exec (.rdc e c v) s = .next (s.issued e ({ x with cycles := n }.wg d (BitVec.ofNat 32 e)))) ∧
    (w / 2 ^ 26 = 2 → w % 64 = 8 → 4 < i → exec (.rdc e c v) s = .next (s.raiseExc e 1 0)) ∧
    (w / 2 ^ 26 = 2 → w % 64 = 9 → w &&& 0xFFC0 = 0 → i = 0 → exec (.wrc e c v) s = .next (s.issued e { x with cycles := n, sv := a.getLsbD 0 })) ∧
    (w / 2 ^ 26 = 2 → w % 64 = 9 → w &&& 0xFFC0 = 0 → (i = 1 ∨ i = 4) → exec (.wrc e c v) s = .next (s.issued e { x with cycles := n })) ∧
    (w / 2 ^ 26 = 2 → w % 64 = 9 → w &&& 0xFFC0 = 0 → i = 2 →
      exec (.wrc e c v) s = .next (s.issued e { x with cycles := n.extractLsb' 32 32 ++ a })) ∧
    (w / 2 ^ 26 = 2 → w % 64 = 9 → w &&& 0xFFC0 = 0 → i = 3 →
      exec (.wrc e c v) s = .next (s.issued e { x with cycles := a ++ n.extractLsb' 0 32 })) ∧
    (w / 2 ^ 26 = 2 → w % 64 = 10 → w &&& 0x183FC0 = 0 → w / 2 ^ 14 % 4 < 3 →
      exec (.rdk e v) s = .next (s.issued e (x.wg d (Tab.get 0 x.k (w / 2 ^ 14 % 4 * 8 + w / 2 ^ 16 % 8))))) ∧
    (w / 2 ^ 26 = 2 → w % 64 = 10 → w / 2 ^ 14 % 4 = 3 → exec (.rdk e v) s = .next (s.raiseExc e 1 0)) ∧
    (∀ m : Nat, m = w / 2 ^ 14 % 4 * 8 + w / 2 ^ 16 % 8 → w / 2 ^ 26 = 2 → w % 64 = 11 → w &&& 0x183FC0 = 0 → m < 24 → (16 ≤ m → a.toNat ≤ 0x200000) →
      exec (.wrk e v) s = .next (s.issued e { x with k := Tab.set natLt 0 x.k m a, kOld := [(m, Tab.get 0 x.k m)] })) ∧
    (∀ m : Nat, m = w / 2 ^ 14 % 4 * 8 + w / 2 ^ 16 % 8 → w / 2 ^ 26 = 2 → w % 64 = 11 → w &&& 0x183FC0 = 0 → 16 ≤ m → m < 24 → 0x200000 < a.toNat →
      exec (.wrk e v) s = .next (s.issued e { x with k := Tab.set natLt 0 x.k m 0x200000, kOld := [(m, Tab.get 0 x.k m)] }))

/-- The loads of a Tram engine at an eligible boundary, where no watchpoint names the address `m` (17 R448 to R450). From data memory,
instruction memory (words and pairs only) or the own crib the bytes come little-endian and extended, rd sees them after one slot, LDR.W and LDR.P
also set the reservation on the 8-byte granule of the crib, LDK moves its pointer on and wraps it once, and nothing else in the part changes but
a gated crib bank's clock. A load of the own TR_ block reads the register. Through a valid aperture the engine freezes on a read into the Gallery. A
misaligned address, one outside the table, a byte of instruction memory, and LDR outside the crib raise ADDRESS; a double error POISON; an odd
pair register, and U with a word or a pair, ILLEGAL. -/
def Obligations.TramLoads : Prop :=
  ∀ (s u : State) (e w d m g y : Nat) (v : TramView) (x : Engine), s.standsAt e w = true → v.fetchErrs = 0 → x = s.eng e → d = w / 2 ^ 21 % 32 →
    y = (if w % 2 ^ 16 < 2 ^ 15 then w % 2 ^ 16 else w % 2 ^ 16 + 2 ^ 32 - 2 ^ 16) → s.wpAt e m false = false →
    (m = (x.rg (w / 2 ^ 16 % 32) + BitVec.ofNat 32 y).toNat → v.dataErrs = 0 → s.wordErr g = 0 →
      ((m < 0x10000 ∧ g = 0x010005010000 + e * 0x40000 + m ∧ u = s) ∨
        (0x10000 ≤ m ∧ m < 0x20000 ∧ g = 0x010005000000 + e * 0x40000 + m % 0x10000 ∧ u = s) ∨
        (0x400000 ≤ m ∧ m < 0x600000 ∧ g = 0x010004000000 + e / 8 * 0x200000 + m % 0x200000 ∧ u = s.ungate 1 (e / 8 * 16 + m / 8 % 16))) →
      (w / 2 ^ 26 = 0x10 → (m < 0x10000 ∨ 0x20000 ≤ m) →
        exec (.ldB e v) s = .next (u.issued e { x.wg d ((BitVec.ofNat 8 (s.load g 1)).signExtend 32) with gOld := [(d, Tab.get 0 x.g d)] })) ∧
      (w / 2 ^ 26 = 0x11 → (m < 0x10000 ∨ 0x20000 ≤ m) →
        exec (.ldBu e v) s = .next (u.issued e { x.wg d (BitVec.ofNat 32 (s.load g 1)) with gOld := [(d, Tab.get 0 x.g d)] })) ∧
      (w / 2 ^ 26 = 0x12 → (m < 0x10000 ∨ 0x20000 ≤ m) → m % 2 = 0 →
        exec (.ldH e v) s = .next (u.issued e { x.wg d ((BitVec.ofNat 16 (s.load g 2)).signExtend 32) with gOld := [(d, Tab.get 0 x.g d)] })) ∧
      (w / 2 ^ 26 = 0x13 → (m < 0x10000 ∨ 0x20000 ≤ m) → m % 2 = 0 →
        exec (.ldHu e v) s = .next (u.issued e { x.wg d (BitVec.ofNat 32 (s.load g 2)) with gOld := [(d, Tab.get 0 x.g d)] })) ∧
      (w / 2 ^ 26 = 0x14 → m % 4 = 0 →
        exec (.ldW e v) s = .next (u.issued e { x.wg d (BitVec.ofNat 32 (s.load g 4)) with gOld := [(d, Tab.get 0 x.g d)] })) ∧
      (w / 2 ^ 26 = 0x15 → m % 8 = 0 → d % 2 = 0 →
        exec (.ldP e v) s = .next (u.issued e { (x.wg d (BitVec.ofNat 32 (s.load g 8))).wg (d + 1) (BitVec.ofNat 32 (s.load (g + 4) 4)) with
          gOld := [(d, Tab.get 0 x.g d), (d + 1, Tab.get 0 x.g (d + 1))] })) ∧
      (w / 2 ^ 26 = 0x16 → m % 4 = 0 → 0x400000 ≤ m → exec (.ldrW e v) s = .next (u.issued e { x.wg d (BitVec.ofNat 32 (s.load g 4)) with
          gOld := [(d, Tab.get 0 x.g d)], resv := some (m % 0x200000 / 8) })) ∧
      (w / 2 ^ 26 = 0x17 → m % 8 = 0 → 0x400000 ≤ m → d % 2 = 0 →
        exec (.ldrP e v) s = .next (u.issued e { (x.wg d (BitVec.ofNat 32 (s.load g 8))).wg (d + 1) (BitVec.ofNat 32 (s.load (g + 4) 4)) with
          gOld := [(d, Tab.get 0 x.g d), (d + 1, Tab.get 0 x.g (d + 1))], resv := some (m % 0x200000 / 8) }))) ∧
    (m = (x.rg (w / 2 ^ 16 % 32) + BitVec.ofNat 32 y).toNat → w / 2 ^ 26 = 0x10 → ((0x10000 ≤ m ∧ m < 0x400000) ∨ (0x600000 ≤ m ∧ m < 0x80000000)) →
      exec (.ldB e v) s = .next (s.raiseExc e 2 m)) ∧
    (m = (x.rg (w / 2 ^ 16 % 32) + BitVec.ofNat 32 y).toNat → w / 2 ^ 26 = 0x14 →
      (m % 4 ≠ 0 ∨ (0x30000 ≤ m ∧ m < 0x400000) ∨ (0x600000 ≤ m ∧ m < 0x80000000)) → exec (.ldW e v) s = .next (s.raiseExc e 2 m)) ∧
    (m = (x.rg (w / 2 ^ 16 % 32) + BitVec.ofNat 32 y).toNat → w / 2 ^ 26 = 0x16 → (m % 4 ≠ 0 ∨ m < 0x400000 ∨ 0x600000 ≤ m) →
      exec (.ldrW e v) s = .next (s.raiseExc e 2 m)) ∧
    (m = (x.rg (w / 2 ^ 16 % 32) + BitVec.ofNat 32 y).toNat → w / 2 ^ 26 = 0x15 → d % 2 = 1 → exec (.ldP e v) s = .next (s.raiseExc e 1 0)) ∧
    (m = (x.rg (w / 2 ^ 16 % 32) + BitVec.ofNat 32 y).toNat → w / 2 ^ 26 = 0x17 → d % 2 = 1 → exec (.ldrP e v) s = .next (s.raiseExc e 1 0)) ∧
    (m = (x.rg (w / 2 ^ 16 % 32) + BitVec.ofNat 32 y).toNat → w / 2 ^ 26 = 0x14 → m % 4 = 0 → m < 0x10000 → g = 0x010005010000 + e * 0x40000 + m →
      s.wordErr g = 0 → v.dataErrs = 2 →
      exec (.ldW e v) s = .next (((s.setWordErr g 3).countErr g true 0).raiseExc e 4 m)) ∧
    (∀ (t : State) (r : Nat), (r, t) = s.trRead e (m % 0x10000) 4 false → m = (x.rg (w / 2 ^ 16 % 32) + BitVec.ofNat 32 y).toNat →
      w / 2 ^ 26 = 0x14 → m % 4 = 0 → 0x20000 ≤ m → m < 0x30000 → t.wpAt e m false = false →
      exec (.ldW e v) s = .next (t.issued e { (t.eng e).wg d (BitVec.ofNat 32 r) with gOld := [(d, Tab.get 0 (t.eng e).g d)] })) ∧
    (∀ i b : Nat, i = (m - 0x80000000) / 0x10000000 → b = s.rd TR_APER.BASE e i → m = (x.rg (w / 2 ^ 16 % 32) + BitVec.ofNat 32 y).toNat →
      w / 2 ^ 26 = 0x14 → m % 4 = 0 → 0x80000000 ≤ m →
      (s.rd TR_APER.VALID e i = 0 → exec (.ldW e v) s = .next (s.raiseExc e 2 m)) ∧
      (s.rd TR_APER.VALID e i = 1 → exec (.ldW e v) s = .next
        ((s.setEng e { x with wait := some (.answer ⟨some d, 4, false, none, none, m⟩ none) }).request
          ⟨653 + e / 8, some e, b * 0x10000000 + m % 0x10000000, 4, 0, 0, false, 0⟩))) ∧
    (∀ (n : Nat) (q kb kl nx r : Word), n = w / 2 ^ 18 % 8 → q = Tab.get 0 x.k n → kb = Tab.get 0 x.k (8 + n) → kl = Tab.get 0 x.k (16 + n) →
      nx = q + BitVec.ofInt 32 ((if w % 2 ^ 15 < 2 ^ 14 then ((w % 2 ^ 15 : Nat) : Int) else ((w % 2 ^ 15 : Nat) : Int) - 2 ^ 15) * 2 ^ (w / 2 ^ 16 % 4)) →
      r = (if kl = 0 then nx else if kb.toNat + kl.toNat ≤ nx.toNat then nx - kl else if nx.toNat < kb.toNat then nx + kl else nx) →
      w / 2 ^ 26 = 0x20 → m = q.toNat → v.dataErrs = 0 → s.wordErr g = 0 →
      ((m < 0x10000 ∧ g = 0x010005010000 + e * 0x40000 + m ∧ u = s) ∨
        (0x400000 ≤ m ∧ m < 0x600000 ∧ g = 0x010004000000 + e / 8 * 0x200000 + m % 0x200000 ∧ u = s.ungate 1 (e / 8 * 16 + m / 8 % 16))) →
        (w / 2 ^ 16 % 4 = 0 →
          exec (.ldk e v) s = .next (u.issued e { x.wg d (if w / 2 ^ 15 % 2 = 1 then BitVec.ofNat 32 (s.load g 1) else (BitVec.ofNat 8 (s.load g 1)).signExtend 32) with
          k := Tab.set natLt 0 x.k n r, gOld := [(d, Tab.get 0 x.g d)] })) ∧
        (w / 2 ^ 16 % 4 = 1 → m % 2 = 0 →
          exec (.ldk e v) s = .next (u.issued e { x.wg d (if w / 2 ^ 15 % 2 = 1 then BitVec.ofNat 32 (s.load g 2) else (BitVec.ofNat 16 (s.load g 2)).signExtend 32) with
          k := Tab.set natLt 0 x.k n r, gOld := [(d, Tab.get 0 x.g d)] })) ∧
        (w / 2 ^ 16 % 4 = 2 → m % 4 = 0 → w / 2 ^ 15 % 2 = 0 → exec (.ldk e v) s = .next (u.issued e { x.wg d (BitVec.ofNat 32 (s.load g 4)) with
          k := Tab.set natLt 0 x.k n r, gOld := [(d, Tab.get 0 x.g d)] })) ∧
        (w / 2 ^ 16 % 4 = 3 → m % 8 = 0 → w / 2 ^ 15 % 2 = 0 → d % 2 = 0 →
          exec (.ldk e v) s = .next (u.issued e { (x.wg d (BitVec.ofNat 32 (s.load g 8))).wg (d + 1) (BitVec.ofNat 32 (s.load (g + 4) 4)) with
          k := Tab.set natLt 0 x.k n r, gOld := [(d, Tab.get 0 x.g d), (d + 1, Tab.get 0 x.g (d + 1))] }))) ∧
    (w / 2 ^ 26 = 0x20 → 2 ≤ w / 2 ^ 16 % 4 → w / 2 ^ 15 % 2 = 1 → exec (.ldk e v) s = .next (s.raiseExc e 1 0))

/-- The stores of a Tram engine at an eligible boundary, where no watchpoint names the address `m` (17 R448 to R450). To data memory or the own
crib exactly the bytes of the access are stored (`CrewMemories` says what a store does); STK moves its pointer; a store-conditional stores
only where the reservation names the granule, gives rd 1 or 0 after one slot and ends the reservation. A store to instruction memory is fetched
three instructions later as before (17 R461); one to the own TR_ block waits two slots (16 R413). Through a valid aperture a store is posted and
the engine waits until the NI takes it; a sync store freezes it until the response. A bad address raises ADDRESS, an odd pair ILLEGAL. -/
def Obligations.TramStores : Prop :=
  ∀ (s u : State) (e w d m g y : Nat) (v : TramView) (x : Engine) (a b : Word), s.standsAt e w = true → v.fetchErrs = 0 → x = s.eng e →
    d = w / 2 ^ 21 % 32 → y = (if w % 2 ^ 16 < 2 ^ 15 then w % 2 ^ 16 else w % 2 ^ 16 + 2 ^ 32 - 2 ^ 16) → s.wpAt e m true = false →
    a = x.rg d → b = x.rg (d + 1) →
    (∀ t : State, m = (x.rg (w / 2 ^ 16 % 32) + BitVec.ofNat 32 y).toNat → ((m < 0x10000 ∧ g = 0x010005010000 + e * 0x40000 + m ∧ u = s) ∨
        (0x400000 ≤ m ∧ m < 0x600000 ∧ g = 0x010004000000 + e / 8 * 0x200000 + m % 0x200000 ∧ u = s.ungate 1 (e / 8 * 16 + m / 8 % 16))) →
      (w / 2 ^ 26 = 0x18 → t = (u.setEng e x).engStore g 1 (a.toNat % 2 ^ 8) v.dataErrs → exec (.stB e v) s = .next (t.issued e (t.eng e))) ∧
      (w / 2 ^ 26 = 0x19 → m % 2 = 0 → t = (u.setEng e x).engStore g 2 (a.toNat % 2 ^ 16) v.dataErrs →
        exec (.stH e v) s = .next (t.issued e (t.eng e))) ∧
      (w / 2 ^ 26 = 0x1A → m % 4 = 0 → t = (u.setEng e x).engStore g 4 (a.toNat) v.dataErrs → exec (.stW e v) s = .next (t.issued e (t.eng e))) ∧
      (w / 2 ^ 26 = 0x1B → m % 8 = 0 → d % 2 = 0 → t = (u.setEng e x).engStore g 8 (a.toNat + b.toNat * 2 ^ 32) v.dataErrs →
        exec (.stP e v) s = .next (t.issued e (t.eng e))) ∧
      (w / 2 ^ 26 = 0x1C → m % 4 = 0 → t = (u.setEng e x).engStore g 4 (a.toNat) v.dataErrs → exec (.stsW e v) s = .next (t.issued e (t.eng e))) ∧
      (w / 2 ^ 26 = 0x1D → m % 8 = 0 → d % 2 = 0 → t = (u.setEng e x).engStore g 8 (a.toNat + b.toNat * 2 ^ 32) v.dataErrs →
        exec (.stsP e v) s = .next (t.issued e (t.eng e)))) ∧
    (∀ t : State, m = (x.rg (w / 2 ^ 16 % 32) + BitVec.ofNat 32 y).toNat → 0x10000 ≤ m → m < 0x20000 →
      g = 0x010005000000 + e * 0x40000 + m % 0x10000 → m % 4 = 0 → w / 2 ^ 26 = 0x1A →
      t = (s.setEng e x).engStore g 4 a.toNat v.dataErrs →
      exec (.stW e v) s = .next (t.issued e { t.eng e with imemOld := [(3, m % 0x10000 / 4, s.load g 4)] })) ∧
    (m = (x.rg (w / 2 ^ 16 % 32) + BitVec.ofNat 32 y).toNat → 0x20000 ≤ m → m < 0x30000 → m % 4 = 0 → w / 2 ^ 26 = 0x1A →
      exec (.stW e v) s = .next (s.issued e { x with stores := [(2, m % 0x10000, 4, a.toNat)] })) ∧
    (∀ (i k : Nat) (t : State), m = (x.rg (w / 2 ^ 16 % 32) + BitVec.ofNat 32 y).toNat → i = (m - 0x80000000) / 0x10000000 →
      k = s.rd TR_APER.BASE e i → m % 4 = 0 → 0x80000000 ≤ m → s.rd TR_APER.VALID e i = 1 →
      (w / 2 ^ 26 = 0x1A → t = (s.setEng e { x with wait := some .accept }).request
          ⟨653 + e / 8, some e, k * 0x10000000 + m % 0x10000000, 4, 2, a.toNat, false, 0⟩ →
        exec (.stW e v) s = .next (t.issued e (t.eng e))) ∧
      (w / 2 ^ 26 = 0x1C → t = (s.setEng e { x with wait := some (.answer ⟨none, 4, false, none, none, m⟩ none) }).request
          ⟨653 + e / 8, some e, k * 0x10000000 + m % 0x10000000, 4, 1, a.toNat, false, 0⟩ →
        exec (.stsW e v) s = .next t)) ∧
    (m = (x.rg (w / 2 ^ 16 % 32) + BitVec.ofNat 32 y).toNat → w / 2 ^ 26 = 0x1A →
      (m % 4 ≠ 0 ∨ (0x30000 ≤ m ∧ m < 0x400000) ∨ (0x600000 ≤ m ∧ m < 0x80000000)) → exec (.stW e v) s = .next (s.raiseExc e 2 m)) ∧
    (m = (x.rg (w / 2 ^ 16 % 32) + BitVec.ofNat 32 y).toNat → w / 2 ^ 26 = 0x18 → ((0x10000 ≤ m ∧ m < 0x400000) ∨ (0x600000 ≤ m ∧ m < 0x80000000)) →
      exec (.stB e v) s = .next (s.raiseExc e 2 m)) ∧
    (w / 2 ^ 26 = 0x1B → d % 2 = 1 → exec (.stP e v) s = .next (s.raiseExc e 1 0)) ∧
    (∀ (o r : Nat) (t : State), m = (x.rg (w / 2 ^ 16 % 32) + BitVec.ofNat 32 o).toNat →
      o = (if w % 2 ^ 11 < 2 ^ 10 then w % 2 ^ 11 else w % 2 ^ 11 + 2 ^ 32 - 2 ^ 11) → r = w / 2 ^ 11 % 32 → 0x400000 ≤ m → m < 0x600000 →
        g = 0x010004000000 + e / 8 * 0x200000 + m % 0x200000 → u = s.ungate 1 (e / 8 * 16 + m / 8 % 16) →
      (w / 2 ^ 26 = 0x1E → m % 4 = 0 → x.resv = some (m % 0x200000 / 8) →
        t = (u.setEng e { x.wg d 1 with gOld := [(d, Tab.get 0 x.g d)], resv := none }).engStore g 4 ((x.rg r).toNat) v.dataErrs →
        exec (.stcW e v) s = .next (t.issued e (t.eng e))) ∧
      (w / 2 ^ 26 = 0x1E → m % 4 = 0 → x.resv ≠ some (m % 0x200000 / 8) →
        exec (.stcW e v) s = .next (u.issued e { x.wg d 0 with gOld := [(d, Tab.get 0 x.g d)], resv := none })) ∧
      (w / 2 ^ 26 = 0x1F → m % 8 = 0 → r % 2 = 0 → x.resv = some (m % 0x200000 / 8) →
        t = (u.setEng e { x.wg d 1 with gOld := [(d, Tab.get 0 x.g d)], resv := none }).engStore g 8 ((x.rg r).toNat + (x.rg (r + 1)).toNat * 2 ^ 32) v.dataErrs →
        exec (.stcP e v) s = .next (t.issued e (t.eng e))) ∧
      (w / 2 ^ 26 = 0x1F → m % 8 = 0 → r % 2 = 0 → x.resv ≠ some (m % 0x200000 / 8) →
        exec (.stcP e v) s = .next (u.issued e { x.wg d 0 with gOld := [(d, Tab.get 0 x.g d)], resv := none }))) ∧
    (∀ o : Nat, m = (x.rg (w / 2 ^ 16 % 32) + BitVec.ofNat 32 o).toNat →
      o = (if w % 2 ^ 11 < 2 ^ 10 then w % 2 ^ 11 else w % 2 ^ 11 + 2 ^ 32 - 2 ^ 11) → w / 2 ^ 26 = 0x1E →
        (m % 4 ≠ 0 ∨ m < 0x400000 ∨ 0x600000 ≤ m) → exec (.stcW e v) s = .next (s.raiseExc e 2 m)) ∧
    (∀ (n : Nat) (q kb kl nx r : Word) (t : State), n = w / 2 ^ 18 % 8 → q = Tab.get 0 x.k n → kb = Tab.get 0 x.k (8 + n) →
      kl = Tab.get 0 x.k (16 + n) →
      nx = q + BitVec.ofInt 32 ((if w % 2 ^ 15 < 2 ^ 14 then ((w % 2 ^ 15 : Nat) : Int) else ((w % 2 ^ 15 : Nat) : Int) - 2 ^ 15) * 2 ^ (w / 2 ^ 16 % 4)) →
      r = (if kl = 0 then nx else if kb.toNat + kl.toNat ≤ nx.toNat then nx - kl else if nx.toNat < kb.toNat then nx + kl else nx) →
      w / 2 ^ 26 = 0x21 → m = q.toNat →
      ((m < 0x10000 ∧ g = 0x010005010000 + e * 0x40000 + m ∧ u = s) ∨
        (0x400000 ≤ m ∧ m < 0x600000 ∧ g = 0x010004000000 + e / 8 * 0x200000 + m % 0x200000 ∧ u = s.ungate 1 (e / 8 * 16 + m / 8 % 16))) →
        (w / 2 ^ 16 % 4 = 0 → t = (u.setEng e { x with k := Tab.set natLt 0 x.k n r }).engStore g 1 (a.toNat % 2 ^ 8) v.dataErrs →
          exec (.stk e v) s = .next (t.issued e (t.eng e))) ∧
        (w / 2 ^ 16 % 4 = 1 → m % 2 = 0 → t = (u.setEng e { x with k := Tab.set natLt 0 x.k n r }).engStore g 2 (a.toNat % 2 ^ 16) v.dataErrs →
          exec (.stk e v) s = .next (t.issued e (t.eng e))) ∧
        (w / 2 ^ 16 % 4 = 2 → m % 4 = 0 → w / 2 ^ 15 % 2 = 0 →
          t = (u.setEng e { x with k := Tab.set natLt 0 x.k n r }).engStore g 4 (a.toNat) v.dataErrs →
          exec (.stk e v) s = .next (t.issued e (t.eng e))) ∧
        (w / 2 ^ 16 % 4 = 3 → m % 8 = 0 → w / 2 ^ 15 % 2 = 0 → d % 2 = 0 →
          t = (u.setEng e { x with k := Tab.set natLt 0 x.k n r }).engStore g 8 (a.toNat + b.toNat * 2 ^ 32) v.dataErrs →
          exec (.stk e v) s = .next (t.issued e (t.eng e))))

/-- The queue instructions at an eligible boundary (17 R456, 16 R425): a push is a posted 4-byte write of rs to the window of the port's queue,
which holds the engine until the Cage takes it; a pop a 4-byte read that freezes the engine until its response, a head pop one that then lowers
the port's count; on an unbound port each raises QPORT. A notice raises the port's count and the `QNOTE` source, and at 65,535 sets `SAT` (16
R426). A post takes a place in the FIFO of 16 and is answered OK; on a full FIFO or in RESET it is answered TARGET, or logged where it is posted
(16 R427). A read of `TR_POST_DATA` takes the oldest, a peek leaves it. -/
def Obligations.TramQueues : Prop :=
  (∀ (s : State) (e w d i k : Nat) (v : TramView) (x : Engine) (a : Word), s.standsAt e w = true → v.fetchErrs = 0 → x = s.eng e →
    d = w / 2 ^ 21 % 32 → i = w / 2 ^ 16 % 16 → k = 0x010006000000 + s.rd TR_QPORT.QUEUE e i * 0x1000 → a = x.rg d → w / 2 ^ 26 = 3 →
    w &&& 0x10FFC0 = 0 →
    (∀ t : State, w % 64 = 0 → s.rd TR_QPORT.VALID e i = 1 → t = (s.setEng e { x with wait := some .push }).request
        ⟨653 + e / 8, some e, k + 0x808, 4, 2, a.toNat, false, 0⟩ → exec (.qpush e v) s = .next (t.issued e (t.eng e))) ∧
    (∀ t : State, w % 64 = 1 → s.rd TR_QPORT.VALID e i = 1 → t = (s.setEng e { x with wait := some .push }).request
        ⟨653 + e / 8, some e, k + 0x810, 4, 2, a.toNat, false, 0⟩ → exec (.qpushl e v) s = .next (t.issued e (t.eng e))) ∧
    (w % 64 = 2 → s.rd TR_QPORT.VALID e i = 1 → exec (.qpop e v) s = .next
      ((s.setEng e { x with wait := some (.answer ⟨some d, 4, false, none, none, (k + 0x818) % 2 ^ 32⟩ none) }).request
        ⟨653 + e / 8, some e, k + 0x818, 4, 0, 0, false, 0⟩)) ∧
    (w % 64 = 3 → s.rd TR_QPORT.VALID e i = 1 → exec (.qpoph e v) s = .next
      ((s.setEng e { x with wait := some (.answer ⟨some d, 4, false, none, some i, (k + 0x818) % 2 ^ 32⟩ none) }).request
        ⟨653 + e / 8, some e, k + 0x818, 4, 0, 0, false, 0⟩)) ∧
    (w % 64 = 0 → s.rd TR_QPORT.VALID e i = 0 → exec (.qpush e v) s = .next (s.raiseExc e 6 0)) ∧
    (w % 64 = 1 → s.rd TR_QPORT.VALID e i = 0 → exec (.qpushl e v) s = .next (s.raiseExc e 6 0)) ∧
    (w % 64 = 2 → s.rd TR_QPORT.VALID e i = 0 → exec (.qpop e v) s = .next (s.raiseExc e 6 0)) ∧
    (w % 64 = 3 → s.rd TR_QPORT.VALID e i = 0 → exec (.qpoph e v) s = .next (s.raiseExc e 6 0))) ∧
  (∀ (s : State) (e i n o sh d q src tag r : Nat) (x : Engine) (pq : QPkt) (ps : List Nat), e < 64 → x = s.eng e →
    o = s.rd TR_QCOUNT.COUNT e (i / 4) → sh = 16 * (i % 4) → n = o / 2 ^ sh % 2 ^ 16 →
    (i < 16 → n < 0xFFFE → exec (.qnote e i) s = .next ((s.wr TR_QCOUNT.COUNT (o + 2 ^ sh) e (i / 4)).wr TR_IRQ_PEND.PEND
      (s.rd TR_IRQ_PEND.PEND e ||| 1) e)) ∧
    (i < 16 → 0xFFFE ≤ n → exec (.qnote e i) s = .next (((s.wr TR_QCOUNT.COUNT (o + (0xFFFF - n) * 2 ^ sh) e (i / 4)).wr TR_IRQ_PEND.PEND
      (s.rd TR_IRQ_PEND.PEND e ||| 1) e).wr TR_QPORT.SAT 1 e i)) ∧
    (s.tram.resend = [e] → s.liveQueues.filter (fun k => s.endsAt k (.engine e) && !s.quUp k) = [q] →
      (s.queue q).pkts.filter (fun k => k.closed) = [pq] → s.rd QU_END.KIND q = 0 → s.rd QU_END.UNIT q = e →
      exec (.noticeResend e) s = .next
        { s with tram := { s.tram with resend := [] }, sent := s.sent ++
          [Emission.access 644 (0x010005020060 + e * 0x40000) 4 true false (s.rd QU_END.PORT q) false] }) ∧
    (e ∉ s.tram.resend → exec (.noticeResend e) s = .next s) ∧
    (d < 2 ^ 32 → x.posts.length < 16 → s.rd TR_STATUS.STATE e ≠ 3 → exec (.irqPost e d src tag false) s = .next
      { s.setEng e { x with posts := x.posts ++ [d] } with sent := s.sent ++ [Emission.response (653 + e / 8) src tag 0 0 false] }) ∧
    (d < 2 ^ 32 → x.posts.length < 16 → s.rd TR_STATUS.STATE e ≠ 3 → exec (.irqPost e d src tag true) s = .next
      (s.setEng e { x with posts := x.posts ++ [d] })) ∧
    ((16 ≤ x.posts.length ∨ s.rd TR_STATUS.STATE e = 3) → exec (.irqPost e d src tag false) s = .next
      { s with sent := s.sent ++ [Emission.response (653 + e / 8) src tag 1 0 false] }) ∧
    ((16 ≤ x.posts.length ∨ s.rd TR_STATUS.STATE e = 3) → exec (.irqPost e d src tag true) s = .next (s.post 9 0x0090 2 1)) ∧
    (x.posts = r :: ps → exec (.postPop e 8 src tag false) s = .next { s.setEng e { x with posts := ps } with
      sent := s.sent ++ [Emission.response (653 + e / 8) src tag 0 (r + 2 ^ 32) false] }) ∧
    (x.posts = r :: ps → exec (.postPop e 4 src tag false) s = .next { s.setEng e { x with posts := ps } with
      sent := s.sent ++ [Emission.response (653 + e / 8) src tag 0 ((r + 2 ^ 32) % 2 ^ 32) false] }) ∧
    (x.posts = r :: ps → exec (.postPop e 8 src tag true) s = .next
      { s with sent := s.sent ++ [Emission.response (653 + e / 8) src tag 0 (r + 2 ^ 32) false] }) ∧
    (x.posts = [] → exec (.postPop e 8 src tag false) s = .next
      { s with sent := s.sent ++ [Emission.response (653 + e / 8) src tag 0 0 false] }))
/-- Interrupt entry (16 R428, R436): a RUNNING engine at an eligible boundary enters its handler, a WAITING one wakes and enters it where IE is
1 and `INH` 0; with no source both pending and enabled nothing happens. Debug entry (16 R433). A write of `TR_CTRL` stores `ENTRY` and `VBASE`
and runs its command, refused with `CMD_ERR` where R437 says so; HALT waits for the boundary; `LOADED` clears `IMEM_STALE` after the command.
`HALT_REQ` marks the cause, and takes a WAITING engine into the monitor at once (20 R518). The watchdog resets the engine, warns first with
`ACT` = 1, and is reloaded by a kick and by any write of `TR_WDOG`, whose `LIMIT` 0 acts as 1 (16 R432). -/
def Obligations.TramControl : Prop :=
  ∀ (s c h u : State) (e v k p vb : Nat) (x : Engine), e < 64 → x = s.eng e → p = s.rd TR_PC.PC e → vb = s.rd TR_CTRL.VBASE e * 256 →
    k = (s.rd TR_IRQ_PEND.PEND e &&& 0x19) + (if x.posts = [] then 0 else 2) + (if s.sampler.noticePend.testBit e then 4 else 0) →
    c = (s.wr TR_CTRL.ENTRY (v / 2 ^ 16 % 2 ^ 14) e).wr TR_CTRL.VBASE (v / 2 ^ 32 % 2 ^ 8) e →
    h = (s.wr TR_DBG_CTRL.STEP (v / 2 % 2) e).wr TR_DBG_CTRL.DBG_NEST (if v / 4 % 2 = 1 then 0 else s.rd TR_DBG_CTRL.DBG_NEST e) e →
    u = (((s.wr TR_WDOG.LIMIT (v % 2 ^ 24) e).wr TR_WDOG.EN (v / 2 ^ 24 % 2) e).wr TR_WDOG.ACT (v / 2 ^ 25 % 2) e).wr TR_WDOG.DBG_STOP
      (v / 2 ^ 26 % 2) e →
    (s.rd TR_STATUS.STATE e = 1 → x.eligible = true → s.pushHeld e = false → k &&& s.rd TR_IRQ_EN.EN e ≠ 0 → s.rd TR_STATUS.IE e = 1 →
      s.rd TR_STATUS.INH e = 0 → exec (.interruptEntry e) s = .next
        ((((s.wr TR_XPC.XPC p e).wr TR_STATUS.INH 1 e).wr TR_PC.PC (vb + 0x80) e).setEng e { x with resv := none })) ∧
    (s.rd TR_STATUS.STATE e = 2 → x.stores = [] → k &&& s.rd TR_IRQ_EN.EN e ≠ 0 → s.rd TR_STATUS.IE e = 1 → s.rd TR_STATUS.INH e = 0 →
      exec (.interruptEntry e) s = .next ((((((s.wr TR_STATUS.STATE 1 e).ungate 0 e).wr TR_XPC.XPC p e).wr TR_STATUS.INH 1 e).wr TR_PC.PC
        (vb + 0x80) e).setEng e { x with gOld := [], accOld := [], kOld := [], resv := none })) ∧
    (s.rd TR_STATUS.STATE e = 2 → k &&& s.rd TR_IRQ_EN.EN e ≠ 0 → (s.rd TR_STATUS.IE e = 0 ∨ s.rd TR_STATUS.INH e = 1) →
      exec (.interruptEntry e) s = .next ((s.wr TR_STATUS.STATE 1 e).ungate 0 e)) ∧
    (k &&& s.rd TR_IRQ_EN.EN e = 0 → exec (.interruptEntry e) s = .next s) ∧
    (s.rd TR_STATUS.STATE e = 1 → x.eligible = true → s.pushHeld e = false → s.dbgCauses e ≠ 0 → exec (.debugEntry e) s = .next
      (((((s.wr TR_MPC.MPC p e).wr TR_MPC.MREASON (s.dbgCauses e) e).wr TR_STATUS.MON 1 e).wr TR_PC.PC (vb + 0xC0) e).setEng e
        { x with resv := none, dbg := 0, stepOver := false })) ∧
    (s.rd TR_STATUS.MON e = 1 → exec (.debugEntry e) s = .next s) ∧
    (v / 4 % 2 = 0 → s.rd TR_STATUS.STATE e = 0 → s.rd TR_STATUS.IMEM_STALE e = 0 → s.ready (30 + e / 8) = true →
      exec (.trStart e v) s = .next (((((((c.wr TR_STATUS.STATE 1 e).wr TR_PC.PC (4 * (v / 2 ^ 16 % 2 ^ 14)) e).wr TR_STATUS.IE 0 e).wr
        TR_STATUS.INH 0 e).wr TR_STATUS.MON 0 e).setEng e { x with ran := true, stepOver := false, warned := false }).ungate 0 e)) ∧
    (v / 4 % 2 = 0 → (s.rd TR_STATUS.STATE e ≠ 0 ∨ s.rd TR_STATUS.IMEM_STALE e = 1 ∨ s.ready (30 + e / 8) = false) →
      exec (.trStart e v) s = .next (c.wr TR_STATUS.CMD_ERR 1 e)) ∧
    (v / 4 % 2 = 0 → s.rd TR_STATUS.STATE e = 0 → s.rd TR_STATUS.IMEM_STALE e = 0 → s.ready (30 + e / 8) = true → x.ran = true →
      exec (.trResume e v) s = .next (((c.wr TR_STATUS.STATE 1 e).setEng e { x with warned := false }).ungate 0 e)) ∧
    (v / 4 % 2 = 0 → (s.rd TR_STATUS.STATE e ≠ 0 ∨ s.rd TR_STATUS.IMEM_STALE e = 1 ∨ s.ready (30 + e / 8) = false ∨ x.ran = false) →
      exec (.trResume e v) s = .next (c.wr TR_STATUS.CMD_ERR 1 e)) ∧
    (v / 4 % 2 = 0 → s.rd TR_STATUS.STATE e = 2 → exec (.trHalt e v) s = .next (c.wr TR_STATUS.STATE 0 e)) ∧
    (v / 4 % 2 = 0 → s.rd TR_STATUS.STATE e = 1 → x.eligible = true → exec (.trHalt e v) s = .next
      ((c.wr TR_STATUS.STATE 0 e).setEng e { x with haltDue := false })) ∧
    (v / 4 % 2 = 0 → s.rd TR_STATUS.STATE e = 1 → x.eligible = false → exec (.trHalt e v) s = .next
      (c.setEng e { x with haltDue := true })) ∧
    (v / 4 % 2 = 0 → (s.rd TR_STATUS.STATE e = 0 ∨ s.rd TR_STATUS.STATE e = 3) → exec (.trHalt e v) s = .next (c.wr TR_STATUS.CMD_ERR 1 e)) ∧
    (v % 4 = 0 → exec (.loaded e v) s = .next (c.wr TR_STATUS.IMEM_STALE 0 e)) ∧
    (v % 4 = 1 → s.rd TR_STATUS.IMEM_STALE e = 1 → exec (.loaded e v) s = .next
      ((c.wr TR_STATUS.CMD_ERR 1 e).wr TR_STATUS.IMEM_STALE 0 e)) ∧
    ((s.rd TR_STATUS.STATE e = 3 ∨ s.rd TR_STATUS.MON e = 1) → exec (.haltReq e v) s = .next h) ∧
    (s.rd TR_STATUS.STATE e < 2 → s.rd TR_STATUS.MON e = 0 → exec (.haltReq e v) s = .next (h.setEng e { x with dbg := x.dbg ||| 16 })) ∧
    (s.rd TR_STATUS.STATE e = 2 → s.rd TR_STATUS.MON e = 0 → s.bpAt e p = false → exec (.haltReq e v) s = .next
      (((((((h.wr TR_STATUS.STATE 1 e).ungate 0 e).wr TR_MPC.MPC p e).wr TR_MPC.MREASON (x.dbg ||| 16) e).wr TR_STATUS.MON 1 e).wr TR_PC.PC
        (vb + 0xC0) e).setEng e { x with resv := none, dbg := 0, stepOver := false })) ∧
    (s.rd TR_WDOG.EN e = 1 → s.rd TR_STATUS.STATE e = 1 → s.rd TR_STATUS.MON e = 0 → s.rd TR_WDOG.ACT e = 1 → x.warned = false →
      exec (.watchdogExpiry e) s = .next ((s.wr TR_IRQ_PEND.PEND (s.rd TR_IRQ_PEND.PEND e ||| 16) e).setEng e { x with warned := true })) ∧
    (s.rd TR_WDOG.EN e = 1 → s.rd TR_STATUS.STATE e = 2 → s.rd TR_WDOG.DBG_STOP e = 0 → (s.rd TR_WDOG.ACT e = 0 ∨ x.warned = true) →
      s.clk.engineReset = none → ∃ t, exec (.watchdogExpiry e) s = .next t ∧ t.clk.engineReset = some e ∧ t.rd TR_STATUS.STATE e = 3 ∧
        t.rd TR_STATUS.RST_CAUSE e = 2 ∧ t.rd TR_STATUS.WDOG_RESETS e = min (s.rd TR_STATUS.WDOG_RESETS e + 1) 255) ∧
    ((s.rd TR_WDOG.EN e = 0 ∨ s.rd TR_STATUS.STATE e = 0 ∨ s.rd TR_STATUS.STATE e = 3) → exec (.watchdogExpiry e) s = .next s) ∧
    (exec (.kick e) s = .next (s.setEng e { x with warned := false })) ∧
    (v % 2 ^ 24 ≠ 0 → exec (.wdogWrite e v) s = .next (u.setEng e { x with warned := false })) ∧
    (v % 2 ^ 24 = 0 → exec (.wdogWrite e v) s = .next ((u.wr TR_WDOG.LIMIT 1 e).setEng e { x with warned := false }))

/-- Start-up (18 R465). A step that ends writes its two bits of `FM_START_REC` and, failed, an event; a ready bit that changes sets the `READY`
source. An image that fails at check `c` is logged; the primary's is marked in the record, the golden image boots next, and after both the ROM is
in recovery; one that authenticates boots: Foreman ready, `IMAGE`, `FW_VER`, `SVN` (whether a signature verifies is not the spec's to compute
here, so both outcomes are stated). A step that has ended, or waits for another, does nothing. A crew or port with a failed mark stays down. The
record goes to the copy not in force (18 R472). The load deadline runs from the four configuration paths' ready bits (06 R175). -/
def Obligations.StartUp : Prop :=
  (∀ (s t : State) (i o j b : Nat), i < 32 → o < 4 → t = s.recordStep i o → t.rd FM_START_REC.REC / 4 ^ i % 4 = o ∧ t.stepEnded i = true ∧
    (j < 32 → j ≠ i → t.rd FM_START_REC.REC / 4 ^ j % 4 = s.rd FM_START_REC.REC / 4 ^ j % 4 ∧ t.stepEnded j = s.stepEnded j) ∧
    (b < 39 → s.ready b = false → (s.setReady b true).ready b = true ∧ (s.setReady b true).bit FM_IRQ_STATUS.SRC 5 = true) ∧
    (o = 2 → t.events = s.events ++ [⟨0, 0x0003, 2, i + 512, s.rd WD_TALLY.TALLY⟩]) ∧ (o ≠ 2 → t.events = s.events)) ∧
  (∀ (s : State) (v : ImageView) (c : Nat), s.romRuns = true →
    (s.stepEnded 3 = false → s.stepEnded 4 = false → s.fm.record.primary = none → imgFail v 0 = some c → ∃ t, exec (.fwPrimary v) s = .next t ∧
      t.rd FM_START_REC.REC / 64 % 4 = 2 ∧ t.stepEnded 3 = true ∧ t.fm.record.primary = some (imgDigest v) ∧ t.rd FM_BOOT.PRIMARY_BAD = 1 ∧
      t.ready 0 = false ∧ t.rd FM_BOOT.RECOVERY = s.rd FM_BOOT.RECOVERY ∧ t.events = s.events ++ [⟨0, 0x0003, 2, 3 + 512, s.rd WD_TALLY.TALLY⟩,
        ⟨0, 0x0002, 2, 16 * c, s.rd WD_TALLY.TALLY⟩]) ∧
    (s.stepEnded 3 = false → s.stepEnded 4 = false → s.fm.record.primary = none → ∃ t, exec (.fwPrimary v) s = .next t ∧
      match imgFail v 0 with
      | none => t.ready 0 = true ∧ t.rd FM_BOOT.IMAGE = 0 ∧ t.rd FM_BOOT.FW_VER = imgFwVer v % 2 ^ 32 ∧ t.fm.svn = imgSvn v ∧
          t.fm.primaryVer = imgFwVer v ∧ t.rd FM_START_REC.REC / 64 % 4 = 1 ∧ t.rd FM_START_REC.REC / 256 % 4 = 0 ∧ t.stepEnded 4 = true
      | some _ => t.ready 0 = false) ∧
    (s.stepEnded 3 = true → exec (.fwPrimary v) s = .next s) ∧
    (s.stepEnded 3 = false → s.stepEnded 4 = false → s.fm.record.primary = some (imgDigest v) → exec (.fwPrimary v) s = .next s) ∧
    (s.stepEnded 3 = true → s.stepEnded 4 = false → imgFail v 1 = some c → ∃ t, exec (.fwGolden v) s = .next t ∧
      t.rd FM_START_REC.REC / 256 % 4 = 2 ∧ t.rd FM_BOOT.RECOVERY = 1 ∧ t.ready 0 = false ∧ t.fm.record = s.fm.record ∧
      t.events = s.events ++ [⟨0, 0x0003, 2, 4 + 512, s.rd WD_TALLY.TALLY⟩, ⟨0, 0x0002, 2, 1 + 16 * c, s.rd WD_TALLY.TALLY⟩]) ∧
    (s.stepEnded 3 = true → s.stepEnded 4 = false → ∃ t, exec (.fwGolden v) s = .next t ∧
      match imgFail v 1 with
      | none => t.ready 0 = true ∧ t.rd FM_BOOT.IMAGE = 1 ∧ t.rd FM_BOOT.FW_VER = imgFwVer v % 2 ^ 32 ∧ t.fm.svn = imgSvn v ∧
          t.fm.goldenVer = imgFwVer v ∧ t.rd FM_START_REC.REC / 256 % 4 = 3
      | some _ => t.rd FM_BOOT.RECOVERY = 1) ∧
    (s.stepEnded 3 = false → s.fm.record.primary = none → exec (.fwGolden v) s = .next s) ∧
    (s.stepEnded 4 = true → exec (.fwGolden v) s = .next s)) ∧
  (∀ (s : State) (v : ImageView) (i : Nat), (leNat (v.header.take 4) ≠ 0x4D494D46 → imgFail v i = some 0) ∧
    (s.romRuns = false → exec (.fwPrimary v) s = .next s) ∧ (s.romRuns = false → exec (.fwGolden v) s = .next s)) ∧
  (∀ (s : State) (k : Nat), s.ready 0 = true →
    (s.stepEnded 5 = false → s.rd CG_BASE.BASE_LATE = 0 → exec .base s = .next ((s.wr CG_BASE.BASE_DONE 1).recordStep 5 1)) ∧
    (s.stepEnded 5 = false → s.rd CG_BASE.BASE_LATE = 1 → exec .base s = .next (s.recordStep 5 3)) ∧
    (s.stepEnded 5 = true → exec .base s = .next s) ∧
    (s.stepEnded 5 = true → s.stepEnded 6 = false → exec (.fuse true) s = .next ((s.recordStep 6 1).setReady 1 true)) ∧
    (s.stepEnded 5 = true → s.stepEnded 6 = false → exec (.fuse false) s = .next (s.recordStep 6 2)) ∧
    (s.stepEnded 5 = false → exec (.fuse true) s = .next s) ∧
    (k < 4 → s.stepEnded (16 + k) = false → exec (.seamSelfTest k true) s = .next ((s.recordStep (16 + k) 1).setReady (26 + k) true)) ∧
    (k < 4 → s.stepEnded (16 + k) = false → exec (.seamSelfTest k false) s = .next (s.recordStep (16 + k) 2)) ∧
    (k < 4 → s.stepEnded (16 + k) = true → exec (.seamSelfTest k true) s = .next s) ∧
    (k < 8 → s.stepEnded (20 + k) = false → s.fm.record.crews.testBit k = false → ∃ t, exec (.crewInit k true) s = .next t ∧
      t.ready (30 + k) = true ∧ t.rd FM_START_REC.REC / 4 ^ (20 + k) % 4 = 1 ∧
      ∀ a : Nat, t.byte a = (if (0x010004000000 + k * 0x200000 ≤ a ∧ a < 0x010004000000 + (k + 1) * 0x200000) ∨
        (0x010005000000 + k * 0x200000 ≤ a ∧ a < 0x010005000000 + (k + 1) * 0x200000) then 0 else s.byte a)) ∧
    (k < 8 → s.stepEnded (20 + k) = false → s.fm.record.crews.testBit k = false → ∃ t, exec (.crewInit k false) s = .next t ∧
      t.ready (30 + k) = s.ready (30 + k) ∧ t.rd FM_START_REC.REC / 4 ^ (20 + k) % 4 = 2 ∧
      t.fm.record = { s.fm.record with crews := s.fm.record.crews ||| 2 ^ k } ∧ t.mem = s.mem) ∧
    (∀ b : Bool, k < 8 → s.stepEnded (20 + k) = false → s.fm.record.crews.testBit k = true → ∃ t, exec (.crewInit k b) s = .next t ∧
      t.rd FM_START_REC.REC / 4 ^ (20 + k) % 4 = 3 ∧ t.bit CK_CREW_PWR.ON k = false ∧ t.bit CK_CREW_PWR.ON_STAT k = false ∧
      t.ready (30 + k) = s.ready (30 + k) ∧ t.mem = s.mem) ∧
    (s.stepEnded 28 = false → ∃ t, exec (.xcCalibrate k) s = .next t ∧
      (∀ p : Nat, p < 16 → t.ready (10 + p) = (s.ready (10 + p) || (k.testBit p && !s.fm.record.ports.testBit p))) ∧
      (∀ p : Nat, p < 16 → t.fm.record.ports.testBit p = (s.fm.record.ports.testBit p || !k.testBit p)) ∧
      t.rd FM_START_REC.REC / 4 ^ 28 % 4 = (if ((List.range 16).all fun p => s.fm.record.ports.testBit p || k.testBit p) = true then
        (if s.fm.record.ports % 2 ^ 16 = 0 then 1 else 3) else 2)) ∧
    (s.stepEnded 28 = true → exec (.xcCalibrate k) s = .next s) ∧
    (s.stepEnded 29 = false → exec .shiftStart s = .next ((s.recordStep 29 1).setReady 38 true)) ∧
    (s.stepEnded 29 = true → exec .shiftStart s = .next s)) ∧
  (∀ s : State,
    (s.fm.timed = false → s.stepEnded 30 = false → s.rd FM_READY.READY / 2 ^ 26 % 16 = 15 → exec .fabric s = .next
      ({ s with fm := { s.fm with timed := true } }.wr FM_LOAD_DEADLINE.RUNNING (if s.rd FM_LOAD_DEADLINE.MS = 0 then 0 else 1))) ∧
    ((s.fm.timed = true ∨ s.stepEnded 30 = true ∨ s.rd FM_READY.READY / 2 ^ 26 % 16 ≠ 15) → exec .fabric s = .next s) ∧
    (s.fm.ended % 2 ^ 30 = 2 ^ 30 - 1 → ∃ t, exec (.record true) s = .next t ∧ t.rd FM_START_REC.REC / 4 ^ 31 % 4 = 1 ∧
      t.flash = s.flash.writeOther (some { s.fm.record with rec_ := t.rd FM_START_REC.REC })) ∧
    (s.fm.ended % 2 ^ 30 = 2 ^ 30 - 1 → ∃ t, exec (.record false) s = .next t ∧ t.rd FM_START_REC.REC / 4 ^ 31 % 4 = 2 ∧
      t.flash = s.flash.writeOther none) ∧
    (s.fm.ended % 2 ^ 30 ≠ 2 ^ 30 - 1 → exec (.record true) s = .next s)) ∧
  (∀ (f : Flash) (r : StartRecord), f.copyA.isSome = true → f.inB = false → (f.current.map (·.seq)).getD 0 < 2 ^ 32 - 1 →
    (f.writeOther (some r)).record = r) ∧
  (∀ (s : State) (ms el : Nat), (s.rd FM_LOAD_DEADLINE.RUNNING = 0 → exec (.loadDeadlineWrite ms el) s = .next (s.wr FM_LOAD_DEADLINE.MS ms)) ∧
    (s.rd FM_LOAD_DEADLINE.RUNNING = 1 → ms % 2 ^ 32 = 0 → exec (.loadDeadlineWrite ms el) s = .next
      ((s.wr FM_LOAD_DEADLINE.MS ms).wr FM_LOAD_DEADLINE.RUNNING 0)) ∧
    (s.rd FM_LOAD_DEADLINE.RUNNING = 1 → ms < 2 ^ 32 → el < ms → exec (.loadDeadlineWrite ms el) s = .next (s.wr FM_LOAD_DEADLINE.MS ms)) ∧
    (s.rd FM_LOAD_DEADLINE.RUNNING = 1 → ms < 2 ^ 32 → ms ≤ el → 0 < ms → s.ldState = 0 → exec (.loadDeadlineWrite ms el) s = .next
      { ((s.wr FM_LOAD_DEADLINE.MS ms).wr FM_LOAD_DEADLINE.RUNNING 0).wr FM_LOAD_DEADLINE.EXPIRED 1 with
        loader := { s.loader with diag := some ⟨s.rd FM_BOOT.IMAGE, false, false⟩ } }))

/-- The mailbox (18 R479 to R482): a command written to a free mailbox sets `BUSY` and is carried out, with the response and result of its row;
`MB_DONE` then writes them to the registers, clears `BUSY` and sets `DONE`. One written while `BUSY` sets `MB_OVR`; in recovery only three are
served; on a halted part each ends at once with HALTED. (Whether a wrapped key or an image is good rests on functions that the spec names and
does not give, so each outcome is stated.) Sensors (18 R474, R475): every reading takes its register; a crossing of a limit acts once. The log
(18 R476 to R478): the oldest event becomes the entry `NEXT_SEQ`, and entries go to flash. -/
def Obligations.ForemanServices : Prop :=
  (∀ (s : State) (len tag : Nat), s.fm.mailbox = none → s.rd FM_MB_STATUS.BUSY = 0 → s.rd EN_STATUS.HALTED = 0 → s.ready 0 = true →
    s.rd FM_BOOT.RECOVERY = 0 → len ≤ 32 → tag < 2 ^ 16 →
    (exec (.identify len tag) s = .next
      { s.wr FM_MB_STATUS.BUSY 1 with fm := { s.fm with mailbox := some ⟨1, len, tag, some (0, [s.raw FM_ID.regs, s.fm.primaryVer + 2 ^ 32 * s.fm.goldenVer, s.rd FM_BOOT.IMAGE + 2 ^ 32 * s.fm.svn])⟩ } }) ∧
    (exec (.readRecord len tag) s = .next
      { s.wr FM_MB_STATUS.BUSY 1 with fm := { s.fm with mailbox := some ⟨2, len, tag, some (0, [s.rd FM_START_REC.REC, s.fm.record.rec_,
        s.fm.record.failed.foldl (fun m f => setBit m f.1) 0 + 2 ^ 8 * s.fm.record.ports + 2 ^ 24 * s.fm.record.crews +
          2 ^ 32 * (if s.fm.record.primary = none then 0 else 1)] ++
        (List.range 8).map (fun c => serialWord (Tab.get [] s.dram.serials c)))⟩ } }) ∧
    (∀ m : Nat, 1 ≤ len → m = s.rd FM_MB_DATA.DATA 0 0 → ∃ t, exec (.clearRecord len tag) s = .next t ∧
      t.fm.mailbox = some ⟨3, len, tag, some (0, [])⟩ ∧ t.fm.record.primary = (if m.testBit 3 then none else s.fm.record.primary) ∧
      t.fm.record.failed = s.fm.record.failed.filter (fun f => !m.testBit (7 + f.1)) ∧
      t.fm.record.ports = (if m.testBit 28 then 0 else s.fm.record.ports) ∧ t.fm.record.trained = s.fm.record.trained ∧ (∀ c : Nat, c < 8 → t.fm.record.crews.testBit c = (s.fm.record.crews.testBit c && !m.testBit (20 + c))) ∧
      t.rd FM_BOOT.PRIMARY_BAD = (if m.testBit 3 then 0 else s.rd FM_BOOT.PRIMARY_BAD) ∧
      t.flash = s.flash.writeOther (some { t.fm.record with rec_ := s.flash.record.rec_ })) ∧
    (∀ k : Nat, 6 ≤ len → k = s.rd FM_MB_DATA.DATA 0 0 % 256 → 16 < k → exec (.keyLoad len tag) s = .next
      { s.wr FM_MB_STATUS.BUSY 1 with fm := { s.fm with mailbox := some ⟨4, len, tag, some (2, [])⟩ } }) ∧
    (∀ k : Nat, 6 ≤ len → k = s.rd FM_MB_DATA.DATA 0 0 % 256 → ((k < 16 ∧ s.slotFree k = false) ∨ (k = 16 ∧ s.crypto.owner ≠ none)) →
      exec (.keyLoad len tag) s = .next { s.wr FM_MB_STATUS.BUSY 1 with fm := { s.fm with mailbox := some ⟨4, len, tag, some (3, [])⟩ } }) ∧
    (∀ k : Nat, 6 ≤ len → k = s.rd FM_MB_DATA.DATA 0 0 % 256 → k < 16 → s.slotFree k = true → ∃ t, exec (.keyLoad len tag) s = .next t ∧
      match keyUnwrap s.wrapKey ((List.range 40).map (fun i => s.rd FM_MB_DATA.DATA 0 ((8 + i) / 8) / 2 ^ (8 * (i % 8)) % 256)) with
      | none => t = { s.wr FM_MB_STATUS.BUSY 1 with fm := { s.fm with mailbox := some ⟨4, len, tag, some (4, [])⟩ } }
      | some key => t.fm.mailbox = some ⟨4, len, tag, some (0, [])⟩ ∧ t.crypto.slots = Tab.erase s.crypto.slots k ++ [(k, key % 2 ^ 256)] ∧
          t.crypto.owner = s.crypto.owner ∧ t.rd EN_KEY_STATUS.FILLED = t.crypto.slots.foldl (fun v p => setBit v p.1) 0 % 2 ^ 16) ∧
    (∀ k : Nat, 6 ≤ len → k = s.rd FM_MB_DATA.DATA 0 0 % 256 → k = 16 → s.crypto.owner = none → ∃ t, exec (.keyLoad len tag) s = .next t ∧
      match keyUnwrap s.wrapKey ((List.range 40).map (fun i => s.rd FM_MB_DATA.DATA 0 ((8 + i) / 8) / 2 ^ (8 * (i % 8)) % 256)) with
      | none => t = { s.wr FM_MB_STATUS.BUSY 1 with fm := { s.fm with mailbox := some ⟨4, len, tag, some (4, [])⟩ } }
      | some key => t.fm.mailbox = some ⟨4, len, tag, some (0, [])⟩ ∧ t.crypto = { s.crypto with owner := some (key % 2 ^ 256) }) ∧
    (∀ k : Nat, 1 ≤ len → k = s.rd FM_MB_DATA.DATA 0 0 % 256 → 15 < k → exec (.keyDraw len tag) s = .next
      { s.wr FM_MB_STATUS.BUSY 1 with fm := { s.fm with mailbox := some ⟨5, len, tag, some (2, [])⟩ } }) ∧
    (∀ k : Nat, 1 ≤ len → k = s.rd FM_MB_DATA.DATA 0 0 % 256 → k < 16 → s.slotFree k = false → exec (.keyDraw len tag) s = .next
      { s.wr FM_MB_STATUS.BUSY 1 with fm := { s.fm with mailbox := some ⟨5, len, tag, some (3, [])⟩ } }) ∧
    (∀ k : Nat, 1 ≤ len → k = s.rd FM_MB_DATA.DATA 0 0 % 256 → k < 16 → s.slotFree k = true → ∃ t, exec (.keyDraw len tag) s = .next t ∧
      t.fm.mailbox = some ⟨5, len, tag, some (0, [])⟩ ∧ t.crypto = { s.crypto with slots := Tab.erase s.crypto.slots k ++ [(k, s.draw 256)] } ∧
      t.rd EN_KEY_STATUS.FILLED = t.crypto.slots.foldl (fun v p => setBit v p.1) 0 % 2 ^ 16 ∧ t.freeCount = s.freeCount + 1 ∧
      s.regsKeptBut t [EN_KEY_STATUS.FILLED.key, FM_MB_STATUS.BUSY.key]) ∧
    (∀ k : Nat, 1 ≤ len → k = s.rd FM_MB_DATA.DATA 0 0 % 256 → 16 < k → exec (.keyClear len tag) s = .next
      { s.wr FM_MB_STATUS.BUSY 1 with fm := { s.fm with mailbox := some ⟨6, len, tag, some (2, [])⟩ } }) ∧
    (∀ k : Nat, 1 ≤ len → k = s.rd FM_MB_DATA.DATA 0 0 % 256 → k < 16 → s.slotFree k = false → exec (.keyClear len tag) s = .next
      { s.wr FM_MB_STATUS.BUSY 1 with fm := { s.fm with mailbox := some ⟨6, len, tag, some (3, [])⟩ } }) ∧
    (∀ k : Nat, 1 ≤ len → k = s.rd FM_MB_DATA.DATA 0 0 % 256 → k = 16 → exec (.keyClear len tag) s = .next
      { { s.wr FM_MB_STATUS.BUSY 1 with fm := { s.fm with mailbox := some ⟨6, len, tag, some (0, [])⟩ } } with crypto := { s.crypto with owner := none } }) ∧
    (∀ k : Nat, 1 ≤ len → k = s.rd FM_MB_DATA.DATA 0 0 % 256 → k < 16 → s.slotFree k = true → ∃ t, exec (.keyClear len tag) s = .next t ∧
      t.fm.mailbox = some ⟨6, len, tag, some (0, [])⟩ ∧ t.crypto = { s.crypto with slots := Tab.erase s.crypto.slots k } ∧
      t.rd EN_KEY_STATUS.FILLED = t.crypto.slots.foldl (fun v p => setBit v p.1) 0 % 2 ^ 16) ∧
    (∀ (k : Nat) (v : ImageView) (ok : Bool), 3 ≤ len → k = s.rd FM_MB_DATA.DATA 0 0 % 256 → (1 < k ∨ 1 < s.rd FM_MB_DATA.DATA 0 0 / 256 % 256) → exec (.flashUpdate len tag v.header (v.fwHash, v.diagHash) ok) s = .next
      { s.wr FM_MB_STATUS.BUSY 1 with fm := { s.fm with mailbox := some ⟨7, len, tag, some (2, [])⟩ } }) ∧
    (∀ (k : Nat) (v : ImageView) (ok : Bool), 3 ≤ len → k = s.rd FM_MB_DATA.DATA 0 0 % 256 → k < 2 → s.rd FM_MB_DATA.DATA 0 0 / 256 % 256 < 2 →
      ((k = 1 ∧ s.rd FM_BOOT.IMAGE = 1) ∨ (if k = 0 then 0x8000000 else 0x7000000) < s.rd FM_MB_DATA.DATA 0 2 % 2 ^ 32 ∨
        s.rd FM_MB_DATA.DATA 0 1 % 64 ≠ 0) → exec (.flashUpdate len tag v.header (v.fwHash, v.diagHash) ok) s = .next { s.wr FM_MB_STATUS.BUSY 1 with fm := { s.fm with mailbox := some ⟨7, len, tag, some (3, [])⟩ } }) ∧
    (∀ (k : Nat) (v : ImageView) (ok : Bool), 3 ≤ len → k = s.rd FM_MB_DATA.DATA 0 0 % 256 → k < 2 → s.rd FM_MB_DATA.DATA 0 0 / 256 % 256 < 2 → (k = 1 → s.rd FM_BOOT.IMAGE = 0) →
      s.rd FM_MB_DATA.DATA 0 2 % 2 ^ 32 ≤ (if k = 0 then 0x8000000 else 0x7000000) → s.rd FM_MB_DATA.DATA 0 1 % 64 = 0 →
      ∃ t, exec (.flashUpdate len tag v.header (v.fwHash, v.diagHash) ok) s = .next t ∧ t.fm.mailbox = some ⟨7, len, tag, some (if (imgFail v k).isSome ∨ imgDiagOk v = false then (4, [])
        else if ok = false then (5, []) else (0, [imgFwVer v % 2 ^ 32]))⟩ ∧ t.flash = (if (imgFail v k).isSome ∨ imgDiagOk v = false ∨ ok = false ∨ k = 1
        then s.flash else s.flash.writeOther (some { s.flash.record with primary := none }))) ∧
    (∀ (c e : Nat), 1 ≤ len → c = s.rd FM_MB_DATA.DATA 0 0 % 256 → e = s.rd FM_MB_DATA.DATA 0 0 / 2 ^ 32 → (7 < c ∨ e / 2 ^ 26 % 2 = 0) → exec (.remapAdd len tag) s = .next
      { s.wr FM_MB_STATUS.BUSY 1 with fm := { s.fm with mailbox := some ⟨8, len, tag, some (2, [])⟩ } }) ∧
    (∀ (c e : Nat), 1 ≤ len → c = s.rd FM_MB_DATA.DATA 0 0 % 256 → e = s.rd FM_MB_DATA.DATA 0 0 / 2 ^ 32 → c ≤ 7 → e / 2 ^ 26 % 2 = 1 → 32 ≤ (s.flash.rows.filter (fun r => decide (r.chan = c))).length →
      exec (.remapAdd len tag) s = .next { s.wr FM_MB_STATUS.BUSY 1 with fm := { s.fm with mailbox := some ⟨8, len, tag, some (3, [])⟩ } }) ∧
    (∀ (c e : Nat), 1 ≤ len → c = s.rd FM_MB_DATA.DATA 0 0 % 256 → e = s.rd FM_MB_DATA.DATA 0 0 / 2 ^ 32 → c ≤ 7 → e / 2 ^ 26 % 2 = 1 → (s.flash.rows.filter (fun r => decide (r.chan = c))).length < 32 →
      exec (.remapAdd len tag) s = .next { { s.wr FM_MB_STATUS.BUSY 1 with fm := { s.fm with mailbox := some ⟨8, len, tag, some (0, [])⟩ } } with flash := { s.flash with rows := s.flash.rows ++
        [⟨c, e % 2 ^ 18, e / 2 ^ 18 % 8, e / 2 ^ 21 % 4, e / 2 ^ 23 % 4, (e / 2 ^ 25 % 2 = 1 : Bool), false⟩] } }) ∧
    (∀ (f : Nat), 1 ≤ len → f = s.rd FM_MB_DATA.DATA 0 0 % 2 ^ 32 → (s.rd FM_LOG_POS.NEXT_SEQ ≤ f ∨ s.logHeld f = none) → exec (.readLog len tag) s = .next
      { s.wr FM_MB_STATUS.BUSY 1 with fm := { s.fm with mailbox := some ⟨9, len, tag, some (3, [])⟩ } }) ∧
    (∀ (f : Nat), 1 ≤ len → f = s.rd FM_MB_DATA.DATA 0 0 % 2 ^ 32 → f + 1 = s.rd FM_LOG_POS.NEXT_SEQ → ∀ x : LogRec, s.logHeld f = some x → exec (.readLog len tag) s = .next
      { s.wr FM_MB_STATUS.BUSY 1 with fm := { s.fm with mailbox := some ⟨9, len, tag, some (0, [x.time, x.tally, x.seq + 2 ^ 32 * x.sev + 2 ^ 40 * x.src + 2 ^ 48 * x.code, x.arg])⟩ } }) ∧
    (exec (.echo len tag) s = .next
      { s.wr FM_MB_STATUS.BUSY 1 with fm := { s.fm with mailbox := some ⟨10, len, tag, some (0, (List.range len).map (fun i => s.rd FM_MB_DATA.DATA 0 i))⟩ } }) ∧
    (len < 6 → exec (.keyLoad len tag) s = .next { s.wr FM_MB_STATUS.BUSY 1 with fm := { s.fm with mailbox := some ⟨4, len, tag, some (2, [])⟩ } })) ∧
  (∀ (s : State) (len tag : Nat), len < 256 → tag < 2 ^ 16 →
    (∀ m : Mailbox, s.rd FM_MB_STATUS.BUSY = 1 → s.fm.mailbox = some m → m.op ≠ 10 → exec (.echo len tag) s = .next (s.wr FM_MB_STATUS.MB_OVR 1)) ∧
    (s.fm.mailbox = none → s.rd FM_MB_STATUS.BUSY = 0 → s.rd EN_STATUS.HALTED = 0 → s.rd FM_BOOT.RECOVERY = 1 → exec (.echo len tag) s = .next
      { s.wr FM_MB_STATUS.BUSY 1 with fm := { s.fm with mailbox := some ⟨10, len, tag, some (1, [])⟩ } }) ∧
    (s.fm.mailbox = none → s.rd FM_MB_STATUS.BUSY = 0 → s.rd EN_STATUS.HALTED = 1 → ∃ t, exec (.echo len tag) s = .next t ∧
      t.fm.mailbox = none ∧ t.rd FM_MB_STATUS.BUSY = 0 ∧ t.rd FM_MB_STATUS.DONE = 1 ∧ t.rd FM_MB_STATUS.RESULT = 6 ∧
      t.rd FM_MB_STATUS.RLEN = 0 ∧ t.rd FM_MB_STATUS.TAG = tag)) ∧
  (∀ (s : State) (op len tag r : Nat) (resp : List Nat),
    (s.fm.mailbox = some ⟨op, len, tag, some (r, resp)⟩ → r < 256 → tag < 2 ^ 16 → resp.length ≤ 32 → ∃ t, exec .mbDone s = .next t ∧
      (∀ i : Nat, i < 32 → t.rd FM_MB_DATA.DATA 0 i = if i < resp.length then resp.getD i 0 % 2 ^ 64 else s.rd FM_MB_DATA.DATA 0 i) ∧
      t.rd FM_MB_STATUS.RESULT = r ∧ t.rd FM_MB_STATUS.RLEN = resp.length ∧ t.rd FM_MB_STATUS.TAG = tag ∧ t.rd FM_MB_STATUS.BUSY = 0 ∧
      t.rd FM_MB_STATUS.DONE = 1 ∧ t.bit FM_IRQ_STATUS.SRC 0 = true ∧ t.fm = { s.fm with mailbox := none }) ∧
    (s.fm.mailbox = none → exec .mbDone s = .next s)) ∧
  (∀ (s : State) (temps rails ains : List Nat) (i v : Nat),
    (i < 64 → temps[i]? = some v → ∃ t, exec (.sensorSample temps rails ains) s = .next t ∧
      (i % 4 = 0 → t.rd FM_TEMP.VAL0 0 (i / 4) = v % 2 ^ 16) ∧ (i % 4 = 1 → t.rd FM_TEMP.VAL1 0 (i / 4) = v % 2 ^ 16) ∧
      (i % 4 = 2 → t.rd FM_TEMP.VAL2 0 (i / 4) = v % 2 ^ 16) ∧ (i % 4 = 3 → t.rd FM_TEMP.VAL3 0 (i / 4) = v % 2 ^ 16) ∧
      (signed16 (s.rd FM_SENS_CTRL.TWARN) ≤ signed16 v → t.rd FM_SENS_STATUS.TWARN = 1) ∧
      (signed16 (s.rd FM_SENS_CTRL.TCRIT) ≤ signed16 v → t.rd FM_SENS_STATUS.TCRIT = 1 ∧ t.rd FM_SENS_STATUS.ALERT = 1)) ∧
    (i < 8 → ains[i]? = some v → ∃ t, exec (.sensorSample temps rails ains) s = .next t ∧
      (i % 4 = 0 → t.rd FM_AIN.VAL0 0 (i / 4) = v % 2 ^ 16) ∧ (i % 4 = 1 → t.rd FM_AIN.VAL1 0 (i / 4) = v % 2 ^ 16) ∧
      (i % 4 = 2 → t.rd FM_AIN.VAL2 0 (i / 4) = v % 2 ^ 16) ∧ (i % 4 = 3 → t.rd FM_AIN.VAL3 0 (i / 4) = v % 2 ^ 16)) ∧
    (i < 24 → rails[i]? = some v → ∃ t, exec (.sensorSample temps rails ains) s = .next t ∧
      (i % 4 = 0 → t.rd FM_VOLT.VAL0 0 (i / 4) = v % 2 ^ 16) ∧ (i % 4 = 1 → t.rd FM_VOLT.VAL1 0 (i / 4) = v % 2 ^ 16) ∧
      (i % 4 = 2 → t.rd FM_VOLT.VAL2 0 (i / 4) = v % 2 ^ 16) ∧ (i % 4 = 3 → t.rd FM_VOLT.VAL3 0 (i / 4) = v % 2 ^ 16) ∧
      (s.railOff i v = true → t.rd FM_SENS_STATUS.VWARN = 1)) ∧
    (s.fm.beyond = [] → signed16 (s.rd FM_SENS_CTRL.TWARN) ≤ signed16 v → signed16 v < signed16 (s.rd FM_SENS_CTRL.TCRIT) →
      ∃ t, exec (.sensorSample [v] [] []) s = .next t ∧ t.fm = { s.fm with beyond := [(0, 0)] } ∧ t.bit FM_IRQ_STATUS.SRC 1 = true ∧
        t.events = s.events ++ [⟨12, 0x00C0, 1, v % 2 ^ 16 * 2 ^ 16, s.rd WD_TALLY.TALLY⟩] ∧ t.rd FM_SENS_STATUS.HOT_TEMP = v % 2 ^ 16 ∧
        t.rd FM_SENS_STATUS.HOT_SENSOR = 0 ∧ t.rd FM_SENS_STATUS.TCRIT = s.rd FM_SENS_STATUS.TCRIT) ∧
    (s.fm.beyond = [(0, 0)] → signed16 (s.rd FM_SENS_CTRL.TWARN) ≤ signed16 v → signed16 v < signed16 (s.rd FM_SENS_CTRL.TCRIT) →
      ∃ t, exec (.sensorSample [v] [] []) s = .next t ∧ t.fm = s.fm ∧ t.events = s.events ∧ t.rd FM_SENS_STATUS.TWARN = 1) ∧
    (s.fm.beyond = [(0, 0)] → signed16 v + 16 ≤ signed16 (s.rd FM_SENS_CTRL.TWARN) → signed16 v < signed16 (s.rd FM_SENS_CTRL.TCRIT) →
      ∃ t, exec (.sensorSample [v] [] []) s = .next t ∧ t.fm = { s.fm with beyond := [] } ∧ t.events = s.events ∧
        t.rd FM_SENS_STATUS.ALERT = (if s.rd FM_SENS_STATUS.TCRIT = 1 then s.rd FM_SENS_STATUS.ALERT else 0))) ∧
  (∀ (s : State) (m r c : Nat), m < 8 → c = min 0xFFFF (r % 2 ^ 16 * s.rd FM_CURMON.LSB_MA 0 m / 100) →
    (s.rd FM_CURMON.EN 0 m = 0 → exec (.currentMonitorRead m (some r)) s = .next s) ∧
    (s.rd FM_CURMON.EN 0 m = 1 → ∃ t, exec (.currentMonitorRead m (some r)) s = .next t ∧ (m % 4 = 0 → t.rd FM_CUR.VAL0 0 (m / 4) = c) ∧
      (m % 4 = 1 → t.rd FM_CUR.VAL1 0 (m / 4) = c) ∧ (m % 4 = 2 → t.rd FM_CUR.VAL2 0 (m / 4) = c) ∧ (m % 4 = 3 → t.rd FM_CUR.VAL3 0 (m / 4) = c) ∧
      (s.rd FM_CURMON.LIMIT 0 m < c → t.rd FM_SENS_STATUS.IWARN = 1) ∧ (s.rd FM_CURMON.LIMIT 0 m < c → (3, m) ∉ s.fm.beyond →
        t.bit FM_IRQ_STATUS.SRC 3 = true ∧ t.events = s.events ++ [⟨12, 0x00C0, 1, s.rd FM_CURMON.RAIL 0 m + c * 2 ^ 16, s.rd WD_TALLY.TALLY⟩])) ∧
    (s.rd FM_CURMON.EN 0 m = 1 → Tab.get 0 s.fm.nacks m < 2 → exec (.currentMonitorRead m none) s = .next
      { s with fm := { s.fm with nacks := Tab.set natLt 0 s.fm.nacks m (Tab.get 0 s.fm.nacks m + 1) } }) ∧
    (s.rd FM_CURMON.EN 0 m = 1 → 2 ≤ Tab.get 0 s.fm.nacks m → ∃ t, exec (.currentMonitorRead m none) s = .next t ∧
      t.rd FM_SENS_STATUS.I2C_ERR = 1 ∧ (m = 7 → t.rd FM_CUR.VAL3 0 1 = 0xFFFF))) ∧
  (∀ (s : State) (k : Nat) (e : LogEvent) (r : List LogEvent) (x : LogRec),
    (s.events = [] → exec (.logEntry k) s = .next s) ∧
    (s.events = e :: r → x = ⟨k % 2 ^ 64, e.tally, s.rd FM_LOG_POS.NEXT_SEQ, e.sev, e.src, e.code, e.arg % 2 ^ 64⟩ → s.fm.log.length < 2048 → e.sev < 2 → exec (.logEntry k) s = .next
      ({ s with events := r, fm := { s.fm with log := s.fm.log ++ [x] } }.wr FM_LOG_POS.NEXT_SEQ (s.rd FM_LOG_POS.NEXT_SEQ + 1))) ∧
    (s.events = e :: r → x = ⟨k % 2 ^ 64, e.tally, s.rd FM_LOG_POS.NEXT_SEQ, e.sev, e.src, e.code, e.arg % 2 ^ 64⟩ → s.fm.log.length = 2048 → e.sev < 2 → exec (.logEntry k) s = .next
      ({ s with events := r, fm := { s.fm with log := s.fm.log.drop 1 ++ [x] } }.wr FM_LOG_POS.NEXT_SEQ (s.rd FM_LOG_POS.NEXT_SEQ + 1))) ∧
    (s.events = e :: r → 2 ≤ e.sev → ∃ t, exec (.logEntry k) s = .next t ∧ t.bit FM_IRQ_STATUS.SRC 4 = true ∧ t.events = r) ∧
    (s.fm.log.find? (fun y => decide (y.seq = k)) = none → exec (.logFlashMirror k) s = .next s) ∧
    (s.fm.log.find? (fun y => decide (y.seq = k)) = some x → s.flash.log = [] → s.rd FM_LOG_POS.FLASHED = k → k < s.rd FM_LOG_POS.NEXT_SEQ →
      ∃ t, exec (.logFlashMirror k) s = .next t ∧ t.flash = { s.flash with log := [x] } ∧ t.rd FM_LOG_POS.FLASHED = k + 1 ∧ t.fm = s.fm ∧
        s.regsKeptBut t [FM_LOG_POS.FLASHED.key]))

/-- ENUM(a) resets the chain state and takes a + 1, passed on or, with no UP downstream hop, answered to the head; it is dropped on a halted part, in a
WARM and at the head, and a part that would take 256 takes none (18 R488). The head enumerates by the timer, on request and once where it has found no
clock; ENUM_DONE ends that in `PARTS` and the log. A hop's change is counted and told to the head (R486). An announcement of this group counts its
sender, who is answered where new; members, `FORMED` and the leader follow (08 R218, R219). `DST` of ENUM, and the sender that relayed messages of
enumeration carry, are the model's (log entry 100). -/
def Obligations.BellHops : Prop :=
  (∀ (s : State) (a : Nat), a < 256 →
    ((s.rd EN_STATUS.HALTED = 1 ∨ s.clk.warmHold = true ∨ s.rd BW_STATUS.HEAD = 1) → exec (.enum a) s = .next s) ∧
    (s.rd EN_STATUS.HALTED = 0 → s.clk.warmHold = false → s.rd BW_STATUS.HEAD = 0 → s.rd WD_GROUP_CTRL.JOIN = 0 → a < 255 → ∃ t : State,
      exec (.enum a) s = .next t ∧ t.rd BW_STATUS.ADDR = a + 1 ∧ t.rd BW_STATUS.ENUMERATED = 1 ∧ t.rd BW_STATUS.ADDR_OVF = 0 ∧ t.rd BW_STATUS.PARTS = 0 ∧
      t.rd BW_STATUS.CHAINS = (s.rd BW_STATUS.CHAINS + 1) % 2 ^ 32 ∧ t.rd BW_STATUS.TAIL = 1 - s.rd BW_STATUS.DOWN_LINK ∧
      t.rd WD_GROUP_STATUS.LEADER_ADDR = a + 1 ∧ t.rd WD_GROUP_STATUS.MEMBERS = 1 ∧ t.rd WD_STATUS.FORMED = 1 ∧ t.rd WD_STATUS.LEADER = 1 ∧
      t.sent = s.sent ++ [if s.rd BW_STATUS.DOWN_LINK = 1 then Emission.bell (some ((a + 2) % 256)) (.enum (a + 1))
        else Emission.bell (some 0) (.enumDone (a + 2))] ∧
      s.regsKeptBut t [BW_STATUS.ADDR.key, BW_STATUS.ENUMERATED.key, BW_STATUS.TAIL.key, BW_STATUS.ADDR_OVF.key, BW_STATUS.PARTS.key, BW_STATUS.CHAINS.key,
        WD_GROUP_STATUS.LEADER_ADDR.key, WD_GROUP_STATUS.MEMBERS.key, WD_STATUS.FORMED.key, WD_STATUS.LEADER.key] ∧
      { t with regs := s.regs, sent := s.sent } = { s with bell := ⟨false⟩ }) ∧
    (s.rd EN_STATUS.HALTED = 0 → s.clk.warmHold = false → s.rd BW_STATUS.HEAD = 0 → s.rd WD_GROUP_CTRL.JOIN = 0 → a = 255 → ∃ t : State,
      exec (.enum a) s = .next t ∧ t.rd BW_STATUS.ADDR = 0 ∧ t.rd BW_STATUS.ENUMERATED = 0 ∧ t.rd BW_STATUS.TAIL = 0 ∧ t.rd BW_STATUS.ADDR_OVF = 1 ∧
      t.rd BW_STATUS.PARTS = 0 ∧ t.rd BW_STATUS.CHAINS = (s.rd BW_STATUS.CHAINS + 1) % 2 ^ 32 ∧ t.rd WD_GROUP_STATUS.LEADER_ADDR = 0 ∧
      s.regsKeptBut t [BW_STATUS.ADDR.key, BW_STATUS.ENUMERATED.key, BW_STATUS.TAIL.key, BW_STATUS.ADDR_OVF.key, BW_STATUS.PARTS.key, BW_STATUS.CHAINS.key,
        WD_GROUP_STATUS.LEADER_ADDR.key] ∧
      { t with regs := s.regs } = { s with bell := ⟨false⟩ }) ∧
    (s.rd EN_STATUS.HALTED = 0 → s.clk.warmHold = false → s.rd BW_STATUS.HEAD = 0 → s.rd WD_GROUP_CTRL.JOIN = 1 → s.winder.cmd = none →
      2 ≤ s.rd WD_GROUP_CTRL.SIZE → a < 255 → ∃ t : State, exec (.enum a) s = .next t ∧ t.rd BW_STATUS.ADDR = a + 1 ∧ t.winder.members = [] ∧
      t.winder.recovery = none ∧ t.rd WD_GROUP_STATUS.MEMBERS = 1 ∧ t.rd WD_STATUS.FORMED = 0 ∧ t.rd WD_STATUS.LEADER = 0 ∧
      t.rd WD_GROUP_STATUS.LEADER_ADDR = 0 ∧ (s.rd WD_STATUS.STATE = 2 → t.rd WD_GROUP_STATUS.LEADER_LOST = 1) ∧
      t.rd WD_HORIZON.H = s.rd WD_HORIZON.H ∧ t.winder.events = s.winder.events)) ∧
  (∀ s : State,
    (s.rd EN_STATUS.HALTED = 0 → s.clk.warmHold = false → s.rd BW_STATUS.HEAD = 1 → s.bell.enumDue = true → s.rd WD_GROUP_CTRL.JOIN = 0 → ∃ t : State,
      exec .enumTimer s = .next t ∧ exec .enumRequest s = .next t ∧ t.rd BW_STATUS.ADDR = 0 ∧ t.rd BW_STATUS.ENUMERATED = 1 ∧ t.rd BW_STATUS.ADDR_OVF = 0 ∧
      t.rd BW_STATUS.CHAINS = (s.rd BW_STATUS.CHAINS + 1) % 2 ^ 32 ∧ t.rd BW_STATUS.TAIL = 1 - s.rd BW_STATUS.DOWN_LINK ∧
      t.rd BW_STATUS.PARTS = 1 - s.rd BW_STATUS.DOWN_LINK ∧ t.bell = ⟨false⟩ ∧
      (s.rd BW_STATUS.DOWN_LINK = 1 → t.sent = s.sent ++ [Emission.bell (some 1) (.enum 0)] ∧ t.events = s.events) ∧
      (s.rd BW_STATUS.DOWN_LINK = 0 → t.sent = s.sent ∧ t.events = s.events ++ [⟨11, 0x00B0, 0, 1, s.rd WD_TALLY.TALLY⟩]) ∧
      s.regsKeptBut t [BW_STATUS.ADDR.key, BW_STATUS.ENUMERATED.key, BW_STATUS.TAIL.key, BW_STATUS.ADDR_OVF.key, BW_STATUS.PARTS.key, BW_STATUS.CHAINS.key,
        WD_GROUP_STATUS.LEADER_ADDR.key, WD_GROUP_STATUS.MEMBERS.key, WD_STATUS.FORMED.key, WD_STATUS.LEADER.key] ∧
      { t with regs := s.regs, sent := s.sent, events := s.events } = { s with bell := ⟨false⟩ }) ∧
    (s.ready 0 = true → s.rd BW_STATUS.HEAD = 0 → s.rd WD_GROUP_CTRL.JOIN = 0 → s.rd BW_STATUS.DOWN_LINK = 1 → ∃ t : State,
      exec .headTimeout s = .next t ∧ t.rd BW_STATUS.HEAD = 1 ∧ t.rd BW_STATUS.ADDR = 0 ∧ t.rd BW_STATUS.ENUMERATED = 1 ∧ t.rd BW_STATUS.TAIL = 0 ∧
      t.rd BW_STATUS.CHAINS = (s.rd BW_STATUS.CHAINS + 1) % 2 ^ 32 ∧ t.sent = s.sent ++ [Emission.bell (some 1) (.enum 0)] ∧
      s.regsKeptBut t [BW_STATUS.ADDR.key, BW_STATUS.HEAD.key, BW_STATUS.ENUMERATED.key, BW_STATUS.TAIL.key, BW_STATUS.ADDR_OVF.key, BW_STATUS.PARTS.key,
        BW_STATUS.CHAINS.key, WD_GROUP_STATUS.LEADER_ADDR.key, WD_GROUP_STATUS.MEMBERS.key, WD_STATUS.FORMED.key, WD_STATUS.LEADER.key] ∧
      { t with regs := s.regs, sent := s.sent } = { s with bell := ⟨false⟩ }) ∧
    ((s.ready 0 = false ∨ s.rd BW_STATUS.HEAD = 1) → exec .headTimeout s = .next s) ∧
    ((s.bell.enumDue = false ∨ s.rd BW_STATUS.HEAD = 0 ∨ s.rd EN_STATUS.HALTED = 1) → exec .enumTimer s = .next s) ∧
    (s.clk.warmHold = true → exec .enumRequest s = .next s) ∧
    (s.clk.warmHold = false → s.rd BW_STATUS.HEAD = 0 → exec .enumRequest s = .next (s.wr BW_STATUS.ENUM_ERR 1))) ∧
  (∀ (s : State) (n : Nat),
    ((s.rd EN_STATUS.HALTED = 1 ∨ s.rd BW_STATUS.ENUMERATED = 0) → exec (.enumDone n) s = .next s ∧ exec (.linkChange n) s = .next s) ∧
    (s.rd EN_STATUS.HALTED = 0 → s.rd BW_STATUS.ENUMERATED = 1 → s.rd BW_STATUS.HEAD = 1 →
      exec (.enumDone n) s = .next { s.wr BW_STATUS.PARTS n with events := s.events ++ [⟨11, 0x00B0, 0, n, s.rd WD_TALLY.TALLY⟩] } ∧
      exec (.linkChange n) s = .next { s with bell := ⟨true⟩ }) ∧
    (s.rd EN_STATUS.HALTED = 0 → s.rd BW_STATUS.ENUMERATED = 1 → s.rd BW_STATUS.HEAD = 0 → s.rd BW_STATUS.UP_LINK = 1 →
      exec (.enumDone n) s = .next { s with sent := s.sent ++ [Emission.relay false (n - 1) (some 0) (.enumDone n)] } ∧
      exec (.linkChange n) s = .next { s with sent := s.sent ++ [Emission.relay false n (some 0) (.linkChange n)] }) ∧
    (s.rd BW_STATUS.HEAD = 0 → s.rd BW_STATUS.UP_LINK = 0 → exec (.enumDone n) s = .next s ∧ exec (.linkChange n) s = .next s)) ∧
  (∀ (s : State) (b : Bool) (c : Nat), c = min (s.rd BW_ERR.HOP_DOWNS + 1) 0xFFFF →
    (s.rd BW_STATUS.DOWN_LINK = (if b then 1 else 0) → exec (.hopStateChange true b) s = .next s) ∧
    (s.rd BW_STATUS.UP_LINK = (if b then 1 else 0) → exec (.hopStateChange false b) s = .next s) ∧
    (s.rd EN_STATUS.HALTED = 1 → s.rd BW_STATUS.DOWN_LINK = 1 →
      exec (.hopStateChange true false) s = .next ((s.wr BW_STATUS.DOWN_LINK 0).wr BW_ERR.HOP_DOWNS c)) ∧
    (s.rd EN_STATUS.HALTED = 0 → s.rd BW_STATUS.HEAD = 1 → s.rd BW_STATUS.DOWN_LINK = 1 →
      exec (.hopStateChange true false) s = .next { (s.wr BW_STATUS.DOWN_LINK 0).wr BW_ERR.HOP_DOWNS c with bell := ⟨true⟩ }) ∧
    (s.rd EN_STATUS.HALTED = 0 → s.rd BW_STATUS.HEAD = 0 → s.rd BW_STATUS.DOWN_LINK = 1 → exec (.hopStateChange true false) s = .next
      { (s.wr BW_STATUS.DOWN_LINK 0).wr BW_ERR.HOP_DOWNS c with sent := s.sent ++ [Emission.bell (some 0) (.linkChange (s.rd BW_STATUS.ADDR))] }) ∧
    (s.rd EN_STATUS.HALTED = 0 → s.rd BW_STATUS.HEAD = 0 → s.rd BW_STATUS.DOWN_LINK = 0 → exec (.hopStateChange true true) s = .next
      { s.wr BW_STATUS.DOWN_LINK 1 with sent := s.sent ++ [Emission.bell (some 0) (.linkChange (s.rd BW_STATUS.ADDR))] }) ∧
    (s.rd EN_STATUS.HALTED = 0 → s.rd BW_STATUS.HEAD = 0 → s.rd BW_STATUS.UP_LINK = 0 → exec (.hopStateChange false true) s = .next
      { s.wr BW_STATUS.UP_LINK 1 with sent := s.sent ++ [Emission.bell (some 0) (.linkChange (s.rd BW_STATUS.ADDR))] }) ∧
    (s.rd EN_STATUS.HALTED = 0 → s.rd BW_STATUS.HEAD = 0 → s.rd BW_STATUS.UP_LINK = 1 → s.rd SC_CTRL.SRC ≠ 1 → exec (.hopStateChange false false) s = .next
      { (s.wr BW_STATUS.UP_LINK 0).wr BW_ERR.HOP_DOWNS c with sent := s.sent ++ [Emission.bell (some 0) (.linkChange (s.rd BW_STATUS.ADDR))] }) ∧
    (s.rd EN_STATUS.HALTED = 0 → s.rd BW_STATUS.HEAD = 0 → s.rd BW_STATUS.UP_LINK = 1 → s.rd SC_CTRL.SRC = 1 → s.rd SC_STATUS.STATE = 1 → ∃ t : State,
      exec (.hopStateChange false false) s = .next t ∧ t.rd BW_STATUS.UP_LINK = 0 ∧ t.rd SC_STATUS.STATE = 3 ∧ t.rd SC_STATUS.LOST = 1 ∧
      t.rd BW_ERR.HOP_DOWNS = c) ∧
    exec (.messageResend false) s = .next (s.wr BW_ERR.RESENT (min (s.rd BW_ERR.RESENT + 1) 0xFFFF)) ∧
    exec (.messageResend true) s = .next ((s.wr BW_ERR.RESENT (min (s.rd BW_ERR.RESENT + 1) 0xFFFF)).wr BW_ERR.CRC_ERR
      (min (s.rd BW_ERR.CRC_ERR + 1) 0xFFFF))) ∧
  (∀ s : State,
    ((s.rd EN_STATUS.HALTED = 1 ∨ s.rd BW_STATUS.ENUMERATED = 0 ∨ s.rd WD_GROUP_CTRL.JOIN = 0 ∨ s.rd WD_STATUS.FORMED = 1) →
      exec .announceTimer s = .next s) ∧
    (s.rd EN_STATUS.HALTED = 0 → s.rd BW_STATUS.ENUMERATED = 1 → s.rd WD_GROUP_CTRL.JOIN = 1 → s.rd WD_STATUS.FORMED = 0 →
      exec .announceTimer s = .next { s with sent := s.sent ++ [Emission.bell none (.announce (s.rd WD_GROUP_CTRL.GROUP_ID) (s.rd WD_GROUP_CTRL.SIZE)
        (decide (s.rd WD_GROUP_CTRL.LEAD_EN = 1)) true)] })) ∧
  (∀ (s : State) (src g n : Nat) (le jn fu : Bool), src < 256 → s.rd EN_STATUS.HALTED = 0 → s.rd BW_STATUS.ENUMERATED = 1 → s.rd BW_STATUS.HEAD = 0 →
    (s.rd BW_STATUS.UP_LINK = 1 → (s.rd WD_GROUP_CTRL.JOIN = 0 ∨ g ≠ s.rd WD_GROUP_CTRL.GROUP_ID ∨ src = s.rd BW_STATUS.ADDR) →
      exec (.announce ⟨src, false⟩ g n le jn) s = .next { s with sent := s.sent ++ [Emission.relay false src none (.announce g n le jn)] }) ∧
    (s.rd BW_STATUS.DOWN_LINK = 1 → (s.rd WD_GROUP_CTRL.JOIN = 0 ∨ g ≠ s.rd WD_GROUP_CTRL.GROUP_ID ∨ src = s.rd BW_STATUS.ADDR) →
      exec (.announce ⟨src, true⟩ g n le jn) s = .next { s with sent := s.sent ++ [Emission.relay true src none (.announce g n le jn)] }) ∧
    (s.rd BW_STATUS.DOWN_LINK = 0 → s.rd BW_STATUS.UP_LINK = 0 → s.rd WD_GROUP_CTRL.JOIN = 1 → g = s.rd WD_GROUP_CTRL.GROUP_ID →
      src ≠ s.rd BW_STATUS.ADDR → s.winder.regroup = none → s.winder.members.length < 255 →
      (src ∉ s.winder.members.map (fun m => m.addr) → n = s.rd WD_GROUP_CTRL.SIZE → (∀ m ∈ s.winder.members, m.size = n) →
        s.winder.members.length + 2 ≤ n → ∃ t : State, exec (.announce ⟨src, fu⟩ g n le true) s = .next t ∧
        t.winder = { s.winder with members := s.winder.members ++ [⟨src, n, le, 0, 0, false, 0, 0, 0, 0, 0, 0, [], 0⟩] } ∧
        t.rd WD_GROUP_STATUS.MEMBERS = s.winder.members.length + 2 ∧
        t.rd WD_STATUS.FORMED = (if s.winder.members.length + 2 = n then 1 else 0) ∧
        t.sent = s.sent ++ [Emission.bell none (.announce g n (decide (s.rd WD_GROUP_CTRL.LEAD_EN = 1)) true)] ∧
        (s.winder.members.length + 2 < n → t.rd WD_STATUS.LEADER = 0) ∧
        (s.winder.members.length + 2 = n → s.rd WD_GROUP_CTRL.LEAD_EN = 1 → (le = true → s.rd BW_STATUS.ADDR < src) →
          (∀ m ∈ s.winder.members, m.leadEn = true → s.rd BW_STATUS.ADDR < m.addr) → t.rd WD_STATUS.LEADER = 1 ∧
          t.rd WD_GROUP_STATUS.LEADER_ADDR = s.rd BW_STATUS.ADDR) ∧
        (s.winder.members.length + 2 = n → le = true → (s.rd WD_GROUP_CTRL.LEAD_EN = 1 → src < s.rd BW_STATUS.ADDR) →
          (∀ m ∈ s.winder.members, m.leadEn = true → src ≤ m.addr) → t.rd WD_STATUS.LEADER = 0 ∧ t.rd WD_GROUP_STATUS.LEADER_ADDR = src) ∧
        s.regsKeptBut t [WD_GROUP_STATUS.MEMBERS.key, WD_GROUP_STATUS.LEADER_ADDR.key, WD_STATUS.FORMED.key, WD_STATUS.LEADER.key]) ∧
      (src ∉ s.winder.members.map (fun m => m.addr) → n ≠ s.rd WD_GROUP_CTRL.SIZE → ∃ t : State, exec (.announce ⟨src, fu⟩ g n le true) s = .next t ∧
        t.rd WD_GROUP_STATUS.GROUP_ERR = 1 ∧ t.rd WD_STATUS.FORMED = 0 ∧ t.rd WD_GROUP_STATUS.MEMBERS = s.winder.members.length + 2) ∧
      (src ∈ s.winder.members.map (fun m => m.addr) → ∃ t : State, exec (.announce ⟨src, fu⟩ g n le false) s = .next t ∧
        t.winder = { s.winder with members := s.winder.members.filter (fun m => decide (m.addr ≠ src)) } ∧
        t.rd WD_GROUP_STATUS.MEMBERS = (s.winder.members.filter (fun m => decide (m.addr ≠ src))).length + 1)))

/-- A message for another part goes on towards it, a broadcast away from where it came; a part halted or without an address takes none (18 R487, R488).
A member answers its leader's STATE_REQ, takes a GRANT above its horizon, schedules and acknowledges an EVENT, and carries out a CMD; the leader
takes STATE, EVENT_ACK, REPORT and CMD_DONE of a member. OP 0 and 9 of CMD, kind 3 of REPORT, the causes 3, 4 and 8 of EVENT and what a STATE carries
beside its payload are the model's (log entries 22 and 53). -/
def Obligations.BellGroup : Prop :=
  (∀ (s : State) (src dst tl st f k dv nm cr hz ps e kd sl v : Nat) (vl : Bool) (sv : List SlotView) (d : Bool),
    ((s.rd EN_STATUS.HALTED = 1 ∨ s.rd BW_STATUS.ENUMERATED = 0) → exec (.stateReq ⟨src, dst⟩) s = .next s ∧
      exec (.state ⟨src, dst⟩ tl st vl f k dv nm cr ⟨hz, sv, ps⟩) s = .next s ∧ exec (.eventAck ⟨src, dst⟩ e kd) s = .next s ∧
      exec (.report ⟨src, dst⟩ v kd sl) s = .next s ∧ exec (.cmdDone ⟨src, dst⟩ v) s = .next s ∧ exec (.grant ⟨src, vl⟩ v) s = .next s ∧
      exec (.event ⟨src, vl⟩ e kd sl v) s = .next s ∧ exec (.cmd ⟨src, vl⟩ v e vl) s = .next s) ∧
    (s.rd EN_STATUS.HALTED = 0 → s.rd BW_STATUS.ENUMERATED = 1 →
      ((s.rd BW_STATUS.ADDR < dst ∧ s.rd BW_STATUS.DOWN_LINK = 1 ∧ d = true) ∨
        (dst < s.rd BW_STATUS.ADDR ∧ s.rd BW_STATUS.UP_LINK = 1 ∧ s.rd BW_STATUS.HEAD = 0 ∧ d = false)) →
      exec (.stateReq ⟨src, dst⟩) s = .next { s with sent := s.sent ++ [Emission.relay d src (some dst) .stateReq] } ∧
      exec (.state ⟨src, dst⟩ tl st vl f k dv nm cr ⟨hz, sv, ps⟩) s = .next { s with sent := s.sent ++ [Emission.relay d src (some dst) (.state tl st vl f k dv nm cr)] } ∧
      exec (.eventAck ⟨src, dst⟩ e kd) s = .next { s with sent := s.sent ++ [Emission.relay d src (some dst) (.eventAck e kd)] } ∧
      exec (.report ⟨src, dst⟩ v kd sl) s = .next { s with sent := s.sent ++ [Emission.relay d src (some dst) (.report v kd sl)] } ∧
      exec (.cmdDone ⟨src, dst⟩ v) s = .next { s with sent := s.sent ++ [Emission.relay d src (some dst) (.cmdDone v)] }) ∧
    (s.rd EN_STATUS.HALTED = 0 → s.rd BW_STATUS.ENUMERATED = 1 → s.rd BW_STATUS.HEAD = 0 → (s.rd WD_GROUP_CTRL.JOIN = 0 ∨ src ≠ s.rd WD_GROUP_STATUS.LEADER_ADDR) →
      ((vl = true ∧ s.rd BW_STATUS.DOWN_LINK = 1) ∨ (vl = false ∧ s.rd BW_STATUS.UP_LINK = 1)) →
      exec (.grant ⟨src, vl⟩ v) s = .next { s with sent := s.sent ++ [Emission.relay vl src none (.grant v)] } ∧
      exec (.event ⟨src, vl⟩ e kd sl v) s = .next { s with sent := s.sent ++ [Emission.relay vl src none (.event e kd sl v)] } ∧
      exec (.cmd ⟨src, vl⟩ v e vl) s = .next { s with sent := s.sent ++ [Emission.relay vl src none (.cmd v e vl)] }) ∧
    (s.rd EN_STATUS.HALTED = 0 → s.rd BW_STATUS.ENUMERATED = 1 → dst = s.rd BW_STATUS.ADDR →
      (s.rd WD_GROUP_CTRL.JOIN = 0 ∨ src ∉ s.winder.members.map (fun m => m.addr)) → exec (.stateReq ⟨src, dst⟩) s = .next s ∧
      exec (.state ⟨src, dst⟩ tl st vl f k dv nm cr ⟨hz, sv, ps⟩) s = .next s ∧ exec (.eventAck ⟨src, dst⟩ e kd) s = .next s ∧
      exec (.report ⟨src, dst⟩ v kd sl) s = .next s ∧ exec (.cmdDone ⟨src, dst⟩ v) s = .next s)) ∧
  (∀ (s : State) (src e sl v : Nat) (b : Bool), s.rd EN_STATUS.HALTED = 0 → s.rd BW_STATUS.ENUMERATED = 1 → s.rd BW_STATUS.HEAD = 0 →
    s.rd BW_STATUS.DOWN_LINK = 0 → s.rd BW_STATUS.UP_LINK = 0 → s.rd WD_GROUP_CTRL.JOIN = 1 → src ∈ s.winder.members.map (fun m => m.addr) →
    src = s.rd WD_GROUP_STATUS.LEADER_ADDR →
    (exec (.stateReq ⟨src, s.rd BW_STATUS.ADDR⟩) s = .next { s.wr WD_CLK_CTRL.CRC s.lineCrc with sent := s.sent ++ [Emission.bell (some src)
      (.state (s.rd WD_TALLY.TALLY) (s.rd WD_STATUS.STATE) (decide (s.rd CF_LOADED.VALID = 1)) (s.rd CF_LOADED.F) (s.rd CF_LOADED.K)
        (s.rd CK_CLK_STATUS.PHASE_DIV_CUR) (s.rd CF_LOADED.NMIN) s.lineCrc)] }) ∧
    (s.rd WD_HORIZON.H < v → exec (.grant ⟨src, b⟩ v) s = .next (s.wr WD_HORIZON.H v)) ∧
    (v ≤ s.rd WD_HORIZON.H → exec (.grant ⟨src, b⟩ v) s = .next s) ∧
    ((s.rd WD_STATUS.STATE ≠ 2 ∨ s.winder.inStroke = true) → v ≠ 3 → v ≠ 4 → v ≠ 8 → e < s.rd WD_STOP_TALLY.S →
      exec (.event ⟨src, b⟩ e 1 sl v) s = .next { State.refreshStop { s with winder := { s.winder with events := s.winder.events ++ [⟨.stop, e, sl, v, []⟩] } } with
        sent := s.sent ++ [Emission.bell (some src) (.eventAck e 1)] }) ∧
    ((s.rd WD_STATUS.STATE ≠ 2 ∨ s.winder.inStroke = true) → v ≠ 3 → v ≠ 4 → v ≠ 8 → s.rd WD_STOP_TALLY.S ≤ e →
      exec (.event ⟨src, b⟩ e 1 sl v) s = .next { s with sent := s.sent ++ [Emission.bell (some src) (.eventAck e 1)] }) ∧
    ((s.rd WD_STATUS.STATE ≠ 2 ∨ s.winder.inStroke = true) → v = 4 →
      exec (.event ⟨src, b⟩ e 1 sl v) s = .next { State.refreshStop { s with winder := { s.winder with
        events := s.winder.events.filter (fun x => decide (x.kind ≠ .stop ∨ e < x.e)) ++ [⟨.stop, e, sl, 4, []⟩] } } with
        sent := s.sent ++ [Emission.bell (some src) (.eventAck e 1)] }) ∧
    ((s.rd WD_STATUS.STATE ≠ 2 ∨ s.winder.inStroke = true) → v ≠ 2 →
      exec (.event ⟨src, b⟩ e 2 sl v) s = .next { State.refreshStop { s with winder := { s.winder with events := s.winder.events ++ [⟨.sample, e, sl, v, []⟩] } } with
        sent := s.sent ++ [Emission.bell (some src) (.eventAck e 2)] }) ∧
    ((s.rd WD_STATUS.STATE ≠ 2 ∨ s.winder.inStroke = true) →
      exec (.event ⟨src, b⟩ e 3 sl v) s = .next { State.refreshStop { s with winder := { s.winder with
        events := s.winder.events ++ [⟨.rewind, e, sl, v, []⟩], duty := some 6 } } with sent := s.sent ++ [Emission.bell (some src) (.eventAck e 3)] }) ∧
    (s.rd WD_STATUS.STATE = 2 → s.winder.inStroke = false → s.winder.events = [] → s.winder.cmd = none → s.winder.duty = none → v < 16 → v ≠ 3 → v ≠ 4 →
      v ≠ 8 → e = s.rd WD_TALLY.TALLY → e < s.rd WD_STOP_TALLY.S → ∃ t : State, exec (.event ⟨src, b⟩ e 1 sl v) s = .next t ∧ t.rd WD_STATUS.STATE = 1 ∧
      t.rd WD_STATUS.STOP_CAUSE = v ∧ t.winder.events = [] ∧ t.rd WD_STOP_TALLY.S = 2 ^ 64 - 1) ∧
    (∃ t : State, exec (.cmd ⟨src, b⟩ v 0 b) s = .next t ∧ t.rd WD_GROUP_STATUS.MISMATCH = 1 ∧ t.winder = s.winder) ∧
    (s.rd WD_STATUS.STATE = 1 → s.rd WD_STATUS.LEADER = 0 → ∃ t u : State, exec (.cmd ⟨src, b⟩ v 1 b) s = .next t ∧ exec (.cmd ⟨src, b⟩ v 2 b) s = .next u ∧
      t.rd WD_STATUS.STATE = 2 ∧ t.rd WD_STATUS.REPLAYING = (if s.rd WD_STATUS.REPLAY_ARMED = 1 ∧ s.rd WD_TALLY.TALLY < s.rd WD_REPLAY_END.END then 1 else 0) ∧
      t.winder = { s.winder with runTrig := b, sampled := false } ∧
      t.sent = s.sent ++ [Emission.bell (some (s.rd WD_GROUP_STATUS.LEADER_ADDR)) (.cmdDone 0)] ∧
      s.regsKeptBut t [WD_STATUS.STATE.key, WD_STATUS.REPLAYING.key] ∧ u = { t with sent := s.sent }) ∧
    (s.rd WD_STATUS.STATE = 1 → s.rd WD_STATUS.LEADER = 0 → ∃ t u : State, exec (.cmd ⟨src, b⟩ v 3 b) s = .next t ∧ exec (.cmd ⟨src, b⟩ v 7 b) s = .next u ∧
      t.rd WD_STATUS.STATE = 2 ∧ t.winder = { s.winder with runTrig := b, sampled := false, duty := some 3 } ∧ t.sent = s.sent ∧
      u.rd WD_STATUS.STATE = 2 ∧ u.winder = { s.winder with runTrig := b, sampled := false, duty := some 7 } ∧ u.sent = s.sent) ∧
    (s.restorable v = false → exec (.cmd ⟨src, b⟩ v 5 b) s = .next { s with sent := s.sent ++ [Emission.bell (some src) (.cmdDone 7)] } ∧
      exec (.cmd ⟨src, b⟩ v 6 b) s = .next { s with sent := s.sent ++ [Emission.bell (some src) (.cmdDone 7)] }) ∧
    (s.restorable v = true → s.rd WD_STATUS.STATE = 1 → ∃ t u : State, exec (.cmd ⟨src, b⟩ v 5 b) s = .next t ∧ exec (.cmd ⟨src, b⟩ v 6 b) s = .next u ∧
      t.rd WD_STATUS.STATE = 3 ∧ u.rd WD_STATUS.STATE = 3 ∧ t.rd WD_STATUS.REPLAY_ARMED = 0 ∧ u.rd WD_STATUS.REPLAY_ARMED = 1 ∧
      u.rd WD_REPLAY_END.END = s.rd WD_TALLY.TALLY ∧ t.sampler = { s.sampler with restoring := some (v, false) } ∧
      u.sampler = { s.sampler with restoring := some (v, false) } ∧ t.winder.duty = some 5 ∧ u.winder.duty = some (if b then 14 else 6)) ∧
    (exec (.cmd ⟨src, b⟩ v 9 b) s = .next (s.spoiledStopes.foldl (fun t n => t.clearSpoil n) s)) ∧
    ((e = 4 ∨ e = 8 ∨ 10 ≤ e) → exec (.cmd ⟨src, b⟩ v e b) s = .next s)) ∧
  (∀ (s : State) (src dst tl st f k dv nm cr hz ps e sl v : Nat) (vl : Bool) (sv : List SlotView) (c : WindCmd) (r : Recovery),
    s.rd EN_STATUS.HALTED = 0 → s.rd BW_STATUS.ENUMERATED = 1 → dst = s.rd BW_STATUS.ADDR → s.rd WD_GROUP_CTRL.JOIN = 1 →
    src ∈ s.winder.members.map (fun m => m.addr) →
    (s.winder.regroup = none → s.winder.recovery = none → s.winder.cmd = none → s.winder.lateBound = none → (s.rd WD_STATUS.STATE ≠ 2 ∨ s.winder.inStroke = true) →
      exec (.state ⟨src, dst⟩ tl st vl f k dv nm cr ⟨hz, sv, ps⟩) s = .next { s with winder := { s.winder with members := s.winder.members.map (fun m =>
        if m.addr = src then ⟨src, m.size, m.leadEn, st, tl, vl, f, k, dv, nm, cr, hz, sv, ps⟩ else m) } }) ∧
    (s.winder.regroup = none → s.winder.recovery = none → s.winder.cmd = some c → c.stage = .checking → c.waiting.filter (fun a => decide (a ≠ src)) ≠ [] →
      (s.rd WD_STATUS.STATE ≠ 2 ∨ s.winder.inStroke = true) →
      exec (.state ⟨src, dst⟩ tl st vl f k dv nm cr ⟨hz, sv, ps⟩) s = .next { s with winder := { s.winder with
        cmd := some { c with waiting := c.waiting.filter (fun a => decide (a ≠ src)) }, members := s.winder.members.map (fun m =>
        if m.addr = src then ⟨src, m.size, m.leadEn, st, tl, vl, f, k, dv, nm, cr, hz, sv, ps⟩ else m) } }) ∧
    (s.rd WD_STATUS.LEADER = 0 → exec (.eventAck ⟨src, dst⟩ e 1) s = .next s ∧ exec (.report ⟨src, dst⟩ v 2 sl) s = .next s ∧ exec (.cmdDone ⟨src, dst⟩ v) s = .next s) ∧
    (s.rd WD_STATUS.LEADER = 1 → s.rd WD_STATUS.STATE ≠ 2 → s.winder.cmd = none → s.winder.lateBound = none →
      exec (.eventAck ⟨src, dst⟩ e 1) s = .next { s with winder := { s.winder with events := s.winder.events.map (fun x =>
        if x.e = e ∧ x.kind = .stop then { x with waiting := x.waiting.filter (fun a => decide (a ≠ src)) } else x) } } ∧
      exec (.eventAck ⟨src, dst⟩ e 2) s = .next { s with winder := { s.winder with events := s.winder.events.map (fun x =>
        if x.e = e ∧ x.kind = .sample then { x with waiting := x.waiting.filter (fun a => decide (a ≠ src)) } else x) } } ∧
      exec (.eventAck ⟨src, dst⟩ e 3) s = .next { s with winder := { s.winder with events := s.winder.events.map (fun x =>
        if x.e = e ∧ x.kind = .rewind then { x with waiting := x.waiting.filter (fun a => decide (a ≠ src)) } else x) } }) ∧
    (s.rd WD_STATUS.LEADER = 1 → s.rd WD_STATUS.STATE = 2 → s.winder.inStroke = true → s.rd WD_HORIZON.H < s.rd WD_STOP_TALLY.S →
      exec (.report ⟨src, dst⟩ v 0 sl) s = .next (State.refreshStop { s with sent := s.sent ++ [Emission.bell none (.event (s.rd WD_HORIZON.H) 1 0 2)], winder := { s.winder with
        events := s.winder.events ++ [⟨.stop, s.rd WD_HORIZON.H, 0, 2, s.winder.members.map (fun m => m.addr)⟩] } })) ∧
    (s.rd WD_STATUS.LEADER = 1 → s.rd WD_STATUS.STATE ≠ 2 → exec (.report ⟨src, dst⟩ v 0 sl) s = .next s) ∧
    (s.rd WD_STATUS.LEADER = 1 → (s.rd WD_STATUS.STATE = 1 ∨ s.rd WD_STATUS.STATE = 2) → s.rd WD_SMP_SEQ.SEQ < 2 ^ 32 - 1 →
      e = (if s.rd WD_STATUS.STATE = 2 then s.rd WD_HORIZON.H else s.rd WD_TALLY.TALLY) →
      exec (.report ⟨src, dst⟩ v 1 sl) s = .next (State.refreshStop { s with sent := s.sent ++ [Emission.bell none (.event e 2 sl 0)], winder := { s.winder with
        events := s.winder.events ++ [⟨.sample, e, sl, 0, s.winder.members.map (fun m => m.addr)⟩] } })) ∧
    (s.rd WD_STATUS.LEADER = 1 → s.rd WD_STATUS.STATE ≠ 2 → s.rd WD_GROUP_CTRL.AUTO_REWIND = 0 → exec (.report ⟨src, dst⟩ v 2 sl) s = .next s) ∧
    (s.rd WD_STATUS.LEADER = 1 → s.rd WD_STATUS.STATE ≠ 2 → s.rd WD_GROUP_CTRL.AUTO_REWIND = 1 → s.winder.recovery = some r → r.stage = .stopping →
      exec (.report ⟨src, dst⟩ v 2 sl) s = .next { s with winder := { s.winder with recovery := some { r with bound := min r.bound v } } }) ∧
    (s.rd WD_STATUS.LEADER = 1 → exec (.report ⟨src, dst⟩ v 3 sl) s = .next { s with winder := { s.winder with
      members := s.winder.members.map (fun m => if m.addr = src then { m with passes := v } else m) } }) ∧
    (s.rd WD_STATUS.LEADER = 1 → s.winder.recovery = none → s.winder.cmd = none → s.winder.lateBound = none → exec (.cmdDone ⟨src, dst⟩ v) s = .next s) ∧
    (s.rd WD_STATUS.LEADER = 1 → s.winder.recovery = none → s.winder.cmd = some c → c.waiting.filter (fun a => decide (a ≠ src)) ≠ [] →
      exec (.cmdDone ⟨src, dst⟩ v) s = .next { s with winder := { s.winder with
        cmd := some { c with waiting := c.waiting.filter (fun a => decide (a ≠ src)), result := if c.result = 0 then v else c.result } } }) ∧
    (s.rd WD_STATUS.LEADER = 1 → s.winder.recovery = none → s.winder.cmd = some c → c.waiting.filter (fun a => decide (a ≠ src)) = [] → c.ownDone = true →
      c.result = 0 → v < 16 → s.winder.lateBound = none → ∃ t : State, exec (.cmdDone ⟨src, dst⟩ v) s = .next t ∧ t.rd WD_CMD_STATUS.BUSY = 0 ∧
      t.rd WD_CMD_STATUS.DONE = 1 ∧ t.rd WD_CMD_STATUS.RESULT = v ∧ t.winder = { s.winder with cmd := none }) ∧
    (s.rd WD_STATUS.LEADER = 1 → s.winder.recovery = some r → r.stage = .rewinding → v ≠ 0 → s.winder.cmd = none → ∃ t : State,
      exec (.cmdDone ⟨src, dst⟩ v) s = .next t ∧ t.rd WD_SMP_STATUS.RECOVERY_FAIL = 1 ∧ t.rd WD_STATUS.STOP_CAUSE = 3 ∧
      t.winder = { s.winder with recovery := none, lateBound := none } ∧ t.events = s.events ++ [⟨7, 0x0070, 1, 1, s.rd WD_TALLY.TALLY⟩]) ∧
    (s.rd WD_STATUS.LEADER = 1 → s.winder.recovery = some r → r.stage = .rewinding → v = 0 → r.waiting.filter (fun a => decide (a ≠ src)) ≠ [] →
      exec (.cmdDone ⟨src, dst⟩ v) s = .next { s with winder := { s.winder with
        recovery := some { r with waiting := r.waiting.filter (fun a => decide (a ≠ src)) } } }))

/-- A write of `SC_INC` that its owner may make, in range (19 R493): the Shift edge's count becomes `EPOCH_COUNT`, corrected time at that edge
under the old increment becomes `EPOCH_TIME` with its fraction, `INC` takes the new value, and from there corrected time goes on from the same
value at the new slope. Nothing else changes but the running count. `c` is the edge's count, `x` corrected time at it in units of 2^-48 ns. -/
def Obligations.IncrementWrites : Prop :=
  ∀ (s : State) (v ticks c x : Nat) (fm : Bool), s.clk.stage = .running → s.rd SC_CTRL.SRC = 0 ∨ fm = true →
    0x0003000000000000 ≤ v → v ≤ 0x0003FFFFFFFFFFFF → c = (s.rd SC_COUNT.COUNT + ticks) % 2 ^ 64 →
    x = (((s.rd SC_EPOCH_TIME.EPOCH_TIME * 2 ^ 48 + s.shift.epochFrac : Nat) : Int) +
      ((c : Int) - s.rd SC_EPOCH_COUNT.EPOCH_COUNT) * s.rd SC_INC.INC).emod (2 ^ 112) →
    ∃ t, exec (.incWrite v fm ticks) s = .next t ∧ t.rd SC_EPOCH_COUNT.EPOCH_COUNT = c ∧ t.rd SC_INC.INC = v ∧
      t.rd SC_EPOCH_TIME.EPOCH_TIME = x / 2 ^ 48 ∧ t.shift.epochFrac = x % 2 ^ 48 ∧ t.rd SC_COUNT.COUNT = c ∧
      (∀ n, t.timeAt (c + n) = (x + n * v) % 2 ^ 112) ∧
      s.regsKeptBut t [SC_COUNT.COUNT.key, SC_EPOCH_COUNT.EPOCH_COUNT.key, SC_EPOCH_TIME.EPOCH_TIME.key, SC_INC.INC.key] ∧
      { t with regs := s.regs, shift := s.shift } = s

/-- A write of `SC_TIME` that its owner may make (19 R494): the Shift edge's count becomes `EPOCH_COUNT`, the value written becomes `EPOCH_TIME`
with a fraction of 0, so that corrected time is that value at that edge and goes on at the same increment; `STEPPED` sets, one event goes to
the Foreman's log, and no other register changes but the running count. -/
def Obligations.TimeSteps : Prop :=
  ∀ (s : State) (v ticks c : Nat) (fm : Bool), s.clk.stage = .running → s.rd SC_CTRL.SRC = 0 ∨ fm = true → v < 2 ^ 64 →
    c = (s.rd SC_COUNT.COUNT + ticks) % 2 ^ 64 →
    ∃ t ev, exec (.timeStep v 0 fm ticks) s = .next t ∧ t.rd SC_EPOCH_COUNT.EPOCH_COUNT = c ∧ t.rd SC_EPOCH_TIME.EPOCH_TIME = v ∧
      t.shift.epochFrac = 0 ∧ t.rd SC_INC.INC = s.rd SC_INC.INC ∧ t.rd SC_STATUS.STEPPED = 1 ∧ t.rd SC_COUNT.COUNT = c ∧
      t.events = s.events ++ [ev] ∧ (∀ n, t.timeAt (c + n) = (v * 2 ^ 48 + n * s.rd SC_INC.INC) % 2 ^ 112) ∧
      s.regsKeptBut t [SC_COUNT.COUNT.key, SC_EPOCH_COUNT.EPOCH_COUNT.key, SC_EPOCH_TIME.EPOCH_TIME.key, SC_STATUS.STEPPED.key] ∧
      { t with regs := s.regs, shift := s.shift, trace := s.trace, events := s.events } = s

/-- The owners and halves of the Shift clock's registers (19 R492, R495, R496). An increment outside 3 to 4 ns changes nothing but `INC_ERR`; a
write of the increment or the time by another than the servo while a source is selected changes nothing but `SRC_ERR`. A write of half of
`SC_TIME` steps time to the half written beside the other half of the present time. A 32-bit read of the low half answers the low half and
latches the high one, and of `SC_TIME` the fraction. A write of `SRC` with the reserved value or the value in force changes nothing; any other
selects the source, which is ACQUIRING where it can be heard and else FREE. -/
def Obligations.ShiftRegisters : Prop :=
  ∀ (s : State) (ticks c x : Nat), s.clk.stage = .running → c = (s.rd SC_COUNT.COUNT + ticks) % 2 ^ 64 →
    x = (((s.rd SC_EPOCH_TIME.EPOCH_TIME * 2 ^ 48 + s.shift.epochFrac : Nat) : Int) +
      ((c : Int) - s.rd SC_EPOCH_COUNT.EPOCH_COUNT) * s.rd SC_INC.INC).emod (2 ^ 112) →
    (∀ v : Nat, v < 0x0003000000000000 ∨ (0x0003FFFFFFFFFFFF < v ∧ v < 2 ^ 64) → s.rd SC_CTRL.SRC = 0 →
      ∃ t, exec (.incWrite v false ticks) s = .next t ∧ t.rd SC_STATUS.INC_ERR = 1 ∧ t.rd SC_COUNT.COUNT = c ∧
      s.regsKeptBut t [SC_COUNT.COUNT.key, SC_STATUS.INC_ERR.key] ∧ { t with regs := s.regs } = s) ∧
    (∀ v : Nat, 0x0003000000000000 ≤ v → v ≤ 0x0003FFFFFFFFFFFF → s.rd SC_CTRL.SRC ≠ 0 → ∃ t, exec (.incWrite v false ticks) s = .next t ∧
      t.rd SC_STATUS.SRC_ERR = 1 ∧ t.rd SC_COUNT.COUNT = c ∧ s.regsKeptBut t [SC_COUNT.COUNT.key, SC_STATUS.SRC_ERR.key] ∧
      { t with regs := s.regs } = s) ∧
    (∀ v half : Nat, s.rd SC_CTRL.SRC ≠ 0 → ∃ t, exec (.timeStep v half false ticks) s = .next t ∧ t.rd SC_STATUS.SRC_ERR = 1 ∧
      t.rd SC_COUNT.COUNT = c ∧ s.regsKeptBut t [SC_COUNT.COUNT.key, SC_STATUS.SRC_ERR.key] ∧ { t with regs := s.regs } = s) ∧
    (∀ v half now : Nat, half = 1 ∨ half = 2 → now = x / 2 ^ 48 → ∃ t, exec (.timeStep v half true ticks) s = .next t ∧
      t.rd SC_EPOCH_COUNT.EPOCH_COUNT = c ∧ t.shift.epochFrac = 0 ∧ t.rd SC_STATUS.STEPPED = 1 ∧ t.rd SC_EPOCH_TIME.EPOCH_TIME =
        (if half = 1 then now / 2 ^ 32 * 2 ^ 32 + v % 2 ^ 32 else v % 2 ^ 32 * 2 ^ 32 + now % 2 ^ 32)) ∧
    (∀ src tag : Nat, ∃ t, exec (.timeRead true src tag ticks) s = .next t ∧ t.rd SC_TIME_FRAC.FRAC = x % 2 ^ 48 ∧
      t.shift = { s.shift with timeHi := x / 2 ^ 80 } ∧ t.sent = s.sent ++ [Emission.response 661 src tag 0 (x / 2 ^ 48 % 2 ^ 32) false] ∧
      s.regsKeptBut t [SC_COUNT.COUNT.key, SC_TIME_FRAC.FRAC.key] ∧ { t with regs := s.regs, shift := s.shift, sent := s.sent } = s) ∧
    (∀ src tag : Nat, ∃ t, exec (.timeRead false src tag ticks) s = .next t ∧ t.shift = { s.shift with countHi := c / 2 ^ 32 } ∧
      t.sent = s.sent ++ [Emission.response 661 src tag 0 (c % 2 ^ 32) false] ∧ s.regsKeptBut t [SC_COUNT.COUNT.key] ∧
      { t with regs := s.regs, shift := s.shift, sent := s.sent } = s) ∧
    (∀ src : Nat, src % 4 = 3 ∨ src % 4 = s.rd SC_CTRL.SRC → exec (.timeSrcWrite src) s = .next s) ∧
    (∀ src : Nat, src < 3 → src ≠ s.rd SC_CTRL.SRC → ∃ t, exec (.timeSrcWrite src) s = .next t ∧ t.rd SC_CTRL.SRC = src ∧
      t.rd SC_STATUS.STATE = (if (src = 1 ∧ s.rd BW_STATUS.HEAD = 0 ∧ s.rd BW_STATUS.UP_LINK ≠ 0) ∨
        (src = 2 ∧ (s.rd IO_MG_STATUS.OWNED).testBit 3 = true) then 1 else 0) ∧
      t.shift = { s.shift with within := 0, above := 0 } ∧ s.regsKeptBut t [SC_CTRL.SRC.key, SC_STATUS.STATE.key] ∧
      { t with regs := s.regs, shift := s.shift } = s)

/-- Time over Bellwire and PTP (19 R496 to R500). A part that is HALTED, the head, or not enumerated takes no TIME message; another passes it
on with its residence and hop delay and one hop more, and without the BELLWIRE source measures nothing. A measurement beyond `STEP_NS` steps
time by its whole ns; one within writes an increment in range (its value is free: the servo's rate estimate is not stated, log entry 77) and
leaves time continuous. Eight measurements in a row within `LOCK_NS` lock an acquiring servo; four in a row above it unlock it. The head sends
a message where `HEAD_SEND` is set. On loss the state is HOLDOVER, `LOST` sets and the loss is logged; the time master has none to lose. -/
def Obligations.TimeFollowing : Prop :=
  ∀ (s : State) (m : TimeMsg) (ticks residence c now : Nat), c = (s.rd SC_COUNT.COUNT + ticks) % 2 ^ 64 →
    now = (((s.rd SC_EPOCH_TIME.EPOCH_TIME * 2 ^ 48 + s.shift.epochFrac : Nat) : Int) +
      ((c : Int) - s.rd SC_EPOCH_COUNT.EPOCH_COUNT) * s.rd SC_INC.INC).emod (2 ^ 112) / 2 ^ 48 →
    (s.halted = true ∨ s.rd BW_STATUS.HEAD ≠ 0 ∨ s.rd BW_STATUS.ENUMERATED = 0 → exec (.time m ticks residence) s = .next s) ∧
    (s.halted = false → s.rd BW_STATUS.HEAD = 0 → s.rd BW_STATUS.ENUMERATED ≠ 0 → s.rd SC_CTRL.SRC ≠ 1 → s.rd BW_STATUS.DOWN_LINK ≠ 0 →
      ∃ t, exec (.time m ticks residence) s = .next t ∧ t.rd SC_STATUS.HOPS = m.hops % 256 ∧
      t.sent = s.sent ++ [Emission.bell (some ((s.rd BW_STATUS.ADDR + 1) % 256))
        (.time [m.mtime, (m.corr + residence + s.rd SC_CTRL.HOP_NS) % 2 ^ 32, (m.hops + 1) % 256, m.mseq, if m.mlock then 1 else 0])] ∧
      s.regsKeptBut t [SC_COUNT.COUNT.key, SC_STATUS.HOPS.key] ∧ { t with regs := s.regs, sent := s.sent } = s) ∧
    (∀ off : Int, off = (16 * m.mtime + m.corr + s.rd SC_CTRL.HOP_NS : Nat) - 16 * (now : Int) → s.clk.stage = .running → s.halted = false →
      s.rd BW_STATUS.HEAD = 0 → s.rd BW_STATUS.ENUMERATED ≠ 0 → s.rd SC_CTRL.SRC = 1 → s.rd BW_STATUS.DOWN_LINK = 0 →
      -(2 ^ 35) < off → off < 2 ^ 35 → ∃ t, exec (.time m ticks residence) s = .next t ∧
      t.rd SC_STATUS.OFFSET = ((off / 16) % 2 ^ 32).toNat ∧ t.rd SC_EPOCH_COUNT.EPOCH_COUNT = c ∧
      (16 * s.rd SC_CTRL.STEP_NS < off.natAbs → t.rd SC_STATUS.STEPPED = 1 ∧ t.rd SC_INC.INC = s.rd SC_INC.INC ∧
        t.rd SC_EPOCH_TIME.EPOCH_TIME = ((now + off / 16) % 2 ^ 64).toNat) ∧
      (off.natAbs ≤ 16 * s.rd SC_CTRL.STEP_NS → t.rd SC_STATUS.STEPPED = s.rd SC_STATUS.STEPPED ∧ t.rd SC_EPOCH_TIME.EPOCH_TIME = now ∧
        0x0003000000000000 ≤ t.rd SC_INC.INC ∧ t.rd SC_INC.INC ≤ 0x0003FFFFFFFFFFFF)) ∧
    (∀ off : Int, (s.rd SC_CTRL.SRC ≠ 2 ∨ (s.rd IO_MG_STATUS.OWNED).testBit 3 = false) → ∃ t, exec (.ptpSync off ticks) s = .next t ∧
      s.regsKeptBut t [SC_COUNT.COUNT.key] ∧ { t with regs := s.regs } = s) ∧
    (∀ off : Int, s.rd SC_CTRL.SRC = 2 → (s.rd IO_MG_STATUS.OWNED).testBit 3 = true → off.natAbs ≤ 16 * s.rd SC_CTRL.LOCK_NS →
      s.rd SC_STATUS.STATE = 1 → s.shift.within = 7 → ∃ t, exec (.ptpSync off ticks) s = .next t ∧ t.rd SC_STATUS.STATE = 2 ∧
      (t.rd SC_IRQ_STATUS.SRCS).testBit 7 = true) ∧
    (∀ off : Int, s.rd SC_CTRL.SRC = 2 → (s.rd IO_MG_STATUS.OWNED).testBit 3 = true → off.natAbs ≤ 16 * s.rd SC_CTRL.LOCK_NS →
      s.rd SC_STATUS.STATE = 1 → s.shift.within < 7 → ∃ t, exec (.ptpSync off ticks) s = .next t ∧ t.rd SC_STATUS.STATE = 1 ∧
      t.shift.within = s.shift.within + 1 ∧ t.shift.above = 0) ∧
    (∀ off : Int, s.rd SC_CTRL.SRC = 2 → (s.rd IO_MG_STATUS.OWNED).testBit 3 = true → 16 * s.rd SC_CTRL.LOCK_NS < off.natAbs →
      s.rd SC_STATUS.STATE = 2 → ∃ t, exec (.ptpSync off ticks) s = .next t ∧
      t.rd SC_STATUS.STATE = (if 3 ≤ s.shift.above then 1 else 2) ∧ t.shift.within = 0) ∧
    (s.rd BW_STATUS.HEAD = 0 ∨ s.rd SC_CTRL.HEAD_SEND = 0 ∨ s.rd BW_STATUS.DOWN_LINK = 0 ∨ s.halted = true →
      ∃ t, exec (.timeSend ticks) s = .next t ∧ s.regsKeptBut t [SC_COUNT.COUNT.key] ∧ { t with regs := s.regs } = s) ∧
    (s.clk.stage = .running → s.rd BW_STATUS.HEAD ≠ 0 → s.rd SC_CTRL.HEAD_SEND ≠ 0 → s.rd BW_STATUS.DOWN_LINK ≠ 0 → s.halted = false →
      ∃ t, exec (.timeSend ticks) s = .next t ∧ t.sent = s.sent ++ [Emission.bell (some ((s.rd BW_STATUS.ADDR + 1) % 256))
        (.time [now, 0, 0, s.shift.mseq, if s.rd SC_CTRL.SRC = 2 ∧ s.rd SC_STATUS.STATE = 2 then 1 else 0])] ∧
      t.shift = { s.shift with mseq := (s.shift.mseq + 1) % 256 } ∧ s.regsKeptBut t [SC_COUNT.COUNT.key] ∧
      { t with regs := s.regs, shift := s.shift, sent := s.sent } = s) ∧
    (s.timeMaster = false → s.rd SC_CTRL.SRC ≠ 0 → (s.rd SC_STATUS.STATE = 1 ∨ s.rd SC_STATUS.STATE = 2) →
      ∃ t ev, exec .masterLoss s = .next t ∧ t.rd SC_STATUS.STATE = 3 ∧ t.rd SC_STATUS.LOST = 1 ∧
      (t.rd SC_IRQ_STATUS.SRCS).testBit 6 = true ∧ t.rd SC_INC.INC = s.rd SC_INC.INC ∧ t.events = s.events ++ [ev]) ∧
    (s.timeMaster = true ∨ s.rd SC_CTRL.SRC = 0 ∨ s.rd SC_STATUS.STATE = 0 ∨ s.rd SC_STATUS.STATE = 3 →
      exec .masterLoss s = .next s)

/-- Captures and compare windows (19 R501 to R503). An edge on an input that one pin feeds latches corrected time and sets its source, or
`CAP_OVR` where that source was set already; an input that no pin feeds, or two, has no edge. A compare unit that is enabled sets `HIT` when time
enters its window, with the time where `HIT` was clear, and drives its output where enabled; drives it low when time leaves; sets `MISS`
where one edge's time lies below the window and the next one's above. A unit that is not enabled only shows `IN`. -/
def Obligations.CaptureAndCompare : Prop :=
  ∀ (s : State) (i j ticks c : Nat) (x : Nat) (now : Nat), s.clk.stage = .running → c = (s.rd SC_COUNT.COUNT + ticks) % 2 ^ 64 →
    x = (((s.rd SC_EPOCH_TIME.EPOCH_TIME * 2 ^ 48 + s.shift.epochFrac : Nat) : Int) +
      ((c : Int) - s.rd SC_EPOCH_COUNT.EPOCH_COUNT) * s.rd SC_INC.INC).emod (2 ^ 112) → now = x / 2 ^ 48 →
    (i < 2 → (s.timeFeeds i).length ≠ 1 → ∃ t, exec (.capture i ticks) s = .next t ∧ s.regsKeptBut t [SC_COUNT.COUNT.key] ∧
      { t with regs := s.regs } = s) ∧
    (i < 2 → (s.timeFeeds i).length = 1 → ∃ t, exec (.capture i ticks) s = .next t ∧ t.rd SC_CAP.CAP 0 i = now ∧
      (t.rd SC_IRQ_STATUS.SRCS).testBit (if (s.rd SC_IRQ_STATUS.SRCS).testBit (4 + i) then 9 else 4 + i) = true) ∧
    (∀ a b, j < 4 → a = s.rd SC_CMP_START.START 0 j → b = s.rd SC_CMP_END.END 0 j → s.rd SC_CMP_CTRL.EN 0 j = 0 →
      ∃ t, exec (.compareWindow j ticks) s = .next t ∧ t.rd SC_CMP_CTRL.IN 0 j = (if a ≤ now ∧ now < b then 1 else 0) ∧
      s.regsKeptBut t [SC_COUNT.COUNT.key, SC_CMP_CTRL.IN.key 0 j] ∧ { t with regs := s.regs } = s) ∧
    (∀ a b, j < 4 → a = s.rd SC_CMP_START.START 0 j → b = s.rd SC_CMP_END.END 0 j → s.rd SC_CMP_CTRL.EN 0 j ≠ 0 →
      s.rd SC_CMP_CTRL.IN 0 j = 0 → a ≤ now → now < b → ∃ t, exec (.compareWindow j ticks) s = .next t ∧ t.rd SC_CMP_CTRL.IN 0 j = 1 ∧
      (t.rd SC_IRQ_STATUS.SRCS).testBit j = true ∧
      t.rd SC_CMP_HIT.HIT 0 j = (if (s.rd SC_IRQ_STATUS.SRCS).testBit j then s.rd SC_CMP_HIT.HIT 0 j else now) ∧
      t.shift.out.testBit j = (decide (s.rd SC_CMP_CTRL.OUT_EN 0 j ≠ 0) || s.shift.out.testBit j)) ∧
    (∀ a b, j < 4 → a = s.rd SC_CMP_START.START 0 j → b = s.rd SC_CMP_END.END 0 j → s.rd SC_CMP_CTRL.EN 0 j ≠ 0 →
      s.rd SC_CMP_CTRL.IN 0 j ≠ 0 → (now < a ∨ b ≤ now) → ∃ t, exec (.compareWindow j ticks) s = .next t ∧ t.rd SC_CMP_CTRL.IN 0 j = 0 ∧
      t.shift.out.testBit j = false ∧ s.regsKeptBut t [SC_COUNT.COUNT.key, SC_CMP_CTRL.IN.key 0 j] ∧
      { t with regs := s.regs, shift := s.shift } = s) ∧
    (∀ a b p, j < 4 → a = s.rd SC_CMP_START.START 0 j → b = s.rd SC_CMP_END.END 0 j → s.rd SC_CMP_CTRL.EN 0 j ≠ 0 →
      s.rd SC_CMP_CTRL.IN 0 j = 0 → c ≠ 0 → c ≠ s.rd SC_EPOCH_COUNT.EPOCH_COUNT →
      p = (((s.rd SC_EPOCH_TIME.EPOCH_TIME * 2 ^ 48 + s.shift.epochFrac : Nat) : Int) +
        ((c : Int) - 1 - s.rd SC_EPOCH_COUNT.EPOCH_COUNT) * s.rd SC_INC.INC).emod (2 ^ 112) / 2 ^ 48 →
      p < a → a < b → b ≤ now → ∃ t, exec (.compareWindow j ticks) s = .next t ∧ t.rd SC_CMP_CTRL.IN 0 j = 0 ∧
      t.rd SC_CMP_CTRL.MISS 0 j = 1 ∧ (t.rd SC_IRQ_STATUS.SRCS).testBit 8 = true ∧ t.rd SC_CMP_HIT.HIT 0 j = s.rd SC_CMP_HIT.HIT 0 j)

/-- A request that the port does not hear, that begins with no `START` or whose bits spell another row's command has no effect (log entry 102); one whose
`CRC` fails is counted and answered CRC, a reserved `CMD` BAD, and the first good two-wire request sets the mode (20 R505, R506, R512). The checks come
in the order alignment, halt, level, Foreman (the order of halt and level is DEDUCED); an access that passes them answers with what it got, which
REPEAT sends again, and a hole answers NOROUTE. GET draws a challenge or is refused, SUBMIT compares the response, LOCK, the expiry of a challenge
and the end of a lockout do what R515 and R516 say. BREAK and a stopped clock leave no trace, a transaction being one command. -/
def Obligations.LampPort : Prop :=
  (∀ (s u : State) (q : LampReq) (a : Answer) (c n : Nat), c = q.bits / 2 % 16 → u = (if q.two then s.wr LP_STATUS.MODE 1 else s) →
    n = q.bits / 2 ^ 6 % 2 ^ 48 →
    ((s.clk.lampHold = true ∨ (q.two = false ∧ s.rd LP_STATUS.MODE = 1) ∨ q.bits % 2 = 1) → exec (.peek q a) s = .next s ∧ exec (.consume q a) s = .next s ∧
      exec (.lampWrite q.two q.bits a) s = .next s ∧ exec (.lampRepeat q.two q.bits) s = .next s) ∧
    (s.clk.lampHold = false → (q.two = true ∨ s.rd LP_STATUS.MODE = 0) → q.bits % 2 = 0 →
      (q.bits / 2 ^ (1 + lampCovered q) % 2 ^ 8 ≠ crc8Of (lampCovered q) (q.bits / 2) → ∀ t : State,
        t = { s.wr LP_STATUS.CRC_ERR (min (s.rd LP_STATUS.CRC_ERR + 1) 0xFFFF) with sent := s.sent ++ [Emission.lamp (lampBits 3 0)] } →
        exec (.peek q a) s = .next t ∧ exec (.consume q a) s = .next t ∧ exec (.lampWrite q.two q.bits a) s = .next t ∧ exec (.lampRepeat q.two q.bits) s = .next t) ∧
      (q.bits / 2 ^ (1 + lampCovered q) % 2 ^ 8 = crc8Of (lampCovered q) (q.bits / 2) →
        ((c = 0 ∨ 4 < c) → ∀ t : State, t = { u with sent := s.sent ++ [Emission.lamp (lampBits 5 0)] } → exec (.peek q a) s = .next t ∧
          exec (.consume q a) s = .next t ∧ exec (.lampWrite q.two q.bits a) s = .next t ∧ exec (.lampRepeat q.two q.bits) s = .next t) ∧
        (0 < c → c < 5 → (c ≠ 1 → exec (.peek q a) s = .next s) ∧ (c ≠ 2 → exec (.consume q a) s = .next s) ∧
          (c ≠ 3 → exec (.lampWrite q.two q.bits a) s = .next s) ∧ (c ≠ 4 → exec (.lampRepeat q.two q.bits) s = .next s)) ∧
        (c = 4 → exec (.lampRepeat q.two q.bits) s = .next { u with sent := s.sent ++ [Emission.lamp (lampBits s.lamp.ack s.lamp.rdata)] }) ∧
        (n % (if q.bits / 2 ^ 5 % 2 = 1 then 8 else 4) ≠ 0 → ∀ t : State, t = { u with sent := s.sent ++ [Emission.lamp (lampBits 5 0)] } →
          (c = 1 → exec (.peek q a) s = .next t) ∧ (c = 2 → exec (.consume q a) s = .next t) ∧ (c = 3 → exec (.lampWrite q.two q.bits a) s = .next t)) ∧
        (n % (if q.bits / 2 ^ 5 % 2 = 1 then 8 else 4) = 0 → s.rd EN_STATUS.HALTED = 1 → ∀ t : State,
          t = { u with sent := s.sent ++ [Emission.lamp (lampBits 4 0)] } →
          (c = 2 → exec (.consume q a) s = .next t) ∧ (c = 3 → exec (.lampWrite q.two q.bits a) s = .next t)) ∧
        (n % (if q.bits / 2 ^ 5 % 2 = 1 then 8 else 4) = 0 → s.rd EN_STATUS.HALTED = 0 → s.rd LP_STATUS.LEVEL < 2 → ∀ t : State,
          t = { u with sent := s.sent ++ [Emission.lamp (lampBits 1 0)] } →
          (c = 2 → exec (.consume q a) s = .next t) ∧ (c = 3 → lowWrites (s.rd LP_STATUS.LEVEL) n = false → exec (.lampWrite q.two q.bits a) s = .next t) ∧
          (c = 1 → s.rd LP_STATUS.LEVEL = 0 → noneSet n = false → exec (.peek q a) s = .next t)) ∧
        (n % (if q.bits / 2 ^ 5 % 2 = 1 then 8 else 4) = 0 → s.rd EN_STATUS.HALTED = 0 → 2 ≤ s.rd LP_STATUS.LEVEL → s.ready 0 = false →
          foremanServes n = false → ∀ t : State, t = { u with sent := s.sent ++ [Emission.lamp (lampBits 2 4)] } →
          (c = 1 → exec (.peek q a) s = .next t) ∧ (c = 2 → exec (.consume q a) s = .next t) ∧ (c = 3 → exec (.lampWrite q.two q.bits a) s = .next t)) ∧
        (n % (if q.bits / 2 ^ 5 % 2 = 1 then 8 else 4) = 0 → s.rd EN_STATUS.HALTED = 0 → 2 ≤ s.rd LP_STATUS.LEVEL → s.ready 0 = true →
          windowOf n = .hole → ∀ t : State, t = { u with lamp := { s.lamp with ack := 2, rdata := 2 }, sent := s.sent ++ [Emission.lamp (lampBits 2 2)] } →
          (c = 1 → exec (.peek q a) s = .next t) ∧ (c = 2 → exec (.consume q a) s = .next t) ∧ (c = 3 → exec (.lampWrite q.two q.bits a) s = .next t)) ∧
        (n % (if q.bits / 2 ^ 5 % 2 = 1 then 8 else 4) = 0 → s.rd EN_STATUS.HALTED = 0 → 2 ≤ s.rd LP_STATUS.LEVEL → s.ready 0 = true →
          windowOf n = .data → ∀ (z : Nat) (x y : Answer × State), z = (if q.bits / 2 ^ 5 % 2 = 1 then 8 else 4) →
          x = u.dataAccess 661 n z false (q.bits / 2 ^ 54 % 2 ^ (8 * z)) false a → y = u.dataAccess 661 n z true (q.bits / 2 ^ 54 % 2 ^ (8 * z)) false a →
          (c = 1 → exec (.peek q a) s = .next (x.2.lampEnd true z x.1.status x.1.data x.1.poison)) ∧
          (c = 2 → exec (.consume q a) s = .next (x.2.lampEnd true z x.1.status x.1.data x.1.poison)) ∧
          (c = 3 → exec (.lampWrite q.two q.bits a) s = .next (y.2.lampEnd false z y.1.status y.1.data y.1.poison))) ∧
        (n % (if q.bits / 2 ^ 5 % 2 = 1 then 8 else 4) = 0 → s.rd EN_STATUS.HALTED = 0 → 2 ≤ s.rd LP_STATUS.LEVEL → s.ready 0 = true →
          windowOf n = .register → ∀ z : Nat, z = (if q.bits / 2 ^ 5 % 2 = 1 then 8 else 4) →
          (c = 1 → exec (.peek q a) s = .next ((u.someTicks.regRead n z .lamp true).2.2.2.lampEnd true z (u.someTicks.regRead n z .lamp true).1
            (u.someTicks.regRead n z .lamp true).2.1 (u.someTicks.regRead n z .lamp true).2.2.1)) ∧
          (c = 2 → exec (.consume q a) s = .next ((u.someTicks.regRead n z .lamp false).2.2.2.lampEnd true z (u.someTicks.regRead n z .lamp false).1
            (u.someTicks.regRead n z .lamp false).2.1 (u.someTicks.regRead n z .lamp false).2.2.1)) ∧
          (c = 3 → exec (.lampWrite q.two q.bits a) s = .next ((u.someTicks.regWrite n z (q.bits / 2 ^ 54 % 2 ^ (8 * z)) .lamp false false).2.lampEnd false z
            (u.someTicks.regWrite n z (q.bits / 2 ^ 54 % 2 ^ (8 * z)) .lamp false false).1 0 false)))))) ∧
  (∀ (s d : State) (l : Nat), d = ((s.wr LP_STATUS.CHAL_VALID 0).wr LP_CHALLENGE.CHAL 0 0 0).wr LP_CHALLENGE.CHAL 0 0 1 →
    ((s.crypto.owner = none ∨ 2 < l ∨ l ≤ s.rd LP_STATUS.LEVEL ∨ s.rd LP_STATUS.MAX < l ∨ s.rd LP_STATUS.LOCKOUT = 1 ∨ 16 ≤ s.rd LP_STATUS.FAIL_COUNT ∨
      s.rd EN_STATUS.HALTED = 1) → exec (.get l) s = .next (s.wr LP_STATUS.UNLOCK_ERR 1)) ∧
    (s.crypto.owner ≠ none → l ≤ 2 → s.rd LP_STATUS.LEVEL < l → l ≤ s.rd LP_STATUS.MAX → s.rd LP_STATUS.LOCKOUT = 0 → s.rd LP_STATUS.FAIL_COUNT < 16 →
      s.rd EN_STATUS.HALTED = 0 → exec (.get l) s = .next { ((s.wr LP_CHALLENGE.CHAL (s.draw 64) 0 0).wr LP_CHALLENGE.CHAL (s.drawn.draw 64) 0 1).wr
        LP_STATUS.CHAL_VALID 1 with freeCount := s.freeCount + 2, lamp := { s.lamp with want := l } }) ∧
    (s.rd LP_STATUS.CHAL_VALID = 0 → exec .submit s = .next (s.wr LP_STATUS.UNLOCK_ERR 1) ∧ exec .challengeExpiry s = .next s) ∧
    (s.rd LP_STATUS.CHAL_VALID = 1 → exec .challengeExpiry s = .next d ∧ exec .submit s = (match s.crypto.owner with
      | none => .next (((d.wr LP_STATUS.FAIL_COUNT (min (s.rd LP_STATUS.FAIL_COUNT + 1) 255)).wr LP_STATUS.UNLOCK_ERR 1).wr LP_STATUS.LOCKOUT 1)
      | some k => if bytesOf 8 (s.lamp.resp.getD 0 0) ++ bytesOf 8 (s.lamp.resp.getD 1 0) = s.lampAnswer k then .next (d.wr LP_STATUS.LEVEL s.lamp.want)
        else .next (((d.wr LP_STATUS.FAIL_COUNT (min (s.rd LP_STATUS.FAIL_COUNT + 1) 255)).wr LP_STATUS.UNLOCK_ERR 1).wr LP_STATUS.LOCKOUT 1))) ∧
    exec .lock s = .next (s.wr LP_STATUS.LEVEL (s.rd LP_STATUS.DEFAULT)) ∧
    exec .lockoutEnd s = .next (s.wr LP_STATUS.LOCKOUT 0) ∧
    exec .lampBreak s = .next s ∧
    exec .lampClockTimeout s = .next s)

/-- STIM sends a packet of its port, width and data, or drops it (20 R519, R521; 16 R435); the funnel serves the FIFOs in turn, a SYNC and a LOST going
first; the buffer feeds the pins and the ring. A bank's VCCIO takes it through its states (21 R529), the enables give the management pins to their
blocks by priority (R536), a pin write checks its threshold (R533). A register access in its window reads or writes by the access types, in the half
it names; a Lamp port peek clears nothing (00 R6 to R11). -/
def Obligations.TracePinsRegs : Prop :=
  (∀ (s t : State) (e w k d p n : Nat) (v : TramView) (x : Engine) (f : List TracePkt), s.standsAt e w = true → v.fetchErrs = 0 → x = s.eng e →
    w / 2 ^ 26 = 3 → w % 64 = 8 → w &&& 0xFF00 = 0 → d = w / 2 ^ 21 % 32 → p = w / 2 ^ 16 % 32 → n = w / 64 % 4 → f = Tab.get [] s.trace.fifos e →
    t = s.tick k →
    ((n = 3 ∨ (n = 0 ∧ d ≠ 0) ∨ (n = 2 ∧ d % 2 = 1)) → exec (.stim e k v) s = .next (s.raiseExc e 1 0)) ∧
    (n ≠ 3 → (n = 0 → d = 0) → (n = 2 → d % 2 = 0) →
      ((s.rd TR_STIM.EN e).testBit p = false → exec (.stim e k v) s = .next (s.issued e x)) ∧
      ((s.rd TR_STIM.EN e).testBit p = true → s.rd LP_TRACE_CTRL.EN = 1 → f.length < 8 → exec (.stim e k v) s = .next (State.issued
        { t.wr LP_TRACE_STATUS.BUF_FILL s.trace.buffer.length with trace := { s.trace with fifos := Tab.set natLt [] s.trace.fifos e (f ++ [.stim e p n (t.nowNs % 2 ^ 48)
          (if n = 0 then 0 else if n = 1 then (x.rg d).toNat else x.storeData d 8)]) } } e x)) ∧
      ((s.rd TR_STIM.EN e).testBit p = true → (s.rd LP_TRACE_CTRL.EN = 0 ∨ 8 ≤ f.length) → exec (.stim e k v) s = .next (State.issued
        { (t.wr LP_TRACE_STATUS.BUF_FILL s.trace.buffer.length).wr TR_STIM.DROPS (satAdd TR_STIM.DROPS.wid (s.rd TR_STIM.DROPS e) 1) e with
          trace := { s.trace with lost := Tab.set natLt 0 s.trace.lost e (satAdd 64 (Tab.get 0 s.trace.lost e) 1) } } e x)))) ∧
  (∀ (s t : State) (k v : Nat), t = s.tick k →
    (∃ u : State, exec (.traceEnable v k) s = .next u ∧ u.rd LP_TRACE_CTRL.EN = v % 2 ∧ u.rd LP_TRACE_CTRL.PINS_EN = v / 2 % 2 ∧
      u.rd LP_TRACE_CTRL.RING_EN = v / 4 % 2 ∧ u.rd LP_TRACE_CTRL.STOP_ON_FULL = v / 8 % 2 ∧
      u.rd LP_TRACE_CTRL.TRC_MHZ = (if 50 ≤ v / 2 ^ 8 % 2 ^ 9 ∧ v / 2 ^ 8 % 2 ^ 9 ≤ 300 then v / 2 ^ 8 % 2 ^ 9 else s.rd LP_TRACE_CTRL.TRC_MHZ) ∧
      u.rd LP_TRACE_CTRL.SYNC_MS = max 1 (v / 2 ^ 24 % 2 ^ 8) ∧
      u.trace = (if v % 2 = 1 ∧ s.rd LP_TRACE_CTRL.EN = 0 then (if s.trace.buffer.length < 256 then { s.trace with
        buffer := s.trace.buffer ++ [.sync (s.rd WD_TALLY.TALLY % 2 ^ 48) t.nowNs], syncDue := false } else { s.trace with syncDue := true }) else s.trace) ∧
      s.regsKeptBut u [SC_COUNT.COUNT.key, LP_TRACE_CTRL.EN.key, LP_TRACE_CTRL.PINS_EN.key, LP_TRACE_CTRL.RING_EN.key, LP_TRACE_CTRL.STOP_ON_FULL.key,
        LP_TRACE_CTRL.TRC_MHZ.key, LP_TRACE_CTRL.SYNC_MS.key, LP_TRACE_STATUS.BUF_FILL.key] ∧
      { u with regs := s.regs, trace := s.trace } = s) ∧
    (s.rd LP_TRACE_CTRL.EN = 0 → exec (.traceSync k) s = .next t) ∧
    (s.rd LP_TRACE_CTRL.EN = 1 → s.trace.buffer.length < 256 → exec (.traceSync k) s = .next
      { t.wr LP_TRACE_STATUS.BUF_FILL (s.trace.buffer.length + 1) with trace := { s.trace with
        buffer := s.trace.buffer ++ [.sync (s.rd WD_TALLY.TALLY % 2 ^ 48) t.nowNs], syncDue := false } }) ∧
    (s.rd LP_TRACE_CTRL.EN = 1 → 256 ≤ s.trace.buffer.length → exec (.traceSync k) s = .next
      { t.wr LP_TRACE_STATUS.BUF_FILL s.trace.buffer.length with trace := { s.trace with syncDue := true } }) ∧
    (s.traceNext = none → exec (.traceFunnel k) s = .next t) ∧
    (∀ (e n : Nat) (p : TracePkt) (r l : List TracePkt), s.traceNext = some e → Tab.get [] s.trace.fifos e = p :: r → n = Tab.get 0 s.trace.lost e →
      l = (if s.trace.syncDue then [.sync (s.rd WD_TALLY.TALLY % 2 ^ 48) t.nowNs] else []) ++ (if n = 0 then [] else [.lost e p.time n]) ++ [p] →
      (256 < s.trace.buffer.length + l.length → exec (.traceFunnel k) s = .next t) ∧
      (s.trace.buffer.length + l.length ≤ 256 → exec (.traceFunnel k) s = .next
        { t.wr LP_TRACE_STATUS.BUF_FILL (s.trace.buffer.length + l.length) with trace := { s.trace with
          buffer := s.trace.buffer ++ l, syncDue := false, rr := e, lost := Tab.set natLt 0 s.trace.lost e 0, fifos := Tab.set natLt [] s.trace.fifos e r } }))) ∧
  (∀ s : State,
    (s.trace.buffer = [] → s.pinsRun = false → exec .traceBufferOutput s = .next s) ∧
    (s.trace.buffer = [] → s.pinsRun = true → exec .traceBufferOutput s = .next { s with sent := s.sent ++ [Emission.traceBytes (List.replicate 16 0xFF)] }) ∧
    ((s.trace.line = [] ∨ s.ringRuns = false) → exec .traceLineTimeout s = .next s) ∧
    (s.trace.line ≠ [] → s.ringRuns = true → exec .traceLineTimeout s = .next (State.ringLine
      { s.wr LP_TRACE_STATUS.BUF_FILL s.trace.buffer.length with trace := { s.trace with line := s.trace.line ++ List.replicate (4 - s.trace.line.length) .idle } })) ∧
    (∀ (p : TracePkt) (r : List TracePkt) (u : State), s.trace.buffer = p :: r →
      u = { s.wr LP_TRACE_STATUS.BUF_FILL r.length with trace := { s.trace with buffer := r } } →
      (s.pinsRun = false → s.ringRuns = false → exec .traceBufferOutput s = .next u) ∧
      (s.pinsRun = true → s.ringRuns = false → exec .traceBufferOutput s = .next { u with sent := s.sent ++ (match p with
        | .sync _ _ => [Emission.traceBytes (List.replicate 16 0xFF), Emission.traceBytes p.bytes]
        | _ => [Emission.traceBytes p.bytes]) }) ∧
      (s.pinsRun = false → s.ringRuns = true → s.rd LP_TRACE_STATUS.FULL = 0 → s.rd LP_TRACE_CTRL.STOP_ON_FULL = 0 → s.trace.line.length < 3 →
        exec .traceBufferOutput s = .next { u with trace := { s.trace with buffer := r, line := s.trace.line ++ [p] } }) ∧
      (s.pinsRun = false → s.ringRuns = true → s.rd LP_TRACE_STATUS.FULL = 0 → s.rd LP_TRACE_CTRL.STOP_ON_FULL = 0 → s.trace.line.length = 3 →
        exec .traceBufferOutput s = .next (State.ringLine { u with trace := { s.trace with buffer := r, line := s.trace.line ++ [p] } })))) ∧
  (∀ (s : State) (b j v : Nat), b < 17 →
    (s.rd IO_BANK_STATUS.STATE b ≠ 0 → exec (.vccioDetect b) s = .next s) ∧
    (s.rd IO_BANK_STATUS.STATE b = 0 → b < 16 → exec (.vccioDetect b) s = .next ((s.wr IO_BANK_STATUS.STATE 1 b).wr CK_RAIL_STATUS.BANK_GOOD
      (s.rd CK_RAIL_STATUS.BANK_GOOD ||| 2 ^ b))) ∧
    (s.rd IO_BANK_STATUS.STATE b = 0 → b = 16 → exec (.vccioDetect b) s = .next ((s.wr IO_BANK_STATUS.STATE 1 b).wr CK_RAIL_STATUS.MGMT_GOOD 1)) ∧
    (s.rd IO_BANK_STATUS.STATE b ≠ 1 → exec (.settlingEnd b) s = .next s) ∧
    (s.rd IO_BANK_STATUS.STATE b = 1 → b < 16 → exec (.settlingEnd b) s = .next ((s.wr IO_BANK_STATUS.STATE 2 b).bankSafe b)) ∧
    (s.rd IO_BANK_STATUS.STATE b = 1 → b = 16 → exec (.settlingEnd b) s = .next (s.wr IO_BANK_STATUS.STATE 2 b)) ∧
    (s.rd IO_BANK_STATUS.STATE b = 0 → exec (.vccioLoss b) s = .next s) ∧
    (s.rd IO_BANK_STATUS.STATE b = 2 → b < 16 → (s.rd CK_RAIL_STATUS.BANK_GOOD).testBit b = true → exec (.vccioLoss b) s = .next
      ((((s.wr IO_BANK_STATUS.DROPPED 1 b).wr IO_BANK_STATUS.STATE 0 b).wr CK_RAIL_STATUS.BANK_GOOD (s.rd CK_RAIL_STATUS.BANK_GOOD - 2 ^ b)).bankSafe b)) ∧
    (s.rd IO_BANK_STATUS.STATE b = 2 → b = 16 → exec (.vccioLoss b) s = .next
      (((s.wr IO_BANK_STATUS.DROPPED 1 b).wr IO_BANK_STATUS.STATE 0 b).wr CK_RAIL_STATUS.MGMT_GOOD 0)) ∧
    (s.rd IO_BANK_STATUS.STATE b = 1 → b = 16 → exec (.vccioLoss b) s = .next ((s.wr IO_BANK_STATUS.STATE 0 b).wr CK_RAIL_STATUS.MGMT_GOOD 0)) ∧
    (∃ t : State, exec (.mgEnWrite v) s = .next t ∧ t.rd IO_MG_EN.ALERT = v / 2 % 2 ∧ t.rd IO_MG_EN.I2C = v / 4 % 2 ∧ t.rd IO_MG_EN.ETH = v / 8 % 2 ∧
      t.rd IO_MG_EN.TIME = v / 16 % 2 ∧ t.rd IO_MG_EN.TIME_LOC = v / 32 % 2 ∧ t.rd IO_MG_EN.TRACE = v / 64 % 2 ∧ t.rd IO_MG_EN.TRACE_LOC = v / 128 % 2 ∧
      t.rd IO_MG_EN.AIN = v / 256 % 2 ∧
      t.rd IO_MG_STATUS.OWNED = 1 + v / 2 % 16 * 2 + (if v / 64 % 2 = 1 ∧ ¬(v / 128 % 2 = 1 ∧ v / 8 % 2 = 1) then 32 else 0) + v / 256 % 2 * 64 ∧
      t.rd IO_MG_STATUS.BLOCKED = (if v / 64 % 2 = 1 ∧ v / 128 % 2 = 1 ∧ v / 8 % 2 = 1 then 32 else 0) ∧
      (∀ p < 64, t.rd IO_MPIN.OWNER 0 p = t.mgOwner p)) ∧
    (j < (if b = 16 then 64 else 48) → (v / 32 % 4 = 3 ∨ (b = 16 ∧ v / 2 ^ 11 % 4 = 3)) → exec (.pinWrite b j v) s = .next (s.wr IO_BANK_STATUS.CFG_ERR 1 b)) ∧
    (j < 48 → b < 16 → v / 32 % 4 ≠ 3 → ∃ t : State, exec (.pinWrite b j v) s = .next t ∧ t.rd IO_PIN.PULL b j = v % 4 ∧ t.rd IO_PIN.DRIVE b j = v / 4 % 4 ∧
      t.rd IO_PIN.SLEW b j = v / 16 % 2 ∧ t.rd IO_PIN.THR b j = v / 32 % 4 ∧ t.rd IO_PIN.HYST b j = v / 128 % 2 ∧ t.rd IO_PIN.ANALOG b j = v / 256 % 2 ∧
      t.rd IO_PIN.SAFE b j = v / 512 % 4 ∧
      t.rd IO_BANK_STATUS.THR_MISMATCH b = (if (v / 32 % 4 = 1 ∧ s.rd IO_BANK_STATUS.CLASS b ≠ 2) ∨ (v / 32 % 4 = 2 ∧ s.rd IO_BANK_STATUS.CLASS b ≠ 0) then 1
        else s.rd IO_BANK_STATUS.THR_MISMATCH b) ∧
      (v / 256 % 2 = 1 → (t.pin b j).input = false) ∧ (v / 256 % 2 = 0 → t.pins = s.pins) ∧
      s.regsKeptBut t [IO_PIN.PULL.key b j, IO_PIN.DRIVE.key b j, IO_PIN.SLEW.key b j, IO_PIN.THR.key b j, IO_PIN.HYST.key b j, IO_PIN.ANALOG.key b j,
        IO_PIN.SAFE.key b j, IO_BANK_STATUS.THR_MISMATCH.key b] ∧ { t with regs := s.regs, pins := s.pins } = s) ∧
    (j < 64 → b = 16 → v / 32 % 4 ≠ 3 → v / 2 ^ 11 % 4 ≠ 3 → ∃ t : State, exec (.pinWrite b j v) s = .next t ∧ t.rd IO_MPIN.PULL 0 j = v % 4 ∧
      t.rd IO_MPIN.DRIVE 0 j = v / 4 % 4 ∧ t.rd IO_MPIN.SLEW 0 j = v / 16 % 2 ∧ t.rd IO_MPIN.THR 0 j = v / 32 % 4 ∧ t.rd IO_MPIN.HYST 0 j = v / 128 % 2 ∧
      t.rd IO_MPIN.ANALOG 0 j = v / 256 % 2 ∧ t.rd IO_MPIN.GPIO_OE 0 j = v / 512 % 2 ∧ t.rd IO_MPIN.GPIO_OUT 0 j = v / 1024 % 2 ∧
      t.rd IO_MPIN.ALT_IN 0 j = v / 2 ^ 11 % 4 ∧ t.pins = s.pins)) ∧
  (∀ (s t : State) (a z dt tag k i o : Nat) (m : Master) (pk ps po : Bool) (b : Block) (x : RegAt), t = s.tick k →
    ((windowOf a ≠ .register ∨ s.reaches a m = false) → exec (.registerRead a z m tag k pk) s = .next s ∧
      exec (.registerWrite a z dt m tag k ps po) s = .next s) ∧
    (windowOf a = .register → s.reaches a m = true → ((z ≠ 4 ∧ z ≠ 8) ∨ a % z ≠ 0) →
      exec (.registerRead a z m tag k pk) s = .next { t with sent := s.sent ++ [Emission.response (s.target a m) (masterNi m) tag 5 0 false] } ∧
      exec (.registerWrite a z dt m tag k false po) s = .next { t with sent := s.sent ++ [Emission.response (s.target a m) (masterNi m) tag 5 0 false] }) ∧
    (windowOf a = .register → s.reaches a m = true → (z = 4 ∨ z = 8) → a % z = 0 → blockAt a = none →
      exec (.registerRead a z m tag k pk) s = .next { t with sent := s.sent ++ [Emission.response (s.target a m) (masterNi m) tag 0 0 false] } ∧
      exec (.registerWrite a z dt m tag k false false) s = .next { t with sent := s.sent ++ [Emission.response (s.target a m) (masterNi m) tag 0 0 false] }) ∧
    (windowOf a = .register → s.reaches a m = true → (z = 4 ∨ z = 8) → a % z = 0 → blockAt a = some (b, i, o) → b ∉ [.qu, .sc, .tr, .trc, .cg, .fm] →
      regAt b i (o / 8 * 8) = some x → exec (.registerRead a z m tag k pk) s = .next
        (State.respond (if pk = true ∧ m = .lamp then t else t.clearRc x.row.fields (halfMask o z) x.unit x.idx) (s.target a m) (masterNi m) tag 0
          (halfRead o z (t.liveValue b x (t.readFields x.row.fields x.unit x.idx))) false false)) ∧
    (windowOf a = .register → s.reaches a m = true → (z = 4 ∨ z = 8) → a % z = 0 → blockAt a = some (b, i, o) → b ∉ [.qu, .tr, .trc, .cg, .lp] →
      regAt b i (o / 8 * 8) = some x →
        exec (.registerWrite a z dt m tag k ps false) s = .next ((t.putReg b x o z dt m).respond ((t.putReg b x o z dt m).target a m) (masterNi m) tag 0 0 false ps) ∧
        exec (.registerWrite a z dt m tag k ps true) s = .next (t.respond (s.target a m) (masterNi m) tag 1 0 false ps)) ∧
    (s.clk.stage = .running → s.clk.warmHold = false → m = .engine 0 0 → a = 0x010045800010 →
      exec (.registerRead a 8 m tag k pk) s = .next { ((t.wr BW_ERR.CRC_ERR 0).wr BW_ERR.RESENT 0).wr BW_ERR.HOP_DOWNS 0 with
        sent := s.sent ++ [Emission.response 661 653 tag 0 (s.rd BW_ERR.CRC_ERR + s.rd BW_ERR.RESENT * 2 ^ 16 + s.rd BW_ERR.HOP_DOWNS * 2 ^ 32) false] } ∧
      exec (.registerRead a 4 m tag k pk) s = .next { (t.wr BW_ERR.CRC_ERR 0).wr BW_ERR.RESENT 0 with
        sent := s.sent ++ [Emission.response 661 653 tag 0 (s.rd BW_ERR.CRC_ERR + s.rd BW_ERR.RESENT * 2 ^ 16) false] }) ∧
    (s.clk.stage = .running → s.clk.warmHold = false → m = .engine 0 0 → i < 16 → a = 0x010046080000 + i * 0x80000 →
      exec (.registerWrite a 8 dt m tag k false false) s = .next { ((t.wr IO_BANK_STATUS.CFG_ERR (s.rd IO_BANK_STATUS.CFG_ERR i * (1 - dt / 16 % 2)) i).wr
        IO_BANK_STATUS.DROPPED (s.rd IO_BANK_STATUS.DROPPED i * (1 - dt / 32 % 2)) i).wr
        IO_BANK_STATUS.THR_MISMATCH (s.rd IO_BANK_STATUS.THR_MISMATCH i * (1 - dt / 64 % 2)) i with
        sent := s.sent ++ [Emission.response 661 653 tag 0 0 false] }))
end

