-- ==== Sys2Proof/Laws/Exec.lean ====
section
/-! SUPPORT. Each command is its meaning: one equation per constructor, so that no proof unfolds the dispatch. -/

/-- The parts of a control block spell every block: no block is shut out of SYNC's form. -/
theorem Sys2Proof.XBlock.ofParts_parts (b : Sys2Proof.XBlock) :
    Sys2Proof.XBlock.ofParts b.cw (b.bits % 2) (b.bits / 2 % 2 ^ 8) (b.bits / 2 ^ 9 % 2 ^ 240) (b.bits / 2 ^ 249) = b := by
  have h : b.bits % 2 % 2 + b.bits / 2 % 2 ^ 8 % 2 ^ 8 * 2 + b.bits / 2 ^ 9 % 2 ^ 240 % 2 ^ 240 * 2 ^ 9
      + b.bits / 2 ^ 249 * 2 ^ 249 = b.bits := by omega
  simp only [Sys2Proof.XBlock.ofParts, h]

namespace Sys2Proof.Machine

variable (s : State)

@[simp] theorem exec_cold : exec (.cold) s = execCold s := rfl
@[simp] theorem exec_vccAonLoss : exec (.vccAonLoss) s = execVccAonLoss s := rfl
@[simp] theorem exec_refclkWindowEnd (ringCount : Nat) : exec (.refclkWindowEnd ringCount) s = execRefclkWindowEnd ringCount s := rfl
@[simp] theorem exec_refclkEdgeTimeout : exec (.refclkEdgeTimeout) s = execRefclkEdgeTimeout s := rfl
@[simp] theorem exec_rootLock : exec (.rootLock) s = execRootLock s := rfl
@[simp] theorem exec_lockTimeout : exec (.lockTimeout) s = execLockTimeout s := rfl
@[simp] theorem exec_aligned : exec (.aligned) s = execAligned s := rfl
@[simp] theorem exec_clockSwitchDone : exec (.clockSwitchDone) s = execClockSwitchDone s := rfl
@[simp] theorem exec_switchHang : exec (.switchHang) s = execSwitchHang s := rfl
@[simp] theorem exec_foremanResetRelease : exec (.foremanResetRelease) s = execForemanResetRelease s := rfl
@[simp] theorem exec_rootLost : exec (.rootLost) s = execRootLost s := rfl
@[simp] theorem exec_railLost (rail : Nat) : exec (.railLost rail) s = execRailLost rail s := rfl
@[simp] theorem exec_railGood : exec (.railGood) s = execRailGood s := rfl
@[simp] theorem exec_retry (byForeman : Bool) : exec (.retry byForeman) s = execRetry byForeman s := rfl
@[simp] theorem exec_phaseDivWrite (n : Nat) : exec (.phaseDivWrite n) s = execPhaseDivWrite n s := rfl
@[simp] theorem exec_phaseDivApply : exec (.phaseDivApply) s = execPhaseDivApply s := rfl
@[simp] theorem exec_clockGate (cls : Nat) (unit : Nat) : exec (.clockGate cls unit) s = execClockGate cls unit s := rfl
@[simp] theorem exec_perstAssert : exec (.perstAssert) s = execPerstAssert s := rfl
@[simp] theorem exec_warmReq (key : Nat) (req : Bool) : exec (.warmReq key req) s = execWarmReq key req s := rfl
@[simp] theorem exec_warmHoldEnd : exec (.warmHoldEnd) s = execWarmHoldEnd s := rfl
@[simp] theorem exec_stopeResetReq (stope : Nat) : exec (.stopeResetReq stope) s = execStopeResetReq stope s := rfl
@[simp] theorem exec_stopeResetLineHigh : exec (.stopeResetLineHigh) s = execStopeResetLineHigh s := rfl
@[simp] theorem exec_stopeResetEnd : exec (.stopeResetEnd) s = execStopeResetEnd s := rfl
@[simp] theorem exec_engineResetReq (engine : Nat) : exec (.engineResetReq engine) s = execEngineResetReq engine s := rfl
@[simp] theorem exec_engineResetDone : exec (.engineResetDone) s = execEngineResetDone s := rfl
@[simp] theorem exec_stopePowerDown (stope : Nat) : exec (.stopePowerDown stope) s = execStopePowerDown stope s := rfl
@[simp] theorem exec_stopePowerUp (stope : Nat) : exec (.stopePowerUp stope) s = execStopePowerUp stope s := rfl
@[simp] theorem exec_stopePowerUpDone (stope : Nat) : exec (.stopePowerUpDone stope) s = execStopePowerUpDone stope s := rfl
@[simp] theorem exec_crewPowerDown (crew : Nat) : exec (.crewPowerDown crew) s = execCrewPowerDown crew s := rfl
@[simp] theorem exec_crewPowerUp (crew : Nat) : exec (.crewPowerUp crew) s = execCrewPowerUp crew s := rfl
@[simp] theorem exec_crewPowerUpDone (crew : Nat) : exec (.crewPowerUpDone crew) s = execCrewPowerUpDone crew s := rfl
@[simp] theorem exec_strokeStart : exec (.strokeStart) s = execStrokeStart s := rfl
@[simp] theorem exec_activePhase : exec (.activePhase) s = execActivePhase s := rfl
@[simp] theorem exec_slotEnd : exec (.slotEnd) s = execSlotEnd s := rfl
@[simp] theorem exec_holdPhase : exec (.holdPhase) s = execHoldPhase s := rfl
@[simp] theorem exec_strokeBoundary : exec (.strokeBoundary) s = execStrokeBoundary s := rfl
@[simp] theorem exec_columnRepair (stope : Nat) (pos : Nat) : exec (.columnRepair stope pos) s = execColumnRepair stope pos s := rfl
@[simp] theorem exec_refillDone (stope : Nat) : exec (.refillDone stope) s = execRefillDone stope s := rfl
@[simp] theorem exec_refillShadowError (stope : Nat) : exec (.refillShadowError stope) s = execRefillShadowError stope s := rfl
@[simp] theorem exec_treeSrcWrite (stope : Nat) (src : Nat) : exec (.treeSrcWrite stope src) s = execTreeSrcWrite stope src s := rfl
@[simp] theorem exec_treeSwitchDone (stope : Nat) : exec (.treeSwitchDone stope) s = execTreeSwitchDone stope s := rfl
@[simp] theorem exec_treeSwitchHang (stope : Nat) : exec (.treeSwitchHang stope) s = execTreeSwitchHang stope s := rfl
@[simp] theorem exec_treeStep (stope : Nat) (go : Bool) : exec (.treeStep stope go) s = execTreeStep stope go s := rfl
@[simp] theorem exec_eccWriteback (stope : Nat) (mem : Nat) (unit : Nat) : exec (.eccWriteback stope mem unit) s = execEccWriteback stope mem unit s := rfl
@[simp] theorem exec_sweepStep (stope : Nat) : exec (.sweepStep stope) s = execSweepStep stope s := rfl
@[simp] theorem exec_copyStarved (stope : Nat) (mem : Nat) : exec (.copyStarved stope mem) s = execCopyStarved stope mem s := rfl
@[simp] theorem exec_memInjectArm (stope : Nat) (mem : Nat) (double : Bool) : exec (.memInjectArm stope mem double) s = execMemInjectArm stope mem double s := rfl
@[simp] theorem exec_binQueueMove (stope : Nat) (bin : Nat) : exec (.binQueueMove stope bin) s = execBinQueueMove stope bin s := rfl
@[simp] theorem exec_levelIrqResponse (stope : Nat) (bin : Nat) (error : Bool) : exec (.levelIrqResponse stope bin error) s = execLevelIrqResponse stope bin error s := rfl
@[simp] theorem exec_corerCopyUnit (stope : Nat) (mem : Nat) (error : Bool) : exec (.corerCopyUnit stope mem error) s = execCorerCopyUnit stope mem error s := rfl
@[simp] theorem exec_journalStore (stope : Nat) (mem : Nat) (error : Bool) : exec (.journalStore stope mem error) s = execJournalStore stope mem error s := rfl
@[simp] theorem exec_start (byForeman : Bool) : exec (.start byForeman) s = execStart byForeman s := rfl
@[simp] theorem exec_abort : exec (.abort) s = execAbort s := rfl
@[simp] theorem exec_extentPush (len : Nat) (space : Nat) (last : Bool) (byForeman : Bool) : exec (.extentPush len space last byForeman) s = execExtentPush len space last byForeman s := rfl
@[simp] theorem exec_extentReadData (data : List Nat) (error : Bool) : exec (.extentReadData data error) s = execExtentReadData data error s := rfl
@[simp] theorem exec_streamHeader (h : Staged) : exec (.streamHeader h) s = execStreamHeader h s := rfl
@[simp] theorem exec_segmentHeader (h : Staged) : exec (.segmentHeader h) s = execSegmentHeader h s := rfl
@[simp] theorem exec_segmentTagCheck (tag : Staged) : exec (.segmentTagCheck tag) s = execSegmentTagCheck tag s := rfl
@[simp] theorem exec_nop (h : Staged) : exec (.nop h) s = execNop h s := rfl
@[simp] theorem exec_write (h frames : Staged) : exec (.write h frames) s = execWrite h frames s := rfl
@[simp] theorem exec_meminit (h units : Staged) : exec (.meminit h units) s = execMeminit h units s := rfl
@[simp] theorem exec_ibeusEnd (h : Staged) : exec (.ibeusEnd h) s = execIbeusEnd h s := rfl
@[simp] theorem exec_frameWritten (seam : Nat) : exec (.frameWritten seam) s = execFrameWritten seam s := rfl
@[simp] theorem exec_shadowWriteAck (error : Bool) : exec (.shadowWriteAck error) s = execShadowWriteAck error s := rfl
@[simp] theorem exec_loadComplete : exec (.loadComplete) s = execLoadComplete s := rfl
@[simp] theorem exec_abortDone : exec (.abortDone) s = execAbortDone s := rfl
@[simp] theorem exec_loadDeadline : exec (.loadDeadline) s = execLoadDeadline s := rfl
@[simp] theorem exec_diagSectionCheck (good : Bool) (ofs : Nat) (len : Nat) : exec (.diagSectionCheck good ofs len) s = execDiagSectionCheck good ofs len s := rfl
@[simp] theorem exec_readback (seam : Nat) (faddr : Nat) : exec (.readback seam faddr) s = execReadback seam faddr s := rfl
@[simp] theorem exec_readbackDone (seam : Nat) : exec (.readbackDone seam) s = execReadbackDone seam s := rfl
@[simp] theorem exec_isolate (stope : Nat) (release : Bool) : exec (.isolate stope release) s = execIsolate stope release s := rfl
@[simp] theorem exec_release (stope : Nat) (isolate : Bool) : exec (.release stope isolate) s = execRelease stope isolate s := rfl
@[simp] theorem exec_isoEffect (stope : Nat) : exec (.isoEffect stope) s = execIsoEffect stope s := rfl
@[simp] theorem exec_stopePortResponse (stope : Nat) (tag : Nat) (status : Nat) (data : Nat) (poison : Bool) : exec (.stopePortResponse stope tag status data poison) s = execStopePortResponse stope tag status data poison s := rfl
@[simp] theorem exec_stopePortTargetAccess (a : GalAccess) : exec (.stopePortTargetAccess a) s = execStopePortTargetAccess a s := rfl
@[simp] theorem exec_scrubFrameRead (scrubber : Nat) (upsets : List (Nat × Nat)) (reread : Bool) (reject : Bool) : exec (.scrubFrameRead scrubber upsets reread reject) s = execScrubFrameRead scrubber upsets reread reject s := rfl
@[simp] theorem exec_shadowRepairRead (scrubber : Nat) (error : Bool) (reject : Bool) : exec (.shadowRepairRead scrubber error reject) s = execShadowRepairRead scrubber error reject s := rfl
@[simp] theorem exec_spoilClear (stope : Nat) : exec (.spoilClear stope) s = execSpoilClear stope s := rfl
@[simp] theorem exec_sbCtrlRefresh (scrubber : Nat) (seen : SbCopies) : exec (.sbCtrlRefresh scrubber seen) s = execSbCtrlRefresh scrubber seen s := rfl
@[simp] theorem exec_refreshLost (lost : SbLost) : exec (.refreshLost lost) s = execRefreshLost lost s := rfl
@[simp] theorem exec_peerFaultRestart (scrubber : Nat) : exec (.peerFaultRestart scrubber) s = execPeerFaultRestart scrubber s := rfl
@[simp] theorem exec_scrubEnable (scrubber : Nat) (value : Nat) : exec (.scrubEnable scrubber value) s = execScrubEnable scrubber value s := rfl
@[simp] theorem exec_scrubInject (scrubber : Nat) (value : Nat) : exec (.scrubInject scrubber value) s = execScrubInject scrubber value s := rfl
@[simp] theorem exec_run (arg : Nat) (stopes : Bool) (replayTrig : Bool) : exec (.run arg stopes replayTrig) s = execRun arg stopes replayTrig s := rfl
@[simp] theorem exec_stopAt (arg : Nat) (stopes : Bool) (replayTrig : Bool) : exec (.stopAt arg stopes replayTrig) s = execStopAt arg stopes replayTrig s := rfl
@[simp] theorem exec_step (arg : Nat) (stopes : Bool) (replayTrig : Bool) : exec (.step arg stopes replayTrig) s = execStep arg stopes replayTrig s := rfl
@[simp] theorem exec_sample (arg : Nat) (stopes : Bool) (replayTrig : Bool) : exec (.sample arg stopes replayTrig) s = execSample arg stopes replayTrig s := rfl
@[simp] theorem exec_backfill (arg : Nat) (stopes : Bool) (replayTrig : Bool) : exec (.backfill arg stopes replayTrig) s = execBackfill arg stopes replayTrig s := rfl
@[simp] theorem exec_rewind (arg : Nat) (stopes : Bool) (replayTrig : Bool) : exec (.rewind arg stopes replayTrig) s = execRewind arg stopes replayTrig s := rfl
@[simp] theorem exec_replay (arg : Nat) (stopes : Bool) (replayTrig : Bool) : exec (.replay arg stopes replayTrig) s = execReplay arg stopes replayTrig s := rfl
@[simp] theorem exec_groupStall : exec (.groupStall) s = execGroupStall s := rfl
@[simp] theorem exec_sampleCopyOut : exec (.sampleCopyOut) s = execSampleCopyOut s := rfl
@[simp] theorem exec_corerDrainFrame (seam : Nat) (uncorrectable : Bool) (storeError : Bool) : exec (.corerDrainFrame seam uncorrectable storeError) s = execCorerDrainFrame seam uncorrectable storeError s := rfl
@[simp] theorem exec_sampleComplete : exec (.sampleComplete) s = execSampleComplete s := rfl
@[simp] theorem exec_engLimitExpiry : exec (.engLimitExpiry) s = execEngLimitExpiry s := rfl
@[simp] theorem exec_engineAck (mask : Nat) : exec (.engineAck mask) s = execEngineAck mask s := rfl
@[simp] theorem exec_restoreDone (error : Bool) : exec (.restoreDone error) s = execRestoreDone error s := rfl
@[simp] theorem exec_stopeBackfillDone (seam : Nat) : exec (.stopeBackfillDone seam) s = execStopeBackfillDone seam s := rfl
@[simp] theorem exec_xcPortCtrlWrite (port : Nat) (value : Nat) : exec (.xcPortCtrlWrite port value) s = execXcPortCtrlWrite port value s := rfl
@[simp] theorem exec_lanePllLock (port : Nat) : exec (.lanePllLock port) s = execLanePllLock port s := rfl
@[simp] theorem exec_los (port : Nat) (lane : Nat) : exec (.los port lane) s = execLos port lane s := rfl
@[simp] theorem exec_cdrLock (port : Nat) (lane : Nat) : exec (.cdrLock port lane) s = execCdrLock port lane s := rfl
@[simp] theorem exec_cdrLockLost (port : Nat) (lane : Nat) : exec (.cdrLockLost port lane) s = execCdrLockLost port lane s := rfl
@[simp] theorem exec_fecCodeword (port lane : Nat) (early late check : List Nat) : exec (.fecCodeword port lane early late check) s = execFecCodeword port lane early late check s := rfl
@[simp] theorem exec_alignmentBlock (port : Nat) (lane : Nat) (b : AlignBlock) : exec (.alignmentBlock port lane b) s = execAlignmentBlock port lane b s := rfl
@[simp] theorem exec_slip (port : Nat) (lane : Nat) (bits : Nat) : exec (.slip port lane bits) s = execSlip port lane bits s := rfl
@[simp] theorem exec_txSleep (port : Nat) (lane : Nat) (v : Bool) : exec (.txSleep port lane v) s = execTxSleep port lane v s := rfl
@[simp] theorem exec_txSleepEntered (port : Nat) (lane : Nat) : exec (.txSleepEntered port lane) s = execTxSleepEntered port lane s := rfl
@[simp] theorem exec_txWakeDone (port : Nat) (lane : Nat) : exec (.txWakeDone port lane) s = execTxWakeDone port lane s := rfl
@[simp] theorem exec_rxSleep (port : Nat) (lane : Nat) (v : Bool) : exec (.rxSleep port lane v) s = execRxSleep port lane v s := rfl
@[simp] theorem exec_sleepBlock (at_ : LaneAt) (b : XBlock) : exec (.sleepBlock at_ b) s = execSleepBlock at_ b s := rfl
@[simp] theorem exec_testWrite (port : Nat) (lane : Nat) (value : Nat) : exec (.testWrite port lane value) s = execTestWrite port lane value s := rfl
@[simp] theorem exec_txeqWrite (port : Nat) (lane : Nat) (value : Nat) : exec (.txeqWrite port lane value) s = execTxeqWrite port lane value s := rfl
@[simp] theorem exec_eyeScanGo (port : Nat) (lane : Nat) (phase : Nat) (voff : Nat) (eye : Nat) (dwell : Nat) : exec (.eyeScanGo port lane phase voff eye dwell) s = execEyeScanGo port lane phase voff eye dwell s := rfl
@[simp] theorem exec_eyeScanDone (port : Nat) (lane : Nat) (errors : Nat) : exec (.eyeScanDone port lane errors) s = execEyeScanDone port lane errors s := rfl
@[simp] theorem exec_gate (port : Nat) (half : Nat) (v : Bool) : exec (.gate port half v) s = execGate port half v s := rfl
@[simp] theorem exec_streamMapWrite (port : Nat) (off : Nat) (value : Nat) : exec (.streamMapWrite port off value) s = execStreamMapWrite port off value s := rfl
@[simp] theorem exec_altWrite (port : Nat) (half : Nat) (v : Bool) : exec (.altWrite port half v) s = execAltWrite port half v s := rfl
@[simp] theorem exec_strokeFrame (port half : Nat) (header : XBlock) (data : List XBlock) : exec (.strokeFrame port half header data) s = execStrokeFrame port half header data s := rfl
@[simp] theorem exec_ack (at_ : LaneAt) (b : XBlock) : exec (.ack at_ b) s = execAck at_ b s := rfl
@[simp] theorem exec_nak (at_ : LaneAt) (b : XBlock) : exec (.nak at_ b) s = execNak at_ b s := rfl
@[simp] theorem exec_ackTimer (sub : Nat) : exec (.ackTimer sub) s = execAckTimer sub s := rfl
@[simp] theorem exec_resendTimeout (timer : RetryTimer) : exec (.resendTimeout timer) s = execResendTimeout timer s := rfl
@[simp] theorem exec_sync (port lane cw kind code fields ccrc : Nat) : exec (.sync port lane cw kind code fields ccrc) s = execSync port lane cw kind code fields ccrc s := rfl
@[simp] theorem exec_syncTimer (sub : Nat) : exec (.syncTimer sub) s = execSyncTimer sub s := rfl
@[simp] theorem exec_failover (port : Nat) (half : Nat) : exec (.failover port half) s = execFailover port half s := rfl
@[simp] theorem exec_perstRelease : exec (.perstRelease) s = execPerstRelease s := rfl
@[simp] theorem exec_configRequest (op : ConfigOp) : exec (.configRequest op) s = execConfigRequest op s := rfl
@[simp] theorem exec_baseTimeout : exec (.baseTimeout) s = execBaseTimeout s := rfl
@[simp] theorem exec_hostMemoryRequest (bar : Nat) (ofs : Nat) (len : Nat) (write : Bool) (data : List Nat) (poison : Bool) (answers : List Answer) : exec (.hostMemoryRequest bar ofs len write data poison answers) s = execHostMemoryRequest bar ofs len write data poison answers s := rfl
@[simp] theorem exec_linkDown : exec (.linkDown) s = execLinkDown s := rfl
@[simp] theorem exec_dmaTurn (corrected : Nat) (uncorrectable : Bool) : exec (.dmaTurn corrected uncorrectable) s = execDmaTurn corrected uncorrectable s := rfl
@[simp] theorem exec_dmaCompletion (queue : Nat) (status : Nat) (data : List Nat) (poison : Bool) : exec (.dmaCompletion queue status data poison) s = execDmaCompletion queue status data poison s := rfl
@[simp] theorem exec_queueEnable (queue : Nat) (value : Nat) : exec (.queueEnable queue value) s = execQueueEnable queue value s := rfl
@[simp] theorem exec_queueStop (queue : Nat) (value : Nat) : exec (.queueStop queue value) s = execQueueStop queue value s := rfl
@[simp] theorem exec_queueAbort (queue : Nat) (value : Nat) : exec (.queueAbort queue value) s = execQueueAbort queue value s := rfl
@[simp] theorem exec_quPush (queue : Nat) (m : Master) (size : Nat) (word : Nat) (tag : Nat) (posted : Bool) (poison : Bool) : exec (.quPush queue m size word tag posted poison) s = execQuPush queue m size word tag posted poison s := rfl
@[simp] theorem exec_quPushLast (queue : Nat) (m : Master) (size : Nat) (word : Nat) (tag : Nat) (posted : Bool) (poison : Bool) : exec (.quPushLast queue m size word tag posted poison) s = execQuPushLast queue m size word tag posted poison s := rfl
@[simp] theorem exec_quPop (queue : Nat) (m : Master) (size : Nat) (tag : Nat) (peek : Bool) : exec (.quPop queue m size tag peek) s = execQuPop queue m size tag peek s := rfl
@[simp] theorem exec_quDoorbell (queue : Nat) (len : Nat) : exec (.quDoorbell queue len) s = execQuDoorbell queue len s := rfl
@[simp] theorem exec_doorbellFlip (queue : Nat) (len : Nat) : exec (.doorbellFlip queue len) s = execDoorbellFlip queue len s := rfl
@[simp] theorem exec_bankSwap (queue : Nat) : exec (.bankSwap queue) s = execBankSwap queue s := rfl
@[simp] theorem exec_spillDone (queue : Nat) (error : Bool) : exec (.spillDone queue error) s = execSpillDone queue error s := rfl
@[simp] theorem exec_copyBackDone (queue : Nat) (error : Bool) : exec (.copyBackDone queue error) s = execCopyBackDone queue error s := rfl
@[simp] theorem exec_noticeWrite (queue : Nat) : exec (.noticeWrite queue) s = execNoticeWrite queue s := rfl
@[simp] theorem exec_coalesceTimer (queue : Nat) : exec (.coalesceTimer queue) s = execCoalesceTimer queue s := rfl
@[simp] theorem exec_msixGapEnd (vector : Nat) : exec (.msixGapEnd vector) s = execMsixGapEnd vector s := rfl
@[simp] theorem exec_msixUnmask (vector : Nat) : exec (.msixUnmask vector) s = execMsixUnmask vector s := rfl
@[simp] theorem exec_binLinkWrite (stope : Nat) (bin : Nat) (error : Bool) : exec (.binLinkWrite stope bin error) s = execBinLinkWrite stope bin error s := rfl
@[simp] theorem exec_galleryRequest (r : GalReq) : exec (.galleryRequest r) s = execGalleryRequest r s := rfl
@[simp] theorem exec_packetHop (index : Nat) (corrected : Nat) (upset : Nat) (headerUe : Bool) (dataUe : Bool) : exec (.packetHop index corrected upset headerUe dataUe) s = execPacketHop index corrected upset headerUe dataUe s := rfl
@[simp] theorem exec_galleryResponse (ni : Nat) (tag : Nat) (status : Nat) (data : Nat) (poison : Bool) : exec (.galleryResponse ni tag status data poison) s = execGalleryResponse ni tag status data poison s := rfl
@[simp] theorem exec_galleryTimeout (ni : Nat) (tag : Nat) : exec (.galleryTimeout ni tag) s = execGalleryTimeout ni tag s := rfl
@[simp] theorem exec_tagRelease (ni : Nat) (tag : Nat) : exec (.tagRelease ni tag) s = execTagRelease ni tag s := rfl
@[simp] theorem exec_routeWrite (ni : Nat) (dest : Nat) (value : Nat) : exec (.routeWrite ni dest value) s = execRouteWrite ni dest value s := rfl
@[simp] theorem exec_regulatorRefill (point : Nat) : exec (.regulatorRefill point) s = execRegulatorRefill point s := rfl
@[simp] theorem exec_agePromotion (index : Nat) : exec (.agePromotion index) s = execAgePromotion index s := rfl
@[simp] theorem exec_channelTrain (chan : Nat) (p : Population) : exec (.channelTrain chan p) s = execChannelTrain chan p s := rfl
@[simp] theorem exec_trainingDone (chan : Nat) (storedOk : Bool) (fullOk : Bool) (failStep : Nat) (ms : Nat) (repairs : List (Nat × Nat)) : exec (.trainingDone chan storedOk fullOk failStep ms repairs) s = execTrainingDone chan storedOk fullOk failStep ms repairs s := rfl
@[simp] theorem exec_area : exec (.area) s = execArea s := rfl
@[simp] theorem exec_replan : exec (.replan) s = execReplan s := rfl
@[simp] theorem exec_dramRead (r : DramReq) (v : DramView) : exec (.dramRead r v) s = execDramRead r v s := rfl
@[simp] theorem exec_dramWrite (r : DramReq) (v : DramView) : exec (.dramWrite r v) s = execDramWrite r v s := rfl
@[simp] theorem exec_wcTimeout (chan : Nat) (page : Nat) (v : DramView) : exec (.wcTimeout chan page v) s = execWcTimeout chan page v s := rfl
@[simp] theorem exec_refreshDue (chan : Nat) (rank : Nat) (busy : Bool) : exec (.refreshDue chan rank busy) s = execRefreshDue chan rank busy s := rfl
@[simp] theorem exec_dramWriteback (page : Nat) : exec (.dramWriteback page) s = execDramWriteback page s := rfl
@[simp] theorem exec_fillComplete (chan : Nat) (block : Nat) : exec (.fillComplete chan block) s = execFillComplete chan block s := rfl
@[simp] theorem exec_flipArm (chan : Nat) (value : Nat) : exec (.flipArm chan value) s = execFlipArm chan value s := rfl
@[simp] theorem exec_rangeEnable (key : Nat) : exec (.rangeEnable key) s = execRangeEnable key s := rfl
@[simp] theorem exec_rangeEnableDone (key : Nat) : exec (.rangeEnableDone key) s = execRangeEnableDone key s := rfl
@[simp] theorem exec_rangeRetire (key : Nat) : exec (.rangeRetire key) s = execRangeRetire key s := rfl
@[simp] theorem exec_rangeRetireDone (key : Nat) : exec (.rangeRetireDone key) s = execRangeRetireDone key s := rfl
@[simp] theorem exec_nodeFetchDone (v : DramView) : exec (.nodeFetchDone v) s = execNodeFetchDone v s := rfl
@[simp] theorem exec_add (engine : Nat) (v : TramView) : exec (.add engine v) s = execAdd engine v s := rfl
@[simp] theorem exec_sub (engine : Nat) (v : TramView) : exec (.sub engine v) s = execSub engine v s := rfl
@[simp] theorem exec_and (engine : Nat) (v : TramView) : exec (.and engine v) s = execAnd engine v s := rfl
@[simp] theorem exec_or (engine : Nat) (v : TramView) : exec (.or engine v) s = execOr engine v s := rfl
@[simp] theorem exec_xor (engine : Nat) (v : TramView) : exec (.xor engine v) s = execXor engine v s := rfl
@[simp] theorem exec_andn (engine : Nat) (v : TramView) : exec (.andn engine v) s = execAndn engine v s := rfl
@[simp] theorem exec_cmplt (engine : Nat) (v : TramView) : exec (.cmplt engine v) s = execCmplt engine v s := rfl
@[simp] theorem exec_cmpltu (engine : Nat) (v : TramView) : exec (.cmpltu engine v) s = execCmpltu engine v s := rfl
@[simp] theorem exec_shl (engine : Nat) (v : TramView) : exec (.shl engine v) s = execShl engine v s := rfl
@[simp] theorem exec_shr (engine : Nat) (v : TramView) : exec (.shr engine v) s = execShr engine v s := rfl
@[simp] theorem exec_sar (engine : Nat) (v : TramView) : exec (.sar engine v) s = execSar engine v s := rfl
@[simp] theorem exec_shli (engine : Nat) (v : TramView) : exec (.shli engine v) s = execShli engine v s := rfl
@[simp] theorem exec_shri (engine : Nat) (v : TramView) : exec (.shri engine v) s = execShri engine v s := rfl
@[simp] theorem exec_sari (engine : Nat) (v : TramView) : exec (.sari engine v) s = execSari engine v s := rfl
@[simp] theorem exec_mul (engine : Nat) (v : TramView) : exec (.mul engine v) s = execMul engine v s := rfl
@[simp] theorem exec_mulhs (engine : Nat) (v : TramView) : exec (.mulhs engine v) s = execMulhs engine v s := rfl
@[simp] theorem exec_mulhu (engine : Nat) (v : TramView) : exec (.mulhu engine v) s = execMulhu engine v s := rfl
@[simp] theorem exec_min (engine : Nat) (v : TramView) : exec (.min engine v) s = execMin engine v s := rfl
@[simp] theorem exec_max (engine : Nat) (v : TramView) : exec (.max engine v) s = execMax engine v s := rfl
@[simp] theorem exec_abs (engine : Nat) (v : TramView) : exec (.abs engine v) s = execAbs engine v s := rfl
@[simp] theorem exec_clz (engine : Nat) (v : TramView) : exec (.clz engine v) s = execClz engine v s := rfl
@[simp] theorem exec_jmp (engine : Nat) (v : TramView) : exec (.jmp engine v) s = execJmp engine v s := rfl
@[simp] theorem exec_callr (engine : Nat) (v : TramView) : exec (.callr engine v) s = execCallr engine v s := rfl
@[simp] theorem exec_addc (engine : Nat) (v : TramView) : exec (.addc engine v) s = execAddc engine v s := rfl
@[simp] theorem exec_cmpltc (engine : Nat) (v : TramView) : exec (.cmpltc engine v) s = execCmpltc engine v s := rfl
@[simp] theorem exec_cmpltuc (engine : Nat) (v : TramView) : exec (.cmpltuc engine v) s = execCmpltuc engine v s := rfl
@[simp] theorem exec_andc (engine : Nat) (v : TramView) : exec (.andc engine v) s = execAndc engine v s := rfl
@[simp] theorem exec_orc (engine : Nat) (v : TramView) : exec (.orc engine v) s = execOrc engine v s := rfl
@[simp] theorem exec_xorc (engine : Nat) (v : TramView) : exec (.xorc engine v) s = execXorc engine v s := rfl
@[simp] theorem exec_movh (engine : Nat) (v : TramView) : exec (.movh engine v) s = execMovh engine v s := rfl
@[simp] theorem exec_ldB (engine : Nat) (v : TramView) : exec (.ldB engine v) s = execLdB engine v s := rfl
@[simp] theorem exec_ldBu (engine : Nat) (v : TramView) : exec (.ldBu engine v) s = execLdBu engine v s := rfl
@[simp] theorem exec_ldH (engine : Nat) (v : TramView) : exec (.ldH engine v) s = execLdH engine v s := rfl
@[simp] theorem exec_ldHu (engine : Nat) (v : TramView) : exec (.ldHu engine v) s = execLdHu engine v s := rfl
@[simp] theorem exec_ldW (engine : Nat) (v : TramView) : exec (.ldW engine v) s = execLdW engine v s := rfl
@[simp] theorem exec_ldP (engine : Nat) (v : TramView) : exec (.ldP engine v) s = execLdP engine v s := rfl
@[simp] theorem exec_ldrW (engine : Nat) (v : TramView) : exec (.ldrW engine v) s = execLdrW engine v s := rfl
@[simp] theorem exec_ldrP (engine : Nat) (v : TramView) : exec (.ldrP engine v) s = execLdrP engine v s := rfl
@[simp] theorem exec_stB (engine : Nat) (v : TramView) : exec (.stB engine v) s = execStB engine v s := rfl
@[simp] theorem exec_stH (engine : Nat) (v : TramView) : exec (.stH engine v) s = execStH engine v s := rfl
@[simp] theorem exec_stW (engine : Nat) (v : TramView) : exec (.stW engine v) s = execStW engine v s := rfl
@[simp] theorem exec_stP (engine : Nat) (v : TramView) : exec (.stP engine v) s = execStP engine v s := rfl
@[simp] theorem exec_stsW (engine : Nat) (v : TramView) : exec (.stsW engine v) s = execStsW engine v s := rfl
@[simp] theorem exec_stsP (engine : Nat) (v : TramView) : exec (.stsP engine v) s = execStsP engine v s := rfl
@[simp] theorem exec_stcW (engine : Nat) (v : TramView) : exec (.stcW engine v) s = execStcW engine v s := rfl
@[simp] theorem exec_stcP (engine : Nat) (v : TramView) : exec (.stcP engine v) s = execStcP engine v s := rfl
@[simp] theorem exec_ldk (engine : Nat) (v : TramView) : exec (.ldk engine v) s = execLdk engine v s := rfl
@[simp] theorem exec_stk (engine : Nat) (v : TramView) : exec (.stk engine v) s = execStk engine v s := rfl
@[simp] theorem exec_brEq (engine : Nat) (v : TramView) : exec (.brEq engine v) s = execBrEq engine v s := rfl
@[simp] theorem exec_brNe (engine : Nat) (v : TramView) : exec (.brNe engine v) s = execBrNe engine v s := rfl
@[simp] theorem exec_brLt (engine : Nat) (v : TramView) : exec (.brLt engine v) s = execBrLt engine v s := rfl
@[simp] theorem exec_brGe (engine : Nat) (v : TramView) : exec (.brGe engine v) s = execBrGe engine v s := rfl
@[simp] theorem exec_brLtu (engine : Nat) (v : TramView) : exec (.brLtu engine v) s = execBrLtu engine v s := rfl
@[simp] theorem exec_brGeu (engine : Nat) (v : TramView) : exec (.brGeu engine v) s = execBrGeu engine v s := rfl
@[simp] theorem exec_go (engine : Nat) (v : TramView) : exec (.go engine v) s = execGo engine v s := rfl
@[simp] theorem exec_call (engine : Nat) (v : TramView) : exec (.call engine v) s = execCall engine v s := rfl
@[simp] theorem exec_rep (engine : Nat) (v : TramView) : exec (.rep engine v) s = execRep engine v s := rfl
@[simp] theorem exec_repr (engine : Nat) (v : TramView) : exec (.repr engine v) s = execRepr engine v s := rfl
@[simp] theorem exec_mac2 (engine : Nat) (v : TramView) : exec (.mac2 engine v) s = execMac2 engine v s := rfl
@[simp] theorem exec_msu2 (engine : Nat) (v : TramView) : exec (.msu2 engine v) s = execMsu2 engine v s := rfl
@[simp] theorem exec_macx (engine : Nat) (v : TramView) : exec (.macx engine v) s = execMacx engine v s := rfl
@[simp] theorem exec_mul2 (engine : Nat) (v : TramView) : exec (.mul2 engine v) s = execMul2 engine v s := rfl
@[simp] theorem exec_mac1 (engine : Nat) (v : TramView) : exec (.mac1 engine v) s = execMac1 engine v s := rfl
@[simp] theorem exec_macr (engine : Nat) (v : TramView) : exec (.macr engine v) s = execMacr engine v s := rfl
@[simp] theorem exec_mfa (engine : Nat) (v : TramView) : exec (.mfa engine v) s = execMfa engine v s := rfl
@[simp] theorem exec_mta (engine : Nat) (v : TramView) : exec (.mta engine v) s = execMta engine v s := rfl
@[simp] theorem exec_aclr (engine : Nat) (v : TramView) : exec (.aclr engine v) s = execAclr engine v s := rfl
@[simp] theorem exec_aadd (engine : Nat) (v : TramView) : exec (.aadd engine v) s = execAadd engine v s := rfl
@[simp] theorem exec_asr (engine : Nat) (v : TramView) : exec (.asr engine v) s = execAsr engine v s := rfl
@[simp] theorem exec_mfah (engine : Nat) (v : TramView) : exec (.mfah engine v) s = execMfah engine v s := rfl
@[simp] theorem exec_mtal (engine : Nat) (v : TramView) : exec (.mtal engine v) s = execMtal engine v s := rfl
@[simp] theorem exec_mtam (engine : Nat) (v : TramView) : exec (.mtam engine v) s = execMtam engine v s := rfl
@[simp] theorem exec_mtah (engine : Nat) (v : TramView) : exec (.mtah engine v) s = execMtah engine v s := rfl
@[simp] theorem exec_qpush (engine : Nat) (v : TramView) : exec (.qpush engine v) s = execQpush engine v s := rfl
@[simp] theorem exec_qpushl (engine : Nat) (v : TramView) : exec (.qpushl engine v) s = execQpushl engine v s := rfl
@[simp] theorem exec_qpop (engine : Nat) (v : TramView) : exec (.qpop engine v) s = execQpop engine v s := rfl
@[simp] theorem exec_qpoph (engine : Nat) (v : TramView) : exec (.qpoph engine v) s = execQpoph engine v s := rfl
@[simp] theorem exec_stim (engine : Nat) (ticks : Nat) (v : TramView) : exec (.stim engine ticks v) s = execStim engine ticks v s := rfl
@[simp] theorem exec_wait (engine : Nat) (v : TramView) : exec (.wait engine v) s = execWait engine v s := rfl
@[simp] theorem exec_ei (engine : Nat) (v : TramView) : exec (.ei engine v) s = execEi engine v s := rfl
@[simp] theorem exec_di (engine : Nat) (v : TramView) : exec (.di engine v) s = execDi engine v s := rfl
@[simp] theorem exec_retx (engine : Nat) (v : TramView) : exec (.retx engine v) s = execRetx engine v s := rfl
@[simp] theorem exec_retm (engine : Nat) (v : TramView) : exec (.retm engine v) s = execRetm engine v s := rfl
@[simp] theorem exec_break (engine : Nat) (v : TramView) : exec (.break engine v) s = execBreak engine v s := rfl
@[simp] theorem exec_trap (engine : Nat) (v : TramView) : exec (.trap engine v) s = execTrap engine v s := rfl
@[simp] theorem exec_rdc (engine : Nat) (cycles : Nat) (v : TramView) : exec (.rdc engine cycles v) s = execRdc engine cycles v s := rfl
@[simp] theorem exec_wrc (engine : Nat) (cycles : Nat) (v : TramView) : exec (.wrc engine cycles v) s = execWrc engine cycles v s := rfl
@[simp] theorem exec_rdk (engine : Nat) (v : TramView) : exec (.rdk engine v) s = execRdk engine v s := rfl
@[simp] theorem exec_wrk (engine : Nat) (v : TramView) : exec (.wrk engine v) s = execWrk engine v s := rfl
@[simp] theorem exec_interruptEntry (engine : Nat) : exec (.interruptEntry engine) s = execInterruptEntry engine s := rfl
@[simp] theorem exec_debugEntry (engine : Nat) : exec (.debugEntry engine) s = execDebugEntry engine s := rfl
@[simp] theorem exec_trStart (engine : Nat) (value : Nat) : exec (.trStart engine value) s = execTrStart engine value s := rfl
@[simp] theorem exec_trResume (engine : Nat) (value : Nat) : exec (.trResume engine value) s = execTrResume engine value s := rfl
@[simp] theorem exec_trHalt (engine : Nat) (value : Nat) : exec (.trHalt engine value) s = execTrHalt engine value s := rfl
@[simp] theorem exec_loaded (engine : Nat) (value : Nat) : exec (.loaded engine value) s = execLoaded engine value s := rfl
@[simp] theorem exec_haltReq (engine : Nat) (value : Nat) : exec (.haltReq engine value) s = execHaltReq engine value s := rfl
@[simp] theorem exec_watchdogExpiry (engine : Nat) : exec (.watchdogExpiry engine) s = execWatchdogExpiry engine s := rfl
@[simp] theorem exec_kick (engine : Nat) : exec (.kick engine) s = execKick engine s := rfl
@[simp] theorem exec_wdogWrite (engine : Nat) (value : Nat) : exec (.wdogWrite engine value) s = execWdogWrite engine value s := rfl
@[simp] theorem exec_hoistGo (crew : Nat) (channel : Nat) (value : Nat) : exec (.hoistGo crew channel value) s = execHoistGo crew channel value s := rfl
@[simp] theorem exec_hoistAbort (crew : Nat) (channel : Nat) (r : HoistEnd) : exec (.hoistAbort crew channel r) s = execHoistAbort crew channel r s := rfl
@[simp] theorem exec_hoistDone (crew : Nat) (channel : Nat) (r : HoistEnd) : exec (.hoistDone crew channel r) s = execHoistDone crew channel r s := rfl
@[simp] theorem exec_qnote (engine : Nat) (port : Nat) : exec (.qnote engine port) s = execQnote engine port s := rfl
@[simp] theorem exec_noticeResend (engine : Nat) : exec (.noticeResend engine) s = execNoticeResend engine s := rfl
@[simp] theorem exec_irqPost (engine : Nat) (value : Nat) (src : Nat) (tag : Nat) (posted : Bool) : exec (.irqPost engine value src tag posted) s = execIrqPost engine value src tag posted s := rfl
@[simp] theorem exec_postPop (engine : Nat) (size : Nat) (src : Nat) (tag : Nat) (peek : Bool) : exec (.postPop engine size src tag peek) s = execPostPop engine size src tag peek s := rfl
@[simp] theorem exec_cribWriteback (addr : Nat) : exec (.cribWriteback addr) s = execCribWriteback addr s := rfl
@[simp] theorem exec_cribGalleryAccess (a : GalAccess) (errs : Nat) (sameCycle : Bool) : exec (.cribGalleryAccess a errs sameCycle) s = execCribGalleryAccess a errs sameCycle s := rfl
@[simp] theorem exec_fwPrimary (v : ImageView) : exec (.fwPrimary v) s = execFwPrimary v s := rfl
@[simp] theorem exec_fwGolden (v : ImageView) : exec (.fwGolden v) s = execFwGolden v s := rfl
@[simp] theorem exec_base : exec (.base) s = execBase s := rfl
@[simp] theorem exec_fuse (ok : Bool) : exec (.fuse ok) s = execFuse ok s := rfl
@[simp] theorem exec_seamSelfTest (seam : Nat) (ok : Bool) : exec (.seamSelfTest seam ok) s = execSeamSelfTest seam ok s := rfl
@[simp] theorem exec_crewInit (crew : Nat) (ok : Bool) : exec (.crewInit crew ok) s = execCrewInit crew ok s := rfl
@[simp] theorem exec_xcCalibrate (good : Nat) : exec (.xcCalibrate good) s = execXcCalibrate good s := rfl
@[simp] theorem exec_shiftStart : exec (.shiftStart) s = execShiftStart s := rfl
@[simp] theorem exec_fabric : exec (.fabric) s = execFabric s := rfl
@[simp] theorem exec_record (ok : Bool) : exec (.record ok) s = execRecord ok s := rfl
@[simp] theorem exec_identify (len : Nat) (tag : Nat) : exec (.identify len tag) s = execIdentify len tag s := rfl
@[simp] theorem exec_readRecord (len : Nat) (tag : Nat) : exec (.readRecord len tag) s = execReadRecord len tag s := rfl
@[simp] theorem exec_clearRecord (len : Nat) (tag : Nat) : exec (.clearRecord len tag) s = execClearRecord len tag s := rfl
@[simp] theorem exec_keyLoad (len : Nat) (tag : Nat) : exec (.keyLoad len tag) s = execKeyLoad len tag s := rfl
@[simp] theorem exec_keyDraw (len : Nat) (tag : Nat) : exec (.keyDraw len tag) s = execKeyDraw len tag s := rfl
@[simp] theorem exec_keyClear (len : Nat) (tag : Nat) : exec (.keyClear len tag) s = execKeyClear len tag s := rfl
@[simp] theorem exec_flashUpdate (len tag : Nat) (header : List Nat) (hashes : List Nat × List Nat) (programOk : Bool) : exec (.flashUpdate len tag header hashes programOk) s = execFlashUpdate len tag header hashes programOk s := rfl
@[simp] theorem exec_remapAdd (len : Nat) (tag : Nat) : exec (.remapAdd len tag) s = execRemapAdd len tag s := rfl
@[simp] theorem exec_readLog (len : Nat) (tag : Nat) : exec (.readLog len tag) s = execReadLog len tag s := rfl
@[simp] theorem exec_echo (len : Nat) (tag : Nat) : exec (.echo len tag) s = execEcho len tag s := rfl
@[simp] theorem exec_sensorSample (temps : List Nat) (rails : List Nat) (ains : List Nat) : exec (.sensorSample temps rails ains) s = execSensorSample temps rails ains s := rfl
@[simp] theorem exec_currentMonitorRead (monitor : Nat) (raw : Option Nat) : exec (.currentMonitorRead monitor raw) s = execCurrentMonitorRead monitor raw s := rfl
@[simp] theorem exec_logEntry (time : Nat) : exec (.logEntry time) s = execLogEntry time s := rfl
@[simp] theorem exec_logFlashMirror (seq : Nat) : exec (.logFlashMirror seq) s = execLogFlashMirror seq s := rfl
@[simp] theorem exec_loadDeadlineWrite (ms : Nat) (elapsed : Nat) : exec (.loadDeadlineWrite ms elapsed) s = execLoadDeadlineWrite ms elapsed s := rfl
@[simp] theorem exec_enum (addr : Nat) : exec (.enum addr) s = execEnum addr s := rfl
@[simp] theorem exec_enumDone (parts : Nat) : exec (.enumDone parts) s = execEnumDone parts s := rfl
@[simp] theorem exec_linkChange (part : Nat) : exec (.linkChange part) s = execLinkChange part s := rfl
@[simp] theorem exec_announce (msg : MsgFrom) (group size : Nat) (leadEn join : Bool) : exec (.announce msg group size leadEn join) s = execAnnounce msg group size leadEn join s := rfl
@[simp] theorem exec_stateReq (msg : MsgRoute) : exec (.stateReq msg) s = execStateReq msg s := rfl
@[simp] theorem exec_state (msg : MsgRoute) (tally st : Nat) (valid : Bool) (f k div nmin crc : Nat) (holds : MemberHold) : exec (.state msg tally st valid f k div nmin crc holds) s = execState msg tally st valid f k div nmin crc holds s := rfl
@[simp] theorem exec_grant (msg : MsgFrom) (h : Nat) : exec (.grant msg h) s = execGrant msg h s := rfl
@[simp] theorem exec_event (msg : MsgFrom) (e kind slot cause : Nat) : exec (.event msg e kind slot cause) s = execEvent msg e kind slot cause s := rfl
@[simp] theorem exec_eventAck (msg : MsgRoute) (e kind : Nat) : exec (.eventAck msg e kind) s = execEventAck msg e kind s := rfl
@[simp] theorem exec_report (msg : MsgRoute) (value kind slot : Nat) : exec (.report msg value kind slot) s = execReport msg value kind slot s := rfl
@[simp] theorem exec_cmd (msg : MsgFrom) (arg op : Nat) (trig : Bool) : exec (.cmd msg arg op trig) s = execCmd msg arg op trig s := rfl
@[simp] theorem exec_cmdDone (msg : MsgRoute) (result : Nat) : exec (.cmdDone msg result) s = execCmdDone msg result s := rfl
@[simp] theorem exec_messageResend (crcFailed : Bool) : exec (.messageResend crcFailed) s = execMessageResend crcFailed s := rfl
@[simp] theorem exec_hopStateChange (down : Bool) (v : Bool) : exec (.hopStateChange down v) s = execHopStateChange down v s := rfl
@[simp] theorem exec_headTimeout : exec (.headTimeout) s = execHeadTimeout s := rfl
@[simp] theorem exec_enumTimer : exec (.enumTimer) s = execEnumTimer s := rfl
@[simp] theorem exec_enumRequest : exec (.enumRequest) s = execEnumRequest s := rfl
@[simp] theorem exec_announceTimer : exec (.announceTimer) s = execAnnounceTimer s := rfl
@[simp] theorem exec_time (m : TimeMsg) (ticks : Nat) (residence : Nat) : exec (.time m ticks residence) s = execTime m ticks residence s := rfl
@[simp] theorem exec_timeSend (ticks : Nat) : exec (.timeSend ticks) s = execTimeSend ticks s := rfl
@[simp] theorem exec_ptpSync (offset16 : Int) (ticks : Nat) : exec (.ptpSync offset16 ticks) s = execPtpSync offset16 ticks s := rfl
@[simp] theorem exec_incWrite (v : Nat) (foreman : Bool) (ticks : Nat) : exec (.incWrite v foreman ticks) s = execIncWrite v foreman ticks s := rfl
@[simp] theorem exec_timeStep (v : Nat) (half : Nat) (foreman : Bool) (ticks : Nat) : exec (.timeStep v half foreman ticks) s = execTimeStep v half foreman ticks s := rfl
@[simp] theorem exec_timeSrcWrite (src : Nat) : exec (.timeSrcWrite src) s = execTimeSrcWrite src s := rfl
@[simp] theorem exec_timeRead (time : Bool) (src : Nat) (tag : Nat) (ticks : Nat) : exec (.timeRead time src tag ticks) s = execTimeRead time src tag ticks s := rfl
@[simp] theorem exec_masterLoss : exec (.masterLoss) s = execMasterLoss s := rfl
@[simp] theorem exec_capture (input : Nat) (ticks : Nat) : exec (.capture input ticks) s = execCapture input ticks s := rfl
@[simp] theorem exec_compareWindow (unit : Nat) (ticks : Nat) : exec (.compareWindow unit ticks) s = execCompareWindow unit ticks s := rfl
@[simp] theorem exec_peek (q : LampReq) (a : Answer) : exec (.peek q a) s = execPeek q a s := rfl
@[simp] theorem exec_consume (q : LampReq) (a : Answer) : exec (.consume q a) s = execConsume q a s := rfl
@[simp] theorem exec_lampWrite (two : Bool) (bits : Nat) (a : Answer) : exec (.lampWrite two bits a) s = execLampWrite two bits a s := rfl
@[simp] theorem exec_lampRepeat (two : Bool) (bits : Nat) : exec (.lampRepeat two bits) s = execLampRepeat two bits s := rfl
@[simp] theorem exec_lampBreak : exec (.lampBreak) s = execLampBreak s := rfl
@[simp] theorem exec_lampReset (low : Bool) : exec (.lampReset low) s = execLampReset low s := rfl
@[simp] theorem exec_lampClockTimeout : exec (.lampClockTimeout) s = execLampClockTimeout s := rfl
@[simp] theorem exec_get (level : Nat) : exec (.get level) s = execGet level s := rfl
@[simp] theorem exec_submit : exec (.submit) s = execSubmit s := rfl
@[simp] theorem exec_lock : exec (.lock) s = execLock s := rfl
@[simp] theorem exec_challengeExpiry : exec (.challengeExpiry) s = execChallengeExpiry s := rfl
@[simp] theorem exec_lockoutEnd : exec (.lockoutEnd) s = execLockoutEnd s := rfl
@[simp] theorem exec_traceEnable (v : Nat) (ticks : Nat) : exec (.traceEnable v ticks) s = execTraceEnable v ticks s := rfl
@[simp] theorem exec_traceSync (ticks : Nat) : exec (.traceSync ticks) s = execTraceSync ticks s := rfl
@[simp] theorem exec_traceLineTimeout : exec (.traceLineTimeout) s = execTraceLineTimeout s := rfl
@[simp] theorem exec_vccioDetect (bank : Nat) : exec (.vccioDetect bank) s = execVccioDetect bank s := rfl
@[simp] theorem exec_settlingEnd (bank : Nat) : exec (.settlingEnd bank) s = execSettlingEnd bank s := rfl
@[simp] theorem exec_vccioLoss (bank : Nat) : exec (.vccioLoss bank) s = execVccioLoss bank s := rfl
@[simp] theorem exec_mgEnWrite (v : Nat) : exec (.mgEnWrite v) s = execMgEnWrite v s := rfl
@[simp] theorem exec_pinWrite (bank : Nat) (pin : Nat) (v : Nat) : exec (.pinWrite bank pin v) s = execPinWrite bank pin v s := rfl
@[simp] theorem exec_registerWrite (addr : Nat) (size : Nat) (data : Nat) (m : Master) (tag : Nat) (ticks : Nat) (posted : Bool) (poison : Bool) : exec (.registerWrite addr size data m tag ticks posted poison) s = execRegisterWrite addr size data m tag ticks posted poison s := rfl
@[simp] theorem exec_registerRead (addr : Nat) (size : Nat) (m : Master) (tag : Nat) (ticks : Nat) (peek : Bool) : exec (.registerRead addr size m tag ticks peek) s = execRegisterRead addr size m tag ticks peek s := rfl
@[simp] theorem exec_dataLinkUp (speed : Nat) (width : Nat) (flit : Bool) : exec (.dataLinkUp speed width flit) s = execDataLinkUp speed width flit s := rfl
@[simp] theorem exec_stopePowerDownDone (stope : Nat) : exec (.stopePowerDownDone stope) s = execStopePowerDownDone stope s := rfl
@[simp] theorem exec_crewPowerDownDone (crew : Nat) : exec (.crewPowerDownDone crew) s = execCrewPowerDownDone crew s := rfl
@[simp] theorem exec_mbDone : exec (.mbDone) s = execMbDone s := rfl
@[simp] theorem exec_traceFunnel (ticks : Nat) : exec (.traceFunnel ticks) s = execTraceFunnel ticks s := rfl
@[simp] theorem exec_traceBufferOutput : exec (.traceBufferOutput) s = execTraceBufferOutput s := rfl
@[simp] theorem exec_dimmThermalSensor (chan : Nat) (hot : Bool) : exec (.dimmThermalSensor chan hot) s = execDimmThermalSensor chan hot s := rfl
@[simp] theorem exec_illegalInstruction (engine : Nat) (v : TramView) : exec (.illegalInstruction engine v) s = execIllegalInstruction engine v s := rfl

end Sys2Proof.Machine
end

