-- ==== Sys2Proof/Laws/Tab.lean ====
section
/-! SUPPORT. The laws of sparse tables: reading after writing, and that writing and filtering keep the canonical form. -/

namespace Sys2Proof.Machine

variable {κ α : Type}

section Read

variable [DecidableEq κ]

/-- An order of keys: transitive, total, irreflexive. -/
structure KeyOrder (lt : κ → κ → Bool) : Prop where
  trans : ∀ a b c, lt a b = true → lt b c = true → lt a c = true
  total : ∀ a b, a ≠ b → lt a b = true ∨ lt b a = true
  irrefl : ∀ a, lt a a = false

theorem natLt_order : KeyOrder natLt where
  trans a b c h1 h2 := by simp only [natLt, Nat.blt_eq] at *; omega
  total a b h := by simp only [natLt, Nat.blt_eq]; omega
  irrefl a := by rw [natLt, Bool.eq_false_iff, ne_eq, Nat.blt_eq]; omega

/-- The order of keys in words. -/
theorem Key.lt_iff (a b : Key) : Key.lt a b = true ↔
    a.id < b.id ∨ (a.id = b.id ∧ (a.unit < b.unit ∨ (a.unit = b.unit ∧ a.idx < b.idx))) := by
  simp only [Key.lt]
  split
  · split
    · simp only [Nat.blt_eq]; omega
    · simp only [Nat.blt_eq]; omega
  · simp only [Nat.blt_eq]; omega

theorem keyLt_order : KeyOrder Key.lt where
  trans a b c h1 h2 := by rw [Key.lt_iff] at *; omega
  total a b h := by
    rw [Key.lt_iff, Key.lt_iff]
    have : ¬(a.id = b.id ∧ a.unit = b.unit ∧ a.idx = b.idx) := by
      rintro ⟨h1, h2, h3⟩
      exact h (by cases a; cases b; simp_all)
    omega
  irrefl a := by rw [Bool.eq_false_iff, ne_eq, Key.lt_iff]; omega

@[simp] theorem Tab.get_nil (d : α) (k : κ) : Tab.get d [] k = d := rfl

theorem Tab.get_erase_same (d : α) (t : List (κ × α)) (k : κ) : Tab.get d (Tab.erase t k) k = d := by
  induction t with
  | nil => rfl
  | cons p r ih =>
    simp only [Tab.erase, List.filter_cons]
    split
    · rename_i h
      simp only [decide_eq_true_eq] at h
      simp only [Tab.get, if_neg h]
      exact ih
    · exact ih

theorem Tab.get_erase_ne (d : α) (t : List (κ × α)) {k k' : κ} (h : k' ≠ k) : Tab.get d (Tab.erase t k) k' = Tab.get d t k' := by
  induction t with
  | nil => rfl
  | cons p r ih =>
    simp only [Tab.erase, List.filter_cons]
    split
    · simp only [Tab.get]; split
      · rfl
      · exact ih
    · rename_i hk
      simp only [decide_not, Bool.not_eq_eq_eq_not, Bool.not_true, decide_eq_false_iff_not, not_not] at hk
      simp only [Tab.get, hk, if_neg (Ne.symm h)]
      exact ih

theorem Tab.get_insert_same (lt : κ → κ → Bool) (d : α) (t : List (κ × α)) (k : κ) (v : α)
    (hf : ∀ p ∈ t, p.1 ≠ k) : Tab.get d (Tab.insert lt t k v) k = v := by
  induction t with
  | nil => simp [Tab.insert, Tab.get]
  | cons p r ih =>
    simp only [Tab.insert]
    split
    · simp [Tab.get]
    · simp only [Tab.get, if_neg (hf p (by simp))]
      exact ih (fun q hq => hf q (by simp [hq]))

theorem Tab.get_insert_ne (lt : κ → κ → Bool) (d : α) (t : List (κ × α)) {k k' : κ} (v : α) (h : k' ≠ k) :
    Tab.get d (Tab.insert lt t k v) k' = Tab.get d t k' := by
  induction t with
  | nil => simp [Tab.insert, Tab.get, Ne.symm h]
  | cons p r ih =>
    simp only [Tab.insert]
    split
    · simp [Tab.get, Ne.symm h]
    · simp only [Tab.get]; split
      · rfl
      · exact ih

theorem Tab.erase_absent (t : List (κ × α)) (k : κ) : ∀ p ∈ Tab.erase t k, p.1 ≠ k := by
  intro p hp
  simp [Tab.erase] at hp
  exact hp.2

/-- A key reads what was written to it. -/
theorem Tab.get_set_same [DecidableEq α] (lt : κ → κ → Bool) (d : α) (t : List (κ × α)) (k : κ) (v : α) :
    Tab.get d (Tab.set lt d t k v) k = v := by
  simp only [Tab.set]
  split
  · rename_i h; rw [Tab.get_erase_same, h]
  · exact Tab.get_insert_same lt d _ k v (Tab.erase_absent t k)

/-- Every other key reads what it read before, whatever default it is read with. -/
theorem Tab.get_set_ne [DecidableEq α] (lt : κ → κ → Bool) (d e : α) (t : List (κ × α)) {k k' : κ} (v : α) (h : k' ≠ k) :
    Tab.get e (Tab.set lt d t k v) k' = Tab.get e t k' := by
  simp only [Tab.set]
  split
  · exact Tab.get_erase_ne e t h
  · rw [Tab.get_insert_ne lt e _ v h, Tab.get_erase_ne e t h]

end Read

/-! ### The canonical form -/

/-- The keys rise: each key is below every later one. -/
theorem Tab.rising_iff {lt : κ → κ → Bool} (o : KeyOrder lt) (t : List (κ × α)) :
    Tab.rising lt t = true ↔ t.Pairwise (fun a b => lt a.1 b.1 = true) := by
  induction t with
  | nil => simp [Tab.rising]
  | cons a r ih =>
    cases r with
    | nil => simp [Tab.rising]
    | cons b r =>
      rw [List.pairwise_cons, ← ih]
      simp only [Tab.rising, Bool.and_eq_true]
      constructor
      · rintro ⟨hab, hr⟩
        refine ⟨fun c hc => ?_, hr⟩
        rcases List.mem_cons.1 hc with rfl | hc
        · exact hab
        · exact o.trans _ _ _ hab ((List.pairwise_cons.1 (ih.1 hr)).1 c hc)
      · rintro ⟨h, hr⟩
        exact ⟨h b (by simp), hr⟩

theorem Tab.rising_filter {lt : κ → κ → Bool} (o : KeyOrder lt) {t : List (κ × α)} (f : κ × α → Bool)
    (h : Tab.rising lt t = true) : Tab.rising lt (t.filter f) = true :=
  (Tab.rising_iff o _).2 (((Tab.rising_iff o _).1 h).filter f)

theorem Tab.rising_insert {lt : κ → κ → Bool} (o : KeyOrder lt) {t : List (κ × α)} (k : κ) (v : α)
    (h : Tab.rising lt t = true) (hf : ∀ p ∈ t, p.1 ≠ k) : Tab.rising lt (Tab.insert lt t k v) = true := by
  rw [Tab.rising_iff o] at *
  induction t with
  | nil => simp [Tab.insert]
  | cons a r ih =>
    obtain ⟨ha, hr⟩ := List.pairwise_cons.1 h
    simp only [Tab.insert]
    split
    · rename_i hk
      refine List.pairwise_cons.2 ⟨fun c hc => ?_, h⟩
      rcases List.mem_cons.1 hc with rfl | hc
      · exact hk
      · exact o.trans _ _ _ hk (ha c hc)
    · rename_i hk
      have hak : lt a.1 k = true := (o.total a.1 k (hf a (by simp))).resolve_right (by simpa using hk)
      refine List.pairwise_cons.2 ⟨fun c hc => ?_, ih hr (fun p hp => hf p (by simp [hp]))⟩
      have hmem : c = (k, v) ∨ c ∈ r := by
        clear ih ha hr h hf hak
        induction r with
        | nil => simpa [Tab.insert] using hc
        | cons b r ih2 =>
          simp only [Tab.insert] at hc
          split at hc
          · simpa using hc
          · rcases List.mem_cons.1 hc with rfl | hc
            · simp
            · rcases ih2 hc with h | h
              · exact Or.inl h
              · exact Or.inr (by simp [h])
      rcases hmem with rfl | hc
      · exact hak
      · exact ha c hc

/-- A write keeps the keys rising. -/
theorem Tab.rising_set [DecidableEq κ] [DecidableEq α] {lt : κ → κ → Bool} (o : KeyOrder lt) (d : α) {t : List (κ × α)} (k : κ) (v : α)
    (h : Tab.rising lt t = true) : Tab.rising lt (Tab.set lt d t k v) = true := by
  simp only [Tab.set, Tab.erase]
  split
  · exact Tab.rising_filter o _ h
  · exact Tab.rising_insert o k v (Tab.rising_filter o _ h) (Tab.erase_absent t k)

theorem Tab.mem_insert (lt : κ → κ → Bool) (t : List (κ × α)) (k : κ) (v : α) {p : κ × α}
    (h : p ∈ Tab.insert lt t k v) : p = (k, v) ∨ p ∈ t := by
  induction t with
  | nil => simpa [Tab.insert] using h
  | cons b r ih =>
    simp only [Tab.insert] at h
    split at h
    · simpa using h
    · rcases List.mem_cons.1 h with rfl | h
      · simp
      · rcases ih h with h | h
        · exact Or.inl h
        · exact Or.inr (by simp [h])

/-- A write keeps the canonical form. -/
theorem Tab.wf_set [DecidableEq κ] [DecidableEq α] {lt : κ → κ → Bool} (o : KeyOrder lt) (d : α) {t : List (κ × α)} (k : κ) (v : α)
    (h : Tab.wf lt d t = true) : Tab.wf lt d (Tab.set lt d t k v) = true := by
  simp only [Tab.wf, Bool.and_eq_true, List.all_eq_true, decide_eq_true_eq] at *
  refine ⟨Tab.rising_set o d k v h.1, fun p hp => ?_⟩
  simp only [Tab.set] at hp
  split at hp
  · exact h.2 p (List.mem_of_mem_filter hp)
  · rename_i hv
    rcases Tab.mem_insert lt _ k v hp with rfl | hp
    · exact hv
    · exact h.2 p (List.mem_of_mem_filter hp)

theorem Tab.wf_filter [DecidableEq α] {lt : κ → κ → Bool} (o : KeyOrder lt) {d : α} {t : List (κ × α)} (f : κ × α → Bool)
    (h : Tab.wf lt d t = true) : Tab.wf lt d (t.filter f) = true := by
  simp only [Tab.wf, Bool.and_eq_true, List.all_eq_true, decide_eq_true_eq] at *
  exact ⟨Tab.rising_filter o f h.1, fun p hp => h.2 p (List.mem_of_mem_filter hp)⟩

/-- A filter that keeps every entry of a key keeps its value. -/
theorem Tab.get_filter {κ α : Type} [DecidableEq κ] {d : α} {t : List (κ × α)} {k : κ} (f : κ × α → Bool)
    (h : ∀ v, f (k, v) = true) : Tab.get d (t.filter f) k = Tab.get d t k := by
  induction t with
  | nil => rfl
  | cons p r ih =>
    obtain ⟨a, v⟩ := p
    by_cases e : a = k
    · subst e
      simp [List.filter_cons, h, Tab.get]
    · rw [List.filter_cons]
      split <;> simp [Tab.get, e, ih]

end Sys2Proof.Machine
end

