-- ==== Sys2Proof/Laws/State.lean ====
section
/-! SUPPORT. What each small update of State changes and leaves, one lemma per field; reading a register field after a
write. -/

namespace Sys2Proof.Machine

variable (s : State)

@[simp] theorem State.wr_mem (f : Fld) (v u j : Nat) : (s.wr f v u j).mem = s.mem := rfl
@[simp] theorem State.wr_fabMem (f : Fld) (v u j : Nat) : (s.wr f v u j).fabMem = s.fabMem := rfl
@[simp] theorem State.wr_fabErr (f : Fld) (v u j : Nat) : (s.wr f v u j).fabErr = s.fabErr := rfl
@[simp] theorem State.wr_clk (f : Fld) (v u j : Nat) : (s.wr f v u j).clk = s.clk := rfl
@[simp] theorem State.wr_stopes (f : Fld) (v u j : Nat) : (s.wr f v u j).stopes = s.stopes := rfl
@[simp] theorem State.wr_msix (f : Fld) (v u j : Nat) : (s.wr f v u j).msix = s.msix := rfl
@[simp] theorem State.wr_winder (f : Fld) (v u j : Nat) : (s.wr f v u j).winder = s.winder := rfl
@[simp] theorem State.wr_lanes (f : Fld) (v u j : Nat) : (s.wr f v u j).lanes = s.lanes := rfl
@[simp] theorem State.wr_xp (f : Fld) (v u j : Nat) : (s.wr f v u j).xp = s.xp := rfl
@[simp] theorem State.wr_sampler (f : Fld) (v u j : Nat) : (s.wr f v u j).sampler = s.sampler := rfl
@[simp] theorem State.wr_dram (f : Fld) (v u j : Nat) : (s.wr f v u j).dram = s.dram := rfl
@[simp] theorem State.wr_crypto (f : Fld) (v u j : Nat) : (s.wr f v u j).crypto = s.crypto := rfl
@[simp] theorem State.wr_scrubs (f : Fld) (v u j : Nat) : (s.wr f v u j).scrubs = s.scrubs := rfl
@[simp] theorem State.wr_pins (f : Fld) (v u j : Nat) : (s.wr f v u j).pins = s.pins := rfl
@[simp] theorem State.wr_loader (f : Fld) (v u j : Nat) : (s.wr f v u j).loader = s.loader := rfl
@[simp] theorem State.wr_frames (f : Fld) (v u j : Nat) : (s.wr f v u j).frames = s.frames := rfl
@[simp] theorem State.wr_frameErr (f : Fld) (v u j : Nat) : (s.wr f v u j).frameErr = s.frameErr := rfl
@[simp] theorem State.wr_bell (f : Fld) (v u j : Nat) : (s.wr f v u j).bell = s.bell := rfl
@[simp] theorem State.wr_cage (f : Fld) (v u j : Nat) : (s.wr f v u j).cage = s.cage := rfl
@[simp] theorem State.wr_gallery (f : Fld) (v u j : Nat) : (s.wr f v u j).gallery = s.gallery := rfl
@[simp] theorem State.wr_tram (f : Fld) (v u j : Nat) : (s.wr f v u j).tram = s.tram := rfl
@[simp] theorem State.wr_flash (f : Fld) (v u j : Nat) : (s.wr f v u j).flash = s.flash := rfl
@[simp] theorem State.wr_fm (f : Fld) (v u j : Nat) : (s.wr f v u j).fm = s.fm := rfl
@[simp] theorem State.wr_shift (f : Fld) (v u j : Nat) : (s.wr f v u j).shift = s.shift := rfl
@[simp] theorem State.wr_trace (f : Fld) (v u j : Nat) : (s.wr f v u j).trace = s.trace := rfl
@[simp] theorem State.wr_lamp (f : Fld) (v u j : Nat) : (s.wr f v u j).lamp = s.lamp := rfl
@[simp] theorem State.wr_events (f : Fld) (v u j : Nat) : (s.wr f v u j).events = s.events := rfl
@[simp] theorem State.wr_sent (f : Fld) (v u j : Nat) : (s.wr f v u j).sent = s.sent := rfl
@[simp] theorem State.wr_freeCount (f : Fld) (v u j : Nat) : (s.wr f v u j).freeCount = s.freeCount := rfl
@[simp] theorem State.wr_pending (f : Fld) (v u j : Nat) : (s.wr f v u j).pending = s.pending := rfl

@[simp] theorem State.emit_regs (e : Emission) : (s.emit e).regs = s.regs := rfl
@[simp] theorem State.emit_mem (e : Emission) : (s.emit e).mem = s.mem := rfl
@[simp] theorem State.emit_fabMem (e : Emission) : (s.emit e).fabMem = s.fabMem := rfl
@[simp] theorem State.emit_fabErr (e : Emission) : (s.emit e).fabErr = s.fabErr := rfl
@[simp] theorem State.emit_clk (e : Emission) : (s.emit e).clk = s.clk := rfl
@[simp] theorem State.emit_stopes (e : Emission) : (s.emit e).stopes = s.stopes := rfl
@[simp] theorem State.emit_msix (e : Emission) : (s.emit e).msix = s.msix := rfl
@[simp] theorem State.emit_winder (e : Emission) : (s.emit e).winder = s.winder := rfl
@[simp] theorem State.emit_lanes (e : Emission) : (s.emit e).lanes = s.lanes := rfl
@[simp] theorem State.emit_xp (e : Emission) : (s.emit e).xp = s.xp := rfl
@[simp] theorem State.emit_sampler (e : Emission) : (s.emit e).sampler = s.sampler := rfl
@[simp] theorem State.emit_dram (e : Emission) : (s.emit e).dram = s.dram := rfl
@[simp] theorem State.emit_crypto (e : Emission) : (s.emit e).crypto = s.crypto := rfl
@[simp] theorem State.emit_scrubs (e : Emission) : (s.emit e).scrubs = s.scrubs := rfl
@[simp] theorem State.emit_pins (e : Emission) : (s.emit e).pins = s.pins := rfl
@[simp] theorem State.emit_loader (e : Emission) : (s.emit e).loader = s.loader := rfl
@[simp] theorem State.emit_frames (e : Emission) : (s.emit e).frames = s.frames := rfl
@[simp] theorem State.emit_frameErr (e : Emission) : (s.emit e).frameErr = s.frameErr := rfl
@[simp] theorem State.emit_bell (e : Emission) : (s.emit e).bell = s.bell := rfl
@[simp] theorem State.emit_cage (e : Emission) : (s.emit e).cage = s.cage := rfl
@[simp] theorem State.emit_gallery (e : Emission) : (s.emit e).gallery = s.gallery := rfl
@[simp] theorem State.emit_tram (e : Emission) : (s.emit e).tram = s.tram := rfl
@[simp] theorem State.emit_flash (e : Emission) : (s.emit e).flash = s.flash := rfl
@[simp] theorem State.emit_fm (e : Emission) : (s.emit e).fm = s.fm := rfl
@[simp] theorem State.emit_shift (e : Emission) : (s.emit e).shift = s.shift := rfl
@[simp] theorem State.emit_trace (e : Emission) : (s.emit e).trace = s.trace := rfl
@[simp] theorem State.emit_lamp (e : Emission) : (s.emit e).lamp = s.lamp := rfl
@[simp] theorem State.emit_events (e : Emission) : (s.emit e).events = s.events := rfl
@[simp] theorem State.emit_freeCount (e : Emission) : (s.emit e).freeCount = s.freeCount := rfl
@[simp] theorem State.emit_pending (e : Emission) : (s.emit e).pending = s.pending := rfl

@[simp] theorem State.drawn_regs : (s.drawn).regs = s.regs := rfl
@[simp] theorem State.drawn_mem : (s.drawn).mem = s.mem := rfl
@[simp] theorem State.drawn_fabMem : (s.drawn).fabMem = s.fabMem := rfl
@[simp] theorem State.drawn_fabErr : (s.drawn).fabErr = s.fabErr := rfl
@[simp] theorem State.drawn_clk : (s.drawn).clk = s.clk := rfl
@[simp] theorem State.drawn_stopes : (s.drawn).stopes = s.stopes := rfl
@[simp] theorem State.drawn_msix : (s.drawn).msix = s.msix := rfl
@[simp] theorem State.drawn_winder : (s.drawn).winder = s.winder := rfl
@[simp] theorem State.drawn_lanes : (s.drawn).lanes = s.lanes := rfl
@[simp] theorem State.drawn_xp : (s.drawn).xp = s.xp := rfl
@[simp] theorem State.drawn_sampler : (s.drawn).sampler = s.sampler := rfl
@[simp] theorem State.drawn_dram : (s.drawn).dram = s.dram := rfl
@[simp] theorem State.drawn_crypto : (s.drawn).crypto = s.crypto := rfl
@[simp] theorem State.drawn_scrubs : (s.drawn).scrubs = s.scrubs := rfl
@[simp] theorem State.drawn_pins : (s.drawn).pins = s.pins := rfl
@[simp] theorem State.drawn_loader : (s.drawn).loader = s.loader := rfl
@[simp] theorem State.drawn_frames : (s.drawn).frames = s.frames := rfl
@[simp] theorem State.drawn_frameErr : (s.drawn).frameErr = s.frameErr := rfl
@[simp] theorem State.drawn_bell : (s.drawn).bell = s.bell := rfl
@[simp] theorem State.drawn_cage : (s.drawn).cage = s.cage := rfl
@[simp] theorem State.drawn_gallery : (s.drawn).gallery = s.gallery := rfl
@[simp] theorem State.drawn_tram : (s.drawn).tram = s.tram := rfl
@[simp] theorem State.drawn_flash : (s.drawn).flash = s.flash := rfl
@[simp] theorem State.drawn_fm : (s.drawn).fm = s.fm := rfl
@[simp] theorem State.drawn_shift : (s.drawn).shift = s.shift := rfl
@[simp] theorem State.drawn_trace : (s.drawn).trace = s.trace := rfl
@[simp] theorem State.drawn_lamp : (s.drawn).lamp = s.lamp := rfl
@[simp] theorem State.drawn_events : (s.drawn).events = s.events := rfl
@[simp] theorem State.drawn_sent : (s.drawn).sent = s.sent := rfl
@[simp] theorem State.drawn_pending : (s.drawn).pending = s.pending := rfl

@[simp] theorem State.putByte_regs (a : Nat) (b : BitVec 8) : (s.putByte a b).regs = s.regs := rfl
@[simp] theorem State.putByte_fabMem (a : Nat) (b : BitVec 8) : (s.putByte a b).fabMem = s.fabMem := rfl
@[simp] theorem State.putByte_fabErr (a : Nat) (b : BitVec 8) : (s.putByte a b).fabErr = s.fabErr := rfl
@[simp] theorem State.putByte_clk (a : Nat) (b : BitVec 8) : (s.putByte a b).clk = s.clk := rfl
@[simp] theorem State.putByte_stopes (a : Nat) (b : BitVec 8) : (s.putByte a b).stopes = s.stopes := rfl
@[simp] theorem State.putByte_msix (a : Nat) (b : BitVec 8) : (s.putByte a b).msix = s.msix := rfl
@[simp] theorem State.putByte_winder (a : Nat) (b : BitVec 8) : (s.putByte a b).winder = s.winder := rfl
@[simp] theorem State.putByte_lanes (a : Nat) (b : BitVec 8) : (s.putByte a b).lanes = s.lanes := rfl
@[simp] theorem State.putByte_xp (a : Nat) (b : BitVec 8) : (s.putByte a b).xp = s.xp := rfl
@[simp] theorem State.putByte_sampler (a : Nat) (b : BitVec 8) : (s.putByte a b).sampler = s.sampler := rfl
@[simp] theorem State.putByte_dram (a : Nat) (b : BitVec 8) : (s.putByte a b).dram = s.dram := rfl
@[simp] theorem State.putByte_crypto (a : Nat) (b : BitVec 8) : (s.putByte a b).crypto = s.crypto := rfl
@[simp] theorem State.putByte_scrubs (a : Nat) (b : BitVec 8) : (s.putByte a b).scrubs = s.scrubs := rfl
@[simp] theorem State.putByte_pins (a : Nat) (b : BitVec 8) : (s.putByte a b).pins = s.pins := rfl
@[simp] theorem State.putByte_loader (a : Nat) (b : BitVec 8) : (s.putByte a b).loader = s.loader := rfl
@[simp] theorem State.putByte_frames (a : Nat) (b : BitVec 8) : (s.putByte a b).frames = s.frames := rfl
@[simp] theorem State.putByte_frameErr (a : Nat) (b : BitVec 8) : (s.putByte a b).frameErr = s.frameErr := rfl
@[simp] theorem State.putByte_bell (a : Nat) (b : BitVec 8) : (s.putByte a b).bell = s.bell := rfl
@[simp] theorem State.putByte_cage (a : Nat) (b : BitVec 8) : (s.putByte a b).cage = s.cage := rfl
@[simp] theorem State.putByte_gallery (a : Nat) (b : BitVec 8) : (s.putByte a b).gallery = s.gallery := rfl
@[simp] theorem State.putByte_tram (a : Nat) (b : BitVec 8) : (s.putByte a b).tram = s.tram := rfl
@[simp] theorem State.putByte_flash (a : Nat) (b : BitVec 8) : (s.putByte a b).flash = s.flash := rfl
@[simp] theorem State.putByte_fm (a : Nat) (b : BitVec 8) : (s.putByte a b).fm = s.fm := rfl
@[simp] theorem State.putByte_shift (a : Nat) (b : BitVec 8) : (s.putByte a b).shift = s.shift := rfl
@[simp] theorem State.putByte_trace (a : Nat) (b : BitVec 8) : (s.putByte a b).trace = s.trace := rfl
@[simp] theorem State.putByte_lamp (a : Nat) (b : BitVec 8) : (s.putByte a b).lamp = s.lamp := rfl
@[simp] theorem State.putByte_events (a : Nat) (b : BitVec 8) : (s.putByte a b).events = s.events := rfl
@[simp] theorem State.putByte_sent (a : Nat) (b : BitVec 8) : (s.putByte a b).sent = s.sent := rfl
@[simp] theorem State.putByte_freeCount (a : Nat) (b : BitVec 8) : (s.putByte a b).freeCount = s.freeCount := rfl
@[simp] theorem State.putByte_pending (a : Nat) (b : BitVec 8) : (s.putByte a b).pending = s.pending := rfl

@[simp] theorem State.setStope_regs (n : Nat) (x : Stope) : (s.setStope n x).regs = s.regs := rfl
@[simp] theorem State.setStope_mem (n : Nat) (x : Stope) : (s.setStope n x).mem = s.mem := rfl
@[simp] theorem State.setStope_fabMem (n : Nat) (x : Stope) : (s.setStope n x).fabMem = s.fabMem := rfl
@[simp] theorem State.setStope_fabErr (n : Nat) (x : Stope) : (s.setStope n x).fabErr = s.fabErr := rfl
@[simp] theorem State.setStope_clk (n : Nat) (x : Stope) : (s.setStope n x).clk = s.clk := rfl
@[simp] theorem State.setStope_msix (n : Nat) (x : Stope) : (s.setStope n x).msix = s.msix := rfl
@[simp] theorem State.setStope_winder (n : Nat) (x : Stope) : (s.setStope n x).winder = s.winder := rfl
@[simp] theorem State.setStope_lanes (n : Nat) (x : Stope) : (s.setStope n x).lanes = s.lanes := rfl
@[simp] theorem State.setStope_xp (n : Nat) (x : Stope) : (s.setStope n x).xp = s.xp := rfl
@[simp] theorem State.setStope_sampler (n : Nat) (x : Stope) : (s.setStope n x).sampler = s.sampler := rfl
@[simp] theorem State.setStope_dram (n : Nat) (x : Stope) : (s.setStope n x).dram = s.dram := rfl
@[simp] theorem State.setStope_crypto (n : Nat) (x : Stope) : (s.setStope n x).crypto = s.crypto := rfl
@[simp] theorem State.setStope_scrubs (n : Nat) (x : Stope) : (s.setStope n x).scrubs = s.scrubs := rfl
@[simp] theorem State.setStope_pins (n : Nat) (x : Stope) : (s.setStope n x).pins = s.pins := rfl
@[simp] theorem State.setStope_loader (n : Nat) (x : Stope) : (s.setStope n x).loader = s.loader := rfl
@[simp] theorem State.setStope_frames (n : Nat) (x : Stope) : (s.setStope n x).frames = s.frames := rfl
@[simp] theorem State.setStope_frameErr (n : Nat) (x : Stope) : (s.setStope n x).frameErr = s.frameErr := rfl
@[simp] theorem State.setStope_bell (n : Nat) (x : Stope) : (s.setStope n x).bell = s.bell := rfl
@[simp] theorem State.setStope_cage (n : Nat) (x : Stope) : (s.setStope n x).cage = s.cage := rfl
@[simp] theorem State.setStope_gallery (n : Nat) (x : Stope) : (s.setStope n x).gallery = s.gallery := rfl
@[simp] theorem State.setStope_tram (n : Nat) (x : Stope) : (s.setStope n x).tram = s.tram := rfl
@[simp] theorem State.setStope_flash (n : Nat) (x : Stope) : (s.setStope n x).flash = s.flash := rfl
@[simp] theorem State.setStope_fm (n : Nat) (x : Stope) : (s.setStope n x).fm = s.fm := rfl
@[simp] theorem State.setStope_shift (n : Nat) (x : Stope) : (s.setStope n x).shift = s.shift := rfl
@[simp] theorem State.setStope_trace (n : Nat) (x : Stope) : (s.setStope n x).trace = s.trace := rfl
@[simp] theorem State.setStope_lamp (n : Nat) (x : Stope) : (s.setStope n x).lamp = s.lamp := rfl
@[simp] theorem State.setStope_events (n : Nat) (x : Stope) : (s.setStope n x).events = s.events := rfl
@[simp] theorem State.setStope_sent (n : Nat) (x : Stope) : (s.setStope n x).sent = s.sent := rfl
@[simp] theorem State.setStope_freeCount (n : Nat) (x : Stope) : (s.setStope n x).freeCount = s.freeCount := rfl
@[simp] theorem State.setStope_pending (n : Nat) (x : Stope) : (s.setStope n x).pending = s.pending := rfl

@[simp] theorem State.post_regs (src code sev arg : Nat) : (s.post src code sev arg).regs = s.regs := rfl
@[simp] theorem State.post_mem (src code sev arg : Nat) : (s.post src code sev arg).mem = s.mem := rfl
@[simp] theorem State.post_fabMem (src code sev arg : Nat) : (s.post src code sev arg).fabMem = s.fabMem := rfl
@[simp] theorem State.post_fabErr (src code sev arg : Nat) : (s.post src code sev arg).fabErr = s.fabErr := rfl
@[simp] theorem State.post_clk (src code sev arg : Nat) : (s.post src code sev arg).clk = s.clk := rfl
@[simp] theorem State.post_stopes (src code sev arg : Nat) : (s.post src code sev arg).stopes = s.stopes := rfl
@[simp] theorem State.post_msix (src code sev arg : Nat) : (s.post src code sev arg).msix = s.msix := rfl
@[simp] theorem State.post_winder (src code sev arg : Nat) : (s.post src code sev arg).winder = s.winder := rfl
@[simp] theorem State.post_lanes (src code sev arg : Nat) : (s.post src code sev arg).lanes = s.lanes := rfl
@[simp] theorem State.post_xp (src code sev arg : Nat) : (s.post src code sev arg).xp = s.xp := rfl
@[simp] theorem State.post_sampler (src code sev arg : Nat) : (s.post src code sev arg).sampler = s.sampler := rfl
@[simp] theorem State.post_dram (src code sev arg : Nat) : (s.post src code sev arg).dram = s.dram := rfl
@[simp] theorem State.post_crypto (src code sev arg : Nat) : (s.post src code sev arg).crypto = s.crypto := rfl
@[simp] theorem State.post_scrubs (src code sev arg : Nat) : (s.post src code sev arg).scrubs = s.scrubs := rfl
@[simp] theorem State.post_pins (src code sev arg : Nat) : (s.post src code sev arg).pins = s.pins := rfl
@[simp] theorem State.post_loader (src code sev arg : Nat) : (s.post src code sev arg).loader = s.loader := rfl
@[simp] theorem State.post_frames (src code sev arg : Nat) : (s.post src code sev arg).frames = s.frames := rfl
@[simp] theorem State.post_frameErr (src code sev arg : Nat) : (s.post src code sev arg).frameErr = s.frameErr := rfl
@[simp] theorem State.post_bell (src code sev arg : Nat) : (s.post src code sev arg).bell = s.bell := rfl
@[simp] theorem State.post_cage (src code sev arg : Nat) : (s.post src code sev arg).cage = s.cage := rfl
@[simp] theorem State.post_gallery (src code sev arg : Nat) : (s.post src code sev arg).gallery = s.gallery := rfl
@[simp] theorem State.post_tram (src code sev arg : Nat) : (s.post src code sev arg).tram = s.tram := rfl
@[simp] theorem State.post_flash (src code sev arg : Nat) : (s.post src code sev arg).flash = s.flash := rfl
@[simp] theorem State.post_fm (src code sev arg : Nat) : (s.post src code sev arg).fm = s.fm := rfl
@[simp] theorem State.post_shift (src code sev arg : Nat) : (s.post src code sev arg).shift = s.shift := rfl
@[simp] theorem State.post_trace (src code sev arg : Nat) : (s.post src code sev arg).trace = s.trace := rfl
@[simp] theorem State.post_lamp (src code sev arg : Nat) : (s.post src code sev arg).lamp = s.lamp := rfl
@[simp] theorem State.post_sent (src code sev arg : Nat) : (s.post src code sev arg).sent = s.sent := rfl
@[simp] theorem State.post_freeCount (src code sev arg : Nat) : (s.post src code sev arg).freeCount = s.freeCount := rfl
@[simp] theorem State.post_pending (src code sev arg : Nat) : (s.post src code sev arg).pending = s.pending := rfl

@[simp] theorem State.ck_regs (g : Clocks → Clocks) : (s.ck g).regs = s.regs := rfl
@[simp] theorem State.ck_mem (g : Clocks → Clocks) : (s.ck g).mem = s.mem := rfl
@[simp] theorem State.ck_fabMem (g : Clocks → Clocks) : (s.ck g).fabMem = s.fabMem := rfl
@[simp] theorem State.ck_fabErr (g : Clocks → Clocks) : (s.ck g).fabErr = s.fabErr := rfl
@[simp] theorem State.ck_stopes (g : Clocks → Clocks) : (s.ck g).stopes = s.stopes := rfl
@[simp] theorem State.ck_msix (g : Clocks → Clocks) : (s.ck g).msix = s.msix := rfl
@[simp] theorem State.ck_winder (g : Clocks → Clocks) : (s.ck g).winder = s.winder := rfl
@[simp] theorem State.ck_lanes (g : Clocks → Clocks) : (s.ck g).lanes = s.lanes := rfl
@[simp] theorem State.ck_xp (g : Clocks → Clocks) : (s.ck g).xp = s.xp := rfl
@[simp] theorem State.ck_sampler (g : Clocks → Clocks) : (s.ck g).sampler = s.sampler := rfl
@[simp] theorem State.ck_dram (g : Clocks → Clocks) : (s.ck g).dram = s.dram := rfl
@[simp] theorem State.ck_crypto (g : Clocks → Clocks) : (s.ck g).crypto = s.crypto := rfl
@[simp] theorem State.ck_scrubs (g : Clocks → Clocks) : (s.ck g).scrubs = s.scrubs := rfl
@[simp] theorem State.ck_pins (g : Clocks → Clocks) : (s.ck g).pins = s.pins := rfl
@[simp] theorem State.ck_loader (g : Clocks → Clocks) : (s.ck g).loader = s.loader := rfl
@[simp] theorem State.ck_frames (g : Clocks → Clocks) : (s.ck g).frames = s.frames := rfl
@[simp] theorem State.ck_frameErr (g : Clocks → Clocks) : (s.ck g).frameErr = s.frameErr := rfl
@[simp] theorem State.ck_bell (g : Clocks → Clocks) : (s.ck g).bell = s.bell := rfl
@[simp] theorem State.ck_cage (g : Clocks → Clocks) : (s.ck g).cage = s.cage := rfl
@[simp] theorem State.ck_gallery (g : Clocks → Clocks) : (s.ck g).gallery = s.gallery := rfl
@[simp] theorem State.ck_tram (g : Clocks → Clocks) : (s.ck g).tram = s.tram := rfl
@[simp] theorem State.ck_flash (g : Clocks → Clocks) : (s.ck g).flash = s.flash := rfl
@[simp] theorem State.ck_fm (g : Clocks → Clocks) : (s.ck g).fm = s.fm := rfl
@[simp] theorem State.ck_shift (g : Clocks → Clocks) : (s.ck g).shift = s.shift := rfl
@[simp] theorem State.ck_trace (g : Clocks → Clocks) : (s.ck g).trace = s.trace := rfl
@[simp] theorem State.ck_lamp (g : Clocks → Clocks) : (s.ck g).lamp = s.lamp := rfl
@[simp] theorem State.ck_events (g : Clocks → Clocks) : (s.ck g).events = s.events := rfl
@[simp] theorem State.ck_sent (g : Clocks → Clocks) : (s.ck g).sent = s.sent := rfl
@[simp] theorem State.ck_freeCount (g : Clocks → Clocks) : (s.ck g).freeCount = s.freeCount := rfl
@[simp] theorem State.ck_pending (g : Clocks → Clocks) : (s.ck g).pending = s.pending := rfl

@[simp] theorem State.fo_regs (g : Foreman → Foreman) : (s.fo g).regs = s.regs := rfl
@[simp] theorem State.fo_mem (g : Foreman → Foreman) : (s.fo g).mem = s.mem := rfl
@[simp] theorem State.fo_fabMem (g : Foreman → Foreman) : (s.fo g).fabMem = s.fabMem := rfl
@[simp] theorem State.fo_fabErr (g : Foreman → Foreman) : (s.fo g).fabErr = s.fabErr := rfl
@[simp] theorem State.fo_clk (g : Foreman → Foreman) : (s.fo g).clk = s.clk := rfl
@[simp] theorem State.fo_stopes (g : Foreman → Foreman) : (s.fo g).stopes = s.stopes := rfl
@[simp] theorem State.fo_msix (g : Foreman → Foreman) : (s.fo g).msix = s.msix := rfl
@[simp] theorem State.fo_winder (g : Foreman → Foreman) : (s.fo g).winder = s.winder := rfl
@[simp] theorem State.fo_lanes (g : Foreman → Foreman) : (s.fo g).lanes = s.lanes := rfl
@[simp] theorem State.fo_xp (g : Foreman → Foreman) : (s.fo g).xp = s.xp := rfl
@[simp] theorem State.fo_sampler (g : Foreman → Foreman) : (s.fo g).sampler = s.sampler := rfl
@[simp] theorem State.fo_dram (g : Foreman → Foreman) : (s.fo g).dram = s.dram := rfl
@[simp] theorem State.fo_crypto (g : Foreman → Foreman) : (s.fo g).crypto = s.crypto := rfl
@[simp] theorem State.fo_scrubs (g : Foreman → Foreman) : (s.fo g).scrubs = s.scrubs := rfl
@[simp] theorem State.fo_pins (g : Foreman → Foreman) : (s.fo g).pins = s.pins := rfl
@[simp] theorem State.fo_loader (g : Foreman → Foreman) : (s.fo g).loader = s.loader := rfl
@[simp] theorem State.fo_frames (g : Foreman → Foreman) : (s.fo g).frames = s.frames := rfl
@[simp] theorem State.fo_frameErr (g : Foreman → Foreman) : (s.fo g).frameErr = s.frameErr := rfl
@[simp] theorem State.fo_bell (g : Foreman → Foreman) : (s.fo g).bell = s.bell := rfl
@[simp] theorem State.fo_cage (g : Foreman → Foreman) : (s.fo g).cage = s.cage := rfl
@[simp] theorem State.fo_gallery (g : Foreman → Foreman) : (s.fo g).gallery = s.gallery := rfl
@[simp] theorem State.fo_tram (g : Foreman → Foreman) : (s.fo g).tram = s.tram := rfl
@[simp] theorem State.fo_flash (g : Foreman → Foreman) : (s.fo g).flash = s.flash := rfl
@[simp] theorem State.fo_shift (g : Foreman → Foreman) : (s.fo g).shift = s.shift := rfl
@[simp] theorem State.fo_trace (g : Foreman → Foreman) : (s.fo g).trace = s.trace := rfl
@[simp] theorem State.fo_lamp (g : Foreman → Foreman) : (s.fo g).lamp = s.lamp := rfl
@[simp] theorem State.fo_events (g : Foreman → Foreman) : (s.fo g).events = s.events := rfl
@[simp] theorem State.fo_sent (g : Foreman → Foreman) : (s.fo g).sent = s.sent := rfl
@[simp] theorem State.fo_freeCount (g : Foreman → Foreman) : (s.fo g).freeCount = s.freeCount := rfl
@[simp] theorem State.fo_pending (g : Foreman → Foreman) : (s.fo g).pending = s.pending := rfl

@[simp] theorem State.wd_regs (g : Winder → Winder) : (s.wd g).regs = s.regs := rfl
@[simp] theorem State.wd_mem (g : Winder → Winder) : (s.wd g).mem = s.mem := rfl
@[simp] theorem State.wd_fabMem (g : Winder → Winder) : (s.wd g).fabMem = s.fabMem := rfl
@[simp] theorem State.wd_fabErr (g : Winder → Winder) : (s.wd g).fabErr = s.fabErr := rfl
@[simp] theorem State.wd_clk (g : Winder → Winder) : (s.wd g).clk = s.clk := rfl
@[simp] theorem State.wd_stopes (g : Winder → Winder) : (s.wd g).stopes = s.stopes := rfl
@[simp] theorem State.wd_msix (g : Winder → Winder) : (s.wd g).msix = s.msix := rfl
@[simp] theorem State.wd_lanes (g : Winder → Winder) : (s.wd g).lanes = s.lanes := rfl
@[simp] theorem State.wd_xp (g : Winder → Winder) : (s.wd g).xp = s.xp := rfl
@[simp] theorem State.wd_sampler (g : Winder → Winder) : (s.wd g).sampler = s.sampler := rfl
@[simp] theorem State.wd_dram (g : Winder → Winder) : (s.wd g).dram = s.dram := rfl
@[simp] theorem State.wd_crypto (g : Winder → Winder) : (s.wd g).crypto = s.crypto := rfl
@[simp] theorem State.wd_scrubs (g : Winder → Winder) : (s.wd g).scrubs = s.scrubs := rfl
@[simp] theorem State.wd_pins (g : Winder → Winder) : (s.wd g).pins = s.pins := rfl
@[simp] theorem State.wd_loader (g : Winder → Winder) : (s.wd g).loader = s.loader := rfl
@[simp] theorem State.wd_frames (g : Winder → Winder) : (s.wd g).frames = s.frames := rfl
@[simp] theorem State.wd_frameErr (g : Winder → Winder) : (s.wd g).frameErr = s.frameErr := rfl
@[simp] theorem State.wd_bell (g : Winder → Winder) : (s.wd g).bell = s.bell := rfl
@[simp] theorem State.wd_cage (g : Winder → Winder) : (s.wd g).cage = s.cage := rfl
@[simp] theorem State.wd_gallery (g : Winder → Winder) : (s.wd g).gallery = s.gallery := rfl
@[simp] theorem State.wd_tram (g : Winder → Winder) : (s.wd g).tram = s.tram := rfl
@[simp] theorem State.wd_flash (g : Winder → Winder) : (s.wd g).flash = s.flash := rfl
@[simp] theorem State.wd_fm (g : Winder → Winder) : (s.wd g).fm = s.fm := rfl
@[simp] theorem State.wd_shift (g : Winder → Winder) : (s.wd g).shift = s.shift := rfl
@[simp] theorem State.wd_trace (g : Winder → Winder) : (s.wd g).trace = s.trace := rfl
@[simp] theorem State.wd_lamp (g : Winder → Winder) : (s.wd g).lamp = s.lamp := rfl
@[simp] theorem State.wd_events (g : Winder → Winder) : (s.wd g).events = s.events := rfl
@[simp] theorem State.wd_sent (g : Winder → Winder) : (s.wd g).sent = s.sent := rfl
@[simp] theorem State.wd_freeCount (g : Winder → Winder) : (s.wd g).freeCount = s.freeCount := rfl
@[simp] theorem State.wd_pending (g : Winder → Winder) : (s.wd g).pending = s.pending := rfl

@[simp] theorem State.ld_regs (g : Loader → Loader) : (s.ld g).regs = s.regs := rfl
@[simp] theorem State.ld_mem (g : Loader → Loader) : (s.ld g).mem = s.mem := rfl
@[simp] theorem State.ld_fabMem (g : Loader → Loader) : (s.ld g).fabMem = s.fabMem := rfl
@[simp] theorem State.ld_fabErr (g : Loader → Loader) : (s.ld g).fabErr = s.fabErr := rfl
@[simp] theorem State.ld_clk (g : Loader → Loader) : (s.ld g).clk = s.clk := rfl
@[simp] theorem State.ld_stopes (g : Loader → Loader) : (s.ld g).stopes = s.stopes := rfl
@[simp] theorem State.ld_msix (g : Loader → Loader) : (s.ld g).msix = s.msix := rfl
@[simp] theorem State.ld_winder (g : Loader → Loader) : (s.ld g).winder = s.winder := rfl
@[simp] theorem State.ld_lanes (g : Loader → Loader) : (s.ld g).lanes = s.lanes := rfl
@[simp] theorem State.ld_xp (g : Loader → Loader) : (s.ld g).xp = s.xp := rfl
@[simp] theorem State.ld_sampler (g : Loader → Loader) : (s.ld g).sampler = s.sampler := rfl
@[simp] theorem State.ld_dram (g : Loader → Loader) : (s.ld g).dram = s.dram := rfl
@[simp] theorem State.ld_crypto (g : Loader → Loader) : (s.ld g).crypto = s.crypto := rfl
@[simp] theorem State.ld_scrubs (g : Loader → Loader) : (s.ld g).scrubs = s.scrubs := rfl
@[simp] theorem State.ld_pins (g : Loader → Loader) : (s.ld g).pins = s.pins := rfl
@[simp] theorem State.ld_frames (g : Loader → Loader) : (s.ld g).frames = s.frames := rfl
@[simp] theorem State.ld_frameErr (g : Loader → Loader) : (s.ld g).frameErr = s.frameErr := rfl
@[simp] theorem State.ld_bell (g : Loader → Loader) : (s.ld g).bell = s.bell := rfl
@[simp] theorem State.ld_cage (g : Loader → Loader) : (s.ld g).cage = s.cage := rfl
@[simp] theorem State.ld_gallery (g : Loader → Loader) : (s.ld g).gallery = s.gallery := rfl
@[simp] theorem State.ld_tram (g : Loader → Loader) : (s.ld g).tram = s.tram := rfl
@[simp] theorem State.ld_flash (g : Loader → Loader) : (s.ld g).flash = s.flash := rfl
@[simp] theorem State.ld_fm (g : Loader → Loader) : (s.ld g).fm = s.fm := rfl
@[simp] theorem State.ld_shift (g : Loader → Loader) : (s.ld g).shift = s.shift := rfl
@[simp] theorem State.ld_trace (g : Loader → Loader) : (s.ld g).trace = s.trace := rfl
@[simp] theorem State.ld_lamp (g : Loader → Loader) : (s.ld g).lamp = s.lamp := rfl
@[simp] theorem State.ld_events (g : Loader → Loader) : (s.ld g).events = s.events := rfl
@[simp] theorem State.ld_sent (g : Loader → Loader) : (s.ld g).sent = s.sent := rfl
@[simp] theorem State.ld_freeCount (g : Loader → Loader) : (s.ld g).freeCount = s.freeCount := rfl
@[simp] theorem State.ld_pending (g : Loader → Loader) : (s.ld g).pending = s.pending := rfl

@[simp] theorem State.gl_regs (g : Gallery → Gallery) : (s.gl g).regs = s.regs := rfl
@[simp] theorem State.gl_mem (g : Gallery → Gallery) : (s.gl g).mem = s.mem := rfl
@[simp] theorem State.gl_fabMem (g : Gallery → Gallery) : (s.gl g).fabMem = s.fabMem := rfl
@[simp] theorem State.gl_fabErr (g : Gallery → Gallery) : (s.gl g).fabErr = s.fabErr := rfl
@[simp] theorem State.gl_clk (g : Gallery → Gallery) : (s.gl g).clk = s.clk := rfl
@[simp] theorem State.gl_stopes (g : Gallery → Gallery) : (s.gl g).stopes = s.stopes := rfl
@[simp] theorem State.gl_msix (g : Gallery → Gallery) : (s.gl g).msix = s.msix := rfl
@[simp] theorem State.gl_winder (g : Gallery → Gallery) : (s.gl g).winder = s.winder := rfl
@[simp] theorem State.gl_lanes (g : Gallery → Gallery) : (s.gl g).lanes = s.lanes := rfl
@[simp] theorem State.gl_xp (g : Gallery → Gallery) : (s.gl g).xp = s.xp := rfl
@[simp] theorem State.gl_sampler (g : Gallery → Gallery) : (s.gl g).sampler = s.sampler := rfl
@[simp] theorem State.gl_dram (g : Gallery → Gallery) : (s.gl g).dram = s.dram := rfl
@[simp] theorem State.gl_crypto (g : Gallery → Gallery) : (s.gl g).crypto = s.crypto := rfl
@[simp] theorem State.gl_scrubs (g : Gallery → Gallery) : (s.gl g).scrubs = s.scrubs := rfl
@[simp] theorem State.gl_pins (g : Gallery → Gallery) : (s.gl g).pins = s.pins := rfl
@[simp] theorem State.gl_loader (g : Gallery → Gallery) : (s.gl g).loader = s.loader := rfl
@[simp] theorem State.gl_frames (g : Gallery → Gallery) : (s.gl g).frames = s.frames := rfl
@[simp] theorem State.gl_frameErr (g : Gallery → Gallery) : (s.gl g).frameErr = s.frameErr := rfl
@[simp] theorem State.gl_bell (g : Gallery → Gallery) : (s.gl g).bell = s.bell := rfl
@[simp] theorem State.gl_cage (g : Gallery → Gallery) : (s.gl g).cage = s.cage := rfl
@[simp] theorem State.gl_tram (g : Gallery → Gallery) : (s.gl g).tram = s.tram := rfl
@[simp] theorem State.gl_flash (g : Gallery → Gallery) : (s.gl g).flash = s.flash := rfl
@[simp] theorem State.gl_fm (g : Gallery → Gallery) : (s.gl g).fm = s.fm := rfl
@[simp] theorem State.gl_shift (g : Gallery → Gallery) : (s.gl g).shift = s.shift := rfl
@[simp] theorem State.gl_trace (g : Gallery → Gallery) : (s.gl g).trace = s.trace := rfl
@[simp] theorem State.gl_lamp (g : Gallery → Gallery) : (s.gl g).lamp = s.lamp := rfl
@[simp] theorem State.gl_events (g : Gallery → Gallery) : (s.gl g).events = s.events := rfl
@[simp] theorem State.gl_sent (g : Gallery → Gallery) : (s.gl g).sent = s.sent := rfl
@[simp] theorem State.gl_freeCount (g : Gallery → Gallery) : (s.gl g).freeCount = s.freeCount := rfl
@[simp] theorem State.gl_pending (g : Gallery → Gallery) : (s.gl g).pending = s.pending := rfl

@[simp] theorem State.lp_regs (g : Lamp → Lamp) : (s.lp g).regs = s.regs := rfl
@[simp] theorem State.lp_mem (g : Lamp → Lamp) : (s.lp g).mem = s.mem := rfl
@[simp] theorem State.lp_fabMem (g : Lamp → Lamp) : (s.lp g).fabMem = s.fabMem := rfl
@[simp] theorem State.lp_fabErr (g : Lamp → Lamp) : (s.lp g).fabErr = s.fabErr := rfl
@[simp] theorem State.lp_clk (g : Lamp → Lamp) : (s.lp g).clk = s.clk := rfl
@[simp] theorem State.lp_stopes (g : Lamp → Lamp) : (s.lp g).stopes = s.stopes := rfl
@[simp] theorem State.lp_msix (g : Lamp → Lamp) : (s.lp g).msix = s.msix := rfl
@[simp] theorem State.lp_winder (g : Lamp → Lamp) : (s.lp g).winder = s.winder := rfl
@[simp] theorem State.lp_lanes (g : Lamp → Lamp) : (s.lp g).lanes = s.lanes := rfl
@[simp] theorem State.lp_xp (g : Lamp → Lamp) : (s.lp g).xp = s.xp := rfl
@[simp] theorem State.lp_sampler (g : Lamp → Lamp) : (s.lp g).sampler = s.sampler := rfl
@[simp] theorem State.lp_dram (g : Lamp → Lamp) : (s.lp g).dram = s.dram := rfl
@[simp] theorem State.lp_crypto (g : Lamp → Lamp) : (s.lp g).crypto = s.crypto := rfl
@[simp] theorem State.lp_scrubs (g : Lamp → Lamp) : (s.lp g).scrubs = s.scrubs := rfl
@[simp] theorem State.lp_pins (g : Lamp → Lamp) : (s.lp g).pins = s.pins := rfl
@[simp] theorem State.lp_loader (g : Lamp → Lamp) : (s.lp g).loader = s.loader := rfl
@[simp] theorem State.lp_frames (g : Lamp → Lamp) : (s.lp g).frames = s.frames := rfl
@[simp] theorem State.lp_frameErr (g : Lamp → Lamp) : (s.lp g).frameErr = s.frameErr := rfl
@[simp] theorem State.lp_bell (g : Lamp → Lamp) : (s.lp g).bell = s.bell := rfl
@[simp] theorem State.lp_cage (g : Lamp → Lamp) : (s.lp g).cage = s.cage := rfl
@[simp] theorem State.lp_gallery (g : Lamp → Lamp) : (s.lp g).gallery = s.gallery := rfl
@[simp] theorem State.lp_tram (g : Lamp → Lamp) : (s.lp g).tram = s.tram := rfl
@[simp] theorem State.lp_flash (g : Lamp → Lamp) : (s.lp g).flash = s.flash := rfl
@[simp] theorem State.lp_fm (g : Lamp → Lamp) : (s.lp g).fm = s.fm := rfl
@[simp] theorem State.lp_shift (g : Lamp → Lamp) : (s.lp g).shift = s.shift := rfl
@[simp] theorem State.lp_trace (g : Lamp → Lamp) : (s.lp g).trace = s.trace := rfl
@[simp] theorem State.lp_events (g : Lamp → Lamp) : (s.lp g).events = s.events := rfl
@[simp] theorem State.lp_sent (g : Lamp → Lamp) : (s.lp g).sent = s.sent := rfl
@[simp] theorem State.lp_freeCount (g : Lamp → Lamp) : (s.lp g).freeCount = s.freeCount := rfl
@[simp] theorem State.lp_pending (g : Lamp → Lamp) : (s.lp g).pending = s.pending := rfl

@[simp] theorem State.sh_regs (g : Shift → Shift) : (s.sh g).regs = s.regs := rfl
@[simp] theorem State.sh_mem (g : Shift → Shift) : (s.sh g).mem = s.mem := rfl
@[simp] theorem State.sh_fabMem (g : Shift → Shift) : (s.sh g).fabMem = s.fabMem := rfl
@[simp] theorem State.sh_fabErr (g : Shift → Shift) : (s.sh g).fabErr = s.fabErr := rfl
@[simp] theorem State.sh_clk (g : Shift → Shift) : (s.sh g).clk = s.clk := rfl
@[simp] theorem State.sh_stopes (g : Shift → Shift) : (s.sh g).stopes = s.stopes := rfl
@[simp] theorem State.sh_msix (g : Shift → Shift) : (s.sh g).msix = s.msix := rfl
@[simp] theorem State.sh_winder (g : Shift → Shift) : (s.sh g).winder = s.winder := rfl
@[simp] theorem State.sh_lanes (g : Shift → Shift) : (s.sh g).lanes = s.lanes := rfl
@[simp] theorem State.sh_xp (g : Shift → Shift) : (s.sh g).xp = s.xp := rfl
@[simp] theorem State.sh_sampler (g : Shift → Shift) : (s.sh g).sampler = s.sampler := rfl
@[simp] theorem State.sh_dram (g : Shift → Shift) : (s.sh g).dram = s.dram := rfl
@[simp] theorem State.sh_crypto (g : Shift → Shift) : (s.sh g).crypto = s.crypto := rfl
@[simp] theorem State.sh_scrubs (g : Shift → Shift) : (s.sh g).scrubs = s.scrubs := rfl
@[simp] theorem State.sh_pins (g : Shift → Shift) : (s.sh g).pins = s.pins := rfl
@[simp] theorem State.sh_loader (g : Shift → Shift) : (s.sh g).loader = s.loader := rfl
@[simp] theorem State.sh_frames (g : Shift → Shift) : (s.sh g).frames = s.frames := rfl
@[simp] theorem State.sh_frameErr (g : Shift → Shift) : (s.sh g).frameErr = s.frameErr := rfl
@[simp] theorem State.sh_bell (g : Shift → Shift) : (s.sh g).bell = s.bell := rfl
@[simp] theorem State.sh_cage (g : Shift → Shift) : (s.sh g).cage = s.cage := rfl
@[simp] theorem State.sh_gallery (g : Shift → Shift) : (s.sh g).gallery = s.gallery := rfl
@[simp] theorem State.sh_tram (g : Shift → Shift) : (s.sh g).tram = s.tram := rfl
@[simp] theorem State.sh_flash (g : Shift → Shift) : (s.sh g).flash = s.flash := rfl
@[simp] theorem State.sh_fm (g : Shift → Shift) : (s.sh g).fm = s.fm := rfl
@[simp] theorem State.sh_trace (g : Shift → Shift) : (s.sh g).trace = s.trace := rfl
@[simp] theorem State.sh_lamp (g : Shift → Shift) : (s.sh g).lamp = s.lamp := rfl
@[simp] theorem State.sh_events (g : Shift → Shift) : (s.sh g).events = s.events := rfl
@[simp] theorem State.sh_sent (g : Shift → Shift) : (s.sh g).sent = s.sent := rfl
@[simp] theorem State.sh_freeCount (g : Shift → Shift) : (s.sh g).freeCount = s.freeCount := rfl
@[simp] theorem State.sh_pending (g : Shift → Shift) : (s.sh g).pending = s.pending := rfl

/-- What `emit` adds. -/
@[simp] theorem State.emit_sent (e : Emission) : (s.emit e).sent = s.sent ++ [e] := rfl

@[simp] theorem State.drawn_freeCount : s.drawn.freeCount = s.freeCount + 1 := rfl

@[simp] theorem State.ck_clk (g : Clocks → Clocks) : (s.ck g).clk = g s.clk := rfl

@[simp] theorem State.lp_lamp (g : Lamp → Lamp) : (s.lp g).lamp = g s.lamp := rfl

@[simp] theorem State.sh_shift (g : Shift → Shift) : (s.sh g).shift = g s.shift := rfl

@[simp] theorem State.fo_fm (g : Foreman → Foreman) : (s.fo g).fm = g s.fm := rfl

@[simp] theorem State.wd_winder (g : Winder → Winder) : (s.wd g).winder = g s.winder := rfl

@[simp] theorem State.ld_loader (g : Loader → Loader) : (s.ld g).loader = g s.loader := rfl

@[simp] theorem State.gl_gallery (g : Gallery → Gallery) : (s.gl g).gallery = g s.gallery := rfl

/-- A field depends on the register table alone. -/
theorem State.rd_congr {s t : State} (h : t.regs = s.regs) (f : Fld) (u j : Nat) : t.rd f u j = s.rd f u j := by
  simp [State.rd, h]

/-- A field reads what was written to it, cut to its width. -/
@[simp] theorem State.rd_wr_same (f : Fld) (v u j : Nat) : (s.wr f v u j).rd f u j = v % 2 ^ f.wid := by
  simp [State.rd, State.wr, Tab.get_set_same]

/-- Every other field, unit or index reads as before. -/
theorem State.rd_wr_ne {f g : Fld} {v u j u' j' : Nat} (h : (⟨g.id, u', j'⟩ : Key) ≠ ⟨f.id, u, j⟩) :
    (s.wr f v u j).rd g u' j' = s.rd g u' j' := by
  simp [State.rd, State.wr, Tab.get_set_ne _ _ _ _ _ h]

/-- A field with another number reads as before. -/
theorem State.rd_wr_other {f g : Fld} {v u j u' j' : Nat} (h : g.id ≠ f.id) : (s.wr f v u j).rd g u' j' = s.rd g u' j' :=
  s.rd_wr_ne (by simp [h])

@[simp] theorem State.rd_emit (e : Emission) (f : Fld) (u j : Nat) : (s.emit e).rd f u j = s.rd f u j := rfl
@[simp] theorem State.rd_drawn (f : Fld) (u j : Nat) : (s.drawn).rd f u j = s.rd f u j := rfl
@[simp] theorem State.rd_putByte (a : Nat) (b : BitVec 8) (f : Fld) (u j : Nat) : (s.putByte a b).rd f u j = s.rd f u j := rfl
@[simp] theorem State.rd_setStope (n : Nat) (x : Stope) (f : Fld) (u j : Nat) : (s.setStope n x).rd f u j = s.rd f u j := rfl
@[simp] theorem State.rd_post (src code sev arg : Nat) (f : Fld) (u j : Nat) : (s.post src code sev arg).rd f u j = s.rd f u j := rfl
@[simp] theorem State.rd_ck (g : Clocks → Clocks) (f : Fld) (u j : Nat) : (s.ck g).rd f u j = s.rd f u j := rfl
@[simp] theorem State.rd_fo (g : Foreman → Foreman) (f : Fld) (u j : Nat) : (s.fo g).rd f u j = s.rd f u j := rfl
@[simp] theorem State.rd_wd (g : Winder → Winder) (f : Fld) (u j : Nat) : (s.wd g).rd f u j = s.rd f u j := rfl
@[simp] theorem State.rd_ld (g : Loader → Loader) (f : Fld) (u j : Nat) : (s.ld g).rd f u j = s.rd f u j := rfl
@[simp] theorem State.rd_gl (g : Gallery → Gallery) (f : Fld) (u j : Nat) : (s.gl g).rd f u j = s.rd f u j := rfl
@[simp] theorem State.rd_lp (g : Lamp → Lamp) (f : Fld) (u j : Nat) : (s.lp g).rd f u j = s.rd f u j := rfl
@[simp] theorem State.rd_sh (g : Shift → Shift) (f : Fld) (u j : Nat) : (s.sh g).rd f u j = s.rd f u j := rfl

/-- A byte reads what was written to it. -/
@[simp] theorem State.byte_putByte_same (a : Nat) (b : BitVec 8) : (s.putByte a b).byte a = b := by
  simp [State.byte, State.putByte, Tab.get_set_same]

/-- Every other byte reads as before. -/
theorem State.byte_putByte_ne {a a' : Nat} (b : BitVec 8) (h : a' ≠ a) : (s.putByte a b).byte a' = s.byte a' := by
  simp [State.byte, State.putByte, Tab.get_set_ne _ _ _ _ _ h]

end Sys2Proof.Machine
end

