-- ==== Sys2Proof/Laws/Keeps.lean ====
section
/-! SUPPORT. Which register fields the shared operations write: reading another field after them, and the frames built of
them. -/

namespace Sys2Proof.Machine

variable {s t t' : State} {ks : List Key}

theorem State.rd_of_regs (e : t'.regs = t.regs) (f : Fld) (u j : Nat) : t'.rd f u j = t.rd f u j := by
  simp [State.rd, e]

/-! ### Reading after the operations -/

@[simp] theorem State.rd_put_same (f : Fld) (b : Bool) (u j : Nat) : (s.put f b u j).rd f u j = b2n b % 2 ^ f.wid := by
  simp [State.put]

theorem State.rd_put_other {f g : Fld} {b : Bool} {u j u' j' : Nat} (h : g.id ≠ f.id) : (s.put f b u j).rd g u' j' = s.rd g u' j' :=
  State.rd_wr_other s h

@[simp] theorem State.rd_putBit_same (f : Fld) (b : Nat) (v : Bool) (u j : Nat) :
    (s.putBit f b v u j).rd f u j = Sys2Proof.putBit (s.rd f u j) b v % 2 ^ f.wid := by
  simp [State.putBit]

theorem State.rd_putBit_other {f g : Fld} {b : Nat} {v : Bool} {u j u' j' : Nat} (h : g.id ≠ f.id) :
    (s.putBit f b v u j).rd g u' j' = s.rd g u' j' := State.rd_wr_other s h

theorem State.rd_putVec_other {f g : Fld} {n : Nat} {v : Bool} {u u' j' : Nat} (h : g.id ≠ f.id) :
    (s.putVec f n v u).rd g u' j' = s.rd g u' j' := State.rd_putBit_other h

@[simp] theorem State.rd_count_same (f : Fld) (n u j : Nat) :
    (s.count f n u j).rd f u j = satAdd f.wid (s.rd f u j) n % 2 ^ f.wid := by
  simp [State.count]

theorem State.rd_count_other {f g : Fld} {n u j u' j' : Nat} (h : g.id ≠ f.id) : (s.count f n u j).rd g u' j' = s.rd g u' j' :=
  State.rd_wr_other s h

@[simp] theorem State.rd_countWrap_same (f : Fld) (n u j : Nat) : (s.countWrap f n u j).rd f u j = (s.rd f u j + n) % 2 ^ f.wid := by
  simp [State.countWrap]

theorem State.rd_countWrap_other {f g : Fld} {n u j u' j' : Nat} (h : g.id ≠ f.id) :
    (s.countWrap f n u j).rd g u' j' = s.rd g u' j' := State.rd_wr_other s h

@[simp] theorem State.requestVector_regs (v : Nat) : (s.requestVector v).regs = s.regs := by
  simp only [State.requestVector]
  split
  · rfl
  · split
    · rfl
    · split <;> rfl

@[simp] theorem State.rd_requestVector (v : Nat) (f : Fld) (u j : Nat) : (s.requestVector v).rd f u j = s.rd f u j :=
  State.rd_of_regs (s.requestVector_regs v) f u j

theorem State.rd_raise_other {st en ve g : Fld} {b u j : Nat} (h : g.id ≠ st.id) : (s.raise st en ve b).rd g u j = s.rd g u j := by
  simp only [State.raise]
  split
  · rfl
  · split
    · rw [State.rd_requestVector]; exact State.rd_putBit_other h
    · exact State.rd_putBit_other h

theorem State.rd_setReady_other {g : Fld} {b : Nat} {v : Bool} {u j : Nat} (h1 : g.id ≠ FM_READY.READY.id)
    (h2 : g.id ≠ FM_IRQ_STATUS.SRC.id) : (s.setReady b v).rd g u j = s.rd g u j := by
  simp only [State.setReady]
  split
  · rfl
  · rw [State.rd_raise_other h2, State.rd_putBit_other h1]

theorem State.rd_recordStep_other {g : Fld} {i c u j : Nat} (h : g.id ≠ FM_START_REC.REC.id) :
    (s.recordStep i c).rd g u j = s.rd g u j := by
  simp only [State.recordStep]
  split
  · simp [State.rd_wr_other s h]
  · simp [State.rd_wr_other s h]

@[simp] theorem State.recordStep_clk (i c : Nat) : (s.recordStep i c).clk = s.clk := by
  simp only [State.recordStep]
  split <;> rfl

theorem State.rd_en (g : Crypto → Crypto) (f : Fld) (u j : Nat) : (s.en g).rd f u j = s.rd f u j := rfl

/-! ### Single bits -/

theorem putBit_testBit_same (v b : Nat) (x : Bool) : (Sys2Proof.putBit v b x).testBit b = x := by
  cases x
  · simp only [Sys2Proof.putBit, clearBit, Bool.false_eq_true, if_false]
    split
    · rename_i h
      rw [Nat.testBit_eq_decide_div_mod_eq] at h ⊢
      have h := of_decide_eq_true h
      rw [Nat.one_shiftLeft]
      have e : (v - 2 ^ b) / 2 ^ b = v / 2 ^ b - 1 := by
        have := Nat.sub_mul_div v (2 ^ b) 1
        simpa using this
      rw [e]
      exact decide_eq_false (by omega)
    · rename_i h
      simpa using h
  · simp [Sys2Proof.putBit, setBit, Nat.one_shiftLeft, Nat.testBit_or, Nat.testBit_two_pow_self]

theorem putBit_testBit_other (v : Nat) {b c : Nat} (x : Bool) (h : c ≠ b) : (Sys2Proof.putBit v b x).testBit c = v.testBit c := by
  cases x
  · simp only [Sys2Proof.putBit, clearBit, Bool.false_eq_true, if_false]
    split
    · rename_i hb
      rw [Nat.testBit_eq_decide_div_mod_eq] at hb
      have hb := of_decide_eq_true hb
      obtain ⟨m, hm⟩ : ∃ m, v / 2 ^ b = 2 * m + 1 := ⟨v / 2 ^ b / 2, by omega⟩
      have hr : v % 2 ^ b < 2 ^ b := Nat.mod_lt _ (Nat.two_pow_pos b)
      have hv : v = 2 ^ b * (2 * m + 1) + v % 2 ^ b := by rw [← hm]; exact (Nat.div_add_mod v (2 ^ b)).symm
      have hs : v - 1 <<< b = 2 ^ b * (2 * m) + v % 2 ^ b := by
        rw [Nat.one_shiftLeft]
        have : 2 ^ b * (2 * m + 1) = 2 ^ b * (2 * m) + 2 ^ b := by ring
        omega
      rw [hs]
      conv_rhs => rw [hv]
      rw [Nat.testBit_two_pow_mul_add _ hr, Nat.testBit_two_pow_mul_add _ hr]
      split
      · rfl
      · obtain ⟨k, hk⟩ : ∃ k, c - b = k + 1 := ⟨c - b - 1, by omega⟩
        rw [hk, Nat.testBit_succ, Nat.testBit_succ]
        congr 1
        omega
    · rfl
  · simp [Sys2Proof.putBit, setBit, Nat.one_shiftLeft, Nat.testBit_or, Nat.testBit_two_pow, Ne.symm h]

/-- The bit put into a field, where the field has it. -/
theorem State.bit_putBit_same {f : Fld} {b : Nat} {v : Bool} {u j : Nat} (h : b < f.wid) : (s.putBit f b v u j).bit f b u j = v := by
  simp [State.bit, Nat.testBit_mod_two_pow, h, putBit_testBit_same]

/-- Every other bit of the field. -/
theorem State.bit_putBit_ne {f : Fld} {b c : Nat} {v : Bool} {u j : Nat} (h : c ≠ b) :
    (s.putBit f b v u j).bit f c u j = (decide (c < f.wid) && s.bit f c u j) := by
  simp [State.bit, Nat.testBit_mod_two_pow, putBit_testBit_other _ _ h]

theorem State.vec_putVec_same {f : Fld} {n : Nat} {v : Bool} {u : Nat} (h : 64 ≤ f.wid) : (s.putVec f n v u).vec f n u = v :=
  State.bit_putBit_same (Nat.lt_of_lt_of_le (Nat.mod_lt n (by decide)) h)

/-- The ready bit set is the one asked for. -/
theorem State.ready_setReady {b : Nat} {v : Bool} (h : b < 64) : (s.setReady b v).ready b = v := by
  unfold State.setReady
  split
  · assumption
  · unfold State.ready State.bit
    rw [State.rd_raise_other (by decide)]
    exact State.bit_putBit_same h

/-! ### Frames -/

theorem State.regsKeptBut.refl : s.regsKeptBut s ks := fun _ _ _ _ => rfl

/-- A change outside the registers. -/
theorem State.regsKeptBut.hidden (h : s.regsKeptBut t ks) (e : t'.regs = t.regs) : s.regsKeptBut t' ks := by
  intro g u j hg
  rw [State.rd_of_regs e, h g u j hg]

theorem State.regsKeptBut.wr {f : Fld} {v u j : Nat} (hk : f.key u j ∈ ks) (h : s.regsKeptBut t ks) : s.regsKeptBut (t.wr f v u j) ks := by
  intro g u' j' hg
  rw [State.rd_wr_ne, h g u' j' hg]
  intro e
  exact hg ((show g.key u' j' = f.key u j from e) ▸ hk)

theorem State.regsKeptBut.put {f : Fld} {b : Bool} {u j : Nat} (hk : f.key u j ∈ ks) (h : s.regsKeptBut t ks) :
    s.regsKeptBut (t.put f b u j) ks := h.wr hk

theorem State.regsKeptBut.count {f : Fld} {n u j : Nat} (hk : f.key u j ∈ ks) (h : s.regsKeptBut t ks) :
    s.regsKeptBut (t.count f n u j) ks := h.wr hk

theorem State.regsKeptBut.countWrap {f : Fld} {n u j : Nat} (hk : f.key u j ∈ ks) (h : s.regsKeptBut t ks) :
    s.regsKeptBut (t.countWrap f n u j) ks := h.wr hk

theorem State.regsKeptBut.putBit {f : Fld} {b : Nat} {v : Bool} {u j : Nat} (hk : f.key u j ∈ ks) (h : s.regsKeptBut t ks) :
    s.regsKeptBut (t.putBit f b v u j) ks := h.wr hk

theorem State.regsKeptBut.putVec {f : Fld} {n : Nat} {v : Bool} {u : Nat} (hk : f.key u (n / 64) ∈ ks) (h : s.regsKeptBut t ks) :
    s.regsKeptBut (t.putVec f n v u) ks := h.wr hk

theorem State.regsKeptBut.post {src code sev arg : Nat} (h : s.regsKeptBut t ks) : s.regsKeptBut (t.post src code sev arg) ks :=
  h.hidden rfl

theorem State.regsKeptBut.emit {e : Emission} (h : s.regsKeptBut t ks) : s.regsKeptBut (t.emit e) ks := h.hidden rfl

theorem State.regsKeptBut.drawn (h : s.regsKeptBut t ks) : s.regsKeptBut t.drawn ks := h.hidden rfl

theorem State.regsKeptBut.requestVector {v : Nat} (h : s.regsKeptBut t ks) : s.regsKeptBut (t.requestVector v) ks :=
  h.hidden (t.requestVector_regs v)

theorem State.regsKeptBut.raise {st en ve : Fld} {b : Nat} (hk : st.key ∈ ks) (h : s.regsKeptBut t ks) :
    s.regsKeptBut (t.raise st en ve b) ks := by
  simp only [State.raise]
  split
  · exact h
  · split
    · exact (h.putBit hk).requestVector
    · exact h.putBit hk

theorem State.regsKeptBut.setReady {b : Nat} {v : Bool} (h1 : FM_READY.READY.key ∈ ks) (h2 : FM_IRQ_STATUS.SRC.key ∈ ks)
    (h : s.regsKeptBut t ks) : s.regsKeptBut (t.setReady b v) ks := by
  simp only [State.setReady]
  split
  · exact h
  · exact (h.putBit h1).raise h2

theorem State.regsKeptBut.recordStep {i c : Nat} (hk : FM_START_REC.REC.key ∈ ks) (h : s.regsKeptBut t ks) :
    s.regsKeptBut (t.recordStep i c) ks := by
  simp only [State.recordStep]
  split
  · exact (h.wr hk).hidden rfl
  · exact (h.wr hk).hidden rfl

theorem State.regsKeptBut.setStope {n : Nat} {x : Stope} (h : s.regsKeptBut t ks) : s.regsKeptBut (t.setStope n x) ks := h.hidden rfl

theorem State.regsKeptBut.updStope {n : Nat} {g : Stope → Stope} (h : s.regsKeptBut t ks) : s.regsKeptBut (t.updStope n g) ks :=
  h.hidden rfl

theorem State.regsKeptBut.foldl {α : Type} {f : State → α → State} {l : List α} (h : s.regsKeptBut t ks)
    (k : ∀ t a, a ∈ l → s.regsKeptBut t ks → s.regsKeptBut (f t a) ks) : s.regsKeptBut (l.foldl f t) ks := by
  induction l generalizing t with
  | nil => exact h
  | cons a l ih => exact ih (k t a (by simp) h) (fun t b hb => k t b (by simp [hb]))

end Sys2Proof.Machine
end

