-- ==== Sys2Proof/Laws/Moves.lean ====
section
/-! SUPPORT. What any operation may do to the state as a whole: the queue stays, the record of what went out only grows,
tables keep their canonical form, and the memories that the operation does not name keep their contents. -/

namespace Sys2Proof.Machine

/-- The number of a part in the mask of a footprint. -/
def Part.code : Part → Nat
  | .regs b => b.code
  | .clk => 32
  | .msix => 33
  | .winder => 34
  | .lanes => 35
  | .xp => 36
  | .sampler => 37
  | .dram => 38
  | .crypto => 39
  | .scrubs => 40
  | .pins => 41
  | .loader => 42
  | .bell => 43
  | .cage => 44
  | .gallery => 45
  | .tram => 46
  | .fm => 47
  | .shift => 48
  | .trace => 49
  | .lamp => 50
  | .events => 51
  | .sent => 52
  | .stopes => 53

theorem Part.code_inj {p q : Part} (h : p.code = q.code) : p = q := by
  cases p with
  | regs a => cases q with
    | regs b => exact congrArg _ (by revert h; cases a <;> cases b <;> decide)
    | _ => exact absurd h (by cases a <;> decide)
  | _ => cases q with
    | regs b => exact absurd h (by cases b <;> decide)
    | _ => first | rfl | exact absurd h (by decide)

/-- A mask of parts within another. -/
def Sub (m p : Nat) : Prop := ∀ i, m.testBit i = true → p.testBit i = true

theorem Sub.bit {m p i : Nat} (h : Sub m p) (e : m.testBit i = true) : p.testBit i = true := h i e

theorem Sub.sub {m m' p : Nat} (h : Sub m p) (e : m' ||| m = m) : Sub m' p := fun i k => h i (by rw [← e, Nat.testBit_or, k, Bool.true_or])

theorem Sub.out {m p i : Nat} {q : Prop} (h : Sub m p) (e : m.testBit i = true) : p.testBit i = false → q := by
  rw [h i e]; intro k; cases k

theorem Sub.any {m p : Nat} (h : Sub m p) (e : 16777215 ||| m = m) {b : Block} : p.testBit b.code = true :=
  h.sub e _ (by cases b <;> rfl)

theorem Sub.mem {m p : Nat} {l : List Fld} {f : Fld} (h : Sub m p) (k : f ∈ l) (e : l.all (fun f => m.testBit f.blk.code) = true) :
    p.testBit f.blk.code = true := h _ (by rw [List.all_eq_true] at e; exact e f k)

theorem Sub.ab {m p n : Nat} {a b : Fld} (h : Sub m p) (e : m.testBit a.blk.code = true) (e' : m.testBit b.blk.code = true) :
    p.testBit (ab n a b).blk.code = true := by
  unfold Machine.ab
  split
  · exact h _ e
  · exact h _ e'

/-- The mask of a list of parts. -/
def partsMask (l : List Part) : Nat := l.foldl (fun m p => m ||| 1 <<< p.code) 0

theorem Sub.list {m p : Nat} {l : List Part} (h : p = partsMask l) (e : Nat.beq (m ||| partsMask l) (partsMask l) = true) : Sub m p :=
  fun i k => by rw [h, ← Nat.eq_of_beq_eq_true e, Nat.testBit_or, k, Bool.true_or]

theorem partsMask_not {l : List Part} {p : Part} (h : p ∉ l) : (partsMask l).testBit p.code = false := by
  have k : ∀ (l : List Part) (m : Nat), m.testBit p.code = false → p ∉ l →
      (l.foldl (fun m p => m ||| 1 <<< p.code) m).testBit p.code = false := by
    intro l
    induction l with
    | nil => exact fun m hm _ => hm
    | cons q l ih =>
      intro m hm hq
      refine ih _ ?_ (fun k => hq (by simp [k]))
      rw [Nat.testBit_or, hm, Nat.one_shiftLeft, Nat.testBit_two_pow, Bool.false_or]
      exact decide_eq_false (fun e => hq (by simp [Part.code_inj e]))
  exact k l 0 (by simp) h

theorem findReg_mem {rows : List RegRow} {off : Nat} {r : RegRow} {j : Nat} (h : findReg rows off = some (r, j)) : r ∈ rows := by
  unfold findReg at h
  split at h
  · cases Option.some.inj h
    exact List.mem_of_find?_eq_some (by assumption)
  · cases h

theorem tableTr_blk : ∀ r ∈ tableTr, ∀ f ∈ r.fields, f.blk = .tr := by decide

theorem Sub.tr {m p off j : Nat} {r : RegRow} (h : Sub m p) (e : findReg tableTr off = some (r, j)) (k : m.testBit 2 = true) :
    ∀ f ∈ r.fields, p.testBit f.blk.code = true := fun f hf => by
  rw [tableTr_blk r (findReg_mem e) f hf]; exact h _ k

/-- The block that a field number carries. -/
theorem Fld.idBlock_id (f : Fld) : Fld.idBlock f.id = f.blk.code := by
  have h : f.blk.code < 32 := by cases f.blk <;> decide
  have h1 : b2n f.keepWarm < 2 := by cases f.keepWarm <;> decide
  have h2 : b2n f.keepUnit < 2 := by cases f.keepUnit <;> decide
  unfold Fld.idBlock Fld.id
  omega

/-- The memories that an operation may change, and the mask of the parts. -/
structure Foot where
  mem : Bool
  fabMem : Bool
  frames : Bool
  flash : Bool
  keys : Bool
  parts : Nat

/-- From `s` to `t`: what every operation keeps, and what an operation of this footprint keeps. -/
structure Moves (F : Foot) (s t : State) : Prop where
  pending : t.pending = s.pending
  sent : s.sent <+: t.sent
  free : s.freeCount ≤ t.freeCount
  regsOk : Tab.rising Key.lt s.regs = true → Tab.rising Key.lt t.regs = true
  memOk : Memory.wf s.mem = true → Memory.wf t.mem = true
  unitsOk : s.unitsWf = true → t.unitsWf = true
  framesOk : s.framesWf = true → t.framesWf = true
  stopesOk : Tab.wf natLt Stope.cold s.stopes = true → Tab.wf natLt Stope.cold t.stopes = true
  mem : F.mem = false → t.mem = s.mem
  fabMem : F.fabMem = false → t.fabMem = s.fabMem ∧ t.fabErr = s.fabErr
  frames : F.frames = false → t.frames = s.frames ∧ t.frameErr = s.frameErr
  flash : F.flash = false → t.flash = s.flash
  keys : F.keys = false → t.crypto.slots = s.crypto.slots ∧ t.crypto.owner = s.crypto.owner
  parts : ∀ p : Part, F.parts.testBit p.code = false → s.partKept t p

theorem State.partKept.rfl' {s : State} (p : Part) : s.partKept s p := by
  cases p <;> first | rfl | exact fun _ _ _ _ => rfl

theorem State.partKept.trans {s t u : State} {p : Part} (h : s.partKept t p) (k : t.partKept u p) : s.partKept u p := by
  cases p with
  | regs b => exact fun f a j e => (k f a j e).trans (h f a j e)
  | _ => exact Eq.trans (a := _) k h

variable {F : Foot} {s₀ s t u : State}

theorem Moves.refl : Moves F s s :=
  ⟨rfl, List.prefix_refl _, Nat.le_refl _, id, id, id, id, id, fun _ => rfl, fun _ => ⟨rfl, rfl⟩, fun _ => ⟨rfl, rfl⟩, fun _ => rfl,
    fun _ => ⟨rfl, rfl⟩, fun p _ => State.partKept.rfl' p⟩

theorem Moves.trans (h : Moves F s t) (k : Moves F t u) : Moves F s u :=
  ⟨k.pending.trans h.pending, h.sent.trans k.sent, h.free.trans k.free, k.regsOk ∘ h.regsOk, k.memOk ∘ h.memOk, k.unitsOk ∘ h.unitsOk,
    k.framesOk ∘ h.framesOk, k.stopesOk ∘ h.stopesOk, fun e => (k.mem e).trans (h.mem e), fun e => ⟨(k.fabMem e).1.trans (h.fabMem e).1, (k.fabMem e).2.trans (h.fabMem e).2⟩,
    fun e => ⟨(k.frames e).1.trans (h.frames e).1, (k.frames e).2.trans (h.frames e).2⟩, fun e => (k.flash e).trans (h.flash e),
    fun e => ⟨(k.keys e).1.trans (h.keys e).1, (k.keys e).2.trans (h.keys e).2⟩, fun p e => (h.parts p e).trans (k.parts p e)⟩

/-- A change that keeps what no footprint names. -/
theorem Moves.hidden (h : Moves F s₀ s) (h1 : t.regs = s.regs) (h2 : t.pending = s.pending) (h3 : t.sent = s.sent)
    (h4 : t.freeCount = s.freeCount) (h5 : t.mem = s.mem) (h6 : t.fabMem = s.fabMem) (h7 : t.stopes = s.stopes)
    (h8 : t.frames = s.frames) (h9 : t.flash = s.flash) (h10 : t.crypto.slots = s.crypto.slots)
    (h11 : t.crypto.owner = s.crypto.owner) (h12 : t.fabErr = s.fabErr) (h13 : t.frameErr = s.frameErr)
    (hp : ∀ p : Part, F.parts.testBit p.code = false → s.partKept t p) : Moves F s₀ t :=
  h.trans ⟨h2, h3 ▸ List.prefix_refl _, h4 ▸ Nat.le_refl _, by rw [h1]; exact id, by rw [h5]; exact id,
    by rw [State.unitsWf, State.unitsWf, h6, h12]; exact id, by rw [State.framesWf, State.framesWf, h8, h13]; exact id,
    by rw [h7]; exact id, fun _ => h5, fun _ => ⟨h6, h12⟩, fun _ => ⟨h8, h13⟩, fun _ => h9, fun _ => ⟨h10, h11⟩, hp⟩

/-- The parts are kept where the two states share all but memories. -/
theorem partKept_of (h1 : t.regs = s.regs) (k0 : t.clk = s.clk) (k1 : t.msix = s.msix) (k2 : t.winder = s.winder) (k3 : t.lanes = s.lanes) (k4 : t.xp = s.xp) (k5 : t.sampler = s.sampler) (k6 : t.dram = s.dram) (k7 : t.crypto = s.crypto) (k8 : t.scrubs = s.scrubs) (k9 : t.pins = s.pins) (k10 : t.loader = s.loader) (k11 : t.bell = s.bell) (k12 : t.cage = s.cage) (k13 : t.gallery = s.gallery) (k14 : t.tram = s.tram) (k15 : t.fm = s.fm) (k16 : t.shift = s.shift) (k17 : t.trace = s.trace) (k18 : t.lamp = s.lamp) (k19 : t.events = s.events) (k20 : t.sent = s.sent) (k21 : t.stopes = s.stopes) (p : Part) :
    s.partKept t p := by
  cases p with
  | regs b => exact fun f u j _ => by rw [State.rd, State.rd, h1]
  | clk => exact k0
  | msix => exact k1
  | winder => exact k2
  | lanes => exact k3
  | xp => exact k4
  | sampler => exact k5
  | dram => exact k6
  | crypto => exact k7
  | scrubs => exact k8
  | pins => exact k9
  | loader => exact k10
  | bell => exact k11
  | cage => exact k12
  | gallery => exact k13
  | tram => exact k14
  | fm => exact k15
  | shift => exact k16
  | trace => exact k17
  | lamp => exact k18
  | events => exact k19
  | sent => exact k20
  | stopes => exact k21

/-- A use of what has been shown of an intermediate state. -/
theorem Moves.cut {p : Prop} (h : Moves F s₀ t) (k : Moves F s₀ t → p) : p := k h

theorem Moves.foldl {α : Type} {f : State → α → State} {l : List α} (h : Moves F s₀ s)
    (k : ∀ t a, a ∈ l → Moves F s₀ t → Moves F s₀ (f t a)) : Moves F s₀ (l.foldl f s) := by
  induction l generalizing s with
  | nil => exact h
  | cons a l ih => exact ih (k s a (List.mem_cons_self ..) h) (fun t b hb => k t b (List.mem_cons_of_mem _ hb))

/-- A fold that carries more beside the state. -/
theorem Moves.foldl2 {α β : Type} {f : β × State → α → β × State} {l : List α} {x : β × State} (h : Moves F s₀ x.2)
    (k : ∀ y a, Moves F s₀ y.2 → Moves F s₀ (f y a).2) : Moves F s₀ (l.foldl f x).2 := by
  induction l generalizing x with
  | nil => exact h
  | cons a l ih => exact ih (k x a h)

theorem Moves.foldl1 {α β : Type} {f : State × β → α → State × β} {l : List α} {x : State × β} (h : Moves F s₀ x.1)
    (k : ∀ y a, Moves F s₀ y.1 → Moves F s₀ (f y a).1) : Moves F s₀ (l.foldl f x).1 := by
  induction l generalizing x with
  | nil => exact h
  | cons a l ih => exact ih (k x a h)

/-- The register table replaced by one in canonical form that keeps the blocks outside the footprint. -/
theorem Moves.newRegs {l : List (Key × Nat)} (hl : Tab.rising Key.lt s.regs = true → Tab.rising Key.lt l = true)
    (hp : ∀ f : Fld, F.parts.testBit f.blk.code = false → ∀ u j, Tab.get (f.coldAt u j) l ⟨f.id, u, j⟩ = s.rd f u j)
    (h : Moves F s₀ s) : Moves F s₀ { s with regs := l } :=
  h.trans ⟨rfl, List.prefix_refl _, Nat.le_refl _, hl, id, id, id, id, fun _ => rfl, fun _ => ⟨rfl, rfl⟩, fun _ => ⟨rfl, rfl⟩,
    fun _ => rfl, fun _ => ⟨rfl, rfl⟩, fun p e => by
      cases p with
      | regs b => exact fun f u j k => hp f (by rw [k]; exact e) u j
      | _ => exact rfl⟩

theorem Moves.newMem {l : List Host.Cell} (hF : F.mem = true) (hl : Memory.wf s.mem = true → Memory.wf l = true)
    (h : Moves F s₀ s) : Moves F s₀ { s with mem := l } :=
  h.trans ⟨rfl, List.prefix_refl _, Nat.le_refl _, id, hl, id, id, id, by simp [hF], fun _ => ⟨rfl, rfl⟩, fun _ => ⟨rfl, rfl⟩,
    fun _ => rfl, fun _ => ⟨rfl, rfl⟩, fun p _ => partKept_of rfl rfl rfl rfl rfl rfl rfl rfl rfl rfl rfl rfl rfl rfl rfl rfl rfl rfl rfl rfl rfl rfl rfl p⟩

theorem Moves.newUnits {l l' : List (Key × Nat)} (hF : F.fabMem = true)
    (hl : s.unitsWf = true → Tab.wf Key.lt 0 l = true ∧ Tab.wf Key.lt 0 l' = true)
    (h : Moves F s₀ s) : Moves F s₀ { s with fabMem := l, fabErr := l' } :=
  h.trans ⟨rfl, List.prefix_refl _, Nat.le_refl _, id, id, fun e => by simp [State.unitsWf, hl e], id, id, fun _ => rfl,
    by simp [hF], fun _ => ⟨rfl, rfl⟩, fun _ => rfl, fun _ => ⟨rfl, rfl⟩, fun p _ => partKept_of rfl rfl rfl rfl rfl rfl rfl rfl rfl rfl rfl rfl rfl rfl rfl rfl rfl rfl rfl rfl rfl rfl rfl p⟩

theorem Moves.newFrames {l l' : List (Key × Nat)} (hF : F.frames = true)
    (hl : s.framesWf = true → Tab.wf Key.lt 0 l = true ∧ Tab.wf Key.lt 0 l' = true)
    (h : Moves F s₀ s) : Moves F s₀ { s with frames := l, frameErr := l' } :=
  h.trans ⟨rfl, List.prefix_refl _, Nat.le_refl _, id, id, id, fun e => by simp [State.framesWf, hl e], id, fun _ => rfl,
    fun _ => ⟨rfl, rfl⟩, by simp [hF], fun _ => rfl, fun _ => ⟨rfl, rfl⟩, fun p _ => partKept_of rfl rfl rfl rfl rfl rfl rfl rfl rfl rfl rfl rfl rfl rfl rfl rfl rfl rfl rfl rfl rfl rfl rfl p⟩

theorem Moves.newStopes {l : List (Nat × Stope)} (hq : F.parts.testBit 53 = true)
    (hl : Tab.wf natLt Stope.cold s.stopes = true → Tab.wf natLt Stope.cold l = true)
    (h : Moves F s₀ s) : Moves F s₀ { s with stopes := l } :=
  h.trans ⟨rfl, List.prefix_refl _, Nat.le_refl _, id, id, id, id, hl, fun _ => rfl, fun _ => ⟨rfl, rfl⟩, fun _ => ⟨rfl, rfl⟩,
    fun _ => rfl, fun _ => ⟨rfl, rfl⟩, fun p e => by
      cases p with
      | regs b => exact fun _ _ _ _ => rfl
      | stopes => exact absurd (e.symm.trans hq) (by decide)
      | _ => exact rfl⟩

theorem Moves.newFlash {x : Flash} (hF : F.flash = true) (h : Moves F s₀ s) : Moves F s₀ { s with flash := x } :=
  h.trans ⟨rfl, List.prefix_refl _, Nat.le_refl _, id, id, id, id, id, fun _ => rfl, fun _ => ⟨rfl, rfl⟩, fun _ => ⟨rfl, rfl⟩,
    by simp [hF], fun _ => ⟨rfl, rfl⟩, fun p _ => partKept_of rfl rfl rfl rfl rfl rfl rfl rfl rfl rfl rfl rfl rfl rfl rfl rfl rfl rfl rfl rfl rfl rfl rfl p⟩

theorem Moves.flash_iff {x : Flash} (hF : F.flash = true) : Moves F s₀ { s with flash := x } ↔ Moves F s₀ s :=
  ⟨fun h => Moves.newFlash (s := { s with flash := x }) (x := s.flash) hF h, Moves.newFlash hF⟩

theorem Moves.newCrypto {x : Crypto} (hF : F.keys = true) (hq : F.parts.testBit 39 = true) (h : Moves F s₀ s) :
    Moves F s₀ { s with crypto := x } :=
  h.trans ⟨rfl, List.prefix_refl _, Nat.le_refl _, id, id, id, id, id, fun _ => rfl, fun _ => ⟨rfl, rfl⟩, fun _ => ⟨rfl, rfl⟩,
    fun _ => rfl, by simp [hF], fun p e => by
      cases p with
      | regs b => exact fun _ _ _ _ => rfl
      | crypto => exact absurd (e.symm.trans hq) (by decide)
      | _ => exact rfl⟩

/-! ### The updates that everything is built of -/

theorem State.wr_moves {f : Fld} {v u j : Nat} (hq : F.parts.testBit f.blk.code = true) (h : Moves F s₀ s) : Moves F s₀ (s.wr f v u j) :=
  Moves.newRegs (fun e => Tab.rising_set keyLt_order _ _ _ e) (fun g hg u' j' => by
    refine Tab.get_set_ne _ _ _ _ _ (fun e => ?_)
    have k : g.id = f.id := congrArg Key.id e
    have k := congrArg Fld.idBlock k
    rw [Fld.idBlock_id, Fld.idBlock_id] at k
    rw [k, hq] at hg
    cases hg) h

theorem State.emit_moves {e : Emission} (hq : F.parts.testBit 52 = true) (h : Moves F s₀ s) : Moves F s₀ (s.emit e) :=
  h.trans ⟨rfl, List.prefix_append _ _, Nat.le_refl _, id, id, id, id, id, fun _ => rfl, fun _ => ⟨rfl, rfl⟩, fun _ => ⟨rfl, rfl⟩,
    fun _ => rfl, fun _ => ⟨rfl, rfl⟩, fun p e => by
      cases p with
      | regs b => exact fun _ _ _ _ => rfl
      | sent => exact absurd (e.symm.trans hq) (by decide)
      | _ => exact rfl⟩

theorem State.drawn_moves (h : Moves F s₀ s) : Moves F s₀ s.drawn :=
  h.trans ⟨rfl, List.prefix_refl _, Nat.le_succ _, id, id, id, id, id, fun _ => rfl, fun _ => ⟨rfl, rfl⟩, fun _ => ⟨rfl, rfl⟩,
    fun _ => rfl, fun _ => ⟨rfl, rfl⟩, fun p _ => partKept_of rfl rfl rfl rfl rfl rfl rfl rfl rfl rfl rfl rfl rfl rfl rfl rfl rfl rfl rfl rfl rfl rfl rfl p⟩

theorem State.putByte_moves (hF : F.mem = true) {a : Nat} {b : BitVec 8} (h : Moves F s₀ s) : Moves F s₀ (s.putByte a b) :=
  Moves.newMem hF (fun e => Tab.wf_set natLt_order _ _ _ e) h

theorem State.setStope_moves {n : Nat} {x : Stope} (hq : F.parts.testBit 53 = true) (h : Moves F s₀ s) : Moves F s₀ (s.setStope n x) :=
  Moves.newStopes hq (fun e => Tab.wf_set natLt_order _ _ _ e) h

/-- A change of hidden state that the footprint names, as a record update spells it. -/
theorem Moves.mk_iff {clk_ : Clocks} {msix_ : Msix} {winder_ : Winder} {lanes_ : List (Nat × Lane)} {xp_ : List (Nat × XpSub)} {sampler_ : Sampler} {dram_ : Dram} {scrubs_ : List (Nat × Scrub)} {pins_ : List (Nat × Pin)} {loader_ : Loader} {bell_ : Bell} {cage_ : Cage} {gallery_ : Gallery} {tram_ : Tram} {fm_ : Foreman} {shift_ : Shift} {trace_ : Trace} {lamp_ : Lamp} {events_ : List LogEvent}
    (kclk : F.parts.testBit 32 = false → clk_ = s.clk) (kmsix : F.parts.testBit 33 = false → msix_ = s.msix) (kwinder : F.parts.testBit 34 = false → winder_ = s.winder) (klanes : F.parts.testBit 35 = false → lanes_ = s.lanes) (kxp : F.parts.testBit 36 = false → xp_ = s.xp) (ksampler : F.parts.testBit 37 = false → sampler_ = s.sampler) (kdram : F.parts.testBit 38 = false → dram_ = s.dram) (kscrubs : F.parts.testBit 40 = false → scrubs_ = s.scrubs) (kpins : F.parts.testBit 41 = false → pins_ = s.pins) (kloader : F.parts.testBit 42 = false → loader_ = s.loader) (kbell : F.parts.testBit 43 = false → bell_ = s.bell) (kcage : F.parts.testBit 44 = false → cage_ = s.cage) (kgallery : F.parts.testBit 45 = false → gallery_ = s.gallery) (ktram : F.parts.testBit 46 = false → tram_ = s.tram) (kfm : F.parts.testBit 47 = false → fm_ = s.fm) (kshift : F.parts.testBit 48 = false → shift_ = s.shift) (ktrace : F.parts.testBit 49 = false → trace_ = s.trace) (klamp : F.parts.testBit 50 = false → lamp_ = s.lamp) (kevents : F.parts.testBit 51 = false → events_ = s.events) :
    Moves F s₀ (State.mk s.regs s.mem s.fabMem s.fabErr clk_ s.stopes msix_ winder_ lanes_ xp_ sampler_ dram_ s.crypto scrubs_ pins_ loader_ s.frames s.frameErr bell_ cage_ gallery_ tram_ s.flash fm_ shift_ trace_ lamp_ events_ s.sent s.freeCount s.pending) ↔ Moves F s₀ s :=
  ⟨fun h => h.hidden rfl rfl rfl rfl rfl rfl rfl rfl rfl rfl rfl rfl rfl (fun p e => by
      cases p with
      | regs b => exact fun _ _ _ _ => rfl
      | clk => exact (kclk e).symm
      | msix => exact (kmsix e).symm
      | winder => exact (kwinder e).symm
      | lanes => exact (klanes e).symm
      | xp => exact (kxp e).symm
      | sampler => exact (ksampler e).symm
      | dram => exact (kdram e).symm
      | scrubs => exact (kscrubs e).symm
      | pins => exact (kpins e).symm
      | loader => exact (kloader e).symm
      | bell => exact (kbell e).symm
      | cage => exact (kcage e).symm
      | gallery => exact (kgallery e).symm
      | tram => exact (ktram e).symm
      | fm => exact (kfm e).symm
      | shift => exact (kshift e).symm
      | trace => exact (ktrace e).symm
      | lamp => exact (klamp e).symm
      | events => exact (kevents e).symm
      | _ => exact rfl),
    fun h => h.hidden rfl rfl rfl rfl rfl rfl rfl rfl rfl rfl rfl rfl rfl (fun p e => by
      cases p with
      | regs b => exact fun _ _ _ _ => rfl
      | clk => exact kclk e
      | msix => exact kmsix e
      | winder => exact kwinder e
      | lanes => exact klanes e
      | xp => exact kxp e
      | sampler => exact ksampler e
      | dram => exact kdram e
      | scrubs => exact kscrubs e
      | pins => exact kpins e
      | loader => exact kloader e
      | bell => exact kbell e
      | cage => exact kcage e
      | gallery => exact kgallery e
      | tram => exact ktram e
      | fm => exact kfm e
      | shift => exact kshift e
      | trace => exact ktrace e
      | lamp => exact klamp e
      | events => exact kevents e
      | _ => exact rfl)⟩

/-- A change of the keys' block that leaves the keys. -/
theorem State.en_moves {g : Crypto → Crypto} (hg : ∀ c, (g c).slots = c.slots ∧ (g c).owner = c.owner)
    (hq : F.parts.testBit 39 = true) (h : Moves F s₀ s) : Moves F s₀ (s.en g) :=
  h.hidden rfl rfl rfl rfl rfl rfl rfl rfl rfl (hg _).1 (hg _).2 rfl rfl (fun p e => by
      cases p with
      | regs b => exact fun _ _ _ _ => rfl
      | crypto => exact absurd (e.symm.trans hq) (by decide)
      | _ => exact rfl)

theorem State.en_moves_keys {g : Crypto → Crypto} (hk : F.keys = true) (hq : F.parts.testBit 39 = true) (h : Moves F s₀ s) :
    Moves F s₀ (s.en g) := Moves.newCrypto hk hq h

theorem State.forStopes_moves {l : List Nat} {g : State → Nat → State} (hg : ∀ t n, Moves F s₀ t → Moves F s₀ (g t n))
    (h : Moves F s₀ s) : Moves F s₀ (s.forStopes l g) := Moves.foldl h (fun t n _ => hg t n)

theorem settled_moves {r : Res} (k : ∀ t, r = .next t → Moves F s₀ t) (h : Moves F s₀ s) : Moves F s₀ (settled s r) := by
  cases r with
  | next t => exact k t rfl
  | fault _ => exact h
  | refused _ => exact h

/-- The state that an effect leaves. -/
def Eff.st : Eff → State
  | .exc s _ _ => s
  | .done s _ => s
  | .frozen s => s

theorem Eff.st_exc {c a : Nat} : (Eff.exc s c a).st = s := rfl

theorem Eff.st_done {c : Ctl} : (Eff.done s c).st = s := rfl

theorem Eff.st_frozen : (Eff.frozen s).st = s := rfl

theorem need_next {ok : Bool} (e : need ok s = .next t) : t = s := by
  unfold need at e
  split at e
  · exact (Host.Outcome.next.inj e).symm
  · cases e

end Sys2Proof.Machine
end

