-- ==== Sys2Proof/Laws/MovesA.lean ====
section
/-! SUPPORT. What each operation and meaning of these files may do to the state as a whole (see Moves.lean):
Ops, CryptoOps, SampleOps, WinderOps, Memory, PinOps. -/

namespace Sys2Proof.Machine

set_option linter.unusedTactic false
set_option linter.unreachableTactic false
set_option linter.unusedVariables false
set_option linter.tactic.unusedName false

variable {F : Foot} {s₀ : State}

/-! ### Ops -/

theorem need_moves {ok : Bool} {t : State} {t : State} (e : need ok t = .next t) (h : Moves F s₀ t) : Moves F s₀ t := by
  unfold need at e
  rw [need_next e]; clear e
  repeat' first
    | with_reducible assumption
    | split

theorem State.put_moves {s : State} {f : Fld} {b : Bool} {u : optParam ℕ 0} {j : optParam ℕ 0} (hq : F.parts.testBit f.blk.code = true)  (h : Moves F s₀ s) : Moves F s₀ (State.put s f b u j) := by
  unfold State.put
  repeat' first
    | with_reducible assumption
    | with_reducible refine State.wr_moves ?_ ?_

theorem State.count_moves {s : State} {f : Fld} {n : optParam ℕ 1} {u : optParam ℕ 0} {j : optParam ℕ 0} (hq : F.parts.testBit f.blk.code = true)  (h : Moves F s₀ s) : Moves F s₀ (State.count s f n u j) := by
  unfold State.count
  repeat' first
    | with_reducible assumption
    | with_reducible refine State.wr_moves ?_ ?_

theorem State.countWrap_moves {s : State} {f : Fld} {n : optParam ℕ 1} {u : optParam ℕ 0} {j : optParam ℕ 0} (hq : F.parts.testBit f.blk.code = true)  (h : Moves F s₀ s) : Moves F s₀ (State.countWrap s f n u j) := by
  unfold State.countWrap
  repeat' first
    | with_reducible assumption
    | with_reducible refine State.wr_moves ?_ ?_

theorem State.putBit_moves {s : State} {f : Fld} {b : ℕ} {v : Bool} {u : optParam ℕ 0} {j : optParam ℕ 0} (hq : F.parts.testBit f.blk.code = true)  (h : Moves F s₀ s) : Moves F s₀ (State.putBit s f b v u j) := by
  unfold State.putBit
  repeat' first
    | with_reducible assumption
    | with_reducible refine State.wr_moves ?_ ?_

theorem State.putVec_moves {s : State} {f : Fld} {n : ℕ} {v : Bool} {u : optParam ℕ 0} (hq : F.parts.testBit f.blk.code = true)  (h : Moves F s₀ s) : Moves F s₀ (State.putVec s f n v u) := by
  unfold State.putVec
  repeat' first
    | with_reducible assumption
    | with_reducible refine State.putBit_moves ?_ ?_

theorem State.setFields_moves {s : State} {fs : List Fld} {v : ℕ} {u : optParam ℕ 0} {j : optParam ℕ 0} (hq : ∀ f ∈ fs, F.parts.testBit f.blk.code = true)  (h : Moves F s₀ s) : Moves F s₀ (State.setFields s fs v u j) := by
  unfold State.setFields
  repeat' first
    | with_reducible assumption
    | exact hq _ (by assumption)
    | with_reducible refine State.wr_moves ?_ ?_
    | with_reducible refine Moves.foldl ?_ (fun t a ha ht => ?_)

theorem State.setRaw_moves (hp : Sub 16777215 F.parts) {s : State} {fvs : List (Fld × ℕ)} {u : optParam ℕ 0} {j : optParam ℕ 0} (h : Moves F s₀ s) : Moves F s₀ (State.setRaw s fvs u j) := by
  unfold State.setRaw
  repeat' first
    | with_reducible assumption
    | exact hp.bit rfl
    | exact hp.sub rfl
    | exact hp.any rfl
    | exact Sub.mem (f := a) hp ha (by rfl)
    | with_reducible refine State.wr_moves ?_ ?_
    | with_reducible refine Moves.foldl ?_ (fun t a ha ht => ?_)
    | with_reducible refine Moves.foldl2 ?_ (fun y a ht => ?_)
    | with_reducible refine Moves.foldl1 ?_ (fun y a ht => ?_)

theorem State.post_moves (hp : Sub 2251799813685248 F.parts) {s : State} {src : ℕ} {code : ℕ} {sev : ℕ} {arg : ℕ} (h : Moves F s₀ s) : Moves F s₀ (State.post s src code sev arg) := by
  unfold State.post
  repeat' first
    | with_reducible assumption
    | exact hp.bit rfl
    | exact hp.sub rfl
    | simp (disch := first | exact hp.out rfl | with_reducible exact fun _ => rfl) only [Moves.mk_iff]

theorem State.requestVector_moves (hp : Sub 4503608217305088 F.parts) {s : State} {v : ℕ} (h : Moves F s₀ s) : Moves F s₀ (State.requestVector s v) := by
  unfold State.requestVector
  repeat' first
    | with_reducible assumption
    | exact hp.bit rfl
    | exact hp.sub rfl
    | with_reducible refine State.emit_moves ?_ ?_
    | split
    | simp (disch := first | exact hp.out rfl | with_reducible exact fun _ => rfl) only [Moves.mk_iff]

theorem State.flushPending_moves (hp : Sub 4503608217305088 F.parts) {s : State} (h : Moves F s₀ s) : Moves F s₀ (State.flushPending s) := by
  unfold State.flushPending
  repeat' first
    | with_reducible assumption
    | exact hp.bit rfl
    | exact hp.sub rfl
    | exact Sub.mem (f := a) hp ha (by rfl)
    | with_reducible refine State.requestVector_moves ?_ ?_
    | with_reducible refine Moves.foldl ?_ (fun t a ha ht => ?_)
    | with_reducible refine Moves.foldl2 ?_ (fun y a ht => ?_)
    | with_reducible refine Moves.foldl1 ?_ (fun y a ht => ?_)
    | split
    | simp (disch := first | exact hp.out rfl | with_reducible exact fun _ => rfl) only [Moves.mk_iff]

theorem State.raise_moves (hp : Sub 4503608217305088 F.parts) {s : State} {status : Fld} {en : Fld} {vector : Fld} {b : ℕ} (hq : F.parts.testBit status.blk.code = true)  (h : Moves F s₀ s) : Moves F s₀ (State.raise s status en vector b) := by
  unfold State.raise
  repeat' first
    | with_reducible assumption
    | exact hp.bit rfl
    | exact hp.sub rfl
    | with_reducible refine State.putBit_moves ?_ ?_
    | with_reducible refine State.requestVector_moves ?_ ?_
    | (extract_lets +onlyGivenNames t; refine Moves.cut (F := F) (s₀ := s₀) (t := t) ?_ (fun ht => ?_); rotate_left; (try clear_value t); rotate_left; subst t)
    | split

theorem State.respond_moves (hp : Sub 6755399441055744 F.parts) {s : State} {target : ℕ} {src : ℕ} {tag : ℕ} {status : ℕ} {data : ℕ} {poison : Bool} {posted : Bool} (h : Moves F s₀ s) : Moves F s₀ (State.respond s target src tag status data poison posted) := by
  unfold State.respond
  repeat' first
    | with_reducible assumption
    | exact hp.bit rfl
    | exact hp.sub rfl
    | with_reducible refine State.post_moves ?_ ?_
    | with_reducible refine State.emit_moves ?_ ?_
    | split

theorem State.setReady_moves (hp : Sub 4503608217370624 F.parts) {s : State} {b : ℕ} {v : Bool} (h : Moves F s₀ s) : Moves F s₀ (State.setReady s b v) := by
  unfold State.setReady
  repeat' first
    | with_reducible assumption
    | exact hp.bit rfl
    | exact hp.sub rfl
    | with_reducible refine State.raise_moves ?_ ?_ ?_
    | with_reducible refine State.putBit_moves ?_ ?_
    | split

theorem State.fo_moves (hp : Sub 140737488355328 F.parts) {s : State} {g : Foreman → Foreman} (h : Moves F s₀ s) : Moves F s₀ (State.fo s g) := by
  unfold State.fo
  repeat' first
    | with_reducible assumption
    | exact hp.bit rfl
    | exact hp.sub rfl
    | simp (disch := first | exact hp.out rfl | with_reducible exact fun _ => rfl) only [Moves.mk_iff]

theorem State.onRecord_moves (hp : Sub 140737488355328 F.parts) {s : State} {g : StartRecord → StartRecord} (h : Moves F s₀ s) : Moves F s₀ (State.onRecord s g) := by
  unfold State.onRecord
  repeat' first
    | with_reducible assumption
    | exact hp.bit rfl
    | exact hp.sub rfl
    | with_reducible refine State.fo_moves ?_ ?_
    | simp (disch := first | exact hp.out rfl | with_reducible exact fun _ => rfl) only [Moves.mk_iff]

theorem State.recordStep_moves (hp : Sub 2392537302106112 F.parts) {s : State} {i : ℕ} {code : ℕ} (h : Moves F s₀ s) : Moves F s₀ (State.recordStep s i code) := by
  unfold State.recordStep
  repeat' first
    | with_reducible assumption
    | exact hp.bit rfl
    | exact hp.sub rfl
    | with_reducible refine State.wr_moves ?_ ?_
    | with_reducible refine State.fo_moves ?_ ?_
    | with_reducible refine State.post_moves ?_ ?_
    | (extract_lets +onlyGivenNames t; refine Moves.cut (F := F) (s₀ := s₀) (t := t) ?_ (fun ht => ?_); rotate_left; (try clear_value t); rotate_left; subst t)
    | split
    | simp (disch := first | exact hp.out rfl | with_reducible exact fun _ => rfl) only [Moves.mk_iff]

theorem State.store_moves (hm : F.mem = true) {s : State} {a : ℕ} {n : ℕ} {v : ℕ} (h : Moves F s₀ s) : Moves F s₀ (State.store s a n v) := by
  unfold State.store
  repeat' first
    | with_reducible assumption
    | with_reducible refine State.putByte_moves hm ?_
    | with_reducible refine Moves.foldl ?_ (fun t a ha ht => ?_)

theorem State.storeBytes_moves (hm : F.mem = true) {s : State} {a : ℕ} {x2 : List ℕ} (h : Moves F s₀ s) : Moves F s₀ (State.storeBytes s a x2) := by
  induction x2 generalizing s a with
  | nil =>
    unfold State.storeBytes
    repeat' first
      | with_reducible assumption
      | with_reducible refine State.putByte_moves hm ?_
  | cons b r ih =>
    unfold State.storeBytes
    repeat' first
      | with_reducible assumption
      | with_reducible refine ih ?_
      | with_reducible refine State.putByte_moves hm ?_

theorem State.storeMasked_moves (hm : F.mem = true) {s : State} {a : ℕ} {data : List ℕ} {be : ℕ} (h : Moves F s₀ s) : Moves F s₀ (State.storeMasked s a data be) := by
  unfold State.storeMasked
  repeat' first
    | with_reducible assumption
    | with_reducible refine State.putByte_moves hm ?_
    | with_reducible refine Moves.foldl ?_ (fun t a ha ht => ?_)
    | split

theorem State.updStope_moves (hp : Sub 9007199254740992 F.parts) {s : State} {n : ℕ} {g : Stope → Stope} (h : Moves F s₀ s) : Moves F s₀ (State.updStope s n g) := by
  unfold State.updStope
  repeat' first
    | with_reducible assumption
    | exact hp.bit rfl
    | exact hp.sub rfl
    | with_reducible refine State.setStope_moves ?_ ?_

theorem State.ungate_moves (hp : Sub 4303355904 F.parts) {s : State} {c : ℕ} {u : ℕ} (h : Moves F s₀ s) : Moves F s₀ (State.ungate s c u) := by
  unfold State.ungate
  repeat' first
    | with_reducible assumption
    | exact hp.bit rfl
    | exact hp.sub rfl
    | with_reducible refine State.putBit_moves ?_ ?_
    | (extract_lets +onlyGivenNames t; refine Moves.cut (F := F) (s₀ := s₀) (t := t) ?_ (fun ht => ?_); rotate_left; (try clear_value t); rotate_left; subst t)
    | (extract_lets +onlyGivenNames t; try clear_value t)
    | simp (disch := first | exact hp.out rfl | with_reducible exact fun _ => rfl) only [Moves.mk_iff]

theorem State.endPulses_moves (hp : Sub 4294967296 F.parts) {s : State} (h : Moves F s₀ s) : Moves F s₀ (State.endPulses s) := by
  unfold State.endPulses
  repeat' first
    | with_reducible assumption
    | exact hp.bit rfl
    | exact hp.sub rfl
    | simp (disch := first | exact hp.out rfl | with_reducible exact fun _ => rfl) only [Moves.mk_iff]

/-! ### CryptoOps -/

theorem State.setCounter_moves (hp : Sub 549755813888 F.parts) {s : State} {k : ℕ} {level : ℕ} {idx : ℕ} {v : ℕ} (h : Moves F s₀ s) : Moves F s₀ (State.setCounter s k level idx v) := by
  unfold State.setCounter
  repeat' first
    | with_reducible assumption
    | exact hp.bit rfl
    | exact hp.sub rfl
    | with_reducible refine State.en_moves (fun _ => ⟨rfl, rfl⟩) ?_ ?_
    | simp (disch := first | exact hp.out rfl | with_reducible exact fun _ => rfl) only [Moves.mk_iff]

theorem State.showRange_moves (hp : Sub 16384 F.parts) {s : State} {k : ℕ} (h : Moves F s₀ s) : Moves F s₀ (State.showRange s k) := by
  unfold State.showRange
  repeat' first
    | with_reducible assumption
    | exact hp.bit rfl
    | exact hp.sub rfl
    | with_reducible refine State.wr_moves ?_ ?_
    | (extract_lets +onlyGivenNames t; refine Moves.cut (F := F) (s₀ := s₀) (t := t) ?_ (fun ht => ?_); rotate_left; (try clear_value t); rotate_left; subst t)

theorem State.touchNode_moves (hp : Sub 549755830272 F.parts) {s : State} {k : ℕ} {level : ℕ} {idx : ℕ} {d : Bool} (h : Moves F s₀ s) : Moves F s₀ (State.touchNode s k level idx d) := by
  unfold State.touchNode
  repeat' first
    | with_reducible assumption
    | exact hp.bit rfl
    | exact hp.sub rfl
    | with_reducible refine State.showRange_moves ?_ ?_
    | with_reducible refine State.en_moves (fun _ => ⟨rfl, rfl⟩) ?_ ?_
    | split
    | simp (disch := first | exact hp.out rfl | with_reducible exact fun _ => rfl) only [Moves.mk_iff]

theorem State.showFaulted_moves (hp : Sub 16384 F.parts) {s : State} (h : Moves F s₀ s) : Moves F s₀ (State.showFaulted s) := by
  unfold State.showFaulted
  repeat' first
    | with_reducible assumption
    | exact hp.bit rfl
    | exact hp.sub rfl
    | with_reducible refine State.put_moves ?_ ?_

theorem State.rangeFault_moves (hp : Sub 16384 F.parts) {s : State} {k : ℕ} (h : Moves F s₀ s) : Moves F s₀ (State.rangeFault s k) := by
  unfold State.rangeFault
  repeat' first
    | with_reducible assumption
    | exact hp.bit rfl
    | exact hp.sub rfl
    | with_reducible refine State.showFaulted_moves ?_ ?_
    | with_reducible refine State.wr_moves ?_ ?_

theorem State.raiseCounter_moves (hp : Sub 549755830272 F.parts) {s : State} {page : ℕ} (h : Moves F s₀ s) : Moves F s₀ (State.raiseCounter s page).2 := by
  unfold State.raiseCounter
  repeat' first
    | with_reducible assumption
    | exact hp.bit rfl
    | exact hp.sub rfl
    | (extract_lets +onlyGivenNames t; refine Moves.cut (F := F) (s₀ := s₀) (t := t) ?_ (fun ht => ?_); rotate_left; (try clear_value t); rotate_left; subst t)
    | (extract_lets +onlyGivenNames t; try clear_value t)
    | split
    | dsimp only
    | with_reducible refine State.rangeFault_moves ?_ ?_
    | with_reducible refine State.touchNode_moves ?_ ?_
    | with_reducible refine State.setCounter_moves ?_ ?_
theorem State.raiseCounter_moves' (hp : Sub 549755830272 F.parts) {s : State} {page : ℕ} {r0 : Bool} {t : State} (e : State.raiseCounter s page = (r0, t)) (h : Moves F s₀ s) : Moves F s₀ t := by
  have k := @State.raiseCounter_moves F s₀ (hp.sub rfl) s page h
  rw [e] at k; exact k

theorem State.evictNode_moves (hp : Sub 549755830272 F.parts) {s : State} (h : Moves F s₀ s) : Moves F s₀ (State.evictNode s) := by
  unfold State.evictNode
  repeat' first
    | with_reducible assumption
    | exact hp.bit rfl
    | exact hp.sub rfl
    | with_reducible refine State.en_moves (fun _ => ⟨rfl, rfl⟩) ?_ ?_
    | with_reducible refine State.touchNode_moves ?_ ?_
    | with_reducible refine State.setCounter_moves ?_ ?_
    | with_reducible refine State.showRange_moves ?_ ?_
    | (extract_lets +onlyGivenNames t; refine Moves.cut (F := F) (s₀ := s₀) (t := t) ?_ (fun ht => ?_); rotate_left; (try clear_value t); rotate_left; subst t)
    | split
    | simp (disch := first | exact hp.out rfl | with_reducible exact fun _ => rfl) only [Moves.mk_iff]

theorem State.holdNode_moves (hp : Sub 549755830272 F.parts) {s : State} {k : ℕ} {level : ℕ} {idx : ℕ} (h : Moves F s₀ s) : Moves F s₀ (State.holdNode s k level idx) := by
  unfold State.holdNode
  repeat' first
    | with_reducible assumption
    | exact hp.bit rfl
    | exact hp.sub rfl
    | with_reducible refine State.evictNode_moves ?_ ?_
    | with_reducible refine State.en_moves (fun _ => ⟨rfl, rfl⟩) ?_ ?_
    | (extract_lets +onlyGivenNames t; refine Moves.cut (F := F) (s₀ := s₀) (t := t) ?_ (fun ht => ?_); rotate_left; (try clear_value t); rotate_left; subst t)
    | split
    | simp (disch := first | exact hp.out rfl | with_reducible exact fun _ => rfl) only [Moves.mk_iff]

theorem State.showKeys_moves (hp : Sub 16384 F.parts) {s : State} (h : Moves F s₀ s) : Moves F s₀ (State.showKeys s) := by
  unfold State.showKeys
  repeat' first
    | with_reducible assumption
    | exact hp.bit rfl
    | exact hp.sub rfl
    | exact Sub.mem (f := a) hp ha (by rfl)
    | with_reducible refine State.wr_moves ?_ ?_
    | with_reducible refine Moves.foldl ?_ (fun t a ha ht => ?_)
    | with_reducible refine Moves.foldl2 ?_ (fun y a ht => ?_)
    | with_reducible refine Moves.foldl1 ?_ (fun y a ht => ?_)

/-! ### SampleOps -/

theorem State.smp_moves (hp : Sub 137438953472 F.parts) {s : State} {g : Sampler → Sampler} (h : Moves F s₀ s) : Moves F s₀ (State.smp s g) := by
  unfold State.smp
  repeat' first
    | with_reducible assumption
    | exact hp.bit rfl
    | exact hp.sub rfl
    | simp (disch := first | exact hp.out rfl | with_reducible exact fun _ => rfl) only [Moves.mk_iff]

theorem State.updScrub_moves (hp : Sub 1099511627776 F.parts) {s : State} {i : ℕ} {g : Scrub → Scrub} (h : Moves F s₀ s) : Moves F s₀ (State.updScrub s i g) := by
  unfold State.updScrub
  repeat' first
    | with_reducible assumption
    | exact hp.bit rfl
    | exact hp.sub rfl
    | simp (disch := first | exact hp.out rfl | with_reducible exact fun _ => rfl) only [Moves.mk_iff]

theorem State.scrubPauses_moves (hp : Sub 1099511627904 F.parts) {s : State} {i : ℕ} (h : Moves F s₀ s) : Moves F s₀ (State.scrubPauses s i) := by
  unfold State.scrubPauses
  repeat' first
    | with_reducible assumption
    | exact hp.bit rfl
    | exact hp.sub rfl
    | with_reducible refine State.updScrub_moves ?_ ?_
    | with_reducible refine State.wr_moves ?_ ?_
    | simp (disch := first | exact hp.out rfl | with_reducible exact fun _ => rfl) only [Moves.mk_iff]

theorem State.scrubPause_moves (hp : Sub 1099511627904 F.parts) {s : State} {seam : ℕ} (h : Moves F s₀ s) : Moves F s₀ (State.scrubPause s seam) := by
  unfold State.scrubPause
  repeat' first
    | with_reducible assumption
    | exact hp.bit rfl
    | exact hp.sub rfl
    | exact Sub.mem (f := a) hp ha (by rfl)
    | with_reducible refine State.updScrub_moves ?_ ?_
    | with_reducible refine State.scrubPauses_moves ?_ ?_
    | with_reducible refine Moves.foldl ?_ (fun t a ha ht => ?_)
    | split
    | simp (disch := first | exact hp.out rfl | with_reducible exact fun _ => rfl) only [Moves.mk_iff]

theorem State.startPass_moves (hp : Sub 1099511627904 F.parts) {s : State} {i : ℕ} (h : Moves F s₀ s) : Moves F s₀ (State.startPass s i) := by
  unfold State.startPass
  repeat' first
    | with_reducible assumption
    | exact hp.bit rfl
    | exact hp.sub rfl
    | with_reducible refine State.updScrub_moves ?_ ?_
    | with_reducible refine State.wr_moves ?_ ?_
    | (extract_lets +onlyGivenNames t; refine Moves.cut (F := F) (s₀ := s₀) (t := t) ?_ (fun ht => ?_); rotate_left; (try clear_value t); rotate_left; subst t)
    | split
    | simp (disch := first | exact hp.out rfl | with_reducible exact fun _ => rfl) only [Moves.mk_iff]

theorem State.endPass_moves (hp : Sub 1099511627904 F.parts) {s : State} {i : ℕ} (h : Moves F s₀ s) : Moves F s₀ (State.endPass s i) := by
  unfold State.endPass
  repeat' first
    | with_reducible assumption
    | exact hp.bit rfl
    | exact hp.sub rfl
    | with_reducible refine State.updScrub_moves ?_ ?_
    | with_reducible refine State.wr_moves ?_ ?_
    | (extract_lets +onlyGivenNames t; refine Moves.cut (F := F) (s₀ := s₀) (t := t) ?_ (fun ht => ?_); rotate_left; (try clear_value t); rotate_left; subst t)
    | split
    | simp (disch := first | exact hp.out rfl | with_reducible exact fun _ => rfl) only [Moves.mk_iff]

theorem State.scrubMeets_moves (hp : Sub 1099511627904 F.parts) {s : State} {i : ℕ} (h : Moves F s₀ s) : Moves F s₀ (State.scrubMeets s i) := by
  unfold State.scrubMeets
  repeat' first
    | with_reducible assumption
    | exact hp.bit rfl
    | exact hp.sub rfl
    | with_reducible refine State.endPass_moves ?_ ?_
    | with_reducible refine State.startPass_moves ?_ ?_
    | split

theorem State.scrubsMeet_moves (hp : Sub 1099511627904 F.parts) {s : State} {n : ℕ} (h : Moves F s₀ s) : Moves F s₀ (State.scrubsMeet s n) := by
  unfold State.scrubsMeet
  repeat' first
    | with_reducible assumption
    | exact hp.bit rfl
    | exact hp.sub rfl
    | with_reducible refine State.scrubMeets_moves ?_ ?_

theorem State.scrubResume_moves (hp : Sub 1099511627904 F.parts) {s : State} {seam : ℕ} (h : Moves F s₀ s) : Moves F s₀ (State.scrubResume s seam) := by
  unfold State.scrubResume
  repeat' first
    | with_reducible assumption
    | exact hp.bit rfl
    | exact hp.sub rfl
    | exact Sub.mem (f := a) hp ha (by rfl)
    | with_reducible refine State.updScrub_moves ?_ ?_
    | with_reducible refine State.scrubMeets_moves ?_ ?_
    | with_reducible refine State.wr_moves ?_ ?_
    | with_reducible refine Moves.foldl ?_ (fun t a ha ht => ?_)
    | (extract_lets +onlyGivenNames t; refine Moves.cut (F := F) (s₀ := s₀) (t := t) ?_ (fun ht => ?_); rotate_left; (try clear_value t); rotate_left; subst t)
    | split
    | simp (disch := first | exact hp.out rfl | with_reducible exact fun _ => rfl) only [Moves.mk_iff]

theorem State.setSlot_moves (hp : Sub 137438953472 F.parts) {s : State} {n : ℕ} {d : SlotData} (h : Moves F s₀ s) : Moves F s₀ (State.setSlot s n d) := by
  unfold State.setSlot
  repeat' first
    | with_reducible assumption
    | exact hp.bit rfl
    | exact hp.sub rfl
    | with_reducible refine State.smp_moves ?_ ?_
    | simp (disch := first | exact hp.out rfl | with_reducible exact fun _ => rfl) only [Moves.mk_iff]

theorem State.emptySlot_moves (hp : Sub 137438953728 F.parts) {s : State} {n : ℕ} (h : Moves F s₀ s) : Moves F s₀ (State.emptySlot s n) := by
  unfold State.emptySlot
  repeat' first
    | with_reducible assumption
    | exact hp.bit rfl
    | exact hp.sub rfl
    | with_reducible refine State.setSlot_moves ?_ ?_
    | with_reducible refine State.wr_moves ?_ ?_

theorem State.samplerReady_moves (hp : Sub 137438953728 F.parts) {s : State} (h : Moves F s₀ s) : Moves F s₀ (State.samplerReady s) := by
  unfold State.samplerReady
  repeat' first
    | with_reducible assumption
    | exact hp.bit rfl
    | exact hp.sub rfl
    | with_reducible refine State.wr_moves ?_ ?_
    | with_reducible refine State.smp_moves ?_ ?_
    | (extract_lets +onlyGivenNames t; refine Moves.cut (F := F) (s₀ := s₀) (t := t) ?_ (fun ht => ?_); rotate_left; (try clear_value t); rotate_left; subst t)
    | simp (disch := first | exact hp.out rfl | with_reducible exact fun _ => rfl) only [Moves.mk_iff]

theorem State.failSample_moves (hp : Sub 9008436205323152 F.parts) {s : State} {cause : ℕ} (h : Moves F s₀ s) : Moves F s₀ (State.failSample s cause) := by
  unfold State.failSample
  repeat' first
    | with_reducible assumption
    | exact hp.bit rfl
    | exact hp.sub rfl
    | exact Sub.mem (f := a) hp ha (by rfl)
    | with_reducible refine State.wr_moves ?_ ?_
    | with_reducible refine State.updStope_moves ?_ ?_
    | with_reducible refine State.scrubResume_moves ?_ ?_
    | with_reducible refine State.smp_moves ?_ ?_
    | with_reducible refine State.samplerReady_moves ?_ ?_
    | with_reducible refine Moves.foldl ?_ (fun t a ha ht => ?_)
    | (extract_lets +onlyGivenNames t; refine Moves.cut (F := F) (s₀ := s₀) (t := t) ?_ (fun ht => ?_); rotate_left; (try clear_value t); rotate_left; subst t)
    | split
    | simp (disch := first | exact hp.out rfl | with_reducible exact fun _ => rfl) only [Moves.mk_iff]

theorem State.pjTrim_moves (hp : Sub 137438953472 F.parts) {s : State} (h : Moves F s₀ s) : Moves F s₀ (State.pjTrim s) := by
  unfold State.pjTrim
  repeat' first
    | with_reducible assumption
    | exact hp.bit rfl
    | exact hp.sub rfl
    | with_reducible refine State.smp_moves ?_ ?_
    | split
    | simp (disch := first | exact hp.out rfl | with_reducible exact fun _ => rfl) only [Moves.mk_iff]

theorem State.giveUpSample_moves (hp : Sub 9008436205323152 F.parts) {s : State} (h : Moves F s₀ s) : Moves F s₀ (State.giveUpSample s) := by
  unfold State.giveUpSample
  repeat' first
    | with_reducible assumption
    | exact hp.bit rfl
    | exact hp.sub rfl
    | with_reducible refine State.emptySlot_moves ?_ ?_
    | with_reducible refine State.failSample_moves ?_ ?_
    | split

theorem State.pjReclaim_moves (hp : Sub 9008436205323152 F.parts) {s : State} {x1 : ℕ} (h : Moves F s₀ s) : Moves F s₀ (State.pjReclaim s x1) := by
  induction x1 generalizing s with
  | zero =>
    unfold State.pjReclaim
    repeat' first
      | with_reducible assumption
      | exact hp.bit rfl
      | exact hp.sub rfl
      | with_reducible refine State.pjTrim_moves ?_ ?_
      | with_reducible refine State.wr_moves ?_ ?_
      | with_reducible refine State.giveUpSample_moves ?_ ?_
      | with_reducible refine State.smp_moves ?_ ?_
      | (extract_lets +onlyGivenNames t; refine Moves.cut (F := F) (s₀ := s₀) (t := t) ?_ (fun ht => ?_); rotate_left; (try clear_value t); rotate_left; subst t)
      | split
      | simp (disch := first | exact hp.out rfl | with_reducible exact fun _ => rfl) only [Moves.mk_iff]
  | succ k ih =>
    unfold State.pjReclaim
    repeat' first
      | with_reducible assumption
      | with_reducible refine ih ?_
      | exact hp.bit rfl
      | exact hp.sub rfl
      | with_reducible refine State.pjTrim_moves ?_ ?_
      | with_reducible refine State.wr_moves ?_ ?_
      | with_reducible refine State.giveUpSample_moves ?_ ?_
      | with_reducible refine State.smp_moves ?_ ?_
      | (extract_lets +onlyGivenNames t; refine Moves.cut (F := F) (s₀ := s₀) (t := t) ?_ (fun ht => ?_); rotate_left; (try clear_value t); rotate_left; subst t)
      | split
      | simp (disch := first | exact hp.out rfl | with_reducible exact fun _ => rfl) only [Moves.mk_iff]

theorem State.clearStamps_moves (hm : F.mem = true) {s : State} (h : Moves F s₀ s) : Moves F s₀ (State.clearStamps s) := by
  unfold State.clearStamps
  exact Moves.newMem hm (fun e => Tab.wf_filter natLt_order _ e) h

theorem State.journalPage_moves (hm : F.mem = true) (hp : Sub 9008436205323152 F.parts) {s : State} {page : ℕ} {old : List ℕ} {poison : Bool} (h : Moves F s₀ s) : Moves F s₀ (State.journalPage s page old poison) := by
  unfold State.journalPage
  repeat' first
    | with_reducible assumption
    | exact hp.bit rfl
    | exact hp.sub rfl
    | with_reducible refine State.wr_moves ?_ ?_
    | with_reducible refine State.pjReclaim_moves ?_ ?_
    | with_reducible refine State.store_moves hm ?_
    | with_reducible refine State.smp_moves ?_ ?_
    | (extract_lets +onlyGivenNames t; refine Moves.cut (F := F) (s₀ := s₀) (t := t) ?_ (fun ht => ?_); rotate_left; (try clear_value t); rotate_left; subst t)
    | (extract_lets +onlyGivenNames t; try clear_value t)
    | split
    | simp (disch := first | exact hp.out rfl | with_reducible exact fun _ => rfl) only [Moves.mk_iff]

theorem State.logTrim_moves (hp : Sub 137438953472 F.parts) {s : State} (h : Moves F s₀ s) : Moves F s₀ (State.logTrim s) := by
  unfold State.logTrim
  repeat' first
    | with_reducible assumption
    | exact hp.bit rfl
    | exact hp.sub rfl
    | with_reducible refine State.smp_moves ?_ ?_
    | split
    | simp (disch := first | exact hp.out rfl | with_reducible exact fun _ => rfl) only [Moves.mk_iff]

theorem State.logReclaim_moves (hp : Sub 9008436205323152 F.parts) {s : State} {need : ℕ} {x2 : ℕ} (h : Moves F s₀ s) : Moves F s₀ (State.logReclaim s need x2) := by
  induction x2 generalizing s need with
  | zero =>
    unfold State.logReclaim
    repeat' first
      | with_reducible assumption
      | exact hp.bit rfl
      | exact hp.sub rfl
      | with_reducible refine State.logTrim_moves ?_ ?_
      | with_reducible refine State.wr_moves ?_ ?_
      | with_reducible refine State.giveUpSample_moves ?_ ?_
      | with_reducible refine State.smp_moves ?_ ?_
      | (extract_lets +onlyGivenNames t; refine Moves.cut (F := F) (s₀ := s₀) (t := t) ?_ (fun ht => ?_); rotate_left; (try clear_value t); rotate_left; subst t)
      | split
      | simp (disch := first | exact hp.out rfl | with_reducible exact fun _ => rfl) only [Moves.mk_iff]
  | succ k ih =>
    unfold State.logReclaim
    repeat' first
      | with_reducible assumption
      | with_reducible refine ih ?_
      | exact hp.bit rfl
      | exact hp.sub rfl
      | with_reducible refine State.logTrim_moves ?_ ?_
      | with_reducible refine State.wr_moves ?_ ?_
      | with_reducible refine State.giveUpSample_moves ?_ ?_
      | with_reducible refine State.smp_moves ?_ ?_
      | (extract_lets +onlyGivenNames t; refine Moves.cut (F := F) (s₀ := s₀) (t := t) ?_ (fun ht => ?_); rotate_left; (try clear_value t); rotate_left; subst t)
      | split
      | simp (disch := first | exact hp.out rfl | with_reducible exact fun _ => rfl) only [Moves.mk_iff]

theorem State.logRecord_moves (hp : Sub 9008436205323152 F.parts) {s : State} {r : LogRecord} (h : Moves F s₀ s) : Moves F s₀ (State.logRecord s r) := by
  unfold State.logRecord
  repeat' first
    | with_reducible assumption
    | exact hp.bit rfl
    | exact hp.sub rfl
    | with_reducible refine State.wr_moves ?_ ?_
    | with_reducible refine State.logReclaim_moves ?_ ?_
    | with_reducible refine State.smp_moves ?_ ?_
    | (extract_lets +onlyGivenNames t; refine Moves.cut (F := F) (s₀ := s₀) (t := t) ?_ (fun ht => ?_); rotate_left; (try clear_value t); rotate_left; subst t)
    | split
    | simp (disch := first | exact hp.out rfl | with_reducible exact fun _ => rfl) only [Moves.mk_iff]

/-! ### WinderOps -/

theorem State.wd_moves (hp : Sub 17179869184 F.parts) {s : State} {g : Winder → Winder} (h : Moves F s₀ s) : Moves F s₀ (State.wd s g) := by
  unfold State.wd
  repeat' first
    | with_reducible assumption
    | exact hp.bit rfl
    | exact hp.sub rfl
    | simp (disch := first | exact hp.out rfl | with_reducible exact fun _ => rfl) only [Moves.mk_iff]

theorem State.wdIrq_moves (hp : Sub 4503608217305344 F.parts) {s : State} {b : ℕ} (h : Moves F s₀ s) : Moves F s₀ (State.wdIrq s b) := by
  unfold State.wdIrq
  repeat' first
    | with_reducible assumption
    | exact hp.bit rfl
    | exact hp.sub rfl
    | with_reducible refine State.raise_moves ?_ ?_ ?_

theorem State.groupFault_moves (hp : Sub 4503608217305344 F.parts) {s : State} {f : Fld} (hq : F.parts.testBit f.blk.code = true)  (h : Moves F s₀ s) : Moves F s₀ (State.groupFault s f) := by
  unfold State.groupFault
  repeat' first
    | with_reducible assumption
    | exact hp.bit rfl
    | exact hp.sub rfl
    | with_reducible refine State.wdIrq_moves ?_ ?_
    | with_reducible refine State.wr_moves ?_ ?_

theorem State.tellAll_moves (hp : Sub 4503599627370496 F.parts) {s : State} {m : BwMsg} (h : Moves F s₀ s) : Moves F s₀ (State.tellAll s m) := by
  unfold State.tellAll
  repeat' first
    | with_reducible assumption
    | exact hp.bit rfl
    | exact hp.sub rfl
    | with_reducible refine State.emit_moves ?_ ?_
    | split

theorem State.tellLeader_moves (hp : Sub 4503599627370496 F.parts) {s : State} {m : BwMsg} (h : Moves F s₀ s) : Moves F s₀ (State.tellLeader s m) := by
  unfold State.tellLeader
  repeat' first
    | with_reducible assumption
    | exact hp.bit rfl
    | exact hp.sub rfl
    | with_reducible refine State.emit_moves ?_ ?_

theorem State.windTo_moves (hp : Sub 256 F.parts) {s : State} {v : ℕ} (h : Moves F s₀ s) : Moves F s₀ (State.windTo s v) := by
  unfold State.windTo
  repeat' first
    | with_reducible assumption
    | exact hp.bit rfl
    | exact hp.sub rfl
    | with_reducible refine State.wr_moves ?_ ?_
    | split

theorem State.refreshReplaying_moves (hp : Sub 256 F.parts) {s : State} (h : Moves F s₀ s) : Moves F s₀ (State.refreshReplaying s) := by
  unfold State.refreshReplaying
  repeat' first
    | with_reducible assumption
    | exact hp.bit rfl
    | exact hp.sub rfl
    | with_reducible refine State.put_moves ?_ ?_

theorem State.cmdFinish_moves (hp : Sub 4503625397174528 F.parts) {s : State} {result : ℕ} (h : Moves F s₀ s) : Moves F s₀ (State.cmdFinish s result) := by
  unfold State.cmdFinish
  repeat' first
    | with_reducible assumption
    | exact hp.bit rfl
    | exact hp.sub rfl
    | with_reducible refine State.wr_moves ?_ ?_
    | with_reducible refine State.wdIrq_moves ?_ ?_
    | with_reducible refine State.wd_moves ?_ ?_
    | (extract_lets +onlyGivenNames t; refine Moves.cut (F := F) (s₀ := s₀) (t := t) ?_ (fun ht => ?_); rotate_left; (try clear_value t); rotate_left; subst t)
    | simp (disch := first | exact hp.out rfl | with_reducible exact fun _ => rfl) only [Moves.mk_iff]

theorem State.cmdEnd_moves (hp : Sub 4503625397174528 F.parts) {s : State} (h : Moves F s₀ s) : Moves F s₀ (State.cmdEnd s) := by
  unfold State.cmdEnd
  repeat' first
    | with_reducible assumption
    | exact hp.bit rfl
    | exact hp.sub rfl
    | with_reducible refine State.cmdFinish_moves ?_ ?_

theorem State.cmdRefuse_moves (hp : Sub 4503625397174528 F.parts) {s : State} {result : ℕ} (h : Moves F s₀ s) : Moves F s₀ (State.cmdRefuse s result) := by
  unfold State.cmdRefuse
  repeat' first
    | with_reducible assumption
    | exact hp.bit rfl
    | exact hp.sub rfl
    | with_reducible refine State.wr_moves ?_ ?_
    | with_reducible refine State.wdIrq_moves ?_ ?_
    | with_reducible refine State.wd_moves ?_ ?_
    | (extract_lets +onlyGivenNames t; refine Moves.cut (F := F) (s₀ := s₀) (t := t) ?_ (fun ht => ?_); rotate_left; (try clear_value t); rotate_left; subst t)
    | simp (disch := first | exact hp.out rfl | with_reducible exact fun _ => rfl) only [Moves.mk_iff]

theorem State.cmdLocalDone_moves (hp : Sub 4503625397174528 F.parts) {s : State} {result : ℕ} (h : Moves F s₀ s) : Moves F s₀ (State.cmdLocalDone s result) := by
  unfold State.cmdLocalDone
  repeat' first
    | with_reducible assumption
    | exact hp.bit rfl
    | exact hp.sub rfl
    | with_reducible refine State.cmdFinish_moves ?_ ?_
    | with_reducible refine State.wd_moves ?_ ?_
    | with_reducible refine State.tellLeader_moves ?_ ?_
    | (extract_lets +onlyGivenNames t; refine Moves.cut (F := F) (s₀ := s₀) (t := t) ?_ (fun ht => ?_); rotate_left; (try clear_value t); rotate_left; subst t)
    | (extract_lets +onlyGivenNames t; try clear_value t)
    | split
    | simp (disch := first | exact hp.out rfl | with_reducible exact fun _ => rfl) only [Moves.mk_iff]

theorem State.refreshStop_moves (hp : Sub 256 F.parts) {s : State} (h : Moves F s₀ s) : Moves F s₀ (State.refreshStop s) := by
  unfold State.refreshStop
  repeat' first
    | with_reducible assumption
    | exact hp.bit rfl
    | exact hp.sub rfl
    | exact Sub.mem (f := a) hp ha (by rfl)
    | with_reducible refine State.wr_moves ?_ ?_
    | with_reducible refine Moves.foldl ?_ (fun t a ha ht => ?_)

theorem State.addEvent_moves (hp : Sub 2251816993554688 F.parts) {s : State} {x1 : SchedEvent} (h : Moves F s₀ s) : Moves F s₀ (State.addEvent s x1) := by
  unfold State.addEvent
  repeat' first
    | with_reducible assumption
    | exact hp.bit rfl
    | exact hp.sub rfl
    | with_reducible refine State.refreshStop_moves ?_ ?_
    | with_reducible refine State.wd_moves ?_ ?_
    | simp (disch := first | exact hp.out rfl | with_reducible exact fun _ => rfl) only [Moves.mk_iff]

theorem State.schedule_moves (hp : Sub 6755416620925184 F.parts) {s : State} {k : EventKind} {x2 : ℕ} {slot : ℕ} {cause : ℕ} (h : Moves F s₀ s) : Moves F s₀ (State.schedule s k x2 slot cause) := by
  unfold State.schedule
  repeat' first
    | with_reducible assumption
    | exact hp.bit rfl
    | exact hp.sub rfl
    | with_reducible refine State.addEvent_moves ?_ ?_
    | with_reducible refine State.tellAll_moves ?_ ?_
    | (extract_lets +onlyGivenNames t; refine Moves.cut (F := F) (s₀ := s₀) (t := t) ?_ (fun ht => ?_); rotate_left; (try clear_value t); rotate_left; subst t)
    | (extract_lets +onlyGivenNames t; try clear_value t)
    | split

theorem State.scheduleOwn_moves (hp : Sub 6755416620925184 F.parts) {s : State} {x1 : ℕ} {cause : ℕ} (h : Moves F s₀ s) : Moves F s₀ (State.scheduleOwn s x1 cause) := by
  unfold State.scheduleOwn
  repeat' first
    | with_reducible assumption
    | exact hp.bit rfl
    | exact hp.sub rfl
    | with_reducible refine State.addEvent_moves ?_ ?_
    | with_reducible refine State.tellAll_moves ?_ ?_

theorem State.grantNow_moves (hp : Sub 4503599627370752 F.parts) {s : State} (h : Moves F s₀ s) : Moves F s₀ (State.grantNow s) := by
  unfold State.grantNow
  repeat' first
    | with_reducible assumption
    | exact hp.bit rfl
    | exact hp.sub rfl
    | with_reducible refine State.tellAll_moves ?_ ?_
    | with_reducible refine State.wr_moves ?_ ?_
    | (extract_lets +onlyGivenNames t; refine Moves.cut (F := F) (s₀ := s₀) (t := t) ?_ (fun ht => ?_); rotate_left; (try clear_value t); rotate_left; subst t)
    | (extract_lets +onlyGivenNames t; try clear_value t)
    | split

theorem State.passReport_moves (hp : Sub 4503599627370496 F.parts) {s : State} (h : Moves F s₀ s) : Moves F s₀ (State.passReport s) := by
  unfold State.passReport
  repeat' first
    | with_reducible assumption
    | exact hp.bit rfl
    | exact hp.sub rfl
    | with_reducible refine State.tellLeader_moves ?_ ?_
    | split

theorem State.autoCheckpoint_moves (hp : Sub 6755554059878656 F.parts) {s : State} (h : Moves F s₀ s) : Moves F s₀ (State.autoCheckpoint s) := by
  unfold State.autoCheckpoint
  repeat' first
    | with_reducible assumption
    | exact hp.bit rfl
    | exact hp.sub rfl
    | with_reducible refine State.smp_moves ?_ ?_
    | with_reducible refine State.schedule_moves ?_ ?_
    | (extract_lets +onlyGivenNames t; refine Moves.cut (F := F) (s₀ := s₀) (t := t) ?_ (fun ht => ?_); rotate_left; (try clear_value t); rotate_left; subst t)
    | (extract_lets +onlyGivenNames t; try clear_value t)
    | split
    | simp (disch := first | exact hp.out rfl | with_reducible exact fun _ => rfl) only [Moves.mk_iff]

theorem State.grantPoint_moves (hp : Sub 6755554059878656 F.parts) {s : State} (h : Moves F s₀ s) : Moves F s₀ (State.grantPoint s) := by
  unfold State.grantPoint
  repeat' first
    | with_reducible assumption
    | exact hp.bit rfl
    | exact hp.sub rfl
    | with_reducible refine State.grantNow_moves ?_ ?_
    | with_reducible refine State.autoCheckpoint_moves ?_ ?_
    | (extract_lets +onlyGivenNames t; refine Moves.cut (F := F) (s₀ := s₀) (t := t) ?_ (fun ht => ?_); rotate_left; (try clear_value t); rotate_left; subst t)
    | (extract_lets +onlyGivenNames t; try clear_value t)
    | split

theorem State.startRun_moves (hp : Sub 6755554059878656 F.parts) {s : State} {trig : Bool} (h : Moves F s₀ s) : Moves F s₀ (State.startRun s trig) := by
  unfold State.startRun
  repeat' first
    | with_reducible assumption
    | exact hp.bit rfl
    | exact hp.sub rfl
    | with_reducible refine State.wd_moves ?_ ?_
    | with_reducible refine State.windTo_moves ?_ ?_
    | with_reducible refine State.refreshReplaying_moves ?_ ?_
    | with_reducible refine State.smp_moves ?_ ?_
    | with_reducible refine State.grantNow_moves ?_ ?_
    | with_reducible refine State.autoCheckpoint_moves ?_ ?_
    | (extract_lets +onlyGivenNames t; refine Moves.cut (F := F) (s₀ := s₀) (t := t) ?_ (fun ht => ?_); rotate_left; (try clear_value t); rotate_left; subst t)
    | split
    | simp (disch := first | exact hp.out rfl | with_reducible exact fun _ => rfl) only [Moves.mk_iff]

theorem State.applyJournal_moves (hm : F.mem = true) (hp : Sub 962072690944 F.parts) {s : State} {q : ℕ} (h : Moves F s₀ s) : Moves F s₀ (State.applyJournal s q) := by
  unfold State.applyJournal
  repeat' first
    | with_reducible assumption
    | exact hp.bit rfl
    | exact hp.sub rfl
    | exact Sub.mem (f := a) hp ha (by rfl)
    | with_reducible refine State.raiseCounter_moves ?_ ?_
    | refine State.raiseCounter_moves' ?_ (by with_reducible assumption) ?_
    | with_reducible refine State.storeBytes_moves hm ?_
    | with_reducible refine State.smp_moves ?_ ?_
    | with_reducible refine State.wr_moves ?_ ?_
    | with_reducible refine Moves.foldl ?_ (fun t a ha ht => ?_)
    | (extract_lets +onlyGivenNames t; refine Moves.cut (F := F) (s₀ := s₀) (t := t) ?_ (fun ht => ?_); rotate_left; (try clear_value t); rotate_left; subst t)
    | (extract_lets +onlyGivenNames t; try clear_value t)
    | split
    | simp (disch := first | exact hp.out rfl | with_reducible exact fun _ => rfl) only [Moves.mk_iff]

theorem State.startRestore_moves (hp : Sub 154618823424 F.parts) {s : State} {slot : ℕ} {rewind : Bool} (h : Moves F s₀ s) : Moves F s₀ (State.startRestore s slot rewind) := by
  unfold State.startRestore
  repeat' first
    | with_reducible assumption
    | exact hp.bit rfl
    | exact hp.sub rfl
    | exact Sub.mem (f := a) hp ha (by rfl)
    | with_reducible refine State.windTo_moves ?_ ?_
    | with_reducible refine State.wr_moves ?_ ?_
    | with_reducible refine State.smp_moves ?_ ?_
    | with_reducible refine State.refreshReplaying_moves ?_ ?_
    | with_reducible refine State.wd_moves ?_ ?_
    | with_reducible refine Moves.foldl ?_ (fun t a ha ht => ?_)
    | (extract_lets +onlyGivenNames t; refine Moves.cut (F := F) (s₀ := s₀) (t := t) ?_ (fun ht => ?_); rotate_left; (try clear_value t); rotate_left; subst t)
    | split
    | simp (disch := first | exact hp.out rfl | with_reducible exact fun _ => rfl) only [Moves.mk_iff]

theorem State.recoveryFail_moves (hp : Sub 6755425210859776 F.parts) {s : State} (h : Moves F s₀ s) : Moves F s₀ (State.recoveryFail s) := by
  unfold State.recoveryFail
  repeat' first
    | with_reducible assumption
    | exact hp.bit rfl
    | exact hp.sub rfl
    | with_reducible refine State.wd_moves ?_ ?_
    | with_reducible refine State.wr_moves ?_ ?_
    | with_reducible refine State.post_moves ?_ ?_
    | with_reducible refine State.wdIrq_moves ?_ ?_
    | with_reducible refine State.cmdFinish_moves ?_ ?_
    | (extract_lets +onlyGivenNames t; refine Moves.cut (F := F) (s₀ := s₀) (t := t) ?_ (fun ht => ?_); rotate_left; (try clear_value t); rotate_left; subst t)
    | split
    | simp (disch := first | exact hp.out rfl | with_reducible exact fun _ => rfl) only [Moves.mk_iff]

theorem State.recoveryChosen_moves (hp : Sub 6755562649813760 F.parts) {s : State} {r : Recovery} (h : Moves F s₀ s) : Moves F s₀ (State.recoveryChosen s r) := by
  unfold State.recoveryChosen
  repeat' first
    | with_reducible assumption
    | exact hp.bit rfl
    | exact hp.sub rfl
    | with_reducible refine State.recoveryFail_moves ?_ ?_
    | with_reducible refine State.wd_moves ?_ ?_
    | with_reducible refine State.startRestore_moves ?_ ?_
    | with_reducible refine State.tellAll_moves ?_ ?_
    | (extract_lets +onlyGivenNames t; refine Moves.cut (F := F) (s₀ := s₀) (t := t) ?_ (fun ht => ?_); rotate_left; (try clear_value t); rotate_left; subst t)
    | split
    | simp (disch := first | exact hp.out rfl | with_reducible exact fun _ => rfl) only [Moves.mk_iff]

theorem State.recoveryRestore_moves (hp : Sub 6755562649813760 F.parts) {s : State} {r : Recovery} (h : Moves F s₀ s) : Moves F s₀ (State.recoveryRestore s r) := by
  unfold State.recoveryRestore
  repeat' first
    | with_reducible assumption
    | exact hp.bit rfl
    | exact hp.sub rfl
    | exact Sub.mem (f := a) hp ha (by rfl)
    | with_reducible refine State.recoveryChosen_moves ?_ ?_
    | with_reducible refine State.emit_moves ?_ ?_
    | with_reducible refine State.wd_moves ?_ ?_
    | with_reducible refine Moves.foldl ?_ (fun t a ha ht => ?_)
    | split
    | simp (disch := first | exact hp.out rfl | with_reducible exact fun _ => rfl) only [Moves.mk_iff]

theorem State.keepBound_moves (hp : Sub 17179869184 F.parts) {s : State} {bound : ℕ} (h : Moves F s₀ s) : Moves F s₀ (State.keepBound s bound) := by
  unfold State.keepBound
  repeat' first
    | with_reducible assumption
    | exact hp.bit rfl
    | exact hp.sub rfl
    | with_reducible refine State.wd_moves ?_ ?_
    | simp (disch := first | exact hp.out rfl | with_reducible exact fun _ => rfl) only [Moves.mk_iff]

theorem State.recoveryBegin_moves (hp : Sub 6755562649813760 F.parts) {s : State} {bound : ℕ} (h : Moves F s₀ s) : Moves F s₀ (State.recoveryBegin s bound) := by
  unfold State.recoveryBegin
  repeat' first
    | with_reducible assumption
    | exact hp.bit rfl
    | exact hp.sub rfl
    | with_reducible refine State.wd_moves ?_ ?_
    | with_reducible refine State.scheduleOwn_moves ?_ ?_
    | with_reducible refine State.recoveryRestore_moves ?_ ?_
    | with_reducible refine State.keepBound_moves ?_ ?_
    | (extract_lets +onlyGivenNames t; refine Moves.cut (F := F) (s₀ := s₀) (t := t) ?_ (fun ht => ?_); rotate_left; (try clear_value t); rotate_left; subst t)
    | split
    | simp (disch := first | exact hp.out rfl | with_reducible exact fun _ => rfl) only [Moves.mk_iff]

theorem State.spoilAtLeader_moves (hp : Sub 6755562649813760 F.parts) {s : State} {bound : ℕ} (h : Moves F s₀ s) : Moves F s₀ (State.spoilAtLeader s bound) := by
  unfold State.spoilAtLeader
  repeat' first
    | with_reducible assumption
    | exact hp.bit rfl
    | exact hp.sub rfl
    | with_reducible refine State.wd_moves ?_ ?_
    | with_reducible refine State.recoveryBegin_moves ?_ ?_
    | with_reducible refine State.keepBound_moves ?_ ?_
    | split
    | simp (disch := first | exact hp.out rfl | with_reducible exact fun _ => rfl) only [Moves.mk_iff]

theorem State.lateSpoil_moves (hp : Sub 6755562649813760 F.parts) {s : State} (h : Moves F s₀ s) : Moves F s₀ (State.lateSpoil s) := by
  unfold State.lateSpoil
  repeat' first
    | with_reducible assumption
    | exact hp.bit rfl
    | exact hp.sub rfl
    | with_reducible refine State.spoilAtLeader_moves ?_ ?_
    | with_reducible refine State.wd_moves ?_ ?_
    | split
    | simp (disch := first | exact hp.out rfl | with_reducible exact fun _ => rfl) only [Moves.mk_iff]

theorem State.spoilReport_moves (hp : Sub 6755562649813760 F.parts) {s : State} {bound : ℕ} (h : Moves F s₀ s) : Moves F s₀ (State.spoilReport s bound) := by
  unfold State.spoilReport
  repeat' first
    | with_reducible assumption
    | exact hp.bit rfl
    | exact hp.sub rfl
    | with_reducible refine State.spoilAtLeader_moves ?_ ?_
    | with_reducible refine State.tellLeader_moves ?_ ?_
    | split

theorem State.putSpoilBit_moves (hp : Sub 128 F.parts) {s : State} {n : ℕ} {v : Bool} (h : Moves F s₀ s) : Moves F s₀ (State.putSpoilBit s n v) := by
  unfold State.putSpoilBit
  repeat' first
    | with_reducible assumption
    | exact hp.bit rfl
    | exact hp.sub rfl
    | exact Sub.mem (f := a) hp ha (by rfl)
    | with_reducible refine State.putBit_moves ?_ ?_
    | with_reducible refine Moves.foldl ?_ (fun t a ha ht => ?_)
    | (extract_lets +onlyGivenNames t; refine Moves.cut (F := F) (s₀ := s₀) (t := t) ?_ (fun ht => ?_); rotate_left; (try clear_value t); rotate_left; subst t)
    | (extract_lets +onlyGivenNames t; try clear_value t)

theorem State.clearSpoil_moves (hp : Sub 144 F.parts) {s : State} {n : ℕ} (h : Moves F s₀ s) : Moves F s₀ (State.clearSpoil s n) := by
  unfold State.clearSpoil
  repeat' first
    | with_reducible assumption
    | exact hp.bit rfl
    | exact hp.sub rfl
    | exact Sub.mem (f := a) hp ha (by rfl)
    | with_reducible refine State.wr_moves ?_ ?_
    | with_reducible refine State.putSpoilBit_moves ?_ ?_
    | with_reducible refine Moves.foldl ?_ (fun t a ha ht => ?_)
    | (extract_lets +onlyGivenNames t; refine Moves.cut (F := F) (s₀ := s₀) (t := t) ?_ (fun ht => ?_); rotate_left; (try clear_value t); rotate_left; subst t)

theorem State.recovered_moves (hp : Sub 6755562649813904 F.parts) {s : State} {x1 : ℕ} {next : Option Recovery} (h : Moves F s₀ s) : Moves F s₀ (State.recovered s x1 next) := by
  unfold State.recovered
  repeat' first
    | with_reducible assumption
    | exact hp.bit rfl
    | exact hp.sub rfl
    | exact Sub.mem (f := a) hp ha (by rfl)
    | with_reducible refine State.wd_moves ?_ ?_
    | with_reducible refine State.count_moves ?_ ?_
    | with_reducible refine State.post_moves ?_ ?_
    | with_reducible refine State.wdIrq_moves ?_ ?_
    | with_reducible refine State.spoilAtLeader_moves ?_ ?_
    | with_reducible refine State.clearSpoil_moves ?_ ?_
    | with_reducible refine State.tellAll_moves ?_ ?_
    | with_reducible refine Moves.foldl ?_ (fun t a ha ht => ?_)
    | (extract_lets +onlyGivenNames t; refine Moves.cut (F := F) (s₀ := s₀) (t := t) ?_ (fun ht => ?_); rotate_left; (try clear_value t); rotate_left; subst t)
    | split
    | simp (disch := first | exact hp.out rfl | with_reducible exact fun _ => rfl) only [Moves.mk_iff]

theorem State.recoveryRun_moves (hp : Sub 6755562649813904 F.parts) {s : State} (h : Moves F s₀ s) : Moves F s₀ (State.recoveryRun s) := by
  unfold State.recoveryRun
  repeat' first
    | with_reducible assumption
    | exact hp.bit rfl
    | exact hp.sub rfl
    | with_reducible refine State.wd_moves ?_ ?_
    | with_reducible refine State.recovered_moves ?_ ?_
    | with_reducible refine State.startRun_moves ?_ ?_
    | with_reducible refine State.tellAll_moves ?_ ?_
    | (extract_lets +onlyGivenNames t; refine Moves.cut (F := F) (s₀ := s₀) (t := t) ?_ (fun ht => ?_); rotate_left; (try clear_value t); rotate_left; subst t)
    | (extract_lets +onlyGivenNames t; try clear_value t)
    | split
    | simp (disch := first | exact hp.out rfl | with_reducible exact fun _ => rfl) only [Moves.mk_iff]

theorem State.recoveryProceed_moves (hp : Sub 6755562649813904 F.parts) {s : State} (h : Moves F s₀ s) : Moves F s₀ (State.recoveryProceed s) := by
  unfold State.recoveryProceed
  repeat' first
    | with_reducible assumption
    | exact hp.bit rfl
    | exact hp.sub rfl
    | with_reducible refine State.wd_moves ?_ ?_
    | with_reducible refine State.recovered_moves ?_ ?_
    | with_reducible refine State.startRun_moves ?_ ?_
    | with_reducible refine State.tellAll_moves ?_ ?_
    | with_reducible refine State.scheduleOwn_moves ?_ ?_
    | with_reducible refine State.recoveryRun_moves ?_ ?_
    | (extract_lets +onlyGivenNames t; refine Moves.cut (F := F) (s₀ := s₀) (t := t) ?_ (fun ht => ?_); rotate_left; (try clear_value t); rotate_left; subst t)
    | split
    | simp (disch := first | exact hp.out rfl | with_reducible exact fun _ => rfl) only [Moves.mk_iff]

theorem State.stopHere_moves (hp : Sub 6755562649813904 F.parts) {s : State} {ev : SchedEvent} (h : Moves F s₀ s) : Moves F s₀ (State.stopHere s ev) := by
  unfold State.stopHere
  repeat' first
    | with_reducible assumption
    | exact hp.bit rfl
    | exact hp.sub rfl
    | with_reducible refine State.wd_moves ?_ ?_
    | with_reducible refine State.windTo_moves ?_ ?_
    | with_reducible refine State.refreshStop_moves ?_ ?_
    | with_reducible refine State.wr_moves ?_ ?_
    | with_reducible refine State.recoveryRestore_moves ?_ ?_
    | with_reducible refine State.recoveryProceed_moves ?_ ?_
    | with_reducible refine State.cmdLocalDone_moves ?_ ?_
    | with_reducible refine State.wdIrq_moves ?_ ?_
    | with_reducible refine State.startRestore_moves ?_ ?_
    | (extract_lets +onlyGivenNames t; refine Moves.cut (F := F) (s₀ := s₀) (t := t) ?_ (fun ht => ?_); rotate_left; (try clear_value t); rotate_left; subst t)
    | (extract_lets +onlyGivenNames t; try clear_value t)
    | split
    | simp (disch := first | exact hp.out rfl | with_reducible exact fun _ => rfl) only [Moves.mk_iff]

theorem State.settle_moves (hp : Sub 6755562649813904 F.parts) {s : State} (h : Moves F s₀ s) : Moves F s₀ (State.settle s) := by
  unfold State.settle
  repeat' first
    | with_reducible assumption
    | exact hp.bit rfl
    | exact hp.sub rfl
    | with_reducible refine State.stopHere_moves ?_ ?_
    | split

/-! ### Memory -/

theorem State.raiseSpoil_moves (hp : Sub 6755562649813904 F.parts) {s : State} {n : ℕ} {cause : Fld} {bound : ℕ} (hq : F.parts.testBit cause.blk.code = true)  (h : Moves F s₀ s) : Moves F s₀ (State.raiseSpoil s n cause bound) := by
  unfold State.raiseSpoil
  repeat' first
    | with_reducible assumption
    | exact hp.bit rfl
    | exact hp.sub rfl
    | with_reducible refine State.wr_moves ?_ ?_
    | with_reducible refine State.count_moves ?_ ?_
    | with_reducible refine State.spoilReport_moves ?_ ?_
    | with_reducible refine State.emit_moves ?_ ?_
    | with_reducible refine State.post_moves ?_ ?_
    | with_reducible refine State.putSpoilBit_moves ?_ ?_
    | (extract_lets +onlyGivenNames t; refine Moves.cut (F := F) (s₀ := s₀) (t := t) ?_ (fun ht => ?_); rotate_left; (try clear_value t); rotate_left; subst t)
    | (extract_lets +onlyGivenNames t; try clear_value t)
    | split

theorem State.putUnit_moves (hu : F.fabMem = true) {s : State} {n m u v err : ℕ} (h : Moves F s₀ s) : Moves F s₀ (State.putUnit s n m u v err) :=
  Moves.newUnits hu (fun e => by
    rw [State.unitsWf, Bool.and_eq_true] at e
    exact ⟨Tab.wf_set keyLt_order _ _ _ e.1, Tab.wf_set keyLt_order _ _ _ e.2⟩) h

theorem State.memError_moves (hp : Sub 16 F.parts) {s : State} {n : ℕ} {m : ℕ} {u : ℕ} {src : ℕ} {ue : Bool} (h : Moves F s₀ s) : Moves F s₀ (State.memError s n m u src ue) := by
  unfold State.memError
  repeat' first
    | with_reducible assumption
    | exact hp.bit rfl
    | exact hp.sub rfl
    | with_reducible refine State.count_moves ?_ ?_
    | with_reducible refine State.wr_moves ?_ ?_
    | with_reducible refine State.put_moves ?_ ?_
    | (extract_lets +onlyGivenNames t; refine Moves.cut (F := F) (s₀ := s₀) (t := t) ?_ (fun ht => ?_); rotate_left; (try clear_value t); rotate_left; subst t)
    | split

theorem State.readUnit_moves (hp : Sub 15762761904554896 F.parts) {s : State} {n : ℕ} {m : ℕ} {u : ℕ} {src : ℕ} (h : Moves F s₀ s) : Moves F s₀ (State.readUnit s n m u src).2.2 := by
  unfold State.readUnit
  repeat' first
    | with_reducible assumption
    | exact hp.bit rfl
    | exact hp.sub rfl
    | (extract_lets +onlyGivenNames t; refine Moves.cut (F := F) (s₀ := s₀) (t := t) ?_ (fun ht => ?_); rotate_left; (try clear_value t); rotate_left; subst t)
    | (extract_lets +onlyGivenNames t; try clear_value t)
    | split
    | dsimp only
    | with_reducible refine State.updStope_moves ?_ ?_
    | with_reducible refine State.memError_moves ?_ ?_
    | with_reducible refine State.raiseSpoil_moves ?_ ?_ ?_
    | simp (disch := first | exact hp.out rfl | with_reducible exact fun _ => rfl) only [Moves.mk_iff]
theorem State.readUnit_moves' (hp : Sub 15762761904554896 F.parts) {s : State} {n : ℕ} {m : ℕ} {u : ℕ} {src : ℕ} {r0 : ℕ} {r1 : Bool} {t : State} (e : State.readUnit s n m u src = (r0, r1, t)) (h : Moves F s₀ s) : Moves F s₀ t := by
  have k := @State.readUnit_moves F s₀ (hp.sub rfl) s n m u src h
  rw [e] at k; exact k

theorem State.writeUnit_moves (hu : F.fabMem = true) (hp : Sub 9007199254741008 F.parts) {s : State} {n : ℕ} {m : ℕ} {u : ℕ} {v : ℕ} {wasUe : Bool} (h : Moves F s₀ s) : Moves F s₀ (State.writeUnit s n m u v wasUe) := by
  unfold State.writeUnit
  repeat' first
    | with_reducible assumption
    | exact hp.bit rfl
    | exact hp.sub rfl
    | with_reducible refine State.updStope_moves ?_ ?_
    | with_reducible refine State.wr_moves ?_ ?_
    | with_reducible refine State.putUnit_moves hu ?_
    | (extract_lets +onlyGivenNames t; refine Moves.cut (F := F) (s₀ := s₀) (t := t) ?_ (fun ht => ?_); rotate_left; (try clear_value t); rotate_left; subst t)
    | (extract_lets +onlyGivenNames t; try clear_value t)
    | split
    | simp (disch := first | exact hp.out rfl | with_reducible exact fun _ => rfl) only [Moves.mk_iff]

theorem State.journalPush_moves (hp : Sub 9007199254741008 F.parts) {s : State} {n : ℕ} {m : ℕ} {u : ℕ} {old : ℕ} {ue : Bool} (h : Moves F s₀ s) : Moves F s₀ (State.journalPush s n m u old ue) := by
  unfold State.journalPush
  repeat' first
    | with_reducible assumption
    | exact hp.bit rfl
    | exact hp.sub rfl
    | with_reducible refine State.updStope_moves ?_ ?_
    | with_reducible refine State.wr_moves ?_ ?_
    | (extract_lets +onlyGivenNames t; refine Moves.cut (F := F) (s₀ := s₀) (t := t) ?_ (fun ht => ?_); rotate_left; (try clear_value t); rotate_left; subst t)
    | (extract_lets +onlyGivenNames t; try clear_value t)
    | split
    | simp (disch := first | exact hp.out rfl | with_reducible exact fun _ => rfl) only [Moves.mk_iff]

theorem State.armMemory_moves (hp : Sub 9007199254741008 F.parts) {s : State} {n : ℕ} {m : ℕ} (h : Moves F s₀ s) : Moves F s₀ (State.armMemory s n m) := by
  unfold State.armMemory
  repeat' first
    | with_reducible assumption
    | exact hp.bit rfl
    | exact hp.sub rfl
    | with_reducible refine State.putBit_moves ?_ ?_
    | with_reducible refine State.updStope_moves ?_ ?_
    | simp (disch := first | exact hp.out rfl | with_reducible exact fun _ => rfl) only [Moves.mk_iff]

theorem State.disarmIfDone_moves (hp : Sub 16 F.parts) {s : State} {n : ℕ} {m : ℕ} (h : Moves F s₀ s) : Moves F s₀ (State.disarmIfDone s n m) := by
  unfold State.disarmIfDone
  repeat' first
    | with_reducible assumption
    | exact hp.bit rfl
    | exact hp.sub rfl
    | with_reducible refine State.putBit_moves ?_ ?_
    | (extract_lets +onlyGivenNames t; refine Moves.cut (F := F) (s₀ := s₀) (t := t) ?_ (fun ht => ?_); rotate_left; (try clear_value t); rotate_left; subst t)
    | (extract_lets +onlyGivenNames t; try clear_value t)
    | split

theorem State.loadLater_moves (hp : Sub 9007199254740992 F.parts) {s : State} {n : ℕ} {p : ℕ} {c : ℕ} {v : Option ℕ} (h : Moves F s₀ s) : Moves F s₀ (State.loadLater s n p c v) := by
  unfold State.loadLater
  repeat' first
    | with_reducible assumption
    | exact hp.bit rfl
    | exact hp.sub rfl
    | with_reducible refine State.updStope_moves ?_ ?_
    | split
    | simp (disch := first | exact hp.out rfl | with_reducible exact fun _ => rfl) only [Moves.mk_iff]

theorem State.notDue_moves (hp : Sub 9007199254740992 F.parts) {s : State} {n : ℕ} {p : ℕ} {c : ℕ} (h : Moves F s₀ s) : Moves F s₀ (State.notDue s n p c) := by
  unfold State.notDue
  repeat' first
    | with_reducible assumption
    | exact hp.bit rfl
    | exact hp.sub rfl
    | with_reducible refine State.updStope_moves ?_ ?_
    | simp (disch := first | exact hp.out rfl | with_reducible exact fun _ => rfl) only [Moves.mk_iff]

theorem State.binPair_moves (hu : F.fabMem = true) (hp : Sub 15762761904554896 F.parts) {s : State} {n : ℕ} {m : ℕ} {u : ℕ} {rs : List MemReq} (h : Moves F s₀ s) : Moves F s₀ (State.binPair s n m u rs).2.2 := by
  unfold State.binPair
  repeat' first
    | with_reducible assumption
    | exact hp.bit rfl
    | exact hp.sub rfl
    | exact Sub.mem (f := a) hp ha (by rfl)
    | (extract_lets +onlyGivenNames t; refine Moves.cut (F := F) (s₀ := s₀) (t := t) ?_ (fun ht => ?_); rotate_left; (try clear_value t); rotate_left; subst t)
    | (extract_lets +onlyGivenNames t; try clear_value t)
    | split
    | dsimp only
    | with_reducible refine State.readUnit_moves ?_ ?_
    | refine State.readUnit_moves' ?_ (by with_reducible assumption) ?_
    | with_reducible refine State.writeUnit_moves hu ?_ ?_
    | with_reducible refine State.journalPush_moves ?_ ?_
    | with_reducible refine Moves.foldl ?_ (fun t a ha ht => ?_)
    | with_reducible refine Moves.foldl2 ?_ (fun y a ht => ?_)
    | with_reducible refine Moves.foldl1 ?_ (fun y a ht => ?_)
theorem State.binPair_moves' (hu : F.fabMem = true) (hp : Sub 15762761904554896 F.parts) {s : State} {n : ℕ} {m : ℕ} {u : ℕ} {rs : List MemReq} {r0 : ℕ} {r1 : ℕ} {t : State} (e : State.binPair s n m u rs = (r0, r1, t)) (h : Moves F s₀ s) : Moves F s₀ t := by
  have k := @State.binPair_moves F s₀ hu (hp.sub rfl) s n m u rs h
  rw [e] at k; exact k

theorem State.binRam_moves (hu : F.fabMem = true) (hp : Sub 15762761904554896 F.parts) {s : State} {n : ℕ} {m : ℕ} {pr : List (ℕ × MemReq)} (h : Moves F s₀ s) : Moves F s₀ (State.binRam s n m pr) := by
  unfold State.binRam
  repeat' first
    | with_reducible assumption
    | exact hp.bit rfl
    | exact hp.sub rfl
    | exact Sub.mem (f := a) hp ha (by rfl)
    | with_reducible refine State.binPair_moves hu ?_ ?_
    | refine State.binPair_moves' hu ?_ (by with_reducible assumption) ?_
    | with_reducible refine State.wr_moves ?_ ?_
    | with_reducible refine State.count_moves ?_ ?_
    | with_reducible refine State.notDue_moves ?_ ?_
    | with_reducible refine State.loadLater_moves ?_ ?_
    | with_reducible refine Moves.foldl ?_ (fun t a ha ht => ?_)
    | with_reducible refine Moves.foldl2 ?_ (fun y a ht => ?_)
    | with_reducible refine Moves.foldl1 ?_ (fun y a ht => ?_)
    | (extract_lets +onlyGivenNames t; refine Moves.cut (F := F) (s₀ := s₀) (t := t) ?_ (fun ht => ?_); rotate_left; (try clear_value t); rotate_left; subst t)
    | (extract_lets +onlyGivenNames t; try clear_value t)
    | split

theorem State.sumpRam_moves (hu : F.fabMem = true) (hp : Sub 15762761904554896 F.parts) {s : State} {n : ℕ} {m : ℕ} {p : ℕ} {r : MemReq} (h : Moves F s₀ s) : Moves F s₀ (State.sumpRam s n m p r) := by
  unfold State.sumpRam
  repeat' first
    | with_reducible assumption
    | exact hp.bit rfl
    | exact hp.sub rfl
    | with_reducible refine State.readUnit_moves ?_ ?_
    | refine State.readUnit_moves' ?_ (by with_reducible assumption) ?_
    | with_reducible refine State.writeUnit_moves hu ?_ ?_
    | with_reducible refine State.journalPush_moves ?_ ?_
    | with_reducible refine State.loadLater_moves ?_ ?_
    | with_reducible refine State.notDue_moves ?_ ?_
    | (extract_lets +onlyGivenNames t; refine Moves.cut (F := F) (s₀ := s₀) (t := t) ?_ (fun ht => ?_); rotate_left; (try clear_value t); rotate_left; subst t)
    | (extract_lets +onlyGivenNames t; try clear_value t)
    | split

theorem State.setQueue_moves (hp : Sub 9007199254740992 F.parts) {s : State} {n : ℕ} {b : ℕ} {q : BinQueue} (h : Moves F s₀ s) : Moves F s₀ (State.setQueue s n b q) := by
  unfold State.setQueue
  repeat' first
    | with_reducible assumption
    | exact hp.bit rfl
    | exact hp.sub rfl
    | with_reducible refine State.updStope_moves ?_ ?_
    | simp (disch := first | exact hp.out rfl | with_reducible exact fun _ => rfl) only [Moves.mk_iff]

theorem State.levelCheck_moves (hp : Sub 13510798882111504 F.parts) {s : State} {n : ℕ} {b : ℕ} {old : ℕ} {new : ℕ} (h : Moves F s₀ s) : Moves F s₀ (State.levelCheck s n b old new) := by
  unfold State.levelCheck
  repeat' first
    | with_reducible assumption
    | exact hp.bit rfl
    | exact hp.sub rfl
    | with_reducible refine State.wr_moves ?_ ?_
    | with_reducible refine State.emit_moves ?_ ?_
    | with_reducible refine State.updStope_moves ?_ ?_
    | (extract_lets +onlyGivenNames t; refine Moves.cut (F := F) (s₀ := s₀) (t := t) ?_ (fun ht => ?_); rotate_left; (try clear_value t); rotate_left; subst t)
    | (extract_lets +onlyGivenNames t; try clear_value t)
    | split
    | simp (disch := first | exact hp.out rfl | with_reducible exact fun _ => rfl) only [Moves.mk_iff]

theorem State.cg_moves (hp : Sub 17592186044416 F.parts) {s : State} {g : Cage → Cage} (h : Moves F s₀ s) : Moves F s₀ (State.cg s g) := by
  unfold State.cg
  repeat' first
    | with_reducible assumption
    | exact hp.bit rfl
    | exact hp.sub rfl
    | simp (disch := first | exact hp.out rfl | with_reducible exact fun _ => rfl) only [Moves.mk_iff]

theorem State.setBinEnd_moves (hp : Sub 17592186044416 F.parts) {s : State} {n : ℕ} {b : ℕ} {x3 : BinEnd} (h : Moves F s₀ s) : Moves F s₀ (State.setBinEnd s n b x3) := by
  unfold State.setBinEnd
  repeat' first
    | with_reducible assumption
    | exact hp.bit rfl
    | exact hp.sub rfl
    | with_reducible refine State.cg_moves ?_ ?_
    | simp (disch := first | exact hp.out rfl | with_reducible exact fun _ => rfl) only [Moves.mk_iff]

theorem State.binReport_moves (hp : Sub 17592186044416 F.parts) {s : State} {n : ℕ} {b : ℕ} (h : Moves F s₀ s) : Moves F s₀ (State.binReport s n b) := by
  unfold State.binReport
  repeat' first
    | with_reducible assumption
    | exact hp.bit rfl
    | exact hp.sub rfl
    | with_reducible refine State.setBinEnd_moves ?_ ?_
    | (extract_lets +onlyGivenNames t; refine Moves.cut (F := F) (s₀ := s₀) (t := t) ?_ (fun ht => ?_); rotate_left; (try clear_value t); rotate_left; subst t)
    | (extract_lets +onlyGivenNames t; try clear_value t)
    | split
    | simp (disch := first | exact hp.out rfl | with_reducible exact fun _ => rfl) only [Moves.mk_iff]

theorem State.queuePush_moves (hu : F.fabMem = true) (hp : Sub 15762761904554896 F.parts) {s : State} {n : ℕ} {b : ℕ} {w : ℕ} {src : ℕ} {last : Bool} (h : Moves F s₀ s) : Moves F s₀ (State.queuePush s n b w src last) := by
  unfold State.queuePush
  repeat' first
    | with_reducible assumption
    | exact hp.bit rfl
    | exact hp.sub rfl
    | with_reducible refine State.readUnit_moves ?_ ?_
    | refine State.readUnit_moves' ?_ (by with_reducible assumption) ?_
    | with_reducible refine State.writeUnit_moves hu ?_ ?_
    | with_reducible refine State.journalPush_moves ?_ ?_
    | with_reducible refine State.updStope_moves ?_ ?_
    | with_reducible refine State.setQueue_moves ?_ ?_
    | (extract_lets +onlyGivenNames t; refine Moves.cut (F := F) (s₀ := s₀) (t := t) ?_ (fun ht => ?_); rotate_left; (try clear_value t); rotate_left; subst t)
    | (extract_lets +onlyGivenNames t; try clear_value t)
    | simp (disch := first | exact hp.out rfl | with_reducible exact fun _ => rfl) only [Moves.mk_iff]

theorem State.queuePop_moves (hp : Sub 15762761904554896 F.parts) {s : State} {n : ℕ} {b : ℕ} {src : ℕ} (h : Moves F s₀ s) : Moves F s₀ (State.queuePop s n b src).2 := by
  unfold State.queuePop
  repeat' first
    | with_reducible assumption
    | exact hp.bit rfl
    | exact hp.sub rfl
    | (extract_lets +onlyGivenNames t; refine Moves.cut (F := F) (s₀ := s₀) (t := t) ?_ (fun ht => ?_); rotate_left; (try clear_value t); rotate_left; subst t)
    | (extract_lets +onlyGivenNames t; try clear_value t)
    | dsimp only
    | with_reducible refine State.readUnit_moves ?_ ?_
    | refine State.readUnit_moves' ?_ (by with_reducible assumption) ?_
    | with_reducible refine State.setQueue_moves ?_ ?_
    | simp (disch := first | exact hp.out rfl | with_reducible exact fun _ => rfl) only [Moves.mk_iff]
theorem State.queuePop_moves' (hp : Sub 15762761904554896 F.parts) {s : State} {n : ℕ} {b : ℕ} {src : ℕ} {r0 : (ℕ × Bool)} {t : State} (e : State.queuePop s n b src = (r0, t)) (h : Moves F s₀ s) : Moves F s₀ t := by
  have k := @State.queuePop_moves F s₀ (hp.sub rfl) s n b src h
  rw [e] at k; exact k

theorem State.binPush_moves (hu : F.fabMem = true) (hp : Sub 15762761904554896 F.parts) {s : State} {n : ℕ} {b : ℕ} {p : ℕ} {r : MemReq} (h : Moves F s₀ s) : Moves F s₀ (State.binPush s n b p r) := by
  unfold State.binPush
  repeat' first
    | with_reducible assumption
    | exact hp.bit rfl
    | exact hp.sub rfl
    | with_reducible refine State.notDue_moves ?_ ?_
    | with_reducible refine State.wr_moves ?_ ?_
    | with_reducible refine State.queuePush_moves hu ?_ ?_
    | (extract_lets +onlyGivenNames t; refine Moves.cut (F := F) (s₀ := s₀) (t := t) ?_ (fun ht => ?_); rotate_left; (try clear_value t); rotate_left; subst t)
    | (extract_lets +onlyGivenNames t; try clear_value t)
    | split

theorem State.binPop_moves (hp : Sub 15780354090599312 F.parts) {s : State} {n : ℕ} {b : ℕ} {p : ℕ} {r : MemReq} (h : Moves F s₀ s) : Moves F s₀ (State.binPop s n b p r) := by
  unfold State.binPop
  repeat' first
    | with_reducible assumption
    | exact hp.bit rfl
    | exact hp.sub rfl
    | with_reducible refine State.notDue_moves ?_ ?_
    | with_reducible refine State.loadLater_moves ?_ ?_
    | with_reducible refine State.wr_moves ?_ ?_
    | with_reducible refine State.queuePop_moves ?_ ?_
    | refine State.queuePop_moves' ?_ (by with_reducible assumption) ?_
    | with_reducible refine State.binReport_moves ?_ ?_
    | (extract_lets +onlyGivenNames t; refine Moves.cut (F := F) (s₀ := s₀) (t := t) ?_ (fun ht => ?_); rotate_left; (try clear_value t); rotate_left; subst t)
    | (extract_lets +onlyGivenNames t; try clear_value t)
    | split

theorem State.binExecute_moves (hu : F.fabMem = true) (hp : Sub 15780354090599312 F.parts) {s : State} {n : ℕ} {b : ℕ} (h : Moves F s₀ s) : Moves F s₀ (State.binExecute s n b) := by
  unfold State.binExecute
  repeat' first
    | with_reducible assumption
    | exact hp.bit rfl
    | exact hp.sub rfl
    | with_reducible refine State.binRam_moves hu ?_ ?_
    | with_reducible refine State.binPop_moves ?_ ?_
    | with_reducible refine State.notDue_moves ?_ ?_
    | with_reducible refine State.binPush_moves hu ?_ ?_
    | with_reducible refine State.levelCheck_moves ?_ ?_
    | (extract_lets +onlyGivenNames t; refine Moves.cut (F := F) (s₀ := s₀) (t := t) ?_ (fun ht => ?_); rotate_left; (try clear_value t); rotate_left; subst t)
    | (extract_lets +onlyGivenNames t; try clear_value t)
    | split

theorem State.sliceExecute_moves (hp : Sub 9007199254740992 F.parts) {s : State} {n : ℕ} {p : ℕ} {c : ℕ} (h : Moves F s₀ s) : Moves F s₀ (State.sliceExecute s n p c) := by
  unfold State.sliceExecute
  repeat' first
    | with_reducible assumption
    | exact hp.bit rfl
    | exact hp.sub rfl
    | with_reducible refine State.notDue_moves ?_ ?_
    | with_reducible refine State.loadLater_moves ?_ ?_
    | with_reducible refine State.updStope_moves ?_ ?_
    | (extract_lets +onlyGivenNames t; refine Moves.cut (F := F) (s₀ := s₀) (t := t) ?_ (fun ht => ?_); rotate_left; (try clear_value t); rotate_left; subst t)
    | (extract_lets +onlyGivenNames t; try clear_value t)
    | split
    | simp (disch := first | exact hp.out rfl | with_reducible exact fun _ => rfl) only [Moves.mk_iff]

theorem State.executeDue_moves (hu : F.fabMem = true) (hp : Sub 15780354090599312 F.parts) {s : State} {n : ℕ} (h : Moves F s₀ s) : Moves F s₀ (State.executeDue s n) := by
  unfold State.executeDue
  repeat' first
    | with_reducible assumption
    | exact hp.bit rfl
    | exact hp.sub rfl
    | exact Sub.mem (f := a) hp ha (by rfl)
    | with_reducible refine State.binExecute_moves hu ?_ ?_
    | with_reducible refine State.sumpRam_moves hu ?_ ?_
    | with_reducible refine State.sliceExecute_moves ?_ ?_
    | with_reducible refine Moves.foldl ?_ (fun t a ha ht => ?_)
    | with_reducible refine Moves.foldl2 ?_ (fun y a ht => ?_)
    | with_reducible refine Moves.foldl1 ?_ (fun y a ht => ?_)
    | (extract_lets +onlyGivenNames t; refine Moves.cut (F := F) (s₀ := s₀) (t := t) ?_ (fun ht => ?_); rotate_left; (try clear_value t); rotate_left; subst t)
    | (extract_lets +onlyGivenNames t; try clear_value t)
    | split

theorem State.commitWords_moves (hp : Sub 13510936321064976 F.parts) {s : State} {n : ℕ} {b : ℕ} {k : ℕ} (h : Moves F s₀ s) : Moves F s₀ (State.commitWords s n b k) := by
  unfold State.commitWords
  repeat' first
    | with_reducible assumption
    | exact hp.bit rfl
    | exact hp.sub rfl
    | with_reducible refine State.smp_moves ?_ ?_
    | with_reducible refine State.levelCheck_moves ?_ ?_
    | (extract_lets +onlyGivenNames t; refine Moves.cut (F := F) (s₀ := s₀) (t := t) ?_ (fun ht => ?_); rotate_left; (try clear_value t); rotate_left; subst t)
    | (extract_lets +onlyGivenNames t; try clear_value t)
    | split
    | simp (disch := first | exact hp.out rfl | with_reducible exact fun _ => rfl) only [Moves.mk_iff]

theorem State.commitBin_moves (hp : Sub 13512035832693648 F.parts) {s : State} {n : ℕ} {b : ℕ} (h : Moves F s₀ s) : Moves F s₀ (State.commitBin s n b) := by
  unfold State.commitBin
  repeat' first
    | with_reducible assumption
    | exact hp.bit rfl
    | exact hp.sub rfl
    | with_reducible refine State.smp_moves ?_ ?_
    | with_reducible refine State.commitWords_moves ?_ ?_
    | with_reducible refine State.logRecord_moves ?_ ?_
    | (extract_lets +onlyGivenNames t; refine Moves.cut (F := F) (s₀ := s₀) (t := t) ?_ (fun ht => ?_); rotate_left; (try clear_value t); rotate_left; subst t)
    | (extract_lets +onlyGivenNames t; try clear_value t)
    | split
    | simp (disch := first | exact hp.out rfl | with_reducible exact fun _ => rfl) only [Moves.mk_iff]

theorem State.commitBins_moves (hp : Sub 13512035832693648 F.parts) {s : State} (h : Moves F s₀ s) : Moves F s₀ (State.commitBins s) := by
  unfold State.commitBins
  repeat' first
    | with_reducible assumption
    | exact hp.bit rfl
    | exact hp.sub rfl
    | exact Sub.mem (f := a) hp ha (by rfl)
    | with_reducible refine State.commitBin_moves ?_ ?_
    | with_reducible refine Moves.foldl ?_ (fun t a ha ht => ?_)
    | with_reducible refine Moves.foldl2 ?_ (fun y a ht => ?_)
    | with_reducible refine Moves.foldl1 ?_ (fun y a ht => ?_)
    | (extract_lets +onlyGivenNames t; refine Moves.cut (F := F) (s₀ := s₀) (t := t) ?_ (fun ht => ?_); rotate_left; (try clear_value t); rotate_left; subst t)
    | (extract_lets +onlyGivenNames t; try clear_value t)
    | split

/-! ### PinOps -/

theorem State.updPin_moves (hp : Sub 2199023255552 F.parts) {s : State} {b : ℕ} {j : ℕ} {g : Pin → Pin} (h : Moves F s₀ s) : Moves F s₀ (State.updPin s b j g) := by
  unfold State.updPin
  repeat' first
    | with_reducible assumption
    | exact hp.bit rfl
    | exact hp.sub rfl
    | simp (disch := first | exact hp.out rfl | with_reducible exact fun _ => rfl) only [Moves.mk_iff]

theorem State.pinsSafe_moves (hp : Sub 2199023255552 F.parts) {s : State} {n : ℕ} (h : Moves F s₀ s) : Moves F s₀ (State.pinsSafe s n) := by
  unfold State.pinsSafe
  repeat' first
    | with_reducible assumption
    | exact hp.bit rfl
    | exact hp.sub rfl
    | exact Sub.mem (f := a) hp ha (by rfl)
    | with_reducible refine State.updPin_moves ?_ ?_
    | with_reducible refine Moves.foldl ?_ (fun t a ha ht => ?_)
    | with_reducible refine Moves.foldl2 ?_ (fun y a ht => ?_)
    | with_reducible refine Moves.foldl1 ?_ (fun y a ht => ?_)
    | simp (disch := first | exact hp.out rfl | with_reducible exact fun _ => rfl) only [Moves.mk_iff]

theorem State.loadPins_moves (hp : Sub 2199023255552 F.parts) {s : State} {n : ℕ} (h : Moves F s₀ s) : Moves F s₀ (State.loadPins s n) := by
  unfold State.loadPins
  repeat' first
    | with_reducible assumption
    | exact hp.bit rfl
    | exact hp.sub rfl
    | exact Sub.mem (f := a) hp ha (by rfl)
    | with_reducible refine State.updPin_moves ?_ ?_
    | with_reducible refine Moves.foldl ?_ (fun t a ha ht => ?_)
    | with_reducible refine Moves.foldl2 ?_ (fun y a ht => ?_)
    | with_reducible refine Moves.foldl1 ?_ (fun y a ht => ?_)
    | (extract_lets +onlyGivenNames t; refine Moves.cut (F := F) (s₀ := s₀) (t := t) ?_ (fun ht => ?_); rotate_left; (try clear_value t); rotate_left; subst t)
    | (extract_lets +onlyGivenNames t; try clear_value t)
    | simp (disch := first | exact hp.out rfl | with_reducible exact fun _ => rfl) only [Moves.mk_iff]

theorem State.drivePins_moves (hp : Sub 2199023255552 F.parts) {s : State} {n : ℕ} (h : Moves F s₀ s) : Moves F s₀ (State.drivePins s n) := by
  unfold State.drivePins
  repeat' first
    | with_reducible assumption
    | exact hp.bit rfl
    | exact hp.sub rfl
    | exact Sub.mem (f := a) hp ha (by rfl)
    | with_reducible refine State.updPin_moves ?_ ?_
    | with_reducible refine Moves.foldl ?_ (fun t a ha ht => ?_)
    | with_reducible refine Moves.foldl2 ?_ (fun y a ht => ?_)
    | with_reducible refine Moves.foldl1 ?_ (fun y a ht => ?_)
    | split
    | simp (disch := first | exact hp.out rfl | with_reducible exact fun _ => rfl) only [Moves.mk_iff]

end Sys2Proof.Machine
end

