-- ==== Sys2Proof/Laws/MovesB.lean ====
section
/-! SUPPORT. What each operation and meaning of these files may do to the state as a whole (see Moves.lean):
Lanes, Transport, Fabric, Boundary, ShiftOps, WinderCmds. -/

namespace Sys2Proof.Machine

set_option linter.unusedTactic false
set_option linter.unreachableTactic false
set_option linter.unusedVariables false
set_option linter.tactic.unusedName false

variable {F : Foot} {s₀ : State}

/-! ### Lanes -/

theorem State.updLane_moves (hp : Sub 34359738368 F.parts) {s : State} {p : ℕ} {i : ℕ} {g : Lane → Lane} (h : Moves F s₀ s) : Moves F s₀ (State.updLane s p i g) := by
  unfold State.updLane
  repeat' first
    | with_reducible assumption
    | exact hp.bit rfl
    | exact hp.sub rfl
    | simp (disch := first | exact hp.out rfl | with_reducible exact fun _ => rfl) only [Moves.mk_iff]

theorem State.putLink_moves (hp : Sub 3072 F.parts) {s : State} {p : ℕ} {x2 : ℕ} {v : Bool} (h : Moves F s₀ s) : Moves F s₀ (State.putLink s p x2 v) := by
  unfold State.putLink
  repeat' first
    | with_reducible assumption
    | exact hp.bit rfl
    | exact hp.sub rfl
    | exact hp.ab rfl rfl
    | with_reducible refine State.putBit_moves ?_ ?_
    | with_reducible refine State.put_moves ?_ ?_

theorem State.linkDown_moves (hp : Sub 4503676936784896 F.parts) {s : State} {p : ℕ} {x2 : ℕ} (h : Moves F s₀ s) : Moves F s₀ (State.linkDown s p x2) := by
  unfold State.linkDown
  repeat' first
    | with_reducible assumption
    | exact hp.bit rfl
    | exact hp.sub rfl
    | exact hp.ab rfl rfl
    | with_reducible refine State.count_moves ?_ ?_
    | with_reducible refine State.putLink_moves ?_ ?_
    | with_reducible refine State.wr_moves ?_ ?_
    | with_reducible refine State.raise_moves ?_ ?_ ?_
    | (extract_lets +onlyGivenNames t; refine Moves.cut (F := F) (s₀ := s₀) (t := t) ?_ (fun ht => ?_); rotate_left; (try clear_value t); rotate_left; subst t)
    | split
    | simp (disch := first | exact hp.out rfl | with_reducible exact fun _ => rfl) only [Moves.mk_iff]

theorem State.eyeAbort_moves (hp : Sub 2048 F.parts) {s : State} {p : ℕ} {i : ℕ} (h : Moves F s₀ s) : Moves F s₀ (State.eyeAbort s p i) := by
  unfold State.eyeAbort
  repeat' first
    | with_reducible assumption
    | exact hp.bit rfl
    | exact hp.sub rfl
    | with_reducible refine State.drawn_moves ?_
    | with_reducible refine State.wr_moves ?_ ?_
    | split

theorem State.sendBits_moves (hp : Sub 4503633987108864 F.parts) {s : State} {p : ℕ} {i : ℕ} {n : ℕ} {v : ℕ} (h : Moves F s₀ s) : Moves F s₀ (State.sendBits s p i n v) := by
  unfold State.sendBits
  repeat' first
    | with_reducible assumption
    | exact hp.bit rfl
    | exact hp.sub rfl
    | with_reducible refine State.emit_moves ?_ ?_
    | with_reducible refine State.updLane_moves ?_ ?_
    | (extract_lets +onlyGivenNames t; refine Moves.cut (F := F) (s₀ := s₀) (t := t) ?_ (fun ht => ?_); rotate_left; (try clear_value t); rotate_left; subst t)
    | (extract_lets +onlyGivenNames t; try clear_value t)
    | simp (disch := first | exact hp.out rfl | with_reducible exact fun _ => rfl) only [Moves.mk_iff]

theorem State.pushBlock_moves (hp : Sub 4503633987108864 F.parts) {s : State} {p : ℕ} {i : ℕ} {b : ℕ} (h : Moves F s₀ s) : Moves F s₀ (State.pushBlock s p i b) := by
  unfold State.pushBlock
  repeat' first
    | with_reducible assumption
    | exact hp.bit rfl
    | exact hp.sub rfl
    | with_reducible refine State.updLane_moves ?_ ?_
    | with_reducible refine State.sendBits_moves ?_ ?_
    | (extract_lets +onlyGivenNames t; refine Moves.cut (F := F) (s₀ := s₀) (t := t) ?_ (fun ht => ?_); rotate_left; (try clear_value t); rotate_left; subst t)
    | (extract_lets +onlyGivenNames t; try clear_value t)
    | split
    | simp (disch := first | exact hp.out rfl | with_reducible exact fun _ => rfl) only [Moves.mk_iff]

theorem State.sendAlign_moves (hp : Sub 4503633987108864 F.parts) {s : State} {p : ℕ} {i : ℕ} (h : Moves F s₀ s) : Moves F s₀ (State.sendAlign s p i) := by
  unfold State.sendAlign
  repeat' first
    | with_reducible assumption
    | exact hp.bit rfl
    | exact hp.sub rfl
    | with_reducible refine State.pushBlock_moves ?_ ?_
    | with_reducible refine State.updLane_moves ?_ ?_
    | (extract_lets +onlyGivenNames t; refine Moves.cut (F := F) (s₀ := s₀) (t := t) ?_ (fun ht => ?_); rotate_left; (try clear_value t); rotate_left; subst t)
    | (extract_lets +onlyGivenNames t; try clear_value t)
    | simp (disch := first | exact hp.out rfl | with_reducible exact fun _ => rfl) only [Moves.mk_iff]

theorem State.laneSend_moves (hp : Sub 4503633987108864 F.parts) {s : State} {p : ℕ} {i : ℕ} {b : ℕ} (h : Moves F s₀ s) : Moves F s₀ (State.laneSend s p i b) := by
  unfold State.laneSend
  repeat' first
    | with_reducible assumption
    | exact hp.bit rfl
    | exact hp.sub rfl
    | with_reducible refine State.sendAlign_moves ?_ ?_
    | with_reducible refine State.pushBlock_moves ?_ ?_
    | with_reducible refine State.updLane_moves ?_ ?_
    | (extract_lets +onlyGivenNames t; refine Moves.cut (F := F) (s₀ := s₀) (t := t) ?_ (fun ht => ?_); rotate_left; (try clear_value t); rotate_left; subst t)
    | (extract_lets +onlyGivenNames t; try clear_value t)
    | split
    | simp (disch := first | exact hp.out rfl | with_reducible exact fun _ => rfl) only [Moves.mk_iff]

theorem State.offer_moves (hp : Sub 4503633987108864 F.parts) {s : State} {p : ℕ} {i : ℕ} {b : ℕ} (h : Moves F s₀ s) : Moves F s₀ (State.offer s p i b) := by
  unfold State.offer
  repeat' first
    | with_reducible assumption
    | exact hp.bit rfl
    | exact hp.sub rfl
    | with_reducible refine State.laneSend_moves ?_ ?_
    | split

theorem State.fillGroup_moves (hp : Sub 4503633987108864 F.parts) {s : State} {p : ℕ} {i : ℕ} {b : ℕ} {whole : Bool} (h : Moves F s₀ s) : Moves F s₀ (State.fillGroup s p i b whole) := by
  unfold State.fillGroup
  repeat' first
    | with_reducible assumption
    | exact hp.bit rfl
    | exact hp.sub rfl
    | exact Sub.mem (f := a) hp ha (by rfl)
    | with_reducible refine State.laneSend_moves ?_ ?_
    | with_reducible refine Moves.foldl ?_ (fun t a ha ht => ?_)
    | (extract_lets +onlyGivenNames t; refine Moves.cut (F := F) (s₀ := s₀) (t := t) ?_ (fun ht => ?_); rotate_left; (try clear_value t); rotate_left; subst t)
    | (extract_lets +onlyGivenNames t; try clear_value t)
    | split

theorem State.laneIdle_moves (hp : Sub 4503633987108864 F.parts) {s : State} {p : ℕ} {i : ℕ} (h : Moves F s₀ s) : Moves F s₀ (State.laneIdle s p i) := by
  unfold State.laneIdle
  repeat' first
    | with_reducible assumption
    | exact hp.bit rfl
    | exact hp.sub rfl
    | with_reducible refine State.sendBits_moves ?_ ?_
    | with_reducible refine State.updLane_moves ?_ ?_
    | with_reducible refine State.laneSend_moves ?_ ?_
    | (extract_lets +onlyGivenNames t; refine Moves.cut (F := F) (s₀ := s₀) (t := t) ?_ (fun ht => ?_); rotate_left; (try clear_value t); rotate_left; subst t)
    | (extract_lets +onlyGivenNames t; try clear_value t)
    | split
    | simp (disch := first | exact hp.out rfl | with_reducible exact fun _ => rfl) only [Moves.mk_iff]

theorem State.lanesIdle_moves (hp : Sub 4503633987108864 F.parts) {s : State} (h : Moves F s₀ s) : Moves F s₀ (State.lanesIdle s) := by
  unfold State.lanesIdle
  repeat' first
    | with_reducible assumption
    | exact hp.bit rfl
    | exact hp.sub rfl
    | exact Sub.mem (f := a) hp ha (by rfl)
    | with_reducible refine State.laneIdle_moves ?_ ?_
    | with_reducible refine Moves.foldl ?_ (fun t a ha ht => ?_)

theorem State.txStart_moves (hp : Sub 34359740416 F.parts) {s : State} {p : ℕ} {i : ℕ} (h : Moves F s₀ s) : Moves F s₀ (State.txStart s p i) := by
  unfold State.txStart
  repeat' first
    | with_reducible assumption
    | exact hp.bit rfl
    | exact hp.sub rfl
    | with_reducible refine State.drawn_moves ?_
    | with_reducible refine State.updLane_moves ?_ ?_
    | with_reducible refine State.wr_moves ?_ ?_
    | simp (disch := first | exact hp.out rfl | with_reducible exact fun _ => rfl) only [Moves.mk_iff]

theorem State.putRx_moves (hp : Sub 34359740416 F.parts) {s : State} {p : ℕ} {i : ℕ} {st : ℕ} (h : Moves F s₀ s) : Moves F s₀ (State.putRx s p i st) := by
  unfold State.putRx
  repeat' first
    | with_reducible assumption
    | exact hp.bit rfl
    | exact hp.sub rfl
    | with_reducible refine State.updLane_moves ?_ ?_
    | with_reducible refine State.wr_moves ?_ ?_
    | split
    | simp (disch := first | exact hp.out rfl | with_reducible exact fun _ => rfl) only [Moves.mk_iff]

theorem State.adapt_moves (hp : Sub 34359738368 F.parts) {s : State} {p : ℕ} {i : ℕ} (h : Moves F s₀ s) : Moves F s₀ (State.adapt s p i) := by
  unfold State.adapt
  repeat' first
    | with_reducible assumption
    | exact hp.bit rfl
    | exact hp.sub rfl
    | with_reducible refine State.drawn_moves ?_
    | with_reducible refine State.updLane_moves ?_ ?_
    | split
    | simp (disch := first | exact hp.out rfl | with_reducible exact fun _ => rfl) only [Moves.mk_iff]

theorem State.rxTo_moves (hp : Sub 4503711296523264 F.parts) {s : State} {p : ℕ} {i : ℕ} {st : ℕ} (h : Moves F s₀ s) : Moves F s₀ (State.rxTo s p i st) := by
  unfold State.rxTo
  repeat' first
    | with_reducible assumption
    | exact hp.bit rfl
    | exact hp.sub rfl
    | exact Sub.mem (f := a) hp ha (by rfl)
    | with_reducible refine State.updLane_moves ?_ ?_
    | with_reducible refine State.putRx_moves ?_ ?_
    | with_reducible refine State.count_moves ?_ ?_
    | with_reducible refine State.drawn_moves ?_
    | with_reducible refine State.wr_moves ?_ ?_
    | with_reducible refine State.eyeAbort_moves ?_ ?_
    | with_reducible refine State.linkDown_moves ?_ ?_
    | with_reducible refine Moves.foldl ?_ (fun t a ha ht => ?_)
    | (extract_lets +onlyGivenNames t; refine Moves.cut (F := F) (s₀ := s₀) (t := t) ?_ (fun ht => ?_); rotate_left; (try clear_value t); rotate_left; subst t)
    | (extract_lets +onlyGivenNames t; try clear_value t)
    | split
    | simp (disch := first | exact hp.out rfl | with_reducible exact fun _ => rfl) only [Moves.mk_iff]

theorem State.rxStart_moves (hp : Sub 4503711296523264 F.parts) {s : State} {p : ℕ} {i : ℕ} (h : Moves F s₀ s) : Moves F s₀ (State.rxStart s p i) := by
  unfold State.rxStart
  repeat' first
    | with_reducible assumption
    | exact hp.bit rfl
    | exact hp.sub rfl
    | with_reducible refine State.updLane_moves ?_ ?_
    | with_reducible refine State.wr_moves ?_ ?_
    | with_reducible refine State.rxTo_moves ?_ ?_
    | split
    | simp (disch := first | exact hp.out rfl | with_reducible exact fun _ => rfl) only [Moves.mk_iff]

theorem State.startSub_moves (hp : Sub 4503711296523264 F.parts) {s : State} {p : ℕ} {x2 : ℕ} (h : Moves F s₀ s) : Moves F s₀ (State.startSub s p x2) := by
  unfold State.startSub
  repeat' first
    | with_reducible assumption
    | exact hp.bit rfl
    | exact hp.sub rfl
    | exact Sub.mem (f := a) hp ha (by rfl)
    | with_reducible refine State.rxStart_moves ?_ ?_
    | with_reducible refine State.wr_moves ?_ ?_
    | with_reducible refine State.txStart_moves ?_ ?_
    | with_reducible refine Moves.foldl ?_ (fun t a ha ht => ?_)
    | split

theorem State.startWaiting_moves (hp : Sub 4503711296523264 F.parts) {s : State} {p : ℕ} (h : Moves F s₀ s) : Moves F s₀ (State.startWaiting s p) := by
  unfold State.startWaiting
  repeat' first
    | with_reducible assumption
    | exact hp.bit rfl
    | exact hp.sub rfl
    | exact Sub.mem (f := a) hp ha (by rfl)
    | with_reducible refine State.startSub_moves ?_ ?_
    | with_reducible refine Moves.foldl ?_ (fun t a ha ht => ?_)
    | split

theorem State.disableSub_moves (hp : Sub 4503711296523264 F.parts) {s : State} {p : ℕ} {x2 : ℕ} (h : Moves F s₀ s) : Moves F s₀ (State.disableSub s p x2) := by
  unfold State.disableSub
  repeat' first
    | with_reducible assumption
    | exact hp.bit rfl
    | exact hp.sub rfl
    | exact Sub.mem (f := a) hp ha (by rfl)
    | with_reducible refine State.updLane_moves ?_ ?_
    | with_reducible refine State.wr_moves ?_ ?_
    | with_reducible refine State.eyeAbort_moves ?_ ?_
    | with_reducible refine State.rxTo_moves ?_ ?_
    | with_reducible refine Moves.foldl ?_ (fun t a ha ht => ?_)
    | (extract_lets +onlyGivenNames t; refine Moves.cut (F := F) (s₀ := s₀) (t := t) ?_ (fun ht => ?_); rotate_left; (try clear_value t); rotate_left; subst t)
    | split
    | simp (disch := first | exact hp.out rfl | with_reducible exact fun _ => rfl) only [Moves.mk_iff]

theorem execXcPortCtrlWrite_moves (hp : Sub 4503715599879168 F.parts) {port : ℕ} {value : ℕ} {s : State} {t : State} (e : execXcPortCtrlWrite port value s = .next t) (h : Moves F s₀ s) : Moves F s₀ t := by
  unfold execXcPortCtrlWrite at e
  rw [need_next e]; clear e
  repeat' first
    | with_reducible assumption
    | exact hp.bit rfl
    | exact hp.sub rfl
    | exact fun f hf => hp.mem hf (by rfl)
    | refine need_moves (by with_reducible assumption) ?_
    | with_reducible refine State.wr_moves ?_ ?_
    | with_reducible refine State.disableSub_moves ?_ ?_
    | with_reducible refine State.setFields_moves ?_ ?_
    | with_reducible refine State.ungate_moves ?_ ?_
    | with_reducible refine State.startWaiting_moves ?_ ?_
    | (extract_lets +onlyGivenNames t; refine Moves.cut (F := F) (s₀ := s₀) (t := t) ?_ (fun ht => ?_); rotate_left; (try clear_value t); rotate_left; subst t)
    | (extract_lets +onlyGivenNames t; try clear_value t)
    | split

theorem execLanePllLock_moves (hp : Sub 4503711296523264 F.parts) {port : ℕ} {s : State} {t : State} (e : execLanePllLock port s = .next t) (h : Moves F s₀ s) : Moves F s₀ t := by
  unfold execLanePllLock at e
  rw [need_next e]; clear e
  repeat' first
    | with_reducible assumption
    | exact hp.bit rfl
    | exact hp.sub rfl
    | refine need_moves (by with_reducible assumption) ?_
    | with_reducible refine State.startWaiting_moves ?_ ?_
    | with_reducible refine State.wr_moves ?_ ?_
    | split

theorem execLos_moves (hp : Sub 4503711296523264 F.parts) {port : ℕ} {lane : ℕ} {s : State} {t : State} (e : execLos port lane s = .next t) (h : Moves F s₀ s) : Moves F s₀ t := by
  unfold execLos at e
  rw [need_next e]; clear e
  repeat' first
    | with_reducible assumption
    | exact hp.bit rfl
    | exact hp.sub rfl
    | refine need_moves (by with_reducible assumption) ?_
    | with_reducible refine State.wr_moves ?_ ?_
    | with_reducible refine State.eyeAbort_moves ?_ ?_
    | with_reducible refine State.rxTo_moves ?_ ?_
    | (extract_lets +onlyGivenNames t; refine Moves.cut (F := F) (s₀ := s₀) (t := t) ?_ (fun ht => ?_); rotate_left; (try clear_value t); rotate_left; subst t)
    | (extract_lets +onlyGivenNames t; try clear_value t)
    | split

theorem execCdrLock_moves (hp : Sub 4503711296523264 F.parts) {port : ℕ} {lane : ℕ} {s : State} {t : State} (e : execCdrLock port lane s = .next t) (h : Moves F s₀ s) : Moves F s₀ t := by
  unfold execCdrLock at e
  rw [need_next e]; clear e
  repeat' first
    | with_reducible assumption
    | exact hp.bit rfl
    | exact hp.sub rfl
    | refine need_moves (by with_reducible assumption) ?_
    | with_reducible refine State.wr_moves ?_ ?_
    | with_reducible refine State.adapt_moves ?_ ?_
    | with_reducible refine State.rxTo_moves ?_ ?_
    | (extract_lets +onlyGivenNames t; refine Moves.cut (F := F) (s₀ := s₀) (t := t) ?_ (fun ht => ?_); rotate_left; (try clear_value t); rotate_left; subst t)
    | (extract_lets +onlyGivenNames t; try clear_value t)
    | split

theorem execCdrLockLost_moves (hp : Sub 4503711296523264 F.parts) {port : ℕ} {lane : ℕ} {s : State} {t : State} (e : execCdrLockLost port lane s = .next t) (h : Moves F s₀ s) : Moves F s₀ t := by
  unfold execCdrLockLost at e
  rw [need_next e]; clear e
  repeat' first
    | with_reducible assumption
    | exact hp.bit rfl
    | exact hp.sub rfl
    | refine need_moves (by with_reducible assumption) ?_
    | with_reducible refine State.rxTo_moves ?_ ?_
    | with_reducible refine State.wr_moves ?_ ?_
    | with_reducible refine State.eyeAbort_moves ?_ ?_
    | split

theorem State.alignMiss_moves (hp : Sub 4503711296523264 F.parts) {s : State} {p : ℕ} {i : ℕ} (h : Moves F s₀ s) : Moves F s₀ (State.alignMiss s p i) := by
  unfold State.alignMiss
  repeat' first
    | with_reducible assumption
    | exact hp.bit rfl
    | exact hp.sub rfl
    | with_reducible refine State.rxTo_moves ?_ ?_
    | with_reducible refine State.updLane_moves ?_ ?_
    | split
    | simp (disch := first | exact hp.out rfl | with_reducible exact fun _ => rfl) only [Moves.mk_iff]

theorem execFecCodeword_moves (hp : Sub 4503711296523264 F.parts) {y0 : Nat} {y1 : Nat} {y2 : List Nat} {y3 : List Nat} {y4 : List Nat} {s : State} {t : State} (e : execFecCodeword y0 y1 y2 y3 y4 s = .next t) (h : Moves F s₀ s) : Moves F s₀ t := by
  unfold execFecCodeword at e
  rw [need_next e]; clear e
  repeat' first
    | with_reducible assumption
    | exact hp.bit rfl
    | exact hp.sub rfl
    | refine need_moves (by with_reducible assumption) ?_
    | with_reducible refine State.updLane_moves ?_ ?_
    | with_reducible refine State.count_moves ?_ ?_
    | with_reducible refine State.alignMiss_moves ?_ ?_
    | with_reducible refine State.wr_moves ?_ ?_
    | (extract_lets +onlyGivenNames t; refine Moves.cut (F := F) (s₀ := s₀) (t := t) ?_ (fun ht => ?_); rotate_left; (try clear_value t); rotate_left; subst t)
    | (extract_lets +onlyGivenNames t; try clear_value t)
    | split
    | simp (disch := first | exact hp.out rfl | with_reducible exact fun _ => rfl) only [Moves.mk_iff]

theorem State.control_moves (hp : Sub 2048 F.parts) {s : State} {p : ℕ} {i : ℕ} {b : XBlock} (h : Moves F s₀ s) : Moves F s₀ (State.control s p i b).1 := by
  unfold State.control
  repeat' first
    | with_reducible assumption
    | exact hp.bit rfl
    | exact hp.sub rfl
    | split
    | dsimp only
    | with_reducible refine State.count_moves ?_ ?_
theorem State.control_moves' (hp : Sub 2048 F.parts) {s : State} {p : ℕ} {i : ℕ} {b : XBlock} {t : State} {r : Option ℕ} (e : State.control s p i b = (t, r)) (h : Moves F s₀ s) : Moves F s₀ t := by
  have k := @State.control_moves F s₀ (hp.sub rfl) s p i b h
  rw [e] at k; exact k

theorem State.peerFields_moves (hp : Sub 16777215 F.parts) {s : State} {p : ℕ} {i : ℕ} {b : ℕ} (h : Moves F s₀ s) : Moves F s₀ (State.peerFields s p i b) := by
  unfold State.peerFields
  repeat' first
    | with_reducible assumption
    | exact hp.bit rfl
    | exact hp.sub rfl
    | exact hp.any rfl
    | with_reducible refine State.setRaw_moves ?_ ?_
    | with_reducible refine State.count_moves ?_ ?_
    | split

theorem State.tryReady_moves (hp : Sub 4503608217308160 F.parts) {s : State} {p : ℕ} {x2 : ℕ} (h : Moves F s₀ s) : Moves F s₀ (State.tryReady s p x2) := by
  unfold State.tryReady
  repeat' first
    | with_reducible assumption
    | exact hp.bit rfl
    | exact hp.sub rfl
    | exact Sub.mem (f := a) hp ha (by rfl)
    | exact hp.ab rfl rfl
    | with_reducible refine State.wr_moves ?_ ?_
    | with_reducible refine State.raise_moves ?_ ?_ ?_
    | with_reducible refine State.putLink_moves ?_ ?_
    | with_reducible refine Moves.foldl ?_ (fun t a ha ht => ?_)
    | (extract_lets +onlyGivenNames t; refine Moves.cut (F := F) (s₀ := s₀) (t := t) ?_ (fun ht => ?_); rotate_left; (try clear_value t); rotate_left; subst t)
    | split

theorem State.searchMatch_moves (hp : Sub 4503711313297407 F.parts) {s : State} {p : ℕ} {i : ℕ} {b : ℕ} {pos : ℕ} {time : ℕ} (h : Moves F s₀ s) : Moves F s₀ (State.searchMatch s p i b pos time) := by
  unfold State.searchMatch
  repeat' first
    | with_reducible assumption
    | exact hp.bit rfl
    | exact hp.sub rfl
    | exact hp.any rfl
    | with_reducible refine State.updLane_moves ?_ ?_
    | with_reducible refine State.peerFields_moves ?_ ?_
    | with_reducible refine State.wr_moves ?_ ?_
    | with_reducible refine State.rxTo_moves ?_ ?_
    | (extract_lets +onlyGivenNames t; refine Moves.cut (F := F) (s₀ := s₀) (t := t) ?_ (fun ht => ?_); rotate_left; (try clear_value t); rotate_left; subst t)
    | (extract_lets +onlyGivenNames t; try clear_value t)
    | split
    | simp (disch := first | exact hp.out rfl | with_reducible exact fun _ => rfl) only [Moves.mk_iff]

theorem execAlignmentBlock_moves (hp : Sub 4503711313297407 F.parts) {port : ℕ} {lane : ℕ} {b : AlignBlock} {s : State} {t : State} (e : execAlignmentBlock port lane b s = .next t) (h : Moves F s₀ s) : Moves F s₀ t := by
  unfold execAlignmentBlock at e
  rw [need_next e]; clear e
  repeat' first
    | with_reducible assumption
    | exact hp.bit rfl
    | exact hp.sub rfl
    | exact hp.any rfl
    | refine need_moves (by with_reducible assumption) ?_
    | with_reducible refine State.tryReady_moves ?_ ?_
    | with_reducible refine State.searchMatch_moves ?_ ?_
    | with_reducible refine State.adapt_moves ?_ ?_
    | with_reducible refine State.updLane_moves ?_ ?_
    | with_reducible refine State.wr_moves ?_ ?_
    | with_reducible refine State.peerFields_moves ?_ ?_
    | with_reducible refine State.count_moves ?_ ?_
    | with_reducible refine State.alignMiss_moves ?_ ?_
    | (extract_lets +onlyGivenNames t; refine Moves.cut (F := F) (s₀ := s₀) (t := t) ?_ (fun ht => ?_); rotate_left; (try clear_value t); rotate_left; subst t)
    | (extract_lets +onlyGivenNames t; try clear_value t)
    | split
    | simp (disch := first | exact hp.out rfl | with_reducible exact fun _ => rfl) only [Moves.mk_iff]

theorem execSlip_moves (hp : Sub 34359740416 F.parts) {port : ℕ} {lane : ℕ} {bits : ℕ} {s : State} {t : State} (e : execSlip port lane bits s = .next t) (h : Moves F s₀ s) : Moves F s₀ t := by
  unfold execSlip at e
  rw [need_next e]; clear e
  repeat' first
    | with_reducible assumption
    | exact hp.bit rfl
    | exact hp.sub rfl
    | refine need_moves (by with_reducible assumption) ?_
    | with_reducible refine State.wr_moves ?_ ?_
    | with_reducible refine State.updLane_moves ?_ ?_
    | (extract_lets +onlyGivenNames t; refine Moves.cut (F := F) (s₀ := s₀) (t := t) ?_ (fun ht => ?_); rotate_left; (try clear_value t); rotate_left; subst t)
    | (extract_lets +onlyGivenNames t; try clear_value t)
    | split
    | simp (disch := first | exact hp.out rfl | with_reducible exact fun _ => rfl) only [Moves.mk_iff]

theorem execTxSleep_moves (hp : Sub 34359740416 F.parts) {port : ℕ} {lane : ℕ} {v : Bool} {s : State} {t : State} (e : execTxSleep port lane v s = .next t) (h : Moves F s₀ s) : Moves F s₀ t := by
  unfold execTxSleep at e
  rw [need_next e]; clear e
  repeat' first
    | with_reducible assumption
    | exact hp.bit rfl
    | exact hp.sub rfl
    | exact hp.ab rfl rfl
    | refine need_moves (by with_reducible assumption) ?_
    | with_reducible refine State.put_moves ?_ ?_
    | with_reducible refine State.wr_moves ?_ ?_
    | with_reducible refine State.updLane_moves ?_ ?_
    | (extract_lets +onlyGivenNames t; refine Moves.cut (F := F) (s₀ := s₀) (t := t) ?_ (fun ht => ?_); rotate_left; (try clear_value t); rotate_left; subst t)
    | (extract_lets +onlyGivenNames t; try clear_value t)
    | split
    | simp (disch := first | exact hp.out rfl | with_reducible exact fun _ => rfl) only [Moves.mk_iff]

theorem execTxSleepEntered_moves (hp : Sub 4503633987110912 F.parts) {port : ℕ} {lane : ℕ} {s : State} {t : State} (e : execTxSleepEntered port lane s = .next t) (h : Moves F s₀ s) : Moves F s₀ t := by
  unfold execTxSleepEntered at e
  rw [need_next e]; clear e
  repeat' first
    | with_reducible assumption
    | exact hp.bit rfl
    | exact hp.sub rfl
    | refine need_moves (by with_reducible assumption) ?_
    | with_reducible refine State.fillGroup_moves ?_ ?_
    | with_reducible refine State.updLane_moves ?_ ?_
    | with_reducible refine State.wr_moves ?_ ?_
    | (extract_lets +onlyGivenNames t; refine Moves.cut (F := F) (s₀ := s₀) (t := t) ?_ (fun ht => ?_); rotate_left; (try clear_value t); rotate_left; subst t)
    | split
    | simp (disch := first | exact hp.out rfl | with_reducible exact fun _ => rfl) only [Moves.mk_iff]

theorem execTxWakeDone_moves (hp : Sub 34359740416 F.parts) {port : ℕ} {lane : ℕ} {s : State} {t : State} (e : execTxWakeDone port lane s = .next t) (h : Moves F s₀ s) : Moves F s₀ t := by
  unfold execTxWakeDone at e
  rw [need_next e]; clear e
  repeat' first
    | with_reducible assumption
    | exact hp.bit rfl
    | exact hp.sub rfl
    | refine need_moves (by with_reducible assumption) ?_
    | with_reducible refine State.txStart_moves ?_ ?_
    | split

theorem execRxSleep_moves (hp : Sub 4503711296523264 F.parts) {port : ℕ} {lane : ℕ} {v : Bool} {s : State} {t : State} (e : execRxSleep port lane v s = .next t) (h : Moves F s₀ s) : Moves F s₀ t := by
  unfold execRxSleep at e
  rw [need_next e]; clear e
  repeat' first
    | with_reducible assumption
    | exact hp.bit rfl
    | exact hp.sub rfl
    | refine need_moves (by with_reducible assumption) ?_
    | with_reducible refine State.eyeAbort_moves ?_ ?_
    | with_reducible refine State.put_moves ?_ ?_
    | with_reducible refine State.rxTo_moves ?_ ?_
    | (extract_lets +onlyGivenNames t; refine Moves.cut (F := F) (s₀ := s₀) (t := t) ?_ (fun ht => ?_); rotate_left; (try clear_value t); rotate_left; subst t)
    | (extract_lets +onlyGivenNames t; try clear_value t)
    | split

theorem execSleepBlock_moves (hp : Sub 4503711296523264 F.parts) {y0 : LaneAt} {y1 : XBlock} {s : State} {t : State} (e : execSleepBlock y0 y1 s = .next t) (h : Moves F s₀ s) : Moves F s₀ t := by
  unfold execSleepBlock at e
  rw [need_next e]; clear e
  repeat' first
    | with_reducible assumption
    | exact hp.bit rfl
    | exact hp.sub rfl
    | refine need_moves (by with_reducible assumption) ?_
    | with_reducible refine State.control_moves ?_ ?_
    | refine State.control_moves' ?_ (by with_reducible assumption) ?_
    | with_reducible refine State.rxTo_moves ?_ ?_
    | with_reducible refine State.wr_moves ?_ ?_
    | (extract_lets +onlyGivenNames t; refine Moves.cut (F := F) (s₀ := s₀) (t := t) ?_ (fun ht => ?_); rotate_left; (try clear_value t); rotate_left; subst t)
    | (extract_lets +onlyGivenNames t; subst t)
    | split

theorem execTestWrite_moves (hp : Sub 4503711296523264 F.parts) {port : ℕ} {lane : ℕ} {value : ℕ} {s : State} {t : State} (e : execTestWrite port lane value s = .next t) (h : Moves F s₀ s) : Moves F s₀ t := by
  unfold execTestWrite at e
  rw [need_next e]; clear e
  repeat' first
    | with_reducible assumption
    | exact hp.bit rfl
    | exact hp.sub rfl
    | refine need_moves (by with_reducible assumption) ?_
    | with_reducible refine State.wr_moves ?_ ?_
    | with_reducible refine State.updLane_moves ?_ ?_
    | with_reducible refine State.rxTo_moves ?_ ?_
    | (extract_lets +onlyGivenNames t; refine Moves.cut (F := F) (s₀ := s₀) (t := t) ?_ (fun ht => ?_); rotate_left; (try clear_value t); rotate_left; subst t)
    | split
    | simp (disch := first | exact hp.out rfl | with_reducible exact fun _ => rfl) only [Moves.mk_iff]

theorem execTxeqWrite_moves (hp : Sub 2048 F.parts) {port : ℕ} {lane : ℕ} {value : ℕ} {s : State} {t : State} (e : execTxeqWrite port lane value s = .next t) (h : Moves F s₀ s) : Moves F s₀ t := by
  unfold execTxeqWrite at e
  rw [need_next e]; clear e
  repeat' first
    | with_reducible assumption
    | exact hp.bit rfl
    | exact hp.sub rfl
    | exact fun f hf => hp.mem hf (by rfl)
    | refine need_moves (by with_reducible assumption) ?_
    | with_reducible refine State.wr_moves ?_ ?_
    | with_reducible refine State.setFields_moves ?_ ?_
    | (extract_lets +onlyGivenNames t; refine Moves.cut (F := F) (s₀ := s₀) (t := t) ?_ (fun ht => ?_); rotate_left; (try clear_value t); rotate_left; subst t)
    | split

theorem execEyeScanGo_moves (hp : Sub 2048 F.parts) {port : ℕ} {lane : ℕ} {phase : ℕ} {voff : ℕ} {eye : ℕ} {dwell : ℕ} {s : State} {t : State} (e : execEyeScanGo port lane phase voff eye dwell s = .next t) (h : Moves F s₀ s) : Moves F s₀ t := by
  unfold execEyeScanGo at e
  rw [need_next e]; clear e
  repeat' first
    | with_reducible assumption
    | exact hp.bit rfl
    | exact hp.sub rfl
    | refine need_moves (by with_reducible assumption) ?_
    | with_reducible refine State.wr_moves ?_ ?_
    | (extract_lets +onlyGivenNames t; refine Moves.cut (F := F) (s₀ := s₀) (t := t) ?_ (fun ht => ?_); rotate_left; (try clear_value t); rotate_left; subst t)
    | (extract_lets +onlyGivenNames t; try clear_value t)
    | split

theorem execEyeScanDone_moves (hp : Sub 2048 F.parts) {port : ℕ} {lane : ℕ} {errors : ℕ} {s : State} {t : State} (e : execEyeScanDone port lane errors s = .next t) (h : Moves F s₀ s) : Moves F s₀ t := by
  unfold execEyeScanDone at e
  rw [need_next e]; clear e
  repeat' first
    | with_reducible assumption
    | exact hp.bit rfl
    | exact hp.sub rfl
    | refine need_moves (by with_reducible assumption) ?_
    | with_reducible refine State.wr_moves ?_ ?_
    | split

/-! ### Transport -/

theorem State.setSub_moves (hp : Sub 68719478784 F.parts) {s : State} {p : ℕ} {r : ℕ} {x : XpSub} (h : Moves F s₀ s) : Moves F s₀ (State.setSub s p r x) := by
  unfold State.setSub
  repeat' first
    | with_reducible assumption
    | exact hp.bit rfl
    | exact hp.sub rfl
    | exact hp.ab rfl rfl
    | with_reducible refine State.wr_moves ?_ ?_
    | (extract_lets +onlyGivenNames t; refine Moves.cut (F := F) (s₀ := s₀) (t := t) ?_ (fun ht => ?_); rotate_left; (try clear_value t); rotate_left; subst t)
    | simp (disch := first | exact hp.out rfl | with_reducible exact fun _ => rfl) only [Moves.mk_iff]

theorem State.offerRow_moves (hp : Sub 4503633987108864 F.parts) {s : State} {p : ℕ} {x2 : ℕ} {row : List ℕ} (h : Moves F s₀ s) : Moves F s₀ (State.offerRow s p x2 row) := by
  unfold State.offerRow
  repeat' first
    | with_reducible assumption
    | exact hp.bit rfl
    | exact hp.sub rfl
    | exact Sub.mem (f := a) hp ha (by rfl)
    | with_reducible refine State.offer_moves ?_ ?_
    | with_reducible refine State.emit_moves ?_ ?_
    | with_reducible refine Moves.foldl ?_ (fun t a ha ht => ?_)
    | with_reducible refine Moves.foldl2 ?_ (fun y a ht => ?_)
    | with_reducible refine Moves.foldl1 ?_ (fun y a ht => ?_)

theorem State.offerRows_moves (hp : Sub 4503633987108864 F.parts) {s : State} {p : ℕ} {x2 : ℕ} {blocks : List ℕ} (h : Moves F s₀ s) : Moves F s₀ (State.offerRows s p x2 blocks) := by
  unfold State.offerRows
  repeat' first
    | with_reducible assumption
    | exact hp.bit rfl
    | exact hp.sub rfl
    | exact Sub.mem (f := a) hp ha (by rfl)
    | with_reducible refine State.offerRow_moves ?_ ?_
    | with_reducible refine Moves.foldl ?_ (fun t a ha ht => ?_)

theorem State.sendFrame_moves (hp : Sub 4503702706587648 F.parts) {s : State} {p : ℕ} {x2 : ℕ} {f : XSlot} (h : Moves F s₀ s) : Moves F s₀ (State.sendFrame s p x2 f) := by
  unfold State.sendFrame
  repeat' first
    | with_reducible assumption
    | exact hp.bit rfl
    | exact hp.sub rfl
    | with_reducible refine State.offerRows_moves ?_ ?_
    | with_reducible refine State.setSub_moves ?_ ?_
    | (extract_lets +onlyGivenNames t; refine Moves.cut (F := F) (s₀ := s₀) (t := t) ?_ (fun ht => ?_); rotate_left; (try clear_value t); rotate_left; subst t)
    | (extract_lets +onlyGivenNames t; subst t)
    | split
    | simp (disch := first | exact hp.out rfl | with_reducible exact fun _ => rfl) only [Moves.mk_iff]

theorem State.queueFrame_moves (hp : Sub 4503702706587648 F.parts) {s : State} {p : ℕ} {r : ℕ} {stream : ℕ} {tally : ℕ} {data : List ℕ} {crc : ℕ} (h : Moves F s₀ s) : Moves F s₀ (State.queueFrame s p r stream tally data crc) := by
  unfold State.queueFrame
  repeat' first
    | with_reducible assumption
    | exact hp.bit rfl
    | exact hp.sub rfl
    | exact hp.ab rfl rfl
    | with_reducible refine State.setSub_moves ?_ ?_
    | with_reducible refine State.wr_moves ?_ ?_
    | with_reducible refine State.countWrap_moves ?_ ?_
    | with_reducible refine State.sendFrame_moves ?_ ?_
    | (extract_lets +onlyGivenNames t; refine Moves.cut (F := F) (s₀ := s₀) (t := t) ?_ (fun ht => ?_); rotate_left; (try clear_value t); rotate_left; subst t)
    | (extract_lets +onlyGivenNames t; subst t)
    | split
    | simp (disch := first | exact hp.out rfl | with_reducible exact fun _ => rfl) only [Moves.mk_iff]

theorem State.unstage_moves (hp : Sub 4503702706587648 F.parts) {s : State} {p : ℕ} {r : ℕ} (h : Moves F s₀ s) : Moves F s₀ (State.unstage s p r) := by
  unfold State.unstage
  repeat' first
    | with_reducible assumption
    | exact hp.bit rfl
    | exact hp.sub rfl
    | exact Sub.mem (f := a) hp ha (by rfl)
    | with_reducible refine State.queueFrame_moves ?_ ?_
    | with_reducible refine State.setSub_moves ?_ ?_
    | with_reducible refine Moves.foldl ?_ (fun t a ha ht => ?_)
    | (extract_lets +onlyGivenNames t; refine Moves.cut (F := F) (s₀ := s₀) (t := t) ?_ (fun ht => ?_); rotate_left; (try clear_value t); rotate_left; subst t)
    | (extract_lets +onlyGivenNames t; try clear_value t)
    | simp (disch := first | exact hp.out rfl | with_reducible exact fun _ => rfl) only [Moves.mk_iff]

theorem State.freeBelow_moves (hp : Sub 4503702706587648 F.parts) {s : State} {p : ℕ} {r : ℕ} {next : ℕ} (h : Moves F s₀ s) : Moves F s₀ (State.freeBelow s p r next) := by
  unfold State.freeBelow
  repeat' first
    | with_reducible assumption
    | exact hp.bit rfl
    | exact hp.sub rfl
    | with_reducible refine State.unstage_moves ?_ ?_
    | with_reducible refine State.setSub_moves ?_ ?_
    | (extract_lets +onlyGivenNames t; refine Moves.cut (F := F) (s₀ := s₀) (t := t) ?_ (fun ht => ?_); rotate_left; (try clear_value t); rotate_left; subst t)
    | (extract_lets +onlyGivenNames t; try clear_value t)
    | simp (disch := first | exact hp.out rfl | with_reducible exact fun _ => rfl) only [Moves.mk_iff]

theorem State.resendFrom_moves (hp : Sub 4503702706587648 F.parts) {s : State} {p : ℕ} {x2 : ℕ} {next : ℕ} (h : Moves F s₀ s) : Moves F s₀ (State.resendFrom s p x2 next) := by
  unfold State.resendFrom
  repeat' first
    | with_reducible assumption
    | exact hp.bit rfl
    | exact hp.sub rfl
    | exact Sub.mem (f := a) hp ha (by rfl)
    | exact hp.ab rfl rfl
    | with_reducible refine State.count_moves ?_ ?_
    | with_reducible refine State.sendFrame_moves ?_ ?_
    | with_reducible refine Moves.foldl ?_ (fun t a ha ht => ?_)
    | (extract_lets +onlyGivenNames t; refine Moves.cut (F := F) (s₀ := s₀) (t := t) ?_ (fun ht => ?_); rotate_left; (try clear_value t); rotate_left; subst t)
    | (extract_lets +onlyGivenNames t; try clear_value t)

theorem State.acked_moves (hp : Sub 4503702706587648 F.parts) {s : State} {p : ℕ} {x2 : ℕ} {n : ℕ} (h : Moves F s₀ s) : Moves F s₀ (State.acked s p x2 n) := by
  unfold State.acked
  repeat' first
    | with_reducible assumption
    | exact hp.bit rfl
    | exact hp.sub rfl
    | with_reducible refine State.freeBelow_moves ?_ ?_

theorem State.sendSync_moves (hp : Sub 4503633987108864 F.parts) {s : State} {p : ℕ} {x2 : ℕ} (h : Moves F s₀ s) : Moves F s₀ (State.sendSync s p x2) := by
  unfold State.sendSync
  repeat' first
    | with_reducible assumption
    | exact hp.bit rfl
    | exact hp.sub rfl
    | exact hp.ab rfl rfl
    | with_reducible refine State.offerRows_moves ?_ ?_
    | (extract_lets +onlyGivenNames t; refine Moves.cut (F := F) (s₀ := s₀) (t := t) ?_ (fun ht => ?_); rotate_left; (try clear_value t); rotate_left; subst t)
    | (extract_lets +onlyGivenNames t; try clear_value t)

theorem State.buildFrame_moves (hp : Sub 4503702706587648 F.parts) {s : State} {p : ℕ} {r : ℕ} {n : ℕ} {t : ℕ} (h : Moves F s₀ s) : Moves F s₀ (State.buildFrame s p r n t) := by
  unfold State.buildFrame
  repeat' first
    | with_reducible assumption
    | exact hp.bit rfl
    | exact hp.sub rfl
    | with_reducible refine State.setSub_moves ?_ ?_
    | with_reducible refine State.queueFrame_moves ?_ ?_
    | (extract_lets +onlyGivenNames t; refine Moves.cut (F := F) (s₀ := s₀) (t := t) ?_ (fun ht => ?_); rotate_left; (try clear_value t); rotate_left; subst t)
    | (extract_lets +onlyGivenNames t; try clear_value t)
    | simp (disch := first | exact hp.out rfl | with_reducible exact fun _ => rfl) only [Moves.mk_iff]

theorem State.buildFrames_moves (hp : Sub 4503702706587648 F.parts) {s : State} {t : ℕ} (h : Moves F s₀ s) : Moves F s₀ (State.buildFrames s t) := by
  unfold State.buildFrames
  repeat' first
    | with_reducible assumption
    | exact hp.bit rfl
    | exact hp.sub rfl
    | exact Sub.mem (f := a) hp ha (by rfl)
    | with_reducible refine State.buildFrame_moves ?_ ?_
    | with_reducible refine Moves.foldl ?_ (fun t a ha ht => ?_)
    | with_reducible refine Moves.foldl2 ?_ (fun y a ht => ?_)
    | with_reducible refine Moves.foldl1 ?_ (fun y a ht => ?_)
    | (extract_lets +onlyGivenNames t; refine Moves.cut (F := F) (s₀ := s₀) (t := t) ?_ (fun ht => ?_); rotate_left; (try clear_value t); rotate_left; subst t)
    | (extract_lets +onlyGivenNames t; try clear_value t)

theorem State.loadStream_moves (hp : Sub 9007199254740992 F.parts) {s : State} {p : ℕ} {r : ℕ} {n : ℕ} {t : ℕ} (h : Moves F s₀ s) : Moves F s₀ (State.loadStream s p r n t) := by
  unfold State.loadStream
  repeat' first
    | with_reducible assumption
    | exact hp.bit rfl
    | exact hp.sub rfl
    | exact Sub.mem (f := a) hp ha (by rfl)
    | with_reducible refine State.updStope_moves ?_ ?_
    | with_reducible refine Moves.foldl ?_ (fun t a ha ht => ?_)
    | (extract_lets +onlyGivenNames t; refine Moves.cut (F := F) (s₀ := s₀) (t := t) ?_ (fun ht => ?_); rotate_left; (try clear_value t); rotate_left; subst t)
    | (extract_lets +onlyGivenNames t; try clear_value t)
    | split
    | simp (disch := first | exact hp.out rfl | with_reducible exact fun _ => rfl) only [Moves.mk_iff]

theorem State.loadReceivePoints_moves (hp : Sub 9007267974219776 F.parts) {s : State} {t : ℕ} (h : Moves F s₀ s) : Moves F s₀ (State.loadReceivePoints s t) := by
  unfold State.loadReceivePoints
  repeat' first
    | with_reducible assumption
    | exact hp.bit rfl
    | exact hp.sub rfl
    | exact Sub.mem (f := a) hp ha (by rfl)
    | with_reducible refine State.loadStream_moves ?_ ?_
    | with_reducible refine State.setSub_moves ?_ ?_
    | with_reducible refine Moves.foldl ?_ (fun t a ha ht => ?_)
    | with_reducible refine Moves.foldl2 ?_ (fun y a ht => ?_)
    | with_reducible refine Moves.foldl1 ?_ (fun y a ht => ?_)
    | (extract_lets +onlyGivenNames t; refine Moves.cut (F := F) (s₀ := s₀) (t := t) ?_ (fun ht => ?_); rotate_left; (try clear_value t); rotate_left; subst t)
    | (extract_lets +onlyGivenNames t; try clear_value t)
    | simp (disch := first | exact hp.out rfl | with_reducible exact fun _ => rfl) only [Moves.mk_iff]

theorem State.expectAll_moves (hp : Sub 68719478784 F.parts) {s : State} {p : ℕ} {r : ℕ} {x3 : ℕ} (h : Moves F s₀ s) : Moves F s₀ (State.expectAll s p r x3) := by
  unfold State.expectAll
  repeat' first
    | with_reducible assumption
    | exact hp.bit rfl
    | exact hp.sub rfl
    | exact Sub.mem (f := a) hp ha (by rfl)
    | with_reducible refine State.setSub_moves ?_ ?_
    | with_reducible refine Moves.foldl ?_ (fun t a ha ht => ?_)
    | (extract_lets +onlyGivenNames t; refine Moves.cut (F := F) (s₀ := s₀) (t := t) ?_ (fun ht => ?_); rotate_left; (try clear_value t); rotate_left; subst t)
    | (extract_lets +onlyGivenNames t; try clear_value t)
    | simp (disch := first | exact hp.out rfl | with_reducible exact fun _ => rfl) only [Moves.mk_iff]

theorem State.xpReset_moves (hp : Sub 4503702706587648 F.parts) {s : State} {x1 : ℕ} {hist : List (ℕ × List XSlot)} {full : Bool} (h : Moves F s₀ s) : Moves F s₀ (State.xpReset s x1 hist full) := by
  unfold State.xpReset
  repeat' first
    | with_reducible assumption
    | exact hp.bit rfl
    | exact hp.sub rfl
    | exact Sub.mem (f := a) hp ha (by rfl)
    | exact hp.ab rfl rfl
    | with_reducible refine State.setSub_moves ?_ ?_
    | with_reducible refine State.wr_moves ?_ ?_
    | with_reducible refine State.expectAll_moves ?_ ?_
    | with_reducible refine State.queueFrame_moves ?_ ?_
    | with_reducible refine Moves.foldl ?_ (fun t a ha ht => ?_)
    | with_reducible refine Moves.foldl2 ?_ (fun y a ht => ?_)
    | with_reducible refine Moves.foldl1 ?_ (fun y a ht => ?_)
    | (extract_lets +onlyGivenNames t; refine Moves.cut (F := F) (s₀ := s₀) (t := t) ?_ (fun ht => ?_); rotate_left; (try clear_value t); rotate_left; subst t)
    | (extract_lets +onlyGivenNames t; try clear_value t)
    | split
    | simp (disch := first | exact hp.out rfl | with_reducible exact fun _ => rfl) only [Moves.mk_iff]

theorem execGate_moves (hp : Sub 4503702706587904 F.parts) {port : ℕ} {half : ℕ} {v : Bool} {s : State} {t : State} (e : execGate port half v s = .next t) (h : Moves F s₀ s) : Moves F s₀ t := by
  unfold execGate at e
  rw [need_next e]; clear e
  repeat' first
    | with_reducible assumption
    | exact hp.bit rfl
    | exact hp.sub rfl
    | exact hp.ab rfl rfl
    | refine need_moves (by with_reducible assumption) ?_
    | with_reducible refine State.wr_moves ?_ ?_
    | with_reducible refine State.sendSync_moves ?_ ?_
    | with_reducible refine State.expectAll_moves ?_ ?_
    | (extract_lets +onlyGivenNames t; refine Moves.cut (F := F) (s₀ := s₀) (t := t) ?_ (fun ht => ?_); rotate_left; (try clear_value t); rotate_left; subst t)
    | (extract_lets +onlyGivenNames t; subst t)
    | split

theorem execStreamMapWrite_moves (hp : Sub 2048 F.parts) {port : ℕ} {off : ℕ} {value : ℕ} {s : State} {t : State} (e : execStreamMapWrite port off value s = .next t) (h : Moves F s₀ s) : Moves F s₀ t := by
  unfold execStreamMapWrite at e
  rw [need_next e]; clear e
  repeat' first
    | with_reducible assumption
    | exact hp.bit rfl
    | exact hp.sub rfl
    | exact fun f hf => hp.mem hf (by rfl)
    | refine need_moves (by with_reducible assumption) ?_
    | with_reducible refine State.wr_moves ?_ ?_
    | with_reducible refine State.setFields_moves ?_ ?_
    | split

theorem execAltWrite_moves (hp : Sub 2048 F.parts) {port : ℕ} {half : ℕ} {v : Bool} {s : State} {t : State} (e : execAltWrite port half v s = .next t) (h : Moves F s₀ s) : Moves F s₀ t := by
  unfold execAltWrite at e
  rw [need_next e]; clear e
  repeat' first
    | with_reducible assumption
    | exact hp.bit rfl
    | exact hp.sub rfl
    | exact hp.ab rfl rfl
    | refine need_moves (by with_reducible assumption) ?_
    | with_reducible refine State.put_moves ?_ ?_
    | with_reducible refine State.wr_moves ?_ ?_
    | (extract_lets +onlyGivenNames t; refine Moves.cut (F := F) (s₀ := s₀) (t := t) ?_ (fun ht => ?_); rotate_left; (try clear_value t); rotate_left; subst t)
    | (extract_lets +onlyGivenNames t; subst t)
    | split

theorem State.badFrame_moves (hp : Sub 2048 F.parts) {s : State} {p : ℕ} {r : ℕ} (h : Moves F s₀ s) : Moves F s₀ (State.badFrame s p r) := by
  unfold State.badFrame
  repeat' first
    | with_reducible assumption
    | exact hp.bit rfl
    | exact hp.sub rfl
    | exact hp.ab rfl rfl
    | with_reducible refine State.count_moves ?_ ?_

theorem State.sendNak_moves (hp : Sub 4503702706587648 F.parts) {s : State} {p : ℕ} {x2 : ℕ} (h : Moves F s₀ s) : Moves F s₀ (State.sendNak s p x2) := by
  unfold State.sendNak
  repeat' first
    | with_reducible assumption
    | exact hp.bit rfl
    | exact hp.sub rfl
    | exact hp.ab rfl rfl
    | with_reducible refine State.offerRows_moves ?_ ?_
    | with_reducible refine State.count_moves ?_ ?_
    | with_reducible refine State.setSub_moves ?_ ?_
    | (extract_lets +onlyGivenNames t; refine Moves.cut (F := F) (s₀ := s₀) (t := t) ?_ (fun ht => ?_); rotate_left; (try clear_value t); rotate_left; subst t)
    | (extract_lets +onlyGivenNames t; try clear_value t)
    | split
    | simp (disch := first | exact hp.out rfl | with_reducible exact fun _ => rfl) only [Moves.mk_iff]

theorem State.deliver_moves (hp : Sub 6755502520272896 F.parts) {s : State} {p : ℕ} {r : ℕ} {f : XFrame} (h : Moves F s₀ s) : Moves F s₀ (State.deliver s p r f) := by
  unfold State.deliver
  repeat' first
    | with_reducible assumption
    | exact hp.bit rfl
    | exact hp.sub rfl
    | exact hp.ab rfl rfl
    | with_reducible refine State.wr_moves ?_ ?_
    | with_reducible refine State.setSub_moves ?_ ?_
    | with_reducible refine State.post_moves ?_ ?_
    | with_reducible refine State.queueFrame_moves ?_ ?_
    | (extract_lets +onlyGivenNames t; refine Moves.cut (F := F) (s₀ := s₀) (t := t) ?_ (fun ht => ?_); rotate_left; (try clear_value t); rotate_left; subst t)
    | (extract_lets +onlyGivenNames t; try clear_value t)
    | split
    | simp (disch := first | exact hp.out rfl | with_reducible exact fun _ => rfl) only [Moves.mk_iff]

theorem State.takeFrame_moves (hp : Sub 6755502520272896 F.parts) {s : State} {p : ℕ} {x2 : ℕ} {f : XFrame} (h : Moves F s₀ s) : Moves F s₀ (State.takeFrame s p x2 f) := by
  unfold State.takeFrame
  repeat' first
    | with_reducible assumption
    | exact hp.bit rfl
    | exact hp.sub rfl
    | exact hp.ab rfl rfl
    | with_reducible refine State.acked_moves ?_ ?_
    | with_reducible refine State.count_moves ?_ ?_
    | with_reducible refine State.setSub_moves ?_ ?_
    | with_reducible refine State.sendNak_moves ?_ ?_
    | with_reducible refine State.badFrame_moves ?_ ?_
    | with_reducible refine State.countWrap_moves ?_ ?_
    | with_reducible refine State.deliver_moves ?_ ?_
    | (extract_lets +onlyGivenNames t; refine Moves.cut (F := F) (s₀ := s₀) (t := t) ?_ (fun ht => ?_); rotate_left; (try clear_value t); rotate_left; subst t)
    | (extract_lets +onlyGivenNames t; subst t)
    | split
    | simp (disch := first | exact hp.out rfl | with_reducible exact fun _ => rfl) only [Moves.mk_iff]

theorem execStrokeFrame_moves (hp : Sub 6755502520272896 F.parts) {y0 : Nat} {y1 : Nat} {y2 : XBlock} {y3 : List XBlock} {s : State} {t : State} (e : execStrokeFrame y0 y1 y2 y3 s = .next t) (h : Moves F s₀ s) : Moves F s₀ t := by
  unfold execStrokeFrame at e
  rw [need_next e]; clear e
  repeat' first
    | with_reducible assumption
    | exact hp.bit rfl
    | exact hp.sub rfl
    | refine need_moves (by with_reducible assumption) ?_
    | with_reducible refine State.control_moves ?_ ?_
    | refine State.control_moves' ?_ (by with_reducible assumption) ?_
    | with_reducible refine State.wr_moves ?_ ?_
    | with_reducible refine State.badFrame_moves ?_ ?_
    | with_reducible refine State.takeFrame_moves ?_ ?_
    | (extract_lets +onlyGivenNames t; refine Moves.cut (F := F) (s₀ := s₀) (t := t) ?_ (fun ht => ?_); rotate_left; (try clear_value t); rotate_left; subst t)
    | (extract_lets +onlyGivenNames t; subst t)
    | split

theorem execAck_moves (hp : Sub 4503702706587648 F.parts) {y0 : LaneAt} {y1 : XBlock} {s : State} {t : State} (e : execAck y0 y1 s = .next t) (h : Moves F s₀ s) : Moves F s₀ t := by
  unfold execAck at e
  rw [need_next e]; clear e
  repeat' first
    | with_reducible assumption
    | exact hp.bit rfl
    | exact hp.sub rfl
    | refine need_moves (by with_reducible assumption) ?_
    | with_reducible refine State.control_moves ?_ ?_
    | refine State.control_moves' ?_ (by with_reducible assumption) ?_
    | with_reducible refine State.acked_moves ?_ ?_
    | (extract_lets +onlyGivenNames t; refine Moves.cut (F := F) (s₀ := s₀) (t := t) ?_ (fun ht => ?_); rotate_left; (try clear_value t); rotate_left; subst t)
    | (extract_lets +onlyGivenNames t; subst t)
    | split

theorem execNak_moves (hp : Sub 4503702706587648 F.parts) {y0 : LaneAt} {y1 : XBlock} {s : State} {t : State} (e : execNak y0 y1 s = .next t) (h : Moves F s₀ s) : Moves F s₀ t := by
  unfold execNak at e
  rw [need_next e]; clear e
  repeat' first
    | with_reducible assumption
    | exact hp.bit rfl
    | exact hp.sub rfl
    | refine need_moves (by with_reducible assumption) ?_
    | with_reducible refine State.control_moves ?_ ?_
    | refine State.control_moves' ?_ (by with_reducible assumption) ?_
    | with_reducible refine State.resendFrom_moves ?_ ?_
    | (extract_lets +onlyGivenNames t; refine Moves.cut (F := F) (s₀ := s₀) (t := t) ?_ (fun ht => ?_); rotate_left; (try clear_value t); rotate_left; subst t)
    | (extract_lets +onlyGivenNames t; subst t)
    | split

theorem execAckTimer_moves (hp : Sub 4503702706587648 F.parts) {sub : ℕ} {s : State} {t : State} (e : execAckTimer sub s = .next t) (h : Moves F s₀ s) : Moves F s₀ t := by
  unfold execAckTimer at e
  rw [need_next e]; clear e
  repeat' first
    | with_reducible assumption
    | exact hp.bit rfl
    | exact hp.sub rfl
    | refine need_moves (by with_reducible assumption) ?_
    | with_reducible refine State.offerRows_moves ?_ ?_
    | with_reducible refine State.setSub_moves ?_ ?_
    | (extract_lets +onlyGivenNames t; refine Moves.cut (F := F) (s₀ := s₀) (t := t) ?_ (fun ht => ?_); rotate_left; (try clear_value t); rotate_left; subst t)
    | (extract_lets +onlyGivenNames t; try clear_value t)
    | split
    | simp (disch := first | exact hp.out rfl | with_reducible exact fun _ => rfl) only [Moves.mk_iff]

theorem execResendTimeout_moves (hp : Sub 4503702706587648 F.parts) {y0 : RetryTimer} {s : State} {t : State} (e : execResendTimeout y0 s = .next t) (h : Moves F s₀ s) : Moves F s₀ t := by
  unfold execResendTimeout at e
  rw [need_next e]; clear e
  repeat' first
    | with_reducible assumption
    | exact hp.bit rfl
    | exact hp.sub rfl
    | refine need_moves (by with_reducible assumption) ?_
    | with_reducible refine State.setSub_moves ?_ ?_
    | with_reducible refine State.resendFrom_moves ?_ ?_
    | (extract_lets +onlyGivenNames t; refine Moves.cut (F := F) (s₀ := s₀) (t := t) ?_ (fun ht => ?_); rotate_left; (try clear_value t); rotate_left; subst t)
    | (extract_lets +onlyGivenNames t; try clear_value t)
    | split
    | simp (disch := first | exact hp.out rfl | with_reducible exact fun _ => rfl) only [Moves.mk_iff]

theorem State.moveRole_moves (hp : Sub 2048 F.parts) {s : State} {p : ℕ} {x2 : ℕ} (h : Moves F s₀ s) : Moves F s₀ (State.moveRole s p x2) := by
  unfold State.moveRole
  repeat' first
    | with_reducible assumption
    | exact hp.bit rfl
    | exact hp.sub rfl
    | exact hp.ab rfl rfl
    | with_reducible refine State.wr_moves ?_ ?_
    | (extract_lets +onlyGivenNames t; refine Moves.cut (F := F) (s₀ := s₀) (t := t) ?_ (fun ht => ?_); rotate_left; (try clear_value t); rotate_left; subst t)

theorem State.onSync_moves (hp : Sub 4503702706587648 F.parts) {s : State} {p : ℕ} {x2 : ℕ} {b : ℕ} (h : Moves F s₀ s) : Moves F s₀ (State.onSync s p x2 b) := by
  unfold State.onSync
  repeat' first
    | with_reducible assumption
    | exact hp.bit rfl
    | exact hp.sub rfl
    | exact hp.ab rfl rfl
    | with_reducible refine State.wr_moves ?_ ?_
    | with_reducible refine State.resendFrom_moves ?_ ?_
    | with_reducible refine State.freeBelow_moves ?_ ?_
    | (extract_lets +onlyGivenNames t; refine Moves.cut (F := F) (s₀ := s₀) (t := t) ?_ (fun ht => ?_); rotate_left; (try clear_value t); rotate_left; subst t)
    | (extract_lets +onlyGivenNames t; try clear_value t)
    | split

theorem execSync_moves (hp : Sub 4503702706587648 F.parts) {y0 : Nat} {y1 : Nat} {y2 : Nat} {y3 : Nat} {y4 : Nat} {y5 : Nat} {y6 : Nat} {s : State} {t : State} (e : execSync y0 y1 y2 y3 y4 y5 y6 s = .next t) (h : Moves F s₀ s) : Moves F s₀ t := by
  unfold execSync at e
  rw [need_next e]; clear e
  repeat' first
    | with_reducible assumption
    | exact hp.bit rfl
    | exact hp.sub rfl
    | exact hp.ab rfl rfl
    | refine need_moves (by with_reducible assumption) ?_
    | with_reducible refine State.control_moves ?_ ?_
    | refine State.control_moves' ?_ (by with_reducible assumption) ?_
    | with_reducible refine State.onSync_moves ?_ ?_
    | with_reducible refine State.sendSync_moves ?_ ?_
    | with_reducible refine State.moveRole_moves ?_ ?_
    | with_reducible refine State.wr_moves ?_ ?_
    | with_reducible refine State.setSub_moves ?_ ?_
    | (extract_lets +onlyGivenNames t; refine Moves.cut (F := F) (s₀ := s₀) (t := t) ?_ (fun ht => ?_); rotate_left; (try clear_value t); rotate_left; subst t)
    | (extract_lets +onlyGivenNames t; subst t)
    | split
    | simp (disch := first | exact hp.out rfl | with_reducible exact fun _ => rfl) only [Moves.mk_iff]

theorem execSyncTimer_moves (hp : Sub 4503633987108864 F.parts) {sub : ℕ} {s : State} {t : State} (e : execSyncTimer sub s = .next t) (h : Moves F s₀ s) : Moves F s₀ t := by
  unfold execSyncTimer at e
  rw [need_next e]; clear e
  repeat' first
    | with_reducible assumption
    | exact hp.bit rfl
    | exact hp.sub rfl
    | refine need_moves (by with_reducible assumption) ?_
    | with_reducible refine State.sendSync_moves ?_ ?_
    | (extract_lets +onlyGivenNames t; refine Moves.cut (F := F) (s₀ := s₀) (t := t) ?_ (fun ht => ?_); rotate_left; (try clear_value t); rotate_left; subst t)
    | (extract_lets +onlyGivenNames t; try clear_value t)
    | split

theorem execFailover_moves (hp : Sub 4503633987110912 F.parts) {port : ℕ} {half : ℕ} {s : State} {t : State} (e : execFailover port half s = .next t) (h : Moves F s₀ s) : Moves F s₀ t := by
  unfold execFailover at e
  rw [need_next e]; clear e
  repeat' first
    | with_reducible assumption
    | exact hp.bit rfl
    | exact hp.sub rfl
    | exact hp.ab rfl rfl
    | refine need_moves (by with_reducible assumption) ?_
    | with_reducible refine State.sendSync_moves ?_ ?_
    | with_reducible refine State.moveRole_moves ?_ ?_
    | split

/-! ### Fabric -/

theorem State.answerTarget_moves (hp : Sub 15762598695796736 F.parts) {s : State} {n : ℕ} {status : ℕ} {data : ℕ} (h : Moves F s₀ s) : Moves F s₀ (State.answerTarget s n status data) := by
  unfold State.answerTarget
  repeat' first
    | with_reducible assumption
    | exact hp.bit rfl
    | exact hp.sub rfl
    | with_reducible refine State.updStope_moves ?_ ?_
    | with_reducible refine State.respond_moves ?_ ?_
    | (extract_lets +onlyGivenNames t; refine Moves.cut (F := F) (s₀ := s₀) (t := t) ?_ (fun ht => ?_); rotate_left; (try clear_value t); rotate_left; subst t)
    | split
    | simp (disch := first | exact hp.out rfl | with_reducible exact fun _ => rfl) only [Moves.mk_iff]

theorem State.targetAnswer_moves (hp : Sub 15762598695796736 F.parts) {s : State} {n : ℕ} {c : ℕ} {x3 : EvalEnv} (h : Moves F s₀ s) : Moves F s₀ (State.targetAnswer s n c x3) := by
  unfold State.targetAnswer
  repeat' first
    | with_reducible assumption
    | exact hp.bit rfl
    | exact hp.sub rfl
    | exact Sub.mem (f := a) hp ha (by rfl)
    | with_reducible refine State.answerTarget_moves ?_ ?_
    | with_reducible refine Moves.foldl ?_ (fun t a ha ht => ?_)
    | (extract_lets +onlyGivenNames t; refine Moves.cut (F := F) (s₀ := s₀) (t := t) ?_ (fun ht => ?_); rotate_left; (try clear_value t); rotate_left; subst t)
    | (extract_lets +onlyGivenNames t; try clear_value t)
    | split

theorem State.syncStopes_moves (hp : Sub 4303355920 F.parts) {s : State} (h : Moves F s₀ s) : Moves F s₀ (State.syncStopes s) := by
  unfold State.syncStopes
  repeat' first
    | with_reducible assumption
    | exact hp.bit rfl
    | exact hp.sub rfl
    | exact Sub.mem (f := a) hp ha (by rfl)
    | with_reducible refine State.wr_moves ?_ ?_
    | with_reducible refine State.ungate_moves ?_ ?_
    | with_reducible refine Moves.foldl ?_ (fun t a ha ht => ?_)
    | (extract_lets +onlyGivenNames t; refine Moves.cut (F := F) (s₀ := s₀) (t := t) ?_ (fun ht => ?_); rotate_left; (try clear_value t); rotate_left; subst t)
    | split

theorem State.dividerStep_moves (hp : Sub 16 F.parts) {s : State} {n : ℕ} (h : Moves F s₀ s) : Moves F s₀ (State.dividerStep s n) := by
  unfold State.dividerStep
  repeat' first
    | with_reducible assumption
    | exact hp.bit rfl
    | exact hp.sub rfl
    | with_reducible refine State.wr_moves ?_ ?_
    | (extract_lets +onlyGivenNames t; refine Moves.cut (F := F) (s₀ := s₀) (t := t) ?_ (fun ht => ?_); rotate_left; (try clear_value t); rotate_left; subst t)
    | (extract_lets +onlyGivenNames t; try clear_value t)
    | split

theorem execStrokeStart_moves (hp : Sub 9009488480700432 F.parts) {s : State} {t : State} (e : execStrokeStart s = .next t) (h : Moves F s₀ s) : Moves F s₀ t := by
  unfold execStrokeStart at e
  try dsimp only at e
  cases Host.Outcome.next.inj e
  repeat' first
    | with_reducible assumption
    | exact hp.bit rfl
    | exact hp.sub rfl
    | exact Sub.mem (f := a) hp ha (by rfl)
    | with_reducible refine State.loadReceivePoints_moves ?_ ?_
    | with_reducible refine State.syncStopes_moves ?_ ?_
    | with_reducible refine State.loadPins_moves ?_ ?_
    | with_reducible refine State.updStope_moves ?_ ?_
    | with_reducible refine State.wd_moves ?_ ?_
    | with_reducible refine State.drawn_moves ?_
    | with_reducible refine Moves.foldl ?_ (fun t a ha ht => ?_)
    | (extract_lets +onlyGivenNames t; refine Moves.cut (F := F) (s₀ := s₀) (t := t) ?_ (fun ht => ?_); rotate_left; (try clear_value t); rotate_left; subst t)
    | split
    | simp (disch := first | exact hp.out rfl | with_reducible exact fun _ => rfl) only [Moves.mk_iff]

theorem State.slotEndStope_moves (hp : Sub 15764797719052288 F.parts) {s : State} {f : ℕ} {c : ℕ} {n : ℕ} (h : Moves F s₀ s) : Moves F s₀ (State.slotEndStope s f c n) := by
  unfold State.slotEndStope
  repeat' first
    | with_reducible assumption
    | exact hp.bit rfl
    | exact hp.sub rfl
    | exact Sub.mem (f := a) hp ha (by rfl)
    | with_reducible refine State.setStope_moves ?_ ?_
    | with_reducible refine State.updPin_moves ?_ ?_
    | with_reducible refine State.targetAnswer_moves ?_ ?_
    | with_reducible refine Moves.foldl ?_ (fun t a ha ht => ?_)
    | with_reducible refine Moves.foldl2 ?_ (fun y a ht => ?_)
    | with_reducible refine Moves.foldl1 ?_ (fun y a ht => ?_)
    | (extract_lets +onlyGivenNames t; refine Moves.cut (F := F) (s₀ := s₀) (t := t) ?_ (fun ht => ?_); rotate_left; (try clear_value t); rotate_left; subst t)
    | (extract_lets +onlyGivenNames t; try clear_value t)
    | split
    | simp (disch := first | exact hp.out rfl | with_reducible exact fun _ => rfl) only [Moves.mk_iff]

theorem State.slotCapture_moves (hp : Sub 15764797719052288 F.parts) {s : State} {n : ℕ} (h : Moves F s₀ s) : Moves F s₀ (State.slotCapture s n) := by
  unfold State.slotCapture
  repeat' first
    | with_reducible assumption
    | exact hp.bit rfl
    | exact hp.sub rfl
    | with_reducible refine State.slotEndStope_moves ?_ ?_
    | split

theorem execActivePhase_moves (hu : F.fabMem = true) (hp : Sub 15782557408822160 F.parts) {s : State} {t : State} (e : execActivePhase s = .next t) (h : Moves F s₀ s) : Moves F s₀ t := by
  unfold execActivePhase at e
  try dsimp only at e
  cases Host.Outcome.next.inj e
  repeat' first
    | with_reducible assumption
    | exact hp.bit rfl
    | exact hp.sub rfl
    | exact Sub.mem (f := a) hp ha (by rfl)
    | with_reducible refine State.executeDue_moves hu ?_ ?_
    | with_reducible refine State.updStope_moves ?_ ?_
    | with_reducible refine State.dividerStep_moves ?_ ?_
    | with_reducible refine State.slotCapture_moves ?_ ?_
    | with_reducible refine State.endPulses_moves ?_ ?_
    | with_reducible refine State.wd_moves ?_ ?_
    | with_reducible refine State.drawn_moves ?_
    | with_reducible refine State.countWrap_moves ?_ ?_
    | with_reducible refine Moves.foldl ?_ (fun t a ha ht => ?_)
    | (extract_lets +onlyGivenNames t; refine Moves.cut (F := F) (s₀ := s₀) (t := t) ?_ (fun ht => ?_); rotate_left; (try clear_value t); rotate_left; subst t)
    | (extract_lets +onlyGivenNames t; try clear_value t)
    | split
    | simp (disch := first | exact hp.out rfl | with_reducible exact fun _ => rfl) only [Moves.mk_iff]

theorem State.endSlot_moves (hp : Sub 15764814898921472 F.parts) {s : State} (h : Moves F s₀ s) : Moves F s₀ (State.endSlot s) := by
  unfold State.endSlot
  repeat' first
    | with_reducible assumption
    | exact hp.bit rfl
    | exact hp.sub rfl
    | exact Sub.mem (f := a) hp ha (by rfl)
    | with_reducible refine State.wd_moves ?_ ?_
    | with_reducible refine State.drawn_moves ?_
    | with_reducible refine State.slotCapture_moves ?_ ?_
    | with_reducible refine Moves.foldl ?_ (fun t a ha ht => ?_)
    | (extract_lets +onlyGivenNames t; refine Moves.cut (F := F) (s₀ := s₀) (t := t) ?_ (fun ht => ?_); rotate_left; (try clear_value t); rotate_left; subst t)
    | (extract_lets +onlyGivenNames t; try clear_value t)
    | simp (disch := first | exact hp.out rfl | with_reducible exact fun _ => rfl) only [Moves.mk_iff]

theorem execSlotEnd_moves (hp : Sub 15764814898921472 F.parts) {s : State} {t : State} (e : execSlotEnd s = .next t) (h : Moves F s₀ s) : Moves F s₀ t := by
  unfold execSlotEnd at e
  try dsimp only at e
  cases Host.Outcome.next.inj e
  repeat' first
    | with_reducible assumption
    | exact hp.bit rfl
    | exact hp.sub rfl
    | with_reducible refine State.endSlot_moves ?_ ?_
    | split

theorem State.countStalls_moves (hp : Sub 16 F.parts) {s : State} (h : Moves F s₀ s) : Moves F s₀ (State.countStalls s) := by
  unfold State.countStalls
  repeat' first
    | with_reducible assumption
    | exact hp.bit rfl
    | exact hp.sub rfl
    | exact Sub.mem (f := a) hp ha (by rfl)
    | with_reducible refine State.count_moves ?_ ?_
    | with_reducible refine Moves.foldl ?_ (fun t a ha ht => ?_)
    | split

theorem execHoldPhase_moves (hp : Sub 6755566944781200 F.parts) {s : State} {t : State} (e : execHoldPhase s = .next t) (h : Moves F s₀ s) : Moves F s₀ t := by
  unfold execHoldPhase at e
  try dsimp only at e
  cases Host.Outcome.next.inj e
  repeat' first
    | with_reducible assumption
    | exact hp.bit rfl
    | exact hp.sub rfl
    | with_reducible refine State.settle_moves ?_ ?_
    | with_reducible refine State.wd_moves ?_ ?_
    | with_reducible refine State.endPulses_moves ?_ ?_
    | with_reducible refine State.countWrap_moves ?_ ?_
    | with_reducible refine State.countStalls_moves ?_ ?_
    | (extract_lets +onlyGivenNames t; refine Moves.cut (F := F) (s₀ := s₀) (t := t) ?_ (fun ht => ?_); rotate_left; (try clear_value t); rotate_left; subst t)
    | (extract_lets +onlyGivenNames t; try clear_value t)
    | split
    | simp (disch := first | exact hp.out rfl | with_reducible exact fun _ => rfl) only [Moves.mk_iff]

theorem State.stepPulse_moves (hu : F.fabMem = true) (hp : Sub 15782553113854864 F.parts) {s : State} {n : ℕ} (h : Moves F s₀ s) : Moves F s₀ (State.stepPulse s n) := by
  unfold State.stepPulse
  repeat' first
    | with_reducible assumption
    | exact hp.bit rfl
    | exact hp.sub rfl
    | with_reducible refine State.updStope_moves ?_ ?_
    | with_reducible refine State.dividerStep_moves ?_ ?_
    | with_reducible refine State.executeDue_moves hu ?_ ?_
    | with_reducible refine State.slotCapture_moves ?_ ?_
    | with_reducible refine State.drawn_moves ?_
    | (extract_lets +onlyGivenNames t; refine Moves.cut (F := F) (s₀ := s₀) (t := t) ?_ (fun ht => ?_); rotate_left; (try clear_value t); rotate_left; subst t)
    | (extract_lets +onlyGivenNames t; try clear_value t)
    | split
    | simp (disch := first | exact hp.out rfl | with_reducible exact fun _ => rfl) only [Moves.mk_iff]

/-! ### Boundary -/

theorem State.slipCheck_moves (hp : Sub 6755562649813904 F.parts) {s : State} {n : ℕ} (h : Moves F s₀ s) : Moves F s₀ (State.slipCheck s n) := by
  unfold State.slipCheck
  repeat' first
    | with_reducible assumption
    | exact hp.bit rfl
    | exact hp.sub rfl
    | with_reducible refine State.wr_moves ?_ ?_
    | with_reducible refine State.raiseSpoil_moves ?_ ?_ ?_
    | with_reducible refine State.count_moves ?_ ?_
    | (extract_lets +onlyGivenNames t; refine Moves.cut (F := F) (s₀ := s₀) (t := t) ?_ (fun ht => ?_); rotate_left; (try clear_value t); rotate_left; subst t)
    | (extract_lets +onlyGivenNames t; try clear_value t)
    | split

theorem State.triggerReport_moves (hp : Sub 6755416620925184 F.parts) {s : State} {sample : Bool} {slot : ℕ} (h : Moves F s₀ s) : Moves F s₀ (State.triggerReport s sample slot) := by
  unfold State.triggerReport
  repeat' first
    | with_reducible assumption
    | exact hp.bit rfl
    | exact hp.sub rfl
    | with_reducible refine State.schedule_moves ?_ ?_
    | (extract_lets +onlyGivenNames t; refine Moves.cut (F := F) (s₀ := s₀) (t := t) ?_ (fun ht => ?_); rotate_left; (try clear_value t); rotate_left; subst t)
    | (extract_lets +onlyGivenNames t; try clear_value t)
    | split

theorem State.triggerHit_moves (hp : Sub 6755425210859776 F.parts) {s : State} {j : ℕ} {t : ℕ} (h : Moves F s₀ s) : Moves F s₀ (State.triggerHit s j t) := by
  unfold State.triggerHit
  repeat' first
    | with_reducible assumption
    | exact hp.bit rfl
    | exact hp.sub rfl
    | with_reducible refine State.wr_moves ?_ ?_
    | with_reducible refine State.putBit_moves ?_ ?_
    | with_reducible refine State.wdIrq_moves ?_ ?_
    | with_reducible refine State.triggerReport_moves ?_ ?_
    | with_reducible refine State.tellLeader_moves ?_ ?_
    | (extract_lets +onlyGivenNames t; refine Moves.cut (F := F) (s₀ := s₀) (t := t) ?_ (fun ht => ?_); rotate_left; (try clear_value t); rotate_left; subst t)
    | (extract_lets +onlyGivenNames t; try clear_value t)
    | split

theorem State.triggers_moves (hp : Sub 6755425210859776 F.parts) {s : State} {t : ℕ} (h : Moves F s₀ s) : Moves F s₀ (State.triggers s t) := by
  unfold State.triggers
  repeat' first
    | with_reducible assumption
    | exact hp.bit rfl
    | exact hp.sub rfl
    | exact Sub.mem (f := a) hp ha (by rfl)
    | with_reducible refine State.triggerHit_moves ?_ ?_
    | with_reducible refine State.wd_moves ?_ ?_
    | with_reducible refine State.wr_moves ?_ ?_
    | with_reducible refine Moves.foldl ?_ (fun t a ha ht => ?_)
    | (extract_lets +onlyGivenNames t; refine Moves.cut (F := F) (s₀ := s₀) (t := t) ?_ (fun ht => ?_); rotate_left; (try clear_value t); rotate_left; subst t)
    | (extract_lets +onlyGivenNames t; try clear_value t)
    | simp (disch := first | exact hp.out rfl | with_reducible exact fun _ => rfl) only [Moves.mk_iff]

theorem State.replayEnd_moves (hp : Sub 256 F.parts) {s : State} (h : Moves F s₀ s) : Moves F s₀ (State.replayEnd s) := by
  unfold State.replayEnd
  repeat' first
    | with_reducible assumption
    | exact hp.bit rfl
    | exact hp.sub rfl
    | with_reducible refine State.wr_moves ?_ ?_
    | with_reducible refine State.refreshReplaying_moves ?_ ?_
    | split

theorem execStrokeBoundary_moves (hp : Sub 15766167822011280 F.parts) {s : State} {t : State} (e : execStrokeBoundary s = .next t) (h : Moves F s₀ s) : Moves F s₀ t := by
  unfold execStrokeBoundary at e
  try dsimp only at e
  cases Host.Outcome.next.inj e
  repeat' first
    | with_reducible assumption
    | exact hp.bit rfl
    | exact hp.sub rfl
    | exact Sub.mem (f := a) hp ha (by rfl)
    | with_reducible refine State.endSlot_moves ?_ ?_
    | with_reducible refine State.drivePins_moves ?_ ?_
    | with_reducible refine State.updStope_moves ?_ ?_
    | with_reducible refine State.wd_moves ?_ ?_
    | with_reducible refine State.wr_moves ?_ ?_
    | with_reducible refine State.slipCheck_moves ?_ ?_
    | with_reducible refine State.triggers_moves ?_ ?_
    | with_reducible refine State.buildFrames_moves ?_ ?_
    | with_reducible refine State.replayEnd_moves ?_ ?_
    | with_reducible refine State.commitBins_moves ?_ ?_
    | with_reducible refine State.syncStopes_moves ?_ ?_
    | with_reducible refine State.settle_moves ?_ ?_
    | with_reducible refine State.grantPoint_moves ?_ ?_
    | with_reducible refine Moves.foldl ?_ (fun t a ha ht => ?_)
    | (extract_lets +onlyGivenNames t; refine Moves.cut (F := F) (s₀ := s₀) (t := t) ?_ (fun ht => ?_); rotate_left; (try clear_value t); rotate_left; subst t)
    | (extract_lets +onlyGivenNames t; try clear_value t)
    | split
    | simp (disch := first | exact hp.out rfl | with_reducible exact fun _ => rfl) only [Moves.mk_iff]

/-! ### ShiftOps -/

theorem State.sh_moves (hp : Sub 281474976710656 F.parts) {s : State} {g : Shift → Shift} (h : Moves F s₀ s) : Moves F s₀ (State.sh s g) := by
  unfold State.sh
  repeat' first
    | with_reducible assumption
    | exact hp.bit rfl
    | exact hp.sub rfl
    | simp (disch := first | exact hp.out rfl | with_reducible exact fun _ => rfl) only [Moves.mk_iff]

theorem State.tick_moves (hp : Sub 262144 F.parts) {s : State} {ticks : ℕ} (h : Moves F s₀ s) : Moves F s₀ (State.tick s ticks) := by
  unfold State.tick
  repeat' first
    | with_reducible assumption
    | exact hp.bit rfl
    | exact hp.sub rfl
    | with_reducible refine State.countWrap_moves ?_ ?_
    | split

theorem State.epoch_moves (hp : Sub 281474976972800 F.parts) {s : State} {t : ℕ} (h : Moves F s₀ s) : Moves F s₀ (State.epoch s t) := by
  unfold State.epoch
  repeat' first
    | with_reducible assumption
    | exact hp.bit rfl
    | exact hp.sub rfl
    | with_reducible refine State.sh_moves ?_ ?_
    | with_reducible refine State.wr_moves ?_ ?_
    | (extract_lets +onlyGivenNames t; refine Moves.cut (F := F) (s₀ := s₀) (t := t) ?_ (fun ht => ?_); rotate_left; (try clear_value t); rotate_left; subst t)
    | (extract_lets +onlyGivenNames t; try clear_value t)
    | simp (disch := first | exact hp.out rfl | with_reducible exact fun _ => rfl) only [Moves.mk_iff]

theorem State.setInc_moves (hp : Sub 281474976972800 F.parts) {s : State} {v : ℕ} (h : Moves F s₀ s) : Moves F s₀ (State.setInc s v) := by
  unfold State.setInc
  repeat' first
    | with_reducible assumption
    | exact hp.bit rfl
    | exact hp.sub rfl
    | with_reducible refine State.wr_moves ?_ ?_
    | with_reducible refine State.epoch_moves ?_ ?_

theorem State.stepTime_moves (hp : Sub 3096224744079360 F.parts) {s : State} {v : ℕ} (h : Moves F s₀ s) : Moves F s₀ (State.stepTime s v) := by
  unfold State.stepTime
  repeat' first
    | with_reducible assumption
    | exact hp.bit rfl
    | exact hp.sub rfl
    | with_reducible refine State.wr_moves ?_ ?_
    | with_reducible refine State.epoch_moves ?_ ?_
    | with_reducible refine State.post_moves ?_ ?_
    | (extract_lets +onlyGivenNames t; refine Moves.cut (F := F) (s₀ := s₀) (t := t) ?_ (fun ht => ?_); rotate_left; (try clear_value t); rotate_left; subst t)
    | (extract_lets +onlyGivenNames t; try clear_value t)
    | simp (disch := first | exact hp.out rfl | with_reducible exact fun _ => rfl) only [Moves.mk_iff]

theorem State.writeInc_moves (hp : Sub 281474976972800 F.parts) {s : State} {v : ℕ} {foreman : Bool} (h : Moves F s₀ s) : Moves F s₀ (State.writeInc s v foreman) := by
  unfold State.writeInc
  repeat' first
    | with_reducible assumption
    | exact hp.bit rfl
    | exact hp.sub rfl
    | with_reducible refine State.wr_moves ?_ ?_
    | with_reducible refine State.setInc_moves ?_ ?_
    | (extract_lets +onlyGivenNames t; refine Moves.cut (F := F) (s₀ := s₀) (t := t) ?_ (fun ht => ?_); rotate_left; (try clear_value t); rotate_left; subst t)
    | (extract_lets +onlyGivenNames t; try clear_value t)
    | split

theorem State.writeTime_moves (hp : Sub 3096224744079360 F.parts) {s : State} {v : ℕ} {half : ℕ} {foreman : Bool} (h : Moves F s₀ s) : Moves F s₀ (State.writeTime s v half foreman) := by
  unfold State.writeTime
  repeat' first
    | with_reducible assumption
    | exact hp.bit rfl
    | exact hp.sub rfl
    | with_reducible refine State.wr_moves ?_ ?_
    | with_reducible refine State.stepTime_moves ?_ ?_
    | (extract_lets +onlyGivenNames t; refine Moves.cut (F := F) (s₀ := s₀) (t := t) ?_ (fun ht => ?_); rotate_left; (try clear_value t); rotate_left; subst t)
    | (extract_lets +onlyGivenNames t; try clear_value t)
    | split

theorem State.writeSrc_moves (hp : Sub 281474976972800 F.parts) {s : State} {src : ℕ} (h : Moves F s₀ s) : Moves F s₀ (State.writeSrc s src) := by
  unfold State.writeSrc
  repeat' first
    | with_reducible assumption
    | exact hp.bit rfl
    | exact hp.sub rfl
    | with_reducible refine State.wr_moves ?_ ?_
    | with_reducible refine State.sh_moves ?_ ?_
    | (extract_lets +onlyGivenNames t; refine Moves.cut (F := F) (s₀ := s₀) (t := t) ?_ (fun ht => ?_); rotate_left; (try clear_value t); rotate_left; subst t)
    | (extract_lets +onlyGivenNames t; try clear_value t)
    | split
    | simp (disch := first | exact hp.out rfl | with_reducible exact fun _ => rfl) only [Moves.mk_iff]

theorem State.loseMaster_moves (hp : Sub 7036883007963136 F.parts) {s : State} (h : Moves F s₀ s) : Moves F s₀ (State.loseMaster s) := by
  unfold State.loseMaster
  repeat' first
    | with_reducible assumption
    | exact hp.bit rfl
    | exact hp.sub rfl
    | with_reducible refine State.wr_moves ?_ ?_
    | with_reducible refine State.raise_moves ?_ ?_ ?_
    | with_reducible refine State.post_moves ?_ ?_
    | with_reducible refine State.sh_moves ?_ ?_
    | (extract_lets +onlyGivenNames t; refine Moves.cut (F := F) (s₀ := s₀) (t := t) ?_ (fun ht => ?_); rotate_left; (try clear_value t); rotate_left; subst t)
    | split
    | simp (disch := first | exact hp.out rfl | with_reducible exact fun _ => rfl) only [Moves.mk_iff]

theorem State.servoState_moves (hp : Sub 4785083194277888 F.parts) {s : State} {near : Bool} (h : Moves F s₀ s) : Moves F s₀ (State.servoState s near) := by
  unfold State.servoState
  repeat' first
    | with_reducible assumption
    | exact hp.bit rfl
    | exact hp.sub rfl
    | with_reducible refine State.sh_moves ?_ ?_
    | with_reducible refine State.wr_moves ?_ ?_
    | with_reducible refine State.raise_moves ?_ ?_ ?_
    | (extract_lets +onlyGivenNames t; refine Moves.cut (F := F) (s₀ := s₀) (t := t) ?_ (fun ht => ?_); rotate_left; (try clear_value t); rotate_left; subst t)
    | (extract_lets +onlyGivenNames t; try clear_value t)
    | split
    | simp (disch := first | exact hp.out rfl | with_reducible exact fun _ => rfl) only [Moves.mk_iff]

theorem State.measure_moves (hp : Sub 7599832961384448 F.parts) {s : State} {off16 : ℤ} (h : Moves F s₀ s) : Moves F s₀ (State.measure s off16) := by
  unfold State.measure
  repeat' first
    | with_reducible assumption
    | exact hp.bit rfl
    | exact hp.sub rfl
    | with_reducible refine State.wr_moves ?_ ?_
    | with_reducible refine State.stepTime_moves ?_ ?_
    | with_reducible refine State.setInc_moves ?_ ?_
    | with_reducible refine State.drawn_moves ?_
    | with_reducible refine State.servoState_moves ?_ ?_
    | (extract_lets +onlyGivenNames t; refine Moves.cut (F := F) (s₀ := s₀) (t := t) ?_ (fun ht => ?_); rotate_left; (try clear_value t); rotate_left; subst t)
    | (extract_lets +onlyGivenNames t; try clear_value t)
    | split

theorem State.shiftLatch_moves (hp : Sub 281474976972800 F.parts) {s : State} {time : Bool} {low : Bool} (h : Moves F s₀ s) : Moves F s₀ (State.shiftLatch s time low) := by
  unfold State.shiftLatch
  repeat' first
    | with_reducible assumption
    | exact hp.bit rfl
    | exact hp.sub rfl
    | with_reducible refine State.sh_moves ?_ ?_
    | with_reducible refine State.wr_moves ?_ ?_
    | (extract_lets +onlyGivenNames t; refine Moves.cut (F := F) (s₀ := s₀) (t := t) ?_ (fun ht => ?_); rotate_left; (try clear_value t); rotate_left; subst t)
    | (extract_lets +onlyGivenNames t; try clear_value t)
    | split
    | simp (disch := first | exact hp.out rfl | with_reducible exact fun _ => rfl) only [Moves.mk_iff]

/-! ### WinderCmds -/

theorem State.groupRun_moves (hp : Sub 6755554059878656 F.parts) {s : State} {arg : ℕ} {op : ℕ} {trig : Bool} (h : Moves F s₀ s) : Moves F s₀ (State.groupRun s arg op trig) := by
  unfold State.groupRun
  repeat' first
    | with_reducible assumption
    | exact hp.bit rfl
    | exact hp.sub rfl
    | with_reducible refine State.startRun_moves ?_ ?_
    | with_reducible refine State.tellAll_moves ?_ ?_

theorem State.cmdAct_moves (hp : Sub 6755562649813760 F.parts) {s : State} {c : WindCmd} (h : Moves F s₀ s) : Moves F s₀ (State.cmdAct s c) := by
  unfold State.cmdAct
  repeat' first
    | with_reducible assumption
    | exact hp.bit rfl
    | exact hp.sub rfl
    | exact Sub.mem (f := a) hp ha (by rfl)
    | with_reducible refine State.wd_moves ?_ ?_
    | with_reducible refine State.wr_moves ?_ ?_
    | with_reducible refine State.cmdLocalDone_moves ?_ ?_
    | with_reducible refine State.groupRun_moves ?_ ?_
    | with_reducible refine State.cmdFinish_moves ?_ ?_
    | with_reducible refine State.schedule_moves ?_ ?_
    | with_reducible refine State.smp_moves ?_ ?_
    | with_reducible refine State.startRestore_moves ?_ ?_
    | with_reducible refine State.tellAll_moves ?_ ?_
    | with_reducible refine Moves.foldl ?_ (fun t a ha ht => ?_)
    | (extract_lets +onlyGivenNames t; refine Moves.cut (F := F) (s₀ := s₀) (t := t) ?_ (fun ht => ?_); rotate_left; (try clear_value t); rotate_left; subst t)
    | (extract_lets +onlyGivenNames t; try clear_value t)
    | split
    | simp (disch := first | exact hp.out rfl | with_reducible exact fun _ => rfl) only [Moves.mk_iff]

theorem State.cmdChecked_moves (hp : Sub 6755562649813760 F.parts) {s : State} {c : WindCmd} (h : Moves F s₀ s) : Moves F s₀ (State.cmdChecked s c) := by
  unfold State.cmdChecked
  repeat' first
    | with_reducible assumption
    | exact hp.bit rfl
    | exact hp.sub rfl
    | with_reducible refine State.cmdRefuse_moves ?_ ?_
    | with_reducible refine State.cmdAct_moves ?_ ?_
    | with_reducible refine State.groupFault_moves ?_ ?_ ?_
    | with_reducible refine State.tellAll_moves ?_ ?_
    | (extract_lets +onlyGivenNames t; refine Moves.cut (F := F) (s₀ := s₀) (t := t) ?_ (fun ht => ?_); rotate_left; (try clear_value t); rotate_left; subst t)
    | (extract_lets +onlyGivenNames t; try clear_value t)
    | split

theorem State.windCmd_moves (hp : Sub 6755562649813760 F.parts) {s : State} {op : ℕ} {arg : ℕ} {stopes : Bool} {trig : Bool} (h : Moves F s₀ s) : Moves F s₀ (State.windCmd s op arg stopes trig) := by
  unfold State.windCmd
  repeat' first
    | with_reducible assumption
    | exact hp.bit rfl
    | exact hp.sub rfl
    | exact Sub.mem (f := a) hp ha (by rfl)
    | with_reducible refine State.wr_moves ?_ ?_
    | with_reducible refine State.wdIrq_moves ?_ ?_
    | with_reducible refine State.cmdChecked_moves ?_ ?_
    | with_reducible refine State.emit_moves ?_ ?_
    | with_reducible refine State.wd_moves ?_ ?_
    | with_reducible refine State.cmdAct_moves ?_ ?_
    | with_reducible refine State.cmdRefuse_moves ?_ ?_
    | with_reducible refine Moves.foldl ?_ (fun t a ha ht => ?_)
    | (extract_lets +onlyGivenNames t; refine Moves.cut (F := F) (s₀ := s₀) (t := t) ?_ (fun ht => ?_); rotate_left; (try clear_value t); rotate_left; subst t)
    | (extract_lets +onlyGivenNames t; try clear_value t)
    | split
    | simp (disch := first | exact hp.out rfl | with_reducible exact fun _ => rfl) only [Moves.mk_iff]

theorem execRun_moves (hp : Sub 6755562649813904 F.parts) {arg : ℕ} {stopes : Bool} {replayTrig : Bool} {s : State} {t : State} (e : execRun arg stopes replayTrig s = .next t) (h : Moves F s₀ s) : Moves F s₀ t := by
  unfold execRun at e
  try dsimp only at e
  cases Host.Outcome.next.inj e
  repeat' first
    | with_reducible assumption
    | exact hp.bit rfl
    | exact hp.sub rfl
    | with_reducible refine State.settle_moves ?_ ?_
    | with_reducible refine State.windCmd_moves ?_ ?_

theorem execStopAt_moves (hp : Sub 6755562649813904 F.parts) {arg : ℕ} {stopes : Bool} {replayTrig : Bool} {s : State} {t : State} (e : execStopAt arg stopes replayTrig s = .next t) (h : Moves F s₀ s) : Moves F s₀ t := by
  unfold execStopAt at e
  try dsimp only at e
  cases Host.Outcome.next.inj e
  repeat' first
    | with_reducible assumption
    | exact hp.bit rfl
    | exact hp.sub rfl
    | with_reducible refine State.settle_moves ?_ ?_
    | with_reducible refine State.windCmd_moves ?_ ?_

theorem execStep_moves (hp : Sub 6755562649813904 F.parts) {arg : ℕ} {stopes : Bool} {replayTrig : Bool} {s : State} {t : State} (e : execStep arg stopes replayTrig s = .next t) (h : Moves F s₀ s) : Moves F s₀ t := by
  unfold execStep at e
  try dsimp only at e
  cases Host.Outcome.next.inj e
  repeat' first
    | with_reducible assumption
    | exact hp.bit rfl
    | exact hp.sub rfl
    | with_reducible refine State.settle_moves ?_ ?_
    | with_reducible refine State.windCmd_moves ?_ ?_

theorem execSample_moves (hp : Sub 6755562649813904 F.parts) {arg : ℕ} {stopes : Bool} {replayTrig : Bool} {s : State} {t : State} (e : execSample arg stopes replayTrig s = .next t) (h : Moves F s₀ s) : Moves F s₀ t := by
  unfold execSample at e
  try dsimp only at e
  cases Host.Outcome.next.inj e
  repeat' first
    | with_reducible assumption
    | exact hp.bit rfl
    | exact hp.sub rfl
    | with_reducible refine State.settle_moves ?_ ?_
    | with_reducible refine State.windCmd_moves ?_ ?_

theorem execBackfill_moves (hp : Sub 6755562649813904 F.parts) {arg : ℕ} {stopes : Bool} {replayTrig : Bool} {s : State} {t : State} (e : execBackfill arg stopes replayTrig s = .next t) (h : Moves F s₀ s) : Moves F s₀ t := by
  unfold execBackfill at e
  try dsimp only at e
  cases Host.Outcome.next.inj e
  repeat' first
    | with_reducible assumption
    | exact hp.bit rfl
    | exact hp.sub rfl
    | with_reducible refine State.settle_moves ?_ ?_
    | with_reducible refine State.windCmd_moves ?_ ?_

theorem execRewind_moves (hp : Sub 6755562649813904 F.parts) {arg : ℕ} {stopes : Bool} {replayTrig : Bool} {s : State} {t : State} (e : execRewind arg stopes replayTrig s = .next t) (h : Moves F s₀ s) : Moves F s₀ t := by
  unfold execRewind at e
  try dsimp only at e
  cases Host.Outcome.next.inj e
  repeat' first
    | with_reducible assumption
    | exact hp.bit rfl
    | exact hp.sub rfl
    | with_reducible refine State.settle_moves ?_ ?_
    | with_reducible refine State.windCmd_moves ?_ ?_

theorem execReplay_moves (hp : Sub 6755562649813904 F.parts) {arg : ℕ} {stopes : Bool} {replayTrig : Bool} {s : State} {t : State} (e : execReplay arg stopes replayTrig s = .next t) (h : Moves F s₀ s) : Moves F s₀ t := by
  unfold execReplay at e
  try dsimp only at e
  cases Host.Outcome.next.inj e
  repeat' first
    | with_reducible assumption
    | exact hp.bit rfl
    | exact hp.sub rfl
    | with_reducible refine State.settle_moves ?_ ?_
    | with_reducible refine State.windCmd_moves ?_ ?_

theorem execGroupStall_moves (hp : Sub 4503608217305344 F.parts) {s : State} {t : State} (e : execGroupStall s = .next t) (h : Moves F s₀ s) : Moves F s₀ t := by
  unfold execGroupStall at e
  try dsimp only at e
  cases Host.Outcome.next.inj e
  repeat' first
    | with_reducible assumption
    | exact hp.bit rfl
    | exact hp.sub rfl
    | with_reducible refine State.groupFault_moves ?_ ?_ ?_
    | split

end Sys2Proof.Machine
end

