-- ==== Sys2Proof/Laws/MovesC.lean ====
section
/-! SUPPORT. What each operation and meaning of these files may do to the state as a whole (see Moves.lean):
Bellwire, RegOps, EngineOps, Gallery, DramOps, QueueOps. -/

namespace Sys2Proof.Machine

set_option linter.unusedTactic false
set_option linter.unreachableTactic false
set_option linter.unusedVariables false
set_option linter.tactic.unusedName false

variable {F : Foot} {s₀ : State}

/-! ### Bellwire -/

theorem State.regroupStart_moves (hp : Sub 4503616807239680 F.parts) {s : State} (h : Moves F s₀ s) : Moves F s₀ (State.regroupStart s) := by
  unfold State.regroupStart
  repeat' first
    | with_reducible assumption
    | exact hp.bit rfl
    | exact hp.sub rfl
    | exact Sub.mem (f := a) hp ha (by rfl)
    | with_reducible refine State.emit_moves ?_ ?_
    | with_reducible refine State.wd_moves ?_ ?_
    | with_reducible refine Moves.foldl ?_ (fun t a ha ht => ?_)
    | split
    | simp (disch := first | exact hp.out rfl | with_reducible exact fun _ => rfl) only [Moves.mk_iff]

theorem State.refreshGroup_moves (hp : Sub 4503625397174528 F.parts) {s : State} (h : Moves F s₀ s) : Moves F s₀ (State.refreshGroup s) := by
  unfold State.refreshGroup
  repeat' first
    | with_reducible assumption
    | exact hp.bit rfl
    | exact hp.sub rfl
    | with_reducible refine State.wr_moves ?_ ?_
    | with_reducible refine State.groupFault_moves ?_ ?_ ?_
    | with_reducible refine State.put_moves ?_ ?_
    | with_reducible refine State.regroupStart_moves ?_ ?_
    | (extract_lets +onlyGivenNames t; refine Moves.cut (F := F) (s₀ := s₀) (t := t) ?_ (fun ht => ?_); rotate_left; (try clear_value t); rotate_left; subst t)
    | (extract_lets +onlyGivenNames t; try clear_value t)
    | split

theorem State.announceSelf_moves (hp : Sub 4503599627370496 F.parts) {s : State} (h : Moves F s₀ s) : Moves F s₀ (State.announceSelf s) := by
  unfold State.announceSelf
  repeat' first
    | with_reducible assumption
    | exact hp.bit rfl
    | exact hp.sub rfl
    | with_reducible refine State.emit_moves ?_ ?_

theorem State.writeGroupCtrl_moves (hp : Sub 4503625397174528 F.parts) {s : State} {v : ℕ} (h : Moves F s₀ s) : Moves F s₀ (State.writeGroupCtrl s v) := by
  unfold State.writeGroupCtrl
  repeat' first
    | with_reducible assumption
    | exact hp.bit rfl
    | exact hp.sub rfl
    | exact fun f hf => hp.mem hf (by rfl)
    | with_reducible refine State.wr_moves ?_ ?_
    | with_reducible refine State.groupFault_moves ?_ ?_ ?_
    | with_reducible refine State.emit_moves ?_ ?_
    | with_reducible refine State.setFields_moves ?_ ?_
    | with_reducible refine State.wd_moves ?_ ?_
    | with_reducible refine State.refreshGroup_moves ?_ ?_
    | with_reducible refine State.announceSelf_moves ?_ ?_
    | (extract_lets +onlyGivenNames t; refine Moves.cut (F := F) (s₀ := s₀) (t := t) ?_ (fun ht => ?_); rotate_left; (try clear_value t); rotate_left; subst t)
    | (extract_lets +onlyGivenNames t; subst t)
    | split
    | simp (disch := first | exact hp.out rfl | with_reducible exact fun _ => rfl) only [Moves.mk_iff]

theorem State.chainReset_moves (hp : Sub 4512421490327808 F.parts) {s : State} (h : Moves F s₀ s) : Moves F s₀ (State.chainReset s) := by
  unfold State.chainReset
  repeat' first
    | with_reducible assumption
    | exact hp.bit rfl
    | exact hp.sub rfl
    | exact Sub.mem (f := a) hp ha (by rfl)
    | with_reducible refine State.wr_moves ?_ ?_
    | with_reducible refine State.cmdFinish_moves ?_ ?_
    | with_reducible refine State.cmdRefuse_moves ?_ ?_
    | with_reducible refine State.groupFault_moves ?_ ?_ ?_
    | with_reducible refine State.wd_moves ?_ ?_
    | with_reducible refine Moves.foldl ?_ (fun t a ha ht => ?_)
    | (extract_lets +onlyGivenNames t; refine Moves.cut (F := F) (s₀ := s₀) (t := t) ?_ (fun ht => ?_); rotate_left; (try clear_value t); rotate_left; subst t)
    | (extract_lets +onlyGivenNames t; try clear_value t)
    | split
    | simp (disch := first | exact hp.out rfl | with_reducible exact fun _ => rfl) only [Moves.mk_iff]

theorem State.takeAddr_moves (hp : Sub 4503625397305600 F.parts) {s : State} {a : ℕ} (h : Moves F s₀ s) : Moves F s₀ (State.takeAddr s a) := by
  unfold State.takeAddr
  repeat' first
    | with_reducible assumption
    | exact hp.bit rfl
    | exact hp.sub rfl
    | with_reducible refine State.refreshGroup_moves ?_ ?_
    | with_reducible refine State.wr_moves ?_ ?_

theorem State.enumComplete_moves (hp : Sub 2251799813816320 F.parts) {s : State} {parts : ℕ} (h : Moves F s₀ s) : Moves F s₀ (State.enumComplete s parts) := by
  unfold State.enumComplete
  repeat' first
    | with_reducible assumption
    | exact hp.bit rfl
    | exact hp.sub rfl
    | with_reducible refine State.post_moves ?_ ?_
    | with_reducible refine State.wr_moves ?_ ?_

theorem State.enumOn_moves (hp : Sub 6755399441186816 F.parts) {s : State} (h : Moves F s₀ s) : Moves F s₀ (State.enumOn s) := by
  unfold State.enumOn
  repeat' first
    | with_reducible assumption
    | exact hp.bit rfl
    | exact hp.sub rfl
    | with_reducible refine State.emit_moves ?_ ?_
    | with_reducible refine State.wr_moves ?_ ?_
    | with_reducible refine State.enumComplete_moves ?_ ?_
    | (extract_lets +onlyGivenNames t; refine Moves.cut (F := F) (s₀ := s₀) (t := t) ?_ (fun ht => ?_); rotate_left; (try clear_value t); rotate_left; subst t)
    | (extract_lets +onlyGivenNames t; try clear_value t)
    | split

theorem State.enumerate_moves (hp : Sub 6764221304013056 F.parts) {s : State} (h : Moves F s₀ s) : Moves F s₀ (State.enumerate s) := by
  unfold State.enumerate
  repeat' first
    | with_reducible assumption
    | exact hp.bit rfl
    | exact hp.sub rfl
    | with_reducible refine State.enumOn_moves ?_ ?_
    | with_reducible refine State.takeAddr_moves ?_ ?_
    | with_reducible refine State.countWrap_moves ?_ ?_
    | with_reducible refine State.chainReset_moves ?_ ?_

theorem execEnum_moves (hp : Sub 6764221304013056 F.parts) {addr : ℕ} {s : State} {t : State} (e : execEnum addr s = .next t) (h : Moves F s₀ s) : Moves F s₀ t := by
  unfold execEnum at e
  try dsimp only at e
  cases Host.Outcome.next.inj e
  repeat' first
    | with_reducible assumption
    | exact hp.bit rfl
    | exact hp.sub rfl
    | with_reducible refine State.countWrap_moves ?_ ?_
    | with_reducible refine State.chainReset_moves ?_ ?_
    | with_reducible refine State.wr_moves ?_ ?_
    | with_reducible refine State.enumOn_moves ?_ ?_
    | with_reducible refine State.takeAddr_moves ?_ ?_
    | (extract_lets +onlyGivenNames t; refine Moves.cut (F := F) (s₀ := s₀) (t := t) ?_ (fun ht => ?_); rotate_left; (try clear_value t); rotate_left; subst t)
    | split

theorem State.relay_moves (hp : Sub 4503599627370496 F.parts) {s : State} {down : Bool} {src : ℕ} {dst : Option ℕ} {m : BwMsg} (h : Moves F s₀ s) : Moves F s₀ (State.relay s down src dst m) := by
  unfold State.relay
  repeat' first
    | with_reducible assumption
    | exact hp.bit rfl
    | exact hp.sub rfl
    | with_reducible refine State.emit_moves ?_ ?_
    | split

theorem State.heardAll_moves (hp : Sub 4503599627370496 F.parts) {s : State} {fromUp : Bool} {src : ℕ} {m : BwMsg} {act : State → State} (ha : ∀ t, Moves F s₀ t → Moves F s₀ (act t)) (h : Moves F s₀ s) : Moves F s₀ (State.heardAll s fromUp src m act) := by
  unfold State.heardAll
  repeat' first
    | with_reducible assumption
    | exact hp.bit rfl
    | exact hp.sub rfl
    | with_reducible refine State.relay_moves ?_ ?_
    | with_reducible refine ha _ ?_
    | split

theorem State.heardOne_moves (hp : Sub 4503599627370496 F.parts) {s : State} {src : ℕ} {dst : ℕ} {m : BwMsg} {act : State → State} (ha : ∀ t, Moves F s₀ t → Moves F s₀ (act t)) (h : Moves F s₀ s) : Moves F s₀ (State.heardOne s src dst m act) := by
  unfold State.heardOne
  repeat' first
    | with_reducible assumption
    | exact hp.bit rfl
    | exact hp.sub rfl
    | with_reducible refine State.relay_moves ?_ ?_
    | with_reducible refine ha _ ?_
    | split

theorem execEnumDone_moves (hp : Sub 6755399441186816 F.parts) {parts : ℕ} {s : State} {t : State} (e : execEnumDone parts s = .next t) (h : Moves F s₀ s) : Moves F s₀ t := by
  unfold execEnumDone at e
  try dsimp only at e
  cases Host.Outcome.next.inj e
  repeat' first
    | with_reducible assumption
    | exact hp.bit rfl
    | exact hp.sub rfl
    | with_reducible refine State.enumComplete_moves ?_ ?_
    | with_reducible refine State.relay_moves ?_ ?_
    | split

theorem execLinkChange_moves (hp : Sub 4512395720392704 F.parts) {part : ℕ} {s : State} {t : State} (e : execLinkChange part s = .next t) (h : Moves F s₀ s) : Moves F s₀ t := by
  unfold execLinkChange at e
  try dsimp only at e
  cases Host.Outcome.next.inj e
  repeat' first
    | with_reducible assumption
    | exact hp.bit rfl
    | exact hp.sub rfl
    | with_reducible refine State.relay_moves ?_ ?_
    | split
    | simp (disch := first | exact hp.out rfl | with_reducible exact fun _ => rfl) only [Moves.mk_iff]

theorem execEnumTimer_moves (hp : Sub 6764221304013056 F.parts) {s : State} {t : State} (e : execEnumTimer s = .next t) (h : Moves F s₀ s) : Moves F s₀ t := by
  unfold execEnumTimer at e
  try dsimp only at e
  cases Host.Outcome.next.inj e
  repeat' first
    | with_reducible assumption
    | exact hp.bit rfl
    | exact hp.sub rfl
    | with_reducible refine State.enumerate_moves ?_ ?_
    | split

theorem execEnumRequest_moves (hp : Sub 6764221304013056 F.parts) {s : State} {t : State} (e : execEnumRequest s = .next t) (h : Moves F s₀ s) : Moves F s₀ t := by
  unfold execEnumRequest at e
  try dsimp only at e
  cases Host.Outcome.next.inj e
  repeat' first
    | with_reducible assumption
    | exact hp.bit rfl
    | exact hp.sub rfl
    | with_reducible refine State.enumerate_moves ?_ ?_
    | with_reducible refine State.wr_moves ?_ ?_
    | split

theorem execHeadTimeout_moves (hp : Sub 6764221304013056 F.parts) {s : State} {t : State} (e : execHeadTimeout s = .next t) (h : Moves F s₀ s) : Moves F s₀ t := by
  unfold execHeadTimeout at e
  try dsimp only at e
  cases Host.Outcome.next.inj e
  repeat' first
    | with_reducible assumption
    | exact hp.bit rfl
    | exact hp.sub rfl
    | with_reducible refine State.enumerate_moves ?_ ?_
    | with_reducible refine State.wr_moves ?_ ?_
    | split

theorem execHopStateChange_moves (hp : Sub 7045679101116416 F.parts) {down : Bool} {v : Bool} {s : State} {t : State} (e : execHopStateChange down v s = .next t) (h : Moves F s₀ s) : Moves F s₀ t := by
  unfold execHopStateChange at e
  try dsimp only at e
  cases Host.Outcome.next.inj e
  repeat' first
    | with_reducible assumption
    | exact hp.bit rfl
    | exact hp.sub rfl
    | with_reducible refine State.put_moves ?_ ?_
    | with_reducible refine State.count_moves ?_ ?_
    | with_reducible refine State.loseMaster_moves ?_ ?_
    | with_reducible refine State.emit_moves ?_ ?_
    | (extract_lets +onlyGivenNames t; refine Moves.cut (F := F) (s₀ := s₀) (t := t) ?_ (fun ht => ?_); rotate_left; (try clear_value t); rotate_left; subst t)
    | (extract_lets +onlyGivenNames t; subst t)
    | split
    | simp (disch := first | exact hp.out rfl | with_reducible exact fun _ => rfl) only [Moves.mk_iff]

theorem execMessageResend_moves (hp : Sub 131072 F.parts) {crcFailed : Bool} {s : State} {t : State} (e : execMessageResend crcFailed s = .next t) (h : Moves F s₀ s) : Moves F s₀ t := by
  unfold execMessageResend at e
  try dsimp only at e
  cases Host.Outcome.next.inj e
  repeat' first
    | with_reducible assumption
    | exact hp.bit rfl
    | exact hp.sub rfl
    | with_reducible refine State.count_moves ?_ ?_
    | (extract_lets +onlyGivenNames t; refine Moves.cut (F := F) (s₀ := s₀) (t := t) ?_ (fun ht => ?_); rotate_left; (try clear_value t); rotate_left; subst t)
    | split

theorem execAnnounce_moves (hp : Sub 4503625397174528 F.parts) {y0 : MsgFrom} {y1 : Nat} {y2 : Nat} {y3 : Bool} {y4 : Bool} {s : State} {t : State} (e : execAnnounce y0 y1 y2 y3 y4 s = .next t) (h : Moves F s₀ s) : Moves F s₀ t := by
  unfold execAnnounce at e
  try dsimp only at e
  cases Host.Outcome.next.inj e
  repeat' first
    | with_reducible assumption
    | exact hp.bit rfl
    | exact hp.sub rfl
    | with_reducible refine State.heardAll_moves ?_ (fun t ht => ?_) ?_
    | with_reducible refine State.refreshGroup_moves ?_ ?_
    | with_reducible refine State.wd_moves ?_ ?_
    | with_reducible refine State.announceSelf_moves ?_ ?_
    | split
    | simp (disch := first | exact hp.out rfl | with_reducible exact fun _ => rfl) only [Moves.mk_iff]

theorem execAnnounceTimer_moves (hp : Sub 4503599627370496 F.parts) {s : State} {t : State} (e : execAnnounceTimer s = .next t) (h : Moves F s₀ s) : Moves F s₀ t := by
  unfold execAnnounceTimer at e
  try dsimp only at e
  cases Host.Outcome.next.inj e
  repeat' first
    | with_reducible assumption
    | exact hp.bit rfl
    | exact hp.sub rfl
    | with_reducible refine State.announceSelf_moves ?_ ?_
    | split

theorem execStateReq_moves (hp : Sub 4503599627370752 F.parts) {y0 : MsgRoute} {s : State} {t : State} (e : execStateReq y0 s = .next t) (h : Moves F s₀ s) : Moves F s₀ t := by
  unfold execStateReq at e
  try dsimp only at e
  cases Host.Outcome.next.inj e
  repeat' first
    | with_reducible assumption
    | exact hp.bit rfl
    | exact hp.sub rfl
    | with_reducible refine State.heardOne_moves ?_ (fun t ht => ?_) ?_
    | with_reducible refine State.wr_moves ?_ ?_
    | with_reducible refine State.emit_moves ?_ ?_
    | (extract_lets +onlyGivenNames t; refine Moves.cut (F := F) (s₀ := s₀) (t := t) ?_ (fun ht => ?_); rotate_left; (try clear_value t); rotate_left; subst t)
    | split

theorem State.mergeStops_moves (hp : Sub 2251816993554432 F.parts) {s : State} {x1 : ℕ} (h : Moves F s₀ s) : Moves F s₀ (State.mergeStops s x1) := by
  unfold State.mergeStops
  repeat' first
    | with_reducible assumption
    | exact hp.bit rfl
    | exact hp.sub rfl
    | with_reducible refine State.wd_moves ?_ ?_
    | simp (disch := first | exact hp.out rfl | with_reducible exact fun _ => rfl) only [Moves.mk_iff]

theorem State.regroupDone_moves (hp : Sub 6755416620925184 F.parts) {s : State} (h : Moves F s₀ s) : Moves F s₀ (State.regroupDone s) := by
  unfold State.regroupDone
  repeat' first
    | with_reducible assumption
    | exact hp.bit rfl
    | exact hp.sub rfl
    | exact Sub.mem (f := a) hp ha (by rfl)
    | with_reducible refine State.wr_moves ?_ ?_
    | with_reducible refine State.wd_moves ?_ ?_
    | with_reducible refine State.scheduleOwn_moves ?_ ?_
    | with_reducible refine State.mergeStops_moves ?_ ?_
    | with_reducible refine State.tellAll_moves ?_ ?_
    | with_reducible refine Moves.foldl ?_ (fun t a ha ht => ?_)
    | (extract_lets +onlyGivenNames t; refine Moves.cut (F := F) (s₀ := s₀) (t := t) ?_ (fun ht => ?_); rotate_left; (try clear_value t); rotate_left; subst t)
    | (extract_lets +onlyGivenNames t; try clear_value t)
    | simp (disch := first | exact hp.out rfl | with_reducible exact fun _ => rfl) only [Moves.mk_iff]

theorem State.collected_moves (hp : Sub 6755562649813760 F.parts) {s : State} {src : ℕ} (h : Moves F s₀ s) : Moves F s₀ (State.collected s src) := by
  unfold State.collected
  repeat' first
    | with_reducible assumption
    | exact hp.bit rfl
    | exact hp.sub rfl
    | with_reducible refine State.regroupDone_moves ?_ ?_
    | with_reducible refine State.wd_moves ?_ ?_
    | with_reducible refine State.recoveryChosen_moves ?_ ?_
    | with_reducible refine State.cmdChecked_moves ?_ ?_
    | (extract_lets +onlyGivenNames t; refine Moves.cut (F := F) (s₀ := s₀) (t := t) ?_ (fun ht => ?_); rotate_left; (try clear_value t); rotate_left; subst t)
    | (extract_lets +onlyGivenNames t; try clear_value t)
    | split
    | simp (disch := first | exact hp.out rfl | with_reducible exact fun _ => rfl) only [Moves.mk_iff]

theorem execState_moves (hp : Sub 6755562649813904 F.parts) {y0 : MsgRoute} {y1 : Nat} {y2 : Nat} {y3 : Bool} {y4 : Nat} {y5 : Nat} {y6 : Nat} {y7 : Nat} {y8 : Nat} {y9 : MemberHold} {s : State} {t : State} (e : execState y0 y1 y2 y3 y4 y5 y6 y7 y8 y9 s = .next t) (h : Moves F s₀ s) : Moves F s₀ t := by
  unfold execState at e
  try dsimp only at e
  cases Host.Outcome.next.inj e
  repeat' first
    | with_reducible assumption
    | exact hp.bit rfl
    | exact hp.sub rfl
    | with_reducible refine State.heardOne_moves ?_ (fun t ht => ?_) ?_
    | with_reducible refine State.wd_moves ?_ ?_
    | with_reducible refine State.settle_moves ?_ ?_
    | with_reducible refine State.lateSpoil_moves ?_ ?_
    | with_reducible refine State.collected_moves ?_ ?_
    | (extract_lets +onlyGivenNames t; refine Moves.cut (F := F) (s₀ := s₀) (t := t) ?_ (fun ht => ?_); rotate_left; (try clear_value t); rotate_left; subst t)
    | split
    | simp (disch := first | exact hp.out rfl | with_reducible exact fun _ => rfl) only [Moves.mk_iff]

theorem execGrant_moves (hp : Sub 4503599627370752 F.parts) {y0 : MsgFrom} {y1 : Nat} {s : State} {t : State} (e : execGrant y0 y1 s = .next t) (h : Moves F s₀ s) : Moves F s₀ t := by
  unfold execGrant at e
  try dsimp only at e
  cases Host.Outcome.next.inj e
  repeat' first
    | with_reducible assumption
    | exact hp.bit rfl
    | exact hp.sub rfl
    | with_reducible refine State.heardAll_moves ?_ (fun t ht => ?_) ?_
    | with_reducible refine State.wr_moves ?_ ?_
    | split

theorem execEvent_moves (hp : Sub 6755562649813904 F.parts) {y0 : MsgFrom} {y1 : Nat} {y2 : Nat} {y3 : Nat} {y4 : Nat} {s : State} {t : State} (e : execEvent y0 y1 y2 y3 y4 s = .next t) (h : Moves F s₀ s) : Moves F s₀ t := by
  unfold execEvent at e
  try dsimp only at e
  cases Host.Outcome.next.inj e
  repeat' first
    | with_reducible assumption
    | exact hp.bit rfl
    | exact hp.sub rfl
    | with_reducible refine State.heardAll_moves ?_ (fun t ht => ?_) ?_
    | with_reducible refine State.mergeStops_moves ?_ ?_
    | with_reducible refine State.addEvent_moves ?_ ?_
    | with_reducible refine State.wd_moves ?_ ?_
    | with_reducible refine State.settle_moves ?_ ?_
    | with_reducible refine State.emit_moves ?_ ?_
    | (extract_lets +onlyGivenNames t; refine Moves.cut (F := F) (s₀ := s₀) (t := t) ?_ (fun ht => ?_); rotate_left; (try clear_value t); rotate_left; subst t)
    | (extract_lets +onlyGivenNames t; try clear_value t)
    | split
    | simp (disch := first | exact hp.out rfl | with_reducible exact fun _ => rfl) only [Moves.mk_iff]

theorem State.memberDone_moves (hp : Sub 4503625397174528 F.parts) {s : State} {src : ℕ} {result : ℕ} (h : Moves F s₀ s) : Moves F s₀ (State.memberDone s src result) := by
  unfold State.memberDone
  repeat' first
    | with_reducible assumption
    | exact hp.bit rfl
    | exact hp.sub rfl
    | with_reducible refine State.wd_moves ?_ ?_
    | with_reducible refine State.cmdFinish_moves ?_ ?_
    | (extract_lets +onlyGivenNames t; refine Moves.cut (F := F) (s₀ := s₀) (t := t) ?_ (fun ht => ?_); rotate_left; (try clear_value t); rotate_left; subst t)
    | (extract_lets +onlyGivenNames t; try clear_value t)
    | split
    | simp (disch := first | exact hp.out rfl | with_reducible exact fun _ => rfl) only [Moves.mk_iff]

theorem execEventAck_moves (hp : Sub 6755562649813760 F.parts) {y0 : MsgRoute} {y1 : Nat} {y2 : Nat} {s : State} {t : State} (e : execEventAck y0 y1 y2 s = .next t) (h : Moves F s₀ s) : Moves F s₀ t := by
  unfold execEventAck at e
  try dsimp only at e
  cases Host.Outcome.next.inj e
  repeat' first
    | with_reducible assumption
    | exact hp.bit rfl
    | exact hp.sub rfl
    | with_reducible refine State.heardOne_moves ?_ (fun t ht => ?_) ?_
    | with_reducible refine State.wd_moves ?_ ?_
    | with_reducible refine State.memberDone_moves ?_ ?_
    | with_reducible refine State.lateSpoil_moves ?_ ?_
    | with_reducible refine State.grantPoint_moves ?_ ?_
    | (extract_lets +onlyGivenNames t; refine Moves.cut (F := F) (s₀ := s₀) (t := t) ?_ (fun ht => ?_); rotate_left; (try clear_value t); rotate_left; subst t)
    | (extract_lets +onlyGivenNames t; try clear_value t)
    | split
    | simp (disch := first | exact hp.out rfl | with_reducible exact fun _ => rfl) only [Moves.mk_iff]

theorem execReport_moves (hp : Sub 6755562649813904 F.parts) {y0 : MsgRoute} {y1 : Nat} {y2 : Nat} {y3 : Nat} {s : State} {t : State} (e : execReport y0 y1 y2 y3 s = .next t) (h : Moves F s₀ s) : Moves F s₀ t := by
  unfold execReport at e
  try dsimp only at e
  cases Host.Outcome.next.inj e
  repeat' first
    | with_reducible assumption
    | exact hp.bit rfl
    | exact hp.sub rfl
    | with_reducible refine State.heardOne_moves ?_ (fun t ht => ?_) ?_
    | with_reducible refine State.settle_moves ?_ ?_
    | with_reducible refine State.triggerReport_moves ?_ ?_
    | with_reducible refine State.spoilAtLeader_moves ?_ ?_
    | with_reducible refine State.wd_moves ?_ ?_
    | split
    | simp (disch := first | exact hp.out rfl | with_reducible exact fun _ => rfl) only [Moves.mk_iff]

theorem execCmd_moves (hp : Sub 6755562649813904 F.parts) {y0 : MsgFrom} {y1 : Nat} {y2 : Nat} {y3 : Bool} {s : State} {t : State} (e : execCmd y0 y1 y2 y3 s = .next t) (h : Moves F s₀ s) : Moves F s₀ t := by
  unfold execCmd at e
  try dsimp only at e
  cases Host.Outcome.next.inj e
  repeat' first
    | with_reducible assumption
    | exact hp.bit rfl
    | exact hp.sub rfl
    | exact Sub.mem (f := a) hp ha (by rfl)
    | with_reducible refine State.heardAll_moves ?_ (fun t ht => ?_) ?_
    | with_reducible refine State.groupFault_moves ?_ ?_ ?_
    | with_reducible refine State.tellLeader_moves ?_ ?_
    | with_reducible refine State.startRun_moves ?_ ?_
    | with_reducible refine State.wd_moves ?_ ?_
    | with_reducible refine State.startRestore_moves ?_ ?_
    | with_reducible refine State.clearSpoil_moves ?_ ?_
    | with_reducible refine Moves.foldl ?_ (fun t a ha ht => ?_)
    | split
    | simp (disch := first | exact hp.out rfl | with_reducible exact fun _ => rfl) only [Moves.mk_iff]

theorem execCmdDone_moves (hp : Sub 6755562649813904 F.parts) {y0 : MsgRoute} {y1 : Nat} {s : State} {t : State} (e : execCmdDone y0 y1 s = .next t) (h : Moves F s₀ s) : Moves F s₀ t := by
  unfold execCmdDone at e
  try dsimp only at e
  cases Host.Outcome.next.inj e
  repeat' first
    | with_reducible assumption
    | exact hp.bit rfl
    | exact hp.sub rfl
    | with_reducible refine State.heardOne_moves ?_ (fun t ht => ?_) ?_
    | with_reducible refine State.memberDone_moves ?_ ?_
    | with_reducible refine State.recoveryFail_moves ?_ ?_
    | with_reducible refine State.recoveryProceed_moves ?_ ?_
    | with_reducible refine State.wd_moves ?_ ?_
    | with_reducible refine State.lateSpoil_moves ?_ ?_
    | split
    | simp (disch := first | exact hp.out rfl | with_reducible exact fun _ => rfl) only [Moves.mk_iff]

/-! ### RegOps -/

theorem State.writeField_moves {s : State} {f : Fld} {mask : ℕ} {v : ℕ} {u : ℕ} {j : ℕ} (hq : F.parts.testBit f.blk.code = true)  (h : Moves F s₀ s) : Moves F s₀ (State.writeField s f mask v u j) := by
  unfold State.writeField
  repeat' first
    | with_reducible assumption
    | with_reducible refine State.wr_moves ?_ ?_
    | (extract_lets +onlyGivenNames t; refine Moves.cut (F := F) (s₀ := s₀) (t := t) ?_ (fun ht => ?_); rotate_left; (try clear_value t); rotate_left; subst t)
    | (extract_lets +onlyGivenNames t; try clear_value t)
    | split

theorem State.writeFields_moves {s : State} {fs : List Fld} {mask : ℕ} {v : ℕ} {u : ℕ} {j : ℕ} (hq : ∀ f ∈ fs, F.parts.testBit f.blk.code = true)  (h : Moves F s₀ s) : Moves F s₀ (State.writeFields s fs mask v u j) := by
  unfold State.writeFields
  repeat' first
    | with_reducible assumption
    | exact hq _ (by assumption)
    | with_reducible refine State.writeField_moves ?_ ?_
    | with_reducible refine Moves.foldl ?_ (fun t a ha ht => ?_)

theorem State.clearRc_moves {s : State} {fs : List Fld} {mask : ℕ} {u : ℕ} {j : ℕ} (hq : ∀ f ∈ fs, F.parts.testBit f.blk.code = true)  (h : Moves F s₀ s) : Moves F s₀ (State.clearRc s fs mask u j) := by
  unfold State.clearRc
  repeat' first
    | with_reducible assumption
    | exact hq _ (by assumption)
    | with_reducible refine State.wr_moves ?_ ?_
    | with_reducible refine Moves.foldl ?_ (fun t a ha ht => ?_)
    | split

/-! ### EngineOps -/

theorem State.tr_moves (hp : Sub 70368744177664 F.parts) {s : State} {f : Tram → Tram} (h : Moves F s₀ s) : Moves F s₀ (State.tr s f) := by
  unfold State.tr
  repeat' first
    | with_reducible assumption
    | exact hp.bit rfl
    | exact hp.sub rfl
    | simp (disch := first | exact hp.out rfl | with_reducible exact fun _ => rfl) only [Moves.mk_iff]

theorem State.setEng_moves (hp : Sub 70368744177664 F.parts) {s : State} {x1 : ℕ} {x : Engine} (h : Moves F s₀ s) : Moves F s₀ (State.setEng s x1 x) := by
  unfold State.setEng
  repeat' first
    | with_reducible assumption
    | exact hp.bit rfl
    | exact hp.sub rfl
    | with_reducible refine State.tr_moves ?_ ?_
    | simp (disch := first | exact hp.out rfl | with_reducible exact fun _ => rfl) only [Moves.mk_iff]

theorem State.updEng_moves (hp : Sub 70368744177664 F.parts) {s : State} {x1 : ℕ} {f : Engine → Engine} (h : Moves F s₀ s) : Moves F s₀ (State.updEng s x1 f) := by
  unfold State.updEng
  repeat' first
    | with_reducible assumption
    | exact hp.bit rfl
    | exact hp.sub rfl
    | with_reducible refine State.setEng_moves ?_ ?_

theorem State.setWordErr_moves (hp : Sub 70368744177664 F.parts) {s : State} {a : ℕ} {v : ℕ} (h : Moves F s₀ s) : Moves F s₀ (State.setWordErr s a v) := by
  unfold State.setWordErr
  repeat' first
    | with_reducible assumption
    | exact hp.bit rfl
    | exact hp.sub rfl
    | with_reducible refine State.tr_moves ?_ ?_
    | simp (disch := first | exact hp.out rfl | with_reducible exact fun _ => rfl) only [Moves.mk_iff]

theorem State.countErr_moves (hp : Sub 6 F.parts) {s : State} {a : ℕ} {ue : Bool} {src : ℕ} (h : Moves F s₀ s) : Moves F s₀ (State.countErr s a ue src) := by
  unfold State.countErr
  repeat' first
    | with_reducible assumption
    | exact hp.bit rfl
    | exact hp.sub rfl
    | with_reducible refine State.count_moves ?_ ?_
    | with_reducible refine State.wr_moves ?_ ?_
    | with_reducible refine State.put_moves ?_ ?_
    | (extract_lets +onlyGivenNames t; refine Moves.cut (F := F) (s₀ := s₀) (t := t) ?_ (fun ht => ?_); rotate_left; (try clear_value t); rotate_left; subst t)
    | (extract_lets +onlyGivenNames t; try clear_value t)
    | split

theorem State.checkWord_moves (hp : Sub 70368744177670 F.parts) {s : State} {a : ℕ} {errs : ℕ} {src : ℕ} (h : Moves F s₀ s) : Moves F s₀ (State.checkWord s a errs src).2 := by
  unfold State.checkWord
  repeat' first
    | with_reducible assumption
    | exact hp.bit rfl
    | exact hp.sub rfl
    | (extract_lets +onlyGivenNames t; refine Moves.cut (F := F) (s₀ := s₀) (t := t) ?_ (fun ht => ?_); rotate_left; (try clear_value t); rotate_left; subst t)
    | (extract_lets +onlyGivenNames t; try clear_value t)
    | split
    | dsimp only
    | with_reducible refine State.countErr_moves ?_ ?_
    | with_reducible refine State.setWordErr_moves ?_ ?_
theorem State.checkWord_moves' (hp : Sub 70368744177670 F.parts) {s : State} {a : ℕ} {errs : ℕ} {src : ℕ} {r0 : Bool} {t : State} (e : State.checkWord s a errs src = (r0, t)) (h : Moves F s₀ s) : Moves F s₀ t := by
  have k := @State.checkWord_moves F s₀ (hp.sub rfl) s a errs src h
  rw [e] at k; exact k

theorem State.clearResv_moves (hp : Sub 70368744177664 F.parts) {s : State} {a : ℕ} (h : Moves F s₀ s) : Moves F s₀ (State.clearResv s a) := by
  unfold State.clearResv
  repeat' first
    | with_reducible assumption
    | exact hp.bit rfl
    | exact hp.sub rfl
    | exact Sub.mem (f := a) hp ha (by rfl)
    | with_reducible refine State.updEng_moves ?_ ?_
    | with_reducible refine Moves.foldl ?_ (fun t a ha ht => ?_)
    | (extract_lets +onlyGivenNames t; refine Moves.cut (F := F) (s₀ := s₀) (t := t) ?_ (fun ht => ?_); rotate_left; (try clear_value t); rotate_left; subst t)
    | (extract_lets +onlyGivenNames t; try clear_value t)
    | split
    | simp (disch := first | exact hp.out rfl | with_reducible exact fun _ => rfl) only [Moves.mk_iff]

theorem State.memStore_moves (hm : F.mem = true) (hp : Sub 70368744177670 F.parts) {s : State} {a : ℕ} {size : ℕ} {v : ℕ} {errs : ℕ} {src : ℕ} {poison : Bool} (h : Moves F s₀ s) : Moves F s₀ (State.memStore s a size v errs src poison) := by
  unfold State.memStore
  repeat' first
    | with_reducible assumption
    | exact hp.bit rfl
    | exact hp.sub rfl
    | with_reducible refine State.checkWord_moves ?_ ?_
    | refine State.checkWord_moves' ?_ (by with_reducible assumption) ?_
    | with_reducible refine State.clearResv_moves ?_ ?_
    | with_reducible refine State.setWordErr_moves ?_ ?_
    | with_reducible refine State.store_moves hm ?_
    | (extract_lets +onlyGivenNames t; refine Moves.cut (F := F) (s₀ := s₀) (t := t) ?_ (fun ht => ?_); rotate_left; (try clear_value t); rotate_left; subst t)
    | split

theorem State.engStore_moves (hm : F.mem = true) (hp : Sub 70368744177670 F.parts) {s : State} {a : ℕ} {size : ℕ} {v : ℕ} {errs : ℕ} (h : Moves F s₀ s) : Moves F s₀ (State.engStore s a size v errs) := by
  unfold State.engStore
  repeat' first
    | with_reducible assumption
    | exact hp.bit rfl
    | exact hp.sub rfl
    | with_reducible refine State.memStore_moves hm ?_ ?_
    | with_reducible refine State.tr_moves ?_ ?_
    | (extract_lets +onlyGivenNames t; refine Moves.cut (F := F) (s₀ := s₀) (t := t) ?_ (fun ht => ?_); rotate_left; (try clear_value t); rotate_left; subst t)
    | (extract_lets +onlyGivenNames t; try clear_value t)
    | simp (disch := first | exact hp.out rfl | with_reducible exact fun _ => rfl) only [Moves.mk_iff]

theorem State.watch_moves (hp : Sub 70368744177664 F.parts) {s : State} {x1 : ℕ} {a : ℕ} {write : Bool} (h : Moves F s₀ s) : Moves F s₀ (State.watch s x1 a write) := by
  unfold State.watch
  repeat' first
    | with_reducible assumption
    | exact hp.bit rfl
    | exact hp.sub rfl
    | with_reducible refine State.updEng_moves ?_ ?_
    | split
    | simp (disch := first | exact hp.out rfl | with_reducible exact fun _ => rfl) only [Moves.mk_iff]

theorem State.enterMonitor_moves (hp : Sub 70368744177668 F.parts) {s : State} {x1 : ℕ} (h : Moves F s₀ s) : Moves F s₀ (State.enterMonitor s x1) := by
  unfold State.enterMonitor
  repeat' first
    | with_reducible assumption
    | exact hp.bit rfl
    | exact hp.sub rfl
    | with_reducible refine State.wr_moves ?_ ?_
    | with_reducible refine State.updEng_moves ?_ ?_
    | (extract_lets +onlyGivenNames t; refine Moves.cut (F := F) (s₀ := s₀) (t := t) ?_ (fun ht => ?_); rotate_left; (try clear_value t); rotate_left; subst t)
    | simp (disch := first | exact hp.out rfl | with_reducible exact fun _ => rfl) only [Moves.mk_iff]

theorem State.enterIrq_moves (hp : Sub 70368744177668 F.parts) {s : State} {x1 : ℕ} (h : Moves F s₀ s) : Moves F s₀ (State.enterIrq s x1) := by
  unfold State.enterIrq
  repeat' first
    | with_reducible assumption
    | exact hp.bit rfl
    | exact hp.sub rfl
    | with_reducible refine State.wr_moves ?_ ?_
    | with_reducible refine State.updEng_moves ?_ ?_
    | (extract_lets +onlyGivenNames t; refine Moves.cut (F := F) (s₀ := s₀) (t := t) ?_ (fun ht => ?_); rotate_left; (try clear_value t); rotate_left; subst t)
    | simp (disch := first | exact hp.out rfl | with_reducible exact fun _ => rfl) only [Moves.mk_iff]

theorem State.haltAtBoundary_moves (hp : Sub 70368744177668 F.parts) {s : State} {x1 : ℕ} (h : Moves F s₀ s) : Moves F s₀ (State.haltAtBoundary s x1) := by
  unfold State.haltAtBoundary
  repeat' first
    | with_reducible assumption
    | exact hp.bit rfl
    | exact hp.sub rfl
    | with_reducible refine State.updEng_moves ?_ ?_
    | with_reducible refine State.wr_moves ?_ ?_
    | split
    | simp (disch := first | exact hp.out rfl | with_reducible exact fun _ => rfl) only [Moves.mk_iff]

theorem State.kick_moves (hp : Sub 70368744177664 F.parts) {s : State} {x1 : ℕ} (h : Moves F s₀ s) : Moves F s₀ (State.kick s x1) := by
  unfold State.kick
  repeat' first
    | with_reducible assumption
    | exact hp.bit rfl
    | exact hp.sub rfl
    | with_reducible refine State.updEng_moves ?_ ?_
    | simp (disch := first | exact hp.out rfl | with_reducible exact fun _ => rfl) only [Moves.mk_iff]

theorem State.trCmd_moves (hp : Sub 70373047533572 F.parts) {s : State} {x1 : ℕ} {cmd : ℕ} (h : Moves F s₀ s) : Moves F s₀ (State.trCmd s x1 cmd) := by
  unfold State.trCmd
  repeat' first
    | with_reducible assumption
    | exact hp.bit rfl
    | exact hp.sub rfl
    | with_reducible refine State.wr_moves ?_ ?_
    | with_reducible refine State.ungate_moves ?_ ?_
    | with_reducible refine State.kick_moves ?_ ?_
    | with_reducible refine State.updEng_moves ?_ ?_
    | with_reducible refine State.haltAtBoundary_moves ?_ ?_
    | (extract_lets +onlyGivenNames t; refine Moves.cut (F := F) (s₀ := s₀) (t := t) ?_ (fun ht => ?_); rotate_left; (try clear_value t); rotate_left; subst t)
    | (extract_lets +onlyGivenNames t; try clear_value t)
    | split
    | simp (disch := first | exact hp.out rfl | with_reducible exact fun _ => rfl) only [Moves.mk_iff]

theorem State.irqPost_moves (hp : Sub 70368744177664 F.parts) {s : State} {x1 : ℕ} {v : ℕ} (h : Moves F s₀ s) : Moves F s₀ (State.irqPost s x1 v).2 := by
  unfold State.irqPost
  repeat' first
    | with_reducible assumption
    | exact hp.bit rfl
    | exact hp.sub rfl
    | split
    | dsimp only
    | with_reducible refine State.updEng_moves ?_ ?_
    | simp (disch := first | exact hp.out rfl | with_reducible exact fun _ => rfl) only [Moves.mk_iff]
theorem State.irqPost_moves' (hp : Sub 70368744177664 F.parts) {s : State} {x1 : ℕ} {v : ℕ} {r0 : ℕ} {t : State} (e : State.irqPost s x1 v = (r0, t)) (h : Moves F s₀ s) : Moves F s₀ t := by
  have k := @State.irqPost_moves F s₀ (hp.sub rfl) s x1 v h
  rw [e] at k; exact k

theorem State.setNoticeCount_moves (hp : Sub 4 F.parts) {s : State} {x1 : ℕ} {p : ℕ} {v : ℕ} (h : Moves F s₀ s) : Moves F s₀ (State.setNoticeCount s x1 p v) := by
  unfold State.setNoticeCount
  repeat' first
    | with_reducible assumption
    | exact hp.bit rfl
    | exact hp.sub rfl
    | with_reducible refine State.wr_moves ?_ ?_
    | (extract_lets +onlyGivenNames t; refine Moves.cut (F := F) (s₀ := s₀) (t := t) ?_ (fun ht => ?_); rotate_left; (try clear_value t); rotate_left; subst t)
    | (extract_lets +onlyGivenNames t; try clear_value t)

theorem State.latchNotice_moves (hp : Sub 4 F.parts) {s : State} {x1 : ℕ} {p : ℕ} (h : Moves F s₀ s) : Moves F s₀ (State.latchNotice s x1 p) := by
  unfold State.latchNotice
  repeat' first
    | with_reducible assumption
    | exact hp.bit rfl
    | exact hp.sub rfl
    | with_reducible refine State.putBit_moves ?_ ?_
    | with_reducible refine State.setNoticeCount_moves ?_ ?_
    | with_reducible refine State.wr_moves ?_ ?_
    | (extract_lets +onlyGivenNames t; refine Moves.cut (F := F) (s₀ := s₀) (t := t) ?_ (fun ht => ?_); rotate_left; (try clear_value t); rotate_left; subst t)
    | (extract_lets +onlyGivenNames t; try clear_value t)
    | split

theorem State.haltReq_moves (hp : Sub 70373047533572 F.parts) {s : State} {x1 : ℕ} (h : Moves F s₀ s) : Moves F s₀ (State.haltReq s x1) := by
  unfold State.haltReq
  repeat' first
    | with_reducible assumption
    | exact hp.bit rfl
    | exact hp.sub rfl
    | with_reducible refine State.updEng_moves ?_ ?_
    | with_reducible refine State.enterMonitor_moves ?_ ?_
    | with_reducible refine State.ungate_moves ?_ ?_
    | with_reducible refine State.wr_moves ?_ ?_
    | (extract_lets +onlyGivenNames t; refine Moves.cut (F := F) (s₀ := s₀) (t := t) ?_ (fun ht => ?_); rotate_left; (try clear_value t); rotate_left; subst t)
    | (extract_lets +onlyGivenNames t; try clear_value t)
    | split
    | simp (disch := first | exact hp.out rfl | with_reducible exact fun _ => rfl) only [Moves.mk_iff]

theorem State.writeWdog_moves (hp : Sub 70368744177668 F.parts) {s : State} {x1 : ℕ} {mask : ℕ} {v : ℕ} (h : Moves F s₀ s) : Moves F s₀ (State.writeWdog s x1 mask v) := by
  unfold State.writeWdog
  repeat' first
    | with_reducible assumption
    | exact hp.bit rfl
    | exact hp.sub rfl
    | exact fun f hf => hp.mem hf (by rfl)
    | with_reducible refine State.writeFields_moves ?_ ?_
    | with_reducible refine State.kick_moves ?_ ?_
    | with_reducible refine State.wr_moves ?_ ?_
    | (extract_lets +onlyGivenNames t; refine Moves.cut (F := F) (s₀ := s₀) (t := t) ?_ (fun ht => ?_); rotate_left; (try clear_value t); rotate_left; subst t)
    | split

theorem State.trWrite_moves (hp : Sub 70373047533572 F.parts) {s : State} {x1 : ℕ} {off : ℕ} {size : ℕ} {data : ℕ} (h : Moves F s₀ s) : Moves F s₀ (State.trWrite s x1 off size data).2 := by
  unfold State.trWrite
  repeat' first
    | with_reducible assumption
    | exact hp.bit rfl
    | exact hp.sub rfl
    | exact hp.tr (by assumption) rfl
    | exact fun f hf => hp.mem hf (by rfl)
    | (extract_lets +onlyGivenNames t; refine Moves.cut (F := F) (s₀ := s₀) (t := t) ?_ (fun ht => ?_); rotate_left; (try clear_value t); rotate_left; subst t)
    | (extract_lets +onlyGivenNames t; try clear_value t)
    | split
    | dsimp only
    | with_reducible refine State.writeFields_moves ?_ ?_
    | with_reducible refine State.trCmd_moves ?_ ?_
    | with_reducible refine State.wr_moves ?_ ?_
    | with_reducible refine State.irqPost_moves ?_ ?_
    | refine State.irqPost_moves' ?_ (by with_reducible assumption) ?_
    | with_reducible refine State.latchNotice_moves ?_ ?_
    | with_reducible refine State.writeWdog_moves ?_ ?_
    | with_reducible refine State.kick_moves ?_ ?_
    | with_reducible refine State.haltReq_moves ?_ ?_
theorem State.trWrite_moves' (hp : Sub 70373047533572 F.parts) {s : State} {x1 : ℕ} {off : ℕ} {size : ℕ} {data : ℕ} {r0 : ℕ} {t : State} (e : State.trWrite s x1 off size data = (r0, t)) (h : Moves F s₀ s) : Moves F s₀ t := by
  have k := @State.trWrite_moves F s₀ (hp.sub rfl) s x1 off size data h
  rw [e] at k; exact k

theorem State.postRead_moves (hp : Sub 70368744177664 F.parts) {s : State} {x1 : ℕ} {mask : ℕ} {peek : Bool} (h : Moves F s₀ s) : Moves F s₀ (State.postRead s x1 mask peek).2 := by
  unfold State.postRead
  repeat' first
    | with_reducible assumption
    | exact hp.bit rfl
    | exact hp.sub rfl
    | split
    | dsimp only
    | with_reducible refine State.updEng_moves ?_ ?_
    | simp (disch := first | exact hp.out rfl | with_reducible exact fun _ => rfl) only [Moves.mk_iff]
theorem State.postRead_moves' (hp : Sub 70368744177664 F.parts) {s : State} {x1 : ℕ} {mask : ℕ} {peek : Bool} {r0 : ℕ} {t : State} (e : State.postRead s x1 mask peek = (r0, t)) (h : Moves F s₀ s) : Moves F s₀ t := by
  have k := @State.postRead_moves F s₀ (hp.sub rfl) s x1 mask peek h
  rw [e] at k; exact k

theorem State.trRead_moves (hp : Sub 70368744177668 F.parts) {s : State} {x1 : ℕ} {off : ℕ} {size : ℕ} {peek : Bool} (h : Moves F s₀ s) : Moves F s₀ (State.trRead s x1 off size peek).2 := by
  unfold State.trRead
  repeat' first
    | with_reducible assumption
    | exact hp.bit rfl
    | exact hp.sub rfl
    | exact hp.tr (by assumption) rfl
    | exact fun f hf => hp.mem hf (by rfl)
    | (extract_lets +onlyGivenNames t; refine Moves.cut (F := F) (s₀ := s₀) (t := t) ?_ (fun ht => ?_); rotate_left; (try clear_value t); rotate_left; subst t)
    | (extract_lets +onlyGivenNames t; subst t)
    | split
    | dsimp only
    | with_reducible refine State.drawn_moves ?_
    | with_reducible refine State.postRead_moves ?_ ?_
    | refine State.postRead_moves' ?_ (by with_reducible assumption) ?_
    | with_reducible refine State.clearRc_moves ?_ ?_
theorem State.trRead_moves' (hp : Sub 70368744177668 F.parts) {s : State} {x1 : ℕ} {off : ℕ} {size : ℕ} {peek : Bool} {r0 : ℕ} {t : State} (e : State.trRead s x1 off size peek = (r0, t)) (h : Moves F s₀ s) : Moves F s₀ t := by
  have k := @State.trRead_moves F s₀ (hp.sub rfl) s x1 off size peek h
  rw [e] at k; exact k

theorem State.landStores_moves (hp : Sub 70373047533572 F.parts) {s : State} {x1 : ℕ} {l : List (ℕ × ℕ × ℕ × ℕ)} (h : Moves F s₀ s) : Moves F s₀ (State.landStores s x1 l) := by
  unfold State.landStores
  repeat' first
    | with_reducible assumption
    | exact hp.bit rfl
    | exact hp.sub rfl
    | exact Sub.mem (f := a) hp ha (by rfl)
    | with_reducible refine State.trWrite_moves ?_ ?_
    | refine State.trWrite_moves' ?_ (by with_reducible assumption) ?_
    | with_reducible refine Moves.foldl ?_ (fun t a ha ht => ?_)
    | with_reducible refine Moves.foldl2 ?_ (fun y a ht => ?_)
    | with_reducible refine Moves.foldl1 ?_ (fun y a ht => ?_)

theorem State.settleGaps_moves (hp : Sub 70373047533572 F.parts) {s : State} {x1 : ℕ} (h : Moves F s₀ s) : Moves F s₀ (State.settleGaps s x1) := by
  unfold State.settleGaps
  repeat' first
    | with_reducible assumption
    | exact hp.bit rfl
    | exact hp.sub rfl
    | with_reducible refine State.landStores_moves ?_ ?_
    | with_reducible refine State.updEng_moves ?_ ?_
    | (extract_lets +onlyGivenNames t; refine Moves.cut (F := F) (s₀ := s₀) (t := t) ?_ (fun ht => ?_); rotate_left; (try clear_value t); rotate_left; subst t)
    | (extract_lets +onlyGivenNames t; try clear_value t)
    | simp (disch := first | exact hp.out rfl | with_reducible exact fun _ => rfl) only [Moves.mk_iff]

theorem State.raiseExc_moves (hp : Sub 70373047533572 F.parts) {s : State} {x1 : ℕ} {cause : ℕ} {eaddr : ℕ} (h : Moves F s₀ s) : Moves F s₀ (State.raiseExc s x1 cause eaddr) := by
  unfold State.raiseExc
  repeat' first
    | with_reducible assumption
    | exact hp.bit rfl
    | exact hp.sub rfl
    | with_reducible refine State.updEng_moves ?_ ?_
    | with_reducible refine State.settleGaps_moves ?_ ?_
    | with_reducible refine State.wr_moves ?_ ?_
    | with_reducible refine State.haltAtBoundary_moves ?_ ?_
    | (extract_lets +onlyGivenNames t; refine Moves.cut (F := F) (s₀ := s₀) (t := t) ?_ (fun ht => ?_); rotate_left; (try clear_value t); rotate_left; subst t)
    | (extract_lets +onlyGivenNames t; try clear_value t)
    | split
    | simp (disch := first | exact hp.out rfl | with_reducible exact fun _ => rfl) only [Moves.mk_iff]

theorem State.retire_moves (hp : Sub 70373047533572 F.parts) {s : State} {x1 : ℕ} {x : Engine} {mon : Bool} {ctl : Ctl} (h : Moves F s₀ s) : Moves F s₀ (State.retire s x1 x mon ctl) := by
  unfold State.retire
  repeat' first
    | with_reducible assumption
    | exact hp.bit rfl
    | exact hp.sub rfl
    | with_reducible refine State.setEng_moves ?_ ?_
    | with_reducible refine State.haltAtBoundary_moves ?_ ?_
    | with_reducible refine State.landStores_moves ?_ ?_
    | with_reducible refine State.wr_moves ?_ ?_
    | (extract_lets +onlyGivenNames t; refine Moves.cut (F := F) (s₀ := s₀) (t := t) ?_ (fun ht => ?_); rotate_left; (try clear_value t); rotate_left; subst t)
    | (extract_lets +onlyGivenNames t; try clear_value t)
    | split
    | simp (disch := first | exact hp.out rfl | with_reducible exact fun _ => rfl) only [Moves.mk_iff]

theorem State.landed_moves (hp : Sub 70373047533572 F.parts) {s : State} {x1 : ℕ} {l : Landing} {v : ℕ} (h : Moves F s₀ s) : Moves F s₀ (State.landed s x1 l v) := by
  unfold State.landed
  repeat' first
    | with_reducible assumption
    | exact hp.bit rfl
    | exact hp.sub rfl
    | with_reducible refine State.setEng_moves ?_ ?_
    | with_reducible refine State.setNoticeCount_moves ?_ ?_
    | with_reducible refine State.retire_moves ?_ ?_
    | (extract_lets +onlyGivenNames t; refine Moves.cut (F := F) (s₀ := s₀) (t := t) ?_ (fun ht => ?_); rotate_left; (try clear_value t); rotate_left; subst t)
    | (extract_lets +onlyGivenNames t; try clear_value t)
    | split
    | simp (disch := first | exact hp.out rfl | with_reducible exact fun _ => rfl) only [Moves.mk_iff]

theorem State.answerEngine_moves (hp : Sub 70373047533572 F.parts) {s : State} {x1 : ℕ} {l : Landing} {status : ℕ} {data : ℕ} {poison : Bool} (h : Moves F s₀ s) : Moves F s₀ (State.answerEngine s x1 l status data poison) := by
  unfold State.answerEngine
  repeat' first
    | with_reducible assumption
    | exact hp.bit rfl
    | exact hp.sub rfl
    | with_reducible refine State.raiseExc_moves ?_ ?_
    | with_reducible refine State.landed_moves ?_ ?_
    | split

theorem State.answerTag_moves (hp : Sub 70373047533572 F.parts) {s : State} {ni : ℕ} {tag : ℕ} {status : ℕ} {data : ℕ} {poison : Bool} (h : Moves F s₀ s) : Moves F s₀ (State.answerTag s ni tag status data poison) := by
  unfold State.answerTag
  repeat' first
    | with_reducible assumption
    | exact hp.bit rfl
    | exact hp.sub rfl
    | exact Sub.mem (f := a) hp ha (by rfl)
    | with_reducible refine State.answerEngine_moves ?_ ?_
    | with_reducible refine Moves.foldl ?_ (fun t a ha ht => ?_)
    | (extract_lets +onlyGivenNames t; refine Moves.cut (F := F) (s₀ := s₀) (t := t) ?_ (fun ht => ?_); rotate_left; (try clear_value t); rotate_left; subst t)
    | (extract_lets +onlyGivenNames t; try clear_value t)
    | split

theorem State.refuseEngine_moves (hp : Sub 70373047533572 F.parts) {s : State} {x1 : ℕ} {status : ℕ} (h : Moves F s₀ s) : Moves F s₀ (State.refuseEngine s x1 status) := by
  unfold State.refuseEngine
  repeat' first
    | with_reducible assumption
    | exact hp.bit rfl
    | exact hp.sub rfl
    | with_reducible refine State.answerEngine_moves ?_ ?_
    | with_reducible refine State.haltAtBoundary_moves ?_ ?_
    | with_reducible refine State.updEng_moves ?_ ?_
    | split
    | simp (disch := first | exact hp.out rfl | with_reducible exact fun _ => rfl) only [Moves.mk_iff]

theorem State.acceptEngine_moves (hp : Sub 70368744177668 F.parts) {s : State} {x1 : ℕ} {tag : ℕ} (h : Moves F s₀ s) : Moves F s₀ (State.acceptEngine s x1 tag) := by
  unfold State.acceptEngine
  repeat' first
    | with_reducible assumption
    | exact hp.bit rfl
    | exact hp.sub rfl
    | with_reducible refine State.haltAtBoundary_moves ?_ ?_
    | with_reducible refine State.updEng_moves ?_ ?_
    | split
    | simp (disch := first | exact hp.out rfl | with_reducible exact fun _ => rfl) only [Moves.mk_iff]

theorem State.pushSeen_moves (hp : Sub 70368744177668 F.parts) {s : State} {x1 : ℕ} (h : Moves F s₀ s) : Moves F s₀ (State.pushSeen s x1) := by
  unfold State.pushSeen
  repeat' first
    | with_reducible assumption
    | exact hp.bit rfl
    | exact hp.sub rfl
    | with_reducible refine State.haltAtBoundary_moves ?_ ?_
    | with_reducible refine State.updEng_moves ?_ ?_
    | split
    | simp (disch := first | exact hp.out rfl | with_reducible exact fun _ => rfl) only [Moves.mk_iff]

/-! ### Gallery -/

theorem State.gl_moves (hp : Sub 35184372088832 F.parts) {s : State} {g : Gallery → Gallery} (h : Moves F s₀ s) : Moves F s₀ (State.gl s g) := by
  unfold State.gl
  repeat' first
    | with_reducible assumption
    | exact hp.bit rfl
    | exact hp.sub rfl
    | simp (disch := first | exact hp.out rfl | with_reducible exact fun _ => rfl) only [Moves.mk_iff]

theorem State.writeRoute_moves (hp : Sub 32768 F.parts) {s : State} {n : ℕ} {d : ℕ} {v : ℕ} (h : Moves F s₀ s) : Moves F s₀ (State.writeRoute s n d v) := by
  unfold State.writeRoute
  repeat' first
    | with_reducible assumption
    | exact hp.bit rfl
    | exact hp.sub rfl
    | exact fun f hf => hp.mem hf (by rfl)
    | with_reducible refine State.setFields_moves ?_ ?_
    | with_reducible refine State.wr_moves ?_ ?_
    | split

theorem execRouteWrite_moves (hp : Sub 32768 F.parts) {ni : ℕ} {dest : ℕ} {value : ℕ} {s : State} {t : State} (e : execRouteWrite ni dest value s = .next t) (h : Moves F s₀ s) : Moves F s₀ t := by
  unfold execRouteWrite at e
  rw [need_next e]; clear e
  repeat' first
    | with_reducible assumption
    | exact hp.bit rfl
    | exact hp.sub rfl
    | refine need_moves (by with_reducible assumption) ?_
    | with_reducible refine State.writeRoute_moves ?_ ?_

theorem State.showTags_moves (hp : Sub 32768 F.parts) {s : State} {ni : ℕ} (h : Moves F s₀ s) : Moves F s₀ (State.showTags s ni) := by
  unfold State.showTags
  repeat' first
    | with_reducible assumption
    | exact hp.bit rfl
    | exact hp.sub rfl
    | with_reducible refine State.wr_moves ?_ ?_

theorem State.niRefuse_moves (hp : Sub 13581171929677828 F.parts) {s : State} {r : GalReq} {status : ℕ} (h : Moves F s₀ s) : Moves F s₀ (State.niRefuse s r status) := by
  unfold State.niRefuse
  repeat' first
    | with_reducible assumption
    | exact hp.bit rfl
    | exact hp.sub rfl
    | with_reducible refine State.count_moves ?_ ?_
    | with_reducible refine State.emit_moves ?_ ?_
    | with_reducible refine State.updStope_moves ?_ ?_
    | with_reducible refine State.refuseEngine_moves ?_ ?_
    | (extract_lets +onlyGivenNames t; refine Moves.cut (F := F) (s₀ := s₀) (t := t) ?_ (fun ht => ?_); rotate_left; (try clear_value t); rotate_left; subst t)
    | split
    | simp (disch := first | exact hp.out rfl | with_reducible exact fun _ => rfl) only [Moves.mk_iff]

theorem State.inject_moves (hp : Sub 9112752371040260 F.parts) {s : State} {r : GalReq} {d : ℕ} (h : Moves F s₀ s) : Moves F s₀ (State.inject s r d).2 := by
  unfold State.inject
  repeat' first
    | with_reducible assumption
    | exact hp.bit rfl
    | exact hp.sub rfl
    | exact Sub.mem (f := a) hp ha (by rfl)
    | (extract_lets +onlyGivenNames t; refine Moves.cut (F := F) (s₀ := s₀) (t := t) ?_ (fun ht => ?_); rotate_left; (try clear_value t); rotate_left; subst t)
    | (extract_lets +onlyGivenNames t; try clear_value t)
    | split
    | dsimp only
    | with_reducible refine State.gl_moves ?_ ?_
    | with_reducible refine State.updStope_moves ?_ ?_
    | with_reducible refine State.acceptEngine_moves ?_ ?_
    | with_reducible refine State.showTags_moves ?_ ?_
    | with_reducible refine Moves.foldl ?_ (fun t a ha ht => ?_)
    | with_reducible refine Moves.foldl2 ?_ (fun y a ht => ?_)
    | with_reducible refine Moves.foldl1 ?_ (fun y a ht => ?_)
    | simp (disch := first | exact hp.out rfl | with_reducible exact fun _ => rfl) only [Moves.mk_iff]
theorem State.inject_moves' (hp : Sub 9112752371040260 F.parts) {s : State} {r : GalReq} {d : ℕ} {r0 : Bool} {t : State} (e : State.inject s r d = (r0, t)) (h : Moves F s₀ s) : Moves F s₀ t := by
  have k := @State.inject_moves F s₀ (hp.sub rfl) s r d h
  rw [e] at k; exact k

theorem State.request_moves (hp : Sub 13616356301766660 F.parts) {s : State} {r : GalReq} (h : Moves F s₀ s) : Moves F s₀ (State.request s r) := by
  unfold State.request
  repeat' first
    | with_reducible assumption
    | exact hp.bit rfl
    | exact hp.sub rfl
    | with_reducible refine State.niRefuse_moves ?_ ?_
    | with_reducible refine State.inject_moves ?_ ?_
    | refine State.inject_moves' ?_ (by with_reducible assumption) ?_
    | with_reducible refine State.gl_moves ?_ ?_
    | split
    | simp (disch := first | exact hp.out rfl | with_reducible exact fun _ => rfl) only [Moves.mk_iff]

theorem execGalleryRequest_moves (hp : Sub 13616356301766660 F.parts) {r : GalReq} {s : State} {t : State} (e : execGalleryRequest r s = .next t) (h : Moves F s₀ s) : Moves F s₀ t := by
  unfold execGalleryRequest at e
  rw [need_next e]; clear e
  repeat' first
    | with_reducible assumption
    | exact hp.bit rfl
    | exact hp.sub rfl
    | refine need_moves (by with_reducible assumption) ?_
    | with_reducible refine State.request_moves ?_ ?_
    | split

theorem State.retryHeld_moves (hp : Sub 13616356301766660 F.parts) {s : State} (h : Moves F s₀ s) : Moves F s₀ (State.retryHeld s) := by
  unfold State.retryHeld
  repeat' first
    | with_reducible assumption
    | exact hp.bit rfl
    | exact hp.sub rfl
    | exact Sub.mem (f := a) hp ha (by rfl)
    | with_reducible refine State.niRefuse_moves ?_ ?_
    | with_reducible refine State.inject_moves ?_ ?_
    | refine State.inject_moves' ?_ (by with_reducible assumption) ?_
    | with_reducible refine State.gl_moves ?_ ?_
    | with_reducible refine Moves.foldl ?_ (fun t a ha ht => ?_)
    | (extract_lets +onlyGivenNames t; refine Moves.cut (F := F) (s₀ := s₀) (t := t) ?_ (fun ht => ?_); rotate_left; (try clear_value t); rotate_left; subst t)
    | (extract_lets +onlyGivenNames t; try clear_value t)
    | split
    | simp (disch := first | exact hp.out rfl | with_reducible exact fun _ => rfl) only [Moves.mk_iff]

theorem execRegulatorRefill_moves (hp : Sub 13616356301766660 F.parts) {point : ℕ} {s : State} {t : State} (e : execRegulatorRefill point s = .next t) (h : Moves F s₀ s) : Moves F s₀ t := by
  unfold execRegulatorRefill at e
  rw [need_next e]; clear e
  repeat' first
    | with_reducible assumption
    | exact hp.bit rfl
    | exact hp.sub rfl
    | refine need_moves (by with_reducible assumption) ?_
    | with_reducible refine State.retryHeld_moves ?_ ?_
    | with_reducible refine State.gl_moves ?_ ?_
    | (extract_lets +onlyGivenNames t; refine Moves.cut (F := F) (s₀ := s₀) (t := t) ?_ (fun ht => ?_); rotate_left; (try clear_value t); rotate_left; subst t)
    | (extract_lets +onlyGivenNames t; try clear_value t)
    | split
    | simp (disch := first | exact hp.out rfl | with_reducible exact fun _ => rfl) only [Moves.mk_iff]

theorem State.galDrop_moves (hp : Sub 2251799813718016 F.parts) {s : State} {kind : ℕ} {place : ℕ} {src : ℕ} (h : Moves F s₀ s) : Moves F s₀ (State.galDrop s kind place src) := by
  unfold State.galDrop
  repeat' first
    | with_reducible assumption
    | exact hp.bit rfl
    | exact hp.sub rfl
    | with_reducible refine State.wr_moves ?_ ?_
    | with_reducible refine State.post_moves ?_ ?_
    | (extract_lets +onlyGivenNames t; refine Moves.cut (F := F) (s₀ := s₀) (t := t) ?_ (fun ht => ?_); rotate_left; (try clear_value t); rotate_left; subst t)
    | split

theorem State.dropPacket_moves (hp : Sub 35184372088832 F.parts) {s : State} {i : ℕ} (h : Moves F s₀ s) : Moves F s₀ (State.dropPacket s i) := by
  unfold State.dropPacket
  repeat' first
    | with_reducible assumption
    | exact hp.bit rfl
    | exact hp.sub rfl
    | with_reducible refine State.gl_moves ?_ ?_
    | simp (disch := first | exact hp.out rfl | with_reducible exact fun _ => rfl) only [Moves.mk_iff]

theorem State.losePacket_moves (hp : Sub 105553116266500 F.parts) {s : State} {i : ℕ} {r : GalReq} (h : Moves F s₀ s) : Moves F s₀ (State.losePacket s i r) := by
  unfold State.losePacket
  repeat' first
    | with_reducible assumption
    | exact hp.bit rfl
    | exact hp.sub rfl
    | with_reducible refine State.pushSeen_moves ?_ ?_
    | with_reducible refine State.dropPacket_moves ?_ ?_
    | split

theorem execPacketHop_moves (hp : Sub 6860952557355012 F.parts) {index : ℕ} {corrected : ℕ} {upset : ℕ} {headerUe : Bool} {dataUe : Bool} {s : State} {t : State} (e : execPacketHop index corrected upset headerUe dataUe s = .next t) (h : Moves F s₀ s) : Moves F s₀ t := by
  unfold execPacketHop at e
  try dsimp only at e
  cases Host.Outcome.next.inj e
  repeat' first
    | with_reducible assumption
    | exact hp.bit rfl
    | exact hp.sub rfl
    | with_reducible refine State.count_moves ?_ ?_
    | with_reducible refine State.galDrop_moves ?_ ?_
    | with_reducible refine State.losePacket_moves ?_ ?_
    | with_reducible refine State.emit_moves ?_ ?_
    | with_reducible refine State.dropPacket_moves ?_ ?_
    | with_reducible refine State.gl_moves ?_ ?_
    | (extract_lets +onlyGivenNames t; refine Moves.cut (F := F) (s₀ := s₀) (t := t) ?_ (fun ht => ?_); rotate_left; (try clear_value t); rotate_left; subst t)
    | (extract_lets +onlyGivenNames t; try clear_value t)
    | split
    | simp (disch := first | exact hp.out rfl | with_reducible exact fun _ => rfl) only [Moves.mk_iff]

theorem execAgePromotion_moves (hp : Sub 35184372088832 F.parts) {index : ℕ} {s : State} {t : State} (e : execAgePromotion index s = .next t) (h : Moves F s₀ s) : Moves F s₀ t := by
  unfold execAgePromotion at e
  try dsimp only at e
  cases Host.Outcome.next.inj e
  repeat' first
    | with_reducible assumption
    | exact hp.bit rfl
    | exact hp.sub rfl
    | with_reducible refine State.gl_moves ?_ ?_
    | split
    | simp (disch := first | exact hp.out rfl | with_reducible exact fun _ => rfl) only [Moves.mk_iff]

theorem State.untag_moves (hp : Sub 13616356301766660 F.parts) {s : State} {ni : ℕ} {tag : ℕ} (h : Moves F s₀ s) : Moves F s₀ (State.untag s ni tag) := by
  unfold State.untag
  repeat' first
    | with_reducible assumption
    | exact hp.bit rfl
    | exact hp.sub rfl
    | with_reducible refine State.showTags_moves ?_ ?_
    | with_reducible refine State.retryHeld_moves ?_ ?_
    | with_reducible refine State.gl_moves ?_ ?_
    | simp (disch := first | exact hp.out rfl | with_reducible exact fun _ => rfl) only [Moves.mk_iff]

theorem execGalleryResponse_moves (hp : Sub 13616356301766660 F.parts) {ni : ℕ} {tag : ℕ} {status : ℕ} {data : ℕ} {poison : Bool} {s : State} {t : State} (e : execGalleryResponse ni tag status data poison s = .next t) (h : Moves F s₀ s) : Moves F s₀ t := by
  unfold execGalleryResponse at e
  rw [need_next e]; clear e
  repeat' first
    | with_reducible assumption
    | exact hp.bit rfl
    | exact hp.sub rfl
    | refine need_moves (by with_reducible assumption) ?_
    | with_reducible refine State.answerTag_moves ?_ ?_
    | with_reducible refine State.emit_moves ?_ ?_
    | with_reducible refine State.untag_moves ?_ ?_
    | with_reducible refine State.count_moves ?_ ?_
    | split

theorem execGalleryTimeout_moves (hp : Sub 4609157047025668 F.parts) {ni : ℕ} {tag : ℕ} {s : State} {t : State} (e : execGalleryTimeout ni tag s = .next t) (h : Moves F s₀ s) : Moves F s₀ t := by
  unfold execGalleryTimeout at e
  rw [need_next e]; clear e
  repeat' first
    | with_reducible assumption
    | exact hp.bit rfl
    | exact hp.sub rfl
    | refine need_moves (by with_reducible assumption) ?_
    | with_reducible refine State.gl_moves ?_ ?_
    | with_reducible refine State.answerTag_moves ?_ ?_
    | with_reducible refine State.emit_moves ?_ ?_
    | with_reducible refine State.count_moves ?_ ?_
    | (extract_lets +onlyGivenNames t; refine Moves.cut (F := F) (s₀ := s₀) (t := t) ?_ (fun ht => ?_); rotate_left; (try clear_value t); rotate_left; subst t)
    | split
    | simp (disch := first | exact hp.out rfl | with_reducible exact fun _ => rfl) only [Moves.mk_iff]

theorem execTagRelease_moves (hp : Sub 13616356301766660 F.parts) {ni : ℕ} {tag : ℕ} {s : State} {t : State} (e : execTagRelease ni tag s = .next t) (h : Moves F s₀ s) : Moves F s₀ t := by
  unfold execTagRelease at e
  rw [need_next e]; clear e
  repeat' first
    | with_reducible assumption
    | exact hp.bit rfl
    | exact hp.sub rfl
    | refine need_moves (by with_reducible assumption) ?_
    | with_reducible refine State.untag_moves ?_ ?_
    | split

/-! ### DramOps -/

theorem State.dr_moves (hp : Sub 274877906944 F.parts) {s : State} {g : Dram → Dram} (h : Moves F s₀ s) : Moves F s₀ (State.dr s g) := by
  unfold State.dr
  repeat' first
    | with_reducible assumption
    | exact hp.bit rfl
    | exact hp.sub rfl
    | simp (disch := first | exact hp.out rfl | with_reducible exact fun _ => rfl) only [Moves.mk_iff]

theorem State.showFresh_moves (hp : Sub 4096 F.parts) {s : State} {c : ℕ} (h : Moves F s₀ s) : Moves F s₀ (State.showFresh s c) := by
  unfold State.showFresh
  repeat' first
    | with_reducible assumption
    | exact hp.bit rfl
    | exact hp.sub rfl
    | with_reducible refine State.wr_moves ?_ ?_
    | with_reducible refine State.put_moves ?_ ?_
    | (extract_lets +onlyGivenNames t; refine Moves.cut (F := F) (s₀ := s₀) (t := t) ?_ (fun ht => ?_); rotate_left; (try clear_value t); rotate_left; subst t)

theorem State.markWritten_moves (hp : Sub 274877911040 F.parts) {s : State} {page : ℕ} (h : Moves F s₀ s) : Moves F s₀ (State.markWritten s page) := by
  unfold State.markWritten
  repeat' first
    | with_reducible assumption
    | exact hp.bit rfl
    | exact hp.sub rfl
    | with_reducible refine State.dr_moves ?_ ?_
    | with_reducible refine State.showFresh_moves ?_ ?_
    | (extract_lets +onlyGivenNames t; refine Moves.cut (F := F) (s₀ := s₀) (t := t) ?_ (fun ht => ?_); rotate_left; (try clear_value t); rotate_left; subst t)
    | split
    | simp (disch := first | exact hp.out rfl | with_reducible exact fun _ => rfl) only [Moves.mk_iff]

theorem State.eccLast_moves (hp : Sub 4096 F.parts) {s : State} {page : ℕ} {kind : ℕ} {syms : List (ℕ × ℕ)} {src : ℕ} (h : Moves F s₀ s) : Moves F s₀ (State.eccLast s page kind syms src) := by
  unfold State.eccLast
  repeat' first
    | with_reducible assumption
    | exact hp.bit rfl
    | exact hp.sub rfl
    | with_reducible refine State.wr_moves ?_ ?_
    | with_reducible refine State.put_moves ?_ ?_
    | (extract_lets +onlyGivenNames t; refine Moves.cut (F := F) (s₀ := s₀) (t := t) ?_ (fun ht => ?_); rotate_left; (try clear_value t); rotate_left; subst t)
    | (extract_lets +onlyGivenNames t; try clear_value t)
    | split

theorem State.noteRow_moves (hf : F.flash = true) {s : State} {c : ℕ} {p : ℕ} (h : Moves F s₀ s) : Moves F s₀ (State.noteRow s c p) := by
  unfold State.noteRow
  repeat' first
    | with_reducible assumption
    | simp only [Moves.flash_iff hf]
    | (extract_lets +onlyGivenNames t; refine Moves.cut (F := F) (s₀ := s₀) (t := t) ?_ (fun ht => ?_); rotate_left; (try clear_value t); rotate_left; subst t)
    | (extract_lets +onlyGivenNames t; try clear_value t)
    | split
    | simp (disch := first | exact hp.out rfl | with_reducible exact fun _ => rfl) only [Moves.mk_iff]

theorem State.eccCount_moves (hf : F.flash = true) (hp : Sub 2252074691596288 F.parts) {s : State} {page : ℕ} {src : ℕ} {d : Decoded} (h : Moves F s₀ s) : Moves F s₀ (State.eccCount s page src d) := by
  unfold State.eccCount
  repeat' first
    | with_reducible assumption
    | exact hp.bit rfl
    | exact hp.sub rfl
    | with_reducible refine State.eccLast_moves ?_ ?_
    | with_reducible refine State.count_moves ?_ ?_
    | with_reducible refine State.dr_moves ?_ ?_
    | with_reducible refine State.noteRow_moves hf ?_
    | with_reducible refine State.post_moves ?_ ?_
    | (extract_lets +onlyGivenNames t; refine Moves.cut (F := F) (s₀ := s₀) (t := t) ?_ (fun ht => ?_); rotate_left; (try clear_value t); rotate_left; subst t)
    | split
    | simp (disch := first | exact hp.out rfl | with_reducible exact fun _ => rfl) only [Moves.mk_iff]

theorem State.pageBytes_moves {s : State} {page : ℕ} {v : DramView} {d : Decoded} (h : Moves F s₀ s) : Moves F s₀ (State.pageBytes s page v d).2 := by
  unfold State.pageBytes
  repeat' first
    | with_reducible assumption
    | (extract_lets +onlyGivenNames t; refine Moves.cut (F := F) (s₀ := s₀) (t := t) ?_ (fun ht => ?_); rotate_left; (try clear_value t); rotate_left; subst t)
    | (extract_lets +onlyGivenNames t; try clear_value t)
    | split
    | dsimp only
    | with_reducible refine State.drawn_moves ?_
theorem State.pageBytes_moves' {s : State} {page : ℕ} {v : DramView} {d : Decoded} {r0 : List ℕ} {t : State} (e : State.pageBytes s page v d = (r0, t)) (h : Moves F s₀ s) : Moves F s₀ t := by
  have k := @State.pageBytes_moves F s₀ s page v d h
  rw [e] at k; exact k

theorem State.haltPart_moves (hk : F.keys = true) (hp : Sub 6758423102243072 F.parts) {s : State} {kind : ℕ} {pkind : ℕ} {key : ℕ} {src : ℕ} {addr : ℕ} (h : Moves F s₀ s) : Moves F s₀ (State.haltPart s kind pkind key src addr) := by
  unfold State.haltPart
  repeat' first
    | with_reducible assumption
    | exact hp.bit rfl
    | exact hp.sub rfl
    | exact Sub.mem (f := a) hp ha (by rfl)
    | with_reducible refine State.wr_moves ?_ ?_
    | with_reducible refine State.showKeys_moves ?_ ?_
    | with_reducible refine State.en_moves (fun _ => ⟨rfl, rfl⟩) ?_ ?_
    | with_reducible refine State.en_moves_keys hk ?_ ?_
    | with_reducible refine State.dr_moves ?_ ?_
    | with_reducible refine State.updPin_moves ?_ ?_
    | with_reducible refine State.post_moves ?_ ?_
    | with_reducible refine State.emit_moves ?_ ?_
    | with_reducible refine Moves.foldl ?_ (fun t a ha ht => ?_)
    | with_reducible refine Moves.foldl2 ?_ (fun y a ht => ?_)
    | with_reducible refine Moves.foldl1 ?_ (fun y a ht => ?_)
    | (extract_lets +onlyGivenNames t; refine Moves.cut (F := F) (s₀ := s₀) (t := t) ?_ (fun ht => ?_); rotate_left; (try clear_value t); rotate_left; subst t)
    | split
    | simp (disch := first | exact hp.out rfl | with_reducible exact fun _ => rfl) only [Moves.mk_iff]

theorem State.haltAt_moves (hk : F.keys = true) (hp : Sub 6758423102243072 F.parts) {s : State} {kind : ℕ} {page : ℕ} {src : ℕ} (h : Moves F s₀ s) : Moves F s₀ (State.haltAt s kind page src) := by
  unfold State.haltAt
  repeat' first
    | with_reducible assumption
    | exact hp.bit rfl
    | exact hp.sub rfl
    | with_reducible refine State.haltPart_moves hk ?_ ?_
    | split

theorem State.storePage_moves (hm : F.mem = true) (hp : Sub 9009260839064464 F.parts) {s : State} {page mask : ℕ} {data : List ℕ} {poison : Bool} {t : State}
    (e : State.storePage s page mask data poison = some t) (h : Moves F s₀ s) : Moves F s₀ t := by
  unfold State.storePage at e
  extract_lets +onlyGivenNames old s1 at e
  have h1 : Moves F s₀ s1 := State.journalPage_moves hm (hp.sub rfl) h
  clear_value s1
  split at e
  · cases e
  · rename_i t1 e1
    have h2 : Moves F s₀ t1 := State.raiseCounter_moves' (hp.sub rfl) e1 h1
    cases Option.some.inj e
    repeat' first
      | with_reducible assumption
      | exact hp.bit rfl
      | exact hp.sub rfl
      | (extract_lets +onlyGivenNames t; refine Moves.cut (F := F) (s₀ := s₀) (t := t) ?_ (fun ht => ?_); rotate_left; (try clear_value t); rotate_left; subst t)
      | (extract_lets +onlyGivenNames t; try clear_value t)
      | split
      | dsimp only
      | with_reducible refine State.journalPage_moves hm ?_ ?_
      | refine State.journalPage_moves' hm ?_ (by with_reducible assumption) ?_
      | with_reducible refine State.raiseCounter_moves ?_ ?_
      | refine State.raiseCounter_moves' ?_ (by with_reducible assumption) ?_
      | with_reducible refine State.storeMasked_moves hm ?_
      | refine State.storeMasked_moves' hm (by with_reducible assumption) ?_
      | with_reducible refine State.dr_moves ?_ ?_
      | refine State.dr_moves' ?_ (by with_reducible assumption) ?_
      | with_reducible refine State.markWritten_moves ?_ ?_
      | refine State.markWritten_moves' ?_ (by with_reducible assumption) ?_
      | with_reducible refine State.wr_moves ?_ ?_
      | refine State.wr_moves' ?_ (by with_reducible assumption) ?_
      | simp (disch := first | exact hp.out rfl | with_reducible exact fun _ => rfl) only [Moves.mk_iff]

theorem State.agentStore_moves (hm : F.mem = true) (hp : Sub 9009260839064464 F.parts) {s : State} {a : ℕ} {data : List ℕ} (h : Moves F s₀ s) :
    Moves F s₀ (State.agentStore s a data) := by
  unfold State.agentStore
  refine Moves.foldl h (fun t i _ ht => ?_)
  dsimp only
  rw [Option.getD.eq_def]
  split
  · rename_i e
    exact State.storePage_moves hm (hp.sub rfl) e ht
  · exact ht

theorem State.clearSpan_moves (hm : F.mem = true) (hp : Sub 274877911040 F.parts) {s : State} {sp : ℕ × ℕ} (h : Moves F s₀ s) : Moves F s₀ (State.clearSpan s sp) := by
  unfold State.clearSpan
  exact Moves.foldl (State.dr_moves (hp.sub rfl) (Moves.newMem hm (fun e => Tab.wf_filter natLt_order _ e) h)) (fun t c _ ht => State.showFresh_moves (hp.sub rfl) ht)

theorem State.clearDram_moves (hm : F.mem = true) (hp : Sub 274877911040 F.parts) {s : State} (h : Moves F s₀ s) : Moves F s₀ (State.clearDram s) := by
  unfold State.clearDram
  exact Moves.foldl (State.dr_moves (hp.sub rfl) (Moves.newMem hm (fun e => Tab.wf_filter natLt_order _ e) h)) (fun t c _ ht => State.showFresh_moves (hp.sub rfl) ht)

/-! ### QueueOps -/

theorem State.setQu_moves (hp : Sub 17592186044424 F.parts) {s : State} {q : ℕ} {x : Queue} (h : Moves F s₀ s) : Moves F s₀ (State.setQu s q x) := by
  unfold State.setQu
  repeat' first
    | with_reducible assumption
    | exact hp.bit rfl
    | exact hp.sub rfl
    | with_reducible refine State.cg_moves ?_ ?_
    | with_reducible refine State.wr_moves ?_ ?_
    | with_reducible refine State.put_moves ?_ ?_
    | (extract_lets +onlyGivenNames t; refine Moves.cut (F := F) (s₀ := s₀) (t := t) ?_ (fun ht => ?_); rotate_left; (try clear_value t); rotate_left; subst t)
    | simp (disch := first | exact hp.out rfl | with_reducible exact fun _ => rfl) only [Moves.mk_iff]

theorem State.updQu_moves (hp : Sub 17592186044424 F.parts) {s : State} {q : ℕ} {g : Queue → Queue} (h : Moves F s₀ s) : Moves F s₀ (State.updQu s q g) := by
  unfold State.updQu
  repeat' first
    | with_reducible assumption
    | exact hp.bit rfl
    | exact hp.sub rfl
    | with_reducible refine State.setQu_moves ?_ ?_

theorem State.haltQueue_moves (hp : Sub 8 F.parts) {s : State} {q : ℕ} {cause : ℕ} (h : Moves F s₀ s) : Moves F s₀ (State.haltQueue s q cause) := by
  unfold State.haltQueue
  repeat' first
    | with_reducible assumption
    | exact hp.bit rfl
    | exact hp.sub rfl
    | with_reducible refine State.wr_moves ?_ ?_

theorem State.trySwap_moves (hp : Sub 17592186044424 F.parts) {s : State} {q : ℕ} (h : Moves F s₀ s) : Moves F s₀ (State.trySwap s q) := by
  unfold State.trySwap
  repeat' first
    | with_reducible assumption
    | exact hp.bit rfl
    | exact hp.sub rfl
    | with_reducible refine State.setQu_moves ?_ ?_
    | with_reducible refine State.wr_moves ?_ ?_
    | (extract_lets +onlyGivenNames t; refine Moves.cut (F := F) (s₀ := s₀) (t := t) ?_ (fun ht => ?_); rotate_left; (try clear_value t); rotate_left; subst t)
    | (extract_lets +onlyGivenNames t; try clear_value t)
    | split
    | simp (disch := first | exact hp.out rfl | with_reducible exact fun _ => rfl) only [Moves.mk_iff]

theorem State.tryCopyBack_moves (hm : F.mem = true) (hp : Sub 17592186044424 F.parts) {s : State} {q : ℕ} (h : Moves F s₀ s) : Moves F s₀ (State.tryCopyBack s q) := by
  unfold State.tryCopyBack
  repeat' first
    | with_reducible assumption
    | exact hp.bit rfl
    | exact hp.sub rfl
    | with_reducible refine State.storeBytes_moves hm ?_
    | with_reducible refine State.setQu_moves ?_ ?_
    | (extract_lets +onlyGivenNames t; refine Moves.cut (F := F) (s₀ := s₀) (t := t) ?_ (fun ht => ?_); rotate_left; (try clear_value t); rotate_left; subst t)
    | (extract_lets +onlyGivenNames t; try clear_value t)
    | split
    | simp (disch := first | exact hp.out rfl | with_reducible exact fun _ => rfl) only [Moves.mk_iff]

theorem State.advance_moves (hm : F.mem = true) (hp : Sub 17592186044424 F.parts) {s : State} {q : ℕ} (h : Moves F s₀ s) : Moves F s₀ (State.advance s q) := by
  unfold State.advance
  repeat' first
    | with_reducible assumption
    | exact hp.bit rfl
    | exact hp.sub rfl
    | with_reducible refine State.trySwap_moves ?_ ?_
    | with_reducible refine State.tryCopyBack_moves hm ?_ ?_
    | with_reducible refine State.updQu_moves ?_ ?_

theorem State.startSpill_moves (hp : Sub 17592186044424 F.parts) {s : State} {q : ℕ} (h : Moves F s₀ s) : Moves F s₀ (State.startSpill s q) := by
  unfold State.startSpill
  repeat' first
    | with_reducible assumption
    | exact hp.bit rfl
    | exact hp.sub rfl
    | with_reducible refine State.setQu_moves ?_ ?_
    | (extract_lets +onlyGivenNames t; refine Moves.cut (F := F) (s₀ := s₀) (t := t) ?_ (fun ht => ?_); rotate_left; (try clear_value t); rotate_left; subst t)
    | (extract_lets +onlyGivenNames t; try clear_value t)
    | split
    | simp (disch := first | exact hp.out rfl | with_reducible exact fun _ => rfl) only [Moves.mk_iff]

theorem State.writeSlot_moves (hm : F.mem = true) (hp : Sub 13512860466434960 F.parts) {s : State} {q : ℕ} {p : QPkt} (h : Moves F s₀ s) : Moves F s₀ (State.writeSlot s q p) := by
  unfold State.writeSlot
  repeat' first
    | with_reducible assumption
    | exact hp.bit rfl
    | exact hp.sub rfl
    | with_reducible refine State.storeBytes_moves hm ?_
    | with_reducible refine State.agentStore_moves hm ?_ ?_
    | with_reducible refine State.emit_moves ?_ ?_
    | (extract_lets +onlyGivenNames t; refine Moves.cut (F := F) (s₀ := s₀) (t := t) ?_ (fun ht => ?_); rotate_left; (try clear_value t); rotate_left; subst t)
    | (extract_lets +onlyGivenNames t; try clear_value t)
    | split

theorem State.checkDrained_moves (hp : Sub 8 F.parts) {s : State} {q : ℕ} (h : Moves F s₀ s) : Moves F s₀ (State.checkDrained s q) := by
  unfold State.checkDrained
  repeat' first
    | with_reducible assumption
    | exact hp.bit rfl
    | exact hp.sub rfl
    | with_reducible refine State.wr_moves ?_ ?_
    | (extract_lets +onlyGivenNames t; refine Moves.cut (F := F) (s₀ := s₀) (t := t) ?_ (fun ht => ?_); rotate_left; (try clear_value t); rotate_left; subst t)
    | (extract_lets +onlyGivenNames t; try clear_value t)
    | split

theorem State.settleQu_moves (hp : Sub 17592186044424 F.parts) {s : State} {q : ℕ} (h : Moves F s₀ s) : Moves F s₀ (State.settleQu s q) := by
  unfold State.settleQu
  repeat' first
    | with_reducible assumption
    | exact hp.bit rfl
    | exact hp.sub rfl
    | with_reducible refine State.updQu_moves ?_ ?_
    | with_reducible refine State.checkDrained_moves ?_ ?_
    | (extract_lets +onlyGivenNames t; refine Moves.cut (F := F) (s₀ := s₀) (t := t) ?_ (fun ht => ?_); rotate_left; (try clear_value t); rotate_left; subst t)
    | split

theorem State.placeLine_moves (hm : F.mem = true) (hp : Sub 17592186044424 F.parts) {s : State} {q : ℕ} {bytes : List ℕ} {tag : QLine} (h : Moves F s₀ s) : Moves F s₀ (State.placeLine s q bytes tag) := by
  unfold State.placeLine
  repeat' first
    | with_reducible assumption
    | exact hp.bit rfl
    | exact hp.sub rfl
    | with_reducible refine State.storeBytes_moves hm ?_
    | with_reducible refine State.startSpill_moves ?_ ?_
    | with_reducible refine State.setQu_moves ?_ ?_
    | (extract_lets +onlyGivenNames t; refine Moves.cut (F := F) (s₀ := s₀) (t := t) ?_ (fun ht => ?_); rotate_left; (try clear_value t); rotate_left; subst t)
    | (extract_lets +onlyGivenNames t; try clear_value t)
    | simp (disch := first | exact hp.out rfl | with_reducible exact fun _ => rfl) only [Moves.mk_iff]

theorem State.closePkt_moves (hm : F.mem = true) (hp : Sub 13530452652479384 F.parts) {s : State} {q : ℕ} {trunc : Bool} (h : Moves F s₀ s) : Moves F s₀ (State.closePkt s q trunc) := by
  unfold State.closePkt
  repeat' first
    | with_reducible assumption
    | exact hp.bit rfl
    | exact hp.sub rfl
    | with_reducible refine State.count_moves ?_ ?_
    | with_reducible refine State.setQu_moves ?_ ?_
    | with_reducible refine State.wr_moves ?_ ?_
    | with_reducible refine State.writeSlot_moves hm ?_ ?_
    | with_reducible refine State.updQu_moves ?_ ?_
    | with_reducible refine State.placeLine_moves hm ?_ ?_
    | with_reducible refine State.settleQu_moves ?_ ?_
    | (extract_lets +onlyGivenNames t; refine Moves.cut (F := F) (s₀ := s₀) (t := t) ?_ (fun ht => ?_); rotate_left; (try clear_value t); rotate_left; subst t)
    | (extract_lets +onlyGivenNames t; try clear_value t)
    | split
    | simp (disch := first | exact hp.out rfl | with_reducible exact fun _ => rfl) only [Moves.mk_iff]

theorem State.openPacket_moves (hp : Sub 17592186044424 F.parts) {s : State} {q : ℕ} (h : Moves F s₀ s) : Moves F s₀ (State.openPacket s q) := by
  unfold State.openPacket
  repeat' first
    | with_reducible assumption
    | exact hp.bit rfl
    | exact hp.sub rfl
    | with_reducible refine State.setQu_moves ?_ ?_
    | with_reducible refine State.countWrap_moves ?_ ?_
    | (extract_lets +onlyGivenNames t; refine Moves.cut (F := F) (s₀ := s₀) (t := t) ?_ (fun ht => ?_); rotate_left; (try clear_value t); rotate_left; subst t)
    | (extract_lets +onlyGivenNames t; try clear_value t)
    | simp (disch := first | exact hp.out rfl | with_reducible exact fun _ => rfl) only [Moves.mk_iff]

theorem State.takeWord_moves (hm : F.mem = true) (hp : Sub 13530452652479384 F.parts) {s : State} {q : ℕ} {data : ℕ} {last : Bool} (h : Moves F s₀ s) : Moves F s₀ (State.takeWord s q data last).2 := by
  unfold State.takeWord
  repeat' first
    | with_reducible assumption
    | exact hp.bit rfl
    | exact hp.sub rfl
    | (extract_lets +onlyGivenNames t; refine Moves.cut (F := F) (s₀ := s₀) (t := t) ?_ (fun ht => ?_); rotate_left; (try clear_value t); rotate_left; subst t)
    | (extract_lets +onlyGivenNames t; try clear_value t)
    | split
    | dsimp only
    | with_reducible refine State.closePkt_moves hm ?_ ?_
    | with_reducible refine State.trySwap_moves ?_ ?_
    | with_reducible refine State.startSpill_moves ?_ ?_
    | with_reducible refine State.openPacket_moves ?_ ?_
    | with_reducible refine State.setQu_moves ?_ ?_
    | with_reducible refine State.placeLine_moves hm ?_ ?_
    | simp (disch := first | exact hp.out rfl | with_reducible exact fun _ => rfl) only [Moves.mk_iff]
theorem State.takeWord_moves' (hm : F.mem = true) (hp : Sub 13530452652479384 F.parts) {s : State} {q : ℕ} {data : ℕ} {last : Bool} {r0 : Take} {t : State} (e : State.takeWord s q data last = (r0, t)) (h : Moves F s₀ s) : Moves F s₀ t := by
  have k := @State.takeWord_moves F s₀ hm (hp.sub rfl) s q data last h
  rw [e] at k; exact k

theorem State.feed_moves (hm : F.mem = true) (hp : Sub 13530452652479384 F.parts) {s : State} {q : ℕ} {x2 : ℕ} (h : Moves F s₀ s) : Moves F s₀ (State.feed s q x2) := by
  induction x2 generalizing s q with
  | zero =>
    unfold State.feed
    repeat' first
      | with_reducible assumption
      | exact hp.bit rfl
      | exact hp.sub rfl
      | with_reducible refine State.takeWord_moves hm ?_ ?_
      | refine State.takeWord_moves' hm ?_ (by with_reducible assumption) ?_
      | with_reducible refine State.updQu_moves ?_ ?_
      | with_reducible refine State.haltQueue_moves ?_ ?_
      | split
      | simp (disch := first | exact hp.out rfl | with_reducible exact fun _ => rfl) only [Moves.mk_iff]
  | succ k ih =>
    unfold State.feed
    repeat' first
      | with_reducible assumption
      | with_reducible refine ih ?_
      | exact hp.bit rfl
      | exact hp.sub rfl
      | with_reducible refine State.takeWord_moves hm ?_ ?_
      | refine State.takeWord_moves' hm ?_ (by with_reducible assumption) ?_
      | with_reducible refine State.updQu_moves ?_ ?_
      | with_reducible refine State.haltQueue_moves ?_ ?_
      | split
      | simp (disch := first | exact hp.out rfl | with_reducible exact fun _ => rfl) only [Moves.mk_iff]

theorem State.moveOn_moves (hm : F.mem = true) (hp : Sub 13530452652479384 F.parts) {s : State} {q : ℕ} (h : Moves F s₀ s) : Moves F s₀ (State.moveOn s q) := by
  unfold State.moveOn
  repeat' first
    | with_reducible assumption
    | exact hp.bit rfl
    | exact hp.sub rfl
    | with_reducible refine State.settleQu_moves ?_ ?_
    | with_reducible refine State.feed_moves hm ?_ ?_
    | with_reducible refine State.checkDrained_moves ?_ ?_
    | split

theorem State.tellEnd_moves (hp : Sub 4503599627370496 F.parts) {s : State} {q : ℕ} (h : Moves F s₀ s) : Moves F s₀ (State.tellEnd s q) := by
  unfold State.tellEnd
  repeat' first
    | with_reducible assumption
    | exact hp.bit rfl
    | exact hp.sub rfl
    | with_reducible refine State.emit_moves ?_ ?_
    | (extract_lets +onlyGivenNames t; refine Moves.cut (F := F) (s₀ := s₀) (t := t) ?_ (fun ht => ?_); rotate_left; (try clear_value t); rotate_left; subst t)
    | split

theorem State.closeDown_moves (hp : Sub 4521191813414920 F.parts) {s : State} {q : ℕ} (h : Moves F s₀ s) : Moves F s₀ (State.closeDown s q) := by
  unfold State.closeDown
  repeat' first
    | with_reducible assumption
    | exact hp.bit rfl
    | exact hp.sub rfl
    | with_reducible refine State.setQu_moves ?_ ?_
    | with_reducible refine State.countWrap_moves ?_ ?_
    | with_reducible refine State.trySwap_moves ?_ ?_
    | with_reducible refine State.tellEnd_moves ?_ ?_
    | with_reducible refine State.count_moves ?_ ?_
    | (extract_lets +onlyGivenNames t; refine Moves.cut (F := F) (s₀ := s₀) (t := t) ?_ (fun ht => ?_); rotate_left; (try clear_value t); rotate_left; subst t)
    | (extract_lets +onlyGivenNames t; try clear_value t)
    | split
    | simp (disch := first | exact hp.out rfl | with_reducible exact fun _ => rfl) only [Moves.mk_iff]

theorem State.openDown_moves (hp : Sub 17592186044424 F.parts) {s : State} {q : ℕ} {len : ℕ} (h : Moves F s₀ s) : Moves F s₀ (State.openDown s q len) := by
  unfold State.openDown
  repeat' first
    | with_reducible assumption
    | exact hp.bit rfl
    | exact hp.sub rfl
    | with_reducible refine State.updQu_moves ?_ ?_
    | with_reducible refine State.countWrap_moves ?_ ?_
    | (extract_lets +onlyGivenNames t; refine Moves.cut (F := F) (s₀ := s₀) (t := t) ?_ (fun ht => ?_); rotate_left; (try clear_value t); rotate_left; subst t)
    | (extract_lets +onlyGivenNames t; try clear_value t)
    | simp (disch := first | exact hp.out rfl | with_reducible exact fun _ => rfl) only [Moves.mk_iff]

theorem State.directPacket_moves (hm : F.mem = true) (hp : Sub 4521191813414920 F.parts) {s : State} {q : ℕ} {len : ℕ} (h : Moves F s₀ s) : Moves F s₀ (State.directPacket s q len) := by
  unfold State.directPacket
  repeat' first
    | with_reducible assumption
    | exact hp.bit rfl
    | exact hp.sub rfl
    | with_reducible refine State.openDown_moves ?_ ?_
    | with_reducible refine State.updQu_moves ?_ ?_
    | with_reducible refine State.storeBytes_moves hm ?_
    | with_reducible refine State.closeDown_moves ?_ ?_
    | with_reducible refine State.setQu_moves ?_ ?_
    | (extract_lets +onlyGivenNames t; refine Moves.cut (F := F) (s₀ := s₀) (t := t) ?_ (fun ht => ?_); rotate_left; (try clear_value t); rotate_left; subst t)
    | (extract_lets +onlyGivenNames t; try clear_value t)
    | split
    | simp (disch := first | exact hp.out rfl | with_reducible exact fun _ => rfl) only [Moves.mk_iff]

theorem State.finishDown_moves (hp : Sub 17592186044424 F.parts) {s : State} {q : ℕ} {p : QPkt} (h : Moves F s₀ s) : Moves F s₀ (State.finishDown s q p) := by
  unfold State.finishDown
  repeat' first
    | with_reducible assumption
    | exact hp.bit rfl
    | exact hp.sub rfl
    | with_reducible refine State.updQu_moves ?_ ?_
    | with_reducible refine State.checkDrained_moves ?_ ?_
    | (extract_lets +onlyGivenNames t; refine Moves.cut (F := F) (s₀ := s₀) (t := t) ?_ (fun ht => ?_); rotate_left; (try clear_value t); rotate_left; subst t)
    | split
    | simp (disch := first | exact hp.out rfl | with_reducible exact fun _ => rfl) only [Moves.mk_iff]

theorem State.popWord_moves (hm : F.mem = true) (hp : Sub 9026028391367576 F.parts) {s : State} {q : ℕ} {r : (ℕ × Bool) × State} (e : State.popWord s q = some r) (h : Moves F s₀ s) :
    Moves F s₀ r.2 := by
  unfold State.popWord at e
  extract_lets +onlyGivenNames w at e
  clear_value w
  split at e
  · obtain ⟨word, -, rfl⟩ := Option.map_eq_some_iff.1 e
    repeat' first
      | with_reducible assumption
      | exact hp.bit rfl
      | exact hp.sub rfl
      | (extract_lets +onlyGivenNames t; refine Moves.cut (F := F) (s₀ := s₀) (t := t) ?_ (fun ht => ?_); rotate_left; (try clear_value t); rotate_left; subst t)
      | (extract_lets +onlyGivenNames t; try clear_value t)
      | split
      | dsimp only
      | with_reducible refine State.setQu_moves ?_ ?_
      | refine State.setQu_moves' ?_ (by with_reducible assumption) ?_
      | with_reducible refine State.smp_moves ?_ ?_
      | refine State.smp_moves' ?_ (by with_reducible assumption) ?_
      | with_reducible refine State.finishDown_moves ?_ ?_
      | refine State.finishDown_moves' ?_ (by with_reducible assumption) ?_
      | with_reducible refine State.put_moves ?_ ?_
      | refine State.put_moves' ?_ (by with_reducible assumption) ?_
      | with_reducible refine State.advance_moves hm ?_ ?_
      | refine State.advance_moves' hm ?_ (by with_reducible assumption) ?_
      | with_reducible refine State.logRecord_moves ?_ ?_
      | refine State.logRecord_moves' ?_ (by with_reducible assumption) ?_
      | with_reducible refine State.wr_moves ?_ ?_
      | refine State.wr_moves' ?_ (by with_reducible assumption) ?_
      | simp (disch := first | exact hp.out rfl | with_reducible exact fun _ => rfl) only [Moves.mk_iff]
  · extract_lets +onlyGivenNames t at e
    have ht : Moves F s₀ t := State.advance_moves hm (hp.sub rfl) h
    clear_value t
    split at e
    · cases e
    · split at e
      · cases e
      · obtain ⟨word, -, rfl⟩ := Option.map_eq_some_iff.1 e
        repeat' first
          | with_reducible assumption
          | exact hp.bit rfl
          | exact hp.sub rfl
          | (extract_lets +onlyGivenNames t; refine Moves.cut (F := F) (s₀ := s₀) (t := t) ?_ (fun ht => ?_); rotate_left; (try clear_value t); rotate_left; subst t)
          | (extract_lets +onlyGivenNames t; try clear_value t)
          | split
          | dsimp only
          | with_reducible refine State.setQu_moves ?_ ?_
          | refine State.setQu_moves' ?_ (by with_reducible assumption) ?_
          | with_reducible refine State.smp_moves ?_ ?_
          | refine State.smp_moves' ?_ (by with_reducible assumption) ?_
          | with_reducible refine State.finishDown_moves ?_ ?_
          | refine State.finishDown_moves' ?_ (by with_reducible assumption) ?_
          | with_reducible refine State.put_moves ?_ ?_
          | refine State.put_moves' ?_ (by with_reducible assumption) ?_
          | with_reducible refine State.advance_moves hm ?_ ?_
          | refine State.advance_moves' hm ?_ (by with_reducible assumption) ?_
          | with_reducible refine State.logRecord_moves ?_ ?_
          | refine State.logRecord_moves' ?_ (by with_reducible assumption) ?_
          | with_reducible refine State.wr_moves ?_ ?_
          | refine State.wr_moves' ?_ (by with_reducible assumption) ?_
          | simp (disch := first | exact hp.out rfl | with_reducible exact fun _ => rfl) only [Moves.mk_iff]
theorem State.popWord_moves' (hm : F.mem = true) (hp : Sub 9026028391367576 F.parts) {s : State} {q : ℕ} {w : ℕ × Bool} {t : State} (e : State.popWord s q = some (w, t)) (h : Moves F s₀ s) :
    Moves F s₀ t := State.popWord_moves hm (hp.sub rfl) e h

theorem State.dropTaken_moves (hm : F.mem = true) (hp : Sub 17729624997896 F.parts) {s : State} {q : ℕ} {notice : Bool} (h : Moves F s₀ s) : Moves F s₀ (State.dropTaken s q notice) := by
  unfold State.dropTaken
  repeat' first
    | with_reducible assumption
    | exact hp.bit rfl
    | exact hp.sub rfl
    | with_reducible refine State.smp_moves ?_ ?_
    | with_reducible refine State.setQu_moves ?_ ?_
    | with_reducible refine State.put_moves ?_ ?_
    | with_reducible refine State.finishDown_moves ?_ ?_
    | with_reducible refine State.wr_moves ?_ ?_
    | with_reducible refine State.advance_moves hm ?_ ?_
    | (extract_lets +onlyGivenNames t; refine Moves.cut (F := F) (s₀ := s₀) (t := t) ?_ (fun ht => ?_); rotate_left; (try clear_value t); rotate_left; subst t)
    | (extract_lets +onlyGivenNames t; try clear_value t)
    | split
    | simp (disch := first | exact hp.out rfl | with_reducible exact fun _ => rfl) only [Moves.mk_iff]

theorem State.openLink_moves (hp : Sub 17592186044416 F.parts) {s : State} {n : ℕ} {b : ℕ} (h : Moves F s₀ s) : Moves F s₀ (State.openLink s n b) := by
  unfold State.openLink
  repeat' first
    | with_reducible assumption
    | exact hp.bit rfl
    | exact hp.sub rfl
    | with_reducible refine State.setBinEnd_moves ?_ ?_

theorem State.endReset_moves (hm : F.mem = true) (hp : Sub 13530452652479384 F.parts) {s : State} {x1 : QueueEnd} (h : Moves F s₀ s) : Moves F s₀ (State.endReset s x1) := by
  unfold State.endReset
  repeat' first
    | with_reducible assumption
    | exact hp.bit rfl
    | exact hp.sub rfl
    | exact Sub.mem (f := a) hp ha (by rfl)
    | with_reducible refine State.updQu_moves ?_ ?_
    | with_reducible refine State.closePkt_moves hm ?_ ?_
    | with_reducible refine State.dropTaken_moves hm ?_ ?_
    | with_reducible refine State.openLink_moves ?_ ?_
    | with_reducible refine Moves.foldl ?_ (fun t a ha ht => ?_)
    | (extract_lets +onlyGivenNames t; refine Moves.cut (F := F) (s₀ := s₀) (t := t) ?_ (fun ht => ?_); rotate_left; (try clear_value t); rotate_left; subst t)
    | split
    | simp (disch := first | exact hp.out rfl | with_reducible exact fun _ => rfl) only [Moves.mk_iff]

theorem State.resendNotices_moves (hp : Sub 4503599627370496 F.parts) {s : State} {x1 : ℕ} (h : Moves F s₀ s) : Moves F s₀ (State.resendNotices s x1) := by
  unfold State.resendNotices
  repeat' first
    | with_reducible assumption
    | exact hp.bit rfl
    | exact hp.sub rfl
    | exact Sub.mem (f := a) hp ha (by rfl)
    | with_reducible refine State.tellEnd_moves ?_ ?_
    | with_reducible refine Moves.foldl ?_ (fun t a ha ht => ?_)

theorem State.checkBinEnds_moves (hp : Sub 8 F.parts) {s : State} {n : ℕ} (h : Moves F s₀ s) : Moves F s₀ (State.checkBinEnds s n) := by
  unfold State.checkBinEnds
  repeat' first
    | with_reducible assumption
    | exact hp.bit rfl
    | exact hp.sub rfl
    | exact Sub.mem (f := a) hp ha (by rfl)
    | with_reducible refine State.haltQueue_moves ?_ ?_
    | with_reducible refine Moves.foldl ?_ (fun t a ha ht => ?_)
    | (extract_lets +onlyGivenNames t; refine Moves.cut (F := F) (s₀ := s₀) (t := t) ?_ (fun ht => ?_); rotate_left; (try clear_value t); rotate_left; subst t)
    | (extract_lets +onlyGivenNames t; try clear_value t)
    | split

theorem State.abandonOpen_moves (hp : Sub 17592186044424 F.parts) {s : State} {q : ℕ} (h : Moves F s₀ s) : Moves F s₀ (State.abandonOpen s q) := by
  unfold State.abandonOpen
  repeat' first
    | with_reducible assumption
    | exact hp.bit rfl
    | exact hp.sub rfl
    | with_reducible refine State.setQu_moves ?_ ?_
    | with_reducible refine State.wr_moves ?_ ?_
    | (extract_lets +onlyGivenNames t; refine Moves.cut (F := F) (s₀ := s₀) (t := t) ?_ (fun ht => ?_); rotate_left; (try clear_value t); rotate_left; subst t)
    | (extract_lets +onlyGivenNames t; try clear_value t)
    | split
    | simp (disch := first | exact hp.out rfl | with_reducible exact fun _ => rfl) only [Moves.mk_iff]

theorem State.queuesDrop_moves (hm : F.mem = true) (hp : Sub 17729624997896 F.parts) {s : State} (h : Moves F s₀ s) : Moves F s₀ (State.queuesDrop s) := by
  unfold State.queuesDrop
  repeat' first
    | with_reducible assumption
    | exact hp.bit rfl
    | exact hp.sub rfl
    | exact Sub.mem (f := a) hp ha (by rfl)
    | with_reducible refine State.dropTaken_moves hm ?_ ?_
    | with_reducible refine Moves.foldl ?_ (fun t a ha ht => ?_)
    | split

theorem State.queuesRestore_moves (hp : Sub 17592186044424 F.parts) {s : State} {seqs : List (ℕ × ℕ)} {rewind : Bool} (h : Moves F s₀ s) : Moves F s₀ (State.queuesRestore s seqs rewind) := by
  unfold State.queuesRestore
  repeat' first
    | with_reducible assumption
    | exact hp.bit rfl
    | exact hp.sub rfl
    | exact Sub.mem (f := a) hp ha (by rfl)
    | with_reducible refine State.abandonOpen_moves ?_ ?_
    | with_reducible refine State.wr_moves ?_ ?_
    | with_reducible refine State.put_moves ?_ ?_
    | with_reducible refine Moves.foldl ?_ (fun t a ha ht => ?_)
    | (extract_lets +onlyGivenNames t; refine Moves.cut (F := F) (s₀ := s₀) (t := t) ?_ (fun ht => ?_); rotate_left; (try clear_value t); rotate_left; subst t)
    | (extract_lets +onlyGivenNames t; try clear_value t)
    | split

end Sys2Proof.Machine
end

