-- ==== Sys2Proof/Laws/MovesD.lean ====
section
/-! SUPPORT. What each operation and meaning of these files may do to the state as a whole (see Moves.lean):
BinLink, Cage, Crews, EngineReset, IoOps, StopeOps, Loader. -/

namespace Sys2Proof.Machine

set_option linter.unusedTactic false
set_option linter.unreachableTactic false
set_option linter.unusedVariables false
set_option linter.tactic.unusedName false

variable {F : Foot} {s₀ : State}

/-! ### BinLink -/

theorem State.binMoved_moves (hp : Sub 13510936321065232 F.parts) {s : State} {n : ℕ} {b : ℕ} {old : ℕ} {d : ℤ} (h : Moves F s₀ s) : Moves F s₀ (State.binMoved s n b old d) := by
  unfold State.binMoved
  repeat' first
    | with_reducible assumption
    | exact hp.bit rfl
    | exact hp.sub rfl
    | with_reducible refine State.smp_moves ?_ ?_
    | with_reducible refine State.levelCheck_moves ?_ ?_
    | split
    | simp (disch := first | exact hp.out rfl | with_reducible exact fun _ => rfl) only [Moves.mk_iff]

theorem State.binUpMove_moves (hp : Sub 15780354090599312 F.parts) {s : State} {n : ℕ} {b : ℕ} (h : Moves F s₀ s) : Moves F s₀ (State.binUpMove s n b) := by
  unfold State.binUpMove
  repeat' first
    | with_reducible assumption
    | exact hp.bit rfl
    | exact hp.sub rfl
    | with_reducible refine State.queuePop_moves ?_ ?_
    | refine State.queuePop_moves' ?_ (by with_reducible assumption) ?_
    | with_reducible refine State.binMoved_moves ?_ ?_
    | with_reducible refine State.setBinEnd_moves ?_ ?_
    | (extract_lets +onlyGivenNames t; refine Moves.cut (F := F) (s₀ := s₀) (t := t) ?_ (fun ht => ?_); rotate_left; (try clear_value t); rotate_left; subst t)
    | (extract_lets +onlyGivenNames t; try clear_value t)
    | split
    | simp (disch := first | exact hp.out rfl | with_reducible exact fun _ => rfl) only [Moves.mk_iff]

theorem State.binDownMove_moves (hu : F.fabMem = true) (hp : Sub 15780354090599312 F.parts) {s : State} {n : ℕ} {b : ℕ} (h : Moves F s₀ s) : Moves F s₀ (State.binDownMove s n b) := by
  unfold State.binDownMove
  repeat' first
    | with_reducible assumption
    | exact hp.bit rfl
    | exact hp.sub rfl
    | with_reducible refine State.binMoved_moves ?_ ?_
    | with_reducible refine State.queuePush_moves hu ?_ ?_
    | with_reducible refine State.setBinEnd_moves ?_ ?_
    | (extract_lets +onlyGivenNames t; refine Moves.cut (F := F) (s₀ := s₀) (t := t) ?_ (fun ht => ?_); rotate_left; (try clear_value t); rotate_left; subst t)
    | (extract_lets +onlyGivenNames t; try clear_value t)
    | split
    | simp (disch := first | exact hp.out rfl | with_reducible exact fun _ => rfl) only [Moves.mk_iff]

theorem State.binSend_moves (hm : F.mem = true) (hp : Sub 9026028391367576 F.parts) {s : State} {q : ℕ} {n : ℕ} {b : ℕ} {x4 : ℕ} (h : Moves F s₀ s) : Moves F s₀ (State.binSend s q n b x4) := by
  induction x4 generalizing s q n b with
  | zero =>
    unfold State.binSend
    repeat' first
      | with_reducible assumption
      | exact hp.bit rfl
      | exact hp.sub rfl
      | refine State.popWord_moves' hm ?_ (by with_reducible assumption) ?_
      | with_reducible refine State.setBinEnd_moves ?_ ?_
      | (extract_lets +onlyGivenNames t; refine Moves.cut (F := F) (s₀ := s₀) (t := t) ?_ (fun ht => ?_); rotate_left; (try clear_value t); rotate_left; subst t)
      | (extract_lets +onlyGivenNames t; try clear_value t)
      | split
      | simp (disch := first | exact hp.out rfl | with_reducible exact fun _ => rfl) only [Moves.mk_iff]
  | succ k ih =>
    unfold State.binSend
    repeat' first
      | with_reducible assumption
      | with_reducible refine ih ?_
      | exact hp.bit rfl
      | exact hp.sub rfl
      | refine State.popWord_moves' hm ?_ (by with_reducible assumption) ?_
      | with_reducible refine State.setBinEnd_moves ?_ ?_
      | (extract_lets +onlyGivenNames t; refine Moves.cut (F := F) (s₀ := s₀) (t := t) ?_ (fun ht => ?_); rotate_left; (try clear_value t); rotate_left; subst t)
      | (extract_lets +onlyGivenNames t; try clear_value t)
      | split
      | simp (disch := first | exact hp.out rfl | with_reducible exact fun _ => rfl) only [Moves.mk_iff]

theorem State.binLink_moves (hm : F.mem = true) (hp : Sub 13530452652479384 F.parts) {s : State} {n : ℕ} {b : ℕ} {error : Bool} (h : Moves F s₀ s) : Moves F s₀ (State.binLink s n b error) := by
  unfold State.binLink
  repeat' first
    | with_reducible assumption
    | exact hp.bit rfl
    | exact hp.sub rfl
    | with_reducible refine State.haltQueue_moves ?_ ?_
    | with_reducible refine State.moveOn_moves hm ?_ ?_
    | with_reducible refine State.updQu_moves ?_ ?_
    | with_reducible refine State.setBinEnd_moves ?_ ?_
    | with_reducible refine State.binSend_moves hm ?_ ?_
    | (extract_lets +onlyGivenNames t; refine Moves.cut (F := F) (s₀ := s₀) (t := t) ?_ (fun ht => ?_); rotate_left; (try clear_value t); rotate_left; subst t)
    | (extract_lets +onlyGivenNames t; try clear_value t)
    | split
    | simp (disch := first | exact hp.out rfl | with_reducible exact fun _ => rfl) only [Moves.mk_iff]

/-! ### Cage -/

theorem State.cgErr_moves (hp : Sub 4503608217305089 F.parts) {s : State} {f : Fld} (hq : F.parts.testBit f.blk.code = true)  (h : Moves F s₀ s) : Moves F s₀ (State.cgErr s f) := by
  unfold State.cgErr
  repeat' first
    | with_reducible assumption
    | exact hp.bit rfl
    | exact hp.sub rfl
    | with_reducible refine State.wr_moves ?_ ?_
    | with_reducible refine State.requestVector_moves ?_ ?_
    | (extract_lets +onlyGivenNames t; refine Moves.cut (F := F) (s₀ := s₀) (t := t) ?_ (fun ht => ?_); rotate_left; (try clear_value t); rotate_left; subst t)
    | (extract_lets +onlyGivenNames t; try clear_value t)
    | split

theorem execPerstRelease_moves (hp : Sub 4294967296 F.parts) {s : State} {t : State} (e : execPerstRelease s = .next t) (h : Moves F s₀ s) : Moves F s₀ t := by
  unfold execPerstRelease at e
  try dsimp only at e
  cases Host.Outcome.next.inj e
  repeat' first
    | with_reducible assumption
    | exact hp.bit rfl
    | exact hp.sub rfl
    | simp (disch := first | exact hp.out rfl | with_reducible exact fun _ => rfl) only [Moves.mk_iff]

theorem execDataLinkUp_moves (hp : Sub 6755408030990337 F.parts) {speed : ℕ} {width : ℕ} {flit : Bool} {s : State} {t : State} (e : execDataLinkUp speed width flit s = .next t) (h : Moves F s₀ s) : Moves F s₀ t := by
  unfold execDataLinkUp at e
  try dsimp only at e
  cases Host.Outcome.next.inj e
  repeat' first
    | with_reducible assumption
    | exact hp.bit rfl
    | exact hp.sub rfl
    | with_reducible refine State.put_moves ?_ ?_
    | with_reducible refine State.wr_moves ?_ ?_
    | with_reducible refine State.flushPending_moves ?_ ?_
    | with_reducible refine State.post_moves ?_ ?_
    | (extract_lets +onlyGivenNames t; refine Moves.cut (F := F) (s₀ := s₀) (t := t) ?_ (fun ht => ?_); rotate_left; (try clear_value t); rotate_left; subst t)
    | (extract_lets +onlyGivenNames t; try clear_value t)
    | split

theorem State.configRead_moves {s : State} {x1 : ConfigOp} (h : Moves F s₀ s) : Moves F s₀ (State.configRead s x1).2 := by
  unfold State.configRead
  repeat' first
    | with_reducible assumption
    | (extract_lets +onlyGivenNames t; refine Moves.cut (F := F) (s₀ := s₀) (t := t) ?_ (fun ht => ?_); rotate_left; (try clear_value t); rotate_left; subst t)
    | (extract_lets +onlyGivenNames t; try clear_value t)
    | split
    | dsimp only
    | with_reducible refine State.drawn_moves ?_
    | with_reducible refine Moves.foldl ?_ (fun t a ha ht => ?_)
    | with_reducible refine Moves.foldl2 ?_ (fun y a ht => ?_)
    | with_reducible refine Moves.foldl1 ?_ (fun y a ht => ?_)
    | simp (disch := first | exact hp.out rfl | with_reducible exact fun _ => rfl) only [Moves.mk_iff]
theorem State.configRead_moves' {s : State} {x1 : ConfigOp} {r0 : ℕ} {t : State} (e : State.configRead s x1 = (r0, t)) (h : Moves F s₀ s) : Moves F s₀ t := by
  have k := @State.configRead_moves F s₀ s x1 h
  rw [e] at k; exact k

theorem State.configWrite_moves (hp : Sub 4521200403349505 F.parts) {s : State} {x1 : ConfigOp} (h : Moves F s₀ s) : Moves F s₀ (State.configWrite s x1) := by
  unfold State.configWrite
  repeat' first
    | with_reducible assumption
    | exact hp.bit rfl
    | exact hp.sub rfl
    | with_reducible refine State.flushPending_moves ?_ ?_
    | with_reducible refine State.put_moves ?_ ?_
    | with_reducible refine State.cg_moves ?_ ?_
    | with_reducible refine State.wr_moves ?_ ?_
    | (extract_lets +onlyGivenNames t; refine Moves.cut (F := F) (s₀ := s₀) (t := t) ?_ (fun ht => ?_); rotate_left; (try clear_value t); rotate_left; subst t)
    | split
    | simp (disch := first | exact hp.out rfl | with_reducible exact fun _ => rfl) only [Moves.mk_iff]

theorem execConfigRequest_moves (hp : Sub 4521200403349505 F.parts) {op : ConfigOp} {s : State} {t : State} (e : execConfigRequest op s = .next t) (h : Moves F s₀ s) : Moves F s₀ t := by
  unfold execConfigRequest at e
  try dsimp only at e
  cases Host.Outcome.next.inj e
  repeat' first
    | with_reducible assumption
    | exact hp.bit rfl
    | exact hp.sub rfl
    | with_reducible refine State.emit_moves ?_ ?_
    | with_reducible refine State.configRead_moves ?_
    | refine State.configRead_moves' (by with_reducible assumption) ?_
    | with_reducible refine State.configWrite_moves ?_ ?_
    | (extract_lets +onlyGivenNames t; refine Moves.cut (F := F) (s₀ := s₀) (t := t) ?_ (fun ht => ?_); rotate_left; (try clear_value t); rotate_left; subst t)
    | split

theorem execBaseTimeout_moves (hp : Sub 1 F.parts) {s : State} {t : State} (e : execBaseTimeout s = .next t) (h : Moves F s₀ s) : Moves F s₀ t := by
  unfold execBaseTimeout at e
  try dsimp only at e
  cases Host.Outcome.next.inj e
  repeat' first
    | with_reducible assumption
    | exact hp.bit rfl
    | exact hp.sub rfl
    | with_reducible refine State.wr_moves ?_ ?_
    | split

theorem execLinkDown_moves (hp : Sub 17600775979017 F.parts) {s : State} {t : State} (e : execLinkDown s = .next t) (h : Moves F s₀ s) : Moves F s₀ t := by
  unfold execLinkDown at e
  try dsimp only at e
  cases Host.Outcome.next.inj e
  repeat' first
    | with_reducible assumption
    | exact hp.bit rfl
    | exact hp.sub rfl
    | exact Sub.mem (f := a) hp ha (by rfl)
    | with_reducible refine State.wr_moves ?_ ?_
    | with_reducible refine State.count_moves ?_ ?_
    | with_reducible refine State.cg_moves ?_ ?_
    | with_reducible refine State.updQu_moves ?_ ?_
    | with_reducible refine State.haltQueue_moves ?_ ?_
    | with_reducible refine Moves.foldl ?_ (fun t a ha ht => ?_)
    | (extract_lets +onlyGivenNames t; refine Moves.cut (F := F) (s₀ := s₀) (t := t) ?_ (fun ht => ?_); rotate_left; (try clear_value t); rotate_left; subst t)
    | split
    | simp (disch := first | exact hp.out rfl | with_reducible exact fun _ => rfl) only [Moves.mk_iff]

theorem State.sendLine_moves (hp : Sub 4521200403349513 F.parts) {s : State} {q : ℕ} {ue : Bool} (h : Moves F s₀ s) : Moves F s₀ (State.sendLine s q ue).2 := by
  unfold State.sendLine
  repeat' first
    | with_reducible assumption
    | exact hp.bit rfl
    | exact hp.sub rfl
    | (extract_lets +onlyGivenNames t; refine Moves.cut (F := F) (s₀ := s₀) (t := t) ?_ (fun ht => ?_); rotate_left; (try clear_value t); rotate_left; subst t)
    | (extract_lets +onlyGivenNames t; try clear_value t)
    | split
    | dsimp only
    | with_reducible refine State.emit_moves ?_ ?_
    | with_reducible refine State.countWrap_moves ?_ ?_
    | with_reducible refine State.setQu_moves ?_ ?_
    | with_reducible refine State.wr_moves ?_ ?_
    | with_reducible refine State.cgErr_moves ?_ ?_ ?_
    | simp (disch := first | exact hp.out rfl | with_reducible exact fun _ => rfl) only [Moves.mk_iff]
theorem State.sendLine_moves' (hp : Sub 4521200403349513 F.parts) {s : State} {q : ℕ} {ue : Bool} {r0 : Bool} {t : State} (e : State.sendLine s q ue = (r0, t)) (h : Moves F s₀ s) : Moves F s₀ t := by
  have k := @State.sendLine_moves F s₀ (hp.sub rfl) s q ue h
  rw [e] at k; exact k

theorem State.sendLines_moves (hp : Sub 4521200403349513 F.parts) {s : State} {q : ℕ} {ue : Bool} {x3 : ℕ} (h : Moves F s₀ s) : Moves F s₀ (State.sendLines s q ue x3) := by
  induction x3 generalizing s q ue with
  | zero =>
    unfold State.sendLines
    repeat' first
      | with_reducible assumption
      | exact hp.bit rfl
      | exact hp.sub rfl
      | with_reducible refine State.sendLine_moves ?_ ?_
      | refine State.sendLine_moves' ?_ (by with_reducible assumption) ?_
      | (extract_lets +onlyGivenNames t; refine Moves.cut (F := F) (s₀ := s₀) (t := t) ?_ (fun ht => ?_); rotate_left; (try clear_value t); rotate_left; subst t)
      | split
  | succ k ih =>
    unfold State.sendLines
    repeat' first
      | with_reducible assumption
      | with_reducible refine ih ?_
      | exact hp.bit rfl
      | exact hp.sub rfl
      | with_reducible refine State.sendLine_moves ?_ ?_
      | refine State.sendLine_moves' ?_ (by with_reducible assumption) ?_
      | (extract_lets +onlyGivenNames t; refine Moves.cut (F := F) (s₀ := s₀) (t := t) ?_ (fun ht => ?_); rotate_left; (try clear_value t); rotate_left; subst t)
      | split

theorem State.readRun_moves (hp : Sub 4503599627370496 F.parts) {s : State} {q : ℕ} {pos : ℕ} {len : ℕ} {x4 : ℕ} (h : Moves F s₀ s) : Moves F s₀ (State.readRun s q pos len x4) := by
  induction x4 generalizing s q pos len with
  | zero =>
    unfold State.readRun
    repeat' first
      | with_reducible assumption
      | exact hp.bit rfl
      | exact hp.sub rfl
      | with_reducible refine State.emit_moves ?_ ?_
      | (extract_lets +onlyGivenNames t; refine Moves.cut (F := F) (s₀ := s₀) (t := t) ?_ (fun ht => ?_); rotate_left; (try clear_value t); rotate_left; subst t)
      | (extract_lets +onlyGivenNames t; try clear_value t)
      | split
  | succ k ih =>
    unfold State.readRun
    repeat' first
      | with_reducible assumption
      | with_reducible refine ih ?_
      | exact hp.bit rfl
      | exact hp.sub rfl
      | with_reducible refine State.emit_moves ?_ ?_
      | (extract_lets +onlyGivenNames t; refine Moves.cut (F := F) (s₀ := s₀) (t := t) ?_ (fun ht => ?_); rotate_left; (try clear_value t); rotate_left; subst t)
      | (extract_lets +onlyGivenNames t; try clear_value t)
      | split

theorem execDmaTurn_moves (hm : F.mem = true) (hp : Sub 13530461242413977 F.parts) {corrected : ℕ} {uncorrectable : Bool} {s : State} {t : State} (e : execDmaTurn corrected uncorrectable s = .next t) (h : Moves F s₀ s) : Moves F s₀ t := by
  unfold execDmaTurn at e
  try dsimp only at e
  cases Host.Outcome.next.inj e
  repeat' first
    | with_reducible assumption
    | exact hp.bit rfl
    | exact hp.sub rfl
    | with_reducible refine State.cg_moves ?_ ?_
    | with_reducible refine State.emit_moves ?_ ?_
    | with_reducible refine State.count_moves ?_ ?_
    | with_reducible refine State.cgErr_moves ?_ ?_ ?_
    | with_reducible refine State.moveOn_moves hm ?_ ?_
    | with_reducible refine State.sendLines_moves ?_ ?_
    | with_reducible refine State.advance_moves hm ?_ ?_
    | with_reducible refine State.openDown_moves ?_ ?_
    | with_reducible refine State.readRun_moves ?_ ?_
    | with_reducible refine State.setQu_moves ?_ ?_
    | (extract_lets +onlyGivenNames t; refine Moves.cut (F := F) (s₀ := s₀) (t := t) ?_ (fun ht => ?_); rotate_left; (try clear_value t); rotate_left; subst t)
    | (extract_lets +onlyGivenNames t; try clear_value t)
    | split
    | simp (disch := first | exact hp.out rfl | with_reducible exact fun _ => rfl) only [Moves.mk_iff]

theorem State.fetchedLine_moves (hm : F.mem = true) (hp : Sub 4521191813414920 F.parts) {s : State} {q : ℕ} {bytes : List ℕ} {poison : Bool} (h : Moves F s₀ s) : Moves F s₀ (State.fetchedLine s q bytes poison) := by
  unfold State.fetchedLine
  repeat' first
    | with_reducible assumption
    | exact hp.bit rfl
    | exact hp.sub rfl
    | with_reducible refine State.setQu_moves ?_ ?_
    | with_reducible refine State.placeLine_moves hm ?_ ?_
    | with_reducible refine State.closeDown_moves ?_ ?_
    | (extract_lets +onlyGivenNames t; refine Moves.cut (F := F) (s₀ := s₀) (t := t) ?_ (fun ht => ?_); rotate_left; (try clear_value t); rotate_left; subst t)
    | (extract_lets +onlyGivenNames t; try clear_value t)
    | split
    | simp (disch := first | exact hp.out rfl | with_reducible exact fun _ => rfl) only [Moves.mk_iff]

theorem State.fetchedLines_moves (hm : F.mem = true) (hp : Sub 4521191813414920 F.parts) {s : State} {q : ℕ} {data : List ℕ} {poison : Bool} {x4 : ℕ} (h : Moves F s₀ s) : Moves F s₀ (State.fetchedLines s q data poison x4) := by
  induction x4 generalizing s q data poison with
  | zero =>
    unfold State.fetchedLines
    repeat' first
      | with_reducible assumption
      | exact hp.bit rfl
      | exact hp.sub rfl
      | with_reducible refine State.fetchedLine_moves hm ?_ ?_
      | split
  | succ k ih =>
    unfold State.fetchedLines
    repeat' first
      | with_reducible assumption
      | with_reducible refine ih ?_
      | exact hp.bit rfl
      | exact hp.sub rfl
      | with_reducible refine State.fetchedLine_moves hm ?_ ?_
      | split

theorem execDmaCompletion_moves (hm : F.mem = true) (hp : Sub 4521200403349513 F.parts) {queue : ℕ} {status : ℕ} {data : List ℕ} {poison : Bool} {s : State} {t : State} (e : execDmaCompletion queue status data poison s = .next t) (h : Moves F s₀ s) : Moves F s₀ t := by
  unfold execDmaCompletion at e
  rw [need_next e]; clear e
  repeat' first
    | with_reducible assumption
    | exact hp.bit rfl
    | exact hp.sub rfl
    | refine need_moves (by with_reducible assumption) ?_
    | with_reducible refine State.cgErr_moves ?_ ?_ ?_
    | with_reducible refine State.haltQueue_moves ?_ ?_
    | with_reducible refine State.setQu_moves ?_ ?_
    | with_reducible refine State.wr_moves ?_ ?_
    | with_reducible refine State.fetchedLines_moves hm ?_ ?_
    | (extract_lets +onlyGivenNames t; refine Moves.cut (F := F) (s₀ := s₀) (t := t) ?_ (fun ht => ?_); rotate_left; (try clear_value t); rotate_left; subst t)
    | (extract_lets +onlyGivenNames t; try clear_value t)
    | split
    | simp (disch := first | exact hp.out rfl | with_reducible exact fun _ => rfl) only [Moves.mk_iff]

theorem State.queueEnable_moves (hm : F.mem = true) (hp : Sub 13530452652479384 F.parts) {s : State} {q : ℕ} (h : Moves F s₀ s) : Moves F s₀ (State.queueEnable s q) := by
  unfold State.queueEnable
  repeat' first
    | with_reducible assumption
    | exact hp.bit rfl
    | exact hp.sub rfl
    | with_reducible refine State.wr_moves ?_ ?_
    | with_reducible refine State.setQu_moves ?_ ?_
    | with_reducible refine State.openLink_moves ?_ ?_
    | with_reducible refine State.moveOn_moves hm ?_ ?_
    | (extract_lets +onlyGivenNames t; refine Moves.cut (F := F) (s₀ := s₀) (t := t) ?_ (fun ht => ?_); rotate_left; (try clear_value t); rotate_left; subst t)
    | (extract_lets +onlyGivenNames t; try clear_value t)
    | split

theorem State.queueStop_moves (hp : Sub 17592186044424 F.parts) {s : State} {q : ℕ} (h : Moves F s₀ s) : Moves F s₀ (State.queueStop s q) := by
  unfold State.queueStop
  repeat' first
    | with_reducible assumption
    | exact hp.bit rfl
    | exact hp.sub rfl
    | with_reducible refine State.settleQu_moves ?_ ?_
    | with_reducible refine State.wr_moves ?_ ?_
    | split

theorem State.queueAbort_moves (hp : Sub 17592186044424 F.parts) {s : State} {q : ℕ} (h : Moves F s₀ s) : Moves F s₀ (State.queueAbort s q) := by
  unfold State.queueAbort
  repeat' first
    | with_reducible assumption
    | exact hp.bit rfl
    | exact hp.sub rfl
    | with_reducible refine State.wr_moves ?_ ?_
    | with_reducible refine State.setBinEnd_moves ?_ ?_
    | with_reducible refine State.setQu_moves ?_ ?_
    | (extract_lets +onlyGivenNames t; refine Moves.cut (F := F) (s₀ := s₀) (t := t) ?_ (fun ht => ?_); rotate_left; (try clear_value t); rotate_left; subst t)
    | split

theorem State.quConfig_moves (hp : Sub 8 F.parts) {s : State} {q : ℕ} {fs : List Fld} {v : ℕ} (hq : ∀ f ∈ fs, F.parts.testBit f.blk.code = true)  (h : Moves F s₀ s) : Moves F s₀ (State.quConfig s q fs v) := by
  unfold State.quConfig
  repeat' first
    | with_reducible assumption
    | exact hq _ (by assumption)
    | exact hp.bit rfl
    | exact hp.sub rfl
    | exact fun f hf => hp.mem hf (by rfl)
    | with_reducible refine State.setFields_moves ?_ ?_
    | with_reducible refine State.wr_moves ?_ ?_
    | split

theorem State.writeQuCtrl_moves (hm : F.mem = true) (hp : Sub 13530452652479384 F.parts) {s : State} {q : ℕ} {v : ℕ} (h : Moves F s₀ s) : Moves F s₀ (State.writeQuCtrl s q v) := by
  unfold State.writeQuCtrl
  repeat' first
    | with_reducible assumption
    | exact hp.bit rfl
    | exact hp.sub rfl
    | exact fun f hf => hp.mem hf (by rfl)
    | with_reducible refine State.quConfig_moves ?_ ?_ ?_
    | with_reducible refine State.queueEnable_moves hm ?_ ?_
    | with_reducible refine State.queueStop_moves ?_ ?_
    | with_reducible refine State.queueAbort_moves ?_ ?_
    | (extract_lets +onlyGivenNames t; refine Moves.cut (F := F) (s₀ := s₀) (t := t) ?_ (fun ht => ?_); rotate_left; (try clear_value t); rotate_left; subst t)
    | split

theorem execQueueEnable_moves (hm : F.mem = true) (hp : Sub 13530452652479384 F.parts) {queue : ℕ} {value : ℕ} {s : State} {t : State} (e : execQueueEnable queue value s = .next t) (h : Moves F s₀ s) : Moves F s₀ t := by
  unfold execQueueEnable at e
  rw [need_next e]; clear e
  repeat' first
    | with_reducible assumption
    | exact hp.bit rfl
    | exact hp.sub rfl
    | refine need_moves (by with_reducible assumption) ?_
    | with_reducible refine State.writeQuCtrl_moves hm ?_ ?_

theorem execQueueStop_moves (hm : F.mem = true) (hp : Sub 13530452652479384 F.parts) {queue : ℕ} {value : ℕ} {s : State} {t : State} (e : execQueueStop queue value s = .next t) (h : Moves F s₀ s) : Moves F s₀ t := by
  unfold execQueueStop at e
  rw [need_next e]; clear e
  repeat' first
    | with_reducible assumption
    | exact hp.bit rfl
    | exact hp.sub rfl
    | refine need_moves (by with_reducible assumption) ?_
    | with_reducible refine State.writeQuCtrl_moves hm ?_ ?_

theorem execQueueAbort_moves (hm : F.mem = true) (hp : Sub 13530452652479384 F.parts) {queue : ℕ} {value : ℕ} {s : State} {t : State} (e : execQueueAbort queue value s = .next t) (h : Moves F s₀ s) : Moves F s₀ t := by
  unfold execQueueAbort at e
  rw [need_next e]; clear e
  repeat' first
    | with_reducible assumption
    | exact hp.bit rfl
    | exact hp.sub rfl
    | refine need_moves (by with_reducible assumption) ?_
    | with_reducible refine State.writeQuCtrl_moves hm ?_ ?_

theorem State.push_moves (hm : F.mem = true) (hp : Sub 15782252466164632 F.parts) {s : State} {q : ℕ} {m : Master} {size : ℕ} {word : ℕ} {last : Bool} {posted : Bool} {poison : Bool} (h : Moves F s₀ s) : Moves F s₀ (State.push s q m size word last posted poison).2 := by
  unfold State.push
  repeat' first
    | with_reducible assumption
    | exact hp.bit rfl
    | exact hp.sub rfl
    | split
    | dsimp only
    | with_reducible refine State.moveOn_moves hm ?_ ?_
    | with_reducible refine State.updQu_moves ?_ ?_
    | with_reducible refine State.wr_moves ?_ ?_
    | with_reducible refine State.post_moves ?_ ?_
    | simp (disch := first | exact hp.out rfl | with_reducible exact fun _ => rfl) only [Moves.mk_iff]
theorem State.push_moves' (hm : F.mem = true) (hp : Sub 15782252466164632 F.parts) {s : State} {q : ℕ} {m : Master} {size : ℕ} {word : ℕ} {last : Bool} {posted : Bool} {poison : Bool} {r0 : ℕ} {t : State} (e : State.push s q m size word last posted poison = (r0, t)) (h : Moves F s₀ s) : Moves F s₀ t := by
  have k := @State.push_moves F s₀ hm (hp.sub rfl) s q m size word last posted poison h
  rw [e] at k; exact k

theorem State.quAnswer_moves (hp : Sub 4503599627370496 F.parts) {s : State} {m : Master} {tag : ℕ} {status : ℕ} {data : ℕ} {poison : Bool} (h : Moves F s₀ s) : Moves F s₀ (State.quAnswer s m tag status data poison) := by
  unfold State.quAnswer
  repeat' first
    | with_reducible assumption
    | exact hp.bit rfl
    | exact hp.sub rfl
    | with_reducible refine State.emit_moves ?_ ?_

theorem State.sawPush_moves (hp : Sub 70368744177668 F.parts) {s : State} {m : Master} (h : Moves F s₀ s) : Moves F s₀ (State.sawPush s m) := by
  unfold State.sawPush
  repeat' first
    | with_reducible assumption
    | exact hp.bit rfl
    | exact hp.sub rfl
    | with_reducible refine State.pushSeen_moves ?_ ?_
    | split

theorem execQuPush_moves (hm : F.mem = true) (hp : Sub 15852621210342300 F.parts) {queue : ℕ} {m : Master} {size : ℕ} {word : ℕ} {tag : ℕ} {posted : Bool} {poison : Bool} {s : State} {t : State} (e : execQuPush queue m size word tag posted poison s = .next t) (h : Moves F s₀ s) : Moves F s₀ t := by
  unfold execQuPush at e
  rw [need_next e]; clear e
  repeat' first
    | with_reducible assumption
    | exact hp.bit rfl
    | exact hp.sub rfl
    | refine need_moves (by with_reducible assumption) ?_
    | with_reducible refine State.push_moves hm ?_ ?_
    | refine State.push_moves' hm ?_ (by with_reducible assumption) ?_
    | with_reducible refine State.sawPush_moves ?_ ?_
    | with_reducible refine State.quAnswer_moves ?_ ?_
    | (extract_lets +onlyGivenNames t; refine Moves.cut (F := F) (s₀ := s₀) (t := t) ?_ (fun ht => ?_); rotate_left; (try clear_value t); rotate_left; subst t)
    | split

theorem execQuPushLast_moves (hm : F.mem = true) (hp : Sub 15852621210342300 F.parts) {queue : ℕ} {m : Master} {size : ℕ} {word : ℕ} {tag : ℕ} {posted : Bool} {poison : Bool} {s : State} {t : State} (e : execQuPushLast queue m size word tag posted poison s = .next t) (h : Moves F s₀ s) : Moves F s₀ t := by
  unfold execQuPushLast at e
  rw [need_next e]; clear e
  repeat' first
    | with_reducible assumption
    | exact hp.bit rfl
    | exact hp.sub rfl
    | refine need_moves (by with_reducible assumption) ?_
    | with_reducible refine State.push_moves hm ?_ ?_
    | refine State.push_moves' hm ?_ (by with_reducible assumption) ?_
    | with_reducible refine State.sawPush_moves ?_ ?_
    | with_reducible refine State.quAnswer_moves ?_ ?_
    | (extract_lets +onlyGivenNames t; refine Moves.cut (F := F) (s₀ := s₀) (t := t) ?_ (fun ht => ?_); rotate_left; (try clear_value t); rotate_left; subst t)
    | split

theorem State.pop_moves (hm : F.mem = true) (hp : Sub 9026028391367576 F.parts) {s : State} {q : ℕ} {m : Master} {size : ℕ} {peek : Bool} (h : Moves F s₀ s) : Moves F s₀ (State.pop s q m size peek).2.2.2 := by
  unfold State.pop
  repeat' first
    | with_reducible assumption
    | exact hp.bit rfl
    | exact hp.sub rfl
    | split
    | dsimp only
    | refine State.popWord_moves' hm ?_ (by with_reducible assumption) ?_
theorem State.pop_moves' (hm : F.mem = true) (hp : Sub 9026028391367576 F.parts) {s : State} {q : ℕ} {m : Master} {size : ℕ} {peek : Bool} {r0 : ℕ} {r1 : ℕ} {r2 : Bool} {t : State} (e : State.pop s q m size peek = (r0, r1, r2, t)) (h : Moves F s₀ s) : Moves F s₀ t := by
  have k := @State.pop_moves F s₀ hm (hp.sub rfl) s q m size peek h
  rw [e] at k; exact k

theorem execQuPop_moves (hm : F.mem = true) (hp : Sub 13529628018738072 F.parts) {queue : ℕ} {m : Master} {size : ℕ} {tag : ℕ} {peek : Bool} {s : State} {t : State} (e : execQuPop queue m size tag peek s = .next t) (h : Moves F s₀ s) : Moves F s₀ t := by
  unfold execQuPop at e
  rw [need_next e]; clear e
  repeat' first
    | with_reducible assumption
    | exact hp.bit rfl
    | exact hp.sub rfl
    | refine need_moves (by with_reducible assumption) ?_
    | with_reducible refine State.pop_moves hm ?_ ?_
    | refine State.pop_moves' hm ?_ (by with_reducible assumption) ?_
    | with_reducible refine State.quAnswer_moves ?_ ?_
    | (extract_lets +onlyGivenNames t; refine Moves.cut (F := F) (s₀ := s₀) (t := t) ?_ (fun ht => ?_); rotate_left; (try clear_value t); rotate_left; subst t)

theorem State.doorbell_moves (hm : F.mem = true) (hp : Sub 4521191813414920 F.parts) {s : State} {q : ℕ} {len : ℕ} (h : Moves F s₀ s) : Moves F s₀ (State.doorbell s q len) := by
  unfold State.doorbell
  repeat' first
    | with_reducible assumption
    | exact hp.bit rfl
    | exact hp.sub rfl
    | with_reducible refine State.wr_moves ?_ ?_
    | with_reducible refine State.setQu_moves ?_ ?_
    | with_reducible refine State.directPacket_moves hm ?_ ?_
    | (extract_lets +onlyGivenNames t; refine Moves.cut (F := F) (s₀ := s₀) (t := t) ?_ (fun ht => ?_); rotate_left; (try clear_value t); rotate_left; subst t)
    | (extract_lets +onlyGivenNames t; try clear_value t)
    | split
    | simp (disch := first | exact hp.out rfl | with_reducible exact fun _ => rfl) only [Moves.mk_iff]

theorem State.directPending_moves (hm : F.mem = true) (hp : Sub 4521191813414920 F.parts) {s : State} {q : ℕ} (h : Moves F s₀ s) : Moves F s₀ (State.directPending s q) := by
  unfold State.directPending
  repeat' first
    | with_reducible assumption
    | exact hp.bit rfl
    | exact hp.sub rfl
    | exact Sub.mem (f := a) hp ha (by rfl)
    | with_reducible refine State.doorbell_moves hm ?_ ?_
    | with_reducible refine State.updQu_moves ?_ ?_
    | with_reducible refine Moves.foldl ?_ (fun t a ha ht => ?_)
    | (extract_lets +onlyGivenNames t; refine Moves.cut (F := F) (s₀ := s₀) (t := t) ?_ (fun ht => ?_); rotate_left; (try clear_value t); rotate_left; subst t)
    | (extract_lets +onlyGivenNames t; try clear_value t)
    | split
    | simp (disch := first | exact hp.out rfl | with_reducible exact fun _ => rfl) only [Moves.mk_iff]

theorem execQuDoorbell_moves (hm : F.mem = true) (hp : Sub 4521191813414920 F.parts) {queue : ℕ} {len : ℕ} {s : State} {t : State} (e : execQuDoorbell queue len s = .next t) (h : Moves F s₀ s) : Moves F s₀ t := by
  unfold execQuDoorbell at e
  rw [need_next e]; clear e
  repeat' first
    | with_reducible assumption
    | exact hp.bit rfl
    | exact hp.sub rfl
    | refine need_moves (by with_reducible assumption) ?_
    | with_reducible refine State.doorbell_moves hm ?_ ?_

theorem State.flip_moves (hm : F.mem = true) (hp : Sub 4521191813414920 F.parts) {s : State} {q : ℕ} {len : ℕ} (h : Moves F s₀ s) : Moves F s₀ (State.flip s q len) := by
  unfold State.flip
  repeat' first
    | with_reducible assumption
    | exact hp.bit rfl
    | exact hp.sub rfl
    | with_reducible refine State.wr_moves ?_ ?_
    | with_reducible refine State.directPending_moves hm ?_ ?_
    | with_reducible refine State.trySwap_moves ?_ ?_
    | split

theorem execDoorbellFlip_moves (hm : F.mem = true) (hp : Sub 4521191813414920 F.parts) {queue : ℕ} {len : ℕ} {s : State} {t : State} (e : execDoorbellFlip queue len s = .next t) (h : Moves F s₀ s) : Moves F s₀ t := by
  unfold execDoorbellFlip at e
  rw [need_next e]; clear e
  repeat' first
    | with_reducible assumption
    | exact hp.bit rfl
    | exact hp.sub rfl
    | refine need_moves (by with_reducible assumption) ?_
    | with_reducible refine State.flip_moves hm ?_ ?_

theorem execBankSwap_moves (hm : F.mem = true) (hp : Sub 13530452652479384 F.parts) {queue : ℕ} {s : State} {t : State} (e : execBankSwap queue s = .next t) (h : Moves F s₀ s) : Moves F s₀ t := by
  unfold execBankSwap at e
  rw [need_next e]; clear e
  repeat' first
    | with_reducible assumption
    | exact hp.bit rfl
    | exact hp.sub rfl
    | refine need_moves (by with_reducible assumption) ?_
    | with_reducible refine State.directPending_moves hm ?_ ?_
    | with_reducible refine State.moveOn_moves hm ?_ ?_
    | with_reducible refine State.trySwap_moves ?_ ?_
    | with_reducible refine State.updQu_moves ?_ ?_
    | split

theorem execSpillDone_moves (hm : F.mem = true) (hp : Sub 13530452652479384 F.parts) {queue : ℕ} {error : Bool} {s : State} {t : State} (e : execSpillDone queue error s = .next t) (h : Moves F s₀ s) : Moves F s₀ t := by
  unfold execSpillDone at e
  rw [need_next e]; clear e
  repeat' first
    | with_reducible assumption
    | exact hp.bit rfl
    | exact hp.sub rfl
    | exact Sub.mem (f := a) hp ha (by rfl)
    | refine need_moves (by with_reducible assumption) ?_
    | with_reducible refine State.haltQueue_moves ?_ ?_
    | with_reducible refine State.setQu_moves ?_ ?_
    | with_reducible refine State.agentStore_moves hm ?_ ?_
    | with_reducible refine State.count_moves ?_ ?_
    | with_reducible refine State.writeSlot_moves hm ?_ ?_
    | with_reducible refine State.moveOn_moves hm ?_ ?_
    | with_reducible refine Moves.foldl ?_ (fun t a ha ht => ?_)
    | (extract_lets +onlyGivenNames t; refine Moves.cut (F := F) (s₀ := s₀) (t := t) ?_ (fun ht => ?_); rotate_left; (try clear_value t); rotate_left; subst t)
    | (extract_lets +onlyGivenNames t; try clear_value t)
    | split
    | simp (disch := first | exact hp.out rfl | with_reducible exact fun _ => rfl) only [Moves.mk_iff]

theorem execCopyBackDone_moves (hm : F.mem = true) (hp : Sub 13530452652479384 F.parts) {queue : ℕ} {error : Bool} {s : State} {t : State} (e : execCopyBackDone queue error s = .next t) (h : Moves F s₀ s) : Moves F s₀ t := by
  unfold execCopyBackDone at e
  rw [need_next e]; clear e
  repeat' first
    | with_reducible assumption
    | exact hp.bit rfl
    | exact hp.sub rfl
    | refine need_moves (by with_reducible assumption) ?_
    | with_reducible refine State.updQu_moves ?_ ?_
    | with_reducible refine State.haltQueue_moves ?_ ?_
    | with_reducible refine State.moveOn_moves hm ?_ ?_
    | with_reducible refine State.tryCopyBack_moves hm ?_ ?_
    | (extract_lets +onlyGivenNames t; refine Moves.cut (F := F) (s₀ := s₀) (t := t) ?_ (fun ht => ?_); rotate_left; (try clear_value t); rotate_left; subst t)
    | (extract_lets +onlyGivenNames t; try clear_value t)
    | split

theorem execNoticeWrite_moves (hp : Sub 4521200403349512 F.parts) {queue : ℕ} {s : State} {t : State} (e : execNoticeWrite queue s = .next t) (h : Moves F s₀ s) : Moves F s₀ t := by
  unfold execNoticeWrite at e
  rw [need_next e]; clear e
  repeat' first
    | with_reducible assumption
    | exact hp.bit rfl
    | exact hp.sub rfl
    | refine need_moves (by with_reducible assumption) ?_
    | with_reducible refine State.emit_moves ?_ ?_
    | with_reducible refine State.count_moves ?_ ?_
    | with_reducible refine State.countWrap_moves ?_ ?_
    | with_reducible refine State.setQu_moves ?_ ?_
    | with_reducible refine State.checkDrained_moves ?_ ?_
    | with_reducible refine State.requestVector_moves ?_ ?_
    | (extract_lets +onlyGivenNames t; refine Moves.cut (F := F) (s₀ := s₀) (t := t) ?_ (fun ht => ?_); rotate_left; (try clear_value t); rotate_left; subst t)
    | (extract_lets +onlyGivenNames t; try clear_value t)
    | split
    | simp (disch := first | exact hp.out rfl | with_reducible exact fun _ => rfl) only [Moves.mk_iff]

theorem execCoalesceTimer_moves (hp : Sub 4521200403349512 F.parts) {queue : ℕ} {s : State} {t : State} (e : execCoalesceTimer queue s = .next t) (h : Moves F s₀ s) : Moves F s₀ t := by
  unfold execCoalesceTimer at e
  rw [need_next e]; clear e
  repeat' first
    | with_reducible assumption
    | exact hp.bit rfl
    | exact hp.sub rfl
    | refine need_moves (by with_reducible assumption) ?_
    | with_reducible refine State.requestVector_moves ?_ ?_
    | with_reducible refine State.updQu_moves ?_ ?_
    | split
    | simp (disch := first | exact hp.out rfl | with_reducible exact fun _ => rfl) only [Moves.mk_iff]

theorem execMsixGapEnd_moves (hp : Sub 4503608217305088 F.parts) {vector : ℕ} {s : State} {t : State} (e : execMsixGapEnd vector s = .next t) (h : Moves F s₀ s) : Moves F s₀ t := by
  unfold execMsixGapEnd at e
  rw [need_next e]; clear e
  repeat' first
    | with_reducible assumption
    | exact hp.bit rfl
    | exact hp.sub rfl
    | refine need_moves (by with_reducible assumption) ?_
    | with_reducible refine State.requestVector_moves ?_ ?_
    | (extract_lets +onlyGivenNames t; refine Moves.cut (F := F) (s₀ := s₀) (t := t) ?_ (fun ht => ?_); rotate_left; (try clear_value t); rotate_left; subst t)
    | (extract_lets +onlyGivenNames t; try clear_value t)
    | split
    | simp (disch := first | exact hp.out rfl | with_reducible exact fun _ => rfl) only [Moves.mk_iff]

theorem execMsixUnmask_moves (hp : Sub 4503608217305088 F.parts) {vector : ℕ} {s : State} {t : State} (e : execMsixUnmask vector s = .next t) (h : Moves F s₀ s) : Moves F s₀ t := by
  unfold execMsixUnmask at e
  rw [need_next e]; clear e
  repeat' first
    | with_reducible assumption
    | exact hp.bit rfl
    | exact hp.sub rfl
    | refine need_moves (by with_reducible assumption) ?_
    | with_reducible refine State.flushPending_moves ?_ ?_
    | simp (disch := first | exact hp.out rfl | with_reducible exact fun _ => rfl) only [Moves.mk_iff]

theorem execBinLinkWrite_moves (hm : F.mem = true) (hp : Sub 13530452652479384 F.parts) {stope : ℕ} {bin : ℕ} {error : Bool} {s : State} {t : State} (e : execBinLinkWrite stope bin error s = .next t) (h : Moves F s₀ s) : Moves F s₀ t := by
  unfold execBinLinkWrite at e
  rw [need_next e]; clear e
  repeat' first
    | with_reducible assumption
    | exact hp.bit rfl
    | exact hp.sub rfl
    | refine need_moves (by with_reducible assumption) ?_
    | with_reducible refine State.binLink_moves hm ?_ ?_

/-! ### Crews -/

theorem State.noteCollision_moves (hp : Sub 6 F.parts) {s : State} {a : ℕ} (h : Moves F s₀ s) : Moves F s₀ (State.noteCollision s a) := by
  unfold State.noteCollision
  repeat' first
    | with_reducible assumption
    | exact hp.bit rfl
    | exact hp.sub rfl
    | with_reducible refine State.wr_moves ?_ ?_
    | with_reducible refine State.count_moves ?_ ?_
    | with_reducible refine State.put_moves ?_ ?_
    | (extract_lets +onlyGivenNames t; refine Moves.cut (F := F) (s₀ := s₀) (t := t) ?_ (fun ht => ?_); rotate_left; (try clear_value t); rotate_left; subst t)
    | (extract_lets +onlyGivenNames t; try clear_value t)
    | split

theorem execCribGalleryAccess_moves (hm : F.mem = true) (hp : Sub 6825772488589318 F.parts) {a : GalAccess} {errs : ℕ} {sameCycle : Bool} {s : State} {t : State} (e : execCribGalleryAccess a errs sameCycle s = .next t) (h : Moves F s₀ s) : Moves F s₀ t := by
  unfold execCribGalleryAccess at e
  rw [need_next e]; clear e
  repeat' first
    | with_reducible assumption
    | exact hp.bit rfl
    | exact hp.sub rfl
    | refine need_moves (by with_reducible assumption) ?_
    | with_reducible refine State.respond_moves ?_ ?_
    | with_reducible refine State.ungate_moves ?_ ?_
    | with_reducible refine State.checkWord_moves ?_ ?_
    | refine State.checkWord_moves' ?_ (by with_reducible assumption) ?_
    | with_reducible refine State.memStore_moves hm ?_ ?_
    | with_reducible refine State.noteCollision_moves ?_ ?_
    | (extract_lets +onlyGivenNames t; refine Moves.cut (F := F) (s₀ := s₀) (t := t) ?_ (fun ht => ?_); rotate_left; (try clear_value t); rotate_left; subst t)
    | (extract_lets +onlyGivenNames t; try clear_value t)
    | split

theorem execCribWriteback_moves (hp : Sub 70368744177664 F.parts) {addr : ℕ} {s : State} {t : State} (e : execCribWriteback addr s = .next t) (h : Moves F s₀ s) : Moves F s₀ t := by
  unfold execCribWriteback at e
  try dsimp only at e
  cases Host.Outcome.next.inj e
  repeat' first
    | with_reducible assumption
    | exact hp.bit rfl
    | exact hp.sub rfl
    | with_reducible refine State.setWordErr_moves ?_ ?_
    | split

theorem State.dropHoist_moves (hp : Sub 70368744177666 F.parts) {s : State} {c : ℕ} {x2 : ℕ} (h : Moves F s₀ s) : Moves F s₀ (State.dropHoist s c x2) := by
  unfold State.dropHoist
  repeat' first
    | with_reducible assumption
    | exact hp.bit rfl
    | exact hp.sub rfl
    | with_reducible refine State.wr_moves ?_ ?_
    | with_reducible refine State.tr_moves ?_ ?_
    | simp (disch := first | exact hp.out rfl | with_reducible exact fun _ => rfl) only [Moves.mk_iff]

theorem State.hoistErr_moves (hp : Sub 2 F.parts) {s : State} {c : ℕ} {x2 : ℕ} {cause : ℕ} (h : Moves F s₀ s) : Moves F s₀ (State.hoistErr s c x2 cause) := by
  unfold State.hoistErr
  repeat' first
    | with_reducible assumption
    | exact hp.bit rfl
    | exact hp.sub rfl
    | with_reducible refine State.wr_moves ?_ ?_

theorem State.hoistGo_moves (hp : Sub 70368744177666 F.parts) {s : State} {c : ℕ} {x2 : ℕ} {v : ℕ} (h : Moves F s₀ s) : Moves F s₀ (State.hoistGo s c x2 v) := by
  unfold State.hoistGo
  repeat' first
    | with_reducible assumption
    | exact hp.bit rfl
    | exact hp.sub rfl
    | exact fun f hf => hp.mem hf (by rfl)
    | with_reducible refine State.setFields_moves ?_ ?_
    | with_reducible refine State.tr_moves ?_ ?_
    | with_reducible refine State.wr_moves ?_ ?_
    | with_reducible refine State.hoistErr_moves ?_ ?_
    | (extract_lets +onlyGivenNames t; refine Moves.cut (F := F) (s₀ := s₀) (t := t) ?_ (fun ht => ?_); rotate_left; (try clear_value t); rotate_left; subst t)
    | (extract_lets +onlyGivenNames t; try clear_value t)
    | split
    | simp (disch := first | exact hp.out rfl | with_reducible exact fun _ => rfl) only [Moves.mk_iff]

theorem execHoistGo_moves (hp : Sub 70368744177666 F.parts) {crew : ℕ} {channel : ℕ} {value : ℕ} {s : State} {t : State} (e : execHoistGo crew channel value s = .next t) (h : Moves F s₀ s) : Moves F s₀ t := by
  unfold execHoistGo at e
  rw [need_next e]; clear e
  repeat' first
    | with_reducible assumption
    | exact hp.bit rfl
    | exact hp.sub rfl
    | refine need_moves (by with_reducible assumption) ?_
    | with_reducible refine State.hoistGo_moves ?_ ?_
    | split

theorem State.hoistStore_moves (hm : F.mem = true) (hp : Sub 70368744177670 F.parts) {s : State} {a : ℕ} {data : List ℕ} {poison : List ℕ} {i : ℕ} {x5 : ℕ} (h : Moves F s₀ s) : Moves F s₀ (State.hoistStore s a data poison i x5) := by
  induction x5 generalizing s a data poison i with
  | zero =>
    unfold State.hoistStore
    repeat' first
      | with_reducible assumption
      | exact hp.bit rfl
      | exact hp.sub rfl
      | exact Sub.mem (f := a) hp ha (by rfl)
      | with_reducible refine State.memStore_moves hm ?_ ?_
      | with_reducible refine Moves.foldl ?_ (fun t a ha ht => ?_)
      | (extract_lets +onlyGivenNames t; refine Moves.cut (F := F) (s₀ := s₀) (t := t) ?_ (fun ht => ?_); rotate_left; (try clear_value t); rotate_left; subst t)
      | (extract_lets +onlyGivenNames t; try clear_value t)
      | split
  | succ k ih =>
    unfold State.hoistStore
    repeat' first
      | with_reducible assumption
      | with_reducible refine ih ?_
      | exact hp.bit rfl
      | exact hp.sub rfl
      | exact Sub.mem (f := a) hp ha (by rfl)
      | with_reducible refine State.memStore_moves hm ?_ ?_
      | with_reducible refine Moves.foldl ?_ (fun t a ha ht => ?_)
      | (extract_lets +onlyGivenNames t; refine Moves.cut (F := F) (s₀ := s₀) (t := t) ?_ (fun ht => ?_); rotate_left; (try clear_value t); rotate_left; subst t)
      | (extract_lets +onlyGivenNames t; try clear_value t)
      | split

theorem State.hoistSend_moves (hp : Sub 4503599627370496 F.parts) {s : State} {c : ℕ} {a : ℕ} {g : ℕ} {len : ℕ} {x5 : ℕ} (h : Moves F s₀ s) : Moves F s₀ (State.hoistSend s c a g len x5) := by
  induction x5 generalizing s c a g len with
  | zero =>
    unfold State.hoistSend
    repeat' first
      | with_reducible assumption
      | exact hp.bit rfl
      | exact hp.sub rfl
      | with_reducible refine State.emit_moves ?_ ?_
      | (extract_lets +onlyGivenNames t; refine Moves.cut (F := F) (s₀ := s₀) (t := t) ?_ (fun ht => ?_); rotate_left; (try clear_value t); rotate_left; subst t)
      | (extract_lets +onlyGivenNames t; try clear_value t)
      | split
  | succ k ih =>
    unfold State.hoistSend
    repeat' first
      | with_reducible assumption
      | with_reducible refine ih ?_
      | exact hp.bit rfl
      | exact hp.sub rfl
      | with_reducible refine State.emit_moves ?_ ?_
      | (extract_lets +onlyGivenNames t; refine Moves.cut (F := F) (s₀ := s₀) (t := t) ?_ (fun ht => ?_); rotate_left; (try clear_value t); rotate_left; subst t)
      | (extract_lets +onlyGivenNames t; try clear_value t)
      | split

theorem State.hoistMoved_moves (hm : F.mem = true) (hp : Sub 4573968371548166 F.parts) {s : State} {c : ℕ} {x2 : ℕ} {x : Hoist} {r : HoistEnd} (h : Moves F s₀ s) : Moves F s₀ (State.hoistMoved s c x2 x r) := by
  unfold State.hoistMoved
  repeat' first
    | with_reducible assumption
    | exact hp.bit rfl
    | exact hp.sub rfl
    | with_reducible refine State.hoistSend_moves ?_ ?_
    | with_reducible refine State.hoistStore_moves hm ?_ ?_
    | with_reducible refine State.wr_moves ?_ ?_
    | (extract_lets +onlyGivenNames t; refine Moves.cut (F := F) (s₀ := s₀) (t := t) ?_ (fun ht => ?_); rotate_left; (try clear_value t); rotate_left; subst t)
    | (extract_lets +onlyGivenNames t; try clear_value t)
    | split

theorem execHoistAbort_moves (hm : F.mem = true) (hp : Sub 4573968371548166 F.parts) {crew : ℕ} {channel : ℕ} {r : HoistEnd} {s : State} {t : State} (e : execHoistAbort crew channel r s = .next t) (h : Moves F s₀ s) : Moves F s₀ t := by
  unfold execHoistAbort at e
  rw [need_next e]; clear e
  repeat' first
    | with_reducible assumption
    | exact hp.bit rfl
    | exact hp.sub rfl
    | refine need_moves (by with_reducible assumption) ?_
    | with_reducible refine State.hoistErr_moves ?_ ?_
    | with_reducible refine State.dropHoist_moves ?_ ?_
    | with_reducible refine State.hoistMoved_moves hm ?_ ?_
    | split

theorem State.hoistNotify_moves (hp : Sub 4 F.parts) {s : State} {x : Hoist} (h : Moves F s₀ s) : Moves F s₀ (State.hoistNotify s x) := by
  unfold State.hoistNotify
  repeat' first
    | with_reducible assumption
    | exact hp.bit rfl
    | exact hp.sub rfl
    | with_reducible refine State.putBit_moves ?_ ?_
    | split

theorem execHoistDone_moves (hm : F.mem = true) (hp : Sub 4573968371548166 F.parts) {crew : ℕ} {channel : ℕ} {r : HoistEnd} {s : State} {t : State} (e : execHoistDone crew channel r s = .next t) (h : Moves F s₀ s) : Moves F s₀ t := by
  unfold execHoistDone at e
  rw [need_next e]; clear e
  repeat' first
    | with_reducible assumption
    | exact hp.bit rfl
    | exact hp.sub rfl
    | refine need_moves (by with_reducible assumption) ?_
    | with_reducible refine State.hoistErr_moves ?_ ?_
    | with_reducible refine State.dropHoist_moves ?_ ?_
    | with_reducible refine State.hoistMoved_moves hm ?_ ?_
    | with_reducible refine State.hoistNotify_moves ?_ ?_
    | with_reducible refine State.wr_moves ?_ ?_
    | split
    | simp (disch := first | exact hp.out rfl | with_reducible exact fun _ => rfl) only [Moves.mk_iff]

theorem State.stopHoists_moves (hp : Sub 70368744177666 F.parts) {s : State} {c : ℕ} (h : Moves F s₀ s) : Moves F s₀ (State.stopHoists s c) := by
  unfold State.stopHoists
  repeat' first
    | with_reducible assumption
    | exact hp.bit rfl
    | exact hp.sub rfl
    | exact Sub.mem (f := a) hp ha (by rfl)
    | with_reducible refine State.hoistErr_moves ?_ ?_
    | with_reducible refine State.dropHoist_moves ?_ ?_
    | with_reducible refine Moves.foldl ?_ (fun t a ha ht => ?_)
    | split

/-! ### EngineReset -/

theorem State.startEngineReset_moves (hm : F.mem = true) (hp : Sub 13636010072101788 F.parts) {s : State} {x1 : ℕ} {cause : ℕ} (h : Moves F s₀ s) : Moves F s₀ (State.startEngineReset s x1 cause) := by
  unfold State.startEngineReset
  repeat' first
    | with_reducible assumption
    | exact hp.bit rfl
    | exact hp.sub rfl
    | with_reducible refine State.wr_moves ?_ ?_
    | with_reducible refine State.count_moves ?_ ?_
    | with_reducible refine State.gl_moves ?_ ?_
    | with_reducible refine State.updEng_moves ?_ ?_
    | with_reducible refine State.ungate_moves ?_ ?_
    | with_reducible refine State.endReset_moves hm ?_ ?_
    | (extract_lets +onlyGivenNames t; refine Moves.cut (F := F) (s₀ := s₀) (t := t) ?_ (fun ht => ?_); rotate_left; (try clear_value t); rotate_left; subst t)
    | split
    | simp (disch := first | exact hp.out rfl | with_reducible exact fun _ => rfl) only [Moves.mk_iff]

theorem State.coldEngine_moves (hp : Sub 70368744177668 F.parts) {s : State} {e : ℕ} {all : Bool} (h : Moves F s₀ s) : Moves F s₀ (State.coldEngine s e all) := by
  unfold State.coldEngine
  refine State.setEng_moves (hp.sub rfl) (Moves.newRegs (fun k => Tab.rising_filter keyLt_order _ k) (fun f hf u j => ?_) h)
  refine Tab.get_filter _ (fun v => ?_)
  have k : f.blk.code ≠ Block.tr.code := fun k => by rw [k, hp.bit rfl] at hf; cases hf
  simp [Fld.idBlock_id, k]

theorem State.finishEngineReset_moves (hm : F.mem = true) (hp : Sub 13636010072101788 F.parts) {s : State} {x1 : ℕ} (h : Moves F s₀ s) : Moves F s₀ (State.finishEngineReset s x1) := by
  unfold State.finishEngineReset
  repeat' first
    | with_reducible assumption
    | exact hp.bit rfl
    | exact hp.sub rfl
    | with_reducible refine State.wr_moves ?_ ?_
    | with_reducible refine State.coldEngine_moves ?_ ?_
    | with_reducible refine State.tr_moves ?_ ?_
    | with_reducible refine State.startEngineReset_moves hm ?_ ?_
    | (extract_lets +onlyGivenNames t; refine Moves.cut (F := F) (s₀ := s₀) (t := t) ?_ (fun ht => ?_); rotate_left; (try clear_value t); rotate_left; subst t)
    | split
    | simp (disch := first | exact hp.out rfl | with_reducible exact fun _ => rfl) only [Moves.mk_iff]

theorem State.wdogReset_moves (hm : F.mem = true) (hp : Sub 13636010072101788 F.parts) {s : State} {x1 : ℕ} (h : Moves F s₀ s) : Moves F s₀ (State.wdogReset s x1) := by
  unfold State.wdogReset
  repeat' first
    | with_reducible assumption
    | exact hp.bit rfl
    | exact hp.sub rfl
    | with_reducible refine State.tr_moves ?_ ?_
    | with_reducible refine State.startEngineReset_moves hm ?_ ?_
    | split
    | simp (disch := first | exact hp.out rfl | with_reducible exact fun _ => rfl) only [Moves.mk_iff]

/-! ### IoOps -/

theorem State.showMg_moves (hp : Sub 2621440 F.parts) {s : State} (h : Moves F s₀ s) : Moves F s₀ (State.showMg s) := by
  unfold State.showMg
  repeat' first
    | with_reducible assumption
    | exact hp.bit rfl
    | exact hp.sub rfl
    | exact Sub.mem (f := a) hp ha (by rfl)
    | with_reducible refine State.wr_moves ?_ ?_
    | with_reducible refine Moves.foldl ?_ (fun t a ha ht => ?_)
    | (extract_lets +onlyGivenNames t; refine Moves.cut (F := F) (s₀ := s₀) (t := t) ?_ (fun ht => ?_); rotate_left; (try clear_value t); rotate_left; subst t)
    | (extract_lets +onlyGivenNames t; try clear_value t)

theorem State.writeMgEn_moves (hp : Sub 2621440 F.parts) {s : State} {v : ℕ} (h : Moves F s₀ s) : Moves F s₀ (State.writeMgEn s v) := by
  unfold State.writeMgEn
  repeat' first
    | with_reducible assumption
    | exact hp.bit rfl
    | exact hp.sub rfl
    | exact fun f hf => hp.mem hf (by rfl)
    | with_reducible refine State.showMg_moves ?_ ?_
    | with_reducible refine State.setFields_moves ?_ ?_

theorem State.writePin_moves (hp : Sub 2199026925568 F.parts) {s : State} {b : ℕ} {j : ℕ} {v : ℕ} (h : Moves F s₀ s) : Moves F s₀ (State.writePin s b j v) := by
  unfold State.writePin
  repeat' first
    | with_reducible assumption
    | exact hp.bit rfl
    | exact hp.sub rfl
    | exact fun f hf => hp.mem hf (by rfl)
    | with_reducible refine State.wr_moves ?_ ?_
    | with_reducible refine State.showMg_moves ?_ ?_
    | with_reducible refine State.setFields_moves ?_ ?_
    | with_reducible refine State.updPin_moves ?_ ?_
    | (extract_lets +onlyGivenNames t; refine Moves.cut (F := F) (s₀ := s₀) (t := t) ?_ (fun ht => ?_); rotate_left; (try clear_value t); rotate_left; subst t)
    | (extract_lets +onlyGivenNames t; try clear_value t)
    | split
    | simp (disch := first | exact hp.out rfl | with_reducible exact fun _ => rfl) only [Moves.mk_iff]

theorem State.setClass_moves (hp : Sub 1048576 F.parts) {s : State} {b : ℕ} {mv : ℕ} (h : Moves F s₀ s) : Moves F s₀ (State.setClass s b mv) := by
  unfold State.setClass
  repeat' first
    | with_reducible assumption
    | exact hp.bit rfl
    | exact hp.sub rfl
    | with_reducible refine State.wr_moves ?_ ?_
    | (extract_lets +onlyGivenNames t; refine Moves.cut (F := F) (s₀ := s₀) (t := t) ?_ (fun ht => ?_); rotate_left; (try clear_value t); rotate_left; subst t)
    | (extract_lets +onlyGivenNames t; try clear_value t)
    | split

theorem State.bankRail_moves (hp : Sub 8388608 F.parts) {s : State} {b : ℕ} {v : Bool} (h : Moves F s₀ s) : Moves F s₀ (State.bankRail s b v) := by
  unfold State.bankRail
  repeat' first
    | with_reducible assumption
    | exact hp.bit rfl
    | exact hp.sub rfl
    | with_reducible refine State.put_moves ?_ ?_
    | with_reducible refine State.putBit_moves ?_ ?_
    | split

theorem State.bankSafe_moves (hp : Sub 2199023255552 F.parts) {s : State} {b : ℕ} (h : Moves F s₀ s) : Moves F s₀ (State.bankSafe s b) := by
  unfold State.bankSafe
  repeat' first
    | with_reducible assumption
    | exact hp.bit rfl
    | exact hp.sub rfl
    | exact Sub.mem (f := a) hp ha (by rfl)
    | with_reducible refine State.updPin_moves ?_ ?_
    | with_reducible refine Moves.foldl ?_ (fun t a ha ht => ?_)
    | with_reducible refine Moves.foldl2 ?_ (fun y a ht => ?_)
    | with_reducible refine Moves.foldl1 ?_ (fun y a ht => ?_)
    | split
    | simp (disch := first | exact hp.out rfl | with_reducible exact fun _ => rfl) only [Moves.mk_iff]

/-! ### StopeOps -/

theorem State.applyFrame_moves (hp : Sub 9007199254740992 F.parts) {s : State} {n : ℕ} {f : ℕ} (h : Moves F s₀ s) : Moves F s₀ (State.applyFrame s n f) := by
  unfold State.applyFrame
  repeat' first
    | with_reducible assumption
    | exact hp.bit rfl
    | exact hp.sub rfl
    | exact Sub.mem (f := a) hp ha (by rfl)
    | with_reducible refine State.updStope_moves ?_ ?_
    | with_reducible refine Moves.foldl ?_ (fun t a ha ht => ?_)
    | (extract_lets +onlyGivenNames t; refine Moves.cut (F := F) (s₀ := s₀) (t := t) ?_ (fun ht => ?_); rotate_left; (try clear_value t); rotate_left; subst t)
    | (extract_lets +onlyGivenNames t; try clear_value t)
    | simp (disch := first | exact hp.out rfl | with_reducible exact fun _ => rfl) only [Moves.mk_iff]

theorem State.writeFrame_moves (hr : F.frames = true) (hp : Sub 9007199254740992 F.parts) {s : State} {n f : ℕ} {words : List ℕ} (h : Moves F s₀ s) :
    Moves F s₀ (State.writeFrame s n f words) := by
  unfold State.writeFrame
  exact State.applyFrame_moves (hp.sub rfl) (Moves.foldl h (fun t w _ ht => Moves.newFrames hr (fun e => by
    rw [State.framesWf, Bool.and_eq_true] at e
    exact ⟨Tab.wf_set keyLt_order _ _ _ e.1, Tab.wf_filter keyLt_order _ e.2⟩) ht))

theorem State.flipFrame_moves (hr : F.frames = true) {s : State} {n f w mask : ℕ} (h : Moves F s₀ s) :
    Moves F s₀ (State.flipFrame s n f w mask) :=
  Moves.newFrames hr (fun e => by
    rw [State.framesWf, Bool.and_eq_true] at e
    exact ⟨e.1, Tab.wf_set keyLt_order _ _ _ e.2⟩) h

theorem State.clearFrames_moves (hr : F.frames = true) (hp : Sub 9007199254740992 F.parts) {s : State} {n : ℕ} (h : Moves F s₀ s) : Moves F s₀ (State.clearFrames s n) := by
  unfold State.clearFrames
  exact State.updStope_moves (hp.sub rfl) (Moves.newFrames hr (fun e => by
    rw [State.framesWf, Bool.and_eq_true] at e
    exact ⟨Tab.wf_filter keyLt_order _ e.1, Tab.wf_filter keyLt_order _ e.2⟩) h)

theorem State.showSeams_moves (hp : Sub 64 F.parts) {s : State} (h : Moves F s₀ s) : Moves F s₀ (State.showSeams s) := by
  unfold State.showSeams
  repeat' first
    | with_reducible assumption
    | exact hp.bit rfl
    | exact hp.sub rfl
    | exact Sub.mem (f := a) hp ha (by rfl)
    | with_reducible refine State.put_moves ?_ ?_
    | with_reducible refine State.wr_moves ?_ ?_
    | with_reducible refine Moves.foldl ?_ (fun t a ha ht => ?_)
    | (extract_lets +onlyGivenNames t; refine Moves.cut (F := F) (s₀ := s₀) (t := t) ?_ (fun ht => ?_); rotate_left; (try clear_value t); rotate_left; subst t)
    | (extract_lets +onlyGivenNames t; try clear_value t)

theorem State.endTargets_moves (hp : Sub 15762598695796736 F.parts) {s : State} {n : ℕ} (h : Moves F s₀ s) : Moves F s₀ (State.endTargets s n) := by
  unfold State.endTargets
  repeat' first
    | with_reducible assumption
    | exact hp.bit rfl
    | exact hp.sub rfl
    | exact Sub.mem (f := a) hp ha (by rfl)
    | with_reducible refine State.respond_moves ?_ ?_
    | with_reducible refine State.updStope_moves ?_ ?_
    | with_reducible refine Moves.foldl ?_ (fun t a ha ht => ?_)
    | (extract_lets +onlyGivenNames t; refine Moves.cut (F := F) (s₀ := s₀) (t := t) ?_ (fun ht => ?_); rotate_left; (try clear_value t); rotate_left; subst t)
    | (extract_lets +onlyGivenNames t; try clear_value t)
    | simp (disch := first | exact hp.out rfl | with_reducible exact fun _ => rfl) only [Moves.mk_iff]

theorem State.leaveUse_moves (hp : Sub 15764797719052288 F.parts) {s : State} {n : ℕ} (h : Moves F s₀ s) : Moves F s₀ (State.leaveUse s n) := by
  unfold State.leaveUse
  repeat' first
    | with_reducible assumption
    | exact hp.bit rfl
    | exact hp.sub rfl
    | with_reducible refine State.pinsSafe_moves ?_ ?_
    | with_reducible refine State.endTargets_moves ?_ ?_

theorem State.stopeDown_moves (hp : Sub 15766060439438224 F.parts) {s : State} {n : ℕ} (h : Moves F s₀ s) : Moves F s₀ (State.stopeDown s n) := by
  unfold State.stopeDown
  repeat' first
    | with_reducible assumption
    | exact hp.bit rfl
    | exact hp.sub rfl
    | with_reducible refine State.leaveUse_moves ?_ ?_
    | with_reducible refine State.failSample_moves ?_ ?_
    | with_reducible refine State.updStope_moves ?_ ?_
    | with_reducible refine State.smp_moves ?_ ?_
    | with_reducible refine State.wd_moves ?_ ?_
    | with_reducible refine State.cmdEnd_moves ?_ ?_
    | (extract_lets +onlyGivenNames t; refine Moves.cut (F := F) (s₀ := s₀) (t := t) ?_ (fun ht => ?_); rotate_left; (try clear_value t); rotate_left; subst t)
    | split
    | simp (disch := first | exact hp.out rfl | with_reducible exact fun _ => rfl) only [Moves.mk_iff]

theorem State.loadAbort_moves (hp : Sub 4398046511200 F.parts) {s : State} {err : ℕ} {pos : ℕ} (h : Moves F s₀ s) : Moves F s₀ (State.loadAbort s err pos) := by
  unfold State.loadAbort
  repeat' first
    | with_reducible assumption
    | exact hp.bit rfl
    | exact hp.sub rfl
    | with_reducible refine State.wr_moves ?_ ?_
    | with_reducible refine State.showSeams_moves ?_ ?_
    | (extract_lets +onlyGivenNames t; refine Moves.cut (F := F) (s₀ := s₀) (t := t) ?_ (fun ht => ?_); rotate_left; (try clear_value t); rotate_left; subst t)
    | simp (disch := first | exact hp.out rfl | with_reducible exact fun _ => rfl) only [Moves.mk_iff]

theorem State.loadInterrupt_moves (hp : Sub 4398046511200 F.parts) {s : State} {n : ℕ} (h : Moves F s₀ s) : Moves F s₀ (State.loadInterrupt s n) := by
  unfold State.loadInterrupt
  repeat' first
    | with_reducible assumption
    | exact hp.bit rfl
    | exact hp.sub rfl
    | with_reducible refine State.loadAbort_moves ?_ ?_
    | (extract_lets +onlyGivenNames t; refine Moves.cut (F := F) (s₀ := s₀) (t := t) ?_ (fun ht => ?_); rotate_left; (try clear_value t); rotate_left; subst t)
    | (extract_lets +onlyGivenNames t; try clear_value t)
    | split

theorem State.stopeLeaves_moves (hp : Sub 15770458485949424 F.parts) {s : State} {n : ℕ} (h : Moves F s₀ s) : Moves F s₀ (State.stopeLeaves s n) := by
  unfold State.stopeLeaves
  repeat' first
    | with_reducible assumption
    | exact hp.bit rfl
    | exact hp.sub rfl
    | with_reducible refine State.stopeDown_moves ?_ ?_
    | with_reducible refine State.loadInterrupt_moves ?_ ?_

theorem State.unconfigure_moves (hr : F.frames = true) (hp : Sub 9008298766368944 F.parts) {s : State} {n : ℕ} (h : Moves F s₀ s) : Moves F s₀ (State.unconfigure s n) := by
  unfold State.unconfigure
  repeat' first
    | with_reducible assumption
    | exact hp.bit rfl
    | exact hp.sub rfl
    | with_reducible refine State.updStope_moves ?_ ?_
    | with_reducible refine State.wr_moves ?_ ?_
    | with_reducible refine State.clearFrames_moves hr ?_ ?_
    | with_reducible refine State.scrubsMeet_moves ?_ ?_
    | with_reducible refine State.putVec_moves ?_ ?_
    | (extract_lets +onlyGivenNames t; refine Moves.cut (F := F) (s₀ := s₀) (t := t) ?_ (fun ht => ?_); rotate_left; (try clear_value t); rotate_left; subst t)
    | simp (disch := first | exact hp.out rfl | with_reducible exact fun _ => rfl) only [Moves.mk_iff]

theorem State.losePower_moves (hu : F.fabMem = true) (hr : F.frames = true) (hp : Sub 9008298766368944 F.parts) {s : State} {n : ℕ} (h : Moves F s₀ s) :
    Moves F s₀ (State.losePower s n) := by
  unfold State.losePower
  exact State.drawn_moves (State.updStope_moves (hp.sub rfl) (Moves.newUnits hu (fun e => by
    rw [State.unitsWf, Bool.and_eq_true] at e
    exact ⟨Tab.wf_filter keyLt_order _ e.1, Tab.wf_filter keyLt_order _ e.2⟩) (State.unconfigure_moves hr (hp.sub rfl) h)))

theorem State.coldStopeRegs_moves (hp : Sub 16 F.parts) {s : State} {n : ℕ} (h : Moves F s₀ s) : Moves F s₀ (State.coldStopeRegs s n) :=
  Moves.newRegs (fun k => Tab.rising_filter keyLt_order _ k) (fun f hf u j => by
    refine Tab.get_filter _ (fun v => ?_)
    have k : f.blk.code ≠ Block.st.code := fun k => by rw [k, hp.bit rfl] at hf; cases hf
    simp [Fld.idBlock_id, k]) h

theorem State.dropMoved_moves (hp : Sub 137438953472 F.parts) {s : State} {n : ℕ} (h : Moves F s₀ s) : Moves F s₀ (State.dropMoved s n) := by
  unfold State.dropMoved
  repeat' first
    | with_reducible assumption
    | exact hp.bit rfl
    | exact hp.sub rfl
    | with_reducible refine State.smp_moves ?_ ?_
    | simp (disch := first | exact hp.out rfl | with_reducible exact fun _ => rfl) only [Moves.mk_iff]

theorem State.copyOutStope_moves (hp : Sub 9007199254740992 F.parts) {s : State} {n : ℕ} (h : Moves F s₀ s) : Moves F s₀ (State.copyOutStope s n) := by
  unfold State.copyOutStope
  repeat' first
    | with_reducible assumption
    | exact hp.bit rfl
    | exact hp.sub rfl
    | exact Sub.mem (f := a) hp ha (by rfl)
    | with_reducible refine State.updStope_moves ?_ ?_
    | with_reducible refine Moves.foldl ?_ (fun t a ha ht => ?_)
    | (extract_lets +onlyGivenNames t; refine Moves.cut (F := F) (s₀ := s₀) (t := t) ?_ (fun ht => ?_); rotate_left; (try clear_value t); rotate_left; subst t)
    | (extract_lets +onlyGivenNames t; try clear_value t)
    | simp (disch := first | exact hp.out rfl | with_reducible exact fun _ => rfl) only [Moves.mk_iff]

theorem State.stopeResetState_moves (hp : Sub 9007336693694480 F.parts) {s : State} {n : ℕ} (h : Moves F s₀ s) : Moves F s₀ (State.stopeResetState s n) := by
  unfold State.stopeResetState
  repeat' first
    | with_reducible assumption
    | exact hp.bit rfl
    | exact hp.sub rfl
    | with_reducible refine State.dropMoved_moves ?_ ?_
    | with_reducible refine State.coldStopeRegs_moves ?_ ?_
    | with_reducible refine State.wr_moves ?_ ?_
    | with_reducible refine State.updStope_moves ?_ ?_
    | (extract_lets +onlyGivenNames t; refine Moves.cut (F := F) (s₀ := s₀) (t := t) ?_ (fun ht => ?_); rotate_left; (try clear_value t); rotate_left; subst t)
    | (extract_lets +onlyGivenNames t; try clear_value t)
    | split
    | simp (disch := first | exact hp.out rfl | with_reducible exact fun _ => rfl) only [Moves.mk_iff]

/-! ### Loader -/

theorem State.ld_moves (hp : Sub 4398046511104 F.parts) {s : State} {g : Loader → Loader} (h : Moves F s₀ s) : Moves F s₀ (State.ld s g) := by
  unfold State.ld
  repeat' first
    | with_reducible assumption
    | exact hp.bit rfl
    | exact hp.sub rfl
    | simp (disch := first | exact hp.out rfl | with_reducible exact fun _ => rfl) only [Moves.mk_iff]

theorem State.showExtents_moves (hp : Sub 32 F.parts) {s : State} (h : Moves F s₀ s) : Moves F s₀ (State.showExtents s) := by
  unfold State.showExtents
  repeat' first
    | with_reducible assumption
    | exact hp.bit rfl
    | exact hp.sub rfl
    | with_reducible refine State.wr_moves ?_ ?_
    | (extract_lets +onlyGivenNames t; refine Moves.cut (F := F) (s₀ := s₀) (t := t) ?_ (fun ht => ?_); rotate_left; (try clear_value t); rotate_left; subst t)
    | (extract_lets +onlyGivenNames t; try clear_value t)

theorem State.loadStart_moves (hp : Sub 4398046511136 F.parts) {s : State} (h : Moves F s₀ s) : Moves F s₀ (State.loadStart s) := by
  unfold State.loadStart
  repeat' first
    | with_reducible assumption
    | exact hp.bit rfl
    | exact hp.sub rfl
    | with_reducible refine State.ld_moves ?_ ?_
    | with_reducible refine State.wr_moves ?_ ?_
    | (extract_lets +onlyGivenNames t; refine Moves.cut (F := F) (s₀ := s₀) (t := t) ?_ (fun ht => ?_); rotate_left; (try clear_value t); rotate_left; subst t)
    | simp (disch := first | exact hp.out rfl | with_reducible exact fun _ => rfl) only [Moves.mk_iff]

theorem execStart_moves (hp : Sub 4398046511136 F.parts) {byForeman : Bool} {s : State} {t : State} (e : execStart byForeman s = .next t) (h : Moves F s₀ s) : Moves F s₀ t := by
  unfold execStart at e
  try dsimp only at e
  cases Host.Outcome.next.inj e
  repeat' first
    | with_reducible assumption
    | exact hp.bit rfl
    | exact hp.sub rfl
    | with_reducible refine State.wr_moves ?_ ?_
    | with_reducible refine State.loadStart_moves ?_ ?_
    | split

theorem execAbort_moves (hp : Sub 4398046511200 F.parts) {s : State} {t : State} (e : execAbort s = .next t) (h : Moves F s₀ s) : Moves F s₀ t := by
  unfold execAbort at e
  try dsimp only at e
  cases Host.Outcome.next.inj e
  repeat' first
    | with_reducible assumption
    | exact hp.bit rfl
    | exact hp.sub rfl
    | with_reducible refine State.loadAbort_moves ?_ ?_
    | split

theorem execExtentPush_moves (hp : Sub 4398046511136 F.parts) {len : ℕ} {space : ℕ} {last : Bool} {byForeman : Bool} {s : State} {t : State} (e : execExtentPush len space last byForeman s = .next t) (h : Moves F s₀ s) : Moves F s₀ t := by
  unfold execExtentPush at e
  try dsimp only at e
  cases Host.Outcome.next.inj e
  repeat' first
    | with_reducible assumption
    | exact hp.bit rfl
    | exact hp.sub rfl
    | with_reducible refine State.wr_moves ?_ ?_
    | with_reducible refine State.showExtents_moves ?_ ?_
    | with_reducible refine State.ld_moves ?_ ?_
    | (extract_lets +onlyGivenNames t; refine Moves.cut (F := F) (s₀ := s₀) (t := t) ?_ (fun ht => ?_); rotate_left; (try clear_value t); rotate_left; subst t)
    | (extract_lets +onlyGivenNames t; try clear_value t)
    | split
    | simp (disch := first | exact hp.out rfl | with_reducible exact fun _ => rfl) only [Moves.mk_iff]

theorem State.truncation_moves (hp : Sub 4398046511200 F.parts) {s : State} (h : Moves F s₀ s) : Moves F s₀ (State.truncation s) := by
  unfold State.truncation
  repeat' first
    | with_reducible assumption
    | exact hp.bit rfl
    | exact hp.sub rfl
    | with_reducible refine State.loadAbort_moves ?_ ?_
    | split

theorem State.galleryExtent_moves (hp : Sub 4503599627370496 F.parts) {s : State} {a : ℕ} {n : ℕ} (h : Moves F s₀ s) : Moves F s₀ (State.galleryExtent s a n).2 := by
  unfold State.galleryExtent
  repeat' first
    | with_reducible assumption
    | exact hp.bit rfl
    | exact hp.sub rfl
    | exact Sub.mem (f := a) hp ha (by rfl)
    | dsimp only
    | with_reducible refine State.emit_moves ?_ ?_
    | with_reducible refine Moves.foldl ?_ (fun t a ha ht => ?_)
    | with_reducible refine Moves.foldl2 ?_ (fun y a ht => ?_)
    | with_reducible refine Moves.foldl1 ?_ (fun y a ht => ?_)
theorem State.galleryExtent_moves' (hp : Sub 4503599627370496 F.parts) {s : State} {a : ℕ} {n : ℕ} {r0 : List ℕ} {t : State} (e : State.galleryExtent s a n = (r0, t)) (h : Moves F s₀ s) : Moves F s₀ t := by
  have k := @State.galleryExtent_moves F s₀ (hp.sub rfl) s a n h
  rw [e] at k; exact k

theorem execExtentReadData_moves (hp : Sub 4507997673881696 F.parts) {data : List ℕ} {error : Bool} {s : State} {t : State} (e : execExtentReadData data error s = .next t) (h : Moves F s₀ s) : Moves F s₀ t := by
  unfold execExtentReadData at e
  try dsimp only at e
  cases Host.Outcome.next.inj e
  repeat' first
    | with_reducible assumption
    | exact hp.bit rfl
    | exact hp.sub rfl
    | with_reducible refine State.loadAbort_moves ?_ ?_
    | with_reducible refine State.galleryExtent_moves ?_ ?_
    | refine State.galleryExtent_moves' ?_ (by with_reducible assumption) ?_
    | with_reducible refine State.truncation_moves ?_ ?_
    | with_reducible refine State.showExtents_moves ?_ ?_
    | with_reducible refine State.ld_moves ?_ ?_
    | (extract_lets +onlyGivenNames t; refine Moves.cut (F := F) (s₀ := s₀) (t := t) ?_ (fun ht => ?_); rotate_left; (try clear_value t); rotate_left; subst t)
    | (extract_lets +onlyGivenNames t; try clear_value t)
    | split
    | simp (disch := first | exact hp.out rfl | with_reducible exact fun _ => rfl) only [Moves.mk_iff]

theorem State.clearMemories_moves (hu : F.fabMem = true) (hp : Sub 9007199254740992 F.parts) {s : State} {n : ℕ} (h : Moves F s₀ s) :
    Moves F s₀ (State.clearMemories s n) := by
  unfold State.clearMemories
  exact State.updStope_moves (hp.sub rfl) (Moves.newUnits hu (fun e => by
    rw [State.unitsWf, Bool.and_eq_true] at e
    exact ⟨Tab.wf_filter keyLt_order _ e.1, Tab.wf_filter keyLt_order _ e.2⟩) h)

theorem State.headerAccept_moves (hu : F.fabMem = true) (hr : F.frames = true) (hp : Sub 15770458485949360 F.parts) {s : State} {x1 : StreamHeader} (h : Moves F s₀ s) : Moves F s₀ (State.headerAccept s x1) := by
  unfold State.headerAccept
  repeat' first
    | with_reducible assumption
    | exact hp.bit rfl
    | exact hp.sub rfl
    | exact Sub.mem (f := a) hp ha (by rfl)
    | with_reducible refine State.stopeDown_moves ?_ ?_
    | with_reducible refine State.putVec_moves ?_ ?_
    | with_reducible refine State.clearFrames_moves hr ?_ ?_
    | with_reducible refine State.leaveUse_moves ?_ ?_
    | with_reducible refine State.windTo_moves ?_ ?_
    | with_reducible refine State.wr_moves ?_ ?_
    | with_reducible refine State.clearMemories_moves hu ?_ ?_
    | with_reducible refine State.scrubMeets_moves ?_ ?_
    | with_reducible refine State.ld_moves ?_ ?_
    | with_reducible refine Moves.foldl ?_ (fun t a ha ht => ?_)
    | (extract_lets +onlyGivenNames t; refine Moves.cut (F := F) (s₀ := s₀) (t := t) ?_ (fun ht => ?_); rotate_left; (try clear_value t); rotate_left; subst t)
    | (extract_lets +onlyGivenNames t; try clear_value t)
    | split
    | simp (disch := first | exact hp.out rfl | with_reducible exact fun _ => rfl) only [Moves.mk_iff]

theorem execStreamHeader_moves (hu : F.fabMem = true) (hr : F.frames = true) (hp : Sub 15770458485949424 F.parts) {y0 : Staged} {s : State} {t : State} (e : execStreamHeader y0 s = .next t) (h : Moves F s₀ s) : Moves F s₀ t := by
  unfold execStreamHeader at e
  try dsimp only at e
  cases Host.Outcome.next.inj e
  repeat' first
    | with_reducible assumption
    | exact hp.bit rfl
    | exact hp.sub rfl
    | with_reducible refine State.truncation_moves ?_ ?_
    | with_reducible refine State.headerAccept_moves hu hr ?_ ?_
    | with_reducible refine State.loadAbort_moves ?_ ?_
    | (extract_lets +onlyGivenNames t; refine Moves.cut (F := F) (s₀ := s₀) (t := t) ?_ (fun ht => ?_); rotate_left; (try clear_value t); rotate_left; subst t)
    | (extract_lets +onlyGivenNames t; try clear_value t)
    | split

theorem execSegmentHeader_moves (hp : Sub 4398046511200 F.parts) {y0 : Staged} {s : State} {t : State} (e : execSegmentHeader y0 s = .next t) (h : Moves F s₀ s) : Moves F s₀ t := by
  unfold execSegmentHeader at e
  try dsimp only at e
  cases Host.Outcome.next.inj e
  repeat' first
    | with_reducible assumption
    | exact hp.bit rfl
    | exact hp.sub rfl
    | with_reducible refine State.truncation_moves ?_ ?_
    | with_reducible refine State.loadAbort_moves ?_ ?_
    | with_reducible refine State.ld_moves ?_ ?_
    | (extract_lets +onlyGivenNames t; refine Moves.cut (F := F) (s₀ := s₀) (t := t) ?_ (fun ht => ?_); rotate_left; (try clear_value t); rotate_left; subst t)
    | (extract_lets +onlyGivenNames t; try clear_value t)
    | split
    | simp (disch := first | exact hp.out rfl | with_reducible exact fun _ => rfl) only [Moves.mk_iff]

theorem execSegmentTagCheck_moves (hp : Sub 4398046511200 F.parts) {y0 : Staged} {s : State} {t : State} (e : execSegmentTagCheck y0 s = .next t) (h : Moves F s₀ s) : Moves F s₀ t := by
  unfold execSegmentTagCheck at e
  try dsimp only at e
  cases Host.Outcome.next.inj e
  repeat' first
    | with_reducible assumption
    | exact hp.bit rfl
    | exact hp.sub rfl
    | with_reducible refine State.countWrap_moves ?_ ?_
    | with_reducible refine State.ld_moves ?_ ?_
    | with_reducible refine State.loadAbort_moves ?_ ?_
    | split
    | simp (disch := first | exact hp.out rfl | with_reducible exact fun _ => rfl) only [Moves.mk_iff]

theorem State.ibeus_moves (hp : Sub 4398046511200 F.parts) {s : State} {op : ℕ} {size : IbeusHdr → ℕ} {form : IbeusHdr → Bool} {act : State → Segment → ℕ → IbeusHdr → List ℕ → State} (ha : ∀ t g n hd b, Moves F s₀ t → Moves F s₀ (act t g n hd b)) (h : Moves F s₀ s) : Moves F s₀ (State.ibeus s op size form act) := by
  unfold State.ibeus
  repeat' first
    | with_reducible assumption
    | exact hp.bit rfl
    | exact hp.sub rfl
    | with_reducible refine State.loadAbort_moves ?_ ?_
    | with_reducible refine State.ld_moves ?_ ?_
    | with_reducible refine ha _ _ _ _ _ ?_
    | (extract_lets +onlyGivenNames t; refine Moves.cut (F := F) (s₀ := s₀) (t := t) ?_ (fun ht => ?_); rotate_left; (try clear_value t); rotate_left; subst t)
    | (extract_lets +onlyGivenNames t; try clear_value t)
    | split
    | simp (disch := first | exact hp.out rfl | with_reducible exact fun _ => rfl) only [Moves.mk_iff]

theorem execNop_moves (hp : Sub 4398046511200 F.parts) {y0 : Staged} {s : State} {t : State} (e : execNop y0 s = .next t) (h : Moves F s₀ s) : Moves F s₀ t := by
  unfold execNop at e
  try dsimp only at e
  cases Host.Outcome.next.inj e
  repeat' first
    | with_reducible assumption
    | exact hp.bit rfl
    | exact hp.sub rfl
    | with_reducible refine State.ibeus_moves ?_ (fun t g n hd b ht => ?_) ?_

theorem State.pump_moves (hp : Sub 4398046511168 F.parts) {s : State} (h : Moves F s₀ s) : Moves F s₀ (State.pump s) := by
  unfold State.pump
  repeat' first
    | with_reducible assumption
    | exact hp.bit rfl
    | exact hp.sub rfl
    | with_reducible refine State.showSeams_moves ?_ ?_
    | with_reducible refine State.ld_moves ?_ ?_
    | (extract_lets +onlyGivenNames t; refine Moves.cut (F := F) (s₀ := s₀) (t := t) ?_ (fun ht => ?_); rotate_left; (try clear_value t); rotate_left; subst t)
    | (extract_lets +onlyGivenNames t; try clear_value t)
    | simp (disch := first | exact hp.out rfl | with_reducible exact fun _ => rfl) only [Moves.mk_iff]

theorem execWrite_moves (hp : Sub 4398046511200 F.parts) {y0 : Staged} {y1 : Staged} {s : State} {t : State} (e : execWrite y0 y1 s = .next t) (h : Moves F s₀ s) : Moves F s₀ t := by
  unfold execWrite at e
  try dsimp only at e
  cases Host.Outcome.next.inj e
  repeat' first
    | with_reducible assumption
    | exact hp.bit rfl
    | exact hp.sub rfl
    | with_reducible refine State.ibeus_moves ?_ (fun t g n hd b ht => ?_) ?_
    | with_reducible refine State.loadAbort_moves ?_ ?_
    | with_reducible refine State.pump_moves ?_ ?_
    | with_reducible refine State.ld_moves ?_ ?_
    | split
    | simp (disch := first | exact hp.out rfl | with_reducible exact fun _ => rfl) only [Moves.mk_iff]

theorem execMeminit_moves (hu : F.fabMem = true) (hp : Sub 4398046511200 F.parts) {y0 : Staged} {y1 : Staged} {s : State} {t : State} (e : execMeminit y0 y1 s = .next t) (h : Moves F s₀ s) : Moves F s₀ t := by
  unfold execMeminit at e
  try dsimp only at e
  cases Host.Outcome.next.inj e
  repeat' first
    | with_reducible assumption
    | exact hp.bit rfl
    | exact hp.sub rfl
    | exact Sub.mem (f := a) hp ha (by rfl)
    | with_reducible refine State.ibeus_moves ?_ (fun t g n hd b ht => ?_) ?_
    | with_reducible refine State.loadAbort_moves ?_ ?_
    | with_reducible refine State.putUnit_moves hu ?_
    | with_reducible refine Moves.foldl ?_ (fun t a ha ht => ?_)
    | (extract_lets +onlyGivenNames t; refine Moves.cut (F := F) (s₀ := s₀) (t := t) ?_ (fun ht => ?_); rotate_left; (try clear_value t); rotate_left; subst t)
    | split

theorem execIbeusEnd_moves (hp : Sub 4398046511200 F.parts) {y0 : Staged} {s : State} {t : State} (e : execIbeusEnd y0 s = .next t) (h : Moves F s₀ s) : Moves F s₀ t := by
  unfold execIbeusEnd at e
  try dsimp only at e
  cases Host.Outcome.next.inj e
  repeat' first
    | with_reducible assumption
    | exact hp.bit rfl
    | exact hp.sub rfl
    | with_reducible refine State.ibeus_moves ?_ (fun t g n hd b ht => ?_) ?_
    | with_reducible refine State.loadAbort_moves ?_ ?_
    | with_reducible refine State.wr_moves ?_ ?_
    | with_reducible refine State.ld_moves ?_ ?_
    | (extract_lets +onlyGivenNames t; refine Moves.cut (F := F) (s₀ := s₀) (t := t) ?_ (fun ht => ?_); rotate_left; (try clear_value t); rotate_left; subst t)
    | (extract_lets +onlyGivenNames t; try clear_value t)
    | split
    | simp (disch := first | exact hp.out rfl | with_reducible exact fun _ => rfl) only [Moves.mk_iff]

theorem execFrameWritten_moves (hm : F.mem = true) (hr : F.frames = true) (hp : Sub 9013658885575664 F.parts) {seam : ℕ} {s : State} {t : State} (e : execFrameWritten seam s = .next t) (h : Moves F s₀ s) : Moves F s₀ t := by
  unfold execFrameWritten at e
  rw [need_next e]; clear e
  repeat' first
    | with_reducible assumption
    | exact hp.bit rfl
    | exact hp.sub rfl
    | exact Sub.mem (f := a) hp ha (by rfl)
    | refine need_moves (by with_reducible assumption) ?_
    | with_reducible refine State.loadAbort_moves ?_ ?_
    | with_reducible refine State.agentStore_moves hm ?_ ?_
    | with_reducible refine State.writeFrame_moves hr ?_ ?_
    | with_reducible refine State.ld_moves ?_ ?_
    | with_reducible refine State.pump_moves ?_ ?_
    | with_reducible refine State.countWrap_moves ?_ ?_
    | with_reducible refine Moves.foldl ?_ (fun t a ha ht => ?_)
    | (extract_lets +onlyGivenNames t; refine Moves.cut (F := F) (s₀ := s₀) (t := t) ?_ (fun ht => ?_); rotate_left; (try clear_value t); rotate_left; subst t)
    | (extract_lets +onlyGivenNames t; try clear_value t)
    | split
    | simp (disch := first | exact hp.out rfl | with_reducible exact fun _ => rfl) only [Moves.mk_iff]

theorem execShadowWriteAck_moves (hp : Sub 4398046511200 F.parts) {error : Bool} {s : State} {t : State} (e : execShadowWriteAck error s = .next t) (h : Moves F s₀ s) : Moves F s₀ t := by
  unfold execShadowWriteAck at e
  try dsimp only at e
  cases Host.Outcome.next.inj e
  repeat' first
    | with_reducible assumption
    | exact hp.bit rfl
    | exact hp.sub rfl
    | with_reducible refine State.ld_moves ?_ ?_
    | with_reducible refine State.loadAbort_moves ?_ ?_
    | (extract_lets +onlyGivenNames t; refine Moves.cut (F := F) (s₀ := s₀) (t := t) ?_ (fun ht => ?_); rotate_left; (try clear_value t); rotate_left; subst t)
    | split
    | simp (disch := first | exact hp.out rfl | with_reducible exact fun _ => rfl) only [Moves.mk_iff]

theorem State.stopeLoaded_moves (hp : Sub 9007336693694512 F.parts) {s : State} {full : Bool} {n : ℕ} (h : Moves F s₀ s) : Moves F s₀ (State.stopeLoaded s full n) := by
  unfold State.stopeLoaded
  repeat' first
    | with_reducible assumption
    | exact hp.bit rfl
    | exact hp.sub rfl
    | with_reducible refine State.updStope_moves ?_ ?_
    | with_reducible refine State.dropMoved_moves ?_ ?_
    | with_reducible refine State.putVec_moves ?_ ?_
    | with_reducible refine State.wr_moves ?_ ?_
    | with_reducible refine State.put_moves ?_ ?_
    | (extract_lets +onlyGivenNames t; refine Moves.cut (F := F) (s₀ := s₀) (t := t) ?_ (fun ht => ?_); rotate_left; (try clear_value t); rotate_left; subst t)
    | simp (disch := first | exact hp.out rfl | with_reducible exact fun _ => rfl) only [Moves.mk_iff]

theorem State.fullLoaded_moves (hm : F.mem = true) (hp : Sub 15763955905465232 F.parts) {s : State} (h : Moves F s₀ s) : Moves F s₀ (State.fullLoaded s) := by
  unfold State.fullLoaded
  repeat' first
    | with_reducible assumption
    | exact hp.bit rfl
    | exact hp.sub rfl
    | exact Sub.mem (f := a) hp ha (by rfl)
    | with_reducible refine State.windTo_moves ?_ ?_
    | with_reducible refine State.wr_moves ?_ ?_
    | with_reducible refine State.wd_moves ?_ ?_
    | with_reducible refine State.refreshStop_moves ?_ ?_
    | with_reducible refine State.emptySlot_moves ?_ ?_
    | with_reducible refine State.failSample_moves ?_ ?_
    | with_reducible refine State.smp_moves ?_ ?_
    | with_reducible refine State.clearStamps_moves hm ?_
    | with_reducible refine State.xpReset_moves ?_ ?_
    | with_reducible refine Moves.foldl ?_ (fun t a ha ht => ?_)
    | (extract_lets +onlyGivenNames t; refine Moves.cut (F := F) (s₀ := s₀) (t := t) ?_ (fun ht => ?_); rotate_left; (try clear_value t); rotate_left; subst t)
    | simp (disch := first | exact hp.out rfl | with_reducible exact fun _ => rfl) only [Moves.mk_iff]

theorem execLoadComplete_moves (hm : F.mem = true) (hp : Sub 15927508260182968 F.parts) {s : State} {t : State} (e : execLoadComplete s = .next t) (h : Moves F s₀ s) : Moves F s₀ t := by
  unfold execLoadComplete at e
  try dsimp only at e
  cases Host.Outcome.next.inj e
  repeat' first
    | with_reducible assumption
    | exact hp.bit rfl
    | exact hp.sub rfl
    | exact Sub.mem (f := a) hp ha (by rfl)
    | with_reducible refine State.put_moves ?_ ?_
    | with_reducible refine State.wr_moves ?_ ?_
    | with_reducible refine State.fullLoaded_moves hm ?_ ?_
    | with_reducible refine State.stopeLoaded_moves ?_ ?_
    | with_reducible refine State.checkBinEnds_moves ?_ ?_
    | with_reducible refine State.endReset_moves hm ?_ ?_
    | with_reducible refine State.scrubMeets_moves ?_ ?_
    | with_reducible refine State.recordStep_moves ?_ ?_
    | with_reducible refine State.showExtents_moves ?_ ?_
    | with_reducible refine State.ld_moves ?_ ?_
    | with_reducible refine State.post_moves ?_ ?_
    | with_reducible refine State.fo_moves ?_ ?_
    | with_reducible refine Moves.foldl ?_ (fun t a ha ht => ?_)
    | (extract_lets +onlyGivenNames t; refine Moves.cut (F := F) (s₀ := s₀) (t := t) ?_ (fun ht => ?_); rotate_left; (try clear_value t); rotate_left; subst t)
    | (extract_lets +onlyGivenNames t; try clear_value t)
    | split
    | simp (disch := first | exact hp.out rfl | with_reducible exact fun _ => rfl) only [Moves.mk_iff]

theorem State.diagFailed_moves (hp : Sub 2396935348617248 F.parts) {s : State} {d : DiagLoad} {aborted : Bool} {err : ℕ} (h : Moves F s₀ s) : Moves F s₀ (State.diagFailed s d aborted err) := by
  unfold State.diagFailed
  repeat' first
    | with_reducible assumption
    | exact hp.bit rfl
    | exact hp.sub rfl
    | with_reducible refine State.post_moves ?_ ?_
    | with_reducible refine State.recordStep_moves ?_ ?_
    | with_reducible refine State.ld_moves ?_ ?_
    | with_reducible refine State.wr_moves ?_ ?_
    | (extract_lets +onlyGivenNames t; refine Moves.cut (F := F) (s₀ := s₀) (t := t) ?_ (fun ht => ?_); rotate_left; (try clear_value t); rotate_left; subst t)
    | split
    | simp (disch := first | exact hp.out rfl | with_reducible exact fun _ => rfl) only [Moves.mk_iff]

theorem execAbortDone_moves (hr : F.frames = true) (hp : Sub 11405234114986208 F.parts) {s : State} {t : State} (e : execAbortDone s = .next t) (h : Moves F s₀ s) : Moves F s₀ t := by
  unfold execAbortDone at e
  try dsimp only at e
  cases Host.Outcome.next.inj e
  repeat' first
    | with_reducible assumption
    | exact hp.bit rfl
    | exact hp.sub rfl
    | exact Sub.mem (f := a) hp ha (by rfl)
    | with_reducible refine State.putVec_moves ?_ ?_
    | with_reducible refine State.clearFrames_moves hr ?_ ?_
    | with_reducible refine State.scrubMeets_moves ?_ ?_
    | with_reducible refine State.wr_moves ?_ ?_
    | with_reducible refine State.post_moves ?_ ?_
    | with_reducible refine State.showSeams_moves ?_ ?_
    | with_reducible refine State.showExtents_moves ?_ ?_
    | with_reducible refine State.ld_moves ?_ ?_
    | with_reducible refine State.diagFailed_moves ?_ ?_
    | with_reducible refine Moves.foldl ?_ (fun t a ha ht => ?_)
    | (extract_lets +onlyGivenNames t; refine Moves.cut (F := F) (s₀ := s₀) (t := t) ?_ (fun ht => ?_); rotate_left; (try clear_value t); rotate_left; subst t)
    | (extract_lets +onlyGivenNames t; try clear_value t)
    | split
    | simp (disch := first | exact hp.out rfl | with_reducible exact fun _ => rfl) only [Moves.mk_iff]

theorem State.deadlineExpires_moves (hp : Sub 4398046576736 F.parts) {s : State} (h : Moves F s₀ s) : Moves F s₀ (State.deadlineExpires s) := by
  unfold State.deadlineExpires
  repeat' first
    | with_reducible assumption
    | exact hp.bit rfl
    | exact hp.sub rfl
    | with_reducible refine State.wr_moves ?_ ?_
    | with_reducible refine State.loadAbort_moves ?_ ?_
    | with_reducible refine State.ld_moves ?_ ?_
    | (extract_lets +onlyGivenNames t; refine Moves.cut (F := F) (s₀ := s₀) (t := t) ?_ (fun ht => ?_); rotate_left; (try clear_value t); rotate_left; subst t)
    | split
    | simp (disch := first | exact hp.out rfl | with_reducible exact fun _ => rfl) only [Moves.mk_iff]

theorem execLoadDeadline_moves (hp : Sub 4398046576736 F.parts) {s : State} {t : State} (e : execLoadDeadline s = .next t) (h : Moves F s₀ s) : Moves F s₀ t := by
  unfold execLoadDeadline at e
  try dsimp only at e
  cases Host.Outcome.next.inj e
  repeat' first
    | with_reducible assumption
    | exact hp.bit rfl
    | exact hp.sub rfl
    | with_reducible refine State.deadlineExpires_moves ?_ ?_
    | split

theorem execDiagSectionCheck_moves (hp : Sub 2396935348617248 F.parts) {good : Bool} {ofs : ℕ} {len : ℕ} {s : State} {t : State} (e : execDiagSectionCheck good ofs len s = .next t) (h : Moves F s₀ s) : Moves F s₀ t := by
  unfold execDiagSectionCheck at e
  try dsimp only at e
  cases Host.Outcome.next.inj e
  repeat' first
    | with_reducible assumption
    | exact hp.bit rfl
    | exact hp.sub rfl
    | with_reducible refine State.ld_moves ?_ ?_
    | with_reducible refine State.loadStart_moves ?_ ?_
    | with_reducible refine State.showExtents_moves ?_ ?_
    | with_reducible refine State.diagFailed_moves ?_ ?_
    | (extract_lets +onlyGivenNames t; refine Moves.cut (F := F) (s₀ := s₀) (t := t) ?_ (fun ht => ?_); rotate_left; (try clear_value t); rotate_left; subst t)
    | (extract_lets +onlyGivenNames t; try clear_value t)
    | split
    | simp (disch := first | exact hp.out rfl | with_reducible exact fun _ => rfl) only [Moves.mk_iff]

theorem execReadback_moves (hp : Sub 4398046511168 F.parts) {seam : ℕ} {faddr : ℕ} {s : State} {t : State} (e : execReadback seam faddr s = .next t) (h : Moves F s₀ s) : Moves F s₀ t := by
  unfold execReadback at e
  rw [need_next e]; clear e
  repeat' first
    | with_reducible assumption
    | exact hp.bit rfl
    | exact hp.sub rfl
    | refine need_moves (by with_reducible assumption) ?_
    | with_reducible refine State.wr_moves ?_ ?_
    | with_reducible refine State.ld_moves ?_ ?_
    | (extract_lets +onlyGivenNames t; refine Moves.cut (F := F) (s₀ := s₀) (t := t) ?_ (fun ht => ?_); rotate_left; (try clear_value t); rotate_left; subst t)
    | split
    | simp (disch := first | exact hp.out rfl | with_reducible exact fun _ => rfl) only [Moves.mk_iff]

theorem execReadbackDone_moves (hp : Sub 4398046511168 F.parts) {seam : ℕ} {s : State} {t : State} (e : execReadbackDone seam s = .next t) (h : Moves F s₀ s) : Moves F s₀ t := by
  unfold execReadbackDone at e
  rw [need_next e]; clear e
  repeat' first
    | with_reducible assumption
    | exact hp.bit rfl
    | exact hp.sub rfl
    | exact Sub.mem (f := a) hp ha (by rfl)
    | refine need_moves (by with_reducible assumption) ?_
    | with_reducible refine State.wr_moves ?_ ?_
    | with_reducible refine State.put_moves ?_ ?_
    | with_reducible refine State.ld_moves ?_ ?_
    | with_reducible refine Moves.foldl ?_ (fun t a ha ht => ?_)
    | with_reducible refine Moves.foldl2 ?_ (fun y a ht => ?_)
    | with_reducible refine Moves.foldl1 ?_ (fun y a ht => ?_)
    | (extract_lets +onlyGivenNames t; refine Moves.cut (F := F) (s₀ := s₀) (t := t) ?_ (fun ht => ?_); rotate_left; (try clear_value t); rotate_left; subst t)
    | (extract_lets +onlyGivenNames t; try clear_value t)
    | split
    | simp (disch := first | exact hp.out rfl | with_reducible exact fun _ => rfl) only [Moves.mk_iff]

end Sys2Proof.Machine
end

