-- ==== Sys2Proof/Laws/MovesE.lean ====
section
/-! SUPPORT. What each operation and meaning of these files may do to the state as a whole (see Moves.lean):
Foreman, Resets, Clocks, DramAccess, Dram, RegReads, TraceOps, LampOps. -/

namespace Sys2Proof.Machine

set_option linter.unusedTactic false
set_option linter.unreachableTactic false
set_option linter.unusedVariables false
set_option linter.tactic.unusedName false

variable {F : Foot} {s₀ : State}

/-! ### Foreman -/

theorem State.bootImage_moves (hp : Sub 6904958792433920 F.parts) {s : State} {image : ℕ} {v : ImageView} (h : Moves F s₀ s) : Moves F s₀ (State.bootImage s image v) := by
  unfold State.bootImage
  repeat' first
    | with_reducible assumption
    | exact hp.bit rfl
    | exact hp.sub rfl
    | with_reducible refine State.setReady_moves ?_ ?_
    | with_reducible refine State.wr_moves ?_ ?_
    | with_reducible refine State.post_moves ?_ ?_
    | with_reducible refine State.fo_moves ?_ ?_
    | with_reducible refine State.enumerate_moves ?_ ?_
    | (extract_lets +onlyGivenNames t; refine Moves.cut (F := F) (s₀ := s₀) (t := t) ?_ (fun ht => ?_); rotate_left; (try clear_value t); rotate_left; subst t)
    | split
    | simp (disch := first | exact hp.out rfl | with_reducible exact fun _ => rfl) only [Moves.mk_iff]

theorem State.imageFailed_moves (hp : Sub 2251799813685248 F.parts) {s : State} {image : ℕ} {c : ℕ} (h : Moves F s₀ s) : Moves F s₀ (State.imageFailed s image c) := by
  unfold State.imageFailed
  repeat' first
    | with_reducible assumption
    | exact hp.bit rfl
    | exact hp.sub rfl
    | with_reducible refine State.post_moves ?_ ?_

theorem execFwPrimary_moves (hp : Sub 6904958792433920 F.parts) {v : ImageView} {s : State} {t : State} (e : execFwPrimary v s = .next t) (h : Moves F s₀ s) : Moves F s₀ t := by
  unfold execFwPrimary at e
  try dsimp only at e
  cases Host.Outcome.next.inj e
  repeat' first
    | with_reducible assumption
    | exact hp.bit rfl
    | exact hp.sub rfl
    | with_reducible refine State.wr_moves ?_ ?_
    | with_reducible refine State.onRecord_moves ?_ ?_
    | with_reducible refine State.fo_moves ?_ ?_
    | with_reducible refine State.recordStep_moves ?_ ?_
    | with_reducible refine State.bootImage_moves ?_ ?_
    | with_reducible refine State.imageFailed_moves ?_ ?_
    | (extract_lets +onlyGivenNames t; refine Moves.cut (F := F) (s₀ := s₀) (t := t) ?_ (fun ht => ?_); rotate_left; (try clear_value t); rotate_left; subst t)
    | split
    | simp (disch := first | exact hp.out rfl | with_reducible exact fun _ => rfl) only [Moves.mk_iff]

theorem execFwGolden_moves (hp : Sub 6904958792433920 F.parts) {v : ImageView} {s : State} {t : State} (e : execFwGolden v s = .next t) (h : Moves F s₀ s) : Moves F s₀ t := by
  unfold execFwGolden at e
  try dsimp only at e
  cases Host.Outcome.next.inj e
  repeat' first
    | with_reducible assumption
    | exact hp.bit rfl
    | exact hp.sub rfl
    | with_reducible refine State.recordStep_moves ?_ ?_
    | with_reducible refine State.bootImage_moves ?_ ?_
    | with_reducible refine State.fo_moves ?_ ?_
    | with_reducible refine State.imageFailed_moves ?_ ?_
    | with_reducible refine State.wr_moves ?_ ?_
    | (extract_lets +onlyGivenNames t; refine Moves.cut (F := F) (s₀ := s₀) (t := t) ?_ (fun ht => ?_); rotate_left; (try clear_value t); rotate_left; subst t)
    | split
    | simp (disch := first | exact hp.out rfl | with_reducible exact fun _ => rfl) only [Moves.mk_iff]

theorem execBase_moves (hp : Sub 2392537302106113 F.parts) {s : State} {t : State} (e : execBase s = .next t) (h : Moves F s₀ s) : Moves F s₀ t := by
  unfold execBase at e
  try dsimp only at e
  cases Host.Outcome.next.inj e
  repeat' first
    | with_reducible assumption
    | exact hp.bit rfl
    | exact hp.sub rfl
    | with_reducible refine State.recordStep_moves ?_ ?_
    | with_reducible refine State.wr_moves ?_ ?_
    | split

theorem execFuse_moves (hp : Sub 6896145519411200 F.parts) {ok : Bool} {s : State} {t : State} (e : execFuse ok s = .next t) (h : Moves F s₀ s) : Moves F s₀ t := by
  unfold execFuse at e
  try dsimp only at e
  cases Host.Outcome.next.inj e
  repeat' first
    | with_reducible assumption
    | exact hp.bit rfl
    | exact hp.sub rfl
    | with_reducible refine State.setReady_moves ?_ ?_
    | with_reducible refine State.recordStep_moves ?_ ?_
    | split

theorem execSeamSelfTest_moves (hp : Sub 6896145519411200 F.parts) {seam : ℕ} {ok : Bool} {s : State} {t : State} (e : execSeamSelfTest seam ok s = .next t) (h : Moves F s₀ s) : Moves F s₀ t := by
  unfold execSeamSelfTest at e
  rw [need_next e]; clear e
  repeat' first
    | with_reducible assumption
    | exact hp.bit rfl
    | exact hp.sub rfl
    | refine need_moves (by with_reducible assumption) ?_
    | with_reducible refine State.setReady_moves ?_ ?_
    | with_reducible refine State.recordStep_moves ?_ ?_
    | split

theorem State.clearCrewMem_moves (hm : F.mem = true) (hp : Sub 70368744177664 F.parts) {s : State} {c : ℕ} (h : Moves F s₀ s) : Moves F s₀ (State.clearCrewMem s c) := by
  unfold State.clearCrewMem
  extract_lets mine
  refine Moves.hidden (Moves.newMem hm (l := s.mem.filter (fun p => !mine p.1)) (fun e => Tab.wf_filter natLt_order _ e) h)
    rfl rfl rfl rfl rfl rfl rfl rfl rfl rfl rfl rfl rfl (fun p e => by
      cases p with
      | regs b => exact fun _ _ _ _ => rfl
      | tram => exact hp.out rfl e
      | _ => exact rfl)

theorem execCrewInit_moves (hm : F.mem = true) (hp : Sub 6966514271977472 F.parts) {crew : ℕ} {ok : Bool} {s : State} {t : State} (e : execCrewInit crew ok s = .next t) (h : Moves F s₀ s) : Moves F s₀ t := by
  unfold execCrewInit at e
  rw [need_next e]; clear e
  repeat' first
    | with_reducible assumption
    | exact hp.bit rfl
    | exact hp.sub rfl
    | refine need_moves (by with_reducible assumption) ?_
    | with_reducible refine State.putBit_moves ?_ ?_
    | with_reducible refine State.recordStep_moves ?_ ?_
    | with_reducible refine State.setReady_moves ?_ ?_
    | with_reducible refine State.clearCrewMem_moves hm ?_ ?_
    | with_reducible refine State.onRecord_moves ?_ ?_
    | split
    | simp (disch := first | exact hp.out rfl | with_reducible exact fun _ => rfl) only [Moves.mk_iff]

theorem execXcCalibrate_moves (hp : Sub 6896145519411200 F.parts) {good : ℕ} {s : State} {t : State} (e : execXcCalibrate good s = .next t) (h : Moves F s₀ s) : Moves F s₀ t := by
  unfold execXcCalibrate at e
  try dsimp only at e
  cases Host.Outcome.next.inj e
  repeat' first
    | with_reducible assumption
    | exact hp.bit rfl
    | exact hp.sub rfl
    | exact Sub.mem (f := a) hp ha (by rfl)
    | with_reducible refine State.recordStep_moves ?_ ?_
    | with_reducible refine State.onRecord_moves ?_ ?_
    | with_reducible refine State.setReady_moves ?_ ?_
    | with_reducible refine Moves.foldl ?_ (fun t a ha ht => ?_)
    | (extract_lets +onlyGivenNames t; refine Moves.cut (F := F) (s₀ := s₀) (t := t) ?_ (fun ht => ?_); rotate_left; (try clear_value t); rotate_left; subst t)
    | (extract_lets +onlyGivenNames t; try clear_value t)
    | split
    | simp (disch := first | exact hp.out rfl | with_reducible exact fun _ => rfl) only [Moves.mk_iff]

theorem execShiftStart_moves (hp : Sub 6896145519411200 F.parts) {s : State} {t : State} (e : execShiftStart s = .next t) (h : Moves F s₀ s) : Moves F s₀ t := by
  unfold execShiftStart at e
  try dsimp only at e
  cases Host.Outcome.next.inj e
  repeat' first
    | with_reducible assumption
    | exact hp.bit rfl
    | exact hp.sub rfl
    | with_reducible refine State.setReady_moves ?_ ?_
    | with_reducible refine State.recordStep_moves ?_ ?_
    | split

theorem execFabric_moves (hp : Sub 140737488420864 F.parts) {s : State} {t : State} (e : execFabric s = .next t) (h : Moves F s₀ s) : Moves F s₀ t := by
  unfold execFabric at e
  try dsimp only at e
  cases Host.Outcome.next.inj e
  repeat' first
    | with_reducible assumption
    | exact hp.bit rfl
    | exact hp.sub rfl
    | with_reducible refine State.put_moves ?_ ?_
    | with_reducible refine State.fo_moves ?_ ?_
    | split
    | simp (disch := first | exact hp.out rfl | with_reducible exact fun _ => rfl) only [Moves.mk_iff]

theorem State.writeRecord_moves (hf : F.flash = true) {s : State} {r : Option StartRecord} (h : Moves F s₀ s) : Moves F s₀ (State.writeRecord s r) :=
  Moves.newFlash hf h

theorem execRecord_moves (hf : F.flash = true) (hp : Sub 2392537302106112 F.parts) {ok : Bool} {s : State} {t : State} (e : execRecord ok s = .next t) (h : Moves F s₀ s) : Moves F s₀ t := by
  unfold execRecord at e
  try dsimp only at e
  cases Host.Outcome.next.inj e
  repeat' first
    | with_reducible assumption
    | exact hp.bit rfl
    | exact hp.sub rfl
    | with_reducible refine State.recordStep_moves ?_ ?_
    | with_reducible refine State.writeRecord_moves hf ?_
    | (extract_lets +onlyGivenNames t; refine Moves.cut (F := F) (s₀ := s₀) (t := t) ?_ (fun ht => ?_); rotate_left; (try clear_value t); rotate_left; subst t)
    | split
    | simp (disch := first | exact hp.out rfl | with_reducible exact fun _ => rfl) only [Moves.mk_iff]

theorem execLoadDeadlineWrite_moves (hp : Sub 4398046576736 F.parts) {ms : ℕ} {elapsed : ℕ} {s : State} {t : State} (e : execLoadDeadlineWrite ms elapsed s = .next t) (h : Moves F s₀ s) : Moves F s₀ t := by
  unfold execLoadDeadlineWrite at e
  try dsimp only at e
  cases Host.Outcome.next.inj e
  repeat' first
    | with_reducible assumption
    | exact hp.bit rfl
    | exact hp.sub rfl
    | with_reducible refine State.wr_moves ?_ ?_
    | with_reducible refine State.deadlineExpires_moves ?_ ?_
    | (extract_lets +onlyGivenNames t; refine Moves.cut (F := F) (s₀ := s₀) (t := t) ?_ (fun ht => ?_); rotate_left; (try clear_value t); rotate_left; subst t)
    | split

theorem execLogEntry_moves (hp : Sub 6896145519411200 F.parts) {time : ℕ} {s : State} {t : State} (e : execLogEntry time s = .next t) (h : Moves F s₀ s) : Moves F s₀ t := by
  unfold execLogEntry at e
  try dsimp only at e
  cases Host.Outcome.next.inj e
  repeat' first
    | with_reducible assumption
    | exact hp.bit rfl
    | exact hp.sub rfl
    | with_reducible refine State.fo_moves ?_ ?_
    | with_reducible refine State.wr_moves ?_ ?_
    | with_reducible refine State.raise_moves ?_ ?_ ?_
    | (extract_lets +onlyGivenNames t; refine Moves.cut (F := F) (s₀ := s₀) (t := t) ?_ (fun ht => ?_); rotate_left; (try clear_value t); rotate_left; subst t)
    | (extract_lets +onlyGivenNames t; try clear_value t)
    | split
    | simp (disch := first | exact hp.out rfl | with_reducible exact fun _ => rfl) only [Moves.mk_iff]

theorem State.advanceFlashed_moves (hp : Sub 65536 F.parts) {s : State} {x1 : ℕ} (h : Moves F s₀ s) : Moves F s₀ (State.advanceFlashed s x1) := by
  induction x1 generalizing s with
  | zero =>
    unfold State.advanceFlashed
    repeat' first
      | with_reducible assumption
      | exact hp.bit rfl
      | exact hp.sub rfl
      | with_reducible refine State.wr_moves ?_ ?_
      | (extract_lets +onlyGivenNames t; refine Moves.cut (F := F) (s₀ := s₀) (t := t) ?_ (fun ht => ?_); rotate_left; (try clear_value t); rotate_left; subst t)
      | (extract_lets +onlyGivenNames t; try clear_value t)
      | split
  | succ k ih =>
    unfold State.advanceFlashed
    repeat' first
      | with_reducible assumption
      | with_reducible refine ih ?_
      | exact hp.bit rfl
      | exact hp.sub rfl
      | with_reducible refine State.wr_moves ?_ ?_
      | (extract_lets +onlyGivenNames t; refine Moves.cut (F := F) (s₀ := s₀) (t := t) ?_ (fun ht => ?_); rotate_left; (try clear_value t); rotate_left; subst t)
      | (extract_lets +onlyGivenNames t; try clear_value t)
      | split

theorem execLogFlashMirror_moves (hf : F.flash = true) (hp : Sub 65536 F.parts) {seq : ℕ} {s : State} {t : State} (e : execLogFlashMirror seq s = .next t) (h : Moves F s₀ s) : Moves F s₀ t := by
  unfold execLogFlashMirror at e
  try dsimp only at e
  cases Host.Outcome.next.inj e
  repeat' first
    | with_reducible assumption
    | exact hp.bit rfl
    | exact hp.sub rfl
    | with_reducible refine State.advanceFlashed_moves ?_ ?_
    | simp only [Moves.flash_iff hf]
    | (extract_lets +onlyGivenNames t; refine Moves.cut (F := F) (s₀ := s₀) (t := t) ?_ (fun ht => ?_); rotate_left; (try clear_value t); rotate_left; subst t)
    | (extract_lets +onlyGivenNames t; try clear_value t)
    | split
    | simp (disch := first | exact hp.out rfl | with_reducible exact fun _ => rfl) only [Moves.mk_iff]

theorem State.setReading_moves {s : State} {fs : List Fld} {i : ℕ} {v : ℕ} (hq : ∀ f ∈ fs, F.parts.testBit f.blk.code = true)  (h : Moves F s₀ s) : Moves F s₀ (State.setReading s fs i v) := by
  unfold State.setReading
  repeat' first
    | with_reducible assumption
    | exact hq _ (by assumption)
    | exact hq _ (List.mem_of_getElem? (by assumption))
    | with_reducible refine State.wr_moves ?_ ?_
    | split

theorem State.limit_moves (hp : Sub 6896145519411200 F.parts) {s : State} {kind : ℕ} {i : ℕ} {at_ : Bool} {back : Bool} {flag : Fld} {irq : ℕ} {sev : ℕ} {arg : ℕ} (hq : F.parts.testBit flag.blk.code = true)  (h : Moves F s₀ s) : Moves F s₀ (State.limit s kind i at_ back flag irq sev arg) := by
  unfold State.limit
  repeat' first
    | with_reducible assumption
    | exact hp.bit rfl
    | exact hp.sub rfl
    | with_reducible refine State.wr_moves ?_ ?_
    | with_reducible refine State.post_moves ?_ ?_
    | with_reducible refine State.raise_moves ?_ ?_ ?_
    | with_reducible refine State.fo_moves ?_ ?_
    | (extract_lets +onlyGivenNames t; refine Moves.cut (F := F) (s₀ := s₀) (t := t) ?_ (fun ht => ?_); rotate_left; (try clear_value t); rotate_left; subst t)
    | (extract_lets +onlyGivenNames t; try clear_value t)
    | split
    | simp (disch := first | exact hp.out rfl | with_reducible exact fun _ => rfl) only [Moves.mk_iff]

theorem State.sampleTemp_moves (hp : Sub 6896145519411200 F.parts) {s : State} {i : ℕ} {v : ℕ} (h : Moves F s₀ s) : Moves F s₀ (State.sampleTemp s i v) := by
  unfold State.sampleTemp
  repeat' first
    | with_reducible assumption
    | exact hp.bit rfl
    | exact hp.sub rfl
    | exact fun f hf => hp.mem hf (by rfl)
    | with_reducible refine State.setReading_moves ?_ ?_
    | with_reducible refine State.limit_moves ?_ ?_ ?_
    | (extract_lets +onlyGivenNames t; refine Moves.cut (F := F) (s₀ := s₀) (t := t) ?_ (fun ht => ?_); rotate_left; (try clear_value t); rotate_left; subst t)
    | (extract_lets +onlyGivenNames t; try clear_value t)

theorem execSensorSample_moves (hp : Sub 6896145520459776 F.parts) {temps : List ℕ} {rails : List ℕ} {ains : List ℕ} {s : State} {t : State} (e : execSensorSample temps rails ains s = .next t) (h : Moves F s₀ s) : Moves F s₀ t := by
  unfold execSensorSample at e
  try dsimp only at e
  cases Host.Outcome.next.inj e
  repeat' first
    | with_reducible assumption
    | exact hp.bit rfl
    | exact hp.sub rfl
    | exact Sub.mem (f := a) hp ha (by rfl)
    | exact fun f hf => hp.mem hf (by rfl)
    | with_reducible refine State.sampleTemp_moves ?_ ?_
    | with_reducible refine State.setClass_moves ?_ ?_
    | with_reducible refine State.limit_moves ?_ ?_ ?_
    | with_reducible refine State.setReading_moves ?_ ?_
    | with_reducible refine State.wr_moves ?_ ?_
    | with_reducible refine Moves.foldl ?_ (fun t a ha ht => ?_)
    | with_reducible refine Moves.foldl2 ?_ (fun y a ht => ?_)
    | with_reducible refine Moves.foldl1 ?_ (fun y a ht => ?_)
    | (extract_lets +onlyGivenNames t; refine Moves.cut (F := F) (s₀ := s₀) (t := t) ?_ (fun ht => ?_); rotate_left; (try clear_value t); rotate_left; subst t)
    | (extract_lets +onlyGivenNames t; try clear_value t)
    | split

theorem execCurrentMonitorRead_moves (hp : Sub 6896145519411200 F.parts) {monitor : ℕ} {raw : Option ℕ} {s : State} {t : State} (e : execCurrentMonitorRead monitor raw s = .next t) (h : Moves F s₀ s) : Moves F s₀ t := by
  unfold execCurrentMonitorRead at e
  rw [need_next e]; clear e
  repeat' first
    | with_reducible assumption
    | exact hp.bit rfl
    | exact hp.sub rfl
    | exact fun f hf => hp.mem hf (by rfl)
    | refine need_moves (by with_reducible assumption) ?_
    | with_reducible refine State.fo_moves ?_ ?_
    | with_reducible refine State.wr_moves ?_ ?_
    | with_reducible refine State.limit_moves ?_ ?_ ?_
    | with_reducible refine State.setReading_moves ?_ ?_
    | (extract_lets +onlyGivenNames t; refine Moves.cut (F := F) (s₀ := s₀) (t := t) ?_ (fun ht => ?_); rotate_left; (try clear_value t); rotate_left; subst t)
    | (extract_lets +onlyGivenNames t; try clear_value t)
    | split
    | simp (disch := first | exact hp.out rfl | with_reducible exact fun _ => rfl) only [Moves.mk_iff]

/-! ### Resets -/

theorem State.ck_moves (hp : Sub 4294967296 F.parts) {s : State} {g : Clocks → Clocks} (h : Moves F s₀ s) : Moves F s₀ (State.ck s g) := by
  unfold State.ck
  repeat' first
    | with_reducible assumption
    | exact hp.bit rfl
    | exact hp.sub rfl
    | simp (disch := first | exact hp.out rfl | with_reducible exact fun _ => rfl) only [Moves.mk_iff]

theorem State.deriveKeys_moves (hp : Sub 549755813888 F.parts) {s : State} (h : Moves F s₀ s) : Moves F s₀ (State.deriveKeys s) := by
  unfold State.deriveKeys
  repeat' first
    | with_reducible assumption
    | exact hp.bit rfl
    | exact hp.sub rfl
    | with_reducible refine State.drawn_moves ?_
    | with_reducible refine State.en_moves (fun _ => ⟨rfl, rfl⟩) ?_ ?_
    | (extract_lets +onlyGivenNames t; refine Moves.cut (F := F) (s₀ := s₀) (t := t) ?_ (fun ht => ?_); rotate_left; (try clear_value t); rotate_left; subst t)
    | (extract_lets +onlyGivenNames t; try clear_value t)
    | simp (disch := first | exact hp.out rfl | with_reducible exact fun _ => rfl) only [Moves.mk_iff]

theorem State.gateRoot_moves (hp : Sub 4303355904 F.parts) {s : State} (h : Moves F s₀ s) : Moves F s₀ (State.gateRoot s) := by
  unfold State.gateRoot
  repeat' first
    | with_reducible assumption
    | exact hp.bit rfl
    | exact hp.sub rfl
    | with_reducible refine State.ck_moves ?_ ?_
    | with_reducible refine State.wr_moves ?_ ?_
    | split
    | simp (disch := first | exact hp.out rfl | with_reducible exact fun _ => rfl) only [Moves.mk_iff]

theorem State.restartSupervisor_moves (hp : Sub 4303355904 F.parts) {s : State} (h : Moves F s₀ s) : Moves F s₀ (State.restartSupervisor s) := by
  unfold State.restartSupervisor
  repeat' first
    | with_reducible assumption
    | exact hp.bit rfl
    | exact hp.sub rfl
    | with_reducible refine State.ck_moves ?_ ?_
    | with_reducible refine State.wr_moves ?_ ?_
    | simp (disch := first | exact hp.out rfl | with_reducible exact fun _ => rfl) only [Moves.mk_iff]

theorem State.foremanReboot_moves (hp : Sub 140737488355328 F.parts) {s : State} (h : Moves F s₀ s) : Moves F s₀ (State.foremanReboot s) := by
  unfold State.foremanReboot
  repeat' first
    | with_reducible assumption
    | exact hp.bit rfl
    | exact hp.sub rfl
    | with_reducible refine State.fo_moves ?_ ?_
    | simp (disch := first | exact hp.out rfl | with_reducible exact fun _ => rfl) only [Moves.mk_iff]

theorem State.reloadLog_moves (hp : Sub 140737488420864 F.parts) {s : State} (h : Moves F s₀ s) : Moves F s₀ (State.reloadLog s) := by
  unfold State.reloadLog
  repeat' first
    | with_reducible assumption
    | exact hp.bit rfl
    | exact hp.sub rfl
    | exact Sub.mem (f := a) hp ha (by rfl)
    | with_reducible refine State.fo_moves ?_ ?_
    | with_reducible refine State.wr_moves ?_ ?_
    | with_reducible refine Moves.foldl ?_ (fun t a ha ht => ?_)
    | (extract_lets +onlyGivenNames t; refine Moves.cut (F := F) (s₀ := s₀) (t := t) ?_ (fun ht => ?_); rotate_left; (try clear_value t); rotate_left; subst t)
    | (extract_lets +onlyGivenNames t; try clear_value t)
    | split
    | simp (disch := first | exact hp.out rfl | with_reducible exact fun _ => rfl) only [Moves.mk_iff]

theorem State.cold_moves (hm : F.mem = true) (hu : F.fabMem = true) (hr : F.frames = true) (hk : F.keys = true) (hp : Sub 18014394231291903 F.parts) {s : State}
    (h : Moves F s₀ s) : Moves F s₀ (State.cold s) := by
  unfold State.cold
  refine State.deriveKeys_moves (hp.sub rfl) (State.reloadLog_moves (hp.sub rfl) (h.trans ?_))
  exact ⟨rfl, List.prefix_refl _, Nat.le_refl _, fun _ => rfl, fun _ => rfl, fun _ => rfl, fun _ => rfl, fun _ => rfl, by simp [hm],
    by simp [hu], by simp [hr], fun _ => rfl, by simp [hk],
    fun p => by cases p <;> first | exact hp.out rfl | (exact fun _ => rfl) | (rename_i b; exact fun e => absurd ((hp.any rfl : F.parts.testBit b.code = true).symm.trans e) (by decide))⟩

theorem State.failTags_moves (hp : Sub 4503599627370496 F.parts) {s : State} (h : Moves F s₀ s) : Moves F s₀ (State.failTags s) := by
  unfold State.failTags
  repeat' first
    | with_reducible assumption
    | exact hp.bit rfl
    | exact hp.sub rfl
    | exact Sub.mem (f := a) hp ha (by rfl)
    | with_reducible refine State.emit_moves ?_ ?_
    | with_reducible refine Moves.foldl ?_ (fun t a ha ht => ?_)
    | with_reducible refine Moves.foldl2 ?_ (fun y a ht => ?_)
    | with_reducible refine Moves.foldl1 ?_ (fun y a ht => ?_)

theorem State.warmRegs_moves (hp : Sub 16777215 F.parts) {s : State} (h : Moves F s₀ s) : Moves F s₀ (State.warmRegs s) := by
  unfold State.warmRegs
  exact State.wr_moves (hp.any rfl) (Moves.newRegs (fun k => Tab.rising_filter keyLt_order _ k) (fun f hf => by rw [(hp.any rfl)] at hf; cases hf) h)

theorem State.warmParts_moves (hm : F.mem = true) (hu : F.fabMem = true) (hr : F.frames = true) (hp : Sub 11258994773458944 F.parts) {s : State} (h : Moves F s₀ s) :
    Moves F s₀ (State.warmParts s) := by
  unfold State.warmParts
  refine h.trans ⟨rfl, List.prefix_refl _, Nat.le_refl _, id, fun _ => rfl, fun _ => rfl, fun _ => rfl, fun _ => rfl, by simp [hm],
    by simp [hu], by simp [hr], fun _ => rfl, fun _ => ⟨rfl, rfl⟩, fun p => by cases p <;> first | exact hp.out rfl | exact fun _ => rfl | exact fun _ _ _ _ _ => rfl⟩

theorem State.endAllTargets_moves (hp : Sub 15762598695796736 F.parts) {s : State} (h : Moves F s₀ s) : Moves F s₀ (State.endAllTargets s) := by
  unfold State.endAllTargets
  repeat' first
    | with_reducible assumption
    | exact hp.bit rfl
    | exact hp.sub rfl
    | exact Sub.mem (f := a) hp ha (by rfl)
    | with_reducible refine State.endTargets_moves ?_ ?_
    | with_reducible refine Moves.foldl ?_ (fun t a ha ht => ?_)
    | with_reducible refine Moves.foldl2 ?_ (fun y a ht => ?_)
    | with_reducible refine Moves.foldl1 ?_ (fun y a ht => ?_)

theorem State.warm_moves (hm : F.mem = true) (hu : F.fabMem = true) (hr : F.frames = true) (hp : Sub 18014394231291903 F.parts) {s : State} {cause : Fld} (hq : F.parts.testBit cause.blk.code = true)  (h : Moves F s₀ s) : Moves F s₀ (State.warm s cause) := by
  unfold State.warm
  repeat' first
    | with_reducible assumption
    | exact hp.bit rfl
    | exact hp.sub rfl
    | exact hp.any rfl
    | exact Sub.mem (f := a) hp ha (by rfl)
    | with_reducible refine State.warmParts_moves hm hu hr ?_ ?_
    | with_reducible refine State.warmRegs_moves ?_ ?_
    | with_reducible refine State.failTags_moves ?_ ?_
    | with_reducible refine State.endAllTargets_moves ?_ ?_
    | with_reducible refine State.wr_moves ?_ ?_
    | with_reducible refine State.showKeys_moves ?_ ?_
    | with_reducible refine State.count_moves ?_ ?_
    | with_reducible refine State.post_moves ?_ ?_
    | with_reducible refine State.deriveKeys_moves ?_ ?_
    | with_reducible refine State.restartSupervisor_moves ?_ ?_
    | with_reducible refine Moves.foldl ?_ (fun t a ha ht => ?_)
    | with_reducible refine Moves.foldl2 ?_ (fun y a ht => ?_)
    | with_reducible refine Moves.foldl1 ?_ (fun y a ht => ?_)
    | (extract_lets +onlyGivenNames t; refine Moves.cut (F := F) (s₀ := s₀) (t := t) ?_ (fun ht => ?_); rotate_left; (try clear_value t); rotate_left; subst t)
    | (extract_lets +onlyGivenNames t; try clear_value t)
    | split

theorem State.crewLeaves_moves (hp : Sub 70368744177666 F.parts) {s : State} {c : ℕ} (h : Moves F s₀ s) : Moves F s₀ (State.crewLeaves s c) := by
  unfold State.crewLeaves
  repeat' first
    | with_reducible assumption
    | exact hp.bit rfl
    | exact hp.sub rfl
    | with_reducible refine State.tr_moves ?_ ?_
    | with_reducible refine State.stopHoists_moves ?_ ?_
    | simp (disch := first | exact hp.out rfl | with_reducible exact fun _ => rfl) only [Moves.mk_iff]

theorem State.clearCrew_moves (hm : F.mem = true) (hp : Sub 70368744177668 F.parts) {s : State} {c : ℕ} (h : Moves F s₀ s) : Moves F s₀ (State.clearCrew s c) := by
  unfold State.clearCrew
  repeat' first
    | with_reducible assumption
    | exact hp.bit rfl
    | exact hp.sub rfl
    | exact Sub.mem (f := a) hp ha (by rfl)
    | with_reducible refine State.coldEngine_moves ?_ ?_
    | with_reducible refine State.clearCrewMem_moves hm ?_ ?_
    | with_reducible refine Moves.foldl ?_ (fun t a ha ht => ?_)

/-! ### Clocks -/

theorem execCold_moves (hm : F.mem = true) (hu : F.fabMem = true) (hr : F.frames = true) (hk : F.keys = true) (hp : Sub 18014394231291903 F.parts) {s : State} {t : State} (e : execCold s = .next t) (h : Moves F s₀ s) : Moves F s₀ t := by
  unfold execCold at e
  try dsimp only at e
  cases Host.Outcome.next.inj e
  repeat' first
    | with_reducible assumption
    | exact hp.bit rfl
    | exact hp.sub rfl
    | exact hp.any rfl
    | with_reducible refine State.cold_moves hm hu hr hk ?_ ?_

theorem execVccAonLoss_moves (hp : Sub 4294967296 F.parts) {s : State} {t : State} (e : execVccAonLoss s = .next t) (h : Moves F s₀ s) : Moves F s₀ t := by
  unfold execVccAonLoss at e
  try dsimp only at e
  cases Host.Outcome.next.inj e
  repeat' first
    | with_reducible assumption
    | exact hp.bit rfl
    | exact hp.sub rfl
    | simp (disch := first | exact hp.out rfl | with_reducible exact fun _ => rfl) only [Moves.mk_iff]

theorem State.enterLimp_moves (hp : Sub 2251799822073856 F.parts) {s : State} (h : Moves F s₀ s) : Moves F s₀ (State.enterLimp s) := by
  unfold State.enterLimp
  repeat' first
    | with_reducible assumption
    | exact hp.bit rfl
    | exact hp.sub rfl
    | with_reducible refine State.wr_moves ?_ ?_
    | with_reducible refine State.post_moves ?_ ?_
    | (extract_lets +onlyGivenNames t; refine Moves.cut (F := F) (s₀ := s₀) (t := t) ?_ (fun ht => ?_); rotate_left; (try clear_value t); rotate_left; subst t)

theorem State.rootLoss_moves (hm : F.mem = true) (hu : F.fabMem = true) (hr : F.frames = true) (hp : Sub 18014394231291903 F.parts) {s : State} (h : Moves F s₀ s) : Moves F s₀ (State.rootLoss s) := by
  unfold State.rootLoss
  repeat' first
    | with_reducible assumption
    | exact hp.bit rfl
    | exact hp.sub rfl
    | exact hp.any rfl
    | with_reducible refine State.wr_moves ?_ ?_
    | with_reducible refine State.gateRoot_moves ?_ ?_
    | with_reducible refine State.post_moves ?_ ?_
    | with_reducible refine State.restartSupervisor_moves ?_ ?_
    | with_reducible refine State.warm_moves hm hu hr ?_ ?_ ?_
    | (extract_lets +onlyGivenNames t; refine Moves.cut (F := F) (s₀ := s₀) (t := t) ?_ (fun ht => ?_); rotate_left; (try clear_value t); rotate_left; subst t)
    | split
    | simp (disch := first | exact hp.out rfl | with_reducible exact fun _ => rfl) only [Moves.mk_iff]

theorem execRefclkWindowEnd_moves (hm : F.mem = true) (hu : F.fabMem = true) (hr : F.frames = true) (hp : Sub 18014394231291903 F.parts) {ringCount : ℕ} {s : State} {t : State} (e : execRefclkWindowEnd ringCount s = .next t) (h : Moves F s₀ s) : Moves F s₀ t := by
  unfold execRefclkWindowEnd at e
  try dsimp only at e
  cases Host.Outcome.next.inj e
  repeat' first
    | with_reducible assumption
    | exact hp.bit rfl
    | exact hp.sub rfl
    | exact hp.any rfl
    | with_reducible refine State.recordStep_moves ?_ ?_
    | with_reducible refine State.wr_moves ?_ ?_
    | with_reducible refine State.count_moves ?_ ?_
    | with_reducible refine State.enterLimp_moves ?_ ?_
    | with_reducible refine State.rootLoss_moves hm hu hr ?_ ?_
    | (extract_lets +onlyGivenNames t; refine Moves.cut (F := F) (s₀ := s₀) (t := t) ?_ (fun ht => ?_); rotate_left; (try clear_value t); rotate_left; subst t)
    | (extract_lets +onlyGivenNames t; try clear_value t)
    | split
    | simp (disch := first | exact hp.out rfl | with_reducible exact fun _ => rfl) only [Moves.mk_iff]

theorem execRefclkEdgeTimeout_moves (hm : F.mem = true) (hu : F.fabMem = true) (hr : F.frames = true) (hp : Sub 18014394231291903 F.parts) {s : State} {t : State} (e : execRefclkEdgeTimeout s = .next t) (h : Moves F s₀ s) : Moves F s₀ t := by
  unfold execRefclkEdgeTimeout at e
  try dsimp only at e
  cases Host.Outcome.next.inj e
  repeat' first
    | with_reducible assumption
    | exact hp.bit rfl
    | exact hp.sub rfl
    | exact hp.any rfl
    | with_reducible refine State.rootLoss_moves hm hu hr ?_ ?_
    | with_reducible refine State.count_moves ?_ ?_
    | split

theorem execRootLock_moves (hp : Sub 2392541605462016 F.parts) {s : State} {t : State} (e : execRootLock s = .next t) (h : Moves F s₀ s) : Moves F s₀ t := by
  unfold execRootLock at e
  try dsimp only at e
  cases Host.Outcome.next.inj e
  repeat' first
    | with_reducible assumption
    | exact hp.bit rfl
    | exact hp.sub rfl
    | with_reducible refine State.recordStep_moves ?_ ?_
    | with_reducible refine State.wr_moves ?_ ?_
    | split
    | simp (disch := first | exact hp.out rfl | with_reducible exact fun _ => rfl) only [Moves.mk_iff]

theorem execLockTimeout_moves (hp : Sub 2392541605462016 F.parts) {s : State} {t : State} (e : execLockTimeout s = .next t) (h : Moves F s₀ s) : Moves F s₀ t := by
  unfold execLockTimeout at e
  try dsimp only at e
  cases Host.Outcome.next.inj e
  repeat' first
    | with_reducible assumption
    | exact hp.bit rfl
    | exact hp.sub rfl
    | with_reducible refine State.count_moves ?_ ?_
    | with_reducible refine State.enterLimp_moves ?_ ?_
    | with_reducible refine State.recordStep_moves ?_ ?_
    | with_reducible refine State.wr_moves ?_ ?_
    | (extract_lets +onlyGivenNames t; refine Moves.cut (F := F) (s₀ := s₀) (t := t) ?_ (fun ht => ?_); rotate_left; (try clear_value t); rotate_left; subst t)
    | split
    | simp (disch := first | exact hp.out rfl | with_reducible exact fun _ => rfl) only [Moves.mk_iff]

theorem execAligned_moves (hp : Sub 4303355904 F.parts) {s : State} {t : State} (e : execAligned s = .next t) (h : Moves F s₀ s) : Moves F s₀ t := by
  unfold execAligned at e
  try dsimp only at e
  cases Host.Outcome.next.inj e
  repeat' first
    | with_reducible assumption
    | exact hp.bit rfl
    | exact hp.sub rfl
    | with_reducible refine State.wr_moves ?_ ?_
    | (extract_lets +onlyGivenNames t; refine Moves.cut (F := F) (s₀ := s₀) (t := t) ?_ (fun ht => ?_); rotate_left; (try clear_value t); rotate_left; subst t)
    | split
    | simp (disch := first | exact hp.out rfl | with_reducible exact fun _ => rfl) only [Moves.mk_iff]

theorem execClockSwitchDone_moves (hp : Sub 2392541605462016 F.parts) {s : State} {t : State} (e : execClockSwitchDone s = .next t) (h : Moves F s₀ s) : Moves F s₀ t := by
  unfold execClockSwitchDone at e
  try dsimp only at e
  cases Host.Outcome.next.inj e
  repeat' first
    | with_reducible assumption
    | exact hp.bit rfl
    | exact hp.sub rfl
    | with_reducible refine State.put_moves ?_ ?_
    | with_reducible refine State.recordStep_moves ?_ ?_
    | (extract_lets +onlyGivenNames t; refine Moves.cut (F := F) (s₀ := s₀) (t := t) ?_ (fun ht => ?_); rotate_left; (try clear_value t); rotate_left; subst t)
    | split
    | simp (disch := first | exact hp.out rfl | with_reducible exact fun _ => rfl) only [Moves.mk_iff]

theorem execSwitchHang_moves (hp : Sub 4303355904 F.parts) {s : State} {t : State} (e : execSwitchHang s = .next t) (h : Moves F s₀ s) : Moves F s₀ t := by
  unfold execSwitchHang at e
  try dsimp only at e
  cases Host.Outcome.next.inj e
  repeat' first
    | with_reducible assumption
    | exact hp.bit rfl
    | exact hp.sub rfl
    | with_reducible refine State.wr_moves ?_ ?_
    | with_reducible refine State.count_moves ?_ ?_
    | with_reducible refine State.put_moves ?_ ?_
    | (extract_lets +onlyGivenNames t; refine Moves.cut (F := F) (s₀ := s₀) (t := t) ?_ (fun ht => ?_); rotate_left; (try clear_value t); rotate_left; subst t)
    | split
    | simp (disch := first | exact hp.out rfl | with_reducible exact fun _ => rfl) only [Moves.mk_iff]

theorem execForemanResetRelease_moves (hp : Sub 140741783322624 F.parts) {s : State} {t : State} (e : execForemanResetRelease s = .next t) (h : Moves F s₀ s) : Moves F s₀ t := by
  unfold execForemanResetRelease at e
  try dsimp only at e
  cases Host.Outcome.next.inj e
  repeat' first
    | with_reducible assumption
    | exact hp.bit rfl
    | exact hp.sub rfl
    | with_reducible refine State.foremanReboot_moves ?_ ?_
    | split
    | simp (disch := first | exact hp.out rfl | with_reducible exact fun _ => rfl) only [Moves.mk_iff]

theorem execRootLost_moves (hm : F.mem = true) (hu : F.fabMem = true) (hr : F.frames = true) (hp : Sub 18014394231291903 F.parts) {s : State} {t : State} (e : execRootLost s = .next t) (h : Moves F s₀ s) : Moves F s₀ t := by
  unfold execRootLost at e
  try dsimp only at e
  cases Host.Outcome.next.inj e
  repeat' first
    | with_reducible assumption
    | exact hp.bit rfl
    | exact hp.sub rfl
    | exact hp.any rfl
    | with_reducible refine State.rootLoss_moves hm hu hr ?_ ?_
    | split

theorem execRailLost_moves (hm : F.mem = true) (hu : F.fabMem = true) (hr : F.frames = true) (hp : Sub 18014394231291903 F.parts) {rail : ℕ} {s : State} {t : State} (e : execRailLost rail s = .next t) (h : Moves F s₀ s) : Moves F s₀ t := by
  unfold execRailLost at e
  rw [need_next e]; clear e
  repeat' first
    | with_reducible assumption
    | exact hp.bit rfl
    | exact hp.sub rfl
    | exact hp.any rfl
    | (unfold railField; (repeat' split) <;> exact hp.bit rfl)
    | refine need_moves (by with_reducible assumption) ?_
    | with_reducible refine State.wr_moves ?_ ?_
    | with_reducible refine State.gateRoot_moves ?_ ?_
    | with_reducible refine State.warm_moves hm hu hr ?_ ?_ ?_
    | (extract_lets +onlyGivenNames t; refine Moves.cut (F := F) (s₀ := s₀) (t := t) ?_ (fun ht => ?_); rotate_left; (try clear_value t); rotate_left; subst t)
    | split
    | simp (disch := first | exact hp.out rfl | with_reducible exact fun _ => rfl) only [Moves.mk_iff]

theorem execRailGood_moves (hp : Sub 4303355904 F.parts) {s : State} {t : State} (e : execRailGood s = .next t) (h : Moves F s₀ s) : Moves F s₀ t := by
  unfold execRailGood at e
  try dsimp only at e
  cases Host.Outcome.next.inj e
  repeat' first
    | with_reducible assumption
    | exact hp.bit rfl
    | exact hp.sub rfl
    | exact Sub.mem (f := a) hp ha (by rfl)
    | (unfold railField; (repeat' split) <;> exact hp.bit rfl)
    | with_reducible refine State.wr_moves ?_ ?_
    | with_reducible refine State.restartSupervisor_moves ?_ ?_
    | with_reducible refine Moves.foldl ?_ (fun t a ha ht => ?_)
    | (extract_lets +onlyGivenNames t; refine Moves.cut (F := F) (s₀ := s₀) (t := t) ?_ (fun ht => ?_); rotate_left; (try clear_value t); rotate_left; subst t)
    | split

theorem execRetry_moves (hp : Sub 4303355904 F.parts) {byForeman : Bool} {s : State} {t : State} (e : execRetry byForeman s = .next t) (h : Moves F s₀ s) : Moves F s₀ t := by
  unfold execRetry at e
  try dsimp only at e
  cases Host.Outcome.next.inj e
  repeat' first
    | with_reducible assumption
    | exact hp.bit rfl
    | exact hp.sub rfl
    | with_reducible refine State.restartSupervisor_moves ?_ ?_
    | with_reducible refine State.wr_moves ?_ ?_
    | split

theorem execPhaseDivWrite_moves (hp : Sub 4303355904 F.parts) {n : ℕ} {s : State} {t : State} (e : execPhaseDivWrite n s = .next t) (h : Moves F s₀ s) : Moves F s₀ t := by
  unfold execPhaseDivWrite at e
  try dsimp only at e
  cases Host.Outcome.next.inj e
  repeat' first
    | with_reducible assumption
    | exact hp.bit rfl
    | exact hp.sub rfl
    | with_reducible refine State.wr_moves ?_ ?_
    | split
    | simp (disch := first | exact hp.out rfl | with_reducible exact fun _ => rfl) only [Moves.mk_iff]

theorem execPhaseDivApply_moves (hp : Sub 4303355904 F.parts) {s : State} {t : State} (e : execPhaseDivApply s = .next t) (h : Moves F s₀ s) : Moves F s₀ t := by
  unfold execPhaseDivApply at e
  try dsimp only at e
  cases Host.Outcome.next.inj e
  repeat' first
    | with_reducible assumption
    | exact hp.bit rfl
    | exact hp.sub rfl
    | with_reducible refine State.wr_moves ?_ ?_
    | split
    | simp (disch := first | exact hp.out rfl | with_reducible exact fun _ => rfl) only [Moves.mk_iff]

theorem execClockGate_moves (hp : Sub 4303355904 F.parts) {cls : ℕ} {unit : ℕ} {s : State} {t : State} (e : execClockGate cls unit s = .next t) (h : Moves F s₀ s) : Moves F s₀ t := by
  unfold execClockGate at e
  rw [need_next e]; clear e
  repeat' first
    | with_reducible assumption
    | exact hp.bit rfl
    | exact hp.sub rfl
    | refine need_moves (by with_reducible assumption) ?_
    | with_reducible refine State.putBit_moves ?_ ?_
    | split
    | simp (disch := first | exact hp.out rfl | with_reducible exact fun _ => rfl) only [Moves.mk_iff]

theorem execPerstAssert_moves (hm : F.mem = true) (hu : F.fabMem = true) (hr : F.frames = true) (hp : Sub 18014394231291903 F.parts) {s : State} {t : State} (e : execPerstAssert s = .next t) (h : Moves F s₀ s) : Moves F s₀ t := by
  unfold execPerstAssert at e
  try dsimp only at e
  cases Host.Outcome.next.inj e
  repeat' first
    | with_reducible assumption
    | exact hp.bit rfl
    | exact hp.sub rfl
    | exact hp.any rfl
    | with_reducible refine State.warm_moves hm hu hr ?_ ?_ ?_
    | (extract_lets +onlyGivenNames t; refine Moves.cut (F := F) (s₀ := s₀) (t := t) ?_ (fun ht => ?_); rotate_left; (try clear_value t); rotate_left; subst t)
    | split
    | simp (disch := first | exact hp.out rfl | with_reducible exact fun _ => rfl) only [Moves.mk_iff]

theorem execWarmReq_moves (hm : F.mem = true) (hu : F.fabMem = true) (hr : F.frames = true) (hp : Sub 18014394231291903 F.parts) {key : ℕ} {req : Bool} {s : State} {t : State} (e : execWarmReq key req s = .next t) (h : Moves F s₀ s) : Moves F s₀ t := by
  unfold execWarmReq at e
  try dsimp only at e
  cases Host.Outcome.next.inj e
  repeat' first
    | with_reducible assumption
    | exact hp.bit rfl
    | exact hp.sub rfl
    | exact hp.any rfl
    | with_reducible refine State.warm_moves hm hu hr ?_ ?_ ?_
    | split

theorem execWarmHoldEnd_moves (hp : Sub 140741783322624 F.parts) {s : State} {t : State} (e : execWarmHoldEnd s = .next t) (h : Moves F s₀ s) : Moves F s₀ t := by
  unfold execWarmHoldEnd at e
  try dsimp only at e
  cases Host.Outcome.next.inj e
  repeat' first
    | with_reducible assumption
    | exact hp.bit rfl
    | exact hp.sub rfl
    | with_reducible refine State.foremanReboot_moves ?_ ?_
    | split
    | simp (disch := first | exact hp.out rfl | with_reducible exact fun _ => rfl) only [Moves.mk_iff]

theorem execStopeResetReq_moves (hp : Sub 15770462789305328 F.parts) {stope : ℕ} {s : State} {t : State} (e : execStopeResetReq stope s = .next t) (h : Moves F s₀ s) : Moves F s₀ t := by
  unfold execStopeResetReq at e
  try dsimp only at e
  cases Host.Outcome.next.inj e
  repeat' first
    | with_reducible assumption
    | exact hp.bit rfl
    | exact hp.sub rfl
    | with_reducible refine State.wr_moves ?_ ?_
    | with_reducible refine State.stopeLeaves_moves ?_ ?_
    | with_reducible refine State.scrubsMeet_moves ?_ ?_
    | (extract_lets +onlyGivenNames t; refine Moves.cut (F := F) (s₀ := s₀) (t := t) ?_ (fun ht => ?_); rotate_left; (try clear_value t); rotate_left; subst t)
    | (extract_lets +onlyGivenNames t; try clear_value t)
    | split
    | simp (disch := first | exact hp.out rfl | with_reducible exact fun _ => rfl) only [Moves.mk_iff]

theorem execStopeResetLineHigh_moves (hp : Sub 9007340988661776 F.parts) {s : State} {t : State} (e : execStopeResetLineHigh s = .next t) (h : Moves F s₀ s) : Moves F s₀ t := by
  unfold execStopeResetLineHigh at e
  try dsimp only at e
  cases Host.Outcome.next.inj e
  repeat' first
    | with_reducible assumption
    | exact hp.bit rfl
    | exact hp.sub rfl
    | with_reducible refine State.stopeResetState_moves ?_ ?_
    | split
    | simp (disch := first | exact hp.out rfl | with_reducible exact fun _ => rfl) only [Moves.mk_iff]

theorem execStopeResetEnd_moves (hm : F.mem = true) (hp : Sub 13530456955835288 F.parts) {s : State} {t : State} (e : execStopeResetEnd s = .next t) (h : Moves F s₀ s) : Moves F s₀ t := by
  unfold execStopeResetEnd at e
  try dsimp only at e
  cases Host.Outcome.next.inj e
  repeat' first
    | with_reducible assumption
    | exact hp.bit rfl
    | exact hp.sub rfl
    | with_reducible refine State.wr_moves ?_ ?_
    | with_reducible refine State.endReset_moves hm ?_ ?_
    | with_reducible refine State.scrubsMeet_moves ?_ ?_
    | (extract_lets +onlyGivenNames t; refine Moves.cut (F := F) (s₀ := s₀) (t := t) ?_ (fun ht => ?_); rotate_left; (try clear_value t); rotate_left; subst t)
    | split
    | simp (disch := first | exact hp.out rfl | with_reducible exact fun _ => rfl) only [Moves.mk_iff]

theorem execEngineResetReq_moves (hm : F.mem = true) (hp : Sub 13636010072101788 F.parts) {engine : ℕ} {s : State} {t : State} (e : execEngineResetReq engine s = .next t) (h : Moves F s₀ s) : Moves F s₀ t := by
  unfold execEngineResetReq at e
  rw [need_next e]; clear e
  repeat' first
    | with_reducible assumption
    | exact hp.bit rfl
    | exact hp.sub rfl
    | refine need_moves (by with_reducible assumption) ?_
    | with_reducible refine State.wr_moves ?_ ?_
    | with_reducible refine State.startEngineReset_moves hm ?_ ?_
    | split

theorem execEngineResetDone_moves (hm : F.mem = true) (hp : Sub 13636010072101788 F.parts) {s : State} {t : State} (e : execEngineResetDone s = .next t) (h : Moves F s₀ s) : Moves F s₀ t := by
  unfold execEngineResetDone at e
  try dsimp only at e
  cases Host.Outcome.next.inj e
  repeat' first
    | with_reducible assumption
    | exact hp.bit rfl
    | exact hp.sub rfl
    | with_reducible refine State.finishEngineReset_moves hm ?_ ?_
    | split

theorem execStopePowerDown_moves (hu : F.fabMem = true) (hr : F.frames = true) (hp : Sub 15770462789305328 F.parts) {stope : ℕ} {s : State} {t : State} (e : execStopePowerDown stope s = .next t) (h : Moves F s₀ s) : Moves F s₀ t := by
  unfold execStopePowerDown at e
  rw [need_next e]; clear e
  repeat' first
    | with_reducible assumption
    | exact hp.bit rfl
    | exact hp.sub rfl
    | refine need_moves (by with_reducible assumption) ?_
    | with_reducible refine State.wr_moves ?_ ?_
    | with_reducible refine State.losePower_moves hu hr ?_ ?_
    | with_reducible refine State.stopeLeaves_moves ?_ ?_
    | with_reducible refine State.putVec_moves ?_ ?_
    | (extract_lets +onlyGivenNames t; refine Moves.cut (F := F) (s₀ := s₀) (t := t) ?_ (fun ht => ?_); rotate_left; (try clear_value t); rotate_left; subst t)
    | split
    | simp (disch := first | exact hp.out rfl | with_reducible exact fun _ => rfl) only [Moves.mk_iff]

theorem execStopePowerUp_moves (hp : Sub 4303355904 F.parts) {stope : ℕ} {s : State} {t : State} (e : execStopePowerUp stope s = .next t) (h : Moves F s₀ s) : Moves F s₀ t := by
  unfold execStopePowerUp at e
  rw [need_next e]; clear e
  repeat' first
    | with_reducible assumption
    | exact hp.bit rfl
    | exact hp.sub rfl
    | refine need_moves (by with_reducible assumption) ?_
    | with_reducible refine State.putVec_moves ?_ ?_
    | (extract_lets +onlyGivenNames t; refine Moves.cut (F := F) (s₀ := s₀) (t := t) ?_ (fun ht => ?_); rotate_left; (try clear_value t); rotate_left; subst t)
    | split
    | simp (disch := first | exact hp.out rfl | with_reducible exact fun _ => rfl) only [Moves.mk_iff]

theorem execStopePowerUpDone_moves (hp : Sub 4303355904 F.parts) {stope : ℕ} {s : State} {t : State} (e : execStopePowerUpDone stope s = .next t) (h : Moves F s₀ s) : Moves F s₀ t := by
  unfold execStopePowerUpDone at e
  rw [need_next e]; clear e
  repeat' first
    | with_reducible assumption
    | exact hp.bit rfl
    | exact hp.sub rfl
    | refine need_moves (by with_reducible assumption) ?_
    | with_reducible refine State.putVec_moves ?_ ?_
    | split
    | simp (disch := first | exact hp.out rfl | with_reducible exact fun _ => rfl) only [Moves.mk_iff]

theorem execStopePowerDownDone_moves (hp : Sub 4303355904 F.parts) {stope : ℕ} {s : State} {t : State} (e : execStopePowerDownDone stope s = .next t) (h : Moves F s₀ s) : Moves F s₀ t := by
  unfold execStopePowerDownDone at e
  rw [need_next e]; clear e
  repeat' first
    | with_reducible assumption
    | exact hp.bit rfl
    | exact hp.sub rfl
    | refine need_moves (by with_reducible assumption) ?_
    | with_reducible refine State.putVec_moves ?_ ?_
    | split
    | simp (disch := first | exact hp.out rfl | with_reducible exact fun _ => rfl) only [Moves.mk_iff]

theorem execCrewPowerDown_moves (hp : Sub 4573981264904194 F.parts) {crew : ℕ} {s : State} {t : State} (e : execCrewPowerDown crew s = .next t) (h : Moves F s₀ s) : Moves F s₀ t := by
  unfold execCrewPowerDown at e
  rw [need_next e]; clear e
  repeat' first
    | with_reducible assumption
    | exact hp.bit rfl
    | exact hp.sub rfl
    | refine need_moves (by with_reducible assumption) ?_
    | with_reducible refine State.putBit_moves ?_ ?_
    | with_reducible refine State.crewLeaves_moves ?_ ?_
    | with_reducible refine State.setReady_moves ?_ ?_
    | with_reducible refine State.wr_moves ?_ ?_
    | (extract_lets +onlyGivenNames t; refine Moves.cut (F := F) (s₀ := s₀) (t := t) ?_ (fun ht => ?_); rotate_left; (try clear_value t); rotate_left; subst t)
    | split
    | simp (disch := first | exact hp.out rfl | with_reducible exact fun _ => rfl) only [Moves.mk_iff]

theorem execCrewPowerUp_moves (hp : Sub 4303355904 F.parts) {crew : ℕ} {s : State} {t : State} (e : execCrewPowerUp crew s = .next t) (h : Moves F s₀ s) : Moves F s₀ t := by
  unfold execCrewPowerUp at e
  rw [need_next e]; clear e
  repeat' first
    | with_reducible assumption
    | exact hp.bit rfl
    | exact hp.sub rfl
    | refine need_moves (by with_reducible assumption) ?_
    | with_reducible refine State.putBit_moves ?_ ?_
    | (extract_lets +onlyGivenNames t; refine Moves.cut (F := F) (s₀ := s₀) (t := t) ?_ (fun ht => ?_); rotate_left; (try clear_value t); rotate_left; subst t)
    | simp (disch := first | exact hp.out rfl | with_reducible exact fun _ => rfl) only [Moves.mk_iff]

theorem execCrewPowerUpDone_moves (hm : F.mem = true) (hp : Sub 4573981264904196 F.parts) {crew : ℕ} {s : State} {t : State} (e : execCrewPowerUpDone crew s = .next t) (h : Moves F s₀ s) : Moves F s₀ t := by
  unfold execCrewPowerUpDone at e
  rw [need_next e]; clear e
  repeat' first
    | with_reducible assumption
    | exact hp.bit rfl
    | exact hp.sub rfl
    | refine need_moves (by with_reducible assumption) ?_
    | with_reducible refine State.putBit_moves ?_ ?_
    | with_reducible refine State.clearCrew_moves hm ?_ ?_
    | with_reducible refine State.setReady_moves ?_ ?_
    | (extract_lets +onlyGivenNames t; refine Moves.cut (F := F) (s₀ := s₀) (t := t) ?_ (fun ht => ?_); rotate_left; (try clear_value t); rotate_left; subst t)
    | split
    | simp (disch := first | exact hp.out rfl | with_reducible exact fun _ => rfl) only [Moves.mk_iff]

theorem execCrewPowerDownDone_moves (hp : Sub 4303355904 F.parts) {crew : ℕ} {s : State} {t : State} (e : execCrewPowerDownDone crew s = .next t) (h : Moves F s₀ s) : Moves F s₀ t := by
  unfold execCrewPowerDownDone at e
  rw [need_next e]; clear e
  repeat' first
    | with_reducible assumption
    | exact hp.bit rfl
    | exact hp.sub rfl
    | refine need_moves (by with_reducible assumption) ?_
    | with_reducible refine State.putBit_moves ?_ ?_
    | split
    | simp (disch := first | exact hp.out rfl | with_reducible exact fun _ => rfl) only [Moves.mk_iff]

/-! ### DramAccess -/

theorem State.dramAnswer_moves (hp : Sub 6755399441055744 F.parts) {s : State} {r : DramReq} {status : ℕ} {data : ℕ} {poison : Bool} (h : Moves F s₀ s) : Moves F s₀ (State.dramAnswer s r status data poison) := by
  unfold State.dramAnswer
  repeat' first
    | with_reducible assumption
    | exact hp.bit rfl
    | exact hp.sub rfl
    | with_reducible refine State.respond_moves ?_ ?_

theorem State.readPage_moves (hf : F.flash = true) (hk : F.keys = true) (hp : Sub 6758423102247168 F.parts) {s : State} {r : DramReq} {v : DramView} (h : Moves F s₀ s) : Moves F s₀ (State.readPage s r v) := by
  unfold State.readPage
  repeat' first
    | with_reducible assumption
    | exact hp.bit rfl
    | exact hp.sub rfl
    | with_reducible refine State.dramAnswer_moves ?_ ?_
    | with_reducible refine State.haltAt_moves hk ?_ ?_
    | with_reducible refine State.pageBytes_moves ?_
    | refine State.pageBytes_moves' (by with_reducible assumption) ?_
    | with_reducible refine State.eccCount_moves hf ?_ ?_
    | with_reducible refine State.eccLast_moves ?_ ?_
    | with_reducible refine State.count_moves ?_ ?_
    | (extract_lets +onlyGivenNames t; refine Moves.cut (F := F) (s₀ := s₀) (t := t) ?_ (fun ht => ?_); rotate_left; (try clear_value t); rotate_left; subst t)
    | (extract_lets +onlyGivenNames t; try clear_value t)
    | split

theorem State.writePage_moves (hm : F.mem = true) (hf : F.flash = true) (hk : F.keys = true) (hp : Sub 15766859307570064 F.parts) {s : State} {r : DramReq} {v : DramView} (h : Moves F s₀ s) : Moves F s₀ (State.writePage s r v) := by
  unfold State.writePage
  repeat' first
    | with_reducible assumption
    | exact hp.bit rfl
    | exact hp.sub rfl
    | refine State.storePage_moves hm ?_ (by with_reducible assumption) ?_
    | with_reducible refine State.dramAnswer_moves ?_ ?_
    | with_reducible refine State.raiseCounter_moves ?_ ?_
    | refine State.raiseCounter_moves' ?_ (by with_reducible assumption) ?_
    | with_reducible refine State.haltAt_moves hk ?_ ?_
    | with_reducible refine State.pageBytes_moves ?_
    | refine State.pageBytes_moves' (by with_reducible assumption) ?_
    | with_reducible refine State.eccCount_moves hf ?_ ?_
    | with_reducible refine State.eccLast_moves ?_ ?_
    | with_reducible refine State.count_moves ?_ ?_
    | with_reducible refine State.post_moves ?_ ?_
    | (extract_lets +onlyGivenNames t; refine Moves.cut (F := F) (s₀ := s₀) (t := t) ?_ (fun ht => ?_); rotate_left; (try clear_value t); rotate_left; subst t)
    | (extract_lets +onlyGivenNames t; try clear_value t)
    | split

theorem State.servePage_moves (hm : F.mem = true) (hf : F.flash = true) (hk : F.keys = true) (hp : Sub 15766859307570064 F.parts) {s : State} {r : DramReq} {v : DramView} (h : Moves F s₀ s) : Moves F s₀ (State.servePage s r v) := by
  unfold State.servePage
  repeat' first
    | with_reducible assumption
    | exact hp.bit rfl
    | exact hp.sub rfl
    | with_reducible refine State.writePage_moves hm hf hk ?_ ?_
    | with_reducible refine State.readPage_moves hf hk ?_ ?_
    | split

theorem State.faultAnswer_moves (hp : Sub 6755399441055744 F.parts) {s : State} {r : DramReq} (h : Moves F s₀ s) : Moves F s₀ (State.faultAnswer s r) := by
  unfold State.faultAnswer
  repeat' first
    | with_reducible assumption
    | exact hp.bit rfl
    | exact hp.sub rfl
    | with_reducible refine State.dramAnswer_moves ?_ ?_
    | split

theorem State.counterStage_moves (hm : F.mem = true) (hf : F.flash = true) (hk : F.keys = true) (hp : Sub 15766859307570064 F.parts) {s : State} {r : DramReq} {v : DramView} (h : Moves F s₀ s) : Moves F s₀ (State.counterStage s r v) := by
  unfold State.counterStage
  repeat' first
    | with_reducible assumption
    | exact hp.bit rfl
    | exact hp.sub rfl
    | with_reducible refine State.dramAnswer_moves ?_ ?_
    | with_reducible refine State.en_moves (fun _ => ⟨rfl, rfl⟩) ?_ ?_
    | with_reducible refine State.en_moves_keys hk ?_ ?_
    | with_reducible refine State.servePage_moves hm hf hk ?_ ?_
    | with_reducible refine State.faultAnswer_moves ?_ ?_
    | with_reducible refine State.touchNode_moves ?_ ?_
    | with_reducible refine State.count_moves ?_ ?_
    | (extract_lets +onlyGivenNames t; refine Moves.cut (F := F) (s₀ := s₀) (t := t) ?_ (fun ht => ?_); rotate_left; (try clear_value t); rotate_left; subst t)
    | (extract_lets +onlyGivenNames t; subst t)
    | split
    | simp (disch := first | exact hp.out rfl | with_reducible exact fun _ => rfl) only [Moves.mk_iff]

theorem State.flushHalf_moves (hm : F.mem = true) (hf : F.flash = true) (hk : F.keys = true) (hp : Sub 15766859307570064 F.parts) {s : State} {page : ℕ} {v : DramView} (h : Moves F s₀ s) : Moves F s₀ (State.flushHalf s page v) := by
  unfold State.flushHalf
  repeat' first
    | with_reducible assumption
    | exact hp.bit rfl
    | exact hp.sub rfl
    | with_reducible refine State.counterStage_moves hm hf hk ?_ ?_
    | with_reducible refine State.dr_moves ?_ ?_
    | split
    | simp (disch := first | exact hp.out rfl | with_reducible exact fun _ => rfl) only [Moves.mk_iff]

theorem State.combine_moves (hm : F.mem = true) (hf : F.flash = true) (hk : F.keys = true) (hp : Sub 15766859307570064 F.parts) {s : State} {r : DramReq} {v : DramView} (h : Moves F s₀ s) : Moves F s₀ (State.combine s r v) := by
  unfold State.combine
  repeat' first
    | with_reducible assumption
    | exact hp.bit rfl
    | exact hp.sub rfl
    | with_reducible refine State.counterStage_moves hm hf hk ?_ ?_
    | with_reducible refine State.dramAnswer_moves ?_ ?_
    | with_reducible refine State.dr_moves ?_ ?_
    | with_reducible refine State.flushHalf_moves hm hf hk ?_ ?_
    | (extract_lets +onlyGivenNames t; refine Moves.cut (F := F) (s₀ := s₀) (t := t) ?_ (fun ht => ?_); rotate_left; (try clear_value t); rotate_left; subst t)
    | (extract_lets +onlyGivenNames t; try clear_value t)
    | split
    | simp (disch := first | exact hp.out rfl | with_reducible exact fun _ => rfl) only [Moves.mk_iff]

theorem State.schedOne_moves (hm : F.mem = true) (hf : F.flash = true) (hk : F.keys = true) (hp : Sub 15766859307570064 F.parts) {s : State} {c : ℕ} (h : Moves F s₀ s) : Moves F s₀ (State.schedOne s c) := by
  unfold State.schedOne
  repeat' first
    | with_reducible assumption
    | exact hp.bit rfl
    | exact hp.sub rfl
    | with_reducible refine State.dr_moves ?_ ?_
    | with_reducible refine State.combine_moves hm hf hk ?_ ?_
    | (extract_lets +onlyGivenNames t; refine Moves.cut (F := F) (s₀ := s₀) (t := t) ?_ (fun ht => ?_); rotate_left; (try clear_value t); rotate_left; subst t)
    | split
    | simp (disch := first | exact hp.out rfl | with_reducible exact fun _ => rfl) only [Moves.mk_iff]

theorem State.schedDrain_moves (hm : F.mem = true) (hf : F.flash = true) (hk : F.keys = true) (hp : Sub 15766859307570064 F.parts) {s : State} {c : ℕ} (h : Moves F s₀ s) : Moves F s₀ (State.schedDrain s c) := by
  unfold State.schedDrain
  repeat' first
    | with_reducible assumption
    | exact hp.bit rfl
    | exact hp.sub rfl
    | exact Sub.mem (f := a) hp ha (by rfl)
    | with_reducible refine State.schedOne_moves hm hf hk ?_ ?_
    | with_reducible refine Moves.foldl ?_ (fun t a ha ht => ?_)

theorem State.schedAge_moves (hp : Sub 274877906944 F.parts) {s : State} {c : ℕ} {cycles : ℕ} (h : Moves F s₀ s) : Moves F s₀ (State.schedAge s c cycles) := by
  unfold State.schedAge
  repeat' first
    | with_reducible assumption
    | exact hp.bit rfl
    | exact hp.sub rfl
    | with_reducible refine State.dr_moves ?_ ?_
    | split
    | simp (disch := first | exact hp.out rfl | with_reducible exact fun _ => rfl) only [Moves.mk_iff]

theorem State.dramIdle_moves (hm : F.mem = true) (hf : F.flash = true) (hk : F.keys = true) (hp : Sub 15766859307570064 F.parts) {s : State} (h : Moves F s₀ s) : Moves F s₀ (State.dramIdle s) := by
  unfold State.dramIdle
  repeat' first
    | with_reducible assumption
    | exact hp.bit rfl
    | exact hp.sub rfl
    | exact Sub.mem (f := a) hp ha (by rfl)
    | with_reducible refine State.schedDrain_moves hm hf hk ?_ ?_
    | with_reducible refine Moves.foldl ?_ (fun t a ha ht => ?_)

theorem State.enqueue_moves (hm : F.mem = true) (hf : F.flash = true) (hk : F.keys = true) (hp : Sub 15766859307570064 F.parts) {s : State} {c : ℕ} {r : DramReq} {v : DramView} (h : Moves F s₀ s) : Moves F s₀ (State.enqueue s c r v) := by
  unfold State.enqueue
  repeat' first
    | with_reducible assumption
    | exact hp.bit rfl
    | exact hp.sub rfl
    | with_reducible refine State.schedAge_moves ?_ ?_
    | with_reducible refine State.dramAnswer_moves ?_ ?_
    | with_reducible refine State.dr_moves ?_ ?_
    | with_reducible refine State.schedDrain_moves hm hf hk ?_ ?_
    | (extract_lets +onlyGivenNames t; refine Moves.cut (F := F) (s₀ := s₀) (t := t) ?_ (fun ht => ?_); rotate_left; (try clear_value t); rotate_left; subst t)
    | (extract_lets +onlyGivenNames t; try clear_value t)
    | split
    | simp (disch := first | exact hp.out rfl | with_reducible exact fun _ => rfl) only [Moves.mk_iff]

theorem State.dramAccess_moves (hm : F.mem = true) (hf : F.flash = true) (hk : F.keys = true) (hp : Sub 15766859307570064 F.parts) {s : State} {r : DramReq} {v : DramView} (h : Moves F s₀ s) : Moves F s₀ (State.dramAccess s r v) := by
  unfold State.dramAccess
  repeat' first
    | with_reducible assumption
    | exact hp.bit rfl
    | exact hp.sub rfl
    | with_reducible refine State.dramAnswer_moves ?_ ?_
    | with_reducible refine State.dr_moves ?_ ?_
    | with_reducible refine State.enqueue_moves hm hf hk ?_ ?_
    | (extract_lets +onlyGivenNames t; refine Moves.cut (F := F) (s₀ := s₀) (t := t) ?_ (fun ht => ?_); rotate_left; (try clear_value t); rotate_left; subst t)
    | (extract_lets +onlyGivenNames t; try clear_value t)
    | split
    | simp (disch := first | exact hp.out rfl | with_reducible exact fun _ => rfl) only [Moves.mk_iff]

theorem State.dramSettle_moves (hm : F.mem = true) (hf : F.flash = true) (hk : F.keys = true) (hp : Sub 15766859307570064 F.parts) {s : State} (h : Moves F s₀ s) : Moves F s₀ (State.dramSettle s) := by
  unfold State.dramSettle
  repeat' first
    | with_reducible assumption
    | exact hp.bit rfl
    | exact hp.sub rfl
    | exact Sub.mem (f := a) hp ha (by rfl)
    | with_reducible refine State.dramIdle_moves hm hf hk ?_ ?_
    | with_reducible refine State.flushHalf_moves hm hf hk ?_ ?_
    | with_reducible refine Moves.foldl ?_ (fun t a ha ht => ?_)
    | (extract_lets +onlyGivenNames t; refine Moves.cut (F := F) (s₀ := s₀) (t := t) ?_ (fun ht => ?_); rotate_left; (try clear_value t); rotate_left; subst t)

theorem State.releaseHeld_moves (hm : F.mem = true) (hf : F.flash = true) (hk : F.keys = true) (hp : Sub 15766859307570064 F.parts) {s : State} (h : Moves F s₀ s) : Moves F s₀ (State.releaseHeld s) := by
  unfold State.releaseHeld
  repeat' first
    | with_reducible assumption
    | exact hp.bit rfl
    | exact hp.sub rfl
    | exact Sub.mem (f := a) hp ha (by rfl)
    | with_reducible refine State.dramAccess_moves hm hf hk ?_ ?_
    | with_reducible refine State.dr_moves ?_ ?_
    | with_reducible refine Moves.foldl ?_ (fun t a ha ht => ?_)
    | (extract_lets +onlyGivenNames t; refine Moves.cut (F := F) (s₀ := s₀) (t := t) ?_ (fun ht => ?_); rotate_left; (try clear_value t); rotate_left; subst t)
    | (extract_lets +onlyGivenNames t; try clear_value t)
    | simp (disch := first | exact hp.out rfl | with_reducible exact fun _ => rfl) only [Moves.mk_iff]

/-! ### Dram -/

theorem State.showMap_moves (hp : Sub 8192 F.parts) {s : State} (h : Moves F s₀ s) : Moves F s₀ (State.showMap s) := by
  unfold State.showMap
  repeat' first
    | with_reducible assumption
    | exact hp.bit rfl
    | exact hp.sub rfl
    | exact Sub.mem (f := a) hp ha (by rfl)
    | with_reducible refine State.wr_moves ?_ ?_
    | with_reducible refine Moves.foldl ?_ (fun t a ha ht => ?_)
    | (extract_lets +onlyGivenNames t; refine Moves.cut (F := F) (s₀ := s₀) (t := t) ?_ (fun ht => ?_); rotate_left; (try clear_value t); rotate_left; subst t)
    | (extract_lets +onlyGivenNames t; try clear_value t)
    | split

theorem State.holdOut_moves (hp : Sub 2392537302118400 F.parts) {s : State} {c : ℕ} {cause : ℕ} (h : Moves F s₀ s) : Moves F s₀ (State.holdOut s c cause) := by
  unfold State.holdOut
  repeat' first
    | with_reducible assumption
    | exact hp.bit rfl
    | exact hp.sub rfl
    | with_reducible refine State.putBit_moves ?_ ?_
    | with_reducible refine State.wr_moves ?_ ?_
    | with_reducible refine State.post_moves ?_ ?_
    | with_reducible refine State.showMap_moves ?_ ?_
    | with_reducible refine State.recordStep_moves ?_ ?_
    | (extract_lets +onlyGivenNames t; refine Moves.cut (F := F) (s₀ := s₀) (t := t) ?_ (fun ht => ?_); rotate_left; (try clear_value t); rotate_left; subst t)
    | split

theorem State.loadRows_moves (hp : Sub 4096 F.parts) {s : State} {c : ℕ} (h : Moves F s₀ s) : Moves F s₀ (State.loadRows s c) := by
  unfold State.loadRows
  repeat' first
    | with_reducible assumption
    | exact hp.bit rfl
    | exact hp.sub rfl
    | exact Sub.mem (f := a) hp ha (by rfl)
    | with_reducible refine State.wr_moves ?_ ?_
    | with_reducible refine State.put_moves ?_ ?_
    | with_reducible refine Moves.foldl ?_ (fun t a ha ht => ?_)
    | with_reducible refine Moves.foldl2 ?_ (fun y a ht => ?_)
    | with_reducible refine Moves.foldl1 ?_ (fun y a ht => ?_)
    | (extract_lets +onlyGivenNames t; refine Moves.cut (F := F) (s₀ := s₀) (t := t) ?_ (fun ht => ?_); rotate_left; (try clear_value t); rotate_left; subst t)
    | (extract_lets +onlyGivenNames t; try clear_value t)

theorem State.dropShare_moves (hp : Sub 549755830272 F.parts) {s : State} {c : ℕ} (h : Moves F s₀ s) : Moves F s₀ (State.dropShare s c) := by
  unfold State.dropShare
  repeat' first
    | with_reducible assumption
    | exact hp.bit rfl
    | exact hp.sub rfl
    | exact Sub.mem (f := a) hp ha (by rfl)
    | with_reducible refine State.en_moves (fun _ => ⟨rfl, rfl⟩) ?_ ?_
    | with_reducible refine State.showRange_moves ?_ ?_
    | with_reducible refine Moves.foldl ?_ (fun t a ha ht => ?_)
    | with_reducible refine Moves.foldl2 ?_ (fun y a ht => ?_)
    | with_reducible refine Moves.foldl1 ?_ (fun y a ht => ?_)
    | (extract_lets +onlyGivenNames t; refine Moves.cut (F := F) (s₀ := s₀) (t := t) ?_ (fun ht => ?_); rotate_left; (try clear_value t); rotate_left; subst t)
    | simp (disch := first | exact hp.out rfl | with_reducible exact fun _ => rfl) only [Moves.mk_iff]

theorem execChannelTrain_moves (hp : Sub 2393361935855616 F.parts) {chan : ℕ} {p : Population} {s : State} {t : State} (e : execChannelTrain chan p s = .next t) (h : Moves F s₀ s) : Moves F s₀ t := by
  unfold execChannelTrain at e
  rw [need_next e]; clear e
  repeat' first
    | with_reducible assumption
    | exact hp.bit rfl
    | exact hp.sub rfl
    | refine need_moves (by with_reducible assumption) ?_
    | with_reducible refine State.holdOut_moves ?_ ?_
    | with_reducible refine State.loadRows_moves ?_ ?_
    | with_reducible refine State.wr_moves ?_ ?_
    | with_reducible refine State.putBit_moves ?_ ?_
    | with_reducible refine State.put_moves ?_ ?_
    | with_reducible refine State.onRecord_moves ?_ ?_
    | with_reducible refine State.dr_moves ?_ ?_
    | with_reducible refine State.showMap_moves ?_ ?_
    | with_reducible refine State.dropShare_moves ?_ ?_
    | (extract_lets +onlyGivenNames t; refine Moves.cut (F := F) (s₀ := s₀) (t := t) ?_ (fun ht => ?_); rotate_left; (try clear_value t); rotate_left; subst t)
    | (extract_lets +onlyGivenNames t; try clear_value t)
    | split
    | simp (disch := first | exact hp.out rfl | with_reducible exact fun _ => rfl) only [Moves.mk_iff]

theorem State.repairRows_moves (hf : F.flash = true) (hp : Sub 2251799813689344 F.parts) {s : State} {c : ℕ} {repairs : List (ℕ × ℕ)} (h : Moves F s₀ s) : Moves F s₀ (State.repairRows s c repairs) := by
  unfold State.repairRows
  repeat' first
    | with_reducible assumption
    | exact hp.bit rfl
    | exact hp.sub rfl
    | exact Sub.mem (f := a) hp ha (by rfl)
    | with_reducible refine State.wr_moves ?_ ?_
    | with_reducible refine State.post_moves ?_ ?_
    | simp only [Moves.flash_iff hf]
    | with_reducible refine Moves.foldl ?_ (fun t a ha ht => ?_)
    | (extract_lets +onlyGivenNames t; refine Moves.cut (F := F) (s₀ := s₀) (t := t) ?_ (fun ht => ?_); rotate_left; (try clear_value t); rotate_left; subst t)
    | (extract_lets +onlyGivenNames t; try clear_value t)
    | split
    | simp (disch := first | exact hp.out rfl | with_reducible exact fun _ => rfl) only [Moves.mk_iff]

theorem State.remap_moves (hm : F.mem = true) (hf : F.flash = true) (hk : F.keys = true) (hp : Sub 15766867897578384 F.parts) {s : State} (h : Moves F s₀ s) : Moves F s₀ (State.remap s) := by
  unfold State.remap
  repeat' first
    | with_reducible assumption
    | exact hp.bit rfl
    | exact hp.sub rfl
    | exact Sub.mem (f := a) hp ha (by rfl)
    | with_reducible refine State.dramSettle_moves hm hf hk ?_ ?_
    | with_reducible refine State.setReady_moves ?_ ?_
    | with_reducible refine State.wr_moves ?_ ?_
    | with_reducible refine State.clearDram_moves hm ?_ ?_
    | with_reducible refine State.showMap_moves ?_ ?_
    | with_reducible refine Moves.foldl ?_ (fun t a ha ht => ?_)
    | (extract_lets +onlyGivenNames t; refine Moves.cut (F := F) (s₀ := s₀) (t := t) ?_ (fun ht => ?_); rotate_left; (try clear_value t); rotate_left; subst t)
    | (extract_lets +onlyGivenNames t; try clear_value t)

theorem execTrainingDone_moves (hm : F.mem = true) (hf : F.flash = true) (hk : F.keys = true) (hp : Sub 15907605385933712 F.parts) {chan : ℕ} {storedOk : Bool} {fullOk : Bool} {failStep : ℕ} {ms : ℕ} {repairs : List (ℕ × ℕ)} {s : State} {t : State} (e : execTrainingDone chan storedOk fullOk failStep ms repairs s = .next t) (h : Moves F s₀ s) : Moves F s₀ t := by
  unfold execTrainingDone at e
  rw [need_next e]; clear e
  repeat' first
    | with_reducible assumption
    | exact hp.bit rfl
    | exact hp.sub rfl
    | refine need_moves (by with_reducible assumption) ?_
    | with_reducible refine State.put_moves ?_ ?_
    | with_reducible refine State.wr_moves ?_ ?_
    | with_reducible refine State.onRecord_moves ?_ ?_
    | with_reducible refine State.setReady_moves ?_ ?_
    | with_reducible refine State.recordStep_moves ?_ ?_
    | with_reducible refine State.repairRows_moves hf ?_ ?_
    | with_reducible refine State.remap_moves hm hf hk ?_ ?_
    | with_reducible refine State.holdOut_moves ?_ ?_
    | (extract_lets +onlyGivenNames t; refine Moves.cut (F := F) (s₀ := s₀) (t := t) ?_ (fun ht => ?_); rotate_left; (try clear_value t); rotate_left; subst t)
    | (extract_lets +onlyGivenNames t; try clear_value t)
    | split
    | simp (disch := first | exact hp.out rfl | with_reducible exact fun _ => rfl) only [Moves.mk_iff]

theorem State.writeRegions_moves (hp : Sub 4194593 F.parts) {s : State} {l : List (ℕ × ℕ)} (h : Moves F s₀ s) : Moves F s₀ (State.writeRegions s l) := by
  unfold State.writeRegions
  repeat' first
    | with_reducible assumption
    | exact hp.bit rfl
    | exact hp.sub rfl
    | with_reducible refine State.wr_moves ?_ ?_
    | (extract_lets +onlyGivenNames t; refine Moves.cut (F := F) (s₀ := s₀) (t := t) ?_ (fun ht => ?_); rotate_left; (try clear_value t); rotate_left; subst t)
    | (extract_lets +onlyGivenNames t; try clear_value t)

theorem State.clearRegions_moves (hp : Sub 4202785 F.parts) {s : State} (h : Moves F s₀ s) : Moves F s₀ (State.clearRegions s) := by
  unfold State.clearRegions
  repeat' first
    | with_reducible assumption
    | exact hp.bit rfl
    | exact hp.sub rfl
    | exact Sub.mem (f := a) hp ha (by rfl)
    | with_reducible refine State.wr_moves ?_ ?_
    | with_reducible refine Moves.foldl ?_ (fun t a ha ht => ?_)

theorem State.placeArea_moves (hp : Sub 2251799817888033 F.parts) {s : State} (h : Moves F s₀ s) : Moves F s₀ (State.placeArea s) := by
  unfold State.placeArea
  repeat' first
    | with_reducible assumption
    | exact hp.bit rfl
    | exact hp.sub rfl
    | exact Sub.mem (f := a) hp ha (by rfl)
    | with_reducible refine State.writeRegions_moves ?_ ?_
    | with_reducible refine State.wr_moves ?_ ?_
    | with_reducible refine State.clearRegions_moves ?_ ?_
    | with_reducible refine State.post_moves ?_ ?_
    | with_reducible refine Moves.foldl ?_ (fun t a ha ht => ?_)
    | (extract_lets +onlyGivenNames t; refine Moves.cut (F := F) (s₀ := s₀) (t := t) ?_ (fun ht => ?_); rotate_left; (try clear_value t); rotate_left; subst t)
    | (extract_lets +onlyGivenNames t; subst t)
    | split

theorem execArea_moves (hp : Sub 2392537306308897 F.parts) {s : State} {t : State} (e : execArea s = .next t) (h : Moves F s₀ s) : Moves F s₀ t := by
  unfold execArea at e
  try dsimp only at e
  cases Host.Outcome.next.inj e
  repeat' first
    | with_reducible assumption
    | exact hp.bit rfl
    | exact hp.sub rfl
    | with_reducible refine State.wr_moves ?_ ?_
    | with_reducible refine State.placeArea_moves ?_ ?_
    | with_reducible refine State.recordStep_moves ?_ ?_
    | (extract_lets +onlyGivenNames t; refine Moves.cut (F := F) (s₀ := s₀) (t := t) ?_ (fun ht => ?_); rotate_left; (try clear_value t); rotate_left; subst t)
    | (extract_lets +onlyGivenNames t; subst t)
    | split

theorem State.replanWrite_moves (hp : Sub 2251799817888033 F.parts) {s : State} (h : Moves F s₀ s) : Moves F s₀ (State.replanWrite s) := by
  unfold State.replanWrite
  repeat' first
    | with_reducible assumption
    | exact hp.bit rfl
    | exact hp.sub rfl
    | with_reducible refine State.placeArea_moves ?_ ?_
    | with_reducible refine State.wr_moves ?_ ?_
    | split

theorem execReplan_moves (hp : Sub 2251799817888033 F.parts) {s : State} {t : State} (e : execReplan s = .next t) (h : Moves F s₀ s) : Moves F s₀ t := by
  unfold execReplan at e
  try dsimp only at e
  cases Host.Outcome.next.inj e
  repeat' first
    | with_reducible assumption
    | exact hp.bit rfl
    | exact hp.sub rfl
    | with_reducible refine State.replanWrite_moves ?_ ?_

theorem execDramRead_moves (hm : F.mem = true) (hf : F.flash = true) (hk : F.keys = true) (hp : Sub 15766859307570064 F.parts) {r : DramReq} {v : DramView} {s : State} {t : State} (e : execDramRead r v s = .next t) (h : Moves F s₀ s) : Moves F s₀ t := by
  unfold execDramRead at e
  rw [need_next e]; clear e
  repeat' first
    | with_reducible assumption
    | exact hp.bit rfl
    | exact hp.sub rfl
    | refine need_moves (by with_reducible assumption) ?_
    | with_reducible refine State.dramAccess_moves hm hf hk ?_ ?_
    | simp (disch := first | exact hp.out rfl | with_reducible exact fun _ => rfl) only [Moves.mk_iff]

theorem execDramWrite_moves (hm : F.mem = true) (hf : F.flash = true) (hk : F.keys = true) (hp : Sub 15766859307570064 F.parts) {r : DramReq} {v : DramView} {s : State} {t : State} (e : execDramWrite r v s = .next t) (h : Moves F s₀ s) : Moves F s₀ t := by
  unfold execDramWrite at e
  rw [need_next e]; clear e
  repeat' first
    | with_reducible assumption
    | exact hp.bit rfl
    | exact hp.sub rfl
    | refine need_moves (by with_reducible assumption) ?_
    | with_reducible refine State.dramAccess_moves hm hf hk ?_ ?_
    | simp (disch := first | exact hp.out rfl | with_reducible exact fun _ => rfl) only [Moves.mk_iff]

theorem execWcTimeout_moves (hm : F.mem = true) (hf : F.flash = true) (hk : F.keys = true) (hp : Sub 15766859307570064 F.parts) {chan : ℕ} {page : ℕ} {v : DramView} {s : State} {t : State} (e : execWcTimeout chan page v s = .next t) (h : Moves F s₀ s) : Moves F s₀ t := by
  unfold execWcTimeout at e
  rw [need_next e]; clear e
  repeat' first
    | with_reducible assumption
    | exact hp.bit rfl
    | exact hp.sub rfl
    | refine need_moves (by with_reducible assumption) ?_
    | with_reducible refine State.flushHalf_moves hm hf hk ?_ ?_
    | split

theorem State.showOwed_moves (hp : Sub 4096 F.parts) {s : State} {c : ℕ} (h : Moves F s₀ s) : Moves F s₀ (State.showOwed s c) := by
  unfold State.showOwed
  repeat' first
    | with_reducible assumption
    | exact hp.bit rfl
    | exact hp.sub rfl
    | exact Sub.mem (f := a) hp ha (by rfl)
    | with_reducible refine State.wr_moves ?_ ?_
    | with_reducible refine Moves.foldl ?_ (fun t a ha ht => ?_)

theorem execRefreshDue_moves (hp : Sub 274877911040 F.parts) {chan : ℕ} {rank : ℕ} {busy : Bool} {s : State} {t : State} (e : execRefreshDue chan rank busy s = .next t) (h : Moves F s₀ s) : Moves F s₀ t := by
  unfold execRefreshDue at e
  rw [need_next e]; clear e
  repeat' first
    | with_reducible assumption
    | exact hp.bit rfl
    | exact hp.sub rfl
    | refine need_moves (by with_reducible assumption) ?_
    | with_reducible refine State.showOwed_moves ?_ ?_
    | with_reducible refine State.dr_moves ?_ ?_
    | with_reducible refine State.count_moves ?_ ?_
    | (extract_lets +onlyGivenNames t; refine Moves.cut (F := F) (s₀ := s₀) (t := t) ?_ (fun ht => ?_); rotate_left; (try clear_value t); rotate_left; subst t)
    | (extract_lets +onlyGivenNames t; try clear_value t)
    | split
    | simp (disch := first | exact hp.out rfl | with_reducible exact fun _ => rfl) only [Moves.mk_iff]

theorem execDramWriteback_moves (hp : Sub 274877906944 F.parts) {page : ℕ} {s : State} {t : State} (e : execDramWriteback page s = .next t) (h : Moves F s₀ s) : Moves F s₀ t := by
  unfold execDramWriteback at e
  try dsimp only at e
  cases Host.Outcome.next.inj e
  repeat' first
    | with_reducible assumption
    | exact hp.bit rfl
    | exact hp.sub rfl
    | with_reducible refine State.dr_moves ?_ ?_
    | split
    | simp (disch := first | exact hp.out rfl | with_reducible exact fun _ => rfl) only [Moves.mk_iff]

theorem execFillComplete_moves (hp : Sub 274877911040 F.parts) {chan : ℕ} {block : ℕ} {s : State} {t : State} (e : execFillComplete chan block s = .next t) (h : Moves F s₀ s) : Moves F s₀ t := by
  unfold execFillComplete at e
  rw [need_next e]; clear e
  repeat' first
    | with_reducible assumption
    | exact hp.bit rfl
    | exact hp.sub rfl
    | refine need_moves (by with_reducible assumption) ?_
    | with_reducible refine State.dr_moves ?_ ?_
    | with_reducible refine State.showFresh_moves ?_ ?_
    | (extract_lets +onlyGivenNames t; refine Moves.cut (F := F) (s₀ := s₀) (t := t) ?_ (fun ht => ?_); rotate_left; (try clear_value t); rotate_left; subst t)
    | split
    | simp (disch := first | exact hp.out rfl | with_reducible exact fun _ => rfl) only [Moves.mk_iff]

theorem execFlipArm_moves (hp : Sub 4096 F.parts) {chan : ℕ} {value : ℕ} {s : State} {t : State} (e : execFlipArm chan value s = .next t) (h : Moves F s₀ s) : Moves F s₀ t := by
  unfold execFlipArm at e
  rw [need_next e]; clear e
  repeat' first
    | with_reducible assumption
    | exact hp.bit rfl
    | exact hp.sub rfl
    | exact fun f hf => hp.mem hf (by rfl)
    | refine need_moves (by with_reducible assumption) ?_
    | with_reducible refine State.wr_moves ?_ ?_
    | with_reducible refine State.setFields_moves ?_ ?_

theorem execDimmThermalSensor_moves (hp : Sub 4096 F.parts) {chan : ℕ} {hot : Bool} {s : State} {t : State} (e : execDimmThermalSensor chan hot s = .next t) (h : Moves F s₀ s) : Moves F s₀ t := by
  unfold execDimmThermalSensor at e
  rw [need_next e]; clear e
  repeat' first
    | with_reducible assumption
    | exact hp.bit rfl
    | exact hp.sub rfl
    | refine need_moves (by with_reducible assumption) ?_
    | with_reducible refine State.put_moves ?_ ?_

/-! ### RegReads -/

theorem State.clockRead_moves (hp : Sub 281474976972800 F.parts) {s : State} {time : Bool} {off : ℕ} {size : ℕ} {peek : Bool} (h : Moves F s₀ s) : Moves F s₀ (State.clockRead s time off size peek).2 := by
  unfold State.clockRead
  repeat' first
    | with_reducible assumption
    | exact hp.bit rfl
    | exact hp.sub rfl
    | (extract_lets +onlyGivenNames t; refine Moves.cut (F := F) (s₀ := s₀) (t := t) ?_ (fun ht => ?_); rotate_left; (try clear_value t); rotate_left; subst t)
    | (extract_lets +onlyGivenNames t; try clear_value t)
    | split
    | dsimp only
    | with_reducible refine State.shiftLatch_moves ?_ ?_
theorem State.clockRead_moves' (hp : Sub 281474976972800 F.parts) {s : State} {time : Bool} {off : ℕ} {size : ℕ} {peek : Bool} {r0 : ℕ} {t : State} (e : State.clockRead s time off size peek = (r0, t)) (h : Moves F s₀ s) : Moves F s₀ t := by
  have k := @State.clockRead_moves F s₀ (hp.sub rfl) s time off size peek h
  rw [e] at k; exact k

theorem State.ownRead_all (hm : F.mem = true) (hp : Sub 9377872112518044 F.parts) {s : State} {b : Block} {i off size : ℕ} {m : Master} {peek : Bool} {r : ℕ × ℕ × Bool × State}
    (e : State.ownRead s b i off size m peek = some r) (h : Moves F s₀ s) : Moves F s₀ r.2.2.2 := by
  unfold State.ownRead at e
  repeat' split at e
  all_goals try (cases e; done)
  all_goals cases Option.some.inj e
  all_goals clear e
  repeat' first
    | with_reducible assumption
    | exact hp.bit rfl
    | exact hp.sub rfl
    | (extract_lets +onlyGivenNames t; refine Moves.cut (F := F) (s₀ := s₀) (t := t) ?_ (fun ht => ?_); rotate_left; (try clear_value t); rotate_left; subst t)
    | (extract_lets +onlyGivenNames t; try clear_value t)
    | split
    | dsimp only
    | with_reducible refine State.pop_moves hm ?_ ?_
    | refine State.pop_moves' hm ?_ (by with_reducible assumption) ?_
    | with_reducible refine State.clockRead_moves ?_ ?_
    | refine State.clockRead_moves' ?_ (by with_reducible assumption) ?_
    | with_reducible refine State.trRead_moves ?_ ?_
    | refine State.trRead_moves' ?_ (by with_reducible assumption) ?_
theorem State.ownRead_moves (hm : F.mem = true) (hp : Sub 9377872112518044 F.parts) {s : State} {b : Block} {i off size : ℕ} {m : Master} {peek : Bool} {x y : ℕ} {z : Bool} {t : State}
    (e : State.ownRead s b i off size m peek = some (x, y, z, t)) (h : Moves F s₀ s) : Moves F s₀ t := State.ownRead_all hm (hp.sub rfl) e h

theorem State.plainRead_moves (hp : Sub 16777215 F.parts) {s : State} {b : Block} {x : RegAt} {off : ℕ} {size : ℕ} {peek : Bool} (h : Moves F s₀ s) : Moves F s₀ (State.plainRead s b x off size peek).2 := by
  unfold State.plainRead
  repeat' first
    | with_reducible assumption
    | exact hp.bit rfl
    | exact hp.sub rfl
    | exact fun f _ => hp.any rfl
    | exact hp.any rfl
    | exact fun f hf => hp.mem hf (by rfl)
    | (extract_lets +onlyGivenNames t; refine Moves.cut (F := F) (s₀ := s₀) (t := t) ?_ (fun ht => ?_); rotate_left; (try clear_value t); rotate_left; subst t)
    | (extract_lets +onlyGivenNames t; try clear_value t)
    | split
    | dsimp only
    | with_reducible refine State.clearRc_moves ?_ ?_
theorem State.plainRead_moves' (hp : Sub 16777215 F.parts) {s : State} {b : Block} {x : RegAt} {off : ℕ} {size : ℕ} {peek : Bool} {r0 : ℕ} {t : State} (e : State.plainRead s b x off size peek = (r0, t)) (h : Moves F s₀ s) : Moves F s₀ t := by
  have k := @State.plainRead_moves F s₀ (hp.sub rfl) s b x off size peek h
  rw [e] at k; exact k

theorem State.regRead_moves (hm : F.mem = true) (hp : Sub 9377872129032191 F.parts) {s : State} {a : ℕ} {size : ℕ} {m : Master} {peek : Bool} (h : Moves F s₀ s) : Moves F s₀ (State.regRead s a size m peek).2.2.2 := by
  unfold State.regRead
  repeat' first
    | with_reducible assumption
    | exact hp.bit rfl
    | exact hp.sub rfl
    | exact hp.any rfl
    | (extract_lets +onlyGivenNames t; refine Moves.cut (F := F) (s₀ := s₀) (t := t) ?_ (fun ht => ?_); rotate_left; (try clear_value t); rotate_left; subst t)
    | (extract_lets +onlyGivenNames t; subst t)
    | split
    | dsimp only
    | refine State.ownRead_moves hm ?_ (by with_reducible assumption) ?_
    | with_reducible refine State.plainRead_moves ?_ ?_
    | refine State.plainRead_moves' ?_ (by with_reducible assumption) ?_
theorem State.regRead_moves' (hm : F.mem = true) (hp : Sub 9377872129032191 F.parts) {s : State} {a : ℕ} {size : ℕ} {m : Master} {peek : Bool} {r0 : ℕ} {r1 : ℕ} {r2 : Bool} {t : State} (e : State.regRead s a size m peek = (r0, r1, r2, t)) (h : Moves F s₀ s) : Moves F s₀ t := by
  have k := @State.regRead_moves F s₀ hm (hp.sub rfl) s a size m peek h
  rw [e] at k; exact k

/-! ### TraceOps -/

theorem State.trac_moves (hp : Sub 562949957615616 F.parts) {s : State} {g : Trace → Trace} (h : Moves F s₀ s) : Moves F s₀ (State.trac s g) := by
  unfold State.trac
  repeat' first
    | with_reducible assumption
    | exact hp.bit rfl
    | exact hp.sub rfl
    | with_reducible refine State.wr_moves ?_ ?_
    | (extract_lets +onlyGivenNames t; refine Moves.cut (F := F) (s₀ := s₀) (t := t) ?_ (fun ht => ?_); rotate_left; (try clear_value t); rotate_left; subst t)
    | simp (disch := first | exact hp.out rfl | with_reducible exact fun _ => rfl) only [Moves.mk_iff]

theorem State.traceDrop_moves (hp : Sub 562949957615620 F.parts) {s : State} {x1 : ℕ} (h : Moves F s₀ s) : Moves F s₀ (State.traceDrop s x1) := by
  unfold State.traceDrop
  repeat' first
    | with_reducible assumption
    | exact hp.bit rfl
    | exact hp.sub rfl
    | with_reducible refine State.count_moves ?_ ?_
    | with_reducible refine State.trac_moves ?_ ?_
    | simp (disch := first | exact hp.out rfl | with_reducible exact fun _ => rfl) only [Moves.mk_iff]

theorem State.traceSyncNow_moves (hp : Sub 562949957615616 F.parts) {s : State} (h : Moves F s₀ s) : Moves F s₀ (State.traceSyncNow s) := by
  unfold State.traceSyncNow
  repeat' first
    | with_reducible assumption
    | exact hp.bit rfl
    | exact hp.sub rfl
    | with_reducible refine State.trac_moves ?_ ?_
    | split
    | simp (disch := first | exact hp.out rfl | with_reducible exact fun _ => rfl) only [Moves.mk_iff]

theorem State.traceStim_moves (hp : Sub 562949957615620 F.parts) {s : State} {x1 : ℕ} {j : ℕ} {w : ℕ} {d : ℕ} (h : Moves F s₀ s) : Moves F s₀ (State.traceStim s x1 j w d) := by
  unfold State.traceStim
  repeat' first
    | with_reducible assumption
    | exact hp.bit rfl
    | exact hp.sub rfl
    | with_reducible refine State.traceDrop_moves ?_ ?_
    | with_reducible refine State.trac_moves ?_ ?_
    | (extract_lets +onlyGivenNames t; refine Moves.cut (F := F) (s₀ := s₀) (t := t) ?_ (fun ht => ?_); rotate_left; (try clear_value t); rotate_left; subst t)
    | (extract_lets +onlyGivenNames t; try clear_value t)
    | split
    | simp (disch := first | exact hp.out rfl | with_reducible exact fun _ => rfl) only [Moves.mk_iff]

theorem State.funnel_moves (hp : Sub 562949957615616 F.parts) {s : State} (h : Moves F s₀ s) : Moves F s₀ (State.funnel s) := by
  unfold State.funnel
  repeat' first
    | with_reducible assumption
    | exact hp.bit rfl
    | exact hp.sub rfl
    | with_reducible refine State.trac_moves ?_ ?_
    | (extract_lets +onlyGivenNames t; refine Moves.cut (F := F) (s₀ := s₀) (t := t) ?_ (fun ht => ?_); rotate_left; (try clear_value t); rotate_left; subst t)
    | (extract_lets +onlyGivenNames t; try clear_value t)
    | split
    | simp (disch := first | exact hp.out rfl | with_reducible exact fun _ => rfl) only [Moves.mk_iff]

theorem State.ringLine_moves (hm : F.mem = true) (hp : Sub 9572210796680080 F.parts) {s : State} (h : Moves F s₀ s) : Moves F s₀ (State.ringLine s) := by
  unfold State.ringLine
  repeat' first
    | with_reducible assumption
    | exact hp.bit rfl
    | exact hp.sub rfl
    | with_reducible refine State.trac_moves ?_ ?_
    | with_reducible refine State.wr_moves ?_ ?_
    | with_reducible refine State.countWrap_moves ?_ ?_
    | with_reducible refine State.agentStore_moves hm ?_ ?_
    | (extract_lets +onlyGivenNames t; refine Moves.cut (F := F) (s₀ := s₀) (t := t) ?_ (fun ht => ?_); rotate_left; (try clear_value t); rotate_left; subst t)
    | (extract_lets +onlyGivenNames t; try clear_value t)
    | split
    | simp (disch := first | exact hp.out rfl | with_reducible exact fun _ => rfl) only [Moves.mk_iff]

theorem State.ringTake_moves (hm : F.mem = true) (hp : Sub 9572210796680084 F.parts) {s : State} {p : TracePkt} (h : Moves F s₀ s) : Moves F s₀ (State.ringTake s p) := by
  unfold State.ringTake
  repeat' first
    | with_reducible assumption
    | exact hp.bit rfl
    | exact hp.sub rfl
    | with_reducible refine State.wr_moves ?_ ?_
    | with_reducible refine State.traceDrop_moves ?_ ?_
    | with_reducible refine State.trac_moves ?_ ?_
    | with_reducible refine State.ringLine_moves hm ?_ ?_
    | (extract_lets +onlyGivenNames t; refine Moves.cut (F := F) (s₀ := s₀) (t := t) ?_ (fun ht => ?_); rotate_left; (try clear_value t); rotate_left; subst t)
    | split
    | simp (disch := first | exact hp.out rfl | with_reducible exact fun _ => rfl) only [Moves.mk_iff]

theorem State.pinsTake_moves (hp : Sub 4503599627370496 F.parts) {s : State} {p : TracePkt} (h : Moves F s₀ s) : Moves F s₀ (State.pinsTake s p) := by
  unfold State.pinsTake
  repeat' first
    | with_reducible assumption
    | exact hp.bit rfl
    | exact hp.sub rfl
    | with_reducible refine State.emit_moves ?_ ?_
    | split

theorem State.traceOut_moves (hm : F.mem = true) (hp : Sub 14075810424050580 F.parts) {s : State} (h : Moves F s₀ s) : Moves F s₀ (State.traceOut s) := by
  unfold State.traceOut
  repeat' first
    | with_reducible assumption
    | exact hp.bit rfl
    | exact hp.sub rfl
    | with_reducible refine State.pinsTake_moves ?_ ?_
    | with_reducible refine State.ringTake_moves hm ?_ ?_
    | with_reducible refine State.trac_moves ?_ ?_
    | split
    | simp (disch := first | exact hp.out rfl | with_reducible exact fun _ => rfl) only [Moves.mk_iff]

theorem State.traceFlush_moves (hm : F.mem = true) (hp : Sub 9572210796680080 F.parts) {s : State} (h : Moves F s₀ s) : Moves F s₀ (State.traceFlush s) := by
  unfold State.traceFlush
  repeat' first
    | with_reducible assumption
    | exact hp.bit rfl
    | exact hp.sub rfl
    | with_reducible refine State.ringLine_moves hm ?_ ?_
    | with_reducible refine State.trac_moves ?_ ?_
    | split
    | simp (disch := first | exact hp.out rfl | with_reducible exact fun _ => rfl) only [Moves.mk_iff]

theorem State.writeTraceCtrl_moves (hp : Sub 562949957615616 F.parts) {s : State} {v : ℕ} (h : Moves F s₀ s) : Moves F s₀ (State.writeTraceCtrl s v) := by
  unfold State.writeTraceCtrl
  repeat' first
    | with_reducible assumption
    | exact hp.bit rfl
    | exact hp.sub rfl
    | exact fun f hf => hp.mem hf (by rfl)
    | with_reducible refine State.setFields_moves ?_ ?_
    | with_reducible refine State.wr_moves ?_ ?_
    | with_reducible refine State.traceSyncNow_moves ?_ ?_
    | (extract_lets +onlyGivenNames t; refine Moves.cut (F := F) (s₀ := s₀) (t := t) ?_ (fun ht => ?_); rotate_left; (try clear_value t); rotate_left; subst t)
    | (extract_lets +onlyGivenNames t; try clear_value t)
    | split

/-! ### LampOps -/

theorem State.lp_moves (hp : Sub 1125899906842624 F.parts) {s : State} {g : Lamp → Lamp} (h : Moves F s₀ s) : Moves F s₀ (State.lp s g) := by
  unfold State.lp
  repeat' first
    | with_reducible assumption
    | exact hp.bit rfl
    | exact hp.sub rfl
    | simp (disch := first | exact hp.out rfl | with_reducible exact fun _ => rfl) only [Moves.mk_iff]

theorem State.dropChallenge_moves (hp : Sub 4194304 F.parts) {s : State} (h : Moves F s₀ s) : Moves F s₀ (State.dropChallenge s) := by
  unfold State.dropChallenge
  repeat' first
    | with_reducible assumption
    | exact hp.bit rfl
    | exact hp.sub rfl
    | with_reducible refine State.wr_moves ?_ ?_

theorem State.lampGet_moves (hp : Sub 1125899911036928 F.parts) {s : State} {level : ℕ} (h : Moves F s₀ s) : Moves F s₀ (State.lampGet s level) := by
  unfold State.lampGet
  repeat' first
    | with_reducible assumption
    | exact hp.bit rfl
    | exact hp.sub rfl
    | with_reducible refine State.wr_moves ?_ ?_
    | with_reducible refine State.drawn_moves ?_
    | with_reducible refine State.lp_moves ?_ ?_
    | (extract_lets +onlyGivenNames t; refine Moves.cut (F := F) (s₀ := s₀) (t := t) ?_ (fun ht => ?_); rotate_left; (try clear_value t); rotate_left; subst t)
    | (extract_lets +onlyGivenNames t; try clear_value t)
    | split
    | simp (disch := first | exact hp.out rfl | with_reducible exact fun _ => rfl) only [Moves.mk_iff]

theorem State.lampSubmit_moves (hp : Sub 4194304 F.parts) {s : State} (h : Moves F s₀ s) : Moves F s₀ (State.lampSubmit s) := by
  unfold State.lampSubmit
  repeat' first
    | with_reducible assumption
    | exact hp.bit rfl
    | exact hp.sub rfl
    | with_reducible refine State.wr_moves ?_ ?_
    | with_reducible refine State.dropChallenge_moves ?_ ?_
    | with_reducible refine State.count_moves ?_ ?_
    | split

theorem State.lampLock_moves (hp : Sub 4194304 F.parts) {s : State} (h : Moves F s₀ s) : Moves F s₀ (State.lampLock s) := by
  unfold State.lampLock
  repeat' first
    | with_reducible assumption
    | exact hp.bit rfl
    | exact hp.sub rfl
    | with_reducible refine State.wr_moves ?_ ?_

theorem State.writeUnlock_moves (hp : Sub 1125899911036928 F.parts) {s : State} {v : ℕ} (h : Moves F s₀ s) : Moves F s₀ (State.writeUnlock s v) := by
  unfold State.writeUnlock
  repeat' first
    | with_reducible assumption
    | exact hp.bit rfl
    | exact hp.sub rfl
    | with_reducible refine State.lampGet_moves ?_ ?_
    | with_reducible refine State.lampSubmit_moves ?_ ?_
    | with_reducible refine State.lampLock_moves ?_ ?_
    | with_reducible refine State.wr_moves ?_ ?_
    | split

end Sys2Proof.Machine
end

