-- ==== Sys2Proof/Laws/MovesF.lean ====
section
/-! SUPPORT. What each operation and meaning of these files may do to the state as a whole (see Moves.lean):
Mailbox, Ranges, Samples, Scrubs, Stopes, Trees, RegWrites. -/

namespace Sys2Proof.Machine

set_option linter.unusedTactic false
set_option linter.unreachableTactic false
set_option linter.unusedVariables false
set_option linter.tactic.unusedName false

variable {F : Foot} {s₀ : State}

/-! ### Mailbox -/

theorem State.mbIdentify_moves {s : State} (h : Moves F s₀ s) : Moves F s₀ (State.mbIdentify s).2.2 := by
  unfold State.mbIdentify
  repeat' first
    | with_reducible assumption
    | dsimp only
theorem State.mbIdentify_moves' {s : State} {r0 : ℕ} {r1 : List ℕ} {t : State} (e : State.mbIdentify s = (r0, r1, t)) (h : Moves F s₀ s) : Moves F s₀ t := by
  have k := @State.mbIdentify_moves F s₀ s h
  rw [e] at k; exact k

theorem State.mbReadRecord_moves (hp : Sub 274877906944 F.parts) {s : State} (h : Moves F s₀ s) : Moves F s₀ (State.mbReadRecord s).2.2 := by
  unfold State.mbReadRecord
  repeat' first
    | with_reducible assumption
    | exact hp.bit rfl
    | exact hp.sub rfl
    | exact Sub.mem (f := a) hp ha (by rfl)
    | (extract_lets +onlyGivenNames t; refine Moves.cut (F := F) (s₀ := s₀) (t := t) ?_ (fun ht => ?_); rotate_left; (try clear_value t); rotate_left; subst t)
    | (extract_lets +onlyGivenNames t; try clear_value t)
    | dsimp only
    | with_reducible refine Moves.foldl ?_ (fun t a ha ht => ?_)
    | with_reducible refine Moves.foldl2 ?_ (fun y a ht => ?_)
    | with_reducible refine Moves.foldl1 ?_ (fun y a ht => ?_)
theorem State.mbReadRecord_moves' (hp : Sub 274877906944 F.parts) {s : State} {r0 : ℕ} {r1 : List ℕ} {t : State} (e : State.mbReadRecord s = (r0, r1, t)) (h : Moves F s₀ s) : Moves F s₀ t := by
  have k := @State.mbReadRecord_moves F s₀ (hp.sub rfl) s h
  rw [e] at k; exact k

theorem State.mbClearRecord_moves (hf : F.flash = true) (hp : Sub 140737488420864 F.parts) {s : State} {mask : ℕ} (h : Moves F s₀ s) : Moves F s₀ (State.mbClearRecord s mask).2.2 := by
  unfold State.mbClearRecord
  repeat' first
    | with_reducible assumption
    | exact hp.bit rfl
    | exact hp.sub rfl
    | (extract_lets +onlyGivenNames t; refine Moves.cut (F := F) (s₀ := s₀) (t := t) ?_ (fun ht => ?_); rotate_left; (try clear_value t); rotate_left; subst t)
    | split
    | dsimp only
    | with_reducible refine State.onRecord_moves ?_ ?_
    | with_reducible refine State.wr_moves ?_ ?_
    | with_reducible refine State.writeRecord_moves hf ?_
    | simp (disch := first | exact hp.out rfl | with_reducible exact fun _ => rfl) only [Moves.mk_iff]
theorem State.mbClearRecord_moves' (hf : F.flash = true) (hp : Sub 140737488420864 F.parts) {s : State} {mask : ℕ} {r0 : ℕ} {r1 : List ℕ} {t : State} (e : State.mbClearRecord s mask = (r0, r1, t)) (h : Moves F s₀ s) : Moves F s₀ t := by
  have k := @State.mbClearRecord_moves F s₀ hf (hp.sub rfl) s mask h
  rw [e] at k; exact k

theorem State.fillSlot_moves (hk : F.keys = true) (hp : Sub 549755830272 F.parts) {s : State} {k : ℕ} {key : ℕ} (h : Moves F s₀ s) : Moves F s₀ (State.fillSlot s k key) := by
  unfold State.fillSlot
  repeat' first
    | with_reducible assumption
    | exact hp.bit rfl
    | exact hp.sub rfl
    | with_reducible refine State.showKeys_moves ?_ ?_
    | with_reducible refine State.en_moves (fun _ => ⟨rfl, rfl⟩) ?_ ?_
    | with_reducible refine State.en_moves_keys hk ?_ ?_
    | simp (disch := first | exact hp.out rfl | with_reducible exact fun _ => rfl) only [Moves.mk_iff]

theorem State.mbKeyLoad_moves (hk : F.keys = true) (hp : Sub 549755830272 F.parts) {s : State} {slot : ℕ} (h : Moves F s₀ s) : Moves F s₀ (State.mbKeyLoad s slot).2.2 := by
  unfold State.mbKeyLoad
  repeat' first
    | with_reducible assumption
    | exact hp.bit rfl
    | exact hp.sub rfl
    | split
    | dsimp only
    | with_reducible refine State.fillSlot_moves hk ?_ ?_
    | with_reducible refine State.en_moves (fun _ => ⟨rfl, rfl⟩) ?_ ?_
    | with_reducible refine State.en_moves_keys hk ?_ ?_
    | simp (disch := first | exact hp.out rfl | with_reducible exact fun _ => rfl) only [Moves.mk_iff]
theorem State.mbKeyLoad_moves' (hk : F.keys = true) (hp : Sub 549755830272 F.parts) {s : State} {slot : ℕ} {r0 : ℕ} {r1 : List ℕ} {t : State} (e : State.mbKeyLoad s slot = (r0, r1, t)) (h : Moves F s₀ s) : Moves F s₀ t := by
  have k := @State.mbKeyLoad_moves F s₀ hk (hp.sub rfl) s slot h
  rw [e] at k; exact k

theorem State.mbKeyDraw_moves (hk : F.keys = true) (hp : Sub 549755830272 F.parts) {s : State} {slot : ℕ} (h : Moves F s₀ s) : Moves F s₀ (State.mbKeyDraw s slot).2.2 := by
  unfold State.mbKeyDraw
  repeat' first
    | with_reducible assumption
    | exact hp.bit rfl
    | exact hp.sub rfl
    | split
    | dsimp only
    | with_reducible refine State.fillSlot_moves hk ?_ ?_
    | with_reducible refine State.drawn_moves ?_
theorem State.mbKeyDraw_moves' (hk : F.keys = true) (hp : Sub 549755830272 F.parts) {s : State} {slot : ℕ} {r0 : ℕ} {r1 : List ℕ} {t : State} (e : State.mbKeyDraw s slot = (r0, r1, t)) (h : Moves F s₀ s) : Moves F s₀ t := by
  have k := @State.mbKeyDraw_moves F s₀ hk (hp.sub rfl) s slot h
  rw [e] at k; exact k

theorem State.mbKeyClear_moves (hk : F.keys = true) (hp : Sub 549755830272 F.parts) {s : State} {slot : ℕ} (h : Moves F s₀ s) : Moves F s₀ (State.mbKeyClear s slot).2.2 := by
  unfold State.mbKeyClear
  repeat' first
    | with_reducible assumption
    | exact hp.bit rfl
    | exact hp.sub rfl
    | split
    | dsimp only
    | with_reducible refine State.en_moves (fun _ => ⟨rfl, rfl⟩) ?_ ?_
    | with_reducible refine State.en_moves_keys hk ?_ ?_
    | with_reducible refine State.showKeys_moves ?_ ?_
    | simp (disch := first | exact hp.out rfl | with_reducible exact fun _ => rfl) only [Moves.mk_iff]
theorem State.mbKeyClear_moves' (hk : F.keys = true) (hp : Sub 549755830272 F.parts) {s : State} {slot : ℕ} {r0 : ℕ} {r1 : List ℕ} {t : State} (e : State.mbKeyClear s slot = (r0, r1, t)) (h : Moves F s₀ s) : Moves F s₀ t := by
  have k := @State.mbKeyClear_moves F s₀ hk (hp.sub rfl) s slot h
  rw [e] at k; exact k

theorem State.mbFlashUpdate_moves (hf : F.flash = true) (hp : Sub 140737488420864 F.parts) {s : State} {v : UpdateView} (h : Moves F s₀ s) : Moves F s₀ (State.mbFlashUpdate s v).2.2 := by
  unfold State.mbFlashUpdate
  repeat' first
    | with_reducible assumption
    | exact hp.bit rfl
    | exact hp.sub rfl
    | (extract_lets +onlyGivenNames t; refine Moves.cut (F := F) (s₀ := s₀) (t := t) ?_ (fun ht => ?_); rotate_left; (try clear_value t); rotate_left; subst t)
    | (extract_lets +onlyGivenNames t; try clear_value t)
    | split
    | dsimp only
    | with_reducible refine State.wr_moves ?_ ?_
    | with_reducible refine State.onRecord_moves ?_ ?_
    | with_reducible refine State.writeRecord_moves hf ?_
    | simp (disch := first | exact hp.out rfl | with_reducible exact fun _ => rfl) only [Moves.mk_iff]
theorem State.mbFlashUpdate_moves' (hf : F.flash = true) (hp : Sub 140737488420864 F.parts) {s : State} {v : UpdateView} {r0 : ℕ} {r1 : List ℕ} {t : State} (e : State.mbFlashUpdate s v = (r0, r1, t)) (h : Moves F s₀ s) : Moves F s₀ t := by
  have k := @State.mbFlashUpdate_moves F s₀ hf (hp.sub rfl) s v h
  rw [e] at k; exact k

theorem State.mbRemapAdd_moves (hf : F.flash = true) {s : State} (h : Moves F s₀ s) : Moves F s₀ (State.mbRemapAdd s).2.2 := by
  unfold State.mbRemapAdd
  repeat' first
    | with_reducible assumption
    | (extract_lets +onlyGivenNames t; refine Moves.cut (F := F) (s₀ := s₀) (t := t) ?_ (fun ht => ?_); rotate_left; (try clear_value t); rotate_left; subst t)
    | (extract_lets +onlyGivenNames t; try clear_value t)
    | split
    | dsimp only
    | simp only [Moves.flash_iff hf]
    | simp (disch := first | exact hp.out rfl | with_reducible exact fun _ => rfl) only [Moves.mk_iff]
theorem State.mbRemapAdd_moves' (hf : F.flash = true) {s : State} {r0 : ℕ} {r1 : List ℕ} {t : State} (e : State.mbRemapAdd s = (r0, r1, t)) (h : Moves F s₀ s) : Moves F s₀ t := by
  have k := @State.mbRemapAdd_moves F s₀ hf s h
  rw [e] at k; exact k

theorem State.mbReadLog_moves {s : State} {first : ℕ} (h : Moves F s₀ s) : Moves F s₀ (State.mbReadLog s first).2.2 := by
  unfold State.mbReadLog
  repeat' first
    | with_reducible assumption
    | (extract_lets +onlyGivenNames t; refine Moves.cut (F := F) (s₀ := s₀) (t := t) ?_ (fun ht => ?_); rotate_left; (try clear_value t); rotate_left; subst t)
    | (extract_lets +onlyGivenNames t; try clear_value t)
    | split
    | dsimp only
theorem State.mbReadLog_moves' {s : State} {first : ℕ} {r0 : ℕ} {r1 : List ℕ} {t : State} (e : State.mbReadLog s first = (r0, r1, t)) (h : Moves F s₀ s) : Moves F s₀ t := by
  have k := @State.mbReadLog_moves F s₀ s first h
  rw [e] at k; exact k

theorem State.mbCarry_all (hf : F.flash = true) (hk : F.keys = true) (hp : Sub 141562122158080 F.parts) {s : State} {op len : ℕ} {v : Option UpdateView} {r : MbOut} (e : State.mbCarry s op len v = some r)
    (h : Moves F s₀ s) : Moves F s₀ r.2.2 := by
  unfold State.mbCarry at e
  repeat' split at e
  all_goals first | (obtain ⟨v, -, rfl⟩ := Option.map_eq_some_iff.1 e; clear e) | (cases Option.some.inj e; clear e)
  all_goals repeat' first
    | with_reducible assumption
    | exact hp.bit rfl
    | exact hp.sub rfl
    | split
    | dsimp only
    | with_reducible refine State.mbIdentify_moves ?_
    | refine State.mbIdentify_moves' (by with_reducible assumption) ?_
    | with_reducible refine State.mbReadRecord_moves ?_ ?_
    | refine State.mbReadRecord_moves' ?_ (by with_reducible assumption) ?_
    | with_reducible refine State.mbClearRecord_moves hf ?_ ?_
    | refine State.mbClearRecord_moves' hf ?_ (by with_reducible assumption) ?_
    | with_reducible refine State.mbKeyLoad_moves hk ?_ ?_
    | refine State.mbKeyLoad_moves' hk ?_ (by with_reducible assumption) ?_
    | with_reducible refine State.mbKeyDraw_moves hk ?_ ?_
    | refine State.mbKeyDraw_moves' hk ?_ (by with_reducible assumption) ?_
    | with_reducible refine State.mbKeyClear_moves hk ?_ ?_
    | refine State.mbKeyClear_moves' hk ?_ (by with_reducible assumption) ?_
    | with_reducible refine State.mbFlashUpdate_moves hf ?_ ?_
    | refine State.mbFlashUpdate_moves' hf ?_ (by with_reducible assumption) ?_
    | with_reducible refine State.mbRemapAdd_moves hf ?_
    | refine State.mbRemapAdd_moves' hf (by with_reducible assumption) ?_
    | with_reducible refine State.mbReadLog_moves ?_
    | refine State.mbReadLog_moves' (by with_reducible assumption) ?_
theorem State.mbCarry_moves (hf : F.flash = true) (hk : F.keys = true) (hp : Sub 141562122158080 F.parts) {s : State} {op len : ℕ} {v : Option UpdateView} {x : ℕ} {y : List ℕ} {t : State}
    (e : State.mbCarry s op len v = some (x, y, t)) (h : Moves F s₀ s) : Moves F s₀ t := State.mbCarry_all hf hk (hp.sub rfl) e h

theorem State.mbRun_moves (hf : F.flash = true) (hk : F.keys = true) (hp : Sub 141562122158080 F.parts) {s : State} {v : Option UpdateView} (h : Moves F s₀ s) : Moves F s₀ (State.mbRun s v) := by
  unfold State.mbRun
  repeat' first
    | with_reducible assumption
    | exact hp.bit rfl
    | exact hp.sub rfl
    | refine State.mbCarry_moves hf hk ?_ (by with_reducible assumption) ?_
    | with_reducible refine State.fo_moves ?_ ?_
    | split
    | simp (disch := first | exact hp.out rfl | with_reducible exact fun _ => rfl) only [Moves.mk_iff]

theorem State.mbFinish_moves (hp : Sub 4644345705725952 F.parts) {s : State} (h : Moves F s₀ s) : Moves F s₀ (State.mbFinish s) := by
  unfold State.mbFinish
  repeat' first
    | with_reducible assumption
    | exact hp.bit rfl
    | exact hp.sub rfl
    | exact Sub.mem (f := a) hp ha (by rfl)
    | with_reducible refine State.wr_moves ?_ ?_
    | with_reducible refine State.fo_moves ?_ ?_
    | with_reducible refine State.raise_moves ?_ ?_ ?_
    | with_reducible refine Moves.foldl ?_ (fun t a ha ht => ?_)
    | with_reducible refine Moves.foldl2 ?_ (fun y a ht => ?_)
    | with_reducible refine Moves.foldl1 ?_ (fun y a ht => ?_)
    | (extract_lets +onlyGivenNames t; refine Moves.cut (F := F) (s₀ := s₀) (t := t) ?_ (fun ht => ?_); rotate_left; (try clear_value t); rotate_left; subst t)
    | split
    | simp (disch := first | exact hp.out rfl | with_reducible exact fun _ => rfl) only [Moves.mk_iff]

theorem State.mbIssue_moves (hf : F.flash = true) (hk : F.keys = true) (hp : Sub 4645170339463168 F.parts) {s : State} {op : ℕ} {len : ℕ} {tag : ℕ} {v : Option UpdateView} (h : Moves F s₀ s) : Moves F s₀ (State.mbIssue s op len tag v) := by
  unfold State.mbIssue
  repeat' first
    | with_reducible assumption
    | exact hp.bit rfl
    | exact hp.sub rfl
    | with_reducible refine State.wr_moves ?_ ?_
    | with_reducible refine State.mbRun_moves hf hk ?_ ?_
    | with_reducible refine State.fo_moves ?_ ?_
    | with_reducible refine State.mbFinish_moves ?_ ?_
    | (extract_lets +onlyGivenNames t; refine Moves.cut (F := F) (s₀ := s₀) (t := t) ?_ (fun ht => ?_); rotate_left; (try clear_value t); rotate_left; subst t)
    | split
    | simp (disch := first | exact hp.out rfl | with_reducible exact fun _ => rfl) only [Moves.mk_iff]

theorem State.mbCommand_moves (hf : F.flash = true) (hk : F.keys = true) (hp : Sub 4645170339463168 F.parts) {s : State} {op : ℕ} {len : ℕ} {tag : ℕ} {v : Option UpdateView} (h : Moves F s₀ s) : Moves F s₀ (State.mbCommand s op len tag v) := by
  unfold State.mbCommand
  repeat' first
    | with_reducible assumption
    | exact hp.bit rfl
    | exact hp.sub rfl
    | with_reducible refine State.mbRun_moves hf hk ?_ ?_
    | with_reducible refine State.mbIssue_moves hf hk ?_ ?_
    | split

theorem execIdentify_moves (hf : F.flash = true) (hk : F.keys = true) (hp : Sub 4645170339463168 F.parts) {len : ℕ} {tag : ℕ} {s : State} {t : State} (e : execIdentify len tag s = .next t) (h : Moves F s₀ s) : Moves F s₀ t := by
  unfold execIdentify at e
  try dsimp only at e
  cases Host.Outcome.next.inj e
  repeat' first
    | with_reducible assumption
    | exact hp.bit rfl
    | exact hp.sub rfl
    | with_reducible refine State.mbCommand_moves hf hk ?_ ?_

theorem execReadRecord_moves (hf : F.flash = true) (hk : F.keys = true) (hp : Sub 4645170339463168 F.parts) {len : ℕ} {tag : ℕ} {s : State} {t : State} (e : execReadRecord len tag s = .next t) (h : Moves F s₀ s) : Moves F s₀ t := by
  unfold execReadRecord at e
  try dsimp only at e
  cases Host.Outcome.next.inj e
  repeat' first
    | with_reducible assumption
    | exact hp.bit rfl
    | exact hp.sub rfl
    | with_reducible refine State.mbCommand_moves hf hk ?_ ?_

theorem execClearRecord_moves (hf : F.flash = true) (hk : F.keys = true) (hp : Sub 4645170339463168 F.parts) {len : ℕ} {tag : ℕ} {s : State} {t : State} (e : execClearRecord len tag s = .next t) (h : Moves F s₀ s) : Moves F s₀ t := by
  unfold execClearRecord at e
  try dsimp only at e
  cases Host.Outcome.next.inj e
  repeat' first
    | with_reducible assumption
    | exact hp.bit rfl
    | exact hp.sub rfl
    | with_reducible refine State.mbCommand_moves hf hk ?_ ?_

theorem execKeyLoad_moves (hf : F.flash = true) (hk : F.keys = true) (hp : Sub 4645170339463168 F.parts) {len : ℕ} {tag : ℕ} {s : State} {t : State} (e : execKeyLoad len tag s = .next t) (h : Moves F s₀ s) : Moves F s₀ t := by
  unfold execKeyLoad at e
  try dsimp only at e
  cases Host.Outcome.next.inj e
  repeat' first
    | with_reducible assumption
    | exact hp.bit rfl
    | exact hp.sub rfl
    | with_reducible refine State.mbCommand_moves hf hk ?_ ?_

theorem execKeyDraw_moves (hf : F.flash = true) (hk : F.keys = true) (hp : Sub 4645170339463168 F.parts) {len : ℕ} {tag : ℕ} {s : State} {t : State} (e : execKeyDraw len tag s = .next t) (h : Moves F s₀ s) : Moves F s₀ t := by
  unfold execKeyDraw at e
  try dsimp only at e
  cases Host.Outcome.next.inj e
  repeat' first
    | with_reducible assumption
    | exact hp.bit rfl
    | exact hp.sub rfl
    | with_reducible refine State.mbCommand_moves hf hk ?_ ?_

theorem execKeyClear_moves (hf : F.flash = true) (hk : F.keys = true) (hp : Sub 4645170339463168 F.parts) {len : ℕ} {tag : ℕ} {s : State} {t : State} (e : execKeyClear len tag s = .next t) (h : Moves F s₀ s) : Moves F s₀ t := by
  unfold execKeyClear at e
  try dsimp only at e
  cases Host.Outcome.next.inj e
  repeat' first
    | with_reducible assumption
    | exact hp.bit rfl
    | exact hp.sub rfl
    | with_reducible refine State.mbCommand_moves hf hk ?_ ?_

theorem execFlashUpdate_moves (hf : F.flash = true) (hk : F.keys = true) (hp : Sub 4645170339463168 F.parts) {y0 : Nat} {y1 : Nat} {y2 : List Nat} {y3 : List Nat × List Nat} {y4 : Bool} {s : State} {t : State} (e : execFlashUpdate y0 y1 y2 y3 y4 s = .next t) (h : Moves F s₀ s) : Moves F s₀ t := by
  unfold execFlashUpdate at e
  try dsimp only at e
  cases Host.Outcome.next.inj e
  repeat' first
    | with_reducible assumption
    | exact hp.bit rfl
    | exact hp.sub rfl
    | with_reducible refine State.mbCommand_moves hf hk ?_ ?_

theorem execRemapAdd_moves (hf : F.flash = true) (hk : F.keys = true) (hp : Sub 4645170339463168 F.parts) {len : ℕ} {tag : ℕ} {s : State} {t : State} (e : execRemapAdd len tag s = .next t) (h : Moves F s₀ s) : Moves F s₀ t := by
  unfold execRemapAdd at e
  try dsimp only at e
  cases Host.Outcome.next.inj e
  repeat' first
    | with_reducible assumption
    | exact hp.bit rfl
    | exact hp.sub rfl
    | with_reducible refine State.mbCommand_moves hf hk ?_ ?_

theorem execReadLog_moves (hf : F.flash = true) (hk : F.keys = true) (hp : Sub 4645170339463168 F.parts) {len : ℕ} {tag : ℕ} {s : State} {t : State} (e : execReadLog len tag s = .next t) (h : Moves F s₀ s) : Moves F s₀ t := by
  unfold execReadLog at e
  try dsimp only at e
  cases Host.Outcome.next.inj e
  repeat' first
    | with_reducible assumption
    | exact hp.bit rfl
    | exact hp.sub rfl
    | with_reducible refine State.mbCommand_moves hf hk ?_ ?_

theorem execEcho_moves (hf : F.flash = true) (hk : F.keys = true) (hp : Sub 4645170339463168 F.parts) {len : ℕ} {tag : ℕ} {s : State} {t : State} (e : execEcho len tag s = .next t) (h : Moves F s₀ s) : Moves F s₀ t := by
  unfold execEcho at e
  try dsimp only at e
  cases Host.Outcome.next.inj e
  repeat' first
    | with_reducible assumption
    | exact hp.bit rfl
    | exact hp.sub rfl
    | with_reducible refine State.mbCommand_moves hf hk ?_ ?_

theorem execMbDone_moves (hp : Sub 4644345705725952 F.parts) {s : State} {t : State} (e : execMbDone s = .next t) (h : Moves F s₀ s) : Moves F s₀ t := by
  unfold execMbDone at e
  try dsimp only at e
  cases Host.Outcome.next.inj e
  repeat' first
    | with_reducible assumption
    | exact hp.bit rfl
    | exact hp.sub rfl
    | with_reducible refine State.mbFinish_moves ?_ ?_

/-! ### Ranges -/

theorem State.rangeCmd_moves (hm : F.mem = true) (hf : F.flash = true) (hk : F.keys = true) (hp : Sub 15766859307570064 F.parts) {s : State} {k : ℕ} {cmd : ℕ} (h : Moves F s₀ s) : Moves F s₀ (State.rangeCmd s k cmd) := by
  unfold State.rangeCmd
  repeat' first
    | with_reducible assumption
    | exact hp.bit rfl
    | exact hp.sub rfl
    | exact Sub.mem (f := a) hp ha (by rfl)
    | with_reducible refine State.en_moves (fun _ => ⟨rfl, rfl⟩) ?_ ?_
    | with_reducible refine State.en_moves_keys hk ?_ ?_
    | with_reducible refine State.dramIdle_moves hm hf hk ?_ ?_
    | with_reducible refine State.wr_moves ?_ ?_
    | with_reducible refine State.flushHalf_moves hm hf hk ?_ ?_
    | with_reducible refine Moves.foldl ?_ (fun t a ha ht => ?_)
    | (extract_lets +onlyGivenNames t; refine Moves.cut (F := F) (s₀ := s₀) (t := t) ?_ (fun ht => ?_); rotate_left; (try clear_value t); rotate_left; subst t)
    | (extract_lets +onlyGivenNames t; try clear_value t)
    | split
    | simp (disch := first | exact hp.out rfl | with_reducible exact fun _ => rfl) only [Moves.mk_iff]

theorem execRangeEnable_moves (hm : F.mem = true) (hf : F.flash = true) (hk : F.keys = true) (hp : Sub 15766859307570064 F.parts) {key : ℕ} {s : State} {t : State} (e : execRangeEnable key s = .next t) (h : Moves F s₀ s) : Moves F s₀ t := by
  unfold execRangeEnable at e
  rw [need_next e]; clear e
  repeat' first
    | with_reducible assumption
    | exact hp.bit rfl
    | exact hp.sub rfl
    | refine need_moves (by with_reducible assumption) ?_
    | with_reducible refine State.rangeCmd_moves hm hf hk ?_ ?_

theorem State.zeroCounters_moves (hp : Sub 549755813888 F.parts) {s : State} {k : ℕ} (h : Moves F s₀ s) : Moves F s₀ (State.zeroCounters s k) := by
  unfold State.zeroCounters
  repeat' first
    | with_reducible assumption
    | exact hp.bit rfl
    | exact hp.sub rfl
    | with_reducible refine State.en_moves (fun _ => ⟨rfl, rfl⟩) ?_ ?_
    | simp (disch := first | exact hp.out rfl | with_reducible exact fun _ => rfl) only [Moves.mk_iff]

theorem execRangeEnableDone_moves (hm : F.mem = true) (hf : F.flash = true) (hk : F.keys = true) (hp : Sub 15766859307570064 F.parts) {key : ℕ} {s : State} {t : State} (e : execRangeEnableDone key s = .next t) (h : Moves F s₀ s) : Moves F s₀ t := by
  unfold execRangeEnableDone at e
  rw [need_next e]; clear e
  repeat' first
    | with_reducible assumption
    | exact hp.bit rfl
    | exact hp.sub rfl
    | refine need_moves (by with_reducible assumption) ?_
    | with_reducible refine State.zeroCounters_moves ?_ ?_
    | with_reducible refine State.clearSpan_moves hm ?_ ?_
    | with_reducible refine State.en_moves (fun _ => ⟨rfl, rfl⟩) ?_ ?_
    | with_reducible refine State.en_moves_keys hk ?_ ?_
    | with_reducible refine State.wr_moves ?_ ?_
    | with_reducible refine State.releaseHeld_moves hm hf hk ?_ ?_
    | with_reducible refine State.showRange_moves ?_ ?_
    | (extract_lets +onlyGivenNames t; refine Moves.cut (F := F) (s₀ := s₀) (t := t) ?_ (fun ht => ?_); rotate_left; (try clear_value t); rotate_left; subst t)
    | split
    | simp (disch := first | exact hp.out rfl | with_reducible exact fun _ => rfl) only [Moves.mk_iff]

theorem execRangeRetire_moves (hm : F.mem = true) (hf : F.flash = true) (hk : F.keys = true) (hp : Sub 15766859307570064 F.parts) {key : ℕ} {s : State} {t : State} (e : execRangeRetire key s = .next t) (h : Moves F s₀ s) : Moves F s₀ t := by
  unfold execRangeRetire at e
  rw [need_next e]; clear e
  repeat' first
    | with_reducible assumption
    | exact hp.bit rfl
    | exact hp.sub rfl
    | refine need_moves (by with_reducible assumption) ?_
    | with_reducible refine State.rangeCmd_moves hm hf hk ?_ ?_

theorem execRangeRetireDone_moves (hm : F.mem = true) (hf : F.flash = true) (hk : F.keys = true) (hp : Sub 15766859307570064 F.parts) {key : ℕ} {s : State} {t : State} (e : execRangeRetireDone key s = .next t) (h : Moves F s₀ s) : Moves F s₀ t := by
  unfold execRangeRetireDone at e
  rw [need_next e]; clear e
  repeat' first
    | with_reducible assumption
    | exact hp.bit rfl
    | exact hp.sub rfl
    | exact Sub.mem (f := a) hp ha (by rfl)
    | refine need_moves (by with_reducible assumption) ?_
    | with_reducible refine State.zeroCounters_moves ?_ ?_
    | with_reducible refine State.clearSpan_moves hm ?_ ?_
    | with_reducible refine State.wr_moves ?_ ?_
    | with_reducible refine State.showKeys_moves ?_ ?_
    | with_reducible refine State.en_moves (fun _ => ⟨rfl, rfl⟩) ?_ ?_
    | with_reducible refine State.en_moves_keys hk ?_ ?_
    | with_reducible refine State.showFaulted_moves ?_ ?_
    | with_reducible refine State.showRange_moves ?_ ?_
    | with_reducible refine State.releaseHeld_moves hm hf hk ?_ ?_
    | with_reducible refine Moves.foldl ?_ (fun t a ha ht => ?_)
    | (extract_lets +onlyGivenNames t; refine Moves.cut (F := F) (s₀ := s₀) (t := t) ?_ (fun ht => ?_); rotate_left; (try clear_value t); rotate_left; subst t)
    | split
    | simp (disch := first | exact hp.out rfl | with_reducible exact fun _ => rfl) only [Moves.mk_iff]

theorem State.nodeFault_moves (hp : Sub 2251799813701632 F.parts) {s : State} {k : ℕ} {level : ℕ} {idx : ℕ} (h : Moves F s₀ s) : Moves F s₀ (State.nodeFault s k level idx) := by
  unfold State.nodeFault
  repeat' first
    | with_reducible assumption
    | exact hp.bit rfl
    | exact hp.sub rfl
    | with_reducible refine State.count_moves ?_ ?_
    | with_reducible refine State.wr_moves ?_ ?_
    | with_reducible refine State.post_moves ?_ ?_
    | with_reducible refine State.showFaulted_moves ?_ ?_
    | with_reducible refine State.showRange_moves ?_ ?_
    | with_reducible refine State.rangeFault_moves ?_ ?_
    | (extract_lets +onlyGivenNames t; refine Moves.cut (F := F) (s₀ := s₀) (t := t) ?_ (fun ht => ?_); rotate_left; (try clear_value t); rotate_left; subst t)
    | split

theorem State.retryWaiting_moves (hm : F.mem = true) (hf : F.flash = true) (hk : F.keys = true) (hp : Sub 15766859307570064 F.parts) {s : State} (h : Moves F s₀ s) : Moves F s₀ (State.retryWaiting s) := by
  unfold State.retryWaiting
  repeat' first
    | with_reducible assumption
    | exact hp.bit rfl
    | exact hp.sub rfl
    | exact Sub.mem (f := a) hp ha (by rfl)
    | with_reducible refine State.post_moves ?_ ?_
    | with_reducible refine State.faultAnswer_moves ?_ ?_
    | with_reducible refine State.servePage_moves hm hf hk ?_ ?_
    | with_reducible refine State.en_moves (fun _ => ⟨rfl, rfl⟩) ?_ ?_
    | with_reducible refine State.en_moves_keys hk ?_ ?_
    | with_reducible refine Moves.foldl ?_ (fun t a ha ht => ?_)
    | (extract_lets +onlyGivenNames t; refine Moves.cut (F := F) (s₀ := s₀) (t := t) ?_ (fun ht => ?_); rotate_left; (try clear_value t); rotate_left; subst t)
    | (extract_lets +onlyGivenNames t; try clear_value t)
    | split
    | simp (disch := first | exact hp.out rfl | with_reducible exact fun _ => rfl) only [Moves.mk_iff]

theorem execNodeFetchDone_moves (hm : F.mem = true) (hf : F.flash = true) (hk : F.keys = true) (hp : Sub 15766859307570064 F.parts) {v : DramView} {s : State} {t : State} (e : execNodeFetchDone v s = .next t) (h : Moves F s₀ s) : Moves F s₀ t := by
  unfold execNodeFetchDone at e
  try dsimp only at e
  cases Host.Outcome.next.inj e
  repeat' first
    | with_reducible assumption
    | exact hp.bit rfl
    | exact hp.sub rfl
    | with_reducible refine State.retryWaiting_moves hm hf hk ?_ ?_
    | with_reducible refine State.haltPart_moves hk ?_ ?_
    | with_reducible refine State.eccCount_moves hf ?_ ?_
    | with_reducible refine State.nodeFault_moves ?_ ?_
    | with_reducible refine State.holdNode_moves ?_ ?_
    | (extract_lets +onlyGivenNames t; refine Moves.cut (F := F) (s₀ := s₀) (t := t) ?_ (fun ht => ?_); rotate_left; (try clear_value t); rotate_left; subst t)
    | (extract_lets +onlyGivenNames t; try clear_value t)
    | split

/-! ### Samples -/

theorem State.sysNotice_moves (hp : Sub 137438953476 F.parts) {s : State} {kind : ℕ} {slot : ℕ} {tally : ℕ} {x4 : ℕ} (h : Moves F s₀ s) : Moves F s₀ (State.sysNotice s kind slot tally x4) := by
  unfold State.sysNotice
  repeat' first
    | with_reducible assumption
    | exact hp.bit rfl
    | exact hp.sub rfl
    | with_reducible refine State.wr_moves ?_ ?_
    | with_reducible refine State.smp_moves ?_ ?_
    | (extract_lets +onlyGivenNames t; refine Moves.cut (F := F) (s₀ := s₀) (t := t) ?_ (fun ht => ?_); rotate_left; (try clear_value t); rotate_left; subst t)
    | split
    | simp (disch := first | exact hp.out rfl | with_reducible exact fun _ => rfl) only [Moves.mk_iff]

theorem State.sysNotices_moves (hp : Sub 137438953476 F.parts) {s : State} {kind : ℕ} {slot : ℕ} {tally : ℕ} (h : Moves F s₀ s) : Moves F s₀ (State.sysNotices s kind slot tally) := by
  unfold State.sysNotices
  repeat' first
    | with_reducible assumption
    | exact hp.bit rfl
    | exact hp.sub rfl
    | exact Sub.mem (f := a) hp ha (by rfl)
    | with_reducible refine State.sysNotice_moves ?_ ?_
    | with_reducible refine Moves.foldl ?_ (fun t a ha ht => ?_)

theorem State.sampleOver_moves (hp : Sub 6755562649813904 F.parts) {s : State} {ev : SchedEvent} {result : ℕ} (h : Moves F s₀ s) : Moves F s₀ (State.sampleOver s ev result) := by
  unfold State.sampleOver
  repeat' first
    | with_reducible assumption
    | exact hp.bit rfl
    | exact hp.sub rfl
    | with_reducible refine State.wd_moves ?_ ?_
    | with_reducible refine State.cmdLocalDone_moves ?_ ?_
    | with_reducible refine State.settle_moves ?_ ?_
    | (extract_lets +onlyGivenNames t; refine Moves.cut (F := F) (s₀ := s₀) (t := t) ?_ (fun ht => ?_); rotate_left; (try clear_value t); rotate_left; subst t)
    | split
    | simp (disch := first | exact hp.out rfl | with_reducible exact fun _ => rfl) only [Moves.mk_iff]

theorem State.takeSample_moves (hp : Sub 15763861416182676 F.parts) {s : State} {ev : SchedEvent} (h : Moves F s₀ s) : Moves F s₀ (State.takeSample s ev) := by
  unfold State.takeSample
  repeat' first
    | with_reducible assumption
    | exact hp.bit rfl
    | exact hp.sub rfl
    | exact Sub.mem (f := a) hp ha (by rfl)
    | with_reducible refine State.armMemory_moves ?_ ?_
    | with_reducible refine State.copyOutStope_moves ?_ ?_
    | with_reducible refine State.put_moves ?_ ?_
    | with_reducible refine State.wr_moves ?_ ?_
    | with_reducible refine State.setSlot_moves ?_ ?_
    | with_reducible refine State.emptySlot_moves ?_ ?_
    | with_reducible refine State.smp_moves ?_ ?_
    | with_reducible refine State.scrubPause_moves ?_ ?_
    | with_reducible refine State.sysNotices_moves ?_ ?_
    | with_reducible refine State.countWrap_moves ?_ ?_
    | with_reducible refine State.sampleOver_moves ?_ ?_
    | with_reducible refine Moves.foldl ?_ (fun t a ha ht => ?_)
    | with_reducible refine Moves.foldl2 ?_ (fun y a ht => ?_)
    | with_reducible refine Moves.foldl1 ?_ (fun y a ht => ?_)
    | (extract_lets +onlyGivenNames t; refine Moves.cut (F := F) (s₀ := s₀) (t := t) ?_ (fun ht => ?_); rotate_left; (try clear_value t); rotate_left; subst t)
    | (extract_lets +onlyGivenNames t; try clear_value t)
    | split
    | simp (disch := first | exact hp.out rfl | with_reducible exact fun _ => rfl) only [Moves.mk_iff]

theorem execSampleCopyOut_moves (hp : Sub 15763861416182676 F.parts) {s : State} {t : State} (e : execSampleCopyOut s = .next t) (h : Moves F s₀ s) : Moves F s₀ t := by
  unfold execSampleCopyOut at e
  try dsimp only at e
  cases Host.Outcome.next.inj e
  repeat' first
    | with_reducible assumption
    | exact hp.bit rfl
    | exact hp.sub rfl
    | with_reducible refine State.lateSpoil_moves ?_ ?_
    | with_reducible refine State.takeSample_moves ?_ ?_
    | with_reducible refine State.sampleOver_moves ?_ ?_
    | split

theorem execCorerDrainFrame_moves (hm : F.mem = true) (hp : Sub 9009260839064464 F.parts) {seam : ℕ} {uncorrectable : Bool} {storeError : Bool} {s : State} {t : State} (e : execCorerDrainFrame seam uncorrectable storeError s = .next t) (h : Moves F s₀ s) : Moves F s₀ t := by
  unfold execCorerDrainFrame at e
  rw [need_next e]; clear e
  repeat' first
    | with_reducible assumption
    | exact hp.bit rfl
    | exact hp.sub rfl
    | refine need_moves (by with_reducible assumption) ?_
    | with_reducible refine State.failSample_moves ?_ ?_
    | with_reducible refine State.agentStore_moves hm ?_ ?_
    | with_reducible refine State.countWrap_moves ?_ ?_
    | with_reducible refine State.smp_moves ?_ ?_
    | with_reducible refine State.setSlot_moves ?_ ?_
    | with_reducible refine State.wr_moves ?_ ?_
    | with_reducible refine State.scrubResume_moves ?_ ?_
    | (extract_lets +onlyGivenNames t; refine Moves.cut (F := F) (s₀ := s₀) (t := t) ?_ (fun ht => ?_); rotate_left; (try clear_value t); rotate_left; subst t)
    | (extract_lets +onlyGivenNames t; try clear_value t)
    | split
    | simp (disch := first | exact hp.out rfl | with_reducible exact fun _ => rfl) only [Moves.mk_iff]

theorem execSampleComplete_moves (hp : Sub 137438954240 F.parts) {s : State} {t : State} (e : execSampleComplete s = .next t) (h : Moves F s₀ s) : Moves F s₀ t := by
  unfold execSampleComplete at e
  try dsimp only at e
  cases Host.Outcome.next.inj e
  repeat' first
    | with_reducible assumption
    | exact hp.bit rfl
    | exact hp.sub rfl
    | exact Sub.mem (f := a) hp ha (by rfl)
    | with_reducible refine State.wr_moves ?_ ?_
    | with_reducible refine State.samplerReady_moves ?_ ?_
    | with_reducible refine Moves.foldl ?_ (fun t a ha ht => ?_)
    | split

theorem State.restoreStope_moves (hu : F.fabMem = true) (hp : Sub 9007336693694464 F.parts) {s : State} {d : SlotData} {n : ℕ} (h : Moves F s₀ s) :
    Moves F s₀ (State.restoreStope s d n) := by
  unfold State.restoreStope
  exact State.updStope_moves (hp.sub rfl) (State.dropMoved_moves (hp.sub rfl) (Moves.newUnits hu (fun e => by
    rw [State.unitsWf, Bool.and_eq_true] at e
    refine ⟨?_, Tab.wf_filter keyLt_order _ e.2⟩
    have k : Tab.wf Key.lt 0 (s.fabMem.filter (fun p => decide (p.1.unit ≠ n))) = true := Tab.wf_filter keyLt_order _ e.1
    revert k
    generalize s.fabMem.filter (fun p => decide (p.1.unit ≠ n)) = m
    generalize d.mems.filter (fun (p : Key × Nat) => decide (p.1.unit = n)) = l
    intro k
    induction l generalizing m with
    | nil => exact k
    | cons p l ih => exact ih _ (Tab.wf_set keyLt_order _ _ _ k)) h))

theorem State.restoreFail_moves (hr : F.frames = true) (hp : Sub 15766060439438256 F.parts) {s : State} (h : Moves F s₀ s) : Moves F s₀ (State.restoreFail s) := by
  unfold State.restoreFail
  repeat' first
    | with_reducible assumption
    | exact hp.bit rfl
    | exact hp.sub rfl
    | exact Sub.mem (f := a) hp ha (by rfl)
    | with_reducible refine State.unconfigure_moves hr ?_ ?_
    | with_reducible refine State.leaveUse_moves ?_ ?_
    | with_reducible refine State.emptySlot_moves ?_ ?_
    | with_reducible refine State.failSample_moves ?_ ?_
    | with_reducible refine State.wr_moves ?_ ?_
    | with_reducible refine State.smp_moves ?_ ?_
    | with_reducible refine State.windTo_moves ?_ ?_
    | with_reducible refine State.recoveryFail_moves ?_ ?_
    | with_reducible refine State.cmdLocalDone_moves ?_ ?_
    | with_reducible refine Moves.foldl ?_ (fun t a ha ht => ?_)
    | (extract_lets +onlyGivenNames t; refine Moves.cut (F := F) (s₀ := s₀) (t := t) ?_ (fun ht => ?_); rotate_left; (try clear_value t); rotate_left; subst t)
    | split
    | simp (disch := first | exact hp.out rfl | with_reducible exact fun _ => rfl) only [Moves.mk_iff]

theorem State.restoreEpoch_moves (hp : Sub 9008436205323152 F.parts) {s : State} {slot : ℕ} (h : Moves F s₀ s) : Moves F s₀ (State.restoreEpoch s slot) := by
  unfold State.restoreEpoch
  repeat' first
    | with_reducible assumption
    | exact hp.bit rfl
    | exact hp.sub rfl
    | exact Sub.mem (f := a) hp ha (by rfl)
    | with_reducible refine State.failSample_moves ?_ ?_
    | with_reducible refine State.emptySlot_moves ?_ ?_
    | with_reducible refine State.wr_moves ?_ ?_
    | with_reducible refine State.smp_moves ?_ ?_
    | with_reducible refine Moves.foldl ?_ (fun t a ha ht => ?_)
    | (extract_lets +onlyGivenNames t; refine Moves.cut (F := F) (s₀ := s₀) (t := t) ?_ (fun ht => ?_); rotate_left; (try clear_value t); rotate_left; subst t)
    | (extract_lets +onlyGivenNames t; try clear_value t)
    | split
    | simp (disch := first | exact hp.out rfl | with_reducible exact fun _ => rfl) only [Moves.mk_iff]

theorem State.restoreFinish_moves (hp : Sub 15763861416182672 F.parts) {s : State} (h : Moves F s₀ s) : Moves F s₀ (State.restoreFinish s) := by
  unfold State.restoreFinish
  repeat' first
    | with_reducible assumption
    | exact hp.bit rfl
    | exact hp.sub rfl
    | exact Sub.mem (f := a) hp ha (by rfl)
    | with_reducible refine State.restoreEpoch_moves ?_ ?_
    | with_reducible refine State.refreshReplaying_moves ?_ ?_
    | with_reducible refine State.smp_moves ?_ ?_
    | with_reducible refine State.windTo_moves ?_ ?_
    | with_reducible refine State.clearSpoil_moves ?_ ?_
    | with_reducible refine State.recoveryProceed_moves ?_ ?_
    | with_reducible refine State.wd_moves ?_ ?_
    | with_reducible refine State.cmdLocalDone_moves ?_ ?_
    | with_reducible refine Moves.foldl ?_ (fun t a ha ht => ?_)
    | (extract_lets +onlyGivenNames t; refine Moves.cut (F := F) (s₀ := s₀) (t := t) ?_ (fun ht => ?_); rotate_left; (try clear_value t); rotate_left; subst t)
    | split
    | simp (disch := first | exact hp.out rfl | with_reducible exact fun _ => rfl) only [Moves.mk_iff]

theorem State.restoreAll_moves (hm : F.mem = true) (hu : F.fabMem = true) (hp : Sub 15781273213618956 F.parts) {s : State} {slot : ℕ} (h : Moves F s₀ s) : Moves F s₀ (State.restoreAll s slot) := by
  unfold State.restoreAll
  repeat' first
    | with_reducible assumption
    | exact hp.bit rfl
    | exact hp.sub rfl
    | exact Sub.mem (f := a) hp ha (by rfl)
    | with_reducible refine State.applyJournal_moves hm ?_ ?_
    | with_reducible refine State.endTargets_moves ?_ ?_
    | with_reducible refine State.restoreStope_moves hu ?_ ?_
    | with_reducible refine State.xpReset_moves ?_ ?_
    | with_reducible refine State.wd_moves ?_ ?_
    | with_reducible refine State.wr_moves ?_ ?_
    | with_reducible refine State.queuesDrop_moves hm ?_ ?_
    | with_reducible refine State.smp_moves ?_ ?_
    | with_reducible refine State.openLink_moves ?_ ?_
    | with_reducible refine State.queuesRestore_moves ?_ ?_
    | with_reducible refine State.sysNotices_moves ?_ ?_
    | with_reducible refine Moves.foldl ?_ (fun t a ha ht => ?_)
    | with_reducible refine Moves.foldl2 ?_ (fun y a ht => ?_)
    | with_reducible refine Moves.foldl1 ?_ (fun y a ht => ?_)
    | (extract_lets +onlyGivenNames t; refine Moves.cut (F := F) (s₀ := s₀) (t := t) ?_ (fun ht => ?_); rotate_left; (try clear_value t); rotate_left; subst t)
    | (extract_lets +onlyGivenNames t; try clear_value t)
    | split
    | simp (disch := first | exact hp.out rfl | with_reducible exact fun _ => rfl) only [Moves.mk_iff]

theorem execRestoreDone_moves (hm : F.mem = true) (hu : F.fabMem = true) (hr : F.frames = true) (hf : F.flash = true) (hk : F.keys = true) (hp : Sub 15784580342635452 F.parts) {error : Bool} {s : State} {t : State} (e : execRestoreDone error s = .next t) (h : Moves F s₀ s) : Moves F s₀ t := by
  unfold execRestoreDone at e
  try dsimp only at e
  cases Host.Outcome.next.inj e
  repeat' first
    | with_reducible assumption
    | exact hp.bit rfl
    | exact hp.sub rfl
    | with_reducible refine State.releaseHeld_moves hm hf hk ?_ ?_
    | with_reducible refine State.restoreFail_moves hr ?_ ?_
    | with_reducible refine State.restoreAll_moves hm hu ?_ ?_
    | with_reducible refine State.lateSpoil_moves ?_ ?_
    | with_reducible refine State.restoreFinish_moves ?_ ?_
    | (extract_lets +onlyGivenNames t; refine Moves.cut (F := F) (s₀ := s₀) (t := t) ?_ (fun ht => ?_); rotate_left; (try clear_value t); rotate_left; subst t)
    | split

theorem execEngLimitExpiry_moves (hr : F.frames = true) (hp : Sub 15766060439438256 F.parts) {s : State} {t : State} (e : execEngLimitExpiry s = .next t) (h : Moves F s₀ s) : Moves F s₀ t := by
  unfold execEngLimitExpiry at e
  try dsimp only at e
  cases Host.Outcome.next.inj e
  repeat' first
    | with_reducible assumption
    | exact hp.bit rfl
    | exact hp.sub rfl
    | with_reducible refine State.restoreFail_moves hr ?_ ?_
    | with_reducible refine State.failSample_moves ?_ ?_
    | split

theorem State.engineAck_moves (hp : Sub 15763861416182672 F.parts) {s : State} {mask : ℕ} (h : Moves F s₀ s) : Moves F s₀ (State.engineAck s mask) := by
  unfold State.engineAck
  repeat' first
    | with_reducible assumption
    | exact hp.bit rfl
    | exact hp.sub rfl
    | with_reducible refine State.smp_moves ?_ ?_
    | with_reducible refine State.lateSpoil_moves ?_ ?_
    | with_reducible refine State.restoreFinish_moves ?_ ?_
    | (extract_lets +onlyGivenNames t; refine Moves.cut (F := F) (s₀ := s₀) (t := t) ?_ (fun ht => ?_); rotate_left; (try clear_value t); rotate_left; subst t)
    | (extract_lets +onlyGivenNames t; try clear_value t)
    | split
    | simp (disch := first | exact hp.out rfl | with_reducible exact fun _ => rfl) only [Moves.mk_iff]

theorem execEngineAck_moves (hp : Sub 15763861416182672 F.parts) {mask : ℕ} {s : State} {t : State} (e : execEngineAck mask s = .next t) (h : Moves F s₀ s) : Moves F s₀ t := by
  unfold execEngineAck at e
  try dsimp only at e
  cases Host.Outcome.next.inj e
  repeat' first
    | with_reducible assumption
    | exact hp.bit rfl
    | exact hp.sub rfl
    | with_reducible refine State.engineAck_moves ?_ ?_

theorem execStopeBackfillDone_moves (hu : F.fabMem = true) (hp : Sub 13510962090869504 F.parts) {seam : ℕ} {s : State} {t : State} (e : execStopeBackfillDone seam s = .next t) (h : Moves F s₀ s) : Moves F s₀ t := by
  unfold execStopeBackfillDone at e
  rw [need_next e]; clear e
  repeat' first
    | with_reducible assumption
    | exact hp.bit rfl
    | exact hp.sub rfl
    | exact Sub.mem (f := a) hp ha (by rfl)
    | refine need_moves (by with_reducible assumption) ?_
    | with_reducible refine State.restoreStope_moves hu ?_ ?_
    | with_reducible refine State.wr_moves ?_ ?_
    | with_reducible refine State.smp_moves ?_ ?_
    | with_reducible refine State.cmdEnd_moves ?_ ?_
    | with_reducible refine Moves.foldl ?_ (fun t a ha ht => ?_)
    | (extract_lets +onlyGivenNames t; refine Moves.cut (F := F) (s₀ := s₀) (t := t) ?_ (fun ht => ?_); rotate_left; (try clear_value t); rotate_left; subst t)
    | (extract_lets +onlyGivenNames t; try clear_value t)
    | split
    | simp (disch := first | exact hp.out rfl | with_reducible exact fun _ => rfl) only [Moves.mk_iff]

/-! ### Scrubs -/

theorem State.passDone_moves (hp : Sub 1099511627904 F.parts) {s : State} {i : ℕ} (h : Moves F s₀ s) : Moves F s₀ (State.passDone s i) := by
  unfold State.passDone
  repeat' first
    | with_reducible assumption
    | exact hp.bit rfl
    | exact hp.sub rfl
    | with_reducible refine State.updScrub_moves ?_ ?_
    | with_reducible refine State.countWrap_moves ?_ ?_
    | with_reducible refine State.startPass_moves ?_ ?_
    | (extract_lets +onlyGivenNames t; refine Moves.cut (F := F) (s₀ := s₀) (t := t) ?_ (fun ht => ?_); rotate_left; (try clear_value t); rotate_left; subst t)
    | split
    | simp (disch := first | exact hp.out rfl | with_reducible exact fun _ => rfl) only [Moves.mk_iff]

theorem State.scrubEvent_moves (hp : Sub 16 F.parts) {s : State} {n : ℕ} {f : ℕ} {repair : Bool} (h : Moves F s₀ s) : Moves F s₀ (State.scrubEvent s n f repair) := by
  unfold State.scrubEvent
  repeat' first
    | with_reducible assumption
    | exact hp.bit rfl
    | exact hp.sub rfl
    | with_reducible refine State.put_moves ?_ ?_
    | with_reducible refine State.wr_moves ?_ ?_

theorem State.frameDone_moves (hp : Sub 1099511627904 F.parts) {s : State} {i : ℕ} (h : Moves F s₀ s) : Moves F s₀ (State.frameDone s i) := by
  unfold State.frameDone
  repeat' first
    | with_reducible assumption
    | exact hp.bit rfl
    | exact hp.sub rfl
    | with_reducible refine State.scrubMeets_moves ?_ ?_
    | with_reducible refine State.passDone_moves ?_ ?_
    | split

theorem execScrubFrameRead_moves (hr : F.frames = true) (hp : Sub 15763861416182672 F.parts) {scrubber : ℕ} {upsets : List (ℕ × ℕ)} {reread : Bool} {reject : Bool} {s : State} {t : State} (e : execScrubFrameRead scrubber upsets reread reject s = .next t) (h : Moves F s₀ s) : Moves F s₀ t := by
  unfold execScrubFrameRead at e
  rw [need_next e]; clear e
  repeat' first
    | with_reducible assumption
    | exact hp.bit rfl
    | exact hp.sub rfl
    | exact Sub.mem (f := a) hp ha (by rfl)
    | refine need_moves (by with_reducible assumption) ?_
    | with_reducible refine State.scrubMeets_moves ?_ ?_
    | with_reducible refine State.frameDone_moves ?_ ?_
    | with_reducible refine State.flipFrame_moves hr ?_
    | with_reducible refine State.applyFrame_moves ?_ ?_
    | with_reducible refine State.updScrub_moves ?_ ?_
    | with_reducible refine State.countWrap_moves ?_ ?_
    | with_reducible refine State.wr_moves ?_ ?_
    | with_reducible refine State.scrubEvent_moves ?_ ?_
    | with_reducible refine State.count_moves ?_ ?_
    | with_reducible refine State.raiseSpoil_moves ?_ ?_ ?_
    | with_reducible refine Moves.foldl ?_ (fun t a ha ht => ?_)
    | with_reducible refine Moves.foldl2 ?_ (fun y a ht => ?_)
    | with_reducible refine Moves.foldl1 ?_ (fun y a ht => ?_)
    | (extract_lets +onlyGivenNames t; refine Moves.cut (F := F) (s₀ := s₀) (t := t) ?_ (fun ht => ?_); rotate_left; (try clear_value t); rotate_left; subst t)
    | (extract_lets +onlyGivenNames t; try clear_value t)
    | split
    | simp (disch := first | exact hp.out rfl | with_reducible exact fun _ => rfl) only [Moves.mk_iff]

theorem State.repairEnd_moves (hp : Sub 1099511627904 F.parts) {s : State} {i : ℕ} (h : Moves F s₀ s) : Moves F s₀ (State.repairEnd s i) := by
  unfold State.repairEnd
  repeat' first
    | with_reducible assumption
    | exact hp.bit rfl
    | exact hp.sub rfl
    | with_reducible refine State.frameDone_moves ?_ ?_
    | with_reducible refine State.updScrub_moves ?_ ?_
    | with_reducible refine State.scrubPauses_moves ?_ ?_
    | with_reducible refine State.wr_moves ?_ ?_
    | (extract_lets +onlyGivenNames t; refine Moves.cut (F := F) (s₀ := s₀) (t := t) ?_ (fun ht => ?_); rotate_left; (try clear_value t); rotate_left; subst t)
    | split
    | simp (disch := first | exact hp.out rfl | with_reducible exact fun _ => rfl) only [Moves.mk_iff]

theorem execShadowRepairRead_moves (hr : F.frames = true) (hp : Sub 15763861416182672 F.parts) {scrubber : ℕ} {error : Bool} {reject : Bool} {s : State} {t : State} (e : execShadowRepairRead scrubber error reject s = .next t) (h : Moves F s₀ s) : Moves F s₀ t := by
  unfold execShadowRepairRead at e
  rw [need_next e]; clear e
  repeat' first
    | with_reducible assumption
    | exact hp.bit rfl
    | exact hp.sub rfl
    | refine need_moves (by with_reducible assumption) ?_
    | with_reducible refine State.repairEnd_moves ?_ ?_
    | with_reducible refine State.count_moves ?_ ?_
    | with_reducible refine State.wr_moves ?_ ?_
    | with_reducible refine State.raiseSpoil_moves ?_ ?_ ?_
    | with_reducible refine State.scrubEvent_moves ?_ ?_
    | with_reducible refine State.writeFrame_moves hr ?_ ?_
    | (extract_lets +onlyGivenNames t; refine Moves.cut (F := F) (s₀ := s₀) (t := t) ?_ (fun ht => ?_); rotate_left; (try clear_value t); rotate_left; subst t)
    | (extract_lets +onlyGivenNames t; try clear_value t)
    | split

theorem State.setSbCtrl_moves (hp : Sub 1099511627904 F.parts) {s : State} {i : ℕ} {v : ℕ} (h : Moves F s₀ s) : Moves F s₀ (State.setSbCtrl s i v) := by
  unfold State.setSbCtrl
  repeat' first
    | with_reducible assumption
    | exact hp.bit rfl
    | exact hp.sub rfl
    | exact fun f hf => hp.mem hf (by rfl)
    | with_reducible refine State.setFields_moves ?_ ?_
    | with_reducible refine State.startPass_moves ?_ ?_
    | with_reducible refine State.updScrub_moves ?_ ?_
    | with_reducible refine State.wr_moves ?_ ?_
    | (extract_lets +onlyGivenNames t; refine Moves.cut (F := F) (s₀ := s₀) (t := t) ?_ (fun ht => ?_); rotate_left; (try clear_value t); rotate_left; subst t)
    | (extract_lets +onlyGivenNames t; try clear_value t)
    | split
    | simp (disch := first | exact hp.out rfl | with_reducible exact fun _ => rfl) only [Moves.mk_iff]

theorem State.writeSbCtrl_moves (hp : Sub 1099511627904 F.parts) {s : State} {i : ℕ} {v : ℕ} (h : Moves F s₀ s) : Moves F s₀ (State.writeSbCtrl s i v) := by
  unfold State.writeSbCtrl
  repeat' first
    | with_reducible assumption
    | exact hp.bit rfl
    | exact hp.sub rfl
    | with_reducible refine State.updScrub_moves ?_ ?_
    | with_reducible refine State.setSbCtrl_moves ?_ ?_
    | simp (disch := first | exact hp.out rfl | with_reducible exact fun _ => rfl) only [Moves.mk_iff]

theorem State.flipCopies_moves (hp : Sub 1099511627904 F.parts) {s : State} {i : ℕ} {a : ℕ} {b : ℕ} {c : ℕ} (h : Moves F s₀ s) : Moves F s₀ (State.flipCopies s i a b c) := by
  unfold State.flipCopies
  repeat' first
    | with_reducible assumption
    | exact hp.bit rfl
    | exact hp.sub rfl
    | with_reducible refine State.updScrub_moves ?_ ?_
    | with_reducible refine State.setSbCtrl_moves ?_ ?_
    | (extract_lets +onlyGivenNames t; refine Moves.cut (F := F) (s₀ := s₀) (t := t) ?_ (fun ht => ?_); rotate_left; (try clear_value t); rotate_left; subst t)
    | (extract_lets +onlyGivenNames t; try clear_value t)
    | split
    | simp (disch := first | exact hp.out rfl | with_reducible exact fun _ => rfl) only [Moves.mk_iff]

theorem execSbCtrlRefresh_moves (hp : Sub 4504699138998400 F.parts) {y0 : Nat} {y1 : SbCopies} {s : State} {t : State} (e : execSbCtrlRefresh y0 y1 s = .next t) (h : Moves F s₀ s) : Moves F s₀ t := by
  unfold execSbCtrlRefresh at e
  rw [need_next e]; clear e
  repeat' first
    | with_reducible assumption
    | exact hp.bit rfl
    | exact hp.sub rfl
    | refine need_moves (by with_reducible assumption) ?_
    | with_reducible refine State.flipCopies_moves ?_ ?_
    | with_reducible refine State.setSbCtrl_moves ?_ ?_
    | with_reducible refine State.updScrub_moves ?_ ?_
    | with_reducible refine State.wr_moves ?_ ?_
    | with_reducible refine State.count_moves ?_ ?_
    | with_reducible refine State.passReport_moves ?_ ?_
    | (extract_lets +onlyGivenNames t; refine Moves.cut (F := F) (s₀ := s₀) (t := t) ?_ (fun ht => ?_); rotate_left; (try clear_value t); rotate_left; subst t)
    | (extract_lets +onlyGivenNames t; try clear_value t)
    | split
    | simp (disch := first | exact hp.out rfl | with_reducible exact fun _ => rfl) only [Moves.mk_iff]

theorem execRefreshLost_moves (hp : Sub 1099511627904 F.parts) {y0 : SbLost} {s : State} {t : State} (e : execRefreshLost y0 s = .next t) (h : Moves F s₀ s) : Moves F s₀ t := by
  unfold execRefreshLost at e
  rw [need_next e]; clear e
  repeat' first
    | with_reducible assumption
    | exact hp.bit rfl
    | exact hp.sub rfl
    | refine need_moves (by with_reducible assumption) ?_
    | with_reducible refine State.flipCopies_moves ?_ ?_
    | with_reducible refine State.wr_moves ?_ ?_

theorem execPeerFaultRestart_moves (hp : Sub 2252899325313152 F.parts) {scrubber : ℕ} {s : State} {t : State} (e : execPeerFaultRestart scrubber s = .next t) (h : Moves F s₀ s) : Moves F s₀ t := by
  unfold execPeerFaultRestart at e
  rw [need_next e]; clear e
  repeat' first
    | with_reducible assumption
    | exact hp.bit rfl
    | exact hp.sub rfl
    | refine need_moves (by with_reducible assumption) ?_
    | with_reducible refine State.post_moves ?_ ?_
    | with_reducible refine State.wr_moves ?_ ?_
    | with_reducible refine State.updScrub_moves ?_ ?_
    | with_reducible refine State.startPass_moves ?_ ?_
    | with_reducible refine State.scrubMeets_moves ?_ ?_
    | (extract_lets +onlyGivenNames t; refine Moves.cut (F := F) (s₀ := s₀) (t := t) ?_ (fun ht => ?_); rotate_left; (try clear_value t); rotate_left; subst t)
    | (extract_lets +onlyGivenNames t; try clear_value t)
    | split
    | simp (disch := first | exact hp.out rfl | with_reducible exact fun _ => rfl) only [Moves.mk_iff]

theorem execScrubEnable_moves (hp : Sub 1099511627904 F.parts) {scrubber : ℕ} {value : ℕ} {s : State} {t : State} (e : execScrubEnable scrubber value s = .next t) (h : Moves F s₀ s) : Moves F s₀ t := by
  unfold execScrubEnable at e
  rw [need_next e]; clear e
  repeat' first
    | with_reducible assumption
    | exact hp.bit rfl
    | exact hp.sub rfl
    | refine need_moves (by with_reducible assumption) ?_
    | with_reducible refine State.writeSbCtrl_moves ?_ ?_

theorem execScrubInject_moves (hr : F.frames = true) (hp : Sub 9007199254741120 F.parts) {scrubber : ℕ} {value : ℕ} {s : State} {t : State} (e : execScrubInject scrubber value s = .next t) (h : Moves F s₀ s) : Moves F s₀ t := by
  unfold execScrubInject at e
  rw [need_next e]; clear e
  repeat' first
    | with_reducible assumption
    | exact hp.bit rfl
    | exact hp.sub rfl
    | exact fun f hf => hp.mem hf (by rfl)
    | refine need_moves (by with_reducible assumption) ?_
    | with_reducible refine State.setFields_moves ?_ ?_
    | with_reducible refine State.wr_moves ?_ ?_
    | with_reducible refine State.applyFrame_moves ?_ ?_
    | with_reducible refine State.flipFrame_moves hr ?_
    | (extract_lets +onlyGivenNames t; refine Moves.cut (F := F) (s₀ := s₀) (t := t) ?_ (fun ht => ?_); rotate_left; (try clear_value t); rotate_left; subst t)
    | (extract_lets +onlyGivenNames t; try clear_value t)
    | split

/-! ### Stopes -/

theorem execIsolate_moves (hp : Sub 16 F.parts) {stope : ℕ} {release : Bool} {s : State} {t : State} (e : execIsolate stope release s = .next t) (h : Moves F s₀ s) : Moves F s₀ t := by
  unfold execIsolate at e
  rw [need_next e]; clear e
  repeat' first
    | with_reducible assumption
    | exact hp.bit rfl
    | exact hp.sub rfl
    | refine need_moves (by with_reducible assumption) ?_
    | with_reducible refine State.wr_moves ?_ ?_
    | (extract_lets +onlyGivenNames t; refine Moves.cut (F := F) (s₀ := s₀) (t := t) ?_ (fun ht => ?_); rotate_left; (try clear_value t); rotate_left; subst t)
    | split

theorem execRelease_moves (hp : Sub 16 F.parts) {stope : ℕ} {isolate : Bool} {s : State} {t : State} (e : execRelease stope isolate s = .next t) (h : Moves F s₀ s) : Moves F s₀ t := by
  unfold execRelease at e
  rw [need_next e]; clear e
  repeat' first
    | with_reducible assumption
    | exact hp.bit rfl
    | exact hp.sub rfl
    | refine need_moves (by with_reducible assumption) ?_
    | with_reducible refine State.wr_moves ?_ ?_
    | (extract_lets +onlyGivenNames t; refine Moves.cut (F := F) (s₀ := s₀) (t := t) ?_ (fun ht => ?_); rotate_left; (try clear_value t); rotate_left; subst t)
    | split

theorem execIsoEffect_moves (hp : Sub 15765897230680208 F.parts) {stope : ℕ} {s : State} {t : State} (e : execIsoEffect stope s = .next t) (h : Moves F s₀ s) : Moves F s₀ t := by
  unfold execIsoEffect at e
  rw [need_next e]; clear e
  repeat' first
    | with_reducible assumption
    | exact hp.bit rfl
    | exact hp.sub rfl
    | refine need_moves (by with_reducible assumption) ?_
    | with_reducible refine State.wr_moves ?_ ?_
    | with_reducible refine State.leaveUse_moves ?_ ?_
    | with_reducible refine State.scrubsMeet_moves ?_ ?_
    | with_reducible refine State.updStope_moves ?_ ?_
    | (extract_lets +onlyGivenNames t; refine Moves.cut (F := F) (s₀ := s₀) (t := t) ?_ (fun ht => ?_); rotate_left; (try clear_value t); rotate_left; subst t)
    | split
    | simp (disch := first | exact hp.out rfl | with_reducible exact fun _ => rfl) only [Moves.mk_iff]

theorem execSpoilClear_moves (hp : Sub 144 F.parts) {stope : ℕ} {s : State} {t : State} (e : execSpoilClear stope s = .next t) (h : Moves F s₀ s) : Moves F s₀ t := by
  unfold execSpoilClear at e
  rw [need_next e]; clear e
  repeat' first
    | with_reducible assumption
    | exact hp.bit rfl
    | exact hp.sub rfl
    | refine need_moves (by with_reducible assumption) ?_
    | with_reducible refine State.clearSpoil_moves ?_ ?_

theorem execStopePortResponse_moves (hp : Sub 9007199254740992 F.parts) {stope : ℕ} {tag : ℕ} {status : ℕ} {data : ℕ} {poison : Bool} {s : State} {t : State} (e : execStopePortResponse stope tag status data poison s = .next t) (h : Moves F s₀ s) : Moves F s₀ t := by
  unfold execStopePortResponse at e
  rw [need_next e]; clear e
  repeat' first
    | with_reducible assumption
    | exact hp.bit rfl
    | exact hp.sub rfl
    | refine need_moves (by with_reducible assumption) ?_
    | with_reducible refine State.updStope_moves ?_ ?_
    | (extract_lets +onlyGivenNames t; refine Moves.cut (F := F) (s₀ := s₀) (t := t) ?_ (fun ht => ?_); rotate_left; (try clear_value t); rotate_left; subst t)
    | (extract_lets +onlyGivenNames t; try clear_value t)
    | split
    | simp (disch := first | exact hp.out rfl | with_reducible exact fun _ => rfl) only [Moves.mk_iff]

theorem execStopePortTargetAccess_moves (hp : Sub 15762598695796736 F.parts) {a : GalAccess} {s : State} {t : State} (e : execStopePortTargetAccess a s = .next t) (h : Moves F s₀ s) : Moves F s₀ t := by
  unfold execStopePortTargetAccess at e
  rw [need_next e]; clear e
  repeat' first
    | with_reducible assumption
    | exact hp.bit rfl
    | exact hp.sub rfl
    | refine need_moves (by with_reducible assumption) ?_
    | with_reducible refine State.respond_moves ?_ ?_
    | with_reducible refine State.updStope_moves ?_ ?_
    | (extract_lets +onlyGivenNames t; refine Moves.cut (F := F) (s₀ := s₀) (t := t) ?_ (fun ht => ?_); rotate_left; (try clear_value t); rotate_left; subst t)
    | (extract_lets +onlyGivenNames t; try clear_value t)
    | split
    | simp (disch := first | exact hp.out rfl | with_reducible exact fun _ => rfl) only [Moves.mk_iff]

theorem State.repairAt_moves (hp : Sub 2251799813685264 F.parts) {s : State} {n : ℕ} {pos : ℕ} (h : Moves F s₀ s) : Moves F s₀ (State.repairAt s n pos) := by
  unfold State.repairAt
  repeat' first
    | with_reducible assumption
    | exact hp.bit rfl
    | exact hp.sub rfl
    | with_reducible refine State.post_moves ?_ ?_
    | with_reducible refine State.wr_moves ?_ ?_
    | (extract_lets +onlyGivenNames t; refine Moves.cut (F := F) (s₀ := s₀) (t := t) ?_ (fun ht => ?_); rotate_left; (try clear_value t); rotate_left; subst t)
    | (extract_lets +onlyGivenNames t; try clear_value t)

theorem execColumnRepair_moves (hp : Sub 11260098580054224 F.parts) {stope : ℕ} {pos : ℕ} {s : State} {t : State} (e : execColumnRepair stope pos s = .next t) (h : Moves F s₀ s) : Moves F s₀ t := by
  unfold execColumnRepair at e
  rw [need_next e]; clear e
  repeat' first
    | with_reducible assumption
    | exact hp.bit rfl
    | exact hp.sub rfl
    | refine need_moves (by with_reducible assumption) ?_
    | with_reducible refine State.updStope_moves ?_ ?_
    | with_reducible refine State.repairAt_moves ?_ ?_
    | with_reducible refine State.scrubsMeet_moves ?_ ?_
    | with_reducible refine State.showSeams_moves ?_ ?_
    | with_reducible refine State.wr_moves ?_ ?_
    | (extract_lets +onlyGivenNames t; refine Moves.cut (F := F) (s₀ := s₀) (t := t) ?_ (fun ht => ?_); rotate_left; (try clear_value t); rotate_left; subst t)
    | (extract_lets +onlyGivenNames t; try clear_value t)
    | split
    | simp (disch := first | exact hp.out rfl | with_reducible exact fun _ => rfl) only [Moves.mk_iff]

theorem execRefillDone_moves (hr : F.frames = true) (hp : Sub 11260098580054224 F.parts) {stope : ℕ} {s : State} {t : State} (e : execRefillDone stope s = .next t) (h : Moves F s₀ s) : Moves F s₀ t := by
  unfold execRefillDone at e
  rw [need_next e]; clear e
  repeat' first
    | with_reducible assumption
    | exact hp.bit rfl
    | exact hp.sub rfl
    | exact Sub.mem (f := a) hp ha (by rfl)
    | refine need_moves (by with_reducible assumption) ?_
    | with_reducible refine State.writeFrame_moves hr ?_ ?_
    | with_reducible refine State.wr_moves ?_ ?_
    | with_reducible refine State.updStope_moves ?_ ?_
    | with_reducible refine State.scrubsMeet_moves ?_ ?_
    | with_reducible refine State.showSeams_moves ?_ ?_
    | with_reducible refine State.repairAt_moves ?_ ?_
    | with_reducible refine State.countWrap_moves ?_ ?_
    | with_reducible refine Moves.foldl ?_ (fun t a ha ht => ?_)
    | (extract_lets +onlyGivenNames t; refine Moves.cut (F := F) (s₀ := s₀) (t := t) ?_ (fun ht => ?_); rotate_left; (try clear_value t); rotate_left; subst t)
    | split
    | simp (disch := first | exact hp.out rfl | with_reducible exact fun _ => rfl) only [Moves.mk_iff]

theorem execRefillShadowError_moves (hr : F.frames = true) (hp : Sub 11260098580054256 F.parts) {stope : ℕ} {s : State} {t : State} (e : execRefillShadowError stope s = .next t) (h : Moves F s₀ s) : Moves F s₀ t := by
  unfold execRefillShadowError at e
  rw [need_next e]; clear e
  repeat' first
    | with_reducible assumption
    | exact hp.bit rfl
    | exact hp.sub rfl
    | refine need_moves (by with_reducible assumption) ?_
    | with_reducible refine State.wr_moves ?_ ?_
    | with_reducible refine State.updStope_moves ?_ ?_
    | with_reducible refine State.showSeams_moves ?_ ?_
    | with_reducible refine State.unconfigure_moves hr ?_ ?_
    | with_reducible refine State.repairAt_moves ?_ ?_
    | (extract_lets +onlyGivenNames t; refine Moves.cut (F := F) (s₀ := s₀) (t := t) ?_ (fun ht => ?_); rotate_left; (try clear_value t); rotate_left; subst t)
    | split
    | simp (disch := first | exact hp.out rfl | with_reducible exact fun _ => rfl) only [Moves.mk_iff]

/-! ### Trees -/

theorem execTreeSrcWrite_moves (hp : Sub 9007203558096912 F.parts) {stope : ℕ} {src : ℕ} {s : State} {t : State} (e : execTreeSrcWrite stope src s = .next t) (h : Moves F s₀ s) : Moves F s₀ t := by
  unfold execTreeSrcWrite at e
  rw [need_next e]; clear e
  repeat' first
    | with_reducible assumption
    | exact hp.bit rfl
    | exact hp.sub rfl
    | refine need_moves (by with_reducible assumption) ?_
    | with_reducible refine State.wr_moves ?_ ?_
    | with_reducible refine State.updStope_moves ?_ ?_
    | with_reducible refine State.ungate_moves ?_ ?_
    | (extract_lets +onlyGivenNames t; refine Moves.cut (F := F) (s₀ := s₀) (t := t) ?_ (fun ht => ?_); rotate_left; (try clear_value t); rotate_left; subst t)
    | split
    | simp (disch := first | exact hp.out rfl | with_reducible exact fun _ => rfl) only [Moves.mk_iff]

theorem State.treeSwitched_moves (hp : Sub 9007199254741008 F.parts) {s : State} {n : ℕ} {src : ℕ} (h : Moves F s₀ s) : Moves F s₀ (State.treeSwitched s n src) := by
  unfold State.treeSwitched
  repeat' first
    | with_reducible assumption
    | exact hp.bit rfl
    | exact hp.sub rfl
    | with_reducible refine State.updStope_moves ?_ ?_
    | with_reducible refine State.wr_moves ?_ ?_
    | (extract_lets +onlyGivenNames t; refine Moves.cut (F := F) (s₀ := s₀) (t := t) ?_ (fun ht => ?_); rotate_left; (try clear_value t); rotate_left; subst t)
    | split
    | simp (disch := first | exact hp.out rfl | with_reducible exact fun _ => rfl) only [Moves.mk_iff]

theorem execTreeSwitchDone_moves (hp : Sub 9007199254741008 F.parts) {stope : ℕ} {s : State} {t : State} (e : execTreeSwitchDone stope s = .next t) (h : Moves F s₀ s) : Moves F s₀ t := by
  unfold execTreeSwitchDone at e
  rw [need_next e]; clear e
  repeat' first
    | with_reducible assumption
    | exact hp.bit rfl
    | exact hp.sub rfl
    | refine need_moves (by with_reducible assumption) ?_
    | with_reducible refine State.treeSwitched_moves ?_ ?_
    | split

theorem execTreeSwitchHang_moves (hp : Sub 9007199254741008 F.parts) {stope : ℕ} {s : State} {t : State} (e : execTreeSwitchHang stope s = .next t) (h : Moves F s₀ s) : Moves F s₀ t := by
  unfold execTreeSwitchHang at e
  rw [need_next e]; clear e
  repeat' first
    | with_reducible assumption
    | exact hp.bit rfl
    | exact hp.sub rfl
    | refine need_moves (by with_reducible assumption) ?_
    | with_reducible refine State.wr_moves ?_ ?_
    | with_reducible refine State.treeSwitched_moves ?_ ?_
    | with_reducible refine State.updStope_moves ?_ ?_
    | (extract_lets +onlyGivenNames t; refine Moves.cut (F := F) (s₀ := s₀) (t := t) ?_ (fun ht => ?_); rotate_left; (try clear_value t); rotate_left; subst t)
    | split
    | simp (disch := first | exact hp.out rfl | with_reducible exact fun _ => rfl) only [Moves.mk_iff]

theorem execTreeStep_moves (hu : F.fabMem = true) (hp : Sub 15782557408822160 F.parts) {stope : ℕ} {go : Bool} {s : State} {t : State} (e : execTreeStep stope go s = .next t) (h : Moves F s₀ s) : Moves F s₀ t := by
  unfold execTreeStep at e
  rw [need_next e]; clear e
  repeat' first
    | with_reducible assumption
    | exact hp.bit rfl
    | exact hp.sub rfl
    | refine need_moves (by with_reducible assumption) ?_
    | with_reducible refine State.wr_moves ?_ ?_
    | with_reducible refine State.stepPulse_moves hu ?_ ?_
    | (extract_lets +onlyGivenNames t; refine Moves.cut (F := F) (s₀ := s₀) (t := t) ?_ (fun ht => ?_); rotate_left; (try clear_value t); rotate_left; subst t)
    | split
    | simp (disch := first | exact hp.out rfl | with_reducible exact fun _ => rfl) only [Moves.mk_iff]

/-! ### RegWrites -/

theorem State.plainWrite_moves (hp : Sub 16777215 F.parts) {s : State} {fs : List Fld} {p : RegPut} (h : Moves F s₀ s) : Moves F s₀ (State.plainWrite s fs p) := by
  unfold State.plainWrite
  repeat' first
    | with_reducible assumption
    | exact hp.bit rfl
    | exact hp.sub rfl
    | exact fun f _ => hp.any rfl
    | exact hp.any rfl
    | exact fun f hf => hp.mem hf (by rfl)
    | with_reducible refine State.writeFields_moves ?_ ?_

theorem State.clearOnes_moves (hp : Sub 16777215 F.parts) {s : State} {fs : List Fld} {p : RegPut} (h : Moves F s₀ s) : Moves F s₀ (State.clearOnes s fs p) := by
  unfold State.clearOnes
  repeat' first
    | with_reducible assumption
    | exact hp.bit rfl
    | exact hp.sub rfl
    | exact hp.any rfl
    | with_reducible refine State.plainWrite_moves ?_ ?_

theorem State.clampField_moves (hp : Sub 16777215 F.parts) {s : State} {f : Fld} {lo : ℕ} {hi : ℕ} {p : RegPut} (h : Moves F s₀ s) : Moves F s₀ (State.clampField s f lo hi p) := by
  unfold State.clampField
  repeat' first
    | with_reducible assumption
    | exact hp.bit rfl
    | exact hp.sub rfl
    | exact hp.any rfl
    | with_reducible refine State.wr_moves ?_ ?_

theorem State.rangedField_moves (hp : Sub 16777215 F.parts) {s : State} {f : Fld} {lo : ℕ} {hi : ℕ} {p : RegPut} (h : Moves F s₀ s) : Moves F s₀ (State.rangedField s f lo hi p) := by
  unfold State.rangedField
  repeat' first
    | with_reducible assumption
    | exact hp.bit rfl
    | exact hp.sub rfl
    | exact hp.any rfl
    | with_reducible refine State.wr_moves ?_ ?_
    | (extract_lets +onlyGivenNames t; refine Moves.cut (F := F) (s₀ := s₀) (t := t) ?_ (fun ht => ?_); rotate_left; (try clear_value t); rotate_left; subst t)
    | (extract_lets +onlyGivenNames t; try clear_value t)
    | split

theorem State.powerWrite_moves (hp : Sub 16777215 F.parts) {s : State} {f : Fld} {n first : ℕ} {p : RegPut} {up down : ℕ → State → Res}
    (hup : ∀ n t u, Moves F s₀ t → up n t = .next u → Moves F s₀ u) (hdown : ∀ n t u, Moves F s₀ t → down n t = .next u → Moves F s₀ u)
    (h : Moves F s₀ s) : Moves F s₀ (State.powerWrite s f n first p up down) := by
  unfold State.powerWrite
  refine Moves.foldl h (fun t b _ ht => ?_)
  split
  · exact ht
  · refine settled_moves (fun u e => ?_) ht
    split at e
    · exact hup _ _ _ ht e
    · exact hdown _ _ _ ht e

theorem State.writeCk_moves (hm : F.mem = true) (hu : F.fabMem = true) (hr : F.frames = true) (hp : Sub 18014394231291903 F.parts) {s : State} {fs : List Fld} {p : RegPut} {m : Master} (h : Moves F s₀ s) : Moves F s₀ (State.writeCk s fs p m) := by
  unfold State.writeCk
  repeat' first
    | with_reducible assumption
    | exact hp.bit rfl
    | exact hp.sub rfl
    | exact hp.any rfl
    | exact Sub.mem (f := a) hp ha (by rfl)
    | with_reducible refine settled_moves (fun t e => ?_) ?_
    | refine execPhaseDivWrite_moves ?_ (by with_reducible assumption) ?_
    | refine execRetry_moves ?_ (by with_reducible assumption) ?_
    | with_reducible refine State.plainWrite_moves ?_ ?_
    | with_reducible refine State.ungate_moves ?_ ?_
    | refine execWarmReq_moves hm hu hr ?_ (by with_reducible assumption) ?_
    | refine execStopeResetReq_moves ?_ (by with_reducible assumption) ?_
    | refine execEngineResetReq_moves hm ?_ (by with_reducible assumption) ?_
    | with_reducible refine State.powerWrite_moves ?_ (fun n t u h e => ?_) (fun n t u h e => ?_) ?_
    | refine execCrewPowerUp_moves ?_ (by with_reducible assumption) ?_
    | refine execCrewPowerDown_moves ?_ (by with_reducible assumption) ?_
    | refine execStopePowerUp_moves ?_ (by with_reducible assumption) ?_
    | refine execStopePowerDown_moves hu hr ?_ (by with_reducible assumption) ?_
    | with_reducible refine Moves.foldl ?_ (fun t a ha ht => ?_)
    | with_reducible refine Moves.foldl2 ?_ (fun y a ht => ?_)
    | with_reducible refine Moves.foldl1 ?_ (fun y a ht => ?_)
    | (extract_lets +onlyGivenNames t; refine Moves.cut (F := F) (s₀ := s₀) (t := t) ?_ (fun ht => ?_); rotate_left; (try clear_value t); rotate_left; subst t)
    | split

theorem State.writeSt_moves (hu : F.fabMem = true) (hp : Sub 15783656937226239 F.parts) {s : State} {row : ℕ} {fs : List Fld} {p : RegPut} (h : Moves F s₀ s) : Moves F s₀ (State.writeSt s row fs p) := by
  unfold State.writeSt
  repeat' first
    | with_reducible assumption
    | exact hp.bit rfl
    | exact hp.sub rfl
    | exact hp.any rfl
    | with_reducible refine settled_moves (fun t e => ?_) ?_
    | refine execIsolate_moves ?_ (by with_reducible assumption) ?_
    | refine execRelease_moves ?_ (by with_reducible assumption) ?_
    | with_reducible refine State.clearSpoil_moves ?_ ?_
    | with_reducible refine State.clearOnes_moves ?_ ?_
    | refine execColumnRepair_moves ?_ (by with_reducible assumption) ?_
    | refine execTreeSrcWrite_moves ?_ (by with_reducible assumption) ?_
    | refine execTreeStep_moves hu ?_ (by with_reducible assumption) ?_
    | with_reducible refine State.clampField_moves ?_ ?_
    | with_reducible refine State.plainWrite_moves ?_ ?_
    | with_reducible refine State.rangedField_moves ?_ ?_
    | (extract_lets +onlyGivenNames t; refine Moves.cut (F := F) (s₀ := s₀) (t := t) ?_ (fun ht => ?_); rotate_left; (try clear_value t); rotate_left; subst t)
    | split

theorem State.writeCf_moves (hp : Sub 145135551643647 F.parts) {s : State} {fs : List Fld} {p : RegPut} {m : Master} (h : Moves F s₀ s) : Moves F s₀ (State.writeCf s fs p m) := by
  unfold State.writeCf
  repeat' first
    | with_reducible assumption
    | exact hp.bit rfl
    | exact hp.sub rfl
    | exact hp.any rfl
    | with_reducible refine settled_moves (fun t e => ?_) ?_
    | refine execStart_moves ?_ (by with_reducible assumption) ?_
    | refine execAbort_moves ?_ (by with_reducible assumption) ?_
    | refine execExtentPush_moves ?_ (by with_reducible assumption) ?_
    | with_reducible refine State.plainWrite_moves ?_ ?_
    | (extract_lets +onlyGivenNames t; refine Moves.cut (F := F) (s₀ := s₀) (t := t) ?_ (fun ht => ?_); rotate_left; (try clear_value t); rotate_left; subst t)
    | (extract_lets +onlyGivenNames t; try clear_value t)
    | split

theorem State.writeCfs_moves (hp : Sub 4398063288319 F.parts) {s : State} {fs : List Fld} {p : RegPut} (h : Moves F s₀ s) : Moves F s₀ (State.writeCfs s fs p) := by
  unfold State.writeCfs
  repeat' first
    | with_reducible assumption
    | exact hp.bit rfl
    | exact hp.sub rfl
    | exact hp.any rfl
    | with_reducible refine State.plainWrite_moves ?_ ?_
    | with_reducible refine settled_moves (fun t e => ?_) ?_
    | refine execReadback_moves ?_ (by with_reducible assumption) ?_
    | (extract_lets +onlyGivenNames t; refine Moves.cut (F := F) (s₀ := s₀) (t := t) ?_ (fun ht => ?_); rotate_left; (try clear_value t); rotate_left; subst t)
    | split

theorem State.writeSb_moves (hr : F.frames = true) (hp : Sub 9008298783145983 F.parts) {s : State} {fs : List Fld} {p : RegPut} (h : Moves F s₀ s) : Moves F s₀ (State.writeSb s fs p) := by
  unfold State.writeSb
  repeat' first
    | with_reducible assumption
    | exact hp.bit rfl
    | exact hp.sub rfl
    | exact hp.any rfl
    | with_reducible refine State.writeSbCtrl_moves ?_ ?_
    | with_reducible refine settled_moves (fun t e => ?_) ?_
    | refine execScrubInject_moves hr ?_ (by with_reducible assumption) ?_
    | with_reducible refine State.plainWrite_moves ?_ ?_
    | split

theorem State.stoppedOnly_moves (hp : Sub 16777215 F.parts) {s : State} {fs : List Fld} {err : Fld} {p : RegPut} (h : Moves F s₀ s) : Moves F s₀ (State.stoppedOnly s fs err p) := by
  unfold State.stoppedOnly
  repeat' first
    | with_reducible assumption
    | exact hp.bit rfl
    | exact hp.sub rfl
    | exact hp.any rfl
    | with_reducible refine State.plainWrite_moves ?_ ?_
    | with_reducible refine State.wr_moves ?_ ?_
    | split

theorem State.writeClkCfg_moves (hp : Sub 16777215 F.parts) {s : State} {p : RegPut} (h : Moves F s₀ s) : Moves F s₀ (State.writeClkCfg s p) := by
  unfold State.writeClkCfg
  repeat' first
    | with_reducible assumption
    | exact hp.bit rfl
    | exact hp.sub rfl
    | exact hp.any rfl
    | with_reducible refine State.wr_moves ?_ ?_
    | with_reducible refine State.stoppedOnly_moves ?_ ?_
    | (extract_lets +onlyGivenNames t; refine Moves.cut (F := F) (s₀ := s₀) (t := t) ?_ (fun ht => ?_); rotate_left; (try clear_value t); rotate_left; subst t)
    | (extract_lets +onlyGivenNames t; try clear_value t)
    | split

theorem State.writePjRange_moves (hp : Sub 16777215 F.parts) {s : State} {fs : List Fld} {p : RegPut} (h : Moves F s₀ s) : Moves F s₀ (State.writePjRange s fs p) := by
  unfold State.writePjRange
  repeat' first
    | with_reducible assumption
    | exact hp.bit rfl
    | exact hp.sub rfl
    | exact hp.any rfl
    | exact Sub.mem (f := a) hp ha (by rfl)
    | with_reducible refine State.stoppedOnly_moves ?_ ?_
    | with_reducible refine State.plainWrite_moves ?_ ?_
    | with_reducible refine State.wr_moves ?_ ?_
    | with_reducible refine Moves.foldl ?_ (fun t a ha ht => ?_)
    | (extract_lets +onlyGivenNames t; refine Moves.cut (F := F) (s₀ := s₀) (t := t) ?_ (fun ht => ?_); rotate_left; (try clear_value t); rotate_left; subst t)
    | (extract_lets +onlyGivenNames t; try clear_value t)
    | split

theorem State.writeWd_moves (hp : Sub 15763861432958975 F.parts) {s : State} {row : ℕ} {fs : List Fld} {p : RegPut} (h : Moves F s₀ s) : Moves F s₀ (State.writeWd s row fs p) := by
  unfold State.writeWd
  repeat' first
    | with_reducible assumption
    | exact hp.bit rfl
    | exact hp.sub rfl
    | exact hp.any rfl
    | with_reducible refine State.windCmd_moves ?_ ?_
    | with_reducible refine State.writeGroupCtrl_moves ?_ ?_
    | with_reducible refine State.rangedField_moves ?_ ?_
    | with_reducible refine State.plainWrite_moves ?_ ?_
    | with_reducible refine State.writeClkCfg_moves ?_ ?_
    | with_reducible refine State.stoppedOnly_moves ?_ ?_
    | with_reducible refine State.clearOnes_moves ?_ ?_
    | with_reducible refine State.clampField_moves ?_ ?_
    | with_reducible refine State.engineAck_moves ?_ ?_
    | with_reducible refine State.writePjRange_moves ?_ ?_
    | split

theorem State.writeCr_moves (hp : Sub 16777215 F.parts) {s : State} {fs : List Fld} {p : RegPut} (h : Moves F s₀ s) : Moves F s₀ (State.writeCr s fs p) := by
  unfold State.writeCr
  repeat' first
    | with_reducible assumption
    | exact hp.bit rfl
    | exact hp.sub rfl
    | exact hp.any rfl
    | with_reducible refine State.clampField_moves ?_ ?_
    | with_reducible refine State.plainWrite_moves ?_ ?_
    | split
    | simp (disch := first | exact hp.out rfl | with_reducible exact fun _ => rfl) only [Moves.mk_iff]

theorem State.writeHalf_moves (hp : Sub 4503702706587904 F.parts) {s : State} {x1 : ℕ} {p : RegPut} (h : Moves F s₀ s) : Moves F s₀ (State.writeHalf s x1 p) := by
  unfold State.writeHalf
  repeat' first
    | with_reducible assumption
    | exact hp.bit rfl
    | exact hp.sub rfl
    | exact hp.ab rfl rfl
    | with_reducible refine State.wr_moves ?_ ?_
    | with_reducible refine settled_moves (fun t e => ?_) ?_
    | refine execAltWrite_moves ?_ (by with_reducible assumption) ?_
    | refine execGate_moves ?_ (by with_reducible assumption) ?_
    | (extract_lets +onlyGivenNames t; refine Moves.cut (F := F) (s₀ := s₀) (t := t) ?_ (fun ht => ?_); rotate_left; (try clear_value t); rotate_left; subst t)
    | (extract_lets +onlyGivenNames t; subst t)
    | split

theorem State.writeLaneCtrl_moves (hp : Sub 4503711313297407 F.parts) {s : State} {fs : List Fld} {p : RegPut} (h : Moves F s₀ s) : Moves F s₀ (State.writeLaneCtrl s fs p) := by
  unfold State.writeLaneCtrl
  repeat' first
    | with_reducible assumption
    | exact hp.bit rfl
    | exact hp.sub rfl
    | exact hp.any rfl
    | with_reducible refine settled_moves (fun t e => ?_) ?_
    | refine execTestWrite_moves ?_ (by with_reducible assumption) ?_
    | with_reducible refine State.plainWrite_moves ?_ ?_
    | with_reducible refine State.clearOnes_moves ?_ ?_
    | refine execTxSleep_moves ?_ (by with_reducible assumption) ?_
    | refine execRxSleep_moves ?_ (by with_reducible assumption) ?_
    | (extract_lets +onlyGivenNames t; refine Moves.cut (F := F) (s₀ := s₀) (t := t) ?_ (fun ht => ?_); rotate_left; (try clear_value t); rotate_left; subst t)
    | (extract_lets +onlyGivenNames t; try clear_value t)
    | split

theorem State.writeEye_moves (hp : Sub 16777215 F.parts) {s : State} {p : RegPut} (h : Moves F s₀ s) : Moves F s₀ (State.writeEye s p) := by
  unfold State.writeEye
  repeat' first
    | with_reducible assumption
    | exact hp.bit rfl
    | exact hp.sub rfl
    | exact hp.any rfl
    | with_reducible refine settled_moves (fun t e => ?_) ?_
    | refine execEyeScanGo_moves ?_ (by with_reducible assumption) ?_
    | with_reducible refine State.rangedField_moves ?_ ?_
    | with_reducible refine State.plainWrite_moves ?_ ?_
    | split

theorem State.writeXcp_moves (hp : Sub 4503715608264703 F.parts) {s : State} {row : ℕ} {fs : List Fld} {p : RegPut} (h : Moves F s₀ s) : Moves F s₀ (State.writeXcp s row fs p) := by
  unfold State.writeXcp
  repeat' first
    | with_reducible assumption
    | exact hp.bit rfl
    | exact hp.sub rfl
    | exact hp.any rfl
    | with_reducible refine settled_moves (fun t e => ?_) ?_
    | refine execXcPortCtrlWrite_moves ?_ (by with_reducible assumption) ?_
    | with_reducible refine State.clampField_moves ?_ ?_
    | with_reducible refine State.plainWrite_moves ?_ ?_
    | with_reducible refine State.writeHalf_moves ?_ ?_
    | with_reducible refine State.writeLaneCtrl_moves ?_ ?_
    | refine execSlip_moves ?_ (by with_reducible assumption) ?_
    | refine execTxeqWrite_moves ?_ (by with_reducible assumption) ?_
    | with_reducible refine State.writeEye_moves ?_ ?_
    | refine execStreamMapWrite_moves ?_ (by with_reducible assumption) ?_
    | (extract_lets +onlyGivenNames t; refine Moves.cut (F := F) (s₀ := s₀) (t := t) ?_ (fun ht => ?_); rotate_left; (try clear_value t); rotate_left; subst t)
    | split

theorem State.msixWrite_moves (hp : Sub 4503608217305088 F.parts) {s : State} {off : ℕ} {mask : ℕ} {v : ℕ} (h : Moves F s₀ s) : Moves F s₀ (State.msixWrite s off mask v) := by
  unfold State.msixWrite
  repeat' first
    | with_reducible assumption
    | exact hp.bit rfl
    | exact hp.sub rfl
    | with_reducible refine State.flushPending_moves ?_ ?_
    | (extract_lets +onlyGivenNames t; refine Moves.cut (F := F) (s₀ := s₀) (t := t) ?_ (fun ht => ?_); rotate_left; (try clear_value t); rotate_left; subst t)
    | (extract_lets +onlyGivenNames t; try clear_value t)
    | split
    | simp (disch := first | exact hp.out rfl | with_reducible exact fun _ => rfl) only [Moves.mk_iff]

theorem State.writeCg_moves (hp : Sub 16777215 F.parts) {s : State} {fs : List Fld} {p : RegPut} (h : Moves F s₀ s) : Moves F s₀ (State.writeCg s fs p) := by
  unfold State.writeCg
  repeat' first
    | with_reducible assumption
    | exact hp.bit rfl
    | exact hp.sub rfl
    | exact hp.any rfl
    | with_reducible refine State.plainWrite_moves ?_ ?_
    | with_reducible refine State.wr_moves ?_ ?_
    | (extract_lets +onlyGivenNames t; refine Moves.cut (F := F) (s₀ := s₀) (t := t) ?_ (fun ht => ?_); rotate_left; (try clear_value t); rotate_left; subst t)
    | split

theorem State.writeQu_moves (hm : F.mem = true) (hp : Sub 13530452669235199 F.parts) {s : State} {fs : List Fld} {p : RegPut} (h : Moves F s₀ s) : Moves F s₀ (State.writeQu s fs p) := by
  unfold State.writeQu
  repeat' first
    | with_reducible assumption
    | exact hp.bit rfl
    | exact hp.sub rfl
    | exact fun f _ => hp.any rfl
    | exact hp.any rfl
    | exact fun f hf => hp.mem hf (by rfl)
    | with_reducible refine State.writeQuCtrl_moves hm ?_ ?_
    | with_reducible refine State.quConfig_moves ?_ ?_ ?_
    | with_reducible refine State.clampField_moves ?_ ?_
    | with_reducible refine State.plainWrite_moves ?_ ?_
    | with_reducible refine State.flip_moves hm ?_ ?_
    | with_reducible refine State.doorbell_moves hm ?_ ?_
    | split

theorem State.writeRegulator_moves (hp : Sub 35184388866047 F.parts) {s : State} {en : Fld} {rate : Fld} {burst : Fld} {top : ℕ} {point : ℕ} {p : RegPut} (h : Moves F s₀ s) : Moves F s₀ (State.writeRegulator s en rate burst top point p) := by
  unfold State.writeRegulator
  repeat' first
    | with_reducible assumption
    | exact hp.bit rfl
    | exact hp.sub rfl
    | exact hp.any rfl
    | with_reducible refine State.clampField_moves ?_ ?_
    | with_reducible refine State.plainWrite_moves ?_ ?_
    | with_reducible refine State.gl_moves ?_ ?_
    | (extract_lets +onlyGivenNames t; refine Moves.cut (F := F) (s₀ := s₀) (t := t) ?_ (fun ht => ?_); rotate_left; (try clear_value t); rotate_left; subst t)
    | (extract_lets +onlyGivenNames t; try clear_value t)
    | split
    | simp (disch := first | exact hp.out rfl | with_reducible exact fun _ => rfl) only [Moves.mk_iff]

theorem State.writeGl_moves (hp : Sub 35184388866047 F.parts) {s : State} {row : ℕ} {fs : List Fld} {p : RegPut} (h : Moves F s₀ s) : Moves F s₀ (State.writeGl s row fs p) := by
  unfold State.writeGl
  repeat' first
    | with_reducible assumption
    | exact hp.bit rfl
    | exact hp.sub rfl
    | exact hp.any rfl
    | with_reducible refine State.clampField_moves ?_ ?_
    | with_reducible refine State.plainWrite_moves ?_ ?_
    | with_reducible refine State.writeRegulator_moves ?_ ?_
    | with_reducible refine State.writeRoute_moves ?_ ?_
    | (extract_lets +onlyGivenNames t; refine Moves.cut (F := F) (s₀ := s₀) (t := t) ?_ (fun ht => ?_); rotate_left; (try clear_value t); rotate_left; subst t)
    | split

theorem State.writeDc_moves (hp : Sub 16777215 F.parts) {s : State} {fs : List Fld} {p : RegPut} (h : Moves F s₀ s) : Moves F s₀ (State.writeDc s fs p) := by
  unfold State.writeDc
  repeat' first
    | with_reducible assumption
    | exact hp.bit rfl
    | exact hp.sub rfl
    | exact hp.any rfl
    | with_reducible refine State.clampField_moves ?_ ?_
    | with_reducible refine State.plainWrite_moves ?_ ?_
    | split
    | simp (disch := first | exact hp.out rfl | with_reducible exact fun _ => rfl) only [Moves.mk_iff]

theorem State.writePc_moves (hp : Sub 2251799830462463 F.parts) {s : State} {fs : List Fld} {p : RegPut} (h : Moves F s₀ s) : Moves F s₀ (State.writePc s fs p) := by
  unfold State.writePc
  repeat' first
    | with_reducible assumption
    | exact hp.bit rfl
    | exact hp.sub rfl
    | exact hp.any rfl
    | with_reducible refine State.plainWrite_moves ?_ ?_
    | with_reducible refine State.replanWrite_moves ?_ ?_
    | (extract_lets +onlyGivenNames t; refine Moves.cut (F := F) (s₀ := s₀) (t := t) ?_ (fun ht => ?_); rotate_left; (try clear_value t); rotate_left; subst t)
    | split

theorem State.writeEn_moves (hm : F.mem = true) (hf : F.flash = true) (hk : F.keys = true) (hp : Sub 15766859320131583 F.parts) {s : State} {row : ℕ} {fs : List Fld} {p : RegPut} (h : Moves F s₀ s) : Moves F s₀ (State.writeEn s row fs p) := by
  unfold State.writeEn
  repeat' first
    | with_reducible assumption
    | exact hp.bit rfl
    | exact hp.sub rfl
    | exact hp.any rfl
    | with_reducible refine State.rangeCmd_moves hm hf hk ?_ ?_
    | with_reducible refine State.plainWrite_moves ?_ ?_
    | split

theorem State.writeTrc_moves (hm : F.mem = true) (hp : Sub 4573968388325375 F.parts) {s : State} {row : ℕ} {fs : List Fld} {p : RegPut} (h : Moves F s₀ s) : Moves F s₀ (State.writeTrc s row fs p) := by
  unfold State.writeTrc
  repeat' first
    | with_reducible assumption
    | exact hp.bit rfl
    | exact hp.sub rfl
    | exact hp.any rfl
    | with_reducible refine State.hoistGo_moves ?_ ?_
    | with_reducible refine State.plainWrite_moves ?_ ?_
    | with_reducible refine settled_moves (fun t e => ?_) ?_
    | refine execHoistAbort_moves hm ?_ (by with_reducible assumption) ?_
    | (extract_lets +onlyGivenNames t; refine Moves.cut (F := F) (s₀ := s₀) (t := t) ?_ (fun ht => ?_); rotate_left; (try clear_value t); rotate_left; subst t)
    | split

theorem State.writeFm_moves (hf : F.flash = true) (hk : F.keys = true) (hp : Sub 4649568402669567 F.parts) {s : State} {row : ℕ} {fs : List Fld} {p : RegPut} (h : Moves F s₀ s) : Moves F s₀ (State.writeFm s row fs p) := by
  unfold State.writeFm
  repeat' first
    | with_reducible assumption
    | exact hp.bit rfl
    | exact hp.sub rfl
    | exact hp.any rfl
    | with_reducible refine settled_moves (fun t e => ?_) ?_
    | refine execLoadDeadlineWrite_moves ?_ (by with_reducible assumption) ?_
    | with_reducible refine State.drawn_moves ?_
    | with_reducible refine State.mbIssue_moves hf hk ?_ ?_
    | with_reducible refine State.plainWrite_moves ?_ ?_
    | with_reducible refine State.wr_moves ?_ ?_
    | (extract_lets +onlyGivenNames t; refine Moves.cut (F := F) (s₀ := s₀) (t := t) ?_ (fun ht => ?_); rotate_left; (try clear_value t); rotate_left; subst t)
    | split

theorem State.writeBw_moves (hp : Sub 6764221320658943 F.parts) {s : State} {fs : List Fld} {p : RegPut} (h : Moves F s₀ s) : Moves F s₀ (State.writeBw s fs p) := by
  unfold State.writeBw
  repeat' first
    | with_reducible assumption
    | exact hp.bit rfl
    | exact hp.sub rfl
    | exact hp.any rfl
    | with_reducible refine State.plainWrite_moves ?_ ?_
    | with_reducible refine settled_moves (fun t e => ?_) ?_
    | refine execEnumRequest_moves ?_ (by with_reducible assumption) ?_
    | (extract_lets +onlyGivenNames t; refine Moves.cut (F := F) (s₀ := s₀) (t := t) ?_ (fun ht => ?_); rotate_left; (try clear_value t); rotate_left; subst t)
    | split

theorem State.writeSc_moves (hp : Sub 3236962248949759 F.parts) {s : State} {fs : List Fld} {p : RegPut} {m : Master} (h : Moves F s₀ s) : Moves F s₀ (State.writeSc s fs p m) := by
  unfold State.writeSc
  repeat' first
    | with_reducible assumption
    | exact hp.bit rfl
    | exact hp.sub rfl
    | exact hp.any rfl
    | with_reducible refine State.plainWrite_moves ?_ ?_
    | with_reducible refine State.clampField_moves ?_ ?_
    | with_reducible refine State.writeSrc_moves ?_ ?_
    | with_reducible refine State.writeTime_moves ?_ ?_
    | with_reducible refine State.writeInc_moves ?_ ?_
    | (extract_lets +onlyGivenNames t; refine Moves.cut (F := F) (s₀ := s₀) (t := t) ?_ (fun ht => ?_); rotate_left; (try clear_value t); rotate_left; subst t)
    | (extract_lets +onlyGivenNames t; try clear_value t)
    | split

theorem State.writeLp_moves (hp : Sub 1688849877041151 F.parts) {s : State} {row : ℕ} {fs : List Fld} {p : RegPut} (h : Moves F s₀ s) : Moves F s₀ (State.writeLp s row fs p) := by
  unfold State.writeLp
  repeat' first
    | with_reducible assumption
    | exact hp.bit rfl
    | exact hp.sub rfl
    | exact hp.any rfl
    | with_reducible refine State.clearOnes_moves ?_ ?_
    | with_reducible refine State.writeUnlock_moves ?_ ?_
    | with_reducible refine State.lp_moves ?_ ?_
    | with_reducible refine State.writeTraceCtrl_moves ?_ ?_
    | with_reducible refine State.plainWrite_moves ?_ ?_
    | split
    | simp (disch := first | exact hp.out rfl | with_reducible exact fun _ => rfl) only [Moves.mk_iff]

theorem State.writeIo_moves (hp : Sub 16777215 F.parts) {s : State} {fs : List Fld} {p : RegPut} (h : Moves F s₀ s) : Moves F s₀ (State.writeIo s fs p) := by
  unfold State.writeIo
  repeat' first
    | with_reducible assumption
    | exact hp.bit rfl
    | exact hp.sub rfl
    | exact hp.any rfl
    | with_reducible refine State.writeMgEn_moves ?_ ?_
    | with_reducible refine State.plainWrite_moves ?_ ?_
    | split

theorem State.writeIob_moves (hp : Sub 2199040032767 F.parts) {s : State} {bank : ℕ} {row : ℕ} {fs : List Fld} {p : RegPut} (h : Moves F s₀ s) : Moves F s₀ (State.writeIob s bank row fs p) := by
  unfold State.writeIob
  repeat' first
    | with_reducible assumption
    | exact hp.bit rfl
    | exact hp.sub rfl
    | exact hp.any rfl
    | with_reducible refine State.writePin_moves ?_ ?_
    | with_reducible refine State.plainWrite_moves ?_ ?_
    | split

theorem State.putReg_moves (hm : F.mem = true) (hu : F.fabMem = true) (hr : F.frames = true) (hf : F.flash = true) (hk : F.keys = true) (hp : Sub 18014394231291903 F.parts) {s : State} {b : Block} {x : RegAt} {off : ℕ} {size : ℕ} {data : ℕ} {m : Master} (h : Moves F s₀ s) : Moves F s₀ (State.putReg s b x off size data m) := by
  unfold State.putReg
  repeat' first
    | with_reducible assumption
    | exact hp.bit rfl
    | exact hp.sub rfl
    | exact hp.any rfl
    | with_reducible refine State.writeCk_moves hm hu hr ?_ ?_
    | with_reducible refine State.writeSt_moves hu ?_ ?_
    | with_reducible refine State.writeCf_moves ?_ ?_
    | with_reducible refine State.writeCfs_moves ?_ ?_
    | with_reducible refine State.writeSb_moves hr ?_ ?_
    | with_reducible refine State.writeWd_moves ?_ ?_
    | with_reducible refine State.writeCr_moves ?_ ?_
    | with_reducible refine State.plainWrite_moves ?_ ?_
    | with_reducible refine State.writeXcp_moves ?_ ?_
    | with_reducible refine State.writeCg_moves ?_ ?_
    | with_reducible refine State.writeQu_moves hm ?_ ?_
    | with_reducible refine State.writeGl_moves ?_ ?_
    | with_reducible refine State.writeDc_moves ?_ ?_
    | with_reducible refine State.writePc_moves ?_ ?_
    | with_reducible refine State.writeEn_moves hm hf hk ?_ ?_
    | with_reducible refine State.writeTrc_moves hm ?_ ?_
    | with_reducible refine State.writeFm_moves hf hk ?_ ?_
    | with_reducible refine State.writeBw_moves ?_ ?_
    | with_reducible refine State.writeSc_moves ?_ ?_
    | with_reducible refine State.writeLp_moves ?_ ?_
    | with_reducible refine State.writeIo_moves ?_ ?_
    | with_reducible refine State.writeIob_moves ?_ ?_
    | (extract_lets +onlyGivenNames t; refine Moves.cut (F := F) (s₀ := s₀) (t := t) ?_ (fun ht => ?_); rotate_left; (try clear_value t); rotate_left; subst t)
    | (extract_lets +onlyGivenNames t; try clear_value t)
    | split

theorem State.ownWrite_all (hm : F.mem = true) (hp : Sub 15852634103632796 F.parts) {s : State} {b : Block} {i off size data : ℕ} {m : Master} {posted poison : Bool} {r : ℕ × State}
    (e : State.ownWrite s b i off size data m posted poison = some r) (h : Moves F s₀ s) : Moves F s₀ r.2 := by
  unfold State.ownWrite at e
  repeat' split at e
  all_goals try (cases e; done)
  all_goals cases Option.some.inj e
  all_goals clear e
  repeat' first
    | with_reducible assumption
    | exact hp.bit rfl
    | exact hp.sub rfl
    | split
    | dsimp only
    | with_reducible refine State.trWrite_moves ?_ ?_
    | refine State.trWrite_moves' ?_ (by with_reducible assumption) ?_
    | with_reducible refine State.push_moves hm ?_ ?_
    | refine State.push_moves' hm ?_ (by with_reducible assumption) ?_
    | with_reducible refine State.sawPush_moves ?_ ?_
    | refine State.sawPush_moves' ?_ (by with_reducible assumption) ?_
    | with_reducible refine State.msixWrite_moves ?_ ?_
    | refine State.msixWrite_moves' ?_ (by with_reducible assumption) ?_
theorem State.ownWrite_moves (hm : F.mem = true) (hp : Sub 15852634103632796 F.parts) {s : State} {b : Block} {i off size data : ℕ} {m : Master} {posted poison : Bool} {x : ℕ} {t : State}
    (e : State.ownWrite s b i off size data m posted poison = some (x, t)) (h : Moves F s₀ s) : Moves F s₀ t := State.ownWrite_all hm (hp.sub rfl) e h

theorem State.regWrite_moves (hm : F.mem = true) (hu : F.fabMem = true) (hr : F.frames = true) (hf : F.flash = true) (hk : F.keys = true) (hp : Sub 18014394231291903 F.parts) {s : State} {a : ℕ} {size : ℕ} {data : ℕ} {m : Master} {posted : Bool} {poison : Bool} (h : Moves F s₀ s) : Moves F s₀ (State.regWrite s a size data m posted poison).2 := by
  unfold State.regWrite
  repeat' first
    | with_reducible assumption
    | exact hp.bit rfl
    | exact hp.sub rfl
    | exact hp.any rfl
    | split
    | dsimp only
    | refine State.ownWrite_moves hm ?_ (by with_reducible assumption) ?_
    | with_reducible refine State.putReg_moves hm hu hr hf hk ?_ ?_
theorem State.regWrite_moves' (hm : F.mem = true) (hu : F.fabMem = true) (hr : F.frames = true) (hf : F.flash = true) (hk : F.keys = true) (hp : Sub 18014394231291903 F.parts) {s : State} {a : ℕ} {size : ℕ} {data : ℕ} {m : Master} {posted : Bool} {poison : Bool} {r0 : ℕ} {t : State} (e : State.regWrite s a size data m posted poison = (r0, t)) (h : Moves F s₀ s) : Moves F s₀ t := by
  have k := @State.regWrite_moves F s₀ hm hu hr hf hk (hp.sub rfl) s a size data m posted poison h
  rw [e] at k; exact k

end Sys2Proof.Machine
end

