-- ==== Sys2Proof/Laws/MovesG.lean ====
section
/-! SUPPORT. What each operation and meaning of these files may do to the state as a whole (see Moves.lean):
Registers, Host, LampPort, Memories, Pins, Shift, TramIssue, TramMem, Trace. -/

namespace Sys2Proof.Machine

set_option linter.unusedTactic false
set_option linter.unreachableTactic false
set_option linter.unusedVariables false
set_option linter.tactic.unusedName false

variable {F : Foot} {s₀ : State}

/-! ### Registers -/

theorem State.dataAccess_moves (hm : F.mem = true) (hp : Sub 4503599627370497 F.parts) {s : State} {ni : ℕ} {a : ℕ} {size : ℕ} {write : Bool} {data : ℕ} {poison : Bool} {ans : Answer} (h : Moves F s₀ s) : Moves F s₀ (State.dataAccess s ni a size write data poison ans).2 := by
  unfold State.dataAccess
  repeat' first
    | with_reducible assumption
    | exact hp.bit rfl
    | exact hp.sub rfl
    | split
    | dsimp only
    | with_reducible refine State.storeBytes_moves hm ?_
    | with_reducible refine State.wr_moves ?_ ?_
    | with_reducible refine State.emit_moves ?_ ?_
theorem State.dataAccess_moves' (hm : F.mem = true) (hp : Sub 4503599627370497 F.parts) {s : State} {ni : ℕ} {a : ℕ} {size : ℕ} {write : Bool} {data : ℕ} {poison : Bool} {ans : Answer} {r0 : Answer} {t : State} (e : State.dataAccess s ni a size write data poison ans = (r0, t)) (h : Moves F s₀ s) : Moves F s₀ t := by
  have k := @State.dataAccess_moves F s₀ hm (hp.sub rfl) s ni a size write data poison ans h
  rw [e] at k; exact k

theorem execRegisterRead_moves (hm : F.mem = true) (hp : Sub 16133271570087935 F.parts) {addr : ℕ} {size : ℕ} {m : Master} {tag : ℕ} {ticks : ℕ} {peek : Bool} {s : State} {t : State} (e : execRegisterRead addr size m tag ticks peek s = .next t) (h : Moves F s₀ s) : Moves F s₀ t := by
  unfold execRegisterRead at e
  try dsimp only at e
  cases Host.Outcome.next.inj e
  repeat' first
    | with_reducible assumption
    | exact hp.bit rfl
    | exact hp.sub rfl
    | exact hp.any rfl
    | with_reducible refine State.tick_moves ?_ ?_
    | with_reducible refine State.regRead_moves hm ?_ ?_
    | refine State.regRead_moves' hm ?_ (by with_reducible assumption) ?_
    | with_reducible refine State.respond_moves ?_ ?_
    | (extract_lets +onlyGivenNames t; refine Moves.cut (F := F) (s₀ := s₀) (t := t) ?_ (fun ht => ?_); rotate_left; (try clear_value t); rotate_left; subst t)
    | split

theorem execRegisterWrite_moves (hm : F.mem = true) (hu : F.fabMem = true) (hr : F.frames = true) (hf : F.flash = true) (hk : F.keys = true) (hp : Sub 18014394231291903 F.parts) {addr : ℕ} {size : ℕ} {data : ℕ} {m : Master} {tag : ℕ} {ticks : ℕ} {posted : Bool} {poison : Bool} {s : State} {t : State} (e : execRegisterWrite addr size data m tag ticks posted poison s = .next t) (h : Moves F s₀ s) : Moves F s₀ t := by
  unfold execRegisterWrite at e
  try dsimp only at e
  cases Host.Outcome.next.inj e
  repeat' first
    | with_reducible assumption
    | exact hp.bit rfl
    | exact hp.sub rfl
    | exact hp.any rfl
    | with_reducible refine State.tick_moves ?_ ?_
    | with_reducible refine State.regWrite_moves hm hu hr hf hk ?_ ?_
    | refine State.regWrite_moves' hm hu hr hf hk ?_ (by with_reducible assumption) ?_
    | with_reducible refine State.respond_moves ?_ ?_
    | (extract_lets +onlyGivenNames t; refine Moves.cut (F := F) (s₀ := s₀) (t := t) ?_ (fun ht => ?_); rotate_left; (try clear_value t); rotate_left; subst t)
    | split

/-! ### Host -/

theorem State.hostFail_moves (hp : Sub 4503608217305089 F.parts) {s : State} {addr : ℕ} {status : ℕ} {write : Bool} (h : Moves F s₀ s) : Moves F s₀ (State.hostFail s addr status write) := by
  unfold State.hostFail
  repeat' first
    | with_reducible assumption
    | exact hp.bit rfl
    | exact hp.sub rfl
    | with_reducible refine State.put_moves ?_ ?_
    | with_reducible refine State.wr_moves ?_ ?_
    | with_reducible refine State.cgErr_moves ?_ ?_ ?_
    | (extract_lets +onlyGivenNames t; refine Moves.cut (F := F) (s₀ := s₀) (t := t) ?_ (fun ht => ?_); rotate_left; (try clear_value t); rotate_left; subst t)
    | split

theorem State.hostReadPiece_moves (hm : F.mem = true) (hp : Sub 13881480346337279 F.parts) {s : State} {p : ℕ × ℕ} {r : HostRun} (h : Moves F s₀ s) : Moves F s₀ (State.hostReadPiece s p r).1 := by
  unfold State.hostReadPiece
  repeat' first
    | with_reducible assumption
    | exact hp.bit rfl
    | exact hp.sub rfl
    | exact hp.any rfl
    | (extract_lets +onlyGivenNames t; refine Moves.cut (F := F) (s₀ := s₀) (t := t) ?_ (fun ht => ?_); rotate_left; (try clear_value t); rotate_left; subst t)
    | (extract_lets +onlyGivenNames t; subst t)
    | split
    | dsimp only
    | with_reducible refine State.hostFail_moves ?_ ?_
    | with_reducible refine State.drawn_moves ?_
    | with_reducible refine State.tick_moves ?_ ?_
    | with_reducible refine State.regRead_moves hm ?_ ?_
    | refine State.regRead_moves' hm ?_ (by with_reducible assumption) ?_
    | with_reducible refine State.dataAccess_moves hm ?_ ?_
    | refine State.dataAccess_moves' hm ?_ (by with_reducible assumption) ?_
    | simp (disch := first | exact hp.out rfl | with_reducible exact fun _ => rfl) only [Moves.mk_iff]
theorem State.hostReadPiece_moves' (hm : F.mem = true) (hp : Sub 13881480346337279 F.parts) {s : State} {p : ℕ × ℕ} {r : HostRun} {t : State} {r : HostRun} (e : State.hostReadPiece s p r = (t, r)) (h : Moves F s₀ s) : Moves F s₀ t := by
  have k := @State.hostReadPiece_moves F s₀ hm (hp.sub rfl) s p r h
  rw [e] at k; exact k

theorem State.hostWritePiece_moves (hm : F.mem = true) (hu : F.fabMem = true) (hr : F.frames = true) (hf : F.flash = true) (hk : F.keys = true) (hp : Sub 18014394231291903 F.parts) {s : State} {p : ℕ × ℕ} {data : ℕ} {poison : Bool} {r : HostRun} (h : Moves F s₀ s) : Moves F s₀ (State.hostWritePiece s p data poison r).1 := by
  unfold State.hostWritePiece
  repeat' first
    | with_reducible assumption
    | exact hp.bit rfl
    | exact hp.sub rfl
    | exact hp.any rfl
    | (extract_lets +onlyGivenNames t; refine Moves.cut (F := F) (s₀ := s₀) (t := t) ?_ (fun ht => ?_); rotate_left; (try clear_value t); rotate_left; subst t)
    | (extract_lets +onlyGivenNames t; subst t)
    | split
    | dsimp only
    | with_reducible refine State.hostFail_moves ?_ ?_
    | with_reducible refine State.drawn_moves ?_
    | with_reducible refine State.tick_moves ?_ ?_
    | with_reducible refine State.regWrite_moves hm hu hr hf hk ?_ ?_
    | refine State.regWrite_moves' hm hu hr hf hk ?_ (by with_reducible assumption) ?_
    | with_reducible refine State.dataAccess_moves hm ?_ ?_
    | refine State.dataAccess_moves' hm ?_ (by with_reducible assumption) ?_
    | simp (disch := first | exact hp.out rfl | with_reducible exact fun _ => rfl) only [Moves.mk_iff]
theorem State.hostWritePiece_moves' (hm : F.mem = true) (hu : F.fabMem = true) (hr : F.frames = true) (hf : F.flash = true) (hk : F.keys = true) (hp : Sub 18014394231291903 F.parts) {s : State} {p : ℕ × ℕ} {data : ℕ} {poison : Bool} {r : HostRun} {t : State} {r : HostRun} (e : State.hostWritePiece s p data poison r = (t, r)) (h : Moves F s₀ s) : Moves F s₀ t := by
  have k := @State.hostWritePiece_moves F s₀ hm hu hr hf hk (hp.sub rfl) s p data poison r h
  rw [e] at k; exact k

theorem State.hostRead_moves (hm : F.mem = true) (hp : Sub 13881480346337279 F.parts) {s : State} {addr len : ℕ} {answers : List Answer} (h : Moves F s₀ s) :
    Moves F s₀ (State.hostRead s addr len answers) := by
  unfold State.hostRead
  have k := Moves.foldl1 (F := F) (s₀ := s₀) (f := fun x p => State.hostReadPiece x.1 p x.2) (l := pieces len addr len)
    (x := (s, ⟨answers, [], false⟩)) h (fun y a hy => State.hostReadPiece_moves hm (hp.sub rfl) hy)
  split
  rename_i e
  rw [e] at k
  split
  · exact State.emit_moves (hp.bit rfl) k
  · exact State.emit_moves (hp.bit rfl) k

theorem State.hostWrite_moves (hm : F.mem = true) (hu : F.fabMem = true) (hr : F.frames = true) (hf : F.flash = true) (hk : F.keys = true) (hp : Sub 18014394231291903 F.parts) {s : State} {addr : ℕ} {data : List ℕ} {poison : Bool} {answers : List Answer} (h : Moves F s₀ s) : Moves F s₀ (State.hostWrite s addr data poison answers) := by
  unfold State.hostWrite
  repeat' first
    | with_reducible assumption
    | exact hp.bit rfl
    | exact hp.sub rfl
    | exact hp.any rfl
    | exact Sub.mem (f := a) hp ha (by rfl)
    | with_reducible refine State.cgErr_moves ?_ ?_ ?_
    | with_reducible refine State.hostWritePiece_moves hm hu hr hf hk ?_ ?_
    | refine State.hostWritePiece_moves' hm hu hr hf hk ?_ (by with_reducible assumption) ?_
    | with_reducible refine Moves.foldl ?_ (fun t a ha ht => ?_)
    | with_reducible refine Moves.foldl2 ?_ (fun y a ht => ?_)
    | with_reducible refine Moves.foldl1 ?_ (fun y a ht => ?_)
    | (extract_lets +onlyGivenNames t; refine Moves.cut (F := F) (s₀ := s₀) (t := t) ?_ (fun ht => ?_); rotate_left; (try clear_value t); rotate_left; subst t)
    | split

theorem execHostMemoryRequest_moves (hm : F.mem = true) (hu : F.fabMem = true) (hr : F.frames = true) (hf : F.flash = true) (hk : F.keys = true) (hp : Sub 18014394231291903 F.parts) {bar : ℕ} {ofs : ℕ} {len : ℕ} {write : Bool} {data : List ℕ} {poison : Bool} {answers : List Answer} {s : State} {t : State} (e : execHostMemoryRequest bar ofs len write data poison answers s = .next t) (h : Moves F s₀ s) : Moves F s₀ t := by
  unfold execHostMemoryRequest at e
  try dsimp only at e
  cases Host.Outcome.next.inj e
  repeat' first
    | with_reducible assumption
    | exact hp.bit rfl
    | exact hp.sub rfl
    | exact hp.any rfl
    | with_reducible refine State.emit_moves ?_ ?_
    | with_reducible refine State.hostWrite_moves hm hu hr hf hk ?_ ?_
    | with_reducible refine State.hostRead_moves hm ?_ ?_
    | split

/-! ### LampPort -/

theorem State.someTicks_moves (hp : Sub 262144 F.parts) {s : State} (h : Moves F s₀ s) : Moves F s₀ (State.someTicks s) := by
  unfold State.someTicks
  repeat' first
    | with_reducible assumption
    | exact hp.bit rfl
    | exact hp.sub rfl
    | with_reducible refine State.drawn_moves ?_
    | with_reducible refine State.tick_moves ?_ ?_

theorem State.lampEnd_moves (hp : Sub 5629499534213120 F.parts) {s : State} {read : Bool} {size : ℕ} {status : ℕ} {data : ℕ} {poison : Bool} (h : Moves F s₀ s) : Moves F s₀ (State.lampEnd s read size status data poison) := by
  unfold State.lampEnd
  repeat' first
    | with_reducible assumption
    | exact hp.bit rfl
    | exact hp.sub rfl
    | with_reducible refine State.emit_moves ?_ ?_
    | with_reducible refine State.lp_moves ?_ ?_
    | (extract_lets +onlyGivenNames t; refine Moves.cut (F := F) (s₀ := s₀) (t := t) ?_ (fun ht => ?_); rotate_left; (try clear_value t); rotate_left; subst t)
    | (extract_lets +onlyGivenNames t; try clear_value t)
    | split
    | simp (disch := first | exact hp.out rfl | with_reducible exact fun _ => rfl) only [Moves.mk_iff]

theorem State.lampAccess_moves (hm : F.mem = true) (hu : F.fabMem = true) (hr : F.frames = true) (hf : F.flash = true) (hk : F.keys = true) (hp : Sub 18014394231291903 F.parts) {s : State} {q : LampReq} {k : LampKind} {data : ℕ} {a : Answer} (h : Moves F s₀ s) : Moves F s₀ (State.lampAccess s q k data a) := by
  unfold State.lampAccess
  repeat' first
    | with_reducible assumption
    | exact hp.bit rfl
    | exact hp.sub rfl
    | exact hp.any rfl
    | with_reducible refine State.lampEnd_moves ?_ ?_
    | with_reducible refine State.dataAccess_moves hm ?_ ?_
    | refine State.dataAccess_moves' hm ?_ (by with_reducible assumption) ?_
    | with_reducible refine State.someTicks_moves ?_ ?_
    | with_reducible refine State.regWrite_moves hm hu hr hf hk ?_ ?_
    | refine State.regWrite_moves' hm hu hr hf hk ?_ (by with_reducible assumption) ?_
    | with_reducible refine State.regRead_moves hm ?_ ?_
    | refine State.regRead_moves' hm ?_ (by with_reducible assumption) ?_
    | (extract_lets +onlyGivenNames t; refine Moves.cut (F := F) (s₀ := s₀) (t := t) ?_ (fun ht => ?_); rotate_left; (try clear_value t); rotate_left; subst t)
    | (extract_lets +onlyGivenNames t; try clear_value t)
    | split

theorem State.lampHeard_moves (hp : Sub 4503599631564800 F.parts) {s : State} {q : LampReq} {cmd : ℕ} {act : State → State} (ha : ∀ t, Moves F s₀ t → Moves F s₀ (act t)) (h : Moves F s₀ s) : Moves F s₀ (State.lampHeard s q cmd act) := by
  unfold State.lampHeard
  repeat' first
    | with_reducible assumption
    | exact hp.bit rfl
    | exact hp.sub rfl
    | with_reducible refine State.emit_moves ?_ ?_
    | with_reducible refine State.count_moves ?_ ?_
    | with_reducible refine State.wr_moves ?_ ?_
    | with_reducible refine ha _ ?_
    | (extract_lets +onlyGivenNames t; refine Moves.cut (F := F) (s₀ := s₀) (t := t) ?_ (fun ht => ?_); rotate_left; (try clear_value t); rotate_left; subst t)
    | split

theorem State.lampRequest_moves (hm : F.mem = true) (hu : F.fabMem = true) (hr : F.frames = true) (hf : F.flash = true) (hk : F.keys = true) (hp : Sub 18014394231291903 F.parts) {s : State} {q : LampReq} {k : LampKind} {a : Answer} (h : Moves F s₀ s) : Moves F s₀ (State.lampRequest s q k a) := by
  unfold State.lampRequest
  repeat' first
    | with_reducible assumption
    | exact hp.bit rfl
    | exact hp.sub rfl
    | exact hp.any rfl
    | with_reducible refine State.lampHeard_moves ?_ (fun t ht => ?_) ?_
    | with_reducible refine State.emit_moves ?_ ?_
    | with_reducible refine State.lampAccess_moves hm hu hr hf hk ?_ ?_
    | split

theorem execPeek_moves (hm : F.mem = true) (hu : F.fabMem = true) (hr : F.frames = true) (hf : F.flash = true) (hk : F.keys = true) (hp : Sub 18014394231291903 F.parts) {q : LampReq} {a : Answer} {s : State} {t : State} (e : execPeek q a s = .next t) (h : Moves F s₀ s) : Moves F s₀ t := by
  unfold execPeek at e
  try dsimp only at e
  cases Host.Outcome.next.inj e
  repeat' first
    | with_reducible assumption
    | exact hp.bit rfl
    | exact hp.sub rfl
    | exact hp.any rfl
    | with_reducible refine State.lampRequest_moves hm hu hr hf hk ?_ ?_

theorem execConsume_moves (hm : F.mem = true) (hu : F.fabMem = true) (hr : F.frames = true) (hf : F.flash = true) (hk : F.keys = true) (hp : Sub 18014394231291903 F.parts) {q : LampReq} {a : Answer} {s : State} {t : State} (e : execConsume q a s = .next t) (h : Moves F s₀ s) : Moves F s₀ t := by
  unfold execConsume at e
  try dsimp only at e
  cases Host.Outcome.next.inj e
  repeat' first
    | with_reducible assumption
    | exact hp.bit rfl
    | exact hp.sub rfl
    | exact hp.any rfl
    | with_reducible refine State.lampRequest_moves hm hu hr hf hk ?_ ?_

theorem execLampWrite_moves (hm : F.mem = true) (hu : F.fabMem = true) (hr : F.frames = true) (hf : F.flash = true) (hk : F.keys = true) (hp : Sub 18014394231291903 F.parts) {y0 : Bool} {y1 : Nat} {y2 : Answer} {s : State} {t : State} (e : execLampWrite y0 y1 y2 s = .next t) (h : Moves F s₀ s) : Moves F s₀ t := by
  unfold execLampWrite at e
  try dsimp only at e
  cases Host.Outcome.next.inj e
  repeat' first
    | with_reducible assumption
    | exact hp.bit rfl
    | exact hp.sub rfl
    | exact hp.any rfl
    | with_reducible refine State.lampRequest_moves hm hu hr hf hk ?_ ?_

theorem execLampRepeat_moves (hp : Sub 4503599631564800 F.parts) {y0 : Bool} {y1 : Nat} {s : State} {t : State} (e : execLampRepeat y0 y1 s = .next t) (h : Moves F s₀ s) : Moves F s₀ t := by
  unfold execLampRepeat at e
  try dsimp only at e
  cases Host.Outcome.next.inj e
  repeat' first
    | with_reducible assumption
    | exact hp.bit rfl
    | exact hp.sub rfl
    | with_reducible refine State.lampHeard_moves ?_ (fun t ht => ?_) ?_
    | with_reducible refine State.emit_moves ?_ ?_

theorem execLampBreak_moves {s : State} {t : State} (e : execLampBreak s = .next t) (h : Moves F s₀ s) : Moves F s₀ t := by
  unfold execLampBreak at e
  try dsimp only at e
  cases Host.Outcome.next.inj e
  repeat' first
    | with_reducible assumption

theorem execLampClockTimeout_moves {s : State} {t : State} (e : execLampClockTimeout s = .next t) (h : Moves F s₀ s) : Moves F s₀ t := by
  unfold execLampClockTimeout at e
  try dsimp only at e
  cases Host.Outcome.next.inj e
  repeat' first
    | with_reducible assumption

theorem execLampReset_moves (hm : F.mem = true) (hu : F.fabMem = true) (hr : F.frames = true) (hp : Sub 18014394231291903 F.parts) {low : Bool} {s : State} {t : State} (e : execLampReset low s = .next t) (h : Moves F s₀ s) : Moves F s₀ t := by
  unfold execLampReset at e
  try dsimp only at e
  cases Host.Outcome.next.inj e
  repeat' first
    | with_reducible assumption
    | exact hp.bit rfl
    | exact hp.sub rfl
    | exact hp.any rfl
    | with_reducible refine State.ck_moves ?_ ?_
    | with_reducible refine State.warm_moves hm hu hr ?_ ?_ ?_
    | split
    | simp (disch := first | exact hp.out rfl | with_reducible exact fun _ => rfl) only [Moves.mk_iff]

theorem execGet_moves (hp : Sub 1125899911036928 F.parts) {level : ℕ} {s : State} {t : State} (e : execGet level s = .next t) (h : Moves F s₀ s) : Moves F s₀ t := by
  unfold execGet at e
  try dsimp only at e
  cases Host.Outcome.next.inj e
  repeat' first
    | with_reducible assumption
    | exact hp.bit rfl
    | exact hp.sub rfl
    | with_reducible refine State.lampGet_moves ?_ ?_

theorem execSubmit_moves (hp : Sub 4194304 F.parts) {s : State} {t : State} (e : execSubmit s = .next t) (h : Moves F s₀ s) : Moves F s₀ t := by
  unfold execSubmit at e
  try dsimp only at e
  cases Host.Outcome.next.inj e
  repeat' first
    | with_reducible assumption
    | exact hp.bit rfl
    | exact hp.sub rfl
    | with_reducible refine State.lampSubmit_moves ?_ ?_

theorem execLock_moves (hp : Sub 4194304 F.parts) {s : State} {t : State} (e : execLock s = .next t) (h : Moves F s₀ s) : Moves F s₀ t := by
  unfold execLock at e
  try dsimp only at e
  cases Host.Outcome.next.inj e
  repeat' first
    | with_reducible assumption
    | exact hp.bit rfl
    | exact hp.sub rfl
    | with_reducible refine State.lampLock_moves ?_ ?_

theorem execChallengeExpiry_moves (hp : Sub 4194304 F.parts) {s : State} {t : State} (e : execChallengeExpiry s = .next t) (h : Moves F s₀ s) : Moves F s₀ t := by
  unfold execChallengeExpiry at e
  try dsimp only at e
  cases Host.Outcome.next.inj e
  repeat' first
    | with_reducible assumption
    | exact hp.bit rfl
    | exact hp.sub rfl
    | with_reducible refine State.dropChallenge_moves ?_ ?_
    | split

theorem execLockoutEnd_moves (hp : Sub 4194304 F.parts) {s : State} {t : State} (e : execLockoutEnd s = .next t) (h : Moves F s₀ s) : Moves F s₀ t := by
  unfold execLockoutEnd at e
  try dsimp only at e
  cases Host.Outcome.next.inj e
  repeat' first
    | with_reducible assumption
    | exact hp.bit rfl
    | exact hp.sub rfl
    | with_reducible refine State.wr_moves ?_ ?_

/-! ### Memories -/

theorem execEccWriteback_moves (hu : F.fabMem = true) (hp : Sub 9007199254740992 F.parts) {stope : ℕ} {mem : ℕ} {unit : ℕ} {s : State} {t : State} (e : execEccWriteback stope mem unit s = .next t) (h : Moves F s₀ s) : Moves F s₀ t := by
  unfold execEccWriteback at e
  rw [need_next e]; clear e
  repeat' first
    | with_reducible assumption
    | exact hp.bit rfl
    | exact hp.sub rfl
    | refine need_moves (by with_reducible assumption) ?_
    | with_reducible refine State.updStope_moves ?_ ?_
    | with_reducible refine State.putUnit_moves hu ?_
    | (extract_lets +onlyGivenNames t; refine Moves.cut (F := F) (s₀ := s₀) (t := t) ?_ (fun ht => ?_); rotate_left; (try clear_value t); rotate_left; subst t)
    | (extract_lets +onlyGivenNames t; try clear_value t)
    | split
    | simp (disch := first | exact hp.out rfl | with_reducible exact fun _ => rfl) only [Moves.mk_iff]

theorem execSweepStep_moves (hp : Sub 15762761904554896 F.parts) {stope : ℕ} {s : State} {t : State} (e : execSweepStep stope s = .next t) (h : Moves F s₀ s) : Moves F s₀ t := by
  unfold execSweepStep at e
  rw [need_next e]; clear e
  repeat' first
    | with_reducible assumption
    | exact hp.bit rfl
    | exact hp.sub rfl
    | exact Sub.mem (f := a) hp ha (by rfl)
    | refine need_moves (by with_reducible assumption) ?_
    | with_reducible refine State.readUnit_moves ?_ ?_
    | refine State.readUnit_moves' ?_ (by with_reducible assumption) ?_
    | with_reducible refine State.updStope_moves ?_ ?_
    | with_reducible refine Moves.foldl ?_ (fun t a ha ht => ?_)
    | (extract_lets +onlyGivenNames t; refine Moves.cut (F := F) (s₀ := s₀) (t := t) ?_ (fun ht => ?_); rotate_left; (try clear_value t); rotate_left; subst t)
    | split
    | simp (disch := first | exact hp.out rfl | with_reducible exact fun _ => rfl) only [Moves.mk_iff]

theorem State.storeUnit_moves (hm : F.mem = true) (hp : Sub 9009260839064464 F.parts) {s : State} {slot : ℕ} {n : ℕ} {m : ℕ} {u : ℕ} {v : ℕ} {ue : Bool} (h : Moves F s₀ s) : Moves F s₀ (State.storeUnit s slot n m u v ue) := by
  unfold State.storeUnit
  repeat' first
    | with_reducible assumption
    | exact hp.bit rfl
    | exact hp.sub rfl
    | with_reducible refine State.agentStore_moves hm ?_ ?_
    | with_reducible refine State.setSlot_moves ?_ ?_
    | with_reducible refine State.wr_moves ?_ ?_
    | (extract_lets +onlyGivenNames t; refine Moves.cut (F := F) (s₀ := s₀) (t := t) ?_ (fun ht => ?_); rotate_left; (try clear_value t); rotate_left; subst t)
    | (extract_lets +onlyGivenNames t; try clear_value t)
    | split
    | simp (disch := first | exact hp.out rfl | with_reducible exact fun _ => rfl) only [Moves.mk_iff]

theorem State.showCopy_moves (hp : Sub 512 F.parts) {s : State} {seam : ℕ} (h : Moves F s₀ s) : Moves F s₀ (State.showCopy s seam) := by
  unfold State.showCopy
  repeat' first
    | with_reducible assumption
    | exact hp.bit rfl
    | exact hp.sub rfl
    | with_reducible refine State.put_moves ?_ ?_

theorem execCorerCopyUnit_moves (hm : F.mem = true) (hp : Sub 15764686049923984 F.parts) {stope : ℕ} {mem : ℕ} {error : Bool} {s : State} {t : State} (e : execCorerCopyUnit stope mem error s = .next t) (h : Moves F s₀ s) : Moves F s₀ t := by
  unfold execCorerCopyUnit at e
  rw [need_next e]; clear e
  repeat' first
    | with_reducible assumption
    | exact hp.bit rfl
    | exact hp.sub rfl
    | refine need_moves (by with_reducible assumption) ?_
    | with_reducible refine State.failSample_moves ?_ ?_
    | with_reducible refine State.updStope_moves ?_ ?_
    | with_reducible refine State.showCopy_moves ?_ ?_
    | with_reducible refine State.disarmIfDone_moves ?_ ?_
    | with_reducible refine State.readUnit_moves ?_ ?_
    | refine State.readUnit_moves' ?_ (by with_reducible assumption) ?_
    | with_reducible refine State.count_moves ?_ ?_
    | with_reducible refine State.storeUnit_moves hm ?_ ?_
    | (extract_lets +onlyGivenNames t; refine Moves.cut (F := F) (s₀ := s₀) (t := t) ?_ (fun ht => ?_); rotate_left; (try clear_value t); rotate_left; subst t)
    | (extract_lets +onlyGivenNames t; subst t)
    | split
    | simp (disch := first | exact hp.out rfl | with_reducible exact fun _ => rfl) only [Moves.mk_iff]

theorem execJournalStore_moves (hm : F.mem = true) (hp : Sub 9009260839064464 F.parts) {stope : ℕ} {mem : ℕ} {error : Bool} {s : State} {t : State} (e : execJournalStore stope mem error s = .next t) (h : Moves F s₀ s) : Moves F s₀ t := by
  unfold execJournalStore at e
  rw [need_next e]; clear e
  repeat' first
    | with_reducible assumption
    | exact hp.bit rfl
    | exact hp.sub rfl
    | refine need_moves (by with_reducible assumption) ?_
    | with_reducible refine State.failSample_moves ?_ ?_
    | with_reducible refine State.count_moves ?_ ?_
    | with_reducible refine State.storeUnit_moves hm ?_ ?_
    | with_reducible refine State.updStope_moves ?_ ?_
    | with_reducible refine State.showCopy_moves ?_ ?_
    | with_reducible refine State.disarmIfDone_moves ?_ ?_
    | (extract_lets +onlyGivenNames t; refine Moves.cut (F := F) (s₀ := s₀) (t := t) ?_ (fun ht => ?_); rotate_left; (try clear_value t); rotate_left; subst t)
    | (extract_lets +onlyGivenNames t; try clear_value t)
    | split
    | simp (disch := first | exact hp.out rfl | with_reducible exact fun _ => rfl) only [Moves.mk_iff]

theorem execCopyStarved_moves (hp : Sub 17179869184 F.parts) {stope : ℕ} {mem : ℕ} {s : State} {t : State} (e : execCopyStarved stope mem s = .next t) (h : Moves F s₀ s) : Moves F s₀ t := by
  unfold execCopyStarved at e
  rw [need_next e]; clear e
  repeat' first
    | with_reducible assumption
    | exact hp.bit rfl
    | exact hp.sub rfl
    | refine need_moves (by with_reducible assumption) ?_
    | split
    | simp (disch := first | exact hp.out rfl | with_reducible exact fun _ => rfl) only [Moves.mk_iff]

theorem execMemInjectArm_moves (hp : Sub 16 F.parts) {stope : ℕ} {mem : ℕ} {double : Bool} {s : State} {t : State} (e : execMemInjectArm stope mem double s = .next t) (h : Moves F s₀ s) : Moves F s₀ t := by
  unfold execMemInjectArm at e
  rw [need_next e]; clear e
  repeat' first
    | with_reducible assumption
    | exact hp.bit rfl
    | exact hp.sub rfl
    | refine need_moves (by with_reducible assumption) ?_
    | with_reducible refine State.wr_moves ?_ ?_
    | with_reducible refine State.put_moves ?_ ?_

theorem execBinQueueMove_moves (hu : F.fabMem = true) (hp : Sub 15780354090599312 F.parts) {stope : ℕ} {bin : ℕ} {s : State} {t : State} (e : execBinQueueMove stope bin s = .next t) (h : Moves F s₀ s) : Moves F s₀ t := by
  unfold execBinQueueMove at e
  rw [need_next e]; clear e
  repeat' first
    | with_reducible assumption
    | exact hp.bit rfl
    | exact hp.sub rfl
    | refine need_moves (by with_reducible assumption) ?_
    | with_reducible refine State.binUpMove_moves ?_ ?_
    | with_reducible refine State.binDownMove_moves hu ?_ ?_
    | split

theorem execLevelIrqResponse_moves (hp : Sub 9007199254741008 F.parts) {stope : ℕ} {bin : ℕ} {error : Bool} {s : State} {t : State} (e : execLevelIrqResponse stope bin error s = .next t) (h : Moves F s₀ s) : Moves F s₀ t := by
  unfold execLevelIrqResponse at e
  rw [need_next e]; clear e
  repeat' first
    | with_reducible assumption
    | exact hp.bit rfl
    | exact hp.sub rfl
    | refine need_moves (by with_reducible assumption) ?_
    | with_reducible refine State.updStope_moves ?_ ?_
    | with_reducible refine State.wr_moves ?_ ?_
    | (extract_lets +onlyGivenNames t; refine Moves.cut (F := F) (s₀ := s₀) (t := t) ?_ (fun ht => ?_); rotate_left; (try clear_value t); rotate_left; subst t)
    | split
    | simp (disch := first | exact hp.out rfl | with_reducible exact fun _ => rfl) only [Moves.mk_iff]

/-! ### Pins -/

theorem execVccioDetect_moves (hp : Sub 9437184 F.parts) {bank : ℕ} {s : State} {t : State} (e : execVccioDetect bank s = .next t) (h : Moves F s₀ s) : Moves F s₀ t := by
  unfold execVccioDetect at e
  rw [need_next e]; clear e
  repeat' first
    | with_reducible assumption
    | exact hp.bit rfl
    | exact hp.sub rfl
    | refine need_moves (by with_reducible assumption) ?_
    | with_reducible refine State.bankRail_moves ?_ ?_
    | with_reducible refine State.wr_moves ?_ ?_
    | split

theorem execSettlingEnd_moves (hp : Sub 2199024304128 F.parts) {bank : ℕ} {s : State} {t : State} (e : execSettlingEnd bank s = .next t) (h : Moves F s₀ s) : Moves F s₀ t := by
  unfold execSettlingEnd at e
  rw [need_next e]; clear e
  repeat' first
    | with_reducible assumption
    | exact hp.bit rfl
    | exact hp.sub rfl
    | refine need_moves (by with_reducible assumption) ?_
    | with_reducible refine State.wr_moves ?_ ?_
    | with_reducible refine State.bankSafe_moves ?_ ?_
    | (extract_lets +onlyGivenNames t; refine Moves.cut (F := F) (s₀ := s₀) (t := t) ?_ (fun ht => ?_); rotate_left; (try clear_value t); rotate_left; subst t)
    | split

theorem execVccioLoss_moves (hp : Sub 2199032692736 F.parts) {bank : ℕ} {s : State} {t : State} (e : execVccioLoss bank s = .next t) (h : Moves F s₀ s) : Moves F s₀ t := by
  unfold execVccioLoss at e
  rw [need_next e]; clear e
  repeat' first
    | with_reducible assumption
    | exact hp.bit rfl
    | exact hp.sub rfl
    | refine need_moves (by with_reducible assumption) ?_
    | with_reducible refine State.wr_moves ?_ ?_
    | with_reducible refine State.bankRail_moves ?_ ?_
    | with_reducible refine State.bankSafe_moves ?_ ?_
    | (extract_lets +onlyGivenNames t; refine Moves.cut (F := F) (s₀ := s₀) (t := t) ?_ (fun ht => ?_); rotate_left; (try clear_value t); rotate_left; subst t)
    | split

theorem execMgEnWrite_moves (hp : Sub 2621440 F.parts) {v : ℕ} {s : State} {t : State} (e : execMgEnWrite v s = .next t) (h : Moves F s₀ s) : Moves F s₀ t := by
  unfold execMgEnWrite at e
  try dsimp only at e
  cases Host.Outcome.next.inj e
  repeat' first
    | with_reducible assumption
    | exact hp.bit rfl
    | exact hp.sub rfl
    | with_reducible refine State.writeMgEn_moves ?_ ?_

theorem execPinWrite_moves (hp : Sub 2199026925568 F.parts) {bank : ℕ} {pin : ℕ} {v : ℕ} {s : State} {t : State} (e : execPinWrite bank pin v s = .next t) (h : Moves F s₀ s) : Moves F s₀ t := by
  unfold execPinWrite at e
  rw [need_next e]; clear e
  repeat' first
    | with_reducible assumption
    | exact hp.bit rfl
    | exact hp.sub rfl
    | refine need_moves (by with_reducible assumption) ?_
    | with_reducible refine State.writePin_moves ?_ ?_

/-! ### Shift -/

theorem execTime_moves (hp : Sub 7599832961384448 F.parts) {m : TimeMsg} {ticks : ℕ} {residence : ℕ} {s : State} {t : State} (e : execTime m ticks residence s = .next t) (h : Moves F s₀ s) : Moves F s₀ t := by
  unfold execTime at e
  try dsimp only at e
  cases Host.Outcome.next.inj e
  repeat' first
    | with_reducible assumption
    | exact hp.bit rfl
    | exact hp.sub rfl
    | with_reducible refine State.wr_moves ?_ ?_
    | with_reducible refine State.tick_moves ?_ ?_
    | with_reducible refine State.measure_moves ?_ ?_
    | with_reducible refine State.emit_moves ?_ ?_
    | (extract_lets +onlyGivenNames t; refine Moves.cut (F := F) (s₀ := s₀) (t := t) ?_ (fun ht => ?_); rotate_left; (try clear_value t); rotate_left; subst t)
    | (extract_lets +onlyGivenNames t; try clear_value t)
    | split

theorem execTimeSend_moves (hp : Sub 4785074604343296 F.parts) {ticks : ℕ} {s : State} {t : State} (e : execTimeSend ticks s = .next t) (h : Moves F s₀ s) : Moves F s₀ t := by
  unfold execTimeSend at e
  try dsimp only at e
  cases Host.Outcome.next.inj e
  repeat' first
    | with_reducible assumption
    | exact hp.bit rfl
    | exact hp.sub rfl
    | with_reducible refine State.tick_moves ?_ ?_
    | with_reducible refine State.sh_moves ?_ ?_
    | with_reducible refine State.emit_moves ?_ ?_
    | (extract_lets +onlyGivenNames t; refine Moves.cut (F := F) (s₀ := s₀) (t := t) ?_ (fun ht => ?_); rotate_left; (try clear_value t); rotate_left; subst t)
    | (extract_lets +onlyGivenNames t; try clear_value t)
    | split
    | simp (disch := first | exact hp.out rfl | with_reducible exact fun _ => rfl) only [Moves.mk_iff]

theorem execPtpSync_moves (hp : Sub 7599832961384448 F.parts) {offset16 : ℤ} {ticks : ℕ} {s : State} {t : State} (e : execPtpSync offset16 ticks s = .next t) (h : Moves F s₀ s) : Moves F s₀ t := by
  unfold execPtpSync at e
  try dsimp only at e
  cases Host.Outcome.next.inj e
  repeat' first
    | with_reducible assumption
    | exact hp.bit rfl
    | exact hp.sub rfl
    | with_reducible refine State.tick_moves ?_ ?_
    | with_reducible refine State.measure_moves ?_ ?_
    | (extract_lets +onlyGivenNames t; refine Moves.cut (F := F) (s₀ := s₀) (t := t) ?_ (fun ht => ?_); rotate_left; (try clear_value t); rotate_left; subst t)
    | split

theorem execIncWrite_moves (hp : Sub 281474976972800 F.parts) {v : ℕ} {foreman : Bool} {ticks : ℕ} {s : State} {t : State} (e : execIncWrite v foreman ticks s = .next t) (h : Moves F s₀ s) : Moves F s₀ t := by
  unfold execIncWrite at e
  try dsimp only at e
  cases Host.Outcome.next.inj e
  repeat' first
    | with_reducible assumption
    | exact hp.bit rfl
    | exact hp.sub rfl
    | with_reducible refine State.writeInc_moves ?_ ?_
    | with_reducible refine State.tick_moves ?_ ?_

theorem execTimeStep_moves (hp : Sub 3096224744079360 F.parts) {v : ℕ} {half : ℕ} {foreman : Bool} {ticks : ℕ} {s : State} {t : State} (e : execTimeStep v half foreman ticks s = .next t) (h : Moves F s₀ s) : Moves F s₀ t := by
  unfold execTimeStep at e
  try dsimp only at e
  cases Host.Outcome.next.inj e
  repeat' first
    | with_reducible assumption
    | exact hp.bit rfl
    | exact hp.sub rfl
    | with_reducible refine State.writeTime_moves ?_ ?_
    | with_reducible refine State.tick_moves ?_ ?_

theorem execTimeSrcWrite_moves (hp : Sub 281474976972800 F.parts) {src : ℕ} {s : State} {t : State} (e : execTimeSrcWrite src s = .next t) (h : Moves F s₀ s) : Moves F s₀ t := by
  unfold execTimeSrcWrite at e
  try dsimp only at e
  cases Host.Outcome.next.inj e
  repeat' first
    | with_reducible assumption
    | exact hp.bit rfl
    | exact hp.sub rfl
    | with_reducible refine State.writeSrc_moves ?_ ?_

theorem execTimeRead_moves (hp : Sub 7036874418028544 F.parts) {time : Bool} {src : ℕ} {tag : ℕ} {ticks : ℕ} {s : State} {t : State} (e : execTimeRead time src tag ticks s = .next t) (h : Moves F s₀ s) : Moves F s₀ t := by
  unfold execTimeRead at e
  try dsimp only at e
  cases Host.Outcome.next.inj e
  repeat' first
    | with_reducible assumption
    | exact hp.bit rfl
    | exact hp.sub rfl
    | with_reducible refine State.tick_moves ?_ ?_
    | with_reducible refine State.respond_moves ?_ ?_
    | with_reducible refine State.shiftLatch_moves ?_ ?_
    | (extract_lets +onlyGivenNames t; refine Moves.cut (F := F) (s₀ := s₀) (t := t) ?_ (fun ht => ?_); rotate_left; (try clear_value t); rotate_left; subst t)

theorem execMasterLoss_moves (hp : Sub 7036883007963136 F.parts) {s : State} {t : State} (e : execMasterLoss s = .next t) (h : Moves F s₀ s) : Moves F s₀ t := by
  unfold execMasterLoss at e
  try dsimp only at e
  cases Host.Outcome.next.inj e
  repeat' first
    | with_reducible assumption
    | exact hp.bit rfl
    | exact hp.sub rfl
    | with_reducible refine State.loseMaster_moves ?_ ?_
    | split

theorem execCapture_moves (hp : Sub 4503608217567232 F.parts) {input : ℕ} {ticks : ℕ} {s : State} {t : State} (e : execCapture input ticks s = .next t) (h : Moves F s₀ s) : Moves F s₀ t := by
  unfold execCapture at e
  rw [need_next e]; clear e
  repeat' first
    | with_reducible assumption
    | exact hp.bit rfl
    | exact hp.sub rfl
    | refine need_moves (by with_reducible assumption) ?_
    | with_reducible refine State.tick_moves ?_ ?_
    | with_reducible refine State.wr_moves ?_ ?_
    | with_reducible refine State.raise_moves ?_ ?_ ?_
    | (extract_lets +onlyGivenNames t; refine Moves.cut (F := F) (s₀ := s₀) (t := t) ?_ (fun ht => ?_); rotate_left; (try clear_value t); rotate_left; subst t)
    | (extract_lets +onlyGivenNames t; try clear_value t)
    | split

theorem execCompareWindow_moves (hp : Sub 4785083194277888 F.parts) {unit : ℕ} {ticks : ℕ} {s : State} {t : State} (e : execCompareWindow unit ticks s = .next t) (h : Moves F s₀ s) : Moves F s₀ t := by
  unfold execCompareWindow at e
  rw [need_next e]; clear e
  repeat' first
    | with_reducible assumption
    | exact hp.bit rfl
    | exact hp.sub rfl
    | refine need_moves (by with_reducible assumption) ?_
    | with_reducible refine State.tick_moves ?_ ?_
    | with_reducible refine State.put_moves ?_ ?_
    | with_reducible refine State.wr_moves ?_ ?_
    | with_reducible refine State.raise_moves ?_ ?_ ?_
    | with_reducible refine State.sh_moves ?_ ?_
    | (extract_lets +onlyGivenNames t; refine Moves.cut (F := F) (s₀ := s₀) (t := t) ?_ (fun ht => ?_); rotate_left; (try clear_value t); rotate_left; subst t)
    | (extract_lets +onlyGivenNames t; try clear_value t)
    | split
    | simp (disch := first | exact hp.out rfl | with_reducible exact fun _ => rfl) only [Moves.mk_iff]

/-! ### TramIssue -/

theorem State.finishIssue_moves (hp : Sub 70373047533572 F.parts) {s : State} {e : ℕ} {x : Engine} {f : Eff} (h : Moves F s₀ f.st) :
    Moves F s₀ (State.finishIssue s e x f) := by
  cases f with
  | exc t c a => exact State.raiseExc_moves (hp.sub rfl) h
  | done t c => exact State.retire_moves (hp.sub rfl) h
  | frozen t => exact h

theorem State.issue_moves (hp : Sub 70373047533574 F.parts) {s : State} {r : TramRow} {body : Body} {e : ℕ} {v : TramView} {t : State}
    (hb : ∀ x w e u, Moves F s₀ u → Moves F s₀ (body x w e u).st) (k : State.issue s r body e v = .next t) (h : Moves F s₀ s) :
    Moves F s₀ t := by
  unfold State.issue at k
  rw [need_next k]; clear k
  split
  · exact h
  · split
    rename_i e1
    have h1 := State.checkWord_moves' (hp.sub rfl) (F := F) (s₀ := s₀) e1 h
    dsimp only
    split
    · exact State.raiseExc_moves (hp.sub rfl) h1
    · split
      · exact h
      · split
        · exact State.raiseExc_moves (hp.sub rfl) h1
        · exact State.finishIssue_moves (hp.sub rfl) (hb _ _ _ _ (State.updEng_moves (hp.sub rfl) h1))

theorem execIllegalInstruction_moves (hp : Sub 70373047533574 F.parts) {engine : ℕ} {v : TramView} {s : State} {t : State} (e : execIllegalInstruction engine v s = .next t) (h : Moves F s₀ s) : Moves F s₀ t := by
  unfold execIllegalInstruction at e
  rw [need_next e]; clear e
  repeat' first
    | with_reducible assumption
    | exact hp.bit rfl
    | exact hp.sub rfl
    | refine need_moves (by with_reducible assumption) ?_
    | with_reducible refine State.checkWord_moves ?_ ?_
    | refine State.checkWord_moves' ?_ (by with_reducible assumption) ?_
    | with_reducible refine State.raiseExc_moves ?_ ?_
    | (extract_lets +onlyGivenNames t; refine Moves.cut (F := F) (s₀ := s₀) (t := t) ?_ (fun ht => ?_); rotate_left; (try clear_value t); rotate_left; subst t)
    | split

/-! ### TramMem -/

theorem State.useBank_moves (hp : Sub 4303355904 F.parts) {s : State} {a : ℕ} (h : Moves F s₀ s) : Moves F s₀ (State.useBank s a) := by
  unfold State.useBank
  repeat' first
    | with_reducible assumption
    | exact hp.bit rfl
    | exact hp.sub rfl
    | with_reducible refine State.ungate_moves ?_ ?_

theorem memLoad_moves (hp : Sub 70368744177670 F.parts) {t : State} {x1 : ℕ} {a : ℕ} {l : Landing} {errs : ℕ} {resv : Bool} (h : Moves F s₀ t) : Moves F s₀ (memLoad t x1 a l errs resv).st := by
  unfold memLoad
  repeat' first
    | with_reducible assumption
    | exact hp.bit rfl
    | exact hp.sub rfl
    | (extract_lets +onlyGivenNames t; refine Moves.cut (F := F) (s₀ := s₀) (t := t) ?_ (fun ht => ?_); rotate_left; (try clear_value t); rotate_left; subst t)
    | split
    | dsimp only [Eff.st_exc, Eff.st_done, Eff.st_frozen]
    | with_reducible refine State.checkWord_moves ?_ ?_
    | refine State.checkWord_moves' ?_ (by with_reducible assumption) ?_
    | with_reducible refine State.updEng_moves ?_ ?_
    | with_reducible refine State.watch_moves ?_ ?_
    | simp (disch := first | exact hp.out rfl | with_reducible exact fun _ => rfl) only [Moves.mk_iff]

theorem loadAt_moves (hp : Sub 13616356301766662 F.parts) {t : State} {x1 : ℕ} {l : Landing} {errs : ℕ} {resv : Bool} (h : Moves F s₀ t) : Moves F s₀ (loadAt t x1 l errs resv).st := by
  unfold loadAt
  repeat' first
    | with_reducible assumption
    | exact hp.bit rfl
    | exact hp.sub rfl
    | with_reducible refine memLoad_moves ?_ ?_
    | (extract_lets +onlyGivenNames t; refine Moves.cut (F := F) (s₀ := s₀) (t := t) ?_ (fun ht => ?_); rotate_left; (try clear_value t); rotate_left; subst t)
    | split
    | dsimp only [Eff.st_exc, Eff.st_done, Eff.st_frozen]
    | with_reducible refine memLoad_moves ?_ ?_
    | with_reducible refine State.useBank_moves ?_ ?_
    | with_reducible refine State.trRead_moves ?_ ?_
    | refine State.trRead_moves' ?_ (by with_reducible assumption) ?_
    | with_reducible refine State.updEng_moves ?_ ?_
    | with_reducible refine State.watch_moves ?_ ?_
    | with_reducible refine State.request_moves ?_ ?_
    | simp (disch := first | exact hp.out rfl | with_reducible exact fun _ => rfl) only [Moves.mk_iff]

theorem storeAt_moves (hm : F.mem = true) (hp : Sub 13616356301766662 F.parts) {t : State} {x1 : ℕ} {a : ℕ} {size : ℕ} {v : ℕ} {errs : ℕ} {sync : Bool} {move : Engine → Engine} (h : Moves F s₀ t) : Moves F s₀ (storeAt t x1 a size v errs sync move).st := by
  unfold storeAt
  repeat' first
    | with_reducible assumption
    | exact hp.bit rfl
    | exact hp.sub rfl
    | (extract_lets +onlyGivenNames t; refine Moves.cut (F := F) (s₀ := s₀) (t := t) ?_ (fun ht => ?_); rotate_left; (try clear_value t); rotate_left; subst t)
    | split
    | dsimp only [Eff.st_exc, Eff.st_done, Eff.st_frozen]
    | with_reducible refine State.updEng_moves ?_ ?_
    | with_reducible refine State.watch_moves ?_ ?_
    | with_reducible refine State.engStore_moves hm ?_ ?_
    | with_reducible refine State.useBank_moves ?_ ?_
    | with_reducible refine State.request_moves ?_ ?_
    | simp (disch := first | exact hp.out rfl | with_reducible exact fun _ => rfl) only [Moves.mk_iff]

theorem ldBody_moves (hp : Sub 13616356301766662 F.parts) {size : ℕ} {signed : Bool} {resv : Bool} {v : TramView} {x4 : Engine} {x5 : ℕ} {x6 : ℕ} {x7 : State} (h : Moves F s₀ x7) : Moves F s₀ (ldBody size signed resv v x4 x5 x6 x7).st := by
  unfold ldBody
  repeat' first
    | with_reducible assumption
    | exact hp.bit rfl
    | exact hp.sub rfl
    | with_reducible refine loadAt_moves ?_ ?_
    | split
    | dsimp only [Eff.st_exc, Eff.st_done, Eff.st_frozen]
    | with_reducible refine loadAt_moves ?_ ?_

theorem stBody_moves (hm : F.mem = true) (hp : Sub 13616356301766662 F.parts) {size : ℕ} {sync : Bool} {v : TramView} {x3 : Engine} {x4 : ℕ} {x5 : ℕ} {x6 : State} (h : Moves F s₀ x6) : Moves F s₀ (stBody size sync v x3 x4 x5 x6).st := by
  unfold stBody
  repeat' first
    | with_reducible assumption
    | exact hp.bit rfl
    | exact hp.sub rfl
    | with_reducible refine storeAt_moves hm ?_ ?_
    | split
    | dsimp only [Eff.st_exc, Eff.st_done, Eff.st_frozen]
    | with_reducible refine storeAt_moves hm ?_ ?_

theorem stcBody_moves (hm : F.mem = true) (hp : Sub 70373047533574 F.parts) {size : ℕ} {v : TramView} {x2 : Engine} {x3 : ℕ} {x4 : ℕ} {x5 : State} (h : Moves F s₀ x5) : Moves F s₀ (stcBody size v x2 x3 x4 x5).st := by
  unfold stcBody
  repeat' first
    | with_reducible assumption
    | exact hp.bit rfl
    | exact hp.sub rfl
    | (extract_lets +onlyGivenNames t; refine Moves.cut (F := F) (s₀ := s₀) (t := t) ?_ (fun ht => ?_); rotate_left; (try clear_value t); rotate_left; subst t)
    | (extract_lets +onlyGivenNames t; try clear_value t)
    | split
    | dsimp only [Eff.st_exc, Eff.st_done, Eff.st_frozen]
    | with_reducible refine State.updEng_moves ?_ ?_
    | with_reducible refine State.useBank_moves ?_ ?_
    | with_reducible refine State.engStore_moves hm ?_ ?_
    | with_reducible refine State.watch_moves ?_ ?_
    | simp (disch := first | exact hp.out rfl | with_reducible exact fun _ => rfl) only [Moves.mk_iff]

theorem execLdB_moves (hp : Sub 13616356301766662 F.parts) {engine : ℕ} {v : TramView} {s : State} {t : State} (e : execLdB engine v s = .next t) (h : Moves F s₀ s) : Moves F s₀ t := by
  unfold execLdB at e
  refine State.issue_moves (hp.sub rfl) (fun x w n u hu => ?_) e h
  repeat' first
    | with_reducible assumption
    | exact hp.bit rfl
    | exact hp.sub rfl
    | with_reducible refine ldBody_moves ?_ ?_
    | dsimp only [Eff.st_exc, Eff.st_done, Eff.st_frozen]
    | with_reducible refine ldBody_moves ?_ ?_
    | with_reducible refine State.updEng_moves ?_ ?_

theorem execLdBu_moves (hp : Sub 13616356301766662 F.parts) {engine : ℕ} {v : TramView} {s : State} {t : State} (e : execLdBu engine v s = .next t) (h : Moves F s₀ s) : Moves F s₀ t := by
  unfold execLdBu at e
  refine State.issue_moves (hp.sub rfl) (fun x w n u hu => ?_) e h
  repeat' first
    | with_reducible assumption
    | exact hp.bit rfl
    | exact hp.sub rfl
    | with_reducible refine ldBody_moves ?_ ?_
    | dsimp only [Eff.st_exc, Eff.st_done, Eff.st_frozen]
    | with_reducible refine ldBody_moves ?_ ?_
    | with_reducible refine State.updEng_moves ?_ ?_

theorem execLdH_moves (hp : Sub 13616356301766662 F.parts) {engine : ℕ} {v : TramView} {s : State} {t : State} (e : execLdH engine v s = .next t) (h : Moves F s₀ s) : Moves F s₀ t := by
  unfold execLdH at e
  refine State.issue_moves (hp.sub rfl) (fun x w n u hu => ?_) e h
  repeat' first
    | with_reducible assumption
    | exact hp.bit rfl
    | exact hp.sub rfl
    | with_reducible refine ldBody_moves ?_ ?_
    | dsimp only [Eff.st_exc, Eff.st_done, Eff.st_frozen]
    | with_reducible refine ldBody_moves ?_ ?_
    | with_reducible refine State.updEng_moves ?_ ?_

theorem execLdHu_moves (hp : Sub 13616356301766662 F.parts) {engine : ℕ} {v : TramView} {s : State} {t : State} (e : execLdHu engine v s = .next t) (h : Moves F s₀ s) : Moves F s₀ t := by
  unfold execLdHu at e
  refine State.issue_moves (hp.sub rfl) (fun x w n u hu => ?_) e h
  repeat' first
    | with_reducible assumption
    | exact hp.bit rfl
    | exact hp.sub rfl
    | with_reducible refine ldBody_moves ?_ ?_
    | dsimp only [Eff.st_exc, Eff.st_done, Eff.st_frozen]
    | with_reducible refine ldBody_moves ?_ ?_
    | with_reducible refine State.updEng_moves ?_ ?_

theorem execLdW_moves (hp : Sub 13616356301766662 F.parts) {engine : ℕ} {v : TramView} {s : State} {t : State} (e : execLdW engine v s = .next t) (h : Moves F s₀ s) : Moves F s₀ t := by
  unfold execLdW at e
  refine State.issue_moves (hp.sub rfl) (fun x w n u hu => ?_) e h
  repeat' first
    | with_reducible assumption
    | exact hp.bit rfl
    | exact hp.sub rfl
    | with_reducible refine ldBody_moves ?_ ?_
    | dsimp only [Eff.st_exc, Eff.st_done, Eff.st_frozen]
    | with_reducible refine ldBody_moves ?_ ?_
    | with_reducible refine State.updEng_moves ?_ ?_

theorem execLdP_moves (hp : Sub 13616356301766662 F.parts) {engine : ℕ} {v : TramView} {s : State} {t : State} (e : execLdP engine v s = .next t) (h : Moves F s₀ s) : Moves F s₀ t := by
  unfold execLdP at e
  refine State.issue_moves (hp.sub rfl) (fun x w n u hu => ?_) e h
  repeat' first
    | with_reducible assumption
    | exact hp.bit rfl
    | exact hp.sub rfl
    | with_reducible refine ldBody_moves ?_ ?_
    | dsimp only [Eff.st_exc, Eff.st_done, Eff.st_frozen]
    | with_reducible refine ldBody_moves ?_ ?_
    | with_reducible refine State.updEng_moves ?_ ?_

theorem execLdrW_moves (hp : Sub 13616356301766662 F.parts) {engine : ℕ} {v : TramView} {s : State} {t : State} (e : execLdrW engine v s = .next t) (h : Moves F s₀ s) : Moves F s₀ t := by
  unfold execLdrW at e
  refine State.issue_moves (hp.sub rfl) (fun x w n u hu => ?_) e h
  repeat' first
    | with_reducible assumption
    | exact hp.bit rfl
    | exact hp.sub rfl
    | with_reducible refine ldBody_moves ?_ ?_
    | dsimp only [Eff.st_exc, Eff.st_done, Eff.st_frozen]
    | with_reducible refine ldBody_moves ?_ ?_
    | with_reducible refine State.updEng_moves ?_ ?_

theorem execLdrP_moves (hp : Sub 13616356301766662 F.parts) {engine : ℕ} {v : TramView} {s : State} {t : State} (e : execLdrP engine v s = .next t) (h : Moves F s₀ s) : Moves F s₀ t := by
  unfold execLdrP at e
  refine State.issue_moves (hp.sub rfl) (fun x w n u hu => ?_) e h
  repeat' first
    | with_reducible assumption
    | exact hp.bit rfl
    | exact hp.sub rfl
    | with_reducible refine ldBody_moves ?_ ?_
    | dsimp only [Eff.st_exc, Eff.st_done, Eff.st_frozen]
    | with_reducible refine ldBody_moves ?_ ?_
    | with_reducible refine State.updEng_moves ?_ ?_

theorem execStB_moves (hm : F.mem = true) (hp : Sub 13616356301766662 F.parts) {engine : ℕ} {v : TramView} {s : State} {t : State} (e : execStB engine v s = .next t) (h : Moves F s₀ s) : Moves F s₀ t := by
  unfold execStB at e
  refine State.issue_moves (hp.sub rfl) (fun x w n u hu => ?_) e h
  repeat' first
    | with_reducible assumption
    | exact hp.bit rfl
    | exact hp.sub rfl
    | with_reducible refine stBody_moves hm ?_ ?_
    | dsimp only [Eff.st_exc, Eff.st_done, Eff.st_frozen]
    | with_reducible refine stBody_moves hm ?_ ?_
    | with_reducible refine State.updEng_moves ?_ ?_

theorem execStH_moves (hm : F.mem = true) (hp : Sub 13616356301766662 F.parts) {engine : ℕ} {v : TramView} {s : State} {t : State} (e : execStH engine v s = .next t) (h : Moves F s₀ s) : Moves F s₀ t := by
  unfold execStH at e
  refine State.issue_moves (hp.sub rfl) (fun x w n u hu => ?_) e h
  repeat' first
    | with_reducible assumption
    | exact hp.bit rfl
    | exact hp.sub rfl
    | with_reducible refine stBody_moves hm ?_ ?_
    | dsimp only [Eff.st_exc, Eff.st_done, Eff.st_frozen]
    | with_reducible refine stBody_moves hm ?_ ?_
    | with_reducible refine State.updEng_moves ?_ ?_

theorem execStW_moves (hm : F.mem = true) (hp : Sub 13616356301766662 F.parts) {engine : ℕ} {v : TramView} {s : State} {t : State} (e : execStW engine v s = .next t) (h : Moves F s₀ s) : Moves F s₀ t := by
  unfold execStW at e
  refine State.issue_moves (hp.sub rfl) (fun x w n u hu => ?_) e h
  repeat' first
    | with_reducible assumption
    | exact hp.bit rfl
    | exact hp.sub rfl
    | with_reducible refine stBody_moves hm ?_ ?_
    | dsimp only [Eff.st_exc, Eff.st_done, Eff.st_frozen]
    | with_reducible refine stBody_moves hm ?_ ?_
    | with_reducible refine State.updEng_moves ?_ ?_

theorem execStP_moves (hm : F.mem = true) (hp : Sub 13616356301766662 F.parts) {engine : ℕ} {v : TramView} {s : State} {t : State} (e : execStP engine v s = .next t) (h : Moves F s₀ s) : Moves F s₀ t := by
  unfold execStP at e
  refine State.issue_moves (hp.sub rfl) (fun x w n u hu => ?_) e h
  repeat' first
    | with_reducible assumption
    | exact hp.bit rfl
    | exact hp.sub rfl
    | with_reducible refine stBody_moves hm ?_ ?_
    | dsimp only [Eff.st_exc, Eff.st_done, Eff.st_frozen]
    | with_reducible refine stBody_moves hm ?_ ?_
    | with_reducible refine State.updEng_moves ?_ ?_

theorem execStsW_moves (hm : F.mem = true) (hp : Sub 13616356301766662 F.parts) {engine : ℕ} {v : TramView} {s : State} {t : State} (e : execStsW engine v s = .next t) (h : Moves F s₀ s) : Moves F s₀ t := by
  unfold execStsW at e
  refine State.issue_moves (hp.sub rfl) (fun x w n u hu => ?_) e h
  repeat' first
    | with_reducible assumption
    | exact hp.bit rfl
    | exact hp.sub rfl
    | with_reducible refine stBody_moves hm ?_ ?_
    | dsimp only [Eff.st_exc, Eff.st_done, Eff.st_frozen]
    | with_reducible refine stBody_moves hm ?_ ?_
    | with_reducible refine State.updEng_moves ?_ ?_

theorem execStsP_moves (hm : F.mem = true) (hp : Sub 13616356301766662 F.parts) {engine : ℕ} {v : TramView} {s : State} {t : State} (e : execStsP engine v s = .next t) (h : Moves F s₀ s) : Moves F s₀ t := by
  unfold execStsP at e
  refine State.issue_moves (hp.sub rfl) (fun x w n u hu => ?_) e h
  repeat' first
    | with_reducible assumption
    | exact hp.bit rfl
    | exact hp.sub rfl
    | with_reducible refine stBody_moves hm ?_ ?_
    | dsimp only [Eff.st_exc, Eff.st_done, Eff.st_frozen]
    | with_reducible refine stBody_moves hm ?_ ?_
    | with_reducible refine State.updEng_moves ?_ ?_

theorem execStcW_moves (hm : F.mem = true) (hp : Sub 70373047533574 F.parts) {engine : ℕ} {v : TramView} {s : State} {t : State} (e : execStcW engine v s = .next t) (h : Moves F s₀ s) : Moves F s₀ t := by
  unfold execStcW at e
  refine State.issue_moves (hp.sub rfl) (fun x w n u hu => ?_) e h
  repeat' first
    | with_reducible assumption
    | exact hp.bit rfl
    | exact hp.sub rfl
    | with_reducible refine stcBody_moves hm ?_ ?_
    | dsimp only [Eff.st_exc, Eff.st_done, Eff.st_frozen]
    | with_reducible refine stcBody_moves hm ?_ ?_
    | with_reducible refine State.updEng_moves ?_ ?_

theorem execStcP_moves (hm : F.mem = true) (hp : Sub 70373047533574 F.parts) {engine : ℕ} {v : TramView} {s : State} {t : State} (e : execStcP engine v s = .next t) (h : Moves F s₀ s) : Moves F s₀ t := by
  unfold execStcP at e
  refine State.issue_moves (hp.sub rfl) (fun x w n u hu => ?_) e h
  repeat' first
    | with_reducible assumption
    | exact hp.bit rfl
    | exact hp.sub rfl
    | with_reducible refine stcBody_moves hm ?_ ?_
    | dsimp only [Eff.st_exc, Eff.st_done, Eff.st_frozen]
    | with_reducible refine stcBody_moves hm ?_ ?_
    | with_reducible refine State.updEng_moves ?_ ?_

theorem execLdk_moves (hp : Sub 13616356301766662 F.parts) {engine : ℕ} {v : TramView} {s : State} {t : State} (e : execLdk engine v s = .next t) (h : Moves F s₀ s) : Moves F s₀ t := by
  unfold execLdk at e
  refine State.issue_moves (hp.sub rfl) (fun x w n u hu => ?_) e h
  repeat' first
    | with_reducible assumption
    | exact hp.bit rfl
    | exact hp.sub rfl
    | with_reducible refine loadAt_moves ?_ ?_
    | split
    | dsimp only [Eff.st_exc, Eff.st_done, Eff.st_frozen]
    | with_reducible refine loadAt_moves ?_ ?_
    | with_reducible refine State.updEng_moves ?_ ?_

theorem execStk_moves (hm : F.mem = true) (hp : Sub 13616356301766662 F.parts) {engine : ℕ} {v : TramView} {s : State} {t : State} (e : execStk engine v s = .next t) (h : Moves F s₀ s) : Moves F s₀ t := by
  unfold execStk at e
  refine State.issue_moves (hp.sub rfl) (fun x w n u hu => ?_) e h
  repeat' first
    | with_reducible assumption
    | exact hp.bit rfl
    | exact hp.sub rfl
    | with_reducible refine storeAt_moves hm ?_ ?_
    | split
    | dsimp only [Eff.st_exc, Eff.st_done, Eff.st_frozen]
    | with_reducible refine storeAt_moves hm ?_ ?_
    | with_reducible refine State.updEng_moves ?_ ?_

theorem pushBody_moves (hp : Sub 13616356301766660 F.parts) {off : ℕ} {x1 : Engine} {x2 : ℕ} {x3 : ℕ} {x4 : State} (h : Moves F s₀ x4) : Moves F s₀ (pushBody off x1 x2 x3 x4).st := by
  unfold pushBody
  repeat' first
    | with_reducible assumption
    | exact hp.bit rfl
    | exact hp.sub rfl
    | (extract_lets +onlyGivenNames t; refine Moves.cut (F := F) (s₀ := s₀) (t := t) ?_ (fun ht => ?_); rotate_left; (try clear_value t); rotate_left; subst t)
    | (extract_lets +onlyGivenNames t; try clear_value t)
    | split
    | dsimp only [Eff.st_exc, Eff.st_done, Eff.st_frozen]
    | with_reducible refine State.request_moves ?_ ?_
    | with_reducible refine State.updEng_moves ?_ ?_
    | simp (disch := first | exact hp.out rfl | with_reducible exact fun _ => rfl) only [Moves.mk_iff]

theorem popBody_moves (hp : Sub 13616356301766660 F.parts) {head : Bool} {x1 : Engine} {x2 : ℕ} {x3 : ℕ} {x4 : State} (h : Moves F s₀ x4) : Moves F s₀ (popBody head x1 x2 x3 x4).st := by
  unfold popBody
  repeat' first
    | with_reducible assumption
    | exact hp.bit rfl
    | exact hp.sub rfl
    | (extract_lets +onlyGivenNames t; refine Moves.cut (F := F) (s₀ := s₀) (t := t) ?_ (fun ht => ?_); rotate_left; (try clear_value t); rotate_left; subst t)
    | (extract_lets +onlyGivenNames t; try clear_value t)
    | split
    | dsimp only [Eff.st_exc, Eff.st_done, Eff.st_frozen]
    | with_reducible refine State.request_moves ?_ ?_
    | with_reducible refine State.updEng_moves ?_ ?_
    | simp (disch := first | exact hp.out rfl | with_reducible exact fun _ => rfl) only [Moves.mk_iff]

theorem execQpush_moves (hp : Sub 13616356301766662 F.parts) {engine : ℕ} {v : TramView} {s : State} {t : State} (e : execQpush engine v s = .next t) (h : Moves F s₀ s) : Moves F s₀ t := by
  unfold execQpush at e
  refine State.issue_moves (hp.sub rfl) (fun x w n u hu => ?_) e h
  repeat' first
    | with_reducible assumption
    | exact hp.bit rfl
    | exact hp.sub rfl
    | with_reducible refine pushBody_moves ?_ ?_
    | dsimp only [Eff.st_exc, Eff.st_done, Eff.st_frozen]
    | with_reducible refine pushBody_moves ?_ ?_
    | with_reducible refine State.updEng_moves ?_ ?_

theorem execQpushl_moves (hp : Sub 13616356301766662 F.parts) {engine : ℕ} {v : TramView} {s : State} {t : State} (e : execQpushl engine v s = .next t) (h : Moves F s₀ s) : Moves F s₀ t := by
  unfold execQpushl at e
  refine State.issue_moves (hp.sub rfl) (fun x w n u hu => ?_) e h
  repeat' first
    | with_reducible assumption
    | exact hp.bit rfl
    | exact hp.sub rfl
    | with_reducible refine pushBody_moves ?_ ?_
    | dsimp only [Eff.st_exc, Eff.st_done, Eff.st_frozen]
    | with_reducible refine pushBody_moves ?_ ?_
    | with_reducible refine State.updEng_moves ?_ ?_

theorem execQpop_moves (hp : Sub 13616356301766662 F.parts) {engine : ℕ} {v : TramView} {s : State} {t : State} (e : execQpop engine v s = .next t) (h : Moves F s₀ s) : Moves F s₀ t := by
  unfold execQpop at e
  refine State.issue_moves (hp.sub rfl) (fun x w n u hu => ?_) e h
  repeat' first
    | with_reducible assumption
    | exact hp.bit rfl
    | exact hp.sub rfl
    | with_reducible refine popBody_moves ?_ ?_
    | dsimp only [Eff.st_exc, Eff.st_done, Eff.st_frozen]
    | with_reducible refine popBody_moves ?_ ?_
    | with_reducible refine State.updEng_moves ?_ ?_

theorem execQpoph_moves (hp : Sub 13616356301766662 F.parts) {engine : ℕ} {v : TramView} {s : State} {t : State} (e : execQpoph engine v s = .next t) (h : Moves F s₀ s) : Moves F s₀ t := by
  unfold execQpoph at e
  refine State.issue_moves (hp.sub rfl) (fun x w n u hu => ?_) e h
  repeat' first
    | with_reducible assumption
    | exact hp.bit rfl
    | exact hp.sub rfl
    | with_reducible refine popBody_moves ?_ ?_
    | dsimp only [Eff.st_exc, Eff.st_done, Eff.st_frozen]
    | with_reducible refine popBody_moves ?_ ?_
    | with_reducible refine State.updEng_moves ?_ ?_

/-! ### Trace -/

theorem execStim_moves (hp : Sub 633323005411334 F.parts) {engine : ℕ} {ticks : ℕ} {v : TramView} {s : State} {t : State} (e : execStim engine ticks v s = .next t) (h : Moves F s₀ s) : Moves F s₀ t := by
  unfold execStim at e
  refine State.issue_moves (hp.sub rfl) (fun x w n u hu => ?_) e h
  repeat' first
    | with_reducible assumption
    | exact hp.bit rfl
    | exact hp.sub rfl
    | (extract_lets +onlyGivenNames t; refine Moves.cut (F := F) (s₀ := s₀) (t := t) ?_ (fun ht => ?_); rotate_left; (try clear_value t); rotate_left; subst t)
    | (extract_lets +onlyGivenNames t; try clear_value t)
    | split
    | dsimp only [Eff.st_exc, Eff.st_done, Eff.st_frozen]
    | with_reducible refine State.traceStim_moves ?_ ?_
    | with_reducible refine State.tick_moves ?_ ?_
    | with_reducible refine State.updEng_moves ?_ ?_

theorem execTraceEnable_moves (hp : Sub 562949957877760 F.parts) {v : ℕ} {ticks : ℕ} {s : State} {t : State} (e : execTraceEnable v ticks s = .next t) (h : Moves F s₀ s) : Moves F s₀ t := by
  unfold execTraceEnable at e
  try dsimp only at e
  cases Host.Outcome.next.inj e
  repeat' first
    | with_reducible assumption
    | exact hp.bit rfl
    | exact hp.sub rfl
    | with_reducible refine State.writeTraceCtrl_moves ?_ ?_
    | with_reducible refine State.tick_moves ?_ ?_

theorem execTraceSync_moves (hp : Sub 562949957877760 F.parts) {ticks : ℕ} {s : State} {t : State} (e : execTraceSync ticks s = .next t) (h : Moves F s₀ s) : Moves F s₀ t := by
  unfold execTraceSync at e
  try dsimp only at e
  cases Host.Outcome.next.inj e
  repeat' first
    | with_reducible assumption
    | exact hp.bit rfl
    | exact hp.sub rfl
    | with_reducible refine State.tick_moves ?_ ?_
    | with_reducible refine State.traceSyncNow_moves ?_ ?_
    | (extract_lets +onlyGivenNames t; refine Moves.cut (F := F) (s₀ := s₀) (t := t) ?_ (fun ht => ?_); rotate_left; (try clear_value t); rotate_left; subst t)
    | split

theorem execTraceLineTimeout_moves (hm : F.mem = true) (hp : Sub 9572210796680080 F.parts) {s : State} {t : State} (e : execTraceLineTimeout s = .next t) (h : Moves F s₀ s) : Moves F s₀ t := by
  unfold execTraceLineTimeout at e
  try dsimp only at e
  cases Host.Outcome.next.inj e
  repeat' first
    | with_reducible assumption
    | exact hp.bit rfl
    | exact hp.sub rfl
    | with_reducible refine State.traceFlush_moves hm ?_ ?_

theorem execTraceFunnel_moves (hp : Sub 562949957877760 F.parts) {ticks : ℕ} {s : State} {t : State} (e : execTraceFunnel ticks s = .next t) (h : Moves F s₀ s) : Moves F s₀ t := by
  unfold execTraceFunnel at e
  try dsimp only at e
  cases Host.Outcome.next.inj e
  repeat' first
    | with_reducible assumption
    | exact hp.bit rfl
    | exact hp.sub rfl
    | with_reducible refine State.funnel_moves ?_ ?_
    | with_reducible refine State.tick_moves ?_ ?_

theorem execTraceBufferOutput_moves (hm : F.mem = true) (hp : Sub 14075810424050580 F.parts) {s : State} {t : State} (e : execTraceBufferOutput s = .next t) (h : Moves F s₀ s) : Moves F s₀ t := by
  unfold execTraceBufferOutput at e
  try dsimp only at e
  cases Host.Outcome.next.inj e
  repeat' first
    | with_reducible assumption
    | exact hp.bit rfl
    | exact hp.sub rfl
    | with_reducible refine State.traceOut_moves hm ?_ ?_

end Sys2Proof.Machine
end

