-- ==== Sys2Proof/Laws/MovesH.lean ====
section
/-! SUPPORT. What each operation and meaning of these files may do to the state as a whole (see Moves.lean):
TramAlu, TramSys, Tick. -/

namespace Sys2Proof.Machine

set_option linter.unusedTactic false
set_option linter.unreachableTactic false
set_option linter.unusedVariables false
set_option linter.tactic.unusedName false

variable {F : Foot} {s₀ : State}

/-! ### TramAlu -/

theorem aluBody_moves (hp : Sub 70368744177664 F.parts) {f : Word → Word → ℕ → Word} {x1 : Engine} {x2 : ℕ} {x3 : ℕ} {x4 : State} (h : Moves F s₀ x4) : Moves F s₀ (aluBody f x1 x2 x3 x4).st := by
  unfold aluBody
  repeat' first
    | with_reducible assumption
    | exact hp.bit rfl
    | exact hp.sub rfl
    | dsimp only [Eff.st_exc, Eff.st_done, Eff.st_frozen]
    | with_reducible refine State.updEng_moves ?_ ?_

theorem mulBody_moves (hp : Sub 70368744177664 F.parts) {f : Word → Word → Word} {x1 : Engine} {x2 : ℕ} {x3 : ℕ} {x4 : State} (h : Moves F s₀ x4) : Moves F s₀ (mulBody f x1 x2 x3 x4).st := by
  unfold mulBody
  repeat' first
    | with_reducible assumption
    | exact hp.bit rfl
    | exact hp.sub rfl
    | dsimp only [Eff.st_exc, Eff.st_done, Eff.st_frozen]
    | with_reducible refine State.updEng_moves ?_ ?_

theorem satBody_moves (hp : Sub 70368744177664 F.parts) {late : Bool} {f : Word → Word → ℤ} {x2 : Engine} {x3 : ℕ} {x4 : ℕ} {x5 : State} (h : Moves F s₀ x5) : Moves F s₀ (satBody late f x2 x3 x4 x5).st := by
  unfold satBody
  repeat' first
    | with_reducible assumption
    | exact hp.bit rfl
    | exact hp.sub rfl
    | (extract_lets +onlyGivenNames t; refine Moves.cut (F := F) (s₀ := s₀) (t := t) ?_ (fun ht => ?_); rotate_left; (try clear_value t); rotate_left; subst t)
    | (extract_lets +onlyGivenNames t; try clear_value t)
    | split
    | dsimp only [Eff.st_exc, Eff.st_done, Eff.st_frozen]
    | with_reducible refine State.updEng_moves ?_ ?_

theorem execAdd_moves (hp : Sub 70373047533574 F.parts) {engine : ℕ} {v : TramView} {s : State} {t : State} (e : execAdd engine v s = .next t) (h : Moves F s₀ s) : Moves F s₀ t := by
  unfold execAdd at e
  refine State.issue_moves (hp.sub rfl) (fun x w n u hu => ?_) e h
  repeat' first
    | with_reducible assumption
    | exact hp.bit rfl
    | exact hp.sub rfl
    | with_reducible refine satBody_moves ?_ ?_
    | dsimp only [Eff.st_exc, Eff.st_done, Eff.st_frozen]
    | with_reducible refine satBody_moves ?_ ?_
    | with_reducible refine State.updEng_moves ?_ ?_

theorem execSub_moves (hp : Sub 70373047533574 F.parts) {engine : ℕ} {v : TramView} {s : State} {t : State} (e : execSub engine v s = .next t) (h : Moves F s₀ s) : Moves F s₀ t := by
  unfold execSub at e
  refine State.issue_moves (hp.sub rfl) (fun x w n u hu => ?_) e h
  repeat' first
    | with_reducible assumption
    | exact hp.bit rfl
    | exact hp.sub rfl
    | with_reducible refine satBody_moves ?_ ?_
    | dsimp only [Eff.st_exc, Eff.st_done, Eff.st_frozen]
    | with_reducible refine satBody_moves ?_ ?_
    | with_reducible refine State.updEng_moves ?_ ?_

theorem execAnd_moves (hp : Sub 70373047533574 F.parts) {engine : ℕ} {v : TramView} {s : State} {t : State} (e : execAnd engine v s = .next t) (h : Moves F s₀ s) : Moves F s₀ t := by
  unfold execAnd at e
  refine State.issue_moves (hp.sub rfl) (fun x w n u hu => ?_) e h
  repeat' first
    | with_reducible assumption
    | exact hp.bit rfl
    | exact hp.sub rfl
    | with_reducible refine aluBody_moves ?_ ?_
    | dsimp only [Eff.st_exc, Eff.st_done, Eff.st_frozen]
    | with_reducible refine aluBody_moves ?_ ?_
    | with_reducible refine State.updEng_moves ?_ ?_

theorem execOr_moves (hp : Sub 70373047533574 F.parts) {engine : ℕ} {v : TramView} {s : State} {t : State} (e : execOr engine v s = .next t) (h : Moves F s₀ s) : Moves F s₀ t := by
  unfold execOr at e
  refine State.issue_moves (hp.sub rfl) (fun x w n u hu => ?_) e h
  repeat' first
    | with_reducible assumption
    | exact hp.bit rfl
    | exact hp.sub rfl
    | with_reducible refine aluBody_moves ?_ ?_
    | dsimp only [Eff.st_exc, Eff.st_done, Eff.st_frozen]
    | with_reducible refine aluBody_moves ?_ ?_
    | with_reducible refine State.updEng_moves ?_ ?_

theorem execXor_moves (hp : Sub 70373047533574 F.parts) {engine : ℕ} {v : TramView} {s : State} {t : State} (e : execXor engine v s = .next t) (h : Moves F s₀ s) : Moves F s₀ t := by
  unfold execXor at e
  refine State.issue_moves (hp.sub rfl) (fun x w n u hu => ?_) e h
  repeat' first
    | with_reducible assumption
    | exact hp.bit rfl
    | exact hp.sub rfl
    | with_reducible refine aluBody_moves ?_ ?_
    | dsimp only [Eff.st_exc, Eff.st_done, Eff.st_frozen]
    | with_reducible refine aluBody_moves ?_ ?_
    | with_reducible refine State.updEng_moves ?_ ?_

theorem execAndn_moves (hp : Sub 70373047533574 F.parts) {engine : ℕ} {v : TramView} {s : State} {t : State} (e : execAndn engine v s = .next t) (h : Moves F s₀ s) : Moves F s₀ t := by
  unfold execAndn at e
  refine State.issue_moves (hp.sub rfl) (fun x w n u hu => ?_) e h
  repeat' first
    | with_reducible assumption
    | exact hp.bit rfl
    | exact hp.sub rfl
    | with_reducible refine aluBody_moves ?_ ?_
    | dsimp only [Eff.st_exc, Eff.st_done, Eff.st_frozen]
    | with_reducible refine aluBody_moves ?_ ?_
    | with_reducible refine State.updEng_moves ?_ ?_

theorem execCmplt_moves (hp : Sub 70373047533574 F.parts) {engine : ℕ} {v : TramView} {s : State} {t : State} (e : execCmplt engine v s = .next t) (h : Moves F s₀ s) : Moves F s₀ t := by
  unfold execCmplt at e
  refine State.issue_moves (hp.sub rfl) (fun x w n u hu => ?_) e h
  repeat' first
    | with_reducible assumption
    | exact hp.bit rfl
    | exact hp.sub rfl
    | with_reducible refine aluBody_moves ?_ ?_
    | dsimp only [Eff.st_exc, Eff.st_done, Eff.st_frozen]
    | with_reducible refine aluBody_moves ?_ ?_
    | with_reducible refine State.updEng_moves ?_ ?_

theorem execCmpltu_moves (hp : Sub 70373047533574 F.parts) {engine : ℕ} {v : TramView} {s : State} {t : State} (e : execCmpltu engine v s = .next t) (h : Moves F s₀ s) : Moves F s₀ t := by
  unfold execCmpltu at e
  refine State.issue_moves (hp.sub rfl) (fun x w n u hu => ?_) e h
  repeat' first
    | with_reducible assumption
    | exact hp.bit rfl
    | exact hp.sub rfl
    | with_reducible refine aluBody_moves ?_ ?_
    | dsimp only [Eff.st_exc, Eff.st_done, Eff.st_frozen]
    | with_reducible refine aluBody_moves ?_ ?_
    | with_reducible refine State.updEng_moves ?_ ?_

theorem execShl_moves (hp : Sub 70373047533574 F.parts) {engine : ℕ} {v : TramView} {s : State} {t : State} (e : execShl engine v s = .next t) (h : Moves F s₀ s) : Moves F s₀ t := by
  unfold execShl at e
  refine State.issue_moves (hp.sub rfl) (fun x w n u hu => ?_) e h
  repeat' first
    | with_reducible assumption
    | exact hp.bit rfl
    | exact hp.sub rfl
    | with_reducible refine aluBody_moves ?_ ?_
    | dsimp only [Eff.st_exc, Eff.st_done, Eff.st_frozen]
    | with_reducible refine aluBody_moves ?_ ?_
    | with_reducible refine State.updEng_moves ?_ ?_

theorem execShr_moves (hp : Sub 70373047533574 F.parts) {engine : ℕ} {v : TramView} {s : State} {t : State} (e : execShr engine v s = .next t) (h : Moves F s₀ s) : Moves F s₀ t := by
  unfold execShr at e
  refine State.issue_moves (hp.sub rfl) (fun x w n u hu => ?_) e h
  repeat' first
    | with_reducible assumption
    | exact hp.bit rfl
    | exact hp.sub rfl
    | with_reducible refine aluBody_moves ?_ ?_
    | dsimp only [Eff.st_exc, Eff.st_done, Eff.st_frozen]
    | with_reducible refine aluBody_moves ?_ ?_
    | with_reducible refine State.updEng_moves ?_ ?_

theorem execSar_moves (hp : Sub 70373047533574 F.parts) {engine : ℕ} {v : TramView} {s : State} {t : State} (e : execSar engine v s = .next t) (h : Moves F s₀ s) : Moves F s₀ t := by
  unfold execSar at e
  refine State.issue_moves (hp.sub rfl) (fun x w n u hu => ?_) e h
  repeat' first
    | with_reducible assumption
    | exact hp.bit rfl
    | exact hp.sub rfl
    | with_reducible refine aluBody_moves ?_ ?_
    | dsimp only [Eff.st_exc, Eff.st_done, Eff.st_frozen]
    | with_reducible refine aluBody_moves ?_ ?_
    | with_reducible refine State.updEng_moves ?_ ?_

theorem execShli_moves (hp : Sub 70373047533574 F.parts) {engine : ℕ} {v : TramView} {s : State} {t : State} (e : execShli engine v s = .next t) (h : Moves F s₀ s) : Moves F s₀ t := by
  unfold execShli at e
  refine State.issue_moves (hp.sub rfl) (fun x w n u hu => ?_) e h
  repeat' first
    | with_reducible assumption
    | exact hp.bit rfl
    | exact hp.sub rfl
    | with_reducible refine aluBody_moves ?_ ?_
    | dsimp only [Eff.st_exc, Eff.st_done, Eff.st_frozen]
    | with_reducible refine aluBody_moves ?_ ?_
    | with_reducible refine State.updEng_moves ?_ ?_

theorem execShri_moves (hp : Sub 70373047533574 F.parts) {engine : ℕ} {v : TramView} {s : State} {t : State} (e : execShri engine v s = .next t) (h : Moves F s₀ s) : Moves F s₀ t := by
  unfold execShri at e
  refine State.issue_moves (hp.sub rfl) (fun x w n u hu => ?_) e h
  repeat' first
    | with_reducible assumption
    | exact hp.bit rfl
    | exact hp.sub rfl
    | with_reducible refine aluBody_moves ?_ ?_
    | dsimp only [Eff.st_exc, Eff.st_done, Eff.st_frozen]
    | with_reducible refine aluBody_moves ?_ ?_
    | with_reducible refine State.updEng_moves ?_ ?_

theorem execSari_moves (hp : Sub 70373047533574 F.parts) {engine : ℕ} {v : TramView} {s : State} {t : State} (e : execSari engine v s = .next t) (h : Moves F s₀ s) : Moves F s₀ t := by
  unfold execSari at e
  refine State.issue_moves (hp.sub rfl) (fun x w n u hu => ?_) e h
  repeat' first
    | with_reducible assumption
    | exact hp.bit rfl
    | exact hp.sub rfl
    | with_reducible refine aluBody_moves ?_ ?_
    | dsimp only [Eff.st_exc, Eff.st_done, Eff.st_frozen]
    | with_reducible refine aluBody_moves ?_ ?_
    | with_reducible refine State.updEng_moves ?_ ?_

theorem execMul_moves (hp : Sub 70373047533574 F.parts) {engine : ℕ} {v : TramView} {s : State} {t : State} (e : execMul engine v s = .next t) (h : Moves F s₀ s) : Moves F s₀ t := by
  unfold execMul at e
  refine State.issue_moves (hp.sub rfl) (fun x w n u hu => ?_) e h
  repeat' first
    | with_reducible assumption
    | exact hp.bit rfl
    | exact hp.sub rfl
    | with_reducible refine satBody_moves ?_ ?_
    | dsimp only [Eff.st_exc, Eff.st_done, Eff.st_frozen]
    | with_reducible refine satBody_moves ?_ ?_
    | with_reducible refine State.updEng_moves ?_ ?_

theorem execMulhs_moves (hp : Sub 70373047533574 F.parts) {engine : ℕ} {v : TramView} {s : State} {t : State} (e : execMulhs engine v s = .next t) (h : Moves F s₀ s) : Moves F s₀ t := by
  unfold execMulhs at e
  refine State.issue_moves (hp.sub rfl) (fun x w n u hu => ?_) e h
  repeat' first
    | with_reducible assumption
    | exact hp.bit rfl
    | exact hp.sub rfl
    | with_reducible refine mulBody_moves ?_ ?_
    | dsimp only [Eff.st_exc, Eff.st_done, Eff.st_frozen]
    | with_reducible refine mulBody_moves ?_ ?_
    | with_reducible refine State.updEng_moves ?_ ?_

theorem execMulhu_moves (hp : Sub 70373047533574 F.parts) {engine : ℕ} {v : TramView} {s : State} {t : State} (e : execMulhu engine v s = .next t) (h : Moves F s₀ s) : Moves F s₀ t := by
  unfold execMulhu at e
  refine State.issue_moves (hp.sub rfl) (fun x w n u hu => ?_) e h
  repeat' first
    | with_reducible assumption
    | exact hp.bit rfl
    | exact hp.sub rfl
    | with_reducible refine mulBody_moves ?_ ?_
    | dsimp only [Eff.st_exc, Eff.st_done, Eff.st_frozen]
    | with_reducible refine mulBody_moves ?_ ?_
    | with_reducible refine State.updEng_moves ?_ ?_

theorem execMin_moves (hp : Sub 70373047533574 F.parts) {engine : ℕ} {v : TramView} {s : State} {t : State} (e : execMin engine v s = .next t) (h : Moves F s₀ s) : Moves F s₀ t := by
  unfold execMin at e
  refine State.issue_moves (hp.sub rfl) (fun x w n u hu => ?_) e h
  repeat' first
    | with_reducible assumption
    | exact hp.bit rfl
    | exact hp.sub rfl
    | with_reducible refine aluBody_moves ?_ ?_
    | split
    | dsimp only [Eff.st_exc, Eff.st_done, Eff.st_frozen]
    | with_reducible refine aluBody_moves ?_ ?_
    | with_reducible refine State.updEng_moves ?_ ?_

theorem execMax_moves (hp : Sub 70373047533574 F.parts) {engine : ℕ} {v : TramView} {s : State} {t : State} (e : execMax engine v s = .next t) (h : Moves F s₀ s) : Moves F s₀ t := by
  unfold execMax at e
  refine State.issue_moves (hp.sub rfl) (fun x w n u hu => ?_) e h
  repeat' first
    | with_reducible assumption
    | exact hp.bit rfl
    | exact hp.sub rfl
    | with_reducible refine aluBody_moves ?_ ?_
    | split
    | dsimp only [Eff.st_exc, Eff.st_done, Eff.st_frozen]
    | with_reducible refine aluBody_moves ?_ ?_
    | with_reducible refine State.updEng_moves ?_ ?_

theorem execAbs_moves (hp : Sub 70373047533574 F.parts) {engine : ℕ} {v : TramView} {s : State} {t : State} (e : execAbs engine v s = .next t) (h : Moves F s₀ s) : Moves F s₀ t := by
  unfold execAbs at e
  refine State.issue_moves (hp.sub rfl) (fun x w n u hu => ?_) e h
  repeat' first
    | with_reducible assumption
    | exact hp.bit rfl
    | exact hp.sub rfl
    | with_reducible refine satBody_moves ?_ ?_
    | dsimp only [Eff.st_exc, Eff.st_done, Eff.st_frozen]
    | with_reducible refine satBody_moves ?_ ?_
    | with_reducible refine State.updEng_moves ?_ ?_

theorem execClz_moves (hp : Sub 70373047533574 F.parts) {engine : ℕ} {v : TramView} {s : State} {t : State} (e : execClz engine v s = .next t) (h : Moves F s₀ s) : Moves F s₀ t := by
  unfold execClz at e
  refine State.issue_moves (hp.sub rfl) (fun x w n u hu => ?_) e h
  repeat' first
    | with_reducible assumption
    | exact hp.bit rfl
    | exact hp.sub rfl
    | with_reducible refine aluBody_moves ?_ ?_
    | dsimp only [Eff.st_exc, Eff.st_done, Eff.st_frozen]
    | with_reducible refine aluBody_moves ?_ ?_
    | with_reducible refine State.updEng_moves ?_ ?_

theorem immBody_moves (hp : Sub 70368744177664 F.parts) {f : Word → ℕ → Word} {x1 : Engine} {x2 : ℕ} {x3 : ℕ} {x4 : State} (h : Moves F s₀ x4) : Moves F s₀ (immBody f x1 x2 x3 x4).st := by
  unfold immBody
  repeat' first
    | with_reducible assumption
    | exact hp.bit rfl
    | exact hp.sub rfl
    | dsimp only [Eff.st_exc, Eff.st_done, Eff.st_frozen]
    | with_reducible refine State.updEng_moves ?_ ?_

theorem execAddc_moves (hp : Sub 70373047533574 F.parts) {engine : ℕ} {v : TramView} {s : State} {t : State} (e : execAddc engine v s = .next t) (h : Moves F s₀ s) : Moves F s₀ t := by
  unfold execAddc at e
  refine State.issue_moves (hp.sub rfl) (fun x w n u hu => ?_) e h
  repeat' first
    | with_reducible assumption
    | exact hp.bit rfl
    | exact hp.sub rfl
    | with_reducible refine immBody_moves ?_ ?_
    | dsimp only [Eff.st_exc, Eff.st_done, Eff.st_frozen]
    | with_reducible refine immBody_moves ?_ ?_
    | with_reducible refine State.updEng_moves ?_ ?_

theorem execCmpltc_moves (hp : Sub 70373047533574 F.parts) {engine : ℕ} {v : TramView} {s : State} {t : State} (e : execCmpltc engine v s = .next t) (h : Moves F s₀ s) : Moves F s₀ t := by
  unfold execCmpltc at e
  refine State.issue_moves (hp.sub rfl) (fun x w n u hu => ?_) e h
  repeat' first
    | with_reducible assumption
    | exact hp.bit rfl
    | exact hp.sub rfl
    | with_reducible refine immBody_moves ?_ ?_
    | dsimp only [Eff.st_exc, Eff.st_done, Eff.st_frozen]
    | with_reducible refine immBody_moves ?_ ?_
    | with_reducible refine State.updEng_moves ?_ ?_

theorem execCmpltuc_moves (hp : Sub 70373047533574 F.parts) {engine : ℕ} {v : TramView} {s : State} {t : State} (e : execCmpltuc engine v s = .next t) (h : Moves F s₀ s) : Moves F s₀ t := by
  unfold execCmpltuc at e
  refine State.issue_moves (hp.sub rfl) (fun x w n u hu => ?_) e h
  repeat' first
    | with_reducible assumption
    | exact hp.bit rfl
    | exact hp.sub rfl
    | with_reducible refine immBody_moves ?_ ?_
    | dsimp only [Eff.st_exc, Eff.st_done, Eff.st_frozen]
    | with_reducible refine immBody_moves ?_ ?_
    | with_reducible refine State.updEng_moves ?_ ?_

theorem execAndc_moves (hp : Sub 70373047533574 F.parts) {engine : ℕ} {v : TramView} {s : State} {t : State} (e : execAndc engine v s = .next t) (h : Moves F s₀ s) : Moves F s₀ t := by
  unfold execAndc at e
  refine State.issue_moves (hp.sub rfl) (fun x w n u hu => ?_) e h
  repeat' first
    | with_reducible assumption
    | exact hp.bit rfl
    | exact hp.sub rfl
    | with_reducible refine immBody_moves ?_ ?_
    | dsimp only [Eff.st_exc, Eff.st_done, Eff.st_frozen]
    | with_reducible refine immBody_moves ?_ ?_
    | with_reducible refine State.updEng_moves ?_ ?_

theorem execOrc_moves (hp : Sub 70373047533574 F.parts) {engine : ℕ} {v : TramView} {s : State} {t : State} (e : execOrc engine v s = .next t) (h : Moves F s₀ s) : Moves F s₀ t := by
  unfold execOrc at e
  refine State.issue_moves (hp.sub rfl) (fun x w n u hu => ?_) e h
  repeat' first
    | with_reducible assumption
    | exact hp.bit rfl
    | exact hp.sub rfl
    | with_reducible refine immBody_moves ?_ ?_
    | dsimp only [Eff.st_exc, Eff.st_done, Eff.st_frozen]
    | with_reducible refine immBody_moves ?_ ?_
    | with_reducible refine State.updEng_moves ?_ ?_

theorem execXorc_moves (hp : Sub 70373047533574 F.parts) {engine : ℕ} {v : TramView} {s : State} {t : State} (e : execXorc engine v s = .next t) (h : Moves F s₀ s) : Moves F s₀ t := by
  unfold execXorc at e
  refine State.issue_moves (hp.sub rfl) (fun x w n u hu => ?_) e h
  repeat' first
    | with_reducible assumption
    | exact hp.bit rfl
    | exact hp.sub rfl
    | with_reducible refine immBody_moves ?_ ?_
    | dsimp only [Eff.st_exc, Eff.st_done, Eff.st_frozen]
    | with_reducible refine immBody_moves ?_ ?_
    | with_reducible refine State.updEng_moves ?_ ?_

theorem execMovh_moves (hp : Sub 70373047533574 F.parts) {engine : ℕ} {v : TramView} {s : State} {t : State} (e : execMovh engine v s = .next t) (h : Moves F s₀ s) : Moves F s₀ t := by
  unfold execMovh at e
  refine State.issue_moves (hp.sub rfl) (fun x w n u hu => ?_) e h
  repeat' first
    | with_reducible assumption
    | exact hp.bit rfl
    | exact hp.sub rfl
    | with_reducible refine immBody_moves ?_ ?_
    | dsimp only [Eff.st_exc, Eff.st_done, Eff.st_frozen]
    | with_reducible refine immBody_moves ?_ ?_
    | with_reducible refine State.updEng_moves ?_ ?_

theorem brBody_moves {c : Word → Word → Bool} {x1 : Engine} {x2 : ℕ} {x3 : ℕ} {x4 : State} (h : Moves F s₀ x4) : Moves F s₀ (brBody c x1 x2 x3 x4).st := by
  unfold brBody
  repeat' first
    | with_reducible assumption
    | dsimp only [Eff.st_exc, Eff.st_done, Eff.st_frozen]

theorem execBrEq_moves (hp : Sub 70373047533574 F.parts) {engine : ℕ} {v : TramView} {s : State} {t : State} (e : execBrEq engine v s = .next t) (h : Moves F s₀ s) : Moves F s₀ t := by
  unfold execBrEq at e
  refine State.issue_moves (hp.sub rfl) (fun x w n u hu => ?_) e h
  repeat' first
    | with_reducible assumption
    | exact hp.bit rfl
    | exact hp.sub rfl
    | with_reducible refine brBody_moves ?_
    | dsimp only [Eff.st_exc, Eff.st_done, Eff.st_frozen]
    | with_reducible refine brBody_moves ?_
    | with_reducible refine State.updEng_moves ?_ ?_

theorem execBrNe_moves (hp : Sub 70373047533574 F.parts) {engine : ℕ} {v : TramView} {s : State} {t : State} (e : execBrNe engine v s = .next t) (h : Moves F s₀ s) : Moves F s₀ t := by
  unfold execBrNe at e
  refine State.issue_moves (hp.sub rfl) (fun x w n u hu => ?_) e h
  repeat' first
    | with_reducible assumption
    | exact hp.bit rfl
    | exact hp.sub rfl
    | with_reducible refine brBody_moves ?_
    | dsimp only [Eff.st_exc, Eff.st_done, Eff.st_frozen]
    | with_reducible refine brBody_moves ?_
    | with_reducible refine State.updEng_moves ?_ ?_

theorem execBrLt_moves (hp : Sub 70373047533574 F.parts) {engine : ℕ} {v : TramView} {s : State} {t : State} (e : execBrLt engine v s = .next t) (h : Moves F s₀ s) : Moves F s₀ t := by
  unfold execBrLt at e
  refine State.issue_moves (hp.sub rfl) (fun x w n u hu => ?_) e h
  repeat' first
    | with_reducible assumption
    | exact hp.bit rfl
    | exact hp.sub rfl
    | with_reducible refine brBody_moves ?_
    | dsimp only [Eff.st_exc, Eff.st_done, Eff.st_frozen]
    | with_reducible refine brBody_moves ?_
    | with_reducible refine State.updEng_moves ?_ ?_

theorem execBrGe_moves (hp : Sub 70373047533574 F.parts) {engine : ℕ} {v : TramView} {s : State} {t : State} (e : execBrGe engine v s = .next t) (h : Moves F s₀ s) : Moves F s₀ t := by
  unfold execBrGe at e
  refine State.issue_moves (hp.sub rfl) (fun x w n u hu => ?_) e h
  repeat' first
    | with_reducible assumption
    | exact hp.bit rfl
    | exact hp.sub rfl
    | with_reducible refine brBody_moves ?_
    | dsimp only [Eff.st_exc, Eff.st_done, Eff.st_frozen]
    | with_reducible refine brBody_moves ?_
    | with_reducible refine State.updEng_moves ?_ ?_

theorem execBrLtu_moves (hp : Sub 70373047533574 F.parts) {engine : ℕ} {v : TramView} {s : State} {t : State} (e : execBrLtu engine v s = .next t) (h : Moves F s₀ s) : Moves F s₀ t := by
  unfold execBrLtu at e
  refine State.issue_moves (hp.sub rfl) (fun x w n u hu => ?_) e h
  repeat' first
    | with_reducible assumption
    | exact hp.bit rfl
    | exact hp.sub rfl
    | with_reducible refine brBody_moves ?_
    | dsimp only [Eff.st_exc, Eff.st_done, Eff.st_frozen]
    | with_reducible refine brBody_moves ?_
    | with_reducible refine State.updEng_moves ?_ ?_

theorem execBrGeu_moves (hp : Sub 70373047533574 F.parts) {engine : ℕ} {v : TramView} {s : State} {t : State} (e : execBrGeu engine v s = .next t) (h : Moves F s₀ s) : Moves F s₀ t := by
  unfold execBrGeu at e
  refine State.issue_moves (hp.sub rfl) (fun x w n u hu => ?_) e h
  repeat' first
    | with_reducible assumption
    | exact hp.bit rfl
    | exact hp.sub rfl
    | with_reducible refine brBody_moves ?_
    | dsimp only [Eff.st_exc, Eff.st_done, Eff.st_frozen]
    | with_reducible refine brBody_moves ?_
    | with_reducible refine State.updEng_moves ?_ ?_

theorem execGo_moves (hp : Sub 70373047533574 F.parts) {engine : ℕ} {v : TramView} {s : State} {t : State} (e : execGo engine v s = .next t) (h : Moves F s₀ s) : Moves F s₀ t := by
  unfold execGo at e
  refine State.issue_moves (hp.sub rfl) (fun x w n u hu => ?_) e h
  repeat' first
    | with_reducible assumption
    | exact hp.bit rfl
    | exact hp.sub rfl
    | dsimp only [Eff.st_exc, Eff.st_done, Eff.st_frozen]
    | with_reducible refine State.updEng_moves ?_ ?_

theorem execCall_moves (hp : Sub 70373047533574 F.parts) {engine : ℕ} {v : TramView} {s : State} {t : State} (e : execCall engine v s = .next t) (h : Moves F s₀ s) : Moves F s₀ t := by
  unfold execCall at e
  refine State.issue_moves (hp.sub rfl) (fun x w n u hu => ?_) e h
  repeat' first
    | with_reducible assumption
    | exact hp.bit rfl
    | exact hp.sub rfl
    | dsimp only [Eff.st_exc, Eff.st_done, Eff.st_frozen]
    | with_reducible refine State.updEng_moves ?_ ?_

theorem jumpBody_moves (hp : Sub 70368744177664 F.parts) {link : Option ℕ} {x1 : Engine} {x2 : ℕ} {x3 : ℕ} {x4 : State} (h : Moves F s₀ x4) : Moves F s₀ (jumpBody link x1 x2 x3 x4).st := by
  unfold jumpBody
  repeat' first
    | with_reducible assumption
    | exact hp.bit rfl
    | exact hp.sub rfl
    | (extract_lets +onlyGivenNames t; refine Moves.cut (F := F) (s₀ := s₀) (t := t) ?_ (fun ht => ?_); rotate_left; (try clear_value t); rotate_left; subst t)
    | (extract_lets +onlyGivenNames t; try clear_value t)
    | split
    | dsimp only [Eff.st_exc, Eff.st_done, Eff.st_frozen]
    | with_reducible refine State.updEng_moves ?_ ?_

theorem execJmp_moves (hp : Sub 70373047533574 F.parts) {engine : ℕ} {v : TramView} {s : State} {t : State} (e : execJmp engine v s = .next t) (h : Moves F s₀ s) : Moves F s₀ t := by
  unfold execJmp at e
  refine State.issue_moves (hp.sub rfl) (fun x w n u hu => ?_) e h
  repeat' first
    | with_reducible assumption
    | exact hp.bit rfl
    | exact hp.sub rfl
    | with_reducible refine jumpBody_moves ?_ ?_
    | dsimp only [Eff.st_exc, Eff.st_done, Eff.st_frozen]
    | with_reducible refine jumpBody_moves ?_ ?_
    | with_reducible refine State.updEng_moves ?_ ?_

theorem execCallr_moves (hp : Sub 70373047533574 F.parts) {engine : ℕ} {v : TramView} {s : State} {t : State} (e : execCallr engine v s = .next t) (h : Moves F s₀ s) : Moves F s₀ t := by
  unfold execCallr at e
  refine State.issue_moves (hp.sub rfl) (fun x w n u hu => ?_) e h
  repeat' first
    | with_reducible assumption
    | exact hp.bit rfl
    | exact hp.sub rfl
    | with_reducible refine jumpBody_moves ?_ ?_
    | split
    | dsimp only [Eff.st_exc, Eff.st_done, Eff.st_frozen]
    | with_reducible refine jumpBody_moves ?_ ?_
    | with_reducible refine State.updEng_moves ?_ ?_

theorem execRep_moves (hp : Sub 70373047533574 F.parts) {engine : ℕ} {v : TramView} {s : State} {t : State} (e : execRep engine v s = .next t) (h : Moves F s₀ s) : Moves F s₀ t := by
  unfold execRep at e
  refine State.issue_moves (hp.sub rfl) (fun x w n u hu => ?_) e h
  repeat' first
    | with_reducible assumption
    | exact hp.bit rfl
    | exact hp.sub rfl
    | dsimp only [Eff.st_exc, Eff.st_done, Eff.st_frozen]
    | with_reducible refine State.updEng_moves ?_ ?_

theorem execRepr_moves (hp : Sub 70373047533574 F.parts) {engine : ℕ} {v : TramView} {s : State} {t : State} (e : execRepr engine v s = .next t) (h : Moves F s₀ s) : Moves F s₀ t := by
  unfold execRepr at e
  refine State.issue_moves (hp.sub rfl) (fun x w n u hu => ?_) e h
  repeat' first
    | with_reducible assumption
    | exact hp.bit rfl
    | exact hp.sub rfl
    | dsimp only [Eff.st_exc, Eff.st_done, Eff.st_frozen]
    | with_reducible refine State.updEng_moves ?_ ?_

theorem macBody_moves (hp : Sub 70368744177664 F.parts) {keep : Bool} {f : ℤ → ℤ → ℤ → ℤ → ℤ} {x2 : Engine} {x3 : ℕ} {x4 : ℕ} {x5 : State} (h : Moves F s₀ x5) : Moves F s₀ (macBody keep f x2 x3 x4 x5).st := by
  unfold macBody
  repeat' first
    | with_reducible assumption
    | exact hp.bit rfl
    | exact hp.sub rfl
    | (extract_lets +onlyGivenNames t; refine Moves.cut (F := F) (s₀ := s₀) (t := t) ?_ (fun ht => ?_); rotate_left; (try clear_value t); rotate_left; subst t)
    | (extract_lets +onlyGivenNames t; try clear_value t)
    | split
    | dsimp only [Eff.st_exc, Eff.st_done, Eff.st_frozen]
    | with_reducible refine State.updEng_moves ?_ ?_

theorem execMac2_moves (hp : Sub 70373047533574 F.parts) {engine : ℕ} {v : TramView} {s : State} {t : State} (e : execMac2 engine v s = .next t) (h : Moves F s₀ s) : Moves F s₀ t := by
  unfold execMac2 at e
  refine State.issue_moves (hp.sub rfl) (fun x w n u hu => ?_) e h
  repeat' first
    | with_reducible assumption
    | exact hp.bit rfl
    | exact hp.sub rfl
    | with_reducible refine macBody_moves ?_ ?_
    | dsimp only [Eff.st_exc, Eff.st_done, Eff.st_frozen]
    | with_reducible refine macBody_moves ?_ ?_
    | with_reducible refine State.updEng_moves ?_ ?_

theorem execMsu2_moves (hp : Sub 70373047533574 F.parts) {engine : ℕ} {v : TramView} {s : State} {t : State} (e : execMsu2 engine v s = .next t) (h : Moves F s₀ s) : Moves F s₀ t := by
  unfold execMsu2 at e
  refine State.issue_moves (hp.sub rfl) (fun x w n u hu => ?_) e h
  repeat' first
    | with_reducible assumption
    | exact hp.bit rfl
    | exact hp.sub rfl
    | with_reducible refine macBody_moves ?_ ?_
    | dsimp only [Eff.st_exc, Eff.st_done, Eff.st_frozen]
    | with_reducible refine macBody_moves ?_ ?_
    | with_reducible refine State.updEng_moves ?_ ?_

theorem execMacx_moves (hp : Sub 70373047533574 F.parts) {engine : ℕ} {v : TramView} {s : State} {t : State} (e : execMacx engine v s = .next t) (h : Moves F s₀ s) : Moves F s₀ t := by
  unfold execMacx at e
  refine State.issue_moves (hp.sub rfl) (fun x w n u hu => ?_) e h
  repeat' first
    | with_reducible assumption
    | exact hp.bit rfl
    | exact hp.sub rfl
    | with_reducible refine macBody_moves ?_ ?_
    | dsimp only [Eff.st_exc, Eff.st_done, Eff.st_frozen]
    | with_reducible refine macBody_moves ?_ ?_
    | with_reducible refine State.updEng_moves ?_ ?_

theorem execMul2_moves (hp : Sub 70373047533574 F.parts) {engine : ℕ} {v : TramView} {s : State} {t : State} (e : execMul2 engine v s = .next t) (h : Moves F s₀ s) : Moves F s₀ t := by
  unfold execMul2 at e
  refine State.issue_moves (hp.sub rfl) (fun x w n u hu => ?_) e h
  repeat' first
    | with_reducible assumption
    | exact hp.bit rfl
    | exact hp.sub rfl
    | with_reducible refine macBody_moves ?_ ?_
    | dsimp only [Eff.st_exc, Eff.st_done, Eff.st_frozen]
    | with_reducible refine macBody_moves ?_ ?_
    | with_reducible refine State.updEng_moves ?_ ?_

theorem execMac1_moves (hp : Sub 70373047533574 F.parts) {engine : ℕ} {v : TramView} {s : State} {t : State} (e : execMac1 engine v s = .next t) (h : Moves F s₀ s) : Moves F s₀ t := by
  unfold execMac1 at e
  refine State.issue_moves (hp.sub rfl) (fun x w n u hu => ?_) e h
  repeat' first
    | with_reducible assumption
    | exact hp.bit rfl
    | exact hp.sub rfl
    | with_reducible refine macBody_moves ?_ ?_
    | dsimp only [Eff.st_exc, Eff.st_done, Eff.st_frozen]
    | with_reducible refine macBody_moves ?_ ?_
    | with_reducible refine State.updEng_moves ?_ ?_

theorem execMacr_moves (hp : Sub 70373047533574 F.parts) {engine : ℕ} {v : TramView} {s : State} {t : State} (e : execMacr engine v s = .next t) (h : Moves F s₀ s) : Moves F s₀ t := by
  unfold execMacr at e
  refine State.issue_moves (hp.sub rfl) (fun x w n u hu => ?_) e h
  repeat' first
    | with_reducible assumption
    | exact hp.bit rfl
    | exact hp.sub rfl
    | with_reducible refine macBody_moves ?_ ?_
    | dsimp only [Eff.st_exc, Eff.st_done, Eff.st_frozen]
    | with_reducible refine macBody_moves ?_ ?_
    | with_reducible refine State.updEng_moves ?_ ?_

theorem execMfa_moves (hp : Sub 70373047533574 F.parts) {engine : ℕ} {v : TramView} {s : State} {t : State} (e : execMfa engine v s = .next t) (h : Moves F s₀ s) : Moves F s₀ t := by
  unfold execMfa at e
  refine State.issue_moves (hp.sub rfl) (fun x w n u hu => ?_) e h
  repeat' first
    | with_reducible assumption
    | exact hp.bit rfl
    | exact hp.sub rfl
    | (extract_lets +onlyGivenNames t; refine Moves.cut (F := F) (s₀ := s₀) (t := t) ?_ (fun ht => ?_); rotate_left; (try clear_value t); rotate_left; subst t)
    | (extract_lets +onlyGivenNames t; try clear_value t)
    | split
    | dsimp only [Eff.st_exc, Eff.st_done, Eff.st_frozen]
    | with_reducible refine State.updEng_moves ?_ ?_

theorem accBody_moves (hp : Sub 70368744177664 F.parts) {f : Acc72 → Word → ℕ → Acc72} {x1 : Engine} {x2 : ℕ} {x3 : ℕ} {x4 : State} (h : Moves F s₀ x4) : Moves F s₀ (accBody f x1 x2 x3 x4).st := by
  unfold accBody
  repeat' first
    | with_reducible assumption
    | exact hp.bit rfl
    | exact hp.sub rfl
    | dsimp only [Eff.st_exc, Eff.st_done, Eff.st_frozen]
    | with_reducible refine State.updEng_moves ?_ ?_

theorem execMta_moves (hp : Sub 70373047533574 F.parts) {engine : ℕ} {v : TramView} {s : State} {t : State} (e : execMta engine v s = .next t) (h : Moves F s₀ s) : Moves F s₀ t := by
  unfold execMta at e
  refine State.issue_moves (hp.sub rfl) (fun x w n u hu => ?_) e h
  repeat' first
    | with_reducible assumption
    | exact hp.bit rfl
    | exact hp.sub rfl
    | with_reducible refine accBody_moves ?_ ?_
    | dsimp only [Eff.st_exc, Eff.st_done, Eff.st_frozen]
    | with_reducible refine accBody_moves ?_ ?_
    | with_reducible refine State.updEng_moves ?_ ?_

theorem execAclr_moves (hp : Sub 70373047533574 F.parts) {engine : ℕ} {v : TramView} {s : State} {t : State} (e : execAclr engine v s = .next t) (h : Moves F s₀ s) : Moves F s₀ t := by
  unfold execAclr at e
  refine State.issue_moves (hp.sub rfl) (fun x w n u hu => ?_) e h
  repeat' first
    | with_reducible assumption
    | exact hp.bit rfl
    | exact hp.sub rfl
    | with_reducible refine accBody_moves ?_ ?_
    | dsimp only [Eff.st_exc, Eff.st_done, Eff.st_frozen]
    | with_reducible refine accBody_moves ?_ ?_
    | with_reducible refine State.updEng_moves ?_ ?_

theorem execAadd_moves (hp : Sub 70373047533574 F.parts) {engine : ℕ} {v : TramView} {s : State} {t : State} (e : execAadd engine v s = .next t) (h : Moves F s₀ s) : Moves F s₀ t := by
  unfold execAadd at e
  refine State.issue_moves (hp.sub rfl) (fun x w n u hu => ?_) e h
  repeat' first
    | with_reducible assumption
    | exact hp.bit rfl
    | exact hp.sub rfl
    | (extract_lets +onlyGivenNames t; refine Moves.cut (F := F) (s₀ := s₀) (t := t) ?_ (fun ht => ?_); rotate_left; (try clear_value t); rotate_left; subst t)
    | (extract_lets +onlyGivenNames t; try clear_value t)
    | split
    | dsimp only [Eff.st_exc, Eff.st_done, Eff.st_frozen]
    | with_reducible refine State.updEng_moves ?_ ?_

theorem execAsr_moves (hp : Sub 70373047533574 F.parts) {engine : ℕ} {v : TramView} {s : State} {t : State} (e : execAsr engine v s = .next t) (h : Moves F s₀ s) : Moves F s₀ t := by
  unfold execAsr at e
  refine State.issue_moves (hp.sub rfl) (fun x w n u hu => ?_) e h
  repeat' first
    | with_reducible assumption
    | exact hp.bit rfl
    | exact hp.sub rfl
    | with_reducible refine accBody_moves ?_ ?_
    | dsimp only [Eff.st_exc, Eff.st_done, Eff.st_frozen]
    | with_reducible refine accBody_moves ?_ ?_
    | with_reducible refine State.updEng_moves ?_ ?_

theorem execMfah_moves (hp : Sub 70373047533574 F.parts) {engine : ℕ} {v : TramView} {s : State} {t : State} (e : execMfah engine v s = .next t) (h : Moves F s₀ s) : Moves F s₀ t := by
  unfold execMfah at e
  refine State.issue_moves (hp.sub rfl) (fun x w n u hu => ?_) e h
  repeat' first
    | with_reducible assumption
    | exact hp.bit rfl
    | exact hp.sub rfl
    | dsimp only [Eff.st_exc, Eff.st_done, Eff.st_frozen]
    | with_reducible refine State.updEng_moves ?_ ?_

theorem execMtal_moves (hp : Sub 70373047533574 F.parts) {engine : ℕ} {v : TramView} {s : State} {t : State} (e : execMtal engine v s = .next t) (h : Moves F s₀ s) : Moves F s₀ t := by
  unfold execMtal at e
  refine State.issue_moves (hp.sub rfl) (fun x w n u hu => ?_) e h
  repeat' first
    | with_reducible assumption
    | exact hp.bit rfl
    | exact hp.sub rfl
    | with_reducible refine accBody_moves ?_ ?_
    | dsimp only [Eff.st_exc, Eff.st_done, Eff.st_frozen]
    | with_reducible refine accBody_moves ?_ ?_
    | with_reducible refine State.updEng_moves ?_ ?_

theorem execMtam_moves (hp : Sub 70373047533574 F.parts) {engine : ℕ} {v : TramView} {s : State} {t : State} (e : execMtam engine v s = .next t) (h : Moves F s₀ s) : Moves F s₀ t := by
  unfold execMtam at e
  refine State.issue_moves (hp.sub rfl) (fun x w n u hu => ?_) e h
  repeat' first
    | with_reducible assumption
    | exact hp.bit rfl
    | exact hp.sub rfl
    | with_reducible refine accBody_moves ?_ ?_
    | dsimp only [Eff.st_exc, Eff.st_done, Eff.st_frozen]
    | with_reducible refine accBody_moves ?_ ?_
    | with_reducible refine State.updEng_moves ?_ ?_

theorem execMtah_moves (hp : Sub 70373047533574 F.parts) {engine : ℕ} {v : TramView} {s : State} {t : State} (e : execMtah engine v s = .next t) (h : Moves F s₀ s) : Moves F s₀ t := by
  unfold execMtah at e
  refine State.issue_moves (hp.sub rfl) (fun x w n u hu => ?_) e h
  repeat' first
    | with_reducible assumption
    | exact hp.bit rfl
    | exact hp.sub rfl
    | with_reducible refine accBody_moves ?_ ?_
    | dsimp only [Eff.st_exc, Eff.st_done, Eff.st_frozen]
    | with_reducible refine accBody_moves ?_ ?_
    | with_reducible refine State.updEng_moves ?_ ?_

/-! ### TramSys -/

theorem execWait_moves (hp : Sub 70373047533574 F.parts) {engine : ℕ} {v : TramView} {s : State} {t : State} (e : execWait engine v s = .next t) (h : Moves F s₀ s) : Moves F s₀ t := by
  unfold execWait at e
  refine State.issue_moves (hp.sub rfl) (fun x w n u hu => ?_) e h
  repeat' first
    | with_reducible assumption
    | exact hp.bit rfl
    | exact hp.sub rfl
    | dsimp only [Eff.st_exc, Eff.st_done, Eff.st_frozen]
    | with_reducible refine State.updEng_moves ?_ ?_
    | with_reducible refine State.wr_moves ?_ ?_
    | simp (disch := first | exact hp.out rfl | with_reducible exact fun _ => rfl) only [Moves.mk_iff]

theorem execEi_moves (hp : Sub 70373047533574 F.parts) {engine : ℕ} {v : TramView} {s : State} {t : State} (e : execEi engine v s = .next t) (h : Moves F s₀ s) : Moves F s₀ t := by
  unfold execEi at e
  refine State.issue_moves (hp.sub rfl) (fun x w n u hu => ?_) e h
  repeat' first
    | with_reducible assumption
    | exact hp.bit rfl
    | exact hp.sub rfl
    | dsimp only [Eff.st_exc, Eff.st_done, Eff.st_frozen]
    | with_reducible refine State.wr_moves ?_ ?_
    | with_reducible refine State.updEng_moves ?_ ?_

theorem execDi_moves (hp : Sub 70373047533574 F.parts) {engine : ℕ} {v : TramView} {s : State} {t : State} (e : execDi engine v s = .next t) (h : Moves F s₀ s) : Moves F s₀ t := by
  unfold execDi at e
  refine State.issue_moves (hp.sub rfl) (fun x w n u hu => ?_) e h
  repeat' first
    | with_reducible assumption
    | exact hp.bit rfl
    | exact hp.sub rfl
    | dsimp only [Eff.st_exc, Eff.st_done, Eff.st_frozen]
    | with_reducible refine State.wr_moves ?_ ?_
    | with_reducible refine State.updEng_moves ?_ ?_

theorem execRetx_moves (hp : Sub 70373047533574 F.parts) {engine : ℕ} {v : TramView} {s : State} {t : State} (e : execRetx engine v s = .next t) (h : Moves F s₀ s) : Moves F s₀ t := by
  unfold execRetx at e
  refine State.issue_moves (hp.sub rfl) (fun x w n u hu => ?_) e h
  repeat' first
    | with_reducible assumption
    | exact hp.bit rfl
    | exact hp.sub rfl
    | split
    | dsimp only [Eff.st_exc, Eff.st_done, Eff.st_frozen]
    | with_reducible refine State.wr_moves ?_ ?_
    | with_reducible refine State.updEng_moves ?_ ?_

theorem execRetm_moves (hp : Sub 70373047533574 F.parts) {engine : ℕ} {v : TramView} {s : State} {t : State} (e : execRetm engine v s = .next t) (h : Moves F s₀ s) : Moves F s₀ t := by
  unfold execRetm at e
  refine State.issue_moves (hp.sub rfl) (fun x w n u hu => ?_) e h
  repeat' first
    | with_reducible assumption
    | exact hp.bit rfl
    | exact hp.sub rfl
    | split
    | dsimp only [Eff.st_exc, Eff.st_done, Eff.st_frozen]
    | with_reducible refine State.updEng_moves ?_ ?_
    | with_reducible refine State.wr_moves ?_ ?_
    | simp (disch := first | exact hp.out rfl | with_reducible exact fun _ => rfl) only [Moves.mk_iff]

theorem State.debugEntry_moves (hp : Sub 70368744177668 F.parts) {s : State} {x1 : ℕ} (h : Moves F s₀ s) : Moves F s₀ (State.debugEntry s x1) := by
  unfold State.debugEntry
  repeat' first
    | with_reducible assumption
    | exact hp.bit rfl
    | exact hp.sub rfl
    | with_reducible refine State.enterMonitor_moves ?_ ?_
    | split

theorem execBreak_moves (hp : Sub 70373047533574 F.parts) {engine : ℕ} {v : TramView} {s t : State} (e : execBreak engine v s = .next t) (h : Moves F s₀ s) :
    Moves F s₀ t := by
  unfold execBreak at e
  split at e
  · rename_i u e1
    have k : Moves F s₀ u := by
      refine State.issue_moves (hp.sub rfl) (fun x w n u hu => ?_) e1 h
      repeat' first
        | with_reducible assumption
        | exact hp.bit rfl
        | exact hp.sub rfl
        | split
        | dsimp only [Eff.st_exc, Eff.st_done, Eff.st_frozen]
        | with_reducible refine State.wr_moves ?_ ?_
        | with_reducible refine State.updEng_moves ?_ ?_
        | with_reducible refine State.debugEntry_moves ?_ ?_
        | simp (disch := first | exact hp.out rfl | with_reducible exact fun _ => rfl) only [Moves.mk_iff]
    cases Host.Outcome.next.inj e
    split
    · exact State.debugEntry_moves (hp.sub rfl) k
    · exact k
  · rename_i o hn
    exact absurd e (hn t)

theorem execTrap_moves (hp : Sub 70373047533574 F.parts) {engine : ℕ} {v : TramView} {s : State} {t : State} (e : execTrap engine v s = .next t) (h : Moves F s₀ s) : Moves F s₀ t := by
  unfold execTrap at e
  refine State.issue_moves (hp.sub rfl) (fun x w n u hu => ?_) e h
  repeat' first
    | with_reducible assumption
    | exact hp.bit rfl
    | exact hp.sub rfl
    | dsimp only [Eff.st_exc, Eff.st_done, Eff.st_frozen]
    | with_reducible refine State.updEng_moves ?_ ?_

theorem execRdc_moves (hp : Sub 70373047533574 F.parts) {engine : ℕ} {cycles : ℕ} {v : TramView} {s : State} {t : State} (e : execRdc engine cycles v s = .next t) (h : Moves F s₀ s) : Moves F s₀ t := by
  unfold execRdc at e
  refine State.issue_moves (hp.sub rfl) (fun x w n u hu => ?_) e h
  repeat' first
    | with_reducible assumption
    | exact hp.bit rfl
    | exact hp.sub rfl
    | (extract_lets +onlyGivenNames t; refine Moves.cut (F := F) (s₀ := s₀) (t := t) ?_ (fun ht => ?_); rotate_left; (try clear_value t); rotate_left; subst t)
    | (extract_lets +onlyGivenNames t; subst t)
    | split
    | dsimp only [Eff.st_exc, Eff.st_done, Eff.st_frozen]
    | with_reducible refine State.setEng_moves ?_ ?_
    | with_reducible refine State.updEng_moves ?_ ?_
    | simp (disch := first | exact hp.out rfl | with_reducible exact fun _ => rfl) only [Moves.mk_iff]

theorem execWrc_moves (hp : Sub 70373047533574 F.parts) {engine : ℕ} {cycles : ℕ} {v : TramView} {s : State} {t : State} (e : execWrc engine cycles v s = .next t) (h : Moves F s₀ s) : Moves F s₀ t := by
  unfold execWrc at e
  refine State.issue_moves (hp.sub rfl) (fun x w n u hu => ?_) e h
  repeat' first
    | with_reducible assumption
    | exact hp.bit rfl
    | exact hp.sub rfl
    | (extract_lets +onlyGivenNames t; refine Moves.cut (F := F) (s₀ := s₀) (t := t) ?_ (fun ht => ?_); rotate_left; (try clear_value t); rotate_left; subst t)
    | (extract_lets +onlyGivenNames t; subst t)
    | split
    | dsimp only [Eff.st_exc, Eff.st_done, Eff.st_frozen]
    | with_reducible refine State.setEng_moves ?_ ?_
    | with_reducible refine State.updEng_moves ?_ ?_
    | simp (disch := first | exact hp.out rfl | with_reducible exact fun _ => rfl) only [Moves.mk_iff]

theorem execRdk_moves (hp : Sub 70373047533574 F.parts) {engine : ℕ} {v : TramView} {s : State} {t : State} (e : execRdk engine v s = .next t) (h : Moves F s₀ s) : Moves F s₀ t := by
  unfold execRdk at e
  refine State.issue_moves (hp.sub rfl) (fun x w n u hu => ?_) e h
  repeat' first
    | with_reducible assumption
    | exact hp.bit rfl
    | exact hp.sub rfl
    | split
    | dsimp only [Eff.st_exc, Eff.st_done, Eff.st_frozen]
    | with_reducible refine State.updEng_moves ?_ ?_

theorem execWrk_moves (hp : Sub 70373047533574 F.parts) {engine : ℕ} {v : TramView} {s : State} {t : State} (e : execWrk engine v s = .next t) (h : Moves F s₀ s) : Moves F s₀ t := by
  unfold execWrk at e
  refine State.issue_moves (hp.sub rfl) (fun x w n u hu => ?_) e h
  repeat' first
    | with_reducible assumption
    | exact hp.bit rfl
    | exact hp.sub rfl
    | split
    | dsimp only [Eff.st_exc, Eff.st_done, Eff.st_frozen]
    | with_reducible refine State.updEng_moves ?_ ?_

theorem execInterruptEntry_moves (hp : Sub 70373047533572 F.parts) {engine : ℕ} {s : State} {t : State} (e : execInterruptEntry engine s = .next t) (h : Moves F s₀ s) : Moves F s₀ t := by
  unfold execInterruptEntry at e
  rw [need_next e]; clear e
  repeat' first
    | with_reducible assumption
    | exact hp.bit rfl
    | exact hp.sub rfl
    | refine need_moves (by with_reducible assumption) ?_
    | with_reducible refine State.ungate_moves ?_ ?_
    | with_reducible refine State.wr_moves ?_ ?_
    | with_reducible refine State.enterIrq_moves ?_ ?_
    | with_reducible refine State.settleGaps_moves ?_ ?_
    | (extract_lets +onlyGivenNames t; refine Moves.cut (F := F) (s₀ := s₀) (t := t) ?_ (fun ht => ?_); rotate_left; (try clear_value t); rotate_left; subst t)
    | (extract_lets +onlyGivenNames t; try clear_value t)
    | split

theorem execDebugEntry_moves (hp : Sub 70368744177668 F.parts) {engine : ℕ} {s : State} {t : State} (e : execDebugEntry engine s = .next t) (h : Moves F s₀ s) : Moves F s₀ t := by
  unfold execDebugEntry at e
  rw [need_next e]; clear e
  repeat' first
    | with_reducible assumption
    | exact hp.bit rfl
    | exact hp.sub rfl
    | refine need_moves (by with_reducible assumption) ?_
    | with_reducible refine State.debugEntry_moves ?_ ?_

theorem execTrStart_moves (hp : Sub 70373047533572 F.parts) {engine : ℕ} {value : ℕ} {s : State} {t : State} (e : execTrStart engine value s = .next t) (h : Moves F s₀ s) : Moves F s₀ t := by
  unfold execTrStart at e
  rw [need_next e]; clear e
  repeat' first
    | with_reducible assumption
    | exact hp.bit rfl
    | exact hp.sub rfl
    | refine need_moves (by with_reducible assumption) ?_
    | with_reducible refine State.trWrite_moves ?_ ?_
    | refine State.trWrite_moves' ?_ (by with_reducible assumption) ?_

theorem execTrResume_moves (hp : Sub 70373047533572 F.parts) {engine : ℕ} {value : ℕ} {s : State} {t : State} (e : execTrResume engine value s = .next t) (h : Moves F s₀ s) : Moves F s₀ t := by
  unfold execTrResume at e
  rw [need_next e]; clear e
  repeat' first
    | with_reducible assumption
    | exact hp.bit rfl
    | exact hp.sub rfl
    | refine need_moves (by with_reducible assumption) ?_
    | with_reducible refine State.trWrite_moves ?_ ?_
    | refine State.trWrite_moves' ?_ (by with_reducible assumption) ?_

theorem execTrHalt_moves (hp : Sub 70373047533572 F.parts) {engine : ℕ} {value : ℕ} {s : State} {t : State} (e : execTrHalt engine value s = .next t) (h : Moves F s₀ s) : Moves F s₀ t := by
  unfold execTrHalt at e
  rw [need_next e]; clear e
  repeat' first
    | with_reducible assumption
    | exact hp.bit rfl
    | exact hp.sub rfl
    | refine need_moves (by with_reducible assumption) ?_
    | with_reducible refine State.trWrite_moves ?_ ?_
    | refine State.trWrite_moves' ?_ (by with_reducible assumption) ?_

theorem execLoaded_moves (hp : Sub 70373047533572 F.parts) {engine : ℕ} {value : ℕ} {s : State} {t : State} (e : execLoaded engine value s = .next t) (h : Moves F s₀ s) : Moves F s₀ t := by
  unfold execLoaded at e
  rw [need_next e]; clear e
  repeat' first
    | with_reducible assumption
    | exact hp.bit rfl
    | exact hp.sub rfl
    | refine need_moves (by with_reducible assumption) ?_
    | with_reducible refine State.trWrite_moves ?_ ?_
    | refine State.trWrite_moves' ?_ (by with_reducible assumption) ?_

theorem execHaltReq_moves (hp : Sub 70373047533572 F.parts) {engine : ℕ} {value : ℕ} {s : State} {t : State} (e : execHaltReq engine value s = .next t) (h : Moves F s₀ s) : Moves F s₀ t := by
  unfold execHaltReq at e
  rw [need_next e]; clear e
  repeat' first
    | with_reducible assumption
    | exact hp.bit rfl
    | exact hp.sub rfl
    | refine need_moves (by with_reducible assumption) ?_
    | with_reducible refine State.trWrite_moves ?_ ?_
    | refine State.trWrite_moves' ?_ (by with_reducible assumption) ?_

theorem execWatchdogExpiry_moves (hm : F.mem = true) (hp : Sub 13636010072101788 F.parts) {engine : ℕ} {s : State} {t : State} (e : execWatchdogExpiry engine s = .next t) (h : Moves F s₀ s) : Moves F s₀ t := by
  unfold execWatchdogExpiry at e
  rw [need_next e]; clear e
  repeat' first
    | with_reducible assumption
    | exact hp.bit rfl
    | exact hp.sub rfl
    | refine need_moves (by with_reducible assumption) ?_
    | with_reducible refine State.updEng_moves ?_ ?_
    | with_reducible refine State.putBit_moves ?_ ?_
    | with_reducible refine State.wdogReset_moves hm ?_ ?_
    | split
    | simp (disch := first | exact hp.out rfl | with_reducible exact fun _ => rfl) only [Moves.mk_iff]

theorem execKick_moves (hp : Sub 70373047533572 F.parts) {engine : ℕ} {s : State} {t : State} (e : execKick engine s = .next t) (h : Moves F s₀ s) : Moves F s₀ t := by
  unfold execKick at e
  rw [need_next e]; clear e
  repeat' first
    | with_reducible assumption
    | exact hp.bit rfl
    | exact hp.sub rfl
    | refine need_moves (by with_reducible assumption) ?_
    | with_reducible refine State.trWrite_moves ?_ ?_
    | refine State.trWrite_moves' ?_ (by with_reducible assumption) ?_

theorem execWdogWrite_moves (hp : Sub 70373047533572 F.parts) {engine : ℕ} {value : ℕ} {s : State} {t : State} (e : execWdogWrite engine value s = .next t) (h : Moves F s₀ s) : Moves F s₀ t := by
  unfold execWdogWrite at e
  rw [need_next e]; clear e
  repeat' first
    | with_reducible assumption
    | exact hp.bit rfl
    | exact hp.sub rfl
    | refine need_moves (by with_reducible assumption) ?_
    | with_reducible refine State.trWrite_moves ?_ ?_
    | refine State.trWrite_moves' ?_ (by with_reducible assumption) ?_

theorem execQnote_moves (hp : Sub 70373047533572 F.parts) {engine : ℕ} {port : ℕ} {s : State} {t : State} (e : execQnote engine port s = .next t) (h : Moves F s₀ s) : Moves F s₀ t := by
  unfold execQnote at e
  rw [need_next e]; clear e
  repeat' first
    | with_reducible assumption
    | exact hp.bit rfl
    | exact hp.sub rfl
    | refine need_moves (by with_reducible assumption) ?_
    | with_reducible refine State.trWrite_moves ?_ ?_
    | refine State.trWrite_moves' ?_ (by with_reducible assumption) ?_

theorem execNoticeResend_moves (hp : Sub 4573968371548160 F.parts) {engine : ℕ} {s : State} {t : State} (e : execNoticeResend engine s = .next t) (h : Moves F s₀ s) : Moves F s₀ t := by
  unfold execNoticeResend at e
  rw [need_next e]; clear e
  repeat' first
    | with_reducible assumption
    | exact hp.bit rfl
    | exact hp.sub rfl
    | refine need_moves (by with_reducible assumption) ?_
    | with_reducible refine State.resendNotices_moves ?_ ?_
    | with_reducible refine State.tr_moves ?_ ?_
    | split
    | simp (disch := first | exact hp.out rfl | with_reducible exact fun _ => rfl) only [Moves.mk_iff]

theorem execIrqPost_moves (hp : Sub 6825772488589316 F.parts) {engine : ℕ} {value : ℕ} {src : ℕ} {tag : ℕ} {posted : Bool} {s : State} {t : State} (e : execIrqPost engine value src tag posted s = .next t) (h : Moves F s₀ s) : Moves F s₀ t := by
  unfold execIrqPost at e
  rw [need_next e]; clear e
  repeat' first
    | with_reducible assumption
    | exact hp.bit rfl
    | exact hp.sub rfl
    | refine need_moves (by with_reducible assumption) ?_
    | with_reducible refine State.trWrite_moves ?_ ?_
    | refine State.trWrite_moves' ?_ (by with_reducible assumption) ?_
    | with_reducible refine State.respond_moves ?_ ?_
    | (extract_lets +onlyGivenNames t; refine Moves.cut (F := F) (s₀ := s₀) (t := t) ?_ (fun ht => ?_); rotate_left; (try clear_value t); rotate_left; subst t)

theorem execPostPop_moves (hp : Sub 6825768185233412 F.parts) {engine : ℕ} {size : ℕ} {src : ℕ} {tag : ℕ} {peek : Bool} {s : State} {t : State} (e : execPostPop engine size src tag peek s = .next t) (h : Moves F s₀ s) : Moves F s₀ t := by
  unfold execPostPop at e
  rw [need_next e]; clear e
  repeat' first
    | with_reducible assumption
    | exact hp.bit rfl
    | exact hp.sub rfl
    | refine need_moves (by with_reducible assumption) ?_
    | with_reducible refine State.trRead_moves ?_ ?_
    | refine State.trRead_moves' ?_ (by with_reducible assumption) ?_
    | with_reducible refine State.respond_moves ?_ ?_
    | (extract_lets +onlyGivenNames t; refine Moves.cut (F := F) (s₀ := s₀) (t := t) ?_ (fun ht => ?_); rotate_left; (try clear_value t); rotate_left; subst t)

/-! ### Tick -/

theorem State.idleTime_moves (hm : F.mem = true) (hf : F.flash = true) (hk : F.keys = true) (hp : Sub 15766897962275728 F.parts) {s : State} (h : Moves F s₀ s) : Moves F s₀ (State.idleTime s) := by
  unfold State.idleTime
  repeat' first
    | with_reducible assumption
    | exact hp.bit rfl
    | exact hp.sub rfl
    | with_reducible refine State.dramIdle_moves hm hf hk ?_ ?_
    | with_reducible refine State.lanesIdle_moves ?_ ?_
    | with_reducible refine State.endPulses_moves ?_ ?_
    | split

end Sys2Proof.Machine
end

