-- ==== Sys2Proof/Laws/MovesExec.lean ====
section
/-! SUPPORT. What a command may do to the state as a whole. -/

namespace Sys2Proof.Machine

/-- The memories and parts that a command may change. -/
def footOf (c : Instr) : Foot := ⟨storesBytes c, changesUnits c, changesFrames c, changesFlash c, changesKeys c, partsMask (reach c)⟩

theorem reach_0 {p : Nat} (h : p = partsMask (Part.blocks ++ [.clk, .msix, .winder, .lanes, .xp, .sampler, .dram, .crypto, .scrubs, .pins, .loader, .bell, .cage, .gallery, .tram, .fm, .shift, .trace, .lamp, .events, .sent, .stopes])) :
    Sub 18014394231291903 p := Sub.list h rfl
theorem reach_1 {p : Nat} (h : p = partsMask ([.clk])) :
    Sub 4294967296 p := Sub.list h rfl
theorem reach_2 {p : Nat} (h : p = partsMask ([.regs .fm, .regs .ck, .clk, .fm, .events])) :
    Sub 2392541605462016 p := Sub.list h rfl
theorem reach_3 {p : Nat} (h : p = partsMask ([.regs .ck, .clk])) :
    Sub 4303355904 p := Sub.list h rfl
theorem reach_4 {p : Nat} (h : p = partsMask ([.clk, .fm])) :
    Sub 140741783322624 p := Sub.list h rfl
theorem reach_5 {p : Nat} (h : p = partsMask ([.regs .st, .regs .cf, .regs .cfs, .regs .sb, .regs .wd, .regs .cr, .regs .ck, .clk, .msix, .winder, .sampler, .scrubs, .pins, .loader, .events, .sent, .stopes])) :
    Sub 15770462789305328 p := Sub.list h rfl
theorem reach_6 {p : Nat} (h : p = partsMask ([.regs .st, .clk, .sampler, .stopes])) :
    Sub 9007340988661776 p := Sub.list h rfl
theorem reach_7 {p : Nat} (h : p = partsMask ([.regs .qu, .regs .st, .regs .sb, .regs .wd, .regs .cr, .regs .dc, .regs .en, .regs .ck, .clk, .sampler, .dram, .crypto, .scrubs, .cage, .sent, .stopes])) :
    Sub 13530456955835288 p := Sub.list h rfl
theorem reach_8 {p : Nat} (h : p = partsMask ([.regs .tr, .regs .qu, .regs .st, .regs .sb, .regs .wd, .regs .cr, .regs .dc, .regs .en, .regs .ck, .clk, .sampler, .dram, .crypto, .scrubs, .cage, .gallery, .tram, .sent, .stopes])) :
    Sub 13636010072101788 p := Sub.list h rfl
theorem reach_9 {p : Nat} (h : p = partsMask ([.regs .trc, .regs .fm, .regs .ck, .clk, .msix, .tram, .sent])) :
    Sub 4573981264904194 p := Sub.list h rfl
theorem reach_10 {p : Nat} (h : p = partsMask ([.regs .tr, .regs .fm, .regs .ck, .clk, .msix, .tram, .sent])) :
    Sub 4573981264904196 p := Sub.list h rfl
theorem reach_11 {p : Nat} (h : p = partsMask ([.regs .st, .regs .xcp, .regs .ck, .clk, .winder, .xp, .pins, .stopes])) :
    Sub 9009488480700432 p := Sub.list h rfl
theorem reach_12 {p : Nat} (h : p = partsMask ([.regs .st, .regs .sb, .regs .wd, .regs .cr, .clk, .msix, .winder, .sampler, .pins, .cage, .events, .sent, .stopes])) :
    Sub 15782557408822160 p := Sub.list h rfl
theorem reach_13 {p : Nat} (h : p = partsMask ([.winder, .pins, .events, .sent, .stopes])) :
    Sub 15764814898921472 p := Sub.list h rfl
theorem reach_14 {p : Nat} (h : p = partsMask ([.regs .st, .regs .sb, .regs .wd, .regs .cr, .clk, .msix, .winder, .sampler, .events, .sent])) :
    Sub 6755566944781200 p := Sub.list h rfl
theorem reach_15 {p : Nat} (h : p = partsMask ([.regs .st, .regs .sb, .regs .wd, .regs .cr, .regs .xcp, .regs .ck, .clk, .msix, .winder, .lanes, .xp, .sampler, .scrubs, .pins, .events, .sent, .stopes])) :
    Sub 15766167822011280 p := Sub.list h rfl
theorem reach_16 {p : Nat} (h : p = partsMask ([.regs .st, .regs .cfs, .regs .sb, .scrubs, .events, .stopes])) :
    Sub 11260098580054224 p := Sub.list h rfl
theorem reach_17 {p : Nat} (h : p = partsMask ([.regs .st, .regs .cf, .regs .cfs, .regs .sb, .scrubs, .events, .stopes])) :
    Sub 11260098580054256 p := Sub.list h rfl
theorem reach_18 {p : Nat} (h : p = partsMask ([.regs .st, .regs .ck, .clk, .stopes])) :
    Sub 9007203558096912 p := Sub.list h rfl
theorem reach_19 {p : Nat} (h : p = partsMask ([.regs .st, .stopes])) :
    Sub 9007199254741008 p := Sub.list h rfl
theorem reach_20 {p : Nat} (h : p = partsMask ([.stopes])) :
    Sub 9007199254740992 p := Sub.list h rfl
theorem reach_21 {p : Nat} (h : p = partsMask ([.regs .st, .regs .sb, .regs .wd, .regs .cr, .msix, .winder, .sampler, .events, .sent, .stopes])) :
    Sub 15762761904554896 p := Sub.list h rfl
theorem reach_22 {p : Nat} (h : p = partsMask ([.winder])) :
    Sub 17179869184 p := Sub.list h rfl
theorem reach_23 {p : Nat} (h : p = partsMask ([.regs .st])) :
    Sub 16 p := Sub.list h rfl
theorem reach_24 {p : Nat} (h : p = partsMask ([.regs .st, .regs .sb, .regs .wd, .regs .cr, .msix, .winder, .sampler, .cage, .events, .sent, .stopes])) :
    Sub 15780354090599312 p := Sub.list h rfl
theorem reach_25 {p : Nat} (h : p = partsMask ([.regs .st, .regs .sb, .regs .wd, .regs .cr, .regs .dc, .regs .en, .msix, .winder, .sampler, .dram, .crypto, .scrubs, .events, .sent, .stopes])) :
    Sub 15764686049923984 p := Sub.list h rfl
theorem reach_26 {p : Nat} (h : p = partsMask ([.regs .st, .regs .sb, .regs .wd, .regs .cr, .regs .dc, .regs .en, .sampler, .dram, .crypto, .scrubs, .stopes])) :
    Sub 9009260839064464 p := Sub.list h rfl
theorem reach_27 {p : Nat} (h : p = partsMask ([.regs .cf, .loader])) :
    Sub 4398046511136 p := Sub.list h rfl
theorem reach_28 {p : Nat} (h : p = partsMask ([.regs .cf, .regs .cfs, .loader])) :
    Sub 4398046511200 p := Sub.list h rfl
theorem reach_29 {p : Nat} (h : p = partsMask ([.regs .cf, .regs .cfs, .loader, .sent])) :
    Sub 4507997673881696 p := Sub.list h rfl
theorem reach_30 {p : Nat} (h : p = partsMask ([.regs .st, .regs .cf, .regs .cfs, .regs .sb, .regs .wd, .regs .cr, .msix, .winder, .sampler, .scrubs, .pins, .loader, .events, .sent, .stopes])) :
    Sub 15770458485949424 p := Sub.list h rfl
theorem reach_31 {p : Nat} (h : p = partsMask ([.regs .st, .regs .cf, .regs .cfs, .regs .sb, .regs .wd, .regs .cr, .regs .dc, .regs .en, .sampler, .dram, .crypto, .scrubs, .loader, .stopes])) :
    Sub 9013658885575664 p := Sub.list h rfl
theorem reach_32 {p : Nat} (h : p = partsMask ([.regs .qu, .regs .st, .regs .cf, .regs .sb, .regs .wd, .regs .cr, .regs .xcp, .regs .dc, .regs .en, .regs .fm, .winder, .lanes, .xp, .sampler, .dram, .crypto, .scrubs, .loader, .cage, .fm, .events, .sent, .stopes])) :
    Sub 15927508260182968 p := Sub.list h rfl
theorem reach_33 {p : Nat} (h : p = partsMask ([.regs .cf, .regs .cfs, .regs .sb, .regs .fm, .scrubs, .loader, .fm, .events, .stopes])) :
    Sub 11405234114986208 p := Sub.list h rfl
theorem reach_34 {p : Nat} (h : p = partsMask ([.regs .cf, .regs .cfs, .regs .fm, .loader])) :
    Sub 4398046576736 p := Sub.list h rfl
theorem reach_35 {p : Nat} (h : p = partsMask ([.regs .cf, .regs .fm, .loader, .fm, .events])) :
    Sub 2396935348617248 p := Sub.list h rfl
theorem reach_36 {p : Nat} (h : p = partsMask ([.regs .cfs, .loader])) :
    Sub 4398046511168 p := Sub.list h rfl
theorem reach_37 {p : Nat} (h : p = partsMask ([.regs .st, .regs .sb, .scrubs, .pins, .events, .sent, .stopes])) :
    Sub 15765897230680208 p := Sub.list h rfl
theorem reach_38 {p : Nat} (h : p = partsMask ([.events, .sent, .stopes])) :
    Sub 15762598695796736 p := Sub.list h rfl
theorem reach_39 {p : Nat} (h : p = partsMask ([.regs .st, .regs .sb, .regs .wd, .regs .cr, .msix, .winder, .sampler, .scrubs, .events, .sent, .stopes])) :
    Sub 15763861416182672 p := Sub.list h rfl
theorem reach_40 {p : Nat} (h : p = partsMask ([.regs .st, .regs .sb])) :
    Sub 144 p := Sub.list h rfl
theorem reach_41 {p : Nat} (h : p = partsMask ([.regs .sb, .scrubs, .sent])) :
    Sub 4504699138998400 p := Sub.list h rfl
theorem reach_42 {p : Nat} (h : p = partsMask ([.regs .sb, .scrubs])) :
    Sub 1099511627904 p := Sub.list h rfl
theorem reach_43 {p : Nat} (h : p = partsMask ([.regs .sb, .scrubs, .events])) :
    Sub 2252899325313152 p := Sub.list h rfl
theorem reach_44 {p : Nat} (h : p = partsMask ([.regs .sb, .stopes])) :
    Sub 9007199254741120 p := Sub.list h rfl
theorem reach_45 {p : Nat} (h : p = partsMask ([.regs .st, .regs .sb, .regs .wd, .regs .cr, .msix, .winder, .sampler, .events, .sent])) :
    Sub 6755562649813904 p := Sub.list h rfl
theorem reach_46 {p : Nat} (h : p = partsMask ([.regs .wd, .msix, .sent])) :
    Sub 4503608217305344 p := Sub.list h rfl
theorem reach_47 {p : Nat} (h : p = partsMask ([.regs .tr, .regs .st, .regs .sb, .regs .wd, .regs .cr, .msix, .winder, .sampler, .scrubs, .events, .sent, .stopes])) :
    Sub 15763861416182676 p := Sub.list h rfl
theorem reach_48 {p : Nat} (h : p = partsMask ([.regs .wd, .regs .cr, .sampler])) :
    Sub 137438954240 p := Sub.list h rfl
theorem reach_49 {p : Nat} (h : p = partsMask ([.regs .st, .regs .cf, .regs .sb, .regs .wd, .regs .cr, .msix, .winder, .sampler, .scrubs, .pins, .events, .sent, .stopes])) :
    Sub 15766060439438256 p := Sub.list h rfl
theorem reach_50 {p : Nat} (h : p = partsMask ([.regs .tr, .regs .qu, .regs .st, .regs .cf, .regs .sb, .regs .wd, .regs .cr, .regs .xcp, .regs .dc, .regs .en, .regs .lp, .msix, .winder, .lanes, .xp, .sampler, .dram, .crypto, .scrubs, .pins, .cage, .events, .sent, .stopes])) :
    Sub 15784580342635452 p := Sub.list h rfl
theorem reach_51 {p : Nat} (h : p = partsMask ([.regs .wd, .regs .cr, .msix, .winder, .sampler, .sent, .stopes])) :
    Sub 13510962090869504 p := Sub.list h rfl
theorem reach_52 {p : Nat} (h : p = partsMask ([.regs .xc, .regs .xcp, .regs .ck, .clk, .msix, .lanes, .xp, .sent])) :
    Sub 4503715599879168 p := Sub.list h rfl
theorem reach_53 {p : Nat} (h : p = partsMask ([.regs .xc, .regs .xcp, .msix, .lanes, .xp, .sent])) :
    Sub 4503711296523264 p := Sub.list h rfl
theorem reach_54 {p : Nat} (h : p = partsMask (Part.blocks ++ [.msix, .lanes, .xp, .sent])) :
    Sub 4503711313297407 p := Sub.list h rfl
theorem reach_55 {p : Nat} (h : p = partsMask ([.regs .xcp, .lanes])) :
    Sub 34359740416 p := Sub.list h rfl
theorem reach_56 {p : Nat} (h : p = partsMask ([.regs .xcp, .lanes, .sent])) :
    Sub 4503633987110912 p := Sub.list h rfl
theorem reach_57 {p : Nat} (h : p = partsMask ([.regs .xcp])) :
    Sub 2048 p := Sub.list h rfl
theorem reach_58 {p : Nat} (h : p = partsMask ([.regs .wd, .regs .xcp, .lanes, .xp, .sent])) :
    Sub 4503702706587904 p := Sub.list h rfl
theorem reach_59 {p : Nat} (h : p = partsMask ([.regs .xcp, .lanes, .xp, .events, .sent])) :
    Sub 6755502520272896 p := Sub.list h rfl
theorem reach_60 {p : Nat} (h : p = partsMask ([.regs .xcp, .lanes, .xp, .sent])) :
    Sub 4503702706587648 p := Sub.list h rfl
theorem reach_61 {p : Nat} (h : p = partsMask ([.lanes, .sent])) :
    Sub 4503633987108864 p := Sub.list h rfl
theorem reach_62 {p : Nat} (h : p = partsMask ([.regs .cg, .msix, .cage, .sent])) :
    Sub 4521200403349505 p := Sub.list h rfl
theorem reach_63 {p : Nat} (h : p = partsMask ([.regs .cg])) :
    Sub 1 p := Sub.list h rfl
theorem reach_64 {p : Nat} (h : p = partsMask ([.regs .cg, .regs .qu, .msix, .cage])) :
    Sub 17600775979017 p := Sub.list h rfl
theorem reach_65 {p : Nat} (h : p = partsMask ([.regs .cg, .regs .qu, .regs .st, .regs .sb, .regs .wd, .regs .cr, .regs .dc, .regs .en, .msix, .sampler, .dram, .crypto, .scrubs, .cage, .sent, .stopes])) :
    Sub 13530461242413977 p := Sub.list h rfl
theorem reach_66 {p : Nat} (h : p = partsMask ([.regs .cg, .regs .qu, .msix, .cage, .sent])) :
    Sub 4521200403349513 p := Sub.list h rfl
theorem reach_67 {p : Nat} (h : p = partsMask ([.regs .qu, .regs .st, .regs .sb, .regs .wd, .regs .cr, .regs .dc, .regs .en, .sampler, .dram, .crypto, .scrubs, .cage, .sent, .stopes])) :
    Sub 13530452652479384 p := Sub.list h rfl
theorem reach_68 {p : Nat} (h : p = partsMask ([.regs .tr, .regs .qu, .regs .st, .regs .sb, .regs .wd, .regs .cr, .regs .dc, .regs .en, .sampler, .dram, .crypto, .scrubs, .cage, .tram, .events, .sent, .stopes])) :
    Sub 15852621210342300 p := Sub.list h rfl
theorem reach_69 {p : Nat} (h : p = partsMask ([.regs .qu, .regs .st, .regs .sb, .regs .wd, .regs .cr, .sampler, .scrubs, .cage, .sent, .stopes])) :
    Sub 13529628018738072 p := Sub.list h rfl
theorem reach_70 {p : Nat} (h : p = partsMask ([.regs .qu, .cage, .sent])) :
    Sub 4521191813414920 p := Sub.list h rfl
theorem reach_71 {p : Nat} (h : p = partsMask ([.regs .qu, .msix, .cage, .sent])) :
    Sub 4521200403349512 p := Sub.list h rfl
theorem reach_72 {p : Nat} (h : p = partsMask ([.msix, .sent])) :
    Sub 4503608217305088 p := Sub.list h rfl
theorem reach_73 {p : Nat} (h : p = partsMask ([.regs .tr, .regs .gl, .regs .ck, .clk, .gallery, .tram, .sent, .stopes])) :
    Sub 13616356301766660 p := Sub.list h rfl
theorem reach_74 {p : Nat} (h : p = partsMask ([.regs .tr, .regs .gl, .gallery, .tram, .events, .sent])) :
    Sub 6860952557355012 p := Sub.list h rfl
theorem reach_75 {p : Nat} (h : p = partsMask ([.regs .tr, .regs .gl, .regs .ck, .clk, .gallery, .tram, .sent])) :
    Sub 4609157047025668 p := Sub.list h rfl
theorem reach_76 {p : Nat} (h : p = partsMask ([.regs .gl])) :
    Sub 32768 p := Sub.list h rfl
theorem reach_77 {p : Nat} (h : p = partsMask ([.gallery])) :
    Sub 35184372088832 p := Sub.list h rfl
theorem reach_78 {p : Nat} (h : p = partsMask ([.regs .dc, .regs .pc, .regs .en, .regs .fm, .dram, .crypto, .fm, .events])) :
    Sub 2393361935855616 p := Sub.list h rfl
theorem reach_79 {p : Nat} (h : p = partsMask ([.regs .st, .regs .sb, .regs .wd, .regs .cr, .regs .dc, .regs .pc, .regs .en, .regs .fm, .regs .lp, .msix, .sampler, .dram, .crypto, .scrubs, .pins, .fm, .events, .sent, .stopes])) :
    Sub 15907605385933712 p := Sub.list h rfl
theorem reach_80 {p : Nat} (h : p = partsMask ([.regs .cg, .regs .cf, .regs .wd, .regs .pc, .regs .fm, .regs .lp, .fm, .events])) :
    Sub 2392537306308897 p := Sub.list h rfl
theorem reach_81 {p : Nat} (h : p = partsMask ([.regs .cg, .regs .cf, .regs .wd, .regs .pc, .regs .lp, .events])) :
    Sub 2251799817888033 p := Sub.list h rfl
theorem reach_82 {p : Nat} (h : p = partsMask ([.regs .st, .regs .sb, .regs .wd, .regs .cr, .regs .dc, .regs .en, .regs .lp, .sampler, .dram, .crypto, .scrubs, .pins, .events, .sent, .stopes])) :
    Sub 15766859307570064 p := Sub.list h rfl
theorem reach_83 {p : Nat} (h : p = partsMask ([.regs .dc, .dram])) :
    Sub 274877911040 p := Sub.list h rfl
theorem reach_84 {p : Nat} (h : p = partsMask ([.dram])) :
    Sub 274877906944 p := Sub.list h rfl
theorem reach_85 {p : Nat} (h : p = partsMask ([.regs .dc])) :
    Sub 4096 p := Sub.list h rfl
theorem reach_86 {p : Nat} (h : p = partsMask ([.regs .trc, .regs .tr, .regs .ck, .clk, .tram])) :
    Sub 70373047533574 p := Sub.list h rfl
theorem reach_87 {p : Nat} (h : p = partsMask ([.regs .trc, .regs .tr, .regs .gl, .regs .ck, .clk, .gallery, .tram, .sent, .stopes])) :
    Sub 13616356301766662 p := Sub.list h rfl
theorem reach_88 {p : Nat} (h : p = partsMask ([.regs .trc, .regs .tr, .regs .sc, .regs .lp, .regs .ck, .clk, .tram, .trace])) :
    Sub 633323005411334 p := Sub.list h rfl
theorem reach_89 {p : Nat} (h : p = partsMask ([.regs .tr, .regs .ck, .clk, .tram])) :
    Sub 70373047533572 p := Sub.list h rfl
theorem reach_90 {p : Nat} (h : p = partsMask ([.regs .tr, .tram])) :
    Sub 70368744177668 p := Sub.list h rfl
theorem reach_91 {p : Nat} (h : p = partsMask ([.regs .trc, .tram])) :
    Sub 70368744177666 p := Sub.list h rfl
theorem reach_92 {p : Nat} (h : p = partsMask ([.regs .trc, .regs .tr, .tram, .sent])) :
    Sub 4573968371548166 p := Sub.list h rfl
theorem reach_93 {p : Nat} (h : p = partsMask ([.tram, .sent])) :
    Sub 4573968371548160 p := Sub.list h rfl
theorem reach_94 {p : Nat} (h : p = partsMask ([.regs .tr, .regs .ck, .clk, .tram, .events, .sent])) :
    Sub 6825772488589316 p := Sub.list h rfl
theorem reach_95 {p : Nat} (h : p = partsMask ([.regs .tr, .tram, .events, .sent])) :
    Sub 6825768185233412 p := Sub.list h rfl
theorem reach_96 {p : Nat} (h : p = partsMask ([.tram])) :
    Sub 70368744177664 p := Sub.list h rfl
theorem reach_97 {p : Nat} (h : p = partsMask ([.regs .trc, .regs .tr, .regs .ck, .clk, .tram, .events, .sent])) :
    Sub 6825772488589318 p := Sub.list h rfl
theorem reach_98 {p : Nat} (h : p = partsMask ([.regs .wd, .regs .fm, .regs .bw, .msix, .winder, .bell, .fm, .events, .sent])) :
    Sub 6904958792433920 p := Sub.list h rfl
theorem reach_99 {p : Nat} (h : p = partsMask ([.regs .cg, .regs .fm, .fm, .events])) :
    Sub 2392537302106113 p := Sub.list h rfl
theorem reach_100 {p : Nat} (h : p = partsMask ([.regs .fm, .msix, .fm, .events, .sent])) :
    Sub 6896145519411200 p := Sub.list h rfl
theorem reach_101 {p : Nat} (h : p = partsMask ([.regs .fm, .regs .ck, .msix, .tram, .fm, .events, .sent])) :
    Sub 6966514271977472 p := Sub.list h rfl
theorem reach_102 {p : Nat} (h : p = partsMask ([.regs .fm, .fm])) :
    Sub 140737488420864 p := Sub.list h rfl
theorem reach_103 {p : Nat} (h : p = partsMask ([.regs .fm, .fm, .events])) :
    Sub 2392537302106112 p := Sub.list h rfl
theorem reach_104 {p : Nat} (h : p = partsMask ([.regs .en, .regs .fm, .msix, .dram, .crypto, .fm, .sent])) :
    Sub 4645170339463168 p := Sub.list h rfl
theorem reach_105 {p : Nat} (h : p = partsMask ([.regs .fm, .regs .iob, .msix, .fm, .events, .sent])) :
    Sub 6896145520459776 p := Sub.list h rfl
theorem reach_106 {p : Nat} (h : p = partsMask ([.regs .fm])) :
    Sub 65536 p := Sub.list h rfl
theorem reach_107 {p : Nat} (h : p = partsMask ([.regs .wd, .regs .bw, .msix, .winder, .bell, .events, .sent])) :
    Sub 6764221304013056 p := Sub.list h rfl
theorem reach_108 {p : Nat} (h : p = partsMask ([.regs .bw, .events, .sent])) :
    Sub 6755399441186816 p := Sub.list h rfl
theorem reach_109 {p : Nat} (h : p = partsMask ([.bell, .sent])) :
    Sub 4512395720392704 p := Sub.list h rfl
theorem reach_110 {p : Nat} (h : p = partsMask ([.regs .wd, .msix, .winder, .sent])) :
    Sub 4503625397174528 p := Sub.list h rfl
theorem reach_111 {p : Nat} (h : p = partsMask ([.regs .wd, .sent])) :
    Sub 4503599627370752 p := Sub.list h rfl
theorem reach_112 {p : Nat} (h : p = partsMask ([.regs .wd, .regs .cr, .msix, .winder, .sampler, .events, .sent])) :
    Sub 6755562649813760 p := Sub.list h rfl
theorem reach_113 {p : Nat} (h : p = partsMask ([.regs .bw])) :
    Sub 131072 p := Sub.list h rfl
theorem reach_114 {p : Nat} (h : p = partsMask ([.regs .bw, .regs .sc, .msix, .bell, .shift, .events, .sent])) :
    Sub 7045679101116416 p := Sub.list h rfl
theorem reach_115 {p : Nat} (h : p = partsMask ([.sent])) :
    Sub 4503599627370496 p := Sub.list h rfl
theorem reach_116 {p : Nat} (h : p = partsMask ([.regs .sc, .msix, .shift, .trace, .events, .sent])) :
    Sub 7599832961384448 p := Sub.list h rfl
theorem reach_117 {p : Nat} (h : p = partsMask ([.regs .sc, .shift, .sent])) :
    Sub 4785074604343296 p := Sub.list h rfl
theorem reach_118 {p : Nat} (h : p = partsMask ([.regs .sc, .shift])) :
    Sub 281474976972800 p := Sub.list h rfl
theorem reach_119 {p : Nat} (h : p = partsMask ([.regs .sc, .shift, .trace, .events])) :
    Sub 3096224744079360 p := Sub.list h rfl
theorem reach_120 {p : Nat} (h : p = partsMask ([.regs .sc, .shift, .events, .sent])) :
    Sub 7036874418028544 p := Sub.list h rfl
theorem reach_121 {p : Nat} (h : p = partsMask ([.regs .sc, .msix, .shift, .events, .sent])) :
    Sub 7036883007963136 p := Sub.list h rfl
theorem reach_122 {p : Nat} (h : p = partsMask ([.regs .sc, .msix, .sent])) :
    Sub 4503608217567232 p := Sub.list h rfl
theorem reach_123 {p : Nat} (h : p = partsMask ([.regs .sc, .msix, .shift, .sent])) :
    Sub 4785083194277888 p := Sub.list h rfl
theorem reach_124 {p : Nat} (h : p = partsMask ([.regs .lp, .sent])) :
    Sub 4503599631564800 p := Sub.list h rfl
theorem reach_125 {p : Nat} (h : p = partsMask ([.regs .lp, .lamp])) :
    Sub 1125899911036928 p := Sub.list h rfl
theorem reach_126 {p : Nat} (h : p = partsMask ([.regs .lp])) :
    Sub 4194304 p := Sub.list h rfl
theorem reach_127 {p : Nat} (h : p = partsMask ([.regs .sc, .regs .lp, .trace])) :
    Sub 562949957877760 p := Sub.list h rfl
theorem reach_128 {p : Nat} (h : p = partsMask ([.regs .st, .regs .sb, .regs .wd, .regs .cr, .regs .dc, .regs .en, .regs .lp, .sampler, .dram, .crypto, .scrubs, .trace, .stopes])) :
    Sub 9572210796680080 p := Sub.list h rfl
theorem reach_129 {p : Nat} (h : p = partsMask ([.regs .iob, .regs .ck])) :
    Sub 9437184 p := Sub.list h rfl
theorem reach_130 {p : Nat} (h : p = partsMask ([.regs .iob, .pins])) :
    Sub 2199024304128 p := Sub.list h rfl
theorem reach_131 {p : Nat} (h : p = partsMask ([.regs .iob, .regs .ck, .pins])) :
    Sub 2199032692736 p := Sub.list h rfl
theorem reach_132 {p : Nat} (h : p = partsMask ([.regs .io, .regs .iom])) :
    Sub 2621440 p := Sub.list h rfl
theorem reach_133 {p : Nat} (h : p = partsMask ([.regs .io, .regs .iob, .regs .iom, .pins])) :
    Sub 2199026925568 p := Sub.list h rfl
theorem reach_134 {p : Nat} (h : p = partsMask (Part.blocks ++ [.sampler, .scrubs, .cage, .tram, .shift, .events, .sent, .stopes])) :
    Sub 16133271570087935 p := Sub.list h rfl
theorem reach_135 {p : Nat} (h : p = partsMask ([.regs .cg, .msix, .events, .sent])) :
    Sub 6755408030990337 p := Sub.list h rfl
theorem reach_136 {p : Nat} (h : p = partsMask ([.regs .fm, .msix, .fm, .sent])) :
    Sub 4644345705725952 p := Sub.list h rfl
theorem reach_137 {p : Nat} (h : p = partsMask ([.regs .tr, .regs .st, .regs .sb, .regs .wd, .regs .cr, .regs .dc, .regs .en, .regs .lp, .sampler, .dram, .crypto, .scrubs, .trace, .sent, .stopes])) :
    Sub 14075810424050580 p := Sub.list h rfl

/-- What any command may do: the queue stays, the output grows, tables keep their form, other memories and parts stay. -/
theorem exec_moves {c : Instr} {s t : State} (e : exec c s = .next t) : Moves (footOf c) s t :=
  match c, e with
  | .cold, e => execCold_moves rfl rfl rfl rfl (reach_0 rfl) (show execCold s = .next t from e) Moves.refl
  | .vccAonLoss, e => execVccAonLoss_moves (reach_1 rfl) (show execVccAonLoss s = .next t from e) Moves.refl
  | .refclkWindowEnd x0, e => execRefclkWindowEnd_moves rfl rfl rfl (reach_0 rfl) (show execRefclkWindowEnd x0 s = .next t from e) Moves.refl
  | .refclkEdgeTimeout, e => execRefclkEdgeTimeout_moves rfl rfl rfl (reach_0 rfl) (show execRefclkEdgeTimeout s = .next t from e) Moves.refl
  | .rootLock, e => execRootLock_moves (reach_2 rfl) (show execRootLock s = .next t from e) Moves.refl
  | .lockTimeout, e => execLockTimeout_moves (reach_2 rfl) (show execLockTimeout s = .next t from e) Moves.refl
  | .aligned, e => execAligned_moves (reach_3 rfl) (show execAligned s = .next t from e) Moves.refl
  | .clockSwitchDone, e => execClockSwitchDone_moves (reach_2 rfl) (show execClockSwitchDone s = .next t from e) Moves.refl
  | .switchHang, e => execSwitchHang_moves (reach_3 rfl) (show execSwitchHang s = .next t from e) Moves.refl
  | .foremanResetRelease, e => execForemanResetRelease_moves (reach_4 rfl) (show execForemanResetRelease s = .next t from e) Moves.refl
  | .rootLost, e => execRootLost_moves rfl rfl rfl (reach_0 rfl) (show execRootLost s = .next t from e) Moves.refl
  | .railLost x0, e => execRailLost_moves rfl rfl rfl (reach_0 rfl) (show execRailLost x0 s = .next t from e) Moves.refl
  | .railGood, e => execRailGood_moves (reach_3 rfl) (show execRailGood s = .next t from e) Moves.refl
  | .retry x0, e => execRetry_moves (reach_3 rfl) (show execRetry x0 s = .next t from e) Moves.refl
  | .phaseDivWrite x0, e => execPhaseDivWrite_moves (reach_3 rfl) (show execPhaseDivWrite x0 s = .next t from e) Moves.refl
  | .phaseDivApply, e => execPhaseDivApply_moves (reach_3 rfl) (show execPhaseDivApply s = .next t from e) Moves.refl
  | .clockGate x0 x1, e => execClockGate_moves (reach_3 rfl) (show execClockGate x0 x1 s = .next t from e) Moves.refl
  | .perstAssert, e => execPerstAssert_moves rfl rfl rfl (reach_0 rfl) (show execPerstAssert s = .next t from e) Moves.refl
  | .warmReq x0 x1, e => execWarmReq_moves rfl rfl rfl (reach_0 rfl) (show execWarmReq x0 x1 s = .next t from e) Moves.refl
  | .warmHoldEnd, e => execWarmHoldEnd_moves (reach_4 rfl) (show execWarmHoldEnd s = .next t from e) Moves.refl
  | .stopeResetReq x0, e => execStopeResetReq_moves (reach_5 rfl) (show execStopeResetReq x0 s = .next t from e) Moves.refl
  | .stopeResetLineHigh, e => execStopeResetLineHigh_moves (reach_6 rfl) (show execStopeResetLineHigh s = .next t from e) Moves.refl
  | .stopeResetEnd, e => execStopeResetEnd_moves rfl (reach_7 rfl) (show execStopeResetEnd s = .next t from e) Moves.refl
  | .engineResetReq x0, e => execEngineResetReq_moves rfl (reach_8 rfl) (show execEngineResetReq x0 s = .next t from e) Moves.refl
  | .engineResetDone, e => execEngineResetDone_moves rfl (reach_8 rfl) (show execEngineResetDone s = .next t from e) Moves.refl
  | .stopePowerDown x0, e => execStopePowerDown_moves rfl rfl (reach_5 rfl) (show execStopePowerDown x0 s = .next t from e) Moves.refl
  | .stopePowerUp x0, e => execStopePowerUp_moves (reach_3 rfl) (show execStopePowerUp x0 s = .next t from e) Moves.refl
  | .stopePowerUpDone x0, e => execStopePowerUpDone_moves (reach_3 rfl) (show execStopePowerUpDone x0 s = .next t from e) Moves.refl
  | .crewPowerDown x0, e => execCrewPowerDown_moves (reach_9 rfl) (show execCrewPowerDown x0 s = .next t from e) Moves.refl
  | .crewPowerUp x0, e => execCrewPowerUp_moves (reach_3 rfl) (show execCrewPowerUp x0 s = .next t from e) Moves.refl
  | .crewPowerUpDone x0, e => execCrewPowerUpDone_moves rfl (reach_10 rfl) (show execCrewPowerUpDone x0 s = .next t from e) Moves.refl
  | .strokeStart, e => execStrokeStart_moves (reach_11 rfl) (show execStrokeStart s = .next t from e) Moves.refl
  | .activePhase, e => execActivePhase_moves rfl (reach_12 rfl) (show execActivePhase s = .next t from e) Moves.refl
  | .slotEnd, e => execSlotEnd_moves (reach_13 rfl) (show execSlotEnd s = .next t from e) Moves.refl
  | .holdPhase, e => execHoldPhase_moves (reach_14 rfl) (show execHoldPhase s = .next t from e) Moves.refl
  | .strokeBoundary, e => execStrokeBoundary_moves (reach_15 rfl) (show execStrokeBoundary s = .next t from e) Moves.refl
  | .columnRepair x0 x1, e => execColumnRepair_moves (reach_16 rfl) (show execColumnRepair x0 x1 s = .next t from e) Moves.refl
  | .refillDone x0, e => execRefillDone_moves rfl (reach_16 rfl) (show execRefillDone x0 s = .next t from e) Moves.refl
  | .refillShadowError x0, e => execRefillShadowError_moves rfl (reach_17 rfl) (show execRefillShadowError x0 s = .next t from e) Moves.refl
  | .treeSrcWrite x0 x1, e => execTreeSrcWrite_moves (reach_18 rfl) (show execTreeSrcWrite x0 x1 s = .next t from e) Moves.refl
  | .treeSwitchDone x0, e => execTreeSwitchDone_moves (reach_19 rfl) (show execTreeSwitchDone x0 s = .next t from e) Moves.refl
  | .treeSwitchHang x0, e => execTreeSwitchHang_moves (reach_19 rfl) (show execTreeSwitchHang x0 s = .next t from e) Moves.refl
  | .treeStep x0 x1, e => execTreeStep_moves rfl (reach_12 rfl) (show execTreeStep x0 x1 s = .next t from e) Moves.refl
  | .eccWriteback x0 x1 x2, e => execEccWriteback_moves rfl (reach_20 rfl) (show execEccWriteback x0 x1 x2 s = .next t from e) Moves.refl
  | .sweepStep x0, e => execSweepStep_moves (reach_21 rfl) (show execSweepStep x0 s = .next t from e) Moves.refl
  | .copyStarved x0 x1, e => execCopyStarved_moves (reach_22 rfl) (show execCopyStarved x0 x1 s = .next t from e) Moves.refl
  | .memInjectArm x0 x1 x2, e => execMemInjectArm_moves (reach_23 rfl) (show execMemInjectArm x0 x1 x2 s = .next t from e) Moves.refl
  | .binQueueMove x0 x1, e => execBinQueueMove_moves rfl (reach_24 rfl) (show execBinQueueMove x0 x1 s = .next t from e) Moves.refl
  | .levelIrqResponse x0 x1 x2, e => execLevelIrqResponse_moves (reach_19 rfl) (show execLevelIrqResponse x0 x1 x2 s = .next t from e) Moves.refl
  | .corerCopyUnit x0 x1 x2, e => execCorerCopyUnit_moves rfl (reach_25 rfl) (show execCorerCopyUnit x0 x1 x2 s = .next t from e) Moves.refl
  | .journalStore x0 x1 x2, e => execJournalStore_moves rfl (reach_26 rfl) (show execJournalStore x0 x1 x2 s = .next t from e) Moves.refl
  | .start x0, e => execStart_moves (reach_27 rfl) (show execStart x0 s = .next t from e) Moves.refl
  | .abort, e => execAbort_moves (reach_28 rfl) (show execAbort s = .next t from e) Moves.refl
  | .extentPush x0 x1 x2 x3, e => execExtentPush_moves (reach_27 rfl) (show execExtentPush x0 x1 x2 x3 s = .next t from e) Moves.refl
  | .extentReadData x0 x1, e => execExtentReadData_moves (reach_29 rfl) (show execExtentReadData x0 x1 s = .next t from e) Moves.refl
  | .streamHeader x0, e => execStreamHeader_moves rfl rfl (reach_30 rfl) (show execStreamHeader x0 s = .next t from e) Moves.refl
  | .segmentHeader x0, e => execSegmentHeader_moves (reach_28 rfl) (show execSegmentHeader x0 s = .next t from e) Moves.refl
  | .segmentTagCheck x0, e => execSegmentTagCheck_moves (reach_28 rfl) (show execSegmentTagCheck x0 s = .next t from e) Moves.refl
  | .nop x0, e => execNop_moves (reach_28 rfl) (show execNop x0 s = .next t from e) Moves.refl
  | .write x0 x1, e => execWrite_moves (reach_28 rfl) (show execWrite x0 x1 s = .next t from e) Moves.refl
  | .meminit x0 x1, e => execMeminit_moves rfl (reach_28 rfl) (show execMeminit x0 x1 s = .next t from e) Moves.refl
  | .ibeusEnd x0, e => execIbeusEnd_moves (reach_28 rfl) (show execIbeusEnd x0 s = .next t from e) Moves.refl
  | .frameWritten x0, e => execFrameWritten_moves rfl rfl (reach_31 rfl) (show execFrameWritten x0 s = .next t from e) Moves.refl
  | .shadowWriteAck x0, e => execShadowWriteAck_moves (reach_28 rfl) (show execShadowWriteAck x0 s = .next t from e) Moves.refl
  | .loadComplete, e => execLoadComplete_moves rfl (reach_32 rfl) (show execLoadComplete s = .next t from e) Moves.refl
  | .abortDone, e => execAbortDone_moves rfl (reach_33 rfl) (show execAbortDone s = .next t from e) Moves.refl
  | .loadDeadline, e => execLoadDeadline_moves (reach_34 rfl) (show execLoadDeadline s = .next t from e) Moves.refl
  | .diagSectionCheck x0 x1 x2, e => execDiagSectionCheck_moves (reach_35 rfl) (show execDiagSectionCheck x0 x1 x2 s = .next t from e) Moves.refl
  | .readback x0 x1, e => execReadback_moves (reach_36 rfl) (show execReadback x0 x1 s = .next t from e) Moves.refl
  | .readbackDone x0, e => execReadbackDone_moves (reach_36 rfl) (show execReadbackDone x0 s = .next t from e) Moves.refl
  | .isolate x0 x1, e => execIsolate_moves (reach_23 rfl) (show execIsolate x0 x1 s = .next t from e) Moves.refl
  | .release x0 x1, e => execRelease_moves (reach_23 rfl) (show execRelease x0 x1 s = .next t from e) Moves.refl
  | .isoEffect x0, e => execIsoEffect_moves (reach_37 rfl) (show execIsoEffect x0 s = .next t from e) Moves.refl
  | .stopePortResponse x0 x1 x2 x3 x4, e => execStopePortResponse_moves (reach_20 rfl) (show execStopePortResponse x0 x1 x2 x3 x4 s = .next t from e) Moves.refl
  | .stopePortTargetAccess x0, e => execStopePortTargetAccess_moves (reach_38 rfl) (show execStopePortTargetAccess x0 s = .next t from e) Moves.refl
  | .scrubFrameRead x0 x1 x2 x3, e => execScrubFrameRead_moves rfl (reach_39 rfl) (show execScrubFrameRead x0 x1 x2 x3 s = .next t from e) Moves.refl
  | .shadowRepairRead x0 x1 x2, e => execShadowRepairRead_moves rfl (reach_39 rfl) (show execShadowRepairRead x0 x1 x2 s = .next t from e) Moves.refl
  | .spoilClear x0, e => execSpoilClear_moves (reach_40 rfl) (show execSpoilClear x0 s = .next t from e) Moves.refl
  | .sbCtrlRefresh x0 x1, e => execSbCtrlRefresh_moves (reach_41 rfl) (show execSbCtrlRefresh x0 x1 s = .next t from e) Moves.refl
  | .refreshLost x0, e => execRefreshLost_moves (reach_42 rfl) (show execRefreshLost x0 s = .next t from e) Moves.refl
  | .peerFaultRestart x0, e => execPeerFaultRestart_moves (reach_43 rfl) (show execPeerFaultRestart x0 s = .next t from e) Moves.refl
  | .scrubEnable x0 x1, e => execScrubEnable_moves (reach_42 rfl) (show execScrubEnable x0 x1 s = .next t from e) Moves.refl
  | .scrubInject x0 x1, e => execScrubInject_moves rfl (reach_44 rfl) (show execScrubInject x0 x1 s = .next t from e) Moves.refl
  | .run x0 x1 x2, e => execRun_moves (reach_45 rfl) (show execRun x0 x1 x2 s = .next t from e) Moves.refl
  | .stopAt x0 x1 x2, e => execStopAt_moves (reach_45 rfl) (show execStopAt x0 x1 x2 s = .next t from e) Moves.refl
  | .step x0 x1 x2, e => execStep_moves (reach_45 rfl) (show execStep x0 x1 x2 s = .next t from e) Moves.refl
  | .sample x0 x1 x2, e => execSample_moves (reach_45 rfl) (show execSample x0 x1 x2 s = .next t from e) Moves.refl
  | .backfill x0 x1 x2, e => execBackfill_moves (reach_45 rfl) (show execBackfill x0 x1 x2 s = .next t from e) Moves.refl
  | .rewind x0 x1 x2, e => execRewind_moves (reach_45 rfl) (show execRewind x0 x1 x2 s = .next t from e) Moves.refl
  | .replay x0 x1 x2, e => execReplay_moves (reach_45 rfl) (show execReplay x0 x1 x2 s = .next t from e) Moves.refl
  | .groupStall, e => execGroupStall_moves (reach_46 rfl) (show execGroupStall s = .next t from e) Moves.refl
  | .sampleCopyOut, e => execSampleCopyOut_moves (reach_47 rfl) (show execSampleCopyOut s = .next t from e) Moves.refl
  | .corerDrainFrame x0 x1 x2, e => execCorerDrainFrame_moves rfl (reach_26 rfl) (show execCorerDrainFrame x0 x1 x2 s = .next t from e) Moves.refl
  | .sampleComplete, e => execSampleComplete_moves (reach_48 rfl) (show execSampleComplete s = .next t from e) Moves.refl
  | .engLimitExpiry, e => execEngLimitExpiry_moves rfl (reach_49 rfl) (show execEngLimitExpiry s = .next t from e) Moves.refl
  | .engineAck x0, e => execEngineAck_moves (reach_39 rfl) (show execEngineAck x0 s = .next t from e) Moves.refl
  | .restoreDone x0, e => execRestoreDone_moves rfl rfl rfl rfl rfl (reach_50 rfl) (show execRestoreDone x0 s = .next t from e) Moves.refl
  | .stopeBackfillDone x0, e => execStopeBackfillDone_moves rfl (reach_51 rfl) (show execStopeBackfillDone x0 s = .next t from e) Moves.refl
  | .xcPortCtrlWrite x0 x1, e => execXcPortCtrlWrite_moves (reach_52 rfl) (show execXcPortCtrlWrite x0 x1 s = .next t from e) Moves.refl
  | .lanePllLock x0, e => execLanePllLock_moves (reach_53 rfl) (show execLanePllLock x0 s = .next t from e) Moves.refl
  | .los x0 x1, e => execLos_moves (reach_53 rfl) (show execLos x0 x1 s = .next t from e) Moves.refl
  | .cdrLock x0 x1, e => execCdrLock_moves (reach_53 rfl) (show execCdrLock x0 x1 s = .next t from e) Moves.refl
  | .cdrLockLost x0 x1, e => execCdrLockLost_moves (reach_53 rfl) (show execCdrLockLost x0 x1 s = .next t from e) Moves.refl
  | .fecCodeword x0 x1 x2 x3 x4, e => execFecCodeword_moves (reach_53 rfl) (show execFecCodeword x0 x1 x2 x3 x4 s = .next t from e) Moves.refl
  | .alignmentBlock x0 x1 x2, e => execAlignmentBlock_moves (reach_54 rfl) (show execAlignmentBlock x0 x1 x2 s = .next t from e) Moves.refl
  | .slip x0 x1 x2, e => execSlip_moves (reach_55 rfl) (show execSlip x0 x1 x2 s = .next t from e) Moves.refl
  | .txSleep x0 x1 x2, e => execTxSleep_moves (reach_55 rfl) (show execTxSleep x0 x1 x2 s = .next t from e) Moves.refl
  | .txSleepEntered x0 x1, e => execTxSleepEntered_moves (reach_56 rfl) (show execTxSleepEntered x0 x1 s = .next t from e) Moves.refl
  | .txWakeDone x0 x1, e => execTxWakeDone_moves (reach_55 rfl) (show execTxWakeDone x0 x1 s = .next t from e) Moves.refl
  | .rxSleep x0 x1 x2, e => execRxSleep_moves (reach_53 rfl) (show execRxSleep x0 x1 x2 s = .next t from e) Moves.refl
  | .sleepBlock x0 x1, e => execSleepBlock_moves (reach_53 rfl) (show execSleepBlock x0 x1 s = .next t from e) Moves.refl
  | .testWrite x0 x1 x2, e => execTestWrite_moves (reach_53 rfl) (show execTestWrite x0 x1 x2 s = .next t from e) Moves.refl
  | .txeqWrite x0 x1 x2, e => execTxeqWrite_moves (reach_57 rfl) (show execTxeqWrite x0 x1 x2 s = .next t from e) Moves.refl
  | .eyeScanGo x0 x1 x2 x3 x4 x5, e => execEyeScanGo_moves (reach_57 rfl) (show execEyeScanGo x0 x1 x2 x3 x4 x5 s = .next t from e) Moves.refl
  | .eyeScanDone x0 x1 x2, e => execEyeScanDone_moves (reach_57 rfl) (show execEyeScanDone x0 x1 x2 s = .next t from e) Moves.refl
  | .gate x0 x1 x2, e => execGate_moves (reach_58 rfl) (show execGate x0 x1 x2 s = .next t from e) Moves.refl
  | .streamMapWrite x0 x1 x2, e => execStreamMapWrite_moves (reach_57 rfl) (show execStreamMapWrite x0 x1 x2 s = .next t from e) Moves.refl
  | .altWrite x0 x1 x2, e => execAltWrite_moves (reach_57 rfl) (show execAltWrite x0 x1 x2 s = .next t from e) Moves.refl
  | .strokeFrame x0 x1 x2 x3, e => execStrokeFrame_moves (reach_59 rfl) (show execStrokeFrame x0 x1 x2 x3 s = .next t from e) Moves.refl
  | .ack x0 x1, e => execAck_moves (reach_60 rfl) (show execAck x0 x1 s = .next t from e) Moves.refl
  | .nak x0 x1, e => execNak_moves (reach_60 rfl) (show execNak x0 x1 s = .next t from e) Moves.refl
  | .ackTimer x0, e => execAckTimer_moves (reach_60 rfl) (show execAckTimer x0 s = .next t from e) Moves.refl
  | .resendTimeout x0, e => execResendTimeout_moves (reach_60 rfl) (show execResendTimeout x0 s = .next t from e) Moves.refl
  | .sync x0 x1 x2 x3 x4 x5 x6, e => execSync_moves (reach_60 rfl) (show execSync x0 x1 x2 x3 x4 x5 x6 s = .next t from e) Moves.refl
  | .syncTimer x0, e => execSyncTimer_moves (reach_61 rfl) (show execSyncTimer x0 s = .next t from e) Moves.refl
  | .failover x0 x1, e => execFailover_moves (reach_56 rfl) (show execFailover x0 x1 s = .next t from e) Moves.refl
  | .perstRelease, e => execPerstRelease_moves (reach_1 rfl) (show execPerstRelease s = .next t from e) Moves.refl
  | .configRequest x0, e => execConfigRequest_moves (reach_62 rfl) (show execConfigRequest x0 s = .next t from e) Moves.refl
  | .baseTimeout, e => execBaseTimeout_moves (reach_63 rfl) (show execBaseTimeout s = .next t from e) Moves.refl
  | .hostMemoryRequest x0 x1 x2 x3 x4 x5 x6, e => execHostMemoryRequest_moves rfl rfl rfl rfl rfl (reach_0 rfl) (show execHostMemoryRequest x0 x1 x2 x3 x4 x5 x6 s = .next t from e) Moves.refl
  | .linkDown, e => execLinkDown_moves (reach_64 rfl) (show execLinkDown s = .next t from e) Moves.refl
  | .dmaTurn x0 x1, e => execDmaTurn_moves rfl (reach_65 rfl) (show execDmaTurn x0 x1 s = .next t from e) Moves.refl
  | .dmaCompletion x0 x1 x2 x3, e => execDmaCompletion_moves rfl (reach_66 rfl) (show execDmaCompletion x0 x1 x2 x3 s = .next t from e) Moves.refl
  | .queueEnable x0 x1, e => execQueueEnable_moves rfl (reach_67 rfl) (show execQueueEnable x0 x1 s = .next t from e) Moves.refl
  | .queueStop x0 x1, e => execQueueStop_moves rfl (reach_67 rfl) (show execQueueStop x0 x1 s = .next t from e) Moves.refl
  | .queueAbort x0 x1, e => execQueueAbort_moves rfl (reach_67 rfl) (show execQueueAbort x0 x1 s = .next t from e) Moves.refl
  | .quPush x0 x1 x2 x3 x4 x5 x6, e => execQuPush_moves rfl (reach_68 rfl) (show execQuPush x0 x1 x2 x3 x4 x5 x6 s = .next t from e) Moves.refl
  | .quPushLast x0 x1 x2 x3 x4 x5 x6, e => execQuPushLast_moves rfl (reach_68 rfl) (show execQuPushLast x0 x1 x2 x3 x4 x5 x6 s = .next t from e) Moves.refl
  | .quPop x0 x1 x2 x3 x4, e => execQuPop_moves rfl (reach_69 rfl) (show execQuPop x0 x1 x2 x3 x4 s = .next t from e) Moves.refl
  | .quDoorbell x0 x1, e => execQuDoorbell_moves rfl (reach_70 rfl) (show execQuDoorbell x0 x1 s = .next t from e) Moves.refl
  | .doorbellFlip x0 x1, e => execDoorbellFlip_moves rfl (reach_70 rfl) (show execDoorbellFlip x0 x1 s = .next t from e) Moves.refl
  | .bankSwap x0, e => execBankSwap_moves rfl (reach_67 rfl) (show execBankSwap x0 s = .next t from e) Moves.refl
  | .spillDone x0 x1, e => execSpillDone_moves rfl (reach_67 rfl) (show execSpillDone x0 x1 s = .next t from e) Moves.refl
  | .copyBackDone x0 x1, e => execCopyBackDone_moves rfl (reach_67 rfl) (show execCopyBackDone x0 x1 s = .next t from e) Moves.refl
  | .noticeWrite x0, e => execNoticeWrite_moves (reach_71 rfl) (show execNoticeWrite x0 s = .next t from e) Moves.refl
  | .coalesceTimer x0, e => execCoalesceTimer_moves (reach_71 rfl) (show execCoalesceTimer x0 s = .next t from e) Moves.refl
  | .msixGapEnd x0, e => execMsixGapEnd_moves (reach_72 rfl) (show execMsixGapEnd x0 s = .next t from e) Moves.refl
  | .msixUnmask x0, e => execMsixUnmask_moves (reach_72 rfl) (show execMsixUnmask x0 s = .next t from e) Moves.refl
  | .binLinkWrite x0 x1 x2, e => execBinLinkWrite_moves rfl (reach_67 rfl) (show execBinLinkWrite x0 x1 x2 s = .next t from e) Moves.refl
  | .galleryRequest x0, e => execGalleryRequest_moves (reach_73 rfl) (show execGalleryRequest x0 s = .next t from e) Moves.refl
  | .packetHop x0 x1 x2 x3 x4, e => execPacketHop_moves (reach_74 rfl) (show execPacketHop x0 x1 x2 x3 x4 s = .next t from e) Moves.refl
  | .galleryResponse x0 x1 x2 x3 x4, e => execGalleryResponse_moves (reach_73 rfl) (show execGalleryResponse x0 x1 x2 x3 x4 s = .next t from e) Moves.refl
  | .galleryTimeout x0 x1, e => execGalleryTimeout_moves (reach_75 rfl) (show execGalleryTimeout x0 x1 s = .next t from e) Moves.refl
  | .tagRelease x0 x1, e => execTagRelease_moves (reach_73 rfl) (show execTagRelease x0 x1 s = .next t from e) Moves.refl
  | .routeWrite x0 x1 x2, e => execRouteWrite_moves (reach_76 rfl) (show execRouteWrite x0 x1 x2 s = .next t from e) Moves.refl
  | .regulatorRefill x0, e => execRegulatorRefill_moves (reach_73 rfl) (show execRegulatorRefill x0 s = .next t from e) Moves.refl
  | .agePromotion x0, e => execAgePromotion_moves (reach_77 rfl) (show execAgePromotion x0 s = .next t from e) Moves.refl
  | .channelTrain x0 x1, e => execChannelTrain_moves (reach_78 rfl) (show execChannelTrain x0 x1 s = .next t from e) Moves.refl
  | .trainingDone x0 x1 x2 x3 x4 x5, e => execTrainingDone_moves rfl rfl rfl (reach_79 rfl) (show execTrainingDone x0 x1 x2 x3 x4 x5 s = .next t from e) Moves.refl
  | .area, e => execArea_moves (reach_80 rfl) (show execArea s = .next t from e) Moves.refl
  | .replan, e => execReplan_moves (reach_81 rfl) (show execReplan s = .next t from e) Moves.refl
  | .dramRead x0 x1, e => execDramRead_moves rfl rfl rfl (reach_82 rfl) (show execDramRead x0 x1 s = .next t from e) Moves.refl
  | .dramWrite x0 x1, e => execDramWrite_moves rfl rfl rfl (reach_82 rfl) (show execDramWrite x0 x1 s = .next t from e) Moves.refl
  | .wcTimeout x0 x1 x2, e => execWcTimeout_moves rfl rfl rfl (reach_82 rfl) (show execWcTimeout x0 x1 x2 s = .next t from e) Moves.refl
  | .refreshDue x0 x1 x2, e => execRefreshDue_moves (reach_83 rfl) (show execRefreshDue x0 x1 x2 s = .next t from e) Moves.refl
  | .dramWriteback x0, e => execDramWriteback_moves (reach_84 rfl) (show execDramWriteback x0 s = .next t from e) Moves.refl
  | .fillComplete x0 x1, e => execFillComplete_moves (reach_83 rfl) (show execFillComplete x0 x1 s = .next t from e) Moves.refl
  | .flipArm x0 x1, e => execFlipArm_moves (reach_85 rfl) (show execFlipArm x0 x1 s = .next t from e) Moves.refl
  | .rangeEnable x0, e => execRangeEnable_moves rfl rfl rfl (reach_82 rfl) (show execRangeEnable x0 s = .next t from e) Moves.refl
  | .rangeEnableDone x0, e => execRangeEnableDone_moves rfl rfl rfl (reach_82 rfl) (show execRangeEnableDone x0 s = .next t from e) Moves.refl
  | .rangeRetire x0, e => execRangeRetire_moves rfl rfl rfl (reach_82 rfl) (show execRangeRetire x0 s = .next t from e) Moves.refl
  | .rangeRetireDone x0, e => execRangeRetireDone_moves rfl rfl rfl (reach_82 rfl) (show execRangeRetireDone x0 s = .next t from e) Moves.refl
  | .nodeFetchDone x0, e => execNodeFetchDone_moves rfl rfl rfl (reach_82 rfl) (show execNodeFetchDone x0 s = .next t from e) Moves.refl
  | .add x0 x1, e => execAdd_moves (reach_86 rfl) (show execAdd x0 x1 s = .next t from e) Moves.refl
  | .sub x0 x1, e => execSub_moves (reach_86 rfl) (show execSub x0 x1 s = .next t from e) Moves.refl
  | .and x0 x1, e => execAnd_moves (reach_86 rfl) (show execAnd x0 x1 s = .next t from e) Moves.refl
  | .or x0 x1, e => execOr_moves (reach_86 rfl) (show execOr x0 x1 s = .next t from e) Moves.refl
  | .xor x0 x1, e => execXor_moves (reach_86 rfl) (show execXor x0 x1 s = .next t from e) Moves.refl
  | .andn x0 x1, e => execAndn_moves (reach_86 rfl) (show execAndn x0 x1 s = .next t from e) Moves.refl
  | .cmplt x0 x1, e => execCmplt_moves (reach_86 rfl) (show execCmplt x0 x1 s = .next t from e) Moves.refl
  | .cmpltu x0 x1, e => execCmpltu_moves (reach_86 rfl) (show execCmpltu x0 x1 s = .next t from e) Moves.refl
  | .shl x0 x1, e => execShl_moves (reach_86 rfl) (show execShl x0 x1 s = .next t from e) Moves.refl
  | .shr x0 x1, e => execShr_moves (reach_86 rfl) (show execShr x0 x1 s = .next t from e) Moves.refl
  | .sar x0 x1, e => execSar_moves (reach_86 rfl) (show execSar x0 x1 s = .next t from e) Moves.refl
  | .shli x0 x1, e => execShli_moves (reach_86 rfl) (show execShli x0 x1 s = .next t from e) Moves.refl
  | .shri x0 x1, e => execShri_moves (reach_86 rfl) (show execShri x0 x1 s = .next t from e) Moves.refl
  | .sari x0 x1, e => execSari_moves (reach_86 rfl) (show execSari x0 x1 s = .next t from e) Moves.refl
  | .mul x0 x1, e => execMul_moves (reach_86 rfl) (show execMul x0 x1 s = .next t from e) Moves.refl
  | .mulhs x0 x1, e => execMulhs_moves (reach_86 rfl) (show execMulhs x0 x1 s = .next t from e) Moves.refl
  | .mulhu x0 x1, e => execMulhu_moves (reach_86 rfl) (show execMulhu x0 x1 s = .next t from e) Moves.refl
  | .min x0 x1, e => execMin_moves (reach_86 rfl) (show execMin x0 x1 s = .next t from e) Moves.refl
  | .max x0 x1, e => execMax_moves (reach_86 rfl) (show execMax x0 x1 s = .next t from e) Moves.refl
  | .abs x0 x1, e => execAbs_moves (reach_86 rfl) (show execAbs x0 x1 s = .next t from e) Moves.refl
  | .clz x0 x1, e => execClz_moves (reach_86 rfl) (show execClz x0 x1 s = .next t from e) Moves.refl
  | .jmp x0 x1, e => execJmp_moves (reach_86 rfl) (show execJmp x0 x1 s = .next t from e) Moves.refl
  | .callr x0 x1, e => execCallr_moves (reach_86 rfl) (show execCallr x0 x1 s = .next t from e) Moves.refl
  | .addc x0 x1, e => execAddc_moves (reach_86 rfl) (show execAddc x0 x1 s = .next t from e) Moves.refl
  | .cmpltc x0 x1, e => execCmpltc_moves (reach_86 rfl) (show execCmpltc x0 x1 s = .next t from e) Moves.refl
  | .cmpltuc x0 x1, e => execCmpltuc_moves (reach_86 rfl) (show execCmpltuc x0 x1 s = .next t from e) Moves.refl
  | .andc x0 x1, e => execAndc_moves (reach_86 rfl) (show execAndc x0 x1 s = .next t from e) Moves.refl
  | .orc x0 x1, e => execOrc_moves (reach_86 rfl) (show execOrc x0 x1 s = .next t from e) Moves.refl
  | .xorc x0 x1, e => execXorc_moves (reach_86 rfl) (show execXorc x0 x1 s = .next t from e) Moves.refl
  | .movh x0 x1, e => execMovh_moves (reach_86 rfl) (show execMovh x0 x1 s = .next t from e) Moves.refl
  | .ldB x0 x1, e => execLdB_moves (reach_87 rfl) (show execLdB x0 x1 s = .next t from e) Moves.refl
  | .ldBu x0 x1, e => execLdBu_moves (reach_87 rfl) (show execLdBu x0 x1 s = .next t from e) Moves.refl
  | .ldH x0 x1, e => execLdH_moves (reach_87 rfl) (show execLdH x0 x1 s = .next t from e) Moves.refl
  | .ldHu x0 x1, e => execLdHu_moves (reach_87 rfl) (show execLdHu x0 x1 s = .next t from e) Moves.refl
  | .ldW x0 x1, e => execLdW_moves (reach_87 rfl) (show execLdW x0 x1 s = .next t from e) Moves.refl
  | .ldP x0 x1, e => execLdP_moves (reach_87 rfl) (show execLdP x0 x1 s = .next t from e) Moves.refl
  | .ldrW x0 x1, e => execLdrW_moves (reach_87 rfl) (show execLdrW x0 x1 s = .next t from e) Moves.refl
  | .ldrP x0 x1, e => execLdrP_moves (reach_87 rfl) (show execLdrP x0 x1 s = .next t from e) Moves.refl
  | .stB x0 x1, e => execStB_moves rfl (reach_87 rfl) (show execStB x0 x1 s = .next t from e) Moves.refl
  | .stH x0 x1, e => execStH_moves rfl (reach_87 rfl) (show execStH x0 x1 s = .next t from e) Moves.refl
  | .stW x0 x1, e => execStW_moves rfl (reach_87 rfl) (show execStW x0 x1 s = .next t from e) Moves.refl
  | .stP x0 x1, e => execStP_moves rfl (reach_87 rfl) (show execStP x0 x1 s = .next t from e) Moves.refl
  | .stsW x0 x1, e => execStsW_moves rfl (reach_87 rfl) (show execStsW x0 x1 s = .next t from e) Moves.refl
  | .stsP x0 x1, e => execStsP_moves rfl (reach_87 rfl) (show execStsP x0 x1 s = .next t from e) Moves.refl
  | .stcW x0 x1, e => execStcW_moves rfl (reach_86 rfl) (show execStcW x0 x1 s = .next t from e) Moves.refl
  | .stcP x0 x1, e => execStcP_moves rfl (reach_86 rfl) (show execStcP x0 x1 s = .next t from e) Moves.refl
  | .ldk x0 x1, e => execLdk_moves (reach_87 rfl) (show execLdk x0 x1 s = .next t from e) Moves.refl
  | .stk x0 x1, e => execStk_moves rfl (reach_87 rfl) (show execStk x0 x1 s = .next t from e) Moves.refl
  | .brEq x0 x1, e => execBrEq_moves (reach_86 rfl) (show execBrEq x0 x1 s = .next t from e) Moves.refl
  | .brNe x0 x1, e => execBrNe_moves (reach_86 rfl) (show execBrNe x0 x1 s = .next t from e) Moves.refl
  | .brLt x0 x1, e => execBrLt_moves (reach_86 rfl) (show execBrLt x0 x1 s = .next t from e) Moves.refl
  | .brGe x0 x1, e => execBrGe_moves (reach_86 rfl) (show execBrGe x0 x1 s = .next t from e) Moves.refl
  | .brLtu x0 x1, e => execBrLtu_moves (reach_86 rfl) (show execBrLtu x0 x1 s = .next t from e) Moves.refl
  | .brGeu x0 x1, e => execBrGeu_moves (reach_86 rfl) (show execBrGeu x0 x1 s = .next t from e) Moves.refl
  | .go x0 x1, e => execGo_moves (reach_86 rfl) (show execGo x0 x1 s = .next t from e) Moves.refl
  | .call x0 x1, e => execCall_moves (reach_86 rfl) (show execCall x0 x1 s = .next t from e) Moves.refl
  | .rep x0 x1, e => execRep_moves (reach_86 rfl) (show execRep x0 x1 s = .next t from e) Moves.refl
  | .repr x0 x1, e => execRepr_moves (reach_86 rfl) (show execRepr x0 x1 s = .next t from e) Moves.refl
  | .mac2 x0 x1, e => execMac2_moves (reach_86 rfl) (show execMac2 x0 x1 s = .next t from e) Moves.refl
  | .msu2 x0 x1, e => execMsu2_moves (reach_86 rfl) (show execMsu2 x0 x1 s = .next t from e) Moves.refl
  | .macx x0 x1, e => execMacx_moves (reach_86 rfl) (show execMacx x0 x1 s = .next t from e) Moves.refl
  | .mul2 x0 x1, e => execMul2_moves (reach_86 rfl) (show execMul2 x0 x1 s = .next t from e) Moves.refl
  | .mac1 x0 x1, e => execMac1_moves (reach_86 rfl) (show execMac1 x0 x1 s = .next t from e) Moves.refl
  | .macr x0 x1, e => execMacr_moves (reach_86 rfl) (show execMacr x0 x1 s = .next t from e) Moves.refl
  | .mfa x0 x1, e => execMfa_moves (reach_86 rfl) (show execMfa x0 x1 s = .next t from e) Moves.refl
  | .mta x0 x1, e => execMta_moves (reach_86 rfl) (show execMta x0 x1 s = .next t from e) Moves.refl
  | .aclr x0 x1, e => execAclr_moves (reach_86 rfl) (show execAclr x0 x1 s = .next t from e) Moves.refl
  | .aadd x0 x1, e => execAadd_moves (reach_86 rfl) (show execAadd x0 x1 s = .next t from e) Moves.refl
  | .asr x0 x1, e => execAsr_moves (reach_86 rfl) (show execAsr x0 x1 s = .next t from e) Moves.refl
  | .mfah x0 x1, e => execMfah_moves (reach_86 rfl) (show execMfah x0 x1 s = .next t from e) Moves.refl
  | .mtal x0 x1, e => execMtal_moves (reach_86 rfl) (show execMtal x0 x1 s = .next t from e) Moves.refl
  | .mtam x0 x1, e => execMtam_moves (reach_86 rfl) (show execMtam x0 x1 s = .next t from e) Moves.refl
  | .mtah x0 x1, e => execMtah_moves (reach_86 rfl) (show execMtah x0 x1 s = .next t from e) Moves.refl
  | .qpush x0 x1, e => execQpush_moves (reach_87 rfl) (show execQpush x0 x1 s = .next t from e) Moves.refl
  | .qpushl x0 x1, e => execQpushl_moves (reach_87 rfl) (show execQpushl x0 x1 s = .next t from e) Moves.refl
  | .qpop x0 x1, e => execQpop_moves (reach_87 rfl) (show execQpop x0 x1 s = .next t from e) Moves.refl
  | .qpoph x0 x1, e => execQpoph_moves (reach_87 rfl) (show execQpoph x0 x1 s = .next t from e) Moves.refl
  | .stim x0 x1 x2, e => execStim_moves (reach_88 rfl) (show execStim x0 x1 x2 s = .next t from e) Moves.refl
  | .wait x0 x1, e => execWait_moves (reach_86 rfl) (show execWait x0 x1 s = .next t from e) Moves.refl
  | .ei x0 x1, e => execEi_moves (reach_86 rfl) (show execEi x0 x1 s = .next t from e) Moves.refl
  | .di x0 x1, e => execDi_moves (reach_86 rfl) (show execDi x0 x1 s = .next t from e) Moves.refl
  | .retx x0 x1, e => execRetx_moves (reach_86 rfl) (show execRetx x0 x1 s = .next t from e) Moves.refl
  | .retm x0 x1, e => execRetm_moves (reach_86 rfl) (show execRetm x0 x1 s = .next t from e) Moves.refl
  | .break x0 x1, e => execBreak_moves (reach_86 rfl) (show execBreak x0 x1 s = .next t from e) Moves.refl
  | .trap x0 x1, e => execTrap_moves (reach_86 rfl) (show execTrap x0 x1 s = .next t from e) Moves.refl
  | .rdc x0 x1 x2, e => execRdc_moves (reach_86 rfl) (show execRdc x0 x1 x2 s = .next t from e) Moves.refl
  | .wrc x0 x1 x2, e => execWrc_moves (reach_86 rfl) (show execWrc x0 x1 x2 s = .next t from e) Moves.refl
  | .rdk x0 x1, e => execRdk_moves (reach_86 rfl) (show execRdk x0 x1 s = .next t from e) Moves.refl
  | .wrk x0 x1, e => execWrk_moves (reach_86 rfl) (show execWrk x0 x1 s = .next t from e) Moves.refl
  | .interruptEntry x0, e => execInterruptEntry_moves (reach_89 rfl) (show execInterruptEntry x0 s = .next t from e) Moves.refl
  | .debugEntry x0, e => execDebugEntry_moves (reach_90 rfl) (show execDebugEntry x0 s = .next t from e) Moves.refl
  | .trStart x0 x1, e => execTrStart_moves (reach_89 rfl) (show execTrStart x0 x1 s = .next t from e) Moves.refl
  | .trResume x0 x1, e => execTrResume_moves (reach_89 rfl) (show execTrResume x0 x1 s = .next t from e) Moves.refl
  | .trHalt x0 x1, e => execTrHalt_moves (reach_89 rfl) (show execTrHalt x0 x1 s = .next t from e) Moves.refl
  | .loaded x0 x1, e => execLoaded_moves (reach_89 rfl) (show execLoaded x0 x1 s = .next t from e) Moves.refl
  | .haltReq x0 x1, e => execHaltReq_moves (reach_89 rfl) (show execHaltReq x0 x1 s = .next t from e) Moves.refl
  | .watchdogExpiry x0, e => execWatchdogExpiry_moves rfl (reach_8 rfl) (show execWatchdogExpiry x0 s = .next t from e) Moves.refl
  | .kick x0, e => execKick_moves (reach_89 rfl) (show execKick x0 s = .next t from e) Moves.refl
  | .wdogWrite x0 x1, e => execWdogWrite_moves (reach_89 rfl) (show execWdogWrite x0 x1 s = .next t from e) Moves.refl
  | .hoistGo x0 x1 x2, e => execHoistGo_moves (reach_91 rfl) (show execHoistGo x0 x1 x2 s = .next t from e) Moves.refl
  | .hoistAbort x0 x1 x2, e => execHoistAbort_moves rfl (reach_92 rfl) (show execHoistAbort x0 x1 x2 s = .next t from e) Moves.refl
  | .hoistDone x0 x1 x2, e => execHoistDone_moves rfl (reach_92 rfl) (show execHoistDone x0 x1 x2 s = .next t from e) Moves.refl
  | .qnote x0 x1, e => execQnote_moves (reach_89 rfl) (show execQnote x0 x1 s = .next t from e) Moves.refl
  | .noticeResend x0, e => execNoticeResend_moves (reach_93 rfl) (show execNoticeResend x0 s = .next t from e) Moves.refl
  | .irqPost x0 x1 x2 x3 x4, e => execIrqPost_moves (reach_94 rfl) (show execIrqPost x0 x1 x2 x3 x4 s = .next t from e) Moves.refl
  | .postPop x0 x1 x2 x3 x4, e => execPostPop_moves (reach_95 rfl) (show execPostPop x0 x1 x2 x3 x4 s = .next t from e) Moves.refl
  | .cribWriteback x0, e => execCribWriteback_moves (reach_96 rfl) (show execCribWriteback x0 s = .next t from e) Moves.refl
  | .cribGalleryAccess x0 x1 x2, e => execCribGalleryAccess_moves rfl (reach_97 rfl) (show execCribGalleryAccess x0 x1 x2 s = .next t from e) Moves.refl
  | .fwPrimary x0, e => execFwPrimary_moves (reach_98 rfl) (show execFwPrimary x0 s = .next t from e) Moves.refl
  | .fwGolden x0, e => execFwGolden_moves (reach_98 rfl) (show execFwGolden x0 s = .next t from e) Moves.refl
  | .base, e => execBase_moves (reach_99 rfl) (show execBase s = .next t from e) Moves.refl
  | .fuse x0, e => execFuse_moves (reach_100 rfl) (show execFuse x0 s = .next t from e) Moves.refl
  | .seamSelfTest x0 x1, e => execSeamSelfTest_moves (reach_100 rfl) (show execSeamSelfTest x0 x1 s = .next t from e) Moves.refl
  | .crewInit x0 x1, e => execCrewInit_moves rfl (reach_101 rfl) (show execCrewInit x0 x1 s = .next t from e) Moves.refl
  | .xcCalibrate x0, e => execXcCalibrate_moves (reach_100 rfl) (show execXcCalibrate x0 s = .next t from e) Moves.refl
  | .shiftStart, e => execShiftStart_moves (reach_100 rfl) (show execShiftStart s = .next t from e) Moves.refl
  | .fabric, e => execFabric_moves (reach_102 rfl) (show execFabric s = .next t from e) Moves.refl
  | .record x0, e => execRecord_moves rfl (reach_103 rfl) (show execRecord x0 s = .next t from e) Moves.refl
  | .identify x0 x1, e => execIdentify_moves rfl rfl (reach_104 rfl) (show execIdentify x0 x1 s = .next t from e) Moves.refl
  | .readRecord x0 x1, e => execReadRecord_moves rfl rfl (reach_104 rfl) (show execReadRecord x0 x1 s = .next t from e) Moves.refl
  | .clearRecord x0 x1, e => execClearRecord_moves rfl rfl (reach_104 rfl) (show execClearRecord x0 x1 s = .next t from e) Moves.refl
  | .keyLoad x0 x1, e => execKeyLoad_moves rfl rfl (reach_104 rfl) (show execKeyLoad x0 x1 s = .next t from e) Moves.refl
  | .keyDraw x0 x1, e => execKeyDraw_moves rfl rfl (reach_104 rfl) (show execKeyDraw x0 x1 s = .next t from e) Moves.refl
  | .keyClear x0 x1, e => execKeyClear_moves rfl rfl (reach_104 rfl) (show execKeyClear x0 x1 s = .next t from e) Moves.refl
  | .flashUpdate x0 x1 x2 x3 x4, e => execFlashUpdate_moves rfl rfl (reach_104 rfl) (show execFlashUpdate x0 x1 x2 x3 x4 s = .next t from e) Moves.refl
  | .remapAdd x0 x1, e => execRemapAdd_moves rfl rfl (reach_104 rfl) (show execRemapAdd x0 x1 s = .next t from e) Moves.refl
  | .readLog x0 x1, e => execReadLog_moves rfl rfl (reach_104 rfl) (show execReadLog x0 x1 s = .next t from e) Moves.refl
  | .echo x0 x1, e => execEcho_moves rfl rfl (reach_104 rfl) (show execEcho x0 x1 s = .next t from e) Moves.refl
  | .sensorSample x0 x1 x2, e => execSensorSample_moves (reach_105 rfl) (show execSensorSample x0 x1 x2 s = .next t from e) Moves.refl
  | .currentMonitorRead x0 x1, e => execCurrentMonitorRead_moves (reach_100 rfl) (show execCurrentMonitorRead x0 x1 s = .next t from e) Moves.refl
  | .logEntry x0, e => execLogEntry_moves (reach_100 rfl) (show execLogEntry x0 s = .next t from e) Moves.refl
  | .logFlashMirror x0, e => execLogFlashMirror_moves rfl (reach_106 rfl) (show execLogFlashMirror x0 s = .next t from e) Moves.refl
  | .loadDeadlineWrite x0 x1, e => execLoadDeadlineWrite_moves (reach_34 rfl) (show execLoadDeadlineWrite x0 x1 s = .next t from e) Moves.refl
  | .enum x0, e => execEnum_moves (reach_107 rfl) (show execEnum x0 s = .next t from e) Moves.refl
  | .enumDone x0, e => execEnumDone_moves (reach_108 rfl) (show execEnumDone x0 s = .next t from e) Moves.refl
  | .linkChange x0, e => execLinkChange_moves (reach_109 rfl) (show execLinkChange x0 s = .next t from e) Moves.refl
  | .announce x0 x1 x2 x3 x4, e => execAnnounce_moves (reach_110 rfl) (show execAnnounce x0 x1 x2 x3 x4 s = .next t from e) Moves.refl
  | .stateReq x0, e => execStateReq_moves (reach_111 rfl) (show execStateReq x0 s = .next t from e) Moves.refl
  | .state x0 x1 x2 x3 x4 x5 x6 x7 x8 x9, e => execState_moves (reach_45 rfl) (show execState x0 x1 x2 x3 x4 x5 x6 x7 x8 x9 s = .next t from e) Moves.refl
  | .grant x0 x1, e => execGrant_moves (reach_111 rfl) (show execGrant x0 x1 s = .next t from e) Moves.refl
  | .event x0 x1 x2 x3 x4, e => execEvent_moves (reach_45 rfl) (show execEvent x0 x1 x2 x3 x4 s = .next t from e) Moves.refl
  | .eventAck x0 x1 x2, e => execEventAck_moves (reach_112 rfl) (show execEventAck x0 x1 x2 s = .next t from e) Moves.refl
  | .report x0 x1 x2 x3, e => execReport_moves (reach_45 rfl) (show execReport x0 x1 x2 x3 s = .next t from e) Moves.refl
  | .cmd x0 x1 x2 x3, e => execCmd_moves (reach_45 rfl) (show execCmd x0 x1 x2 x3 s = .next t from e) Moves.refl
  | .cmdDone x0 x1, e => execCmdDone_moves (reach_45 rfl) (show execCmdDone x0 x1 s = .next t from e) Moves.refl
  | .messageResend x0, e => execMessageResend_moves (reach_113 rfl) (show execMessageResend x0 s = .next t from e) Moves.refl
  | .hopStateChange x0 x1, e => execHopStateChange_moves (reach_114 rfl) (show execHopStateChange x0 x1 s = .next t from e) Moves.refl
  | .headTimeout, e => execHeadTimeout_moves (reach_107 rfl) (show execHeadTimeout s = .next t from e) Moves.refl
  | .enumTimer, e => execEnumTimer_moves (reach_107 rfl) (show execEnumTimer s = .next t from e) Moves.refl
  | .enumRequest, e => execEnumRequest_moves (reach_107 rfl) (show execEnumRequest s = .next t from e) Moves.refl
  | .announceTimer, e => execAnnounceTimer_moves (reach_115 rfl) (show execAnnounceTimer s = .next t from e) Moves.refl
  | .time x0 x1 x2, e => execTime_moves (reach_116 rfl) (show execTime x0 x1 x2 s = .next t from e) Moves.refl
  | .timeSend x0, e => execTimeSend_moves (reach_117 rfl) (show execTimeSend x0 s = .next t from e) Moves.refl
  | .ptpSync x0 x1, e => execPtpSync_moves (reach_116 rfl) (show execPtpSync x0 x1 s = .next t from e) Moves.refl
  | .incWrite x0 x1 x2, e => execIncWrite_moves (reach_118 rfl) (show execIncWrite x0 x1 x2 s = .next t from e) Moves.refl
  | .timeStep x0 x1 x2 x3, e => execTimeStep_moves (reach_119 rfl) (show execTimeStep x0 x1 x2 x3 s = .next t from e) Moves.refl
  | .timeSrcWrite x0, e => execTimeSrcWrite_moves (reach_118 rfl) (show execTimeSrcWrite x0 s = .next t from e) Moves.refl
  | .timeRead x0 x1 x2 x3, e => execTimeRead_moves (reach_120 rfl) (show execTimeRead x0 x1 x2 x3 s = .next t from e) Moves.refl
  | .masterLoss, e => execMasterLoss_moves (reach_121 rfl) (show execMasterLoss s = .next t from e) Moves.refl
  | .capture x0 x1, e => execCapture_moves (reach_122 rfl) (show execCapture x0 x1 s = .next t from e) Moves.refl
  | .compareWindow x0 x1, e => execCompareWindow_moves (reach_123 rfl) (show execCompareWindow x0 x1 s = .next t from e) Moves.refl
  | .peek x0 x1, e => execPeek_moves rfl rfl rfl rfl rfl (reach_0 rfl) (show execPeek x0 x1 s = .next t from e) Moves.refl
  | .consume x0 x1, e => execConsume_moves rfl rfl rfl rfl rfl (reach_0 rfl) (show execConsume x0 x1 s = .next t from e) Moves.refl
  | .lampWrite x0 x1 x2, e => execLampWrite_moves rfl rfl rfl rfl rfl (reach_0 rfl) (show execLampWrite x0 x1 x2 s = .next t from e) Moves.refl
  | .lampRepeat x0 x1, e => execLampRepeat_moves (reach_124 rfl) (show execLampRepeat x0 x1 s = .next t from e) Moves.refl
  | .lampBreak, e => execLampBreak_moves (show execLampBreak s = .next t from e) Moves.refl
  | .lampReset x0, e => execLampReset_moves rfl rfl rfl (reach_0 rfl) (show execLampReset x0 s = .next t from e) Moves.refl
  | .lampClockTimeout, e => execLampClockTimeout_moves (show execLampClockTimeout s = .next t from e) Moves.refl
  | .get x0, e => execGet_moves (reach_125 rfl) (show execGet x0 s = .next t from e) Moves.refl
  | .submit, e => execSubmit_moves (reach_126 rfl) (show execSubmit s = .next t from e) Moves.refl
  | .lock, e => execLock_moves (reach_126 rfl) (show execLock s = .next t from e) Moves.refl
  | .challengeExpiry, e => execChallengeExpiry_moves (reach_126 rfl) (show execChallengeExpiry s = .next t from e) Moves.refl
  | .lockoutEnd, e => execLockoutEnd_moves (reach_126 rfl) (show execLockoutEnd s = .next t from e) Moves.refl
  | .traceEnable x0 x1, e => execTraceEnable_moves (reach_127 rfl) (show execTraceEnable x0 x1 s = .next t from e) Moves.refl
  | .traceSync x0, e => execTraceSync_moves (reach_127 rfl) (show execTraceSync x0 s = .next t from e) Moves.refl
  | .traceLineTimeout, e => execTraceLineTimeout_moves rfl (reach_128 rfl) (show execTraceLineTimeout s = .next t from e) Moves.refl
  | .vccioDetect x0, e => execVccioDetect_moves (reach_129 rfl) (show execVccioDetect x0 s = .next t from e) Moves.refl
  | .settlingEnd x0, e => execSettlingEnd_moves (reach_130 rfl) (show execSettlingEnd x0 s = .next t from e) Moves.refl
  | .vccioLoss x0, e => execVccioLoss_moves (reach_131 rfl) (show execVccioLoss x0 s = .next t from e) Moves.refl
  | .mgEnWrite x0, e => execMgEnWrite_moves (reach_132 rfl) (show execMgEnWrite x0 s = .next t from e) Moves.refl
  | .pinWrite x0 x1 x2, e => execPinWrite_moves (reach_133 rfl) (show execPinWrite x0 x1 x2 s = .next t from e) Moves.refl
  | .registerWrite x0 x1 x2 x3 x4 x5 x6 x7, e => execRegisterWrite_moves rfl rfl rfl rfl rfl (reach_0 rfl) (show execRegisterWrite x0 x1 x2 x3 x4 x5 x6 x7 s = .next t from e) Moves.refl
  | .registerRead x0 x1 x2 x3 x4 x5, e => execRegisterRead_moves rfl (reach_134 rfl) (show execRegisterRead x0 x1 x2 x3 x4 x5 s = .next t from e) Moves.refl
  | .dataLinkUp x0 x1 x2, e => execDataLinkUp_moves (reach_135 rfl) (show execDataLinkUp x0 x1 x2 s = .next t from e) Moves.refl
  | .stopePowerDownDone x0, e => execStopePowerDownDone_moves (reach_3 rfl) (show execStopePowerDownDone x0 s = .next t from e) Moves.refl
  | .crewPowerDownDone x0, e => execCrewPowerDownDone_moves (reach_3 rfl) (show execCrewPowerDownDone x0 s = .next t from e) Moves.refl
  | .mbDone, e => execMbDone_moves (reach_136 rfl) (show execMbDone s = .next t from e) Moves.refl
  | .traceFunnel x0, e => execTraceFunnel_moves (reach_127 rfl) (show execTraceFunnel x0 s = .next t from e) Moves.refl
  | .traceBufferOutput, e => execTraceBufferOutput_moves rfl (reach_137 rfl) (show execTraceBufferOutput s = .next t from e) Moves.refl
  | .dimmThermalSensor x0 x1, e => execDimmThermalSensor_moves (reach_85 rfl) (show execDimmThermalSensor x0 x1 s = .next t from e) Moves.refl
  | .illegalInstruction x0 x1, e => execIllegalInstruction_moves (reach_86 rfl) (show execIllegalInstruction x0 x1 s = .next t from e) Moves.refl

end Sys2Proof.Machine
end

