-- ==== Sys2Proof/Machine/PageCode.lean ====
section
/-! DEFINITION. What a DRAM page holds on the devices: keys, keystream, tag, sideband and check symbols (14 R376 to R379, 15 R391, R396). -/

namespace Sys2Proof.Machine

/-- "MEM DATA" and "MEM TAG" (15 R391). -/
def labelData : List Nat := [0x4D, 0x45, 0x4D, 0x20, 0x44, 0x41, 0x54, 0x41]
def labelTag : List Nat := [0x4D, 0x45, 0x4D, 0x20, 0x54, 0x41, 0x47]

/-- The kind of a page (15 R396): DATA under a key id, NODE of a range, OPEN. -/
inductive PageKind where
  | data (k : Nat)
  | node (k level idx : Nat)
  | openPage
  deriving DecidableEq, Repr

/-- Key id, kind code and counter of a page (15 R396). -/
def State.pageKind (s : State) (page : Nat) : PageKind :=
  match s.protectedBy (page * 128) with
  | some k => .data k
  | none =>
    match (List.range 16).find? (fun k => decide (s.rangeState k ≠ 0) && inSpan (s.treeSpan k) (page * 128)) with
    | some k =>
      match (List.range (s.rd EN_RANGE_CTRL.HEIGHT 0 k)).find? (fun l =>
          decide (s.nodeAddr k (l + 1) 0 ≤ page * 128) && decide (page * 128 < s.nodeAddr k (l + 2) 0)) with
      | some l => .node k (l + 1) (page - s.nodeAddr k (l + 1) 0 / 128)
      | none => .openPage
    | none => .openPage

/-- `KEY_ID` of a page. -/
def PageKind.key : PageKind → Nat
  | .data k => k
  | .node k _ _ => k
  | .openPage => 0

/-- The kind's code. -/
def PageKind.code : PageKind → Nat
  | .data _ => 0
  | .node _ _ _ => 1
  | .openPage => 2

/-- The counter under which a page is stored (15 R396, R398). -/
def State.pageCounter (s : State) (page : Nat) : Nat :=
  match s.pageKind page with
  | .data k => s.counter k 0 (s.rangePage k page)
  | .node k l i => s.counter k l i
  | .openPage => 0

/-- The data key and the tag key of a page (15 R391): from its slot's key, or from the device memory key. -/
def State.pageKeys (s : State) (page : Nat) : Nat × Nat :=
  let nonce := bytesOf 16 s.crypto.nonce
  let two := fun (key : Nat) (ctx : List Nat) => (kdf256 key labelData ctx, kdf256 key labelTag ctx)
  match s.pageKind page with
  | .openPage => two s.crypto.devKey (0xFF :: nonce)
  | kind => two (Tab.get 0 s.crypto.slots kind.key) (kind.key :: nonce)

/-- 16 bytes as a block: the first is the most significant. -/
def block16 (l : List Nat) : Nat := (List.range 16).foldl (fun a i => 256 * a + l.getD i 0) 0

/-- The block of keystream `j`, or the tag nonce with `j` = 0 and `last` = 1 (15 R396). -/
def State.counterBlock (s : State) (page j last : Nat) : Nat :=
  let kind := s.pageKind page
  let id := page % 2 ^ 33 + kind.key * 2 ^ 33 + kind.code * 2 ^ 37
  block16 (bytesOf 8 (s.pageCounter page) ++ bytesOf 5 id ++ [j, 0, last])

/-- The product of GHASH in GF(2^128), bit 0 of the field being the leftmost (15 R396). -/
def ghashMul (x y : Nat) : Nat :=
  ((List.range 128).foldl (fun p i =>
    (if bitAt x (127 - i) then p.1 ^^^ p.2 else p.1, if bitAt p.2 0 then (p.2 / 2) ^^^ (0xE1 * 2 ^ 120) else p.2 / 2)) (0, y)).1

/-- GHASH over blocks (15 R396). -/
def ghash (h : Nat) (bs : List Nat) : Nat := bs.foldl (fun y b => ghashMul (y ^^^ b) h) 0

/-- The metadata of a page (14 R379). -/
def State.pageMeta (s : State) (page : Nat) : Nat :=
  let p := s.page page
  b2n p.poison + (s.pageKind page).key * 2 + b2n (!p.written) * 32 + s.rd PC_CTRL.LEVEL * 64

/-- The 128 bytes of a page as they lie in DRAM before errors (15 R396). -/
def State.cipherBytes (s : State) (page : Nat) : List Nat :=
  let plain := s.loadBytes (page * 128) 128
  match s.pageKind page with
  | .node _ _ _ => plain
  | _ => (List.range 128).map (fun i =>
      plain.getD i 0 ^^^ bitsOf (Config.aes256 (s.pageKeys page).1 (s.counterBlock page (i / 16) 2)) (8 * (15 - i % 16)) 8)

/-- The integrity tag of a page (15 R396). -/
def State.pageTag (s : State) (page : Nat) : Nat :=
  let kt := (s.pageKeys page).2
  let c := s.cipherBytes page
  let blocks := block16 [s.pageMeta page % 256, s.pageMeta page / 256] :: (List.range 8).map (fun j => block16 (c.drop (16 * j)))
  (ghash (Config.aes256 kt 0 % 2 ^ 128) blocks ^^^ (Config.aes256 kt (s.counterBlock page 0 1) % 2 ^ 128)) / 2 ^ 64

/-- Check symbols of the page code: 2t (14 R376, R378). -/
def State.checkCount (s : State) : Nat := 2 * s.pageT

/-- The 32 sideband bytes of a page: metadata, tag, zeros and check symbols (14 R378). -/
def State.sideband (s : State) (page : Nat) : List Nat :=
  let info := [s.pageMeta page % 256, s.pageMeta page / 256]
  let tag := if s.rd PC_CTRL.LEVEL < 3 then (List.range 8).map (fun i => bitsOf (s.pageTag page) (8 * (7 - i)) 8) else []
  let head := info ++ tag
  let zeros := List.replicate (32 - head.length - s.checkCount) 0
  head ++ zeros ++ rsCheck 8 0x11D s.checkCount (s.cipherBytes page ++ head ++ zeros)

/-- The 160 symbols of a page as they lie in DRAM, with the errors that a flip mask stored (14 R376, R378, R386). -/
def State.codeword (s : State) (page : Nat) : List Nat :=
  (s.cipherBytes page ++ s.sideband page).zipIdx.map (fun x => x.1 ^^^ Tab.get 0 (s.page page).errs x.2)

end Sys2Proof.Machine
end

