-- ==== Sys2Proof/Tests/Slice0.lean ====
section
/-! SUPPORT. Tests of the model: an ill-formed command for each check of `wellFormed`, and for each statement with hypotheses states and
operands that meet them. -/

namespace Sys2Proof.Tests

open Sys2Proof Sys2Proof.Machine

set_option Elab.async false

/-! ### Commands that name units the part has not (00 R1, 01 R30 to R34) -/

/-- An access at the address 0, which is in DRAM. -/
def acc0 : GalAccess := ⟨0, 8, false, false, 0, false, 0, 0, false⟩

theorem test_ill_formed_rail : wellFormed (.railLost 6) = false := by decide
theorem test_ill_formed_clock_class : wellFormed (.clockGate 8 0) = false := by decide
theorem test_ill_formed_engine : wellFormed (.engineResetReq 64) = false := by decide
theorem test_ill_formed_stope : wellFormed (.stopePowerDown 640) = false := by decide
theorem test_ill_formed_crew : wellFormed (.crewPowerDown 8) = false := by decide
theorem test_ill_formed_memory_stope : wellFormed (.eccWriteback 640 0 0) = false := by decide
theorem test_ill_formed_memory : wellFormed (.eccWriteback 0 18 0) = false := by decide
theorem test_ill_formed_bin : wellFormed (.binQueueMove 0 16) = false := by decide
theorem test_ill_formed_bin_stope : wellFormed (.binQueueMove 640 0) = false := by decide
theorem test_ill_formed_seam : wellFormed (.frameWritten 4) = false := by decide
theorem test_ill_formed_port_range : wellFormed (.stopePortTargetAccess acc0) = false := by decide
theorem test_ill_formed_scrubber : wellFormed (.scrubFrameRead 8 [] false false) = false := by decide
theorem test_ill_formed_port : wellFormed (.xcPortCtrlWrite 16 0) = false := by decide
theorem test_ill_formed_lane : wellFormed (.los 0 8) = false := by decide
theorem test_ill_formed_lane_port : wellFormed (.los 16 0) = false := by decide
theorem test_ill_formed_half : wellFormed (.gate 0 2 true) = false := by decide
theorem test_ill_formed_stream_offset : wellFormed (.streamMapWrite 0 0 0) = false := by decide
theorem test_ill_formed_sub_port : wellFormed (.strokeFrame 0 2 ⟨0, 0⟩ []) = false := by decide
theorem test_ill_formed_dma_requester : wellFormed (.dmaCompletion 4097 0 [] false) = false := by decide
theorem test_ill_formed_queue : wellFormed (.queueEnable 4096 0) = false := by decide
theorem test_ill_formed_vector : wellFormed (.msixGapEnd 2048) = false := by decide
theorem test_ill_formed_request_ni : wellFormed (.galleryRequest ⟨662, none, 0, 8, 0, 0, false, 0⟩) = false := by decide
theorem test_ill_formed_request_op : wellFormed (.galleryRequest ⟨0, none, 0, 8, 3, 0, false, 0⟩) = false := by decide
theorem test_ill_formed_response_ni : wellFormed (.galleryResponse 662 0 0 0 false) = false := by decide
theorem test_ill_formed_route_ni : wellFormed (.routeWrite 662 0 0) = false := by decide
theorem test_ill_formed_route_dest : wellFormed (.routeWrite 0 662 0) = false := by decide
theorem test_ill_formed_regulator : wellFormed (.regulatorRefill 640) = false := by decide
theorem test_ill_formed_regulator_engine : wellFormed (.regulatorRefill 1088) = false := by decide
theorem test_ill_formed_channel : wellFormed (.channelTrain 8 ⟨0, true, true, [], 0, 0, 0, 0⟩) = false := by decide
theorem test_ill_formed_dram_address : wellFormed (.dramRead ⟨0, 0, 0, 2 ^ 40, 8, [], 0, false, false, false⟩ .plain) = false := by decide
theorem test_ill_formed_dram_write_address : wellFormed (.dramWrite ⟨0, 0, 0, 2 ^ 40, 8, [0], 1, false, false, false⟩ .plain) = false := by decide
theorem test_ill_formed_dram_write_empty : wellFormed (.dramWrite ⟨0, 0, 0, 0, 8, [], 1, false, false, false⟩ .plain) = false := by decide
theorem test_ill_formed_rank : wellFormed (.refreshDue 0 4 false) = false := by decide
theorem test_ill_formed_key : wellFormed (.rangeEnable 16) = false := by decide
theorem test_ill_formed_hoist_channel : wellFormed (.hoistGo 0 4 0) = false := by decide
theorem test_ill_formed_hoist_crew : wellFormed (.hoistGo 8 0 0) = false := by decide
theorem test_ill_formed_engine_port : wellFormed (.qnote 0 16) = false := by decide
theorem test_ill_formed_post_size : wellFormed (.postPop 0 2 0 0 false) = false := by decide
theorem test_ill_formed_tram_memory : wellFormed (.cribGalleryAccess acc0 0 false) = false := by decide
theorem test_ill_formed_monitor : wellFormed (.currentMonitorRead 8 none) = false := by decide
theorem test_ill_formed_capture_input : wellFormed (.capture 2 0) = false := by decide
theorem test_ill_formed_compare_unit : wellFormed (.compareWindow 4 0) = false := by decide
theorem test_ill_formed_bank : wellFormed (.vccioDetect 17) = false := by decide
theorem test_ill_formed_pin : wellFormed (.pinWrite 0 48 0) = false := by decide
theorem test_ill_formed_mg_pin : wellFormed (.pinWrite 16 64 0) = false := by decide

/-! ### States and operands that meet the hypotheses of the statements -/

/-- The state after reset, but for the register fields listed. -/
def given (l : List (Key × Nat)) : State := { State.reset with regs := l }

/-- The clocks in another state. -/
def clk0 (c : Clocks) (l : List (Key × Nat)) : State := { given l with clk := c }

/-- The clocks in another state. -/
def clk1 (c : Clocks) (l : List (Key × Nat)) : State := { given l with clk := c }

/-- The Winder in state `st` with a grant beyond its tally 5 and a design of 4 phases in `f` slots. -/
def wind0 (st f : Nat) (x : Winder) (l : List (Key × Nat)) : State :=
  { given (l ++ [(WD_STATUS.STATE.key, st), (WD_TALLY.TALLY.key, 5), (WD_HORIZON.H.key, 6), (CF_LOADED.K.key, 4), (CF_LOADED.F.key, f)]) with
    winder := x }

/-- Stope 639 with its hidden state. -/
def st639 (x : Stope) (l : List (Key × Nat)) : State := { given l with stopes := [(639, x)] }

/-- Stope 639 in use, with its hidden state, `l` and check states `err`. -/
def mem639 (x : Stope) (l : List (Key × Nat)) (err : List (Key × Nat)) : State :=
  { given ([(CF_CONFIGURED.CONF.key 0 9, 2 ^ 63)] ++ l) with stopes := [(639, x)], fabErr := err, fabMem := [(⟨15, 639, 4095⟩, 5)] }

/-- Bin 15 in a mode, with its queue. -/
def binMode0 (m : Nat) (q : BinQueue) : Stope :=
  { Stope.cold with
    cfg := { StopeCfg.none with binMode := [(15, m)] },
    ports := { PortRegs.cleared with queues := [(15, q)] } }
def extent0 : Extent := ⟨0, 128, 0, true, 0⟩
def loading1 (st : Nat) (l : Loader) : State := { given [(CF_LD_STATUS.STATE.key, st)] with loader := l }
def header0 : StreamHeader := ⟨0x55454249, 1, 256, 0, 4, 16, 1, 0x640, 1, 96, 7, 2, 4608, 304 + 64, 1, 1, 1, 0, false⟩

/-- The bytes of `header0`, with another key selector. -/
def stream0 (keysel : Nat) : List Nat :=
  bytesOf 4 0x55454249 ++ bytesOf 2 1 ++ bytesOf 2 256 ++ [0, 4, 16, keysel] ++ bytesOf 2 0x640 ++ [1, 96] ++ bytesOf 8 7 ++ bytesOf 4 2 ++
    bytesOf 4 4608 ++ bytesOf 8 368 ++ bytesOf 2 1 ++ bytesOf 6 1 ++ bytesOf 80 1 ++ bytesOf 128 0
def ready0 (st : Nat) (l : Loader) : State :=
  { given [(CF_LD_STATUS.STATE.key, st), (CG_ID.REVISION.key, 1), (CK_CLK_STATUS.PHASE_DIV_MIN.key, 8), (FM_READY.READY.key, 2 ^ 32 - 1),
      (CF_SHADOW_BASE.SHADOW_OK.key, 1), (WD_STATUS.STATE.key, 1)] with
    loader := l, crypto := { Crypto.cold with owner := some 5 } }
def seg0 (last : Bool) (b : Option (List Nat)) : Segment := ⟨0, 256, 1024, 5, last, b⟩

/-- A command word and the bytes after it. -/
def word0 (op count addr arg more : Nat) : List Nat :=
  [op, 0] ++ bytesOf 2 count ++ bytesOf 4 addr ++ bytesOf 4 arg ++ bytesOf 4 0 ++ List.replicate more 255
def cmd0 (b : List Nat) (last : Bool) (n f disp : Nat) : State :=
  loading1 2 { Loader.cold with
    segs := [seg0 last (some b)], set := [n], nextFrame := [(n, f)], header := some { header0 with frames := 4608 }, dispatched := disp }

/-- Stope `n` configured, with its hidden state. -/
def conf0 (n : Nat) (x : Stope) (l : List (Key × Nat)) : State :=
  { given ([(CF_CONFIGURED.CONF.key 0 (n / 64), 2 ^ (n % 64))] ++ l) with stopes := [(n, x)] }

/-- Scrubber 7 scrubbing the isolated stope 639 alone, with its hidden state. -/
def scrub0 (x : Scrub) (l : List (Key × Nat)) : State :=
  { given ([(CF_CONFIGURED.CONF.key 0 9, 2 ^ 63), (SB_CTRL.EN.key 7, 1), (SB_STATUS.STATE.key 7, 1), (ST_STATUS.ISOLATED.key 639, 1)] ++ l)
    with scrubs := [(7, x)] }

/-- A solo leader with a full image, its Winder in state `st`. -/
def solo0 (st : Nat) (l : List (Key × Nat)) : State :=
  given ([(WD_STATUS.STATE.key, st), (WD_STATUS.FORMED.key, 1), (WD_STATUS.LEADER.key, 1), (CF_LOADED.VALID.key, 1), (CF_LOADED.NMIN.key, 8),
    (CK_CLK_STATUS.PHASE_DIV_CUR.key, 8), (WD_TALLY.TALLY.key, 5), (WD_STOP_TALLY.S.key, 2 ^ 64 - 1), (WD_SMP_STORE.OK.key, 1),
    (WD_SMP_STORE.SIZE.key, 3072), (WD_SLOT.STATE.key 0 15, 2), (WD_SMP_STATUS.READY.key, 1)] ++ l)
def draining0 (l : List (Key × Nat)) (x : Sampler) : State := { solo0 1 l with sampler := { x with draining := some 15 } }
def rx0 (st : Nat) (l : List (Key × Nat)) : State :=
  given ([(XC_LANE_STATUS.RX_STATE.key 15 7, st), (XC_PORT_CTRL.EN_A.key 15, 1), (XC_PORT_CTRL.FEC_A.key 15, 1),
    (XC_PORT_STATUS.LINK_UP_A.key 15, 1), (XC_LANE_CTRL.AUTO_INV.key 15 7, 1), (XC_PORT_STATUS.PLL_LOCK.key 15, 1)] ++ l)
def rxl0 (st : Nat) (x : Lane) : State := { rx0 st [(XC_LANE_CTRL.ALIGN_MODE.key 15 7, 0)] with lanes := [(127, x)] }

/-- A block that holds the comma alone. -/
def comma0 : Nat := comma * 2 ^ 9
def ready8 : State :=
  given ((List.range 8).flatMap (fun j => [(XC_LANE_STATUS.RX_STATE.key 15 j, 4), (XC_LANE_PEER.VALID.key 15 j, 1), (XC_LANE_PEER.LANE.key 15 j, j), (XC_LANE_PEER.FEC.key 15 j, 1)]) ++
    [(XC_PORT_CTRL.EN_A.key 15, 1)])

/-- Half B of port 15, in four lanes, up, gated and synchronised. -/
def link0 (l : List (Key × Nat)) (x : XpSub) : State :=
  { given (l ++ [(XC_PORT_CTRL.SPLIT.key 15, 1), (XC_LANE_STATUS.RX_STATE.key 15 4, 5), (XC_PORT_STATUS.LINK_UP_B.key 15, 1), (XC_XP_CTRL.GATE_B.key 15, 1), (XC_PORT_CTRL.EN_B.key 15, 1), (XC_XP_STATUS.SYNCED_B.key 15, 1)]) with xp := [(31, x)] }

/-- The header of an empty frame of stream 15. -/
def head0 (q : Nat) : XBlock := ⟨1, frameHeader q 0 false 15 0 0 (frameCrc 0 [])⟩
def frame0 (q : Nat) : XFrame := ⟨q, 0, false, 15, 0, 0, [], frameCrc 0 []⟩
def slots2 : XpSub := { XpSub.cold with slots := [⟨4095, 0, 0, [], 0⟩, ⟨0, 0, 0, [], 0⟩] }

/-- The part with its link up, Bus Master Enable set and the Gallery's clocks running. -/
def host0 (l : List (Key × Nat)) : State :=
  { given ([(CG_LINK.UP.key, 1), (CG_BASE.BME.key, 1), (CG_BASE.BASE_DONE.key, 1)] ++ l) with
    clk := { Clocks.cold with stage := .running, perst := false, warmHold := false } }

/-- Queue 4095 in state `st` and direction `dir`, bound to stope 639. -/
def queue0 (st dir : Nat) (l : List (Key × Nat)) (x : Queue) : State :=
  { host0 ([(QU_STATUS.STATE.key 4095, st), (QU_CTRL.DIR.key 4095, dir), (QU_END.KIND.key 4095, 1), (QU_END.UNIT.key 4095, 639),
      (QU_CTRL.BANK_LOG2.key 4095, 12), (QU_DATA_RING.DATA_LOG2.key 4095, 13), (QU_NOTICE_RING.NOTICE_LOG2.key 4095, 4),
      (FM_READY.READY.key, 2)] ++ l) with
    cage := { Cage.cold with queues := [(4095, x)], rr := 4094 } }
def pkt0 (closed : Bool) : QPkt := ⟨0, 56, false, false, false, false, closed, 1, none⟩
def line0 : QLine := ⟨0, 64, true, true, false⟩
def bin0 (l : List (Key × Nat)) : State :=
  { given ([(CF_CONFIGURED.CONF.key 0 9, 2 ^ 63), (QU_STATUS.STATE.key 4095, 1), (QU_END.KIND.key 4095, 2), (QU_END.UNIT.key 4095, 639),
      (QU_END.PORT.key 4095, 15), (QU_CTRL.DIR.key 4095, 1)] ++ l) with
    stopes := [(639, { Stope.cold with cfg := { StopeCfg.none with binMode := [(15, 2)] } })] }

/-- The Gallery with one packet at `p` bound by `r` for NI `d`; tag 5 of NI 661 in use, tag 6 quarantined. -/
def gal0 (p : Place) (r : Route) (d : Nat) : State :=
  { given [(CF_CONFIGURED.CONF.key 0 9, 2 ^ 63)] with
    gallery := { Gallery.cold with
      packets := [⟨⟨661, none, 8, 8, 1, 0x0706050403020100, false, 0⟩, 0, 5, d, r, p, false, false⟩]
      tags := [(661, 5, false), (661, 6, true)] } }

/-- Its packet. -/
def galPkt (p : Place) (r : Route) (d : Nat) : Packet := ⟨⟨661, none, 8, 8, 1, 0x0706050403020100, false, 0⟩, 0, 5, d, r, p, false, false⟩

/-- A request of NI `ni` for `size` bytes at `addr`. -/
def galReq (ni addr size op : Nat) : GalReq := ⟨ni, none, addr, size, op, 0, false, 3⟩

/-- The Gallery idle, stope 639 in use, `l` set. -/
def galIdle (l : List (Key × Nat)) : State :=
  { given ([(CF_CONFIGURED.CONF.key 0 9, 2 ^ 63)] ++ l) with clk := { Clocks.cold with stage := .running, warmHold := false } }

/-- Channel 7 in state `st`, the Cage ready, all eight channels' start steps ended. -/
def chan0 (st : Nat) (l : List (Key × Nat)) : State :=
  { given ([(FM_READY.READY.key, 1), (DC_STATUS.STATE.key 7, st)] ++ l) with fm := { Foreman.cold with ended := 0x7f80 } }

/-- A good population of one 160 GiB DIMM. -/
def popn0 : Population := ⟨1, true, true, [9], 160, 5, 0, 1⟩

/-- All of DRAM on channel 7, 1 GiB large, write combining `wc`. -/
def dram0 (wc : Nat) (l : List (Key × Nat)) : State :=
  given ([(FM_READY.READY.key, 0x201), (PC_MAP.SET.key, 128), (PC_MAP.TOP_GIB.key, 1), (DC_SCHED.WC_EN.key 7, wc)] ++ l)

/-- The same with page 0 live and holding `p`. -/
def dramLive (p : Page) : State :=
  { dram0 1 [] with dram := { Dram.cold with pages := [(0, p)], live := [(7 * 2 ^ 21, true)] } }

/-- A read of 8 bytes at `a`. -/
def rreq (a : Nat) : DramReq := ⟨661, 5, 0, a, 8, [], 0, false, false, false⟩

/-- A write of `n` bytes at `a`. -/
def wreq (a n : Nat) : DramReq := ⟨661, 5, 0, a, n, List.replicate n 165, 2 ^ n - 1, false, false, false⟩

/-- Devices that return what was stored. -/
def clean0 : DramView := .plain

/-- A read of 8 bytes at `a`. -/
def rrq15 (a : Nat) : DramReq := ⟨661, 5, 0, a, 8, [], 0, false, false, false⟩

/-- A write of `n` bytes at `a`. -/
def wrq15 (a n : Nat) : DramReq := ⟨661, 5, 0, a, n, List.replicate n 165, 2 ^ n - 1, false, false, false⟩

/-- Devices that return what was stored. -/
def clean15 : DramView := .plain

/-- Key id 15 protects the first 2 MiB of one channel of 1 GiB; its tree lies above. -/
def range0 (st : Nat) (l : List (Key × Nat)) (x : Crypto) : State :=
  { given ([(FM_READY.READY.key, 0x201), (PC_MAP.SET.key, 128), (PC_MAP.TOP_GIB.key, 1), (PC_MAP.FINAL.key, 1), (PC_AREA.BASE.key, 2),
      (DC_SCHED.WC_EN.key 7, 0), (EN_RANGE_BASE.LEN.key 0 15, 1), (EN_RANGE_TREE.BASE.key 0 15, 1), (EN_RANGE_TREE.LEN.key 0 15, 1),
      (EN_RANGE_CTRL.HEIGHT.key 0 15, 4), (EN_RANGE_CTRL.STATE.key 0 15, st)] ++ l) with crypto := x }

/-- The leaf node of page 0 held, page 0's counter at `c`. -/
def leaf0 (c : Nat) : Crypto :=
  { Crypto.cold with slots := [(15, 7)], counters := [(⟨0, 15, 0⟩, c)], cache := [⟨15, 1, 0, false⟩] }

/-- Crew 7's crib holds 8 bytes at its second word; two of its engines hold a reservation there. -/
def crib7 : State :=
  { (given [(FM_READY.READY.key, 2 ^ 64 - 1)]).store 0x010004E00008 8 0x1122334455667788 with
    tram := { Tram.cold with engines := [(57, { Engine.cold with resv := some 1 }), (63, { Engine.cold with resv := some 1 })] } }

/-- A Gallery access of `z` bytes at `a`. -/
def gal16 (a z : Nat) (write posted : Bool) (d : Nat) (poison : Bool) : GalAccess := ⟨a, z, write, posted, d, poison, 3, 4, false⟩

/-- Crew 7 powered, its channel 3 set for a transfer. -/
def hoist7 (l : List (Key × Nat)) : State :=
  (given ([(CK_CREW_PWR.ON_STAT.key, 0xFF), (TR_HOIST_GADDR.GADDR.key 7 3, 0x1000), (TR_HOIST_CADDR.CADDR.key 7 3, 0x1FFFC0)] ++ l)).store
    0x010004FFFFC0 8 0x1122334455667788

/-- The transfer of channel 3 of crew 7. -/
def run16 (stow : Bool) (n : Option Nat) : Hoist := ⟨0x1000, 0x1FFFC0, 0x40, stow, n⟩

/-- `hoist7` with that transfer in progress. -/
def hoisting7 (stow : Bool) (n : Option Nat) : State :=
  { hoist7 [(TR_HOIST_STATUS.BUSY.key 7 3, 1)] with tram := { Tram.cold with hoists := [(31, run16 stow n)] } }

/-- Engine 63 RUNNING at its last word, which is `w`, with hidden state `x`. -/
def tram0 (w : Nat) (x : Engine) : State :=
  { (given [(TR_STATUS.STATE.key 63, 1), (TR_PC.PC.key 63, 0xFFFC)]).store (imemBase 63 + 0xFFFC) 4 w with
    tram := { Tram.cold with engines := [(63, x)] } }

/-- An engine with these registers and accumulators. -/
def tregs0 (g : List (Nat × Word)) (a : List (Nat × Acc72)) : Engine := { Engine.cold with g := g, acc := a }

/-- Engine 63 RUNNING at its last word, which is `w`, with hidden state `x`, and these register fields. -/
def tramAt (l : List (Key × Nat)) (w : Nat) (x : Engine) : State :=
  { (given (l ++ [(TR_STATUS.STATE.key 63, 1), (TR_PC.PC.key 63, 0xFFFC)])).store (imemBase 63 + 0xFFFC) 4 w with
    tram := { Tram.cold with engines := [(63, x)] } }

/-- An engine with these registers and accumulators. -/
def tregs1 (g : List (Nat × Word)) (a : List (Nat × Acc72)) : Engine := { Engine.cold with g := g, acc := a }

/-- Engine 63 RUNNING at its last word, which is `w`, with hidden state `x`, these register fields, and 8 bytes around `g`. -/
def tramMem (l : List (Key × Nat)) (w : Nat) (x : Engine) (g d : Nat) : State :=
  { ((given (l ++ [(TR_STATUS.STATE.key 63, 1), (TR_PC.PC.key 63, 0xFFFC)])).store (imemBase 63 + 0xFFFC) 4 w).store (g / 8 * 8) 8 d with
    tram := { Tram.cold with engines := [(63, x)] }, clk := { State.reset.clk with gated := [(1, 112), (1, 114)] } }

/-- An engine with these registers and circular registers. -/
def tregs2 (g k : List (Nat × Word)) : Engine := { Engine.cold with g := g, k := k }

/-- Engine 63 RUNNING at its last word, which is `w`, with hidden state `x`, these register fields, and 8 bytes around `g`. -/
def tramSt (l : List (Key × Nat)) (w : Nat) (x : Engine) (g d : Nat) : State :=
  { ((given (l ++ [(TR_STATUS.STATE.key 63, 1), (TR_PC.PC.key 63, 0xFFFC)])).store (imemBase 63 + 0xFFFC) 4 w).store (g / 8 * 8) 8 d with
    tram := { Tram.cold with engines := [(63, x)] }, clk := { State.reset.clk with gated := [(1, 112), (1, 113)] } }

/-- An engine with these registers and circular registers. -/
def tregs3 (g k : List (Nat × Word)) : Engine := { Engine.cold with g := g, k := k }

/-- Engine 63 RUNNING at its last word, which is `w`, with hidden state `x`, and these register fields. -/
def tramQ (l : List (Key × Nat)) (w : Nat) (x : Engine) : State :=
  { (given (l ++ [(TR_STATUS.STATE.key 63, 1), (TR_PC.PC.key 63, 0xFFFC)])).store (imemBase 63 + 0xFFFC) 4 w with
    tram := { Tram.cold with engines := [(63, x)] } }

/-- Engine 63 with hidden state `x`, and these register fields. -/
def tramC (l : List (Key × Nat)) (x : Engine) : State := { given l with tram := { Tram.cold with engines := [(63, x)] } }

/-- An engine with g30 written. -/
def g30 : Engine := { Engine.cold with g := [(30, 0xA1B2C3D4)] }

/-- A closed packet of 56 bytes. -/
def pktE : QPkt := ⟨0, 56, false, false, false, false, true, 1, none⟩

/-- Down queue 77, bound to port 5 of engine 63, with one closed packet, whose notice is due again. -/
def queued0 : State :=
  { given [(QU_CTRL.DIR.key 77, 0), (QU_STATUS.STATE.key 77, 2), (QU_END.KIND.key 77, 0), (QU_END.UNIT.key 77, 63), (QU_END.PORT.key 77, 5)] with
    cage := { State.reset.cage with queues := [(77, { Queue.cold with pkts := [pktE] })] }, tram := { Tram.cold with resend := [63] } }

/-- A part whose boot ROM may read images, with steps `e` ended. -/
def rom18 (e : Nat) (r : StartRecord) : State :=
  { given [(CK_CLK_STATUS.FM_CLK_SRC.key, 1), (WD_TALLY.TALLY.key, 7)] with
    clk := { State.reset.clk with stage := .running }, fm := { Foreman.cold with ended := e, record := r } }

/-- An image whose header is wrong. -/
def bad18 : ImageView := ⟨[1, 2, 3, 4], [], []⟩

/-- A booted part, with steps `e` ended, these register fields and this record. -/
def up18 (e : Nat) (l : List (Key × Nat)) (r : StartRecord) : State :=
  { (given (l ++ [(FM_READY.READY.key, 1)])).store 0x010004E00008 4 0xA1B2C3D4 with fm := { Foreman.cold with ended := e, record := r } }

/-- A flash whose copy A is in force. -/
def flash18 : Flash := { Flash.blank with copyA := some ⟨9, .empty⟩, copyB := some ⟨8, .empty⟩ }

/-- A booted part with these register fields. -/
def mb18 (l : List (Key × Nat)) : State :=
  { given (l ++ [(FM_READY.READY.key, 1)]) with fm := { Foreman.cold with primaryVer := 5, svn := 6, record := { StartRecord.empty with
      rec_ := 3, primary := some 4, failed := [(1, [2, 3])], ports := 0x8001, crews := 0x82 } } }

/-- An image whose header is wrong. -/
def bad18b : ImageView := ⟨[1, 2, 3, 4], [], []⟩

/-- A log entry. -/
def log18 : LogRec := ⟨1, 2, 8, 2, 3, 4, 5⟩

/-- An event of this severity. -/
def ev18 (v : Nat) : LogEvent := ⟨12, 0x00C0, v, 7, 9⟩

/-- A part whose Foreman has this log and these events. -/
def log18b (l : List (Key × Nat)) (g : List LogRec) (e : List LogEvent) : State :=
  { given l with events := e, fm := { Foreman.cold with log := g } }

/-- A part whose Foreman is so. -/
def fm18 (l : List (Key × Nat)) (f : Foreman) : State := { given l with fm := f }

/-- A part with these register fields. -/
def bwS (l : List (Key × Nat)) : State := given l

/-- A member at this address that announced this size and `LEAD_EN`. -/
def memB (a n : Nat) (le : Bool) : Member := ⟨a, n, le, 0, 0, false, 0, 0, 0, 0, 0, 0, [], 0⟩

/-- A part with these register fields. -/
def bwG (l : List (Key × Nat)) : State := given l

/-- A member at this address that announced this size and `LEAD_EN`. -/
def memG (a n : Nat) (le : Bool) : Member := ⟨a, n, le, 0, 0, false, 0, 0, 0, 0, 0, 0, [], 0⟩

/-- The part running at count `c`, with corrected time 2^64 − 1 ns at count 8 and 3 ns a count. -/
def time0 (c : Nat) (l : List (Key × Nat)) : State :=
  { given ([(SC_COUNT.COUNT.key, c), (SC_EPOCH_COUNT.EPOCH_COUNT.key, 8), (SC_EPOCH_TIME.EPOCH_TIME.key, 2 ^ 64 - 1),
      (SC_INC.INC.key, 0x0003000000000000)] ++ l) with clk := { Clocks.cold with stage := .running } }

/-- The part fresh at count 8 and time 100 ns, heard by its chain. -/
def bell0 (l : List (Key × Nat)) : State :=
  { given ([(SC_COUNT.COUNT.key, 8), (SC_EPOCH_COUNT.EPOCH_COUNT.key, 8), (SC_EPOCH_TIME.EPOCH_TIME.key, 100), (BW_STATUS.ENUMERATED.key, 1),
      (SC_INC.INC.key, 0x0003000000000000)] ++ l) with clk := { Clocks.cold with stage := .running } }

/-- A Lamp request of this `CMD`, size, address and data, with its `CRC`, and with `START` or the `CRC` wrong where the last two say so. -/
def lampQ (two : Bool) (cmd eight addr data start bad : Nat) : LampReq :=
  let v := cmd + eight * 2 ^ 4 + addr * 2 ^ 5 + data * 2 ^ 53
  let n := if cmd = 3 then 117 else 53
  ⟨two, start + 2 * (v % 2 ^ n) + 2 ^ (1 + n) * ((crc8Of n v + bad) % 256)⟩

/-- Engine 63 RUNNING at its last word, which is `w`, with hidden state `x` and trace path `tr`, and these register fields. -/
def stimAt (l : List (Key × Nat)) (w : Nat) (x : Engine) (tr : Trace) : State :=
  { (given (l ++ [(TR_STATUS.STATE.key 63, 1), (TR_PC.PC.key 63, 0xFFFC)])).store (imemBase 63 + 0xFFFC) 4 w with
    tram := { Tram.cold with engines := [(63, x)] }, trace := tr }

/-- The hypotheses of each clause of `Obligations.EmptyQueueIdles` can be met. -/
theorem test_hyps_EmptyQueueIdles :
    (∃ (s : State), s.pending = [] ∧ (s.clk.stage ≠ .running ∨ s.clk.warmHold = true)) ∧
    (∃ (s : State), s.pending = [] ∧ s.dram.queue = [] ∧ ((List.range 128).all fun l => decide (s.rd XC_LANE_STATUS.TX_STATE (l / 8) (l % 8) ≠ 1)) = true) ∧
    (∃ (s : State), s.pending = []) :=
  ⟨⟨{ State.reset with clk := { Clocks.cold with warmHold := true } }, by decide +kernel⟩,
   ⟨State.reset, by decide +kernel⟩,
   ⟨State.reset, by decide +kernel⟩⟩

/-- The hypotheses of `Obligations.StepKeepsCanonical` can be met. -/
theorem test_hyps_StepKeepsCanonical :
    (∃ (s : State) (t : State), s.canonical = true ∧ step s = .next t) :=
  ⟨State.reset, State.reset, by decide +kernel, by first | decide +kernel | rfl | exact Or.inl ⟨rfl, rfl⟩⟩

/-- The hypotheses of each clause of `Obligations.StepTakesOneCommand` can be met. -/
theorem test_hyps_StepTakesOneCommand :
    (∃ (s : State) (t : State), step s = .next t) ∧
    (∃ (s : State) (t : State), step s = .next t) ∧
    (∃ (s : State) (t : State), step s = .next t) :=
  ⟨⟨State.reset, State.reset, by first | decide +kernel | rfl | exact Or.inl ⟨rfl, rfl⟩⟩,
   ⟨State.reset, State.reset, by first | decide +kernel | rfl | exact Or.inl ⟨rfl, rfl⟩⟩,
   ⟨State.reset, State.reset, by first | decide +kernel | rfl | exact Or.inl ⟨rfl, rfl⟩⟩⟩

/-- The hypotheses of each clause of `Obligations.WellFormedCompletes` can be met. -/
theorem test_hyps_WellFormedCompletes :
    (∃ (c : Instr), wellFormed c = true) ∧
    (∃ (c : Instr), wellFormed c = false) :=
  ⟨⟨.pinWrite 16 63 7, by decide +kernel⟩,
   ⟨.pinWrite 16 64 7, by decide +kernel⟩⟩

/-- The hypotheses of each clause of `Obligations.OnlyTheirClassesChangeStores` can be met. -/
theorem test_hyps_OnlyTheirClassesChangeStores :
    (∃ (c : Instr) (s : State) (t : State), exec c s = .next t ∧ storesBytes c = false) ∧
    (∃ (c : Instr) (s : State) (t : State), exec c s = .next t ∧ changesUnits c = false) ∧
    (∃ (c : Instr) (s : State) (t : State), exec c s = .next t ∧ changesUnits c = false) ∧
    (∃ (c : Instr) (s : State) (t : State), exec c s = .next t ∧ changesFrames c = false) ∧
    (∃ (c : Instr) (s : State) (t : State), exec c s = .next t ∧ changesFrames c = false) ∧
    (∃ (c : Instr) (s : State) (t : State), exec c s = .next t ∧ changesFlash c = false) ∧
    (∃ (c : Instr) (s : State) (t : State), exec c s = .next t ∧ changesKeys c = false) ∧
    (∃ (c : Instr) (s : State) (t : State), exec c s = .next t ∧ changesKeys c = false) :=
  ⟨⟨.vccAonLoss, State.reset, { State.reset with clk := { Clocks.cold with stage := .aonLost } }, by first | decide +kernel | rfl | exact Or.inl ⟨rfl, rfl⟩, by decide +kernel⟩,
   ⟨.vccAonLoss, State.reset, { State.reset with clk := { Clocks.cold with stage := .aonLost } }, by first | decide +kernel | rfl | exact Or.inl ⟨rfl, rfl⟩, by decide +kernel⟩,
   ⟨.vccAonLoss, State.reset, { State.reset with clk := { Clocks.cold with stage := .aonLost } }, by first | decide +kernel | rfl | exact Or.inl ⟨rfl, rfl⟩, by decide +kernel⟩,
   ⟨.vccAonLoss, State.reset, { State.reset with clk := { Clocks.cold with stage := .aonLost } }, by first | decide +kernel | rfl | exact Or.inl ⟨rfl, rfl⟩, by decide +kernel⟩,
   ⟨.vccAonLoss, State.reset, { State.reset with clk := { Clocks.cold with stage := .aonLost } }, by first | decide +kernel | rfl | exact Or.inl ⟨rfl, rfl⟩, by decide +kernel⟩,
   ⟨.vccAonLoss, State.reset, { State.reset with clk := { Clocks.cold with stage := .aonLost } }, by first | decide +kernel | rfl | exact Or.inl ⟨rfl, rfl⟩, by decide +kernel⟩,
   ⟨.vccAonLoss, State.reset, { State.reset with clk := { Clocks.cold with stage := .aonLost } }, by first | decide +kernel | rfl | exact Or.inl ⟨rfl, rfl⟩, by decide +kernel⟩,
   ⟨.vccAonLoss, State.reset, { State.reset with clk := { Clocks.cold with stage := .aonLost } }, by first | decide +kernel | rfl | exact Or.inl ⟨rfl, rfl⟩, by decide +kernel⟩⟩

/-- The hypotheses of `Obligations.CommandsReachOnly` can be met. -/
theorem test_hyps_CommandsReachOnly :
    (∃ (c : Instr) (s : State) (t : State) (p : Part), exec c s = .next t ∧ p ∉ reach c) :=
  ⟨.vccAonLoss, State.reset, { State.reset with clk := { Clocks.cold with stage := .aonLost } }, .shift, by first | decide +kernel | rfl | exact Or.inl ⟨rfl, rfl⟩, by decide +kernel⟩

/-- The hypotheses of each clause of `Obligations.ClockBringUp` can be met. -/
theorem test_hyps_ClockBringUp :
    (∃ (s : State) (n : _), s.clk.stage = .window ∧ 24576 ≤ n ∧ n ≤ 40960) ∧
    (∃ (s : State), s.clk.stage = .locking) ∧
    (∃ (s : State), s.clk.stage = .aligning) ∧
    (∃ (s : State) (root : _), s.clk.fmSwitch = some root) ∧
    (∃ (s : State) (n : _), s.winderStopped = true ∧ s.rd CK_CLK_STATUS.PHASE_DIV_MIN ≤ n ∧ n ≤ 96) ∧
    (∃ (s : State) (n : _), (s.winderStopped = false ∨ n < s.rd CK_CLK_STATUS.PHASE_DIV_MIN ∨ 96 < n)) ∧
    (∃ (s : State) (n : _), n ≤ 96 ∧ s.clk.pendingDiv = some n) ∧
    (∃ (s : State) (cls : _) (unit : _), cls < 8 ∧ s.bit CK_GATE_DIS.DIS cls = false ∧ s.gateIdle cls unit = true ∧ (cls, unit) ∉ s.clk.gated) :=
  ⟨⟨clk0 { Clocks.cold with stage := .window, failedWindows := 3 } [], 24576, by decide +kernel⟩,
   ⟨clk0 { Clocks.cold with stage := .locking } [], by decide +kernel⟩,
   ⟨clk0 { Clocks.cold with stage := .aligning } [], by decide +kernel⟩,
   ⟨clk0 { Clocks.cold with fmSwitch := some true } [], true, by decide +kernel⟩,
   ⟨given [(CK_CLK_STATUS.PHASE_DIV_MIN.key, 8)], 96, by decide +kernel⟩,
   ⟨given [(CK_CLK_STATUS.PHASE_DIV_MIN.key, 8)], 97, by decide +kernel⟩,
   ⟨clk0 { Clocks.cold with pendingDiv := some 96 } [], 96, by decide +kernel⟩,
   ⟨State.reset, 0, 63, by decide +kernel⟩⟩

/-- The hypotheses of `Obligations.WarmReset` can be met. -/
theorem test_hyps_WarmReset :
    (∃ (s : State) (c : Instr) (cause : Fld), s.halted = false ∧ s.clk.stage ≠ .aonLost ∧ ((c = .perstAssert ∧ cause = CK_RST_CAUSE.PERST) ∨ (c = .warmReq 0x5A5A true ∧ cause = CK_RST_CAUSE.SW_WARM) ∨ (s.clk.stage = .running ∧ cause = CK_RST_CAUSE.ROOT_LOST ∧ (c = .rootLost ∨ c = .refclkEdgeTimeout ∨ ∃ n, (n < 24576 ∨ 40960 < n) ∧ c = .refclkWindowEnd n)) ∨ ((∃ r, r < 6 ∧ c = .railLost r) ∧ cause = CK_RST_CAUSE.RAIL) ∨ (c = .lampReset true ∧ cause = CK_RST_CAUSE.LAMP))) :=
  ⟨State.reset, .perstAssert, CK_RST_CAUSE.PERST, by decide +kernel, by decide +kernel, by first | decide +kernel | rfl | exact Or.inl ⟨rfl, rfl⟩⟩

/-- The hypotheses of each clause of `Obligations.ClockFailures` can be met. -/
theorem test_hyps_ClockFailures :
    (∃ (s : State) (n : _), s.clk.stage = .window ∧ (n < 24576 ∨ 40960 < n) ∧ s.clk.failedWindows + 1 ≠ 16) ∧
    (∃ (s : State) (n : _), s.clk.stage = .window ∧ (n < 24576 ∨ 40960 < n) ∧ s.clk.failedWindows = 15) ∧
    (∃ (s : State), s.clk.stage = .locking ∧ s.clk.lockAttempts < 2) ∧
    (∃ (s : State), s.clk.stage = .locking ∧ 2 ≤ s.clk.lockAttempts) ∧
    (∃ (s : State) (root : _), s.clk.fmSwitch = some root) ∧
    (∃ (s : State), s.clk.fmHeld = true) ∧
    (∃ (s : State), s.on CK_CLK_STATUS.LIMP = true) ∧
    (∃ (s : State), s.clk.stage = .railHold) ∧
    (∃ (s : State), s.clk.warmHold = true ∧ s.clk.lampHold = false ∧ s.clk.stage ≠ .railHold) :=
  ⟨⟨clk1 { Clocks.cold with stage := .window, failedWindows := 14 } [], 24575, by decide +kernel⟩,
   ⟨clk1 { Clocks.cold with stage := .window, failedWindows := 15 } [], 40961, by decide +kernel⟩,
   ⟨clk1 { Clocks.cold with stage := .locking, lockAttempts := 1 } [], by decide +kernel⟩,
   ⟨clk1 { Clocks.cold with stage := .locking, lockAttempts := 2 } [], by decide +kernel⟩,
   ⟨clk1 { Clocks.cold with fmSwitch := some true } [], true, by decide +kernel⟩,
   ⟨clk1 { Clocks.cold with fmHeld := true } [], by decide +kernel⟩,
   ⟨clk1 .cold [(CK_CLK_STATUS.LIMP.key, 1)], by decide +kernel⟩,
   ⟨clk1 { Clocks.cold with stage := .railHold } [], by decide +kernel⟩,
   ⟨clk1 { Clocks.cold with warmHold := true, lampHold := false } [], by decide +kernel⟩⟩

/-- The hypotheses of each clause of `Obligations.StopeAndEngineReset` can be met. -/
theorem test_hyps_StopeAndEngineReset :
    (∃ (s : State) (n : _), s.clk.warmHold = false ∧ (640 ≤ n ∨ s.powered n = false ∨ s.stopeBlocked n = true ∨ s.clk.stopeReset.any (fun p => decide (p.1 ≠ n)) = true)) ∧
    (∃ (s : State) (n : _) (h : _), s.clk.warmHold = false ∧ n < 640 ∧ s.powered n = true ∧ s.stopeBlocked n = false ∧ s.clk.stopeReset = some (n, h)) ∧
    (∃ (s : State) (n : _), s.clk.warmHold = false ∧ n < 640 ∧ s.powered n = true ∧ s.stopeBlocked n = false ∧ s.clk.stopeReset = none) ∧
    (∃ (s : State) (n : _), s.clk.stopeReset = some (n, false)) ∧
    (∃ (s : State) (n : _), s.clk.stopeReset = some (n, true)) ∧
    (∃ (s : State) (e : _) (m : _), e < 64 ∧ s.clk.warmHold = false ∧ s.clk.engineReset = some m ∧ m ≠ e) ∧
    (∃ (s : State) (e : _), e < 64 ∧ s.clk.warmHold = false ∧ s.clk.engineReset = some e) ∧
    (∃ (s : State) (e : _), e < 64 ∧ s.clk.warmHold = false ∧ s.clk.engineReset = none) ∧
    (∃ (s : State) (e : _), e < 64 ∧ s.clk.engineReset = some e ∧ s.tram.wdogWait = []) :=
  ⟨⟨State.reset, 640, by decide +kernel⟩,
   ⟨clk1 { Clocks.cold with warmHold := false, stopeReset := some (639, true) } [], 639, true, by decide +kernel⟩,
   ⟨clk1 { Clocks.cold with warmHold := false } [], 639, by decide +kernel⟩,
   ⟨clk1 { Clocks.cold with stopeReset := some (639, false) } [], 639, by decide +kernel⟩,
   ⟨clk1 { Clocks.cold with stopeReset := some (639, true) } [], 639, by decide +kernel⟩,
   ⟨clk1 { Clocks.cold with warmHold := false, engineReset := some 0 } [], 63, 0, by decide +kernel⟩,
   ⟨clk1 { Clocks.cold with warmHold := false, engineReset := some 63 } [], 63, by decide +kernel⟩,
   ⟨clk1 { Clocks.cold with warmHold := false } [], 63, by decide +kernel⟩,
   ⟨clk1 { Clocks.cold with engineReset := some 63 } [], 63, by decide +kernel⟩⟩

/-- The hypotheses of each clause of `Obligations.PowerDomains` can be met. -/
theorem test_hyps_PowerDomains :
    (∃ (s : State) (n : _), n < 640 ∧ (s.powered n = false ∨ s.stopeBlocked n = true)) ∧
    (∃ (s : State) (n : _), n < 640 ∧ s.powered n = true ∧ s.stopeBlocked n = false) ∧
    (∃ (s : State) (n : _), n < 640 ∧ s.powered n = false) ∧
    (∃ (s : State) (n : _), n < 640 ∧ (n, true) ∈ s.clk.stopePower) ∧
    (∃ (s : State) (n : _), n < 640 ∧ (n, false) ∈ s.clk.stopePower) ∧
    (∃ (s : State) (c : _), c < 8 ∧ (∃ m, m < 8 ∧ s.engineIdle (8 * c + m) = false)) ∧
    (∃ (s : State) (c : _), c < 8 ∧ (∀ m, m < 8 → s.engineIdle (8 * c + m) = true)) ∧
    (∃ (c : _), c < 8) ∧
    (∃ (s : State) (c : _), c < 8 ∧ (c, true) ∈ s.clk.crewPower) ∧
    (∃ (s : State) (c : _), c < 8 ∧ (c, false) ∈ s.clk.crewPower) :=
  ⟨⟨clk1 .cold [(CK_STOPE_PWR_STAT.ON_STAT.key 0 9, 0)], 639, by decide +kernel⟩,
   ⟨State.reset, 639, by decide +kernel⟩,
   ⟨clk1 .cold [(CK_STOPE_PWR_STAT.ON_STAT.key 0 9, 0)], 639, by decide +kernel⟩,
   ⟨clk1 { Clocks.cold with stopePower := [(639, true)] } [], 639, by decide +kernel⟩,
   ⟨clk1 { Clocks.cold with stopePower := [(639, false)] } [], 639, by decide +kernel⟩,
   ⟨clk1 .cold [(TR_STATUS.STATE.key 63, 1)], 7, by decide +kernel, by first | decide +kernel | rfl | exact Or.inl ⟨rfl, rfl⟩⟩,
   ⟨State.reset, 7, by decide +kernel⟩,
   ⟨7, by decide +kernel⟩,
   ⟨clk1 { Clocks.cold with crewPower := [(7, true)] } [], 7, by decide +kernel⟩,
   ⟨clk1 { Clocks.cold with crewPower := [(7, false)] } [], 7, by decide +kernel⟩⟩

/-- The hypotheses of each clause of `Obligations.Strokes` can be met. -/
theorem test_hyps_Strokes :
    (∃ (s : State), (s.rd WD_STATUS.STATE ≠ 2 ∨ s.winder.inStroke = true ∨ s.rd WD_HORIZON.H ≤ s.rd WD_TALLY.TALLY ∨ s.portWait (s.rd WD_TALLY.TALLY) ≠ 0)) ∧
    (∃ (s : State), s.rd WD_STATUS.STATE = 2 ∧ s.winder.inStroke = false ∧ s.sampleDue = none ∧ s.portWait (s.rd WD_TALLY.TALLY) = 0 ∧ s.rd WD_TALLY.TALLY < s.rd WD_HORIZON.H ∧ s.slotHeld 0 = false ∧ (∀ e ∈ s.winder.events, e.kind = .sample ∨ s.rd WD_TALLY.TALLY < e.e)) ∧
    (∃ (s : State) (p : _) (k : _), p = s.winder.phase ∧ k = s.rd CF_LOADED.K ∧ s.winder.inStroke = true ∧ s.halted = false ∧ p < s.rd CF_LOADED.F * k ∧ p < (s.winder.slots + 1) * k ∧ p % k ≠ 0 ∧ k ≤ 16 ∧ (s.activeStopes.all fun n => decide (s.rd ST_TREE_STATUS.LOCAL_PHASE n = p % k ∧ s.rd ST_TREE_STATUS.LOCAL_CTX n = p / k)) = true) ∧
    (∃ (s : State), s.winder.inStroke = true ∧ s.halted = false ∧ s.winder.phase < s.rd CF_LOADED.F * s.rd CF_LOADED.K ∧ s.winder.phase < (s.winder.slots + 1) * s.rd CF_LOADED.K ∧ s.winder.phase % s.rd CF_LOADED.K = 0 ∧ (s.winder.phase ≠ 0 → s.slotHeld (s.winder.phase / s.rd CF_LOADED.K) = false)) ∧
    (∃ (s : State), s.winder.inStroke = true ∧ s.halted = false ∧ s.winder.phase = (s.winder.slots + 1) * s.rd CF_LOADED.K ∧ s.winder.slots < s.rd CF_LOADED.F ∧ (s.activeStopes.all fun n => decide (s.rd ST_TREE_STATUS.LOCAL_PHASE n = 0)) = true) ∧
    (∃ (s : State), s.winder.inStroke = true ∧ s.halted = false ∧ s.winder.slots = s.rd CF_LOADED.F ∧ s.rd CF_LOADED.F ≠ 0 ∧ s.rd WD_TALLY.TALLY + 1 < 2 ^ 64) ∧
    (∃ (s : State) (f : Fld), s.rd WD_STATUS.STATE = 2 ∧ s.winder.inStroke = false ∧ s.halted = false ∧ ((s.sampleDue.isSome = true ∧ f = WD_HOLDS_SAMPLE.COUNT) ∨ (s.sampleDue = none ∧ s.stopDue = none ∧ s.rd WD_HORIZON.H ≤ s.rd WD_TALLY.TALLY ∧ f = WD_HOLDS_GRANT.COUNT) ∨ (s.sampleDue = none ∧ s.stopDue = none ∧ s.rd WD_TALLY.TALLY < s.rd WD_HORIZON.H ∧ s.portWait (s.rd WD_TALLY.TALLY) ≠ 0 ∧ f = WD_HOLDS_FRAME.COUNT))) :=
  ⟨⟨wind0 2 1 .cold [(WD_TALLY.TALLY.key, 6), (WD_HORIZON.H.key, 6)], by decide +kernel⟩,
   ⟨wind0 2 1 .cold [], by decide +kernel⟩,
   ⟨wind0 2 4 { Winder.cold with inStroke := true, phase := 15, slots := 3 } [], 15, 4, by decide +kernel⟩,
   ⟨wind0 2 4 { Winder.cold with inStroke := true, phase := 12, slots := 3 } [], by decide +kernel⟩,
   ⟨wind0 2 4 { Winder.cold with inStroke := true, phase := 16, slots := 3 } [], by decide +kernel⟩,
   ⟨wind0 2 1 { Winder.cold with inStroke := true, phase := 4, slots := 1 } [(WD_TALLY.TALLY.key, 2 ^ 64 - 2)], by decide +kernel⟩,
   ⟨wind0 2 1 { Winder.cold with events := [⟨.sample, 5, 15, 0, []⟩] } [], WD_HOLDS_SAMPLE.COUNT, by decide +kernel⟩⟩

/-- The hypotheses of each clause of `Obligations.StopeTree` can be met. -/
theorem test_hyps_StopeTree :
    (∃ (s : State) (n : Nat) (src : Nat), n < 640 ∧ (2 ≤ src ∨ s.rd ST_TREE_STATUS.SWITCHING n ≠ 0 ∨ s.stopeState n ≠ 2)) ∧
    (∃ (s : State) (n : Nat) (src : Nat), n < 640 ∧ src = s.rd ST_TREE_STATUS.SRC_CUR n ∧ src < 2 ∧ s.rd ST_TREE_STATUS.SWITCHING n = 0 ∧ s.stopeState n = 2) ∧
    (∃ (s : State) (n : Nat) (src : Nat), n < 640 ∧ src < 2 ∧ src ≠ s.rd ST_TREE_STATUS.SRC_CUR n ∧ s.rd ST_TREE_STATUS.SWITCHING n = 0 ∧ s.stopeState n = 2) ∧
    (∃ (s : State) (n : Nat) (src : Nat), n < 640 ∧ (s.stope n).switchTo = some src ∧ src < 2) ∧
    (∃ (s : State) (n : Nat) (src : Nat), n < 640 ∧ (s.stope n).switchTo = some src ∧ src < 2) ∧
    (∃ (n : Nat), n < 640) ∧
    (∃ (s : State) (n : Nat), n < 640 ∧ (s.rd ST_TREE_STATUS.SRC_CUR n ≠ 1 ∨ s.rd ST_TREE_STATUS.SWITCHING n ≠ 0 ∨ n ∈ s.clk.pulses)) ∧
    (∃ (s : State) (n : Nat), n < 640 ∧ s.rd ST_TREE_STATUS.SRC_CUR n = 1 ∧ s.rd ST_TREE_STATUS.SWITCHING n = 0 ∧ n ∉ s.clk.pulses ∧ (s.stope n).capturesOff = false ∧ s.stopeState n = 2 ∧ s.rd ST_TREE_STATUS.LOCAL_PHASE n < s.rd CF_LOADED.K ∧ s.rd CF_LOADED.K ≤ 16 ∧ s.rd ST_TREE_STATUS.LOCAL_CTX n < s.rd CF_LOADED.F ∧ s.rd CF_LOADED.F ≤ 4) :=
  ⟨⟨State.reset, 639, 1, by decide +kernel⟩,
   ⟨given [(ST_STATUS.ISOLATED.key 639, 1), (CF_CONFIGURED.CONF.key 0 9, 2 ^ 63), (ST_TREE_STATUS.SRC_CUR.key 639, 1)], 639, 1, by decide +kernel⟩,
   ⟨given [(ST_STATUS.ISOLATED.key 639, 1), (CF_CONFIGURED.CONF.key 0 9, 2 ^ 63)], 639, 1, by decide +kernel⟩,
   ⟨st639 { Stope.cold with switchTo := some 1 } [], 639, 1, by decide +kernel⟩,
   ⟨st639 { Stope.cold with switchTo := some 1 } [], 639, 1, by decide +kernel⟩,
   ⟨639, by decide +kernel⟩,
   ⟨given [(ST_TREE_STATUS.SRC_CUR.key 639, 0)], 639, by decide +kernel⟩,
   ⟨given [(ST_STATUS.ISOLATED.key 639, 1), (CF_CONFIGURED.CONF.key 0 9, 2 ^ 63), (ST_TREE_STATUS.SRC_CUR.key 639, 1), (ST_TREE_STATUS.LOCAL_PHASE.key 639, 15), (ST_TREE_STATUS.LOCAL_CTX.key 639, 3), (CF_LOADED.K.key, 16), (CF_LOADED.F.key, 4)], 639, by decide +kernel⟩⟩

/-- The hypotheses of each clause of `Obligations.StopeMemories` can be met (1). -/
theorem test_hyps_StopeMemories :
    (∃ (s : State) (n : Nat) (m : Nat) (u : _), n < 640 ∧ m < 18 ∧ (m, u) ∈ (s.stope n).writebacks ∧ 1 ≤ s.unitErr n m u ∧ s.unitErr n m u ≤ 64) ∧
    (∃ (s : State) (n : Nat) (m : Nat) (u : _), n < 640 ∧ m < 18 ∧ (m, u) ∉ (s.stope n).writebacks) ∧
    (∃ (s : State) (n : Nat) (m : Nat), n < 640 ∧ m < 18 ∧ (s.rd ST_MEM_CTRL.SWEEP_EN n = 0 ∨ s.configured n = false ∨ s.powered n = false ∨ s.inReset n = true)) ∧
    (∃ (s : State) (n : Nat) (m : Nat), n < 640 ∧ m < 18 ∧ s.rd ST_MEM_CTRL.SWEEP_EN n ≠ 0 ∧ s.configured n = true ∧ s.powered n = true ∧ s.inReset n = false ∧ (∀ k, k < 18 → s.unitErr n k (Tab.get 0 (s.stope n).sweep k) = 0)) ∧
    (∃ (s : State) (n : Nat) (m : Nat), n < 640 ∧ m < 18 ∧ s.bit ST_MEM_JRNL.ARMED m n = true) ∧
    (∃ (s : State) (n : Nat) (m : Nat), n < 640 ∧ m < 18 ∧ s.bit ST_MEM_JRNL.ARMED m n = false) ∧
    (∃ (n : Nat) (m : Nat), n < 640 ∧ m < 18) ∧
    (∃ (s : State) (n : Nat) (m : Nat), n < 640 ∧ m < 18 ∧ m < 16 ∧ s.inUse n = false) ∧
    (∃ (s : State) (n : Nat) (m : Nat), n < 640 ∧ m < 18 ∧ m < 16 ∧ s.inUse n = true ∧ (s.stope n).bqmode m = 2 ∧ 0 < (s.binEnd n m).grant ∧ 0 < ((s.stope n).queue m).count ∧ (s.binEnd n m).run.length < 16 ∧ (∀ w ∈ (s.binEnd n m).run, w.2 = false) ∧ s.unitErr n m (((s.stope n).queue m).rp / 2) = 0) ∧
    (∃ (s : State) (n : Nat) (m : Nat) (w : _) (r : _), n < 640 ∧ m < 18 ∧ m < 16 ∧ s.inUse n = true ∧ (s.stope n).bqmode m = 3 ∧ (s.binEnd n m).inbuf = w :: r ∧ ((s.stope n).queue m).count < 2048 ∧ s.journalFull n m (((s.stope n).queue m).wp / 2) = false) ∧
    (∃ (s : State) (n : Nat) (m : Nat), n < 640 ∧ m < 18 ∧ m < 16 ∧ m ∈ (s.stope n).levelOut) ∧
    (∃ (s : State) (n : Nat) (m : Nat), n < 640 ∧ m < 18 ∧ s.sampler.draining = none) :=
  ⟨⟨mem639 { Stope.cold with writebacks := [(17, 16383)] } [] [(⟨17, 639, 16383⟩, 64)], 639, 17, 16383, by decide +kernel⟩,
   ⟨State.reset, 639, 17, 0, by decide +kernel⟩,
   ⟨State.reset, 639, 17, by decide +kernel⟩,
   ⟨mem639 { Stope.cold with sweep := [(0, 1023), (17, 16383)] } [(ST_MEM_CTRL.SWEEP_EN.key 639, 1)] [], 639, 17, by decide +kernel⟩,
   ⟨given [(ST_MEM_JRNL.ARMED.key 639, 2 ^ 17)], 639, 17, by decide +kernel⟩,
   ⟨State.reset, 639, 17, by decide +kernel⟩,
   ⟨639, 17, by decide +kernel⟩,
   ⟨State.reset, 639, 15, by decide +kernel⟩,
   ⟨{ mem639 (binMode0 2 ⟨2047, 0, 1⟩) [] [] with cage := { Cage.cold with bins := [(⟨0, 639, 15⟩, { BinEnd.cold with grant := 1 })] } }, 639, 15, by decide +kernel⟩,
   ⟨{ mem639 (binMode0 3 ⟨0, 2047, 2047⟩) [] [] with cage := { Cage.cold with bins := [(⟨0, 639, 15⟩, { BinEnd.cold with inbuf := [7] })] } }, 639, 15, 7, [], by decide +kernel⟩,
   ⟨mem639 { Stope.cold with levelOut := [15] } [] [], 639, 15, by decide +kernel⟩,
   ⟨State.reset, 639, 17, by decide +kernel⟩⟩

/-- The hypotheses of each clause of `Obligations.StopeMemories` can be met (2). -/
theorem test_hyps_StopeMemories_2 :
    (∃ (s : State) (n : Nat) (m : Nat) (slot : _), n < 640 ∧ m < 18 ∧ s.sampler.draining = some slot ∧ s.bit ST_MEM_JRNL.ARMED m n = true ∧ ((s.stope n).journal m).fifo = [] ∧ ((s.stope n).journal m).journalled = [] ∧ ((s.stope n).journal m).copyPtr < unitsOf m ∧ s.unitErr n m ((s.stope n).journal m).copyPtr = 0 ∧ s.journalled (s.unitPlace slot n m ((s.stope n).journal m).copyPtr / 128 * 128) = false) ∧
    (∃ (s : State) (n : Nat) (m : Nat) (slot : _) (e : _) (r : _), n < 640 ∧ m < 18 ∧ s.sampler.draining = some slot ∧ ((s.stope n).journal m).fifo = e :: r ∧ e.old < 2 ^ 64 ∧ e.unit < 2 ^ 14 ∧ e.mem = m ∧ s.journalled (s.unitPlace slot n m e.unit / 128 * 128) = false) :=
  ⟨⟨{ mem639 .cold [(ST_MEM_JRNL.ARMED.key 639, 2 ^ 17)] [] with sampler := { Sampler.cold with draining := some 15 } }, 639, 17, 15, by decide +kernel⟩,
   ⟨{ mem639 { Stope.cold with journals := [(17, ⟨0, [], [⟨7, 16383, 17, false⟩]⟩)] } [(ST_MEM_JRNL.ARMED.key 639, 2 ^ 17)] [] with sampler := { Sampler.cold with draining := some 15 } }, 639, 17, 15, ⟨7, 16383, 17, false⟩, [], by decide +kernel⟩⟩

/-- The hypotheses of each clause of `Obligations.LoadControl` can be met (1). -/
theorem test_hyps_LoadControl :
    (∃ (s : State) (fm : _), (s.rd CF_LD_STATUS.STATE ≠ 0 ∨ s.halted = true ∨ (s.loader.diag.isSome = true ∧ fm = false))) ∧
    (∃ (s : State) (fm : _), s.rd CF_LD_STATUS.STATE = 0 ∧ s.halted = false ∧ (s.loader.diag = none ∨ fm = true)) ∧
    (∃ (s : State), 1 ≤ s.rd CF_LD_STATUS.STATE ∧ s.rd CF_LD_STATUS.STATE ≤ 3) ∧
    (∃ (s : State), (s.rd CF_LD_STATUS.STATE = 0 ∨ 4 ≤ s.rd CF_LD_STATUS.STATE)) ∧
    (∃ (s : State) (len : _) (space : _) (last : _) (fm : _), (s.rd CF_EXT_ADDR.ADDR % 64 ≠ 0 ∨ len = 0 ∨ (last = false ∧ len % 64 ≠ 0) ∨ 64 ≤ s.loader.extents.length ∨ 3 ≤ space ∨ (space = 2 ∧ fm = false) ∨ s.loader.lastPushed = true)) ∧
    (∃ (s : State) (len : _) (space : _) (last : _) (fm : _), s.rd CF_EXT_ADDR.ADDR % 64 = 0 ∧ len ≠ 0 ∧ (last = true ∨ len % 64 = 0) ∧ s.loader.extents.length < 64 ∧ space < 3 ∧ (space = 2 → fm = true) ∧ s.loader.lastPushed = false) ∧
    (∃ (s : State) (e : _) (r : _), s.loader.extents = e :: r ∧ (s.rd CF_LD_STATUS.STATE = 1 ∨ s.rd CF_LD_STATUS.STATE = 2)) ∧
    (∃ (s : State) (b : List Nat) (e : _) (r : _), s.loader.extents = e :: r ∧ (s.rd CF_LD_STATUS.STATE = 1 ∨ s.rd CF_LD_STATUS.STATE = 2) ∧ e.space ≠ 1 ∧ e.taken + b.length < e.len ∧ b.length ≤ s.loader.room ∧ s.loader.lastDone = false) ∧
    (∃ (s : State) (b : List Nat) (e : _) (r : _) (m : _), s.loader.extents = e :: r ∧ (s.rd CF_LD_STATUS.STATE = 1 ∨ s.rd CF_LD_STATUS.STATE = 2) ∧ e.space = 1 ∧ m = min (min b.length s.loader.room) 4096 ∧ e.taken + m < e.len ∧ s.agentBad (e.addr + e.taken) m = false ∧ s.loader.lastDone = false) ∧
    (∃ (s : State) (b : List Nat) (e : _) (r : _), s.loader.extents = e :: r ∧ s.rd CF_LD_STATUS.STATE = 1 ∧ e.space ≠ 1 ∧ e.taken + b.length = e.len ∧ b.length ≤ s.loader.room ∧ e.last = true ∧ s.loader.received + b.length < 256) ∧
    (∃ (s : State) (err : _) (pos : _), s.loader.abort = some (err, pos) ∧ err < 32 ∧ pos < 2 ^ 64 ∧ s.loader.diag = none) ∧
    (∃ (s : State), s.loader.abort = none) :=
  ⟨⟨given [(CF_LD_STATUS.STATE.key, 1)], true, by decide +kernel⟩,
   ⟨State.reset, true, by decide +kernel⟩,
   ⟨given [(CF_LD_STATUS.STATE.key, 3)], by decide +kernel⟩,
   ⟨given [(CF_LD_STATUS.STATE.key, 4)], by decide +kernel⟩,
   ⟨State.reset, 32, 0, false, true, by decide +kernel⟩,
   ⟨{ State.reset with loader := { Loader.cold with extents := List.replicate 63 extent0 } }, 64, 2, false, true, by decide +kernel⟩,
   ⟨loading1 1 { Loader.cold with extents := [extent0] }, extent0, [], by decide +kernel⟩,
   ⟨loading1 2 { Loader.cold with extents := [extent0] }, List.replicate 127 1, extent0, [], by decide +kernel⟩,
   ⟨loading1 2 { Loader.cold with extents := [{ extent0 with space := 1 }] }, List.replicate 127 1, { extent0 with space := 1 }, [], 127, by decide +kernel⟩,
   ⟨loading1 1 { Loader.cold with extents := [extent0], stream := List.replicate 127 0 }, List.replicate 128 1, extent0, [], by decide +kernel⟩,
   ⟨loading1 4 { Loader.cold with abort := some (9, 2 ^ 64 - 1), set := [639] }, 9, 2 ^ 64 - 1, by decide +kernel⟩,
   ⟨State.reset, by decide +kernel⟩⟩

/-- The hypotheses of each clause of `Obligations.LoadControl` can be met (2). -/
theorem test_hyps_LoadControl_2 :
    (∃ (s : State), s.rd FM_LOAD_DEADLINE.RUNNING = 0) ∧
    (∃ (s : State), s.rd FM_LOAD_DEADLINE.RUNNING ≠ 0) ∧
    (∃ (s : State) (d : _), s.loader.diag = some d ∧ d.loading = false ∧ s.rd CF_LD_STATUS.STATE = 0) ∧
    (∃ (s : State) (d : _), s.loader.diag = some d ∧ d.loading = false ∧ s.rd CF_LD_STATUS.STATE = 0) ∧
    (∃ (s : State), s.loader.diag = none) :=
  ⟨⟨given [(FM_LOAD_DEADLINE.RUNNING.key, 0)], by decide +kernel⟩,
   ⟨given [(FM_LOAD_DEADLINE.RUNNING.key, 1), (CF_LD_STATUS.STATE.key, 3)], by decide +kernel⟩,
   ⟨{ State.reset with loader := { Loader.cold with diag := some ⟨0, false, false⟩ } }, ⟨0, false, false⟩, by decide +kernel⟩,
   ⟨{ State.reset with loader := { Loader.cold with diag := some ⟨0, true, false⟩ } }, ⟨0, true, false⟩, by decide +kernel⟩,
   ⟨State.reset, by decide +kernel⟩⟩

/-- The hypotheses of each clause of `Obligations.LoadStream` can be met. -/
theorem test_hyps_LoadStream :
    (∃ (s : State) (h : _), h = StreamHeader.ofBytes s.loader.stream ∧ s.rd CF_LD_STATUS.STATE = 1 ∧ 256 ≤ s.loader.received ∧ s.headerError h ≠ 0) ∧
    (∃ (s : State) (h : _), h = StreamHeader.ofBytes s.loader.stream ∧ s.rd CF_LD_STATUS.STATE = 1 ∧ 256 ≤ s.loader.received ∧ s.loader.lastDone = false ∧ s.headerError h = 0) ∧
    (∃ (s : State), s.rd CF_LD_STATUS.STATE ≠ 1) ∧
    (∃ (s : State) (g : StreamHeader) (h : SegHeader), h = SegHeader.ofBytes (s.loader.stream.drop s.loader.pos) ∧ s.loader.header = some g ∧ s.rd CF_LD_STATUS.STATE = 2 ∧ s.loader.ended = false ∧ (s.loader.nextSeg < g.segments ∨ g.segments = 0) ∧ s.loader.segs.length < 4 ∧ s.loader.pos + 32 ≤ s.loader.received ∧ s.loader.lastDone = false ∧ (g.segments ≠ 0 ∧ h.index = s.loader.nextSeg ∧ h.plen ≠ 0 ∧ h.plen ≤ 1048576 ∧ h.plen % 16 = 0 ∧ h.sflags < 2 ∧ h.reserved = 0 ∧ bitAt h.sflags 0 = decide (s.loader.nextSeg + 1 = g.segments) ∧ (bitAt h.sflags 0 = true → s.loader.pos + 48 + h.plen = g.length))) ∧
    (∃ (s : State) (g : StreamHeader) (h : SegHeader), h = SegHeader.ofBytes (s.loader.stream.drop s.loader.pos) ∧ s.loader.header = some g ∧ s.rd CF_LD_STATUS.STATE = 2 ∧ s.loader.ended = false ∧ (s.loader.nextSeg < g.segments ∨ g.segments = 0) ∧ s.loader.segs.length < 4 ∧ s.loader.pos + 32 ≤ s.loader.received ∧ s.loader.lastDone = false ∧ (g.segments = 0 ∨ h.index ≠ s.loader.nextSeg ∨ h.plen = 0 ∨ 1048576 < h.plen ∨ h.plen % 16 ≠ 0 ∨ 2 ≤ h.sflags ∨ h.reserved ≠ 0 ∨ bitAt h.sflags 0 ≠ decide (s.loader.nextSeg + 1 = g.segments) ∨ (bitAt h.sflags 0 = true ∧ s.loader.pos + 48 + h.plen ≠ g.length))) ∧
    (∃ (s : State) (g : _) (h : _), firstClosed s.loader.segs = some g ∧ s.loader.header = some h ∧ s.rd CF_LD_STATUS.STATE = 2 ∧ g.start + 48 + g.plen ≤ s.loader.received) ∧
    (∃ (s : State) (k : _) (j : _) (h : _) (rej : _) (items : _), k < 4 ∧ s.loader.inSeam k = [j] ∧ s.loader.fifo = [j] ∧ s.loader.stalled = [] ∧ s.loader.header = some h ∧ (s.rd CF_LD_STATUS.STATE = 2 ∨ s.rd CF_LD_STATUS.STATE = 3) ∧ items = frameItems j.stope j.frame j.words ∧ rej = (items.any (fun i => i.rejected h.f) || (decide (j.frame = 4607) && (items.foldl StopeCfg.apply (s.stope j.stope).cfg).rejected h.f))) ∧
    (∃ (s : State) (p : _) (r : _), s.loader.shadowOut = p :: r ∧ (s.rd CF_LD_STATUS.STATE = 2 ∨ s.rd CF_LD_STATUS.STATE = 3)) ∧
    (∃ (s : State) (h : _), s.loader.header = some h ∧ s.rd CF_LD_STATUS.STATE = 3 ∧ s.loader.segs = [] ∧ s.loader.fifo = [] ∧ s.loader.stalled = [] ∧ s.loader.shadowOut = [] ∧ h.streamId < 2 ^ 64 ∧ h.f < 8 ∧ h.k < 32 ∧ h.nmin < 128) :=
  ⟨⟨ready0 1 { Loader.cold with stream := stream0 2 }, { header0 with keysel := 2 }, by decide +kernel⟩,
   ⟨ready0 1 { Loader.cold with stream := stream0 1 }, header0, by decide +kernel⟩,
   ⟨State.reset, by decide +kernel⟩,
   ⟨loading1 2 { Loader.cold with header := some header0, pos := 256, stream := List.replicate 256 0 ++ bytesOf 4 0 ++ bytesOf 4 1048576 ++ bytesOf 24 5 }, header0, ⟨0, 1048576, 5, 0, 0⟩, by decide +kernel⟩,
   ⟨loading1 2 { Loader.cold with header := some header0, pos := 256, stream := List.replicate 256 0 ++ bytesOf 4 0 ++ bytesOf 4 1048592 ++ bytesOf 24 5 }, header0, ⟨0, 1048592, 5, 0, 0⟩, by decide +kernel⟩,
   ⟨loading1 2 { Loader.cold with segs := [{ seg0 false none with plen := 16 }], header := some header0, stream := List.replicate 320 1 }, { seg0 false none with plen := 16 }, header0, by decide +kernel⟩,
   ⟨loading1 2 { Loader.cold with fifo := [⟨639, 4607, [1], 288⟩], header := some header0 }, 3, ⟨639, 4607, [1], 288⟩, header0, ((frameItems 639 4607 [1]).any (fun i => i.rejected 4) || (true && ((frameItems 639 4607 [1]).foldl StopeCfg.apply (State.reset.stope 639).cfg).rejected 4)), frameItems 639 4607 [1], by decide +kernel, by decide +kernel, by decide +kernel, by decide +kernel, by decide +kernel, by decide +kernel, by first | decide +kernel | rfl | exact Or.inl ⟨rfl, rfl⟩, by first | decide +kernel | rfl | exact Or.inl ⟨rfl, rfl⟩⟩,
   ⟨loading1 3 { Loader.cold with shadowOut := [256] }, 256, [], by decide +kernel⟩,
   ⟨loading1 3 { Loader.cold with header := some header0, set := [639] }, header0, by decide +kernel⟩⟩

/-- The hypotheses of each clause of `Obligations.IbeusCommands` can be met. -/
theorem test_hyps_IbeusCommands :
    (∃ (s : State) (g : Segment) (r : List Segment) (b : List Nat) (h : IbeusHdr) (pos : Nat) (c : Instr), s.loader.segs = g :: r ∧ g.body = some b ∧ h = IbeusHdr.ofBytes b ∧ pos = g.start + 32 + (g.plen - b.length) ∧ s.loader.stalled = [] ∧ s.rd CF_LD_STATUS.STATE = 2 ∧ s.loader.ended = false ∧ (c = .nop .staged ∨ c = .write .staged .staged ∨ c = .meminit .staged .staged ∨ c = .ibeusEnd .staged) ∧ h.op ∉ [0x00, 0x01, 0x02, 0x0F]) ∧
    (∃ (s : State) (g : Segment) (r : List Segment) (b : List Nat) (h : IbeusHdr) (pos : Nat) (c : Instr), s.loader.segs = g :: r ∧ g.body = some b ∧ h = IbeusHdr.ofBytes b ∧ pos = g.start + 32 + (g.plen - b.length) ∧ s.loader.stalled = [] ∧ s.rd CF_LD_STATUS.STATE = 2 ∧ s.loader.ended = false ∧ ((c = .nop .staged ∧ h.op = 0 ∧ (h.addr ≠ 0 ∨ h.arg ≠ 0 ∨ b.length < 16 + 16 * h.count ∨ h.reserved = true)) ∨ (c = .write .staged .staged ∧ h.op = 1 ∧ (h.count = 0 ∨ 2047 < h.count ∨ h.arg ≠ 0 ∨ b.length < 16 + 512 * h.count ∨ h.reserved = true)) ∨ (c = .meminit .staged .staged ∧ h.op = 2 ∧ (h.count = 0 ∨ 16384 < h.count ∨ h.arg ≠ 0 ∨ b.length < 16 + 8 * h.count ∨ h.reserved = true)) ∨ (c = .ibeusEnd .staged ∧ h.op = 15 ∧ (h.count ≠ 0 ∨ h.addr ≠ 0 ∨ b.length < 16 ∨ h.reserved = true)))) ∧
    (∃ (s : State) (g : Segment) (r : List Segment) (b : List Nat) (h : IbeusHdr) (pos : Nat), s.loader.segs = g :: r ∧ g.body = some b ∧ h = IbeusHdr.ofBytes b ∧ pos = g.start + 32 + (g.plen - b.length) ∧ s.loader.stalled = [] ∧ s.rd CF_LD_STATUS.STATE = 2 ∧ s.loader.ended = false ∧ h.op = 0 ∧ h.reserved = false ∧ h.addr = 0 ∧ h.arg = 0 ∧ 16 + 16 * h.count < b.length) ∧
    (∃ (s : State) (g : Segment) (r : List Segment) (b : List Nat) (h : IbeusHdr) (pos : Nat) (n : _) (f : _), s.loader.segs = g :: r ∧ g.body = some b ∧ h = IbeusHdr.ofBytes b ∧ pos = g.start + 32 + (g.plen - b.length) ∧ s.loader.stalled = [] ∧ s.rd CF_LD_STATUS.STATE = 2 ∧ s.loader.ended = false ∧ h.op = 1 ∧ h.reserved = false ∧ 1 ≤ h.count ∧ h.count ≤ 2047 ∧ h.arg = 0 ∧ 16 + 512 * h.count ≤ b.length ∧ frameAddr h.addr = some (n, f) ∧ n ∉ s.loader.set) ∧
    (∃ (s : State) (g : Segment) (r : List Segment) (b : List Nat) (h : IbeusHdr) (pos : Nat), s.loader.segs = g :: r ∧ g.body = some b ∧ h = IbeusHdr.ofBytes b ∧ pos = g.start + 32 + (g.plen - b.length) ∧ s.loader.stalled = [] ∧ s.rd CF_LD_STATUS.STATE = 2 ∧ s.loader.ended = false ∧ h.op = 1 ∧ h.reserved = false ∧ 1 ≤ h.count ∧ h.count ≤ 2047 ∧ h.arg = 0 ∧ 16 + 512 * h.count ≤ b.length ∧ frameAddr h.addr = none) ∧
    (∃ (s : State) (g : Segment) (r : List Segment) (b : List Nat) (h : IbeusHdr) (pos : Nat) (n : _) (f : _), s.loader.segs = g :: r ∧ g.body = some b ∧ h = IbeusHdr.ofBytes b ∧ pos = g.start + 32 + (g.plen - b.length) ∧ s.loader.stalled = [] ∧ s.rd CF_LD_STATUS.STATE = 2 ∧ s.loader.ended = false ∧ h.op = 1 ∧ h.reserved = false ∧ h.count = 1 ∧ h.arg = 0 ∧ 16 + 512 < b.length ∧ frameAddr h.addr = some (n, f) ∧ n ∈ s.loader.set ∧ Tab.get 0 s.loader.nextFrame n = f ∧ f < 4608 ∧ (s.loader.inSeam (n / 160)).length < 512) ∧
    (∃ (s : State) (g : Segment) (r : List Segment) (b : List Nat) (h : IbeusHdr) (pos : Nat) (n : _) (m : _) (u : _), s.loader.segs = g :: r ∧ g.body = some b ∧ h = IbeusHdr.ofBytes b ∧ pos = g.start + 32 + (g.plen - b.length) ∧ s.loader.stalled = [] ∧ s.rd CF_LD_STATUS.STATE = 2 ∧ s.loader.ended = false ∧ h.op = 2 ∧ h.reserved = false ∧ h.count = 1 ∧ h.arg = 0 ∧ 32 < b.length ∧ h.addr = n / 160 * 2 ^ 30 + n % 160 * 2 ^ 22 + m * 2 ^ 17 + u ∧ n < 640 ∧ n ∈ s.loader.set ∧ m < 18 ∧ u < unitsOf m) ∧
    (∃ (s : State) (g : Segment) (r : List Segment) (b : List Nat) (h : IbeusHdr) (pos : Nat) (f : StreamHeader), s.loader.segs = g :: r ∧ g.body = some b ∧ h = IbeusHdr.ofBytes b ∧ pos = g.start + 32 + (g.plen - b.length) ∧ s.loader.stalled = [] ∧ s.rd CF_LD_STATUS.STATE = 2 ∧ s.loader.ended = false ∧ h.op = 15 ∧ h.reserved = false ∧ g.last = true ∧ s.loader.header = some f ∧ h.count = 0 ∧ h.addr = 0 ∧ h.arg = f.frames ∧ s.loader.dispatched = f.frames ∧ b.length = 16) ∧
    (∃ (s : State) (g : Segment) (r : List Segment) (b : List Nat) (h : IbeusHdr) (pos : Nat) (f : StreamHeader), s.loader.segs = g :: r ∧ g.body = some b ∧ h = IbeusHdr.ofBytes b ∧ pos = g.start + 32 + (g.plen - b.length) ∧ s.loader.stalled = [] ∧ s.rd CF_LD_STATUS.STATE = 2 ∧ s.loader.ended = false ∧ h.op = 15 ∧ h.reserved = false ∧ s.loader.header = some f ∧ h.count = 0 ∧ h.addr = 0 ∧ 16 ≤ b.length ∧ (g.last = false ∨ h.arg ≠ f.frames ∨ h.arg ≠ s.loader.dispatched)) :=
  ⟨⟨cmd0 (word0 3 0 0 0 0) true 639 0 0, seg0 true (some (word0 3 0 0 0 0)), [], word0 3 0 0 0 0, ⟨3, 0, 0, 0, false⟩, 1296, .nop .staged, by decide +kernel⟩,
   ⟨cmd0 (word0 2 16385 0 0 0) true 639 0 0, seg0 true (some (word0 2 16385 0 0 0)), [], word0 2 16385 0 0 0, ⟨2, 16385, 0, 0, false⟩, 1296, .meminit .staged .staged, by decide +kernel⟩,
   ⟨cmd0 (word0 0 1 0 0 17) true 639 0 0, seg0 true (some (word0 0 1 0 0 17)), [], word0 0 1 0 0 17, ⟨0, 1, 0, 0, false⟩, 1279, by decide +kernel⟩,
   ⟨cmd0 (word0 1 1 512 0 512) true 639 0 0, seg0 true (some (word0 1 1 512 0 512)), [], word0 1 1 512 0 512, ⟨1, 1, 512, 0, false⟩, 784, 0, 1, by decide +kernel⟩,
   ⟨cmd0 (word0 1 1 511 0 512) true 639 0 0, seg0 true (some (word0 1 1 511 0 512)), [], word0 1 1 511 0 512, ⟨1, 1, 511, 0, false⟩, 784, by decide +kernel⟩,
   ⟨cmd0 (word0 1 1 (3 * 2 ^ 30 + 159 * 2 ^ 22 + 4607 * 512) 0 528) true 639 4607 0, seg0 true (some (word0 1 1 (3 * 2 ^ 30 + 159 * 2 ^ 22 + 4607 * 512) 0 528)), [], word0 1 1 (3 * 2 ^ 30 + 159 * 2 ^ 22 + 4607 * 512) 0 528, ⟨1, 1, 3 * 2 ^ 30 + 159 * 2 ^ 22 + 4607 * 512, 0, false⟩, 768, 639, 4607, by decide +kernel⟩,
   ⟨cmd0 (word0 2 1 (3 * 2 ^ 30 + 159 * 2 ^ 22 + 17 * 2 ^ 17 + 16383) 0 17) true 639 0 0, seg0 true (some (word0 2 1 (3 * 2 ^ 30 + 159 * 2 ^ 22 + 17 * 2 ^ 17 + 16383) 0 17)), [], word0 2 1 (3 * 2 ^ 30 + 159 * 2 ^ 22 + 17 * 2 ^ 17 + 16383) 0 17, ⟨2, 1, 3 * 2 ^ 30 + 159 * 2 ^ 22 + 17 * 2 ^ 17 + 16383, 0, false⟩, 1279, 639, 17, 16383, by decide +kernel⟩,
   ⟨cmd0 (word0 15 0 0 4608 0) true 639 0 4608, seg0 true (some (word0 15 0 0 4608 0)), [], word0 15 0 0 4608 0, ⟨15, 0, 0, 4608, false⟩, 1296, { header0 with frames := 4608 }, by decide +kernel⟩,
   ⟨cmd0 (word0 15 0 0 4608 0) true 639 0 4607, seg0 true (some (word0 15 0 0 4608 0)), [], word0 15 0 0 4608 0, ⟨15, 0, 0, 4608, false⟩, 1296, { header0 with frames := 4608 }, by decide +kernel⟩⟩

/-- The hypotheses of each clause of `Obligations.FrameReadback` can be met. -/
theorem test_hyps_FrameReadback :
    (∃ (s : State) (k : Nat) (a : Nat), k < 4 ∧ a < 2 ^ 32 ∧ s.rd CF_RB_STATUS.BUSY k ≠ 0) ∧
    (∃ (s : State) (k : Nat) (a : Nat), k < 4 ∧ a < 2 ^ 32 ∧ s.rd CF_RB_STATUS.BUSY k = 0 ∧ (frameAddr a).map (fun p => p.1 / 160) ≠ some k) ∧
    (∃ (s : State) (k : Nat) (a : Nat) (n : _) (f : _), k < 4 ∧ a < 2 ^ 32 ∧ s.rd CF_RB_STATUS.BUSY k = 0 ∧ frameAddr a = some (n, f) ∧ n / 160 = k) ∧
    (∃ (s : State) (k : Nat) (a : Nat) (n : _) (f : _), k < 4 ∧ a < 2 ^ 32 ∧ s.loader.readback.lookup k = some a ∧ frameAddr a = some (n, f) ∧ f < 4320 ∧ (∀ w, w < 64 → s.frameMask n f w = 0)) :=
  ⟨⟨given [(CF_RB_STATUS.BUSY.key 3, 1)], 3, 2 ^ 32 - 1, by decide +kernel⟩,
   ⟨State.reset, 3, 0, by decide +kernel⟩,
   ⟨State.reset, 3, 3 * 2 ^ 30 + 159 * 2 ^ 22 + 4607 * 512, 639, 4607, by decide +kernel⟩,
   ⟨{ State.reset with loader := { Loader.cold with readback := [(3, 3 * 2 ^ 30 + 4319 * 512)] } }, 3, 3 * 2 ^ 30 + 4319 * 512, 480, 4319, by decide +kernel⟩⟩

/-- The hypotheses of each clause of `Obligations.Isolation` can be met. -/
theorem test_hyps_Isolation :
    (∃ (s : State) (n : Nat) (both : _), n < 640 ∧ (both = true ∨ s.stopeState n = 5 ∨ s.stopeState n = 4)) ∧
    (∃ (s : State) (n : Nat), n < 640 ∧ s.stopeState n ≠ 5 ∧ s.stopeState n ≠ 4) ∧
    (∃ (s : State) (n : Nat) (both : _), n < 640 ∧ (both = true ∨ s.stopeState n = 5 ∨ s.stopeState n = 4 ∨ s.configured n = false ∨ s.loading n = true ∨ (s.stope n).refill.isSome = true ∨ s.rd ST_TREE_STATUS.SRC_CUR n ≠ 0 ∨ s.rd ST_TREE_STATUS.SWITCHING n ≠ 0)) ∧
    (∃ (s : State) (n : Nat), n < 640 ∧ s.stopeState n ≠ 5 ∧ s.stopeState n ≠ 4 ∧ s.configured n = true ∧ s.loading n = false ∧ (s.stope n).refill = none ∧ s.rd ST_TREE_STATUS.SRC_CUR n = 0 ∧ s.rd ST_TREE_STATUS.SWITCHING n = 0) ∧
    (∃ (s : State) (n : Nat), n < 640 ∧ s.winder.inStroke = true) ∧
    (∃ (s : State) (n : Nat), n < 640 ∧ s.winder.inStroke = false ∧ s.rd ST_STATUS.ISO_PEND n ≠ 0) ∧
    (∃ (s : State) (n : Nat), n < 640 ∧ s.winder.inStroke = false ∧ s.rd ST_STATUS.ISO_PEND n = 0 ∧ s.rd ST_STATUS.REL_PEND n ≠ 0) ∧
    (∃ (n : Nat), n < 640) :=
  ⟨⟨State.reset, 639, true, by decide +kernel⟩,
   ⟨conf0 639 .cold [], 639, by decide +kernel⟩,
   ⟨State.reset, 639, false, by decide +kernel⟩,
   ⟨conf0 639 .cold [(ST_STATUS.ISOLATED.key 639, 1)], 639, by decide +kernel⟩,
   ⟨{ State.reset with winder := { Winder.cold with inStroke := true } }, 639, by decide +kernel⟩,
   ⟨given [(ST_STATUS.ISO_PEND.key 639, 1)], 639, by decide +kernel⟩,
   ⟨conf0 639 .cold [(ST_STATUS.ISOLATED.key 639, 1), (ST_STATUS.REL_PEND.key 639, 1)], 639, by decide +kernel⟩,
   ⟨639, by decide +kernel⟩⟩

/-- The hypotheses of each clause of `Obligations.ColumnRepair` can be met. -/
theorem test_hyps_ColumnRepair :
    (∃ (s : State) (n : Nat) (pos : Nat), n < 640 ∧ (s.stopeState n ≠ 2 ∧ s.stopeState n ≠ 0) ∨ 64 < pos ∨ pos = s.rd ST_REPAIR.POS n) ∧
    (∃ (s : State) (n : Nat) (pos : Nat), n < 640 ∧ s.stopeState n = 0 ∧ pos ≤ 64 ∧ pos ≠ s.rd ST_REPAIR.POS n) ∧
    (∃ (s : State) (n : Nat) (pos : Nat), n < 640 ∧ s.stopeState n = 2 ∧ pos ≤ 64 ∧ pos ≠ s.rd ST_REPAIR.POS n) ∧
    (∃ (s : State) (n : Nat) (pos : Nat), n < 640 ∧ (s.stope n).refill = some pos ∧ pos ≤ 64) ∧
    (∃ (s : State) (n : Nat) (pos : Nat), n < 640 ∧ (s.stope n).refill = some pos) ∧
    (∃ (s : State) (n : Nat), n < 640 ∧ (s.stope n).refill = none) :=
  ⟨⟨given [(ST_REPAIR.POS.key 639, 3)], 639, 65, by decide +kernel⟩,
   ⟨given [(ST_REPAIR.POS.key 639, 3)], 639, 64, by decide +kernel⟩,
   ⟨conf0 639 .cold [(ST_STATUS.ISOLATED.key 639, 1), (ST_REPAIR.POS.key 639, 63)], 639, 64, by decide +kernel⟩,
   ⟨conf0 639 { Stope.cold with refill := some 64 } [], 639, 64, by decide +kernel⟩,
   ⟨conf0 639 { Stope.cold with refill := some 64 } [], 639, 64, by decide +kernel⟩,
   ⟨State.reset, 639, by decide +kernel⟩⟩

/-- The hypotheses of each clause of `Obligations.StopePort` can be met. -/
theorem test_hyps_StopePort :
    (∃ (s : State) (n : Nat), n < 640 ∧ (s.stopeState n = 3 ∨ s.stopeState n = 2)) ∧
    (∃ (s : State) (n : Nat), n < 640 ∧ s.stopeState n ≠ 3 ∧ s.stopeState n ≠ 2) ∧
    (∃ (n : Nat) (a : GalAccess) (off : Nat), n < 640 ∧ a.addr = 0x010010000000 + n * 0x100000 + off ∧ 0x10000 ≤ off ∧ off < 0x100000 ∧ a.posted = false ∧ (a.size = 0 ∨ 64 < a.addr % 64 + a.size)) ∧
    (∃ (s : State) (n : Nat) (a : GalAccess) (off : Nat), n < 640 ∧ a.addr = 0x010010000000 + n * 0x100000 + off ∧ 0x10000 ≤ off ∧ off < 0x100000 ∧ a.posted = false ∧ 0 < a.size ∧ a.addr % 64 + a.size ≤ 64 ∧ s.ready (26 + n / 160) = false ∧ a.foreman = false) ∧
    (∃ (s : State) (n : Nat) (a : GalAccess) (off : Nat), n < 640 ∧ a.addr = 0x010010000000 + n * 0x100000 + off ∧ 0x10000 ≤ off ∧ off < 0x100000 ∧ a.posted = false ∧ 0 < a.size ∧ a.addr % 64 + a.size ≤ 64 ∧ (s.ready (26 + n / 160) = true ∨ a.foreman = true) ∧ (s.inUse n = false ∨ (s.stope n).cfg.target = false)) ∧
    (∃ (s : State) (n : Nat) (a : GalAccess) (off : Nat), n < 640 ∧ a.addr = 0x010010000000 + n * 0x100000 + off ∧ 0x10000 ≤ off ∧ off < 0x100000 ∧ 0 < a.size ∧ a.addr % 64 + a.size ≤ 64 ∧ (s.ready (26 + n / 160) = true ∨ a.foreman = true) ∧ s.inUse n = true ∧ (s.stope n).cfg.target = true) :=
  ⟨⟨conf0 639 { Stope.cold with masters := [⟨3, false, none⟩] } [], 639, by decide +kernel⟩,
   ⟨State.reset, 639, by decide +kernel⟩,
   ⟨639, ⟨0x010010000000 + 639 * 0x100000 + 0x10000, 65, false, false, 0, false, 0, 0, false⟩, 0x10000, by decide +kernel⟩,
   ⟨given [(FM_READY.READY.key, 0)], 639, ⟨0x010010000000 + 639 * 0x100000 + 0x10000, 64, false, false, 0, false, 0, 0, false⟩, 0x10000, by decide +kernel⟩,
   ⟨State.reset, 639, ⟨0x010010000000 + 639 * 0x100000 + 0xFFFFF, 1, true, false, 7, false, 0, 0, true⟩, 0xFFFFF, by decide +kernel⟩,
   ⟨conf0 639 { Stope.cold with cfg := { StopeCfg.none with target := true } } [], 639, ⟨0x010010000000 + 639 * 0x100000 + 0xFFFFF, 1, true, false, 7, false, 0, 0, true⟩, 0xFFFFF, by decide +kernel⟩⟩

/-- The hypotheses of each clause of `Obligations.Scrubbers` can be met (1). -/
theorem test_hyps_Scrubbers :
    (∃ (s : State) (i : Nat), i < 8 ∧ (s.rd SB_CTRL.EN i = 0 ∨ 2 ≤ s.rd SB_STATUS.STATE i ∨ (s.scrub i).repair.isSome = true)) ∧
    (∃ (s : State) (i : Nat) (n : _) (f : _), i < 8 ∧ s.rd SB_CTRL.EN i ≠ 0 ∧ s.rd SB_STATUS.STATE i = 1 ∧ (s.scrub i).repair = none ∧ (s.scrub i).idle = false ∧ s.nextFrame i = some (n, f) ∧ f < 4319 ∧ (∀ w, w < 64 → s.frameMask n f w = 0)) ∧
    (∃ (s : State) (i : Nat) (n : _) (f : _) (b : _) (w : _) (rj : _), i < 8 ∧ s.rd SB_CTRL.EN i ≠ 0 ∧ s.rd SB_STATUS.STATE i = 1 ∧ (s.scrub i).repair = none ∧ (s.scrub i).idle = false ∧ s.nextFrame i = some (n, f) ∧ f < 4320 ∧ w < 64 ∧ b < 72 ∧ (∀ v, v < 64 → s.frameMask n f v = 0) ∧ rj = false) ∧
    (∃ (s : State) (i : Nat) (n : _) (f : _) (b : _) (c : _) (w : _), i < 8 ∧ s.rd SB_CTRL.EN i ≠ 0 ∧ s.rd SB_STATUS.STATE i = 1 ∧ (s.scrub i).repair = none ∧ (s.scrub i).idle = false ∧ s.nextFrame i = some (n, f) ∧ w < 64 ∧ b < 72 ∧ c < 72 ∧ b ≠ c ∧ (∀ v, v < 64 → s.frameMask n f v = 0)) ∧
    (∃ (s : State) (i : Nat), i < 8 ∧ (s.scrub i).repair = none) ∧
    (∃ (s : State) (i : Nat) (n : _) (f : _), i < 8 ∧ (s.scrub i).repair = some (n, f) ∧ s.stopeState n ≠ 2 ∧ s.stopeState n ≠ 3) ∧
    (∃ (s : State) (i : Nat) (n : _) (f : _), i < 8 ∧ (s.scrub i).repair = some (n, f) ∧ (s.stopeState n = 2 ∨ s.stopeState n = 3)) ∧
    (∃ (s : State) (i : Nat) (n : _) (f : _), i < 8 ∧ (s.scrub i).repair = some (n, f) ∧ (s.stopeState n = 2 ∨ s.stopeState n = 3) ∧ s.agentBad (s.shadowAddr n f) 512 = false) ∧
    (∃ (i : Nat), i < 8) ∧
    (∃ (s : State) (i : Nat) (p : _), i < 8 ∧ p = (if i % 2 = 0 then i + 1 else i - 1) ∧ (s.scrub i).flips = (0, 0, 0) ∧ s.rd SB_CTRL.EN p ≠ 0 ∧ s.rd SB_STATUS.STATE p = 1 ∧ (s.scrub p).since = 0) ∧
    (∃ (i : Nat), i < 8) ∧
    (∃ (s : State) (i : Nat), i < 8 ∧ (s.scrub i).flips = (0, 0, 0)) :=
  ⟨⟨given [(SB_CTRL.EN.key 7, 0)], 7, by decide +kernel⟩,
   ⟨scrub0 { Scrub.cold with idle := false, next := 159 * 4320 + 4318 } [], 7, 639, 4318, by decide +kernel⟩,
   ⟨scrub0 { Scrub.cold with idle := false, next := 159 * 4320 + 4319 } [], 7, 639, 4319, 71, 63, false, by decide +kernel⟩,
   ⟨scrub0 { Scrub.cold with idle := false } [], 7, 639, 0, 0, 71, 63, by decide +kernel⟩,
   ⟨State.reset, 7, by decide +kernel⟩,
   ⟨{ State.reset with scrubs := [(7, { Scrub.cold with repair := some (639, 4319) })] }, 7, 639, 4319, by decide +kernel⟩,
   ⟨scrub0 { Scrub.cold with repair := some (639, 4319) } [], 7, 639, 4319, by decide +kernel⟩,
   ⟨scrub0 { Scrub.cold with repair := some (639, 4319) } [], 7, 639, 4319, by decide +kernel⟩,
   ⟨7, by decide +kernel⟩,
   ⟨given [(SB_CTRL.EN.key 6, 1), (SB_STATUS.STATE.key 6, 1)], 7, 6, by decide +kernel⟩,
   ⟨7, by decide +kernel⟩,
   ⟨State.reset, 7, by decide +kernel⟩⟩

/-- The hypotheses of each clause of `Obligations.Scrubbers` can be met (2). -/
theorem test_hyps_Scrubbers_2 :
    (∃ (s : State) (i : Nat), i < 8 ∧ s.rd SB_STATUS.PEER_FAULT i = 0) ∧
    (∃ (s : State) (i : Nat) (p : _), i < 8 ∧ p = (if i % 2 = 0 then i + 1 else i - 1) ∧ s.rd SB_STATUS.PEER_FAULT i ≠ 0) ∧
    (∃ (i : Nat), i < 8) ∧
    (∃ (i : Nat) (n : _) (f : _) (w : _) (a : _), i < 8 ∧ n / 160 = i / 2 ∧ n < 640 ∧ f < 4320 ∧ w < 64 ∧ a ≤ 71) :=
  ⟨⟨State.reset, 7, by decide +kernel⟩,
   ⟨given [(SB_STATUS.PEER_FAULT.key 7, 1)], 7, 6, by decide +kernel⟩,
   ⟨7, by decide +kernel⟩,
   ⟨7, 639, 4319, 63, 71, by decide +kernel⟩⟩

/-- The hypotheses of `Obligations.WinderRefusals` can be met. -/
theorem test_hyps_WinderRefusals :
    (∃ (s : State) (c : Instr) (op : Nat) (arg : Nat) (st : Bool) (trig : Bool) (code : Nat), (c, op) ∈ [(Instr.run arg st trig, 1), (.stopAt arg st trig, 2), (.step arg st trig, 3), (.sample arg st trig, 4), (.backfill arg st trig, 5), (.rewind arg st trig, 6), (.replay arg st trig, 7)] ∧ (code = (if s.halted = true ∨ s.rd WD_STATUS.STATE = 4 then 8 else if (st = true ∧ op ≠ 5) ∨ (op = 3 ∧ (arg = 0 ∨ 2 ^ 32 < arg)) then 6 else if s.rd WD_CMD_STATUS.BUSY ≠ 0 ∨ s.winder.cmd.isSome = true ∨ s.winder.recovery.isSome = true then 9 else if ¬(op = 5 ∧ st = true) ∧ s.rd WD_STATUS.FORMED = 0 then 10 else if ¬(op = 5 ∧ st = true) ∧ s.rd WD_STATUS.LEADER = 0 then 2 else if (op = 1 ∨ op = 3 ∨ (op = 5 ∧ st = false) ∨ op = 7) ∧ s.rd WD_STATUS.STATE ≠ 1 then 1 else if (op = 2 ∨ op = 4 ∨ op = 6) ∧ s.rd WD_STATUS.STATE ≠ 1 ∧ s.rd WD_STATUS.STATE ≠ 2 then 1 else 0)) ∧ code ≠ 0 ∧ (s.rd WD_STATUS.STATE ≠ 2 ∨ s.winder.inStroke = true ∨ s.sampleDue.isSome = true ∨ s.stopDue = none)) :=
  ⟨solo0 1 [(WD_CMD_STATUS.BUSY.key, 1)], .replay 0 false true, 7, 0, false, true, 9, by decide +kernel⟩

/-- The hypotheses of each clause of `Obligations.WinderCommands` can be met (1). -/
theorem test_hyps_WinderCommands :
    (∃ (s : State), s.halted = false ∧ s.rd WD_GROUP_CTRL.JOIN = 0 ∧ s.rd WD_STATUS.FORMED ≠ 0 ∧ s.rd WD_STATUS.LEADER ≠ 0 ∧ s.rd WD_CMD_STATUS.BUSY = 0 ∧ s.winder.cmd = none ∧ s.winder.recovery = none ∧ (s.winder.inStroke = true ∨ s.winder.events.all (fun e => decide (e.kind = .sample ∨ s.rd WD_TALLY.TALLY < e.e)) = true) ∧ s.rd WD_STATUS.STATE = 1 ∧ s.rd CF_LOADED.VALID ≠ 0 ∧ s.rd CF_LOADED.NMIN ≤ s.rd CK_CLK_STATUS.PHASE_DIV_CUR) ∧
    (∃ (s : State), s.halted = false ∧ s.rd WD_GROUP_CTRL.JOIN = 0 ∧ s.rd WD_STATUS.FORMED ≠ 0 ∧ s.rd WD_STATUS.LEADER ≠ 0 ∧ s.rd WD_CMD_STATUS.BUSY = 0 ∧ s.winder.cmd = none ∧ s.winder.recovery = none ∧ (s.winder.inStroke = true ∨ s.winder.events.all (fun e => decide (e.kind = .sample ∨ s.rd WD_TALLY.TALLY < e.e)) = true) ∧ s.rd WD_STATUS.STATE = 1 ∧ s.rd CF_LOADED.VALID = 0) ∧
    (∃ (s : State), s.halted = false ∧ s.rd WD_GROUP_CTRL.JOIN = 0 ∧ s.rd WD_STATUS.FORMED ≠ 0 ∧ s.rd WD_STATUS.LEADER ≠ 0 ∧ s.rd WD_CMD_STATUS.BUSY = 0 ∧ s.winder.cmd = none ∧ s.winder.recovery = none ∧ (s.winder.inStroke = true ∨ s.winder.events.all (fun e => decide (e.kind = .sample ∨ s.rd WD_TALLY.TALLY < e.e)) = true) ∧ s.rd WD_STATUS.STATE = 1 ∧ s.rd CF_LOADED.VALID ≠ 0 ∧ s.rd CK_CLK_STATUS.PHASE_DIV_CUR < s.rd CF_LOADED.NMIN) ∧
    (∃ (s : State) (arg : _), s.halted = false ∧ s.rd WD_GROUP_CTRL.JOIN = 0 ∧ s.rd WD_STATUS.FORMED ≠ 0 ∧ s.rd WD_STATUS.LEADER ≠ 0 ∧ s.rd WD_CMD_STATUS.BUSY = 0 ∧ s.winder.cmd = none ∧ s.winder.recovery = none ∧ (s.winder.inStroke = true ∨ s.winder.events.all (fun e => decide (e.kind = .sample ∨ s.rd WD_TALLY.TALLY < e.e)) = true) ∧ s.rd WD_STATUS.STATE = 2 ∧ max arg (s.rd WD_HORIZON.H) < s.rd WD_STOP_TALLY.S ∧ (s.winder.inStroke = true ∨ s.rd WD_TALLY.TALLY < max arg (s.rd WD_HORIZON.H))) ∧
    (∃ (s : State) (arg : _), s.halted = false ∧ s.rd WD_GROUP_CTRL.JOIN = 0 ∧ s.rd WD_STATUS.FORMED ≠ 0 ∧ s.rd WD_STATUS.LEADER ≠ 0 ∧ s.rd WD_CMD_STATUS.BUSY = 0 ∧ s.winder.cmd = none ∧ s.winder.recovery = none ∧ (s.winder.inStroke = true ∨ s.winder.events.all (fun e => decide (e.kind = .sample ∨ s.rd WD_TALLY.TALLY < e.e)) = true) ∧ s.rd WD_STATUS.STATE = 1 ∧ arg ≤ s.rd WD_TALLY.TALLY ∧ s.rd CF_LOADED.VALID ≠ 0 ∧ s.rd CF_LOADED.NMIN ≤ s.rd CK_CLK_STATUS.PHASE_DIV_CUR) ∧
    (∃ (s : State) (n : _), s.halted = false ∧ s.rd WD_GROUP_CTRL.JOIN = 0 ∧ s.rd WD_STATUS.FORMED ≠ 0 ∧ s.rd WD_STATUS.LEADER ≠ 0 ∧ s.rd WD_CMD_STATUS.BUSY = 0 ∧ s.winder.cmd = none ∧ s.winder.recovery = none ∧ (s.winder.inStroke = true ∨ s.winder.events.all (fun e => decide (e.kind = .sample ∨ s.rd WD_TALLY.TALLY < e.e)) = true) ∧ 0 < n ∧ n ≤ 2 ^ 32 ∧ s.rd WD_STATUS.STATE = 1 ∧ s.rd CF_LOADED.VALID ≠ 0 ∧ s.rd CF_LOADED.NMIN ≤ s.rd CK_CLK_STATUS.PHASE_DIV_CUR ∧ s.rd WD_TALLY.TALLY + n < s.rd WD_STOP_TALLY.S) ∧
    (∃ (s : State) (slot : _), s.halted = false ∧ s.rd WD_GROUP_CTRL.JOIN = 0 ∧ s.rd WD_STATUS.FORMED ≠ 0 ∧ s.rd WD_STATUS.LEADER ≠ 0 ∧ s.rd WD_CMD_STATUS.BUSY = 0 ∧ s.winder.cmd = none ∧ s.winder.recovery = none ∧ (s.winder.inStroke = true ∨ s.winder.events.all (fun e => decide (e.kind = .sample ∨ s.rd WD_TALLY.TALLY < e.e)) = true) ∧ s.rd WD_STATUS.STATE = 1 ∧ s.slotUsable slot = true ∧ s.rd WD_SMP_SEQ.SEQ < 2 ^ 32 - 1) ∧
    (∃ (s : State) (slot : _), s.halted = false ∧ s.rd WD_GROUP_CTRL.JOIN = 0 ∧ s.rd WD_STATUS.FORMED ≠ 0 ∧ s.rd WD_STATUS.LEADER ≠ 0 ∧ s.rd WD_CMD_STATUS.BUSY = 0 ∧ s.winder.cmd = none ∧ s.winder.recovery = none ∧ (s.winder.inStroke = true ∨ s.winder.events.all (fun e => decide (e.kind = .sample ∨ s.rd WD_TALLY.TALLY < e.e)) = true) ∧ s.rd WD_STATUS.STATE = 2 ∧ s.slotUsable slot = true ∧ s.rd WD_SMP_SEQ.SEQ < 2 ^ 32 - 1) ∧
    (∃ (s : State) (slot : _), s.halted = false ∧ s.rd WD_GROUP_CTRL.JOIN = 0 ∧ s.rd WD_STATUS.FORMED ≠ 0 ∧ s.rd WD_STATUS.LEADER ≠ 0 ∧ s.rd WD_CMD_STATUS.BUSY = 0 ∧ s.winder.cmd = none ∧ s.winder.recovery = none ∧ (s.winder.inStroke = true ∨ s.winder.events.all (fun e => decide (e.kind = .sample ∨ s.rd WD_TALLY.TALLY < e.e)) = true) ∧ s.rd WD_STATUS.STATE = 1 ∧ s.slotUsable slot = false ∧ s.rd WD_SMP_SEQ.SEQ < 2 ^ 32 - 1) ∧
    (∃ (s : State) (slot : _), s.halted = false ∧ s.rd WD_GROUP_CTRL.JOIN = 0 ∧ s.rd WD_STATUS.FORMED ≠ 0 ∧ s.rd WD_STATUS.LEADER ≠ 0 ∧ s.rd WD_CMD_STATUS.BUSY = 0 ∧ s.winder.cmd = none ∧ s.winder.recovery = none ∧ (s.winder.inStroke = true ∨ s.winder.events.all (fun e => decide (e.kind = .sample ∨ s.rd WD_TALLY.TALLY < e.e)) = true) ∧ s.rd WD_STATUS.STATE = 1 ∧ s.restorable slot = true) ∧
    (∃ (s : State) (slot : _), s.halted = false ∧ s.rd WD_GROUP_CTRL.JOIN = 0 ∧ s.rd WD_STATUS.FORMED ≠ 0 ∧ s.rd WD_STATUS.LEADER ≠ 0 ∧ s.rd WD_CMD_STATUS.BUSY = 0 ∧ s.winder.cmd = none ∧ s.winder.recovery = none ∧ (s.winder.inStroke = true ∨ s.winder.events.all (fun e => decide (e.kind = .sample ∨ s.rd WD_TALLY.TALLY < e.e)) = true) ∧ s.rd WD_STATUS.STATE = 1 ∧ s.restorable slot = true) ∧
    (∃ (s : State) (slot : _), s.halted = false ∧ s.rd WD_GROUP_CTRL.JOIN = 0 ∧ s.rd WD_STATUS.FORMED ≠ 0 ∧ s.rd WD_STATUS.LEADER ≠ 0 ∧ s.rd WD_CMD_STATUS.BUSY = 0 ∧ s.winder.cmd = none ∧ s.winder.recovery = none ∧ (s.winder.inStroke = true ∨ s.winder.events.all (fun e => decide (e.kind = .sample ∨ s.rd WD_TALLY.TALLY < e.e)) = true) ∧ s.rd WD_STATUS.STATE = 2 ∧ s.restorable slot = true ∧ (s.winder.inStroke = true ∨ s.rd WD_TALLY.TALLY < s.rd WD_HORIZON.H)) :=
  ⟨⟨solo0 1 [], by decide +kernel⟩,
   ⟨given [(WD_STATUS.STATE.key, 1), (WD_STATUS.FORMED.key, 1), (WD_STATUS.LEADER.key, 1)], by decide +kernel⟩,
   ⟨given [(WD_STATUS.STATE.key, 1), (WD_STATUS.FORMED.key, 1), (WD_STATUS.LEADER.key, 1), (CF_LOADED.VALID.key, 1), (CF_LOADED.NMIN.key, 9), (CK_CLK_STATUS.PHASE_DIV_CUR.key, 8)], by decide +kernel⟩,
   ⟨solo0 2 [(WD_HORIZON.H.key, 2 ^ 64 - 2)], 0, by decide +kernel⟩,
   ⟨solo0 1 [], 5, by decide +kernel⟩,
   ⟨solo0 1 [], 2 ^ 32, by decide +kernel⟩,
   ⟨solo0 1 [], 15, by decide +kernel⟩,
   ⟨solo0 2 [], 15, by decide +kernel⟩,
   ⟨solo0 1 [], 16, by decide +kernel⟩,
   ⟨solo0 1 [], 15, by decide +kernel⟩,
   ⟨solo0 1 [], 15, by decide +kernel⟩,
   ⟨solo0 2 [(WD_HORIZON.H.key, 6)], 15, by decide +kernel⟩⟩

/-- The hypotheses of each clause of `Obligations.WinderCommands` can be met (2). -/
theorem test_hyps_WinderCommands_2 :
    (∃ (s : State) (slot : _), s.halted = false ∧ s.rd WD_GROUP_CTRL.JOIN = 0 ∧ s.rd WD_STATUS.FORMED ≠ 0 ∧ s.rd WD_STATUS.LEADER ≠ 0 ∧ s.rd WD_CMD_STATUS.BUSY = 0 ∧ s.winder.cmd = none ∧ s.winder.recovery = none ∧ (s.winder.inStroke = true ∨ s.winder.events.all (fun e => decide (e.kind = .sample ∨ s.rd WD_TALLY.TALLY < e.e)) = true) ∧ s.slotUsable slot = true ∧ s.rd WD_SLOT.STATE 0 slot = 2 ∧ s.rd WD_STATUS.STATE ≠ 4 ∧ (∀ n ∈ s.restoreMask, s.stopeState n = 2 ∧ n ∈ (s.slotData slot).stopes)) ∧
    (∃ (s : State) (arg : _) (e : _), s.halted = false ∧ s.rd WD_GROUP_CTRL.JOIN = 0 ∧ s.rd WD_STATUS.FORMED ≠ 0 ∧ s.rd WD_STATUS.LEADER ≠ 0 ∧ s.rd WD_CMD_STATUS.BUSY = 0 ∧ s.winder.cmd = none ∧ s.winder.recovery = none ∧ (s.winder.inStroke = true ∨ s.winder.events.all (fun e => decide (e.kind = .sample ∨ s.rd WD_TALLY.TALLY < e.e)) = true) ∧ e = (if arg = 0 then s.rd WD_REPLAY_END.END else arg) ∧ s.rd WD_STATUS.STATE = 1 ∧ s.rd WD_STATUS.REPLAY_ARMED ≠ 0 ∧ s.rd WD_TALLY.TALLY < e ∧ e ≤ s.rd WD_REPLAY_END.END ∧ e < s.rd WD_STOP_TALLY.S ∧ s.rd CF_LOADED.VALID ≠ 0 ∧ s.rd CF_LOADED.NMIN ≤ s.rd CK_CLK_STATUS.PHASE_DIV_CUR) ∧
    (∃ (s : State) (arg : _) (e : _), s.halted = false ∧ s.rd WD_GROUP_CTRL.JOIN = 0 ∧ s.rd WD_STATUS.FORMED ≠ 0 ∧ s.rd WD_STATUS.LEADER ≠ 0 ∧ s.rd WD_CMD_STATUS.BUSY = 0 ∧ s.winder.cmd = none ∧ s.winder.recovery = none ∧ (s.winder.inStroke = true ∨ s.winder.events.all (fun e => decide (e.kind = .sample ∨ s.rd WD_TALLY.TALLY < e.e)) = true) ∧ e = (if arg = 0 then s.rd WD_REPLAY_END.END else arg) ∧ s.rd WD_STATUS.STATE = 1 ∧ s.rd WD_STATUS.REPLAY_ARMED ≠ 0 ∧ (e ≤ s.rd WD_TALLY.TALLY ∨ s.rd WD_REPLAY_END.END < e)) ∧
    (∃ (s : State), s.halted = false ∧ s.rd WD_GROUP_CTRL.JOIN = 0 ∧ s.rd WD_STATUS.FORMED ≠ 0 ∧ s.rd WD_STATUS.LEADER ≠ 0 ∧ s.rd WD_CMD_STATUS.BUSY = 0 ∧ s.winder.cmd = none ∧ s.winder.recovery = none ∧ (s.winder.inStroke = true ∨ s.winder.events.all (fun e => decide (e.kind = .sample ∨ s.rd WD_TALLY.TALLY < e.e)) = true) ∧ s.rd WD_STATUS.STATE = 2 ∧ s.rd WD_GRANT.STALL_LIMIT ≠ 0) ∧
    (∃ (s : State), s.halted = false ∧ s.rd WD_GROUP_CTRL.JOIN = 0 ∧ s.rd WD_STATUS.FORMED ≠ 0 ∧ s.rd WD_STATUS.LEADER ≠ 0 ∧ s.rd WD_CMD_STATUS.BUSY = 0 ∧ s.winder.cmd = none ∧ s.winder.recovery = none ∧ (s.winder.inStroke = true ∨ s.winder.events.all (fun e => decide (e.kind = .sample ∨ s.rd WD_TALLY.TALLY < e.e)) = true) ∧ (s.rd WD_STATUS.STATE ≠ 2 ∨ s.rd WD_GRANT.STALL_LIMIT = 0)) :=
  ⟨⟨solo0 3 [], 15, by decide +kernel⟩,
   ⟨solo0 1 [(WD_STATUS.REPLAY_ARMED.key, 1), (WD_REPLAY_END.END.key, 6)], 0, 6, by decide +kernel⟩,
   ⟨solo0 1 [(WD_STATUS.REPLAY_ARMED.key, 1), (WD_REPLAY_END.END.key, 6)], 5, 5, by decide +kernel⟩,
   ⟨solo0 2 [(WD_GRANT.STALL_LIMIT.key, 1)], by decide +kernel⟩,
   ⟨solo0 1 [], by decide +kernel⟩⟩

/-- The hypotheses of each clause of `Obligations.CoreSamples` can be met (1). -/
theorem test_hyps_CoreSamples :
    (∃ (s : State) (ev : _), s.sampleDue = some ev ∧ ev.slot < 16 ∧ (s.rd WD_STATUS.STATE = 1 ∨ s.rd WD_STATUS.STATE = 2) ∧ s.rd WD_SMP_STATUS.READY ≠ 0 ∧ s.masterOut = false ∧ s.slotUsable ev.slot = true ∧ s.rd WD_SMP_SEQ.SEQ < 2 ^ 32 - 1 ∧ s.winder.lateBound = none ∧ (∀ e ∈ s.winder.events, e.kind = .sample ∨ s.rd WD_TALLY.TALLY < e.e)) ∧
    (∃ (s : State) (ev : _), s.sampleDue = some ev ∧ s.rd WD_STATUS.STATE = 1 ∧ s.rd WD_SMP_STATUS.READY ≠ 0 ∧ s.masterOut = false ∧ (s.slotUsable ev.slot = false ∨ s.rd WD_SMP_SEQ.SEQ = 2 ^ 32 - 1) ∧ s.winder.lateBound = none ∧ ev.cause ≠ 2) ∧
    (∃ (s : State), (s.sampleDue = none ∨ s.rd WD_SMP_STATUS.READY = 0 ∨ s.masterOut = true)) ∧
    (∃ (s : State) (k : _) (slot : _) (n : _) (r : _), k < 4 ∧ s.sampler.draining = some slot ∧ Tab.get [] s.sampler.drain k = n :: r ∧ slot < 16) ∧
    (∃ (s : State) (k : _) (slot : _) (n : _) (r : _), k < 4 ∧ s.sampler.draining = some slot ∧ Tab.get [] s.sampler.drain k = n :: r ∧ Tab.get 0 s.sampler.drainFrame k < 143 ∧ (List.range 4).all (fun i => !s.journalled (s.slotBase slot + 0x400000 + n * 0x12000 + Tab.get 0 s.sampler.drainFrame k * 512 + 128 * i)) = true) ∧
    (∃ (s : State) (k : _) (slot : _) (n : _) (r : _), k < 4 ∧ s.sampler.draining = some slot ∧ Tab.get [] s.sampler.drain k = n :: r ∧ Tab.get 0 s.sampler.drainFrame k = 143 ∧ (List.range 4).all (fun i => !s.journalled (s.slotBase slot + 0x400000 + n * 0x12000 + Tab.get 0 s.sampler.drainFrame k * 512 + 128 * i)) = true) ∧
    (∃ (s : State) (slot : _), s.sampler.draining = some slot ∧ s.sampler.drain = [] ∧ (∀ n ∈ (s.slotData slot).stopes, s.rd ST_MEM_JRNL.ARMED n = 0) ∧ s.sampler.noticeSample = 0) ∧
    (∃ (s : State), (s.sampler.draining = none ∨ s.sampler.drain ≠ [] ∨ s.sampler.noticeSample ≠ 0)) ∧
    (∃ (s : State) (slot : _), s.sampler.draining = some slot ∧ s.sampler.noticeSample ≠ 0 ∧ s.sampler.noticeRestore = 0) ∧
    (∃ (s : State), s.sampler.noticeSample = 0 ∧ s.sampler.noticeRestore = 0) ∧
    (∃ (s : State) (e : _), e < 64 ∧ s.sampler.noticeRestore = 0) ∧
    (∃ (s : State) (slot : _), s.sampler.restoring = some (slot, false) ∧ s.rd WD_STATUS.STATE = 3 ∧ s.sampler.noticeRestore = 0 ∧ s.dram.heldReqs = []) :=
  ⟨⟨{ solo0 1 [] with winder := { Winder.cold with events := [⟨.sample, 5, 15, 0, []⟩] } }, ⟨.sample, 5, 15, 0, []⟩, by decide +kernel⟩,
   ⟨{ solo0 1 [] with winder := { Winder.cold with events := [⟨.sample, 5, 16, 0, []⟩] } }, ⟨.sample, 5, 16, 0, []⟩, by decide +kernel⟩,
   ⟨solo0 1 [], by decide +kernel⟩,
   ⟨draining0 [] { Sampler.cold with drain := [(3, [480])] }, 3, 15, 480, [], by decide +kernel⟩,
   ⟨draining0 [] { Sampler.cold with drain := [(3, [480])], drainFrame := [(3, 142)] }, 3, 15, 480, [], by decide +kernel⟩,
   ⟨draining0 [] { Sampler.cold with drain := [(3, [480])], drainFrame := [(3, 143)] }, 3, 15, 480, [], by decide +kernel⟩,
   ⟨draining0 [] Sampler.cold, 15, by decide +kernel⟩,
   ⟨draining0 [] { Sampler.cold with drain := [(3, [480])] }, by decide +kernel⟩,
   ⟨draining0 [] { Sampler.cold with noticeSample := 1 }, 15, by decide +kernel⟩,
   ⟨State.reset, by decide +kernel⟩,
   ⟨{ State.reset with sampler := { Sampler.cold with noticeSample := 2 ^ 63, noticePend := 2 ^ 63 } }, 63, by decide +kernel⟩,
   ⟨{ solo0 3 [] with sampler := { Sampler.cold with restoring := some (15, false) } }, 15, by decide +kernel⟩⟩

/-- The hypotheses of each clause of `Obligations.CoreSamples` can be met (2). -/
theorem test_hyps_CoreSamples_2 :
    (∃ (s : State) (slot : _), s.sampler.restoring = some (slot, false) ∧ s.rd WD_STATUS.STATE = 3 ∧ s.sampler.noticeRestore = 0 ∧ s.rd WD_SMP_ENG.MASK = 0 ∧ s.winder.recovery = none ∧ s.winder.duty = none ∧ s.winder.lateBound = none ∧ s.dram.heldReqs = []) ∧
    (∃ (s : State) (k : _) (slot : _), k < 4 ∧ s.sampler.restoring = some (slot, true) ∧ s.sampler.backfill.any (fun n => n / 160 != k) = true ∧ s.sampler.backfill.any (fun n => n / 160 == k) = true) ∧
    (∃ (s : State) (k : _) (slot : _), k < 4 ∧ s.sampler.restoring = some (slot, true) ∧ (∀ n ∈ s.sampler.backfill, n / 160 = k)) :=
  ⟨⟨{ solo0 3 [(WD_SLOT_TALLY.TALLY.key 0 15, 4)] with sampler := { Sampler.cold with restoring := some (15, false) } }, 15, by decide +kernel⟩,
   ⟨{ solo0 1 [] with sampler := { Sampler.cold with restoring := some (15, true), backfill := [159, 160] } }, 0, 15, by decide +kernel⟩,
   ⟨{ solo0 1 [] with sampler := { Sampler.cold with restoring := some (15, true), backfill := [160] } }, 1, 15, by decide +kernel⟩⟩

/-- The hypotheses of each clause of `Obligations.LaneReceivers` can be met (1). -/
theorem test_hyps_LaneReceivers :
    (∃ (s : State) (p : Nat) (i : Nat), p < 16 ∧ i < 8 ∧ s.rd XC_LANE_STATUS.RX_STATE p i < 2) ∧
    (∃ (s : State) (p : Nat) (i : Nat), p < 16 ∧ i < 8 ∧ 2 ≤ s.rd XC_LANE_STATUS.RX_STATE p i ∧ s.rd XC_LANE_STATUS.RX_STATE p i ≤ 5) ∧
    (∃ (s : State) (p : Nat) (i : Nat), p < 16 ∧ i < 8 ∧ s.rd XC_LANE_STATUS.RX_STATE p i = 6) ∧
    (∃ (s : State) (p : Nat) (i : Nat) (c : Instr), p < 16 ∧ i < 8 ∧ (c = .los p i ∨ c = .cdrLockLost p i ∨ c = .rxSleep p i true) ∧ s.rd XC_LANE_STATUS.RX_STATE p i = 5 ∧ s.rd XC_PORT_CTRL.SPLIT p = 0 ∧ s.rd XC_PORT_STATUS.LINK_UP_A p ≠ 0) ∧
    (∃ (s : State) (p : Nat) (i : Nat), p < 16 ∧ i < 8 ∧ s.rd XC_LANE_STATUS.RX_STATE p i = 2 ∧ s.rd XC_PORT_STATUS.PLL_LOCK p ≠ 0) ∧
    (∃ (s : State) (p : Nat) (i : Nat), p < 16 ∧ i < 8 ∧ (s.rd XC_PORT_STATUS.PLL_LOCK p = 0 ∨ (s.rd XC_LANE_STATUS.RX_STATE p i ≠ 2 ∧ s.rd XC_LANE_STATUS.RX_STATE p i ≠ 6))) ∧
    (∃ (s : State) (p : Nat) (i : Nat), p < 16 ∧ i < 8 ∧ 3 ≤ s.rd XC_LANE_STATUS.RX_STATE p i ∧ s.rd XC_LANE_STATUS.RX_STATE p i ≤ 5) ∧
    (∃ (s : State) (p : Nat) (i : Nat), p < 16 ∧ i < 8 ∧ s.rd XC_LANE_STATUS.RX_STATE p i < 3) ∧
    (∃ (s : State) (p : Nat) (i : Nat) (e : List Nat) (l : List Nat) (c : List Nat) (r : Nat), p < 16 ∧ i < 8 ∧ r = (lineBits (s.pam4 p i) (s.on XC_LANE_CTRL.PRECODE p i) (s.on XC_LANE_CTRL.RX_INV p i) (s.lane p i).rxLevel (e ++ l ++ c)).1 ∧ (s.rd XC_LANE_STATUS.RX_STATE p i = 4 ∨ s.rd XC_LANE_STATUS.RX_STATE p i = 5) ∧ s.fecOn p i = true) ∧
    (∃ (s : State) (p : Nat) (i : Nat), p < 16 ∧ i < 8 ∧ (s.rd XC_LANE_STATUS.RX_STATE p i < 4 ∨ (s.rd XC_LANE_STATUS.RX_STATE p i ≠ 6 ∧ s.fecOn p i = false))) ∧
    (∃ (s : State) (p : Nat) (i : Nat) (b : AlignBlock) (bits : Nat), p < 16 ∧ i < 8 ∧ bits = (if s.rd XC_LANE_CTRL.RX_INV p i = 0 then b.block % 2 ^ 257 else 2 ^ 257 - 1 - b.block % 2 ^ 257) ∧ s.rd XC_LANE_STATUS.RX_STATE p i = 3 ∧ 4 < commaBits bits ∧ (commaBits bits < 60 ∨ s.rd XC_LANE_CTRL.AUTO_INV p i = 0)) ∧
    (∃ (s : State) (p : Nat) (i : Nat) (b : AlignBlock) (bits : Nat), p < 16 ∧ i < 8 ∧ bits = (if s.rd XC_LANE_CTRL.RX_INV p i = 0 then b.block % 2 ^ 257 else 2 ^ 257 - 1 - b.block % 2 ^ 257) ∧ s.rd XC_LANE_STATUS.RX_STATE p i = 3 ∧ 60 ≤ commaBits bits ∧ s.rd XC_LANE_CTRL.AUTO_INV p i ≠ 0) :=
  ⟨⟨rx0 1 [], 15, 7, by decide +kernel⟩,
   ⟨rx0 5 [], 15, 7, by decide +kernel⟩,
   ⟨rx0 6 [], 15, 7, by decide +kernel⟩,
   ⟨rx0 5 [(XC_LANE_STATUS.RX_STATE.key 15 0, 5)], 15, 7, .los 15 7, by decide +kernel⟩,
   ⟨rx0 2 [], 15, 7, by decide +kernel⟩,
   ⟨rx0 3 [], 15, 7, by decide +kernel⟩,
   ⟨rx0 3 [], 15, 7, by decide +kernel⟩,
   ⟨rx0 2 [], 15, 7, by decide +kernel⟩,
   ⟨rx0 5 [], 15, 7, [], [], [], 0, by decide +kernel⟩,
   ⟨rx0 3 [], 15, 7, by decide +kernel⟩,
   ⟨rx0 3 [], 15, 7, ⟨0, 0, 0⟩, 0, by decide +kernel⟩,
   ⟨rx0 3 [], 15, 7, ⟨2 ^ 257 - 1 - comma0, 0, 0⟩, 2 ^ 257 - 1 - comma0, by decide +kernel⟩⟩

/-- The hypotheses of each clause of `Obligations.LaneReceivers` can be met (2). -/
theorem test_hyps_LaneReceivers_2 :
    (∃ (s : State) (p : Nat) (i : Nat) (b : AlignBlock) (bits : Nat), p < 16 ∧ i < 8 ∧ bits = (if s.rd XC_LANE_CTRL.RX_INV p i = 0 then b.block % 2 ^ 257 else 2 ^ 257 - 1 - b.block % 2 ^ 257) ∧ s.rd XC_LANE_STATUS.RX_STATE p i = 3 ∧ commaBits bits ≤ 4 ∧ s.rd XC_LANE_CTRL.ALIGN_MODE p i = 0 ∧ (b.pos < alignPeriod (s.fecOn p i) ∨ (s.lane p i).seen.contains (b.pos - alignPeriod (s.fecOn p i)) = false)) ∧
    (∃ (s : State) (p : Nat) (i : Nat) (b : AlignBlock) (bits : Nat), p < 16 ∧ i < 8 ∧ bits = (if s.rd XC_LANE_CTRL.RX_INV p i = 0 then b.block % 2 ^ 257 else 2 ^ 257 - 1 - b.block % 2 ^ 257) ∧ s.rd XC_LANE_STATUS.RX_STATE p i = 3 ∧ commaBits bits ≤ 4 ∧ s.rd XC_LANE_CTRL.ALIGN_MODE p i = 0 ∧ alignPeriod (s.fecOn p i) ≤ b.pos ∧ (s.lane p i).seen.contains (b.pos - alignPeriod (s.fecOn p i)) = true) ∧
    (∃ (s : State) (p : Nat) (i : Nat) (b : AlignBlock) (bits : Nat), p < 16 ∧ i < 8 ∧ bits = (if s.rd XC_LANE_CTRL.RX_INV p i = 0 then b.block % 2 ^ 257 else 2 ^ 257 - 1 - b.block % 2 ^ 257) ∧ (s.rd XC_LANE_STATUS.RX_STATE p i = 4 ∨ s.rd XC_LANE_STATUS.RX_STATE p i = 5) ∧ b.pos % alignPeriod (s.fecOn p i) ≠ (s.lane p i).bound % alignPeriod (s.fecOn p i)) ∧
    (∃ (s : State) (p : Nat) (i : Nat) (b : AlignBlock) (bits : Nat), p < 16 ∧ i < 8 ∧ bits = (if s.rd XC_LANE_CTRL.RX_INV p i = 0 then b.block % 2 ^ 257 else 2 ^ 257 - 1 - b.block % 2 ^ 257) ∧ (s.rd XC_LANE_STATUS.RX_STATE p i = 4 ∨ s.rd XC_LANE_STATUS.RX_STATE p i = 5) ∧ b.pos % alignPeriod (s.fecOn p i) = (s.lane p i).bound % alignPeriod (s.fecOn p i) ∧ 4 < commaBits bits ∧ (s.lane p i).misses < 2) ∧
    (∃ (s : State) (p : Nat) (i : Nat) (b : AlignBlock) (bits : Nat), p < 16 ∧ i < 8 ∧ bits = (if s.rd XC_LANE_CTRL.RX_INV p i = 0 then b.block % 2 ^ 257 else 2 ^ 257 - 1 - b.block % 2 ^ 257) ∧ (s.rd XC_LANE_STATUS.RX_STATE p i = 4 ∨ s.rd XC_LANE_STATUS.RX_STATE p i = 5) ∧ b.pos % alignPeriod (s.fecOn p i) = (s.lane p i).bound % alignPeriod (s.fecOn p i) ∧ 4 < commaBits bits ∧ 2 ≤ (s.lane p i).misses) ∧
    (∃ (s : State) (p : Nat) (i : Nat) (b : AlignBlock) (bits : Nat), p < 16 ∧ i < 8 ∧ bits = (if s.rd XC_LANE_CTRL.RX_INV p i = 0 then b.block % 2 ^ 257 else 2 ^ 257 - 1 - b.block % 2 ^ 257) ∧ s.rd XC_PORT_CTRL.SPLIT p = 0 ∧ s.rd XC_PORT_CTRL.EN_A p ≠ 0 ∧ (∀ j, j < 8 → s.rd XC_LANE_STATUS.RX_STATE p j = 4) ∧ b.pos % alignPeriod (s.fecOn p i) = (s.lane p i).bound % alignPeriod (s.fecOn p i) ∧ commaBits bits ≤ 4 ∧ ccrcOk bits = false ∧ b.time = (s.lane p i).time ∧ s.peersAgree p 0 = true ∧ s.skew p 0 ≤ 32000) ∧
    (∃ (s : State) (p : Nat) (i : Nat) (n : _), p < 16 ∧ i < 8 ∧ (s.rd XC_LANE_CTRL.ALIGN_MODE p i = 0 ∨ (s.rd XC_LANE_STATUS.RX_STATE p i ≠ 3 ∧ s.rd XC_LANE_STATUS.RX_STATE p i ≠ 6) ∨ alignPeriod (s.fecOn p i) ≤ n)) ∧
    (∃ (s : State) (p : Nat) (i : Nat) (n : _), p < 16 ∧ i < 8 ∧ s.rd XC_LANE_CTRL.ALIGN_MODE p i ≠ 0 ∧ s.rd XC_LANE_STATUS.RX_STATE p i = 3 ∧ n < alignPeriod (s.fecOn p i)) ∧
    (∃ (s : State) (p : Nat) (i : Nat), p < 16 ∧ i < 8 ∧ s.rd XC_LANE_STATUS.RX_STATE p i ≠ 0 ∧ s.rd XC_LANE_STATUS.RX_STATE p i ≠ 6) ∧
    (∃ (p : Nat) (i : Nat), p < 16 ∧ i < 8) ∧
    (∃ (s : State) (p : Nat) (i : Nat) (b : XBlock), p < 16 ∧ i < 8 ∧ (s.rd XC_LANE_STATUS.RX_STATE p i = 4 ∨ s.rd XC_LANE_STATUS.RX_STATE p i = 5) ∧ s.errored p i b = false ∧ b.bits % 2 = 1 ∧ ccrcOk b.bits = true ∧ blockCode b.bits = 0x5A) ∧
    (∃ (s : State) (p : Nat) (i : Nat) (b : XBlock), p < 16 ∧ i < 8 ∧ (s.rd XC_LANE_STATUS.RX_STATE p i = 4 ∨ s.rd XC_LANE_STATUS.RX_STATE p i = 5) ∧ s.errored p i b = false ∧ b.bits % 2 = 1 ∧ ccrcOk b.bits = false) :=
  ⟨⟨rx0 3 [(XC_LANE_CTRL.ALIGN_MODE.key 15 7, 0)], 15, 7, ⟨comma0, 7, 9⟩, comma0, by decide +kernel⟩,
   ⟨rxl0 3 { Lane.cold with seen := [7] }, 15, 7, ⟨comma0, 348167, 9⟩, comma0, by decide +kernel⟩,
   ⟨rx0 5 [], 15, 7, ⟨comma0, 1, 0⟩, comma0, by decide +kernel⟩,
   ⟨rxl0 4 { Lane.cold with misses := 1 }, 15, 7, ⟨0, 348160, 0⟩, 0, by decide +kernel⟩,
   ⟨rxl0 5 { Lane.cold with misses := 2 }, 15, 7, ⟨0, 348160, 0⟩, 0, by decide +kernel⟩,
   ⟨ready8, 15, 7, ⟨comma0, 0, 0⟩, comma0, by decide +kernel⟩,
   ⟨rx0 3 [(XC_LANE_CTRL.ALIGN_MODE.key 15 7, 1)], 15, 7, 348160, by decide +kernel⟩,
   ⟨rx0 3 [(XC_LANE_CTRL.ALIGN_MODE.key 15 7, 1)], 15, 7, 348159, by decide +kernel⟩,
   ⟨rx0 5 [], 15, 7, by decide +kernel⟩,
   ⟨15, 7, by decide +kernel⟩,
   ⟨rx0 5 [], 15, 7, ⟨0, sleepBlock⟩, by decide +kernel⟩,
   ⟨rx0 5 [], 15, 7, ⟨0, sleepBlock + 2 ^ 250⟩, by decide +kernel⟩⟩

/-- The hypotheses of each clause of `Obligations.LaneReceivers` can be met (3). -/
theorem test_hyps_LaneReceivers_3 :
    (∃ (s : State) (p : Nat) (i : Nat) (b : XBlock), p < 16 ∧ i < 8 ∧ (s.rd XC_LANE_STATUS.RX_STATE p i < 4 ∨ s.errored p i b = true)) :=
  ⟨rx0 2 [], 15, 7, ⟨0, sleepBlock⟩, by decide +kernel⟩

/-- The hypotheses of each clause of `Obligations.LaneTools` can be met (1). -/
theorem test_hyps_LaneTools :
    (∃ (s : State) (p : Nat) (i : Nat) (v : _), p < 16 ∧ i < 8 ∧ ((s.rd XC_PORT_CTRL.EN_A p ≠ 0 ∧ (s.rd XC_PORT_CTRL.RATE_A p ≠ v / 16 % 8 ∨ s.rd XC_PORT_CTRL.FEC_A p ≠ v / 4096 % 2)) ∨ (s.rd XC_PORT_CTRL.EN_B p ≠ 0 ∧ (s.rd XC_PORT_CTRL.RATE_B p ≠ v / 256 % 8 ∨ s.rd XC_PORT_CTRL.FEC_B p ≠ v / 8192 % 2)) ∨ 5 ≤ v / 16 % 8 ∨ (v / 16 % 8 ≤ 1 ∧ v / 4096 % 2 = 0) ∨ (v / 16 % 8 = 4 ∧ v / 4096 % 2 = 1) ∨ (v / 2 % 2 = 1 ∧ v / 4 % 2 = 0))) ∧
    (∃ (s : State) (p : Nat) (i : Nat) (v : _), p < 16 ∧ i < 8 ∧ s.rd XC_PORT_CTRL.EN_A p = 0 ∧ s.rd XC_PORT_CTRL.EN_B p = 0 ∧ v % 8 = 1 ∧ v / 16 % 8 ≤ 4 ∧ (v / 16 % 8 ≤ 1 → v / 4096 % 2 = 1) ∧ (v / 16 % 8 = 4 → v / 4096 % 2 = 0) ∧ (∀ j, j < 8 → s.rd XC_LANE_STATUS.TX_STATE p j = 0 ∧ s.rd XC_LANE_STATUS.RX_STATE p j = (if s.rd XC_LANE_CTRL.TEST p j = 0 then 0 else 6)) ∧ s.rd XC_PORT_STATUS.PLL_LOCK p ≠ 0 ∧ s.rd XC_PORT_STATUS.PLL_FAMILY p = (if v / 16 % 8 = 4 then 1 else 0)) ∧
    (∃ (s : State) (p : Nat) (i : Nat) (v : _), p < 16 ∧ i < 8 ∧ s.rd XC_PORT_CTRL.EN_A p = 0 ∧ s.rd XC_PORT_CTRL.EN_B p = 0 ∧ v % 8 = 1 ∧ v / 16 % 8 ≤ 4 ∧ (v / 16 % 8 ≤ 1 → v / 4096 % 2 = 1) ∧ (v / 16 % 8 = 4 → v / 4096 % 2 = 0) ∧ s.rd XC_PORT_STATUS.PLL_LOCK p = 0) ∧
    (∃ (s : State) (p : Nat) (i : Nat) (v : _), p < 16 ∧ i < 8 ∧ s.rd XC_PORT_CTRL.EN_A p ≠ 0 ∧ s.rd XC_PORT_CTRL.EN_B p = 0 ∧ s.rd XC_PORT_CTRL.SPLIT p = 0 ∧ s.winderStopped = true ∧ v % 8 = 0 ∧ v / 16 % 8 = s.rd XC_PORT_CTRL.RATE_A p ∧ v / 4096 % 2 = s.rd XC_PORT_CTRL.FEC_A p ∧ v / 16 % 8 ≤ 4 ∧ (v / 16 % 8 ≤ 1 → v / 4096 % 2 = 1) ∧ (v / 16 % 8 = 4 → v / 4096 % 2 = 0)) ∧
    (∃ (s : State) (p : Nat) (i : Nat), p < 16 ∧ i < 8 ∧ (s.rd XC_PORT_CTRL.EN_A p ≠ 0 ∨ s.rd XC_PORT_CTRL.EN_B p ≠ 0) ∧ s.subWaitsPll p 0 = false ∧ s.subWaitsPll p 1 = false) ∧
    (∃ (s : State) (p : Nat) (i : Nat), p < 16 ∧ i < 8 ∧ s.rd XC_PORT_CTRL.EN_A p ≠ 0 ∧ s.rd XC_PORT_CTRL.EN_B p = 0 ∧ s.rd XC_PORT_CTRL.SPLIT p = 0 ∧ (∀ j, j < 8 → s.rd XC_LANE_STATUS.TX_STATE p j = 0 ∧ s.rd XC_LANE_STATUS.RX_STATE p j = (if s.rd XC_LANE_CTRL.TEST p j = 0 then 0 else 6))) ∧
    (∃ (s : State) (p : Nat) (i : Nat), p < 16 ∧ i < 8 ∧ s.rd XC_PORT_CTRL.EN_A p = 0 ∧ s.rd XC_PORT_CTRL.EN_B p = 0) ∧
    (∃ (s : State) (p : Nat) (i : Nat) (f : _), p < 16 ∧ i < 8 ∧ (f = (if s.rd XC_PORT_CTRL.SPLIT p = 0 ∨ i < 4 then XC_XP_STATUS.SYNCED_A else XC_XP_STATUS.SYNCED_B))) ∧
    (∃ (p : Nat) (i : Nat), p < 16 ∧ i < 8) ∧
    (∃ (s : State) (p : Nat) (i : Nat), p < 16 ∧ i < 8 ∧ s.rd XC_LANE_STATUS.TX_STATE p i = 2) ∧
    (∃ (s : State) (p : Nat) (i : Nat), p < 16 ∧ i < 8 ∧ s.rd XC_LANE_STATUS.TX_STATE p i ≠ 2) ∧
    (∃ (s : State) (p : Nat) (i : Nat), p < 16 ∧ i < 8 ∧ s.rd XC_LANE_STATUS.TX_STATE p i = 4) :=
  ⟨⟨rx0 1 [], 15, 7, 0x1050, by decide +kernel⟩,
   ⟨given [(XC_PORT_STATUS.PLL_LOCK.key 15, 1), (XC_PORT_STATUS.PLL_FAMILY.key 15, 1)], 15, 7, 0x41, by decide +kernel⟩,
   ⟨State.reset, 15, 7, 0x41, by decide +kernel⟩,
   ⟨rx0 5 [], 15, 7, 0x1000, by decide +kernel⟩,
   ⟨given [(XC_PORT_CTRL.EN_A.key 15, 1), (XC_LANE_STATUS.TX_STATE.key 15 7, 1)], 15, 7, by decide +kernel⟩,
   ⟨given [(XC_PORT_CTRL.EN_A.key 15, 1)], 15, 7, by decide +kernel⟩,
   ⟨State.reset, 15, 7, by decide +kernel⟩,
   ⟨given [(XC_LANE_STATUS.TX_STATE.key 15 7, 1), (XC_XP_STATUS.SYNCED_A.key 15, 1)], 15, 7, XC_XP_STATUS.SYNCED_A, by decide +kernel⟩,
   ⟨15, 7, by decide +kernel⟩,
   ⟨given [(XC_LANE_STATUS.TX_STATE.key 15 7, 2)], 15, 7, by decide +kernel⟩,
   ⟨State.reset, 15, 7, by decide +kernel⟩,
   ⟨given [(XC_LANE_STATUS.TX_STATE.key 15 7, 4)], 15, 7, by decide +kernel⟩⟩

/-- The hypotheses of each clause of `Obligations.LaneTools` can be met (2). -/
theorem test_hyps_LaneTools_2 :
    (∃ (s : State) (p : Nat) (i : Nat), p < 16 ∧ i < 8 ∧ s.rd XC_LANE_STATUS.TX_STATE p i ≠ 4) ∧
    (∃ (s : State) (p : Nat) (i : Nat) (v : _) (h : _), p < 16 ∧ i < 8 ∧ h = (if s.rd XC_PORT_CTRL.SPLIT p = 0 then 0 else i / 4) ∧ (s.rd (if h = 0 then XC_PORT_CTRL.EN_A else XC_PORT_CTRL.EN_B) p ≠ 0 ∨ 3 ≤ v)) ∧
    (∃ (s : State) (p : Nat) (i : Nat) (v : _) (h : _), p < 16 ∧ i < 8 ∧ h = (if s.rd XC_PORT_CTRL.SPLIT p = 0 then 0 else i / 4) ∧ s.rd (if h = 0 then XC_PORT_CTRL.EN_A else XC_PORT_CTRL.EN_B) p = 0 ∧ v < 3) ∧
    (∃ (p : Nat) (i : Nat) (v : _), p < 16 ∧ i < 8 ∧ 40 < v % 16 + v / 256 % 32) ∧
    (∃ (p : Nat) (i : Nat) (v : _), p < 16 ∧ i < 8 ∧ v % 16 + v / 256 % 32 ≤ 40) ∧
    (∃ (s : State) (p : Nat) (i : Nat) (eye : _), p < 16 ∧ i < 8 ∧ (s.rd XC_LANE_STATUS.CDR_LOCK p i = 0 ∨ s.rd XC_LANE_CTRL.TEST p i ≠ 0 ∨ s.rd XC_LANE_EYE_RESULT.BUSY p i ≠ 0 ∨ 3 ≤ eye)) ∧
    (∃ (s : State) (p : Nat) (i : Nat) (dw : _), p < 16 ∧ i < 8 ∧ s.rd XC_LANE_STATUS.CDR_LOCK p i ≠ 0 ∧ s.rd XC_LANE_CTRL.TEST p i = 0 ∧ s.rd XC_LANE_EYE_RESULT.BUSY p i = 0 ∧ 16 ≤ dw ∧ dw ≤ 40) ∧
    (∃ (s : State) (p : Nat) (i : Nat), p < 16 ∧ i < 8 ∧ s.rd XC_LANE_EYE_RESULT.BUSY p i ≠ 0) ∧
    (∃ (s : State) (p : Nat) (i : Nat), p < 16 ∧ i < 8 ∧ s.rd XC_LANE_EYE_RESULT.BUSY p i = 0) :=
  ⟨⟨State.reset, 15, 7, by decide +kernel⟩,
   ⟨State.reset, 15, 7, 3, 0, by decide +kernel⟩,
   ⟨State.reset, 15, 7, 2, 0, by decide +kernel⟩,
   ⟨15, 7, 0x1F0A, by decide +kernel⟩,
   ⟨15, 7, 0x1F09, by decide +kernel⟩,
   ⟨State.reset, 15, 7, 1, by decide +kernel⟩,
   ⟨given [(XC_LANE_STATUS.CDR_LOCK.key 15 7, 1)], 15, 7, 40, by decide +kernel⟩,
   ⟨given [(XC_LANE_EYE_RESULT.BUSY.key 15 7, 1)], 15, 7, by decide +kernel⟩,
   ⟨State.reset, 15, 7, by decide +kernel⟩⟩

/-- The hypotheses of each clause of `Obligations.CutNetFrames` can be met (1). -/
theorem test_hyps_CutNetFrames :
    (∃ (s : State) (p : Nat) (h : Nat) (w : Nat), p < 16 ∧ h < 2 ∧ w = (s.lanesOf p h).length ∧ w ≠ 0 ∧ s.rd XC_XP_STATUS.OVER_A p = 0 ∧ s.rd XC_XP_STATUS.OVER_B p = 0 ∧ s.linkUp p h = false) ∧
    (∃ (s : State) (p : Nat) (h : Nat) (w : Nat) (hd : XBlock) (dt : List XBlock) (q : Nat) (f : XFrame), p < 16 ∧ h < 2 ∧ w = (s.lanesOf p h).length ∧ w ≠ 0 ∧ s.rd XC_XP_STATUS.OVER_A p = 0 ∧ s.rd XC_XP_STATUS.OVER_B p = 0 ∧ q = s.peerLane p h 0 ∧ f = XFrame.ofBlocks hd.bits (dt.map (fun b => b.bits)) ∧ s.linkUp p h = true ∧ s.laneReads p q = true ∧ s.errored p q hd = false ∧ hd.bits % 2 = 1 ∧ ccrcOk hd.bits = false ∧ s.gated p h = true ∧ s.synced p h = true) ∧
    (∃ (s : State) (p : Nat) (h : Nat) (w : Nat) (hd : XBlock) (dt : List XBlock) (q : Nat) (f : XFrame), p < 16 ∧ h < 2 ∧ w = (s.lanesOf p h).length ∧ w ≠ 0 ∧ s.rd XC_XP_STATUS.OVER_A p = 0 ∧ s.rd XC_XP_STATUS.OVER_B p = 0 ∧ q = s.peerLane p h 0 ∧ f = XFrame.ofBlocks hd.bits (dt.map (fun b => b.bits)) ∧ s.linkUp p h = true ∧ s.laneReads p q = true ∧ s.errored p q hd = false ∧ hd.bits % 2 = 1 ∧ ccrcOk hd.bits = true ∧ blockCode hd.bits = 0x10 ∧ s.gated p h = false) ∧
    (∃ (s : State) (p : Nat) (h : Nat) (w : Nat) (hd : XBlock) (dt : List XBlock) (q : Nat) (f : XFrame), p < 16 ∧ h < 2 ∧ w = (s.lanesOf p h).length ∧ w ≠ 0 ∧ s.rd XC_XP_STATUS.OVER_A p = 0 ∧ s.rd XC_XP_STATUS.OVER_B p = 0 ∧ q = s.peerLane p h 0 ∧ f = XFrame.ofBlocks hd.bits (dt.map (fun b => b.bits)) ∧ s.linkUp p h = true ∧ s.laneReads p q = true ∧ s.errored p q hd = false ∧ hd.bits % 2 = 1 ∧ ccrcOk hd.bits = true ∧ blockCode hd.bits = 0x10 ∧ s.gated p h = true ∧ s.synced p h = false) ∧
    (∃ (s : State) (p : Nat) (h : Nat) (w : Nat) (hd : XBlock) (dt : List XBlock) (q : Nat) (f : XFrame), p < 16 ∧ h < 2 ∧ w = (s.lanesOf p h).length ∧ w ≠ 0 ∧ s.rd XC_XP_STATUS.OVER_A p = 0 ∧ s.rd XC_XP_STATUS.OVER_B p = 0 ∧ q = s.peerLane p h 0 ∧ f = XFrame.ofBlocks hd.bits (dt.map (fun b => b.bits)) ∧ s.linkUp p h = true ∧ s.laneReads p q = true ∧ s.errored p q hd = false ∧ hd.bits % 2 = 1 ∧ ccrcOk hd.bits = true ∧ blockCode hd.bits = 0x10 ∧ s.gated p h = true ∧ s.synced p h = true ∧ (s.anyErrored p h (hd :: dt) = true ∨ 64 < f.dlen)) ∧
    (∃ (s : State) (p : Nat) (h : Nat) (w : Nat) (hd : XBlock) (dt : List XBlock) (q : Nat) (f : XFrame), p < 16 ∧ h < 2 ∧ w = (s.lanesOf p h).length ∧ w ≠ 0 ∧ s.rd XC_XP_STATUS.OVER_A p = 0 ∧ s.rd XC_XP_STATUS.OVER_B p = 0 ∧ q = s.peerLane p h 0 ∧ f = XFrame.ofBlocks hd.bits (dt.map (fun b => b.bits)) ∧ s.linkUp p h = true ∧ s.laneReads p q = true ∧ s.errored p q hd = false ∧ hd.bits % 2 = 1 ∧ ccrcOk hd.bits = true ∧ blockCode hd.bits = 0x10 ∧ s.gated p h = true ∧ s.synced p h = true ∧ s.anyErrored p h (hd :: dt) = false ∧ f.dlen ≤ 64 ∧ f.ackv = false ∧ seqOld (s.rd (ab h XC_XP_SEQ.RX_NEXT_A XC_XP_SEQ.RX_NEXT_B) p) f.seq = true) :=
  ⟨⟨State.reset, 15, 0, 8, by decide +kernel⟩,
   ⟨link0 [] .cold, 15, 1, 4, ⟨1, (head0 0).bits + 2 ^ 250⟩, [], 4, frame0 0, by decide +kernel⟩,
   ⟨link0 [(XC_XP_CTRL.GATE_B.key 15, 0)] .cold, 15, 1, 4, head0 0, [], 4, frame0 0, by decide +kernel⟩,
   ⟨link0 [(XC_XP_STATUS.SYNCED_B.key 15, 0)] .cold, 15, 1, 4, head0 0, [], 4, frame0 0, by decide +kernel⟩,
   ⟨{ link0 [(XC_PORT_CTRL.FEC_B.key 15, 1)] .cold with lanes := [(125, { Lane.cold with bad := [0] })] }, 15, 1, 4, head0 0, [⟨0, 2⟩], 4, { frame0 0 with data := [1] }, by decide +kernel⟩,
   ⟨link0 [] .cold, 15, 1, 4, head0 4095, [], 4, frame0 4095, by decide +kernel⟩⟩

/-- The hypotheses of each clause of `Obligations.CutNetFrames` can be met (2). -/
theorem test_hyps_CutNetFrames_2 :
    (∃ (s : State) (p : Nat) (h : Nat) (w : Nat) (hd : XBlock) (dt : List XBlock) (q : Nat) (f : XFrame), p < 16 ∧ h < 2 ∧ w = (s.lanesOf p h).length ∧ w ≠ 0 ∧ s.rd XC_XP_STATUS.OVER_A p = 0 ∧ s.rd XC_XP_STATUS.OVER_B p = 0 ∧ q = s.peerLane p h 0 ∧ f = XFrame.ofBlocks hd.bits (dt.map (fun b => b.bits)) ∧ s.linkUp p h = true ∧ s.laneReads p q = true ∧ s.errored p q hd = false ∧ hd.bits % 2 = 1 ∧ ccrcOk hd.bits = true ∧ blockCode hd.bits = 0x10 ∧ s.gated p h = true ∧ s.synced p h = true ∧ s.anyErrored p h (hd :: dt) = false ∧ f.dlen ≤ 64 ∧ f.ackv = false ∧ seqOld (s.rd (ab h XC_XP_SEQ.RX_NEXT_A XC_XP_SEQ.RX_NEXT_B) p) f.seq = false ∧ (f.seq ≠ s.rd (ab h XC_XP_SEQ.RX_NEXT_A XC_XP_SEQ.RX_NEXT_B) p ∨ f.crc ≠ frameCrc f.tally f.data ∨ f.data.length ≠ f.dlen) ∧ (s.sub p h).nakSent = none) ∧
    (∃ (s : State) (p : Nat) (h : Nat) (w : Nat) (hd : XBlock) (dt : List XBlock) (q : Nat) (f : XFrame) (n : _), p < 16 ∧ h < 2 ∧ w = (s.lanesOf p h).length ∧ w ≠ 0 ∧ s.rd XC_XP_STATUS.OVER_A p = 0 ∧ s.rd XC_XP_STATUS.OVER_B p = 0 ∧ q = s.peerLane p h 0 ∧ f = XFrame.ofBlocks hd.bits (dt.map (fun b => b.bits)) ∧ s.linkUp p h = true ∧ s.laneReads p q = true ∧ s.errored p q hd = false ∧ hd.bits % 2 = 1 ∧ ccrcOk hd.bits = true ∧ blockCode hd.bits = 0x10 ∧ s.gated p h = true ∧ s.synced p h = true ∧ s.anyErrored p h (hd :: dt) = false ∧ f.dlen ≤ 64 ∧ f.ackv = false ∧ n = 16 * h + f.stream ∧ f.seq = s.rd (ab h XC_XP_SEQ.RX_NEXT_A XC_XP_SEQ.RX_NEXT_B) p ∧ f.crc = frameCrc f.tally f.data ∧ f.data.length = f.dlen ∧ s.rd XC_RXS.EN p n = 0) ∧
    (∃ (s : State) (p : Nat) (h : Nat) (w : Nat) (hd : XBlock) (dt : List XBlock) (q : Nat) (f : XFrame) (n : _), p < 16 ∧ h < 2 ∧ w = (s.lanesOf p h).length ∧ w ≠ 0 ∧ s.rd XC_XP_STATUS.OVER_A p = 0 ∧ s.rd XC_XP_STATUS.OVER_B p = 0 ∧ q = s.peerLane p h 0 ∧ f = XFrame.ofBlocks hd.bits (dt.map (fun b => b.bits)) ∧ s.linkUp p h = true ∧ s.laneReads p q = true ∧ s.errored p q hd = false ∧ hd.bits % 2 = 1 ∧ ccrcOk hd.bits = true ∧ blockCode hd.bits = 0x10 ∧ s.gated p h = true ∧ s.synced p h = true ∧ s.anyErrored p h (hd :: dt) = false ∧ f.dlen ≤ 64 ∧ f.ackv = false ∧ n = 16 * h + f.stream ∧ f.seq = s.rd (ab h XC_XP_SEQ.RX_NEXT_A XC_XP_SEQ.RX_NEXT_B) p ∧ f.crc = frameCrc f.tally f.data ∧ f.data.length = f.dlen ∧ s.rd XC_RXS.EN p n ≠ 0 ∧ s.rd XC_RXS.DELIVER p n = 0 ∧ f.stream ∉ (s.sub p h).stopped ∧ f.tally ≠ (s.sub p h).expected f.stream % 65536) ∧
    (∃ (s : State) (p : Nat) (h : Nat) (w : Nat) (hd : XBlock) (dt : List XBlock) (q : Nat) (f : XFrame) (n : _), p < 16 ∧ h < 2 ∧ w = (s.lanesOf p h).length ∧ w ≠ 0 ∧ s.rd XC_XP_STATUS.OVER_A p = 0 ∧ s.rd XC_XP_STATUS.OVER_B p = 0 ∧ q = s.peerLane p h 0 ∧ f = XFrame.ofBlocks hd.bits (dt.map (fun b => b.bits)) ∧ s.linkUp p h = true ∧ s.laneReads p q = true ∧ s.errored p q hd = false ∧ hd.bits % 2 = 1 ∧ ccrcOk hd.bits = true ∧ blockCode hd.bits = 0x10 ∧ s.gated p h = true ∧ s.synced p h = true ∧ s.anyErrored p h (hd :: dt) = false ∧ f.dlen ≤ 64 ∧ f.ackv = false ∧ n = 16 * h + f.stream ∧ f.seq = s.rd (ab h XC_XP_SEQ.RX_NEXT_A XC_XP_SEQ.RX_NEXT_B) p ∧ f.crc = frameCrc f.tally f.data ∧ f.data.length = f.dlen ∧ s.rd XC_RXS.EN p n ≠ 0 ∧ s.rd XC_RXS.DELIVER p n ≠ 0 ∧ s.rd XC_RXS.FWD p n = 0 ∧ f.dlen = (s.rd XC_RXS.BITS p n + 255) / 256 ∧ f.stream ∉ (s.sub p h).stopped ∧ f.tally = (s.sub p h).expected f.stream % 65536) ∧
    (∃ (s : State) (p : Nat) (h : Nat) (w : Nat) (q : Nat) (b : XBlock), p < 16 ∧ h < 2 ∧ w = (s.lanesOf p h).length ∧ w ≠ 0 ∧ s.rd XC_XP_STATUS.OVER_A p = 0 ∧ s.rd XC_XP_STATUS.OVER_B p = 0 ∧ q < 8 ∧ s.halfOf p q = h ∧ s.laneReads p q = true ∧ s.errored p q b = false ∧ b.bits % 2 = 1 ∧ ccrcOk b.bits = true ∧ blockCode b.bits = 0x11 ∧ s.hearsLink p h = true ∧ (s.sub p h).staging = []) ∧
    (∃ (s : State) (p : Nat) (h : Nat) (w : Nat) (q : Nat) (b : XBlock), p < 16 ∧ h < 2 ∧ w = (s.lanesOf p h).length ∧ w ≠ 0 ∧ s.rd XC_XP_STATUS.OVER_A p = 0 ∧ s.rd XC_XP_STATUS.OVER_B p = 0 ∧ q < 8 ∧ s.halfOf p q = h ∧ s.laneReads p q = true ∧ s.errored p q b = false ∧ b.bits % 2 = 1 ∧ ccrcOk b.bits = true ∧ blockCode b.bits = 0x11 ∧ s.hearsLink p h = false) :=
  ⟨⟨link0 [] .cold, 15, 1, 4, head0 1, [], 4, frame0 1, by decide +kernel⟩,
   ⟨link0 [(XC_XP_SEQ.RX_NEXT_B.key 15, 4095)] .cold, 15, 1, 4, head0 4095, [], 4, frame0 4095, 31, by decide +kernel⟩,
   ⟨link0 [(XC_XP_SEQ.RX_NEXT_B.key 15, 4095), (XC_RXS.EN.key 15 31, 1)] { XpSub.cold with expTally := [(15, 1)] }, 15, 1, 4, head0 4095, [], 4, frame0 4095, 31, by decide +kernel⟩,
   ⟨link0 [(XC_XP_SEQ.RX_NEXT_B.key 15, 4095), (XC_RXS.EN.key 15 31, 1), (XC_RXS.DELIVER.key 15 31, 1)] .cold, 15, 1, 4, head0 4095, [], 4, frame0 4095, 31, by decide +kernel⟩,
   ⟨link0 [] slots2, 15, 1, 4, 4, ⟨0, ackBlock 4095⟩, by decide +kernel⟩,
   ⟨link0 [(XC_XP_STATUS.SYNCED_B.key 15, 0)] slots2, 15, 1, 4, 4, ⟨0, ackBlock 4095⟩, by decide +kernel⟩⟩

/-- The hypotheses of each clause of `Obligations.CutNetFrames` can be met (3). -/
theorem test_hyps_CutNetFrames_3 :
    (∃ (s : State) (p : Nat) (h : Nat) (w : Nat) (q : Nat) (b : XBlock) (f : _) (g : _) (r : _), p < 16 ∧ h < 2 ∧ w = (s.lanesOf p h).length ∧ w ≠ 0 ∧ s.rd XC_XP_STATUS.OVER_A p = 0 ∧ s.rd XC_XP_STATUS.OVER_B p = 0 ∧ q < 8 ∧ s.halfOf p q = h ∧ s.laneReads p q = true ∧ s.errored p q b = false ∧ b.bits % 2 = 1 ∧ ccrcOk b.bits = true ∧ blockCode b.bits = 0x12 ∧ s.hearsLink p h = true ∧ (s.sub p h).slots = f :: g :: r ∧ b.bits / 2 ^ 9 % 2 ^ 12 = f.seq ∧ (∀ e ∈ f :: g :: r, seqOld f.seq e.seq = false)) ∧
    (∃ (s : State) (p : Nat) (h : Nat) (w : Nat) (q : Nat) (b : XBlock), p < 16 ∧ h < 2 ∧ w = (s.lanesOf p h).length ∧ w ≠ 0 ∧ s.rd XC_XP_STATUS.OVER_A p = 0 ∧ s.rd XC_XP_STATUS.OVER_B p = 0 ∧ q < 8 ∧ s.halfOf p q = h ∧ s.laneReads p q = true ∧ s.errored p q b = false ∧ b.bits % 2 = 1 ∧ ccrcOk b.bits = true ∧ blockCode b.bits = 0x12 ∧ s.hearsLink p h = false) ∧
    (∃ (s : State) (p : Nat) (h : Nat) (w : Nat) (f : _) (r : _), p < 16 ∧ h < 2 ∧ w = (s.lanesOf p h).length ∧ w ≠ 0 ∧ s.rd XC_XP_STATUS.OVER_A p = 0 ∧ s.rd XC_XP_STATUS.OVER_B p = 0 ∧ s.gated p h = true ∧ s.synced p h = true ∧ (s.sub p h).slots = f :: r ∧ (∀ e ∈ f :: r, seqOld f.seq e.seq = false)) ∧
    (∃ (s : State) (p : Nat) (h : Nat) (w : Nat), p < 16 ∧ h < 2 ∧ w = (s.lanesOf p h).length ∧ w ≠ 0 ∧ s.rd XC_XP_STATUS.OVER_A p = 0 ∧ s.rd XC_XP_STATUS.OVER_B p = 0 ∧ s.gated p h = true ∧ s.synced p h = true) ∧
    (∃ (s : State) (p : Nat) (h : Nat) (w : Nat), p < 16 ∧ h < 2 ∧ w = (s.lanesOf p h).length ∧ w ≠ 0 ∧ s.rd XC_XP_STATUS.OVER_A p = 0 ∧ s.rd XC_XP_STATUS.OVER_B p = 0 ∧ s.gated p h = true ∧ s.synced p h = true ∧ (s.sub p h).ackDue = true) ∧
    (∃ (s : State) (p : Nat) (h : Nat) (w : Nat), p < 16 ∧ h < 2 ∧ w = (s.lanesOf p h).length ∧ w ≠ 0 ∧ s.rd XC_XP_STATUS.OVER_A p = 0 ∧ s.rd XC_XP_STATUS.OVER_B p = 0 ∧ (s.gated p h = false ∨ s.synced p h = false)) :=
  ⟨⟨link0 [] slots2, 15, 1, 4, 4, ⟨0, nakBlock 4095⟩, ⟨4095, 0, 0, [], 0⟩, ⟨0, 0, 0, [], 0⟩, [], by decide +kernel⟩,
   ⟨link0 [(XC_XP_CTRL.GATE_B.key 15, 0)] slots2, 15, 1, 4, 4, ⟨0, nakBlock 4095⟩, by decide +kernel⟩,
   ⟨link0 [] slots2, 15, 1, 4, ⟨4095, 0, 0, [], 0⟩, [⟨0, 0, 0, [], 0⟩], by decide +kernel⟩,
   ⟨link0 [] { XpSub.cold with nakSent := some 0 }, 15, 1, 4, by decide +kernel⟩,
   ⟨link0 [] { XpSub.cold with ackDue := true }, 15, 1, 4, by decide +kernel⟩,
   ⟨link0 [(XC_XP_CTRL.GATE_B.key 15, 0)] .cold, 15, 1, 4, by decide +kernel⟩⟩

/-- The hypotheses of each clause of `Obligations.CutNetFrames` can be met (4). -/
theorem test_hyps_CutNetFrames_4 :
    (∃ (s : State) (p : Nat) (h : Nat) (w : Nat) (q : Nat) (c : Nat) (y : Nat) (k : Nat) (v : Nat) (e : Nat) (b : XBlock), p < 16 ∧ h < 2 ∧ w = (s.lanesOf p h).length ∧ w ≠ 0 ∧ s.rd XC_XP_STATUS.OVER_A p = 0 ∧ s.rd XC_XP_STATUS.OVER_B p = 0 ∧ b = XBlock.ofParts c y k v e ∧ q < 8 ∧ s.halfOf p q = h ∧ s.laneReads p q = true ∧ s.errored p q b = false ∧ b.bits % 2 = 1 ∧ ccrcOk b.bits = true ∧ blockCode b.bits = 0x13 ∧ s.linkUp p h = true ∧ b.bits / 2 ^ 28 % 2 = 0 ∧ s.gated p h = true ∧ b.bits / 2 ^ 29 % 2 ^ 8 ≠ (s.sub p h).rcnt) ∧
    (∃ (s : State) (p : Nat) (h : Nat) (w : Nat) (q : Nat) (c : Nat) (y : Nat) (k : Nat) (v : Nat) (e : Nat) (b : XBlock), p < 16 ∧ h < 2 ∧ w = (s.lanesOf p h).length ∧ w ≠ 0 ∧ s.rd XC_XP_STATUS.OVER_A p = 0 ∧ s.rd XC_XP_STATUS.OVER_B p = 0 ∧ b = XBlock.ofParts c y k v e ∧ q < 8 ∧ s.halfOf p q = h ∧ s.laneReads p q = true ∧ s.errored p q b = false ∧ b.bits % 2 = 1 ∧ ccrcOk b.bits = true ∧ blockCode b.bits = 0x13 ∧ s.linkUp p h = true ∧ b.bits / 2 ^ 28 % 2 = 0 ∧ s.gated p h = true ∧ b.bits / 2 ^ 29 % 2 ^ 8 = (s.sub p h).rcnt ∧ (b.bits / 2 ^ 27 % 2 = 0 ∨ b.bits / 2 ^ 21 % 2 ≠ s.rd (ab h XC_XP_CTRL.MODE_A XC_XP_CTRL.MODE_B) p ∨ b.bits / 2 ^ 22 % 2 ^ 5 ≠ s.rd (ab h XC_XP_CTRL.LAT_A XC_XP_CTRL.LAT_B) p)) ∧
    (∃ (s : State) (p : Nat) (h : Nat) (w : Nat) (q : Nat) (c : Nat) (y : Nat) (k : Nat) (v : Nat) (e : Nat) (b : XBlock), p < 16 ∧ h < 2 ∧ w = (s.lanesOf p h).length ∧ w ≠ 0 ∧ s.rd XC_XP_STATUS.OVER_A p = 0 ∧ s.rd XC_XP_STATUS.OVER_B p = 0 ∧ b = XBlock.ofParts c y k v e ∧ q < 8 ∧ s.halfOf p q = h ∧ s.laneReads p q = true ∧ s.errored p q b = false ∧ b.bits % 2 = 1 ∧ ccrcOk b.bits = true ∧ blockCode b.bits = 0x13 ∧ s.linkUp p h = true ∧ b.bits / 2 ^ 28 % 2 = 0 ∧ s.gated p h = true ∧ b.bits / 2 ^ 29 % 2 ^ 8 = (s.sub p h).rcnt ∧ b.bits / 2 ^ 27 % 2 = 1 ∧ b.bits / 2 ^ 21 % 2 = s.rd (ab h XC_XP_CTRL.MODE_A XC_XP_CTRL.MODE_B) p ∧ b.bits / 2 ^ 22 % 2 ^ 5 = s.rd (ab h XC_XP_CTRL.LAT_A XC_XP_CTRL.LAT_B) p ∧ (s.sub p h).slots = [] ∧ (s.sub p h).staging = []) ∧
    (∃ (s : State) (p : Nat) (h : Nat) (w : Nat) (q : Nat) (c : Nat) (y : Nat) (k : Nat) (v : Nat) (e : Nat) (b : XBlock), p < 16 ∧ h < 2 ∧ w = (s.lanesOf p h).length ∧ w ≠ 0 ∧ s.rd XC_XP_STATUS.OVER_A p = 0 ∧ s.rd XC_XP_STATUS.OVER_B p = 0 ∧ b = XBlock.ofParts c y k v e ∧ q < 8 ∧ s.halfOf p q = h ∧ s.laneReads p q = true ∧ s.errored p q b = false ∧ b.bits % 2 = 1 ∧ ccrcOk b.bits = true ∧ blockCode b.bits = 0x13 ∧ s.linkUp p h = true ∧ b.bits / 2 ^ 28 % 2 = 1 ∧ s.rd (ab h XC_XP_CTRL.ALT_B XC_XP_CTRL.ALT_A) p = 0) ∧
    (∃ (s : State) (p : Nat) (h : Nat) (w : Nat), p < 16 ∧ h < 2 ∧ w = (s.lanesOf p h).length ∧ w ≠ 0 ∧ s.rd XC_XP_STATUS.OVER_A p = 0 ∧ s.rd XC_XP_STATUS.OVER_B p = 0 ∧ s.linkUp p h = true ∧ (if s.gated p h = true then s.synced p h = false else (s.sub p h).heard = false)) ∧
    (∃ (s : State) (p : Nat) (h : Nat) (w : Nat), p < 16 ∧ h < 2 ∧ w = (s.lanesOf p h).length ∧ w ≠ 0 ∧ s.rd XC_XP_STATUS.OVER_A p = 0 ∧ s.rd XC_XP_STATUS.OVER_B p = 0 ∧ (s.linkUp p h = false ∨ (s.gated p h = true ∧ s.synced p h = true) ∨ (s.gated p h = false ∧ (s.sub p h).heard = true))) :=
  ⟨⟨link0 [] .cold, 15, 1, 4, 4, 0, 1, 0x13, syncBlock 0 0 0 true false 1 / 2 ^ 9 % 2 ^ 240, syncBlock 0 0 0 true false 1 / 2 ^ 249, ⟨0, syncBlock 0 0 0 true false 1⟩, by decide +kernel⟩,
   ⟨link0 [] .cold, 15, 1, 4, 4, 0, 1, 0x13, syncBlock 0 0 0 false false 0 / 2 ^ 9 % 2 ^ 240, syncBlock 0 0 0 false false 0 / 2 ^ 249, ⟨0, syncBlock 0 0 0 false false 0⟩, by decide +kernel⟩,
   ⟨link0 [(XC_XP_CTRL.LAT_B.key 15, 2)] .cold, 15, 1, 4, 4, 0, 1, 0x13, syncBlock 5 0 2 true false 0 / 2 ^ 9 % 2 ^ 240, syncBlock 5 0 2 true false 0 / 2 ^ 249, ⟨0, syncBlock 5 0 2 true false 0⟩, by decide +kernel⟩,
   ⟨link0 [] .cold, 15, 1, 4, 4, 0, 1, 0x13, syncBlock 0 0 0 true true 0 / 2 ^ 9 % 2 ^ 240, syncBlock 0 0 0 true true 0 / 2 ^ 249, ⟨0, syncBlock 0 0 0 true true 0⟩, by decide +kernel⟩,
   ⟨link0 [(XC_XP_STATUS.SYNCED_B.key 15, 0)] .cold, 15, 1, 4, by decide +kernel⟩,
   ⟨link0 [] .cold, 15, 1, 4, by decide +kernel⟩⟩

/-- The hypotheses of each clause of `Obligations.CutNetSettings` can be met. -/
theorem test_hyps_CutNetSettings :
    (∃ (s : State) (p : Nat) (h : Nat) (off : _), p < 16 ∧ h < 2 ∧ off % 8 = 0 ∧ ((0x200 ≤ off ∧ off < 0x300) ∨ (0x400 ≤ off ∧ off < 0x500) ∨ (0x20000 ≤ off ∧ off < 0x60000)) ∧ s.winderStopped = false ∧ (s.gated p 0 = true ∨ s.gated p 1 = true)) ∧
    (∃ (s : State) (p : Nat) (h : Nat) (n : _), p < 16 ∧ h < 2 ∧ n < 32 ∧ (s.winderStopped = true ∨ (s.gated p 0 = false ∧ s.gated p 1 = false))) ∧
    (∃ (s : State) (p : Nat) (h : Nat) (n : _), p < 16 ∧ h < 2 ∧ n < 16384 ∧ (s.winderStopped = true ∨ (s.gated p 0 = false ∧ s.gated p 1 = false))) ∧
    (∃ (p : Nat) (h : Nat), p < 16 ∧ h < 2) ∧
    (∃ (s : State) (p : Nat) (h : Nat), p < 16 ∧ h < 2 ∧ (s.winderStopped = false ∨ s.subEnabled p h = false)) ∧
    (∃ (s : State) (p : Nat) (h : Nat) (w : _), p < 16 ∧ h < 2 ∧ s.winderStopped = true ∧ s.subEnabled p h = true ∧ s.entries XC_TXS.EN p h = [] ∧ s.entries XC_RXS.EN p h = [] ∧ s.forwardsInto p h = [] ∧ w = (s.lanesOf p h).length ∧ w ≠ 0 ∧ s.rd XC_XP_STATUS.OVER_A p = 0 ∧ s.rd XC_XP_STATUS.OVER_B p = 0 ∧ s.gated p h = false) ∧
    (∃ (s : State) (p : Nat) (h : Nat), p < 16 ∧ h < 2 ∧ s.rd XC_PORT_CTRL.SPLIT p = 0) ∧
    (∃ (s : State) (p : Nat) (h : Nat), p < 16 ∧ h < 2 ∧ s.rd XC_PORT_CTRL.SPLIT p ≠ 0 ∧ s.winderStopped = true ∧ s.subEnabled p (1 - h) = true ∧ s.gated p (1 - h) = false ∧ s.rd XC_PORT_CTRL.RATE_A p = s.rd XC_PORT_CTRL.RATE_B p ∧ s.rd XC_PORT_CTRL.FEC_A p = s.rd XC_PORT_CTRL.FEC_B p) ∧
    (∃ (s : State) (p : Nat) (h : Nat) (w : _), p < 16 ∧ h < 2 ∧ w = (s.lanesOf p (1 - h)).length ∧ w ≠ 0 ∧ s.gated p h = true ∧ s.linkUp p h = false ∧ s.rd (ab h XC_XP_CTRL.ALT_A XC_XP_CTRL.ALT_B) p ≠ 0 ∧ s.rd XC_XP_CTRL.FAILOVER p ≠ 0 ∧ s.rd (ab h XC_XP_STATUS.OVER_B XC_XP_STATUS.OVER_A) p = 0) ∧
    (∃ (s : State) (p : Nat) (h : Nat), p < 16 ∧ h < 2 ∧ (s.gated p h = false ∨ s.linkUp p h = true ∨ s.rd XC_XP_CTRL.FAILOVER p = 0)) :=
  ⟨⟨given [(WD_STATUS.STATE.key, 2), (XC_XP_CTRL.GATE_B.key 15, 1)], 15, 1, 0x5FFF8, by decide +kernel⟩,
   ⟨State.reset, 15, 1, 31, by decide +kernel⟩,
   ⟨State.reset, 15, 1, 16383, by decide +kernel⟩,
   ⟨15, 1, by decide +kernel⟩,
   ⟨State.reset, 15, 1, by decide +kernel⟩,
   ⟨given [(XC_PORT_CTRL.EN_B.key 15, 1), (XC_PORT_CTRL.SPLIT.key 15, 1), (WD_TALLY.TALLY.key, 7)], 15, 1, 4, by decide +kernel⟩,
   ⟨State.reset, 15, 1, by decide +kernel⟩,
   ⟨given [(XC_PORT_CTRL.EN_A.key 15, 1), (XC_PORT_CTRL.SPLIT.key 15, 1)], 15, 1, by decide +kernel⟩,
   ⟨given [(XC_XP_CTRL.GATE_B.key 15, 1), (XC_XP_CTRL.ALT_B.key 15, 1), (XC_XP_CTRL.FAILOVER.key 15, 1)], 15, 1, 8, by decide +kernel⟩,
   ⟨State.reset, 15, 1, by decide +kernel⟩⟩

/-- The hypotheses of each clause of `Obligations.HostLink` can be met (1). -/
theorem test_hyps_HostLink :
    (∃ (s : State) (sp : _) (w : _), (s.clk.perst = true ∨ s.rootRuns = false ∨ s.rd CG_LINK.UP ≠ 0 ∨ sp < 3 ∨ 6 < sp ∨ w ∉ [1, 2, 4, 8, 16])) ∧
    (∃ (s : State) (sp : _) (w : _), s.clk.perst = false ∧ s.rootRuns = true ∧ s.rd CG_LINK.UP = 0 ∧ 3 ≤ sp ∧ sp ≤ 6 ∧ w ∈ [1, 2, 4, 8, 16]) ∧
    (∃ (s : State), s.rd CG_LINK.UP = 0) ∧
    (∃ (s : State), s.rd CG_LINK.UP ≠ 0 ∧ s.rd CG_BASE.BASE_DONE = 0) ∧
    (∃ (s : State), s.rd CG_LINK.UP ≠ 0 ∧ s.rd CG_BASE.BASE_DONE ≠ 0) ∧
    (∃ (s : State), s.rd CG_LINK.UP ≠ 0 ∧ s.rd CG_BASE.BASE_DONE ≠ 0) ∧
    (∃ (s : State), s.rd CG_LINK.UP ≠ 0 ∧ s.rd CG_BASE.BASE_DONE ≠ 0) ∧
    (∃ (s : State), s.clk.perst = false ∧ s.rd CG_BASE.BASE_DONE = 0) ∧
    (∃ (s : State), (s.clk.perst = true ∨ s.rd CG_BASE.BASE_DONE ≠ 0)) ∧
    (∃ (s : State), s.rd CG_LINK.UP = 0) ∧
    (∃ (s : State), s.rd CG_LINK.UP ≠ 0) ∧
    (∃ (s : State) (bar : _) (ofs : _) (len : _), (s.rd CG_LINK.UP = 0 ∨ s.barHolds bar ofs len = false)) :=
  ⟨⟨State.reset, 2, 16, by decide +kernel⟩,
   ⟨{ State.reset with clk := { Clocks.cold with perst := false, stage := .running, warmHold := false } }, 6, 2, by decide +kernel⟩,
   ⟨given [(CG_LINK.UP.key, 0)], by decide +kernel⟩,
   ⟨given [(CG_LINK.UP.key, 1)], by decide +kernel⟩,
   ⟨host0 [], by decide +kernel⟩,
   ⟨host0 [], by decide +kernel⟩,
   ⟨host0 [], by decide +kernel⟩,
   ⟨{ State.reset with clk := { Clocks.cold with perst := false } }, by decide +kernel⟩,
   ⟨State.reset, by decide +kernel⟩,
   ⟨State.reset, by decide +kernel⟩,
   ⟨queue0 2 1 [] .cold, by decide +kernel⟩,
   ⟨host0 [], 0, 2 ^ 31, 1, by decide +kernel⟩⟩

/-- The hypotheses of each clause of `Obligations.HostLink` can be met (2). -/
theorem test_hyps_HostLink_2 :
    (∃ (s : State) (bar : _) (ofs : _) (len : _) (data : List Nat), s.barHolds bar ofs len = true ∧ s.barHolds bar ofs data.length = true ∧ s.rd CG_LINK.UP ≠ 0 ∧ s.clk.stage = .running ∧ s.clk.warmHold = false ∧ s.halted = true) ∧
    (∃ (s : State) (ofs : _), ofs + 1 ≤ 2 ^ 31 ∧ s.rd CG_LINK.UP ≠ 0 ∧ s.clk.stage = .running ∧ s.clk.warmHold = false ∧ s.halted = false ∧ windowOf (0x010000000000 + ofs) = .hole ∧ s.rd CG_ERR_STATUS.HOST_RD_ERR = 0 ∧ s.rd CG_ERR_STATUS.HOST_WR_ERR = 0) ∧
    (∃ (s : State) (ofs : _) (d : _), ofs + 8 ≤ 2 ^ 31 ∧ ofs % 8 = 0 ∧ s.rd CG_LINK.UP ≠ 0 ∧ s.clk.stage = .running ∧ s.clk.warmHold = false ∧ s.halted = false ∧ windowOf (0x010000000000 + ofs) = .data ∧ s.windowRefuses (0x010000000000 + ofs) 8 = none ∧ inCageBuffer (0x010000000000 + ofs) = false ∧ d < 2 ^ 64) ∧
    (∃ (s : State) (ofs : _), ofs + 8 ≤ 2 ^ 25 ∧ ofs % 8 = 0 ∧ s.rd CG_LINK.UP ≠ 0 ∧ s.clk.stage = .running ∧ s.clk.warmHold = false ∧ s.halted = false ∧ s.ready 1 = true) :=
  ⟨⟨host0 [(EN_STATUS.HALTED.key, 1)], 0, 0, 4, [1], by decide +kernel⟩,
   ⟨host0 [], 0x07000000, by decide +kernel⟩,
   ⟨host0 [(FM_READY.READY.key, 2 ^ 64 - 1)], 0x04000000, 2 ^ 64 - 1, by decide +kernel⟩,
   ⟨host0 [(FM_READY.READY.key, 2)], 2 ^ 25 - 8, by decide +kernel⟩⟩

/-- The hypotheses of each clause of `Obligations.QueueWindows` can be met (1). -/
theorem test_hyps_QueueWindows :
    (∃ (s : State) (q : Nat) (v : _), q < 4096 ∧ s.rd QU_STATUS.STATE q = 0 ∧ (s.setFields [QU_CTRL.DIR, QU_CTRL.HMODE, QU_CTRL.BANK_LOG2] (v / 4 * 4 + 1) q).enableOk q = true ∧ s.rd QU_END.KIND q ≠ 2) ∧
    (∃ (s : State) (q : Nat) (v : _), q < 4096 ∧ s.rd QU_STATUS.STATE q = 0 ∧ (s.setFields [QU_CTRL.DIR, QU_CTRL.HMODE, QU_CTRL.BANK_LOG2] (v / 4 * 4 + 1) q).enableOk q = false) ∧
    (∃ (s : State) (q : Nat) (v : _), q < 4096 ∧ s.rd QU_STATUS.STATE q = 1 ∧ s.fieldsDiffer [QU_CTRL.DIR, QU_CTRL.HMODE, QU_CTRL.BANK_LOG2] (v / 4 * 4 + 2) q = false ∧ s.queue q = .cold) ∧
    (∃ (s : State) (q : Nat) (v : _) (p : _) (r : _), q < 4096 ∧ s.rd QU_STATUS.STATE q = 1 ∧ s.fieldsDiffer [QU_CTRL.DIR, QU_CTRL.HMODE, QU_CTRL.BANK_LOG2] (v / 4 * 4 + 2) q = false ∧ (s.queue q).pkts = p :: r ∧ p.closed = false) ∧
    (∃ (q : Nat), q < 4096) ∧
    (∃ (s : State) (q : Nat) (m : _) (w : _) (n : _), q < 4096 ∧ s.rd QU_STATUS.STATE q = 1 ∧ s.rd QU_CTRL.DIR q ≠ 0 ∧ s.boundTo q m = true ∧ s.queue q = .cold ∧ w = s.quWidth q ∧ s.rd QU_STATUS.FLIP_PEND q = 0 ∧ s.belowMark q (s.rd QU_SEQ.NEXT_SEQ q) = false ∧ 12 ≤ s.rd QU_DATA_RING.DATA_LOG2 q ∧ n = s.rd QU_SEQ.NEXT_SEQ q) ∧
    (∃ (s : State) (q : Nat) (m : _) (w : _) (n : _), q < 4096 ∧ s.rd QU_STATUS.STATE q = 1 ∧ s.rd QU_CTRL.DIR q ≠ 0 ∧ s.boundTo q m = true ∧ s.queue q = .cold ∧ w = s.quWidth q ∧ s.rd QU_STATUS.FLIP_PEND q = 0 ∧ s.belowMark q (s.rd QU_SEQ.NEXT_SEQ q) = false ∧ 12 ≤ s.rd QU_DATA_RING.DATA_LOG2 q ∧ n = s.rd QU_SEQ.NEXT_SEQ q) ∧
    (∃ (s : State) (q : Nat) (w : _), q < 4096 ∧ (s.rd QU_STATUS.STATE q ≠ 1 ∨ s.rd QU_CTRL.DIR q = 0) ∧ w = s.quWidth q) ∧
    (∃ (s : State) (q : Nat) (w : _), q < 4096 ∧ (s.rd QU_STATUS.STATE q ≠ 1 ∨ w ≠ s.quWidth q)) ∧
    (∃ (s : State) (q : Nat) (w : _), q < 4096 ∧ w ≠ s.quWidth q) ∧
    (∃ (s : State) (q : Nat) (m : _) (w : _), q < 4096 ∧ w = s.quWidth q ∧ (s.rd QU_CTRL.DIR q ≠ 0 ∨ s.boundTo q m = false)) ∧
    (∃ (s : State) (q : Nat) (m : _) (w : _) (p : QPkt) (l : QLine), q < 4096 ∧ w = s.quWidth q ∧ s.rd QU_CTRL.DIR q = 0 ∧ s.boundTo q m = true ∧ s.rd QU_STATUS.STATE q = 1 ∧ s.sampler.replay = [] ∧ s.rd WD_SMP_CTRL.LOG_EN = 0 ∧ (s.queue q).pkts = [p] ∧ p.closed = true ∧ 0 < p.len ∧ (s.queue q).drain = [l] ∧ l.seq = p.seq ∧ l.valid ≠ 0 ∧ l.poison = false ∧ p.poison = false ∧ (s.queue q).popped = 0) :=
  ⟨⟨queue0 0 1 [] .cold, 4095, 196, by decide +kernel⟩,
   ⟨queue0 0 1 [] .cold, 4095, 204, by decide +kernel⟩,
   ⟨queue0 1 1 [] .cold, 4095, 196, by decide +kernel⟩,
   ⟨queue0 1 1 [] { Queue.cold with pkts := [pkt0 false] }, 4095, 196, pkt0 false, [], by decide +kernel⟩,
   ⟨4095, by decide +kernel⟩,
   ⟨queue0 1 1 [] .cold, 4095, .stope 639, 8, 0, by decide +kernel⟩,
   ⟨queue0 1 1 [] .cold, 4095, .stope 639, 8, 0, by decide +kernel⟩,
   ⟨queue0 2 1 [] .cold, 4095, 8, by decide +kernel⟩,
   ⟨queue0 1 1 [] .cold, 4095, 4, by decide +kernel⟩,
   ⟨queue0 1 0 [] .cold, 4095, 4, by decide +kernel⟩,
   ⟨queue0 1 0 [] .cold, 4095, .stope 638, 8, by decide +kernel⟩,
   ⟨queue0 1 0 [] { Queue.cold with pkts := [pkt0 true], drain := [line0] }, 4095, .stope 639, 8, pkt0 true, line0, by decide +kernel⟩⟩

/-- The hypotheses of each clause of `Obligations.QueueWindows` can be met (2). -/
theorem test_hyps_QueueWindows_2 :
    (∃ (s : State) (q : Nat), q < 4096 ∧ (s.rd QU_STATUS.STATE q ≠ 1 ∨ s.rd QU_CTRL.DIR q ≠ 0 ∨ 64 ≤ (s.queue q).doorbells.length)) ∧
    (∃ (s : State) (q : Nat) (len : _), q < 4096 ∧ s.rd QU_STATUS.STATE q = 1 ∧ s.rd QU_CTRL.DIR q = 0 ∧ (s.queue q).doorbells.length < 64 ∧ s.rd QU_CTRL.HMODE q = 0 ∧ 64 * lineCount (s.quWidth q) len ≤ 2 ^ s.rd QU_DATA_RING.DATA_LOG2 q) ∧
    (∃ (s : State) (q : Nat), q < 4096 ∧ (s.rd QU_STATUS.STATE q ≠ 1 ∨ s.rd QU_CTRL.DIR q ≠ 0)) ∧
    (∃ (s : State) (q : Nat) (len : _), q < 4096 ∧ s.rd QU_STATUS.STATE q = 1 ∧ s.rd QU_CTRL.DIR q = 0 ∧ (s.rd QU_CTRL.HMODE q = 0 ∨ len ≠ 0)) ∧
    (∃ (s : State) (q : Nat), q < 4096 ∧ s.rd QU_STATUS.STATE q = 1 ∧ s.rd QU_CTRL.DIR q = 0 ∧ s.rd QU_CTRL.HMODE q = 1 ∧ (s.queue q).doorbells = [] ∧ (s.queue q).drain = [] ∧ (s.queue q).spill = [] ∧ (s.queue q).spilling = false ∧ s.rd QU_STATUS.FILL_BANK q ≤ 1) :=
  ⟨⟨queue0 1 0 [] { Queue.cold with doorbells := List.replicate 64 5 }, 4095, by decide +kernel⟩,
   ⟨queue0 1 0 [] { Queue.cold with doorbells := List.replicate 63 5 }, 4095, 8184, by decide +kernel⟩,
   ⟨queue0 1 1 [] .cold, 4095, by decide +kernel⟩,
   ⟨queue0 1 0 [] .cold, 4095, 0, by decide +kernel⟩,
   ⟨queue0 1 0 [(QU_CTRL.HMODE.key 4095, 1)] { Queue.cold with fill := [line0] }, 4095, by decide +kernel⟩⟩

/-- The hypotheses of each clause of `Obligations.QueueEngine` can be met (1). -/
theorem test_hyps_QueueEngine :
    (∃ (s : State) (q : Nat), q < 4096 ∧ s.hostReach = false) ∧
    (∃ (s : State) (q : Nat) (l : _), q < 4096 ∧ s.hostReach = true ∧ q = (s.cage.rr + 1) % 4097 ∧ (s.rd QU_STATUS.STATE q = 1 ∨ s.rd QU_STATUS.STATE q = 2) ∧ s.rd QU_CTRL.DIR q ≠ 0 ∧ (s.queue q).drain = [l] ∧ l.valid ≠ 0 ∧ l.last = true ∧ (s.queue q).waiting = [] ∧ s.ringRoom q = true) ∧
    (∃ (s : State) (q : Nat) (e : _) (r : _), q < 4096 ∧ s.hostReach = true ∧ s.cage.rr = 4095 ∧ 1 ≤ s.rd CF_LD_STATUS.STATE ∧ s.rd CF_LD_STATUS.STATE ≤ 3 ∧ s.loader.extents = e :: r ∧ e.space = 0) ∧
    (∃ (s : State) (q : Nat) (len : _), q < 4096 ∧ s.hostReach = true ∧ q = (s.cage.rr + 1) % 4097 ∧ s.rd QU_STATUS.STATE q = 1 ∧ s.rd QU_CTRL.DIR q = 0 ∧ s.rd QU_CTRL.HMODE q = 0 ∧ s.queue q = { Queue.cold with doorbells := [len] } ∧ lineCount (s.quWidth q) len = 1 ∧ s.rd QU_STATUS.FLIP_PEND q = 0 ∧ 6 ≤ s.rd QU_CTRL.BANK_LOG2 q ∧ s.cage.maxRead = 512 ∧ s.rd QU_POS.DATA_TAIL q % 64 = 0) ∧
    (∃ (s : State) (q : Nat) (st : _), q < 4096 ∧ s.halted = false ∧ (s.rd QU_STATUS.STATE q = 1 ∨ s.rd QU_STATUS.STATE q = 2) ∧ (s.queue q).arrived < (s.queue q).asked ∧ st ≠ 0) ∧
    (∃ (s : State) (q : Nat) (d : List Nat) (p : QPkt) (r : _), q < 4096 ∧ s.halted = false ∧ s.rd QU_STATUS.STATE q = 1 ∧ s.rd QU_CTRL.DIR q = 0 ∧ s.rd QU_CTRL.HMODE q = 0 ∧ s.queue q = { Queue.cold with doorbells := r, pkts := [p], asked := 1 } ∧ p.closed = false ∧ lineCount (s.quWidth q) p.len = 1 ∧ d.length = 64) ∧
    (∃ (s : State) (q : Nat), q < 4096 ∧ s.rd QU_STATUS.STATE q ≠ 1 ∧ s.rd QU_STATUS.STATE q ≠ 2) ∧
    (∃ (s : State) (q : Nat), q < 4096 ∧ s.rd QU_STATUS.STATE q = 1 ∧ s.rd QU_CTRL.DIR q = 0 ∧ s.rd QU_CTRL.HMODE q = 0 ∧ (s.queue q).drain = [] ∧ (s.queue q).spill = [] ∧ (s.queue q).spilling = false ∧ (s.queue q).fill.any (fun l => l.last) = true ∧ s.rd QU_STATUS.FILL_BANK q ≤ 1) ∧
    (∃ (s : State) (q : Nat), q < 4096 ∧ (s.rd QU_STATUS.STATE q = 1 ∨ s.rd QU_STATUS.STATE q = 2) ∧ (s.queue q).spilling = true) ∧
    (∃ (s : State) (q : Nat), q < 4096 ∧ s.rd QU_STATUS.STATE q = 1 ∧ s.rd QU_CTRL.DIR q = 0 ∧ (s.queue q).spilling = true ∧ (s.queue q).pkts = []) ∧
    (∃ (s : State) (q : Nat) (e : _) (r : _), q < 4096 ∧ s.rd QU_STATUS.STATE q = 1 ∧ s.rd QU_CTRL.DIR q = 0 ∧ (s.queue q).drain = [] ∧ (s.queue q).spill = e :: r) ∧
    (∃ (s : State) (q : Nat) (e : _) (r : _), q < 4096 ∧ s.rd QU_STATUS.STATE q = 1 ∧ s.rd QU_CTRL.DIR q = 0 ∧ (s.queue q).drain = [] ∧ (s.queue q).spill = e :: r) :=
  ⟨⟨State.reset, 0, by decide +kernel⟩,
   ⟨queue0 2 1 [] { Queue.cold with drain := [line0], pkts := [pkt0 true] }, 4095, line0, by decide +kernel⟩,
   ⟨{ queue0 0 0 [(CF_LD_STATUS.STATE.key, 3)] .cold with cage := { Cage.cold with rr := 4095 }, loader := { Loader.cold with extents := [⟨64, 8192, 0, false, 64⟩] } }, 0, ⟨64, 8192, 0, false, 64⟩, [], by decide +kernel⟩,
   ⟨queue0 1 0 [] { Queue.cold with doorbells := [56] }, 4095, 56, by decide +kernel⟩,
   ⟨queue0 2 0 [] { Queue.cold with asked := 1 }, 4095, 1, by decide +kernel⟩,
   ⟨queue0 1 0 [] { Queue.cold with doorbells := [56], pkts := [pkt0 false], asked := 1 }, 4095, List.replicate 64 1, pkt0 false, [56], by decide +kernel⟩,
   ⟨queue0 3 0 [] .cold, 4095, by decide +kernel⟩,
   ⟨queue0 1 0 [] { Queue.cold with fill := [line0] }, 4095, by decide +kernel⟩,
   ⟨queue0 2 0 [] { Queue.cold with spilling := true }, 4095, by decide +kernel⟩,
   ⟨queue0 1 0 [] { Queue.cold with spilling := true, fill := [line0] }, 4095, by decide +kernel⟩,
   ⟨queue0 1 0 [(QU_SPILL.NBANKS.key 4095, 1)] { Queue.cold with spill := [[line0]] }, 4095, [line0], [], by decide +kernel⟩,
   ⟨queue0 1 0 [(QU_SPILL.NBANKS.key 4095, 1)] { Queue.cold with spill := [[line0]] }, 4095, [line0], [], by decide +kernel⟩⟩

/-- The hypotheses of each clause of `Obligations.QueueEngine` can be met (2). -/
theorem test_hyps_QueueEngine_2 :
    (∃ (s : State) (q : Nat), q < 4096 ∧ (s.queue q).notices = [] ∨ s.hostReach = false) ∧
    (∃ (s : State) (q : Nat) (n : _) (r : _), q < 4096 ∧ (s.rd QU_STATUS.STATE q = 1 ∨ s.rd QU_STATUS.STATE q = 2) ∧ s.hostReach = true ∧ (s.queue q).notices = n :: r ∧ (s.rd QU_POS.NOTICE_TAIL q + 2 ^ 32 - s.rd QU_HOST_HEAD.NOTICE_HEAD q) % 2 ^ 32 ≠ 2 ^ s.rd QU_NOTICE_RING.NOTICE_LOG2 q) ∧
    (∃ (s : State) (q : Nat), q < 4096 ∧ s.rd QU_IRQ.COAL_TIME q ≠ 0 ∧ s.rd QU_IRQ.IRQ_EN q ≠ 0 ∧ 0 < (s.queue q).unsignalled) ∧
    (∃ (s : State) (q : Nat), q < 4096 ∧ (s.rd QU_IRQ.COAL_TIME q = 0 ∨ s.rd QU_IRQ.IRQ_EN q = 0 ∨ (s.queue q).unsignalled = 0)) ∧
    (∃ (s : State) (q : Nat) (v : _), q < 4096 ∧ v < 2048 ∧ Tab.get false s.msix.merged v = true ∧ s.hostReach = true ∧ s.msix.enable = true ∧ s.msix.functionMask = false ∧ Tab.get false s.msix.unmasked v = true) ∧
    (∃ (s : State) (q : Nat) (v : _), q < 4096 ∧ v < 2048 ∧ Tab.get false s.msix.merged v = false) ∧
    (∃ (s : State) (q : Nat) (v : _), q < 4096 ∧ v < 2048 ∧ s.msix.pending = [(v, true)] ∧ s.hostReach = true ∧ s.msix.enable = true ∧ s.msix.functionMask = false ∧ Tab.get false s.msix.inGap v = false) ∧
    (∃ (s : State) (q : Nat) (n : _) (b : _), q < 4096 ∧ n < 640 ∧ b < 16 ∧ s.inUse n = true ∧ ((s.stope n).bqmode b = 2 ∨ (s.stope n).bqmode b = 3) ∧ s.binQueue n b (decide ((s.stope n).bqmode b = 2)) = some q) ∧
    (∃ (s : State) (q : Nat) (n : _) (b : _), q < 4096 ∧ n < 640 ∧ b < 16 ∧ s.inUse n = true ∧ (s.stope n).bqmode b = 2 ∧ s.binQueue n b true = some q) ∧
    (∃ (s : State) (q : Nat) (n : _) (b : _), q < 4096 ∧ n < 640 ∧ b < 16 ∧ s.binQueue n b (decide ((s.stope n).bqmode b = 2)) = none) :=
  ⟨⟨State.reset, 4095, by decide +kernel⟩,
   ⟨queue0 1 0 [] { Queue.cold with notices := [⟨0, 0, 56, false, false, false⟩] }, 4095, ⟨0, 0, 56, false, false, false⟩, [], by decide +kernel⟩,
   ⟨queue0 1 0 [(QU_IRQ.COAL_TIME.key 4095, 1), (QU_IRQ.IRQ_EN.key 4095, 1)] { Queue.cold with unsignalled := 1 }, 4095, by decide +kernel⟩,
   ⟨State.reset, 4095, by decide +kernel⟩,
   ⟨{ host0 [] with msix := { Msix.cold with enable := true, merged := [(2047, true)], unmasked := [(2047, true)] } }, 4095, 2047, by decide +kernel⟩,
   ⟨State.reset, 4095, 2047, by decide +kernel⟩,
   ⟨{ host0 [] with msix := { Msix.cold with enable := true, pending := [(2047, true)] } }, 4095, 2047, by decide +kernel⟩,
   ⟨bin0 [], 4095, 639, 15, by decide +kernel⟩,
   ⟨bin0 [], 4095, 639, 15, by decide +kernel⟩,
   ⟨State.reset, 4095, 639, 15, by decide +kernel⟩⟩

/-- The hypotheses of each clause of `Obligations.GalleryRequests` can be met. -/
theorem test_hyps_GalleryRequests :
    (∃ (s : State) (r : GalReq), r.ni < 662 ∧ r.op < 3 ∧ r.ni < 640 ∧ s.inUse r.ni = false) ∧
    (∃ (s : State) (r : GalReq), r.ni < 662 ∧ r.op < 3 ∧ s.rootRuns = false) ∧
    (∃ (s : State) (r : GalReq), r.ni < 662 ∧ r.op < 3 ∧ s.rootRuns = true ∧ (640 ≤ r.ni ∨ s.inUse r.ni = true) ∧ r.engine = none ∧ s.decodeNi r.addr = none ∧ r.op ≠ 2) ∧
    (∃ (s : State) (r : GalReq) (d : Nat), r.ni < 662 ∧ r.op < 3 ∧ s.rootRuns = true ∧ (640 ≤ r.ni ∨ s.inUse r.ni = true) ∧ r.engine = none ∧ s.decodeNi r.addr = some d ∧ r.op ≠ 2 ∧ (r.size = 0 ∨ 64 < r.addr % 64 + r.size)) ∧
    (∃ (s : State) (r : GalReq) (d : Nat), r.ni < 662 ∧ r.op < 3 ∧ s.rootRuns = true ∧ (640 ≤ r.ni ∨ s.inUse r.ni = true) ∧ r.engine = none ∧ s.decodeNi r.addr = some d ∧ 0 < r.size ∧ r.addr % 64 + r.size ≤ 64 ∧ s.rd GL_ROUTE.VALID 0 (routeIdx r.ni d) = 0) ∧
    (∃ (s : State) (r : GalReq) (d : Nat) (e : _) (tag : _), r.ni < 662 ∧ r.op < 3 ∧ s.rootRuns = true ∧ (640 ≤ r.ni ∨ s.inUse r.ni = true) ∧ r.engine = none ∧ s.decodeNi r.addr = some d ∧ e = routeIdx r.ni d ∧ 0 < r.size ∧ r.addr % 64 + r.size ≤ 64 ∧ s.rd GL_ROUTE.VALID 0 e ≠ 0 ∧ r.op ≠ 2 ∧ 640 ≤ r.ni ∧ s.freeTag r.ni = some tag) ∧
    (∃ (s : State) (r : GalReq) (d : Nat), r.ni < 662 ∧ r.op < 3 ∧ s.rootRuns = true ∧ (640 ≤ r.ni ∨ s.inUse r.ni = true) ∧ r.engine = none ∧ s.decodeNi r.addr = some d ∧ 0 < r.size ∧ r.addr % 64 + r.size ≤ 64 ∧ s.rd GL_ROUTE.VALID 0 (routeIdx r.ni d) ≠ 0 ∧ r.ni < 640 ∧ s.rd GL_NI_CFG.REG_EN 0 r.ni ≠ 0 ∧ s.rd GL_NI_CFG.BURST 0 r.ni < Tab.get 0 s.gallery.short r.ni + (1 + (if r.op = 0 then 0 else (r.addr % 16 + r.size + 15) / 16))) ∧
    (∃ (s : State) (r : GalReq) (d : Nat), r.ni < 662 ∧ r.op < 3 ∧ s.rootRuns = true ∧ (640 ≤ r.ni ∨ s.inUse r.ni = true) ∧ r.engine = none ∧ s.decodeNi r.addr = some d ∧ 0 < r.size ∧ r.addr % 64 + r.size ≤ 64 ∧ s.rd GL_ROUTE.VALID 0 (routeIdx r.ni d) ≠ 0 ∧ r.ni < 640 ∧ s.gallery.held.any (fun q => decide (q.ni = r.ni ∧ q.engine = r.engine)) = true) ∧
    (∃ (s : State) (r : GalReq) (d : Nat), r.ni < 662 ∧ r.op < 3 ∧ s.rootRuns = true ∧ (640 ≤ r.ni ∨ s.inUse r.ni = true) ∧ r.engine = none ∧ s.decodeNi r.addr = some d ∧ 0 < r.size ∧ r.addr % 64 + r.size ≤ 64 ∧ s.rd GL_ROUTE.VALID 0 (routeIdx r.ni d) ≠ 0 ∧ r.ni < 640 ∧ s.gallery.held = [] ∧ r.op = 2 ∧ s.rd GL_NI_CFG.REG_EN 0 r.ni ≠ 0 ∧ Tab.get 0 s.gallery.short r.ni + (1 + (r.addr % 16 + r.size + 15) / 16) ≤ s.rd GL_NI_CFG.BURST 0 r.ni) ∧
    (∃ (s : State) (r : GalReq), r.ni < 662 ∧ r.op < 3 ∧ r.ni < 640 ∧ s.rd GL_NI_CFG.REG_EN 0 r.ni ≠ 0 ∧ s.gallery.held = []) ∧
    (∃ (s : State) (r : GalReq) (e : _), r.ni < 662 ∧ r.op < 3 ∧ e < 64 ∧ s.rd GL_ENG_REG.REG_EN 0 e = 0) :=
  ⟨⟨State.reset, galReq 0 0 8 0, by decide +kernel⟩,
   ⟨{ State.reset with clk := { Clocks.cold with warmHold := true } }, galReq 0 0 8 0, by decide +kernel⟩,
   ⟨galIdle [], galReq 639 0x010009000000 8 0, by decide +kernel⟩,
   ⟨galIdle [], galReq 661 0x010010000000 65 1, 0, by decide +kernel⟩,
   ⟨galIdle [(GL_ROUTE.VALID.key 0 (routeIdx 661 0), 0)], galReq 661 0x010010000000 64 1, 0, by decide +kernel⟩,
   ⟨galIdle [], galReq 644 0x010037F00000 64 1, 639, routeIdx 644 639, 0, by decide +kernel⟩,
   ⟨{ galIdle [(GL_NI_CFG.REG_EN.key 0 639, 1), (GL_NI_CFG.BURST.key 0 639, 5)] with gallery := { Gallery.cold with short := [(639, 1)] } }, galReq 639 0x010010000000 64 1, 0, by decide +kernel⟩,
   ⟨{ galIdle [] with gallery := { Gallery.cold with held := [galReq 639 0 8 0] } }, galReq 639 0x010010000000 64 1, 0, by decide +kernel⟩,
   ⟨galIdle [(GL_NI_CFG.REG_EN.key 0 639, 1), (GL_NI_CFG.BURST.key 0 639, 5)], galReq 639 0x010010000000 64 2, 0, by decide +kernel⟩,
   ⟨{ galIdle [(GL_NI_CFG.REG_EN.key 0 639, 1), (GL_NI_CFG.RATE.key 0 639, 2)] with gallery := { Gallery.cold with short := [(639, 5)] } }, galReq 639 0 1 2, by decide +kernel⟩,
   ⟨State.reset, galReq 0 0 1 0, 63, by decide +kernel⟩⟩

/-- The hypotheses of each clause of `Obligations.GalleryHops` can be met (1). -/
theorem test_hyps_GalleryHops :
    (∃ (s : State) (i : _), s.gallery.packets.length ≤ i) ∧
    (∃ (s : State) (i : _) (p : Packet), s.gallery.packets[i]? = some p ∧ s.gallery.mayHop i p = false) ∧
    (∃ (s : State) (i : Nat) (p : Packet), s.gallery.packets[i]? = some p ∧ s.gallery.mayHop i p = true ∧ p.req.engine = none ∧ p.req.op < 5 ∧ s.rd GL_ERR.VALID = 0 ∧ p.place.code < 4096) ∧
    (∃ (s : State) (i : Nat) (p : Packet) (n : _), s.gallery.packets[i]? = some p ∧ s.gallery.mayHop i p = true ∧ p.req.engine = none ∧ p.req.op < 5 ∧ p.place = .junction n ∧ p.route.sx % 16 ≠ 0 ∧ p.route.sx < 16 ∧ n % 10 < 9) ∧
    (∃ (s : State) (i : Nat) (p : Packet) (n : _), s.gallery.packets[i]? = some p ∧ s.gallery.mayHop i p = true ∧ p.req.engine = none ∧ p.req.op < 5 ∧ p.place = .junction n ∧ p.route.sx % 16 ≠ 0 ∧ 16 ≤ p.route.sx ∧ n % 10 ≠ 0) ∧
    (∃ (s : State) (i : Nat) (p : Packet) (n : _), s.gallery.packets[i]? = some p ∧ s.gallery.mayHop i p = true ∧ p.req.engine = none ∧ p.req.op < 5 ∧ p.place = .junction n ∧ p.route.sx % 16 = 0 ∧ p.route.sy % 32 ≠ 0 ∧ 32 ≤ p.route.sy) ∧
    (∃ (s : State) (i : Nat) (p : Packet) (n : _), s.gallery.packets[i]? = some p ∧ s.gallery.mayHop i p = true ∧ p.req.engine = none ∧ p.req.op < 5 ∧ p.place = .junction n ∧ p.route.sx % 16 = 0 ∧ p.route.sy % 32 = 0 ∧ p.route.dy ≠ 0 ∧ n % 160 / 10 < 15) ∧
    (∃ (s : State) (i : Nat) (p : Packet) (k : _) (l : _) (e : _), s.gallery.packets[i]? = some p ∧ s.gallery.mayHop i p = true ∧ p.req.engine = none ∧ p.req.op < 5 ∧ p.place = .shaft k l ∧ e = (if l then p.route.dsj else p.route.sj) ∧ e ≤ 9) ∧
    (∃ (s : State) (i : Nat) (p : Packet) (k : _), s.gallery.packets[i]? = some p ∧ s.gallery.mayHop i p = true ∧ p.req.engine = none ∧ p.req.op < 5 ∧ p.place = .shaft k false ∧ p.route.sj = 11) ∧
    (∃ (s : State) (i : Nat) (p : Packet), s.gallery.packets[i]? = some p ∧ s.gallery.mayHop i p = true ∧ p.req.engine = none ∧ p.req.op < 5 ∧ p.place = .main ∧ p.route.mg < 4) ∧
    (∃ (s : State) (i : Nat) (p : Packet), s.gallery.packets[i]? = some p ∧ s.gallery.mayHop i p = true ∧ p.req.engine = none ∧ p.req.op < 5 ∧ p.place = .main ∧ 4 ≤ p.route.mg ∧ p.route.mg < 22 ∧ p.dst = 640 + p.route.mg) ∧
    (∃ (s : State) (i : Nat) (p : Packet) (n : _), s.gallery.packets[i]? = some p ∧ s.gallery.mayHop i p = true ∧ p.req.engine = none ∧ p.req.op < 5 ∧ p.place = .junction n ∧ p.route.sx % 16 = 0 ∧ p.route.sy % 32 = 0 ∧ p.route.dy = 0 ∧ p.dst = n) :=
  ⟨⟨State.reset, 0, by decide +kernel⟩,
   ⟨{ State.reset with gallery := { Gallery.cold with packets := [galPkt .main ⟨0, 0, 0, 2, 0, 0⟩ 0, galPkt .main ⟨0, 0, 0, 2, 0, 0⟩ 0] } }, 1, galPkt .main ⟨0, 0, 0, 2, 0, 0⟩ 0, by decide +kernel⟩,
   ⟨gal0 (.junction 639) ⟨0, 0, 0, 0, 0, 0⟩ 639, 0, galPkt (.junction 639) ⟨0, 0, 0, 0, 0, 0⟩ 639, by decide +kernel⟩,
   ⟨gal0 (.junction 638) ⟨1, 0, 0, 0, 0, 0⟩ 639, 0, galPkt (.junction 638) ⟨1, 0, 0, 0, 0, 0⟩ 639, 638, by decide +kernel⟩,
   ⟨gal0 (.junction 1) ⟨17, 0, 0, 0, 0, 0⟩ 0, 0, galPkt (.junction 1) ⟨17, 0, 0, 0, 0, 0⟩ 0, 1, by decide +kernel⟩,
   ⟨gal0 (.junction 487) ⟨16, 33, 11, 8, 0, 0⟩ 648, 0, galPkt (.junction 487) ⟨16, 33, 11, 8, 0, 0⟩ 648, 487, by decide +kernel⟩,
   ⟨gal0 (.junction 629) ⟨0, 0, 0, 0, 0, 1⟩ 639, 0, galPkt (.junction 629) ⟨0, 0, 0, 0, 0, 1⟩ 639, 629, by decide +kernel⟩,
   ⟨gal0 (.shaft 2 true) ⟨0, 0, 11, 2, 7, 11⟩ 437, 0, galPkt (.shaft 2 true) ⟨0, 0, 11, 2, 7, 11⟩ 437, 2, true, 7, by decide +kernel⟩,
   ⟨gal0 (.shaft 2 false) ⟨0, 0, 11, 8, 0, 0⟩ 648, 0, galPkt (.shaft 2 false) ⟨0, 0, 11, 8, 0, 0⟩ 648, 2, by decide +kernel⟩,
   ⟨gal0 .main ⟨0, 0, 0, 3, 9, 15⟩ 639, 0, galPkt .main ⟨0, 0, 0, 3, 9, 15⟩ 639, by decide +kernel⟩,
   ⟨gal0 .main ⟨0, 0, 0, 21, 0, 0⟩ 661, 0, galPkt .main ⟨0, 0, 0, 21, 0, 0⟩ 661, by decide +kernel⟩,
   ⟨gal0 (.junction 639) ⟨0, 0, 0, 0, 0, 0⟩ 639, 0, galPkt (.junction 639) ⟨0, 0, 0, 0, 0, 0⟩ 639, 639, by decide +kernel⟩⟩

/-- The hypotheses of each clause of `Obligations.GalleryHops` can be met (2). -/
theorem test_hyps_GalleryHops_2 :
    (∃ (s : State) (i : Nat) (p : Packet) (n : _) (k : _), s.gallery.packets[i]? = some p ∧ s.gallery.mayHop i p = true ∧ p.req.engine = none ∧ p.req.op < 5 ∧ ((p.route.move p.place = (.ni n, p.route) ∧ n ≠ p.dst ∧ k = 3) ∨ ((p.route.move p.place).1 = .off ∧ k = 2)) ∧ s.rd GL_ERR.VALID = 0) ∧
    (∃ (s : State) (i : Nat) (p : Packet), s.gallery.packets[i]? = some p ∧ s.gallery.mayHop i p = true ∧ p.req.engine = none ∧ p.req.op < 5 ∧ p.place = .main) ∧
    (∃ (s : State) (i : Nat) (p : Packet), s.gallery.packets[i]? = some p ∧ s.gallery.mayHop i p = true ∧ p.req.engine = none ∧ p.req.op < 5 ∧ p.place ≠ .main) ∧
    (∃ (s : State) (n : _) (g : _), n < 662 ∧ s.tagState n g = none) ∧
    (∃ (s : State) (n : _) (g : _), n < 662 ∧ s.tagState n g = some false) ∧
    (∃ (s : State) (n : _) (g : _), n < 662 ∧ s.tagState n g = some false ∧ s.gallery.held = [] ∧ (n < 653 ∨ n = 661)) ∧
    (∃ (s : State) (n : _) (g : _), n < 662 ∧ s.tagState n g = some true ∧ s.gallery.held = []) ∧
    (∃ (s : State) (n : _) (g : _), n < 662 ∧ s.tagState n g = some false ∧ (n < 653 ∨ n = 661)) ∧
    (∃ (s : State) (n : _) (g : _), n < 662 ∧ s.tagState n g = some true) ∧
    (∃ (s : State) (n : _) (g : _), n < 662 ∧ s.tagState n g = some true ∧ s.gallery.held = []) ∧
    (∃ (n : _) (d : _) (v : _), n < 662 ∧ d < 662 ∧ routeOk n d v = true) ∧
    (∃ (n : _) (d : _) (v : _), n < 662 ∧ d < 662 ∧ routeOk n d v = false) :=
  ⟨⟨gal0 (.junction 639) ⟨0, 0, 0, 0, 0, 0⟩ 638, 0, galPkt (.junction 639) ⟨0, 0, 0, 0, 0, 0⟩ 638, 639, 3, by decide +kernel⟩,
   ⟨gal0 .main ⟨0, 0, 0, 21, 0, 0⟩ 661, 0, galPkt .main ⟨0, 0, 0, 21, 0, 0⟩ 661, by decide +kernel⟩,
   ⟨gal0 (.junction 639) ⟨0, 0, 0, 0, 0, 0⟩ 638, 0, galPkt (.junction 639) ⟨0, 0, 0, 0, 0, 0⟩ 638, by decide +kernel⟩,
   ⟨State.reset, 661, 5, by decide +kernel⟩,
   ⟨gal0 .main ⟨0, 0, 0, 21, 0, 0⟩ 661, 661, 5, by decide +kernel⟩,
   ⟨gal0 .main ⟨0, 0, 0, 21, 0, 0⟩ 661, 661, 5, by decide +kernel⟩,
   ⟨gal0 .main ⟨0, 0, 0, 21, 0, 0⟩ 661, 661, 6, by decide +kernel⟩,
   ⟨gal0 .main ⟨0, 0, 0, 21, 0, 0⟩ 661, 661, 5, by decide +kernel⟩,
   ⟨gal0 .main ⟨0, 0, 0, 21, 0, 0⟩ 661, 661, 6, by decide +kernel⟩,
   ⟨gal0 .main ⟨0, 0, 0, 21, 0, 0⟩ 661, 661, 6, by decide +kernel⟩,
   ⟨437, 648, 0x8000000000045D80, by decide +kernel⟩,
   ⟨437, 648, 0x8000000000065D80, by decide +kernel⟩⟩

/-- The hypotheses of each clause of `Obligations.DramChannels` can be met (1). -/
theorem test_hyps_DramChannels :
    (∃ (s : State) (c : Nat), c < 8 ∧ (s.rd DC_STATUS.STATE c ≠ 0 ∨ s.rd PC_MAP.FINAL ≠ 0 ∨ s.ready 0 = false)) ∧
    (∃ (s : State) (c : Nat) (p : Population), c < 8 ∧ s.rd DC_STATUS.STATE c = 0 ∧ s.rd PC_MAP.FINAL = 0 ∧ s.ready 0 = true ∧ p.dimms = 0) ∧
    (∃ (s : State) (c : Nat) (p : Population), c < 8 ∧ s.rd DC_STATUS.STATE c = 0 ∧ s.rd PC_MAP.FINAL = 0 ∧ s.ready 0 = true ∧ p.dimms ≠ 0 ∧ p.supported = false) ∧
    (∃ (s : State) (c : Nat) (p : Population), c < 8 ∧ s.rd DC_STATUS.STATE c = 0 ∧ s.rd PC_MAP.FINAL = 0 ∧ s.ready 0 = true ∧ p.dimms ≠ 0 ∧ p.supported = true ∧ p.same = false) ∧
    (∃ (s : State) (c : Nat) (p : Population), c < 8 ∧ s.rd DC_STATUS.STATE c = 0 ∧ s.rd PC_MAP.FINAL = 0 ∧ s.ready 0 = true ∧ p.dimms ≠ 0 ∧ p.supported = true ∧ p.same = true ∧ (c, p.serials) ∈ s.fm.record.failed) ∧
    (∃ (s : State) (c : Nat) (p : Population), c < 8 ∧ s.rd DC_STATUS.STATE c = 0 ∧ s.rd PC_MAP.FINAL = 0 ∧ s.ready 0 = true ∧ p.dimms ≠ 0 ∧ p.supported = true ∧ p.same = true ∧ s.fm.record.failed = []) ∧
    (∃ (s : State) (c : Nat), c < 8 ∧ s.rd DC_STATUS.STATE c ≠ 1) ∧
    (∃ (s : State) (c : Nat), c < 8 ∧ s.rd DC_STATUS.STATE c = 1 ∧ s.rd DC_TRAIN.STORED_TRIED c ≠ 0) ∧
    (∃ (s : State) (c : Nat), c < 8 ∧ s.rd DC_STATUS.STATE c = 1 ∧ s.rd DC_TRAIN.STORED_TRIED c = 0) ∧
    (∃ (s : State) (c : Nat), c < 8 ∧ s.rd DC_STATUS.STATE c = 1 ∧ s.rd DC_TRAIN.STORED_TRIED c = 0 ∧ s.dram.queue = [] ∧ s.dram.combiner = []) ∧
    (∃ (s : State) (c : Nat), c < 8 ∧ (s.rd PC_MAP.FINAL ≠ 0 ∨ s.stepEnded (7 + c) = false)) ∧
    (∃ (s : State) (c : Nat) (sz : _), c < 8 ∧ s.rd PC_MAP.FINAL = 0 ∧ (∀ k, k < 8 → s.stepEnded (7 + k) = true) ∧ sz = 720 + s.rd PC_PLAN0.STORE + s.rd PC_PLAN0.PJ_RING + s.rd PC_PLAN0.STAMP + s.rd PC_PLAN0.LOG + s.rd PC_PLAN1.SPILL + s.rd PC_PLAN1.TRACE ∧ sz + 512 ≤ s.rd PC_MAP.TOP_GIB * 512 ∧ s.rd PC_MAP.TOP_GIB ≤ 1024) :=
  ⟨⟨chan0 1 [], 7, by decide +kernel⟩,
   ⟨chan0 0 [], 7, ⟨0, true, true, [], 0, 0, 0, 0⟩, by decide +kernel⟩,
   ⟨chan0 0 [], 7, ⟨1, false, true, [], 0, 0, 0, 0⟩, by decide +kernel⟩,
   ⟨chan0 0 [], 7, ⟨1, true, false, [], 0, 0, 0, 0⟩, by decide +kernel⟩,
   ⟨{ chan0 0 [] with fm := { Foreman.cold with record := { Foreman.cold.record with failed := [(7, [9])] } } }, 7, popn0, by decide +kernel⟩,
   ⟨{ chan0 0 [] with fm := { Foreman.cold with record := { Foreman.cold.record with failed := [], trained := [(7, [9], 5)] } } }, 7, popn0, by decide +kernel⟩,
   ⟨chan0 2 [], 7, by decide +kernel⟩,
   ⟨chan0 1 [(DC_TRAIN.STORED_TRIED.key 7, 1)], 7, by decide +kernel⟩,
   ⟨chan0 1 [], 7, by decide +kernel⟩,
   ⟨{ chan0 1 [(PC_MAP.SET.key, 128)] with mem := [(5, 1), (2 ^ 40, 1)], dram := { Dram.cold with pages := [(0, ⟨true, [], true⟩)] } }, 7, by decide +kernel⟩,
   ⟨chan0 0 [(PC_MAP.FINAL.key, 1)], 7, by decide +kernel⟩,
   ⟨chan0 2 [(PC_MAP.TOP_GIB.key, 16)], 7, 4592, by decide +kernel⟩⟩

/-- The hypotheses of each clause of `Obligations.DramChannels` can be met (2). -/
theorem test_hyps_DramChannels_2 :
    (∃ (s : State) (c : Nat), c < 8 ∧ s.rd PC_MAP.FINAL = 0 ∧ (∀ k, k < 8 → s.stepEnded (7 + k) = true) ∧ s.rd PC_MAP.TOP_GIB * 512 < 720 + 512) ∧
    (∃ (s : State) (c : Nat), c < 8 ∧ (s.rd WD_STATUS.STATE ≠ 0 ∨ s.rd CF_LD_STATUS.STATE ≠ 0 ∨ s.rd QU_STATUS.STATE c ≠ 0 ∨ s.rd WD_SMP_CTRL.LOG_EN ≠ 0 ∨ s.rd WD_SMP_CTRL.PJ_EN ≠ 0 ∨ s.rd LP_TRACE_CTRL.RING_EN ≠ 0)) ∧
    (∃ (s : State) (c : Nat) (sz : _), c < 8 ∧ s.rd WD_STATUS.STATE = 0 ∧ s.rd CF_LD_STATUS.STATE = 0 ∧ (List.range 4096).all (fun q => s.rd QU_STATUS.STATE q == 0) = true ∧ s.rd WD_SMP_CTRL.LOG_EN = 0 ∧ s.rd WD_SMP_CTRL.PJ_EN = 0 ∧ s.rd LP_TRACE_CTRL.RING_EN = 0 ∧ sz = 720 + s.rd PC_PLAN0.STORE + s.rd PC_PLAN0.PJ_RING + s.rd PC_PLAN0.STAMP + s.rd PC_PLAN0.LOG + s.rd PC_PLAN1.SPILL + s.rd PC_PLAN1.TRACE ∧ sz + 512 ≤ s.rd PC_MAP.TOP_GIB * 512 ∧ s.rd PC_MAP.TOP_GIB ≤ 1024) ∧
    (∃ (s : State) (c : Nat) (k : _) (owed : _), c < 8 ∧ k < 4 ∧ owed = Tab.get 0 s.dram.owed (4 * c + k) ∧ owed < s.rd DC_SCHED.REF_POSTPONE c) ∧
    (∃ (s : State) (c : Nat) (k : _) (owed : _), c < 8 ∧ k < 4 ∧ owed = Tab.get 0 s.dram.owed (4 * c + k) ∧ s.rd DC_SCHED.REF_POSTPONE c ≤ owed) ∧
    (∃ (s : State) (c : Nat) (k : _) (owed : _), c < 8 ∧ k < 4 ∧ owed = Tab.get 0 s.dram.owed (4 * c + k) ∧ owed = 0 ∧ s.dram.queue = []) ∧
    (∃ (s : State) (c : Nat) (k : _) (owed : _), c < 8 ∧ k < 4 ∧ owed = Tab.get 0 s.dram.owed (4 * c + k) ∧ owed ≠ 0 ∧ s.dram.queue = []) ∧
    (∃ (s : State) (c : Nat) (p : _), c < 8 ∧ (p ∉ s.dram.writebacks ∨ s.halted = true)) ∧
    (∃ (s : State) (c : Nat) (p : _), c < 8 ∧ p ∈ s.dram.writebacks ∧ s.halted = false) ∧
    (∃ (s : State) (c : Nat) (b : _), c < 8 ∧ s.dram.fills.any (fun f => decide (f.chan = c ∧ f.block = b)) = false) ∧
    (∃ (s : State) (c : Nat) (b : _), c < 8 ∧ b < 2 ^ 21 ∧ s.dram.fills.any (fun f => decide (f.chan = c ∧ f.block = b)) = true ∧ s.halted = false ∧ s.dram.trackerWait = []) ∧
    (∃ (c : Nat), c < 8) :=
  ⟨⟨chan0 2 [(PC_MAP.TOP_GIB.key, 2)], 7, by decide +kernel⟩,
   ⟨chan0 2 [(WD_STATUS.STATE.key, 1)], 7, by decide +kernel⟩,
   ⟨chan0 2 [(PC_MAP.TOP_GIB.key, 16), (PC_MAP.FINAL.key, 1)], 7, 4592, by decide +kernel⟩,
   ⟨{ State.reset with dram := { Dram.cold with owed := [(31, 7)] } }, 7, 3, 7, by decide +kernel⟩,
   ⟨{ State.reset with dram := { Dram.cold with owed := [(31, 8)] } }, 7, 3, 8, by decide +kernel⟩,
   ⟨State.reset, 7, 3, 0, by decide +kernel⟩,
   ⟨{ State.reset with dram := { Dram.cold with owed := [(31, 8)] } }, 7, 3, 8, by decide +kernel⟩,
   ⟨State.reset, 7, 0, by decide +kernel⟩,
   ⟨{ dramLive ⟨true, [(1, 1)], true⟩ with dram := { Dram.cold with pages := [(0, ⟨true, [(1, 1)], true⟩)], writebacks := [0] } }, 7, 0, by decide +kernel⟩,
   ⟨State.reset, 7, 0, by decide +kernel⟩,
   ⟨{ State.reset with dram := { Dram.cold with fills := [⟨7, 2 ^ 21 - 1, []⟩] } }, 7, 2 ^ 21 - 1, by decide +kernel⟩,
   ⟨7, by decide +kernel⟩⟩

/-- The hypotheses of each clause of `Obligations.DramChannels` can be met (3). -/
theorem test_hyps_DramChannels_3 :
    (∃ (c : Nat), c < 8) :=
  ⟨7, by decide +kernel⟩

/-- The hypotheses of each clause of `Obligations.DramAccesses` can be met (1). -/
theorem test_hyps_DramAccesses :
    (∃ (s : State) (r : DramReq) (c : Nat) (page : Nat), r.addr < 2 ^ 40 ∧ c = (s.dramPlace r.addr).1 ∧ page = r.addr / 128 ∧ s.halted = true) ∧
    (∃ (s : State) (r : DramReq) (c : Nat) (page : Nat), r.addr < 2 ^ 40 ∧ c = (s.dramPlace r.addr).1 ∧ page = r.addr / 128 ∧ s.halted = false ∧ (r.len = 0 ∨ 64 < r.addr % 64 + r.len)) ∧
    (∃ (s : State) (r : DramReq) (c : Nat) (page : Nat), r.addr < 2 ^ 40 ∧ c = (s.dramPlace r.addr).1 ∧ page = r.addr / 128 ∧ s.halted = false ∧ 0 < r.len ∧ r.addr % 64 + r.len ≤ 64 ∧ s.ready (2 + c) = false ∧ r.foreman = false) ∧
    (∃ (s : State) (r : DramReq) (c : Nat) (page : Nat), r.addr < 2 ^ 40 ∧ c = (s.dramPlace r.addr).1 ∧ page = r.addr / 128 ∧ s.halted = false ∧ 0 < r.len ∧ r.addr % 64 + r.len ≤ 64 ∧ s.ready (2 + c) = true ∧ s.rd PC_MAP.TOP_GIB * 2 ^ 30 ≤ r.addr) ∧
    (∃ (s : State) (r : DramReq) (c : Nat) (page : Nat), r.addr < 2 ^ 40 ∧ c = (s.dramPlace r.addr).1 ∧ page = r.addr / 128 ∧ s.halted = false ∧ 0 < r.len ∧ r.addr % 64 + r.len ≤ 64 ∧ s.ready (2 + c) = true ∧ r.addr < s.rd PC_MAP.TOP_GIB * 2 ^ 30 ∧ (s.rangeHolds r.addr = true ∨ s.restoreHolds r.addr = true)) ∧
    (∃ (s : State) (r : DramReq) (c : Nat) (page : Nat), r.addr < 2 ^ 40 ∧ c = (s.dramPlace r.addr).1 ∧ page = r.addr / 128 ∧ s.halted = false ∧ 0 < r.len ∧ r.addr % 64 + r.len ≤ 64 ∧ s.ready (2 + c) = true ∧ r.addr < s.rd PC_MAP.TOP_GIB * 2 ^ 30 ∧ s.rangeHolds r.addr = false ∧ s.restoreHolds r.addr = false ∧ s.inTree r.addr = true) ∧
    (∃ (s : State) (r : DramReq) (v : DramView) (c : Nat) (page : Nat), r.addr < 2 ^ 40 ∧ c = (s.dramPlace r.addr).1 ∧ page = r.addr / 128 ∧ s.halted = false ∧ 0 < r.len ∧ r.addr % 64 + r.len ≤ 64 ∧ s.ready (2 + c) = true ∧ r.addr < s.rd PC_MAP.TOP_GIB * 2 ^ 30 ∧ s.rangeHolds r.addr = false ∧ s.restoreHolds r.addr = false ∧ s.inTree r.addr = false ∧ s.dram.queue = [] ∧ v.busy = true) ∧
    (∃ (s : State) (r : DramReq) (v : DramView) (c : Nat) (page : Nat), r.addr < 2 ^ 40 ∧ c = (s.dramPlace r.addr).1 ∧ page = r.addr / 128 ∧ s.halted = false ∧ 0 < r.len ∧ r.addr % 64 + r.len ≤ 64 ∧ s.ready (2 + c) = true ∧ r.addr < s.rd PC_MAP.TOP_GIB * 2 ^ 30 ∧ s.rangeHolds r.addr = false ∧ s.restoreHolds r.addr = false ∧ s.inTree r.addr = false ∧ s.dram.queue = [] ∧ v.busy = false ∧ s.dram.combiner = [] ∧ s.protectedBy (page * 128) = none ∧ s.decodePage page v = .clean ∧ v.tampered = false ∧ (s.page page).poison = false) ∧
    (∃ (s : State) (r : DramReq) (v : DramView) (c : Nat) (page : Nat) (e : _), r.addr < 2 ^ 40 ∧ c = (s.dramPlace r.addr).1 ∧ page = r.addr / 128 ∧ s.halted = false ∧ 0 < r.len ∧ r.addr % 64 + r.len ≤ 64 ∧ s.ready (2 + c) = true ∧ r.addr < s.rd PC_MAP.TOP_GIB * 2 ^ 30 ∧ s.rangeHolds r.addr = false ∧ s.restoreHolds r.addr = false ∧ s.inTree r.addr = false ∧ s.dram.queue = [] ∧ v.busy = false ∧ s.dram.combiner = [] ∧ s.protectedBy (page * 128) = none ∧ s.decodePage page v = .corrected e ∧ v.tampered = false ∧ (s.page page).poison = false) ∧
    (∃ (s : State) (r : DramReq) (v : DramView) (c : Nat) (page : Nat) (e : _), r.addr < 2 ^ 40 ∧ c = (s.dramPlace r.addr).1 ∧ page = r.addr / 128 ∧ s.halted = false ∧ 0 < r.len ∧ r.addr % 64 + r.len ≤ 64 ∧ s.ready (2 + c) = true ∧ r.addr < s.rd PC_MAP.TOP_GIB * 2 ^ 30 ∧ s.rangeHolds r.addr = false ∧ s.restoreHolds r.addr = false ∧ s.inTree r.addr = false ∧ s.dram.queue = [] ∧ v.busy = false ∧ s.dram.combiner = [] ∧ s.protectedBy (page * 128) = none ∧ s.decodePage page v = .uncorrectable e) ∧
    (∃ (s : State) (r : DramReq) (v : DramView) (c : Nat) (page : Nat), r.addr < 2 ^ 40 ∧ c = (s.dramPlace r.addr).1 ∧ page = r.addr / 128 ∧ s.halted = false ∧ 0 < r.len ∧ r.addr % 64 + r.len ≤ 64 ∧ s.ready (2 + c) = true ∧ r.addr < s.rd PC_MAP.TOP_GIB * 2 ^ 30 ∧ s.rangeHolds r.addr = false ∧ s.restoreHolds r.addr = false ∧ s.inTree r.addr = false ∧ s.dram.queue = [] ∧ v.busy = false ∧ s.dram.combiner = [] ∧ s.protectedBy (page * 128) = none ∧ s.tagFails page v = true) ∧
    (∃ (s : State) (r : DramReq) (v : DramView) (c : Nat) (page : Nat), r.addr < 2 ^ 40 ∧ c = (s.dramPlace r.addr).1 ∧ page = r.addr / 128 ∧ s.halted = false ∧ 0 < r.data.length ∧ r.addr % 64 + r.data.length ≤ 64 ∧ s.ready (2 + c) = true ∧ r.addr < s.rd PC_MAP.TOP_GIB * 2 ^ 30 ∧ s.rangeHolds r.addr = false ∧ s.restoreHolds r.addr = false ∧ s.inTree r.addr = false ∧ s.dram.queue = [] ∧ v.busy = false ∧ s.dram.combiner = [] ∧ s.protectedBy (page * 128) = none ∧ s.rd WD_SMP_CTRL.PJ_EN = 0 ∧ s.rd DC_FLIP_CTRL.ARM c = 0 ∧ s.decodePage page v = .clean ∧ v.tampered = false ∧ (s.page page).poison = false ∧ s.rd DC_SCHED.WC_EN c = 0) :=
  ⟨⟨dram0 1 [(EN_STATUS.HALTED.key, 1)], rreq 8, 7, 0, by decide +kernel⟩,
   ⟨dram0 1 [], rreq 60, 7, 0, by decide +kernel⟩,
   ⟨State.reset, rreq 56, 0, 0, by decide +kernel⟩,
   ⟨dram0 1 [], rreq (2 ^ 30), 7, 2 ^ 23, by decide +kernel⟩,
   ⟨{ dram0 1 [(EN_RANGE_BASE.LEN.key 0 15, 1)] with crypto := { Crypto.cold with enabling := [15] } }, rreq 8, 7, 0, by decide +kernel⟩,
   ⟨dram0 1 [(EN_RANGE_TREE.LEN.key 0 15, 1), (EN_RANGE_CTRL.STATE.key 0 15, 1)], rreq 8, 7, 0, by decide +kernel⟩,
   ⟨dram0 0 [], rreq 56, { clean0 with busy := true }, 7, 0, by decide +kernel⟩,
   ⟨dramLive ⟨false, [], true⟩, rreq 56, clean0, 7, 0, by decide +kernel⟩,
   ⟨dramLive ⟨false, [(1, 1), (2, 1)], true⟩, rreq 56, clean0, 7, 0, [(1, 1), (2, 1)], by decide +kernel⟩,
   ⟨dramLive ⟨false, [], true⟩, rreq 0, ⟨[], true, false, false, false, 0⟩, 7, 0, [], by decide +kernel⟩,
   ⟨dramLive ⟨false, [], true⟩, rreq 0, ⟨[], false, false, true, false, 0⟩, 7, 0, by decide +kernel⟩,
   ⟨dram0 0 [], wreq 63 1, clean0, 7, 0, by decide +kernel⟩⟩

/-- The hypotheses of each clause of `Obligations.DramAccesses` can be met (2). -/
theorem test_hyps_DramAccesses_2 :
    (∃ (s : State) (r : DramReq) (v : DramView) (c : Nat) (page : Nat), r.addr < 2 ^ 40 ∧ c = (s.dramPlace r.addr).1 ∧ page = r.addr / 128 ∧ s.halted = false ∧ 0 < r.data.length ∧ r.addr % 64 + r.data.length ≤ 64 ∧ s.ready (2 + c) = true ∧ r.addr < s.rd PC_MAP.TOP_GIB * 2 ^ 30 ∧ s.rangeHolds r.addr = false ∧ s.restoreHolds r.addr = false ∧ s.inTree r.addr = false ∧ s.dram.queue = [] ∧ v.busy = false ∧ s.dram.combiner = [] ∧ s.protectedBy (page * 128) = none ∧ s.rd WD_SMP_CTRL.PJ_EN = 0 ∧ s.rd DC_FLIP_CTRL.ARM c = 0 ∧ s.rd DC_SCHED.WC_EN c ≠ 0 ∧ r.data.length = 64 ∧ r.addr % 64 = 0 ∧ r.be % 2 ^ 64 = 2 ^ 64 - 1) ∧
    (∃ (s : State) (r : DramReq) (v : DramView) (c : Nat) (page : Nat) (h : DramReq), r.addr < 2 ^ 40 ∧ c = (s.dramPlace r.addr).1 ∧ page = r.addr / 128 ∧ s.halted = false ∧ r.data.length = 64 ∧ r.addr % 128 = 64 ∧ r.be = 2 ^ 64 - 1 ∧ s.ready (2 + c) = true ∧ r.addr < s.rd PC_MAP.TOP_GIB * 2 ^ 30 ∧ s.rangeHolds r.addr = false ∧ s.restoreHolds r.addr = false ∧ s.inTree r.addr = false ∧ s.dram.queue = [] ∧ v.busy = false ∧ s.rd DC_SCHED.WC_EN c ≠ 0 ∧ s.protectedBy (page * 128) = none ∧ s.rd WD_SMP_CTRL.PJ_EN = 0 ∧ s.rd DC_FLIP_CTRL.ARM c = 0 ∧ s.dram.combiner = [⟨c, h⟩] ∧ h.addr + 64 = r.addr ∧ h.src = r.src ∧ h.data.length = 64 ∧ h.posted = false ∧ r.posted = false) ∧
    (∃ (s : State) (r : DramReq) (v : DramView) (c : Nat) (page : Nat) (h : DramReq), r.addr < 2 ^ 40 ∧ c = (s.dramPlace r.addr).1 ∧ page = r.addr / 128 ∧ c < 8 ∧ s.halted = false ∧ s.dram.combiner = [⟨c, h⟩] ∧ h.addr / 128 = page ∧ h.data.length = 64 ∧ h.addr % 64 = 0 ∧ h.be = 2 ^ 64 - 1 ∧ h.posted = false ∧ (s.pagePlace page).1 = c ∧ s.protectedBy (page * 128) = none ∧ s.rd WD_SMP_CTRL.PJ_EN = 0 ∧ s.rd DC_FLIP_CTRL.ARM c = 0 ∧ s.decodePage page v = .clean ∧ v.tampered = false ∧ (s.page page).poison = false) ∧
    (∃ (s : State) (r : DramReq) (c : Nat) (page : Nat), r.addr < 2 ^ 40 ∧ c = (s.dramPlace r.addr).1 ∧ page = r.addr / 128 ∧ c < 8 ∧ s.dram.combiner = []) :=
  ⟨⟨dram0 1 [], wreq 64 64, clean0, 7, 0, by decide +kernel⟩,
   ⟨{ dram0 1 [] with dram := { Dram.cold with combiner := [⟨7, wreq 0 64⟩] } }, wreq 64 64, clean0, 7, 0, wreq 0 64, by decide +kernel⟩,
   ⟨{ dram0 1 [] with dram := { Dram.cold with combiner := [⟨7, wreq 0 64⟩] } }, rreq 0, clean0, 7, 0, wreq 0 64, by decide +kernel⟩,
   ⟨dram0 1 [], rreq 0, 7, 0, by decide +kernel⟩⟩

/-- The hypotheses of each clause of `Obligations.ProtectedRanges` can be met (1). -/
theorem test_hyps_ProtectedRanges :
    (∃ (s : State) (k : Nat), k < 16 ∧ (s.rangeState k ≠ 0 ∨ k ∈ s.crypto.enabling ∨ s.crypto.slots.any (fun p => decide (p.1 = k)) = false ∨ s.rd PC_MAP.FINAL = 0 ∨ s.rd EN_RANGE_BASE.LEN 0 k = 0 ∨ 524288 < s.rd EN_RANGE_BASE.LEN 0 k ∨ s.rd EN_RANGE_TREE.LEN 0 k = 0 ∨ 524288 < s.rd EN_RANGE_TREE.LEN 0 k ∨ s.rd PC_AREA.BASE < s.rd EN_RANGE_BASE.BASE 0 k + s.rd EN_RANGE_BASE.LEN 0 k ∨ s.rd PC_AREA.BASE < s.rd EN_RANGE_TREE.BASE 0 k + s.rd EN_RANGE_TREE.LEN 0 k ∨ spansMeet (s.rangeSpan k) (s.treeSpan k) = true ∨ (∃ j, j < 16 ∧ j ≠ k ∧ s.rangeState j ≠ 0 ∧ (spansMeet (s.rangeSpan k) (s.rangeSpan j) = true ∨ spansMeet (s.rangeSpan k) (s.treeSpan j) = true ∨ spansMeet (s.treeSpan k) (s.rangeSpan j) = true ∨ spansMeet (s.treeSpan k) (s.treeSpan j) = true)) ∨ s.rd EN_RANGE_TREE.LEN 0 k * 2 ^ 21 < treeBytes (s.rd EN_RANGE_BASE.LEN 0 k * 2 ^ 14))) ∧
    (∃ (s : State) (k : Nat), k < 16 ∧ s.rangeOk k = true ∧ s.halted = false ∧ s.dram.queue = []) ∧
    (∃ (s : State) (k : Nat), k < 16 ∧ k ∉ s.crypto.enabling) ∧
    (∃ (s : State) (k : Nat), k < 16 ∧ k ∈ s.crypto.enabling ∧ s.dram.heldReqs = [] ∧ s.rd EN_RANGE_CTRL.STATE 0 k = 0) ∧
    (∃ (s : State) (k : Nat), k < 16 ∧ (s.rangeState k = 0 ∨ s.rangeState k = 2 ∨ s.halted = true)) ∧
    (∃ (s : State) (k : Nat), k < 16 ∧ (s.rangeState k = 1 ∨ s.rangeState k = 3) ∧ s.halted = false ∧ s.dram.queue = [] ∧ s.dram.combiner = []) ∧
    (∃ (s : State) (k : Nat), k < 16 ∧ s.rangeState k ≠ 2) ∧
    (∃ (s : State) (k : Nat), k < 16 ∧ s.rangeState k = 2 ∧ s.crypto.waiting = [] ∧ s.dram.heldReqs = []) ∧
    (∃ (s : State) (k : Nat) (r : DramReq) (v : DramView) (c : _) (page : _) (i : _), k < 16 ∧ c = (s.dramPlace r.addr).1 ∧ page = r.addr / 128 ∧ i = s.rangePage k page ∧ r.addr < 2 ^ 40 ∧ s.halted = false ∧ 0 < r.len ∧ r.addr % 64 + r.len ≤ 64 ∧ s.ready (2 + c) = true ∧ r.addr < s.rd PC_MAP.TOP_GIB * 2 ^ 30 ∧ s.rangeHolds r.addr = false ∧ s.restoreHolds r.addr = false ∧ s.inTree r.addr = false ∧ s.dram.queue = [] ∧ v.busy = false ∧ s.dram.combiner = [] ∧ s.protectedBy (page * 128) = some k ∧ s.pageFaulted page = false ∧ s.crypto.waiting = [] ∧ s.nodeHeld k 1 (i / 8) = false) ∧
    (∃ (s : State) (k : Nat) (r : DramReq) (v : DramView) (c : _) (page : _) (i : _), k < 16 ∧ c = (s.dramPlace r.addr).1 ∧ page = r.addr / 128 ∧ i = s.rangePage k page ∧ r.addr < 2 ^ 40 ∧ s.halted = false ∧ 0 < r.len ∧ r.addr % 64 + r.len ≤ 64 ∧ s.ready (2 + c) = true ∧ r.addr < s.rd PC_MAP.TOP_GIB * 2 ^ 30 ∧ s.rangeHolds r.addr = false ∧ s.restoreHolds r.addr = false ∧ s.inTree r.addr = false ∧ s.dram.queue = [] ∧ v.busy = false ∧ s.dram.combiner = [] ∧ s.protectedBy (page * 128) = some k ∧ s.pageFaulted page = false ∧ s.crypto.waiting = [] ∧ s.nodeHeld k 1 (i / 8) = true ∧ s.decodePage page v = .clean ∧ v.tampered = false ∧ (s.page page).poison = false) ∧
    (∃ (s : State) (k : Nat) (r : DramReq) (v : DramView) (c : _) (page : _) (i : _), k < 16 ∧ c = (s.dramPlace r.addr).1 ∧ page = r.addr / 128 ∧ i = s.rangePage k page ∧ r.addr < 2 ^ 40 ∧ s.halted = false ∧ 0 < r.len ∧ r.addr % 64 + r.len ≤ 64 ∧ s.ready (2 + c) = true ∧ r.addr < s.rd PC_MAP.TOP_GIB * 2 ^ 30 ∧ s.rangeHolds r.addr = false ∧ s.restoreHolds r.addr = false ∧ s.inTree r.addr = false ∧ s.dram.queue = [] ∧ v.busy = false ∧ s.dram.combiner = [] ∧ s.protectedBy (page * 128) = some k ∧ s.pageFaulted page = false ∧ s.crypto.waiting = [] ∧ s.nodeHeld k 1 (i / 8) = true ∧ r.data.length = r.len ∧ s.rd DC_SCHED.WC_EN c = 0 ∧ s.decodePage page v = .clean ∧ v.tampered = false ∧ (s.page page).poison = false ∧ s.rd WD_SMP_CTRL.PJ_EN = 0 ∧ s.rd DC_FLIP_CTRL.ARM c = 0 ∧ s.counter k 0 i < 2 ^ 64 - 1) ∧
    (∃ (s : State) (k : Nat) (r : DramReq) (v : DramView) (c : _) (page : _) (i : _), k < 16 ∧ c = (s.dramPlace r.addr).1 ∧ page = r.addr / 128 ∧ i = s.rangePage k page ∧ r.addr < 2 ^ 40 ∧ s.halted = false ∧ 0 < r.len ∧ r.addr % 64 + r.len ≤ 64 ∧ s.ready (2 + c) = true ∧ r.addr < s.rd PC_MAP.TOP_GIB * 2 ^ 30 ∧ s.rangeHolds r.addr = false ∧ s.restoreHolds r.addr = false ∧ s.inTree r.addr = false ∧ s.dram.queue = [] ∧ v.busy = false ∧ s.dram.combiner = [] ∧ s.protectedBy (page * 128) = some k ∧ s.pageFaulted page = false ∧ s.crypto.waiting = [] ∧ s.nodeHeld k 1 (i / 8) = true ∧ r.data.length = r.len ∧ s.rd DC_SCHED.WC_EN c = 0 ∧ s.decodePage page v = .clean ∧ v.tampered = false ∧ (s.page page).poison = false ∧ s.rd WD_SMP_CTRL.PJ_EN = 0 ∧ s.rd DC_FLIP_CTRL.ARM c = 0 ∧ s.counter k 0 i = 2 ^ 64 - 1 ∧ r.posted = false) :=
  ⟨⟨State.reset, 15, by decide +kernel, by first | decide +kernel | rfl | exact Or.inl ⟨rfl, rfl⟩⟩,
   ⟨range0 0 [] (leaf0 1), 15, by decide +kernel⟩,
   ⟨State.reset, 15, by decide +kernel⟩,
   ⟨{ range0 0 [] { leaf0 1 with enabling := [15] } with mem := [(2 ^ 21 - 1, 7)] }, 15, by decide +kernel⟩,
   ⟨State.reset, 15, by decide +kernel⟩,
   ⟨range0 3 [] (leaf0 1), 15, by decide +kernel⟩,
   ⟨range0 3 [] (leaf0 1), 15, by decide +kernel⟩,
   ⟨range0 2 [(EN_FAULT.VALID.key 0 63, 1), (EN_FAULT.KEY_ID.key 0 63, 15)] (leaf0 1), 15, by decide +kernel⟩,
   ⟨range0 1 [] { leaf0 1 with cache := [] }, 15, rrq15 8, clean15, 7, 0, 0, by decide +kernel⟩,
   ⟨range0 1 [] (leaf0 1), 15, rrq15 8, clean15, 7, 0, 0, by decide +kernel⟩,
   ⟨range0 1 [] (leaf0 (2 ^ 64 - 2)), 15, wrq15 60 4, clean15, 7, 0, 0, by decide +kernel⟩,
   ⟨range0 1 [] (leaf0 (2 ^ 64 - 1)), 15, wrq15 60 4, clean15, 7, 0, 0, by decide +kernel⟩⟩

/-- The hypotheses of each clause of `Obligations.ProtectedRanges` can be met (2). -/
theorem test_hyps_ProtectedRanges_2 :
    (∃ (s : State) (k : Nat), k < 16 ∧ s.crypto.waiting = []) ∧
    (∃ (s : State) (k : Nat) (w : CounterWait) (v : DramView) (page : _) (l : _) (i : _) (a : _), k < 16 ∧ s.crypto.waiting = [w] ∧ page = pageOf w.req ∧ s.protectedBy (page * 128) = some k ∧ s.nextNode k page = some (l, i) ∧ a = s.nodeAddr k l i ∧ s.halted = false ∧ s.tagFails (a / 128) v = true) ∧
    (∃ (s : State) (k : Nat) (w : CounterWait) (v : DramView) (page : _) (l : _) (i : _) (a : _) (e : _), k < 16 ∧ s.crypto.waiting = [w] ∧ page = pageOf w.req ∧ s.protectedBy (page * 128) = some k ∧ s.nextNode k page = some (l, i) ∧ a = s.nodeAddr k l i ∧ s.halted = false ∧ s.decodePage (a / 128) v = .uncorrectable e ∧ s.rd EN_FAULT.VALID = 0 ∧ l < 16 ∧ i < 2 ^ 30) ∧
    (∃ (s : State) (k : Nat) (w : CounterWait) (v : DramView) (page : _) (l : _) (i : _) (a : _), k < 16 ∧ s.crypto.waiting = [w] ∧ page = pageOf w.req ∧ s.protectedBy (page * 128) = some k ∧ s.nextNode k page = some (l, i) ∧ a = s.nodeAddr k l i ∧ s.halted = false ∧ s.decodePage (a / 128) v = .clean ∧ v.tampered = false ∧ s.crypto.cache = [] ∧ s.pageFaulted page = false ∧ 1 < l) :=
  ⟨⟨State.reset, 0, by decide +kernel⟩,
   ⟨{ range0 1 [] { leaf0 1 with cache := [], waiting := [⟨rrq15 8, clean15⟩] } with dram := { Dram.cold with live := [(7 * 2 ^ 21, true), (7 * 2 ^ 21 + 1, true), (7 * 2 ^ 21 + 32, true), (7 * 2 ^ 21 + 36, true)] } }, 15, ⟨rrq15 8, clean15⟩, ⟨[], false, false, true, false, 0⟩, 0, 4, 0, 2 ^ 21 + 128 * 2336, by decide +kernel⟩,
   ⟨{ range0 1 [] { leaf0 1 with cache := [], waiting := [⟨rrq15 8, clean15⟩] } with dram := { Dram.cold with live := [(7 * 2 ^ 21 + 36, true)] } }, 15, ⟨rrq15 8, clean15⟩, ⟨[], true, false, false, false, 0⟩, 0, 4, 0, 2 ^ 21 + 128 * 2336, [], by decide +kernel⟩,
   ⟨range0 1 [] { leaf0 1 with cache := [], waiting := [⟨rrq15 8, clean15⟩] }, 15, ⟨rrq15 8, clean15⟩, clean15, 0, 4, 0, 2 ^ 21 + 128 * 2336, by decide +kernel⟩⟩

/-- The hypotheses of each clause of `Obligations.CrewMemories` can be met (1). -/
theorem test_hyps_CrewMemories :
    (∃ (s : State) (t : State) (g : Nat) (z : Nat) (n : Nat) (i : Nat), (z = 1 ∨ z = 2 ∨ z = 4 ∨ z = 8) ∧ g % z = 0 ∧ t = s.engStore g z n 0 ∧ s.wordErr g = 0 ∧ i < z) ∧
    (∃ (s : State) (t : State) (g : Nat) (z : Nat) (n : Nat) (h : Nat), (z = 1 ∨ z = 2 ∨ z = 4 ∨ z = 8) ∧ g % z = 0 ∧ t = s.engStore g z n 0 ∧ s.wordErr g = 0 ∧ (h < g ∨ g + z ≤ h)) ∧
    (∃ (s : State) (t : State) (g : Nat) (z : Nat) (n : Nat), (z = 1 ∨ z = 2 ∨ z = 4 ∨ z = 8) ∧ g % z = 0 ∧ t = s.engStore g z n 0 ∧ s.wordErr g = 0) ∧
    (∃ (s : State) (t : State) (g : Nat) (z : Nat) (n : Nat) (e : Nat), (z = 1 ∨ z = 2 ∨ z = 4 ∨ z = 8) ∧ g % z = 0 ∧ t = s.engStore g z n 0 ∧ s.wordErr g = 0 ∧ e < 64) ∧
    (∃ (s : State) (t : State) (g : Nat) (z : Nat) (n : Nat), (z = 1 ∨ z = 2 ∨ z = 4 ∨ z = 8) ∧ g % z = 0 ∧ t = s.engStore g z n 0 ∧ s.wordErr g = 0) ∧
    (∃ (s : State) (t : State) (g : Nat) (z : Nat) (n : Nat), (z = 1 ∨ z = 2 ∨ z = 4 ∨ z = 8) ∧ g % z = 0 ∧ t = s.engStore g z n 0 ∧ s.wordErr g = 2 ∧ z = 8) ∧
    (∃ (s : State) (t : State) (g : Nat) (z : Nat) (n : Nat), (z = 1 ∨ z = 2 ∨ z = 4 ∨ z = 8) ∧ g % z = 0 ∧ t = s.engStore g z n 0 ∧ s.wordErr g = 2 ∧ z ≠ 8) ∧
    (∃ (s : State) (u : State) (a : GalAccess) (c : Nat) (ni : Nat), a.addr % a.size = 0 ∧ ni = 653 + c ∧ ((c < 8 ∧ 0x010004000000 + c * 0x200000 ≤ a.addr ∧ a.addr < 0x010004000000 + (c + 1) * 0x200000 ∧ a.size ∈ [1, 2, 4, 8] ∧ u = s.ungate 1 (c * 16 + a.addr / 8 % 16)) ∨ (c < 8 ∧ 0x010005000000 + c * 0x200000 ≤ a.addr ∧ a.addr < 0x010005000000 + (c + 1) * 0x200000 ∧ a.addr % 0x40000 < 0x20000 ∧ a.size ∈ [4, 8] ∧ s.rd TR_STATUS.STATE ((a.addr - 0x010005000000) / 0x40000) ≠ 3 ∧ (a.write = true → a.poison = false) ∧ u = s)) ∧ (s.ready (30 + c) = true ∨ a.foreman = true) ∧ a.write = false ∧ s.wordErr a.addr = 0) ∧
    (∃ (s : State) (u : State) (a : GalAccess) (c : Nat) (ni : Nat), a.addr % a.size = 0 ∧ ni = 653 + c ∧ ((c < 8 ∧ 0x010004000000 + c * 0x200000 ≤ a.addr ∧ a.addr < 0x010004000000 + (c + 1) * 0x200000 ∧ a.size ∈ [1, 2, 4, 8] ∧ u = s.ungate 1 (c * 16 + a.addr / 8 % 16)) ∨ (c < 8 ∧ 0x010005000000 + c * 0x200000 ≤ a.addr ∧ a.addr < 0x010005000000 + (c + 1) * 0x200000 ∧ a.addr % 0x40000 < 0x20000 ∧ a.size ∈ [4, 8] ∧ s.rd TR_STATUS.STATE ((a.addr - 0x010005000000) / 0x40000) ≠ 3 ∧ (a.write = true → a.poison = false) ∧ u = s)) ∧ (s.ready (30 + c) = true ∨ a.foreman = true) ∧ a.write = false ∧ s.wordErr a.addr = 2) ∧
    (∃ (s : State) (u : State) (a : GalAccess) (c : Nat) (ni : Nat), a.addr % a.size = 0 ∧ ni = 653 + c ∧ ((c < 8 ∧ 0x010004000000 + c * 0x200000 ≤ a.addr ∧ a.addr < 0x010004000000 + (c + 1) * 0x200000 ∧ a.size ∈ [1, 2, 4, 8] ∧ u = s.ungate 1 (c * 16 + a.addr / 8 % 16)) ∨ (c < 8 ∧ 0x010005000000 + c * 0x200000 ≤ a.addr ∧ a.addr < 0x010005000000 + (c + 1) * 0x200000 ∧ a.addr % 0x40000 < 0x20000 ∧ a.size ∈ [4, 8] ∧ s.rd TR_STATUS.STATE ((a.addr - 0x010005000000) / 0x40000) ≠ 3 ∧ (a.write = true → a.poison = false) ∧ u = s)) ∧ (s.ready (30 + c) = true ∨ a.foreman = true) ∧ a.write = true ∧ s.wordErr a.addr = 0) ∧
    (∃ (s : State) (u : State) (a : GalAccess) (c : Nat) (ni : Nat) (m : Nat) (b : Nat) (f : Nat), a.addr % a.size = 0 ∧ ni = 653 + c ∧ ((c < 8 ∧ 0x010004000000 + c * 0x200000 ≤ a.addr ∧ a.addr < 0x010004000000 + (c + 1) * 0x200000 ∧ a.size ∈ [1, 2, 4, 8] ∧ u = s.ungate 1 (c * 16 + a.addr / 8 % 16)) ∨ (c < 8 ∧ 0x010005000000 + c * 0x200000 ≤ a.addr ∧ a.addr < 0x010005000000 + (c + 1) * 0x200000 ∧ a.addr % 0x40000 < 0x20000 ∧ a.size ∈ [4, 8] ∧ s.rd TR_STATUS.STATE ((a.addr - 0x010005000000) / 0x40000) ≠ 3 ∧ (a.write = true → a.poison = false) ∧ u = s)) ∧ (s.ready (30 + c) = true ∨ a.foreman = true) ∧ a.write = false ∧ s.wordErr a.addr = 0 ∧ s.tram.lastStore = [(a.addr / 8, m, b, f)]) ∧
    (∃ (s : State) (u : State) (a : GalAccess) (c : Nat) (ni : Nat) (m : Nat) (b : Nat) (f : Nat) (i : Nat), a.addr % a.size = 0 ∧ ni = 653 + c ∧ ((c < 8 ∧ 0x010004000000 + c * 0x200000 ≤ a.addr ∧ a.addr < 0x010004000000 + (c + 1) * 0x200000 ∧ a.size ∈ [1, 2, 4, 8] ∧ u = s.ungate 1 (c * 16 + a.addr / 8 % 16)) ∨ (c < 8 ∧ 0x010005000000 + c * 0x200000 ≤ a.addr ∧ a.addr < 0x010005000000 + (c + 1) * 0x200000 ∧ a.addr % 0x40000 < 0x20000 ∧ a.size ∈ [4, 8] ∧ s.rd TR_STATUS.STATE ((a.addr - 0x010005000000) / 0x40000) ≠ 3 ∧ (a.write = true → a.poison = false) ∧ u = s)) ∧ (s.ready (30 + c) = true ∨ a.foreman = true) ∧ a.write = true ∧ a.size = 8 ∧ a.data < 2 ^ 64 ∧ s.wordErr a.addr = 0 ∧ s.tram.lastStore = [(a.addr / 8, m, b, f)] ∧ i < 8) :=
  ⟨⟨crib7, crib7.engStore 0x010004E00008 4 0xA1B2C3D4 0, 0x010004E00008, 4, 0xA1B2C3D4, 3, by decide +kernel⟩,
   ⟨crib7, crib7.engStore 0x010004E00008 4 0xA1B2C3D4 0, 0x010004E00008, 4, 0xA1B2C3D4, 0x010004E0000C, by decide +kernel⟩,
   ⟨crib7, crib7.engStore 0x010004E00008 4 0xA1B2C3D4 0, 0x010004E00008, 4, 0xA1B2C3D4, by decide +kernel⟩,
   ⟨crib7, crib7.engStore 0x010004E00008 4 0xA1B2C3D4 0, 0x010004E00008, 4, 0xA1B2C3D4, 57, by decide +kernel⟩,
   ⟨crib7, crib7.engStore 0x010004E00008 4 0xA1B2C3D4 0, 0x010004E00008, 4, 0xA1B2C3D4, by decide +kernel⟩,
   ⟨crib7.setWordErr 0x010004E00008 2, (crib7.setWordErr 0x010004E00008 2).engStore 0x010004E00008 8 5 0, 0x010004E00008, 8, 5, by decide +kernel⟩,
   ⟨crib7.setWordErr 0x010004E00008 2, (crib7.setWordErr 0x010004E00008 2).engStore 0x010004E00008 4 5 0, 0x010004E00008, 4, 5, by decide +kernel⟩,
   ⟨crib7, (crib7).ungate 1 113, gal16 0x010004E00008 4 false false 0 false, 7, 660, by decide +kernel⟩,
   ⟨crib7.setWordErr 0x010004E00008 2, (crib7.setWordErr 0x010004E00008 2).ungate 1 113, gal16 0x010004E00008 8 false false 0 false, 7, 660, by decide +kernel⟩,
   ⟨crib7, (crib7).ungate 1 113, gal16 0x010004E00008 8 true false 0xA1B2C3D4E5F60718 true, 7, 660, by decide +kernel⟩,
   ⟨{ crib7 with tram := { crib7.tram with lastStore := [(137449177089, 255, 0x55, 0x1122334455667788)] } }, ({ crib7 with tram := { crib7.tram with lastStore := [(137449177089, 255, 0x55, 0x1122334455667788)] } }).ungate 1 113, gal16 0x010004E00008 8 false false 0 false, 7, 660, 255, 0x55, 0x1122334455667788, by decide +kernel⟩,
   ⟨{ crib7 with tram := { crib7.tram with lastStore := [(137449177089, 8, 0x55, 0x1122334455667788)] } }, ({ crib7 with tram := { crib7.tram with lastStore := [(137449177089, 8, 0x55, 0x1122334455667788)] } }).ungate 1 113, gal16 0x010004E00008 8 true false 0xA1B2C3D4E5F60718 false, 7, 660, 8, 0x55, 0x1122334455667788, 3, by decide +kernel⟩⟩

/-- The hypotheses of each clause of `Obligations.CrewMemories` can be met (2). -/
theorem test_hyps_CrewMemories_2 :
    (∃ (a : GalAccess) (c : Nat) (e : Nat) (n : Nat), n < 0x200000 ∧ a.posted = false ∧ c < 8 ∧ e = c * 8 + n / 0x40000 ∧ a.addr = 0x010004000000 + c * 0x200000 + n ∧ a.size ∉ [1, 2, 4, 8]) ∧
    (∃ (s : State) (a : GalAccess) (c : Nat) (e : Nat) (n : Nat), n < 0x200000 ∧ a.posted = false ∧ c < 8 ∧ e = c * 8 + n / 0x40000 ∧ a.addr = 0x010004000000 + c * 0x200000 + n ∧ a.size ∈ [1, 2, 4, 8] ∧ n % a.size = 0 ∧ s.ready (30 + c) = false ∧ a.foreman = false) ∧
    (∃ (s : State) (a : GalAccess) (c : Nat) (e : Nat) (n : Nat), n < 0x200000 ∧ a.posted = false ∧ c < 8 ∧ e = c * 8 + n / 0x40000 ∧ a.addr = 0x010005000000 + c * 0x200000 + n ∧ n % 0x40000 < 0x20000 ∧ a.size = 8 ∧ n % 8 = 0 ∧ s.ready (30 + c) = true ∧ s.rd TR_STATUS.STATE e = 3) ∧
    (∃ (s : State) (a : GalAccess) (c : Nat) (e : Nat) (n : Nat), n < 0x200000 ∧ a.posted = false ∧ c < 8 ∧ e = c * 8 + n / 0x40000 ∧ a.addr = 0x010005000000 + c * 0x200000 + n ∧ n % 0x40000 < 0x20000 ∧ a.size = 8 ∧ n % 8 = 0 ∧ s.ready (30 + c) = true ∧ s.rd TR_STATUS.STATE e ≠ 3 ∧ a.write = true ∧ a.poison = true) ∧
    (∃ (s : State) (g : Nat), s.wordErr g = 1) ∧
    (∃ (s : State) (g : Nat), s.wordErr g ≠ 1) ∧
    (∃ (s : State) (c : Nat) (h : Nat) (v : Nat) (len : Nat) (ga : Nat) (ca : Nat), c < 8 ∧ h < 4 ∧ len = v % 2 ^ 22 ∧ ga = s.rd TR_HOIST_GADDR.GADDR c h ∧ ca = s.rd TR_HOIST_CADDR.CADDR c h ∧ s.bit CK_CREW_PWR.ON_STAT c = true ∧ s.rd TR_HOIST_STATUS.BUSY c h = 0 ∧ 8 ≤ len ∧ len % 8 = 0 ∧ ga % 8 = 0 ∧ ca % 8 = 0 ∧ ca + len ≤ 0x200000) ∧
    (∃ (s : State) (c : Nat) (h : Nat) (v : Nat) (len : Nat) (ga : Nat) (ca : Nat), c < 8 ∧ h < 4 ∧ len = v % 2 ^ 22 ∧ ga = s.rd TR_HOIST_GADDR.GADDR c h ∧ ca = s.rd TR_HOIST_CADDR.CADDR c h ∧ s.bit CK_CREW_PWR.ON_STAT c = true ∧ (s.rd TR_HOIST_STATUS.BUSY c h = 1 ∨ len < 8 ∨ len % 8 ≠ 0 ∨ ga % 8 ≠ 0 ∨ ca % 8 ≠ 0 ∨ 0x200000 < ca + len)) ∧
    (∃ (s : State) (c : Nat) (h : Nat) (v : Nat) (len : Nat) (ga : Nat) (ca : Nat), c < 8 ∧ h < 4 ∧ len = v % 2 ^ 22 ∧ ga = s.rd TR_HOIST_GADDR.GADDR c h ∧ ca = s.rd TR_HOIST_CADDR.CADDR c h ∧ s.bit CK_CREW_PWR.ON_STAT c = false) ∧
    (∃ (s : State) (c : Nat) (h : Nat) (k : Nat) (m : Nat) (x : Hoist) (r : HoistEnd), c < 8 ∧ h < 4 ∧ k = 0x010004000000 + c * 0x200000 + x.caddr ∧ m = min r.bytes x.len / 8 * 8 ∧ s.hoist c h = none) ∧
    (∃ (s : State) (c : Nat) (h : Nat) (k : Nat) (m : Nat) (x : Hoist) (r : HoistEnd), c < 8 ∧ h < 4 ∧ k = 0x010004000000 + c * 0x200000 + x.caddr ∧ m = min r.bytes x.len / 8 * 8 ∧ s.hoist c h = none) ∧
    (∃ (s : State) (c : Nat) (h : Nat) (k : Nat) (m : Nat) (x : Hoist) (r : HoistEnd), c < 8 ∧ h < 4 ∧ k = 0x010004000000 + c * 0x200000 + x.caddr ∧ m = min r.bytes x.len / 8 * 8 ∧ s.hoist c h = some x ∧ x.stow = false ∧ r.fail = false ∧ x.notify = none ∧ x.len % 8 = 0 ∧ k % 8 = 0 ∧ r.poison = [] ∧ r.data.length = x.len) :=
  ⟨⟨gal16 0x010004FFFFFC 3 false false 0 false, 7, 63, 0x1FFFFC, by decide +kernel⟩,
   ⟨given [], gal16 0x010004FFFFFC 4 false false 0 false, 7, 63, 0x1FFFFC, by decide +kernel⟩,
   ⟨given [(FM_READY.READY.key, 2 ^ 64 - 1), (TR_STATUS.STATE.key 63, 3)], gal16 0x010005FDFFF8 8 false false 0 false, 7, 63, 0x1DFFF8, by decide +kernel⟩,
   ⟨crib7, gal16 0x010005FDFFF8 8 true false 0 true, 7, 63, 0x1DFFF8, by decide +kernel⟩,
   ⟨crib7.setWordErr 0x010004E00008 1, 0x010004E00008, by decide +kernel⟩,
   ⟨crib7, 0x010004E00008, by decide +kernel⟩,
   ⟨hoist7 [], 7, 3, 0x1e400040, 0x40, 0x1000, 0x1FFFC0, by decide +kernel⟩,
   ⟨hoist7 [(TR_HOIST_STATUS.BUSY.key 7 3, 1)], 7, 3, 0x1e400040, 0x40, 0x1000, 0x1FFFC0, by decide +kernel⟩,
   ⟨given [(CK_CREW_PWR.ON_STAT.key, 0), (TR_HOIST_GADDR.GADDR.key 7 3, 0x1000), (TR_HOIST_CADDR.CADDR.key 7 3, 0x1FFFC0)], 7, 3, 0x1e400040, 0x40, 0x1000, 0x1FFFC0, by decide +kernel⟩,
   ⟨given [], 7, 3, 0x010004FFFFC0, 0x40, run16 false none, ⟨64, [], [], false⟩, by decide +kernel⟩,
   ⟨given [], 7, 3, 0x010004FFFFC0, 0x40, run16 false none, ⟨64, [], [], false⟩, by decide +kernel⟩,
   ⟨hoisting7 false none, 7, 3, 0x010004FFFFC0, 0x40, run16 false none, ⟨64, List.range 64, [], false⟩, by decide +kernel⟩⟩

/-- The hypotheses of each clause of `Obligations.CrewMemories` can be met (3). -/
theorem test_hyps_CrewMemories_3 :
    (∃ (s : State) (c : Nat) (h : Nat) (k : Nat) (m : Nat) (x : Hoist) (r : HoistEnd) (e : Nat), c < 8 ∧ h < 4 ∧ k = 0x010004000000 + c * 0x200000 + x.caddr ∧ m = min r.bytes x.len / 8 * 8 ∧ s.hoist c h = some x ∧ x.stow = true ∧ r.fail = false ∧ x.notify = some e ∧ s.rd TR_STATUS.STATE e ≠ 3 ∧ 0 < x.len ∧ x.len % 8 = 0 ∧ x.gaddr % 64 + x.len ≤ 64 ∧ s.badWords k x.len = false) ∧
    (∃ (s : State) (c : Nat) (h : Nat) (k : Nat) (m : Nat) (x : Hoist) (r : HoistEnd), c < 8 ∧ h < 4 ∧ k = 0x010004000000 + c * 0x200000 + x.caddr ∧ m = min r.bytes x.len / 8 * 8 ∧ s.hoist c h = some x ∧ r.fail = true ∧ r.bytes < 8) ∧
    (∃ (s : State) (c : Nat) (h : Nat) (k : Nat) (m : Nat) (x : Hoist) (r : HoistEnd), c < 8 ∧ h < 4 ∧ k = 0x010004000000 + c * 0x200000 + x.caddr ∧ m = min r.bytes x.len / 8 * 8 ∧ s.hoist c h = some x) :=
  ⟨⟨hoisting7 true (some 62), 7, 3, 0x010004FFFFC0, 0x40, run16 true (some 62), ⟨64, [], [], false⟩, 62, by decide +kernel⟩,
   ⟨hoisting7 true (some 62), 7, 3, 0x010004FFFFC0, 0, run16 true (some 62), ⟨7, [], [], true⟩, by decide +kernel⟩,
   ⟨hoisting7 false none, 7, 3, 0x010004FFFFC0, 8, run16 false none, ⟨12, List.range 12, [], false⟩, by decide +kernel⟩⟩

/-- The hypotheses of each clause of `Obligations.TramIntegers` can be met (1). -/
theorem test_hyps_TramIntegers :
    (∃ (s : State) (e : Nat) (w : Nat) (d : Nat) (n : Nat) (i : Nat) (y : Nat) (z : Nat) (v : TramView) (x : Engine) (a : Word) (b : Word), s.standsAt e w = true ∧ v.fetchErrs = 0 ∧ x = s.eng e ∧ d = w / 2 ^ 21 % 32 ∧ a = x.rg (w / 2 ^ 16 % 32) ∧ b = x.rg (w / 2 ^ 11 % 32) ∧ n = w / 2 ^ 11 % 32 ∧ i = w % 2 ^ 16 ∧ y = (if i < 2 ^ 15 then i else i + 2 ^ 32 - 2 ^ 16) ∧ z = w % 64 ∧ w / 2 ^ 26 = 0 ∧ z = 0 ∧ w &&& 0x3C0 = 0 ∧ w / 1024 % 2 = 0) ∧
    (∃ (s : State) (e : Nat) (w : Nat) (d : Nat) (n : Nat) (i : Nat) (y : Nat) (z : Nat) (v : TramView) (x : Engine) (a : Word) (b : Word), s.standsAt e w = true ∧ v.fetchErrs = 0 ∧ x = s.eng e ∧ d = w / 2 ^ 21 % 32 ∧ a = x.rg (w / 2 ^ 16 % 32) ∧ b = x.rg (w / 2 ^ 11 % 32) ∧ n = w / 2 ^ 11 % 32 ∧ i = w % 2 ^ 16 ∧ y = (if i < 2 ^ 15 then i else i + 2 ^ 32 - 2 ^ 16) ∧ z = w % 64 ∧ w / 2 ^ 26 = 0 ∧ z = 0 ∧ w &&& 0x3C0 = 0 ∧ w / 1024 % 2 = 1 ∧ -2 ^ 31 ≤ a.toInt + b.toInt ∧ a.toInt + b.toInt < 2 ^ 31) ∧
    (∃ (s : State) (e : Nat) (w : Nat) (d : Nat) (n : Nat) (i : Nat) (y : Nat) (z : Nat) (v : TramView) (x : Engine) (a : Word) (b : Word), s.standsAt e w = true ∧ v.fetchErrs = 0 ∧ x = s.eng e ∧ d = w / 2 ^ 21 % 32 ∧ a = x.rg (w / 2 ^ 16 % 32) ∧ b = x.rg (w / 2 ^ 11 % 32) ∧ n = w / 2 ^ 11 % 32 ∧ i = w % 2 ^ 16 ∧ y = (if i < 2 ^ 15 then i else i + 2 ^ 32 - 2 ^ 16) ∧ z = w % 64 ∧ w / 2 ^ 26 = 0 ∧ z = 0 ∧ w &&& 0x3C0 = 0 ∧ w / 1024 % 2 = 1 ∧ 2 ^ 31 ≤ a.toInt + b.toInt) ∧
    (∃ (s : State) (e : Nat) (w : Nat) (d : Nat) (n : Nat) (i : Nat) (y : Nat) (z : Nat) (v : TramView) (x : Engine) (a : Word) (b : Word), s.standsAt e w = true ∧ v.fetchErrs = 0 ∧ x = s.eng e ∧ d = w / 2 ^ 21 % 32 ∧ a = x.rg (w / 2 ^ 16 % 32) ∧ b = x.rg (w / 2 ^ 11 % 32) ∧ n = w / 2 ^ 11 % 32 ∧ i = w % 2 ^ 16 ∧ y = (if i < 2 ^ 15 then i else i + 2 ^ 32 - 2 ^ 16) ∧ z = w % 64 ∧ w / 2 ^ 26 = 0 ∧ z = 0 ∧ w &&& 0x3C0 = 0 ∧ w / 1024 % 2 = 1 ∧ a.toInt + b.toInt < -2 ^ 31) ∧
    (∃ (s : State) (e : Nat) (w : Nat) (d : Nat) (n : Nat) (i : Nat) (y : Nat) (z : Nat) (v : TramView) (x : Engine) (a : Word) (b : Word), s.standsAt e w = true ∧ v.fetchErrs = 0 ∧ x = s.eng e ∧ d = w / 2 ^ 21 % 32 ∧ a = x.rg (w / 2 ^ 16 % 32) ∧ b = x.rg (w / 2 ^ 11 % 32) ∧ n = w / 2 ^ 11 % 32 ∧ i = w % 2 ^ 16 ∧ y = (if i < 2 ^ 15 then i else i + 2 ^ 32 - 2 ^ 16) ∧ z = w % 64 ∧ w / 2 ^ 26 = 0 ∧ z = 1 ∧ w &&& 0x3C0 = 0 ∧ w / 1024 % 2 = 0) ∧
    (∃ (s : State) (e : Nat) (w : Nat) (d : Nat) (n : Nat) (i : Nat) (y : Nat) (z : Nat) (v : TramView) (x : Engine) (a : Word) (b : Word), s.standsAt e w = true ∧ v.fetchErrs = 0 ∧ x = s.eng e ∧ d = w / 2 ^ 21 % 32 ∧ a = x.rg (w / 2 ^ 16 % 32) ∧ b = x.rg (w / 2 ^ 11 % 32) ∧ n = w / 2 ^ 11 % 32 ∧ i = w % 2 ^ 16 ∧ y = (if i < 2 ^ 15 then i else i + 2 ^ 32 - 2 ^ 16) ∧ z = w % 64 ∧ w / 2 ^ 26 = 0 ∧ z = 1 ∧ w &&& 0x3C0 = 0 ∧ w / 1024 % 2 = 1 ∧ -2 ^ 31 ≤ a.toInt - b.toInt ∧ a.toInt - b.toInt < 2 ^ 31) :=
  ⟨⟨tram0 0x3e11000 (tregs0 [(1, 0xffffffff), (2, 0x3)] []), 63, 0x3e11000, 31, 2, 4096, 4096, 0, ⟨0, 0⟩, tregs0 [(1, 0xffffffff), (2, 0x3)] [], 0xffffffff, 0x3, by decide +kernel⟩,
   ⟨tram0 0x3e11400 (tregs0 [(1, 0x7fffffff), (2, 0x80000000)] []), 63, 0x3e11400, 31, 2, 5120, 5120, 0, ⟨0, 0⟩, tregs0 [(1, 0x7fffffff), (2, 0x80000000)] [], 0x7fffffff, 0x80000000, by decide +kernel⟩,
   ⟨tram0 0x3e11400 (tregs0 [(1, 0x7fffffff), (2, 0x1)] []), 63, 0x3e11400, 31, 2, 5120, 5120, 0, ⟨0, 0⟩, tregs0 [(1, 0x7fffffff), (2, 0x1)] [], 0x7fffffff, 0x1, by decide +kernel⟩,
   ⟨tram0 0x3e11400 (tregs0 [(1, 0x80000000), (2, 0xffffffff)] []), 63, 0x3e11400, 31, 2, 5120, 5120, 0, ⟨0, 0⟩, tregs0 [(1, 0x80000000), (2, 0xffffffff)] [], 0x80000000, 0xffffffff, by decide +kernel⟩,
   ⟨tram0 0x3e11001 (tregs0 [(1, 0x1), (2, 0x3)] []), 63, 0x3e11001, 31, 2, 4097, 4097, 1, ⟨0, 0⟩, tregs0 [(1, 0x1), (2, 0x3)] [], 0x1, 0x3, by decide +kernel⟩,
   ⟨tram0 0x3e11401 (tregs0 [(1, 0x7fffffff)] []), 63, 0x3e11401, 31, 2, 5121, 5121, 1, ⟨0, 0⟩, tregs0 [(1, 0x7fffffff)] [], 0x7fffffff, 0x0, by decide +kernel⟩⟩

/-- The hypotheses of each clause of `Obligations.TramIntegers` can be met (2). -/
theorem test_hyps_TramIntegers_2 :
    (∃ (s : State) (e : Nat) (w : Nat) (d : Nat) (n : Nat) (i : Nat) (y : Nat) (z : Nat) (v : TramView) (x : Engine) (a : Word) (b : Word), s.standsAt e w = true ∧ v.fetchErrs = 0 ∧ x = s.eng e ∧ d = w / 2 ^ 21 % 32 ∧ a = x.rg (w / 2 ^ 16 % 32) ∧ b = x.rg (w / 2 ^ 11 % 32) ∧ n = w / 2 ^ 11 % 32 ∧ i = w % 2 ^ 16 ∧ y = (if i < 2 ^ 15 then i else i + 2 ^ 32 - 2 ^ 16) ∧ z = w % 64 ∧ w / 2 ^ 26 = 0 ∧ z = 1 ∧ w &&& 0x3C0 = 0 ∧ w / 1024 % 2 = 1 ∧ 2 ^ 31 ≤ a.toInt - b.toInt) ∧
    (∃ (s : State) (e : Nat) (w : Nat) (d : Nat) (n : Nat) (i : Nat) (y : Nat) (z : Nat) (v : TramView) (x : Engine) (a : Word) (b : Word), s.standsAt e w = true ∧ v.fetchErrs = 0 ∧ x = s.eng e ∧ d = w / 2 ^ 21 % 32 ∧ a = x.rg (w / 2 ^ 16 % 32) ∧ b = x.rg (w / 2 ^ 11 % 32) ∧ n = w / 2 ^ 11 % 32 ∧ i = w % 2 ^ 16 ∧ y = (if i < 2 ^ 15 then i else i + 2 ^ 32 - 2 ^ 16) ∧ z = w % 64 ∧ w / 2 ^ 26 = 0 ∧ z = 1 ∧ w &&& 0x3C0 = 0 ∧ w / 1024 % 2 = 1 ∧ a.toInt - b.toInt < -2 ^ 31) ∧
    (∃ (s : State) (e : Nat) (w : Nat) (d : Nat) (n : Nat) (i : Nat) (y : Nat) (z : Nat) (v : TramView) (x : Engine) (a : Word) (b : Word), s.standsAt e w = true ∧ v.fetchErrs = 0 ∧ x = s.eng e ∧ d = w / 2 ^ 21 % 32 ∧ a = x.rg (w / 2 ^ 16 % 32) ∧ b = x.rg (w / 2 ^ 11 % 32) ∧ n = w / 2 ^ 11 % 32 ∧ i = w % 2 ^ 16 ∧ y = (if i < 2 ^ 15 then i else i + 2 ^ 32 - 2 ^ 16) ∧ z = w % 64 ∧ w / 2 ^ 26 = 0 ∧ z = 2 ∧ w &&& 0x7C0 = 0) ∧
    (∃ (s : State) (e : Nat) (w : Nat) (d : Nat) (n : Nat) (i : Nat) (y : Nat) (z : Nat) (v : TramView) (x : Engine) (a : Word) (b : Word), s.standsAt e w = true ∧ v.fetchErrs = 0 ∧ x = s.eng e ∧ d = w / 2 ^ 21 % 32 ∧ a = x.rg (w / 2 ^ 16 % 32) ∧ b = x.rg (w / 2 ^ 11 % 32) ∧ n = w / 2 ^ 11 % 32 ∧ i = w % 2 ^ 16 ∧ y = (if i < 2 ^ 15 then i else i + 2 ^ 32 - 2 ^ 16) ∧ z = w % 64 ∧ w / 2 ^ 26 = 0 ∧ z = 3 ∧ w &&& 0x7C0 = 0) ∧
    (∃ (s : State) (e : Nat) (w : Nat) (d : Nat) (n : Nat) (i : Nat) (y : Nat) (z : Nat) (v : TramView) (x : Engine) (a : Word) (b : Word), s.standsAt e w = true ∧ v.fetchErrs = 0 ∧ x = s.eng e ∧ d = w / 2 ^ 21 % 32 ∧ a = x.rg (w / 2 ^ 16 % 32) ∧ b = x.rg (w / 2 ^ 11 % 32) ∧ n = w / 2 ^ 11 % 32 ∧ i = w % 2 ^ 16 ∧ y = (if i < 2 ^ 15 then i else i + 2 ^ 32 - 2 ^ 16) ∧ z = w % 64 ∧ w / 2 ^ 26 = 0 ∧ z = 4 ∧ w &&& 0x7C0 = 0) ∧
    (∃ (s : State) (e : Nat) (w : Nat) (d : Nat) (n : Nat) (i : Nat) (y : Nat) (z : Nat) (v : TramView) (x : Engine) (a : Word) (b : Word), s.standsAt e w = true ∧ v.fetchErrs = 0 ∧ x = s.eng e ∧ d = w / 2 ^ 21 % 32 ∧ a = x.rg (w / 2 ^ 16 % 32) ∧ b = x.rg (w / 2 ^ 11 % 32) ∧ n = w / 2 ^ 11 % 32 ∧ i = w % 2 ^ 16 ∧ y = (if i < 2 ^ 15 then i else i + 2 ^ 32 - 2 ^ 16) ∧ z = w % 64 ∧ w / 2 ^ 26 = 0 ∧ z = 5 ∧ w &&& 0x7C0 = 0) :=
  ⟨⟨tram0 0x3e11401 (tregs0 [(1, 0x7fffffff), (2, 0xffffffff)] []), 63, 0x3e11401, 31, 2, 5121, 5121, 1, ⟨0, 0⟩, tregs0 [(1, 0x7fffffff), (2, 0xffffffff)] [], 0x7fffffff, 0xffffffff, by decide +kernel⟩,
   ⟨tram0 0x3e11401 (tregs0 [(1, 0x80000000), (2, 0x1)] []), 63, 0x3e11401, 31, 2, 5121, 5121, 1, ⟨0, 0⟩, tregs0 [(1, 0x80000000), (2, 0x1)] [], 0x80000000, 0x1, by decide +kernel⟩,
   ⟨tram0 0x3e11002 (tregs0 [(1, 0xa5c3f00f), (2, 0x80000ff1)] []), 63, 0x3e11002, 31, 2, 4098, 4098, 2, ⟨0, 0⟩, tregs0 [(1, 0xa5c3f00f), (2, 0x80000ff1)] [], 0xa5c3f00f, 0x80000ff1, by decide +kernel⟩,
   ⟨tram0 0x3e11003 (tregs0 [(1, 0xa5c3f00f), (2, 0x80000ff1)] []), 63, 0x3e11003, 31, 2, 4099, 4099, 3, ⟨0, 0⟩, tregs0 [(1, 0xa5c3f00f), (2, 0x80000ff1)] [], 0xa5c3f00f, 0x80000ff1, by decide +kernel⟩,
   ⟨tram0 0x3e11004 (tregs0 [(1, 0xa5c3f00f), (2, 0x80000ff1)] []), 63, 0x3e11004, 31, 2, 4100, 4100, 4, ⟨0, 0⟩, tregs0 [(1, 0xa5c3f00f), (2, 0x80000ff1)] [], 0xa5c3f00f, 0x80000ff1, by decide +kernel⟩,
   ⟨tram0 0x3e11005 (tregs0 [(1, 0xa5c3f00f), (2, 0x80000ff1)] []), 63, 0x3e11005, 31, 2, 4101, 4101, 5, ⟨0, 0⟩, tregs0 [(1, 0xa5c3f00f), (2, 0x80000ff1)] [], 0xa5c3f00f, 0x80000ff1, by decide +kernel⟩⟩

/-- The hypotheses of each clause of `Obligations.TramIntegers` can be met (3). -/
theorem test_hyps_TramIntegers_3 :
    (∃ (s : State) (e : Nat) (w : Nat) (d : Nat) (n : Nat) (i : Nat) (y : Nat) (z : Nat) (v : TramView) (x : Engine) (a : Word) (b : Word), s.standsAt e w = true ∧ v.fetchErrs = 0 ∧ x = s.eng e ∧ d = w / 2 ^ 21 % 32 ∧ a = x.rg (w / 2 ^ 16 % 32) ∧ b = x.rg (w / 2 ^ 11 % 32) ∧ n = w / 2 ^ 11 % 32 ∧ i = w % 2 ^ 16 ∧ y = (if i < 2 ^ 15 then i else i + 2 ^ 32 - 2 ^ 16) ∧ z = w % 64 ∧ w / 2 ^ 26 = 0 ∧ z = 6 ∧ w &&& 0x7C0 = 0) ∧
    (∃ (s : State) (e : Nat) (w : Nat) (d : Nat) (n : Nat) (i : Nat) (y : Nat) (z : Nat) (v : TramView) (x : Engine) (a : Word) (b : Word), s.standsAt e w = true ∧ v.fetchErrs = 0 ∧ x = s.eng e ∧ d = w / 2 ^ 21 % 32 ∧ a = x.rg (w / 2 ^ 16 % 32) ∧ b = x.rg (w / 2 ^ 11 % 32) ∧ n = w / 2 ^ 11 % 32 ∧ i = w % 2 ^ 16 ∧ y = (if i < 2 ^ 15 then i else i + 2 ^ 32 - 2 ^ 16) ∧ z = w % 64 ∧ w / 2 ^ 26 = 0 ∧ z = 7 ∧ w &&& 0x7C0 = 0) ∧
    (∃ (s : State) (e : Nat) (w : Nat) (d : Nat) (n : Nat) (i : Nat) (y : Nat) (z : Nat) (v : TramView) (x : Engine) (a : Word) (b : Word), s.standsAt e w = true ∧ v.fetchErrs = 0 ∧ x = s.eng e ∧ d = w / 2 ^ 21 % 32 ∧ a = x.rg (w / 2 ^ 16 % 32) ∧ b = x.rg (w / 2 ^ 11 % 32) ∧ n = w / 2 ^ 11 % 32 ∧ i = w % 2 ^ 16 ∧ y = (if i < 2 ^ 15 then i else i + 2 ^ 32 - 2 ^ 16) ∧ z = w % 64 ∧ w / 2 ^ 26 = 0 ∧ z = 8 ∧ w &&& 0x7C0 = 0) ∧
    (∃ (s : State) (e : Nat) (w : Nat) (d : Nat) (n : Nat) (i : Nat) (y : Nat) (z : Nat) (v : TramView) (x : Engine) (a : Word) (b : Word), s.standsAt e w = true ∧ v.fetchErrs = 0 ∧ x = s.eng e ∧ d = w / 2 ^ 21 % 32 ∧ a = x.rg (w / 2 ^ 16 % 32) ∧ b = x.rg (w / 2 ^ 11 % 32) ∧ n = w / 2 ^ 11 % 32 ∧ i = w % 2 ^ 16 ∧ y = (if i < 2 ^ 15 then i else i + 2 ^ 32 - 2 ^ 16) ∧ z = w % 64 ∧ w / 2 ^ 26 = 0 ∧ z = 9 ∧ w &&& 0x7C0 = 0) ∧
    (∃ (s : State) (e : Nat) (w : Nat) (d : Nat) (n : Nat) (i : Nat) (y : Nat) (z : Nat) (v : TramView) (x : Engine) (a : Word) (b : Word), s.standsAt e w = true ∧ v.fetchErrs = 0 ∧ x = s.eng e ∧ d = w / 2 ^ 21 % 32 ∧ a = x.rg (w / 2 ^ 16 % 32) ∧ b = x.rg (w / 2 ^ 11 % 32) ∧ n = w / 2 ^ 11 % 32 ∧ i = w % 2 ^ 16 ∧ y = (if i < 2 ^ 15 then i else i + 2 ^ 32 - 2 ^ 16) ∧ z = w % 64 ∧ w / 2 ^ 26 = 0 ∧ z = 10 ∧ w &&& 0x7C0 = 0) ∧
    (∃ (s : State) (e : Nat) (w : Nat) (d : Nat) (n : Nat) (i : Nat) (y : Nat) (z : Nat) (v : TramView) (x : Engine) (a : Word) (b : Word), s.standsAt e w = true ∧ v.fetchErrs = 0 ∧ x = s.eng e ∧ d = w / 2 ^ 21 % 32 ∧ a = x.rg (w / 2 ^ 16 % 32) ∧ b = x.rg (w / 2 ^ 11 % 32) ∧ n = w / 2 ^ 11 % 32 ∧ i = w % 2 ^ 16 ∧ y = (if i < 2 ^ 15 then i else i + 2 ^ 32 - 2 ^ 16) ∧ z = w % 64 ∧ w / 2 ^ 26 = 0 ∧ z = 11 ∧ w &&& 0x7C0 = 0) :=
  ⟨⟨tram0 0x3e11006 (tregs0 [(1, 0xa5c3f00f), (2, 0x80000ff1)] []), 63, 0x3e11006, 31, 2, 4102, 4102, 6, ⟨0, 0⟩, tregs0 [(1, 0xa5c3f00f), (2, 0x80000ff1)] [], 0xa5c3f00f, 0x80000ff1, by decide +kernel⟩,
   ⟨tram0 0x3e11007 (tregs0 [(1, 0xa5c3f00f), (2, 0x80000ff1)] []), 63, 0x3e11007, 31, 2, 4103, 4103, 7, ⟨0, 0⟩, tregs0 [(1, 0xa5c3f00f), (2, 0x80000ff1)] [], 0xa5c3f00f, 0x80000ff1, by decide +kernel⟩,
   ⟨tram0 0x3e11008 (tregs0 [(1, 0xa5c3f00f), (2, 0x80000ff1)] []), 63, 0x3e11008, 31, 2, 4104, 4104, 8, ⟨0, 0⟩, tregs0 [(1, 0xa5c3f00f), (2, 0x80000ff1)] [], 0xa5c3f00f, 0x80000ff1, by decide +kernel⟩,
   ⟨tram0 0x3e11009 (tregs0 [(1, 0xa5c3f00f), (2, 0x80000ff1)] []), 63, 0x3e11009, 31, 2, 4105, 4105, 9, ⟨0, 0⟩, tregs0 [(1, 0xa5c3f00f), (2, 0x80000ff1)] [], 0xa5c3f00f, 0x80000ff1, by decide +kernel⟩,
   ⟨tram0 0x3e1100a (tregs0 [(1, 0xa5c3f00f), (2, 0x80000ff1)] []), 63, 0x3e1100a, 31, 2, 4106, 4106, 10, ⟨0, 0⟩, tregs0 [(1, 0xa5c3f00f), (2, 0x80000ff1)] [], 0xa5c3f00f, 0x80000ff1, by decide +kernel⟩,
   ⟨tram0 0x3e1f80b (tregs0 [(1, 0xa5c3f00f), (2, 0x80000ff1)] []), 63, 0x3e1f80b, 31, 31, 63499, 4294965259, 11, ⟨0, 0⟩, tregs0 [(1, 0xa5c3f00f), (2, 0x80000ff1)] [], 0xa5c3f00f, 0x0, by decide +kernel⟩⟩

/-- The hypotheses of each clause of `Obligations.TramIntegers` can be met (4). -/
theorem test_hyps_TramIntegers_4 :
    (∃ (s : State) (e : Nat) (w : Nat) (d : Nat) (n : Nat) (i : Nat) (y : Nat) (z : Nat) (v : TramView) (x : Engine) (a : Word) (b : Word), s.standsAt e w = true ∧ v.fetchErrs = 0 ∧ x = s.eng e ∧ d = w / 2 ^ 21 % 32 ∧ a = x.rg (w / 2 ^ 16 % 32) ∧ b = x.rg (w / 2 ^ 11 % 32) ∧ n = w / 2 ^ 11 % 32 ∧ i = w % 2 ^ 16 ∧ y = (if i < 2 ^ 15 then i else i + 2 ^ 32 - 2 ^ 16) ∧ z = w % 64 ∧ w / 2 ^ 26 = 0 ∧ z = 12 ∧ w &&& 0x7C0 = 0) ∧
    (∃ (s : State) (e : Nat) (w : Nat) (d : Nat) (n : Nat) (i : Nat) (y : Nat) (z : Nat) (v : TramView) (x : Engine) (a : Word) (b : Word), s.standsAt e w = true ∧ v.fetchErrs = 0 ∧ x = s.eng e ∧ d = w / 2 ^ 21 % 32 ∧ a = x.rg (w / 2 ^ 16 % 32) ∧ b = x.rg (w / 2 ^ 11 % 32) ∧ n = w / 2 ^ 11 % 32 ∧ i = w % 2 ^ 16 ∧ y = (if i < 2 ^ 15 then i else i + 2 ^ 32 - 2 ^ 16) ∧ z = w % 64 ∧ w / 2 ^ 26 = 0 ∧ z = 13 ∧ w &&& 0x7C0 = 0) ∧
    (∃ (s : State) (e : Nat) (w : Nat) (d : Nat) (n : Nat) (i : Nat) (y : Nat) (z : Nat) (v : TramView) (x : Engine) (a : Word) (b : Word), s.standsAt e w = true ∧ v.fetchErrs = 0 ∧ x = s.eng e ∧ d = w / 2 ^ 21 % 32 ∧ a = x.rg (w / 2 ^ 16 % 32) ∧ b = x.rg (w / 2 ^ 11 % 32) ∧ n = w / 2 ^ 11 % 32 ∧ i = w % 2 ^ 16 ∧ y = (if i < 2 ^ 15 then i else i + 2 ^ 32 - 2 ^ 16) ∧ z = w % 64 ∧ w / 2 ^ 26 = 0 ∧ z = 14 ∧ w &&& 0x3C0 = 0 ∧ w / 1024 % 2 = 0) ∧
    (∃ (s : State) (e : Nat) (w : Nat) (d : Nat) (n : Nat) (i : Nat) (y : Nat) (z : Nat) (v : TramView) (x : Engine) (a : Word) (b : Word), s.standsAt e w = true ∧ v.fetchErrs = 0 ∧ x = s.eng e ∧ d = w / 2 ^ 21 % 32 ∧ a = x.rg (w / 2 ^ 16 % 32) ∧ b = x.rg (w / 2 ^ 11 % 32) ∧ n = w / 2 ^ 11 % 32 ∧ i = w % 2 ^ 16 ∧ y = (if i < 2 ^ 15 then i else i + 2 ^ 32 - 2 ^ 16) ∧ z = w % 64 ∧ w / 2 ^ 26 = 0 ∧ z = 14 ∧ w &&& 0x3C0 = 0 ∧ w / 1024 % 2 = 1 ∧ -2 ^ 31 ≤ a.toInt * b.toInt ∧ a.toInt * b.toInt < 2 ^ 31) ∧
    (∃ (s : State) (e : Nat) (w : Nat) (d : Nat) (n : Nat) (i : Nat) (y : Nat) (z : Nat) (v : TramView) (x : Engine) (a : Word) (b : Word), s.standsAt e w = true ∧ v.fetchErrs = 0 ∧ x = s.eng e ∧ d = w / 2 ^ 21 % 32 ∧ a = x.rg (w / 2 ^ 16 % 32) ∧ b = x.rg (w / 2 ^ 11 % 32) ∧ n = w / 2 ^ 11 % 32 ∧ i = w % 2 ^ 16 ∧ y = (if i < 2 ^ 15 then i else i + 2 ^ 32 - 2 ^ 16) ∧ z = w % 64 ∧ w / 2 ^ 26 = 0 ∧ z = 14 ∧ w &&& 0x3C0 = 0 ∧ w / 1024 % 2 = 1 ∧ 2 ^ 31 ≤ a.toInt * b.toInt) ∧
    (∃ (s : State) (e : Nat) (w : Nat) (d : Nat) (n : Nat) (i : Nat) (y : Nat) (z : Nat) (v : TramView) (x : Engine) (a : Word) (b : Word), s.standsAt e w = true ∧ v.fetchErrs = 0 ∧ x = s.eng e ∧ d = w / 2 ^ 21 % 32 ∧ a = x.rg (w / 2 ^ 16 % 32) ∧ b = x.rg (w / 2 ^ 11 % 32) ∧ n = w / 2 ^ 11 % 32 ∧ i = w % 2 ^ 16 ∧ y = (if i < 2 ^ 15 then i else i + 2 ^ 32 - 2 ^ 16) ∧ z = w % 64 ∧ w / 2 ^ 26 = 0 ∧ z = 14 ∧ w &&& 0x3C0 = 0 ∧ w / 1024 % 2 = 1 ∧ a.toInt * b.toInt < -2 ^ 31) :=
  ⟨⟨tram0 0x3e1f80c (tregs0 [(1, 0xa5c3f00f), (2, 0x80000ff1)] []), 63, 0x3e1f80c, 31, 31, 63500, 4294965260, 12, ⟨0, 0⟩, tregs0 [(1, 0xa5c3f00f), (2, 0x80000ff1)] [], 0xa5c3f00f, 0x0, by decide +kernel⟩,
   ⟨tram0 0x3e1f80d (tregs0 [(1, 0xa5c3f00f), (2, 0x80000ff1)] []), 63, 0x3e1f80d, 31, 31, 63501, 4294965261, 13, ⟨0, 0⟩, tregs0 [(1, 0xa5c3f00f), (2, 0x80000ff1)] [], 0xa5c3f00f, 0x0, by decide +kernel⟩,
   ⟨tram0 0x3e1100e (tregs0 [(1, 0xffffffff), (2, 0x3)] []), 63, 0x3e1100e, 31, 2, 4110, 4110, 14, ⟨0, 0⟩, tregs0 [(1, 0xffffffff), (2, 0x3)] [], 0xffffffff, 0x3, by decide +kernel⟩,
   ⟨tram0 0x3e1140e (tregs0 [(1, 0xffffffff), (2, 0x3)] []), 63, 0x3e1140e, 31, 2, 5134, 5134, 14, ⟨0, 0⟩, tregs0 [(1, 0xffffffff), (2, 0x3)] [], 0xffffffff, 0x3, by decide +kernel⟩,
   ⟨tram0 0x3e1140e (tregs0 [(1, 0x10000), (2, 0x8000)] []), 63, 0x3e1140e, 31, 2, 5134, 5134, 14, ⟨0, 0⟩, tregs0 [(1, 0x10000), (2, 0x8000)] [], 0x10000, 0x8000, by decide +kernel⟩,
   ⟨tram0 0x3e1140e (tregs0 [(1, 0x10000), (2, 0xffff7fff)] []), 63, 0x3e1140e, 31, 2, 5134, 5134, 14, ⟨0, 0⟩, tregs0 [(1, 0x10000), (2, 0xffff7fff)] [], 0x10000, 0xffff7fff, by decide +kernel⟩⟩

/-- The hypotheses of each clause of `Obligations.TramIntegers` can be met (5). -/
theorem test_hyps_TramIntegers_5 :
    (∃ (s : State) (e : Nat) (w : Nat) (d : Nat) (n : Nat) (i : Nat) (y : Nat) (z : Nat) (v : TramView) (x : Engine) (a : Word) (b : Word), s.standsAt e w = true ∧ v.fetchErrs = 0 ∧ x = s.eng e ∧ d = w / 2 ^ 21 % 32 ∧ a = x.rg (w / 2 ^ 16 % 32) ∧ b = x.rg (w / 2 ^ 11 % 32) ∧ n = w / 2 ^ 11 % 32 ∧ i = w % 2 ^ 16 ∧ y = (if i < 2 ^ 15 then i else i + 2 ^ 32 - 2 ^ 16) ∧ z = w % 64 ∧ w / 2 ^ 26 = 0 ∧ z = 15 ∧ w &&& 0x7C0 = 0) ∧
    (∃ (s : State) (e : Nat) (w : Nat) (d : Nat) (n : Nat) (i : Nat) (y : Nat) (z : Nat) (v : TramView) (x : Engine) (a : Word) (b : Word), s.standsAt e w = true ∧ v.fetchErrs = 0 ∧ x = s.eng e ∧ d = w / 2 ^ 21 % 32 ∧ a = x.rg (w / 2 ^ 16 % 32) ∧ b = x.rg (w / 2 ^ 11 % 32) ∧ n = w / 2 ^ 11 % 32 ∧ i = w % 2 ^ 16 ∧ y = (if i < 2 ^ 15 then i else i + 2 ^ 32 - 2 ^ 16) ∧ z = w % 64 ∧ w / 2 ^ 26 = 0 ∧ z = 16 ∧ w &&& 0x7C0 = 0) ∧
    (∃ (s : State) (e : Nat) (w : Nat) (d : Nat) (n : Nat) (i : Nat) (y : Nat) (z : Nat) (v : TramView) (x : Engine) (a : Word) (b : Word), s.standsAt e w = true ∧ v.fetchErrs = 0 ∧ x = s.eng e ∧ d = w / 2 ^ 21 % 32 ∧ a = x.rg (w / 2 ^ 16 % 32) ∧ b = x.rg (w / 2 ^ 11 % 32) ∧ n = w / 2 ^ 11 % 32 ∧ i = w % 2 ^ 16 ∧ y = (if i < 2 ^ 15 then i else i + 2 ^ 32 - 2 ^ 16) ∧ z = w % 64 ∧ w / 2 ^ 26 = 0 ∧ z = 17 ∧ w &&& 0x7C0 = 0) ∧
    (∃ (s : State) (e : Nat) (w : Nat) (d : Nat) (n : Nat) (i : Nat) (y : Nat) (z : Nat) (v : TramView) (x : Engine) (a : Word) (b : Word), s.standsAt e w = true ∧ v.fetchErrs = 0 ∧ x = s.eng e ∧ d = w / 2 ^ 21 % 32 ∧ a = x.rg (w / 2 ^ 16 % 32) ∧ b = x.rg (w / 2 ^ 11 % 32) ∧ n = w / 2 ^ 11 % 32 ∧ i = w % 2 ^ 16 ∧ y = (if i < 2 ^ 15 then i else i + 2 ^ 32 - 2 ^ 16) ∧ z = w % 64 ∧ w / 2 ^ 26 = 0 ∧ z = 18 ∧ w &&& 0x7C0 = 0) ∧
    (∃ (s : State) (e : Nat) (w : Nat) (d : Nat) (n : Nat) (i : Nat) (y : Nat) (z : Nat) (v : TramView) (x : Engine) (a : Word) (b : Word), s.standsAt e w = true ∧ v.fetchErrs = 0 ∧ x = s.eng e ∧ d = w / 2 ^ 21 % 32 ∧ a = x.rg (w / 2 ^ 16 % 32) ∧ b = x.rg (w / 2 ^ 11 % 32) ∧ n = w / 2 ^ 11 % 32 ∧ i = w % 2 ^ 16 ∧ y = (if i < 2 ^ 15 then i else i + 2 ^ 32 - 2 ^ 16) ∧ z = w % 64 ∧ w / 2 ^ 26 = 0 ∧ z = 19 ∧ w &&& 0xFBC0 = 0 ∧ w / 1024 % 2 = 0) ∧
    (∃ (s : State) (e : Nat) (w : Nat) (d : Nat) (n : Nat) (i : Nat) (y : Nat) (z : Nat) (v : TramView) (x : Engine) (a : Word) (b : Word), s.standsAt e w = true ∧ v.fetchErrs = 0 ∧ x = s.eng e ∧ d = w / 2 ^ 21 % 32 ∧ a = x.rg (w / 2 ^ 16 % 32) ∧ b = x.rg (w / 2 ^ 11 % 32) ∧ n = w / 2 ^ 11 % 32 ∧ i = w % 2 ^ 16 ∧ y = (if i < 2 ^ 15 then i else i + 2 ^ 32 - 2 ^ 16) ∧ z = w % 64 ∧ w / 2 ^ 26 = 0 ∧ z = 19 ∧ w &&& 0xFBC0 = 0 ∧ w / 1024 % 2 = 1 ∧ (a.toInt.natAbs : Int) < 2 ^ 31) :=
  ⟨⟨tram0 0x3e1100f (tregs0 [(1, 0xa5c3f00f), (2, 0x80000ff1)] []), 63, 0x3e1100f, 31, 2, 4111, 4111, 15, ⟨0, 0⟩, tregs0 [(1, 0xa5c3f00f), (2, 0x80000ff1)] [], 0xa5c3f00f, 0x80000ff1, by decide +kernel⟩,
   ⟨tram0 0x3e11010 (tregs0 [(1, 0xa5c3f00f), (2, 0x80000ff1)] []), 63, 0x3e11010, 31, 2, 4112, 4112, 16, ⟨0, 0⟩, tregs0 [(1, 0xa5c3f00f), (2, 0x80000ff1)] [], 0xa5c3f00f, 0x80000ff1, by decide +kernel⟩,
   ⟨tram0 0x3e11011 (tregs0 [(1, 0xa5c3f00f), (2, 0x80000ff1)] []), 63, 0x3e11011, 31, 2, 4113, 4113, 17, ⟨0, 0⟩, tregs0 [(1, 0xa5c3f00f), (2, 0x80000ff1)] [], 0xa5c3f00f, 0x80000ff1, by decide +kernel⟩,
   ⟨tram0 0x3e11012 (tregs0 [(1, 0xa5c3f00f), (2, 0x80000ff1)] []), 63, 0x3e11012, 31, 2, 4114, 4114, 18, ⟨0, 0⟩, tregs0 [(1, 0xa5c3f00f), (2, 0x80000ff1)] [], 0xa5c3f00f, 0x80000ff1, by decide +kernel⟩,
   ⟨tram0 0x3e10013 (tregs0 [(1, 0xa5c3f00f)] []), 63, 0x3e10013, 31, 0, 19, 19, 19, ⟨0, 0⟩, tregs0 [(1, 0xa5c3f00f)] [], 0xa5c3f00f, 0x0, by decide +kernel⟩,
   ⟨tram0 0x3e10413 (tregs0 [(1, 0xa5c3f00f)] []), 63, 0x3e10413, 31, 0, 1043, 1043, 19, ⟨0, 0⟩, tregs0 [(1, 0xa5c3f00f)] [], 0xa5c3f00f, 0x0, by decide +kernel⟩⟩

/-- The hypotheses of each clause of `Obligations.TramIntegers` can be met (6). -/
theorem test_hyps_TramIntegers_6 :
    (∃ (s : State) (e : Nat) (w : Nat) (d : Nat) (n : Nat) (i : Nat) (y : Nat) (z : Nat) (v : TramView) (x : Engine) (a : Word) (b : Word), s.standsAt e w = true ∧ v.fetchErrs = 0 ∧ x = s.eng e ∧ d = w / 2 ^ 21 % 32 ∧ a = x.rg (w / 2 ^ 16 % 32) ∧ b = x.rg (w / 2 ^ 11 % 32) ∧ n = w / 2 ^ 11 % 32 ∧ i = w % 2 ^ 16 ∧ y = (if i < 2 ^ 15 then i else i + 2 ^ 32 - 2 ^ 16) ∧ z = w % 64 ∧ w / 2 ^ 26 = 0 ∧ z = 19 ∧ w &&& 0xFBC0 = 0 ∧ w / 1024 % 2 = 1 ∧ 2 ^ 31 ≤ (a.toInt.natAbs : Int)) ∧
    (∃ (s : State) (e : Nat) (w : Nat) (d : Nat) (n : Nat) (i : Nat) (y : Nat) (z : Nat) (v : TramView) (x : Engine) (a : Word) (b : Word) (k : _), s.standsAt e w = true ∧ v.fetchErrs = 0 ∧ x = s.eng e ∧ d = w / 2 ^ 21 % 32 ∧ a = x.rg (w / 2 ^ 16 % 32) ∧ b = x.rg (w / 2 ^ 11 % 32) ∧ n = w / 2 ^ 11 % 32 ∧ i = w % 2 ^ 16 ∧ y = (if i < 2 ^ 15 then i else i + 2 ^ 32 - 2 ^ 16) ∧ z = w % 64 ∧ w / 2 ^ 26 = 0 ∧ z = 20 ∧ w &&& 0xFFC0 = 0 ∧ k ≤ 32 ∧ a.toNat < 2 ^ (32 - k) ∧ (k < 32 → 2 ^ (31 - k) ≤ a.toNat)) ∧
    (∃ (s : State) (e : Nat) (w : Nat) (d : Nat) (n : Nat) (i : Nat) (y : Nat) (z : Nat) (v : TramView) (x : Engine) (a : Word) (b : Word), s.standsAt e w = true ∧ v.fetchErrs = 0 ∧ x = s.eng e ∧ d = w / 2 ^ 21 % 32 ∧ a = x.rg (w / 2 ^ 16 % 32) ∧ b = x.rg (w / 2 ^ 11 % 32) ∧ n = w / 2 ^ 11 % 32 ∧ i = w % 2 ^ 16 ∧ y = (if i < 2 ^ 15 then i else i + 2 ^ 32 - 2 ^ 16) ∧ z = w % 64 ∧ w / 2 ^ 26 = 8) ∧
    (∃ (s : State) (e : Nat) (w : Nat) (d : Nat) (n : Nat) (i : Nat) (y : Nat) (z : Nat) (v : TramView) (x : Engine) (a : Word) (b : Word), s.standsAt e w = true ∧ v.fetchErrs = 0 ∧ x = s.eng e ∧ d = w / 2 ^ 21 % 32 ∧ a = x.rg (w / 2 ^ 16 % 32) ∧ b = x.rg (w / 2 ^ 11 % 32) ∧ n = w / 2 ^ 11 % 32 ∧ i = w % 2 ^ 16 ∧ y = (if i < 2 ^ 15 then i else i + 2 ^ 32 - 2 ^ 16) ∧ z = w % 64 ∧ w / 2 ^ 26 = 9) ∧
    (∃ (s : State) (e : Nat) (w : Nat) (d : Nat) (n : Nat) (i : Nat) (y : Nat) (z : Nat) (v : TramView) (x : Engine) (a : Word) (b : Word), s.standsAt e w = true ∧ v.fetchErrs = 0 ∧ x = s.eng e ∧ d = w / 2 ^ 21 % 32 ∧ a = x.rg (w / 2 ^ 16 % 32) ∧ b = x.rg (w / 2 ^ 11 % 32) ∧ n = w / 2 ^ 11 % 32 ∧ i = w % 2 ^ 16 ∧ y = (if i < 2 ^ 15 then i else i + 2 ^ 32 - 2 ^ 16) ∧ z = w % 64 ∧ w / 2 ^ 26 = 10) ∧
    (∃ (s : State) (e : Nat) (w : Nat) (d : Nat) (n : Nat) (i : Nat) (y : Nat) (z : Nat) (v : TramView) (x : Engine) (a : Word) (b : Word), s.standsAt e w = true ∧ v.fetchErrs = 0 ∧ x = s.eng e ∧ d = w / 2 ^ 21 % 32 ∧ a = x.rg (w / 2 ^ 16 % 32) ∧ b = x.rg (w / 2 ^ 11 % 32) ∧ n = w / 2 ^ 11 % 32 ∧ i = w % 2 ^ 16 ∧ y = (if i < 2 ^ 15 then i else i + 2 ^ 32 - 2 ^ 16) ∧ z = w % 64 ∧ w / 2 ^ 26 = 11) :=
  ⟨⟨tram0 0x3e10413 (tregs0 [(1, 0x80000000)] []), 63, 0x3e10413, 31, 0, 1043, 1043, 19, ⟨0, 0⟩, tregs0 [(1, 0x80000000)] [], 0x80000000, 0x0, by decide +kernel⟩,
   ⟨tram0 0x3e10014 (tregs0 [(1, 0x1)] []), 63, 0x3e10014, 31, 0, 20, 20, 20, ⟨0, 0⟩, tregs0 [(1, 0x1)] [], 0x1, 0x0, 31, by decide +kernel⟩,
   ⟨tram0 0x23e1ffff (tregs0 [(1, 0xa5c3f00f)] []), 63, 0x23e1ffff, 31, 31, 65535, 4294967295, 63, ⟨0, 0⟩, tregs0 [(1, 0xa5c3f00f)] [], 0xa5c3f00f, 0x0, by decide +kernel⟩,
   ⟨tram0 0x27e18000 (tregs0 [(1, 0xa5c3f00f)] []), 63, 0x27e18000, 31, 16, 32768, 4294934528, 0, ⟨0, 0⟩, tregs0 [(1, 0xa5c3f00f)] [], 0xa5c3f00f, 0x0, by decide +kernel⟩,
   ⟨tram0 0x2be18000 (tregs0 [(1, 0xa5c3f00f)] []), 63, 0x2be18000, 31, 16, 32768, 4294934528, 0, ⟨0, 0⟩, tregs0 [(1, 0xa5c3f00f)] [], 0xa5c3f00f, 0x0, by decide +kernel⟩,
   ⟨tram0 0x2fe1ffff (tregs0 [(1, 0xa5c3f00f)] []), 63, 0x2fe1ffff, 31, 31, 65535, 4294967295, 63, ⟨0, 0⟩, tregs0 [(1, 0xa5c3f00f)] [], 0xa5c3f00f, 0x0, by decide +kernel⟩⟩

/-- The hypotheses of each clause of `Obligations.TramIntegers` can be met (7). -/
theorem test_hyps_TramIntegers_7 :
    (∃ (s : State) (e : Nat) (w : Nat) (d : Nat) (n : Nat) (i : Nat) (y : Nat) (z : Nat) (v : TramView) (x : Engine) (a : Word) (b : Word), s.standsAt e w = true ∧ v.fetchErrs = 0 ∧ x = s.eng e ∧ d = w / 2 ^ 21 % 32 ∧ a = x.rg (w / 2 ^ 16 % 32) ∧ b = x.rg (w / 2 ^ 11 % 32) ∧ n = w / 2 ^ 11 % 32 ∧ i = w % 2 ^ 16 ∧ y = (if i < 2 ^ 15 then i else i + 2 ^ 32 - 2 ^ 16) ∧ z = w % 64 ∧ w / 2 ^ 26 = 12) ∧
    (∃ (s : State) (e : Nat) (w : Nat) (d : Nat) (n : Nat) (i : Nat) (y : Nat) (z : Nat) (v : TramView) (x : Engine) (a : Word) (b : Word), s.standsAt e w = true ∧ v.fetchErrs = 0 ∧ x = s.eng e ∧ d = w / 2 ^ 21 % 32 ∧ a = x.rg (w / 2 ^ 16 % 32) ∧ b = x.rg (w / 2 ^ 11 % 32) ∧ n = w / 2 ^ 11 % 32 ∧ i = w % 2 ^ 16 ∧ y = (if i < 2 ^ 15 then i else i + 2 ^ 32 - 2 ^ 16) ∧ z = w % 64 ∧ w / 2 ^ 26 = 13) ∧
    (∃ (s : State) (e : Nat) (w : Nat) (d : Nat) (n : Nat) (i : Nat) (y : Nat) (z : Nat) (v : TramView) (x : Engine) (a : Word) (b : Word), s.standsAt e w = true ∧ v.fetchErrs = 0 ∧ x = s.eng e ∧ d = w / 2 ^ 21 % 32 ∧ a = x.rg (w / 2 ^ 16 % 32) ∧ b = x.rg (w / 2 ^ 11 % 32) ∧ n = w / 2 ^ 11 % 32 ∧ i = w % 2 ^ 16 ∧ y = (if i < 2 ^ 15 then i else i + 2 ^ 32 - 2 ^ 16) ∧ z = w % 64 ∧ w / 2 ^ 26 = 14 ∧ w &&& 0x1F0000 = 0) ∧
    (∃ (s : State) (e : Nat) (w : Nat) (d : Nat) (n : Nat) (i : Nat) (y : Nat) (z : Nat) (v : TramView) (x : Engine) (a : Word) (b : Word), s.standsAt e w = true ∧ v.fetchErrs = 0 ∧ x = s.eng e ∧ d = w / 2 ^ 21 % 32 ∧ a = x.rg (w / 2 ^ 16 % 32) ∧ b = x.rg (w / 2 ^ 11 % 32) ∧ n = w / 2 ^ 11 % 32 ∧ i = w % 2 ^ 16 ∧ y = (if i < 2 ^ 15 then i else i + 2 ^ 32 - 2 ^ 16) ∧ z = w % 64 ∧ w / 2 ^ 26 = 0 ∧ z = 2 ∧ w &&& 0x7C0 ≠ 0) ∧
    (∃ (s : State) (e : Nat) (w : Nat) (d : Nat) (n : Nat) (i : Nat) (y : Nat) (z : Nat) (v : TramView) (x : Engine) (a : Word) (b : Word), s.standsAt e w = true ∧ v.fetchErrs = 0 ∧ x = s.eng e ∧ d = w / 2 ^ 21 % 32 ∧ a = x.rg (w / 2 ^ 16 % 32) ∧ b = x.rg (w / 2 ^ 11 % 32) ∧ n = w / 2 ^ 11 % 32 ∧ i = w % 2 ^ 16 ∧ y = (if i < 2 ^ 15 then i else i + 2 ^ 32 - 2 ^ 16) ∧ z = w % 64 ∧ w / 2 ^ 26 = 14 ∧ w &&& 0x1F0000 ≠ 0) ∧
    (∃ (s : State) (e : Nat) (w : Nat) (d : Nat) (n : Nat) (i : Nat) (y : Nat) (z : Nat) (v : TramView) (x : Engine) (a : Word) (b : Word), s.standsAt e w = true ∧ v.fetchErrs = 0 ∧ x = s.eng e ∧ d = w / 2 ^ 21 % 32 ∧ a = x.rg (w / 2 ^ 16 % 32) ∧ b = x.rg (w / 2 ^ 11 % 32) ∧ n = w / 2 ^ 11 % 32 ∧ i = w % 2 ^ 16 ∧ y = (if i < 2 ^ 15 then i else i + 2 ^ 32 - 2 ^ 16) ∧ z = w % 64 ∧ (w / 2 ^ 26 ≠ 0 ∨ z ≠ 2)) :=
  ⟨⟨tram0 0x33e1ffff (tregs0 [(1, 0xa5c3f00f)] []), 63, 0x33e1ffff, 31, 31, 65535, 4294967295, 63, ⟨0, 0⟩, tregs0 [(1, 0xa5c3f00f)] [], 0xa5c3f00f, 0x0, by decide +kernel⟩,
   ⟨tram0 0x37e1ffff (tregs0 [(1, 0xa5c3f00f)] []), 63, 0x37e1ffff, 31, 31, 65535, 4294967295, 63, ⟨0, 0⟩, tregs0 [(1, 0xa5c3f00f)] [], 0xa5c3f00f, 0x0, by decide +kernel⟩,
   ⟨tram0 0x3be08001 (tregs0 [(1, 0xa5c3f00f)] []), 63, 0x3be08001, 31, 16, 32769, 4294934529, 1, ⟨0, 0⟩, tregs0 [(1, 0xa5c3f00f)] [], 0x0, 0x0, by decide +kernel⟩,
   ⟨tram0 0x3e11402 (tregs0 [(1, 0xa5c3f00f), (2, 0x80000ff1)] []), 63, 0x3e11402, 31, 2, 5122, 5122, 2, ⟨0, 0⟩, tregs0 [(1, 0xa5c3f00f), (2, 0x80000ff1)] [], 0xa5c3f00f, 0x80000ff1, by decide +kernel⟩,
   ⟨tram0 0x3be11002 (tregs0 [(1, 0xa5c3f00f), (2, 0x80000ff1)] []), 63, 0x3be11002, 31, 2, 4098, 4098, 2, ⟨0, 0⟩, tregs0 [(1, 0xa5c3f00f), (2, 0x80000ff1)] [], 0xa5c3f00f, 0x80000ff1, by decide +kernel⟩,
   ⟨tram0 0x3e11003 (tregs0 [(1, 0xa5c3f00f), (2, 0x80000ff1)] []), 63, 0x3e11003, 31, 2, 4099, 4099, 3, ⟨0, 0⟩, tregs0 [(1, 0xa5c3f00f), (2, 0x80000ff1)] [], 0xa5c3f00f, 0x80000ff1, by decide +kernel⟩⟩

/-- The hypotheses of each clause of `Obligations.TramIntegers` can be met (8). -/
theorem test_hyps_TramIntegers_8 :
    (∃ (s : State) (e : Nat) (w : Nat) (d : Nat) (n : Nat) (i : Nat) (y : Nat) (z : Nat) (v : TramView) (x : Engine) (a : Word) (b : Word), s.standsAt e w = true ∧ v.fetchErrs = 0 ∧ x = s.eng e ∧ d = w / 2 ^ 21 % 32 ∧ a = x.rg (w / 2 ^ 16 % 32) ∧ b = x.rg (w / 2 ^ 11 % 32) ∧ n = w / 2 ^ 11 % 32 ∧ i = w % 2 ^ 16 ∧ y = (if i < 2 ^ 15 then i else i + 2 ^ 32 - 2 ^ 16) ∧ z = w % 64 ∧ w / 2 ^ 26 = 0 ∧ 22 < z) :=
  ⟨tram0 0x3e11017 (tregs0 [(1, 0xa5c3f00f), (2, 0x80000ff1)] []), 63, 0x3e11017, 31, 2, 4119, 4119, 23, ⟨0, 0⟩, tregs0 [(1, 0xa5c3f00f), (2, 0x80000ff1)] [], 0xa5c3f00f, 0x80000ff1, by decide +kernel⟩

/-- The hypotheses of each clause of `Obligations.TramMac` can be met (1). -/
theorem test_hyps_TramMac :
    (∃ (s : State) (e : Nat) (w : Nat) (d : Nat) (m : Nat) (k : Nat) (n : Nat) (sh : Nat) (v : TramView) (x : Engine) (y : Engine) (a : Word) (b : Word) (acc : Acc72) (src : Acc72) (al : Int) (ah : Int) (bl : Int) (bh : Int) (r : Int), s.standsAt e w = true ∧ v.fetchErrs = 0 ∧ x = s.eng e ∧ d = w / 2 ^ 21 % 32 ∧ m = w / 2 ^ 24 % 4 ∧ k = w / 2 ^ 13 % 4 ∧ n = w / 2 ^ 11 % 32 ∧ sh = w / 2 ^ 15 % 64 ∧ a = x.rg (w / 2 ^ 16 % 32) ∧ b = x.rg n ∧ acc = Tab.get 0 x.acc m ∧ src = Tab.get 0 x.acc k ∧ y = { x with accOld := [(m, acc)] } ∧ al = (if w / 512 % 2 = 1 then ((a.toNat % 65536 : Nat) : Int) else (a.extractLsb' 0 16).toInt) ∧ ah = (if w / 512 % 2 = 1 then ((a.toNat / 65536 : Nat) : Int) else (a.extractLsb' 16 16).toInt) ∧ bl = (if w / 512 % 2 = 1 then ((b.toNat % 65536 : Nat) : Int) else (b.extractLsb' 0 16).toInt) ∧ bh = (if w / 512 % 2 = 1 then ((b.toNat / 65536 : Nat) : Int) else (b.extractLsb' 16 16).toInt) ∧ w / 2 ^ 26 = 1 ∧ r = acc.toInt + (al * bl + ah * bh) ∧ w % 64 = 0 ∧ w &&& 0xE001C0 = 0 ∧ (w / 1024 % 2 = 0 ∨ (-2 ^ 71 ≤ r ∧ r < 2 ^ 71))) ∧
    (∃ (s : State) (e : Nat) (w : Nat) (d : Nat) (m : Nat) (k : Nat) (n : Nat) (sh : Nat) (v : TramView) (x : Engine) (y : Engine) (a : Word) (b : Word) (acc : Acc72) (src : Acc72) (al : Int) (ah : Int) (bl : Int) (bh : Int) (r : Int), s.standsAt e w = true ∧ v.fetchErrs = 0 ∧ x = s.eng e ∧ d = w / 2 ^ 21 % 32 ∧ m = w / 2 ^ 24 % 4 ∧ k = w / 2 ^ 13 % 4 ∧ n = w / 2 ^ 11 % 32 ∧ sh = w / 2 ^ 15 % 64 ∧ a = x.rg (w / 2 ^ 16 % 32) ∧ b = x.rg n ∧ acc = Tab.get 0 x.acc m ∧ src = Tab.get 0 x.acc k ∧ y = { x with accOld := [(m, acc)] } ∧ al = (if w / 512 % 2 = 1 then ((a.toNat % 65536 : Nat) : Int) else (a.extractLsb' 0 16).toInt) ∧ ah = (if w / 512 % 2 = 1 then ((a.toNat / 65536 : Nat) : Int) else (a.extractLsb' 16 16).toInt) ∧ bl = (if w / 512 % 2 = 1 then ((b.toNat % 65536 : Nat) : Int) else (b.extractLsb' 0 16).toInt) ∧ bh = (if w / 512 % 2 = 1 then ((b.toNat / 65536 : Nat) : Int) else (b.extractLsb' 16 16).toInt) ∧ w / 2 ^ 26 = 1 ∧ r = acc.toInt + (al * bl + ah * bh) ∧ w % 64 = 0 ∧ w &&& 0xE001C0 = 0 ∧ w / 1024 % 2 = 1 ∧ 2 ^ 71 ≤ r) ∧
    (∃ (s : State) (e : Nat) (w : Nat) (d : Nat) (m : Nat) (k : Nat) (n : Nat) (sh : Nat) (v : TramView) (x : Engine) (y : Engine) (a : Word) (b : Word) (acc : Acc72) (src : Acc72) (al : Int) (ah : Int) (bl : Int) (bh : Int) (r : Int), s.standsAt e w = true ∧ v.fetchErrs = 0 ∧ x = s.eng e ∧ d = w / 2 ^ 21 % 32 ∧ m = w / 2 ^ 24 % 4 ∧ k = w / 2 ^ 13 % 4 ∧ n = w / 2 ^ 11 % 32 ∧ sh = w / 2 ^ 15 % 64 ∧ a = x.rg (w / 2 ^ 16 % 32) ∧ b = x.rg n ∧ acc = Tab.get 0 x.acc m ∧ src = Tab.get 0 x.acc k ∧ y = { x with accOld := [(m, acc)] } ∧ al = (if w / 512 % 2 = 1 then ((a.toNat % 65536 : Nat) : Int) else (a.extractLsb' 0 16).toInt) ∧ ah = (if w / 512 % 2 = 1 then ((a.toNat / 65536 : Nat) : Int) else (a.extractLsb' 16 16).toInt) ∧ bl = (if w / 512 % 2 = 1 then ((b.toNat % 65536 : Nat) : Int) else (b.extractLsb' 0 16).toInt) ∧ bh = (if w / 512 % 2 = 1 then ((b.toNat / 65536 : Nat) : Int) else (b.extractLsb' 16 16).toInt) ∧ w / 2 ^ 26 = 1 ∧ r = acc.toInt + (al * bl + ah * bh) ∧ w % 64 = 0 ∧ w &&& 0xE001C0 = 0 ∧ w / 1024 % 2 = 1 ∧ r < -2 ^ 71) ∧
    (∃ (s : State) (e : Nat) (w : Nat) (d : Nat) (m : Nat) (k : Nat) (n : Nat) (sh : Nat) (v : TramView) (x : Engine) (y : Engine) (a : Word) (b : Word) (acc : Acc72) (src : Acc72) (al : Int) (ah : Int) (bl : Int) (bh : Int) (r : Int), s.standsAt e w = true ∧ v.fetchErrs = 0 ∧ x = s.eng e ∧ d = w / 2 ^ 21 % 32 ∧ m = w / 2 ^ 24 % 4 ∧ k = w / 2 ^ 13 % 4 ∧ n = w / 2 ^ 11 % 32 ∧ sh = w / 2 ^ 15 % 64 ∧ a = x.rg (w / 2 ^ 16 % 32) ∧ b = x.rg n ∧ acc = Tab.get 0 x.acc m ∧ src = Tab.get 0 x.acc k ∧ y = { x with accOld := [(m, acc)] } ∧ al = (if w / 512 % 2 = 1 then ((a.toNat % 65536 : Nat) : Int) else (a.extractLsb' 0 16).toInt) ∧ ah = (if w / 512 % 2 = 1 then ((a.toNat / 65536 : Nat) : Int) else (a.extractLsb' 16 16).toInt) ∧ bl = (if w / 512 % 2 = 1 then ((b.toNat % 65536 : Nat) : Int) else (b.extractLsb' 0 16).toInt) ∧ bh = (if w / 512 % 2 = 1 then ((b.toNat / 65536 : Nat) : Int) else (b.extractLsb' 16 16).toInt) ∧ w / 2 ^ 26 = 1 ∧ r = acc.toInt + (-(al * bl) - ah * bh) ∧ w % 64 = 1 ∧ w &&& 0xE001C0 = 0 ∧ (w / 1024 % 2 = 0 ∨ (-2 ^ 71 ≤ r ∧ r < 2 ^ 71))) ∧
    (∃ (s : State) (e : Nat) (w : Nat) (d : Nat) (m : Nat) (k : Nat) (n : Nat) (sh : Nat) (v : TramView) (x : Engine) (y : Engine) (a : Word) (b : Word) (acc : Acc72) (src : Acc72) (al : Int) (ah : Int) (bl : Int) (bh : Int) (r : Int), s.standsAt e w = true ∧ v.fetchErrs = 0 ∧ x = s.eng e ∧ d = w / 2 ^ 21 % 32 ∧ m = w / 2 ^ 24 % 4 ∧ k = w / 2 ^ 13 % 4 ∧ n = w / 2 ^ 11 % 32 ∧ sh = w / 2 ^ 15 % 64 ∧ a = x.rg (w / 2 ^ 16 % 32) ∧ b = x.rg n ∧ acc = Tab.get 0 x.acc m ∧ src = Tab.get 0 x.acc k ∧ y = { x with accOld := [(m, acc)] } ∧ al = (if w / 512 % 2 = 1 then ((a.toNat % 65536 : Nat) : Int) else (a.extractLsb' 0 16).toInt) ∧ ah = (if w / 512 % 2 = 1 then ((a.toNat / 65536 : Nat) : Int) else (a.extractLsb' 16 16).toInt) ∧ bl = (if w / 512 % 2 = 1 then ((b.toNat % 65536 : Nat) : Int) else (b.extractLsb' 0 16).toInt) ∧ bh = (if w / 512 % 2 = 1 then ((b.toNat / 65536 : Nat) : Int) else (b.extractLsb' 16 16).toInt) ∧ w / 2 ^ 26 = 1 ∧ r = acc.toInt + (-(al * bl) - ah * bh) ∧ w % 64 = 1 ∧ w &&& 0xE001C0 = 0 ∧ w / 1024 % 2 = 1 ∧ 2 ^ 71 ≤ r) ∧
    (∃ (s : State) (e : Nat) (w : Nat) (d : Nat) (m : Nat) (k : Nat) (n : Nat) (sh : Nat) (v : TramView) (x : Engine) (y : Engine) (a : Word) (b : Word) (acc : Acc72) (src : Acc72) (al : Int) (ah : Int) (bl : Int) (bh : Int) (r : Int), s.standsAt e w = true ∧ v.fetchErrs = 0 ∧ x = s.eng e ∧ d = w / 2 ^ 21 % 32 ∧ m = w / 2 ^ 24 % 4 ∧ k = w / 2 ^ 13 % 4 ∧ n = w / 2 ^ 11 % 32 ∧ sh = w / 2 ^ 15 % 64 ∧ a = x.rg (w / 2 ^ 16 % 32) ∧ b = x.rg n ∧ acc = Tab.get 0 x.acc m ∧ src = Tab.get 0 x.acc k ∧ y = { x with accOld := [(m, acc)] } ∧ al = (if w / 512 % 2 = 1 then ((a.toNat % 65536 : Nat) : Int) else (a.extractLsb' 0 16).toInt) ∧ ah = (if w / 512 % 2 = 1 then ((a.toNat / 65536 : Nat) : Int) else (a.extractLsb' 16 16).toInt) ∧ bl = (if w / 512 % 2 = 1 then ((b.toNat % 65536 : Nat) : Int) else (b.extractLsb' 0 16).toInt) ∧ bh = (if w / 512 % 2 = 1 then ((b.toNat / 65536 : Nat) : Int) else (b.extractLsb' 16 16).toInt) ∧ w / 2 ^ 26 = 1 ∧ r = acc.toInt + (-(al * bl) - ah * bh) ∧ w % 64 = 1 ∧ w &&& 0xE001C0 = 0 ∧ w / 1024 % 2 = 1 ∧ r < -2 ^ 71) :=
  ⟨⟨tram0 0x7011200 (tregs0 [(1, 0xfffe8001), (2, 0x7fff0003)] [(3, 0x5)]), 63, 0x7011200, 24, 3, 0, 2, 2, ⟨0, 0⟩, tregs0 [(1, 0xfffe8001), (2, 0x7fff0003)] [(3, 0x5)], { tregs0 [(1, 0xfffe8001), (2, 0x7fff0003)] [(3, 0x5)] with accOld := [(3, 0x5)] }, 0xfffe8001, 0x7fff0003, 0x5, 0x0, 32769, 65534, 3, 32767, 2147450890, by decide +kernel⟩,
   ⟨tram0 0x7011400 (tregs0 [(1, 0x10001), (2, 0x10001)] [(3, 0x7fffffffffffffffff)]), 63, 0x7011400, 24, 3, 0, 2, 2, ⟨0, 0⟩, tregs0 [(1, 0x10001), (2, 0x10001)] [(3, 0x7fffffffffffffffff)], { tregs0 [(1, 0x10001), (2, 0x10001)] [(3, 0x7fffffffffffffffff)] with accOld := [(3, 0x7fffffffffffffffff)] }, 0x10001, 0x10001, 0x7fffffffffffffffff, 0x0, 1, 1, 1, 1, 2361183241434822606849, by decide +kernel⟩,
   ⟨tram0 0x7011400 (tregs0 [(1, 0x10001), (2, 0xffffffff)] [(3, 0x800000000000000000)]), 63, 0x7011400, 24, 3, 0, 2, 2, ⟨0, 0⟩, tregs0 [(1, 0x10001), (2, 0xffffffff)] [(3, 0x800000000000000000)], { tregs0 [(1, 0x10001), (2, 0xffffffff)] [(3, 0x800000000000000000)] with accOld := [(3, 0x800000000000000000)] }, 0x10001, 0xffffffff, 0x800000000000000000, 0x0, 1, 1, -1, -1, -2361183241434822606850, by decide +kernel⟩,
   ⟨tram0 0x7011201 (tregs0 [(1, 0xfffe8001), (2, 0x7fff0003)] [(3, 0x5)]), 63, 0x7011201, 24, 3, 0, 2, 2, ⟨0, 0⟩, tregs0 [(1, 0xfffe8001), (2, 0x7fff0003)] [(3, 0x5)], { tregs0 [(1, 0xfffe8001), (2, 0x7fff0003)] [(3, 0x5)] with accOld := [(3, 0x5)] }, 0xfffe8001, 0x7fff0003, 0x5, 0x0, 32769, 65534, 3, 32767, -2147450880, by decide +kernel⟩,
   ⟨tram0 0x7011401 (tregs0 [(1, 0x10001), (2, 0xffff)] [(3, 0x7fffffffffffffffff)]), 63, 0x7011401, 24, 3, 0, 2, 2, ⟨0, 0⟩, tregs0 [(1, 0x10001), (2, 0xffff)] [(3, 0x7fffffffffffffffff)], { tregs0 [(1, 0x10001), (2, 0xffff)] [(3, 0x7fffffffffffffffff)] with accOld := [(3, 0x7fffffffffffffffff)] }, 0x10001, 0xffff, 0x7fffffffffffffffff, 0x0, 1, 1, -1, 0, 2361183241434822606848, by decide +kernel⟩,
   ⟨tram0 0x7011401 (tregs0 [(1, 0x10001), (2, 0x1)] [(3, 0x800000000000000000)]), 63, 0x7011401, 24, 3, 0, 2, 2, ⟨0, 0⟩, tregs0 [(1, 0x10001), (2, 0x1)] [(3, 0x800000000000000000)], { tregs0 [(1, 0x10001), (2, 0x1)] [(3, 0x800000000000000000)] with accOld := [(3, 0x800000000000000000)] }, 0x10001, 0x1, 0x800000000000000000, 0x0, 1, 1, 1, 0, -2361183241434822606849, by decide +kernel⟩⟩

/-- The hypotheses of each clause of `Obligations.TramMac` can be met (2). -/
theorem test_hyps_TramMac_2 :
    (∃ (s : State) (e : Nat) (w : Nat) (d : Nat) (m : Nat) (k : Nat) (n : Nat) (sh : Nat) (v : TramView) (x : Engine) (y : Engine) (a : Word) (b : Word) (acc : Acc72) (src : Acc72) (al : Int) (ah : Int) (bl : Int) (bh : Int) (r : Int), s.standsAt e w = true ∧ v.fetchErrs = 0 ∧ x = s.eng e ∧ d = w / 2 ^ 21 % 32 ∧ m = w / 2 ^ 24 % 4 ∧ k = w / 2 ^ 13 % 4 ∧ n = w / 2 ^ 11 % 32 ∧ sh = w / 2 ^ 15 % 64 ∧ a = x.rg (w / 2 ^ 16 % 32) ∧ b = x.rg n ∧ acc = Tab.get 0 x.acc m ∧ src = Tab.get 0 x.acc k ∧ y = { x with accOld := [(m, acc)] } ∧ al = (if w / 512 % 2 = 1 then ((a.toNat % 65536 : Nat) : Int) else (a.extractLsb' 0 16).toInt) ∧ ah = (if w / 512 % 2 = 1 then ((a.toNat / 65536 : Nat) : Int) else (a.extractLsb' 16 16).toInt) ∧ bl = (if w / 512 % 2 = 1 then ((b.toNat % 65536 : Nat) : Int) else (b.extractLsb' 0 16).toInt) ∧ bh = (if w / 512 % 2 = 1 then ((b.toNat / 65536 : Nat) : Int) else (b.extractLsb' 16 16).toInt) ∧ w / 2 ^ 26 = 1 ∧ r = acc.toInt + (al * bh + ah * bl) ∧ w % 64 = 2 ∧ w &&& 0xE001C0 = 0 ∧ (w / 1024 % 2 = 0 ∨ (-2 ^ 71 ≤ r ∧ r < 2 ^ 71))) ∧
    (∃ (s : State) (e : Nat) (w : Nat) (d : Nat) (m : Nat) (k : Nat) (n : Nat) (sh : Nat) (v : TramView) (x : Engine) (y : Engine) (a : Word) (b : Word) (acc : Acc72) (src : Acc72) (al : Int) (ah : Int) (bl : Int) (bh : Int) (r : Int), s.standsAt e w = true ∧ v.fetchErrs = 0 ∧ x = s.eng e ∧ d = w / 2 ^ 21 % 32 ∧ m = w / 2 ^ 24 % 4 ∧ k = w / 2 ^ 13 % 4 ∧ n = w / 2 ^ 11 % 32 ∧ sh = w / 2 ^ 15 % 64 ∧ a = x.rg (w / 2 ^ 16 % 32) ∧ b = x.rg n ∧ acc = Tab.get 0 x.acc m ∧ src = Tab.get 0 x.acc k ∧ y = { x with accOld := [(m, acc)] } ∧ al = (if w / 512 % 2 = 1 then ((a.toNat % 65536 : Nat) : Int) else (a.extractLsb' 0 16).toInt) ∧ ah = (if w / 512 % 2 = 1 then ((a.toNat / 65536 : Nat) : Int) else (a.extractLsb' 16 16).toInt) ∧ bl = (if w / 512 % 2 = 1 then ((b.toNat % 65536 : Nat) : Int) else (b.extractLsb' 0 16).toInt) ∧ bh = (if w / 512 % 2 = 1 then ((b.toNat / 65536 : Nat) : Int) else (b.extractLsb' 16 16).toInt) ∧ w / 2 ^ 26 = 1 ∧ r = acc.toInt + (al * bh + ah * bl) ∧ w % 64 = 2 ∧ w &&& 0xE001C0 = 0 ∧ w / 1024 % 2 = 1 ∧ 2 ^ 71 ≤ r) ∧
    (∃ (s : State) (e : Nat) (w : Nat) (d : Nat) (m : Nat) (k : Nat) (n : Nat) (sh : Nat) (v : TramView) (x : Engine) (y : Engine) (a : Word) (b : Word) (acc : Acc72) (src : Acc72) (al : Int) (ah : Int) (bl : Int) (bh : Int) (r : Int), s.standsAt e w = true ∧ v.fetchErrs = 0 ∧ x = s.eng e ∧ d = w / 2 ^ 21 % 32 ∧ m = w / 2 ^ 24 % 4 ∧ k = w / 2 ^ 13 % 4 ∧ n = w / 2 ^ 11 % 32 ∧ sh = w / 2 ^ 15 % 64 ∧ a = x.rg (w / 2 ^ 16 % 32) ∧ b = x.rg n ∧ acc = Tab.get 0 x.acc m ∧ src = Tab.get 0 x.acc k ∧ y = { x with accOld := [(m, acc)] } ∧ al = (if w / 512 % 2 = 1 then ((a.toNat % 65536 : Nat) : Int) else (a.extractLsb' 0 16).toInt) ∧ ah = (if w / 512 % 2 = 1 then ((a.toNat / 65536 : Nat) : Int) else (a.extractLsb' 16 16).toInt) ∧ bl = (if w / 512 % 2 = 1 then ((b.toNat % 65536 : Nat) : Int) else (b.extractLsb' 0 16).toInt) ∧ bh = (if w / 512 % 2 = 1 then ((b.toNat / 65536 : Nat) : Int) else (b.extractLsb' 16 16).toInt) ∧ w / 2 ^ 26 = 1 ∧ r = acc.toInt + (al * bh + ah * bl) ∧ w % 64 = 2 ∧ w &&& 0xE001C0 = 0 ∧ w / 1024 % 2 = 1 ∧ r < -2 ^ 71) ∧
    (∃ (s : State) (e : Nat) (w : Nat) (d : Nat) (m : Nat) (k : Nat) (n : Nat) (sh : Nat) (v : TramView) (x : Engine) (y : Engine) (a : Word) (b : Word) (acc : Acc72) (src : Acc72) (al : Int) (ah : Int) (bl : Int) (bh : Int) (r : Int), s.standsAt e w = true ∧ v.fetchErrs = 0 ∧ x = s.eng e ∧ d = w / 2 ^ 21 % 32 ∧ m = w / 2 ^ 24 % 4 ∧ k = w / 2 ^ 13 % 4 ∧ n = w / 2 ^ 11 % 32 ∧ sh = w / 2 ^ 15 % 64 ∧ a = x.rg (w / 2 ^ 16 % 32) ∧ b = x.rg n ∧ acc = Tab.get 0 x.acc m ∧ src = Tab.get 0 x.acc k ∧ y = { x with accOld := [(m, acc)] } ∧ al = (if w / 512 % 2 = 1 then ((a.toNat % 65536 : Nat) : Int) else (a.extractLsb' 0 16).toInt) ∧ ah = (if w / 512 % 2 = 1 then ((a.toNat / 65536 : Nat) : Int) else (a.extractLsb' 16 16).toInt) ∧ bl = (if w / 512 % 2 = 1 then ((b.toNat % 65536 : Nat) : Int) else (b.extractLsb' 0 16).toInt) ∧ bh = (if w / 512 % 2 = 1 then ((b.toNat / 65536 : Nat) : Int) else (b.extractLsb' 16 16).toInt) ∧ w / 2 ^ 26 = 1 ∧ r = al * bl + ah * bh ∧ w % 64 = 3 ∧ w &&& 0xE001C0 = 0 ∧ (w / 1024 % 2 = 0 ∨ (-2 ^ 71 ≤ r ∧ r < 2 ^ 71))) ∧
    (∃ (s : State) (e : Nat) (w : Nat) (d : Nat) (m : Nat) (k : Nat) (n : Nat) (sh : Nat) (v : TramView) (x : Engine) (y : Engine) (a : Word) (b : Word) (acc : Acc72) (src : Acc72) (al : Int) (ah : Int) (bl : Int) (bh : Int) (r : Int), s.standsAt e w = true ∧ v.fetchErrs = 0 ∧ x = s.eng e ∧ d = w / 2 ^ 21 % 32 ∧ m = w / 2 ^ 24 % 4 ∧ k = w / 2 ^ 13 % 4 ∧ n = w / 2 ^ 11 % 32 ∧ sh = w / 2 ^ 15 % 64 ∧ a = x.rg (w / 2 ^ 16 % 32) ∧ b = x.rg n ∧ acc = Tab.get 0 x.acc m ∧ src = Tab.get 0 x.acc k ∧ y = { x with accOld := [(m, acc)] } ∧ al = (if w / 512 % 2 = 1 then ((a.toNat % 65536 : Nat) : Int) else (a.extractLsb' 0 16).toInt) ∧ ah = (if w / 512 % 2 = 1 then ((a.toNat / 65536 : Nat) : Int) else (a.extractLsb' 16 16).toInt) ∧ bl = (if w / 512 % 2 = 1 then ((b.toNat % 65536 : Nat) : Int) else (b.extractLsb' 0 16).toInt) ∧ bh = (if w / 512 % 2 = 1 then ((b.toNat / 65536 : Nat) : Int) else (b.extractLsb' 16 16).toInt) ∧ w / 2 ^ 26 = 1 ∧ r = acc.toInt + al * bl ∧ w % 64 = 4 ∧ w &&& 0xE001C0 = 0 ∧ (w / 1024 % 2 = 0 ∨ (-2 ^ 71 ≤ r ∧ r < 2 ^ 71))) ∧
    (∃ (s : State) (e : Nat) (w : Nat) (d : Nat) (m : Nat) (k : Nat) (n : Nat) (sh : Nat) (v : TramView) (x : Engine) (y : Engine) (a : Word) (b : Word) (acc : Acc72) (src : Acc72) (al : Int) (ah : Int) (bl : Int) (bh : Int) (r : Int), s.standsAt e w = true ∧ v.fetchErrs = 0 ∧ x = s.eng e ∧ d = w / 2 ^ 21 % 32 ∧ m = w / 2 ^ 24 % 4 ∧ k = w / 2 ^ 13 % 4 ∧ n = w / 2 ^ 11 % 32 ∧ sh = w / 2 ^ 15 % 64 ∧ a = x.rg (w / 2 ^ 16 % 32) ∧ b = x.rg n ∧ acc = Tab.get 0 x.acc m ∧ src = Tab.get 0 x.acc k ∧ y = { x with accOld := [(m, acc)] } ∧ al = (if w / 512 % 2 = 1 then ((a.toNat % 65536 : Nat) : Int) else (a.extractLsb' 0 16).toInt) ∧ ah = (if w / 512 % 2 = 1 then ((a.toNat / 65536 : Nat) : Int) else (a.extractLsb' 16 16).toInt) ∧ bl = (if w / 512 % 2 = 1 then ((b.toNat % 65536 : Nat) : Int) else (b.extractLsb' 0 16).toInt) ∧ bh = (if w / 512 % 2 = 1 then ((b.toNat / 65536 : Nat) : Int) else (b.extractLsb' 16 16).toInt) ∧ w / 2 ^ 26 = 1 ∧ r = acc.toInt + al * bl ∧ w % 64 = 4 ∧ w &&& 0xE001C0 = 0 ∧ w / 1024 % 2 = 1 ∧ 2 ^ 71 ≤ r) :=
  ⟨⟨tram0 0x7011202 (tregs0 [(1, 0xfffe8001), (2, 0x7fff0003)] [(3, 0x5)]), 63, 0x7011202, 24, 3, 0, 2, 2, ⟨0, 0⟩, tregs0 [(1, 0xfffe8001), (2, 0x7fff0003)] [(3, 0x5)], { tregs0 [(1, 0xfffe8001), (2, 0x7fff0003)] [(3, 0x5)] with accOld := [(3, 0x5)] }, 0xfffe8001, 0x7fff0003, 0x5, 0x0, 32769, 65534, 3, 32767, 1073938430, by decide +kernel⟩,
   ⟨tram0 0x7011402 (tregs0 [(1, 0x10001), (2, 0x10001)] [(3, 0x7fffffffffffffffff)]), 63, 0x7011402, 24, 3, 0, 2, 2, ⟨0, 0⟩, tregs0 [(1, 0x10001), (2, 0x10001)] [(3, 0x7fffffffffffffffff)], { tregs0 [(1, 0x10001), (2, 0x10001)] [(3, 0x7fffffffffffffffff)] with accOld := [(3, 0x7fffffffffffffffff)] }, 0x10001, 0x10001, 0x7fffffffffffffffff, 0x0, 1, 1, 1, 1, 2361183241434822606849, by decide +kernel⟩,
   ⟨tram0 0x7011402 (tregs0 [(1, 0x10001), (2, 0xffffffff)] [(3, 0x800000000000000000)]), 63, 0x7011402, 24, 3, 0, 2, 2, ⟨0, 0⟩, tregs0 [(1, 0x10001), (2, 0xffffffff)] [(3, 0x800000000000000000)], { tregs0 [(1, 0x10001), (2, 0xffffffff)] [(3, 0x800000000000000000)] with accOld := [(3, 0x800000000000000000)] }, 0x10001, 0xffffffff, 0x800000000000000000, 0x0, 1, 1, -1, -1, -2361183241434822606850, by decide +kernel⟩,
   ⟨tram0 0x7011203 (tregs0 [(1, 0xfffe8001), (2, 0x7fff0003)] [(3, 0x5)]), 63, 0x7011203, 24, 3, 0, 2, 2, ⟨0, 0⟩, tregs0 [(1, 0xfffe8001), (2, 0x7fff0003)] [(3, 0x5)], { tregs0 [(1, 0xfffe8001), (2, 0x7fff0003)] [(3, 0x5)] with accOld := [(3, 0x5)] }, 0xfffe8001, 0x7fff0003, 0x5, 0x0, 32769, 65534, 3, 32767, 2147450885, by decide +kernel⟩,
   ⟨tram0 0x7011204 (tregs0 [(1, 0xfffe8001), (2, 0x7fff0003)] [(3, 0x5)]), 63, 0x7011204, 24, 3, 0, 2, 2, ⟨0, 0⟩, tregs0 [(1, 0xfffe8001), (2, 0x7fff0003)] [(3, 0x5)], { tregs0 [(1, 0xfffe8001), (2, 0x7fff0003)] [(3, 0x5)] with accOld := [(3, 0x5)] }, 0xfffe8001, 0x7fff0003, 0x5, 0x0, 32769, 65534, 3, 32767, 98312, by decide +kernel⟩,
   ⟨tram0 0x7011404 (tregs0 [(1, 0x10001), (2, 0x10001)] [(3, 0x7fffffffffffffffff)]), 63, 0x7011404, 24, 3, 0, 2, 2, ⟨0, 0⟩, tregs0 [(1, 0x10001), (2, 0x10001)] [(3, 0x7fffffffffffffffff)], { tregs0 [(1, 0x10001), (2, 0x10001)] [(3, 0x7fffffffffffffffff)] with accOld := [(3, 0x7fffffffffffffffff)] }, 0x10001, 0x10001, 0x7fffffffffffffffff, 0x0, 1, 1, 1, 1, 2361183241434822606848, by decide +kernel⟩⟩

/-- The hypotheses of each clause of `Obligations.TramMac` can be met (3). -/
theorem test_hyps_TramMac_3 :
    (∃ (s : State) (e : Nat) (w : Nat) (d : Nat) (m : Nat) (k : Nat) (n : Nat) (sh : Nat) (v : TramView) (x : Engine) (y : Engine) (a : Word) (b : Word) (acc : Acc72) (src : Acc72) (al : Int) (ah : Int) (bl : Int) (bh : Int) (r : Int), s.standsAt e w = true ∧ v.fetchErrs = 0 ∧ x = s.eng e ∧ d = w / 2 ^ 21 % 32 ∧ m = w / 2 ^ 24 % 4 ∧ k = w / 2 ^ 13 % 4 ∧ n = w / 2 ^ 11 % 32 ∧ sh = w / 2 ^ 15 % 64 ∧ a = x.rg (w / 2 ^ 16 % 32) ∧ b = x.rg n ∧ acc = Tab.get 0 x.acc m ∧ src = Tab.get 0 x.acc k ∧ y = { x with accOld := [(m, acc)] } ∧ al = (if w / 512 % 2 = 1 then ((a.toNat % 65536 : Nat) : Int) else (a.extractLsb' 0 16).toInt) ∧ ah = (if w / 512 % 2 = 1 then ((a.toNat / 65536 : Nat) : Int) else (a.extractLsb' 16 16).toInt) ∧ bl = (if w / 512 % 2 = 1 then ((b.toNat % 65536 : Nat) : Int) else (b.extractLsb' 0 16).toInt) ∧ bh = (if w / 512 % 2 = 1 then ((b.toNat / 65536 : Nat) : Int) else (b.extractLsb' 16 16).toInt) ∧ w / 2 ^ 26 = 1 ∧ r = acc.toInt + al * bl ∧ w % 64 = 4 ∧ w &&& 0xE001C0 = 0 ∧ w / 1024 % 2 = 1 ∧ r < -2 ^ 71) ∧
    (∃ (s : State) (e : Nat) (w : Nat) (d : Nat) (m : Nat) (k : Nat) (n : Nat) (sh : Nat) (v : TramView) (x : Engine) (y : Engine) (a : Word) (b : Word) (acc : Acc72) (src : Acc72) (al : Int) (ah : Int) (bl : Int) (bh : Int) (r : Int), s.standsAt e w = true ∧ v.fetchErrs = 0 ∧ x = s.eng e ∧ d = w / 2 ^ 21 % 32 ∧ m = w / 2 ^ 24 % 4 ∧ k = w / 2 ^ 13 % 4 ∧ n = w / 2 ^ 11 % 32 ∧ sh = w / 2 ^ 15 % 64 ∧ a = x.rg (w / 2 ^ 16 % 32) ∧ b = x.rg n ∧ acc = Tab.get 0 x.acc m ∧ src = Tab.get 0 x.acc k ∧ y = { x with accOld := [(m, acc)] } ∧ al = (if w / 512 % 2 = 1 then ((a.toNat % 65536 : Nat) : Int) else (a.extractLsb' 0 16).toInt) ∧ ah = (if w / 512 % 2 = 1 then ((a.toNat / 65536 : Nat) : Int) else (a.extractLsb' 16 16).toInt) ∧ bl = (if w / 512 % 2 = 1 then ((b.toNat % 65536 : Nat) : Int) else (b.extractLsb' 0 16).toInt) ∧ bh = (if w / 512 % 2 = 1 then ((b.toNat / 65536 : Nat) : Int) else (b.extractLsb' 16 16).toInt) ∧ w / 2 ^ 26 = 1 ∧ r = acc.toInt + (al * bl - ah * bh) ∧ w % 64 = 5 ∧ w &&& 0xE001C0 = 0 ∧ (w / 1024 % 2 = 0 ∨ (-2 ^ 71 ≤ r ∧ r < 2 ^ 71))) ∧
    (∃ (s : State) (e : Nat) (w : Nat) (d : Nat) (m : Nat) (k : Nat) (n : Nat) (sh : Nat) (v : TramView) (x : Engine) (y : Engine) (a : Word) (b : Word) (acc : Acc72) (src : Acc72) (al : Int) (ah : Int) (bl : Int) (bh : Int) (r : Int), s.standsAt e w = true ∧ v.fetchErrs = 0 ∧ x = s.eng e ∧ d = w / 2 ^ 21 % 32 ∧ m = w / 2 ^ 24 % 4 ∧ k = w / 2 ^ 13 % 4 ∧ n = w / 2 ^ 11 % 32 ∧ sh = w / 2 ^ 15 % 64 ∧ a = x.rg (w / 2 ^ 16 % 32) ∧ b = x.rg n ∧ acc = Tab.get 0 x.acc m ∧ src = Tab.get 0 x.acc k ∧ y = { x with accOld := [(m, acc)] } ∧ al = (if w / 512 % 2 = 1 then ((a.toNat % 65536 : Nat) : Int) else (a.extractLsb' 0 16).toInt) ∧ ah = (if w / 512 % 2 = 1 then ((a.toNat / 65536 : Nat) : Int) else (a.extractLsb' 16 16).toInt) ∧ bl = (if w / 512 % 2 = 1 then ((b.toNat % 65536 : Nat) : Int) else (b.extractLsb' 0 16).toInt) ∧ bh = (if w / 512 % 2 = 1 then ((b.toNat / 65536 : Nat) : Int) else (b.extractLsb' 16 16).toInt) ∧ w / 2 ^ 26 = 1 ∧ r = acc.toInt + (al * bl - ah * bh) ∧ w % 64 = 5 ∧ w &&& 0xE001C0 = 0 ∧ w / 1024 % 2 = 1 ∧ 2 ^ 71 ≤ r) ∧
    (∃ (s : State) (e : Nat) (w : Nat) (d : Nat) (m : Nat) (k : Nat) (n : Nat) (sh : Nat) (v : TramView) (x : Engine) (y : Engine) (a : Word) (b : Word) (acc : Acc72) (src : Acc72) (al : Int) (ah : Int) (bl : Int) (bh : Int) (r : Int), s.standsAt e w = true ∧ v.fetchErrs = 0 ∧ x = s.eng e ∧ d = w / 2 ^ 21 % 32 ∧ m = w / 2 ^ 24 % 4 ∧ k = w / 2 ^ 13 % 4 ∧ n = w / 2 ^ 11 % 32 ∧ sh = w / 2 ^ 15 % 64 ∧ a = x.rg (w / 2 ^ 16 % 32) ∧ b = x.rg n ∧ acc = Tab.get 0 x.acc m ∧ src = Tab.get 0 x.acc k ∧ y = { x with accOld := [(m, acc)] } ∧ al = (if w / 512 % 2 = 1 then ((a.toNat % 65536 : Nat) : Int) else (a.extractLsb' 0 16).toInt) ∧ ah = (if w / 512 % 2 = 1 then ((a.toNat / 65536 : Nat) : Int) else (a.extractLsb' 16 16).toInt) ∧ bl = (if w / 512 % 2 = 1 then ((b.toNat % 65536 : Nat) : Int) else (b.extractLsb' 0 16).toInt) ∧ bh = (if w / 512 % 2 = 1 then ((b.toNat / 65536 : Nat) : Int) else (b.extractLsb' 16 16).toInt) ∧ w / 2 ^ 26 = 1 ∧ r = acc.toInt + (al * bl - ah * bh) ∧ w % 64 = 5 ∧ w &&& 0xE001C0 = 0 ∧ w / 1024 % 2 = 1 ∧ r < -2 ^ 71) ∧
    (∃ (s : State) (e : Nat) (w : Nat) (d : Nat) (m : Nat) (k : Nat) (n : Nat) (sh : Nat) (v : TramView) (x : Engine) (y : Engine) (a : Word) (b : Word) (acc : Acc72) (src : Acc72) (al : Int) (ah : Int) (bl : Int) (bh : Int) (r : Int), s.standsAt e w = true ∧ v.fetchErrs = 0 ∧ x = s.eng e ∧ d = w / 2 ^ 21 % 32 ∧ m = w / 2 ^ 24 % 4 ∧ k = w / 2 ^ 13 % 4 ∧ n = w / 2 ^ 11 % 32 ∧ sh = w / 2 ^ 15 % 64 ∧ a = x.rg (w / 2 ^ 16 % 32) ∧ b = x.rg n ∧ acc = Tab.get 0 x.acc m ∧ src = Tab.get 0 x.acc k ∧ y = { x with accOld := [(m, acc)] } ∧ al = (if w / 512 % 2 = 1 then ((a.toNat % 65536 : Nat) : Int) else (a.extractLsb' 0 16).toInt) ∧ ah = (if w / 512 % 2 = 1 then ((a.toNat / 65536 : Nat) : Int) else (a.extractLsb' 16 16).toInt) ∧ bl = (if w / 512 % 2 = 1 then ((b.toNat % 65536 : Nat) : Int) else (b.extractLsb' 0 16).toInt) ∧ bh = (if w / 512 % 2 = 1 then ((b.toNat / 65536 : Nat) : Int) else (b.extractLsb' 16 16).toInt) ∧ w / 2 ^ 26 = 1 ∧ r = (src.toInt + (if w / 4096 % 2 = 1 ∧ 0 < sh then 2 ^ (sh - 1) else 0)) / 2 ^ sh ∧ w % 64 = 8 ∧ w &&& 0xBC0 = 0 ∧ (w / 1024 % 2 = 0 ∨ (-2 ^ 31 ≤ r ∧ r < 2 ^ 31))) ∧
    (∃ (s : State) (e : Nat) (w : Nat) (d : Nat) (m : Nat) (k : Nat) (n : Nat) (sh : Nat) (v : TramView) (x : Engine) (y : Engine) (a : Word) (b : Word) (acc : Acc72) (src : Acc72) (al : Int) (ah : Int) (bl : Int) (bh : Int) (r : Int), s.standsAt e w = true ∧ v.fetchErrs = 0 ∧ x = s.eng e ∧ d = w / 2 ^ 21 % 32 ∧ m = w / 2 ^ 24 % 4 ∧ k = w / 2 ^ 13 % 4 ∧ n = w / 2 ^ 11 % 32 ∧ sh = w / 2 ^ 15 % 64 ∧ a = x.rg (w / 2 ^ 16 % 32) ∧ b = x.rg n ∧ acc = Tab.get 0 x.acc m ∧ src = Tab.get 0 x.acc k ∧ y = { x with accOld := [(m, acc)] } ∧ al = (if w / 512 % 2 = 1 then ((a.toNat % 65536 : Nat) : Int) else (a.extractLsb' 0 16).toInt) ∧ ah = (if w / 512 % 2 = 1 then ((a.toNat / 65536 : Nat) : Int) else (a.extractLsb' 16 16).toInt) ∧ bl = (if w / 512 % 2 = 1 then ((b.toNat % 65536 : Nat) : Int) else (b.extractLsb' 0 16).toInt) ∧ bh = (if w / 512 % 2 = 1 then ((b.toNat / 65536 : Nat) : Int) else (b.extractLsb' 16 16).toInt) ∧ w / 2 ^ 26 = 1 ∧ r = (src.toInt + (if w / 4096 % 2 = 1 ∧ 0 < sh then 2 ^ (sh - 1) else 0)) / 2 ^ sh ∧ w % 64 = 8 ∧ w &&& 0xBC0 = 0 ∧ w / 1024 % 2 = 1 ∧ 2 ^ 31 ≤ r) :=
  ⟨⟨tram0 0x7011404 (tregs0 [(1, 0x10001), (2, 0xffffffff)] [(3, 0x800000000000000000)]), 63, 0x7011404, 24, 3, 0, 2, 2, ⟨0, 0⟩, tregs0 [(1, 0x10001), (2, 0xffffffff)] [(3, 0x800000000000000000)], { tregs0 [(1, 0x10001), (2, 0xffffffff)] [(3, 0x800000000000000000)] with accOld := [(3, 0x800000000000000000)] }, 0x10001, 0xffffffff, 0x800000000000000000, 0x0, 1, 1, -1, -1, -2361183241434822606849, by decide +kernel⟩,
   ⟨tram0 0x7011205 (tregs0 [(1, 0xfffe8001), (2, 0x7fff0003)] [(3, 0x5)]), 63, 0x7011205, 24, 3, 0, 2, 2, ⟨0, 0⟩, tregs0 [(1, 0xfffe8001), (2, 0x7fff0003)] [(3, 0x5)], { tregs0 [(1, 0xfffe8001), (2, 0x7fff0003)] [(3, 0x5)] with accOld := [(3, 0x5)] }, 0xfffe8001, 0x7fff0003, 0x5, 0x0, 32769, 65534, 3, 32767, -2147254266, by decide +kernel⟩,
   ⟨tram0 0x7011405 (tregs0 [(1, 0x1), (2, 0x1)] [(3, 0x7fffffffffffffffff)]), 63, 0x7011405, 24, 3, 0, 2, 2, ⟨0, 0⟩, tregs0 [(1, 0x1), (2, 0x1)] [(3, 0x7fffffffffffffffff)], { tregs0 [(1, 0x1), (2, 0x1)] [(3, 0x7fffffffffffffffff)] with accOld := [(3, 0x7fffffffffffffffff)] }, 0x1, 0x1, 0x7fffffffffffffffff, 0x0, 1, 0, 1, 0, 2361183241434822606848, by decide +kernel⟩,
   ⟨tram0 0x7011405 (tregs0 [(1, 0x1), (2, 0xffff)] [(3, 0x800000000000000000)]), 63, 0x7011405, 24, 3, 0, 2, 2, ⟨0, 0⟩, tregs0 [(1, 0x1), (2, 0xffff)] [(3, 0x800000000000000000)], { tregs0 [(1, 0x1), (2, 0xffff)] [(3, 0x800000000000000000)] with accOld := [(3, 0x800000000000000000)] }, 0x1, 0xffff, 0x800000000000000000, 0x0, 1, 0, -1, 0, -2361183241434822606849, by decide +kernel⟩,
   ⟨tram0 0x7e7b008 (tregs0 [(1, 0x0), (2, 0x0)] [(1, 0x1fffffffff), (3, 0x7)]), 63, 0x7e7b008, 31, 3, 1, 22, 15, ⟨0, 0⟩, tregs0 [(1, 0x0), (2, 0x0)] [(1, 0x1fffffffff), (3, 0x7)], { tregs0 [(1, 0x0), (2, 0x0)] [(1, 0x1fffffffff), (3, 0x7)] with accOld := [(3, 0x7)] }, 0x0, 0x0, 0x7, 0x1fffffffff, 0, 0, 0, 0, 4194304, by decide +kernel⟩,
   ⟨tram0 0x7e02408 (tregs0 [(1, 0x0), (2, 0x0)] [(1, 0x80000000), (3, 0x7)]), 63, 0x7e02408, 31, 3, 1, 4, 0, ⟨0, 0⟩, tregs0 [(1, 0x0), (2, 0x0)] [(1, 0x80000000), (3, 0x7)], { tregs0 [(1, 0x0), (2, 0x0)] [(1, 0x80000000), (3, 0x7)] with accOld := [(3, 0x7)] }, 0x0, 0x0, 0x7, 0x80000000, 0, 0, 0, 0, 2147483648, by decide +kernel⟩⟩

/-- The hypotheses of each clause of `Obligations.TramMac` can be met (4). -/
theorem test_hyps_TramMac_4 :
    (∃ (s : State) (e : Nat) (w : Nat) (d : Nat) (m : Nat) (k : Nat) (n : Nat) (sh : Nat) (v : TramView) (x : Engine) (y : Engine) (a : Word) (b : Word) (acc : Acc72) (src : Acc72) (al : Int) (ah : Int) (bl : Int) (bh : Int) (r : Int), s.standsAt e w = true ∧ v.fetchErrs = 0 ∧ x = s.eng e ∧ d = w / 2 ^ 21 % 32 ∧ m = w / 2 ^ 24 % 4 ∧ k = w / 2 ^ 13 % 4 ∧ n = w / 2 ^ 11 % 32 ∧ sh = w / 2 ^ 15 % 64 ∧ a = x.rg (w / 2 ^ 16 % 32) ∧ b = x.rg n ∧ acc = Tab.get 0 x.acc m ∧ src = Tab.get 0 x.acc k ∧ y = { x with accOld := [(m, acc)] } ∧ al = (if w / 512 % 2 = 1 then ((a.toNat % 65536 : Nat) : Int) else (a.extractLsb' 0 16).toInt) ∧ ah = (if w / 512 % 2 = 1 then ((a.toNat / 65536 : Nat) : Int) else (a.extractLsb' 16 16).toInt) ∧ bl = (if w / 512 % 2 = 1 then ((b.toNat % 65536 : Nat) : Int) else (b.extractLsb' 0 16).toInt) ∧ bh = (if w / 512 % 2 = 1 then ((b.toNat / 65536 : Nat) : Int) else (b.extractLsb' 16 16).toInt) ∧ w / 2 ^ 26 = 1 ∧ r = (src.toInt + (if w / 4096 % 2 = 1 ∧ 0 < sh then 2 ^ (sh - 1) else 0)) / 2 ^ sh ∧ w % 64 = 8 ∧ w &&& 0xBC0 = 0 ∧ w / 1024 % 2 = 1 ∧ r < -2 ^ 31) ∧
    (∃ (s : State) (e : Nat) (w : Nat) (d : Nat) (m : Nat) (k : Nat) (n : Nat) (sh : Nat) (v : TramView) (x : Engine) (y : Engine) (a : Word) (b : Word) (acc : Acc72) (src : Acc72) (al : Int) (ah : Int) (bl : Int) (bh : Int), s.standsAt e w = true ∧ v.fetchErrs = 0 ∧ x = s.eng e ∧ d = w / 2 ^ 21 % 32 ∧ m = w / 2 ^ 24 % 4 ∧ k = w / 2 ^ 13 % 4 ∧ n = w / 2 ^ 11 % 32 ∧ sh = w / 2 ^ 15 % 64 ∧ a = x.rg (w / 2 ^ 16 % 32) ∧ b = x.rg n ∧ acc = Tab.get 0 x.acc m ∧ src = Tab.get 0 x.acc k ∧ y = { x with accOld := [(m, acc)] } ∧ al = (if w / 512 % 2 = 1 then ((a.toNat % 65536 : Nat) : Int) else (a.extractLsb' 0 16).toInt) ∧ ah = (if w / 512 % 2 = 1 then ((a.toNat / 65536 : Nat) : Int) else (a.extractLsb' 16 16).toInt) ∧ bl = (if w / 512 % 2 = 1 then ((b.toNat % 65536 : Nat) : Int) else (b.extractLsb' 0 16).toInt) ∧ bh = (if w / 512 % 2 = 1 then ((b.toNat / 65536 : Nat) : Int) else (b.extractLsb' 16 16).toInt) ∧ w / 2 ^ 26 = 1 ∧ w % 64 = 9 ∧ w &&& 0xE007C0 = 0) ∧
    (∃ (s : State) (e : Nat) (w : Nat) (d : Nat) (m : Nat) (k : Nat) (n : Nat) (sh : Nat) (v : TramView) (x : Engine) (y : Engine) (a : Word) (b : Word) (acc : Acc72) (src : Acc72) (al : Int) (ah : Int) (bl : Int) (bh : Int), s.standsAt e w = true ∧ v.fetchErrs = 0 ∧ x = s.eng e ∧ d = w / 2 ^ 21 % 32 ∧ m = w / 2 ^ 24 % 4 ∧ k = w / 2 ^ 13 % 4 ∧ n = w / 2 ^ 11 % 32 ∧ sh = w / 2 ^ 15 % 64 ∧ a = x.rg (w / 2 ^ 16 % 32) ∧ b = x.rg n ∧ acc = Tab.get 0 x.acc m ∧ src = Tab.get 0 x.acc k ∧ y = { x with accOld := [(m, acc)] } ∧ al = (if w / 512 % 2 = 1 then ((a.toNat % 65536 : Nat) : Int) else (a.extractLsb' 0 16).toInt) ∧ ah = (if w / 512 % 2 = 1 then ((a.toNat / 65536 : Nat) : Int) else (a.extractLsb' 16 16).toInt) ∧ bl = (if w / 512 % 2 = 1 then ((b.toNat % 65536 : Nat) : Int) else (b.extractLsb' 0 16).toInt) ∧ bh = (if w / 512 % 2 = 1 then ((b.toNat / 65536 : Nat) : Int) else (b.extractLsb' 16 16).toInt) ∧ w / 2 ^ 26 = 1 ∧ w % 64 = 10 ∧ w &&& 0xFFFFC0 = 0) ∧
    (∃ (s : State) (e : Nat) (w : Nat) (d : Nat) (m : Nat) (k : Nat) (n : Nat) (sh : Nat) (v : TramView) (x : Engine) (y : Engine) (a : Word) (b : Word) (acc : Acc72) (src : Acc72) (al : Int) (ah : Int) (bl : Int) (bh : Int), s.standsAt e w = true ∧ v.fetchErrs = 0 ∧ x = s.eng e ∧ d = w / 2 ^ 21 % 32 ∧ m = w / 2 ^ 24 % 4 ∧ k = w / 2 ^ 13 % 4 ∧ n = w / 2 ^ 11 % 32 ∧ sh = w / 2 ^ 15 % 64 ∧ a = x.rg (w / 2 ^ 16 % 32) ∧ b = x.rg n ∧ acc = Tab.get 0 x.acc m ∧ src = Tab.get 0 x.acc k ∧ y = { x with accOld := [(m, acc)] } ∧ al = (if w / 512 % 2 = 1 then ((a.toNat % 65536 : Nat) : Int) else (a.extractLsb' 0 16).toInt) ∧ ah = (if w / 512 % 2 = 1 then ((a.toNat / 65536 : Nat) : Int) else (a.extractLsb' 16 16).toInt) ∧ bl = (if w / 512 % 2 = 1 then ((b.toNat % 65536 : Nat) : Int) else (b.extractLsb' 0 16).toInt) ∧ bh = (if w / 512 % 2 = 1 then ((b.toNat / 65536 : Nat) : Int) else (b.extractLsb' 16 16).toInt) ∧ w / 2 ^ 26 = 1 ∧ w % 64 = 11 ∧ w &&& 0xFF9BC0 = 0 ∧ (w / 1024 % 2 = 0 ∨ (-2 ^ 71 ≤ acc.toInt + src.toInt ∧ acc.toInt + src.toInt < 2 ^ 71))) ∧
    (∃ (s : State) (e : Nat) (w : Nat) (d : Nat) (m : Nat) (k : Nat) (n : Nat) (sh : Nat) (v : TramView) (x : Engine) (y : Engine) (a : Word) (b : Word) (acc : Acc72) (src : Acc72) (al : Int) (ah : Int) (bl : Int) (bh : Int), s.standsAt e w = true ∧ v.fetchErrs = 0 ∧ x = s.eng e ∧ d = w / 2 ^ 21 % 32 ∧ m = w / 2 ^ 24 % 4 ∧ k = w / 2 ^ 13 % 4 ∧ n = w / 2 ^ 11 % 32 ∧ sh = w / 2 ^ 15 % 64 ∧ a = x.rg (w / 2 ^ 16 % 32) ∧ b = x.rg n ∧ acc = Tab.get 0 x.acc m ∧ src = Tab.get 0 x.acc k ∧ y = { x with accOld := [(m, acc)] } ∧ al = (if w / 512 % 2 = 1 then ((a.toNat % 65536 : Nat) : Int) else (a.extractLsb' 0 16).toInt) ∧ ah = (if w / 512 % 2 = 1 then ((a.toNat / 65536 : Nat) : Int) else (a.extractLsb' 16 16).toInt) ∧ bl = (if w / 512 % 2 = 1 then ((b.toNat % 65536 : Nat) : Int) else (b.extractLsb' 0 16).toInt) ∧ bh = (if w / 512 % 2 = 1 then ((b.toNat / 65536 : Nat) : Int) else (b.extractLsb' 16 16).toInt) ∧ w / 2 ^ 26 = 1 ∧ w % 64 = 11 ∧ w &&& 0xFF9BC0 = 0 ∧ w / 1024 % 2 = 1 ∧ 2 ^ 71 ≤ acc.toInt + src.toInt) ∧
    (∃ (s : State) (e : Nat) (w : Nat) (d : Nat) (m : Nat) (k : Nat) (n : Nat) (sh : Nat) (v : TramView) (x : Engine) (y : Engine) (a : Word) (b : Word) (acc : Acc72) (src : Acc72) (al : Int) (ah : Int) (bl : Int) (bh : Int), s.standsAt e w = true ∧ v.fetchErrs = 0 ∧ x = s.eng e ∧ d = w / 2 ^ 21 % 32 ∧ m = w / 2 ^ 24 % 4 ∧ k = w / 2 ^ 13 % 4 ∧ n = w / 2 ^ 11 % 32 ∧ sh = w / 2 ^ 15 % 64 ∧ a = x.rg (w / 2 ^ 16 % 32) ∧ b = x.rg n ∧ acc = Tab.get 0 x.acc m ∧ src = Tab.get 0 x.acc k ∧ y = { x with accOld := [(m, acc)] } ∧ al = (if w / 512 % 2 = 1 then ((a.toNat % 65536 : Nat) : Int) else (a.extractLsb' 0 16).toInt) ∧ ah = (if w / 512 % 2 = 1 then ((a.toNat / 65536 : Nat) : Int) else (a.extractLsb' 16 16).toInt) ∧ bl = (if w / 512 % 2 = 1 then ((b.toNat % 65536 : Nat) : Int) else (b.extractLsb' 0 16).toInt) ∧ bh = (if w / 512 % 2 = 1 then ((b.toNat / 65536 : Nat) : Int) else (b.extractLsb' 16 16).toInt) ∧ w / 2 ^ 26 = 1 ∧ w % 64 = 11 ∧ w &&& 0xFF9BC0 = 0 ∧ w / 1024 % 2 = 1 ∧ acc.toInt + src.toInt < -2 ^ 71) :=
  ⟨⟨tram0 0x7e02408 (tregs0 [(1, 0x0), (2, 0x0)] [(1, 0xffffffffff7fffffff), (3, 0x7)]), 63, 0x7e02408, 31, 3, 1, 4, 0, ⟨0, 0⟩, tregs0 [(1, 0x0), (2, 0x0)] [(1, 0xffffffffff7fffffff), (3, 0x7)], { tregs0 [(1, 0x0), (2, 0x0)] [(1, 0xffffffffff7fffffff), (3, 0x7)] with accOld := [(3, 0x7)] }, 0x0, 0x0, 0x7, 0xffffffffff7fffffff, 0, 0, 0, 0, -2147483649, by decide +kernel⟩,
   ⟨tram0 0x701f809 (tregs0 [(1, 0xa5c3f00f), (2, 0x0)] [(3, 0x5)]), 63, 0x701f809, 24, 3, 3, 31, 3, ⟨0, 0⟩, tregs0 [(1, 0xa5c3f00f), (2, 0x0)] [(3, 0x5)], { tregs0 [(1, 0xa5c3f00f), (2, 0x0)] [(3, 0x5)] with accOld := [(3, 0x5)] }, 0xa5c3f00f, 0x0, 0x5, 0x5, -4081, -23101, 0, 0, by decide +kernel⟩,
   ⟨tram0 0x700000a (tregs0 [(1, 0xa5c3f00f), (2, 0x0)] [(3, 0x5)]), 63, 0x700000a, 24, 3, 0, 0, 0, ⟨0, 0⟩, tregs0 [(1, 0xa5c3f00f), (2, 0x0)] [(3, 0x5)], { tregs0 [(1, 0xa5c3f00f), (2, 0x0)] [(3, 0x5)] with accOld := [(3, 0x5)] }, 0x0, 0x0, 0x5, 0x0, 0, 0, 0, 0, by decide +kernel⟩,
   ⟨tram0 0x700400b (tregs0 [(1, 0x0), (2, 0x0)] [(2, 0x1), (3, 0x7fffffffffffffffff)]), 63, 0x700400b, 24, 3, 2, 8, 0, ⟨0, 0⟩, tregs0 [(1, 0x0), (2, 0x0)] [(2, 0x1), (3, 0x7fffffffffffffffff)], { tregs0 [(1, 0x0), (2, 0x0)] [(2, 0x1), (3, 0x7fffffffffffffffff)] with accOld := [(3, 0x7fffffffffffffffff)] }, 0x0, 0x0, 0x7fffffffffffffffff, 0x1, 0, 0, 0, 0, by decide +kernel⟩,
   ⟨tram0 0x700440b (tregs0 [(1, 0x0), (2, 0x0)] [(2, 0x1), (3, 0x7fffffffffffffffff)]), 63, 0x700440b, 24, 3, 2, 8, 0, ⟨0, 0⟩, tregs0 [(1, 0x0), (2, 0x0)] [(2, 0x1), (3, 0x7fffffffffffffffff)], { tregs0 [(1, 0x0), (2, 0x0)] [(2, 0x1), (3, 0x7fffffffffffffffff)] with accOld := [(3, 0x7fffffffffffffffff)] }, 0x0, 0x0, 0x7fffffffffffffffff, 0x1, 0, 0, 0, 0, by decide +kernel⟩,
   ⟨tram0 0x700440b (tregs0 [(1, 0x0), (2, 0x0)] [(2, 0xffffffffffffffffff), (3, 0x800000000000000000)]), 63, 0x700440b, 24, 3, 2, 8, 0, ⟨0, 0⟩, tregs0 [(1, 0x0), (2, 0x0)] [(2, 0xffffffffffffffffff), (3, 0x800000000000000000)], { tregs0 [(1, 0x0), (2, 0x0)] [(2, 0xffffffffffffffffff), (3, 0x800000000000000000)] with accOld := [(3, 0x800000000000000000)] }, 0x0, 0x0, 0x800000000000000000, 0xffffffffffffffffff, 0, 0, 0, 0, by decide +kernel⟩⟩

/-- The hypotheses of each clause of `Obligations.TramMac` can be met (5). -/
theorem test_hyps_TramMac_5 :
    (∃ (s : State) (e : Nat) (w : Nat) (d : Nat) (m : Nat) (k : Nat) (n : Nat) (sh : Nat) (v : TramView) (x : Engine) (y : Engine) (a : Word) (b : Word) (acc : Acc72) (src : Acc72) (al : Int) (ah : Int) (bl : Int) (bh : Int), s.standsAt e w = true ∧ v.fetchErrs = 0 ∧ x = s.eng e ∧ d = w / 2 ^ 21 % 32 ∧ m = w / 2 ^ 24 % 4 ∧ k = w / 2 ^ 13 % 4 ∧ n = w / 2 ^ 11 % 32 ∧ sh = w / 2 ^ 15 % 64 ∧ a = x.rg (w / 2 ^ 16 % 32) ∧ b = x.rg n ∧ acc = Tab.get 0 x.acc m ∧ src = Tab.get 0 x.acc k ∧ y = { x with accOld := [(m, acc)] } ∧ al = (if w / 512 % 2 = 1 then ((a.toNat % 65536 : Nat) : Int) else (a.extractLsb' 0 16).toInt) ∧ ah = (if w / 512 % 2 = 1 then ((a.toNat / 65536 : Nat) : Int) else (a.extractLsb' 16 16).toInt) ∧ bl = (if w / 512 % 2 = 1 then ((b.toNat % 65536 : Nat) : Int) else (b.extractLsb' 0 16).toInt) ∧ bh = (if w / 512 % 2 = 1 then ((b.toNat / 65536 : Nat) : Int) else (b.extractLsb' 16 16).toInt) ∧ w / 2 ^ 26 = 1 ∧ w % 64 = 12 ∧ w &&& 0xFF07C0 = 0) ∧
    (∃ (s : State) (e : Nat) (w : Nat) (d : Nat) (m : Nat) (k : Nat) (n : Nat) (sh : Nat) (v : TramView) (x : Engine) (y : Engine) (a : Word) (b : Word) (acc : Acc72) (src : Acc72) (al : Int) (ah : Int) (bl : Int) (bh : Int), s.standsAt e w = true ∧ v.fetchErrs = 0 ∧ x = s.eng e ∧ d = w / 2 ^ 21 % 32 ∧ m = w / 2 ^ 24 % 4 ∧ k = w / 2 ^ 13 % 4 ∧ n = w / 2 ^ 11 % 32 ∧ sh = w / 2 ^ 15 % 64 ∧ a = x.rg (w / 2 ^ 16 % 32) ∧ b = x.rg n ∧ acc = Tab.get 0 x.acc m ∧ src = Tab.get 0 x.acc k ∧ y = { x with accOld := [(m, acc)] } ∧ al = (if w / 512 % 2 = 1 then ((a.toNat % 65536 : Nat) : Int) else (a.extractLsb' 0 16).toInt) ∧ ah = (if w / 512 % 2 = 1 then ((a.toNat / 65536 : Nat) : Int) else (a.extractLsb' 16 16).toInt) ∧ bl = (if w / 512 % 2 = 1 then ((b.toNat % 65536 : Nat) : Int) else (b.extractLsb' 0 16).toInt) ∧ bh = (if w / 512 % 2 = 1 then ((b.toNat / 65536 : Nat) : Int) else (b.extractLsb' 16 16).toInt) ∧ w / 2 ^ 26 = 1 ∧ w % 64 = 13 ∧ w &&& 0x1F9FC0 = 0) ∧
    (∃ (s : State) (e : Nat) (w : Nat) (d : Nat) (m : Nat) (k : Nat) (n : Nat) (sh : Nat) (v : TramView) (x : Engine) (y : Engine) (a : Word) (b : Word) (acc : Acc72) (src : Acc72) (al : Int) (ah : Int) (bl : Int) (bh : Int), s.standsAt e w = true ∧ v.fetchErrs = 0 ∧ x = s.eng e ∧ d = w / 2 ^ 21 % 32 ∧ m = w / 2 ^ 24 % 4 ∧ k = w / 2 ^ 13 % 4 ∧ n = w / 2 ^ 11 % 32 ∧ sh = w / 2 ^ 15 % 64 ∧ a = x.rg (w / 2 ^ 16 % 32) ∧ b = x.rg n ∧ acc = Tab.get 0 x.acc m ∧ src = Tab.get 0 x.acc k ∧ y = { x with accOld := [(m, acc)] } ∧ al = (if w / 512 % 2 = 1 then ((a.toNat % 65536 : Nat) : Int) else (a.extractLsb' 0 16).toInt) ∧ ah = (if w / 512 % 2 = 1 then ((a.toNat / 65536 : Nat) : Int) else (a.extractLsb' 16 16).toInt) ∧ bl = (if w / 512 % 2 = 1 then ((b.toNat % 65536 : Nat) : Int) else (b.extractLsb' 0 16).toInt) ∧ bh = (if w / 512 % 2 = 1 then ((b.toNat / 65536 : Nat) : Int) else (b.extractLsb' 16 16).toInt) ∧ w / 2 ^ 26 = 1 ∧ w % 64 = 14 ∧ w &&& 0xE0FFC0 = 0) ∧
    (∃ (s : State) (e : Nat) (w : Nat) (d : Nat) (m : Nat) (k : Nat) (n : Nat) (sh : Nat) (v : TramView) (x : Engine) (y : Engine) (a : Word) (b : Word) (acc : Acc72) (src : Acc72) (al : Int) (ah : Int) (bl : Int) (bh : Int), s.standsAt e w = true ∧ v.fetchErrs = 0 ∧ x = s.eng e ∧ d = w / 2 ^ 21 % 32 ∧ m = w / 2 ^ 24 % 4 ∧ k = w / 2 ^ 13 % 4 ∧ n = w / 2 ^ 11 % 32 ∧ sh = w / 2 ^ 15 % 64 ∧ a = x.rg (w / 2 ^ 16 % 32) ∧ b = x.rg n ∧ acc = Tab.get 0 x.acc m ∧ src = Tab.get 0 x.acc k ∧ y = { x with accOld := [(m, acc)] } ∧ al = (if w / 512 % 2 = 1 then ((a.toNat % 65536 : Nat) : Int) else (a.extractLsb' 0 16).toInt) ∧ ah = (if w / 512 % 2 = 1 then ((a.toNat / 65536 : Nat) : Int) else (a.extractLsb' 16 16).toInt) ∧ bl = (if w / 512 % 2 = 1 then ((b.toNat % 65536 : Nat) : Int) else (b.extractLsb' 0 16).toInt) ∧ bh = (if w / 512 % 2 = 1 then ((b.toNat / 65536 : Nat) : Int) else (b.extractLsb' 16 16).toInt) ∧ w / 2 ^ 26 = 1 ∧ w % 64 = 15 ∧ w &&& 0xE0FFC0 = 0) ∧
    (∃ (s : State) (e : Nat) (w : Nat) (d : Nat) (m : Nat) (k : Nat) (n : Nat) (sh : Nat) (v : TramView) (x : Engine) (y : Engine) (a : Word) (b : Word) (acc : Acc72) (src : Acc72) (al : Int) (ah : Int) (bl : Int) (bh : Int), s.standsAt e w = true ∧ v.fetchErrs = 0 ∧ x = s.eng e ∧ d = w / 2 ^ 21 % 32 ∧ m = w / 2 ^ 24 % 4 ∧ k = w / 2 ^ 13 % 4 ∧ n = w / 2 ^ 11 % 32 ∧ sh = w / 2 ^ 15 % 64 ∧ a = x.rg (w / 2 ^ 16 % 32) ∧ b = x.rg n ∧ acc = Tab.get 0 x.acc m ∧ src = Tab.get 0 x.acc k ∧ y = { x with accOld := [(m, acc)] } ∧ al = (if w / 512 % 2 = 1 then ((a.toNat % 65536 : Nat) : Int) else (a.extractLsb' 0 16).toInt) ∧ ah = (if w / 512 % 2 = 1 then ((a.toNat / 65536 : Nat) : Int) else (a.extractLsb' 16 16).toInt) ∧ bl = (if w / 512 % 2 = 1 then ((b.toNat % 65536 : Nat) : Int) else (b.extractLsb' 0 16).toInt) ∧ bh = (if w / 512 % 2 = 1 then ((b.toNat / 65536 : Nat) : Int) else (b.extractLsb' 16 16).toInt) ∧ w / 2 ^ 26 = 1 ∧ w % 64 = 16 ∧ w &&& 0xE0FFC0 = 0) :=
  ⟨⟨tram0 0x700f80c (tregs0 [(1, 0x0), (2, 0x0)] [(3, 0x800000000000000000)]), 63, 0x700f80c, 24, 3, 3, 31, 1, ⟨0, 0⟩, tregs0 [(1, 0x0), (2, 0x0)] [(3, 0x800000000000000000)], { tregs0 [(1, 0x0), (2, 0x0)] [(3, 0x800000000000000000)] with accOld := [(3, 0x800000000000000000)] }, 0x0, 0x0, 0x800000000000000000, 0x800000000000000000, 0, 0, 0, 0, by decide +kernel⟩,
   ⟨tram0 0x7e0400d (tregs0 [(1, 0x0), (2, 0x0)] [(2, 0x810000000000000000), (3, 0x9)]), 63, 0x7e0400d, 31, 3, 2, 8, 0, ⟨0, 0⟩, tregs0 [(1, 0x0), (2, 0x0)] [(2, 0x810000000000000000), (3, 0x9)], { tregs0 [(1, 0x0), (2, 0x0)] [(2, 0x810000000000000000), (3, 0x9)] with accOld := [(3, 0x9)] }, 0x0, 0x0, 0x9, 0x810000000000000000, 0, 0, 0, 0, by decide +kernel⟩,
   ⟨tram0 0x701000e (tregs0 [(1, 0xa5c3f00f), (2, 0x0)] [(3, 0xfffffffffffffffffd)]), 63, 0x701000e, 24, 3, 0, 0, 2, ⟨0, 0⟩, tregs0 [(1, 0xa5c3f00f), (2, 0x0)] [(3, 0xfffffffffffffffffd)], { tregs0 [(1, 0xa5c3f00f), (2, 0x0)] [(3, 0xfffffffffffffffffd)] with accOld := [(3, 0xfffffffffffffffffd)] }, 0xa5c3f00f, 0x0, 0xfffffffffffffffffd, 0x0, -4081, -23101, 0, 0, by decide +kernel⟩,
   ⟨tram0 0x701000f (tregs0 [(1, 0xa5c3f00f), (2, 0x0)] [(3, 0xfffffffffffffffffd)]), 63, 0x701000f, 24, 3, 0, 0, 2, ⟨0, 0⟩, tregs0 [(1, 0xa5c3f00f), (2, 0x0)] [(3, 0xfffffffffffffffffd)], { tregs0 [(1, 0xa5c3f00f), (2, 0x0)] [(3, 0xfffffffffffffffffd)] with accOld := [(3, 0xfffffffffffffffffd)] }, 0xa5c3f00f, 0x0, 0xfffffffffffffffffd, 0x0, -4081, -23101, 0, 0, by decide +kernel⟩,
   ⟨tram0 0x7010010 (tregs0 [(1, 0xa5c3f00f), (2, 0x0)] [(3, 0xfffffffffffffffffd)]), 63, 0x7010010, 24, 3, 0, 0, 2, ⟨0, 0⟩, tregs0 [(1, 0xa5c3f00f), (2, 0x0)] [(3, 0xfffffffffffffffffd)], { tregs0 [(1, 0xa5c3f00f), (2, 0x0)] [(3, 0xfffffffffffffffffd)] with accOld := [(3, 0xfffffffffffffffffd)] }, 0xa5c3f00f, 0x0, 0xfffffffffffffffffd, 0x0, -4081, -23101, 0, 0, by decide +kernel⟩⟩

/-- The hypotheses of each clause of `Obligations.TramFlow` can be met (1). -/
theorem test_hyps_TramFlow :
    (∃ (s : State) (e : Nat) (w : Nat) (p : Nat) (i : Nat) (v : TramView) (x : Engine) (a : Word) (b : Word), s.standsAt e w = true ∧ v.fetchErrs = 0 ∧ x = s.eng e ∧ p = s.rd TR_PC.PC e ∧ i = w % 2 ^ 16 ∧ a = x.rg (w / 2 ^ 21 % 32) ∧ b = x.rg (w / 2 ^ 16 % 32) ∧ w / 2 ^ 26 = 0x28 ∧ a = b) ∧
    (∃ (s : State) (e : Nat) (w : Nat) (p : Nat) (i : Nat) (v : TramView) (x : Engine) (a : Word) (b : Word), s.standsAt e w = true ∧ v.fetchErrs = 0 ∧ x = s.eng e ∧ p = s.rd TR_PC.PC e ∧ i = w % 2 ^ 16 ∧ a = x.rg (w / 2 ^ 21 % 32) ∧ b = x.rg (w / 2 ^ 16 % 32) ∧ w / 2 ^ 26 = 0x28 ∧ a ≠ b) ∧
    (∃ (s : State) (e : Nat) (w : Nat) (p : Nat) (i : Nat) (v : TramView) (x : Engine) (a : Word) (b : Word), s.standsAt e w = true ∧ v.fetchErrs = 0 ∧ x = s.eng e ∧ p = s.rd TR_PC.PC e ∧ i = w % 2 ^ 16 ∧ a = x.rg (w / 2 ^ 21 % 32) ∧ b = x.rg (w / 2 ^ 16 % 32) ∧ w / 2 ^ 26 = 0x29 ∧ a ≠ b) ∧
    (∃ (s : State) (e : Nat) (w : Nat) (p : Nat) (i : Nat) (v : TramView) (x : Engine) (a : Word) (b : Word), s.standsAt e w = true ∧ v.fetchErrs = 0 ∧ x = s.eng e ∧ p = s.rd TR_PC.PC e ∧ i = w % 2 ^ 16 ∧ a = x.rg (w / 2 ^ 21 % 32) ∧ b = x.rg (w / 2 ^ 16 % 32) ∧ w / 2 ^ 26 = 0x29 ∧ a = b) ∧
    (∃ (s : State) (e : Nat) (w : Nat) (p : Nat) (i : Nat) (v : TramView) (x : Engine) (a : Word) (b : Word), s.standsAt e w = true ∧ v.fetchErrs = 0 ∧ x = s.eng e ∧ p = s.rd TR_PC.PC e ∧ i = w % 2 ^ 16 ∧ a = x.rg (w / 2 ^ 21 % 32) ∧ b = x.rg (w / 2 ^ 16 % 32) ∧ w / 2 ^ 26 = 0x2A ∧ a.toInt < b.toInt) ∧
    (∃ (s : State) (e : Nat) (w : Nat) (p : Nat) (i : Nat) (v : TramView) (x : Engine) (a : Word) (b : Word), s.standsAt e w = true ∧ v.fetchErrs = 0 ∧ x = s.eng e ∧ p = s.rd TR_PC.PC e ∧ i = w % 2 ^ 16 ∧ a = x.rg (w / 2 ^ 21 % 32) ∧ b = x.rg (w / 2 ^ 16 % 32) ∧ w / 2 ^ 26 = 0x2A ∧ b.toInt ≤ a.toInt) ∧
    (∃ (s : State) (e : Nat) (w : Nat) (p : Nat) (i : Nat) (v : TramView) (x : Engine) (a : Word) (b : Word), s.standsAt e w = true ∧ v.fetchErrs = 0 ∧ x = s.eng e ∧ p = s.rd TR_PC.PC e ∧ i = w % 2 ^ 16 ∧ a = x.rg (w / 2 ^ 21 % 32) ∧ b = x.rg (w / 2 ^ 16 % 32) ∧ w / 2 ^ 26 = 0x2B ∧ b.toInt ≤ a.toInt) ∧
    (∃ (s : State) (e : Nat) (w : Nat) (p : Nat) (i : Nat) (v : TramView) (x : Engine) (a : Word) (b : Word), s.standsAt e w = true ∧ v.fetchErrs = 0 ∧ x = s.eng e ∧ p = s.rd TR_PC.PC e ∧ i = w % 2 ^ 16 ∧ a = x.rg (w / 2 ^ 21 % 32) ∧ b = x.rg (w / 2 ^ 16 % 32) ∧ w / 2 ^ 26 = 0x2B ∧ a.toInt < b.toInt) ∧
    (∃ (s : State) (e : Nat) (w : Nat) (p : Nat) (i : Nat) (v : TramView) (x : Engine) (a : Word) (b : Word), s.standsAt e w = true ∧ v.fetchErrs = 0 ∧ x = s.eng e ∧ p = s.rd TR_PC.PC e ∧ i = w % 2 ^ 16 ∧ a = x.rg (w / 2 ^ 21 % 32) ∧ b = x.rg (w / 2 ^ 16 % 32) ∧ w / 2 ^ 26 = 0x2C ∧ a.toNat < b.toNat) ∧
    (∃ (s : State) (e : Nat) (w : Nat) (p : Nat) (i : Nat) (v : TramView) (x : Engine) (a : Word) (b : Word), s.standsAt e w = true ∧ v.fetchErrs = 0 ∧ x = s.eng e ∧ p = s.rd TR_PC.PC e ∧ i = w % 2 ^ 16 ∧ a = x.rg (w / 2 ^ 21 % 32) ∧ b = x.rg (w / 2 ^ 16 % 32) ∧ w / 2 ^ 26 = 0x2C ∧ b.toNat ≤ a.toNat) ∧
    (∃ (s : State) (e : Nat) (w : Nat) (p : Nat) (i : Nat) (v : TramView) (x : Engine) (a : Word) (b : Word), s.standsAt e w = true ∧ v.fetchErrs = 0 ∧ x = s.eng e ∧ p = s.rd TR_PC.PC e ∧ i = w % 2 ^ 16 ∧ a = x.rg (w / 2 ^ 21 % 32) ∧ b = x.rg (w / 2 ^ 16 % 32) ∧ w / 2 ^ 26 = 0x2D ∧ b.toNat ≤ a.toNat) ∧
    (∃ (s : State) (e : Nat) (w : Nat) (p : Nat) (i : Nat) (v : TramView) (x : Engine) (a : Word) (b : Word), s.standsAt e w = true ∧ v.fetchErrs = 0 ∧ x = s.eng e ∧ p = s.rd TR_PC.PC e ∧ i = w % 2 ^ 16 ∧ a = x.rg (w / 2 ^ 21 % 32) ∧ b = x.rg (w / 2 ^ 16 % 32) ∧ w / 2 ^ 26 = 0x2D ∧ a.toNat < b.toNat) :=
  ⟨⟨tramAt [] 0xa0228003 (tregs1 [(1, 0x5), (2, 0x5)] []), 63, 0xa0228003, 0xFFFC, 32771, ⟨0, 0⟩, tregs1 [(1, 0x5), (2, 0x5)] [], 0x5, 0x5, by decide +kernel⟩,
   ⟨tramAt [] 0xa0228003 (tregs1 [(1, 0x5), (2, 0x4)] []), 63, 0xa0228003, 0xFFFC, 32771, ⟨0, 0⟩, tregs1 [(1, 0x5), (2, 0x4)] [], 0x5, 0x4, by decide +kernel⟩,
   ⟨tramAt [] 0xa4228003 (tregs1 [(1, 0x5), (2, 0x4)] []), 63, 0xa4228003, 0xFFFC, 32771, ⟨0, 0⟩, tregs1 [(1, 0x5), (2, 0x4)] [], 0x5, 0x4, by decide +kernel⟩,
   ⟨tramAt [] 0xa4228003 (tregs1 [(1, 0x5), (2, 0x5)] []), 63, 0xa4228003, 0xFFFC, 32771, ⟨0, 0⟩, tregs1 [(1, 0x5), (2, 0x5)] [], 0x5, 0x5, by decide +kernel⟩,
   ⟨tramAt [] 0xa8228003 (tregs1 [(1, 0x80000000), (2, 0x1)] []), 63, 0xa8228003, 0xFFFC, 32771, ⟨0, 0⟩, tregs1 [(1, 0x80000000), (2, 0x1)] [], 0x80000000, 0x1, by decide +kernel⟩,
   ⟨tramAt [] 0xa8228003 (tregs1 [(1, 0x1), (2, 0x1)] []), 63, 0xa8228003, 0xFFFC, 32771, ⟨0, 0⟩, tregs1 [(1, 0x1), (2, 0x1)] [], 0x1, 0x1, by decide +kernel⟩,
   ⟨tramAt [] 0xac228003 (tregs1 [(1, 0x1), (2, 0x80000000)] []), 63, 0xac228003, 0xFFFC, 32771, ⟨0, 0⟩, tregs1 [(1, 0x1), (2, 0x80000000)] [], 0x1, 0x80000000, by decide +kernel⟩,
   ⟨tramAt [] 0xac228003 (tregs1 [(1, 0x80000000), (2, 0x1)] []), 63, 0xac228003, 0xFFFC, 32771, ⟨0, 0⟩, tregs1 [(1, 0x80000000), (2, 0x1)] [], 0x80000000, 0x1, by decide +kernel⟩,
   ⟨tramAt [] 0xb0228003 (tregs1 [(1, 0x1), (2, 0x80000000)] []), 63, 0xb0228003, 0xFFFC, 32771, ⟨0, 0⟩, tregs1 [(1, 0x1), (2, 0x80000000)] [], 0x1, 0x80000000, by decide +kernel⟩,
   ⟨tramAt [] 0xb0228003 (tregs1 [(1, 0x80000000), (2, 0x1)] []), 63, 0xb0228003, 0xFFFC, 32771, ⟨0, 0⟩, tregs1 [(1, 0x80000000), (2, 0x1)] [], 0x80000000, 0x1, by decide +kernel⟩,
   ⟨tramAt [] 0xb4228003 (tregs1 [(1, 0x80000000), (2, 0x1)] []), 63, 0xb4228003, 0xFFFC, 32771, ⟨0, 0⟩, tregs1 [(1, 0x80000000), (2, 0x1)] [], 0x80000000, 0x1, by decide +kernel⟩,
   ⟨tramAt [] 0xb4228003 (tregs1 [(1, 0x1), (2, 0x80000000)] []), 63, 0xb4228003, 0xFFFC, 32771, ⟨0, 0⟩, tregs1 [(1, 0x1), (2, 0x80000000)] [], 0x1, 0x80000000, by decide +kernel⟩⟩

/-- The hypotheses of each clause of `Obligations.TramFlow` can be met (2). -/
theorem test_hyps_TramFlow_2 :
    (∃ (s : State) (e : Nat) (w : Nat) (p : Nat) (i : Nat) (v : TramView) (x : Engine) (a : Word) (b : Word), s.standsAt e w = true ∧ v.fetchErrs = 0 ∧ x = s.eng e ∧ p = s.rd TR_PC.PC e ∧ i = w % 2 ^ 16 ∧ a = x.rg (w / 2 ^ 21 % 32) ∧ b = x.rg (w / 2 ^ 16 % 32) ∧ w / 2 ^ 26 = 0x30 ∧ w &&& 0x3FFC000 = 0) ∧
    (∃ (s : State) (e : Nat) (w : Nat) (p : Nat) (i : Nat) (v : TramView) (x : Engine) (a : Word) (b : Word), s.standsAt e w = true ∧ v.fetchErrs = 0 ∧ x = s.eng e ∧ p = s.rd TR_PC.PC e ∧ i = w % 2 ^ 16 ∧ a = x.rg (w / 2 ^ 21 % 32) ∧ b = x.rg (w / 2 ^ 16 % 32) ∧ w / 2 ^ 26 = 0x31 ∧ w &&& 0x3FFC000 = 0) ∧
    (∃ (s : State) (e : Nat) (w : Nat) (p : Nat) (i : Nat) (v : TramView) (x : Engine) (a : Word) (b : Word), s.standsAt e w = true ∧ v.fetchErrs = 0 ∧ x = s.eng e ∧ p = s.rd TR_PC.PC e ∧ i = w % 2 ^ 16 ∧ a = x.rg (w / 2 ^ 21 % 32) ∧ b = x.rg (w / 2 ^ 16 % 32) ∧ w / 2 ^ 26 = 0 ∧ w % 64 = 0x15 ∧ w &&& 0x3E0FFC0 = 0 ∧ b.toNat % 4 = 0) ∧
    (∃ (s : State) (e : Nat) (w : Nat) (p : Nat) (i : Nat) (v : TramView) (x : Engine) (a : Word) (b : Word), s.standsAt e w = true ∧ v.fetchErrs = 0 ∧ x = s.eng e ∧ p = s.rd TR_PC.PC e ∧ i = w % 2 ^ 16 ∧ a = x.rg (w / 2 ^ 21 % 32) ∧ b = x.rg (w / 2 ^ 16 % 32) ∧ w / 2 ^ 26 = 0 ∧ w % 64 = 0x15 ∧ w &&& 0x3E0FFC0 = 0 ∧ b.toNat % 4 ≠ 0) ∧
    (∃ (s : State) (e : Nat) (w : Nat) (p : Nat) (i : Nat) (v : TramView) (x : Engine) (a : Word) (b : Word), s.standsAt e w = true ∧ v.fetchErrs = 0 ∧ x = s.eng e ∧ p = s.rd TR_PC.PC e ∧ i = w % 2 ^ 16 ∧ a = x.rg (w / 2 ^ 21 % 32) ∧ b = x.rg (w / 2 ^ 16 % 32) ∧ w / 2 ^ 26 = 0 ∧ w % 64 = 0x16 ∧ w &&& 0x7C0 = 0 ∧ w / 2 ^ 21 % 32 ≠ w / 2 ^ 16 % 32 ∧ b.toNat % 4 = 0) ∧
    (∃ (s : State) (e : Nat) (w : Nat) (p : Nat) (i : Nat) (v : TramView) (x : Engine) (a : Word) (b : Word), s.standsAt e w = true ∧ v.fetchErrs = 0 ∧ x = s.eng e ∧ p = s.rd TR_PC.PC e ∧ i = w % 2 ^ 16 ∧ a = x.rg (w / 2 ^ 21 % 32) ∧ b = x.rg (w / 2 ^ 16 % 32) ∧ w / 2 ^ 26 = 0 ∧ w % 64 = 0x16 ∧ w / 2 ^ 21 % 32 = w / 2 ^ 16 % 32) ∧
    (∃ (s : State) (e : Nat) (w : Nat) (p : Nat) (i : Nat) (v : TramView) (x : Engine) (a : Word) (b : Word), s.standsAt e w = true ∧ v.fetchErrs = 0 ∧ x = s.eng e ∧ p = s.rd TR_PC.PC e ∧ i = w % 2 ^ 16 ∧ a = x.rg (w / 2 ^ 21 % 32) ∧ b = x.rg (w / 2 ^ 16 % 32) ∧ w / 2 ^ 26 = 0x34 ∧ w &&& 0x3E00000 = 0 ∧ 0 < i) ∧
    (∃ (s : State) (e : Nat) (w : Nat) (p : Nat) (i : Nat) (v : TramView) (x : Engine) (a : Word) (b : Word), s.standsAt e w = true ∧ v.fetchErrs = 0 ∧ x = s.eng e ∧ p = s.rd TR_PC.PC e ∧ i = w % 2 ^ 16 ∧ a = x.rg (w / 2 ^ 21 % 32) ∧ b = x.rg (w / 2 ^ 16 % 32) ∧ w / 2 ^ 26 = 0x34 ∧ w &&& 0x3E00000 = 0 ∧ i = 0) ∧
    (∃ (s : State) (e : Nat) (w : Nat) (p : Nat) (i : Nat) (v : TramView) (x : Engine) (a : Word) (b : Word), s.standsAt e w = true ∧ v.fetchErrs = 0 ∧ x = s.eng e ∧ p = s.rd TR_PC.PC e ∧ i = w % 2 ^ 16 ∧ a = x.rg (w / 2 ^ 21 % 32) ∧ b = x.rg (w / 2 ^ 16 % 32) ∧ w / 2 ^ 26 = 0x35 ∧ 0 < a.toNat % 65536) ∧
    (∃ (s : State) (e : Nat) (w : Nat) (p : Nat) (i : Nat) (v : TramView) (x : Engine) (a : Word) (b : Word), s.standsAt e w = true ∧ v.fetchErrs = 0 ∧ x = s.eng e ∧ p = s.rd TR_PC.PC e ∧ i = w % 2 ^ 16 ∧ a = x.rg (w / 2 ^ 21 % 32) ∧ b = x.rg (w / 2 ^ 16 % 32) ∧ w / 2 ^ 26 = 0x35 ∧ a.toNat % 65536 = 0) ∧
    (∃ (s : State) (e : Nat) (w : Nat) (p : Nat) (i : Nat) (v : TramView) (x : Engine) (a : Word) (b : Word) (u : State) (q : Nat) (t : Nat), s.standsAt e w = true ∧ v.fetchErrs = 0 ∧ x = s.eng e ∧ p = s.rd TR_PC.PC e ∧ i = w % 2 ^ 16 ∧ a = x.rg (w / 2 ^ 21 % 32) ∧ b = x.rg (w / 2 ^ 16 % 32) ∧ u = s.setEng e { x with branch := some (q, t, 1) } ∧ w = 0) ∧
    (∃ (s : State) (e : Nat) (w : Nat) (p : Nat) (i : Nat) (v : TramView) (x : Engine) (a : Word) (b : Word) (u : State) (q : Nat) (t : Nat), s.standsAt e w = true ∧ v.fetchErrs = 0 ∧ x = s.eng e ∧ p = s.rd TR_PC.PC e ∧ i = w % 2 ^ 16 ∧ a = x.rg (w / 2 ^ 21 % 32) ∧ b = x.rg (w / 2 ^ 16 % 32) ∧ u = s.setEng e { x with branch := some (q, t, 2) } ∧ w / 2 ^ 26 = 0x30) :=
  ⟨⟨tramAt [] 0xc0003fff (tregs1 [] []), 63, 0xc0003fff, 0xFFFC, 16383, ⟨0, 0⟩, tregs1 [] [], 0x0, 0x0, by decide +kernel⟩,
   ⟨tramAt [] 0xc4003fff (tregs1 [] []), 63, 0xc4003fff, 0xFFFC, 16383, ⟨0, 0⟩, tregs1 [] [], 0x0, 0x0, by decide +kernel⟩,
   ⟨tramAt [] 0x20015 (tregs1 [(2, 0xabcd1234)] []), 63, 0x20015, 0xFFFC, 21, ⟨0, 0⟩, tregs1 [(2, 0xabcd1234)] [], 0x0, 0xabcd1234, by decide +kernel⟩,
   ⟨tramAt [] 0x20015 (tregs1 [(2, 0xabcd1232)] []), 63, 0x20015, 0xFFFC, 21, ⟨0, 0⟩, tregs1 [(2, 0xabcd1232)] [], 0x0, 0xabcd1232, by decide +kernel⟩,
   ⟨tramAt [] 0x3e20016 (tregs1 [(2, 0xabcd1234)] []), 63, 0x3e20016, 0xFFFC, 22, ⟨0, 0⟩, tregs1 [(2, 0xabcd1234)] [], 0x0, 0xabcd1234, by decide +kernel⟩,
   ⟨tramAt [] 0x420016 (tregs1 [(2, 0xabcd1234)] []), 63, 0x420016, 0xFFFC, 22, ⟨0, 0⟩, tregs1 [(2, 0xabcd1234)] [], 0xabcd1234, 0xabcd1234, by decide +kernel⟩,
   ⟨tramAt [] 0xd01f0007 (tregs1 [] []), 63, 0xd01f0007, 0xFFFC, 7, ⟨0, 0⟩, tregs1 [] [], 0x0, 0x0, by decide +kernel⟩,
   ⟨tramAt [] 0xd01f0000 (tregs1 [] []), 63, 0xd01f0000, 0xFFFC, 0, ⟨0, 0⟩, tregs1 [] [], 0x0, 0x0, by decide +kernel⟩,
   ⟨tramAt [] 0xd43f0007 (tregs1 [(1, 0x12340003)] []), 63, 0xd43f0007, 0xFFFC, 7, ⟨0, 0⟩, tregs1 [(1, 0x12340003)] [], 0x12340003, 0x0, by decide +kernel⟩,
   ⟨tramAt [] 0xd43f0007 (tregs1 [(1, 0x12340000)] []), 63, 0xd43f0007, 0xFFFC, 7, ⟨0, 0⟩, tregs1 [(1, 0x12340000)] [], 0x12340000, 0x0, by decide +kernel⟩,
   ⟨tramAt [] 0x0 (tregs1 [] []), 63, 0x0, 0xFFFC, 0, ⟨0, 0⟩, tregs1 [] [], 0x0, 0x0, (tramAt [] 0 (tregs1 [] [])).setEng 63 { tregs1 [] [] with branch := some (4, 8, 1) }, 4, 8, by decide +kernel⟩,
   ⟨tramAt [] 0xc0000005 (tregs1 [] []), 63, 0xc0000005, 0xFFFC, 5, ⟨0, 0⟩, tregs1 [] [], 0x0, 0x0, (tramAt [] 0xc0000005 (tregs1 [] [])).setEng 63 { tregs1 [] [] with branch := some (4, 8, 2) }, 4, 8, by decide +kernel⟩⟩

/-- The hypotheses of each clause of `Obligations.TramFlow` can be met (3). -/
theorem test_hyps_TramFlow_3 :
    (∃ (s : State) (e : Nat) (w : Nat) (p : Nat) (i : Nat) (v : TramView) (x : Engine) (a : Word) (b : Word) (u : State) (q : Nat) (n : Nat) (c : Nat), s.standsAt e w = true ∧ v.fetchErrs = 0 ∧ x = s.eng e ∧ p = s.rd TR_PC.PC e ∧ i = w % 2 ^ 16 ∧ a = x.rg (w / 2 ^ 21 % 32) ∧ b = x.rg (w / 2 ^ 16 % 32) ∧ u = s.setEng e { x with rep := some (q, n, c) } ∧ w = 0 ∧ p = (q + 4 * (n - 1)) % 65536 ∧ 1 < c) ∧
    (∃ (s : State) (e : Nat) (w : Nat) (p : Nat) (i : Nat) (v : TramView) (x : Engine) (a : Word) (b : Word) (u : State) (q : Nat) (n : Nat), s.standsAt e w = true ∧ v.fetchErrs = 0 ∧ x = s.eng e ∧ p = s.rd TR_PC.PC e ∧ i = w % 2 ^ 16 ∧ a = x.rg (w / 2 ^ 21 % 32) ∧ b = x.rg (w / 2 ^ 16 % 32) ∧ u = s.setEng e { x with rep := some (q, n, 1) } ∧ w = 0 ∧ p = (q + 4 * (n - 1)) % 65536) :=
  ⟨⟨tramAt [] 0x0 (tregs1 [] []), 63, 0x0, 0xFFFC, 0, ⟨0, 0⟩, tregs1 [] [], 0x0, 0x0, (tramAt [] 0 (tregs1 [] [])).setEng 63 { tregs1 [] [] with rep := some (0xFFF8, 2, 2) }, 0xFFF8, 2, 2, by decide +kernel⟩,
   ⟨tramAt [] 0x0 (tregs1 [] []), 63, 0x0, 0xFFFC, 0, ⟨0, 0⟩, tregs1 [] [], 0x0, 0x0, (tramAt [] 0 (tregs1 [] [])).setEng 63 { tregs1 [] [] with rep := some (0xFFF8, 2, 1) }, 0xFFF8, 2, by decide +kernel⟩⟩

/-- The hypotheses of each clause of `Obligations.TramSystem` can be met (1). -/
theorem test_hyps_TramSystem :
    (∃ (s : State) (e : Nat) (w : Nat) (p : Nat) (d : Nat) (i : Nat) (c : Nat) (v : TramView) (x : Engine) (a : Word) (n : BitVec 64), s.standsAt e w = true ∧ v.fetchErrs = 0 ∧ x = s.eng e ∧ p = s.rd TR_PC.PC e ∧ d = w / 2 ^ 21 % 32 ∧ i = w / 2 ^ 16 % 32 ∧ a = x.rg d ∧ n = x.cycles + BitVec.ofNat 64 c ∧ w / 2 ^ 26 = 2 ∧ w % 64 = 1 ∧ w &&& 0x3FFFFC0 = 0) ∧
    (∃ (s : State) (e : Nat) (w : Nat) (p : Nat) (d : Nat) (i : Nat) (c : Nat) (v : TramView) (x : Engine) (a : Word) (n : BitVec 64), s.standsAt e w = true ∧ v.fetchErrs = 0 ∧ x = s.eng e ∧ p = s.rd TR_PC.PC e ∧ d = w / 2 ^ 21 % 32 ∧ i = w / 2 ^ 16 % 32 ∧ a = x.rg d ∧ n = x.cycles + BitVec.ofNat 64 c ∧ w / 2 ^ 26 = 2 ∧ w % 64 = 2 ∧ w &&& 0x3FFFFC0 = 0) ∧
    (∃ (s : State) (e : Nat) (w : Nat) (p : Nat) (d : Nat) (i : Nat) (c : Nat) (v : TramView) (x : Engine) (a : Word) (n : BitVec 64), s.standsAt e w = true ∧ v.fetchErrs = 0 ∧ x = s.eng e ∧ p = s.rd TR_PC.PC e ∧ d = w / 2 ^ 21 % 32 ∧ i = w / 2 ^ 16 % 32 ∧ a = x.rg d ∧ n = x.cycles + BitVec.ofNat 64 c ∧ w / 2 ^ 26 = 2 ∧ w % 64 = 3 ∧ w &&& 0x3FFFFC0 = 0) ∧
    (∃ (s : State) (e : Nat) (w : Nat) (p : Nat) (d : Nat) (i : Nat) (c : Nat) (v : TramView) (x : Engine) (a : Word) (n : BitVec 64), s.standsAt e w = true ∧ v.fetchErrs = 0 ∧ x = s.eng e ∧ p = s.rd TR_PC.PC e ∧ d = w / 2 ^ 21 % 32 ∧ i = w / 2 ^ 16 % 32 ∧ a = x.rg d ∧ n = x.cycles + BitVec.ofNat 64 c ∧ w / 2 ^ 26 = 2 ∧ w % 64 = 4 ∧ w &&& 0x3FFFFC0 = 0 ∧ s.rd TR_STATUS.INH e = 1) ∧
    (∃ (s : State) (e : Nat) (w : Nat) (p : Nat) (d : Nat) (i : Nat) (c : Nat) (v : TramView) (x : Engine) (a : Word) (n : BitVec 64), s.standsAt e w = true ∧ v.fetchErrs = 0 ∧ x = s.eng e ∧ p = s.rd TR_PC.PC e ∧ d = w / 2 ^ 21 % 32 ∧ i = w / 2 ^ 16 % 32 ∧ a = x.rg d ∧ n = x.cycles + BitVec.ofNat 64 c ∧ w / 2 ^ 26 = 2 ∧ w % 64 = 4 ∧ w &&& 0x3FFFFC0 = 0 ∧ s.rd TR_STATUS.INH e = 0) ∧
    (∃ (s : State) (e : Nat) (w : Nat) (p : Nat) (d : Nat) (i : Nat) (c : Nat) (v : TramView) (x : Engine) (a : Word) (n : BitVec 64), s.standsAt e w = true ∧ v.fetchErrs = 0 ∧ x = s.eng e ∧ p = s.rd TR_PC.PC e ∧ d = w / 2 ^ 21 % 32 ∧ i = w / 2 ^ 16 % 32 ∧ a = x.rg d ∧ n = x.cycles + BitVec.ofNat 64 c ∧ w / 2 ^ 26 = 2 ∧ w % 64 = 5 ∧ w &&& 0x3FFFFC0 = 0 ∧ s.rd TR_STATUS.MON e = 1) :=
  ⟨⟨tramAt [] 0x8000001 (tregs1 [] []), 63, 0x8000001, 0xFFFC, 0, 0, 5, ⟨0, 0⟩, tregs1 [] [], 0x0, 5, by decide +kernel⟩,
   ⟨tramAt [] 0x8000002 (tregs1 [] []), 63, 0x8000002, 0xFFFC, 0, 0, 5, ⟨0, 0⟩, tregs1 [] [], 0x0, 5, by decide +kernel⟩,
   ⟨tramAt [] 0x8000003 (tregs1 [] []), 63, 0x8000003, 0xFFFC, 0, 0, 5, ⟨0, 0⟩, tregs1 [] [], 0x0, 5, by decide +kernel⟩,
   ⟨tramAt [(TR_STATUS.INH.key 63, 1), (TR_XPC.XPC.key 63, 0x40)] 0x8000004 (tregs1 [] []), 63, 0x8000004, 0xFFFC, 0, 0, 5, ⟨0, 0⟩, tregs1 [] [], 0x0, 5, by decide +kernel⟩,
   ⟨tramAt [] 0x8000004 (tregs1 [] []), 63, 0x8000004, 0xFFFC, 0, 0, 5, ⟨0, 0⟩, tregs1 [] [], 0x0, 5, by decide +kernel⟩,
   ⟨tramAt [(TR_STATUS.MON.key 63, 1), (TR_MPC.MPC.key 63, 0x40), (TR_DBG_CTRL.STEP.key 63, 1)] 0x8000005 (tregs1 [] []), 63, 0x8000005, 0xFFFC, 0, 0, 5, ⟨0, 0⟩, tregs1 [] [], 0x0, 5, by decide +kernel⟩⟩

/-- The hypotheses of each clause of `Obligations.TramSystem` can be met (2). -/
theorem test_hyps_TramSystem_2 :
    (∃ (s : State) (e : Nat) (w : Nat) (p : Nat) (d : Nat) (i : Nat) (c : Nat) (v : TramView) (x : Engine) (a : Word) (n : BitVec 64), s.standsAt e w = true ∧ v.fetchErrs = 0 ∧ x = s.eng e ∧ p = s.rd TR_PC.PC e ∧ d = w / 2 ^ 21 % 32 ∧ i = w / 2 ^ 16 % 32 ∧ a = x.rg d ∧ n = x.cycles + BitVec.ofNat 64 c ∧ w / 2 ^ 26 = 2 ∧ w % 64 = 5 ∧ w &&& 0x3FFFFC0 = 0 ∧ s.rd TR_STATUS.MON e = 0) ∧
    (∃ (s : State) (e : Nat) (w : Nat) (p : Nat) (d : Nat) (i : Nat) (c : Nat) (v : TramView) (x : Engine) (a : Word) (n : BitVec 64), s.standsAt e w = true ∧ v.fetchErrs = 0 ∧ x = s.eng e ∧ p = s.rd TR_PC.PC e ∧ d = w / 2 ^ 21 % 32 ∧ i = w / 2 ^ 16 % 32 ∧ a = x.rg d ∧ n = x.cycles + BitVec.ofNat 64 c ∧ w / 2 ^ 26 = 2 ∧ w % 64 = 6 ∧ w &&& 0x3FFFFC0 = 0 ∧ s.rd TR_STATUS.MON e = 1) ∧
    (∃ (s : State) (e : Nat) (w : Nat) (p : Nat) (d : Nat) (i : Nat) (c : Nat) (v : TramView) (x : Engine) (a : Word) (n : BitVec 64), s.standsAt e w = true ∧ v.fetchErrs = 0 ∧ x = s.eng e ∧ p = s.rd TR_PC.PC e ∧ d = w / 2 ^ 21 % 32 ∧ i = w / 2 ^ 16 % 32 ∧ a = x.rg d ∧ n = x.cycles + BitVec.ofNat 64 c ∧ w / 2 ^ 26 = 2 ∧ w % 64 = 6 ∧ w &&& 0x3FFFFC0 = 0 ∧ s.rd TR_STATUS.MON e = 0) ∧
    (∃ (s : State) (e : Nat) (w : Nat) (p : Nat) (d : Nat) (i : Nat) (c : Nat) (v : TramView) (x : Engine) (a : Word) (n : BitVec 64), s.standsAt e w = true ∧ v.fetchErrs = 0 ∧ x = s.eng e ∧ p = s.rd TR_PC.PC e ∧ d = w / 2 ^ 21 % 32 ∧ i = w / 2 ^ 16 % 32 ∧ a = x.rg d ∧ n = x.cycles + BitVec.ofNat 64 c ∧ w / 2 ^ 26 = 2 ∧ w % 64 = 7 ∧ s.rd TR_STATUS.INH e = 0) ∧
    (∃ (s : State) (e : Nat) (w : Nat) (p : Nat) (d : Nat) (i : Nat) (c : Nat) (v : TramView) (x : Engine) (a : Word) (n : BitVec 64), s.standsAt e w = true ∧ v.fetchErrs = 0 ∧ x = s.eng e ∧ p = s.rd TR_PC.PC e ∧ d = w / 2 ^ 21 % 32 ∧ i = w / 2 ^ 16 % 32 ∧ a = x.rg d ∧ n = x.cycles + BitVec.ofNat 64 c ∧ w / 2 ^ 26 = 2 ∧ w % 64 = 7 ∧ s.rd TR_STATUS.INH e = 1) ∧
    (∃ (s : State) (e : Nat) (w : Nat) (p : Nat) (d : Nat) (i : Nat) (c : Nat) (v : TramView) (x : Engine) (a : Word) (n : BitVec 64), s.standsAt e w = true ∧ v.fetchErrs = 0 ∧ x = s.eng e ∧ p = s.rd TR_PC.PC e ∧ d = w / 2 ^ 21 % 32 ∧ i = w / 2 ^ 16 % 32 ∧ a = x.rg d ∧ n = x.cycles + BitVec.ofNat 64 c ∧ w / 2 ^ 26 = 2 ∧ w % 64 = 8 ∧ w &&& 0xFFC0 = 0 ∧ i = 0) :=
  ⟨⟨tramAt [] 0x8000005 (tregs1 [] []), 63, 0x8000005, 0xFFFC, 0, 0, 5, ⟨0, 0⟩, tregs1 [] [], 0x0, 5, by decide +kernel⟩,
   ⟨tramAt [(TR_STATUS.MON.key 63, 1)] 0x8000006 (tregs1 [] []), 63, 0x8000006, 0xFFFC, 0, 0, 5, ⟨0, 0⟩, tregs1 [] [], 0x0, 5, by decide +kernel⟩,
   ⟨tramAt [(TR_CTRL.VBASE.key 63, 3), (TR_BP.EN.key 63 2, 1)] 0x8000006 (tregs1 [] []), 63, 0x8000006, 0xFFFC, 0, 0, 5, ⟨0, 0⟩, tregs1 [] [], 0x0, 5, by decide +kernel⟩,
   ⟨tramAt [(TR_CTRL.VBASE.key 63, 3)] 0xaaf3787 (tregs1 [] []), 63, 0xaaf3787, 0xFFFC, 21, 15, 5, ⟨0, 0⟩, tregs1 [] [], 0x0, 5, by decide +kernel⟩,
   ⟨tramAt [(TR_STATUS.INH.key 63, 1)] 0xaaf3787 (tregs1 [] []), 63, 0xaaf3787, 0xFFFC, 21, 15, 5, ⟨0, 0⟩, tregs1 [] [], 0x0, 5, by decide +kernel⟩,
   ⟨tramAt [(TR_STATUS.IE.key 63, 1)] 0xbe00008 ({ tregs1 [] [] with sv := true }), 63, 0xbe00008, 0xFFFC, 31, 0, 5, ⟨0, 0⟩, { tregs1 [] [] with sv := true }, 0x0, ({ tregs1 [] [] with sv := true }).cycles + 5, by decide +kernel⟩⟩

/-- The hypotheses of each clause of `Obligations.TramSystem` can be met (3). -/
theorem test_hyps_TramSystem_3 :
    (∃ (s : State) (e : Nat) (w : Nat) (p : Nat) (d : Nat) (i : Nat) (c : Nat) (v : TramView) (x : Engine) (a : Word) (n : BitVec 64), s.standsAt e w = true ∧ v.fetchErrs = 0 ∧ x = s.eng e ∧ p = s.rd TR_PC.PC e ∧ d = w / 2 ^ 21 % 32 ∧ i = w / 2 ^ 16 % 32 ∧ a = x.rg d ∧ n = x.cycles + BitVec.ofNat 64 c ∧ w / 2 ^ 26 = 2 ∧ w % 64 = 8 ∧ w &&& 0xFFC0 = 0 ∧ i = 1) ∧
    (∃ (s : State) (e : Nat) (w : Nat) (p : Nat) (d : Nat) (i : Nat) (c : Nat) (v : TramView) (x : Engine) (a : Word) (n : BitVec 64), s.standsAt e w = true ∧ v.fetchErrs = 0 ∧ x = s.eng e ∧ p = s.rd TR_PC.PC e ∧ d = w / 2 ^ 21 % 32 ∧ i = w / 2 ^ 16 % 32 ∧ a = x.rg d ∧ n = x.cycles + BitVec.ofNat 64 c ∧ w / 2 ^ 26 = 2 ∧ w % 64 = 8 ∧ w &&& 0xFFC0 = 0 ∧ i = 2) ∧
    (∃ (s : State) (e : Nat) (w : Nat) (p : Nat) (d : Nat) (i : Nat) (c : Nat) (v : TramView) (x : Engine) (a : Word) (n : BitVec 64), s.standsAt e w = true ∧ v.fetchErrs = 0 ∧ x = s.eng e ∧ p = s.rd TR_PC.PC e ∧ d = w / 2 ^ 21 % 32 ∧ i = w / 2 ^ 16 % 32 ∧ a = x.rg d ∧ n = x.cycles + BitVec.ofNat 64 c ∧ w / 2 ^ 26 = 2 ∧ w % 64 = 8 ∧ w &&& 0xFFC0 = 0 ∧ i = 3) ∧
    (∃ (s : State) (e : Nat) (w : Nat) (p : Nat) (d : Nat) (i : Nat) (c : Nat) (v : TramView) (x : Engine) (a : Word) (n : BitVec 64), s.standsAt e w = true ∧ v.fetchErrs = 0 ∧ x = s.eng e ∧ p = s.rd TR_PC.PC e ∧ d = w / 2 ^ 21 % 32 ∧ i = w / 2 ^ 16 % 32 ∧ a = x.rg d ∧ n = x.cycles + BitVec.ofNat 64 c ∧ w / 2 ^ 26 = 2 ∧ w % 64 = 8 ∧ w &&& 0xFFC0 = 0 ∧ i = 4) ∧
    (∃ (s : State) (e : Nat) (w : Nat) (p : Nat) (d : Nat) (i : Nat) (c : Nat) (v : TramView) (x : Engine) (a : Word) (n : BitVec 64), s.standsAt e w = true ∧ v.fetchErrs = 0 ∧ x = s.eng e ∧ p = s.rd TR_PC.PC e ∧ d = w / 2 ^ 21 % 32 ∧ i = w / 2 ^ 16 % 32 ∧ a = x.rg d ∧ n = x.cycles + BitVec.ofNat 64 c ∧ w / 2 ^ 26 = 2 ∧ w % 64 = 8 ∧ 4 < i) ∧
    (∃ (s : State) (e : Nat) (w : Nat) (p : Nat) (d : Nat) (i : Nat) (c : Nat) (v : TramView) (x : Engine) (a : Word) (n : BitVec 64), s.standsAt e w = true ∧ v.fetchErrs = 0 ∧ x = s.eng e ∧ p = s.rd TR_PC.PC e ∧ d = w / 2 ^ 21 % 32 ∧ i = w / 2 ^ 16 % 32 ∧ a = x.rg d ∧ n = x.cycles + BitVec.ofNat 64 c ∧ w / 2 ^ 26 = 2 ∧ w % 64 = 9 ∧ w &&& 0xFFC0 = 0 ∧ i = 0) :=
  ⟨⟨tramAt [] 0xbe10008 (tregs1 [] []), 63, 0xbe10008, 0xFFFC, 31, 1, 5, ⟨0, 0⟩, tregs1 [] [], 0x0, (tregs1 [] []).cycles + 5, by decide +kernel⟩,
   ⟨tramAt [] 0xbe20008 ({ tregs1 [] [] with cycles := 0x1FFFFFFFE }), 63, 0xbe20008, 0xFFFC, 31, 2, 5, ⟨0, 0⟩, { tregs1 [] [] with cycles := 0x1FFFFFFFE }, 0x0, ({ tregs1 [] [] with cycles := 0x1FFFFFFFE }).cycles + 5, by decide +kernel⟩,
   ⟨tramAt [] 0xbe30008 ({ tregs1 [] [] with cyclesHi := 9 }), 63, 0xbe30008, 0xFFFC, 31, 3, 5, ⟨0, 0⟩, { tregs1 [] [] with cyclesHi := 9 }, 0x0, ({ tregs1 [] [] with cyclesHi := 9 }).cycles + 5, by decide +kernel⟩,
   ⟨tramAt [] 0xbe40008 (tregs1 [] []), 63, 0xbe40008, 0xFFFC, 31, 4, 5, ⟨0, 0⟩, tregs1 [] [], 0x0, (tregs1 [] []).cycles + 5, by decide +kernel⟩,
   ⟨tramAt [] 0xbe50008 (tregs1 [] []), 63, 0xbe50008, 0xFFFC, 31, 5, 5, ⟨0, 0⟩, tregs1 [] [], 0x0, (tregs1 [] []).cycles + 5, by decide +kernel⟩,
   ⟨tramAt [] 0x8200009 (tregs1 [(1, 0x89ABCDEF)] []), 63, 0x8200009, 0xFFFC, 1, 0, 5, ⟨0, 0⟩, tregs1 [(1, 0x89ABCDEF)] [], 0x89abcdef, (tregs1 [(1, 0x89ABCDEF)] []).cycles + 5, by decide +kernel⟩⟩

/-- The hypotheses of each clause of `Obligations.TramSystem` can be met (4). -/
theorem test_hyps_TramSystem_4 :
    (∃ (s : State) (e : Nat) (w : Nat) (p : Nat) (d : Nat) (i : Nat) (c : Nat) (v : TramView) (x : Engine) (a : Word) (n : BitVec 64), s.standsAt e w = true ∧ v.fetchErrs = 0 ∧ x = s.eng e ∧ p = s.rd TR_PC.PC e ∧ d = w / 2 ^ 21 % 32 ∧ i = w / 2 ^ 16 % 32 ∧ a = x.rg d ∧ n = x.cycles + BitVec.ofNat 64 c ∧ w / 2 ^ 26 = 2 ∧ w % 64 = 9 ∧ w &&& 0xFFC0 = 0 ∧ (i = 1 ∨ i = 4)) ∧
    (∃ (s : State) (e : Nat) (w : Nat) (p : Nat) (d : Nat) (i : Nat) (c : Nat) (v : TramView) (x : Engine) (a : Word) (n : BitVec 64), s.standsAt e w = true ∧ v.fetchErrs = 0 ∧ x = s.eng e ∧ p = s.rd TR_PC.PC e ∧ d = w / 2 ^ 21 % 32 ∧ i = w / 2 ^ 16 % 32 ∧ a = x.rg d ∧ n = x.cycles + BitVec.ofNat 64 c ∧ w / 2 ^ 26 = 2 ∧ w % 64 = 9 ∧ w &&& 0xFFC0 = 0 ∧ i = 2) ∧
    (∃ (s : State) (e : Nat) (w : Nat) (p : Nat) (d : Nat) (i : Nat) (c : Nat) (v : TramView) (x : Engine) (a : Word) (n : BitVec 64), s.standsAt e w = true ∧ v.fetchErrs = 0 ∧ x = s.eng e ∧ p = s.rd TR_PC.PC e ∧ d = w / 2 ^ 21 % 32 ∧ i = w / 2 ^ 16 % 32 ∧ a = x.rg d ∧ n = x.cycles + BitVec.ofNat 64 c ∧ w / 2 ^ 26 = 2 ∧ w % 64 = 9 ∧ w &&& 0xFFC0 = 0 ∧ i = 3) ∧
    (∃ (s : State) (e : Nat) (w : Nat) (p : Nat) (d : Nat) (i : Nat) (c : Nat) (v : TramView) (x : Engine) (a : Word) (n : BitVec 64), s.standsAt e w = true ∧ v.fetchErrs = 0 ∧ x = s.eng e ∧ p = s.rd TR_PC.PC e ∧ d = w / 2 ^ 21 % 32 ∧ i = w / 2 ^ 16 % 32 ∧ a = x.rg d ∧ n = x.cycles + BitVec.ofNat 64 c ∧ w / 2 ^ 26 = 2 ∧ w % 64 = 10 ∧ w &&& 0x183FC0 = 0 ∧ w / 2 ^ 14 % 4 < 3) ∧
    (∃ (s : State) (e : Nat) (w : Nat) (p : Nat) (d : Nat) (i : Nat) (c : Nat) (v : TramView) (x : Engine) (a : Word) (n : BitVec 64), s.standsAt e w = true ∧ v.fetchErrs = 0 ∧ x = s.eng e ∧ p = s.rd TR_PC.PC e ∧ d = w / 2 ^ 21 % 32 ∧ i = w / 2 ^ 16 % 32 ∧ a = x.rg d ∧ n = x.cycles + BitVec.ofNat 64 c ∧ w / 2 ^ 26 = 2 ∧ w % 64 = 10 ∧ w / 2 ^ 14 % 4 = 3) ∧
    (∃ (s : State) (e : Nat) (w : Nat) (p : Nat) (d : Nat) (i : Nat) (c : Nat) (v : TramView) (x : Engine) (a : Word) (n : BitVec 64) (m : Nat), s.standsAt e w = true ∧ v.fetchErrs = 0 ∧ x = s.eng e ∧ p = s.rd TR_PC.PC e ∧ d = w / 2 ^ 21 % 32 ∧ i = w / 2 ^ 16 % 32 ∧ a = x.rg d ∧ n = x.cycles + BitVec.ofNat 64 c ∧ m = w / 2 ^ 14 % 4 * 8 + w / 2 ^ 16 % 8 ∧ w / 2 ^ 26 = 2 ∧ w % 64 = 11 ∧ w &&& 0x183FC0 = 0 ∧ m < 24 ∧ (16 ≤ m → a.toNat ≤ 0x200000)) :=
  ⟨⟨tramAt [] 0x8240009 (tregs1 [(1, 0x89ABCDEF)] []), 63, 0x8240009, 0xFFFC, 1, 4, 5, ⟨0, 0⟩, tregs1 [(1, 0x89ABCDEF)] [], 0x89abcdef, (tregs1 [(1, 0x89ABCDEF)] []).cycles + 5, by decide +kernel⟩,
   ⟨tramAt [] 0x8220009 (tregs1 [(1, 0x89ABCDEF)] []), 63, 0x8220009, 0xFFFC, 1, 2, 5, ⟨0, 0⟩, tregs1 [(1, 0x89ABCDEF)] [], 0x89abcdef, (tregs1 [(1, 0x89ABCDEF)] []).cycles + 5, by decide +kernel⟩,
   ⟨tramAt [] 0x8230009 (tregs1 [(1, 0x89ABCDEF)] []), 63, 0x8230009, 0xFFFC, 1, 3, 5, ⟨0, 0⟩, tregs1 [(1, 0x89ABCDEF)] [], 0x89abcdef, (tregs1 [(1, 0x89ABCDEF)] []).cycles + 5, by decide +kernel⟩,
   ⟨tramAt [] 0xbe7800a ({ tregs1 [] [] with k := [(23, 77)] }), 63, 0xbe7800a, 0xFFFC, 31, 7, 5, ⟨0, 0⟩, { tregs1 [] [] with k := [(23, 77)] }, 0x0, ({ tregs1 [] [] with k := [(23, 77)] }).cycles + 5, by decide +kernel⟩,
   ⟨tramAt [] 0xbe7c00a (tregs1 [] []), 63, 0xbe7c00a, 0xFFFC, 31, 7, 5, ⟨0, 0⟩, tregs1 [] [], 0x0, (tregs1 [] []).cycles + 5, by decide +kernel⟩,
   ⟨tramAt [] 0x827400b (tregs1 [(1, 0x89ABCDEF)] []), 63, 0x827400b, 0xFFFC, 1, 7, 5, ⟨0, 0⟩, tregs1 [(1, 0x89ABCDEF)] [], 0x89abcdef, (tregs1 [(1, 0x89ABCDEF)] []).cycles + 5, 15, by decide +kernel⟩⟩

/-- The hypotheses of each clause of `Obligations.TramSystem` can be met (5). -/
theorem test_hyps_TramSystem_5 :
    (∃ (s : State) (e : Nat) (w : Nat) (p : Nat) (d : Nat) (i : Nat) (c : Nat) (v : TramView) (x : Engine) (a : Word) (n : BitVec 64) (m : Nat), s.standsAt e w = true ∧ v.fetchErrs = 0 ∧ x = s.eng e ∧ p = s.rd TR_PC.PC e ∧ d = w / 2 ^ 21 % 32 ∧ i = w / 2 ^ 16 % 32 ∧ a = x.rg d ∧ n = x.cycles + BitVec.ofNat 64 c ∧ m = w / 2 ^ 14 % 4 * 8 + w / 2 ^ 16 % 8 ∧ w / 2 ^ 26 = 2 ∧ w % 64 = 11 ∧ w &&& 0x183FC0 = 0 ∧ 16 ≤ m ∧ m < 24 ∧ 0x200000 < a.toNat) :=
  ⟨tramAt [] 0x827800b (tregs1 [(1, 0x89ABCDEF)] []), 63, 0x827800b, 0xFFFC, 1, 7, 5, ⟨0, 0⟩, tregs1 [(1, 0x89ABCDEF)] [], 0x89abcdef, (tregs1 [(1, 0x89ABCDEF)] []).cycles + 5, 23, by decide +kernel⟩

/-- The hypotheses of each clause of `Obligations.TramLoads` can be met (1). -/
theorem test_hyps_TramLoads :
    (∃ (s : State) (u : State) (e : Nat) (w : Nat) (d : Nat) (m : Nat) (g : Nat) (y : Nat) (v : TramView) (x : Engine), s.standsAt e w = true ∧ v.fetchErrs = 0 ∧ x = s.eng e ∧ d = w / 2 ^ 21 % 32 ∧ y = (if w % 2 ^ 16 < 2 ^ 15 then w % 2 ^ 16 else w % 2 ^ 16 + 2 ^ 32 - 2 ^ 16) ∧ s.wpAt e m false = false ∧ m = (x.rg (w / 2 ^ 16 % 32) + BitVec.ofNat 32 y).toNat ∧ v.dataErrs = 0 ∧ s.wordErr g = 0 ∧ ((m < 0x10000 ∧ g = 0x010005010000 + e * 0x40000 + m ∧ u = s) ∨ (0x10000 ≤ m ∧ m < 0x20000 ∧ g = 0x010005000000 + e * 0x40000 + m % 0x10000 ∧ u = s) ∨ (0x400000 ≤ m ∧ m < 0x600000 ∧ g = 0x010004000000 + e / 8 * 0x200000 + m % 0x200000 ∧ u = s.ungate 1 (e / 8 * 16 + m / 8 % 16))) ∧ w / 2 ^ 26 = 0x10 ∧ (m < 0x10000 ∨ 0x20000 ≤ m)) ∧
    (∃ (s : State) (u : State) (e : Nat) (w : Nat) (d : Nat) (m : Nat) (g : Nat) (y : Nat) (v : TramView) (x : Engine), s.standsAt e w = true ∧ v.fetchErrs = 0 ∧ x = s.eng e ∧ d = w / 2 ^ 21 % 32 ∧ y = (if w % 2 ^ 16 < 2 ^ 15 then w % 2 ^ 16 else w % 2 ^ 16 + 2 ^ 32 - 2 ^ 16) ∧ s.wpAt e m false = false ∧ m = (x.rg (w / 2 ^ 16 % 32) + BitVec.ofNat 32 y).toNat ∧ v.dataErrs = 0 ∧ s.wordErr g = 0 ∧ ((m < 0x10000 ∧ g = 0x010005010000 + e * 0x40000 + m ∧ u = s) ∨ (0x10000 ≤ m ∧ m < 0x20000 ∧ g = 0x010005000000 + e * 0x40000 + m % 0x10000 ∧ u = s) ∨ (0x400000 ≤ m ∧ m < 0x600000 ∧ g = 0x010004000000 + e / 8 * 0x200000 + m % 0x200000 ∧ u = s.ungate 1 (e / 8 * 16 + m / 8 % 16))) ∧ w / 2 ^ 26 = 0x11 ∧ (m < 0x10000 ∨ 0x20000 ≤ m)) ∧
    (∃ (s : State) (u : State) (e : Nat) (w : Nat) (d : Nat) (m : Nat) (g : Nat) (y : Nat) (v : TramView) (x : Engine), s.standsAt e w = true ∧ v.fetchErrs = 0 ∧ x = s.eng e ∧ d = w / 2 ^ 21 % 32 ∧ y = (if w % 2 ^ 16 < 2 ^ 15 then w % 2 ^ 16 else w % 2 ^ 16 + 2 ^ 32 - 2 ^ 16) ∧ s.wpAt e m false = false ∧ m = (x.rg (w / 2 ^ 16 % 32) + BitVec.ofNat 32 y).toNat ∧ v.dataErrs = 0 ∧ s.wordErr g = 0 ∧ ((m < 0x10000 ∧ g = 0x010005010000 + e * 0x40000 + m ∧ u = s) ∨ (0x10000 ≤ m ∧ m < 0x20000 ∧ g = 0x010005000000 + e * 0x40000 + m % 0x10000 ∧ u = s) ∨ (0x400000 ≤ m ∧ m < 0x600000 ∧ g = 0x010004000000 + e / 8 * 0x200000 + m % 0x200000 ∧ u = s.ungate 1 (e / 8 * 16 + m / 8 % 16))) ∧ w / 2 ^ 26 = 0x12 ∧ (m < 0x10000 ∨ 0x20000 ≤ m) ∧ m % 2 = 0) ∧
    (∃ (s : State) (u : State) (e : Nat) (w : Nat) (d : Nat) (m : Nat) (g : Nat) (y : Nat) (v : TramView) (x : Engine), s.standsAt e w = true ∧ v.fetchErrs = 0 ∧ x = s.eng e ∧ d = w / 2 ^ 21 % 32 ∧ y = (if w % 2 ^ 16 < 2 ^ 15 then w % 2 ^ 16 else w % 2 ^ 16 + 2 ^ 32 - 2 ^ 16) ∧ s.wpAt e m false = false ∧ m = (x.rg (w / 2 ^ 16 % 32) + BitVec.ofNat 32 y).toNat ∧ v.dataErrs = 0 ∧ s.wordErr g = 0 ∧ ((m < 0x10000 ∧ g = 0x010005010000 + e * 0x40000 + m ∧ u = s) ∨ (0x10000 ≤ m ∧ m < 0x20000 ∧ g = 0x010005000000 + e * 0x40000 + m % 0x10000 ∧ u = s) ∨ (0x400000 ≤ m ∧ m < 0x600000 ∧ g = 0x010004000000 + e / 8 * 0x200000 + m % 0x200000 ∧ u = s.ungate 1 (e / 8 * 16 + m / 8 % 16))) ∧ w / 2 ^ 26 = 0x13 ∧ (m < 0x10000 ∨ 0x20000 ≤ m) ∧ m % 2 = 0) ∧
    (∃ (s : State) (u : State) (e : Nat) (w : Nat) (d : Nat) (m : Nat) (g : Nat) (y : Nat) (v : TramView) (x : Engine), s.standsAt e w = true ∧ v.fetchErrs = 0 ∧ x = s.eng e ∧ d = w / 2 ^ 21 % 32 ∧ y = (if w % 2 ^ 16 < 2 ^ 15 then w % 2 ^ 16 else w % 2 ^ 16 + 2 ^ 32 - 2 ^ 16) ∧ s.wpAt e m false = false ∧ m = (x.rg (w / 2 ^ 16 % 32) + BitVec.ofNat 32 y).toNat ∧ v.dataErrs = 0 ∧ s.wordErr g = 0 ∧ ((m < 0x10000 ∧ g = 0x010005010000 + e * 0x40000 + m ∧ u = s) ∨ (0x10000 ≤ m ∧ m < 0x20000 ∧ g = 0x010005000000 + e * 0x40000 + m % 0x10000 ∧ u = s) ∨ (0x400000 ≤ m ∧ m < 0x600000 ∧ g = 0x010004000000 + e / 8 * 0x200000 + m % 0x200000 ∧ u = s.ungate 1 (e / 8 * 16 + m / 8 % 16))) ∧ w / 2 ^ 26 = 0x14 ∧ m % 4 = 0) ∧
    (∃ (s : State) (u : State) (e : Nat) (w : Nat) (d : Nat) (m : Nat) (g : Nat) (y : Nat) (v : TramView) (x : Engine), s.standsAt e w = true ∧ v.fetchErrs = 0 ∧ x = s.eng e ∧ d = w / 2 ^ 21 % 32 ∧ y = (if w % 2 ^ 16 < 2 ^ 15 then w % 2 ^ 16 else w % 2 ^ 16 + 2 ^ 32 - 2 ^ 16) ∧ s.wpAt e m false = false ∧ m = (x.rg (w / 2 ^ 16 % 32) + BitVec.ofNat 32 y).toNat ∧ v.dataErrs = 0 ∧ s.wordErr g = 0 ∧ ((m < 0x10000 ∧ g = 0x010005010000 + e * 0x40000 + m ∧ u = s) ∨ (0x10000 ≤ m ∧ m < 0x20000 ∧ g = 0x010005000000 + e * 0x40000 + m % 0x10000 ∧ u = s) ∨ (0x400000 ≤ m ∧ m < 0x600000 ∧ g = 0x010004000000 + e / 8 * 0x200000 + m % 0x200000 ∧ u = s.ungate 1 (e / 8 * 16 + m / 8 % 16))) ∧ w / 2 ^ 26 = 0x15 ∧ m % 8 = 0 ∧ d % 2 = 0) :=
  ⟨⟨tramMem [] 0x43e1ffff (tregs2 [(1, 0x401)] []) 0x10005fd0400 0x8899aabbccddeef1, tramMem [] 0x43e1ffff (tregs2 [(1, 0x401)] []) 0x10005fd0400 0x8899aabbccddeef1, 63, 0x43e1ffff, 31, 0x400, 0x10005fd0400, 0xffffffff, ⟨0, 0⟩, tregs2 [(1, 0x401)] [], by decide +kernel⟩,
   ⟨tramMem [] 0x47e10003 (tregs2 [(1, 0x500000)] []) 0x10004f00003 0x8899aabbccddeef1, (tramMem [] 0x47e10003 (tregs2 [(1, 0x500000)] []) 0x10004f00003 0x8899aabbccddeef1).ungate 1 112, 63, 0x47e10003, 31, 0x500003, 0x10004f00003, 0x3, ⟨0, 0⟩, tregs2 [(1, 0x500000)] [], by decide +kernel⟩,
   ⟨tramMem [] 0x4be1fffe (tregs2 [(1, 0x402)] []) 0x10005fd0400 0x8899aabbccddeef1, tramMem [] 0x4be1fffe (tregs2 [(1, 0x402)] []) 0x10005fd0400 0x8899aabbccddeef1, 63, 0x4be1fffe, 31, 0x400, 0x10005fd0400, 0xfffffffe, ⟨0, 0⟩, tregs2 [(1, 0x402)] [], by decide +kernel⟩,
   ⟨tramMem [] 0x4fe10002 (tregs2 [(1, 0x500000)] []) 0x10004f00002 0x8899aabbccddeef1, (tramMem [] 0x4fe10002 (tregs2 [(1, 0x500000)] []) 0x10004f00002 0x8899aabbccddeef1).ungate 1 112, 63, 0x4fe10002, 31, 0x500002, 0x10004f00002, 0x2, ⟨0, 0⟩, tregs2 [(1, 0x500000)] [], by decide +kernel⟩,
   ⟨tramMem [] 0x53e10004 (tregs2 [(1, 0x10000)] []) 0x10005fc0004 0x8899aabbccddeef1, tramMem [] 0x53e10004 (tregs2 [(1, 0x10000)] []) 0x10005fc0004 0x8899aabbccddeef1, 63, 0x53e10004, 31, 0x10004, 0x10005fc0004, 0x4, ⟨0, 0⟩, tregs2 [(1, 0x10000)] [], by decide +kernel⟩,
   ⟨tramMem [] 0x57c1fff8 (tregs2 [(1, 0x408)] []) 0x10005fd0400 0x8899aabbccddeef1, tramMem [] 0x57c1fff8 (tregs2 [(1, 0x408)] []) 0x10005fd0400 0x8899aabbccddeef1, 63, 0x57c1fff8, 30, 0x400, 0x10005fd0400, 0xfffffff8, ⟨0, 0⟩, tregs2 [(1, 0x408)] [], by decide +kernel⟩⟩

/-- The hypotheses of each clause of `Obligations.TramLoads` can be met (2). -/
theorem test_hyps_TramLoads_2 :
    (∃ (s : State) (u : State) (e : Nat) (w : Nat) (d : Nat) (m : Nat) (g : Nat) (y : Nat) (v : TramView) (x : Engine), s.standsAt e w = true ∧ v.fetchErrs = 0 ∧ x = s.eng e ∧ d = w / 2 ^ 21 % 32 ∧ y = (if w % 2 ^ 16 < 2 ^ 15 then w % 2 ^ 16 else w % 2 ^ 16 + 2 ^ 32 - 2 ^ 16) ∧ s.wpAt e m false = false ∧ m = (x.rg (w / 2 ^ 16 % 32) + BitVec.ofNat 32 y).toNat ∧ v.dataErrs = 0 ∧ s.wordErr g = 0 ∧ ((m < 0x10000 ∧ g = 0x010005010000 + e * 0x40000 + m ∧ u = s) ∨ (0x10000 ≤ m ∧ m < 0x20000 ∧ g = 0x010005000000 + e * 0x40000 + m % 0x10000 ∧ u = s) ∨ (0x400000 ≤ m ∧ m < 0x600000 ∧ g = 0x010004000000 + e / 8 * 0x200000 + m % 0x200000 ∧ u = s.ungate 1 (e / 8 * 16 + m / 8 % 16))) ∧ w / 2 ^ 26 = 0x16 ∧ m % 4 = 0 ∧ 0x400000 ≤ m) ∧
    (∃ (s : State) (u : State) (e : Nat) (w : Nat) (d : Nat) (m : Nat) (g : Nat) (y : Nat) (v : TramView) (x : Engine), s.standsAt e w = true ∧ v.fetchErrs = 0 ∧ x = s.eng e ∧ d = w / 2 ^ 21 % 32 ∧ y = (if w % 2 ^ 16 < 2 ^ 15 then w % 2 ^ 16 else w % 2 ^ 16 + 2 ^ 32 - 2 ^ 16) ∧ s.wpAt e m false = false ∧ m = (x.rg (w / 2 ^ 16 % 32) + BitVec.ofNat 32 y).toNat ∧ v.dataErrs = 0 ∧ s.wordErr g = 0 ∧ ((m < 0x10000 ∧ g = 0x010005010000 + e * 0x40000 + m ∧ u = s) ∨ (0x10000 ≤ m ∧ m < 0x20000 ∧ g = 0x010005000000 + e * 0x40000 + m % 0x10000 ∧ u = s) ∨ (0x400000 ≤ m ∧ m < 0x600000 ∧ g = 0x010004000000 + e / 8 * 0x200000 + m % 0x200000 ∧ u = s.ungate 1 (e / 8 * 16 + m / 8 % 16))) ∧ w / 2 ^ 26 = 0x17 ∧ m % 8 = 0 ∧ 0x400000 ≤ m ∧ d % 2 = 0) ∧
    (∃ (s : State) (e : Nat) (w : Nat) (d : Nat) (m : Nat) (y : Nat) (v : TramView) (x : Engine), s.standsAt e w = true ∧ v.fetchErrs = 0 ∧ x = s.eng e ∧ d = w / 2 ^ 21 % 32 ∧ y = (if w % 2 ^ 16 < 2 ^ 15 then w % 2 ^ 16 else w % 2 ^ 16 + 2 ^ 32 - 2 ^ 16) ∧ s.wpAt e m false = false ∧ m = (x.rg (w / 2 ^ 16 % 32) + BitVec.ofNat 32 y).toNat ∧ w / 2 ^ 26 = 0x10 ∧ ((0x10000 ≤ m ∧ m < 0x400000) ∨ (0x600000 ≤ m ∧ m < 0x80000000))) ∧
    (∃ (s : State) (e : Nat) (w : Nat) (d : Nat) (m : Nat) (y : Nat) (v : TramView) (x : Engine), s.standsAt e w = true ∧ v.fetchErrs = 0 ∧ x = s.eng e ∧ d = w / 2 ^ 21 % 32 ∧ y = (if w % 2 ^ 16 < 2 ^ 15 then w % 2 ^ 16 else w % 2 ^ 16 + 2 ^ 32 - 2 ^ 16) ∧ s.wpAt e m false = false ∧ m = (x.rg (w / 2 ^ 16 % 32) + BitVec.ofNat 32 y).toNat ∧ w / 2 ^ 26 = 0x14 ∧ (m % 4 ≠ 0 ∨ (0x30000 ≤ m ∧ m < 0x400000) ∨ (0x600000 ≤ m ∧ m < 0x80000000))) ∧
    (∃ (s : State) (e : Nat) (w : Nat) (d : Nat) (m : Nat) (y : Nat) (v : TramView) (x : Engine), s.standsAt e w = true ∧ v.fetchErrs = 0 ∧ x = s.eng e ∧ d = w / 2 ^ 21 % 32 ∧ y = (if w % 2 ^ 16 < 2 ^ 15 then w % 2 ^ 16 else w % 2 ^ 16 + 2 ^ 32 - 2 ^ 16) ∧ s.wpAt e m false = false ∧ m = (x.rg (w / 2 ^ 16 % 32) + BitVec.ofNat 32 y).toNat ∧ w / 2 ^ 26 = 0x16 ∧ (m % 4 ≠ 0 ∨ m < 0x400000 ∨ 0x600000 ≤ m)) ∧
    (∃ (s : State) (e : Nat) (w : Nat) (d : Nat) (m : Nat) (y : Nat) (v : TramView) (x : Engine), s.standsAt e w = true ∧ v.fetchErrs = 0 ∧ x = s.eng e ∧ d = w / 2 ^ 21 % 32 ∧ y = (if w % 2 ^ 16 < 2 ^ 15 then w % 2 ^ 16 else w % 2 ^ 16 + 2 ^ 32 - 2 ^ 16) ∧ s.wpAt e m false = false ∧ m = (x.rg (w / 2 ^ 16 % 32) + BitVec.ofNat 32 y).toNat ∧ w / 2 ^ 26 = 0x15 ∧ d % 2 = 1) :=
  ⟨⟨tramMem [] 0x5be10004 (tregs2 [(1, 0x500000)] []) 0x10004f00004 0x8899aabbccddeef1, (tramMem [] 0x5be10004 (tregs2 [(1, 0x500000)] []) 0x10004f00004 0x8899aabbccddeef1).ungate 1 112, 63, 0x5be10004, 31, 0x500004, 0x10004f00004, 0x4, ⟨0, 0⟩, tregs2 [(1, 0x500000)] [], by decide +kernel⟩,
   ⟨tramMem [] 0x5fc10008 (tregs2 [(1, 0x500000)] []) 0x10004f00008 0x8899aabbccddeef1, (tramMem [] 0x5fc10008 (tregs2 [(1, 0x500000)] []) 0x10004f00008 0x8899aabbccddeef1).ungate 1 113, 63, 0x5fc10008, 30, 0x500008, 0x10004f00008, 0x8, ⟨0, 0⟩, tregs2 [(1, 0x500000)] [], by decide +kernel⟩,
   ⟨tramMem [] 0x43e10001 (tregs2 [(1, 0x10000)] []) 0x10005fc0001 0x8899aabbccddeef1, 63, 0x43e10001, 31, 0x10001, 0x1, ⟨0, 0⟩, tregs2 [(1, 0x10000)] [], by decide +kernel⟩,
   ⟨tramMem [] 0x53e10002 (tregs2 [(1, 0x400)] []) 0x10005fd0402 0x8899aabbccddeef1, 63, 0x53e10002, 31, 0x402, 0x2, ⟨0, 0⟩, tregs2 [(1, 0x400)] [], by decide +kernel⟩,
   ⟨tramMem [] 0x5be10004 (tregs2 [(1, 0x400)] []) 0x10005fd0404 0x8899aabbccddeef1, 63, 0x5be10004, 31, 0x404, 0x4, ⟨0, 0⟩, tregs2 [(1, 0x400)] [], by decide +kernel⟩,
   ⟨tramMem [] 0x57e10008 (tregs2 [(1, 0x400)] []) 0x10005fd0408 0x8899aabbccddeef1, 63, 0x57e10008, 31, 0x408, 0x8, ⟨0, 0⟩, tregs2 [(1, 0x400)] [], by decide +kernel⟩⟩

/-- The hypotheses of each clause of `Obligations.TramLoads` can be met (3). -/
theorem test_hyps_TramLoads_3 :
    (∃ (s : State) (e : Nat) (w : Nat) (d : Nat) (m : Nat) (y : Nat) (v : TramView) (x : Engine), s.standsAt e w = true ∧ v.fetchErrs = 0 ∧ x = s.eng e ∧ d = w / 2 ^ 21 % 32 ∧ y = (if w % 2 ^ 16 < 2 ^ 15 then w % 2 ^ 16 else w % 2 ^ 16 + 2 ^ 32 - 2 ^ 16) ∧ s.wpAt e m false = false ∧ m = (x.rg (w / 2 ^ 16 % 32) + BitVec.ofNat 32 y).toNat ∧ w / 2 ^ 26 = 0x17 ∧ d % 2 = 1) ∧
    (∃ (s : State) (e : Nat) (w : Nat) (d : Nat) (m : Nat) (g : Nat) (y : Nat) (v : TramView) (x : Engine), s.standsAt e w = true ∧ v.fetchErrs = 0 ∧ x = s.eng e ∧ d = w / 2 ^ 21 % 32 ∧ y = (if w % 2 ^ 16 < 2 ^ 15 then w % 2 ^ 16 else w % 2 ^ 16 + 2 ^ 32 - 2 ^ 16) ∧ s.wpAt e m false = false ∧ m = (x.rg (w / 2 ^ 16 % 32) + BitVec.ofNat 32 y).toNat ∧ w / 2 ^ 26 = 0x14 ∧ m % 4 = 0 ∧ m < 0x10000 ∧ g = 0x010005010000 + e * 0x40000 + m ∧ s.wordErr g = 0 ∧ v.dataErrs = 2) ∧
    (∃ (s : State) (e : Nat) (w : Nat) (d : Nat) (m : Nat) (y : Nat) (v : TramView) (x : Engine) (t : State) (r : Nat), s.standsAt e w = true ∧ v.fetchErrs = 0 ∧ x = s.eng e ∧ d = w / 2 ^ 21 % 32 ∧ y = (if w % 2 ^ 16 < 2 ^ 15 then w % 2 ^ 16 else w % 2 ^ 16 + 2 ^ 32 - 2 ^ 16) ∧ s.wpAt e m false = false ∧ (r, t) = s.trRead e (m % 0x10000) 4 false ∧ m = (x.rg (w / 2 ^ 16 % 32) + BitVec.ofNat 32 y).toNat ∧ w / 2 ^ 26 = 0x14 ∧ m % 4 = 0 ∧ 0x20000 ≤ m ∧ m < 0x30000 ∧ t.wpAt e m false = false) ∧
    (∃ (s : State) (e : Nat) (w : Nat) (d : Nat) (m : Nat) (y : Nat) (v : TramView) (x : Engine) (i : Nat) (b : Nat), s.standsAt e w = true ∧ v.fetchErrs = 0 ∧ x = s.eng e ∧ d = w / 2 ^ 21 % 32 ∧ y = (if w % 2 ^ 16 < 2 ^ 15 then w % 2 ^ 16 else w % 2 ^ 16 + 2 ^ 32 - 2 ^ 16) ∧ s.wpAt e m false = false ∧ i = (m - 0x80000000) / 0x10000000 ∧ b = s.rd TR_APER.BASE e i ∧ m = (x.rg (w / 2 ^ 16 % 32) + BitVec.ofNat 32 y).toNat ∧ w / 2 ^ 26 = 0x14 ∧ m % 4 = 0 ∧ 0x80000000 ≤ m ∧ s.rd TR_APER.VALID e i = 0) ∧
    (∃ (s : State) (e : Nat) (w : Nat) (d : Nat) (m : Nat) (y : Nat) (v : TramView) (x : Engine) (i : Nat) (b : Nat), s.standsAt e w = true ∧ v.fetchErrs = 0 ∧ x = s.eng e ∧ d = w / 2 ^ 21 % 32 ∧ y = (if w % 2 ^ 16 < 2 ^ 15 then w % 2 ^ 16 else w % 2 ^ 16 + 2 ^ 32 - 2 ^ 16) ∧ s.wpAt e m false = false ∧ i = (m - 0x80000000) / 0x10000000 ∧ b = s.rd TR_APER.BASE e i ∧ m = (x.rg (w / 2 ^ 16 % 32) + BitVec.ofNat 32 y).toNat ∧ w / 2 ^ 26 = 0x14 ∧ m % 4 = 0 ∧ 0x80000000 ≤ m ∧ s.rd TR_APER.VALID e i = 1) ∧
    (∃ (s : State) (u : State) (e : Nat) (w : Nat) (d : Nat) (m : Nat) (g : Nat) (y : Nat) (v : TramView) (x : Engine) (n : Nat) (q : Word) (kb : Word) (kl : Word) (nx : Word) (r : Word), s.standsAt e w = true ∧ v.fetchErrs = 0 ∧ x = s.eng e ∧ d = w / 2 ^ 21 % 32 ∧ y = (if w % 2 ^ 16 < 2 ^ 15 then w % 2 ^ 16 else w % 2 ^ 16 + 2 ^ 32 - 2 ^ 16) ∧ s.wpAt e m false = false ∧ n = w / 2 ^ 18 % 8 ∧ q = Tab.get 0 x.k n ∧ kb = Tab.get 0 x.k (8 + n) ∧ kl = Tab.get 0 x.k (16 + n) ∧ nx = q + BitVec.ofInt 32 ((if w % 2 ^ 15 < 2 ^ 14 then ((w % 2 ^ 15 : Nat) : Int) else ((w % 2 ^ 15 : Nat) : Int) - 2 ^ 15) * 2 ^ (w / 2 ^ 16 % 4)) ∧ r = (if kl = 0 then nx else if kb.toNat + kl.toNat ≤ nx.toNat then nx - kl else if nx.toNat < kb.toNat then nx + kl else nx) ∧ w / 2 ^ 26 = 0x20 ∧ m = q.toNat ∧ v.dataErrs = 0 ∧ s.wordErr g = 0 ∧ ((m < 0x10000 ∧ g = 0x010005010000 + e * 0x40000 + m ∧ u = s) ∨ (0x400000 ≤ m ∧ m < 0x600000 ∧ g = 0x010004000000 + e / 8 * 0x200000 + m % 0x200000 ∧ u = s.ungate 1 (e / 8 * 16 + m / 8 % 16))) ∧ w / 2 ^ 16 % 4 = 0) :=
  ⟨⟨tramMem [] 0x5fe10008 (tregs2 [(1, 0x400)] []) 0x10005fd0408 0x8899aabbccddeef1, 63, 0x5fe10008, 31, 0x408, 0x8, ⟨0, 0⟩, tregs2 [(1, 0x400)] [], by decide +kernel⟩,
   ⟨tramMem [] 0x53e10004 (tregs2 [(1, 0x400)] []) 0x10005fd0404 0x8899aabbccddeef1, 63, 0x53e10004, 31, 0x404, 0x10005fd0404, 0x4, ⟨0, 2⟩, tregs2 [(1, 0x400)] [], by decide +kernel⟩,
   ⟨tramMem [] 0x53e10008 (tregs2 [(1, 0x20000)] []) 0x10005fd0000 0x8899aabbccddeef1, 63, 0x53e10008, 31, 0x20008, 0x8, ⟨0, 0⟩, tregs2 [(1, 0x20000)] [], (State.trRead (tramMem [] 0x53e10008 (tregs2 [(1, 0x20000)] []) 0x10005fd0000 0x8899aabbccddeef1) 63 8 4 false).2, (State.trRead (tramMem [] 0x53e10008 (tregs2 [(1, 0x20000)] []) 0x10005fd0000 0x8899aabbccddeef1) 63 8 4 false).1, by decide +kernel⟩,
   ⟨tramMem [] 0x53e10004 (tregs2 [(1, 0xf0000000)] []) 0x10005fd0000 0x8899aabbccddeef1, 63, 0x53e10004, 31, 0xf0000004, 0x4, ⟨0, 0⟩, tregs2 [(1, 0xf0000000)] [], 7, 0, by decide +kernel⟩,
   ⟨tramMem [(TR_APER.VALID.key 63 7, 1), (TR_APER.BASE.key 63 7, 0x1000)] 0x53e10004 (tregs2 [(1, 0xf0000000)] []) 0x10005fd0000 0x8899aabbccddeef1, 63, 0x53e10004, 31, 0xf0000004, 0x4, ⟨0, 0⟩, tregs2 [(1, 0xf0000000)] [], 7, 0x1000, by decide +kernel⟩,
   ⟨tramMem [] 0x83fc8001 (tregs2 [] [(7, 0x40f), (15, 0x400), (23, 0x10)]) 0x10005fd040f 0x8899aabbccddeef1, tramMem [] 0x83fc8001 (tregs2 [] [(7, 0x40f), (15, 0x400), (23, 0x10)]) 0x10005fd040f 0x8899aabbccddeef1, 63, 0x83fc8001, 31, 0x40f, 0x10005fd040f, 0xffff8001, ⟨0, 0⟩, tregs2 [] [(7, 0x40f), (15, 0x400), (23, 0x10)], 7, 0x40f, 0x400, 0x10, 0x410, 0x400, by decide +kernel⟩⟩

/-- The hypotheses of each clause of `Obligations.TramLoads` can be met (4). -/
theorem test_hyps_TramLoads_4 :
    (∃ (s : State) (u : State) (e : Nat) (w : Nat) (d : Nat) (m : Nat) (g : Nat) (y : Nat) (v : TramView) (x : Engine) (n : Nat) (q : Word) (kb : Word) (kl : Word) (nx : Word) (r : Word), s.standsAt e w = true ∧ v.fetchErrs = 0 ∧ x = s.eng e ∧ d = w / 2 ^ 21 % 32 ∧ y = (if w % 2 ^ 16 < 2 ^ 15 then w % 2 ^ 16 else w % 2 ^ 16 + 2 ^ 32 - 2 ^ 16) ∧ s.wpAt e m false = false ∧ n = w / 2 ^ 18 % 8 ∧ q = Tab.get 0 x.k n ∧ kb = Tab.get 0 x.k (8 + n) ∧ kl = Tab.get 0 x.k (16 + n) ∧ nx = q + BitVec.ofInt 32 ((if w % 2 ^ 15 < 2 ^ 14 then ((w % 2 ^ 15 : Nat) : Int) else ((w % 2 ^ 15 : Nat) : Int) - 2 ^ 15) * 2 ^ (w / 2 ^ 16 % 4)) ∧ r = (if kl = 0 then nx else if kb.toNat + kl.toNat ≤ nx.toNat then nx - kl else if nx.toNat < kb.toNat then nx + kl else nx) ∧ w / 2 ^ 26 = 0x20 ∧ m = q.toNat ∧ v.dataErrs = 0 ∧ s.wordErr g = 0 ∧ ((m < 0x10000 ∧ g = 0x010005010000 + e * 0x40000 + m ∧ u = s) ∨ (0x400000 ≤ m ∧ m < 0x600000 ∧ g = 0x010004000000 + e / 8 * 0x200000 + m % 0x200000 ∧ u = s.ungate 1 (e / 8 * 16 + m / 8 % 16))) ∧ w / 2 ^ 16 % 4 = 1 ∧ m % 2 = 0) ∧
    (∃ (s : State) (u : State) (e : Nat) (w : Nat) (d : Nat) (m : Nat) (g : Nat) (y : Nat) (v : TramView) (x : Engine) (n : Nat) (q : Word) (kb : Word) (kl : Word) (nx : Word) (r : Word), s.standsAt e w = true ∧ v.fetchErrs = 0 ∧ x = s.eng e ∧ d = w / 2 ^ 21 % 32 ∧ y = (if w % 2 ^ 16 < 2 ^ 15 then w % 2 ^ 16 else w % 2 ^ 16 + 2 ^ 32 - 2 ^ 16) ∧ s.wpAt e m false = false ∧ n = w / 2 ^ 18 % 8 ∧ q = Tab.get 0 x.k n ∧ kb = Tab.get 0 x.k (8 + n) ∧ kl = Tab.get 0 x.k (16 + n) ∧ nx = q + BitVec.ofInt 32 ((if w % 2 ^ 15 < 2 ^ 14 then ((w % 2 ^ 15 : Nat) : Int) else ((w % 2 ^ 15 : Nat) : Int) - 2 ^ 15) * 2 ^ (w / 2 ^ 16 % 4)) ∧ r = (if kl = 0 then nx else if kb.toNat + kl.toNat ≤ nx.toNat then nx - kl else if nx.toNat < kb.toNat then nx + kl else nx) ∧ w / 2 ^ 26 = 0x20 ∧ m = q.toNat ∧ v.dataErrs = 0 ∧ s.wordErr g = 0 ∧ ((m < 0x10000 ∧ g = 0x010005010000 + e * 0x40000 + m ∧ u = s) ∨ (0x400000 ≤ m ∧ m < 0x600000 ∧ g = 0x010004000000 + e / 8 * 0x200000 + m % 0x200000 ∧ u = s.ungate 1 (e / 8 * 16 + m / 8 % 16))) ∧ w / 2 ^ 16 % 4 = 2 ∧ m % 4 = 0 ∧ w / 2 ^ 15 % 2 = 0) ∧
    (∃ (s : State) (u : State) (e : Nat) (w : Nat) (d : Nat) (m : Nat) (g : Nat) (y : Nat) (v : TramView) (x : Engine) (n : Nat) (q : Word) (kb : Word) (kl : Word) (nx : Word) (r : Word), s.standsAt e w = true ∧ v.fetchErrs = 0 ∧ x = s.eng e ∧ d = w / 2 ^ 21 % 32 ∧ y = (if w % 2 ^ 16 < 2 ^ 15 then w % 2 ^ 16 else w % 2 ^ 16 + 2 ^ 32 - 2 ^ 16) ∧ s.wpAt e m false = false ∧ n = w / 2 ^ 18 % 8 ∧ q = Tab.get 0 x.k n ∧ kb = Tab.get 0 x.k (8 + n) ∧ kl = Tab.get 0 x.k (16 + n) ∧ nx = q + BitVec.ofInt 32 ((if w % 2 ^ 15 < 2 ^ 14 then ((w % 2 ^ 15 : Nat) : Int) else ((w % 2 ^ 15 : Nat) : Int) - 2 ^ 15) * 2 ^ (w / 2 ^ 16 % 4)) ∧ r = (if kl = 0 then nx else if kb.toNat + kl.toNat ≤ nx.toNat then nx - kl else if nx.toNat < kb.toNat then nx + kl else nx) ∧ w / 2 ^ 26 = 0x20 ∧ m = q.toNat ∧ v.dataErrs = 0 ∧ s.wordErr g = 0 ∧ ((m < 0x10000 ∧ g = 0x010005010000 + e * 0x40000 + m ∧ u = s) ∨ (0x400000 ≤ m ∧ m < 0x600000 ∧ g = 0x010004000000 + e / 8 * 0x200000 + m % 0x200000 ∧ u = s.ungate 1 (e / 8 * 16 + m / 8 % 16))) ∧ w / 2 ^ 16 % 4 = 3 ∧ m % 8 = 0 ∧ w / 2 ^ 15 % 2 = 0 ∧ d % 2 = 0) ∧
    (∃ (s : State) (e : Nat) (w : Nat) (d : Nat) (m : Nat) (y : Nat) (v : TramView) (x : Engine), s.standsAt e w = true ∧ v.fetchErrs = 0 ∧ x = s.eng e ∧ d = w / 2 ^ 21 % 32 ∧ y = (if w % 2 ^ 16 < 2 ^ 15 then w % 2 ^ 16 else w % 2 ^ 16 + 2 ^ 32 - 2 ^ 16) ∧ s.wpAt e m false = false ∧ w / 2 ^ 26 = 0x20 ∧ 2 ≤ w / 2 ^ 16 % 4 ∧ w / 2 ^ 15 % 2 = 1) :=
  ⟨⟨tramMem [] 0x83fd7ffd (tregs2 [] [(7, 0x400), (15, 0x400), (23, 0x10)]) 0x10005fd0400 0x8899aabbccddeef1, tramMem [] 0x83fd7ffd (tregs2 [] [(7, 0x400), (15, 0x400), (23, 0x10)]) 0x10005fd0400 0x8899aabbccddeef1, 63, 0x83fd7ffd, 31, 0x400, 0x10005fd0400, 0x7ffd, ⟨0, 0⟩, tregs2 [] [(7, 0x400), (15, 0x400), (23, 0x10)], 7, 0x400, 0x400, 0x10, 0x3fa, 0x40a, by decide +kernel⟩,
   ⟨tramMem [] 0x83fe7fff (tregs2 [] [(7, 0x400010)]) 0x10004e00010 0x8899aabbccddeef1, (tramMem [] 0x83fe7fff (tregs2 [] [(7, 0x400010)]) 0x10004e00010 0x8899aabbccddeef1).ungate 1 114, 63, 0x83fe7fff, 31, 0x400010, 0x10004e00010, 0x7fff, ⟨0, 0⟩, tregs2 [] [(7, 0x400010)], 7, 0x400010, 0x0, 0x0, 0x40000c, 0x40000c, by decide +kernel⟩,
   ⟨tramMem [] 0x83df0001 (tregs2 [] [(7, 0x400), (15, 0x400), (23, 0x10)]) 0x10005fd0400 0x8899aabbccddeef1, tramMem [] 0x83df0001 (tregs2 [] [(7, 0x400), (15, 0x400), (23, 0x10)]) 0x10005fd0400 0x8899aabbccddeef1, 63, 0x83df0001, 30, 0x400, 0x10005fd0400, 0x1, ⟨0, 0⟩, tregs2 [] [(7, 0x400), (15, 0x400), (23, 0x10)], 7, 0x400, 0x400, 0x10, 0x408, 0x408, by decide +kernel⟩,
   ⟨tramMem [] 0x83fe8001 (tregs2 [(30, 0x400)] []) 0x10004ff8401 0x8899aabbccddeef1, 63, 0x83fe8001, 31, 0xffff8401, 0xffff8001, ⟨0, 0⟩, tregs2 [(30, 0x400)] [], by decide +kernel⟩⟩

/-- The hypotheses of each clause of `Obligations.TramStores` can be met (1). -/
theorem test_hyps_TramStores :
    (∃ (s : State) (u : State) (e : Nat) (w : Nat) (d : Nat) (m : Nat) (g : Nat) (y : Nat) (v : TramView) (x : Engine) (a : Word) (b : Word) (t : State), s.standsAt e w = true ∧ v.fetchErrs = 0 ∧ x = s.eng e ∧ d = w / 2 ^ 21 % 32 ∧ y = (if w % 2 ^ 16 < 2 ^ 15 then w % 2 ^ 16 else w % 2 ^ 16 + 2 ^ 32 - 2 ^ 16) ∧ s.wpAt e m true = false ∧ a = x.rg d ∧ b = x.rg (d + 1) ∧ m = (x.rg (w / 2 ^ 16 % 32) + BitVec.ofNat 32 y).toNat ∧ ((m < 0x10000 ∧ g = 0x010005010000 + e * 0x40000 + m ∧ u = s) ∨ (0x400000 ≤ m ∧ m < 0x600000 ∧ g = 0x010004000000 + e / 8 * 0x200000 + m % 0x200000 ∧ u = s.ungate 1 (e / 8 * 16 + m / 8 % 16))) ∧ w / 2 ^ 26 = 0x18 ∧ t = (u.setEng e x).engStore g 1 (a.toNat % 2 ^ 8) v.dataErrs) ∧
    (∃ (s : State) (u : State) (e : Nat) (w : Nat) (d : Nat) (m : Nat) (g : Nat) (y : Nat) (v : TramView) (x : Engine) (a : Word) (b : Word) (t : State), s.standsAt e w = true ∧ v.fetchErrs = 0 ∧ x = s.eng e ∧ d = w / 2 ^ 21 % 32 ∧ y = (if w % 2 ^ 16 < 2 ^ 15 then w % 2 ^ 16 else w % 2 ^ 16 + 2 ^ 32 - 2 ^ 16) ∧ s.wpAt e m true = false ∧ a = x.rg d ∧ b = x.rg (d + 1) ∧ m = (x.rg (w / 2 ^ 16 % 32) + BitVec.ofNat 32 y).toNat ∧ ((m < 0x10000 ∧ g = 0x010005010000 + e * 0x40000 + m ∧ u = s) ∨ (0x400000 ≤ m ∧ m < 0x600000 ∧ g = 0x010004000000 + e / 8 * 0x200000 + m % 0x200000 ∧ u = s.ungate 1 (e / 8 * 16 + m / 8 % 16))) ∧ w / 2 ^ 26 = 0x19 ∧ m % 2 = 0 ∧ t = (u.setEng e x).engStore g 2 (a.toNat % 2 ^ 16) v.dataErrs) ∧
    (∃ (s : State) (u : State) (e : Nat) (w : Nat) (d : Nat) (m : Nat) (g : Nat) (y : Nat) (v : TramView) (x : Engine) (a : Word) (b : Word) (t : State), s.standsAt e w = true ∧ v.fetchErrs = 0 ∧ x = s.eng e ∧ d = w / 2 ^ 21 % 32 ∧ y = (if w % 2 ^ 16 < 2 ^ 15 then w % 2 ^ 16 else w % 2 ^ 16 + 2 ^ 32 - 2 ^ 16) ∧ s.wpAt e m true = false ∧ a = x.rg d ∧ b = x.rg (d + 1) ∧ m = (x.rg (w / 2 ^ 16 % 32) + BitVec.ofNat 32 y).toNat ∧ ((m < 0x10000 ∧ g = 0x010005010000 + e * 0x40000 + m ∧ u = s) ∨ (0x400000 ≤ m ∧ m < 0x600000 ∧ g = 0x010004000000 + e / 8 * 0x200000 + m % 0x200000 ∧ u = s.ungate 1 (e / 8 * 16 + m / 8 % 16))) ∧ w / 2 ^ 26 = 0x1A ∧ m % 4 = 0 ∧ t = (u.setEng e x).engStore g 4 (a.toNat) v.dataErrs) ∧
    (∃ (s : State) (u : State) (e : Nat) (w : Nat) (d : Nat) (m : Nat) (g : Nat) (y : Nat) (v : TramView) (x : Engine) (a : Word) (b : Word) (t : State), s.standsAt e w = true ∧ v.fetchErrs = 0 ∧ x = s.eng e ∧ d = w / 2 ^ 21 % 32 ∧ y = (if w % 2 ^ 16 < 2 ^ 15 then w % 2 ^ 16 else w % 2 ^ 16 + 2 ^ 32 - 2 ^ 16) ∧ s.wpAt e m true = false ∧ a = x.rg d ∧ b = x.rg (d + 1) ∧ m = (x.rg (w / 2 ^ 16 % 32) + BitVec.ofNat 32 y).toNat ∧ ((m < 0x10000 ∧ g = 0x010005010000 + e * 0x40000 + m ∧ u = s) ∨ (0x400000 ≤ m ∧ m < 0x600000 ∧ g = 0x010004000000 + e / 8 * 0x200000 + m % 0x200000 ∧ u = s.ungate 1 (e / 8 * 16 + m / 8 % 16))) ∧ w / 2 ^ 26 = 0x1B ∧ m % 8 = 0 ∧ d % 2 = 0 ∧ t = (u.setEng e x).engStore g 8 (a.toNat + b.toNat * 2 ^ 32) v.dataErrs) ∧
    (∃ (s : State) (u : State) (e : Nat) (w : Nat) (d : Nat) (m : Nat) (g : Nat) (y : Nat) (v : TramView) (x : Engine) (a : Word) (b : Word) (t : State), s.standsAt e w = true ∧ v.fetchErrs = 0 ∧ x = s.eng e ∧ d = w / 2 ^ 21 % 32 ∧ y = (if w % 2 ^ 16 < 2 ^ 15 then w % 2 ^ 16 else w % 2 ^ 16 + 2 ^ 32 - 2 ^ 16) ∧ s.wpAt e m true = false ∧ a = x.rg d ∧ b = x.rg (d + 1) ∧ m = (x.rg (w / 2 ^ 16 % 32) + BitVec.ofNat 32 y).toNat ∧ ((m < 0x10000 ∧ g = 0x010005010000 + e * 0x40000 + m ∧ u = s) ∨ (0x400000 ≤ m ∧ m < 0x600000 ∧ g = 0x010004000000 + e / 8 * 0x200000 + m % 0x200000 ∧ u = s.ungate 1 (e / 8 * 16 + m / 8 % 16))) ∧ w / 2 ^ 26 = 0x1C ∧ m % 4 = 0 ∧ t = (u.setEng e x).engStore g 4 (a.toNat) v.dataErrs) ∧
    (∃ (s : State) (u : State) (e : Nat) (w : Nat) (d : Nat) (m : Nat) (g : Nat) (y : Nat) (v : TramView) (x : Engine) (a : Word) (b : Word) (t : State), s.standsAt e w = true ∧ v.fetchErrs = 0 ∧ x = s.eng e ∧ d = w / 2 ^ 21 % 32 ∧ y = (if w % 2 ^ 16 < 2 ^ 15 then w % 2 ^ 16 else w % 2 ^ 16 + 2 ^ 32 - 2 ^ 16) ∧ s.wpAt e m true = false ∧ a = x.rg d ∧ b = x.rg (d + 1) ∧ m = (x.rg (w / 2 ^ 16 % 32) + BitVec.ofNat 32 y).toNat ∧ ((m < 0x10000 ∧ g = 0x010005010000 + e * 0x40000 + m ∧ u = s) ∨ (0x400000 ≤ m ∧ m < 0x600000 ∧ g = 0x010004000000 + e / 8 * 0x200000 + m % 0x200000 ∧ u = s.ungate 1 (e / 8 * 16 + m / 8 % 16))) ∧ w / 2 ^ 26 = 0x1D ∧ m % 8 = 0 ∧ d % 2 = 0 ∧ t = (u.setEng e x).engStore g 8 (a.toNat + b.toNat * 2 ^ 32) v.dataErrs) :=
  ⟨⟨tramSt [] 0x63c1ffff (tregs3 [(1, 0x402), (30, 0xa1b2c3d4), (31, 0x55667788)] []) 0x10005fd0401 0x8899aabbccddeef1, tramSt [] 0x63c1ffff (tregs3 [(1, 0x402), (30, 0xa1b2c3d4), (31, 0x55667788)] []) 0x10005fd0401 0x8899aabbccddeef1, 63, 0x63c1ffff, 30, 0x401, 0x10005fd0401, 0xffffffff, ⟨0, 0⟩, tregs3 [(1, 0x402), (30, 0xa1b2c3d4), (31, 0x55667788)] [], 0xa1b2c3d4, 0x55667788, ((tramSt [] 0x63c1ffff (tregs3 [(1, 0x402), (30, 0xa1b2c3d4), (31, 0x55667788)] []) 0x10005fd0401 0x8899aabbccddeef1).setEng 63 (tregs3 [(1, 0x402), (30, 0xa1b2c3d4), (31, 0x55667788)] [])).engStore 0x10005fd0401 1 0xd4 0, by decide +kernel⟩,
   ⟨tramSt [] 0x67c1fffe (tregs3 [(1, 0x402), (30, 0xa1b2c3d4), (31, 0x55667788)] []) 0x10005fd0400 0x8899aabbccddeef1, tramSt [] 0x67c1fffe (tregs3 [(1, 0x402), (30, 0xa1b2c3d4), (31, 0x55667788)] []) 0x10005fd0400 0x8899aabbccddeef1, 63, 0x67c1fffe, 30, 0x400, 0x10005fd0400, 0xfffffffe, ⟨0, 0⟩, tregs3 [(1, 0x402), (30, 0xa1b2c3d4), (31, 0x55667788)] [], 0xa1b2c3d4, 0x55667788, ((tramSt [] 0x67c1fffe (tregs3 [(1, 0x402), (30, 0xa1b2c3d4), (31, 0x55667788)] []) 0x10005fd0400 0x8899aabbccddeef1).setEng 63 (tregs3 [(1, 0x402), (30, 0xa1b2c3d4), (31, 0x55667788)] [])).engStore 0x10005fd0400 2 0xc3d4 0, by decide +kernel⟩,
   ⟨tramSt [] 0x6bc10004 (tregs3 [(1, 0x500000), (30, 0xa1b2c3d4), (31, 0x55667788)] []) 0x10004f00004 0x8899aabbccddeef1, (tramSt [] 0x6bc10004 (tregs3 [(1, 0x500000), (30, 0xa1b2c3d4), (31, 0x55667788)] []) 0x10004f00004 0x8899aabbccddeef1).ungate 1 112, 63, 0x6bc10004, 30, 0x500004, 0x10004f00004, 0x4, ⟨0, 0⟩, tregs3 [(1, 0x500000), (30, 0xa1b2c3d4), (31, 0x55667788)] [], 0xa1b2c3d4, 0x55667788, (((tramSt [] 0x6bc10004 (tregs3 [(1, 0x500000), (30, 0xa1b2c3d4), (31, 0x55667788)] []) 0x10004f00004 0x8899aabbccddeef1).ungate 1 112).setEng 63 (tregs3 [(1, 0x500000), (30, 0xa1b2c3d4), (31, 0x55667788)] [])).engStore 0x10004f00004 4 0xa1b2c3d4 0, by decide +kernel⟩,
   ⟨tramSt [] 0x6fc1fff8 (tregs3 [(1, 0x408), (30, 0xa1b2c3d4), (31, 0x55667788)] []) 0x10005fd0400 0x8899aabbccddeef1, tramSt [] 0x6fc1fff8 (tregs3 [(1, 0x408), (30, 0xa1b2c3d4), (31, 0x55667788)] []) 0x10005fd0400 0x8899aabbccddeef1, 63, 0x6fc1fff8, 30, 0x400, 0x10005fd0400, 0xfffffff8, ⟨0, 0⟩, tregs3 [(1, 0x408), (30, 0xa1b2c3d4), (31, 0x55667788)] [], 0xa1b2c3d4, 0x55667788, ((tramSt [] 0x6fc1fff8 (tregs3 [(1, 0x408), (30, 0xa1b2c3d4), (31, 0x55667788)] []) 0x10005fd0400 0x8899aabbccddeef1).setEng 63 (tregs3 [(1, 0x408), (30, 0xa1b2c3d4), (31, 0x55667788)] [])).engStore 0x10005fd0400 8 0x55667788a1b2c3d4 0, by decide +kernel⟩,
   ⟨tramSt [] 0x73c10004 (tregs3 [(1, 0x500000), (30, 0xa1b2c3d4), (31, 0x55667788)] []) 0x10004f00004 0x8899aabbccddeef1, (tramSt [] 0x73c10004 (tregs3 [(1, 0x500000), (30, 0xa1b2c3d4), (31, 0x55667788)] []) 0x10004f00004 0x8899aabbccddeef1).ungate 1 112, 63, 0x73c10004, 30, 0x500004, 0x10004f00004, 0x4, ⟨0, 0⟩, tregs3 [(1, 0x500000), (30, 0xa1b2c3d4), (31, 0x55667788)] [], 0xa1b2c3d4, 0x55667788, (((tramSt [] 0x73c10004 (tregs3 [(1, 0x500000), (30, 0xa1b2c3d4), (31, 0x55667788)] []) 0x10004f00004 0x8899aabbccddeef1).ungate 1 112).setEng 63 (tregs3 [(1, 0x500000), (30, 0xa1b2c3d4), (31, 0x55667788)] [])).engStore 0x10004f00004 4 0xa1b2c3d4 0, by decide +kernel⟩,
   ⟨tramSt [] 0x77c10008 (tregs3 [(1, 0x500000), (30, 0xa1b2c3d4), (31, 0x55667788)] []) 0x10004f00008 0x8899aabbccddeef1, (tramSt [] 0x77c10008 (tregs3 [(1, 0x500000), (30, 0xa1b2c3d4), (31, 0x55667788)] []) 0x10004f00008 0x8899aabbccddeef1).ungate 1 113, 63, 0x77c10008, 30, 0x500008, 0x10004f00008, 0x8, ⟨0, 0⟩, tregs3 [(1, 0x500000), (30, 0xa1b2c3d4), (31, 0x55667788)] [], 0xa1b2c3d4, 0x55667788, (((tramSt [] 0x77c10008 (tregs3 [(1, 0x500000), (30, 0xa1b2c3d4), (31, 0x55667788)] []) 0x10004f00008 0x8899aabbccddeef1).ungate 1 113).setEng 63 (tregs3 [(1, 0x500000), (30, 0xa1b2c3d4), (31, 0x55667788)] [])).engStore 0x10004f00008 8 0x55667788a1b2c3d4 0, by decide +kernel⟩⟩

/-- The hypotheses of each clause of `Obligations.TramStores` can be met (2). -/
theorem test_hyps_TramStores_2 :
    (∃ (s : State) (e : Nat) (w : Nat) (d : Nat) (m : Nat) (g : Nat) (y : Nat) (v : TramView) (x : Engine) (a : Word) (b : Word) (t : State), s.standsAt e w = true ∧ v.fetchErrs = 0 ∧ x = s.eng e ∧ d = w / 2 ^ 21 % 32 ∧ y = (if w % 2 ^ 16 < 2 ^ 15 then w % 2 ^ 16 else w % 2 ^ 16 + 2 ^ 32 - 2 ^ 16) ∧ s.wpAt e m true = false ∧ a = x.rg d ∧ b = x.rg (d + 1) ∧ m = (x.rg (w / 2 ^ 16 % 32) + BitVec.ofNat 32 y).toNat ∧ 0x10000 ≤ m ∧ m < 0x20000 ∧ g = 0x010005000000 + e * 0x40000 + m % 0x10000 ∧ m % 4 = 0 ∧ w / 2 ^ 26 = 0x1A ∧ t = (s.setEng e x).engStore g 4 a.toNat v.dataErrs) ∧
    (∃ (s : State) (e : Nat) (w : Nat) (d : Nat) (m : Nat) (y : Nat) (v : TramView) (x : Engine) (a : Word) (b : Word), s.standsAt e w = true ∧ v.fetchErrs = 0 ∧ x = s.eng e ∧ d = w / 2 ^ 21 % 32 ∧ y = (if w % 2 ^ 16 < 2 ^ 15 then w % 2 ^ 16 else w % 2 ^ 16 + 2 ^ 32 - 2 ^ 16) ∧ s.wpAt e m true = false ∧ a = x.rg d ∧ b = x.rg (d + 1) ∧ m = (x.rg (w / 2 ^ 16 % 32) + BitVec.ofNat 32 y).toNat ∧ 0x20000 ≤ m ∧ m < 0x30000 ∧ m % 4 = 0 ∧ w / 2 ^ 26 = 0x1A) ∧
    (∃ (s : State) (e : Nat) (w : Nat) (d : Nat) (m : Nat) (y : Nat) (v : TramView) (x : Engine) (a : Word) (b : Word) (i : Nat) (k : Nat) (t : State), s.standsAt e w = true ∧ v.fetchErrs = 0 ∧ x = s.eng e ∧ d = w / 2 ^ 21 % 32 ∧ y = (if w % 2 ^ 16 < 2 ^ 15 then w % 2 ^ 16 else w % 2 ^ 16 + 2 ^ 32 - 2 ^ 16) ∧ s.wpAt e m true = false ∧ a = x.rg d ∧ b = x.rg (d + 1) ∧ m = (x.rg (w / 2 ^ 16 % 32) + BitVec.ofNat 32 y).toNat ∧ i = (m - 0x80000000) / 0x10000000 ∧ k = s.rd TR_APER.BASE e i ∧ m % 4 = 0 ∧ 0x80000000 ≤ m ∧ s.rd TR_APER.VALID e i = 1 ∧ w / 2 ^ 26 = 0x1A ∧ t = (s.setEng e { x with wait := some .accept }).request ⟨653 + e / 8, some e, k * 0x10000000 + m % 0x10000000, 4, 2, a.toNat, false, 0⟩) ∧
    (∃ (s : State) (e : Nat) (w : Nat) (d : Nat) (m : Nat) (y : Nat) (v : TramView) (x : Engine) (a : Word) (b : Word) (i : Nat) (k : Nat) (t : State), s.standsAt e w = true ∧ v.fetchErrs = 0 ∧ x = s.eng e ∧ d = w / 2 ^ 21 % 32 ∧ y = (if w % 2 ^ 16 < 2 ^ 15 then w % 2 ^ 16 else w % 2 ^ 16 + 2 ^ 32 - 2 ^ 16) ∧ s.wpAt e m true = false ∧ a = x.rg d ∧ b = x.rg (d + 1) ∧ m = (x.rg (w / 2 ^ 16 % 32) + BitVec.ofNat 32 y).toNat ∧ i = (m - 0x80000000) / 0x10000000 ∧ k = s.rd TR_APER.BASE e i ∧ m % 4 = 0 ∧ 0x80000000 ≤ m ∧ s.rd TR_APER.VALID e i = 1 ∧ w / 2 ^ 26 = 0x1C ∧ t = (s.setEng e { x with wait := some (.answer ⟨none, 4, false, none, none, m⟩ none) }).request ⟨653 + e / 8, some e, k * 0x10000000 + m % 0x10000000, 4, 1, a.toNat, false, 0⟩) ∧
    (∃ (s : State) (e : Nat) (w : Nat) (d : Nat) (m : Nat) (y : Nat) (v : TramView) (x : Engine) (a : Word) (b : Word), s.standsAt e w = true ∧ v.fetchErrs = 0 ∧ x = s.eng e ∧ d = w / 2 ^ 21 % 32 ∧ y = (if w % 2 ^ 16 < 2 ^ 15 then w % 2 ^ 16 else w % 2 ^ 16 + 2 ^ 32 - 2 ^ 16) ∧ s.wpAt e m true = false ∧ a = x.rg d ∧ b = x.rg (d + 1) ∧ m = (x.rg (w / 2 ^ 16 % 32) + BitVec.ofNat 32 y).toNat ∧ w / 2 ^ 26 = 0x1A ∧ (m % 4 ≠ 0 ∨ (0x30000 ≤ m ∧ m < 0x400000) ∨ (0x600000 ≤ m ∧ m < 0x80000000))) ∧
    (∃ (s : State) (e : Nat) (w : Nat) (d : Nat) (m : Nat) (y : Nat) (v : TramView) (x : Engine) (a : Word) (b : Word), s.standsAt e w = true ∧ v.fetchErrs = 0 ∧ x = s.eng e ∧ d = w / 2 ^ 21 % 32 ∧ y = (if w % 2 ^ 16 < 2 ^ 15 then w % 2 ^ 16 else w % 2 ^ 16 + 2 ^ 32 - 2 ^ 16) ∧ s.wpAt e m true = false ∧ a = x.rg d ∧ b = x.rg (d + 1) ∧ m = (x.rg (w / 2 ^ 16 % 32) + BitVec.ofNat 32 y).toNat ∧ w / 2 ^ 26 = 0x18 ∧ ((0x10000 ≤ m ∧ m < 0x400000) ∨ (0x600000 ≤ m ∧ m < 0x80000000))) :=
  ⟨⟨tramSt [] 0x6bc10004 (tregs3 [(1, 0x10000), (30, 0xa1b2c3d4), (31, 0x55667788)] []) 0x10005fc0004 0x8899aabbccddeef1, 63, 0x6bc10004, 30, 0x10004, 0x10005fc0004, 0x4, ⟨0, 0⟩, tregs3 [(1, 0x10000), (30, 0xa1b2c3d4), (31, 0x55667788)] [], 0xa1b2c3d4, 0x55667788, ((tramSt [] 0x6bc10004 (tregs3 [(1, 0x10000), (30, 0xa1b2c3d4), (31, 0x55667788)] []) 0x10005fc0004 0x8899aabbccddeef1).setEng 63 (tregs3 [(1, 0x10000), (30, 0xa1b2c3d4), (31, 0x55667788)] [])).engStore 0x10005fc0004 4 0xa1b2c3d4 0, by decide +kernel⟩,
   ⟨tramSt [] 0x6bc10004 (tregs3 [(1, 0x20000), (30, 0xa1b2c3d4), (31, 0x55667788)] []) 0x10005fd0000 0x8899aabbccddeef1, 63, 0x6bc10004, 30, 0x20004, 0x4, ⟨0, 0⟩, tregs3 [(1, 0x20000), (30, 0xa1b2c3d4), (31, 0x55667788)] [], 0xa1b2c3d4, 0x55667788, by decide +kernel⟩,
   ⟨tramSt [(TR_APER.VALID.key 63 7, 1), (TR_APER.BASE.key 63 7, 0x1000)] 0x6bc10004 (tregs3 [(1, 0xf0000000), (30, 0xa1b2c3d4), (31, 0x55667788)] []) 0x10005fd0000 0x8899aabbccddeef1, 63, 0x6bc10004, 30, 0xf0000004, 0x4, ⟨0, 0⟩, tregs3 [(1, 0xf0000000), (30, 0xa1b2c3d4), (31, 0x55667788)] [], 0xa1b2c3d4, 0x55667788, 7, 0x1000, ((tramSt [(TR_APER.VALID.key 63 7, 1), (TR_APER.BASE.key 63 7, 0x1000)] 0x6bc10004 (tregs3 [(1, 0xf0000000), (30, 0xa1b2c3d4), (31, 0x55667788)] []) 0x10005fd0000 0x8899aabbccddeef1).setEng 63 { tregs3 [(1, 0xf0000000), (30, 0xa1b2c3d4), (31, 0x55667788)] [] with wait := some .accept }).request ⟨660, some 63, 0x10000000004, 4, 2, 0xa1b2c3d4, false, 0⟩, by decide +kernel⟩,
   ⟨tramSt [(TR_APER.VALID.key 63 7, 1), (TR_APER.BASE.key 63 7, 0x1000)] 0x73c10004 (tregs3 [(1, 0xf0000000), (30, 0xa1b2c3d4), (31, 0x55667788)] []) 0x10005fd0000 0x8899aabbccddeef1, 63, 0x73c10004, 30, 0xf0000004, 0x4, ⟨0, 0⟩, tregs3 [(1, 0xf0000000), (30, 0xa1b2c3d4), (31, 0x55667788)] [], 0xa1b2c3d4, 0x55667788, 7, 0x1000, ((tramSt [(TR_APER.VALID.key 63 7, 1), (TR_APER.BASE.key 63 7, 0x1000)] 0x73c10004 (tregs3 [(1, 0xf0000000), (30, 0xa1b2c3d4), (31, 0x55667788)] []) 0x10005fd0000 0x8899aabbccddeef1).setEng 63 { tregs3 [(1, 0xf0000000), (30, 0xa1b2c3d4), (31, 0x55667788)] [] with wait := some (.answer ⟨none, 4, false, none, none, 0xf0000004⟩ none) }).request ⟨660, some 63, 0x10000000004, 4, 1, 0xa1b2c3d4, false, 0⟩, by decide +kernel⟩,
   ⟨tramSt [] 0x6bc10002 (tregs3 [(1, 0x400), (30, 0xa1b2c3d4), (31, 0x55667788)] []) 0x10005fd0402 0x8899aabbccddeef1, 63, 0x6bc10002, 30, 0x402, 0x2, ⟨0, 0⟩, tregs3 [(1, 0x400), (30, 0xa1b2c3d4), (31, 0x55667788)] [], 0xa1b2c3d4, 0x55667788, by decide +kernel⟩,
   ⟨tramSt [] 0x63c10002 (tregs3 [(1, 0x10000), (30, 0xa1b2c3d4), (31, 0x55667788)] []) 0x10005fc0002 0x8899aabbccddeef1, 63, 0x63c10002, 30, 0x10002, 0x2, ⟨0, 0⟩, tregs3 [(1, 0x10000), (30, 0xa1b2c3d4), (31, 0x55667788)] [], 0xa1b2c3d4, 0x55667788, by decide +kernel⟩⟩

/-- The hypotheses of each clause of `Obligations.TramStores` can be met (3). -/
theorem test_hyps_TramStores_3 :
    (∃ (s : State) (e : Nat) (w : Nat) (d : Nat) (m : Nat) (y : Nat) (v : TramView) (x : Engine) (a : Word) (b : Word), s.standsAt e w = true ∧ v.fetchErrs = 0 ∧ x = s.eng e ∧ d = w / 2 ^ 21 % 32 ∧ y = (if w % 2 ^ 16 < 2 ^ 15 then w % 2 ^ 16 else w % 2 ^ 16 + 2 ^ 32 - 2 ^ 16) ∧ s.wpAt e m true = false ∧ a = x.rg d ∧ b = x.rg (d + 1) ∧ w / 2 ^ 26 = 0x1B ∧ d % 2 = 1) ∧
    (∃ (s : State) (u : State) (e : Nat) (w : Nat) (d : Nat) (m : Nat) (g : Nat) (y : Nat) (v : TramView) (x : Engine) (a : Word) (b : Word) (o : Nat) (r : Nat) (t : State), s.standsAt e w = true ∧ v.fetchErrs = 0 ∧ x = s.eng e ∧ d = w / 2 ^ 21 % 32 ∧ y = (if w % 2 ^ 16 < 2 ^ 15 then w % 2 ^ 16 else w % 2 ^ 16 + 2 ^ 32 - 2 ^ 16) ∧ s.wpAt e m true = false ∧ a = x.rg d ∧ b = x.rg (d + 1) ∧ m = (x.rg (w / 2 ^ 16 % 32) + BitVec.ofNat 32 o).toNat ∧ o = (if w % 2 ^ 11 < 2 ^ 10 then w % 2 ^ 11 else w % 2 ^ 11 + 2 ^ 32 - 2 ^ 11) ∧ r = w / 2 ^ 11 % 32 ∧ 0x400000 ≤ m ∧ m < 0x600000 ∧ g = 0x010004000000 + e / 8 * 0x200000 + m % 0x200000 ∧ u = s.ungate 1 (e / 8 * 16 + m / 8 % 16) ∧ w / 2 ^ 26 = 0x1E ∧ m % 4 = 0 ∧ x.resv = some (m % 0x200000 / 8) ∧ t = (u.setEng e { x.wg d 1 with gOld := [(d, Tab.get 0 x.g d)], resv := none }).engStore g 4 ((x.rg r).toNat) v.dataErrs) ∧
    (∃ (s : State) (u : State) (e : Nat) (w : Nat) (d : Nat) (m : Nat) (g : Nat) (y : Nat) (v : TramView) (x : Engine) (a : Word) (b : Word) (o : Nat) (r : Nat), s.standsAt e w = true ∧ v.fetchErrs = 0 ∧ x = s.eng e ∧ d = w / 2 ^ 21 % 32 ∧ y = (if w % 2 ^ 16 < 2 ^ 15 then w % 2 ^ 16 else w % 2 ^ 16 + 2 ^ 32 - 2 ^ 16) ∧ s.wpAt e m true = false ∧ a = x.rg d ∧ b = x.rg (d + 1) ∧ m = (x.rg (w / 2 ^ 16 % 32) + BitVec.ofNat 32 o).toNat ∧ o = (if w % 2 ^ 11 < 2 ^ 10 then w % 2 ^ 11 else w % 2 ^ 11 + 2 ^ 32 - 2 ^ 11) ∧ r = w / 2 ^ 11 % 32 ∧ 0x400000 ≤ m ∧ m < 0x600000 ∧ g = 0x010004000000 + e / 8 * 0x200000 + m % 0x200000 ∧ u = s.ungate 1 (e / 8 * 16 + m / 8 % 16) ∧ w / 2 ^ 26 = 0x1E ∧ m % 4 = 0 ∧ x.resv ≠ some (m % 0x200000 / 8)) ∧
    (∃ (s : State) (u : State) (e : Nat) (w : Nat) (d : Nat) (m : Nat) (g : Nat) (y : Nat) (v : TramView) (x : Engine) (a : Word) (b : Word) (o : Nat) (r : Nat) (t : State), s.standsAt e w = true ∧ v.fetchErrs = 0 ∧ x = s.eng e ∧ d = w / 2 ^ 21 % 32 ∧ y = (if w % 2 ^ 16 < 2 ^ 15 then w % 2 ^ 16 else w % 2 ^ 16 + 2 ^ 32 - 2 ^ 16) ∧ s.wpAt e m true = false ∧ a = x.rg d ∧ b = x.rg (d + 1) ∧ m = (x.rg (w / 2 ^ 16 % 32) + BitVec.ofNat 32 o).toNat ∧ o = (if w % 2 ^ 11 < 2 ^ 10 then w % 2 ^ 11 else w % 2 ^ 11 + 2 ^ 32 - 2 ^ 11) ∧ r = w / 2 ^ 11 % 32 ∧ 0x400000 ≤ m ∧ m < 0x600000 ∧ g = 0x010004000000 + e / 8 * 0x200000 + m % 0x200000 ∧ u = s.ungate 1 (e / 8 * 16 + m / 8 % 16) ∧ w / 2 ^ 26 = 0x1F ∧ m % 8 = 0 ∧ r % 2 = 0 ∧ x.resv = some (m % 0x200000 / 8) ∧ t = (u.setEng e { x.wg d 1 with gOld := [(d, Tab.get 0 x.g d)], resv := none }).engStore g 8 ((x.rg r).toNat + (x.rg (r + 1)).toNat * 2 ^ 32) v.dataErrs) ∧
    (∃ (s : State) (u : State) (e : Nat) (w : Nat) (d : Nat) (m : Nat) (g : Nat) (y : Nat) (v : TramView) (x : Engine) (a : Word) (b : Word) (o : Nat) (r : Nat), s.standsAt e w = true ∧ v.fetchErrs = 0 ∧ x = s.eng e ∧ d = w / 2 ^ 21 % 32 ∧ y = (if w % 2 ^ 16 < 2 ^ 15 then w % 2 ^ 16 else w % 2 ^ 16 + 2 ^ 32 - 2 ^ 16) ∧ s.wpAt e m true = false ∧ a = x.rg d ∧ b = x.rg (d + 1) ∧ m = (x.rg (w / 2 ^ 16 % 32) + BitVec.ofNat 32 o).toNat ∧ o = (if w % 2 ^ 11 < 2 ^ 10 then w % 2 ^ 11 else w % 2 ^ 11 + 2 ^ 32 - 2 ^ 11) ∧ r = w / 2 ^ 11 % 32 ∧ 0x400000 ≤ m ∧ m < 0x600000 ∧ g = 0x010004000000 + e / 8 * 0x200000 + m % 0x200000 ∧ u = s.ungate 1 (e / 8 * 16 + m / 8 % 16) ∧ w / 2 ^ 26 = 0x1F ∧ m % 8 = 0 ∧ r % 2 = 0 ∧ x.resv ≠ some (m % 0x200000 / 8)) ∧
    (∃ (s : State) (e : Nat) (w : Nat) (d : Nat) (m : Nat) (y : Nat) (v : TramView) (x : Engine) (a : Word) (b : Word) (o : Nat), s.standsAt e w = true ∧ v.fetchErrs = 0 ∧ x = s.eng e ∧ d = w / 2 ^ 21 % 32 ∧ y = (if w % 2 ^ 16 < 2 ^ 15 then w % 2 ^ 16 else w % 2 ^ 16 + 2 ^ 32 - 2 ^ 16) ∧ s.wpAt e m true = false ∧ a = x.rg d ∧ b = x.rg (d + 1) ∧ m = (x.rg (w / 2 ^ 16 % 32) + BitVec.ofNat 32 o).toNat ∧ o = (if w % 2 ^ 11 < 2 ^ 10 then w % 2 ^ 11 else w % 2 ^ 11 + 2 ^ 32 - 2 ^ 11) ∧ w / 2 ^ 26 = 0x1E ∧ (m % 4 ≠ 0 ∨ m < 0x400000 ∨ 0x600000 ≤ m)) :=
  ⟨⟨tramSt [] 0x6fa10008 (tregs3 [(1, 0x400), (29, 0xa1b2c3d4), (30, 0x55667788)] []) 0x10005fd0408 0x8899aabbccddeef1, 63, 0x6fa10008, 29, 0x408, 0x8, ⟨0, 0⟩, tregs3 [(1, 0x400), (29, 0xa1b2c3d4), (30, 0x55667788)] [], 0xa1b2c3d4, 0x55667788, by decide +kernel⟩,
   ⟨tramSt [] 0x7bc157fc ({ tregs3 [(1, 0x50000c), (10, 0xa1b2c3d4), (11, 0x55667788)] [] with resv := some 131073 }) 0x10004f00008 0x8899aabbccddeef1, (tramSt [] 0x7bc157fc ({ tregs3 [(1, 0x50000c), (10, 0xa1b2c3d4), (11, 0x55667788)] [] with resv := some 131073 }) 0x10004f00008 0x8899aabbccddeef1).ungate 1 113, 63, 0x7bc157fc, 30, 0x500008, 0x10004f00008, 0x57fc, ⟨0, 0⟩, { tregs3 [(1, 0x50000c), (10, 0xa1b2c3d4), (11, 0x55667788)] [] with resv := some 131073 }, 0x0, 0x0, 0xfffffffc, 10, (((tramSt [] 0x7bc157fc ({ tregs3 [(1, 0x50000c), (10, 0xa1b2c3d4), (11, 0x55667788)] [] with resv := some 131073 }) 0x10004f00008 0x8899aabbccddeef1).ungate 1 113).setEng 63 { ({ tregs3 [(1, 0x50000c), (10, 0xa1b2c3d4), (11, 0x55667788)] [] with resv := some 131073 }).wg 30 1 with gOld := [(30, 0)], resv := none }).engStore 0x10004f00008 4 0xa1b2c3d4 0, by decide +kernel⟩,
   ⟨tramSt [] 0x7bc157fc ({ tregs3 [(1, 0x50000c), (10, 0xa1b2c3d4), (11, 0x55667788)] [] with resv := some 131074 }) 0x10004f00008 0x8899aabbccddeef1, (tramSt [] 0x7bc157fc ({ tregs3 [(1, 0x50000c), (10, 0xa1b2c3d4), (11, 0x55667788)] [] with resv := some 131074 }) 0x10004f00008 0x8899aabbccddeef1).ungate 1 113, 63, 0x7bc157fc, 30, 0x500008, 0x10004f00008, 0x57fc, ⟨0, 0⟩, { tregs3 [(1, 0x50000c), (10, 0xa1b2c3d4), (11, 0x55667788)] [] with resv := some 131074 }, 0x0, 0x0, 0xfffffffc, 10, by decide +kernel⟩,
   ⟨tramSt [] 0x7fc157f8 ({ tregs3 [(1, 0x500010), (10, 0xa1b2c3d4), (11, 0x55667788)] [] with resv := some 131073 }) 0x10004f00008 0x8899aabbccddeef1, (tramSt [] 0x7fc157f8 ({ tregs3 [(1, 0x500010), (10, 0xa1b2c3d4), (11, 0x55667788)] [] with resv := some 131073 }) 0x10004f00008 0x8899aabbccddeef1).ungate 1 113, 63, 0x7fc157f8, 30, 0x500008, 0x10004f00008, 0x57f8, ⟨0, 0⟩, { tregs3 [(1, 0x500010), (10, 0xa1b2c3d4), (11, 0x55667788)] [] with resv := some 131073 }, 0x0, 0x0, 0xfffffff8, 10, (((tramSt [] 0x7fc157f8 ({ tregs3 [(1, 0x500010), (10, 0xa1b2c3d4), (11, 0x55667788)] [] with resv := some 131073 }) 0x10004f00008 0x8899aabbccddeef1).ungate 1 113).setEng 63 { ({ tregs3 [(1, 0x500010), (10, 0xa1b2c3d4), (11, 0x55667788)] [] with resv := some 131073 }).wg 30 1 with gOld := [(30, 0)], resv := none }).engStore 0x10004f00008 8 0x55667788a1b2c3d4 0, by decide +kernel⟩,
   ⟨tramSt [] 0x7fc157f8 ({ tregs3 [(1, 0x500010), (10, 0xa1b2c3d4), (11, 0x55667788)] [] with resv := some 131074 }) 0x10004f00008 0x8899aabbccddeef1, (tramSt [] 0x7fc157f8 ({ tregs3 [(1, 0x500010), (10, 0xa1b2c3d4), (11, 0x55667788)] [] with resv := some 131074 }) 0x10004f00008 0x8899aabbccddeef1).ungate 1 113, 63, 0x7fc157f8, 30, 0x500008, 0x10004f00008, 0x57f8, ⟨0, 0⟩, { tregs3 [(1, 0x500010), (10, 0xa1b2c3d4), (11, 0x55667788)] [] with resv := some 131074 }, 0x0, 0x0, 0xfffffff8, 10, by decide +kernel⟩,
   ⟨tramSt [] 0x7bc15004 (tregs3 [(1, 0x400), (10, 0xa1b2c3d4), (11, 0x55667788)] []) 0x10005fd0404 0x8899aabbccddeef1, 63, 0x7bc15004, 30, 0x404, 0x5004, ⟨0, 0⟩, tregs3 [(1, 0x400), (10, 0xa1b2c3d4), (11, 0x55667788)] [], 0x0, 0x0, 4, by decide +kernel⟩⟩

/-- The hypotheses of each clause of `Obligations.TramStores` can be met (4). -/
theorem test_hyps_TramStores_4 :
    (∃ (s : State) (u : State) (e : Nat) (w : Nat) (d : Nat) (m : Nat) (g : Nat) (y : Nat) (v : TramView) (x : Engine) (a : Word) (b : Word) (n : Nat) (q : Word) (kb : Word) (kl : Word) (nx : Word) (r : Word) (t : State), s.standsAt e w = true ∧ v.fetchErrs = 0 ∧ x = s.eng e ∧ d = w / 2 ^ 21 % 32 ∧ y = (if w % 2 ^ 16 < 2 ^ 15 then w % 2 ^ 16 else w % 2 ^ 16 + 2 ^ 32 - 2 ^ 16) ∧ s.wpAt e m true = false ∧ a = x.rg d ∧ b = x.rg (d + 1) ∧ n = w / 2 ^ 18 % 8 ∧ q = Tab.get 0 x.k n ∧ kb = Tab.get 0 x.k (8 + n) ∧ kl = Tab.get 0 x.k (16 + n) ∧ nx = q + BitVec.ofInt 32 ((if w % 2 ^ 15 < 2 ^ 14 then ((w % 2 ^ 15 : Nat) : Int) else ((w % 2 ^ 15 : Nat) : Int) - 2 ^ 15) * 2 ^ (w / 2 ^ 16 % 4)) ∧ r = (if kl = 0 then nx else if kb.toNat + kl.toNat ≤ nx.toNat then nx - kl else if nx.toNat < kb.toNat then nx + kl else nx) ∧ w / 2 ^ 26 = 0x21 ∧ m = q.toNat ∧ ((m < 0x10000 ∧ g = 0x010005010000 + e * 0x40000 + m ∧ u = s) ∨ (0x400000 ≤ m ∧ m < 0x600000 ∧ g = 0x010004000000 + e / 8 * 0x200000 + m % 0x200000 ∧ u = s.ungate 1 (e / 8 * 16 + m / 8 % 16))) ∧ w / 2 ^ 16 % 4 = 0 ∧ t = (u.setEng e { x with k := Tab.set natLt 0 x.k n r }).engStore g 1 (a.toNat % 2 ^ 8) v.dataErrs) ∧
    (∃ (s : State) (u : State) (e : Nat) (w : Nat) (d : Nat) (m : Nat) (g : Nat) (y : Nat) (v : TramView) (x : Engine) (a : Word) (b : Word) (n : Nat) (q : Word) (kb : Word) (kl : Word) (nx : Word) (r : Word) (t : State), s.standsAt e w = true ∧ v.fetchErrs = 0 ∧ x = s.eng e ∧ d = w / 2 ^ 21 % 32 ∧ y = (if w % 2 ^ 16 < 2 ^ 15 then w % 2 ^ 16 else w % 2 ^ 16 + 2 ^ 32 - 2 ^ 16) ∧ s.wpAt e m true = false ∧ a = x.rg d ∧ b = x.rg (d + 1) ∧ n = w / 2 ^ 18 % 8 ∧ q = Tab.get 0 x.k n ∧ kb = Tab.get 0 x.k (8 + n) ∧ kl = Tab.get 0 x.k (16 + n) ∧ nx = q + BitVec.ofInt 32 ((if w % 2 ^ 15 < 2 ^ 14 then ((w % 2 ^ 15 : Nat) : Int) else ((w % 2 ^ 15 : Nat) : Int) - 2 ^ 15) * 2 ^ (w / 2 ^ 16 % 4)) ∧ r = (if kl = 0 then nx else if kb.toNat + kl.toNat ≤ nx.toNat then nx - kl else if nx.toNat < kb.toNat then nx + kl else nx) ∧ w / 2 ^ 26 = 0x21 ∧ m = q.toNat ∧ ((m < 0x10000 ∧ g = 0x010005010000 + e * 0x40000 + m ∧ u = s) ∨ (0x400000 ≤ m ∧ m < 0x600000 ∧ g = 0x010004000000 + e / 8 * 0x200000 + m % 0x200000 ∧ u = s.ungate 1 (e / 8 * 16 + m / 8 % 16))) ∧ w / 2 ^ 16 % 4 = 1 ∧ m % 2 = 0 ∧ t = (u.setEng e { x with k := Tab.set natLt 0 x.k n r }).engStore g 2 (a.toNat % 2 ^ 16) v.dataErrs) ∧
    (∃ (s : State) (u : State) (e : Nat) (w : Nat) (d : Nat) (m : Nat) (g : Nat) (y : Nat) (v : TramView) (x : Engine) (a : Word) (b : Word) (n : Nat) (q : Word) (kb : Word) (kl : Word) (nx : Word) (r : Word) (t : State), s.standsAt e w = true ∧ v.fetchErrs = 0 ∧ x = s.eng e ∧ d = w / 2 ^ 21 % 32 ∧ y = (if w % 2 ^ 16 < 2 ^ 15 then w % 2 ^ 16 else w % 2 ^ 16 + 2 ^ 32 - 2 ^ 16) ∧ s.wpAt e m true = false ∧ a = x.rg d ∧ b = x.rg (d + 1) ∧ n = w / 2 ^ 18 % 8 ∧ q = Tab.get 0 x.k n ∧ kb = Tab.get 0 x.k (8 + n) ∧ kl = Tab.get 0 x.k (16 + n) ∧ nx = q + BitVec.ofInt 32 ((if w % 2 ^ 15 < 2 ^ 14 then ((w % 2 ^ 15 : Nat) : Int) else ((w % 2 ^ 15 : Nat) : Int) - 2 ^ 15) * 2 ^ (w / 2 ^ 16 % 4)) ∧ r = (if kl = 0 then nx else if kb.toNat + kl.toNat ≤ nx.toNat then nx - kl else if nx.toNat < kb.toNat then nx + kl else nx) ∧ w / 2 ^ 26 = 0x21 ∧ m = q.toNat ∧ ((m < 0x10000 ∧ g = 0x010005010000 + e * 0x40000 + m ∧ u = s) ∨ (0x400000 ≤ m ∧ m < 0x600000 ∧ g = 0x010004000000 + e / 8 * 0x200000 + m % 0x200000 ∧ u = s.ungate 1 (e / 8 * 16 + m / 8 % 16))) ∧ w / 2 ^ 16 % 4 = 2 ∧ m % 4 = 0 ∧ w / 2 ^ 15 % 2 = 0 ∧ t = (u.setEng e { x with k := Tab.set natLt 0 x.k n r }).engStore g 4 (a.toNat) v.dataErrs) ∧
    (∃ (s : State) (u : State) (e : Nat) (w : Nat) (d : Nat) (m : Nat) (g : Nat) (y : Nat) (v : TramView) (x : Engine) (a : Word) (b : Word) (n : Nat) (q : Word) (kb : Word) (kl : Word) (nx : Word) (r : Word) (t : State), s.standsAt e w = true ∧ v.fetchErrs = 0 ∧ x = s.eng e ∧ d = w / 2 ^ 21 % 32 ∧ y = (if w % 2 ^ 16 < 2 ^ 15 then w % 2 ^ 16 else w % 2 ^ 16 + 2 ^ 32 - 2 ^ 16) ∧ s.wpAt e m true = false ∧ a = x.rg d ∧ b = x.rg (d + 1) ∧ n = w / 2 ^ 18 % 8 ∧ q = Tab.get 0 x.k n ∧ kb = Tab.get 0 x.k (8 + n) ∧ kl = Tab.get 0 x.k (16 + n) ∧ nx = q + BitVec.ofInt 32 ((if w % 2 ^ 15 < 2 ^ 14 then ((w % 2 ^ 15 : Nat) : Int) else ((w % 2 ^ 15 : Nat) : Int) - 2 ^ 15) * 2 ^ (w / 2 ^ 16 % 4)) ∧ r = (if kl = 0 then nx else if kb.toNat + kl.toNat ≤ nx.toNat then nx - kl else if nx.toNat < kb.toNat then nx + kl else nx) ∧ w / 2 ^ 26 = 0x21 ∧ m = q.toNat ∧ ((m < 0x10000 ∧ g = 0x010005010000 + e * 0x40000 + m ∧ u = s) ∨ (0x400000 ≤ m ∧ m < 0x600000 ∧ g = 0x010004000000 + e / 8 * 0x200000 + m % 0x200000 ∧ u = s.ungate 1 (e / 8 * 16 + m / 8 % 16))) ∧ w / 2 ^ 16 % 4 = 3 ∧ m % 8 = 0 ∧ w / 2 ^ 15 % 2 = 0 ∧ d % 2 = 0 ∧ t = (u.setEng e { x with k := Tab.set natLt 0 x.k n r }).engStore g 8 (a.toNat + b.toNat * 2 ^ 32) v.dataErrs) :=
  ⟨⟨tramSt [] 0x87dc7fff (tregs3 [(30, 0xa1b2c3d4), (31, 0x55667788)] [(7, 0x400), (15, 0x400), (23, 0x10)]) 0x10005fd0400 0x8899aabbccddeef1, tramSt [] 0x87dc7fff (tregs3 [(30, 0xa1b2c3d4), (31, 0x55667788)] [(7, 0x400), (15, 0x400), (23, 0x10)]) 0x10005fd0400 0x8899aabbccddeef1, 63, 0x87dc7fff, 30, 0x400, 0x10005fd0400, 0x7fff, ⟨0, 0⟩, tregs3 [(30, 0xa1b2c3d4), (31, 0x55667788)] [(7, 0x400), (15, 0x400), (23, 0x10)], 0xa1b2c3d4, 0x55667788, 7, 0x400, 0x400, 0x10, 0x3ff, 0x40f, ((tramSt [] 0x87dc7fff (tregs3 [(30, 0xa1b2c3d4), (31, 0x55667788)] [(7, 0x400), (15, 0x400), (23, 0x10)]) 0x10005fd0400 0x8899aabbccddeef1).setEng 63 { tregs3 [(30, 0xa1b2c3d4), (31, 0x55667788)] [(7, 0x400), (15, 0x400), (23, 0x10)] with k := Tab.set natLt 0 (tregs3 [(30, 0xa1b2c3d4), (31, 0x55667788)] [(7, 0x400), (15, 0x400), (23, 0x10)]).k 7 0x40f }).engStore 0x10005fd0400 1 0xd4 0, by decide +kernel⟩,
   ⟨tramSt [] 0x87dd7fff (tregs3 [(30, 0xa1b2c3d4), (31, 0x55667788)] [(7, 0x400), (15, 0x400), (23, 0x10)]) 0x10005fd0400 0x8899aabbccddeef1, tramSt [] 0x87dd7fff (tregs3 [(30, 0xa1b2c3d4), (31, 0x55667788)] [(7, 0x400), (15, 0x400), (23, 0x10)]) 0x10005fd0400 0x8899aabbccddeef1, 63, 0x87dd7fff, 30, 0x400, 0x10005fd0400, 0x7fff, ⟨0, 0⟩, tregs3 [(30, 0xa1b2c3d4), (31, 0x55667788)] [(7, 0x400), (15, 0x400), (23, 0x10)], 0xa1b2c3d4, 0x55667788, 7, 0x400, 0x400, 0x10, 0x3fe, 0x40e, ((tramSt [] 0x87dd7fff (tregs3 [(30, 0xa1b2c3d4), (31, 0x55667788)] [(7, 0x400), (15, 0x400), (23, 0x10)]) 0x10005fd0400 0x8899aabbccddeef1).setEng 63 { tregs3 [(30, 0xa1b2c3d4), (31, 0x55667788)] [(7, 0x400), (15, 0x400), (23, 0x10)] with k := Tab.set natLt 0 (tregs3 [(30, 0xa1b2c3d4), (31, 0x55667788)] [(7, 0x400), (15, 0x400), (23, 0x10)]).k 7 0x40e }).engStore 0x10005fd0400 2 0xc3d4 0, by decide +kernel⟩,
   ⟨tramSt [] 0x87de7fff (tregs3 [(30, 0xa1b2c3d4), (31, 0x55667788)] [(7, 0x400010)]) 0x10004e00010 0x8899aabbccddeef1, (tramSt [] 0x87de7fff (tregs3 [(30, 0xa1b2c3d4), (31, 0x55667788)] [(7, 0x400010)]) 0x10004e00010 0x8899aabbccddeef1).ungate 1 114, 63, 0x87de7fff, 30, 0x400010, 0x10004e00010, 0x7fff, ⟨0, 0⟩, tregs3 [(30, 0xa1b2c3d4), (31, 0x55667788)] [(7, 0x400010)], 0xa1b2c3d4, 0x55667788, 7, 0x400010, 0x0, 0x0, 0x40000c, 0x40000c, (((tramSt [] 0x87de7fff (tregs3 [(30, 0xa1b2c3d4), (31, 0x55667788)] [(7, 0x400010)]) 0x10004e00010 0x8899aabbccddeef1).ungate 1 114).setEng 63 { tregs3 [(30, 0xa1b2c3d4), (31, 0x55667788)] [(7, 0x400010)] with k := Tab.set natLt 0 (tregs3 [(30, 0xa1b2c3d4), (31, 0x55667788)] [(7, 0x400010)]).k 7 0x40000c }).engStore 0x10004e00010 4 0xa1b2c3d4 0, by decide +kernel⟩,
   ⟨tramSt [] 0x87df7fff (tregs3 [(30, 0xa1b2c3d4), (31, 0x55667788)] [(7, 0x400), (15, 0x400), (23, 0x10)]) 0x10005fd0400 0x8899aabbccddeef1, tramSt [] 0x87df7fff (tregs3 [(30, 0xa1b2c3d4), (31, 0x55667788)] [(7, 0x400), (15, 0x400), (23, 0x10)]) 0x10005fd0400 0x8899aabbccddeef1, 63, 0x87df7fff, 30, 0x400, 0x10005fd0400, 0x7fff, ⟨0, 0⟩, tregs3 [(30, 0xa1b2c3d4), (31, 0x55667788)] [(7, 0x400), (15, 0x400), (23, 0x10)], 0xa1b2c3d4, 0x55667788, 7, 0x400, 0x400, 0x10, 0x3f8, 0x408, ((tramSt [] 0x87df7fff (tregs3 [(30, 0xa1b2c3d4), (31, 0x55667788)] [(7, 0x400), (15, 0x400), (23, 0x10)]) 0x10005fd0400 0x8899aabbccddeef1).setEng 63 { tregs3 [(30, 0xa1b2c3d4), (31, 0x55667788)] [(7, 0x400), (15, 0x400), (23, 0x10)] with k := Tab.set natLt 0 (tregs3 [(30, 0xa1b2c3d4), (31, 0x55667788)] [(7, 0x400), (15, 0x400), (23, 0x10)]).k 7 0x408 }).engStore 0x10005fd0400 8 0x55667788a1b2c3d4 0, by decide +kernel⟩⟩

/-- The hypotheses of each clause of `Obligations.TramQueues` can be met (1). -/
theorem test_hyps_TramQueues :
    (∃ (s : State) (e : Nat) (w : Nat) (d : Nat) (i : Nat) (k : Nat) (v : TramView) (x : Engine) (a : Word) (t : State), s.standsAt e w = true ∧ v.fetchErrs = 0 ∧ x = s.eng e ∧ d = w / 2 ^ 21 % 32 ∧ i = w / 2 ^ 16 % 16 ∧ k = 0x010006000000 + s.rd TR_QPORT.QUEUE e i * 0x1000 ∧ a = x.rg d ∧ w / 2 ^ 26 = 3 ∧ w &&& 0x10FFC0 = 0 ∧ w % 64 = 0 ∧ s.rd TR_QPORT.VALID e i = 1 ∧ t = (s.setEng e { x with wait := some .push }).request ⟨653 + e / 8, some e, k + 0x808, 4, 2, a.toNat, false, 0⟩) ∧
    (∃ (s : State) (e : Nat) (w : Nat) (d : Nat) (i : Nat) (k : Nat) (v : TramView) (x : Engine) (a : Word) (t : State), s.standsAt e w = true ∧ v.fetchErrs = 0 ∧ x = s.eng e ∧ d = w / 2 ^ 21 % 32 ∧ i = w / 2 ^ 16 % 16 ∧ k = 0x010006000000 + s.rd TR_QPORT.QUEUE e i * 0x1000 ∧ a = x.rg d ∧ w / 2 ^ 26 = 3 ∧ w &&& 0x10FFC0 = 0 ∧ w % 64 = 1 ∧ s.rd TR_QPORT.VALID e i = 1 ∧ t = (s.setEng e { x with wait := some .push }).request ⟨653 + e / 8, some e, k + 0x810, 4, 2, a.toNat, false, 0⟩) ∧
    (∃ (s : State) (e : Nat) (w : Nat) (d : Nat) (i : Nat) (k : Nat) (v : TramView) (x : Engine) (a : Word), s.standsAt e w = true ∧ v.fetchErrs = 0 ∧ x = s.eng e ∧ d = w / 2 ^ 21 % 32 ∧ i = w / 2 ^ 16 % 16 ∧ k = 0x010006000000 + s.rd TR_QPORT.QUEUE e i * 0x1000 ∧ a = x.rg d ∧ w / 2 ^ 26 = 3 ∧ w &&& 0x10FFC0 = 0 ∧ w % 64 = 2 ∧ s.rd TR_QPORT.VALID e i = 1) ∧
    (∃ (s : State) (e : Nat) (w : Nat) (d : Nat) (i : Nat) (k : Nat) (v : TramView) (x : Engine) (a : Word), s.standsAt e w = true ∧ v.fetchErrs = 0 ∧ x = s.eng e ∧ d = w / 2 ^ 21 % 32 ∧ i = w / 2 ^ 16 % 16 ∧ k = 0x010006000000 + s.rd TR_QPORT.QUEUE e i * 0x1000 ∧ a = x.rg d ∧ w / 2 ^ 26 = 3 ∧ w &&& 0x10FFC0 = 0 ∧ w % 64 = 3 ∧ s.rd TR_QPORT.VALID e i = 1) ∧
    (∃ (s : State) (e : Nat) (w : Nat) (d : Nat) (i : Nat) (k : Nat) (v : TramView) (x : Engine) (a : Word), s.standsAt e w = true ∧ v.fetchErrs = 0 ∧ x = s.eng e ∧ d = w / 2 ^ 21 % 32 ∧ i = w / 2 ^ 16 % 16 ∧ k = 0x010006000000 + s.rd TR_QPORT.QUEUE e i * 0x1000 ∧ a = x.rg d ∧ w / 2 ^ 26 = 3 ∧ w &&& 0x10FFC0 = 0 ∧ w % 64 = 0 ∧ s.rd TR_QPORT.VALID e i = 0) ∧
    (∃ (s : State) (e : Nat) (w : Nat) (d : Nat) (i : Nat) (k : Nat) (v : TramView) (x : Engine) (a : Word), s.standsAt e w = true ∧ v.fetchErrs = 0 ∧ x = s.eng e ∧ d = w / 2 ^ 21 % 32 ∧ i = w / 2 ^ 16 % 16 ∧ k = 0x010006000000 + s.rd TR_QPORT.QUEUE e i * 0x1000 ∧ a = x.rg d ∧ w / 2 ^ 26 = 3 ∧ w &&& 0x10FFC0 = 0 ∧ w % 64 = 1 ∧ s.rd TR_QPORT.VALID e i = 0) ∧
    (∃ (s : State) (e : Nat) (w : Nat) (d : Nat) (i : Nat) (k : Nat) (v : TramView) (x : Engine) (a : Word), s.standsAt e w = true ∧ v.fetchErrs = 0 ∧ x = s.eng e ∧ d = w / 2 ^ 21 % 32 ∧ i = w / 2 ^ 16 % 16 ∧ k = 0x010006000000 + s.rd TR_QPORT.QUEUE e i * 0x1000 ∧ a = x.rg d ∧ w / 2 ^ 26 = 3 ∧ w &&& 0x10FFC0 = 0 ∧ w % 64 = 2 ∧ s.rd TR_QPORT.VALID e i = 0) ∧
    (∃ (s : State) (e : Nat) (w : Nat) (d : Nat) (i : Nat) (k : Nat) (v : TramView) (x : Engine) (a : Word), s.standsAt e w = true ∧ v.fetchErrs = 0 ∧ x = s.eng e ∧ d = w / 2 ^ 21 % 32 ∧ i = w / 2 ^ 16 % 16 ∧ k = 0x010006000000 + s.rd TR_QPORT.QUEUE e i * 0x1000 ∧ a = x.rg d ∧ w / 2 ^ 26 = 3 ∧ w &&& 0x10FFC0 = 0 ∧ w % 64 = 3 ∧ s.rd TR_QPORT.VALID e i = 0) ∧
    (∃ (s : State) (e : Nat) (i : Nat) (n : Nat) (o : Nat) (sh : Nat) (x : Engine), e < 64 ∧ x = s.eng e ∧ o = s.rd TR_QCOUNT.COUNT e (i / 4) ∧ sh = 16 * (i % 4) ∧ n = o / 2 ^ sh % 2 ^ 16 ∧ i < 16 ∧ n < 0xFFFE) ∧
    (∃ (s : State) (e : Nat) (i : Nat) (n : Nat) (o : Nat) (sh : Nat) (x : Engine), e < 64 ∧ x = s.eng e ∧ o = s.rd TR_QCOUNT.COUNT e (i / 4) ∧ sh = 16 * (i % 4) ∧ n = o / 2 ^ sh % 2 ^ 16 ∧ i < 16 ∧ 0xFFFE ≤ n) ∧
    (∃ (s : State) (e : Nat) (i : Nat) (n : Nat) (o : Nat) (sh : Nat) (q : Nat) (x : Engine) (pq : QPkt), e < 64 ∧ x = s.eng e ∧ o = s.rd TR_QCOUNT.COUNT e (i / 4) ∧ sh = 16 * (i % 4) ∧ n = o / 2 ^ sh % 2 ^ 16 ∧ s.tram.resend = [e] ∧ s.liveQueues.filter (fun k => s.endsAt k (.engine e) && !s.quUp k) = [q] ∧ (s.queue q).pkts.filter (fun k => k.closed) = [pq] ∧ s.rd QU_END.KIND q = 0 ∧ s.rd QU_END.UNIT q = e) ∧
    (∃ (s : State) (e : Nat) (i : Nat) (n : Nat) (o : Nat) (sh : Nat) (x : Engine), e < 64 ∧ x = s.eng e ∧ o = s.rd TR_QCOUNT.COUNT e (i / 4) ∧ sh = 16 * (i % 4) ∧ n = o / 2 ^ sh % 2 ^ 16 ∧ e ∉ s.tram.resend) :=
  ⟨⟨tramQ [(TR_QPORT.VALID.key 63 5, 1), (TR_QPORT.QUEUE.key 63 5, 77)] 0xfc50000 g30, 63, 0xfc50000, 30, 5, 0x1000604d000, ⟨0, 0⟩, g30, 0xA1B2C3D4, ((tramQ [(TR_QPORT.VALID.key 63 5, 1), (TR_QPORT.QUEUE.key 63 5, 77)] 0xfc50000 g30).setEng 63 { g30 with wait := some .push }).request ⟨660, some 63, 0x1000604d808, 4, 2, 0xA1B2C3D4, false, 0⟩, by decide +kernel⟩,
   ⟨tramQ [(TR_QPORT.VALID.key 63 5, 1), (TR_QPORT.QUEUE.key 63 5, 77)] 0xfc50001 g30, 63, 0xfc50001, 30, 5, 0x1000604d000, ⟨0, 0⟩, g30, 0xA1B2C3D4, ((tramQ [(TR_QPORT.VALID.key 63 5, 1), (TR_QPORT.QUEUE.key 63 5, 77)] 0xfc50001 g30).setEng 63 { g30 with wait := some .push }).request ⟨660, some 63, 0x1000604d810, 4, 2, 0xA1B2C3D4, false, 0⟩, by decide +kernel⟩,
   ⟨tramQ [(TR_QPORT.VALID.key 63 5, 1), (TR_QPORT.QUEUE.key 63 5, 77)] 0xfc50002 g30, 63, 0xfc50002, 30, 5, 0x1000604d000, ⟨0, 0⟩, g30, 0xA1B2C3D4, by decide +kernel⟩,
   ⟨tramQ [(TR_QPORT.VALID.key 63 5, 1), (TR_QPORT.QUEUE.key 63 5, 77)] 0xfc50003 g30, 63, 0xfc50003, 30, 5, 0x1000604d000, ⟨0, 0⟩, g30, 0xA1B2C3D4, by decide +kernel⟩,
   ⟨tramQ [(TR_QPORT.QUEUE.key 63 5, 77)] 0xfc50000 g30, 63, 0xfc50000, 30, 5, 0x1000604d000, ⟨0, 0⟩, g30, 0xA1B2C3D4, by decide +kernel⟩,
   ⟨tramQ [(TR_QPORT.QUEUE.key 63 5, 77)] 0xfc50001 g30, 63, 0xfc50001, 30, 5, 0x1000604d000, ⟨0, 0⟩, g30, 0xA1B2C3D4, by decide +kernel⟩,
   ⟨tramQ [(TR_QPORT.QUEUE.key 63 5, 77)] 0xfc50002 g30, 63, 0xfc50002, 30, 5, 0x1000604d000, ⟨0, 0⟩, g30, 0xA1B2C3D4, by decide +kernel⟩,
   ⟨tramQ [(TR_QPORT.QUEUE.key 63 5, 77)] 0xfc50003 g30, 63, 0xfc50003, 30, 5, 0x1000604d000, ⟨0, 0⟩, g30, 0xA1B2C3D4, by decide +kernel⟩,
   ⟨tramC [(TR_QCOUNT.COUNT.key 63 1, 844424930590720)] g30, 63, 5, 7, 844424930590720, 16, g30, by decide +kernel⟩,
   ⟨tramC [(TR_QCOUNT.COUNT.key 63 1, 844429224968192)] g30, 63, 5, 65534, 844429224968192, 16, g30, by decide +kernel⟩,
   ⟨queued0, 63, 5, 0, 0, 16, 77, Engine.cold, pktE, by decide +kernel⟩,
   ⟨tramC [] g30, 63, 5, 0, 0, 16, g30, by decide +kernel⟩⟩

/-- The hypotheses of each clause of `Obligations.TramQueues` can be met (2). -/
theorem test_hyps_TramQueues_2 :
    (∃ (s : State) (e : Nat) (i : Nat) (n : Nat) (o : Nat) (sh : Nat) (d : Nat) (x : Engine), e < 64 ∧ x = s.eng e ∧ o = s.rd TR_QCOUNT.COUNT e (i / 4) ∧ sh = 16 * (i % 4) ∧ n = o / 2 ^ sh % 2 ^ 16 ∧ d < 2 ^ 32 ∧ x.posts.length < 16 ∧ s.rd TR_STATUS.STATE e ≠ 3) ∧
    (∃ (s : State) (e : Nat) (i : Nat) (n : Nat) (o : Nat) (sh : Nat) (d : Nat) (x : Engine), e < 64 ∧ x = s.eng e ∧ o = s.rd TR_QCOUNT.COUNT e (i / 4) ∧ sh = 16 * (i % 4) ∧ n = o / 2 ^ sh % 2 ^ 16 ∧ d < 2 ^ 32 ∧ x.posts.length < 16 ∧ s.rd TR_STATUS.STATE e ≠ 3) ∧
    (∃ (s : State) (e : Nat) (i : Nat) (n : Nat) (o : Nat) (sh : Nat) (x : Engine), e < 64 ∧ x = s.eng e ∧ o = s.rd TR_QCOUNT.COUNT e (i / 4) ∧ sh = 16 * (i % 4) ∧ n = o / 2 ^ sh % 2 ^ 16 ∧ (16 ≤ x.posts.length ∨ s.rd TR_STATUS.STATE e = 3)) ∧
    (∃ (s : State) (e : Nat) (i : Nat) (n : Nat) (o : Nat) (sh : Nat) (x : Engine), e < 64 ∧ x = s.eng e ∧ o = s.rd TR_QCOUNT.COUNT e (i / 4) ∧ sh = 16 * (i % 4) ∧ n = o / 2 ^ sh % 2 ^ 16 ∧ (16 ≤ x.posts.length ∨ s.rd TR_STATUS.STATE e = 3)) ∧
    (∃ (s : State) (e : Nat) (i : Nat) (n : Nat) (o : Nat) (sh : Nat) (r : Nat) (x : Engine) (ps : List Nat), e < 64 ∧ x = s.eng e ∧ o = s.rd TR_QCOUNT.COUNT e (i / 4) ∧ sh = 16 * (i % 4) ∧ n = o / 2 ^ sh % 2 ^ 16 ∧ x.posts = r :: ps) ∧
    (∃ (s : State) (e : Nat) (i : Nat) (n : Nat) (o : Nat) (sh : Nat) (r : Nat) (x : Engine) (ps : List Nat), e < 64 ∧ x = s.eng e ∧ o = s.rd TR_QCOUNT.COUNT e (i / 4) ∧ sh = 16 * (i % 4) ∧ n = o / 2 ^ sh % 2 ^ 16 ∧ x.posts = r :: ps) ∧
    (∃ (s : State) (e : Nat) (i : Nat) (n : Nat) (o : Nat) (sh : Nat) (r : Nat) (x : Engine) (ps : List Nat), e < 64 ∧ x = s.eng e ∧ o = s.rd TR_QCOUNT.COUNT e (i / 4) ∧ sh = 16 * (i % 4) ∧ n = o / 2 ^ sh % 2 ^ 16 ∧ x.posts = r :: ps) ∧
    (∃ (s : State) (e : Nat) (i : Nat) (n : Nat) (o : Nat) (sh : Nat) (x : Engine), e < 64 ∧ x = s.eng e ∧ o = s.rd TR_QCOUNT.COUNT e (i / 4) ∧ sh = 16 * (i % 4) ∧ n = o / 2 ^ sh % 2 ^ 16 ∧ x.posts = []) :=
  ⟨⟨tramC [] ({ Engine.cold with posts := [9, 8] }), 63, 5, 0, 0, 16, 7, { Engine.cold with posts := [9, 8] }, by decide +kernel⟩,
   ⟨tramC [] ({ Engine.cold with posts := [9, 8] }), 63, 5, 0, 0, 16, 7, { Engine.cold with posts := [9, 8] }, by decide +kernel⟩,
   ⟨tramC [] ({ Engine.cold with posts := List.replicate 16 1 }), 63, 5, 0, 0, 16, { Engine.cold with posts := List.replicate 16 1 }, by decide +kernel⟩,
   ⟨tramC [(TR_STATUS.STATE.key 63, 3)] g30, 63, 5, 0, 0, 16, g30, by decide +kernel⟩,
   ⟨tramC [] ({ Engine.cold with posts := [9, 8] }), 63, 5, 0, 0, 16, 9, { Engine.cold with posts := [9, 8] }, [8], by decide +kernel⟩,
   ⟨tramC [] ({ Engine.cold with posts := [9, 8] }), 63, 5, 0, 0, 16, 9, { Engine.cold with posts := [9, 8] }, [8], by decide +kernel⟩,
   ⟨tramC [] ({ Engine.cold with posts := [9, 8] }), 63, 5, 0, 0, 16, 9, { Engine.cold with posts := [9, 8] }, [8], by decide +kernel⟩,
   ⟨tramC [] g30, 63, 5, 0, 0, 16, g30, by decide +kernel⟩⟩

/-- The hypotheses of each clause of `Obligations.TramControl` can be met (1). -/
theorem test_hyps_TramControl :
    (∃ (s : State) (c : State) (h : State) (u : State) (e : Nat) (v : Nat) (k : Nat) (p : Nat) (vb : Nat) (x : Engine), e < 64 ∧ x = s.eng e ∧ p = s.rd TR_PC.PC e ∧ vb = s.rd TR_CTRL.VBASE e * 256 ∧ k = (s.rd TR_IRQ_PEND.PEND e &&& 0x19) + (if x.posts = [] then 0 else 2) + (if s.sampler.noticePend.testBit e then 4 else 0) ∧ c = (s.wr TR_CTRL.ENTRY (v / 2 ^ 16 % 2 ^ 14) e).wr TR_CTRL.VBASE (v / 2 ^ 32 % 2 ^ 8) e ∧ h = (s.wr TR_DBG_CTRL.STEP (v / 2 % 2) e).wr TR_DBG_CTRL.DBG_NEST (if v / 4 % 2 = 1 then 0 else s.rd TR_DBG_CTRL.DBG_NEST e) e ∧ u = (((s.wr TR_WDOG.LIMIT (v % 2 ^ 24) e).wr TR_WDOG.EN (v / 2 ^ 24 % 2) e).wr TR_WDOG.ACT (v / 2 ^ 25 % 2) e).wr TR_WDOG.DBG_STOP (v / 2 ^ 26 % 2) e ∧ s.rd TR_STATUS.STATE e = 1 ∧ x.eligible = true ∧ s.pushHeld e = false ∧ k &&& s.rd TR_IRQ_EN.EN e ≠ 0 ∧ s.rd TR_STATUS.IE e = 1 ∧ s.rd TR_STATUS.INH e = 0) ∧
    (∃ (s : State) (c : State) (h : State) (u : State) (e : Nat) (v : Nat) (k : Nat) (p : Nat) (vb : Nat) (x : Engine), e < 64 ∧ x = s.eng e ∧ p = s.rd TR_PC.PC e ∧ vb = s.rd TR_CTRL.VBASE e * 256 ∧ k = (s.rd TR_IRQ_PEND.PEND e &&& 0x19) + (if x.posts = [] then 0 else 2) + (if s.sampler.noticePend.testBit e then 4 else 0) ∧ c = (s.wr TR_CTRL.ENTRY (v / 2 ^ 16 % 2 ^ 14) e).wr TR_CTRL.VBASE (v / 2 ^ 32 % 2 ^ 8) e ∧ h = (s.wr TR_DBG_CTRL.STEP (v / 2 % 2) e).wr TR_DBG_CTRL.DBG_NEST (if v / 4 % 2 = 1 then 0 else s.rd TR_DBG_CTRL.DBG_NEST e) e ∧ u = (((s.wr TR_WDOG.LIMIT (v % 2 ^ 24) e).wr TR_WDOG.EN (v / 2 ^ 24 % 2) e).wr TR_WDOG.ACT (v / 2 ^ 25 % 2) e).wr TR_WDOG.DBG_STOP (v / 2 ^ 26 % 2) e ∧ s.rd TR_STATUS.STATE e = 2 ∧ x.stores = [] ∧ k &&& s.rd TR_IRQ_EN.EN e ≠ 0 ∧ s.rd TR_STATUS.IE e = 1 ∧ s.rd TR_STATUS.INH e = 0) ∧
    (∃ (s : State) (c : State) (h : State) (u : State) (e : Nat) (v : Nat) (k : Nat) (p : Nat) (vb : Nat) (x : Engine), e < 64 ∧ x = s.eng e ∧ p = s.rd TR_PC.PC e ∧ vb = s.rd TR_CTRL.VBASE e * 256 ∧ k = (s.rd TR_IRQ_PEND.PEND e &&& 0x19) + (if x.posts = [] then 0 else 2) + (if s.sampler.noticePend.testBit e then 4 else 0) ∧ c = (s.wr TR_CTRL.ENTRY (v / 2 ^ 16 % 2 ^ 14) e).wr TR_CTRL.VBASE (v / 2 ^ 32 % 2 ^ 8) e ∧ h = (s.wr TR_DBG_CTRL.STEP (v / 2 % 2) e).wr TR_DBG_CTRL.DBG_NEST (if v / 4 % 2 = 1 then 0 else s.rd TR_DBG_CTRL.DBG_NEST e) e ∧ u = (((s.wr TR_WDOG.LIMIT (v % 2 ^ 24) e).wr TR_WDOG.EN (v / 2 ^ 24 % 2) e).wr TR_WDOG.ACT (v / 2 ^ 25 % 2) e).wr TR_WDOG.DBG_STOP (v / 2 ^ 26 % 2) e ∧ s.rd TR_STATUS.STATE e = 2 ∧ k &&& s.rd TR_IRQ_EN.EN e ≠ 0 ∧ (s.rd TR_STATUS.IE e = 0 ∨ s.rd TR_STATUS.INH e = 1)) ∧
    (∃ (s : State) (c : State) (h : State) (u : State) (e : Nat) (v : Nat) (k : Nat) (p : Nat) (vb : Nat) (x : Engine), e < 64 ∧ x = s.eng e ∧ p = s.rd TR_PC.PC e ∧ vb = s.rd TR_CTRL.VBASE e * 256 ∧ k = (s.rd TR_IRQ_PEND.PEND e &&& 0x19) + (if x.posts = [] then 0 else 2) + (if s.sampler.noticePend.testBit e then 4 else 0) ∧ c = (s.wr TR_CTRL.ENTRY (v / 2 ^ 16 % 2 ^ 14) e).wr TR_CTRL.VBASE (v / 2 ^ 32 % 2 ^ 8) e ∧ h = (s.wr TR_DBG_CTRL.STEP (v / 2 % 2) e).wr TR_DBG_CTRL.DBG_NEST (if v / 4 % 2 = 1 then 0 else s.rd TR_DBG_CTRL.DBG_NEST e) e ∧ u = (((s.wr TR_WDOG.LIMIT (v % 2 ^ 24) e).wr TR_WDOG.EN (v / 2 ^ 24 % 2) e).wr TR_WDOG.ACT (v / 2 ^ 25 % 2) e).wr TR_WDOG.DBG_STOP (v / 2 ^ 26 % 2) e ∧ k &&& s.rd TR_IRQ_EN.EN e = 0) ∧
    (∃ (s : State) (c : State) (h : State) (u : State) (e : Nat) (v : Nat) (k : Nat) (p : Nat) (vb : Nat) (x : Engine), e < 64 ∧ x = s.eng e ∧ p = s.rd TR_PC.PC e ∧ vb = s.rd TR_CTRL.VBASE e * 256 ∧ k = (s.rd TR_IRQ_PEND.PEND e &&& 0x19) + (if x.posts = [] then 0 else 2) + (if s.sampler.noticePend.testBit e then 4 else 0) ∧ c = (s.wr TR_CTRL.ENTRY (v / 2 ^ 16 % 2 ^ 14) e).wr TR_CTRL.VBASE (v / 2 ^ 32 % 2 ^ 8) e ∧ h = (s.wr TR_DBG_CTRL.STEP (v / 2 % 2) e).wr TR_DBG_CTRL.DBG_NEST (if v / 4 % 2 = 1 then 0 else s.rd TR_DBG_CTRL.DBG_NEST e) e ∧ u = (((s.wr TR_WDOG.LIMIT (v % 2 ^ 24) e).wr TR_WDOG.EN (v / 2 ^ 24 % 2) e).wr TR_WDOG.ACT (v / 2 ^ 25 % 2) e).wr TR_WDOG.DBG_STOP (v / 2 ^ 26 % 2) e ∧ s.rd TR_STATUS.STATE e = 1 ∧ x.eligible = true ∧ s.pushHeld e = false ∧ s.dbgCauses e ≠ 0) ∧
    (∃ (s : State) (c : State) (h : State) (u : State) (e : Nat) (v : Nat) (k : Nat) (p : Nat) (vb : Nat) (x : Engine), e < 64 ∧ x = s.eng e ∧ p = s.rd TR_PC.PC e ∧ vb = s.rd TR_CTRL.VBASE e * 256 ∧ k = (s.rd TR_IRQ_PEND.PEND e &&& 0x19) + (if x.posts = [] then 0 else 2) + (if s.sampler.noticePend.testBit e then 4 else 0) ∧ c = (s.wr TR_CTRL.ENTRY (v / 2 ^ 16 % 2 ^ 14) e).wr TR_CTRL.VBASE (v / 2 ^ 32 % 2 ^ 8) e ∧ h = (s.wr TR_DBG_CTRL.STEP (v / 2 % 2) e).wr TR_DBG_CTRL.DBG_NEST (if v / 4 % 2 = 1 then 0 else s.rd TR_DBG_CTRL.DBG_NEST e) e ∧ u = (((s.wr TR_WDOG.LIMIT (v % 2 ^ 24) e).wr TR_WDOG.EN (v / 2 ^ 24 % 2) e).wr TR_WDOG.ACT (v / 2 ^ 25 % 2) e).wr TR_WDOG.DBG_STOP (v / 2 ^ 26 % 2) e ∧ s.rd TR_STATUS.MON e = 1) :=
  ⟨⟨tramC [(TR_STATUS.STATE.key 63, 1), (TR_PC.PC.key 63, 64), (TR_CTRL.VBASE.key 63, 3), (TR_IRQ_EN.EN.key 63, 2), (TR_STATUS.IE.key 63, 1)] ({ Engine.cold with posts := [9] }), ((tramC [(TR_STATUS.STATE.key 63, 1), (TR_PC.PC.key 63, 64), (TR_CTRL.VBASE.key 63, 3), (TR_IRQ_EN.EN.key 63, 2), (TR_STATUS.IE.key 63, 1)] ({ Engine.cold with posts := [9] })).wr TR_CTRL.ENTRY 0 63).wr TR_CTRL.VBASE 0 63, ((tramC [(TR_STATUS.STATE.key 63, 1), (TR_PC.PC.key 63, 64), (TR_CTRL.VBASE.key 63, 3), (TR_IRQ_EN.EN.key 63, 2), (TR_STATUS.IE.key 63, 1)] ({ Engine.cold with posts := [9] })).wr TR_DBG_CTRL.STEP 0 63).wr TR_DBG_CTRL.DBG_NEST 0 63, ((((tramC [(TR_STATUS.STATE.key 63, 1), (TR_PC.PC.key 63, 64), (TR_CTRL.VBASE.key 63, 3), (TR_IRQ_EN.EN.key 63, 2), (TR_STATUS.IE.key 63, 1)] ({ Engine.cold with posts := [9] })).wr TR_WDOG.LIMIT 0 63).wr TR_WDOG.EN 0 63).wr TR_WDOG.ACT 0 63).wr TR_WDOG.DBG_STOP 0 63, 63, 0x0, 2, 0x40, 0x300, { Engine.cold with posts := [9] }, by decide +kernel⟩,
   ⟨tramC [(TR_STATUS.STATE.key 63, 2), (TR_PC.PC.key 63, 64), (TR_CTRL.VBASE.key 63, 3), (TR_IRQ_EN.EN.key 63, 2), (TR_STATUS.IE.key 63, 1)] ({ Engine.cold with posts := [9], gOld := [(3, 4)] }), ((tramC [(TR_STATUS.STATE.key 63, 2), (TR_PC.PC.key 63, 64), (TR_CTRL.VBASE.key 63, 3), (TR_IRQ_EN.EN.key 63, 2), (TR_STATUS.IE.key 63, 1)] ({ Engine.cold with posts := [9], gOld := [(3, 4)] })).wr TR_CTRL.ENTRY 0 63).wr TR_CTRL.VBASE 0 63, ((tramC [(TR_STATUS.STATE.key 63, 2), (TR_PC.PC.key 63, 64), (TR_CTRL.VBASE.key 63, 3), (TR_IRQ_EN.EN.key 63, 2), (TR_STATUS.IE.key 63, 1)] ({ Engine.cold with posts := [9], gOld := [(3, 4)] })).wr TR_DBG_CTRL.STEP 0 63).wr TR_DBG_CTRL.DBG_NEST 0 63, ((((tramC [(TR_STATUS.STATE.key 63, 2), (TR_PC.PC.key 63, 64), (TR_CTRL.VBASE.key 63, 3), (TR_IRQ_EN.EN.key 63, 2), (TR_STATUS.IE.key 63, 1)] ({ Engine.cold with posts := [9], gOld := [(3, 4)] })).wr TR_WDOG.LIMIT 0 63).wr TR_WDOG.EN 0 63).wr TR_WDOG.ACT 0 63).wr TR_WDOG.DBG_STOP 0 63, 63, 0x0, 2, 0x40, 0x300, { Engine.cold with posts := [9], gOld := [(3, 4)] }, by decide +kernel⟩,
   ⟨tramC [(TR_STATUS.STATE.key 63, 2), (TR_PC.PC.key 63, 64), (TR_CTRL.VBASE.key 63, 3), (TR_IRQ_EN.EN.key 63, 2)] ({ Engine.cold with posts := [9] }), ((tramC [(TR_STATUS.STATE.key 63, 2), (TR_PC.PC.key 63, 64), (TR_CTRL.VBASE.key 63, 3), (TR_IRQ_EN.EN.key 63, 2)] ({ Engine.cold with posts := [9] })).wr TR_CTRL.ENTRY 0 63).wr TR_CTRL.VBASE 0 63, ((tramC [(TR_STATUS.STATE.key 63, 2), (TR_PC.PC.key 63, 64), (TR_CTRL.VBASE.key 63, 3), (TR_IRQ_EN.EN.key 63, 2)] ({ Engine.cold with posts := [9] })).wr TR_DBG_CTRL.STEP 0 63).wr TR_DBG_CTRL.DBG_NEST 0 63, ((((tramC [(TR_STATUS.STATE.key 63, 2), (TR_PC.PC.key 63, 64), (TR_CTRL.VBASE.key 63, 3), (TR_IRQ_EN.EN.key 63, 2)] ({ Engine.cold with posts := [9] })).wr TR_WDOG.LIMIT 0 63).wr TR_WDOG.EN 0 63).wr TR_WDOG.ACT 0 63).wr TR_WDOG.DBG_STOP 0 63, 63, 0x0, 2, 0x40, 0x300, { Engine.cold with posts := [9] }, by decide +kernel⟩,
   ⟨tramC [(TR_STATUS.STATE.key 63, 2), (TR_PC.PC.key 63, 64), (TR_CTRL.VBASE.key 63, 3), (TR_IRQ_EN.EN.key 63, 1)] ({ Engine.cold with posts := [9] }), ((tramC [(TR_STATUS.STATE.key 63, 2), (TR_PC.PC.key 63, 64), (TR_CTRL.VBASE.key 63, 3), (TR_IRQ_EN.EN.key 63, 1)] ({ Engine.cold with posts := [9] })).wr TR_CTRL.ENTRY 0 63).wr TR_CTRL.VBASE 0 63, ((tramC [(TR_STATUS.STATE.key 63, 2), (TR_PC.PC.key 63, 64), (TR_CTRL.VBASE.key 63, 3), (TR_IRQ_EN.EN.key 63, 1)] ({ Engine.cold with posts := [9] })).wr TR_DBG_CTRL.STEP 0 63).wr TR_DBG_CTRL.DBG_NEST 0 63, ((((tramC [(TR_STATUS.STATE.key 63, 2), (TR_PC.PC.key 63, 64), (TR_CTRL.VBASE.key 63, 3), (TR_IRQ_EN.EN.key 63, 1)] ({ Engine.cold with posts := [9] })).wr TR_WDOG.LIMIT 0 63).wr TR_WDOG.EN 0 63).wr TR_WDOG.ACT 0 63).wr TR_WDOG.DBG_STOP 0 63, 63, 0x0, 2, 0x40, 0x300, { Engine.cold with posts := [9] }, by decide +kernel⟩,
   ⟨tramC [(TR_STATUS.STATE.key 63, 1), (TR_PC.PC.key 63, 64), (TR_CTRL.VBASE.key 63, 3)] ({ Engine.cold with dbg := 8 }), ((tramC [(TR_STATUS.STATE.key 63, 1), (TR_PC.PC.key 63, 64), (TR_CTRL.VBASE.key 63, 3)] ({ Engine.cold with dbg := 8 })).wr TR_CTRL.ENTRY 0 63).wr TR_CTRL.VBASE 0 63, ((tramC [(TR_STATUS.STATE.key 63, 1), (TR_PC.PC.key 63, 64), (TR_CTRL.VBASE.key 63, 3)] ({ Engine.cold with dbg := 8 })).wr TR_DBG_CTRL.STEP 0 63).wr TR_DBG_CTRL.DBG_NEST 0 63, ((((tramC [(TR_STATUS.STATE.key 63, 1), (TR_PC.PC.key 63, 64), (TR_CTRL.VBASE.key 63, 3)] ({ Engine.cold with dbg := 8 })).wr TR_WDOG.LIMIT 0 63).wr TR_WDOG.EN 0 63).wr TR_WDOG.ACT 0 63).wr TR_WDOG.DBG_STOP 0 63, 63, 0x0, 0, 0x40, 0x300, { Engine.cold with dbg := 8 }, by decide +kernel⟩,
   ⟨tramC [(TR_STATUS.STATE.key 63, 1), (TR_STATUS.MON.key 63, 1)] ({ Engine.cold with dbg := 8 }), ((tramC [(TR_STATUS.STATE.key 63, 1), (TR_STATUS.MON.key 63, 1)] ({ Engine.cold with dbg := 8 })).wr TR_CTRL.ENTRY 0 63).wr TR_CTRL.VBASE 0 63, ((tramC [(TR_STATUS.STATE.key 63, 1), (TR_STATUS.MON.key 63, 1)] ({ Engine.cold with dbg := 8 })).wr TR_DBG_CTRL.STEP 0 63).wr TR_DBG_CTRL.DBG_NEST 0 63, ((((tramC [(TR_STATUS.STATE.key 63, 1), (TR_STATUS.MON.key 63, 1)] ({ Engine.cold with dbg := 8 })).wr TR_WDOG.LIMIT 0 63).wr TR_WDOG.EN 0 63).wr TR_WDOG.ACT 0 63).wr TR_WDOG.DBG_STOP 0 63, 63, 0x0, 0, 0x0, 0x0, { Engine.cold with dbg := 8 }, by decide +kernel⟩⟩

/-- The hypotheses of each clause of `Obligations.TramControl` can be met (2). -/
theorem test_hyps_TramControl_2 :
    (∃ (s : State) (c : State) (h : State) (u : State) (e : Nat) (v : Nat) (k : Nat) (p : Nat) (vb : Nat) (x : Engine), e < 64 ∧ x = s.eng e ∧ p = s.rd TR_PC.PC e ∧ vb = s.rd TR_CTRL.VBASE e * 256 ∧ k = (s.rd TR_IRQ_PEND.PEND e &&& 0x19) + (if x.posts = [] then 0 else 2) + (if s.sampler.noticePend.testBit e then 4 else 0) ∧ c = (s.wr TR_CTRL.ENTRY (v / 2 ^ 16 % 2 ^ 14) e).wr TR_CTRL.VBASE (v / 2 ^ 32 % 2 ^ 8) e ∧ h = (s.wr TR_DBG_CTRL.STEP (v / 2 % 2) e).wr TR_DBG_CTRL.DBG_NEST (if v / 4 % 2 = 1 then 0 else s.rd TR_DBG_CTRL.DBG_NEST e) e ∧ u = (((s.wr TR_WDOG.LIMIT (v % 2 ^ 24) e).wr TR_WDOG.EN (v / 2 ^ 24 % 2) e).wr TR_WDOG.ACT (v / 2 ^ 25 % 2) e).wr TR_WDOG.DBG_STOP (v / 2 ^ 26 % 2) e ∧ v / 4 % 2 = 0 ∧ s.rd TR_STATUS.STATE e = 0 ∧ s.rd TR_STATUS.IMEM_STALE e = 0 ∧ s.ready (30 + e / 8) = true) ∧
    (∃ (s : State) (c : State) (h : State) (u : State) (e : Nat) (v : Nat) (k : Nat) (p : Nat) (vb : Nat) (x : Engine), e < 64 ∧ x = s.eng e ∧ p = s.rd TR_PC.PC e ∧ vb = s.rd TR_CTRL.VBASE e * 256 ∧ k = (s.rd TR_IRQ_PEND.PEND e &&& 0x19) + (if x.posts = [] then 0 else 2) + (if s.sampler.noticePend.testBit e then 4 else 0) ∧ c = (s.wr TR_CTRL.ENTRY (v / 2 ^ 16 % 2 ^ 14) e).wr TR_CTRL.VBASE (v / 2 ^ 32 % 2 ^ 8) e ∧ h = (s.wr TR_DBG_CTRL.STEP (v / 2 % 2) e).wr TR_DBG_CTRL.DBG_NEST (if v / 4 % 2 = 1 then 0 else s.rd TR_DBG_CTRL.DBG_NEST e) e ∧ u = (((s.wr TR_WDOG.LIMIT (v % 2 ^ 24) e).wr TR_WDOG.EN (v / 2 ^ 24 % 2) e).wr TR_WDOG.ACT (v / 2 ^ 25 % 2) e).wr TR_WDOG.DBG_STOP (v / 2 ^ 26 % 2) e ∧ v / 4 % 2 = 0 ∧ (s.rd TR_STATUS.STATE e ≠ 0 ∨ s.rd TR_STATUS.IMEM_STALE e = 1 ∨ s.ready (30 + e / 8) = false)) ∧
    (∃ (s : State) (c : State) (h : State) (u : State) (e : Nat) (v : Nat) (k : Nat) (p : Nat) (vb : Nat) (x : Engine), e < 64 ∧ x = s.eng e ∧ p = s.rd TR_PC.PC e ∧ vb = s.rd TR_CTRL.VBASE e * 256 ∧ k = (s.rd TR_IRQ_PEND.PEND e &&& 0x19) + (if x.posts = [] then 0 else 2) + (if s.sampler.noticePend.testBit e then 4 else 0) ∧ c = (s.wr TR_CTRL.ENTRY (v / 2 ^ 16 % 2 ^ 14) e).wr TR_CTRL.VBASE (v / 2 ^ 32 % 2 ^ 8) e ∧ h = (s.wr TR_DBG_CTRL.STEP (v / 2 % 2) e).wr TR_DBG_CTRL.DBG_NEST (if v / 4 % 2 = 1 then 0 else s.rd TR_DBG_CTRL.DBG_NEST e) e ∧ u = (((s.wr TR_WDOG.LIMIT (v % 2 ^ 24) e).wr TR_WDOG.EN (v / 2 ^ 24 % 2) e).wr TR_WDOG.ACT (v / 2 ^ 25 % 2) e).wr TR_WDOG.DBG_STOP (v / 2 ^ 26 % 2) e ∧ v / 4 % 2 = 0 ∧ s.rd TR_STATUS.STATE e = 0 ∧ s.rd TR_STATUS.IMEM_STALE e = 0 ∧ s.ready (30 + e / 8) = true ∧ x.ran = true) ∧
    (∃ (s : State) (c : State) (h : State) (u : State) (e : Nat) (v : Nat) (k : Nat) (p : Nat) (vb : Nat) (x : Engine), e < 64 ∧ x = s.eng e ∧ p = s.rd TR_PC.PC e ∧ vb = s.rd TR_CTRL.VBASE e * 256 ∧ k = (s.rd TR_IRQ_PEND.PEND e &&& 0x19) + (if x.posts = [] then 0 else 2) + (if s.sampler.noticePend.testBit e then 4 else 0) ∧ c = (s.wr TR_CTRL.ENTRY (v / 2 ^ 16 % 2 ^ 14) e).wr TR_CTRL.VBASE (v / 2 ^ 32 % 2 ^ 8) e ∧ h = (s.wr TR_DBG_CTRL.STEP (v / 2 % 2) e).wr TR_DBG_CTRL.DBG_NEST (if v / 4 % 2 = 1 then 0 else s.rd TR_DBG_CTRL.DBG_NEST e) e ∧ u = (((s.wr TR_WDOG.LIMIT (v % 2 ^ 24) e).wr TR_WDOG.EN (v / 2 ^ 24 % 2) e).wr TR_WDOG.ACT (v / 2 ^ 25 % 2) e).wr TR_WDOG.DBG_STOP (v / 2 ^ 26 % 2) e ∧ v / 4 % 2 = 0 ∧ (s.rd TR_STATUS.STATE e ≠ 0 ∨ s.rd TR_STATUS.IMEM_STALE e = 1 ∨ s.ready (30 + e / 8) = false ∨ x.ran = false)) ∧
    (∃ (s : State) (c : State) (h : State) (u : State) (e : Nat) (v : Nat) (k : Nat) (p : Nat) (vb : Nat) (x : Engine), e < 64 ∧ x = s.eng e ∧ p = s.rd TR_PC.PC e ∧ vb = s.rd TR_CTRL.VBASE e * 256 ∧ k = (s.rd TR_IRQ_PEND.PEND e &&& 0x19) + (if x.posts = [] then 0 else 2) + (if s.sampler.noticePend.testBit e then 4 else 0) ∧ c = (s.wr TR_CTRL.ENTRY (v / 2 ^ 16 % 2 ^ 14) e).wr TR_CTRL.VBASE (v / 2 ^ 32 % 2 ^ 8) e ∧ h = (s.wr TR_DBG_CTRL.STEP (v / 2 % 2) e).wr TR_DBG_CTRL.DBG_NEST (if v / 4 % 2 = 1 then 0 else s.rd TR_DBG_CTRL.DBG_NEST e) e ∧ u = (((s.wr TR_WDOG.LIMIT (v % 2 ^ 24) e).wr TR_WDOG.EN (v / 2 ^ 24 % 2) e).wr TR_WDOG.ACT (v / 2 ^ 25 % 2) e).wr TR_WDOG.DBG_STOP (v / 2 ^ 26 % 2) e ∧ v / 4 % 2 = 0 ∧ s.rd TR_STATUS.STATE e = 2) ∧
    (∃ (s : State) (c : State) (h : State) (u : State) (e : Nat) (v : Nat) (k : Nat) (p : Nat) (vb : Nat) (x : Engine), e < 64 ∧ x = s.eng e ∧ p = s.rd TR_PC.PC e ∧ vb = s.rd TR_CTRL.VBASE e * 256 ∧ k = (s.rd TR_IRQ_PEND.PEND e &&& 0x19) + (if x.posts = [] then 0 else 2) + (if s.sampler.noticePend.testBit e then 4 else 0) ∧ c = (s.wr TR_CTRL.ENTRY (v / 2 ^ 16 % 2 ^ 14) e).wr TR_CTRL.VBASE (v / 2 ^ 32 % 2 ^ 8) e ∧ h = (s.wr TR_DBG_CTRL.STEP (v / 2 % 2) e).wr TR_DBG_CTRL.DBG_NEST (if v / 4 % 2 = 1 then 0 else s.rd TR_DBG_CTRL.DBG_NEST e) e ∧ u = (((s.wr TR_WDOG.LIMIT (v % 2 ^ 24) e).wr TR_WDOG.EN (v / 2 ^ 24 % 2) e).wr TR_WDOG.ACT (v / 2 ^ 25 % 2) e).wr TR_WDOG.DBG_STOP (v / 2 ^ 26 % 2) e ∧ v / 4 % 2 = 0 ∧ s.rd TR_STATUS.STATE e = 1 ∧ x.eligible = true) :=
  ⟨⟨tramC [(FM_READY.READY.key, 2 ^ 64 - 1), (TR_PC.PC.key 63, 64), (TR_STATUS.IMEM_STALE.key 63, 0)] (g30), ((tramC [(FM_READY.READY.key, 2 ^ 64 - 1), (TR_PC.PC.key 63, 64), (TR_STATUS.IMEM_STALE.key 63, 0)] (g30)).wr TR_CTRL.ENTRY 16383 63).wr TR_CTRL.VBASE 3 63, ((tramC [(FM_READY.READY.key, 2 ^ 64 - 1), (TR_PC.PC.key 63, 64), (TR_STATUS.IMEM_STALE.key 63, 0)] (g30)).wr TR_DBG_CTRL.STEP 0 63).wr TR_DBG_CTRL.DBG_NEST 0 63, ((((tramC [(FM_READY.READY.key, 2 ^ 64 - 1), (TR_PC.PC.key 63, 64), (TR_STATUS.IMEM_STALE.key 63, 0)] (g30)).wr TR_WDOG.LIMIT 16711681 63).wr TR_WDOG.EN 1 63).wr TR_WDOG.ACT 1 63).wr TR_WDOG.DBG_STOP 1 63, 63, 0x33fff0001, 0, 0x40, 0x0, g30, by decide +kernel⟩,
   ⟨tramC [(TR_PC.PC.key 63, 64)] (g30), ((tramC [(TR_PC.PC.key 63, 64)] (g30)).wr TR_CTRL.ENTRY 16383 63).wr TR_CTRL.VBASE 3 63, ((tramC [(TR_PC.PC.key 63, 64)] (g30)).wr TR_DBG_CTRL.STEP 0 63).wr TR_DBG_CTRL.DBG_NEST 0 63, ((((tramC [(TR_PC.PC.key 63, 64)] (g30)).wr TR_WDOG.LIMIT 16711681 63).wr TR_WDOG.EN 1 63).wr TR_WDOG.ACT 1 63).wr TR_WDOG.DBG_STOP 1 63, 63, 0x33fff0001, 0, 0x40, 0x0, g30, by decide +kernel⟩,
   ⟨tramC [(FM_READY.READY.key, 2 ^ 64 - 1), (TR_PC.PC.key 63, 64), (TR_STATUS.IMEM_STALE.key 63, 0)] ({ Engine.cold with ran := true }), ((tramC [(FM_READY.READY.key, 2 ^ 64 - 1), (TR_PC.PC.key 63, 64), (TR_STATUS.IMEM_STALE.key 63, 0)] ({ Engine.cold with ran := true })).wr TR_CTRL.ENTRY 16383 63).wr TR_CTRL.VBASE 3 63, ((tramC [(FM_READY.READY.key, 2 ^ 64 - 1), (TR_PC.PC.key 63, 64), (TR_STATUS.IMEM_STALE.key 63, 0)] ({ Engine.cold with ran := true })).wr TR_DBG_CTRL.STEP 1 63).wr TR_DBG_CTRL.DBG_NEST 0 63, ((((tramC [(FM_READY.READY.key, 2 ^ 64 - 1), (TR_PC.PC.key 63, 64), (TR_STATUS.IMEM_STALE.key 63, 0)] ({ Engine.cold with ran := true })).wr TR_WDOG.LIMIT 16711682 63).wr TR_WDOG.EN 1 63).wr TR_WDOG.ACT 1 63).wr TR_WDOG.DBG_STOP 1 63, 63, 0x33fff0002, 0, 0x40, 0x0, { Engine.cold with ran := true }, by decide +kernel⟩,
   ⟨tramC [(FM_READY.READY.key, 2 ^ 64 - 1), (TR_PC.PC.key 63, 64), (TR_STATUS.IMEM_STALE.key 63, 0)] (g30), ((tramC [(FM_READY.READY.key, 2 ^ 64 - 1), (TR_PC.PC.key 63, 64), (TR_STATUS.IMEM_STALE.key 63, 0)] (g30)).wr TR_CTRL.ENTRY 16383 63).wr TR_CTRL.VBASE 3 63, ((tramC [(FM_READY.READY.key, 2 ^ 64 - 1), (TR_PC.PC.key 63, 64), (TR_STATUS.IMEM_STALE.key 63, 0)] (g30)).wr TR_DBG_CTRL.STEP 1 63).wr TR_DBG_CTRL.DBG_NEST 0 63, ((((tramC [(FM_READY.READY.key, 2 ^ 64 - 1), (TR_PC.PC.key 63, 64), (TR_STATUS.IMEM_STALE.key 63, 0)] (g30)).wr TR_WDOG.LIMIT 16711682 63).wr TR_WDOG.EN 1 63).wr TR_WDOG.ACT 1 63).wr TR_WDOG.DBG_STOP 1 63, 63, 0x33fff0002, 0, 0x40, 0x0, g30, by decide +kernel⟩,
   ⟨tramC [(TR_STATUS.STATE.key 63, 2), (TR_PC.PC.key 63, 64)] (g30), ((tramC [(TR_STATUS.STATE.key 63, 2), (TR_PC.PC.key 63, 64)] (g30)).wr TR_CTRL.ENTRY 16383 63).wr TR_CTRL.VBASE 3 63, ((tramC [(TR_STATUS.STATE.key 63, 2), (TR_PC.PC.key 63, 64)] (g30)).wr TR_DBG_CTRL.STEP 1 63).wr TR_DBG_CTRL.DBG_NEST 0 63, ((((tramC [(TR_STATUS.STATE.key 63, 2), (TR_PC.PC.key 63, 64)] (g30)).wr TR_WDOG.LIMIT 16711683 63).wr TR_WDOG.EN 1 63).wr TR_WDOG.ACT 1 63).wr TR_WDOG.DBG_STOP 1 63, 63, 0x33fff0003, 0, 0x40, 0x0, g30, by decide +kernel⟩,
   ⟨tramC [(TR_STATUS.STATE.key 63, 1), (TR_PC.PC.key 63, 64)] (g30), ((tramC [(TR_STATUS.STATE.key 63, 1), (TR_PC.PC.key 63, 64)] (g30)).wr TR_CTRL.ENTRY 16383 63).wr TR_CTRL.VBASE 3 63, ((tramC [(TR_STATUS.STATE.key 63, 1), (TR_PC.PC.key 63, 64)] (g30)).wr TR_DBG_CTRL.STEP 1 63).wr TR_DBG_CTRL.DBG_NEST 0 63, ((((tramC [(TR_STATUS.STATE.key 63, 1), (TR_PC.PC.key 63, 64)] (g30)).wr TR_WDOG.LIMIT 16711683 63).wr TR_WDOG.EN 1 63).wr TR_WDOG.ACT 1 63).wr TR_WDOG.DBG_STOP 1 63, 63, 0x33fff0003, 0, 0x40, 0x0, g30, by decide +kernel⟩⟩

/-- The hypotheses of each clause of `Obligations.TramControl` can be met (3). -/
theorem test_hyps_TramControl_3 :
    (∃ (s : State) (c : State) (h : State) (u : State) (e : Nat) (v : Nat) (k : Nat) (p : Nat) (vb : Nat) (x : Engine), e < 64 ∧ x = s.eng e ∧ p = s.rd TR_PC.PC e ∧ vb = s.rd TR_CTRL.VBASE e * 256 ∧ k = (s.rd TR_IRQ_PEND.PEND e &&& 0x19) + (if x.posts = [] then 0 else 2) + (if s.sampler.noticePend.testBit e then 4 else 0) ∧ c = (s.wr TR_CTRL.ENTRY (v / 2 ^ 16 % 2 ^ 14) e).wr TR_CTRL.VBASE (v / 2 ^ 32 % 2 ^ 8) e ∧ h = (s.wr TR_DBG_CTRL.STEP (v / 2 % 2) e).wr TR_DBG_CTRL.DBG_NEST (if v / 4 % 2 = 1 then 0 else s.rd TR_DBG_CTRL.DBG_NEST e) e ∧ u = (((s.wr TR_WDOG.LIMIT (v % 2 ^ 24) e).wr TR_WDOG.EN (v / 2 ^ 24 % 2) e).wr TR_WDOG.ACT (v / 2 ^ 25 % 2) e).wr TR_WDOG.DBG_STOP (v / 2 ^ 26 % 2) e ∧ v / 4 % 2 = 0 ∧ s.rd TR_STATUS.STATE e = 1 ∧ x.eligible = false) ∧
    (∃ (s : State) (c : State) (h : State) (u : State) (e : Nat) (v : Nat) (k : Nat) (p : Nat) (vb : Nat) (x : Engine), e < 64 ∧ x = s.eng e ∧ p = s.rd TR_PC.PC e ∧ vb = s.rd TR_CTRL.VBASE e * 256 ∧ k = (s.rd TR_IRQ_PEND.PEND e &&& 0x19) + (if x.posts = [] then 0 else 2) + (if s.sampler.noticePend.testBit e then 4 else 0) ∧ c = (s.wr TR_CTRL.ENTRY (v / 2 ^ 16 % 2 ^ 14) e).wr TR_CTRL.VBASE (v / 2 ^ 32 % 2 ^ 8) e ∧ h = (s.wr TR_DBG_CTRL.STEP (v / 2 % 2) e).wr TR_DBG_CTRL.DBG_NEST (if v / 4 % 2 = 1 then 0 else s.rd TR_DBG_CTRL.DBG_NEST e) e ∧ u = (((s.wr TR_WDOG.LIMIT (v % 2 ^ 24) e).wr TR_WDOG.EN (v / 2 ^ 24 % 2) e).wr TR_WDOG.ACT (v / 2 ^ 25 % 2) e).wr TR_WDOG.DBG_STOP (v / 2 ^ 26 % 2) e ∧ v / 4 % 2 = 0 ∧ (s.rd TR_STATUS.STATE e = 0 ∨ s.rd TR_STATUS.STATE e = 3)) ∧
    (∃ (s : State) (c : State) (h : State) (u : State) (e : Nat) (v : Nat) (k : Nat) (p : Nat) (vb : Nat) (x : Engine), e < 64 ∧ x = s.eng e ∧ p = s.rd TR_PC.PC e ∧ vb = s.rd TR_CTRL.VBASE e * 256 ∧ k = (s.rd TR_IRQ_PEND.PEND e &&& 0x19) + (if x.posts = [] then 0 else 2) + (if s.sampler.noticePend.testBit e then 4 else 0) ∧ c = (s.wr TR_CTRL.ENTRY (v / 2 ^ 16 % 2 ^ 14) e).wr TR_CTRL.VBASE (v / 2 ^ 32 % 2 ^ 8) e ∧ h = (s.wr TR_DBG_CTRL.STEP (v / 2 % 2) e).wr TR_DBG_CTRL.DBG_NEST (if v / 4 % 2 = 1 then 0 else s.rd TR_DBG_CTRL.DBG_NEST e) e ∧ u = (((s.wr TR_WDOG.LIMIT (v % 2 ^ 24) e).wr TR_WDOG.EN (v / 2 ^ 24 % 2) e).wr TR_WDOG.ACT (v / 2 ^ 25 % 2) e).wr TR_WDOG.DBG_STOP (v / 2 ^ 26 % 2) e ∧ v % 4 = 0) ∧
    (∃ (s : State) (c : State) (h : State) (u : State) (e : Nat) (v : Nat) (k : Nat) (p : Nat) (vb : Nat) (x : Engine), e < 64 ∧ x = s.eng e ∧ p = s.rd TR_PC.PC e ∧ vb = s.rd TR_CTRL.VBASE e * 256 ∧ k = (s.rd TR_IRQ_PEND.PEND e &&& 0x19) + (if x.posts = [] then 0 else 2) + (if s.sampler.noticePend.testBit e then 4 else 0) ∧ c = (s.wr TR_CTRL.ENTRY (v / 2 ^ 16 % 2 ^ 14) e).wr TR_CTRL.VBASE (v / 2 ^ 32 % 2 ^ 8) e ∧ h = (s.wr TR_DBG_CTRL.STEP (v / 2 % 2) e).wr TR_DBG_CTRL.DBG_NEST (if v / 4 % 2 = 1 then 0 else s.rd TR_DBG_CTRL.DBG_NEST e) e ∧ u = (((s.wr TR_WDOG.LIMIT (v % 2 ^ 24) e).wr TR_WDOG.EN (v / 2 ^ 24 % 2) e).wr TR_WDOG.ACT (v / 2 ^ 25 % 2) e).wr TR_WDOG.DBG_STOP (v / 2 ^ 26 % 2) e ∧ v % 4 = 1 ∧ s.rd TR_STATUS.IMEM_STALE e = 1) ∧
    (∃ (s : State) (c : State) (h : State) (u : State) (e : Nat) (v : Nat) (k : Nat) (p : Nat) (vb : Nat) (x : Engine), e < 64 ∧ x = s.eng e ∧ p = s.rd TR_PC.PC e ∧ vb = s.rd TR_CTRL.VBASE e * 256 ∧ k = (s.rd TR_IRQ_PEND.PEND e &&& 0x19) + (if x.posts = [] then 0 else 2) + (if s.sampler.noticePend.testBit e then 4 else 0) ∧ c = (s.wr TR_CTRL.ENTRY (v / 2 ^ 16 % 2 ^ 14) e).wr TR_CTRL.VBASE (v / 2 ^ 32 % 2 ^ 8) e ∧ h = (s.wr TR_DBG_CTRL.STEP (v / 2 % 2) e).wr TR_DBG_CTRL.DBG_NEST (if v / 4 % 2 = 1 then 0 else s.rd TR_DBG_CTRL.DBG_NEST e) e ∧ u = (((s.wr TR_WDOG.LIMIT (v % 2 ^ 24) e).wr TR_WDOG.EN (v / 2 ^ 24 % 2) e).wr TR_WDOG.ACT (v / 2 ^ 25 % 2) e).wr TR_WDOG.DBG_STOP (v / 2 ^ 26 % 2) e ∧ (s.rd TR_STATUS.STATE e = 3 ∨ s.rd TR_STATUS.MON e = 1)) ∧
    (∃ (s : State) (c : State) (h : State) (u : State) (e : Nat) (v : Nat) (k : Nat) (p : Nat) (vb : Nat) (x : Engine), e < 64 ∧ x = s.eng e ∧ p = s.rd TR_PC.PC e ∧ vb = s.rd TR_CTRL.VBASE e * 256 ∧ k = (s.rd TR_IRQ_PEND.PEND e &&& 0x19) + (if x.posts = [] then 0 else 2) + (if s.sampler.noticePend.testBit e then 4 else 0) ∧ c = (s.wr TR_CTRL.ENTRY (v / 2 ^ 16 % 2 ^ 14) e).wr TR_CTRL.VBASE (v / 2 ^ 32 % 2 ^ 8) e ∧ h = (s.wr TR_DBG_CTRL.STEP (v / 2 % 2) e).wr TR_DBG_CTRL.DBG_NEST (if v / 4 % 2 = 1 then 0 else s.rd TR_DBG_CTRL.DBG_NEST e) e ∧ u = (((s.wr TR_WDOG.LIMIT (v % 2 ^ 24) e).wr TR_WDOG.EN (v / 2 ^ 24 % 2) e).wr TR_WDOG.ACT (v / 2 ^ 25 % 2) e).wr TR_WDOG.DBG_STOP (v / 2 ^ 26 % 2) e ∧ s.rd TR_STATUS.STATE e < 2 ∧ s.rd TR_STATUS.MON e = 0) :=
  ⟨⟨tramC [(TR_STATUS.STATE.key 63, 1), (TR_PC.PC.key 63, 64)] ({ Engine.cold with gOld := [(3, 4)] }), ((tramC [(TR_STATUS.STATE.key 63, 1), (TR_PC.PC.key 63, 64)] ({ Engine.cold with gOld := [(3, 4)] })).wr TR_CTRL.ENTRY 16383 63).wr TR_CTRL.VBASE 3 63, ((tramC [(TR_STATUS.STATE.key 63, 1), (TR_PC.PC.key 63, 64)] ({ Engine.cold with gOld := [(3, 4)] })).wr TR_DBG_CTRL.STEP 1 63).wr TR_DBG_CTRL.DBG_NEST 0 63, ((((tramC [(TR_STATUS.STATE.key 63, 1), (TR_PC.PC.key 63, 64)] ({ Engine.cold with gOld := [(3, 4)] })).wr TR_WDOG.LIMIT 16711683 63).wr TR_WDOG.EN 1 63).wr TR_WDOG.ACT 1 63).wr TR_WDOG.DBG_STOP 1 63, 63, 0x33fff0003, 0, 0x40, 0x0, { Engine.cold with gOld := [(3, 4)] }, by decide +kernel⟩,
   ⟨tramC [(TR_STATUS.STATE.key 63, 3), (TR_PC.PC.key 63, 64)] (g30), ((tramC [(TR_STATUS.STATE.key 63, 3), (TR_PC.PC.key 63, 64)] (g30)).wr TR_CTRL.ENTRY 16383 63).wr TR_CTRL.VBASE 3 63, ((tramC [(TR_STATUS.STATE.key 63, 3), (TR_PC.PC.key 63, 64)] (g30)).wr TR_DBG_CTRL.STEP 1 63).wr TR_DBG_CTRL.DBG_NEST 0 63, ((((tramC [(TR_STATUS.STATE.key 63, 3), (TR_PC.PC.key 63, 64)] (g30)).wr TR_WDOG.LIMIT 16711683 63).wr TR_WDOG.EN 1 63).wr TR_WDOG.ACT 1 63).wr TR_WDOG.DBG_STOP 1 63, 63, 0x33fff0003, 0, 0x40, 0x0, g30, by decide +kernel⟩,
   ⟨tramC [(TR_PC.PC.key 63, 64)] (g30), ((tramC [(TR_PC.PC.key 63, 64)] (g30)).wr TR_CTRL.ENTRY 16383 63).wr TR_CTRL.VBASE 3 63, ((tramC [(TR_PC.PC.key 63, 64)] (g30)).wr TR_DBG_CTRL.STEP 0 63).wr TR_DBG_CTRL.DBG_NEST 0 63, ((((tramC [(TR_PC.PC.key 63, 64)] (g30)).wr TR_WDOG.LIMIT 16711684 63).wr TR_WDOG.EN 1 63).wr TR_WDOG.ACT 1 63).wr TR_WDOG.DBG_STOP 1 63, 63, 0x33fff0004, 0, 0x40, 0x0, g30, by decide +kernel⟩,
   ⟨tramC [(TR_PC.PC.key 63, 64)] (g30), ((tramC [(TR_PC.PC.key 63, 64)] (g30)).wr TR_CTRL.ENTRY 16383 63).wr TR_CTRL.VBASE 3 63, ((tramC [(TR_PC.PC.key 63, 64)] (g30)).wr TR_DBG_CTRL.STEP 0 63).wr TR_DBG_CTRL.DBG_NEST 0 63, ((((tramC [(TR_PC.PC.key 63, 64)] (g30)).wr TR_WDOG.LIMIT 16711685 63).wr TR_WDOG.EN 1 63).wr TR_WDOG.ACT 1 63).wr TR_WDOG.DBG_STOP 1 63, 63, 0x33fff0005, 0, 0x40, 0x0, g30, by decide +kernel⟩,
   ⟨tramC [(TR_STATUS.STATE.key 63, 3), (TR_DBG_CTRL.DBG_NEST.key 63, 1)] (g30), ((tramC [(TR_STATUS.STATE.key 63, 3), (TR_DBG_CTRL.DBG_NEST.key 63, 1)] (g30)).wr TR_CTRL.ENTRY 0 63).wr TR_CTRL.VBASE 0 63, ((tramC [(TR_STATUS.STATE.key 63, 3), (TR_DBG_CTRL.DBG_NEST.key 63, 1)] (g30)).wr TR_DBG_CTRL.STEP 1 63).wr TR_DBG_CTRL.DBG_NEST 0 63, ((((tramC [(TR_STATUS.STATE.key 63, 3), (TR_DBG_CTRL.DBG_NEST.key 63, 1)] (g30)).wr TR_WDOG.LIMIT 7 63).wr TR_WDOG.EN 0 63).wr TR_WDOG.ACT 0 63).wr TR_WDOG.DBG_STOP 0 63, 63, 0x7, 0, 0x0, 0x0, g30, by decide +kernel⟩,
   ⟨tramC [(TR_STATUS.STATE.key 63, 1), (TR_DBG_CTRL.DBG_NEST.key 63, 1)] (g30), ((tramC [(TR_STATUS.STATE.key 63, 1), (TR_DBG_CTRL.DBG_NEST.key 63, 1)] (g30)).wr TR_CTRL.ENTRY 0 63).wr TR_CTRL.VBASE 0 63, ((tramC [(TR_STATUS.STATE.key 63, 1), (TR_DBG_CTRL.DBG_NEST.key 63, 1)] (g30)).wr TR_DBG_CTRL.STEP 1 63).wr TR_DBG_CTRL.DBG_NEST 1 63, ((((tramC [(TR_STATUS.STATE.key 63, 1), (TR_DBG_CTRL.DBG_NEST.key 63, 1)] (g30)).wr TR_WDOG.LIMIT 3 63).wr TR_WDOG.EN 0 63).wr TR_WDOG.ACT 0 63).wr TR_WDOG.DBG_STOP 0 63, 63, 0x3, 0, 0x0, 0x0, g30, by decide +kernel⟩⟩

/-- The hypotheses of each clause of `Obligations.TramControl` can be met (4). -/
theorem test_hyps_TramControl_4 :
    (∃ (s : State) (c : State) (h : State) (u : State) (e : Nat) (v : Nat) (k : Nat) (p : Nat) (vb : Nat) (x : Engine), e < 64 ∧ x = s.eng e ∧ p = s.rd TR_PC.PC e ∧ vb = s.rd TR_CTRL.VBASE e * 256 ∧ k = (s.rd TR_IRQ_PEND.PEND e &&& 0x19) + (if x.posts = [] then 0 else 2) + (if s.sampler.noticePend.testBit e then 4 else 0) ∧ c = (s.wr TR_CTRL.ENTRY (v / 2 ^ 16 % 2 ^ 14) e).wr TR_CTRL.VBASE (v / 2 ^ 32 % 2 ^ 8) e ∧ h = (s.wr TR_DBG_CTRL.STEP (v / 2 % 2) e).wr TR_DBG_CTRL.DBG_NEST (if v / 4 % 2 = 1 then 0 else s.rd TR_DBG_CTRL.DBG_NEST e) e ∧ u = (((s.wr TR_WDOG.LIMIT (v % 2 ^ 24) e).wr TR_WDOG.EN (v / 2 ^ 24 % 2) e).wr TR_WDOG.ACT (v / 2 ^ 25 % 2) e).wr TR_WDOG.DBG_STOP (v / 2 ^ 26 % 2) e ∧ s.rd TR_STATUS.STATE e = 2 ∧ s.rd TR_STATUS.MON e = 0 ∧ s.bpAt e p = false) ∧
    (∃ (s : State) (c : State) (h : State) (u : State) (e : Nat) (v : Nat) (k : Nat) (p : Nat) (vb : Nat) (x : Engine), e < 64 ∧ x = s.eng e ∧ p = s.rd TR_PC.PC e ∧ vb = s.rd TR_CTRL.VBASE e * 256 ∧ k = (s.rd TR_IRQ_PEND.PEND e &&& 0x19) + (if x.posts = [] then 0 else 2) + (if s.sampler.noticePend.testBit e then 4 else 0) ∧ c = (s.wr TR_CTRL.ENTRY (v / 2 ^ 16 % 2 ^ 14) e).wr TR_CTRL.VBASE (v / 2 ^ 32 % 2 ^ 8) e ∧ h = (s.wr TR_DBG_CTRL.STEP (v / 2 % 2) e).wr TR_DBG_CTRL.DBG_NEST (if v / 4 % 2 = 1 then 0 else s.rd TR_DBG_CTRL.DBG_NEST e) e ∧ u = (((s.wr TR_WDOG.LIMIT (v % 2 ^ 24) e).wr TR_WDOG.EN (v / 2 ^ 24 % 2) e).wr TR_WDOG.ACT (v / 2 ^ 25 % 2) e).wr TR_WDOG.DBG_STOP (v / 2 ^ 26 % 2) e ∧ s.rd TR_WDOG.EN e = 1 ∧ s.rd TR_STATUS.STATE e = 1 ∧ s.rd TR_STATUS.MON e = 0 ∧ s.rd TR_WDOG.ACT e = 1 ∧ x.warned = false) ∧
    (∃ (s : State) (c : State) (h : State) (u : State) (e : Nat) (v : Nat) (k : Nat) (p : Nat) (vb : Nat) (x : Engine), e < 64 ∧ x = s.eng e ∧ p = s.rd TR_PC.PC e ∧ vb = s.rd TR_CTRL.VBASE e * 256 ∧ k = (s.rd TR_IRQ_PEND.PEND e &&& 0x19) + (if x.posts = [] then 0 else 2) + (if s.sampler.noticePend.testBit e then 4 else 0) ∧ c = (s.wr TR_CTRL.ENTRY (v / 2 ^ 16 % 2 ^ 14) e).wr TR_CTRL.VBASE (v / 2 ^ 32 % 2 ^ 8) e ∧ h = (s.wr TR_DBG_CTRL.STEP (v / 2 % 2) e).wr TR_DBG_CTRL.DBG_NEST (if v / 4 % 2 = 1 then 0 else s.rd TR_DBG_CTRL.DBG_NEST e) e ∧ u = (((s.wr TR_WDOG.LIMIT (v % 2 ^ 24) e).wr TR_WDOG.EN (v / 2 ^ 24 % 2) e).wr TR_WDOG.ACT (v / 2 ^ 25 % 2) e).wr TR_WDOG.DBG_STOP (v / 2 ^ 26 % 2) e ∧ s.rd TR_WDOG.EN e = 1 ∧ s.rd TR_STATUS.STATE e = 2 ∧ s.rd TR_WDOG.DBG_STOP e = 0 ∧ (s.rd TR_WDOG.ACT e = 0 ∨ x.warned = true) ∧ s.clk.engineReset = none) ∧
    (∃ (s : State) (c : State) (h : State) (u : State) (e : Nat) (v : Nat) (k : Nat) (p : Nat) (vb : Nat) (x : Engine), e < 64 ∧ x = s.eng e ∧ p = s.rd TR_PC.PC e ∧ vb = s.rd TR_CTRL.VBASE e * 256 ∧ k = (s.rd TR_IRQ_PEND.PEND e &&& 0x19) + (if x.posts = [] then 0 else 2) + (if s.sampler.noticePend.testBit e then 4 else 0) ∧ c = (s.wr TR_CTRL.ENTRY (v / 2 ^ 16 % 2 ^ 14) e).wr TR_CTRL.VBASE (v / 2 ^ 32 % 2 ^ 8) e ∧ h = (s.wr TR_DBG_CTRL.STEP (v / 2 % 2) e).wr TR_DBG_CTRL.DBG_NEST (if v / 4 % 2 = 1 then 0 else s.rd TR_DBG_CTRL.DBG_NEST e) e ∧ u = (((s.wr TR_WDOG.LIMIT (v % 2 ^ 24) e).wr TR_WDOG.EN (v / 2 ^ 24 % 2) e).wr TR_WDOG.ACT (v / 2 ^ 25 % 2) e).wr TR_WDOG.DBG_STOP (v / 2 ^ 26 % 2) e ∧ (s.rd TR_WDOG.EN e = 0 ∨ s.rd TR_STATUS.STATE e = 0 ∨ s.rd TR_STATUS.STATE e = 3)) ∧
    (∃ (s : State) (c : State) (h : State) (u : State) (e : Nat) (v : Nat) (k : Nat) (p : Nat) (vb : Nat) (x : Engine), e < 64 ∧ x = s.eng e ∧ p = s.rd TR_PC.PC e ∧ vb = s.rd TR_CTRL.VBASE e * 256 ∧ k = (s.rd TR_IRQ_PEND.PEND e &&& 0x19) + (if x.posts = [] then 0 else 2) + (if s.sampler.noticePend.testBit e then 4 else 0) ∧ c = (s.wr TR_CTRL.ENTRY (v / 2 ^ 16 % 2 ^ 14) e).wr TR_CTRL.VBASE (v / 2 ^ 32 % 2 ^ 8) e ∧ h = (s.wr TR_DBG_CTRL.STEP (v / 2 % 2) e).wr TR_DBG_CTRL.DBG_NEST (if v / 4 % 2 = 1 then 0 else s.rd TR_DBG_CTRL.DBG_NEST e) e ∧ u = (((s.wr TR_WDOG.LIMIT (v % 2 ^ 24) e).wr TR_WDOG.EN (v / 2 ^ 24 % 2) e).wr TR_WDOG.ACT (v / 2 ^ 25 % 2) e).wr TR_WDOG.DBG_STOP (v / 2 ^ 26 % 2) e) ∧
    (∃ (s : State) (c : State) (h : State) (u : State) (e : Nat) (v : Nat) (k : Nat) (p : Nat) (vb : Nat) (x : Engine), e < 64 ∧ x = s.eng e ∧ p = s.rd TR_PC.PC e ∧ vb = s.rd TR_CTRL.VBASE e * 256 ∧ k = (s.rd TR_IRQ_PEND.PEND e &&& 0x19) + (if x.posts = [] then 0 else 2) + (if s.sampler.noticePend.testBit e then 4 else 0) ∧ c = (s.wr TR_CTRL.ENTRY (v / 2 ^ 16 % 2 ^ 14) e).wr TR_CTRL.VBASE (v / 2 ^ 32 % 2 ^ 8) e ∧ h = (s.wr TR_DBG_CTRL.STEP (v / 2 % 2) e).wr TR_DBG_CTRL.DBG_NEST (if v / 4 % 2 = 1 then 0 else s.rd TR_DBG_CTRL.DBG_NEST e) e ∧ u = (((s.wr TR_WDOG.LIMIT (v % 2 ^ 24) e).wr TR_WDOG.EN (v / 2 ^ 24 % 2) e).wr TR_WDOG.ACT (v / 2 ^ 25 % 2) e).wr TR_WDOG.DBG_STOP (v / 2 ^ 26 % 2) e ∧ v % 2 ^ 24 ≠ 0) :=
  ⟨⟨tramC [(TR_STATUS.STATE.key 63, 2), (TR_PC.PC.key 63, 64), (TR_CTRL.VBASE.key 63, 3)] (g30), ((tramC [(TR_STATUS.STATE.key 63, 2), (TR_PC.PC.key 63, 64), (TR_CTRL.VBASE.key 63, 3)] (g30)).wr TR_CTRL.ENTRY 0 63).wr TR_CTRL.VBASE 0 63, ((tramC [(TR_STATUS.STATE.key 63, 2), (TR_PC.PC.key 63, 64), (TR_CTRL.VBASE.key 63, 3)] (g30)).wr TR_DBG_CTRL.STEP 1 63).wr TR_DBG_CTRL.DBG_NEST 0 63, ((((tramC [(TR_STATUS.STATE.key 63, 2), (TR_PC.PC.key 63, 64), (TR_CTRL.VBASE.key 63, 3)] (g30)).wr TR_WDOG.LIMIT 3 63).wr TR_WDOG.EN 0 63).wr TR_WDOG.ACT 0 63).wr TR_WDOG.DBG_STOP 0 63, 63, 0x3, 0, 0x40, 0x300, g30, by decide +kernel⟩,
   ⟨tramC [(TR_STATUS.STATE.key 63, 1), (TR_WDOG.EN.key 63, 1), (TR_WDOG.ACT.key 63, 1)] (g30), ((tramC [(TR_STATUS.STATE.key 63, 1), (TR_WDOG.EN.key 63, 1), (TR_WDOG.ACT.key 63, 1)] (g30)).wr TR_CTRL.ENTRY 0 63).wr TR_CTRL.VBASE 0 63, ((tramC [(TR_STATUS.STATE.key 63, 1), (TR_WDOG.EN.key 63, 1), (TR_WDOG.ACT.key 63, 1)] (g30)).wr TR_DBG_CTRL.STEP 0 63).wr TR_DBG_CTRL.DBG_NEST 0 63, ((((tramC [(TR_STATUS.STATE.key 63, 1), (TR_WDOG.EN.key 63, 1), (TR_WDOG.ACT.key 63, 1)] (g30)).wr TR_WDOG.LIMIT 0 63).wr TR_WDOG.EN 0 63).wr TR_WDOG.ACT 0 63).wr TR_WDOG.DBG_STOP 0 63, 63, 0x0, 0, 0x0, 0x0, g30, by decide +kernel⟩,
   ⟨tramC [(TR_STATUS.STATE.key 63, 2), (TR_WDOG.EN.key 63, 1), (TR_WDOG.DBG_STOP.key 63, 0), (TR_STATUS.WDOG_RESETS.key 63, 255)] (g30), ((tramC [(TR_STATUS.STATE.key 63, 2), (TR_WDOG.EN.key 63, 1), (TR_WDOG.DBG_STOP.key 63, 0), (TR_STATUS.WDOG_RESETS.key 63, 255)] (g30)).wr TR_CTRL.ENTRY 0 63).wr TR_CTRL.VBASE 0 63, ((tramC [(TR_STATUS.STATE.key 63, 2), (TR_WDOG.EN.key 63, 1), (TR_WDOG.DBG_STOP.key 63, 0), (TR_STATUS.WDOG_RESETS.key 63, 255)] (g30)).wr TR_DBG_CTRL.STEP 0 63).wr TR_DBG_CTRL.DBG_NEST 0 63, ((((tramC [(TR_STATUS.STATE.key 63, 2), (TR_WDOG.EN.key 63, 1), (TR_WDOG.DBG_STOP.key 63, 0), (TR_STATUS.WDOG_RESETS.key 63, 255)] (g30)).wr TR_WDOG.LIMIT 0 63).wr TR_WDOG.EN 0 63).wr TR_WDOG.ACT 0 63).wr TR_WDOG.DBG_STOP 0 63, 63, 0x0, 0, 0x0, 0x0, g30, by decide +kernel⟩,
   ⟨tramC [(TR_STATUS.STATE.key 63, 1), (TR_WDOG.EN.key 63, 0)] (g30), ((tramC [(TR_STATUS.STATE.key 63, 1), (TR_WDOG.EN.key 63, 0)] (g30)).wr TR_CTRL.ENTRY 0 63).wr TR_CTRL.VBASE 0 63, ((tramC [(TR_STATUS.STATE.key 63, 1), (TR_WDOG.EN.key 63, 0)] (g30)).wr TR_DBG_CTRL.STEP 0 63).wr TR_DBG_CTRL.DBG_NEST 0 63, ((((tramC [(TR_STATUS.STATE.key 63, 1), (TR_WDOG.EN.key 63, 0)] (g30)).wr TR_WDOG.LIMIT 0 63).wr TR_WDOG.EN 0 63).wr TR_WDOG.ACT 0 63).wr TR_WDOG.DBG_STOP 0 63, 63, 0x0, 0, 0x0, 0x0, g30, by decide +kernel⟩,
   ⟨tramC [] ({ Engine.cold with warned := true }), ((tramC [] ({ Engine.cold with warned := true })).wr TR_CTRL.ENTRY 0 63).wr TR_CTRL.VBASE 0 63, ((tramC [] ({ Engine.cold with warned := true })).wr TR_DBG_CTRL.STEP 0 63).wr TR_DBG_CTRL.DBG_NEST 0 63, ((((tramC [] ({ Engine.cold with warned := true })).wr TR_WDOG.LIMIT 0 63).wr TR_WDOG.EN 0 63).wr TR_WDOG.ACT 0 63).wr TR_WDOG.DBG_STOP 0 63, 63, 0x0, 0, 0x0, 0x0, { Engine.cold with warned := true }, by decide +kernel⟩,
   ⟨tramC [] ({ Engine.cold with warned := true }), ((tramC [] ({ Engine.cold with warned := true })).wr TR_CTRL.ENTRY 2047 63).wr TR_CTRL.VBASE 0 63, ((tramC [] ({ Engine.cold with warned := true })).wr TR_DBG_CTRL.STEP 1 63).wr TR_DBG_CTRL.DBG_NEST 0 63, ((((tramC [] ({ Engine.cold with warned := true })).wr TR_WDOG.LIMIT 16777215 63).wr TR_WDOG.EN 1 63).wr TR_WDOG.ACT 1 63).wr TR_WDOG.DBG_STOP 1 63, 63, 0x7ffffff, 0, 0x0, 0x0, { Engine.cold with warned := true }, by decide +kernel⟩⟩

/-- The hypotheses of each clause of `Obligations.TramControl` can be met (5). -/
theorem test_hyps_TramControl_5 :
    (∃ (s : State) (c : State) (h : State) (u : State) (e : Nat) (v : Nat) (k : Nat) (p : Nat) (vb : Nat) (x : Engine), e < 64 ∧ x = s.eng e ∧ p = s.rd TR_PC.PC e ∧ vb = s.rd TR_CTRL.VBASE e * 256 ∧ k = (s.rd TR_IRQ_PEND.PEND e &&& 0x19) + (if x.posts = [] then 0 else 2) + (if s.sampler.noticePend.testBit e then 4 else 0) ∧ c = (s.wr TR_CTRL.ENTRY (v / 2 ^ 16 % 2 ^ 14) e).wr TR_CTRL.VBASE (v / 2 ^ 32 % 2 ^ 8) e ∧ h = (s.wr TR_DBG_CTRL.STEP (v / 2 % 2) e).wr TR_DBG_CTRL.DBG_NEST (if v / 4 % 2 = 1 then 0 else s.rd TR_DBG_CTRL.DBG_NEST e) e ∧ u = (((s.wr TR_WDOG.LIMIT (v % 2 ^ 24) e).wr TR_WDOG.EN (v / 2 ^ 24 % 2) e).wr TR_WDOG.ACT (v / 2 ^ 25 % 2) e).wr TR_WDOG.DBG_STOP (v / 2 ^ 26 % 2) e ∧ v % 2 ^ 24 = 0) :=
  ⟨tramC [] ({ Engine.cold with warned := true }), ((tramC [] ({ Engine.cold with warned := true })).wr TR_CTRL.ENTRY 1792 63).wr TR_CTRL.VBASE 0 63, ((tramC [] ({ Engine.cold with warned := true })).wr TR_DBG_CTRL.STEP 0 63).wr TR_DBG_CTRL.DBG_NEST 0 63, ((((tramC [] ({ Engine.cold with warned := true })).wr TR_WDOG.LIMIT 0 63).wr TR_WDOG.EN 1 63).wr TR_WDOG.ACT 1 63).wr TR_WDOG.DBG_STOP 1 63, 63, 0x7000000, 0, 0x0, 0x0, { Engine.cold with warned := true }, by decide +kernel⟩

/-- The hypotheses of each clause of `Obligations.StartUp` can be met (1). -/
theorem test_hyps_StartUp :
    (∃ (s : State) (t : State) (i : Nat) (o : Nat), i < 32 ∧ o < 4 ∧ t = s.recordStep i o) ∧
    (∃ (s : State) (t : State) (i : Nat) (o : Nat), i < 32 ∧ o < 4 ∧ t = s.recordStep i o) ∧
    (∃ (s : State) (t : State) (i : Nat) (o : Nat) (j : Nat), i < 32 ∧ o < 4 ∧ t = s.recordStep i o ∧ j < 32 ∧ j ≠ i) ∧
    (∃ (s : State) (t : State) (i : Nat) (o : Nat) (j : Nat), i < 32 ∧ o < 4 ∧ t = s.recordStep i o ∧ j < 32 ∧ j ≠ i) ∧
    (∃ (s : State) (t : State) (i : Nat) (o : Nat) (b : Nat), i < 32 ∧ o < 4 ∧ t = s.recordStep i o ∧ b < 39 ∧ s.ready b = false) ∧
    (∃ (s : State) (t : State) (i : Nat) (o : Nat) (b : Nat), i < 32 ∧ o < 4 ∧ t = s.recordStep i o ∧ b < 39 ∧ s.ready b = false) ∧
    (∃ (s : State) (t : State) (i : Nat) (o : Nat), i < 32 ∧ o < 4 ∧ t = s.recordStep i o ∧ o = 2) ∧
    (∃ (s : State) (t : State) (i : Nat) (o : Nat), i < 32 ∧ o < 4 ∧ t = s.recordStep i o ∧ o ≠ 2) ∧
    (∃ (s : State) (v : ImageView) (c : Nat), s.romRuns = true ∧ s.stepEnded 3 = false ∧ s.stepEnded 4 = false ∧ s.fm.record.primary = none ∧ imgFail v 0 = some c) ∧
    (∃ (s : State), s.romRuns = true ∧ s.stepEnded 3 = false ∧ s.stepEnded 4 = false ∧ s.fm.record.primary = none) ∧
    (∃ (s : State), s.romRuns = true ∧ s.stepEnded 3 = true) ∧
    (∃ (s : State) (v : ImageView), s.romRuns = true ∧ s.stepEnded 3 = false ∧ s.stepEnded 4 = false ∧ s.fm.record.primary = some (imgDigest v)) :=
  ⟨⟨given [(FM_START_REC.REC.key, 0xFFFFFFFFFFFFFFF0)], State.recordStep (given [(FM_START_REC.REC.key, 0xFFFFFFFFFFFFFFF0)]) 3 2, 3, 2, by decide +kernel⟩,
   ⟨given [(FM_START_REC.REC.key, 0xFFFFFFFFFFFFFFF0)], State.recordStep (given [(FM_START_REC.REC.key, 0xFFFFFFFFFFFFFFF0)]) 3 2, 3, 2, by decide +kernel⟩,
   ⟨given [(FM_START_REC.REC.key, 0xFFFFFFFFFFFFFFF0)], State.recordStep (given [(FM_START_REC.REC.key, 0xFFFFFFFFFFFFFFF0)]) 3 2, 3, 2, 31, by decide +kernel⟩,
   ⟨given [(FM_START_REC.REC.key, 0xFFFFFFFFFFFFFFF0)], State.recordStep (given [(FM_START_REC.REC.key, 0xFFFFFFFFFFFFFFF0)]) 3 2, 3, 2, 31, by decide +kernel⟩,
   ⟨given [(FM_START_REC.REC.key, 0xFFFFFFFFFFFFFFF0)], State.recordStep (given [(FM_START_REC.REC.key, 0xFFFFFFFFFFFFFFF0)]) 3 2, 3, 2, 38, by decide +kernel⟩,
   ⟨given [(FM_START_REC.REC.key, 0xFFFFFFFFFFFFFFF0)], State.recordStep (given [(FM_START_REC.REC.key, 0xFFFFFFFFFFFFFFF0)]) 3 2, 3, 2, 38, by decide +kernel⟩,
   ⟨given [(FM_START_REC.REC.key, 0xFFFFFFFFFFFFFFF0)], State.recordStep (given [(FM_START_REC.REC.key, 0xFFFFFFFFFFFFFFF0)]) 3 2, 3, 2, by decide +kernel⟩,
   ⟨given [(FM_START_REC.REC.key, 0xFFFFFFFFFFFFFFF0)], State.recordStep (given [(FM_START_REC.REC.key, 0xFFFFFFFFFFFFFFF0)]) 3 1, 3, 1, by decide +kernel⟩,
   ⟨rom18 7 StartRecord.empty, bad18, 0, by decide +kernel⟩,
   ⟨rom18 7 StartRecord.empty, by decide +kernel⟩,
   ⟨rom18 15 StartRecord.empty, by decide +kernel⟩,
   ⟨rom18 7 { StartRecord.empty with primary := some (imgDigest bad18) }, bad18, by decide +kernel⟩⟩

/-- The hypotheses of each clause of `Obligations.StartUp` can be met (2). -/
theorem test_hyps_StartUp_2 :
    (∃ (s : State) (v : ImageView) (c : Nat), s.romRuns = true ∧ s.stepEnded 3 = true ∧ s.stepEnded 4 = false ∧ imgFail v 1 = some c) ∧
    (∃ (s : State), s.romRuns = true ∧ s.stepEnded 3 = true ∧ s.stepEnded 4 = false) ∧
    (∃ (s : State), s.romRuns = true ∧ s.stepEnded 3 = false ∧ s.fm.record.primary = none) ∧
    (∃ (s : State), s.romRuns = true ∧ s.stepEnded 4 = true) ∧
    (∃ (v : ImageView), leNat (v.header.take 4) ≠ 0x4D494D46) ∧
    (∃ (s : State), s.romRuns = false) ∧
    (∃ (s : State), s.romRuns = false) ∧
    (∃ (s : State), s.ready 0 = true ∧ s.stepEnded 5 = false ∧ s.rd CG_BASE.BASE_LATE = 0) ∧
    (∃ (s : State), s.ready 0 = true ∧ s.stepEnded 5 = false ∧ s.rd CG_BASE.BASE_LATE = 1) ∧
    (∃ (s : State), s.ready 0 = true ∧ s.stepEnded 5 = true) ∧
    (∃ (s : State), s.ready 0 = true ∧ s.stepEnded 5 = true ∧ s.stepEnded 6 = false) ∧
    (∃ (s : State), s.ready 0 = true ∧ s.stepEnded 5 = true ∧ s.stepEnded 6 = false) :=
  ⟨⟨rom18 15 StartRecord.empty, bad18, 0, by decide +kernel⟩,
   ⟨rom18 15 StartRecord.empty, by decide +kernel⟩,
   ⟨rom18 7 StartRecord.empty, by decide +kernel⟩,
   ⟨rom18 23 StartRecord.empty, by decide +kernel⟩,
   ⟨bad18, by decide +kernel⟩,
   ⟨given [], by decide +kernel⟩,
   ⟨given [], by decide +kernel⟩,
   ⟨up18 31 [] StartRecord.empty, by decide +kernel⟩,
   ⟨up18 31 [(CG_BASE.BASE_LATE.key, 1)] StartRecord.empty, by decide +kernel⟩,
   ⟨up18 63 [] StartRecord.empty, by decide +kernel⟩,
   ⟨up18 63 [] StartRecord.empty, by decide +kernel⟩,
   ⟨up18 63 [] StartRecord.empty, by decide +kernel⟩⟩

/-- The hypotheses of each clause of `Obligations.StartUp` can be met (3). -/
theorem test_hyps_StartUp_3 :
    (∃ (s : State), s.ready 0 = true ∧ s.stepEnded 5 = false) ∧
    (∃ (s : State) (k : Nat), s.ready 0 = true ∧ k < 4 ∧ s.stepEnded (16 + k) = false) ∧
    (∃ (s : State) (k : Nat), s.ready 0 = true ∧ k < 4 ∧ s.stepEnded (16 + k) = false) ∧
    (∃ (s : State) (k : Nat), s.ready 0 = true ∧ k < 4 ∧ s.stepEnded (16 + k) = true) ∧
    (∃ (s : State) (k : Nat), s.ready 0 = true ∧ k < 8 ∧ s.stepEnded (20 + k) = false ∧ s.fm.record.crews.testBit k = false) ∧
    (∃ (s : State) (k : Nat), s.ready 0 = true ∧ k < 8 ∧ s.stepEnded (20 + k) = false ∧ s.fm.record.crews.testBit k = false) ∧
    (∃ (s : State) (k : Nat), s.ready 0 = true ∧ k < 8 ∧ s.stepEnded (20 + k) = false ∧ s.fm.record.crews.testBit k = true) ∧
    (∃ (s : State), s.ready 0 = true ∧ s.stepEnded 28 = false) ∧
    (∃ (s : State), s.ready 0 = true ∧ s.stepEnded 28 = true) ∧
    (∃ (s : State), s.ready 0 = true ∧ s.stepEnded 29 = false) ∧
    (∃ (s : State), s.ready 0 = true ∧ s.stepEnded 29 = true) ∧
    (∃ (s : State), s.fm.timed = false ∧ s.stepEnded 30 = false ∧ s.rd FM_READY.READY / 2 ^ 26 % 16 = 15) :=
  ⟨⟨up18 31 [] StartRecord.empty, by decide +kernel⟩,
   ⟨up18 31 [] StartRecord.empty, 3, by decide +kernel⟩,
   ⟨up18 31 [] StartRecord.empty, 3, by decide +kernel⟩,
   ⟨up18 0x80000 [] StartRecord.empty, 3, by decide +kernel⟩,
   ⟨up18 31 [] StartRecord.empty, 7, by decide +kernel⟩,
   ⟨up18 31 [] StartRecord.empty, 7, by decide +kernel⟩,
   ⟨up18 31 [(CK_CREW_PWR.ON.key, 0xFF)] { StartRecord.empty with crews := 0x80 }, 7, by decide +kernel⟩,
   ⟨up18 31 [] { StartRecord.empty with ports := 0x8000 }, by decide +kernel⟩,
   ⟨up18 0x10000000 [] StartRecord.empty, by decide +kernel⟩,
   ⟨up18 31 [] StartRecord.empty, by decide +kernel⟩,
   ⟨up18 0x20000000 [] StartRecord.empty, by decide +kernel⟩,
   ⟨up18 31 [(FM_READY.READY.key, 15 * 2 ^ 26)] StartRecord.empty, by decide +kernel⟩⟩

/-- The hypotheses of each clause of `Obligations.StartUp` can be met (4). -/
theorem test_hyps_StartUp_4 :
    (∃ (s : State), (s.fm.timed = true ∨ s.stepEnded 30 = true ∨ s.rd FM_READY.READY / 2 ^ 26 % 16 ≠ 15)) ∧
    (∃ (s : State), s.fm.ended % 2 ^ 30 = 2 ^ 30 - 1) ∧
    (∃ (s : State), s.fm.ended % 2 ^ 30 = 2 ^ 30 - 1) ∧
    (∃ (s : State), s.fm.ended % 2 ^ 30 ≠ 2 ^ 30 - 1) ∧
    (∃ (f : Flash), f.copyA.isSome = true ∧ f.inB = false ∧ (f.current.map (·.seq)).getD 0 < 2 ^ 32 - 1) ∧
    (∃ (s : State), s.rd FM_LOAD_DEADLINE.RUNNING = 0) ∧
    (∃ (s : State) (ms : Nat), s.rd FM_LOAD_DEADLINE.RUNNING = 1 ∧ ms % 2 ^ 32 = 0) ∧
    (∃ (s : State) (ms : Nat) (el : Nat), s.rd FM_LOAD_DEADLINE.RUNNING = 1 ∧ ms < 2 ^ 32 ∧ el < ms) ∧
    (∃ (s : State) (ms : Nat) (el : Nat), s.rd FM_LOAD_DEADLINE.RUNNING = 1 ∧ ms < 2 ^ 32 ∧ ms ≤ el ∧ 0 < ms ∧ s.ldState = 0) :=
  ⟨⟨up18 31 [] StartRecord.empty, by decide +kernel⟩,
   ⟨up18 0x3FFFFFFF [] StartRecord.empty, by decide +kernel⟩,
   ⟨up18 0x3FFFFFFF [] StartRecord.empty, by decide +kernel⟩,
   ⟨up18 0x1FFFFFFF [] StartRecord.empty, by decide +kernel⟩,
   ⟨flash18, by decide +kernel⟩,
   ⟨given [], by decide +kernel⟩,
   ⟨given [(FM_LOAD_DEADLINE.RUNNING.key, 1)], 0, by decide +kernel⟩,
   ⟨given [(FM_LOAD_DEADLINE.RUNNING.key, 1)], 9, 8, by decide +kernel⟩,
   ⟨given [(FM_LOAD_DEADLINE.RUNNING.key, 1)], 9, 9, by decide +kernel⟩⟩

/-- The hypotheses of each clause of `Obligations.ForemanServices` can be met (1). -/
theorem test_hyps_ForemanServices :
    (∃ (s : State) (len : Nat) (tag : Nat), s.fm.mailbox = none ∧ s.rd FM_MB_STATUS.BUSY = 0 ∧ s.rd EN_STATUS.HALTED = 0 ∧ s.ready 0 = true ∧ s.rd FM_BOOT.RECOVERY = 0 ∧ len ≤ 32 ∧ tag < 2 ^ 16) ∧
    (∃ (s : State) (len : Nat) (tag : Nat), s.fm.mailbox = none ∧ s.rd FM_MB_STATUS.BUSY = 0 ∧ s.rd EN_STATUS.HALTED = 0 ∧ s.ready 0 = true ∧ s.rd FM_BOOT.RECOVERY = 0 ∧ len ≤ 32 ∧ tag < 2 ^ 16) ∧
    (∃ (s : State) (len : Nat) (tag : Nat) (m : Nat), s.fm.mailbox = none ∧ s.rd FM_MB_STATUS.BUSY = 0 ∧ s.rd EN_STATUS.HALTED = 0 ∧ s.ready 0 = true ∧ s.rd FM_BOOT.RECOVERY = 0 ∧ len ≤ 32 ∧ tag < 2 ^ 16 ∧ 1 ≤ len ∧ m = s.rd FM_MB_DATA.DATA 0 0) ∧
    (∃ (s : State) (len : Nat) (tag : Nat) (k : Nat), s.fm.mailbox = none ∧ s.rd FM_MB_STATUS.BUSY = 0 ∧ s.rd EN_STATUS.HALTED = 0 ∧ s.ready 0 = true ∧ s.rd FM_BOOT.RECOVERY = 0 ∧ len ≤ 32 ∧ tag < 2 ^ 16 ∧ 6 ≤ len ∧ k = s.rd FM_MB_DATA.DATA 0 0 % 256 ∧ 16 < k) ∧
    (∃ (s : State) (len : Nat) (tag : Nat) (k : Nat), s.fm.mailbox = none ∧ s.rd FM_MB_STATUS.BUSY = 0 ∧ s.rd EN_STATUS.HALTED = 0 ∧ s.ready 0 = true ∧ s.rd FM_BOOT.RECOVERY = 0 ∧ len ≤ 32 ∧ tag < 2 ^ 16 ∧ 6 ≤ len ∧ k = s.rd FM_MB_DATA.DATA 0 0 % 256 ∧ ((k < 16 ∧ s.slotFree k = false) ∨ (k = 16 ∧ s.crypto.owner ≠ none))) ∧
    (∃ (s : State) (len : Nat) (tag : Nat) (k : Nat), s.fm.mailbox = none ∧ s.rd FM_MB_STATUS.BUSY = 0 ∧ s.rd EN_STATUS.HALTED = 0 ∧ s.ready 0 = true ∧ s.rd FM_BOOT.RECOVERY = 0 ∧ len ≤ 32 ∧ tag < 2 ^ 16 ∧ 6 ≤ len ∧ k = s.rd FM_MB_DATA.DATA 0 0 % 256 ∧ k < 16 ∧ s.slotFree k = true) :=
  ⟨⟨mb18 [], 7, 0xABCD, by decide +kernel⟩,
   ⟨mb18 [], 7, 0xABCD, by decide +kernel⟩,
   ⟨mb18 [(FM_MB_DATA.DATA.key 0 0, 0x8F00088), (FM_BOOT.PRIMARY_BAD.key, 1)], 1, 0xABCD, 0x8F00088, by decide +kernel⟩,
   ⟨mb18 [(FM_MB_DATA.DATA.key 0 0, 17)], 6, 0xABCD, 17, by decide +kernel⟩,
   ⟨mb18 [(FM_MB_DATA.DATA.key 0 0, 15), (EN_RANGE_CTRL.STATE.key 0 15, 2)], 6, 0xABCD, 15, by decide +kernel⟩,
   ⟨mb18 [(FM_MB_DATA.DATA.key 0 0, 15)], 6, 0xABCD, 15, by decide +kernel⟩⟩

/-- The hypotheses of each clause of `Obligations.ForemanServices` can be met (2). -/
theorem test_hyps_ForemanServices_2 :
    (∃ (s : State) (len : Nat) (tag : Nat) (k : Nat), s.fm.mailbox = none ∧ s.rd FM_MB_STATUS.BUSY = 0 ∧ s.rd EN_STATUS.HALTED = 0 ∧ s.ready 0 = true ∧ s.rd FM_BOOT.RECOVERY = 0 ∧ len ≤ 32 ∧ tag < 2 ^ 16 ∧ 6 ≤ len ∧ k = s.rd FM_MB_DATA.DATA 0 0 % 256 ∧ k = 16 ∧ s.crypto.owner = none) ∧
    (∃ (s : State) (len : Nat) (tag : Nat) (k : Nat), s.fm.mailbox = none ∧ s.rd FM_MB_STATUS.BUSY = 0 ∧ s.rd EN_STATUS.HALTED = 0 ∧ s.ready 0 = true ∧ s.rd FM_BOOT.RECOVERY = 0 ∧ len ≤ 32 ∧ tag < 2 ^ 16 ∧ 1 ≤ len ∧ k = s.rd FM_MB_DATA.DATA 0 0 % 256 ∧ 15 < k) ∧
    (∃ (s : State) (len : Nat) (tag : Nat) (k : Nat), s.fm.mailbox = none ∧ s.rd FM_MB_STATUS.BUSY = 0 ∧ s.rd EN_STATUS.HALTED = 0 ∧ s.ready 0 = true ∧ s.rd FM_BOOT.RECOVERY = 0 ∧ len ≤ 32 ∧ tag < 2 ^ 16 ∧ 1 ≤ len ∧ k = s.rd FM_MB_DATA.DATA 0 0 % 256 ∧ k < 16 ∧ s.slotFree k = false) ∧
    (∃ (s : State) (len : Nat) (tag : Nat) (k : Nat), s.fm.mailbox = none ∧ s.rd FM_MB_STATUS.BUSY = 0 ∧ s.rd EN_STATUS.HALTED = 0 ∧ s.ready 0 = true ∧ s.rd FM_BOOT.RECOVERY = 0 ∧ len ≤ 32 ∧ tag < 2 ^ 16 ∧ 1 ≤ len ∧ k = s.rd FM_MB_DATA.DATA 0 0 % 256 ∧ k < 16 ∧ s.slotFree k = true) ∧
    (∃ (s : State) (len : Nat) (tag : Nat) (k : Nat), s.fm.mailbox = none ∧ s.rd FM_MB_STATUS.BUSY = 0 ∧ s.rd EN_STATUS.HALTED = 0 ∧ s.ready 0 = true ∧ s.rd FM_BOOT.RECOVERY = 0 ∧ len ≤ 32 ∧ tag < 2 ^ 16 ∧ 1 ≤ len ∧ k = s.rd FM_MB_DATA.DATA 0 0 % 256 ∧ 16 < k) ∧
    (∃ (s : State) (len : Nat) (tag : Nat) (k : Nat), s.fm.mailbox = none ∧ s.rd FM_MB_STATUS.BUSY = 0 ∧ s.rd EN_STATUS.HALTED = 0 ∧ s.ready 0 = true ∧ s.rd FM_BOOT.RECOVERY = 0 ∧ len ≤ 32 ∧ tag < 2 ^ 16 ∧ 1 ≤ len ∧ k = s.rd FM_MB_DATA.DATA 0 0 % 256 ∧ k < 16 ∧ s.slotFree k = false) :=
  ⟨⟨mb18 [(FM_MB_DATA.DATA.key 0 0, 16)], 6, 0xABCD, 16, by decide +kernel⟩,
   ⟨mb18 [(FM_MB_DATA.DATA.key 0 0, 16)], 1, 0xABCD, 16, by decide +kernel⟩,
   ⟨mb18 [(FM_MB_DATA.DATA.key 0 0, 15), (EN_RANGE_CTRL.STATE.key 0 15, 2)], 1, 0xABCD, 15, by decide +kernel⟩,
   ⟨mb18 [(FM_MB_DATA.DATA.key 0 0, 15)], 1, 0xABCD, 15, by decide +kernel⟩,
   ⟨mb18 [(FM_MB_DATA.DATA.key 0 0, 17)], 1, 0xABCD, 17, by decide +kernel⟩,
   ⟨mb18 [(FM_MB_DATA.DATA.key 0 0, 15), (EN_RANGE_CTRL.STATE.key 0 15, 2)], 1, 0xABCD, 15, by decide +kernel⟩⟩

/-- The hypotheses of each clause of `Obligations.ForemanServices` can be met (3). -/
theorem test_hyps_ForemanServices_3 :
    (∃ (s : State) (len : Nat) (tag : Nat) (k : Nat), s.fm.mailbox = none ∧ s.rd FM_MB_STATUS.BUSY = 0 ∧ s.rd EN_STATUS.HALTED = 0 ∧ s.ready 0 = true ∧ s.rd FM_BOOT.RECOVERY = 0 ∧ len ≤ 32 ∧ tag < 2 ^ 16 ∧ 1 ≤ len ∧ k = s.rd FM_MB_DATA.DATA 0 0 % 256 ∧ k = 16) ∧
    (∃ (s : State) (len : Nat) (tag : Nat) (k : Nat), s.fm.mailbox = none ∧ s.rd FM_MB_STATUS.BUSY = 0 ∧ s.rd EN_STATUS.HALTED = 0 ∧ s.ready 0 = true ∧ s.rd FM_BOOT.RECOVERY = 0 ∧ len ≤ 32 ∧ tag < 2 ^ 16 ∧ 1 ≤ len ∧ k = s.rd FM_MB_DATA.DATA 0 0 % 256 ∧ k < 16 ∧ s.slotFree k = true) ∧
    (∃ (s : State) (len : Nat) (tag : Nat) (k : Nat), s.fm.mailbox = none ∧ s.rd FM_MB_STATUS.BUSY = 0 ∧ s.rd EN_STATUS.HALTED = 0 ∧ s.ready 0 = true ∧ s.rd FM_BOOT.RECOVERY = 0 ∧ len ≤ 32 ∧ tag < 2 ^ 16 ∧ 3 ≤ len ∧ k = s.rd FM_MB_DATA.DATA 0 0 % 256 ∧ (1 < k ∨ 1 < s.rd FM_MB_DATA.DATA 0 0 / 256 % 256)) ∧
    (∃ (s : State) (len : Nat) (tag : Nat) (k : Nat), s.fm.mailbox = none ∧ s.rd FM_MB_STATUS.BUSY = 0 ∧ s.rd EN_STATUS.HALTED = 0 ∧ s.ready 0 = true ∧ s.rd FM_BOOT.RECOVERY = 0 ∧ len ≤ 32 ∧ tag < 2 ^ 16 ∧ 3 ≤ len ∧ k = s.rd FM_MB_DATA.DATA 0 0 % 256 ∧ k < 2 ∧ s.rd FM_MB_DATA.DATA 0 0 / 256 % 256 < 2 ∧ ((k = 1 ∧ s.rd FM_BOOT.IMAGE = 1) ∨ (if k = 0 then 0x8000000 else 0x7000000) < s.rd FM_MB_DATA.DATA 0 2 % 2 ^ 32 ∨ s.rd FM_MB_DATA.DATA 0 1 % 64 ≠ 0)) ∧
    (∃ (s : State) (len : Nat) (tag : Nat) (k : Nat), s.fm.mailbox = none ∧ s.rd FM_MB_STATUS.BUSY = 0 ∧ s.rd EN_STATUS.HALTED = 0 ∧ s.ready 0 = true ∧ s.rd FM_BOOT.RECOVERY = 0 ∧ len ≤ 32 ∧ tag < 2 ^ 16 ∧ 3 ≤ len ∧ k = s.rd FM_MB_DATA.DATA 0 0 % 256 ∧ k < 2 ∧ s.rd FM_MB_DATA.DATA 0 0 / 256 % 256 < 2 ∧ (k = 1 → s.rd FM_BOOT.IMAGE = 0) ∧ s.rd FM_MB_DATA.DATA 0 2 % 2 ^ 32 ≤ (if k = 0 then 0x8000000 else 0x7000000) ∧ s.rd FM_MB_DATA.DATA 0 1 % 64 = 0) ∧
    (∃ (s : State) (len : Nat) (tag : Nat) (c : Nat) (e : Nat), s.fm.mailbox = none ∧ s.rd FM_MB_STATUS.BUSY = 0 ∧ s.rd EN_STATUS.HALTED = 0 ∧ s.ready 0 = true ∧ s.rd FM_BOOT.RECOVERY = 0 ∧ len ≤ 32 ∧ tag < 2 ^ 16 ∧ 1 ≤ len ∧ c = s.rd FM_MB_DATA.DATA 0 0 % 256 ∧ e = s.rd FM_MB_DATA.DATA 0 0 / 2 ^ 32 ∧ (7 < c ∨ e / 2 ^ 26 % 2 = 0)) :=
  ⟨⟨mb18 [(FM_MB_DATA.DATA.key 0 0, 16)], 1, 0xABCD, 16, by decide +kernel⟩,
   ⟨mb18 [(FM_MB_DATA.DATA.key 0 0, 15)], 1, 0xABCD, 15, by decide +kernel⟩,
   ⟨mb18 [(FM_MB_DATA.DATA.key 0 0, 2)], 3, 0xABCD, 2, by decide +kernel⟩,
   ⟨mb18 [(FM_MB_DATA.DATA.key 0 0, 1), (FM_BOOT.IMAGE.key, 1)], 3, 0xABCD, 1, by decide +kernel⟩,
   ⟨mb18 [(FM_MB_DATA.DATA.key 0 0, 1)], 3, 0xABCD, 1, by decide +kernel⟩,
   ⟨mb18 [(FM_MB_DATA.DATA.key 0 0, 7)], 1, 0xABCD, 7, 0, by decide +kernel⟩⟩

/-- The hypotheses of each clause of `Obligations.ForemanServices` can be met (4). -/
theorem test_hyps_ForemanServices_4 :
    (∃ (s : State) (len : Nat) (tag : Nat) (c : Nat) (e : Nat), s.fm.mailbox = none ∧ s.rd FM_MB_STATUS.BUSY = 0 ∧ s.rd EN_STATUS.HALTED = 0 ∧ s.ready 0 = true ∧ s.rd FM_BOOT.RECOVERY = 0 ∧ len ≤ 32 ∧ tag < 2 ^ 16 ∧ 1 ≤ len ∧ c = s.rd FM_MB_DATA.DATA 0 0 % 256 ∧ e = s.rd FM_MB_DATA.DATA 0 0 / 2 ^ 32 ∧ c ≤ 7 ∧ e / 2 ^ 26 % 2 = 1 ∧ 32 ≤ (s.flash.rows.filter (fun r => decide (r.chan = c))).length) ∧
    (∃ (s : State) (len : Nat) (tag : Nat) (c : Nat) (e : Nat), s.fm.mailbox = none ∧ s.rd FM_MB_STATUS.BUSY = 0 ∧ s.rd EN_STATUS.HALTED = 0 ∧ s.ready 0 = true ∧ s.rd FM_BOOT.RECOVERY = 0 ∧ len ≤ 32 ∧ tag < 2 ^ 16 ∧ 1 ≤ len ∧ c = s.rd FM_MB_DATA.DATA 0 0 % 256 ∧ e = s.rd FM_MB_DATA.DATA 0 0 / 2 ^ 32 ∧ c ≤ 7 ∧ e / 2 ^ 26 % 2 = 1 ∧ (s.flash.rows.filter (fun r => decide (r.chan = c))).length < 32) ∧
    (∃ (s : State) (len : Nat) (tag : Nat) (f : Nat), s.fm.mailbox = none ∧ s.rd FM_MB_STATUS.BUSY = 0 ∧ s.rd EN_STATUS.HALTED = 0 ∧ s.ready 0 = true ∧ s.rd FM_BOOT.RECOVERY = 0 ∧ len ≤ 32 ∧ tag < 2 ^ 16 ∧ 1 ≤ len ∧ f = s.rd FM_MB_DATA.DATA 0 0 % 2 ^ 32 ∧ (s.rd FM_LOG_POS.NEXT_SEQ ≤ f ∨ s.logHeld f = none)) ∧
    (∃ (s : State) (len : Nat) (tag : Nat) (f : Nat) (x : LogRec), s.fm.mailbox = none ∧ s.rd FM_MB_STATUS.BUSY = 0 ∧ s.rd EN_STATUS.HALTED = 0 ∧ s.ready 0 = true ∧ s.rd FM_BOOT.RECOVERY = 0 ∧ len ≤ 32 ∧ tag < 2 ^ 16 ∧ 1 ≤ len ∧ f = s.rd FM_MB_DATA.DATA 0 0 % 2 ^ 32 ∧ f + 1 = s.rd FM_LOG_POS.NEXT_SEQ ∧ s.logHeld f = some x) ∧
    (∃ (s : State) (len : Nat) (tag : Nat), s.fm.mailbox = none ∧ s.rd FM_MB_STATUS.BUSY = 0 ∧ s.rd EN_STATUS.HALTED = 0 ∧ s.ready 0 = true ∧ s.rd FM_BOOT.RECOVERY = 0 ∧ len ≤ 32 ∧ tag < 2 ^ 16) ∧
    (∃ (s : State) (len : Nat) (tag : Nat), s.fm.mailbox = none ∧ s.rd FM_MB_STATUS.BUSY = 0 ∧ s.rd EN_STATUS.HALTED = 0 ∧ s.ready 0 = true ∧ s.rd FM_BOOT.RECOVERY = 0 ∧ len ≤ 32 ∧ tag < 2 ^ 16 ∧ len < 6) :=
  ⟨⟨{ mb18 [(FM_MB_DATA.DATA.key 0 0, 2 ^ 58 + 7)] with flash := { Flash.blank with rows := List.replicate 32 ⟨7, 0, 0, 0, 0, false, false⟩ } }, 1, 0xABCD, 7, 0x4000000, by decide +kernel⟩,
   ⟨mb18 [(FM_MB_DATA.DATA.key 0 0, 2 ^ 59 - 2 ^ 32 + 7)], 1, 0xABCD, 7, 0x7FFFFFF, by decide +kernel⟩,
   ⟨mb18 [(FM_MB_DATA.DATA.key 0 0, 9), (FM_LOG_POS.NEXT_SEQ.key, 9)], 1, 0xABCD, 9, by decide +kernel⟩,
   ⟨{ mb18 [(FM_MB_DATA.DATA.key 0 0, 8), (FM_LOG_POS.NEXT_SEQ.key, 9)] with flash := { Flash.blank with log := [log18] } }, 1, 0xABCD, 8, log18, by decide +kernel⟩,
   ⟨mb18 [(FM_MB_DATA.DATA.key 0 1, 9)], 3, 0xABCD, by decide +kernel⟩,
   ⟨mb18 [], 5, 0xABCD, by decide +kernel⟩⟩

/-- The hypotheses of each clause of `Obligations.ForemanServices` can be met (5). -/
theorem test_hyps_ForemanServices_5 :
    (∃ (s : State) (len : Nat) (tag : Nat) (m : Mailbox), len < 256 ∧ tag < 2 ^ 16 ∧ s.rd FM_MB_STATUS.BUSY = 1 ∧ s.fm.mailbox = some m ∧ m.op ≠ 10) ∧
    (∃ (s : State) (len : Nat) (tag : Nat), len < 256 ∧ tag < 2 ^ 16 ∧ s.fm.mailbox = none ∧ s.rd FM_MB_STATUS.BUSY = 0 ∧ s.rd EN_STATUS.HALTED = 0 ∧ s.rd FM_BOOT.RECOVERY = 1) ∧
    (∃ (s : State) (len : Nat) (tag : Nat), len < 256 ∧ tag < 2 ^ 16 ∧ s.fm.mailbox = none ∧ s.rd FM_MB_STATUS.BUSY = 0 ∧ s.rd EN_STATUS.HALTED = 1) ∧
    (∃ (s : State) (op : Nat) (len : Nat) (tag : Nat) (r : Nat) (resp : List Nat), s.fm.mailbox = some ⟨op, len, tag, some (r, resp)⟩ ∧ r < 256 ∧ tag < 2 ^ 16 ∧ resp.length ≤ 32) ∧
    (∃ (s : State), s.fm.mailbox = none) ∧
    (∃ (temps : List Nat) (i : Nat) (v : Nat), i < 64 ∧ temps[i]? = some v) :=
  ⟨⟨{ mb18 [(FM_MB_STATUS.BUSY.key, 1)] with fm := { Foreman.cold with mailbox := some ⟨3, 1, 2, none⟩ } }, 1, 2, ⟨3, 1, 2, none⟩, by decide +kernel⟩,
   ⟨given [(FM_BOOT.RECOVERY.key, 1)], 255, 0xFFFF, by decide +kernel⟩,
   ⟨mb18 [(EN_STATUS.HALTED.key, 1)], 255, 0xFFFF, by decide +kernel⟩,
   ⟨fm18 [(FM_MB_STATUS.BUSY.key, 1)] { Foreman.cold with mailbox := some ⟨10, 2, 0xFFFF, some (0, [2 ^ 64 - 1, 7])⟩ }, 10, 2, 0xFFFF, 0, [2 ^ 64 - 1, 7], by decide +kernel⟩,
   ⟨given [], by decide +kernel⟩,
   ⟨List.replicate 63 0 ++ [0x690], 63, 0x690, by decide +kernel⟩⟩

/-- The hypotheses of each clause of `Obligations.ForemanServices` can be met (6). -/
theorem test_hyps_ForemanServices_6 :
    (∃ (ains : List Nat) (i : Nat) (v : Nat), i < 8 ∧ ains[i]? = some v) ∧
    (∃ (rails : List Nat) (i : Nat) (v : Nat), i < 24 ∧ rails[i]? = some v) ∧
    (∃ (s : State) (v : Nat), s.fm.beyond = [] ∧ signed16 (s.rd FM_SENS_CTRL.TWARN) ≤ signed16 v ∧ signed16 v < signed16 (s.rd FM_SENS_CTRL.TCRIT)) ∧
    (∃ (s : State) (v : Nat), s.fm.beyond = [(0, 0)] ∧ signed16 (s.rd FM_SENS_CTRL.TWARN) ≤ signed16 v ∧ signed16 v < signed16 (s.rd FM_SENS_CTRL.TCRIT)) ∧
    (∃ (s : State) (v : Nat), s.fm.beyond = [(0, 0)] ∧ signed16 v + 16 ≤ signed16 (s.rd FM_SENS_CTRL.TWARN) ∧ signed16 v < signed16 (s.rd FM_SENS_CTRL.TCRIT)) ∧
    (∃ (s : State) (m : Nat) (r : Nat) (c : Nat), m < 8 ∧ c = min 0xFFFF (r % 2 ^ 16 * s.rd FM_CURMON.LSB_MA 0 m / 100) ∧ s.rd FM_CURMON.EN 0 m = 0) :=
  ⟨⟨[1, 2, 3, 4, 5, 6, 7, 8], 7, 8, by decide +kernel⟩,
   ⟨[600], 0, 600, by decide +kernel⟩,
   ⟨fm18 [] { Foreman.cold with beyond := [] }, 1520, by decide +kernel⟩,
   ⟨fm18 [] { Foreman.cold with beyond := [(0, 0)] }, 1679, by decide +kernel⟩,
   ⟨fm18 [] { Foreman.cold with beyond := [(0, 0)] }, 1504, by decide +kernel⟩,
   ⟨given [(FM_CURMON.EN.key 0 7, 0), (FM_CURMON.LSB_MA.key 0 7, 200), (FM_CURMON.LIMIT.key 0 7, 9), (FM_CURMON.RAIL.key 0 7, 3)], 7, 5, 10, by decide +kernel⟩⟩

/-- The hypotheses of each clause of `Obligations.ForemanServices` can be met (7). -/
theorem test_hyps_ForemanServices_7 :
    (∃ (s : State) (m : Nat) (r : Nat) (c : Nat), m < 8 ∧ c = min 0xFFFF (r % 2 ^ 16 * s.rd FM_CURMON.LSB_MA 0 m / 100) ∧ s.rd FM_CURMON.EN 0 m = 1) ∧
    (∃ (s : State) (m : Nat) (r : Nat) (c : Nat), m < 8 ∧ c = min 0xFFFF (r % 2 ^ 16 * s.rd FM_CURMON.LSB_MA 0 m / 100) ∧ s.rd FM_CURMON.EN 0 m = 1 ∧ Tab.get 0 s.fm.nacks m < 2) ∧
    (∃ (s : State) (m : Nat) (r : Nat) (c : Nat), m < 8 ∧ c = min 0xFFFF (r % 2 ^ 16 * s.rd FM_CURMON.LSB_MA 0 m / 100) ∧ s.rd FM_CURMON.EN 0 m = 1 ∧ 2 ≤ Tab.get 0 s.fm.nacks m) ∧
    (∃ (s : State), s.events = []) ∧
    (∃ (s : State) (k : Nat) (e : LogEvent) (r : List LogEvent) (x : LogRec), s.events = e :: r ∧ x = ⟨k % 2 ^ 64, e.tally, s.rd FM_LOG_POS.NEXT_SEQ, e.sev, e.src, e.code, e.arg % 2 ^ 64⟩ ∧ s.fm.log.length < 2048 ∧ e.sev < 2) ∧
    (∃ (s : State) (k : Nat) (e : LogEvent) (r : List LogEvent) (x : LogRec), s.events = e :: r ∧ x = ⟨k % 2 ^ 64, e.tally, s.rd FM_LOG_POS.NEXT_SEQ, e.sev, e.src, e.code, e.arg % 2 ^ 64⟩ ∧ s.fm.log.length = 2048 ∧ e.sev < 2) :=
  ⟨⟨given [(FM_CURMON.EN.key 0 7, 1), (FM_CURMON.LSB_MA.key 0 7, 200), (FM_CURMON.LIMIT.key 0 7, 9), (FM_CURMON.RAIL.key 0 7, 3)], 7, 5, 10, by decide +kernel⟩,
   ⟨given [(FM_CURMON.EN.key 0 7, 1), (FM_CURMON.LSB_MA.key 0 7, 200), (FM_CURMON.LIMIT.key 0 7, 9), (FM_CURMON.RAIL.key 0 7, 3)], 7, 5, 10, by decide +kernel⟩,
   ⟨fm18 [(FM_CURMON.EN.key 0 7, 1)] { Foreman.cold with nacks := [(7, 2)] }, 7, 5, 0, by decide +kernel⟩,
   ⟨given [], by decide +kernel⟩,
   ⟨log18b [(FM_LOG_POS.NEXT_SEQ.key, 9)] [log18] [ev18 1, ev18 2], 7, ev18 1, [ev18 2], ⟨7, 9, 9, 1, 12, 0x00C0, 7⟩, by decide +kernel⟩,
   ⟨log18b [(FM_LOG_POS.NEXT_SEQ.key, 9)] (List.replicate 2048 log18) [ev18 1, ev18 2], 7, ev18 1, [ev18 2], ⟨7, 9, 9, 1, 12, 0x00C0, 7⟩, by decide +kernel⟩⟩

/-- The hypotheses of each clause of `Obligations.ForemanServices` can be met (8). -/
theorem test_hyps_ForemanServices_8 :
    (∃ (s : State) (e : LogEvent) (r : List LogEvent), s.events = e :: r ∧ 2 ≤ e.sev) ∧
    (∃ (s : State) (k : Nat), s.fm.log.find? (fun y => decide (y.seq = k)) = none) ∧
    (∃ (s : State) (k : Nat) (x : LogRec), s.fm.log.find? (fun y => decide (y.seq = k)) = some x ∧ s.flash.log = [] ∧ s.rd FM_LOG_POS.FLASHED = k ∧ k < s.rd FM_LOG_POS.NEXT_SEQ) :=
  ⟨⟨log18b [(FM_LOG_POS.NEXT_SEQ.key, 9)] [log18] [ev18 2], ev18 2, [], by decide +kernel⟩,
   ⟨log18b [(FM_LOG_POS.NEXT_SEQ.key, 9)] [log18] [], 7, by decide +kernel⟩,
   ⟨log18b [(FM_LOG_POS.NEXT_SEQ.key, 9), (FM_LOG_POS.FLASHED.key, 8)] [log18] [], 8, log18, by decide +kernel⟩⟩

/-- The hypotheses of each clause of `Obligations.BellHops` can be met (1). -/
theorem test_hyps_BellHops :
    (∃ (s : State) (a : Nat), a < 256 ∧ (s.rd EN_STATUS.HALTED = 1 ∨ s.clk.warmHold = true ∨ s.rd BW_STATUS.HEAD = 1)) ∧
    (∃ (s : State) (a : Nat), a < 256 ∧ s.rd EN_STATUS.HALTED = 0 ∧ s.clk.warmHold = false ∧ s.rd BW_STATUS.HEAD = 0 ∧ s.rd WD_GROUP_CTRL.JOIN = 0 ∧ a < 255) ∧
    (∃ (s : State) (a : Nat), a < 256 ∧ s.rd EN_STATUS.HALTED = 0 ∧ s.clk.warmHold = false ∧ s.rd BW_STATUS.HEAD = 0 ∧ s.rd WD_GROUP_CTRL.JOIN = 0 ∧ a = 255) ∧
    (∃ (s : State) (a : Nat), a < 256 ∧ s.rd EN_STATUS.HALTED = 0 ∧ s.clk.warmHold = false ∧ s.rd BW_STATUS.HEAD = 0 ∧ s.rd WD_GROUP_CTRL.JOIN = 1 ∧ s.winder.cmd = none ∧ 2 ≤ s.rd WD_GROUP_CTRL.SIZE ∧ a < 255) ∧
    (∃ (s : State), s.rd EN_STATUS.HALTED = 0 ∧ s.clk.warmHold = false ∧ s.rd BW_STATUS.HEAD = 1 ∧ s.bell.enumDue = true ∧ s.rd WD_GROUP_CTRL.JOIN = 0) ∧
    (∃ (s : State), s.ready 0 = true ∧ s.rd BW_STATUS.HEAD = 0 ∧ s.rd WD_GROUP_CTRL.JOIN = 0 ∧ s.rd BW_STATUS.DOWN_LINK = 1) ∧
    (∃ (s : State), (s.ready 0 = false ∨ s.rd BW_STATUS.HEAD = 1)) ∧
    (∃ (s : State), (s.bell.enumDue = false ∨ s.rd BW_STATUS.HEAD = 0 ∨ s.rd EN_STATUS.HALTED = 1)) ∧
    (∃ (s : State), s.clk.warmHold = true) ∧
    (∃ (s : State), s.clk.warmHold = false ∧ s.rd BW_STATUS.HEAD = 0) ∧
    (∃ (s : State), (s.rd EN_STATUS.HALTED = 1 ∨ s.rd BW_STATUS.ENUMERATED = 0)) ∧
    (∃ (s : State), s.rd EN_STATUS.HALTED = 0 ∧ s.rd BW_STATUS.ENUMERATED = 1 ∧ s.rd BW_STATUS.HEAD = 1) :=
  ⟨⟨bwS [(BW_STATUS.HEAD.key, 1)], 7, by decide +kernel⟩,
   ⟨bwS [(BW_STATUS.DOWN_LINK.key, 1), (BW_STATUS.ADDR.key, 9), (BW_STATUS.CHAINS.key, 4294967295)], 254, by decide +kernel⟩,
   ⟨bwS [(BW_STATUS.DOWN_LINK.key, 1), (BW_STATUS.ADDR.key, 9)], 255, by decide +kernel⟩,
   ⟨{ bwS [(WD_GROUP_CTRL.JOIN.key, 1), (WD_GROUP_CTRL.SIZE.key, 2), (BW_STATUS.ADDR.key, 3), (WD_STATUS.STATE.key, 2)] with winder := { State.reset.winder with members := [memB 4 2 true] } }, 254, by decide +kernel⟩,
   ⟨{ bwS [(BW_STATUS.HEAD.key, 1), (BW_STATUS.DOWN_LINK.key, 1)] with bell := ⟨true⟩ }, by decide +kernel⟩,
   ⟨bwS [(BW_STATUS.DOWN_LINK.key, 1), (FM_READY.READY.key, 1)], by decide +kernel⟩,
   ⟨bwS [(BW_STATUS.HEAD.key, 1)], by decide +kernel⟩,
   ⟨bwS [(BW_STATUS.HEAD.key, 1)], by decide +kernel⟩,
   ⟨{ bwS [(BW_STATUS.HEAD.key, 1)] with clk := { State.reset.clk with warmHold := true } }, by decide +kernel⟩,
   ⟨bwS [], by decide +kernel⟩,
   ⟨bwS [(EN_STATUS.HALTED.key, 1), (BW_STATUS.ENUMERATED.key, 1)], by decide +kernel⟩,
   ⟨bwS [(BW_STATUS.HEAD.key, 1), (BW_STATUS.ENUMERATED.key, 1)], by decide +kernel⟩⟩

/-- The hypotheses of each clause of `Obligations.BellHops` can be met (2). -/
theorem test_hyps_BellHops_2 :
    (∃ (s : State), s.rd EN_STATUS.HALTED = 0 ∧ s.rd BW_STATUS.ENUMERATED = 1 ∧ s.rd BW_STATUS.HEAD = 0 ∧ s.rd BW_STATUS.UP_LINK = 1) ∧
    (∃ (s : State), s.rd BW_STATUS.HEAD = 0 ∧ s.rd BW_STATUS.UP_LINK = 0) ∧
    (∃ (s : State) (b : Bool) (c : Nat), c = min (s.rd BW_ERR.HOP_DOWNS + 1) 0xFFFF ∧ s.rd BW_STATUS.DOWN_LINK = (if b then 1 else 0)) ∧
    (∃ (s : State) (b : Bool) (c : Nat), c = min (s.rd BW_ERR.HOP_DOWNS + 1) 0xFFFF ∧ s.rd BW_STATUS.UP_LINK = (if b then 1 else 0)) ∧
    (∃ (s : State) (c : Nat), c = min (s.rd BW_ERR.HOP_DOWNS + 1) 0xFFFF ∧ s.rd EN_STATUS.HALTED = 1 ∧ s.rd BW_STATUS.DOWN_LINK = 1) ∧
    (∃ (s : State) (c : Nat), c = min (s.rd BW_ERR.HOP_DOWNS + 1) 0xFFFF ∧ s.rd EN_STATUS.HALTED = 0 ∧ s.rd BW_STATUS.HEAD = 1 ∧ s.rd BW_STATUS.DOWN_LINK = 1) ∧
    (∃ (s : State) (c : Nat), c = min (s.rd BW_ERR.HOP_DOWNS + 1) 0xFFFF ∧ s.rd EN_STATUS.HALTED = 0 ∧ s.rd BW_STATUS.HEAD = 0 ∧ s.rd BW_STATUS.DOWN_LINK = 1) ∧
    (∃ (s : State) (c : Nat), c = min (s.rd BW_ERR.HOP_DOWNS + 1) 0xFFFF ∧ s.rd EN_STATUS.HALTED = 0 ∧ s.rd BW_STATUS.HEAD = 0 ∧ s.rd BW_STATUS.DOWN_LINK = 0) ∧
    (∃ (s : State) (c : Nat), c = min (s.rd BW_ERR.HOP_DOWNS + 1) 0xFFFF ∧ s.rd EN_STATUS.HALTED = 0 ∧ s.rd BW_STATUS.HEAD = 0 ∧ s.rd BW_STATUS.UP_LINK = 0) ∧
    (∃ (s : State) (c : Nat), c = min (s.rd BW_ERR.HOP_DOWNS + 1) 0xFFFF ∧ s.rd EN_STATUS.HALTED = 0 ∧ s.rd BW_STATUS.HEAD = 0 ∧ s.rd BW_STATUS.UP_LINK = 1 ∧ s.rd SC_CTRL.SRC ≠ 1) ∧
    (∃ (s : State) (c : Nat), c = min (s.rd BW_ERR.HOP_DOWNS + 1) 0xFFFF ∧ s.rd EN_STATUS.HALTED = 0 ∧ s.rd BW_STATUS.HEAD = 0 ∧ s.rd BW_STATUS.UP_LINK = 1 ∧ s.rd SC_CTRL.SRC = 1 ∧ s.rd SC_STATUS.STATE = 1) ∧
    (∃ (s : State) (c : Nat), c = min (s.rd BW_ERR.HOP_DOWNS + 1) 0xFFFF) :=
  ⟨⟨bwS [(BW_STATUS.UP_LINK.key, 1), (BW_STATUS.ENUMERATED.key, 1)], by decide +kernel⟩,
   ⟨bwS [(BW_STATUS.ENUMERATED.key, 1)], by decide +kernel⟩,
   ⟨bwS [(BW_STATUS.DOWN_LINK.key, 1), (BW_ERR.HOP_DOWNS.key, 65535)], true, 65535, by decide +kernel⟩,
   ⟨bwS [(BW_ERR.HOP_DOWNS.key, 65535)], false, 65535, by decide +kernel⟩,
   ⟨bwS [(EN_STATUS.HALTED.key, 1), (BW_STATUS.DOWN_LINK.key, 1), (BW_ERR.HOP_DOWNS.key, 65535)], 65535, by decide +kernel⟩,
   ⟨bwS [(BW_STATUS.HEAD.key, 1), (BW_STATUS.DOWN_LINK.key, 1)], 1, by decide +kernel⟩,
   ⟨bwS [(BW_STATUS.DOWN_LINK.key, 1), (BW_STATUS.ADDR.key, 255)], 1, by decide +kernel⟩,
   ⟨bwS [(BW_STATUS.ADDR.key, 255)], 1, by decide +kernel⟩,
   ⟨bwS [(BW_STATUS.ADDR.key, 255)], 1, by decide +kernel⟩,
   ⟨bwS [(BW_STATUS.UP_LINK.key, 1), (BW_STATUS.ADDR.key, 255)], 1, by decide +kernel⟩,
   ⟨bwS [(BW_STATUS.UP_LINK.key, 1), (SC_CTRL.SRC.key, 1), (SC_STATUS.STATE.key, 1)], 1, by decide +kernel⟩,
   ⟨bwS [(BW_ERR.RESENT.key, 65535)], 1, by decide +kernel⟩⟩

/-- The hypotheses of each clause of `Obligations.BellHops` can be met (3). -/
theorem test_hyps_BellHops_3 :
    (∃ (s : State) (c : Nat), c = min (s.rd BW_ERR.HOP_DOWNS + 1) 0xFFFF) ∧
    (∃ (s : State), (s.rd EN_STATUS.HALTED = 1 ∨ s.rd BW_STATUS.ENUMERATED = 0 ∨ s.rd WD_GROUP_CTRL.JOIN = 0 ∨ s.rd WD_STATUS.FORMED = 1)) ∧
    (∃ (s : State), s.rd EN_STATUS.HALTED = 0 ∧ s.rd BW_STATUS.ENUMERATED = 1 ∧ s.rd WD_GROUP_CTRL.JOIN = 1 ∧ s.rd WD_STATUS.FORMED = 0) ∧
    (∃ (s : State) (src : Nat) (g : Nat), src < 256 ∧ s.rd EN_STATUS.HALTED = 0 ∧ s.rd BW_STATUS.ENUMERATED = 1 ∧ s.rd BW_STATUS.HEAD = 0 ∧ s.rd BW_STATUS.UP_LINK = 1 ∧ (s.rd WD_GROUP_CTRL.JOIN = 0 ∨ g ≠ s.rd WD_GROUP_CTRL.GROUP_ID ∨ src = s.rd BW_STATUS.ADDR)) ∧
    (∃ (s : State) (src : Nat) (g : Nat), src < 256 ∧ s.rd EN_STATUS.HALTED = 0 ∧ s.rd BW_STATUS.ENUMERATED = 1 ∧ s.rd BW_STATUS.HEAD = 0 ∧ s.rd BW_STATUS.DOWN_LINK = 1 ∧ (s.rd WD_GROUP_CTRL.JOIN = 0 ∨ g ≠ s.rd WD_GROUP_CTRL.GROUP_ID ∨ src = s.rd BW_STATUS.ADDR)) ∧
    (∃ (s : State) (src : Nat) (g : Nat) (n : Nat), src < 256 ∧ s.rd EN_STATUS.HALTED = 0 ∧ s.rd BW_STATUS.ENUMERATED = 1 ∧ s.rd BW_STATUS.HEAD = 0 ∧ s.rd BW_STATUS.DOWN_LINK = 0 ∧ s.rd BW_STATUS.UP_LINK = 0 ∧ s.rd WD_GROUP_CTRL.JOIN = 1 ∧ g = s.rd WD_GROUP_CTRL.GROUP_ID ∧ src ≠ s.rd BW_STATUS.ADDR ∧ s.winder.regroup = none ∧ s.winder.members.length < 255 ∧ src ∉ s.winder.members.map (fun m => m.addr) ∧ n = s.rd WD_GROUP_CTRL.SIZE ∧ (∀ m ∈ s.winder.members, m.size = n) ∧ s.winder.members.length + 2 ≤ n) ∧
    (∃ (s : State) (src : Nat) (g : Nat) (n : Nat), src < 256 ∧ s.rd EN_STATUS.HALTED = 0 ∧ s.rd BW_STATUS.ENUMERATED = 1 ∧ s.rd BW_STATUS.HEAD = 0 ∧ s.rd BW_STATUS.DOWN_LINK = 0 ∧ s.rd BW_STATUS.UP_LINK = 0 ∧ s.rd WD_GROUP_CTRL.JOIN = 1 ∧ g = s.rd WD_GROUP_CTRL.GROUP_ID ∧ src ≠ s.rd BW_STATUS.ADDR ∧ s.winder.regroup = none ∧ s.winder.members.length < 255 ∧ src ∉ s.winder.members.map (fun m => m.addr) ∧ n ≠ s.rd WD_GROUP_CTRL.SIZE) ∧
    (∃ (s : State) (src : Nat) (g : Nat), src < 256 ∧ s.rd EN_STATUS.HALTED = 0 ∧ s.rd BW_STATUS.ENUMERATED = 1 ∧ s.rd BW_STATUS.HEAD = 0 ∧ s.rd BW_STATUS.DOWN_LINK = 0 ∧ s.rd BW_STATUS.UP_LINK = 0 ∧ s.rd WD_GROUP_CTRL.JOIN = 1 ∧ g = s.rd WD_GROUP_CTRL.GROUP_ID ∧ src ≠ s.rd BW_STATUS.ADDR ∧ s.winder.regroup = none ∧ s.winder.members.length < 255 ∧ src ∈ s.winder.members.map (fun m => m.addr)) :=
  ⟨⟨bwS [(BW_ERR.CRC_ERR.key, 65535)], 1, by decide +kernel⟩,
   ⟨bwS [(BW_STATUS.ENUMERATED.key, 1), (WD_GROUP_CTRL.JOIN.key, 1), (WD_STATUS.FORMED.key, 1)], by decide +kernel⟩,
   ⟨bwS [(BW_STATUS.ENUMERATED.key, 1), (WD_GROUP_CTRL.JOIN.key, 1), (WD_GROUP_CTRL.GROUP_ID.key, 40000), (WD_GROUP_CTRL.SIZE.key, 256), (WD_STATUS.FORMED.key, 0)], by decide +kernel⟩,
   ⟨bwS [(BW_STATUS.ENUMERATED.key, 1), (BW_STATUS.UP_LINK.key, 1), (WD_GROUP_CTRL.JOIN.key, 1), (WD_GROUP_CTRL.GROUP_ID.key, 40000), (WD_GROUP_CTRL.SIZE.key, 3)], 255, 39999, by decide +kernel⟩,
   ⟨bwS [(BW_STATUS.ENUMERATED.key, 1), (BW_STATUS.DOWN_LINK.key, 1), (BW_STATUS.ADDR.key, 255)], 255, 0, by decide +kernel⟩,
   ⟨{ bwS [(BW_STATUS.ENUMERATED.key, 1), (WD_GROUP_CTRL.JOIN.key, 1), (WD_GROUP_CTRL.GROUP_ID.key, 40000), (WD_GROUP_CTRL.SIZE.key, 3), (BW_STATUS.ADDR.key, 254)] with winder := { State.reset.winder with members := [memB 4 3 false] } }, 255, 40000, 3, by decide +kernel⟩,
   ⟨{ bwS [(BW_STATUS.ENUMERATED.key, 1), (WD_GROUP_CTRL.JOIN.key, 1), (WD_GROUP_CTRL.GROUP_ID.key, 40000), (WD_GROUP_CTRL.SIZE.key, 3), (BW_STATUS.ADDR.key, 254)] with winder := { State.reset.winder with members := [memB 4 3 false] } }, 255, 40000, 2, by decide +kernel⟩,
   ⟨{ bwS [(BW_STATUS.ENUMERATED.key, 1), (WD_GROUP_CTRL.JOIN.key, 1), (WD_GROUP_CTRL.GROUP_ID.key, 40000), (WD_GROUP_CTRL.SIZE.key, 3), (BW_STATUS.ADDR.key, 254)] with winder := { State.reset.winder with members := [memB 4 3 false] } }, 4, 40000, by decide +kernel⟩⟩

/-- The hypotheses of each clause of `Obligations.BellGroup` can be met (1). -/
theorem test_hyps_BellGroup :
    (∃ (s : State), (s.rd EN_STATUS.HALTED = 1 ∨ s.rd BW_STATUS.ENUMERATED = 0)) ∧
    (∃ (s : State) (dst : Nat) (d : Bool), s.rd EN_STATUS.HALTED = 0 ∧ s.rd BW_STATUS.ENUMERATED = 1 ∧ ((s.rd BW_STATUS.ADDR < dst ∧ s.rd BW_STATUS.DOWN_LINK = 1 ∧ d = true) ∨ (dst < s.rd BW_STATUS.ADDR ∧ s.rd BW_STATUS.UP_LINK = 1 ∧ s.rd BW_STATUS.HEAD = 0 ∧ d = false))) ∧
    (∃ (s : State) (src : Nat) (vl : Bool), s.rd EN_STATUS.HALTED = 0 ∧ s.rd BW_STATUS.ENUMERATED = 1 ∧ s.rd BW_STATUS.HEAD = 0 ∧ (s.rd WD_GROUP_CTRL.JOIN = 0 ∨ src ≠ s.rd WD_GROUP_STATUS.LEADER_ADDR) ∧ ((vl = true ∧ s.rd BW_STATUS.DOWN_LINK = 1) ∨ (vl = false ∧ s.rd BW_STATUS.UP_LINK = 1))) ∧
    (∃ (s : State) (src : Nat) (dst : Nat), s.rd EN_STATUS.HALTED = 0 ∧ s.rd BW_STATUS.ENUMERATED = 1 ∧ dst = s.rd BW_STATUS.ADDR ∧ (s.rd WD_GROUP_CTRL.JOIN = 0 ∨ src ∉ s.winder.members.map (fun m => m.addr))) ∧
    (∃ (s : State) (src : Nat), s.rd EN_STATUS.HALTED = 0 ∧ s.rd BW_STATUS.ENUMERATED = 1 ∧ s.rd BW_STATUS.HEAD = 0 ∧ s.rd BW_STATUS.DOWN_LINK = 0 ∧ s.rd BW_STATUS.UP_LINK = 0 ∧ s.rd WD_GROUP_CTRL.JOIN = 1 ∧ src ∈ s.winder.members.map (fun m => m.addr) ∧ src = s.rd WD_GROUP_STATUS.LEADER_ADDR) ∧
    (∃ (s : State) (src : Nat) (v : Nat), s.rd EN_STATUS.HALTED = 0 ∧ s.rd BW_STATUS.ENUMERATED = 1 ∧ s.rd BW_STATUS.HEAD = 0 ∧ s.rd BW_STATUS.DOWN_LINK = 0 ∧ s.rd BW_STATUS.UP_LINK = 0 ∧ s.rd WD_GROUP_CTRL.JOIN = 1 ∧ src ∈ s.winder.members.map (fun m => m.addr) ∧ src = s.rd WD_GROUP_STATUS.LEADER_ADDR ∧ s.rd WD_HORIZON.H < v) :=
  ⟨⟨bwG [(EN_STATUS.HALTED.key, 1)], by decide +kernel⟩,
   ⟨bwG [(BW_STATUS.ENUMERATED.key, 1), (BW_STATUS.DOWN_LINK.key, 1), (BW_STATUS.ADDR.key, 5)], 255, true, by decide +kernel⟩,
   ⟨bwG [(BW_STATUS.ENUMERATED.key, 1), (BW_STATUS.DOWN_LINK.key, 1), (BW_STATUS.ADDR.key, 5), (WD_GROUP_STATUS.LEADER_ADDR.key, 4)], 4, true, by decide +kernel⟩,
   ⟨bwG [(BW_STATUS.ENUMERATED.key, 1), (BW_STATUS.DOWN_LINK.key, 1), (BW_STATUS.ADDR.key, 5)], 4, 5, by decide +kernel⟩,
   ⟨{ bwG [(BW_STATUS.ENUMERATED.key, 1), (WD_GROUP_CTRL.JOIN.key, 1), (BW_STATUS.ADDR.key, 7), (WD_GROUP_STATUS.LEADER_ADDR.key, 4)] with winder := { State.reset.winder with members := [memG 4 3 true, memG 9 3 false] } }, 4, by decide +kernel⟩,
   ⟨{ bwG [(BW_STATUS.ENUMERATED.key, 1), (WD_GROUP_CTRL.JOIN.key, 1), (BW_STATUS.ADDR.key, 7), (WD_GROUP_STATUS.LEADER_ADDR.key, 4), (WD_HORIZON.H.key, 18446744073709551614)] with winder := { State.reset.winder with members := [memG 4 3 true, memG 9 3 false] } }, 4, 18446744073709551615, by decide +kernel⟩⟩

/-- The hypotheses of each clause of `Obligations.BellGroup` can be met (2). -/
theorem test_hyps_BellGroup_2 :
    (∃ (s : State) (src : Nat) (v : Nat), s.rd EN_STATUS.HALTED = 0 ∧ s.rd BW_STATUS.ENUMERATED = 1 ∧ s.rd BW_STATUS.HEAD = 0 ∧ s.rd BW_STATUS.DOWN_LINK = 0 ∧ s.rd BW_STATUS.UP_LINK = 0 ∧ s.rd WD_GROUP_CTRL.JOIN = 1 ∧ src ∈ s.winder.members.map (fun m => m.addr) ∧ src = s.rd WD_GROUP_STATUS.LEADER_ADDR ∧ v ≤ s.rd WD_HORIZON.H) ∧
    (∃ (s : State) (src : Nat) (e : Nat) (v : Nat), s.rd EN_STATUS.HALTED = 0 ∧ s.rd BW_STATUS.ENUMERATED = 1 ∧ s.rd BW_STATUS.HEAD = 0 ∧ s.rd BW_STATUS.DOWN_LINK = 0 ∧ s.rd BW_STATUS.UP_LINK = 0 ∧ s.rd WD_GROUP_CTRL.JOIN = 1 ∧ src ∈ s.winder.members.map (fun m => m.addr) ∧ src = s.rd WD_GROUP_STATUS.LEADER_ADDR ∧ (s.rd WD_STATUS.STATE ≠ 2 ∨ s.winder.inStroke = true) ∧ v ≠ 3 ∧ v ≠ 4 ∧ v ≠ 8 ∧ e < s.rd WD_STOP_TALLY.S) ∧
    (∃ (s : State) (src : Nat) (e : Nat) (v : Nat), s.rd EN_STATUS.HALTED = 0 ∧ s.rd BW_STATUS.ENUMERATED = 1 ∧ s.rd BW_STATUS.HEAD = 0 ∧ s.rd BW_STATUS.DOWN_LINK = 0 ∧ s.rd BW_STATUS.UP_LINK = 0 ∧ s.rd WD_GROUP_CTRL.JOIN = 1 ∧ src ∈ s.winder.members.map (fun m => m.addr) ∧ src = s.rd WD_GROUP_STATUS.LEADER_ADDR ∧ (s.rd WD_STATUS.STATE ≠ 2 ∨ s.winder.inStroke = true) ∧ v ≠ 3 ∧ v ≠ 4 ∧ v ≠ 8 ∧ s.rd WD_STOP_TALLY.S ≤ e) ∧
    (∃ (s : State) (src : Nat) (v : Nat), s.rd EN_STATUS.HALTED = 0 ∧ s.rd BW_STATUS.ENUMERATED = 1 ∧ s.rd BW_STATUS.HEAD = 0 ∧ s.rd BW_STATUS.DOWN_LINK = 0 ∧ s.rd BW_STATUS.UP_LINK = 0 ∧ s.rd WD_GROUP_CTRL.JOIN = 1 ∧ src ∈ s.winder.members.map (fun m => m.addr) ∧ src = s.rd WD_GROUP_STATUS.LEADER_ADDR ∧ (s.rd WD_STATUS.STATE ≠ 2 ∨ s.winder.inStroke = true) ∧ v = 4) ∧
    (∃ (s : State) (src : Nat) (v : Nat), s.rd EN_STATUS.HALTED = 0 ∧ s.rd BW_STATUS.ENUMERATED = 1 ∧ s.rd BW_STATUS.HEAD = 0 ∧ s.rd BW_STATUS.DOWN_LINK = 0 ∧ s.rd BW_STATUS.UP_LINK = 0 ∧ s.rd WD_GROUP_CTRL.JOIN = 1 ∧ src ∈ s.winder.members.map (fun m => m.addr) ∧ src = s.rd WD_GROUP_STATUS.LEADER_ADDR ∧ (s.rd WD_STATUS.STATE ≠ 2 ∨ s.winder.inStroke = true) ∧ v ≠ 2) ∧
    (∃ (s : State) (src : Nat), s.rd EN_STATUS.HALTED = 0 ∧ s.rd BW_STATUS.ENUMERATED = 1 ∧ s.rd BW_STATUS.HEAD = 0 ∧ s.rd BW_STATUS.DOWN_LINK = 0 ∧ s.rd BW_STATUS.UP_LINK = 0 ∧ s.rd WD_GROUP_CTRL.JOIN = 1 ∧ src ∈ s.winder.members.map (fun m => m.addr) ∧ src = s.rd WD_GROUP_STATUS.LEADER_ADDR ∧ (s.rd WD_STATUS.STATE ≠ 2 ∨ s.winder.inStroke = true)) :=
  ⟨⟨{ bwG [(BW_STATUS.ENUMERATED.key, 1), (WD_GROUP_CTRL.JOIN.key, 1), (BW_STATUS.ADDR.key, 7), (WD_GROUP_STATUS.LEADER_ADDR.key, 4), (WD_HORIZON.H.key, 5)] with winder := { State.reset.winder with members := [memG 4 3 true, memG 9 3 false] } }, 4, 5, by decide +kernel⟩,
   ⟨{ bwG [(BW_STATUS.ENUMERATED.key, 1), (WD_GROUP_CTRL.JOIN.key, 1), (BW_STATUS.ADDR.key, 7), (WD_GROUP_STATUS.LEADER_ADDR.key, 4)] with winder := { State.reset.winder with members := [memG 4 3 true, memG 9 3 false], events := [⟨.sample, 4, 2, 0, []⟩] } }, 4, 9, 1, by decide +kernel⟩,
   ⟨{ bwG [(BW_STATUS.ENUMERATED.key, 1), (WD_GROUP_CTRL.JOIN.key, 1), (BW_STATUS.ADDR.key, 7), (WD_GROUP_STATUS.LEADER_ADDR.key, 4), (WD_STOP_TALLY.S.key, 9)] with winder := { State.reset.winder with members := [memG 4 3 true, memG 9 3 false] } }, 4, 9, 1, by decide +kernel⟩,
   ⟨{ bwG [(BW_STATUS.ENUMERATED.key, 1), (WD_GROUP_CTRL.JOIN.key, 1), (BW_STATUS.ADDR.key, 7), (WD_GROUP_STATUS.LEADER_ADDR.key, 4)] with winder := { State.reset.winder with members := [memG 4 3 true, memG 9 3 false], events := [⟨.stop, 9, 0, 1, []⟩, ⟨.stop, 10, 0, 1, []⟩] } }, 4, 4, by decide +kernel⟩,
   ⟨{ bwG [(BW_STATUS.ENUMERATED.key, 1), (WD_GROUP_CTRL.JOIN.key, 1), (BW_STATUS.ADDR.key, 7), (WD_GROUP_STATUS.LEADER_ADDR.key, 4)] with winder := { State.reset.winder with members := [memG 4 3 true, memG 9 3 false] } }, 4, 0, by decide +kernel⟩,
   ⟨{ bwG [(BW_STATUS.ENUMERATED.key, 1), (WD_GROUP_CTRL.JOIN.key, 1), (BW_STATUS.ADDR.key, 7), (WD_GROUP_STATUS.LEADER_ADDR.key, 4), (WD_STATUS.STATE.key, 2)] with winder := { State.reset.winder with members := [memG 4 3 true, memG 9 3 false], inStroke := true } }, 4, by decide +kernel⟩⟩

/-- The hypotheses of each clause of `Obligations.BellGroup` can be met (3). -/
theorem test_hyps_BellGroup_3 :
    (∃ (s : State) (src : Nat) (e : Nat) (v : Nat), s.rd EN_STATUS.HALTED = 0 ∧ s.rd BW_STATUS.ENUMERATED = 1 ∧ s.rd BW_STATUS.HEAD = 0 ∧ s.rd BW_STATUS.DOWN_LINK = 0 ∧ s.rd BW_STATUS.UP_LINK = 0 ∧ s.rd WD_GROUP_CTRL.JOIN = 1 ∧ src ∈ s.winder.members.map (fun m => m.addr) ∧ src = s.rd WD_GROUP_STATUS.LEADER_ADDR ∧ s.rd WD_STATUS.STATE = 2 ∧ s.winder.inStroke = false ∧ s.winder.events = [] ∧ s.winder.cmd = none ∧ s.winder.duty = none ∧ v < 16 ∧ v ≠ 3 ∧ v ≠ 4 ∧ v ≠ 8 ∧ e = s.rd WD_TALLY.TALLY ∧ e < s.rd WD_STOP_TALLY.S) ∧
    (∃ (s : State) (src : Nat), s.rd EN_STATUS.HALTED = 0 ∧ s.rd BW_STATUS.ENUMERATED = 1 ∧ s.rd BW_STATUS.HEAD = 0 ∧ s.rd BW_STATUS.DOWN_LINK = 0 ∧ s.rd BW_STATUS.UP_LINK = 0 ∧ s.rd WD_GROUP_CTRL.JOIN = 1 ∧ src ∈ s.winder.members.map (fun m => m.addr) ∧ src = s.rd WD_GROUP_STATUS.LEADER_ADDR) ∧
    (∃ (s : State) (src : Nat), s.rd EN_STATUS.HALTED = 0 ∧ s.rd BW_STATUS.ENUMERATED = 1 ∧ s.rd BW_STATUS.HEAD = 0 ∧ s.rd BW_STATUS.DOWN_LINK = 0 ∧ s.rd BW_STATUS.UP_LINK = 0 ∧ s.rd WD_GROUP_CTRL.JOIN = 1 ∧ src ∈ s.winder.members.map (fun m => m.addr) ∧ src = s.rd WD_GROUP_STATUS.LEADER_ADDR ∧ s.rd WD_STATUS.STATE = 1 ∧ s.rd WD_STATUS.LEADER = 0) ∧
    (∃ (s : State) (src : Nat), s.rd EN_STATUS.HALTED = 0 ∧ s.rd BW_STATUS.ENUMERATED = 1 ∧ s.rd BW_STATUS.HEAD = 0 ∧ s.rd BW_STATUS.DOWN_LINK = 0 ∧ s.rd BW_STATUS.UP_LINK = 0 ∧ s.rd WD_GROUP_CTRL.JOIN = 1 ∧ src ∈ s.winder.members.map (fun m => m.addr) ∧ src = s.rd WD_GROUP_STATUS.LEADER_ADDR ∧ s.rd WD_STATUS.STATE = 1 ∧ s.rd WD_STATUS.LEADER = 0) ∧
    (∃ (s : State) (src : Nat) (v : Nat), s.rd EN_STATUS.HALTED = 0 ∧ s.rd BW_STATUS.ENUMERATED = 1 ∧ s.rd BW_STATUS.HEAD = 0 ∧ s.rd BW_STATUS.DOWN_LINK = 0 ∧ s.rd BW_STATUS.UP_LINK = 0 ∧ s.rd WD_GROUP_CTRL.JOIN = 1 ∧ src ∈ s.winder.members.map (fun m => m.addr) ∧ src = s.rd WD_GROUP_STATUS.LEADER_ADDR ∧ s.restorable v = false) ∧
    (∃ (s : State) (src : Nat) (v : Nat), s.rd EN_STATUS.HALTED = 0 ∧ s.rd BW_STATUS.ENUMERATED = 1 ∧ s.rd BW_STATUS.HEAD = 0 ∧ s.rd BW_STATUS.DOWN_LINK = 0 ∧ s.rd BW_STATUS.UP_LINK = 0 ∧ s.rd WD_GROUP_CTRL.JOIN = 1 ∧ src ∈ s.winder.members.map (fun m => m.addr) ∧ src = s.rd WD_GROUP_STATUS.LEADER_ADDR ∧ s.restorable v = true ∧ s.rd WD_STATUS.STATE = 1) :=
  ⟨⟨{ bwG [(BW_STATUS.ENUMERATED.key, 1), (WD_GROUP_CTRL.JOIN.key, 1), (BW_STATUS.ADDR.key, 7), (WD_GROUP_STATUS.LEADER_ADDR.key, 4), (WD_STATUS.STATE.key, 2), (WD_TALLY.TALLY.key, 9)] with winder := { State.reset.winder with members := [memG 4 3 true, memG 9 3 false] } }, 4, 9, 6, by decide +kernel⟩,
   ⟨{ bwG [(BW_STATUS.ENUMERATED.key, 1), (WD_GROUP_CTRL.JOIN.key, 1), (BW_STATUS.ADDR.key, 7), (WD_GROUP_STATUS.LEADER_ADDR.key, 4)] with winder := { State.reset.winder with members := [memG 4 3 true, memG 9 3 false] } }, 4, by decide +kernel⟩,
   ⟨{ bwG [(BW_STATUS.ENUMERATED.key, 1), (WD_GROUP_CTRL.JOIN.key, 1), (BW_STATUS.ADDR.key, 7), (WD_GROUP_STATUS.LEADER_ADDR.key, 4), (WD_STATUS.STATE.key, 1), (WD_STATUS.LEADER.key, 0), (WD_STATUS.REPLAY_ARMED.key, 1), (WD_REPLAY_END.END.key, 1)] with winder := { State.reset.winder with members := [memG 4 3 true, memG 9 3 false] } }, 4, by decide +kernel⟩,
   ⟨{ bwG [(BW_STATUS.ENUMERATED.key, 1), (WD_GROUP_CTRL.JOIN.key, 1), (BW_STATUS.ADDR.key, 7), (WD_GROUP_STATUS.LEADER_ADDR.key, 4), (WD_STATUS.STATE.key, 1), (WD_STATUS.LEADER.key, 0)] with winder := { State.reset.winder with members := [memG 4 3 true, memG 9 3 false] } }, 4, by decide +kernel⟩,
   ⟨{ bwG [(BW_STATUS.ENUMERATED.key, 1), (WD_GROUP_CTRL.JOIN.key, 1), (BW_STATUS.ADDR.key, 7), (WD_GROUP_STATUS.LEADER_ADDR.key, 4)] with winder := { State.reset.winder with members := [memG 4 3 true, memG 9 3 false] } }, 4, 15, by decide +kernel⟩,
   ⟨{ bwG [(BW_STATUS.ENUMERATED.key, 1), (WD_GROUP_CTRL.JOIN.key, 1), (BW_STATUS.ADDR.key, 7), (WD_GROUP_STATUS.LEADER_ADDR.key, 4), (WD_STATUS.STATE.key, 1), (WD_SMP_STORE.OK.key, 1), (WD_SMP_STORE.SIZE.key, 262143), (WD_SLOT.STATE.key 0 15, 2), (WD_TALLY.TALLY.key, 1000)] with winder := { State.reset.winder with members := [memG 4 3 true] } }, 4, 15, by decide +kernel⟩⟩

/-- The hypotheses of each clause of `Obligations.BellGroup` can be met (4). -/
theorem test_hyps_BellGroup_4 :
    (∃ (s : State) (src : Nat), s.rd EN_STATUS.HALTED = 0 ∧ s.rd BW_STATUS.ENUMERATED = 1 ∧ s.rd BW_STATUS.HEAD = 0 ∧ s.rd BW_STATUS.DOWN_LINK = 0 ∧ s.rd BW_STATUS.UP_LINK = 0 ∧ s.rd WD_GROUP_CTRL.JOIN = 1 ∧ src ∈ s.winder.members.map (fun m => m.addr) ∧ src = s.rd WD_GROUP_STATUS.LEADER_ADDR) ∧
    (∃ (s : State) (src : Nat) (e : Nat), s.rd EN_STATUS.HALTED = 0 ∧ s.rd BW_STATUS.ENUMERATED = 1 ∧ s.rd BW_STATUS.HEAD = 0 ∧ s.rd BW_STATUS.DOWN_LINK = 0 ∧ s.rd BW_STATUS.UP_LINK = 0 ∧ s.rd WD_GROUP_CTRL.JOIN = 1 ∧ src ∈ s.winder.members.map (fun m => m.addr) ∧ src = s.rd WD_GROUP_STATUS.LEADER_ADDR ∧ (e = 4 ∨ e = 8 ∨ 10 ≤ e)) ∧
    (∃ (s : State) (src : Nat) (dst : Nat), s.rd EN_STATUS.HALTED = 0 ∧ s.rd BW_STATUS.ENUMERATED = 1 ∧ dst = s.rd BW_STATUS.ADDR ∧ s.rd WD_GROUP_CTRL.JOIN = 1 ∧ src ∈ s.winder.members.map (fun m => m.addr) ∧ s.winder.regroup = none ∧ s.winder.recovery = none ∧ s.winder.cmd = none ∧ s.winder.lateBound = none ∧ (s.rd WD_STATUS.STATE ≠ 2 ∨ s.winder.inStroke = true)) ∧
    (∃ (s : State) (src : Nat) (dst : Nat) (c : WindCmd), s.rd EN_STATUS.HALTED = 0 ∧ s.rd BW_STATUS.ENUMERATED = 1 ∧ dst = s.rd BW_STATUS.ADDR ∧ s.rd WD_GROUP_CTRL.JOIN = 1 ∧ src ∈ s.winder.members.map (fun m => m.addr) ∧ s.winder.regroup = none ∧ s.winder.recovery = none ∧ s.winder.cmd = some c ∧ c.stage = .checking ∧ c.waiting.filter (fun a => decide (a ≠ src)) ≠ [] ∧ (s.rd WD_STATUS.STATE ≠ 2 ∨ s.winder.inStroke = true)) ∧
    (∃ (s : State) (src : Nat) (dst : Nat), s.rd EN_STATUS.HALTED = 0 ∧ s.rd BW_STATUS.ENUMERATED = 1 ∧ dst = s.rd BW_STATUS.ADDR ∧ s.rd WD_GROUP_CTRL.JOIN = 1 ∧ src ∈ s.winder.members.map (fun m => m.addr) ∧ s.rd WD_STATUS.LEADER = 0) ∧
    (∃ (s : State) (src : Nat) (dst : Nat), s.rd EN_STATUS.HALTED = 0 ∧ s.rd BW_STATUS.ENUMERATED = 1 ∧ dst = s.rd BW_STATUS.ADDR ∧ s.rd WD_GROUP_CTRL.JOIN = 1 ∧ src ∈ s.winder.members.map (fun m => m.addr) ∧ s.rd WD_STATUS.LEADER = 1 ∧ s.rd WD_STATUS.STATE ≠ 2 ∧ s.winder.cmd = none ∧ s.winder.lateBound = none) :=
  ⟨⟨{ bwG [(BW_STATUS.ENUMERATED.key, 1), (WD_GROUP_CTRL.JOIN.key, 1), (BW_STATUS.ADDR.key, 7), (WD_GROUP_STATUS.LEADER_ADDR.key, 4)] with winder := { State.reset.winder with members := [memG 4 3 true, memG 9 3 false] } }, 4, by decide +kernel⟩,
   ⟨{ bwG [(BW_STATUS.ENUMERATED.key, 1), (WD_GROUP_CTRL.JOIN.key, 1), (BW_STATUS.ADDR.key, 7), (WD_GROUP_STATUS.LEADER_ADDR.key, 4)] with winder := { State.reset.winder with members := [memG 4 3 true, memG 9 3 false] } }, 4, 10, by decide +kernel⟩,
   ⟨{ bwG [(BW_STATUS.ENUMERATED.key, 1), (WD_GROUP_CTRL.JOIN.key, 1), (BW_STATUS.ADDR.key, 2)] with winder := { State.reset.winder with members := [memG 4 3 true, memG 9 3 false] } }, 4, 2, by decide +kernel⟩,
   ⟨{ bwG [(BW_STATUS.ENUMERATED.key, 1), (WD_GROUP_CTRL.JOIN.key, 1), (BW_STATUS.ADDR.key, 2), (WD_STATUS.STATE.key, 1)] with winder := { State.reset.winder with members := [memG 4 3 true, memG 9 3 false], cmd := some ⟨1, 0, false, false, .checking, [4, 9], 0, false⟩ } }, 4, 2, ⟨1, 0, false, false, .checking, [4, 9], 0, false⟩, by decide +kernel⟩,
   ⟨{ bwG [(BW_STATUS.ENUMERATED.key, 1), (WD_GROUP_CTRL.JOIN.key, 1), (BW_STATUS.ADDR.key, 2), (WD_STATUS.LEADER.key, 0)] with winder := { State.reset.winder with members := [memG 4 3 true, memG 9 3 false] } }, 4, 2, by decide +kernel⟩,
   ⟨{ bwG [(BW_STATUS.ENUMERATED.key, 1), (WD_GROUP_CTRL.JOIN.key, 1), (BW_STATUS.ADDR.key, 2), (WD_STATUS.LEADER.key, 1)] with winder := { State.reset.winder with members := [memG 4 3 true, memG 9 3 false], events := [⟨.stop, 5, 0, 1, [4, 9]⟩, ⟨.sample, 5, 0, 1, [4, 9]⟩, ⟨.rewind, 5, 0, 1, [4, 9]⟩] } }, 4, 2, by decide +kernel⟩⟩

/-- The hypotheses of each clause of `Obligations.BellGroup` can be met (5). -/
theorem test_hyps_BellGroup_5 :
    (∃ (s : State) (src : Nat) (dst : Nat), s.rd EN_STATUS.HALTED = 0 ∧ s.rd BW_STATUS.ENUMERATED = 1 ∧ dst = s.rd BW_STATUS.ADDR ∧ s.rd WD_GROUP_CTRL.JOIN = 1 ∧ src ∈ s.winder.members.map (fun m => m.addr) ∧ s.rd WD_STATUS.LEADER = 1 ∧ s.rd WD_STATUS.STATE = 2 ∧ s.winder.inStroke = true ∧ s.rd WD_HORIZON.H < s.rd WD_STOP_TALLY.S) ∧
    (∃ (s : State) (src : Nat) (dst : Nat), s.rd EN_STATUS.HALTED = 0 ∧ s.rd BW_STATUS.ENUMERATED = 1 ∧ dst = s.rd BW_STATUS.ADDR ∧ s.rd WD_GROUP_CTRL.JOIN = 1 ∧ src ∈ s.winder.members.map (fun m => m.addr) ∧ s.rd WD_STATUS.LEADER = 1 ∧ s.rd WD_STATUS.STATE ≠ 2) ∧
    (∃ (s : State) (src : Nat) (dst : Nat) (e : Nat), s.rd EN_STATUS.HALTED = 0 ∧ s.rd BW_STATUS.ENUMERATED = 1 ∧ dst = s.rd BW_STATUS.ADDR ∧ s.rd WD_GROUP_CTRL.JOIN = 1 ∧ src ∈ s.winder.members.map (fun m => m.addr) ∧ s.rd WD_STATUS.LEADER = 1 ∧ (s.rd WD_STATUS.STATE = 1 ∨ s.rd WD_STATUS.STATE = 2) ∧ s.rd WD_SMP_SEQ.SEQ < 2 ^ 32 - 1 ∧ e = (if s.rd WD_STATUS.STATE = 2 then s.rd WD_HORIZON.H else s.rd WD_TALLY.TALLY)) ∧
    (∃ (s : State) (src : Nat) (dst : Nat), s.rd EN_STATUS.HALTED = 0 ∧ s.rd BW_STATUS.ENUMERATED = 1 ∧ dst = s.rd BW_STATUS.ADDR ∧ s.rd WD_GROUP_CTRL.JOIN = 1 ∧ src ∈ s.winder.members.map (fun m => m.addr) ∧ s.rd WD_STATUS.LEADER = 1 ∧ s.rd WD_STATUS.STATE ≠ 2 ∧ s.rd WD_GROUP_CTRL.AUTO_REWIND = 0) ∧
    (∃ (s : State) (src : Nat) (dst : Nat) (r : Recovery), s.rd EN_STATUS.HALTED = 0 ∧ s.rd BW_STATUS.ENUMERATED = 1 ∧ dst = s.rd BW_STATUS.ADDR ∧ s.rd WD_GROUP_CTRL.JOIN = 1 ∧ src ∈ s.winder.members.map (fun m => m.addr) ∧ s.rd WD_STATUS.LEADER = 1 ∧ s.rd WD_STATUS.STATE ≠ 2 ∧ s.rd WD_GROUP_CTRL.AUTO_REWIND = 1 ∧ s.winder.recovery = some r ∧ r.stage = .stopping) ∧
    (∃ (s : State) (src : Nat) (dst : Nat), s.rd EN_STATUS.HALTED = 0 ∧ s.rd BW_STATUS.ENUMERATED = 1 ∧ dst = s.rd BW_STATUS.ADDR ∧ s.rd WD_GROUP_CTRL.JOIN = 1 ∧ src ∈ s.winder.members.map (fun m => m.addr) ∧ s.rd WD_STATUS.LEADER = 1) :=
  ⟨⟨{ bwG [(BW_STATUS.ENUMERATED.key, 1), (WD_GROUP_CTRL.JOIN.key, 1), (BW_STATUS.ADDR.key, 2), (WD_STATUS.LEADER.key, 1), (WD_STATUS.STATE.key, 2), (WD_HORIZON.H.key, 50)] with winder := { State.reset.winder with members := [memG 4 3 true, memG 9 3 false], inStroke := true } }, 4, 2, by decide +kernel⟩,
   ⟨{ bwG [(BW_STATUS.ENUMERATED.key, 1), (WD_GROUP_CTRL.JOIN.key, 1), (BW_STATUS.ADDR.key, 2), (WD_STATUS.LEADER.key, 1), (WD_STATUS.STATE.key, 1)] with winder := { State.reset.winder with members := [memG 4 3 true, memG 9 3 false] } }, 4, 2, by decide +kernel⟩,
   ⟨{ bwG [(BW_STATUS.ENUMERATED.key, 1), (WD_GROUP_CTRL.JOIN.key, 1), (BW_STATUS.ADDR.key, 2), (WD_STATUS.LEADER.key, 1), (WD_STATUS.STATE.key, 2), (WD_HORIZON.H.key, 50), (WD_SMP_SEQ.SEQ.key, 4294967294)] with winder := { State.reset.winder with members := [memG 4 3 true, memG 9 3 false] } }, 4, 2, 50, by decide +kernel⟩,
   ⟨{ bwG [(BW_STATUS.ENUMERATED.key, 1), (WD_GROUP_CTRL.JOIN.key, 1), (BW_STATUS.ADDR.key, 2), (WD_STATUS.LEADER.key, 1), (WD_STATUS.STATE.key, 1)] with winder := { State.reset.winder with members := [memG 4 3 true, memG 9 3 false] } }, 4, 2, by decide +kernel⟩,
   ⟨{ bwG [(BW_STATUS.ENUMERATED.key, 1), (WD_GROUP_CTRL.JOIN.key, 1), (BW_STATUS.ADDR.key, 2), (WD_STATUS.LEADER.key, 1), (WD_STATUS.STATE.key, 1), (WD_GROUP_CTRL.AUTO_REWIND.key, 1)] with winder := { State.reset.winder with members := [memG 4 3 true, memG 9 3 false], recovery := some ⟨.stopping, 900, 0, true, 0, [4, 9], false⟩ } }, 4, 2, ⟨.stopping, 900, 0, true, 0, [4, 9], false⟩, by decide +kernel⟩,
   ⟨{ bwG [(BW_STATUS.ENUMERATED.key, 1), (WD_GROUP_CTRL.JOIN.key, 1), (BW_STATUS.ADDR.key, 2), (WD_STATUS.LEADER.key, 1)] with winder := { State.reset.winder with members := [memG 4 3 true, memG 9 3 false] } }, 4, 2, by decide +kernel⟩⟩

/-- The hypotheses of each clause of `Obligations.BellGroup` can be met (6). -/
theorem test_hyps_BellGroup_6 :
    (∃ (s : State) (src : Nat) (dst : Nat), s.rd EN_STATUS.HALTED = 0 ∧ s.rd BW_STATUS.ENUMERATED = 1 ∧ dst = s.rd BW_STATUS.ADDR ∧ s.rd WD_GROUP_CTRL.JOIN = 1 ∧ src ∈ s.winder.members.map (fun m => m.addr) ∧ s.rd WD_STATUS.LEADER = 1 ∧ s.winder.recovery = none ∧ s.winder.cmd = none ∧ s.winder.lateBound = none) ∧
    (∃ (s : State) (src : Nat) (dst : Nat) (c : WindCmd), s.rd EN_STATUS.HALTED = 0 ∧ s.rd BW_STATUS.ENUMERATED = 1 ∧ dst = s.rd BW_STATUS.ADDR ∧ s.rd WD_GROUP_CTRL.JOIN = 1 ∧ src ∈ s.winder.members.map (fun m => m.addr) ∧ s.rd WD_STATUS.LEADER = 1 ∧ s.winder.recovery = none ∧ s.winder.cmd = some c ∧ c.waiting.filter (fun a => decide (a ≠ src)) ≠ []) ∧
    (∃ (s : State) (src : Nat) (dst : Nat) (v : Nat) (c : WindCmd), s.rd EN_STATUS.HALTED = 0 ∧ s.rd BW_STATUS.ENUMERATED = 1 ∧ dst = s.rd BW_STATUS.ADDR ∧ s.rd WD_GROUP_CTRL.JOIN = 1 ∧ src ∈ s.winder.members.map (fun m => m.addr) ∧ s.rd WD_STATUS.LEADER = 1 ∧ s.winder.recovery = none ∧ s.winder.cmd = some c ∧ c.waiting.filter (fun a => decide (a ≠ src)) = [] ∧ c.ownDone = true ∧ c.result = 0 ∧ v < 16 ∧ s.winder.lateBound = none) ∧
    (∃ (s : State) (src : Nat) (dst : Nat) (v : Nat) (r : Recovery), s.rd EN_STATUS.HALTED = 0 ∧ s.rd BW_STATUS.ENUMERATED = 1 ∧ dst = s.rd BW_STATUS.ADDR ∧ s.rd WD_GROUP_CTRL.JOIN = 1 ∧ src ∈ s.winder.members.map (fun m => m.addr) ∧ s.rd WD_STATUS.LEADER = 1 ∧ s.winder.recovery = some r ∧ r.stage = .rewinding ∧ v ≠ 0 ∧ s.winder.cmd = none) ∧
    (∃ (s : State) (src : Nat) (dst : Nat) (v : Nat) (r : Recovery), s.rd EN_STATUS.HALTED = 0 ∧ s.rd BW_STATUS.ENUMERATED = 1 ∧ dst = s.rd BW_STATUS.ADDR ∧ s.rd WD_GROUP_CTRL.JOIN = 1 ∧ src ∈ s.winder.members.map (fun m => m.addr) ∧ s.rd WD_STATUS.LEADER = 1 ∧ s.winder.recovery = some r ∧ r.stage = .rewinding ∧ v = 0 ∧ r.waiting.filter (fun a => decide (a ≠ src)) ≠ []) :=
  ⟨⟨{ bwG [(BW_STATUS.ENUMERATED.key, 1), (WD_GROUP_CTRL.JOIN.key, 1), (BW_STATUS.ADDR.key, 2), (WD_STATUS.LEADER.key, 1)] with winder := { State.reset.winder with members := [memG 4 3 true, memG 9 3 false] } }, 4, 2, by decide +kernel⟩,
   ⟨{ bwG [(BW_STATUS.ENUMERATED.key, 1), (WD_GROUP_CTRL.JOIN.key, 1), (BW_STATUS.ADDR.key, 2), (WD_STATUS.LEADER.key, 1)] with winder := { State.reset.winder with members := [memG 4 3 true, memG 9 3 false], cmd := some ⟨1, 0, false, false, .waiting, [4, 9], 0, false⟩ } }, 4, 2, ⟨1, 0, false, false, .waiting, [4, 9], 0, false⟩, by decide +kernel⟩,
   ⟨{ bwG [(BW_STATUS.ENUMERATED.key, 1), (WD_GROUP_CTRL.JOIN.key, 1), (BW_STATUS.ADDR.key, 2), (WD_STATUS.LEADER.key, 1), (WD_CMD_STATUS.BUSY.key, 1)] with winder := { State.reset.winder with members := [memG 4 3 true, memG 9 3 false], cmd := some ⟨1, 0, false, false, .waiting, [4], 0, true⟩ } }, 4, 2, 15, ⟨1, 0, false, false, .waiting, [4], 0, true⟩, by decide +kernel⟩,
   ⟨{ bwG [(BW_STATUS.ENUMERATED.key, 1), (WD_GROUP_CTRL.JOIN.key, 1), (BW_STATUS.ADDR.key, 2), (WD_STATUS.LEADER.key, 1)] with winder := { State.reset.winder with members := [memG 4 3 true, memG 9 3 false], recovery := some ⟨.rewinding, 900, 0, true, 0, [4, 9], false⟩ } }, 4, 2, 7, ⟨.rewinding, 900, 0, true, 0, [4, 9], false⟩, by decide +kernel⟩,
   ⟨{ bwG [(BW_STATUS.ENUMERATED.key, 1), (WD_GROUP_CTRL.JOIN.key, 1), (BW_STATUS.ADDR.key, 2), (WD_STATUS.LEADER.key, 1)] with winder := { State.reset.winder with members := [memG 4 3 true, memG 9 3 false], recovery := some ⟨.rewinding, 900, 0, true, 0, [4, 9], false⟩ } }, 4, 2, 0, ⟨.rewinding, 900, 0, true, 0, [4, 9], false⟩, by decide +kernel⟩⟩

/-- The hypotheses of `Obligations.IncrementWrites` can be met. -/
theorem test_hyps_IncrementWrites :
    (∃ (s : State) (v : Nat) (ticks : Nat) (c : Nat) (x : Nat) (fm : Bool), s.clk.stage = .running ∧ (s.rd SC_CTRL.SRC = 0 ∨ fm = true) ∧ 0x0003000000000000 ≤ v ∧ v ≤ 0x0003FFFFFFFFFFFF ∧ c = (s.rd SC_COUNT.COUNT + ticks) % 2 ^ 64 ∧ x = (((s.rd SC_EPOCH_TIME.EPOCH_TIME * 2 ^ 48 + s.shift.epochFrac : Nat) : Int) + ((c : Int) - s.rd SC_EPOCH_COUNT.EPOCH_COUNT) * s.rd SC_INC.INC).emod (2 ^ 112)) :=
  ⟨time0 (2 ^ 64 - 1) [], 0x0003FFFFFFFFFFFF, 16, 15, 20 * 2 ^ 48, false, by decide +kernel⟩

/-- The hypotheses of `Obligations.TimeSteps` can be met. -/
theorem test_hyps_TimeSteps :
    (∃ (s : State) (v : Nat) (ticks : Nat) (c : Nat) (fm : Bool), s.clk.stage = .running ∧ (s.rd SC_CTRL.SRC = 0 ∨ fm = true) ∧ v < 2 ^ 64 ∧ c = (s.rd SC_COUNT.COUNT + ticks) % 2 ^ 64) :=
  ⟨time0 (2 ^ 64 - 1) [(SC_CTRL.SRC.key, 2)], 2 ^ 64 - 1, 16, 15, true, by decide +kernel⟩

/-- The hypotheses of each clause of `Obligations.ShiftRegisters` can be met. -/
theorem test_hyps_ShiftRegisters :
    (∃ (s : State) (ticks : Nat) (c : Nat) (x : Nat) (v : Nat), s.clk.stage = .running ∧ c = (s.rd SC_COUNT.COUNT + ticks) % 2 ^ 64 ∧ x = (((s.rd SC_EPOCH_TIME.EPOCH_TIME * 2 ^ 48 + s.shift.epochFrac : Nat) : Int) + ((c : Int) - s.rd SC_EPOCH_COUNT.EPOCH_COUNT) * s.rd SC_INC.INC).emod (2 ^ 112) ∧ (v < 0x0003000000000000 ∨ (0x0003FFFFFFFFFFFF < v ∧ v < 2 ^ 64)) ∧ s.rd SC_CTRL.SRC = 0) ∧
    (∃ (s : State) (ticks : Nat) (c : Nat) (x : Nat) (v : Nat), s.clk.stage = .running ∧ c = (s.rd SC_COUNT.COUNT + ticks) % 2 ^ 64 ∧ x = (((s.rd SC_EPOCH_TIME.EPOCH_TIME * 2 ^ 48 + s.shift.epochFrac : Nat) : Int) + ((c : Int) - s.rd SC_EPOCH_COUNT.EPOCH_COUNT) * s.rd SC_INC.INC).emod (2 ^ 112) ∧ 0x0003000000000000 ≤ v ∧ v ≤ 0x0003FFFFFFFFFFFF ∧ s.rd SC_CTRL.SRC ≠ 0) ∧
    (∃ (s : State) (ticks : Nat) (c : Nat) (x : Nat), s.clk.stage = .running ∧ c = (s.rd SC_COUNT.COUNT + ticks) % 2 ^ 64 ∧ x = (((s.rd SC_EPOCH_TIME.EPOCH_TIME * 2 ^ 48 + s.shift.epochFrac : Nat) : Int) + ((c : Int) - s.rd SC_EPOCH_COUNT.EPOCH_COUNT) * s.rd SC_INC.INC).emod (2 ^ 112) ∧ s.rd SC_CTRL.SRC ≠ 0) ∧
    (∃ (s : State) (ticks : Nat) (c : Nat) (x : Nat) (half : Nat) (now : Nat), s.clk.stage = .running ∧ c = (s.rd SC_COUNT.COUNT + ticks) % 2 ^ 64 ∧ x = (((s.rd SC_EPOCH_TIME.EPOCH_TIME * 2 ^ 48 + s.shift.epochFrac : Nat) : Int) + ((c : Int) - s.rd SC_EPOCH_COUNT.EPOCH_COUNT) * s.rd SC_INC.INC).emod (2 ^ 112) ∧ (half = 1 ∨ half = 2) ∧ now = x / 2 ^ 48) ∧
    (∃ (s : State) (ticks : Nat) (c : Nat) (x : Nat), s.clk.stage = .running ∧ c = (s.rd SC_COUNT.COUNT + ticks) % 2 ^ 64 ∧ x = (((s.rd SC_EPOCH_TIME.EPOCH_TIME * 2 ^ 48 + s.shift.epochFrac : Nat) : Int) + ((c : Int) - s.rd SC_EPOCH_COUNT.EPOCH_COUNT) * s.rd SC_INC.INC).emod (2 ^ 112)) ∧
    (∃ (s : State) (ticks : Nat) (c : Nat) (x : Nat), s.clk.stage = .running ∧ c = (s.rd SC_COUNT.COUNT + ticks) % 2 ^ 64 ∧ x = (((s.rd SC_EPOCH_TIME.EPOCH_TIME * 2 ^ 48 + s.shift.epochFrac : Nat) : Int) + ((c : Int) - s.rd SC_EPOCH_COUNT.EPOCH_COUNT) * s.rd SC_INC.INC).emod (2 ^ 112)) ∧
    (∃ (s : State) (ticks : Nat) (c : Nat) (x : Nat) (src : Nat), s.clk.stage = .running ∧ c = (s.rd SC_COUNT.COUNT + ticks) % 2 ^ 64 ∧ x = (((s.rd SC_EPOCH_TIME.EPOCH_TIME * 2 ^ 48 + s.shift.epochFrac : Nat) : Int) + ((c : Int) - s.rd SC_EPOCH_COUNT.EPOCH_COUNT) * s.rd SC_INC.INC).emod (2 ^ 112) ∧ (src % 4 = 3 ∨ src % 4 = s.rd SC_CTRL.SRC)) ∧
    (∃ (s : State) (ticks : Nat) (c : Nat) (x : Nat) (src : Nat), s.clk.stage = .running ∧ c = (s.rd SC_COUNT.COUNT + ticks) % 2 ^ 64 ∧ x = (((s.rd SC_EPOCH_TIME.EPOCH_TIME * 2 ^ 48 + s.shift.epochFrac : Nat) : Int) + ((c : Int) - s.rd SC_EPOCH_COUNT.EPOCH_COUNT) * s.rd SC_INC.INC).emod (2 ^ 112) ∧ src < 3 ∧ src ≠ s.rd SC_CTRL.SRC) :=
  ⟨⟨time0 0 [], 7, 7, 2 ^ 112 - 4 * 2 ^ 48, 0x0002FFFFFFFFFFFF, by decide +kernel⟩,
   ⟨time0 0 [(SC_CTRL.SRC.key, 1)], 7, 7, 2 ^ 112 - 4 * 2 ^ 48, 0x0003000000000000, by decide +kernel⟩,
   ⟨time0 0 [(SC_CTRL.SRC.key, 1)], 7, 7, 2 ^ 112 - 4 * 2 ^ 48, by decide +kernel⟩,
   ⟨time0 0 [], 7, 7, 2 ^ 112 - 4 * 2 ^ 48, 2, 2 ^ 64 - 4, by decide +kernel⟩,
   ⟨time0 0 [], 7, 7, 2 ^ 112 - 4 * 2 ^ 48, by decide +kernel⟩,
   ⟨time0 0 [], 7, 7, 2 ^ 112 - 4 * 2 ^ 48, by decide +kernel⟩,
   ⟨time0 0 [], 7, 7, 2 ^ 112 - 4 * 2 ^ 48, 3, by decide +kernel⟩,
   ⟨time0 0 [(SC_CTRL.SRC.key, 2), (BW_STATUS.UP_LINK.key, 1)], 7, 7, 2 ^ 112 - 4 * 2 ^ 48, 1, by decide +kernel⟩⟩

/-- The hypotheses of each clause of `Obligations.TimeFollowing` can be met. -/
theorem test_hyps_TimeFollowing :
    (∃ (s : State) (ticks : Nat) (c : Nat) (now : Nat), c = (s.rd SC_COUNT.COUNT + ticks) % 2 ^ 64 ∧ now = (((s.rd SC_EPOCH_TIME.EPOCH_TIME * 2 ^ 48 + s.shift.epochFrac : Nat) : Int) + ((c : Int) - s.rd SC_EPOCH_COUNT.EPOCH_COUNT) * s.rd SC_INC.INC).emod (2 ^ 112) / 2 ^ 48 ∧ (s.halted = true ∨ s.rd BW_STATUS.HEAD ≠ 0 ∨ s.rd BW_STATUS.ENUMERATED = 0)) ∧
    (∃ (s : State) (ticks : Nat) (c : Nat) (now : Nat), c = (s.rd SC_COUNT.COUNT + ticks) % 2 ^ 64 ∧ now = (((s.rd SC_EPOCH_TIME.EPOCH_TIME * 2 ^ 48 + s.shift.epochFrac : Nat) : Int) + ((c : Int) - s.rd SC_EPOCH_COUNT.EPOCH_COUNT) * s.rd SC_INC.INC).emod (2 ^ 112) / 2 ^ 48 ∧ s.halted = false ∧ s.rd BW_STATUS.HEAD = 0 ∧ s.rd BW_STATUS.ENUMERATED ≠ 0 ∧ s.rd SC_CTRL.SRC ≠ 1 ∧ s.rd BW_STATUS.DOWN_LINK ≠ 0) ∧
    (∃ (s : State) (m : TimeMsg) (ticks : Nat) (c : Nat) (now : Nat) (off : Int), c = (s.rd SC_COUNT.COUNT + ticks) % 2 ^ 64 ∧ now = (((s.rd SC_EPOCH_TIME.EPOCH_TIME * 2 ^ 48 + s.shift.epochFrac : Nat) : Int) + ((c : Int) - s.rd SC_EPOCH_COUNT.EPOCH_COUNT) * s.rd SC_INC.INC).emod (2 ^ 112) / 2 ^ 48 ∧ off = (16 * m.mtime + m.corr + s.rd SC_CTRL.HOP_NS : Nat) - 16 * (now : Int) ∧ s.clk.stage = .running ∧ s.halted = false ∧ s.rd BW_STATUS.HEAD = 0 ∧ s.rd BW_STATUS.ENUMERATED ≠ 0 ∧ s.rd SC_CTRL.SRC = 1 ∧ s.rd BW_STATUS.DOWN_LINK = 0 ∧ -(2 ^ 35) < off ∧ off < 2 ^ 35) ∧
    (∃ (s : State) (ticks : Nat) (c : Nat) (now : Nat), c = (s.rd SC_COUNT.COUNT + ticks) % 2 ^ 64 ∧ now = (((s.rd SC_EPOCH_TIME.EPOCH_TIME * 2 ^ 48 + s.shift.epochFrac : Nat) : Int) + ((c : Int) - s.rd SC_EPOCH_COUNT.EPOCH_COUNT) * s.rd SC_INC.INC).emod (2 ^ 112) / 2 ^ 48 ∧ (s.rd SC_CTRL.SRC ≠ 2 ∨ (s.rd IO_MG_STATUS.OWNED).testBit 3 = false)) ∧
    (∃ (s : State) (ticks : Nat) (c : Nat) (now : Nat) (off : Int), c = (s.rd SC_COUNT.COUNT + ticks) % 2 ^ 64 ∧ now = (((s.rd SC_EPOCH_TIME.EPOCH_TIME * 2 ^ 48 + s.shift.epochFrac : Nat) : Int) + ((c : Int) - s.rd SC_EPOCH_COUNT.EPOCH_COUNT) * s.rd SC_INC.INC).emod (2 ^ 112) / 2 ^ 48 ∧ s.rd SC_CTRL.SRC = 2 ∧ (s.rd IO_MG_STATUS.OWNED).testBit 3 = true ∧ off.natAbs ≤ 16 * s.rd SC_CTRL.LOCK_NS ∧ s.rd SC_STATUS.STATE = 1 ∧ s.shift.within = 7) ∧
    (∃ (s : State) (ticks : Nat) (c : Nat) (now : Nat) (off : Int), c = (s.rd SC_COUNT.COUNT + ticks) % 2 ^ 64 ∧ now = (((s.rd SC_EPOCH_TIME.EPOCH_TIME * 2 ^ 48 + s.shift.epochFrac : Nat) : Int) + ((c : Int) - s.rd SC_EPOCH_COUNT.EPOCH_COUNT) * s.rd SC_INC.INC).emod (2 ^ 112) / 2 ^ 48 ∧ s.rd SC_CTRL.SRC = 2 ∧ (s.rd IO_MG_STATUS.OWNED).testBit 3 = true ∧ off.natAbs ≤ 16 * s.rd SC_CTRL.LOCK_NS ∧ s.rd SC_STATUS.STATE = 1 ∧ s.shift.within < 7) ∧
    (∃ (s : State) (ticks : Nat) (c : Nat) (now : Nat) (off : Int), c = (s.rd SC_COUNT.COUNT + ticks) % 2 ^ 64 ∧ now = (((s.rd SC_EPOCH_TIME.EPOCH_TIME * 2 ^ 48 + s.shift.epochFrac : Nat) : Int) + ((c : Int) - s.rd SC_EPOCH_COUNT.EPOCH_COUNT) * s.rd SC_INC.INC).emod (2 ^ 112) / 2 ^ 48 ∧ s.rd SC_CTRL.SRC = 2 ∧ (s.rd IO_MG_STATUS.OWNED).testBit 3 = true ∧ 16 * s.rd SC_CTRL.LOCK_NS < off.natAbs ∧ s.rd SC_STATUS.STATE = 2) ∧
    (∃ (s : State) (ticks : Nat) (c : Nat) (now : Nat), c = (s.rd SC_COUNT.COUNT + ticks) % 2 ^ 64 ∧ now = (((s.rd SC_EPOCH_TIME.EPOCH_TIME * 2 ^ 48 + s.shift.epochFrac : Nat) : Int) + ((c : Int) - s.rd SC_EPOCH_COUNT.EPOCH_COUNT) * s.rd SC_INC.INC).emod (2 ^ 112) / 2 ^ 48 ∧ (s.rd BW_STATUS.HEAD = 0 ∨ s.rd SC_CTRL.HEAD_SEND = 0 ∨ s.rd BW_STATUS.DOWN_LINK = 0 ∨ s.halted = true)) ∧
    (∃ (s : State) (ticks : Nat) (c : Nat) (now : Nat), c = (s.rd SC_COUNT.COUNT + ticks) % 2 ^ 64 ∧ now = (((s.rd SC_EPOCH_TIME.EPOCH_TIME * 2 ^ 48 + s.shift.epochFrac : Nat) : Int) + ((c : Int) - s.rd SC_EPOCH_COUNT.EPOCH_COUNT) * s.rd SC_INC.INC).emod (2 ^ 112) / 2 ^ 48 ∧ s.clk.stage = .running ∧ s.rd BW_STATUS.HEAD ≠ 0 ∧ s.rd SC_CTRL.HEAD_SEND ≠ 0 ∧ s.rd BW_STATUS.DOWN_LINK ≠ 0 ∧ s.halted = false) ∧
    (∃ (s : State) (ticks : Nat) (c : Nat) (now : Nat), c = (s.rd SC_COUNT.COUNT + ticks) % 2 ^ 64 ∧ now = (((s.rd SC_EPOCH_TIME.EPOCH_TIME * 2 ^ 48 + s.shift.epochFrac : Nat) : Int) + ((c : Int) - s.rd SC_EPOCH_COUNT.EPOCH_COUNT) * s.rd SC_INC.INC).emod (2 ^ 112) / 2 ^ 48 ∧ s.timeMaster = false ∧ s.rd SC_CTRL.SRC ≠ 0 ∧ (s.rd SC_STATUS.STATE = 1 ∨ s.rd SC_STATUS.STATE = 2)) ∧
    (∃ (s : State) (ticks : Nat) (c : Nat) (now : Nat), c = (s.rd SC_COUNT.COUNT + ticks) % 2 ^ 64 ∧ now = (((s.rd SC_EPOCH_TIME.EPOCH_TIME * 2 ^ 48 + s.shift.epochFrac : Nat) : Int) + ((c : Int) - s.rd SC_EPOCH_COUNT.EPOCH_COUNT) * s.rd SC_INC.INC).emod (2 ^ 112) / 2 ^ 48 ∧ (s.timeMaster = true ∨ s.rd SC_CTRL.SRC = 0 ∨ s.rd SC_STATUS.STATE = 0 ∨ s.rd SC_STATUS.STATE = 3)) :=
  ⟨⟨bell0 [(BW_STATUS.HEAD.key, 1)], 0, 8, 100, by decide +kernel⟩,
   ⟨bell0 [(BW_STATUS.DOWN_LINK.key, 1), (BW_STATUS.ADDR.key, 255)], 0, 8, 100, by decide +kernel⟩,
   ⟨bell0 [(SC_CTRL.SRC.key, 1)], ⟨1200, 0, 1, 0, false⟩, 0, 8, 100, 17792, by decide +kernel⟩,
   ⟨bell0 [(SC_CTRL.SRC.key, 1)], 0, 8, 100, by decide +kernel⟩,
   ⟨bell0 [(SC_CTRL.SRC.key, 2), (IO_MG_STATUS.OWNED.key, 8), (SC_STATUS.STATE.key, 1)] |> fun s => { s with shift := { s.shift with within := 7 } }, 0, 8, 100, -320, by decide +kernel⟩,
   ⟨bell0 [(SC_CTRL.SRC.key, 2), (IO_MG_STATUS.OWNED.key, 8), (SC_STATUS.STATE.key, 1)], 0, 8, 100, 320, by decide +kernel⟩,
   ⟨bell0 [(SC_CTRL.SRC.key, 2), (IO_MG_STATUS.OWNED.key, 8), (SC_STATUS.STATE.key, 2)], 0, 8, 100, -321, by decide +kernel⟩,
   ⟨bell0 [], 0, 8, 100, by decide +kernel⟩,
   ⟨bell0 [(BW_STATUS.HEAD.key, 1), (BW_STATUS.DOWN_LINK.key, 1)], 0, 8, 100, by decide +kernel⟩,
   ⟨bell0 [(SC_CTRL.SRC.key, 1), (SC_STATUS.STATE.key, 2)], 0, 8, 100, by decide +kernel⟩,
   ⟨bell0 [(SC_CTRL.SRC.key, 1), (BW_STATUS.HEAD.key, 1)], 0, 8, 100, by decide +kernel⟩⟩

/-- The hypotheses of each clause of `Obligations.CaptureAndCompare` can be met. -/
theorem test_hyps_CaptureAndCompare :
    (∃ (s : State) (i : Nat) (ticks : Nat) (c : Nat) (x : Nat) (now : Nat), s.clk.stage = .running ∧ c = (s.rd SC_COUNT.COUNT + ticks) % 2 ^ 64 ∧ x = (((s.rd SC_EPOCH_TIME.EPOCH_TIME * 2 ^ 48 + s.shift.epochFrac : Nat) : Int) + ((c : Int) - s.rd SC_EPOCH_COUNT.EPOCH_COUNT) * s.rd SC_INC.INC).emod (2 ^ 112) ∧ now = x / 2 ^ 48 ∧ i < 2 ∧ (s.timeFeeds i).length ≠ 1) ∧
    (∃ (s : State) (i : Nat) (ticks : Nat) (c : Nat) (x : Nat) (now : Nat), s.clk.stage = .running ∧ c = (s.rd SC_COUNT.COUNT + ticks) % 2 ^ 64 ∧ x = (((s.rd SC_EPOCH_TIME.EPOCH_TIME * 2 ^ 48 + s.shift.epochFrac : Nat) : Int) + ((c : Int) - s.rd SC_EPOCH_COUNT.EPOCH_COUNT) * s.rd SC_INC.INC).emod (2 ^ 112) ∧ now = x / 2 ^ 48 ∧ i < 2 ∧ (s.timeFeeds i).length = 1) ∧
    (∃ (s : State) (j : Nat) (ticks : Nat) (c : Nat) (x : Nat) (now : Nat) (a : _) (b : _), s.clk.stage = .running ∧ c = (s.rd SC_COUNT.COUNT + ticks) % 2 ^ 64 ∧ x = (((s.rd SC_EPOCH_TIME.EPOCH_TIME * 2 ^ 48 + s.shift.epochFrac : Nat) : Int) + ((c : Int) - s.rd SC_EPOCH_COUNT.EPOCH_COUNT) * s.rd SC_INC.INC).emod (2 ^ 112) ∧ now = x / 2 ^ 48 ∧ j < 4 ∧ a = s.rd SC_CMP_START.START 0 j ∧ b = s.rd SC_CMP_END.END 0 j ∧ s.rd SC_CMP_CTRL.EN 0 j = 0) ∧
    (∃ (s : State) (j : Nat) (ticks : Nat) (c : Nat) (x : Nat) (now : Nat) (a : _) (b : _), s.clk.stage = .running ∧ c = (s.rd SC_COUNT.COUNT + ticks) % 2 ^ 64 ∧ x = (((s.rd SC_EPOCH_TIME.EPOCH_TIME * 2 ^ 48 + s.shift.epochFrac : Nat) : Int) + ((c : Int) - s.rd SC_EPOCH_COUNT.EPOCH_COUNT) * s.rd SC_INC.INC).emod (2 ^ 112) ∧ now = x / 2 ^ 48 ∧ j < 4 ∧ a = s.rd SC_CMP_START.START 0 j ∧ b = s.rd SC_CMP_END.END 0 j ∧ s.rd SC_CMP_CTRL.EN 0 j ≠ 0 ∧ s.rd SC_CMP_CTRL.IN 0 j = 0 ∧ a ≤ now ∧ now < b) ∧
    (∃ (s : State) (j : Nat) (ticks : Nat) (c : Nat) (x : Nat) (now : Nat) (a : _) (b : _), s.clk.stage = .running ∧ c = (s.rd SC_COUNT.COUNT + ticks) % 2 ^ 64 ∧ x = (((s.rd SC_EPOCH_TIME.EPOCH_TIME * 2 ^ 48 + s.shift.epochFrac : Nat) : Int) + ((c : Int) - s.rd SC_EPOCH_COUNT.EPOCH_COUNT) * s.rd SC_INC.INC).emod (2 ^ 112) ∧ now = x / 2 ^ 48 ∧ j < 4 ∧ a = s.rd SC_CMP_START.START 0 j ∧ b = s.rd SC_CMP_END.END 0 j ∧ s.rd SC_CMP_CTRL.EN 0 j ≠ 0 ∧ s.rd SC_CMP_CTRL.IN 0 j ≠ 0 ∧ (now < a ∨ b ≤ now)) ∧
    (∃ (s : State) (j : Nat) (ticks : Nat) (c : Nat) (x : Nat) (now : Nat) (a : _) (b : _) (p : _), s.clk.stage = .running ∧ c = (s.rd SC_COUNT.COUNT + ticks) % 2 ^ 64 ∧ x = (((s.rd SC_EPOCH_TIME.EPOCH_TIME * 2 ^ 48 + s.shift.epochFrac : Nat) : Int) + ((c : Int) - s.rd SC_EPOCH_COUNT.EPOCH_COUNT) * s.rd SC_INC.INC).emod (2 ^ 112) ∧ now = x / 2 ^ 48 ∧ j < 4 ∧ a = s.rd SC_CMP_START.START 0 j ∧ b = s.rd SC_CMP_END.END 0 j ∧ s.rd SC_CMP_CTRL.EN 0 j ≠ 0 ∧ s.rd SC_CMP_CTRL.IN 0 j = 0 ∧ c ≠ 0 ∧ c ≠ s.rd SC_EPOCH_COUNT.EPOCH_COUNT ∧ p = (((s.rd SC_EPOCH_TIME.EPOCH_TIME * 2 ^ 48 + s.shift.epochFrac : Nat) : Int) + ((c : Int) - 1 - s.rd SC_EPOCH_COUNT.EPOCH_COUNT) * s.rd SC_INC.INC).emod (2 ^ 112) / 2 ^ 48 ∧ p < a ∧ a < b ∧ b ≤ now) :=
  ⟨⟨bell0 [], 1, 0, 8, 100 * 2 ^ 48, 100, by decide +kernel⟩,
   ⟨bell0 [(IO_MPIN.ALT_IN.key 0 63, 2)], 1, 0, 8, 100 * 2 ^ 48, 100, by decide +kernel⟩,
   ⟨bell0 [(SC_CMP_END.END.key 0 3, 101)], 3, 0, 8, 100 * 2 ^ 48, 100, 0, 101, by decide +kernel⟩,
   ⟨bell0 [(SC_CMP_START.START.key 0 3, 100), (SC_CMP_END.END.key 0 3, 101), (SC_CMP_CTRL.EN.key 0 3, 1)], 3, 0, 8, 100 * 2 ^ 48, 100, 100, 101, by decide +kernel⟩,
   ⟨bell0 [(SC_CMP_END.END.key 0 3, 100), (SC_CMP_CTRL.EN.key 0 3, 1), (SC_CMP_CTRL.IN.key 0 3, 1)], 3, 0, 8, 100 * 2 ^ 48, 100, 0, 100, by decide +kernel⟩,
   ⟨bell0 [(SC_CMP_START.START.key 0 3, 101), (SC_CMP_END.END.key 0 3, 103), (SC_CMP_CTRL.EN.key 0 3, 1)], 3, 1, 9, 103 * 2 ^ 48, 103, 101, 103, 100, by decide +kernel⟩⟩

/-- The hypotheses of each clause of `Obligations.LampPort` can be met (1). -/
theorem test_hyps_LampPort :
    (∃ (s : State) (u : State) (q : LampReq) (c : Nat) (n : Nat), c = q.bits / 2 % 16 ∧ u = (if q.two then s.wr LP_STATUS.MODE 1 else s) ∧ n = q.bits / 2 ^ 6 % 2 ^ 48 ∧ (s.clk.lampHold = true ∨ (q.two = false ∧ s.rd LP_STATUS.MODE = 1) ∨ q.bits % 2 = 1)) ∧
    (∃ (s : State) (u : State) (q : LampReq) (c : Nat) (n : Nat) (t : State), c = q.bits / 2 % 16 ∧ u = (if q.two then s.wr LP_STATUS.MODE 1 else s) ∧ n = q.bits / 2 ^ 6 % 2 ^ 48 ∧ s.clk.lampHold = false ∧ (q.two = true ∨ s.rd LP_STATUS.MODE = 0) ∧ q.bits % 2 = 0 ∧ q.bits / 2 ^ (1 + lampCovered q) % 2 ^ 8 ≠ crc8Of (lampCovered q) (q.bits / 2) ∧ t = { s.wr LP_STATUS.CRC_ERR (min (s.rd LP_STATUS.CRC_ERR + 1) 0xFFFF) with sent := s.sent ++ [Emission.lamp (lampBits 3 0)] }) ∧
    (∃ (s : State) (u : State) (q : LampReq) (c : Nat) (n : Nat) (t : State), c = q.bits / 2 % 16 ∧ u = (if q.two then s.wr LP_STATUS.MODE 1 else s) ∧ n = q.bits / 2 ^ 6 % 2 ^ 48 ∧ s.clk.lampHold = false ∧ (q.two = true ∨ s.rd LP_STATUS.MODE = 0) ∧ q.bits % 2 = 0 ∧ q.bits / 2 ^ (1 + lampCovered q) % 2 ^ 8 = crc8Of (lampCovered q) (q.bits / 2) ∧ (c = 0 ∨ 4 < c) ∧ t = { u with sent := s.sent ++ [Emission.lamp (lampBits 5 0)] }) ∧
    (∃ (s : State) (u : State) (q : LampReq) (c : Nat) (n : Nat), c = q.bits / 2 % 16 ∧ u = (if q.two then s.wr LP_STATUS.MODE 1 else s) ∧ n = q.bits / 2 ^ 6 % 2 ^ 48 ∧ s.clk.lampHold = false ∧ (q.two = true ∨ s.rd LP_STATUS.MODE = 0) ∧ q.bits % 2 = 0 ∧ q.bits / 2 ^ (1 + lampCovered q) % 2 ^ 8 = crc8Of (lampCovered q) (q.bits / 2) ∧ 0 < c ∧ c < 5 ∧ c ≠ 1) ∧
    (∃ (s : State) (u : State) (q : LampReq) (c : Nat) (n : Nat), c = q.bits / 2 % 16 ∧ u = (if q.two then s.wr LP_STATUS.MODE 1 else s) ∧ n = q.bits / 2 ^ 6 % 2 ^ 48 ∧ s.clk.lampHold = false ∧ (q.two = true ∨ s.rd LP_STATUS.MODE = 0) ∧ q.bits % 2 = 0 ∧ q.bits / 2 ^ (1 + lampCovered q) % 2 ^ 8 = crc8Of (lampCovered q) (q.bits / 2) ∧ 0 < c ∧ c < 5 ∧ c ≠ 2) ∧
    (∃ (s : State) (u : State) (q : LampReq) (c : Nat) (n : Nat), c = q.bits / 2 % 16 ∧ u = (if q.two then s.wr LP_STATUS.MODE 1 else s) ∧ n = q.bits / 2 ^ 6 % 2 ^ 48 ∧ s.clk.lampHold = false ∧ (q.two = true ∨ s.rd LP_STATUS.MODE = 0) ∧ q.bits % 2 = 0 ∧ q.bits / 2 ^ (1 + lampCovered q) % 2 ^ 8 = crc8Of (lampCovered q) (q.bits / 2) ∧ 0 < c ∧ c < 5 ∧ c ≠ 3) :=
  ⟨⟨given [(LP_STATUS.MODE.key, 1)], given [(LP_STATUS.MODE.key, 1)], lampQ false 1 1 8 0 0 0, 1, 8, by decide +kernel⟩,
   ⟨given [(LP_STATUS.CRC_ERR.key, 65535)], (given [(LP_STATUS.CRC_ERR.key, 65535)]).wr LP_STATUS.MODE 1, lampQ true 1 1 8 0 0 1, 1, 8, { (given [(LP_STATUS.CRC_ERR.key, 65535)]).wr LP_STATUS.CRC_ERR 65535 with sent := [Emission.lamp (lampBits 3 0)] }, by decide +kernel⟩,
   ⟨given [(LP_STATUS.LEVEL.key, 2), (FM_READY.READY.key, 1)], (given [(LP_STATUS.LEVEL.key, 2), (FM_READY.READY.key, 1)]).wr LP_STATUS.MODE 1, lampQ true 15 1 8 0 0 0, 15, 8, { ((given [(LP_STATUS.LEVEL.key, 2), (FM_READY.READY.key, 1)]).wr LP_STATUS.MODE 1) with sent := [Emission.lamp (lampBits 5 0)] }, by decide +kernel⟩,
   ⟨given [(LP_STATUS.LEVEL.key, 2), (FM_READY.READY.key, 1)], (given [(LP_STATUS.LEVEL.key, 2), (FM_READY.READY.key, 1)]).wr LP_STATUS.MODE 1, lampQ true 2 1 8 0 0 0, 2, 8, by decide +kernel⟩,
   ⟨given [(LP_STATUS.LEVEL.key, 2), (FM_READY.READY.key, 1)], (given [(LP_STATUS.LEVEL.key, 2), (FM_READY.READY.key, 1)]).wr LP_STATUS.MODE 1, lampQ true 1 1 8 0 0 0, 1, 8, by decide +kernel⟩,
   ⟨given [(LP_STATUS.LEVEL.key, 2), (FM_READY.READY.key, 1)], (given [(LP_STATUS.LEVEL.key, 2), (FM_READY.READY.key, 1)]).wr LP_STATUS.MODE 1, lampQ true 4 1 8 0 0 0, 4, 8, by decide +kernel⟩⟩

/-- The hypotheses of each clause of `Obligations.LampPort` can be met (2). -/
theorem test_hyps_LampPort_2 :
    (∃ (s : State) (u : State) (q : LampReq) (c : Nat) (n : Nat), c = q.bits / 2 % 16 ∧ u = (if q.two then s.wr LP_STATUS.MODE 1 else s) ∧ n = q.bits / 2 ^ 6 % 2 ^ 48 ∧ s.clk.lampHold = false ∧ (q.two = true ∨ s.rd LP_STATUS.MODE = 0) ∧ q.bits % 2 = 0 ∧ q.bits / 2 ^ (1 + lampCovered q) % 2 ^ 8 = crc8Of (lampCovered q) (q.bits / 2) ∧ 0 < c ∧ c < 5 ∧ c ≠ 4) ∧
    (∃ (s : State) (u : State) (q : LampReq) (c : Nat) (n : Nat), c = q.bits / 2 % 16 ∧ u = (if q.two then s.wr LP_STATUS.MODE 1 else s) ∧ n = q.bits / 2 ^ 6 % 2 ^ 48 ∧ s.clk.lampHold = false ∧ (q.two = true ∨ s.rd LP_STATUS.MODE = 0) ∧ q.bits % 2 = 0 ∧ q.bits / 2 ^ (1 + lampCovered q) % 2 ^ 8 = crc8Of (lampCovered q) (q.bits / 2) ∧ c = 4) ∧
    (∃ (s : State) (u : State) (q : LampReq) (c : Nat) (n : Nat) (t : State), c = q.bits / 2 % 16 ∧ u = (if q.two then s.wr LP_STATUS.MODE 1 else s) ∧ n = q.bits / 2 ^ 6 % 2 ^ 48 ∧ s.clk.lampHold = false ∧ (q.two = true ∨ s.rd LP_STATUS.MODE = 0) ∧ q.bits % 2 = 0 ∧ q.bits / 2 ^ (1 + lampCovered q) % 2 ^ 8 = crc8Of (lampCovered q) (q.bits / 2) ∧ n % (if q.bits / 2 ^ 5 % 2 = 1 then 8 else 4) ≠ 0 ∧ t = { u with sent := s.sent ++ [Emission.lamp (lampBits 5 0)] } ∧ c = 1) ∧
    (∃ (s : State) (u : State) (q : LampReq) (c : Nat) (n : Nat) (t : State), c = q.bits / 2 % 16 ∧ u = (if q.two then s.wr LP_STATUS.MODE 1 else s) ∧ n = q.bits / 2 ^ 6 % 2 ^ 48 ∧ s.clk.lampHold = false ∧ (q.two = true ∨ s.rd LP_STATUS.MODE = 0) ∧ q.bits % 2 = 0 ∧ q.bits / 2 ^ (1 + lampCovered q) % 2 ^ 8 = crc8Of (lampCovered q) (q.bits / 2) ∧ n % (if q.bits / 2 ^ 5 % 2 = 1 then 8 else 4) ≠ 0 ∧ t = { u with sent := s.sent ++ [Emission.lamp (lampBits 5 0)] } ∧ c = 2) ∧
    (∃ (s : State) (u : State) (q : LampReq) (c : Nat) (n : Nat) (t : State), c = q.bits / 2 % 16 ∧ u = (if q.two then s.wr LP_STATUS.MODE 1 else s) ∧ n = q.bits / 2 ^ 6 % 2 ^ 48 ∧ s.clk.lampHold = false ∧ (q.two = true ∨ s.rd LP_STATUS.MODE = 0) ∧ q.bits % 2 = 0 ∧ q.bits / 2 ^ (1 + lampCovered q) % 2 ^ 8 = crc8Of (lampCovered q) (q.bits / 2) ∧ n % (if q.bits / 2 ^ 5 % 2 = 1 then 8 else 4) ≠ 0 ∧ t = { u with sent := s.sent ++ [Emission.lamp (lampBits 5 0)] } ∧ c = 3) ∧
    (∃ (s : State) (u : State) (q : LampReq) (c : Nat) (n : Nat) (t : State), c = q.bits / 2 % 16 ∧ u = (if q.two then s.wr LP_STATUS.MODE 1 else s) ∧ n = q.bits / 2 ^ 6 % 2 ^ 48 ∧ s.clk.lampHold = false ∧ (q.two = true ∨ s.rd LP_STATUS.MODE = 0) ∧ q.bits % 2 = 0 ∧ q.bits / 2 ^ (1 + lampCovered q) % 2 ^ 8 = crc8Of (lampCovered q) (q.bits / 2) ∧ n % (if q.bits / 2 ^ 5 % 2 = 1 then 8 else 4) = 0 ∧ s.rd EN_STATUS.HALTED = 1 ∧ t = { u with sent := s.sent ++ [Emission.lamp (lampBits 4 0)] } ∧ c = 2) :=
  ⟨⟨given [(LP_STATUS.LEVEL.key, 2), (FM_READY.READY.key, 1)], (given [(LP_STATUS.LEVEL.key, 2), (FM_READY.READY.key, 1)]).wr LP_STATUS.MODE 1, lampQ true 3 1 8 5 0 0, 3, 8, by decide +kernel⟩,
   ⟨{ given [] with lamp := ⟨6, 77, 0, [0, 0]⟩ }, { given [] with lamp := ⟨6, 77, 0, [0, 0]⟩ }, lampQ false 4 1 8 0 0 0, 4, 8, by decide +kernel⟩,
   ⟨given [(LP_STATUS.LEVEL.key, 2), (FM_READY.READY.key, 1)], (given [(LP_STATUS.LEVEL.key, 2), (FM_READY.READY.key, 1)]).wr LP_STATUS.MODE 1, lampQ true 1 1 4 5 0 0, 1, 4, { ((given [(LP_STATUS.LEVEL.key, 2), (FM_READY.READY.key, 1)]).wr LP_STATUS.MODE 1) with sent := [Emission.lamp (lampBits 5 0)] }, by decide +kernel⟩,
   ⟨given [(LP_STATUS.LEVEL.key, 2), (FM_READY.READY.key, 1)], (given [(LP_STATUS.LEVEL.key, 2), (FM_READY.READY.key, 1)]).wr LP_STATUS.MODE 1, lampQ true 2 1 4 5 0 0, 2, 4, { ((given [(LP_STATUS.LEVEL.key, 2), (FM_READY.READY.key, 1)]).wr LP_STATUS.MODE 1) with sent := [Emission.lamp (lampBits 5 0)] }, by decide +kernel⟩,
   ⟨given [(LP_STATUS.LEVEL.key, 2), (FM_READY.READY.key, 1)], (given [(LP_STATUS.LEVEL.key, 2), (FM_READY.READY.key, 1)]).wr LP_STATUS.MODE 1, lampQ true 3 1 4 5 0 0, 3, 4, { ((given [(LP_STATUS.LEVEL.key, 2), (FM_READY.READY.key, 1)]).wr LP_STATUS.MODE 1) with sent := [Emission.lamp (lampBits 5 0)] }, by decide +kernel⟩,
   ⟨given [(LP_STATUS.LEVEL.key, 1), (FM_READY.READY.key, 1), (EN_STATUS.HALTED.key, 1)], given [(LP_STATUS.LEVEL.key, 1), (FM_READY.READY.key, 1), (EN_STATUS.HALTED.key, 1)], lampQ false 2 0 4 5 0 0, 2, 4, { (given [(LP_STATUS.LEVEL.key, 1), (FM_READY.READY.key, 1), (EN_STATUS.HALTED.key, 1)]) with sent := [Emission.lamp (lampBits 4 0)] }, by decide +kernel⟩⟩

/-- The hypotheses of each clause of `Obligations.LampPort` can be met (3). -/
theorem test_hyps_LampPort_3 :
    (∃ (s : State) (u : State) (q : LampReq) (c : Nat) (n : Nat) (t : State), c = q.bits / 2 % 16 ∧ u = (if q.two then s.wr LP_STATUS.MODE 1 else s) ∧ n = q.bits / 2 ^ 6 % 2 ^ 48 ∧ s.clk.lampHold = false ∧ (q.two = true ∨ s.rd LP_STATUS.MODE = 0) ∧ q.bits % 2 = 0 ∧ q.bits / 2 ^ (1 + lampCovered q) % 2 ^ 8 = crc8Of (lampCovered q) (q.bits / 2) ∧ n % (if q.bits / 2 ^ 5 % 2 = 1 then 8 else 4) = 0 ∧ s.rd EN_STATUS.HALTED = 1 ∧ t = { u with sent := s.sent ++ [Emission.lamp (lampBits 4 0)] } ∧ c = 3) ∧
    (∃ (s : State) (u : State) (q : LampReq) (c : Nat) (n : Nat) (t : State), c = q.bits / 2 % 16 ∧ u = (if q.two then s.wr LP_STATUS.MODE 1 else s) ∧ n = q.bits / 2 ^ 6 % 2 ^ 48 ∧ s.clk.lampHold = false ∧ (q.two = true ∨ s.rd LP_STATUS.MODE = 0) ∧ q.bits % 2 = 0 ∧ q.bits / 2 ^ (1 + lampCovered q) % 2 ^ 8 = crc8Of (lampCovered q) (q.bits / 2) ∧ n % (if q.bits / 2 ^ 5 % 2 = 1 then 8 else 4) = 0 ∧ s.rd EN_STATUS.HALTED = 0 ∧ s.rd LP_STATUS.LEVEL < 2 ∧ t = { u with sent := s.sent ++ [Emission.lamp (lampBits 1 0)] } ∧ c = 2) ∧
    (∃ (s : State) (u : State) (q : LampReq) (c : Nat) (n : Nat) (t : State), c = q.bits / 2 % 16 ∧ u = (if q.two then s.wr LP_STATUS.MODE 1 else s) ∧ n = q.bits / 2 ^ 6 % 2 ^ 48 ∧ s.clk.lampHold = false ∧ (q.two = true ∨ s.rd LP_STATUS.MODE = 0) ∧ q.bits % 2 = 0 ∧ q.bits / 2 ^ (1 + lampCovered q) % 2 ^ 8 = crc8Of (lampCovered q) (q.bits / 2) ∧ n % (if q.bits / 2 ^ 5 % 2 = 1 then 8 else 4) = 0 ∧ s.rd EN_STATUS.HALTED = 0 ∧ s.rd LP_STATUS.LEVEL < 2 ∧ t = { u with sent := s.sent ++ [Emission.lamp (lampBits 1 0)] } ∧ c = 3 ∧ lowWrites (s.rd LP_STATUS.LEVEL) n = false) ∧
    (∃ (s : State) (u : State) (q : LampReq) (c : Nat) (n : Nat) (t : State), c = q.bits / 2 % 16 ∧ u = (if q.two then s.wr LP_STATUS.MODE 1 else s) ∧ n = q.bits / 2 ^ 6 % 2 ^ 48 ∧ s.clk.lampHold = false ∧ (q.two = true ∨ s.rd LP_STATUS.MODE = 0) ∧ q.bits % 2 = 0 ∧ q.bits / 2 ^ (1 + lampCovered q) % 2 ^ 8 = crc8Of (lampCovered q) (q.bits / 2) ∧ n % (if q.bits / 2 ^ 5 % 2 = 1 then 8 else 4) = 0 ∧ s.rd EN_STATUS.HALTED = 0 ∧ s.rd LP_STATUS.LEVEL < 2 ∧ t = { u with sent := s.sent ++ [Emission.lamp (lampBits 1 0)] } ∧ c = 1 ∧ s.rd LP_STATUS.LEVEL = 0 ∧ noneSet n = false) ∧
    (∃ (s : State) (u : State) (q : LampReq) (c : Nat) (n : Nat) (t : State), c = q.bits / 2 % 16 ∧ u = (if q.two then s.wr LP_STATUS.MODE 1 else s) ∧ n = q.bits / 2 ^ 6 % 2 ^ 48 ∧ s.clk.lampHold = false ∧ (q.two = true ∨ s.rd LP_STATUS.MODE = 0) ∧ q.bits % 2 = 0 ∧ q.bits / 2 ^ (1 + lampCovered q) % 2 ^ 8 = crc8Of (lampCovered q) (q.bits / 2) ∧ n % (if q.bits / 2 ^ 5 % 2 = 1 then 8 else 4) = 0 ∧ s.rd EN_STATUS.HALTED = 0 ∧ 2 ≤ s.rd LP_STATUS.LEVEL ∧ s.ready 0 = false ∧ foremanServes n = false ∧ t = { u with sent := s.sent ++ [Emission.lamp (lampBits 2 4)] } ∧ c = 1) ∧
    (∃ (s : State) (u : State) (q : LampReq) (c : Nat) (n : Nat) (t : State), c = q.bits / 2 % 16 ∧ u = (if q.two then s.wr LP_STATUS.MODE 1 else s) ∧ n = q.bits / 2 ^ 6 % 2 ^ 48 ∧ s.clk.lampHold = false ∧ (q.two = true ∨ s.rd LP_STATUS.MODE = 0) ∧ q.bits % 2 = 0 ∧ q.bits / 2 ^ (1 + lampCovered q) % 2 ^ 8 = crc8Of (lampCovered q) (q.bits / 2) ∧ n % (if q.bits / 2 ^ 5 % 2 = 1 then 8 else 4) = 0 ∧ s.rd EN_STATUS.HALTED = 0 ∧ 2 ≤ s.rd LP_STATUS.LEVEL ∧ s.ready 0 = false ∧ foremanServes n = false ∧ t = { u with sent := s.sent ++ [Emission.lamp (lampBits 2 4)] } ∧ c = 2) :=
  ⟨⟨given [(LP_STATUS.LEVEL.key, 1), (FM_READY.READY.key, 1), (EN_STATUS.HALTED.key, 1)], given [(LP_STATUS.LEVEL.key, 1), (FM_READY.READY.key, 1), (EN_STATUS.HALTED.key, 1)], lampQ false 3 0 4 5 0 0, 3, 4, { (given [(LP_STATUS.LEVEL.key, 1), (FM_READY.READY.key, 1), (EN_STATUS.HALTED.key, 1)]) with sent := [Emission.lamp (lampBits 4 0)] }, by decide +kernel⟩,
   ⟨given [(LP_STATUS.LEVEL.key, 1), (FM_READY.READY.key, 1)], given [(LP_STATUS.LEVEL.key, 1), (FM_READY.READY.key, 1)], lampQ false 2 0 1100702810112 5 0 0, 2, 1100702810112, { (given [(LP_STATUS.LEVEL.key, 1), (FM_READY.READY.key, 1)]) with sent := [Emission.lamp (lampBits 1 0)] }, by decide +kernel⟩,
   ⟨given [(LP_STATUS.LEVEL.key, 1), (FM_READY.READY.key, 1)], given [(LP_STATUS.LEVEL.key, 1), (FM_READY.READY.key, 1)], lampQ false 3 0 1100702810184 5 0 0, 3, 1100702810184, { (given [(LP_STATUS.LEVEL.key, 1), (FM_READY.READY.key, 1)]) with sent := [Emission.lamp (lampBits 1 0)] }, by decide +kernel⟩,
   ⟨given [(LP_STATUS.LEVEL.key, 0), (FM_READY.READY.key, 1)], given [(LP_STATUS.LEVEL.key, 0), (FM_READY.READY.key, 1)], lampQ false 1 0 1100669255704 5 0 0, 1, 1100669255704, { (given [(LP_STATUS.LEVEL.key, 0), (FM_READY.READY.key, 1)]) with sent := [Emission.lamp (lampBits 1 0)] }, by decide +kernel⟩,
   ⟨given [(LP_STATUS.LEVEL.key, 2)], given [(LP_STATUS.LEVEL.key, 2)], lampQ false 1 0 1100635701248 5 0 0, 1, 1100635701248, { (given [(LP_STATUS.LEVEL.key, 2)]) with sent := [Emission.lamp (lampBits 2 4)] }, by decide +kernel⟩,
   ⟨given [(LP_STATUS.LEVEL.key, 2)], given [(LP_STATUS.LEVEL.key, 2)], lampQ false 2 0 1100635701248 5 0 0, 2, 1100635701248, { (given [(LP_STATUS.LEVEL.key, 2)]) with sent := [Emission.lamp (lampBits 2 4)] }, by decide +kernel⟩⟩

/-- The hypotheses of each clause of `Obligations.LampPort` can be met (4). -/
theorem test_hyps_LampPort_4 :
    (∃ (s : State) (u : State) (q : LampReq) (c : Nat) (n : Nat) (t : State), c = q.bits / 2 % 16 ∧ u = (if q.two then s.wr LP_STATUS.MODE 1 else s) ∧ n = q.bits / 2 ^ 6 % 2 ^ 48 ∧ s.clk.lampHold = false ∧ (q.two = true ∨ s.rd LP_STATUS.MODE = 0) ∧ q.bits % 2 = 0 ∧ q.bits / 2 ^ (1 + lampCovered q) % 2 ^ 8 = crc8Of (lampCovered q) (q.bits / 2) ∧ n % (if q.bits / 2 ^ 5 % 2 = 1 then 8 else 4) = 0 ∧ s.rd EN_STATUS.HALTED = 0 ∧ 2 ≤ s.rd LP_STATUS.LEVEL ∧ s.ready 0 = false ∧ foremanServes n = false ∧ t = { u with sent := s.sent ++ [Emission.lamp (lampBits 2 4)] } ∧ c = 3) ∧
    (∃ (s : State) (u : State) (q : LampReq) (c : Nat) (n : Nat) (t : State), c = q.bits / 2 % 16 ∧ u = (if q.two then s.wr LP_STATUS.MODE 1 else s) ∧ n = q.bits / 2 ^ 6 % 2 ^ 48 ∧ s.clk.lampHold = false ∧ (q.two = true ∨ s.rd LP_STATUS.MODE = 0) ∧ q.bits % 2 = 0 ∧ q.bits / 2 ^ (1 + lampCovered q) % 2 ^ 8 = crc8Of (lampCovered q) (q.bits / 2) ∧ n % (if q.bits / 2 ^ 5 % 2 = 1 then 8 else 4) = 0 ∧ s.rd EN_STATUS.HALTED = 0 ∧ 2 ≤ s.rd LP_STATUS.LEVEL ∧ s.ready 0 = true ∧ windowOf n = .hole ∧ t = { u with lamp := { s.lamp with ack := 2, rdata := 2 }, sent := s.sent ++ [Emission.lamp (lampBits 2 2)] } ∧ c = 1) ∧
    (∃ (s : State) (u : State) (q : LampReq) (c : Nat) (n : Nat) (t : State), c = q.bits / 2 % 16 ∧ u = (if q.two then s.wr LP_STATUS.MODE 1 else s) ∧ n = q.bits / 2 ^ 6 % 2 ^ 48 ∧ s.clk.lampHold = false ∧ (q.two = true ∨ s.rd LP_STATUS.MODE = 0) ∧ q.bits % 2 = 0 ∧ q.bits / 2 ^ (1 + lampCovered q) % 2 ^ 8 = crc8Of (lampCovered q) (q.bits / 2) ∧ n % (if q.bits / 2 ^ 5 % 2 = 1 then 8 else 4) = 0 ∧ s.rd EN_STATUS.HALTED = 0 ∧ 2 ≤ s.rd LP_STATUS.LEVEL ∧ s.ready 0 = true ∧ windowOf n = .hole ∧ t = { u with lamp := { s.lamp with ack := 2, rdata := 2 }, sent := s.sent ++ [Emission.lamp (lampBits 2 2)] } ∧ c = 2) ∧
    (∃ (s : State) (u : State) (q : LampReq) (c : Nat) (n : Nat) (t : State), c = q.bits / 2 % 16 ∧ u = (if q.two then s.wr LP_STATUS.MODE 1 else s) ∧ n = q.bits / 2 ^ 6 % 2 ^ 48 ∧ s.clk.lampHold = false ∧ (q.two = true ∨ s.rd LP_STATUS.MODE = 0) ∧ q.bits % 2 = 0 ∧ q.bits / 2 ^ (1 + lampCovered q) % 2 ^ 8 = crc8Of (lampCovered q) (q.bits / 2) ∧ n % (if q.bits / 2 ^ 5 % 2 = 1 then 8 else 4) = 0 ∧ s.rd EN_STATUS.HALTED = 0 ∧ 2 ≤ s.rd LP_STATUS.LEVEL ∧ s.ready 0 = true ∧ windowOf n = .hole ∧ t = { u with lamp := { s.lamp with ack := 2, rdata := 2 }, sent := s.sent ++ [Emission.lamp (lampBits 2 2)] } ∧ c = 3) ∧
    (∃ (s : State) (u : State) (q : LampReq) (a : Answer) (c : Nat) (n : Nat) (z : Nat) (x : Answer × State) (y : Answer × State), c = q.bits / 2 % 16 ∧ u = (if q.two then s.wr LP_STATUS.MODE 1 else s) ∧ n = q.bits / 2 ^ 6 % 2 ^ 48 ∧ s.clk.lampHold = false ∧ (q.two = true ∨ s.rd LP_STATUS.MODE = 0) ∧ q.bits % 2 = 0 ∧ q.bits / 2 ^ (1 + lampCovered q) % 2 ^ 8 = crc8Of (lampCovered q) (q.bits / 2) ∧ n % (if q.bits / 2 ^ 5 % 2 = 1 then 8 else 4) = 0 ∧ s.rd EN_STATUS.HALTED = 0 ∧ 2 ≤ s.rd LP_STATUS.LEVEL ∧ s.ready 0 = true ∧ windowOf n = .data ∧ z = (if q.bits / 2 ^ 5 % 2 = 1 then 8 else 4) ∧ x = u.dataAccess 661 n z false (q.bits / 2 ^ 54 % 2 ^ (8 * z)) false a ∧ y = u.dataAccess 661 n z true (q.bits / 2 ^ 54 % 2 ^ (8 * z)) false a ∧ c = 1) ∧
    (∃ (s : State) (u : State) (q : LampReq) (a : Answer) (c : Nat) (n : Nat) (z : Nat) (x : Answer × State) (y : Answer × State), c = q.bits / 2 % 16 ∧ u = (if q.two then s.wr LP_STATUS.MODE 1 else s) ∧ n = q.bits / 2 ^ 6 % 2 ^ 48 ∧ s.clk.lampHold = false ∧ (q.two = true ∨ s.rd LP_STATUS.MODE = 0) ∧ q.bits % 2 = 0 ∧ q.bits / 2 ^ (1 + lampCovered q) % 2 ^ 8 = crc8Of (lampCovered q) (q.bits / 2) ∧ n % (if q.bits / 2 ^ 5 % 2 = 1 then 8 else 4) = 0 ∧ s.rd EN_STATUS.HALTED = 0 ∧ 2 ≤ s.rd LP_STATUS.LEVEL ∧ s.ready 0 = true ∧ windowOf n = .data ∧ z = (if q.bits / 2 ^ 5 % 2 = 1 then 8 else 4) ∧ x = u.dataAccess 661 n z false (q.bits / 2 ^ 54 % 2 ^ (8 * z)) false a ∧ y = u.dataAccess 661 n z true (q.bits / 2 ^ 54 % 2 ^ (8 * z)) false a ∧ c = 2) :=
  ⟨⟨given [(LP_STATUS.LEVEL.key, 2)], given [(LP_STATUS.LEVEL.key, 2)], lampQ false 3 0 1100635701248 5 0 0, 3, 1100635701248, { (given [(LP_STATUS.LEVEL.key, 2)]) with sent := [Emission.lamp (lampBits 2 4)] }, by decide +kernel⟩,
   ⟨given [(LP_STATUS.LEVEL.key, 2), (FM_READY.READY.key, 1)], (given [(LP_STATUS.LEVEL.key, 2), (FM_READY.READY.key, 1)]).wr LP_STATUS.MODE 1, lampQ true 1 0 1099629068288 5 0 0, 1, 1099629068288, { ((given [(LP_STATUS.LEVEL.key, 2), (FM_READY.READY.key, 1)]).wr LP_STATUS.MODE 1) with sent := [Emission.lamp (lampBits 2 2)], lamp := ⟨2, 2, 0, [0, 0]⟩ }, by decide +kernel⟩,
   ⟨given [(LP_STATUS.LEVEL.key, 2), (FM_READY.READY.key, 1)], (given [(LP_STATUS.LEVEL.key, 2), (FM_READY.READY.key, 1)]).wr LP_STATUS.MODE 1, lampQ true 2 0 1099629068288 5 0 0, 2, 1099629068288, { ((given [(LP_STATUS.LEVEL.key, 2), (FM_READY.READY.key, 1)]).wr LP_STATUS.MODE 1) with sent := [Emission.lamp (lampBits 2 2)], lamp := ⟨2, 2, 0, [0, 0]⟩ }, by decide +kernel⟩,
   ⟨given [(LP_STATUS.LEVEL.key, 2), (FM_READY.READY.key, 1)], (given [(LP_STATUS.LEVEL.key, 2), (FM_READY.READY.key, 1)]).wr LP_STATUS.MODE 1, lampQ true 3 0 1099629068288 5 0 0, 3, 1099629068288, { ((given [(LP_STATUS.LEVEL.key, 2), (FM_READY.READY.key, 1)]).wr LP_STATUS.MODE 1) with sent := [Emission.lamp (lampBits 2 2)], lamp := ⟨2, 2, 0, [0, 0]⟩ }, by decide +kernel⟩,
   ⟨given [(LP_STATUS.LEVEL.key, 2), (FM_READY.READY.key, 18446744073709551615)], given [(LP_STATUS.LEVEL.key, 2), (FM_READY.READY.key, 18446744073709551615)], lampQ false 1 1 1099612028936 18446744073709551615 0 0, ⟨0, 0xA5, true⟩, 1, 1099612028936, 8, (given [(LP_STATUS.LEVEL.key, 2), (FM_READY.READY.key, 18446744073709551615)]).dataAccess 661 0x010005FC0008 8 false ((lampQ false 1 1 0x010005FC0008 18446744073709551615 0 0).bits / 2 ^ 54 % 2 ^ 64) false ⟨0, 0xA5, true⟩, (given [(LP_STATUS.LEVEL.key, 2), (FM_READY.READY.key, 18446744073709551615)]).dataAccess 661 0x010005FC0008 8 true ((lampQ false 1 1 0x010005FC0008 18446744073709551615 0 0).bits / 2 ^ 54 % 2 ^ 64) false ⟨0, 0xA5, true⟩, by decide +kernel⟩,
   ⟨given [(LP_STATUS.LEVEL.key, 2), (FM_READY.READY.key, 18446744073709551615)], given [(LP_STATUS.LEVEL.key, 2), (FM_READY.READY.key, 18446744073709551615)], lampQ false 2 1 1099612028936 18446744073709551615 0 0, ⟨0, 0xA5, true⟩, 2, 1099612028936, 8, (given [(LP_STATUS.LEVEL.key, 2), (FM_READY.READY.key, 18446744073709551615)]).dataAccess 661 0x010005FC0008 8 false ((lampQ false 2 1 0x010005FC0008 18446744073709551615 0 0).bits / 2 ^ 54 % 2 ^ 64) false ⟨0, 0xA5, true⟩, (given [(LP_STATUS.LEVEL.key, 2), (FM_READY.READY.key, 18446744073709551615)]).dataAccess 661 0x010005FC0008 8 true ((lampQ false 2 1 0x010005FC0008 18446744073709551615 0 0).bits / 2 ^ 54 % 2 ^ 64) false ⟨0, 0xA5, true⟩, by decide +kernel⟩⟩

/-- The hypotheses of each clause of `Obligations.LampPort` can be met (5). -/
theorem test_hyps_LampPort_5 :
    (∃ (s : State) (u : State) (q : LampReq) (a : Answer) (c : Nat) (n : Nat) (z : Nat) (x : Answer × State) (y : Answer × State), c = q.bits / 2 % 16 ∧ u = (if q.two then s.wr LP_STATUS.MODE 1 else s) ∧ n = q.bits / 2 ^ 6 % 2 ^ 48 ∧ s.clk.lampHold = false ∧ (q.two = true ∨ s.rd LP_STATUS.MODE = 0) ∧ q.bits % 2 = 0 ∧ q.bits / 2 ^ (1 + lampCovered q) % 2 ^ 8 = crc8Of (lampCovered q) (q.bits / 2) ∧ n % (if q.bits / 2 ^ 5 % 2 = 1 then 8 else 4) = 0 ∧ s.rd EN_STATUS.HALTED = 0 ∧ 2 ≤ s.rd LP_STATUS.LEVEL ∧ s.ready 0 = true ∧ windowOf n = .data ∧ z = (if q.bits / 2 ^ 5 % 2 = 1 then 8 else 4) ∧ x = u.dataAccess 661 n z false (q.bits / 2 ^ 54 % 2 ^ (8 * z)) false a ∧ y = u.dataAccess 661 n z true (q.bits / 2 ^ 54 % 2 ^ (8 * z)) false a ∧ c = 3) ∧
    (∃ (s : State) (u : State) (q : LampReq) (c : Nat) (n : Nat) (z : Nat), c = q.bits / 2 % 16 ∧ u = (if q.two then s.wr LP_STATUS.MODE 1 else s) ∧ n = q.bits / 2 ^ 6 % 2 ^ 48 ∧ s.clk.lampHold = false ∧ (q.two = true ∨ s.rd LP_STATUS.MODE = 0) ∧ q.bits % 2 = 0 ∧ q.bits / 2 ^ (1 + lampCovered q) % 2 ^ 8 = crc8Of (lampCovered q) (q.bits / 2) ∧ n % (if q.bits / 2 ^ 5 % 2 = 1 then 8 else 4) = 0 ∧ s.rd EN_STATUS.HALTED = 0 ∧ 2 ≤ s.rd LP_STATUS.LEVEL ∧ s.ready 0 = true ∧ windowOf n = .register ∧ z = (if q.bits / 2 ^ 5 % 2 = 1 then 8 else 4) ∧ c = 1) ∧
    (∃ (s : State) (u : State) (q : LampReq) (c : Nat) (n : Nat) (z : Nat), c = q.bits / 2 % 16 ∧ u = (if q.two then s.wr LP_STATUS.MODE 1 else s) ∧ n = q.bits / 2 ^ 6 % 2 ^ 48 ∧ s.clk.lampHold = false ∧ (q.two = true ∨ s.rd LP_STATUS.MODE = 0) ∧ q.bits % 2 = 0 ∧ q.bits / 2 ^ (1 + lampCovered q) % 2 ^ 8 = crc8Of (lampCovered q) (q.bits / 2) ∧ n % (if q.bits / 2 ^ 5 % 2 = 1 then 8 else 4) = 0 ∧ s.rd EN_STATUS.HALTED = 0 ∧ 2 ≤ s.rd LP_STATUS.LEVEL ∧ s.ready 0 = true ∧ windowOf n = .register ∧ z = (if q.bits / 2 ^ 5 % 2 = 1 then 8 else 4) ∧ c = 2) ∧
    (∃ (s : State) (u : State) (q : LampReq) (c : Nat) (n : Nat) (z : Nat), c = q.bits / 2 % 16 ∧ u = (if q.two then s.wr LP_STATUS.MODE 1 else s) ∧ n = q.bits / 2 ^ 6 % 2 ^ 48 ∧ s.clk.lampHold = false ∧ (q.two = true ∨ s.rd LP_STATUS.MODE = 0) ∧ q.bits % 2 = 0 ∧ q.bits / 2 ^ (1 + lampCovered q) % 2 ^ 8 = crc8Of (lampCovered q) (q.bits / 2) ∧ n % (if q.bits / 2 ^ 5 % 2 = 1 then 8 else 4) = 0 ∧ s.rd EN_STATUS.HALTED = 0 ∧ 2 ≤ s.rd LP_STATUS.LEVEL ∧ s.ready 0 = true ∧ windowOf n = .register ∧ z = (if q.bits / 2 ^ 5 % 2 = 1 then 8 else 4) ∧ c = 3) ∧
    (∃ (s : State) (d : State) (l : Nat), d = ((s.wr LP_STATUS.CHAL_VALID 0).wr LP_CHALLENGE.CHAL 0 0 0).wr LP_CHALLENGE.CHAL 0 0 1 ∧ (s.crypto.owner = none ∨ 2 < l ∨ l ≤ s.rd LP_STATUS.LEVEL ∨ s.rd LP_STATUS.MAX < l ∨ s.rd LP_STATUS.LOCKOUT = 1 ∨ 16 ≤ s.rd LP_STATUS.FAIL_COUNT ∨ s.rd EN_STATUS.HALTED = 1)) ∧
    (∃ (s : State) (d : State) (l : Nat), d = ((s.wr LP_STATUS.CHAL_VALID 0).wr LP_CHALLENGE.CHAL 0 0 0).wr LP_CHALLENGE.CHAL 0 0 1 ∧ s.crypto.owner ≠ none ∧ l ≤ 2 ∧ s.rd LP_STATUS.LEVEL < l ∧ l ≤ s.rd LP_STATUS.MAX ∧ s.rd LP_STATUS.LOCKOUT = 0 ∧ s.rd LP_STATUS.FAIL_COUNT < 16 ∧ s.rd EN_STATUS.HALTED = 0) :=
  ⟨⟨given [(LP_STATUS.LEVEL.key, 2), (FM_READY.READY.key, 18446744073709551615)], given [(LP_STATUS.LEVEL.key, 2), (FM_READY.READY.key, 18446744073709551615)], lampQ false 3 1 1099612028936 18446744073709551615 0 0, ⟨0, 0xA5, true⟩, 3, 1099612028936, 8, (given [(LP_STATUS.LEVEL.key, 2), (FM_READY.READY.key, 18446744073709551615)]).dataAccess 661 0x010005FC0008 8 false ((lampQ false 3 1 0x010005FC0008 18446744073709551615 0 0).bits / 2 ^ 54 % 2 ^ 64) false ⟨0, 0xA5, true⟩, (given [(LP_STATUS.LEVEL.key, 2), (FM_READY.READY.key, 18446744073709551615)]).dataAccess 661 0x010005FC0008 8 true ((lampQ false 3 1 0x010005FC0008 18446744073709551615 0 0).bits / 2 ^ 54 % 2 ^ 64) false ⟨0, 0xA5, true⟩, by decide +kernel⟩,
   ⟨given [(LP_STATUS.LEVEL.key, 2), (FM_READY.READY.key, 1)], given [(LP_STATUS.LEVEL.key, 2), (FM_READY.READY.key, 1)], lampQ false 1 1 1100702810176 18446744073709551615 0 0, 1, 1100702810176, 8, by decide +kernel⟩,
   ⟨given [(LP_STATUS.LEVEL.key, 2), (FM_READY.READY.key, 1)], given [(LP_STATUS.LEVEL.key, 2), (FM_READY.READY.key, 1)], lampQ false 2 1 1100702810176 18446744073709551615 0 0, 2, 1100702810176, 8, by decide +kernel⟩,
   ⟨given [(LP_STATUS.LEVEL.key, 2), (FM_READY.READY.key, 1)], given [(LP_STATUS.LEVEL.key, 2), (FM_READY.READY.key, 1)], lampQ false 3 1 1100702810176 18446744073709551615 0 0, 3, 1100702810176, 8, by decide +kernel⟩,
   ⟨{ given [(LP_STATUS.LEVEL.key, 2), (LP_STATUS.MAX.key, 2)] with crypto := { State.reset.crypto with owner := some 5 } }, ((({ given [(LP_STATUS.LEVEL.key, 2), (LP_STATUS.MAX.key, 2)] with crypto := { State.reset.crypto with owner := some 5 } }).wr LP_STATUS.CHAL_VALID 0).wr LP_CHALLENGE.CHAL 0 0 0).wr LP_CHALLENGE.CHAL 0 0 1, 2, by decide +kernel⟩,
   ⟨{ given [(LP_STATUS.LEVEL.key, 0), (LP_STATUS.MAX.key, 2), (LP_STATUS.FAIL_COUNT.key, 15)] with crypto := { State.reset.crypto with owner := some 5 } }, ((({ given [(LP_STATUS.LEVEL.key, 0), (LP_STATUS.MAX.key, 2), (LP_STATUS.FAIL_COUNT.key, 15)] with crypto := { State.reset.crypto with owner := some 5 } }).wr LP_STATUS.CHAL_VALID 0).wr LP_CHALLENGE.CHAL 0 0 0).wr LP_CHALLENGE.CHAL 0 0 1, 2, by decide +kernel⟩⟩

/-- The hypotheses of each clause of `Obligations.LampPort` can be met (6). -/
theorem test_hyps_LampPort_6 :
    (∃ (s : State) (d : State), d = ((s.wr LP_STATUS.CHAL_VALID 0).wr LP_CHALLENGE.CHAL 0 0 0).wr LP_CHALLENGE.CHAL 0 0 1 ∧ s.rd LP_STATUS.CHAL_VALID = 0) ∧
    (∃ (s : State) (d : State), d = ((s.wr LP_STATUS.CHAL_VALID 0).wr LP_CHALLENGE.CHAL 0 0 0).wr LP_CHALLENGE.CHAL 0 0 1 ∧ s.rd LP_STATUS.CHAL_VALID = 1) ∧
    (∃ (s : State) (d : State), d = ((s.wr LP_STATUS.CHAL_VALID 0).wr LP_CHALLENGE.CHAL 0 0 0).wr LP_CHALLENGE.CHAL 0 0 1) ∧
    (∃ (s : State) (d : State), d = ((s.wr LP_STATUS.CHAL_VALID 0).wr LP_CHALLENGE.CHAL 0 0 0).wr LP_CHALLENGE.CHAL 0 0 1) ∧
    (∃ (s : State) (d : State), d = ((s.wr LP_STATUS.CHAL_VALID 0).wr LP_CHALLENGE.CHAL 0 0 0).wr LP_CHALLENGE.CHAL 0 0 1) ∧
    (∃ (s : State) (d : State), d = ((s.wr LP_STATUS.CHAL_VALID 0).wr LP_CHALLENGE.CHAL 0 0 0).wr LP_CHALLENGE.CHAL 0 0 1) :=
  ⟨⟨given [(LP_STATUS.LEVEL.key, 0)], (((given [(LP_STATUS.LEVEL.key, 0)]).wr LP_STATUS.CHAL_VALID 0).wr LP_CHALLENGE.CHAL 0 0 0).wr LP_CHALLENGE.CHAL 0 0 1, by decide +kernel⟩,
   ⟨{ given [(LP_STATUS.LEVEL.key, 0), (LP_STATUS.CHAL_VALID.key, 1), (LP_STATUS.FAIL_COUNT.key, 255)] with crypto := { State.reset.crypto with owner := some 5 } }, ((({ given [(LP_STATUS.LEVEL.key, 0), (LP_STATUS.CHAL_VALID.key, 1), (LP_STATUS.FAIL_COUNT.key, 255)] with crypto := { State.reset.crypto with owner := some 5 } }).wr LP_STATUS.CHAL_VALID 0).wr LP_CHALLENGE.CHAL 0 0 0).wr LP_CHALLENGE.CHAL 0 0 1, by decide +kernel⟩,
   ⟨given [(LP_STATUS.LEVEL.key, 2), (LP_STATUS.DEFAULT.key, 1)], (((given [(LP_STATUS.LEVEL.key, 2), (LP_STATUS.DEFAULT.key, 1)]).wr LP_STATUS.CHAL_VALID 0).wr LP_CHALLENGE.CHAL 0 0 0).wr LP_CHALLENGE.CHAL 0 0 1, by decide +kernel⟩,
   ⟨given [(LP_STATUS.LEVEL.key, 2), (LP_STATUS.DEFAULT.key, 1)], (((given [(LP_STATUS.LEVEL.key, 2), (LP_STATUS.DEFAULT.key, 1)]).wr LP_STATUS.CHAL_VALID 0).wr LP_CHALLENGE.CHAL 0 0 0).wr LP_CHALLENGE.CHAL 0 0 1, by decide +kernel⟩,
   ⟨given [(LP_STATUS.LEVEL.key, 2), (LP_STATUS.DEFAULT.key, 1)], (((given [(LP_STATUS.LEVEL.key, 2), (LP_STATUS.DEFAULT.key, 1)]).wr LP_STATUS.CHAL_VALID 0).wr LP_CHALLENGE.CHAL 0 0 0).wr LP_CHALLENGE.CHAL 0 0 1, by decide +kernel⟩,
   ⟨given [(LP_STATUS.LEVEL.key, 2), (LP_STATUS.DEFAULT.key, 1)], (((given [(LP_STATUS.LEVEL.key, 2), (LP_STATUS.DEFAULT.key, 1)]).wr LP_STATUS.CHAL_VALID 0).wr LP_CHALLENGE.CHAL 0 0 0).wr LP_CHALLENGE.CHAL 0 0 1, by decide +kernel⟩⟩

/-- The hypotheses of each clause of `Obligations.TracePinsRegs` can be met (1). -/
theorem test_hyps_TracePinsRegs :
    (∃ (s : State) (t : State) (e : Nat) (w : Nat) (k : Nat) (d : Nat) (p : Nat) (n : Nat) (v : TramView) (x : Engine) (f : List TracePkt), s.standsAt e w = true ∧ v.fetchErrs = 0 ∧ x = s.eng e ∧ w / 2 ^ 26 = 3 ∧ w % 64 = 8 ∧ w &&& 0xFF00 = 0 ∧ d = w / 2 ^ 21 % 32 ∧ p = w / 2 ^ 16 % 32 ∧ n = w / 64 % 4 ∧ f = Tab.get [] s.trace.fifos e ∧ t = s.tick k ∧ (n = 3 ∨ (n = 0 ∧ d ≠ 0) ∨ (n = 2 ∧ d % 2 = 1))) ∧
    (∃ (s : State) (t : State) (e : Nat) (w : Nat) (k : Nat) (d : Nat) (p : Nat) (n : Nat) (v : TramView) (x : Engine) (f : List TracePkt), s.standsAt e w = true ∧ v.fetchErrs = 0 ∧ x = s.eng e ∧ w / 2 ^ 26 = 3 ∧ w % 64 = 8 ∧ w &&& 0xFF00 = 0 ∧ d = w / 2 ^ 21 % 32 ∧ p = w / 2 ^ 16 % 32 ∧ n = w / 64 % 4 ∧ f = Tab.get [] s.trace.fifos e ∧ t = s.tick k ∧ n ≠ 3 ∧ (n = 0 → d = 0) ∧ (n = 2 → d % 2 = 0) ∧ (s.rd TR_STIM.EN e).testBit p = false) ∧
    (∃ (s : State) (t : State) (e : Nat) (w : Nat) (k : Nat) (d : Nat) (p : Nat) (n : Nat) (v : TramView) (x : Engine) (f : List TracePkt), s.standsAt e w = true ∧ v.fetchErrs = 0 ∧ x = s.eng e ∧ w / 2 ^ 26 = 3 ∧ w % 64 = 8 ∧ w &&& 0xFF00 = 0 ∧ d = w / 2 ^ 21 % 32 ∧ p = w / 2 ^ 16 % 32 ∧ n = w / 64 % 4 ∧ f = Tab.get [] s.trace.fifos e ∧ t = s.tick k ∧ n ≠ 3 ∧ (n = 0 → d = 0) ∧ (n = 2 → d % 2 = 0) ∧ (s.rd TR_STIM.EN e).testBit p = true ∧ s.rd LP_TRACE_CTRL.EN = 1 ∧ f.length < 8) ∧
    (∃ (s : State) (t : State) (e : Nat) (w : Nat) (k : Nat) (d : Nat) (p : Nat) (n : Nat) (v : TramView) (x : Engine) (f : List TracePkt), s.standsAt e w = true ∧ v.fetchErrs = 0 ∧ x = s.eng e ∧ w / 2 ^ 26 = 3 ∧ w % 64 = 8 ∧ w &&& 0xFF00 = 0 ∧ d = w / 2 ^ 21 % 32 ∧ p = w / 2 ^ 16 % 32 ∧ n = w / 64 % 4 ∧ f = Tab.get [] s.trace.fifos e ∧ t = s.tick k ∧ n ≠ 3 ∧ (n = 0 → d = 0) ∧ (n = 2 → d % 2 = 0) ∧ (s.rd TR_STIM.EN e).testBit p = true ∧ (s.rd LP_TRACE_CTRL.EN = 0 ∨ 8 ≤ f.length)) ∧
    (∃ (s : State) (t : State) (k : Nat), t = s.tick k) ∧
    (∃ (s : State) (t : State) (k : Nat), t = s.tick k ∧ s.rd LP_TRACE_CTRL.EN = 0) ∧
    (∃ (s : State) (t : State) (k : Nat), t = s.tick k ∧ s.rd LP_TRACE_CTRL.EN = 1 ∧ s.trace.buffer.length < 256) ∧
    (∃ (s : State) (t : State) (k : Nat), t = s.tick k ∧ s.rd LP_TRACE_CTRL.EN = 1 ∧ 256 ≤ s.trace.buffer.length) ∧
    (∃ (s : State) (t : State) (k : Nat), t = s.tick k ∧ s.traceNext = none) ∧
    (∃ (s : State) (t : State) (k : Nat) (e : Nat) (n : Nat) (p : TracePkt) (r : List TracePkt) (l : List TracePkt), t = s.tick k ∧ s.traceNext = some e ∧ Tab.get [] s.trace.fifos e = p :: r ∧ n = Tab.get 0 s.trace.lost e ∧ l = (if s.trace.syncDue then [.sync (s.rd WD_TALLY.TALLY % 2 ^ 48) t.nowNs] else []) ++ (if n = 0 then [] else [.lost e p.time n]) ++ [p] ∧ 256 < s.trace.buffer.length + l.length) ∧
    (∃ (s : State) (t : State) (k : Nat) (e : Nat) (n : Nat) (p : TracePkt) (r : List TracePkt) (l : List TracePkt), t = s.tick k ∧ s.traceNext = some e ∧ Tab.get [] s.trace.fifos e = p :: r ∧ n = Tab.get 0 s.trace.lost e ∧ l = (if s.trace.syncDue then [.sync (s.rd WD_TALLY.TALLY % 2 ^ 48) t.nowNs] else []) ++ (if n = 0 then [] else [.lost e p.time n]) ++ [p] ∧ s.trace.buffer.length + l.length ≤ 256) ∧
    (∃ (s : State), s.trace.buffer = [] ∧ s.pinsRun = false) :=
  ⟨⟨stimAt [(TR_STIM.EN.key 63, 2147483648), (LP_TRACE_CTRL.EN.key, 1)] 268370056 ({ Engine.cold with g := [(30, 0xA1B2C3D4), (31, 0x12345678)] }) Trace.cold, (stimAt [(TR_STIM.EN.key 63, 2147483648), (LP_TRACE_CTRL.EN.key, 1)] 268370056 ({ Engine.cold with g := [(30, 0xA1B2C3D4), (31, 0x12345678)] }) Trace.cold).tick 5, 63, 268370056, 5, 31, 31, 2, ⟨0, 0⟩, { Engine.cold with g := [(30, 0xA1B2C3D4), (31, 0x12345678)] }, [], by decide +kernel⟩,
   ⟨stimAt [(LP_TRACE_CTRL.EN.key, 1)] 266272840 ({ Engine.cold with g := [(30, 0xA1B2C3D4), (31, 0x12345678)] }) Trace.cold, (stimAt [(LP_TRACE_CTRL.EN.key, 1)] 266272840 ({ Engine.cold with g := [(30, 0xA1B2C3D4), (31, 0x12345678)] }) Trace.cold).tick 5, 63, 266272840, 5, 30, 31, 1, ⟨0, 0⟩, { Engine.cold with g := [(30, 0xA1B2C3D4), (31, 0x12345678)] }, [], by decide +kernel⟩,
   ⟨stimAt [(TR_STIM.EN.key 63, 2147483648), (LP_TRACE_CTRL.EN.key, 1)] 266272904 ({ Engine.cold with g := [(30, 0xA1B2C3D4), (31, 0x12345678)] }) Trace.cold, (stimAt [(TR_STIM.EN.key 63, 2147483648), (LP_TRACE_CTRL.EN.key, 1)] 266272904 ({ Engine.cold with g := [(30, 0xA1B2C3D4), (31, 0x12345678)] }) Trace.cold).tick 5, 63, 266272904, 5, 30, 31, 2, ⟨0, 0⟩, { Engine.cold with g := [(30, 0xA1B2C3D4), (31, 0x12345678)] }, [], by decide +kernel⟩,
   ⟨stimAt [(TR_STIM.EN.key 63, 2147483648), (LP_TRACE_CTRL.EN.key, 1), (TR_STIM.DROPS.key 63, 4294967295)] 203358216 ({ Engine.cold with g := [(30, 0xA1B2C3D4), (31, 0x12345678)] }) ({ Trace.cold with fifos := [(63, List.replicate 8 (.stim 63 0 0 1 2))] }), (stimAt [(TR_STIM.EN.key 63, 2147483648), (LP_TRACE_CTRL.EN.key, 1), (TR_STIM.DROPS.key 63, 4294967295)] 203358216 ({ Engine.cold with g := [(30, 0xA1B2C3D4), (31, 0x12345678)] }) ({ Trace.cold with fifos := [(63, List.replicate 8 (.stim 63 0 0 1 2))] })).tick 5, 63, 203358216, 5, 0, 31, 0, ⟨0, 0⟩, { Engine.cold with g := [(30, 0xA1B2C3D4), (31, 0x12345678)] }, List.replicate 8 (.stim 63 0 0 1 2), by decide +kernel⟩,
   ⟨{ given [(LP_TRACE_CTRL.TRC_MHZ.key, 77)] with clk := { State.reset.clk with stage := .running }, trace := Trace.cold }, ({ given [(LP_TRACE_CTRL.TRC_MHZ.key, 77)] with clk := { State.reset.clk with stage := .running }, trace := Trace.cold }).tick 5, 5, by decide +kernel⟩,
   ⟨{ given [] with clk := { State.reset.clk with stage := .running }, trace := Trace.cold }, ({ given [] with clk := { State.reset.clk with stage := .running }, trace := Trace.cold }).tick 5, 5, by decide +kernel⟩,
   ⟨{ given [(LP_TRACE_CTRL.EN.key, 1), (WD_TALLY.TALLY.key, 281474976710661)] with clk := { State.reset.clk with stage := .running }, trace := Trace.cold }, ({ given [(LP_TRACE_CTRL.EN.key, 1), (WD_TALLY.TALLY.key, 281474976710661)] with clk := { State.reset.clk with stage := .running }, trace := Trace.cold }).tick 5, 5, by decide +kernel⟩,
   ⟨{ given [(LP_TRACE_CTRL.EN.key, 1)] with clk := { State.reset.clk with stage := .running }, trace := { Trace.cold with buffer := List.replicate 256 .idle } }, ({ given [(LP_TRACE_CTRL.EN.key, 1)] with clk := { State.reset.clk with stage := .running }, trace := { Trace.cold with buffer := List.replicate 256 .idle } }).tick 5, 5, by decide +kernel⟩,
   ⟨{ given [] with clk := { State.reset.clk with stage := .running }, trace := Trace.cold }, ({ given [] with clk := { State.reset.clk with stage := .running }, trace := Trace.cold }).tick 5, 5, by decide +kernel⟩,
   ⟨{ given [(WD_TALLY.TALLY.key, 9)] with clk := { State.reset.clk with stage := .running }, trace := { Trace.cold with fifos := [(0, [.stim 0 1 1 9 8, .stim 0 2 1 9 8])], lost := [(0, 3)], syncDue := true, buffer := List.replicate 254 .idle } }, ({ given [(WD_TALLY.TALLY.key, 9)] with clk := { State.reset.clk with stage := .running }, trace := { Trace.cold with fifos := [(0, [.stim 0 1 1 9 8, .stim 0 2 1 9 8])], lost := [(0, 3)], syncDue := true, buffer := List.replicate 254 .idle } }).tick 5, 5, 0, 3, .stim 0 1 1 9 8, [.stim 0 2 1 9 8], [.sync 9 (({ given [(WD_TALLY.TALLY.key, 9)] with clk := { State.reset.clk with stage := .running }, trace := { Trace.cold with fifos := [(0, [.stim 0 1 1 9 8, .stim 0 2 1 9 8])], lost := [(0, 3)], syncDue := true, buffer := List.replicate 254 .idle } }).tick 5).nowNs, .lost 0 9 3, .stim 0 1 1 9 8], by decide +kernel⟩,
   ⟨{ given [(WD_TALLY.TALLY.key, 9)] with clk := { State.reset.clk with stage := .running }, trace := { Trace.cold with fifos := [(0, [.stim 0 1 1 9 8, .stim 0 2 1 9 8])], lost := [(0, 3)], syncDue := true, buffer := List.replicate 253 .idle } }, ({ given [(WD_TALLY.TALLY.key, 9)] with clk := { State.reset.clk with stage := .running }, trace := { Trace.cold with fifos := [(0, [.stim 0 1 1 9 8, .stim 0 2 1 9 8])], lost := [(0, 3)], syncDue := true, buffer := List.replicate 253 .idle } }).tick 5, 5, 0, 3, .stim 0 1 1 9 8, [.stim 0 2 1 9 8], [.sync 9 (({ given [(WD_TALLY.TALLY.key, 9)] with clk := { State.reset.clk with stage := .running }, trace := { Trace.cold with fifos := [(0, [.stim 0 1 1 9 8, .stim 0 2 1 9 8])], lost := [(0, 3)], syncDue := true, buffer := List.replicate 253 .idle } }).tick 5).nowNs, .lost 0 9 3, .stim 0 1 1 9 8], by decide +kernel⟩,
   ⟨{ given [] with clk := { State.reset.clk with stage := .running }, trace := Trace.cold }, by decide +kernel⟩⟩

/-- The hypotheses of each clause of `Obligations.TracePinsRegs` can be met (2). -/
theorem test_hyps_TracePinsRegs_2 :
    (∃ (s : State), s.trace.buffer = [] ∧ s.pinsRun = true) ∧
    (∃ (s : State), (s.trace.line = [] ∨ s.ringRuns = false)) ∧
    (∃ (s : State), s.trace.line ≠ [] ∧ s.ringRuns = true) ∧
    (∃ (s : State) (p : TracePkt) (r : List TracePkt) (u : State), s.trace.buffer = p :: r ∧ u = { s.wr LP_TRACE_STATUS.BUF_FILL r.length with trace := { s.trace with buffer := r } } ∧ s.pinsRun = false ∧ s.ringRuns = false) ∧
    (∃ (s : State) (p : TracePkt) (r : List TracePkt) (u : State), s.trace.buffer = p :: r ∧ u = { s.wr LP_TRACE_STATUS.BUF_FILL r.length with trace := { s.trace with buffer := r } } ∧ s.pinsRun = true ∧ s.ringRuns = false) ∧
    (∃ (s : State) (p : TracePkt) (r : List TracePkt) (u : State), s.trace.buffer = p :: r ∧ u = { s.wr LP_TRACE_STATUS.BUF_FILL r.length with trace := { s.trace with buffer := r } } ∧ s.pinsRun = false ∧ s.ringRuns = true ∧ s.rd LP_TRACE_STATUS.FULL = 0 ∧ s.rd LP_TRACE_CTRL.STOP_ON_FULL = 0 ∧ s.trace.line.length < 3) ∧
    (∃ (s : State) (p : TracePkt) (r : List TracePkt) (u : State), s.trace.buffer = p :: r ∧ u = { s.wr LP_TRACE_STATUS.BUF_FILL r.length with trace := { s.trace with buffer := r } } ∧ s.pinsRun = false ∧ s.ringRuns = true ∧ s.rd LP_TRACE_STATUS.FULL = 0 ∧ s.rd LP_TRACE_CTRL.STOP_ON_FULL = 0 ∧ s.trace.line.length = 3) ∧
    (∃ (s : State) (b : Nat), b < 17 ∧ s.rd IO_BANK_STATUS.STATE b ≠ 0) ∧
    (∃ (s : State) (b : Nat), b < 17 ∧ s.rd IO_BANK_STATUS.STATE b = 0 ∧ b < 16) ∧
    (∃ (s : State) (b : Nat), b < 17 ∧ s.rd IO_BANK_STATUS.STATE b = 0 ∧ b = 16) ∧
    (∃ (s : State) (b : Nat), b < 17 ∧ s.rd IO_BANK_STATUS.STATE b ≠ 1) ∧
    (∃ (s : State) (b : Nat), b < 17 ∧ s.rd IO_BANK_STATUS.STATE b = 1 ∧ b < 16) :=
  ⟨⟨{ given [(LP_TRACE_CTRL.PINS_EN.key, 1), (IO_MG_EN.TRACE.key, 1), (IO_BANK_STATUS.STATE.key 16, 2)] with clk := { State.reset.clk with stage := .running }, trace := Trace.cold }, by decide +kernel⟩,
   ⟨{ given [(LP_TRACE_CTRL.RING_EN.key, 1), (LP_TRACE_RING.OK.key, 1), (LP_TRACE_RING.SIZE.key, 1)] with clk := { State.reset.clk with stage := .running }, trace := Trace.cold }, by decide +kernel⟩,
   ⟨{ given [(LP_TRACE_CTRL.RING_EN.key, 1), (LP_TRACE_RING.OK.key, 1), (LP_TRACE_RING.SIZE.key, 1)] with clk := { State.reset.clk with stage := .running }, trace := { Trace.cold with line := [.idle] } }, by decide +kernel⟩,
   ⟨{ given [] with clk := { State.reset.clk with stage := .running }, trace := { Trace.cold with buffer := [.sync 5 6, .idle], line := [] } }, .sync 5 6, [.idle], { ({ given [] with clk := { State.reset.clk with stage := .running }, trace := { Trace.cold with buffer := [.sync 5 6, .idle], line := [] } }).wr LP_TRACE_STATUS.BUF_FILL 1 with trace := { Trace.cold with buffer := [.idle], line := [] } }, by decide +kernel⟩,
   ⟨{ given [(LP_TRACE_CTRL.PINS_EN.key, 1), (IO_MG_EN.TRACE.key, 1), (IO_BANK_STATUS.STATE.key 16, 2)] with clk := { State.reset.clk with stage := .running }, trace := { Trace.cold with buffer := [.sync 5 6, .idle], line := [] } }, .sync 5 6, [.idle], { ({ given [(LP_TRACE_CTRL.PINS_EN.key, 1), (IO_MG_EN.TRACE.key, 1), (IO_BANK_STATUS.STATE.key 16, 2)] with clk := { State.reset.clk with stage := .running }, trace := { Trace.cold with buffer := [.sync 5 6, .idle], line := [] } }).wr LP_TRACE_STATUS.BUF_FILL 1 with trace := { Trace.cold with buffer := [.idle], line := [] } }, by decide +kernel⟩,
   ⟨{ given [(LP_TRACE_CTRL.RING_EN.key, 1), (LP_TRACE_RING.OK.key, 1), (LP_TRACE_RING.SIZE.key, 1)] with clk := { State.reset.clk with stage := .running }, trace := { Trace.cold with buffer := [.sync 5 6, .idle], line := [.idle, .idle] } }, .sync 5 6, [.idle], { ({ given [(LP_TRACE_CTRL.RING_EN.key, 1), (LP_TRACE_RING.OK.key, 1), (LP_TRACE_RING.SIZE.key, 1)] with clk := { State.reset.clk with stage := .running }, trace := { Trace.cold with buffer := [.sync 5 6, .idle], line := [.idle, .idle] } }).wr LP_TRACE_STATUS.BUF_FILL 1 with trace := { Trace.cold with buffer := [.idle], line := [.idle, .idle] } }, by decide +kernel⟩,
   ⟨{ given [(LP_TRACE_CTRL.RING_EN.key, 1), (LP_TRACE_RING.OK.key, 1), (LP_TRACE_RING.SIZE.key, 1)] with clk := { State.reset.clk with stage := .running }, trace := { Trace.cold with buffer := [.sync 5 6, .idle], line := [.idle, .idle, .idle] } }, .sync 5 6, [.idle], { ({ given [(LP_TRACE_CTRL.RING_EN.key, 1), (LP_TRACE_RING.OK.key, 1), (LP_TRACE_RING.SIZE.key, 1)] with clk := { State.reset.clk with stage := .running }, trace := { Trace.cold with buffer := [.sync 5 6, .idle], line := [.idle, .idle, .idle] } }).wr LP_TRACE_STATUS.BUF_FILL 1 with trace := { Trace.cold with buffer := [.idle], line := [.idle, .idle, .idle] } }, by decide +kernel⟩,
   ⟨given [(IO_BANK_STATUS.STATE.key 16, 2)], 16, by decide +kernel⟩,
   ⟨given [(CK_RAIL_STATUS.BANK_GOOD.key, 1)], 15, by decide +kernel⟩,
   ⟨given [], 16, by decide +kernel⟩,
   ⟨given [], 16, by decide +kernel⟩,
   ⟨{ given [(IO_BANK_STATUS.STATE.key 15, 1)] with pins := [(48 * 14 + 2, { Pin.cold with fabric := true }), (48 * 15 + 2, { Pin.cold with fabric := true })] }, 15, by decide +kernel⟩⟩

/-- The hypotheses of each clause of `Obligations.TracePinsRegs` can be met (3). -/
theorem test_hyps_TracePinsRegs_3 :
    (∃ (s : State) (b : Nat), b < 17 ∧ s.rd IO_BANK_STATUS.STATE b = 1 ∧ b = 16) ∧
    (∃ (s : State) (b : Nat), b < 17 ∧ s.rd IO_BANK_STATUS.STATE b = 0) ∧
    (∃ (s : State) (b : Nat), b < 17 ∧ s.rd IO_BANK_STATUS.STATE b = 2 ∧ b < 16 ∧ (s.rd CK_RAIL_STATUS.BANK_GOOD).testBit b = true) ∧
    (∃ (s : State) (b : Nat), b < 17 ∧ s.rd IO_BANK_STATUS.STATE b = 2 ∧ b = 16) ∧
    (∃ (s : State) (b : Nat), b < 17 ∧ s.rd IO_BANK_STATUS.STATE b = 1 ∧ b = 16) ∧
    (∃ (b : Nat), b < 17) ∧
    (∃ (b : Nat) (j : Nat) (v : Nat), b < 17 ∧ j < (if b = 16 then 64 else 48) ∧ (v / 32 % 4 = 3 ∨ (b = 16 ∧ v / 2 ^ 11 % 4 = 3))) ∧
    (∃ (b : Nat) (j : Nat) (v : Nat), b < 17 ∧ j < 48 ∧ b < 16 ∧ v / 32 % 4 ≠ 3) ∧
    (∃ (b : Nat) (j : Nat) (v : Nat), b < 17 ∧ j < 64 ∧ b = 16 ∧ v / 32 % 4 ≠ 3 ∧ v / 2 ^ 11 % 4 ≠ 3) ∧
    (∃ (s : State) (t : State) (a : Nat) (k : Nat) (m : Master), t = s.tick k ∧ (windowOf a ≠ .register ∨ s.reaches a m = false)) ∧
    (∃ (s : State) (t : State) (a : Nat) (z : Nat) (k : Nat) (m : Master), t = s.tick k ∧ windowOf a = .register ∧ s.reaches a m = true ∧ ((z ≠ 4 ∧ z ≠ 8) ∨ a % z ≠ 0)) ∧
    (∃ (s : State) (t : State) (a : Nat) (z : Nat) (k : Nat) (m : Master), t = s.tick k ∧ windowOf a = .register ∧ s.reaches a m = true ∧ (z = 4 ∨ z = 8) ∧ a % z = 0 ∧ blockAt a = none) :=
  ⟨⟨given [(IO_BANK_STATUS.STATE.key 16, 1)], 16, by decide +kernel⟩,
   ⟨given [], 16, by decide +kernel⟩,
   ⟨{ given [(IO_BANK_STATUS.STATE.key 15, 2), (CK_RAIL_STATUS.BANK_GOOD.key, 32769)] with pins := [(48 * 14 + 2, { Pin.cold with fabric := true }), (48 * 15 + 2, { Pin.cold with fabric := true })] }, 15, by decide +kernel⟩,
   ⟨given [(IO_BANK_STATUS.STATE.key 16, 2), (CK_RAIL_STATUS.MGMT_GOOD.key, 1)], 16, by decide +kernel⟩,
   ⟨given [(IO_BANK_STATUS.STATE.key 16, 1), (CK_RAIL_STATUS.MGMT_GOOD.key, 1)], 16, by decide +kernel⟩,
   ⟨0, by decide +kernel⟩,
   ⟨16, 63, 6144, by decide +kernel⟩,
   ⟨15, 2, 2015, by decide +kernel⟩,
   ⟨16, 63, 6079, by decide +kernel⟩,
   ⟨given [], (given []).tick 5, 1100677644304, 5, .host, by decide +kernel⟩,
   ⟨{ given [(BW_ERR.CRC_ERR.key, 65535), (BW_ERR.RESENT.key, 3), (BW_ERR.HOP_DOWNS.key, 65535)] with clk := { State.reset.clk with stage := .running } }, ({ given [(BW_ERR.CRC_ERR.key, 65535), (BW_ERR.RESENT.key, 3), (BW_ERR.HOP_DOWNS.key, 65535)] with clk := { State.reset.clk with stage := .running } }).tick 5, 1100677644308, 8, 5, .host, by decide +kernel⟩,
   ⟨{ given [] with clk := { State.reset.clk with stage := .running } }, ({ given [] with clk := { State.reset.clk with stage := .running } }).tick 5, 1100701761536, 8, 5, .host, by decide +kernel⟩⟩

/-- The hypotheses of each clause of `Obligations.TracePinsRegs` can be met (4). -/
theorem test_hyps_TracePinsRegs_4 :
    (∃ (s : State) (t : State) (a : Nat) (z : Nat) (k : Nat) (i : Nat) (o : Nat) (m : Master) (b : Block) (x : RegAt), t = s.tick k ∧ windowOf a = .register ∧ s.reaches a m = true ∧ (z = 4 ∨ z = 8) ∧ a % z = 0 ∧ blockAt a = some (b, i, o) ∧ b ∉ [.qu, .sc, .tr, .trc, .cg, .fm] ∧ regAt b i (o / 8 * 8) = some x) ∧
    (∃ (s : State) (t : State) (a : Nat) (z : Nat) (k : Nat) (i : Nat) (o : Nat) (m : Master) (b : Block) (x : RegAt), t = s.tick k ∧ windowOf a = .register ∧ s.reaches a m = true ∧ (z = 4 ∨ z = 8) ∧ a % z = 0 ∧ blockAt a = some (b, i, o) ∧ b ∉ [.qu, .tr, .trc, .cg, .lp] ∧ regAt b i (o / 8 * 8) = some x) ∧
    (∃ (s : State) (t : State) (a : Nat) (k : Nat) (m : Master), t = s.tick k ∧ s.clk.stage = .running ∧ s.clk.warmHold = false ∧ m = .engine 0 0 ∧ a = 0x010045800010) ∧
    (∃ (s : State) (t : State) (a : Nat) (k : Nat) (i : Nat) (m : Master), t = s.tick k ∧ s.clk.stage = .running ∧ s.clk.warmHold = false ∧ m = .engine 0 0 ∧ i < 16 ∧ a = 0x010046080000 + i * 0x80000) :=
  ⟨⟨{ given [(BW_ERR.CRC_ERR.key, 65535), (BW_ERR.RESENT.key, 3), (BW_ERR.HOP_DOWNS.key, 65535)] with clk := { State.reset.clk with stage := .running } }, ({ given [(BW_ERR.CRC_ERR.key, 65535), (BW_ERR.RESENT.key, 3), (BW_ERR.HOP_DOWNS.key, 65535)] with clk := { State.reset.clk with stage := .running } }).tick 5, 1100677644308, 4, 5, 0, 20, .lamp, .bw, ⟨⟨"BW_ERR", .bw, 0x10, 0, 1, BW_ERR.regs⟩, 0, 0⟩, by decide +kernel⟩,
   ⟨{ given [(IO_BANK_STATUS.DROPPED.key 15, 1)] with clk := { State.reset.clk with stage := .running } }, ({ given [(IO_BANK_STATUS.DROPPED.key 15, 1)] with clk := { State.reset.clk with stage := .running } }).tick 5, 1100694421504, 8, 5, 15, 0, .host, .iob, ⟨⟨"IO_BANK_STATUS", .iob, 0x0, 0, 1, IO_BANK_STATUS.regs⟩, 15, 0⟩, by decide +kernel⟩,
   ⟨{ given [(BW_ERR.CRC_ERR.key, 65535), (BW_ERR.RESENT.key, 3), (BW_ERR.HOP_DOWNS.key, 65535)] with clk := { State.reset.clk with stage := .running } }, ({ given [(BW_ERR.CRC_ERR.key, 65535), (BW_ERR.RESENT.key, 3), (BW_ERR.HOP_DOWNS.key, 65535)] with clk := { State.reset.clk with stage := .running } }).tick 5, 1100677644304, 5, .engine 0 0, by decide +kernel⟩,
   ⟨{ given [(IO_BANK_STATUS.DROPPED.key 15, 1), (IO_BANK_STATUS.CFG_ERR.key 15, 1)] with clk := { State.reset.clk with stage := .running } }, ({ given [(IO_BANK_STATUS.DROPPED.key 15, 1), (IO_BANK_STATUS.CFG_ERR.key 15, 1)] with clk := { State.reset.clk with stage := .running } }).tick 5, 1100694421504, 5, 15, .engine 0 0, by decide +kernel⟩⟩

end Sys2Proof.Tests
end

section
/-! PROOF. Every well-formed command completes (O6; 00 R1, 01 R30 to R34). -/

namespace Sys2Proof.Machine

/-- What a meaning may answer: a next state where the command names units of the part, the fault `noSuchUnit` where it does not. -/
def Completes (ok : Bool) (r : Res) : Prop :=
  (ok = true → ∃ t, r = .next t) ∧ (ok = false → r = .fault .noSuchUnit)

theorem Completes.next (t : State) : Completes true (.next t) := ⟨fun _ => ⟨t, rfl⟩, nofun⟩

theorem Completes.need (ok : Bool) (t : State) : Completes ok (need ok t) := by
  cases ok with
  | true => exact Completes.next t
  | false => exact ⟨nofun, fun _ => rfl⟩

/-- A meaning that checks its units in other words than `wellFormed`. -/
theorem Completes.need_of_eq {ok ok' : Bool} (h : ok' = ok) (t : State) : Completes ok (Machine.need ok' t) :=
  h ▸ Completes.need ok' t

/-- The stope-port range as STOPE_PORT_TARGET_ACCESS checks it (01 R34). -/
theorem inPortRange_check (a : Nat) :
    (decide (0x010010000000 ≤ a) && decide ((a - 0x010010000000) / 0x100000 < 640)
      && decide (0x10000 ≤ (a - 0x010010000000) % 0x100000)) = decide (inPortRange a) := by
  simp [inPortRange]

/-- The stream and map entries as the write of one checks them (10 R284). -/
theorem isStreamOffset_check (port off : Nat) :
    decide (port < 16 ∧ off % 8 = 0 ∧
      ((0x200 ≤ off ∧ off < 0x300) ∨ (0x400 ≤ off ∧ off < 0x500) ∨ (0x20000 ≤ off ∧ off < 0x60000)))
      = decide (port < 16 ∧ isStreamOffset off) := by
  simp [isStreamOffset, or_assoc]

/-- The Tram memories as a Gallery access to one checks them (01 R30, R33). -/
theorem inTramMemory_check (a : Nat) :
    decide (0x010004000000 ≤ a ∧ a < 0x010006000000 ∧ (inCrib a ∨ a % 0x40000 < 0x20000)) = decide (inTramMemory a) := by
  rw [decide_eq_decide]
  simp only [inTramMemory, inCrib, Bool.and_eq_true, Bool.or_eq_true, decide_eq_true_eq]
  omega

/-- BREAK adds the debug entry to what its issue answers. -/
theorem execBreak_completes (e : Nat) (v : TramView) (s : State) : Completes (decide (e < 64)) (execBreak e v s) := by
  unfold execBreak State.issue
  by_cases h : e < 64
  · simpa [h, need] using Completes.next _
  · simpa [h, need] using Completes.need false s

/-- Every arm of the dispatch completes on the units that its command names. -/
theorem exec_completes (c : Instr) (s : State) : Completes (wellFormed c) (exec c s) := by
  cases c with
  -- commands that name no unit
  | cold | vccAonLoss | refclkWindowEnd | refclkEdgeTimeout | rootLock | lockTimeout | aligned | clockSwitchDone | switchHang
  | foremanResetRelease | rootLost | railGood | retry | phaseDivWrite | phaseDivApply | perstAssert | warmReq | warmHoldEnd | stopeResetReq
  | stopeResetLineHigh | stopeResetEnd | engineResetDone | strokeStart | activePhase | slotEnd | holdPhase | strokeBoundary | start | abort
  | extentReadData | streamHeader | segmentHeader | segmentTagCheck | nop | write | meminit | ibeusEnd | shadowWriteAck | loadComplete
  | abortDone | loadDeadline | diagSectionCheck | run | stopAt | step | sample | backfill | rewind | replay | groupStall | sampleCopyOut
  | sampleComplete | engLimitExpiry | engineAck | restoreDone | perstRelease | configRequest | baseTimeout | hostMemoryRequest | linkDown
  | dmaTurn | packetHop | agePromotion | area | replan | dramWriteback | nodeFetchDone | cribWriteback | fwPrimary | fwGolden | base | fuse
  | xcCalibrate | shiftStart | fabric | record | identify | readRecord | clearRecord | keyLoad | keyDraw | keyClear | flashUpdate
  | remapAdd | readLog | echo | sensorSample | logEntry | logFlashMirror | loadDeadlineWrite | enum | enumDone | linkChange | announce
  | stateReq | state | grant | event | eventAck | report | cmd | cmdDone | messageResend | hopStateChange | headTimeout | enumTimer
  | enumRequest | announceTimer | time | timeSend | ptpSync | incWrite | timeStep | timeSrcWrite | timeRead | masterLoss | peek | consume
  | lampWrite | lampRepeat | lampBreak | lampReset | lampClockTimeout | get | submit | lock | challengeExpiry | lockoutEnd | traceEnable
  | traceSync | traceLineTimeout | mgEnWrite | registerWrite | registerRead | dataLinkUp | mbDone | traceFunnel | traceBufferOutput
  | extentPush =>
    exact Completes.next _
  -- commands that check the units they name
  | railLost | clockGate | engineResetReq | stopePowerDown | stopePowerUp | stopePowerUpDone | crewPowerDown | crewPowerUp
  | crewPowerUpDone | columnRepair | refillDone | refillShadowError | treeSrcWrite | treeSwitchDone | treeSwitchHang | treeStep
  | eccWriteback | sweepStep | copyStarved | memInjectArm | binQueueMove | levelIrqResponse | corerCopyUnit | journalStore | frameWritten
  | readback | readbackDone | isolate | release | isoEffect | stopePortResponse | scrubFrameRead | shadowRepairRead | spoilClear
  | sbCtrlRefresh | refreshLost | peerFaultRestart | scrubEnable | scrubInject | corerDrainFrame | stopeBackfillDone | xcPortCtrlWrite
  | lanePllLock | los | cdrLock | cdrLockLost | fecCodeword | alignmentBlock | slip | txSleep | txSleepEntered | txWakeDone | rxSleep
  | sleepBlock | testWrite | txeqWrite | eyeScanGo | eyeScanDone | gate | altWrite | strokeFrame | ack | nak | ackTimer | resendTimeout
  | sync | syncTimer | failover | dmaCompletion | queueEnable | queueStop | queueAbort | quPush | quPushLast | quPop | quDoorbell
  | doorbellFlip | bankSwap | spillDone | copyBackDone | noticeWrite | coalesceTimer | msixGapEnd | msixUnmask | binLinkWrite
  | galleryRequest | galleryResponse | galleryTimeout | tagRelease | routeWrite | regulatorRefill | channelTrain | trainingDone | dramRead
  | wcTimeout | refreshDue | fillComplete | flipArm | rangeEnable | rangeEnableDone | rangeRetire | rangeRetireDone | interruptEntry
  | debugEntry | trStart | trResume | trHalt | loaded | haltReq | watchdogExpiry | kick | wdogWrite | hoistGo | hoistAbort | hoistDone
  | qnote | noticeResend | irqPost | postPop | seamSelfTest | crewInit | currentMonitorRead | capture | compareWindow | vccioDetect
  | settlingEnd | vccioLoss | stopePowerDownDone | crewPowerDownDone | dimmThermalSensor | illegalInstruction =>
    exact Completes.need _ _
  -- instructions of the Tram engines
  | add | sub | and | or | xor | andn | cmplt | cmpltu | shl | shr | sar | shli | shri | sari | mul | mulhs | mulhu | min | max | abs | clz
  | jmp | callr | addc | cmpltc | cmpltuc | andc | orc | xorc | movh | ldB | ldBu | ldH | ldHu | ldW | ldP | ldrW | ldrP | stB | stH | stW
  | stP | stsW | stsP | stcW | stcP | ldk | stk | brEq | brNe | brLt | brGe | brLtu | brGeu | go | call | rep | repr | mac2 | msu2 | macx
  | mul2 | mac1 | macr | mfa | mta | aclr | aadd | asr | mfah | mtal | mtam | mtah | qpush | qpushl | qpop | qpoph | stim | wait | ei | di
  | retx | retm | trap | rdc | wrc | rdk | wrk =>
    exact Completes.need _ _
  -- the same check in other words
  | stopePortTargetAccess => exact Completes.need_of_eq (inPortRange_check _) _
  | streamMapWrite => exact Completes.need_of_eq (isStreamOffset_check _ _) _
  | dramWrite => exact Completes.need_of_eq (Bool.decide_and ..).symm _
  | cribGalleryAccess => exact Completes.need_of_eq (inTramMemory_check _) _
  | pinWrite => exact Completes.need_of_eq rfl _
  -- BREAK alone is left
  | _ => exact execBreak_completes _ _ _

/-- Settles O6: each arm of the dispatch answers a next state, or checks exactly the units that `wellFormed` names. -/
theorem wellFormedCompletes : Obligations.WellFormedCompletes := fun c s => exec_completes c s

end Sys2Proof.Machine
end

section
/-! PROOF. What folds of writes and filters of a table leave of a register field, for the proofs below. -/

namespace Sys2Proof.Machine

/-- A filter that drops every entry of a key leaves it unlisted. -/
theorem Tab.get_filter_drop {κ α : Type} [DecidableEq κ] {d : α} {t : List (κ × α)} {k : κ} (f : κ × α → Bool)
    (h : ∀ v, f (k, v) = false) : Tab.get d (t.filter f) k = d := by
  induction t with
  | nil => rfl
  | cons p r ih =>
    obtain ⟨a, v⟩ := p
    by_cases e : a = k
    · subst e
      rw [List.filter_cons, h v]
      exact ih
    · rw [List.filter_cons]
      split <;> simp [Tab.get, e, ih]

/-- The keep flag that a field's number carries is the field's. -/
theorem Fld.idKeepWarm_id (f : Fld) : Fld.idKeepWarm f.id = f.keepWarm := by
  have hu : b2n f.keepUnit < 2 := by cases f.keepUnit <;> decide
  have hw : b2n f.keepWarm < 2 := by cases f.keepWarm <;> decide
  have hd : f.id / 2 % 2 = b2n f.keepWarm := by
    unfold Fld.id
    omega
  rw [Fld.idKeepWarm, Nat.testBit_eq_decide_div_mod_eq, pow_one, hd]
  cases f.keepWarm <;> rfl

/-- A field that no write of a fold names reads as before. -/
theorem State.rd_foldl_wr_other {α : Type} {l : List α} {g : α → Fld} {v u j : α → Nat} {f : Fld} {u' j' : Nat}
    (h : ∀ a ∈ l, f.id ≠ (g a).id) (t : State) :
    (l.foldl (fun t a => t.wr (g a) (v a) (u a) (j a)) t).rd f u' j' = t.rd f u' j' := by
  induction l generalizing t with
  | nil => rfl
  | cons a l ih =>
    exact (ih (fun b hb => h b (List.mem_cons_of_mem _ hb)) _).trans (State.rd_wr_other t (h a (List.mem_cons_self ..)))

/-- Fields of different numbers all read 0 once each is cleared. -/
theorem State.rd_foldl_clear {l : List Fld} (hl : (l.map Fld.id).Nodup) {f : Fld} (hf : f ∈ l) (t : State) :
    (l.foldl (fun t g => t.wr g 0) t).rd f = 0 := by
  induction l generalizing t with
  | nil => cases hf
  | cons a l ih =>
    obtain ⟨ha, hl⟩ := List.nodup_cons.1 hl
    rw [List.foldl_cons]
    rcases List.mem_cons.1 hf with rfl | hf
    · refine (State.rd_foldl_wr_other (fun b hb e => ha ?_) _).trans (by simp)
      exact e ▸ List.mem_map_of_mem hb
    · exact ih hl hf _

/-- A field set to 1 at each index of a list. -/
theorem State.rd_foldl_wr_one {f : Fld} (hf : 1 % 2 ^ f.wid = 1) (l : List (Nat × Nat)) (p i : Nat) (t : State) :
    (l.foldl (fun t x => t.wr f 1 x.1 x.2) t).rd f p i = if (p, i) ∈ l then 1 else t.rd f p i := by
  induction l generalizing t with
  | nil => rfl
  | cons x l ih =>
    rw [List.foldl_cons, ih]
    by_cases hx : (p, i) = x
    · subst hx
      simp [hf]
    · rw [State.rd_wr_ne t (by intro e; injection e with _ h1 h2; exact hx (Prod.ext h1 h2))]
      simp [hx]

variable {s t : State}

/-- A change of registers alone. -/
def RegsOnly (s t : State) : Prop := { t with regs := s.regs } = s

/-- What does not read the registers is kept. -/
theorem RegsOnly.keeps {α : Type} (h : RegsOnly s t) (g : State → α)
    (hg : ∀ x r, g { x with regs := r } = g x := by exact fun _ _ => rfl) : g t = g s :=
  (hg t s.regs).symm.trans (congrArg g h)

theorem RegsOnly.refl : RegsOnly s s := rfl

theorem RegsOnly.wr (h : RegsOnly s t) (f : Fld) (v u j : Nat) : RegsOnly s (t.wr f v u j) := h

theorem RegsOnly.foldl {α : Type} {step : State → α → State} (h : RegsOnly s t) (k : ∀ t a, RegsOnly s t → RegsOnly s (step t a))
    (l : List α) : RegsOnly s (l.foldl step t) := by
  induction l generalizing t with
  | nil => exact h
  | cons a l ih => exact ih (k t a h)

end Sys2Proof.Machine
end

section
/-! PROOF. Reset and COLD (O3, O12; 00 R13, 02 R59). -/

namespace Sys2Proof.Machine

/-- With no register listed every field reads its cold value. -/
theorem State.rd_of_regs_nil {s : State} (h : s.regs = []) (f : Fld) (u j : Nat) : s.rd f u j = f.coldAt u j := by
  rw [State.rd, h, Tab.get_nil]

/-- Settles O3: the reset state lists no register, so every field reads its cold value. -/
theorem resetCanonical : Obligations.ResetCanonical :=
  ⟨rfl, rfl, rfl, fun f u j => State.rd_of_regs_nil rfl f u j⟩

/-- The positions of the event log are the only fields that the log in flash sets after COLD (18 R476, R478). -/
theorem State.rd_reloadLog_other (s : State) {f : Fld} {u j : Nat} (h1 : f.id ≠ FM_LOG_POS.NEXT_SEQ.id)
    (h2 : f.id ≠ FM_LOG_POS.FLASHED.id) : s.reloadLog.rd f u j = s.rd f u j := by
  unfold State.reloadLog
  dsimp only
  split
  · exact State.rd_fo ..
  · exact (State.rd_wr_other _ h2).trans ((State.rd_wr_other _ h1).trans (State.rd_fo ..))

/-- Reloading the log changes the Foreman's log and registers alone. -/
theorem State.reloadLog_eq (s : State) : s.reloadLog =
    { s with regs := s.reloadLog.regs, fm := { s.fm with log := s.flash.log.drop (s.flash.log.length - 2048) } } := by
  unfold State.reloadLog
  dsimp only
  split
  · simp only [State.fo]
  · simp only [State.wr, State.fo]

/-- New keys change the encryption stage and the count of free values alone, and of the stage only nonce and device key. -/
theorem State.deriveKeys_eq (s : State) : ∃ n d, s.deriveKeys =
    { s with crypto := { s.crypto with nonce := n, devKey := d }, freeCount := s.freeCount + 2 } := ⟨_, _, rfl⟩

/-- A new boot's part before its log and keys are read: the reset state with the flash, and what is the model's own. -/
def State.powerOn (s : State) : State :=
  { State.reset with
    flash := s.flash, sent := s.sent, freeCount := s.freeCount, pending := s.pending
    fm := { Foreman.cold with record := s.flash.record } }

theorem State.cold_eq (s : State) : s.cold = s.powerOn.reloadLog.deriveKeys := rfl

/-- Settles O12: COLD is the reset state with the flash, and what the flash's log and the new keys set. -/
theorem coldReset : Obligations.ColdReset := by
  intro s
  obtain ⟨n, d, hk⟩ := State.deriveKeys_eq s.powerOn.reloadLog
  refine ⟨s.cold, rfl, ?_, ?_⟩
  · intro f u j h1 h2
    calc s.cold.rd f u j = s.powerOn.reloadLog.rd f u j := State.rd_of_regs (by rw [State.cold_eq, hk]) f u j
      _ = s.powerOn.rd f u j := State.rd_reloadLog_other _ h1 h2
      _ = f.coldAt u j := State.rd_of_regs_nil rfl f u j
  · rw [State.cold_eq, hk, State.reloadLog_eq]
    exact ⟨rfl, rfl, rfl, rfl, rfl, rfl, rfl, rfl, rfl, rfl, rfl, rfl, rfl, rfl, rfl, rfl, by simp only [State.powerOn]⟩

end Sys2Proof.Machine
end

section
/-! PROOF. WARM (O10; 00 R14; 02 R49, R50, R54, R58, R59). -/

namespace Sys2Proof.Machine

/-- The cause bits of `CK_RST_CAUSE`. -/
def warmCauses : List Fld :=
  [CK_RST_CAUSE.PERST, CK_RST_CAUSE.SW_WARM, CK_RST_CAUSE.ROOT_LOST, CK_RST_CAUSE.RAIL, CK_RST_CAUSE.LAMP]

/-- The fields that report clocks and rails: the events around a WARM set them. -/
def hardwareFields : List Fld :=
  [CK_CLK_STATUS.REFCLK_OK, CK_CLK_STATUS.ROOT_LOCK, CK_CLK_STATUS.ALIGNED, CK_CLK_STATUS.LIMP,
    CK_AON_STATUS.ROOT_LOST, CK_AON_STATUS.REFCLK_FAIL_COUNT, CK_RAIL_STATUS.CORE_GOOD, CK_RAIL_STATUS.SRAM_GOOD,
    CK_RAIL_STATUS.LANE09_GOOD, CK_RAIL_STATUS.LANE12_GOOD, CK_RAIL_STATUS.DDR_GOOD, CK_RAIL_STATUS.AUX_GOOD]

/-- The fields that a WARM neither keeps nor sets cold. -/
def warmSet : List Fld :=
  warmCauses ++ CK_RST_CAUSE.WARM_COUNT :: hardwareFields ++
    [FM_START_REC.REC, XC_LANE_EYE_RESULT.ABORTED, PC_CTRL.LEVEL, EN_KEY_STATUS.FILLED]

/-- What a WARM of this cause makes of `s`. -/
structure WarmOutcome (s : State) (cause : Fld) (t : State) : Prop where
  causes : ∀ g ∈ warmCauses, t.rd g = if g = cause then 1 else 0
  count : t.rd CK_RST_CAUSE.WARM_COUNT = min (s.rd CK_RST_CAUSE.WARM_COUNT + 1) 255
  fields : ∀ (f : Fld) (u j : Nat), (∀ g ∈ warmSet, f.id ≠ g.id) → t.rd f u j = if f.keepWarm then s.rd f u j else f.coldAt u j
  record : t.rd FM_START_REC.REC = s.rd FM_START_REC.REC % 64
  level : t.rd PC_CTRL.LEVEL = s.rd PC_CTRL.LEVEL_NEXT % 4
  scans : ∀ p i, p < 16 → i < 8 → t.rd XC_LANE_EYE_RESULT.ABORTED p i = if s.on XC_LANE_EYE_RESULT.BUSY p i then 1 else 0
  cleared : t.mem = [] ∧ t.fabMem = [] ∧ t.fabErr = [] ∧ t.frames = [] ∧ t.frameErr = [] ∧ t.stopes = []
  flash : t.flash = s.flash
  keys : t.crypto.slots = s.crypto.slots ∧ t.crypto.owner = s.crypto.owner
  log : t.fm.log = s.fm.log
  hold : t.clk.warmHold = true

/-- From `s` to `t` nothing has changed but the fields that report clocks and rails, the clocks and the event queue. -/
structure ReportsOnly (s t : State) : Prop where
  fields : ∀ (f : Fld) (u j : Nat), (∀ g ∈ hardwareFields, f.id ≠ g.id) → t.rd f u j = s.rd f u j
  rest : { t with regs := s.regs, clk := s.clk, events := s.events } = s

variable {s t : State} {cause : Fld}

/-- What reads neither the registers nor the clocks nor the events is kept. -/
theorem ReportsOnly.keeps {α : Type} (h : ReportsOnly s t) (g : State → α)
    (hg : ∀ x r c e, g { x with regs := r, clk := c, events := e } = g x := by exact fun _ _ _ _ => rfl) : g t = g s :=
  (hg t s.regs s.clk s.events).symm.trans (congrArg g h.rest)

theorem ReportsOnly.refl : ReportsOnly s s := ⟨fun _ _ _ _ => rfl, rfl⟩

theorem ReportsOnly.wr (h : ReportsOnly s t) {f : Fld} (hf : f ∈ hardwareFields) (v : Nat) : ReportsOnly s (t.wr f v) :=
  ⟨fun g u j hg => (State.rd_wr_other t (hg f hf)).trans (h.fields g u j hg), h.rest⟩

theorem ReportsOnly.count (h : ReportsOnly s t) {f : Fld} (hf : f ∈ hardwareFields) (n : Nat) : ReportsOnly s (t.count f n) :=
  h.wr hf _

theorem ReportsOnly.clk (h : ReportsOnly s t) (c : Clocks) : ReportsOnly s { t with clk := c } := ⟨h.fields, h.rest⟩

theorem ReportsOnly.post (h : ReportsOnly s t) (src code sev arg : Nat) : ReportsOnly s (t.post src code sev arg) := ⟨h.fields, h.rest⟩

theorem ReportsOnly.gateRoot (h : ReportsOnly s t) : ReportsOnly s t.gateRoot :=
  (((h.wr (by decide) 0).wr (by decide) 0).wr (by decide) 0).clk _

theorem ReportsOnly.restartSupervisor (h : ReportsOnly s t) : ReportsOnly s t.restartSupervisor :=
  ((((h.wr (by decide) 0).wr (by decide) 0).wr (by decide) 0).wr (by decide) 0).clk _

/-- The hardware's fields are none of those that a WARM sets or looks at. -/
theorem hardwareFields_apart : ∀ f ∈ warmCauses ++ [CK_RST_CAUSE.WARM_COUNT, FM_START_REC.REC, PC_CTRL.LEVEL, PC_CTRL.LEVEL_NEXT,
    XC_LANE_EYE_RESULT.ABORTED, XC_LANE_EYE_RESULT.BUSY], ∀ g ∈ hardwareFields, f.id ≠ g.id := by decide

/-- What a WARM makes of `s` does not depend on the fields that report, nor do they on it. -/
theorem WarmOutcome.of_reports {s' t' : State} (h : WarmOutcome s' cause t) (pre : ReportsOnly s s') (post : ReportsOnly t t')
    (hold : t'.clk.warmHold = true) : WarmOutcome s cause t' where
  causes g hg := (post.fields g 0 0 (hardwareFields_apart g (List.mem_append_left _ hg))).trans (h.causes g hg)
  count := by
    rw [post.fields _ _ _ (hardwareFields_apart _ (by decide)), h.count, pre.fields _ _ _ (hardwareFields_apart _ (by decide))]
  fields f u j hf := by
    have hw : ∀ g ∈ hardwareFields, f.id ≠ g.id := fun g hg => hf g (by simp [warmSet, hg])
    rw [post.fields f u j hw, h.fields f u j hf, pre.fields f u j hw]
  record := by
    rw [post.fields _ _ _ (hardwareFields_apart _ (by decide)), h.record, pre.fields _ _ _ (hardwareFields_apart _ (by decide))]
  level := by
    rw [post.fields _ _ _ (hardwareFields_apart _ (by decide)), h.level, pre.fields _ _ _ (hardwareFields_apart _ (by decide))]
  scans p i hp hi := by
    rw [post.fields _ _ _ (hardwareFields_apart _ (by decide)), h.scans p i hp hi, State.on, State.on,
      pre.fields _ _ _ (hardwareFields_apart _ (by decide))]
  cleared := by
    obtain ⟨h1, h2, h3, h4, h5, h6⟩ := h.cleared
    exact ⟨(post.keeps State.mem).trans h1, (post.keeps State.fabMem).trans h2, (post.keeps State.fabErr).trans h3,
      (post.keeps State.frames).trans h4, (post.keeps State.frameErr).trans h5, (post.keeps State.stopes).trans h6⟩
  flash := (post.keeps State.flash).trans (h.flash.trans (pre.keeps State.flash))
  keys := ⟨(post.keeps (·.crypto.slots)).trans (h.keys.1.trans (pre.keeps (·.crypto.slots))),
    (post.keeps (·.crypto.owner)).trans (h.keys.2.trans (pre.keeps (·.crypto.owner)))⟩
  log := (post.keeps (·.fm.log)).trans (h.log.trans (pre.keeps (·.fm.log)))
  hold := hold

/-- New keys are no part of the outcome. -/
theorem WarmOutcome.deriveKeys (h : WarmOutcome s cause t) : WarmOutcome s cause t.deriveKeys :=
  ⟨h.causes, h.count, h.fields, h.record, h.level, h.scans, h.cleared, h.flash, h.keys, h.log, h.hold⟩

/-! ### The stages of a WARM -/

/-- The state once everything that a WARM resets is reset. -/
def State.warmed (s : State) : State := s.endAllTargets.failTags.warmRegs.warmParts

/-- The eye scans that ran have ended. -/
def State.markScans (s t : State) : State := s.scanning.foldl (fun t x => t.wr XC_LANE_EYE_RESULT.ABORTED 1 x.1 x.2) t

/-- The cause of a WARM and the count of them. -/
def State.markCause (t : State) (cause : Fld) : State :=
  ((warmCauses.foldl (fun t f => t.wr f 0) t).wr cause 1).count CK_RST_CAUSE.WARM_COUNT

/-- All that a WARM writes after the reset. -/
def State.warmMarks (s t : State) (cause : Fld) : State :=
  (((s.markScans t).wr PC_CTRL.LEVEL (s.rd PC_CTRL.LEVEL_NEXT)).showKeys).markCause cause

/-- A WARM is the reset, its marks, new keys and a log entry, and with ROOT not good the supervisor's restart. -/
theorem State.warm_eq (h : s.clk.stage ≠ .aonLost) : ∃ arg, s.warm cause = (s.warmMarks s.warmed cause).deriveKeys.post 1 0x0011 1 arg ∨
    s.warm cause = ((s.warmMarks s.warmed cause).deriveKeys.post 1 0x0011 1 arg).restartSupervisor := by
  refine ⟨(s.warmMarks s.warmed cause).raw CK_RST_CAUSE.regs, ?_⟩
  simp only [State.warm, if_neg h]
  split
  · exact Or.inl rfl
  · exact Or.inr rfl

/-! ### What the reset leaves -/

/-- The accesses and targets that a WARM ends: answers go out and events are raised, and the stopes hold no target any more. -/
theorem State.endings_moves (s : State) :
    Moves ⟨false, false, false, false, false, partsMask [.events, .sent, .stopes]⟩ s s.endAllTargets.failTags :=
  State.failTags_moves (Sub.list rfl rfl) (State.endAllTargets_moves (Sub.list rfl rfl) Moves.refl)

/-- The answers that end a WARM's accesses reach no register. -/
theorem State.rd_endings (s : State) (f : Fld) (u j : Nat) : s.endAllTargets.failTags.rd f u j = s.rd f u j :=
  s.endings_moves.parts (.regs f.blk) (partsMask_not (by simp)) f u j rfl

/-- Of the start record the outcomes of steps 0 to 2 are left. -/
theorem State.rd_warmed_record (s : State) : s.warmed.rd FM_START_REC.REC = s.rd FM_START_REC.REC % 64 := by
  refine (State.rd_of_regs (t := s.endAllTargets.failTags.warmRegs) rfl ..).trans ?_
  rw [State.warmRegs, State.rd_wr_same, State.rd_endings]
  exact Nat.mod_eq_of_lt (lt_trans (Nat.mod_lt _ (by decide)) (by decide))

/-- Every other field keeps its value or takes its cold value. -/
theorem State.rd_warmed (s : State) {f : Fld} (hf : f.id ≠ FM_START_REC.REC.id) (u j : Nat) :
    s.warmed.rd f u j = if f.keepWarm then s.rd f u j else f.coldAt u j := by
  refine (State.rd_of_regs (t := s.endAllTargets.failTags.warmRegs) rfl ..).trans ((State.rd_wr_other _ hf).trans ?_)
  rw [← s.rd_endings f u j, ← f.idKeepWarm_id]
  split
  · rename_i hk
    exact Tab.get_filter _ (fun _ => hk)
  · rename_i hk
    exact Tab.get_filter_drop _ (fun _ => Bool.eq_false_iff.2 hk)

/-! ### What the marks add -/

theorem State.warmMarks_regsOnly (s t : State) (cause : Fld) : RegsOnly t (s.warmMarks t cause) := by
  refine RegsOnly.wr (RegsOnly.wr (RegsOnly.foldl (RegsOnly.wr (RegsOnly.wr (RegsOnly.foldl RegsOnly.refl ?_ _) ..) ..) ?_ _) ..) ..
  · exact fun _ _ h => h
  · exact fun _ _ h => h

theorem State.rd_markCause_other {f : Fld} (hf : ∀ g ∈ warmCauses ++ [CK_RST_CAUSE.WARM_COUNT], f.id ≠ g.id) (hc : cause ∈ warmCauses)
    (t : State) (u j : Nat) : (t.markCause cause).rd f u j = t.rd f u j := by
  rw [State.markCause, State.rd_count_other (hf _ (by simp)), State.rd_wr_other _ (hf _ (by simp [hc])),
    State.rd_foldl_wr_other (fun a ha => hf a (by simp [ha]))]

theorem State.rd_markCause_cause (hc : cause ∈ warmCauses) {g : Fld} (hg : g ∈ warmCauses) (t : State) :
    (t.markCause cause).rd g = if g = cause then 1 else 0 := by
  have hn : ∀ g ∈ warmCauses, g.id ≠ CK_RST_CAUSE.WARM_COUNT.id := by decide
  have hw : ∀ g ∈ warmCauses, 1 % 2 ^ g.wid = 1 := by decide
  have hi : ∀ g ∈ warmCauses, ∀ c ∈ warmCauses, g ≠ c → g.id ≠ c.id := by decide
  rw [State.markCause, State.rd_count_other (hn g hg)]
  split
  · subst g
    rw [State.rd_wr_same, hw cause hc]
  · rename_i h
    rw [State.rd_wr_other _ (hi g hg cause hc h), State.rd_foldl_clear (by decide) hg]

theorem State.rd_markCause_count (hc : cause ∈ warmCauses) (t : State) :
    (t.markCause cause).rd CK_RST_CAUSE.WARM_COUNT = min (t.rd CK_RST_CAUSE.WARM_COUNT + 1) 255 := by
  have hn : ∀ g ∈ warmCauses, CK_RST_CAUSE.WARM_COUNT.id ≠ g.id := by decide
  rw [State.markCause, State.rd_count_same, State.rd_wr_other _ (hn _ hc), State.rd_foldl_wr_other hn]
  exact Nat.mod_eq_of_lt (lt_of_le_of_lt (Nat.min_le_right _ _) (by decide))

/-- A lane scans where `BUSY` says so. -/
theorem State.mem_scanning {p i : Nat} (hp : p < 16) (hi : i < 8) : (p, i) ∈ s.scanning ↔ s.on XC_LANE_EYE_RESULT.BUSY p i = true := by
  rw [State.scanning, List.mem_filter, List.mem_map]
  refine and_iff_right ⟨8 * p + i, List.mem_range.2 (by omega), ?_⟩
  rw [Prod.mk.injEq]
  omega

/-- A field that no mark names. -/
theorem State.rd_warmMarks_other {f : Fld} (hf : ∀ g ∈ warmCauses ++ [CK_RST_CAUSE.WARM_COUNT], f.id ≠ g.id)
    (hs : ∀ g ∈ [XC_LANE_EYE_RESULT.ABORTED, PC_CTRL.LEVEL, EN_KEY_STATUS.FILLED], f.id ≠ g.id) (hc : cause ∈ warmCauses)
    (s t : State) (u j : Nat) : (s.warmMarks t cause).rd f u j = t.rd f u j := by
  rw [State.warmMarks, State.rd_markCause_other hf hc, State.showKeys, State.rd_wr_other _ (hs _ (by simp)),
    State.rd_wr_other _ (hs _ (by simp)), State.markScans, State.rd_foldl_wr_other (fun _ _ => hs _ (by simp))]

/-- What the marks name is set by a WARM. -/
theorem markedFields_subset : (∀ g ∈ warmCauses ++ [CK_RST_CAUSE.WARM_COUNT], g ∈ warmSet) ∧
    ∀ g ∈ [XC_LANE_EYE_RESULT.ABORTED, PC_CTRL.LEVEL, EN_KEY_STATUS.FILLED], g ∈ warmSet := by decide

/-- The reset and its marks have the outcome. -/
theorem warmOutcome_warmMarks (s : State) (hc : cause ∈ warmCauses) : WarmOutcome s cause (s.warmMarks s.warmed cause) where
  causes _ hg := State.rd_markCause_cause hc hg _
  count := by
    rw [State.warmMarks, State.rd_markCause_count hc, State.showKeys, State.rd_wr_other _ (by decide), State.rd_wr_other _ (by decide),
      State.markScans, State.rd_foldl_wr_other (fun _ _ => by decide), State.rd_warmed s (by decide)]
    rfl
  fields f u j hf := by
    rw [State.rd_warmMarks_other (fun g hg => hf g (markedFields_subset.1 g hg)) (fun g hg => hf g (markedFields_subset.2 g hg)) hc,
      State.rd_warmed s (hf _ (by simp [warmSet]))]
  record := by
    rw [State.rd_warmMarks_other (by decide) (by decide) hc, State.rd_warmed_record]
  level := by
    rw [State.warmMarks, State.rd_markCause_other (by decide) hc, State.showKeys, State.rd_wr_other _ (by decide), State.rd_wr_same]
    rfl
  scans p i hp hi := by
    have hcold : s.warmed.rd XC_LANE_EYE_RESULT.ABORTED p i = 0 := State.rd_warmed s (by decide) p i
    rw [State.warmMarks, State.rd_markCause_other (by decide) hc, State.showKeys, State.rd_wr_other _ (by decide),
      State.rd_wr_other _ (by decide), State.markScans, State.rd_foldl_wr_one rfl, hcold]
    simp only [State.mem_scanning hp hi]
  cleared :=
    have h := State.warmMarks_regsOnly s s.warmed cause
    ⟨h.keeps State.mem, h.keeps State.fabMem, h.keeps State.fabErr, h.keeps State.frames, h.keeps State.frameErr, h.keeps State.stopes⟩
  flash := ((State.warmMarks_regsOnly ..).keeps State.flash).trans (s.endings_moves.flash rfl)
  keys := by
    obtain ⟨h1, h2⟩ := s.endings_moves.keys rfl
    have h := State.warmMarks_regsOnly s s.warmed cause
    exact ⟨(h.keeps (·.crypto.slots)).trans h1, (h.keeps (·.crypto.owner)).trans h2⟩
  log := ((State.warmMarks_regsOnly ..).keeps (·.fm.log)).trans (congrArg (·.log) (s.endings_moves.parts .fm (partsMask_not (by simp))))
  hold := (State.warmMarks_regsOnly s s.warmed cause).keeps (·.clk.warmHold)

/-- A WARM of any cause has the outcome, on a part that has VCC_AON. -/
theorem warmOutcome_warm (hs : s.clk.stage ≠ .aonLost) (hc : cause ∈ warmCauses) : WarmOutcome s cause (s.warm cause) := by
  have h := (warmOutcome_warmMarks s hc).deriveKeys
  obtain ⟨arg, e | e⟩ := State.warm_eq (cause := cause) hs
  · exact e ▸ h.of_reports .refl (ReportsOnly.refl.post 1 0x0011 1 arg) h.hold
  · exact e ▸ h.of_reports .refl (ReportsOnly.refl.post 1 0x0011 1 arg).restartSupervisor h.hold

/-! ### The commands that start a WARM -/

/-- Whether the part is halted is not among the fields that report. -/
theorem ReportsOnly.halted (h : ReportsOnly s t) : t.halted = s.halted := by
  rw [State.halted, State.halted, State.on, State.on, h.fields _ _ _ (by decide)]

/-- The loss of ROOT on a part that is not halted, after a change of what reports. -/
theorem warmOutcome_rootLoss (pre : ReportsOnly s t) (hh : s.halted = false) (hs : t.clk.stage ≠ .aonLost) :
    WarmOutcome s CK_RST_CAUSE.ROOT_LOST t.rootLoss := by
  unfold State.rootLoss
  extract_lets t1 t2
  have h2 : ReportsOnly s t2 := (pre.gateRoot.wr (by decide) 1).post ..
  rw [if_neg (by rw [h2.halted, hh]; decide)]
  have hw := warmOutcome_warm (s := t2) (cause := CK_RST_CAUSE.ROOT_LOST) hs (by decide)
  exact hw.of_reports h2 ReportsOnly.refl.restartSupervisor hw.hold

theorem railField_mem {r : Nat} (hr : r < 6) : railField r ∈ hardwareFields := by
  interval_cases r <;> decide

/-- The loss of a rail on a part that is not halted. -/
theorem warmOutcome_railLost (hh : s.halted = false) (hs : s.clk.stage ≠ .aonLost) {r : Nat} (hr : r < 6) :
    ∃ t, execRailLost r s = .next t ∧ WarmOutcome s CK_RST_CAUSE.RAIL t := by
  have h1 : ReportsOnly s (s.wr (railField r) 0) := ReportsOnly.refl.wr (railField_mem hr) 0
  obtain ⟨t, ht, h2, hc⟩ : ∃ t, (if r = 5 then (s.wr (railField r) 0).gateRoot else s.wr (railField r) 0) = t ∧
      ReportsOnly s t ∧ t.clk.stage = s.clk.stage := by
    by_cases h5 : r = 5
    · exact ⟨_, if_pos h5, h1.gateRoot, rfl⟩
    · exact ⟨_, if_neg h5, h1, rfl⟩
  have hw := warmOutcome_warm (s := t) (cause := CK_RST_CAUSE.RAIL) (hc ▸ hs) (by decide)
  refine ⟨{ t.warm CK_RST_CAUSE.RAIL with clk := { (t.warm CK_RST_CAUSE.RAIL).clk with stage := .railHold } }, ?_,
    hw.of_reports h2 (ReportsOnly.refl.clk _) hw.hold⟩
  simp [execRailLost, need, hr, hs, ht, h2.halted, hh]

/-- A failed REFCLK window while the ROOT clocks run. -/
theorem warmOutcome_windowFailed (hh : s.halted = false) (hs : s.clk.stage = .running) :
    WarmOutcome s CK_RST_CAUSE.ROOT_LOST (s.count CK_AON_STATUS.REFCLK_FAIL_COUNT).rootLoss :=
  warmOutcome_rootLoss (ReportsOnly.refl.count (by decide) 1) hh (by rw [State.count, State.wr_clk, hs]; decide)

/-- Settles O10: each cause runs the same WARM, before and after which only the fields that report clocks and rails change. -/
theorem warmReset : Obligations.WarmReset := by
  intro s c cause hh hs hc
  have key : ∃ t, exec c s = .next t ∧ WarmOutcome s cause t := by
    rcases hc with ⟨rfl, rfl⟩ | ⟨rfl, rfl⟩ | ⟨hr, rfl, rfl | rfl | ⟨n, hn, rfl⟩⟩ | ⟨⟨r, hr, rfl⟩, rfl⟩ | ⟨rfl, rfl⟩
    · -- PERST#
      have hw := warmOutcome_warm (s := { s with clk := { s.clk with perst := true } }) (cause := CK_RST_CAUSE.PERST) hs (by decide)
      refine ⟨_, ?_, hw.of_reports (ReportsOnly.refl.clk _) .refl hw.hold⟩
      simp [execPerstAssert, hh]
    · -- the keyed write of `CK_RESET_CTRL`
      refine ⟨_, ?_, warmOutcome_warm hs (by decide)⟩
      simp [execWarmReq, hh]
    · -- ROOT lost
      refine ⟨_, ?_, warmOutcome_rootLoss .refl hh hs⟩
      simp [execRootLost, hr]
    · -- no edge of REFCLK
      refine ⟨_, ?_, warmOutcome_windowFailed hh hr⟩
      simp [execRefclkEdgeTimeout, hr]
    · -- a count of REFCLK out of its range
      refine ⟨_, ?_, warmOutcome_windowFailed hh hr⟩
      have hb : ¬(24576 ≤ n ∧ n ≤ 40960) := by omega
      simp [execRefclkWindowEnd, hr, hb]
    · -- a rail lost
      exact warmOutcome_railLost hh hs hr
    · -- nRST_LAMP
      have hw := warmOutcome_warm (cause := CK_RST_CAUSE.LAMP) hs (by decide)
      refine ⟨_, ?_, hw.of_reports .refl (ReportsOnly.refl.clk { (s.warm CK_RST_CAUSE.LAMP).clk with lampHold := true }) hw.hold⟩
      simp [execLampReset, hh, State.ck]
  obtain ⟨t, he, h⟩ := key
  obtain ⟨h1, h2, h3, h4, h5, h6⟩ := h.cleared
  exact ⟨t, he, h.causes, h.count, h.fields, h.record, h.level, h.scans, h1, h2, h3, h4, h5, h6, h.flash, h.keys.1, h.keys.2, h.log, h.hold⟩

end Sys2Proof.Machine
end

section
/-! PROOF. Two statements that a value too wide for its field refutes (O52, O60).

A `State` holds its register fields as plain numbers. Every write cuts its value to the field's width (`State.rd_wr_same`), but nothing
bounds the value that a state is given with, and two statements take the bound for granted over every state. -/

namespace Sys2Proof.Machine

/-- What has gone out after a meaning. -/
def Res.sent : Res → List Emission
  | .next t => t.sent
  | _ => []

/-- The reset state with the 1-bit field `DOWN_LINK` holding 2: a test for other than 0 takes the hop as UP, a test for 1 as DOWN. -/
def wideDownLink : State := { State.reset with regs := [(BW_STATUS.DOWN_LINK.key, 2)] }

/-- ENUM goes on downstream there. -/
theorem enum_sent_wideDownLink : Res.sent (exec (.enum 0) wideDownLink) = [.bell (some 2) (.enum 1)] := by decide +kernel

/-- The reset state with the ROOT clocks running and the 16-bit field `RESENT` holding 2^16. -/
def wideResent : State :=
  { State.reset with regs := [(BW_ERR.RESENT.key, 2 ^ 16)], clk := { Clocks.cold with stage := .running } }

/-- A 4-byte read of `BW_ERR` answers the low half of the register, from which the value is gone. -/
theorem registerRead_sent_wideResent : Res.sent (exec (.registerRead 0x010045800010 4 (.engine 0 0) 0 0 false) wideResent)
    = [.response 661 653 0 0 0 false] := by decide +kernel

/-- Refutes O52: the clause on what ENUM sends takes a `DOWN_LINK` that is not 1 as DOWN, where the part takes one that is not 0 as UP;
with the field at 2 the part sends ENUM on, and the clause asks for ENUM_DONE. With `DOWN_LINK` at most 1 the two agree. -/
theorem not_bellHops : ¬ Obligations.BellHops := by
  rintro ⟨hEnum, -⟩
  obtain ⟨-, hSolo, -⟩ := hEnum wideDownLink 0 (by decide)
  obtain ⟨t, he, -, -, -, -, -, -, -, -, -, -, hs, -⟩ := hSolo (by decide) rfl (by decide) (by decide) (by decide)
  have hsent : Res.sent (.next t) = [.bell (some 2) (.enum 1)] := he ▸ enum_sent_wideDownLink
  have hdone : t.sent = [.bell (some 0) (.enumDone 2)] := hs
  exact absurd (hsent.symm.trans hdone) (by decide)

/-- Refutes O60: the clause on a 4-byte read of `BW_ERR` asks for `CRC_ERR` + `RESENT` · 2^16 whatever the fields hold, where the part
answers the low 32 bits of the register; with `RESENT` at 2^16 it answers 0. With both fields below 2^16 the two agree. -/
theorem not_tracePinsRegs : ¬ Obligations.TracePinsRegs := by
  rintro ⟨-, -, -, -, hRegs⟩
  obtain ⟨-, -, -, -, -, hRead, -⟩ := hRegs wideResent (wideResent.tick 0) 0x010045800010 4 0 0 0 0 0 (.engine 0 0) false false false .bw
    ⟨⟨"BW_ERR", .bw, 0x10, 0, 1, BW_ERR.regs⟩, 0, 0⟩ rfl
  obtain ⟨-, h4⟩ := hRead rfl rfl rfl rfl
  have hsent := congrArg Res.sent h4
  rw [registerRead_sent_wideResent] at hsent
  exact absurd hsent (by decide +kernel)

end Sys2Proof.Machine
end

section
/-! PROOF. Rules of the shared operations that the proofs below go through: checks of units, stopes, answers, counters, masks. -/

namespace Sys2Proof.Machine

/-- A command whose units exist answers its next state. -/
theorem need_pos {ok : Bool} (h : ok = true) (t : State) : need ok t = .next t := if_pos h

/-- A stope reads what was written to it. -/
@[simp] theorem State.stope_updStope_same (s : State) (n : Nat) (g : Stope → Stope) : (s.updStope n g).stope n = g (s.stope n) :=
  Tab.get_set_same ..

/-- A non-posted access is answered with a response. -/
theorem State.respond_nonposted (s : State) (target src tag status data : Nat) (poison : Bool) {posted : Bool} (h : posted = false) :
    s.respond target src tag status data poison posted = { s with sent := s.sent ++ [.response target src tag status data poison] } := by
  subst h
  rfl

/-- A saturating count is within its width. -/
theorem satAdd_mod (w v n : Nat) : satAdd w v n % 2 ^ w = satAdd w v n :=
  Nat.mod_eq_of_lt (lt_of_le_of_lt (Nat.min_le_right ..) (Nat.sub_lt (Nat.two_pow_pos w) Nat.one_pos))

/-- A counter reads one more, or its largest value. -/
theorem State.rd_count_one (s : State) (f : Fld) (u j : Nat) : (s.count f 1 u j).rd f u j = min (s.rd f u j + 1) (2 ^ f.wid - 1) := by
  rw [State.rd_count_same, satAdd_mod]
  rfl

theorem State.on_iff (s : State) (f : Fld) (u j : Nat) : s.on f u j = true ↔ s.rd f u j ≠ 0 := decide_eq_true_iff

theorem ones_testBit {w i : Nat} (h : i < w) : (ones w).testBit i = true := by
  rw [ones, Nat.testBit_two_pow_sub_one]
  exact decide_eq_true h

end Sys2Proof.Machine
end

section
/-! PROOF. The stope port (O24; 01 R34; 07 R182, R183, R561). -/

namespace Sys2Proof.Machine

/-- A response of a transaction at a stope: held until its presentation, or discarded with the transaction (07 R183). -/
theorem exec_stopePortResponse_eq (s : State) {n : Nat} (hn : n < 640) (tag status data : Nat) (poison : Bool) :
    exec (.stopePortResponse n tag status data poison) s = .next (
      if s.stopeState n = 3 ∨ s.stopeState n = 2 then
        s.updStope n (fun x => { x with masters := x.masters.map (fun m =>
          if m.tag = tag ∧ m.resp.isNone then { m with resp := some (data, decide (status ≠ 0), poison) } else m) })
      else s.updStope n (fun x => { x with masters := x.masters.filter (fun m => decide (m.tag ≠ tag)) })) :=
  need_pos (decide_eq_true hn) _

/-- An accepted target access enters the request register, or waits behind the access there (07 R561). -/
def Stope.takeTarget (q : TargetAccess) (x : Stope) : Stope :=
  match x.target with
  | none => { x with target := some q }
  | some _ => { x with targetWait := x.targetWait ++ [q] }

theorem Stope.takeTarget_none {x : Stope} (h : x.target = none) (q : TargetAccess) : x.takeTarget q = { x with target := some q } := by
  rw [Stope.takeTarget, h]

theorem Stope.takeTarget_isSome {x : Stope} (h : x.target.isSome = true) (q : TargetAccess) :
    x.takeTarget q = { x with targetWait := x.targetWait ++ [q] } := by
  obtain ⟨p, hp⟩ := Option.isSome_iff_exists.1 h
  rw [Stope.takeTarget, hp]

/-- A target access at offset `off` of the stope port's window `n` (01 R34): which check refuses it, or that it is taken. -/
theorem exec_stopePortTargetAccess_eq (s : State) {n : Nat} (hn : n < 640) {a : GalAccess} {off : Nat}
    (ha : a.addr = 0x010010000000 + n * 0x100000 + off) (hlo : 0x10000 ≤ off) (hhi : off < 0x100000) :
    exec (.stopePortTargetAccess a) s = .next (
      if a.size = 0 ∨ 64 < a.addr % 64 + a.size then s.respond n a.src a.tag 5 0 false a.posted
      else if ¬s.ready (26 + n / 160) ∧ ¬a.foreman then s.respond n a.src a.tag 4 0 false a.posted
      else if ¬s.inUse n ∨ ¬(s.stope n).cfg.target then s.respond n a.src a.tag 1 0 false a.posted
      else s.updStope n (Stope.takeTarget ⟨a.write, off - 0x10000, (2 ^ a.size - 1) * 2 ^ (a.addr % 64), a.data % 2 ^ (8 * a.size), false,
        a.posted, a.src, a.tag⟩)) := by
  have hdiv : (a.addr - 0x010010000000) / 0x100000 = n := by omega
  have hmod : (a.addr - 0x010010000000) % 0x100000 = off := by omega
  have hbase : 0x010010000000 ≤ a.addr := by omega
  rw [exec_stopePortTargetAccess]
  unfold execStopePortTargetAccess
  rw [hdiv, hmod]
  exact need_pos (by simp [hbase, hn, hlo]) _

/-- Settles O24: one equation per command says which case holds; each clause picks its case. -/
theorem stopePort : Obligations.StopePort := by
  intro s n hn
  refine ⟨fun tag status data poison hst => ?_, fun tag status data poison h3 h2 => ?_, fun a off ha hlo hhi hp => ?_,
    fun a off ha hlo hhi hsize hcross hready huse htarget => ?_⟩
  · refine ⟨_, exec_stopePortResponse_eq s hn tag status data poison, ?_⟩
    rw [if_pos hst]
    exact ⟨s.stope_updStope_same n _, rfl⟩
  · refine ⟨_, exec_stopePortResponse_eq s hn tag status data poison, ?_⟩
    rw [if_neg (not_or.2 ⟨h3, h2⟩)]
    exact ⟨s.stope_updStope_same n _, rfl⟩
  · have he := exec_stopePortTargetAccess_eq s hn ha hlo hhi
    simp only [s.respond_nonposted _ _ _ _ _ _ hp] at he
    refine ⟨fun hbad => ⟨_, he, if_pos hbad⟩, fun hsize hcross hready hfm => ⟨_, he, ?_⟩,
      fun hsize hcross hready hno => ⟨_, he, ?_⟩⟩
    · rw [if_neg (by omega), if_pos (by simp [hready, hfm])]
    · rw [if_neg (by omega), if_neg (by simpa using fun h => hready.resolve_left (by simp [h])), if_pos (by simpa using hno)]
  · refine ⟨_, exec_stopePortTargetAccess_eq s hn ha hlo hhi, ?_⟩
    rw [if_neg (by omega), if_neg (by simpa using fun h => hready.resolve_left (by simp [h])), if_neg (by simp [huse, htarget])]
    refine ⟨rfl, fun hnone => ?_, fun hsome => ?_⟩
    · rw [State.stope_updStope_same, Stope.takeTarget_none hnone]
    · rw [State.stope_updStope_same, Stope.takeTarget_isSome hsome]

end Sys2Proof.Machine
end

section
/-! PROOF. Requests at a network interface of the Gallery (O36; 13 R345, R350, R353 to R355; 01 R31, R35). -/

namespace Sys2Proof.Machine

variable {s : State} {r : GalReq} {d : Nat}

/-- A request moves where the ROOT clocks run and no unused stope sends it (02 R49; 07 R182). -/
theorem exec_galleryRequest_request (hni : r.ni < 662) (hop : r.op < 3) (hroot : s.rootRuns = true)
    (huse : 640 ≤ r.ni ∨ s.inUse r.ni = true) : exec (.galleryRequest r) s = .next (s.request r) := by
  have hmoves : ¬(s.rootRuns = false ∨ r.ni < 640 ∧ s.inUse r.ni = false) := by
    rintro (h | ⟨hlt, h⟩)
    · exact absurd (hroot.symm.trans h) (by decide)
    · exact huse.elim (fun hge => by omega) (fun hu => absurd (hu.symm.trans h) (by decide))
  rw [exec_galleryRequest]
  unfold execGalleryRequest
  rw [need_pos (by simp [hni, hop]), if_neg (by simpa using hmoves)]

theorem exec_galleryRequest_still (hni : r.ni < 662) (hop : r.op < 3) (h : s.rootRuns = false ∨ r.ni < 640 ∧ s.inUse r.ni = false) :
    exec (.galleryRequest r) s = .next s := by
  rw [exec_galleryRequest]
  unfold execGalleryRequest
  rw [need_pos (by simp [hni, hop]), if_pos (by simpa using h)]

/-! ### Refusals of the network interface -/

theorem State.request_nowin (h : s.decodeNi r.addr = none) : s.request r = s.niRefuse r 2 := by
  rw [State.request, h]

theorem State.request_size (h : s.decodeNi r.addr = some d) (hs : r.size = 0 ∨ 64 < r.addr % 64 + r.size) :
    s.request r = s.niRefuse r 5 := by
  rw [State.request, h]
  exact if_pos hs

theorem State.request_noroute (h : s.decodeNi r.addr = some d) (hs : 0 < r.size) (hc : r.addr % 64 + r.size ≤ 64)
    (hv : s.rd GL_ROUTE.VALID 0 (routeIdx r.ni d) = 0) : s.request r = s.niRefuse r 6 := by
  rw [State.request, h]
  exact (if_neg (by omega)).trans (if_pos (by simp [State.on, hv]))

/-- What a stope port holds of a request that its NI refused (07 R183). -/
def refusedTxn (r : GalReq) : MasterTxn := ⟨1024, decide (r.op = 1), some (0, true, false)⟩

/-- A stope port holds the error response for its presentation. -/
def Stope.holdRefused (r : GalReq) (x : Stope) : Stope := { x with masters := x.masters ++ [refusedTxn r] }

/-- A refusal of a request that no engine made, in full: the count, the answer, and what a stope port holds. -/
theorem State.niRefuse_eq (he : r.engine = none) (status : Nat) : s.niRefuse r status =
    { s with
      regs := (s.count GL_NI_STAT.NOROUTE 1 0 r.ni).regs
      sent := if r.op = 2 then s.sent else s.sent ++ [.answered r.ni 0 status 0 false]
      stopes := if r.ni < 640 ∧ r.op ≠ 2 then
        (s.updStope r.ni (Stope.holdRefused r)).stopes else s.stopes } := by
  simp only [State.niRefuse, he]
  by_cases hop : r.op = 2
  · simp only [hop, ne_eq, not_true, and_false, if_true, if_false]
    rfl
  · by_cases hni : r.ni < 640
    · simp only [hop, hni, ne_eq, not_false_eq_true, and_self, if_true, if_false]
      rfl
    · simp only [hop, hni, false_and, if_false]
      rfl

theorem State.niRefuse_noroute (he : r.engine = none) (status : Nat) :
    (s.niRefuse r status).rd GL_NI_STAT.NOROUTE 0 r.ni = min (s.rd GL_NI_STAT.NOROUTE 0 r.ni + 1) 65535 := by
  rw [State.niRefuse_eq he]
  exact s.rd_count_one GL_NI_STAT.NOROUTE 0 r.ni

theorem State.niRefuse_sent (he : r.engine = none) (status : Nat) :
    (s.niRefuse r status).sent = if r.op = 2 then s.sent else s.sent ++ [.answered r.ni 0 status 0 false] := by
  rw [State.niRefuse_eq he]

theorem State.niRefuse_frame (he : r.engine = none) (status : Nat) :
    s.regsKeptBut (s.niRefuse r status) [GL_NI_STAT.NOROUTE.key 0 r.ni] ∧
      { s.niRefuse r status with regs := s.regs, sent := s.sent, stopes := s.stopes } = s := by
  rw [State.niRefuse_eq he]
  exact ⟨(State.regsKeptBut.refl.count (f := GL_NI_STAT.NOROUTE) (n := 1) (List.mem_singleton_self _)).hidden rfl, rfl⟩

theorem State.niRefuse_masters (he : r.engine = none) (status : Nat) (hni : r.ni < 640) (hop : r.op ≠ 2) :
    ((s.niRefuse r status).stope r.ni).masters = (s.stope r.ni).masters ++ [refusedTxn r] := by
  rw [State.niRefuse_eq he, if_pos (show r.ni < 640 ∧ r.op ≠ 2 from ⟨hni, hop⟩)]
  exact congrArg Stope.masters (s.stope_updStope_same r.ni (Stope.holdRefused r))

/-! ### Injection -/

/-- A request with a route in force that is not injected waits behind the requests held. -/
theorem State.request_held (h : s.decodeNi r.addr = some d) (hs : 0 < r.size) (hc : r.addr % 64 + r.size ≤ 64)
    (hv : s.rd GL_ROUTE.VALID 0 (routeIdx r.ni d) ≠ 0) (hi : s.inject r d = (false, s)) :
    s.request r = s.gl (fun g => { g with held := g.held ++ [r] }) := by
  rw [State.request, h]
  exact (if_neg (by omega)).trans ((if_neg (by simp [State.on, hv])).trans (by rw [hi]))

theorem State.request_injected {t : State} (h : s.decodeNi r.addr = some d) (hs : 0 < r.size) (hc : r.addr % 64 + r.size ≤ 64)
    (hv : s.rd GL_ROUTE.VALID 0 (routeIdx r.ni d) ≠ 0) (hi : s.inject r d = (true, t)) : s.request r = t := by
  rw [State.request, h]
  exact (if_neg (by omega)).trans ((if_neg (by simp [State.on, hv])).trans (by rw [hi]))

/-- The priority that an NI gives a request: its own, which a Headframe initiator may raise (R354). -/
def State.requestPri (s : State) (r : GalReq) : Nat :=
  if r.ni < 644 then s.rd GL_NI_CFG.PRI 0 r.ni else max (s.rd GL_NI_CFG.PRI 0 r.ni) (min r.pri 3)

/-- The packet that a request becomes at its NI's switch (R348, R353). -/
def State.requestPacket (s : State) (r : GalReq) (d tag : Nat) : Packet :=
  let e := routeIdx r.ni d
  ⟨r, s.requestPri r, tag, d, ⟨s.rd GL_ROUTE.SX 0 e, s.rd GL_ROUTE.SY 0 e, s.rd GL_ROUTE.SJ 0 e, s.rd GL_ROUTE.MG 0 e,
    s.rd GL_ROUTE.DSJ 0 e, s.rd GL_ROUTE.DY 0 e⟩, startPlace r.ni, r.poison, false⟩

/-- Behind a held request of the same initiator no request enters the network. -/
theorem State.inject_behind (h : s.initiatorHeld r = true) : s.inject r d = (false, s) := by
  simp only [State.inject, h, if_true]

/-- A bucket with too few flits holds the request. -/
theorem State.inject_short {k burst : Nat} (hreg : s.regulator r = some (k, burst))
    (hf : burst < Tab.get 0 s.gallery.short k + GalFlits r) : s.inject r d = (false, s) := by
  cases hb : s.initiatorHeld r with
  | true => exact State.inject_behind hb
  | false => simp [State.inject, hb, hreg, hf]

/-- A non-posted request from the Headframe, which no regulator guards, takes a tag and enters the network. -/
theorem State.inject_headframe {tag : Nat} (hni : 640 ≤ r.ni) (he : r.engine = none) (hop : r.op ≠ 2) (ht : s.freeTag r.ni = some tag) :
    s.inject r d = (true, (s.gl (fun g => { g with
      packets := g.packets ++ [s.requestPacket r d tag], tags := g.tags ++ [(r.ni, tag, false)] })).showTags r.ni) := by
  have hlt : ¬r.ni < 640 := by omega
  have hheld : s.initiatorHeld r = false := by simp [State.initiatorHeld, hlt, he]
  have hreg : s.regulator r = none := by simp [State.regulator, he, hlt]
  simp [State.inject, hheld, hreg, hop, ht, he, hlt, State.requestPacket, State.requestPri]

/-- A posted request of a stope port that its bucket covers takes its flits and enters the network. -/
theorem State.inject_posted {burst : Nat} (he : r.engine = none) (hop : r.op = 2) (hheld : s.gallery.held = [])
    (hreg : s.regulator r = some (r.ni, burst)) (hf : Tab.get 0 s.gallery.short r.ni + GalFlits r ≤ burst) :
    s.inject r d = (true, (s.gl (fun g => { g with
      packets := g.packets ++ [s.requestPacket r d 0]
      short := Tab.set natLt 0 g.short r.ni (Tab.get 0 s.gallery.short r.ni + GalFlits r) })).showTags r.ni) := by
  have hfree : s.initiatorHeld r = false := by simp [State.initiatorHeld, hheld]
  have hfit : ¬burst < Tab.get 0 s.gallery.short r.ni + GalFlits r := by omega
  simp [State.inject, hfree, hreg, hfit, hop, he, State.requestPacket, State.requestPri]

/-- The regulator of a stope port (R355). -/
theorem State.regulator_stope (he : r.engine = none) (hni : r.ni < 640) (hen : s.rd GL_NI_CFG.REG_EN 0 r.ni ≠ 0) :
    s.regulator r = some (r.ni, s.rd GL_NI_CFG.BURST 0 r.ni) := by
  simp [State.regulator, he, hni, State.on, hen]

/-! ### Refills -/

/-- With nothing held a refill changes the bucket alone. -/
theorem exec_regulatorRefill_stope {n : Nat} (hn : n < 640) (hen : s.rd GL_NI_CFG.REG_EN 0 n ≠ 0) (hheld : s.gallery.held = []) :
    exec (.regulatorRefill n) s = .next (s.gl (fun g => { g with
      short := Tab.set natLt 0 g.short n (Tab.get 0 g.short n - s.rd GL_NI_CFG.RATE 0 n), held := [] })) := by
  rw [exec_regulatorRefill]
  unfold execRegulatorRefill
  rw [need_pos (by simp [hn])]
  simp [hn, State.on, hen, State.retryHeld, State.gl, hheld]

theorem exec_regulatorRefill_engine_off {e : Nat} (he : e < 64) (hen : s.rd GL_ENG_REG.REG_EN 0 e = 0) :
    exec (.regulatorRefill (1024 + e)) s = .next s := by
  rw [exec_regulatorRefill]
  unfold execRegulatorRefill
  rw [need_pos (by simp; omega)]
  have hge : ¬1024 + e < 640 := by omega
  simp [hge, State.on, hen]

/-- Settles O36: a request is refused by its own NI, held, or injected, by its destination, its size, its route entry and its bucket. -/
theorem galleryRequests : Obligations.GalleryRequests := by
  intro s r hni hop
  refine ⟨fun hst huse => exec_galleryRequest_still hni hop (.inr ⟨hst, huse⟩),
    fun hroot => exec_galleryRequest_still hni hop (.inl hroot), fun d hroot huse he => ?_, fun hst hen hheld => ?_,
    fun e => exec_regulatorRefill_engine_off⟩
  · have hx := exec_galleryRequest_request hni hop hroot huse
    refine ⟨fun hd hnp => ?_, fun hd hnp hbad => ?_, fun hd hs hc hv => ?_, fun e tag hd hidx hs hc hv hnp hhead ht => ?_,
      fun hd hs hc hv hst hen hshort => ?_, fun hd hs hc hv hst hbehind => ?_, fun hd hs hc hv hst hheld hpost hen hfits => ?_⟩
    · rw [hx, State.request_nowin hd]
      exact ⟨_, rfl, State.niRefuse_noroute he 2, (State.niRefuse_sent he 2).trans (if_neg hnp), (State.niRefuse_frame he 2).1,
        (State.niRefuse_frame he 2).2, fun hst => State.niRefuse_masters he 2 hst hnp⟩
    · rw [hx, State.request_size hd hbad]
      exact ⟨_, rfl, State.niRefuse_noroute he 5, (State.niRefuse_sent he 5).trans (if_neg hnp), (State.niRefuse_frame he 5).1,
        (State.niRefuse_frame he 5).2, fun hst => State.niRefuse_masters he 5 hst hnp⟩
    · rw [hx, State.request_noroute hd hs hc hv]
      exact ⟨_, rfl, State.niRefuse_noroute he 6, State.niRefuse_sent he 6, (State.niRefuse_frame he 6).1,
        (State.niRefuse_frame he 6).2, fun hst hnp => State.niRefuse_masters he 6 hst hnp⟩
    · subst hidx
      have hplace : startPlace r.ni = if r.ni < 644 then .shaft (r.ni - 640) false else .main := if_neg (by omega)
      rw [hx, State.request_injected hd hs hc hv (State.inject_headframe hhead he hnp ht)]
      refine ⟨_, rfl, ?_, rfl, rfl, rfl, State.regsKeptBut.refl.wr (List.mem_singleton_self _), rfl⟩
      rw [← hplace]
      rfl
    · rw [hx, State.request_held hd hs hc hv (State.inject_short (State.regulator_stope he hst hen) hshort)]
      exact ⟨_, rfl, rfl⟩
    · rw [hx, State.request_held hd hs hc hv (State.inject_behind (by rw [State.initiatorHeld, hbehind]; simp [hst]))]
      exact ⟨_, rfl, rfl⟩
    · have hflits : GalFlits r = 1 + (r.addr % 16 + r.size + 15) / 16 := by rw [GalFlits, if_neg (by omega), blocksTouched]
      rw [← hflits] at hfits ⊢
      rw [hx, State.request_injected hd hs hc hv (State.inject_posted he hpost hheld (State.regulator_stope he hst hen) hfits)]
      exact ⟨_, rfl, List.length_append, rfl, Tab.get_set_same ..⟩
  · exact ⟨_, exec_regulatorRefill_stope hst hen hheld, Tab.get_set_same .., rfl⟩

end Sys2Proof.Machine
end

section
/-! PROOF. Accesses to the DRAM window (O39; 14 R368 to R384; 15 R393, R396, R405; 01 R28, R35). -/

namespace Sys2Proof.Machine

variable {s t : State} {r : DramReq} {v : DramView} {page : Nat}

/-! ### Places (14 R367, R368) -/

/-- The channels alone place an address. -/
theorem State.dramPlace_congr (h : t.rd PC_MAP.SET = s.rd PC_MAP.SET) (a : Nat) : t.dramPlace a = s.dramPlace a := by
  have hc : t.channels = s.channels := by simp only [State.channels, State.bit, h]
  simp only [State.dramPlace, hc]

theorem State.dramPlace_sent (s : State) (l : List Emission) (a : Nat) : ({ s with sent := l } : State).dramPlace a = s.dramPlace a :=
  State.dramPlace_congr rfl a

theorem State.dramPlace_dr (s : State) (g : Dram → Dram) (a : Nat) : (s.dr g).dramPlace a = s.dramPlace a := State.dramPlace_congr rfl a

/-- A page lies in one channel. -/
theorem State.pagePlace_channel (s : State) (a : Nat) : (s.pagePlace (a / 128)).1 = (s.dramPlace a).1 := by
  have hq : a / 128 * 128 / 4096 = a / 4096 := by omega
  show (s.dramPlace (a / 128 * 128)).1 = _
  simp only [State.dramPlace, hq]
  split <;> rfl

/-- What an operation that writes no map register keeps of the places. -/
theorem Moves.dramPlace {F : Foot} (h : Moves F s t) (hF : F.parts.testBit 13 = false) (a : Nat) : t.dramPlace a = s.dramPlace a :=
  State.dramPlace_congr (h.parts (.regs .pc) hF PC_MAP.SET 0 0 rfl) a

/-! ### Answers -/

theorem State.dramAnswer_nonposted (hp : r.posted = false) (status data : Nat) (poison : Bool) : s.dramAnswer r status data poison =
    { s with sent := s.sent ++ [.response (645 + (s.dramPlace r.addr).1) r.src r.tag status data poison] } :=
  s.respond_nonposted _ _ _ _ _ _ hp

/-- A completed access answers, unless it is posted; nothing else changes. -/
theorem State.dramAnswer_done (s : State) (r : DramReq) : s.dramAnswer r 0 0 false = { s with
    sent := if r.posted then s.sent else s.sent ++ [.response (645 + (s.dramPlace r.addr).1) r.src r.tag 0 0 false] } := by
  cases hp : r.posted with
  | false => exact State.dramAnswer_nonposted hp 0 0 false
  | true => simp [State.dramAnswer, State.respond, hp]

/-! ### The checks on arrival (01 R28, R35; 15 R394, R405) -/

/-- A running part's ready channel takes an access within its block. -/
structure State.Arrives (s : State) (r : DramReq) : Prop where
  running : s.halted = false
  nonempty : 0 < r.len
  block : r.addr % 64 + r.len ≤ 64
  ready : s.ready (2 + (s.dramPlace r.addr).1) = true

/-- No check on arrival refuses or holds the access. -/
structure State.Accepts (s : State) (r : DramReq) : Prop extends s.Arrives r where
  below : r.addr < s.rd PC_MAP.TOP_GIB * 2 ^ 30
  free : s.rangeHolds r.addr = false
  restored : s.restoreHolds r.addr = false
  data : s.inTree r.addr = false

theorem State.dramAccess_halted (h : s.halted = true) : s.dramAccess r v = s.dramAnswer r 1 0 false := if_pos h

theorem State.dramAccess_size (h : s.halted = false) (hs : r.len = 0 ∨ 64 < r.addr % 64 + r.len) :
    s.dramAccess r v = s.dramAnswer r 5 0 false := by
  simp only [State.dramAccess, h, Bool.false_eq_true, if_false, if_pos hs]

theorem State.dramAccess_notReady (h : s.halted = false) (hs : 0 < r.len) (hb : r.addr % 64 + r.len ≤ 64)
    (hr : s.ready (2 + (s.dramPlace r.addr).1) = false) (hf : r.foreman = false) : s.dramAccess r v = s.dramAnswer r 4 0 false := by
  have hok : ¬(r.len = 0 ∨ 64 < r.addr % 64 + r.len) := by omega
  simp [State.dramAccess, h, hok, hr, hf]

/-- An access that passes the first checks: above the top, held, in a tree region, or queued at its controller. -/
theorem State.dramAccess_arrived (h : s.Arrives r) (v : DramView) : s.dramAccess r v =
    if s.rd PC_MAP.TOP_GIB * 2 ^ 30 ≤ r.addr then s.dramAnswer r 1 0 false
    else if s.rangeHolds r.addr ∨ s.restoreHolds r.addr then s.dr (fun d => { d with heldReqs := d.heldReqs ++ [r] })
    else if s.inTree r.addr then s.dramAnswer r 1 0 false
    else s.enqueue (s.dramPlace r.addr).1 r v := by
  obtain ⟨hrun, hpos, hblock, hready⟩ := h
  have hok : ¬(r.len = 0 ∨ 64 < r.addr % 64 + r.len) := by omega
  have hrd : ¬(¬s.ready (2 + (s.dramPlace r.addr).1) = true ∧ ¬r.foreman = true) := fun h => h.1 hready
  simp only [State.dramAccess, hrun, Bool.false_eq_true, if_false, if_neg hok]
  exact if_neg (by simpa using fun e => absurd (hready.symm.trans e) (by decide))

theorem State.dramAccess_accepted (h : s.Accepts r) (v : DramView) : s.dramAccess r v = s.enqueue (s.dramPlace r.addr).1 r v := by
  rw [State.dramAccess_arrived h.toArrives, if_neg (Nat.not_le.2 h.below), if_neg (by simp [h.free, h.restored]), if_neg (by simp [h.data])]

/-! ### The controller's queue (14 R372, R373) -/

theorem State.dr_queue_nil (h : s.dram.queue = []) : s.dr (fun d => { d with queue := [] }) = s := by
  have hd : { s.dram with queue := [] } = s.dram := by rw [← h]
  simp only [State.dr, hd]

theorem State.schedAge_nil (h : s.dram.queue = []) (c n : Nat) : s.schedAge c n = s := by
  simp only [State.schedAge, State.dr, h, List.map_nil]
  exact State.dr_queue_nil h

/-- The only request of a channel is its next. -/
theorem State.schedNext_single {w : DramWait} (h : s.dram.queue = [w]) : s.schedNext w.chan = some w := by
  simp [State.schedNext, h]

/-- A read waits in an empty queue while no bank accepts a command. -/
theorem State.enqueue_busy_read (hq : s.dram.queue = []) (hb : v.busy = true) (hr : isWrite r = false) (c : Nat) :
    s.enqueue c r v = s.dr (fun d => { d with queue := [⟨c, r, v, 0⟩] }) := by
  simp [State.enqueue, State.schedAge_nil hq, hb, hr, State.dr, hq]

/-- An empty queue passes a request on where a bank accepts its command. -/
theorem State.enqueue_idle (hq : s.dram.queue = []) (hb : v.busy = false) (hh : s.halted = false) (c : Nat) :
    s.enqueue c r v = s.combine r v := by
  have hnext : (s.dr (fun d => { d with queue := [⟨c, r, v, 0⟩] })).schedNext c = some ⟨c, r, v, 0⟩ :=
    State.schedNext_single (w := ⟨c, r, v, 0⟩) rfl
  have hone : (s.dr (fun d => { d with queue := [⟨c, r, v, 0⟩] })).schedOne c = s.combine r v := by
    have hempty : (s.dr (fun d => { d with queue := [⟨c, r, v, 0⟩] })).dr
        (fun d => { d with queue := d.queue.erase ⟨c, r, v, 0⟩ }) = s := by
      refine Eq.trans ?_ (State.dr_queue_nil hq)
      simp [State.dr]
    rw [State.schedOne, hnext]
    simp only [hempty, hh, Bool.false_eq_true, if_false]
  have hin : s.enqueue c r v = (s.dr (fun d => { d with queue := [⟨c, r, v, 0⟩] })).schedDrain c := by
    simp [State.enqueue, State.schedAge_nil hq, hb, State.dr, hq]
  rw [hin, ← hone]
  simp [State.schedDrain, State.dr]

/-- An access that a free controller performs at once. -/
theorem State.dramAccess_performed (h : s.Accepts r) (hq : s.dram.queue = []) (hb : v.busy = false) :
    s.dramAccess r v = s.combine r v := by
  rw [State.dramAccess_accepted h, State.enqueue_idle hq hb h.running]

/-! ### The write combiner (14 R374) -/

theorem State.flushHalf_nil (h : s.dram.combiner = []) (page : Nat) (v : DramView) : s.flushHalf page v = s := by
  simp [State.flushHalf, h]

/-- The only held half of the page completes. -/
theorem State.flushHalf_single {x : HeldHalf} (h : s.dram.combiner = [x]) (v : DramView) :
    s.flushHalf (pageOf x.req) v = (s.dr (fun d => { d with combiner := [] })).counterStage x.req v := by
  simp [State.flushHalf, h, State.dr]

/-- An open page needs no counter (15 R392). -/
theorem State.counterStage_open (h : s.protectedBy (pageOf r * 128) = none) (v : DramView) : s.counterStage r v = s.servePage r v := by
  simp [State.counterStage, h]

/-- What is no half-page write passes an empty combiner. -/
theorem State.combine_pass (h : s.dram.combiner = []) (hh : s.halted = false)
    (hw : (s.on DC_SCHED.WC_EN (s.dramPlace r.addr).1 && isHalf r) = false) : s.combine r v = s.counterStage r v := by
  simp only [State.combine, hw, Bool.false_eq_true, if_false, State.flushHalf_nil h, hh]

/-- A half-page write waits in an empty combiner. -/
theorem State.combine_first (h : s.dram.combiner = []) (hw : s.on DC_SCHED.WC_EN (s.dramPlace r.addr).1 = true) (hr : isHalf r = true) :
    s.combine r v = s.dr (fun d => { d with combiner := [⟨(s.dramPlace r.addr).1, r⟩] }) := by
  simp [State.combine, hw, hr, h, State.dr]

/-- The other half of the page from the same initiator joins the half held. -/
theorem State.combine_join {x : HeldHalf} (h : s.dram.combiner = [x]) (hw : s.on DC_SCHED.WC_EN (s.dramPlace r.addr).1 = true)
    (hr : isHalf r = true) (hp : pageOf x.req = pageOf r) (hs : x.req.src = r.src) (ha : x.req.addr ≠ r.addr) :
    s.combine r v =
      ((s.dr (fun d => { d with combiner := [] })).dramAnswer x.req 0 0 false).counterStage (joinHalves x.req r) v := by
  simp [State.combine, hw, hr, h, hp, hs, ha, State.dr]

theorem isHalf_of (hl : r.data.length = 64) (ha : r.addr % 64 = 0) (hb : r.be % 2 ^ 64 = 2 ^ 64 - 1) : isHalf r = true := by
  have hw : r.data ≠ [] := by
    intro h
    rw [h] at hl
    exact absurd hl (by decide)
  have hones : r.be % 2 ^ 64 = ones 64 := hb
  simp only [isHalf, isWrite, hl, ha, hones, decide_true, Bool.and_true]
  simp [hw]

/-! ### Reads (14 R380, R381; 15 R396) -/

/-- Bytes within a page are a part of the page's bytes. -/
theorem State.loadBytes_slice (s : State) (a : Nat) {k n : Nat} (h : k + n ≤ 128) :
    ((s.loadBytes a 128).drop k).take n = s.loadBytes (a + k) n := by
  refine List.ext_getElem ?_ (fun i _ _ => ?_)
  · simp [State.loadBytes]
    omega
  · simp [State.loadBytes, Nat.add_assoc]

/-- What a decode other than a miscorrection says of the tag: nothing but whether the page was changed (15 R397). -/
theorem State.tagFails_untampered (hd : s.decodePage page v ≠ .wrong) (ht : v.tampered = false) : s.tagFails page v = false := by
  cases h : s.decodePage page v with
  | wrong => exact absurd h hd
  | _ => simp [State.tagFails, h, ht]

theorem State.tagFails_uncorrectable {e : List (Nat × Nat)} (hd : s.decodePage page v = .uncorrectable e) : s.tagFails page v = false := by
  simp [State.tagFails, hd]

/-- A read of a page that fails its tag halts the part (15 R397, R405). -/
theorem State.readPage_tagFails (h : s.tagFails (pageOf r) v = true) :
    s.readPage r v = (s.haltAt 1 (pageOf r) r.src).dramAnswer r 1 0 false := if_pos h

theorem State.readPage_clean (hd : s.decodePage (pageOf r) v = .clean) (ht : v.tampered = false)
    (hp : (s.page (pageOf r)).poison = false) (hc : r.addr % 128 + r.len ≤ 128) :
    s.readPage r v = s.dramAnswer r 0 (bytesNat (s.loadBytes r.addr r.len)) false := by
  have ha : pageOf r * 128 + r.addr % 128 = r.addr := by unfold pageOf; omega
  have hslice := s.loadBytes_slice (pageOf r * 128) hc
  rw [ha] at hslice
  have hf := s.tagFails_untampered (page := pageOf r) (v := v) (by simp [hd]) ht
  simp [State.readPage, hf, hd, State.pageBytes, ht, hp, State.eccCount, hslice]

theorem State.readPage_corrected {e : List (Nat × Nat)} (hd : s.decodePage (pageOf r) v = .corrected e) (ht : v.tampered = false)
    (hp : (s.page (pageOf r)).poison = false) (hc : r.addr % 128 + r.len ≤ 128) :
    s.readPage r v =
      (s.eccCount (pageOf r) r.src (.corrected e)).dramAnswer r 0 (bytesNat (s.loadBytes r.addr r.len)) false := by
  have ha : pageOf r * 128 + r.addr % 128 = r.addr := by unfold pageOf; omega
  have hslice := s.loadBytes_slice (pageOf r * 128) hc
  rw [ha] at hslice
  have hf := s.tagFails_untampered (page := pageOf r) (v := v) (by simp [hd]) ht
  simp [State.readPage, hf, hd, State.pageBytes, ht, hp, hslice]

theorem State.readPage_uncorrectable {e : List (Nat × Nat)} (hd : s.decodePage (pageOf r) v = .uncorrectable e) :
    s.readPage r v = (s.eccCount (pageOf r) r.src (.uncorrectable e)).dramAnswer r 0
      (bytesNat (((s.pageBytes (pageOf r) v (.uncorrectable e)).1.drop (r.addr % 128)).take r.len)) true := by
  simp [State.readPage, State.tagFails_uncorrectable hd, hd, State.pageBytes]

/-- Counting errors changes neither the bytes, nor what went out, nor the places. -/
theorem State.eccCount_keeps (s : State) (page src : Nat) (d : Decoded) : (s.eccCount page src d).mem = s.mem ∧
    (s.eccCount page src d).sent = s.sent ∧ ∀ a, (s.eccCount page src d).dramPlace a = s.dramPlace a := by
  have h : Moves ⟨false, false, false, true, false, 2252074691596288⟩ s (s.eccCount page src d) :=
    State.eccCount_moves rfl (fun _ h => h) Moves.refl
  exact ⟨h.mem rfl, h.parts .sent rfl, h.dramPlace rfl⟩

/-- The last error's record is of its own register. -/
theorem State.rd_eccLast_other {g : Fld} (h : ∀ f ∈ DC_ECC_LAST.regs, g.id ≠ f.id) (s : State) (page kind : Nat)
    (syms : List (Nat × Nat)) (src u j : Nat) : (s.eccLast page kind syms src).rd g u j = s.rd g u j := by
  simp only [DC_ECC_LAST.regs, List.forall_mem_cons] at h
  obtain ⟨h1, h2, h3, h4, h5, h6, -⟩ := h
  simp [State.eccLast, State.put, State.rd_wr_other, *]

theorem State.eccCount_corrected_count (s : State) (page src : Nat) (e : List (Nat × Nat)) :
    (s.eccCount page src (.corrected e)).rd DC_ECC.CE_COUNT (s.pagePlace page).1 =
      min (s.rd DC_ECC.CE_COUNT (s.pagePlace page).1 + 1) (2 ^ 32 - 1) := by
  have hlast : ((s.count DC_ECC.CE_COUNT 1 (s.pagePlace page).1).eccLast page 0 e src).rd DC_ECC.CE_COUNT (s.pagePlace page).1 =
      min (s.rd DC_ECC.CE_COUNT (s.pagePlace page).1 + 1) (2 ^ 32 - 1) :=
    (State.rd_eccLast_other (by decide) _ page 0 e src _ _).trans (s.rd_count_one DC_ECC.CE_COUNT _ 0)
  simp only [State.eccCount]
  split
  · exact hlast
  · exact hlast

/-- A corrected page waits for its write-back (14 R384). -/
theorem State.eccCount_corrected_writeback (s : State) (page src : Nat) (e : List (Nat × Nat)) :
    page ∈ (s.eccCount page src (.corrected e)).dram.writebacks := by
  simp only [State.eccCount]
  split
  · assumption
  · exact List.mem_append_right _ (List.mem_singleton_self _)

theorem State.noteRow_regs (s : State) (c p : Nat) : (s.noteRow c p).regs = s.regs ∧ (s.noteRow c p).dram = s.dram := by
  simp only [State.noteRow]
  split <;> exact ⟨rfl, rfl⟩

theorem State.eccCount_uncorrectable_count (s : State) (page src : Nat) (e : List (Nat × Nat)) :
    (s.eccCount page src (.uncorrectable e)).rd DC_ECC.UE_COUNT (s.pagePlace page).1 =
      min (s.rd DC_ECC.UE_COUNT (s.pagePlace page).1 + 1) (2 ^ 16 - 1) := by
  simp only [State.eccCount]
  rw [State.rd_of_regs (State.noteRow_regs _ _ _).1, State.rd_post, State.rd_eccLast_other (by decide), State.rd_count_one]
  rfl

theorem State.eccCount_uncorrectable_dram (s : State) (page src : Nat) (e : List (Nat × Nat)) :
    (s.eccCount page src (.uncorrectable e)).dram = s.dram := (State.noteRow_regs _ _ _).2

/-! ### The halt (15 R405) -/

/-- With no key filled the key status reads none. -/
theorem State.showKeys_empty (h : s.crypto.slots = []) : s.showKeys = s.wr EN_KEY_STATUS.FILLED 0 := by
  rw [State.showKeys, h, List.foldl_nil]

/-- What a halt writes to the registers, but for the Lamp level. -/
theorem State.rd_haltPart {f : Fld} (h : f.id ≠ LP_STATUS.LEVEL.id) (s : State) (kind pkind key src addr u j : Nat) :
    (s.haltPart kind pkind key src addr).rd f u j =
      (((((((((s.wr EN_STATUS.HALTED 1).wr EN_HALT.KIND kind).wr EN_HALT.PKIND pkind).wr EN_HALT.KEY_ID key).wr EN_HALT.SRC src).wr
        EN_HALT_ADDR.ADDR addr).wr EN_KEY_STATUS.FILLED 0).wr WD_STATUS.STATE 4).wr WD_STATUS.STOP_CAUSE 5).rd f u j := by
  have hpins : ∀ (l : List (Nat × Pin)) (g : Pin → Pin) (t : State),
      (l.foldl (fun t p => t.updPin (p.1 / 48) (p.1 % 48) g) t).regs = t.regs := by
    intro l g
    induction l with
    | nil => exact fun _ => rfl
    | cons p l ih => exact fun t => ih _
  have hlevel : ∀ t : State, (if t.rd LP_STATUS.LEVEL = 2 then t.wr LP_STATUS.LEVEL 1 else t).rd f u j = t.rd f u j := by
    intro t
    split
    · exact State.rd_wr_other t h
    · rfl
  simp only [State.haltPart, State.rd_post, State.rd_emit]
  rw [State.rd_of_regs (hpins _ _ _), hlevel, State.showKeys_empty rfl]
  rfl

/-- What a halt keeps: the bytes and the places. -/
theorem State.haltAt_keeps (s : State) (kind page src : Nat) :
    (s.haltAt kind page src).mem = s.mem ∧ ∀ a, (s.haltAt kind page src).dramPlace a = s.dramPlace a := by
  have h : Moves ⟨false, false, false, false, true, 6758423102243072⟩ s (s.haltAt kind page src) :=
    State.haltAt_moves rfl (fun _ h => h) Moves.refl
  exact ⟨h.mem rfl, h.dramPlace rfl⟩

/-- The halt of an open page as its registers show it: halted, the kind, the page's address, the Winder frozen. -/
theorem State.haltAt_open_shows (h : s.protectedBy (page * 128) = none) (hp : page * 128 < 2 ^ 48) (src : Nat) :
    (s.haltAt 1 page src).halted = true ∧ (s.haltAt 1 page src).rd EN_HALT.KIND = 1 ∧
      (s.haltAt 1 page src).rd EN_HALT_ADDR.ADDR = page * 128 ∧ (s.haltAt 1 page src).rd WD_STATUS.STATE = 4 := by
  have heq : s.haltAt 1 page src = s.haltPart 1 2 0 src (page * 128) := by simp only [State.haltAt, h]
  rw [heq, State.halted, State.on_iff, State.rd_haltPart (by decide), State.rd_haltPart (by decide), State.rd_haltPart (by decide),
    State.rd_haltPart (by decide)]
  simp (disch := decide) only [State.rd_wr_other, State.rd_wr_same]
  exact ⟨by decide, rfl, Nat.mod_eq_of_lt hp, rfl⟩

/-! ### Stores (14 R374, R382) -/

/-- A byte after masked stores of the first `n` bytes of the data. -/
theorem State.byte_foldl_putByte (s : State) (a : Nat) (data : List Nat) (be b n : Nat) :
    ((List.range n).foldl (fun s i => if be.testBit i then s.putByte (a + i) (BitVec.ofNat 8 (data.getD i 0)) else s) s).byte b =
      if a ≤ b ∧ b < a + n ∧ be.testBit (b - a) = true then BitVec.ofNat 8 (data.getD (b - a) 0) else s.byte b := by
  induction n with
  | zero => exact (if_neg (by omega)).symm
  | succ n ih =>
    rw [List.range_succ, List.foldl_append, List.foldl_cons, List.foldl_nil]
    by_cases hb : b = a + n
    · subst hb
      have hn : a + n - a = n := by omega
      rw [hn]
      by_cases hbe : be.testBit n = true
      · rw [if_pos hbe, State.byte_putByte_same, if_pos ⟨by omega, by omega, hbe⟩]
      · rw [if_neg hbe, ih, if_neg (by omega), if_neg (fun h => hbe h.2.2)]
    · have hlt : b < a + (n + 1) ↔ b < a + n := by omega
      simp only [hlt, ← ih]
      split
      · exact State.byte_putByte_ne _ _ hb
      · rfl

theorem State.byte_storeMasked (s : State) (a : Nat) (data : List Nat) (be b : Nat) : (s.storeMasked a data be).byte b =
    if a ≤ b ∧ b < a + data.length ∧ be.testBit (b - a) = true then BitVec.ofNat 8 (data.getD (b - a) 0) else s.byte b :=
  s.byte_foldl_putByte a data be b data.length

/-- Stored bytes leave the DRAM subsystem's own state. -/
theorem State.storeMasked_dram (s : State) (a : Nat) (data : List Nat) (be : Nat) : (s.storeMasked a data be).dram = s.dram :=
  (State.storeMasked_moves (F := ⟨true, false, false, false, false, 0⟩) rfl Moves.refl).parts .dram rfl

/-- What `t` holds once the page is stored from `s` without a flip: its bytes, its poison mark, and all that stands as it stood. -/
structure Stored (s t : State) (page : Nat) (poison : Bool) (bytes : Nat → BitVec 8) : Prop where
  byte : ∀ b, t.byte b = bytes b
  page : t.page page = ⟨poison, [], true⟩
  sent : t.sent = s.sent
  combiner : t.dram.combiner = s.dram.combiner
  place : ∀ a, t.dramPlace a = s.dramPlace a

/-- Page, journal and flip logic leave a store as it is: an open page, the journal off, no flip armed (11 R294; 14 R386; 15 R392). -/
structure State.Plain (s : State) (page : Nat) : Prop where
  unprotected : s.protectedBy (page * 128) = none
  unjournalled : s.rd WD_SMP_CTRL.PJ_EN = 0
  unarmed : s.rd DC_FLIP_CTRL.ARM (s.pagePlace page).1 = 0

theorem State.journalPage_off (h : s.rd WD_SMP_CTRL.PJ_EN = 0) (page : Nat) (old : List Nat) (poison : Bool) :
    s.journalPage page old poison = s := by
  simp [State.journalPage, State.journalled, State.on, h]

theorem State.raiseCounter_open (h : s.protectedBy (page * 128) = none) : s.raiseCounter page = (true, s) := by
  simp [State.raiseCounter, h]

theorem State.flipOf_unarmed (h : s.rd DC_FLIP_CTRL.ARM (s.pagePlace page).1 = 0) : s.flipOf page = none := by
  simp [State.flipOf, State.on, h]

/-- Marking a page's block keeps the pages and the combiner. -/
theorem State.markWritten_dram (s : State) (page : Nat) :
    (s.markWritten page).dram.pages = s.dram.pages ∧ (s.markWritten page).dram.combiner = s.dram.combiner := by
  simp only [State.markWritten]
  split
  · exact ⟨rfl, rfl⟩
  · split
    · exact ⟨rfl, rfl⟩
    · split
      · exact ⟨rfl, rfl⟩
      · split <;> exact ⟨rfl, rfl⟩

theorem State.markWritten_mem (s : State) (page : Nat) : (s.markWritten page).mem = s.mem :=
  (State.markWritten_moves (F := ⟨false, false, false, false, false, 274877911040⟩) (fun _ h => h) Moves.refl).mem rfl

theorem State.storePage_plain (h : s.Plain page) (mask : Nat) (data : List Nat) (poison : Bool) : ∃ t,
    s.storePage page mask data poison = some t ∧ Stored s t page poison (s.storeMasked (page * 128) data mask).byte := by
  obtain ⟨hopen, hpj, harm⟩ := h
  have heq : s.storePage page mask data poison = some (((s.storeMasked (page * 128) data mask).dr (fun d => { d with
      pages := Tab.set natLt .clean d.pages page ⟨poison, [], true⟩
      writebacks := d.writebacks.filter (fun q => decide (q ≠ page)) })).markWritten page) := by
    simp [State.storePage, State.journalPage_off hpj, State.raiseCounter_open hopen, State.flipOf_unarmed harm]
  have hmoves : Moves ⟨true, true, true, true, true, 9009260839064464⟩ s _ :=
    State.storePage_moves rfl (fun _ h => h) heq Moves.refl
  refine ⟨_, heq, fun b => ?_, ?_, hmoves.parts .sent rfl, ?_, hmoves.dramPlace rfl⟩
  · rw [State.byte, State.markWritten_mem]
    rfl
  · rw [State.page, (State.markWritten_dram _ _).1]
    exact Tab.get_set_same ..
  · rw [(State.markWritten_dram _ _).2]
    show (s.storeMasked (page * 128) data mask).dram.combiner = _
    rw [State.storeMasked_dram]

/-! ### Writes (14 R374, R382, R383) -/

/-- The byte at `b` after the write `r` to `s`: the enabled bytes of its data, and the rest as stored. -/
def State.writtenByte (s : State) (r : DramReq) (b : Nat) : BitVec 8 :=
  if r.addr ≤ b ∧ b < r.addr + r.data.length ∧ r.be.testBit (b - r.addr) = true then BitVec.ofNat 8 (r.data.getD (b - r.addr) 0)
  else s.byte b

theorem pageMask_testBit (r : DramReq) (i : Nat) : (pageMask r).testBit i = true ↔
    r.addr % 128 ≤ i ∧ i - r.addr % 128 < r.data.length ∧ r.be.testBit (i - r.addr % 128) = true := by
  simp [pageMask, Nat.testBit_mul_two_pow, Nat.testBit_mod_two_pow]

theorem pageData_length (h : r.addr % 128 + r.data.length ≤ 128) : (pageData r).length = 128 := by
  simp [pageData]
  omega

theorem pageData_getD {i : Nat} (hlo : r.addr % 128 ≤ i) (hhi : i - r.addr % 128 < r.data.length) :
    (pageData r).getD i 0 = r.data.getD (i - r.addr % 128) 0 := by
  simp only [pageData, List.append_assoc]
  rw [List.getD_append_right _ _ _ _ (by simpa using hlo), List.length_replicate, List.getD_append _ _ _ _ hhi]

/-- A whole page stored, the bytes that `r` writes from `r` and the others as they were, is the page after the write. -/
theorem State.byte_storeMasked_merged {data : List Nat} (hfit : r.addr % 128 + r.data.length ≤ 128) (hlen : data.length = 128)
    (hdata : ∀ i < 128, BitVec.ofNat 8 (data.getD i 0) =
      if (pageMask r).testBit i = true then BitVec.ofNat 8 ((pageData r).getD i 0) else s.byte (pageOf r * 128 + i)) (b : Nat) :
    (s.storeMasked (pageOf r * 128) data (ones 128)).byte b = s.writtenByte r b := by
  have haddr : pageOf r * 128 + r.addr % 128 = r.addr := by unfold pageOf; omega
  rw [State.byte_storeMasked, hlen, State.writtenByte]
  by_cases hin : pageOf r * 128 ≤ b ∧ b < pageOf r * 128 + 128
  · obtain ⟨i, rfl⟩ := Nat.exists_eq_add_of_le hin.1
    have hi : i < 128 := by omega
    have hsub : pageOf r * 128 + i - pageOf r * 128 = i := by omega
    have hoff : pageOf r * 128 + i - r.addr = i - r.addr % 128 := by omega
    rw [hsub, if_pos ⟨hin.1, hin.2, ones_testBit hi⟩, hdata i hi, hoff]
    by_cases hm : (pageMask r).testBit i = true
    · obtain ⟨hlo, hhi, hbe⟩ := (pageMask_testBit r i).1 hm
      rw [if_pos hm, if_pos ⟨by omega, by omega, hbe⟩, pageData_getD hlo hhi]
    · rw [if_neg hm, if_neg]
      exact fun h => hm ((pageMask_testBit r i).2 ⟨by omega, by omega, h.2.2⟩)
  · rw [if_neg (fun h => hin ⟨h.1, h.2.1⟩), if_neg]
    exact fun h => hin (by omega)

/-- A write of a plain page that covers it, or finds it clean and unmarked, stores its enabled bytes and is answered. -/
theorem State.writePage_plain (h : s.Plain (pageOf r)) (hfit : r.addr % 128 + r.data.length ≤ 128)
    (hold : pageMask r = ones 128 ∨ s.decodePage (pageOf r) v = .clean ∧ v.tampered = false ∧ (s.page (pageOf r)).poison = false) :
    ∃ t, s.writePage r v = t.dramAnswer r 0 0 false ∧ Stored s t (pageOf r) r.poison (s.writtenByte r) := by
  by_cases hfull : pageMask r = ones 128
  · obtain ⟨t, ht, hst⟩ := State.storePage_plain h (ones 128) (pageData r) r.poison
    refine ⟨t, by simp only [State.writePage, hfull, if_true, ht], { hst with byte := fun b => (hst.byte b).trans ?_ }⟩
    refine State.byte_storeMasked_merged hfit (pageData_length hfit) (fun i hi => ?_) b
    rw [if_pos (hfull ▸ ones_testBit hi)]
  · obtain ⟨hd, ht, hp⟩ := hold.resolve_left hfull
    have hf := s.tagFails_untampered (page := pageOf r) (v := v) (by simp [hd]) ht
    obtain ⟨t, hsome, hst⟩ := State.storePage_plain h (ones 128) ((List.range 128).map (fun i =>
      if (pageMask r).testBit i then (pageData r).getD i 0 else (s.loadBytes (pageOf r * 128) 128).getD i 0)) r.poison
    refine ⟨t, ?_, { hst with byte := fun b => (hst.byte b).trans ?_ }⟩
    · simp only [State.writePage, if_neg hfull, hf, Bool.false_eq_true, if_false, hd, State.pageBytes, ht, Bool.false_and, State.eccCount,
        hp, Bool.or_false, hsome]
    · refine State.byte_storeMasked_merged hfit (by simp) (fun i hi => ?_) b
      simp only [List.getD_eq_getElem?_getD, List.getElem?_map, List.getElem?_range hi, Option.map_some, Option.getD_some]
      split
      · rfl
      · simp [State.loadBytes, hi]

end Sys2Proof.Machine
end

section
/-! PROOF. Accesses to the DRAM window, by the rules above (O39). -/

namespace Sys2Proof.Machine

variable {s t : State} {r : DramReq} {v : DramView} {page : Nat}

/-- A read as its controller takes it: without data, and answered. -/
abbrev readOf (r : DramReq) : DramReq := { r with data := [], posted := false }

/-- A write as its controller takes it: as long as its data. -/
abbrev writeOf (r : DramReq) : DramReq := { r with len := r.data.length }

theorem exec_dramRead_access (hr : r.addr < 2 ^ 40) (s : State) (v : DramView) :
    exec (.dramRead r v) s = .next (s.dramAccess (readOf r) v) := need_pos (decide_eq_true hr) _

theorem exec_dramWrite_access (hr : r.addr < 2 ^ 40) (hd : 0 < r.data.length) (s : State) (v : DramView) :
    exec (.dramWrite r v) s = .next (s.dramAccess (writeOf r) v) :=
  need_pos (by rw [decide_eq_true hr, decide_eq_true hd]; rfl) _

/-- The time of a held half is up (14 R374). -/
theorem exec_wcTimeout_flush {c : Nat} (hc : c < 8) (hp : (s.pagePlace page).1 = c) (hh : s.halted = false) (v : DramView) :
    exec (.wcTimeout c page v) s = .next (s.flushHalf page v) :=
  (need_pos (decide_eq_true hc) _).trans (congrArg Host.Outcome.next (if_pos (by simp [hp, hh])))

theorem exec_wcTimeout_nil {c : Nat} (hc : c < 8) (h : s.dram.combiner = []) (page : Nat) (v : DramView) :
    exec (.wcTimeout c page v) s = .next s := by
  refine (need_pos (decide_eq_true hc) _).trans (congrArg Host.Outcome.next ?_)
  rw [State.flushHalf_nil h, ite_self]

theorem State.dramPlace_same_page {a b : Nat} (h : a / 128 = b / 128) : (s.dramPlace a).1 = (s.dramPlace b).1 := by
  rw [← State.pagePlace_channel, h, State.pagePlace_channel]

theorem State.servePage_read (h : r.data = []) : s.servePage r v = s.readPage r v := by simp [State.servePage, isWrite, h]

theorem State.servePage_write (h : 0 < r.data.length) : s.servePage r v = s.writePage r v := by
  have hne : r.data ≠ [] := List.ne_nil_of_length_pos h
  simp [State.servePage, isWrite, hne]

/-- A read of an open page that a free controller performs at once. -/
theorem State.dramAccess_read_open (h : s.Accepts r) (hr : r.data = []) (hq : s.dram.queue = []) (hb : v.busy = false)
    (hc : s.dram.combiner = []) (hp : s.protectedBy (pageOf r * 128) = none) : s.dramAccess r v = s.readPage r v := by
  rw [State.dramAccess_performed h hq hb, State.combine_pass hc h.running (by simp [isHalf, isWrite, hr]), State.counterStage_open hp,
    State.servePage_read hr]

/-! ### The bytes of a write -/

theorem State.writtenByte_enabled {i : Nat} (hi : i < r.data.length) (hb : r.be.testBit i = true) :
    s.writtenByte r (r.addr + i) = BitVec.ofNat 8 (r.data.getD i 0) := by
  have hsub : r.addr + i - r.addr = i := by omega
  rw [State.writtenByte, hsub, if_pos ⟨by omega, by omega, hb⟩]

theorem State.writtenByte_outside {a : Nat} (h : a < r.addr ∨ r.addr + r.data.length ≤ a ∨ r.be.testBit (a - r.addr) = false) :
    s.writtenByte r a = s.byte a := by
  refine if_neg ?_
  rintro ⟨hlo, hhi, hb⟩
  rcases h with h | h | h
  · omega
  · omega
  · exact absurd (h.symm.trans hb) (by decide)

theorem joinHalves_low {a : DramReq} (h : a.addr % 128 = 0) (b : DramReq) : joinHalves a b =
    { b with addr := a.addr, len := 128, data := a.data ++ b.data, be := ones 128, poison := a.poison || b.poison } := by
  simp [joinHalves, h]

theorem pageMask_whole (ha : r.addr % 128 = 0) (hl : r.data.length = 128) (hb : r.be = ones 128) : pageMask r = ones 128 := by
  rw [pageMask, ha, hl, hb]
  decide

/-! ### The clauses -/

/-- A write of part of a plain page with the combiner out of its way: the enabled bytes, the page's mark, the answer. -/
theorem State.dramAccess_write_plain (h : s.Accepts r) (hd : 0 < r.data.length) (hl : r.len = r.data.length)
    (hq : s.dram.queue = []) (hb : v.busy = false) (hc : s.dram.combiner = []) (hp : s.Plain (pageOf r))
    (hclean : s.decodePage (pageOf r) v = .clean) (ht : v.tampered = false) (hm : (s.page (pageOf r)).poison = false)
    (hw : s.rd DC_SCHED.WC_EN (s.dramPlace r.addr).1 = 0) :
    ∃ t, s.dramAccess r v = t.dramAnswer r 0 0 false ∧ Stored s t (pageOf r) r.poison (s.writtenByte r) := by
  have hblock := h.block
  rw [State.dramAccess_performed h hq hb, State.combine_pass hc h.running (by simp [State.on, hw]), State.counterStage_open hp.unprotected,
    State.servePage_write hd]
  exact State.writePage_plain hp (by omega) (.inr ⟨hclean, ht, hm⟩)

/-- The upper half of a plain page joins the lower half that the combiner holds: both are answered and the page is stored whole. -/
theorem State.dramAccess_write_join {x : HeldHalf} (h : s.Accepts r) (hhalf : isHalf r = true) (ha : r.addr % 128 = 64)
    (hq : s.dram.queue = []) (hb : v.busy = false) (hp : s.Plain (pageOf r))
    (hw : s.rd DC_SCHED.WC_EN (s.dramPlace r.addr).1 ≠ 0) (hc : s.dram.combiner = [x]) (hx : x.req.addr + 64 = r.addr)
    (hsrc : x.req.src = r.src) (hxl : x.req.data.length = 64) (hrl : r.data.length = 64) :
    ∃ t, s.dramAccess r v = t.dramAnswer (joinHalves x.req r) 0 0 false ∧
      Stored ((s.dr (fun d => { d with combiner := [] })).dramAnswer x.req 0 0 false) t (pageOf r) (x.req.poison || r.poison)
        (s.writtenByte (joinHalves x.req r)) := by
  have hlow : x.req.addr % 128 = 0 := by omega
  have hpage : pageOf x.req = pageOf r := by unfold pageOf; omega
  have hjoin := joinHalves_low hlow r
  have hjpage : pageOf (joinHalves x.req r) = pageOf r := by rw [← hpage, hjoin]; rfl
  have hjlen : (joinHalves x.req r).data.length = 128 := by rw [hjoin]; simp [hxl, hrl]
  have hjaddr : (joinHalves x.req r).addr % 128 = 0 := by rw [hjoin]; exact hlow
  have hmask : pageMask (joinHalves x.req r) = ones 128 := pageMask_whole hjaddr hjlen (by rw [hjoin])
  have hplain : ((s.dr (fun d => { d with combiner := [] })).dramAnswer x.req 0 0 false).Plain (pageOf (joinHalves x.req r)) := by
    rw [State.dramAnswer_done, hjpage]
    exact ⟨hp.unprotected, hp.unjournalled, hp.unarmed⟩
  obtain ⟨t, ht, hst⟩ := State.writePage_plain (v := v) hplain (by omega) (.inl hmask)
  rw [State.dramAccess_performed h hq hb, State.combine_join hc ((s.on_iff _ _ _).2 hw) hhalf hpage hsrc (by omega),
    State.counterStage_open hplain.unprotected, State.servePage_write (by omega)]
  refine ⟨t, ht, ?_⟩
  rw [hjpage, State.dramAnswer_done, hjoin] at hst
  rw [State.dramAnswer_done, hjoin]
  exact hst

/-- A held half of a clean plain page completes alone. -/
theorem State.flushHalf_plain {x : HeldHalf} (hc : s.dram.combiner = [x]) (hl : x.req.data.length = 64) (ha : x.req.addr % 64 = 0)
    (hp : s.Plain (pageOf x.req)) (hclean : s.decodePage (pageOf x.req) v = .clean) (ht : v.tampered = false)
    (hm : (s.page (pageOf x.req)).poison = false) : ∃ t, s.flushHalf (pageOf x.req) v = t.dramAnswer x.req 0 0 false ∧
      Stored (s.dr (fun d => { d with combiner := [] })) t (pageOf x.req) x.req.poison (s.writtenByte x.req) := by
  have hplain : (s.dr (fun d => { d with combiner := [] })).Plain (pageOf x.req) := ⟨hp.unprotected, hp.unjournalled, hp.unarmed⟩
  rw [State.flushHalf_single hc, State.counterStage_open hplain.unprotected, State.servePage_write (by omega)]
  exact State.writePage_plain hplain (by omega) (.inr ⟨hclean, ht, hm⟩)

/-- What a read of the DRAM window answers or changes, case by case. -/
theorem State.dramRead_open_cases (h : s.Accepts r) (hr : r.data = []) (hnp : r.posted = false) (hq : s.dram.queue = [])
    (hb : v.busy = false) (hc : s.dram.combiner = []) (hp : s.protectedBy (pageOf r * 128) = none) (h40 : r.addr < 2 ^ 40) :
    (s.decodePage (pageOf r) v = .clean → v.tampered = false → (s.page (pageOf r)).poison = false → s.dramAccess r v =
      { s with sent := s.sent ++
        [Emission.response (645 + (s.dramPlace r.addr).1) r.src r.tag 0 (bytesNat (s.loadBytes r.addr r.len)) false] }) ∧
    (∀ e, s.decodePage (pageOf r) v = .corrected e → v.tampered = false → (s.page (pageOf r)).poison = false →
      ∃ t, s.dramAccess r v = t ∧
      t.rd DC_ECC.CE_COUNT (s.dramPlace r.addr).1 = min (s.rd DC_ECC.CE_COUNT (s.dramPlace r.addr).1 + 1) (2 ^ 32 - 1) ∧
      pageOf r ∈ t.dram.writebacks ∧ t.mem = s.mem ∧
      t.sent = s.sent ++ [Emission.response (645 + (s.dramPlace r.addr).1) r.src r.tag 0 (bytesNat (s.loadBytes r.addr r.len)) false]) ∧
    (∀ e, s.decodePage (pageOf r) v = .uncorrectable e → ∃ t, s.dramAccess r v = t ∧
      t.rd DC_ECC.UE_COUNT (s.dramPlace r.addr).1 = min (s.rd DC_ECC.UE_COUNT (s.dramPlace r.addr).1 + 1) (2 ^ 16 - 1) ∧ t.mem = s.mem ∧
      t.dram = s.dram ∧ t.sent.getLast? = some (Emission.response (645 + (s.dramPlace r.addr).1) r.src r.tag 0
        (bytesNat (((s.pageBytes (pageOf r) v (.uncorrectable e)).1.drop (r.addr % 128)).take r.len)) true)) ∧
    (s.tagFails (pageOf r) v = true → ∃ t, s.dramAccess r v = t ∧ t.halted = true ∧ t.rd EN_HALT.KIND = 1 ∧
      t.rd EN_HALT_ADDR.ADDR = pageOf r * 128 ∧ t.rd WD_STATUS.STATE = 4 ∧ t.mem = s.mem ∧
      t.sent.getLast? = some (Emission.response (645 + (s.dramPlace r.addr).1) r.src r.tag 1 0 false)) := by
  have hblock := h.block
  have hfit : r.addr % 128 + r.len ≤ 128 := by omega
  have hpage : pageOf r * 128 < 2 ^ 48 := by unfold pageOf; omega
  have hch : (s.pagePlace (pageOf r)).1 = (s.dramPlace r.addr).1 := s.pagePlace_channel r.addr
  rw [State.dramAccess_read_open h hr hq hb hc hp]
  refine ⟨fun hd ht hm => ?_, fun e hd ht hm => ⟨_, rfl, ?_⟩, fun e hd => ⟨_, rfl, ?_⟩, fun hf => ⟨_, rfl, ?_⟩⟩
  · rw [State.readPage_clean hd ht hm hfit, State.dramAnswer_nonposted hnp]
  · obtain ⟨hmem, hsent, hplace⟩ := s.eccCount_keeps (pageOf r) r.src (.corrected e)
    have hcount := s.eccCount_corrected_count (pageOf r) r.src e
    rw [hch] at hcount
    have hwb := s.eccCount_corrected_writeback (pageOf r) r.src e
    rw [State.readPage_corrected hd ht hm hfit]
    generalize s.eccCount (pageOf r) r.src (.corrected e) = t at *
    rw [State.dramAnswer_nonposted hnp, hsent, hplace]
    exact ⟨hcount, hwb, hmem, rfl⟩
  · obtain ⟨hmem, hsent, hplace⟩ := s.eccCount_keeps (pageOf r) r.src (.uncorrectable e)
    have hcount := s.eccCount_uncorrectable_count (pageOf r) r.src e
    rw [hch] at hcount
    have hdram := s.eccCount_uncorrectable_dram (pageOf r) r.src e
    rw [State.readPage_uncorrectable hd]
    generalize s.eccCount (pageOf r) r.src (.uncorrectable e) = t at *
    rw [State.dramAnswer_nonposted hnp, hplace]
    exact ⟨hcount, hmem, hdram, List.getLast?_concat ..⟩
  · obtain ⟨hhalt, hkind, haddr, hstate⟩ := State.haltAt_open_shows hp hpage r.src
    obtain ⟨hmem, hplace⟩ := s.haltAt_keeps 1 (pageOf r) r.src
    rw [State.readPage_tagFails hf, State.dramAnswer_nonposted hnp, hplace]
    exact ⟨hhalt, hkind, haddr, hstate, hmem, List.getLast?_concat ..⟩

/-- Settles O39: the checks on arrival decide in their order; past them an access of a free controller is a read or a store of its page. -/
theorem dramAccesses : Obligations.DramAccesses := by
  intro s r v c page h40 hc hpage
  subst hc hpage
  have hread := exec_dramRead_access h40 s v
  have hanswer (status data : Nat) (poison : Bool) := s.dramAnswer_nonposted (r := readOf r) rfl status data poison
  refine ⟨fun hh => ?_, fun hh hs => ?_, fun hh h0 hb hnr hf => ?_, fun hh h0 hb hrd => ?_,
    fun hh h0 hb hrd htop hfree hrest htree hq hbusy hcmb hopen hpj harm => ⟨fun hd ht hm hwc => ?_, fun hwc hl ha hbe => ?_⟩,
    fun h hh hl ha hbe hrd htop hfree hrest htree hq hbusy hwc hopen hpj harm hcmb hx hsrc hhl hhp hrp => ?_,
    fun h hc8 hh hcmb hpg hl ha hbe hnp hch hopen hpj harm hd ht hm => ?_, fun hc8 hcmb => exec_wcTimeout_nil hc8 hcmb _ v⟩
  · rw [hread, State.dramAccess_halted (r := readOf r) hh, hanswer]
    exact ⟨_, rfl, rfl⟩
  · rw [hread, State.dramAccess_size (r := readOf r) hh hs, hanswer]
    exact ⟨_, rfl, rfl⟩
  · rw [hread, State.dramAccess_notReady (r := readOf r) hh h0 hb hnr hf, hanswer]
    exact ⟨_, rfl, rfl⟩
  · have harr : s.Arrives (readOf r) := ⟨hh, h0, hb, hrd⟩
    rw [hread]
    refine ⟨fun htop => ?_, fun htop hheld => ?_, fun htop hfree hrest htree => ?_, fun htop hfree hrest htree hq hbusy => ?_,
      fun htop hfree hrest htree hq hbusy hcmb hopen => ?_⟩
    · rw [State.dramAccess_arrived harr, if_pos htop, hanswer]
      exact ⟨_, rfl, rfl⟩
    · rw [State.dramAccess_arrived harr, if_neg (Nat.not_le.2 htop), if_pos hheld]
      exact ⟨_, rfl, rfl⟩
    · rw [State.dramAccess_arrived harr, if_neg (Nat.not_le.2 htop), if_neg (by simp [hfree, hrest]), if_pos htree, hanswer]
      exact ⟨_, rfl, rfl⟩
    · rw [State.dramAccess_accepted ⟨harr, htop, hfree, hrest, htree⟩, State.enqueue_busy_read hq hbusy rfl]
      exact ⟨_, rfl, rfl⟩
    · obtain ⟨hclean, hcorr, hunc, htag⟩ :=
        State.dramRead_open_cases ⟨harr, htop, hfree, hrest, htree⟩ rfl rfl hq hbusy hcmb hopen h40
      refine ⟨fun hd ht hm => ⟨_, rfl, hclean hd ht hm⟩, fun e hd ht hm => ?_, fun e hd => ?_, fun hf => ?_⟩
      · obtain ⟨t, rfl, hfacts⟩ := hcorr e hd ht hm
        exact ⟨_, rfl, hfacts⟩
      · obtain ⟨t, rfl, hfacts⟩ := hunc e hd
        exact ⟨_, rfl, hfacts⟩
      · obtain ⟨t, rfl, hfacts⟩ := htag hf
        exact ⟨_, rfl, hfacts⟩
  · have hacc : s.Accepts (writeOf r) := ⟨⟨hh, h0, hb, hrd⟩, htop, hfree, hrest, htree⟩
    have hplain : s.Plain (r.addr / 128) := ⟨hopen, hpj, s.pagePlace_channel r.addr ▸ harm⟩
    obtain ⟨t, hwrite, hst⟩ := State.dramAccess_write_plain hacc h0 rfl hq hbusy hcmb hplain hd ht hm hwc
    rw [exec_dramWrite_access h40 h0, hwrite, State.dramAnswer_done]
    refine ⟨_, rfl, fun i hi hbit => (hst.byte _).trans (State.writtenByte_enabled hi hbit),
      fun a ha => (hst.byte a).trans (State.writtenByte_outside ha), hst.page, ?_⟩
    rw [hst.sent, hst.place]
  · have hacc : s.Accepts (writeOf r) := ⟨⟨hh, h0, hb, hrd⟩, htop, hfree, hrest, htree⟩
    have hhalf : isHalf (writeOf r) = true := isHalf_of hl ha hbe
    have hlen : writeOf r = { r with len := 64 } := by rw [writeOf, hl]
    rw [exec_dramWrite_access h40 h0, State.dramAccess_performed hacc hq hbusy,
      State.combine_first (r := writeOf r) hcmb ((s.on_iff _ _ _).2 hwc) hhalf, hlen]
    exact ⟨_, rfl, rfl⟩
  · have hacc : s.Accepts (writeOf r) :=
      ⟨⟨hh, by show 0 < r.data.length; omega, by show r.addr % 64 + r.data.length ≤ 64; omega, hrd⟩, htop, hfree, hrest, htree⟩
    have hplain : s.Plain (r.addr / 128) := ⟨hopen, hpj, s.pagePlace_channel r.addr ▸ harm⟩
    have hhalf : isHalf (writeOf r) = true := isHalf_of hl (by show r.addr % 64 = 0; omega) (by show r.be % 2 ^ 64 = 2 ^ 64 - 1; omega)
    have hlow : h.addr % 128 = 0 := by omega
    have hplace : (s.dramPlace h.addr).1 = (s.dramPlace r.addr).1 := State.dramPlace_same_page (by omega)
    obtain ⟨t, hjoin, hst⟩ := State.dramAccess_write_join hacc hhalf ha hq hbusy hplain hwc hcmb hx hsrc hhl hl
    rw [joinHalves_low hlow] at hjoin hst
    rw [State.dramAnswer_nonposted hhp] at hst
    rw [State.dramAnswer_nonposted (by exact hrp)] at hjoin
    have hwl : (writeOf r).data.length = 64 := hl
    refine ⟨_, (exec_dramWrite_access h40 (by omega) s v).trans (congrArg Host.Outcome.next hjoin), hst.combiner,
      hst.page, ?_, fun i hi => ⟨?_, ?_⟩⟩
    · rw [hst.sent, hst.place]
      simp only [State.dramPlace_sent, State.dramPlace_dr, hplace, List.append_assoc]
      rfl
    · refine (hst.byte _).trans ((State.writtenByte_enabled (i := i) ?_ (ones_testBit (by omega))).trans ?_)
      · exact lt_of_lt_of_le (by omega) List.length_append.symm.le
      · rw [List.getD_append _ _ _ _ (by omega)]
    · have hadd : r.addr + i = h.addr + (64 + i) := by omega
      rw [hadd]
      refine (hst.byte _).trans ((State.writtenByte_enabled (i := 64 + i) ?_ (ones_testBit (by omega))).trans ?_)
      · exact lt_of_lt_of_le (by omega) List.length_append.symm.le
      · rw [List.getD_append_right _ _ _ _ (by omega), hhl, Nat.add_sub_cancel_left]
  · rw [← hpg] at hopen hd hm hch ⊢
    obtain ⟨t, hflush, hst⟩ := State.flushHalf_plain hcmb hl ha ⟨hopen, hpj, hch ▸ harm⟩ hd ht hm
    rw [State.dramAnswer_nonposted hnp] at hflush
    refine ⟨_, (exec_wcTimeout_flush hc8 hch hh v).trans (congrArg Host.Outcome.next hflush), hst.combiner, ?_,
      fun i hi => (hst.byte _).trans (State.writtenByte_enabled (hi.trans_eq hl.symm) (hbe ▸ ones_testBit hi))⟩
    rw [hst.sent, hst.place]
    rfl

end Sys2Proof.Machine
end

section
/-! PROOF. Clock bring-up, clock gating and the failures of the clocks (O9, O11; 02 R42, R43, R45 to R48, R50, R51, R53, R58). -/

namespace Sys2Proof.Machine

variable {s t : State} {ks : List Key} {n : Nat} {root : Bool}

/-! ### What the supervisor's operations leave of the registers -/

/-- A value that fits the field is read back whole. -/
theorem State.rd_wr_fit {f : Fld} {v u j : Nat} (h : v < 2 ^ f.wid) : (s.wr f v u j).rd f u j = v :=
  (State.rd_wr_same ..).trans (Nat.mod_eq_of_lt h)

theorem State.rd_put_flag {f : Fld} {b : Bool} {u j : Nat} (h : 1 < 2 ^ f.wid) : (s.put f b u j).rd f u j = b2n b :=
  State.rd_wr_fit (lt_of_le_of_lt (by cases b <;> decide) h)

theorem State.regsKeptBut.ck {g : Clocks → Clocks} (h : s.regsKeptBut t ks) : s.regsKeptBut (t.ck g) ks := h.hidden rfl

/-- After a change of registers a change of the clocks leaves the rest. -/
theorem RegsOnly.ck_rest (h : RegsOnly s t) (g : Clocks → Clocks) : { t.ck g with regs := s.regs, clk := s.clk } = s :=
  congrArg (State.ck · fun _ => s.clk) h

theorem State.rd_enterLimp_limp (s : State) : s.enterLimp.rd CK_CLK_STATUS.LIMP = 1 := by
  rw [State.enterLimp, State.rd_post, State.rd_wr_fit (by decide)]

theorem State.rd_enterLimp_other {f : Fld} (h : f.id ≠ CK_CLK_STATUS.LIMP.id) (s : State) (u j : Nat) :
    s.enterLimp.rd f u j = s.rd f u j := by
  simp [State.enterLimp, State.rd_wr_other s h]

theorem State.regsKeptBut.enterLimp (hk : CK_CLK_STATUS.LIMP.key ∈ ks) (h : s.regsKeptBut t ks) : s.regsKeptBut t.enterLimp ks :=
  (h.wr hk).post

theorem State.rd_restartSupervisor_limp (s : State) : s.restartSupervisor.rd CK_CLK_STATUS.LIMP = 0 := by
  simp [State.restartSupervisor]

/-- The fields that a restart of the supervisor clears. -/
def restartFields : List Fld := [CK_CLK_STATUS.REFCLK_OK, CK_CLK_STATUS.ROOT_LOCK, CK_CLK_STATUS.ALIGNED, CK_CLK_STATUS.LIMP]

theorem State.regsKeptBut.restartSupervisor (hk : ∀ f ∈ restartFields, f.key ∈ ks) (h : s.regsKeptBut t ks) :
    s.regsKeptBut t.restartSupervisor ks :=
  ((((h.wr (hk CK_CLK_STATUS.REFCLK_OK (by decide))).wr (hk CK_CLK_STATUS.ROOT_LOCK (by decide))).wr
    (hk CK_CLK_STATUS.ALIGNED (by decide))).wr (hk CK_CLK_STATUS.LIMP (by decide))).ck

theorem State.rd_restartSupervisor_other {f : Fld} (h : ∀ g ∈ restartFields, f.id ≠ g.id) (s : State) (u j : Nat) :
    s.restartSupervisor.rd f u j = s.rd f u j := by
  rw [State.restartSupervisor, State.rd_ck, State.rd_wr_other _ (h CK_CLK_STATUS.LIMP (by decide)),
    State.rd_wr_other _ (h CK_CLK_STATUS.ALIGNED (by decide)), State.rd_wr_other _ (h CK_CLK_STATUS.ROOT_LOCK (by decide)),
    State.rd_wr_other _ (h CK_CLK_STATUS.REFCLK_OK (by decide))]

theorem RegsOnly.restartSupervisor_rest (h : RegsOnly s t) : { t.restartSupervisor with regs := s.regs, clk := s.clk } = s :=
  RegsOnly.ck_rest ((((h.wr ..).wr ..).wr ..).wr ..) _

/-- Bring-up fails for good: the supervisor sets the fault `f`, start step `i` fails, and limp mode begins (02 R42, R43, R51). -/
def State.failBringUp (s : State) (f : Fld) (i : Nat) : State := ((s.wr f 1).recordStep i 2).enterLimp

theorem State.rd_failBringUp_fault {f : Fld} (h : ∀ g ∈ [FM_START_REC.REC, CK_CLK_STATUS.LIMP], f.id ≠ g.id) (hw : 1 < 2 ^ f.wid)
    (s : State) (i : Nat) : (s.failBringUp f i).rd f = 1 := by
  rw [State.failBringUp, State.rd_enterLimp_other (h _ (by simp)), State.rd_recordStep_other (h _ (by simp)), State.rd_wr_fit hw]

theorem State.rd_failBringUp_limp (s : State) (f : Fld) (i : Nat) : (s.failBringUp f i).rd CK_CLK_STATUS.LIMP = 1 :=
  State.rd_enterLimp_limp _

theorem State.rd_failBringUp_other {f g : Fld} (h : ∀ g' ∈ [f, FM_START_REC.REC, CK_CLK_STATUS.LIMP], g.id ≠ g'.id)
    (s : State) (i u j : Nat) : (s.failBringUp f i).rd g u j = s.rd g u j := by
  rw [State.failBringUp, State.rd_enterLimp_other (h _ (by simp)), State.rd_recordStep_other (h _ (by simp)),
    State.rd_wr_other _ (h _ (by simp))]

theorem State.regsKeptBut.failBringUp {f : Fld} {i : Nat} (hf : f.key ∈ ks) (hr : FM_START_REC.REC.key ∈ ks)
    (hl : CK_CLK_STATUS.LIMP.key ∈ ks) (h : s.regsKeptBut t ks) : s.regsKeptBut (t.failBringUp f i) ks :=
  ((h.wr hf).recordStep hr).enterLimp hl

@[simp] theorem State.failBringUp_clk (s : State) (f : Fld) (i : Nat) : (s.failBringUp f i).clk = s.clk := rfl

/-- Beyond registers and clocks the failure changes the Foreman's start record and the event queue alone (18 R470, R477). -/
theorem State.failBringUp_rest (h : { t with regs := s.regs, clk := s.clk } = s) (f : Fld) (i : Nat) :
    { t.failBringUp f i with regs := s.regs, clk := s.clk, fm := s.fm, events := s.events } = s :=
  congrArg (fun x : State => { x with fm := s.fm, events := s.events }) h

/-! ### The events of bring-up, case by case -/

theorem exec_refclkWindowEnd_good (hs : s.clk.stage = .window) (hlo : 24576 ≤ n) (hhi : n ≤ 40960) :
    exec (.refclkWindowEnd n) s = .next (((s.wr CK_CLK_STATUS.REFCLK_OK 1).recordStep 0 1).ck fun _ =>
      { s.clk with stage := .locking, failedWindows := 0, lockAttempts := 0 }) := by
  simp [execRefclkWindowEnd, State.ck, hs, hlo, hhi]

/-- A failed window is counted. -/
def State.windowFailed (s : State) : State :=
  (s.count CK_AON_STATUS.REFCLK_FAIL_COUNT).ck fun _ => { s.clk with failedWindows := s.clk.failedWindows + 1 }

theorem exec_refclkWindowEnd_failed (hs : s.clk.stage = .window) (hn : n < 24576 ∨ 40960 < n) :
    exec (.refclkWindowEnd n) s = .next
      (if s.clk.failedWindows + 1 = 16 then s.windowFailed.failBringUp CK_AON_STATUS.REFCLK_BAD 0 else s.windowFailed) := by
  have hbad : ¬(24576 ≤ n ∧ n ≤ 40960) := by omega
  simp [execRefclkWindowEnd, hs, hbad, State.windowFailed, State.failBringUp, State.ck]

theorem exec_rootLock_locking (hs : s.clk.stage = .locking) : exec .rootLock s = .next
    (((s.wr CK_CLK_STATUS.ROOT_LOCK 1).recordStep 1 1).ck fun _ => { s.clk with stage := .aligning }) := by
  simp [execRootLock, State.ck, hs]

/-- A failed lock attempt is counted; the bring-up goes on at `stage`. -/
def State.lockFailed (s : State) (stage : ClockStage) : State :=
  (s.count CK_AON_STATUS.LOCK_FAIL_COUNT).ck fun _ => { s.clk with lockAttempts := s.clk.lockAttempts + 1, stage := stage }

theorem exec_lockTimeout_locking (hs : s.clk.stage = .locking) : exec .lockTimeout s = .next
    (if s.clk.lockAttempts + 1 < 3 then s.lockFailed .locking else (s.lockFailed .failed).failBringUp CK_AON_STATUS.ROOT_FAIL 1) := by
  simp [execLockTimeout, hs, State.lockFailed, State.failBringUp, State.ck]

theorem exec_aligned_aligning (hs : s.clk.stage = .aligning) : exec .aligned s = .next
    (((s.wr CK_CLK_STATUS.ALIGNED 1).wr CK_CLK_STATUS.LIMP 0).ck fun _ => { s.clk with stage := .running, fmSwitch := some true }) := by
  simp [execAligned, State.ck, hs]

/-! ### The Foreman's clock switch, the phase divider and the clock gates -/

/-- The switch has ended: the Foreman runs from the clock that it went to. -/
def State.switched (s : State) (root : Bool) : State :=
  (s.put CK_CLK_STATUS.FM_CLK_SRC root).ck fun _ => { s.clk with fmSwitch := none }

theorem exec_clockSwitchDone_switching (h : s.clk.fmSwitch = some root) : exec .clockSwitchDone s = .next
    (if root then (s.switched root).recordStep 2 1 else s.switched root) := by
  simp [execClockSwitchDone, State.switched, State.ck, h]

theorem exec_switchHang_switching (h : s.clk.fmSwitch = some root) : exec .switchHang s = .next
    ((((s.put CK_CLK_STATUS.FM_CLK_SRC root).count CK_AON_STATUS.HANG_COUNT).wr CK_AON_STATUS.SWITCH_HANG 1).ck fun _ =>
      { s.clk with fmSwitch := none, fmHeld := true }) := by
  simp [execSwitchHang, State.ck, h]

theorem exec_phaseDivWrite_taken (hw : s.winderStopped = true) (hlo : s.rd CK_CLK_STATUS.PHASE_DIV_MIN ≤ n) (hhi : n ≤ 96) :
    exec (.phaseDivWrite n) s = .next ((s.wr CK_PHASE_DIV.N n).ck fun _ => { s.clk with pendingDiv := some n }) := by
  simp [execPhaseDivWrite, State.ck, hw, hlo, hhi]

theorem exec_phaseDivWrite_refused (h : s.winderStopped = false ∨ n < s.rd CK_CLK_STATUS.PHASE_DIV_MIN ∨ 96 < n) :
    exec (.phaseDivWrite n) s = .next (s.wr CK_CLK_STATUS.DIV_ERR 1) := by
  have hbad : ¬(s.winderStopped && decide (s.rd CK_CLK_STATUS.PHASE_DIV_MIN ≤ n ∧ n ≤ 96)) = true := by
    rcases h with h | h
    · simp [h]
    · have hr : ¬(s.rd CK_CLK_STATUS.PHASE_DIV_MIN ≤ n ∧ n ≤ 96) := by omega
      simp [hr]
  rw [exec_phaseDivWrite, execPhaseDivWrite, if_neg hbad]

theorem exec_phaseDivApply_pending (h : s.clk.pendingDiv = some n) : exec .phaseDivApply s = .next
    ((s.wr CK_CLK_STATUS.PHASE_DIV_CUR n).ck fun _ => { s.clk with pendingDiv := none }) := by
  simp [execPhaseDivApply, State.ck, h]

theorem exec_clockGate_idle {cls unit : Nat} (hc : cls < 8) (hd : s.bit CK_GATE_DIS.DIS cls = false) (hi : s.gateIdle cls unit = true)
    (hg : (cls, unit) ∉ s.clk.gated) : exec (.clockGate cls unit) s = .next
      ((s.putBit CK_GATE_STATUS.GATED cls true).ck fun _ => { s.clk with gated := s.clk.gated ++ [(cls, unit)] }) := by
  simp [execClockGate, need, State.ck, hc, hd, hi, hg]

/-- Settles O9: each event's case is one equation, of which the values read, the frame and the rest are read off. -/
theorem clockBringUp : Obligations.ClockBringUp := by
  intro s
  refine ⟨fun n hs hlo hhi => ?refclk, fun hs => ?lock, fun hs => ?align, fun root h => ?switch, fun n hw hlo hhi => ?divTaken,
    fun n h => ?divRefused, fun n hn h => ?divApplied, fun cls unit hc hd hi hg => ?gate⟩
  case refclk =>
    refine ⟨_, exec_refclkWindowEnd_good hs hlo hhi, rfl, ?_, ?_, rfl⟩
    · rw [State.rd_ck, State.rd_recordStep_other (by decide), State.rd_wr_fit (by decide)]
    · exact ((State.regsKeptBut.refl.wr (by simp)).recordStep (by simp)).ck
  case lock =>
    refine ⟨_, exec_rootLock_locking hs, rfl, ?_, ?_, rfl⟩
    · rw [State.rd_ck, State.rd_recordStep_other (by decide), State.rd_wr_fit (by decide)]
    · exact ((State.regsKeptBut.refl.wr (by simp)).recordStep (by simp)).ck
  case align =>
    refine ⟨_, exec_aligned_aligning hs, rfl, ?_, ?_, ?_, ((RegsOnly.refl.wr ..).wr ..).ck_rest _⟩
    · rw [State.rd_ck, State.rd_wr_other _ (by decide), State.rd_wr_fit (by decide)]
    · rw [State.rd_ck, State.rd_wr_fit (by decide)]
    · exact ((State.regsKeptBut.refl.wr (by simp)).wr (by simp)).ck
  case switch =>
    have shown : (s.switched root).rd CK_CLK_STATUS.FM_CLK_SRC = b2n root := State.rd_put_flag (by decide)
    have kept : s.regsKeptBut (s.switched root) [CK_CLK_STATUS.FM_CLK_SRC.key, FM_START_REC.REC.key] :=
      (State.regsKeptBut.refl.put (by simp)).ck
    have hexec := exec_clockSwitchDone_switching h
    cases root with
    | false => exact ⟨_, hexec, rfl, shown, kept, rfl⟩
    | true => exact ⟨(s.switched true).recordStep 2 1, hexec, rfl, (State.rd_recordStep_other (by decide)).trans shown,
        kept.recordStep (by simp), rfl⟩
  case divTaken =>
    refine ⟨_, exec_phaseDivWrite_taken hw hlo hhi, rfl, ?_, (State.regsKeptBut.refl.wr (by simp)).ck, rfl⟩
    rw [State.rd_ck, State.rd_wr_fit (lt_of_le_of_lt hhi (by decide))]
  case divRefused =>
    exact ⟨_, exec_phaseDivWrite_refused h, State.rd_wr_fit (by decide), State.regsKeptBut.refl.wr (by simp), rfl⟩
  case divApplied =>
    refine ⟨_, exec_phaseDivApply_pending h, rfl, ?_, (State.regsKeptBut.refl.wr (by simp)).ck, rfl⟩
    rw [State.rd_ck, State.rd_wr_fit (lt_of_le_of_lt hn (by decide))]
  case gate =>
    exact ⟨_, exec_clockGate_idle hc hd hi hg, rfl, State.bit_putBit_same (f := CK_GATE_STATUS.GATED) hc,
      (State.regsKeptBut.refl.putBit (by simp)).ck, rfl⟩

/-! ### What restarts the Foreman or the bring-up -/

theorem exec_foremanResetRelease_held (h : s.clk.fmHeld = true) :
    exec .foremanResetRelease s = .next { s.foremanReboot with clk := { s.clk with fmHeld := false } } := by
  simp [execForemanResetRelease, h]

theorem exec_warmHoldEnd_released (h : s.clk.warmHold = true) (hl : s.clk.lampHold = false) (hr : s.clk.stage ≠ .railHold) :
    exec .warmHoldEnd s = .next { s.foremanReboot with clk := { s.clk with warmHold := false } } := by
  simp [execWarmHoldEnd, h, hl, hr]

theorem exec_retry_limp (h : s.on CK_CLK_STATUS.LIMP = true) :
    exec (.retry true) s = .next (s.wr CK_CLK_STATUS.LIMP 0).restartSupervisor := by
  simp [execRetry, h]

/-- The rails that the part watches all good. -/
def State.railsGood (s : State) : State := (List.range 6).foldl (fun t r => t.wr (railField r) 1) s

theorem State.railsGood_regsOnly (s : State) : RegsOnly s s.railsGood :=
  RegsOnly.foldl .refl (fun _ r h => h.wr (railField r) 1 0 0) _

theorem exec_railGood_held (h : s.clk.stage = .railHold) : exec .railGood s = .next s.railsGood.restartSupervisor := by
  simp [execRailGood, h, State.railsGood]

/-- Fields of different numbers all read the value that each is set to. -/
theorem State.rd_foldl_wr_mem {α : Type} {l : List α} {g : α → Fld} (hl : (l.map fun a => (g a).id).Nodup) {a : α} (ha : a ∈ l)
    (v : Nat) (t : State) : (l.foldl (fun t a => t.wr (g a) v) t).rd (g a) = v % 2 ^ (g a).wid := by
  induction l generalizing t with
  | nil => cases ha
  | cons b l ih =>
    obtain ⟨hb, hl⟩ := List.nodup_cons.1 hl
    rw [List.foldl_cons]
    rcases List.mem_cons.1 ha with rfl | ha
    · refine (State.rd_foldl_wr_other (fun c hc e => hb ?_) _).trans (State.rd_wr_same ..)
      exact List.mem_map.2 ⟨c, hc, e.symm⟩
    · exact ih hl ha _

theorem map_railField : (List.range 6).map railField = [CK_RAIL_STATUS.CORE_GOOD, CK_RAIL_STATUS.SRAM_GOOD, CK_RAIL_STATUS.LANE09_GOOD,
    CK_RAIL_STATUS.LANE12_GOOD, CK_RAIL_STATUS.DDR_GOOD, CK_RAIL_STATUS.AUX_GOOD] := by decide

/-- A rail's flag holds a 1, and a restart of the bring-up does not clear it. -/
theorem railField_flag : ∀ r ∈ List.range 6, 1 % 2 ^ (railField r).wid = 1 ∧ ∀ g ∈ restartFields, (railField r).id ≠ g.id := by decide

/-- Every rail's flag reads 1 once the bring-up starts again. -/
theorem State.rd_railsGood_restart (s : State) {r : Nat} (hr : r ∈ List.range 6) :
    s.railsGood.restartSupervisor.rd (railField r) = 1 := by
  obtain ⟨hone, hother⟩ := railField_flag r hr
  rw [State.rd_restartSupervisor_other hother, State.railsGood, State.rd_foldl_wr_mem (by decide) hr, hone]

/-- Settles O11: each event's case is one equation; the two that fail for good end in the same `failBringUp`, and the two that restart the
bring-up in the same `restartSupervisor`. -/
theorem clockFailures : Obligations.ClockFailures := by
  intro s
  refine ⟨fun n hs hn h => ?window, fun n hs hn h => ?lastWindow, fun hs h => ?lock, fun hs h => ?lastLock, fun root h => ?hang,
    fun h => ?release, fun h => ?retry, fun h => ?rails, fun h hl hr => ?hold, ?aon⟩
  case window =>
    refine ⟨_, (exec_refclkWindowEnd_failed hs hn).trans (congrArg _ (if_neg h)), rfl, ?_, ?_, rfl⟩
    · exact State.rd_count_one ..
    · exact (State.regsKeptBut.refl.count (by simp)).ck
  case lastWindow =>
    have hclk : s.windowFailed.clk = { s.clk with failedWindows := 16 } := by simp [State.windowFailed, State.ck, h]
    have hrest : { s.windowFailed with regs := s.regs, clk := s.clk } = s := rfl
    refine ⟨_, (exec_refclkWindowEnd_failed hs hn).trans (congrArg _ (if_pos (by omega))), (State.failBringUp_clk ..).trans hclk, ?_, ?_, ?_, ?_,
      State.failBringUp_rest hrest ..⟩
    · exact State.rd_failBringUp_fault (by decide) (by decide) ..
    · exact State.rd_failBringUp_limp ..
    · exact (State.rd_failBringUp_other (by decide) ..).trans (State.rd_count_one ..)
    · exact (State.regsKeptBut.refl.count (by simp)).ck.failBringUp (by simp) (by simp) (by simp)
  case lock =>
    have hclk : (s.lockFailed .locking).clk = { s.clk with lockAttempts := s.clk.lockAttempts + 1 } := by
      simp [State.lockFailed, State.ck, ← hs]
    refine ⟨_, (exec_lockTimeout_locking hs).trans (congrArg _ (if_pos (by omega))), hclk, ?_, ?_, rfl⟩
    · exact State.rd_count_one ..
    · exact (State.regsKeptBut.refl.count (by simp)).ck
  case lastLock =>
    have hrest : { s.lockFailed .failed with regs := s.regs, clk := s.clk } = s := rfl
    refine ⟨_, (exec_lockTimeout_locking hs).trans (congrArg _ (if_neg (by omega))), by simp [State.lockFailed], ?_, ?_, ?_, ?_,
      State.failBringUp_rest hrest ..⟩
    · exact State.rd_failBringUp_fault (by decide) (by decide) ..
    · exact State.rd_failBringUp_limp ..
    · exact (State.rd_failBringUp_other (by decide) ..).trans (State.rd_count_one ..)
    · exact (State.regsKeptBut.refl.count (by simp)).ck.failBringUp (by simp) (by simp) (by simp)
  case hang =>
    refine ⟨_, exec_switchHang_switching h, rfl, ?_, ?_, ?_, ?_, RegsOnly.ck_rest (((RegsOnly.refl.wr ..).wr ..).wr ..) _⟩
    · rw [State.rd_ck, State.rd_wr_other _ (by decide), State.rd_count_other (by decide), State.rd_put_flag (by decide)]
    · rw [State.rd_ck, State.rd_wr_other _ (by decide), State.rd_count_one, State.rd_put_other (by decide)]
      rfl
    · rw [State.rd_ck, State.rd_wr_fit (by decide)]
    · exact (((State.regsKeptBut.refl.put (by simp)).count (by simp)).wr (by simp)).ck
  case release => exact ⟨_, exec_foremanResetRelease_held h, rfl, rfl, rfl⟩
  case retry =>
    exact ⟨_, exec_retry_limp h, rfl, State.rd_restartSupervisor_limp _,
      (State.regsKeptBut.refl.wr (by simp)).restartSupervisor (by simp [restartFields]),
      (RegsOnly.refl.wr ..).restartSupervisor_rest⟩
  case rails =>
    have hregs := s.railsGood_regsOnly
    have hclk : s.railsGood.clk = s.clk := hregs.keeps State.clk
    refine ⟨_, exec_railGood_held h, by simp [State.restartSupervisor, hclk], fun g hg => ?_, hregs.restartSupervisor_rest⟩
    rw [← map_railField] at hg
    obtain ⟨r, hr, rfl⟩ := List.mem_map.1 hg
    exact s.rd_railsGood_restart hr
  case hold => exact ⟨_, exec_warmHoldEnd_released h hl hr, rfl, rfl, rfl⟩
  case aon => exact ⟨_, exec_vccAonLoss s, rfl⟩

end Sys2Proof.Machine
end

section
/-! PROOF. What operations that move listed parts leave, and reading stopes, for the proofs below. -/

namespace Sys2Proof.Machine

variable {s t : State} {n m : Nat}

/-- No memory and, of the other parts, only those listed. -/
def Foot.only (l : List Part) : Foot := ⟨false, false, false, false, false, partsMask l⟩

/-- The registers of a block that is not listed are kept. -/
theorem Moves.rd_kept {l : List Part} (h : Moves (Foot.only l) s t) {f : Fld} (hf : .regs f.blk ∉ l) (u j : Nat) :
    t.rd f u j = s.rd f u j :=
  h.parts (.regs f.blk) (partsMask_not hf) f u j rfl

/-- Stopes that are not listed are kept. -/
theorem Moves.stope_kept {l : List Part} (h : Moves (Foot.only l) s t) (hl : .stopes ∉ l) (m : Nat) : t.stope m = s.stope m :=
  congrArg (fun l => Tab.get Stope.cold l m) (h.parts .stopes (partsMask_not hl))

theorem Moves.winder_kept {l : List Part} (h : Moves (Foot.only l) s t) (hl : .winder ∉ l) : t.winder = s.winder :=
  h.parts .winder (partsMask_not hl)

/-- A change of a stope's hidden state changes no register. -/
theorem State.rd_updStope (s : State) (m : Nat) (g : Stope → Stope) (f : Fld) (u j : Nat) : (s.updStope m g).rd f u j = s.rd f u j := rfl

theorem State.stope_setStope_same (s : State) (n : Nat) (x : Stope) : (s.setStope n x).stope n = x := Tab.get_set_same ..

/-- Another stope reads as before. -/
theorem State.stope_setStope_ne (s : State) (h : m ≠ n) (x : Stope) : (s.setStope n x).stope m = s.stope m := Tab.get_set_ne _ _ _ _ _ h

end Sys2Proof.Machine
end

section
/-! PROOF. Column repair of a stope (O23; 03 R90, R92; 07 R202 to R204). -/

namespace Sys2Proof.Machine

variable {s t : State} {n pos : Nat}

/-! ### The seams and the scrubbers that follow a change -/

/-- The seams and then the scrubbers follow what became of a stope. -/
theorem State.showSeams_scrubsMeet_moves (s : State) (n : Nat) :
    Moves (Foot.only [.regs .sb, .scrubs, .regs .cfs]) s (s.showSeams.scrubsMeet n) :=
  State.scrubsMeet_moves (Sub.list rfl rfl) (State.showSeams_moves (Sub.list rfl rfl) Moves.refl)

/-- The scrubbers and then the seams follow what became of a stope. -/
theorem State.scrubsMeet_showSeams_moves (s : State) (n : Nat) :
    Moves (Foot.only [.regs .sb, .scrubs, .regs .cfs]) s (s.scrubsMeet n).showSeams :=
  State.showSeams_moves (Sub.list rfl rfl) (State.scrubsMeet_moves (Sub.list rfl rfl) Moves.refl)

/-! ### The repair position and the columns that a change of it makes stale -/

theorem State.rd_repairAt_pos (s : State) (n : Nat) (h : pos ≤ 64) : (s.repairAt n pos).rd ST_REPAIR.POS n = pos := by
  rw [State.repairAt, State.rd_post, State.rd_wr_other _ (by decide), State.rd_wr_fit (lt_of_le_of_lt h (by decide))]

theorem State.rd_repairAt_inService (s : State) (n pos : Nat) : (s.repairAt n pos).rd ST_REPAIR.IN_SERVICE n = 1 := by
  rw [State.repairAt, State.rd_post, State.rd_wr_fit (by decide)]

theorem State.rd_repairAt_other {f : Fld} (h1 : f.id ≠ ST_REPAIR.POS.id) (h2 : f.id ≠ ST_REPAIR.IN_SERVICE.id) (s : State)
    (n pos u j : Nat) : (s.repairAt n pos).rd f u j = s.rd f u j := by
  rw [State.repairAt, State.rd_post, State.rd_wr_other _ h2, State.rd_wr_other _ h1]

theorem State.countWrap_stope (s : State) (f : Fld) (k u j m : Nat) : (s.countWrap f k u j).stope m = s.stope m := rfl

theorem State.repairAt_stope (s : State) (n pos m : Nat) : (s.repairAt n pos).stope m = s.stope m := rfl

/-- A column goes stale from the lower of the two positions upward (03 R92). -/
theorem not_columnStale (old new j : Nat) : (!columnStale old new j) = decide (j < min new old) := by
  have hserved : logicalColumn old (physColumn new j) = some j ∧ j < new ↔ j < min new old := by
    simp only [logicalColumn, physColumn]
    split_ifs <;> simp <;> omega
  rw [Bool.eq_iff_iff, decide_eq_true_iff, ← hserved]
  simp [columnStale]

/-- The state bits of the columns below both positions are all that is left of a stope's. -/
theorem dropColumns_eq (old new : Nat) (x : Stope) : dropColumns old new x = { x with
    q := x.q.filter (fun p => decide (p.1 / 8 / 16 % 64 < min new old))
    cfg := { x.cfg with bits := x.cfg.bits.filter (fun p => decide (p.1.unit / 16 % 64 < min new old)) } } := by
  simp only [dropColumns, not_columnStale]

/-! ### The commands, case by case -/

theorem exec_columnRepair_refused (hn : n < 640)
    (h : (s.stopeState n ≠ 2 ∧ s.stopeState n ≠ 0) ∨ 64 < pos ∨ pos = s.rd ST_REPAIR.POS n) :
    exec (.columnRepair n pos) s = .next (s.wr ST_REPAIR.REP_ERR 1 n) := by
  have hbad : ¬((s.stopeState n = 2 ∨ s.stopeState n = 0) ∧ pos ≤ 64 ∧ pos ≠ s.rd ST_REPAIR.POS n) := by omega
  exact (need_pos (decide_eq_true hn) _).trans (congrArg _ (if_neg hbad))

/-- The columns of the stope that the change of position makes stale are OFF. -/
def State.dropStale (s : State) (n pos : Nat) : State := s.updStope n (dropColumns (s.rd ST_REPAIR.POS n) pos)

/-- The stope is in REFILL towards a position. -/
def State.enterRefill (s : State) (n pos : Nat) : State :=
  (s.wr ST_REPAIR.REFILL 1 n).updStope n (fun x => { x with refill := some pos })

theorem exec_columnRepair_accepted (hn : n < 640) (h : s.stopeState n = 2 ∨ s.stopeState n = 0) (hpos : pos ≤ 64)
    (hnew : pos ≠ s.rd ST_REPAIR.POS n) : exec (.columnRepair n pos) s = .next
      (if s.stopeState n = 0 then (s.dropStale n pos).repairAt n pos
       else ((s.dropStale n pos).enterRefill n pos).showSeams.scrubsMeet n) :=
  (need_pos (decide_eq_true hn) _).trans (congrArg _ (if_pos ⟨h, hpos, hnew⟩))

/-- No re-fill of the stope is under way. -/
def State.leaveRefill (s : State) (n : Nat) : State :=
  (s.updStope n (fun x => { x with refill := none })).wr ST_REPAIR.REFILL 0 n

theorem State.rd_leaveRefill (s : State) (n : Nat) : (s.leaveRefill n).rd ST_REPAIR.REFILL n = 0 := State.rd_wr_same ..

theorem State.leaveRefill_refill (s : State) (n : Nat) : ((s.leaveRefill n).stope n).refill = none :=
  congrArg Stope.refill (s.stope_updStope_same n fun x => { x with refill := none })

/-- Every frame of the stope is written again from the shadow. -/
def State.rewriteFrames (s : State) (n : Nat) : State :=
  (List.range 4320).foldl (fun t f => t.writeFrame n f (s.shadowWords n f)) s

theorem exec_refillDone_refilling (hn : n < 640) (h : (s.stope n).refill = some pos) : exec (.refillDone n) s = .next
    (((((s.rewriteFrames n).leaveRefill n).countWrap CF_SEAM_STATUS.WRITTEN 4320 (n / 160)).repairAt n pos).showSeams.scrubsMeet n) := by
  rw [exec_refillDone, execRefillDone, h]
  exact need_pos (decide_eq_true hn) _

theorem exec_refillShadowError_refilling (hn : n < 640) (h : (s.stope n).refill = some pos) : exec (.refillShadowError n) s = .next
    (((((s.leaveRefill n).repairAt n pos).wr ST_SCRUB.FRAME_LOST 1 n).unconfigure n).showSeams) := by
  rw [exec_refillShadowError, execRefillShadowError, h]
  exact need_pos (decide_eq_true hn) _

theorem exec_refill_idle (hn : n < 640) (h : (s.stope n).refill = none) :
    exec (.refillDone n) s = .next s ∧ exec (.refillShadowError n) s = .next s := by
  rw [exec_refillDone, execRefillDone, exec_refillShadowError, execRefillShadowError, h]
  exact ⟨need_pos (decide_eq_true hn) _, need_pos (decide_eq_true hn) _⟩

/-- What a stope that becomes unconfigured shows: `REFILL` and its bit of `CF_CONFIGURED` clear, `FRAME_LOST` as before. -/
theorem State.rd_unconfigure_showSeams (s : State) (n : Nat) :
    (s.unconfigure n).showSeams.rd ST_REPAIR.REFILL n = 0 ∧
    (s.unconfigure n).showSeams.rd ST_SCRUB.FRAME_LOST n = s.rd ST_SCRUB.FRAME_LOST n ∧
    (s.unconfigure n).showSeams.configured n = false := by
  have kept := fun f hf u j => (State.scrubsMeet_showSeams_moves ((((s.clearFrames n).wr ST_REPAIR.REFILL 0 n).updStope n
    (fun x => { x with refill := none })).putVec CF_CONFIGURED.CONF n false) n).rd_kept (f := f) hf u j
  refine ⟨?_, ?_, ?_⟩
  · rw [State.unconfigure, kept _ (by decide), State.rd_putVec_other (by decide), State.rd_updStope]
    exact State.rd_wr_same ..
  · rw [State.unconfigure, kept _ (by decide), State.rd_putVec_other (by decide), State.rd_updStope, State.rd_wr_other _ (by decide)]
    rfl
  · refine (congrArg (Nat.testBit · (n % 64)) (kept CF_CONFIGURED.CONF (by decide) 0 (n / 64))).trans ?_
    exact State.vec_putVec_same (by decide)

/-- Settles O23: each case of a command is one equation; the seams and scrubbers that follow at its end touch neither the stope nor its
registers. -/
theorem columnRepair : Obligations.ColumnRepair := by
  intro s n pos hn
  refine ⟨fun h => ?refused, fun h0 hpos hnew => ?unconfigured, fun h2 hpos hnew => ?isolated, fun h hpos => ?done, fun h => ?lost,
    exec_refill_idle hn⟩
  case refused =>
    exact ⟨_, exec_columnRepair_refused hn h, State.rd_wr_fit (by decide), State.regsKeptBut.refl.wr (by simp), rfl⟩
  case unconfigured =>
    have hstope : ((s.dropStale n pos).repairAt n pos).stope n = dropColumns (s.rd ST_REPAIR.POS n) pos (s.stope n) :=
      State.stope_updStope_same ..
    refine ⟨_, (exec_columnRepair_accepted hn (.inr h0) hpos hnew).trans (congrArg _ (if_pos h0)), State.rd_repairAt_pos _ n hpos,
      State.rd_repairAt_inService .., ?_, ?_, ((State.regsKeptBut.refl.updStope.wr (by simp)).wr (by simp)).post⟩
    · rw [hstope, dropColumns_eq]
    · rw [hstope, dropColumns_eq]
  case isolated =>
    have hmoves := State.showSeams_scrubsMeet_moves ((s.dropStale n pos).enterRefill n pos) n
    have hstope : ((s.dropStale n pos).enterRefill n pos).stope n =
        { dropColumns (s.rd ST_REPAIR.POS n) pos (s.stope n) with refill := some pos } :=
      (State.stope_updStope_same ..).trans (congrArg (fun x : Stope => { x with refill := some pos }) (State.stope_updStope_same ..))
    have hn0 : s.stopeState n ≠ 0 := by omega
    refine ⟨_, (exec_columnRepair_accepted hn (.inl h2) hpos hnew).trans (congrArg _ (if_neg hn0)), ?_, ?_, ?_, ?_, ?_⟩
    · rw [hmoves.rd_kept (by decide), State.enterRefill, State.rd_updStope, State.rd_wr_fit (by decide)]
    · rw [hmoves.rd_kept (by decide), State.enterRefill, State.rd_updStope, State.rd_wr_other _ (by decide)]
      rfl
    · rw [hmoves.stope_kept (by decide), hstope]
    · rw [hmoves.stope_kept (by decide), hstope, dropColumns_eq]
    · rw [hmoves.stope_kept (by decide), hstope, dropColumns_eq]
  case done =>
    have hmoves := State.showSeams_scrubsMeet_moves
      ((((s.rewriteFrames n).leaveRefill n).countWrap CF_SEAM_STATUS.WRITTEN 4320 (n / 160)).repairAt n pos) n
    refine ⟨_, exec_refillDone_refilling hn h, ?_, ?_, ?_, ?_⟩
    · rw [hmoves.rd_kept (by decide), State.rd_repairAt_pos _ n hpos]
    · rw [hmoves.rd_kept (by decide), State.rd_repairAt_other (by decide) (by decide), State.rd_countWrap_other (by decide),
        State.rd_leaveRefill]
    · rw [hmoves.rd_kept (by decide), State.rd_repairAt_inService]
    · rw [hmoves.stope_kept (by decide), State.repairAt_stope, State.countWrap_stope, State.leaveRefill_refill]
  case lost =>
    obtain ⟨hrefill, hlost, hconf⟩ := State.rd_unconfigure_showSeams (((s.leaveRefill n).repairAt n pos).wr ST_SCRUB.FRAME_LOST 1 n) n
    exact ⟨_, exec_refillShadowError_refilling hn h, hrefill, hlost.trans (State.rd_wr_fit (by decide)), hconf⟩

end Sys2Proof.Machine
end

section
/-! PROOF. Where the Winder stands through the operations of a boundary (O15; 08 R209, R213, R216, R221, R228). -/

namespace Sys2Proof.Machine

variable {s t : State}

/-- The tally, and whether and where a stroke stands. -/
def State.place (s : State) : Nat × Bool × Nat × Nat := (s.rd WD_TALLY.TALLY, s.winder.inStroke, s.winder.phase, s.winder.slots)

/-- The Winder stands in `t` where it stands in `s`. -/
def SamePlace (s t : State) : Prop := t.place = s.place

namespace SamePlace

theorem refl : SamePlace s s := rfl

/-- A change outside the registers and the Winder. -/
theorem hidden {t' : State} (h : SamePlace s t) (hr : t'.regs = t.regs) (hw : t'.winder = t.winder) : SamePlace s t' := by
  rw [SamePlace, State.place, State.rd_of_regs hr, hw]
  exact h

/-- An operation that moves neither the Winder's registers nor its state. -/
theorem moves {t' : State} {l : List Part} (h : SamePlace s t) (hm : Moves (Foot.only l) t t') (hr : .regs .wd ∉ l) (hw : .winder ∉ l) :
    SamePlace s t' := by
  rw [SamePlace, State.place, hm.rd_kept hr, hm.winder_kept hw]
  exact h

theorem wr (h : SamePlace s t) {f : Fld} {v u j : Nat} (hf : WD_TALLY.TALLY.id ≠ f.id) : SamePlace s (t.wr f v u j) := by
  rw [SamePlace, State.place, State.rd_wr_other t hf]
  exact h

theorem wd (h : SamePlace s t) {g : Winder → Winder}
    (hg : ∀ w, ((g w).inStroke, (g w).phase, (g w).slots) = (w.inStroke, w.phase, w.slots)) : SamePlace s (t.wd g) :=
  (congrArg (Prod.mk (t.rd WD_TALLY.TALLY)) (hg t.winder)).trans h

theorem emit (h : SamePlace s t) (e : Emission) : SamePlace s (t.emit e) := h

theorem post (h : SamePlace s t) (src code sev arg : Nat) : SamePlace s (t.post src code sev arg) := h

theorem smp (h : SamePlace s t) (g : Sampler → Sampler) : SamePlace s (t.smp g) := h

theorem updStope (h : SamePlace s t) (n : Nat) (g : Stope → Stope) : SamePlace s (t.updStope n g) := h

theorem count (h : SamePlace s t) {f : Fld} {n u j : Nat} (hf : WD_TALLY.TALLY.id ≠ f.id) : SamePlace s (t.count f n u j) := h.wr hf

theorem putBit (h : SamePlace s t) {f : Fld} {b : Nat} {v : Bool} {u j : Nat} (hf : WD_TALLY.TALLY.id ≠ f.id) :
    SamePlace s (t.putBit f b v u j) := h.wr hf

/-- Either branch of a choice. -/
theorem ite {p : Prop} [Decidable p] {a b : State} (ha : SamePlace s a) (hb : SamePlace s b) : SamePlace s (if p then a else b) := by
  split
  · exact ha
  · exact hb

theorem foldl {α : Type} {f : State → α → State} (h : SamePlace s t) (k : ∀ t a, SamePlace s t → SamePlace s (f t a)) (l : List α) :
    SamePlace s (l.foldl f t) := by
  induction l generalizing t with
  | nil => exact h
  | cons a l ih => exact ih (k t a h)

theorem requestVector (h : SamePlace s t) (v : Nat) : SamePlace s (t.requestVector v) := by
  refine h.hidden (t.requestVector_regs v) ?_
  unfold State.requestVector
  split_ifs <;> rfl

theorem raise (h : SamePlace s t) {f en ve : Fld} {b : Nat} (hf : WD_TALLY.TALLY.id ≠ f.id) : SamePlace s (t.raise f en ve b) :=
  ite h (ite ((h.putBit hf).requestVector _) (h.putBit hf))

theorem wdIrq (h : SamePlace s t) (b : Nat) : SamePlace s (t.wdIrq b) := h.raise (by decide)

theorem tellAll (h : SamePlace s t) (m : BwMsg) : SamePlace s (t.tellAll m) := ite h (h.emit _)

theorem windTo (h : SamePlace s t) (v : Nat) : SamePlace s (t.windTo v) := ite h (h.wr (by decide))

theorem refreshReplaying (h : SamePlace s t) : SamePlace s t.refreshReplaying := h.wr (by decide)

/-! ### Commands, events and grants -/

theorem cmdFinish (h : SamePlace s t) (r : Nat) : SamePlace s (t.cmdFinish r) :=
  ((((h.wr (by decide)).wr (by decide)).wr (by decide)).wd (by intro; rfl)).wdIrq _

theorem cmdLocalDone (h : SamePlace s t) (r : Nat) : SamePlace s (t.cmdLocalDone r) := by
  unfold State.cmdLocalDone
  split
  · exact ite (h.cmdFinish _) (h.wd (by intro; rfl))
  · split
    · exact (h.emit _).wd (by intro; rfl)
    · exact h

theorem refreshStop (h : SamePlace s t) : SamePlace s t.refreshStop := h.wr (by decide)

theorem addEvent (h : SamePlace s t) (e : SchedEvent) : SamePlace s (t.addEvent e) := (h.wd (by intro; rfl)).refreshStop

theorem schedule (h : SamePlace s t) (k : EventKind) (e slot cause : Nat) : SamePlace s (t.schedule k e slot cause) :=
  ite h ((h.tellAll _).addEvent _)

theorem scheduleOwn (h : SamePlace s t) (e cause : Nat) : SamePlace s (t.scheduleOwn e cause) := (h.tellAll _).addEvent _

theorem grantNow (h : SamePlace s t) : SamePlace s t.grantNow := ite ((h.wr (by decide)).tellAll _) h

theorem autoCheckpoint (h : SamePlace s t) : SamePlace s t.autoCheckpoint := by
  unfold State.autoCheckpoint
  refine ite (ite ?_ h) h
  split
  · exact (h.schedule ..).smp _
  · exact h

theorem grantPoint (h : SamePlace s t) : SamePlace s t.grantPoint := ite (ite h.autoCheckpoint h).grantNow h

theorem startRun (h : SamePlace s t) (trig : Bool) : SamePlace s (t.startRun trig) := by
  unfold State.startRun
  extract_lets run replaying started
  have hstarted : SamePlace s started := ((h.windTo 2).wd (by intro; rfl)).refreshReplaying.smp _
  exact ite (ite hstarted.autoCheckpoint hstarted).grantNow hstarted

theorem startRestore (h : SamePlace s t) (slot : Nat) (rewind : Bool) : SamePlace s (t.startRestore slot rewind) := by
  unfold State.startRestore
  extract_lets stopped armed restoring noted
  have hstopped : SamePlace s stopped := h.windTo 3
  have harmed : SamePlace s armed := ite ((hstopped.wr (by decide)).wr (by decide)) (hstopped.wr (by decide))
  have hnoted : SamePlace s noted := (harmed.refreshReplaying.smp _).wd (by intro; rfl)
  exact hnoted.foldl (fun _ _ h => h.wr (by decide)) _

/-! ### Silent recovery and stops -/

theorem recoveryFail (h : SamePlace s t) : SamePlace s t.recoveryFail := by
  unfold State.recoveryFail
  extract_lets u v
  have hfail : SamePlace s v := ((((h.wr (by decide)).wr (by decide)).wd (by intro; rfl)).wdIrq 1).post ..
  split
  · exact ite (hfail.cmdFinish 0) hfail
  · exact hfail

theorem recoveryChosen (h : SamePlace s t) (r : Recovery) : SamePlace s (t.recoveryChosen r) := by
  unfold State.recoveryChosen
  split
  · exact h.recoveryFail
  · exact ((h.wd (by intro; rfl)).tellAll _).startRestore ..

theorem recoveryRestore (h : SamePlace s t) (r : Recovery) : SamePlace s (t.recoveryRestore r) :=
  ite (h.recoveryChosen r) ((h.wd (by intro; rfl)).foldl (fun _ _ h => h.emit _) _)

theorem recoveryBegin (h : SamePlace s t) (b : Nat) : SamePlace s (t.recoveryBegin b) :=
  ite ((h.wd (by intro; rfl)).scheduleOwn ..) (ite (h.recoveryRestore _) (ite (h.wd (by intro; rfl)) h))

theorem spoilAtLeader (h : SamePlace s t) (b : Nat) : SamePlace s (t.spoilAtLeader b) := by
  unfold State.spoilAtLeader
  refine ite h ?_
  split
  · exact ite (h.wd (by intro; rfl)) (ite (h.recoveryBegin b) (h.wd (by intro; rfl)))
  · exact h.recoveryBegin b

theorem spoilReport (h : SamePlace s t) (b : Nat) : SamePlace s (t.spoilReport b) := ite (h.spoilAtLeader b) (h.emit _)

theorem putSpoilBit (h : SamePlace s t) (n : Nat) (v : Bool) : SamePlace s (t.putSpoilBit n v) :=
  h.foldl (fun _ _ h => h.putBit (by decide)) _

theorem clearSpoil (h : SamePlace s t) (n : Nat) : SamePlace s (t.clearSpoil n) :=
  h.moves (l := [.regs .st, .regs .sb]) (State.clearSpoil_moves (Sub.list rfl rfl) Moves.refl) (by decide) (by decide)

theorem recovered (h : SamePlace s t) (e : Nat) (next : Option Recovery) : SamePlace s (t.recovered e next) := by
  unfold State.recovered
  extract_lets u v
  have hdone : SamePlace s v := (((h.count (by decide)).wd (by intro; rfl)).wdIrq 4).post ..
  split
  · exact hdone
  · exact ite (hdone.spoilAtLeader _) ((hdone.tellAll _).foldl (fun _ n h => h.clearSpoil n) _)

theorem recoveryRun (h : SamePlace s t) : SamePlace s t.recoveryRun := by
  unfold State.recoveryRun
  split
  · exact ite ((((h.wd (by intro; rfl)).tellAll _).startRun _).recovered ..) (((h.tellAll _).startRun _).recovered ..)
  · exact ((h.tellAll _).startRun _).recovered ..

theorem recoveryProceed (h : SamePlace s t) : SamePlace s t.recoveryProceed := by
  unfold State.recoveryProceed
  split
  · exact h
  · refine ite h (ite (ite (ite ((h.wd (by intro; rfl)).recovered ..) ?_) h.recoveryRun) (ite (h.recovered ..) (ite (h.wd (by intro; rfl)) h)))
    exact ((((h.wd (by intro; rfl)).scheduleOwn ..).tellAll _).startRun _)

theorem stopHere (h : SamePlace s t) (ev : SchedEvent) : SamePlace s (t.stopHere ev) := by
  unfold State.stopHere
  extract_lets mine cut stopped recovering caused
  have hstop : SamePlace s stopped := (h.wd (by intro; rfl)).refreshStop.windTo 1
  have hrecovering : SamePlace s recovering := hstop.wr (by decide)
  have hcaused : SamePlace s caused := (hstop.wr (by decide)).wdIrq 1
  clear_value caused
  refine ite ?_ (ite ?_ ?_)
  · split
    · exact ite (hrecovering.recoveryRestore _) hrecovering
    · exact hrecovering
  · split
    · exact (hstop.wd (by intro; rfl)).recoveryProceed
    · exact hstop.cmdLocalDone 0
  · split
    · exact ite (hcaused.startRestore ..) (hcaused.cmdLocalDone 7)
    · split
      · exact ite (hcaused.cmdLocalDone 0) hcaused
      · exact ite (hcaused.cmdLocalDone 0) hcaused
      · exact hcaused

theorem settle (h : SamePlace s t) : SamePlace s t.settle := by
  unfold State.settle
  refine ite ?_ h
  split
  · exact h.stopHere _
  · exact h

/-! ### What a boundary does after the tally has risen -/

theorem raiseSpoil (h : SamePlace s t) (n : Nat) {cause : Fld} (b : Nat) (hc : WD_TALLY.TALLY.id ≠ cause.id) :
    SamePlace s (t.raiseSpoil n cause b) := by
  unfold State.raiseSpoil
  extract_lets bounded caused bits
  have hbounded : SamePlace s bounded := ite (ite (h.wr (by decide)) h) ((h.wr (by decide)).wr (by decide))
  have hcaused : SamePlace s caused := ((hbounded.wr (by decide)).wr hc).count (by decide)
  exact ite ((((hcaused.putSpoilBit ..).post ..).emit _).spoilReport b) h

theorem slipCheck (h : SamePlace s t) (n : Nat) : SamePlace s (t.slipCheck n) := by
  unfold State.slipCheck
  extract_lets ok zeroed
  have hzeroed : SamePlace s zeroed := (h.wr (by decide)).wr (by decide)
  exact ite hzeroed (((hzeroed.wr (by decide)).count (by decide)).raiseSpoil n _ (by decide))

theorem triggerReport (h : SamePlace s t) (sample : Bool) (slot : Nat) : SamePlace s (t.triggerReport sample slot) :=
  ite (ite (h.schedule ..) h) (ite (h.schedule ..) h)

theorem triggerHit (h : SamePlace s t) (j v : Nat) : SamePlace s (t.triggerHit j v) := by
  have report : ∀ {u : State} (sample : Bool) (slot : Nat) (m : BwMsg), SamePlace s u →
      SamePlace s (if u.leads then u.triggerReport sample slot else u.tellLeader m) :=
    fun sample slot m hu => ite (hu.triggerReport sample slot) (hu.emit _)
  unfold State.triggerHit
  extract_lets first hit acts w slot x
  have hhit : SamePlace s hit := (ite (p := t.bit WD_TRIG_STATUS.HIT j = true) h (h.wr (by decide))).putBit (by decide)
  have hirq : SamePlace s w := ite (hhit.wdIrq 2) hhit
  have hstop : SamePlace s x := ite (report _ _ _ hirq) hirq
  exact ite hhit (ite (report _ _ _ hstop) hstop)

theorem triggers (h : SamePlace s t) (v : Nat) : SamePlace s (t.triggers v) :=
  ((h.foldl (fun _ j h => h.triggerHit j v) _).wr (by decide)).wd (by intro; rfl)

theorem replayEnd (h : SamePlace s t) : SamePlace s t.replayEnd := ite ((h.wr (by decide)).wr (by decide)) h.refreshReplaying

theorem buildFrames (h : SamePlace s t) (v : Nat) : SamePlace s (t.buildFrames v) :=
  h.moves (l := [.regs .xcp, .lanes, .xp, .sent]) (State.buildFrames_moves (Sub.list rfl rfl) Moves.refl) (by decide) (by decide)

theorem syncStopes (h : SamePlace s t) : SamePlace s t.syncStopes :=
  h.moves (l := [.regs .st, .regs .ck, .clk]) (State.syncStopes_moves (Sub.list rfl rfl) Moves.refl) (by decide) (by decide)

/-! ### The commits of the bin queues -/

theorem levelCheck (h : SamePlace s t) (n b old new : Nat) : SamePlace s (t.levelCheck n b old new) :=
  h.moves (l := [.regs .st, .sent, .stopes]) (State.levelCheck_moves (Sub.list rfl rfl) Moves.refl) (by decide) (by decide)

theorem scrubResume (h : SamePlace s t) (k : Nat) : SamePlace s (t.scrubResume k) :=
  h.moves (l := [.regs .sb, .scrubs]) (State.scrubResume_moves (Sub.list rfl rfl) Moves.refl) (by decide) (by decide)

theorem samplerReady (h : SamePlace s t) : SamePlace s t.samplerReady := ((h.wr (by decide)).wr (by decide)).smp _

theorem failSample (h : SamePlace s t) (cause : Nat) : SamePlace s (t.failSample cause) := by
  unfold State.failSample
  split
  · exact h
  · extract_lets u v w
    have hslot : SamePlace s u := (h.wr (by decide)).wr (by decide)
    have hstopes : SamePlace s v := hslot.foldl (fun _ _ h => (h.updStope _ _).wr (by decide)) _
    have hcorers : SamePlace s w := hstopes.foldl (fun _ k h => (((h.wr (by decide)).wr (by decide)).wr (by decide)).scrubResume k) _
    exact hcorers.samplerReady.smp _

theorem emptySlot (h : SamePlace s t) (n : Nat) : SamePlace s (t.emptySlot n) :=
  (((((h.wr (by decide)).wr (by decide)).wr (by decide)).wr (by decide)).wr (by decide)).smp _

theorem giveUpSample (h : SamePlace s t) : SamePlace s t.giveUpSample := by
  unfold State.giveUpSample
  split
  · exact h.emptySlot _
  · exact ite h (h.failSample 5)

theorem logTrim (h : SamePlace s t) : SamePlace s t.logTrim := by
  unfold State.logTrim
  split
  · exact h.smp _
  · exact h.smp _

theorem logReclaim (h : SamePlace s t) (need k : Nat) : SamePlace s (t.logReclaim need k) := by
  induction k generalizing t with
  | zero => exact h
  | succ k ih =>
    have hgive : SamePlace s (t.logTrim.giveUpSample.wr WD_SMP_STATUS.LOG_OVF 1) := h.logTrim.giveUpSample.wr (by decide)
    exact ite h.logTrim (ite (ih hgive) (hgive.logTrim.smp _))

theorem logRecord (h : SamePlace s t) (r : LogRecord) : SamePlace s (t.logRecord r) :=
  ite h (ite (h.wr (by decide)) (ite (((h.logReclaim ..).smp _).wr (by decide)) (h.logReclaim ..)))

theorem commitWords (h : SamePlace s t) (n b k : Nat) : SamePlace s (t.commitWords n b k) := (h.smp _).levelCheck ..

theorem commitBin (h : SamePlace s t) (n b : Nat) : SamePlace s (t.commitBin n b) := by
  unfold State.commitBin
  refine ite ?_ (ite h ((h.commitWords ..).logRecord _))
  split
  · exact ite ((h.commitWords ..).smp _) h
  · exact h

theorem commitBins (h : SamePlace s t) : SamePlace s t.commitBins := h.foldl (fun _ nb h => h.commitBin nb.1 nb.2) _

end SamePlace

end Sys2Proof.Machine
end

section
/-! PROOF. Strokes (O15; 03 R81 to R86; 05 R124; 08 R209 to R213). -/

namespace Sys2Proof.Machine

variable {s t : State} {n m : Nat}

theorem State.nodup_activeStopes (s : State) : s.activeStopes.Nodup := (List.nodup_range.filter _).filter _

/-! ### The start of a stroke -/

theorem exec_strokeStart_shut (h : s.gateOpen = false) : exec .strokeStart s = .next s := by
  rw [exec_strokeStart, execStrokeStart, if_neg (Bool.eq_false_iff.1 h)]

/-- The gate opens where nothing of 08 R210 keeps it shut. -/
theorem State.gateOpen_iff (s : State) : s.gateOpen = true ↔ s.rd WD_STATUS.STATE = 2 ∧ s.winder.inStroke = false ∧ s.sampleDue = none ∧
    s.portWait (s.rd WD_TALLY.TALLY) = 0 ∧ s.rd WD_TALLY.TALLY < s.rd WD_HORIZON.H ∧ s.slotHeld 0 = false ∧
    ∀ e ∈ s.winder.events, e.kind = .sample ∨ s.rd WD_TALLY.TALLY < e.e := by
  simp only [State.gateOpen, Bool.and_eq_true, decide_eq_true_eq, Bool.not_eq_true', Option.isNone_iff_eq_none, List.any_eq_false,
    not_and, not_le, ne_eq, or_iff_not_imp_left, and_assoc]
  rfl

/-- Receive points, pin inputs and the tallies of stopes new in use load before phase 0. -/
def State.strokeLoads (s : State) : State :=
  let t := s.syncStopes.loadReceivePoints s.tally
  let t := t.activeStopes.foldl (fun t n => t.loadPins n) t
  t.activeStopes.foldl (fun t n => t.updStope n (fun x => if x.usePending then { x with usePending := false, useTally := s.tally } else x)) t

theorem exec_strokeStart_open (h : s.gateOpen = true) : exec .strokeStart s = .next
    (s.strokeLoads.drawn.wd (fun w => { w with inStroke := true, phase := 0, slots := 0, sampled := false })) := by
  rw [exec_strokeStart, execStrokeStart, if_pos h, State.strokeLoads]

theorem State.strokeLoads_moves (s : State) : Moves (Foot.only [.regs .xcp, .xp, .pins, .stopes]) s.syncStopes s.strokeLoads := by
  unfold State.strokeLoads
  extract_lets received pinned
  have hreceived : Moves (Foot.only [.regs .xcp, .xp, .pins, .stopes]) s.syncStopes received :=
    State.loadReceivePoints_moves (Sub.list rfl rfl) Moves.refl
  have hpinned : Moves (Foot.only [.regs .xcp, .xp, .pins, .stopes]) s.syncStopes pinned :=
    Moves.foldl hreceived fun _ _ _ h => State.loadPins_moves (Sub.list rfl rfl) h
  exact Moves.foldl hpinned fun _ _ _ h => State.updStope_moves (Sub.list rfl rfl) h

theorem State.syncStopes_moves_only (s : State) : Moves (Foot.only [.regs .st, .regs .ck, .clk]) s s.syncStopes :=
  State.syncStopes_moves (Sub.list rfl rfl) Moves.refl

theorem State.strokeLoads_winder (s : State) : s.strokeLoads.winder = s.winder := by
  rw [s.strokeLoads_moves.winder_kept (by decide), s.syncStopes_moves_only.winder_kept (by decide)]

/-- One stope that waits for the device's boundary comes into step. -/
def State.syncStope (s : State) (n : Nat) : State :=
  let t := ((s.wr ST_TREE_STATUS.HOLD_SYNC 0 n).wr ST_TREE_STATUS.LOCAL_CTX 0 n).wr ST_TREE_STATUS.LOCAL_PHASE 0 n
  if s.inUse n then t.ungate 4 n else t

theorem State.syncStopes_eq (s : State) : s.syncStopes = ((List.range 640).filter s.syncDue).foldl State.syncStope s := rfl

theorem State.rd_ungate_other {f : Fld} (h : f.id ≠ CK_GATE_STATUS.GATED.id) (s : State) (c k u j : Nat) :
    (s.ungate c k).rd f u j = s.rd f u j :=
  (State.rd_of_regs rfl f u j).trans (State.rd_putBit_other h)

theorem State.rd_syncStope_hold (s : State) (m n : Nat) :
    (s.syncStope m).rd ST_TREE_STATUS.HOLD_SYNC n = if n = m then 0 else s.rd ST_TREE_STATUS.HOLD_SYNC n := by
  have hwr : (((s.wr ST_TREE_STATUS.HOLD_SYNC 0 m).wr ST_TREE_STATUS.LOCAL_CTX 0 m).wr ST_TREE_STATUS.LOCAL_PHASE 0 m).rd
      ST_TREE_STATUS.HOLD_SYNC n = if n = m then 0 else s.rd ST_TREE_STATUS.HOLD_SYNC n := by
    rw [State.rd_wr_other _ (by decide), State.rd_wr_other _ (by decide)]
    split
    · subst n
      exact State.rd_wr_same ..
    · rename_i hne
      exact State.rd_wr_ne _ (by simp [hne])
  unfold State.syncStope
  extract_lets u
  split
  · exact (State.rd_ungate_other (by decide) ..).trans hwr
  · exact hwr

theorem State.rd_foldl_syncStope_hold (l : List Nat) {t : State} (h : n ∈ l ∨ t.rd ST_TREE_STATUS.HOLD_SYNC n = 0) :
    (l.foldl State.syncStope t).rd ST_TREE_STATUS.HOLD_SYNC n = 0 := by
  induction l generalizing t with
  | nil => exact h.resolve_left (List.not_mem_nil)
  | cons m l ih =>
    refine ih ?_
    rw [State.rd_syncStope_hold]
    split
    · exact .inr rfl
    · rename_i hne
      exact h.imp_left fun hm => (List.mem_cons.1 hm).resolve_left hne

/-- A stope in use on the phase clock waits for the device's boundary no longer (04 R110). -/
theorem State.rd_syncStopes_hold (hn : n < 640) (huse : s.inUse n = true) (hsrc : s.rd ST_TREE_STATUS.SRC_CUR n = 0)
    (hsw : s.rd ST_TREE_STATUS.SWITCHING n = 0) : s.syncStopes.rd ST_TREE_STATUS.HOLD_SYNC n = 0 := by
  rw [State.syncStopes_eq]
  refine State.rd_foldl_syncStope_hold _ ?_
  rw [or_iff_not_imp_right]
  intro hhold
  have hstate : s.stopeState n = 3 := of_decide_eq_true huse
  exact List.mem_filter.2 ⟨List.mem_range.2 hn, by simp [State.syncDue, State.on, hhold, hstate, hsrc, hsw]⟩

/-! ### Active phases -/

/-- What the stope ports present and what is due, in the first phase of a slot of a stope. -/
def State.presentDue (s : State) : State :=
  s.activeStopes.foldl (fun t n =>
    if s.rd ST_TREE_STATUS.LOCAL_PHASE n = 0 then
      (t.updStope n (presentPort (s.rd ST_TREE_STATUS.LOCAL_CTX n))).executeDue n else t) s

/-- What the pipeline registers of a stope hold after an edge before which the part is in state `t`. -/
def State.edgeRegs (s t : State) (n : Nat) (x : Stope) : Stope :=
  { x with regsBefore := (t.stope n).regs, regs := t.nextRegs n (s.rd ST_TREE_STATUS.LOCAL_CTX n) }

/-- The pipeline registers of every active stope capture at once, from the values in `t`. -/
def State.captureRegs (s t : State) : State := s.activeStopes.foldl (fun u n => u.updStope n (s.edgeRegs t n)) t

/-- The stopes and their dividers after the edge that ends a phase. -/
def State.phaseEdge (s : State) : State :=
  let t := s.activeStopes.foldl State.dividerStep (s.captureRegs s.presentDue)
  if (s.winder.phase + 1) % s.depthK = 0 then t else s.activeStopes.foldl State.slotCapture t

theorem exec_activePhase_running (hin : s.winder.inStroke = true) (hh : s.halted = false) (hf : s.winder.phase < s.foldF * s.depthK)
    (hslot : s.winder.phase < (s.winder.slots + 1) * s.depthK)
    (hheld : s.winder.phase % s.depthK = 0 → s.winder.phase ≠ 0 → s.slotHeld (s.winder.phase / s.depthK) = false) :
    exec .activePhase s = .next
      (((s.phaseEdge.countWrap WD_PHASES.COUNT).drawn).wd (fun w => { w with phase := s.winder.phase + 1 })).endPulses := by
  have hgo : ¬(!s.winder.inStroke || s.halted || decide (s.foldF * s.depthK ≤ s.winder.phase)
      || decide ((s.winder.slots + 1) * s.depthK ≤ s.winder.phase)
      || (decide (s.winder.phase % s.depthK = 0) && decide (s.winder.phase ≠ 0) && s.slotHeld (s.winder.phase / s.depthK))) = true := by
    simpa [hin, hh, hf, hslot] using hheld
  rw [exec_activePhase, execActivePhase]
  exact congrArg Host.Outcome.next (if_neg hgo)

/-- Updates of the stopes of a list, each by its own function, act on these alone. -/
theorem State.stope_foldl_updStope (g : Nat → Stope → Stope) {l : List Nat} (hl : l.Nodup) (t : State) (m : Nat) :
    (l.foldl (fun u n => u.updStope n (g n)) t).stope m = if m ∈ l then g m (t.stope m) else t.stope m := by
  induction l generalizing t with
  | nil => rfl
  | cons n l ih =>
    obtain ⟨hn, hl⟩ := List.nodup_cons.1 hl
    rw [List.foldl_cons, ih hl]
    by_cases hm : m = n
    · subst m
      rw [if_neg hn, if_pos (List.mem_cons_self ..), State.stope_updStope_same]
    · rw [State.updStope, State.stope_setStope_ne _ hm]
      simp [hm]

/-- A change of the hidden states of stopes alone. -/
def StopesOnly (s t : State) : Prop := { t with stopes := s.stopes } = s

/-- What does not read the stopes is kept. -/
theorem StopesOnly.keeps {α : Type} (h : StopesOnly s t) (g : State → α)
    (hg : ∀ x l, g { x with stopes := l } = g x) : g t = g s :=
  (hg t s.stopes).symm.trans (congrArg g h)

/-- A change of stopes and then one of registers leave the rest. -/
theorem StopesOnly.then_regsOnly {u : State} (h : StopesOnly s t) (hr : RegsOnly t u) :
    { u with regs := s.regs, stopes := s.stopes } = s :=
  (congrArg (fun x : State => { x with regs := s.regs, stopes := s.stopes }) hr).trans
    (congrArg (fun x : State => { x with regs := s.regs }) h)

theorem StopesOnly.foldl_updStope (h : StopesOnly s t) (g : Nat → Stope → Stope) (l : List Nat) :
    StopesOnly s (l.foldl (fun u n => u.updStope n (g n)) t) := by
  induction l generalizing t with
  | nil => exact h
  | cons n l ih => exact ih (t := t.updStope n (g n)) h

/-- The registers of an active stope are captured, and of no other. -/
theorem State.captureRegs_stope (s t : State) (m : Nat) :
    (s.captureRegs t).stope m = if m ∈ s.activeStopes then s.edgeRegs t m (t.stope m) else t.stope m :=
  State.stope_foldl_updStope (s.edgeRegs t) s.nodup_activeStopes t m

theorem State.captureRegs_stopesOnly (s t : State) : StopesOnly t (s.captureRegs t) :=
  StopesOnly.foldl_updStope (s := t) rfl (s.edgeRegs t) s.activeStopes

theorem State.rd_captureRegs (s t : State) (f : Fld) (u j : Nat) : (s.captureRegs t).rd f u j = t.rd f u j :=
  (s.captureRegs_stopesOnly t).keeps (fun x => x.rd f u j) fun _ _ => rfl

/-- A step of its divider concerns the stope's phase and slot alone. -/
theorem State.dividerStep_regsKeptBut (s : State) (n : Nat) :
    s.regsKeptBut (s.dividerStep n) [ST_TREE_STATUS.LOCAL_PHASE.key n, ST_TREE_STATUS.LOCAL_CTX.key n] := by
  unfold State.dividerStep
  extract_lets p c
  split
  · exact State.regsKeptBut.refl.wr (by simp)
  · exact (State.regsKeptBut.refl.wr (by simp)).wr (by simp)

theorem RegsOnly.dividerStep (h : RegsOnly s t) (n : Nat) : RegsOnly s (t.dividerStep n) := by
  unfold State.dividerStep
  extract_lets p c
  split
  · exact h.wr ..
  · exact (h.wr ..).wr ..

/-- Steps of dividers leave any field that is not a divider's. -/
theorem State.rd_foldl_dividerStep_other {f : Fld} (hp : f.id ≠ ST_TREE_STATUS.LOCAL_PHASE.id) (hc : f.id ≠ ST_TREE_STATUS.LOCAL_CTX.id)
    (l : List Nat) (t : State) (u j : Nat) : (l.foldl State.dividerStep t).rd f u j = t.rd f u j := by
  induction l generalizing t with
  | nil => rfl
  | cons n l ih => exact (ih _).trans (t.dividerStep_regsKeptBut n f u j (by simp [Fld.key, hp, hc]))

/-- Steps of other stopes' dividers leave a stope's. -/
theorem State.rd_foldl_dividerStep_notMem {l : List Nat} (hn : n ∉ l) (f : Fld) (t : State) (j : Nat) :
    (l.foldl State.dividerStep t).rd f n j = t.rd f n j := by
  induction l generalizing t with
  | nil => rfl
  | cons m l ih =>
    obtain ⟨hm, hn⟩ := not_or.1 (List.mem_cons.not.1 hn)
    exact (ih hn _).trans (t.dividerStep_regsKeptBut m f n j (by simp [Fld.key, hm]))

/-- Dividers at one phase before the last of the slot all stand at the next. -/
theorem State.rd_foldl_dividerStep_phase {l : List Nat} (hl : l.Nodup) {q : Nat} (hq : q + 1 < t.depthK) (hk : t.depthK ≤ 16)
    (h : ∀ n ∈ l, t.rd ST_TREE_STATUS.LOCAL_PHASE n = q) :
    ∀ n ∈ l, (l.foldl State.dividerStep t).rd ST_TREE_STATUS.LOCAL_PHASE n = q + 1 := by
  induction l generalizing t with
  | nil => exact fun n hn => absurd hn (List.not_mem_nil)
  | cons m l ih =>
    obtain ⟨hm, hl⟩ := List.nodup_cons.1 hl
    obtain ⟨hphase, h⟩ := List.forall_mem_cons.1 h
    have hstep : t.dividerStep m = t.wr ST_TREE_STATUS.LOCAL_PHASE (q + 1) m := hphase ▸ if_pos (hphase.symm ▸ hq)
    have hdepth : (t.dividerStep m).depthK = t.depthK := hstep ▸ State.rd_wr_other t (by decide)
    rw [List.foldl_cons, List.forall_mem_cons]
    constructor
    · rw [State.rd_foldl_dividerStep_notMem hm, hstep]
      exact State.rd_wr_fit (lt_of_lt_of_le hq hk)
    · refine ih hl (hdepth.symm ▸ hq) (hdepth.symm ▸ hk) (fun n hn => ?_)
      have hne : n ≠ m := fun e => hm (e ▸ hn)
      exact (t.dividerStep_regsKeptBut m _ n 0 (by simp [Fld.key, hne])).trans (h n hn)

theorem State.slotCapture_inside (h : s.rd ST_TREE_STATUS.LOCAL_PHASE n ≠ 0) : s.slotCapture n = s := by
  simp [State.slotCapture, State.dividerSlot, h]

/-- A fold whose function does nothing on the list's entries. -/
theorem foldl_eq_self {α β : Type} {f : β → α → β} {l : List α} {b : β} (h : ∀ a ∈ l, f b a = b) : l.foldl f b = b := by
  induction l with
  | nil => rfl
  | cons a l ih =>
    obtain ⟨ha, h⟩ := List.forall_mem_cons.1 h
    rw [List.foldl_cons, ha, ih h]

/-- An edge at which the active stopes capture and their dividers step, and nothing else happens. -/
def State.plainEdge (s : State) : State := s.activeStopes.foldl State.dividerStep (s.captureRegs s)

theorem State.plainEdge_regsOnly (s : State) : RegsOnly (s.captureRegs s) s.plainEdge :=
  RegsOnly.foldl .refl (fun _ n h => h.dividerStep n) _

theorem State.plainEdge_stope (s : State) (m : Nat) :
    s.plainEdge.stope m = if m ∈ s.activeStopes then s.edgeRegs s m (s.stope m) else s.stope m :=
  (s.plainEdge_regsOnly.keeps (State.stope · m) fun _ _ => rfl).trans (s.captureRegs_stope s m)

theorem State.rd_plainEdge_other {f : Fld} (hp : f.id ≠ ST_TREE_STATUS.LOCAL_PHASE.id) (hc : f.id ≠ ST_TREE_STATUS.LOCAL_CTX.id)
    (s : State) (u j : Nat) : s.plainEdge.rd f u j = s.rd f u j := by
  rw [State.plainEdge, State.rd_foldl_dividerStep_other hp hc, State.rd_captureRegs]

theorem State.plainEdge_rest (s : State) : { s.plainEdge with regs := s.regs, stopes := s.stopes } = s :=
  (s.captureRegs_stopesOnly s).then_regsOnly s.plainEdge_regsOnly

theorem State.plainEdge_winder (s : State) : s.plainEdge.winder = s.winder :=
  (s.plainEdge_regsOnly.keeps State.winder fun _ _ => rfl).trans ((s.captureRegs_stopesOnly s).keeps State.winder fun _ _ => rfl)

theorem State.plainEdge_clk (s : State) : s.plainEdge.clk = s.clk :=
  (s.plainEdge_regsOnly.keeps State.clk fun _ _ => rfl).trans ((s.captureRegs_stopesOnly s).keeps State.clk fun _ _ => rfl)

/-- In a phase that begins no slot, every divider in step with the Winder, nothing is presented or executed and no slot ends. -/
theorem State.phaseEdge_inside {q : Nat} (hq : s.winder.phase % s.depthK = q) (h0 : q ≠ 0) (hpos : 0 < s.depthK) (hk : s.depthK ≤ 16)
    (h : ∀ n ∈ s.activeStopes, s.rd ST_TREE_STATUS.LOCAL_PHASE n = q) :
    s.phaseEdge = s.plainEdge := by
  have hpresent : s.presentDue = s := foldl_eq_self fun n hn => if_neg (by rw [h n hn]; exact h0)
  have hdepth : (s.captureRegs s).depthK = s.depthK := s.rd_captureRegs s CF_LOADED.K 0 0
  rw [State.phaseEdge, hpresent]
  split
  · rfl
  · rename_i hlast
    have hlt : q + 1 < s.depthK := by
      refine lt_of_le_of_ne (hq ▸ Nat.mod_lt _ hpos) fun e => hlast ?_
      rw [← Nat.mod_add_mod, hq, e, Nat.mod_self]
    refine foldl_eq_self fun n hn => State.slotCapture_inside ?_
    rw [State.rd_foldl_dividerStep_phase s.nodup_activeStopes (hdepth.symm ▸ hlt) (hdepth.symm ▸ hk)
      (fun n hn => (s.rd_captureRegs s _ n 0).trans (h n hn)) n hn]
    exact Nat.succ_ne_zero q

/-! ### The end of a slot -/

theorem State.respond_stope (s : State) (target src tag status data : Nat) (poison posted : Bool) (m : Nat) :
    (s.respond target src tag status data poison posted).stope m = s.stope m := by
  unfold State.respond
  split_ifs <;> rfl

/-- The answer of a target access changes the target registers of its stope alone (07 R561). -/
theorem State.answerTarget_stope (s : State) (n status data : Nat) :
    ((s.answerTarget n status data).stope n).ports = (s.stope n).ports ∧
      ∀ m, m ≠ n → (s.answerTarget n status data).stope m = s.stope m := by
  unfold State.answerTarget
  split
  · refine ⟨?_, fun m hm => ?_⟩
    · rw [State.respond_stope, State.stope_updStope_same]
    · rw [State.respond_stope]
      exact State.stope_setStope_ne _ hm _
  · exact ⟨rfl, fun _ _ => rfl⟩

theorem State.targetAnswer_stope (s : State) (n c : Nat) (e : EvalEnv) :
    ((s.targetAnswer n c e).stope n).ports = (s.stope n).ports ∧ ∀ m, m ≠ n → (s.targetAnswer n c e).stope m = s.stope m := by
  unfold State.targetAnswer
  extract_lets x
  split
  · split
    · exact s.answerTarget_stope ..
    · exact ⟨rfl, fun _ _ => rfl⟩
  · exact ⟨rfl, fun _ _ => rfl⟩

/-- Ports capture requests; what waits to load is not theirs. -/
theorem capturePorts_loading (e : EvalEnv) (x : Stope) : (capturePorts e x).ports.loading = x.ports.loading := by
  unfold capturePorts
  induction e.st.cfg.ports generalizing x with
  | nil => rfl
  | cons p l ih =>
    rw [List.foldl_cons, ih]
    split_ifs <;> rfl

theorem State.stope_foldl_updPin (g : Nat × Nat → Pin → Pin) (l : List (Nat × Nat)) (t : State) (m : Nat) :
    (l.foldl (fun t p => t.updPin p.1 p.2 (g p)) t).stope m = t.stope m := by
  induction l generalizing t with
  | nil => rfl
  | cons p l ih => exact ih _

/-- The end of a slot in a stope: every result that waited has loaded, and the other stopes are as before. -/
theorem State.slotEndStope_stope (s : State) (f c n : Nat) :
    ((s.slotEndStope f c n).stope n).ports.loading = [] ∧ ∀ m, m ≠ n → (s.slotEndStope f c n).stope m = s.stope m := by
  unfold State.slotEndStope
  extract_lets x e cells ports flags taps y stoped pinned
  have hload : y.ports.loading = [] := by
    have hports : taps.ports.loading = [] := capturePorts_loading e (loadResults cells)
    unfold y
    split_ifs
    · exact hports
    · exact hports
  have hstope : ∀ m, pinned.stope m = (s.setStope n y).stope m := by
    unfold pinned
    split_ifs
    · exact State.stope_foldl_updPin _ _ _
    · exact fun _ => rfl
  obtain ⟨hsame, hother⟩ := pinned.targetAnswer_stope n c e
  refine ⟨?_, fun m hm => ?_⟩
  · rw [hsame, hstope, State.stope_setStope_same, hload]
  · rw [hother m hm, hstope, State.stope_setStope_ne _ hm]

theorem State.slotCapture_stope_ne (s : State) (h : m ≠ n) : (s.slotCapture n).stope m = s.stope m := by
  unfold State.slotCapture
  split
  · exact (s.slotEndStope_stope ..).2 m h
  · rfl

/-- At the end of its slot a stope's results have loaded. -/
theorem State.slotCapture_loading (h : s.rd ST_TREE_STATUS.LOCAL_PHASE n = 0) : ((s.slotCapture n).stope n).ports.loading = [] := by
  rw [State.slotCapture, State.dividerSlot, if_pos h]
  exact (s.slotEndStope_stope ..).1

/-- A capture writes no register. -/
theorem State.rd_slotCapture (s : State) (n : Nat) (f : Fld) (u j : Nat) : (s.slotCapture n).rd f u j = s.rd f u j :=
  (State.slotCapture_moves (F := Foot.only [.pins, .events, .sent, .stopes]) (Sub.list rfl rfl) Moves.refl).rd_kept (by simp) u j

theorem State.stope_foldl_slotCapture_notMem {l : List Nat} (hm : m ∉ l) (t : State) :
    (l.foldl State.slotCapture t).stope m = t.stope m := by
  induction l generalizing t with
  | nil => rfl
  | cons n l ih =>
    obtain ⟨hn, hm⟩ := not_or.1 (List.mem_cons.not.1 hm)
    exact (ih hm _).trans (t.slotCapture_stope_ne hn)

theorem State.loading_foldl_slotCapture {l : List Nat} (hl : l.Nodup) {t : State} (h : ∀ n ∈ l, t.rd ST_TREE_STATUS.LOCAL_PHASE n = 0) :
    ∀ n ∈ l, ((l.foldl State.slotCapture t).stope n).ports.loading = [] := by
  induction l generalizing t with
  | nil => exact fun n hn => absurd hn (List.not_mem_nil)
  | cons m l ih =>
    obtain ⟨hm, hl⟩ := List.nodup_cons.1 hl
    obtain ⟨hphase, h⟩ := List.forall_mem_cons.1 h
    rw [List.foldl_cons, List.forall_mem_cons]
    constructor
    · rw [State.stope_foldl_slotCapture_notMem hm]
      exact State.slotCapture_loading hphase
    · exact ih hl fun n hn => (t.rd_slotCapture ..).trans (h n hn)

theorem exec_slotEnd_due (h : s.slotEndDue = true) : exec .slotEnd s = .next s.endSlot := by
  rw [exec_slotEnd, execSlotEnd, if_pos h]

theorem State.endSlot_slots (s : State) : s.endSlot.winder.slots = s.winder.slots + 1 := by
  rw [State.endSlot, State.wd_winder]

theorem State.endSlot_stope (s : State) (m : Nat) : s.endSlot.stope m = (s.activeStopes.foldl State.slotCapture s).stope m := by
  rw [State.endSlot, State.stope, State.wd_stopes, State.drawn_stopes, State.stope]

/-! ### The boundary -/

/-- The tally has risen and the stroke has ended; what its boundary does beyond that follows. -/
def State.boundaryRisen (s : State) : State :=
  let u := s.activeStopes.foldl (fun u n =>
    if u.atBoundary n then (u.updStope n (commitUser (s.edgeVector s.tally))).drivePins n else u) s
  (u.wr WD_TALLY.TALLY (s.tally + 1)).wd (fun w => { w with inStroke := false, phase := 0, slots := 0 })

/-- What the boundary that ends stroke `s.tally` does once the tally has risen. -/
def State.boundaryActs (s : State) : State :=
  (((s.activeStopes.foldl State.slipCheck s.boundaryRisen).triggers s.tally).buildFrames s.tally)
    |>.replayEnd.commitBins.syncStopes.grantPoint.settle

theorem exec_strokeBoundary_due (hin : s.winder.inStroke = true) (hh : s.halted = false) (hs : s.winder.slots = s.rd CF_LOADED.F)
    (hf : s.rd CF_LOADED.F ≠ 0) : exec .strokeBoundary s = .next s.boundaryActs := by
  have hnot : (s.slotEndDue && decide (s.winder.slots + 1 = s.foldF)) = false := by simp [State.slotEndDue, State.foldF, hs]
  have hgo : (s.halted || !s.winder.inStroke || decide (s.winder.slots ≠ s.foldF) || decide (s.foldF = 0)) = false := by
    simp [State.foldF, hin, hh, hs, hf]
  rw [exec_strokeBoundary, execStrokeBoundary]
  simp only [hnot, Bool.false_eq_true, if_false, hgo]
  rfl

theorem State.boundaryRisen_place (h : s.rd WD_TALLY.TALLY + 1 < 2 ^ 64) :
    s.boundaryRisen.place = (s.rd WD_TALLY.TALLY + 1, false, 0, 0) := by
  rw [State.place, State.boundaryRisen, State.rd_wd, State.wd_winder, State.tally, State.rd_wr_fit h]

/-- Nothing that a boundary does after the tally has risen moves the tally or begins a stroke. -/
theorem State.boundaryActs_place (s : State) : SamePlace s.boundaryRisen s.boundaryActs :=
  (((SamePlace.refl.foldl (fun _ n h => h.slipCheck n) _).triggers _).buildFrames _).replayEnd.commitBins.syncStopes.grantPoint.settle

/-! ### Hold phases -/

/-- A hold phase that counts in `f`: single-phase requests are served and pulses end. -/
def State.heldPhase (s : State) (f : Fld) : State :=
  (s.endPulses.wd (fun w => { w with holdReq := w.holdReq.filter (fun q => !q.2) })).countWrap f

/-- A SAMPLE that is due, or no STOP that is: the boundary leaves the run as it is. -/
theorem State.settle_running (h : s.sampleDue.isSome = true ∨ s.stopDue = none) : s.settle = s := by
  unfold State.settle
  rcases h with h | h
  · rw [if_neg (by simp [Option.isNone_iff_eq_none, Option.isSome_iff_ne_none.1 h])]
  · rw [h]
    exact ite_self s

theorem exec_holdPhase_settled (hrun : s.rd WD_STATUS.STATE = 2) (hh : s.halted = false) (hs : s.settle = s)
    (hin : s.winder.inStroke = false) : exec .holdPhase s = .next
      (if s.sampleDue.isSome then s.heldPhase WD_HOLDS_SAMPLE.COUNT
       else if s.horizon ≤ s.tally then s.heldPhase WD_HOLDS_GRANT.COUNT
       else if s.portWait s.tally ≠ 0 then s.heldPhase WD_HOLDS_FRAME.COUNT
       else if s.slotHeld 0 then
         ((s.endPulses.wd (fun w => { w with holdReq := w.holdReq.filter (fun q => !q.2) })).countWrap WD_HOLDS_STOPE.COUNT).countStalls
       else s) := by
  have hstate : s.wdState = 2 := hrun
  simp [execHoldPhase, hs, hstate, hh, hin, State.heldPhase]

/-! ### The obligation -/

/-- Settles O15: each command is one equation in its case. The boundary's clause is that nothing after the rise of the tally moves it again
(`State.boundaryActs_place`). -/
theorem strokes : Obligations.Strokes := by
  intro s
  refine ⟨fun h => ?shut, fun hst hin hsmp hport hlt hheld hev => ?start, fun p k hp hk hin hh hf hslot h0 h16 hstep => ?inside,
    fun hin hh hf hslot h0 hheld => ?begins, fun hin hh hp hslots hphase => ?slotEnd, fun hin hh hs hf htally => ?boundary,
    fun f hst hin hh h => ?hold⟩
  case shut =>
    refine exec_strokeStart_shut (Bool.eq_false_iff.2 fun hopen => ?_)
    obtain ⟨hst, hin, -, hport, hlt, -⟩ := s.gateOpen_iff.1 hopen
    rcases h with h | h | h | h
    · exact h hst
    · simp [hin] at h
    · exact Nat.not_lt.2 h hlt
    · exact h hport
  case start =>
    refine ⟨_, exec_strokeStart_open (s.gateOpen_iff.2 ⟨hst, hin, hsmp, hport, hlt, hheld, hev⟩), ?_, fun n hn huse hsrc hsw => ?_⟩
    · rw [State.wd_winder, State.drawn_winder, s.strokeLoads_winder]
    · rw [State.rd_wd, State.rd_drawn, s.strokeLoads_moves.rd_kept (by decide), State.rd_syncStopes_hold hn huse hsrc hsw]
  case inside =>
    subst hp hk
    have hpos : 0 < s.depthK := Nat.pos_of_ne_zero fun e => by simp [show s.rd CF_LOADED.K = 0 from e] at hf
    have hsync : ∀ n ∈ s.activeStopes, s.rd ST_TREE_STATUS.LOCAL_PHASE n = s.winder.phase % s.rd CF_LOADED.K ∧
        s.rd ST_TREE_STATUS.LOCAL_CTX n = s.winder.phase / s.rd CF_LOADED.K := by simpa using hstep
    have hrun := exec_activePhase_running hin hh hf hslot (fun h => absurd h h0)
    rw [State.phaseEdge_inside rfl h0 hpos h16 fun n hn => (hsync n hn).1] at hrun
    have hwinder := s.plainEdge_winder
    have hclk := s.plainEdge_clk
    have hstope := s.plainEdge_stope
    have hrest := s.plainEdge_rest
    have hcount : s.plainEdge.rd WD_PHASES.COUNT = s.rd WD_PHASES.COUNT := State.rd_plainEdge_other (by decide) (by decide) ..
    refine ⟨_, hrun, ?_⟩
    generalize s.plainEdge = e at hwinder hclk hcount hstope hrest
    refine ⟨?_, ?_, fun n hn => ?_, fun n hn => ?_, ?_, ?_⟩
    · exact congrArg (fun w : Winder => { w with phase := s.winder.phase + 1 }) hwinder
    · exact (State.rd_countWrap_same ..).trans (hcount ▸ rfl)
    · refine (hstope n).trans ((if_pos hn).trans ?_)
      rw [State.edgeRegs, (hsync n hn).2]
    · exact (hstope n).trans (if_neg hn)
    · exact congrArg (fun c : Clocks => { c with pulses := [] }) hclk
    · exact congrArg (fun x : State => { x with winder := s.winder, clk := s.clk, freeCount := s.freeCount }) hrest
  case begins => exact ⟨_, exec_activePhase_running hin hh hf hslot (fun _ => hheld), rfl⟩
  case slotEnd =>
    have hdue : s.slotEndDue = true := by simp [State.slotEndDue, State.depthK, State.foldF, hin, hh, hp, hslots]
    have hzero : ∀ n ∈ s.activeStopes, s.rd ST_TREE_STATUS.LOCAL_PHASE n = 0 := by simpa using hphase
    refine ⟨s.endSlot, exec_slotEnd_due hdue, s.endSlot_slots, fun n hn => ?_, fun n hn => ?_⟩
    · rw [s.endSlot_stope, State.loading_foldl_slotCapture s.nodup_activeStopes hzero n hn]
    · rw [s.endSlot_stope, State.stope_foldl_slotCapture_notMem hn]
  case boundary =>
    have hplace := s.boundaryActs_place.trans (State.boundaryRisen_place htally)
    simp only [State.place, Prod.mk.injEq] at hplace
    obtain ⟨hrise, hno, hphase, hslots⟩ := hplace
    exact ⟨_, exec_strokeBoundary_due hin hh hs hf, hrise, hno, hphase, hslots⟩
  case hold =>
    have hwid : f.wid = 64 := by
      obtain ⟨-, rfl⟩ | ⟨-, -, -, rfl⟩ | ⟨-, -, -, -, rfl⟩ := h <;> rfl
    have key : exec .holdPhase s = .next (s.heldPhase f) := by
      rcases h with ⟨h, rfl⟩ | ⟨hsmp, hstop, hlt, rfl⟩ | ⟨hsmp, hstop, hlt, hport, rfl⟩
      · exact (exec_holdPhase_settled hst hh (State.settle_running (.inl h)) hin).trans (congrArg _ (if_pos h))
      · refine (exec_holdPhase_settled hst hh (State.settle_running (.inr hstop)) hin).trans (congrArg _ ?_)
        rw [hsmp]
        exact if_pos hlt
      · refine (exec_holdPhase_settled hst hh (State.settle_running (.inr hstop)) hin).trans (congrArg _ ?_)
        rw [hsmp]
        exact (if_neg (Nat.not_le.2 hlt)).trans (if_pos hport)
    refine ⟨_, key, ?_, State.regsKeptBut.countWrap (by simp) (State.regsKeptBut.refl.hidden rfl), rfl, rfl, rfl⟩
    rw [State.heldPhase, State.rd_countWrap_same, hwid]
    rfl

end Sys2Proof.Machine
end

section
/-! PROOF. A block time without a command (O2; 04 R109, 09 R237, 14 R373). -/

namespace Sys2Proof.Machine

variable {s t : State}

theorem step_pending_nil (h : s.pending = []) : step s = .next s.idleTime := by
  rw [step, h]

/-- While the part's clocks do not run, a block time ends the STEP pulses and nothing else. -/
theorem State.idleTime_of_not_rootRuns (h : s.clk.stage ≠ .running ∨ s.clk.warmHold = true) : s.idleTime = s.endPulses := by
  refine if_neg ?_
  rcases h with h | h <;> simp [State.rootRuns, h]

/-- With no transmitter ON no lane sends. -/
theorem State.lanesIdle_of_all_off (h : ∀ l < 128, s.rd XC_LANE_STATUS.TX_STATE (l / 8) (l % 8) ≠ 1) : s.lanesIdle = s :=
  foldl_eq_self fun l hl => if_pos (h l (List.mem_range.1 hl))

/-- With no access waiting no controller performs one. -/
theorem State.dramIdle_of_queue_nil (h : s.dram.queue = []) : s.dramIdle = s :=
  foldl_eq_self fun c _ => by rw [State.schedDrain, h, List.filter_nil, List.foldl_nil]

theorem State.idleTime_of_quiet (hq : s.dram.queue = []) (htx : ∀ l < 128, s.rd XC_LANE_STATUS.TX_STATE (l / 8) (l % 8) ≠ 1) :
    s.idleTime = s.endPulses := by
  have hlanes : s.endPulses.lanesIdle = s.endPulses := State.lanesIdle_of_all_off (s := s.endPulses) htx
  have hdram : s.endPulses.dramIdle = s.endPulses := State.dramIdle_of_queue_nil (s := s.endPulses) hq
  rw [State.idleTime, hlanes, hdram, ite_self]

/-- The parts that the lanes' idle blocks, the DRAM accesses that waited and the end of the STEP pulses reach. -/
def idleParts : List Part :=
  [.regs .st, .regs .sb, .regs .wd, .regs .cr, .regs .dc, .regs .en, .regs .lp, .clk, .lanes, .sampler, .dram, .crypto, .scrubs, .pins,
    .events, .sent, .stopes]

/-- A block time leaves the fabric's memories, the frames and every part but those of `idleParts`. -/
theorem State.idleTime_moves_only (s : State) : Moves ⟨true, false, false, true, true, partsMask idleParts⟩ s s.idleTime :=
  State.idleTime_moves rfl rfl rfl (Sub.list rfl rfl) Moves.refl

/-- Settles O2: a block time is the end of the pulses where lanes and controllers have nothing to do, and what it reaches is what its parts
reach. -/
theorem emptyQueueIdles : Obligations.EmptyQueueIdles := by
  intro s hs
  have hmoves := s.idleTime_moves_only
  rw [step_pending_nil hs]
  refine ⟨fun h => ?stopped, fun hq htx => ?quiet, s.idleTime, rfl, hmoves.pending.trans hs, (hmoves.fabMem rfl).1, (hmoves.frames rfl).1,
    fun p hp => hmoves.parts p (partsMask_not hp)⟩
  case stopped => exact congrArg _ (State.idleTime_of_not_rootRuns h)
  case quiet => exact congrArg _ (State.idleTime_of_quiet hq (by simpa using htx))

end Sys2Proof.Machine
end

section
/-! PROOF. Which register fields the accesses of a stope's memories write (05 R124 to R139). -/

namespace Sys2Proof.Machine

variable {s t : State} {g : Fld}

/-- The fields of a stope that an access of its memories may write: collisions, memory errors and the spoil flags they raise, an armed
injection, journals, and the status of the bin queues. -/
def accessFields : List Fld :=
  [ST_MEM_COLL.COLL, ST_MEM_COLL.COLL_COUNT, ST_MEM_COLL.COLL_BIN, ST_MEM_COLL.COLL_ADDR,
    ST_MEM_ECC.CE_COUNT, ST_MEM_ECC.UE_COUNT, ST_MEM_ECC.LAST_MEM, ST_MEM_ECC.LAST_UE, ST_MEM_ECC.LAST_UNIT, ST_MEM_ECC.LAST_SRC,
    ST_SPOIL.SPOIL, ST_SPOIL.C_MEMUE, ST_SPOIL.SPOIL_COUNT, ST_SPOIL_TALLY.FIRST, ST_SPOIL_BOUND.BOUND,
    ST_MEM_CTRL.INJ_ARM, ST_MEM_JRNL.MAX_FILL,
    ST_BQ_STATUS.OVERRUN, ST_BQ_STATUS.UNDERRUN, ST_BQ_STATUS.IRQ_ARMED, ST_BQ_STATUS.IRQ_PEND]

/-- No access of a stope's memories writes the field: it is none of `accessFields`, and in no block that a spoil flag reaches. -/
def OffAccess (g : Fld) : Prop := g.blk ∉ [.sb, .wd, .cr] ∧ ∀ f ∈ accessFields, g.id ≠ f.id

/-- The field reads in `t` as in `s`, of every unit and index. -/
def Reads (g : Fld) (s t : State) : Prop := (fun u j => t.rd g u j) = fun u j => s.rd g u j

namespace Reads

theorem refl : Reads g s s := rfl

theorem of_forall (h : ∀ u j, t.rd g u j = s.rd g u j) : Reads g s t := funext₂ h

theorem rd (h : Reads g s t) (u j : Nat) : t.rd g u j = s.rd g u j := congrFun₂ h u j

/-- Either branch of a choice. -/
theorem ite {p : Prop} [Decidable p] {a b : State} (ha : Reads g s a) (hb : Reads g s b) : Reads g s (if p then a else b) := by
  split
  · exact ha
  · exact hb

theorem foldl {α : Type} {f : State → α → State} (h : Reads g s t) (k : ∀ t a, Reads g s t → Reads g s (f t a)) (l : List α) :
    Reads g s (l.foldl f t) := by
  induction l generalizing t with
  | nil => exact h
  | cons a l ih => exact ih (k t a h)

/-- A fold that carries more beside the state. -/
theorem foldlSnd {α β : Type} {f : β × State → α → β × State} {x : β × State} (h : Reads g s x.2)
    (k : ∀ y a, Reads g s y.2 → Reads g s (f y a).2) (l : List α) : Reads g s (l.foldl f x).2 := by
  induction l generalizing x with
  | nil => exact h
  | cons a l ih => exact ih (k x a h)

theorem updStope (h : Reads g s t) (n : Nat) (f : Stope → Stope) : Reads g s (t.updStope n f) := h

theorem emit (h : Reads g s t) (e : Emission) : Reads g s (t.emit e) := h

theorem post (h : Reads g s t) (src code sev arg : Nat) : Reads g s (t.post src code sev arg) := h

theorem loadLater (h : Reads g s t) (n p c : Nat) (v : Option Nat) : Reads g s (t.loadLater n p c v) := by
  cases v with
  | none => exact h
  | some v => exact h.updStope ..

theorem notDue (h : Reads g s t) (n p c : Nat) : Reads g s (t.notDue n p c) := h

theorem setQueue (h : Reads g s t) (n b : Nat) (q : BinQueue) : Reads g s (t.setQueue n b q) := h

theorem putUnit (h : Reads g s t) (n m u v err : Nat) : Reads g s (t.putUnit n m u v err) := h

theorem binReport (h : Reads g s t) (n b : Nat) : Reads g s (t.binReport n b) := ite h h

theorem sliceExecute (h : Reads g s t) (n p c : Nat) : Reads g s (t.sliceExecute n p c) := by
  unfold State.sliceExecute
  extract_lets
  split
  · exact h.notDue ..
  · exact ((h.loadLater ..).notDue ..).updStope ..

section
variable (hg : OffAccess g)
include hg

theorem wr (h : Reads g s t) {f : Fld} (hf : f ∈ accessFields) (v u j : Nat) : Reads g s (t.wr f v u j) :=
  of_forall fun u' j' => (State.rd_wr_other t (hg.2 f hf)).trans (h.rd u' j')

/-- A spoil flag of the cause that an uncorrectable unit has; what follows it lies outside the stope (07 R195). -/
theorem raiseSpoil (h : Reads g s t) (n b : Nat) : Reads g s (t.raiseSpoil n ST_SPOIL.C_MEMUE b) := by
  unfold State.raiseSpoil
  extract_lets bounded flagged bits
  have hbounded : Reads g s bounded :=
    ite (ite (h.wr hg (by decide) ..) h) ((h.wr hg (by decide) ..).wr hg (by decide) ..)
  have hflagged : Reads g s flagged := ((hbounded.wr hg (by decide) ..).wr hg (by decide) ..).wr hg (by decide) ..
  have hmoves : Moves (Foot.only [.regs .sb, .regs .wd, .regs .cr, .msix, .winder, .sampler, .events, .sent]) flagged
      ((((flagged.putSpoilBit n true).post 6 0x0061 1 (n + 1024 * bits)).emit (.spoil n b)).spoilReport b) :=
    State.spoilReport_moves (Sub.list rfl rfl) (State.emit_moves rfl (State.post_moves (Sub.list rfl rfl)
      (State.putSpoilBit_moves (Sub.list rfl rfl) Moves.refl)))
  exact ite (of_forall fun u j => (hmoves.rd_kept (by simpa using hg.1) u j).trans (hflagged.rd u j)) h

theorem memError (h : Reads g s t) (n m u src : Nat) (ue : Bool) : Reads g s (t.memError n m u src ue) :=
  (((ite (h.wr hg (by decide) ..) (h.wr hg (by decide) ..) |>.wr hg (by decide) ..).wr hg (by decide) ..).wr hg (by decide) ..).wr hg
    (by decide) ..

theorem readUnit (h : Reads g s t) (n m u src : Nat) : Reads g s (t.readUnit n m u src).2.2 := by
  unfold State.readUnit
  extract_lets e v
  split_ifs
  · exact h
  · exact (h.memError hg ..).updStope ..
  · exact (h.memError hg ..).raiseSpoil hg ..

theorem writeUnit (h : Reads g s t) (n m u v : Nat) (ue : Bool) : Reads g s (t.writeUnit n m u v ue) :=
  ite (((h.updStope ..).putUnit ..).wr hg (by decide) ..) ((h.updStope ..).putUnit ..)

theorem journalPush (h : Reads g s t) (n m u old : Nat) (ue : Bool) : Reads g s (t.journalPush n m u old ue) :=
  ite (ite ((h.updStope ..).wr hg (by decide) ..) (h.updStope ..)) h

/-- A unit is read, its old contents may enter the journal, and the new contents are stored. -/
theorem rewriteUnit (h : Reads g s t) (n m u src v : Nat) (old : Nat) (ue ue' : Bool) :
    Reads g s ((((t.readUnit n m u src).2.2).journalPush n m u old ue).writeUnit n m u v ue') :=
  ((h.readUnit hg ..).journalPush hg ..).writeUnit hg ..

theorem binPair (h : Reads g s t) (n m u : Nat) (rs : List MemReq) : Reads g s (t.binPair n m u rs).2.2 := by
  unfold State.binPair
  dsimp only
  split_ifs
  · exact h.rewriteUnit hg ..
  · exact h.readUnit hg ..

theorem binRam (h : Reads g s t) (n m : Nat) (pr : List (Nat × MemReq)) : Reads g s (t.binRam n m pr) := by
  unfold State.binRam
  extract_lets rs units
  clear_value units rs
  refine ite h ?_
  generalize hacc : List.foldl _ _ units = acc
  have hread : Reads g s acc.2 := by
    rw [← hacc]
    refine foldlSnd h (fun y u hy => ?_) _
    exact hy.binPair hg ..
  refine foldl ?_ (fun _ _ h => (h.loadLater ..).notDue ..) _
  split
  · exact ite ((((hread.wr hg (by decide) ..).wr hg (by decide) ..).wr hg (by decide) ..).wr hg (by decide) ..) hread
  · exact hread

theorem sumpRam (h : Reads g s t) (n m p : Nat) (r : MemReq) : Reads g s (t.sumpRam n m p r) := by
  unfold State.sumpRam
  refine ite h (notDue (ite (loadLater ?_ ..) h) ..)
  exact ite (h.rewriteUnit hg ..) (h.readUnit hg ..)

theorem queuePush (h : Reads g s t) (n b w src : Nat) (last : Bool) : Reads g s (t.queuePush n b w src last) :=
  ((h.rewriteUnit hg ..).updStope ..).setQueue ..

theorem queuePop (h : Reads g s t) (n b src : Nat) : Reads g s (t.queuePop n b src).2 := (h.readUnit hg ..).setQueue ..

theorem binPush (h : Reads g s t) (n b p : Nat) (r : MemReq) : Reads g s (t.binPush n b p r) :=
  ite (h.notDue ..) (ite ((h.wr hg (by decide) ..).notDue ..) (ite h ((h.queuePush hg ..).notDue ..)))

theorem binPop (h : Reads g s t) (n b p : Nat) (r : MemReq) : Reads g s (t.binPop n b p r) :=
  ite (h.notDue ..) (ite (((h.wr hg (by decide) ..).loadLater ..).notDue ..)
    (((ite ((h.queuePop hg ..).binReport ..) (h.queuePop hg ..)).loadLater ..).notDue ..))

theorem levelCheck (h : Reads g s t) (n b old new : Nat) : Reads g s (t.levelCheck n b old new) := by
  have hfired := (h.wr hg (f := ST_BQ_STATUS.IRQ_ARMED) (by decide) 0 n b).wr hg (f := ST_BQ_STATUS.IRQ_PEND) (by decide) 1 n b
  exact ite (ite (ite ((hfired.updStope ..).emit _) hfired) h) (ite (h.wr hg (by decide) ..) h)

theorem binExecute (h : Reads g s t) (n b : Nat) : Reads g s (t.binExecute n b) := by
  unfold State.binExecute
  extract_lets x a bb mode popped pushed
  clear_value a bb mode
  have hpopped : Reads g s popped := by
    unfold popped
    split
    · exact ite (h.binPop hg ..) (h.notDue ..)
    · exact h
  have hpushed : Reads g s pushed := by
    unfold pushed
    split
    · exact ite (hpopped.binPop hg ..) (hpopped.binPush hg ..)
    · exact hpopped
  exact ite (h.binRam hg ..) (hpushed.levelCheck hg ..)

/-- The due requests of a stope write no field but those of an access. -/
theorem executeDue (h : Reads g s t) (n : Nat) : Reads g s (t.executeDue n) :=
  (h.foldl (fun _ b h => h.binExecute hg n b) _).foldl
    (fun _ _ h => ite h (ite (h.sumpRam hg ..) (h.sliceExecute ..))) _

end

end Reads

end Sys2Proof.Machine
end

section
/-! PROOF. The clock tree of a stope (O16; 04 R105, R107 to R110). -/

namespace Sys2Proof.Machine

variable {s t : State} {n src : Nat}

/-! ### Switches of the source -/

theorem exec_treeSrcWrite_refused (hn : n < 640)
    (h : 2 ≤ src ∨ s.rd ST_TREE_STATUS.SWITCHING n ≠ 0 ∨ s.stopeState n ≠ 2) :
    exec (.treeSrcWrite n src) s = .next (s.wr ST_TREE_STATUS.SRC_ERR 1 n) := by
  have hbad : 2 ≤ src ∨ s.on ST_TREE_STATUS.SWITCHING n = true ∨ s.stopeState n ≠ 2 := by simpa [State.on] using h
  exact (need_pos (decide_eq_true hn) _).trans (congrArg _ (if_pos hbad))

/-- The switch to a source has started, and the stope's clock runs for it. -/
def State.switchStarted (s : State) (n src : Nat) : State :=
  (((s.wr ST_TREE_CTRL.SRC src n).wr ST_TREE_STATUS.SWITCHING 1 n).updStope n (fun x => { x with switchTo := some src })).ungate 4 n

/-- A write of `SRC` that is not refused starts a switch where it names another source than the one in force. -/
theorem exec_treeSrcWrite_taken (hn : n < 640) (hsrc : src < 2) (hsw : s.rd ST_TREE_STATUS.SWITCHING n = 0) (hiso : s.stopeState n = 2) :
    exec (.treeSrcWrite n src) s = .next (if src = s.rd ST_TREE_STATUS.SRC_CUR n then s else s.switchStarted n src) := by
  have hgood : ¬(2 ≤ src ∨ s.on ST_TREE_STATUS.SWITCHING n = true ∨ s.stopeState n ≠ 2) := by simp [State.on, hsrc, hsw, hiso]
  exact (need_pos (decide_eq_true hn) _).trans (congrArg _ (if_neg hgood))

theorem State.rd_switchStarted_src (s : State) (n : Nat) (hsrc : src < 2) : (s.switchStarted n src).rd ST_TREE_CTRL.SRC n = src := by
  rw [State.switchStarted, State.rd_ungate_other (by decide), State.rd_updStope, State.rd_wr_other _ (by decide),
    State.rd_wr_fit (lt_trans hsrc (by decide))]

theorem State.rd_switchStarted_switching (s : State) (n src : Nat) : (s.switchStarted n src).rd ST_TREE_STATUS.SWITCHING n = 1 := by
  rw [State.switchStarted, State.rd_ungate_other (by decide), State.rd_updStope, State.rd_wr_fit (by decide)]

theorem State.switchStarted_stope (s : State) (n src : Nat) :
    (s.switchStarted n src).stope n = { s.stope n with switchTo := some src } :=
  State.stope_updStope_same ((s.wr ST_TREE_CTRL.SRC src n).wr ST_TREE_STATUS.SWITCHING 1 n) n (fun x => { x with switchTo := some src })

theorem State.regsKeptBut.ungate {ks : List Key} {c u : Nat} (hk : CK_GATE_STATUS.GATED.key ∈ ks) (h : s.regsKeptBut t ks) :
    s.regsKeptBut (t.ungate c u) ks := (h.putBit hk).hidden rfl

theorem State.switchStarted_regsKeptBut (s : State) (n src : Nat) : s.regsKeptBut (s.switchStarted n src)
    [ST_TREE_CTRL.SRC.key n, ST_TREE_STATUS.SWITCHING.key n, CK_GATE_STATUS.GATED.key] :=
  ((State.regsKeptBut.refl.wr (by simp)).wr (by simp)).updStope.ungate (by simp)

theorem exec_treeSwitchDone_switching (hn : n < 640) (h : (s.stope n).switchTo = some src) :
    exec (.treeSwitchDone n) s = .next (s.treeSwitched n src) := by
  rw [exec_treeSwitchDone, execTreeSwitchDone, h]
  exact need_pos (decide_eq_true hn) _

/-- The mux has been forced onto the new source: `HANG` is set, and captures wait where that source is STEP (04 R108). -/
def State.switchForced (s : State) (n src : Nat) : State :=
  let t := (s.treeSwitched n src).wr ST_TREE_STATUS.HANG 1 n
  if src = 0 then t else t.updStope n (fun x => { x with capturesOff := true })

theorem exec_treeSwitchHang_switching (hn : n < 640) (h : (s.stope n).switchTo = some src) :
    exec (.treeSwitchHang n) s = .next (s.switchForced n src) := by
  rw [exec_treeSwitchHang, execTreeSwitchHang, h]
  exact need_pos (decide_eq_true hn) _

/-- The new source is current and the switch has ended, before `HOLD_SYNC`. -/
def State.newSource (s : State) (n src : Nat) : State := (s.wr ST_TREE_STATUS.SRC_CUR src n).wr ST_TREE_STATUS.SWITCHING 0 n

theorem State.treeSwitched_eq (s : State) (n src : Nat) : s.treeSwitched n src =
    (if src = 0 then (s.newSource n src).wr ST_TREE_STATUS.HOLD_SYNC 1 n else s.newSource n src).updStope n
      (fun x => { x with switchTo := none }) := by
  unfold State.treeSwitched
  split <;> rfl

theorem State.treeSwitched_stope (s : State) (n src : Nat) : (s.treeSwitched n src).stope n = { s.stope n with switchTo := none } := by
  rw [State.treeSwitched_eq, State.stope_updStope_same]
  split <;> rfl

theorem State.rd_treeSwitched_other {f : Fld} (h : f.id ≠ ST_TREE_STATUS.HOLD_SYNC.id) (s : State) (n src u j : Nat) :
    (s.treeSwitched n src).rd f u j = (s.newSource n src).rd f u j := by
  rw [State.treeSwitched_eq, State.rd_updStope]
  split
  · exact State.rd_wr_other _ h
  · rfl

theorem State.rd_treeSwitched_srcCur (s : State) (n : Nat) (hsrc : src < 2) :
    (s.treeSwitched n src).rd ST_TREE_STATUS.SRC_CUR n = src := by
  rw [State.rd_treeSwitched_other (by decide), State.newSource, State.rd_wr_other _ (by decide),
    State.rd_wr_fit (lt_trans hsrc (by decide))]

theorem State.rd_treeSwitched_switching (s : State) (n src : Nat) : (s.treeSwitched n src).rd ST_TREE_STATUS.SWITCHING n = 0 := by
  rw [State.rd_treeSwitched_other (by decide), State.newSource, State.rd_wr_fit (by decide)]

/-- Back on PHASE, captures wait for the next device boundary (04 R110). -/
theorem State.rd_treeSwitched_holdSync (s : State) (n src : Nat) : (s.treeSwitched n src).rd ST_TREE_STATUS.HOLD_SYNC n =
    if src = 0 then 1 else s.rd ST_TREE_STATUS.HOLD_SYNC n := by
  rw [State.treeSwitched_eq, State.rd_updStope]
  split
  · exact State.rd_wr_fit (by decide)
  · rw [State.newSource, State.rd_wr_other _ (by decide), State.rd_wr_other _ (by decide)]

theorem State.treeSwitched_regsKeptBut (s : State) (n src : Nat) {ks : List Key}
    (hks : [ST_TREE_STATUS.SRC_CUR.key n, ST_TREE_STATUS.SWITCHING.key n, ST_TREE_STATUS.HOLD_SYNC.key n] ⊆ ks) :
    s.regsKeptBut (s.treeSwitched n src) ks := by
  have hnew : s.regsKeptBut (s.newSource n src) ks := (State.regsKeptBut.refl.wr (hks (by simp))).wr (hks (by simp))
  rw [State.treeSwitched_eq]
  refine State.regsKeptBut.updStope ?_
  split
  · exact hnew.wr (hks (by simp))
  · exact hnew

theorem State.treeSwitched_rest (s : State) (n src : Nat) : { s.treeSwitched n src with regs := s.regs, stopes := s.stopes } = s := by
  rw [State.treeSwitched_eq]
  split <;> rfl

/-- A forced switch sets the registers of one that ended, and `HANG`. -/
theorem State.switchForced_regs (s : State) (n src : Nat) :
    (s.switchForced n src).regs = ((s.treeSwitched n src).wr ST_TREE_STATUS.HANG 1 n).regs := by
  unfold State.switchForced
  split <;> rfl

theorem State.rd_switchForced_other {f : Fld} (h : f.id ≠ ST_TREE_STATUS.HANG.id) (s : State) (n src u j : Nat) :
    (s.switchForced n src).rd f u j = (s.treeSwitched n src).rd f u j :=
  (State.rd_of_regs (s.switchForced_regs n src) f u j).trans (State.rd_wr_other _ h)

theorem State.rd_switchForced_hang (s : State) (n src : Nat) : (s.switchForced n src).rd ST_TREE_STATUS.HANG n = 1 :=
  (State.rd_of_regs (s.switchForced_regs n src) ..).trans (State.rd_wr_fit (by decide))

theorem State.switchForced_switchTo (s : State) (n src : Nat) : ((s.switchForced n src).stope n).switchTo = none := by
  have hswitched : ((s.treeSwitched n src).stope n).switchTo = none := by rw [State.treeSwitched_stope]
  unfold State.switchForced
  extract_lets t
  split
  · exact hswitched
  · rw [State.stope_updStope_same]
    exact hswitched

theorem State.switchForced_rest (s : State) (n src : Nat) : { s.switchForced n src with regs := s.regs, stopes := s.stopes } = s := by
  refine Eq.trans ?_ (s.treeSwitched_rest n src)
  unfold State.switchForced
  split <;> rfl

/-! ### Single phases -/

theorem exec_treeStep_false (hn : n < 640) : exec (.treeStep n false) s = .next s := need_pos (decide_eq_true hn) _

theorem exec_treeStep_refused (hn : n < 640)
    (h : s.rd ST_TREE_STATUS.SRC_CUR n ≠ 1 ∨ s.rd ST_TREE_STATUS.SWITCHING n ≠ 0 ∨ n ∈ s.clk.pulses) :
    exec (.treeStep n true) s = .next (s.wr ST_TREE_STATUS.STEP_ERR 1 n) := by
  have hbad : (decide (s.rd ST_TREE_STATUS.SRC_CUR n ≠ 1) || s.on ST_TREE_STATUS.SWITCHING n || s.clk.pulses.contains n) = true := by
    simpa [State.on, or_assoc] using h
  exact (need_pos (decide_eq_true hn) _).trans (congrArg _ (if_pos hbad))

/-- The pulse of the stope runs (DESIGN CHOICE, log entry 92). -/
def State.pulsing (s : State) (n : Nat) : State := { s with clk := { s.clk with pulses := s.clk.pulses ++ [n] } }

theorem State.mem_pulses_pulsing (s : State) (n : Nat) : n ∈ (s.pulsing n).clk.pulses := List.mem_append_right _ (List.mem_singleton_self n)

theorem exec_treeStep_taken (hn : n < 640) (hsrc : s.rd ST_TREE_STATUS.SRC_CUR n = 1) (hsw : s.rd ST_TREE_STATUS.SWITCHING n = 0)
    (hp : n ∉ s.clk.pulses) : exec (.treeStep n true) s = .next ((s.stepPulse n).pulsing n) := by
  have hgood : ¬(decide (s.rd ST_TREE_STATUS.SRC_CUR n ≠ 1) || s.on ST_TREE_STATUS.SWITCHING n || s.clk.pulses.contains n) = true := by
    simp [State.on, hsrc, hsw, hp]
  exact (need_pos (decide_eq_true hn) _).trans (congrArg _ (if_neg hgood))

/-- Where the divider of a stope stands: phase and slot. -/
def State.divider (s : State) (n : Nat) : Nat × Nat := (s.rd ST_TREE_STATUS.LOCAL_PHASE n, s.rd ST_TREE_STATUS.LOCAL_CTX n)

/-- Where a divider at phase `p` of slot `c` stands one phase later, with strokes of `f` slots of `k` phases (04 R105). -/
def nextPhase (k f p c : Nat) : Nat × Nat := if p + 1 < k then (p + 1, c) else (0, if c + 1 < f then c + 1 else 0)

theorem State.pulsing_divider (s : State) (n m : Nat) : (s.pulsing n).divider m = s.divider m := rfl

theorem State.dividerStep_divider (hk : s.depthK ≤ 16) (hf : s.foldF ≤ 4) (n : Nat) : (s.dividerStep n).divider n =
    nextPhase s.depthK s.foldF (s.rd ST_TREE_STATUS.LOCAL_PHASE n) (s.rd ST_TREE_STATUS.LOCAL_CTX n) := by
  unfold State.dividerStep nextPhase State.divider
  extract_lets p c
  by_cases hp : p < s.depthK
  · rw [if_pos hp, if_pos hp, State.rd_wr_fit (f := ST_TREE_STATUS.LOCAL_PHASE) (lt_of_lt_of_le hp hk), State.rd_wr_other _ (by decide)]
  · have hfit : (if c < s.foldF then c else 0) < 2 ^ ST_TREE_STATUS.LOCAL_CTX.wid := by
      split
      · exact lt_of_lt_of_le ‹_› hf
      · decide
    rw [if_neg hp, if_neg hp, State.rd_wr_fit hfit, State.rd_wr_other _ (by decide), State.rd_wr_same, Nat.zero_mod]

/-- The end of a slot moves no divider. -/
theorem State.slotCapture_divider (s : State) (n m : Nat) : (s.slotCapture n).divider m = s.divider m :=
  Prod.ext (s.rd_slotCapture ..) (s.rd_slotCapture ..)

/-- The state of a stope does not depend on whether its captures are off. -/
theorem State.stopeState_updStope_capturesOff (s : State) (n : Nat) (b : Stope → Bool) :
    (s.updStope n (fun x => { x with capturesOff := b x })).stopeState n = s.stopeState n := by
  rw [State.stopeState, State.stope_updStope_same]
  rfl

/-- The state in which a pulse begins: captures that a hung switch stopped are on again at phase 0 of slot 0 (04 R108). -/
def State.pulseBegun (s : State) (n : Nat) : State :=
  s.updStope n (fun x => { x with
    capturesOff := x.capturesOff && !decide (s.rd ST_TREE_STATUS.LOCAL_CTX n = 0 ∧ s.rd ST_TREE_STATUS.LOCAL_PHASE n = 0) })

/-- The requests due have executed where the pulse is the first phase of a slot. -/
def State.pulseAccessed (s : State) (n : Nat) : State :=
  if s.rd ST_TREE_STATUS.LOCAL_PHASE n = 0 then (s.pulseBegun n).executeDue n else s.pulseBegun n

/-- The pipeline registers have captured, from the values that the accesses leave. -/
def State.pulseCaptured (s : State) (n : Nat) : State :=
  (s.pulseAccessed n).updStope n (fun x => { x with
    regsBefore := x.regs, regs := (s.pulseAccessed n).nextRegs n (s.rd ST_TREE_STATUS.LOCAL_CTX n) })

/-- The divider has advanced, and the slot that this ends has captured. -/
def State.pulseAdvanced (s : State) (n : Nat) : State := ((s.pulseCaptured n).dividerStep n).slotCapture n

/-- A pulse of an isolated stope whose captures are on: after its divider's step, at most USER bits see the edges held. -/
theorem State.stepPulse_isolated (hcap : (s.stope n).capturesOff = false) (hiso : s.stopeState n = 2) :
    ∃ edges, s.stepPulse n = (if (s.pulseAdvanced n).rd ST_TREE_STATUS.LOCAL_PHASE n = 0 ∧
        (s.pulseAdvanced n).rd ST_TREE_STATUS.LOCAL_CTX n = 0 then (s.pulseAdvanced n).updStope n (commitUser edges)
      else s.pulseAdvanced n).drawn := by
  have hoff : ((s.pulseBegun n).stope n).capturesOff = false := by
    rw [State.pulseBegun, State.stope_updStope_same, hcap, Bool.false_and]
  have hstate : (s.pulseBegun n).stopeState n = 2 := (s.stopeState_updStope_capturesOff ..).trans hiso
  have hopen : ¬(((s.pulseBegun n).stope n).capturesOff
      || (decide ((s.pulseBegun n).stopeState n ≠ 2) && decide ((s.pulseBegun n).stopeState n ≠ 3))) = true := by
    simp [hoff, hstate]
  exact ⟨_, if_neg hopen⟩

theorem State.stepPulse_divider_advanced (hcap : (s.stope n).capturesOff = false) (hiso : s.stopeState n = 2) :
    (s.stepPulse n).divider n = (s.pulseAdvanced n).divider n := by
  obtain ⟨edges, h⟩ := State.stepPulse_isolated hcap hiso
  rw [h]
  generalize s.pulseAdvanced n = t
  split <;> rfl

/-- What a step of a divider reads: the divider itself, and the depth and fold that it counts to. -/
def dividerFields : List Fld := [ST_TREE_STATUS.LOCAL_PHASE, ST_TREE_STATUS.LOCAL_CTX, CF_LOADED.K, CF_LOADED.F]

theorem offAccess_of_mem_dividerFields : ∀ g ∈ dividerFields, OffAccess g := by
  unfold OffAccess
  decide

/-- Neither the accesses of a pulse nor its capture change what the divider's step reads. -/
theorem State.rd_pulseCaptured {g : Fld} (hg : g ∈ dividerFields) (s : State) (n u j : Nat) : (s.pulseCaptured n).rd g u j = s.rd g u j := by
  have hbegun : Reads g s (s.pulseBegun n) := Reads.refl.updStope ..
  have haccessed : Reads g s (s.pulseAccessed n) := Reads.ite (hbegun.executeDue (offAccess_of_mem_dividerFields g hg) n) hbegun
  exact (haccessed.updStope ..).rd u j

/-- A pulse of an isolated stope whose captures are on is one phase of its divider. -/
theorem State.stepPulse_divider (hcap : (s.stope n).capturesOff = false) (hiso : s.stopeState n = 2) (hk : s.depthK ≤ 16)
    (hf : s.foldF ≤ 4) : (s.stepPulse n).divider n =
      nextPhase s.depthK s.foldF (s.rd ST_TREE_STATUS.LOCAL_PHASE n) (s.rd ST_TREE_STATUS.LOCAL_CTX n) := by
  have hdepth : (s.pulseCaptured n).depthK = s.depthK := State.rd_pulseCaptured (by simp [dividerFields]) ..
  have hfold : (s.pulseCaptured n).foldF = s.foldF := State.rd_pulseCaptured (by simp [dividerFields]) ..
  rw [State.stepPulse_divider_advanced hcap hiso, State.pulseAdvanced, State.slotCapture_divider,
    State.dividerStep_divider (hdepth.trans_le hk) (hfold.trans_le hf), hdepth, hfold,
    State.rd_pulseCaptured (by simp [dividerFields]), State.rd_pulseCaptured (by simp [dividerFields])]

/-! ### The obligation -/

/-- Settles O16: each case of a command is one equation; the pulse's clause is that nothing but the divider's own step moves the divider
(`State.stepPulse_divider`). -/
theorem stopeTree : Obligations.StopeTree := by
  intro s n src hn
  refine ⟨fun h => ?refused, fun hcur hsrc hsw hiso => ?inForce, fun hsrc hcur hsw hiso => ?started, fun h hsrc => ?done,
    fun h hsrc => ?hung, exec_treeStep_false hn, fun h => ?notStepped, fun hsrc hsw hp hcap hiso _ hk _ hf => ?stepped⟩
  case refused =>
    exact ⟨_, exec_treeSrcWrite_refused hn h, State.rd_wr_fit (by decide), State.regsKeptBut.refl.wr (by simp), rfl⟩
  case inForce => exact (exec_treeSrcWrite_taken hn hsrc hsw hiso).trans (congrArg _ (if_pos hcur))
  case started =>
    exact ⟨_, (exec_treeSrcWrite_taken hn hsrc hsw hiso).trans (congrArg _ (if_neg hcur)), s.rd_switchStarted_src n hsrc,
      s.rd_switchStarted_switching n src, s.switchStarted_stope n src, s.switchStarted_regsKeptBut n src, rfl⟩
  case done =>
    exact ⟨_, exec_treeSwitchDone_switching hn h, s.rd_treeSwitched_srcCur n hsrc, s.rd_treeSwitched_switching n src,
      s.rd_treeSwitched_holdSync n src, s.treeSwitched_stope n src, s.treeSwitched_regsKeptBut n src (List.Subset.refl _),
      s.treeSwitched_rest n src⟩
  case hung =>
    have hkept : s.regsKeptBut ((s.treeSwitched n src).wr ST_TREE_STATUS.HANG 1 n) _ :=
      (s.treeSwitched_regsKeptBut n src (List.subset_append_left _ [ST_TREE_STATUS.HANG.key n])).wr (by simp)
    exact ⟨_, exec_treeSwitchHang_switching hn h,
      (State.rd_switchForced_other (by decide) ..).trans (s.rd_treeSwitched_srcCur n hsrc),
      (State.rd_switchForced_other (by decide) ..).trans (s.rd_treeSwitched_switching n src),
      s.rd_switchForced_hang n src, s.switchForced_switchTo n src, hkept.hidden (s.switchForced_regs n src), s.switchForced_rest n src⟩
  case notStepped =>
    exact ⟨_, exec_treeStep_refused hn h, State.rd_wr_fit (by decide), State.regsKeptBut.refl.wr (by simp), rfl⟩
  case stepped =>
    refine ⟨_, exec_treeStep_taken hn hsrc hsw hp, State.mem_pulses_pulsing .., ?_⟩
    exact (State.pulsing_divider ..).trans (State.stepPulse_divider hcap hiso hk hf)

end Sys2Proof.Machine
end

section
/-! PROOF. Units of a stope's memories, bin queues and their links, and the store of a sample, for the proofs below (05 R120, R121, R129,
R133, R138 to R141; 11 R289, R291, R293; 12 R323). -/

namespace Sys2Proof.Machine

variable {s t : State} {n m u : Nat}

/-! ### Units (05 R120, R129) -/

theorem State.unitRaw_lt (s : State) (n m u : Nat) : s.unitRaw n m u < 2 ^ 64 := by
  unfold State.unitRaw
  extract_lets v
  split
  · split
    · exact Nat.mod_lt _ (Nat.two_pow_pos 64)
    · exact Nat.mod_lt _ (Nat.two_pow_pos 64)
  · exact Nat.mod_lt _ (Nat.two_pow_pos 64)

theorem State.unitErr_putUnit_same (s : State) (n m u v err : Nat) : (s.putUnit n m u v err).unitErr n m u = err := Tab.get_set_same ..

/-- A unit reads as it was stored, also in a stope whose other contents were lost (02 R61): the mark at bit 64 says that it was written. -/
theorem State.unitRaw_putUnit_same (s : State) (n m u v err : Nat) : (s.putUnit n m u v err).unitRaw n m u = v % 2 ^ 64 := by
  have hcell : Tab.get 0 (s.putUnit n m u v err).fabMem ⟨m, n, u⟩ = v % 2 ^ 64 + (if (s.stope n).lost.isSome then 2 ^ 64 else 0) :=
    Tab.get_set_same ..
  have hstope : (s.putUnit n m u v err).stope n = s.stope n := rfl
  have hmark : (v % 2 ^ 64 + 2 ^ 64).testBit 64 = true := by
    rw [Nat.testBit_eq_decide_div_mod_eq, decide_eq_true_iff]
    omega
  simp only [State.unitRaw, hcell, hstope]
  cases (s.stope n).lost with
  | none => simp
  | some g =>
    show (if (v % 2 ^ 64 + 2 ^ 64).testBit 64 then (v % 2 ^ 64 + 2 ^ 64) % 2 ^ 64 else _) = _
    rw [if_pos hmark, Nat.add_mod_right, Nat.mod_mod]

/-- A single-bit error is corrected. -/
theorem decodeUnit_single {raw err : Nat} (h1 : 1 ≤ err) (h64 : err ≤ 64) : decodeUnit raw err = raw ^^^ 2 ^ (err - 1) :=
  if_neg (by omega)

/-- A read of a unit without an error gives the stored bits and leaves nothing behind. -/
theorem State.readUnit_clean (h : s.unitErr n m u = 0) (src : Nat) : s.readUnit n m u src = (s.unitRaw n m u, false, s) := by
  simp [State.readUnit, decodeUnit, h]

/-! ### Bin queues and their links (05 R133, R136; 12 R323) -/

theorem State.binEnd_of_cage (h : t.cage = s.cage) (n b : Nat) : t.binEnd n b = s.binEnd n b := by
  rw [State.binEnd, State.binEnd, h]

theorem State.binEnd_setBinEnd_same (s : State) (n b : Nat) (e : BinEnd) : (s.setBinEnd n b e).binEnd n b = e := Tab.get_set_same ..

theorem State.queue_setQueue_same (s : State) (n b : Nat) (q : BinQueue) : ((s.setQueue n b q).stope n).queue b = q := by
  rw [State.setQueue, State.stope_updStope_same]
  exact Tab.get_set_same ..

/-- The queue after a push: one word more at the write pointer. -/
theorem State.queue_queuePush (s : State) (n b w src : Nat) (last : Bool) : ((s.queuePush n b w src last).stope n).queue b =
    { (s.stope n).queue b with wp := (((s.stope n).queue b).wp + 1) % 2048, count := ((s.stope n).queue b).count + 1 } :=
  State.queue_setQueue_same ..

/-- A push reaches the Cage nowhere, whatever the read of the unit raises. -/
theorem State.queuePush_cage (s : State) (n b w src : Nat) (last : Bool) : (s.queuePush n b w src last).cage = s.cage :=
  (State.queuePush_moves (F := { Foot.only [.regs .st, .regs .sb, .regs .wd, .regs .cr, .msix, .winder, .sampler, .events, .sent, .stopes] with
    fabMem := true }) rfl (Sub.list rfl rfl) Moves.refl).parts .cage (partsMask_not (by decide))

/-- A pop of a word without an error. -/
theorem State.queuePop_clean {b : Nat} (h : s.unitErr n b (((s.stope n).queue b).rp / 2) = 0) (src : Nat) : s.queuePop n b src =
    ((half (s.unitRaw n b (((s.stope n).queue b).rp / 2)) (((s.stope n).queue b).rp % 2),
      Tab.get false (s.stope n).ports.lastMark ⟨0, b, ((s.stope n).queue b).rp⟩),
    s.setQueue n b { (s.stope n).queue b with
      rp := (((s.stope n).queue b).rp + 1) % 2048, count := ((s.stope n).queue b).count - 1 }) := by
  simp [State.queuePop, State.readUnit_clean h]

theorem State.levelCheck_queue (s : State) (n b old new : Nat) : ((s.levelCheck n b old new).stope n).queue b = (s.stope n).queue b := by
  unfold State.levelCheck
  extract_lets level hyst fired
  have hsent := congrArg (fun x : Stope => x.queue b) (fired.stope_updStope_same n fun x => { x with levelOut := x.levelOut ++ [b] })
  split_ifs
  · exact hsent
  · rfl
  · rfl
  · rfl
  · rfl

/-- What follows the move of a word leaves the queue. -/
theorem State.binMoved_queue (s : State) (n b old : Nat) (d : Int) : ((s.binMoved n b old d).stope n).queue b = (s.stope n).queue b := by
  unfold State.binMoved
  split
  · rfl
  · exact s.levelCheck_queue ..

theorem State.binMoved_cage (s : State) (n b old : Nat) (d : Int) : (s.binMoved n b old d).cage = s.cage :=
  (State.binMoved_moves (F := Foot.only [.regs .st, .regs .wd, .sampler, .sent, .stopes]) (Sub.list rfl rfl) Moves.refl).parts .cage
    (partsMask_not (by decide))

/-! ### Stores of the part's own agents outside the page journal (11 R293, R294; 14 R374) -/

theorem State.journalPage_unjournalled {page : Nat} (h : s.journalled (page * 128) = false) (old : List Nat) (poison : Bool) :
    s.journalPage page old poison = s := by
  simp [State.journalPage, h]

/-- The parts that a store to a page outside the journalled ranges may change, beside the bytes: the controllers, the encryption stage. -/
def storeParts : List Part := [.regs .dc, .regs .en, .dram, .crypto]

/-- What such a store may change: bytes, and `storeParts`. -/
def storeFoot : Foot := { Foot.only storeParts with mem := true }

theorem State.storePage_moves_unjournalled {page mask : Nat} {data : List Nat} {poison : Bool} (h : s.journalled (page * 128) = false)
    (e : s.storePage page mask data poison = some t) : Moves storeFoot s t := by
  rw [State.storePage, State.journalPage_unjournalled h] at e
  dsimp only at e
  split at e
  · cases e
  · rename_i raised hraise
    have hmarked (g : Dram → Dram) : Moves storeFoot s (((raised.storeMasked (page * 128) data mask).dr g).markWritten page) :=
      State.markWritten_moves (Sub.list rfl rfl) (State.dr_moves (Sub.list rfl rfl) (State.storeMasked_moves rfl
        (State.raiseCounter_moves' (Sub.list rfl rfl) hraise Moves.refl)))
    obtain rfl := Option.some.inj e
    split
    · exact State.wr_moves rfl (State.wr_moves rfl (hmarked _))
    · exact hmarked _

/-- A store within one page outside the journalled ranges keeps every part but `storeParts`. -/
theorem State.agentStore_kept {a : Nat} {data : List Nat} (hpos : 0 < data.length) (hpage : a % 128 + data.length ≤ 128)
    (h : s.journalled (a / 128 * 128) = false) {p : Part} (hp : p ∉ storeParts) : s.partKept (s.agentStore a data) p := by
  have hone : (a + data.length + 127) / 128 - a / 128 = 1 := by omega
  unfold State.agentStore
  extract_lets first
  rw [show (a + data.length + 127) / 128 - first = 1 from hone, List.range_one, List.foldl_cons, List.foldl_nil]
  extract_lets page here mask bytes old bad
  rw [Option.getD.eq_def]
  split
  · rename_i e
    exact (State.storePage_moves_unjournalled (page := page) h e).parts p (partsMask_not hp)
  · exact State.partKept.rfl' p

end Sys2Proof.Machine
end

section
/-! PROOF. The agents of a stope's memories (O17; 05 R129 to R141; 11 R289; 12 R323). -/

namespace Sys2Proof.Machine

variable {s t : State} {n m u slot : Nat}

/-! ### Write-backs (05 R129) -/

/-- No write-back of the unit waits any more. -/
def Stope.writebackDone (m u : Nat) (x : Stope) : Stope := { x with writebacks := x.writebacks.filter (fun p => decide (p ≠ (m, u))) }

/-- The corrected unit is stored and no write-back of it waits. -/
def State.unitCorrected (s : State) (n m u : Nat) : State :=
  (s.updStope n (Stope.writebackDone m u)).putUnit n m u (s.unitRaw n m u ^^^ 2 ^ (s.unitErr n m u - 1)) 0

theorem exec_eccWriteback_pending (hn : n < 640) (hm : m < 18) (h : (m, u) ∈ (s.stope n).writebacks) (h1 : 1 ≤ s.unitErr n m u)
    (h64 : s.unitErr n m u ≤ 64) : exec (.eccWriteback n m u) s = .next (s.unitCorrected n m u) := by
  have hsingle : ¬(s.unitErr n m u = 0 ∨ 100 ≤ s.unitErr n m u) := by omega
  rw [exec_eccWriteback, execEccWriteback, need_pos (decide_eq_true ⟨hn, hm⟩), if_pos h]
  simp only [if_neg hsingle, decodeUnit_single h1 h64]
  rfl

theorem exec_eccWriteback_overtaken (hn : n < 640) (hm : m < 18) (h : (m, u) ∉ (s.stope n).writebacks) :
    exec (.eccWriteback n m u) s = .next s := by
  rw [exec_eccWriteback, execEccWriteback, need_pos (decide_eq_true ⟨hn, hm⟩), if_neg h]

theorem State.unitCorrected_raw (s : State) (n m u : Nat) (h64 : s.unitErr n m u ≤ 64) :
    (s.unitCorrected n m u).unitRaw n m u = s.unitRaw n m u ^^^ 2 ^ (s.unitErr n m u - 1) :=
  (State.unitRaw_putUnit_same ..).trans
    (Nat.mod_eq_of_lt (Nat.xor_lt_two_pow (s.unitRaw_lt n m u) (Nat.pow_lt_pow_right (by decide) (by omega))))

theorem State.unitCorrected_writebacks (s : State) (n m u : Nat) : (m, u) ∉ ((s.unitCorrected n m u).stope n).writebacks := by
  have hstope : (s.unitCorrected n m u).stope n = Stope.writebackDone m u (s.stope n) := s.stope_updStope_same n _
  simp [hstope, Stope.writebackDone]

/-! ### The sweeper (05 R131) -/

/-- The sweeper's read of one memory, and its step to the next unit. -/
def State.sweepUnit (n : Nat) (s : State) (m : Nat) : State :=
  (s.readUnit n m (Tab.get 0 (s.stope n).sweep m) 1).2.2.updStope n (fun x =>
    { x with sweep := Tab.set natLt 0 x.sweep m ((Tab.get 0 (s.stope n).sweep m + 1) % unitsOf m) })

theorem exec_sweepStep_still (hn : n < 640)
    (h : s.rd ST_MEM_CTRL.SWEEP_EN n = 0 ∨ s.configured n = false ∨ s.powered n = false ∨ s.inReset n = true) :
    exec (.sweepStep n) s = .next s := by
  rw [exec_sweepStep, execSweepStep, need_pos (decide_eq_true hn), if_neg]
  rcases h with h | h | h | h <;> simp [State.on, h]

theorem exec_sweepStep_runs (hn : n < 640) (hen : s.rd ST_MEM_CTRL.SWEEP_EN n ≠ 0) (hconf : s.configured n = true)
    (hpow : s.powered n = true) (hrst : s.inReset n = false) :
    exec (.sweepStep n) s = .next ((List.range 18).foldl (State.sweepUnit n) s) := by
  rw [exec_sweepStep, execSweepStep, need_pos (decide_eq_true hn), if_pos (by simp [State.on, hen, hconf, hpow, hrst])]
  rfl

theorem State.sweepUnit_clean (h : s.unitErr n m (Tab.get 0 (s.stope n).sweep m) = 0) : StopesOnly s (s.sweepUnit n m) ∧
    ∀ k, Tab.get 0 ((s.sweepUnit n m).stope n).sweep k =
      if k = m then (Tab.get 0 (s.stope n).sweep m + 1) % unitsOf m else Tab.get 0 (s.stope n).sweep k := by
  rw [State.sweepUnit, State.readUnit_clean h]
  refine ⟨rfl, fun k => ?_⟩
  rw [State.stope_updStope_same]
  split
  · subst k
    exact Tab.get_set_same ..
  · exact Tab.get_set_ne _ _ _ _ _ (by assumption)

theorem StopesOnly.trans {r : State} (h : StopesOnly s t) (k : StopesOnly t r) : StopesOnly s r := by
  rw [StopesOnly] at *
  exact (congrArg (fun x : State => { x with stopes := s.stopes }) k).trans h

/-- The sweep of a list of memories whose next units have no error moves the place in each by one, and nothing else. -/
theorem State.foldl_sweepUnit_clean {l : List Nat} (hl : l.Nodup) (h : ∀ k ∈ l, s.unitErr n k (Tab.get 0 (s.stope n).sweep k) = 0) :
    StopesOnly s (l.foldl (State.sweepUnit n) s) ∧ ∀ k, Tab.get 0 ((l.foldl (State.sweepUnit n) s).stope n).sweep k =
      if k ∈ l then (Tab.get 0 (s.stope n).sweep k + 1) % unitsOf k else Tab.get 0 (s.stope n).sweep k := by
  induction l generalizing s with
  | nil => exact ⟨rfl, fun k => rfl⟩
  | cons m l ih =>
    obtain ⟨hm, hl⟩ := List.nodup_cons.1 hl
    obtain ⟨honly, hplace⟩ := State.sweepUnit_clean (h m (List.mem_cons_self ..))
    have hrest : ∀ k ∈ l, (s.sweepUnit n m).unitErr n k (Tab.get 0 ((s.sweepUnit n m).stope n).sweep k) = 0 := fun k hk => by
      have hne : k ≠ m := fun e => hm (e ▸ hk)
      rw [hplace, if_neg hne, honly.keeps (fun x => x.unitErr n k _) fun _ _ => rfl]
      exact h k (List.mem_cons_of_mem _ hk)
    obtain ⟨hlast, hplaces⟩ := ih hl hrest
    refine ⟨honly.trans hlast, fun k => ?_⟩
    rw [List.foldl_cons, hplaces, hplace]
    by_cases hk : k = m
    · subst k
      simp [hm]
    · simp [hk]

/-! ### Starved copies and injections (05 R131, R132) -/

theorem exec_copyStarved_eq (hn : n < 640) (hm : m < 18) : exec (.copyStarved n m) s = .next
    (if s.bit ST_MEM_JRNL.ARMED m n then { s with winder := { s.winder with holdReq := s.winder.holdReq ++ [(n, true)] } } else s) :=
  need_pos (decide_eq_true ⟨hn, hm⟩) _

theorem exec_memInjectArm_eq (hn : n < 640) (m : Nat) (d : Bool) : exec (.memInjectArm n m d) s = .next
    (((s.wr ST_MEM_CTRL.INJ_MEM m n).put ST_MEM_CTRL.INJ_DOUBLE d n).wr ST_MEM_CTRL.INJ_ARM 1 n) :=
  need_pos (decide_eq_true hn) _

/-! ### The controllers of the bin queues (05 R133, R136; 12 R323) -/

theorem exec_binQueueMove_unused (hn : n < 640) (hm : m < 16) (h : s.inUse n = false) : exec (.binQueueMove n m) s = .next s := by
  rw [exec_binQueueMove, execBinQueueMove, need_pos (decide_eq_true ⟨hn, hm⟩), if_neg (by simp [h])]

theorem exec_binQueueMove_up (hn : n < 640) (hm : m < 16) (h : s.inUse n = true) (hmode : (s.stope n).bqmode m = 2) :
    exec (.binQueueMove n m) s = .next (s.binUpMove n m) := by
  rw [exec_binQueueMove, execBinQueueMove, need_pos (decide_eq_true ⟨hn, hm⟩), if_pos h, if_pos hmode]

theorem exec_binQueueMove_down (hn : n < 640) (hm : m < 16) (h : s.inUse n = true) (hmode : (s.stope n).bqmode m = 3) :
    exec (.binQueueMove n m) s = .next (s.binDownMove n m) := by
  rw [exec_binQueueMove, execBinQueueMove, need_pos (decide_eq_true ⟨hn, hm⟩), if_pos h, if_neg (by omega), if_pos hmode]

/-- The word that an UP controller pops, with its last-word mark. -/
def State.oldestWord (s : State) (n b : Nat) : Nat × Bool :=
  (half (s.unitRaw n b (((s.stope n).queue b).rp / 2)) (((s.stope n).queue b).rp % 2),
    Tab.get false (s.stope n).ports.lastMark ⟨0, b, ((s.stope n).queue b).rp⟩)

/-- An UP controller with a grant, a word, and room in a run whose packet has not ended moves the oldest word into the run. -/
theorem State.binUpMove_granted (hgrant : 0 < (s.binEnd n m).grant) (hcount : 0 < ((s.stope n).queue m).count)
    (hrun : (s.binEnd n m).run.length < 16) (hopen : ∀ w ∈ (s.binEnd n m).run, w.2 = false)
    (hclean : s.unitErr n m (((s.stope n).queue m).rp / 2) = 0) : s.binUpMove n m =
      ((s.setQueue n m { (s.stope n).queue m with
          rp := (((s.stope n).queue m).rp + 1) % 2048, count := ((s.stope n).queue m).count - 1 }).setBinEnd n m
        { s.binEnd n m with run := (s.binEnd n m).run ++ [s.oldestWord n m], grant := (s.binEnd n m).grant - 1 }).binMoved n m
        ((s.stope n).queue m).count (-1) := by
  have hlast : ((s.binEnd n m).run.getLast?.map (fun w => w.2)).getD false = false := by
    cases hw : (s.binEnd n m).run.getLast? with
    | none => rfl
    | some w => exact hopen w (List.mem_of_getLast? hw)
  have hgo : ¬((s.binEnd n m).grant = 0 ∨ ((s.stope n).queue m).count = 0 ∨ 16 ≤ (s.binEnd n m).run.length ∨
      ((s.binEnd n m).run.getLast?.map (fun w => w.2)).getD false = true) := by
    rw [hlast]
    simp
    omega
  rw [State.binUpMove, State.queuePop_clean hclean]
  exact if_neg hgo

/-- A DOWN controller pushes the oldest word received where the bin and its journal have room. -/
theorem State.binDownMove_room {w : Nat} {r : List Nat} (hin : (s.binEnd n m).inbuf = w :: r) (hcount : ((s.stope n).queue m).count < 2048)
    (hroom : s.journalFull n m (((s.stope n).queue m).wp / 2) = false) : s.binDownMove n m =
      ((s.setBinEnd n m { s.binEnd n m with inbuf := r }).queuePush n m w 3 false).binMoved n m ((s.stope n).queue m).count 1 := by
  have hgo : ¬(2048 ≤ ((s.stope n).queue m).count ∨ s.journalFull n m (((s.stope n).queue m).wp / 2) = true) := by
    rw [hroom]
    simpa using hcount
  rw [State.binDownMove]
  simp only [hin, if_neg hgo]

theorem exec_levelIrqResponse_out (hn : n < 640) (hm : m < 16) (h : m ∈ (s.stope n).levelOut) (err : Bool) :
    exec (.levelIrqResponse n m err) s = .next
      (if err then (s.updStope n (fun x => { x with levelOut := x.levelOut.erase m })).wr ST_BQ_STATUS.WRITE_FAIL 1 n m
       else s.updStope n (fun x => { x with levelOut := x.levelOut.erase m })) := by
  rw [exec_levelIrqResponse, execLevelIrqResponse, need_pos (decide_eq_true ⟨hn, hm⟩), if_pos h]

/-! ### The store of a sample (05 R140, R141; 11 R289 to R291) -/

theorem State.unitPlace_aligned (s : State) (slot n m u : Nat) : s.unitPlace slot n m u % 8 = 0 := by
  simp only [State.unitPlace, State.slotBase, slotBytes]
  split <;> omega

/-- The store of a unit's 8 bytes, its slot outside the journalled ranges, keeps every part but `storeParts`. -/
theorem State.unitBytes_kept (h : s.journalled (s.unitPlace slot n m u / 128 * 128) = false) (v : Nat) {p : Part} (hp : p ∉ storeParts) :
    s.partKept (s.agentStore (s.unitPlace slot n m u) (wordBytes v)) p := by
  have hlen : (wordBytes v).length = 8 := by simp [wordBytes]
  have halign := s.unitPlace_aligned slot n m u
  exact State.agentStore_kept (by omega) (by omega) h hp

/-- A slot holds a unit's value; an uncorrectable one taints it. -/
def State.holdUnit (s : State) (slot n m u v : Nat) (ue : Bool) : State :=
  let t := s.setSlot slot { s.slotData slot with mems := Tab.set Key.lt 0 (s.slotData slot).mems ⟨m, n, u⟩ v }
  if ue then t.wr WD_SLOT.TAINTED 1 0 slot else t

theorem State.storeUnit_eq (s : State) (slot n m u v : Nat) (ue : Bool) : s.storeUnit slot n m u v ue =
    (s.agentStore (s.unitPlace slot n m u) (wordBytes v)).holdUnit slot n m u v ue := rfl

theorem State.holdUnit_stopes (s : State) (slot n m u v : Nat) (ue : Bool) : (s.holdUnit slot n m u v ue).stopes = s.stopes := by
  cases ue <;> rfl

theorem State.rd_holdUnit_other {f : Fld} (h : f.id ≠ WD_SLOT.TAINTED.id) (s : State) (slot n m u v : Nat) (ue : Bool) (k j : Nat) :
    (s.holdUnit slot n m u v ue).rd f k j = s.rd f k j := by
  cases ue with
  | false => rfl
  | true => exact State.rd_wr_other _ h

theorem State.slotData_holdUnit (s : State) (slot n m u v : Nat) (ue : Bool) :
    Tab.get 0 ((s.holdUnit slot n m u v ue).slotData slot).mems ⟨m, n, u⟩ = v := by
  have hslot : (s.holdUnit slot n m u v ue).slotData slot =
      { s.slotData slot with mems := Tab.set Key.lt 0 (s.slotData slot).mems ⟨m, n, u⟩ v } := by
    cases ue <;> exact Tab.get_set_same ..
  rw [hslot]
  exact Tab.get_set_same ..

theorem State.storeUnit_stopes (h : s.journalled (s.unitPlace slot n m u / 128 * 128) = false) (v : Nat) (ue : Bool) :
    (s.storeUnit slot n m u v ue).stopes = s.stopes := by
  rw [State.storeUnit_eq, State.holdUnit_stopes]
  exact State.unitBytes_kept h v (p := .stopes) (by decide)

theorem State.rd_storeUnit (h : s.journalled (s.unitPlace slot n m u / 128 * 128) = false) (v : Nat) (ue : Bool) {f : Fld}
    (hf : .regs f.blk ∉ storeParts) (ht : f.id ≠ WD_SLOT.TAINTED.id) (k j : Nat) : (s.storeUnit slot n m u v ue).rd f k j = s.rd f k j := by
  rw [State.storeUnit_eq, State.rd_holdUnit_other ht]
  exact State.unitBytes_kept h v hf f k j rfl

theorem State.disarmIfDone_regsOnly (s : State) (n m : Nat) : RegsOnly s (s.disarmIfDone n m) := by
  unfold State.disarmIfDone
  extract_lets j
  split
  · exact RegsOnly.refl.wr ..
  · exact RegsOnly.refl

theorem State.rd_disarmIfDone_other {f : Fld} (h : f.id ≠ ST_MEM_JRNL.ARMED.id) (s : State) (n m k j : Nat) :
    (s.disarmIfDone n m).rd f k j = s.rd f k j := by
  unfold State.disarmIfDone
  extract_lets x
  split
  · exact State.rd_putBit_other h
  · rfl

/-- After its counter a copy changes registers alone: where it ends the memory disarms, and `COPY` follows. -/
theorem State.copyChecked_regsOnly (s : State) (n m : Nat) : RegsOnly s ((s.disarmIfDone n m).showCopy (n / 160)) :=
  (s.disarmIfDone_regsOnly n m).wr ..

/-- The journal of a memory becomes what `g` makes of it. -/
def State.updJournal (s : State) (n m : Nat) (g : MemJournal → MemJournal) : State :=
  s.updStope n (fun y => { y with journals := Tab.set natLt .idle y.journals m (g (y.journal m)) })

theorem State.journal_updJournal (s : State) (n m : Nat) (g : MemJournal → MemJournal) :
    ((s.updJournal n m g).stope n).journal m = g ((s.stope n).journal m) := by
  rw [State.updJournal, State.stope_updStope_same]
  exact Tab.get_set_same ..

/-- Unit `u` of memory `m` has gone to the sample store, the Corer's counter `f` has counted it, and the memory's journal has become what `g`
makes of it. -/
def State.unitSampled (s : State) (slot n m u v : Nat) (ue : Bool) (f : Fld) (g : MemJournal → MemJournal) : State :=
  ((((s.storeUnit slot n m u v ue).count f 1 (n / 160)).updJournal n m g).disarmIfDone n m).showCopy (n / 160)

theorem State.unitSampled_journal (h : s.journalled (s.unitPlace slot n m u / 128 * 128) = false) (v : Nat) (ue : Bool) (f : Fld)
    (g : MemJournal → MemJournal) : ((s.unitSampled slot n m u v ue f g).stope n).journal m = g ((s.stope n).journal m) := by
  have hstored : ((s.storeUnit slot n m u v ue).count f 1 (n / 160)).stope n = s.stope n :=
    congrArg (fun l => Tab.get Stope.cold l n) (State.storeUnit_stopes h v ue)
  rw [State.unitSampled, (State.copyChecked_regsOnly ..).keeps (fun x => (x.stope n).journal m), State.journal_updJournal, hstored]

theorem State.unitSampled_slotData (s : State) (slot n m u v : Nat) (ue : Bool) (f : Fld) (g : MemJournal → MemJournal) :
    Tab.get 0 ((s.unitSampled slot n m u v ue f g).slotData slot).mems ⟨m, n, u⟩ = v := by
  rw [State.unitSampled, (State.copyChecked_regsOnly ..).keeps (fun x => Tab.get 0 (x.slotData slot).mems ⟨m, n, u⟩)]
  exact State.slotData_holdUnit ..

/-- The counters of a Corer (11 R289). -/
def corerCounts : List Fld := [CR_COUNTS.UNITS, CR_COUNTS.JOURNAL]

theorem State.rd_unitSampled (h : s.journalled (s.unitPlace slot n m u / 128 * 128) = false) (v : Nat) (ue : Bool) {f : Fld}
    (hf : f ∈ corerCounts) (g : MemJournal → MemJournal) :
    (s.unitSampled slot n m u v ue f g).rd f (n / 160) = min (s.rd f (n / 160) + 1) (2 ^ 32 - 1) := by
  have hapart : ∀ f ∈ corerCounts, .regs f.blk ∉ storeParts ∧ f.id ≠ WD_SLOT.TAINTED.id ∧ f.id ≠ ST_MEM_JRNL.ARMED.id ∧
      f.id ≠ CR_STATUS.COPY.id ∧ f.wid = 32 := by decide
  obtain ⟨hblk, htaint, harm, hcopy, hwid⟩ := hapart f hf
  rw [State.unitSampled, State.showCopy, State.rd_put_other hcopy, State.rd_disarmIfDone_other harm, State.updJournal, State.rd_updStope,
    State.rd_count_one, State.rd_storeUnit h v ue hblk htaint, hwid]

theorem exec_corerCopyUnit_idle (hn : n < 640) (hm : m < 18) (h : s.sampler.draining = none) :
    exec (.corerCopyUnit n m false) s = .next s := by
  rw [exec_corerCopyUnit, execCorerCopyUnit, need_pos (decide_eq_true ⟨hn, hm⟩), h]

theorem exec_journalStore_idle (hn : n < 640) (hm : m < 18) (h : s.sampler.draining = none) :
    exec (.journalStore n m false) s = .next s := by
  rw [exec_journalStore, execJournalStore, need_pos (decide_eq_true ⟨hn, hm⟩), h]

/-- The Corer's copy, with no unit journalled, takes the unit at its place. -/
theorem exec_corerCopyUnit_next (hn : n < 640) (hm : m < 18) (hdrain : s.sampler.draining = some slot)
    (harm : s.bit ST_MEM_JRNL.ARMED m n = true) (hfifo : ((s.stope n).journal m).fifo = []) (hdone : ((s.stope n).journal m).journalled = [])
    (hptr : ((s.stope n).journal m).copyPtr < unitsOf m) (hclean : s.unitErr n m ((s.stope n).journal m).copyPtr = 0) :
    exec (.corerCopyUnit n m false) s = .next (s.unitSampled slot n m ((s.stope n).journal m).copyPtr
      (s.unitRaw n m ((s.stope n).journal m).copyPtr) false CR_COUNTS.UNITS
      (fun j => { j with copyPtr := ((s.stope n).journal m).copyPtr + 1 })) := by
  rw [exec_corerCopyUnit, execCorerCopyUnit, need_pos (decide_eq_true ⟨hn, hm⟩), hdrain]
  simp only [harm, hfifo, hdone, List.isEmpty_nil, Bool.not_true, Bool.or_self, Bool.false_eq_true, if_false, List.length_nil, nextUnit,
    if_neg (Nat.not_le.2 hptr), State.readUnit_clean hclean]
  rfl

/-! ### Journal entries (05 R141) -/

theorem JournalEntry.bits_old (e : JournalEntry) (h : e.old < 2 ^ 64) : bitsOf e.bits 0 64 = e.old := by
  simp only [bitsOf, JournalEntry.bits, Nat.shiftRight_eq_div_pow]
  omega

theorem JournalEntry.bits_unit (e : JournalEntry) (h : e.unit < 2 ^ 14) : bitsOf e.bits 64 14 = e.unit := by
  simp only [bitsOf, JournalEntry.bits, Nat.shiftRight_eq_div_pow]
  omega

theorem JournalEntry.bits_mem (e : JournalEntry) (h : e.mem < 2 ^ 5) : bitsOf e.bits 78 5 = e.mem := by
  simp only [bitsOf, JournalEntry.bits, Nat.shiftRight_eq_div_pow]
  omega

/-- The oldest entry of a memory's journal is stored as the journal port presents it, and leaves the journal. -/
theorem exec_journalStore_next {e : JournalEntry} {r : List JournalEntry} (hn : n < 640) (hm : m < 18)
    (hdrain : s.sampler.draining = some slot) (hfifo : ((s.stope n).journal m).fifo = e :: r) (hold : e.old < 2 ^ 64)
    (hunit : e.unit < 2 ^ 14) (hmem : e.mem = m) : exec (.journalStore n m false) s = .next
      (s.unitSampled slot n m e.unit e.old (e.bits.testBit 83) CR_COUNTS.JOURNAL (fun j => { j with fifo := r })) := by
  rw [exec_journalStore, execJournalStore, need_pos (decide_eq_true ⟨hn, hm⟩), hdrain, hfifo]
  simp only [Bool.false_eq_true, if_false, e.bits_old hold, e.bits_unit hunit, e.bits_mem (by omega), hmem]
  rfl

/-! ### The obligation -/

/-- Settles O17: each agent's command is one equation in its case. A push keeps the Cage whatever the read of its unit raises
(`State.queuePush_cage`), and a store outside the page journal keeps the Corer's counters and the journals (`State.unitBytes_kept`). -/
theorem stopeMemories : Obligations.StopeMemories := by
  intro s n m hn hm
  refine ⟨fun u h h1 h64 => ?writeback, fun u h => exec_eccWriteback_overtaken hn hm h, exec_sweepStep_still hn,
    fun hen hconf hpow hrst hclean => ?sweep, fun h => ?starved, fun h => ?unarmed, fun d => ?inject,
    fun hb h => exec_binQueueMove_unused hn hb h, fun hb huse hmode hgrant hcount hrun hopen hclean => ?up,
    fun w r hb huse hmode hin hcount hroom => ?down, fun err hb h => ?irq,
    fun h => ⟨exec_corerCopyUnit_idle hn hm h, exec_journalStore_idle hn hm h⟩,
    fun slot hdrain harm hfifo hdone hptr hclean hj => ?copy, fun slot e r hdrain hfifo hold hunit hmem hj => ?entry⟩
  case writeback =>
    exact ⟨_, exec_eccWriteback_pending hn hm h h1 h64, State.unitErr_putUnit_same .., s.unitCorrected_raw n m u h64,
      s.unitCorrected_writebacks n m u, rfl⟩
  case sweep =>
    obtain ⟨honly, hplaces⟩ := State.foldl_sweepUnit_clean List.nodup_range fun k hk => hclean k (List.mem_range.1 hk)
    exact ⟨_, exec_sweepStep_runs hn hen hconf hpow hrst, fun k hk => (hplaces k).trans (if_pos (List.mem_range.2 hk)), honly⟩
  case starved => exact ⟨_, (exec_copyStarved_eq hn hm).trans (congrArg _ (if_pos h)), rfl⟩
  case unarmed => exact (exec_copyStarved_eq hn hm).trans (congrArg _ (if_neg (by simp [h])))
  case inject =>
    refine ⟨_, exec_memInjectArm_eq hn m d, ?_, ?_, State.rd_wr_fit (by decide), ?_, rfl⟩
    · rw [State.rd_wr_other _ (by decide), State.rd_put_other (by decide), State.rd_wr_fit (lt_trans hm (by decide))]
    · rw [State.rd_wr_other _ (by decide), State.rd_put_flag (by decide)]
    · exact ((State.regsKeptBut.refl.wr (by simp)).put (by simp)).wr (by simp)
  case up =>
    refine ⟨_, (exec_binQueueMove_up hn hb huse hmode).trans (congrArg _ (State.binUpMove_granted hgrant hcount hrun hopen hclean)), ?_, ?_⟩
    · rw [State.binEnd_of_cage (State.binMoved_cage ..), State.binEnd_setBinEnd_same, State.oldestWord]
    · exact (State.binMoved_queue ..).trans (State.queue_setQueue_same ..)
  case down =>
    refine ⟨_, (exec_binQueueMove_down hn hb huse hmode).trans (congrArg _ (State.binDownMove_room hin hcount hroom)), ?_, ?_⟩
    · rw [State.binEnd_of_cage (State.binMoved_cage ..), State.binEnd_of_cage (State.queuePush_cage ..), State.binEnd_setBinEnd_same]
    · exact (State.binMoved_queue ..).trans (State.queue_queuePush ..)
  case irq =>
    have hstope := s.stope_updStope_same n fun x => { x with levelOut := x.levelOut.erase m }
    cases err with
    | false => exact ⟨_, exec_levelIrqResponse_out hn hb h false, hstope, rfl, State.regsKeptBut.refl.hidden rfl, rfl⟩
    | true => exact ⟨_, exec_levelIrqResponse_out hn hb h true, hstope, State.rd_wr_fit (by decide),
        State.regsKeptBut.refl.updStope.wr (by simp), rfl⟩
  case copy =>
    exact ⟨_, exec_corerCopyUnit_next hn hm hdrain harm hfifo hdone hptr hclean, State.rd_unitSampled hj _ _ (by simp [corerCounts]) _,
      congrArg MemJournal.copyPtr (State.unitSampled_journal hj ..), State.unitSampled_slotData ..⟩
  case entry =>
    exact ⟨_, exec_journalStore_next hn hm hdrain hfifo hold hunit hmem, State.rd_unitSampled hj _ _ (by simp [corerCounts]) _,
      congrArg MemJournal.fifo (State.unitSampled_journal hj ..), State.unitSampled_slotData ..⟩

end Sys2Proof.Machine
end

section
/-! PROOF. The seam status and the abort of a load, for the proofs below (06 R165, R169, R171, R178). -/

namespace Sys2Proof.Machine

variable {s t : State}

/-- After a fold whose step at `i` sets what is read at `i` alone, every place of the list reads what its step sets. -/
theorem read_foldl_each {α β : Type} {step : α → Nat → α} {read : α → Nat → β} {v : Nat → β}
    (h : ∀ a i j, read (step a i) j = if j = i then v i else read a j) (l : List Nat) (a : α) (j : Nat) :
    read (l.foldl step a) j = if j ∈ l then v j else read a j := by
  induction l generalizing a with
  | nil => rfl
  | cons i l ih =>
    rw [List.foldl_cons, ih, h]
    by_cases hl : j ∈ l
    · simp [hl]
    · by_cases hi : j = i
      · simp [hi]
      · simp [hl, hi]

/-! ### The seam status -/

theorem State.showSeams_regsOnly (s : State) : RegsOnly s s.showSeams :=
  RegsOnly.foldl .refl (fun _ _ h => (h.wr ..).wr ..) _

theorem State.showSeams_loader (s : State) : s.showSeams.loader = s.loader := s.showSeams_regsOnly.keeps State.loader

/-- The seam status lies in the registers of the seam paths. -/
theorem State.rd_showSeams_other {f : Fld} (h : f.blk ≠ .cfs) (s : State) (u j : Nat) : s.showSeams.rd f u j = s.rd f u j :=
  (State.showSeams_moves (F := Foot.only [.regs .cfs]) (Sub.list rfl rfl) Moves.refl).rd_kept (by simp [h]) u j

theorem State.rd_showSeams_fifo (s : State) {k : Nat} (hk : k < 4) :
    s.showSeams.rd CF_SEAM_STATUS.FIFO k = (s.loader.inSeam k).length % 2 ^ CF_SEAM_STATUS.FIFO.wid := by
  refine (read_foldl_each (read := fun t k => t.rd CF_SEAM_STATUS.FIFO k)
    (v := fun k => (s.loader.inSeam k).length % 2 ^ CF_SEAM_STATUS.FIFO.wid) (fun t i j => ?_) _ s k).trans
    (if_pos (List.mem_range.2 hk))
  dsimp only
  rw [State.rd_put_other (by decide)]
  split
  · subst j
    exact State.rd_wr_same ..
  · rename_i h
    exact State.rd_wr_ne t (by simpa using h)

theorem State.rd_showSeams_busy (s : State) {k : Nat} (hk : k < 4) :
    s.showSeams.rd CF_SEAM_STATUS.BUSY k = b2n (decide ((s.loader.inSeam k).length ≠ 0) || s.refilling k) := by
  refine (read_foldl_each (read := fun t k => t.rd CF_SEAM_STATUS.BUSY k)
    (v := fun k => b2n (decide ((s.loader.inSeam k).length ≠ 0) || s.refilling k)) (fun t i j => ?_) _ s k).trans
    (if_pos (List.mem_range.2 hk))
  dsimp only
  split
  · subst j
    exact State.rd_put_flag (by decide)
  · rename_i h
    exact (State.rd_wr_ne _ (by simpa using h)).trans (State.rd_wr_other t (by decide))

/-! ### An abort -/

theorem State.loadAbort_loader (s : State) (err pos : Nat) :
    (s.loadAbort err pos).loader = { s.loader with abort := some (err, pos), fifo := [], stalled := [], segs := [] } :=
  State.showSeams_loader _

/-- The load aborts in `t` with the code and the offset. -/
def State.Aborts (t : State) (err pos : Nat) : Prop := t.rd CF_LD_STATUS.STATE = 4 ∧ t.loader.abort = some (err, pos)

theorem State.loadAbort_aborts (s : State) (err pos : Nat) : (s.loadAbort err pos).Aborts err pos := by
  constructor
  · rw [State.loadAbort, State.rd_showSeams_other (by decide)]
    exact State.rd_wr_fit (f := CF_LD_STATUS.STATE) (v := 4) (by decide)
  · rw [State.loadAbort_loader]

/-- An abort flushes the FIFOs, and the seam status shows it. -/
theorem State.rd_loadAbort_fifo (s : State) (err pos : Nat) {k : Nat} (hk : k < 4) :
    (s.loadAbort err pos).rd CF_SEAM_STATUS.FIFO k = 0 :=
  State.rd_showSeams_fifo _ hk

theorem State.rd_loadAbort_busy (s : State) (err pos : Nat) {k : Nat} (hk : k < 4) :
    (s.loadAbort err pos).rd CF_SEAM_STATUS.BUSY k = b2n (s.refilling k) :=
  State.rd_showSeams_busy _ hk

end Sys2Proof.Machine
end

section
/-! PROOF. Two statements that the seam status refutes (O18, O19): an abort flushes the seams' FIFOs, and `CF_SEAM_STATUS` follows (06 R169,
R178), where both statements say that `CF_LD_STATUS.STATE` alone changes. -/

namespace Sys2Proof.Machine

/-- A load in LOADING with frame 0 of stope 0 in the FIFO of seam 0, as the seam's status shows. -/
def frameWaits : State :=
  { State.reset with
    regs := [(CF_LD_STATUS.STATE.key, 2), (CF_SEAM_STATUS.BUSY.key, 1), (CF_SEAM_STATUS.FIFO.key, 1)]
    loader := { Loader.cold with fifo := [⟨0, 0, [], 304⟩] } }

theorem frameWaits_shown : frameWaits.rd CF_SEAM_STATUS.FIFO = (frameWaits.loader.inSeam 0).length := by decide

/-- Refutes O18: ABORT in LOADING flushes the frame that waits in seam 0, so that `CF_SEAM_STATUS.FIFO` falls from 1 to 0, and the clause on
ABORT asks that every register but `CF_LD_STATUS.STATE` read as before. -/
theorem not_loadControl : ¬ Obligations.LoadControl := by
  intro h
  obtain ⟨-, -, hAbort, -⟩ := h frameWaits
  obtain ⟨t, he, -, -, hkept, -⟩ := hAbort (by decide) (by decide)
  have ht : t = frameWaits.loadAbort 15 0 := (Host.Outcome.next.inj he).symm
  have hfifo : t.rd CF_SEAM_STATUS.FIFO = frameWaits.rd CF_SEAM_STATUS.FIFO := hkept CF_SEAM_STATUS.FIFO 0 0 (by decide)
  rw [ht, State.rd_loadAbort_fifo _ _ _ (by decide), frameWaits_shown] at hfifo
  exact absurd hfifo (by decide)

/-- A load in HEADER with 256 bytes of 0 received, and `BUSY` of seam 0 standing at 1 with no re-fill in the seam, as the power-down of a stope
in REFILL leaves it. -/
def seamStaysBusy : State :=
  { State.reset with
    regs := [(CF_LD_STATUS.STATE.key, 1), (CF_SEAM_STATUS.BUSY.key, 1)]
    loader := { Loader.cold with stream := List.replicate 256 0 } }

theorem seamStaysBusy_header : seamStaysBusy.headerError (StreamHeader.ofBytes seamStaysBusy.loader.stream) = 1 := by decide +kernel

/-- A header received in full that fails a check aborts at offset 0 with the code of the first. -/
theorem exec_streamHeader_fails {s : State} (hstate : s.rd CF_LD_STATUS.STATE = 1) (hlen : 256 ≤ s.loader.received)
    (h : s.headerError (StreamHeader.ofBytes s.loader.stream) ≠ 0) :
    exec (.streamHeader .staged) s = .next (s.loadAbort (s.headerError (StreamHeader.ofBytes s.loader.stream)) 0) := by
  rw [exec_streamHeader, execStreamHeader, if_neg (c := s.ldState ≠ 1) (not_not.2 hstate), if_neg (Nat.not_lt.2 hlen)]
  exact congrArg _ (if_neg h)

/-- Refutes O19: the header's first check fails and the load aborts, by which `CF_SEAM_STATUS.BUSY` of seam 0 falls to 0, and the clause on a
header that fails asks that every register but `CF_LD_STATUS.STATE` read as before. -/
theorem not_loadStream : ¬ Obligations.LoadStream := by
  intro h
  obtain ⟨hHeader, -⟩ := h seamStaysBusy
  have hlen : 256 ≤ seamStaysBusy.loader.received := (List.length_replicate ..).ge
  have hfails : seamStaysBusy.headerError (StreamHeader.ofBytes seamStaysBusy.loader.stream) ≠ 0 := by
    rw [seamStaysBusy_header]
    decide
  obtain ⟨t, he, -, -, hkept, -⟩ := hHeader _ rfl (by decide) hlen hfails
  have ht : t = seamStaysBusy.loadAbort _ 0 := Host.Outcome.next.inj (he.symm.trans (exec_streamHeader_fails (by decide) hlen hfails))
  have hbusy : t.rd CF_SEAM_STATUS.BUSY = seamStaysBusy.rd CF_SEAM_STATUS.BUSY := hkept CF_SEAM_STATUS.BUSY 0 0 (by decide)
  rw [ht, State.rd_loadAbort_busy _ _ _ (by decide)] at hbusy
  exact absurd hbusy (by decide)

end Sys2Proof.Machine
end

section
/-! PROOF. Frame readback (O21; 06 R160, R174, R178). -/

namespace Sys2Proof.Machine

variable {s t : State} {k a n f : Nat}

/-- After a change of registers a change of the loader leaves the rest. -/
theorem RegsOnly.ld_rest (h : RegsOnly s t) (g : Loader → Loader) : { t.ld g with regs := s.regs, loader := s.loader } = s :=
  congrArg (State.ld · fun _ => s.loader) h

theorem exec_readback_busy (hk : k < 4) (h : s.rd CF_RB_STATUS.BUSY k ≠ 0) (a : Nat) :
    exec (.readback k a) s = .next (s.wr CF_RB_STATUS.RB_ERR 1 k) :=
  (need_pos (decide_eq_true hk) _).trans (congrArg _ (if_pos ((s.on_iff ..).2 h)))

/-- A request while none runs notes its address and then starts, or is refused where it names no frame of the seam. -/
theorem exec_readback_idle (hk : k < 4) (h : s.rd CF_RB_STATUS.BUSY k = 0) (a : Nat) : exec (.readback k a) s = .next
    (if (frameAddr a).map (fun p => p.1 / 160) = some k then
      ((s.wr CF_RB_CTRL.FADDR a k).ld (fun l => { l with readback := Tab.insert natLt (Tab.erase l.readback k) k a })).wr CF_RB_STATUS.BUSY 1 k
    else (s.wr CF_RB_CTRL.FADDR a k).wr CF_RB_STATUS.RB_ERR 1 k) := by
  rw [exec_readback, execReadback, need_pos (decide_eq_true hk), if_neg (by simp [State.on, h])]
  cases frameAddr a with
  | none => rfl
  | some p => simp

/-- The 64 words of a frame in the data registers of a seam's readback, as a reader's decode gives them. -/
def State.readbackShown (s : State) (k n f : Nat) : State :=
  (List.range 64).foldl (fun t w => t.wr CF_RB_DATA.DATA (((List.range 64).map (s.decodeWord n f)).getD w (0, 0)).1 k w) s

/-- A readback has ended: its status, and no readback of the seam in the loader. -/
def State.readbackEnded (s t : State) (k n f : Nat) : State :=
  ((((t.put CF_RB_STATUS.CORRECTED (((List.range 64).map (s.decodeWord n f)).any (fun x => decide (x.2 = 1))) k).put CF_RB_STATUS.UNCORR
    (((List.range 64).map (s.decodeWord n f)).any (fun x => decide (x.2 = 2))) k).wr CF_RB_STATUS.BUSY 0 k).ld
      (fun l => { l with readback := Tab.erase l.readback k }))

theorem exec_readbackDone_running (hk : k < 4) (h : s.loader.readback.lookup k = some a) (ha : frameAddr a = some (n, f)) :
    exec (.readbackDone k) s = .next (s.readbackEnded (s.readbackShown k n f) k n f) := by
  rw [exec_readbackDone, execReadbackDone, need_pos (decide_eq_true hk), h]
  simp only [ha, Option.getD_some]
  rfl

theorem State.readbackShown_regsOnly (s : State) (k n f : Nat) : RegsOnly s (s.readbackShown k n f) :=
  RegsOnly.foldl .refl (fun _ _ h => h.wr ..) _

theorem State.readbackEnded_rest (h : RegsOnly s t) (k n f : Nat) :
    { s.readbackEnded t k n f with regs := s.regs, loader := s.loader } = s :=
  RegsOnly.ld_rest (((h.wr ..).wr ..).wr ..) _

theorem State.rd_readbackShown (s : State) (k n f : Nat) {w : Nat} (hw : w < 64) :
    (s.readbackShown k n f).rd CF_RB_DATA.DATA k w = (s.decodeWord n f w).1 % 2 ^ 64 := by
  refine (read_foldl_each (read := fun t w => t.rd CF_RB_DATA.DATA k w)
    (v := fun w => (((List.range 64).map (s.decodeWord n f)).getD w (0, 0)).1 % 2 ^ 64) (fun t i j => ?_) _ s w).trans ?_
  · split
    · subst j
      exact State.rd_wr_same ..
    · rename_i h
      exact State.rd_wr_ne t (by simpa using h)
  · rw [if_pos (List.mem_range.2 hw), List.getD_eq_getElem?_getD, List.getElem?_map, List.getElem?_range hw, Option.map_some,
      Option.getD_some]

theorem State.rd_readbackEnded_data (s t : State) (k n f w : Nat) :
    (s.readbackEnded t k n f).rd CF_RB_DATA.DATA k w = t.rd CF_RB_DATA.DATA k w := by
  rw [State.readbackEnded, State.rd_ld, State.rd_wr_other _ (by decide), State.rd_put_other (by decide), State.rd_put_other (by decide)]

theorem State.rd_readbackEnded_busy (s t : State) (k n f : Nat) : (s.readbackEnded t k n f).rd CF_RB_STATUS.BUSY k = 0 := by
  rw [State.readbackEnded, State.rd_ld, State.rd_wr_fit (by decide)]

/-- A data frame without an upset decodes as loaded. -/
theorem State.decodeWord_clean (hf : f < 4320) {w : Nat} (h : s.frameMask n f w = 0) : s.decodeWord n f w = (s.frameWord n f w, 0) := by
  rw [State.decodeWord, if_neg (Nat.not_le.2 hf), h, if_pos rfl]

/-- No word of such a frame has an outcome other than clean. -/
theorem State.decodeWord_any_clean (hf : f < 4320) (h : ∀ w, w < 64 → s.frameMask n f w = 0) {c : Nat} (hc : c ≠ 0) :
    ((List.range 64).map (s.decodeWord n f)).any (fun x => decide (x.2 = c)) = false := by
  simp only [List.any_map, List.any_eq_false, List.mem_range, Function.comp, decide_eq_true_eq]
  intro w hw
  rw [State.decodeWord_clean hf (h w hw)]
  exact hc.symm

theorem State.rd_readbackEnded_clean (hf : f < 4320) (h : ∀ w, w < 64 → s.frameMask n f w = 0) (t : State) (k : Nat) :
    (s.readbackEnded t k n f).rd CF_RB_STATUS.CORRECTED k = 0 ∧ (s.readbackEnded t k n f).rd CF_RB_STATUS.UNCORR k = 0 := by
  rw [State.readbackEnded, State.decodeWord_any_clean hf h (by decide), State.decodeWord_any_clean hf h (by decide)]
  constructor
  · rw [State.rd_ld, State.rd_wr_other _ (by decide), State.rd_put_other (by decide), State.rd_put_flag (by decide)]
    rfl
  · rw [State.rd_ld, State.rd_wr_other _ (by decide), State.rd_put_flag (by decide)]
    rfl

/-- Settles O21: a request has one equation while one runs and one while none does; at the end of a readback each data register reads what its
own write left (`State.rd_readbackShown`). -/
theorem frameReadback : Obligations.FrameReadback := by
  intro s k a hk ha
  refine ⟨fun hbusy => ?busy, fun hidle hframe => ?refused, fun n f hidle hframe hseam => ?taken, fun n f hrun hframe hdata hclean => ?done⟩
  case busy => exact ⟨_, exec_readback_busy hk hbusy a, State.rd_wr_fit (by decide), State.regsKeptBut.refl.wr (by simp), rfl⟩
  case refused =>
    refine ⟨_, (exec_readback_idle hk hidle a).trans (congrArg _ (if_neg hframe)), State.rd_wr_fit (by decide), ?_, rfl⟩
    rw [State.rd_wr_other _ (by decide), State.rd_wr_other _ (by decide), hidle]
  case taken =>
    refine ⟨_, (exec_readback_idle hk hidle a).trans (congrArg _ (if_pos (by rw [hframe, Option.map_some, hseam]))),
      State.rd_wr_fit (by decide), ?_, ((State.regsKeptBut.refl.wr (by simp)).hidden rfl).wr (by simp), rfl⟩
    rw [State.rd_wr_other _ (by decide), State.rd_ld, State.rd_wr_fit ha]
  case done =>
    obtain ⟨hcorr, huncorr⟩ := State.rd_readbackEnded_clean hdata hclean (s.readbackShown k n f) k
    refine ⟨_, exec_readbackDone_running hk hrun hframe, State.rd_readbackEnded_busy .., hcorr, huncorr, fun w hw => ?_,
      State.readbackEnded_rest (s.readbackShown_regsOnly ..) ..⟩
    rw [State.rd_readbackEnded_data, State.rd_readbackShown s k n f hw, State.decodeWord_clean hdata (hclean w hw)]

end Sys2Proof.Machine
end

section
/-! PROOF. The frame commands of a stream (O20; 06 R158 to R163, R165). -/

namespace Sys2Proof.Machine

/-- In LOADING the next command is read from `b`, the plaintext left of the oldest segment `g`, released, with no frame stalled. -/
structure State.Reading (s : State) (g : Segment) (r : List Segment) (b : List Nat) : Prop where
  segs : s.loader.segs = g :: r
  body : g.body = some b
  free : s.loader.stalled = []
  loading : s.rd CF_LD_STATUS.STATE = 2
  unended : s.loader.ended = false

variable {s : State} {g : Segment} {r : List Segment} {b : List Nat}

/-- The stream offset of the command at the front of `b`. -/
def Segment.offset (g : Segment) (b : List Nat) : Nat := g.start + 32 + (g.plen - b.length)

/-- The plaintext after a command with `n` bytes of data, which fill whole blocks of 16 bytes. -/
def afterCommand (b : List Nat) (n : Nat) : List Nat := b.drop (16 + (n + 15) / 16 * 16)

/-- The front command has been taken from its segment. -/
def State.taken (s : State) (g : Segment) (r : List Segment) (rest : List Nat) : State :=
  s.ld (fun l => { l with segs := if rest.isEmpty then r else { g with body := some rest } :: r })

theorem State.taken_more (s : State) (g : Segment) (r : List Segment) {rest : List Nat} (h : rest ≠ []) :
    s.taken g r rest = { s with loader := { s.loader with segs := { g with body := some rest } :: r } } := by
  rw [State.taken, if_neg (by simpa using h)]
  rfl

theorem State.taken_last (s : State) (g : Segment) (r : List Segment) :
    s.taken g r [] = { s with loader := { s.loader with segs := r } } := rfl

/-- The command at the front of `b` is well formed, for a size of its data and a form rule (06 R158 to R163). -/
def WellFormedAt (size : IbeusHdr → Nat) (form : IbeusHdr → Bool) (b : List Nat) (h : IbeusHdr) : Prop :=
  h.reserved = false ∧ form h = true ∧ 16 + size h ≤ b.length

section Prelude

variable {op : Nat} {size : IbeusHdr → Nat} {form : IbeusHdr → Bool} {act : State → Segment → Nat → IbeusHdr → List Nat → State}

/-- It is this command's turn where its opcode is at the front, or one that is unknown. -/
theorem State.Reading.turn (hs : s.Reading g r b) (hop : (IbeusHdr.ofBytes b).op = op ∨ (IbeusHdr.ofBytes b).op ∉ ibeusOps) :
    ¬((s.ldState ≠ 2 ∧ s.ldState ≠ 3) ∨ s.loader.stalled ≠ [] ∨ ((IbeusHdr.ofBytes b).op ≠ op ∧ (IbeusHdr.ofBytes b).op ∈ ibeusOps)) := by
  have hstate : s.ldState = 2 := hs.loading
  have hfree := hs.free
  tauto

/-- A command of an unknown opcode, or of the one expected and malformed, aborts with COMMAND at its offset. -/
theorem State.Reading.malformed_aborts (hs : s.Reading g r b)
    (hop : (IbeusHdr.ofBytes b).op = op ∨ (IbeusHdr.ofBytes b).op ∉ ibeusOps)
    (hbad : (IbeusHdr.ofBytes b).op = op → ¬WellFormedAt size form b (IbeusHdr.ofBytes b)) :
    (s.ibeus op size form act).Aborts 9 (g.offset b) := by
  have hrefuse : (IbeusHdr.ofBytes b).op ≠ op ∨ (IbeusHdr.ofBytes b).reserved = true ∨ ¬form (IbeusHdr.ofBytes b) = true ∨
      b.length < 16 + size (IbeusHdr.ofBytes b) := by
    simp only [WellFormedAt, Bool.eq_false_iff, ← Nat.not_lt] at hbad
    tauto
  have habort : s.ibeus op size form act = s.loadAbort 9 (g.offset b) := by
    simp only [State.ibeus, hs.segs, hs.body, if_neg (hs.turn hop), if_pos hrefuse]
    rfl
  exact habort ▸ s.loadAbort_aborts 9 (g.offset b)

theorem State.Reading.unknown_aborts (hs : s.Reading g r b) (h : (IbeusHdr.ofBytes b).op ∉ ibeusOps) (hop : op ∈ ibeusOps) :
    (s.ibeus op size form act).Aborts 9 (g.offset b) :=
  hs.malformed_aborts (.inr h) fun e => absurd (e ▸ hop) h

/-- A well-formed command of the opcode expected is carried out, where it aborts, or leaves plaintext in its segment, or ends the stream. -/
theorem State.Reading.ibeus_taken (hs : s.Reading g r b) {h : IbeusHdr} {u : State} (hh : h = IbeusHdr.ofBytes b) (hop : h.op = op)
    (hwf : WellFormedAt size form b h)
    (hu : act (s.taken g r (afterCommand b (size h))) g (g.offset b) h ((b.drop 16).take (size h)) = u)
    (hend : u.rd CF_LD_STATUS.STATE = 4 ∨ afterCommand b (size h) ≠ [] ∨ u.loader.ended = true) : s.ibeus op size form act = u := by
  subst hh
  obtain ⟨hres, hform, hlen⟩ := hwf
  have hgood : ¬((IbeusHdr.ofBytes b).op ≠ op ∨ (IbeusHdr.ofBytes b).reserved = true ∨ ¬form (IbeusHdr.ofBytes b) = true ∨
      b.length < 16 + size (IbeusHdr.ofBytes b)) := by
    simp [hop, hres, hform, hlen]
  have hopen : ¬(s.loader.ended = true ∧ op ≠ 0) := by simp [hs.unended]
  have hact : s.ibeus op size form act = if u.ldState = 4 then u else
      if (afterCommand b (size (IbeusHdr.ofBytes b))).isEmpty = true ∧ g.last = true ∧ ¬u.loader.ended = true then u.loadAbort 14 g.start
      else u := by
    simp only [State.ibeus, hs.segs, hs.body, if_neg (hs.turn (.inl hop)), if_neg hgood, if_neg hopen]
    rw [← hu]
    rfl
  rw [hact]
  split
  · rfl
  · rename_i hstate
    refine if_neg ?_
    rintro ⟨hrest, -, hnotEnded⟩
    rcases hend with h4 | hmore | hended
    · exact hstate h4
    · exact hmore (List.isEmpty_iff.1 hrest)
    · exact hnotEnded hended

/-- A command that finds an error aborts with it at its offset, whatever it leaves of its segment. -/
theorem State.Reading.taken_aborts (hs : s.Reading g r b) {h : IbeusHdr} (hh : h = IbeusHdr.ofBytes b) (hop : h.op = op)
    (hwf : WellFormedAt size form b h) {err : Nat}
    (hact : act (s.taken g r (afterCommand b (size h))) g (g.offset b) h ((b.drop 16).take (size h)) =
      (s.taken g r (afterCommand b (size h))).loadAbort err (g.offset b)) :
    (s.ibeus op size form act).Aborts err (g.offset b) := by
  have habort := (s.taken g r (afterCommand b (size h))).loadAbort_aborts err (g.offset b)
  rw [hs.ibeus_taken hh hop hwf hact (.inl habort.1)]
  exact habort

end Prelude

theorem afterCommand_ne_nil {n : Nat} (h : 16 + (n + 15) / 16 * 16 < b.length) : afterCommand b n ≠ [] := by
  rw [afterCommand, ne_eq, List.drop_eq_nil_iff]
  omega

/-! ### Frames on their way to the seams (06 R165) -/

theorem pumpFrames_room {fifo : List FrameJob} {j : FrameJob}
    (h : (fifo.filter (fun k => decide (k.stope / 160 = j.stope / 160))).length < 512) : pumpFrames fifo [j] = (fifo ++ [j], []) := by
  rw [pumpFrames, if_pos h, pumpFrames]

/-- One frame that finds room enters the FIFO of its seam. -/
theorem State.pump_loader {j : FrameJob} (hs : s.loader.stalled = [j]) (h : (s.loader.inSeam (j.stope / 160)).length < 512) :
    s.pump.loader = { s.loader with fifo := s.loader.fifo ++ [j], stalled := [] } := by
  rw [State.pump, State.showSeams_loader, State.ld_loader, hs, pumpFrames_room h]

theorem State.rd_pump_other {f : Fld} (h : f.blk ≠ .cfs) (s : State) (u j : Nat) : s.pump.rd f u j = s.rd f u j :=
  State.rd_showSeams_other h _ u j

/-! ### Memory units (06 R162) -/

theorem le_lt (b : List Nat) (o n : Nat) : le b o n < 2 ^ (8 * n) := by
  induction n with
  | zero => simp [le]
  | succ n ih =>
    have hbyte : b.getD (o + n) 0 % 256 * 2 ^ (8 * n) ≤ 255 * 2 ^ (8 * n) := Nat.mul_le_mul_right _ (by omega)
    have hstep : le b o (n + 1) = le b o n + b.getD (o + n) 0 % 256 * 2 ^ (8 * n) := by
      rw [le, List.range_succ, List.foldl_append]
      rfl
    have hpow : 2 ^ (8 * (n + 1)) = 2 ^ (8 * n) * 256 := by rw [Nat.mul_succ, pow_add]; rfl
    omega

theorem word_lt (b : List Nat) (o : Nat) : le b o 8 < 2 ^ 64 := le_lt b o 8

theorem State.putUnit_regs (s : State) (n m u v err : Nat) : (s.putUnit n m u v err).regs = s.regs := rfl

theorem State.putUnit_loader (s : State) (n m u v err : Nat) : (s.putUnit n m u v err).loader = s.loader := rfl

theorem unitsOf_le (m : Nat) : unitsOf m ≤ 2 ^ 14 := by
  unfold unitsOf
  split <;> decide

/-- The address of a unit names it, with the reserved bits 0 and a stope index that exists. -/
theorem memAddr_unit {n m u : Nat} (hn : n < 640) (hm : m < 18) (hu : u < 2 ^ 14) {a : Nat}
    (ha : a = n / 160 * 2 ^ 30 + n % 160 * 2 ^ 22 + m * 2 ^ 17 + u) :
    memAddr a = (n, m, u) ∧ bitsOf a 14 3 = 0 ∧ bitsOf a 22 8 < 160 := by
  simp only [memAddr, bitsOf, Nat.shiftRight_eq_div_pow, Prod.mk.injEq]
  omega

/-! ### The commands, each where it is taken -/

variable {h : IbeusHdr}

theorem State.Reading.exec_nop_taken (hs : s.Reading g r b) (hh : h = IbeusHdr.ofBytes b) (hop : h.op = 0) (hres : h.reserved = false)
    (haddr : h.addr = 0) (harg : h.arg = 0) (hlen : 16 + 16 * h.count < b.length) :
    exec (.nop .staged) s = .next (s.taken g r (afterCommand b (16 * h.count))) :=
  congrArg Host.Outcome.next (hs.ibeus_taken hh hop ⟨hres, decide_eq_true ⟨haddr, harg⟩, hlen.le⟩ rfl
    (.inr (.inl (afterCommand_ne_nil (by omega)))))

/-- The next frame of its stope stands at the FIFO of its seam. -/
def State.frameStands (s : State) (j : FrameJob) : State :=
  s.ld (fun l => { l with
    stalled := [j], nextFrame := Tab.set natLt 0 l.nextFrame j.stope (j.frame + 1), dispatched := l.dispatched + 1 })

theorem State.Reading.exec_write_taken (hs : s.Reading g r b) (hh : h = IbeusHdr.ofBytes b) (hop : h.op = 1) (hres : h.reserved = false)
    (hcount : h.count = 1) (harg : h.arg = 0) (hlen : 16 + 512 < b.length) {n f : Nat} (hframe : frameAddr h.addr = some (n, f))
    (hset : n ∈ s.loader.set) (hnext : Tab.get 0 s.loader.nextFrame n = f) (hf : f < 4608) :
    exec (.write .staged .staged) s = .next
      ((s.taken g r (b.drop 528)).frameStands ⟨n, f, wordsOf ((b.drop 16).take 512) 64, g.offset b⟩).pump := by
  have hrest : afterCommand b (512 * h.count) ≠ [] := afterCommand_ne_nil (by omega)
  have hnow : ¬(Tab.get 0 s.loader.nextFrame n ≠ f ∨ 4608 < f + 1) := by omega
  have hdata : 16 + 512 * h.count ≤ b.length := by omega
  refine congrArg Host.Outcome.next (hs.ibeus_taken hh hop ⟨hres, decide_eq_true (by omega), hdata⟩ ?_ (.inr (.inl hrest)))
  rw [hframe, hcount]
  exact (if_neg (not_not.2 hset)).trans (if_neg hnow)

theorem State.Reading.exec_meminit_taken (hs : s.Reading g r b) (hh : h = IbeusHdr.ofBytes b) (hop : h.op = 2) (hres : h.reserved = false)
    (hcount : h.count = 1) (harg : h.arg = 0) (hlen : 32 < b.length) {n m u : Nat}
    (haddr : memAddr h.addr = (n, m, u) ∧ bitsOf h.addr 14 3 = 0 ∧ bitsOf h.addr 22 8 < 160) (hset : n ∈ s.loader.set) (hm : m < 18)
    (hu : u < unitsOf m) : exec (.meminit .staged .staged) s = .next
      ((s.taken g r (b.drop 32)).putUnit n m u (le ((b.drop 16).take 8) 0 8) 0) := by
  obtain ⟨hplace, hreserved, hstope⟩ := haddr
  have hrest : afterCommand b (8 * h.count) ≠ [] := afterCommand_ne_nil (by omega)
  have hin : ¬(160 ≤ bitsOf h.addr 22 8 ∨ n ∉ s.loader.set) := by simp [hset, hstope]
  have hdata : 16 + 8 * h.count ≤ b.length := by omega
  refine congrArg Host.Outcome.next (hs.ibeus_taken hh hop ⟨hres, ?_, hdata⟩ ?_ (.inr (.inl hrest)))
  · dsimp only
    rw [hplace]
    exact decide_eq_true ⟨hcount.ge, by omega, harg, hreserved, hm, by rw [hcount]; exact hu⟩
  · rw [hplace, hcount]
    exact if_neg hin

theorem State.Reading.exec_ibeusEnd_taken (hs : s.Reading g r b) (hh : h = IbeusHdr.ofBytes b) (hop : h.op = 15)
    (hres : h.reserved = false) (hcount : h.count = 0) (haddr : h.addr = 0) (hlen : b.length = 16) {f : StreamHeader}
    (hlast : g.last = true) (hheader : s.loader.header = some f) (harg : h.arg = f.frames) (hdisp : s.loader.dispatched = f.frames) :
    exec (.ibeusEnd .staged) s = .next (((s.taken g r []).ld (fun l => { l with ended := true })).wr CF_LD_STATUS.STATE 3) := by
  have hrest : afterCommand b 0 = [] := List.drop_eq_nil_iff.2 hlen.le
  refine congrArg Host.Outcome.next (hs.ibeus_taken hh hop ⟨hres, decide_eq_true ⟨hcount, haddr⟩, hlen.ge⟩ ?_ (.inr (.inr rfl)))
  rw [hrest]
  refine if_neg ?_
  simp [State.taken, hlast, hheader, harg, hdisp]

/-! ### The obligation -/

/-- Settles O20: each clause finds its command malformed (`State.Reading.malformed_aborts`), aborting (`State.Reading.ibeus_aborts`) or taken
(`State.Reading.ibeus_taken`). -/
theorem ibeusCommands : Obligations.IbeusCommands := by
  intro s g r b h pos hsegs hbody hh hpos hstalled hstate hended
  have hs : s.Reading g r b := ⟨hsegs, hbody, hstalled, hstate, hended⟩
  have hoff : pos = g.offset b := hpos
  subst hoff
  refine ⟨fun c hc hop => ?unknown, fun c hc => ?malformed, fun hop hres haddr harg hlen => ?nop,
    fun n f hop hres h1 hmax harg hlen hframe hset => ?outside, fun hop hres h1 hmax harg hlen hframe => ?noFrame,
    fun n f hop hres hcount harg hlen hframe hset hnext hf hroom => ?write,
    fun n m u hop hres hcount harg hlen haddr hn hset hm hu => ?meminit,
    fun f hop hres hlast hheader hcount haddr harg hdisp hlen => ?finish,
    fun f hop hres hheader hcount haddr hlen hbad => ?wrongEnd⟩
  case unknown =>
    have hunknown : (IbeusHdr.ofBytes b).op ∉ ibeusOps := hh ▸ hop
    rcases hc with rfl | rfl | rfl | rfl
    · exact ⟨_, rfl, hs.unknown_aborts hunknown (by decide)⟩
    · exact ⟨_, rfl, hs.unknown_aborts hunknown (by decide)⟩
    · exact ⟨_, rfl, hs.unknown_aborts hunknown (by decide)⟩
    · exact ⟨_, rfl, hs.unknown_aborts hunknown (by decide)⟩
  case malformed =>
    subst hh
    rcases hc with ⟨rfl, hop, hbad⟩ | ⟨rfl, hop, hbad⟩ | ⟨rfl, hop, hbad⟩ | ⟨rfl, hop, hbad⟩
    · exact ⟨_, rfl, hs.malformed_aborts (.inl hop) (by grind [WellFormedAt])⟩
    · exact ⟨_, rfl, hs.malformed_aborts (.inl hop) (by grind [WellFormedAt])⟩
    · exact ⟨_, rfl, hs.malformed_aborts (.inl hop) (by grind [WellFormedAt])⟩
    · exact ⟨_, rfl, hs.malformed_aborts (.inl hop) (by grind [WellFormedAt])⟩
  case nop =>
    have hblocks : 16 + (16 * h.count + 15) / 16 * 16 = 16 + 16 * h.count := by omega
    have hrest : afterCommand b (16 * h.count) ≠ [] := afterCommand_ne_nil (by omega)
    rw [hs.exec_nop_taken hh hop hres haddr harg hlen, State.taken_more _ _ _ hrest, afterCommand, hblocks]
  case outside =>
    refine ⟨_, rfl, hs.taken_aborts hh hop ⟨hres, decide_eq_true ⟨h1, hmax, harg⟩, hlen⟩ ?_⟩
    rw [hframe]
    exact if_pos hset
  case noFrame =>
    refine ⟨_, rfl, hs.taken_aborts hh hop ⟨hres, decide_eq_true ⟨h1, hmax, harg⟩, hlen⟩ ?_⟩
    rw [hframe]
  case write =>
    have hrest : b.drop 528 ≠ [] := by rw [ne_eq, List.drop_eq_nil_iff]; omega
    have hpump := State.pump_loader (s := (s.taken g r (b.drop 528)).frameStands ⟨n, f, wordsOf ((b.drop 16).take 512) 64, g.offset b⟩)
      rfl hroom
    refine ⟨_, hs.exec_write_taken hh hop hres hcount harg hlen hframe hset hnext hf, ?_, ?_, ?_, ?_, ?_, ?_⟩
    · rw [hpump]
      rfl
    · rw [hpump]
    · rw [hpump, State.taken_more _ _ _ hrest]
      rfl
    · rw [hpump]
      exact Tab.get_set_same natLt 0 s.loader.nextFrame n (f + 1)
    · rw [hpump]
      rfl
    · exact (State.rd_pump_other (by decide) _ 0 0).trans hstate
  case meminit =>
    have hrest : b.drop 32 ≠ [] := by rw [ne_eq, List.drop_eq_nil_iff]; omega
    have hplace := memAddr_unit hn hm (lt_of_lt_of_le hu (unitsOf_le m)) haddr
    refine ⟨_, hs.exec_meminit_taken hh hop hres hcount harg hlen hplace hset hm hu, ?_, State.unitErr_putUnit_same .., State.putUnit_regs .., ?_⟩
    · rw [State.unitRaw_putUnit_same, Nat.mod_eq_of_lt (word_lt ..)]
    · rw [State.putUnit_loader, State.taken_more _ _ _ hrest]
  case finish =>
    exact ⟨_, hs.exec_ibeusEnd_taken hh hop hres hcount haddr hlen hlast hheader harg hdisp, State.rd_wr_fit (by decide), rfl,
      (State.regsKeptBut.refl.hidden rfl).wr (by simp)⟩
  case wrongEnd =>
    refine ⟨_, rfl, hs.taken_aborts hh hop ⟨hres, decide_eq_true ⟨hcount, haddr⟩, hlen⟩ (if_pos ?_)⟩
    simpa [State.taken, hheader] using hbad

end Sys2Proof.Machine
end

section
/-! PROOF. Isolation and release of a stope, and spoil clears (O22; 07 R184 to R186, R205). -/

namespace Sys2Proof.Machine

variable {s : State} {n : Nat} {both : Bool}

/-! ### Requests -/

/-- A request stands: the pending bit of the other kind is cancelled, and that of its own kind is set where it starts something (07 R184,
R185). -/
def State.isoRequest (s : State) (own other : Fld) (n : Nat) (starts : Bool) : State :=
  if starts then (s.wr other 0 n).wr own 1 n else s.wr other 0 n

section
variable {own other : Fld}

theorem State.rd_isoRequest_own (h : own.id ≠ other.id) (hw : 1 < 2 ^ own.wid) (s : State) (n : Nat) (starts : Bool) :
    (s.isoRequest own other n starts).rd own n = if starts then 1 else s.rd own n := by
  cases starts with
  | true => exact State.rd_wr_fit hw
  | false => exact State.rd_wr_other s h

theorem State.rd_isoRequest_other (h : other.id ≠ own.id) (s : State) (n : Nat) (starts : Bool) :
    (s.isoRequest own other n starts).rd other n = 0 := by
  have hcancel : (s.wr other 0 n).rd other n = 0 := State.rd_wr_fit (Nat.two_pow_pos _)
  cases starts with
  | true => exact (State.rd_wr_other _ h).trans hcancel
  | false => exact hcancel

theorem State.isoRequest_regsKeptBut {ks : List Key} (hown : own.key n ∈ ks) (hother : other.key n ∈ ks) (s : State) (starts : Bool) :
    s.regsKeptBut (s.isoRequest own other n starts) ks := by
  cases starts with
  | true => exact (State.regsKeptBut.refl.wr hother).wr hown
  | false => exact State.regsKeptBut.refl.wr hother

theorem State.isoRequest_regsOnly (s : State) (own other : Fld) (n : Nat) (starts : Bool) : RegsOnly s (s.isoRequest own other n starts) := by
  cases starts with
  | true => exact (RegsOnly.refl.wr ..).wr ..
  | false => exact RegsOnly.refl.wr ..

end

theorem exec_isolate_refused (hn : n < 640) (h : both = true ∨ s.stopeState n = 5 ∨ s.stopeState n = 4) :
    exec (.isolate n both) s = .next (s.wr ST_STATUS.ISO_ERR 1 n) :=
  (need_pos (decide_eq_true hn) _).trans (congrArg _ (if_pos h))

theorem exec_isolate_accepted (hn : n < 640) (h5 : s.stopeState n ≠ 5) (h4 : s.stopeState n ≠ 4) :
    exec (.isolate n false) s = .next (s.isoRequest ST_STATUS.ISO_PEND ST_STATUS.REL_PEND n (!s.isolated n)) := by
  have htaken : ¬(false = true ∨ s.stopeState n = 5 ∨ s.stopeState n = 4) := by simp [h5, h4]
  refine (need_pos (decide_eq_true hn) _).trans (congrArg _ ((if_neg htaken).trans ?_))
  cases h : s.isolated n <;> rfl

/-- What refuses a release (07 R185). -/
theorem exec_release_refused (hn : n < 640) (h : both = true ∨ s.stopeState n = 5 ∨ s.stopeState n = 4 ∨ s.configured n = false ∨
      s.loading n = true ∨ (s.stope n).refill.isSome = true ∨ s.rd ST_TREE_STATUS.SRC_CUR n ≠ 0 ∨ s.rd ST_TREE_STATUS.SWITCHING n ≠ 0) :
    exec (.release n both) s = .next (s.wr ST_STATUS.ISO_ERR 1 n) := by
  rw [← Bool.not_eq_true, ← State.on_iff s ST_TREE_STATUS.SWITCHING] at h
  exact (need_pos (decide_eq_true hn) _).trans (congrArg _ (if_pos h))

theorem exec_release_accepted (hn : n < 640) (h5 : s.stopeState n ≠ 5) (h4 : s.stopeState n ≠ 4) (hconf : s.configured n = true)
    (hload : s.loading n = false) (hrefill : (s.stope n).refill = none) (hsrc : s.rd ST_TREE_STATUS.SRC_CUR n = 0)
    (hswitch : s.rd ST_TREE_STATUS.SWITCHING n = 0) :
    exec (.release n false) s = .next (s.isoRequest ST_STATUS.REL_PEND ST_STATUS.ISO_PEND n (s.isolated n)) := by
  refine (need_pos (decide_eq_true hn) _).trans (congrArg _ (if_neg ?_))
  simp [State.on_iff, h5, h4, hconf, hload, hrefill, hsrc, hswitch]

/-! ### Their effect between strokes -/

theorem exec_isoEffect_inStroke (hn : n < 640) (h : s.winder.inStroke = true) : exec (.isoEffect n) s = .next s :=
  (need_pos (decide_eq_true hn) _).trans (congrArg _ (if_pos h))

/-- The isolation bit is set in place of the pending isolation (07 R186). -/
def State.isolationShown (s : State) (n : Nat) : State := (s.wr ST_STATUS.ISO_PEND 0 n).wr ST_STATUS.ISOLATED 1 n

/-- The stope is isolated: one in use leaves use, and the scrubbers of its seam follow (07 R186, R190). -/
def State.isolate (s : State) (n : Nat) : State :=
  (if s.inUse n then (s.isolationShown n).leaveUse n else s.isolationShown n).scrubsMeet n

theorem exec_isoEffect_isolates (hn : n < 640) (hstroke : s.winder.inStroke = false) (hpend : s.rd ST_STATUS.ISO_PEND n ≠ 0) :
    exec (.isoEffect n) s = .next (s.isolate n) :=
  (need_pos (decide_eq_true hn) _).trans
    (congrArg _ ((if_neg (by simp [hstroke])).trans (if_pos ((s.on_iff ..).2 hpend))))

/-- Leaving use and the scrubbers that follow touch no register of the stope. -/
theorem State.isolate_moves (s : State) (n : Nat) :
    Moves (Foot.only [.regs .sb, .scrubs, .pins, .events, .sent, .stopes]) (s.isolationShown n) (s.isolate n) := by
  refine State.scrubsMeet_moves (Sub.list rfl rfl) ?_
  split
  · exact State.leaveUse_moves (Sub.list rfl rfl) Moves.refl
  · exact Moves.refl

/-- The pending release has cleared the isolation bit and brought the stope's divider to phase 0 of slot 0 (07 R186). -/
def State.releaseShown (s : State) (n : Nat) : State :=
  (((s.wr ST_STATUS.REL_PEND 0 n).wr ST_STATUS.ISOLATED 0 n).wr ST_TREE_STATUS.LOCAL_CTX 0 n).wr ST_TREE_STATUS.LOCAL_PHASE 0 n

theorem exec_isoEffect_releases (hn : n < 640) (hstroke : s.winder.inStroke = false) (hiso : s.rd ST_STATUS.ISO_PEND n = 0)
    (hpend : s.rd ST_STATUS.REL_PEND n ≠ 0) :
    exec (.isoEffect n) s = .next ((s.releaseShown n).updStope n (fun x => { x with usePending := true })) := by
  have hnone : ¬s.on ST_STATUS.ISO_PEND n = true := by simp [State.on_iff, hiso]
  exact (need_pos (decide_eq_true hn) _).trans
    (congrArg _ ((if_neg (by simp [hstroke])).trans ((if_neg hnone).trans (if_pos ((s.on_iff ..).2 hpend)))))

/-! ### Spoil clears -/

/-- Fields of one unit, of different numbers, all read the value that each is set to. -/
theorem State.rd_foldl_wr_unit {l : List Fld} (hl : (l.map Fld.id).Nodup) {f : Fld} (hf : f ∈ l) (v u : Nat) (t : State) :
    (l.foldl (fun t g => t.wr g v u) t).rd f u = v % 2 ^ f.wid := by
  obtain ⟨before, after, rfl⟩ := List.append_of_mem hf
  rw [List.map_append, List.map_cons] at hl
  have hlast : f.id ∉ after.map Fld.id := (List.nodup_cons.1 hl.of_append_right).1
  rw [List.foldl_append, List.foldl_cons,
    State.rd_foldl_wr_other (fun g hg e => hlast (List.mem_map.2 ⟨g, hg, e.symm⟩)), State.rd_wr_same]

theorem State.clearSpoil_regsOnly (s : State) (n : Nat) : RegsOnly s (s.clearSpoil n) :=
  RegsOnly.foldl (RegsOnly.foldl .refl (fun _ _ h => h.wr ..) _) (fun _ _ h => h.wr ..) _

/-- A spoil flag and its causes (07 R205). -/
def spoilFields : List Fld :=
  [ST_SPOIL.SPOIL, ST_SPOIL.C_CORR, ST_SPOIL.C_REPAIR, ST_SPOIL.C_LOST, ST_SPOIL.C_SLIP, ST_SPOIL.C_MEMUE]

/-- The summary that follows a clear stands in the scrubbers' registers. -/
theorem State.putSpoilBit_sb (s : State) (n : Nat) (v : Bool) : Moves (Foot.only [.regs .sb]) s (s.putSpoilBit n v) :=
  State.putSpoilBit_moves (Sub.list rfl rfl) Moves.refl

theorem State.clearSpoil_eq (s : State) (n : Nat) :
    s.clearSpoil n = (spoilFields.foldl (fun t f => t.wr f 0 n) s).putSpoilBit n false := rfl

theorem State.rd_clearSpoil (s : State) (n : Nat) {f : Fld} (hf : f ∈ spoilFields) : (s.clearSpoil n).rd f n = 0 := by
  have hst : ∀ g ∈ spoilFields, Part.regs g.blk ∉ [Part.regs .sb] := by decide
  rw [State.clearSpoil_eq, (State.putSpoilBit_sb _ n false).rd_kept (hst f hf), State.rd_foldl_wr_unit (by decide) hf, Nat.zero_mod]

/-! ### The obligation -/

/-- Settles O22: each case of a command is one equation. What follows an isolation, and the summary that follows a spoil clear, do not touch
the registers of the stope. -/
theorem isolation : Obligations.Isolation := by
  intro s n hn
  refine ⟨fun both h => ?isolateRefused, fun h5 h4 => ?isolateTaken, fun both h => ?releaseRefused,
    fun h5 h4 hconf hload hrefill hsrc hswitch => ?releaseTaken, exec_isoEffect_inStroke hn, fun hstroke hpend => ?isolates,
    fun hstroke hiso hpend => ?releases, ?spoil⟩
  case isolateRefused =>
    exact ⟨_, exec_isolate_refused hn h, State.rd_wr_fit (by decide), State.regsKeptBut.refl.wr (by simp), rfl⟩
  case isolateTaken =>
    refine ⟨_, exec_isolate_accepted hn h5 h4, ?_, State.rd_isoRequest_other (by decide) ..,
      State.isoRequest_regsKeptBut (by simp) (by simp) _ _, State.isoRequest_regsOnly ..⟩
    rw [State.rd_isoRequest_own (by decide) (by decide)]
    cases s.isolated n <;> rfl
  case releaseRefused =>
    exact ⟨_, exec_release_refused hn h, State.rd_wr_fit (by decide), State.regsKeptBut.refl.wr (by simp), rfl⟩
  case releaseTaken =>
    exact ⟨_, exec_release_accepted hn h5 h4 hconf hload hrefill hsrc hswitch, State.rd_isoRequest_own (by decide) (by decide) ..,
      State.rd_isoRequest_other (by decide) .., State.isoRequest_regsKeptBut (by simp) (by simp) _ _, State.isoRequest_regsOnly ..⟩
  case isolates =>
    have kept := fun (f : Fld) (hf : Part.regs f.blk ∉ _) => (s.isolate_moves n).rd_kept hf n 0
    refine ⟨_, exec_isoEffect_isolates hn hstroke hpend, ?_, ?_⟩
    · rw [kept _ (by decide), State.isolationShown, State.rd_wr_other _ (by decide), State.rd_wr_fit (by decide)]
    · rw [kept _ (by decide), State.isolationShown, State.rd_wr_fit (by decide)]
  case releases =>
    refine ⟨_, exec_isoEffect_releases hn hstroke hiso hpend, ?_, ?_, ?_, ?_, State.stope_updStope_same .., rfl⟩
    · rw [State.rd_updStope, State.releaseShown, State.rd_wr_other _ (by decide), State.rd_wr_other _ (by decide),
        State.rd_wr_other _ (by decide), State.rd_wr_fit (by decide)]
    · rw [State.rd_updStope, State.releaseShown, State.rd_wr_other _ (by decide), State.rd_wr_other _ (by decide),
        State.rd_wr_fit (by decide)]
    · rw [State.rd_updStope, State.releaseShown, State.rd_wr_other _ (by decide), State.rd_wr_fit (by decide)]
    · rw [State.rd_updStope, State.releaseShown, State.rd_wr_fit (by decide)]
  case spoil =>
    exact ⟨_, need_pos (decide_eq_true hn) _, fun f hf => s.rd_clearSpoil n hf, s.clearSpoil_regsOnly n⟩

end Sys2Proof.Machine
end

section
/-! PROOF. Refused Winder commands (O26; 08 R225, R226). -/

namespace Sys2Proof.Machine

variable {s t : State} {c : Instr} {op arg : Nat} {st trig : Bool}

/-! ### What is due at the present boundary (08 R213) -/

theorem State.sampleDue_congr (hw : t.winder = s.winder) (ht : t.tally = s.tally) : t.sampleDue = s.sampleDue := by
  rw [State.sampleDue, State.sampleDue, hw, ht]

theorem State.stopDue_congr (hw : t.winder = s.winder) (ht : t.tally = s.tally) : t.stopDue = s.stopDue := by
  rw [State.stopDue, State.stopDue, hw, ht]

/-- No run ends where none is on, where a stroke is on, where a sample comes first, or where no stop is due. -/
theorem State.settle_still (h : s.rd WD_STATUS.STATE ≠ 2 ∨ s.winder.inStroke = true ∨ s.sampleDue.isSome = true ∨ s.stopDue = none) :
    s.settle = s := by
  unfold State.settle
  rcases h with hstate | hstroke | hsample | hstop
  · simp [State.wdState, hstate]
  · simp [hstroke]
  · simp [Option.isNone_eq_false_iff.2 hsample]
  · simp [hstop]

/-! ### Registers and interrupts -/

/-- A change of registers, and what a request on an MSI-X vector changes (12 R335). -/
def Signals (s t : State) : Prop := { t with regs := s.regs, msix := s.msix, sent := s.sent } = s

/-- What reads neither the registers nor MSI-X nor what has gone out is kept. -/
theorem Signals.keeps {α : Type} (h : Signals s t) (g : State → α)
    (hg : ∀ x r m e, g { x with regs := r, msix := m, sent := e } = g x := by exact fun _ _ _ _ => rfl) : g t = g s :=
  (hg t s.regs s.msix s.sent).symm.trans (congrArg g h)

theorem Signals.refl : Signals s s := rfl

theorem Signals.wr (h : Signals s t) (f : Fld) (v u j : Nat) : Signals s (t.wr f v u j) := h

theorem Signals.requestVector (h : Signals s t) (v : Nat) : Signals s (t.requestVector v) := by
  unfold State.requestVector
  split_ifs
  · exact h
  · exact h
  · exact h
  · exact h

theorem Signals.wdIrq (h : Signals s t) (b : Nat) : Signals s (t.wdIrq b) := by
  unfold State.wdIrq State.raise
  split_ifs
  · exact h
  · exact Signals.requestVector (h.wr ..) _
  · exact h.wr ..

theorem State.wdIrq_winder (s : State) (b : Nat) : (s.wdIrq b).winder = s.winder := (Signals.refl.wdIrq b).keeps State.winder

theorem State.rd_wdIrq_other {f : Fld} (h : f.id ≠ WD_IRQ_STATUS.SRC.id) (s : State) (b u j : Nat) : (s.wdIrq b).rd f u j = s.rd f u j :=
  State.rd_raise_other h

/-! ### The test of a command (08 R226) -/

/-- The Winder's commands, each with its operation in `WD_CMD` (08 R225). -/
def winderOps (arg : Nat) (st trig : Bool) : List (Instr × Nat) :=
  [(.run arg st trig, 1), (.stopAt arg st trig, 2), (.step arg st trig, 3), (.sample arg st trig, 4), (.backfill arg st trig, 5),
    (.rewind arg st trig, 6), (.replay arg st trig, 7)]

theorem winderOps_bounds (h : (c, op) ∈ winderOps arg st trig) : 1 ≤ op ∧ op ≤ 7 := by
  simp only [winderOps, List.mem_cons, Prod.mk.injEq, List.not_mem_nil, or_false] at h
  omega

theorem exec_winderOps (h : (c, op) ∈ winderOps arg st trig) (s : State) : exec c s = .next (s.windCmd op arg st trig).settle := by
  simp only [winderOps, List.mem_cons, Prod.mk.injEq, List.not_mem_nil, or_false] at h
  rcases h with ⟨rfl, rfl⟩ | ⟨rfl, rfl⟩ | ⟨rfl, rfl⟩ | ⟨rfl, rfl⟩ | ⟨rfl, rfl⟩ | ⟨rfl, rfl⟩ | ⟨rfl, rfl⟩ <;> rfl

/-- A command's operand and operation are shown, whether it is refused or not (08 R226). -/
def State.noted (s : State) (op arg : Nat) : State := (s.wr WD_CMD_ARG.ARG arg).wr WD_CMD_STATUS.LAST_OP op

theorem State.rd_noted {f : Fld} (ha : f.id ≠ WD_CMD_ARG.ARG.id) (ho : f.id ≠ WD_CMD_STATUS.LAST_OP.id) (s : State) (op arg u j : Nat) :
    (s.noted op arg).rd f u j = s.rd f u j := by
  rw [State.noted, State.rd_wr_other _ ho, State.rd_wr_other _ ha]

theorem State.noted_winder (s : State) (op arg : Nat) : (s.noted op arg).winder = s.winder := rfl

theorem State.on_noted {f : Fld} (ha : f.id ≠ WD_CMD_ARG.ARG.id) (ho : f.id ≠ WD_CMD_STATUS.LAST_OP.id) (s : State) (op arg : Nat) :
    (s.noted op arg).on f = s.on f := by
  rw [State.on, State.rd_noted ha ho, State.on]

/-- The test reads neither of them. -/
theorem State.cmdTest_noted (s : State) (op arg : Nat) (st : Bool) : (s.noted op arg).cmdTest op arg st = s.cmdTest op arg st := by
  have hstate : (s.noted op arg).wdState = s.wdState := State.rd_noted (by decide) (by decide) ..
  have hend : (s.noted op arg).rd WD_REPLAY_END.END = s.rd WD_REPLAY_END.END := State.rd_noted (by decide) (by decide) ..
  have htally : (s.noted op arg).tally = s.tally := State.rd_noted (by decide) (by decide) ..
  have hhalted : (s.noted op arg).halted = s.halted := State.on_noted (by decide) (by decide) ..
  have hleads : (s.noted op arg).leads = s.leads := State.on_noted (by decide) (by decide) ..
  have hbusy : (s.noted op arg).cmdBusy = s.cmdBusy := by
    rw [State.cmdBusy, State.on_noted (by decide) (by decide), State.noted_winder, State.cmdBusy]
  have haccepted : (s.noted op arg).cmdState op st = s.cmdState op st := by
    rw [State.cmdState, hstate, State.rd_noted (by decide) (by decide), State.on_noted (by decide) (by decide), State.cmdState]
  have htarget : (s.noted op arg).replayTarget arg = s.replayTarget arg := by rw [State.replayTarget, hend, State.replayTarget]
  rw [State.cmdTest, hhalted, hstate, hbusy, State.on_noted (by decide) (by decide), hleads, haccepted, htarget, hend, htally, State.cmdTest]

/-- The code of a refusal that the host can foresee from the registers, 0 where it cannot: the tests in the order of R226. -/
def State.refusalCode (s : State) (op arg : Nat) (st : Bool) : Nat :=
  if s.halted = true ∨ s.rd WD_STATUS.STATE = 4 then 8
  else if (st = true ∧ op ≠ 5) ∨ (op = 3 ∧ (arg = 0 ∨ 2 ^ 32 < arg)) then 6
  else if s.rd WD_CMD_STATUS.BUSY ≠ 0 ∨ s.winder.cmd.isSome = true ∨ s.winder.recovery.isSome = true then 9
  else if ¬(op = 5 ∧ st = true) ∧ s.rd WD_STATUS.FORMED = 0 then 10
  else if ¬(op = 5 ∧ st = true) ∧ s.rd WD_STATUS.LEADER = 0 then 2
  else if (op = 1 ∨ op = 3 ∨ (op = 5 ∧ st = false) ∨ op = 7) ∧ s.rd WD_STATUS.STATE ≠ 1 then 1
  else if (op = 2 ∨ op = 4 ∨ op = 6) ∧ s.rd WD_STATUS.STATE ≠ 1 ∧ s.rd WD_STATUS.STATE ≠ 2 then 1
  else 0

theorem State.refusalCode_lt (s : State) (op arg : Nat) (st : Bool) : s.refusalCode op arg st < 16 := by
  unfold State.refusalCode
  split_ifs <;> decide

/-- RUN, STEP, REPLAY and a group BACKFILL are accepted in STOPPED alone (08 R225). -/
theorem State.cmdState_stopped (hop : op = 1 ∨ op = 3 ∨ (op = 5 ∧ st = false) ∨ op = 7) (h : s.rd WD_STATUS.STATE ≠ 1) :
    s.cmdState op st = false := by
  rcases hop with rfl | rfl | ⟨rfl, rfl⟩ | rfl <;> simp [State.cmdState, State.wdState, h]

/-- STOP-AT, SAMPLE and REWIND are accepted in STOPPED and RUNNING alone (08 R225). -/
theorem State.cmdState_loaded (hop : op = 2 ∨ op = 4 ∨ op = 6) (h1 : s.rd WD_STATUS.STATE ≠ 1) (h2 : s.rd WD_STATUS.STATE ≠ 2) :
    s.cmdState op st = false := by
  rcases hop with rfl | rfl | rfl <;> simp [State.cmdState, State.wdState, h1, h2]

theorem State.cmdBusy_iff (s : State) :
    s.cmdBusy = true ↔ s.rd WD_CMD_STATUS.BUSY ≠ 0 ∨ s.winder.cmd.isSome = true ∨ s.winder.recovery.isSome = true := by
  simp [State.cmdBusy, State.on, or_assoc]

/-- A test of the group, which a `STOPES` restore passes by. -/
theorem grouped_iff (op : Nat) (st : Bool) (s : State) (f : Fld) :
    (!(decide (op = 5) && st) && !s.on f) = true ↔ ¬(op = 5 ∧ st = true) ∧ s.rd f = 0 := by
  simp only [State.on, Bool.and_eq_true, Bool.not_eq_true', ← Bool.not_eq_true, decide_eq_true_eq, not_not, ne_eq]

/-- The test finds the code that is foreseen: a state in which R225 does not accept the command comes before the tests that it leaves out. -/
theorem State.cmdTest_of_refusalCode (hop : 1 ≤ op ∧ op ≤ 7) (h : s.refusalCode op arg st ≠ 0) :
    s.cmdTest op arg st = s.refusalCode op arg st := by
  have harg : (op = 0 ∨ 8 ≤ op ∨ (st = true ∧ op ≠ 5) ∨ (op = 3 ∧ (arg = 0 ∨ 2 ^ 32 < arg))) ↔
      (st = true ∧ op ≠ 5) ∨ (op = 3 ∧ (arg = 0 ∨ 2 ^ 32 < arg)) := by
    have hlo : op ≠ 0 := by omega
    have hhi : ¬8 ≤ op := by omega
    simp only [hlo, hhi, false_or]
  unfold State.refusalCode at h ⊢
  unfold State.cmdTest
  simp only [State.wdState, State.leads, harg, State.cmdBusy_iff, grouped_iff]
  refine ite_congr rfl (fun _ => rfl) fun h8 => ite_congr rfl (fun _ => rfl) fun h6 => ite_congr rfl (fun _ => rfl) fun h9 =>
    ite_congr rfl (fun _ => rfl) fun h10 => ite_congr rfl (fun _ => rfl) fun h2 => ?_
  rw [if_neg h8, if_neg h6, if_neg h9, if_neg h10, if_neg h2] at h
  by_cases hstop : (op = 1 ∨ op = 3 ∨ (op = 5 ∧ st = false) ∨ op = 7) ∧ s.rd WD_STATUS.STATE ≠ 1
  · simp [State.cmdState_stopped hstop.1 hstop.2, hstop]
  · rw [if_neg hstop] at h ⊢
    by_cases hload : (op = 2 ∨ op = 4 ∨ op = 6) ∧ s.rd WD_STATUS.STATE ≠ 1 ∧ s.rd WD_STATUS.STATE ≠ 2
    · simp [State.cmdState_loaded hload.1 hload.2.1 hload.2.2, hload]
    · exact absurd (if_neg hload) h

/-! ### A refusal -/

/-- A refused command shows its operation and result, and keeps a command in progress (08 R226). -/
def State.refused (s : State) (op arg code : Nat) : State :=
  (((s.noted op arg).wr WD_CMD_STATUS.REFUSED 1).wr WD_CMD_STATUS.RESULT code).wdIrq 0

theorem State.windCmd_refused (h : s.cmdTest op arg st ≠ 0) : s.windCmd op arg st trig = s.refused op arg (s.cmdTest op arg st) := by
  rw [← State.cmdTest_noted] at h ⊢
  exact if_pos h

theorem State.refused_signals (s : State) (op arg code : Nat) : Signals s (s.refused op arg code) :=
  Signals.wdIrq ((((Signals.refl.wr ..).wr ..).wr ..).wr ..) 0

theorem State.refused_winder (s : State) (op arg code : Nat) : (s.refused op arg code).winder = s.winder :=
  (s.refused_signals op arg code).keeps State.winder

theorem State.refused_regsKeptBut (s : State) (op arg code : Nat) : s.regsKeptBut (s.refused op arg code)
    [WD_CMD_STATUS.REFUSED.key, WD_CMD_STATUS.RESULT.key, WD_CMD_STATUS.LAST_OP.key, WD_CMD_ARG.ARG.key, WD_IRQ_STATUS.SRC.key] :=
  State.regsKeptBut.raise (by simp)
    ((((State.regsKeptBut.refl.wr (by simp)).wr (by simp)).wr (by simp)).wr (by simp))

theorem State.rd_refused_shown (s : State) {op code : Nat} (hop : op < 16) (hcode : code < 16) (arg : Nat) :
    (s.refused op arg code).rd WD_CMD_STATUS.REFUSED = 1 ∧ (s.refused op arg code).rd WD_CMD_STATUS.RESULT = code ∧
      (s.refused op arg code).rd WD_CMD_STATUS.LAST_OP = op ∧ (s.refused op arg code).rd WD_CMD_ARG.ARG = arg % 2 ^ 64 := by
  refine ⟨?_, ?_, ?_, ?_⟩
  · rw [State.refused, State.rd_wdIrq_other (by decide), State.rd_wr_other _ (by decide), State.rd_wr_fit (by decide)]
  · rw [State.refused, State.rd_wdIrq_other (by decide), State.rd_wr_fit hcode]
  · rw [State.refused, State.rd_wdIrq_other (by decide), State.rd_wr_other _ (by decide), State.rd_wr_other _ (by decide), State.noted,
      State.rd_wr_fit hop]
  · rw [State.refused, State.rd_wdIrq_other (by decide), State.rd_wr_other _ (by decide), State.rd_wr_other _ (by decide), State.noted,
      State.rd_wr_other _ (by decide), State.rd_wr_same]
    rfl

/-- A refusal that leaves nothing due at the present boundary is all that the command does. -/
theorem State.refused_settle (op arg code : Nat) (h : s.rd WD_STATUS.STATE ≠ 2 ∨ s.winder.inStroke = true ∨ s.sampleDue.isSome = true ∨
    s.stopDue = none) : (s.refused op arg code).settle = s.refused op arg code := by
  have hw := s.refused_winder op arg code
  have kept : ∀ f : Fld, f.key ∉ [WD_CMD_STATUS.REFUSED.key, WD_CMD_STATUS.RESULT.key, WD_CMD_STATUS.LAST_OP.key, WD_CMD_ARG.ARG.key,
      WD_IRQ_STATUS.SRC.key] → (s.refused op arg code).rd f = s.rd f := fun f => s.refused_regsKeptBut op arg code f 0 0
  have ht : (s.refused op arg code).tally = s.tally := kept WD_TALLY.TALLY (by decide)
  apply State.settle_still
  rwa [hw, kept WD_STATUS.STATE (by decide), State.sampleDue_congr hw ht, State.stopDue_congr hw ht]

/-- Settles O26: the first test that fails gives the code, and the refusal is the same for every code. -/
theorem winderRefusals : Obligations.WinderRefusals := by
  intro s c op arg st trig code hc hcode hne hdue
  obtain rfl : code = s.refusalCode op arg st := hcode
  have hop := winderOps_bounds hc
  have htest := State.cmdTest_of_refusalCode hop hne
  have hexec : exec c s = .next (s.refused op arg (s.refusalCode op arg st)) := by
    rw [exec_winderOps hc, State.windCmd_refused (htest ▸ hne), htest, State.refused_settle op arg _ hdue]
  obtain ⟨hrefused, hresult, hlast, harg⟩ := s.rd_refused_shown (Nat.lt_of_le_of_lt hop.2 (by decide)) (s.refusalCode_lt op arg st) arg
  exact ⟨_, hexec, hrefused, hresult, hlast, harg, s.refused_regsKeptBut op arg _, s.refused_signals op arg _⟩

end Sys2Proof.Machine
end

section
/-! PROOF. Runs, restores and results of the Winder, for the proofs below (08 R213, R221, R225 to R227; 11 R301, R306). -/

namespace Sys2Proof.Machine

variable {s t : State}

/-! ### No stop at the present boundary (08 R213) -/

/-- A stroke is on, or every event at or below the tally is a sample. -/
def State.NoStopDue (s : State) : Prop :=
  s.winder.inStroke = true ∨ ∀ e ∈ s.winder.events, e.kind = .sample ∨ s.rd WD_TALLY.TALLY < e.e

theorem State.NoStopDue.settle (h : s.NoStopDue) : s.settle = s := by
  refine State.settle_still ?_
  rcases h with hstroke | hevents
  · exact .inr (.inl hstroke)
  · have hdue : s.winder.events.filter (fun e => decide (e.kind ≠ .sample ∧ e.e ≤ s.tally)) = [] := by
      refine List.filter_eq_nil_iff.2 fun e he hdue => ?_
      obtain ⟨hkind, hle⟩ := of_decide_eq_true hdue
      exact (hevents e he).elim hkind (Nat.not_lt_of_le hle)
    refine .inr (.inr (.inr ?_))
    rw [State.stopDue, hdue]
    rfl

/-- Events that are samples or later than the tally make no stop due. -/
theorem State.NoStopDue.add (h : s.NoStopDue) (htally : t.rd WD_TALLY.TALLY = s.rd WD_TALLY.TALLY)
    (hstroke : t.winder.inStroke = s.winder.inStroke) {l : List SchedEvent} (hevents : t.winder.events = s.winder.events ++ l)
    (hl : s.winder.inStroke = true ∨ ∀ e ∈ l, e.kind = .sample ∨ s.rd WD_TALLY.TALLY < e.e) : t.NoStopDue := by
  unfold State.NoStopDue at *
  rw [htally, hstroke, hevents]
  rcases h with h | h
  · exact .inl h
  · refine hl.imp_right fun hl e he => ?_
    exact (List.mem_append.1 he).elim (h e) (hl e)

/-! ### Command results (08 R226) -/

/-- The fields that the end of a command writes. -/
def finishFields : List Fld := [WD_CMD_STATUS.BUSY, WD_CMD_STATUS.DONE, WD_CMD_STATUS.RESULT, WD_IRQ_STATUS.SRC]

theorem State.rd_cmdFinish_other {f : Fld} (h : ∀ g ∈ finishFields, f.id ≠ g.id) (s : State) (r : Nat) : (s.cmdFinish r).rd f = s.rd f := by
  rw [State.cmdFinish, State.rd_wdIrq_other (h _ (by decide)), State.rd_wd, State.rd_wr_other _ (h _ (by decide)),
    State.rd_wr_other _ (h _ (by decide)), State.rd_wr_other _ (h _ (by decide))]

theorem State.rd_cmdFinish_shown (s : State) {r : Nat} (hr : r < 16) : (s.cmdFinish r).rd WD_CMD_STATUS.DONE = 1 ∧
    (s.cmdFinish r).rd WD_CMD_STATUS.BUSY = 0 ∧ (s.cmdFinish r).rd WD_CMD_STATUS.RESULT = r := by
  refine ⟨?_, ?_, ?_⟩
  · rw [State.cmdFinish, State.rd_wdIrq_other (by decide), State.rd_wd, State.rd_wr_other _ (by decide), State.rd_wr_fit (by decide)]
  · rw [State.cmdFinish, State.rd_wdIrq_other (by decide), State.rd_wd, State.rd_wr_other _ (by decide), State.rd_wr_other _ (by decide),
      State.rd_wr_fit (by decide)]
  · rw [State.cmdFinish, State.rd_wdIrq_other (by decide), State.rd_wd, State.rd_wr_fit hr]

theorem State.cmdFinish_winder (s : State) (r : Nat) : (s.cmdFinish r).winder = { s.winder with cmd := none } :=
  State.wdIrq_winder ..

/-- The end of a command makes no stop due. -/
theorem State.NoStopDue.cmdFinish (h : s.NoStopDue) (r : Nat) : (s.cmdFinish r).NoStopDue := by
  unfold State.NoStopDue
  rw [State.rd_cmdFinish_other (by decide), State.cmdFinish_winder]
  exact h

/-- With no member waited for, this part's share ends the command. -/
theorem State.cmdLocalDone_last {c : WindCmd} (h : s.winder.cmd = some c) (hw : c.waiting = []) (hr : c.result = 0) (r : Nat) :
    s.cmdLocalDone r = s.cmdFinish r := by
  simp [State.cmdLocalDone, h, hw, hr]

theorem State.cmdRefuse_winder (s : State) (r : Nat) : (s.cmdRefuse r).winder = { s.winder with cmd := none } := State.wdIrq_winder ..

theorem State.rd_cmdRefuse_other {f : Fld} (h : ∀ g ∈ [WD_CMD_STATUS.REFUSED, WD_CMD_STATUS.RESULT, WD_IRQ_STATUS.SRC], f.id ≠ g.id)
    (s : State) (r : Nat) : (s.cmdRefuse r).rd f = s.rd f := by
  rw [State.cmdRefuse, State.rd_wdIrq_other (h _ (by simp)), State.rd_wd, State.rd_wr_other _ (h _ (by simp)),
    State.rd_wr_other _ (h _ (by simp))]

theorem State.rd_cmdRefuse_shown (s : State) {r : Nat} (hr : r < 16) :
    (s.cmdRefuse r).rd WD_CMD_STATUS.REFUSED = 1 ∧ (s.cmdRefuse r).rd WD_CMD_STATUS.RESULT = r := by
  refine ⟨?_, ?_⟩
  · rw [State.cmdRefuse, State.rd_wdIrq_other (by decide), State.rd_wd, State.rd_wr_other _ (by decide), State.rd_wr_fit (by decide)]
  · rw [State.cmdRefuse, State.rd_wdIrq_other (by decide), State.rd_wd, State.rd_wr_fit hr]

/-! ### Scheduled events (08 R221, R222) -/

theorem State.rd_addEvent_other {f : Fld} (h : f.id ≠ WD_STOP_TALLY.S.id) (s : State) (e : SchedEvent) : (s.addEvent e).rd f = s.rd f := by
  rw [State.addEvent, State.refreshStop, State.rd_wr_other _ h, State.rd_wd]

theorem State.addEvent_winder (s : State) (e : SchedEvent) : (s.addEvent e).winder = { s.winder with events := s.winder.events ++ [e] } := rfl

theorem State.NoStopDue.addEvent (h : s.NoStopDue) {e : SchedEvent}
    (he : s.winder.inStroke = true ∨ e.kind = .sample ∨ s.rd WD_TALLY.TALLY < e.e) : (s.addEvent e).NoStopDue :=
  h.add (State.rd_addEvent_other (by decide) ..) rfl rfl (he.imp_right fun he x hx => List.mem_singleton.1 hx ▸ he)

theorem State.others_solo (h : s.solo = true) : s.others = [] := if_pos h

theorem State.tellAll_solo (h : s.solo = true) (m : BwMsg) : s.tellAll m = s := if_pos h

/-- A solo part schedules for itself. -/
theorem State.schedule_solo (h : s.solo = true) {k : EventKind} {e : Nat} (hk : k = .stop → e < s.rd WD_STOP_TALLY.S) (slot cause : Nat) :
    s.schedule k e slot cause = s.addEvent ⟨k, e, slot, cause, []⟩ := by
  have hnot : ¬(k = .stop ∧ s.rd WD_STOP_TALLY.S ≤ e) := fun ⟨hstop, hle⟩ => Nat.not_lt_of_le hle (hk hstop)
  unfold State.schedule
  rw [if_neg hnot]
  extract_lets code
  rw [State.tellAll_solo h, State.others_solo h]

/-! ### The start of a run (08 R221, R225; 11 R306) -/

/-- Grants and samples beside what stands: how the leader's grant points move the schedule. -/
structure SamplesAdded (s t : State) : Prop where
  fields : ∀ f : Fld, (∀ g ∈ [WD_STOP_TALLY.S, WD_HORIZON.H], f.id ≠ g.id) → t.rd f = s.rd f
  winder : ∃ l : List SchedEvent, (∀ e ∈ l, e.kind = .sample) ∧ t.winder = { s.winder with events := s.winder.events ++ l }

namespace SamplesAdded

theorem refl : SamplesAdded s s := ⟨fun _ _ => rfl, [], nofun, by rw [List.append_nil]⟩

theorem hidden {t' : State} (h : SamplesAdded s t) (hr : t'.regs = t.regs) (hw : t'.winder = t.winder) : SamplesAdded s t' :=
  ⟨fun f hf => (State.rd_of_regs hr f 0 0).trans (h.fields f hf), by rw [hw]; exact h.winder⟩

theorem wr (h : SamplesAdded s t) {g : Fld} (hg : g ∈ [WD_STOP_TALLY.S, WD_HORIZON.H]) (v : Nat) : SamplesAdded s (t.wr g v) :=
  ⟨fun f hf => (State.rd_wr_other t (hf g hg)).trans (h.fields f hf), h.winder⟩

/-- Either branch of a choice. -/
theorem ite {p : Prop} [Decidable p] {a b : State} (ha : SamplesAdded s a) (hb : SamplesAdded s b) :
    SamplesAdded s (if p then a else b) := by
  split
  · exact ha
  · exact hb

theorem tellAll (h : SamplesAdded s t) (m : BwMsg) : SamplesAdded s (t.tellAll m) := ite h (h.hidden rfl rfl)

theorem addSample (h : SamplesAdded s t) (e slot cause : Nat) (l : List Nat) : SamplesAdded s (t.addEvent ⟨.sample, e, slot, cause, l⟩) := by
  obtain ⟨old, hold, hw⟩ := h.winder
  refine ⟨fun f hf => (State.rd_addEvent_other (hf _ (by simp)) ..).trans (h.fields f hf), old ++ [⟨.sample, e, slot, cause, l⟩], ?_, ?_⟩
  · intro x hx
    rcases List.mem_append.1 hx with hx | hx
    · exact hold x hx
    · rw [List.mem_singleton.1 hx]
  · rw [State.addEvent_winder, hw, List.append_assoc]

theorem scheduleSample (h : SamplesAdded s t) (e slot cause : Nat) : SamplesAdded s (t.schedule .sample e slot cause) := by
  rw [State.schedule, if_neg (by simp)]
  exact (h.tellAll _).addSample ..

theorem autoCheckpoint (h : SamplesAdded s t) : SamplesAdded s t.autoCheckpoint := by
  unfold State.autoCheckpoint
  refine ite (ite ?_ h) h
  split
  · exact (h.scheduleSample ..).hidden rfl rfl
  · exact h

theorem grantNow (h : SamplesAdded s t) : SamplesAdded s t.grantNow := ite ((h.wr (by simp) _).tellAll _) h

end SamplesAdded

/-- The fields that the start of a run writes. -/
def runFields : List Fld := [WD_STATUS.STATE, WD_STATUS.REPLAYING, WD_STOP_TALLY.S, WD_HORIZON.H]

/-- The Winder is RUNNING in `t` as a run begins it in `s`. -/
structure Runs (s t : State) (trig : Bool) : Prop where
  state : t.rd WD_STATUS.STATE = 2
  fields : ∀ f : Fld, (∀ g ∈ runFields, f.id ≠ g.id) → t.rd f = s.rd f
  winder : ∃ l : List SchedEvent, (∀ e ∈ l, e.kind = .sample) ∧
    t.winder = { s.winder with runTrig := trig, sampled := false, events := s.winder.events ++ l }

theorem State.startRun_runs (h : s.rd WD_STATUS.STATE ≠ 4) (trig : Bool) : Runs s (s.startRun trig) trig := by
  have hto : s.windTo 2 = s.wr WD_STATUS.STATE 2 := if_neg h
  unfold State.startRun
  extract_lets run replaying started
  have hadd : SamplesAdded started
      (if started.leads then (if started.horizon ≤ started.tally + started.window / 2 then started.autoCheckpoint else started).grantNow
        else started) :=
    .ite (SamplesAdded.ite SamplesAdded.refl.autoCheckpoint .refl).grantNow .refl
  have hstate : started.rd WD_STATUS.STATE = 2 := by
    refine (State.rd_put_other (s := run) (by decide)).trans ?_
    rw [State.rd_wd, hto, State.rd_wr_fit (by decide)]
  refine ⟨(hadd.fields _ (by decide)).trans hstate, fun f hf => (hadd.fields f fun g hg => hf g ?_).trans ?_, ?_⟩
  · revert g
    decide
  · refine (State.rd_put_other (s := run) (hf _ (by decide))).trans ?_
    rw [State.rd_wd, hto, State.rd_wr_other _ (hf _ (by decide))]
  · obtain ⟨l, hl, hw⟩ := hadd.winder
    have hrun : started.winder = { s.winder with runTrig := trig, sampled := false } := by
      change run.winder = _
      rw [State.wd_winder, hto, State.wr_winder]
    exact ⟨l, hl, by rw [hw, hrun]⟩

theorem State.groupRun_runs (hs : s.solo = true) (h : s.rd WD_STATUS.STATE ≠ 4) (arg op : Nat) (trig : Bool) :
    Runs s (s.groupRun arg op trig) trig := by
  rw [State.groupRun, State.tellAll_solo hs]
  exact State.startRun_runs h trig

theorem Runs.noStopDue {trig : Bool} (h : Runs s t trig) (hs : s.NoStopDue) : t.NoStopDue := by
  obtain ⟨l, hl, hw⟩ := h.winder
  exact hs.add (h.fields _ (by decide)) (by rw [hw]) (by rw [hw]) (.inr fun e he => .inl (hl e he))

/-! ### The start of a group restore (08 R227; 11 R301) -/

/-- The Winder RESTORING, replay armed by a REWIND and disarmed by a BACKFILL. -/
def State.restoreArmed (s : State) (rewind : Bool) : State :=
  let t := s.windTo 3
  (if rewind then (t.wr WD_REPLAY_END.END t.tally).wr WD_STATUS.REPLAY_ARMED 1 else t.wr WD_STATUS.REPLAY_ARMED 0).refreshReplaying

theorem State.rd_startRestore {f : Fld} (h : f.id ≠ CR_STATUS.RESTORE.id) (s : State) (slot : Nat) (rewind : Bool) :
    (s.startRestore slot rewind).rd f = (s.restoreArmed rewind).rd f := by
  unfold State.startRestore
  extract_lets stopped armed restoring noted
  have hseams := State.rd_foldl_wr_other (l := List.range 4) (g := fun _ => CR_STATUS.RESTORE) (v := fun _ => 1) (u := fun k => k)
    (j := fun _ => 0) (u' := 0) (j' := 0) (fun _ _ => h) noted
  exact hseams.trans (State.rd_wd ..)

theorem State.startRestore_sampler (s : State) (slot : Nat) (rewind : Bool) :
    (s.startRestore slot rewind).sampler = { (s.restoreArmed rewind).sampler with restoring := some (slot, false) } := by
  unfold State.startRestore
  extract_lets stopped armed restoring noted
  have hseams : RegsOnly noted ((List.range 4).foldl (fun t k => t.wr CR_STATUS.RESTORE 1 k) noted) :=
    RegsOnly.foldl .refl (fun _ k h => h.wr CR_STATUS.RESTORE 1 k 0) _
  exact hseams.keeps State.sampler

theorem State.rd_restoreArmed_other {f : Fld}
    (h : ∀ g ∈ [WD_STATUS.STATE, WD_REPLAY_END.END, WD_STATUS.REPLAY_ARMED, WD_STATUS.REPLAYING], f.id ≠ g.id) (s : State) (rewind : Bool) :
    (s.restoreArmed rewind).rd f = s.rd f := by
  have hto : (s.windTo 3).rd f = s.rd f := by
    unfold State.windTo
    split
    · rfl
    · exact State.rd_wr_other _ (h _ (by simp))
  refine (State.rd_put_other (h _ (by simp))).trans ?_
  split
  · rw [State.rd_wr_other _ (h _ (by simp)), State.rd_wr_other _ (h _ (by simp)), hto]
  · rw [State.rd_wr_other _ (h _ (by simp)), hto]

/-- A restore that begins in a part that is not halted: RESTORING, and armed to the present tally or disarmed. -/
theorem State.rd_restoreArmed (h : s.rd WD_STATUS.STATE ≠ 4) (rewind : Bool) : (s.restoreArmed rewind).rd WD_STATUS.STATE = 3 ∧
    (s.restoreArmed rewind).rd WD_STATUS.REPLAY_ARMED = b2n rewind ∧
    (rewind = true → (s.restoreArmed rewind).rd WD_REPLAY_END.END = s.rd WD_TALLY.TALLY % 2 ^ 64) := by
  have hto : s.windTo 3 = s.wr WD_STATUS.STATE 3 := if_neg h
  have htally : (s.wr WD_STATUS.STATE 3).tally = s.rd WD_TALLY.TALLY := State.rd_wr_other _ (by decide)
  unfold State.restoreArmed State.refreshReplaying
  rw [State.rd_put_other (by decide), State.rd_put_other (by decide), State.rd_put_other (by decide), hto, htally]
  cases rewind with
  | true =>
    refine ⟨?_, State.rd_wr_fit (by decide), fun _ => ?_⟩
    · exact (State.rd_wr_other _ (by decide)).trans ((State.rd_wr_other _ (by decide)).trans (State.rd_wr_fit (by decide)))
    · exact (State.rd_wr_other _ (by decide)).trans (State.rd_wr_same ..)
  | false => exact ⟨(State.rd_wr_other _ (by decide)).trans (State.rd_wr_fit (by decide)), State.rd_wr_fit (by decide), nofun⟩

end Sys2Proof.Machine
end

section
/-! PROOF. Accepted Winder commands of a solo leader, and the stall watchdog (O27; 08 R220 to R222, R224 to R227; 11 R300 to R302). -/

namespace Sys2Proof.Machine

variable {s t : State} {c : Instr} {op arg : Nat} {st trig : Bool}

/-- A solo leader without a command or recovery in progress and without a stop due. -/
structure State.SoloFree (s : State) : Prop where
  awake : s.halted = false
  join : s.rd WD_GROUP_CTRL.JOIN = 0
  formed : s.rd WD_STATUS.FORMED ≠ 0
  leader : s.rd WD_STATUS.LEADER ≠ 0
  busy : s.rd WD_CMD_STATUS.BUSY = 0
  cmd : s.winder.cmd = none
  recovery : s.winder.recovery = none
  still : s.NoStopDue

theorem State.solo_of_join (h : s.rd WD_GROUP_CTRL.JOIN = 0) : s.solo = true := by
  simp [State.solo, State.on, h]

/-! ### The tests pass (08 R226) -/

/-- A command that a free solo leader accepts in its present state passes the tests before those of the members and the slot, but for a
REPLAY to a tally that replay does not reach. -/
theorem State.SoloFree.cmdTest_eq (hs : s.SoloFree) (h4 : s.rd WD_STATUS.STATE ≠ 4) (hop : op ≠ 0 ∧ op < 8)
    (hst : st = true → op = 5) (hstep : op = 3 → 0 < arg ∧ arg ≤ 2 ^ 32) (hstate : s.cmdState op st = true) : s.cmdTest op arg st =
      if op = 7 ∧ (s.rd WD_REPLAY_END.END < s.replayTarget arg ∨ s.replayTarget arg ≤ s.rd WD_TALLY.TALLY) then 6 else 0 := by
  have hformed : s.on WD_STATUS.FORMED = true := (State.on_iff ..).2 hs.formed
  have hleads : s.leads = true := (State.on_iff ..).2 hs.leader
  have hbusy : s.cmdBusy = false := by simp [State.cmdBusy, State.on, hs.busy, hs.cmd, hs.recovery]
  have harg : ¬(op = 0 ∨ 8 ≤ op ∨ (st = true ∧ op ≠ 5) ∨ (op = 3 ∧ (arg = 0 ∨ 2 ^ 32 < arg))) := by
    rintro (h | h | ⟨h, hne⟩ | ⟨h, hn⟩)
    · exact hop.1 h
    · omega
    · exact hne (hst h)
    · have := hstep h
      omega
  unfold State.cmdTest
  rw [if_neg (by simp [hs.awake, State.wdState, h4]), if_neg harg, if_neg (by simp [hbusy]), if_neg (by simp [hformed]),
    if_neg (by simp [hleads]), if_neg (by simp [hstate])]
  rfl

theorem State.SoloFree.cmdTest_eq_zero (hs : s.SoloFree) (h4 : s.rd WD_STATUS.STATE ≠ 4) (hop : op ≠ 0 ∧ op < 8)
    (hst : st = true → op = 5) (hstep : op = 3 → 0 < arg ∧ arg ≤ 2 ^ 32) (hstate : s.cmdState op st = true)
    (hreplay : op = 7 → s.rd WD_TALLY.TALLY < s.replayTarget arg ∧ s.replayTarget arg ≤ s.rd WD_REPLAY_END.END) :
    s.cmdTest op arg st = 0 := by
  rw [hs.cmdTest_eq h4 hop hst hstep hstate]
  exact if_neg fun ⟨h, hout⟩ => hout.elim (Nat.not_lt_of_le (hreplay h).2) (Nat.not_le_of_lt (hreplay h).1)

/-! ### In which state a command is accepted (08 R225) -/

theorem State.cmdState_of_stopped (h : s.rd WD_STATUS.STATE = 1) (hop : op ≠ 0 ∧ op < 8)
    (hseq : op = 4 → s.rd WD_SMP_SEQ.SEQ < 2 ^ 32 - 1) (harmed : op = 7 → s.rd WD_STATUS.REPLAY_ARMED ≠ 0) (st : Bool) :
    s.cmdState op st = true := by
  unfold State.cmdState State.wdState
  rw [h]
  split_ifs with h13 h26 h4 h5
  · rfl
  · rfl
  · exact decide_eq_true (hseq h4)
  · exact Bool.or_true st
  · exact (State.on_iff ..).2 (harmed (by omega))

theorem State.cmdState_of_running (h : s.rd WD_STATUS.STATE = 2) (hop : op = 2 ∨ op = 6 ∨ op = 4 ∧ s.rd WD_SMP_SEQ.SEQ < 2 ^ 32 - 1)
    (st : Bool) : s.cmdState op st = true := by
  have hseq : op = 4 → s.rd WD_SMP_SEQ.SEQ < 2 ^ 32 - 1 := by omega
  unfold State.cmdState State.wdState
  rw [h]
  split_ifs with h13 h26 h4 h5
  · omega
  · rfl
  · exact decide_eq_true (hseq h4)
  · omega
  · omega

/-- A stopped solo leader accepts RUN, STOP-AT, BACKFILL, REWIND, a STEP of a valid length and a SAMPLE that has a sequence number. -/
theorem State.SoloFree.accepts_stopped (hs : s.SoloFree) (h : s.rd WD_STATUS.STATE = 1) (hop : op ≠ 0 ∧ op < 7)
    (hstep : op = 3 → 0 < arg ∧ arg ≤ 2 ^ 32) (hseq : op = 4 → s.rd WD_SMP_SEQ.SEQ < 2 ^ 32 - 1) : s.cmdTest op arg false = 0 :=
  hs.cmdTest_eq_zero (by rw [h]; decide) (by omega) nofun hstep (State.cmdState_of_stopped h (by omega) hseq (by omega) false) (by omega)

theorem State.SoloFree.accepts_running (hs : s.SoloFree) (h : s.rd WD_STATUS.STATE = 2)
    (hop : op = 2 ∨ op = 6 ∨ op = 4 ∧ s.rd WD_SMP_SEQ.SEQ < 2 ^ 32 - 1) (arg : Nat) : s.cmdTest op arg false = 0 :=
  hs.cmdTest_eq_zero (by rw [h]; decide) (by omega) nofun (by omega) (State.cmdState_of_running h hop false) (by omega)

/-! ### The state in which a command acts -/

/-- A command of a solo part: nobody is waited for. -/
def soloCmd (op arg : Nat) (st trig : Bool) (stage : CmdStage) : WindCmd := ⟨op, arg, st, trig, stage, [], 0, false⟩

/-- The command is shown, and the line CRC fresh where a run is to begin (08 R220, R229). -/
def State.asked (s : State) (op arg : Nat) : State :=
  if (s.noted op arg).runCheck op then (s.noted op arg).wr WD_CLK_CTRL.CRC (s.noted op arg).lineCrc else s.noted op arg

/-- The command is in progress. -/
def State.begun (s : State) (op arg : Nat) (st trig : Bool) : State :=
  ((s.asked op arg).wr WD_CMD_STATUS.BUSY 1).wd fun w => { w with cmd := some (soloCmd op arg st trig .waiting) }

/-- The fields that the beginning of a command writes. -/
def askedFields : List Fld := [WD_CMD_ARG.ARG, WD_CMD_STATUS.LAST_OP, WD_CLK_CTRL.CRC]

theorem State.rd_asked {f : Fld} (h : ∀ g ∈ askedFields, f.id ≠ g.id) (s : State) (op arg u j : Nat) :
    (s.asked op arg).rd f u j = s.rd f u j := by
  unfold State.asked
  split
  · rw [State.rd_wr_other _ (h _ (by decide)), State.rd_noted (h _ (by decide)) (h _ (by decide))]
  · exact State.rd_noted (h _ (by decide)) (h _ (by decide)) ..

theorem State.asked_regsOnly (s : State) (op arg : Nat) : RegsOnly s (s.asked op arg) := by
  have hnoted : RegsOnly s (s.noted op arg) := (RegsOnly.refl.wr ..).wr ..
  unfold State.asked
  split
  · exact hnoted.wr ..
  · exact hnoted

theorem State.asked_winder (s : State) (op arg : Nat) : (s.asked op arg).winder = s.winder := (s.asked_regsOnly op arg).keeps State.winder

theorem State.rd_begun {f : Fld} (h : ∀ g ∈ WD_CMD_STATUS.BUSY :: askedFields, f.id ≠ g.id) (s : State) (op arg : Nat) (st trig : Bool)
    (u j : Nat) : (s.begun op arg st trig).rd f u j = s.rd f u j := by
  rw [State.begun, State.rd_wd, State.rd_wr_other _ (h _ (by simp)), State.rd_asked fun g hg => h g (List.mem_cons_of_mem _ hg)]

theorem State.rd_begun_busy (s : State) (op arg : Nat) (st trig : Bool) : (s.begun op arg st trig).rd WD_CMD_STATUS.BUSY = 1 := by
  rw [State.begun, State.rd_wd, State.rd_wr_fit (by decide)]

theorem State.begun_winder (s : State) (op arg : Nat) (st trig : Bool) :
    (s.begun op arg st trig).winder = { s.winder with cmd := some (soloCmd op arg st trig .waiting) } := by
  rw [State.begun, State.wd_winder, State.wr_winder, State.asked_winder]

theorem State.SoloFree.solo (hs : s.SoloFree) : s.solo = true := State.solo_of_join hs.join

theorem State.SoloFree.solo_asked (hs : s.SoloFree) (op arg : Nat) : (s.asked op arg).solo = true :=
  State.solo_of_join ((State.rd_asked (by decide) ..).trans hs.join)

theorem State.SoloFree.solo_begun (hs : s.SoloFree) (op arg : Nat) (st trig : Bool) : (s.begun op arg st trig).solo = true :=
  State.solo_of_join ((State.rd_begun (by decide) ..).trans hs.join)

theorem State.SoloFree.still_begun (hs : s.SoloFree) (op arg : Nat) (st trig : Bool) : (s.begun op arg st trig).NoStopDue :=
  hs.still.add (l := []) (State.rd_begun (by decide) ..) (by rw [State.begun_winder]) (by rw [State.begun_winder, List.append_nil])
    (.inr nofun)

/-! ### Slots and stopes that a command leaves as they are (07 R179; 11 R291, R300, R302) -/

theorem State.asked_moves (s : State) (op arg : Nat) : Moves (Foot.only [.regs .wd]) s (s.asked op arg) := by
  have hnoted : Moves (Foot.only [.regs .wd]) s (s.noted op arg) := State.wr_moves rfl (State.wr_moves rfl Moves.refl)
  unfold State.asked
  split
  · exact State.wr_moves rfl hnoted
  · exact hnoted

/-- The state of a stope is read from its registers, the configuration vectors, the clocks and its hidden state. -/
theorem Moves.stopeState_kept {l : List Part} (h : Moves (Foot.only l) s t)
    (hl : ∀ p ∈ [Part.regs .ck, .regs .cf, .regs .st, .clk, .stopes], p ∉ l) (n : Nat) : t.stopeState n = s.stopeState n := by
  have hvec : ∀ f : Fld, .regs f.blk ∉ l → t.vec f n = s.vec f n := fun f hf => by rw [State.vec, State.bit, h.rd_kept hf, State.vec, State.bit]
  have hpowered : t.powered n = s.powered n := hvec _ (hl (.regs .ck) (by decide))
  have hloading : t.loading n = s.loading n := hvec _ (hl (.regs .cf) (by decide))
  have hconfigured : t.configured n = s.configured n := hvec _ (hl (.regs .cf) (by decide))
  have hclk : t.clk = s.clk := h.parts .clk (partsMask_not (hl .clk (by decide)))
  have hreset : t.inReset n = s.inReset n := by rw [State.inReset, hclk, State.inReset]
  have hisolated : t.isolated n = s.isolated n := by
    rw [State.isolated, State.on, h.rd_kept (hl (.regs .st) (by decide)), State.isolated, State.on]
  rw [State.stopeState, hpowered, hreset, hloading, h.stope_kept (hl .stopes (by decide)), hconfigured, hisolated, State.stopeState]

theorem State.asked_stopeState (s : State) (op arg n : Nat) : (s.asked op arg).stopeState n = s.stopeState n :=
  (s.asked_moves op arg).stopeState_kept (by decide) n

theorem State.asked_slotData (s : State) (op arg slot : Nat) : (s.asked op arg).slotData slot = s.slotData slot :=
  (s.asked_regsOnly op arg).keeps fun x => x.slotData slot

theorem State.asked_slotUsable (s : State) (op arg slot : Nat) : (s.asked op arg).slotUsable slot = s.slotUsable slot := by
  rw [State.slotUsable, State.on, State.rd_asked (by decide), State.rd_asked (by decide), State.slotUsable, State.on]

theorem State.asked_slotState (s : State) (op arg slot : Nat) : (s.asked op arg).slotState slot = s.slotState slot :=
  State.rd_asked (by decide) ..

theorem State.asked_restorable (s : State) (op arg slot : Nat) : (s.asked op arg).restorable slot = s.restorable slot := by
  have hused : (s.asked op arg).usedStopes = s.usedStopes :=
    List.filter_congr fun n _ => by rw [State.inUse, State.asked_stopeState, State.inUse]
  rw [State.restorable, State.asked_slotUsable, State.asked_slotState, State.asked_slotData, hused, State.restorable]

/-- A `STOPES` restore reads its mask from the Corers' registers. -/
theorem State.restoreMask_congr (h : ∀ u j, t.rd CR_RESTORE_MASK.MASK u j = s.rd CR_RESTORE_MASK.MASK u j) : t.restoreMask = s.restoreMask :=
  List.filter_congr fun n _ => by rw [State.vec, State.bit, h, State.vec, State.bit]

theorem State.asked_restoreMask (s : State) (op arg : Nat) : (s.asked op arg).restoreMask = s.restoreMask :=
  State.restoreMask_congr (State.rd_asked (by decide) s op arg)

/-- A `STOPES` restore is served where the slot holds every stope of the mask and each of them is isolated. -/
theorem State.asked_servesStopes (husable : s.slotUsable arg = true) (hvalid : s.slotState arg = 2)
    (hmask : ∀ n ∈ s.restoreMask, s.stopeState n = 2 ∧ n ∈ (s.slotData arg).stopes) : (s.asked 5 arg).slotServes 5 arg true = true := by
  simpa [State.slotServes, State.asked_slotUsable, State.asked_slotState, State.asked_restoreMask, State.asked_stopeState,
    State.asked_slotData, husable, hvalid] using hmask

/-! ### Which way a command takes (08 R220, R226) -/

theorem State.noted_runCheck (s : State) (op arg : Nat) : (s.noted op arg).runCheck op = s.runCheck op := by
  rw [State.runCheck, State.wdState, State.rd_noted (by decide) (by decide), State.runCheck, State.wdState]

theorem State.noted_needsCheck (s : State) (op arg : Nat) (st : Bool) : (s.noted op arg).needsCheck op st = s.needsCheck op st := by
  rw [State.needsCheck, State.noted_runCheck, State.needsCheck]

/-- Without a check no line CRC is taken. -/
theorem State.asked_unchecked (h : s.needsCheck op st = false) (arg : Nat) : s.asked op arg = s.noted op arg := by
  have hrun : (s.noted op arg).runCheck op = false := by
    rw [State.needsCheck, Bool.or_assoc, Bool.or_eq_false_iff] at h
    rw [State.noted_runCheck, h.1]
  rw [State.asked, hrun]
  rfl

/-- A solo part that passes the tests asks nobody: it checks, and acts or refuses, at once. -/
theorem State.SoloFree.windCmd_eq (hs : s.SoloFree) (h : s.cmdTest op arg st = 0) (trig : Bool) : s.windCmd op arg st trig =
    if s.needsCheck op st then (s.asked op arg).cmdChecked (soloCmd op arg st trig .checking)
    else if (s.asked op arg).slotServes op arg st then (s.asked op arg).cmdAct (soloCmd op arg st trig .checking)
    else (s.asked op arg).cmdRefuse 7 := by
  have hnoted : (s.noted op arg).others = [] := State.others_solo (State.solo_of_join ((State.rd_noted (by decide) (by decide) ..).trans hs.join))
  have hasked : (s.asked op arg).others = [] := State.others_solo (hs.solo_asked op arg)
  have htest : ¬(s.noted op arg).cmdTest op arg st ≠ 0 := by rw [State.cmdTest_noted, h]; decide
  rw [← State.noted_needsCheck s op arg st]
  unfold State.windCmd
  refine (if_neg htest).trans ?_
  extract_lets c
  have hc : c = soloCmd op arg st trig .checking := congrArg (fun l => (⟨op, arg, st, trig, .checking, l, 0, false⟩ : WindCmd)) hnoted
  clear_value c
  subst hc
  by_cases hcheck : (s.noted op arg).needsCheck op st = true
  · rw [if_pos hcheck]
    exact (if_pos hcheck).trans (if_pos (List.isEmpty_iff.2 hasked))
  · rw [if_neg hcheck, State.asked_unchecked (State.noted_needsCheck s op arg st ▸ Bool.eq_false_iff.2 hcheck)]
    exact if_neg hcheck

theorem State.SoloFree.windCmd_served (hs : s.SoloFree) (h : s.cmdTest op arg st = 0) (hcheck : s.needsCheck op st = false)
    (hserves : (s.asked op arg).slotServes op arg st = true) (trig : Bool) :
    s.windCmd op arg st trig = (s.asked op arg).cmdAct (soloCmd op arg st trig .checking) := by
  rw [hs.windCmd_eq h, hcheck, hserves]
  rfl

theorem State.SoloFree.windCmd_unserved (hs : s.SoloFree) (h : s.cmdTest op arg st = 0) (hcheck : s.needsCheck op st = false)
    (hserves : (s.asked op arg).slotServes op arg st = false) (trig : Bool) : s.windCmd op arg st trig = (s.asked op arg).cmdRefuse 7 := by
  rw [hs.windCmd_eq h, hcheck, hserves]
  rfl

/-- A group restore of a slot that serves begins. -/
theorem State.SoloFree.windCmd_restore (hs : s.SoloFree) (h : s.cmdTest op arg st = 0) (hop : op = 5 ∧ st = false ∨ op = 6)
    (hslot : s.restorable arg = true) (trig : Bool) :
    s.windCmd op arg st trig = (s.asked op arg).cmdAct (soloCmd op arg st trig .checking) := by
  have hsolo := hs.solo_asked op arg
  have hcheck : s.needsCheck op st = true := by rcases hop with ⟨rfl, rfl⟩ | rfl <;> simp [State.needsCheck]
  have hrestore : (soloCmd op arg st trig .checking).op = 5 ∨ (soloCmd op arg st trig .checking).op = 6 := hop.imp_left And.left
  have hserves : (s.asked op arg).groupRestorable arg = true := by
    rw [State.groupRestorable, State.asked_restorable, hslot, hsolo]
    rfl
  rw [hs.windCmd_eq h, if_pos hcheck, State.cmdChecked, if_pos hrestore, if_neg (by simp [hsolo])]
  exact if_pos hserves

/-- The member checks of a solo part look at its own image and divider alone. -/
theorem State.memberCheck_solo (h : s.solo = true) : s.memberCheck =
    if s.rd CF_LOADED.VALID = 0 then 3 else if s.rd CK_CLK_STATUS.PHASE_DIV_CUR < s.rd CF_LOADED.NMIN then 4 else 0 := by
  simp [State.memberCheck, h, State.on]

theorem State.SoloFree.windCmd_run (hs : s.SoloFree) (h : s.cmdTest op arg st = 0) (hrun : s.runCheck op = true) (trig : Bool) :
    s.windCmd op arg st trig =
      if s.rd CF_LOADED.VALID = 0 then (s.asked op arg).cmdRefuse 3
      else if s.rd CK_CLK_STATUS.PHASE_DIV_CUR < s.rd CF_LOADED.NMIN then (s.asked op arg).cmdRefuse 4
      else (s.asked op arg).cmdAct (soloCmd op arg st trig .checking) := by
  have hcheck : s.needsCheck op st = true := by rw [State.needsCheck, hrun]; rfl
  have hnot : ¬((soloCmd op arg st trig .checking).op = 5 ∨ (soloCmd op arg st trig .checking).op = 6) := by
    simp only [State.runCheck, Bool.or_eq_true, Bool.and_eq_true, decide_eq_true_eq] at hrun
    change ¬(op = 5 ∨ op = 6)
    omega
  have hmembers := State.memberCheck_solo (hs.solo_asked op arg)
  rw [State.rd_asked (by decide), State.rd_asked (by decide), State.rd_asked (by decide)] at hmembers
  rw [hs.windCmd_eq h, if_pos hcheck, State.cmdChecked, if_neg hnot, hmembers]
  split_ifs <;> rfl

/-! ### What an accepted command does (08 R221, R222, R225) -/

/-- What `State.cmdAct` begins with. -/
theorem State.SoloFree.begun_eq (hs : s.SoloFree) (op arg : Nat) (st trig : Bool) :
    ((s.asked op arg).wr WD_CMD_STATUS.BUSY 1).wd (fun w => { w with cmd := some { soloCmd op arg st trig .checking with
      stage := .waiting, waiting := (s.asked op arg).others } }) = s.begun op arg st trig := by
  rw [State.others_solo (hs.solo_asked op arg)]
  rfl

theorem State.SoloFree.cmdAct_run (hs : s.SoloFree) :
    (s.asked 1 arg).cmdAct (soloCmd 1 arg false trig .checking) = ((s.begun 1 arg false trig).groupRun arg 1 trig).cmdLocalDone 0 := by
  unfold State.cmdAct
  rw [hs.begun_eq]
  exact if_pos rfl

/-- STOP-AT while RUNNING schedules the stop at the later of its tally and the horizon. -/
theorem State.SoloFree.cmdAct_stopAt_running (hs : s.SoloFree) (h : s.rd WD_STATUS.STATE = 2)
    (hS : max arg (s.rd WD_HORIZON.H) < s.rd WD_STOP_TALLY.S) :
    (s.asked 2 arg).cmdAct (soloCmd 2 arg false trig .checking) =
      ((s.begun 2 arg false trig).addEvent ⟨.stop, max arg (s.rd WD_HORIZON.H), 0, 1, []⟩).cmdLocalDone 0 := by
  have hrun : (s.begun 2 arg false trig).wdState = 2 := (State.rd_begun (by decide) ..).trans h
  have hH : (s.begun 2 arg false trig).horizon = s.rd WD_HORIZON.H := State.rd_begun (by decide) ..
  have hS' : max arg (s.rd WD_HORIZON.H) < (s.begun 2 arg false trig).rd WD_STOP_TALLY.S := by rwa [State.rd_begun (by decide)]
  rw [← State.schedule_solo (hs.solo_begun ..) fun _ => hS']
  unfold State.cmdAct
  rw [hs.begun_eq]
  simp only [soloCmd, Nat.reduceEqDiff, reduceIte, hrun, hH, decide_true, Nat.not_le_of_lt hS']

/-- STOP-AT while STOPPED at or below the tally does nothing more. -/
theorem State.SoloFree.cmdAct_stopAt_passed (hs : s.SoloFree) (h : s.rd WD_STATUS.STATE = 1)
    (hle : arg ≤ s.rd WD_TALLY.TALLY) :
    (s.asked 2 arg).cmdAct (soloCmd 2 arg false trig .checking) = (s.begun 2 arg false trig).cmdFinish 0 := by
  have hrun : (s.begun 2 arg false trig).wdState = 1 := (State.rd_begun (by decide) ..).trans h
  have hle' : arg ≤ (s.begun 2 arg false trig).tally := hle.trans_eq (State.rd_begun (by decide) ..).symm
  unfold State.cmdAct
  rw [hs.begun_eq]
  simp only [soloCmd, Nat.reduceEqDiff, reduceIte, hrun, decide_false, Bool.false_eq_true, hle']

theorem State.SoloFree.cmdAct_step (hs : s.SoloFree) (hS : s.rd WD_TALLY.TALLY + arg < s.rd WD_STOP_TALLY.S) :
    (s.asked 3 arg).cmdAct (soloCmd 3 arg false trig .checking) =
      ((s.begun 3 arg false trig).addEvent ⟨.stop, s.rd WD_TALLY.TALLY + arg, 0, 1, []⟩).groupRun arg 3 trig := by
  have ht : (s.begun 3 arg false trig).tally = s.rd WD_TALLY.TALLY := State.rd_begun (by decide) ..
  have hS' : s.rd WD_TALLY.TALLY + arg < (s.begun 3 arg false trig).rd WD_STOP_TALLY.S := by rwa [State.rd_begun (by decide)]
  rw [← State.schedule_solo (hs.solo_begun ..) fun _ => hS']
  unfold State.cmdAct
  rw [hs.begun_eq]
  simp only [soloCmd, Nat.reduceEqDiff, reduceIte, ht]

theorem State.SoloFree.cmdAct_replay (hs : s.SoloFree) (hS : s.replayTarget arg < s.rd WD_STOP_TALLY.S) :
    (s.asked 7 arg).cmdAct (soloCmd 7 arg false trig .checking) =
      ((s.begun 7 arg false trig).addEvent ⟨.stop, s.replayTarget arg, 0, 1, []⟩).groupRun arg 7 trig := by
  have ht : (s.begun 7 arg false trig).replayTarget arg = s.replayTarget arg := by
    rw [State.replayTarget, State.rd_begun (by decide), State.replayTarget]
  have hS' : s.replayTarget arg < (s.begun 7 arg false trig).rd WD_STOP_TALLY.S := by rwa [State.rd_begun (by decide)]
  rw [← State.schedule_solo (hs.solo_begun ..) fun _ => hS']
  unfold State.cmdAct
  rw [hs.begun_eq]
  simp only [soloCmd, Nat.reduceEqDiff, reduceIte, ht]

theorem State.SoloFree.cmdAct_sample_running (hs : s.SoloFree) (h : s.rd WD_STATUS.STATE = 2) :
    (s.asked 4 arg).cmdAct (soloCmd 4 arg false trig .checking) =
      ((s.begun 4 arg false trig).addEvent ⟨.sample, s.rd WD_HORIZON.H, arg, 0, []⟩).cmdLocalDone 0 := by
  have hrun : (s.begun 4 arg false trig).wdState = 2 := (State.rd_begun (by decide) ..).trans h
  have hH : (s.begun 4 arg false trig).horizon = s.rd WD_HORIZON.H := State.rd_begun (by decide) ..
  rw [← State.schedule_solo (k := .sample) (hs.solo_begun ..) nofun]
  unfold State.cmdAct
  rw [hs.begun_eq]
  simp only [soloCmd, Nat.reduceEqDiff, reduceIte, hrun, hH, decide_true]

theorem State.SoloFree.cmdAct_sample_stopped (hs : s.SoloFree) (h : s.rd WD_STATUS.STATE = 1) :
    (s.asked 4 arg).cmdAct (soloCmd 4 arg false trig .checking) =
      ((s.begun 4 arg false trig).wd fun w => { w with cmd := some (soloCmd 4 arg false trig .sampling) }).addEvent
        ⟨.sample, s.rd WD_TALLY.TALLY, arg, 2, []⟩ := by
  have hrun : (s.begun 4 arg false trig).wdState = 1 := (State.rd_begun (by decide) ..).trans h
  have ht : (s.begun 4 arg false trig).tally = s.rd WD_TALLY.TALLY := State.rd_begun (by decide) ..
  have ho : (s.begun 4 arg false trig).others = [] := State.others_solo (hs.solo_begun ..)
  rw [← State.schedule_solo (k := .sample) (s := (s.begun 4 arg false trig).wd _) (hs.solo_begun 4 arg false trig) nofun]
  unfold State.cmdAct
  rw [hs.begun_eq]
  simp only [soloCmd, Nat.reduceEqDiff, reduceIte, hrun, ht, ho, decide_false, Bool.false_eq_true]

theorem State.SoloFree.cmdAct_backfill (hs : s.SoloFree) :
    (s.asked 5 arg).cmdAct (soloCmd 5 arg false trig .checking) = (s.begun 5 arg false trig).startRestore arg false := by
  have ht (m : BwMsg) : (s.begun 5 arg false trig).tellAll m = (s.begun 5 arg false trig) := State.tellAll_solo (hs.solo_begun ..) m
  unfold State.cmdAct
  rw [hs.begun_eq]
  simp only [soloCmd, Nat.reduceEqDiff, reduceIte, ht, Bool.false_eq_true]

theorem State.SoloFree.cmdAct_rewind_stopped (hs : s.SoloFree) (h : s.rd WD_STATUS.STATE = 1) :
    (s.asked 6 arg).cmdAct (soloCmd 6 arg false trig .checking) =
      (s.begun 6 arg false trig).startRestore arg true := by
  have hrun : (s.begun 6 arg false trig).wdState = 1 := (State.rd_begun (by decide) ..).trans h
  have ht (m : BwMsg) : (s.begun 6 arg false trig).tellAll m = (s.begun 6 arg false trig) := State.tellAll_solo (hs.solo_begun ..) m
  unfold State.cmdAct
  rw [hs.begun_eq]
  simp only [soloCmd, Nat.reduceEqDiff, reduceIte, hrun, ht, decide_false, Bool.false_eq_true]

theorem State.SoloFree.cmdAct_rewind_running (hs : s.SoloFree) (h : s.rd WD_STATUS.STATE = 2) :
    (s.asked 6 arg).cmdAct (soloCmd 6 arg false trig .checking) =
      (s.begun 6 arg false trig).addEvent ⟨.rewind, s.rd WD_HORIZON.H, arg, 1, []⟩ := by
  have hrun : (s.begun 6 arg false trig).wdState = 2 := (State.rd_begun (by decide) ..).trans h
  have hH : (s.begun 6 arg false trig).horizon = s.rd WD_HORIZON.H := State.rd_begun (by decide) ..
  rw [← State.schedule_solo (k := .rewind) (hs.solo_begun ..) nofun]
  unfold State.cmdAct
  rw [hs.begun_eq]
  simp only [soloCmd, Nat.reduceEqDiff, reduceIte, hrun, hH, decide_true]

/-- A `STOPES` restore of the stopes that the mask names begins (11 R302). -/
def State.stopesRestore (s : State) (slot : Nat) (l : List Nat) : State :=
  (List.range 4).foldl (fun t k => if l.any (fun n => decide (n / 160 = k)) then t.wr CR_STATUS.RESTORE 1 k else t)
    (s.smp fun x => { x with restoring := some (slot, true), backfill := l })

theorem State.SoloFree.cmdAct_backfillStopes (hs : s.SoloFree) :
    (s.asked 5 arg).cmdAct (soloCmd 5 arg true trig .checking) = (s.begun 5 arg true trig).stopesRestore arg s.restoreMask := by
  have hmask : (s.begun 5 arg true trig).restoreMask = s.restoreMask := State.restoreMask_congr (State.rd_begun (by decide) s 5 arg true trig)
  unfold State.cmdAct
  rw [hs.begun_eq, ← hmask]
  simp only [soloCmd, Nat.reduceEqDiff, reduceIte]
  rfl

/-! ### How a command ends, or begins what ends it -/

/-- A command that leaves no stop due is all that its step does. -/
theorem exec_settled (hc : (c, op) ∈ winderOps arg st trig) (hw : s.windCmd op arg st trig = t) (ht : t.settle = t) : exec c s = .next t := by
  rw [exec_winderOps hc, hw, ht]

/-- A command of a stopped part refused after the member checks, or for its slot. -/
theorem State.SoloFree.refuses (hs : s.SoloFree) (h : s.rd WD_STATUS.STATE = 1) {r : Nat} (hr : r < 16)
    (hc : (c, op) ∈ winderOps arg st trig) (hw : s.windCmd op arg st trig = (s.asked op arg).cmdRefuse r) :
    ∃ t, exec c s = .next t ∧ t.rd WD_CMD_STATUS.REFUSED = 1 ∧ t.rd WD_CMD_STATUS.RESULT = r ∧ t.rd WD_STATUS.STATE = 1 ∧
      t.winder = s.winder := by
  obtain ⟨hrefused, hresult⟩ := (s.asked op arg).rd_cmdRefuse_shown hr
  have hstate : ((s.asked op arg).cmdRefuse r).rd WD_STATUS.STATE = 1 := by
    rw [State.rd_cmdRefuse_other (by decide), State.rd_asked (by decide), h]
  have hwinder : ((s.asked op arg).cmdRefuse r).winder = s.winder := by
    rw [State.cmdRefuse_winder, State.asked_winder, ← hs.cmd]
  exact ⟨_, exec_settled hc hw (State.settle_still (.inl (by rw [hstate]; decide))), hrefused, hresult, hstate, hwinder⟩

/-- This part's share is the whole command. -/
theorem exec_finished (hc : (c, op) ∈ winderOps arg st trig) (hw : s.windCmd op arg st trig = t.cmdLocalDone 0)
    (hcmd : t.winder.cmd = some (soloCmd op arg st trig .waiting)) (hstill : t.NoStopDue) : exec c s = .next (t.cmdFinish 0) :=
  exec_settled hc (hw.trans (State.cmdLocalDone_last hcmd rfl rfl 0)) (hstill.cmdFinish 0).settle

theorem State.begun_addEvent (s : State) (op arg : Nat) (st trig : Bool) (e : SchedEvent) :
    ((s.begun op arg st trig).addEvent e).winder.events = s.winder.events ++ [e] := by
  rw [State.addEvent_winder, State.begun_winder]

/-- A command that schedules a sample, or a later event, makes no stop due. -/
theorem State.SoloFree.still_addEvent (hs : s.SoloFree) {e : SchedEvent}
    (he : s.winder.inStroke = true ∨ e.kind = .sample ∨ s.rd WD_TALLY.TALLY < e.e) : ((s.begun op arg st trig).addEvent e).NoStopDue :=
  (hs.still_begun op arg st trig).addEvent (by rwa [State.begun_winder, State.rd_begun (by decide)])

/-- A command that only schedules an event is done with it. -/
theorem State.SoloFree.schedules (hs : s.SoloFree) (hc : (c, op) ∈ winderOps arg st trig) {e : SchedEvent}
    (he : s.winder.inStroke = true ∨ e.kind = .sample ∨ s.rd WD_TALLY.TALLY < e.e)
    (hw : s.windCmd op arg st trig = ((s.begun op arg st trig).addEvent e).cmdLocalDone 0) :
    ∃ t, exec c s = .next t ∧ t.winder.events = s.winder.events ++ [e] ∧ t.rd WD_STATUS.STATE = s.rd WD_STATUS.STATE ∧
      t.rd WD_CMD_STATUS.DONE = 1 ∧ t.rd WD_CMD_STATUS.RESULT = 0 := by
  obtain ⟨hdone, -, hresult⟩ := ((s.begun op arg st trig).addEvent e).rd_cmdFinish_shown (r := 0) (by decide)
  refine ⟨_, exec_finished hc hw (by rw [State.addEvent_winder, State.begun_winder]) (hs.still_addEvent he), ?_, ?_, hdone, hresult⟩
  · rw [State.cmdFinish_winder, State.begun_addEvent]
  · rw [State.rd_cmdFinish_other (by decide), State.rd_addEvent_other (by decide), State.rd_begun (by decide)]

theorem State.stopesRestore_regsKept (s : State) (slot : Nat) (l : List Nat) :
    s.regsKeptBut (s.stopesRestore slot l) ((List.range 4).map fun k => CR_STATUS.RESTORE.key k) := by
  refine State.regsKeptBut.foldl (State.regsKeptBut.refl.hidden rfl) fun t k hk ht => ?_
  split
  · exact ht.wr (List.mem_map_of_mem hk)
  · exact ht

theorem State.stopesRestore_regsOnly (s : State) (slot : Nat) (l : List Nat) :
    RegsOnly (s.smp fun x => { x with restoring := some (slot, true), backfill := l }) (s.stopesRestore slot l) := by
  refine RegsOnly.foldl .refl (fun t k ht => ?_) _
  split
  · exact ht.wr ..
  · exact ht

/-- A run to a stop at `e` keeps the command in progress. -/
theorem State.SoloFree.runs_to_stop (hs : s.SoloFree) (h : s.rd WD_STATUS.STATE = 1) (hc : (c, op) ∈ winderOps arg st trig) {e arg' op' : Nat}
    (he : s.rd WD_TALLY.TALLY < e)
    (hw : s.windCmd op arg st trig = ((s.begun op arg st trig).addEvent ⟨.stop, e, 0, 1, []⟩).groupRun arg' op' trig) :
    ∃ t, exec c s = .next t ∧ t.rd WD_STATUS.STATE = 2 ∧ t.rd WD_CMD_STATUS.BUSY = 1 ∧ ⟨.stop, e, 0, 1, []⟩ ∈ t.winder.events := by
  have hstill : ((s.begun op arg st trig).addEvent ⟨.stop, e, 0, 1, []⟩).NoStopDue := hs.still_addEvent (.inr (.inr he))
  have hsolo : ((s.begun op arg st trig).addEvent ⟨.stop, e, 0, 1, []⟩).solo = true :=
    State.solo_of_join (by rw [State.rd_addEvent_other (by decide), State.rd_begun (by decide), hs.join])
  have hruns := State.groupRun_runs hsolo (by rw [State.rd_addEvent_other (by decide), State.rd_begun (by decide), h]; decide) arg' op' trig
  obtain ⟨l, -, hwinder⟩ := hruns.winder
  refine ⟨_, exec_settled hc hw (hruns.noStopDue hstill).settle, hruns.state, ?_, ?_⟩
  · rw [hruns.fields _ (by decide), State.rd_addEvent_other (by decide), State.rd_begun_busy]
  · rw [hwinder, State.addEvent_winder]
    simp

/-- A group restore that begins in a stopped part (08 R227; 11 R301). -/
theorem State.restores (h : s.rd WD_STATUS.STATE = 1) (hc : (c, op) ∈ winderOps arg st trig) {rewind : Bool}
    (hw : s.windCmd op arg st trig = (s.begun op arg st trig).startRestore arg rewind) :
    ∃ t, exec c s = .next t ∧ t.rd WD_STATUS.STATE = 3 ∧ t.rd WD_STATUS.REPLAY_ARMED = b2n rewind ∧
      (rewind = true → t.rd WD_REPLAY_END.END = s.rd WD_TALLY.TALLY % 2 ^ 64) ∧ t.sampler.restoring = some (arg, false) ∧
      t.rd WD_CMD_STATUS.BUSY = 1 ∧ t.rd WD_TALLY.TALLY = s.rd WD_TALLY.TALLY := by
  have hbegun : (s.begun op arg st trig).rd WD_STATUS.STATE ≠ 4 := by rw [State.rd_begun (by decide), h]; decide
  obtain ⟨hstate, harmed, hend⟩ := State.rd_restoreArmed hbegun rewind
  rw [State.rd_begun (by decide)] at hend
  have hrestoring : ((s.begun op arg st trig).startRestore arg rewind).rd WD_STATUS.STATE = 3 := by rw [State.rd_startRestore (by decide), hstate]
  refine ⟨_, exec_settled hc hw (State.settle_still (.inl (by rw [hrestoring]; decide))), hrestoring, ?_, fun hr => ?_, ?_, ?_, ?_⟩
  · rw [State.rd_startRestore (by decide), harmed]
  · rw [State.rd_startRestore (by decide), hend hr]
  · rw [State.startRestore_sampler]
  · rw [State.rd_startRestore (by decide), State.rd_restoreArmed_other (by decide), State.rd_begun_busy]
  · rw [State.rd_startRestore (by decide), State.rd_restoreArmed_other (by decide), State.rd_begun (by decide)]

theorem State.stopesRestore_winder (s : State) (slot : Nat) (l : List Nat) : (s.stopesRestore slot l).winder = s.winder :=
  (s.stopesRestore_regsOnly slot l).keeps State.winder

theorem State.stopesRestore_sampler (s : State) (slot : Nat) (l : List Nat) :
    (s.stopesRestore slot l).sampler = { s.sampler with restoring := some (slot, true), backfill := l } :=
  (s.stopesRestore_regsOnly slot l).keeps State.sampler

/-- The registers that a `STOPES` restore leaves as they are. -/
theorem State.rd_stopesRestore {f : Fld} (h : f.id ≠ CR_STATUS.RESTORE.id) (s : State) (slot : Nat) (l : List Nat) :
    (s.stopesRestore slot l).rd f = s.rd f :=
  s.stopesRestore_regsKept slot l f 0 0 fun hmem => by
    obtain ⟨k, -, heq⟩ := List.mem_map.1 hmem
    exact h (congrArg Key.id heq).symm

/-- A `STOPES` restore that begins leaves the Winder as it is (11 R302). -/
theorem State.SoloFree.restores_stopes (hs : s.SoloFree) (hc : (c, op) ∈ winderOps arg st trig) {l : List Nat}
    (hw : s.windCmd op arg st trig = (s.begun op arg st trig).stopesRestore arg l) :
    ∃ t, exec c s = .next t ∧ t.sampler.restoring = some (arg, true) ∧ t.sampler.backfill = l ∧ t.rd WD_CMD_STATUS.BUSY = 1 ∧
      t.rd WD_STATUS.STATE = s.rd WD_STATUS.STATE ∧ t.rd WD_TALLY.TALLY = s.rd WD_TALLY.TALLY := by
  have hstill : ((s.begun op arg st trig).stopesRestore arg l).NoStopDue :=
    (hs.still_begun op arg st trig).add (l := []) (State.rd_stopesRestore (by decide) ..) (by rw [State.stopesRestore_winder])
      (by rw [State.stopesRestore_winder, List.append_nil]) (.inr nofun)
  refine ⟨_, exec_settled hc hw hstill.settle, ?_, ?_, ?_, ?_, ?_⟩
  · rw [State.stopesRestore_sampler]
  · rw [State.stopesRestore_sampler]
  · rw [State.rd_stopesRestore (by decide), State.rd_begun_busy]
  · rw [State.rd_stopesRestore (by decide), State.rd_begun (by decide)]
  · rw [State.rd_stopesRestore (by decide), State.rd_begun (by decide)]

/-! ### The stall watchdog (08 R224) -/

theorem exec_groupStall_still (h : s.rd WD_STATUS.STATE ≠ 2 ∨ s.rd WD_GRANT.STALL_LIMIT = 0) : exec .groupStall s = .next s := by
  have hnot : ¬(s.wdState = 2 ∧ s.on WD_GRANT.STALL_LIMIT = true) := fun ⟨h2, hon⟩ =>
    h.elim (· h2) ((State.on_iff ..).1 hon)
  exact congrArg Host.Outcome.next (if_neg hnot)

theorem exec_groupStall_stalled (h : s.rd WD_STATUS.STATE = 2) (hl : s.rd WD_GRANT.STALL_LIMIT ≠ 0) :
    exec .groupStall s = .next (s.groupFault WD_GROUP_STATUS.GROUP_STALL) :=
  congrArg Host.Outcome.next (if_pos ⟨h, (State.on_iff ..).2 hl⟩)

/-! ### The commands of a solo leader -/

theorem State.runCheck_of_starts (hop : op = 1 ∨ op = 3 ∨ op = 7 ∨ op = 2 ∧ s.rd WD_STATUS.STATE = 1) : s.runCheck op = true := by
  unfold State.runCheck State.wdState
  rcases hop with rfl | rfl | rfl | ⟨rfl, h⟩
  · rfl
  · rfl
  · rfl
  · rw [h]
    rfl

/-- With an image in force and the divider not below its least, a run begins. -/
theorem State.SoloFree.windCmd_starts (hs : s.SoloFree) (h : s.cmdTest op arg false = 0)
    (hop : op = 1 ∨ op = 3 ∨ op = 7 ∨ op = 2 ∧ s.rd WD_STATUS.STATE = 1) (hvalid : s.rd CF_LOADED.VALID ≠ 0)
    (hdiv : s.rd CF_LOADED.NMIN ≤ s.rd CK_CLK_STATUS.PHASE_DIV_CUR) (trig : Bool) :
    s.windCmd op arg false trig = (s.asked op arg).cmdAct (soloCmd op arg false trig .checking) := by
  rw [hs.windCmd_run h (State.runCheck_of_starts hop), if_neg hvalid, if_neg (Nat.not_lt_of_le hdiv)]

/-- Settles O27: the tests pass, a solo part has nobody to ask, and the command acts at once; what it leaves is read off the run, the
schedule or the restore that it begins. -/
theorem winderCommands : Obligations.WinderCommands := by
  intro s hawake hjoin hformed hleader hbusy hcmd hrecovery hdue
  have hs : s.SoloFree := ⟨hawake, hjoin, hformed, hleader, hbusy, hcmd, hrecovery,
    hdue.imp_right fun h e he => of_decide_eq_true (List.all_eq_true.1 h e he)⟩
  refine ⟨fun arg trig h hvalid hdiv => ?run, fun arg trig h hvalid => ?noImage, fun arg trig h hvalid hdiv => ?tooFast,
    fun arg trig h hS he => ?stopAtRunning, fun arg trig h hle hvalid hdiv => ?stopAtPassed,
    fun n trig hpos hle h hvalid hdiv hS => ?step, fun slot trig h hslot hseq => ?sampleStopped,
    fun slot trig h hslot hseq => ?sampleRunning, fun slot trig h hslot hseq => ?sampleRefused, fun slot trig h hslot => ?backfill,
    fun slot trig h hslot => ?rewindStopped, fun slot trig h hslot he => ?rewindRunning,
    fun slot trig husable hvalid h4 hmask => ?backfillStopes, fun arg trig e htarget h harmed hlt hle hS hvalid hdiv => ?replay,
    fun arg trig e htarget h harmed hout => ?replayRefused, fun h hl => ?stall, exec_groupStall_still⟩
  case run =>
    have htest : s.cmdTest 1 arg false = 0 := hs.accepts_stopped h (by decide) nofun nofun
    have hruns := State.groupRun_runs (hs.solo_begun 1 arg false trig) (by rw [State.rd_begun (by decide), h]; decide) arg 1 trig
    obtain ⟨l, -, hwinder⟩ := hruns.winder
    obtain ⟨hdone, hfree, hresult⟩ := State.rd_cmdFinish_shown ((s.begun 1 arg false trig).groupRun arg 1 trig) (r := 0) (by decide)
    refine ⟨_, exec_finished (by simp [winderOps]) ((hs.windCmd_starts htest (.inl rfl) hvalid hdiv trig).trans hs.cmdAct_run)
      (by rw [hwinder, State.begun_winder]) (hruns.noStopDue (hs.still_begun ..)), ?_, hdone, hfree, hresult, ?_, ?_⟩
    · rw [State.rd_cmdFinish_other (by decide), hruns.state]
    · rw [State.cmdFinish_winder, hwinder]
    · rw [State.rd_cmdFinish_other (by decide), hruns.fields _ (by decide), State.rd_begun (by decide)]
  case noImage =>
    have htest : s.cmdTest 1 arg false = 0 := hs.accepts_stopped h (by decide) nofun nofun
    refine hs.refuses (op := 1) (arg := arg) (st := false) (trig := trig) h (by decide) (by simp [winderOps]) ?_
    rw [hs.windCmd_run htest (State.runCheck_of_starts (.inl rfl)), if_pos hvalid]
  case tooFast =>
    have htest : s.cmdTest 1 arg false = 0 := hs.accepts_stopped h (by decide) nofun nofun
    refine hs.refuses (op := 1) (arg := arg) (st := false) (trig := trig) h (by decide) (by simp [winderOps]) ?_
    rw [hs.windCmd_run htest (State.runCheck_of_starts (.inl rfl)), if_neg hvalid, if_pos hdiv]
  case stopAtRunning =>
    have hcheck : s.needsCheck 2 false = false := by simp [State.needsCheck, State.runCheck, State.wdState, h]
    obtain ⟨t, hexec, hevents, hstate, hdone, hresult⟩ := hs.schedules (c := .stopAt arg false trig) (by simp [winderOps]) (he.imp_right .inr)
      ((hs.windCmd_served (hs.accepts_running h (.inl rfl) arg) hcheck rfl trig).trans (hs.cmdAct_stopAt_running h hS))
    exact ⟨t, hexec, hevents, hstate.trans h, hdone, hresult⟩
  case stopAtPassed =>
    have htest : s.cmdTest 2 arg false = 0 := hs.accepts_stopped h (by decide) nofun nofun
    have hact := (hs.windCmd_starts htest (.inr (.inr (.inr ⟨rfl, h⟩))) hvalid hdiv trig).trans (hs.cmdAct_stopAt_passed h hle)
    obtain ⟨hdone, -, -⟩ := State.rd_cmdFinish_shown (s.begun 2 arg false trig) (r := 0) (by decide)
    refine ⟨_, exec_settled (by simp [winderOps]) hact ((hs.still_begun ..).cmdFinish 0).settle, ?_, hdone, ?_⟩
    · rw [State.rd_cmdFinish_other (by decide), State.rd_begun (by decide), h]
    · rw [State.cmdFinish_winder, State.begun_winder]
  case step =>
    have htest : s.cmdTest 3 n false = 0 := hs.accepts_stopped h (by decide) (fun _ => ⟨hpos, hle⟩) nofun
    exact hs.runs_to_stop h (by simp [winderOps]) (Nat.lt_add_of_pos_right hpos)
      ((hs.windCmd_starts htest (.inr (.inl rfl)) hvalid hdiv trig).trans (hs.cmdAct_step hS))
  case sampleStopped =>
    have htest : s.cmdTest 4 slot false = 0 := hs.accepts_stopped h (by decide) nofun fun _ => hseq
    have hact := (hs.windCmd_served htest rfl ((s.asked_slotUsable 4 slot slot).trans hslot) trig).trans (hs.cmdAct_sample_stopped h)
    have hstate : (((s.begun 4 slot false trig).wd fun w => { w with cmd := some (soloCmd 4 slot false trig .sampling) }).addEvent
        ⟨.sample, s.rd WD_TALLY.TALLY, slot, 2, []⟩).rd WD_STATUS.STATE = 1 := by
      rw [State.rd_addEvent_other (by decide), State.rd_wd, State.rd_begun (by decide), h]
    refine ⟨_, exec_settled (by simp [winderOps]) hact (State.settle_still (.inl (by rw [hstate]; decide))), ?_, hstate, ?_⟩
    · rw [State.rd_addEvent_other (by decide), State.rd_wd, State.rd_begun_busy]
    · rw [State.addEvent_winder, State.wd_winder, State.begun_winder]
  case sampleRunning =>
    have htest : s.cmdTest 4 slot false = 0 := hs.accepts_running h (.inr (.inr ⟨rfl, hseq⟩)) slot
    obtain ⟨t, hexec, hevents, hstate, hdone, -⟩ := hs.schedules (c := .sample slot false trig) (by simp [winderOps]) (.inr (.inl rfl))
      ((hs.windCmd_served htest rfl ((s.asked_slotUsable 4 slot slot).trans hslot) trig).trans (hs.cmdAct_sample_running h))
    exact ⟨t, hexec, hdone, hstate.trans h, hevents⟩
  case sampleRefused =>
    have htest : s.cmdTest 4 slot false = 0 := hs.accepts_stopped h (by decide) nofun fun _ => hseq
    obtain ⟨t, hexec, hrefused, hresult, -, hwinder⟩ := hs.refuses h (by decide) (c := .sample slot false trig) (by simp [winderOps])
      (hs.windCmd_unserved htest rfl ((s.asked_slotUsable 4 slot slot).trans hslot) trig)
    exact ⟨t, hexec, hrefused, hresult, hwinder⟩
  case backfill =>
    have htest : s.cmdTest 5 slot false = 0 := hs.accepts_stopped h (by decide) nofun nofun
    obtain ⟨t, hexec, hstate, harmed, -, hrestoring, hbusy, htally⟩ := State.restores h (c := .backfill slot false trig) (by simp [winderOps])
      ((hs.windCmd_restore htest (.inl ⟨rfl, rfl⟩) hslot trig).trans hs.cmdAct_backfill)
    exact ⟨t, hexec, hstate, harmed, hrestoring, hbusy, htally⟩
  case rewindStopped =>
    have htest : s.cmdTest 6 slot false = 0 := hs.accepts_stopped h (by decide) nofun nofun
    obtain ⟨t, hexec, hstate, harmed, hend, hrestoring, hbusy, -⟩ := State.restores h (c := .rewind slot false trig) (by simp [winderOps])
      ((hs.windCmd_restore htest (.inr rfl) hslot trig).trans (hs.cmdAct_rewind_stopped h))
    exact ⟨t, hexec, hstate, harmed, hend rfl, hrestoring, hbusy⟩
  case rewindRunning =>
    have hact := (hs.windCmd_restore (hs.accepts_running h (.inr (.inl rfl)) slot) (.inr rfl) hslot trig).trans (hs.cmdAct_rewind_running h)
    refine ⟨_, exec_settled (by simp [winderOps]) hact (hs.still_addEvent (he.imp_right .inr)).settle, ?_, ?_, State.begun_addEvent ..⟩
    · rw [State.rd_addEvent_other (by decide), State.rd_begun (by decide), h]
    · rw [State.rd_addEvent_other (by decide), State.rd_begun_busy]
  case backfillStopes =>
    have htest : s.cmdTest 5 slot true = 0 := hs.cmdTest_eq_zero h4 (by decide) (fun _ => rfl) nofun rfl nofun
    exact hs.restores_stopes (by simp [winderOps])
      ((hs.windCmd_served htest rfl (State.asked_servesStopes husable hvalid hmask) trig).trans hs.cmdAct_backfillStopes)
  case replay =>
    subst htarget
    have hstate : s.cmdState 7 false = true := State.cmdState_of_stopped (op := 7) h (by decide) nofun (fun _ => harmed) false
    have htest : s.cmdTest 7 arg false = 0 :=
      hs.cmdTest_eq_zero (by rw [h]; decide) (by decide) nofun nofun hstate fun _ => ⟨hlt, hle⟩
    exact hs.runs_to_stop h (by simp [winderOps]) hlt
      ((hs.windCmd_starts htest (.inr (.inr (.inl rfl))) hvalid hdiv trig).trans (hs.cmdAct_replay hS))
  case replayRefused =>
    subst htarget
    have hstate : s.cmdState 7 false = true := State.cmdState_of_stopped (op := 7) h (by decide) nofun (fun _ => harmed) false
    have htest : s.cmdTest 7 arg false = 6 :=
      (hs.cmdTest_eq (op := 7) (st := false) (by rw [h]; decide) (by decide) nofun nofun hstate).trans (if_pos ⟨rfl, hout.symm⟩)
    have hact : s.windCmd 7 arg false trig = s.refused 7 arg 6 := by
      rw [State.windCmd_refused (by rw [htest]; decide), htest]
    obtain ⟨hrefused, hresult, -, -⟩ := s.rd_refused_shown (op := 7) (code := 6) (by decide) (by decide) arg
    exact ⟨_, exec_settled (by simp [winderOps]) hact (State.refused_settle 7 arg 6 (.inl (by rw [h]; decide))), hrefused, hresult,
      s.refused_winder 7 arg 6⟩
  case stall =>
    refine ⟨_, exec_groupStall_stalled h hl, ?_, State.regsKeptBut.raise (by simp) (State.regsKeptBut.refl.wr (by simp)),
      Signals.wdIrq (Signals.refl.wr ..) 3⟩
    rw [State.groupFault, State.rd_wdIrq_other (by decide), State.rd_wr_fit (by decide)]

end Sys2Proof.Machine
end

section
/-! PROOF. The messages of a group, refuted by a value too wide for its field (O53; 08 R220).

As for the hops (`not_bellHops`): nothing bounds the value that a state's register field is given with. -/

namespace Sys2Proof.Machine

/-- A member of the leader at address 0, with the 1-bit field `VALID` of its image holding 2: a test for other than 0 takes the image as
loaded, a test for 1 as missing. -/
def wideValid : State :=
  { State.reset with
    regs := [(BW_STATUS.ENUMERATED.key, 1), (WD_GROUP_CTRL.JOIN.key, 1), (BW_STATUS.ADDR.key, 7), (CF_LOADED.VALID.key, 2)]
    winder := { Winder.cold with members := [⟨0, 2, true, 0, 0, false, 0, 0, 0, 0, 0, 0, [], 0⟩] } }

/-- What the member there answers to STATE_REQ, `valid` being what it says of its image. -/
def wideValidAnswer (valid : Bool) : Emission :=
  .bell (some 0) (.state 0 0 valid (wideValid.rd CF_LOADED.F) (wideValid.rd CF_LOADED.K) (wideValid.rd CK_CLK_STATUS.PHASE_DIV_CUR)
    (wideValid.rd CF_LOADED.NMIN) wideValid.lineCrc)

/-- The member says that it holds an image. -/
theorem stateReq_sent_wideValid : Res.sent (exec (.stateReq ⟨0, 7⟩) wideValid) = [wideValidAnswer true] := by decide +kernel

/-- Refutes O53: the clause on the answer to STATE_REQ takes a `VALID` that is not 1 as no image, where the part takes one that is not 0 as
an image; with the field at 2 the member answers that it holds one, and the clause asks for the opposite. With `VALID` at most 1 the two
agree. -/
theorem not_bellGroup : ¬ Obligations.BellGroup := by
  rintro ⟨-, hMember, -⟩
  obtain ⟨hReq, -⟩ := hMember wideValid 0 0 0 0 false (by decide) (by decide) (by decide) (by decide) (by decide) (by decide) (by decide)
    (by decide)
  have hclause : [wideValidAnswer true] = [wideValidAnswer false] := stateReq_sent_wideValid.symm.trans (congrArg Res.sent hReq)
  exact absurd hclause (by simp [wideValidAnswer])

end Sys2Proof.Machine
end

section
/-! PROOF. What the operations of the Crosscut lanes write and leave, for the proofs below (09 R239, R243 to R249; 10 R280). -/

namespace Sys2Proof.Machine

variable {s t : State} {g : Fld} {p i j k st : Nat}

/-! ### The hidden state of a lane -/

@[simp] theorem State.rd_updLane (s : State) (p i : Nat) (g : Lane → Lane) (f : Fld) (u j : Nat) : (s.updLane p i g).rd f u j = s.rd f u j := rfl

@[simp] theorem State.lane_wr (s : State) (f : Fld) (v u j p i : Nat) : (s.wr f v u j).lane p i = s.lane p i := rfl

/-- A lane reads what was written to it. -/
@[simp] theorem State.lane_updLane_same (s : State) (p i : Nat) (g : Lane → Lane) : (s.updLane p i g).lane p i = g (s.lane p i) :=
  Tab.get_set_same ..

/-- Every other lane of the port reads as before. -/
theorem State.lane_updLane_ne (s : State) (p : Nat) (h : j ≠ i) (g : Lane → Lane) : (s.updLane p i g).lane p j = s.lane p j :=
  Tab.get_set_ne _ _ _ _ _ (by omega)

theorem State.lane_of_lanes (h : t.lanes = s.lanes) (p i : Nat) : t.lane p i = s.lane p i :=
  congrArg (fun l => Tab.get Lane.cold l (8 * p + i)) h

/-- The lanes are kept by an operation that does not list them. -/
theorem Moves.lane_kept {l : List Part} (h : Moves (Foot.only l) s t) (hl : .lanes ∉ l) (p i : Nat) : t.lane p i = s.lane p i :=
  State.lane_of_lanes (h.parts .lanes (partsMask_not hl)) p i

/-- A lane belongs to its half. -/
theorem State.mem_lanesOf_halfOf (s : State) (p : Nat) (hi : i < 8) : i ∈ s.lanesOf p (s.halfOf p i) := by
  unfold State.lanesOf State.halfOf
  split
  · simp only [List.mem_cons, List.not_mem_nil, or_false]
    omega
  · simpa using hi

theorem State.lanesOf_whole (h : s.rd XC_PORT_CTRL.SPLIT p = 0) : s.lanesOf p 0 = List.range 8 := by
  simp [State.lanesOf, State.on, h]

theorem State.halfOf_whole (h : s.rd XC_PORT_CTRL.SPLIT p = 0) (i : Nat) : s.halfOf p i = 0 := by
  simp [State.halfOf, State.on, h]

/-- A receiver that is not in TEST is where its register says. -/
theorem State.rxState_of_ne_test (h : s.rd XC_LANE_STATUS.RX_STATE p i ≠ 6) : s.rxState p i = s.rd XC_LANE_STATUS.RX_STATE p i := if_neg h

theorem State.laneReads_of_state (h : s.rd XC_LANE_STATUS.RX_STATE p i = 4 ∨ s.rd XC_LANE_STATUS.RX_STATE p i = 5) : s.laneReads p i = true := by
  unfold State.laneReads
  rw [State.rxState_of_ne_test (by omega)]
  simpa using h

theorem State.laneReads_of_lt (h : s.rd XC_LANE_STATUS.RX_STATE p i < 4) : s.laneReads p i = false := by
  unfold State.laneReads
  rw [State.rxState_of_ne_test (by omega)]
  simp
  omega

/-! ### Reading a field after a change -/

/-- The number of a half's field is not another's where neither half's is. -/
theorem ab_id_ne {a b : Fld} (ha : g.id ≠ a.id) (hb : g.id ≠ b.id) : g.id ≠ (ab k a b).id := by
  unfold ab
  split
  · exact ha
  · exact hb

theorem Reads.hidden {t' : State} (h : Reads g s t) (e : t'.regs = t.regs) : Reads g s t' :=
  .of_forall fun u j => (State.rd_of_regs e g u j).trans (h.rd u j)

theorem Reads.trans {r : State} (h : Reads g s t) (k : Reads g t r) : Reads g s r := Eq.trans k h

theorem Reads.updLane (h : Reads g s t) (p i : Nat) (f : Lane → Lane) : Reads g s (t.updLane p i f) := h

/-- A write of another field. -/
theorem Reads.wrOther (h : Reads g s t) {f : Fld} (hf : g.id ≠ f.id) (v u j : Nat) : Reads g s (t.wr f v u j) :=
  .of_forall fun u' j' => (State.rd_wr_other t hf).trans (h.rd u' j')

theorem Reads.wrHalf (h : Reads g s t) {a b : Fld} (ha : g.id ≠ a.id) (hb : g.id ≠ b.id) (k v u j : Nat) : Reads g s (t.wr (ab k a b) v u j) :=
  h.wrOther (ab_id_ne ha hb) v u j

theorem Reads.raise (h : Reads g s t) {f en ve : Fld} (hf : g.id ≠ f.id) (b : Nat) : Reads g s (t.raise f en ve b) :=
  .of_forall fun u' j' => (State.rd_raise_other hf).trans (h.rd u' j')

theorem Reads.setFields (h : Reads g s t) {l : List Fld} (hl : ∀ f ∈ l, g.id ≠ f.id) (v u j : Nat) : Reads g s (t.setFields l v u j) :=
  .of_forall fun u' j' =>
    (State.rd_foldl_wr_other (g := id) (v := fun f => bitsOf v f.lsb f.wid) (u := fun _ => u) (j := fun _ => j) hl t).trans (h.rd u' j')

theorem Reads.setRaw (h : Reads g s t) {l : List (Fld × Nat)} (hl : ∀ f ∈ l, g.id ≠ f.1.id) (u j : Nat) : Reads g s (t.setRaw l u j) :=
  .of_forall fun u' j' => (State.rd_foldl_wr_other (v := Prod.snd) (u := fun _ => u) (j := fun _ => j) hl t).trans (h.rd u' j')

/-! ### Eye scans, adaption, and a sub-port that goes down -/

/-- What the end of an eye scan writes. -/
def eyeResultFields : List Fld :=
  [XC_LANE_EYE_RESULT.BUSY, XC_LANE_EYE_RESULT.ABORTED, XC_LANE_EYE_RESULT.VALID, XC_LANE_EYE_RESULT.ERRORS]

theorem Reads.eyeAbort (h : Reads g s t) (hg : ∀ f ∈ eyeResultFields, g.id ≠ f.id) (p i : Nat) : Reads g s (t.eyeAbort p i) :=
  .ite ((((h.wrOther (hg _ (by decide)) ..).wrOther (hg _ (by decide)) ..).wrOther (hg _ (by decide)) ..).wrOther (hg _ (by decide)) ..) h

theorem State.lane_eyeAbort (s : State) (p i p' i' : Nat) : (s.eyeAbort p i).lane p' i' = s.lane p' i' := by
  unfold State.eyeAbort
  split <;> rfl

theorem State.adapt_regs (s : State) (p i : Nat) : (s.adapt p i).regs = s.regs := by
  unfold State.adapt
  split <;> rfl

/-- Of a lane, adaption changes the coefficients alone. -/
theorem State.lane_adapt (s : State) (p i : Nat) : ∃ c, (s.adapt p i).lane p i = { s.lane p i with coefficients := c } := by
  unfold State.adapt
  split
  · exact ⟨_, rfl⟩
  · exact ⟨s.draw 64, s.lane_updLane_same p i fun l => { l with coefficients := s.draw 64 }⟩

theorem State.lane_adapt_ne (s : State) (p : Nat) (h : j ≠ i) : (s.adapt p i).lane p j = s.lane p j := by
  unfold State.adapt
  split
  · rfl
  · exact s.lane_updLane_ne p h (fun l => { l with coefficients := s.draw 64 })

/-- What a sub-port writes as it goes down. -/
def linkDownFields : List Fld :=
  [XC_PORT_STATUS.LINK_UP_A, XC_PORT_STATUS.LINK_UP_B, XC_LINK_SUMMARY.LINK_UP, XC_PORT_STATUS.DOWNS_A, XC_PORT_STATUS.DOWNS_B,
    XC_XP_STATUS.SYNCED_A, XC_XP_STATUS.SYNCED_B, XC_IRQ_STATUS.DOWN]

/-- The registers of a sub-port that has gone down. -/
def State.linkDropped (s : State) (p k : Nat) : State :=
  ((s.putLink p k false).count (ab k XC_PORT_STATUS.DOWNS_A XC_PORT_STATUS.DOWNS_B) 1 p).wr (ab k XC_XP_STATUS.SYNCED_A XC_XP_STATUS.SYNCED_B) 0 p

theorem State.linkDown_up (h : s.linkUp p k = true) : ∃ x, s.linkDown p k =
    State.raise { s.linkDropped p k with xp := x } XC_IRQ_STATUS.DOWN XC_IRQ_EN.DOWN XC_IRQ_VEC.VECTOR (2 * p + k) :=
  ⟨_, if_pos h⟩

theorem Reads.linkDropped (h : Reads g s t) (hg : ∀ f ∈ linkDownFields, g.id ≠ f.id) (p k : Nat) : Reads g s (t.linkDropped p k) :=
  (((h.wrHalf (hg _ (by decide)) (hg _ (by decide)) ..).wrOther (hg _ (by decide)) ..).wrHalf (a := XC_PORT_STATUS.DOWNS_A)
    (b := XC_PORT_STATUS.DOWNS_B) (hg _ (by decide)) (hg _ (by decide)) ..).wrHalf (hg _ (by decide)) (hg _ (by decide)) ..

theorem Reads.linkDown (h : Reads g s t) (hg : ∀ f ∈ linkDownFields, g.id ≠ f.id) (p k : Nat) : Reads g s (t.linkDown p k) := by
  by_cases hup : t.linkUp p k = true
  · obtain ⟨x, hx⟩ := State.linkDown_up hup
    rw [hx]
    have hdropped : Reads g s { t.linkDropped p k with xp := x } := h.linkDropped hg p k
    exact hdropped.raise (hg _ (by decide)) _
  · exact (congrArg (Reads g s) (if_neg hup)).mpr h

theorem State.lane_linkDown (s : State) (p k p' i' : Nat) : (s.linkDown p k).lane p' i' = s.lane p' i' :=
  (State.linkDown_moves (F := Foot.only [.regs .xc, .regs .xcp, .msix, .xp, .sent]) (Sub.list rfl rfl) Moves.refl).lane_kept (by decide) p' i'

/-- Half A of a port goes down: counted, and no longer synchronised. -/
theorem State.rd_linkDown_halfA (h : s.rd XC_PORT_STATUS.LINK_UP_A p ≠ 0) : (s.linkDown p 0).rd XC_PORT_STATUS.LINK_UP_A p = 0 ∧
    (s.linkDown p 0).rd XC_XP_STATUS.SYNCED_A p = 0 ∧
    (s.linkDown p 0).rd XC_PORT_STATUS.DOWNS_A p = min (s.rd XC_PORT_STATUS.DOWNS_A p + 1) 255 := by
  obtain ⟨x, hx⟩ := State.linkDown_up (s := s) (p := p) (k := 0) (decide_eq_true h)
  have hrd : ∀ f : Fld, f.id ≠ XC_IRQ_STATUS.DOWN.id → (s.linkDown p 0).rd f p = (s.linkDropped p 0).rd f p := fun f hf => by
    rw [hx, State.rd_raise_other hf]
    rfl
  rw [hrd _ (by decide), hrd _ (by decide), hrd _ (by decide)]
  have hdowns : (s.putLink p 0 false).rd XC_PORT_STATUS.DOWNS_A p = s.rd XC_PORT_STATUS.DOWNS_A p :=
    (State.rd_putBit_other (by decide)).trans (State.rd_put_other (by decide))
  refine ⟨?_, State.rd_wr_fit (f := XC_XP_STATUS.SYNCED_A) (v := 0) (by decide), ?_⟩
  · exact (State.rd_wr_other _ (by decide)).trans ((State.rd_count_other (by decide)).trans ((State.rd_putBit_other (by decide)).trans
      (State.rd_put_flag (by decide))))
  · exact (State.rd_wr_other _ (by decide)).trans ((State.rd_count_one ..).trans (congrArg (fun n => min (n + 1) 255) hdowns))

/-! ### A receiver that changes its state (R243) -/

/-- The receiver's state replaced, and its search forgotten. -/
def State.rxMoved (s : State) (p i st : Nat) : State :=
  (s.putRx p i st).updLane p i (fun l => { l with misses := 0, seen := [], zeroAt := none })

/-- What follows in `t` where the lane was READY in `s`: the other READY lanes of its sub-port return to ALIGNED and the sub-port goes down. -/
def State.afterReady (s t : State) (p i : Nat) : State :=
  if s.rxState p i = 5 then
    ((s.lanesOf p (s.halfOf p i)).foldl (fun t j =>
      if j ≠ i ∧ t.rd XC_LANE_STATUS.RX_STATE p j = 5 then t.wr XC_LANE_STATUS.RX_STATE 4 p j else t) t).linkDown p (s.halfOf p i)
  else t

/-- The receiver in OFF, SLEEP or CDR. -/
def State.rxStopped (s : State) (p i st : Nat) : State :=
  (((s.rxMoved p i st).wr XC_LANE_PEER.VALID 0 p i).wr XC_LANE_STATUS.CDR_LOCK 0 p i).eyeAbort p i

theorem State.rxTo_down (s : State) (p i : Nat) (h : st ≤ 2) : s.rxTo p i st = s.afterReady (s.rxStopped p i st) p i := by
  have h3 : st ≠ 3 := by omega
  have h4 : st ≠ 4 := by omega
  simp only [State.rxTo, h3, h4, h, if_true, if_false, false_and]
  rfl

/-- An aligned lane returns to SEARCH. -/
theorem State.rxTo_search (h : s.rxState p i = 4 ∨ s.rxState p i = 5) : s.rxTo p i 3 =
    s.afterReady ((s.rxMoved p i 3).count XC_LANE_STATUS.ALIGN_LOST 1 p i) p i := by
  have h2 : s.rxState p i ≠ 2 := by omega
  simp [State.rxTo, h, h2, State.afterReady, State.rxMoved]

/-- A lane that locks searches from a boundary that is free. -/
theorem State.rxTo_locked (h : s.rxState p i = 2) : ∃ g : Lane → Lane, s.rxTo p i 3 = ((((s.rxMoved p i 3).updLane p i g).drawn).drawn).drawn := by
  simp [State.rxTo, h]
  exact ⟨_, rfl⟩

/-- A searching lane is aligned. -/
theorem State.rxTo_aligned (h : s.rxState p i = 3) : s.rxTo p i 4 =
    (s.rxMoved p i 4).updLane p i (fun l => { l with codewords := 0, bad := [], released := [] }) := by
  simp [State.rxTo, h, State.rxMoved]

theorem Reads.putRx (h : Reads g s t) (hg : g.id ≠ XC_LANE_STATUS.RX_STATE.id) (p i st : Nat) : Reads g s (t.putRx p i st) :=
  .ite h (h.wrOther hg ..)

theorem Reads.rxMoved (h : Reads g s t) (hg : g.id ≠ XC_LANE_STATUS.RX_STATE.id) (p i st : Nat) : Reads g s (t.rxMoved p i st) :=
  h.putRx hg p i st

theorem State.rd_rxMoved_state (h : s.rd XC_LANE_STATUS.RX_STATE p i ≠ 6) (hst : st < 8) : (s.rxMoved p i st).rd XC_LANE_STATUS.RX_STATE p i = st := by
  rw [State.rxMoved, State.rd_updLane, State.putRx, if_neg h, State.rd_wr_fit hst]

theorem State.rd_rxMoved_state_ne (s : State) (p : Nat) (h : j ≠ i) (st : Nat) :
    (s.rxMoved p i st).rd XC_LANE_STATUS.RX_STATE p j = s.rd XC_LANE_STATUS.RX_STATE p j := by
  rw [State.rxMoved, State.rd_updLane, State.putRx]
  split
  · rfl
  · exact State.rd_wr_ne s (by simpa using h)

/-- Of a lane that is not in TEST, a new state forgets the search alone. -/
theorem State.lane_rxMoved (h : s.rd XC_LANE_STATUS.RX_STATE p i ≠ 6) (st : Nat) :
    (s.rxMoved p i st).lane p i = { s.lane p i with misses := 0, seen := [], zeroAt := none } := by
  rw [State.rxMoved, State.lane_updLane_same, State.putRx, if_neg h, State.lane_wr]

theorem Reads.afterReady (h : Reads g s t) {r : State} (hg : ∀ f ∈ XC_LANE_STATUS.RX_STATE :: linkDownFields, g.id ≠ f.id) (p i : Nat) :
    Reads g s (r.afterReady t p i) :=
  .ite ((h.foldl (fun _ _ h => .ite (h.wrOther (hg _ (by decide)) ..) h) _).linkDown (fun f hf => hg f (List.mem_cons_of_mem _ hf)) ..) h

/-- Lanes of a list but one, READY, return to ALIGNED. -/
theorem State.rd_foldl_aligned (l : List Nat) (t : State) (p i j : Nat) :
    (l.foldl (fun t j => if j ≠ i ∧ t.rd XC_LANE_STATUS.RX_STATE p j = 5 then t.wr XC_LANE_STATUS.RX_STATE 4 p j else t) t).rd
      XC_LANE_STATUS.RX_STATE p j =
    if j ∈ l ∧ j ≠ i ∧ t.rd XC_LANE_STATUS.RX_STATE p j = 5 then 4 else t.rd XC_LANE_STATUS.RX_STATE p j := by
  induction l generalizing t with
  | nil => simp
  | cons k l ih =>
    rw [List.foldl_cons, ih]
    by_cases hk : k ≠ i ∧ t.rd XC_LANE_STATUS.RX_STATE p k = 5
    · rw [if_pos hk]
      by_cases hj : j = k
      · subst j
        simp [hk, State.rd_wr_fit (f := XC_LANE_STATUS.RX_STATE) (v := 4) (by decide)]
      · rw [State.rd_wr_ne t (by simpa using hj)]
        simp [hj]
    · rw [if_neg hk]
      by_cases hj : j = k
      · subst j
        rw [if_neg (fun h => hk h.2), if_neg (fun h => hk h.2)]
      · simp [hj]

/-- The states of the lanes after one of them has left READY. -/
theorem State.rd_afterReady_state (s t : State) (p i j : Nat) : (s.afterReady t p i).rd XC_LANE_STATUS.RX_STATE p j =
    if s.rxState p i = 5 ∧ j ∈ s.lanesOf p (s.halfOf p i) ∧ j ≠ i ∧ t.rd XC_LANE_STATUS.RX_STATE p j = 5 then 4
    else t.rd XC_LANE_STATUS.RX_STATE p j := by
  unfold State.afterReady
  split
  · rename_i h
    rw [(Reads.refl.linkDown (by decide) ..).rd, State.rd_foldl_aligned]
    simp [h]
  · rename_i h
    simp [h]

/-- The lane itself is where it went. -/
theorem State.rd_afterReady_state_self (s t : State) (p i : Nat) :
    (s.afterReady t p i).rd XC_LANE_STATUS.RX_STATE p i = t.rd XC_LANE_STATUS.RX_STATE p i := by
  simp [State.rd_afterReady_state]

theorem State.lane_foldl_wr {α : Type} (q : State → α → Prop) [∀ t a, Decidable (q t a)] (f : Fld) (v u j : α → Nat) (l : List α) (t : State)
    (p i : Nat) : (l.foldl (fun t a => if q t a then t.wr f (v a) (u a) (j a) else t) t).lane p i = t.lane p i := by
  induction l generalizing t with
  | nil => rfl
  | cons a l ih =>
    rw [List.foldl_cons, ih]
    split <;> rfl

theorem State.lane_afterReady (s t : State) (p i p' i' : Nat) : (s.afterReady t p i).lane p' i' = t.lane p' i' := by
  unfold State.afterReady
  split
  · rw [State.lane_linkDown]
    exact State.lane_foldl_wr (fun t j => j ≠ i ∧ t.rd XC_LANE_STATUS.RX_STATE p j = 5) _ (fun _ => 4) (fun _ => p) id _ t p' i'
  · rfl

/-! ### A receiver in OFF, SLEEP or CDR -/

/-- What a receiver that stops writes, its own state apart. -/
def rxStopFields : List Fld := [XC_LANE_PEER.VALID, XC_LANE_STATUS.CDR_LOCK] ++ eyeResultFields

theorem Reads.rxStop (h : Reads g s t) (hg : ∀ f ∈ rxStopFields, g.id ≠ f.id) (p i : Nat) :
    Reads g s (((t.wr XC_LANE_PEER.VALID 0 p i).wr XC_LANE_STATUS.CDR_LOCK 0 p i).eyeAbort p i) :=
  ((h.wrOther (hg _ (by decide)) ..).wrOther (hg _ (by decide)) ..).eyeAbort (fun f hf => hg f (List.mem_append_right _ hf)) p i

/-- What a receiver that goes to OFF, SLEEP or CDR writes. -/
def rxDownFields : List Fld := XC_LANE_STATUS.RX_STATE :: rxStopFields ++ linkDownFields

theorem Reads.rxTo_down (h : Reads g s t) (hst : st ≤ 2) (hg : ∀ f ∈ rxDownFields, g.id ≠ f.id) (p i : Nat) : Reads g s (t.rxTo p i st) := by
  rw [State.rxTo_down t p i hst]
  have hstop : Reads g s (t.rxStopped p i st) :=
    (h.rxMoved (hg _ (by decide)) p i st).rxStop (fun f hf => hg f (by simp [rxDownFields, hf])) p i
  exact hstop.afterReady (fun f hf => hg f (by
    rcases List.mem_cons.1 hf with rfl | hf
    · decide
    · simp [rxDownFields, hf])) p i

/-- A receiver that goes to OFF, SLEEP or CDR is there, its peer fields stale and its lock lost. -/
theorem State.rd_rxTo_down (h : s.rd XC_LANE_STATUS.RX_STATE p i ≠ 6) (hst : st ≤ 2) :
    (s.rxTo p i st).rd XC_LANE_STATUS.RX_STATE p i = st ∧ (s.rxTo p i st).rd XC_LANE_STATUS.CDR_LOCK p i = 0 ∧
      (s.rxTo p i st).rd XC_LANE_PEER.VALID p i = 0 := by
  rw [State.rxTo_down s p i hst]
  refine ⟨?_, ?_, ?_⟩
  · rw [State.rd_afterReady_state_self, State.rxStopped, (Reads.refl.rxStop (by decide) p i).rd, State.rd_rxMoved_state h (by omega)]
  · rw [(Reads.refl.afterReady (by decide) p i).rd, State.rxStopped, (Reads.refl.eyeAbort (by decide) p i).rd, State.rd_wr_fit (by decide)]
  · rw [(Reads.refl.afterReady (by decide) p i).rd, State.rxStopped, (Reads.refl.eyeAbort (by decide) p i).rd,
      State.rd_wr_other _ (by decide), State.rd_wr_fit (by decide)]

/-- The other lanes of the sub-port: those READY return to ALIGNED where the lane was READY. -/
theorem State.rd_rxTo_down_others (s : State) (p : Nat) (hst : st ≤ 2) (hj : j ≠ i) : (s.rxTo p i st).rd XC_LANE_STATUS.RX_STATE p j =
    if s.rxState p i = 5 ∧ j ∈ s.lanesOf p (s.halfOf p i) ∧ s.rd XC_LANE_STATUS.RX_STATE p j = 5 then 4
    else s.rd XC_LANE_STATUS.RX_STATE p j := by
  have hstop : (s.rxStopped p i st).rd XC_LANE_STATUS.RX_STATE p j = s.rd XC_LANE_STATUS.RX_STATE p j := by
    rw [State.rxStopped, (Reads.refl.rxStop (by decide) p i).rd, State.rd_rxMoved_state_ne s p hj]
  rw [State.rxTo_down s p i hst, State.rd_afterReady_state, hstop]
  simp [hj]

/-- A READY lane of a whole port that goes to OFF, SLEEP or CDR takes the port down. -/
theorem State.rd_rxTo_down_ready (h : s.rd XC_LANE_STATUS.RX_STATE p i = 5) (hsplit : s.rd XC_PORT_CTRL.SPLIT p = 0)
    (hup : s.rd XC_PORT_STATUS.LINK_UP_A p ≠ 0) (hst : st ≤ 2) :
    (s.rxTo p i st).rd XC_PORT_STATUS.LINK_UP_A p = 0 ∧ (s.rxTo p i st).rd XC_XP_STATUS.SYNCED_A p = 0 ∧
    (s.rxTo p i st).rd XC_PORT_STATUS.DOWNS_A p = min (s.rd XC_PORT_STATUS.DOWNS_A p + 1) 255 ∧
    ∀ j, j < 8 → j ≠ i → s.rd XC_LANE_STATUS.RX_STATE p j = 5 → (s.rxTo p i st).rd XC_LANE_STATUS.RX_STATE p j = 4 := by
  have h5 : s.rxState p i = 5 := (State.rxState_of_ne_test (by omega)).trans h
  have hothers : ∀ j, j < 8 → j ≠ i → s.rd XC_LANE_STATUS.RX_STATE p j = 5 → (s.rxTo p i st).rd XC_LANE_STATUS.RX_STATE p j = 4 := by
    intro j hj hne hj5
    rw [State.rd_rxTo_down_others s p hst hne, State.halfOf_whole hsplit, State.lanesOf_whole hsplit]
    simp [h5, hj, hj5]
  rw [State.rxTo_down s p i hst, State.afterReady, if_pos h5, State.halfOf_whole hsplit] at hothers ⊢
  have hread : ∀ f : Fld, (∀ e ∈ XC_LANE_STATUS.RX_STATE :: rxStopFields, f.id ≠ e.id) → Reads f s ((s.lanesOf p 0).foldl (fun t j =>
      if j ≠ i ∧ t.rd XC_LANE_STATUS.RX_STATE p j = 5 then t.wr XC_LANE_STATUS.RX_STATE 4 p j else t) (s.rxStopped p i st)) := fun f hf =>
    ((Reads.refl.rxMoved (hf _ (by decide)) p i st).rxStop (fun e he => hf e (by simp [he])) p i).foldl
      (fun _ _ h => .ite (h.wrOther (hf _ (by decide)) ..) h) _
  have hdown := State.rd_linkDown_halfA (p := p) (((hread XC_PORT_STATUS.LINK_UP_A (by decide)).rd p 0).symm ▸ hup)
  rw [(hread XC_PORT_STATUS.DOWNS_A (by decide)).rd p 0] at hdown
  exact ⟨hdown.1, hdown.2.1, hdown.2.2, hothers⟩

end Sys2Proof.Machine
end

section
/-! PROOF. The receivers of the lanes (O29; 09 R236 to R249, R261). -/

namespace Sys2Proof.Machine

variable {s t : State} {g : Fld} {p i j k st n : Nat}

/-! ### Loss of signal and lock -/

theorem exec_los_eq (hp : p < 16) (hi : i < 8) (s : State) : exec (.los p i) s = .next (
    if s.rd XC_LANE_STATUS.RX_STATE p i < 2 then s.wr XC_LANE_STATUS.LOS 1 p i
    else if s.rd XC_LANE_STATUS.RX_STATE p i = 6 then
      (if s.rd XC_LANE_CTRL.TEST p i = 2 then s.wr XC_LANE_STATUS.LOS 1 p i
       else ((s.wr XC_LANE_STATUS.LOS 1 p i).eyeAbort p i).wr XC_LANE_STATUS.CDR_LOCK 0 p i)
    else (s.wr XC_LANE_STATUS.LOS 1 p i).rxTo p i 2) :=
  need_pos (decide_eq_true ⟨hp, hi⟩) _

/-- A receiver that runs and is not under test loses its signal. -/
theorem exec_los_running (hp : p < 16) (hi : i < 8) (h2 : 2 ≤ s.rd XC_LANE_STATUS.RX_STATE p i) (h6 : s.rd XC_LANE_STATUS.RX_STATE p i ≠ 6) :
    exec (.los p i) s = .next ((s.wr XC_LANE_STATUS.LOS 1 p i).rxTo p i 2) := by
  rw [exec_los_eq hp hi, if_neg (by omega), if_neg h6]

theorem exec_cdrLock_locks (hp : p < 16) (hi : i < 8) (h : s.rd XC_LANE_STATUS.RX_STATE p i = 2) (hpll : s.rd XC_PORT_STATUS.PLL_LOCK p ≠ 0) :
    exec (.cdrLock p i) s = .next ((((s.wr XC_LANE_STATUS.LOS 0 p i).rxTo p i 3).wr XC_LANE_STATUS.CDR_LOCK 1 p i).adapt p i) := by
  refine (need_pos (decide_eq_true ⟨hp, hi⟩) _).trans (congrArg _ ?_)
  have hst : s.rxState p i = 2 := (State.rxState_of_ne_test (by omega)).trans h
  simp [State.on, hpll, hst, h]

theorem exec_cdrLock_still (hp : p < 16) (hi : i < 8) (h : s.rd XC_PORT_STATUS.PLL_LOCK p = 0 ∨
    (s.rd XC_LANE_STATUS.RX_STATE p i ≠ 2 ∧ s.rd XC_LANE_STATUS.RX_STATE p i ≠ 6)) : exec (.cdrLock p i) s = .next s := by
  refine (need_pos (decide_eq_true ⟨hp, hi⟩) _).trans (congrArg _ ?_)
  rcases h with hpll | ⟨h2, h6⟩
  · simp [State.on, hpll]
  · simp [State.rxState_of_ne_test h6, h2, h6]

/-- The lane that locks: in SEARCH, its signal present, its clock locked. -/
theorem State.cdrLocked (h : s.rd XC_LANE_STATUS.RX_STATE p i = 2) (t : State)
    (ht : t = (((s.wr XC_LANE_STATUS.LOS 0 p i).rxTo p i 3).wr XC_LANE_STATUS.CDR_LOCK 1 p i).adapt p i) :
    t.rd XC_LANE_STATUS.RX_STATE p i = 3 ∧ t.rd XC_LANE_STATUS.LOS p i = 0 ∧ t.rd XC_LANE_STATUS.CDR_LOCK p i = 1 ∧
      s.regsKeptBut t [XC_LANE_STATUS.RX_STATE.key p i, XC_LANE_STATUS.LOS.key p i, XC_LANE_STATUS.CDR_LOCK.key p i] := by
  have hst : (s.wr XC_LANE_STATUS.LOS 0 p i).rd XC_LANE_STATUS.RX_STATE p i = 2 := (State.rd_wr_other s (by decide)).trans h
  obtain ⟨g, hg⟩ := State.rxTo_locked ((State.rxState_of_ne_test (by omega)).trans hst)
  have hregs : t.regs = (((s.wr XC_LANE_STATUS.LOS 0 p i).wr XC_LANE_STATUS.RX_STATE 3 p i).wr XC_LANE_STATUS.CDR_LOCK 1 p i).regs := by
    rw [ht, State.adapt_regs, hg, State.rxMoved, State.putRx, if_neg (by omega)]
    rfl
  refine ⟨?_, ?_, ?_, State.regsKeptBut.hidden (((State.regsKeptBut.refl.wr (by simp)).wr (by simp)).wr (by simp)) hregs⟩
  · rw [State.rd_of_regs hregs, State.rd_wr_other _ (by decide), State.rd_wr_fit (by decide)]
  · rw [State.rd_of_regs hregs, State.rd_wr_other _ (by decide), State.rd_wr_other _ (by decide), State.rd_wr_fit (by decide)]
  · rw [State.rd_of_regs hregs, State.rd_wr_fit (by decide)]

theorem exec_cdrLockLost_locked (hp : p < 16) (hi : i < 8) (h3 : 3 ≤ s.rd XC_LANE_STATUS.RX_STATE p i)
    (h6 : s.rd XC_LANE_STATUS.RX_STATE p i ≠ 6) : exec (.cdrLockLost p i) s = .next (s.rxTo p i 2) :=
  (need_pos (decide_eq_true ⟨hp, hi⟩) _).trans (congrArg _ (if_pos ((State.rxState_of_ne_test h6).symm ▸ h3)))

theorem exec_cdrLockLost_still (hp : p < 16) (hi : i < 8) (h : s.rd XC_LANE_STATUS.RX_STATE p i < 3) :
    exec (.cdrLockLost p i) s = .next s := by
  refine (need_pos (decide_eq_true ⟨hp, hi⟩) _).trans (congrArg _ ?_)
  rw [State.rxState_of_ne_test (by omega), if_neg (by omega), if_neg (by omega)]

/-! ### Sleep -/

theorem exec_rxSleep_eq (hp : p < 16) (hi : i < 8) (v : Bool) (s : State) : exec (.rxSleep p i v) s = .next (
    if v then
      (if s.rd XC_LANE_STATUS.RX_STATE p i = 0 ∨ s.rd XC_LANE_STATUS.RX_STATE p i = 6 then (s.put XC_LANE_CTRL.RX_SLEEP v p i).eyeAbort p i
       else ((s.put XC_LANE_CTRL.RX_SLEEP v p i).eyeAbort p i).rxTo p i 1)
    else if s.rd XC_LANE_STATUS.RX_STATE p i = 1 then ((s.put XC_LANE_CTRL.RX_SLEEP v p i).eyeAbort p i).rxTo p i 2
    else (s.put XC_LANE_CTRL.RX_SLEEP v p i).eyeAbort p i) :=
  need_pos (decide_eq_true ⟨hp, hi⟩) _

/-- A write of `RX_SLEEP` ends a running eye scan. -/
theorem Reads.sleepWritten (h : Reads g s t) (hg : ∀ f ∈ XC_LANE_CTRL.RX_SLEEP :: eyeResultFields, g.id ≠ f.id) (v : Bool) (p i : Nat) :
    Reads g s ((t.put XC_LANE_CTRL.RX_SLEEP v p i).eyeAbort p i) :=
  Reads.eyeAbort (h.wrOther (hg _ (by decide)) ..) (fun f hf => hg f (List.mem_cons_of_mem _ hf)) p i

theorem State.rd_sleepWritten (s : State) (v : Bool) (p i : Nat) :
    ((s.put XC_LANE_CTRL.RX_SLEEP v p i).eyeAbort p i).rd XC_LANE_CTRL.RX_SLEEP p i = b2n v := by
  rw [(Reads.refl.eyeAbort (by decide) p i).rd, State.rd_put_flag (by decide)]

theorem exec_sleepBlock_eq (hp : p < 16) (hi : i < 8) (b : XBlock) (s : State) : exec (.sleepBlock ⟨p, i⟩ b) s = .next (
    if (s.control p i b).2 = some 0x5A then ((s.control p i b).1.wr XC_LANE_STATUS.PEER_SLEEP 1 p i).rxTo p i 2 else (s.control p i b).1) :=
  need_pos (decide_eq_true ⟨hp, hi⟩) _

/-- A lane that does not read, or a block of an uncorrectable codeword: nothing is released. -/
theorem State.control_lost {b : XBlock} (h : s.laneReads p i = false ∨ s.errored p i b = true) : s.control p i b = (s, none) :=
  if_pos (by rcases h with h | h <;> simp [h])

theorem State.control_bad {b : XBlock} (hr : s.laneReads p i = true) (he : s.errored p i b = false) (hb : b.bits % 2 = 1)
    (hc : ccrcOk b.bits = false) : s.control p i b = (s.count XC_LANE_ERR.CTRL_CRC 1 p i, none) := by
  simp [State.control, hr, he, hb, hc]

theorem State.control_good {b : XBlock} (hr : s.laneReads p i = true) (he : s.errored p i b = false) (hb : b.bits % 2 = 1)
    (hc : ccrcOk b.bits = true) (hk : codeKnown (blockCode b.bits) = true) : s.control p i b = (s, some (blockCode b.bits)) := by
  simp [State.control, hr, he, hb, hc, hk]

/-- The commands by which a READY lane leaves (09 R248): each sends it to SLEEP or CDR from a state that differs in flags of the lane alone. -/
theorem exec_leaves (hp : p < 16) (hi : i < 8) {c : Instr} (hc : c = .los p i ∨ c = .cdrLockLost p i ∨ c = .rxSleep p i true)
    (h : s.rd XC_LANE_STATUS.RX_STATE p i = 5) : ∃ u st, st ≤ 2 ∧ exec c s = .next (u.rxTo p i st) ∧
      ∀ g : Fld, (∀ f ∈ XC_LANE_STATUS.LOS :: XC_LANE_CTRL.RX_SLEEP :: eyeResultFields, g.id ≠ f.id) → Reads g s u := by
  rcases hc with rfl | rfl | rfl
  · exact ⟨_, 2, le_refl 2, exec_los_running hp hi (by omega) (by omega), fun g hg => Reads.refl.wrOther (hg _ (by decide)) ..⟩
  · exact ⟨s, 2, le_refl 2, exec_cdrLockLost_locked hp hi (by omega) (by omega), fun g _ => Reads.refl⟩
  · refine ⟨_, 1, by decide, (exec_rxSleep_eq hp hi true s).trans ?_, fun g hg =>
      Reads.refl.sleepWritten (fun f hf => hg f (List.mem_cons_of_mem _ hf)) true p i⟩
    rw [if_pos rfl, if_neg (by omega)]

/-! ### Codewords (R240, R241) -/

/-- What a lane that lost its alignment writes. -/
def alignLostFields : List Fld := XC_LANE_STATUS.ALIGN_LOST :: XC_LANE_STATUS.RX_STATE :: linkDownFields

theorem State.alignMiss_early (h : s.laneReads p i = true) (hm : (s.lane p i).misses < 2) :
    s.alignMiss p i = s.updLane p i (fun l => { l with misses := l.misses + 1 }) := by
  rw [State.alignMiss, if_pos h, if_neg (by omega)]

theorem State.alignMiss_third (h : s.rd XC_LANE_STATUS.RX_STATE p i = 4 ∨ s.rd XC_LANE_STATUS.RX_STATE p i = 5)
    (hm : 2 ≤ (s.lane p i).misses) : s.alignMiss p i = s.afterReady ((s.rxMoved p i 3).count XC_LANE_STATUS.ALIGN_LOST 1 p i) p i := by
  rw [State.alignMiss, if_pos (State.laneReads_of_state h), if_pos hm, State.rxTo_search]
  rwa [State.rxState_of_ne_test (by omega)]

/-- A missed alignment block keeps the codewords counted, and the registers but those of a lane that loses its alignment. -/
theorem State.alignMiss_keeps (h : s.rd XC_LANE_STATUS.RX_STATE p i = 4 ∨ s.rd XC_LANE_STATUS.RX_STATE p i = 5) :
    ((s.alignMiss p i).lane p i).codewords = (s.lane p i).codewords ∧
      ∀ g : Fld, (∀ f ∈ alignLostFields, g.id ≠ f.id) → Reads g s (s.alignMiss p i) := by
  by_cases hm : 2 ≤ (s.lane p i).misses
  · rw [State.alignMiss_third h hm]
    refine ⟨?_, fun g hg => ?_⟩
    · rw [State.lane_afterReady, State.count, State.lane_wr, State.lane_rxMoved (by omega)]
    · have hcount : Reads g s ((s.rxMoved p i 3).count XC_LANE_STATUS.ALIGN_LOST 1 p i) :=
        (Reads.refl.rxMoved (hg _ (by decide)) p i 3).wrOther (hg _ (by decide)) ..
      exact hcount.afterReady (fun f hf => hg f (List.mem_cons_of_mem _ hf)) p i
  · rw [State.alignMiss_early (State.laneReads_of_state h) (by omega)]
    exact ⟨by rw [State.lane_updLane_same], fun g _ => Reads.refl⟩

/-- A codeword is counted by what its decoder found; one that cannot be corrected and was to begin with an alignment block counts as a miss. -/
def State.codewordCounted (s : State) (p i : Nat) (due : Bool) : Option (Nat × Nat) → State
  | none => if due then (s.count XC_LANE_FEC.CW_UNCORR 1 p i).alignMiss p i else s.count XC_LANE_FEC.CW_UNCORR 1 p i
  | some c =>
    if c.1 = 0 then s
    else if s.rd XC_LANE_FEC.MAX_SYM p i < c.1 then (s.count XC_LANE_FEC.CW_CORR 1 p i).wr XC_LANE_FEC.MAX_SYM c.1 p i
    else s.count XC_LANE_FEC.CW_CORR 1 p i

theorem exec_fecCodeword_still (hp : p < 16) (hi : i < 8) (h : s.laneReads p i = false ∨ s.fecOn p i = false) (e l c : List Nat) :
    exec (.fecCodeword p i e l c) s = .next s :=
  (need_pos (decide_eq_true ⟨hp, hi⟩) _).trans (congrArg _ (if_neg (by rcases h with h | h <;> simp [h])))

theorem exec_fecCodeword_reads (hp : p < 16) (hi : i < 8) (h : s.laneReads p i = true) (hfec : s.fecOn p i = true) (e l c : List Nat) :
    ∃ (u : State) (due : Bool), u.regs = s.regs ∧ (u.lane p i).codewords = (s.lane p i).codewords + 1 ∧ exec (.fecCodeword p i e l c) s = .next
      (u.codewordCounted p i due (fecDecode (lineBits (s.pam4 p i) (s.on XC_LANE_CTRL.PRECODE p i) (s.on XC_LANE_CTRL.RX_INV p i)
        (s.lane p i).rxLevel (e ++ l ++ c)).1)) := by
  rw [exec_fecCodeword, execFecCodeword, need_pos (decide_eq_true ⟨hp, hi⟩), if_pos (by simp [h, hfec])]
  extract_lets w r due d g bad u
  refine ⟨u, due, rfl, congrArg Lane.codewords (s.lane_updLane_same p i _), congrArg _ ?_⟩
  change _ = u.codewordCounted p i due d
  clear_value u
  cases d with
  | none => rfl
  | some c =>
    have hmax : (u.count XC_LANE_FEC.CW_CORR 1 p i).rd XC_LANE_FEC.MAX_SYM p i = u.rd XC_LANE_FEC.MAX_SYM p i :=
      State.rd_count_other (by decide)
    rw [State.codewordCounted, ← hmax]

theorem State.codewordCounted_uncorrectable (h : s.rd XC_LANE_STATUS.RX_STATE p i = 4 ∨ s.rd XC_LANE_STATUS.RX_STATE p i = 5) (due : Bool) :
    (s.codewordCounted p i due none).rd XC_LANE_FEC.CW_UNCORR p i = min (s.rd XC_LANE_FEC.CW_UNCORR p i + 1) (2 ^ 16 - 1) ∧
    (s.codewordCounted p i due none).rd XC_LANE_FEC.CW_CORR p i = s.rd XC_LANE_FEC.CW_CORR p i ∧
    (s.codewordCounted p i due none).rd XC_LANE_FEC.MAX_SYM p i = s.rd XC_LANE_FEC.MAX_SYM p i ∧
    ((s.codewordCounted p i due none).lane p i).codewords = (s.lane p i).codewords := by
  have hst : (s.count XC_LANE_FEC.CW_UNCORR 1 p i).rd XC_LANE_STATUS.RX_STATE p i = s.rd XC_LANE_STATUS.RX_STATE p i :=
    State.rd_count_other (by decide)
  obtain ⟨hcodewords, hreads⟩ := State.alignMiss_keeps (s := s.count XC_LANE_FEC.CW_UNCORR 1 p i) (hst.symm ▸ h)
  have hcounted : ∀ g : Fld, (∀ f ∈ alignLostFields, g.id ≠ f.id) →
      (s.codewordCounted p i due none).rd g p i = (s.count XC_LANE_FEC.CW_UNCORR 1 p i).rd g p i := fun g hg => by
    rw [State.codewordCounted]
    split
    · exact (hreads g hg).rd p i
    · rfl
  refine ⟨?_, ?_, ?_, ?_⟩
  · rw [hcounted _ (by decide), State.rd_count_one]
    rfl
  · rw [hcounted _ (by decide), State.rd_count_other (by decide)]
  · rw [hcounted _ (by decide), State.rd_count_other (by decide)]
  · rw [State.codewordCounted]
    split
    · exact hcodewords
    · rfl

theorem State.codewordCounted_corrected (s : State) (p i : Nat) (due : Bool) (c : Nat × Nat) :
    (s.codewordCounted p i due (some c)).rd XC_LANE_FEC.CW_UNCORR p i = s.rd XC_LANE_FEC.CW_UNCORR p i ∧
    (s.codewordCounted p i due (some c)).rd XC_LANE_FEC.CW_CORR p i =
      (if c.1 = 0 then s.rd XC_LANE_FEC.CW_CORR p i else min (s.rd XC_LANE_FEC.CW_CORR p i + 1) (2 ^ 32 - 1)) ∧
    (s.codewordCounted p i due (some c)).rd XC_LANE_FEC.MAX_SYM p i =
      (if s.rd XC_LANE_FEC.MAX_SYM p i < c.1 then c.1 % 2 ^ 4 else s.rd XC_LANE_FEC.MAX_SYM p i) ∧
    ((s.codewordCounted p i due (some c)).lane p i).codewords = (s.lane p i).codewords := by
  have hcorr : (s.count XC_LANE_FEC.CW_CORR 1 p i).rd XC_LANE_FEC.CW_CORR p i = min (s.rd XC_LANE_FEC.CW_CORR p i + 1) (2 ^ 32 - 1) :=
    State.rd_count_one ..
  rw [State.codewordCounted]
  by_cases h0 : c.1 = 0
  · simp [h0]
  by_cases hmax : s.rd XC_LANE_FEC.MAX_SYM p i < c.1
  · simp only [if_neg h0, if_pos hmax]
    refine ⟨?_, ?_, State.rd_wr_same .., rfl⟩
    · rw [State.rd_wr_other _ (by decide), State.rd_count_other (by decide)]
    · rw [State.rd_wr_other _ (by decide), hcorr]
  · simp only [if_neg h0, if_neg hmax]
    exact ⟨State.rd_count_other (by decide), hcorr, State.rd_count_other (by decide), rfl⟩

/-! ### Alignment blocks (R239, R245, R247) -/

/-- What an alignment block of the peer writes of it. -/
def peerBlockFields : List Fld :=
  [XC_LANE_PEER.LANE, XC_LANE_PEER.PORT, XC_LANE_PEER.PART, XC_LANE_PEER.FEC, XC_LANE_PEER.RATE, XC_LANE_PEER.SPLIT, XC_LANE_PEER.VALID,
    XC_LANE_ERR.CTRL_CRC]

theorem Reads.peerFields (h : Reads g s t) (hg : ∀ f ∈ peerBlockFields, g.id ≠ f.id) (p i b : Nat) : Reads g s (t.peerFields p i b) :=
  .ite (h.setRaw (fun f hf => hg f.1 (by
    have hmem := List.mem_map_of_mem (f := Prod.fst) hf
    exact List.mem_append_left [XC_LANE_ERR.CTRL_CRC] hmem)) ..) (h.wrOther (hg _ (by decide)) ..)

theorem State.lane_peerFields (s : State) (p i b p' i' : Nat) : (s.peerFields p i b).lane p' i' = s.lane p' i' := by
  unfold State.peerFields
  split <;> rfl

/-- Registers decide whether FEC is on for a lane. -/
theorem State.fecOn_of_regs (h : t.regs = s.regs) (p i : Nat) : t.fecOn p i = s.fecOn p i := by
  simp [State.fecOn, State.halfOf, State.on, State.rd_of_regs h]

/-- Every lane of the sub-port is READY, and the sub-port up (R247, R248). -/
def State.broughtUp (s : State) (p k : Nat) : State :=
  ((((s.lanesOf p k).foldl (fun t i => t.wr XC_LANE_STATUS.RX_STATE 5 p i) s).wr (ab k XC_PORT_STATUS.SKEW_A XC_PORT_STATUS.SKEW_B)
    (skewCycles (s.skew p k)) p).putLink p k true).raise XC_IRQ_STATUS.UP XC_IRQ_EN.UP XC_IRQ_VEC.VECTOR (2 * p + k)

theorem State.rd_broughtUp_state (s : State) (p k j : Nat) : (s.broughtUp p k).rd XC_LANE_STATUS.RX_STATE p j =
    if j ∈ s.lanesOf p k then 5 else s.rd XC_LANE_STATUS.RX_STATE p j := by
  have hready := read_foldl_each (step := fun (t : State) j => t.wr XC_LANE_STATUS.RX_STATE 5 p j)
    (read := fun t j => t.rd XC_LANE_STATUS.RX_STATE p j) (v := fun _ => 5) (fun t i j => by
      split
      · rename_i h
        exact h ▸ State.rd_wr_fit (by decide)
      · rename_i h
        exact State.rd_wr_ne t (by simpa using h)) (s.lanesOf p k) s j
  refine Eq.trans ?_ hready
  rw [State.broughtUp, State.rd_raise_other (by decide)]
  exact (State.rd_putBit_other (by decide)).trans ((State.rd_wr_other _ (ab_id_ne (by decide) (by decide))).trans
    (State.rd_wr_other _ (ab_id_ne (by decide) (by decide))))

/-- While a lane of the sub-port is not ALIGNED nothing happens. -/
theorem State.tryReady_waits (h : ∃ j ∈ s.lanesOf p k, s.rd XC_LANE_STATUS.RX_STATE p j ≠ 4) : s.tryReady p k = s := by
  unfold State.tryReady
  rw [if_pos]
  simp only [Bool.or_eq_true, Bool.not_eq_true', List.all_eq_false, decide_eq_true_eq]
  exact .inr h

theorem State.tryReady_ready (hen : s.subEnabled p k = true) (hne : s.lanesOf p k ≠ [])
    (hst : ∀ j ∈ s.lanesOf p k, s.rd XC_LANE_STATUS.RX_STATE p j = 4) (hpeers : s.peersAgree p k = true) (hskew : s.skew p k ≤ 32000) :
    s.tryReady p k = s.broughtUp p k := by
  unfold State.tryReady
  rw [if_neg, if_neg (by simp [hpeers]), if_neg (by omega)]
  · rfl
  · simpa [hen, hne] using hst

/-- An ALIGNED lane is ALIGNED or READY after its sub-port has tried to come up. -/
theorem State.rd_tryReady_state (h : s.rd XC_LANE_STATUS.RX_STATE p i = 4) (k : Nat) :
    (s.tryReady p k).rd XC_LANE_STATUS.RX_STATE p i = 4 ∨ (s.tryReady p k).rd XC_LANE_STATUS.RX_STATE p i = 5 := by
  unfold State.tryReady
  split_ifs
  · exact .inl h
  · exact .inl ((State.rd_wr_other s (ab_id_ne (by decide) (by decide))).trans h)
  · exact .inl ((State.rd_wr_other s (ab_id_ne (by decide) (by decide))).trans h)
  · change (s.broughtUp p k).rd _ p i = 4 ∨ (s.broughtUp p k).rd _ p i = 5
    rw [State.rd_broughtUp_state]
    split
    · exact .inr rfl
    · exact .inl h

theorem State.lane_tryReady (s : State) (p k p' i' : Nat) : (s.tryReady p k).lane p' i' = s.lane p' i' :=
  (State.tryReady_moves (F := Foot.only [.regs .xc, .regs .xcp, .msix, .sent]) (Sub.list rfl rfl) Moves.refl).lane_kept (by decide) p' i'

/-- The bits of an alignment block as the receiver takes them (R246). -/
def State.takenBits (s : State) (p i : Nat) (b : AlignBlock) : Nat :=
  if s.rd XC_LANE_CTRL.RX_INV p i = 0 then b.block % 2 ^ 257 else 2 ^ 257 - 1 - b.block % 2 ^ 257

theorem exec_alignmentBlock_eq (hp : p < 16) (hi : i < 8) (b : AlignBlock) {bits : Nat} (hbits : bits = s.takenBits p i b) :
    exec (.alignmentBlock p i b) s = .next (
      if s.rxState p i = 3 then
        if commaBits bits ≤ 4 then ((s.adapt p i).searchMatch p i bits b.pos b.time).tryReady p (s.halfOf p i)
        else if 60 ≤ commaBits bits ∧ s.on XC_LANE_CTRL.AUTO_INV p i then
          ((s.wr XC_LANE_CTRL.RX_INV (1 - s.rd XC_LANE_CTRL.RX_INV p i) p i).wr XC_LANE_STATUS.INV_SEEN 1 p i).updLane p i
            (fun l => { l with seen := [], zeroAt := none })
        else s
      else if s.laneReads p i && decide (b.pos % alignPeriod (s.fecOn p i) = (s.lane p i).bound % alignPeriod (s.fecOn p i)) then
        if commaBits bits ≤ 4 then
          ((((s.adapt p i).count XC_LANE_ERR.COMMA_BITS (commaBits bits) p i).peerFields p i bits).updLane p i
            (fun l => { l with misses := 0, time := b.time })).tryReady p (s.halfOf p i)
        else s.alignMiss p i
      else s) := by
  have hinv : (if s.on XC_LANE_CTRL.RX_INV p i then 2 ^ 257 - 1 - b.block % 2 ^ 257 else b.block % 2 ^ 257) = bits := by
    rw [hbits, State.takenBits]
    by_cases h : s.rd XC_LANE_CTRL.RX_INV p i = 0
    · rw [if_pos h, if_neg (mt (State.on_iff ..).1 (not_not.2 h))]
    · rw [if_neg h, if_pos ((State.on_iff ..).2 h)]
  refine (need_pos (decide_eq_true ⟨hp, hi⟩) _).trans (congrArg _ ?_)
  dsimp only
  rw [hinv]

/-- In automatic alignment a first match is noted. -/
theorem State.searchMatch_first {bits pos time : Nat} (hmode : s.rd XC_LANE_CTRL.ALIGN_MODE p i = 0) (h : pos < alignPeriod (s.fecOn p i) ∨
    (s.lane p i).seen.contains (pos - alignPeriod (s.fecOn p i)) = false) :
    s.searchMatch p i bits pos time = ((s.peerFields p i bits).updLane p i (fun l => { l with time := time })).updLane p i (fun l =>
      { l with seen := l.seen.filter (fun q => decide (pos ≤ q + alignPeriod (s.fecOn p i))) ++ [pos] }) := by
  have hmode : s.on XC_LANE_CTRL.ALIGN_MODE p i = false := by simp [State.on, hmode]
  unfold State.searchMatch
  dsimp only
  rw [hmode, if_neg (by decide), if_neg]
  rintro ⟨hlo, hseen⟩
  rcases h with h | h
  · omega
  · rw [h] at hseen
    cases hseen

/-- In automatic alignment a second match one period after the first aligns the lane. -/
theorem State.searchMatch_second {bits pos time : Nat} (hmode : s.rd XC_LANE_CTRL.ALIGN_MODE p i = 0) (hlo : alignPeriod (s.fecOn p i) ≤ pos)
    (h : (s.lane p i).seen.contains (pos - alignPeriod (s.fecOn p i)) = true) :
    s.searchMatch p i bits pos time = (((s.peerFields p i bits).updLane p i (fun l => { l with time := time })).updLane p i (fun l =>
      { l with bound := pos })).rxTo p i 4 := by
  have hmode : s.on XC_LANE_CTRL.ALIGN_MODE p i = false := by simp [State.on, hmode]
  unfold State.searchMatch
  dsimp only
  rw [hmode, if_neg (by decide), if_pos ⟨hlo, h⟩]

/-- The state of the receiver, and what the search looks at, are the same once the equaliser has adapted. -/
theorem State.adapt_search (s : State) (p i : Nat) : (s.adapt p i).rd XC_LANE_CTRL.ALIGN_MODE p i = s.rd XC_LANE_CTRL.ALIGN_MODE p i ∧
    (s.adapt p i).fecOn p i = s.fecOn p i ∧ ((s.adapt p i).lane p i).seen = (s.lane p i).seen := by
  obtain ⟨c, hc⟩ := s.lane_adapt p i
  exact ⟨State.rd_of_regs (s.adapt_regs p i) .., State.fecOn_of_regs (s.adapt_regs p i) p i, by rw [hc]⟩

/-- What the peer checks read. -/
def peerCheckFields : List Fld :=
  [XC_PORT_CTRL.SPLIT, XC_PORT_CTRL.RATE_A, XC_PORT_CTRL.FEC_A, XC_LANE_PEER.VALID, XC_LANE_PEER.PART, XC_LANE_PEER.PORT, XC_LANE_PEER.LANE,
    XC_LANE_PEER.RATE, XC_LANE_PEER.FEC, XC_LANE_PEER.SPLIT]

theorem State.peersAgree_congr (h : ∀ f ∈ peerCheckFields, Reads f s t) (p : Nat) : t.peersAgree p 0 = s.peersAgree p 0 := by
  have hrd : ∀ f ∈ peerCheckFields, ∀ u j, t.rd f u j = s.rd f u j := fun f hf => (h f hf).rd
  simp only [State.peersAgree, State.lanesOf, State.on, ab, if_true, hrd XC_PORT_CTRL.SPLIT (by decide), hrd XC_PORT_CTRL.RATE_A (by decide),
    hrd XC_PORT_CTRL.FEC_A (by decide), hrd XC_LANE_PEER.VALID (by decide), hrd XC_LANE_PEER.PART (by decide),
    hrd XC_LANE_PEER.PORT (by decide), hrd XC_LANE_PEER.LANE (by decide), hrd XC_LANE_PEER.RATE (by decide),
    hrd XC_LANE_PEER.FEC (by decide), hrd XC_LANE_PEER.SPLIT (by decide)]

/-- The skew of a whole port follows its settings and the times of its lanes' alignment blocks. -/
theorem State.skew_congr (h : ∀ f ∈ peerCheckFields, Reads f s t) (hsplit : s.rd XC_PORT_CTRL.SPLIT p = 0)
    (htime : ∀ j, (t.lane p j).time = (s.lane p j).time) : t.skew p 0 = s.skew p 0 := by
  have hrd : ∀ f ∈ peerCheckFields, ∀ u j, t.rd f u j = s.rd f u j := fun f hf => (h f hf).rd
  have hsplit' : t.rd XC_PORT_CTRL.SPLIT p = 0 := (hrd _ (by decide) ..).trans hsplit
  simp only [State.skew, State.fecOn, State.laneRate, State.halfOf_whole hsplit, State.halfOf_whole hsplit', State.lanesOf_whole hsplit,
    State.lanesOf_whole hsplit', State.on, ab, if_true, htime, hrd XC_PORT_CTRL.RATE_A (by decide), hrd XC_PORT_CTRL.FEC_A (by decide)]

/-! ### What an alignment block does, case by case -/

section
variable (hp : p < 16) (hi : i < 8) {b : AlignBlock} {bits : Nat} (hbits : bits = s.takenBits p i b)
include hp hi hbits

/-- In search, neither the comma nor its complement. -/
theorem exec_alignmentBlock_noise (hst : s.rd XC_LANE_STATUS.RX_STATE p i = 3) (h4 : 4 < commaBits bits)
    (h : commaBits bits < 60 ∨ s.rd XC_LANE_CTRL.AUTO_INV p i = 0) : exec (.alignmentBlock p i b) s = .next s := by
  have hst : s.rxState p i = 3 := (State.rxState_of_ne_test (by omega)).trans hst
  have hno : ¬(60 ≤ commaBits bits ∧ s.on XC_LANE_CTRL.AUTO_INV p i = true) := by
    rw [State.on_iff]
    omega
  rw [exec_alignmentBlock_eq hp hi b hbits, if_pos hst, if_neg (by omega), if_neg hno]

/-- In search, the complement of the comma. -/
theorem exec_alignmentBlock_complement (hst : s.rd XC_LANE_STATUS.RX_STATE p i = 3) (h60 : 60 ≤ commaBits bits)
    (hauto : s.rd XC_LANE_CTRL.AUTO_INV p i ≠ 0) : ∃ t, exec (.alignmentBlock p i b) s = .next t ∧
      t.rd XC_LANE_CTRL.RX_INV p i = 1 - s.rd XC_LANE_CTRL.RX_INV p i ∧ t.rd XC_LANE_STATUS.INV_SEEN p i = 1 ∧
      s.regsKeptBut t [XC_LANE_CTRL.RX_INV.key p i, XC_LANE_STATUS.INV_SEEN.key p i] := by
  have hst : s.rxState p i = 3 := (State.rxState_of_ne_test (by omega)).trans hst
  refine ⟨_, exec_alignmentBlock_eq hp hi b hbits, ?_⟩
  rw [if_pos hst, if_neg (by omega), if_pos ⟨h60, (State.on_iff ..).2 hauto⟩]
  have hkept : s.regsKeptBut ((s.wr XC_LANE_CTRL.RX_INV (1 - s.rd XC_LANE_CTRL.RX_INV p i) p i).wr XC_LANE_STATUS.INV_SEEN 1 p i)
      [XC_LANE_CTRL.RX_INV.key p i, XC_LANE_STATUS.INV_SEEN.key p i] := (State.regsKeptBut.refl.wr (by simp)).wr (by simp)
  refine ⟨?_, ?_, hkept⟩
  · rw [State.rd_updLane, State.rd_wr_other _ (by decide), State.rd_wr_fit]
    exact lt_of_le_of_lt (Nat.sub_le ..) (by decide)
  · rw [State.rd_updLane, State.rd_wr_fit (by decide)]

/-- In search, a first comma. -/
theorem exec_alignmentBlock_first (hst : s.rd XC_LANE_STATUS.RX_STATE p i = 3) (h4 : commaBits bits ≤ 4)
    (hmode : s.rd XC_LANE_CTRL.ALIGN_MODE p i = 0) (h : b.pos < alignPeriod (s.fecOn p i) ∨
      (s.lane p i).seen.contains (b.pos - alignPeriod (s.fecOn p i)) = false) : ∃ t, exec (.alignmentBlock p i b) s = .next t ∧
      t.rd XC_LANE_STATUS.RX_STATE p i = 3 ∧ b.pos ∈ (t.lane p i).seen ∧ (t.lane p i).time = b.time := by
  have hrx : s.rxState p i = 3 := (State.rxState_of_ne_test (by omega)).trans hst
  obtain ⟨hmode', hfec, hseen⟩ := s.adapt_search p i
  have hmatch := State.searchMatch_first (s := s.adapt p i) (bits := bits) (time := b.time) (hmode'.trans hmode) (by rwa [hfec, hseen])
  have hsearch : ((s.adapt p i).searchMatch p i bits b.pos b.time).rd XC_LANE_STATUS.RX_STATE p i = 3 := by
    rw [hmatch, State.rd_updLane, State.rd_updLane, (Reads.refl.peerFields (by decide) ..).rd, State.rd_of_regs (s.adapt_regs p i), hst]
  have hmem : i ∈ ((s.adapt p i).searchMatch p i bits b.pos b.time).lanesOf p (s.halfOf p i) := by
    have hsplit : ((s.adapt p i).searchMatch p i bits b.pos b.time).rd XC_PORT_CTRL.SPLIT p = s.rd XC_PORT_CTRL.SPLIT p := by
      rw [hmatch, State.rd_updLane, State.rd_updLane, (Reads.refl.peerFields (by decide) ..).rd, State.rd_of_regs (s.adapt_regs p i)]
    have hlanes := s.mem_lanesOf_halfOf p hi
    rw [State.lanesOf, State.on] at hlanes ⊢
    rwa [hsplit]
  refine ⟨_, exec_alignmentBlock_eq hp hi b hbits, ?_⟩
  rw [if_pos hrx, if_pos h4, State.tryReady_waits ⟨i, hmem, by omega⟩]
  refine ⟨hsearch, ?_⟩
  rw [hmatch, State.lane_updLane_same, State.lane_updLane_same]
  simp

/-- In search, a second comma one period after the first. -/
theorem exec_alignmentBlock_second (hst : s.rd XC_LANE_STATUS.RX_STATE p i = 3) (h4 : commaBits bits ≤ 4)
    (hmode : s.rd XC_LANE_CTRL.ALIGN_MODE p i = 0) (hlo : alignPeriod (s.fecOn p i) ≤ b.pos)
    (h : (s.lane p i).seen.contains (b.pos - alignPeriod (s.fecOn p i)) = true) : ∃ t, exec (.alignmentBlock p i b) s = .next t ∧
      (t.rd XC_LANE_STATUS.RX_STATE p i = 4 ∨ t.rd XC_LANE_STATUS.RX_STATE p i = 5) ∧ (t.lane p i).bound = b.pos := by
  have hrx : s.rxState p i = 3 := (State.rxState_of_ne_test (by omega)).trans hst
  obtain ⟨hmode', hfec, hseen⟩ := s.adapt_search p i
  have hmatch := State.searchMatch_second (s := s.adapt p i) (bits := bits) (pos := b.pos) (time := b.time) (hmode'.trans hmode) (by rwa [hfec])
    (by rwa [hfec, hseen])
  refine ⟨_, exec_alignmentBlock_eq hp hi b hbits, ?_⟩
  rw [if_pos hrx, if_pos h4, State.lane_tryReady, hmatch]
  generalize hu : (((s.adapt p i).peerFields p i bits).updLane p i (fun l => { l with time := b.time })).updLane p i
    (fun l => { l with bound := b.pos }) = u
  have hust : u.rd XC_LANE_STATUS.RX_STATE p i = 3 := by
    rw [← hu, State.rd_updLane, State.rd_updLane, (Reads.refl.peerFields (by decide) ..).rd, State.rd_of_regs (s.adapt_regs p i), hst]
  rw [State.rxTo_aligned ((State.rxState_of_ne_test (by omega)).trans hust)]
  refine ⟨State.rd_tryReady_state ((State.rd_updLane ..).trans (State.rd_rxMoved_state (by omega) (by decide))) _, ?_⟩
  rw [State.lane_updLane_same, State.lane_rxMoved (by omega), ← hu, State.lane_updLane_same]

/-- An aligned lane, away from its boundary. -/
theorem exec_alignmentBlock_elsewhere (hst : s.rd XC_LANE_STATUS.RX_STATE p i = 4 ∨ s.rd XC_LANE_STATUS.RX_STATE p i = 5)
    (hpos : b.pos % alignPeriod (s.fecOn p i) ≠ (s.lane p i).bound % alignPeriod (s.fecOn p i)) : exec (.alignmentBlock p i b) s = .next s := by
  rw [exec_alignmentBlock_eq hp hi b hbits, State.rxState_of_ne_test (by omega), if_neg (by omega), if_neg (by simp [hpos])]

/-- An aligned lane, no comma at its boundary. -/
theorem exec_alignmentBlock_missed (hst : s.rd XC_LANE_STATUS.RX_STATE p i = 4 ∨ s.rd XC_LANE_STATUS.RX_STATE p i = 5)
    (hpos : b.pos % alignPeriod (s.fecOn p i) = (s.lane p i).bound % alignPeriod (s.fecOn p i)) (h4 : 4 < commaBits bits) :
    exec (.alignmentBlock p i b) s = .next (s.alignMiss p i) := by
  rw [exec_alignmentBlock_eq hp hi b hbits, State.rxState_of_ne_test (by omega), if_neg (by omega),
    if_pos (by simp [State.laneReads_of_state hst, hpos]), if_neg (by omega)]

/-- The last lane of a whole port that waits for it sees its comma: with peers that agree and little skew the port comes up. -/
theorem exec_alignmentBlock_up (hsplit : s.rd XC_PORT_CTRL.SPLIT p = 0) (hen : s.rd XC_PORT_CTRL.EN_A p ≠ 0)
    (hst : ∀ j, j < 8 → s.rd XC_LANE_STATUS.RX_STATE p j = 4)
    (hpos : b.pos % alignPeriod (s.fecOn p i) = (s.lane p i).bound % alignPeriod (s.fecOn p i)) (h4 : commaBits bits ≤ 4)
    (hcrc : ccrcOk bits = false) (htime : b.time = (s.lane p i).time) (hpeers : s.peersAgree p 0 = true) (hskew : s.skew p 0 ≤ 32000) :
    ∃ t, exec (.alignmentBlock p i b) s = .next t ∧ t.rd XC_PORT_STATUS.LINK_UP_A p = 1 ∧
      (∀ j, j < 8 → t.rd XC_LANE_STATUS.RX_STATE p j = 5) := by
  have hi4 := hst i hi
  refine ⟨_, exec_alignmentBlock_eq hp hi b hbits, ?_⟩
  rw [State.rxState_of_ne_test (by omega), if_neg (by omega), if_pos (by simp [State.laneReads_of_state (.inl hi4), hpos]), if_pos h4,
    State.halfOf_whole hsplit]
  generalize hu : (((s.adapt p i).count XC_LANE_ERR.COMMA_BITS (commaBits bits) p i).peerFields p i bits).updLane p i
    (fun l => { l with misses := 0, time := b.time }) = u
  have hreads : ∀ g : Fld, g.id ≠ XC_LANE_ERR.COMMA_BITS.id ∧ g.id ≠ XC_LANE_ERR.CTRL_CRC.id → Reads g s u := fun g hg => by
    have hadapt : Reads g s (s.adapt p i) := Reads.refl.hidden (s.adapt_regs p i)
    have hcount : Reads g s (((s.adapt p i).count XC_LANE_ERR.COMMA_BITS (commaBits bits) p i).count XC_LANE_ERR.CTRL_CRC 1 p i) :=
      (hadapt.wrOther hg.1 ..).wrOther hg.2 ..
    rw [← hu, State.peerFields, hcrc]
    exact hcount
  have hlane : ∀ j, (u.lane p j).time = (s.lane p j).time := fun j => by
    obtain ⟨c, hc⟩ := s.lane_adapt p i
    rw [← hu]
    by_cases hj : j = i
    · subst j
      rw [State.lane_updLane_same, htime]
    · rw [State.lane_updLane_ne _ _ hj, State.lane_peerFields, State.count, State.lane_wr, State.lane_adapt_ne _ _ hj]
  have hchecks : ∀ f ∈ peerCheckFields, Reads f s u := fun f hf => hreads f ((by decide : ∀ f ∈ peerCheckFields,
    f.id ≠ XC_LANE_ERR.COMMA_BITS.id ∧ f.id ≠ XC_LANE_ERR.CTRL_CRC.id) f hf)
  have husplit : u.rd XC_PORT_CTRL.SPLIT p = 0 := ((hreads _ (by decide)).rd ..).trans hsplit
  have hready : u.tryReady p 0 = u.broughtUp p 0 := State.tryReady_ready
    ((State.on_iff ..).2 (((hreads XC_PORT_CTRL.EN_A (by decide)).rd p 0).symm ▸ hen)) (by rw [State.lanesOf_whole husplit]; decide)
    (fun j hj => ((hreads XC_LANE_STATUS.RX_STATE (by decide)).rd p j).trans (hst j (by simpa [State.lanesOf_whole husplit] using hj)))
    ((State.peersAgree_congr hchecks p).trans hpeers) ((State.skew_congr hchecks hsplit hlane).symm ▸ hskew)
  rw [hready]
  refine ⟨?_, fun j hj => ?_⟩
  · rw [State.broughtUp, State.rd_raise_other (by decide)]
    exact (State.rd_putBit_other (by decide)).trans (State.rd_put_flag (f := XC_PORT_STATUS.LINK_UP_A) (by decide))
  · rw [State.rd_broughtUp_state, State.lanesOf_whole husplit, if_pos (List.mem_range.2 hj)]

end

/-! ### The obligation -/

/-- A lane under test that loses its signal stays in TEST; one whose data is looped keeps its lock (R255). -/
theorem exec_los_test (hp : p < 16) (hi : i < 8) (h : s.rd XC_LANE_STATUS.RX_STATE p i = 6) : ∃ t, exec (.los p i) s = .next t ∧
    t.rd XC_LANE_STATUS.LOS p i = 1 ∧ t.rd XC_LANE_STATUS.RX_STATE p i = 6 ∧
    t.rd XC_LANE_STATUS.CDR_LOCK p i = (if s.rd XC_LANE_CTRL.TEST p i = 2 then s.rd XC_LANE_STATUS.CDR_LOCK p i else 0) := by
  refine ⟨_, exec_los_eq hp hi s, ?_⟩
  rw [if_neg (by omega), if_pos h]
  by_cases htest : s.rd XC_LANE_CTRL.TEST p i = 2
  · rw [if_pos htest, if_pos htest]
    exact ⟨State.rd_wr_fit (by decide), (State.rd_wr_other s (by decide)).trans h, State.rd_wr_other s (by decide)⟩
  · rw [if_neg htest, if_neg htest]
    refine ⟨?_, ?_, State.rd_wr_fit (by decide)⟩
    · rw [State.rd_wr_other _ (by decide), (Reads.refl.eyeAbort (by decide) p i).rd, State.rd_wr_fit (by decide)]
    · rw [State.rd_wr_other _ (by decide), (Reads.refl.eyeAbort (by decide) p i).rd, State.rd_wr_other s (by decide), h]

/-- A slip is refused (R246). -/
theorem exec_slip_refused (hp : p < 16) (hi : i < 8) (h : s.rd XC_LANE_CTRL.ALIGN_MODE p i = 0 ∨
    (s.rd XC_LANE_STATUS.RX_STATE p i ≠ 3 ∧ s.rd XC_LANE_STATUS.RX_STATE p i ≠ 6) ∨ alignPeriod (s.fecOn p i) ≤ n) :
    exec (.slip p i n) s = .next (s.wr XC_LANE_STATUS.SLIP_ERR 1 p i) := by
  refine (need_pos (decide_eq_true ⟨hp, hi⟩) _).trans (congrArg _ (if_pos ?_))
  rcases h with hmode | ⟨h3, h6⟩ | hn
  · simp [State.on, hmode]
  · simp [State.rxState_of_ne_test h6, h3]
  · simp [hn]

/-- A slip moves the boundary (R246). -/
theorem exec_slip_taken (hp : p < 16) (hi : i < 8) (hmode : s.rd XC_LANE_CTRL.ALIGN_MODE p i ≠ 0)
    (hst : s.rd XC_LANE_STATUS.RX_STATE p i = 3) (hn : n < alignPeriod (s.fecOn p i)) : exec (.slip p i n) s = .next
      (s.updLane p i (fun l => { l with bound := (l.bound + n) % alignPeriod (s.fecOn p i), zeroAt := none })) := by
  refine (need_pos (decide_eq_true ⟨hp, hi⟩) _).trans (congrArg _ (if_neg ?_))
  simp [State.on, State.rxState_of_ne_test (s := s) (p := p) (i := i) (by omega), hmode, hst, hn]

/-- Settles O29: each command is one equation in its case. What a lane that changes its state writes lies in the fields listed for it, so that
what each clause reads is what the command itself wrote. -/
theorem laneReceivers : Obligations.LaneReceivers := by
  intro s p i hp hi
  refine ⟨fun h => ?losFlagged, fun hlo hhi => ?losRunning, fun h => exec_los_test hp hi h, fun c hc h5 hsplit hup => ?leaves,
    fun h hpll => ⟨_, exec_cdrLock_locks hp hi h hpll, State.cdrLocked h _ rfl⟩, fun h => exec_cdrLock_still hp hi h,
    fun hlo hhi => ?lockLost, fun h => exec_cdrLockLost_still hp hi h, fun e l c r hr hst hfec => ?codeword, fun e l c h => ?noCodeword,
    fun b bits hbits => ⟨exec_alignmentBlock_noise hp hi hbits, exec_alignmentBlock_complement hp hi hbits,
      exec_alignmentBlock_first hp hi hbits, exec_alignmentBlock_second hp hi hbits, exec_alignmentBlock_elsewhere hp hi hbits,
      fun hst hpos h4 hm => ?missed, fun hst hpos h4 hm => ?alignLost, exec_alignmentBlock_up hp hi hbits⟩,
    fun n h => ⟨_, exec_slip_refused hp hi h, State.rd_wr_fit (by decide), State.regsKeptBut.refl.wr (by simp), rfl⟩,
    fun n hmode hst hn => ⟨_, exec_slip_taken hp hi hmode hst hn, State.lane_updLane_same .., rfl⟩, fun h0 h6 => ?sleeps, ?wakes,
    fun b hst he hb hc hk => ?sleepBlock, fun b hst he hb hc => ?badBlock, fun b h => ?lostBlock⟩
  case losFlagged =>
    refine ⟨_, (exec_los_eq hp hi s).trans (congrArg _ (if_pos h)), State.rd_wr_fit (by decide), State.regsKeptBut.refl.wr (by simp), rfl⟩
  case losRunning =>
    have hst : (s.wr XC_LANE_STATUS.LOS 1 p i).rd XC_LANE_STATUS.RX_STATE p i ≠ 6 := by
      rw [State.rd_wr_other s (by decide)]
      omega
    refine ⟨_, exec_los_running hp hi hlo (by omega), ?_, State.rd_rxTo_down hst (le_refl 2)⟩
    rw [(Reads.refl.rxTo_down (le_refl 2) (by decide) p i).rd, State.rd_wr_fit (by decide)]
  case leaves =>
    obtain ⟨u, st, hst, he, hreads⟩ := exec_leaves hp hi hc h5
    have hrd : ∀ g : Fld, (∀ f ∈ XC_LANE_STATUS.LOS :: XC_LANE_CTRL.RX_SLEEP :: eyeResultFields, g.id ≠ f.id) → ∀ v j, u.rd g v j = s.rd g v j :=
      fun g hg => (hreads g hg).rd
    obtain ⟨hdown, hsync, hcount, hothers⟩ := State.rd_rxTo_down_ready (s := u) (p := p) (i := i) (st := st)
      ((hrd _ (by decide) ..).trans h5) ((hrd _ (by decide) ..).trans hsplit) ((hrd XC_PORT_STATUS.LINK_UP_A (by decide) p 0).symm ▸ hup) hst
    exact ⟨_, he, hdown, hsync, hcount.trans (by rw [hrd _ (by decide)]), fun j hj hne hj5 =>
      hothers j hj hne ((hrd _ (by decide) ..).trans hj5)⟩
  case lockLost => exact ⟨_, exec_cdrLockLost_locked hp hi hlo (by omega), State.rd_rxTo_down (by omega) (le_refl 2)⟩
  case codeword =>
    obtain ⟨u, due, hregs, hcodewords, he⟩ := exec_fecCodeword_reads hp hi (State.laneReads_of_state hst) hfec e l c
    rw [← hr] at he
    have hrd : ∀ f : Fld, u.rd f p i = s.rd f p i := fun f => State.rd_of_regs hregs f p i
    refine ⟨_, he, ?_⟩
    rw [← hcodewords]
    simp only [← hrd] at hst ⊢
    cases fecDecode r with
    | none => exact State.codewordCounted_uncorrectable hst due
    | some c => exact u.codewordCounted_corrected p i due c
  case noCodeword =>
    refine exec_fecCodeword_still hp hi ?_ e l c
    rcases h with h | ⟨-, hfec⟩
    · exact .inl (State.laneReads_of_lt h)
    · exact .inr hfec
  case missed =>
    refine ⟨_, (exec_alignmentBlock_missed hp hi hbits hst hpos h4).trans (congrArg _
      (State.alignMiss_early (State.laneReads_of_state hst) hm)), rfl, State.lane_updLane_same ..⟩
  case alignLost =>
    refine ⟨_, (exec_alignmentBlock_missed hp hi hbits hst hpos h4).trans (congrArg _ (State.alignMiss_third hst hm)), ?_, ?_⟩
    · rw [State.rd_afterReady_state_self, State.rd_count_other (by decide), State.rd_rxMoved_state (by omega) (by decide)]
    · rw [(Reads.refl.afterReady (by decide) p i).rd, State.rd_count_one, (Reads.refl.rxMoved (by decide) p i 3).rd]
      rfl
  case sleeps =>
    have hst : ((s.put XC_LANE_CTRL.RX_SLEEP true p i).eyeAbort p i).rd XC_LANE_STATUS.RX_STATE p i ≠ 6 := by
      rwa [(Reads.refl.sleepWritten (by decide) true p i).rd]
    refine ⟨_, (exec_rxSleep_eq hp hi true s).trans (congrArg _ ((if_pos rfl).trans (if_neg (by omega)))), ?_, ?_⟩
    · rw [(Reads.refl.rxTo_down (by decide) (by decide) p i).rd]
      exact s.rd_sleepWritten true p i
    · obtain ⟨hsleep, -, hvalid⟩ := State.rd_rxTo_down hst (st := 1) (by decide)
      exact ⟨hsleep, hvalid⟩
  case wakes =>
    have hst := (Reads.refl (g := XC_LANE_STATUS.RX_STATE) (s := s).sleepWritten (by decide) false p i).rd p i
    refine ⟨_, (exec_rxSleep_eq hp hi false s).trans (congrArg _ (if_neg (by decide))), ?_⟩
    by_cases h1 : s.rd XC_LANE_STATUS.RX_STATE p i = 1
    · rw [if_pos h1, if_pos h1]
      refine ⟨?_, (State.rd_rxTo_down (by omega) (le_refl 2)).1⟩
      rw [(Reads.refl.rxTo_down (le_refl 2) (by decide) p i).rd]
      exact s.rd_sleepWritten false p i
    · rw [if_neg h1, if_neg h1]
      exact ⟨s.rd_sleepWritten false p i, hst⟩
  case sleepBlock =>
    have hst' : (s.wr XC_LANE_STATUS.PEER_SLEEP 1 p i).rd XC_LANE_STATUS.RX_STATE p i ≠ 6 := by
      rw [State.rd_wr_other s (by decide)]
      omega
    have hcontrol := State.control_good (State.laneReads_of_state hst) he hb hc (by rw [hk]; decide)
    refine ⟨_, exec_sleepBlock_eq hp hi b s, ?_⟩
    rw [hcontrol, if_pos (congrArg some hk)]
    obtain ⟨hrx, -, hvalid⟩ := State.rd_rxTo_down hst' (le_refl 2)
    refine ⟨?_, hrx, hvalid⟩
    rw [(Reads.refl.rxTo_down (le_refl 2) (by decide) p i).rd, State.rd_wr_fit (by decide)]
  case badBlock =>
    refine ⟨_, exec_sleepBlock_eq hp hi b s, ?_⟩
    rw [State.control_bad (State.laneReads_of_state hst) he hb hc, if_neg nofun]
    exact ⟨State.rd_count_one .., State.regsKeptBut.refl.count (by simp), rfl⟩
  case lostBlock =>
    rw [exec_sleepBlock_eq hp hi b s, State.control_lost (h.imp_left State.laneReads_of_lt), if_neg nofun]

end Sys2Proof.Machine
end

section
/-! PROOF. Port control, transmitters and lane tools (O30; 09 R235, R236, R249 to R257). -/

namespace Sys2Proof.Machine

variable {s t : State} {g : Fld} {p i j k v : Nat}

/-! ### The bits of a written value -/

theorem bitsOf_eq (v l w : Nat) : bitsOf v l w = v / 2 ^ l % 2 ^ w := by rw [bitsOf, Nat.shiftRight_eq_div_pow]

theorem bitAt_iff (v i : Nat) : bitAt v i = true ↔ v / 2 ^ i % 2 = 1 := by
  rw [bitAt, Nat.testBit_eq_decide_div_mod_eq, decide_eq_true_iff]

/-- Each field of a register reads its bits of the value written. -/
theorem State.rd_setFields {l : List Fld} (hl : (l.map Fld.id).Nodup) {f : Fld} (hf : f ∈ l) (s : State) (v u j : Nat) :
    (s.setFields l v u j).rd f u j = bitsOf v f.lsb f.wid := by
  obtain ⟨before, after, rfl⟩ := List.append_of_mem hf
  rw [List.map_append, List.map_cons] at hl
  have hlast : f.id ∉ after.map Fld.id := (List.nodup_cons.1 hl.of_append_right).1
  rw [State.setFields, List.foldl_append, List.foldl_cons]
  exact (State.rd_foldl_wr_other (g := id) (fun e he h => hlast (List.mem_map.2 ⟨e, he, h.symm⟩)) _).trans
    ((State.rd_wr_same ..).trans (Nat.mod_mod ..))

/-! ### Settings (R235, R256) -/

theorem fecAllowed_iff (r fec : Nat) : fecAllowed r fec = true ↔ (r ≤ 1 → fec = 1) ∧ (4 ≤ r → fec = 0) := by
  unfold fecAllowed
  split_ifs <;> simp <;> omega

/-- The settings of a whole port that a write of `v` gives half A are allowed. -/
def settingsOk (v : Nat) : Prop :=
  v / 16 % 8 ≤ 4 ∧ (v / 16 % 8 ≤ 1 → v / 4096 % 2 = 1) ∧ (v / 16 % 8 = 4 → v / 4096 % 2 = 0)

/-- A write that changes the settings of an enabled sub-port, or whose settings are not allowed. -/
theorem State.portCtrlRefused_of (h : (s.rd XC_PORT_CTRL.EN_A p ≠ 0 ∧ (s.rd XC_PORT_CTRL.RATE_A p ≠ v / 16 % 8 ∨
      s.rd XC_PORT_CTRL.FEC_A p ≠ v / 4096 % 2)) ∨
    (s.rd XC_PORT_CTRL.EN_B p ≠ 0 ∧ (s.rd XC_PORT_CTRL.RATE_B p ≠ v / 256 % 8 ∨ s.rd XC_PORT_CTRL.FEC_B p ≠ v / 8192 % 2)) ∨
    5 ≤ v / 16 % 8 ∨ (v / 16 % 8 ≤ 1 ∧ v / 4096 % 2 = 0) ∨ (v / 16 % 8 = 4 ∧ v / 4096 % 2 = 1) ∨ (v / 2 % 2 = 1 ∧ v / 4 % 2 = 0)) :
    s.portCtrlRefused p v = true := by
  have hra : bitsOf v 4 3 = v / 16 % 8 := bitsOf_eq v 4 3
  have hrb : bitsOf v 8 3 = v / 256 % 8 := bitsOf_eq v 8 3
  have hfa : bitsOf v 12 1 = v / 4096 % 2 := bitsOf_eq v 12 1
  have hfb : bitsOf v 13 1 = v / 8192 % 2 := bitsOf_eq v 13 1
  simp only [State.portCtrlRefused, hra, hrb, hfa, hfb]
  rcases h with ⟨hen, h⟩ | ⟨hen, h⟩ | h | ⟨hr, hf⟩ | ⟨hr, hf⟩ | ⟨h1, h2⟩
  · have ha : s.subEnabled p 0 = true := (State.on_iff ..).2 hen
    simp [ha, h]
  · have hb : s.subEnabled p 1 = true := (State.on_iff ..).2 hen
    simp [hb, h]
  · simp [h]
  · simp [fecAllowed, hr, hf]
  · simp [fecAllowed, hr, hf]
  · have hb1 : bitAt v 1 = true := (bitAt_iff v 1).2 h1
    have hb2 : bitAt v 2 = false := Bool.eq_false_iff.2 (mt (bitAt_iff v 2).1 (by omega))
    simp [hb1, hb2]

/-- A write to a port that is whole, or idle, with allowed settings that leave an enabled half A as it is. -/
theorem State.portCtrlRefused_whole (hb : s.rd XC_PORT_CTRL.EN_B p = 0) (hv : v / 2 % 4 = 0) (hok : settingsOk v)
    (ha : s.rd XC_PORT_CTRL.EN_A p ≠ 0 → s.rd XC_PORT_CTRL.SPLIT p = 0 ∧ s.winderStopped = true ∧ v / 16 % 8 = s.rd XC_PORT_CTRL.RATE_A p ∧
      v / 4096 % 2 = s.rd XC_PORT_CTRL.FEC_A p) : s.portCtrlRefused p v = false := by
  obtain ⟨hrate, hlow, hhigh⟩ := hok
  have hra : bitsOf v 4 3 = v / 16 % 8 := bitsOf_eq v 4 3
  have hfa : bitsOf v 12 1 = v / 4096 % 2 := bitsOf_eq v 12 1
  have hb1 : bitAt v 1 = false := Bool.eq_false_iff.2 (mt (bitAt_iff v 1).1 (by omega))
  have hb2 : bitAt v 2 = false := Bool.eq_false_iff.2 (mt (bitAt_iff v 2).1 (by omega))
  have hfec : fecAllowed (v / 16 % 8) (v / 4096 % 2) = true := (fecAllowed_iff ..).2 ⟨hlow, fun h => hhigh (by omega)⟩
  have hsb : s.subEnabled p 1 = false := decide_eq_false (not_not.2 hb)
  by_cases hen : s.rd XC_PORT_CTRL.EN_A p = 0
  · have hsa : s.subEnabled p 0 = false := decide_eq_false (not_not.2 hen)
    simp [State.portCtrlRefused, hra, hfa, hb1, hb2, hfec, hsa, hsb]
    omega
  · obtain ⟨hsplit, hstop, hr, hf⟩ := ha hen
    simp [State.portCtrlRefused, hra, hfa, hb1, hb2, hfec, hsb, hstop, ← hr, ← hf, State.on, hsplit]
    omega

/-! ### Lanes that start (R252, R255, R256) -/

/-- A lane starts: its transmitter on or asleep, its receiver in CDR, asleep or under test. -/
def State.laneStart (s : State) (p i : Nat) : State :=
  (if s.on XC_LANE_CTRL.TX_SLEEP p i then s.wr XC_LANE_STATUS.TX_STATE 3 p i else s.txStart p i).rxStart p i

theorem State.startSub_eq (s : State) (p k : Nat) : s.startSub p k = (s.lanesOf p k).foldl (fun t i => t.laneStart p i) s := rfl

/-- The transmitter's part of a start. -/
theorem State.rd_txStarted (s : State) (p i : Nat) (f : Fld) (u j : Nat) :
    (if s.on XC_LANE_CTRL.TX_SLEEP p i then s.wr XC_LANE_STATUS.TX_STATE 3 p i else s.txStart p i).rd f u j =
      (s.wr XC_LANE_STATUS.TX_STATE (if s.rd XC_LANE_CTRL.TX_SLEEP p i = 0 then 1 else 3) p i).rd f u j := by
  by_cases h : s.rd XC_LANE_CTRL.TX_SLEEP p i = 0
  · rw [if_pos h, if_neg (mt (State.on_iff ..).1 (not_not.2 h))]
    rfl
  · rw [if_neg h, if_pos ((State.on_iff ..).2 h)]

/-- What the start of a lane writes. -/
def laneStartFields : List Fld := XC_LANE_STATUS.TX_STATE :: rxDownFields

theorem Reads.rxStart (h : Reads g s t) (hg : ∀ f ∈ rxDownFields, g.id ≠ f.id) (p i : Nat) : Reads g s (t.rxStart p i) := by
  unfold State.rxStart
  split
  · exact (h.wrOther (hg _ (by decide)) 6 p i).updLane p i _
  · exact h.rxTo_down (by split <;> decide) hg p i

theorem Reads.laneStart (h : Reads g s t) (hg : ∀ f ∈ laneStartFields, g.id ≠ f.id) (p i : Nat) : Reads g s (t.laneStart p i) :=
  Reads.rxStart (.of_forall fun u j => (t.rd_txStarted ..).trans (((h.wrOther (hg _ (by decide)) ..)).rd u j))
    (fun f hf => hg f (List.mem_cons_of_mem _ hf)) p i

/-- The receiver is OFF, or in TEST where a test is set. -/
def State.rxIdle (s : State) (p i : Nat) : Prop :=
  s.rd XC_LANE_STATUS.RX_STATE p i = if s.rd XC_LANE_CTRL.TEST p i = 0 then 0 else 6

/-- Where a receiver starts. -/
def State.rxFirst (s : State) (p i : Nat) : Nat :=
  if s.rd XC_LANE_CTRL.TEST p i ≠ 0 then 6 else if s.rd XC_LANE_CTRL.RX_SLEEP p i ≠ 0 then 1 else 2

theorem State.rd_rxStart_state (h : s.rxIdle p i) (j : Nat) : (s.rxStart p i).rd XC_LANE_STATUS.RX_STATE p j =
    if j = i then s.rxFirst p i else s.rd XC_LANE_STATUS.RX_STATE p j := by
  unfold State.rxIdle at h
  unfold State.rxStart State.rxFirst
  by_cases htest : s.rd XC_LANE_CTRL.TEST p i = 0
  · rw [if_pos htest] at h
    have hfirst : (if s.on XC_LANE_CTRL.RX_SLEEP p i then 1 else 2) = if s.rd XC_LANE_CTRL.RX_SLEEP p i ≠ 0 then 1 else 2 := by
      simp [State.on]
    have hle : (if s.rd XC_LANE_CTRL.RX_SLEEP p i ≠ 0 then 1 else 2) ≤ 2 := by split <;> decide
    rw [if_neg (mt (State.on_iff ..).1 (not_not.2 htest)), if_neg (not_not.2 htest), hfirst]
    by_cases hj : j = i
    · rw [if_pos hj, hj]
      exact (State.rd_rxTo_down (by omega) hle).1
    · rw [State.rd_rxTo_down_others s p hle hj, State.rxState_of_ne_test (by omega), h, if_neg hj]
      rfl
  · rw [if_pos ((State.on_iff ..).2 htest), State.rd_updLane, if_pos htest]
    split
    · rename_i hj
      rw [hj, State.rd_wr_fit (by decide)]
    · rename_i hj
      exact State.rd_wr_ne s (by simpa using hj)

theorem State.rd_laneStart_states (h : s.rxIdle p i) (j : Nat) :
    (s.laneStart p i).rd XC_LANE_STATUS.TX_STATE p j =
      (if j = i then (if s.rd XC_LANE_CTRL.TX_SLEEP p i = 0 then 1 else 3) else s.rd XC_LANE_STATUS.TX_STATE p j) ∧
    (s.laneStart p i).rd XC_LANE_STATUS.RX_STATE p j = (if j = i then s.rxFirst p i else s.rd XC_LANE_STATUS.RX_STATE p j) := by
  have hrd := s.rd_txStarted p i
  unfold State.laneStart
  generalize (if s.on XC_LANE_CTRL.TX_SLEEP p i then s.wr XC_LANE_STATUS.TX_STATE 3 p i else s.txStart p i) = u at hrd ⊢
  have hother : ∀ f : Fld, f.id ≠ XC_LANE_STATUS.TX_STATE.id → ∀ j, u.rd f p j = s.rd f p j := fun f hf j =>
    (hrd f p j).trans (State.rd_wr_other s hf)
  refine ⟨?_, ?_⟩
  · rw [(Reads.refl.rxStart (by decide) p i).rd, hrd]
    by_cases hj : j = i
    · rw [if_pos hj, hj, State.rd_wr_fit]
      split <;> decide
    · rw [if_neg hj]
      exact State.rd_wr_ne s (by simpa using hj)
  · have hidle : u.rxIdle p i := by
      rw [State.rxIdle, hother _ (by decide), hother _ (by decide)]
      exact h
    rw [State.rd_rxStart_state hidle, State.rxFirst, hother _ (by decide), hother _ (by decide), hother _ (by decide)]
    rfl

/-- Lanes that start one after another each start as they stand. -/
theorem State.rd_foldl_laneStart {l : List Nat} (hl : l.Nodup) (h : ∀ j ∈ l, s.rxIdle p j) (j : Nat) :
    (l.foldl (fun t i => t.laneStart p i) s).rd XC_LANE_STATUS.TX_STATE p j =
      (if j ∈ l then (if s.rd XC_LANE_CTRL.TX_SLEEP p j = 0 then 1 else 3) else s.rd XC_LANE_STATUS.TX_STATE p j) ∧
    (l.foldl (fun t i => t.laneStart p i) s).rd XC_LANE_STATUS.RX_STATE p j =
      (if j ∈ l then s.rxFirst p j else s.rd XC_LANE_STATUS.RX_STATE p j) := by
  induction l generalizing s with
  | nil => exact ⟨rfl, rfl⟩
  | cons a l ih =>
    obtain ⟨ha, hl⟩ := List.nodup_cons.1 hl
    have hset : ∀ f ∈ [XC_LANE_CTRL.TX_SLEEP, XC_LANE_CTRL.RX_SLEEP, XC_LANE_CTRL.TEST], ∀ j, (s.laneStart p a).rd f p j = s.rd f p j := fun f hf j =>
      (Reads.refl.laneStart ((by decide : ∀ f ∈ [XC_LANE_CTRL.TX_SLEEP, XC_LANE_CTRL.RX_SLEEP, XC_LANE_CTRL.TEST], ∀ e ∈ laneStartFields,
        f.id ≠ e.id) f hf) p a).rd p j
    have hfirst : ∀ j, (s.laneStart p a).rxFirst p j = s.rxFirst p j := fun j => by
      rw [State.rxFirst, hset _ (by decide), hset _ (by decide)]
      rfl
    have hstates := State.rd_laneStart_states (h a (List.mem_cons_self ..))
    have hidle : ∀ j ∈ l, (s.laneStart p a).rxIdle p j := fun j hj => by
      have hne : j ≠ a := fun e => ha (e ▸ hj)
      rw [State.rxIdle, (hstates j).2, hset _ (by decide), if_neg hne]
      exact h j (List.mem_cons_of_mem _ hj)
    obtain ⟨htx, hrx⟩ := ih hl hidle
    rw [List.foldl_cons, htx, hrx, hset _ (by decide), hfirst, (hstates j).1, (hstates j).2]
    by_cases hj : j = a
    · subst j
      simp [ha]
    · simp [hj]

/-! ### Sub-ports that start (R256) -/

theorem State.startWaiting_unlocked (h : s.rd XC_PORT_STATUS.PLL_LOCK p = 0) : s.startWaiting p = s :=
  if_neg (mt (State.on_iff ..).1 (not_not.2 h))

/-- With the PLL locked, only what waits for it starts. -/
theorem State.startWaiting_started (h0 : s.subWaitsPll p 0 = false) (h1 : s.subWaitsPll p 1 = false) : s.startWaiting p = s := by
  simp [State.startWaiting, h0, h1]

theorem State.subWaitsPll_disabled {k : Nat} (h : s.subEnabled p k = false) : s.subWaitsPll p k = false := by
  simp [State.subWaitsPll, h]

theorem State.subEnabled_halfA (s : State) (p : Nat) : s.subEnabled p 0 = s.on XC_PORT_CTRL.EN_A p := rfl

theorem State.subEnabled_halfB (s : State) (p : Nat) : s.subEnabled p 1 = s.on XC_PORT_CTRL.EN_B p := rfl

theorem State.on_eq_false {f : Fld} {u j : Nat} (h : s.rd f u j = 0) : s.on f u j = false := decide_eq_false (not_not.2 h)

/-- A whole port whose PLL is locked and whose transmitters are OFF starts. -/
theorem State.startWaiting_whole (hpll : s.rd XC_PORT_STATUS.PLL_LOCK p ≠ 0) (ha : s.rd XC_PORT_CTRL.EN_A p ≠ 0)
    (hb : s.rd XC_PORT_CTRL.EN_B p = 0) (hsplit : s.rd XC_PORT_CTRL.SPLIT p = 0) (htx : ∀ j, j < 8 → s.rd XC_LANE_STATUS.TX_STATE p j = 0) :
    s.startWaiting p = (List.range 8).foldl (fun t i => t.laneStart p i) s := by
  have hwaits : s.subWaitsPll p 0 = true := by
    simp only [State.subWaitsPll, State.subEnabled_halfA, State.lanesOf_whole hsplit, Bool.and_eq_true, List.all_eq_true, List.mem_range,
      decide_eq_true_eq]
    exact ⟨(State.on_iff ..).2 ha, htx⟩
  have hstart : s.startSub p 0 = (List.range 8).foldl (fun t i => t.laneStart p i) s := by
    rw [State.startSub_eq, State.lanesOf_whole hsplit]
  have hother : ((List.range 8).foldl (fun t i => t.laneStart p i) s).subWaitsPll p 1 = false := by
    refine State.subWaitsPll_disabled (State.on_eq_false (f := XC_PORT_CTRL.EN_B) ?_)
    rw [(Reads.refl.foldl (fun _ i h => h.laneStart (by decide) p i) _).rd, hb]
  simp [State.startWaiting, (State.on_iff ..).2 hpll, hwaits, hstart, hother]

/-- What a whole port that starts reads: each lane as its settings ask, and every field that no start of a lane writes as before. -/
theorem State.rd_startWaiting_whole (hpll : s.rd XC_PORT_STATUS.PLL_LOCK p ≠ 0) (ha : s.rd XC_PORT_CTRL.EN_A p ≠ 0)
    (hb : s.rd XC_PORT_CTRL.EN_B p = 0) (hsplit : s.rd XC_PORT_CTRL.SPLIT p = 0)
    (hoff : ∀ j, j < 8 → s.rd XC_LANE_STATUS.TX_STATE p j = 0 ∧ s.rxIdle p j) :
    (∀ i, i < 8 → (s.startWaiting p).rd XC_LANE_STATUS.TX_STATE p i = (if s.rd XC_LANE_CTRL.TX_SLEEP p i = 0 then 1 else 3) ∧
      (s.startWaiting p).rd XC_LANE_STATUS.RX_STATE p i = s.rxFirst p i) ∧
    ∀ g : Fld, (∀ f ∈ laneStartFields, g.id ≠ f.id) → Reads g s (s.startWaiting p) := by
  rw [State.startWaiting_whole hpll ha hb hsplit fun j hj => (hoff j hj).1]
  refine ⟨fun i hi => ?_, fun g hg => Reads.refl.foldl (fun _ i h => h.laneStart hg p i) _⟩
  have hstates := State.rd_foldl_laneStart List.nodup_range (fun j hj => (hoff j (List.mem_range.1 hj)).2) i
  simpa [hi] using hstates

/-- A lock of the PLL leaves which sub-ports wait for it. -/
theorem State.subWaitsPll_wr {f : Fld} (hf : ∀ g ∈ [XC_PORT_CTRL.EN_A, XC_PORT_CTRL.EN_B, XC_PORT_CTRL.SPLIT, XC_LANE_STATUS.TX_STATE],
    g.id ≠ f.id) (s : State) (v u j k : Nat) : (s.wr f v u j).subWaitsPll p k = s.subWaitsPll p k := by
  simp only [State.subWaitsPll, State.subEnabled, State.lanesOf, State.on, State.rd_wr_other s (hf XC_PORT_CTRL.SPLIT (by decide)),
    State.rd_wr_other s (hf XC_LANE_STATUS.TX_STATE (by decide)),
    State.rd_wr_other s (ab_id_ne (hf XC_PORT_CTRL.EN_A (by decide)).symm (hf XC_PORT_CTRL.EN_B (by decide)).symm).symm]
  rfl

/-! ### Writes of `XC_PORT_CTRL` (R256) -/

/-- The settings of a port. -/
def portCtrlFields : List Fld :=
  [XC_PORT_CTRL.EN_A, XC_PORT_CTRL.EN_B, XC_PORT_CTRL.SPLIT, XC_PORT_CTRL.RATE_A, XC_PORT_CTRL.RATE_B, XC_PORT_CTRL.FEC_A, XC_PORT_CTRL.FEC_B]

/-- A port takes its settings, and its clock runs. -/
def State.portSet (s : State) (p v : Nat) : State := (s.setFields portCtrlFields v p).ungate 3 p

theorem State.rd_portSet (s : State) (p v : Nat) {f : Fld} (hf : f ∈ portCtrlFields) : (s.portSet p v).rd f p = bitsOf v f.lsb f.wid := by
  have hgate : f.id ≠ CK_GATE_STATUS.GATED.id := (by decide : ∀ f ∈ portCtrlFields, f.id ≠ CK_GATE_STATUS.GATED.id) f hf
  rw [State.portSet, State.rd_ungate_other hgate, State.rd_setFields (by decide) hf]

theorem Reads.portSet (h : Reads g s t) (hg : ∀ f ∈ CK_GATE_STATUS.GATED :: portCtrlFields, g.id ≠ f.id) (p v : Nat) :
    Reads g s (t.portSet p v) :=
  .of_forall fun u j => (State.rd_ungate_other (hg _ (by decide)) ..).trans
    ((h.setFields (fun f hf => hg f (List.mem_cons_of_mem _ hf)) v p 0).rd u j)

theorem exec_xcPortCtrlWrite_refused (hp : p < 16) (h : s.portCtrlRefused p v = true) :
    exec (.xcPortCtrlWrite p v) s = .next (s.wr XC_PORT_STATUS.CFG_ERR 1 p) :=
  (need_pos (decide_eq_true hp) _).trans (congrArg _ (if_pos h))

/-- An idle port is enabled in one piece: where the PLL does not run for the rate, it is to lock anew. -/
theorem exec_xcPortCtrlWrite_enables (hp : p < 16) (h : s.portCtrlRefused p v = false) (ha : s.rd XC_PORT_CTRL.EN_A p = 0)
    (hb : s.rd XC_PORT_CTRL.EN_B p = 0) (hv : v % 8 = 1) : exec (.xcPortCtrlWrite p v) s = .next (State.startWaiting
      (if s.rd XC_PORT_STATUS.PLL_LOCK p = 0 ∨ s.rd XC_PORT_STATUS.PLL_FAMILY p ≠ rateFamily (v / 16 % 8) then
        ((s.portSet p v).wr XC_PORT_STATUS.PLL_LOCK 0 p).wr XC_PORT_STATUS.PLL_FAMILY (rateFamily (v / 16 % 8)) p
      else s.portSet p v) p) := by
  have hb0 : bitAt v 0 = true := (bitAt_iff v 0).2 (by omega)
  have hb1 : bitAt v 1 = false := Bool.eq_false_iff.2 (mt (bitAt_iff v 1).1 (by omega))
  have hra : bitsOf v 4 3 = v / 16 % 8 := bitsOf_eq v 4 3
  have hpll : (s.portSet p v).rd XC_PORT_STATUS.PLL_LOCK p = s.rd XC_PORT_STATUS.PLL_LOCK p := (Reads.refl.portSet (by decide) p v).rd p 0
  have hfam : (s.portSet p v).rd XC_PORT_STATUS.PLL_FAMILY p = s.rd XC_PORT_STATUS.PLL_FAMILY p := (Reads.refl.portSet (by decide) p v).rd p 0
  refine (need_pos (decide_eq_true hp) _).trans (congrArg _ ?_)
  rw [if_neg (by simp [h])]
  simp only [State.subEnabled_halfA, State.subEnabled_halfB, State.on_eq_false ha, State.on_eq_false hb, hb0, hb1, hra]
  change State.startWaiting (if (_ && (!(s.portSet p v).on XC_PORT_STATUS.PLL_LOCK p ||
    decide ((s.portSet p v).rd XC_PORT_STATUS.PLL_FAMILY p ≠ _))) = true then _ else _) p = _
  simp [State.on, hpll, hfam]
  rfl

/-! ### Lanes that stop (R255, R256) -/

/-- A lane stops: its transmitter OFF, its receiver OFF unless under test. -/
def State.laneStop (s : State) (p i : Nat) : State :=
  let t := (s.wr XC_LANE_STATUS.TX_STATE 0 p i).updLane p i (fun l => { l with wakeNext := false, group := [] })
  if t.rd XC_LANE_STATUS.RX_STATE p i = 6 then
    ((t.eyeAbort p i).wr XC_LANE_STATUS.CDR_LOCK 0 p i).updLane p i (fun l => { l with loop := 0 })
  else t.rxTo p i 0

theorem State.disableSub_eq (s : State) (p k : Nat) : s.disableSub p k = (s.lanesOf p k).foldl (fun t i => t.laneStop p i) s := rfl

theorem Reads.laneStop (h : Reads g s t) (hg : ∀ f ∈ laneStartFields, g.id ≠ f.id) (p i : Nat) : Reads g s (t.laneStop p i) := by
  have htx : Reads g s ((t.wr XC_LANE_STATUS.TX_STATE 0 p i).updLane p i (fun l => { l with wakeNext := false, group := [] })) :=
    (h.wrOther (hg _ (by decide)) 0 p i).updLane p i _
  unfold State.laneStop
  dsimp only
  split
  · have hlock := (htx.eyeAbort (fun f hf => hg f (by simp [laneStartFields, rxDownFields, rxStopFields, hf])) p i).wrOther
      (f := XC_LANE_STATUS.CDR_LOCK) (hg _ (by decide)) 0 p i
    exact hlock.updLane p i _
  · exact htx.rxTo_down (by decide) (fun f hf => hg f (List.mem_cons_of_mem _ hf)) p i

theorem State.rd_laneStop_tx (s : State) (p i j : Nat) : (s.laneStop p i).rd XC_LANE_STATUS.TX_STATE p j =
    if j = i then 0 else s.rd XC_LANE_STATUS.TX_STATE p j := by
  have htx : (s.laneStop p i).rd XC_LANE_STATUS.TX_STATE p j = (s.wr XC_LANE_STATUS.TX_STATE 0 p i).rd XC_LANE_STATUS.TX_STATE p j := by
    unfold State.laneStop
    dsimp only
    split
    · rw [State.rd_updLane, State.rd_wr_other _ (by decide), (Reads.refl.eyeAbort (by decide) p i).rd, State.rd_updLane]
    · rw [(Reads.refl.rxTo_down (by decide) (by decide) p i).rd, State.rd_updLane]
  rw [htx]
  by_cases hj : j = i
  · rw [if_pos hj, hj, State.rd_wr_fit (by decide)]
  · rw [if_neg hj, State.rd_wr_ne s (by simpa using hj)]

theorem State.rd_laneStop_rx (s : State) (p i : Nat) : (s.laneStop p i).rd XC_LANE_STATUS.RX_STATE p i =
    if s.rd XC_LANE_STATUS.RX_STATE p i = 6 then 6 else 0 := by
  unfold State.laneStop
  dsimp only
  rw [State.rd_updLane, State.rd_wr_other s (by decide)]
  split
  · rename_i h
    rw [State.rd_updLane, State.rd_wr_other _ (by decide), (Reads.refl.eyeAbort (by decide) p i).rd, State.rd_updLane,
      State.rd_wr_other s (by decide), h]
  · rename_i h
    refine (State.rd_rxTo_down ?_ (Nat.zero_le 2)).1
    rwa [State.rd_updLane, State.rd_wr_other s (by decide)]

/-- Another lane's stop changes a receiver only from READY to ALIGNED. -/
theorem State.rd_laneStop_rx_ne (s : State) (p : Nat) (hj : j ≠ i) :
    (s.laneStop p i).rd XC_LANE_STATUS.RX_STATE p j = s.rd XC_LANE_STATUS.RX_STATE p j ∨
      (s.rd XC_LANE_STATUS.RX_STATE p j = 5 ∧ (s.laneStop p i).rd XC_LANE_STATUS.RX_STATE p j = 4) := by
  have htx : (((s.wr XC_LANE_STATUS.TX_STATE 0 p i).updLane p i (fun l => { l with wakeNext := false, group := [] })).rd
      XC_LANE_STATUS.RX_STATE p j) = s.rd XC_LANE_STATUS.RX_STATE p j := (State.rd_updLane ..).trans (State.rd_wr_other s (by decide))
  unfold State.laneStop
  dsimp only
  split
  · rw [State.rd_updLane, State.rd_wr_other _ (by decide), (Reads.refl.eyeAbort (by decide) p i).rd]
    exact .inl htx
  · rw [State.rd_rxTo_down_others _ p (Nat.zero_le 2) hj, htx]
    split
    · rename_i h
      exact .inr ⟨h.2.2, rfl⟩
    · exact .inl rfl

theorem State.rd_foldl_laneStop_tx (l : List Nat) (s : State) (p j : Nat) :
    (l.foldl (fun t i => t.laneStop p i) s).rd XC_LANE_STATUS.TX_STATE p j = if j ∈ l then 0 else s.rd XC_LANE_STATUS.TX_STATE p j :=
  read_foldl_each (read := fun t j => t.rd XC_LANE_STATUS.TX_STATE p j) (v := fun _ => 0) (fun t i j => t.rd_laneStop_tx p i j) l s j

/-- A receiver that has stopped, or was OFF or in TEST, stays so while other lanes stop. -/
theorem State.rd_foldl_laneStop_rx (l : List Nat) (s : State) (p : Nat) (h : j ∈ l ∨ s.rd XC_LANE_STATUS.RX_STATE p j = 0 ∨
      s.rd XC_LANE_STATUS.RX_STATE p j = 6) : (l.foldl (fun t i => t.laneStop p i) s).rd XC_LANE_STATUS.RX_STATE p j =
    if s.rd XC_LANE_STATUS.RX_STATE p j = 6 then 6 else 0 := by
  induction l generalizing s with
  | nil =>
    rcases h with h | h | h
    · cases h
    · simp [h]
    · simp [h]
  | cons a l ih =>
    rw [List.foldl_cons]
    by_cases hj : j = a
    · subst j
      have hstop := s.rd_laneStop_rx p a
      rw [ih (s.laneStop p a) (.inr (by rw [hstop]; split <;> simp)), hstop]
      split <;> simp
    · have hmem : j ∈ l ∨ s.rd XC_LANE_STATUS.RX_STATE p j = 0 ∨ s.rd XC_LANE_STATUS.RX_STATE p j = 6 :=
        h.imp_left fun h => (List.mem_cons.1 h).resolve_left hj
      rcases s.rd_laneStop_rx_ne p hj with hsame | ⟨h5, h4⟩
      · rw [ih _ (by rwa [hsame]), hsame]
      · rw [ih _ (.inl (hmem.resolve_right (by omega))), if_neg (by omega), if_neg (by omega)]

/-- The whole port that runs is disabled. -/
theorem exec_xcPortCtrlWrite_disables (hp : p < 16) (h : s.portCtrlRefused p v = false) (ha : s.rd XC_PORT_CTRL.EN_A p ≠ 0)
    (hb : s.rd XC_PORT_CTRL.EN_B p = 0) (hv : v % 8 = 0) :
    exec (.xcPortCtrlWrite p v) s = .next (((s.disableSub p 0).portSet p v).startWaiting p) := by
  have hb0 : bitAt v 0 = false := Bool.eq_false_iff.2 (mt (bitAt_iff v 0).1 (by omega))
  have hb1 : bitAt v 1 = false := Bool.eq_false_iff.2 (mt (bitAt_iff v 1).1 (by omega))
  have hen : s.on XC_PORT_CTRL.EN_A p = true := (State.on_iff ..).2 ha
  refine (need_pos (decide_eq_true hp) _).trans (congrArg _ ?_)
  rw [if_neg (by simp [h])]
  simp only [State.subEnabled_halfA, State.subEnabled_halfB, hen, State.on_eq_false hb, hb0, hb1]
  rfl

/-! ### Transmitters (R249, R252) -/

theorem State.sendBits_regs (s : State) (p i n v : Nat) : (s.sendBits p i n v).regs = s.regs := rfl

theorem State.pushBlock_regs (s : State) (p i b : Nat) : (s.pushBlock p i b).regs = s.regs := by
  unfold State.pushBlock
  dsimp only
  split_ifs <;> rfl

theorem State.laneSend_regs (s : State) (p i b : Nat) : (s.laneSend p i b).regs = s.regs := by
  unfold State.laneSend
  dsimp only
  rw [State.pushBlock_regs]
  split
  · exact State.pushBlock_regs ..
  · rfl

theorem State.fillGroup_regs (s : State) (p i b : Nat) (whole : Bool) : (s.fillGroup p i b whole).regs = s.regs := by
  unfold State.fillGroup
  dsimp only
  generalize List.range _ = l
  induction l generalizing s with
  | nil => rfl
  | cons a l ih => rw [List.foldl_cons, ih, State.laneSend_regs]

/-- The field of the half that a lane belongs to. -/
theorem State.synced_halfOf (s : State) (p i : Nat) : ab (s.halfOf p i) XC_XP_STATUS.SYNCED_A XC_XP_STATUS.SYNCED_B =
    if s.rd XC_PORT_CTRL.SPLIT p = 0 ∨ i < 4 then XC_XP_STATUS.SYNCED_A else XC_XP_STATUS.SYNCED_B := by
  unfold State.halfOf ab
  by_cases h : s.rd XC_PORT_CTRL.SPLIT p = 0
  · simp [State.on, h]
  · simp only [State.on, h, ne_eq, not_false_eq_true, decide_true, if_true, false_or]
    refine if_congr ?_ rfl rfl
    omega

/-- A transmitter that is ON or waking enters sleep; one in any other state keeps it (R252). -/
theorem exec_txSleep_sleep (hp : p < 16) (hi : i < 8) (s : State) : ∃ u : State, u.regs = (s.put XC_LANE_CTRL.TX_SLEEP true p i).regs ∧
    exec (.txSleep p i true) s = .next (
      if s.rd XC_LANE_STATUS.TX_STATE p i = 1 ∨ s.rd XC_LANE_STATUS.TX_STATE p i = 4 then
        ((s.put XC_LANE_CTRL.TX_SLEEP true p i).wr (ab (s.halfOf p i) XC_XP_STATUS.SYNCED_A XC_XP_STATUS.SYNCED_B) 0 p).wr
          XC_LANE_STATUS.TX_STATE 2 p i
      else u) := by
  refine ⟨if s.rd XC_LANE_STATUS.TX_STATE p i = 2 then
      (s.put XC_LANE_CTRL.TX_SLEEP true p i).updLane p i (fun l => { l with wakeNext := false })
    else s.put XC_LANE_CTRL.TX_SLEEP true p i, ?_, (need_pos (decide_eq_true ⟨hp, hi⟩) _).trans (congrArg _ ?_)⟩
  · split <;> rfl
  · rw [if_pos rfl]
    by_cases h1 : s.rd XC_LANE_STATUS.TX_STATE p i = 1
    · simp [h1]
    by_cases h2 : s.rd XC_LANE_STATUS.TX_STATE p i = 2
    · simp [h2]
    · simp [h1, h2]

/-- A sleeping transmitter wakes; one in any other state keeps it (R252). -/
theorem exec_txSleep_wake (hp : p < 16) (hi : i < 8) (s : State) : ∃ u : State, u.regs = (s.put XC_LANE_CTRL.TX_SLEEP false p i).regs ∧
    exec (.txSleep p i false) s = .next (
      if s.rd XC_LANE_STATUS.TX_STATE p i = 3 then (s.put XC_LANE_CTRL.TX_SLEEP false p i).wr XC_LANE_STATUS.TX_STATE 4 p i else u) := by
  refine ⟨if s.rd XC_LANE_STATUS.TX_STATE p i = 2 then
      (s.put XC_LANE_CTRL.TX_SLEEP false p i).updLane p i (fun l => { l with wakeNext := true })
    else s.put XC_LANE_CTRL.TX_SLEEP false p i, ?_, (need_pos (decide_eq_true ⟨hp, hi⟩) _).trans (congrArg _ (if_neg (by decide)))⟩
  split <;> rfl

/-- The SLEEP blocks are out: the transmitter sleeps, or wakes where that was asked meanwhile. -/
theorem exec_txSleepEntered_entering (hp : p < 16) (hi : i < 8) (h : s.rd XC_LANE_STATUS.TX_STATE p i = 2) : ∃ t : State,
    exec (.txSleepEntered p i) s = .next t ∧
      t.regs = (s.wr XC_LANE_STATUS.TX_STATE (if (s.lane p i).wakeNext then 4 else 3) p i).regs := by
  have hwr : ∀ (u : State) (v : Nat), u.regs = s.regs → (u.wr XC_LANE_STATUS.TX_STATE v p i).regs = (s.wr XC_LANE_STATUS.TX_STATE v p i).regs :=
    fun u v hu => by simp [State.wr, hu]
  refine ⟨_, (need_pos (decide_eq_true ⟨hp, hi⟩) _).trans (congrArg _ (if_pos h)), ?_⟩
  dsimp only
  generalize hu : (if s.rd XC_LANE_CTRL.TEST p i = 1 then s else (s.fillGroup p i idleBlock false).fillGroup p i sleepBlock true) = u
  have hregs : u.regs = s.regs := by
    rw [← hu]
    split
    · rfl
    · rw [State.fillGroup_regs, State.fillGroup_regs]
  split
  · exact hwr u 4 hregs
  · exact hwr u 3 hregs

theorem State.txStart_regs (s : State) (p i : Nat) : (s.txStart p i).regs = (s.wr XC_LANE_STATUS.TX_STATE 1 p i).regs := rfl

/-- A transmitter starts with no group in hand. -/
theorem State.lane_txStart (s : State) (p i : Nat) : ((s.txStart p i).lane p i).group = [] ∧ ((s.txStart p i).lane p i).groups = 0 := by
  have hlane := (s.wr XC_LANE_STATUS.TX_STATE 1 p i).lane_updLane_same p i (fun l => { l with
    group := [], groups := 0, acount := 0, scrambler := s.draw 58, prbs := s.drawn.draw 31, txLevel := s.drawn.drawn.draw 2 })
  exact ⟨congrArg Lane.group hlane, congrArg Lane.groups hlane⟩

/-! ### Tests, equalisers and eye scans (R253 to R257) -/

/-- The enable of the half that a lane belongs to. -/
theorem State.subEnabled_halfOf (s : State) (p i : Nat) {h : Nat} (hh : h = if s.rd XC_PORT_CTRL.SPLIT p = 0 then 0 else i / 4) :
    s.subEnabled p (s.halfOf p i) = true ↔ s.rd (if h = 0 then XC_PORT_CTRL.EN_A else XC_PORT_CTRL.EN_B) p ≠ 0 := by
  have hhalf : s.halfOf p i = h := by
    rw [hh, State.halfOf]
    simp [State.on]
  rw [hhalf]
  exact State.on_iff ..

theorem exec_testWrite_refused (hp : p < 16) (hi : i < 8) (h : s.subEnabled p (s.halfOf p i) = true ∨ 3 ≤ v) :
    exec (.testWrite p i v) s = .next (s.wr XC_LANE_CTRL.LANE_CFG_ERR 1 p i) :=
  (need_pos (decide_eq_true ⟨hp, hi⟩) _).trans (congrArg _ (if_pos h))

/-- A test that is taken is set, and the receiver is in TEST; back at 0 a receiver in TEST enters CDR. -/
theorem exec_testWrite_taken (hp : p < 16) (hi : i < 8) (hen : s.subEnabled p (s.halfOf p i) = false) (hv : v < 3) : ∃ t,
    exec (.testWrite p i v) s = .next t ∧ t.rd XC_LANE_CTRL.TEST p i = v ∧ t.rd XC_LANE_STATUS.RX_STATE p i =
      (if v = 0 then (if s.rd XC_LANE_STATUS.RX_STATE p i = 6 then 2 else s.rd XC_LANE_STATUS.RX_STATE p i) else 6) := by
  refine ⟨_, (need_pos (decide_eq_true ⟨hp, hi⟩) _).trans (congrArg _ (if_neg (by simp [hen, hv]))), ?_⟩
  dsimp only
  generalize hu : (s.wr XC_LANE_CTRL.TEST v p i).updLane p i (fun l => { l with loop := 0 }) = u
  have htest : u.rd XC_LANE_CTRL.TEST p i = v := by
    rw [← hu, State.rd_updLane, State.rd_wr_fit (lt_trans hv (by decide))]
  have hrx : u.rd XC_LANE_STATUS.RX_STATE p i = s.rd XC_LANE_STATUS.RX_STATE p i := by
    rw [← hu, State.rd_updLane, State.rd_wr_other s (by decide)]
  by_cases hv0 : v = 0
  · rw [if_pos hv0, if_pos hv0]
    by_cases h6 : s.rd XC_LANE_STATUS.RX_STATE p i = 6
    · rw [if_pos h6, if_pos h6]
      have hoff : (u.wr XC_LANE_STATUS.RX_STATE 0 p i).rd XC_LANE_STATUS.RX_STATE p i ≠ 6 := by
        rw [State.rd_wr_fit (by decide)]
        decide
      refine ⟨?_, (State.rd_rxTo_down hoff (le_refl 2)).1⟩
      rw [(Reads.refl.rxTo_down (le_refl 2) (by decide) p i).rd, State.rd_wr_other u (by decide), htest]
    · rw [if_neg h6, if_neg h6]
      exact ⟨htest, hrx⟩
  · rw [if_neg hv0, if_neg hv0]
    refine ⟨?_, State.rd_wr_fit (by decide)⟩
    rw [State.rd_wr_other _ (by decide), (Reads.refl.rxTo_down (Nat.zero_le 2) (by decide) p i).rd, htest]

/-- What a write of `XC_LANE_TXEQ` changes whatever its taps: `AMP`, and `EQ_ERR` where the write clears it. -/
def State.txeqShown (s : State) (p i v : Nat) : State :=
  if bitAt v 20 then (s.wr XC_LANE_TXEQ.AMP (bitsOf v 16 4) p i).wr XC_LANE_TXEQ.EQ_ERR 0 p i else s.wr XC_LANE_TXEQ.AMP (bitsOf v 16 4) p i

theorem exec_txeqWrite_eq (hp : p < 16) (hi : i < 8) (s : State) (v : Nat) : exec (.txeqWrite p i v) s = .next (
    if 40 < v % 16 + v / 256 % 32 then (s.txeqShown p i v).wr XC_LANE_TXEQ.EQ_ERR 1 p i
    else (s.txeqShown p i v).setFields [XC_LANE_TXEQ.PRE, XC_LANE_TXEQ.POST] v p i) := by
  have hpre : bitsOf v 0 4 = v % 16 := (bitsOf_eq v 0 4).trans (congrArg (· % 16) (Nat.div_one v))
  have hpost : bitsOf v 8 5 = v / 256 % 32 := bitsOf_eq v 8 5
  rw [← hpre, ← hpost]
  exact need_pos (decide_eq_true ⟨hp, hi⟩) _

theorem State.rd_txeqShown_amp (s : State) (p i v : Nat) : (s.txeqShown p i v).rd XC_LANE_TXEQ.AMP p i = v / 65536 % 16 := by
  have hamp : (s.wr XC_LANE_TXEQ.AMP (bitsOf v 16 4) p i).rd XC_LANE_TXEQ.AMP p i = v / 65536 % 16 :=
    (State.rd_wr_same ..).trans ((Nat.mod_mod ..).trans (bitsOf_eq v 16 4))
  unfold State.txeqShown
  split
  · rw [State.rd_wr_other _ (by decide), hamp]
  · exact hamp

theorem State.txeqShown_regsKeptBut {ks : List Key} (ha : XC_LANE_TXEQ.AMP.key p i ∈ ks) (he : XC_LANE_TXEQ.EQ_ERR.key p i ∈ ks) (s : State)
    (v : Nat) : s.regsKeptBut (s.txeqShown p i v) ks := by
  unfold State.txeqShown
  split
  · exact (State.regsKeptBut.refl.wr ha).wr he
  · exact State.regsKeptBut.refl.wr ha

theorem State.txeqShown_regsOnly (s : State) (p i v : Nat) : RegsOnly s (s.txeqShown p i v) := by
  unfold State.txeqShown
  split <;> rfl

theorem exec_eyeScanGo_refused (hp : p < 16) (hi : i < 8) {eye : Nat} (h : s.rd XC_LANE_STATUS.CDR_LOCK p i = 0 ∨
    s.rd XC_LANE_CTRL.TEST p i ≠ 0 ∨ s.rd XC_LANE_EYE_RESULT.BUSY p i ≠ 0 ∨ 3 ≤ eye) (ph vo dw : Nat) :
    exec (.eyeScanGo p i ph vo eye dw) s = .next (s.wr XC_LANE_STATUS.EYE_ERR 1 p i) := by
  refine (need_pos (decide_eq_true ⟨hp, hi⟩) _).trans (congrArg _ (if_neg ?_))
  rcases h with h | h | h | h
  · simp [State.on, h]
  · simp [State.on, h]
  · simp [State.on, h]
  · have heye : (if s.pam4 p i then decide (eye ≤ 2) else decide (eye = 1)) = false := by
      split <;> simp <;> omega
    simp [heye]

/-- A scan that is taken begins at the point written, with nothing counted. -/
theorem exec_eyeScanGo_taken (hp : p < 16) (hi : i < 8) (hlock : s.rd XC_LANE_STATUS.CDR_LOCK p i ≠ 0) (htest : s.rd XC_LANE_CTRL.TEST p i = 0)
    (hbusy : s.rd XC_LANE_EYE_RESULT.BUSY p i = 0) {dw : Nat} (hlo : 16 ≤ dw) (hhi : dw ≤ 40) (ph vo : Nat) : ∃ u : State, RegsOnly s u ∧
    exec (.eyeScanGo p i ph vo 1 dw) s = .next (((((u.wr XC_LANE_EYE_CTRL.DWELL_LOG2 dw p i).wr XC_LANE_EYE_RESULT.BUSY 1 p i).wr
      XC_LANE_EYE_RESULT.VALID 0 p i).wr XC_LANE_EYE_RESULT.ABORTED 0 p i).wr XC_LANE_EYE_RESULT.ERRORS 0 p i) := by
  refine ⟨((s.wr XC_LANE_EYE_CTRL.PHASE ph p i).wr XC_LANE_EYE_CTRL.VOFF vo p i).wr XC_LANE_EYE_CTRL.EYE 1 p i, rfl,
    (need_pos (decide_eq_true ⟨hp, hi⟩) _).trans (congrArg _ ?_)⟩
  have hgo : (s.on XC_LANE_STATUS.CDR_LOCK p i && !s.on XC_LANE_CTRL.TEST p i && !s.on XC_LANE_EYE_RESULT.BUSY p i &&
      if s.pam4 p i then decide (1 ≤ 2) else decide (1 = 1)) = true := by
    simp [State.on, hlock, htest, hbusy]
  dsimp only
  rw [if_pos hgo, if_pos ⟨hlo, hhi⟩]

theorem exec_eyeScanDone_eq (hp : p < 16) (hi : i < 8) (s : State) (n : Nat) : exec (.eyeScanDone p i n) s = .next (
    if s.on XC_LANE_EYE_RESULT.BUSY p i then ((s.wr XC_LANE_EYE_RESULT.BUSY 0 p i).wr XC_LANE_EYE_RESULT.VALID 1 p i).wr
      XC_LANE_EYE_RESULT.ERRORS (min n (2 ^ 40 - 1)) p i
    else s) :=
  need_pos (decide_eq_true ⟨hp, hi⟩) _

/-! ### The obligation -/

theorem exec_lanePllLock_eq (hp : p < 16) (s : State) : exec (.lanePllLock p) s = .next (
    if s.on XC_PORT_CTRL.EN_A p || s.on XC_PORT_CTRL.EN_B p then (s.wr XC_PORT_STATUS.PLL_LOCK 1 p).startWaiting p else s) :=
  need_pos (decide_eq_true hp) _

/-- The settings of a whole port that a write of `v` leaves in force. -/
theorem State.rd_portSet_whole (s : State) (p v : Nat) : (s.portSet p v).rd XC_PORT_CTRL.EN_A p = v % 2 ∧
    (s.portSet p v).rd XC_PORT_CTRL.EN_B p = v / 2 % 2 ∧ (s.portSet p v).rd XC_PORT_CTRL.SPLIT p = v / 4 % 2 ∧
    (s.portSet p v).rd XC_PORT_CTRL.RATE_A p = v / 16 % 8 ∧ (s.portSet p v).rd XC_PORT_CTRL.FEC_A p = v / 4096 % 2 := by
  refine ⟨?_, ?_, ?_, ?_, ?_⟩
  · rw [State.rd_portSet s p v (by decide), bitsOf_eq]
    exact congrArg (· % 2) (Nat.div_one v)
  · exact (State.rd_portSet s p v (by decide)).trans (bitsOf_eq v 1 1)
  · exact (State.rd_portSet s p v (by decide)).trans (bitsOf_eq v 2 1)
  · exact (State.rd_portSet s p v (by decide)).trans (bitsOf_eq v 4 3)
  · exact (State.rd_portSet s p v (by decide)).trans (bitsOf_eq v 12 1)

/-- Settles O30: each command is one equation in its case. A port's lanes start or stop one after another, and each reads what its own start or
stop wrote. -/
theorem laneTools : Obligations.LaneTools := by
  intro s p i hp hi
  refine ⟨fun v h => ⟨_, exec_xcPortCtrlWrite_refused hp (State.portCtrlRefused_of h), State.rd_wr_fit (by decide),
      State.regsKeptBut.refl.wr (by simp), rfl⟩,
    fun v ha hb hv hrate hlow hhigh hoff hpll hfam => ?starts, fun v ha hb hv hrate hlow hhigh hpll => ?waits,
    fun v ha hb hsplit hstop hv hr hf hrate hlow hhigh => ?disables, fun hen h0 h1 => ?locks, fun ha hb hsplit hoff => ?lockStarts,
    fun ha hb => ?noLock, fun f hf => ?sleeps, ?wakes, fun h => ?entered, fun h => ?notEntered, fun h => ?woken, fun h => ?notWoken,
    fun v h hh hbad => ?testRefused, fun v h hh hen hv => ?testTaken, fun v hv => ?eqRefused, fun v hv => ?eqTaken,
    fun ph vo eye dw h => ⟨_, exec_eyeScanGo_refused hp hi h ph vo dw, State.rd_wr_fit (by decide), State.regsKeptBut.refl.wr (by simp), rfl⟩,
    fun ph vo dw hlock htest hbusy hlo hhi => ?eyeTaken, fun n h => ?eyeDone, fun n h => ?eyeIdle⟩
  case starts =>
    have hrefused := State.portCtrlRefused_whole (s := s) (p := p) hb (by omega) ⟨hrate, hlow, hhigh⟩ (absurd ha)
    obtain ⟨hsa, hsb, hss, hsr, hsf⟩ := s.rd_portSet_whole p v
    have hkept : ∀ f : Fld, (∀ e ∈ CK_GATE_STATUS.GATED :: portCtrlFields, f.id ≠ e.id) → ∀ j, (s.portSet p v).rd f p j = s.rd f p j :=
      fun f hf j => (Reads.refl.portSet hf p v).rd p j
    have hoff' : ∀ j, j < 8 → (s.portSet p v).rd XC_LANE_STATUS.TX_STATE p j = 0 ∧ (s.portSet p v).rxIdle p j := fun j hj => by
      rw [State.rxIdle, hkept _ (by decide), hkept _ (by decide), hkept _ (by decide)]
      exact hoff j hj
    obtain ⟨hstates, hreads⟩ := State.rd_startWaiting_whole (s := s.portSet p v) (p := p) (by rwa [hkept _ (by decide)]) (by omega) (by omega)
      (by omega) hoff'
    have hnew : ¬(s.rd XC_PORT_STATUS.PLL_LOCK p = 0 ∨ s.rd XC_PORT_STATUS.PLL_FAMILY p ≠ rateFamily (v / 16 % 8)) := by
      rw [hfam]
      exact not_or.2 ⟨hpll, fun h => h rfl⟩
    refine ⟨_, exec_xcPortCtrlWrite_enables hp hrefused ha hb hv, ?_⟩
    rw [if_neg hnew, (hreads _ (by decide)).rd, (hreads _ (by decide)).rd, (hreads _ (by decide)).rd, (hreads _ (by decide)).rd,
      (hstates i hi).1, (hstates i hi).2, State.rxFirst,
      hkept XC_LANE_CTRL.TEST (by decide), hkept XC_LANE_CTRL.TX_SLEEP (by decide), hkept XC_LANE_CTRL.RX_SLEEP (by decide)]
    exact ⟨by omega, by omega, hsr, hsf, rfl, rfl⟩
  case waits =>
    have hrefused := State.portCtrlRefused_whole (s := s) (p := p) hb (by omega) ⟨hrate, hlow, hhigh⟩ (absurd ha)
    obtain ⟨hsa, -, -, hsr, -⟩ := s.rd_portSet_whole p v
    refine ⟨_, exec_xcPortCtrlWrite_enables hp hrefused ha hb hv, ?_⟩
    have hlock : (((s.portSet p v).wr XC_PORT_STATUS.PLL_LOCK 0 p).wr XC_PORT_STATUS.PLL_FAMILY (rateFamily (v / 16 % 8)) p).rd
        XC_PORT_STATUS.PLL_LOCK p = 0 := (State.rd_wr_other _ (by decide)).trans (State.rd_wr_fit (by decide))
    have hfam : rateFamily (v / 16 % 8) < 2 := by
      unfold rateFamily
      split <;> decide
    have hlane : ∀ f ∈ [XC_LANE_STATUS.TX_STATE, XC_LANE_STATUS.RX_STATE], (((s.portSet p v).wr XC_PORT_STATUS.PLL_LOCK 0 p).wr
        XC_PORT_STATUS.PLL_FAMILY (rateFamily (v / 16 % 8)) p).rd f p i = s.rd f p i := fun f hf => by
      obtain ⟨hset, h1, h2⟩ := (by decide : ∀ f ∈ [XC_LANE_STATUS.TX_STATE, XC_LANE_STATUS.RX_STATE],
        (∀ e ∈ CK_GATE_STATUS.GATED :: portCtrlFields, f.id ≠ e.id) ∧ f.id ≠ XC_PORT_STATUS.PLL_LOCK.id ∧
          f.id ≠ XC_PORT_STATUS.PLL_FAMILY.id) f hf
      rw [State.rd_wr_other _ h2, State.rd_wr_other _ h1, (Reads.refl.portSet hset p v).rd]
    rw [if_pos (.inl hpll), State.startWaiting_unlocked hlock]
    refine ⟨?_, ?_, hlock, State.rd_wr_fit hfam, hlane _ (by decide), hlane _ (by decide)⟩
    · rw [State.rd_wr_other _ (by decide), State.rd_wr_other _ (by decide), hsa]
      omega
    · rw [State.rd_wr_other _ (by decide), State.rd_wr_other _ (by decide), hsr]
  case disables =>
    have hrefused := State.portCtrlRefused_whole (s := s) (p := p) hb (by omega) ⟨hrate, hlow, hhigh⟩ (fun _ => ⟨hsplit, hstop, hr, hf⟩)
    obtain ⟨hsa, hsb, -⟩ := (s.disableSub p 0).rd_portSet_whole p v
    have hidle : ((s.disableSub p 0).portSet p v).startWaiting p = (s.disableSub p 0).portSet p v := State.startWaiting_started
      (State.subWaitsPll_disabled (State.on_eq_false (f := XC_PORT_CTRL.EN_A) (by omega)))
      (State.subWaitsPll_disabled (State.on_eq_false (f := XC_PORT_CTRL.EN_B) (by omega)))
    refine ⟨_, (exec_xcPortCtrlWrite_disables hp hrefused ha hb hv).trans (congrArg _ hidle), by omega, ?_, ?_⟩
    · rw [(Reads.refl.portSet (by decide) p v).rd, State.disableSub_eq, State.lanesOf_whole hsplit, State.rd_foldl_laneStop_tx,
        if_pos (List.mem_range.2 hi)]
    · rw [(Reads.refl.portSet (by decide) p v).rd, State.disableSub_eq, State.lanesOf_whole hsplit,
        State.rd_foldl_laneStop_rx _ s p (.inl (List.mem_range.2 hi))]
  case locks =>
    have hgo : (s.on XC_PORT_CTRL.EN_A p || s.on XC_PORT_CTRL.EN_B p) = true := by simpa [State.on] using hen
    have hstill := State.startWaiting_started (s := s.wr XC_PORT_STATUS.PLL_LOCK 1 p) (p := p)
      ((State.subWaitsPll_wr (by decide) s 1 p 0 0).trans h0) ((State.subWaitsPll_wr (by decide) s 1 p 0 1).trans h1)
    exact ⟨_, (exec_lanePllLock_eq hp s).trans (congrArg _ ((if_pos hgo).trans hstill)), State.rd_wr_fit (by decide),
      State.regsKeptBut.refl.wr (by simp), rfl⟩
  case lockStarts =>
    have hgo : (s.on XC_PORT_CTRL.EN_A p || s.on XC_PORT_CTRL.EN_B p) = true := by simp [State.on, ha]
    have hkept : ∀ f : Fld, f.id ≠ XC_PORT_STATUS.PLL_LOCK.id → ∀ j, (s.wr XC_PORT_STATUS.PLL_LOCK 1 p).rd f p j = s.rd f p j :=
      fun f hf j => State.rd_wr_other s hf
    have hlock : (s.wr XC_PORT_STATUS.PLL_LOCK 1 p).rd XC_PORT_STATUS.PLL_LOCK p = 1 := State.rd_wr_fit (by decide)
    have hoff' : ∀ j, j < 8 → (s.wr XC_PORT_STATUS.PLL_LOCK 1 p).rd XC_LANE_STATUS.TX_STATE p j = 0 ∧
        (s.wr XC_PORT_STATUS.PLL_LOCK 1 p).rxIdle p j := fun j hj => by
      rw [State.rxIdle, hkept _ (by decide), hkept _ (by decide), hkept _ (by decide)]
      exact hoff j hj
    obtain ⟨hstates, hreads⟩ := State.rd_startWaiting_whole (s := s.wr XC_PORT_STATUS.PLL_LOCK 1 p) (p := p) (by omega)
      (by rwa [hkept _ (by decide)]) (by rwa [hkept _ (by decide)]) (by rwa [hkept _ (by decide)]) hoff'
    refine ⟨_, (exec_lanePllLock_eq hp s).trans (congrArg _ (if_pos hgo)), ((hreads _ (by decide)).rd ..).trans hlock, ?_⟩
    rw [(hstates i hi).1, (hstates i hi).2, State.rxFirst, hkept _ (by decide), hkept _ (by decide), hkept _ (by decide)]
    exact ⟨rfl, rfl⟩
  case noLock => exact (exec_lanePllLock_eq hp s).trans (congrArg _ (if_neg (by simp [State.on, ha, hb])))
  case sleeps =>
    obtain ⟨u, hu, he⟩ := exec_txSleep_sleep hp hi s
    rw [State.synced_halfOf, ← hf] at he
    have hids : f.id ≠ XC_LANE_CTRL.TX_SLEEP.id ∧ f.id ≠ XC_LANE_STATUS.TX_STATE.id := by
      rw [hf]
      split <;> decide
    refine ⟨_, he, ?_⟩
    by_cases htx : s.rd XC_LANE_STATUS.TX_STATE p i = 1 ∨ s.rd XC_LANE_STATUS.TX_STATE p i = 4
    · rw [if_pos htx, if_pos htx, if_pos htx]
      refine ⟨?_, State.rd_wr_fit (by decide), ?_, ((State.regsKeptBut.refl.put (by simp)).wr (by simp)).wr (by simp)⟩
      · rw [State.rd_wr_other _ (by decide), State.rd_wr_other _ hids.1.symm, State.rd_put_flag (by decide)]
        rfl
      · rw [State.rd_wr_other _ hids.2, State.rd_wr_same, Nat.zero_mod]
    · rw [if_neg htx, if_neg htx, if_neg htx]
      refine ⟨?_, ?_, ?_, (State.regsKeptBut.refl.put (by simp)).hidden hu⟩
      · rw [State.rd_of_regs hu, State.rd_put_flag (by decide)]
        rfl
      · rw [State.rd_of_regs hu, State.rd_put_other (by decide)]
      · rw [State.rd_of_regs hu, State.rd_put_other hids.1]
  case wakes =>
    obtain ⟨u, hu, he⟩ := exec_txSleep_wake hp hi s
    refine ⟨_, he, ?_⟩
    by_cases htx : s.rd XC_LANE_STATUS.TX_STATE p i = 3
    · rw [if_pos htx, if_pos htx]
      refine ⟨?_, State.rd_wr_fit (by decide), (State.regsKeptBut.refl.put (by simp)).wr (by simp)⟩
      rw [State.rd_wr_other _ (by decide), State.rd_put_flag (by decide)]
      rfl
    · rw [if_neg htx, if_neg htx]
      refine ⟨?_, ?_, (State.regsKeptBut.refl.put (by simp)).hidden hu⟩
      · rw [State.rd_of_regs hu, State.rd_put_flag (by decide)]
        rfl
      · rw [State.rd_of_regs hu, State.rd_put_other (by decide)]
  case entered =>
    obtain ⟨t, he, ht⟩ := exec_txSleepEntered_entering hp hi h
    refine ⟨t, he, ?_, (State.regsKeptBut.refl.wr (by simp)).hidden ht⟩
    rw [State.rd_of_regs ht, State.rd_wr_fit]
    split <;> decide
  case notEntered => exact (need_pos (decide_eq_true ⟨hp, hi⟩) _).trans (congrArg _ (if_neg h))
  case woken =>
    obtain ⟨hgroup, hgroups⟩ := s.lane_txStart p i
    refine ⟨_, (need_pos (decide_eq_true ⟨hp, hi⟩) _).trans (congrArg _ (if_pos h)), ?_, hgroup, hgroups,
      (State.regsKeptBut.refl.wr (by simp)).hidden (s.txStart_regs p i)⟩
    rw [State.rd_of_regs (s.txStart_regs p i), State.rd_wr_fit (by decide)]
  case notWoken => exact (need_pos (decide_eq_true ⟨hp, hi⟩) _).trans (congrArg _ (if_neg h))
  case testRefused =>
    exact ⟨_, exec_testWrite_refused hp hi (hbad.imp_left (s.subEnabled_halfOf p i hh).2), State.rd_wr_fit (by decide),
      State.regsKeptBut.refl.wr (by simp), rfl⟩
  case testTaken =>
    exact exec_testWrite_taken hp hi (Bool.eq_false_iff.2 (mt (s.subEnabled_halfOf p i hh).1 (not_not.2 hen))) hv
  case eqRefused =>
    refine ⟨_, (exec_txeqWrite_eq hp hi s v).trans (congrArg _ (if_pos hv)), State.rd_wr_fit (by decide), ?_,
      (State.txeqShown_regsKeptBut (by simp) (by simp) s v).wr (by simp), s.txeqShown_regsOnly p i v⟩
    rw [State.rd_wr_other _ (by decide), State.rd_txeqShown_amp]
  case eqTaken =>
    refine ⟨_, (exec_txeqWrite_eq hp hi s v).trans (congrArg _ (if_neg (by omega))), ?_, ?_, ?_,
      ((State.txeqShown_regsKeptBut (by simp) (by simp) s v).wr (by simp)).wr (by simp), s.txeqShown_regsOnly p i v⟩
    · rw [State.rd_setFields (by decide) (by decide), bitsOf_eq]
      exact congrArg (· % 16) (Nat.div_one v)
    · exact (State.rd_setFields (by decide) (by decide) ..).trans (bitsOf_eq v 8 5)
    · rw [(Reads.refl.setFields (by decide) v p i).rd, State.rd_txeqShown_amp]
  case eyeTaken =>
    obtain ⟨u, hu, he⟩ := exec_eyeScanGo_taken hp hi hlock htest hbusy hlo hhi ph vo
    refine ⟨_, he, ?_, ?_, State.rd_wr_fit (by decide), ?_, hu⟩
    · rw [State.rd_wr_other _ (by decide), State.rd_wr_other _ (by decide), State.rd_wr_other _ (by decide), State.rd_wr_fit (by decide)]
    · rw [State.rd_wr_other _ (by decide), State.rd_wr_other _ (by decide), State.rd_wr_fit (by decide)]
    · rw [State.rd_wr_other _ (by decide), State.rd_wr_other _ (by decide), State.rd_wr_other _ (by decide), State.rd_wr_other _ (by decide),
        State.rd_wr_fit (lt_of_le_of_lt hhi (by decide))]
  case eyeDone =>
    refine ⟨_, (exec_eyeScanDone_eq hp hi s n).trans (congrArg _ (if_pos ((State.on_iff ..).2 h))), ?_, ?_,
      State.rd_wr_fit (lt_of_le_of_lt (Nat.min_le_right ..) (by decide)),
      ((State.regsKeptBut.refl.wr (by simp)).wr (by simp)).wr (by simp), rfl⟩
    · rw [State.rd_wr_other _ (by decide), State.rd_wr_other _ (by decide), State.rd_wr_fit (by decide)]
    · rw [State.rd_wr_other _ (by decide), State.rd_wr_fit (by decide)]
  case eyeIdle => rw [exec_eyeScanDone_eq hp hi s n, State.on_eq_false h, if_neg (by decide)]

end Sys2Proof.Machine
end

section
/-! PROOF. Cut-net transport: frames, acknowledgements, NAKs, timers and SYNC (O31; 10 R268 to R280). -/

namespace Sys2Proof.Machine

variable {s t : State} {g : Fld} {p h q w : Nat}

/-! ### Roles that their own halves carry (R283) -/

/-- No half of the port stands in for the other. -/
def State.OwnRoles (s : State) (p : Nat) : Prop := s.rd XC_XP_STATUS.OVER_A p = 0 ∧ s.rd XC_XP_STATUS.OVER_B p = 0

theorem State.OwnRoles.stoodIn (hs : s.OwnRoles p) (k : Nat) : s.stoodIn p k = false := by
  unfold State.stoodIn ab
  split
  · exact State.on_eq_false hs.1
  · exact State.on_eq_false hs.2

theorem State.OwnRoles.roleOf (hs : s.OwnRoles p) (h : Nat) : s.roleOf p h = h := by
  rw [State.roleOf, hs.stoodIn]
  rfl

theorem State.OwnRoles.of_reads (hs : s.OwnRoles p) (ha : Reads XC_XP_STATUS.OVER_A s t) (hb : Reads XC_XP_STATUS.OVER_B s t) :
    t.OwnRoles p :=
  ⟨(ha.rd p 0).trans hs.1, (hb.rd p 0).trans hs.2⟩

/-- What holds of the numbers of both halves' fields holds of a half's. -/
theorem ab_off {l : List Fld} {a b : Fld} (ha : ∀ f ∈ l, a.id ≠ f.id) (hb : ∀ f ∈ l, b.id ≠ f.id) : ∀ f ∈ l, (ab h a b).id ≠ f.id :=
  fun f hf => (ab_id_ne (ha f hf).symm (hb f hf).symm).symm

/-- Two pairs of halves' fields of different numbers. -/
theorem ab_ab_id_ne {a b c d : Fld} (h : (∀ f ∈ [c, d], a.id ≠ f.id) ∧ ∀ f ∈ [c, d], b.id ≠ f.id) (k k' : Nat) :
    (ab k a b).id ≠ (ab k' c d).id :=
  ab_id_ne (ab_off h.1 h.2 c (by simp)) (ab_off h.1 h.2 d (by simp))

/-- Both halves' fields have the same width. -/
theorem ab_wid {a b : Fld} {n : Nat} (ha : a.wid = n) (hb : b.wid = n) (k : Nat) : (ab k a b).wid = n := by
  unfold ab
  split
  · exact ha
  · exact hb

/-- A counter of a half counts one more, or stands at its largest value. -/
theorem State.rd_count_half {a b : Fld} (ha : a.wid = 16) (hb : b.wid = 16) (s : State) (k p : Nat) :
    (s.count (ab k a b) 1 p).rd (ab k a b) p = min (s.rd (ab k a b) p + 1) (2 ^ 16 - 1) := by
  rw [State.rd_count_one, ab_wid ha hb]

/-- A flag of a half reads the 1 written to it. -/
theorem State.rd_wr_half_one {a b : Fld} (ha : a.wid = 1) (hb : b.wid = 1) (s : State) (k p : Nat) :
    (s.wr (ab k a b) 1 p).rd (ab k a b) p = 1 :=
  State.rd_wr_fit (by rw [ab_wid ha hb]; decide)

/-! ### The transport state of a role -/

theorem State.sub_of_xp (e : t.xp = s.xp) (p r : Nat) : t.sub p r = s.sub p r :=
  congrArg (fun x => Tab.get XpSub.cold x (2 * p + r)) e

@[simp] theorem State.sub_wr (s : State) (f : Fld) (v u j p r : Nat) : (s.wr f v u j).sub p r = s.sub p r := rfl

@[simp] theorem State.sub_count (s : State) (f : Fld) (n u j p r : Nat) : (s.count f n u j).sub p r = s.sub p r := rfl

@[simp] theorem State.sub_post (s : State) (src code sev arg p r : Nat) : (s.post src code sev arg).sub p r = s.sub p r := rfl

/-- A role reads the transport state written to it. -/
@[simp] theorem State.sub_setSub_same (s : State) (p r : Nat) (x : XpSub) : (s.setSub p r x).sub p r = x := Tab.get_set_same ..

/-- What a new transport state writes. -/
def slotFields : List Fld := [XC_XP_SEQ.SLOTS_A, XC_XP_SEQ.SLOTS_B]

theorem Reads.setSub (hk : Reads g s t) (hg : ∀ f ∈ slotFields, g.id ≠ f.id) (p r : Nat) (x : XpSub) : Reads g s (t.setSub p r x) :=
  (hk.wrHalf (hg _ (by decide)) (hg _ (by decide)) r x.slots.length p 0).hidden rfl

/-! ### Rows that go out (R269) -/

/-- A block that the port logic offers to a lane changes no register. -/
theorem State.offer_regs (s : State) (p i b : Nat) : (s.offer p i b).regs = s.regs := by
  unfold State.offer
  split
  · exact State.laneSend_regs ..
  · rfl

theorem State.offerRow_regs (s : State) (p h : Nat) (row : List Nat) : (s.offerRow p h row).regs = s.regs := by
  have hlanes : ∀ (l : List (Nat × Nat)) (t : State), (l.foldl (fun t x => t.offer p x.1 x.2) t).regs = t.regs := by
    intro l
    induction l with
    | nil => exact fun t => rfl
    | cons x l ih => exact fun t => (ih _).trans (t.offer_regs p x.1 x.2)
  exact hlanes _ _

theorem State.offerRows_regs (s : State) (p h : Nat) (blocks : List Nat) : (s.offerRows p h blocks).regs = s.regs := by
  unfold State.offerRows
  generalize frameRows _ blocks = rows
  induction rows generalizing s with
  | nil => rfl
  | cons row rows ih => exact (ih _).trans (s.offerRow_regs p h row)

/-- Rows that go out leave the transport state. -/
theorem State.offerRows_xp (s : State) (p h : Nat) (blocks : List Nat) : (s.offerRows p h blocks).xp = s.xp :=
  (State.offerRows_moves (F := Foot.only [.lanes, .sent]) (Sub.list rfl rfl) Moves.refl).parts .xp (partsMask_not (by decide))

theorem State.sub_offerRows (s : State) (p h : Nat) (blocks : List Nat) (p' r : Nat) : (s.offerRows p h blocks).sub p' r = s.sub p' r :=
  State.sub_of_xp (s.offerRows_xp p h blocks) p' r

theorem Reads.offerRows (hk : Reads g s t) (p h : Nat) (blocks : List Nat) : Reads g s (t.offerRows p h blocks) :=
  hk.hidden (t.offerRows_regs p h blocks)

/-- A block alone starts a row, and IDLE fills it. -/
theorem frameRows_one (hw : w ≠ 0) (b : Nat) : frameRows w [b] = [b :: List.replicate (w - 1) idleBlock] := by
  obtain ⟨k, rfl⟩ := Nat.exists_eq_succ_of_ne_zero hw
  have hrows : ([b].length + (k + 1) - 1) / (k + 1) = 1 := by
    rw [List.length_singleton, Nat.add_sub_cancel_left, Nat.div_self k.succ_pos]
  rw [frameRows, Nat.succ_eq_add_one, hrows, List.range_one, List.map_singleton, List.range_succ_eq_map, Nat.add_sub_cancel, List.map_cons,
    List.map_map]
  have hidle : (List.range k).map ((fun j => [b].getD (0 * (k + 1) + j) idleBlock) ∘ Nat.succ) = List.replicate k idleBlock :=
    List.eq_replicate_iff.2 ⟨(List.length_map ..).trans List.length_range, fun x hx => by
      obtain ⟨j, -, rfl⟩ := List.mem_map.1 hx
      simp⟩
  rw [hidle]
  simp

/-- A row that goes out is driven on the sub-port. -/
theorem State.row_mem_sent_offerRow (s : State) (p h : Nat) (row : List Nat) : Emission.row (2 * p + h) row ∈ (s.offerRow p h row).sent := by
  have hlanes : Moves (Foot.only [.lanes, .sent]) (s.emit (.row (2 * p + h) row)) (s.offerRow p h row) :=
    Moves.refl.foldl fun t x _ ht => State.offer_moves (Sub.list rfl rfl) ht
  exact hlanes.sent.subset (List.mem_append_right _ (List.mem_singleton_self _))

/-- A block that goes out alone goes out at the start of a row. -/
theorem State.row_mem_sent_offerRows (hw : w = (s.lanesOf p h).length) (h0 : w ≠ 0) (b : Nat) :
    Emission.row (2 * p + h) (b :: List.replicate (w - 1) idleBlock) ∈ (s.offerRows p h [b]).sent := by
  rw [State.offerRows, ← hw, frameRows_one h0]
  exact s.row_mem_sent_offerRow p h _

/-- The lanes of a half depend on the port's `SPLIT`. -/
theorem State.lanesOf_of_reads (hk : Reads XC_PORT_CTRL.SPLIT s t) (p h : Nat) : t.lanesOf p h = s.lanesOf p h := by
  have hsplit : t.on XC_PORT_CTRL.SPLIT p = s.on XC_PORT_CTRL.SPLIT p := congrArg (fun v => decide (v ≠ 0)) (hk.rd p 0)
  rw [State.lanesOf, hsplit]
  rfl

/-! ### Frames sent again (R275) -/

theorem Reads.sendFrame (hk : Reads g s t) (hg : ∀ f ∈ slotFields, g.id ≠ f.id) (p h : Nat) (f : XSlot) : Reads g s (t.sendFrame p h f) :=
  .ite hk ((hk.setSub hg ..).offerRows ..)

/-- A frame that leaves takes the acknowledgement due with it; a halted part sends none. -/
theorem State.sub_sendFrame (hs : s.OwnRoles p) (h : Nat) (f : XSlot) :
    ∃ a, (s.sendFrame p h f).sub p h = { s.sub p h with ackDue := a } := by
  unfold State.sendFrame
  split
  · exact ⟨_, rfl⟩
  · exact ⟨false, by dsimp only; rw [hs.roleOf, State.sub_offerRows, State.sub_setSub_same]⟩

/-- A frame is sent again. -/
def State.resend (s : State) (p h : Nat) (f : XSlot) : State :=
  (s.sendFrame p h f).count (ab h XC_XP_RETRY.RESENT_A XC_XP_RETRY.RESENT_B) 1 p

theorem State.OwnRoles.resend (hs : s.OwnRoles p) (h : Nat) (f : XSlot) : (s.resend p h f).OwnRoles p :=
  hs.of_reads ((Reads.refl.sendFrame (by decide) p h f).wrHalf (by decide) (by decide) ..)
    ((Reads.refl.sendFrame (by decide) p h f).wrHalf (by decide) (by decide) ..)

theorem State.rd_resend (s : State) (p h : Nat) (f : XSlot) : (s.resend p h f).rd (ab h XC_XP_RETRY.RESENT_A XC_XP_RETRY.RESENT_B) p =
    min (s.rd (ab h XC_XP_RETRY.RESENT_A XC_XP_RETRY.RESENT_B) p + 1) (2 ^ 16 - 1) := by
  rw [State.resend, State.rd_count_half (by decide) (by decide), (Reads.refl.sendFrame (ab_off (by decide) (by decide)) p h f).rd]

/-- Frames sent again one after another are counted, and stay in their slots. -/
theorem State.foldl_resend (hs : s.OwnRoles p) (h : Nat) (f : XSlot) (l : List XSlot) :
    ((f :: l).foldl (fun t f => t.resend p h f) s).rd (ab h XC_XP_RETRY.RESENT_A XC_XP_RETRY.RESENT_B) p =
      min (s.rd (ab h XC_XP_RETRY.RESENT_A XC_XP_RETRY.RESENT_B) p + (l.length + 1)) (2 ^ 16 - 1) ∧
    ∃ a, ((f :: l).foldl (fun t f => t.resend p h f) s).sub p h = { s.sub p h with ackDue := a } := by
  induction l generalizing s f with
  | nil => exact ⟨s.rd_resend p h f, State.sub_sendFrame hs h f⟩
  | cons e l ih =>
    obtain ⟨hcount, b, hsub⟩ := ih (hs.resend h f) e
    obtain ⟨a, hfirst⟩ := State.sub_sendFrame hs h f
    rw [List.foldl_cons]
    refine ⟨?_, b, ?_⟩
    · rw [hcount, s.rd_resend, List.length_cons]
      omega
    · rw [hsub, State.resend, State.sub_count, hfirst]

/-- The frames from the oldest on, all of which are still to come for `next`, are sent again. -/
theorem State.resendFrom_all (hs : s.OwnRoles p) {f : XSlot} {l : List XSlot} {next : Nat} (hslots : (s.sub p h).slots = f :: l)
    (hnew : ∀ e ∈ f :: l, seqOld next e.seq = false) :
    (s.resendFrom p h next).rd (ab h XC_XP_RETRY.RESENT_A XC_XP_RETRY.RESENT_B) p =
      min (s.rd (ab h XC_XP_RETRY.RESENT_A XC_XP_RETRY.RESENT_B) p + (l.length + 1)) (2 ^ 16 - 1) ∧
    ((s.resendFrom p h next).sub p h).slots = (s.sub p h).slots ∧ ((s.resendFrom p h next).sub p h).nakSent = (s.sub p h).nakSent := by
  have hall : (s.sub p h).slots.filter (fun f => !seqOld next f.seq) = f :: l := by
    rw [hslots, List.filter_eq_self]
    exact fun e he => by rw [hnew e he]; rfl
  have hfold : s.resendFrom p h next = (f :: l).foldl (fun t f => t.resend p h f) s := by
    rw [State.resendFrom, hs.roleOf, hall]
    rfl
  obtain ⟨hcount, a, hsub⟩ := State.foldl_resend hs h f l
  rw [hfold, hsub]
  exact ⟨hcount, rfl, rfl⟩

/-- With no frame in a slot nothing is sent again. -/
theorem State.resendFrom_none (hs : s.OwnRoles p) (hslots : (s.sub p h).slots = []) (next : Nat) : s.resendFrom p h next = s := by
  rw [State.resendFrom, hs.roleOf, hslots]
  rfl

/-! ### Slots that are freed (R275, R276) -/

theorem State.unstage_empty {r : Nat} (hst : (s.sub p r).staging = []) :
    s.unstage p r = s.setSub p r { s.sub p r with staging := [] } := by
  rw [State.unstage, hst]
  rfl

/-- With nothing in the staging buffer freed slots stay free, and nothing goes out. -/
theorem State.freeBelow_unstaged {r : Nat} (hst : (s.sub p r).staging = []) (next : Nat) :
    ((s.freeBelow p r next).sub p r).slots = (s.sub p r).slots.filter (fun f => !seqOld next f.seq) ∧
      (s.freeBelow p r next).sent = s.sent ∧ ∀ g : Fld, (∀ f ∈ slotFields, g.id ≠ f.id) → Reads g s (s.freeBelow p r next) := by
  have hfree : s.freeBelow p r next = State.unstage _ p r := rfl
  rw [hfree, State.unstage_empty (by rw [State.sub_setSub_same]; exact hst), State.sub_setSub_same, State.sub_setSub_same]
  exact ⟨rfl, rfl, fun g hg => (Reads.refl.setSub hg ..).setSub hg ..⟩

/-! ### Blocks that a lane releases (R238) -/

/-- A block whose code is handed on is free of errors, and its code is known. -/
theorem State.control_some {b : XBlock} {c : Nat} (h : (s.control p q b).2 = some c) :
    s.errored p q b = false ∧ ccrcOk b.bits = true ∧ codeKnown (blockCode b.bits) = true := by
  unfold State.control at h
  split_ifs at h with hlost hbad
  simp only [Bool.or_eq_true, Bool.not_eq_true', not_or, Bool.not_eq_false, Bool.not_eq_true] at hlost hbad
  obtain ⟨⟨-, he⟩, -⟩ := hlost
  exact ⟨he, hbad⟩

/-- The code of a released block that is free of errors is handed on. -/
theorem State.control_code {b : XBlock} (hr : s.laneReads p q = true) (he : s.errored p q b = false) (hb : b.bits % 2 = 1)
    (hc : ccrcOk b.bits = true) {c : Nat} (hcode : blockCode b.bits = c) (hk : codeKnown c = true) : s.control p q b = (s, some c) := by
  rw [State.control_good hr he hb hc (hcode ▸ hk), hcode]

/-! ### A frame that arrives (R268, R274) -/

theorem XFrame.ofBlocks_seq_lt (b : Nat) (dt : List Nat) : (XFrame.ofBlocks b dt).seq < 4096 :=
  (bitsOf_eq b 9 12).trans_lt (Nat.mod_lt _ (by decide))

theorem XFrame.ofBlocks_stream_lt (b : Nat) (dt : List Nat) : (XFrame.ofBlocks b dt).stream < 16 :=
  (bitsOf_eq b 34 4).trans_lt (Nat.mod_lt _ (by decide))

/-- The number that is expected is not old. -/
theorem seqOld_self {n : Nat} (hn : n < 4096) : seqOld n n = false := by
  have hd : (n + 4096 - n % 4096) % 4096 = 0 := by rw [Nat.mod_eq_of_lt hn, Nat.add_sub_cancel_left, Nat.mod_self]
  simp [seqOld, hd]

section
variable (hp : p < 16) (hh : h < 2) {hd : XBlock} {dt : List XBlock}
include hp hh

theorem exec_strokeFrame_down (hup : s.linkUp p h = false) (hd : XBlock) (dt : List XBlock) : exec (.strokeFrame p h hd dt) s = .next s :=
  (need_pos (decide_eq_true ⟨hp, hh⟩) _).trans (congrArg _ (if_pos (by simp [hup])))

/-- A header whose `CCRC` fails is counted at its lane and its half. -/
theorem exec_strokeFrame_badHeader (hup : s.linkUp p h = true) (hs : s.OwnRoles p) (hgate : s.gated p h = true) (hsync : s.synced p h = true)
    (hr : s.laneReads p (s.peerLane p h 0) = true) (he : s.errored p (s.peerLane p h 0) hd = false) (hb : hd.bits % 2 = 1)
    (hc : ccrcOk hd.bits = false) (dt : List XBlock) : exec (.strokeFrame p h hd dt) s = .next
      ((s.count XC_LANE_ERR.CTRL_CRC 1 p (s.peerLane p h 0)).badFrame p h) := by
  refine (need_pos (decide_eq_true ⟨hp, hh⟩) _).trans (congrArg _ ?_)
  simp [hup, State.control_bad hr he hb hc, he, hb, hc, hgate, hsync, hs.roleOf]

/-- What becomes of the frame of a header that its lane hands on. -/
theorem exec_strokeFrame_header (hup : s.linkUp p h = true) (hs : s.OwnRoles p) (hctl : s.control p (s.peerLane p h 0) hd = (s, some 0x10))
    {f : XFrame} (hf : f = XFrame.ofBlocks hd.bits (dt.map (·.bits))) : exec (.strokeFrame p h hd dt) s = .next (
      if s.gated p h = false then s.wr XC_XP_STATUS.UNGATED_RX 1 p
      else if s.synced p h = false then s
      else if s.anyErrored p h (hd :: dt) = true ∨ 64 < f.dlen then s.badFrame p h
      else s.takeFrame p h f) := by
  obtain ⟨he, hc, hk⟩ := State.control_some (s := s) (congrArg Prod.snd hctl)
  refine (need_pos (decide_eq_true ⟨hp, hh⟩) _).trans (congrArg _ ?_)
  simp [← hf, hup, hctl, he, hc, hk, hs.roleOf]

end

/-! ### A frame past the checks for errored blocks (R274, R275) -/

/-- The role has accepted the frame that it expected. -/
def State.accepted (s : State) (p h : Nat) : State :=
  (s.setSub p h { s.sub p h with ackDue := true, nakSent := none }).countWrap (ab h XC_XP_SEQ.RX_NEXT_A XC_XP_SEQ.RX_NEXT_B) 1 p

section
variable {f : XFrame} (hs : s.OwnRoles p) (hack : f.ackv = false)
include hs hack

theorem State.takeFrame_old (h : Nat) (hold : seqOld (s.rd (ab h XC_XP_SEQ.RX_NEXT_A XC_XP_SEQ.RX_NEXT_B) p) f.seq = true) :
    s.takeFrame p h f =
      (s.setSub p h { s.sub p h with ackDue := true }).count (ab h XC_XP_DROP.DUP_A XC_XP_DROP.DUP_B) 1 p := by
  simp [State.takeFrame, hs.roleOf, hack, hold]

theorem State.takeFrame_bad (h : Nat) (hnew : seqOld (s.rd (ab h XC_XP_SEQ.RX_NEXT_A XC_XP_SEQ.RX_NEXT_B) p) f.seq = false)
    (hbad : f.seq ≠ s.rd (ab h XC_XP_SEQ.RX_NEXT_A XC_XP_SEQ.RX_NEXT_B) p ∨ f.crc ≠ frameCrc f.tally f.data ∨ f.data.length ≠ f.dlen) :
    s.takeFrame p h f = (s.badFrame p h).sendNak p h := by
  simp only [State.takeFrame, hs.roleOf, hack, hnew, Bool.false_eq_true, if_false, if_pos hbad]

theorem State.takeFrame_expected (h : Nat) (hlt : f.seq < 4096) (hseq : f.seq = s.rd (ab h XC_XP_SEQ.RX_NEXT_A XC_XP_SEQ.RX_NEXT_B) p)
    (hcrc : f.crc = frameCrc f.tally f.data) (hlen : f.data.length = f.dlen) : s.takeFrame p h f = (s.accepted p h).deliver p h f := by
  have hnew : seqOld (s.rd (ab h XC_XP_SEQ.RX_NEXT_A XC_XP_SEQ.RX_NEXT_B) p) f.seq = false := hseq ▸ seqOld_self hlt
  have hgood := not_or.2 ⟨not_not.2 hseq, not_or.2 ⟨not_not.2 hcrc, not_not.2 hlen⟩⟩
  simp only [State.takeFrame, hs.roleOf, hack, hnew, Bool.false_eq_true, if_false, if_neg hgood]
  rfl

end

/-! ### What the role that accepts a frame reads -/

theorem Reads.accepted (hk : Reads g s t) (hg : ∀ f ∈ XC_XP_SEQ.RX_NEXT_A :: XC_XP_SEQ.RX_NEXT_B :: slotFields, g.id ≠ f.id) (p h : Nat) :
    Reads g s (t.accepted p h) :=
  (hk.setSub (fun f hf => hg f (List.mem_cons_of_mem _ (List.mem_cons_of_mem _ hf))) ..).wrHalf (hg _ (by decide)) (hg _ (by decide)) ..

/-- The expected number moves on by one. -/
theorem State.rd_accepted_next (s : State) (p h : Nat) : (s.accepted p h).rd (ab h XC_XP_SEQ.RX_NEXT_A XC_XP_SEQ.RX_NEXT_B) p =
    (s.rd (ab h XC_XP_SEQ.RX_NEXT_A XC_XP_SEQ.RX_NEXT_B) p + 1) % 4096 := by
  rw [State.accepted, State.rd_countWrap_same, ab_wid (n := 12) rfl rfl, (Reads.refl.setSub (ab_off (by decide) (by decide)) ..).rd]
  rfl

theorem State.sub_accepted (s : State) (p h : Nat) :
    (s.accepted p h).sub p h = { s.sub p h with ackDue := true, nakSent := none } := State.sub_setSub_same ..

/-! ### A frame at its stream (R274, R277) -/

section
variable {f : XFrame}

theorem State.deliver_unknown (hen : s.rd XC_RXS.EN p (16 * h + f.stream) = 0) : s.deliver p h f = s.wr XC_XP_STATUS.STREAM_ERR 1 p := by
  simp [State.deliver, State.on, hen]

/-- The stream has slipped and stops. -/
def State.slipped (s : State) (p h : Nat) (f : XFrame) : State :=
  ((((s.setSub p h { s.sub p h with stopped := (s.sub p h).stopped ++ [f.stream] }).wr (ab h XC_XP_STATUS.SLIP_A XC_XP_STATUS.SLIP_B) 1 p).wr
    XC_XP_STATUS.SLIP_STREAM f.stream p).wr XC_XP_STATUS.SLIP_HALF h p).wr XC_XP_STATUS.SLIP_TALLY f.tally p

/-- A frame with another tally than expected, at an enabled stream that runs and does not deliver. -/
theorem State.deliver_slip (hen : s.rd XC_RXS.EN p (16 * h + f.stream) ≠ 0) (hdel : s.rd XC_RXS.DELIVER p (16 * h + f.stream) = 0)
    (hrun : f.stream ∉ (s.sub p h).stopped) (htally : f.tally ≠ (s.sub p h).expected f.stream % 65536) :
    ∃ arg, s.deliver p h f = (s.slipped p h f).post 8 0x0080 2 arg := by
  refine ⟨2 ^ 60 * p + (s.slipped p h f).raw XC_XP_STATUS.regs p, ?_⟩
  simp only [State.deliver, State.on, hen, hdel, if_neg hrun, if_pos htally, ne_eq, not_true_eq_false, not_false_eq_true, decide_true,
    decide_false, Bool.not_true, Bool.false_and, Bool.or_self, Bool.false_eq_true, if_false]
  rfl

/-- The frame that a delivering stream expects is held for its stroke. -/
theorem State.deliver_held (hen : s.rd XC_RXS.EN p (16 * h + f.stream) ≠ 0) (hdel : s.rd XC_RXS.DELIVER p (16 * h + f.stream) ≠ 0)
    (hfwd : s.rd XC_RXS.FWD p (16 * h + f.stream) = 0) (hlen : f.dlen = (s.rd XC_RXS.BITS p (16 * h + f.stream) + 255) / 256)
    (hrun : f.stream ∉ (s.sub p h).stopped) (htally : f.tally = (s.sub p h).expected f.stream % 65536) :
    s.deliver p h f = s.setSub p h { s.sub p h with
      expTally := Tab.set natLt 0 (s.sub p h).expTally f.stream ((s.sub p h).expected f.stream + 1)
      held := (s.sub p h).held ++ [⟨f.seq, f.stream, (s.sub p h).expected f.stream, f.data, f.crc⟩] } := by
  simp only [State.deliver, State.on, hen, hdel, hfwd, ← hlen, if_neg hrun, htally, ne_eq, not_true_eq_false, not_false_eq_true, decide_true,
    decide_false, Bool.not_true, Bool.and_false, Bool.or_self, Bool.false_eq_true, if_false, if_true]

theorem State.rd_slipped_flag (s : State) (p h : Nat) (f : XFrame) :
    (s.slipped p h f).rd (ab h XC_XP_STATUS.SLIP_A XC_XP_STATUS.SLIP_B) p = 1 := by
  have hoff : ∀ e ∈ [XC_XP_STATUS.SLIP_STREAM, XC_XP_STATUS.SLIP_HALF, XC_XP_STATUS.SLIP_TALLY],
      (ab h XC_XP_STATUS.SLIP_A XC_XP_STATUS.SLIP_B).id ≠ e.id := ab_off (by decide) (by decide)
  rw [State.slipped, State.rd_wr_other _ (hoff _ (by decide)), State.rd_wr_other _ (hoff _ (by decide)),
    State.rd_wr_other _ (hoff _ (by decide)), State.rd_wr_half_one (by decide) (by decide)]

theorem State.rd_slipped_stream (s : State) (p h : Nat) (hf : f.stream < 16) : (s.slipped p h f).rd XC_XP_STATUS.SLIP_STREAM p = f.stream := by
  rw [State.slipped, State.rd_wr_other _ (by decide), State.rd_wr_other _ (by decide), State.rd_wr_fit hf]

theorem State.sub_slipped (s : State) (p h : Nat) (f : XFrame) :
    (s.slipped p h f).sub p h = { s.sub p h with stopped := (s.sub p h).stopped ++ [f.stream] } := State.sub_setSub_same ..

/-- A stream expects the tally set for it. -/
theorem XpSub.expected_of_set {x : XpSub} {l : List (Nat × Nat)} {n v : Nat} (hx : x.expTally = Tab.set natLt 0 l n v) : x.expected n = v := by
  rw [XpSub.expected, hx, Tab.get_set_same]

/-- Accepting a frame leaves the entry of its stream. -/
theorem State.rd_accepted_entry (hg : g ∈ [XC_RXS.EN, XC_RXS.DELIVER, XC_RXS.FWD, XC_RXS.BITS]) (s : State) (p h j : Nat) :
    (s.accepted p h).rd g p j = s.rd g p j :=
  (Reads.refl.accepted ((by decide : ∀ g ∈ [XC_RXS.EN, XC_RXS.DELIVER, XC_RXS.FWD, XC_RXS.BITS],
    ∀ f ∈ XC_XP_SEQ.RX_NEXT_A :: XC_XP_SEQ.RX_NEXT_B :: slotFields, g.id ≠ f.id) g hg) p h).rd p j

theorem State.accepted_deliver_unknown (hen : s.rd XC_RXS.EN p (16 * h + f.stream) = 0) :
    ((s.accepted p h).deliver p h f).rd XC_XP_STATUS.STREAM_ERR p = 1 ∧
    ((s.accepted p h).deliver p h f).rd (ab h XC_XP_SEQ.RX_NEXT_A XC_XP_SEQ.RX_NEXT_B) p =
      (s.rd (ab h XC_XP_SEQ.RX_NEXT_A XC_XP_SEQ.RX_NEXT_B) p + 1) % 4096 := by
  rw [State.deliver_unknown ((State.rd_accepted_entry (by simp) s p h _).trans hen)]
  exact ⟨State.rd_wr_fit (by decide), (State.rd_wr_other _ (ab_id_ne (by decide) (by decide)).symm).trans (s.rd_accepted_next p h)⟩

theorem State.accepted_deliver_slip (hen : s.rd XC_RXS.EN p (16 * h + f.stream) ≠ 0) (hdel : s.rd XC_RXS.DELIVER p (16 * h + f.stream) = 0)
    (hrun : f.stream ∉ (s.sub p h).stopped) (htally : f.tally ≠ (s.sub p h).expected f.stream % 65536) (hf : f.stream < 16) :
    ((s.accepted p h).deliver p h f).rd (ab h XC_XP_STATUS.SLIP_A XC_XP_STATUS.SLIP_B) p = 1 ∧
    ((s.accepted p h).deliver p h f).rd XC_XP_STATUS.SLIP_STREAM p = f.stream ∧
    (((s.accepted p h).deliver p h f).sub p h).stopped = (s.sub p h).stopped ++ [f.stream] := by
  have hentry := fun g hg => State.rd_accepted_entry (g := g) hg s p h (16 * h + f.stream)
  have hsub := s.sub_accepted p h
  generalize s.accepted p h = t at hentry hsub
  obtain ⟨arg, hslip⟩ := State.deliver_slip (s := t) (p := p) (h := h) (f := f) (by rwa [hentry _ (by simp)]) (by rwa [hentry _ (by simp)])
    (by rwa [hsub]) (by rwa [hsub])
  rw [hslip, State.rd_post, State.rd_post, State.sub_post, State.sub_slipped, hsub]
  exact ⟨t.rd_slipped_flag p h f, t.rd_slipped_stream p h hf, rfl⟩

theorem State.accepted_deliver_held (hen : s.rd XC_RXS.EN p (16 * h + f.stream) ≠ 0) (hdel : s.rd XC_RXS.DELIVER p (16 * h + f.stream) ≠ 0)
    (hfwd : s.rd XC_RXS.FWD p (16 * h + f.stream) = 0) (hlen : f.dlen = (s.rd XC_RXS.BITS p (16 * h + f.stream) + 255) / 256)
    (hrun : f.stream ∉ (s.sub p h).stopped) (htally : f.tally = (s.sub p h).expected f.stream % 65536) :
    (((s.accepted p h).deliver p h f).sub p h).held =
      (s.sub p h).held ++ [⟨f.seq, f.stream, (s.sub p h).expected f.stream, f.data, f.crc⟩] ∧
    (((s.accepted p h).deliver p h f).sub p h).expected f.stream = (s.sub p h).expected f.stream + 1 ∧
    (((s.accepted p h).deliver p h f).sub p h).ackDue = true := by
  have hentry := fun g hg => State.rd_accepted_entry (g := g) hg s p h (16 * h + f.stream)
  have hsub := s.sub_accepted p h
  generalize s.accepted p h = t at hentry hsub
  rw [State.deliver_held (s := t) (by rwa [hentry _ (by simp)]) (by rwa [hentry _ (by simp)]) (by rwa [hentry _ (by simp)])
    (by rwa [hentry _ (by simp)]) (by rwa [hsub]) (by rwa [hsub]), State.sub_setSub_same, hsub]
  exact ⟨rfl, XpSub.expected_of_set rfl, rfl⟩

end

/-! ### NAKs (R275) -/

theorem State.OwnRoles.badFrame (hs : s.OwnRoles p) (h : Nat) : (s.badFrame p h).OwnRoles p :=
  hs.of_reads (Reads.refl.wrHalf (by decide) (by decide) ..) (Reads.refl.wrHalf (by decide) (by decide) ..)

/-- The role notes its NAK and counts it. -/
def State.nakNoted (s : State) (p h : Nat) : State :=
  (s.setSub p h { s.sub p h with nakSent := some (s.rd (ab h XC_XP_SEQ.RX_NEXT_A XC_XP_SEQ.RX_NEXT_B) p) }).count
    (ab h XC_XP_RETRY.NAK_SENT_A XC_XP_RETRY.NAK_SENT_B) 1 p

theorem Reads.nakNoted (hk : Reads g s t) (hg : ∀ f ∈ XC_XP_RETRY.NAK_SENT_A :: XC_XP_RETRY.NAK_SENT_B :: slotFields, g.id ≠ f.id) (p h : Nat) :
    Reads g s (t.nakNoted p h) :=
  (hk.setSub (fun f hf => hg f (List.mem_cons_of_mem _ (List.mem_cons_of_mem _ hf))) ..).wrHalf (hg _ (by decide)) (hg _ (by decide)) ..

theorem State.sendNak_first (hs : s.OwnRoles p) (hnak : (s.sub p h).nakSent = none) :
    s.sendNak p h = (s.nakNoted p h).offerRows p h [nakBlock (s.rd (ab h XC_XP_SEQ.RX_NEXT_A XC_XP_SEQ.RX_NEXT_B) p)] := by
  have hnew : (s.sub p h).nakSent ≠ some (s.rd (ab h XC_XP_SEQ.RX_NEXT_A XC_XP_SEQ.RX_NEXT_B) p) := by simp [hnak]
  simp only [State.sendNak, hs.roleOf, if_neg hnew]
  rfl

/-- A bad frame counts, and the first one for the number expected is answered by a NAK in a row of its own. -/
theorem State.badFrame_sendNak (hs : s.OwnRoles p) (hnak : (s.sub p h).nakSent = none) (hw : w = (s.lanesOf p h).length) (h0 : w ≠ 0) :
    Emission.row (2 * p + h) (nakBlock (s.rd (ab h XC_XP_SEQ.RX_NEXT_A XC_XP_SEQ.RX_NEXT_B) p) :: List.replicate (w - 1) idleBlock) ∈
      ((s.badFrame p h).sendNak p h).sent ∧
    ((s.badFrame p h).sendNak p h).rd (ab h XC_XP_DROP.BAD_A XC_XP_DROP.BAD_B) p =
      min (s.rd (ab h XC_XP_DROP.BAD_A XC_XP_DROP.BAD_B) p + 1) (2 ^ 16 - 1) := by
  have hnext : (s.badFrame p h).rd (ab h XC_XP_SEQ.RX_NEXT_A XC_XP_SEQ.RX_NEXT_B) p = s.rd (ab h XC_XP_SEQ.RX_NEXT_A XC_XP_SEQ.RX_NEXT_B) p :=
    State.rd_count_other (ab_ab_id_ne (by decide) h h)
  have hsplit : Reads XC_PORT_CTRL.SPLIT s (s.badFrame p h) := Reads.refl.wrHalf (by decide) (by decide) ..
  rw [State.sendNak_first (hs.badFrame h) hnak, hnext]
  refine ⟨State.row_mem_sent_offerRows ?_ h0 _, ?_⟩
  · rw [State.lanesOf_of_reads (hsplit.nakNoted (by decide) p h), hw]
  · rw [((Reads.refl.nakNoted (ab_off (by decide) (by decide)) p h).offerRows ..).rd, State.badFrame,
      State.rd_count_half (by decide) (by decide)]

/-! ### ACK, NAK and the timers (R272, R275) -/

section
variable (hp : p < 16) (hq : q < 8) {b : XBlock}
include hp hq

theorem exec_ack_eq (hh : s.halfOf p q = h) (hctl : s.control p q b = (s, some 0x11)) : exec (.ack ⟨p, q⟩ b) s = .next (
    if s.hearsLink p h = true then s.acked p h (b.bits / 2 ^ 9 % 2 ^ 12) else s) := by
  refine (need_pos (decide_eq_true ⟨hp, hq⟩) _).trans (congrArg _ ?_)
  simp only [hctl, hh, true_and, bitsOf_eq]

theorem exec_nak_eq (hh : s.halfOf p q = h) (hctl : s.control p q b = (s, some 0x12)) : exec (.nak ⟨p, q⟩ b) s = .next (
    if s.hearsLink p h = true then s.resendFrom p h (b.bits / 2 ^ 9 % 2 ^ 12) else s) := by
  refine (need_pos (decide_eq_true ⟨hp, hq⟩) _).trans (congrArg _ ?_)
  simp only [hctl, hh, true_and, bitsOf_eq]

end

/-- An acknowledgement frees the frame that it names and those before it (DEDUCED, log entry 12). -/
theorem State.acked_unstaged (hs : s.OwnRoles p) (hst : (s.sub p h).staging = []) (n : Nat) :
    ((s.acked p h n).sub p h).slots = (s.sub p h).slots.filter (fun f => !seqOld ((n + 1) % 4096) f.seq) ∧ (s.acked p h n).sent = s.sent := by
  obtain ⟨hslots, hsent, -⟩ := State.freeBelow_unstaged hst ((n + 1) % 4096)
  rw [State.acked, hs.roleOf]
  exact ⟨hslots, hsent⟩

/-- The numbers of a sub-port's port and half. -/
theorem sub_div_mod (p : Nat) (hh : h < 2) : (2 * p + h) / 2 = p ∧ (2 * p + h) % 2 = h := by omega

section
variable (hp : p < 16) (hh : h < 2)
include hp hh

theorem exec_ackTimer_eq (hs : s.OwnRoles p) : exec (.ackTimer (2 * p + h)) s = .next (
    if ((s.sub p h).ackDue && s.gated p h && s.synced p h) = true then
      (s.setSub p h { s.sub p h with ackDue := false }).offerRows p h
        [ackBlock ((s.rd (ab h XC_XP_SEQ.RX_NEXT_A XC_XP_SEQ.RX_NEXT_B) p + 4095) % 4096)]
    else s) := by
  obtain ⟨hport, hhalf⟩ := sub_div_mod p hh
  refine (need_pos (decide_eq_true (by omega)) _).trans (congrArg _ ?_)
  simp only [hport, hhalf, hs.roleOf]
  rfl

theorem exec_resendTimeout_off (hoff : (!s.gated p h || !s.synced p h) = true) (nak : Bool) :
    exec (.resendTimeout ⟨2 * p + h, nak⟩) s = .next s := by
  obtain ⟨hport, hhalf⟩ := sub_div_mod p hh
  refine (need_pos (decide_eq_true (show 2 * p + h < 32 by omega)) _).trans (congrArg _ ?_)
  simp only [hport, hhalf]
  exact if_pos hoff

theorem exec_resendTimeout_nak (hs : s.OwnRoles p) (hgate : s.gated p h = true) (hsync : s.synced p h = true) :
    exec (.resendTimeout ⟨2 * p + h, true⟩) s = .next (s.setSub p h { s.sub p h with nakSent := none }) := by
  obtain ⟨hport, hhalf⟩ := sub_div_mod p hh
  refine (need_pos (decide_eq_true (show 2 * p + h < 32 by omega)) _).trans (congrArg _ ?_)
  simp [hport, hhalf, hs.roleOf, hgate, hsync]

theorem exec_resendTimeout_oldest (hs : s.OwnRoles p) (hgate : s.gated p h = true) (hsync : s.synced p h = true) {f : XSlot} {l : List XSlot}
    (hslots : (s.sub p h).slots = f :: l) : exec (.resendTimeout ⟨2 * p + h, false⟩) s = .next (s.resendFrom p h f.seq) := by
  obtain ⟨hport, hhalf⟩ := sub_div_mod p hh
  refine (need_pos (decide_eq_true (show 2 * p + h < 32 by omega)) _).trans (congrArg _ ?_)
  simp [hport, hhalf, hs.roleOf, hgate, hsync, hslots]

theorem exec_syncTimer_eq (s : State) : exec (.syncTimer (2 * p + h)) s = .next (
    if (s.linkUp p h && (if s.gated p h then !s.synced p h else !(s.sub p h).heard)) = true then s.sendSync p h else s) := by
  obtain ⟨hport, hhalf⟩ := sub_div_mod p hh
  refine (need_pos (decide_eq_true (by omega)) _).trans (congrArg _ ?_)
  simp only [hport, hhalf]

end

/-! ### SYNC (R272, R280) -/

/-- What becomes of a SYNC that its lane hands on, at a gated half that stands in for no other. -/
theorem exec_sync_own (hp : p < 16) (hq : q < 8) (hs : s.OwnRoles p) {c y k v e : Nat} {b : XBlock} (hb : b = XBlock.ofParts c y k v e)
    (hh : s.halfOf p q = h) (hctl : s.control p q b = (s, some 0x13)) (hup : s.linkUp p h = true) (hmove : b.bits / 2 ^ 28 % 2 = 0)
    (hgate : s.gated p h = true) : exec (.sync p q c y k v e) s = .next (s.onSync p h b.bits) := by
  have hmove : bitAt b.bits 28 = false := Bool.eq_false_iff.2 (mt (bitAt_iff _ 28).1 (by omega))
  refine (need_pos (decide_eq_true ⟨hp, hq⟩) _).trans (congrArg _ ?_)
  simp only [← hb, hctl, hh, hup, hmove, hgate, hs.stoodIn, ne_eq, not_true_eq_false, Bool.not_true, Bool.false_eq_true, or_self, if_false,
    Bool.false_and, if_true]

/-- A SYNC that moves a role where no stand-in is set up. -/
theorem exec_sync_noAlt (hp : p < 16) (hq : q < 8) (hs : s.OwnRoles p) {c y k v e : Nat} {b : XBlock} (hb : b = XBlock.ofParts c y k v e)
    (hh : s.halfOf p q = h) (hctl : s.control p q b = (s, some 0x13)) (hup : s.linkUp p h = true) (hmove : b.bits / 2 ^ 28 % 2 = 1)
    (halt : s.rd (ab h XC_XP_CTRL.ALT_B XC_XP_CTRL.ALT_A) p = 0) :
    exec (.sync p q c y k v e) s = .next (s.wr XC_XP_STATUS.FAILOVER_ERR 1 p) := by
  have hmove : bitAt b.bits 28 = true := (bitAt_iff _ 28).2 hmove
  refine (need_pos (decide_eq_true ⟨hp, hq⟩) _).trans (congrArg _ ?_)
  simp only [← hb, hctl, hh, hup, hmove, hs.stoodIn, State.on_eq_false halt, ne_eq, not_true_eq_false, Bool.not_true, Bool.not_false,
    Bool.false_eq_true, or_self, if_false, Bool.and_self, Bool.false_and, if_true]

theorem State.onSync_stale (hs : s.OwnRoles p) {b : Nat} (hrcnt : b / 2 ^ 29 % 2 ^ 8 ≠ (s.sub p h).rcnt) : s.onSync p h b = s := by
  rw [← bitsOf_eq] at hrcnt
  rw [State.onSync, hs.roleOf]
  exact if_pos hrcnt

/-- A SYNC of this reset count with other settings. -/
theorem State.onSync_differs (hs : s.OwnRoles p) {b : Nat} (hrcnt : b / 2 ^ 29 % 2 ^ 8 = (s.sub p h).rcnt)
    (hset : b / 2 ^ 27 % 2 = 0 ∨ b / 2 ^ 21 % 2 ≠ s.rd (ab h XC_XP_CTRL.MODE_A XC_XP_CTRL.MODE_B) p ∨
      b / 2 ^ 22 % 2 ^ 5 ≠ s.rd (ab h XC_XP_CTRL.LAT_A XC_XP_CTRL.LAT_B) p) :
    s.onSync p h b = s.wr (ab h XC_XP_STATUS.SYNC_ERR_A XC_XP_STATUS.SYNC_ERR_B) 1 p := by
  have hgate : b / 2 ^ 27 % 2 = 0 → bitAt b 27 = false := fun h => Bool.eq_false_iff.2 (mt (bitAt_iff b 27).1 (by omega))
  have hdiff : (!bitAt b 27 || decide (bitsOf b 21 1 ≠ s.rd (ab h XC_XP_CTRL.MODE_A XC_XP_CTRL.MODE_B) p) ||
      decide (bitsOf b 22 5 ≠ s.rd (ab h XC_XP_CTRL.LAT_A XC_XP_CTRL.LAT_B) p)) = true := by
    rw [bitsOf_eq, bitsOf_eq]
    simp only [Bool.or_eq_true, Bool.not_eq_true', decide_eq_true_eq]
    rcases hset with h | h | h
    · exact .inl (.inl (hgate h))
    · exact .inl (.inr h)
    · exact .inr h
  rw [← bitsOf_eq] at hrcnt
  simp only [State.onSync, hs.roleOf, if_neg (not_not.2 hrcnt)]
  exact if_pos hdiff

/-- A SYNC of this reset count with the half's settings: what has arrived is freed, and the rest is sent again. -/
theorem State.onSync_matches (hs : s.OwnRoles p) {b : Nat} (hrcnt : b / 2 ^ 29 % 2 ^ 8 = (s.sub p h).rcnt) (hgate : b / 2 ^ 27 % 2 = 1)
    (hmode : b / 2 ^ 21 % 2 = s.rd (ab h XC_XP_CTRL.MODE_A XC_XP_CTRL.MODE_B) p)
    (hlat : b / 2 ^ 22 % 2 ^ 5 = s.rd (ab h XC_XP_CTRL.LAT_A XC_XP_CTRL.LAT_B) p) :
    s.onSync p h b = ((s.wr (ab h XC_XP_STATUS.SYNCED_A XC_XP_STATUS.SYNCED_B) 1 p).freeBelow p h (b / 2 ^ 9 % 2 ^ 12)).resendFrom p h
      (b / 2 ^ 9 % 2 ^ 12) := by
  have hmode : bitsOf b 21 1 = s.rd (ab h XC_XP_CTRL.MODE_A XC_XP_CTRL.MODE_B) p := (bitsOf_eq b 21 1).trans hmode
  have hlat : bitsOf b 22 5 = s.rd (ab h XC_XP_CTRL.LAT_A XC_XP_CTRL.LAT_B) p := (bitsOf_eq b 22 5).trans hlat
  have hsame : (!bitAt b 27 || decide (bitsOf b 21 1 ≠ s.rd (ab h XC_XP_CTRL.MODE_A XC_XP_CTRL.MODE_B) p) ||
      decide (bitsOf b 22 5 ≠ s.rd (ab h XC_XP_CTRL.LAT_A XC_XP_CTRL.LAT_B) p)) = false := by
    simp [(bitAt_iff b 27).2 hgate, hmode, hlat]
  rw [← bitsOf_eq] at hrcnt
  simp only [State.onSync, hs.roleOf, if_neg (not_not.2 hrcnt), hsame, Bool.false_eq_true, if_false, bitsOf_eq b 9 12]

/-- With no frame in a slot or waiting, a matching SYNC synchronises the half and sends nothing. -/
theorem State.onSync_matches_empty (hs : s.OwnRoles p) {b : Nat} (hrcnt : b / 2 ^ 29 % 2 ^ 8 = (s.sub p h).rcnt)
    (hgate : b / 2 ^ 27 % 2 = 1) (hmode : b / 2 ^ 21 % 2 = s.rd (ab h XC_XP_CTRL.MODE_A XC_XP_CTRL.MODE_B) p)
    (hlat : b / 2 ^ 22 % 2 ^ 5 = s.rd (ab h XC_XP_CTRL.LAT_A XC_XP_CTRL.LAT_B) p) (hslots : (s.sub p h).slots = [])
    (hst : (s.sub p h).staging = []) :
    (s.onSync p h b).rd (ab h XC_XP_STATUS.SYNCED_A XC_XP_STATUS.SYNCED_B) p = 1 ∧ (s.onSync p h b).sent = s.sent := by
  have hsynced := State.rd_wr_half_one (a := XC_XP_STATUS.SYNCED_A) (b := XC_XP_STATUS.SYNCED_B) (by decide) (by decide) s h p
  have hroles : (s.wr (ab h XC_XP_STATUS.SYNCED_A XC_XP_STATUS.SYNCED_B) 1 p).OwnRoles p :=
    hs.of_reads (Reads.refl.wrHalf (by decide) (by decide) ..) (Reads.refl.wrHalf (by decide) (by decide) ..)
  rw [State.onSync_matches hs hrcnt hgate hmode hlat]
  generalize b / 2 ^ 9 % 2 ^ 12 = next
  obtain ⟨hfreed, hsent, hkept⟩ := State.freeBelow_unstaged (s := s.wr (ab h XC_XP_STATUS.SYNCED_A XC_XP_STATUS.SYNCED_B) 1 p) (r := h) hst next
  rw [State.sub_wr, hslots, List.filter_nil] at hfreed
  rw [State.resendFrom_none (hroles.of_reads (hkept _ (by decide)) (hkept _ (by decide))) hfreed]
  exact ⟨((hkept _ (ab_off (by decide) (by decide))).rd p 0).trans hsynced, hsent⟩

/-- A SYNC goes out at the start of a row, and says that no role moves. -/
theorem State.sendSync_own (hs : s.OwnRoles p) (h : Nat) : s.sendSync p h = s.offerRows p h
    [syncBlock (s.rd (ab h XC_XP_SEQ.RX_NEXT_A XC_XP_SEQ.RX_NEXT_B) p) (s.rd (ab h XC_XP_CTRL.MODE_A XC_XP_CTRL.MODE_B) p)
      (s.rd (ab h XC_XP_CTRL.LAT_A XC_XP_CTRL.LAT_B) p) (s.gated p h) false (s.sub p h).rcnt] := by
  rw [State.sendSync, hs.roleOf, hs.stoodIn]

/-! ### The obligation -/

/-- Settles O31: each command is one equation in its case. The half carries its own role, a block that goes out changes neither registers nor
transport state, and frames sent again are counted one by one. -/
theorem cutNetFrames : Obligations.CutNetFrames := by
  intro s p h w hp hh hw h0 hova hovb
  have hs : s.OwnRoles p := ⟨hova, hovb⟩
  refine ⟨fun hd dt hup => exec_strokeFrame_down hp hh hup hd dt, fun hd dt q f hq hf hup => ⟨fun hr he hb hc hgate hsync => ?badHeader,
      fun hr he hb hc hcode => ?header⟩,
    fun q b hq hhalf hr he hb hc hcode => ?ack, fun q b hq hhalf hr he hb hc hcode => ?nak, fun f r hgate hsync hslots hnew => ?resend,
    fun hgate hsync => ?nakAgain, fun hgate hsync hdue => ?ackTimer, fun hoff => ?timersOff,
    fun q c y k v e b hbits hq hhalf hr he hb hc hcode hup => ?sync, fun hup hwait => ?syncTimer, fun hidle => ?syncDone⟩
  case badHeader =>
    subst hq
    refine ⟨_, exec_strokeFrame_badHeader hp hh hup hs hgate hsync hr he hb hc dt, ?_, ?_, rfl⟩
    · rw [State.badFrame, State.rd_count_other (ab_id_ne (by decide) (by decide)), State.rd_count_one]
      rfl
    · rw [State.badFrame, State.rd_count_half (by decide) (by decide), State.rd_count_other (ab_id_ne (by decide) (by decide)).symm]
  case header =>
    subst hq
    have hctl := State.control_code hr he hb hc hcode (by decide)
    have hexec := exec_strokeFrame_header hp hh hup hs hctl hf
    have hlt : f.seq < 4096 := hf ▸ XFrame.ofBlocks_seq_lt ..
    have hstream : f.stream < 16 := hf ▸ XFrame.ofBlocks_stream_lt ..
    refine ⟨fun hgate => ?ungated, fun hgate hsync => ?unsynced, fun hgate hsync hbad => ?errored, fun hgate hsync hclean hlen hack => ?good⟩
    case ungated =>
      rw [if_pos hgate] at hexec
      exact ⟨_, hexec, State.rd_wr_fit (by decide), State.regsKeptBut.refl.wr (by simp), rfl⟩
    case unsynced => rw [hexec, if_neg (by simp [hgate]), if_pos hsync]
    case errored =>
      rw [if_neg (by simp [hgate]), if_neg (by simp [hsync]), if_pos hbad] at hexec
      exact ⟨_, hexec, State.rd_count_half (by decide) (by decide) s h p, rfl⟩
    case good =>
      rw [if_neg (by simp [hgate]), if_neg (by simp [hsync]), if_neg (by simp [hclean]; omega)] at hexec
      refine ⟨fun hold => ?old, fun hnew hbad hnak => ?bad, fun n hn hseq hcrc hdlen => ?expected⟩
      case old =>
        rw [State.takeFrame_old hs hack h hold] at hexec
        refine ⟨_, hexec, ?_, State.sub_setSub_same .., rfl⟩
        rw [State.rd_count_half (by decide) (by decide), (Reads.refl.setSub (ab_off (by decide) (by decide)) ..).rd]
      case bad =>
        rw [State.takeFrame_bad hs hack h hnew hbad] at hexec
        exact ⟨_, hexec, State.badFrame_sendNak hs hnak hw h0⟩
      case expected =>
        subst hn
        rw [State.takeFrame_expected hs hack h hlt hseq hcrc hdlen] at hexec
        refine ⟨fun hen => ⟨_, hexec, hseq ▸ State.accepted_deliver_unknown hen⟩,
          fun hen hdel hrun htally => ⟨_, hexec, State.accepted_deliver_slip hen hdel hrun htally hstream⟩,
          fun hen hdel hfwd hbits hrun htally => ⟨_, hexec, State.accepted_deliver_held hen hdel hfwd hbits hrun htally⟩⟩
  case ack =>
    have hexec := exec_ack_eq hp hq hhalf (State.control_code hr he hb hc hcode (by decide))
    refine ⟨fun hhears hst => ⟨_, hexec.trans (congrArg _ (if_pos hhears)), State.acked_unstaged hs hst _⟩, fun hhears => ?_⟩
    rw [hexec, if_neg (by simp [hhears])]
  case nak =>
    have hexec := exec_nak_eq hp hq hhalf (State.control_code hr he hb hc hcode (by decide))
    refine ⟨fun f g r hhears hslots hnext hnew => ?_, fun hhears => ?_⟩
    · rw [if_pos hhears, hnext] at hexec
      obtain ⟨hcount, hkept, -⟩ := State.resendFrom_all hs hslots hnew
      exact ⟨_, hexec, hcount, hkept⟩
    · rw [hexec, if_neg (by simp [hhears])]
  case resend =>
    exact ⟨_, exec_resendTimeout_oldest hp hh hs hgate hsync hslots, State.resendFrom_all hs hslots hnew⟩
  case nakAgain => exact ⟨_, exec_resendTimeout_nak hp hh hs hgate hsync, State.sub_setSub_same .., rfl⟩
  case ackTimer =>
    refine ⟨_, (exec_ackTimer_eq hp hh hs).trans (congrArg _ (if_pos (by simp [hgate, hsync, hdue]))), ?_, ?_⟩
    · exact State.row_mem_sent_offerRows (hw.trans (congrArg _ (State.lanesOf_of_reads (Reads.refl.setSub (by decide) ..) p h).symm)) h0 _
    · rw [State.sub_offerRows, State.sub_setSub_same]
  case timersOff =>
    have hno : (!s.gated p h || !s.synced p h) = true := by
      rcases hoff with h | h <;> simp [h]
    have hnoAck : ¬((s.sub p h).ackDue && s.gated p h && s.synced p h) = true := by
      rcases hoff with h | h <;> simp [h]
    exact ⟨(exec_ackTimer_eq hp hh hs).trans (congrArg _ (if_neg hnoAck)), exec_resendTimeout_off hp hh hno false,
      exec_resendTimeout_off hp hh hno true⟩
  case sync =>
    have hctl := State.control_code hr he hb hc hcode (by decide)
    refine ⟨fun hmove hgate hrcnt => ?stale, fun hmove hgate hrcnt hset => ?differs, fun hmove hgate hrcnt hpeer hmode hlat hslots hst => ?agrees,
      fun hmove halt => ?noAlt⟩
    case stale => rw [exec_sync_own hp hq hs hbits hhalf hctl hup hmove hgate, State.onSync_stale hs hrcnt]
    case differs =>
      rw [exec_sync_own hp hq hs hbits hhalf hctl hup hmove hgate, State.onSync_differs hs hrcnt hset]
      exact ⟨_, rfl, State.rd_wr_half_one (by decide) (by decide) s h p, State.regsKeptBut.refl.wr (by simp), rfl⟩
    case agrees =>
      exact ⟨_, exec_sync_own hp hq hs hbits hhalf hctl hup hmove hgate, State.onSync_matches_empty hs hrcnt hpeer hmode hlat hslots hst⟩
    case noAlt =>
      exact ⟨_, exec_sync_noAlt hp hq hs hbits hhalf hctl hup hmove halt, State.rd_wr_fit (by decide), State.regsKeptBut.refl.wr (by simp), rfl⟩
  case syncTimer =>
    have hgo : (s.linkUp p h && (if s.gated p h then !s.synced p h else !(s.sub p h).heard)) = true := by
      cases hgate : s.gated p h <;> simpa [hgate, hup] using hwait
    have hexec := (exec_syncTimer_eq hp hh s).trans (congrArg _ (if_pos hgo))
    rw [State.sendSync_own hs] at hexec
    exact ⟨_, hexec, State.row_mem_sent_offerRows hw h0 _, s.offerRows_regs p h _⟩
  case syncDone =>
    rw [exec_syncTimer_eq hp hh, if_neg]
    rcases hidle with h | ⟨hgate, hsync⟩ | ⟨hgate, hheard⟩
    · simp [h]
    · simp [hgate, hsync]
    · simp [hgate, hheard]

end Sys2Proof.Machine
end

section
/-! PROOF. What every step keeps, and what each command reaches (O1, O4, O5, O7, O8), read off what a command may do to the state as a whole
(`exec_moves`) and, on an empty queue, what a block time may do (`State.idleTime_moves`). -/

namespace Sys2Proof.Machine

/-- On an empty queue a step is a block time. -/
theorem step_of_pending_nil {s : State} (h : s.pending = []) : step s = .next s.idleTime := by
  rw [step, h]

/-- With a command at the front of the queue a step is the command on the queue's rest. -/
theorem step_of_pending_cons {s : State} {c : Instr} {rest : List Instr} (h : s.pending = c :: rest) :
    step s = exec c { s with pending := rest } := by
  rw [step, h]

/-- Settles O1. -/
theorem stepRunsFront : Obligations.StepRunsFront := fun _ _ => step_of_pending_cons rfl

/-- The widest footprint. -/
def Foot.all : Foot := ⟨true, true, true, true, true, 15766897962275728⟩

/-- What a step may do to the state, past the command that it takes from the queue. -/
theorem step_moves {s t : State} (e : step s = .next t) : ∃ F, Moves F { s with pending := s.pending.tail } t := by
  cases h : s.pending with
  | nil =>
    rw [step_of_pending_nil h] at e
    obtain rfl := Host.Outcome.next.inj e
    have hs : { s with pending := ([] : List Instr) } = s := by rw [← h]
    exact ⟨Foot.all, State.idleTime_moves rfl rfl rfl (fun _ => id) (by rw [List.tail_nil, hs]; exact Moves.refl)⟩
  | cons c rest =>
    rw [step_of_pending_cons h] at e
    exact ⟨footOf c, exec_moves e⟩

/-- The canonical form is what each footprint keeps of the tables. -/
theorem State.canonical_iff (s : State) : s.canonical = true ↔
    Tab.rising Key.lt s.regs = true ∧ Memory.wf s.mem = true ∧ s.unitsWf = true ∧ s.framesWf = true ∧
      Tab.wf natLt Stope.cold s.stopes = true := by
  simp only [State.canonical, Bool.and_eq_true, and_assoc]

theorem Moves.canonical {F : Foot} {s t : State} (h : Moves F s t) (hs : s.canonical = true) : t.canonical = true := by
  obtain ⟨hregs, hmem, hunits, hframes, hstopes⟩ := s.canonical_iff.1 hs
  exact t.canonical_iff.2 ⟨h.regsOk hregs, h.memOk hmem, h.unitsOk hunits, h.framesOk hframes, h.stopesOk hstopes⟩

/-- Settles O4: the canonical form does not read the queue, and every footprint keeps it. -/
theorem stepKeepsCanonical : Obligations.StepKeepsCanonical := by
  intro s t hs e
  obtain ⟨F, h⟩ := step_moves e
  exact h.canonical hs

/-- Settles O5: no footprint names the queue, the record of what went out, or the count of free values. -/
theorem stepTakesOneCommand : Obligations.StepTakesOneCommand := by
  intro s t e
  obtain ⟨F, h⟩ := step_moves e
  exact ⟨h.pending, h.sent, h.free⟩

/-- Settles O7: the memories that a command's footprint does not name are as before. -/
theorem onlyTheirClassesChangeStores : Obligations.OnlyTheirClassesChangeStores := by
  intro c s t e
  have h := exec_moves e
  exact ⟨h.mem, h.fabMem, h.frames, h.flash, h.keys⟩

/-- Settles O8: the parts of a command's footprint are those that `reach` lists. -/
theorem commandsReachOnly : Obligations.CommandsReachOnly :=
  fun _ _ _ p e hp => (exec_moves e).parts p (partsMask_not hp)

end Sys2Proof.Machine
end

section
/-! PROOF. The Shift clock: the running count, corrected time and epochs, for the proofs below (19 R491 to R494). -/

namespace Sys2Proof.Machine

variable {s t : State} {ks : List Key} {g : Fld} {u j : Nat}

/-! ### The count -/

theorem State.tick_running (h : s.clk.stage = .running) (ticks : Nat) : s.tick ticks = s.countWrap SC_COUNT.COUNT ticks := if_pos h

theorem State.tick_regsOnly (s : State) (ticks : Nat) : RegsOnly s (s.tick ticks) := by
  unfold State.tick
  split <;> rfl

theorem State.regsKeptBut.tick {ticks : Nat} (hk : SC_COUNT.COUNT.key ∈ ks) (h : s.regsKeptBut t ks) : s.regsKeptBut (t.tick ticks) ks := by
  unfold State.tick
  split
  · exact h.countWrap hk
  · exact h

theorem State.rd_tick_other {ticks : Nat} (h : g.id ≠ SC_COUNT.COUNT.id) : (s.tick ticks).rd g u j = s.rd g u j := by
  unfold State.tick
  split
  · exact State.rd_countWrap_other h
  · rfl

theorem State.rd_tick_count (h : s.clk.stage = .running) (ticks : Nat) :
    (s.tick ticks).rd SC_COUNT.COUNT = (s.rd SC_COUNT.COUNT + ticks) % 2 ^ 64 := by
  rw [State.tick_running h, State.rd_countWrap_same]
  rfl

@[simp] theorem State.tick_shift (s : State) (ticks : Nat) : (s.tick ticks).shift = s.shift := (s.tick_regsOnly ticks).keeps State.shift

@[simp] theorem State.tick_sent (s : State) (ticks : Nat) : (s.tick ticks).sent = s.sent := (s.tick_regsOnly ticks).keeps State.sent

@[simp] theorem State.tick_events (s : State) (ticks : Nat) : (s.tick ticks).events = s.events := (s.tick_regsOnly ticks).keeps State.events

@[simp] theorem State.tick_clk (s : State) (ticks : Nat) : (s.tick ticks).clk = s.clk := (s.tick_regsOnly ticks).keeps State.clk

/-! ### Corrected time (R492) -/

/-- Corrected time reads the epoch and the increment alone. -/
theorem State.timeAt_congr (hc : t.rd SC_EPOCH_COUNT.EPOCH_COUNT = s.rd SC_EPOCH_COUNT.EPOCH_COUNT)
    (ht : t.rd SC_EPOCH_TIME.EPOCH_TIME = s.rd SC_EPOCH_TIME.EPOCH_TIME) (hf : t.shift.epochFrac = s.shift.epochFrac)
    (hi : t.rd SC_INC.INC = s.rd SC_INC.INC) (c : Nat) : t.timeAt c = s.timeAt c := by
  simp only [State.timeAt, hc, ht, hf, hi]

theorem State.timeAt_tick (s : State) (ticks c : Nat) : (s.tick ticks).timeAt c = s.timeAt c :=
  State.timeAt_congr (State.rd_tick_other (by decide)) (State.rd_tick_other (by decide)) (by rw [State.tick_shift])
    (State.rd_tick_other (by decide)) c

/-- Corrected time as the statements spell it. -/
theorem State.timeAt_of_eq {c x : Nat} (h : (x : Int) = (((s.rd SC_EPOCH_TIME.EPOCH_TIME * 2 ^ 48 + s.shift.epochFrac : Nat) : Int) +
      ((c : Int) - s.rd SC_EPOCH_COUNT.EPOCH_COUNT) * s.rd SC_INC.INC).emod (2 ^ 112)) : s.timeAt c = x := by
  rw [State.timeAt, ← h, Int.toNat_natCast]

theorem State.timeAt_lt (s : State) (c : Nat) : s.timeAt c < 2 ^ 112 := by
  have hlt := Int.emod_lt_of_pos (((s.rd SC_EPOCH_TIME.EPOCH_TIME * 2 ^ 48 + s.shift.epochFrac : Nat) : Int) +
    ((c : Int) - s.rd SC_EPOCH_COUNT.EPOCH_COUNT) * s.rd SC_INC.INC) (show (0 : Int) < 2 ^ 112 by decide)
  exact (Int.toNat_lt' (by decide)).2 hlt

/-- From an epoch at count `c` and time `x` on, time rises by the increment with each edge. -/
theorem State.timeAt_from_epoch {c x v : Nat} (hc : t.rd SC_EPOCH_COUNT.EPOCH_COUNT = c)
    (hx : t.rd SC_EPOCH_TIME.EPOCH_TIME * 2 ^ 48 + t.shift.epochFrac = x) (hi : t.rd SC_INC.INC = v) (n : Nat) :
    t.timeAt (c + n) = (x + n * v) % 2 ^ 112 := by
  have hsum : ((x : Int) + (((c + n : Nat) : Int) - c) * v).emod (2 ^ 112) = (((x + n * v) % 2 ^ 112 : Nat) : Int) := by
    push_cast
    rw [add_sub_cancel_left]
    rfl
  rw [State.timeAt, hx, hc, hi, hsum, Int.toNat_natCast]

/-! ### At the edge that a command reaches -/

/-- The command's edge: the Shift clock runs, `c` is the edge's count and `x` corrected time at it. -/
structure State.AtEdge (s : State) (ticks c x : Nat) : Prop where
  count : (s.tick ticks).rd SC_COUNT.COUNT = c
  now : (s.tick ticks).timeNow = x

theorem State.AtEdge.of_eq {ticks c x : Nat} (hrun : s.clk.stage = .running) (hc : c = (s.rd SC_COUNT.COUNT + ticks) % 2 ^ 64)
    (hx : (x : Int) = (((s.rd SC_EPOCH_TIME.EPOCH_TIME * 2 ^ 48 + s.shift.epochFrac : Nat) : Int) +
      ((c : Int) - s.rd SC_EPOCH_COUNT.EPOCH_COUNT) * s.rd SC_INC.INC).emod (2 ^ 112)) : s.AtEdge ticks c x := by
  have hcount := (State.rd_tick_count hrun ticks).trans hc.symm
  exact ⟨hcount, by rw [State.timeNow, hcount, State.timeAt_tick, State.timeAt_of_eq hx]⟩

theorem State.AtEdge.lt {ticks c x : Nat} (h : s.AtEdge ticks c x) : x < 2 ^ 112 := h.now ▸ State.timeAt_lt ..

theorem State.AtEdge.nowNs {ticks c x : Nat} (h : s.AtEdge ticks c x) : (s.tick ticks).nowNs = x / 2 ^ 48 := by rw [State.nowNs, h.now]

theorem State.AtEdge.count_lt {ticks c : Nat} (hc : c = (s.rd SC_COUNT.COUNT + ticks) % 2 ^ 64) : c < 2 ^ 64 :=
  hc ▸ Nat.mod_lt _ (by decide)

/-! ### Epochs (R493, R494) -/

/-- The fields of an epoch. -/
def epochKeys : List Key := [SC_EPOCH_COUNT.EPOCH_COUNT.key, SC_EPOCH_TIME.EPOCH_TIME.key]

theorem State.rd_epoch_other {x : Nat} (h1 : g.id ≠ SC_EPOCH_COUNT.EPOCH_COUNT.id) (h2 : g.id ≠ SC_EPOCH_TIME.EPOCH_TIME.id) :
    (s.epoch x).rd g u j = s.rd g u j :=
  (State.rd_sh ..).trans ((State.rd_wr_other _ h2).trans (State.rd_wr_other _ h1))

theorem State.rd_epoch_count (s : State) (x : Nat) : (s.epoch x).rd SC_EPOCH_COUNT.EPOCH_COUNT = s.rd SC_COUNT.COUNT % 2 ^ 64 := by
  rw [State.epoch, State.rd_sh, State.rd_wr_other _ (by decide), State.rd_wr_same]
  rfl

theorem State.rd_epoch_time (s : State) {x : Nat} (h : x < 2 ^ 112) : (s.epoch x).rd SC_EPOCH_TIME.EPOCH_TIME = x / 2 ^ 48 := by
  rw [State.epoch, State.rd_sh]
  exact State.rd_wr_fit (f := SC_EPOCH_TIME.EPOCH_TIME) (Nat.div_lt_of_lt_mul h)

theorem State.epoch_shift_frac (s : State) (x : Nat) : (s.epoch x).shift.epochFrac = x % 2 ^ 48 := rfl

theorem State.regsKeptBut.epoch {x : Nat} (h1 : SC_EPOCH_COUNT.EPOCH_COUNT.key ∈ ks) (h2 : SC_EPOCH_TIME.EPOCH_TIME.key ∈ ks)
    (h : s.regsKeptBut t ks) : s.regsKeptBut (t.epoch x) ks := ((h.wr h1).wr h2).hidden rfl

/-- A step of time puts one event into the Foreman's log. -/
theorem State.stepTime_events (s : State) (v : Nat) : ∃ ev, (s.stepTime v).events = s.events ++ [ev] := by
  have hpost (x arg : Nat) (tr : Trace) : ∃ ev, (({ (s.epoch x).wr SC_STATUS.STEPPED 1 with trace := tr } : State).post 10 0x00A0 1 arg).events
      = s.events ++ [ev] := ⟨_, rfl⟩
  exact hpost _ _ _

/-- What a step of time changes outside the registers: the epoch, the SYNC that the trace owes, the Foreman's log. -/
theorem State.stepTime_rest (s : State) (v : Nat) :
    { s.stepTime v with regs := s.regs, shift := s.shift, trace := s.trace, events := s.events } = s := by
  have hrest (x arg : Nat) (tr : Trace) : { ({ (s.epoch x).wr SC_STATUS.STEPPED 1 with trace := tr } : State).post 10 0x00A0 1 arg with
      regs := s.regs, shift := s.shift, trace := s.trace, events := s.events } = s := rfl
  exact hrest _ _ _

theorem State.stepTime_regs (s : State) (v : Nat) : (s.stepTime v).regs = ((s.epoch (v % 2 ^ 64 * 2 ^ 48)).wr SC_STATUS.STEPPED 1).regs := rfl

theorem State.rd_stepTime_other {v : Nat} (h1 : g.id ≠ SC_EPOCH_COUNT.EPOCH_COUNT.id) (h2 : g.id ≠ SC_EPOCH_TIME.EPOCH_TIME.id)
    (h3 : g.id ≠ SC_STATUS.STEPPED.id) : (s.stepTime v).rd g u j = s.rd g u j :=
  (State.rd_of_regs (s.stepTime_regs v) ..).trans ((State.rd_wr_other _ h3).trans (State.rd_epoch_other h1 h2))

theorem State.rd_stepTime_stepped (s : State) (v : Nat) : (s.stepTime v).rd SC_STATUS.STEPPED = 1 :=
  (State.rd_of_regs (s.stepTime_regs v) ..).trans (State.rd_wr_fit (by decide))

theorem State.rd_stepTime_count (s : State) (v : Nat) : (s.stepTime v).rd SC_EPOCH_COUNT.EPOCH_COUNT = s.rd SC_COUNT.COUNT % 2 ^ 64 :=
  (State.rd_of_regs (s.stepTime_regs v) ..).trans ((State.rd_wr_other _ (by decide)).trans (State.rd_epoch_count ..))

theorem State.rd_stepTime_time (s : State) (v : Nat) : (s.stepTime v).rd SC_EPOCH_TIME.EPOCH_TIME = v % 2 ^ 64 := by
  rw [State.rd_of_regs (s.stepTime_regs v), State.rd_wr_other _ (by decide), State.rd_epoch_time _ (by omega),
    Nat.mul_div_cancel _ (by decide)]

theorem State.stepTime_frac (s : State) (v : Nat) : (s.stepTime v).shift.epochFrac = 0 := Nat.mul_mod_left ..

theorem State.regsKeptBut.stepTime {v : Nat} (h1 : SC_EPOCH_COUNT.EPOCH_COUNT.key ∈ ks) (h2 : SC_EPOCH_TIME.EPOCH_TIME.key ∈ ks)
    (h3 : SC_STATUS.STEPPED.key ∈ ks) (h : s.regsKeptBut t ks) : s.regsKeptBut (t.stepTime v) ks :=
  ((h.epoch (x := v % 2 ^ 64 * 2 ^ 48) h1 h2).wr (f := SC_STATUS.STEPPED) (v := 1) h3).hidden (t.stepTime_regs v)

theorem State.rd_setInc_other {v : Nat} (h1 : g.id ≠ SC_EPOCH_COUNT.EPOCH_COUNT.id) (h2 : g.id ≠ SC_EPOCH_TIME.EPOCH_TIME.id)
    (h3 : g.id ≠ SC_INC.INC.id) : (s.setInc v).rd g u j = s.rd g u j :=
  (State.rd_wr_other _ h3).trans (State.rd_epoch_other h1 h2)

theorem State.rd_setInc_count (s : State) (v : Nat) : (s.setInc v).rd SC_EPOCH_COUNT.EPOCH_COUNT = s.rd SC_COUNT.COUNT % 2 ^ 64 :=
  (State.rd_wr_other _ (by decide)).trans (State.rd_epoch_count ..)

theorem State.rd_setInc_time (s : State) (v : Nat) : (s.setInc v).rd SC_EPOCH_TIME.EPOCH_TIME = s.timeNow / 2 ^ 48 :=
  (State.rd_wr_other _ (by decide)).trans (State.rd_epoch_time _ (State.timeAt_lt ..))

theorem State.rd_setInc_inc (s : State) {v : Nat} (h : v < 2 ^ 64) : (s.setInc v).rd SC_INC.INC = v := State.rd_wr_fit h

theorem State.setInc_frac (s : State) (v : Nat) : (s.setInc v).shift.epochFrac = s.timeNow % 2 ^ 48 := rfl

theorem State.regsKeptBut.setInc {v : Nat} (h1 : SC_EPOCH_COUNT.EPOCH_COUNT.key ∈ ks) (h2 : SC_EPOCH_TIME.EPOCH_TIME.key ∈ ks)
    (h3 : SC_INC.INC.key ∈ ks) (h : s.regsKeptBut t ks) : s.regsKeptBut (t.setInc v) ks := (h.epoch h1 h2).wr h3

end Sys2Proof.Machine
end

section
/-! PROOF. Writes of the increment and of the time, refused writes, 32-bit reads and sources of the Shift clock (O54, O55, O56; 19 R492 to
R496). -/

namespace Sys2Proof.Machine

variable {s : State} {v ticks c x : Nat}

/-! ### Who may write (R495) -/

theorem State.on_tick_src (s : State) (ticks : Nat) : (s.tick ticks).on SC_CTRL.SRC = s.on SC_CTRL.SRC :=
  congrArg (fun n => decide (n ≠ 0)) (State.rd_tick_other (by decide))

/-- The owner writes: no source is selected, or the servo does. -/
theorem State.owned_of {fm : Bool} (h : s.rd SC_CTRL.SRC = 0 ∨ fm = true) : (s.on SC_CTRL.SRC && !fm) = false := by
  rcases h with h | rfl
  · simp [State.on, h]
  · simp

theorem incRange_of (h1 : 0x0003000000000000 ≤ v) (h2 : v ≤ 0x0003FFFFFFFFFFFF) :
    decide (v % 2 ^ 64 < 0x0003000000000000 ∨ 0x0003FFFFFFFFFFFF < v % 2 ^ 64) = false := decide_eq_false (by omega)

theorem exec_incWrite_taken {fm : Bool} (how : s.rd SC_CTRL.SRC = 0 ∨ fm = true) (h1 : 0x0003000000000000 ≤ v) (h2 : v ≤ 0x0003FFFFFFFFFFFF) :
    exec (.incWrite v fm ticks) s = .next ((s.tick ticks).setInc v) := by
  have hv : v % 2 ^ 64 = v := Nat.mod_eq_of_lt (by omega)
  have hin := incRange_of h1 h2
  rw [hv] at hin
  rw [exec_incWrite, execIncWrite, State.writeInc]
  simp only [hv, hin, State.on_tick_src, State.owned_of how, Bool.or_self, Bool.false_eq_true, if_false]

theorem exec_incWrite_range (hfree : s.rd SC_CTRL.SRC = 0) (h : v < 0x0003000000000000 ∨ (0x0003FFFFFFFFFFFF < v ∧ v < 2 ^ 64)) :
    exec (.incWrite v false ticks) s = .next ((s.tick ticks).wr SC_STATUS.INC_ERR 1) := by
  have hbad : decide (v % 2 ^ 64 < 0x0003000000000000 ∨ 0x0003FFFFFFFFFFFF < v % 2 ^ 64) = true := decide_eq_true (by omega)
  rw [exec_incWrite, execIncWrite, State.writeInc]
  simp only [hbad, State.on_tick_src, State.owned_of (Or.inl hfree), Bool.true_or, Bool.false_eq_true, if_true, if_false]

theorem exec_incWrite_owned (hsrc : s.rd SC_CTRL.SRC ≠ 0) (h1 : 0x0003000000000000 ≤ v) (h2 : v ≤ 0x0003FFFFFFFFFFFF) :
    exec (.incWrite v false ticks) s = .next ((s.tick ticks).wr SC_STATUS.SRC_ERR 1) := by
  have howned : s.on SC_CTRL.SRC = true := (s.on_iff ..).2 hsrc
  rw [exec_incWrite, execIncWrite, State.writeInc]
  simp only [incRange_of h1 h2, State.on_tick_src, howned, Bool.not_false, Bool.and_self, Bool.false_or, Bool.false_eq_true, if_true, if_false]

theorem exec_timeStep_owned (half : Nat) (hsrc : s.rd SC_CTRL.SRC ≠ 0) :
    exec (.timeStep v half false ticks) s = .next ((s.tick ticks).wr SC_STATUS.SRC_ERR 1) := by
  have howned : s.on SC_CTRL.SRC = true := (s.on_iff ..).2 hsrc
  rw [exec_timeStep, execTimeStep, State.writeTime, State.on_tick_src, howned]
  rfl

theorem exec_timeStep_taken {fm : Bool} (half : Nat) (how : s.rd SC_CTRL.SRC = 0 ∨ fm = true) :
    exec (.timeStep v half fm ticks) s = .next ((s.tick ticks).stepTime (if half = 1 then (s.tick ticks).nowNs / 2 ^ 32 * 2 ^ 32 + v % 2 ^ 32
      else if half = 2 then (v % 2 ^ 32) * 2 ^ 32 + (s.tick ticks).nowNs % 2 ^ 32 else v)) := by
  rw [exec_timeStep, execTimeStep, State.writeTime, State.on_tick_src, State.owned_of how]
  rfl

/-- Settles O54: an increment that its owner writes in range begins an epoch at the edge, at the time that the old increment gives there. -/
theorem incrementWrites : Obligations.IncrementWrites := by
  intro s v ticks c x fm hrun how h1 h2 hc hx
  have hedge := State.AtEdge.of_eq hrun hc hx
  have hcount : ((s.tick ticks).setInc v).rd SC_EPOCH_COUNT.EPOCH_COUNT = c := by
    rw [State.rd_setInc_count, hedge.count, Nat.mod_eq_of_lt (State.AtEdge.count_lt hc)]
  have htime : ((s.tick ticks).setInc v).rd SC_EPOCH_TIME.EPOCH_TIME = x / 2 ^ 48 := by rw [State.rd_setInc_time, hedge.now]
  have hfrac : ((s.tick ticks).setInc v).shift.epochFrac = x % 2 ^ 48 := by rw [State.setInc_frac, hedge.now]
  have hinc : ((s.tick ticks).setInc v).rd SC_INC.INC = v := State.rd_setInc_inc _ (by omega)
  refine ⟨_, exec_incWrite_taken how h1 h2, hcount, hinc, htime, hfrac, ?_, State.timeAt_from_epoch hcount ?_ hinc, ?_, ?_⟩
  · exact (State.rd_setInc_other (by decide) (by decide) (by decide)).trans hedge.count
  · rw [htime, hfrac]
    exact Nat.div_add_mod' ..
  · exact (State.regsKeptBut.refl.tick (by simp)).setInc (by simp) (by simp) (by simp)
  · rw [State.tick_running hrun]
    rfl

/-- Settles O55: a step begins an epoch at the edge, at the time written. -/
theorem timeSteps : Obligations.TimeSteps := by
  intro s v ticks c fm hrun how hv hc
  have hcount : ((s.tick ticks).stepTime v).rd SC_EPOCH_COUNT.EPOCH_COUNT = c := by
    rw [State.rd_stepTime_count, State.rd_tick_count hrun, ← hc, Nat.mod_eq_of_lt (State.AtEdge.count_lt hc)]
  have htime : ((s.tick ticks).stepTime v).rd SC_EPOCH_TIME.EPOCH_TIME = v := (State.rd_stepTime_time ..).trans (Nat.mod_eq_of_lt hv)
  have hinc : ((s.tick ticks).stepTime v).rd SC_INC.INC = s.rd SC_INC.INC :=
    (State.rd_stepTime_other (by decide) (by decide) (by decide)).trans (State.rd_tick_other (by decide))
  obtain ⟨ev, hev⟩ := State.stepTime_events (s.tick ticks) v
  refine ⟨(s.tick ticks).stepTime v, ev, exec_timeStep_taken 0 how, hcount, htime, State.stepTime_frac .., hinc, State.rd_stepTime_stepped ..,
    ?_, ?_, State.timeAt_from_epoch hcount ?_ hinc, ?_, ?_⟩
  · exact (State.rd_stepTime_other (by decide) (by decide) (by decide)).trans ((State.rd_tick_count hrun ticks).trans hc.symm)
  · rw [hev, State.tick_events]
  · rw [htime, State.stepTime_frac, Nat.add_zero]
  · exact (State.regsKeptBut.refl.tick (by simp)).stepTime (by simp) (by simp) (by simp)
  · have hrest := State.stepTime_rest (s.tick ticks) v
    rw [State.tick_running hrun] at hrest ⊢
    exact congrArg (fun t : State => { t with regs := s.regs }) hrest

/-! ### Reads of a half (R492, R495) -/

theorem State.timeRead_time (s : State) (src tag ticks : Nat) : exec (.timeRead true src tag ticks) s =
    .next (((((s.tick ticks).sh fun y => { y with timeHi := (s.tick ticks).nowNs / 2 ^ 32 }).wr SC_TIME_FRAC.FRAC ((s.tick ticks).timeNow % 2 ^ 48)).emit
      (.response 661 src tag 0 ((s.tick ticks).nowNs % 2 ^ 32) false))) := rfl

theorem State.timeRead_count (s : State) (src tag ticks : Nat) : exec (.timeRead false src tag ticks) s =
    .next (((s.tick ticks).sh fun y => { y with countHi := (s.tick ticks).rd SC_COUNT.COUNT / 2 ^ 32 }).emit
      (.response 661 src tag 0 ((s.tick ticks).rd SC_COUNT.COUNT % 2 ^ 32) false)) := rfl

/-! ### Sources (R496) -/

theorem exec_timeSrcWrite_kept {src : Nat} (h : src % 4 = 3 ∨ src % 4 = s.rd SC_CTRL.SRC) : exec (.timeSrcWrite src) s = .next s :=
  congrArg _ (if_pos h)

theorem exec_timeSrcWrite_taken {src : Nat} (hsrc : src < 3) (h : src ≠ s.rd SC_CTRL.SRC) : exec (.timeSrcWrite src) s =
    .next (((s.wr SC_CTRL.SRC src).wr SC_STATUS.STATE (if s.canHear src then 1 else 0)).sh fun y => { y with within := 0, above := 0 }) := by
  have hmod : src % 4 = src := Nat.mod_eq_of_lt (by omega)
  rw [exec_timeSrcWrite, execTimeSrcWrite, State.writeSrc]
  simp only [hmod]
  rw [if_neg (by omega)]

/-- The master that a source selects can be heard, as the statement spells it. -/
theorem State.canHear_iff (s : State) (src : Nat) : s.canHear src = true ↔
    (src = 1 ∧ s.rd BW_STATUS.HEAD = 0 ∧ s.rd BW_STATUS.UP_LINK ≠ 0) ∨ (src = 2 ∧ (s.rd IO_MG_STATUS.OWNED).testBit 3 = true) := by
  unfold State.canHear
  split_ifs with h1 h2
  · simp [h1, State.on]
  · simp [h2, State.bit]
  · simp [h1, h2]

/-- Settles O56: each write or read has one equation in its case. -/
theorem shiftRegisters : Obligations.ShiftRegisters := by
  intro s ticks c x hrun hc hx
  have hedge := State.AtEdge.of_eq hrun hc hx
  have hflag {f : Fld} (hid : SC_COUNT.COUNT.id ≠ f.id) : ((s.tick ticks).wr f 1).rd SC_COUNT.COUNT = c := (State.rd_wr_other _ hid).trans hedge.count
  have hticked {f : Fld} : s.regsKeptBut ((s.tick ticks).wr f 1) [SC_COUNT.COUNT.key, f.key] := (State.regsKeptBut.refl.tick (by simp)).wr (by simp)
  refine ⟨fun v hv hsrc => ?_, fun v h1 h2 hsrc => ?_, fun v half hsrc => ?_, fun v half now hhalf hnow => ?_, fun src tag => ?_,
    fun src tag => ?_, fun src h => exec_timeSrcWrite_kept h, fun src hlt hne => ?_⟩
  · exact ⟨_, exec_incWrite_range hsrc hv, State.rd_wr_fit (by decide), hflag (by decide), hticked, (s.tick_regsOnly ticks).wr ..⟩
  · exact ⟨_, exec_incWrite_owned hsrc h1 h2, State.rd_wr_fit (by decide), hflag (by decide), hticked, (s.tick_regsOnly ticks).wr ..⟩
  · exact ⟨_, exec_timeStep_owned half hsrc, State.rd_wr_fit (by decide), hflag (by decide), hticked, (s.tick_regsOnly ticks).wr ..⟩
  · refine ⟨_, exec_timeStep_taken half (.inr rfl), ?_, State.stepTime_frac .., State.rd_stepTime_stepped .., ?_⟩
    · rw [State.rd_stepTime_count, hedge.count, Nat.mod_eq_of_lt (State.AtEdge.count_lt hc)]
    · have hlt := hedge.lt
      rw [State.rd_stepTime_time, hedge.nowNs, ← hnow]
      rcases hhalf with rfl | rfl
      · simp only [if_true]
        omega
      · simp only [if_true, show ¬(2 = 1) by decide, if_false]
        omega
  · refine ⟨_, s.timeRead_time src tag ticks, ?_, ?_, ?_, ?_, ?_⟩
    · rw [State.rd_emit, State.rd_wr_same, hedge.now]
      exact Nat.mod_mod ..
    · rw [hedge.nowNs]
      rw [State.emit_shift, State.wr_shift, State.sh_shift, State.tick_shift, Nat.div_div_eq_div_mul]
      rfl
    · rw [hedge.nowNs]
      simp
    · exact (((State.regsKeptBut.refl.tick (by simp)).hidden rfl).wr (by simp)).hidden rfl
    · rw [State.tick_running hrun]
      rfl
  · refine ⟨_, s.timeRead_count src tag ticks, ?_, ?_, ?_, ?_⟩
    · rw [hedge.count]
      simp
    · rw [hedge.count]
      simp
    · exact (State.regsKeptBut.refl.tick (by simp)).hidden rfl
    · rw [State.tick_running hrun]
      rfl
  · refine ⟨_, exec_timeSrcWrite_taken hlt hne, ?_, ?_, rfl, ?_, rfl⟩
    · exact (State.rd_wr_other _ (by decide)).trans (State.rd_wr_fit (f := SC_CTRL.SRC) (show src < 4 by omega))
    · refine (State.rd_wr_fit ?_).trans (if_congr (s.canHear_iff src) rfl rfl)
      split <;> decide
    · exact ((State.regsKeptBut.refl.wr (by simp)).wr (by simp)).hidden rfl

end Sys2Proof.Machine
end

section
/-! PROOF. Bits of a field that an interrupt raises, for the proofs below (08 R233). -/

namespace Sys2Proof.Machine

variable {s : State} {st en ve : Fld} {b : Nat}

/-- A source that is raised is set. -/
theorem State.rd_raise_bit (h : b < st.wid) : ((s.raise st en ve b).rd st).testBit b = true := by
  show (s.raise st en ve b).bit st b = true
  unfold State.raise
  split_ifs with hset hen
  · exact hset
  · exact (congrArg (Nat.testBit · b) (State.rd_requestVector ..)).trans (State.bit_putBit_same h)
  · exact State.bit_putBit_same h

/-- Every other source is as before, where the field has it. -/
theorem State.rd_raise_bit_ne {c : Nat} (h : c ≠ b) (hc : c < st.wid) : ((s.raise st en ve b).rd st).testBit c = (s.rd st).testBit c := by
  have hput : (s.putBit st b true).bit st c = s.bit st c := (State.bit_putBit_ne h).trans (by simp [hc])
  show (s.raise st en ve b).bit st c = s.bit st c
  unfold State.raise
  split_ifs with hset hen
  · rfl
  · exact (congrArg (Nat.testBit · c) (State.rd_requestVector ..)).trans hput
  · exact hput

theorem State.requestVector_moves_only (s : State) (v : Nat) : Moves (Foot.only [.msix, .sent]) s (s.requestVector v) :=
  State.requestVector_moves (Sub.list rfl rfl) Moves.refl

@[simp] theorem State.requestVector_shift (s : State) (v : Nat) : (s.requestVector v).shift = s.shift :=
  (s.requestVector_moves_only v).parts .shift (partsMask_not (by decide))

@[simp] theorem State.requestVector_events (s : State) (v : Nat) : (s.requestVector v).events = s.events :=
  (s.requestVector_moves_only v).parts .events (partsMask_not (by decide))

@[simp] theorem State.raise_shift (s : State) (st en ve : Fld) (b : Nat) : (s.raise st en ve b).shift = s.shift := by
  unfold State.raise
  split_ifs <;> simp [State.putBit]

@[simp] theorem State.raise_events (s : State) (st en ve : Fld) (b : Nat) : (s.raise st en ve b).events = s.events := by
  unfold State.raise
  split_ifs <;> simp [State.putBit]

end Sys2Proof.Machine
end

section
/-! PROOF. Time messages, measurements and the loss of the master (O57; 19 R496 to R500). -/

namespace Sys2Proof.Machine

variable {s t : State} {ticks : Nat} {g : Fld}

/-! ### A measurement (R496, R498) -/

/-- Time after a measurement, before the servo's state follows: a step, or an increment that is free. -/
def State.measured (s : State) (off : Int) : State :=
  let t := s.wr SC_STATUS.OFFSET (satOffset (off.fdiv 16))
  if 16 * s.rd SC_CTRL.STEP_NS < off.natAbs then t.stepTime (((t.nowNs : Int) + off.fdiv 16).emod (2 ^ 64)).toNat
  else t.drawn.setInc (0x0003000000000000 + t.draw 48)

theorem State.measure_eq (s : State) (off : Int) :
    s.measure off = (s.measured off).servoState (decide (off.natAbs ≤ 16 * s.rd SC_CTRL.LOCK_NS)) := rfl

/-- What a measurement writes before the servo's state follows. -/
def measuredFields : List Fld :=
  [SC_STATUS.OFFSET, SC_EPOCH_COUNT.EPOCH_COUNT, SC_EPOCH_TIME.EPOCH_TIME, SC_STATUS.STEPPED, SC_INC.INC]

theorem State.rd_measured_other {off : Int} {u j : Nat} (h : ∀ f ∈ measuredFields, g.id ≠ f.id) : (s.measured off).rd g u j = s.rd g u j := by
  unfold State.measured
  extract_lets t
  have ht : t.rd g u j = s.rd g u j := State.rd_wr_other _ (h _ (by decide))
  split
  · exact (State.rd_stepTime_other (h _ (by decide)) (h _ (by decide)) (h _ (by decide))).trans ht
  · exact (State.rd_setInc_other (h _ (by decide)) (h _ (by decide)) (h _ (by decide))).trans ht

/-- The servo writes its state and its source. -/
theorem State.rd_servoState_other {near : Bool} {u j : Nat} (h1 : g.id ≠ SC_STATUS.STATE.id) (h2 : g.id ≠ SC_IRQ_STATUS.SRCS.id) :
    (s.servoState near).rd g u j = s.rd g u j := by
  have hfirst : (if s.rd SC_STATUS.STATE = 0 ∨ s.rd SC_STATUS.STATE = 3 then
      (s.wr SC_STATUS.STATE 1).sh fun x => { x with within := 0, above := 0 } else s).rd g u j = s.rd g u j := by
    split
    · exact (State.rd_sh ..).trans (State.rd_wr_other _ h1)
    · rfl
  unfold State.servoState
  extract_lets st start t st'
  have ht : t.rd g u j = s.rd g u j := hfirst
  split_ifs
  · exact (State.rd_raise_other h2).trans ((State.rd_wr_other _ h1).trans ht)
  · exact (State.rd_sh ..).trans ((State.rd_wr_other _ h1).trans ht)
  · exact ht

/-- The time that the servo leaves is the time that the measurement left. -/
theorem State.rd_measure {off : Int} {u j : Nat} (h1 : g.id ≠ SC_STATUS.STATE.id) (h2 : g.id ≠ SC_IRQ_STATUS.SRCS.id) :
    (s.measure off).rd g u j = (s.measured off).rd g u j := by
  rw [State.measure_eq, State.rd_servoState_other h1 h2]

/-- The servo's state where it is neither FREE nor in HOLDOVER. -/
theorem State.servoState_following (near : Bool) (h : s.rd SC_STATUS.STATE = 1 ∨ s.rd SC_STATUS.STATE = 2) : s.servoState near =
    let t := s.sh (fun x => if near then { x with within := min 8 (x.within + 1), above := 0 } else { x with within := 0, above := min 4 (x.above + 1) })
    if s.rd SC_STATUS.STATE = 1 ∧ 8 ≤ t.shift.within then (t.wr SC_STATUS.STATE 2).raise SC_IRQ_STATUS.SRCS SC_IRQ_EN.EN SC_IRQ_EN.VECTOR 7
    else if s.rd SC_STATUS.STATE = 2 ∧ 4 ≤ t.shift.above then (t.wr SC_STATUS.STATE 1).sh (fun x => { x with within := 0, above := 0 })
    else t := by
  have hstay : (if s.rd SC_STATUS.STATE = 0 ∨ s.rd SC_STATUS.STATE = 3 then
      (s.wr SC_STATUS.STATE 1).sh fun x => { x with within := 0, above := 0 } else s) = s := if_neg (by omega)
  unfold State.servoState
  simp only [hstay, State.rd_sh]

/-- The eighth measurement in a row within `LOCK_NS` locks. -/
theorem State.servoState_locks (h : s.rd SC_STATUS.STATE = 1) (hw : s.shift.within = 7) :
    (s.servoState true).rd SC_STATUS.STATE = 2 ∧ ((s.servoState true).rd SC_IRQ_STATUS.SRCS).testBit 7 = true := by
  rw [State.servoState_following true (.inl h), if_pos ⟨h, by simp [hw]⟩]
  exact ⟨(State.rd_raise_other (by decide)).trans (State.rd_wr_fit (by decide)), State.rd_raise_bit (by decide)⟩

theorem State.servoState_counts (h : s.rd SC_STATUS.STATE = 1) (hw : s.shift.within < 7) :
    (s.servoState true).rd SC_STATUS.STATE = 1 ∧ (s.servoState true).shift.within = s.shift.within + 1 ∧ (s.servoState true).shift.above = 0 := by
  rw [State.servoState_following true (.inl h), if_neg (by simp; omega), if_neg (by omega)]
  exact ⟨h, Nat.min_eq_right (by omega), rfl⟩

/-- The fourth in a row above it unlocks. -/
theorem State.servoState_above (h : s.rd SC_STATUS.STATE = 2) :
    (s.servoState false).rd SC_STATUS.STATE = (if 3 ≤ s.shift.above then 1 else 2) ∧ (s.servoState false).shift.within = 0 := by
  rw [State.servoState_following false (.inr h), if_neg (by omega)]
  by_cases ha : 3 ≤ s.shift.above
  · rw [if_pos ⟨h, by simp; omega⟩, if_pos ha]
    exact ⟨(State.rd_sh ..).trans (State.rd_wr_fit (by decide)), rfl⟩
  · rw [if_neg (by simp; omega), if_neg ha]
    exact ⟨h, rfl⟩

/-- A measurement keeps the servo's counts. -/
theorem State.measured_counts (s : State) (off : Int) :
    (s.measured off).shift.within = s.shift.within ∧ (s.measured off).shift.above = s.shift.above := by
  have hstep (t : State) (x arg : Nat) (tr : Trace) :
      (({ (t.epoch x).wr SC_STATUS.STEPPED 1 with trace := tr } : State).post 10 0x00A0 1 arg).shift.within = t.shift.within ∧
      (({ (t.epoch x).wr SC_STATUS.STEPPED 1 with trace := tr } : State).post 10 0x00A0 1 arg).shift.above = t.shift.above := ⟨rfl, rfl⟩
  have hinc (t : State) (v : Nat) : (t.drawn.setInc v).shift.within = t.shift.within ∧ (t.drawn.setInc v).shift.above = t.shift.above := ⟨rfl, rfl⟩
  unfold State.measured
  extract_lets t
  split
  · exact hstep t _ _ _
  · exact hinc t _

theorem State.rd_measured_state (s : State) (off : Int) : (s.measured off).rd SC_STATUS.STATE = s.rd SC_STATUS.STATE :=
  State.rd_measured_other (by decide)

/-- Time, as a measurement finds it. -/
theorem State.timeNow_congr (hc : t.rd SC_COUNT.COUNT = s.rd SC_COUNT.COUNT) (h1 : t.rd SC_EPOCH_COUNT.EPOCH_COUNT = s.rd SC_EPOCH_COUNT.EPOCH_COUNT)
    (h2 : t.rd SC_EPOCH_TIME.EPOCH_TIME = s.rd SC_EPOCH_TIME.EPOCH_TIME) (h3 : t.shift.epochFrac = s.shift.epochFrac)
    (h4 : t.rd SC_INC.INC = s.rd SC_INC.INC) : t.timeNow = s.timeNow := by
  rw [State.timeNow, hc, State.timeAt_congr h1 h2 h3 h4, State.timeNow]

theorem State.timeNow_wr_offset (s : State) (v : Nat) : (s.wr SC_STATUS.OFFSET v).timeNow = s.timeNow :=
  State.timeNow_congr (State.rd_wr_other _ (by decide)) (State.rd_wr_other _ (by decide)) (State.rd_wr_other _ (by decide)) rfl
    (State.rd_wr_other _ (by decide))

theorem State.rd_measured_offset (s : State) (off : Int) : (s.measured off).rd SC_STATUS.OFFSET = satOffset (off.fdiv 16) % 2 ^ 32 := by
  unfold State.measured
  extract_lets t
  have ht : t.rd SC_STATUS.OFFSET = satOffset (off.fdiv 16) % 2 ^ 32 := State.rd_wr_same ..
  split
  · exact (State.rd_stepTime_other (by decide) (by decide) (by decide)).trans ht
  · exact (State.rd_setInc_other (by decide) (by decide) (by decide)).trans ht

theorem State.rd_measured_count (s : State) (off : Int) : (s.measured off).rd SC_EPOCH_COUNT.EPOCH_COUNT = s.rd SC_COUNT.COUNT % 2 ^ 64 := by
  unfold State.measured
  extract_lets t
  have ht : t.rd SC_COUNT.COUNT = s.rd SC_COUNT.COUNT := State.rd_wr_other _ (by decide)
  split
  · rw [State.rd_stepTime_count, ht]
  · rw [State.rd_setInc_count, State.rd_drawn, ht]

/-- A measurement beyond `STEP_NS` steps time by its whole ns. -/
theorem State.measured_steps {off : Int} (h : 16 * s.rd SC_CTRL.STEP_NS < off.natAbs) :
    (s.measured off).rd SC_STATUS.STEPPED = 1 ∧ (s.measured off).rd SC_INC.INC = s.rd SC_INC.INC ∧
      (s.measured off).rd SC_EPOCH_TIME.EPOCH_TIME = ((s.nowNs + off / 16) % 2 ^ 64).toNat := by
  have hdiv : off.fdiv 16 = off / 16 := Int.fdiv_eq_ediv_of_nonneg _ (by decide)
  unfold State.measured
  extract_lets t
  have hnow : t.nowNs = s.nowNs := congrArg (· / 2 ^ 48) (State.timeNow_wr_offset ..)
  rw [if_pos h, hnow, hdiv]
  refine ⟨State.rd_stepTime_stepped .., (State.rd_stepTime_other (by decide) (by decide) (by decide)).trans (State.rd_wr_other _ (by decide)),
    (State.rd_stepTime_time ..).trans (Nat.mod_eq_of_lt ?_)⟩
  exact (Int.toNat_lt' (by decide)).2 (Int.emod_lt_of_pos _ (by decide))

/-- One within writes an increment in range, and time goes on from where it is. -/
theorem State.measured_follows {off : Int} (h : off.natAbs ≤ 16 * s.rd SC_CTRL.STEP_NS) :
    (s.measured off).rd SC_STATUS.STEPPED = s.rd SC_STATUS.STEPPED ∧ (s.measured off).rd SC_EPOCH_TIME.EPOCH_TIME = s.nowNs ∧
      0x0003000000000000 ≤ (s.measured off).rd SC_INC.INC ∧ (s.measured off).rd SC_INC.INC ≤ 0x0003FFFFFFFFFFFF := by
  unfold State.measured
  extract_lets t
  have hdraw : t.draw 48 < 2 ^ 48 := Nat.mod_lt _ (by decide)
  have hnow : t.drawn.timeNow = s.timeNow := State.timeNow_wr_offset ..
  rw [if_neg (by omega), State.rd_setInc_inc _ (by omega)]
  refine ⟨(State.rd_setInc_other (by decide) (by decide) (by decide)).trans (State.rd_wr_other _ (by decide)), ?_, by omega, by omega⟩
  rw [State.rd_setInc_time, hnow, State.nowNs]

theorem satOffset_inside {off : Int} (h1 : -(2 ^ 35) < off) (h2 : off < 2 ^ 35) :
    satOffset (off.fdiv 16) % 2 ^ 32 = ((off / 16) % 2 ^ 32).toNat := by
  have hdiv : off.fdiv 16 = off / 16 := Int.fdiv_eq_ediv_of_nonneg _ (by decide)
  have hin : max (-(2 ^ 31)) (min (2 ^ 31 - 1) (off / 16)) = off / 16 := by omega
  have hlt : ((off / 16) % 2 ^ 32).toNat < 2 ^ 32 := by omega
  rw [satOffset, hdiv, hin]
  exact Nat.mod_eq_of_lt hlt

/-! ### The commands, case by case -/

theorem exec_time_ignored {m : TimeMsg} {residence : Nat} (h : s.halted = true ∨ s.rd BW_STATUS.HEAD ≠ 0 ∨ s.rd BW_STATUS.ENUMERATED = 0) :
    exec (.time m ticks residence) s = .next s := by
  rw [exec_time, execTime, if_pos]
  simpa [State.on] using h

/-- The part's clock and the message's hops, before a measurement. -/
def State.timeHeard (s : State) (m : TimeMsg) (ticks : Nat) : State := (s.tick ticks).wr SC_STATUS.HOPS m.hops

theorem State.rd_timeHeard_other {m : TimeMsg} {u j : Nat} (h1 : g.id ≠ SC_COUNT.COUNT.id) (h2 : g.id ≠ SC_STATUS.HOPS.id) :
    (s.timeHeard m ticks).rd g u j = s.rd g u j := (State.rd_wr_other _ h2).trans (State.rd_tick_other h1)

theorem exec_time_heard {m : TimeMsg} {residence : Nat} (hh : s.halted = false) (hhead : s.rd BW_STATUS.HEAD = 0)
    (henum : s.rd BW_STATUS.ENUMERATED ≠ 0) : exec (.time m ticks residence) s = .next
      (let u := s.timeHeard m ticks
       let t := if s.rd SC_CTRL.SRC = 1 then u.measure (((16 * m.mtime + m.corr + s.rd SC_CTRL.HOP_NS : Nat) : Int) - 16 * u.nowNs) else u
       if s.rd BW_STATUS.DOWN_LINK ≠ 0 then
         t.emit (.bell (some ((s.rd BW_STATUS.ADDR + 1) % 256))
           (.time [m.mtime, (m.corr + residence + s.rd SC_CTRL.HOP_NS) % 2 ^ 32, (m.hops + 1) % 256, m.mseq, b2n m.mlock]))
       else t) := by
  have hsrc : (s.timeHeard m ticks).rd SC_CTRL.SRC = s.rd SC_CTRL.SRC := State.rd_timeHeard_other (by decide) (by decide)
  have hhop : (s.timeHeard m ticks).rd SC_CTRL.HOP_NS = s.rd SC_CTRL.HOP_NS := State.rd_timeHeard_other (by decide) (by decide)
  have hkept (off : Int) (f : Fld) (hf : f = BW_STATUS.DOWN_LINK ∨ f = BW_STATUS.ADDR) :
      (if s.rd SC_CTRL.SRC = 1 then (s.timeHeard m ticks).measure off else s.timeHeard m ticks).rd f = s.rd f := by
    rcases hf with rfl | rfl <;> split
    · exact (State.rd_measure (by decide) (by decide)).trans ((State.rd_measured_other (by decide)).trans
        (State.rd_timeHeard_other (by decide) (by decide)))
    · exact State.rd_timeHeard_other (by decide) (by decide)
    · exact (State.rd_measure (by decide) (by decide)).trans ((State.rd_measured_other (by decide)).trans
        (State.rd_timeHeard_other (by decide) (by decide)))
    · exact State.rd_timeHeard_other (by decide) (by decide)
  rw [exec_time, execTime, if_neg (by simp [State.on, hh, hhead, henum])]
  show Host.Outcome.next (let u := s.timeHeard m ticks
       let t := if u.rd SC_CTRL.SRC = 1 then u.measure (((16 * m.mtime + m.corr + u.rd SC_CTRL.HOP_NS : Nat) : Int) - 16 * u.nowNs) else u
       if t.on BW_STATUS.DOWN_LINK then
         t.emit (.bell (some ((t.rd BW_STATUS.ADDR + 1) % 256))
           (.time [m.mtime, (m.corr + residence + u.rd SC_CTRL.HOP_NS) % 2 ^ 32, (m.hops + 1) % 256, m.mseq, b2n m.mlock]))
       else t) = _
  simp only [hsrc, hhop, State.on, decide_eq_true_eq, hkept _ _ (.inl rfl), hkept _ _ (.inr rfl)]

theorem exec_ptpSync_still {off : Int} (h : s.rd SC_CTRL.SRC ≠ 2 ∨ (s.rd IO_MG_STATUS.OWNED).testBit 3 = false) :
    exec (.ptpSync off ticks) s = .next (s.tick ticks) := by
  rw [exec_ptpSync, execPtpSync, if_neg]
  rw [State.bit, State.rd_tick_other (by decide), State.rd_tick_other (by decide)]
  rcases h with h | h <;> simp [h]

theorem exec_ptpSync_measures {off : Int} (h1 : s.rd SC_CTRL.SRC = 2) (h2 : (s.rd IO_MG_STATUS.OWNED).testBit 3 = true) :
    exec (.ptpSync off ticks) s =
      .next (((s.tick ticks).measured off).servoState (decide (off.natAbs ≤ 16 * s.rd SC_CTRL.LOCK_NS))) := by
  have hlock : (s.tick ticks).rd SC_CTRL.LOCK_NS = s.rd SC_CTRL.LOCK_NS := State.rd_tick_other (by decide)
  rw [exec_ptpSync, execPtpSync, if_pos, State.measure_eq, hlock]
  rw [State.bit, State.rd_tick_other (by decide), State.rd_tick_other (by decide)]
  exact ⟨h1, h2⟩

theorem exec_timeSend_still (h : s.rd BW_STATUS.HEAD = 0 ∨ s.rd SC_CTRL.HEAD_SEND = 0 ∨ s.rd BW_STATUS.DOWN_LINK = 0 ∨ s.halted = true) :
    exec (.timeSend ticks) s = .next (s.tick ticks) := by
  have hhalt : (s.tick ticks).halted = s.halted := congrArg (fun n => decide (n ≠ 0)) (State.rd_tick_other (by decide))
  rw [exec_timeSend, execTimeSend]
  dsimp only
  rw [if_pos]
  simp only [State.on, hhalt, State.rd_tick_other (g := BW_STATUS.HEAD) (by decide), State.rd_tick_other (g := SC_CTRL.HEAD_SEND) (by decide),
    State.rd_tick_other (g := BW_STATUS.DOWN_LINK) (by decide)]
  rcases h with h | h | h | h <;> simp [h]

theorem exec_timeSend_sends (h1 : s.rd BW_STATUS.HEAD ≠ 0) (h2 : s.rd SC_CTRL.HEAD_SEND ≠ 0) (h3 : s.rd BW_STATUS.DOWN_LINK ≠ 0)
    (h4 : s.halted = false) : exec (.timeSend ticks) s = .next
      (((s.tick ticks).emit (.bell (some ((s.rd BW_STATUS.ADDR + 1) % 256))
        (.time [(s.tick ticks).nowNs, 0, 0, s.shift.mseq, b2n (decide (s.rd SC_CTRL.SRC = 2 ∧ s.rd SC_STATUS.STATE = 2))]))).sh
          fun x => { x with mseq := (x.mseq + 1) % 256 }) := by
  have hhalt : (s.tick ticks).halted = s.halted := congrArg (fun n => decide (n ≠ 0)) (State.rd_tick_other (by decide))
  rw [exec_timeSend, execTimeSend]
  dsimp only
  rw [if_neg]
  · rw [State.tick_shift, State.rd_tick_other (g := BW_STATUS.ADDR) (by decide), State.rd_tick_other (g := SC_CTRL.SRC) (by decide),
      State.rd_tick_other (g := SC_STATUS.STATE) (by decide)]
  · simp [State.on, hhalt, State.rd_tick_other (g := BW_STATUS.HEAD) (by decide), State.rd_tick_other (g := SC_CTRL.HEAD_SEND) (by decide),
      State.rd_tick_other (g := BW_STATUS.DOWN_LINK) (by decide), h1, h2, h3, h4]

theorem State.timeMaster_iff (s : State) : s.timeMaster = true ↔ s.rd SC_CTRL.SRC = 1 ∧ s.rd BW_STATUS.HEAD ≠ 0 := by
  simp [State.timeMaster, State.on]

theorem exec_masterLoss_still (h : s.timeMaster = true ∨ s.rd SC_CTRL.SRC = 0 ∨ s.rd SC_STATUS.STATE = 0 ∨ s.rd SC_STATUS.STATE = 3) :
    exec .masterLoss s = .next s := by
  rw [exec_masterLoss, execMasterLoss]
  split
  · rfl
  · rw [State.loseMaster, if_neg]
    rw [State.on_iff]
    rcases h with h | h | h | h
    · contradiction
    · omega
    · omega
    · omega

/-- HOLDOVER: the source is raised, and the servo forgets its counts. -/
def State.masterLost (s : State) : State :=
  (((s.wr SC_STATUS.STATE 3).wr SC_STATUS.LOST 1).raise SC_IRQ_STATUS.SRCS SC_IRQ_EN.EN SC_IRQ_EN.VECTOR 6).sh
    fun x => { x with within := 0, above := 0 }

theorem exec_masterLoss_lost (hm : s.timeMaster = false) (hsrc : s.rd SC_CTRL.SRC ≠ 0) (hst : s.rd SC_STATUS.STATE = 1 ∨ s.rd SC_STATUS.STATE = 2) :
    exec .masterLoss s = .next (s.masterLost.post 10 0x00A1 1 (s.rd SC_CTRL.SRC)) := by
  rw [exec_masterLoss, execMasterLoss, hm, if_neg Bool.false_ne_true, State.loseMaster, if_pos ⟨(s.on_iff ..).2 hsrc, hst⟩]
  rfl

theorem State.masterLost_events (s : State) : s.masterLost.events = s.events := by simp [State.masterLost]

theorem State.post_events (s : State) (src code sev arg : Nat) :
    (s.post src code sev arg).events = s.events ++ [⟨src, code, sev, arg, s.rd WD_TALLY.TALLY⟩] := rfl

/-- The present time, without its fraction. -/
theorem State.nowNs_of_eq {now c : Nat} (hcount : t.rd SC_COUNT.COUNT = c) (hat : t.timeAt c = s.timeAt c)
    (hnow : (now : Int) = (((s.rd SC_EPOCH_TIME.EPOCH_TIME * 2 ^ 48 + s.shift.epochFrac : Nat) : Int) +
      ((c : Int) - s.rd SC_EPOCH_COUNT.EPOCH_COUNT) * s.rd SC_INC.INC).emod (2 ^ 112) / 2 ^ 48) : t.nowNs = now := by
  have hx := Int.emod_nonneg (((s.rd SC_EPOCH_TIME.EPOCH_TIME * 2 ^ 48 + s.shift.epochFrac : Nat) : Int) +
      ((c : Int) - s.rd SC_EPOCH_COUNT.EPOCH_COUNT) * s.rd SC_INC.INC) (show (2 : Int) ^ 112 ≠ 0 by decide)
  obtain ⟨x, hx⟩ := Int.eq_ofNat_of_zero_le hx
  rw [State.nowNs, State.timeNow, hcount, hat, State.timeAt_of_eq hx.symm]
  have : (now : Int) = ((x / 2 ^ 48 : Nat) : Int) := by
    rw [hnow]
    show (_ % _ : Int) / _ = _
    rw [hx]
    rfl
  exact_mod_cast this.symm

/-- Settles O57: each command is one equation in its case; what a measurement leaves of the time, its servo's state does not touch. -/
theorem timeFollowing : Obligations.TimeFollowing := by
  intro s m ticks residence c now hc hnow
  refine ⟨exec_time_ignored, fun hh hhead henum hsrc hdown => ?_, fun off hoff hrun hh hhead henum hsrc hdown hlo hhi => ?_,
    fun off h => ?_, fun off h1 h2 hnear hst hw => ?_, fun off h1 h2 hnear hst hw => ?_, fun off h1 h2 hfar hst => ?_, fun h => ?_,
    fun hrun h1 h2 h3 h4 => ?_, fun hm hsrc hst => ?_, exec_masterLoss_still⟩
  · have hexec := exec_time_heard (m := m) (ticks := ticks) (residence := residence) hh hhead henum
    simp only [if_neg hsrc, if_pos hdown] at hexec
    refine ⟨_, hexec, State.rd_wr_same .., ?_, ((State.regsKeptBut.refl.tick (by simp)).wr (by simp)).emit, ?_⟩
    · cases hl : m.mlock <;> simp [State.timeHeard, b2n]
    · unfold State.timeHeard State.tick
      split <;> rfl
  · have hexec := exec_time_heard (m := m) (ticks := ticks) (residence := residence) hh hhead henum
    have hcount : (s.timeHeard m ticks).rd SC_COUNT.COUNT = c :=
      (State.rd_wr_other _ (by decide)).trans ((State.rd_tick_count hrun ticks).trans hc.symm)
    have hat (k : Nat) : (s.timeHeard m ticks).timeAt k = s.timeAt k :=
      State.timeAt_congr (State.rd_timeHeard_other (by decide) (by decide)) (State.rd_timeHeard_other (by decide) (by decide))
        (congrArg Shift.epochFrac (s.tick_shift ticks)) (State.rd_timeHeard_other (by decide) (by decide)) k
    have hns := State.nowNs_of_eq hcount (hat c) hnow
    simp only [if_pos hsrc, hdown, ne_eq, not_true_eq_false, if_false, hns, ← hoff] at hexec
    have hother {f : Fld} (h1 : f.id ≠ SC_COUNT.COUNT.id) (h2 : f.id ≠ SC_STATUS.HOPS.id) : (s.timeHeard m ticks).rd f = s.rd f :=
      State.rd_timeHeard_other h1 h2
    have hstep := hother (f := SC_CTRL.STEP_NS) (by decide) (by decide)
    refine ⟨_, hexec, ?_, ?_, fun hbig => ?_, fun hsmall => ?_⟩
    · rw [State.rd_measure (by decide) (by decide), State.rd_measured_offset, satOffset_inside hlo hhi]
    · rw [State.rd_measure (by decide) (by decide), State.rd_measured_count, hcount, Nat.mod_eq_of_lt (State.AtEdge.count_lt hc)]
    · obtain ⟨h1, h2, h3⟩ := State.measured_steps (s := s.timeHeard m ticks) (off := off) (by rw [hstep]; exact hbig)
      rw [hother (by decide) (by decide)] at h2
      rw [hns] at h3
      simp only [State.rd_measure (g := SC_STATUS.STEPPED) (by decide) (by decide), State.rd_measure (g := SC_INC.INC) (by decide) (by decide),
        State.rd_measure (g := SC_EPOCH_TIME.EPOCH_TIME) (by decide) (by decide)]
      exact ⟨h1, h2, h3⟩
    · obtain ⟨h1, h2, h3, h4⟩ := State.measured_follows (s := s.timeHeard m ticks) (off := off) (by rw [hstep]; exact hsmall)
      rw [hother (by decide) (by decide)] at h1
      rw [hns] at h2
      simp only [State.rd_measure (g := SC_STATUS.STEPPED) (by decide) (by decide), State.rd_measure (g := SC_INC.INC) (by decide) (by decide),
        State.rd_measure (g := SC_EPOCH_TIME.EPOCH_TIME) (by decide) (by decide)]
      exact ⟨h1, h2, h3, h4⟩
  · exact ⟨_, exec_ptpSync_still h, State.regsKeptBut.refl.tick (by simp), s.tick_regsOnly ticks⟩
  · have hstate : ((s.tick ticks).measured off).rd SC_STATUS.STATE = 1 := by rw [State.rd_measured_state, State.rd_tick_other (by decide), hst]
    have hwithin : ((s.tick ticks).measured off).shift.within = 7 := by rw [(State.measured_counts ..).1, State.tick_shift, hw]
    rw [exec_ptpSync_measures h1 h2, decide_eq_true hnear]
    exact ⟨_, rfl, State.servoState_locks hstate hwithin⟩
  · have hstate : ((s.tick ticks).measured off).rd SC_STATUS.STATE = 1 := by rw [State.rd_measured_state, State.rd_tick_other (by decide), hst]
    have hwithin : ((s.tick ticks).measured off).shift.within = s.shift.within := by rw [(State.measured_counts ..).1, State.tick_shift]
    rw [exec_ptpSync_measures h1 h2, decide_eq_true hnear, ← hwithin]
    exact ⟨_, rfl, State.servoState_counts hstate (hwithin ▸ hw)⟩
  · have hstate : ((s.tick ticks).measured off).rd SC_STATUS.STATE = 2 := by rw [State.rd_measured_state, State.rd_tick_other (by decide), hst]
    have habove : ((s.tick ticks).measured off).shift.above = s.shift.above := by rw [(State.measured_counts ..).2, State.tick_shift]
    rw [exec_ptpSync_measures h1 h2, decide_eq_false (by omega), ← habove]
    exact ⟨_, rfl, State.servoState_above hstate⟩
  · exact ⟨_, exec_timeSend_still h, State.regsKeptBut.refl.tick (by simp), s.tick_regsOnly ticks⟩
  · refine ⟨_, exec_timeSend_sends h1 h2 h3 h4, ?_, ?_, (State.regsKeptBut.refl.tick (by simp)).hidden rfl, ?_⟩
    · have hns := State.nowNs_of_eq ((State.rd_tick_count hrun ticks).trans hc.symm) (s.timeAt_tick ticks c) hnow
      rw [hns]
      simp [b2n]
    · rw [State.sh_shift, State.emit_shift, State.tick_shift]
    · rw [State.tick_running hrun]
      rfl
  · refine ⟨_, ⟨10, 0x00A1, 1, s.rd SC_CTRL.SRC, s.masterLost.rd WD_TALLY.TALLY⟩, exec_masterLoss_lost hm hsrc hst, ?_, ?_, ?_, ?_, ?_⟩
    · exact (State.rd_raise_other (by decide)).trans ((State.rd_wr_other _ (by decide)).trans (State.rd_wr_fit (by decide)))
    · exact (State.rd_raise_other (by decide)).trans (State.rd_wr_fit (by decide))
    · exact State.rd_raise_bit (by decide)
    · exact (State.rd_raise_other (by decide)).trans ((State.rd_wr_other _ (by decide)).trans (State.rd_wr_other _ (by decide)))
    · rw [State.post_events, State.masterLost_events]

end Sys2Proof.Machine
end

section
/-! PROOF. Capture inputs and compare units of the Shift clock (O58; 19 R501 to R503). -/

namespace Sys2Proof.Machine

variable {s t : State} {ticks i j : Nat}

/-! ### Captures (R501) -/

/-- Which pins feed an input does not depend on the count. -/
theorem State.on_tick {g : Fld} {u : Nat} (h : g.id ≠ SC_COUNT.COUNT.id) : (s.tick ticks).on g u j = s.on g u j :=
  congrArg (fun n => decide (n ≠ 0)) (State.rd_tick_other h)

theorem State.mgPins_tick (s : State) (ticks k : Nat) : (s.tick ticks).mgPins k = s.mgPins k := by
  unfold State.mgPins
  rw [State.on_tick (g := IO_MG_EN.TIME_LOC) (by decide), State.on_tick (g := IO_MG_EN.TRACE_LOC) (by decide)]

theorem State.mgEnabled_tick (s : State) (ticks k : Nat) : (s.tick ticks).mgEnabled k = s.mgEnabled k := by
  unfold State.mgEnabled
  simp (disch := decide) only [State.on_tick]

theorem State.timeFeeds_tick (s : State) (ticks i : Nat) : (s.tick ticks).timeFeeds i = s.timeFeeds i := by
  unfold State.timeFeeds State.mgOwner State.mgHolders
  simp (disch := decide) only [State.mgPins_tick, State.mgEnabled_tick, State.rd_tick_other]

theorem exec_capture_unfed (hi : i < 2) (h : (s.timeFeeds i).length ≠ 1) : exec (.capture i ticks) s = .next (s.tick ticks) := by
  rw [exec_capture, execCapture, need_pos (decide_eq_true hi)]
  exact congrArg _ (if_pos (by rw [State.timeFeeds_tick]; exact h))

/-- An edge latches the time and sets its source, or `CAP_OVR` where that source was set already. -/
theorem exec_capture_fed (hi : i < 2) (h : (s.timeFeeds i).length = 1) : exec (.capture i ticks) s =
    .next (((s.tick ticks).wr SC_CAP.CAP (s.tick ticks).nowNs 0 i).raise SC_IRQ_STATUS.SRCS SC_IRQ_EN.EN SC_IRQ_EN.VECTOR
      (if (s.rd SC_IRQ_STATUS.SRCS).testBit (4 + i) then 9 else 4 + i)) := by
  have hsrcs : (s.tick ticks).bit SC_IRQ_STATUS.SRCS (4 + i) = (s.rd SC_IRQ_STATUS.SRCS).testBit (4 + i) :=
    congrArg (Nat.testBit · (4 + i)) (State.rd_tick_other (by decide))
  rw [exec_capture, execCapture, need_pos (decide_eq_true hi)]
  dsimp only
  rw [if_neg (by rw [State.timeFeeds_tick]; exact not_not.2 h), hsrcs]
  split <;> rfl

/-! ### Compare units (R502) -/

/-- The unit's window holds the time. -/
def State.inWindow (s : State) (j now : Nat) : Bool := decide (s.rd SC_CMP_START.START 0 j ≤ now) && decide (now < s.rd SC_CMP_END.END 0 j)

/-- The unit shows whether time is in its window. -/
def State.windowShown (s : State) (j ticks : Nat) : State :=
  (s.tick ticks).put SC_CMP_CTRL.IN (s.inWindow j (s.tick ticks).nowNs) 0 j

/-- Time enters the window. -/
def State.windowHit (s : State) (j now : Nat) : State :=
  let t := if s.bit SC_IRQ_STATUS.SRCS j then s else s.wr SC_CMP_HIT.HIT now 0 j
  let t := t.raise SC_IRQ_STATUS.SRCS SC_IRQ_EN.EN SC_IRQ_EN.VECTOR j
  if t.on SC_CMP_CTRL.OUT_EN 0 j then t.sh (fun x => { x with out := setBit x.out j }) else t

theorem exec_compareWindow_eq (hj : j < 4) : exec (.compareWindow j ticks) s = .next
    (let t := s.windowShown j ticks
     let u := s.tick ticks
     let inside := s.inWindow j u.nowNs
     if !s.on SC_CMP_CTRL.EN 0 j then t
     else if inside && !s.on SC_CMP_CTRL.IN 0 j then t.windowHit j u.nowNs
     else if s.on SC_CMP_CTRL.IN 0 j && !inside then t.sh (fun x => { x with out := clearBit x.out j })
     else if decide (u.prevNs < s.rd SC_CMP_START.START 0 j ∧ s.rd SC_CMP_START.START 0 j < s.rd SC_CMP_END.END 0 j ∧
         s.rd SC_CMP_END.END 0 j ≤ u.nowNs) then
       (t.wr SC_CMP_CTRL.MISS 1 0 j).raise SC_IRQ_STATUS.SRCS SC_IRQ_EN.EN SC_IRQ_EN.VECTOR 8
     else t) := by
  have hen : (s.windowShown j ticks).on SC_CMP_CTRL.EN 0 j = s.on SC_CMP_CTRL.EN 0 j :=
    congrArg (fun n => decide (n ≠ 0)) ((State.rd_put_other (by decide)).trans (State.rd_tick_other (by decide)))
  rw [exec_compareWindow, execCompareWindow, need_pos (decide_eq_true hj)]
  dsimp only
  rw [State.rd_tick_other (g := SC_CMP_START.START) (by decide),
    State.rd_tick_other (g := SC_CMP_END.END) (by decide), State.on_tick (g := SC_CMP_CTRL.IN) (by decide), ← hen]
  rfl

theorem State.inWindow_iff (s : State) (j now : Nat) :
    s.inWindow j now = true ↔ s.rd SC_CMP_START.START 0 j ≤ now ∧ now < s.rd SC_CMP_END.END 0 j := by
  simp [State.inWindow]

theorem State.rd_windowShown_in (s : State) (j ticks : Nat) :
    (s.windowShown j ticks).rd SC_CMP_CTRL.IN 0 j = b2n (s.inWindow j (s.tick ticks).nowNs) := State.rd_put_flag (by decide)

theorem State.rd_windowShown_other {g : Fld} {u k : Nat} (h1 : g.id ≠ SC_COUNT.COUNT.id) (h2 : g.id ≠ SC_CMP_CTRL.IN.id) :
    (s.windowShown j ticks).rd g u k = s.rd g u k := (State.rd_put_other h2).trans (State.rd_tick_other h1)

theorem State.windowShown_shift (s : State) (j ticks : Nat) : (s.windowShown j ticks).shift = s.shift := s.tick_shift ticks

theorem State.windowShown_regsKeptBut (s : State) (j ticks : Nat) :
    s.regsKeptBut (s.windowShown j ticks) [SC_COUNT.COUNT.key, SC_CMP_CTRL.IN.key 0 j] :=
  (State.regsKeptBut.refl.tick (by simp)).put (by simp)

/-- What time entering the window writes beside the source. -/
theorem State.rd_windowHit (s : State) (j now : Nat) {g : Fld} {u k : Nat} (h1 : g.id ≠ SC_CMP_HIT.HIT.id) (h2 : g.id ≠ SC_IRQ_STATUS.SRCS.id) :
    (s.windowHit j now).rd g u k = s.rd g u k := by
  unfold State.windowHit
  extract_lets a b
  have ha : a.rd g u k = s.rd g u k := by
    unfold a
    split
    · rfl
    · exact State.rd_wr_other _ h1
  have hb : b.rd g u k = s.rd g u k := (State.rd_raise_other h2).trans ha
  split
  · exact hb
  · exact hb

theorem State.windowHit_bit (s : State) (now : Nat) (hj : j < 4) : ((s.windowHit j now).rd SC_IRQ_STATUS.SRCS).testBit j = true := by
  have hj' : j < SC_IRQ_STATUS.SRCS.wid := Nat.lt_of_lt_of_le hj (by decide)
  unfold State.windowHit
  extract_lets a b
  split
  · exact State.rd_raise_bit hj'
  · exact State.rd_raise_bit hj'

/-- The time is latched where the source was clear. -/
theorem State.windowHit_hit (s : State) (j : Nat) {now : Nat} (hnow : now < 2 ^ 64) : (s.windowHit j now).rd SC_CMP_HIT.HIT 0 j =
    if (s.rd SC_IRQ_STATUS.SRCS).testBit j then s.rd SC_CMP_HIT.HIT 0 j else now := by
  unfold State.windowHit
  extract_lets a b
  have ha : a.rd SC_CMP_HIT.HIT 0 j = if (s.rd SC_IRQ_STATUS.SRCS).testBit j then s.rd SC_CMP_HIT.HIT 0 j else now := by
    unfold a
    split
    · rename_i h
      exact (if_pos h).symm
    · rename_i h
      exact (State.rd_wr_fit hnow).trans (if_neg h).symm
  have hb := (State.rd_raise_other (s := a) (st := SC_IRQ_STATUS.SRCS) (en := SC_IRQ_EN.EN) (ve := SC_IRQ_EN.VECTOR) (b := j) (u := 0) (j := j)
    (g := SC_CMP_HIT.HIT) (by decide)).trans ha
  split
  · exact hb
  · exact hb

/-- The output is driven where it is enabled. -/
theorem State.windowHit_out (s : State) (j now : Nat) : (s.windowHit j now).shift.out.testBit j =
    (decide (s.rd SC_CMP_CTRL.OUT_EN 0 j ≠ 0) || s.shift.out.testBit j) := by
  unfold State.windowHit
  extract_lets a b
  have ha : a.shift = s.shift := by
    unfold a
    split <;> rfl
  have hb : b.shift = s.shift := (State.raise_shift ..).trans ha
  have hen : b.on SC_CMP_CTRL.OUT_EN 0 j = decide (s.rd SC_CMP_CTRL.OUT_EN 0 j ≠ 0) := by
    refine congrArg (fun n => decide (n ≠ 0)) ((State.rd_raise_other (by decide)).trans ?_)
    unfold a
    split
    · rfl
    · exact State.rd_wr_other _ (by decide)
  rw [hen]
  split
  · rename_i h
    rw [State.sh_shift, hb, h, Bool.true_or]
    exact putBit_testBit_same _ _ true
  · rename_i h
    rw [hb, Bool.eq_false_of_not_eq_true h, Bool.false_or]

/-- The edge before the present one, in whole ns. -/
theorem State.AtEdge.prevNs {c x : Nat} {p : Int} (h : s.AtEdge ticks c x) (h0 : c ≠ 0) (he : c ≠ s.rd SC_EPOCH_COUNT.EPOCH_COUNT)
    (hp : p = (((s.rd SC_EPOCH_TIME.EPOCH_TIME * 2 ^ 48 + s.shift.epochFrac : Nat) : Int) +
      ((c : Int) - 1 - s.rd SC_EPOCH_COUNT.EPOCH_COUNT) * s.rd SC_INC.INC).emod (2 ^ 112) / 2 ^ 48) : ((s.tick ticks).prevNs : Int) = p := by
  have hepoch : (s.tick ticks).rd SC_EPOCH_COUNT.EPOCH_COUNT = s.rd SC_EPOCH_COUNT.EPOCH_COUNT := State.rd_tick_other (by decide)
  have hpred : ((c - 1 : Nat) : Int) = (c : Int) - 1 := by omega
  obtain ⟨x, hx⟩ := Int.eq_ofNat_of_zero_le (Int.emod_nonneg (((s.rd SC_EPOCH_TIME.EPOCH_TIME * 2 ^ 48 + s.shift.epochFrac : Nat) : Int) +
      ((c : Int) - 1 - s.rd SC_EPOCH_COUNT.EPOCH_COUNT) * s.rd SC_INC.INC) (show (2 : Int) ^ 112 ≠ 0 by decide))
  have hat : s.timeAt (c - 1) = x := State.timeAt_of_eq (by rw [hpred]; exact hx.symm)
  rw [State.prevNs, h.count, hepoch, if_neg he, State.timeAt_tick, hat]
  exact (hp.trans (congrArg (· / 2 ^ 48) hx)).symm

/-- Settles O58: a capture has one equation for an input that one pin feeds and one for any other, and an evaluation of a unit one, whose case
the unit's enable, its `IN` and the time decide. -/
theorem captureAndCompare : Obligations.CaptureAndCompare := by
  intro s i j ticks c x now hrun hc hx hnow
  have hedge := State.AtEdge.of_eq hrun hc hx
  have hns : (s.tick ticks).nowNs = now := hedge.nowNs.trans hnow.symm
  have hlt : now < 2 ^ 64 := by
    rw [hnow]
    exact Nat.div_lt_of_lt_mul hedge.lt
  refine ⟨fun hi h => ⟨_, exec_capture_unfed hi h, State.regsKeptBut.refl.tick (by simp), s.tick_regsOnly ticks⟩, fun hi h => ?fed,
    fun a b hj ha hb hen => ?off, fun a b hj ha hb hen hout hlo hhi => ?hit, fun a b hj ha hb hen hin hgone => ?gone,
    fun a b p hj ha hb hen hout h0 he hp hpa hab hbn => ?miss⟩
  case fed =>
    refine ⟨_, exec_capture_fed hi h, ?_, ?_⟩
    · rw [State.rd_raise_other (by decide), State.rd_wr_same, hns]
      exact Nat.mod_eq_of_lt hlt
    · split
      · exact State.rd_raise_bit (by decide)
      · exact State.rd_raise_bit (show 4 + i < 10 by omega)
  all_goals
    have hexec := exec_compareWindow_eq (s := s) (ticks := ticks) hj
    simp only [hns, State.on] at hexec
    subst ha hb
  case off =>
    simp only [hen, ne_eq, not_true_eq_false, decide_false, Bool.not_false, if_true] at hexec
    refine ⟨_, hexec, ?_, s.windowShown_regsKeptBut j ticks, s.tick_regsOnly ticks⟩
    rw [State.rd_windowShown_in, hns, b2n]
    exact if_congr (s.inWindow_iff j now) rfl rfl
  case hit =>
    have hinside := (s.inWindow_iff j now).2 ⟨hlo, hhi⟩
    simp only [hen, hout, hinside, ne_eq, not_true_eq_false, not_false_eq_true, decide_false, decide_true, Bool.not_false, Bool.not_true,
      Bool.and_self, Bool.false_eq_true, if_true, if_false] at hexec
    refine ⟨_, hexec, ?_, State.windowHit_bit _ now hj, ?_, ?_⟩
    · rw [State.rd_windowHit _ _ _ (by decide) (by decide), State.rd_windowShown_in, hns, hinside]
      rfl
    · rw [State.windowHit_hit _ _ hlt, State.rd_windowShown_other (by decide) (by decide), State.rd_windowShown_other (by decide) (by decide)]
    · rw [State.windowHit_out, State.rd_windowShown_other (by decide) (by decide), State.windowShown_shift]
  case gone =>
    have houtside : s.inWindow j now = false := by
      rw [← Bool.not_eq_true, State.inWindow_iff]
      omega
    simp only [hen, hin, houtside, ne_eq, not_false_eq_true, decide_true, Bool.not_false, Bool.not_true,
      Bool.and_self, Bool.false_eq_true, if_true, if_false] at hexec
    refine ⟨_, hexec, ?_, ?_, (s.windowShown_regsKeptBut j ticks).hidden rfl, ?_⟩
    · rw [State.rd_sh, State.rd_windowShown_in, hns, houtside]
      rfl
    · exact putBit_testBit_same _ _ false
    · rw [State.windowShown, State.tick_running hrun]
      rfl
  case miss =>
    have houtside : s.inWindow j now = false := by
      rw [← Bool.not_eq_true, State.inWindow_iff]
      omega
    have hprev : (s.tick ticks).prevNs < s.rd SC_CMP_START.START 0 j := by
      rw [← hedge.prevNs h0 he hp] at hpa
      exact_mod_cast hpa
    simp only [hen, hout, houtside, hprev, hab, hbn, ne_eq, not_true_eq_false, not_false_eq_true, and_self, decide_true, decide_false, Bool.not_false,
      Bool.not_true, Bool.and_true, Bool.false_eq_true, if_true, if_false] at hexec
    refine ⟨_, hexec, ?_, ?_, State.rd_raise_bit (by decide), ?_⟩
    · rw [State.rd_raise_other (by decide), State.rd_wr_other _ (by decide), State.rd_windowShown_in, hns, houtside]
      rfl
    · rw [State.rd_raise_other (by decide)]
      exact State.rd_wr_fit (by decide)
    · rw [State.rd_raise_other (by decide), State.rd_wr_other _ (by decide), State.rd_windowShown_other (by decide) (by decide)]

end Sys2Proof.Machine
end

section
/-! PROOF. The Lamp port: requests and responses, and the unlocking (O59; 20 R505 to R517). -/

namespace Sys2Proof.Machine

variable {s : State} {q : LampReq} {k : LampKind} {a : Answer}

/-! ### The bits of a request (R505) -/

/-- The size of the request's access. -/
def lampSize (q : LampReq) : Nat := if lampEight q then 8 else 4

theorem lampSize_eq (q : LampReq) : lampSize q = if q.bits / 2 ^ 5 % 2 = 1 then 8 else 4 := if_congr (bitAt_iff q.bits 5) rfl rfl

theorem lampCmd_eq (q : LampReq) : lampCmd q = q.bits / 2 % 16 := bitsOf_eq ..

theorem lampAddr_eq (q : LampReq) : lampAddr q = q.bits / 2 ^ 6 % 2 ^ 48 := bitsOf_eq ..

/-- The written bytes, beyond which `WDATA` is not used. -/
theorem lampData_mod (q : LampReq) : lampData q % 2 ^ (if lampEight q then 64 else 32) = q.bits / 2 ^ 54 % 2 ^ (8 * lampSize q) := by
  rw [lampData, bitsOf_eq, lampSize]
  split <;> omega

/-- The request's `CRC` passes. -/
def LampCrcGood (q : LampReq) : Prop := q.bits / 2 ^ (1 + lampCovered q) % 2 ^ 8 = crc8Of (lampCovered q) (q.bits / 2)

theorem lampCrcOk_iff (q : LampReq) : lampCrcOk q = true ↔ LampCrcGood q := by
  rw [lampCrcOk, decide_eq_true_iff, bitsOf_eq, LampCrcGood]

/-! ### Whether the port takes a request (R506, R512) -/

/-- The port's state once it has heard a good request: two-wire mode holds from the first one on. -/
def State.lampMode (s : State) (two : Bool) : State := if two then s.wr LP_STATUS.MODE 1 else s

/-- The port hears the request, and it begins with `START`. -/
def State.LampHeard (s : State) (q : LampReq) : Prop :=
  s.clk.lampHold = false ∧ (q.two = true ∨ s.rd LP_STATUS.MODE = 0) ∧ q.bits % 2 = 0

theorem State.lampHeard_deaf {cmd : Nat} {act : State → State}
    (h : s.clk.lampHold = true ∨ (q.two = false ∧ s.rd LP_STATUS.MODE = 1) ∨ q.bits % 2 = 1) : s.lampHeard q cmd act = s := by
  rw [State.lampHeard, if_pos]
  rcases h with h | ⟨h1, h2⟩ | h
  · simp [State.lampHears, h]
  · simp [State.lampHears, State.on, h1, h2]
  · simp [h]

theorem State.LampHeard.passes (h : s.LampHeard q) : (!s.lampHears q.two || q.bits.testBit 0) = false := by
  obtain ⟨hhold, hwire, hstart⟩ := h
  have hbit : q.bits.testBit 0 = false := by simp [hstart]
  rcases hwire with h | h <;> simp [State.lampHears, State.on, hhold, h, hbit]

theorem State.LampHeard.badCrc (h : s.LampHeard q) (hcrc : ¬ LampCrcGood q) (cmd : Nat) (act : State → State) :
    s.lampHeard q cmd act = (s.count LP_STATUS.CRC_ERR).emit (.lamp (lampBits 3 0)) := by
  rw [State.lampHeard, h.passes, if_neg Bool.false_ne_true, if_pos (by simp [Bool.eq_false_of_not_eq_true (mt (lampCrcOk_iff q).1 hcrc)])]

/-- A good request does what its command says, is BAD, or belongs to another row. -/
theorem State.LampHeard.good (h : s.LampHeard q) (hcrc : LampCrcGood q) (cmd : Nat) (act : State → State) : s.lampHeard q cmd act =
    if lampCmd q = cmd then act (s.lampMode q.two) else if lampCmd q = 0 ∨ 4 < lampCmd q then (s.lampMode q.two).emit (.lamp (lampBits 5 0)) else s := by
  rw [State.lampHeard, h.passes, if_neg Bool.false_ne_true, if_neg (by simp [(lampCrcOk_iff q).2 hcrc])]
  rfl

theorem State.rd_lampMode {f : Fld} (two : Bool) (h : f.id ≠ LP_STATUS.MODE.id) : (s.lampMode two).rd f = s.rd f := by
  unfold State.lampMode
  split
  · exact State.rd_wr_other s h
  · rfl

theorem State.lampMode_sent (s : State) (two : Bool) : (s.lampMode two).sent = s.sent := by
  unfold State.lampMode
  split <;> rfl

theorem State.lampMode_lamp (s : State) (two : Bool) : (s.lampMode two).lamp = s.lamp := by
  unfold State.lampMode
  split <;> rfl

theorem State.lampMode_halted (s : State) (two : Bool) : (s.lampMode two).halted = s.halted :=
  congrArg (fun n => decide (n ≠ 0)) (State.rd_lampMode two (by decide))

theorem State.lampMode_ready (s : State) (two : Bool) (b : Nat) : (s.lampMode two).ready b = s.ready b :=
  congrArg (Nat.testBit · b) (State.rd_lampMode two (by decide))

/-! ### The checks of an access (R506, R513, R514) -/

/-- The answer to a refused request. -/
def State.lampAnswered (s : State) (q : LampReq) (ack rdata : Nat) : State :=
  { s.lampMode q.two with sent := s.sent ++ [.lamp (lampBits ack rdata)] }

theorem State.emit_lampMode (s : State) (q : LampReq) (ack rdata : Nat) :
    (s.lampMode q.two).emit (.lamp (lampBits ack rdata)) = s.lampAnswered q ack rdata := by
  rw [State.emit, State.lampMode_sent]
  rfl

theorem State.LampHeard.refused (h : s.LampHeard q) (hcrc : LampCrcGood q) (hk : lampCmd q = k.cmd) {ack rdata : Nat}
    (hr : (s.lampMode q.two).lampRefuses q k = some (ack, rdata)) : s.lampRequest q k a = s.lampAnswered q ack rdata := by
  rw [State.lampRequest, h.good hcrc, if_pos hk, hr, ← State.emit_lampMode]

theorem State.LampHeard.accepted (h : s.LampHeard q) (hcrc : LampCrcGood q) (hk : lampCmd q = k.cmd)
    (hr : (s.lampMode q.two).lampRefuses q k = none) :
    s.lampRequest q k a = (s.lampMode q.two).lampAccess q k (q.bits / 2 ^ 54 % 2 ^ (8 * lampSize q)) a := by
  rw [State.lampRequest, h.good hcrc, if_pos hk, hr, lampData_mod]

theorem State.lampRefuses_eq (s : State) (q : LampReq) (k : LampKind) : (s.lampMode q.two).lampRefuses q k =
    if lampAddr q % lampSize q ≠ 0 then some (5, 0)
    else if s.rd EN_STATUS.HALTED ≠ 0 ∧ k ≠ .peek then some (4, 0)
    else if !levelAllows (s.rd LP_STATUS.LEVEL) k (lampAddr q) then some (1, 0)
    else if s.ready 0 = false ∧ foremanServes (lampAddr q) = false then some (2, 4)
    else none := by
  rw [State.lampRefuses, State.lampMode_halted, State.lampMode_ready, State.rd_lampMode _ (by decide)]
  simp [State.halted, State.on, lampSize]

theorem State.lampRefuses_align (h : lampAddr q % lampSize q ≠ 0) : (s.lampMode q.two).lampRefuses q k = some (5, 0) := by
  rw [State.lampRefuses_eq, if_pos h]

theorem State.lampRefuses_halt (h : lampAddr q % lampSize q = 0) (hh : s.rd EN_STATUS.HALTED = 1) (hk : k ≠ .peek) :
    (s.lampMode q.two).lampRefuses q k = some (4, 0) := by
  rw [State.lampRefuses_eq, if_neg (not_not.2 h), if_pos ⟨by omega, hk⟩]

theorem State.lampRefuses_level (h : lampAddr q % lampSize q = 0) (hh : s.rd EN_STATUS.HALTED = 0)
    (hl : levelAllows (s.rd LP_STATUS.LEVEL) k (lampAddr q) = false) : (s.lampMode q.two).lampRefuses q k = some (1, 0) := by
  rw [State.lampRefuses_eq, if_neg (not_not.2 h), if_neg (by simp [hh]), hl]
  rfl

theorem levelAllows_full {l : Nat} (h : 2 ≤ l) (k : LampKind) (n : Nat) : levelAllows l k n = true := if_pos h

theorem State.lampRefuses_foreman (h : lampAddr q % lampSize q = 0) (hh : s.rd EN_STATUS.HALTED = 0) (hl : 2 ≤ s.rd LP_STATUS.LEVEL)
    (hr : s.ready 0 = false) (hf : foremanServes (lampAddr q) = false) : (s.lampMode q.two).lampRefuses q k = some (2, 4) := by
  rw [State.lampRefuses_eq, if_neg (not_not.2 h), if_neg (by simp [hh]), levelAllows_full hl, if_neg (by decide), if_pos ⟨hr, hf⟩]

theorem State.lampRefuses_none (h : lampAddr q % lampSize q = 0) (hh : s.rd EN_STATUS.HALTED = 0) (hl : 2 ≤ s.rd LP_STATUS.LEVEL)
    (hr : s.ready 0 = true) : (s.lampMode q.two).lampRefuses q k = none := by
  rw [State.lampRefuses_eq, if_neg (not_not.2 h), if_neg (by simp [hh]), levelAllows_full hl, if_neg (by decide), if_neg (by simp [hr])]

/-! ### The accesses (R507 to R509) -/

theorem State.lampAccess_hole (h : windowOf (lampAddr q) = .hole) (data : Nat) : s.lampAccess q k data a =
    { s with lamp := { s.lamp with ack := 2, rdata := 2 }, sent := s.sent ++ [.lamp (lampBits 2 2)] } := by
  unfold State.lampAccess
  rw [h]
  rfl

theorem State.lampAccess_data (h : windowOf (lampAddr q) = .data) (data : Nat) : s.lampAccess q k data a =
    (let x := s.dataAccess 661 (lampAddr q) (lampSize q) (decide (k = .write)) data false a
     x.2.lampEnd (!decide (k = .write)) (lampSize q) x.1.status x.1.data x.1.poison) := by
  unfold State.lampAccess
  rw [h]
  rfl

theorem State.lampAccess_read (h : windowOf (lampAddr q) = .register) (hk : k ≠ .write) (data : Nat) : s.lampAccess q k data a =
    (let x := s.someTicks.regRead (lampAddr q) (lampSize q) .lamp (decide (k = .peek))
     x.2.2.2.lampEnd true (lampSize q) x.1 x.2.1 x.2.2.1) := by
  unfold State.lampAccess
  rw [h, decide_eq_false hk]
  rfl

theorem State.lampAccess_write (h : windowOf (lampAddr q) = .register) (data : Nat) : s.lampAccess q .write data a =
    (let x := s.someTicks.regWrite (lampAddr q) (lampSize q) data .lamp false false
     x.2.lampEnd false (lampSize q) x.1 0 false) := by
  unfold State.lampAccess
  rw [h]
  rfl

/-! ### Unlocking (R515 to R517) -/

theorem State.getRefused_iff (s : State) (l : Nat) : s.getRefused l = true ↔ s.crypto.owner = none ∨ 2 < l ∨ l ≤ s.rd LP_STATUS.LEVEL ∨
    s.rd LP_STATUS.MAX < l ∨ s.rd LP_STATUS.LOCKOUT ≠ 0 ∨ 16 ≤ s.rd LP_STATUS.FAIL_COUNT ∨ s.rd EN_STATUS.HALTED ≠ 0 := by
  simp [State.getRefused, State.on, State.halted, or_assoc]

theorem exec_get_refused {l : Nat} (h : s.getRefused l = true) : exec (.get l) s = .next (s.wr LP_STATUS.UNLOCK_ERR 1) := congrArg _ (if_pos h)

theorem State.wr_drawn (s : State) (g : Fld) (v u j : Nat) : s.drawn.wr g v u j = (s.wr g v u j).drawn := rfl

/-- A challenge of two free values. -/
theorem exec_get_drawn {l : Nat} (h : s.getRefused l = false) (hl : l ≤ 2) : exec (.get l) s =
    .next { ((s.wr LP_CHALLENGE.CHAL (s.draw 64) 0 0).wr LP_CHALLENGE.CHAL (s.drawn.draw 64) 0 1).wr
        LP_STATUS.CHAL_VALID 1 with freeCount := s.freeCount + 2, lamp := { s.lamp with want := l } } := by
  have hwant : l % 4 = l := Nat.mod_eq_of_lt (by omega)
  rw [exec_get, execGet, State.lampGet, h, if_neg Bool.false_ne_true, hwant]
  simp only [State.wr_drawn]
  rfl

theorem State.lampMatches_of_owner {k : Nat} (h : s.crypto.owner = some k) :
    s.lampMatches = decide (bytesOf 8 (s.lamp.resp.getD 0 0) ++ bytesOf 8 (s.lamp.resp.getD 1 0) = s.lampAnswer k) := by
  rw [State.lampMatches, h]

/-- A response that does not match counts and locks the port out. -/
def State.lampFailed (s : State) : State :=
  ((s.dropChallenge.wr LP_STATUS.FAIL_COUNT (min (s.rd LP_STATUS.FAIL_COUNT + 1) 255)).wr LP_STATUS.UNLOCK_ERR 1).wr LP_STATUS.LOCKOUT 1

theorem exec_submit_pending (h : s.rd LP_STATUS.CHAL_VALID = 1) :
    exec .submit s = .next (if s.lampMatches then s.dropChallenge.wr LP_STATUS.LEVEL s.lamp.want else s.lampFailed) := by
  have hon : s.on LP_STATUS.CHAL_VALID = true := (s.on_iff ..).2 (by omega)
  have hfail : s.dropChallenge.rd LP_STATUS.FAIL_COUNT = s.rd LP_STATUS.FAIL_COUNT :=
    (State.rd_wr_other _ (by decide)).trans ((State.rd_wr_other _ (by decide)).trans (State.rd_wr_other _ (by decide)))
  have hcount : s.dropChallenge.count LP_STATUS.FAIL_COUNT = s.dropChallenge.wr LP_STATUS.FAIL_COUNT (min (s.rd LP_STATUS.FAIL_COUNT + 1) 255) := by
    rw [State.count, hfail]
    rfl
  rw [exec_submit, execSubmit, State.lampSubmit, hon, if_neg (by decide), hcount, State.lampFailed]

theorem exec_submit_none (h : s.rd LP_STATUS.CHAL_VALID = 0) : exec .submit s = .next (s.wr LP_STATUS.UNLOCK_ERR 1) := by
  rw [exec_submit, execSubmit, State.lampSubmit, State.on_eq_false h]
  rfl

theorem exec_challengeExpiry_pending (h : s.rd LP_STATUS.CHAL_VALID = 1) : exec .challengeExpiry s = .next s.dropChallenge :=
  congrArg _ (if_pos ((s.on_iff ..).2 (by omega)))

theorem exec_challengeExpiry_none (h : s.rd LP_STATUS.CHAL_VALID = 0) : exec .challengeExpiry s = .next s :=
  congrArg _ (if_neg (by simp [State.on, h]))

/-! ### The obligation -/

/-- Settles O59: what a request's bits say picks the case of `lampHeard`, the checks that of `lampRefuses`, and its address the access. -/
theorem lampPort : Obligations.LampPort := by
  refine ⟨fun s u q a c n hc hu hn => ?_, fun s d l hd => ?_⟩
  · rw [← lampCmd_eq] at hc
    rw [← lampAddr_eq] at hn
    simp only [← lampSize_eq]
    replace hu : u = s.lampMode q.two := hu
    subst hc hn hu
    refine ⟨fun hdeaf => ?_, fun hhold hwire hstart => ⟨fun hbad t ht => ?_, fun hgood => ?_⟩⟩
    · have hstill (cmd : Nat) (act : State → State) : Host.Outcome.next (φ := Fault) (ρ := Refusal) (s.lampHeard q cmd act) = .next s :=
        congrArg _ (State.lampHeard_deaf hdeaf)
      exact ⟨hstill .., hstill .., hstill .., hstill ..⟩
    · have hh : s.LampHeard q := ⟨hhold, hwire, hstart⟩
      have hbadCrc (cmd : Nat) (act : State → State) : Host.Outcome.next (φ := Fault) (ρ := Refusal) (s.lampHeard q cmd act) = .next t :=
        congrArg _ ((hh.badCrc hbad cmd act).trans ht.symm)
      exact ⟨hbadCrc .., hbadCrc .., hbadCrc .., hbadCrc ..⟩
    · have hh : s.LampHeard q := ⟨hhold, hwire, hstart⟩
      have hrefused {k : LampKind} {ack rdata : Nat} (hk : lampCmd q = k.cmd) (hr : (s.lampMode q.two).lampRefuses q k = some (ack, rdata)) :
          Host.Outcome.next (φ := Fault) (ρ := Refusal) (s.lampRequest q k a) = .next (s.lampAnswered q ack rdata) :=
        congrArg _ (hh.refused hgood hk hr)
      refine ⟨fun hcmd t ht => ?_, fun h0 h5 => ?_, fun hcmd => ?_, fun halign t ht => ?_, fun halign hhalt t ht => ?_,
        fun halign hhalt hlevel t ht => ?_, fun halign hhalt hlevel hready hserves t ht => ?_, fun halign hhalt hlevel hready hwin t ht => ?_,
        fun halign hhalt hlevel hready hwin z x y hz hx hy => ?_, fun halign hhalt hlevel hready hwin z hz => ?_⟩
      · have hno (cmd : Nat) (act : State → State) (h1 : cmd ≠ 0) (h2 : cmd ≤ 4) :
            Host.Outcome.next (φ := Fault) (ρ := Refusal) (s.lampHeard q cmd act) = .next t := by
          rw [hh.good hgood, if_neg (by omega), if_pos hcmd, State.emit_lampMode, ht]
          rfl
        exact ⟨hno 1 _ (by decide) (by decide), hno 2 _ (by decide) (by decide), hno 3 _ (by decide) (by decide), hno 4 _ (by decide) (by decide)⟩
      · have hother (cmd : Nat) (act : State → State) (h : lampCmd q ≠ cmd) :
            Host.Outcome.next (φ := Fault) (ρ := Refusal) (s.lampHeard q cmd act) = .next s := by
          rw [hh.good hgood, if_neg h, if_neg (by omega)]
        exact ⟨hother 1 _, hother 2 _, hother 3 _, hother 4 _⟩
      · have hrepeat (act : State → State) : s.lampHeard q 4 act = act (s.lampMode q.two) := (hh.good hgood ..).trans (if_pos hcmd)
        refine congrArg _ ((hrepeat _).trans ?_)
        exact (congrArg (fun l => (s.lampMode q.two).emit (.lamp (lampBits l.ack l.rdata))) (State.lampMode_lamp s q.two)).trans
          (State.emit_lampMode ..)
      · have hr {k : LampKind} := State.lampRefuses_align (s := s) (k := k) halign
        exact ⟨fun hcmd => (hrefused (k := .peek) hcmd hr).trans (congrArg _ ht.symm),
          fun hcmd => (hrefused (k := .consume) hcmd hr).trans (congrArg _ ht.symm),
          fun hcmd => (hrefused (k := .write) hcmd hr).trans (congrArg _ ht.symm)⟩
      · have hr {k : LampKind} := State.lampRefuses_halt (s := s) (k := k) halign hhalt
        exact ⟨fun hcmd => (hrefused (k := .consume) hcmd (hr (by decide))).trans (congrArg _ ht.symm),
          fun hcmd => (hrefused (k := .write) hcmd (hr (by decide))).trans (congrArg _ ht.symm)⟩
      · have hlow : ¬2 ≤ s.rd LP_STATUS.LEVEL := Nat.not_le.2 hlevel
        have hr {k : LampKind} := State.lampRefuses_level (s := s) (k := k) halign hhalt
        exact ⟨fun hcmd => (hrefused (k := .consume) hcmd (hr (if_neg hlow))).trans (congrArg _ ht.symm),
          fun hcmd hlw => (hrefused (k := .write) hcmd (hr ((if_neg hlow).trans hlw))).trans (congrArg _ ht.symm),
          fun hcmd h0 hns => (hrefused (k := .peek) hcmd (hr ((if_neg hlow).trans (by simp [h0, hns])))).trans (congrArg _ ht.symm)⟩
      · have hr {k : LampKind} := State.lampRefuses_foreman (k := k) halign hhalt hlevel hready hserves
        exact ⟨fun hcmd => (hrefused (k := .peek) hcmd hr).trans (congrArg _ ht.symm),
          fun hcmd => (hrefused (k := .consume) hcmd hr).trans (congrArg _ ht.symm),
          fun hcmd => (hrefused (k := .write) hcmd hr).trans (congrArg _ ht.symm)⟩
      all_goals
        have haccepted {k : LampKind} (hk : lampCmd q = k.cmd) : Host.Outcome.next (φ := Fault) (ρ := Refusal) (s.lampRequest q k a) =
            .next ((s.lampMode q.two).lampAccess q k (q.bits / 2 ^ 54 % 2 ^ (8 * lampSize q)) a) :=
          congrArg _ (hh.accepted hgood hk (State.lampRefuses_none halign hhalt hlevel hready))
      · have hdone (k : LampKind) (data : Nat) : (s.lampMode q.two).lampAccess q k data a = t := by
          rw [State.lampAccess_hole hwin, State.lampMode_lamp, State.lampMode_sent, ht]
        exact ⟨fun hcmd => (haccepted (k := .peek) hcmd).trans (congrArg _ (hdone ..)),
          fun hcmd => (haccepted (k := .consume) hcmd).trans (congrArg _ (hdone ..)),
          fun hcmd => (haccepted (k := .write) hcmd).trans (congrArg _ (hdone ..))⟩
      · subst hz hx hy
        exact ⟨fun hcmd => (haccepted (k := .peek) hcmd).trans (congrArg _ (State.lampAccess_data hwin _)),
          fun hcmd => (haccepted (k := .consume) hcmd).trans (congrArg _ (State.lampAccess_data hwin _)),
          fun hcmd => (haccepted (k := .write) hcmd).trans (congrArg _ (State.lampAccess_data hwin _))⟩
      · subst hz
        exact ⟨fun hcmd => (haccepted (k := .peek) hcmd).trans (congrArg _ (State.lampAccess_read hwin (by decide) _)),
          fun hcmd => (haccepted (k := .consume) hcmd).trans (congrArg _ (State.lampAccess_read hwin (by decide) _)),
          fun hcmd => (haccepted (k := .write) hcmd).trans (congrArg _ (State.lampAccess_write hwin _))⟩
  · subst hd
    refine ⟨fun h => exec_get_refused ((s.getRefused_iff l).2 ?_), fun howner hl hlow hmax hout hfail hhalt => exec_get_drawn ?_ hl,
      fun h => ⟨exec_submit_none h, exec_challengeExpiry_none h⟩, fun h => ⟨exec_challengeExpiry_pending h, ?_⟩, rfl, rfl, rfl, rfl⟩
    · exact h.imp_right (by omega)
    · rw [← Bool.not_eq_true, State.getRefused_iff]
      simp only [howner, false_or]
      omega
    · rw [exec_submit_pending h]
      cases howner : s.crypto.owner with
      | none => rw [State.lampMatches, howner]; rfl
      | some k => 
        rw [State.lampMatches_of_owner howner]
        simp only [decide_eq_true_eq]
        rw [apply_ite Host.Outcome.next]
        rfl

end Sys2Proof.Machine
end

section
/-! PROOF. The Gallery's switches, tags and routes (O37; 13 R348 to R360). -/

namespace Sys2Proof.Machine

variable {s : State} {i c n g kind : Nat} {p : Packet} {q : Place} {r' : Route}

/-! ### A lost packet's record (R348, R352) -/

/-- The record of the first lost packet since `VALID` was cleared. -/
theorem State.galDrop_first (h : s.rd GL_ERR.VALID = 0) (kind place src : Nat) : s.galDrop kind place src =
    (let t := (((s.wr GL_ERR.VALID 1).wr GL_ERR.KIND kind).wr GL_ERR.WHERE place).wr GL_ERR.SRC src
     t.post 9 0x0090 2 (t.raw GL_ERR.regs)) := by
  rw [State.galDrop, State.on_eq_false h]
  rfl

/-- What the record reads. -/
theorem State.rd_galDrop_first (h : s.rd GL_ERR.VALID = 0) {place src : Nat} (hk : kind < 4) (hp : place < 4096) :
    (s.galDrop kind place src).rd GL_ERR.VALID = 1 ∧ (s.galDrop kind place src).rd GL_ERR.KIND = kind ∧
    (s.galDrop kind place src).rd GL_ERR.WHERE = place ∧ (s.galDrop kind place src).rd GL_ERR.SRC = src % 1024 := by
  rw [State.galDrop_first h]
  refine ⟨?_, ?_, ?_, ?_⟩
  · simp (disch := decide) only [State.rd_post, State.rd_wr_other]
    exact State.rd_wr_fit (by decide)
  · simp (disch := decide) only [State.rd_post, State.rd_wr_other]
    exact State.rd_wr_fit hk
  · simp (disch := decide) only [State.rd_post, State.rd_wr_other]
    exact State.rd_wr_fit hp
  · simp only [State.rd_post]
    exact State.rd_wr_same ..

theorem State.rd_galDrop_kind (h : s.rd GL_ERR.VALID = 0) {place src : Nat} (hk : kind < 4) : (s.galDrop kind place src).rd GL_ERR.KIND = kind := by
  rw [State.galDrop_first h]
  simp (disch := decide) only [State.rd_post, State.rd_wr_other]
  exact State.rd_wr_fit hk

theorem State.rd_galDrop_other {place src : Nat} {f : Fld} {u j : Nat} (h1 : f.id ≠ GL_ERR.VALID.id) (h2 : f.id ≠ GL_ERR.KIND.id)
    (h3 : f.id ≠ GL_ERR.WHERE.id) (h4 : f.id ≠ GL_ERR.SRC.id) : (s.galDrop kind place src).rd f u j = s.rd f u j := by
  simp only [State.galDrop, State.rd_post]
  split
  · rfl
  · rw [State.rd_wr_other _ h4, State.rd_wr_other _ h3, State.rd_wr_other _ h2, State.rd_wr_other _ h1]

theorem State.galDrop_gallery {place src : Nat} : (s.galDrop kind place src).gallery = s.gallery := by
  simp only [State.galDrop, State.post_gallery]
  split <;> rfl

theorem State.galDrop_sent {place src : Nat} : (s.galDrop kind place src).sent = s.sent := by
  simp only [State.galDrop, State.post_sent]
  split <;> rfl

/-! ### Hops (R346 to R349, R352) -/

theorem exec_packetHop_none (h : s.gallery.packets.length ≤ i) (x : Nat) (hu du : Bool) : exec (.packetHop i c x hu du) s = .next s := by
  rw [exec_packetHop, execPacketHop, List.getElem?_eq_none h]

theorem exec_packetHop_waits (hp : s.gallery.packets[i]? = some p) (hm : s.gallery.mayHop i p = false) (x : Nat) (hu du : Bool) :
    exec (.packetHop i c x hu du) s = .next s := by
  rw [exec_packetHop, execPacketHop, hp]
  simp [hm]

/-- An uncorrectable header loses the packet. -/
theorem exec_packetHop_header (hp : s.gallery.packets[i]? = some p) (hm : s.gallery.mayHop i p = true) (he : p.req.engine = none) (x : Nat) (du : Bool) :
    exec (.packetHop i c x true du) s =
      .next (((((s.count GL_STATUS.CE_COUNT c).dropPacket i).count GL_STATUS.HDR_DROP)).galDrop 1 p.place.code 0) := by
  rw [exec_packetHop, execPacketHop, hp]
  simp only [hm, Bool.not_true, Bool.false_eq_true, if_false, if_true, State.losePacket, he]

/-- The place and fields after the switch decide what becomes of a packet whose header is read. -/
theorem exec_packetHop_good (hp : s.gallery.packets[i]? = some p) (hm : s.gallery.mayHop i p = true) (hop : p.req.op < 5)
    (he : p.req.engine = none) (du : Bool) :
    exec (.packetHop i c 0 false du) s =
      (let t := s.count GL_STATUS.CE_COUNT c
       let lost := fun kind => ((t.dropPacket i).count GL_STATUS.ROUTE_ERR).galDrop kind p.place.code p.req.ni
       .next (match p.route.move p.place with
         | (.off, _) => lost 2
         | (.ni n, _) => if n = p.dst then (t.dropPacket i).emit (.delivered n { p.req with poison := p.bad || du } p.tag) else lost 3
         | (q, r') => t.gl (fun g => { g with packets := g.packets.set i { p with place := q, route := r', bad := p.bad || du } }))) := by
  rw [exec_packetHop, execPacketHop, hp]
  simp only [hm, Bool.not_true, Bool.false_eq_true, if_false, if_true, State.losePacket, he, if_neg (Nat.not_le.2 hop)] <;> rfl

/-- A packet that a switch sends on. -/
theorem exec_packetHop_moved (hp : s.gallery.packets[i]? = some p) (hm : s.gallery.mayHop i p = true) (hop : p.req.op < 5)
    (he : p.req.engine = none) (du : Bool) (hmove : p.route.move p.place = (q, r')) (hoff : q ≠ .off) (hni : ∀ n, q ≠ .ni n) :
    exec (.packetHop i c 0 false du) s = .next ((s.count GL_STATUS.CE_COUNT c).gl
      (fun g => { g with packets := g.packets.set i { p with place := q, route := r', bad := p.bad || du } })) := by
  rw [exec_packetHop_good hp hm hop he, hmove]
  cases q with
  | off => exact absurd rfl hoff
  | ni n => exact absurd rfl (hni n)
  | junction n => rfl
  | shaft k l => rfl
  | main => rfl

theorem exec_packetHop_delivered (hp : s.gallery.packets[i]? = some p) (hm : s.gallery.mayHop i p = true) (hop : p.req.op < 5)
    (he : p.req.engine = none) (du : Bool) (hmove : p.route.move p.place = (.ni p.dst, r')) :
    exec (.packetHop i c 0 false du) s =
      .next (((s.count GL_STATUS.CE_COUNT c).dropPacket i).emit (.delivered p.dst { p.req with poison := p.bad || du } p.tag)) := by
  rw [exec_packetHop_good hp hm hop he, hmove]
  exact congrArg _ (if_pos rfl)

theorem exec_packetHop_lost (hp : s.gallery.packets[i]? = some p) (hm : s.gallery.mayHop i p = true) (hop : p.req.op < 5)
    (he : p.req.engine = none)
    (h : (p.route.move p.place = (.ni n, p.route) ∧ n ≠ p.dst ∧ kind = 3) ∨ ((p.route.move p.place).1 = .off ∧ kind = 2)) :
    exec (.packetHop i c 0 false false) s =
      .next ((((s.count GL_STATUS.CE_COUNT c).dropPacket i).count GL_STATUS.ROUTE_ERR).galDrop kind p.place.code p.req.ni) := by
  rw [exec_packetHop_good hp hm hop he]
  obtain ⟨hmove, hne, rfl⟩ | ⟨hoff, rfl⟩ := h
  · rw [hmove]
    exact congrArg _ (if_neg hne)
  · rw [← Prod.mk.eta (p := p.route.move p.place), hoff]

/-! ### Tags (R356, R360) -/

theorem tagged_of_tagState {b : Bool} (h : s.tagState n g = some b) :
    s.gallery.tags.find? (fun t => decide (t.1 = n ∧ t.2.1 = g)) = some (n, g, b) := by
  obtain ⟨⟨n', g', b'⟩, hf, hb⟩ := Option.map_eq_some_iff.1 h
  have hk := List.find?_some hf
  simp only [decide_eq_true_eq] at hk
  obtain ⟨rfl, rfl⟩ := hk
  obtain rfl : b' = b := hb
  exact hf

theorem State.retryHeld_nothing_held (h : s.gallery.held = []) : s.retryHeld = s := by
  rw [State.retryHeld, h]
  calc s.gl (fun x => { x with held := [] }) = s.gl (fun x => { x with held := s.gallery.held }) := by rw [h]
    _ = s := rfl

/-- With nothing held, a tag that is freed goes and nothing else changes behind the registers. -/
theorem State.untag_nothing_held (h : s.gallery.held = []) (n g : Nat) : s.untag n g =
    (s.gl (fun x => { x with tags := x.tags.filter (fun t => !decide (t.1 = n ∧ t.2.1 = g)) })).showTags n := by
  exact congrArg (fun t : State => t.showTags n) (State.retryHeld_nothing_held (s := s.gl _) h)

theorem State.tagState_untag (h : s.gallery.held = []) (n g : Nat) : (s.untag n g).tagState n g = none := by
  rw [State.untag_nothing_held h, State.tagState, Option.map_eq_none_iff, List.find?_eq_none]
  intro t ht
  obtain ⟨-, hne⟩ := List.mem_filter.1 ht
  simpa [imp_iff_not_or] using hne

theorem State.untag_regsKeptBut (h : s.gallery.held = []) (n g : Nat) : s.regsKeptBut (s.untag n g) [GL_NI_STAT.OUTSTANDING.key 0 n] := by
  rw [State.untag_nothing_held h]
  exact (State.regsKeptBut.refl.hidden rfl).wr (by simp)

theorem State.untag_sent (h : s.gallery.held = []) (n g : Nat) : (s.untag n g).sent = s.sent := by
  rw [State.untag_nothing_held h]
  rfl

/-- An initiator without engines only hears the response. -/
theorem State.answerTag_headframe (h : n < 653 ∨ n = 661) (x d : Nat) (po : Bool) : s.answerTag n g x d po = s :=
  if_pos (by omega)

theorem exec_galleryResponse_free (hn : n < 662) (h : s.tagState n g = none) (x d : Nat) (po : Bool) : exec (.galleryResponse n g x d po) s = .next s := by
  rw [exec_galleryResponse, execGalleryResponse, need_pos (decide_eq_true hn), h]

theorem exec_galleryResponse_waited (hn : n < 662) (h : s.tagState n g = some false) (hi : n < 653 ∨ n = 661) (x d : Nat) (po : Bool) :
    exec (.galleryResponse n g x d po) s = .next ((s.untag n g).emit (.answered n g x d po)) := by
  rw [exec_galleryResponse, execGalleryResponse, need_pos (decide_eq_true hn), h]
  exact congrArg _ (State.answerTag_headframe hi ..)

theorem exec_galleryResponse_late (hn : n < 662) (h : s.tagState n g = some true) (x d : Nat) (po : Bool) :
    exec (.galleryResponse n g x d po) s = .next ((s.untag n g).count GL_NI_STAT.LATE 1 0 n) := by
  rw [exec_galleryResponse, execGalleryResponse, need_pos (decide_eq_true hn), h]

theorem exec_galleryTimeout_other (hn : n < 662) (h : s.tagState n g ≠ some false) : exec (.galleryTimeout n g) s = .next s := by
  rw [exec_galleryTimeout, execGalleryTimeout, need_pos (decide_eq_true hn), if_neg h]

theorem exec_tagRelease_other (hn : n < 662) (h : s.tagState n g ≠ some true) : exec (.tagRelease n g) s = .next s := by
  rw [exec_tagRelease, execTagRelease, need_pos (decide_eq_true hn), if_neg h]

theorem exec_tagRelease_quarantined (hn : n < 662) (h : s.tagState n g = some true) : exec (.tagRelease n g) s = .next (s.untag n g) := by
  rw [exec_tagRelease, execTagRelease, need_pos (decide_eq_true hn), if_pos h]

/-- The tags after a timeout: the one that waited is quarantined. -/
def quarantine (n g : Nat) (x : Gallery) : Gallery :=
  { x with tags := x.tags.map (fun t => if t.1 = n ∧ t.2.1 = g then (n, g, true) else t) }

theorem exec_galleryTimeout_waited (hn : n < 662) (h : s.tagState n g = some false) (hi : n < 653 ∨ n = 661) :
    exec (.galleryTimeout n g) s =
      .next (((s.gl (quarantine n g)).count GL_NI_STAT.TIMEOUTS 1 0 n).emit (.answered n g 3 0 false)) := by
  rw [exec_galleryTimeout, execGalleryTimeout, need_pos (decide_eq_true hn), if_pos h]
  exact congrArg _ (State.answerTag_headframe hi ..)

/-- The first tag that answers to a name is the first one marked quarantined. -/
theorem find_quarantined (n g : Nat) {l : List (Nat × Nat × Bool)} {b : Bool} (h : l.find? (fun t => decide (t.1 = n ∧ t.2.1 = g)) = some (n, g, b)) :
    (l.map (fun t => if t.1 = n ∧ t.2.1 = g then (n, g, true) else t)).find? (fun t => decide (t.1 = n ∧ t.2.1 = g)) = some (n, g, true) := by
  induction l with
  | nil => simp at h
  | cons a l ih =>
    by_cases ha : a.1 = n ∧ a.2.1 = g
    · simp [ha]
    · rw [List.find?_cons_of_neg (by simpa using ha)] at h
      rw [List.map_cons, if_neg ha, List.find?_cons_of_neg (by simpa using ha), ih h]

theorem State.tagState_quarantine {b : Bool} (h : s.tagState n g = some b) : (s.gl (quarantine n g)).tagState n g = some true := by
  rw [State.tagState, State.gl_gallery, quarantine, find_quarantined n g (tagged_of_tagState h)]
  rfl

/-! ### The obligation -/

/-- Settles O37: a hop is read off `Route.move` at the packet's place, and tags off `untag`. -/
theorem galleryHops : Obligations.GalleryHops := by
  intro s
  refine ⟨fun i h c x hu du => exec_packetHop_none h x hu du, fun i p hp hm c x hu du => exec_packetHop_waits hp hm x hu du,
    fun i c p hp hm he hop => ⟨fun x du hv hcode => ?_, fun n hpl h1 h2 h3 => ?_, fun n hpl h1 h2 h3 => ?_, fun n hpl h1 h2 h3 => ?_,
      fun n hpl h1 h2 h3 h4 => ?_, fun k l e hpl hl h9 => ?_, fun k hpl h11 => ?_, fun hpl hmg => ?_, fun hpl h4 h22 hd => ?_,
      fun n hpl h1 h2 h3 hd => ?_, fun n k hmove hv => ?_, fun hpl => ?_, fun hpl => ?_⟩,
    fun n g hn => ⟨fun h => ?_, fun h => exec_tagRelease_other hn (by simp [h]), fun x d po h hheld hi => ?_, fun x d po h hheld => ?_,
      fun h hi => ?_, fun h => exec_galleryTimeout_other hn (by simp [h]), fun h hheld => ?_⟩,
    fun n d v hn hd => ⟨fun h => ?_, fun h => ?_⟩⟩
  · obtain ⟨hvalid, hkind, hwhere, hsrc⟩ := State.rd_galDrop_first (s := ((s.count GL_STATUS.CE_COUNT c).dropPacket i).count GL_STATUS.HDR_DROP)
      (((State.rd_count_other (by decide)).trans (State.rd_count_other (by decide))).trans hv) (kind := 1) (src := 0) (by decide) hcode
    refine ⟨_, exec_packetHop_header hp hm he x du, by rw [State.galDrop_gallery]; rfl, ?_, ?_, hvalid, hkind, hwhere, hsrc⟩
    · rw [State.rd_galDrop_other (by decide) (by decide) (by decide) (by decide), State.rd_count_other (by decide)]
      exact (State.rd_count_same ..).trans (satAdd_mod ..)
    · rw [State.rd_galDrop_other (by decide) (by decide) (by decide) (by decide), State.rd_count_one]
      exact congrArg (fun v => min (v + 1) 65535) (State.rd_count_other (by decide))
  · have hmove : p.route.move p.place = (.junction (n + 1), { p.route with sx := p.route.sx - 1 }) := by
      rw [hpl, Route.move, if_pos h1, if_neg (by omega), if_neg (by omega)]
    refine ⟨_, exec_packetHop_moved hp hm hop he false hmove (by simp) (by simp), by rw [Bool.or_false]; rfl, ?_⟩
    exact (State.regsKeptBut.refl.count (by simp)).hidden rfl
  · have hmove : p.route.move p.place = (.junction (n - 1), { p.route with sx := p.route.sx - 1 }) := by
      rw [hpl, Route.move, if_pos h1, if_pos h2, if_neg h3]
    exact ⟨_, exec_packetHop_moved hp hm hop he false hmove (by simp) (by simp), by rw [Bool.or_false]; rfl⟩
  · have hmove : p.route.move p.place =
        (if n % 160 / 10 = 0 then .shaft (n / 160) false else .junction (n - 10), { p.route with sy := p.route.sy - 1 }) := by
      rw [hpl, Route.move, if_neg (by simp [h1]), if_pos h2, if_pos h3]
    exact ⟨_, exec_packetHop_moved hp hm hop he false hmove (by split <;> simp) (by intro m; split <;> simp), by rw [Bool.or_false]; rfl⟩
  · have hmove : p.route.move p.place = (.junction (n + 10), { p.route with dy := p.route.dy - 1 }) := by
      rw [hpl, Route.move, if_neg (by simp [h1]), if_neg (by simp [h2]), if_pos h3, if_neg (by omega)]
    exact ⟨_, exec_packetHop_moved hp hm hop he true hmove (by simp) (by simp), by rw [Bool.or_true]; rfl⟩
  · have hmove : p.route.move p.place = (.junction (160 * k + e), p.route) := by
      rw [hpl, Route.move, ← hl, if_pos (by omega), Nat.mul_comm]
    exact ⟨_, exec_packetHop_moved hp hm hop he false hmove (by simp) (by simp), by rw [Bool.or_false]; rfl⟩
  · have hmove : p.route.move p.place = (.main, p.route) := by
      rw [hpl, Route.move]
      simp [h11]
    exact ⟨_, exec_packetHop_moved hp hm hop he false hmove (by simp) (by simp), by rw [Bool.or_false]; rfl⟩
  · have hmove : p.route.move p.place = (.shaft p.route.mg true, p.route) := by
      rw [hpl, Route.move, if_pos hmg]
    exact ⟨_, exec_packetHop_moved hp hm hop he false hmove (by simp) (by simp), by rw [Bool.or_false]; rfl⟩
  · have hmove : p.route.move p.place = (.ni p.dst, p.route) := by
      rw [hpl, Route.move, if_neg (by omega), if_pos h22, hd]
    exact ⟨_, exec_packetHop_delivered hp hm hop he false hmove, rfl, by rw [Bool.or_false]; rfl⟩
  · have hmove : p.route.move p.place = (.ni p.dst, p.route) := by
      rw [hpl, Route.move, if_neg (by simp [h1]), if_neg (by simp [h2]), if_neg (by simp [h3]), hd]
    exact ⟨_, exec_packetHop_delivered hp hm hop he false hmove, rfl, by rw [Bool.or_false, hd]; rfl⟩
  · have hk : k < 4 := by omega
    refine ⟨_, exec_packetHop_lost hp hm hop he hmove, State.galDrop_sent, by rw [State.galDrop_gallery]; rfl, ?_, ?_⟩
    · rw [State.rd_galDrop_other (by decide) (by decide) (by decide) (by decide), State.rd_count_one]
      exact congrArg (fun v => min (v + 1) 65535) (State.rd_count_other (by decide))
    · exact State.rd_galDrop_kind (s := ((s.count GL_STATUS.CE_COUNT c).dropPacket i).count GL_STATUS.ROUTE_ERR)
        (((State.rd_count_other (by decide)).trans (State.rd_count_other (by decide))).trans hv) hk
  · refine ⟨_, ?_, rfl⟩
    rw [exec_agePromotion, execAgePromotion, hp]
    exact congrArg _ (if_pos hpl)
  · rw [exec_agePromotion, execAgePromotion, hp]
    exact congrArg _ (if_neg hpl)
  · exact ⟨exec_galleryTimeout_other hn (by simp [h]), exec_tagRelease_other hn (by simp [h]), fun x d po => exec_galleryResponse_free hn h x d po⟩
  · refine ⟨_, exec_galleryResponse_waited hn h hi x d po, State.tagState_untag hheld n g, ?_, (State.untag_regsKeptBut hheld n g).hidden rfl⟩
    exact congrArg (· ++ [Emission.answered n g x d po]) (State.untag_sent hheld n g)
  · refine ⟨_, exec_galleryResponse_late hn h x d po, State.tagState_untag hheld n g, State.untag_sent hheld n g, ?_, ?_⟩
    · rw [State.rd_count_one, State.untag_nothing_held hheld]
      exact congrArg (fun v => min (v + 1) 65535) (State.rd_wr_other _ (by decide))
    · exact State.regsKeptBut.count (by simp) (fun f u j hf => State.untag_regsKeptBut hheld n g f u j (by simp at hf ⊢; tauto))
  · refine ⟨_, exec_galleryTimeout_waited hn h hi, State.tagState_quarantine h, rfl, State.rd_count_one .., ?_⟩
    exact State.regsKeptBut.hidden (State.regsKeptBut.count (t := s.gl (quarantine n g)) (by simp) (State.regsKeptBut.refl.hidden rfl)) rfl
  · exact ⟨_, exec_tagRelease_quarantined hn h, State.tagState_untag hheld n g, State.untag_sent hheld n g, State.untag_regsKeptBut hheld n g⟩
  · have hfields (f : Fld) (hf : f ∈ GL_ROUTE.regs) : (s.setFields GL_ROUTE.regs v 0 (routeIdx n d)).rd f 0 (routeIdx n d) = bitsOf v f.lsb f.wid :=
      State.rd_setFields (by decide) hf s v 0 (routeIdx n d)
    refine ⟨s.setFields GL_ROUTE.regs v 0 (routeIdx n d), ?_, ?_⟩
    · rw [exec_routeWrite, execRouteWrite, need_pos (by simp [hn, hd]), State.writeRoute, if_pos h]
    · refine ⟨(hfields _ (by decide)).trans ?_, (hfields _ (by decide)).trans ?_, (hfields _ (by decide)).trans ?_,
        (hfields _ (by decide)).trans ?_, (hfields _ (by decide)).trans ?_, (hfields _ (by decide)).trans ?_, (hfields _ (by decide)).trans ?_, rfl⟩
      all_goals simp [bitsOf_eq, GL_ROUTE.SX, GL_ROUTE.SY, GL_ROUTE.SJ, GL_ROUTE.MG, GL_ROUTE.DSJ, GL_ROUTE.DY, GL_ROUTE.VALID]
  · refine ⟨s.wr GL_CTRL.CFG_ERR 1, ?_, State.rd_wr_fit (by decide), State.regsKeptBut.refl.wr (by simp), rfl⟩
    rw [exec_routeWrite, execRouteWrite, need_pos (by simp [hn, hd]), State.writeRoute, h]
    rfl

end Sys2Proof.Machine
end

section
/-! PROOF. A Tram engine at an eligible boundary: what one issue does, for the proofs below (16 R412 to R414, 17 R459). -/

namespace Sys2Proof.Machine

/-- A second value at a key takes the place of the first. -/
theorem Tab.erase_erase {κ α : Type} [DecidableEq κ] (t : List (κ × α)) (k : κ) : Tab.erase (Tab.erase t k) k = Tab.erase t k := by
  simp [Tab.erase, List.filter_filter]

theorem Tab.erase_insert {κ α : Type} [DecidableEq κ] (lt : κ → κ → Bool) (t : List (κ × α)) (k : κ) (v : α) :
    Tab.erase (Tab.insert lt t k v) k = Tab.erase t k := by
  induction t with
  | nil => simp [Tab.insert, Tab.erase]
  | cons p r ih =>
    obtain ⟨k', v'⟩ := p
    simp only [Tab.insert]
    split
    · simp [Tab.erase, List.filter_cons]
    · simp only [Tab.erase, List.filter_cons] at ih ⊢
      rw [ih]

theorem Tab.set_set {κ α : Type} [DecidableEq κ] [DecidableEq α] (lt : κ → κ → Bool) (d : α) (t : List (κ × α)) (k : κ) (a b : α) :
    Tab.set lt d (Tab.set lt d t k a) k b = Tab.set lt d t k b := by
  have herase : Tab.erase (Tab.set lt d t k a) k = Tab.erase t k := by
    rw [Tab.set]
    split
    · exact Tab.erase_erase ..
    · exact (Tab.erase_insert ..).trans (Tab.erase_erase ..)
  rw [Tab.set, herase, Tab.set]

variable {s t : State} {e w : Nat} {v : TramView} {x y : Engine} {r : TramRow} {body : Body}

/-! ### The engine in the state -/

@[simp] theorem State.eng_setEng_same (s : State) (e : Nat) (x : Engine) : (s.setEng e x).eng e = x := Tab.get_set_same ..

@[simp] theorem State.setEng_setEng (s : State) (e : Nat) (x y : Engine) : (s.setEng e x).setEng e y = s.setEng e y :=
  congrArg (fun l => { s with tram := { s.tram with engines := l } }) (Tab.set_set ..)

@[simp] theorem State.updEng_setEng (s : State) (e : Nat) (x : Engine) (f : Engine → Engine) : (s.setEng e x).updEng e f = s.setEng e (f x) := by
  rw [State.updEng, State.eng_setEng_same, State.setEng_setEng]

theorem State.setEng_wr (s : State) (e : Nat) (x : Engine) (f : Fld) (n u j : Nat) : (s.wr f n u j).setEng e x = (s.setEng e x).wr f n u j := rfl

theorem State.updEng_wr (s : State) (e : Nat) (g : Engine → Engine) (f : Fld) (n u j : Nat) : (s.wr f n u j).updEng e g = (s.updEng e g).wr f n u j := rfl

@[simp] theorem State.eng_wr (s : State) (f : Fld) (n u j e : Nat) : (s.wr f n u j).eng e = s.eng e := rfl

@[simp] theorem State.rd_setEng (s : State) (e : Nat) (x : Engine) (f : Fld) (u j : Nat) : (s.setEng e x).rd f u j = s.rd f u j := rfl

@[simp] theorem State.on_setEng (s : State) (e : Nat) (x : Engine) (f : Fld) (u j : Nat) : (s.setEng e x).on f u j = s.on f u j := rfl

/-- A HALT that is not due does not act. -/
theorem State.haltAtBoundary_none (h : (s.eng e).haltDue = false) : s.haltAtBoundary e = s := by
  rw [State.haltAtBoundary, h]
  rfl

/-! ### An eligible boundary -/

/-- What `standsAt` says, by parts: `x` is the engine. -/
structure Stands (s : State) (e w : Nat) (x : Engine) : Prop where
  lt : e < 64
  eng : s.eng e = x
  can : s.canIssue e = true
  gOld : x.gOld = []
  accOld : x.accOld = []
  kOld : x.kOld = []
  stores : x.stores = []
  branch : x.branch = none
  rep : x.rep = none
  wait : x.wait = none
  haltDue : x.haltDue = false
  imemOld : x.imemOld = []
  stepOver : x.stepOver = false
  step : s.on TR_STATUS.MON e = true ∨ s.on TR_DBG_CTRL.STEP e = false
  good : s.wordErr (imemBase e + s.rd TR_PC.PC e) = 0
  word : s.fetchWord e = w

theorem Stands.of (h : s.standsAt e w = true) (hx : x = s.eng e) : Stands s e w x := by
  subst hx
  simp only [State.standsAt, Engine.eligible, Bool.and_eq_true, Bool.not_eq_true', Bool.or_eq_true, decide_eq_true_eq,
    List.isEmpty_iff, Option.isNone_iff_eq_none] at h
  obtain ⟨⟨⟨⟨⟨⟨⟨⟨hlt, hcan⟩, ⟨⟨⟨⟨⟨⟨hg, hacc⟩, hk⟩, hst⟩, hbr⟩, hrep⟩, hwait⟩⟩, hhalt⟩, himem⟩, hover⟩, hstep⟩, hgood⟩, hword⟩ := h
  exact ⟨hlt, rfl, hcan, hg, hacc, hk, hst, hbr, hrep, hwait, hhalt, himem, hover, hstep.symm, hgood, hword⟩

theorem Stands.eligible (h : Stands s e w x) : x.eligible = true := by
  simp [Engine.eligible, h.gOld, h.accOld, h.kOld, h.stores, h.branch, h.rep, h.wait]

/-- The gaps are empty already. -/
theorem Stands.noOld (h : Stands s e w x) : x.noOld = x := by
  obtain ⟨-, -, -, hg, hacc, hk, -⟩ := h
  cases x
  cases hg; cases hacc; cases hk
  rfl

theorem Stands.running (h : Stands s e w x) : s.rd TR_STATUS.STATE e = 1 := by
  have := h.can
  simp only [State.canIssue, Bool.and_eq_true, decide_eq_true_eq] at this
  exact this.1.1.1

theorem Stands.notHeld (h : Stands s e w x) : s.pushHeld e = false := by
  have := h.can
  simp only [State.canIssue, Bool.and_eq_true, Bool.not_eq_true'] at this
  exact this.1.2

/-- No debug cause waits at the boundary. -/
theorem Stands.dbgCauses (h : Stands s e w x) : s.dbgCauses e = 0 := by
  have hcan := h.can
  simp only [State.canIssue, h.eng, h.eligible, Bool.true_and, Bool.and_eq_true, Bool.not_eq_true', Bool.or_eq_false_iff] at hcan
  simpa using hcan.2.1

/-- Outside the monitor the engine has no debug cause noted and no breakpoint at its next word. -/
theorem Stands.quiet (h : Stands s e w x) (hmon : s.on TR_STATUS.MON e = false) : x.dbg = 0 ∧ s.bpAt e (s.rd TR_PC.PC e) = false := by
  have hc := h.dbgCauses
  rw [State.dbgCauses, hmon, if_neg Bool.false_ne_true, h.eng, h.stepOver, Nat.or_eq_zero_iff] at hc
  exact ⟨hc.1, by simpa using hc.2⟩

/-! ### Fields of a word (17 R443) -/

theorem rowNames_iff {op zeros : Nat} {flow : Bool} : rowNames ⟨op, none, zeros, flow⟩ w = true ↔ w / 2 ^ 26 % 64 = op := by
  simp [rowNames, bitsOf_eq]

theorem rowNames_func_iff {op func zeros : Nat} {flow : Bool} :
    rowNames ⟨op, some func, zeros, flow⟩ w = true ↔ w / 2 ^ 26 % 64 = op ∧ w % 64 = func := by
  simp [rowNames, bitsOf_eq]

theorem fD_eq (w : Nat) : fD w = w / 2 ^ 21 % 32 := bitsOf_eq ..
theorem fS_eq (w : Nat) : fS w = w / 2 ^ 16 % 32 := bitsOf_eq ..
theorem fT_eq (w : Nat) : fT w = w / 2 ^ 11 % 32 := bitsOf_eq ..

/-! ### Issue -/

/-- A word without errors is read as it is. -/
theorem State.checkWord_good {a : Nat} (h : s.wordErr a = 0) (src : Nat) : s.checkWord a 0 src = (false, s) := by
  simp [State.checkWord, h]

/-- An engine that may issue, at a word without errors that the row names. -/
structure Fetches (s : State) (r : TramRow) (e w : Nat) (v : TramView) : Prop where
  lt : e < 64
  can : s.canIssue e = true
  good : s.wordErr (imemBase e + s.rd TR_PC.PC e) = 0
  clean : v.fetchErrs = 0
  word : s.fetchWord e = w
  names : rowNames r w = true

theorem Fetches.issue (h : Fetches s r e w v) : s.issue r body e v = .next
    (if w &&& r.zero ≠ 0 ∨ (r.flow ∧ ((s.eng e).branch.isSome ∨ (s.eng e).rep.isSome)) then s.raiseExc e 1 0
     else s.finishIssue e (s.eng e) (body (s.eng e) w e (s.updEng e Engine.noOld))) := by
  rw [State.issue, need_pos (decide_eq_true h.lt), h.can]
  simp only [Bool.not_true, Bool.false_eq_true, if_false, h.clean, State.checkWord_good h.good, h.word, h.names]

/-- A word with wrong bits, or of a row of the flow of control within a slot or a block, raises ILLEGAL. -/
theorem Fetches.issue_illegal (h : Fetches s r e w v) (hbad : w &&& r.zero ≠ 0 ∨ (r.flow ∧ ((s.eng e).branch.isSome ∨ (s.eng e).rep.isSome))) :
    s.issue r body e v = .next (s.raiseExc e 1 0) := by
  rw [h.issue, if_pos hbad]

theorem Stands.fetches (h : Stands s e w x) (hv : v.fetchErrs = 0) (hrow : rowNames r w = true) : Fetches s r e w v :=
  ⟨h.lt, h.can, h.good, hv, h.word, hrow⟩

/-- A word with wrong bits raises ILLEGAL. -/
theorem Stands.issue_illegal (h : Stands s e w x) (hv : v.fetchErrs = 0) (hrow : rowNames r w = true) (hz : w &&& r.zero ≠ 0) :
    s.issue r body e v = .next (s.raiseExc e 1 0) := (h.fetches hv hrow).issue_illegal (.inl hz)

/-- A word of another row is not this instruction's to issue. -/
theorem Stands.issue_other (h : Stands s e w x) (hv : v.fetchErrs = 0) (hrow : rowNames r w = false) : s.issue r body e v = .next s := by
  rw [State.issue, need_pos (decide_eq_true h.lt), h.can]
  simp only [Bool.not_true, Bool.false_eq_true, if_false, hv, State.checkWord_good h.good, h.word, hrow, Bool.not_false, if_true]

/-- A legal word has its row's effect, on a state whose engine is `x`. -/
theorem Stands.issue (h : Stands s e w x) (hv : v.fetchErrs = 0) (hrow : rowNames r w = true) (hz : w &&& r.zero = 0) :
    s.issue r body e v = .next (s.finishIssue e x (body x w e (s.setEng e x))) := by
  rw [(h.fetches hv hrow).issue, if_neg (by simp [hz, h.eng, h.branch, h.rep]), State.updEng, h.eng, h.noOld]

/-- With no store or old word in a gap and no debug cause to note, the address moves on and the branch and the block follow. -/
theorem State.retire_quiet {mon : Bool} (hstores : x.stores = []) (himem : x.imemOld = []) (hover : x.stepOver = false) (hy : t.eng e = y)
    (hhalt : y.haltDue = false)
    (hquiet : mon = true ∨ t.on TR_DBG_CTRL.STEP e = false ∧
      (Engine.eligible { x with wait := none } = true ∨ t.bpAt e (t.rd TR_PC.PC e) = false)) (ctl : Ctl) : t.retire e x mon ctl =
      (t.setEng e { y with branch := (x.flow (t.rd TR_PC.PC e) ctl).2.1, rep := (x.flow (t.rd TR_PC.PC e) ctl).2.2 }).wr TR_PC.PC
        (x.flow (t.rd TR_PC.PC e) ctl).1 e := by
  have hcause : (if mon then 0 else (if t.on TR_DBG_CTRL.STEP e then 8 else 0) |||
      (if !Engine.eligible { x with wait := none } && t.bpAt e (t.rd TR_PC.PC e) then 2 else 0)) = 0 := by
    rcases hquiet with hmon | ⟨hoff, hsee | hbp⟩
    · rw [if_pos hmon]
    · simp [hoff, hsee]
    · simp [hoff, hbp]
  rw [State.retire]
  rcases x.flow (t.rd TR_PC.PC e) ctl with ⟨pc, br, rp⟩
  dsimp only
  rw [hcause, hy, hstores, himem, hover]
  refine (State.haltAtBoundary_none ?_).trans ?_
  · exact (congrArg Engine.haltDue (State.eng_setEng_same ..)).trans hhalt
  · simp [State.landStores]

/-- An instruction at an eligible boundary that has its effect goes on where its control says. -/
theorem Stands.retire (h : Stands s e w x) (hy : t.eng e = y) (hhalt : y.haltDue = false) (hstep : t.on TR_DBG_CTRL.STEP e = s.on TR_DBG_CTRL.STEP e)
    (ctl : Ctl) : t.retire e x (s.on TR_STATUS.MON e) ctl =
      (t.setEng e { y with branch := (x.flow (t.rd TR_PC.PC e) ctl).2.1, rep := (x.flow (t.rd TR_PC.PC e) ctl).2.2 }).wr TR_PC.PC
        (x.flow (t.rd TR_PC.PC e) ctl).1 e :=
  State.retire_quiet h.stores h.imemOld h.stepOver hy hhalt
    (h.step.imp_right fun hoff => ⟨hstep.trans hoff, .inl (by simpa [Engine.eligible, h.wait] using h.eligible)⟩) ctl

/-- Past the branch slots and repeat blocks the next word follows. -/
theorem Stands.flow_next (h : Stands s e w x) (pc : Nat) : x.flow pc .next = ((pc + 4) % 65536, none, none) := by
  simp [Engine.flow, h.branch, h.rep]

/-- What a plain instruction leaves of an engine's place in its program. -/
def Engine.place (x : Engine) : Option (Nat × Nat × Nat) × Option (Nat × Nat × Nat) × Bool := (x.branch, x.rep, x.haltDue)

@[simp] theorem Engine.place_wg (x : Engine) (d : Nat) (n : Word) : (x.wg d n).place = x.place := by
  unfold Engine.wg
  split <;> rfl

@[simp] theorem Engine.place_wgLate (x : Engine) (d : Nat) (n : Word) : (x.wgLate d n).place = x.place := Engine.place_wg x d n
@[simp] theorem Engine.place_wacc (x : Engine) (m : Nat) (n : Acc72) : (x.wacc m n).place = x.place := rfl
@[simp] theorem Engine.place_sticky (x : Engine) (b : Bool) : (x.sticky b).place = x.place := rfl
@[simp] theorem Engine.place_wkLate (x : Engine) (sel m : Nat) (n : Word) : (x.wkLate sel m n).place = x.place := rfl
@[simp] theorem Engine.place_wk (x : Engine) (m : Nat) (n : Word) : (x.wk m n).place = x.place := rfl

theorem Stands.place (h : Stands s e w x) : x.place = (none, none, false) := by
  rw [Engine.place, h.branch, h.rep, h.haltDue]

/-- An instruction that changes registers besides its engine and goes on to the next word. -/
theorem Stands.retire_next (h : Stands s e w x) (ht : t.eng e = y) (hy : y.place = x.place)
    (hstep : t.on TR_DBG_CTRL.STEP e = s.on TR_DBG_CTRL.STEP e) : t.retire e x (s.on TR_STATUS.MON e) .next = t.issued e y := by
  rw [h.place] at hy
  obtain ⟨hbr, hrep, hhalt⟩ : y.branch = none ∧ y.rep = none ∧ y.haltDue = false := by simpa [Engine.place] using hy
  have hself : { y with branch := none, rep := none } = y := by
    cases y
    cases hbr
    cases hrep
    rfl
  rw [h.retire ht hhalt hstep, h.flow_next]
  exact congrArg (fun z => (t.setEng e z).wr TR_PC.PC ((t.rd TR_PC.PC e + 4) % 65536) e) hself

/-- A plain instruction: only its engine changes, and the next word follows. -/
theorem Stands.issue_plain (h : Stands s e w x) (hv : v.fetchErrs = 0) (hrow : rowNames r w = true) (hz : w &&& r.zero = 0) {f : Engine → Engine}
    (hbody : body x w e (s.setEng e x) = .done ((s.setEng e x).updEng e f) .next) (hf : (f x).place = x.place) :
    s.issue r body e v = .next (s.issued e (f x)) := by
  rw [h.issue hv hrow hz, hbody, State.updEng_setEng, State.finishIssue, h.retire_next (State.eng_setEng_same ..) hf rfl, State.issued,
    State.setEng_setEng]
  rfl

/-- The exception that an instruction raises is the one that its place raises. -/
theorem State.raiseExc_setEng (s : State) (e cause eaddr : Nat) : (s.setEng e (s.eng e)).raiseExc e cause eaddr = s.raiseExc e cause eaddr := by
  have hup (f : Engine → Engine) : (s.setEng e (s.eng e)).updEng e f = s.updEng e f := by rw [State.updEng_setEng]; rfl
  simp only [State.raiseExc, hup, State.eng_setEng_same, State.rd_setEng]

theorem Stands.issue_exc (h : Stands s e w x) (hv : v.fetchErrs = 0) (hrow : rowNames r w = true) (hz : w &&& r.zero = 0) {cause eaddr : Nat}
    (hbody : body x w e (s.setEng e x) = .exc (s.setEng e x) cause eaddr) : s.issue r body e v = .next (s.raiseExc e cause eaddr) := by
  rw [h.issue hv hrow hz, hbody, State.finishIssue, ← h.eng, State.raiseExc_setEng]

end Sys2Proof.Machine
end

section
/-! PROOF. The integer instructions of a Tram engine (O42; 17 R445 to R447). -/

namespace Sys2Proof.Machine

variable {s : State} {e w k zeros op : Nat} {v : TramView} {x : Engine}

/-! ### Words and limits -/

theorem byteSum_lt (s : State) (a n : Nat) : s.load a n < 2 ^ (8 * n) := by
  unfold State.load
  induction n with
  | zero => simp
  | succ n ih =>
    rw [List.range_succ, List.foldl_append, List.foldl_cons, List.foldl_nil]
    have hb := (s.byte (a + n)).isLt
    calc (List.range n).foldl (fun v i => v + (s.byte (a + i)).toNat * 2 ^ (8 * i)) 0 + (s.byte (a + n)).toNat * 2 ^ (8 * n)
        < 2 ^ (8 * n) + (s.byte (a + n)).toNat * 2 ^ (8 * n) := Nat.add_lt_add_right ih _
      _ = ((s.byte (a + n)).toNat + 1) * 2 ^ (8 * n) := by ring
      _ ≤ 2 ^ 8 * 2 ^ (8 * n) := Nat.mul_le_mul_right _ hb
      _ = 2 ^ (8 * (n + 1)) := by rw [← Nat.pow_add]; congr 1; omega

/-- The next word is one of 32 bits. -/
theorem Stands.word_lt (h : Stands s e w x) : w < 2 ^ 32 := by
  have hw := h.word
  rw [State.fetchWord, h.eng, h.imemOld] at hw
  exact hw ▸ byteSum_lt s _ 4

theorem testBit_iff_div (w i : Nat) : w.testBit i = decide (w / 2 ^ i % 2 = 1) := Nat.testBit_eq_decide_div_mod_eq

theorem bit10_off (h : w / 1024 % 2 = 0) : w.testBit 10 = false := by
  rw [testBit_iff_div, decide_eq_false_iff_not]
  omega

theorem bit10_on (h : w / 1024 % 2 = 1) : w.testBit 10 = true := by
  rw [testBit_iff_div, decide_eq_true_eq]
  exact h

/-- A true result that fits one bit more than `m` needs no limit. -/
theorem satInt_fits {m : Nat} {r : Int} (h1 : -2 ^ m ≤ r) (h2 : r < 2 ^ m) : satInt (m + 1) r = (r, false) := by
  rw [satInt, Nat.add_sub_cancel, if_neg (by omega), if_neg (by omega)]

theorem satInt_high {m : Nat} {r : Int} (h : 2 ^ m ≤ r) : satInt (m + 1) r = (2 ^ m - 1, true) := by
  rw [satInt, Nat.add_sub_cancel, if_pos (by omega)]

theorem satInt_low {m : Nat} {r : Int} (h : r < -2 ^ m) : satInt (m + 1) r = (-2 ^ m, true) := by
  have : (0 : Int) < 2 ^ m := Int.pow_pos (by decide)
  rw [satInt, Nat.add_sub_cancel, if_neg (by omega), if_pos h]

/-- A result and whether it was limited, `on` being the S bit. -/
def limited (n : Nat) (on : Bool) (r : Int) : Int × Bool := if on then satInt n r else (r, false)

theorem limited_off {n : Nat} {on : Bool} (h : on = false) (r : Int) : limited n on r = (r, false) := by
  subst h
  rfl

theorem limited_fits {m : Nat} {on : Bool} {r : Int} (h1 : -2 ^ m ≤ r) (h2 : r < 2 ^ m) : limited (m + 1) on r = (r, false) := by
  cases on
  · rfl
  · exact satInt_fits h1 h2

theorem limited_high {m : Nat} {on : Bool} {r : Int} (hon : on = true) (h : 2 ^ m ≤ r) : limited (m + 1) on r = (2 ^ m - 1, true) :=
  (if_pos hon).trans (satInt_high h)

theorem limited_low {m : Nat} {on : Bool} {r : Int} (hon : on = true) (h : r < -2 ^ m) : limited (m + 1) on r = (-2 ^ m, true) :=
  (if_pos hon).trans (satInt_low h)

@[simp] theorem Engine.sticky_false (x : Engine) : x.sticky false = x := by
  cases x
  simp [Engine.sticky]

@[simp] theorem Engine.sticky_true (x : Engine) : x.sticky true = { x with sv := true } := by
  simp [Engine.sticky]

/-- A result with one slot, where no gap is open. -/
theorem Engine.wgLate_of_noGap (h : x.gOld = []) (d : Nat) (n : Word) : x.wgLate d n = { x.wg d n with gOld := [(d, Tab.get 0 x.g d)] } := by
  rw [Engine.wgLate, h]
  rfl

/-! ### Issue of a row of the integer tables -/

theorem rowA_names (ho : w / 2 ^ 26 = 0) (hk : w % 64 = k) : rowNames (rowA k zeros) w = true :=
  rowNames_func_iff.2 ⟨by rw [ho], hk⟩

theorem rowN_names {flow : Bool} (ho : w / 2 ^ 26 = op) (h64 : op < 64) : rowNames ⟨op, none, zeros, flow⟩ w = true :=
  rowNames_iff.2 (by rw [ho, Nat.mod_eq_of_lt h64])

theorem Stands.alu (h : Stands s e w x) (hv : v.fetchErrs = 0) (ho : w / 2 ^ 26 = 0) (hk : w % 64 = k) (hz : w &&& zeros = 0)
    (f : Word → Word → Nat → Word) : s.issue (rowA k zeros) (aluBody f) e v =
      .next (s.issued e (x.wg (w / 2 ^ 21 % 32) (f (x.rg (w / 2 ^ 16 % 32)) (x.rg (w / 2 ^ 11 % 32)) (w / 2 ^ 11 % 32)))) := by
  rw [← fD_eq, ← fS_eq, ← fT_eq]
  exact h.issue_plain hv (rowA_names ho hk) hz (f := fun y => y.wg (fD w) (f (x.rg (fS w)) (x.rg (fT w)) (fT w))) rfl (Engine.place_wg ..)

theorem Stands.mul (h : Stands s e w x) (hv : v.fetchErrs = 0) (ho : w / 2 ^ 26 = 0) (hk : w % 64 = k) (hz : w &&& zeros = 0)
    (f : Word → Word → Word) : s.issue (rowA k zeros) (mulBody f) e v =
      .next (s.issued e { x.wg (w / 2 ^ 21 % 32) (f (x.rg (w / 2 ^ 16 % 32)) (x.rg (w / 2 ^ 11 % 32))) with
        gOld := [(w / 2 ^ 21 % 32, Tab.get 0 x.g (w / 2 ^ 21 % 32))] }) := by
  rw [← Engine.wgLate_of_noGap h.gOld, ← fD_eq, ← fS_eq, ← fT_eq]
  exact h.issue_plain hv (rowA_names ho hk) hz (f := fun y => y.wgLate (fD w) (f (x.rg (fS w)) (x.rg (fT w)))) rfl (Engine.place_wgLate ..)

theorem Stands.imm (h : Stands s e w x) (hv : v.fetchErrs = 0) (ho : w / 2 ^ 26 = op) (h64 : op < 64) (hz : w &&& zeros = 0)
    (f : Word → Nat → Word) : s.issue ⟨op, none, zeros, false⟩ (immBody f) e v =
      .next (s.issued e (x.wg (w / 2 ^ 21 % 32) (f (x.rg (w / 2 ^ 16 % 32)) (w % 2 ^ 16)))) := by
  have hi : bitsOf w 0 16 = w % 2 ^ 16 := by simp [bitsOf_eq]
  rw [← fD_eq, ← fS_eq, ← hi]
  exact h.issue_plain hv (rowN_names ho h64) hz (f := fun y => y.wg (fD w) (f (x.rg (fS w)) (bitsOf w 0 16))) rfl (Engine.place_wg ..)

/-- A row with an S bit, its result at once. -/
theorem Stands.sat (h : Stands s e w x) (hv : v.fetchErrs = 0) (ho : w / 2 ^ 26 = 0) (hk : w % 64 = k) (hz : w &&& zeros = 0)
    (f : Word → Word → Int) {r : Int} {lim : Bool}
    (hr : limited 32 (w.testBit 10) (f (x.rg (w / 2 ^ 16 % 32)) (x.rg (w / 2 ^ 11 % 32))) = (r, lim)) :
    s.issue (rowA k zeros) (satBody false f) e v = .next (s.issued e ((x.wg (w / 2 ^ 21 % 32) (BitVec.ofInt 32 r)).sticky lim)) := by
  rw [← fS_eq, ← fT_eq, limited] at hr
  rw [← fD_eq]
  refine h.issue_plain hv (rowA_names ho hk) hz (f := fun y => (y.wg (fD w) (BitVec.ofInt 32 r)).sticky lim) ?_ (Engine.place_wg ..)
  simp only [satBody, hr]
  rfl

/-- A row with an S bit, its result with one slot. -/
theorem Stands.satLate (h : Stands s e w x) (hv : v.fetchErrs = 0) (ho : w / 2 ^ 26 = 0) (hk : w % 64 = k) (hz : w &&& zeros = 0)
    (f : Word → Word → Int) {r : Int} {lim : Bool}
    (hr : limited 32 (w.testBit 10) (f (x.rg (w / 2 ^ 16 % 32)) (x.rg (w / 2 ^ 11 % 32))) = (r, lim)) :
    s.issue (rowA k zeros) (satBody true f) e v = .next (s.issued e (({ x.wg (w / 2 ^ 21 % 32) (BitVec.ofInt 32 r) with
      gOld := [(w / 2 ^ 21 % 32, Tab.get 0 x.g (w / 2 ^ 21 % 32))] } : Engine).sticky lim)) := by
  rw [← Engine.wgLate_of_noGap h.gOld]
  rw [← fS_eq, ← fT_eq, limited] at hr
  rw [← fD_eq]
  refine h.issue_plain hv (rowA_names ho hk) hz (f := fun y => (y.wgLate (fD w) (BitVec.ofInt 32 r)).sticky lim) ?_ (Engine.place_wg ..)
  simp only [satBody, hr]
  rfl

theorem Stands.satOff (h : Stands s e w x) (hv : v.fetchErrs = 0) (ho : w / 2 ^ 26 = 0) (hk : w % 64 = k) (hz : w &&& zeros = 0)
    (hs : w / 1024 % 2 = 0) (f : Word → Word → Int) :
    s.issue (rowA k zeros) (satBody false f) e v = .next (s.issued e (x.wg (w / 2 ^ 21 % 32) (BitVec.ofInt 32 (f (x.rg (w / 2 ^ 16 % 32)) (x.rg (w / 2 ^ 11 % 32)))))) := by
  rw [h.sat hv ho hk hz f (limited_off (bit10_off hs) _), Engine.sticky_false]

theorem Stands.satFits (h : Stands s e w x) (hv : v.fetchErrs = 0) (ho : w / 2 ^ 26 = 0) (hk : w % 64 = k) (hz : w &&& zeros = 0)
    (f : Word → Word → Int) (h1 : -2 ^ 31 ≤ f (x.rg (w / 2 ^ 16 % 32)) (x.rg (w / 2 ^ 11 % 32)))
    (h2 : f (x.rg (w / 2 ^ 16 % 32)) (x.rg (w / 2 ^ 11 % 32)) < 2 ^ 31) :
    s.issue (rowA k zeros) (satBody false f) e v = .next (s.issued e (x.wg (w / 2 ^ 21 % 32) (BitVec.ofInt 32 (f (x.rg (w / 2 ^ 16 % 32)) (x.rg (w / 2 ^ 11 % 32)))))) := by
  rw [h.sat hv ho hk hz f (limited_fits h1 h2), Engine.sticky_false]

theorem Stands.satLateOff (h : Stands s e w x) (hv : v.fetchErrs = 0) (ho : w / 2 ^ 26 = 0) (hk : w % 64 = k) (hz : w &&& zeros = 0)
    (hs : w / 1024 % 2 = 0) (f : Word → Word → Int) :
    s.issue (rowA k zeros) (satBody true f) e v = .next (s.issued e { x.wg (w / 2 ^ 21 % 32) (BitVec.ofInt 32 (f (x.rg (w / 2 ^ 16 % 32)) (x.rg (w / 2 ^ 11 % 32)))) with gOld := [(w / 2 ^ 21 % 32, Tab.get 0 x.g (w / 2 ^ 21 % 32))] }) := by
  rw [h.satLate hv ho hk hz f (limited_off (bit10_off hs) _), Engine.sticky_false]

theorem Stands.satLateFits (h : Stands s e w x) (hv : v.fetchErrs = 0) (ho : w / 2 ^ 26 = 0) (hk : w % 64 = k) (hz : w &&& zeros = 0)
    (f : Word → Word → Int) (h1 : -2 ^ 31 ≤ f (x.rg (w / 2 ^ 16 % 32)) (x.rg (w / 2 ^ 11 % 32)))
    (h2 : f (x.rg (w / 2 ^ 16 % 32)) (x.rg (w / 2 ^ 11 % 32)) < 2 ^ 31) :
    s.issue (rowA k zeros) (satBody true f) e v = .next (s.issued e { x.wg (w / 2 ^ 21 % 32) (BitVec.ofInt 32 (f (x.rg (w / 2 ^ 16 % 32)) (x.rg (w / 2 ^ 11 % 32)))) with gOld := [(w / 2 ^ 21 % 32, Tab.get 0 x.g (w / 2 ^ 21 % 32))] }) := by
  rw [h.satLate hv ho hk hz f (limited_fits h1 h2), Engine.sticky_false]

theorem Stands.satHigh (h : Stands s e w x) (hv : v.fetchErrs = 0) (ho : w / 2 ^ 26 = 0) (hk : w % 64 = k) (hz : w &&& zeros = 0)
    (hs : w / 1024 % 2 = 1) (f : Word → Word → Int) (hr : 2 ^ 31 ≤ f (x.rg (w / 2 ^ 16 % 32)) (x.rg (w / 2 ^ 11 % 32))) :
    s.issue (rowA k zeros) (satBody false f) e v = .next (s.issued e { x.wg (w / 2 ^ 21 % 32) 0x7FFFFFFF with sv := true }) := by
  have hword : BitVec.ofInt 32 (2 ^ 31 - 1) = 0x7FFFFFFF := by decide
  rw [h.sat hv ho hk hz f (limited_high (bit10_on hs) hr), hword, Engine.sticky_true]

theorem Stands.satLow (h : Stands s e w x) (hv : v.fetchErrs = 0) (ho : w / 2 ^ 26 = 0) (hk : w % 64 = k) (hz : w &&& zeros = 0)
    (hs : w / 1024 % 2 = 1) (f : Word → Word → Int) (hr : f (x.rg (w / 2 ^ 16 % 32)) (x.rg (w / 2 ^ 11 % 32)) < -2 ^ 31) :
    s.issue (rowA k zeros) (satBody false f) e v = .next (s.issued e { x.wg (w / 2 ^ 21 % 32) 0x80000000 with sv := true }) := by
  have hword : BitVec.ofInt 32 (-2 ^ 31) = 0x80000000 := by decide
  rw [h.sat hv ho hk hz f (limited_low (bit10_on hs) hr), hword, Engine.sticky_true]

theorem Stands.satLateHigh (h : Stands s e w x) (hv : v.fetchErrs = 0) (ho : w / 2 ^ 26 = 0) (hk : w % 64 = k) (hz : w &&& zeros = 0)
    (hs : w / 1024 % 2 = 1) (f : Word → Word → Int) (hr : 2 ^ 31 ≤ f (x.rg (w / 2 ^ 16 % 32)) (x.rg (w / 2 ^ 11 % 32))) :
    s.issue (rowA k zeros) (satBody true f) e v = .next (s.issued e { x.wg (w / 2 ^ 21 % 32) 0x7FFFFFFF with gOld := [(w / 2 ^ 21 % 32, Tab.get 0 x.g (w / 2 ^ 21 % 32))], sv := true }) := by
  have hword : BitVec.ofInt 32 (2 ^ 31 - 1) = 0x7FFFFFFF := by decide
  rw [h.satLate hv ho hk hz f (limited_high (bit10_on hs) hr), hword, Engine.sticky_true]

theorem Stands.satLateLow (h : Stands s e w x) (hv : v.fetchErrs = 0) (ho : w / 2 ^ 26 = 0) (hk : w % 64 = k) (hz : w &&& zeros = 0)
    (hs : w / 1024 % 2 = 1) (f : Word → Word → Int) (hr : f (x.rg (w / 2 ^ 16 % 32)) (x.rg (w / 2 ^ 11 % 32)) < -2 ^ 31) :
    s.issue (rowA k zeros) (satBody true f) e v = .next (s.issued e { x.wg (w / 2 ^ 21 % 32) 0x80000000 with gOld := [(w / 2 ^ 21 % 32, Tab.get 0 x.g (w / 2 ^ 21 % 32))], sv := true }) := by
  have hword : BitVec.ofInt 32 (-2 ^ 31) = 0x80000000 := by decide
  rw [h.satLate hv ho hk hz f (limited_low (bit10_on hs) hr), hword, Engine.sticky_true]

/-! ### Values -/

theorem flag_slt (a b : Word) : flag (a.slt b) = if a.toInt < b.toInt then 1 else 0 := by simp [flag, BitVec.slt]
theorem flag_ult (a b : Word) : flag (a.ult b) = if a.toNat < b.toNat then 1 else 0 := by simp [flag, BitVec.ult]

/-- An immediate of 16 bits sign-extended, as a word. -/
theorem simmWord_eq {i : Nat} (hi : i < 2 ^ 16) : simmWord i = BitVec.ofNat 32 (if i < 2 ^ 15 then i else i + 2 ^ 32 - 2 ^ 16) := by
  have hbit : i.testBit 15 = decide (2 ^ 15 ≤ i) := by
    rw [testBit_iff_div, decide_eq_decide]
    omega
  apply BitVec.eq_of_toNat_eq
  simp only [simmWord, sextN, hbit, BitVec.toNat_ofInt, BitVec.toNat_ofNat, decide_eq_true_eq]
  split_ifs <;> omega

/-- The leading zeros of a word are the number that its size gives. -/
theorem clz_eq {a : Word} (hk : k ≤ 32) (hlt : a.toNat < 2 ^ (32 - k)) (hle : k < 32 → 2 ^ (31 - k) ≤ a.toNat) : clz a = k := by
  have hzero (i : Nat) (hi : i < k) : a.getLsbD (31 - i) = false := by
    rw [BitVec.getLsbD]
    exact Nat.testBit_lt_two_pow (lt_of_lt_of_le hlt (Nat.pow_le_pow_right (by decide) (by omega)))
  rcases Nat.lt_or_eq_of_le hk with hk | rfl
  · have hone : a.getLsbD (31 - k) = true := by
      rw [BitVec.getLsbD, testBit_iff_div, decide_eq_true_eq]
      have hdiv : a.toNat / 2 ^ (31 - k) = 1 := by
        rw [Nat.div_eq_iff (by positivity)]
        have : 2 ^ (32 - k) = 2 * 2 ^ (31 - k) := by rw [← Nat.pow_succ']; congr 1; omega
        omega
      rw [hdiv]
    rw [clz, List.findIdx_eq (by simpa using hk)]
    exact ⟨by simpa using hone, fun j hj => by simpa using hzero j hj⟩
  · rw [clz, List.findIdx_eq_length_of_false (by simpa using hzero), List.length_range]

theorem ofInt_sub_toInt (a b : Word) : BitVec.ofInt 32 (a.toInt - b.toInt) = a - b := by
  rw [Int.sub_eq_add_neg, BitVec.ofInt_add, BitVec.ofInt_neg, BitVec.ofInt_toInt, BitVec.ofInt_toInt, BitVec.sub_eq_add_neg]

/-- The size of a word as a true number. -/
theorem ofInt_natAbs (a : Word) : BitVec.ofInt 32 (a.toInt.natAbs : Int) = if a.toInt < 0 then -a else a := by
  split_ifs with h
  · rw [Int.ofNat_natAbs_of_nonpos (le_of_lt h), BitVec.ofInt_neg, BitVec.ofInt_toInt]
  · rw [Int.natAbs_of_nonneg (by omega), BitVec.ofInt_toInt]

/-! ### The obligation -/

/-- Settles O42: each row's result, by the four shapes of a body (`alu`, `mul`, `imm`, `sat`) and what a limit does. -/
theorem tramIntegers : Obligations.TramIntegers := by
  intro s e w d n i y z v x a b hst hv hx hd ha hb hn hi hy hz
  have h := Stands.of hst hx
  subst hd ha hb hn hz
  have hy' : simmWord i = BitVec.ofNat 32 y := hy ▸ simmWord_eq (hi ▸ Nat.mod_lt _ (by decide))
  have hylt : y < 2 ^ 32 := by subst hi; split at hy <;> omega
  subst hi
  refine ⟨
    fun ho hk hz hs => (h.satOff hv ho hk hz hs (fun a b => a.toInt + b.toInt)).trans (by rw [BitVec.ofInt_add, BitVec.ofInt_toInt, BitVec.ofInt_toInt]),
    fun ho hk hz hs h1 h2 => (h.satFits hv ho hk hz (fun a b => a.toInt + b.toInt) h1 h2).trans (by rw [BitVec.ofInt_add, BitVec.ofInt_toInt, BitVec.ofInt_toInt]),
    fun ho hk hz hs h1 => h.satHigh hv ho hk hz hs (fun a b => a.toInt + b.toInt) h1,
    fun ho hk hz hs h1 => h.satLow hv ho hk hz hs (fun a b => a.toInt + b.toInt) h1,
    fun ho hk hz hs => (h.satOff hv ho hk hz hs (fun a b => a.toInt - b.toInt)).trans (by rw [ofInt_sub_toInt]),
    fun ho hk hz hs h1 h2 => (h.satFits hv ho hk hz (fun a b => a.toInt - b.toInt) h1 h2).trans (by rw [ofInt_sub_toInt]),
    fun ho hk hz hs h1 => h.satHigh hv ho hk hz hs (fun a b => a.toInt - b.toInt) h1,
    fun ho hk hz hs h1 => h.satLow hv ho hk hz hs (fun a b => a.toInt - b.toInt) h1,
    fun ho hk hz => h.alu hv ho hk hz _,
    fun ho hk hz => h.alu hv ho hk hz _,
    fun ho hk hz => h.alu hv ho hk hz _,
    fun ho hk hz => h.alu hv ho hk hz _,
    fun ho hk hz => (h.alu hv ho hk hz _).trans (by rw [flag_slt]),
    fun ho hk hz => (h.alu hv ho hk hz _).trans (by rw [flag_ult]),
    fun ho hk hz => h.alu hv ho hk hz _,
    fun ho hk hz => h.alu hv ho hk hz _,
    fun ho hk hz => h.alu hv ho hk hz _,
    fun ho hk hz => h.alu hv ho hk hz _,
    fun ho hk hz => h.alu hv ho hk hz _,
    fun ho hk hz => h.alu hv ho hk hz _,
    fun ho hk hz hs => (h.satLateOff hv ho hk hz hs (fun a b => a.toInt * b.toInt)).trans (by rw [BitVec.ofInt_mul, BitVec.ofInt_toInt, BitVec.ofInt_toInt]),
    fun ho hk hz hs h1 h2 => (h.satLateFits hv ho hk hz (fun a b => a.toInt * b.toInt) h1 h2).trans (by rw [BitVec.ofInt_mul, BitVec.ofInt_toInt, BitVec.ofInt_toInt]),
    fun ho hk hz hs h1 => h.satLateHigh hv ho hk hz hs (fun a b => a.toInt * b.toInt) h1,
    fun ho hk hz hs h1 => h.satLateLow hv ho hk hz hs (fun a b => a.toInt * b.toInt) h1,
    fun ho hk hz => h.mul hv ho hk hz _,
    fun ho hk hz => h.mul hv ho hk hz _,
    fun ho hk hz => (h.alu hv ho hk hz _).trans (by simp only [BitVec.slt, decide_eq_true_eq]),
    fun ho hk hz => (h.alu hv ho hk hz _).trans (by simp only [BitVec.slt, decide_eq_true_eq]),
    fun ho hk hz hs => (h.satOff hv ho hk hz hs (fun a _ => (a.toInt.natAbs : Int))).trans (by rw [ofInt_natAbs]),
    fun ho hk hz hs h1 => (h.satFits hv ho hk hz (fun a _ => (a.toInt.natAbs : Int)) (by omega) h1).trans (by rw [ofInt_natAbs]),
    fun ho hk hz hs h1 => h.satHigh hv ho hk hz hs (fun a _ => (a.toInt.natAbs : Int)) h1,
    fun k ho hk hz hle hlt hge => (h.alu hv ho hk hz _).trans (by rw [clz_eq hle hlt hge]),
    fun ho => (h.imm hv ho (by decide) (Nat.and_zero w) _).trans (by rw [hy']),
    fun ho => (h.imm hv ho (by decide) (Nat.and_zero w) _).trans (by rw [flag_slt, hy']),
    fun ho => (h.imm hv ho (by decide) (Nat.and_zero w) _).trans (by rw [flag_ult, hy', BitVec.toNat_ofNat, Nat.mod_eq_of_lt hylt]),
    fun ho => h.imm hv ho (by decide) (Nat.and_zero w) _,
    fun ho => h.imm hv ho (by decide) (Nat.and_zero w) _,
    fun ho => h.imm hv ho (by decide) (Nat.and_zero w) _,
    fun ho hz => h.imm hv ho (by decide) hz _,
    fun ho hk hz => h.issue_illegal hv (rowA_names ho hk) hz,
    fun ho hz => h.issue_illegal hv (rowN_names ho (by decide)) hz,
    fun hno => h.issue_other hv ?_,
    fun ho hz => ?_⟩
  · rw [Bool.eq_false_iff, Ne, rowA, rowNames_func_iff]
    have hlt := h.word_lt
    omega
  · have hop : bitsOf w 26 6 = 0 := by rw [bitsOf_eq, ho, Nat.zero_mod]
    have hfun : bitsOf w 0 6 = w % 64 := by simp [bitsOf_eq]
    have hunlisted : unlisted w = true := by
      rw [unlisted, hop, hfun]
      exact decide_eq_true hz
    rw [exec_illegalInstruction, execIllegalInstruction, need_pos (decide_eq_true h.lt), h.can]
    simp [State.checkWord, h.good, hv, h.word, hunlisted]

end Sys2Proof.Machine
end

section
/-! PROOF. The MAC unit of a Tram engine (O43; 17 R454, R455). -/

namespace Sys2Proof.Machine

variable {s : State} {e w k zeros : Nat} {v : TramView} {x : Engine}

/-! ### Halves and accumulators -/

/-- A signed half of a number is its 16 bits as a signed number. -/
theorem sextN_half (n : Nat) : sextN 16 (n % 65536) = (BitVec.ofNat 16 n).toInt := by
  have hbit : (n % 65536).testBit 15 = decide (2 ^ 15 ≤ n % 65536) := by
    rw [testBit_iff_div, decide_eq_decide]
    omega
  rw [sextN, hbit, BitVec.toInt_eq_toNat_cond, BitVec.toNat_ofNat]
  simp only [decide_eq_true_eq]
  split_ifs <;> omega

theorem bit9_iff (w : Nat) : w.testBit 9 = decide (w / 512 % 2 = 1) := testBit_iff_div w 9

theorem halfInt_low (w : Nat) (a : Word) : halfInt (w.testBit 9) (a.toNat % 65536) =
    if w / 512 % 2 = 1 then ((a.toNat % 65536 : Nat) : Int) else (a.extractLsb' 0 16).toInt := by
  have hext : a.extractLsb' 0 16 = BitVec.ofNat 16 a.toNat := by
    apply BitVec.eq_of_toNat_eq
    simp
  rw [halfInt, bit9_iff, hext, sextN_half]
  simp only [decide_eq_true_eq]

theorem halfInt_high (w : Nat) (a : Word) : halfInt (w.testBit 9) (a.toNat / 65536) =
    if w / 512 % 2 = 1 then ((a.toNat / 65536 : Nat) : Int) else (a.extractLsb' 16 16).toInt := by
  have hlt : a.toNat / 65536 % 65536 = a.toNat / 65536 := Nat.mod_eq_of_lt (by omega)
  have hext : a.extractLsb' 16 16 = BitVec.ofNat 16 (a.toNat / 65536) := by
    apply BitVec.eq_of_toNat_eq
    simp [Nat.shiftRight_eq_div_pow]
  rw [halfInt, bit9_iff, hext, ← sextN_half, hlt]
  simp only [decide_eq_true_eq]

theorem Stands.accS (h : Stands s e w x) (i : Nat) : x.accS i = Tab.get 0 x.acc i := by
  rw [Engine.accS, h.accOld]
  rfl

theorem fAD_eq (w : Nat) : fAD w = w / 2 ^ 24 % 4 := bitsOf_eq ..
theorem fAS_eq (w : Nat) : fAS w = w / 2 ^ 13 % 4 := bitsOf_eq ..

theorem rowM_names (ho : w / 2 ^ 26 = 1) (hk : w % 64 = k) : rowNames (rowM k zeros) w = true :=
  rowNames_func_iff.2 ⟨by rw [ho], hk⟩

/-! ### Issue of a row of the MAC table -/

theorem ofInt72_high : BitVec.ofInt 72 (2 ^ 71 - 1) = BitVec.ofNat 72 (2 ^ 71 - 1) := by decide
theorem ofInt72_low : BitVec.ofInt 72 (-2 ^ 71) = BitVec.ofNat 72 (2 ^ 71) := by decide

/-- What a row leaves that puts `r` into an accumulator: `r`, or with S = 1 the nearer limit and `SV`. -/
def AccTakes (o : Res) (s : State) (e w : Nat) (x : Engine) (m : Nat) (r : Int) : Prop :=
  (w / 1024 % 2 = 0 ∨ (-2 ^ 71 ≤ r ∧ r < 2 ^ 71) → o = .next (s.issued e (x.wacc m (BitVec.ofInt 72 r)))) ∧
  (w / 1024 % 2 = 1 → 2 ^ 71 ≤ r → o = .next (s.issued e { x.wacc m (BitVec.ofNat 72 (2 ^ 71 - 1)) with sv := true })) ∧
  (w / 1024 % 2 = 1 → r < -2 ^ 71 → o = .next (s.issued e { x.wacc m (BitVec.ofNat 72 (2 ^ 71)) with sv := true }))

/-- A result that is limited as the S bit says. -/
theorem accTakes_of_limited {o : Res} {m : Nat} {r : Int}
    (ho : ∀ {z lim}, limited 72 (w.testBit 10) r = (z, lim) → o = .next (s.issued e ((x.wacc m (BitVec.ofInt 72 z)).sticky lim))) :
    AccTakes o s e w x m r := by
  refine ⟨fun hfit => ?_, fun hs h1 => ?_, fun hs h1 => ?_⟩
  · have hlim : limited 72 (w.testBit 10) r = (r, false) := by
      rcases hfit with hs | ⟨h1, h2⟩
      · exact limited_off (bit10_off hs) r
      · exact limited_fits h1 h2
    rw [ho hlim, Engine.sticky_false]
  · rw [ho (limited_high (bit10_on hs) h1), ofInt72_high, Engine.sticky_true]
  · rw [ho (limited_low (bit10_on hs) h1), ofInt72_low, Engine.sticky_true]

/-- A multiply function of the halves. -/
theorem Stands.mac (h : Stands s e w x) (hv : v.fetchErrs = 0) (ho : w / 2 ^ 26 = 1) (hk : w % 64 = k) (hz : w &&& zeros = 0) {a b : Word}
    (ha : a = x.rg (w / 2 ^ 16 % 32)) (hb : b = x.rg (w / 2 ^ 11 % 32)) {al ah bl bh : Int}
    (hal : al = if w / 512 % 2 = 1 then ((a.toNat % 65536 : Nat) : Int) else (a.extractLsb' 0 16).toInt)
    (hah : ah = if w / 512 % 2 = 1 then ((a.toNat / 65536 : Nat) : Int) else (a.extractLsb' 16 16).toInt)
    (hbl : bl = if w / 512 % 2 = 1 then ((b.toNat % 65536 : Nat) : Int) else (b.extractLsb' 0 16).toInt)
    (hbh : bh = if w / 512 % 2 = 1 then ((b.toNat / 65536 : Nat) : Int) else (b.extractLsb' 16 16).toInt)
    (keep : Bool) (f : Int → Int → Int → Int → Int) {r : Int} {m : Nat} (hm : m = w / 2 ^ 24 % 4)
    (hr : r = (if keep then (Tab.get 0 x.acc m).toInt else 0) + f al ah bl bh) :
    AccTakes (s.issue (rowM k zeros) (macBody keep f) e v) s e w x m r := by
  rw [← halfInt_low] at hal hbl
  rw [← halfInt_high] at hah hbh
  rw [← fAD_eq] at hm
  rw [← fS_eq] at ha
  rw [← fT_eq] at hb
  subst hal hah hbl hbh ha hb hm
  refine accTakes_of_limited fun {z lim} hlim => ?_
  refine h.issue_plain hv (rowM_names ho hk) hz (f := fun y => (y.wacc (fAD w) (BitVec.ofInt 72 z)).sticky lim) ?_ rfl
  rw [limited, hr] at hlim
  simp only [macBody, Engine.accD, hlim]

/-- A function of an accumulator's own value, rs and a count. -/
theorem Stands.accumulate (h : Stands s e w x) (hv : v.fetchErrs = 0) (ho : w / 2 ^ 26 = 1) (hk : w % 64 = k) (hz : w &&& zeros = 0)
    (f : Acc72 → Word → Nat → Acc72) : s.issue (rowM k zeros) (accBody f) e v = .next (s.issued e (x.wacc (w / 2 ^ 24 % 4)
      (f (Tab.get 0 x.acc (w / 2 ^ 24 % 4)) (x.rg (w / 2 ^ 16 % 32)) (w / 2 ^ 11 % 32)))) := by
  rw [← fAD_eq, ← fS_eq, ← fT_eq]
  exact h.issue_plain hv (rowM_names ho hk) hz
    (f := fun y => y.wacc (fAD w) (f (x.accD (fAD w)) (x.rg (fS w)) (fT w))) rfl rfl

/-- AADD: the sum of two accumulators. -/
theorem Stands.aadd (h : Stands s e w x) (hv : v.fetchErrs = 0) (ho : w / 2 ^ 26 = 1) (hk : w % 64 = 11) (hz : w &&& 0xFF9BC0 = 0) :
    AccTakes (execAadd e v s) s e w x (w / 2 ^ 24 % 4)
      ((Tab.get 0 x.acc (w / 2 ^ 24 % 4)).toInt + (Tab.get 0 x.acc (w / 2 ^ 13 % 4)).toInt) := by
  refine accTakes_of_limited fun {z lim} hlim => ?_
  rw [← fAD_eq, ← fAS_eq, limited] at hlim
  rw [← fAD_eq]
  refine h.issue_plain hv (rowM_names ho hk) hz (f := fun y => (y.wacc (fAD w) (BitVec.ofInt 72 z)).sticky lim) ?_ rfl
  simp only [Engine.accD, h.accS, hlim]

/-- MFA: an accumulator rounded and shifted, and with S = 1 limited to a word. -/
theorem Stands.mfa (h : Stands s e w x) (hv : v.fetchErrs = 0) (ho : w / 2 ^ 26 = 1) (hk : w % 64 = 8) (hz : w &&& 0xBC0 = 0) {r z : Int} {lim : Bool}
    {sh : Nat} (hsh : sh = w / 2 ^ 15 % 64)
    (hr : r = ((Tab.get 0 x.acc (w / 2 ^ 13 % 4)).toInt + (if w / 4096 % 2 = 1 ∧ 0 < sh then 2 ^ (sh - 1) else 0)) / 2 ^ sh)
    (hlim : limited 32 (w.testBit 10) r = (z, lim)) :
    execMfa e v s = .next (s.issued e (({ x.wg (w / 2 ^ 21 % 32) (BitVec.ofInt 32 z) with
      gOld := [(w / 2 ^ 21 % 32, Tab.get 0 x.g (w / 2 ^ 21 % 32))] } : Engine).sticky lim)) := by
  rw [← Engine.wgLate_of_noGap h.gOld, ← fD_eq]
  refine h.issue_plain hv (rowM_names ho hk) hz (f := fun y => (y.wgLate (fD w) (BitVec.ofInt 32 z)).sticky lim) ?_ (Engine.place_wg ..)
  have hshift : bitsOf w 15 6 = sh := (bitsOf_eq ..).trans hsh.symm
  have hround : r = (if w.testBit 12 ∧ 0 < sh then (x.accS (fAS w)).toInt + 2 ^ (sh - 1) else (x.accS (fAS w)).toInt) / 2 ^ sh := by
    have hbit : w.testBit 12 = decide (w / 4096 % 2 = 1) := testBit_iff_div w 12
    rw [hr, h.accS, fAS_eq, hbit]
    simp only [decide_eq_true_eq]
    split_ifs
    · rfl
    · rw [Int.add_zero]
  rw [limited, hround] at hlim
  simp only [hshift, hlim]

/-! ### The obligation -/

/-- Settles O43: what a multiply function, a move and MFA put into an accumulator or a register (`mac`, `accumulate`, `aadd`, `mfa`). -/
theorem tramMac : Obligations.TramMac := by
  intro s e w d m k n sh v x y a b acc src al ah bl bh hst hv hx hd hm hk hn hsh ha hb hacc hsrc hy hal hah hbl hbh ho
  have h := Stands.of hst hx
  subst hn
  have hmac {f : Int → Int → Int → Int → Int} {z c : Nat} {keep : Bool} {r : Int} (hz : w % 64 = c) (hzero : w &&& z = 0)
      (hr : r = (if keep then (Tab.get 0 x.acc m).toInt else 0) + f al ah bl bh) :
      AccTakes (s.issue (rowM c z) (macBody keep f) e v) s e w x m r :=
    h.mac hv ho hz hzero ha hb hal hah hbl hbh keep f hm hr
  subst hacc hsrc hy
  refine ⟨fun r hr hf hz => hmac hf hz hr, fun r hr hf hz => hmac hf hz hr, fun r hr hf hz => hmac hf hz hr,
    fun r hr hf hz => (hmac (keep := false) hf hz (hr.trans (Int.zero_add _).symm)).1, fun r hr hf hz => hmac (f := fun al _ bl _ => al * bl) hf hz hr,
    fun r hr hf hz => hmac hf hz hr, fun r hr hf hz => ?_, fun hf hz => ?_, fun hf hz => ?_, fun hf hz => ?_, fun hf hz => ?_, fun hf hz => ?_,
    fun hf hz => ?_, fun hf hz => ?_, fun hf hz => ?_⟩
  · subst hd hk
    rw [exec_mfa]
    refine ⟨fun hfit => ?_, fun hs h1 => ?_, fun hs h1 => ?_⟩
    · have hlim : limited 32 (w.testBit 10) r = (r, false) := by
        rcases hfit with hs | ⟨h1, h2⟩
        · exact limited_off (bit10_off hs) r
        · exact limited_fits h1 h2
      rw [h.mfa hv ho hf hz hsh hr hlim, Engine.sticky_false]
    · have hword : BitVec.ofInt 32 (2 ^ 31 - 1) = 0x7FFFFFFF := by decide
      rw [h.mfa hv ho hf hz hsh hr (limited_high (bit10_on hs) h1), hword, Engine.sticky_true]
    · have hword : BitVec.ofInt 32 (-2 ^ 31) = 0x80000000 := by decide
      rw [h.mfa hv ho hf hz hsh hr (limited_low (bit10_on hs) h1), hword, Engine.sticky_true]
  all_goals subst hm hk ha hd
  · exact h.accumulate hv ho hf hz (fun _ r n => (r.signExtend 72) <<< n)
  · exact h.accumulate hv ho hf hz (fun _ _ _ => 0)
  · obtain ⟨hfit, hhigh, hlow⟩ := h.aadd hv ho hf hz
    exact ⟨fun hs => (hfit hs).trans (by rw [BitVec.ofInt_add, BitVec.ofInt_toInt, BitVec.ofInt_toInt]; rfl), hhigh, hlow⟩
  · exact h.accumulate hv ho hf hz (fun a _ n => a.sshiftRight n)
  · rw [exec_mfah, execMfah, ← Engine.wgLate_of_noGap h.gOld, ← fD_eq, ← fAS_eq, ← h.accS]
    exact h.issue_plain hv (rowM_names ho hf) hz
      (f := fun y => y.wgLate (fD w) (((x.accS (fAS w)).extractLsb' 64 8).signExtend 32)) rfl (Engine.place_wgLate ..)
  · exact h.accumulate hv ho hf hz (fun a r _ => a.extractLsb' 32 40 ++ r)
  · exact h.accumulate hv ho hf hz (fun a r _ => (a.extractLsb' 64 8 ++ r : BitVec 40) ++ a.extractLsb' 0 32)
  · exact h.accumulate hv ho hf hz (fun a r _ => r.extractLsb' 0 8 ++ a.extractLsb' 0 64)

end Sys2Proof.Machine
end

section
/-! PROOF. The branches, jumps and repeat blocks of a Tram engine (O44; 17 R451, R453; 16 R414). -/

namespace Sys2Proof.Machine

variable {s : State} {e w op zeros p : Nat} {v : TramView} {x y : Engine} {r : TramRow} {body : Body} {ctl : Ctl}

/-! ### Issue with a control of its own -/

/-- An instruction that changes only its engine and its place in the program. -/
theorem Stands.issue_ctl (h : Stands s e w x) (hv : v.fetchErrs = 0) (hrow : rowNames r w = true) (hz : w &&& r.zero = 0)
    (hbody : body x w e (s.setEng e x) = .done (s.setEng e y) ctl) (hy : y.place = x.place) :
    s.issue r body e v = .next ((s.setEng e { y with
      branch := (x.flow (s.rd TR_PC.PC e) ctl).2.1, rep := (x.flow (s.rd TR_PC.PC e) ctl).2.2 }).wr TR_PC.PC (x.flow (s.rd TR_PC.PC e) ctl).1 e) := by
  have hhalt : y.haltDue = false := by
    rw [h.place] at hy
    exact congrArg (fun q => q.2.2) hy
  rw [h.issue hv hrow hz, hbody, State.finishIssue, h.retire (State.eng_setEng_same ..) hhalt rfl, State.setEng_setEng]
  rfl

/-- A branch or jump: two slots, then the target. -/
theorem Stands.issue_branch (h : Stands s e w x) (hv : v.fetchErrs = 0) (hrow : rowNames r w = true) (hz : w &&& r.zero = 0) {taken : Bool} {target : Nat}
    (hbody : body x w e (s.setEng e x) = .done (s.setEng e y) (.branch taken target)) (hy : y.place = x.place) (hp : p = s.rd TR_PC.PC e) :
    s.issue r body e v =
      .next (s.issued e { y with branch := some (p, if taken then target % 65536 else (p + 12) % 65536, 2) }) := by
  have hrep : y.rep = none := by
    rw [h.place] at hy
    exact congrArg (fun q => q.2.1) hy
  subst hp
  rw [h.issue_ctl hv hrow hz hbody hy, hrep]
  rfl

/-- The target of a branch, modulo 64 KiB. -/
theorem offTo_simm (p w : Nat) : offTo p (4 * simm w) % 65536 = (p + 4 * (w % 2 ^ 16)) % 65536 := by
  have hi : bitsOf w 0 16 = w % 2 ^ 16 := by simp [bitsOf_eq]
  rw [offTo, simm, sextN, hi]
  split_ifs <;> omega

theorem Stands.br (h : Stands s e w x) (hv : v.fetchErrs = 0) (ho : w / 2 ^ 26 = op) (h64 : op < 64) (hp : p = s.rd TR_PC.PC e)
    {c : Word → Word → Bool} {taken : Bool} (hc : c (x.rg (w / 2 ^ 21 % 32)) (x.rg (w / 2 ^ 16 % 32)) = taken) :
    s.issue (rowB op) (brBody c) e v =
      .next (s.issued e { x with branch := some (p, if taken then (p + 4 * (w % 2 ^ 16)) % 65536 else (p + 12) % 65536, 2) }) := by
  rw [← fD_eq, ← fS_eq] at hc
  rw [← offTo_simm]
  refine h.issue_branch hv (rowN_names ho h64) (Nat.and_zero w) ?_ rfl hp
  rw [brBody, hc, State.here, State.rd_setEng, hp]

/-- A jump through a register to a word's address, with its link or without. -/
theorem Stands.jump (h : Stands s e w x) (hv : v.fetchErrs = 0) (hrow : rowNames r w = true) (hz : w &&& r.zero = 0) (hp : p = s.rd TR_PC.PC e)
    {b : Word} (hb : b = x.rg (w / 2 ^ 16 % 32)) (h4 : b.toNat % 4 = 0) {link : Option Nat}
    (hbody : body x w e (s.setEng e x) = jumpBody link x w e (s.setEng e x)) :
    s.issue r body e v = .next (s.issued e { link.elim x (fun d => x.wg d (BitVec.ofNat 32 ((p + 12) % 65536))) with
      branch := some (p, b.toNat % 65536, 2) }) := by
  rw [← fS_eq] at hb
  subst hb hp
  refine (h.issue_branch hv hrow hz (taken := true) (target := (x.rg (fS w)).toNat % 65536)
    (y := link.elim x (fun d => x.wg d (BitVec.ofNat 32 ((s.rd TR_PC.PC e + 12) % 65536)))) ?_ ?_ rfl).trans ?_
  · rw [hbody]
    unfold jumpBody
    dsimp only
    rw [if_neg (not_not.2 h4)]
    cases link with
    | none => rfl
    | some d => exact congrArg (fun t => Eff.done t _) (State.updEng_setEng ..)
  · cases link with
    | none => rfl
    | some d => exact Engine.place_wg ..
  · rw [if_pos rfl, Nat.mod_mod]

theorem Stands.jump_misaligned (h : Stands s e w x) (hv : v.fetchErrs = 0) (hrow : rowNames r w = true) (hz : w &&& r.zero = 0)
    {b : Word} (hb : b = x.rg (w / 2 ^ 16 % 32)) (h4 : b.toNat % 4 ≠ 0) {link : Option Nat}
    (hbody : body x w e (s.setEng e x) = jumpBody link x w e (s.setEng e x)) : s.issue r body e v = .next (s.raiseExc e 2 b.toNat) := by
  rw [← fS_eq] at hb
  subst hb
  exact h.issue_exc hv hrow hz (hbody.trans (if_pos h4))

/-- The engine as it stands, at another place in its program. -/
def Engine.within (x : Engine) (branch rep : Option (Nat × Nat × Nat)) : Engine := { x with branch, rep }

theorem Stands.within_none (h : Stands s e w x) : x.within none none = x := by
  have hb := h.branch
  have hr := h.rep
  cases x
  cases hb
  cases hr
  rfl

/-- A repeat block begins, or is skipped where the count is 0. -/
theorem Stands.repeats (h : Stands s e w x) (hv : v.fetchErrs = 0) (hrow : rowNames r w = true) (hz : w &&& r.zero = 0) (hp : p = s.rd TR_PC.PC e) {n : Nat}
    (hbody : body x w e (s.setEng e x) = .done (s.setEng e x) (.rep (fS w + 1) n)) :
    (0 < n → s.issue r body e v = .next (s.issued e { x with rep := some ((p + 4) % 65536, w / 2 ^ 16 % 32 + 1, n) })) ∧
    (n = 0 → s.issue r body e v = .next ((s.setEng e x).wr TR_PC.PC ((p + 4 + 4 * (w / 2 ^ 16 % 32 + 1)) % 65536) e)) := by
  subst hp
  rw [h.issue_ctl hv hrow hz hbody rfl, ← fS_eq]
  refine ⟨fun hn => ?_, fun hn => ?_⟩
  · simp only [Engine.flow, if_neg (Nat.ne_of_gt hn), ← h.branch]
    rfl
  · simp only [Engine.flow, if_pos hn]
    exact congrArg (fun z => Host.Outcome.next ((s.setEng e z).wr TR_PC.PC _ e)) h.within_none

/-! ### In branch slots and repeat blocks -/

/-- ADD g0, g0, g0, the word 0, changes no register. -/
theorem satBody_zero (t : State) (he : t.eng e = x) (hx : x.noOld = x) :
    satBody false (fun a b => a.toInt + b.toInt) x 0 e (t.updEng e Engine.noOld) = .done (t.setEng e x) .next := by
  have hzero : t.updEng e Engine.noOld = t.setEng e x := by rw [State.updEng, he, hx]
  rw [hzero]
  simp only [satBody]
  refine congrArg (fun t => Eff.done t _) ((State.updEng_setEng ..).trans (congrArg _ ?_))
  exact Engine.sticky_false x

/-- An engine at an eligible boundary that stands in a slot or a block instead still issues. -/
theorem Stands.can_within (h : Stands s e w x) {branch rep : Option (Nat × Nat × Nat)} (hin : branch.isSome ∨ rep.isSome) :
    (s.setEng e (x.within branch rep)).canIssue e = true := by
  have helig : (x.within branch rep).eligible = false := by
    rcases hin with hb | hr
    · obtain ⟨b, rfl⟩ := Option.isSome_iff_exists.1 hb
      simp [Engine.eligible, Engine.within]
    · obtain ⟨b, rfl⟩ := Option.isSome_iff_exists.1 hr
      simp [Engine.eligible, Engine.within]
  rw [State.canIssue, State.eng_setEng_same, helig]
  have hheld : (s.setEng e (x.within branch rep)).pushHeld e = false := h.notHeld
  have hwait : (x.within branch rep).wait = none := h.wait
  simp [h.running, hheld, hwait]

/-- There it fetches the same word. -/
theorem Stands.fetches_within (h : Stands s e w x) (hv : v.fetchErrs = 0) (hrow : rowNames r w = true) {branch rep : Option (Nat × Nat × Nat)}
    (hin : branch.isSome ∨ rep.isSome) : Fetches (s.setEng e (x.within branch rep)) r e w v := by
  refine ⟨h.lt, h.can_within hin, h.good, hv, ?_, hrow⟩
  have hw := h.word
  rw [State.fetchWord, h.eng, h.imemOld] at hw
  rw [State.fetchWord, State.eng_setEng_same, Engine.within, h.imemOld]
  exact hw

/-- The word 0 in a slot or a block goes on where the place says. -/
theorem Stands.issue_within (h : Stands s e 0 x) (hv : v.fetchErrs = 0) {branch rep : Option (Nat × Nat × Nat)} (hin : branch.isSome ∨ rep.isSome) :
    exec (.add e v) (s.setEng e (x.within branch rep)) = .next ((s.setEng e (x.within
      ((x.within branch rep).flow (s.rd TR_PC.PC e) .next).2.1 ((x.within branch rep).flow (s.rd TR_PC.PC e) .next).2.2)).wr TR_PC.PC
        ((x.within branch rep).flow (s.rd TR_PC.PC e) .next).1 e) := by
  have hquiet : (s.setEng e (x.within branch rep)).on TR_STATUS.MON e = true ∨
      (s.setEng e x).on TR_DBG_CTRL.STEP e = false ∧ (s.setEng e x).bpAt e (s.rd TR_PC.PC e) = false := by
    cases hmon : s.on TR_STATUS.MON e with
    | true => exact .inl hmon
    | false => exact .inr ⟨h.step.resolve_left (by simp [hmon]), (h.quiet hmon).2⟩
  have hnoOld : (x.within branch rep).noOld = x.within branch rep := congrArg (fun z : Engine => z.within branch rep) h.noOld
  rw [exec_add, execAdd, (h.fetches_within hv (rowA_names (by decide) (by decide)) hin).issue, if_neg (by simp [rowA]), State.eng_setEng_same,
    satBody_zero _ (State.eng_setEng_same ..) hnoOld, State.setEng_setEng]
  have hretire := State.retire_quiet (x := x.within branch rep) (y := x.within branch rep) (t := s.setEng e (x.within branch rep))
    (mon := (s.setEng e (x.within branch rep)).on TR_STATUS.MON e) h.stores h.imemOld h.stepOver (State.eng_setEng_same ..) h.haltDue
    (hquiet.imp_right fun hq => ⟨hq.1, .inr hq.2⟩) .next
  rw [State.setEng_setEng] at hretire
  exact congrArg _ hretire

/-! ### The obligation -/

/-- Settles O44: each row's control (`br`, `jump`, `repeats`), and where the place of an engine in a slot or a block takes it. -/
theorem tramFlow : Obligations.TramFlow := by
  intro s e w p i v x a b hst hv hx hp hi ha hb
  have h := Stands.of hst hx
  have htaken {op : Nat} (c : Word → Word → Bool) (ho : w / 2 ^ 26 = op) (h64 : op < 64) (hc : c a b = true) :
      s.issue (rowB op) (brBody c) e v = .next (s.issued e { x with branch := some (p, (p + 4 * i) % 65536, 2) }) := by
    subst ha hb hi
    exact h.br hv ho h64 hp hc
  have hnot {op : Nat} (c : Word → Word → Bool) (ho : w / 2 ^ 26 = op) (h64 : op < 64) (hc : c a b = false) :
      s.issue (rowB op) (brBody c) e v = .next (s.issued e { x with branch := some (p, (p + 12) % 65536, 2) }) := by
    subst ha hb hi
    exact h.br hv ho h64 hp hc
  have himm : bitsOf w 0 14 = w % 2 ^ 14 := by simp [bitsOf_eq]
  have hi' : bitsOf w 0 16 = i := by simp [bitsOf_eq, hi]
  have hslt : (a.slt b = true ↔ a.toInt < b.toInt) ∧ (a.slt b = false ↔ b.toInt ≤ a.toInt) := by simp [BitVec.slt]
  have hult : (a.ult b = true ↔ a.toNat < b.toNat) ∧ (a.ult b = false ↔ b.toNat ≤ a.toNat) := by simp [BitVec.ult]
  refine ⟨fun ho hc => htaken (fun a b => decide (a = b)) ho (by decide) (decide_eq_true hc),
    fun ho hc => hnot (fun a b => decide (a = b)) ho (by decide) (decide_eq_false hc),
    fun ho hc => htaken (fun a b => decide (a ≠ b)) ho (by decide) (decide_eq_true hc),
    fun ho hc => hnot (fun a b => decide (a ≠ b)) ho (by decide) (decide_eq_false (not_not.2 hc)),
    fun ho hc => htaken (fun a b => a.slt b) ho (by decide) (hslt.1.2 hc), fun ho hc => hnot (fun a b => a.slt b) ho (by decide) (hslt.2.2 hc),
    fun ho hc => htaken (fun a b => !a.slt b) ho (by decide) (by rw [hslt.2.2 hc]; rfl),
    fun ho hc => hnot (fun a b => !a.slt b) ho (by decide) (by rw [hslt.1.2 hc]; rfl),
    fun ho hc => htaken (fun a b => a.ult b) ho (by decide) (hult.1.2 hc), fun ho hc => hnot (fun a b => a.ult b) ho (by decide) (hult.2.2 hc),
    fun ho hc => htaken (fun a b => !a.ult b) ho (by decide) (by rw [hult.2.2 hc]; rfl),
    fun ho hc => hnot (fun a b => !a.ult b) ho (by decide) (by rw [hult.1.2 hc]; rfl),
    fun ho hz => ?_, fun ho hz => ?_, fun ho hf hz h4 => ?_, fun ho hf hz h4 => ?_, fun ho hf hz hne h4 => ?_, fun ho hf heq => ?_,
    fun ho hz hpos => ?_, fun ho hz hzero => ?_, fun ho hpos => ?_, fun ho hzero => ?_, fun u q t hu hw => ?_, fun u q t hu ho => ?_,
    fun u q n c hu hw hlast hc => ?_, fun u q n hu hw hlast => ?_⟩
  · have hlt : 4 * (w % 2 ^ 14) % 65536 = 4 * (w % 2 ^ 14) := by omega
    rw [exec_go, execGo, h.issue_branch hv (rowN_names ho (by decide)) hz (y := x) rfl rfl hp, himm, if_pos rfl, hlt]
  · have hlt : 4 * (w % 2 ^ 14) % 65536 = 4 * (w % 2 ^ 14) := by omega
    rw [exec_call, execCall, h.issue_branch hv (rowN_names ho (by decide)) hz (taken := true) (target := 4 * bitsOf w 0 14)
      (y := x.wg 30 (linkOf p)) (by rw [State.updEng_setEng, hp]; rfl) (Engine.place_wg ..) hp, himm, if_pos rfl, hlt, linkOf]
  · exact h.jump hv (rowNames_func_iff.2 ⟨by rw [ho], hf⟩) hz hp hb h4 (link := none) rfl
  · exact h.jump_misaligned hv (rowNames_func_iff.2 ⟨by rw [ho], hf⟩) hz hb h4 (link := none) rfl
  · rw [exec_callr, execCallr, h.jump hv (rowNames_func_iff.2 ⟨by rw [ho], hf⟩) hz hp hb h4 (link := some (fD w))
      (if_neg (by rwa [fD_eq, fS_eq])), Option.elim_some, fD_eq]
  · rw [exec_callr, execCallr]
    by_cases hz : w &&& 0x7C0 = 0
    · exact h.issue_exc hv (rowNames_func_iff.2 ⟨by rw [ho], hf⟩) hz (if_pos (by rwa [fD_eq, fS_eq]))
    · exact h.issue_illegal hv (rowNames_func_iff.2 ⟨by rw [ho], hf⟩) hz
  · exact (h.repeats hv (rowN_names ho (by decide)) hz hp (body := fun _ w _ t => .done t (.rep (fS w + 1) (bitsOf w 0 16))) (n := i)
      (by rw [hi'])).1 hpos
  · exact (h.repeats hv (rowN_names ho (by decide)) hz hp (body := fun _ w _ t => .done t (.rep (fS w + 1) (bitsOf w 0 16))) (n := i)
      (by rw [hi'])).2 hzero
  · exact (h.repeats hv (rowN_names ho (by decide)) (Nat.and_zero w) hp
      (body := fun x w _ t => .done t (.rep (fS w + 1) ((x.rg (fD w)).toNat % 65536))) (n := a.toNat % 65536) (by rw [ha, fD_eq])).1 hpos
  · exact (h.repeats hv (rowN_names ho (by decide)) (Nat.and_zero w) hp
      (body := fun x w _ t => .done t (.rep (fS w + 1) ((x.rg (fD w)).toNat % 65536))) (n := a.toNat % 65536) (by rw [ha, fD_eq])).2 hzero
  · subst hu hw
    have hwithin := h.issue_within hv (branch := some (q, t, 1)) (rep := x.rep) (.inl rfl)
    have hflow : (x.within (some (q, t, 1)) x.rep).flow (s.rd TR_PC.PC e) .next = (t, none, none) := rfl
    rw [hflow, h.within_none] at hwithin
    exact hwithin
  · subst hu
    rw [exec_go, execGo]
    exact (h.fetches_within hv (rowN_names ho (by decide)) (branch := some (q, t, 2)) (rep := x.rep) (.inl rfl)).issue_illegal
      (.inr ⟨rfl, .inl (by simp [Engine.within])⟩)
  · subst hu hw
    have hflow : (x.within x.branch (some (q, n, c))).flow p .next = (q, none, some (q, n, c - 1)) := by
      simp only [Engine.flow, Engine.within, h.branch, if_pos hlast, if_neg (Nat.not_le.2 hc)]
    have hwithin := h.issue_within hv (branch := x.branch) (rep := some (q, n, c)) (.inr rfl)
    rw [← hp, hflow] at hwithin
    rw [← h.branch] at hwithin
    exact hwithin
  · subst hu hw
    have hflow : (x.within x.branch (some (q, n, 1))).flow p .next = ((p + 4) % 65536, none, none) := by
      simp only [Engine.flow, Engine.within, h.branch, if_pos hlast, if_pos (Nat.le_refl 1)]
    have hwithin := h.issue_within hv (branch := x.branch) (rep := some (q, n, 1)) (.inr rfl)
    rw [← hp, hflow, h.within_none] at hwithin
    rw [State.issued, ← hp]
    exact hwithin

end Sys2Proof.Machine
end

section
/-! PROOF. The system instructions of a Tram engine (O45; 17 R457, R442; 16 R430, R433). -/

namespace Sys2Proof.Machine

variable {s u : State} {e w k zeros p : Nat} {v : TramView} {x y : Engine} {r : TramRow} {body : Body}

/-! ### Issue that changes registers too -/

/-- An instruction that changes registers and its engine and goes on to the next word. -/
theorem Stands.issue_next (h : Stands s e w x) (hv : v.fetchErrs = 0) (hrow : rowNames r w = true) (hz : w &&& r.zero = 0)
    (hbody : body x w e (s.setEng e x) = .done (u.setEng e y) .next) (hy : y.place = x.place)
    (hstep : u.on TR_DBG_CTRL.STEP e = s.on TR_DBG_CTRL.STEP e) : s.issue r body e v = .next (u.issued e y) := by
  rw [h.issue hv hrow hz, hbody, State.finishIssue, h.retire_next (State.eng_setEng_same ..) hy hstep, State.issued, State.setEng_setEng]
  rfl

/-- A return. -/
theorem Stands.issue_goto (h : Stands s e w x) (hv : v.fetchErrs = 0) (hrow : rowNames r w = true) (hz : w &&& r.zero = 0) {a : Nat}
    (hbody : body x w e (s.setEng e x) = .done (u.setEng e y) (.goto a)) (hy : y.place = x.place)
    (hstep : u.on TR_DBG_CTRL.STEP e = s.on TR_DBG_CTRL.STEP e) : s.issue r body e v = .next ((u.setEng e y).wr TR_PC.PC a e) := by
  rw [h.place] at hy
  obtain ⟨hbr, hrep, hhalt⟩ : y.branch = none ∧ y.rep = none ∧ y.haltDue = false := by simpa [Engine.place] using hy
  have hself : { y with branch := none, rep := none } = y := by
    cases y
    cases hbr
    cases hrep
    rfl
  rw [h.issue hv hrow hz, hbody, State.finishIssue, h.retire (State.eng_setEng_same ..) hhalt hstep, State.setEng_setEng]
  exact congrArg (fun z => Host.Outcome.next ((u.setEng e z).wr TR_PC.PC a e)) hself

theorem State.on_of_rd_eq_one {f : Fld} {i j : Nat} (h : s.rd f i j = 1) : s.on f i j = true := (s.on_iff ..).2 (by omega)

theorem State.on_wr_other {f g : Fld} {n i j i' j' : Nat} (h : g.id ≠ f.id) : (s.wr f n i j).on g i' j' = s.on g i' j' :=
  congrArg (fun m => decide (m ≠ 0)) (s.rd_wr_other h)

theorem State.rd_issued_other {f : Fld} {i j : Nat} (h : f.id ≠ TR_PC.PC.id) : (s.issued e y).rd f i j = s.rd f i j :=
  State.rd_wr_other (s.setEng e y) h

theorem State.on_issued_other {f : Fld} {i j : Nat} (h : f.id ≠ TR_PC.PC.id) : (s.issued e y).on f i j = s.on f i j :=
  congrArg (fun m => decide (m ≠ 0)) (State.rd_issued_other h)

theorem State.eng_issued (s : State) (e : Nat) (y : Engine) : (s.issued e y).eng e = y := State.eng_setEng_same ..

theorem State.pushHeld_issued : (s.issued e y).pushHeld e = s.pushHeld e := by
  have hkind (q : Nat) : (s.issued e y).rd QU_END.KIND q = s.rd QU_END.KIND q := State.rd_issued_other (by decide)
  have hunit (q : Nat) : (s.issued e y).rd QU_END.UNIT q = s.rd QU_END.UNIT q := State.rd_issued_other (by decide)
  simp only [State.pushHeld, hkind, hunit]
  rfl

theorem rowS_names {flow : Bool} (ho : w / 2 ^ 26 = 2) (hk : w % 64 = k) : rowNames (rowS k zeros flow) w = true :=
  rowNames_func_iff.2 ⟨by rw [ho], hk⟩

/-! ### Exceptions (16 R430) -/

/-- Before its branch, block, wait and gaps are dropped an engine at a boundary has none of them. -/
theorem Stands.settled (h : Stands s e w x) :
    (s.updEng e (fun y => { y with branch := none, rep := none, wait := none, stepOver := false })).settleGaps e = s.setEng e x := by
  have hself : ({ x with branch := none, rep := none, wait := none, stepOver := false } : Engine) = x := by
    obtain ⟨-, -, -, -, -, -, -, hbr, hrep, hwait, -, -, hover, -⟩ := h
    cases x
    cases hbr
    cases hrep
    cases hwait
    cases hover
    rfl
  have hnone : ({ x.noOld with stores := [] } : Engine) = x := by
    have hst := h.stores
    rw [h.noOld]
    cases x
    cases hst
    rfl
  have hup : s.updEng e (fun y => { y with branch := none, rep := none, wait := none, stepOver := false }) = s.setEng e x := by
    rw [State.updEng, h.eng, hself]
  rw [hup, State.settleGaps, State.eng_setEng_same, h.stores, State.updEng_setEng, hnone]
  rfl

/-- An exception outside a handler enters the handler. -/
theorem Stands.raiseExc_handler (h : Stands s e w x) (hinh : s.rd TR_STATUS.INH e = 0) (cause eaddr : Nat) : s.raiseExc e cause eaddr =
    ((((((((s.setEng e { x with resv := none }).wr TR_EXC.CAUSE cause e).wr TR_EXC.EADDR eaddr e).wr TR_XPC.XPC (s.rd TR_PC.PC e) e).wr
      TR_XPC.XBD 0 e).wr TR_XPC.XINREP 0 e).wr TR_XPC.XREP 0 e).wr TR_STATUS.INH 1 e).wr TR_PC.PC (s.rd TR_CTRL.VBASE e * 256 + 0x40) e := by
  have hoff : (s.setEng e x).on TR_STATUS.INH e = false := s.on_eq_false hinh
  simp only [State.raiseExc, h.settled, h.eng, h.branch, h.rep, hoff, if_neg Bool.false_ne_true, State.vector]
  rw [State.haltAtBoundary_none]
  · simp (disch := decide) only [State.updEng_wr, State.updEng_setEng, State.rd_wr_other, State.rd_setEng]
    rw [h.branch, h.rep]
  · simp only [State.updEng_wr, State.updEng_setEng, State.eng_wr, State.eng_setEng_same, h.haltDue]

/-- A second exception within a handler holds the engine. -/
theorem Stands.raiseExc_double (h : Stands s e w x) (hinh : s.rd TR_STATUS.INH e = 1) (cause eaddr : Nat) : s.raiseExc e cause eaddr =
    ((((s.setEng e x).wr TR_EXC.CAUSE cause e).wr TR_EXC.EADDR eaddr e).wr TR_STATUS.STATE 0 e).wr TR_STATUS.DOUBLE 1 e := by
  have hon : (s.setEng e x).on TR_STATUS.INH e = true := State.on_of_rd_eq_one hinh
  have hself : ({ x with haltDue := false } : Engine) = x := by
    have hhalt := h.haltDue
    cases x
    cases hhalt
    rfl
  simp only [State.raiseExc, h.settled, hon, if_true, State.updEng_wr, State.updEng_setEng, hself]

/-! ### BREAK (16 R433) -/

/-- In monitor mode no debug cause is present. -/
theorem State.debugEntry_monitor (h : s.on TR_STATUS.MON e = true) : s.debugEntry e = s := by
  rw [State.debugEntry, if_neg]
  simp [State.dbgCauses, h]

/-- An engine that has just noted the cause of BREAK at an eligible boundary enters the monitor: `b` is the breakpoint at its next word. -/
theorem State.debugEntry_break (hrun : s.rd TR_STATUS.STATE e = 1) (hmon : s.rd TR_STATUS.MON e = 0) (hx : s.eng e = { x with dbg := 1 })
    (helig : x.eligible = true) (hheld : s.pushHeld e = false) (hover : x.stepOver = false) :
    s.debugEntry e = (((((s.setEng e { x with resv := none, dbg := 0 }).wr TR_MPC.MPC (s.rd TR_PC.PC e) e).wr TR_MPC.MREASON
      (1 + if s.bpAt e (s.rd TR_PC.PC e) then 2 else 0) e).wr TR_STATUS.MON 1 e).wr TR_PC.PC (s.rd TR_CTRL.VBASE e * 256 + 0xC0) e) := by
  have hcauses : s.dbgCauses e = 1 + if s.bpAt e (s.rd TR_PC.PC e) then 2 else 0 := by
    rw [State.dbgCauses, State.on_eq_false hmon, hx, if_neg Bool.false_ne_true]
    cases hbp : s.bpAt e (s.rd TR_PC.PC e) <;> simp [hover]
  have hself : ({ x with resv := none, dbg := 0, stepOver := false } : Engine) = { x with resv := none, dbg := 0 } := by
    rw [hover]
  have hdue : s.rd TR_STATUS.STATE e = 1 ∧ (s.eng e).eligible ∧ (!s.pushHeld e) = true ∧ s.dbgCauses e ≠ 0 :=
    ⟨hrun, by rw [hx]; exact helig, by rw [hheld]; rfl, by rw [hcauses]; omega⟩
  rw [State.debugEntry, if_pos hdue, State.enterMonitor, ← hcauses]
  simp only [State.vector, State.updEng_wr]
  rw [State.updEng, hx, ← hself]

/-- The body of BREAK. -/
def breakBody : Body := fun _ _ e t =>
  .done (if t.on TR_STATUS.MON e then t.wr TR_DBG_CTRL.DBG_NEST 1 e else t.updEng e (fun y => { y with dbg := y.dbg ||| 1 })) .next

/-- What BREAK does when it issues, and then the debug entry that it may bring. -/
theorem exec_break_of_issue {t : State} (hcan : s.canIssue e = true) (hi : s.issue (rowS 6 0x3FFFFC0 false) breakBody e v = .next t) :
    exec (.break e v) s = .next (t.debugEntry e) := by
  rw [exec_break, execBreak]
  unfold breakBody at hi
  rw [hi, hcan]
  rfl

theorem State.bpAt_wr_other {f : Fld} {m i j pc : Nat} (h1 : TR_BP.EN.id ≠ f.id) (h2 : TR_BP.ADDR.id ≠ f.id) :
    (s.wr f m i j).bpAt e pc = s.bpAt e pc := by
  simp only [State.bpAt, State.on_wr_other h1, State.rd_wr_other s h2]

/-! ### Control and circular registers (R441, R442) -/

/-- RDC of a register with the value `m`, the engine's cycles brought up to date in `y`. -/
theorem Stands.rdc (h : Stands s e w x) (hv : v.fetchErrs = 0) (ho : w / 2 ^ 26 = 2) (hk : w % 64 = 8) (hz : w &&& 0xFFC0 = 0) {c i d : Nat} {m : Word}
    (hi : i = w / 2 ^ 16 % 32) (hd : d = w / 2 ^ 21 % 32) (hy : y.place = x.place)
    (hread : (i = 0 ∧ y = x.tick c ∧ m = BitVec.ofNat 32 (b2n x.sv + 2 * b2n (s.on TR_STATUS.IE e))) ∨ (i = 1 ∧ y = x.tick c ∧ m = 0) ∨
      (i = 2 ∧ y = { x.tick c with cyclesHi := (x.tick c).cycles.extractLsb' 32 32 } ∧ m = (x.tick c).cycles.extractLsb' 0 32) ∨
      (i = 3 ∧ y = x.tick c ∧ m = x.cyclesHi) ∨ (i = 4 ∧ y = x.tick c ∧ m = BitVec.ofNat 32 e)) :
    exec (.rdc e c v) s = .next (s.issued e (y.wg d m)) := by
  rw [exec_rdc, execRdc]
  refine h.issue_next hv (rowS_names ho hk) hz (u := s) ?_ ((Engine.place_wg ..).trans hy) rfl
  simp only [State.eng_setEng_same, State.setEng_setEng, State.on_setEng, fS_eq, ← hi, fD_eq, ← hd, h.rep]
  obtain ⟨rfl, rfl, rfl⟩ | ⟨rfl, rfl, rfl⟩ | ⟨rfl, rfl, rfl⟩ | ⟨rfl, rfl, rfl⟩ | ⟨rfl, rfl, rfl⟩ := hread <;> rfl

theorem Stands.rdc_illegal (h : Stands s e w x) (hv : v.fetchErrs = 0) (ho : w / 2 ^ 26 = 2) (hk : w % 64 = 8) {c i : Nat}
    (hi : i = w / 2 ^ 16 % 32) (h4 : 4 < i) : exec (.rdc e c v) s = .next (s.raiseExc e 1 0) := by
  rw [exec_rdc, execRdc]
  by_cases hz : w &&& 0xFFC0 = 0
  · refine h.issue_exc hv (rowS_names ho hk) hz ?_
    simp only [fS_eq, ← hi]
    match i, h4 with
    | n + 5, _ => rfl
  · exact h.issue_illegal hv (rowS_names ho hk) hz

/-- WRC leaves the engine as the control register says. -/
theorem Stands.wrc (h : Stands s e w x) (hv : v.fetchErrs = 0) (ho : w / 2 ^ 26 = 2) (hk : w % 64 = 9) (hz : w &&& 0xFFC0 = 0) {c i d : Nat} {a : Word}
    (hi : i = w / 2 ^ 16 % 32) (hd : d = w / 2 ^ 21 % 32) (ha : a = x.rg d) (hy : y.place = x.place)
    (hwrite : (i = 0 ∧ y = { x.tick c with sv := a.getLsbD 0 }) ∨ ((i = 1 ∨ i = 4) ∧ y = x.tick c) ∨
      (i = 2 ∧ y = { x.tick c with cycles := (x.tick c).cycles.extractLsb' 32 32 ++ a }) ∨
      (i = 3 ∧ y = { x.tick c with cycles := a ++ (x.tick c).cycles.extractLsb' 0 32 })) :
    exec (.wrc e c v) s = .next (s.issued e y) := by
  rw [exec_wrc, execWrc]
  refine h.issue_next hv (rowS_names ho hk) hz (u := s) ?_ hy rfl
  simp only [State.eng_setEng_same, State.setEng_setEng, fS_eq, ← hi, fD_eq, ← hd, ← ha]
  obtain ⟨rfl, rfl⟩ | ⟨rfl | rfl, rfl⟩ | ⟨rfl, rfl⟩ | ⟨rfl, rfl⟩ := hwrite <;> rfl

/-- A circular register's number in the word. -/
theorem kKey_eq (w : Nat) : kKey (bitsOf w 14 2) (bitsOf w 16 3) = w / 2 ^ 14 % 4 * 8 + w / 2 ^ 16 % 8 := by
  simp [kKey, bitsOf_eq]

/-- WRK of a register other than kind 3. -/
theorem Stands.wrk (h : Stands s e w x) (hv : v.fetchErrs = 0) (ho : w / 2 ^ 26 = 2) (hk : w % 64 = 11) (hz : w &&& 0x183FC0 = 0) {m d : Nat} {a b : Word}
    (hm : m = w / 2 ^ 14 % 4 * 8 + w / 2 ^ 16 % 8) (hd : d = w / 2 ^ 21 % 32) (ha : a = x.rg d) (h24 : m < 24)
    (hb : b = if 16 ≤ m ∧ 0x200000 < a.toNat then 0x200000 else a) :
    exec (.wrk e v) s = .next (s.issued e { x with k := Tab.set natLt 0 x.k m b, kOld := [(m, Tab.get 0 x.k m)] }) := by
  have hkind : bitsOf w 14 2 = w / 2 ^ 14 % 4 := bitsOf_eq ..
  have hlen : (bitsOf w 14 2 = 2 ∧ 0x200000 < a.toNat) = (16 ≤ m ∧ 0x200000 < a.toNat) := propext (by omega)
  rw [exec_wrk, execWrk, h.issue_plain hv (rowS_names ho hk) hz (f := fun y => y.wkLate (bitsOf w 14 2) (bitsOf w 16 3) (x.rg (fD w)))
    (if_neg (by omega)) rfl]
  simp only [Engine.wkLate, Engine.rk, kKey_eq, ← hm, fD_eq, ← hd, ← ha, hlen, ← hb]

/-! ### The obligation -/

/-- Settles O45: what each row does to its engine and registers, by `issue_next`, `issue_goto` and the two ways of an exception. -/
theorem tramSystem : Obligations.TramSystem := by
  intro s e w p d i c v x a n hst hv hx hp hd hi ha hn
  have h := Stands.of hst hx
  have htick : x.tick c = { x with cycles := n } := by rw [Engine.tick, hn]
  have hsel : fS w = i := by rw [fS_eq, hi]
  have hdst : fD w = d := by rw [fD_eq, hd]
  refine ⟨fun ho hk hz => ?_, fun ho hk hz => ?_, fun ho hk hz => ?_, fun ho hk hz hinh => ?_, fun ho hk hz hinh => ?_, fun ho hk hz hmon => ?_,
    fun ho hk hz hmon => ?_, fun ho hk hz hmon => ?_, fun ho hk hz hmon => ?_, fun ho hk hinh => ?_, fun ho hk hinh => ?_,
    fun ho hk hz h0 => ?_, fun ho hk hz h0 => ?_, fun ho hk hz h0 => ?_, fun ho hk hz h0 => ?_, fun ho hk hz h0 => ?_, fun ho hk h4 => ?_,
    fun ho hk hz h0 => ?_, fun ho hk hz h0 => ?_, fun ho hk hz h0 => ?_, fun ho hk hz h0 => ?_, fun ho hk hz h3 => ?_, fun ho hk h3 => ?_,
    fun m hm ho hk hz h24 hle => ?_, fun m hm ho hk hz h16 h24 hgt => ?_⟩
  · rw [exec_wait, execWait]
    refine h.issue_next hv (rowS_names ho hk) hz (u := s.wr TR_STATUS.STATE 2 e) (y := { x with resv := none }) ?_ rfl (State.on_wr_other (by decide))
    rw [State.updEng_wr, State.updEng_setEng, ← State.setEng_wr]
  · rw [exec_ei, execEi]
    exact h.issue_next hv (rowS_names ho hk) hz (u := s.wr TR_STATUS.IE 1 e) rfl rfl (State.on_wr_other (by decide))
  · rw [exec_di, execDi]
    exact h.issue_next hv (rowS_names ho hk) hz (u := s.wr TR_STATUS.IE 0 e) rfl rfl (State.on_wr_other (by decide))
  · rw [exec_retx, execRetx]
    exact h.issue_goto hv (rowS_names ho hk) hz (u := s.wr TR_STATUS.INH 0 e) (if_pos (State.on_of_rd_eq_one hinh)) rfl (State.on_wr_other (by decide))
  · rw [exec_retx, execRetx]
    exact h.issue_exc hv (rowS_names ho hk) hz (if_neg (by simp [State.on_eq_false (s := s) hinh]))
  · rw [exec_retm, execRetm]
    refine h.issue_goto hv (rowS_names ho hk) hz (u := s.wr TR_STATUS.MON 0 e) (y := { x with stepOver := s.on TR_DBG_CTRL.STEP e })
      ((if_pos (State.on_of_rd_eq_one hmon)).trans ?_) rfl (State.on_wr_other (by decide))
    rw [State.updEng_wr, State.updEng_setEng, ← State.setEng_wr]
    rfl
  · rw [exec_retm, execRetm]
    exact h.issue_exc hv (rowS_names ho hk) hz (if_neg (by simp [State.on_eq_false (s := s) hmon]))
  · have hon : s.on TR_STATUS.MON e = true := State.on_of_rd_eq_one hmon
    have hissue := h.issue_next hv (rowS_names (flow := false) ho hk) hz (body := breakBody) (u := s.wr TR_DBG_CTRL.DBG_NEST 1 e) (y := x)
      (congrArg (fun t => Eff.done t _) (if_pos hon)) rfl (State.on_wr_other (by decide))
    refine (exec_break_of_issue h.can hissue).trans (congrArg _ (State.debugEntry_monitor ?_))
    exact (State.on_issued_other (by decide)).trans ((State.on_wr_other (by decide)).trans hon)
  · have hoff : s.on TR_STATUS.MON e = false := s.on_eq_false hmon
    obtain ⟨hdbg, -⟩ := h.quiet hoff
    have hissue := h.issue_plain hv (rowS_names (flow := false) ho hk) hz (body := breakBody) (f := fun y => { y with dbg := y.dbg ||| 1 })
      (congrArg (fun t => Eff.done t _) (if_neg (by simp [hoff]))) rfl
    have hpc : (s.issued e { x with dbg := x.dbg ||| 1 }).rd TR_PC.PC e = (p + 4) % 65536 := by
      rw [hp]
      exact State.rd_wr_fit (Nat.mod_lt _ (by decide))
    have hbp (pc : Nat) : (s.issued e { x with dbg := x.dbg ||| 1 }).bpAt e pc = s.bpAt e pc :=
      State.bpAt_wr_other (s := s.setEng e { x with dbg := x.dbg ||| 1 }) (by decide) (by decide)
    have hself : ({ x with resv := none, dbg := 0 } : Engine) = { x with resv := none } := by rw [← hdbg]
    have hone : (x.dbg ||| 1) = 1 := by
      rw [hdbg]
      rfl
    refine (exec_break_of_issue h.can hissue).trans (congrArg _ ?_)
    rw [State.debugEntry_break (s := s.issued e { x with dbg := x.dbg ||| 1 }) (x := x) ((State.rd_issued_other (by decide)).trans h.running)
      ((State.rd_issued_other (by decide)).trans hmon) ((State.eng_issued ..).trans (by rw [hone])) h.eligible (State.pushHeld_issued.trans h.notHeld)
      h.stepOver, hpc, hbp,
      State.rd_issued_other (by decide), State.issued, State.setEng_wr, State.setEng_setEng, hself]
    rfl
  · have headdr : bitsOf w 6 20 = w / 64 % 2 ^ 20 := bitsOf_eq ..
    rw [exec_trap, execTrap, h.issue_exc hv (rowS_names ho hk) (Nat.and_zero w) rfl, h.raiseExc_handler hinh, ← hp, headdr]
  · have headdr : bitsOf w 6 20 = w / 64 % 2 ^ 20 := bitsOf_eq ..
    rw [exec_trap, execTrap, h.issue_exc hv (rowS_names ho hk) (Nat.and_zero w) rfl, h.raiseExc_double hinh, headdr]
  · rw [← htick]
    refine h.rdc hv ho hk hz hi hd rfl (.inl ⟨h0, rfl, ?_⟩)
    simp only [State.on, b2n]
    cases x.sv <;> by_cases hie : s.rd TR_STATUS.IE e = 0 <;> simp [hie]
  · rw [← htick]
    exact h.rdc hv ho hk hz hi hd rfl (.inr (.inl ⟨h0, rfl, rfl⟩))
  · subst hn
    exact h.rdc hv ho hk hz hi hd (y := { x.tick c with cyclesHi := (x.tick c).cycles.extractLsb' 32 32 }) rfl (.inr (.inr (.inl ⟨h0, rfl, rfl⟩)))
  · rw [← htick]
    exact h.rdc hv ho hk hz hi hd rfl (.inr (.inr (.inr (.inl ⟨h0, rfl, rfl⟩))))
  · rw [← htick]
    exact h.rdc hv ho hk hz hi hd rfl (.inr (.inr (.inr (.inr ⟨h0, rfl, rfl⟩))))
  · exact h.rdc_illegal hv ho hk hi h4
  · subst hn
    exact h.wrc hv ho hk hz hi hd ha rfl (.inl ⟨h0, rfl⟩)
  · rw [← htick]
    exact h.wrc hv ho hk hz hi hd ha rfl (.inr (.inl ⟨h0, rfl⟩))
  · subst hn
    exact h.wrc hv ho hk hz hi hd ha rfl (.inr (.inr (.inl ⟨h0, rfl⟩)))
  · subst hn
    exact h.wrc hv ho hk hz hi hd ha rfl (.inr (.inr (.inr ⟨h0, rfl⟩)))
  · have hkind : bitsOf w 14 2 = w / 2 ^ 14 % 4 := bitsOf_eq ..
    rw [exec_rdk, execRdk, h.issue_plain hv (rowS_names ho hk) hz (f := fun y => y.wg (fD w) (x.rk (bitsOf w 14 2) (bitsOf w 16 3)))
      (if_neg (by omega)) (Engine.place_wg ..), Engine.rk, kKey_eq, hdst]
  · have hkind : bitsOf w 14 2 = 3 := (bitsOf_eq ..).trans h3
    rw [exec_rdk, execRdk]
    by_cases hz : w &&& 0x183FC0 = 0
    · exact h.issue_exc hv (rowS_names ho hk) hz (if_pos hkind)
    · exact h.issue_illegal hv (rowS_names ho hk) hz
  · exact h.wrk hv ho hk hz hm hd ha h24 (by rw [if_neg (by omega)])
  · exact h.wrk hv ho hk hz hm hd ha h24 (by rw [if_pos ⟨h16, hgt⟩])

end Sys2Proof.Machine
end

section
/-! PROOF. Queue instructions, notices and posts (O48; 17 R456, 16 R425 to R427). -/

namespace Sys2Proof.Machine

variable {s t : State} {e w k i d : Nat} {v : TramView} {x : Engine} {q : GalReq} {f : Engine → Engine}

/-! ### A request that holds its engine (13 R353, R355; 16 R411) -/

/-- An engine that a posted request holds. -/
structure Posting (s : State) (e : Nat) (x : Engine) : Prop where
  place : (s.eng e).place = x.place
  haltDue : (s.eng e).haltDue = false
  wait : (s.eng e).wait = some .push ∨ (s.eng e).wait = some .accept

/-- The engine stands where it stood, and `STEP` is as it was. -/
def Resumes (s : State) (e : Nat) (x : Engine) (t : State) : Prop :=
  (t.eng e).place = x.place ∧ t.on TR_DBG_CTRL.STEP e = s.on TR_DBG_CTRL.STEP e

/-- A change that keeps the place brings no HALT. -/
theorem Posting.moved (h : Posting s e x) (hf : ∀ y, (f y).place = y.place) (htram : t.eng e = s.eng e)
    (hstep : t.on TR_DBG_CTRL.STEP e = s.on TR_DBG_CTRL.STEP e) : Resumes s e x ((t.updEng e f).haltAtBoundary e) := by
  have heng : (t.updEng e f).eng e = f (s.eng e) := by rw [State.updEng, State.eng_setEng_same, htram]
  have hplace : (f (s.eng e)).place = (s.eng e).place := hf _
  have hdue : (f (s.eng e)).haltDue = false := (congrArg (fun p => p.2.2) hplace).trans h.haltDue
  rw [State.haltAtBoundary_none ((congrArg Engine.haltDue heng).trans hdue)]
  exact ⟨(congrArg Engine.place heng).trans (hplace.trans h.place), hstep⟩

theorem Posting.accept (h : Posting s e x) (htram : t.eng e = s.eng e) (hstep : t.on TR_DBG_CTRL.STEP e = s.on TR_DBG_CTRL.STEP e) (tag : Nat) :
    Resumes s e x (t.acceptEngine e tag) := by
  rw [State.acceptEngine]
  exact h.moved (fun _ => rfl) htram hstep

theorem Posting.refuse (h : Posting s e x) (htram : t.eng e = s.eng e) (hstep : t.on TR_DBG_CTRL.STEP e = s.on TR_DBG_CTRL.STEP e) (status : Nat) :
    Resumes s e x (t.refuseEngine e status) := by
  have hmove := h.moved (f := fun y => { y with wait := none }) (fun _ => rfl) htram hstep
  rw [State.refuseEngine, htram]
  obtain hw | hw := h.wait <;> rw [hw] <;> exact hmove

theorem Posting.niRefuse (h : Posting s e x) (hq : q.engine = some e) (hop : q.op = 2) (status : Nat) : Resumes s e x (s.niRefuse q status) := by
  simp only [State.niRefuse, hq, hop, if_true, ne_eq, not_true_eq_false, and_false, if_false]
  exact h.refuse (t := s.count GL_NI_STAT.NOROUTE 1 0 q.ni) (State.eng_wr ..) (State.on_wr_other (s := s) (by decide)) status

theorem Resumes.showTags (h : Resumes s e x t) (ni : Nat) : Resumes s e x (t.showTags ni) :=
  ⟨h.1, (State.on_wr_other (s := t) (by decide)).trans h.2⟩

theorem Posting.inject (h : Posting s e x) (hq : q.engine = some e) (hop : q.op = 2) (dst : Nat) : Resumes s e x (s.inject q dst).2 := by
  simp only [State.inject, hq, hop, if_true, ne_eq, not_true_eq_false, and_false, if_false]
  split
  · refine Resumes.showTags (Posting.accept h ?_ ?_ _) _
    · rfl
    · rfl
  · exact ⟨h.place, rfl⟩

theorem Posting.request (h : Posting s e x) (hq : q.engine = some e) (hop : q.op = 2) : Resumes s e x (s.request q) := by
  rw [State.request]
  split
  · exact h.niRefuse hq hop 2
  next dst hd =>
    split
    · exact h.niRefuse hq hop 5
    · split
      · exact h.niRefuse hq hop 6
      · have hin := h.inject hq hop dst
        split
        next u hu => rwa [hu] at hin
        next u hu =>
          rw [hu] at hin
          exact hin

/-! ### Pushes and pops (17 R456) -/

theorem rowQ_names (ho : w / 2 ^ 26 = 3) (hk : w % 64 = k) : rowNames (rowQ k) w = true := rowNames_func_iff.2 ⟨by rw [ho], hk⟩

/-- The port of a queue instruction: bit [20] is 0. -/
theorem fS_port (hz : w &&& 0x10FFC0 = 0) : fS w = w / 2 ^ 16 % 16 := by
  have hbit : w.testBit 20 = false := by
    have hmask : (w &&& 0x10FFC0).testBit 20 = false := by rw [hz, Nat.zero_testBit]
    rwa [Nat.testBit_and, show (0x10FFC0 : Nat).testBit 20 = true by decide, Bool.and_true] at hmask
  rw [Nat.testBit_eq_decide_div_mod_eq] at hbit
  rw [fS_eq]
  have : w / 2 ^ 20 % 2 = 0 := by simpa using hbit
  omega

/-- A queue instruction that is posted: the engine waits for the Cage, and the next word follows. -/
theorem Stands.issue_posted {r : TramRow} {body : Body} (h : Stands s e w x) (hv : v.fetchErrs = 0) (hrow : rowNames r w = true)
    (hz : w &&& r.zero = 0) (hq : q.engine = some e) (hop : q.op = 2) {y : Engine} (hy : y.place = x.place)
    (hw : y.wait = some .push ∨ y.wait = some .accept) (ht : t = (s.setEng e y).request q)
    (hbody : body x w e (s.setEng e x) = .done t .next) : s.issue r body e v = .next (t.issued e (t.eng e)) := by
  have hpost : Posting (s.setEng e y) e x := by
    have heng := State.eng_setEng_same s e y
    have hdue : y.haltDue = x.haltDue := congrArg (fun p => p.2.2) hy
    exact ⟨by rw [heng, hy], by rw [heng, hdue, h.haltDue], by rw [heng]; exact hw⟩
  obtain ⟨hplace, hstep⟩ := hpost.request hq hop
  rw [h.issue hv hrow hz, hbody, State.finishIssue, h.retire_next rfl (by rw [ht, hplace]) (by rw [ht, hstep]; rfl)]

theorem Stands.push (h : Stands s e w x) (hv : v.fetchErrs = 0) (hrow : rowNames (rowQ k) w = true) (hz : w &&& 0x10FFC0 = 0)
    (hd : d = w / 2 ^ 21 % 32) (hi : i = w / 2 ^ 16 % 16) (hon : s.rd TR_QPORT.VALID e i = 1) {off : Nat}
    (ht : t = (s.setEng e { x with wait := some .push }).request
      ⟨653 + e / 8, some e, 0x010006000000 + s.rd TR_QPORT.QUEUE e i * 0x1000 + off, 4, 2, (x.rg d).toNat, false, 0⟩) :
    s.issue (rowQ k) (pushBody off) e v = .next (t.issued e (t.eng e)) := by
  refine h.issue_posted hv hrow hz rfl rfl (y := { x with wait := some .push }) rfl (.inl rfl) ht ?_
  have hport : fS w = i := (fS_port hz).trans hi.symm
  have hvalid : (s.setEng e x).on TR_QPORT.VALID e i = true := State.on_of_rd_eq_one hon
  rw [ht, pushBody, hport, hvalid, fD_eq, ← hd, State.updEng_setEng]
  rfl

theorem Stands.pop (h : Stands s e w x) (hv : v.fetchErrs = 0) (hrow : rowNames (rowQ k) w = true) (hz : w &&& 0x10FFC0 = 0)
    (hd : d = w / 2 ^ 21 % 32) (hi : i = w / 2 ^ 16 % 16) (hon : s.rd TR_QPORT.VALID e i = 1) (head : Bool) {a : Nat}
    (ha : a = 0x010006000000 + s.rd TR_QPORT.QUEUE e i * 0x1000 + 0x818) :
    s.issue (rowQ k) (popBody head) e v = .next
      ((s.setEng e { x with wait := some (.answer ⟨some d, 4, false, none, if head then some i else none, a % 2 ^ 32⟩ none) }).request
        ⟨653 + e / 8, some e, a, 4, 0, 0, false, 0⟩) := by
  have hport : fS w = i := (fS_port hz).trans hi.symm
  have hvalid : (s.setEng e x).on TR_QPORT.VALID e i = true := State.on_of_rd_eq_one hon
  have hbody : popBody head x w e (s.setEng e x) = .frozen
      ((s.setEng e { x with wait := some (.answer ⟨some d, 4, false, none, if head then some i else none, a % 2 ^ 32⟩ none) }).request
        ⟨653 + e / 8, some e, a, 4, 0, 0, false, 0⟩) := by
    simp only [popBody, hport, hvalid, fD_eq, ← hd, State.updEng_setEng, Bool.not_true, Bool.false_eq_true, if_false]
    rw [ha]
    rfl
  rw [h.issue hv hrow hz, hbody]
  rfl

/-- On an unbound port. -/
theorem Stands.qport {body : Body} (h : Stands s e w x) (hv : v.fetchErrs = 0) (hrow : rowNames (rowQ k) w = true) (hz : w &&& 0x10FFC0 = 0)
    (hi : i = w / 2 ^ 16 % 16) (hoff : s.rd TR_QPORT.VALID e i = 0)
    (hbody : ∀ t : State, t.on TR_QPORT.VALID e (fS w) = false → body x w e t = .exc t 6 0) :
    s.issue (rowQ k) body e v = .next (s.raiseExc e 6 0) :=
  h.issue_exc hv hrow hz (hbody (s.setEng e x) (((fS_port hz).trans hi.symm) ▸ s.on_eq_false hoff))

theorem pushBody_unbound {off : Nat} (h : t.on TR_QPORT.VALID e (fS w) = false) : pushBody off x w e t = .exc t 6 0 := by
  rw [pushBody, h]
  rfl

theorem popBody_unbound {head : Bool} (h : t.on TR_QPORT.VALID e (fS w) = false) : popBody head x w e t = .exc t 6 0 := by
  rw [popBody, h]
  rfl

/-! ### Notices (16 R426) -/

/-- The 16 bits at `m` of a number hold `c`. -/
theorem clearMask_half {o m n c : Nat} (hn : n = o / 2 ^ m % 2 ^ 16) : clearMask o (0xFFFF * 2 ^ m) + c * 2 ^ m = o - n * 2 ^ m + c * 2 ^ m := by
  have hand : o &&& 0xFFFF * 2 ^ m = n * 2 ^ m := by
    rw [hn]
    refine Nat.eq_of_testBit_eq fun b => ?_
    rw [Nat.testBit_and, Nat.testBit_mul_two_pow, Nat.testBit_mul_two_pow, Nat.testBit_mod_two_pow, Nat.testBit_div_two_pow,
      show (0xFFFF : Nat) = 2 ^ 16 - 1 from rfl, Nat.testBit_two_pow_sub_one]
    by_cases hb : m ≤ b
    · simp [hb, Nat.sub_add_cancel hb, Bool.and_comm]
    · simp [hb]
  rw [clearMask, hand]

theorem min_notice_room {n : Nat} (h : n < 0xFFFE) : n + 1 = min (n + 1) 0xFFFF := by omega

theorem min_notice_full {n : Nat} (h : 0xFFFE ≤ n) : 0xFFFF = min (n + 1) 0xFFFF := by omega

theorem half_le {o m n : Nat} (hn : n = o / 2 ^ m % 2 ^ 16) : n * 2 ^ m ≤ o := by
  rw [hn]
  exact (Nat.mul_le_mul_right _ (Nat.mod_le ..)).trans (Nat.div_mul_le_self ..)

/-- A notice whose new count is `c`. -/
theorem State.latchNotice_eq {o n c m : Nat} (ho : o = s.rd TR_QCOUNT.COUNT e (i / 4)) (hm : m = 16 * (i % 4)) (hn : n = o / 2 ^ m % 2 ^ 16)
    (hc : c = min (n + 1) 0xFFFF) : s.latchNotice e i =
      (let t := (s.wr TR_QCOUNT.COUNT (o - n * 2 ^ m + c * 2 ^ m) e (i / 4)).wr TR_IRQ_PEND.PEND (s.rd TR_IRQ_PEND.PEND e ||| 1) e
       if c = 0xFFFF then t.wr TR_QPORT.SAT 1 e i else t) := by
  have hcount : s.noticeCount e i = n := by rw [State.noticeCount, bitsOf_eq, ← ho, ← hm, hn]
  rw [State.latchNotice, hcount, ← hc, State.setNoticeCount, ← ho, ← hm, clearMask_half hn, State.putBit, State.rd_wr_other _ (by decide)]
  rfl

theorem exec_qnote_of_lt (he : e < 64) (hi : i < 16) : exec (.qnote e i) s = .next (s.latchNotice e i) := by
  have hport : (halfData 0x060 4 i) % 16 = i := by
    rw [halfData]
    simp
    omega
  rw [exec_qnote, execQnote, need_pos (decide_eq_true ⟨he, hi⟩), State.trWrite]
  simp only [hport]
  rfl

/-- The notices of an engine's queues again. -/
theorem State.resendNotices_one {q : Nat} {p : QPkt} (hq : s.liveQueues.filter (fun k => s.endsAt k (.engine e) && !s.quUp k) = [q])
    (hp : (s.queue q).pkts.filter (fun k => k.closed) = [p]) (hkind : s.rd QU_END.KIND q = 0) : s.resendNotices e =
      s.emit (.access 644 (0x010005020060 + s.rd QU_END.UNIT q * 0x40000) 4 true false (s.rd QU_END.PORT q) false) := by
  have haddr (u : Nat) : 0x010005020000 + u * 0x40000 + TR_QNOTE.PORT.off = 0x010005020060 + u * 0x40000 := by
    simp only [TR_QNOTE.PORT]
    omega
  rw [State.resendNotices, hq, List.foldl_cons, List.foldl_nil, hp, List.foldl_cons, List.foldl_nil, State.tellEnd, hkind]
  simp only [haddr]

/-! ### Posts (16 R427) -/

theorem exec_irqPost_of_lt (he : e < 64) (src tag : Nat) (posted : Bool) : exec (.irqPost e d src tag posted) s =
    .next ((s.irqPost e (halfData 0x040 4 d)).2.respond (653 + e / 8) src tag (s.irqPost e (halfData 0x040 4 d)).1 0 false posted) := by
  rw [exec_irqPost, execIrqPost, need_pos (decide_eq_true he)]
  rfl

theorem State.irqPost_taken (hd : d < 2 ^ 32) (hx : s.eng e = x) (hroom : x.posts.length < 16) (hrun : s.rd TR_STATUS.STATE e ≠ 3) :
    s.irqPost e (halfData 0x040 4 d) = (0, s.setEng e { x with posts := x.posts ++ [d] }) := by
  have hdata : halfData 0x040 4 d = d := Nat.mod_eq_of_lt hd
  rw [State.irqPost, hx, if_neg (by omega), hdata, Nat.mod_eq_of_lt hd, State.updEng, hx]

theorem State.irqPost_refused (hx : s.eng e = x) (hfull : 16 ≤ x.posts.length ∨ s.rd TR_STATUS.STATE e = 3) : s.irqPost e d = (1, s) := by
  rw [State.irqPost, hx, if_pos hfull]

theorem exec_postPop_of_lt (he : e < 64) {n : Nat} (hn : n = 4 ∨ n = 8) (src tag : Nat) (peek : Bool) : exec (.postPop e n src tag peek) s =
    .next ((s.postRead e (halfMask 0x048 n) peek).2.emit
      (.response (653 + e / 8) src tag 0 (halfRead 0x048 n (s.postRead e (halfMask 0x048 n) peek).1) false)) := by
  rw [exec_postPop, execPostPop, need_pos (decide_eq_true ⟨he, hn⟩)]
  rfl

theorem State.postRead_entry {m r : Nat} {ps : List Nat} (hx : s.eng e = x) (hp : x.posts = r :: ps) (hm : m.testBit 0 = true) (peek : Bool) :
    s.postRead e m peek = (r + 2 ^ 32, if peek then s else s.setEng e { x with posts := ps }) := by
  rw [State.postRead, hx, hp, hm]
  cases peek
  · simp only [Bool.not_false, Bool.and_self, if_true, State.updEng, hx]
    rfl
  · rfl

theorem State.postRead_empty (hx : s.eng e = x) (hp : x.posts = []) (m : Nat) (peek : Bool) : s.postRead e m peek = (0, s) := by
  rw [State.postRead, hx, hp]

theorem halfRead_word (n : Nat) : halfRead 0x048 4 n = n % 2 ^ 32 := rfl

/-! ### The obligation -/

/-- Settles O48: pushes and pops are requests to the queue's window (`Stands.push`, `Stands.pop`), a notice adds 1 to its port's 16 bits
(`latchNotice_eq`), and the FIFO of posts is a list. -/
theorem tramQueues : Obligations.TramQueues := by
  refine ⟨fun s e w d i k v x a hst hv hx hd hi hk ha ho hz => ?_, fun s e i n o sh d q src tag r x pq ps he hx ho hsh hn => ?_⟩
  · have h := Stands.of hst hx
    subst ha hk
    refine ⟨fun t hf hon ht => ?_, fun t hf hon ht => ?_, fun hf hon => ?_, fun hf hon => ?_, fun hf hoff => ?_, fun hf hoff => ?_,
      fun hf hoff => ?_, fun hf hoff => ?_⟩
    · rw [exec_qpush, execQpush]
      exact h.push hv (rowQ_names ho hf) hz hd hi hon ht
    · rw [exec_qpushl, execQpushl]
      exact h.push hv (rowQ_names ho hf) hz hd hi hon ht
    · rw [exec_qpop, execQpop]
      exact h.pop hv (rowQ_names ho hf) hz hd hi hon false rfl
    · rw [exec_qpoph, execQpoph]
      exact h.pop hv (rowQ_names ho hf) hz hd hi hon true rfl
    · rw [exec_qpush, execQpush]
      exact h.qport hv (rowQ_names ho hf) hz hi hoff fun _ => pushBody_unbound
    · rw [exec_qpushl, execQpushl]
      exact h.qport hv (rowQ_names ho hf) hz hi hoff fun _ => pushBody_unbound
    · rw [exec_qpop, execQpop]
      exact h.qport hv (rowQ_names ho hf) hz hi hoff fun _ => popBody_unbound
    · rw [exec_qpoph, execQpoph]
      exact h.qport hv (rowQ_names ho hf) hz hi hoff fun _ => popBody_unbound
  · have hle : n * 2 ^ sh ≤ o := half_le hn
    refine ⟨fun hi hlt => ?_, fun hi hfull => ?_, fun hre hq hp hkind hunit => ?_, fun hre => ?_, fun hd hroom hrun => ?_, fun hd hroom hrun => ?_,
      fun hfull => ?_, fun hfull => ?_, fun hp => ?_, fun hp => ?_, fun hp => ?_, fun hp => ?_⟩
    · have hadd : o - n * 2 ^ sh + (n + 1) * 2 ^ sh = o + 2 ^ sh := by
        rw [Nat.add_mul]
        omega
      rw [exec_qnote_of_lt he hi, State.latchNotice_eq ho hsh hn (min_notice_room hlt), hadd]
      exact congrArg _ (if_neg (by omega))
    · have hadd : o - n * 2 ^ sh + 0xFFFF * 2 ^ sh = o + (0xFFFF - n) * 2 ^ sh := by
        rw [Nat.sub_mul]
        have : n * 2 ^ sh ≤ 0xFFFF * 2 ^ sh := Nat.mul_le_mul_right _ (by omega)
        omega
      rw [exec_qnote_of_lt he hi, State.latchNotice_eq ho hsh hn (min_notice_full hfull), hadd]
      exact congrArg _ (if_pos rfl)
    · have hnone : ([e] : List Nat).filter (fun k => decide (k ≠ e)) = [] := by simp
      rw [exec_noticeResend, execNoticeResend, need_pos (decide_eq_true he), hre, if_pos (by simp),
        State.resendNotices_one (s := s.tr _) (q := q) (p := pq) hq hp hkind, State.tr, hre, hnone]
      exact congrArg (fun u => Host.Outcome.next (State.emit { s with tram := { s.tram with resend := [] } }
        (.access 644 (0x010005020060 + u * 0x40000) 4 true false (s.rd QU_END.PORT q) false))) hunit
    · rw [exec_noticeResend, execNoticeResend, need_pos (decide_eq_true he), if_neg (by simpa using hre)]
    · rw [exec_irqPost_of_lt he, State.irqPost_taken hd hx.symm hroom hrun, State.respond_nonposted _ _ _ _ _ _ _ rfl]
      rfl
    · rw [exec_irqPost_of_lt he, State.irqPost_taken hd hx.symm hroom hrun]
      rfl
    · rw [exec_irqPost_of_lt he, State.irqPost_refused hx.symm hfull, State.respond_nonposted _ _ _ _ _ _ _ rfl]
    · rw [exec_irqPost_of_lt he, State.irqPost_refused hx.symm hfull]
      rfl
    · rw [exec_postPop_of_lt he (.inr rfl), State.postRead_entry hx.symm hp (by decide)]
      rfl
    · rw [exec_postPop_of_lt he (.inl rfl), State.postRead_entry hx.symm hp (by decide), halfRead_word]
      rfl
    · rw [exec_postPop_of_lt he (.inr rfl), State.postRead_entry hx.symm hp (by decide)]
      rfl
    · rw [exec_postPop_of_lt he (.inr rfl), State.postRead_empty hx.symm hp]
      rfl

end Sys2Proof.Machine
end

section
/-! PROOF. Tram interrupts, debug entry, commands and the watchdog (O49; 16 R428 to R438; 20 R518). -/

namespace Sys2Proof.Machine

variable {s t : State} {e v k p : Nat} {x y : Engine} {f : Fld}

/-! ### A full write of a register (00 R7) -/

theorem State.wr_congr {m n : Nat} (h : m % 2 ^ f.wid = n % 2 ^ f.wid) (s : State) (u j : Nat) : s.wr f m u j = s.wr f n u j := by
  rw [State.wr, State.wr, h]

/-- A full access covers every bit of a field. -/
theorem fieldMask_full (h : f.lsb + f.wid ≤ 64) : fieldMask f (2 ^ 64 - 1) = 2 ^ f.wid - 1 := by
  rw [fieldMask, bitsOf_eq]
  refine Nat.eq_of_testBit_eq fun i => ?_
  rw [Nat.testBit_mod_two_pow, Nat.testBit_div_two_pow, Nat.testBit_two_pow_sub_one, Nat.testBit_two_pow_sub_one]
  by_cases hi : i < f.wid
  · simp [hi]
    omega
  · simp [hi]

theorem and_full {m n : Nat} (h : m < 2 ^ n) : m &&& (2 ^ n - 1) = m := by rw [Nat.and_two_pow_sub_one_eq_mod, Nat.mod_eq_of_lt h]

/-- Clearing all the bits of a field leaves 0 there. -/
theorem clearMask_full_add (o m n : Nat) : (clearMask o (2 ^ n - 1) + m) % 2 ^ n = m % 2 ^ n := by
  have hdiv : o - o % 2 ^ n = 2 ^ n * (o / 2 ^ n) := by have := Nat.div_add_mod o (2 ^ n); omega
  rw [clearMask, Nat.and_two_pow_sub_one_eq_mod, hdiv, Nat.mul_add_mod]

theorem State.writeField_rw (h : f.acc = .rw) (hlen : f.lsb + f.wid ≤ 64) (hpos : 0 < f.wid) (s : State) (v u j : Nat) :
    s.writeField f (2 ^ 64 - 1) v u j = s.wr f (v / 2 ^ f.lsb % 2 ^ f.wid) u j := by
  have hm : fieldMask f (2 ^ 64 - 1) ≠ 0 := by
    rw [fieldMask_full hlen]
    have := Nat.one_lt_two_pow (n := f.wid) (by omega)
    omega
  rw [State.writeField, h]
  simp only [if_neg hm]
  rw [fieldMask_full hlen, bitsOf_eq, and_full (Nat.mod_lt _ (Nat.two_pow_pos _))]
  exact State.wr_congr (clearMask_full_add ..) ..

theorem State.writeField_rw1c (h : f.acc = .rw1c) (hlen : f.lsb + f.wid ≤ 64) (hpos : 0 < f.wid) (s : State) (v u j : Nat) :
    s.writeField f (2 ^ 64 - 1) v u j = s.wr f (clearMask (s.rd f u j) (v / 2 ^ f.lsb % 2 ^ f.wid)) u j := by
  have hm : fieldMask f (2 ^ 64 - 1) ≠ 0 := by
    rw [fieldMask_full hlen]
    have := Nat.one_lt_two_pow (n := f.wid) (by omega)
    omega
  rw [State.writeField, h]
  simp only [if_neg hm]
  rw [fieldMask_full hlen, bitsOf_eq, and_full (Nat.mod_lt _ (Nat.two_pow_pos _))]

theorem State.writeField_skip (h : f.acc = .wo ∨ f.acc = .ro) (s : State) (m v u j : Nat) : s.writeField f m v u j = s := by
  obtain h | h := h <;> rw [State.writeField, h]

/-- A one-bit flag that is cleared by a 1. -/
theorem State.wr_clear_bit (h : f.wid = 1) (s : State) (c : Nat) (hc : c < 2) (u j : Nat) :
    s.wr f (clearMask (s.rd f u j) c) u j = s.wr f (if c = 1 then 0 else s.rd f u j) u j := by
  obtain rfl | rfl : c = 0 ∨ c = 1 := by omega
  · rw [clearMask, Nat.and_zero]
    rfl
  · refine State.wr_congr ?_ s u j
    rw [h]
    exact clearMask_full_add (s.rd f u j) 0 1

theorem State.writeFields_ctrl (s : State) (v e : Nat) : s.writeFields TR_CTRL.regs (2 ^ 64 - 1) v e 0 =
    (s.wr TR_CTRL.ENTRY (v / 2 ^ 16 % 2 ^ 14) e).wr TR_CTRL.VBASE (v / 2 ^ 32 % 2 ^ 8) e := by
  rw [State.writeFields, TR_CTRL.regs, List.foldl_cons, List.foldl_cons, List.foldl_cons, List.foldl_cons, List.foldl_nil,
    State.writeField_skip (f := TR_CTRL.CMD) (.inl rfl), State.writeField_skip (f := TR_CTRL.LOADED) (.inl rfl),
    State.writeField_rw (f := TR_CTRL.ENTRY) rfl (by decide) (by decide), State.writeField_rw (f := TR_CTRL.VBASE) rfl (by decide) (by decide)]
  rfl

theorem State.writeFields_dbg (s : State) (v e : Nat) : s.writeFields TR_DBG_CTRL.regs (2 ^ 64 - 1) v e 0 =
    (s.wr TR_DBG_CTRL.STEP (v / 2 % 2) e).wr TR_DBG_CTRL.DBG_NEST (if v / 4 % 2 = 1 then 0 else s.rd TR_DBG_CTRL.DBG_NEST e) e := by
  rw [State.writeFields, TR_DBG_CTRL.regs, List.foldl_cons, List.foldl_cons, List.foldl_cons, List.foldl_nil,
    State.writeField_skip (f := TR_DBG_CTRL.HALT_REQ) (.inl rfl), State.writeField_rw (f := TR_DBG_CTRL.STEP) rfl (by decide) (by decide),
    State.writeField_rw1c (f := TR_DBG_CTRL.DBG_NEST) rfl (by decide) (by decide),
    State.rd_wr_other _ (by decide)]
  refine Eq.trans ?_ (congrArg (fun m => (s.wr TR_DBG_CTRL.STEP (v / 2 % 2) e).wr TR_DBG_CTRL.DBG_NEST (if v / 4 % 2 = 1 then 0 else m) e)
    (State.rd_wr_other s (f := TR_DBG_CTRL.STEP) (g := TR_DBG_CTRL.DBG_NEST) (v := v / 2 % 2) (u := e) (j := 0) (by decide)))
  refine Eq.trans ?_ (State.wr_clear_bit (f := TR_DBG_CTRL.DBG_NEST) rfl (s.wr TR_DBG_CTRL.STEP (v / 2 % 2) e) (v / 4 % 2) (by omega) e 0)
  rw [State.rd_wr_other _ (by decide)]
  rfl

theorem State.writeFields_wdog (s : State) (v e : Nat) : s.writeFields TR_WDOG.regs (2 ^ 64 - 1) v e 0 =
    (((s.wr TR_WDOG.LIMIT (v % 2 ^ 24) e).wr TR_WDOG.EN (v / 2 ^ 24 % 2) e).wr TR_WDOG.ACT (v / 2 ^ 25 % 2) e).wr TR_WDOG.DBG_STOP
      (v / 2 ^ 26 % 2) e := by
  rw [State.writeFields, TR_WDOG.regs, List.foldl_cons, List.foldl_cons, List.foldl_cons, List.foldl_cons, List.foldl_cons, List.foldl_nil,
    State.writeField_rw (f := TR_WDOG.LIMIT) rfl (by decide) (by decide), State.writeField_rw (f := TR_WDOG.EN) rfl (by decide) (by decide),
    State.writeField_rw (f := TR_WDOG.ACT) rfl (by decide) (by decide), State.writeField_rw (f := TR_WDOG.DBG_STOP) rfl (by decide) (by decide),
    State.writeField_skip (f := TR_WDOG.REMAIN) (.inr rfl),
    show v / 2 ^ TR_WDOG.LIMIT.lsb = v from Nat.div_one v]
  rfl

/-! ### Interrupt entry (16 R428, R436) -/

theorem State.irqPend_eq (hx : s.eng e = x) : s.irqPend e =
    (s.rd TR_IRQ_PEND.PEND e &&& 0x19) + (if x.posts = [] then 0 else 2) + (if s.sampler.noticePend.testBit e then 4 else 0) := by
  rw [State.irqPend, hx]
  cases x.posts <;> cases s.sampler.noticePend.testBit e <;> rfl

theorem State.takesIrq_of (hdue : s.irqDue e = true) (hie : s.rd TR_STATUS.IE e = 1) (hinh : s.rd TR_STATUS.INH e = 0) : s.takesIrq e = true := by
  rw [State.takesIrq, hdue, State.on_of_rd_eq_one hie, State.on_eq_false hinh]
  rfl

theorem State.takesIrq_masked (h : s.rd TR_STATUS.IE e = 0 ∨ s.rd TR_STATUS.INH e = 1) : s.takesIrq e = false := by
  rw [State.takesIrq]
  obtain h | h := h
  · rw [State.on_eq_false h, Bool.and_false, Bool.false_and]
  · rw [State.on_of_rd_eq_one h, Bool.not_true, Bool.and_false]

theorem State.ungate_setEng (s : State) (e : Nat) (x : Engine) (c k : Nat) : (s.setEng e x).ungate c k = (s.ungate c k).setEng e x := rfl

@[simp] theorem State.eng_ungate (s : State) (e c k : Nat) : (s.ungate c k).eng e = s.eng e := rfl

theorem State.ungate_engineReset (s : State) (c k : Nat) : (s.ungate c k).clk.engineReset = s.clk.engineReset := rfl

/-- An engine that wakes: what reading it then gives. -/
theorem State.rd_woken {g : Fld} (h : g.id ≠ TR_STATUS.STATE.id) (hg : g.id ≠ CK_GATE_STATUS.GATED.id) (s : State) (e m u j : Nat) :
    ((s.wr TR_STATUS.STATE m e).ungate 0 e).rd g u j = s.rd g u j :=
  (State.rd_ungate_other hg ..).trans (s.rd_wr_other h)

theorem State.irqDue_woken (s : State) (e m : Nat) : ((s.wr TR_STATUS.STATE m e).ungate 0 e).irqDue e = s.irqDue e := by
  rw [State.irqDue, State.irqPend, State.rd_woken (by decide) (by decide), State.rd_woken (by decide) (by decide)]
  rfl

/-- The entry, with the engine that it leaves. -/
theorem State.enterIrq_eq (hx : s.eng e = x) : s.enterIrq e = (((s.wr TR_XPC.XPC (s.rd TR_PC.PC e) e).wr TR_STATUS.INH 1 e).wr TR_PC.PC
    (s.rd TR_CTRL.VBASE e * 256 + 0x80) e).setEng e { x with resv := none } := by
  rw [State.enterIrq, State.vector, State.updEng, ← hx]
  rfl

theorem State.enterMonitor_eq (hx : s.eng e = x) : s.enterMonitor e = ((((s.wr TR_MPC.MPC (s.rd TR_PC.PC e) e).wr TR_MPC.MREASON (s.dbgCauses e) e).wr
    TR_STATUS.MON 1 e).wr TR_PC.PC (s.rd TR_CTRL.VBASE e * 256 + 0xC0) e).setEng e { x with resv := none, dbg := 0, stepOver := false } := by
  rw [State.enterMonitor, State.vector, State.updEng, ← hx]
  rfl

/-- An engine without stores in a gap has its gaps settled. -/
theorem State.settleGaps_nil (hx : s.eng e = x) (hst : x.stores = []) :
    s.settleGaps e = s.setEng e { x with gOld := [], accOld := [], kOld := [], stores := [] } := by
  rw [State.settleGaps, hx, hst, State.updEng, hx]
  rfl

/-! ### Commands (16 R437) -/

/-- `TR_CTRL` with the kept fields of a value. -/
def State.withCtrl (s : State) (e v : Nat) : State := (s.wr TR_CTRL.ENTRY (v / 2 ^ 16 % 2 ^ 14) e).wr TR_CTRL.VBASE (v / 2 ^ 32 % 2 ^ 8) e

theorem State.withCtrl_congr {n : Nat} (h : n / 2 ^ 16 = v / 2 ^ 16) (s : State) (e : Nat) : s.withCtrl e n = s.withCtrl e v := by
  have hhi (m : Nat) : m / 2 ^ 32 = m / 2 ^ 16 / 2 ^ 16 := by rw [Nat.div_div_eq_div_mul, ← Nat.pow_add]
  rw [State.withCtrl, State.withCtrl, hhi n, hhi v, h]

@[simp] theorem State.eng_withCtrl (s : State) (e v k : Nat) : (s.withCtrl e v).eng k = s.eng k := rfl

theorem State.rd_withCtrl {g : Fld} (h1 : g.id ≠ TR_CTRL.ENTRY.id) (h2 : g.id ≠ TR_CTRL.VBASE.id) (s : State) (e v u j : Nat) :
    (s.withCtrl e v).rd g u j = s.rd g u j := (State.rd_wr_other _ h2).trans (State.rd_wr_other _ h1)

theorem State.rd_withCtrl_entry (s : State) (e v : Nat) : (s.withCtrl e v).rd TR_CTRL.ENTRY e = v / 2 ^ 16 % 2 ^ 14 :=
  (State.rd_wr_other _ (by decide)).trans (State.rd_wr_fit (Nat.mod_lt _ (by decide)))

theorem State.ready_withCtrl (s : State) (e v b : Nat) : (s.withCtrl e v).ready b = s.ready b :=
  congrArg (fun m => m.testBit b) (State.rd_withCtrl (by decide) (by decide) s e v 0 0)

/-- A full write of `TR_CTRL`. -/
theorem State.trWrite_ctrl (s : State) (e n : Nat) : (s.trWrite e 0 8 n).2 =
    if n / 4 % 2 = 1 then ((s.withCtrl e n).trCmd e (n % 4)).wr TR_STATUS.IMEM_STALE 0 e else (s.withCtrl e n).trCmd e (n % 4) := by
  have hraw : (s.trWrite e 0 8 n).2 =
      if (n % 2 ^ 64).testBit 2 then ((s.writeFields TR_CTRL.regs (2 ^ 64 - 1) (n % 2 ^ 64) e 0).trCmd e (n % 2 ^ 64 % 4)).wr TR_STATUS.IMEM_STALE 0 e
      else (s.writeFields TR_CTRL.regs (2 ^ 64 - 1) (n % 2 ^ 64) e 0).trCmd e (n % 2 ^ 64 % 4) := rfl
  have hbit : (n % 2 ^ 64).testBit 2 = decide (n / 4 % 2 = 1) := by
    rw [Nat.testBit_mod_two_pow, Nat.testBit_eq_decide_div_mod_eq]
    simp
  have hentry : n % 2 ^ 64 / 2 ^ 16 % 2 ^ 14 = n / 2 ^ 16 % 2 ^ 14 := by omega
  have hvbase : n % 2 ^ 64 / 2 ^ 32 % 2 ^ 8 = n / 2 ^ 32 % 2 ^ 8 := by omega
  rw [hraw, hbit, State.writeFields_ctrl, hentry, hvbase, Nat.mod_mod_of_dvd n (by decide)]
  simp only [decide_eq_true_eq]
  rfl

/-- The value that a command writes, and its effect. -/
theorem State.trWrite_cmd (hk : k < 4) (hv : v / 4 % 2 = 0) (s : State) (e : Nat) : (s.trWrite e 0 8 (v / 4 * 4 + k)).2 = (s.withCtrl e v).trCmd e k := by
  rw [State.trWrite_ctrl, if_neg (by omega), State.withCtrl_congr (v := v) (by omega), show (v / 4 * 4 + k) % 4 = k by omega]

/-- A write with `LOADED`: the command first. -/
theorem State.trWrite_loaded (s : State) (e v : Nat) :
    (s.trWrite e 0 8 (v ||| 4)).2 = ((s.withCtrl e v).trCmd e (v % 4)).wr TR_STATUS.IMEM_STALE 0 e := by
  have hdiv : (v ||| 4) / 4 % 2 = 1 := by
    have hbit : (v ||| 4).testBit 2 = true := by rw [Nat.testBit_or, show Nat.testBit 4 2 = true by decide, Bool.or_true]
    simpa [Nat.testBit_eq_decide_div_mod_eq] using hbit
  have hhigh : (v ||| 4) / 2 ^ 16 = v / 2 ^ 16 := by rw [Nat.or_div_two_pow]; exact Nat.or_zero _
  have hlow : (v ||| 4) % 4 = v % 4 := by rw [show (4 : Nat) = 2 ^ 2 from rfl, Nat.or_mod_two_pow]; exact Nat.or_zero _
  rw [State.trWrite_ctrl, if_pos hdiv, State.withCtrl_congr hhigh, hlow]

/-- START and RESUME may run: the engine is HELD, its memory loaded, its crew ready. -/
def State.mayRun (s : State) (e : Nat) : Prop :=
  s.rd TR_STATUS.STATE e = 0 ∧ s.rd TR_STATUS.IMEM_STALE e = 0 ∧ s.ready (30 + e / 8) = true

theorem State.mayRun_withCtrl (s : State) (e v : Nat) : (s.withCtrl e v).mayRun e ↔ s.mayRun e := by
  rw [State.mayRun, State.mayRun, State.rd_withCtrl (by decide) (by decide), State.rd_withCtrl (by decide) (by decide), State.ready_withCtrl]

theorem State.mayRun_iff (s : State) (e : Nat) :
    (decide (s.rd TR_STATUS.STATE e = 0) && !s.on TR_STATUS.IMEM_STALE e && s.ready (30 + crewOf e)) = true ↔ s.mayRun e := by
  simp [State.mayRun, State.on, crewOf, and_assoc]

theorem State.trCmd_start (h : s.mayRun e) (hx : s.eng e = x) : s.trCmd e 1 = ((((((s.wr TR_STATUS.STATE 1 e).wr TR_PC.PC (4 * s.rd TR_CTRL.ENTRY e) e).wr
    TR_STATUS.IE 0 e).wr TR_STATUS.INH 0 e).wr TR_STATUS.MON 0 e).setEng e { x with ran := true, stepOver := false, warned := false }).ungate 0 e := by
  simp only [State.trCmd, (s.mayRun_iff e).2 h, if_true, State.kick, State.updEng, State.eng_setEng_same, State.setEng_setEng, State.eng_wr, hx]

theorem State.trCmd_start_refused (h : ¬ s.mayRun e) : s.trCmd e 1 = s.wr TR_STATUS.CMD_ERR 1 e := by
  simp only [State.trCmd, s.mayRun_iff e, h, if_false]

theorem State.trCmd_resume (h : s.mayRun e) (hx : s.eng e = x) (hran : x.ran = true) :
    s.trCmd e 2 = ((s.wr TR_STATUS.STATE 1 e).setEng e { x with warned := false }).ungate 0 e := by
  simp only [State.trCmd, (s.mayRun_iff e).2 h, hx, hran, Bool.and_self, if_true, State.kick, State.updEng, State.eng_wr]

theorem State.trCmd_resume_refused (h : ¬ s.mayRun e ∨ (s.eng e).ran = false) : s.trCmd e 2 = s.wr TR_STATUS.CMD_ERR 1 e := by
  have hno : ¬ (s.mayRun e ∧ (s.eng e).ran = true) := not_and_or.2 (h.imp_right (by simp [·]))
  simp only [State.trCmd]
  rw [if_neg]
  rwa [Bool.and_eq_true, s.mayRun_iff e]

theorem State.trCmd_halt_waiting (h : s.rd TR_STATUS.STATE e = 2) : s.trCmd e 3 = s.wr TR_STATUS.STATE 0 e := by
  simp only [State.trCmd, h, if_true]

/-- HALT of an engine that runs: at once at an eligible boundary, else when it comes. -/
theorem State.trCmd_halt_running (h : s.rd TR_STATUS.STATE e = 1) (hx : s.eng e = x) : s.trCmd e 3 =
    if x.eligible then (s.wr TR_STATUS.STATE 0 e).setEng e { x with haltDue := false } else s.setEng e { x with haltDue := true } := by
  simp only [State.trCmd, h, if_true, State.haltAtBoundary, State.updEng, hx, State.eng_setEng_same, Bool.true_and, State.eng_wr]
  cases hel : x.eligible
  · exact if_neg (Bool.eq_false_iff.1 hel)
  · refine (if_pos hel).trans ?_
    rw [State.setEng_wr, State.setEng_setEng]
    rfl

theorem State.trCmd_halt_refused (h : s.rd TR_STATUS.STATE e = 0 ∨ s.rd TR_STATUS.STATE e = 3) : s.trCmd e 3 = s.wr TR_STATUS.CMD_ERR 1 e := by
  have h2 : s.rd TR_STATUS.STATE e ≠ 2 := by omega
  have h1 : s.rd TR_STATUS.STATE e ≠ 1 := by omega
  simp only [State.trCmd, h1, h2, if_false]

/-! ### HALT_REQ (20 R518) -/

/-- `TR_DBG_CTRL` with the fields of a value. -/
def State.withDbg (s : State) (e v : Nat) : State :=
  (s.wr TR_DBG_CTRL.STEP (v / 2 % 2) e).wr TR_DBG_CTRL.DBG_NEST (if v / 4 % 2 = 1 then 0 else s.rd TR_DBG_CTRL.DBG_NEST e) e

theorem State.rd_withDbg {g : Fld} (h1 : g.id ≠ TR_DBG_CTRL.STEP.id) (h2 : g.id ≠ TR_DBG_CTRL.DBG_NEST.id) (s : State) (e v u j : Nat) :
    (s.withDbg e v).rd g u j = s.rd g u j := (State.rd_wr_other _ h2).trans (State.rd_wr_other _ h1)

@[simp] theorem State.eng_withDbg (s : State) (e v k : Nat) : (s.withDbg e v).eng k = s.eng k := rfl

/-- A full write of `TR_DBG_CTRL` with `HALT_REQ`. -/
theorem State.trWrite_haltReq (s : State) (e v : Nat) : (s.trWrite e 0x180 8 (v ||| 1)).2 = (s.withDbg e v).haltReq e := by
  have hraw (n : Nat) : (s.trWrite e 0x180 8 n).2 =
      if (n % 2 ^ 64).testBit 0 then (s.writeFields TR_DBG_CTRL.regs (2 ^ 64 - 1) (n % 2 ^ 64) e 0).haltReq e
      else s.writeFields TR_DBG_CTRL.regs (2 ^ 64 - 1) (n % 2 ^ 64) e 0 := rfl
  have hbit : ((v ||| 1) % 2 ^ 64).testBit 0 = true := by
    rw [Nat.testBit_mod_two_pow, Nat.testBit_or, show Nat.testBit 1 0 = true by decide, Bool.or_true]
    rfl
  have hhalf : (v ||| 1) / 2 = v / 2 := by
    rw [show (2 : Nat) = 2 ^ 1 from rfl, Nat.or_div_two_pow]
    exact Nat.or_zero _
  have hstep : (v ||| 1) % 2 ^ 64 / 2 % 2 = v / 2 % 2 := by omega
  have hnest : (v ||| 1) % 2 ^ 64 / 4 % 2 = v / 4 % 2 := by omega
  rw [hraw, if_pos hbit, State.writeFields_dbg, hstep, hnest]
  rfl

theorem State.haltReq_ignored (h : s.rd TR_STATUS.STATE e = 3 ∨ s.rd TR_STATUS.MON e = 1) : s.haltReq e = s :=
  if_pos (h.imp_right State.on_of_rd_eq_one)

theorem State.haltReq_noted (h : s.rd TR_STATUS.STATE e < 2) (hmon : s.rd TR_STATUS.MON e = 0) (hx : s.eng e = x) :
    s.haltReq e = s.setEng e { x with dbg := x.dbg ||| 16 } := by
  have hno : ¬ (s.rd TR_STATUS.STATE e = 3 ∨ s.on TR_STATUS.MON e = true) := by
    rw [State.on_eq_false hmon]
    simp
    omega
  rw [State.haltReq]
  refine (if_neg hno).trans ((if_neg (by omega)).trans ?_)
  rw [State.updEng, hx]

/-- A waiting engine enters the monitor with the causes that it has. -/
theorem State.haltReq_waiting (h : s.rd TR_STATUS.STATE e = 2) (hmon : s.rd TR_STATUS.MON e = 0) (hx : s.eng e = x)
    (hbp : s.bpAt e (s.rd TR_PC.PC e) = false) : s.haltReq e =
      ((((((s.wr TR_STATUS.STATE 1 e).ungate 0 e).wr TR_MPC.MPC (s.rd TR_PC.PC e) e).wr TR_MPC.MREASON (x.dbg ||| 16) e).wr TR_STATUS.MON 1 e).wr
        TR_PC.PC (s.rd TR_CTRL.VBASE e * 256 + 0xC0) e).setEng e { x with resv := none, dbg := 0, stepOver := false } := by
  have hno : ¬ (s.rd TR_STATUS.STATE e = 3 ∨ s.on TR_STATUS.MON e = true) := by
    rw [State.on_eq_false hmon]
    simp
    omega
  have hrd {g : Fld} (h1 : g.id ≠ TR_STATUS.STATE.id) (h2 : g.id ≠ CK_GATE_STATUS.GATED.id) (j : Nat) :
      (((s.setEng e { x with dbg := x.dbg ||| 16 }).wr TR_STATUS.STATE 1 e).ungate 0 e).rd g e j = s.rd g e j := State.rd_woken h1 h2 ..
  have hbp' : (((s.setEng e { x with dbg := x.dbg ||| 16 }).wr TR_STATUS.STATE 1 e).ungate 0 e).bpAt e (s.rd TR_PC.PC e) = false := by
    rw [← hbp]
    simp only [State.bpAt, State.on]
    simp only [hrd (g := TR_BP.EN) (by decide) (by decide), hrd (g := TR_BP.ADDR) (by decide) (by decide)]
  have hcause : (((s.setEng e { x with dbg := x.dbg ||| 16 }).wr TR_STATUS.STATE 1 e).ungate 0 e).dbgCauses e = x.dbg ||| 16 := by
    rw [State.dbgCauses, State.on_eq_false ((hrd (by decide) (by decide) 0).trans hmon), hrd (by decide) (by decide), hbp']
    simp
  rw [State.haltReq]
  refine (if_neg hno).trans ((if_pos h).trans ?_)
  rw [State.updEng, hx, State.enterMonitor_eq (x := { x with dbg := x.dbg ||| 16 }) (by simp), hcause, hrd (by decide) (by decide),
    hrd (by decide) (by decide)]
  simp only [← State.setEng_wr, State.ungate_setEng, State.setEng_setEng]

/-! ### The watchdog (16 R432) -/

/-- The blocks and parts that the reset of a queue end may change. -/
def endResetParts : List Part := [.regs .qu, .regs .st, .regs .sb, .regs .wd, .regs .cr, .regs .dc, .regs .en, .sampler, .dram, .crypto, .scrubs,
  .cage, .sent, .stopes]

theorem State.endReset_keeps (s : State) (q : QueueEnd) :
    (s.endReset q).clk = s.clk ∧ ∀ g : Fld, g.blk = .tr → ∀ u j : Nat, (s.endReset q).rd g u j = s.rd g u j := by
  have hmoves : Moves ⟨true, true, true, true, true, partsMask endResetParts⟩ s (s.endReset q) :=
    State.endReset_moves rfl (Sub.list (l := endResetParts) rfl rfl) Moves.refl
  exact ⟨hmoves.parts .clk (partsMask_not (by decide)), fun g hg u j => hmoves.parts (.regs .tr) (partsMask_not (by decide)) g u j hg⟩

/-- The registers that show a reset of an engine by the watchdog. -/
def State.resetShown (s : State) (e : Nat) : State :=
  (((((s.wr TR_STATUS.STATE 3 e).wr TR_STATUS.RST_CAUSE 2 e).count TR_STATUS.WDOG_RESETS 1 e).wr CK_RST_STATUS.ENGINE_BUSY 1).wr
    CK_RST_STATUS.LAST_ENGINE e)

theorem State.startEngineReset_watchdog (s : State) (e : Nat) : ∃ u : State, u.regs = (s.resetShown e).regs ∧ u.clk.engineReset = some e ∧
    s.startEngineReset e 2 = (u.endReset (.engine e)).ungate 0 e := by
  rw [State.startEngineReset]
  simp only [if_true]
  refine ⟨_, ?_, ?_, rfl⟩
  · rfl
  · rfl

/-- The watchdog's reset of an engine. -/
theorem State.wdogReset_starts (h : s.clk.engineReset = none) :
    (s.wdogReset e).clk.engineReset = some e ∧ (s.wdogReset e).rd TR_STATUS.STATE e = 3 ∧ (s.wdogReset e).rd TR_STATUS.RST_CAUSE e = 2 ∧
      (s.wdogReset e).rd TR_STATUS.WDOG_RESETS e = min (s.rd TR_STATUS.WDOG_RESETS e + 1) 255 := by
  have hreset : s.wdogReset e = s.startEngineReset e 2 := by rw [State.wdogReset, h]
  obtain ⟨u, hregs, hclk, hu⟩ := s.startEngineReset_watchdog e
  obtain ⟨hkclk, hkregs⟩ := u.endReset_keeps (.engine e)
  have hrd {g : Fld} (hb : g.blk = .tr) (hg : g.id ≠ CK_GATE_STATUS.GATED.id) : (s.wdogReset e).rd g e = (s.resetShown e).rd g e := by
    rw [hreset, hu, State.rd_ungate_other hg, hkregs g hb, State.rd, hregs]
    rfl
  refine ⟨?_, ?_, ?_, ?_⟩
  · rw [hreset, hu, State.ungate_engineReset, hkclk, hclk]
  · rw [hrd rfl (by decide), State.resetShown]
    simp (disch := decide) only [State.rd_wr_other, rd_count_other]
    exact State.rd_wr_fit (by decide)
  · rw [hrd rfl (by decide), State.resetShown]
    simp (disch := decide) only [State.rd_wr_other, rd_count_other]
    exact State.rd_wr_fit (by decide)
  · rw [hrd rfl (by decide), State.resetShown]
    simp (disch := decide) only [State.rd_wr_other]
    refine (State.rd_count_one ..).trans ?_
    simp (disch := decide) only [State.rd_wr_other]
    rfl

/-- The watchdog counts for an engine that runs, or waits where the monitor does not hold it. -/
theorem State.wdogCounts_of (hen : s.rd TR_WDOG.EN e = 1) (hst : s.rd TR_STATUS.STATE e = 1 ∨ s.rd TR_STATUS.STATE e = 2)
    (hmon : s.rd TR_STATUS.MON e = 0 ∨ s.rd TR_WDOG.DBG_STOP e = 0) : s.wdogCounts e = true := by
  rw [State.wdogCounts, State.on_of_rd_eq_one hen, decide_eq_true hst]
  obtain h | h := hmon
  · rw [State.on_eq_false h]
    rfl
  · rw [State.on_eq_false h, Bool.and_false]
    rfl

theorem State.wdogCounts_off (h : s.rd TR_WDOG.EN e = 0 ∨ s.rd TR_STATUS.STATE e = 0 ∨ s.rd TR_STATUS.STATE e = 3) : s.wdogCounts e = false := by
  rw [State.wdogCounts]
  obtain h | h := h
  · rw [State.on_eq_false h]
    rfl
  · rw [decide_eq_false (by omega), Bool.and_false]
    rfl

theorem State.kick_eq (hx : s.eng e = x) : s.kick e = s.setEng e { x with warned := false } := by rw [State.kick, State.updEng, hx]

/-- A full write of `TR_WDOG`. -/
theorem State.trWrite_wdog (s : State) (e v : Nat) : (s.trWrite e 0x120 8 v).2 = s.writeWdog e (2 ^ 64 - 1) (v % 2 ^ 64) := rfl

/-- `TR_WDOG` with the fields of a value. -/
def State.withWdog (s : State) (e v : Nat) : State :=
  (((s.wr TR_WDOG.LIMIT (v % 2 ^ 24) e).wr TR_WDOG.EN (v / 2 ^ 24 % 2) e).wr TR_WDOG.ACT (v / 2 ^ 25 % 2) e).wr TR_WDOG.DBG_STOP (v / 2 ^ 26 % 2) e

theorem State.writeWdog_full (s : State) (e v : Nat) : s.writeWdog e (2 ^ 64 - 1) (v % 2 ^ 64) =
    (if v % 2 ^ 24 = 0 then (s.withWdog e v).wr TR_WDOG.LIMIT 1 e else s.withWdog e v).kick e := by
  have hlimit : (s.withWdog e v).rd TR_WDOG.LIMIT e = v % 2 ^ 24 := by
    rw [State.withWdog]
    simp (disch := decide) only [State.rd_wr_other]
    exact State.rd_wr_fit (Nat.mod_lt _ (by decide))
  have hfields : s.writeFields TR_WDOG.regs (2 ^ 64 - 1) (v % 2 ^ 64) e 0 = s.withWdog e v := by
    rw [State.writeFields_wdog, show v % 2 ^ 64 % 2 ^ 24 = v % 2 ^ 24 by omega, show v % 2 ^ 64 / 2 ^ 24 % 2 = v / 2 ^ 24 % 2 by omega,
      show v % 2 ^ 64 / 2 ^ 25 % 2 = v / 2 ^ 25 % 2 by omega, show v % 2 ^ 64 / 2 ^ 26 % 2 = v / 2 ^ 26 % 2 by omega]
    rfl
  rw [State.writeWdog, hfields, hlimit]

/-! ### The obligation -/

section

variable (he : e < 64)
include he

theorem exec_trStart_eq : exec (.trStart e v) s = .next (s.trWrite e 0 8 (v / 4 * 4 + 1)).2 := need_pos (decide_eq_true he) _
theorem exec_trResume_eq : exec (.trResume e v) s = .next (s.trWrite e 0 8 (v / 4 * 4 + 2)).2 := need_pos (decide_eq_true he) _
theorem exec_trHalt_eq : exec (.trHalt e v) s = .next (s.trWrite e 0 8 (v / 4 * 4 + 3)).2 := need_pos (decide_eq_true he) _
theorem exec_loaded_eq : exec (.loaded e v) s = .next (s.trWrite e 0 8 (v ||| 4)).2 := need_pos (decide_eq_true he) _
theorem exec_haltReq_eq : exec (.haltReq e v) s = .next (s.trWrite e 0x180 8 (v ||| 1)).2 := need_pos (decide_eq_true he) _
theorem exec_debugEntry_eq : exec (.debugEntry e) s = .next (s.debugEntry e) := need_pos (decide_eq_true he) _
theorem exec_kick_eq : exec (.kick e) s = .next (s.kick e) := need_pos (decide_eq_true he) _
theorem exec_wdogWrite_eq : exec (.wdogWrite e v) s = .next (s.trWrite e 0x120 8 v).2 := need_pos (decide_eq_true he) _

/-- A running engine takes an interrupt at an eligible boundary. -/
theorem exec_interruptEntry_running (hst : s.rd TR_STATUS.STATE e = 1) (hel : (s.eng e).eligible = true) (hheld : s.pushHeld e = false)
    (htakes : s.takesIrq e = true) : exec (.interruptEntry e) s = .next (s.enterIrq e) := by
  rw [exec_interruptEntry, execInterruptEntry, need_pos (decide_eq_true he)]
  simp [hst, hel, hheld, htakes]

/-- A waiting engine wakes. -/
theorem exec_interruptEntry_waiting (hst : s.rd TR_STATUS.STATE e = 2) (hdue : s.irqDue e = true) : exec (.interruptEntry e) s =
    .next (if s.takesIrq e then ((((s.wr TR_STATUS.STATE 1 e).ungate 0 e).settleGaps e).enterIrq e) else (s.wr TR_STATUS.STATE 1 e).ungate 0 e) := by
  rw [exec_interruptEntry, execInterruptEntry, need_pos (decide_eq_true he)]
  simp [hst, hdue]

/-- Without a source pending and enabled there is no entry. -/
theorem exec_interruptEntry_idle (hdue : s.irqDue e = false) : exec (.interruptEntry e) s = .next s := by
  rw [exec_interruptEntry, execInterruptEntry, need_pos (decide_eq_true he)]
  simp [State.takesIrq, hdue]

/-- A waiting engine that takes an interrupt. -/
theorem exec_interruptEntry_wakes (hx : s.eng e = x) (hst : s.rd TR_STATUS.STATE e = 2) (hnone : x.stores = []) (htakes : s.takesIrq e = true) :
    exec (.interruptEntry e) s = .next ((((((s.wr TR_STATUS.STATE 1 e).ungate 0 e).wr TR_XPC.XPC (s.rd TR_PC.PC e) e).wr TR_STATUS.INH 1 e).wr TR_PC.PC
      (s.rd TR_CTRL.VBASE e * 256 + 0x80) e).setEng e { x with gOld := [], accOld := [], kOld := [], resv := none }) := by
  have hdue : s.irqDue e = true := by
    rw [State.takesIrq, Bool.and_eq_true, Bool.and_eq_true] at htakes
    exact htakes.1.1
  have hself : ({ x with gOld := [], accOld := [], kOld := [], stores := [], resv := none } : Engine) =
      { x with gOld := [], accOld := [], kOld := [], resv := none } := by rw [hnone]
  have hwx : ((s.wr TR_STATUS.STATE 1 e).ungate 0 e).eng e = x := hx
  rw [exec_interruptEntry_waiting he hst hdue, if_pos htakes, State.settleGaps_nil hwx hnone, State.enterIrq_eq (State.eng_setEng_same ..),
    State.rd_setEng, State.rd_setEng, State.rd_woken (by decide) (by decide), State.rd_woken (by decide) (by decide), ← hself]
  simp only [← State.setEng_wr, State.setEng_setEng]

/-- The watchdog expires where it warns first. -/
theorem exec_watchdogExpiry_warns (hcounts : s.wdogCounts e = true) (hact : s.rd TR_WDOG.ACT e = 1) (hx : s.eng e = x) (hw : x.warned = false) :
    exec (.watchdogExpiry e) s =
      .next ((s.wr TR_IRQ_PEND.PEND (s.rd TR_IRQ_PEND.PEND e ||| 16) e).setEng e { x with warned := true }) := by
  rw [exec_watchdogExpiry, execWatchdogExpiry, need_pos (decide_eq_true he), hcounts, State.on_of_rd_eq_one hact, hx, hw]
  simp only [Bool.not_true, Bool.false_eq_true, if_false, Bool.not_false, Bool.and_self, if_true]
  rw [State.updEng, State.putBit, State.eng_wr, hx]
  rfl

theorem exec_watchdogExpiry_resets (hcounts : s.wdogCounts e = true) (h : s.rd TR_WDOG.ACT e = 0 ∨ (s.eng e).warned = true) :
    exec (.watchdogExpiry e) s = .next (s.wdogReset e) := by
  have hno : ¬ (s.on TR_WDOG.ACT e && !(s.eng e).warned) = true := by
    obtain h | h := h
    · simp [State.on_eq_false h]
    · simp [h]
  rw [exec_watchdogExpiry, execWatchdogExpiry, need_pos (decide_eq_true he), hcounts]
  exact congrArg _ ((if_neg (by decide)).trans (if_neg hno))

theorem exec_watchdogExpiry_off (hcounts : s.wdogCounts e = false) : exec (.watchdogExpiry e) s = .next s := by
  rw [exec_watchdogExpiry, execWatchdogExpiry, need_pos (decide_eq_true he), hcounts]
  rfl

end

theorem State.debugEntry_enters (hst : s.rd TR_STATUS.STATE e = 1) (hel : (s.eng e).eligible = true) (hheld : s.pushHeld e = false)
    (hc : s.dbgCauses e ≠ 0) : s.debugEntry e = s.enterMonitor e :=
  if_pos ⟨hst, hel, by rw [hheld]; rfl, hc⟩

/-- Settles O49: entries by `enterIrq_eq` and `enterMonitor_eq`, commands by `trWrite_cmd` and the equations of `trCmd`, the watchdog by
`wdogReset_starts`. -/
theorem tramControl : Obligations.TramControl := by
  intro s c h u e v k p vb x he hx hp hvb hk hc hh hu
  have hpend : s.irqPend e = k := (State.irqPend_eq hx.symm).trans hk.symm
  have hdue (hne : k &&& s.rd TR_IRQ_EN.EN e ≠ 0) : s.irqDue e = true := by rw [State.irqDue, hpend]; exact decide_eq_true hne
  have hc' : s.withCtrl e v = c := hc.symm
  have hh' : s.withDbg e v = h := hh.symm
  have hu' : s.withWdog e v = u := hu.symm
  have hcx : c.eng e = x := by rw [hc, hx]; rfl
  have hhx : h.eng e = x := by rw [hh, hx]; rfl
  have hux : u.eng e = x := by rw [hu, hx]; rfl
  have hcst : c.rd TR_STATUS.STATE e = s.rd TR_STATUS.STATE e := by rw [← hc', State.rd_withCtrl (by decide) (by decide)]
  have hhst : h.rd TR_STATUS.STATE e = s.rd TR_STATUS.STATE e := by rw [← hh', State.rd_withDbg (by decide) (by decide)]
  have hhmon : h.rd TR_STATUS.MON e = s.rd TR_STATUS.MON e := by rw [← hh', State.rd_withDbg (by decide) (by decide)]
  have hrun : c.mayRun e ↔ s.mayRun e := by rw [← hc', State.mayRun_withCtrl]
  have hnorun (hno : s.rd TR_STATUS.STATE e ≠ 0 ∨ s.rd TR_STATUS.IMEM_STALE e = 1 ∨ s.ready (30 + e / 8) = false) : ¬ c.mayRun e := by
    rw [hrun]
    rintro ⟨h0, hs, hr⟩
    obtain h | h | h := hno
    · exact h h0
    · omega
    · rw [hr] at h
      cases h
  refine ⟨fun hst hel hheld hne hie hinh => ?_, fun hst hnone hne hie hinh => ?_, fun hst hne hmask => ?_, fun hidle => ?_,
    fun hst hel hheld hcause => ?_, fun hmon => ?_, fun hv hst hstale hr => ?_, fun hv hno => ?_, fun hv hst hstale hr hran => ?_,
    fun hv hno => ?_, fun hv hst => ?_, fun hv hst hel => ?_, fun hv hst hel => ?_, fun hv hst => ?_, fun hv => ?_, fun hv hstale => ?_,
    fun hno => ?_, fun hst hmon => ?_, fun hst hmon hbp => ?_, fun hen hst hmon hact hw => ?_, fun hen hst hstop hact hnone => ?_,
    fun hoff => ?_, ?_, fun hv => ?_, fun hv => ?_⟩
  · rw [exec_interruptEntry_running he hst (hx ▸ hel) hheld (State.takesIrq_of (hdue hne) hie hinh), State.enterIrq_eq hx.symm, ← hp, ← hvb]
  · rw [exec_interruptEntry_wakes he hx.symm hst hnone (State.takesIrq_of (hdue hne) hie hinh), ← hp, ← hvb]
  · rw [exec_interruptEntry_waiting he hst (hdue hne), State.takesIrq_masked hmask, if_neg Bool.false_ne_true]
  · exact exec_interruptEntry_idle he (by rw [State.irqDue, hpend]; exact decide_eq_false (not_not.2 hidle))
  · rw [exec_debugEntry_eq he, State.debugEntry_enters hst (hx ▸ hel) hheld hcause, State.enterMonitor_eq hx.symm, ← hp, ← hvb]
  · rw [exec_debugEntry_eq he, State.debugEntry_monitor (State.on_of_rd_eq_one hmon)]
  · have hentry : c.rd TR_CTRL.ENTRY e = v / 2 ^ 16 % 2 ^ 14 := by rw [← hc', State.rd_withCtrl_entry]
    rw [exec_trStart_eq he, State.trWrite_cmd (by decide) hv, hc', State.trCmd_start (hrun.2 ⟨hst, hstale, hr⟩) hcx, hentry]
  · rw [exec_trStart_eq he, State.trWrite_cmd (by decide) hv, hc', State.trCmd_start_refused (hnorun hno)]
  · rw [exec_trResume_eq he, State.trWrite_cmd (by decide) hv, hc', State.trCmd_resume (hrun.2 ⟨hst, hstale, hr⟩) hcx hran]
  · rw [exec_trResume_eq he, State.trWrite_cmd (by decide) hv, hc', State.trCmd_resume_refused]
    obtain h0 | h0 | h0 | h0 := hno
    · exact .inl (hnorun (.inl h0))
    · exact .inl (hnorun (.inr (.inl h0)))
    · exact .inl (hnorun (.inr (.inr h0)))
    · exact .inr (by rw [hcx]; exact h0)
  · rw [exec_trHalt_eq he, State.trWrite_cmd (by decide) hv, hc', State.trCmd_halt_waiting (hcst.trans hst)]
  · rw [exec_trHalt_eq he, State.trWrite_cmd (by decide) hv, hc', State.trCmd_halt_running (hcst.trans hst) hcx, if_pos hel]
  · rw [exec_trHalt_eq he, State.trWrite_cmd (by decide) hv, hc', State.trCmd_halt_running (hcst.trans hst) hcx, if_neg (by rw [hel]; decide)]
  · rw [exec_trHalt_eq he, State.trWrite_cmd (by decide) hv, hc', State.trCmd_halt_refused (by rw [hcst]; exact hst)]
  · rw [exec_loaded_eq he, State.trWrite_loaded, hc', hv]
    rfl
  · rw [exec_loaded_eq he, State.trWrite_loaded, hc', hv, State.trCmd_start_refused (hnorun (.inr (.inl hstale)))]
  · rw [exec_haltReq_eq he, State.trWrite_haltReq, hh', State.haltReq_ignored (by rw [hhst, hhmon]; exact hno)]
  · rw [exec_haltReq_eq he, State.trWrite_haltReq, hh', State.haltReq_noted (by rw [hhst]; exact hst) (by rw [hhmon, hmon]) hhx]
  · have hpc : h.rd TR_PC.PC e = p := by rw [← hh', State.rd_withDbg (by decide) (by decide), hp]
    have hbase : h.rd TR_CTRL.VBASE e * 256 = vb := by rw [← hh', State.rd_withDbg (by decide) (by decide), hvb]
    have hbp' : h.bpAt e p = false := by
      rw [← hbp, hh, State.bpAt_wr_other (by decide) (by decide), State.bpAt_wr_other (by decide) (by decide)]
    rw [exec_haltReq_eq he, State.trWrite_haltReq, hh', State.haltReq_waiting (hhst.trans hst) (hhmon.trans hmon) hhx (by rw [hpc]; exact hbp'), hpc,
      hbase]
  · exact exec_watchdogExpiry_warns he (State.wdogCounts_of hen (.inl hst) (.inl hmon)) hact hx.symm hw
  · exact ⟨_, exec_watchdogExpiry_resets he (State.wdogCounts_of hen (.inr hst) (.inr hstop)) (hx ▸ hact), State.wdogReset_starts hnone⟩
  · exact exec_watchdogExpiry_off he (State.wdogCounts_off hoff)
  · rw [exec_kick_eq he, State.kick_eq hx.symm]
  · rw [exec_wdogWrite_eq he, State.trWrite_wdog, State.writeWdog_full, if_neg hv, hu', State.kick_eq hux]
  · rw [exec_wdogWrite_eq he, State.trWrite_wdog, State.writeWdog_full, if_pos hv, hu', State.kick_eq ((State.eng_wr ..).trans hux)]

end Sys2Proof.Machine
end

section
/-! PROOF. Tram loads (O46; 17 R448 to R450, 16 R409 to R421). -/

namespace Sys2Proof.Machine

variable {s t u : State} {e w d m g n k op : Nat} {v : TramView} {x y : Engine} {l : Landing} {signed resv : Bool}

/-! ### A read of the own TR_ block (16 R440) -/

theorem State.setEng_clearRc (s : State) (e : Nat) (x : Engine) (fs : List Fld) (mask k j : Nat) :
    (s.setEng e x).clearRc fs mask k j = (s.clearRc fs mask k j).setEng e x := by
  unfold State.clearRc
  induction fs generalizing s with
  | nil => rfl
  | cons f fs ih =>
    rw [List.foldl_cons, List.foldl_cons]
    split
    · rw [← ih, State.setEng_wr]
    · exact ih s

theorem State.setEng_readFields (s : State) (e : Nat) (x : Engine) (fs : List Fld) (k j : Nat) :
    (s.setEng e x).readFields fs k j = s.readFields fs k j := rfl

theorem State.eng_clearRc (s : State) (e : Nat) (fs : List Fld) (mask k j : Nat) : (s.clearRc fs mask k j).eng e = s.eng e := by
  unfold State.clearRc
  induction fs generalizing s with
  | nil => rfl
  | cons f fs ih =>
    rw [List.foldl_cons, ih]
    split <;> rfl

theorem State.rd_clearRc {g : Fld} {fs : List Fld} (hg : ∀ f ∈ fs, f.acc = .rc → g.id ≠ f.id) (s : State) (mask k j i u : Nat) :
    (s.clearRc fs mask k j).rd g i u = s.rd g i u := by
  unfold State.clearRc
  induction fs generalizing s with
  | nil => rfl
  | cons f fs ih =>
    rw [List.foldl_cons, ih fun f hf => hg f (List.mem_cons_of_mem _ hf)]
    split
    next h => exact State.rd_wr_other _ (hg f List.mem_cons_self h.1)
    · rfl

theorem State.trRead_setEng (s : State) (e off n : Nat) (peek : Bool) : (s.setEng e (s.eng e)).trRead e off n peek =
    ((s.trRead e off n peek).1, (s.trRead e off n peek).2.setEng e ((s.trRead e off n peek).2.eng e)) := by
  unfold State.trRead
  generalize off / 8 * 8 = o
  dsimp only
  split
  · by_cases hrun : s.rd TR_STATUS.STATE e = 1
    · rw [if_pos hrun, if_pos (show (s.setEng e (s.eng e)).rd TR_STATUS.STATE e = 1 from hrun)]
      rfl
    · rw [if_neg hrun, if_neg (show ¬ (s.setEng e (s.eng e)).rd TR_STATUS.STATE e = 1 from hrun)]
      rfl
  · dsimp only
    have : (s.setEng e (s.eng e)).irqPend e = s.irqPend e := by rw [State.irqPend, State.eng_setEng_same]; rfl
    rw [this]
  · dsimp only [State.postRead]
    rw [State.eng_setEng_same]
    split
    · rfl
    · split
      · simp [State.updEng]
      · rfl
  · rfl
  next h1 h2 h3 h4 =>
    split
    · split
      · rfl
      · dsimp only
        rw [State.eng_clearRc, State.setEng_clearRc]
        rfl
    · rfl

/-- `STEP` is no field that a read clears. -/
theorem stepKept : ∀ r ∈ tableTr, ∀ f ∈ r.fields, f.acc = .rc → TR_DBG_CTRL.STEP.id ≠ f.id := by decide

/-- No read of the block changes a place or `STEP`. -/
theorem State.trRead_keeps (s : State) (e off n : Nat) (peek : Bool) : ((s.trRead e off n peek).2.eng e).place = (s.eng e).place ∧
    ((s.trRead e off n peek).2.eng e).gOld = (s.eng e).gOld ∧
    (s.trRead e off n peek).2.rd TR_DBG_CTRL.STEP e = s.rd TR_DBG_CTRL.STEP e := by
  unfold State.trRead
  generalize off / 8 * 8 = o
  split
  · split <;> exact ⟨rfl, rfl, rfl⟩
  · exact ⟨rfl, rfl, rfl⟩
  · dsimp only [State.postRead]
    split
    · exact ⟨rfl, rfl, rfl⟩
    · split
      · rw [State.updEng, State.eng_setEng_same]
        exact ⟨rfl, rfl, rfl⟩
      · exact ⟨rfl, rfl, rfl⟩
  · exact ⟨rfl, rfl, rfl⟩
  · split
    · split
      · exact ⟨rfl, rfl, rfl⟩
      · dsimp only
        rw [State.eng_clearRc]
        exact ⟨rfl, rfl, State.rd_clearRc (stepKept _ (findReg_mem ‹_›)) ..⟩
    · exact ⟨rfl, rfl, rfl⟩

/-! ### Where an address leads (16 R409, R410) -/

section

variable (hal : m % n = 0)
include hal

theorem State.spaceOf_dmem (s : State) (e : Nat) (h : m < 0x10000) : s.spaceOf e m n = some (.dmem (0x010005010000 + e * 0x40000 + m)) := by
  rw [State.spaceOf, if_neg (not_not.2 hal), if_pos h, dmemBase]

theorem State.spaceOf_imem (s : State) (e : Nat) (h1 : 0x10000 ≤ m) (h2 : m < 0x20000) (hn : 4 ≤ n) :
    s.spaceOf e m n = some (.imem (0x010005000000 + e * 0x40000 + m % 0x10000)) := by
  rw [State.spaceOf, if_neg (not_not.2 hal), if_neg (by omega), if_pos h2, if_pos hn, imemBase]

theorem State.spaceOf_regs (s : State) (e : Nat) (h1 : 0x20000 ≤ m) (h2 : m < 0x30000) (hn : 4 ≤ n) :
    s.spaceOf e m n = some (.regs (m % 0x10000)) := by
  rw [State.spaceOf, if_neg (not_not.2 hal), if_neg (by omega), if_neg (by omega), if_pos h2, if_pos hn]

theorem State.spaceOf_crib (s : State) (e : Nat) (h1 : 0x400000 ≤ m) (h2 : m < 0x600000) :
    s.spaceOf e m n = some (.crib (0x010004000000 + e / 8 * 0x200000 + m % 0x200000)) := by
  rw [State.spaceOf, if_neg (not_not.2 hal), if_neg (by omega), if_neg (by omega), if_neg (by omega), if_pos ⟨h1, h2⟩, cribBase, crewOf]

theorem State.spaceOf_aperture (s : State) (e : Nat) (h : 0x80000000 ≤ m) : s.spaceOf e m n =
    if s.on TR_APER.VALID e ((m - 0x80000000) / 0x10000000) then
      some (.aperture (s.rd TR_APER.BASE e ((m - 0x80000000) / 0x10000000) * 0x10000000 + m % 0x10000000)) else none := by
  rw [State.spaceOf, if_neg (not_not.2 hal), if_neg (by omega), if_neg (by omega), if_neg (by omega), if_neg (by omega), if_pos h]

end

theorem State.spaceOf_misaligned (s : State) (e : Nat) (h : m % n ≠ 0) : s.spaceOf e m n = none := if_pos h

/-- The addresses that no access may name. -/
theorem State.spaceOf_hole (s : State) (e : Nat) (h : (0x30000 ≤ m ∧ m < 0x400000) ∨ (0x600000 ≤ m ∧ m < 0x80000000)) : s.spaceOf e m n = none := by
  by_cases hal : m % n ≠ 0
  · exact s.spaceOf_misaligned e hal
  · rw [State.spaceOf, if_neg hal, if_neg (by omega), if_neg (by omega), if_neg (by omega), if_neg (by omega), if_neg (by omega)]

/-- A byte or half of instruction memory or of the own block. -/
theorem State.spaceOf_narrow (s : State) (e : Nat) (h1 : 0x10000 ≤ m) (h2 : m < 0x30000) (hn : n < 4) : s.spaceOf e m n = none := by
  by_cases hal : m % n ≠ 0
  · exact s.spaceOf_misaligned e hal
  · rw [State.spaceOf, if_neg hal, if_neg (by omega)]
    by_cases h : m < 0x20000
    · rw [if_pos h, if_neg (by omega)]
    · rw [if_neg h, if_pos h2, if_neg (by omega)]

/-- Outside the crib window no address leads to the crib. -/
theorem State.spaceOf_notCrib (s : State) (e a : Nat) (h : m < 0x400000 ∨ 0x600000 ≤ m) : s.spaceOf e m n ≠ some (.crib a) := by
  rw [State.spaceOf]
  simp only [if_neg (show ¬ (0x400000 ≤ m ∧ m < 0x600000) by omega)]
  split_ifs <;> simp

/-- The byte `m` of the memories that an engine reaches itself, at the gallery address `g`, and what the access leaves of the state. -/
def Near (s : State) (e m g : Nat) (u : State) : Prop :=
  (m < 0x10000 ∧ g = 0x010005010000 + e * 0x40000 + m ∧ u = s) ∨
    (0x10000 ≤ m ∧ m < 0x20000 ∧ g = 0x010005000000 + e * 0x40000 + m % 0x10000 ∧ u = s) ∨
    (0x400000 ≤ m ∧ m < 0x600000 ∧ g = 0x010004000000 + e / 8 * 0x200000 + m % 0x200000 ∧ u = s.ungate 1 (e / 8 * 16 + m / 8 % 16))

/-- The bank of the crib that an address lies in. -/
theorem State.useBank_crib (s : State) (e : Nat) (hg : g = 0x010004000000 + e / 8 * 0x200000 + m % 0x200000) :
    s.useBank g = s.ungate 1 (e / 8 * 16 + m / 8 % 16) := by
  have hcrew : (g - 0x010004000000) / 0x200000 = e / 8 := by omega
  have hbank : g / 8 % 16 = m / 8 % 16 := by omega
  rw [State.useBank, hcrew, hbank]

theorem crib_granule (hg : g = 0x010004000000 + e / 8 * 0x200000 + m % 0x200000) : g % 0x200000 / 8 = m % 0x200000 / 8 := by omega

/-! ### Loads (17 R448) -/

theorem State.wpAt_setEng (s : State) (e : Nat) (x : Engine) (k a : Nat) (b : Bool) : (s.setEng e x).wpAt k a b = s.wpAt k a b := rfl

theorem State.wpAt_ungate (s : State) (c k e a : Nat) (b : Bool) : (s.ungate c k).wpAt e a b = s.wpAt e a b := by
  have hrd (f : Fld) (hf : f.id ≠ CK_GATE_STATUS.GATED.id) (u j : Nat) : (s.ungate c k).rd f u j = s.rd f u j := State.rd_ungate_other hf ..
  simp only [State.wpAt, State.on, hrd TR_WP.EN (by decide), hrd TR_WP.WADDR (by decide), hrd TR_WP.ON_WR (by decide), hrd TR_WP.ON_RD (by decide)]

theorem State.watch_none {b : Bool} {a : Nat} (h : s.wpAt e a b = false) : s.watch e a b = s := by
  rw [State.watch, h]
  rfl

@[simp] theorem Engine.place_land (x : Engine) (l : Landing) (r : Nat) : (x.land l r).place = x.place := by
  obtain ⟨dest, size, signed, ptr, head, eaddr⟩ := l
  have hy : (match dest with
      | none => x
      | some r' => if size = 8 then (x.wgLate r' (BitVec.ofNat 32 r)).wgLate (r' + 1) (BitVec.ofNat 32 (r / 2 ^ 32))
        else x.wgLate r' (extend size signed r)).place = x.place := by
    cases dest with
    | none => rfl
    | some r' =>
      dsimp only
      split <;> simp
  unfold Engine.land
  cases ptr with
  | none => exact hy
  | some p => exact (Engine.place_wk ..).trans hy

/-- A load from a good word. -/
theorem memLoad_good (hgood : t.wordErr g = 0) (hwp : t.wpAt e l.eaddr false = false) (resv : Bool) :
    memLoad t e g l 0 resv = .done (t.updEng e (fun y =>
      if resv then { y.land l (t.load g l.size) with resv := some (g % 0x200000 / 8) } else y.land l (t.load g l.size))) .next := by
  rw [memLoad, State.checkWord_good hgood]
  dsimp only
  rw [if_neg Bool.false_ne_true, State.watch_none hwp]
  cases resv
  · rfl
  · simp only [if_true, State.updEng, State.eng_setEng_same, State.setEng_setEng]

/-- What a load of the crew's memories leaves. -/
theorem loadAt_near (hm : Near s e m g u) (hl : l.eaddr = m) (hn : l.size = n) (hal : m % n = 0) (hwide : m < 0x10000 ∨ 0x20000 ≤ m ∨ 4 ≤ n)
    (hresv : resv = true → 0x400000 ≤ m) (hgood : s.wordErr g = 0) (hwp : s.wpAt e m false = false) :
    loadAt (s.setEng e x) e l 0 resv = .done (u.setEng e
      (if resv then { x.land l (s.load g n) with resv := some (m % 0x200000 / 8) } else x.land l (s.load g n))) .next := by
  have hwpx (x : Engine) : (s.setEng e x).wpAt e l.eaddr false = false := by rw [hl, State.wpAt_setEng, hwp]
  have hload (x : Engine) : (s.setEng e x).load g l.size = s.load g n := by rw [hn]; rfl
  obtain ⟨h1, hg, rfl⟩ | ⟨h1, h2, hg, rfl⟩ | ⟨h1, h2, hg, rfl⟩ := hm
  · have hoff : resv = false := by
      cases resv
      · rfl
      · have := hresv rfl
        omega
    rw [loadAt, hl, hn, State.spaceOf_dmem hal _ _ h1, ← hg, hoff]
    dsimp only
    rw [if_neg Bool.false_ne_true, memLoad_good (t := u.setEng e x) hgood (hwpx x), State.updEng_setEng, hload]
    rfl
  · have hoff : resv = false := by
      cases resv
      · rfl
      · have := hresv rfl
        omega
    rw [loadAt, hl, hn, State.spaceOf_imem hal _ _ h1 h2 (by omega), ← hg, hoff]
    dsimp only
    rw [if_neg Bool.false_ne_true, memLoad_good (t := u.setEng e x) hgood (hwpx x), State.updEng_setEng, hload]
    rfl
  · have hbank : (s.setEng e x).useBank g = (s.ungate 1 (e / 8 * 16 + m / 8 % 16)).setEng e x := State.useBank_crib (s.setEng e x) e hg
    have hwpu : ((s.ungate 1 (e / 8 * 16 + m / 8 % 16)).setEng e x).wpAt e l.eaddr false = false := by
      rw [hl, State.wpAt_setEng, State.wpAt_ungate, hwp]
    rw [loadAt, hl, hn, State.spaceOf_crib hal _ _ h1 h2, ← hg]
    dsimp only
    rw [hbank, memLoad_good (t := (s.ungate 1 (e / 8 * 16 + m / 8 % 16)).setEng e x) hgood hwpu, State.updEng_setEng, crib_granule hg, hn]
    rfl

/-! ### The bytes of a load in its registers (16 R417) -/

theorem extend_unsigned {r : Nat} (h : r < 2 ^ (8 * n)) : extend n false r = BitVec.ofNat 32 r := by
  rw [extend, Nat.mod_eq_of_lt h]
  rfl

theorem extend_word (signed : Bool) (r : Nat) : extend 4 signed r = BitVec.ofNat 32 r := by
  apply BitVec.eq_of_toNat_eq
  simp [extend]

/-- A byte or a half, extended by its sign. -/
theorem extend_signed {r : Nat} (hn : n = 1 ∨ n = 2) (h : r < 2 ^ (8 * n)) : extend n true r = (BitVec.ofNat (8 * n) r).signExtend 32 := by
  have hbit : r.testBit (8 * n - 1) = (BitVec.ofNat (8 * n) r).msb := by
    rw [BitVec.msb_eq_getLsbD_last, BitVec.getLsbD_ofNat]
    simp
    omega
  apply BitVec.eq_of_toNat_eq
  rw [extend, Nat.mod_eq_of_lt h, hbit, BitVec.toNat_signExtend, BitVec.toNat_setWidth, BitVec.toNat_ofNat, Nat.mod_eq_of_lt h]
  obtain rfl | rfl := hn <;> cases (BitVec.ofNat _ r).msb <;> simp [BitVec.toNat_sub] <;> omega

/-- A run of bytes is the run of its first `k` and the run of the rest. -/
theorem load_add (s : State) (g k n : Nat) : s.load g (k + n) = s.load g k + 2 ^ (8 * k) * s.load (g + k) n := by
  have hsucc (a m : Nat) : s.load a (m + 1) = s.load a m + (s.byte (a + m)).toNat * 2 ^ (8 * m) := by
    rw [State.load, List.range_succ, List.foldl_append, List.foldl_cons, List.foldl_nil]
    rfl
  induction n with
  | zero => rfl
  | succ n ih =>
    rw [← Nat.add_assoc, hsucc, ih, hsucc, Nat.mul_add, Nat.pow_add, ← Nat.add_assoc g k n]
    ring

/-- The upper word of eight bytes. -/
theorem load_upper (s : State) (g : Nat) : s.load g 8 / 2 ^ 32 = s.load (g + 4) 4 := by
  have hlow : s.load g 4 < 2 ^ 32 := byteSum_lt s g 4
  have hsplit : s.load g 8 = s.load g 4 + 2 ^ 32 * s.load (g + 4) 4 := load_add s g 4 4
  rw [hsplit, Nat.add_mul_div_left _ _ (Nat.two_pow_pos 32), Nat.div_eq_of_lt hlow, Nat.zero_add]

/-- A landing in one register. -/
theorem Engine.land_one (hx : x.gOld = []) (hd : l.dest = some d) (hn : l.size ≠ 8) (hp : l.ptr = none) (r : Nat) :
    x.land l r = { x.wg d (extend l.size l.signed r) with gOld := [(d, Tab.get 0 x.g d)] } := by
  rw [Engine.land, hd, hp]
  dsimp only
  rw [if_neg hn, Engine.wgLate_of_noGap hx]

/-- A pair written with one slot. -/
theorem Engine.wgLate_pair (hx : x.gOld = []) (d : Nat) (a b : Word) : (x.wgLate d a).wgLate (d + 1) b =
    { (x.wg d a).wg (d + 1) b with gOld := [(d, Tab.get 0 x.g d), (d + 1, Tab.get 0 x.g (d + 1))] } := by
  have hother : Tab.get 0 (x.wg d a).g (d + 1) = Tab.get 0 x.g (d + 1) := by
    rw [Engine.wg]
    split
    · rfl
    · exact Tab.get_set_ne (k := d) (k' := d + 1) _ _ _ _ _ (by omega)
  rw [Engine.wgLate_of_noGap hx, ← hother]
  simp [Engine.wgLate, Engine.wg]

theorem Engine.land_pair (hx : x.gOld = []) (hd : l.dest = some d) (hn : l.size = 8) (hp : l.ptr = none) (s : State) (g : Nat) :
    x.land l (s.load g 8) = { (x.wg d (BitVec.ofNat 32 (s.load g 8))).wg (d + 1) (BitVec.ofNat 32 (s.load (g + 4) 4)) with
      gOld := [(d, Tab.get 0 x.g d), (d + 1, Tab.get 0 x.g (d + 1))] } := by
  rw [Engine.land, hd, hp]
  dsimp only
  rw [if_pos hn, Engine.wgLate_pair hx, load_upper]

/-! ### The load instructions -/

theorem rowOp_names (ho : w / 2 ^ 26 = op) (hlt : op < 64) : rowNames (rowOp op) w = true :=
  rowNames_iff.2 (by rw [ho, Nat.mod_eq_of_lt hlt])

/-- The address of format N. -/
theorem Engine.addrN_eq {a : Nat} (ha : a = if w % 2 ^ 16 < 2 ^ 15 then w % 2 ^ 16 else w % 2 ^ 16 + 2 ^ 32 - 2 ^ 16) (x : Engine) :
    x.addrN w = (x.rg (w / 2 ^ 16 % 32) + BitVec.ofNat 32 a).toNat := by
  have hoff : BitVec.ofInt 32 (simm w) = BitVec.ofNat 32 a := by
    have hlow : bitsOf w 0 16 = w % 2 ^ 16 := by rw [bitsOf_eq, Nat.pow_zero, Nat.div_one]
    rw [simm, hlow, ha]
    exact simmWord_eq (Nat.mod_lt _ (Nat.two_pow_pos 16))
  rw [Engine.addrN, fS_eq, hoff]

theorem Near.step (h : Near s e m g u) : u.on TR_DBG_CTRL.STEP e = s.on TR_DBG_CTRL.STEP e := by
  have hun (c k : Nat) : (s.ungate c k).on TR_DBG_CTRL.STEP e = s.on TR_DBG_CTRL.STEP e := by
    rw [State.on, State.rd_ungate_other (by decide), State.on]
  obtain ⟨-, -, rfl⟩ | ⟨-, -, -, rfl⟩ | ⟨-, -, -, rfl⟩ := h
  · rfl
  · rfl
  · exact hun ..

/-- The landing of a load in format N. -/
def landingN (d n : Nat) (signed : Bool) (m : Nat) : Landing := ⟨some d, n, signed, none, none, m⟩

/-- The engine `y` after a load: a load-locked sets the reservation (16 R421). -/
def Engine.reserved (y : Engine) (m : Nat) (resv : Bool) : Engine := if resv then { y with resv := some (m % 0x200000 / 8) } else y

@[simp] theorem Engine.place_reserved (y : Engine) (m : Nat) (resv : Bool) : (y.reserved m resv).place = y.place := by cases resv <;> rfl

/-- A body that loads at an address whose word is good. -/
theorem Stands.issue_loadAt {r : TramRow} {body : Body} (h : Stands s e w x) (hv : v.fetchErrs = 0) (hrow : rowNames r w = true) (hz : w &&& r.zero = 0)
    (hbody : body x w e (s.setEng e x) = loadAt (s.setEng e x) e l 0 resv) (hm : Near s e m g u) (hl : l.eaddr = m) (hn : l.size = n)
    (hal : m % n = 0) (hwide : m < 0x10000 ∨ 0x20000 ≤ m ∨ 4 ≤ n) (hresv : resv = true → 0x400000 ≤ m) (hgood : s.wordErr g = 0)
    (hwp : s.wpAt e m false = false) (hy : x.land l (s.load g n) = y) : s.issue r body e v = .next (u.issued e (y.reserved m resv)) := by
  refine h.issue_next hv hrow hz (u := u) (y := y.reserved m resv) ?_ ?_ hm.step
  · rw [hbody, loadAt_near hm hl hn hal hwide hresv hgood hwp, hy]
    rfl
  · rw [Engine.place_reserved, ← hy, Engine.place_land]

/-- The body of a load in format N, unless a pair is odd. -/
theorem ldBody_eq (hv : v.dataErrs = k) (hd : d = w / 2 ^ 21 % 32) (hm : x.addrN w = m) (hpair : n = 8 → d % 2 = 0) (signed resv : Bool) :
    ldBody n signed resv v x w e t = loadAt t e (landingN d n signed m) k resv := by
  rw [ldBody, fD_eq, ← hd, hm, hv, if_neg (by omega)]
  rfl

section

variable (h : Stands s e w x) (hv : v.fetchErrs = 0) (hdv : v.dataErrs = 0) (hd : d = w / 2 ^ 21 % 32) (ha : x.addrN w = m) (hm : Near s e m g u)
  (hgood : s.wordErr g = 0) (hwp : s.wpAt e m false = false)
include h hv hdv hd ha hm hgood hwp

/-- A load in format N into one register. -/
theorem Stands.load_one (ho : w / 2 ^ 26 = op) (hlt : op < 64) (hal : m % n = 0) (hwide : m < 0x10000 ∨ 0x20000 ≤ m ∨ 4 ≤ n)
    (hresv : resv = true → 0x400000 ≤ m) (hn : n ≠ 8) {r : Word} (hr : extend n signed (s.load g n) = r) :
    s.issue (rowOp op) (ldBody n signed resv v) e v =
      .next (u.issued e (Engine.reserved { x.wg d r with gOld := [(d, Tab.get 0 x.g d)] } m resv)) := by
  refine h.issue_loadAt hv (rowOp_names ho hlt) (Nat.and_zero w) (l := landingN d n signed m)
    (ldBody_eq hdv hd ha (fun h8 => absurd h8 hn) signed resv) hm rfl rfl hal hwide hresv hgood hwp ?_
  rw [Engine.land_one h.gOld rfl hn rfl, ← hr]
  rfl

/-- A load in format N into a pair. -/
theorem Stands.load_pair (ho : w / 2 ^ 26 = op) (hlt : op < 64) (hal : m % 8 = 0) (hresv : resv = true → 0x400000 ≤ m) (hpair : d % 2 = 0) :
    s.issue (rowOp op) (ldBody 8 signed resv v) e v =
      .next (u.issued e (Engine.reserved { (x.wg d (BitVec.ofNat 32 (s.load g 8))).wg (d + 1) (BitVec.ofNat 32 (s.load (g + 4) 4)) with
        gOld := [(d, Tab.get 0 x.g d), (d + 1, Tab.get 0 x.g (d + 1))] } m resv)) :=
  h.issue_loadAt hv (rowOp_names ho hlt) (Nat.and_zero w) (l := landingN d 8 signed m)
    (ldBody_eq hdv hd ha (fun _ => hpair) signed resv) hm rfl rfl hal (.inr (.inr (show 4 ≤ 8 by decide))) hresv hgood hwp
    (Engine.land_pair (d := d) h.gOld rfl rfl rfl s g)

end

section

variable (h : Stands s e w x) (hv : v.fetchErrs = 0) (ho : w / 2 ^ 26 = op) (hlt : op < 64)
include h hv ho hlt

/-- An odd pair. -/
theorem Stands.load_odd (hd : d = w / 2 ^ 21 % 32) (hodd : d % 2 = 1) (signed resv : Bool) :
    s.issue (rowOp op) (ldBody 8 signed resv v) e v = .next (s.raiseExc e 1 0) :=
  h.issue_exc hv (rowOp_names ho hlt) (Nat.and_zero w) (if_pos ⟨rfl, by rw [fD_eq, ← hd]; exact hodd⟩)

/-- An address that leads nowhere. -/
theorem Stands.load_nowhere (ha : x.addrN w = m) (hn : n ≠ 8) (hnone : s.spaceOf e m n = none) (signed resv : Bool) :
    s.issue (rowOp op) (ldBody n signed resv v) e v = .next (s.raiseExc e 2 m) := by
  refine h.issue_exc hv (rowOp_names ho hlt) (Nat.and_zero w) ?_
  have hnone' : (s.setEng e x).spaceOf e m n = none := hnone
  rw [ldBody_eq rfl rfl ha (fun h8 => absurd h8 hn), loadAt, landingN]
  dsimp only
  rw [hnone']

/-- A load-locked outside the crib. -/
theorem Stands.load_unlocked (ha : x.addrN w = m) (hn : n ≠ 8) (hout : m % n ≠ 0 ∨ m < 0x400000 ∨ 0x600000 ≤ m) (signed : Bool) :
    s.issue (rowOp op) (ldBody n signed true v) e v = .next (s.raiseExc e 2 m) := by
  obtain hal | hout := hout
  · exact h.load_nowhere hv ho hlt ha hn (s.spaceOf_misaligned e hal) signed true
  · refine h.issue_exc hv (rowOp_names ho hlt) (Nat.and_zero w) ?_
    rw [ldBody_eq rfl rfl ha (fun h8 => absurd h8 hn), loadAt, landingN]
    dsimp only
    cases hsp : (s.setEng e x).spaceOf e m n with
    | none => rfl
    | some sp =>
      cases sp with
      | crib a => exact absurd hsp (State.spaceOf_notCrib _ e a hout)
      | _ => rfl

end

/-- Marking a word and counting its error leaves the engines. -/
theorem State.setEng_markErr (s : State) (e g c : Nat) (x : Engine) (ue : Bool) (src : Nat) :
    ((s.setEng e x).setWordErr g c).countErr g ue src = ((s.setWordErr g c).countErr g ue src).setEng e x := by
  unfold State.countErr
  split <;> rfl

theorem State.eng_markErr (s : State) (e g c : Nat) (ue : Bool) (src : Nat) : ((s.setWordErr g c).countErr g ue src).eng e = s.eng e := by
  unfold State.countErr
  split <;> rfl

/-- Two errors in a good word (16 R419). -/
theorem State.checkWord_double (h : s.wordErr g = 0) (src : Nat) : s.checkWord g 2 src = (true, (s.setWordErr g 3).countErr g true src) := by
  simp [State.checkWord, h]

/-- A load from data memory whose word reads uncorrectable. -/
theorem Stands.load_poison (h : Stands s e w x) (hv : v.fetchErrs = 0) (hdv : v.dataErrs = 2) (ho : w / 2 ^ 26 = op) (hlt : op < 64)
    (ha : x.addrN w = m) (hm : m < 0x10000) (hg : g = 0x010005010000 + e * 0x40000 + m) (hal : m % n = 0) (hgood : s.wordErr g = 0) (hn : n ≠ 8)
    (signed : Bool) : s.issue (rowOp op) (ldBody n signed false v) e v =
      .next (((s.setWordErr g 3).countErr g true 0).raiseExc e 4 m) := by
  have hmark : (((s.setWordErr g 3).countErr g true 0).setEng e x).raiseExc e 4 m = ((s.setWordErr g 3).countErr g true 0).raiseExc e 4 m := by
    rw [← h.eng, ← State.eng_markErr s e g 3 true 0, State.raiseExc_setEng]
  have hbody : ldBody n signed false v x w e (s.setEng e x) = .exc (((s.setWordErr g 3).countErr g true 0).setEng e x) 4 m := by
    rw [ldBody_eq hdv rfl ha (fun h8 => absurd h8 hn), loadAt, landingN]
    dsimp only
    rw [State.spaceOf_dmem hal _ _ hm, ← hg]
    dsimp only
    rw [if_neg Bool.false_ne_true, memLoad, State.checkWord_double (s := s.setEng e x) hgood, State.setEng_markErr]
    rfl
  rw [h.issue hv (rowOp_names ho hlt) (Nat.and_zero w), hbody, State.finishIssue, hmark]

/-- A load from the own TR_ block. -/
theorem Stands.load_regs (h : Stands s e w x) (hv : v.fetchErrs = 0) (ho : w / 2 ^ 26 = op) (hlt : op < 64) (hd : d = w / 2 ^ 21 % 32)
    (ha : x.addrN w = m) (hal : m % 4 = 0) (h1 : 0x20000 ≤ m) (h2 : m < 0x30000) {r : Nat} (hr : (r, t) = s.trRead e (m % 0x10000) 4 false)
    (hwp : t.wpAt e m false = false) (signed : Bool) : s.issue (rowOp op) (ldBody 4 signed false v) e v =
      .next (t.issued e { (t.eng e).wg d (BitVec.ofNat 32 r) with gOld := [(d, Tab.get 0 (t.eng e).g d)] }) := by
  obtain ⟨hplace, hgold, hstep⟩ := s.trRead_keeps e (m % 0x10000) 4 false
  have hread : (s.setEng e x).trRead e (m % 0x10000) 4 false = (r, t.setEng e (t.eng e)) := by
    rw [← h.eng, State.trRead_setEng, ← hr]
  rw [← hr, h.eng] at hplace hgold
  have hland : (t.eng e).land (landingN d 4 signed m) r =
      { (t.eng e).wg d (BitVec.ofNat 32 r) with gOld := [(d, Tab.get 0 (t.eng e).g d)] } := by
    rw [Engine.land_one (hgold.trans h.gOld) rfl (show 4 ≠ 8 by decide) rfl, ← extend_word signed r]
    rfl
  rw [← hland]
  refine h.issue_next hv (rowOp_names ho hlt) (Nat.and_zero w) (u := t) ?_ ((Engine.place_land ..).trans hplace)
    (by rw [State.on, State.on, ← hstep, ← hr])
  rw [ldBody_eq rfl hd ha (fun h8 => absurd h8 (by decide)), loadAt]
  have hsp : (s.setEng e x).spaceOf e m 4 = some (.regs (m % 0x10000)) := State.spaceOf_regs hal _ _ h1 h2 (by decide)
  simp only [landingN] at hsp ⊢
  rw [hsp]
  dsimp only
  rw [if_neg Bool.false_ne_true, hread]
  dsimp only
  rw [State.watch_none (by rw [State.wpAt_setEng, hwp]), State.updEng_setEng]

/-- A valid aperture leads to its window. -/
theorem State.spaceOf_open (h1 : 0x80000000 ≤ m) (hal : m % n = 0) (hon : s.rd TR_APER.VALID e ((m - 0x80000000) / 0x10000000) = 1) :
    s.spaceOf e m n = some (.aperture (s.rd TR_APER.BASE e ((m - 0x80000000) / 0x10000000) * 0x10000000 + m % 0x10000000)) := by
  rw [State.spaceOf_aperture hal _ _ h1, if_pos (State.on_of_rd_eq_one hon)]

/-- A load through an aperture (16 R410). -/
theorem Stands.load_aperture (h : Stands s e w x) (hv : v.fetchErrs = 0) (ho : w / 2 ^ 26 = op) (hlt : op < 64) (hd : d = w / 2 ^ 21 % 32)
    (ha : x.addrN w = m) {a : Nat} (hsp : s.spaceOf e m 4 = some (.aperture a)) (hwp : s.wpAt e m false = false) :
    s.issue (rowOp op) (ldBody 4 false false v) e v =
      .next ((s.setEng e { x with wait := some (.answer ⟨some d, 4, false, none, none, m⟩ none) }).request
        ⟨653 + e / 8, some e, a, 4, 0, 0, false, 0⟩) := by
  have hsp' : (s.setEng e x).spaceOf e m 4 = some (.aperture a) := hsp
  have hbody : ldBody 4 false false v x w e (s.setEng e x) = .frozen
      ((s.setEng e { x with wait := some (.answer ⟨some d, 4, false, none, none, m⟩ none) }).request
        ⟨653 + e / 8, some e, a, 4, 0, 0, false, 0⟩) := by
    rw [ldBody_eq rfl hd ha (fun h8 => absurd h8 (by decide)), loadAt, landingN]
    dsimp only
    rw [hsp']
    dsimp only
    rw [if_neg Bool.false_ne_true, State.watch_none (by rw [State.wpAt_setEng, hwp]), State.updEng_setEng]
    rfl
  rw [h.issue hv (rowOp_names ho hlt) (Nat.and_zero w), hbody]
  rfl

/-- An aperture that is not valid. -/
theorem State.spaceOf_closed (h1 : 0x80000000 ≤ m) (hoff : s.rd TR_APER.VALID e ((m - 0x80000000) / 0x10000000) = 0) : s.spaceOf e m n = none := by
  by_cases hal : m % n = 0
  · rw [State.spaceOf_aperture hal _ _ h1, State.on_eq_false hoff]
    rfl
  · exact s.spaceOf_misaligned e hal

/-! ### Pointer loads (17 R449) -/

theorem kNum_eq (w : Nat) : kNum w = w / 2 ^ 18 % 8 := bitsOf_eq ..

theorem kSize_eq {j : Nat} (h : w / 2 ^ 16 % 4 = j) : kSize w = 2 ^ j := by rw [kSize, bitsOf_eq, show 2 ^ 2 = 4 from rfl, h]

/-- Without a value in the gap an address computation reads the register. -/
theorem Engine.rkAddr_noGap (h : x.kOld = []) (sel n : Nat) : x.rkAddr sel n = Tab.get 0 x.k (sel * 8 + n % 8) := by
  rw [Engine.rkAddr, h]
  rfl

/-- The step of a pointer, signed and in units of the access. -/
theorem kStep_eq (w : Nat) : kStep w = BitVec.ofInt 32
    ((if w % 2 ^ 15 < 2 ^ 14 then ((w % 2 ^ 15 : Nat) : Int) else ((w % 2 ^ 15 : Nat) : Int) - 2 ^ 15) * 2 ^ (w / 2 ^ 16 % 4)) := by
  have hlow : bitsOf w 0 15 = w % 2 ^ 15 := by rw [bitsOf_eq, Nat.pow_zero, Nat.div_one]
  have hbit : (w % 2 ^ 15).testBit 14 = !decide (w % 2 ^ 15 < 2 ^ 14) := by
    rw [testBit_iff_div, ← decide_not, decide_eq_decide]
    omega
  have hstep : sextN 15 (w % 2 ^ 15) = if w % 2 ^ 15 < 2 ^ 14 then ((w % 2 ^ 15 : Nat) : Int) else ((w % 2 ^ 15 : Nat) : Int) - 2 ^ 15 := by
    rw [sextN, hbit]
    by_cases h : w % 2 ^ 15 < 2 ^ 14
    · rw [if_pos h, decide_eq_true h]
      exact if_neg (by decide)
    · rw [if_neg h, decide_eq_false h]
      exact if_pos rfl
  rw [kStep, hlow, hstep, kSize_eq rfl, Nat.cast_pow]
  rfl

/-- The pointer after an access, wrapped once into its window. -/
theorem Engine.ptrNext_eq {kb kl nx r : Word} (hk : x.kOld = []) (hn : n < 8) (step : Word) (hkb : kb = Tab.get 0 x.k (8 + n))
    (hkl : kl = Tab.get 0 x.k (16 + n)) (hnx : nx = Tab.get 0 x.k n + step)
    (hr : r = if kl = 0 then nx else if kb.toNat + kl.toNat ≤ nx.toNat then nx - kl else if nx.toNat < kb.toNat then nx + kl else nx) :
    x.ptrNext n step = r := by
  have h0 : x.rkAddr 0 n = Tab.get 0 x.k n := by rw [Engine.rkAddr_noGap hk, Nat.zero_mul, Nat.zero_add, Nat.mod_eq_of_lt hn]
  have h1 : x.rkAddr 1 n = kb := by rw [Engine.rkAddr_noGap hk, Nat.one_mul, Nat.mod_eq_of_lt hn, hkb]
  have h2 : x.rkAddr 2 n = kl := by rw [Engine.rkAddr_noGap hk, Nat.mod_eq_of_lt hn, hkl]
  rw [Engine.ptrNext, h0, h1, h2, ← hnx, hr]

/-- A landing that moves a pointer too. -/
theorem Engine.land_moves {p : Nat × Word} (hp : l.ptr = some p) (x : Engine) (r : Nat) :
    x.land l r = (x.land { l with ptr := none } r).wk p.1 p.2 := by
  rw [Engine.land, hp]
  rfl

@[simp] theorem Engine.k_wg (x : Engine) (d : Nat) (a : Word) : (x.wg d a).k = x.k := by
  rw [Engine.wg]
  split <;> rfl

/-- The landing of a pointer load. -/
def landingK (d n : Nat) (signed : Bool) (i : Nat) (r : Word) (m : Nat) : Landing := ⟨some d, n, signed, some (i, r), none, m⟩

/-- A word of format K that is legal. -/
theorem kIllegal_legal {j : Nat} {b : Bool} (hj : w / 2 ^ 16 % 4 = j) (hd : d = w / 2 ^ 21 % 32) (hb : w.testBit 15 = b)
    (hlegal : (b = true → j < 2) ∧ (j = 3 → d % 2 = 0)) : kIllegal w = false := by
  obtain ⟨hlow, hpair⟩ := hlegal
  have hj4 : j < 4 := hj ▸ Nat.mod_lt _ (by decide)
  rw [kIllegal, kSize_eq hj, hb, fD_eq, ← hd, Bool.or_eq_false_iff, Bool.and_eq_false_iff, Bool.and_eq_false_iff, decide_eq_false_iff_not,
    decide_eq_false_iff_not, decide_eq_false_iff_not]
  match j, hj4 with
  | 0, _ => exact ⟨.inr (by decide), .inl (by decide)⟩
  | 1, _ => exact ⟨.inr (by decide), .inl (by decide)⟩
  | 2, _ => exact ⟨.inl (Bool.eq_false_iff.2 fun h => absurd (hlow h) (by decide)), .inl (by decide)⟩
  | 3, _ => exact ⟨.inl (Bool.eq_false_iff.2 fun h => absurd (hlow h) (by decide)), .inr (by rw [hpair rfl]; decide)⟩

/-- The body of LDK where the word is legal. -/
theorem execLdk_body {i j : Nat} {r : Word} {b : Bool} (hi : i = w / 2 ^ 18 % 8) (hj : w / 2 ^ 16 % 4 = j) (hd : d = w / 2 ^ 21 % 32)
    (hb : w.testBit 15 = b) (hlegal : (b = true → j < 2) ∧ (j = 3 → d % 2 = 0)) (hnext : x.ptrNext i (kStep w) = r) (ha : (x.rkAddr 0 i).toNat = m)
    (hv : v.dataErrs = 0) :
    (if kIllegal w then Eff.exc t 1 0
      else loadAt t e ⟨some (fD w), kSize w, !w.testBit 15, some (kNum w, x.ptrNext (kNum w) (kStep w)), none, (x.rkAddr 0 (kNum w)).toNat⟩
        v.dataErrs false) = loadAt t e (landingK d (2 ^ j) (!b) i r m) 0 false := by
  rw [kIllegal_legal hj hd hb hlegal, fD_eq, ← hd, kNum_eq, ← hi, kSize_eq hj, hnext, ha, hb, hv]
  rfl

theorem kKey_pointer {i : Nat} (h : i < 8) : kKey 0 i = i := by rw [kKey, Nat.zero_mul, Nat.zero_add, Nat.mod_eq_of_lt h]

/-- A pointer moved beside a register written. -/
theorem Engine.wk_one {i : Nat} (hi : i < 8) (x : Engine) (d : Nat) (a r : Word) (l : List (Nat × Word)) :
    Engine.wk { x.wg d a with gOld := l } i r = { x.wg d a with k := Tab.set natLt 0 x.k i r, gOld := l } := by
  rw [Engine.wk, kKey_pointer hi, ← Engine.k_wg x d a]

theorem Engine.wk_pair {i : Nat} (hi : i < 8) (x : Engine) (d : Nat) (a b r : Word) (l : List (Nat × Word)) :
    Engine.wk { (x.wg d a).wg (d + 1) b with gOld := l } i r = { (x.wg d a).wg (d + 1) b with k := Tab.set natLt 0 x.k i r, gOld := l } := by
  rw [Engine.wk_one hi, Engine.k_wg]

theorem exec_ldk_eq (s : State) : exec (.ldk e v) s = s.issue (rowOp 0x20) (fun x w e t =>
    if kIllegal w then .exc t 1 0
    else loadAt t e ⟨some (fD w), kSize w, !w.testBit 15, some (kNum w, x.ptrNext (kNum w) (kStep w)), none, (x.rkAddr 0 (kNum w)).toNat⟩
      v.dataErrs false) e v := rfl

/-- A legal pointer load: `y` is the engine after the load, the pointer apart. -/
theorem Stands.ldk (h : Stands s e w x) (hv : v.fetchErrs = 0) (hdv : v.dataErrs = 0) (ho : w / 2 ^ 26 = 0x20) {i j : Nat} {r : Word} {b : Bool}
    (hi : i = w / 2 ^ 18 % 8) (hj : w / 2 ^ 16 % 4 = j) (hd : d = w / 2 ^ 21 % 32) (hb : w.testBit 15 = b)
    (hlegal : (b = true → j < 2) ∧ (j = 3 → d % 2 = 0)) (hnext : x.ptrNext i (kStep w) = r) (ha : (x.rkAddr 0 i).toNat = m)
    (hm : Near s e m g u) (hal : m % 2 ^ j = 0) (hwide : m < 0x10000 ∨ 0x20000 ≤ m) (hgood : s.wordErr g = 0)
    (hwp : s.wpAt e m false = false) (hy : x.land (landingN d (2 ^ j) (!b) m) (s.load g (2 ^ j)) = y) :
    exec (.ldk e v) s = .next (u.issued e (y.wk i r)) := by
  rw [exec_ldk_eq]
  refine h.issue_loadAt hv (rowOp_names ho (by decide)) (Nat.and_zero w) (l := landingK d (2 ^ j) (!b) i r m) (resv := false)
    (execLdk_body hi hj hd hb hlegal hnext ha hdv) hm rfl rfl hal (by omega) (fun hno => absurd hno Bool.false_ne_true) hgood hwp ?_
  rw [Engine.land_moves (p := (i, r)) rfl, ← hy]
  rfl

/-- A pointer load into one register. -/
theorem Stands.ldk_one (h : Stands s e w x) (hv : v.fetchErrs = 0) (hdv : v.dataErrs = 0) (ho : w / 2 ^ 26 = 0x20) {i j : Nat} {a r : Word} {b : Bool}
    (hi : i = w / 2 ^ 18 % 8) (hj : w / 2 ^ 16 % 4 = j) (hsize : n = 2 ^ j) (hd : d = w / 2 ^ 21 % 32) (hb : w.testBit 15 = b)
    (hlow : b = true → j < 2) (hn : j ≠ 3) (hnext : x.ptrNext i (kStep w) = r) (ha : (x.rkAddr 0 i).toNat = m)
    (hm : Near s e m g u) (hal : m % n = 0) (hwide : m < 0x10000 ∨ 0x20000 ≤ m) (hgood : s.wordErr g = 0)
    (hwp : s.wpAt e m false = false) (hr : extend n (!b) (s.load g n) = a) : exec (.ldk e v) s = .next (u.issued e { x.wg d a with
      k := Tab.set natLt 0 x.k i r, gOld := [(d, Tab.get 0 x.g d)] }) := by
  have hne : n ≠ 8 := by
    rw [hsize, show (8 : Nat) = 2 ^ 3 from rfl]
    exact fun heq => hn (Nat.pow_right_injective (Nat.le_refl 2) heq)
  have hland : x.land (landingN d n (!b) m) (s.load g n) = { x.wg d a with gOld := [(d, Tab.get 0 x.g d)] } := by
    rw [Engine.land_one h.gOld rfl hne rfl, ← hr]
    rfl
  rw [hsize] at hal hland
  rw [h.ldk hv hdv ho hi hj hd hb ⟨hlow, fun h3 => absurd h3 hn⟩ hnext ha hm hal hwide hgood hwp hland,
    Engine.wk_one (hi ▸ Nat.mod_lt _ (by decide))]

/-- A word or pair with `U`. -/
theorem Stands.ldk_illegal (h : Stands s e w x) (hv : v.fetchErrs = 0) (ho : w / 2 ^ 26 = 0x20) (hj : 2 ≤ w / 2 ^ 16 % 4)
    (hb : w / 2 ^ 15 % 2 = 1) : exec (.ldk e v) s = .next (s.raiseExc e 1 0) := by
  have hbad : kIllegal w = true := by
    have hsize : 4 ≤ kSize w := by
      rw [kSize_eq rfl]
      exact Nat.pow_le_pow_right (show 0 < 2 by decide) hj
    rw [kIllegal, testBit_iff_div, decide_eq_true hb, decide_eq_true hsize]
    rfl
  rw [exec_ldk_eq]
  exact h.issue_exc hv (rowOp_names ho (by decide)) (Nat.and_zero w) (if_pos hbad)

/-! ### The obligation -/

/-- Settles O46: each load by `loadAt_near`, its bytes by `extend_signed`, `extend_unsigned` and `load_upper`; the TR_ block by
`trRead_setEng`. -/
theorem tramLoads : Obligations.TramLoads := by
  intro s u e w d m g y v x hst hv hx hd hy hwp
  have h := Stands.of hst hx
  have haddr : x.addrN w = (x.rg (w / 2 ^ 16 % 32) + BitVec.ofNat 32 y).toNat := Engine.addrN_eq hy x
  refine ⟨fun hm hdv hgood hnear => ?_, fun hm ho hout => ?_, fun hm ho hout => ?_, fun hm ho hout => ?_, fun hm ho hodd => ?_,
    fun hm ho hodd => ?_, fun hm ho hal hlow hg hgood hdv => ?_, fun t r hr hm ho hal h1 h2 hwpt => ?_, fun i b hi hb hm ho hal h1 => ?_,
    fun i q kb kl nx r hi hq hkb hkl hnx hr ho hm hdv hgood hnear => ?_, fun ho hj hb => ?_⟩
  · have ha : x.addrN w = m := haddr.trans hm.symm
    have hnear' : Near s e m g u := hnear
    have hone := byteSum_lt s g 1
    have htwo := byteSum_lt s g 2
    have hno : false = true → 0x400000 ≤ m := fun hno => absurd hno Bool.false_ne_true
    refine ⟨fun ho hw => ?_, fun ho hw => ?_, fun ho hw hal => ?_, fun ho hw hal => ?_, fun ho hal => ?_, fun ho hal hpair => ?_,
      fun ho hal hcrib => ?_, fun ho hal hcrib hpair => ?_⟩
    · rw [exec_ldB, execLdB]
      exact h.load_one hv hdv hd ha hnear' hgood hwp ho (by decide) (Nat.mod_one m) (by omega) hno (by decide) (extend_signed (.inl rfl) hone)
    · rw [exec_ldBu, execLdBu]
      exact h.load_one hv hdv hd ha hnear' hgood hwp ho (by decide) (Nat.mod_one m) (by omega) hno (by decide) (extend_unsigned hone)
    · rw [exec_ldH, execLdH]
      exact h.load_one hv hdv hd ha hnear' hgood hwp ho (by decide) hal (by omega) hno (by decide) (extend_signed (.inr rfl) htwo)
    · rw [exec_ldHu, execLdHu]
      exact h.load_one hv hdv hd ha hnear' hgood hwp ho (by decide) hal (by omega) hno (by decide) (extend_unsigned htwo)
    · rw [exec_ldW, execLdW]
      exact h.load_one hv hdv hd ha hnear' hgood hwp ho (by decide) hal (by omega) hno (by decide) (extend_word ..)
    · rw [exec_ldP, execLdP]
      exact h.load_pair hv hdv hd ha hnear' hgood hwp ho (by decide) hal hno hpair
    · rw [exec_ldrW, execLdrW]
      exact h.load_one hv hdv hd ha hnear' hgood hwp ho (by decide) hal (by omega) (fun _ => hcrib) (by decide) (extend_word ..)
    · rw [exec_ldrP, execLdrP]
      exact h.load_pair hv hdv hd ha hnear' hgood hwp ho (by decide) hal (fun _ => hcrib) hpair
  · have hnone : s.spaceOf e m 1 = none := by
      by_cases hlow : m < 0x30000
      · exact s.spaceOf_narrow e (by omega) hlow (by decide)
      · exact s.spaceOf_hole e (by omega)
    rw [exec_ldB, execLdB]
    exact h.load_nowhere hv ho (by decide) (haddr.trans hm.symm) (by decide) hnone true false
  · have hnone : s.spaceOf e m 4 = none := hout.elim (s.spaceOf_misaligned e) (s.spaceOf_hole e)
    rw [exec_ldW, execLdW]
    exact h.load_nowhere hv ho (by decide) (haddr.trans hm.symm) (by decide) hnone false false
  · rw [exec_ldrW, execLdrW]
    exact h.load_unlocked hv ho (by decide) (haddr.trans hm.symm) (by decide) hout false
  · rw [exec_ldP, execLdP]
    exact h.load_odd hv ho (by decide) hd hodd false false
  · rw [exec_ldrP, execLdrP]
    exact h.load_odd hv ho (by decide) hd hodd false true
  · rw [exec_ldW, execLdW]
    exact h.load_poison hv hdv ho (by decide) (haddr.trans hm.symm) hlow hg hal hgood (by decide) false
  · rw [exec_ldW, execLdW]
    exact h.load_regs hv ho (by decide) hd (haddr.trans hm.symm) hal h1 h2 hr hwpt false
  · subst hi hb
    refine ⟨fun hoff => ?_, fun hon => ?_⟩
    · rw [exec_ldW, execLdW]
      exact h.load_nowhere hv ho (by decide) (haddr.trans hm.symm) (by decide) (State.spaceOf_closed h1 hoff) false false
    · rw [exec_ldW, execLdW]
      exact h.load_aperture hv ho (by decide) hd (haddr.trans hm.symm) (State.spaceOf_open h1 hal hon) hwp
  · have hi8 : i < 8 := hi ▸ Nat.mod_lt _ (by decide)
    have hnext : x.ptrNext i (kStep w) = r := Engine.ptrNext_eq h.kOld hi8 _ hkb hkl (by rw [hnx, hq, kStep_eq]) hr
    have ha : (x.rkAddr 0 i).toNat = m := by
      rw [Engine.rkAddr_noGap h.kOld, Nat.zero_mul, Nat.zero_add, Nat.mod_eq_of_lt hi8, ← hq, hm]
    have hnear' : Near s e m g u := hnear.imp_right .inr
    have hwide : m < 0x10000 ∨ 0x20000 ≤ m := by omega
    have hone := byteSum_lt s g 1
    have htwo := byteSum_lt s g 2
    have hext {n : Nat} (hn : n = 1 ∨ n = 2) (hlt : s.load g n < 2 ^ (8 * n)) : extend n (!w.testBit 15) (s.load g n) =
        if w / 2 ^ 15 % 2 = 1 then BitVec.ofNat 32 (s.load g n) else (BitVec.ofNat (8 * n) (s.load g n)).signExtend 32 := by
      rw [testBit_iff_div]
      by_cases hb : w / 2 ^ 15 % 2 = 1
      · rw [if_pos hb, decide_eq_true hb]
        exact extend_unsigned hlt
      · rw [if_neg hb, decide_eq_false hb]
        exact extend_signed hn hlt
    have hoff (hu : w / 2 ^ 15 % 2 = 0) : w.testBit 15 = false := by rw [testBit_iff_div, hu]; rfl
    refine ⟨fun hj => ?_, fun hj hal => ?_, fun hj hal hu => ?_, fun hj hal hu hpair => ?_⟩
    · exact h.ldk_one hv hdv ho hi hj rfl hd rfl (fun _ => by decide) (by decide) hnext ha hnear' (Nat.mod_one m) hwide hgood hwp (hext (.inl rfl) hone)
    · exact h.ldk_one hv hdv ho hi hj rfl hd rfl (fun _ => by decide) (by decide) hnext ha hnear' hal hwide hgood hwp (hext (.inr rfl) htwo)
    · exact h.ldk_one hv hdv ho hi hj rfl hd (hoff hu) (fun hno => absurd hno Bool.false_ne_true) (by decide) hnext ha hnear' hal hwide hgood hwp
        (extend_word ..)
    · rw [h.ldk hv hdv ho hi hj hd (hoff hu) ⟨fun hno => absurd hno Bool.false_ne_true, fun _ => hpair⟩ hnext ha hnear' hal hwide
        hgood hwp (Engine.land_pair (d := d) h.gOld rfl rfl rfl s g), Engine.wk_pair hi8]
  · exact h.ldk_illegal hv ho hj hb

end Sys2Proof.Machine
end

section
/-! PROOF. Tram stores (O47; 17 R448 to R450, R461; 16 R413, R421, R422). -/

namespace Sys2Proof.Machine

variable {s t u : State} {e w d m g n k op z : Nat} {v : TramView} {x y : Engine} {a b : Word} {move : Engine → Engine}

/-! ### What a store does to the engines (16 R422) -/

theorem State.eng_setEng_ne (h : k ≠ e) (s : State) (x : Engine) : (s.setEng e x).eng k = s.eng k := Tab.get_set_ne (k := e) (k' := k) _ _ _ _ _ h

/-- Reservations on a granule of a crib end, the first `j` members of the crew so far. -/
theorem State.eng_clearResv_foldl (s : State) (c r j e : Nat) (hj : j ≤ 8) :
    ((List.range j).foldl (fun s m => if (s.eng (8 * c + m)).resv = some r then s.updEng (8 * c + m) (fun x => { x with resv := none }) else s) s).eng e =
      if e / 8 = c ∧ e % 8 < j ∧ (s.eng e).resv = some r then { s.eng e with resv := none } else s.eng e := by
  induction j with
  | zero => rw [if_neg (by omega)]; rfl
  | succ j ih =>
    have ih := ih (by omega)
    rw [List.range_succ, List.foldl_append, List.foldl_cons, List.foldl_nil]
    generalize (List.range j).foldl (fun s m => if (s.eng (8 * c + m)).resv = some r then s.updEng (8 * c + m) (fun x => { x with resv := none })
      else s) s = t at ih
    by_cases he : e = 8 * c + j
    · have hsame : t.eng e = s.eng e := by rw [ih, if_neg (by omega)]
      rw [← he, hsame]
      by_cases hr : (s.eng e).resv = some r
      · rw [if_pos hr, if_pos ⟨by omega, by omega, hr⟩, State.updEng, State.eng_setEng_same, hsame]
      · rw [if_neg hr, if_neg (by simp [hr]), hsame]
    · have hother : (if (t.eng (8 * c + j)).resv = some r then t.updEng (8 * c + j) (fun x => { x with resv := none }) else t).eng e = t.eng e := by
        split
        · exact State.eng_setEng_ne he t _
        · rfl
      have hlt : (e / 8 = c ∧ e % 8 < j + 1 ∧ (s.eng e).resv = some r) ↔ (e / 8 = c ∧ e % 8 < j ∧ (s.eng e).resv = some r) := by
        constructor
        · rintro ⟨h1, h2, h3⟩
          exact ⟨h1, by omega, h3⟩
        · rintro ⟨h1, h2, h3⟩
          exact ⟨h1, by omega, h3⟩
      rw [hother, ih]
      simp only [hlt]

/-- The engine after the end of the reservations on a granule. -/
theorem State.eng_clearResv (s : State) (g e : Nat) : (s.clearResv g).eng e =
    if inCrib g = true ∧ e / 8 = (g - 0x010004000000) / 0x200000 ∧ (s.eng e).resv = some (g % 0x200000 / 8) then { s.eng e with resv := none }
    else s.eng e := by
  rw [State.clearResv]
  by_cases hc : inCrib g = true
  · rw [if_pos hc]
    refine (State.eng_clearResv_foldl s _ _ 8 e (Nat.le_refl 8)).trans ?_
    have hiff : (e / 8 = (g - 0x010004000000) / 0x200000 ∧ e % 8 < 8 ∧ (s.eng e).resv = some (g % 0x200000 / 8)) ↔
        (inCrib g = true ∧ e / 8 = (g - 0x010004000000) / 0x200000 ∧ (s.eng e).resv = some (g % 0x200000 / 8)) := by
      have hlt : e % 8 < 8 := Nat.mod_lt _ (by decide)
      simp [hc, hlt]
    simp only [hiff]
  · rw [if_neg hc, if_neg (fun h => hc h.1)]

theorem State.clearResv_regs (s : State) (g : Nat) : (s.clearResv g).regs = s.regs := by
  rw [State.clearResv]
  split
  · generalize List.range 8 = l
    induction l generalizing s with
    | nil => rfl
    | cons m l ih =>
      rw [List.foldl_cons, ih]
      dsimp only
      split <;> rfl
  · rfl

theorem State.store_tram (s : State) (g z n : Nat) : (s.store g z n).tram = s.tram ∧ (s.store g z n).regs = s.regs := by
  rw [State.store]
  generalize List.range z = l
  induction l generalizing s with
  | nil => exact ⟨rfl, rfl⟩
  | cons i l ih =>
    rw [List.foldl_cons]
    exact ih _

theorem State.checkWord_eng (s : State) (g c src e : Nat) : (s.checkWord g c src).2.eng e = s.eng e := by
  dsimp only [State.checkWord]
  split_ifs <;> simp only [State.eng_markErr]

/-- The fields that count and record an error of a word. -/
def wordErrFields : List Fld := [TR_CRIB_ECC.UE_COUNT, TR_CRIB_ECC.CE_COUNT, TR_CRIB_ECC.LAST_WORD, TR_CRIB_ECC.LAST_UE, TR_CRIB_ECC.LAST_SRC,
  TR_MEM_ECC.UE_COUNT, TR_MEM_ECC.CE_COUNT, TR_MEM_ECC.LAST_WORD, TR_MEM_ECC.LAST_IMEM, TR_MEM_ECC.LAST_UE]

theorem State.rd_markErr {f : Fld} (hf : ∀ h ∈ wordErrFields, f.id ≠ h.id) (s : State) (g c : Nat) (ue : Bool) (src i j : Nat) :
    ((s.setWordErr g c).countErr g ue src).rd f i j = s.rd f i j := by
  have hne {h : Fld} (hh : h ∈ wordErrFields) : f.id ≠ h.id := hf h hh
  rw [State.countErr]
  split
  · rw [State.rd_wr_other _ (hne (by simp [wordErrFields])), State.rd_put_other (hne (by simp [wordErrFields])),
      State.rd_wr_other _ (hne (by simp [wordErrFields])), State.rd_count_other (by cases ue <;> exact hne (by simp [wordErrFields]))]
    rfl
  · rw [State.rd_put_other (hne (by simp [wordErrFields])), State.rd_put_other (hne (by simp [wordErrFields])),
      State.rd_wr_other _ (hne (by simp [wordErrFields])), State.rd_count_other (by cases ue <;> exact hne (by simp [wordErrFields]))]
    rfl

theorem State.rd_checkWord {f : Fld} (hf : ∀ h ∈ wordErrFields, f.id ≠ h.id) (s : State) (g c src i j : Nat) :
    (s.checkWord g c src).2.rd f i j = s.rd f i j := by
  dsimp only [State.checkWord]
  split_ifs <;> simp only [State.rd_markErr hf]

/-- The engine and the registers after a store: only a reservation may end. -/
theorem State.memStore_keeps (s : State) (g z n errs src : Nat) (poison : Bool) (e : Nat) :
    (∃ r, (s.memStore g z n errs src poison).eng e = { s.eng e with resv := r }) ∧
    ∀ f : Fld, (∀ h ∈ wordErrFields, f.id ≠ h.id) → ∀ i j, (s.memStore g z n errs src poison).rd f i j = s.rd f i j := by
  have hpair : ∃ bad t, (if z = 8 then (false, s) else s.checkWord g errs src) = (bad, t) ∧ t.eng e = s.eng e ∧
      ∀ f : Fld, (∀ h ∈ wordErrFields, f.id ≠ h.id) → ∀ i j, t.rd f i j = s.rd f i j := by
    by_cases hz : z = 8
    · exact ⟨_, _, if_pos hz, rfl, fun _ _ _ _ => rfl⟩
    · exact ⟨_, _, if_neg hz, State.checkWord_eng .., fun f hf i j => State.rd_checkWord hf ..⟩
  obtain ⟨bad, t, hbt, heng, hrd⟩ := hpair
  obtain ⟨htram, hregs⟩ := t.store_tram g z n
  have hstored : ((t.store g z n).setWordErr g (if bad || poison then 2 else 0)).eng e = s.eng e := by
    rw [← heng]
    exact congrArg (fun m => Tab.get Engine.cold m.engines e) htram
  rw [State.memStore, hbt]
  dsimp only
  constructor
  · rw [State.eng_clearResv, hstored]
    split
    · exact ⟨_, rfl⟩
    · exact ⟨_, rfl⟩
  · intro f hf i j
    rw [← hrd f hf, State.rd, State.clearResv_regs]
    exact congrArg (fun l => Tab.get (f.coldAt i j) l ⟨f.id, i, j⟩) hregs

theorem State.engStore_keeps (s : State) (g z n errs e : Nat) : (∃ r, (s.engStore g z n errs).eng e = { s.eng e with resv := r }) ∧
    ∀ f : Fld, (∀ h ∈ wordErrFields, f.id ≠ h.id) → ∀ i j, (s.engStore g z n errs).rd f i j = s.rd f i j :=
  s.memStore_keeps g z n errs 0 false e

/-! ### Stores (17 R448) -/

theorem Near.eng (h : Near s e m g u) : u.eng e = s.eng e := by
  obtain ⟨-, -, rfl⟩ | ⟨-, -, -, rfl⟩ | ⟨-, -, -, rfl⟩ := h <;> rfl

/-- A store of the engine `y` that goes on to the next word: where it stands, and `STEP`. -/
theorem Resumes.engStore (hy : y.place = x.place) (hstep : u.on TR_DBG_CTRL.STEP e = s.on TR_DBG_CTRL.STEP e) (g z n errs : Nat) :
    Resumes s e x ((u.setEng e y).engStore g z n errs) := by
  obtain ⟨⟨r, hr⟩, hrd⟩ := (u.setEng e y).engStore_keeps g z n errs e
  constructor
  · rw [hr, State.eng_setEng_same]
    exact hy
  · rw [State.on, hrd _ (by decide), ← hstep]
    rfl

/-- An instruction that leaves the engine at its place and goes on to the next word. -/
theorem Stands.issue_resumes {r : TramRow} {body : Body} (h : Stands s e w x) (hv : v.fetchErrs = 0) (hrow : rowNames r w = true)
    (hz : w &&& r.zero = 0) (hbody : body x w e (s.setEng e x) = .done t .next) (ht : Resumes s e x t) :
    s.issue r body e v = .next (t.issued e (t.eng e)) := by
  rw [h.issue hv hrow hz, hbody, State.finishIssue, h.retire_next rfl ht.1 ht.2]

/-- Where a store may go besides the instruction memory. -/
def NearData (s : State) (e m g : Nat) (u : State) : Prop :=
  (m < 0x10000 ∧ g = 0x010005010000 + e * 0x40000 + m ∧ u = s) ∨
    (0x400000 ≤ m ∧ m < 0x600000 ∧ g = 0x010004000000 + e / 8 * 0x200000 + m % 0x200000 ∧ u = s.ungate 1 (e / 8 * 16 + m / 8 % 16))

theorem NearData.step (h : NearData s e m g u) : u.on TR_DBG_CTRL.STEP e = s.on TR_DBG_CTRL.STEP e :=
  Near.step (m := m) (g := g) (h.imp_right .inr)

/-- What a store to the data memory or the own crib does. -/
theorem storeAt_near (hm : NearData s e m g u) (hal : m % z = 0) (hwp : s.wpAt e m true = false) (errs : Nat) (sync : Bool) :
    storeAt (s.setEng e x) e m z n errs sync move = .done ((u.setEng e (move x)).engStore g z n errs) .next := by
  have hwatch : ((s.setEng e x).watch e m true).updEng e move = s.setEng e (move x) := by
    rw [State.watch_none (by rw [State.wpAt_setEng, hwp]), State.updEng_setEng]
  obtain ⟨h1, hg, rfl⟩ | ⟨h1, h2, hg, rfl⟩ := hm
  · rw [storeAt, State.spaceOf_dmem hal _ _ h1, ← hg]
    dsimp only
    rw [hwatch]
  · have hbank : (s.setEng e (move x)).useBank g = (s.ungate 1 (e / 8 * 16 + m / 8 % 16)).setEng e (move x) :=
      State.useBank_crib (s.setEng e (move x)) e hg
    rw [storeAt, State.spaceOf_crib hal _ _ h1 h2, ← hg]
    dsimp only
    rw [hwatch, hbank]

theorem Engine.storeData_word (x : Engine) (d : Nat) : x.storeData d 4 = (x.rg d).toNat := Nat.mod_eq_of_lt (x.rg d).isLt

/-- A store in format N goes where its address leads. -/
theorem stBody_eq (hd : d = w / 2 ^ 21 % 32) (ha : x.addrN w = m) (hpair : z = 8 → d % 2 = 0) (sync : Bool) :
    stBody z sync v x w e t = storeAt t e m z (x.storeData d z) v.dataErrs sync id := by
  rw [stBody, fD_eq, ← hd, ha, if_neg (by omega)]

section

variable (h : Stands s e w x) (hv : v.fetchErrs = 0) (ho : w / 2 ^ 26 = op) (hlt : op < 64)
include h hv ho hlt

/-- A store in format N to the data memory or the own crib. -/
theorem Stands.store (hd : d = w / 2 ^ 21 % 32) (ha : x.addrN w = m) (hm : NearData s e m g u) (hal : m % z = 0)
    (hwp : s.wpAt e m true = false) (hpair : z = 8 → d % 2 = 0) (sync : Bool) (hn : x.storeData d z = n)
    (ht : t = (u.setEng e x).engStore g z n v.dataErrs) : s.issue (rowOp op) (stBody z sync v) e v = .next (t.issued e (t.eng e)) := by
  refine h.issue_resumes hv (rowOp_names ho hlt) (Nat.and_zero w) ?_ (ht ▸ Resumes.engStore rfl hm.step g z n v.dataErrs)
  rw [stBody_eq hd ha hpair, hn, storeAt_near hm hal hwp, ht]
  rfl

/-- A store to instruction memory: the fetch sees the old word for three instructions (R461). -/
theorem Stands.store_imem (hd : d = w / 2 ^ 21 % 32) (ha : x.addrN w = m) (h1 : 0x10000 ≤ m) (h2 : m < 0x20000)
    (hg : g = 0x010005000000 + e * 0x40000 + m % 0x10000) (hal : m % 4 = 0) (hwp : s.wpAt e m true = false)
    (ht : t = (s.setEng e x).engStore g 4 (x.rg d).toNat v.dataErrs) :
    s.issue (rowOp op) (stBody 4 false v) e v = .next (t.issued e { t.eng e with imemOld := [(3, m % 0x10000 / 4, s.load g 4)] }) := by
  obtain ⟨hplace, hstep⟩ : Resumes s e x t := ht ▸ Resumes.engStore rfl rfl g 4 (x.rg d).toNat v.dataErrs
  obtain ⟨⟨r, hr⟩, -⟩ := (s.setEng e x).engStore_keeps g 4 (x.rg d).toNat v.dataErrs e
  have hnone : (t.eng e).imemOld = [] := by
    rw [ht, hr, State.eng_setEng_same]
    exact h.imemOld
  have hlow : g % 0x10000 = m % 0x10000 := by omega
  have hword : imemBase e + m % 0x10000 / 4 * 4 + 4 * 0 = g := by
    rw [imemBase]
    omega
  have hwords : (s.setEng e x).oldWords e g 4 = [(3, m % 0x10000 / 4, s.load g 4)] := by
    rw [State.oldWords, hlow, show List.range (4 / 4) = [0] from rfl, List.map_cons, List.map_nil, hword]
    rfl
  refine h.issue_next hv (rowOp_names ho hlt) (Nat.and_zero w) (u := t) ?_ hplace hstep
  rw [stBody_eq hd ha (fun h8 => absurd h8 (by decide)), storeAt, State.spaceOf_imem hal _ _ h1 h2 (by decide), ← hg]
  dsimp only
  rw [State.watch_none (by rw [State.wpAt_setEng, hwp]), State.updEng_setEng, Engine.storeData_word, hwords, id, ← ht, State.updEng, hnone]
  rfl

/-- A store to the own TR_ block waits two slots (16 R413). -/
theorem Stands.store_regs (hd : d = w / 2 ^ 21 % 32) (ha : x.addrN w = m) (h1 : 0x20000 ≤ m) (h2 : m < 0x30000) (hal : m % 4 = 0)
    (hwp : s.wpAt e m true = false) : s.issue (rowOp op) (stBody 4 false v) e v =
      .next (s.issued e { x with stores := [(2, m % 0x10000, 4, (x.rg d).toNat)] }) := by
  refine h.issue_next hv (rowOp_names ho hlt) (Nat.and_zero w) (u := s) (y := { x with stores := [(2, m % 0x10000, 4, (x.rg d).toNat)] }) ?_ rfl rfl
  rw [stBody_eq hd ha (fun h8 => absurd h8 (by decide)), storeAt, State.spaceOf_regs hal _ _ h1 h2 (by decide)]
  dsimp only
  rw [State.watch_none (by rw [State.wpAt_setEng, hwp]), State.updEng_setEng, State.updEng_setEng, id, h.stores, Engine.storeData_word]
  rfl

/-- A posted store through an aperture. -/
theorem Stands.store_posted (hd : d = w / 2 ^ 21 % 32) (ha : x.addrN w = m) {p : Nat} (hsp : s.spaceOf e m 4 = some (.aperture p))
    (hwp : s.wpAt e m true = false)
    (ht : t = (s.setEng e { x with wait := some .accept }).request ⟨653 + e / 8, some e, p, 4, 2, (x.rg d).toNat, false, 0⟩) :
    s.issue (rowOp op) (stBody 4 false v) e v = .next (t.issued e (t.eng e)) := by
  have hsp' : (s.setEng e x).spaceOf e m 4 = some (.aperture p) := hsp
  refine h.issue_posted hv (rowOp_names ho hlt) (Nat.and_zero w) rfl rfl (y := { x with wait := some .accept }) rfl (.inr rfl) ht ?_
  rw [stBody_eq hd ha (fun h8 => absurd h8 (by decide)), storeAt, hsp']
  dsimp only
  rw [State.watch_none (by rw [State.wpAt_setEng, hwp]), State.updEng_setEng, if_neg Bool.false_ne_true, State.updEng_setEng,
    Engine.storeData_word, ht]
  rfl

/-- A sync store through an aperture. -/
theorem Stands.store_sync (hd : d = w / 2 ^ 21 % 32) (ha : x.addrN w = m) {p : Nat} (hsp : s.spaceOf e m 4 = some (.aperture p))
    (hwp : s.wpAt e m true = false) : s.issue (rowOp op) (stBody 4 true v) e v =
      .next ((s.setEng e { x with wait := some (.answer ⟨none, 4, false, none, none, m⟩ none) }).request
        ⟨653 + e / 8, some e, p, 4, 1, (x.rg d).toNat, false, 0⟩) := by
  have hsp' : (s.setEng e x).spaceOf e m 4 = some (.aperture p) := hsp
  have hbody : stBody 4 true v x w e (s.setEng e x) = .frozen
      ((s.setEng e { x with wait := some (.answer ⟨none, 4, false, none, none, m⟩ none) }).request
        ⟨653 + e / 8, some e, p, 4, 1, (x.rg d).toNat, false, 0⟩) := by
    rw [stBody_eq hd ha (fun h8 => absurd h8 (by decide)), storeAt, hsp']
    dsimp only
    rw [State.watch_none (by rw [State.wpAt_setEng, hwp]), State.updEng_setEng, State.updEng_setEng, Engine.storeData_word]
    rfl
  rw [h.issue hv (rowOp_names ho hlt) (Nat.and_zero w), hbody]
  rfl

/-- A store whose address leads nowhere. -/
theorem Stands.store_nowhere (ha : x.addrN w = m) (hn : z ≠ 8) (hnone : s.spaceOf e m z = none) (sync : Bool) :
    s.issue (rowOp op) (stBody z sync v) e v = .next (s.raiseExc e 2 m) := by
  refine h.issue_exc hv (rowOp_names ho hlt) (Nat.and_zero w) ?_
  have hnone' : (s.setEng e x).spaceOf e m z = none := hnone
  rw [stBody_eq rfl ha (fun h8 => absurd h8 hn), storeAt, hnone']

/-- A store of an odd pair. -/
theorem Stands.store_odd (hd : d = w / 2 ^ 21 % 32) (hodd : d % 2 = 1) (sync : Bool) :
    s.issue (rowOp op) (stBody 8 sync v) e v = .next (s.raiseExc e 1 0) :=
  h.issue_exc hv (rowOp_names ho hlt) (Nat.and_zero w) (if_pos ⟨rfl, by rw [fD_eq, ← hd]; exact hodd⟩)

end

/-! ### Store-conditionals (16 R421, 17 R450) -/

/-- The address of format C. -/
theorem Engine.addrC_eq {o : Nat} (ho : o = if w % 2 ^ 11 < 2 ^ 10 then w % 2 ^ 11 else w % 2 ^ 11 + 2 ^ 32 - 2 ^ 11) (x : Engine) :
    x.addrC w = (x.rg (w / 2 ^ 16 % 32) + BitVec.ofNat 32 o).toNat := by
  have hoff : BitVec.ofInt 32 (sextN 11 (bitsOf w 0 11)) = BitVec.ofNat 32 o := by
    have hlow : bitsOf w 0 11 = w % 2 ^ 11 := by rw [bitsOf_eq, Nat.pow_zero, Nat.div_one]
    have hlt : w % 2 ^ 11 < 2 ^ 11 := Nat.mod_lt _ (Nat.two_pow_pos 11)
    rw [hlow, ho]
    generalize w % 2 ^ 11 = i at hlt
    have hbit : i.testBit 10 = decide (2 ^ 10 ≤ i) := by
      rw [testBit_iff_div, decide_eq_decide]
      omega
    apply BitVec.eq_of_toNat_eq
    simp only [sextN, hbit, BitVec.toNat_ofInt, BitVec.toNat_ofNat, decide_eq_true_eq]
    split_ifs <;> omega
  rw [Engine.addrC, fS_eq, hoff]

/-- The engine after a store-conditional: rd has 1 or 0 with one slot, and the reservation ends. -/
def Engine.conditional (x : Engine) (d : Nat) (hit : Word) : Engine := { x.wg d hit with gOld := [(d, Tab.get 0 x.g d)], resv := none }

/-- What a store-conditional to the own crib does. -/
theorem stcBody_eq (h : Stands s e w x) (ha : x.addrC w = m) (hd : d = w / 2 ^ 21 % 32) (hr : k = w / 2 ^ 11 % 32) (h1 : 0x400000 ≤ m) (h2 : m < 0x600000)
    (hg : g = 0x010004000000 + e / 8 * 0x200000 + m % 0x200000) (hal : m % z = 0) (hpair : z = 8 → k % 2 = 0) (hwp : s.wpAt e m true = false) :
    stcBody z v x w e (s.setEng e x) = .done
      (if x.resv = some (m % 0x200000 / 8) then
        ((s.ungate 1 (e / 8 * 16 + m / 8 % 16)).setEng e (x.conditional d 1)).engStore g z (x.storeData k z) v.dataErrs
       else (s.ungate 1 (e / 8 * 16 + m / 8 % 16)).setEng e (x.conditional d 0)) .next := by
  have hbank : (s.setEng e x).useBank g = (s.ungate 1 (e / 8 * 16 + m / 8 % 16)).setEng e x := State.useBank_crib (s.setEng e x) e hg
  have hlate (i : Word) : ({ x.wgLate d i with resv := none } : Engine) = x.conditional d i := by
    rw [Engine.wgLate_of_noGap h.gOld]
    rfl
  rw [stcBody, ha, fT_eq, ← hr, fD_eq, ← hd, if_neg (by omega), State.spaceOf_crib hal _ _ h1 h2, ← hg]
  dsimp only
  rw [hbank, crib_granule hg, State.updEng_setEng]
  by_cases hres : x.resv = some (m % 0x200000 / 8)
  · rw [decide_eq_true hres, if_pos rfl, if_pos hres, if_pos rfl, hlate,
      State.watch_none (by rw [State.wpAt_setEng, State.wpAt_ungate, hwp])]
  · rw [decide_eq_false hres, if_neg Bool.false_ne_true, if_neg hres, if_neg Bool.false_ne_true, hlate]

section

variable (h : Stands s e w x) (hv : v.fetchErrs = 0) (ho : w / 2 ^ 26 = op) (hlt : op < 64) (ha : x.addrC w = m)
include h hv ho hlt ha

theorem Stands.stc_hit (hd : d = w / 2 ^ 21 % 32) (hr : k = w / 2 ^ 11 % 32) (h1 : 0x400000 ≤ m) (h2 : m < 0x600000)
    (hg : g = 0x010004000000 + e / 8 * 0x200000 + m % 0x200000) (hu : u = s.ungate 1 (e / 8 * 16 + m / 8 % 16)) (hal : m % z = 0)
    (hpair : z = 8 → k % 2 = 0) (hwp : s.wpAt e m true = false) (hres : x.resv = some (m % 0x200000 / 8)) (hn : x.storeData k z = n)
    (ht : t = (u.setEng e (x.conditional d 1)).engStore g z n v.dataErrs) :
    s.issue (rowOp op) (stcBody z v) e v = .next (t.issued e (t.eng e)) := by
  have hm : NearData s e m g u := .inr ⟨h1, h2, hg, hu⟩
  refine h.issue_resumes hv (rowOp_names ho hlt) (Nat.and_zero w) ?_ (ht ▸ Resumes.engStore (y := x.conditional d 1) ?_ hm.step g z n v.dataErrs)
  · rw [stcBody_eq h ha hd hr h1 h2 hg hal hpair hwp, if_pos hres, ← hu, hn, ht]
  · exact Engine.place_wg ..

theorem Stands.stc_miss (hd : d = w / 2 ^ 21 % 32) (hr : k = w / 2 ^ 11 % 32) (h1 : 0x400000 ≤ m) (h2 : m < 0x600000)
    (hg : g = 0x010004000000 + e / 8 * 0x200000 + m % 0x200000) (hu : u = s.ungate 1 (e / 8 * 16 + m / 8 % 16)) (hal : m % z = 0)
    (hpair : z = 8 → k % 2 = 0) (hwp : s.wpAt e m true = false) (hres : x.resv ≠ some (m % 0x200000 / 8)) :
    s.issue (rowOp op) (stcBody z v) e v = .next (u.issued e (x.conditional d 0)) := by
  have hm : NearData s e m g u := .inr ⟨h1, h2, hg, hu⟩
  refine h.issue_next hv (rowOp_names ho hlt) (Nat.and_zero w) (u := u) ?_ (Engine.place_wg ..) hm.step
  rw [stcBody_eq h ha hd hr h1 h2 hg hal hpair hwp, if_neg hres, ← hu]

/-- A store-conditional outside the crib. -/
theorem Stands.stc_nowhere (hn : z ≠ 8) (hout : m % z ≠ 0 ∨ m < 0x400000 ∨ 0x600000 ≤ m) :
    s.issue (rowOp op) (stcBody z v) e v = .next (s.raiseExc e 2 m) := by
  refine h.issue_exc hv (rowOp_names ho hlt) (Nat.and_zero w) ?_
  rw [stcBody, ha, if_neg (by omega)]
  cases hsp : (s.setEng e x).spaceOf e m z with
  | none => rfl
  | some sp =>
    cases sp with
    | crib p =>
      obtain hal | hout := hout
      · rw [State.spaceOf_misaligned _ e hal] at hsp
        cases hsp
      · exact absurd hsp (State.spaceOf_notCrib _ e p hout)
    | _ => rfl

end

/-! ### Pointer stores (17 R449) -/

theorem exec_stk_eq (s : State) : exec (.stk e v) s = s.issue (rowOp 0x21) (fun x w e t =>
    if kIllegal w then .exc t 1 0
    else storeAt t e (x.rkAddr 0 (kNum w)).toNat (kSize w) (x.storeData (fD w) (kSize w)) v.dataErrs false
      (fun y => y.wk (kNum w) (x.ptrNext (kNum w) (kStep w)))) e v := rfl

/-- A legal pointer store. -/
theorem Stands.stk (h : Stands s e w x) (hv : v.fetchErrs = 0) (ho : w / 2 ^ 26 = 0x21) {i j : Nat} {r : Word} (hi : i = w / 2 ^ 18 % 8)
    (hj : w / 2 ^ 16 % 4 = j) (hsize : z = 2 ^ j) (hd : d = w / 2 ^ 21 % 32) (hlegal : (w.testBit 15 = true → j < 2) ∧ (j = 3 → d % 2 = 0))
    (hnext : x.ptrNext i (kStep w) = r) (ha : (x.rkAddr 0 i).toNat = m) (hm : NearData s e m g u) (hal : m % z = 0)
    (hwp : s.wpAt e m true = false) (hn : x.storeData d z = n)
    (ht : t = (u.setEng e { x with k := Tab.set natLt 0 x.k i r }).engStore g z n v.dataErrs) :
    exec (.stk e v) s = .next (t.issued e (t.eng e)) := by
  have hmove : x.wk i r = { x with k := Tab.set natLt 0 x.k i r } := by rw [Engine.wk, kKey_pointer (hi ▸ Nat.mod_lt _ (by decide))]
  rw [exec_stk_eq]
  refine h.issue_resumes hv (rowOp_names ho (by decide)) (Nat.and_zero w) ?_
    (ht ▸ Resumes.engStore (y := { x with k := Tab.set natLt 0 x.k i r }) rfl hm.step g z n v.dataErrs)
  rw [if_neg (by rw [kIllegal_legal hj hd rfl hlegal]; exact Bool.false_ne_true), fD_eq, ← hd, kNum_eq, ← hi, kSize_eq hj, ← hsize, hnext, ha, hn,
    storeAt_near hm hal hwp, hmove, ht]

/-! ### The obligation -/

/-- Settles O47: each store by `storeAt_near` and `engStore_keeps`. -/
theorem tramStores : Obligations.TramStores := by
  intro s u e w d m g y v x a b hst hv hx hd hy hwp ha hb
  have h := Stands.of hst hx
  have haddr : x.addrN w = (x.rg (w / 2 ^ 16 % 32) + BitVec.ofNat 32 y).toNat := Engine.addrN_eq hy x
  subst ha hb
  refine ⟨fun t hm hnear => ?_, fun t hm h1 h2 hg hal ho ht => ?_, fun hm h1 h2 hal ho => ?_, fun i k t hm hi hk hal h1 hon => ?_,
    fun hm ho hout => ?_, fun hm ho hout => ?_, fun ho hodd => ?_, fun o r t hm hoff hr h1 h2 hg hu => ?_, fun o hm hoff ho hout => ?_,
    fun i q kb kl nx r t hi hq hkb hkl hnx hr ho hm hnear => ?_⟩
  · have haw : x.addrN w = m := haddr.trans hm.symm
    have hnear' : NearData s e m g u := hnear
    have hno (hn : (4 : Nat) = 8) : d % 2 = 0 := absurd hn (by decide)
    refine ⟨fun ho ht => ?_, fun ho hal ht => ?_, fun ho hal ht => ?_, fun ho hal hpair ht => ?_, fun ho hal ht => ?_, fun ho hal hpair ht => ?_⟩
    · rw [exec_stB, execStB]
      exact h.store hv ho (by decide) hd haw hnear' (Nat.mod_one m) hwp (fun hn => absurd hn (by decide)) false rfl ht
    · rw [exec_stH, execStH]
      exact h.store hv ho (by decide) hd haw hnear' hal hwp (fun hn => absurd hn (by decide)) false rfl ht
    · rw [exec_stW, execStW]
      exact h.store hv ho (by decide) hd haw hnear' hal hwp hno false (x.storeData_word d) ht
    · rw [exec_stP, execStP]
      exact h.store hv ho (by decide) hd haw hnear' hal hwp (fun _ => hpair) false rfl ht
    · rw [exec_stsW, execStsW]
      exact h.store hv ho (by decide) hd haw hnear' hal hwp hno true (x.storeData_word d) ht
    · rw [exec_stsP, execStsP]
      exact h.store hv ho (by decide) hd haw hnear' hal hwp (fun _ => hpair) true rfl ht
  · rw [exec_stW, execStW]
    exact h.store_imem hv ho (by decide) hd (haddr.trans hm.symm) h1 h2 hg hal hwp ht
  · rw [exec_stW, execStW]
    exact h.store_regs hv ho (by decide) hd (haddr.trans hm.symm) h1 h2 hal hwp
  · subst hi hk
    refine ⟨fun ho ht => ?_, fun ho ht => ?_⟩
    · rw [exec_stW, execStW]
      exact h.store_posted hv ho (by decide) hd (haddr.trans hm.symm) (State.spaceOf_open h1 hal hon) hwp ht
    · rw [exec_stsW, execStsW, ht]
      exact h.store_sync hv ho (by decide) hd (haddr.trans hm.symm) (State.spaceOf_open h1 hal hon) hwp
  · have hnone : s.spaceOf e m 4 = none := hout.elim (s.spaceOf_misaligned e) (s.spaceOf_hole e)
    rw [exec_stW, execStW]
    exact h.store_nowhere hv ho (by decide) (haddr.trans hm.symm) (by decide) hnone false
  · have hnone : s.spaceOf e m 1 = none := by
      by_cases hlow : m < 0x30000
      · exact s.spaceOf_narrow e (by omega) hlow (by decide)
      · exact s.spaceOf_hole e (by omega)
    rw [exec_stB, execStB]
    exact h.store_nowhere hv ho (by decide) (haddr.trans hm.symm) (by decide) hnone false
  · rw [exec_stP, execStP]
    exact h.store_odd hv ho (by decide) hd hodd false
  · have hac : x.addrC w = m := (Engine.addrC_eq hoff x).trans hm.symm
    have hno (hn : (4 : Nat) = 8) : r % 2 = 0 := absurd hn (by decide)
    refine ⟨fun ho hal hres ht => ?_, fun ho hal hres => ?_, fun ho hal hpair hres ht => ?_, fun ho hal hpair hres => ?_⟩
    · rw [exec_stcW, execStcW]
      exact h.stc_hit hv ho (by decide) hac hd hr h1 h2 hg hu hal hno hwp hres (x.storeData_word r) ht
    · rw [exec_stcW, execStcW]
      exact h.stc_miss hv ho (by decide) hac hd hr h1 h2 hg hu hal hno hwp hres
    · rw [exec_stcP, execStcP]
      exact h.stc_hit hv ho (by decide) hac hd hr h1 h2 hg hu hal (fun _ => hpair) hwp hres rfl ht
    · rw [exec_stcP, execStcP]
      exact h.stc_miss hv ho (by decide) hac hd hr h1 h2 hg hu hal (fun _ => hpair) hwp hres
  · rw [exec_stcW, execStcW]
    exact h.stc_nowhere hv ho (by decide) ((Engine.addrC_eq hoff x).trans hm.symm) (by decide) hout
  · have hi8 : i < 8 := hi ▸ Nat.mod_lt _ (by decide)
    have hnext : x.ptrNext i (kStep w) = r := Engine.ptrNext_eq h.kOld hi8 _ hkb hkl (by rw [hnx, hq, kStep_eq]) hr
    have haq : (x.rkAddr 0 i).toNat = m := by
      rw [Engine.rkAddr_noGap h.kOld, Nat.zero_mul, Nat.zero_add, Nat.mod_eq_of_lt hi8, ← hq, hm]
    have hnear' : NearData s e m g u := hnear
    have hoff (hu : w / 2 ^ 15 % 2 = 0) (hb : w.testBit 15 = true) : 2 < 2 := by
      rw [testBit_iff_div, hu] at hb
      exact absurd hb (by decide)
    refine ⟨fun hj ht => ?_, fun hj hal ht => ?_, fun hj hal hu ht => ?_, fun hj hal hu hpair ht => ?_⟩
    · exact h.stk hv ho hi hj rfl hd ⟨fun _ => by decide, fun h3 => absurd h3 (by decide)⟩ hnext haq hnear' (Nat.mod_one m) hwp rfl ht
    · exact h.stk hv ho hi hj rfl hd ⟨fun _ => by decide, fun h3 => absurd h3 (by decide)⟩ hnext haq hnear' hal hwp rfl ht
    · exact h.stk hv ho hi hj rfl hd ⟨hoff hu, fun h3 => absurd h3 (by decide)⟩ hnext haq hnear' hal hwp (x.storeData_word d) ht
    · exact h.stk hv ho hi hj rfl hd ⟨fun hb => absurd (hoff hu hb) (by decide), fun _ => hpair⟩ hnext haq hnear' hal hwp rfl ht

end Sys2Proof.Machine
end


section
/-! PROOF. The statement on the crew memories and hoists (O41) is refuted by the notice of a hoist that ends (16 R424): the model writes
`TR_IRQ_PEND.PEND` as a field of 5 bits, and the statement gives its value as the old one with bit 3 added, for every state. -/

namespace Sys2Proof.Machine

/-- Engine 0's pending set standing at 32, outside its 5 bits, and a STOW of 8 bytes by channel 0 of crew 0 that notifies the engine. -/
def wideNoticePending : State :=
  { State.reset with
    regs := [(TR_IRQ_PEND.PEND.key, 32)]
    tram := { Tram.cold with hoists := [(0, ⟨0, 0, 8, true, some 0⟩)] } }

/-- The end of the STOW, all of its bytes moved. -/
def stowEnds : HoistEnd := ⟨8, [], [], false⟩

/-- What the end of the STOW leaves. -/
def afterStow : State :=
  (((wideNoticePending.hoistMoved 0 0 ⟨0, 0, 8, true, some 0⟩ stowEnds).dropHoist 0 0).wr TR_HOIST_STATUS.DONE 1).hoistNotify
    ⟨0, 0, 8, true, some 0⟩

theorem exec_stowEnds : exec (.hoistDone 0 0 stowEnds) wideNoticePending = .next afterStow := rfl

theorem afterStow_pending : afterStow.rd TR_IRQ_PEND.PEND = 8 := by decide +kernel

/-- Refutes O41: where the pending set stands at 32, the notice of a hoist leaves it at 8, and the clause on a STOW asks for 40. -/
theorem not_crewMemories : ¬ Obligations.CrewMemories := by
  intro h
  obtain ⟨-, -, -, -, -, hHoist⟩ := h
  obtain ⟨-, -, -, hStow, -⟩ :=
    hHoist wideNoticePending 0 0 0x010004000000 8 ⟨0, 0, 8, true, some 0⟩ stowEnds (by decide) (by decide) (by decide) (by decide)
  obtain ⟨t, he, -, -, -, -, -, hpend, -⟩ :=
    hStow 0 (by decide) rfl rfl rfl (by decide) (by decide) (by decide) (by decide) (by decide +kernel)
  have ht : t = afterStow := Host.Outcome.next.inj (he.symm.trans exec_stowEnds)
  rw [ht, afterStow_pending] at hpend
  exact absurd hpend (by decide)

end Sys2Proof.Machine
end


section
/-! PROOF. The statement on the Foreman's services (O51) is refuted by the end of an alert (18 R475): the model clears `ALERT` only where no
critical mark stands, which it reads as `TCRIT` not 0, and the statement asks for 0 wherever `TCRIT` is not 1. -/

namespace Sys2Proof.Machine

/-- Thermal sensor 0 above the warning limit with `ALERT` standing, and the critical mark at 2, outside its one bit. -/
def wideCriticalMark : State :=
  { State.reset with
    regs := [(FM_SENS_STATUS.TCRIT.key, 2), (FM_SENS_STATUS.ALERT.key, 1)]
    fm := { Foreman.cold with beyond := [(0, 0)] } }

/-- What a sample of 0 of that sensor leaves. -/
def afterCoolSample : State :=
  match execSensorSample [0] [] [] wideCriticalMark with
  | .next t => t
  | _ => wideCriticalMark

theorem exec_coolSample : exec (.sensorSample [0] [] []) wideCriticalMark = .next afterCoolSample := rfl

theorem afterCoolSample_alert : afterCoolSample.rd FM_SENS_STATUS.ALERT = 1 := by decide +kernel

theorem wideCriticalMark_crit : wideCriticalMark.rd FM_SENS_STATUS.TCRIT = 2 := by decide

/-- Refutes O51: a sample well below the warning limit leaves `ALERT` at 1 where `TCRIT` stands at 2, and the clause asks for 0. -/
theorem not_foremanServices : ¬ Obligations.ForemanServices := by
  intro h
  obtain ⟨-, -, -, hSensors, -⟩ := h
  obtain ⟨-, -, -, -, -, hCool⟩ := hSensors wideCriticalMark [] [] [] 0 0
  obtain ⟨t, he, -, -, halert⟩ := hCool rfl (by decide) (by decide)
  have ht : t = afterCoolSample := Host.Outcome.next.inj (he.symm.trans exec_coolSample)
  rw [ht, afterCoolSample_alert, wideCriticalMark_crit, if_neg (by decide)] at halert
  exact absurd halert (by decide)

end Sys2Proof.Machine
end


section
/-! PROOF. The start record and the ready bits (18 R465, R471). -/

namespace Sys2Proof.Machine

variable {s : State} {i j o b image : Nat} {v : ImageView}

/-! ### A number's digits of two bits -/

/-- Two bits of a number, as a mask selects them. -/
theorem and_digit (r i : Nat) : r &&& 3 * 4 ^ i = r / 4 ^ i % 4 * 4 ^ i := by
  have h4 : 4 ^ i = 2 ^ (2 * i) := (pow_mul 2 2 i).symm
  rw [h4]
  refine Nat.eq_of_testBit_eq fun b => ?_
  rw [Nat.testBit_and, Nat.testBit_mul_two_pow, Nat.testBit_mul_two_pow, show (4 : Nat) = 2 ^ 2 from rfl, Nat.testBit_mod_two_pow,
    Nat.testBit_div_two_pow, show (3 : Nat) = 2 ^ 2 - 1 from rfl, Nat.testBit_two_pow_sub_one]
  by_cases hb : 2 * i ≤ b
  · simp [hb, Nat.sub_add_cancel hb, Bool.and_comm]
  · simp [hb]

/-- A digit replaced: what lies above, the new digit, and what lies below. -/
theorem replace_digit (r i o : Nat) : clearMask r (3 * 4 ^ i) + o * 4 ^ i = 4 ^ i * (4 * (r / 4 ^ i / 4) + o) + r % 4 ^ i := by
  have hr := Nat.div_add_mod r (4 ^ i)
  have hd : r / 4 ^ i = 4 * (r / 4 ^ i / 4) + r / 4 ^ i % 4 := (Nat.div_add_mod ..).symm
  rw [clearMask, and_digit]
  generalize 4 ^ i = p at *
  generalize r / p % 4 = d at *
  generalize r / p / 4 = q at *
  rw [hd] at hr
  have hexp : p * (4 * q + d) + r % p = d * p + (p * (4 * q) + r % p) := by ring
  have hsub : r - d * p = p * (4 * q) + r % p := by omega
  rw [hsub]
  ring

theorem digit_replace_same (r i : Nat) (ho : o < 4) : (clearMask r (3 * 4 ^ i) + o * 4 ^ i) / 4 ^ i % 4 = o := by
  rw [replace_digit, Nat.mul_add_div (Nat.pow_pos (by decide)), Nat.div_eq_of_lt (Nat.mod_lt _ (Nat.pow_pos (by decide)))]
  omega

/-- A digit depends on the number below the next digit alone. -/
theorem digit_congr {x y m : Nat} (hm : 4 ^ j * 4 ∣ m) (h : x % m = y % m) : x / 4 ^ j % 4 = y / 4 ^ j % 4 := by
  rw [← Nat.mod_mul_right_div_self, ← Nat.mod_mul_right_div_self, ← Nat.mod_mod_of_dvd x hm, ← Nat.mod_mod_of_dvd y hm, h]

theorem digit_replace_ne (r : Nat) (ho : o < 4) (hne : j ≠ i) : (clearMask r (3 * 4 ^ i) + o * 4 ^ i) / 4 ^ j % 4 = r / 4 ^ j % 4 := by
  rcases Nat.lt_or_gt_of_ne hne with hlt | hgt
  · refine digit_congr (m := 4 ^ i) ((pow_succ 4 j).symm ▸ pow_dvd_pow 4 hlt) ?_
    rw [replace_digit, Nat.mul_add_mod, Nat.mod_mod]
  · obtain ⟨k, rfl⟩ := Nat.exists_eq_add_of_lt hgt
    have hcut (x : Nat) : x / 4 ^ (i + k + 1) = x / 4 ^ i / 4 / 4 ^ k := by
      rw [Nat.div_div_eq_div_mul, Nat.div_div_eq_div_mul]
      congr 1
      ring
    rw [hcut, hcut r, replace_digit, Nat.mul_add_div (Nat.pow_pos (by decide)), Nat.div_eq_of_lt (Nat.mod_lt _ (Nat.pow_pos (by decide))),
      show (4 * (r / 4 ^ i / 4) + o + 0) / 4 = r / 4 ^ i / 4 by omega]

/-- A digit of a 64-bit register. -/
theorem digit_cut (x : Nat) (hj : j < 32) : x % 2 ^ 64 / 4 ^ j % 4 = x / 4 ^ j % 4 :=
  digit_congr (m := 4 ^ 32) ((pow_succ 4 j).symm ▸ pow_dvd_pow 4 hj) (by rw [show (2 : Nat) ^ 64 = 4 ^ 32 from pow_mul 2 2 32, Nat.mod_mod])

/-! ### The record's step, and the ready bits -/

theorem State.rec_recordStep (s : State) (i o : Nat) :
    (s.recordStep i o).rd FM_START_REC.REC = (clearMask (s.rd FM_START_REC.REC) (3 * 4 ^ i) + o * 4 ^ i) % 2 ^ 64 := by
  unfold State.recordStep
  dsimp only
  split_ifs <;> exact State.rd_wr_same ..

theorem State.recCode_recordStep_same (s : State) (hi : i < 32) (ho : o < 4) : (s.recordStep i o).rd FM_START_REC.REC / 4 ^ i % 4 = o := by
  rw [State.rec_recordStep, digit_cut _ hi, digit_replace_same _ _ ho]

theorem State.recCode_recordStep_ne (s : State) (ho : o < 4) (hj : j < 32) (hne : j ≠ i) :
    (s.recordStep i o).rd FM_START_REC.REC / 4 ^ j % 4 = s.rd FM_START_REC.REC / 4 ^ j % 4 := by
  rw [State.rec_recordStep, digit_cut _ hj, digit_replace_ne _ ho hne]

@[simp] theorem State.recordStep_fm (s : State) (i o : Nat) : (s.recordStep i o).fm = { s.fm with ended := setBit s.fm.ended i } := by
  unfold State.recordStep
  dsimp only
  split_ifs <;> rfl

theorem State.recordStep_mem (s : State) (i o : Nat) : (s.recordStep i o).mem = s.mem := by
  unfold State.recordStep
  dsimp only
  split_ifs <;> rfl

theorem State.recordStep_flash (s : State) (i o : Nat) : (s.recordStep i o).flash = s.flash := by
  unfold State.recordStep
  dsimp only
  split_ifs <;> rfl

theorem State.stepEnded_recordStep_same (s : State) (i o : Nat) : (s.recordStep i o).stepEnded i = true := by
  rw [State.stepEnded, State.recordStep_fm, setBit, Nat.testBit_or, Nat.one_shiftLeft, Nat.testBit_two_pow_self, Bool.or_true]

theorem State.stepEnded_recordStep_ne (s : State) (o : Nat) (h : j ≠ i) : (s.recordStep i o).stepEnded j = s.stepEnded j := by
  rw [State.stepEnded, State.recordStep_fm, setBit, Nat.testBit_or, Nat.one_shiftLeft, Nat.testBit_two_pow_of_ne h.symm, Bool.or_false]
  rfl

/-- A step that fails is logged (18 R477). -/
theorem State.recordStep_events_failed (s : State) (i : Nat) :
    (s.recordStep i 2).events = s.events ++ [⟨0, 0x0003, 2, i + 512, s.rd WD_TALLY.TALLY⟩] := by
  show s.events ++ [_] = _
  rw [State.rd_fo, State.rd_wr_other _ (by decide)]

theorem State.recordStep_events (s : State) (i : Nat) (h : o ≠ 2) : (s.recordStep i o).events = s.events := by
  rw [State.recordStep, if_neg h]
  rfl

@[simp] theorem State.ready_recordStep (s : State) (i o b : Nat) : (s.recordStep i o).ready b = s.ready b :=
  congrArg (Nat.testBit · b) (State.rd_recordStep_other (by decide))

theorem State.ready_setReady_ne (s : State) {v : Bool} (h : i ≠ b) (hi : i < 64) : (s.setReady b v).ready i = s.ready i := by
  unfold State.setReady
  split_ifs
  · rfl
  · exact (congrArg (Nat.testBit · i) (State.rd_raise_other (by decide))).trans ((State.bit_putBit_ne h).trans (by rw [decide_eq_true (show i < FM_READY.READY.wid from hi), Bool.true_and]; rfl))

theorem State.setReady_moves_only (s : State) (b : Nat) (v : Bool) : Moves (Foot.only [.regs .fm, .msix, .sent]) s (s.setReady b v) :=
  State.setReady_moves (Sub.list rfl rfl) Moves.refl

@[simp] theorem State.setReady_fm (s : State) (b : Nat) (v : Bool) : (s.setReady b v).fm = s.fm :=
  (s.setReady_moves_only b v).parts .fm (partsMask_not (by decide))

theorem State.setReady_events (s : State) (b : Nat) (v : Bool) : (s.setReady b v).events = s.events :=
  (s.setReady_moves_only b v).parts .events (partsMask_not (by decide))

theorem State.setReady_mem (s : State) (b : Nat) (v : Bool) : (s.setReady b v).mem = s.mem := (s.setReady_moves_only b v).mem rfl

/-- A ready bit that sets raises `READY` (18 R479). -/
theorem State.setReady_source (s : State) (h : s.ready b = false) : (s.setReady b true).bit FM_IRQ_STATUS.SRC 5 = true := by
  rw [State.setReady, if_neg (by simp [h])]
  exact State.rd_raise_bit (by decide)

end Sys2Proof.Machine
end

section
/-! PROOF. Start-up (O50; 18 R464 to R472; 06 R175). -/

namespace Sys2Proof.Machine

variable {s t : State} {v : ImageView} {c k image : Nat}

/-! ### The images (R464, R466) -/

theorem State.romRuns_ready (h : s.romRuns = true) : s.ready 0 = false := by
  simp only [State.romRuns, Bool.and_eq_true, Bool.not_eq_true'] at h
  exact h.1.2

theorem State.rd_onRecord (s : State) (g : StartRecord → StartRecord) (f : Fld) (u j : Nat) : (s.onRecord g).rd f u j = s.rd f u j := rfl

/-- What an image that boots leaves before the chain head enumerates. -/
def State.booted (s : State) (image : Nat) (v : ImageView) : State :=
  ((((s.wr FM_BOOT.IMAGE image).wr FM_BOOT.FW_VER (imgFwVer v)).setReady 0 true).fo (fun f => { f with svn := imgSvn v })).post 0 0x0001 0
    (image + 2 ^ 32 * imgFwVer v)

theorem State.bootImage_eq (s : State) (image : Nat) (v : ImageView) : s.bootImage image v =
    if (s.booted image v).on BW_STATUS.STRAP_HEAD then ((s.booted image v).wr BW_STATUS.HEAD 1).enumerate else s.booted image v := rfl

/-- The enumeration changes nothing of the Foreman. -/
theorem State.bootImage_moves_only (s : State) (image : Nat) (v : ImageView) :
    Moves (Foot.only [.regs .wd, .regs .bw, .msix, .winder, .bell, .events, .sent]) (s.booted image v) (s.bootImage image v) := by
  rw [State.bootImage_eq]
  split_ifs
  · exact State.enumerate_moves (Sub.list rfl rfl) (State.wr_moves rfl Moves.refl)
  · exact Moves.refl

theorem State.bootImage_fm (s : State) (image : Nat) (v : ImageView) : (s.bootImage image v).fm = { s.fm with svn := imgSvn v } := by
  rw [(s.bootImage_moves_only image v).parts .fm (partsMask_not (by decide))]
  show { ((s.wr FM_BOOT.IMAGE image).wr FM_BOOT.FW_VER (imgFwVer v) |>.setReady 0 true).fm with svn := imgSvn v } = _
  rw [State.setReady_fm]
  rfl

theorem State.rd_bootImage (s : State) (image : Nat) (v : ImageView) {f : Fld} (hf : f.blk = .fm) (u j : Nat) :
    (s.bootImage image v).rd f u j = (s.booted image v).rd f u j :=
  (s.bootImage_moves_only image v).rd_kept (by rw [hf]; decide) u j

theorem State.rd_bootImage_image (s : State) (v : ImageView) (h : image < 2) : (s.bootImage image v).rd FM_BOOT.IMAGE = image := by
  rw [s.rd_bootImage image v rfl]
  show ((s.wr FM_BOOT.IMAGE image).wr FM_BOOT.FW_VER (imgFwVer v) |>.setReady 0 true).rd FM_BOOT.IMAGE = image
  rw [State.rd_setReady_other (by decide) (by decide), State.rd_wr_other _ (by decide), State.rd_wr_fit h]

theorem State.rd_bootImage_version (s : State) (image : Nat) (v : ImageView) :
    (s.bootImage image v).rd FM_BOOT.FW_VER = imgFwVer v % 2 ^ 32 := by
  rw [s.rd_bootImage image v rfl]
  show ((s.wr FM_BOOT.IMAGE image).wr FM_BOOT.FW_VER (imgFwVer v) |>.setReady 0 true).rd FM_BOOT.FW_VER = _
  rw [State.rd_setReady_other (by decide) (by decide)]
  exact State.rd_wr_same ..

theorem State.rd_bootImage_rec (s : State) (image : Nat) (v : ImageView) :
    (s.bootImage image v).rd FM_START_REC.REC = s.rd FM_START_REC.REC := by
  rw [s.rd_bootImage image v rfl]
  show ((s.wr FM_BOOT.IMAGE image).wr FM_BOOT.FW_VER (imgFwVer v) |>.setReady 0 true).rd FM_START_REC.REC = _
  rw [State.rd_setReady_other (by decide) (by decide), State.rd_wr_other _ (by decide), State.rd_wr_other _ (by decide)]

theorem State.bootImage_ready (s : State) (image : Nat) (v : ImageView) : (s.bootImage image v).ready 0 = true := by
  have hready : (s.bootImage image v).ready 0 = (s.booted image v).ready 0 :=
    congrArg (Nat.testBit · 0) (s.rd_bootImage image v (f := FM_READY.READY) rfl 0 0)
  exact hready.trans (State.ready_setReady (by decide))

/-- A primary image that fails a check, before the golden image has failed. -/
def State.primaryFails (s : State) (v : ImageView) (c : Nat) : State :=
  (((s.recordStep 3 2).onRecord (fun r => { r with primary := some (imgDigest v) })).wr FM_BOOT.PRIMARY_BAD 1).imageFailed 0 c

/-- A primary image that authenticates first. -/
def State.primaryBoots (s : State) (v : ImageView) : State :=
  (((s.recordStep 3 1).fo (fun f => { f with primaryVer := imgFwVer v })).recordStep 4 0).bootImage 0 v

section Primary

variable (hrom : s.romRuns = true) (h3 : s.stepEnded 3 = false) (h4 : s.stepEnded 4 = false) (hp : s.fm.record.primary = none)
include hrom h3 h4 hp

theorem exec_fwPrimary_fails (hc : imgFail v 0 = some c) : exec (.fwPrimary v) s = .next (s.primaryFails v c) := by
  rw [exec_fwPrimary, execFwPrimary, if_neg (by simp [hrom, h3]), if_neg (by simp [hp])]
  simp only [hp, Option.isSome_none, Bool.false_eq_true, false_and, if_false, hc, h4]
  rfl

theorem exec_fwPrimary_boots (hc : imgFail v 0 = none) : exec (.fwPrimary v) s = .next (s.primaryBoots v) := by
  rw [exec_fwPrimary, execFwPrimary, if_neg (by simp [hrom, h3]), if_neg (by simp [hp])]
  simp only [hp, Option.isSome_none, Bool.false_eq_true, false_and, if_false, hc, h4]
  rfl

end Primary

/-- A golden image that fails a check after the primary has. -/
def State.goldenFails (s : State) (c : Nat) : State := ((s.recordStep 4 2).imageFailed 1 c).wr FM_BOOT.RECOVERY 1

/-- A golden image that authenticates after the primary has failed. -/
def State.goldenBoots (s : State) (v : ImageView) : State :=
  ((s.recordStep 4 3).fo (fun f => { f with goldenVer := imgFwVer v })).bootImage 1 v

section Golden

variable (hrom : s.romRuns = true) (h3 : s.stepEnded 3 = true) (h4 : s.stepEnded 4 = false)
include hrom h3 h4

theorem exec_fwGolden_fails (hc : imgFail v 1 = some c) : exec (.fwGolden v) s = .next (s.goldenFails c) := by
  rw [exec_fwGolden, execFwGolden, if_neg (by simp [hrom, h3, h4])]
  simp only [hc, h3, if_true]
  rfl

theorem exec_fwGolden_boots (hc : imgFail v 1 = none) : exec (.fwGolden v) s = .next (s.goldenBoots v) := by
  rw [exec_fwGolden, execFwGolden, if_neg (by simp [hrom, h3, h4])]
  simp only [hc, h3, if_true]
  rfl

end Golden

theorem exec_fwPrimary_ended (h : s.stepEnded 3 = true) (v : ImageView) : exec (.fwPrimary v) s = .next s :=
  congrArg Host.Outcome.next (if_pos (.inr h))

theorem exec_fwGolden_ended (h : s.stepEnded 4 = true) (v : ImageView) : exec (.fwGolden v) s = .next s :=
  congrArg Host.Outcome.next (if_pos (.inr (.inl h)))

theorem exec_fwPrimary_noRom (h : s.romRuns = false) (v : ImageView) : exec (.fwPrimary v) s = .next s :=
  congrArg Host.Outcome.next (if_pos (.inl (by rw [h]; rfl)))

theorem exec_fwGolden_noRom (h : s.romRuns = false) (v : ImageView) : exec (.fwGolden v) s = .next s :=
  congrArg Host.Outcome.next (if_pos (.inl (by rw [h]; rfl)))

/-- An image without the magic number fails the first check. -/
theorem imgFail_magic (h : leNat (v.header.take 4) ≠ 0x4D494D46) (image : Nat) : imgFail v image = some 0 := by
  rw [imgFail]
  exact if_pos (.inl (by rw [imgField, List.drop_zero]; exact h))

theorem State.primaryFails_meets (s : State) (v : ImageView) (c : Nat) (hrom : s.romRuns = true) :
    (s.primaryFails v c).rd FM_START_REC.REC / 64 % 4 = 2 ∧ (s.primaryFails v c).stepEnded 3 = true ∧
    (s.primaryFails v c).fm.record.primary = some (imgDigest v) ∧ (s.primaryFails v c).rd FM_BOOT.PRIMARY_BAD = 1 ∧
    (s.primaryFails v c).ready 0 = false ∧ (s.primaryFails v c).rd FM_BOOT.RECOVERY = s.rd FM_BOOT.RECOVERY ∧
    (s.primaryFails v c).events = s.events ++ [⟨0, 0x0003, 2, 3 + 512, s.rd WD_TALLY.TALLY⟩, ⟨0, 0x0002, 2, 16 * c, s.rd WD_TALLY.TALLY⟩] := by
  have hrd (f : Fld) (h1 : f.id ≠ FM_BOOT.PRIMARY_BAD.id) (h2 : f.id ≠ FM_START_REC.REC.id) : (s.primaryFails v c).rd f = s.rd f := by
    show (((s.recordStep 3 2).onRecord _).wr FM_BOOT.PRIMARY_BAD 1).rd f = _
    rw [State.rd_wr_other _ h1, State.rd_onRecord, State.rd_recordStep_other h2]
  refine ⟨?_, s.stepEnded_recordStep_same 3 2, rfl, ?_, ?_, hrd _ (by decide) (by decide), ?_⟩
  · show (((s.recordStep 3 2).onRecord _).wr FM_BOOT.PRIMARY_BAD 1).rd FM_START_REC.REC / 4 ^ 3 % 4 = 2
    rw [State.rd_wr_other _ (by decide), State.rd_onRecord, s.recCode_recordStep_same (by decide) (by decide)]
  · show (State.wr _ FM_BOOT.PRIMARY_BAD 1).rd FM_BOOT.PRIMARY_BAD = 1
    exact State.rd_wr_fit (by decide)
  · exact (congrArg (Nat.testBit · 0) (hrd FM_READY.READY (by decide) (by decide))).trans (State.romRuns_ready hrom)
  · show (s.recordStep 3 2).events ++ [⟨0, 0x0002, 2, 0 + 16 * c, _⟩] = _
    rw [s.recordStep_events_failed, List.append_assoc, Nat.zero_add, State.rd_wr_other _ (by decide), State.rd_onRecord,
      State.rd_recordStep_other (by decide)]
    rfl

theorem State.primaryBoots_meets (s : State) (v : ImageView) :
    (s.primaryBoots v).ready 0 = true ∧ (s.primaryBoots v).rd FM_BOOT.IMAGE = 0 ∧ (s.primaryBoots v).rd FM_BOOT.FW_VER = imgFwVer v % 2 ^ 32 ∧
    (s.primaryBoots v).fm.svn = imgSvn v ∧ (s.primaryBoots v).fm.primaryVer = imgFwVer v ∧
    (s.primaryBoots v).rd FM_START_REC.REC / 64 % 4 = 1 ∧ (s.primaryBoots v).rd FM_START_REC.REC / 256 % 4 = 0 ∧
    (s.primaryBoots v).stepEnded 4 = true := by
  have hrec : (s.primaryBoots v).rd FM_START_REC.REC = ((s.recordStep 3 1).fo _ |>.recordStep 4 0).rd FM_START_REC.REC :=
    State.rd_bootImage_rec ..
  refine ⟨State.bootImage_ready .., State.rd_bootImage_image _ v (by decide), State.rd_bootImage_version .., ?_, ?_, ?_, ?_, ?_⟩
  · rw [State.primaryBoots, State.bootImage_fm]
  · rw [State.primaryBoots, State.bootImage_fm, State.recordStep_fm]
    rfl
  · rw [hrec, show (64 : Nat) = 4 ^ 3 from rfl, State.recCode_recordStep_ne _ (by decide) (by decide) (by decide)]
    exact s.recCode_recordStep_same (by decide) (by decide)
  · rw [hrec, show (256 : Nat) = 4 ^ 4 from rfl]
    exact State.recCode_recordStep_same (i := 4) (o := 0) _ (by decide) (by decide)
  · rw [State.stepEnded, State.primaryBoots, State.bootImage_fm]
    exact State.stepEnded_recordStep_same ..

theorem State.goldenFails_meets (s : State) (c : Nat) (hrom : s.romRuns = true) :
    (s.goldenFails c).rd FM_START_REC.REC / 256 % 4 = 2 ∧ (s.goldenFails c).rd FM_BOOT.RECOVERY = 1 ∧ (s.goldenFails c).ready 0 = false ∧
    (s.goldenFails c).fm.record = s.fm.record ∧
    (s.goldenFails c).events = s.events ++ [⟨0, 0x0003, 2, 4 + 512, s.rd WD_TALLY.TALLY⟩, ⟨0, 0x0002, 2, 1 + 16 * c, s.rd WD_TALLY.TALLY⟩] := by
  refine ⟨?_, State.rd_wr_fit (by decide), ?_, ?_, ?_⟩
  · show (((s.recordStep 4 2).imageFailed 1 c).wr FM_BOOT.RECOVERY 1).rd FM_START_REC.REC / 4 ^ 4 % 4 = 2
    rw [State.rd_wr_other _ (by decide), State.imageFailed, State.rd_post]
    exact s.recCode_recordStep_same (by decide) (by decide)
  · have hkept : (s.goldenFails c).rd FM_READY.READY = (s.recordStep 4 2).rd FM_READY.READY := by
      rw [State.goldenFails, State.rd_wr_other _ (by decide), State.imageFailed, State.rd_post]
    rw [State.ready, State.bit, hkept]
    exact (s.ready_recordStep 4 2 0).trans (State.romRuns_ready hrom)
  · show (s.recordStep 4 2).fm.record = s.fm.record
    rw [State.recordStep_fm]
  · show (s.recordStep 4 2).events ++ [⟨0, 0x0002, 2, 1 + 16 * c, (s.recordStep 4 2).rd WD_TALLY.TALLY⟩] = _
    rw [s.recordStep_events_failed, List.append_assoc, State.rd_recordStep_other (by decide)]
    rfl

theorem State.goldenBoots_meets (s : State) (v : ImageView) :
    (s.goldenBoots v).ready 0 = true ∧ (s.goldenBoots v).rd FM_BOOT.IMAGE = 1 ∧ (s.goldenBoots v).rd FM_BOOT.FW_VER = imgFwVer v % 2 ^ 32 ∧
    (s.goldenBoots v).fm.svn = imgSvn v ∧ (s.goldenBoots v).fm.goldenVer = imgFwVer v ∧
    (s.goldenBoots v).rd FM_START_REC.REC / 256 % 4 = 3 := by
  refine ⟨State.bootImage_ready .., State.rd_bootImage_image _ v (by decide), State.rd_bootImage_version .., ?_, ?_, ?_⟩
  · rw [State.goldenBoots, State.bootImage_fm]
  · rw [State.goldenBoots, State.bootImage_fm]
    rfl
  · rw [State.goldenBoots, State.rd_bootImage_rec, State.rd_fo, show (256 : Nat) = 4 ^ 4 from rfl]
    exact State.recCode_recordStep_same (i := 4) (o := 3) s (by decide) (by decide)

end Sys2Proof.Machine
end


section
/-! PROOF. Start-up's other steps, the record and the load deadline (O50; 18 R465 to R472; 06 R175). -/

namespace Sys2Proof.Machine

variable {s t : State} {v : ImageView} {c k : Nat}

/-! ### The steps after the image (R465, R471) -/

theorem exec_base_done (h0 : s.ready 0 = true) (h5 : s.stepEnded 5 = false) (hl : s.rd CG_BASE.BASE_LATE = 0) :
    exec .base s = .next ((s.wr CG_BASE.BASE_DONE 1).recordStep 5 1) := by
  rw [exec_base, execBase, if_neg (by simp [h0, h5]), if_neg (by simp [s.on_eq_false hl])]

theorem exec_base_late (h0 : s.ready 0 = true) (h5 : s.stepEnded 5 = false) (hl : s.rd CG_BASE.BASE_LATE = 1) :
    exec .base s = .next (s.recordStep 5 3) := by
  rw [exec_base, execBase, if_neg (by simp [h0, h5]), if_pos (s.on_of_rd_eq_one hl)]

theorem exec_fuse_due (h5 : s.stepEnded 5 = true) (h6 : s.stepEnded 6 = false) (ok : Bool) :
    exec (.fuse ok) s = .next (if ok then (s.recordStep 6 1).setReady 1 true else s.recordStep 6 2) := by
  rw [exec_fuse, execFuse, if_neg (by simp [h5, h6])]

theorem exec_seamSelfTest_due (h0 : s.ready 0 = true) (hk : k < 4) (h : s.stepEnded (16 + k) = false) (ok : Bool) :
    exec (.seamSelfTest k ok) s = .next (if ok then (s.recordStep (16 + k) 1).setReady (26 + k) true else s.recordStep (16 + k) 2) := by
  rw [exec_seamSelfTest, execSeamSelfTest, need_pos (decide_eq_true hk), if_neg (by simp [h0, h])]

/-- A crew's step that is due. -/
theorem exec_crewInit_due (h0 : s.ready 0 = true) (hk : k < 8) (h : s.stepEnded (20 + k) = false) (ok : Bool) :
    exec (.crewInit k ok) s = .next
      (if s.fm.record.crews.testBit k then ((s.recordStep (20 + k) 3).putBit CK_CREW_PWR.ON k false).putBit CK_CREW_PWR.ON_STAT k false
       else if ok then ((s.clearCrewMem k).recordStep (20 + k) 1).setReady (30 + k) true
       else (s.recordStep (20 + k) 2).onRecord (fun r => { r with crews := setBit r.crews k })) := by
  rw [exec_crewInit, execCrewInit, need_pos (decide_eq_true hk), if_neg (by simp [h0, h])]

/-- The bytes of a crew's crib and engine memories read 0 once cleared, and all others as before. -/
theorem State.byte_clearCrewMem (s : State) (k a : Nat) : (s.clearCrewMem k).byte a =
    if (0x010004000000 + k * 0x200000 ≤ a ∧ a < 0x010004000000 + (k + 1) * 0x200000) ∨
      (0x010005000000 + k * 0x200000 ≤ a ∧ a < 0x010005000000 + (k + 1) * 0x200000) then 0 else s.byte a := by
  have hmine : ((decide (cribBase k ≤ a) && decide (a < cribBase k + 0x200000)) ||
      (decide (imemBase (8 * k) ≤ a) && decide (a < imemBase (8 * k) + 0x200000))) = true ↔
      (0x010004000000 + k * 0x200000 ≤ a ∧ a < 0x010004000000 + (k + 1) * 0x200000) ∨
        (0x010005000000 + k * 0x200000 ≤ a ∧ a < 0x010005000000 + (k + 1) * 0x200000) := by
    rw [Bool.or_eq_true, Bool.and_eq_true, Bool.and_eq_true, decide_eq_true_iff, decide_eq_true_iff, decide_eq_true_iff, decide_eq_true_iff,
      cribBase, imemBase]
    omega
  split_ifs with h
  · exact Tab.get_filter_drop _ fun _ => congrArg not (hmine.2 h)
  · exact Tab.get_filter _ fun _ => congrArg not (Bool.eq_false_iff.2 fun hm => h (hmine.1 hm))

theorem State.byte_setReady_recordStep (s : State) (i o b a : Nat) (v : Bool) : ((s.recordStep i o).setReady b v).byte a = s.byte a := by
  rw [State.byte, State.setReady_mem, State.recordStep_mem]
  rfl

theorem State.rec_setReady (s : State) (b : Nat) (v : Bool) : (s.setReady b v).rd FM_START_REC.REC = s.rd FM_START_REC.REC :=
  State.rd_setReady_other (by decide) (by decide)

/-! ### Ports (R471; 09 R257) -/

/-- Ready bits that set one after another, each where its port calibrates. -/
theorem State.ready_setPorts (p : Nat → Bool) (l : List Nat) (hl : ∀ i ∈ l, i < 16) (s : State) {i : Nat} (hi : i < 16) :
    (l.foldl (fun t q => if p q then t.setReady (10 + q) true else t) s).ready (10 + i) = (s.ready (10 + i) || (decide (i ∈ l) && p i)) := by
  induction l generalizing s with
  | nil => simp
  | cons q l ih =>
    have hq : q < 16 := hl q (List.mem_cons_self ..)
    rw [List.foldl_cons, ih fun j hj => hl j (List.mem_cons_of_mem q hj)]
    by_cases hiq : i = q
    · subst hiq
      cases hp : p i
      · simp
      · simp [State.ready_setReady (show 10 + i < 64 by omega)]
    · cases hp : p q
      · simp [hiq]
      · simp [hiq, State.ready_setReady_ne s (v := true) (show 10 + i ≠ 10 + q by omega) (by omega)]

theorem State.setPorts_moves (p : Nat → Bool) (l : List Nat) (s : State) : Moves (Foot.only [.regs .fm, .msix, .sent]) s
    (l.foldl (fun t q => if p q then t.setReady (10 + q) true else t) s) :=
  Moves.refl.foldl fun t q _ h => by
    split_ifs
    · exact State.setReady_moves (Sub.list rfl rfl) h
    · exact h

theorem State.rec_setPorts (p : Nat → Bool) (l : List Nat) (s : State) :
    (l.foldl (fun t q => if p q then t.setReady (10 + q) true else t) s).rd FM_START_REC.REC = s.rd FM_START_REC.REC := by
  induction l generalizing s with
  | nil => rfl
  | cons q l ih =>
    rw [List.foldl_cons, ih]
    split_ifs
    · exact s.rec_setReady ..
    · rfl

theorem testBit_foldl_setBit (l : List Nat) (m i : Nat) : (l.foldl setBit m).testBit i = (m.testBit i || decide (i ∈ l)) := by
  induction l generalizing m with
  | nil => simp
  | cons q l ih =>
    rw [List.foldl_cons, ih, setBit, Nat.testBit_or, Nat.one_shiftLeft, Nat.testBit_two_pow]
    by_cases hiq : i = q
    · simp [hiq]
    · simp [hiq, Ne.symm hiq]

/-! ### The record's copies and the deadline (R472; 06 R175) -/

theorem mod_two_pow_full_iff (m n : Nat) : m % 2 ^ n = 2 ^ n - 1 ↔ (List.range n).all (fun i => m.testBit i) = true := by
  rw [List.all_eq_true]
  constructor
  · intro h i hi
    have hbit := congrArg (Nat.testBit · i) h
    simpa [Nat.testBit_mod_two_pow, Nat.testBit_two_pow_sub_one, List.mem_range.1 hi] using hbit
  · intro h
    refine Nat.eq_of_testBit_eq fun i => ?_
    rw [Nat.testBit_mod_two_pow, Nat.testBit_two_pow_sub_one]
    by_cases hi : i < n
    · simp [hi, h i (List.mem_range.2 hi)]
    · simp [hi]

/-- A record written beside copy A in force is the one that a start reads. -/
theorem Flash.record_writeOther {f : Flash} {r : StartRecord} (ha : f.copyA.isSome = true) (hb : f.inB = false)
    (hseq : (f.current.map (·.seq)).getD 0 < 2 ^ 32 - 1) : (f.writeOther (some r)).record = r := by
  obtain ⟨a, ha⟩ := Option.isSome_iff_exists.1 ha
  have hcur : f.current = some a := by rw [Flash.current, hb, ← ha]; rfl
  rw [hcur] at hseq
  have hlt : a.seq + 1 < 2 ^ 32 := by simp only [Option.map_some, Option.getD_some] at hseq; omega
  have hw : f.writeOther (some r) = { f with copyB := some ⟨a.seq + 1, r⟩ } := by
    rw [Flash.writeOther, hb, ha, hcur]
    simp only [Option.isNone_some, Bool.or_false, Bool.false_eq_true, if_false, Option.map_some, Option.getD_some, Nat.mod_eq_of_lt hlt]
  have hin : (f.writeOther (some r)).inB = true := by
    rw [hw, Flash.inB]
    simp only [ha]
    exact decide_eq_true (Nat.lt_succ_self _)
  rw [Flash.record, Flash.current, hin, hw]
  rfl

/-! ### The statement -/

theorem startRecord_meets (s : State) (i o j b : Nat) (hi : i < 32) (ho : o < 4) :
    (s.recordStep i o).rd FM_START_REC.REC / 4 ^ i % 4 = o ∧ (s.recordStep i o).stepEnded i = true ∧
    (j < 32 → j ≠ i → (s.recordStep i o).rd FM_START_REC.REC / 4 ^ j % 4 = s.rd FM_START_REC.REC / 4 ^ j % 4 ∧
      (s.recordStep i o).stepEnded j = s.stepEnded j) ∧
    (b < 39 → s.ready b = false → (s.setReady b true).ready b = true ∧ (s.setReady b true).bit FM_IRQ_STATUS.SRC 5 = true) ∧
    (o = 2 → (s.recordStep i o).events = s.events ++ [⟨0, 0x0003, 2, i + 512, s.rd WD_TALLY.TALLY⟩]) ∧
    (o ≠ 2 → (s.recordStep i o).events = s.events) :=
  ⟨s.recCode_recordStep_same hi ho, s.stepEnded_recordStep_same i o,
    fun hj hne => ⟨s.recCode_recordStep_ne ho hj hne, s.stepEnded_recordStep_ne o hne⟩,
    fun hb hr => ⟨State.ready_setReady (by omega), s.setReady_source hr⟩,
    fun h => h ▸ s.recordStep_events_failed i, s.recordStep_events i⟩

/-- What a crew that initialises leaves. -/
theorem crewStarts_meets (s : State) (k : Nat) (hk : k < 8) :
    (((s.clearCrewMem k).recordStep (20 + k) 1).setReady (30 + k) true).ready (30 + k) = true ∧
    (((s.clearCrewMem k).recordStep (20 + k) 1).setReady (30 + k) true).rd FM_START_REC.REC / 4 ^ (20 + k) % 4 = 1 ∧
    ∀ a : Nat, (((s.clearCrewMem k).recordStep (20 + k) 1).setReady (30 + k) true).byte a =
      (if (0x010004000000 + k * 0x200000 ≤ a ∧ a < 0x010004000000 + (k + 1) * 0x200000) ∨
        (0x010005000000 + k * 0x200000 ≤ a ∧ a < 0x010005000000 + (k + 1) * 0x200000) then 0 else s.byte a) := by
  refine ⟨State.ready_setReady (by omega), ?_, fun a => ?_⟩
  · rw [State.rec_setReady]
    exact State.recCode_recordStep_same _ (by omega) (by decide)
  · rw [State.byte_setReady_recordStep, State.byte_clearCrewMem]

/-- What a crew that fails leaves. -/
theorem crewFails_meets (s : State) (k : Nat) (hk : k < 8) :
    ((s.recordStep (20 + k) 2).onRecord (fun r => { r with crews := setBit r.crews k })).ready (30 + k) = s.ready (30 + k) ∧
    ((s.recordStep (20 + k) 2).onRecord (fun r => { r with crews := setBit r.crews k })).rd FM_START_REC.REC / 4 ^ (20 + k) % 4 = 2 ∧
    ((s.recordStep (20 + k) 2).onRecord (fun r => { r with crews := setBit r.crews k })).fm.record =
      { s.fm.record with crews := s.fm.record.crews ||| 2 ^ k } ∧
    ((s.recordStep (20 + k) 2).onRecord (fun r => { r with crews := setBit r.crews k })).mem = s.mem := by
  refine ⟨s.ready_recordStep .., ?_, ?_, s.recordStep_mem ..⟩
  · rw [State.rd_onRecord]
    exact s.recCode_recordStep_same (by omega) (by decide)
  · show { (s.recordStep (20 + k) 2).fm.record with crews := setBit (s.recordStep (20 + k) 2).fm.record.crews k } = _
    rw [State.recordStep_fm]
    exact congrArg (fun m => { s.fm.record with crews := s.fm.record.crews ||| m }) (Nat.one_shiftLeft k)

/-- What a crew with a failed mark leaves. -/
theorem crewMarked_meets (s : State) (k : Nat) (hk : k < 8) :
    (((s.recordStep (20 + k) 3).putBit CK_CREW_PWR.ON k false).putBit CK_CREW_PWR.ON_STAT k false).rd FM_START_REC.REC / 4 ^ (20 + k) % 4 = 3 ∧
    (((s.recordStep (20 + k) 3).putBit CK_CREW_PWR.ON k false).putBit CK_CREW_PWR.ON_STAT k false).bit CK_CREW_PWR.ON k = false ∧
    (((s.recordStep (20 + k) 3).putBit CK_CREW_PWR.ON k false).putBit CK_CREW_PWR.ON_STAT k false).bit CK_CREW_PWR.ON_STAT k = false ∧
    (((s.recordStep (20 + k) 3).putBit CK_CREW_PWR.ON k false).putBit CK_CREW_PWR.ON_STAT k false).ready (30 + k) = s.ready (30 + k) ∧
    (((s.recordStep (20 + k) 3).putBit CK_CREW_PWR.ON k false).putBit CK_CREW_PWR.ON_STAT k false).mem = s.mem := by
  refine ⟨?_, ?_, State.bit_putBit_same hk, ?_, s.recordStep_mem ..⟩
  · rw [State.rd_putBit_other (by decide), State.rd_putBit_other (by decide)]
    exact s.recCode_recordStep_same (by omega) (by decide)
  · rw [State.bit, State.rd_putBit_other (by decide)]
    exact State.bit_putBit_same hk
  · rw [State.ready, State.bit, State.rd_putBit_other (by decide), State.rd_putBit_other (by decide)]
    exact s.ready_recordStep ..

/-- Calibration that is due: `k` has the ports that calibrate. -/
theorem xcCalibrate_meets (h0 : s.ready 0 = true) (h : s.stepEnded 28 = false) (k : Nat) : ∃ t, exec (.xcCalibrate k) s = .next t ∧
    (∀ p : Nat, p < 16 → t.ready (10 + p) = (s.ready (10 + p) || (k.testBit p && !s.fm.record.ports.testBit p))) ∧
    (∀ p : Nat, p < 16 → t.fm.record.ports.testBit p = (s.fm.record.ports.testBit p || !k.testBit p)) ∧
    t.rd FM_START_REC.REC / 4 ^ 28 % 4 = (if ((List.range 16).all fun p => s.fm.record.ports.testBit p || k.testBit p) = true then
      (if s.fm.record.ports % 2 ^ 16 = 0 then 1 else 3) else 2) := by
  have hbad : ((List.range 16).filter (fun p => !s.fm.record.ports.testBit p && !k.testBit p)).isEmpty =
      (List.range 16).all fun p => s.fm.record.ports.testBit p || k.testBit p := by
    rw [Bool.eq_iff_iff, List.isEmpty_iff, List.filter_eq_nil_iff, List.all_eq_true]
    simp only [Bool.and_eq_true, Bool.not_eq_true', Bool.or_eq_true, not_and, Bool.not_eq_false]
    exact forall₂_congr fun p _ => by cases s.fm.record.ports.testBit p <;> simp
  refine ⟨_, by rw [exec_xcCalibrate, execXcCalibrate, if_neg (by simp [h0, h])], fun p hp => ?_, fun p hp => ?_, ?_⟩
  · rw [State.ready_setPorts (fun q => !s.fm.record.ports.testBit q && k.testBit q) _ (fun i => List.mem_range.1) _ hp,
      decide_eq_true (List.mem_range.2 hp), Bool.true_and, Bool.and_comm]
    exact congrArg (· || _) (s.ready_recordStep ..)
  · rw [(State.setPorts_moves (fun q => !s.fm.record.ports.testBit q && k.testBit q) _ _).parts .fm (partsMask_not (by decide))]
    show (List.foldl setBit (s.recordStep 28 _).fm.record.ports _).testBit p = _
    rw [testBit_foldl_setBit, State.recordStep_fm]
    simp only [List.mem_filter, List.mem_range, hp, true_and, Bool.decide_eq_true]
    cases s.fm.record.ports.testBit p <;> simp
  · rw [State.rec_setPorts (fun q => !s.fm.record.ports.testBit q && k.testBit q), State.rd_onRecord,
      State.recCode_recordStep_same _ (by decide) (by split_ifs <;> decide), hbad]
    split_ifs <;> simp_all

theorem fabric_ready_iff (s : State) : s.rd FM_READY.READY / 2 ^ 26 % 16 = 15 ↔ (List.range 4).all (fun k => s.ready (26 + k)) = true := by
  have hbits := mod_two_pow_full_iff (s.rd FM_READY.READY / 2 ^ 26) 4
  simp only [Nat.testBit_div_two_pow] at hbits
  exact hbits.trans (by simp only [Nat.add_comm]; rfl)

/-- The record's write once every step before it has ended. -/
theorem exec_record_ok (h : s.fm.ended % 2 ^ 30 = 2 ^ 30 - 1) : exec (.record true) s = .next
    ((s.recordStep 31 1).writeRecord (some { s.fm.record with rec_ := (s.recordStep 31 1).rd FM_START_REC.REC })) := by
  have hall : (List.range 30).all s.stepEnded = true := (mod_two_pow_full_iff ..).1 h
  rw [exec_record, execRecord, if_neg (by rw [hall]; decide), if_pos rfl]
  dsimp only
  rw [State.recordStep_fm]

theorem exec_record_failed (h : s.fm.ended % 2 ^ 30 = 2 ^ 30 - 1) : exec (.record false) s = .next ((s.recordStep 31 2).writeRecord none) := by
  have hall : (List.range 30).all s.stepEnded = true := (mod_two_pow_full_iff ..).1 h
  rw [exec_record, execRecord, if_neg (by rw [hall]; decide), if_neg (by decide)]

theorem State.rd_writeRecord (s : State) (r : Option StartRecord) (f : Fld) (u j : Nat) : (s.writeRecord r).rd f u j = s.rd f u j := rfl

theorem State.writeRecord_recordStep_flash (s : State) (o : Nat) (r : Option StartRecord) :
    ((s.recordStep 31 o).writeRecord r).flash = s.flash.writeOther r := congrArg (·.writeOther r) (s.recordStep_flash 31 o)

theorem exec_record_early (h : s.fm.ended % 2 ^ 30 ≠ 2 ^ 30 - 1) (ok : Bool) : exec (.record ok) s = .next s := by
  have hall : (List.range 30).all s.stepEnded = false := Bool.eq_false_iff.2 fun hall => h ((mod_two_pow_full_iff ..).2 hall)
  rw [exec_record, execRecord, if_pos (by rw [hall]; rfl)]

/-! ### The load deadline (06 R175) -/

theorem exec_deadline_stopped (h : s.rd FM_LOAD_DEADLINE.RUNNING = 0) (ms el : Nat) :
    exec (.loadDeadlineWrite ms el) s = .next (s.wr FM_LOAD_DEADLINE.MS ms) := by
  rw [exec_loadDeadlineWrite, execLoadDeadlineWrite]
  dsimp only
  rw [if_pos (by rw [s.on_eq_false h]; rfl)]

section Running

variable {ms el : Nat} (h : s.rd FM_LOAD_DEADLINE.RUNNING = 1)
include h

theorem exec_deadline_running : exec (.loadDeadlineWrite ms el) s = .next
    (if ms % 2 ^ 32 = 0 then (s.wr FM_LOAD_DEADLINE.MS ms).wr FM_LOAD_DEADLINE.RUNNING 0
     else if ms % 2 ^ 32 ≤ el then (s.wr FM_LOAD_DEADLINE.MS ms).deadlineExpires else s.wr FM_LOAD_DEADLINE.MS ms) := by
  have hms : (s.wr FM_LOAD_DEADLINE.MS ms).rd FM_LOAD_DEADLINE.MS = ms % 2 ^ 32 := State.rd_wr_same ..
  rw [exec_loadDeadlineWrite, execLoadDeadlineWrite]
  dsimp only
  rw [if_neg (by rw [s.on_of_rd_eq_one h]; decide), hms]

end Running

/-- The deadline expires with no load in progress. -/
theorem State.deadlineExpires_idle (ms : Nat) (h : s.ldState = 0) : (s.wr FM_LOAD_DEADLINE.MS ms).deadlineExpires =
    { ((s.wr FM_LOAD_DEADLINE.MS ms).wr FM_LOAD_DEADLINE.RUNNING 0).wr FM_LOAD_DEADLINE.EXPIRED 1 with
      loader := { s.loader with diag := some ⟨s.rd FM_BOOT.IMAGE, false, false⟩ } } := by
  have hld : (s.wr FM_LOAD_DEADLINE.MS ms).ldState = 0 := (State.rd_wr_other s (by decide)).trans h
  have himage : (s.wr FM_LOAD_DEADLINE.MS ms).rd FM_BOOT.IMAGE = s.rd FM_BOOT.IMAGE := State.rd_wr_other s (by decide)
  rw [State.deadlineExpires]
  dsimp only
  rw [if_neg (by rw [hld]; decide), himage]
  rfl

/-- The images, for every state. -/
theorem images_meet (s : State) (v : ImageView) (c : Nat) (hrom : s.romRuns = true) :
    (s.stepEnded 3 = false → s.stepEnded 4 = false → s.fm.record.primary = none → imgFail v 0 = some c → ∃ t, exec (.fwPrimary v) s = .next t ∧
      t.rd FM_START_REC.REC / 64 % 4 = 2 ∧ t.stepEnded 3 = true ∧ t.fm.record.primary = some (imgDigest v) ∧ t.rd FM_BOOT.PRIMARY_BAD = 1 ∧
      t.ready 0 = false ∧ t.rd FM_BOOT.RECOVERY = s.rd FM_BOOT.RECOVERY ∧ t.events = s.events ++ [⟨0, 0x0003, 2, 3 + 512, s.rd WD_TALLY.TALLY⟩,
        ⟨0, 0x0002, 2, 16 * c, s.rd WD_TALLY.TALLY⟩]) ∧
    (s.stepEnded 3 = true → s.stepEnded 4 = false → imgFail v 1 = some c → ∃ t, exec (.fwGolden v) s = .next t ∧
      t.rd FM_START_REC.REC / 256 % 4 = 2 ∧ t.rd FM_BOOT.RECOVERY = 1 ∧ t.ready 0 = false ∧ t.fm.record = s.fm.record ∧
      t.events = s.events ++ [⟨0, 0x0003, 2, 4 + 512, s.rd WD_TALLY.TALLY⟩, ⟨0, 0x0002, 2, 1 + 16 * c, s.rd WD_TALLY.TALLY⟩]) :=
  ⟨fun h3 h4 hp hc => ⟨_, exec_fwPrimary_fails hrom h3 h4 hp hc, s.primaryFails_meets v c hrom⟩,
    fun h3 h4 hc => ⟨_, exec_fwGolden_fails hrom h3 h4 hc, s.goldenFails_meets c hrom⟩⟩

/-- Settles O50: the record's digits, what the images leave, the steps, the record's write and the deadline, each by its lemmas. -/
theorem startUp : Obligations.StartUp := by
  unfold Obligations.StartUp
  refine ⟨?_, ?_, ?_, ?_, ?_, ?_, ?_⟩
  · rintro s t i o j b hi ho rfl
    exact startRecord_meets s i o j b hi ho
  · intro s v c hrom
    refine ⟨(images_meet s v c hrom).1, fun h3 h4 hp => ?_, fun h3 => exec_fwPrimary_ended h3 v, fun h3 h4 hp => ?_, (images_meet s v c hrom).2,
      fun h3 h4 => ?_, fun h3 hp => ?_, fun h4 => exec_fwGolden_ended h4 v⟩
    · cases hc : imgFail v 0 with
      | none => exact ⟨_, exec_fwPrimary_boots hrom h3 h4 hp hc, s.primaryBoots_meets v⟩
      | some c => exact ⟨_, exec_fwPrimary_fails hrom h3 h4 hp hc, (s.primaryFails_meets v c hrom).2.2.2.2.1⟩
    · rw [exec_fwPrimary, execFwPrimary, if_neg (by simp [hrom, h3]), if_pos ⟨hp, by rw [h4]; rfl⟩]
    · cases hc : imgFail v 1 with
      | none => exact ⟨_, exec_fwGolden_boots hrom h3 h4 hc, s.goldenBoots_meets v⟩
      | some c => exact ⟨_, exec_fwGolden_fails hrom h3 h4 hc, (s.goldenFails_meets c hrom).2.1⟩
    · rw [exec_fwGolden, execFwGolden, if_pos (.inr (.inr (by simp [h3, hp])))]
  · exact fun s v i => ⟨fun h => imgFail_magic h i, fun h => exec_fwPrimary_noRom h v, fun h => exec_fwGolden_noRom h v⟩
  · intro s k h0
    refine ⟨exec_base_done h0, exec_base_late h0, fun h => congrArg Host.Outcome.next (if_pos (.inr h)), fun h5 h6 => exec_fuse_due h5 h6 true,
      fun h5 h6 => exec_fuse_due h5 h6 false, fun h => congrArg Host.Outcome.next (if_pos (.inl (by rw [h]; rfl))),
      fun hk h => exec_seamSelfTest_due h0 hk h true, fun hk h => exec_seamSelfTest_due h0 hk h false, fun hk h => ?_, fun hk h hm => ?_,
      fun hk h hm => ?_, fun b hk h hm => ?_, fun h => xcCalibrate_meets h0 h k, fun h => congrArg Host.Outcome.next (if_pos (.inr h)),
      fun h => ?_, fun h => congrArg Host.Outcome.next (if_pos (.inr h))⟩
    · rw [exec_seamSelfTest, execSeamSelfTest, need_pos (decide_eq_true hk), if_pos (.inr h)]
    · exact ⟨_, (exec_crewInit_due h0 hk h true).trans (by rw [if_neg (by rw [hm]; decide), if_pos rfl]), crewStarts_meets s k hk⟩
    · exact ⟨_, (exec_crewInit_due h0 hk h false).trans (by rw [if_neg (by rw [hm]; decide), if_neg (by decide)]), crewFails_meets s k hk⟩
    · exact ⟨_, (exec_crewInit_due h0 hk h b).trans (by rw [if_pos hm]), crewMarked_meets s k hk⟩
    · rw [exec_shiftStart, execShiftStart, if_neg (by simp [h0, h])]
  · intro s
    refine ⟨fun ht h30 hr => ?_, fun h => ?_,
      fun h => ⟨_, exec_record_ok h, ?_, ?_⟩,
      fun h => ⟨_, exec_record_failed h, ?_, s.writeRecord_recordStep_flash ..⟩, fun h => exec_record_early h true⟩
    · have hall := (fabric_ready_iff s).1 hr
      rw [exec_fabric, execFabric, if_neg (by simp [ht, h30, hall]), State.put]
      by_cases hms : s.rd FM_LOAD_DEADLINE.MS = 0
      · rw [if_pos hms, decide_eq_false (not_not.2 hms)]
        rfl
      · rw [if_neg hms, decide_eq_true hms]
        rfl
    · rw [exec_fabric, execFabric, if_pos]
      rcases h with h | h | h
      · exact .inl h
      · exact .inr (.inl h)
      · exact .inr (.inr (by rw [Bool.eq_false_iff.2 fun hall => h ((fabric_ready_iff s).2 hall)]; rfl))
    · rw [State.rd_writeRecord]
      exact s.recCode_recordStep_same (by decide) (by decide)
    · rw [State.rd_writeRecord]
      exact s.writeRecord_recordStep_flash 1 _
    · rw [State.rd_writeRecord]
      exact s.recCode_recordStep_same (by decide) (by decide)
  · exact fun f r ha hb hseq => Flash.record_writeOther ha hb hseq
  · intro s ms el
    refine ⟨fun h => exec_deadline_stopped h ms el, fun h hms => ?_, fun h hms hel => ?_, fun h hms hel hpos hld => ?_⟩
    · rw [exec_deadline_running h, if_pos hms]
    · rw [exec_deadline_running h, Nat.mod_eq_of_lt hms, if_neg (by omega), if_neg (by omega)]
    · rw [exec_deadline_running h, Nat.mod_eq_of_lt hms, if_neg (by omega), if_pos hel, State.deadlineExpires_idle ms hld]

end Sys2Proof.Machine
end


section
/-! PROOF. The DRAM channels: training and the map (O38; 14 R363 to R366). -/

namespace Sys2Proof.Machine

variable {s t : State} {c : Nat} {p : Population} {f : Fld}

/-! ### A channel held out, and the map (R363, R367) -/

theorem State.rd_showMap_other (hn : f.id ≠ PC_MAP.N.id) (hg : f.id ≠ PC_MAP.C_GIB.id) (ht : f.id ≠ PC_MAP.TOP_GIB.id) (s : State) (u j : Nat) :
    s.showMap.rd f u j = s.rd f u j := by
  simp only [State.showMap, State.rd_wr_other _ hn, State.rd_wr_other _ hg, State.rd_wr_other _ ht]

theorem State.holdOut_meets (s : State) {c cause : Nat} (hc : c < 8) (hcause : cause < 8) :
    (s.holdOut c cause).rd DC_STATUS.STATE c = 3 ∧ (s.holdOut c cause).rd DC_STATUS.HOLD_CAUSE c = cause ∧
    (s.holdOut c cause).bit PC_MAP.SET c = false := by
  have hrd {f : Fld} (hn : f.id ≠ PC_MAP.N.id) (hg : f.id ≠ PC_MAP.C_GIB.id) (ht : f.id ≠ PC_MAP.TOP_GIB.id)
      (hr : f.id ≠ FM_START_REC.REC.id) (u j : Nat) : (s.holdOut c cause).rd f u j =
        (((s.wr DC_STATUS.STATE 3 c).wr DC_STATUS.HOLD_CAUSE cause c).putBit PC_MAP.SET c false).rd f u j := by
    rw [State.holdOut, State.rd_recordStep_other hr, State.rd_post, State.rd_showMap_other hn hg ht]
  refine ⟨?_, ?_, ?_⟩
  · rw [hrd (by decide) (by decide) (by decide) (by decide), State.rd_putBit_other (by decide), State.rd_wr_other _ (by decide)]
    exact State.rd_wr_fit (by decide)
  · rw [hrd (by decide) (by decide) (by decide) (by decide), State.rd_putBit_other (by decide)]
    exact State.rd_wr_fit hcause
  · rw [State.bit, hrd (by decide) (by decide) (by decide) (by decide)]
    exact State.bit_putBit_same hc

/-! ### Admission (R363, R365) -/

/-- The state that shows what the slots of a channel hold, its row repairs loaded. -/
def State.slotsShown (s : State) (c : Nat) (p : Population) : State :=
  (((s.loadRows c).wr DC_STATUS.DIMMS p.dimms c).wr DC_STATUS.RANKS p.ranks c).wr DC_STATUS.X8 p.x8 c

theorem State.slotsShown_moves (s : State) (c : Nat) (p : Population) : Moves (Foot.only [.regs .dc]) s (s.slotsShown c p) :=
  State.wr_moves rfl (State.wr_moves rfl (State.wr_moves rfl (State.loadRows_moves (Sub.list rfl rfl) Moves.refl)))

theorem State.slotsShown_fm (s : State) (c : Nat) (p : Population) : (s.slotsShown c p).fm = s.fm :=
  (s.slotsShown_moves c p).parts .fm (partsMask_not (by decide))

/-- The channel enters TRAINING: its rate and capacity, and its place in the set. -/
def State.enterTraining (s : State) (c : Nat) (p : Population) : State :=
  ((((s.wr DC_STATUS.STATE 1 c).wr DC_STATUS.RATE p.rate c).wr DC_STATUS.CAP_GIB (min 128 p.gib) c).put DC_STATUS.CAP_TRUNC
    (decide (128 < p.gib)) c).putBit PC_MAP.SET c true

/-- A stored set of the channel's DIMMs at their rate (R365). -/
def State.trainedBefore (s : State) (c : Nat) (p : Population) : Bool :=
  s.fm.record.trained.any (fun f => decide (f.1 = c ∧ f.2.1 = p.serials ∧ f.2.2 = p.rate))

/-- The channel is admitted. -/
def State.admitted (s : State) (c : Nat) (p : Population) : State :=
  ((((((s.enterTraining c p).onRecord (fun r => { r with failed := r.failed.filter (fun (f : Nat × List Nat) => decide (f.1 ≠ c)) })).dr
    (fun d => { d with serials := Tab.set natLt [] d.serials c p.serials })).put DC_TRAIN.STORED_TRIED (s.trainedBefore c p) c).put
      DC_TRAIN.FULL_TRIED (!s.trainedBefore c p) c).dropShare c).showMap

theorem exec_channelTrain_idle (hc : c < 8) (h : s.rd DC_STATUS.STATE c ≠ 0 ∨ s.rd PC_MAP.FINAL ≠ 0 ∨ s.ready 0 = false) :
    exec (.channelTrain c p) s = .next s := by
  have hidle : s.rd DC_STATUS.STATE c ≠ 0 ∨ s.on PC_MAP.FINAL = true ∨ (!s.ready 0) = true :=
    h.imp_right (Or.imp (s.on_iff _ _ _).2 (fun h => by rw [h]; rfl))
  rw [exec_channelTrain, execChannelTrain, need_pos (decide_eq_true hc), if_pos hidle]

/-- A channel that may be admitted. -/
theorem exec_channelTrain_due (hc : c < 8) (hs : s.rd DC_STATUS.STATE c = 0) (hf : s.rd PC_MAP.FINAL = 0) (hr : s.ready 0 = true) :
    exec (.channelTrain c p) s = .next (if p.dimms = 0 then (s.loadRows c).holdOut c 1
      else if !p.supported then (s.slotsShown c p).holdOut c 2
      else if !p.same then (s.slotsShown c p).holdOut c 3
      else if s.fm.record.failed.any (fun f => decide (f.1 = c ∧ f.2 = p.serials)) then (s.slotsShown c p).holdOut c 5
      else (s.slotsShown c p).admitted c p) := by
  rw [exec_channelTrain, execChannelTrain, need_pos (decide_eq_true hc), if_neg (by simp [hs, s.on_eq_false hf, hr]), ← s.slotsShown_fm c p]
  rfl

theorem State.admitted_meets (s : State) (p : Population) (hc : c < 8) :
    (s.admitted c p).rd DC_STATUS.STATE c = 1 ∧ (s.admitted c p).rd DC_STATUS.RATE c = p.rate % 8 ∧
    (s.admitted c p).rd DC_STATUS.CAP_GIB c = min 128 p.gib ∧ (s.admitted c p).rd DC_STATUS.CAP_TRUNC c = (if 128 < p.gib then 1 else 0) ∧
    (s.admitted c p).bit PC_MAP.SET c = true ∧
    (s.admitted c p).rd DC_TRAIN.STORED_TRIED c = b2n (s.trainedBefore c p) := by
  have hrd {f : Fld} (hn : f.id ≠ PC_MAP.N.id) (hg : f.id ≠ PC_MAP.C_GIB.id) (ht : f.id ≠ PC_MAP.TOP_GIB.id) (hen : f.blk ≠ .en) (u j : Nat) :
      (s.admitted c p).rd f u j = (((s.enterTraining c p).put DC_TRAIN.STORED_TRIED (s.trainedBefore c p) c).put
        DC_TRAIN.FULL_TRIED (!s.trainedBefore c p) c).rd f u j := by
    rw [State.admitted, State.rd_showMap_other hn hg ht]
    exact (State.dropShare_moves (F := Foot.only [.regs .en, .crypto]) (Sub.list rfl rfl) Moves.refl).rd_kept
      (by simpa using hen) u j
  refine ⟨?_, ?_, ?_, ?_, ?_, ?_⟩
  · rw [hrd (by decide) (by decide) (by decide) (by decide), State.enterTraining]
    simp (disch := decide) only [State.rd_put_other, State.rd_putBit_other, State.rd_wr_other]
    exact State.rd_wr_fit (by decide)
  · rw [hrd (by decide) (by decide) (by decide) (by decide), State.enterTraining]
    simp (disch := decide) only [State.rd_put_other, State.rd_putBit_other, State.rd_wr_other]
    exact State.rd_wr_same ..
  · rw [hrd (by decide) (by decide) (by decide) (by decide), State.enterTraining]
    simp (disch := decide) only [State.rd_put_other, State.rd_putBit_other]
    exact State.rd_wr_fit (lt_of_le_of_lt (min_le_left ..) (by decide))
  · rw [hrd (by decide) (by decide) (by decide) (by decide), State.enterTraining]
    simp (disch := decide) only [State.rd_put_other, State.rd_putBit_other]
    rw [rd_put_flag (by decide)]
    by_cases h : 128 < p.gib
    · rw [if_pos h, decide_eq_true h]
      rfl
    · rw [if_neg h, decide_eq_false h]
      rfl
  · rw [State.bit, hrd (by decide) (by decide) (by decide) (by decide)]
    simp (disch := decide) only [State.rd_put_other]
    exact State.bit_putBit_same hc
  · rw [hrd (by decide) (by decide) (by decide) (by decide), State.rd_put_other (by decide), rd_put_flag (by decide)]

/-! ### The end of training (R365, R366) -/

/-- Row repairs change a channel's repair states and the flash alone. -/
theorem State.rd_repairRows_other (hf : f.id ≠ DC_PPR.STATE.id) (s : State) (c : Nat) (repairs : List (Nat × Nat)) (u j : Nat) :
    (s.repairRows c repairs).rd f u j = s.rd f u j := by
  unfold State.repairRows
  generalize List.range 32 = l
  induction l generalizing s with
  | nil => rfl
  | cons i l ih =>
    rw [List.foldl_cons, ih]
    dsimp only
    split
    · split_ifs <;> exact State.rd_wr_other s hf
    · rfl

/-- The set that is to be verified passes. -/
def verified (s : State) (c : Nat) (storedOk : Bool) : Bool := s.on DC_TRAIN.STORED_TRIED c && storedOk

/-- What the training leaves in `DC_TRAIN`. -/
def State.trainShown (s : State) (c : Nat) (storedOk fullOk : Bool) (ms : Nat) : State :=
  (((s.put DC_TRAIN.STORED_OK (verified s c storedOk) c).put DC_TRAIN.FULL_TRIED (!verified s c storedOk) c).put DC_TRAIN.FULL_OK
    (!verified s c storedOk && fullOk) c).wr DC_TRAIN.TRAIN_MS ms c

/-- A full training is remembered with the channel's DIMMs and rate (R365). -/
def State.trainKept (s : State) (c : Nat) (storedOk fullOk : Bool) (ms : Nat) : State :=
  if verified s c storedOk then s.trainShown c storedOk fullOk ms
  else (s.trainShown c storedOk fullOk ms).onRecord (fun r => { r with
    trained := r.trained.filter (fun (f : Nat × List Nat × Nat) => decide (f.1 ≠ c)) ++
      [(c, Tab.get [] s.dram.serials c, (s.trainShown c storedOk fullOk ms).rd DC_STATUS.RATE c)] })

theorem exec_trainingDone_passes (hc : c < 8) (h1 : s.rd DC_STATUS.STATE c = 1) {storedOk fullOk : Bool}
    (hok : verified s c storedOk = true ∨ fullOk = true) (n ms : Nat) : exec (.trainingDone c storedOk fullOk n ms []) s = .next
      (((((s.trainKept c storedOk fullOk ms).repairRows c []).wr DC_STATUS.STATE 2 c).recordStep (7 + c) 1).setReady (2 + c) true) := by
  rw [exec_trainingDone, execTrainingDone, need_pos (decide_eq_true hc), if_neg (not_not.2 h1)]
  exact congrArg Host.Outcome.next (if_pos hok)

theorem exec_trainingDone_fails (hc : c < 8) (h1 : s.rd DC_STATUS.STATE c = 1) {storedOk : Bool} (hv : verified s c storedOk = false)
    (n ms : Nat) : exec (.trainingDone c storedOk false n ms []) s = .next
      (((((s.trainShown c storedOk false ms).onRecord (fun r => { r with
        failed := r.failed.filter (fun (f : Nat × List Nat) => decide (f.1 ≠ c)) ++ [(c, Tab.get [] s.dram.serials c)] })).wr
          DC_TRAIN.FAIL_STEP n c).holdOut c 4).remap) := by
  rw [exec_trainingDone, execTrainingDone, need_pos (decide_eq_true hc), if_neg (not_not.2 h1)]
  exact congrArg Host.Outcome.next (if_neg (by rw [not_or, Bool.not_eq_true]; exact ⟨hv, by decide⟩))

/-- What a training that passes leaves. -/
theorem trainingPassed_meets (s : State) (hc : c < 8) (storedOk fullOk : Bool) (ms : Nat) :
    ∀ t, t = ((((s.trainKept c storedOk fullOk ms).repairRows c []).wr DC_STATUS.STATE 2 c).recordStep (7 + c) 1).setReady (2 + c) true →
    t.rd DC_STATUS.STATE c = 2 ∧ t.ready (2 + c) = true ∧ t.rd DC_TRAIN.STORED_OK c = b2n (verified s c storedOk) ∧
    t.rd DC_TRAIN.FULL_TRIED c = b2n (!verified s c storedOk) ∧ t.rd DC_TRAIN.FULL_OK c = b2n (!verified s c storedOk && fullOk) ∧
    t.rd DC_TRAIN.TRAIN_MS c = ms % 2 ^ 16 ∧ t.stepEnded (7 + c) = true := by
  rintro t rfl
  have hrd {f : Fld} (h1 : f.id ≠ FM_READY.READY.id) (h2 : f.id ≠ FM_IRQ_STATUS.SRC.id) (h3 : f.id ≠ FM_START_REC.REC.id)
      (h4 : f.id ≠ DC_STATUS.STATE.id) (h5 : f.id ≠ DC_PPR.STATE.id) (u j : Nat) :
      (((((s.trainKept c storedOk fullOk ms).repairRows c []).wr DC_STATUS.STATE 2 c).recordStep (7 + c) 1).setReady (2 + c) true).rd f u j =
        (s.trainShown c storedOk fullOk ms).rd f u j := by
    rw [State.rd_setReady_other h1 h2, State.rd_recordStep_other h3, State.rd_wr_other _ h4, State.rd_repairRows_other h5, State.trainKept]
    split_ifs <;> rfl
  refine ⟨?_, State.ready_setReady (by omega), ?_, ?_, ?_, ?_, ?_⟩
  · rw [State.rd_setReady_other (by decide) (by decide), State.rd_recordStep_other (by decide)]
    exact State.rd_wr_fit (by decide)
  · rw [hrd (by decide) (by decide) (by decide) (by decide) (by decide), State.trainShown]
    simp (disch := decide) only [State.rd_put_other, State.rd_wr_other]
    exact State.rd_put_flag (by decide) ..
  · rw [hrd (by decide) (by decide) (by decide) (by decide) (by decide), State.trainShown]
    simp (disch := decide) only [State.rd_put_other, State.rd_wr_other]
    exact State.rd_put_flag (by decide) ..
  · rw [hrd (by decide) (by decide) (by decide) (by decide) (by decide), State.trainShown]
    simp (disch := decide) only [State.rd_wr_other]
    exact State.rd_put_flag (by decide) ..
  · rw [hrd (by decide) (by decide) (by decide) (by decide) (by decide), State.trainShown]
    exact State.rd_wr_same ..
  · rw [State.stepEnded, State.setReady_fm]
    exact State.stepEnded_recordStep_same ..

theorem State.schedDrain_nil (h : s.dram.queue = []) (c : Nat) : s.schedDrain c = s := by
  rw [State.schedDrain, h]
  rfl

theorem State.dramIdle_nil (h : s.dram.queue = []) : s.dramIdle = s := by
  unfold State.dramIdle
  generalize List.range 8 = l
  induction l with
  | nil => rfl
  | cons c l ih => rw [List.foldl_cons, State.schedDrain_nil h, ih]

theorem State.dramSettle_nil (hq : s.dram.queue = []) (hc : s.dram.combiner = []) : s.dramSettle = s := by
  rw [State.dramSettle, State.dramIdle_nil hq, hc, List.foldl_nil]

/-- The ready bits of several channels set or clear. -/
theorem State.setChannels_moves (b : Bool) (l : List Nat) (s : State) :
    Moves (Foot.only [.regs .fm, .msix, .sent]) s (l.foldl (fun t c => t.setReady (2 + c) b) s) :=
  Moves.refl.foldl fun _ _ _ h => State.setReady_moves (Sub.list rfl rfl) h

theorem State.showFresh_moves_only (l : List Nat) (s : State) :
    Moves (Foot.only [.regs .dc]) s (l.foldl (fun t c => t.showFresh c) s) :=
  Moves.refl.foldl fun _ _ _ h => State.showFresh_moves (Sub.list rfl rfl) h

theorem State.rd_showFreshes_other (h1 : f.id ≠ DC_FRESH.FILLS.id) (h2 : f.id ≠ DC_FRESH.TRACKER_WAIT.id) (h3 : f.id ≠ DC_FRESH.LIVE.id)
    (l : List Nat) (s : State) (u j : Nat) : (l.foldl (fun t c => t.showFresh c) s).rd f u j = s.rd f u j := by
  induction l generalizing s with
  | nil => rfl
  | cons c l ih => rw [List.foldl_cons, ih, State.showFresh, State.rd_wr_other _ h3, State.rd_put_other h2, State.rd_wr_other _ h1]

theorem State.clearDram_meets (s : State) : s.clearDram.mem = s.mem.filter (fun m => decide (2 ^ 40 ≤ m.1)) ∧ s.clearDram.dram.pages = [] ∧
    ∀ f : Fld, f.id ≠ DC_FRESH.FILLS.id → f.id ≠ DC_FRESH.TRACKER_WAIT.id → f.id ≠ DC_FRESH.LIVE.id → ∀ u j, s.clearDram.rd f u j = s.rd f u j := by
  unfold State.clearDram
  extract_lets cut empty
  have hfresh := State.showFresh_moves_only (List.range 8) empty
  exact ⟨hfresh.mem rfl, congrArg Dram.pages (hfresh.parts .dram (partsMask_not (by decide))),
    fun f h1 h2 h3 u j => State.rd_showFreshes_other h1 h2 h3 _ empty u j⟩

/-- The map rebuilt with nothing waiting at the controllers (R366). -/
theorem State.remap_meets (hq : s.dram.queue = []) (hc : s.dram.combiner = []) :
    s.remap.mem = s.mem.filter (fun m => decide (2 ^ 40 ≤ m.1)) ∧ s.remap.dram.pages = [] ∧ s.remap.rd PC_MAP.REMAPPED = 1 ∧
    s.remap.rd PC_MAP.SET = s.rd PC_MAP.SET ∧
    ∀ f ∈ [DC_STATUS.STATE, DC_STATUS.HOLD_CAUSE, DC_TRAIN.FAIL_STEP], ∀ u, s.remap.rd f u = s.rd f u := by
  obtain ⟨up, hup⟩ : ∃ up, up = (List.range 8).filter (fun c => decide (s.rd DC_STATUS.STATE c = 2)) := ⟨_, rfl⟩
  obtain ⟨a, ha⟩ : ∃ a, a = up.foldl (fun t c => t.setReady (2 + c) false) s := ⟨_, rfl⟩
  obtain ⟨b, hb⟩ : ∃ b, b = a.showMap.clearDram := ⟨_, rfl⟩
  have hdown : Moves (Foot.only [.regs .fm, .msix, .sent]) s a := ha ▸ State.setChannels_moves false up s
  have hdram : a.dram = s.dram := hdown.parts .dram (partsMask_not (by decide))
  have hsettle : a.dramSettle = a := State.dramSettle_nil (by rw [hdram, hq]) (by rw [hdram, hc])
  have hremap : s.remap = up.foldl (fun t c => t.setReady (2 + c) true) (b.wr PC_MAP.REMAPPED 1) := by
    rw [State.remap, ← hup, ← ha, hsettle, hb]
  have hagain : Moves (Foot.only [.regs .fm, .msix, .sent]) (b.wr PC_MAP.REMAPPED 1) s.remap := hremap ▸ State.setChannels_moves true up _
  obtain ⟨hmem, hpages, hrd⟩ := a.showMap.clearDram_meets
  rw [← hb] at hmem hpages hrd
  have hkept {f : Fld} (hfm : f.blk ≠ .fm) (h1 : f.id ≠ PC_MAP.REMAPPED.id) (h2 : f.id ≠ DC_FRESH.FILLS.id)
      (h3 : f.id ≠ DC_FRESH.TRACKER_WAIT.id) (h4 : f.id ≠ DC_FRESH.LIVE.id) (h5 : f.id ≠ PC_MAP.N.id) (h6 : f.id ≠ PC_MAP.C_GIB.id)
      (h7 : f.id ≠ PC_MAP.TOP_GIB.id) (u : Nat) : s.remap.rd f u = s.rd f u := by
    rw [hagain.rd_kept (by simpa using hfm), State.rd_wr_other _ h1, hrd f h2 h3 h4, State.rd_showMap_other h5 h6 h7,
      hdown.rd_kept (by simpa using hfm)]
  refine ⟨?_, ?_, ?_, ?_, fun f hf u => ?_⟩
  · rw [hagain.mem rfl]
    refine hmem.trans ?_
    show List.filter _ a.mem = _
    rw [hdown.mem rfl]
  · rw [hagain.parts .dram (partsMask_not (by decide))]
    exact hpages
  · rw [hagain.rd_kept (by decide)]
    exact State.rd_wr_fit (by decide)
  · exact hkept (by decide) (by decide) (by decide) (by decide) (by decide) (by decide) (by decide) (by decide) 0
  · rw [List.mem_cons, List.mem_cons, List.mem_singleton] at hf
    rcases hf with rfl | rfl | rfl <;>
      exact hkept (by decide) (by decide) (by decide) (by decide) (by decide) (by decide) (by decide) (by decide) u

/-- What a training that fails leaves. -/
theorem trainingFailed_meets (s : State) (hc : c < 8) (hq : s.dram.queue = []) (hcomb : s.dram.combiner = []) (storedOk : Bool) (n ms : Nat) :
    ∀ t, t = (((((s.trainShown c storedOk false ms).onRecord (fun r => { r with
        failed := r.failed.filter (fun (f : Nat × List Nat) => decide (f.1 ≠ c)) ++ [(c, Tab.get [] s.dram.serials c)] })).wr
          DC_TRAIN.FAIL_STEP n c).holdOut c 4).remap) →
    t.rd DC_STATUS.STATE c = 3 ∧ t.rd DC_STATUS.HOLD_CAUSE c = 4 ∧ t.bit PC_MAP.SET c = false ∧ t.rd PC_MAP.REMAPPED = 1 ∧
    t.rd DC_TRAIN.FAIL_STEP c = n % 16 ∧ t.dram.pages = [] ∧ t.mem = s.mem.filter (fun m => decide (2 ^ 40 ≤ m.1)) := by
  rintro t rfl
  generalize hx : (((s.trainShown c storedOk false ms).onRecord (fun r => { r with
    failed := r.failed.filter (fun (f : Nat × List Nat) => decide (f.1 ≠ c)) ++ [(c, Tab.get [] s.dram.serials c)] })).wr
      DC_TRAIN.FAIL_STEP n c) = x
  have hxd : x.dram = s.dram := by rw [← hx]; rfl
  have hxm : x.mem = s.mem := by rw [← hx]; rfl
  have hstep : x.rd DC_TRAIN.FAIL_STEP c = n % 16 := by rw [← hx]; exact State.rd_wr_same ..
  have hout : Moves (Foot.only [.regs .dc, .regs .pc, .regs .fm, .fm, .events]) x (x.holdOut c 4) :=
    State.holdOut_moves (Sub.list rfl rfl) Moves.refl
  have hkeep : (x.holdOut c 4).dram = x.dram := hout.parts .dram (partsMask_not (by decide))
  have hdram := hkeep.trans hxd
  obtain ⟨hstate, hcause, hset⟩ := x.holdOut_meets (cause := 4) hc (by decide)
  obtain ⟨hmem, hpages, hremapped, hsetKept, hkept⟩ := State.remap_meets (s := x.holdOut c 4) (by rw [hdram, hq]) (by rw [hdram, hcomb])
  refine ⟨(hkept _ (by decide) c).trans hstate, (hkept _ (by decide) c).trans hcause, ?_, hremapped, ?_, hpages, ?_⟩
  · rw [State.bit, hsetKept]
    exact hset
  · rw [hkept _ (by decide), State.holdOut, State.rd_recordStep_other (by decide), State.rd_post,
      State.rd_showMap_other (by decide) (by decide) (by decide), State.rd_putBit_other (by decide), State.rd_wr_other _ (by decide),
      State.rd_wr_other _ (by decide), hstep]
  · rw [hmem, hout.mem rfl, hxm]

end Sys2Proof.Machine
end

section
/-! PROOF. The DRAM channels: the device area, refresh, write-backs, fills, flips (O38; 14 R370 to R386). -/

namespace Sys2Proof.Machine

variable {s t : State} {c k sz : Nat} {f : Fld}

/-! ### The device area (R370, R371) -/

/-- The size of a plan in units of 2 MiB. -/
def State.planSize (s : State) : Nat :=
  720 + s.rd PC_PLAN0.STORE + s.rd PC_PLAN0.PJ_RING + s.rd PC_PLAN0.STAMP + s.rd PC_PLAN0.LOG + s.rd PC_PLAN1.SPILL + s.rd PC_PLAN1.TRACE

theorem State.planned_sum (s : State) : s.planned.foldl (· + ·) 0 = s.planSize := by
  simp only [State.planned, List.foldl_cons, List.foldl_nil, Nat.zero_add, State.planSize]

/-- A plan that leaves 1 GiB is placed. -/
theorem State.placeArea_fits (h : s.planSize + 512 ≤ s.rd PC_MAP.TOP_GIB * 512) : s.placeArea =
    (((s.clearRegions.writeRegions (placeRegions (s.rd PC_MAP.TOP_GIB * 512) s.planned)).wr PC_AREA.BASE
      (s.rd PC_MAP.TOP_GIB * 512 - s.planSize)).wr PC_AREA.SIZE s.planSize).wr PC_AREA.OK 1 := by
  rw [State.placeArea]
  dsimp only
  rw [if_pos (by rw [State.planned_sum]; exact h), State.planned_sum]

/-- Nothing is placed where the frame shadow and 1 GiB do not fit. -/
theorem State.placeArea_none (h : s.rd PC_MAP.TOP_GIB * 512 < 720 + 512) : s.placeArea = s.clearRegions.post 3 0x0033 1 1 := by
  have hplan : 720 ≤ s.planSize := by unfold State.planSize; omega
  have hcold : coldPlan.foldl (· + ·) 0 = 4592 := rfl
  rw [State.placeArea]
  dsimp only
  rw [if_neg (by rw [State.planned_sum]; omega), if_neg (by rw [hcold]; omega)]

theorem placeRegions_planned (s : State) (top : Nat) : (placeRegions top s.planned).getD 0 (0, 0) = (top - 720, 720) ∧
    (placeRegions top s.planned).getD 6 (0, 0) = (top - s.planSize, s.rd PC_PLAN1.TRACE) := by
  refine ⟨rfl, ?_⟩
  simp only [State.planned, placeRegions, State.planSize, List.getD_cons_succ, List.getD_cons_zero, Nat.sub_sub]

/-- What the placed regions' registers show. -/
theorem State.placeArea_meets (hfit : s.planSize + 512 ≤ s.rd PC_MAP.TOP_GIB * 512) (htop : s.rd PC_MAP.TOP_GIB ≤ 1024) :
    s.placeArea.rd PC_AREA.OK = 1 ∧ s.placeArea.rd PC_AREA.SIZE = s.planSize ∧
    s.placeArea.rd PC_AREA.BASE = s.rd PC_MAP.TOP_GIB * 512 - s.planSize ∧
    s.placeArea.rd CF_SHADOW_BASE.BASE = s.rd PC_MAP.TOP_GIB * 512 - 720 ∧ s.placeArea.rd CF_SHADOW_BASE.SHADOW_OK = 1 ∧
    s.placeArea.rd LP_TRACE_RING.BASE = s.rd PC_MAP.TOP_GIB * 512 - s.planSize ∧ s.placeArea.rd LP_TRACE_RING.SIZE = s.rd PC_PLAN1.TRACE ∧
    s.placeArea.rd LP_TRACE_RING.OK = 1 := by
  obtain ⟨hfirst, hlast⟩ := placeRegions_planned s (s.rd PC_MAP.TOP_GIB * 512)
  have hplan : 720 ≤ s.planSize ∧ s.rd PC_PLAN1.TRACE ≤ s.planSize := by unfold State.planSize; omega
  rw [State.placeArea_fits hfit, State.writeRegions]
  generalize placeRegions (s.rd PC_MAP.TOP_GIB * 512) s.planned = l at *
  dsimp only
  rw [hfirst, hlast]
  simp (disch := decide) only [State.rd_wr_other]
  exact ⟨State.rd_wr_fit (by decide), State.rd_wr_fit (lt_of_lt_of_le (b := 2 ^ 20) (by omega) (by decide)),
    State.rd_wr_fit (lt_of_lt_of_le (b := 2 ^ 19) (by omega) (by decide)), State.rd_wr_fit (lt_of_lt_of_le (b := 2 ^ 19) (by omega) (by decide)),
    State.rd_wr_fit (by decide), State.rd_wr_fit (lt_of_lt_of_le (b := 2 ^ 19) (by omega) (by decide)),
    State.rd_wr_fit (lt_of_lt_of_le (b := 2 ^ 20) (by omega) (by decide)), State.rd_wr_fit (by decide)⟩

theorem State.clearRegions_meets (s : State) : s.clearRegions.rd PC_AREA.OK = 0 ∧ s.clearRegions.rd CF_SHADOW_BASE.SHADOW_OK = 0 :=
  ⟨State.rd_foldl_clear (by decide) (by decide) s, State.rd_foldl_clear (by decide) (by decide) s⟩

theorem State.wr_regs_cut (s : State) (f : Fld) (v u j : Nat) (r : List (Key × Nat)) : { s.wr f v u j with regs := r } = { s with regs := r } := rfl

/-- Placing the area changes registers alone. -/
theorem State.placeArea_registers (hfit : s.planSize + 512 ≤ s.rd PC_MAP.TOP_GIB * 512) : { s.placeArea with regs := s.regs } = s := by
  simp only [State.placeArea_fits hfit, State.writeRegions, State.clearRegions, List.foldl_cons, List.foldl_nil, State.wr_regs_cut]

theorem exec_area_idle (h : s.rd PC_MAP.FINAL ≠ 0 ∨ (c < 8 ∧ s.stepEnded (7 + c) = false)) : exec .area s = .next s := by
  rw [exec_area, execArea, if_pos]
  refine h.imp (s.on_iff _ _ _).2 fun ⟨hc, h⟩ => ?_
  rw [List.any_eq_true]
  exact ⟨c, List.mem_range.2 hc, by rw [h]; rfl⟩

theorem exec_area_due (hf : s.rd PC_MAP.FINAL = 0) (h : ∀ k, k < 8 → s.stepEnded (7 + k) = true) : exec .area s = .next
    ((s.placeArea.wr PC_MAP.FINAL 1).recordStep 15 (if (s.placeArea.wr PC_MAP.FINAL 1).on PC_AREA.OK then 1 else 2)) := by
  rw [exec_area, execArea, if_neg]
  rw [s.on_eq_false hf, List.any_eq_true]
  rintro (h0 | ⟨k, hk, hn⟩)
  · exact absurd h0 (by decide)
  · rw [h k (List.mem_range.1 hk)] at hn
    exact absurd hn (by decide)

theorem State.rd_area (h1 : f.id ≠ FM_START_REC.REC.id) (h2 : f.id ≠ PC_MAP.FINAL.id) (s : State) (o u j : Nat) :
    ((s.wr PC_MAP.FINAL 1).recordStep 15 o).rd f u j = s.rd f u j := by
  rw [State.rd_recordStep_other h1, State.rd_wr_other _ h2]

theorem State.rd_area_final (s : State) (o : Nat) : ((s.wr PC_MAP.FINAL 1).recordStep 15 o).rd PC_MAP.FINAL = 1 := by
  rw [State.rd_recordStep_other (by decide)]
  exact State.rd_wr_fit (by decide)

/-- What `REPLAN` needs (R371). -/
structure State.Replans (s : State) : Prop where
  winder : s.rd WD_STATUS.STATE = 0
  loader : s.rd CF_LD_STATUS.STATE = 0
  queues : ∀ q, q < 4096 → s.rd QU_STATUS.STATE q = 0
  logging : s.rd WD_SMP_CTRL.LOG_EN = 0
  journal : s.rd WD_SMP_CTRL.PJ_EN = 0
  tracing : s.rd LP_TRACE_CTRL.RING_EN = 0

theorem exec_replan_taken (h : s.Replans) : exec .replan s = .next s.placeArea := by
  obtain ⟨hw, hl, hq, hlog, hpj, htr⟩ := h
  rw [exec_replan, execReplan, State.replanWrite, if_pos]
  refine ⟨hw, hl, List.all_eq_true.2 fun q hmem => decide_eq_true (hq q (List.mem_range.1 hmem)), ?_, ?_, ?_⟩
  · rw [s.on_eq_false hlog]
    rfl
  · rw [s.on_eq_false hpj]
    rfl
  · rw [s.on_eq_false htr]
    rfl

theorem exec_replan_refused (h : ¬s.Replans) : exec .replan s = .next (s.wr PC_CTRL.REPLAN_ERR 1) := by
  have hoff {f : Fld} (hf : (!s.on f) = true) : s.rd f = 0 := by
    by_contra h0
    rw [(s.on_iff f 0 0).2 h0] at hf
    exact absurd hf (by decide)
  rw [exec_replan, execReplan, State.replanWrite, if_neg]
  rintro ⟨hw, hl, hq, hlog, hpj, htr⟩
  exact h ⟨hw, hl, fun q hlt => of_decide_eq_true (List.all_eq_true.1 hq q (List.mem_range.2 hlt)), hoff hlog, hoff hpj, hoff htr⟩

/-! ### Refresh (R375) -/

/-- The refreshes a rank is owed take another number. -/
def State.setOwed (s : State) (c k n : Nat) : State :=
  (s.dr (fun d => { d with owed := Tab.set natLt 0 d.owed (4 * c + k) n })).showOwed c

theorem State.setOwed_owed (s : State) (c k n : Nat) : Tab.get 0 (s.setOwed c k n).dram.owed (4 * c + k) = n := Tab.get_set_same ..

theorem State.setOwed_kept (s : State) (c k n : Nat) : s.regsKeptBut (s.setOwed c k n) [DC_REFRESH.OWED.key c] :=
  (State.regsKeptBut.refl (s := s)).hidden rfl |>.wr (List.mem_singleton_self _)

section Refresh

variable (hc : c < 8) (hk : k < 4)
include hc hk

theorem exec_refreshDue_busy : exec (.refreshDue c k true) s = .next
    (if Tab.get 0 s.dram.owed (4 * c + k) < s.rd DC_SCHED.REF_POSTPONE c then s.setOwed c k (Tab.get 0 s.dram.owed (4 * c + k) + 1) else s) := by
  rw [exec_refreshDue, execRefreshDue, need_pos (decide_eq_true ⟨hc, hk⟩)]
  rfl

theorem exec_refreshDue_free (hq : s.dram.queue = []) : exec (.refreshDue c k false) s = .next
    (if Tab.get 0 s.dram.owed (4 * c + k) = 0 then s else (s.setOwed c k 0).count DC_REFRESH.BURSTS 1 c) := by
  rw [exec_refreshDue, execRefreshDue, need_pos (decide_eq_true ⟨hc, hk⟩), hq]
  rfl

end Refresh

theorem refresh_meets (s : State) (hc : c < 8) (hk : k < 4) (owed : Nat) (ho : owed = Tab.get 0 s.dram.owed (4 * c + k)) :
    (owed < s.rd DC_SCHED.REF_POSTPONE c → ∃ t, exec (.refreshDue c k true) s = .next t ∧
      Tab.get 0 t.dram.owed (4 * c + k) = owed + 1 ∧ s.regsKeptBut t [DC_REFRESH.OWED.key c]) ∧
    (s.rd DC_SCHED.REF_POSTPONE c ≤ owed → exec (.refreshDue c k true) s = .next s) ∧
    (owed = 0 → s.dram.queue = [] → exec (.refreshDue c k false) s = .next s) ∧
    (owed ≠ 0 → s.dram.queue = [] → ∃ t, exec (.refreshDue c k false) s = .next t ∧ Tab.get 0 t.dram.owed (4 * c + k) = 0 ∧
      t.rd DC_REFRESH.BURSTS c = min (s.rd DC_REFRESH.BURSTS c + 1) (2 ^ 32 - 1) ∧
      s.regsKeptBut t [DC_REFRESH.OWED.key c, DC_REFRESH.BURSTS.key c]) := by
  subst ho
  refine ⟨fun h => ⟨s.setOwed c k (Tab.get 0 s.dram.owed (4 * c + k) + 1), (exec_refreshDue_busy hc hk).trans (by rw [if_pos h]), s.setOwed_owed ..,
      s.setOwed_kept c k _⟩,
    fun h => (exec_refreshDue_busy hc hk).trans (by rw [if_neg (Nat.not_lt.2 h)]),
    fun h hq => (exec_refreshDue_free hc hk hq).trans (by rw [if_pos h]),
    fun h hq => ⟨(s.setOwed c k 0).count DC_REFRESH.BURSTS 1 c, (exec_refreshDue_free hc hk hq).trans (by rw [if_neg h]), s.setOwed_owed c k 0, ?_, ?_⟩⟩
  · rw [State.rd_count_one, (s.setOwed_kept c k 0) DC_REFRESH.BURSTS c 0 (by simp [Fld.key]; decide)]
    rfl
  · exact State.regsKeptBut.count (by simp) fun f u j hf => s.setOwed_kept c k 0 f u j fun h => hf (by simp [List.mem_singleton.1 h])

/-! ### Write-backs, fills, flips and the thermal sensor (R375, R384 to R386) -/

theorem exec_dramWriteback_idle {p : Nat} (h : p ∉ s.dram.writebacks ∨ s.halted = true) : exec (.dramWriteback p) s = .next s := by
  rw [exec_dramWriteback, execDramWriteback, if_neg]
  rintro ⟨hp, hh⟩
  rcases h with h | h
  · exact h hp
  · rw [h] at hh
    exact absurd hh (by decide)

theorem writeback_meets {p : Nat} (hp : p ∈ s.dram.writebacks) (hh : s.halted = false) : ∃ t, exec (.dramWriteback p) s = .next t ∧
    p ∉ t.dram.writebacks ∧ t.page p = { s.page p with errs := [] } ∧ { t with dram := s.dram } = s := by
  refine ⟨s.dr (fun d => { d with
      writebacks := d.writebacks.filter (fun q => decide (q ≠ p))
      pages := Tab.set natLt .clean d.pages p { (Tab.get .clean d.pages p) with errs := [] } }), ?_, ?_, Tab.get_set_same .., rfl⟩
  · rw [exec_dramWriteback, execDramWriteback, if_pos ⟨hp, by rw [hh]; rfl⟩]
  · show p ∉ List.filter _ _
    rw [List.mem_filter]
    exact fun h => absurd h.2 (by simp)

theorem exec_fillComplete_idle (hc : c < 8) {b : Nat} (h : s.dram.fills.any (fun f => decide (f.chan = c ∧ f.block = b)) = false) :
    exec (.fillComplete c b) s = .next s := by
  rw [exec_fillComplete, execFillComplete, need_pos (decide_eq_true hc), h, if_neg (by simp)]

/-- A fill that ends with no write waiting for its tracker. -/
theorem fill_meets (hc : c < 8) {b : Nat} (h : s.dram.fills.any (fun f => decide (f.chan = c ∧ f.block = b)) = true) (hh : s.halted = false)
    (hw : s.dram.trackerWait = []) : ∃ t, exec (.fillComplete c b) s = .next t ∧ t.isLive c b = true ∧
      t.dram.fills = s.dram.fills.filter (fun f => !decide (f.chan = c ∧ f.block = b)) ∧
      s.regsKeptBut t [DC_FRESH.FILLS.key c, DC_FRESH.TRACKER_WAIT.key c, DC_FRESH.LIVE.key c] := by
  refine ⟨(s.dr (fun d => { d with
      fills := d.fills.filter (fun f => !decide (f.chan = c ∧ f.block = b))
      live := Tab.set natLt false d.live (c * 2 ^ 21 + b) true })).showFresh c, ?_, ?_, rfl, ?_⟩
  · rw [exec_fillComplete, execFillComplete, need_pos (decide_eq_true hc), h, if_pos ⟨rfl, by rw [hh]; rfl⟩]
    simp only [State.dr, hw, List.find?_nil]
  · show Tab.get false (Tab.set natLt false s.dram.live (c * 2 ^ 21 + b) true) (c * 2 ^ 21 + b) = true
    exact Tab.get_set_same ..
  · exact State.regsKeptBut.wr (by simp) (State.regsKeptBut.put (by simp) (State.regsKeptBut.wr (by simp)
      (State.regsKeptBut.hidden State.regsKeptBut.refl rfl)))

theorem flip_meets (s : State) (hc : c < 8) (v : Nat) : ∃ t, exec (.flipArm c v) s = .next t ∧ t.rd DC_FLIP_CTRL.ARM c = 1 ∧
    t.rd DC_FLIP_CTRL.VAL c = v % 256 ∧ t.rd DC_FLIP_CTRL.MATCH_EN c = v / 512 % 2 ∧ t.rd DC_FLIP_CTRL.MATCH c = v / 2 ^ 32 % 2 ^ 30 ∧
    s.regsKeptBut t [DC_FLIP_CTRL.ARM.key c, DC_FLIP_CTRL.VAL.key c, DC_FLIP_CTRL.MATCH_EN.key c, DC_FLIP_CTRL.MATCH.key c] ∧
    { t with regs := s.regs } = s := by
  have hset {f : Fld} (hf : f ∈ [DC_FLIP_CTRL.VAL, DC_FLIP_CTRL.MATCH_EN, DC_FLIP_CTRL.MATCH]) (ha : f.id ≠ DC_FLIP_CTRL.ARM.id) :
      ((s.setFields [DC_FLIP_CTRL.VAL, DC_FLIP_CTRL.MATCH_EN, DC_FLIP_CTRL.MATCH] v c).wr DC_FLIP_CTRL.ARM 1 c).rd f c =
        v / 2 ^ f.lsb % 2 ^ f.wid := by
    rw [State.rd_wr_other _ ha, State.rd_setFields (by decide) hf, bitsOf_eq]
  refine ⟨(s.setFields [DC_FLIP_CTRL.VAL, DC_FLIP_CTRL.MATCH_EN, DC_FLIP_CTRL.MATCH] v c).wr DC_FLIP_CTRL.ARM 1 c,
    by rw [exec_flipArm, execFlipArm, need_pos (decide_eq_true hc)], State.rd_wr_fit (by decide), ?_, ?_, ?_, ?_, rfl⟩
  · exact (hset (by decide) (by decide)).trans (by rw [show DC_FLIP_CTRL.VAL.lsb = 0 from rfl, pow_zero, Nat.div_one]; rfl)
  · exact hset (by decide) (by decide)
  · exact hset (by decide) (by decide)
  · exact State.regsKeptBut.wr (by simp) (State.regsKeptBut.wr (by simp) (State.regsKeptBut.wr (by simp) (State.regsKeptBut.wr (by simp)
      State.regsKeptBut.refl)))

/-! ### The statement -/

/-- A channel that may be admitted, whatever its slots hold. -/
theorem channelTrain_meets (s : State) (p : Population) (hc : c < 8) (h0 : s.rd DC_STATUS.STATE c = 0) (hf : s.rd PC_MAP.FINAL = 0)
    (hr : s.ready 0 = true) :
    (p.dimms = 0 → ∃ t, exec (.channelTrain c p) s = .next t ∧ t.rd DC_STATUS.STATE c = 3 ∧ t.rd DC_STATUS.HOLD_CAUSE c = 1 ∧
      t.bit PC_MAP.SET c = false) ∧
    (p.dimms ≠ 0 → p.supported = false → ∃ t, exec (.channelTrain c p) s = .next t ∧ t.rd DC_STATUS.STATE c = 3 ∧
      t.rd DC_STATUS.HOLD_CAUSE c = 2) ∧
    (p.dimms ≠ 0 → p.supported = true → p.same = false → ∃ t, exec (.channelTrain c p) s = .next t ∧ t.rd DC_STATUS.STATE c = 3 ∧
      t.rd DC_STATUS.HOLD_CAUSE c = 3) ∧
    (p.dimms ≠ 0 → p.supported = true → p.same = true → (c, p.serials) ∈ s.fm.record.failed → ∃ t, exec (.channelTrain c p) s = .next t ∧
      t.rd DC_STATUS.STATE c = 3 ∧ t.rd DC_STATUS.HOLD_CAUSE c = 5) ∧
    (p.dimms ≠ 0 → p.supported = true → p.same = true → s.fm.record.failed = [] → ∃ t, exec (.channelTrain c p) s = .next t ∧
      t.rd DC_STATUS.STATE c = 1 ∧ t.rd DC_STATUS.RATE c = p.rate % 8 ∧ t.rd DC_STATUS.CAP_GIB c = min 128 p.gib ∧
      t.rd DC_STATUS.CAP_TRUNC c = (if 128 < p.gib then 1 else 0) ∧ t.bit PC_MAP.SET c = true ∧
      t.rd DC_TRAIN.STORED_TRIED c = (if (c, p.serials, p.rate) ∈ s.fm.record.trained then 1 else 0)) := by
  have hdue := exec_channelTrain_due (p := p) hc h0 hf hr
  refine ⟨fun hd => ?_, fun hd hs => ?_, fun hd hs hm => ?_, fun hd hs hm hbad => ?_, fun hd hs hm hgood => ?_⟩
  · exact ⟨_, hdue.trans (by rw [if_pos hd]), State.holdOut_meets _ hc (by decide)⟩
  · obtain ⟨h1, h2, -⟩ := (s.slotsShown c p).holdOut_meets (cause := 2) hc (by decide)
    exact ⟨_, hdue.trans (by rw [if_neg hd, if_pos (by rw [hs]; rfl)]), h1, h2⟩
  · obtain ⟨h1, h2, -⟩ := (s.slotsShown c p).holdOut_meets (cause := 3) hc (by decide)
    exact ⟨_, hdue.trans (by rw [if_neg hd, if_neg (by rw [hs]; decide), if_pos (by rw [hm]; rfl)]), h1, h2⟩
  · obtain ⟨h1, h2, -⟩ := (s.slotsShown c p).holdOut_meets (cause := 5) hc (by decide)
    have hany : s.fm.record.failed.any (fun f => decide (f.1 = c ∧ f.2 = p.serials)) = true :=
      List.any_eq_true.2 ⟨_, hbad, decide_eq_true ⟨rfl, rfl⟩⟩
    exact ⟨_, hdue.trans (by rw [if_neg hd, if_neg (by rw [hs]; decide), if_neg (by rw [hm]; decide), if_pos hany]), h1, h2⟩
  · obtain ⟨h1, h2, h3, h4, h5, h6⟩ := (s.slotsShown c p).admitted_meets p hc
    refine ⟨_, hdue.trans (by rw [if_neg hd, if_neg (by rw [hs]; decide), if_neg (by rw [hm]; decide), if_neg (by rw [hgood]; exact Bool.false_ne_true)]),
      h1, h2, h3, h4, h5, h6.trans ?_⟩
    have htrained : (s.slotsShown c p).trainedBefore c p = decide ((c, p.serials, p.rate) ∈ s.fm.record.trained) := by
      rw [State.trainedBefore, State.slotsShown_fm, Bool.eq_iff_iff, List.any_eq_true, decide_eq_true_iff]
      refine ⟨fun ⟨x, hx, he⟩ => ?_, fun hx => ⟨_, hx, decide_eq_true ⟨rfl, rfl, rfl⟩⟩⟩
      obtain ⟨h1, h2, h3⟩ := of_decide_eq_true he
      rwa [← h1, ← h2, ← h3]
    rw [htrained, b2n]
    simp only [decide_eq_true_eq]

/-- Settles O38: admission by what the slots hold, the end of a training, the placed area, and a lemma for each of the channel's events. -/
theorem dramChannels : Obligations.DramChannels := by
  unfold Obligations.DramChannels
  intro s c hc
  refine ⟨fun p h => exec_channelTrain_idle hc h, fun p h0 hf hr => channelTrain_meets s p hc h0 hf hr, fun x f m l h => ?_,
    fun f n ms h1 hst => ?_, fun x n ms h1 hst => ?_, fun x n ms h1 hst hq hcomb => ?_,
    fun h => exec_area_idle (c := c) (h.imp_right fun h => ⟨hc, h⟩), fun sz hf hend hsz hfit htop => ?_, fun hf hend htop => ?_, fun h => ?_,
    fun sz hw hl hqs hlog hpj htr hsz hfit htop => ?_, fun k owed hk ho => refresh_meets s hc hk owed ho, fun p => exec_dramWriteback_idle,
    fun p => writeback_meets, fun b => exec_fillComplete_idle hc, fun b _ h hh hw => fill_meets hc h hh hw, flip_meets s hc, fun h => ?_⟩
  · rw [exec_trainingDone, execTrainingDone, need_pos (decide_eq_true hc), if_pos h]
  · have hv : verified s c true = true := by rw [verified, (s.on_iff ..).2 hst]; rfl
    obtain ⟨h2, h3, h4, h5, -, h7, h8⟩ := trainingPassed_meets s hc true f ms _ rfl
    rw [hv] at h4 h5
    exact ⟨_, exec_trainingDone_passes hc h1 (.inl hv) n ms, h2, h3, h4, h5, h7, h8⟩
  · have hv : verified s c x = false := by rw [verified, s.on_eq_false hst]; rfl
    obtain ⟨h2, h3, h4, -, h6, -⟩ := trainingPassed_meets s hc x true ms _ rfl
    rw [hv] at h4 h6
    exact ⟨_, exec_trainingDone_passes hc h1 (.inr rfl) n ms, h2, h3, h4, h6⟩
  · have hv : verified s c x = false := by rw [verified, s.on_eq_false hst]; rfl
    exact ⟨_, exec_trainingDone_fails hc h1 hv n ms, trainingFailed_meets s hc hq hcomb x n ms _ rfl⟩
  · obtain rfl : sz = s.planSize := hsz
    obtain ⟨h1, h2, h3, h4, h5, h6, h7, h8⟩ := State.placeArea_meets hfit htop
    refine ⟨_, exec_area_due hf hend, State.rd_area_final .., ?_⟩
    simp (disch := decide) only [State.rd_area]
    exact ⟨h1, h2, h3, h4, h5, h6, h7, h8⟩
  · obtain ⟨h1, h2⟩ := s.clearRegions_meets
    refine ⟨_, exec_area_due hf hend, State.rd_area_final .., ?_⟩
    simp (disch := decide) only [State.rd_area]
    rw [State.placeArea_none htop, State.rd_post, State.rd_post]
    exact ⟨h1, h2⟩
  · refine ⟨_, exec_replan_refused fun hr => ?_, State.rd_wr_fit (by decide), State.regsKeptBut.wr (List.mem_singleton_self _)
      State.regsKeptBut.refl, rfl⟩
    rcases h with h | h | h | h | h | h
    · exact h hr.winder
    · exact h hr.loader
    · exact h (hr.queues c (by omega))
    · exact h hr.logging
    · exact h hr.journal
    · exact h hr.tracing
  · obtain rfl : sz = s.planSize := hsz
    obtain ⟨h1, h2, h3, -⟩ := State.placeArea_meets hfit htop
    exact ⟨_, exec_replan_taken ⟨hw, hl, fun q hq => by simpa using List.all_eq_true.1 hqs q (List.mem_range.2 hq), hlog, hpj, htr⟩, h1, h2, h3,
      State.placeArea_registers hfit⟩
  · refine ⟨s.put DC_STATUS.HOT h c, by rw [exec_dimmThermalSensor, execDimmThermalSensor, need_pos (decide_eq_true hc)], ?_,
      State.regsKeptBut.put (List.mem_singleton_self _) State.regsKeptBut.refl, rfl⟩
    rw [State.rd_put_flag (by decide)]
    rfl

end Sys2Proof.Machine
end


section
/-! PROOF. The Cage's queues: the rules of a queue's hidden state, for the proofs below (12 R322 to R343). -/

namespace Sys2Proof.Machine

variable {s t : State} {q : Nat} {x : Queue} {f : Fld}

/-! ### What a change of a queue leaves -/

@[simp] theorem State.queue_setQu (s : State) (q : Nat) (x : Queue) : (s.setQu q x).queue q = x := Tab.get_set_same ..

@[simp] theorem State.queue_updQu (s : State) (q : Nat) (g : Queue → Queue) : (s.updQu q g).queue q = g (s.queue q) := s.queue_setQu q _

@[simp] theorem State.queue_wr (s : State) (f : Fld) (v u j r : Nat) : (s.wr f v u j).queue r = s.queue r := rfl

@[simp] theorem State.queue_countWrap (s : State) (f : Fld) (n u j r : Nat) : (s.countWrap f n u j).queue r = s.queue r := rfl

/-- The fields that follow a queue's hidden state (R343). -/
def queueShown : List Fld := [QU_STATUS.DB_PEND, QU_STATUS.FILL_OFS, QU_STATUS.SPILLED, QU_STATUS.BACKPRESSURE]

theorem State.rd_setQu_other (h : ∀ g ∈ queueShown, f.id ≠ g.id) (s : State) (q : Nat) (x : Queue) (u j : Nat) :
    (s.setQu q x).rd f u j = s.rd f u j := by
  simp only [queueShown, List.forall_mem_cons] at h
  obtain ⟨h1, h2, h3, h4, -⟩ := h
  rw [State.setQu]
  rw [State.rd_put_other h4, State.rd_wr_other _ h3, State.rd_wr_other _ h2, State.rd_wr_other _ h1]
  rfl

theorem State.rd_setQu_pending (s : State) (q : Nat) (x : Queue) : (s.setQu q x).rd QU_STATUS.DB_PEND q = x.doorbells.length % 2 ^ 7 := by
  rw [State.setQu]
  rw [State.rd_put_other (by decide), State.rd_wr_other _ (by decide), State.rd_wr_other _ (by decide)]
  exact State.rd_wr_same ..

theorem State.on_setQu_other (h : ∀ g ∈ queueShown, f.id ≠ g.id) (s : State) (q : Nat) (x : Queue) (u j : Nat) :
    (s.setQu q x).on f u j = s.on f u j := by rw [State.on, State.on, State.rd_setQu_other h]

@[simp] theorem State.setQu_sent (s : State) (q : Nat) (x : Queue) : (s.setQu q x).sent = s.sent := rfl

@[simp] theorem State.setQu_mem (s : State) (q : Nat) (x : Queue) : (s.setQu q x).mem = s.mem := rfl

@[simp] theorem State.quState_setQu (s : State) (q : Nat) (x : Queue) : (s.setQu q x).quState q = s.quState q :=
  State.rd_setQu_other (by decide) ..

@[simp] theorem State.quUp_setQu (s : State) (q : Nat) (x : Queue) : (s.setQu q x).quUp q = s.quUp q := State.on_setQu_other (by decide) ..

@[simp] theorem State.quWidth_setQu (s : State) (q : Nat) (x : Queue) : (s.setQu q x).quWidth q = s.quWidth q := by
  rw [State.quWidth, State.quWidth, State.rd_setQu_other (by decide)]

/-- Bytes stored change the bytes alone. -/
theorem State.storeBytes_moves_only (s : State) (a : Nat) (l : List Nat) : Moves ⟨true, false, false, false, false, 0⟩ s (s.storeBytes a l) :=
  State.storeBytes_moves rfl Moves.refl

theorem State.queue_storeBytes (s : State) (a : Nat) (l : List Nat) (q : Nat) : (s.storeBytes a l).queue q = s.queue q :=
  congrArg (fun c : Cage => Tab.get Queue.cold c.queues q) ((s.storeBytes_moves_only a l).parts .cage rfl)

theorem State.storeBytes_sent (s : State) (a : Nat) (l : List Nat) : (s.storeBytes a l).sent = s.sent :=
  (s.storeBytes_moves_only a l).parts .sent rfl

theorem State.rd_storeBytes (s : State) (a : Nat) (l : List Nat) (f : Fld) (u j : Nat) : (s.storeBytes a l).rd f u j = s.rd f u j :=
  (s.storeBytes_moves_only a l).parts (.regs f.blk) (Nat.zero_testBit _) f u j rfl

/-! ### The steps that a queue at rest leaves alone -/

/-- A queue that is not STOPPING does not drain into DISABLED. -/
theorem State.checkDrained_keep (h : s.quState q ≠ 2) : s.checkDrained q = s := if_neg fun hn => h hn.1

/-- A STOPPING queue with nothing left is DISABLED. -/
theorem State.checkDrained_cold (h : s.quState q = 2) (hx : s.queue q = .cold) : s.checkDrained q = s.wr QU_STATUS.STATE 0 q := by
  rw [State.checkDrained, hx]
  exact if_pos ⟨h, rfl, rfl, rfl, rfl⟩

theorem State.checkDrained_held (h : (s.queue q).pkts ≠ []) : s.checkDrained q = s := if_neg fun hn => h hn.2.1

/-- A queue whose packets stay as they are: only the fields that show it are written again. -/
def State.reshow (s : State) (q : Nat) : State := if s.quUp q then s.setQu q (s.queue q) else s

/-- Packets of which none can settle. -/
theorem State.settleQu_eq (h : settlePkts (s.queue q).pkts.length (s.queue q) = s.queue q) :
    s.settleQu q = (s.reshow q).checkDrained q := by
  rw [State.settleQu, State.updQu, h]
  rfl

@[simp] theorem State.queue_reshow (s : State) (q : Nat) : (s.reshow q).queue q = s.queue q := by
  unfold State.reshow
  split_ifs
  · exact s.queue_setQu q _
  · rfl

theorem State.rd_reshow (h : ∀ g ∈ queueShown, f.id ≠ g.id) (s : State) (q u j : Nat) : (s.reshow q).rd f u j = s.rd f u j := by
  unfold State.reshow
  split_ifs
  · exact State.rd_setQu_other h ..
  · rfl

@[simp] theorem State.reshow_sent (s : State) (q : Nat) : (s.reshow q).sent = s.sent := by
  unfold State.reshow
  split_ifs <;> rfl

theorem settlePkts_cold (k : Nat) : settlePkts k .cold = .cold := by
  cases k <;> rfl

theorem settlePkts_open {p : QPkt} {r : List QPkt} (hx : x.pkts = p :: r) (hp : p.closed = false) (k : Nat) : settlePkts k x = x := by
  cases k with
  | zero => rfl
  | succ k => simp [settlePkts, hx, hp]

/-- A closed packet of which a line is on the part waits. -/
theorem settlePkts_held {p : QPkt} {r : List QPkt} (hx : x.pkts = p :: r) (hp : x.holds p.seq = true) (k : Nat) : settlePkts k x = x := by
  cases k with
  | zero => rfl
  | succ k => simp [settlePkts, hx, hp]

/-- A bank that holds nothing does not swap unless a flip is pending. -/
theorem State.trySwap_keep (hx : (s.queue q).fill = []) (hf : s.rd QU_STATUS.FLIP_PEND q = 0) : s.trySwap q = s := by
  simp [State.trySwap, hx, s.on_eq_false hf]

/-- A drain bank that is not empty keeps its place. -/
theorem State.trySwap_draining (hx : (s.queue q).drain ≠ []) : s.trySwap q = s := by
  simp [State.trySwap, hx]

/-- With nothing older on the part no bank spills. -/
theorem State.startSpill_keep (hd : (s.queue q).drain = []) (hs : (s.queue q).spill = []) : s.startSpill q = s := by
  simp [State.startSpill, hd, hs]

theorem State.fillRoom_empty (hx : (s.queue q).fill = []) (hs : (s.queue q).spilling = false) (hf : s.rd QU_STATUS.FLIP_PEND q = 0) :
    s.fillRoom q = true := by
  have hpos : 0 < s.bankBytes q := Nat.two_pow_pos _
  have hfull : s.fillFull q = false := decide_eq_false (by rw [hx]; simpa using hpos.ne')
  rw [State.fillRoom, hfull, hs, s.on_eq_false hf]
  rfl

/-- A queue with nothing held moves on to itself. -/
theorem State.moveOn_cold (hx : s.queue q = .cold) (h2 : s.quState q ≠ 2) :
    s.moveOn q = if s.quUp q = true ∧ (s.quState q = 1 ∨ s.quState q = 2) then s.setQu q .cold else s := by
  have hfeed : s.feed q (s.queue q).waiting.length = s := by rw [hx]; rfl
  rw [State.moveOn, hfeed, State.checkDrained_keep h2]
  refine if_ctx_congr Iff.rfl (fun hup => ?_) fun _ => rfl
  rw [State.settleQu_eq (by rw [hx, settlePkts_cold]), State.reshow, if_pos hup.1, hx, State.checkDrained_keep (by rwa [State.quState_setQu])]

end Sys2Proof.Machine
end

section
/-! PROOF. Queue commands, windows and doorbells (O34; 12 R322 to R338). -/

namespace Sys2Proof.Machine

variable {s t : State} {q v w n : Nat} {x : Queue} {f : Fld} {m : Master}

/-! ### Commands (R324 to R326) -/

/-- The configuration fields of `QU_CTRL`. -/
def quConfigFields : List Fld := [QU_CTRL.DIR, QU_CTRL.HMODE, QU_CTRL.BANK_LOG2]

theorem exec_queueEnable_write (hq : q < 4096) (v : Nat) :
    exec (.queueEnable q v) s = .next ((s.quConfig q quConfigFields (v / 4 * 4 + 1)).queueEnable q) := by
  rw [exec_queueEnable, execQueueEnable, need_pos (decide_eq_true hq), State.writeQuCtrl, show (v / 4 * 4 + 1) % 4 = 1 by omega]
  rfl

theorem exec_queueStop_write (hq : q < 4096) (v : Nat) :
    exec (.queueStop q v) s = .next ((s.quConfig q quConfigFields (v / 4 * 4 + 2)).queueStop q) := by
  rw [exec_queueStop, execQueueStop, need_pos (decide_eq_true hq), State.writeQuCtrl, show (v / 4 * 4 + 2) % 4 = 2 by omega]
  rfl

theorem exec_queueAbort_write (hq : q < 4096) (v : Nat) :
    exec (.queueAbort q v) s = .next ((s.quConfig q quConfigFields (v / 4 * 4 + 3)).queueAbort q) := by
  rw [exec_queueAbort, execQueueAbort, need_pos (decide_eq_true hq), State.writeQuCtrl, show (v / 4 * 4 + 3) % 4 = 3 by omega]
  rfl

/-- A field that none of the written ones covers. -/
theorem State.rd_setFields_other {fs : List Fld} {f : Fld} {v u r : Nat} (hf : ∀ g ∈ fs, f.id ≠ g.id) (s : State) :
    (s.setFields fs v q).rd f u r = s.rd f u r := State.rd_foldl_wr_other (g := fun f => f) hf s

theorem State.rd_quConfig_state (s : State) (q v : Nat) (h : s.rd QU_STATUS.STATE q = 0) :
    (s.setFields quConfigFields v q).rd QU_STATUS.STATE q = 0 := by
  exact (State.rd_setFields_other (by decide) s).trans h

theorem exec_queueEnable_refused (hq : q < 4096) (h0 : s.rd QU_STATUS.STATE q = 0)
    (hok : (s.setFields quConfigFields (v / 4 * 4 + 1) q).enableOk q = false) :
    exec (.queueEnable q v) s = .next ((s.setFields quConfigFields (v / 4 * 4 + 1) q).wr QU_STATUS.CFG_ERR 1 q) := by
  have hst : (s.setFields quConfigFields (v / 4 * 4 + 1) q).quState q = 0 := s.rd_quConfig_state q _ h0
  rw [exec_queueEnable_write hq, State.quConfig, if_pos (show s.quState q = 0 from h0), State.queueEnable]
  dsimp only
  rw [if_neg (by omega), if_pos (by rw [hok]; rfl)]

/-- A queue that is enabled, its end not a bin: ACTIVE, empty and at rest. -/
theorem exec_queueEnable_taken (hq : q < 4096) (h0 : s.rd QU_STATUS.STATE q = 0)
    (hok : (s.setFields quConfigFields (v / 4 * 4 + 1) q).enableOk q = true) (hk : s.rd QU_END.KIND q ≠ 2) :
    exec (.queueEnable q v) s = .next
      ((((s.setFields quConfigFields (v / 4 * 4 + 1) q).wr QU_STATUS.STATE 1 q).setQu q .cold).moveOn q) := by
  have hst : (s.setFields quConfigFields (v / 4 * 4 + 1) q).quState q = 0 := s.rd_quConfig_state q _ h0
  have hkind : (((s.setFields quConfigFields (v / 4 * 4 + 1) q).wr QU_STATUS.STATE 1 q).setQu q .cold).rd QU_END.KIND q ≠ 2 := by
    rw [State.rd_setQu_other (by decide), State.rd_wr_other _ (by decide), State.rd_setFields_other (by decide)]
    exact hk
  rw [exec_queueEnable_write hq, State.quConfig, if_pos (show s.quState q = 0 from h0), State.queueEnable]
  dsimp only
  rw [if_neg (by omega), if_neg (by rw [hok]; decide), if_pos hst, if_neg fun h => hkind h.2]

theorem queueEnable_meets (hq : q < 4096) (h0 : s.rd QU_STATUS.STATE q = 0)
    (hok : (s.setFields quConfigFields (v / 4 * 4 + 1) q).enableOk q = true) (hk : s.rd QU_END.KIND q ≠ 2) : ∃ t,
    exec (.queueEnable q v) s = .next t ∧ t.rd QU_STATUS.STATE q = 1 ∧ t.queue q = .cold ∧
    t.rd QU_CTRL.DIR q = v / 4 % 2 ∧ t.rd QU_CTRL.HMODE q = v / 8 % 2 ∧ t.rd QU_CTRL.BANK_LOG2 q = v / 16 % 32 := by
  obtain ⟨y, hy⟩ : ∃ y, y = ((s.setFields quConfigFields (v / 4 * 4 + 1) q).wr QU_STATUS.STATE 1 q).setQu q .cold := ⟨_, rfl⟩
  have hqueue : y.queue q = .cold := hy ▸ State.queue_setQu ..
  have hstate : y.rd QU_STATUS.STATE q = 1 := by
    rw [hy, State.rd_setQu_other (by decide)]
    exact State.rd_wr_fit (by decide)
  have hfields {f : Fld} (hf : f ∈ quConfigFields) (hn : f.id ≠ QU_STATUS.STATE.id) (hs : ∀ g ∈ queueShown, f.id ≠ g.id) :
      y.rd f q = (v / 4 * 4 + 1) / 2 ^ f.lsb % 2 ^ f.wid := by
    rw [hy, State.rd_setQu_other hs, State.rd_wr_other _ hn, State.rd_setFields (by decide) hf, bitsOf_eq]
  have hmove : y.moveOn q = if y.quUp q = true ∧ (y.quState q = 1 ∨ y.quState q = 2) then y.setQu q .cold else y :=
    State.moveOn_cold hqueue (by rw [State.quState, hstate]; decide)
  have hkeep {f : Fld} (hs : ∀ g ∈ queueShown, f.id ≠ g.id) : (y.moveOn q).rd f q = y.rd f q := by
    rw [hmove]
    split_ifs
    · exact State.rd_setQu_other hs ..
    · rfl
  refine ⟨_, (exec_queueEnable_taken hq h0 hok hk).trans (by rw [← hy]), (hkeep (by decide)).trans hstate, ?_, ?_, ?_, ?_⟩
  · rw [hmove]
    split_ifs
    · exact State.queue_setQu ..
    · exact hqueue
  · rw [hkeep (by decide), hfields (by decide) (by decide) (by decide)]
    show (v / 4 * 4 + 1) / 4 % 2 = _
    omega
  · rw [hkeep (by decide), hfields (by decide) (by decide) (by decide)]
    show (v / 4 * 4 + 1) / 8 % 2 = _
    omega
  · rw [hkeep (by decide), hfields (by decide) (by decide) (by decide)]
    show (v / 4 * 4 + 1) / 16 % 32 = _
    omega

theorem exec_queueStop_taken (hq : q < 4096) (h1 : s.rd QU_STATUS.STATE q = 1)
    (hd : s.fieldsDiffer quConfigFields (v / 4 * 4 + 2) q = false) :
    exec (.queueStop q v) s = .next ((s.wr QU_STATUS.STATE 2 q).settleQu q) := by
  have h0 : s.quState q ≠ 0 := by rw [State.quState, h1]; decide
  rw [exec_queueStop_write hq, State.quConfig, if_neg h0, if_neg (by rw [hd]; decide), State.queueStop, if_pos (show s.quState q = 1 from h1)]

theorem State.quState_stopping (s : State) (q : Nat) : (s.wr QU_STATUS.STATE 2 q).rd QU_STATUS.STATE q = 2 := State.rd_wr_fit (by decide)

theorem queueStop_empty_meets (hq : q < 4096) (h1 : s.rd QU_STATUS.STATE q = 1)
    (hd : s.fieldsDiffer quConfigFields (v / 4 * 4 + 2) q = false) (hx : s.queue q = .cold) : ∃ t,
    exec (.queueStop q v) s = .next t ∧ t.rd QU_STATUS.STATE q = 0 ∧ t.queue q = .cold := by
  have hsettle : (s.wr QU_STATUS.STATE 2 q).settleQu q = ((s.wr QU_STATUS.STATE 2 q).reshow q).wr QU_STATUS.STATE 0 q :=
    (State.settleQu_eq (by rw [State.queue_wr, hx, settlePkts_cold])).trans (State.checkDrained_cold
      ((State.rd_reshow (by decide) _ q q 0).trans (s.quState_stopping q)) ((State.queue_reshow _ q).trans hx))
  exact ⟨_, (exec_queueStop_taken hq h1 hd).trans (congrArg _ hsettle), State.rd_wr_fit (by decide), (State.queue_reshow _ q).trans hx⟩

theorem queueStop_open_meets (hq : q < 4096) (h1 : s.rd QU_STATUS.STATE q = 1)
    (hd : s.fieldsDiffer quConfigFields (v / 4 * 4 + 2) q = false) {p : QPkt} {r : List QPkt} (hx : (s.queue q).pkts = p :: r)
    (hp : p.closed = false) : ∃ t, exec (.queueStop q v) s = .next t ∧ t.rd QU_STATUS.STATE q = 2 ∧ t.queue q = s.queue q := by
  have hsettle : (s.wr QU_STATUS.STATE 2 q).settleQu q = (s.wr QU_STATUS.STATE 2 q).reshow q :=
    (State.settleQu_eq (settlePkts_open (x := (s.wr QU_STATUS.STATE 2 q).queue q) hx hp _)).trans
      (State.checkDrained_held (by rw [State.queue_reshow, State.queue_wr, hx]; simp))
  exact ⟨_, (exec_queueStop_taken hq h1 hd).trans (congrArg _ hsettle),
    (State.rd_reshow (by decide) _ q q 0).trans (s.quState_stopping q), State.queue_reshow _ q⟩

/-- A write of fields changes the registers alone. -/
theorem State.setFields_cut (s t : State) (fs : List Fld) (v u j : Nat) : { (t.setFields fs v u j) with regs := s.regs } = { t with regs := s.regs } := by
  unfold State.setFields
  induction fs generalizing t with
  | nil => rfl
  | cons f l ih => exact ih _

/-- What a write of the configuration fields keeps. -/
theorem State.quConfig_sent (s : State) (q v : Nat) (fs : List Fld) : (s.quConfig q fs v).sent = s.sent := by
  unfold State.quConfig
  split_ifs
  · have h := congrArg State.sent (State.setFields_cut s s fs v q 0)
    exact h
  · rfl
  · rfl

theorem State.queueAbort_meets (s : State) (q : Nat) : (s.queueAbort q).rd QU_STATUS.STATE q = 0 ∧
    (s.queueAbort q).rd QU_STATUS.FLIP_PEND q = 0 ∧ (s.queueAbort q).queue q = .cold ∧ (s.queueAbort q).sent = s.sent := by
  unfold State.queueAbort
  extract_lets reset ended
  have hended {f : Fld} (u j : Nat) : ended.rd f u j = reset.rd f u j := by
    unfold ended
    split_ifs <;> rfl
  refine ⟨?_, ?_, State.queue_setQu .., ?_⟩
  · rw [State.rd_setQu_other (by decide), hended, State.rd_wr_other _ (by decide)]
    exact State.rd_wr_fit (by decide)
  · rw [State.rd_setQu_other (by decide), hended]
    exact State.rd_wr_fit (by decide)
  · rw [State.setQu_sent]
    unfold ended
    split_ifs <;> rfl

/-! ### What a step of a queue makes of it -/

/-- The step leaves the queue with the hidden state `x`, sends nothing, and keeps every register that does not show a queue. -/
def State.leavesQueue (s : State) (q : Nat) (x : Queue) (t : State) : Prop :=
  t.queue q = x ∧ t.sent = s.sent ∧ ∀ f : Fld, (∀ g ∈ queueShown, f.id ≠ g.id) → ∀ u j, t.rd f u j = s.rd f u j

theorem State.leavesQueue.refl (h : s.queue q = x) : s.leavesQueue q x s := ⟨h, rfl, fun _ _ _ _ => rfl⟩

theorem State.leavesQueue.setQu {y : Queue} (h : s.leavesQueue q y t) (x : Queue) : s.leavesQueue q x (t.setQu q x) :=
  ⟨t.queue_setQu q x, h.2.1, fun f hf u j => (State.rd_setQu_other hf t q x u j).trans (h.2.2 f hf u j)⟩

theorem State.leavesQueue.storeBytes (h : s.leavesQueue q x t) (a : Nat) (l : List Nat) : s.leavesQueue q x (t.storeBytes a l) :=
  ⟨(t.queue_storeBytes a l q).trans h.1, (t.storeBytes_sent a l).trans h.2.1,
    fun f hf u j => (t.rd_storeBytes a l f u j).trans (h.2.2 f hf u j)⟩

theorem State.leavesQueue.reshow (h : s.leavesQueue q x t) : s.leavesQueue q x (t.reshow q) :=
  ⟨(t.queue_reshow q).trans h.1, (t.reshow_sent q).trans h.2.1,
    fun f hf u j => (State.rd_reshow hf t q u j).trans (h.2.2 f hf u j)⟩

/-- Packets of which the first waits settle to themselves. -/
theorem State.leavesQueue.settleQu (h : s.leavesQueue q x t) (hx : settlePkts x.pkts.length x = x) (hp : x.pkts ≠ []) :
    s.leavesQueue q x (t.settleQu q) := by
  obtain rfl := h.1
  rw [State.settleQu_eq hx, State.checkDrained_held (by rwa [State.queue_reshow])]
  exact h.reshow

/-! ### Pushes (R330, R338) -/

/-- A queue at rest that holds back the words `wt` (R333). -/
def Queue.holding (wt : List (Nat × Bool)) : Queue := { Queue.cold with waiting := wt }

/-- A queue whose only packet is the open one `p`, its bytes so far in the packer. -/
def Queue.packing (wt : List (Nat × Bool)) (p : QPkt) (bytes : List Nat) : Queue :=
  { Queue.cold with waiting := wt, packer := bytes, pkts := [p] }

/-- The packet that a first word opens (R330). -/
def firstPkt (n w : Nat) : QPkt := ⟨n, w, false, false, false, false, false, 1, none⟩

/-- A queue whose only packet is one closed line in the fill bank. -/
def Queue.oneLine (wt : List (Nat × Bool)) (p : QPkt) (valid : Nat) : Queue :=
  { Queue.cold with waiting := wt, fill := [⟨p.seq, valid, true, true, false⟩], pkts := [{ p with closed := true, trunc := false }] }

theorem settlePkts_oneLine (wt : List (Nat × Bool)) (p : QPkt) {valid : Nat} (hv : valid ≠ 0) (k : Nat) :
    settlePkts k (Queue.oneLine wt p valid) = Queue.oneLine wt p valid :=
  settlePkts_held rfl (by simp [Queue.holds, Queue.oneLine, hv]) k

theorem State.leavesQueue.trans {u : State} {y : Queue} (h : s.leavesQueue q x t) (h' : t.leavesQueue q y u) : s.leavesQueue q y u :=
  ⟨h'.1, h'.2.1.trans h.2.1, fun f hf k j => (h'.2.2 f hf k j).trans (h.2.2 f hf k j)⟩

/-- A line enters the fill bank of a queue that holds nothing older. -/
theorem State.placeLine_leaves (hd : (s.queue q).drain = []) (hs : (s.queue q).spill = []) (bytes : List Nat) (tag : QLine) :
    s.leavesQueue q { s.queue q with fill := (s.queue q).fill ++ [tag] } (s.placeLine q bytes tag) := by
  rw [State.placeLine, State.startSpill_keep (by rw [State.queue_setQu]; exact hd) (by rw [State.queue_setQu]; exact hs)]
  exact ((State.leavesQueue.refl rfl).storeBytes _ _).setQu _

/-- The packet of one line as it closes, its line not yet in the bank. -/
def Queue.closing (wt : List (Nat × Bool)) (p : QPkt) : Queue := Queue.packing wt { p with closed := true, trunc := false } []

theorem State.closePkt_packing {wt : List (Nat × Bool)} {b : List Nat} (hx : s.queue q = Queue.packing wt (firstPkt n w) b)
    (hb : b ≠ []) : ∃ bytes, s.closePkt q false =
      ((s.setQu q (Queue.closing wt (firstPkt n w))).placeLine q bytes ⟨n, b.length, true, true, false⟩).settleQu q := by
  refine ⟨bytesOf 4 { firstPkt n w with closed := true, trunc := false }.lengthWord ++ b.drop 4, ?_⟩
  rw [State.closePkt, hx, show (Queue.packing wt (firstPkt n w) b).openPkt = some (firstPkt n w) from rfl]
  simp only [firstPkt, Bool.false_eq_true, if_false, if_true]
  rw [if_neg (by simpa [Queue.packing] using hb)]
  rfl

theorem State.placeLine_closing {wt : List (Nat × Bool)} {p : QPkt} (hx : s.queue q = Queue.closing wt p) (bytes : List Nat) (valid : Nat) :
    s.leavesQueue q (Queue.oneLine wt p valid) (s.placeLine q bytes ⟨p.seq, valid, true, true, false⟩) := by
  have h := s.placeLine_leaves (q := q) (by rw [hx]; rfl) (by rw [hx]; rfl) bytes ⟨p.seq, valid, true, true, false⟩
  rw [hx] at h
  exact h

/-- The open packet of one line closes: its line enters the fill bank, with its length in the first word. -/
theorem State.closePkt_leaves {wt : List (Nat × Bool)} {b : List Nat} (hx : s.queue q = Queue.packing wt (firstPkt n w) b)
    (hb : b ≠ []) : s.leavesQueue q (Queue.oneLine wt (firstPkt n w) b.length) (s.closePkt q false) := by
  obtain ⟨bytes, hclose⟩ := State.closePkt_packing hx hb
  have hset : s.leavesQueue q (Queue.closing wt (firstPkt n w)) (s.setQu q (Queue.closing wt (firstPkt n w))) :=
    (State.leavesQueue.refl rfl).setQu _
  rw [hclose]
  exact (hset.trans (State.placeLine_closing hset.1 bytes b.length)).settleQu
    (settlePkts_oneLine wt (firstPkt n w) (by simpa using hb) _) (List.cons_ne_nil _ _)

/-- A packet opens in a queue that is at rest (R330). -/
theorem State.openPacket_holding {wt : List (Nat × Bool)} (hx : s.queue q = Queue.holding wt)
    (hm : s.belowMark q (s.rd QU_SEQ.NEXT_SEQ q) = false) :
    s.openPacket q = (s.countWrap QU_SEQ.NEXT_SEQ 1 q).setQu q
      (Queue.packing wt (firstPkt (s.rd QU_SEQ.NEXT_SEQ q) 0) (List.replicate (s.quWidth q) 0)) := by
  rw [State.openPacket, hx, hm]
  rfl

theorem State.quWidth_lt (s : State) (q : Nat) : 0 < s.quWidth q ∧ s.quWidth q ≤ 8 := by
  unfold State.quWidth
  split_ifs <;> decide

/-- The first word of a packet, in a queue that is at rest: the packet opens and the word enters the packer (R328, R330). -/
theorem State.takeWord_opens {wt : List (Nat × Bool)} (hx : s.queue q = Queue.holding wt) (hf : s.rd QU_STATUS.FLIP_PEND q = 0)
    (hm : s.belowMark q (s.rd QU_SEQ.NEXT_SEQ q) = false) (hr : 12 ≤ s.rd QU_DATA_RING.DATA_LOG2 q) (word : Nat) (last : Bool) {y : State}
    (hy : y = (s.openPacket q).setQu q (Queue.packing wt (firstPkt (s.rd QU_SEQ.NEXT_SEQ q) (s.quWidth q))
      (List.replicate (s.quWidth q) 0 ++ bytesOf (s.quWidth q) word))) :
    s.takeWord q word last = (.taken, if last then y.closePkt q false else y) := by
  have hring : ¬ 2 ^ s.rd QU_DATA_RING.DATA_LOG2 q < 64 * (0 + 1) := by
    have := Nat.pow_le_pow_right (n := 2) (by decide) hr
    omega
  have hroom : s.fillRoom q = true := State.fillRoom_empty (by rw [hx]; rfl) (by rw [hx]; rfl) hf
  have hswap : s.trySwap q = s := State.trySwap_keep (by rw [hx]; rfl) hf
  have hopen : (Queue.holding wt).openPkt = none := rfl
  have hopened : (s.openPacket q).queue q = Queue.packing wt (firstPkt (s.rd QU_SEQ.NEXT_SEQ q) 0) (List.replicate (s.quWidth q) 0) := by
    rw [State.openPacket_holding hx hm]
    exact State.queue_setQu ..
  have hpkt : (Queue.packing wt (firstPkt (s.rd QU_SEQ.NEXT_SEQ q) 0) (List.replicate (s.quWidth q) 0)).openPkt =
    some (firstPkt (s.rd QU_SEQ.NEXT_SEQ q) 0) := rfl
  have hempty : (Queue.holding wt).packer.isEmpty = true := rfl
  have hshort : (List.replicate (s.quWidth q) 0 ++ bytesOf (s.quWidth q) word).length ≠ 64 := by
    have := s.quWidth_lt q
    rw [List.length_append, List.length_replicate, bytesOf, List.length_map, List.length_range]
    omega
  rw [State.takeWord, hx, hopen]
  simp only [hx, hopen, hempty, hm, hring, hswap, hroom, hopened, hpkt, Option.isNone_none, if_true, Bool.not_false,
    Bool.not_true, Bool.and_true, Bool.and_false, decide_false, Bool.false_eq_true, if_false]
  subst hy
  simp only [firstPkt, Queue.packing, Bool.false_eq_true, if_false, Queue.setLast, if_neg hshort, Nat.zero_add]
  cases last <;> rfl

/-- What an up queue makes of one word that begins a packet: the open packet, or its only line. -/
def Queue.afterFirst (n w word : Nat) (last : Bool) : Queue :=
  if last then Queue.oneLine [] (firstPkt n w) (2 * w)
  else Queue.packing [] (firstPkt n w) (List.replicate w 0 ++ bytesOf w word)

theorem settlePkts_afterFirst (n word : Nat) {w : Nat} (hw : 0 < w) (last : Bool) (k : Nat) :
    settlePkts k (Queue.afterFirst n w word last) = Queue.afterFirst n w word last := by
  cases last with
  | false => exact settlePkts_open rfl rfl k
  | true => exact settlePkts_oneLine [] _ (by omega) k

/-- The word that waited enters (R330, R333). -/
theorem State.feed_first {word : Nat} {last : Bool} (hx : s.queue q = Queue.holding [(word, last)])
    (hf : s.rd QU_STATUS.FLIP_PEND q = 0) (hm : s.belowMark q (s.rd QU_SEQ.NEXT_SEQ q) = false)
    (hr : 12 ≤ s.rd QU_DATA_RING.DATA_LOG2 q) : (s.countWrap QU_SEQ.NEXT_SEQ 1 q).leavesQueue q
      (Queue.afterFirst (s.rd QU_SEQ.NEXT_SEQ q) (s.quWidth q) word last) (s.feed q 1) := by
  obtain ⟨y, hy⟩ : ∃ y, y = (s.openPacket q).setQu q (Queue.packing [(word, last)] (firstPkt (s.rd QU_SEQ.NEXT_SEQ q) (s.quWidth q))
      (List.replicate (s.quWidth q) 0 ++ bytesOf (s.quWidth q) word)) := ⟨_, rfl⟩
  have hopened : (s.countWrap QU_SEQ.NEXT_SEQ 1 q).leavesQueue q (Queue.packing [(word, last)] (firstPkt (s.rd QU_SEQ.NEXT_SEQ q)
      (s.quWidth q)) (List.replicate (s.quWidth q) 0 ++ bytesOf (s.quWidth q) word)) y := by
    rw [hy, State.openPacket_holding hx hm]
    exact ((State.leavesQueue.refl rfl).setQu _).setQu _
  have hfeed : s.feed q 1 = (if last then y.closePkt q false else y).updQu q fun x => { x with waiting := [] } := by
    rw [State.feed, hx, Queue.holding]
    dsimp only
    rw [State.takeWord_opens hx hf hm hr word last hy]
    rfl
  rw [hfeed, State.updQu]
  cases last with
  | false =>
    rw [if_neg (by decide), hopened.1]
    exact hopened.setQu _
  | true =>
    have hne : List.replicate (s.quWidth q) 0 ++ bytesOf (s.quWidth q) word ≠ [] := by
      have := s.quWidth_lt q
      rw [Ne, List.append_eq_nil_iff, List.replicate_eq_nil_iff]
      omega
    have hclosed := hopened.trans (State.closePkt_leaves hopened.1 hne)
    have hlen : (List.replicate (s.quWidth q) 0 ++ bytesOf (s.quWidth q) word).length = 2 * s.quWidth q := by
      rw [List.length_append, List.length_replicate, bytesOf, List.length_map, List.length_range, Nat.two_mul]
    rw [if_pos rfl, hclosed.1, hlen]
    exact hclosed.setQu _

/-- The first word of a packet has moved in (R330). -/
theorem State.moveOn_first {word : Nat} {last : Bool} (hx : s.queue q = Queue.holding [(word, last)]) (hup : s.quUp q = true)
    (hact : s.quState q = 1) (hf : s.rd QU_STATUS.FLIP_PEND q = 0) (hm : s.belowMark q (s.rd QU_SEQ.NEXT_SEQ q) = false)
    (hr : 12 ≤ s.rd QU_DATA_RING.DATA_LOG2 q) : (s.countWrap QU_SEQ.NEXT_SEQ 1 q).leavesQueue q
      (Queue.afterFirst (s.rd QU_SEQ.NEXT_SEQ q) (s.quWidth q) word last) (s.moveOn q) := by
  have hone : (s.queue q).waiting.length = 1 := by rw [hx]; rfl
  rw [State.moveOn, if_pos ⟨hup, .inl hact⟩, hone]
  refine (State.feed_first hx hf hm hr).settleQu (settlePkts_afterFirst _ _ (s.quWidth_lt q).1 _ _) ?_
  cases last <;> exact List.cons_ne_nil _ _

/-- A push that an up queue takes as the first word of a packet. -/
theorem State.push_first {word : Nat} {last posted : Bool} (hw : w = s.quWidth q) (hup : s.quUp q = true) (hb : s.boundTo q m = true)
    (hact : s.quState q = 1) (hx : s.queue q = .cold) (hf : s.rd QU_STATUS.FLIP_PEND q = 0)
    (hm : s.belowMark q (s.rd QU_SEQ.NEXT_SEQ q) = false) (hr : 12 ≤ s.rd QU_DATA_RING.DATA_LOG2 q) :
    (s.push q m w word last posted false).1 = 0 ∧
    (s.push q m w word last posted false).2.queue q = Queue.afterFirst (s.rd QU_SEQ.NEXT_SEQ q) w word last ∧
    (s.push q m w word last posted false).2.sent = s.sent ∧
    (s.push q m w word last posted false).2.rd QU_SEQ.NEXT_SEQ q = (s.rd QU_SEQ.NEXT_SEQ q + 1) % 2 ^ 32 := by
  obtain ⟨y, hy⟩ : ∃ y, y = s.setQu q (Queue.holding [(word, last)]) := ⟨_, rfl⟩
  have hpush : s.push q m w word last posted false = (0, y.moveOn q) := by
    rw [State.push, if_pos ⟨hw, by simp, hup, hb, hact⟩, State.updQu, hx, hy]
    rfl
  have hrd {f : Fld} (h : ∀ g ∈ queueShown, f.id ≠ g.id) (u j : Nat) : y.rd f u j = s.rd f u j := by
    rw [hy]
    exact State.rd_setQu_other h ..
  have hmark (k : Nat) : y.belowMark q k = s.belowMark q k := by rw [State.belowMark, State.belowMark, hrd (by decide)]
  have hmove := State.moveOn_first (s := y) (q := q) (hy ▸ State.queue_setQu ..) (by rw [hy, State.quUp_setQu, hup])
    (by rw [hy, State.quState_setQu, hact]) (by rw [hrd (by decide), hf]) (by rw [hrd (by decide), hmark, hm]) (by rwa [hrd (by decide)])
  rw [hpush]
  refine ⟨rfl, ?_⟩
  have hwidth : y.quWidth q = s.quWidth q := by rw [hy, State.quWidth_setQu]
  rw [hrd (by decide), hwidth, ← hw] at hmove
  refine ⟨hmove.1, hmove.2.1.trans (hy ▸ rfl), (hmove.2.2 _ (by decide) q 0).trans ?_⟩
  rw [State.rd_countWrap_same, hrd (by decide)]
  rfl

theorem exec_quPush_first (hq : q < 4096) (word tag : Nat) (last : Bool) (hw : w = s.quWidth q) (hup : s.quUp q = true)
    (hb : s.boundTo q m = true) (hact : s.quState q = 1) (hx : s.queue q = .cold) (hf : s.rd QU_STATUS.FLIP_PEND q = 0)
    (hm : s.belowMark q (s.rd QU_SEQ.NEXT_SEQ q) = false) (hr : 12 ≤ s.rd QU_DATA_RING.DATA_LOG2 q) : ∃ t,
    exec (if last then .quPushLast q m w word tag false false else .quPush q m w word tag false false) s = .next t ∧
    t.rd QU_SEQ.NEXT_SEQ q = (s.rd QU_SEQ.NEXT_SEQ q + 1) % 2 ^ 32 ∧
    t.queue q = Queue.afterFirst (s.rd QU_SEQ.NEXT_SEQ q) w word last ∧
    t.sent = s.sent ++ [Emission.response 644 (masterNi m) tag 0 0 false] := by
  have hmoves : Moves (Foot.only [.regs .tr, .tram]) s (s.sawPush m) := State.sawPush_moves (Sub.list rfl rfl) Moves.refl
  have hrd {f : Fld} (h : f.blk ≠ .tr) (u j : Nat) : (s.sawPush m).rd f u j = s.rd f u j := hmoves.rd_kept (by simpa using h) u j
  have hqueue : (s.sawPush m).queue q = s.queue q :=
    congrArg (fun c : Cage => Tab.get Queue.cold c.queues q) (hmoves.parts .cage (partsMask_not (by decide)))
  have hsent : (s.sawPush m).sent = s.sent := hmoves.parts .sent (partsMask_not (by decide))
  have hbound : (s.sawPush m).boundTo q m = s.boundTo q m := by
    simp (disch := decide) only [State.boundTo, hrd]
  have hmark (k : Nat) : (s.sawPush m).belowMark q k = s.belowMark q k := by rw [State.belowMark, State.belowMark, hrd (by decide)]
  have hwidth : (s.sawPush m).quWidth q = s.quWidth q := by rw [State.quWidth, State.quWidth, hrd (by decide)]
  obtain ⟨hstatus, hx', hsent', hseq⟩ := State.push_first (s := s.sawPush m) (m := m) (q := q) (w := w) (word := word) (last := last)
    (posted := false) (by rw [hwidth, hw]) (by rw [State.quUp, State.on, hrd (by decide)]; exact hup) (by rw [hbound, hb])
    (by rw [State.quState, hrd (by decide)]; exact hact) (by rw [hqueue, hx]) (by rw [hrd (by decide), hf])
    (by rw [hrd (by decide), hmark, hm]) (by rwa [hrd (by decide)])
  rw [hrd (by decide)] at hx' hseq
  refine ⟨((s.sawPush m).push q m w word last false false).2.quAnswer m tag 0 0 false, ?_, hseq, hx', ?_⟩
  · cases last with
    | false =>
      rw [if_neg (by decide), exec_quPush, execQuPush, need_pos (decide_eq_true hq), ← hstatus]
      rfl
    | true =>
      rw [if_pos rfl, exec_quPushLast, execQuPushLast, need_pos (decide_eq_true hq), ← hstatus]
      rfl
  · rw [← hsent, ← hsent']
    rfl

/-- A push of a word of the right size that the queue refuses (R338). -/
theorem exec_quPush_refused (hq : q < 4096) (word tag : Nat) (last : Bool) (hs : s.rd QU_STATUS.STATE q ≠ 1 ∨ s.rd QU_CTRL.DIR q = 0)
    (hw : w = s.quWidth q) :
    exec (if last then .quPushLast q (.stope n) w word tag false false else .quPush q (.stope n) w word tag false false) s =
      .next { s with sent := s.sent ++ [Emission.response 644 n tag 1 0 false] } := by
  have hpush : s.push q (.stope n) w word last false false = (1, s) := by
    rw [State.push, if_neg ?_, if_neg (by decide), if_pos hw]
    rintro ⟨-, -, hup, -, hact⟩
    exact hs.elim (fun h => h hact) fun h => by rw [State.quUp, s.on_eq_false h] at hup; cases hup
  cases last with
  | false =>
    rw [if_neg (by decide), exec_quPush, execQuPush, need_pos (decide_eq_true hq), show s.sawPush (.stope n) = s from rfl, hpush]
    rfl
  | true =>
    rw [if_pos rfl, exec_quPushLast, execQuPushLast, need_pos (decide_eq_true hq), show s.sawPush (.stope n) = s from rfl, hpush]
    rfl

/-- A posted push that the queue refuses shows in `PUSH_ERR` and in the log. -/
theorem exec_quPush_posted_refused (hq : q < 4096) (word tag : Nat) (hs : s.rd QU_STATUS.STATE q ≠ 1 ∨ w ≠ s.quWidth q) : ∃ t,
    exec (.quPush q (.stope n) w word tag true false) s = .next t ∧ t.rd QU_STATUS.PUSH_ERR q = 1 ∧
    s.regsKeptBut t [QU_STATUS.PUSH_ERR.key q] ∧ { t with regs := s.regs, events := s.events } = s := by
  have hpush : s.push q (.stope n) w word false true false =
      (1, (if s.on QU_STATUS.PUSH_ERR q then s else s.post 2 0x0021 1 q).wr QU_STATUS.PUSH_ERR 1 q) := by
    rw [State.push, if_neg ?_, if_pos rfl]
    rintro ⟨hw, -, -, -, hact⟩
    exact hs.elim (fun h => h hact) fun h => h hw
  refine ⟨(if s.on QU_STATUS.PUSH_ERR q then s else s.post 2 0x0021 1 q).wr QU_STATUS.PUSH_ERR 1 q, ?_, State.rd_wr_fit (by decide), ?_, ?_⟩
  · rw [exec_quPush, execQuPush, need_pos (decide_eq_true hq), show s.sawPush (.stope n) = s from rfl, hpush]
    rfl
  · refine State.regsKeptBut.wr (by simp) ?_
    split_ifs <;> exact .refl
  · split_ifs <;> rfl

/-! ### Pops (R338) -/

theorem exec_quPop_answer (hq : q < 4096) {st tag word : Nat} {peek poison : Bool} (h : s.pop q m w peek = (st, word, poison, t)) :
    exec (.quPop q m w tag peek) s = .next (t.quAnswer m tag st word poison) := by
  rw [exec_quPop, execQuPop, need_pos (decide_eq_true hq), h]

theorem State.pop_size (h : w ≠ s.quWidth q) (m : Master) (peek : Bool) : s.pop q m w peek = (5, 0, false, s) := if_pos h

theorem State.pop_target (hw : w = s.quWidth q) (h : s.rd QU_CTRL.DIR q ≠ 0 ∨ s.boundTo q m = false) :
    s.pop q m w false = (1, 0, false, s) := by
  rw [State.pop, if_neg (not_not.2 hw)]
  by_cases hup : s.quUp q ∨ !s.moves q
  · rw [if_pos hup]
  · rw [if_neg hup, if_neg (by simp), if_pos]
    refine h.elim (fun hd => absurd (Or.inl ?_) hup) fun hb => by rw [hb]; rfl
    simpa [State.quUp, State.on_iff] using hd

theorem dropDead_keep {l : QLine} {r : List QLine} (hd : x.drain = l :: r) (hl : l.valid ≠ 0) : dropDead x = x := by
  rw [dropDead, hd, List.takeWhile_cons_of_neg (by simpa using hl)]
  show { x with drain := l :: r, drainPos := x.drainPos } = x
  rw [← hd]

/-- A drain bank whose first line is no dead one keeps its order: only the shown fields are written again. -/
theorem State.advance_draining {l : QLine} {r : List QLine} (hd : (s.queue q).drain = l :: r) (hl : l.valid ≠ 0) :
    s.advance q = s.setQu q (s.queue q) := by
  have hdead : dropDead (s.queue q) = s.queue q := dropDead_keep hd hl
  have hq : (s.setQu q (s.queue q)).queue q = s.queue q := s.queue_setQu q _
  have hback : (s.setQu q (s.queue q)).tryCopyBack q = s.setQu q (s.queue q) := by rw [State.tryCopyBack, hq, hd]
  rw [State.advance, State.updQu, hdead, hback]
  exact State.trySwap_draining (by rw [hq, hd]; exact List.cons_ne_nil _ _)

/-- The first word of a packet in the drain bank is its first line's first word. -/
theorem State.nextWord_draining {l : QLine} {r : List QLine} {p : QPkt} {ps : List QPkt} (hr : s.sampler.replay = [])
    (hp : (s.queue q).pkts = p :: ps) (hc : p.closed = true) (hd : (s.queue q).drain = l :: r) (hseq : l.seq = p.seq) (hl : l.valid ≠ 0)
    (h0 : (s.queue q).popped = 0) :
    s.nextWord q = some (s.load (s.bankAddr q (s.drainBank q) + 64 * (s.queue q).drainPos) (s.quWidth q), l.poison) := by
  have hreplay : s.replayPkt q = none := by rw [State.replayPkt, hr]; rfl
  have hfirst : (s.pktLines q p.seq)[0]? = some (s.bankAddr q (s.drainBank q) + 64 * (s.queue q).drainPos + 64 * 0, l) := by
    rw [State.pktLines, hd]
    simp [List.range_succ_eq_map, hseq, hl]
  rw [State.nextWord, hreplay]
  dsimp only
  rw [hp]
  dsimp only
  rw [if_pos hc, hfirst, h0]
  rfl

/-- The end takes the first word of a closed packet, in its first line (R338). -/
theorem State.popWord_first {l : QLine} {p : QPkt} (hr : s.sampler.replay = []) (hlog : s.rd WD_SMP_CTRL.LOG_EN = 0)
    (hp : (s.queue q).pkts = [p]) (hc : p.closed = true) (hpos : 0 < p.len) (hd : (s.queue q).drain = [l]) (hseq : l.seq = p.seq)
    (hl : l.valid ≠ 0) (hlp : l.poison = false) (h0 : (s.queue q).popped = 0) :
    s.popWord q = some ((s.load (s.bankAddr q (s.drainBank q) + 64 * (s.queue q).drainPos) (s.quWidth q), false),
      (s.setQu q (s.queue q)).setQu q { s.queue q with popped := 1, pkts := [p] }) := by
  have hreplay : s.replayPkt q = none := by rw [State.replayPkt, hr]; rfl
  obtain ⟨y, hy⟩ : ∃ y, y = s.setQu q (s.queue q) := ⟨_, rfl⟩
  have hq : y.queue q = s.queue q := hy ▸ s.queue_setQu q _
  have hrd {f : Fld} (h : ∀ g ∈ queueShown, f.id ≠ g.id) (u j : Nat) : y.rd f u j = s.rd f u j := by
    rw [hy]
    exact State.rd_setQu_other h ..
  have hword : y.nextWord q = some (s.load (s.bankAddr q (s.drainBank q) + 64 * (s.queue q).drainPos) (s.quWidth q), false) := by
    rw [State.nextWord_draining (by rw [hy]; exact hr) (by rw [hq, hp]) hc (by rw [hq, hd]) hseq hl (by rw [hq, h0]), hlp, hq]
    have hwidth : y.quWidth q = s.quWidth q := by rw [hy, State.quWidth_setQu]
    have haddr : y.bankAddr q (y.drainBank q) = s.bankAddr q (s.drainBank q) := by
      simp (disch := decide) only [State.bankAddr, State.bankBytes, State.drainBank, State.fillBank, hrd]
    rw [hwidth, haddr, hy]
    rfl
  have hlogged (b : LogRecord) : y.logRecord b = y := by
    rw [State.logRecord, y.on_eq_false (by rw [hrd (by decide), hlog])]
    rfl
  have hw := s.quWidth_lt q
  rw [State.popWord, hreplay]
  dsimp only
  rw [State.advance_draining hd hl, ← hy, hq, hp]
  have hmore : decide (p.len ≤ s.quWidth q * (0 + 1 - 1)) = false := decide_eq_false (by omega)
  have hinside : decide (s.quWidth q * (0 + 1) % 64 = 0) = false := decide_eq_false (by omega)
  simp only [hword, hc, h0, hq, hlogged, hmore, hinside, Option.map_some, Bool.not_true, Bool.false_eq_true, if_true, if_false, Bool.or_false,
    Nat.zero_add]
  rw [← hc]

/-! ### Doorbells (R336, R337) -/

theorem exec_doorbell (hq : q < 4096) (len : Nat) : exec (.quDoorbell q len) s = .next (s.doorbell q len) := by
  rw [exec_quDoorbell, execQuDoorbell, need_pos (decide_eq_true hq)]

theorem exec_flip (hq : q < 4096) (len : Nat) : exec (.doorbellFlip q len) s = .next (s.flip q len) := by
  rw [exec_doorbellFlip, execDoorbellFlip, need_pos (decide_eq_true hq)]

theorem State.doorbell_dropped (h : s.rd QU_STATUS.STATE q ≠ 1 ∨ s.rd QU_CTRL.DIR q ≠ 0 ∨ 64 ≤ (s.queue q).doorbells.length) (len : Nat) :
    s.doorbell q len = s.wr QU_STATUS.DB_OVF 1 q := by
  rw [State.doorbell, if_pos]
  exact h.imp_right (Or.imp_left (s.on_iff ..).2)

/-- A doorbell of a queue with a host ring waits behind the others (R336). -/
theorem State.doorbell_waits {len : Nat} (h1 : s.rd QU_STATUS.STATE q = 1) (hd : s.rd QU_CTRL.DIR q = 0)
    (hn : (s.queue q).doorbells.length < 64) (hh : s.rd QU_CTRL.HMODE q = 0)
    (hlen : 64 * lineCount (s.quWidth q) len ≤ 2 ^ s.rd QU_DATA_RING.DATA_LOG2 q) :
    s.doorbell q len = s.setQu q { s.queue q with doorbells := (s.queue q).doorbells ++ [len] } := by
  rw [State.doorbell, if_neg, if_pos hh, if_neg (by omega)]
  rintro (hn1 | hup | hfull)
  · exact hn1 h1
  · rw [State.quUp, s.on_eq_false hd] at hup
    cases hup
  · omega

theorem State.flip_dropped (h : s.rd QU_STATUS.STATE q ≠ 1 ∨ s.rd QU_CTRL.DIR q ≠ 0) (len : Nat) :
    s.flip q len = s.wr QU_STATUS.DB_OVF 1 q := by
  rw [State.flip, if_pos]
  exact h.imp_right (s.on_iff ..).2

theorem State.quDown_active (h1 : s.rd QU_STATUS.STATE q = 1) (hd : s.rd QU_CTRL.DIR q = 0) : ¬ (s.quState q ≠ 1 ∨ s.quUp q = true) := by
  rintro (hn | hup)
  · exact hn h1
  · rw [State.quUp, s.on_eq_false hd] at hup
    cases hup

theorem State.flip_refused {len : Nat} (h1 : s.rd QU_STATUS.STATE q = 1) (hd : s.rd QU_CTRL.DIR q = 0)
    (h : s.rd QU_CTRL.HMODE q = 0 ∨ len ≠ 0) : s.flip q len = s.wr QU_STATUS.CFG_ERR 1 q := by
  rw [State.flip, if_neg (State.quDown_active h1 hd), if_pos h]

/-- A pending flip closes the fill bank at once where the drain bank is free (R337). -/
theorem State.trySwap_flip (hf : s.on QU_STATUS.FLIP_PEND q = true) (hd : (s.queue q).drain = []) (hs : (s.queue q).spill = [])
    (hb : (s.queue q).spilling = false) : s.trySwap q =
      ((s.wr QU_STATUS.FILL_BANK (1 - s.fillBank q) q).wr QU_STATUS.FLIP_PEND 0 q).setQu q
        { s.queue q with drain := (s.queue q).fill, drainPos := 0, fill := [] } := by
  exact if_pos (by rw [hd, hs, hb, hf]; rfl)

/-- With no doorbell waiting for the swap the queue keeps its hidden state. -/
theorem State.directPending_none (hx : (s.queue q).doorbells = []) :
    s.directPending q = if s.rd QU_CTRL.HMODE q = 1 ∧ !s.on QU_STATUS.FLIP_PEND q then s.setQu q (s.queue q) else s := by
  have hkeep : { s.queue q with doorbells := [] } = s.queue q := by rw [← hx]
  rw [State.directPending, hx, State.updQu, hkeep]
  rfl

theorem State.flip_meets (h1 : s.rd QU_STATUS.STATE q = 1) (hd : s.rd QU_CTRL.DIR q = 0) (hh : s.rd QU_CTRL.HMODE q = 1)
    (hb : (s.queue q).doorbells = []) (hdr : (s.queue q).drain = []) (hs : (s.queue q).spill = []) (hsp : (s.queue q).spilling = false)
    (hfb : s.rd QU_STATUS.FILL_BANK q ≤ 1) : (s.flip q 0).rd QU_STATUS.FLIP_PEND q = 0 ∧
      (s.flip q 0).rd QU_STATUS.FILL_BANK q = 1 - s.rd QU_STATUS.FILL_BANK q ∧
      ((s.flip q 0).queue q).drain = (s.queue q).fill ∧ ((s.flip q 0).queue q).fill = [] := by
  obtain ⟨y, hy⟩ : ∃ y, y = ((((s.wr QU_STATUS.FLIP_PEND 1 q).wr QU_STATUS.FILL_BANK (1 - s.rd QU_STATUS.FILL_BANK q) q).wr
    QU_STATUS.FLIP_PEND 0 q).setQu q { s.queue q with drain := (s.queue q).fill, drainPos := 0, fill := [] }) := ⟨_, rfl⟩
  have hpend : (s.wr QU_STATUS.FLIP_PEND 1 q).on QU_STATUS.FLIP_PEND q = true := State.on_of_rd_eq_one (State.rd_wr_fit (by decide))
  have hswap : (s.wr QU_STATUS.FLIP_PEND 1 q).trySwap q = y := by
    rw [State.trySwap_flip hpend hdr hs hsp, State.fillBank, State.rd_wr_other _ (by decide), hy]
    rfl
  have hyq : y.queue q = { s.queue q with drain := (s.queue q).fill, drainPos := 0, fill := [] } := hy ▸ State.queue_setQu ..
  have hflip : s.flip q 0 = if y.rd QU_CTRL.HMODE q = 1 ∧ !y.on QU_STATUS.FLIP_PEND q then y.setQu q (y.queue q) else y := by
    rw [State.flip, if_neg (State.quDown_active h1 hd), if_neg (by omega), hswap, State.directPending_none (by rw [hyq]; exact hb)]
  have hrd {f : Fld} (h : ∀ g ∈ queueShown, f.id ≠ g.id) : (s.flip q 0).rd f q = y.rd f q := by
    rw [hflip]
    split_ifs
    · exact State.rd_setQu_other h ..
    · rfl
  have hqueue : (s.flip q 0).queue q = y.queue q := by
    rw [hflip]
    split_ifs
    · exact State.queue_setQu ..
    · rfl
  refine ⟨?_, ?_, by rw [hqueue, hyq], by rw [hqueue, hyq]⟩
  · rw [hrd (by decide), hy, State.rd_setQu_other (by decide)]
    exact State.rd_wr_fit (by decide)
  · rw [hrd (by decide), hy, State.rd_setQu_other (by decide), State.rd_wr_other _ (by decide)]
    exact State.rd_wr_fit (by change _ < 2 ^ 1; omega)

/-- Settles O34: a clause per command, over the rules of a queue's hidden state; a first word moves through an empty queue in one step. -/
theorem queueWindows : Obligations.QueueWindows := by
  unfold Obligations.QueueWindows
  intro s q hq
  refine ⟨fun v h0 hok hk => queueEnable_meets hq h0 hok hk, fun v h0 hok => ?_, fun v h1 hd hx => queueStop_empty_meets hq h1 hd hx,
    fun v p r h1 hd hx hp => queueStop_open_meets hq h1 hd hx hp, fun v => ?_, ?_, ?_, fun n w word tag hs => ?_, fun m w tag hw => ?_,
    fun m w tag hw h => ?_, ?_, fun len h => ?_, fun len h1 hd hn hh hlen => ?_, fun len h => ?_, fun len h1 hd h => ?_, ?_⟩
  · exact ⟨_, exec_queueEnable_refused hq h0 hok, State.rd_wr_fit (by decide),
      (State.rd_wr_other _ (by decide)).trans (s.rd_quConfig_state q _ h0), State.setFields_cut ..⟩
  · obtain ⟨hst, hf, hx, hsent⟩ := (s.quConfig q quConfigFields (v / 4 * 4 + 3)).queueAbort_meets q
    exact ⟨_, exec_queueAbort_write hq v, hst, hf, hx, hsent.trans (s.quConfig_sent ..)⟩
  · rintro m w tag n hact hdir hb hx hw hf hm hr rfl
    have hup : s.quUp q = true := (s.on_iff ..).2 hdir
    refine ⟨fun word => ?_, fun word => ?_⟩
    · exact exec_quPush_first hq word tag false hw hup hb hact hx hf hm hr
    · obtain ⟨t, ht, hseq, hqueue, hsent⟩ := exec_quPush_first (m := m) hq word tag true hw hup hb hact hx hf hm hr
      exact ⟨t, ht, hseq, by rw [hqueue]; rfl, by rw [hqueue]; rfl, by rw [hqueue]; rfl, hsent⟩
  · exact fun n w word tag h hw => ⟨exec_quPush_refused hq word tag false h hw, exec_quPush_refused hq word tag true h hw⟩
  · exact exec_quPush_posted_refused hq word tag hs
  · exact exec_quPop_answer hq (State.pop_size hw m false)
  · exact exec_quPop_answer hq (State.pop_target hw h)
  · intro m w tag p l hw hd hb hact hr hlog hp hc hpos hdr hseq hl hlp _ h0
    have hup : s.quUp q = false := s.on_eq_false hd
    have hmoves : s.moves q = true := decide_eq_true (Or.inl hact)
    have hpop : s.pop q m w false = (0, s.load (s.bankAddr q (s.drainBank q) + 64 * (s.queue q).drainPos) (s.quWidth q), false,
        (s.setQu q (s.queue q)).setQu q { s.queue q with popped := 1, pkts := [p] }) := by
      rw [State.pop, if_neg (not_not.2 hw), if_neg (by rw [hup, hmoves]; decide), if_neg (by simp), if_neg (by rw [hb]; decide),
        State.popWord_first hr hlog hp hc hpos hdr hseq hl hlp h0]
    refine ⟨_, exec_quPop_answer hq hpop, ?_, ?_, ?_⟩
    · exact congrArg Queue.popped (State.queue_setQu ..)
    · exact congrArg Queue.pkts (State.queue_setQu ..)
    · rw [hw]
      rfl
  · exact ⟨_, (exec_doorbell hq len).trans (by rw [State.doorbell_dropped h]), State.rd_wr_fit (by decide), .wr (by simp) .refl, rfl⟩
  · refine ⟨_, (exec_doorbell hq len).trans (by rw [State.doorbell_waits h1 hd hn hh hlen]), State.queue_setQu .., ?_⟩
    rw [State.rd_setQu_pending, List.length_append]
    exact Nat.mod_eq_of_lt (by change _ < 128; simp; omega)
  · exact ⟨_, (exec_flip hq len).trans (by rw [State.flip_dropped h]), State.rd_wr_fit (by decide), rfl⟩
  · exact ⟨_, (exec_flip hq len).trans (by rw [State.flip_refused h1 hd h]), State.rd_wr_fit (by decide), rfl⟩
  · exact fun h1 hd hh hb hdr hs hsp hfb => ⟨_, exec_flip hq 0, State.flip_meets h1 hd hh hb hdr hs hsp hfb⟩

end Sys2Proof.Machine
end


section
/-! PROOF. The DMA engine, the banks, notices and MSI-X (O35; 12 R321 to R336). -/

namespace Sys2Proof.Machine

variable {s t : State} {q v w n : Nat} {x : Queue} {f : Fld}

/-! ### A queue that has nothing to take in -/

/-- The registers that a settling may write. -/
def settledFields : List Fld := QU_STATUS.STATE :: queueShown

theorem State.rd_checkDrained (h : f.id ≠ QU_STATUS.STATE.id) (s : State) (q u j : Nat) : (s.checkDrained q).rd f u j = s.rd f u j := by
  unfold State.checkDrained
  extract_lets x
  split_ifs
  · exact State.rd_wr_other s h
  · rfl

theorem State.rd_settleQu (h : ∀ g ∈ settledFields, f.id ≠ g.id) (s : State) (q u j : Nat) : (s.settleQu q).rd f u j = s.rd f u j := by
  obtain ⟨hst, hsh⟩ := List.forall_mem_cons.1 h
  rw [State.settleQu]
  refine (State.rd_checkDrained hst _ q u j).trans ?_
  split_ifs
  · exact State.rd_setQu_other hsh ..
  · rfl

@[simp] theorem State.checkDrained_sent (s : State) (q : Nat) : (s.checkDrained q).sent = s.sent := by
  unfold State.checkDrained
  extract_lets x
  split_ifs <;> rfl

@[simp] theorem State.checkDrained_cage (s : State) (q : Nat) : (s.checkDrained q).cage = s.cage := by
  unfold State.checkDrained
  extract_lets x
  split_ifs <;> rfl

@[simp] theorem State.settleQu_rr (s : State) (q : Nat) : (s.settleQu q).cage.rr = s.cage.rr := by
  rw [State.settleQu, State.checkDrained_cage]
  split_ifs <;> rfl

@[simp] theorem State.settleQu_sent (s : State) (q : Nat) : (s.settleQu q).sent = s.sent := by
  rw [State.settleQu, State.checkDrained_sent]
  split_ifs <;> rfl

/-- Without words held back, an up queue that moves data only settles. -/
theorem State.moveOn_up (hup : s.quUp q = true) (hm : s.quState q = 1 ∨ s.quState q = 2) (hw : (s.queue q).waiting = []) :
    s.moveOn q = s.settleQu q := by
  rw [State.moveOn, if_pos ⟨hup, hm⟩, hw]
  rfl

/-- A down queue that is not STOPPING moves on to itself. -/
theorem State.moveOn_down (hup : s.quUp q = false) (h : s.quState q ≠ 2) : s.moveOn q = s := by
  rw [State.moveOn, if_neg (by rw [hup]; simp), State.checkDrained_keep h]

/-! ### Errors of the Cage (R342) -/

theorem State.cgErr_moves_only (s : State) (f : Fld) (h : f.blk = .cg) : Moves (Foot.only [.regs .cg, .msix, .sent]) s (s.cgErr f) :=
  State.cgErr_moves (Sub.list rfl rfl) (by rw [h]; decide) Moves.refl

theorem State.rd_cgErr_same (hw : 0 < f.wid) (s : State) : (s.cgErr f).rd f = 1 := by
  have hset : (s.wr f 1).rd f = 1 := State.rd_wr_fit (Nat.one_lt_two_pow (by omega))
  unfold State.cgErr
  extract_lets b y
  split_ifs
  · exact (State.rd_requestVector ..).trans hset
  · exact hset

/-! ### Turns of the DMA engine (R321) -/

theorem exec_dmaTurn_none (h : s.hostReach = false) (c : Nat) (u : Bool) : exec (.dmaTurn c u) s = .next s := by
  rw [exec_dmaTurn, execDmaTurn, h]
  rfl

/-- The requester after the last one served is served where it has work. -/
theorem find_first_hasWork (h : s.hasWork ((s.cage.rr + 1) % 4097) = true) :
    ((List.range 4097).map (fun i => (s.cage.rr + 1 + i) % 4097)).find? s.hasWork = some ((s.cage.rr + 1) % 4097) := by
  rw [List.range_succ_eq_map, List.map_cons, List.find?_cons_of_pos (by simpa using h), Nat.add_zero]

/-- The state in which the queue has the turn. -/
def State.served (s : State) (q : Nat) : State := s.cg fun c => { c with rr := q }

theorem exec_dmaTurn_up (hr : s.hostReach = true) (hq : q < 4096) (hrr : q = (s.cage.rr + 1) % 4097) (hw : s.hasWork q = true)
    (hup : s.quUp q = true) (c : Nat) : exec (.dmaTurn c false) s =
      .next (((((s.served q).count CG_ERR_STATUS.BUF_CE c).advance q).sendLines q false 64).moveOn q) := by
  rw [exec_dmaTurn, execDmaTurn, hr]
  dsimp only [Bool.not_true, Bool.false_eq_true, if_false]
  rw [if_neg (by decide), find_first_hasWork (hrr ▸ hw), ← hrr]
  dsimp only
  rw [if_neg (by omega), if_pos (show (s.cg fun c => { c with rr := q }).quUp q = true from hup)]
  rfl

theorem exec_dmaTurn_down (hr : s.hostReach = true) (hq : q < 4096) (hrr : q = (s.cage.rr + 1) % 4097) (hw : s.hasWork q = true)
    (hup : s.quUp q = false) (c : Nat) (u : Bool) {y z : State} (hy : y = (s.served q).advance q)
    (hz : z = if (y.queue q).asked = 0 then y.openDown q ((y.queue q).doorbells.headD 0) else y) (hn : n = min (min (z.doorLines q - (z.queue q).asked) (z.roomLines q)) 64) :
    exec (.dmaTurn c u) s = .next ((z.setQu q { z.queue q with asked := (z.queue q).asked + n }).readRun q
      (z.rd QU_POS.DATA_TAIL q + 64 * (z.queue q).asked) (64 * n) 128) := by
  subst hy hz hn
  rw [exec_dmaTurn, execDmaTurn, hr, if_neg (by decide)]
  dsimp only
  rw [find_first_hasWork (hrr ▸ hw), ← hrr]
  dsimp only
  rw [if_neg (by omega), if_neg (by rw [show (State.cg s fun c => { c with rr := q }).quUp q = s.quUp q from rfl, hup]; decide)]
  rfl

/-- The packets of an up queue once its line `l` has gone to ring position `tail`. -/
def sentPkts (x : Queue) (l : QLine) (poison : Bool) (tail : Nat) : List QPkt :=
  x.pkts.map fun p => if p.seq = l.seq then { p with poison := p.poison || poison, slotPos := if l.first then some tail else p.slotPos } else p

/-- The last line of a packet goes to its ring position, and no other follows in the turn (R321, R331). -/
theorem State.sendLines_last {l : QLine} (hd : (s.queue q).drain = [l]) (hl : l.last = true) (hroom : s.ringRoom q = true) (k : Nat) {y : State}
    (hy : y = ((s.emit (.hostWrite (s.ringAddr q (s.rd QU_POS.DATA_TAIL q))
      (s.loadBytes (s.bankAddr q (s.drainBank q) + 64 * (s.queue q).drainPos) 64) l.poison s.cage.relaxed)).setQu q
        { s.queue q with drain := [], drainPos := (s.queue q).drainPos + 1, pkts := sentPkts (s.queue q) l l.poison (s.rd QU_POS.DATA_TAIL q) }).countWrap
          QU_POS.DATA_TAIL 64 q) :
    s.sendLines q false (k + 1) = if l.poison then (y.cgErr CG_ERR_STATUS.EP_TX).wr QU_STATUS.POISON_SEEN 1 q else y := by
  have hline : s.sendLine q false = (false, if l.poison then (y.cgErr CG_ERR_STATUS.EP_TX).wr QU_STATUS.POISON_SEEN 1 q else y) := by
    subst hy
    rw [State.sendLine, hd]
    dsimp only
    rw [hroom, if_neg (by decide), Bool.or_false, hl]
    rfl
  rw [State.sendLines, hline]
  rfl

/-- What a line sent poisoned marks besides (R342). -/
def State.markPoisonSent (s : State) (q : Nat) (poison : Bool) : State :=
  if poison then (s.cgErr CG_ERR_STATUS.EP_TX).wr QU_STATUS.POISON_SEEN 1 q else s

theorem State.rd_markPoisonSent (hb : f.blk ≠ .cg) (hf : f.id ≠ QU_STATUS.POISON_SEEN.id) (s : State) (q : Nat) (poison : Bool) (u j : Nat) :
    (s.markPoisonSent q poison).rd f u j = s.rd f u j := by
  unfold State.markPoisonSent
  split_ifs
  · exact (State.rd_wr_other _ hf).trans ((s.cgErr_moves_only _ rfl).rd_kept (by simpa using hb) u j)
  · rfl

theorem State.markPoisonSent_cage (s : State) (q : Nat) (poison : Bool) : (s.markPoisonSent q poison).cage = s.cage := by
  unfold State.markPoisonSent
  split_ifs
  · exact (s.cgErr_moves_only CG_ERR_STATUS.EP_TX rfl).parts .cage (partsMask_not (by decide))
  · rfl

theorem State.markPoisonSent_sent (s : State) (q : Nat) (poison : Bool) : s.sent <+: (s.markPoisonSent q poison).sent := by
  unfold State.markPoisonSent
  split_ifs
  · exact (s.cgErr_moves_only CG_ERR_STATUS.EP_TX rfl).sent
  · exact List.prefix_refl _

/-- A turn sends the last line of an up queue's oldest packet to its ring position (R321, R331). -/
theorem dmaTurn_up_meets {l : QLine} (hr : s.hostReach = true) (hq : q < 4096) (hrr : q = (s.cage.rr + 1) % 4097)
    (hm : s.rd QU_STATUS.STATE q = 1 ∨ s.rd QU_STATUS.STATE q = 2) (hup : s.quUp q = true) (hd : (s.queue q).drain = [l]) (hv : l.valid ≠ 0)
    (hl : l.last = true) (hw : (s.queue q).waiting = []) (hroom : s.ringRoom q = true) (c : Nat) : ∃ t,
    exec (.dmaTurn c false) s = .next t ∧
    s.sent ++ [Emission.hostWrite (s.ringAddr q (s.rd QU_POS.DATA_TAIL q))
      (s.loadBytes (s.bankAddr q (1 - s.rd QU_STATUS.FILL_BANK q) + 64 * (s.queue q).drainPos) 64) l.poison s.cage.relaxed] <+: t.sent ∧
    t.rd QU_POS.DATA_TAIL q = (s.rd QU_POS.DATA_TAIL q + 64) % 2 ^ 32 ∧ t.cage.rr = q := by
  have hmoves : s.moves q = true := decide_eq_true hm
  have hwork : s.hasWork q = true := by
    rw [State.hasWork, if_neg (by omega), hmoves, hup, State.advance_draining hd hv, State.queue_setQu, hd, hroom]
    rfl
  obtain ⟨y, hy⟩ : ∃ y, y = ((s.served q).count CG_ERR_STATUS.BUF_CE c).setQu q (s.queue q) := ⟨_, rfl⟩
  have hadv : ((s.served q).count CG_ERR_STATUS.BUF_CE c).advance q = y := hy ▸ State.advance_draining (s := (s.served q).count CG_ERR_STATUS.BUF_CE c) hd hv
  have hyq : y.queue q = s.queue q := hy ▸ State.queue_setQu ..
  have hyrd {f : Fld} (hs : ∀ g ∈ queueShown, f.id ≠ g.id) (hc : f.id ≠ CG_ERR_STATUS.BUF_CE.id) : y.rd f q = s.rd f q := by
    rw [hy, State.rd_setQu_other hs, State.rd_count_other hc]
    rfl
  obtain ⟨z, hz⟩ : ∃ z, z = ((y.emit (.hostWrite (y.ringAddr q (y.rd QU_POS.DATA_TAIL q))
      (y.loadBytes (y.bankAddr q (y.drainBank q) + 64 * (y.queue q).drainPos) 64) l.poison y.cage.relaxed)).setQu q
        { y.queue q with drain := [], drainPos := (y.queue q).drainPos + 1, pkts := sentPkts (y.queue q) l l.poison (y.rd QU_POS.DATA_TAIL q) }).countWrap
          QU_POS.DATA_TAIL 64 q := ⟨_, rfl⟩
  have hzrd {f : Fld} (hs : ∀ g ∈ queueShown, f.id ≠ g.id) (hc : f.id ≠ QU_POS.DATA_TAIL.id) : z.rd f q = y.rd f q := by
    rw [hz, State.rd_countWrap_other hc, State.rd_setQu_other hs, State.rd_emit]
  have hyroom : y.ringRoom q = true := by
    rw [State.ringRoom, hyrd (by decide) (by decide), hyrd (by decide) (by decide), hyrd (by decide) (by decide)]
    exact hroom
  have hsend : y.sendLines q false 64 = z.markPoisonSent q l.poison := State.sendLines_last (by rw [hyq, hd]) hl hyroom 63 hz
  obtain ⟨m, hmk⟩ : ∃ m, m = z.markPoisonSent q l.poison := ⟨_, rfl⟩
  have hmrd {f : Fld} (hb : f.blk ≠ .cg) (hf : f.id ≠ QU_STATUS.POISON_SEEN.id) : m.rd f q = z.rd f q := hmk ▸ State.rd_markPoisonSent hb hf ..
  have hmq : (m.queue q).waiting = [] := by
    have : m.queue q = z.queue q := congrArg (fun c : Cage => Tab.get Queue.cold c.queues q) (hmk ▸ State.markPoisonSent_cage ..)
    rw [this, hz, State.queue_countWrap, State.queue_setQu, hyq]
    exact hw
  have hmove : m.moveOn q = m.settleQu q := by
    refine State.moveOn_up ?_ ?_ hmq
    · rw [State.quUp, State.on, hmrd (by decide) (by decide), hzrd (by decide) (by decide), hyrd (by decide) (by decide)]
      exact hup
    · rw [State.quState, hmrd (by decide) (by decide), hzrd (by decide) (by decide), hyrd (by decide) (by decide)]
      exact hm
  have haddr : y.ringAddr q (y.rd QU_POS.DATA_TAIL q) = s.ringAddr q (s.rd QU_POS.DATA_TAIL q) := by
    simp (disch := decide) only [State.ringAddr, hyrd]
  have hbytes : y.loadBytes (y.bankAddr q (y.drainBank q) + 64 * (y.queue q).drainPos) 64 =
      s.loadBytes (s.bankAddr q (1 - s.rd QU_STATUS.FILL_BANK q) + 64 * (s.queue q).drainPos) 64 := by
    simp (disch := decide) only [State.bankAddr, State.bankBytes, State.drainBank, State.fillBank, hyrd, hyq]
    rw [hy]
    rfl
  refine ⟨m.settleQu q, ?_, ?_, ?_, ?_⟩
  · rw [exec_dmaTurn_up hr hq hrr hwork hup, hadv, hsend, ← hmk, hmove]
  · rw [State.settleQu_sent, hmk]
    refine List.IsPrefix.trans ?_ (State.markPoisonSent_sent ..)
    rw [hz, haddr, hbytes, hy]
    exact List.prefix_refl _
  · rw [State.rd_settleQu (by decide), hmrd (by decide) (by decide), hz, State.rd_countWrap_same, State.rd_setQu_other (by decide), State.rd_emit,
      hyrd (by decide) (by decide)]
    rfl
  · rw [State.settleQu_rr, hmk, State.markPoisonSent_cage, hz, hy]
    rfl

/-- The loader's turn asks for the next 4 KiB of its HOST extent. -/
theorem exec_dmaTurn_loader {e : Extent} {r : List Extent} (hr : s.hostReach = true) (hrr : s.cage.rr = 4095)
    (h1 : 1 ≤ s.rd CF_LD_STATUS.STATE) (h3 : s.rd CF_LD_STATUS.STATE ≤ 3) (he : s.loader.extents = e :: r) (hs : e.space = 0)
    (c : Nat) (u : Bool) : exec (.dmaTurn c u) s =
      .next ((s.served 4096).emit (.hostRead 4096 (e.addr + e.taken) (min 4096 (e.len - e.taken)))) := by
  have hturn : (s.cage.rr + 1) % 4097 = 4096 := by rw [hrr]
  have hwork : s.hasWork 4096 = true := by
    rw [State.hasWork, if_pos rfl, decide_eq_true h1, decide_eq_true h3, he]
    exact decide_eq_true hs
  rw [exec_dmaTurn, execDmaTurn, hr, if_neg (by decide)]
  dsimp only
  rw [find_first_hasWork (by rw [hturn]; exact hwork), hturn]
  dsimp only
  rw [if_pos rfl, show (State.cg s fun c => { c with rr := 4096 }).loader.extents = e :: r from he]
  rfl

/-- Banks at rest: nothing is dead, nothing comes back, nothing swaps. -/
theorem State.advance_rest (hd : (s.queue q).drain = []) (hs : (s.queue q).spill = []) (hf : (s.queue q).fill = [])
    (hp : s.rd QU_STATUS.FLIP_PEND q = 0) : s.advance q = s.setQu q (s.queue q) := by
  have hdead : dropDead (s.queue q) = s.queue q := by
    rw [dropDead, hd]
    show { s.queue q with drain := [], drainPos := (s.queue q).drainPos } = s.queue q
    rw [← hd]
  have hq : (s.setQu q (s.queue q)).queue q = s.queue q := s.queue_setQu q _
  have hback : (s.setQu q (s.queue q)).tryCopyBack q = s.setQu q (s.queue q) := by rw [State.tryCopyBack, hq, hd, hs]
  rw [State.advance, State.updQu, hdead, hback]
  exact State.trySwap_keep (by rw [hq, hf]) ((State.rd_setQu_other (by decide) ..).trans hp)

/-- One line is asked for in one request where it does not cross 4 KiB (R321). -/
theorem State.readRun_line {pos : Nat} (hp : pos % 64 = 0) (hm : s.cage.maxRead = 512) (k : Nat) :
    s.readRun q pos 64 (k + 2) = s.emit (.hostRead q (s.ringAddr q pos) 64) := by
  have hc : min 64 (min s.cage.maxRead (4096 - pos % 4096)) = 64 := by rw [hm]; omega
  rw [State.readRun, if_neg (by decide), hc, State.readRun, if_pos rfl]

/-- An empty fill bank has room for a line (R327). -/
theorem State.roomLines_pos (hx : (s.queue q).fill = []) (hs : (s.queue q).spilling = false) (hf : s.rd QU_STATUS.FLIP_PEND q = 0)
    (hb : 6 ≤ s.rd QU_CTRL.BANK_LOG2 q) : 1 ≤ s.roomLines q := by
  have hbank : 64 ≤ 2 ^ s.rd QU_CTRL.BANK_LOG2 q := Nat.pow_le_pow_right (n := 2) (by decide) hb
  rw [State.roomLines, State.fillRoom_empty hx hs hf, if_pos rfl, hx, State.bankBytes, List.length_nil]
  omega

/-- A down queue asks for the only line of its first doorbell (R321, R336). -/
theorem dmaTurn_down_meets {len : Nat} (hr : s.hostReach = true) (hq : q < 4096) (hrr : q = (s.cage.rr + 1) % 4097)
    (h1 : s.rd QU_STATUS.STATE q = 1) (hd : s.rd QU_CTRL.DIR q = 0) (hh : s.rd QU_CTRL.HMODE q = 0)
    (hx : s.queue q = { Queue.cold with doorbells := [len] }) (hlen : lineCount (s.quWidth q) len = 1)
    (hf : s.rd QU_STATUS.FLIP_PEND q = 0) (hb : 6 ≤ s.rd QU_CTRL.BANK_LOG2 q) (hmr : s.cage.maxRead = 512)
    (htail : s.rd QU_POS.DATA_TAIL q % 64 = 0) (c : Nat) (u : Bool) : ∃ t,
    exec (.dmaTurn c u) s = .next t ∧ (t.queue q).asked = 1 ∧
    t.rd QU_SEQ.NEXT_SEQ q = (s.rd QU_SEQ.NEXT_SEQ q + 1) % 2 ^ 32 ∧
    t.sent = s.sent ++ [Emission.hostRead q (s.ringAddr q (s.rd QU_POS.DATA_TAIL q)) 64] := by
  have hup : s.quUp q = false := s.on_eq_false hd
  have hadv (y : State) (hy : y.queue q = s.queue q) (hyf : y.rd QU_STATUS.FLIP_PEND q = 0) : y.advance q = y.setQu q (y.queue q) :=
    State.advance_rest (by rw [hy, hx]; rfl) (by rw [hy, hx]; rfl) (by rw [hy, hx]; rfl) hyf
  have hroom (y : State) (hy : (y.queue q).fill = [] ∧ (y.queue q).spilling = false)
      (hrd : ∀ {f : Fld}, (∀ g ∈ queueShown, f.id ≠ g.id) → f.id ≠ QU_SEQ.NEXT_SEQ.id → y.rd f q = s.rd f q) : 1 ≤ y.roomLines q :=
    State.roomLines_pos hy.1 hy.2 ((hrd (by decide) (by decide)).trans hf) (by rwa [hrd (by decide) (by decide)])
  have hwork : s.hasWork q = true := by
    have hr1 := hroom (s.setQu q (s.queue q)) (by rw [State.queue_setQu, hx]; exact ⟨rfl, rfl⟩) fun hs _ => State.rd_setQu_other hs ..
    have hdoor : s.doorLines q = 1 := by rw [State.doorLines, hx]; exact hlen
    rw [State.hasWork, if_neg (by omega), State.moves, State.quState, h1, hup, hh, hdoor, hadv s rfl hf, decide_eq_true (show 0 < (s.setQu q (s.queue q)).roomLines q from hr1), hx]
    rfl
  obtain ⟨y, hy⟩ : ∃ y, y = (s.served q).setQu q (s.queue q) := ⟨_, rfl⟩
  have hyadv : y = (s.served q).advance q := hy.trans (hadv (s.served q) rfl hf).symm
  have hyq : y.queue q = { Queue.cold with doorbells := [len] } := by rw [hy, State.queue_setQu, hx]
  have hyrd {f : Fld} (hs : ∀ g ∈ queueShown, f.id ≠ g.id) : y.rd f q = s.rd f q := by
    rw [hy, State.rd_setQu_other hs]
    rfl
  obtain ⟨z, hz⟩ : ∃ z, z = y.openDown q len := ⟨_, rfl⟩
  have hzq : z.queue q = { Queue.cold with doorbells := [len], pkts := [⟨y.rd QU_SEQ.NEXT_SEQ q, len, false, false, false, false, false, 0, none⟩] } := by
    rw [hz, State.openDown, State.queue_updQu, State.queue_countWrap, hyq]
    rfl
  have hzrd {f : Fld} (hs : ∀ g ∈ queueShown, f.id ≠ g.id) (hn : f.id ≠ QU_SEQ.NEXT_SEQ.id) : z.rd f q = s.rd f q := by
    rw [hz, State.openDown, State.updQu, State.rd_setQu_other hs, State.rd_countWrap_other hn, hyrd hs]
  have hzopen : z = if (y.queue q).asked = 0 then y.openDown q ((y.queue q).doorbells.headD 0) else y := by
    have hask : (y.queue q).asked = 0 := by rw [hyq]; rfl
    have hbell : (y.queue q).doorbells.headD 0 = len := by rw [hyq]; rfl
    rw [if_pos hask, hbell, hz]
  have hone : 1 = min (min (z.doorLines q - (z.queue q).asked) (z.roomLines q)) 64 := by
    have hr1 := hroom z (by rw [hzq]; exact ⟨rfl, rfl⟩) hzrd
    have hwidth : z.quWidth q = s.quWidth q := by rw [State.quWidth, State.quWidth, hzrd (by decide) (by decide)]
    have hdoor : z.doorLines q = 1 := by rw [State.doorLines, hzq, hwidth]; exact hlen
    have hask : (z.queue q).asked = 0 := by rw [hzq]; rfl
    rw [hdoor, hask]
    omega
  obtain ⟨m, hm⟩ : ∃ m, m = z.setQu q { z.queue q with asked := (z.queue q).asked + 1 } := ⟨_, rfl⟩
  have hmrd {f : Fld} (hs : ∀ g ∈ queueShown, f.id ≠ g.id) (hn : f.id ≠ QU_SEQ.NEXT_SEQ.id) : m.rd f q = s.rd f q := by
    rw [hm, State.rd_setQu_other hs, hzrd hs hn]
  have hpos : z.rd QU_POS.DATA_TAIL q + 64 * (z.queue q).asked = s.rd QU_POS.DATA_TAIL q := by
    rw [hzrd (by decide) (by decide), hzq]
    rfl
  have hmcage : m.cage.maxRead = 512 := by rw [hm, hz, hy]; exact hmr
  have haddr : m.ringAddr q (s.rd QU_POS.DATA_TAIL q) = s.ringAddr q (s.rd QU_POS.DATA_TAIL q) := by
    rw [State.ringAddr, State.ringAddr, hmrd (by decide) (by decide), hmrd (by decide) (by decide)]
  refine ⟨m.emit (.hostRead q (s.ringAddr q (s.rd QU_POS.DATA_TAIL q)) 64), ?_, ?_, ?_, ?_⟩
  · rw [exec_dmaTurn_down hr hq hrr hwork hup c u hyadv hzopen hone, hpos, ← hm, Nat.mul_one, State.readRun_line htail hmcage 126, haddr]
  · have : (m.queue q).asked = (z.queue q).asked + 1 := by rw [hm, State.queue_setQu]
    exact this.trans (by rw [hzq]; rfl)
  · rw [State.rd_emit, hm, State.rd_setQu_other (by decide), hz, State.openDown, State.updQu, State.rd_setQu_other (by decide),
      State.rd_countWrap_same, hyrd (by decide)]
    rfl
  · rw [hm, hz, hy]
    rfl

/-! ### Completions (R320, R321, R336) -/

/-- The queue without the packet that it was fetching: its lines on the part are dead (R320). -/
def Queue.undelivered (x : Queue) : Queue :=
  { x.tags (fun l => if some l.seq = x.openPkt.map (fun p => p.seq) then { l with valid := 0 } else l) with
    pkts := if x.openPkt.isSome then x.pkts.dropLast else x.pkts, doorbells := x.doorbells.tail, asked := 0, arrived := 0 }

theorem exec_dmaCompletion_error {st : Nat} (hq : q < 4096) (hh : s.halted = false)
    (hm : s.rd QU_STATUS.STATE q = 1 ∨ s.rd QU_STATUS.STATE q = 2) (ha : (s.queue q).arrived < (s.queue q).asked) (hst : st ≠ 0)
    (d : List Nat) (p : Bool) : exec (.dmaCompletion q st d p) s =
      .next (((s.cgErr (if st = 1 then CG_ERR_STATUS.CPL_TIMEOUT else CG_ERR_STATUS.CPL_ERR)).setQu q
        (s.queue q).undelivered).haltQueue q 2) := by
  obtain ⟨y, hy⟩ : ∃ y, y = s.cgErr (if st = 1 then CG_ERR_STATUS.CPL_TIMEOUT else CG_ERR_STATUS.CPL_ERR) := ⟨_, rfl⟩
  have hmv : Moves (Foot.only [.regs .cg, .msix, .sent]) s y := hy ▸ s.cgErr_moves_only _ (by split_ifs <;> rfl)
  have hyq : y.queue q = s.queue q := congrArg (fun c : Cage => Tab.get Queue.cold c.queues q) (hmv.parts .cage (partsMask_not (by decide)))
  have hym : y.moves q = true := decide_eq_true (by rwa [State.quState, hmv.rd_kept (by decide)])
  have herr : (if st = 1 then s.cgErr CG_ERR_STATUS.CPL_TIMEOUT else if st ≠ 0 then s.cgErr CG_ERR_STATUS.CPL_ERR
      else if p then s.cgErr CG_ERR_STATUS.EP_RX else s) = y := by
    rw [hy, if_pos hst]
    split_ifs <;> rfl
  rw [exec_dmaCompletion, execDmaCompletion, need_pos (decide_eq_true (by omega)), hh, if_neg (by decide), herr]
  dsimp only
  rw [if_neg (by rw [hym, hyq]; rintro (h | h | h) <;> [omega; cases h; omega]), if_pos hst, hyq]
  rw [← hy]
  rfl

theorem State.haltQueue_meets (s : State) (q : Nat) {c : Nat} (hc : c < 8) :
    (s.haltQueue q c).rd QU_STATUS.STATE q = 3 ∧ (s.haltQueue q c).rd QU_STATUS.HALT_CAUSE q = c :=
  ⟨(State.rd_wr_other _ (by decide)).trans (State.rd_wr_fit (by decide)), State.rd_wr_fit hc⟩

theorem State.rd_haltQueue (hs : f.id ≠ QU_STATUS.STATE.id) (hc : f.id ≠ QU_STATUS.HALT_CAUSE.id) (s : State) (q c u j : Nat) :
    (s.haltQueue q c).rd f u j = s.rd f u j := by rw [State.haltQueue, State.rd_wr_other _ hc, State.rd_wr_other _ hs]

theorem dmaCompletion_error_meets {st : Nat} (hq : q < 4096) (hh : s.halted = false)
    (hm : s.rd QU_STATUS.STATE q = 1 ∨ s.rd QU_STATUS.STATE q = 2) (ha : (s.queue q).arrived < (s.queue q).asked) (hst : st ≠ 0)
    (d : List Nat) (p : Bool) : ∃ t, exec (.dmaCompletion q st d p) s = .next t ∧ t.rd QU_STATUS.STATE q = 3 ∧
      t.rd QU_STATUS.HALT_CAUSE q = 2 ∧ t.rd (if st = 1 then CG_ERR_STATUS.CPL_TIMEOUT else CG_ERR_STATUS.CPL_ERR) = 1 := by
  obtain ⟨h3, h2⟩ := ((s.cgErr (if st = 1 then CG_ERR_STATUS.CPL_TIMEOUT else CG_ERR_STATUS.CPL_ERR)).setQu q (s.queue q).undelivered).haltQueue_meets q
    (c := 2) (by decide)
  refine ⟨_, exec_dmaCompletion_error hq hh hm ha hst d p, h3, h2, ?_⟩
  have hcase : (if st = 1 then CG_ERR_STATUS.CPL_TIMEOUT else CG_ERR_STATUS.CPL_ERR) ∈ [CG_ERR_STATUS.CPL_TIMEOUT, CG_ERR_STATUS.CPL_ERR] := by
    split_ifs <;> simp
  have herr {f : Fld} (hf : f ∈ [CG_ERR_STATUS.CPL_TIMEOUT, CG_ERR_STATUS.CPL_ERR]) : (((s.cgErr f).setQu q (s.queue q).undelivered).haltQueue q 2).rd f = 1 := by
    obtain ⟨hs, hc, hsh, hw⟩ : f.id ≠ QU_STATUS.STATE.id ∧ f.id ≠ QU_STATUS.HALT_CAUSE.id ∧ (∀ g ∈ queueShown, f.id ≠ g.id) ∧ 0 < f.wid := by
      revert f
      decide
    rw [State.rd_haltQueue hs hc, State.rd_setQu_other hsh, State.rd_cgErr_same hw]
  exact herr hcase

/-! ### A packet that has arrived (R336) -/

/-- A down queue that fetches its only packet, a line of it asked for. -/
def Queue.fetchingOne (r : List Nat) (p : QPkt) : Queue := { Queue.cold with doorbells := r, pkts := [p], asked := 1 }

theorem State.fetchedLine_only {p : QPkt} {r d : List Nat} (hx : s.queue q = Queue.fetchingOne r p) (hp : p.closed = false)
    (hn : lineCount (s.quWidth q) p.len = 1) : ∃ bytes valid,
    s.fetchedLine q d false = ((s.setQu q { Queue.fetchingOne r p with arrived := 1 }).placeLine q bytes ⟨p.seq, valid, true, true, false⟩).closeDown q := by
  have hopen : (Queue.fetchingOne r p).openPkt = some p := by simp [Queue.openPkt, Queue.fetchingOne, hp]
  have hkeep : { p with poison := p.poison || false } = p := by rw [Bool.or_false]
  refine ⟨(bytesOf (s.quWidth q) p.lengthWord ++ d.drop (s.quWidth q)).take 64, s.quWidth q + p.len - 64 * 0, ?_⟩
  rw [State.fetchedLine, hx, hopen]
  simp only [hn, hkeep, show (Queue.fetchingOne r p).arrived = 0 from rfl, Nat.zero_add, if_true, decide_true]
  rfl

/-- A swap moves lines between the banks alone. -/
theorem State.trySwap_queue (s : State) (q : Nat) : ((s.trySwap q).queue q).pkts = (s.queue q).pkts ∧
    ((s.trySwap q).queue q).doorbells = (s.queue q).doorbells ∧ ((s.trySwap q).queue q).asked = (s.queue q).asked := by
  unfold State.trySwap
  extract_lets x
  split_ifs
  · rw [State.queue_setQu]
    exact ⟨rfl, rfl, rfl⟩
  · exact ⟨rfl, rfl, rfl⟩

theorem State.rd_trySwap (h : ∀ g ∈ [QU_STATUS.FILL_BANK, QU_STATUS.FLIP_PEND] ++ queueShown, f.id ≠ g.id) (s : State) (q u j : Nat) :
    (s.trySwap q).rd f u j = s.rd f u j := by
  obtain ⟨hfb, hfp, hs⟩ := (List.forall_mem_cons.1 h).imp_right List.forall_mem_cons.1
  unfold State.trySwap
  extract_lets x
  split_ifs
  · rw [State.rd_setQu_other hs, State.rd_wr_other _ hfp, State.rd_wr_other _ hfb]
  · rfl

theorem State.tellEnd_moves_only (s : State) (q : Nat) : Moves (Foot.only [.sent]) s (s.tellEnd q) :=
  State.tellEnd_moves (Sub.list rfl rfl) Moves.refl

@[simp] theorem State.queue_count (s : State) (f : Fld) (n u j r : Nat) : (s.count f n u j).queue r = s.queue r := rfl

/-- The fetched packet closes (R336). -/
theorem State.closeDown_meets {p : QPkt} (hp : (s.queue q).pkts = [p]) (hc : p.closed = false) (hh : s.rd QU_CTRL.HMODE q = 0)
    (hn : lineCount (s.quWidth q) p.len = 1) : ((s.closeDown q).queue q).pkts = [{ p with closed := true }] ∧
      ((s.closeDown q).queue q).doorbells = (s.queue q).doorbells.tail ∧ ((s.closeDown q).queue q).asked = 0 ∧
      (s.closeDown q).rd QU_POS.DATA_TAIL q = (s.rd QU_POS.DATA_TAIL q + 64) % 2 ^ 32 := by
  have hopen : (s.queue q).openPkt = some p := by simp [Queue.openPkt, hp, hc]
  obtain ⟨y, hy⟩ : ∃ y, y = ((s.setQu q { s.queue q with
    doorbells := (s.queue q).doorbells.tail, asked := 0, arrived := 0, pkts := [{ p with closed := true }] }).countWrap
      QU_POS.DATA_TAIL 64 q).count QU_STATS.PACKETS 1 q := ⟨_, rfl⟩
  have hclose : s.closeDown q = (y.tellEnd q).trySwap q := by
    rw [State.closeDown, hopen, hy]
    simp only [hh, hn, if_true, Queue.setLast, hp]
    rfl
  have hyq : y.queue q = { s.queue q with doorbells := (s.queue q).doorbells.tail, asked := 0, arrived := 0, pkts := [{ p with closed := true }] } := by
    rw [hy, State.queue_count, State.queue_countWrap, State.queue_setQu]
  have hqueue : (y.tellEnd q).queue q = y.queue q :=
    congrArg (fun c : Cage => Tab.get Queue.cold c.queues q) ((y.tellEnd_moves_only q).parts .cage (partsMask_not (by decide)))
  obtain ⟨hpk, hdb, hak⟩ := (y.tellEnd q).trySwap_queue q
  rw [hclose]
  refine ⟨hpk.trans ?_, hdb.trans ?_, hak.trans ?_, ?_⟩
  · rw [hqueue, hyq]
  · rw [hqueue, hyq]
  · rw [hqueue, hyq]
  · rw [State.rd_trySwap (by decide), (y.tellEnd_moves_only q).rd_kept (by decide), hy, State.rd_count_other (by decide),
      State.rd_countWrap_same, State.rd_setQu_other (by decide)]
    rfl

/-- The only line of the packet that a down queue fetches arrives. -/
theorem State.fetchedLine_meets {p : QPkt} {r d : List Nat} (hx : s.queue q = Queue.fetchingOne r p) (hp : p.closed = false)
    (hn : lineCount (s.quWidth q) p.len = 1) (hh : s.rd QU_CTRL.HMODE q = 0) : ((s.fetchedLine q d false).queue q).pkts = [{ p with closed := true }] ∧
      ((s.fetchedLine q d false).queue q).doorbells = r.tail ∧ ((s.fetchedLine q d false).queue q).asked = 0 ∧
      (s.fetchedLine q d false).rd QU_POS.DATA_TAIL q = (s.rd QU_POS.DATA_TAIL q + 64) % 2 ^ 32 := by
  obtain ⟨bytes, valid, hline⟩ := State.fetchedLine_only (d := d) hx hp hn
  obtain ⟨y, hy⟩ : ∃ y, y = s.setQu q { Queue.fetchingOne r p with arrived := 1 } := ⟨_, rfl⟩
  have hyq : y.queue q = { Queue.fetchingOne r p with arrived := 1 } := hy ▸ State.queue_setQu ..
  obtain ⟨hzq, -, hzrd⟩ := ((State.leavesQueue.refl rfl).setQu { Queue.fetchingOne r p with arrived := 1 } (s := s) (q := q)).trans
    (hy ▸ y.placeLine_leaves (by rw [hyq]; rfl) (by rw [hyq]; rfl) bytes ⟨p.seq, valid, true, true, false⟩)
  rw [← hy] at hzq hzrd
  rw [hyq] at hzq
  rw [hline, ← hy]
  obtain ⟨h1, h2, h3, h4⟩ := State.closeDown_meets (s := y.placeLine q bytes ⟨p.seq, valid, true, true, false⟩) (q := q) (p := p)
    (by rw [hzq]; rfl) hp ((hzrd _ (by decide) q 0).trans hh) (by rw [State.quWidth, hzrd _ (by decide)]; exact hn)
  exact ⟨h1, h2.trans (by rw [hzq]; rfl), h3, h4.trans (by rw [hzrd _ (by decide)])⟩

theorem dmaCompletion_good_meets {p : QPkt} {r d : List Nat} (hq : q < 4096) (hh : s.halted = false) (h1 : s.rd QU_STATUS.STATE q = 1)
    (hm : s.rd QU_CTRL.HMODE q = 0) (hx : s.queue q = Queue.fetchingOne r p) (hp : p.closed = false)
    (hn : lineCount (s.quWidth q) p.len = 1) (hd : d.length = 64) : ∃ t, exec (.dmaCompletion q 0 d false) s = .next t ∧
      (t.queue q).pkts = [{ p with closed := true }] ∧ (t.queue q).doorbells = r.tail ∧ (t.queue q).asked = 0 ∧
      t.rd QU_POS.DATA_TAIL q = (s.rd QU_POS.DATA_TAIL q + 64) % 2 ^ 32 := by
  have hmoves : s.moves q = true := decide_eq_true (Or.inl h1)
  have hdata : d.isEmpty = false := by cases d with
    | nil => cases hd
    | cons => rfl
  have hlines : s.fetchedLines q d false 64 = s.fetchedLine q d false := by
    rw [State.fetchedLines, hdata, hx, if_neg (by simp [Queue.fetchingOne, Queue.cold]), List.take_of_length_le hd.le, List.drop_of_length_le hd.le,
      State.fetchedLines, if_pos (Or.inl List.isEmpty_nil)]
  have herr : (if 0 = 1 then s.cgErr CG_ERR_STATUS.CPL_TIMEOUT else if 0 ≠ 0 then s.cgErr CG_ERR_STATUS.CPL_ERR
      else if false then s.cgErr CG_ERR_STATUS.EP_RX else s) = s := rfl
  refine ⟨_, ?_, State.fetchedLine_meets (d := d) hx hp hn hm⟩
  rw [exec_dmaCompletion, execDmaCompletion, need_pos (decide_eq_true (by omega)), hh, if_neg (by decide), herr]
  dsimp only
  rw [if_neg (by rw [hmoves, hx]; rintro (h | h | h) <;> [omega; cases h; cases h]), if_neg (by decide), if_neg (by decide), hlines]

/-! ### Swaps, spills and copies back (R332, R333) -/

theorem exec_bankSwap_still (hq : q < 4096) (h : s.moves q = false) : exec (.bankSwap q) s = .next s := by
  rw [exec_bankSwap, execBankSwap, need_pos (decide_eq_true hq), h]
  rfl

theorem exec_spillDone_still (hq : q < 4096) (h : s.moves q = false) (e : Bool) : exec (.spillDone q e) s = .next s := by
  rw [exec_spillDone, execSpillDone, need_pos (decide_eq_true hq)]
  dsimp only
  rw [if_pos (Or.inr (by rw [h]; rfl))]

theorem State.dropDead_empty (hd : x.drain = []) : dropDead x = x := by
  rw [dropDead, hd]
  show { x with drain := [], drainPos := x.drainPos } = x
  rw [← hd]

/-- A fill bank in which a packet has ended becomes the drain bank where that is free (R332). -/
theorem State.trySwap_ended (hd : (s.queue q).drain = []) (hs : (s.queue q).spill = []) (hb : (s.queue q).spilling = false)
    (hl : (s.queue q).fill.any (fun l => l.last) = true) : s.trySwap q =
      ((s.wr QU_STATUS.FILL_BANK (1 - s.fillBank q) q).wr QU_STATUS.FLIP_PEND 0 q).setQu q
        { s.queue q with drain := (s.queue q).fill, drainPos := 0, fill := [] } := by
  have hne : (s.queue q).fill.isEmpty = false := by
    cases hf : (s.queue q).fill with
    | nil => rw [hf] at hl; cases hl
    | cons => rfl
  exact if_pos (by rw [hd, hs, hb, hl, hne]; simp)

theorem bankSwap_meets (hq : q < 4096) (h1 : s.rd QU_STATUS.STATE q = 1) (hup : s.rd QU_CTRL.DIR q = 0) (hh : s.rd QU_CTRL.HMODE q = 0)
    (hd : (s.queue q).drain = []) (hs : (s.queue q).spill = []) (hb : (s.queue q).spilling = false)
    (hl : (s.queue q).fill.any (fun l => l.last) = true) (hfb : s.rd QU_STATUS.FILL_BANK q ≤ 1) : ∃ t,
    exec (.bankSwap q) s = .next t ∧ t.rd QU_STATUS.FILL_BANK q = 1 - s.rd QU_STATUS.FILL_BANK q ∧
      (t.queue q).drain = (s.queue q).fill ∧ (t.queue q).fill = [] := by
  obtain ⟨y, hy⟩ : ∃ y, y = s.setQu q (s.queue q) := ⟨_, rfl⟩
  have hyq : y.queue q = s.queue q := hy ▸ State.queue_setQu ..
  have hyrd {f : Fld} (hs : ∀ g ∈ queueShown, f.id ≠ g.id) : y.rd f q = s.rd f q := by rw [hy, State.rd_setQu_other hs]
  obtain ⟨z, hz⟩ : ∃ z, z = ((y.wr QU_STATUS.FILL_BANK (1 - s.rd QU_STATUS.FILL_BANK q) q).wr QU_STATUS.FLIP_PEND 0 q).setQu q
    { s.queue q with drain := (s.queue q).fill, drainPos := 0, fill := [] } := ⟨_, rfl⟩
  have hzrd {f : Fld} (hs : ∀ g ∈ [QU_STATUS.FILL_BANK, QU_STATUS.FLIP_PEND] ++ queueShown, f.id ≠ g.id) : z.rd f q = s.rd f q := by
    obtain ⟨hfb, hfp, hs⟩ := (List.forall_mem_cons.1 hs).imp_right List.forall_mem_cons.1
    rw [hz, State.rd_setQu_other hs, State.rd_wr_other _ hfp, State.rd_wr_other _ hfb, hyrd hs]
  have hswap : y.trySwap q = z := by
    rw [State.trySwap_ended (by rw [hyq, hd]) (by rw [hyq, hs]) (by rw [hyq, hb]) (by rw [hyq, hl]), hyq, State.fillBank, hyrd (by decide), hz]
  have hmove : z.moveOn q = z := State.moveOn_down (z.on_eq_false ((hzrd (by decide)).trans hup))
    (by rw [State.quState, hzrd (by decide), h1]; decide)
  have hdirect : z.directPending q = z := if_neg fun h => absurd h.1 (by rw [hzrd (by decide), hh]; decide)
  refine ⟨z, ?_, ?_, ?_, ?_⟩
  · rw [exec_bankSwap, execBankSwap, need_pos (decide_eq_true hq), show s.moves q = true from decide_eq_true (Or.inl h1), if_pos rfl,
      State.updQu, State.dropDead_empty hd, ← hy, hswap, hmove, hdirect]
  · rw [hz, State.rd_setQu_other (by decide), State.rd_wr_other _ (by decide)]
    exact State.rd_wr_fit (by change _ < 2 ^ 1; omega)
  · rw [hz, State.queue_setQu]
  · rw [hz, State.queue_setQu]

theorem exec_spillDone_error (hq : q < 4096) (hm : s.moves q = true) (hb : (s.queue q).spilling = true) :
    exec (.spillDone q true) s = .next ((s.setQu q { s.queue q with spilling := false }).haltQueue q 4) := by
  rw [exec_spillDone, execSpillDone, need_pos (decide_eq_true hq)]
  dsimp only
  rw [if_neg (by rw [hb, hm]; decide), if_pos rfl]

/-- What an agent's store may change besides the bytes: the page code and the samples (14 R377, 11 R294). -/
def agentStoreParts : List Part :=
  [.regs .st, .regs .sb, .regs .wd, .regs .cr, .regs .dc, .regs .en, .sampler, .dram, .crypto, .scrubs, .stopes]

theorem State.agentStore_moves_only (s : State) (a : Nat) (l : List Nat) :
    Moves ⟨true, false, false, false, false, partsMask agentStoreParts⟩ s (s.agentStore a l) :=
  State.agentStore_moves rfl (Sub.list rfl rfl) Moves.refl

@[simp] theorem State.queue_agentStore (s : State) (a : Nat) (l : List Nat) (r : Nat) : (s.agentStore a l).queue r = s.queue r :=
  congrArg (fun c : Cage => Tab.get Queue.cold c.queues r) ((s.agentStore_moves_only a l).parts .cage (partsMask_not (by decide)))

theorem State.rd_agentStore_qu (hf : f.blk = .qu) (s : State) (a : Nat) (l : List Nat) (u j : Nat) :
    (s.agentStore a l).rd f u j = s.rd f u j :=
  (s.agentStore_moves_only a l).parts (.regs f.blk) (by rw [hf]; exact partsMask_not (by decide)) f u j rfl

/-- The bank that was spilling is in the ring (R332); with no packets no slot is written again. -/
theorem spillDone_good_meets (hq : q < 4096) (h1 : s.rd QU_STATUS.STATE q = 1) (hup : s.rd QU_CTRL.DIR q = 0)
    (hb : (s.queue q).spilling = true) (hp : (s.queue q).pkts = []) : ∃ t, exec (.spillDone q false) s = .next t ∧
      (t.queue q).spill = (s.queue q).spill ++ [(s.queue q).fill] ∧ (t.queue q).fill = [] ∧ (t.queue q).spilling = false ∧
      t.rd QU_STATS.SPILLS q = min (s.rd QU_STATS.SPILLS q + 1) (2 ^ 16 - 1) := by
  have hmark : (s.queue q).markSpilled = s.queue q := by
    rw [Queue.markSpilled, hp]
    show { s.queue q with pkts := [] } = s.queue q
    rw [← hp]
  obtain ⟨y, hy⟩ : ∃ y, y = s.agentStore (s.spillAddr q (s.queue q).spill.length) (s.loadBytes (s.bankAddr q (s.fillBank q)) (64 * (s.queue q).fill.length)) := ⟨_, rfl⟩
  obtain ⟨z, hz⟩ : ∃ z, z = (y.setQu q { s.queue q with spill := (s.queue q).spill ++ [(s.queue q).fill], fill := [], spilling := false }).count
    QU_STATS.SPILLS 1 q := ⟨_, rfl⟩
  have hzrd {f : Fld} (hf : f.blk = .qu) (hs : ∀ g ∈ queueShown, f.id ≠ g.id) (hn : f.id ≠ QU_STATS.SPILLS.id) : z.rd f q = s.rd f q := by
    rw [hz, State.rd_count_other hn, State.rd_setQu_other hs, hy, State.rd_agentStore_qu hf]
  have hzq : z.queue q = { s.queue q with spill := (s.queue q).spill ++ [(s.queue q).fill], fill := [], spilling := false } := by
    rw [hz, State.queue_count, State.queue_setQu]
  have hmove : z.moveOn q = z := State.moveOn_down (z.on_eq_false ((hzrd rfl (by decide) (by decide)).trans hup))
    (by rw [State.quState, hzrd rfl (by decide) (by decide), h1]; decide)
  have hnone : (s.queue q).pkts.filter (fun p => p.closed && p.spilled) = [] := by rw [hp]; rfl
  refine ⟨z, ?_, by rw [hzq], by rw [hzq], by rw [hzq], ?_⟩
  · rw [exec_spillDone, execSpillDone, need_pos (decide_eq_true hq)]
    dsimp only
    rw [if_neg (by rw [hb, show s.moves q = true from decide_eq_true (Or.inl h1)]; decide), if_neg (by decide), hmark, hnone, ← hy, List.foldl_nil]
    subst hz
    exact congrArg Host.Outcome.next hmove
  · rw [hz, State.rd_count_one, State.rd_setQu_other (by decide), hy, State.rd_agentStore_qu rfl]
    rfl

/-- The tags of an entry that comes back: lines over poisoned memory are poisoned (R332). -/
def State.backTags (s : State) (q : Nat) (e : List QLine) : List QLine :=
  ((List.range e.length).zip e).map fun p => { p.2 with poison := p.2.poison || s.agentBad (s.spillAddr q 0 + 64 * p.1) 64 }

theorem State.length_backTags (s : State) (q : Nat) (e : List QLine) : (s.backTags q e).length = e.length := by
  rw [State.backTags, List.length_map, List.length_zip, List.length_range, min_self]

theorem State.tryCopyBack_entry {e : List QLine} {r : List (List QLine)} (hd : (s.queue q).drain = []) (hs : (s.queue q).spill = e :: r) :
    s.tryCopyBack q = (s.storeBytes (s.bankAddr q (s.drainBank q)) (s.loadBytes (s.spillAddr q 0) (64 * e.length))).setQu q
      { s.queue q with
        drain := s.backTags q e, drainPos := 0, spill := r, spillHead := ((s.queue q).spillHead + 1) % s.rd QU_SPILL.NBANKS q } := by
  rw [State.tryCopyBack, hd, hs]
  rfl

/-- The oldest entry of the spill ring comes back (R332). -/
theorem copyBack_meets {e : List QLine} {r : List (List QLine)} (hq : q < 4096) (h1 : s.rd QU_STATUS.STATE q = 1) (hup : s.rd QU_CTRL.DIR q = 0)
    (hd : (s.queue q).drain = []) (hs : (s.queue q).spill = e :: r) :
    (∃ t, exec (.copyBackDone q true) s = .next t ∧ t.rd QU_STATUS.STATE q = 3 ∧ t.rd QU_STATUS.HALT_CAUSE q = 4) ∧
    (∃ t, exec (.copyBackDone q false) s = .next t ∧ (t.queue q).spill = r ∧ (t.queue q).drain.length = e.length) := by
  obtain ⟨y, hy⟩ : ∃ y, y = s.setQu q (s.queue q) := ⟨_, rfl⟩
  have hyq : y.queue q = s.queue q := hy ▸ State.queue_setQu ..
  have hyrd {f : Fld} (hs : ∀ g ∈ queueShown, f.id ≠ g.id) : y.rd f q = s.rd f q := by rw [hy, State.rd_setQu_other hs]
  have hcond : ¬ ((!y.moves q) = true ∨ (!(y.queue q).drain.isEmpty) = true ∨ (y.queue q).spill.isEmpty = true) := by
    rw [hyq, hd, hs, State.moves, State.quState, hyrd (by decide), h1]
    simp
  have hexec (b : Bool) : exec (.copyBackDone q b) s = .next (if b then y.haltQueue q 4 else (y.tryCopyBack q).moveOn q) := by
    rw [exec_copyBackDone, execCopyBackDone, need_pos (decide_eq_true hq), State.updQu, State.dropDead_empty hd, ← hy]
    dsimp only
    rw [if_neg hcond]
  refine ⟨⟨_, hexec true, y.haltQueue_meets q (by decide)⟩, ?_⟩
  obtain ⟨z, hz⟩ : ∃ z, z = y.tryCopyBack q := ⟨_, rfl⟩
  have hback := State.tryCopyBack_entry (s := y) (q := q) (by rw [hyq, hd]) (by rw [hyq, hs])
  have hzq : (z.queue q).spill = r ∧ (z.queue q).drain.length = e.length := by
    rw [hz, hback, State.queue_setQu]
    exact ⟨rfl, y.length_backTags q e⟩
  have hzrd {f : Fld} (hs : ∀ g ∈ queueShown, f.id ≠ g.id) : z.rd f q = s.rd f q := by
    rw [hz, hback, State.rd_setQu_other hs, State.rd_storeBytes, hyrd hs]
  have hmove : z.moveOn q = z := State.moveOn_down (z.on_eq_false ((hzrd (by decide)).trans hup))
    (by rw [State.quState, hzrd (by decide), h1]; decide)
  exact ⟨z, (hexec false).trans (by rw [if_neg (by decide), ← hz, hmove]), hzq⟩

/-! ### Notices and their vectors (R334, R335) -/

@[simp] theorem State.queue_requestVector (s : State) (v r : Nat) : (s.requestVector v).queue r = s.queue r :=
  congrArg (fun c : Cage => Tab.get Queue.cold c.queues r) ((s.requestVector_moves_only v).parts .cage (partsMask_not (by decide)))

@[simp] theorem State.queue_checkDrained (s : State) (q r : Nat) : (s.checkDrained q).queue r = s.queue r :=
  congrArg (fun c : Cage => Tab.get Queue.cold c.queues r) (s.checkDrained_cage q)

theorem exec_noticeWrite_none (hq : q < 4096) (h : (s.queue q).notices = [] ∨ s.hostReach = false) : exec (.noticeWrite q) s = .next s := by
  rw [exec_noticeWrite, execNoticeWrite, need_pos (decide_eq_true hq)]
  dsimp only
  cases hn : (s.queue q).notices with
  | nil => rfl
  | cons n r =>
    have hr : s.hostReach = false := h.resolve_left (by rw [hn]; exact List.cons_ne_nil _ _)
    dsimp only
    rw [if_pos (Or.inr (Or.inl (by rw [hr]; rfl)))]

/-- The ring address of a notice (R334). -/
def State.noticeAddr (s : State) (q : Nat) : Nat :=
  s.rd QU_NOTICE_RING.BASE q * 4096 + 16 * (s.rd QU_POS.NOTICE_TAIL q % 2 ^ s.rd QU_NOTICE_RING.NOTICE_LOG2 q)

/-- The state in which the oldest notice has gone to its ring. -/
def State.noticed (s : State) (q : Nat) (n : QNotice) (r : List QNotice) (fire : Bool) : State :=
  let t := s.emit (.hostWrite (s.noticeAddr q) (bytesOf 16 (s.noticeBits q n)) false false)
  ((if s.quUp q then t.count QU_STATS.PACKETS 1 q else t).setQu q
    { s.queue q with notices := r, unsignalled := if fire then 0 else (s.queue q).unsignalled + 1 }).countWrap QU_POS.NOTICE_TAIL 1 q

theorem exec_noticeWrite_oldest {n : QNotice} {r : List QNotice} (hq : q < 4096) (hm : s.moves q = true) (hr : s.hostReach = true)
    (hn : (s.queue q).notices = n :: r) (hroom : (s.rd QU_POS.NOTICE_TAIL q + 2 ^ 32 - s.rd QU_HOST_HEAD.NOTICE_HEAD q) % 2 ^ 32 ≠
      2 ^ s.rd QU_NOTICE_RING.NOTICE_LOG2 q) : ∃ fire : Bool, exec (.noticeWrite q) s =
    .next ((if fire then (s.noticed q n r fire).requestVector (s.rd QU_IRQ.VECTOR q) else s.noticed q n r fire).checkDrained q) := by
  refine ⟨decide (s.rd QU_IRQ.COAL_COUNT q ≤ (s.queue q).unsignalled + 1) && s.on QU_IRQ.IRQ_EN q, ?_⟩
  rw [exec_noticeWrite, execNoticeWrite, need_pos (decide_eq_true hq)]
  dsimp only
  rw [hn]
  dsimp only
  rw [if_neg (by rw [hm, hr]; rintro (h | h | h) <;> [cases h; cases h; exact hroom h])]
  rfl

theorem State.noticed_meets (s : State) (q : Nat) (n : QNotice) (r : List QNotice) (fire : Bool) :
    (s.noticed q n r fire).rd QU_POS.NOTICE_TAIL q = (s.rd QU_POS.NOTICE_TAIL q + 1) % 2 ^ 32 ∧
    ((s.noticed q n r fire).queue q).notices = r ∧
    (s.noticed q n r fire).sent = s.sent ++ [.hostWrite (s.noticeAddr q) (bytesOf 16 (s.noticeBits q n)) false false] := by
  unfold State.noticed
  extract_lets t
  refine ⟨?_, ?_, ?_⟩
  · rw [State.rd_countWrap_same, State.rd_setQu_other (by decide)]
    split_ifs
    · rw [State.rd_count_other (by decide), State.rd_emit]
      rfl
    · rw [State.rd_emit]
      rfl
  · rw [State.queue_countWrap, State.queue_setQu]
  · split_ifs <;> rfl

theorem noticeWrite_meets {n : QNotice} {r : List QNotice} (hq : q < 4096) (hm : s.rd QU_STATUS.STATE q = 1 ∨ s.rd QU_STATUS.STATE q = 2)
    (hr : s.hostReach = true) (hn : (s.queue q).notices = n :: r) (hroom : (s.rd QU_POS.NOTICE_TAIL q + 2 ^ 32 - s.rd QU_HOST_HEAD.NOTICE_HEAD q) % 2 ^ 32 ≠
      2 ^ s.rd QU_NOTICE_RING.NOTICE_LOG2 q) : ∃ t, exec (.noticeWrite q) s = .next t ∧
      t.rd QU_POS.NOTICE_TAIL q = (s.rd QU_POS.NOTICE_TAIL q + 1) % 2 ^ 32 ∧ (t.queue q).notices = r ∧
      s.sent ++ [Emission.hostWrite (s.noticeAddr q) (bytesOf 16 (s.noticeBits q n)) false false] <+: t.sent := by
  obtain ⟨fire, hexec⟩ := exec_noticeWrite_oldest hq (decide_eq_true hm) hr hn hroom
  obtain ⟨htail, hnot, hsent⟩ := s.noticed_meets q n r fire
  refine ⟨_, hexec, ?_, ?_, ?_⟩
  · rw [State.rd_checkDrained (by decide)]
    split_ifs
    · exact (State.rd_requestVector ..).trans htail
    · exact htail
  · rw [State.queue_checkDrained]
    split_ifs
    · rw [State.queue_requestVector, hnot]
    · exact hnot
  · rw [State.checkDrained_sent, ← hsent]
    split_ifs
    · exact (State.requestVector_moves_only _ _).sent
    · exact List.prefix_refl _

theorem exec_coalesceTimer_asks (hq : q < 4096) (ht : s.rd QU_IRQ.COAL_TIME q ≠ 0) (he : s.rd QU_IRQ.IRQ_EN q ≠ 0)
    (hu : 0 < (s.queue q).unsignalled) : ∃ v, exec (.coalesceTimer q) s =
      .next ((s.setQu q { s.queue q with unsignalled := 0 }).requestVector v) := by
  rw [exec_coalesceTimer, execCoalesceTimer, need_pos (decide_eq_true hq),
    if_pos (by rw [(s.on_iff ..).2 ht, (s.on_iff ..).2 he, decide_eq_true hu]; rfl)]
  exact ⟨_, rfl⟩

theorem exec_coalesceTimer_none (hq : q < 4096) (h : s.rd QU_IRQ.COAL_TIME q = 0 ∨ s.rd QU_IRQ.IRQ_EN q = 0 ∨ (s.queue q).unsignalled = 0) :
    exec (.coalesceTimer q) s = .next s := by
  rw [exec_coalesceTimer, execCoalesceTimer, need_pos (decide_eq_true hq), if_neg]
  rcases h with h | h | h
  · simp [s.on_eq_false h]
  · simp [s.on_eq_false h]
  · simp [h]

/-- A message goes out at once where the host can be reached and the vector is not masked or in its gap (R335). -/
theorem State.requestVector_sends (hr : s.hostReach = true) (he : s.msix.enable = true) (hm : s.msix.functionMask = false)
    (hu : Tab.get false s.msix.unmasked v = true) (hg : Tab.get false s.msix.inGap v = false) : s.requestVector v =
      { s.emit (.msix v) with msix := { s.msix with inGap := Tab.set natLt false s.msix.inGap v (decide (s.rd CG_MSIX_GAP.GAP ≠ 0)) } } := by
  have hrun : s.on EN_STATUS.HALTED = false := by
    rw [State.hostReach, Bool.and_eq_true, Bool.not_eq_true'] at hr
    exact hr.2
  rw [State.requestVector, hrun, if_neg (by decide), hr, he, hm, hu, if_neg (by decide), hg, if_neg (by decide)]

/-- The gap of a vector ends. -/
def State.gapEnded (s : State) (v : Nat) : State :=
  { s with msix := { s.msix with inGap := Tab.erase s.msix.inGap v, merged := Tab.erase s.msix.merged v } }

theorem exec_msixGapEnd_merged (hv : v < 2048) (hm : Tab.get false s.msix.merged v = true) :
    exec (.msixGapEnd v) s = .next ((s.gapEnded v).requestVector v) := by
  rw [exec_msixGapEnd, execMsixGapEnd, need_pos (decide_eq_true hv), hm]
  rfl

theorem exec_msixGapEnd_idle (hv : v < 2048) (hm : Tab.get false s.msix.merged v = false) :
    exec (.msixGapEnd v) s = .next (s.gapEnded v) := by
  rw [exec_msixGapEnd, execMsixGapEnd, need_pos (decide_eq_true hv), hm]
  rfl

theorem msixGapEnd_meets (hv : v < 2048) (hg : Tab.get false s.msix.merged v = true) (hr : s.hostReach = true) (he : s.msix.enable = true)
    (hm : s.msix.functionMask = false) (hu : Tab.get false s.msix.unmasked v = true) : ∃ t, exec (.msixGapEnd v) s = .next t ∧
      t.sent = s.sent ++ [Emission.msix v] ∧ Tab.get false t.msix.merged v = false := by
  have hsend := State.requestVector_sends (s := s.gapEnded v) (v := v) hr he hm hu (Tab.get_erase_same ..)
  exact ⟨_, (exec_msixGapEnd_merged hv hg).trans (congrArg _ hsend), rfl, Tab.get_erase_same ..⟩

theorem msixUnmask_meets (hv : v < 2048) (hp : s.msix.pending = [(v, true)]) (hr : s.hostReach = true) (he : s.msix.enable = true)
    (hm : s.msix.functionMask = false) (hg : Tab.get false s.msix.inGap v = false) : ∃ t, exec (.msixUnmask v) s = .next t ∧
      t.sent = s.sent ++ [Emission.msix v] ∧ t.msix.pending = [] := by
  obtain ⟨y, hy⟩ : ∃ y : State, y = { s with msix := { s.msix with unmasked := Tab.set natLt false s.msix.unmasked v true } } := ⟨_, rfl⟩
  have hu : Tab.get false y.msix.unmasked v = true := by rw [hy]; exact Tab.get_set_same natLt false _ v true
  have hyr : y.hostReach = true := by rw [hy]; exact hr
  have hempty : Tab.erase y.msix.pending v = [] := by
    rw [show y.msix.pending = [(v, true)] by rw [hy]; exact hp]
    simp [Tab.erase]
  have hsend := State.requestVector_sends (s := { y with msix := { y.msix with pending := [] } }) (v := v) hyr (by rw [hy]; exact he)
    (by rw [hy]; exact hm) hu (by rw [hy]; exact hg)
  have hflush : y.flushPending = { y with msix := { y.msix with pending := [] } }.requestVector v := by
    have hpend : y.msix.pending.filter (fun p => Tab.get false y.msix.unmasked p.1) = [(v, true)] := by
      rw [show y.msix.pending = [(v, true)] by rw [hy]; exact hp, List.filter_cons_of_pos (p := fun p : Nat × Bool => Tab.get false y.msix.unmasked p.1) hu]
      rfl
    rw [State.flushPending, hyr, show y.msix.enable = true by rw [hy]; exact he, show y.msix.functionMask = false by rw [hy]; exact hm,
      hpend, if_pos (by decide), List.foldl_cons, List.foldl_nil, hempty]
  refine ⟨{ y with msix := { y.msix with pending := [] } }.requestVector v, ?_, ?_, ?_⟩
  · rw [exec_msixUnmask, execMsixUnmask, need_pos (decide_eq_true hv), ← hy, hflush]
  · rw [hsend, hy]
    rfl
  · rw [hsend]

/-! ### Bin links (R323, R324) -/

theorem exec_binLink {n b : Nat} (hn : n < 640) (hb : b < 16) (e : Bool) : exec (.binLinkWrite n b e) s = .next (s.binLink n b e) := by
  rw [exec_binLinkWrite, execBinLinkWrite, need_pos (decide_eq_true ⟨hn, hb⟩)]

theorem State.binLink_error {n b : Nat} (hu : s.inUse n = true) (hm : (s.stope n).bqmode b = 2 ∨ (s.stope n).bqmode b = 3)
    (hq : s.binQueue n b (decide ((s.stope n).bqmode b = 2)) = some q) : s.binLink n b true = s.haltQueue q 6 := by
  have hrun : ¬ ((!s.inUse n) = true ∨ (s.stope n).bqmode b ≠ 2 ∧ (s.stope n).bqmode b ≠ 3) := by
    rw [hu]
    simp
    omega
  unfold State.binLink
  simp only [hq, if_neg hrun, if_true]

theorem State.binLink_none {n b : Nat} (hq : s.binQueue n b (decide ((s.stope n).bqmode b = 2)) = none) (e : Bool) : s.binLink n b e = s := by
  unfold State.binLink
  simp only [hq]

/-- An UP bin's run arrives at its queue. -/
theorem State.binLink_up {n b : Nat} (hu : s.inUse n = true) (hm : (s.stope n).bqmode b = 2) (hq : s.binQueue n b true = some q) :
    ((s.binLink n b false).binEnd n b).run = [] := by
  have hset (t : State) (e : BinEnd) : (t.setBinEnd n b e).binEnd n b = e := Tab.get_set_same ..
  unfold State.binLink
  simp only [hm, hu, hq, hset, decide_true, Bool.not_true, Bool.false_eq_true, if_false, if_true, ne_eq, not_true_eq_false,
    false_and, or_self]

/-- Settles O35: a clause per command; a turn, a swap and a spill follow the queue's hidden state, a notice and a message what goes out. -/
theorem queueEngine : Obligations.QueueEngine := by
  unfold Obligations.QueueEngine
  intro s q hq
  refine ⟨fun hr c u => exec_dmaTurn_none hr c u, fun l c hr hrr hm hd hdr hv hl hw hroom => ?_, fun e r c u hr hrr h1 h3 he hs => ?_,
    fun len c u hr hrr h1 hd hh hx hlen hf hb hmr ht => dmaTurn_down_meets hr hq hrr h1 hd hh hx hlen hf hb hmr ht c u,
    fun st d p hh hm ha hst => dmaCompletion_error_meets hq hh hm ha hst d p,
    fun d p r hh h1 hd hm hx hp hn hlen => dmaCompletion_good_meets hq hh h1 hm hx hp hn hlen, fun h1 h2 => ?_,
    fun h1 hd hh hdr hs hb hl hfb => bankSwap_meets hq h1 hd hh hdr hs hb hl hfb, fun hm hb => ?_,
    fun h1 hd hb hp => spillDone_good_meets hq h1 hd hb hp, fun e r h1 hd hdr hs => copyBack_meets hq h1 hd hdr hs,
    fun h => exec_noticeWrite_none hq h, fun n r hm hr hn hroom => noticeWrite_meets hq hm hr hn hroom, fun ht he hu => ?_,
    fun h => exec_coalesceTimer_none hq h, fun v hv hg hr he hm hu => msixGapEnd_meets hv hg hr he hm hu, fun v hv hg => ?_,
    fun v hv hp hr he hm hg => msixUnmask_meets hv hp hr he hm hg, fun n b hn hb hu hm hbq => ?_, fun n b hn hb hu hm hbq => ?_,
    fun n b hn hb hbq e => ?_⟩
  · exact dmaTurn_up_meets hr hq hrr hm ((s.on_iff ..).2 hd) hdr hv hl hw hroom c
  · exact ⟨_, exec_dmaTurn_loader hr hrr h1 h3 he hs c u, rfl⟩
  · have hm : s.moves q = false := decide_eq_false fun h => h.elim h1 h2
    exact ⟨exec_bankSwap_still hq hm, exec_spillDone_still hq hm⟩
  · obtain ⟨h3, h4⟩ := (s.setQu q { s.queue q with spilling := false }).haltQueue_meets q (c := 4) (by decide)
    exact ⟨_, exec_spillDone_error hq (decide_eq_true hm) hb, h3, h4, congrArg Queue.spilling (State.queue_setQu ..)⟩
  · obtain ⟨v, hv⟩ := exec_coalesceTimer_asks hq ht he hu
    exact ⟨_, hv, by rw [State.queue_requestVector, State.queue_setQu]⟩
  · exact ⟨_, exec_msixGapEnd_idle hv hg, Tab.get_erase_same .., rfl, rfl⟩
  · obtain ⟨h3, h6⟩ := s.haltQueue_meets q (c := 6) (by decide)
    refine ⟨_, (exec_binLink hn hb true).trans (congrArg _ (State.binLink_error hu hm hbq)), h3, h6, ?_, rfl⟩
    exact (State.regsKeptBut.refl.wr (by simp)).wr (by simp)
  · exact ⟨_, exec_binLink hn hb false, State.binLink_up hu hm hbq⟩
  · exact (exec_binLink hn hb e).trans (congrArg _ (State.binLink_none hbq e))

end Sys2Proof.Machine
end


section
/-! PROOF. The host link, configuration space and host memory requests (O33; 12 R314 to R320, 01 R39). -/

namespace Sys2Proof.Machine

variable {s t : State} {q a n d : Nat} {f : Fld} {op : ConfigOp}

/-! ### The link (R314, R317) -/

/-- Pending messages that go out change the vectors and what has gone out. -/
theorem State.flushPending_moves_only (s : State) : Moves (Foot.only [.msix, .sent]) s s.flushPending :=
  State.flushPending_moves (Sub.list rfl rfl) Moves.refl

theorem State.rd_flushPending (s : State) (f : Fld) (u j : Nat) : s.flushPending.rd f u j = s.rd f u j :=
  s.flushPending_moves_only.rd_kept (by simp) u j

theorem exec_dataLinkUp_ignored {sp w : Nat} (h : s.clk.perst = true ∨ s.rootRuns = false ∨ s.rd CG_LINK.UP ≠ 0 ∨ sp < 3 ∨ 6 < sp ∨ w ∉ [1, 2, 4, 8, 16])
    (fl : Bool) : exec (.dataLinkUp sp w fl) s = .next s := by
  rw [exec_dataLinkUp, execDataLinkUp, if_pos]
  exact h.imp_right (Or.imp (fun h => by rw [h]; rfl) (Or.imp_left (s.on_iff ..).2))

/-- The width at which a link of a partner's width trains (R314). -/
def trainedWidth (w : Nat) : Nat := if w = 2 then 1 else w

/-- The registers of a link that has come up. -/
def State.linkShown (s : State) (sp w : Nat) (fl : Bool) : State :=
  ((((s.wr CG_LINK.SPEED sp).wr CG_LINK.WIDTH (trainedWidth w)).put CG_LINK.FLIT fl).wr CG_LINK.UP 1).put CG_LINK.DEGRADED
    (decide (sp < 6 ∨ trainedWidth w < 16))

theorem exec_dataLinkUp_taken {sp w : Nat} (hp : s.clk.perst = false) (hr : s.rootRuns = true) (hu : s.rd CG_LINK.UP = 0) (h3 : 3 ≤ sp)
    (h6 : sp ≤ 6) (hw : w ∈ [1, 2, 4, 8, 16]) (fl : Bool) : ∃ y : State, exec (.dataLinkUp sp w fl) s = .next y.flushPending ∧
      y.regs = (s.linkShown sp w fl).regs := by
  rw [exec_dataLinkUp, execDataLinkUp, if_neg]
  · refine ⟨if decide (sp < 6 ∨ trainedWidth w < 16) then (s.linkShown sp w fl).post 2 0x0020 1 ((s.linkShown sp w fl).raw CG_LINK.regs)
      else s.linkShown sp w fl, rfl, ?_⟩
    split_ifs <;> rfl
  · rw [hp, hr, s.on_eq_false hu]
    rintro (h | h | h | h | h | h)
    · cases h
    · cases h
    · cases h
    · omega
    · omega
    · exact h hw

theorem linkUp_meets {sp w : Nat} (hp : s.clk.perst = false) (hr : s.rootRuns = true) (hu : s.rd CG_LINK.UP = 0) (h3 : 3 ≤ sp)
    (h6 : sp ≤ 6) (hw : w ∈ [1, 2, 4, 8, 16]) (fl : Bool) : ∃ t, exec (.dataLinkUp sp w fl) s = .next t ∧ t.rd CG_LINK.UP = 1 ∧
      t.rd CG_LINK.SPEED = sp ∧ t.rd CG_LINK.WIDTH = trainedWidth w ∧ t.rd CG_LINK.FLIT = b2n fl ∧
      t.rd CG_LINK.DEGRADED = (if sp < 6 ∨ w < 16 then 1 else 0) ∧
      s.regsKeptBut t [CG_LINK.UP.key, CG_LINK.SPEED.key, CG_LINK.WIDTH.key, CG_LINK.FLIT.key, CG_LINK.DEGRADED.key] := by
  obtain ⟨y, hexec, hy⟩ := exec_dataLinkUp_taken hp hr hu h3 h6 hw fl
  have hrd (f : Fld) (u j : Nat) : y.flushPending.rd f u j = (s.linkShown sp w fl).rd f u j := by
    rw [State.rd_flushPending, State.rd, hy]
    rfl
  obtain ⟨hnarrow, hlow⟩ : trainedWidth w < 32 ∧ (trainedWidth w < 16 ↔ w < 16) :=
    (show ∀ w ∈ [1, 2, 4, 8, 16], trainedWidth w < 32 ∧ (trainedWidth w < 16 ↔ w < 16) by decide) w hw
  refine ⟨_, hexec, ?_, ?_, ?_, ?_, ?_, fun f u j hk => (hrd f u j).trans ?_⟩
  · rw [hrd, State.linkShown, State.rd_put_other (by decide)]
    exact State.rd_wr_fit (by decide)
  · rw [hrd, State.linkShown, State.rd_put_other (by decide), State.rd_wr_other _ (by decide), State.rd_put_other (by decide),
      State.rd_wr_other _ (by decide)]
    exact State.rd_wr_fit (by change sp < 2 ^ 3; omega)
  · rw [hrd, State.linkShown, State.rd_put_other (by decide), State.rd_wr_other _ (by decide), State.rd_put_other (by decide)]
    exact State.rd_wr_fit hnarrow
  · rw [hrd, State.linkShown, State.rd_put_other (by decide), State.rd_wr_other _ (by decide)]
    exact State.rd_put_flag (by decide)
  · rw [hrd, State.linkShown, State.rd_put_flag (by decide), b2n]
    simp [hlow]
  · exact (((((State.regsKeptBut.refl.wr (by simp)).wr (by simp)).put (by simp)).wr (by simp)).put (by simp) :
      s.regsKeptBut (s.linkShown sp w fl) [CG_LINK.UP.key, CG_LINK.SPEED.key, CG_LINK.WIDTH.key, CG_LINK.FLIT.key, CG_LINK.DEGRADED.key]) f u j hk

/-! ### Configuration requests (R316, R317) -/

theorem exec_configRequest_unlinked (h : s.rd CG_LINK.UP = 0) (op : ConfigOp) : exec (.configRequest op) s = .next s := by
  rw [exec_configRequest, execConfigRequest, s.on_eq_false h]
  rfl

theorem exec_configRequest_early (hu : s.rd CG_LINK.UP ≠ 0) (hb : s.rd CG_BASE.BASE_DONE = 0) (op : ConfigOp) :
    exec (.configRequest op) s = .next (s.emit (.configCompletion 2 0)) := by
  rw [exec_configRequest, execConfigRequest, (s.on_iff ..).2 hu, s.on_eq_false hb]
  rfl

theorem exec_configRequest_read (hu : s.rd CG_LINK.UP ≠ 0) (hb : s.rd CG_BASE.BASE_DONE ≠ 0) (hop : configReads op = true) :
    exec (.configRequest op) s = .next ((s.configRead op).2.emit (.configCompletion 0 (s.configRead op).1)) := by
  rw [exec_configRequest, execConfigRequest, (s.on_iff ..).2 hu, (s.on_iff ..).2 hb, hop]
  rfl

theorem exec_configRequest_write (hu : s.rd CG_LINK.UP ≠ 0) (hb : s.rd CG_BASE.BASE_DONE ≠ 0) (hop : configReads op = false) :
    exec (.configRequest op) s = .next ((s.configWrite op).emit (.configCompletion 0 0)) := by
  rw [exec_configRequest, execConfigRequest, (s.on_iff ..).2 hu, (s.on_iff ..).2 hb, hop]
  rfl

theorem busMaster_meets (hu : s.rd CG_LINK.UP ≠ 0) (hb : s.rd CG_BASE.BASE_DONE ≠ 0) (on : Bool) : ∃ t,
    exec (.configRequest (.busMaster on)) s = .next t ∧ t.rd CG_BASE.BME = b2n on ∧ t.sent.getLast? = some (.configCompletion 0 0) ∧
      s.regsKeptBut t [CG_BASE.BME.key] := by
  refine ⟨_, exec_configRequest_write hu hb rfl, ?_, List.getLast?_append_of_ne_nil _ (List.cons_ne_nil _ _), ?_⟩
  · rw [State.rd_emit, State.configWrite, State.rd_flushPending]
    exact State.rd_put_flag (by decide)
  · refine State.regsKeptBut.emit fun f u j hk => (State.rd_flushPending ..).trans ?_
    exact State.regsKeptBut.refl.put (by simp) f u j hk

theorem bar2Size_meets (hu : s.rd CG_LINK.UP ≠ 0) (hb : s.rd CG_BASE.BASE_DONE ≠ 0) (n : Nat) : ∃ t,
    exec (.configRequest (.bar2Size n)) s = .next t ∧ t.cage = { s.cage with bar2 := if n ≤ 10 then n else s.cage.bar2 } ∧
      t.sent = s.sent ++ [Emission.configCompletion 0 0] := by
  refine ⟨_, exec_configRequest_write hu hb rfl, ?_, ?_⟩
  · unfold State.configWrite
    dsimp only
    split_ifs <;> rfl
  · unfold State.configWrite
    dsimp only
    split_ifs <;> rfl

/-! ### The base time-out (R317) -/

theorem exec_baseTimeout_late (hp : s.clk.perst = false) (hb : s.rd CG_BASE.BASE_DONE = 0) :
    exec .baseTimeout s = .next ((s.wr CG_BASE.BASE_DONE 1).wr CG_BASE.BASE_LATE 1) := by
  rw [exec_baseTimeout, execBaseTimeout, hp, s.on_eq_false hb]
  rfl

theorem exec_baseTimeout_none (h : s.clk.perst = true ∨ s.rd CG_BASE.BASE_DONE ≠ 0) : exec .baseTimeout s = .next s := by
  rw [exec_baseTimeout, execBaseTimeout, if_pos (h.imp_right (s.on_iff ..).2)]

/-! ### The loss of the link (R319) -/

/-- A queue when the link is lost: its reads in flight are gone, and it halts. -/
def State.linkLost (s : State) (q : Nat) : State :=
  let t := s.updQu q (fun x => { x with asked := x.arrived })
  if t.quState q = 3 then t else t.haltQueue q 1

/-- The registers that the loss of the link writes for a queue. -/
def lostFields : List Fld := [QU_STATUS.STATE, QU_STATUS.HALT_CAUSE] ++ queueShown

theorem State.rd_linkLost (h : ∀ g ∈ lostFields, f.id ≠ g.id) (s : State) (q u j : Nat) : (s.linkLost q).rd f u j = s.rd f u j := by
  obtain ⟨hst, hc, hsh⟩ := (List.forall_mem_cons.1 h).imp_right List.forall_mem_cons.1
  unfold State.linkLost
  extract_lets t
  split_ifs
  · exact State.rd_setQu_other hsh ..
  · exact (State.rd_haltQueue hst hc ..).trans (State.rd_setQu_other hsh ..)

/-- Another queue keeps its state. -/
theorem State.rd_linkLost_ne {r : Nat} (hr : q ≠ r) (hsh : ∀ g ∈ queueShown, f.id ≠ g.id) (s : State) (j : Nat) :
    (s.linkLost r).rd f q j = s.rd f q j := by
  have hne {g : Fld} (v : Nat) (t : State) : (t.wr g v r).rd f q j = t.rd f q j :=
    State.rd_wr_ne t fun h => hr (congrArg Key.unit h)
  unfold State.linkLost
  extract_lets t
  split_ifs
  · exact State.rd_setQu_other hsh ..
  · rw [State.haltQueue, hne, hne]
    exact State.rd_setQu_other hsh ..

theorem State.linkLost_msix (s : State) (q : Nat) : (s.linkLost q).msix = s.msix := by
  unfold State.linkLost
  extract_lets t
  split_ifs <;> rfl

theorem State.linkLost_bar2 (s : State) (q : Nat) : (s.linkLost q).cage.bar2 = s.cage.bar2 := by
  unfold State.linkLost
  extract_lets t
  split_ifs <;> rfl

theorem State.foldl_linkLost_keeps (l : List Nat) (s : State) : (l.foldl State.linkLost s).msix = s.msix ∧
    (l.foldl State.linkLost s).cage.bar2 = s.cage.bar2 ∧
    ∀ f : Fld, (∀ g ∈ lostFields, f.id ≠ g.id) → (l.foldl State.linkLost s).rd f = s.rd f := by
  induction l generalizing s with
  | nil => exact ⟨rfl, rfl, fun _ _ => rfl⟩
  | cons q l ih =>
    obtain ⟨hm, hb, hf⟩ := ih (s.linkLost q)
    exact ⟨hm.trans (s.linkLost_msix q), hb.trans (s.linkLost_bar2 q), fun f h => (hf f h).trans (State.rd_linkLost h s q 0 0)⟩

/-- A queue that moves data halts with cause 1, and a halt by the link stays. -/
theorem State.foldl_linkLost_halts (l : List Nat) (s : State)
    (h : (q ∈ l ∧ (s.quState q = 1 ∨ s.quState q = 2)) ∨ (s.quState q = 3 ∧ s.rd QU_STATUS.HALT_CAUSE q = 1)) :
    (l.foldl State.linkLost s).quState q = 3 ∧ (l.foldl State.linkLost s).rd QU_STATUS.HALT_CAUSE q = 1 := by
  induction l generalizing s with
  | nil => exact h.resolve_left fun h => absurd h.1 List.not_mem_nil
  | cons r l ih =>
    refine ih _ ?_
    by_cases hr : q = r
    · subst hr
      have hstate : (s.updQu q fun x => { x with asked := x.arrived }).quState q = s.quState q := State.quState_setQu ..
      have hcause : (s.updQu q fun x => { x with asked := x.arrived }).rd QU_STATUS.HALT_CAUSE q = s.rd QU_STATUS.HALT_CAUSE q :=
        State.rd_setQu_other (by decide) ..
      rw [State.linkLost]
      rcases h with ⟨-, h⟩ | ⟨h3, hc⟩
      · rw [if_neg (by rw [hstate]; omega)]
        exact Or.inr (State.haltQueue_meets _ q (by decide))
      · rw [if_pos (hstate.trans h3)]
        exact Or.inr ⟨hstate.trans h3, hcause.trans hc⟩
    · have hstate : (s.linkLost r).quState q = s.quState q := State.rd_linkLost_ne hr (by decide) s 0
      rw [hstate, State.rd_linkLost_ne hr (by decide)]
      exact h.imp_left fun ⟨hm, h⟩ => ⟨(List.mem_cons.1 hm).resolve_left hr, h⟩

/-- The registers and the capability when the link is lost. -/
def State.linkCleared (s : State) : State :=
  ({ ((((s.wr CG_BASE.BME 0).wr CG_LINK.UP 0).wr CG_LINK.LINK_RESET 1).count CG_LINK.DOWN_COUNT) with
    msix := { Msix.cold with pending := s.msix.pending } }).cg fun c => { c with bar2 := 0, maxPayload := 128, maxRead := 512, relaxed := true }

theorem exec_linkDown_lost (h : s.rd CG_LINK.UP ≠ 0) : exec .linkDown s = .next (s.linkCleared.liveQueues.foldl State.linkLost s.linkCleared) := by
  rw [exec_linkDown, execLinkDown, (s.on_iff ..).2 h]
  rfl

theorem exec_linkDown_none (h : s.rd CG_LINK.UP = 0) : exec .linkDown s = .next s := by
  rw [exec_linkDown, execLinkDown, s.on_eq_false h]
  rfl

theorem State.rd_linkCleared (h : ∀ g ∈ [CG_BASE.BME, CG_LINK.UP, CG_LINK.LINK_RESET, CG_LINK.DOWN_COUNT], f.id ≠ g.id) (s : State) (u j : Nat) :
    s.linkCleared.rd f u j = s.rd f u j := by
  simp only [List.forall_mem_cons] at h
  obtain ⟨hb, hu, hl, hd, -⟩ := h
  have hcount : (((((s.wr CG_BASE.BME 0).wr CG_LINK.UP 0).wr CG_LINK.LINK_RESET 1).count CG_LINK.DOWN_COUNT)).rd f u j = s.rd f u j := by
    rw [State.rd_count_other hd, State.rd_wr_other _ hl, State.rd_wr_other _ hu, State.rd_wr_other _ hb]
  exact hcount

theorem State.linkCleared_meets (s : State) : s.linkCleared.rd CG_LINK.UP = 0 ∧ s.linkCleared.rd CG_BASE.BME = 0 ∧
    s.linkCleared.rd CG_LINK.LINK_RESET = 1 ∧ s.linkCleared.rd CG_LINK.DOWN_COUNT = min (s.rd CG_LINK.DOWN_COUNT + 1) (2 ^ 16 - 1) := by
  obtain ⟨y, hy⟩ : ∃ y, y = ((s.wr CG_BASE.BME 0).wr CG_LINK.UP 0).wr CG_LINK.LINK_RESET 1 := ⟨_, rfl⟩
  have hrd (f : Fld) : s.linkCleared.rd f = (y.count CG_LINK.DOWN_COUNT).rd f := by rw [hy]; rfl
  refine ⟨?_, ?_, ?_, ?_⟩
  · rw [hrd, State.rd_count_other (by decide), hy, State.rd_wr_other _ (by decide)]
    exact State.rd_wr_fit (by decide)
  · rw [hrd, State.rd_count_other (by decide), hy, State.rd_wr_other _ (by decide), State.rd_wr_other _ (by decide)]
    exact State.rd_wr_fit (by decide)
  · rw [hrd, State.rd_count_other (by decide), hy]
    exact State.rd_wr_fit (by decide)
  · rw [hrd, State.rd_count_one, hy, State.rd_wr_other _ (by decide), State.rd_wr_other _ (by decide), State.rd_wr_other _ (by decide)]
    rfl

theorem linkDown_meets (h : s.rd CG_LINK.UP ≠ 0) : ∃ t, exec .linkDown s = .next t ∧ t.rd CG_LINK.UP = 0 ∧ t.rd CG_BASE.BME = 0 ∧
    t.rd CG_LINK.LINK_RESET = 1 ∧ t.rd CG_LINK.DOWN_COUNT = min (s.rd CG_LINK.DOWN_COUNT + 1) (2 ^ 16 - 1) ∧
    t.msix = { Msix.cold with pending := s.msix.pending } ∧ t.cage.bar2 = 0 ∧ ∀ q, q < 4096 →
      (s.rd QU_STATUS.STATE q = 1 ∨ s.rd QU_STATUS.STATE q = 2) → t.rd QU_STATUS.STATE q = 3 ∧ t.rd QU_STATUS.HALT_CAUSE q = 1 := by
  obtain ⟨hup, hbme, hreset, hcount⟩ := s.linkCleared_meets
  obtain ⟨hmsix, hbar, hrd⟩ := State.foldl_linkLost_keeps s.linkCleared.liveQueues s.linkCleared
  refine ⟨_, exec_linkDown_lost h, (hrd _ (by decide)).trans ?_, (hrd _ (by decide)).trans ?_, (hrd _ (by decide)).trans ?_,
    (hrd _ (by decide)).trans ?_, hmsix, hbar, fun q hq hm => State.foldl_linkLost_halts _ _ (Or.inl ?_)⟩
  · exact hup
  · exact hbme
  · exact hreset
  · exact hcount
  · have hstate : s.linkCleared.quState q = s.quState q := State.rd_linkCleared (by decide) s q 0
    refine ⟨List.mem_filter.2 ⟨List.mem_range.2 hq, decide_eq_true ?_⟩, by rw [hstate]; exact hm⟩
    rw [hstate]
    exact hm.elim (fun h1 => by rw [State.quState, h1]; decide) fun h2 => by rw [State.quState, h2]; decide

/-! ### Host memory requests (R318, R320; 01 R36 to R39) -/

theorem exec_hostMemoryRequest_lost {bar ofs len : Nat} (h : s.rd CG_LINK.UP = 0 ∨ s.barHolds bar ofs len = false) (data : List Nat) (p : Bool)
    (ans : List Answer) : exec (.hostMemoryRequest bar ofs len false data p ans) s = .next s := by
  rw [exec_hostMemoryRequest, execHostMemoryRequest, if_pos]
  rcases h with h | h
  · exact Or.inr (Or.inl (by rw [s.on_eq_false h]; rfl))
  · exact Or.inl (by rw [if_neg (by decide), h]; rfl)

/-- A request that arrives: a halted part answers a read with Completer Abort and drops a write. -/
theorem exec_hostMemoryRequest_arrives {bar ofs len : Nat} {write : Bool} {data : List Nat}
    (hb : s.barHolds bar ofs (if write then data.length else len) = true) (hu : s.rd CG_LINK.UP ≠ 0) (hs : s.clk.stage = .running)
    (hw : s.clk.warmHold = false) (p : Bool) (ans : List Answer) : exec (.hostMemoryRequest bar ofs len write data p ans) s = .next
      (if s.halted then (if write then s else s.emit (.hostCompletion 1 0))
       else if write then s.hostWrite (s.barAddr bar ofs) data p ans else s.hostRead (s.barAddr bar ofs) len ans) := by
  rw [exec_hostMemoryRequest, execHostMemoryRequest, if_neg]
  rw [hb, (s.on_iff ..).2 hu, hs, hw]
  simp

theorem State.barHolds_zero {ofs len : Nat} (hl : 1 ≤ len) (h : ofs + len ≤ 2 ^ 31) : s.barHolds 0 ofs len = true := by
  rw [State.barHolds, decide_eq_true hl, decide_eq_true h]
  rfl

/-- The Gallery address of an offset in BAR0 (01 R36). -/
def bar0 (ofs : Nat) : Nat := 0x010000000000 + ofs

/-- An aligned access of 8 bytes is one piece (R318). -/
theorem pieces_eight (ha : a % 8 = 0) : pieces 8 a 8 = [(a, 8)] := by
  have hsize : pieceSize a 8 = 8 := by
    unfold pieceSize
    split_ifs with h1 h2
    · omega
    · rfl
    · exact absurd ⟨ha, le_refl 8⟩ h2
    · exact absurd ⟨ha, le_refl 8⟩ h2
    · exact absurd ⟨ha, le_refl 8⟩ h2
  rw [pieces, if_neg (by decide), hsize, pieces, if_pos rfl]

theorem pieces_one (a : Nat) : ∃ n, pieces 1 a 1 = [(a, n)] := ⟨_, rfl⟩

/-- The bytes of a number, read back. -/
theorem natOf_bitsOf (n d : Nat) : natOf ((List.range n).map (fun i => bitsOf d (8 * i) 8)) = d % 2 ^ (8 * n) := by
  induction n generalizing d with
  | zero => simp [natOf, Nat.mod_one]
  | succ n ih =>
    have htail : (List.range n).map ((fun i => bitsOf d (8 * i) 8) ∘ Nat.succ) = (List.range n).map (fun i => bitsOf (d / 256) (8 * i) 8) := by
      refine List.map_congr_left fun i _ => ?_
      rw [Function.comp_apply, bitsOf_eq, bitsOf_eq, Nat.succ_eq_add_one, Nat.mul_add, Nat.pow_add, Nat.mul_comm (2 ^ (8 * i)), ← Nat.div_div_eq_div_mul]
    rw [List.range_succ_eq_map, List.map_cons, List.map_map, htail, natOf, ih, bitsOf_eq, Nat.mul_add, Nat.pow_add, Nat.mul_comm (2 ^ (8 * n)),
      Nat.mod_mul]
    simp

/-! A data window (01 R27, R39) -/

theorem State.hostRead_data (hp : pieces n a n = [(a, n)]) (hw : windowOf a = .data) {y : State} {ans : Answer} {r : Answer}
    (hacc : s.dataAccess 644 a n false 0 false ans = (r, y)) (hst : r.status = 0) (hpo : r.poison = false) :
    s.hostRead a n [ans] = y.emit (.hostCompletion 0 (r.data % 2 ^ (8 * n))) := by
  have hpiece : s.hostReadPiece (a, n) ⟨[ans], [], false⟩ = (y, ⟨[], (List.range n).map (fun i => bitsOf r.data (8 * i) 8), false⟩) := by
    rw [State.hostReadPiece, hw]
    simp only [List.headD_cons, hacc, hst, hpo]
    rfl
  rw [State.hostRead, hp, List.foldl_cons, List.foldl_nil, hpiece, ← natOf_bitsOf]
  rfl

theorem State.hostWrite_data {data : List Nat} (hp : pieces data.length a data.length = [(a, data.length)]) (hw : windowOf a = .data) {y : State}
    {ans : Answer} {r : Answer} (hacc : s.dataAccess 644 a data.length true (natOf data) false ans = (r, y)) (hst : r.status = 0) :
    s.hostWrite a data false [ans] = y := by
  have hall : (data.drop (a - a)).take data.length = data := by rw [Nat.sub_self, List.drop_zero, List.take_length]
  have hpiece : s.hostWritePiece (a, data.length) (natOf data) false ⟨[ans], [], false⟩ = (y, ⟨[], [], false⟩) := by
    rw [State.hostWritePiece, hw]
    simp only [List.headD_cons, hacc, hst]
    rfl
  rw [State.hostWrite, if_neg (by decide), hp, List.foldl_cons, List.foldl_nil]
  dsimp only
  rw [hall, hpiece]

theorem State.dataAccess_target {size : Nat} (hr : s.windowRefuses a size = none) (hc : inCageBuffer a = false) (write : Bool) (data : Nat)
    (ans : Answer) : s.dataAccess 644 a size write data false ans = (ans, s.emit (.access 644 a size write false data false)) := by
  rw [State.dataAccess, hr]
  dsimp only
  rw [if_neg (by rw [hc]; decide)]

theorem State.dataAccess_buffer_read {size : Nat} (hr : s.windowRefuses a size = none) (hc : inCageBuffer a = true) (ans : Answer)
    (hp : ans.poison = false) : s.dataAccess 644 a size false 0 false ans =
      (⟨0, (s.loadBytes a size).foldr (fun b v => b + 256 * v) 0, false⟩, s) := by
  rw [State.dataAccess, hr]
  dsimp only
  rw [if_pos hc, if_neg (by decide), hp, if_neg (by decide)]

theorem State.dataAccess_buffer_write {size : Nat} (hr : s.windowRefuses a size = none) (hc : inCageBuffer a = true) (data : Nat) (ans : Answer) :
    s.dataAccess 644 a size true data false ans = (⟨0, 0, false⟩, s.storeBytes a (bytesOf size data)) := by
  rw [State.dataAccess, hr]
  dsimp only
  rw [if_pos hc, if_pos rfl]

/-- A read of a hole fails as NOWIN, recorded where both flags were clear (01 R39, 12 R342). -/
theorem State.hostRead_hole (hw : windowOf a = .hole) (ans : List Answer) : s.hostRead a 1 ans = (s.hostFail a 2 false).emit (.hostCompletion 1 0) := by
  obtain ⟨n, hn⟩ := pieces_one a
  have hpiece : s.hostReadPiece (a, n) ⟨ans, [], false⟩ = (s.hostFail a 2 false, ⟨ans, [], true⟩) := by
    rw [State.hostReadPiece, hw]
    rfl
  rw [State.hostRead, hn, List.foldl_cons, List.foldl_nil, hpiece]
  rfl

theorem State.rd_cgErr_other {g : Fld} (h : g.id ≠ f.id) (s : State) (u j : Nat) : (s.cgErr f).rd g u j = s.rd g u j := by
  unfold State.cgErr
  extract_lets b y
  split_ifs
  · exact (State.rd_requestVector ..).trans (State.rd_wr_other s h)
  · exact State.rd_wr_other s h

theorem State.hostFail_meets (hr : s.rd CG_ERR_STATUS.HOST_RD_ERR = 0) (hw : s.rd CG_ERR_STATUS.HOST_WR_ERR = 0) (ha : a < 2 ^ 48) :
    (s.hostFail a 2 false).rd CG_ERR_STATUS.HOST_RD_ERR = 1 ∧ (s.hostFail a 2 false).rd CG_ERR_ADDR.ADDR = a ∧
    (s.hostFail a 2 false).rd CG_ERR_ADDR.CAUSE = 1 ∧ (s.hostFail a 2 false).rd CG_ERR_ADDR.WRITE = 0 := by
  have hfail : s.hostFail a 2 false =
      (((s.wr CG_ERR_ADDR.ADDR a).wr CG_ERR_ADDR.CAUSE 1).put CG_ERR_ADDR.WRITE false).cgErr CG_ERR_STATUS.HOST_RD_ERR := by
    rw [State.hostFail, s.on_eq_false hr, s.on_eq_false hw]
    rfl
  rw [hfail]
  refine ⟨State.rd_cgErr_same (by decide) _, ?_, ?_, ?_⟩
  · rw [State.rd_cgErr_other (by decide), State.rd_put_other (by decide), State.rd_wr_other _ (by decide)]
    exact State.rd_wr_fit ha
  · rw [State.rd_cgErr_other (by decide), State.rd_put_other (by decide)]
    exact State.rd_wr_fit (by decide)
  · rw [State.rd_cgErr_other (by decide)]
    exact State.rd_put_flag (by decide)

theorem windowOf_buffer (h : a < 0x010002000000) : windowOf a = .data := if_pos h

/-- In the ready Cage buffer an aligned access is never refused (01 R27). -/
theorem State.windowRefuses_buffer (h0 : 0x010000000000 ≤ a) (h1 : a < 0x010002000000) (h8 : a % 8 = 0) (hr : s.ready 1 = true) :
    s.windowRefuses a 8 = none := by
  have hbit : s.windowBit a = 1 := by rw [State.windowBit, if_neg (by omega), if_pos h1]
  rw [State.windowRefuses, if_neg (by omega), hbit, hr]
  rfl

/-- The eight bytes that the statement's write sends. -/
theorem natOf_rising : natOf [1, 2, 3, 4, 5, 6, 7, 8] = 0x0807060504030201 := by decide

theorem bytesOf_rising : bytesOf 8 0x0807060504030201 = [1, 2, 3, 4, 5, 6, 7, 8] := by decide

theorem pieces_rising (ha : a % 8 = 0) : pieces [1, 2, 3, 4, 5, 6, 7, 8].length a [1, 2, 3, 4, 5, 6, 7, 8].length =
    [(a, [1, 2, 3, 4, 5, 6, 7, 8].length)] := pieces_eight ha

/-- A read of 8 bytes through BAR0 at an aligned offset. -/
theorem exec_hostRead_eight {ofs : Nat} (ho : ofs + 8 ≤ 2 ^ 31) (hu : s.rd CG_LINK.UP ≠ 0) (hs : s.clk.stage = .running) (hw : s.clk.warmHold = false)
    (hh : s.halted = false) (ans : List Answer) :
    exec (.hostMemoryRequest 0 ofs 8 false [] false ans) s = .next (s.hostRead (bar0 ofs) 8 ans) := by
  have h := exec_hostMemoryRequest_arrives (write := false) (data := []) (s.barHolds_zero (ofs := ofs) (len := 8) (by omega) ho) hu hs hw false ans
  rw [hh] at h
  exact h

/-- A write of 8 bytes through BAR0 at an aligned offset. -/
theorem exec_hostWrite_eight {ofs : Nat} (ho : ofs + 8 ≤ 2 ^ 31) (hu : s.rd CG_LINK.UP ≠ 0) (hs : s.clk.stage = .running) (hw : s.clk.warmHold = false)
    (hh : s.halted = false) (ans : List Answer) : exec (.hostMemoryRequest 0 ofs 0 true [1, 2, 3, 4, 5, 6, 7, 8] false ans) s =
      .next (s.hostWrite (bar0 ofs) [1, 2, 3, 4, 5, 6, 7, 8] false ans) := by
  have h := exec_hostMemoryRequest_arrives (len := 0) (write := true) (data := [1, 2, 3, 4, 5, 6, 7, 8])
    (s.barHolds_zero (ofs := ofs) (len := 8) (by omega) ho) hu hs hw false ans
  rw [hh] at h
  exact h

/-- A data window answers with what its target answers, and a write sends its bytes. -/
theorem hostData_meets (h8 : a % 8 = 0) (hwin : windowOf a = .data) (href : s.windowRefuses a 8 = none) (hbuf : inCageBuffer a = false)
    (hd : d < 2 ^ 64) : s.hostRead a 8 [⟨0, d, false⟩] =
        (s.emit (.access 644 a 8 false false 0 false)).emit (.hostCompletion 0 d) ∧
      s.hostWrite a [1, 2, 3, 4, 5, 6, 7, 8] false [⟨0, 0, false⟩] = s.emit (.access 644 a 8 true false 0x0807060504030201 false) := by
  have hread := State.hostRead_data (pieces_eight h8) hwin (State.dataAccess_target href hbuf false 0 ⟨0, d, false⟩) rfl rfl
  have hwrite := State.hostWrite_data (pieces_rising h8) hwin (State.dataAccess_target href hbuf true (natOf [1, 2, 3, 4, 5, 6, 7, 8]) ⟨0, 0, false⟩) rfl
  rw [show d % 2 ^ (8 * 8) = d from Nat.mod_eq_of_lt hd] at hread
  rw [natOf_rising] at hwrite
  exact ⟨hread, hwrite⟩

/-- The Cage buffer is the part's own memory (12 R327). -/
theorem hostBuffer_meets (h8 : a % 8 = 0) (hlow : 0x010000000000 ≤ a) (hhigh : a < 0x010002000000) (hr : s.ready 1 = true) :
    s.hostRead a 8 [⟨0, 0, false⟩] = s.emit (.hostCompletion 0 ((s.loadBytes a 8).foldr (fun b v => b + 256 * v) 0 % 2 ^ 64)) ∧
      s.hostWrite a [1, 2, 3, 4, 5, 6, 7, 8] false [⟨0, 0, false⟩] = s.storeBytes a [1, 2, 3, 4, 5, 6, 7, 8] := by
  have hbuf : inCageBuffer a = true := by rw [inCageBuffer, decide_eq_true hlow, decide_eq_true hhigh]; rfl
  have href : s.windowRefuses a 8 = none := State.windowRefuses_buffer hlow hhigh h8 hr
  have hwrite := State.hostWrite_data (pieces_rising h8) (windowOf_buffer hhigh)
    (State.dataAccess_buffer_write href hbuf (natOf [1, 2, 3, 4, 5, 6, 7, 8]) ⟨0, 0, false⟩) rfl
  rw [natOf_rising, bytesOf_rising] at hwrite
  have hread := State.hostRead_data (pieces_eight h8) (windowOf_buffer hhigh) (State.dataAccess_buffer_read href hbuf ⟨0, 0, false⟩ rfl) rfl rfl
  exact ⟨hread, hwrite⟩

/-- Settles O33: a clause per command; the loss of the link halts the queues one by one, and a request is a single piece. -/
theorem hostLink : Obligations.HostLink := by
  unfold Obligations.HostLink
  intro s
  refine ⟨rfl, fun sp w fl h => exec_dataLinkUp_ignored h fl, fun sp w fl hp hr hu h3 h6 hw => linkUp_meets hp hr hu h3 h6 hw fl,
    fun op h => exec_configRequest_unlinked h op, fun op hu hb => exec_configRequest_early hu hb op,
    fun hu hb => ⟨exec_configRequest_read hu hb rfl, exec_configRequest_read hu hb rfl⟩, fun on hu hb => busMaster_meets hu hb on,
    fun n hu hb => bar2Size_meets hu hb n, fun hp hb => ?_, exec_baseTimeout_none, exec_linkDown_none, linkDown_meets,
    fun bar ofs len data p ans h => exec_hostMemoryRequest_lost h data p ans, fun bar ofs len data p ans hb hb' hu hs hw hh => ?_,
    fun ofs ans ho hu hs hw hh hwin hr hwr => ?_, fun ofs d ho h8 hu hs hw hh hwin href hbuf hd => ?_, fun ofs ho h8 hu hs hw hh hready => ?_⟩
  · refine ⟨_, exec_baseTimeout_late hp hb, (State.rd_wr_other _ (by decide)).trans (State.rd_wr_fit (by decide)), State.rd_wr_fit (by decide),
      (State.regsKeptBut.refl.wr (by simp)).wr (by simp), rfl⟩
  · have hread := exec_hostMemoryRequest_arrives (write := false) (data := data) hb hu hs hw p ans
    have hwrite := exec_hostMemoryRequest_arrives (len := len) (write := true) (data := data) hb' hu hs hw p ans
    rw [hh] at hread hwrite
    exact ⟨hread, hwrite⟩
  · obtain ⟨hflag, haddr, hcause, hwrite⟩ := State.hostFail_meets (a := bar0 ofs) hr hwr (by unfold bar0; omega)
    have hexec := exec_hostMemoryRequest_arrives (write := false) (data := []) (State.barHolds_zero (len := 1) (by omega) ho) hu hs hw false ans
    have hfail : s.hostRead (s.barAddr 0 ofs) 1 ans = (s.hostFail (bar0 ofs) 2 false).emit (.hostCompletion 1 0) := State.hostRead_hole hwin ans
    rw [hh, if_neg (by decide), if_neg (by decide), hfail] at hexec
    exact ⟨_, hexec, hflag, haddr, hcause, hwrite, List.getLast?_append_of_ne_nil _ (List.cons_ne_nil _ _)⟩
  · obtain ⟨hread, hwrite⟩ := hostData_meets (a := bar0 ofs) (by unfold bar0; omega) hwin href hbuf hd
    refine ⟨(exec_hostRead_eight ho hu hs hw hh _).trans ?_, (exec_hostWrite_eight ho hu hs hw hh _).trans (congrArg _ hwrite)⟩
    rw [hread, State.emit, State.emit, List.append_assoc]
    rfl
  · obtain ⟨hread, hwrite⟩ := hostBuffer_meets (a := bar0 ofs) (by unfold bar0; omega) (Nat.le_add_right ..) (by unfold bar0; omega) hready
    exact ⟨(exec_hostRead_eight (by omega) hu hs hw hh _).trans (congrArg _ hread), (exec_hostWrite_eight (by omega) hu hs hw hh _).trans (congrArg _ hwrite)⟩

end Sys2Proof.Machine
end


section
/-! PROOF. Protected ranges (O40; 15 R392 to R407): commands, and the spans that they clear. -/

namespace Sys2Proof.Machine

variable {s t : State} {k a n : Nat} {f : Fld} {sp : Nat × Nat}

/-! ### ENABLE and RETIRE (15 R394, R395) -/

theorem exec_rangeEnable_refused (hk : k < 16) (h : s.rangeOk k = false) :
    exec (.rangeEnable k) s = .next (s.wr EN_RANGE_CTRL.RANGE_ERR 1 0 k) := by
  rw [exec_rangeEnable, execRangeEnable, need_pos (decide_eq_true hk), State.rangeCmd, if_neg (by decide),
    if_neg (by rw [h]; simp), if_neg (by simp)]

theorem exec_rangeEnable_taken (hk : k < 16) (h : s.rangeOk k = true) (hh : s.halted = false) (hq : s.dram.queue = []) :
    exec (.rangeEnable k) s = .next (s.en fun c => { c with enabling := c.enabling ++ [k] }) := by
  rw [exec_rangeEnable, execRangeEnable, need_pos (decide_eq_true hk), State.rangeCmd, if_neg (by decide),
    if_pos ⟨rfl, h, by rw [hh]; rfl⟩, State.dramIdle_nil hq]

theorem exec_rangeRetire_refused (hk : k < 16) (h : s.rangeState k = 0 ∨ s.rangeState k = 2 ∨ s.halted = true) :
    exec (.rangeRetire k) s = .next (s.wr EN_RANGE_CTRL.RANGE_ERR 1 0 k) := by
  rw [exec_rangeRetire, execRangeRetire, need_pos (decide_eq_true hk), State.rangeCmd, if_neg (by decide), if_neg (by simp), if_neg]
  rintro ⟨-, hst, hrun⟩
  rcases h with h | h | h
  · omega
  · omega
  · rw [h] at hrun
    cases hrun

theorem exec_rangeRetire_taken (hk : k < 16) (h : s.rangeState k = 1 ∨ s.rangeState k = 3) (hh : s.halted = false)
    (hq : s.dram.queue = []) (hc : s.dram.combiner = []) :
    exec (.rangeRetire k) s = .next (s.wr EN_RANGE_CTRL.STATE 2 0 k) := by
  rw [exec_rangeRetire, execRangeRetire, need_pos (decide_eq_true hk), State.rangeCmd, if_neg (by decide), if_neg (by simp),
    if_pos ⟨rfl, h, by rw [hh]; rfl⟩, State.dramIdle_nil hq, hc]
  rfl

/-- What R394 asks of a range, each as a condition of its own. -/
theorem State.rangeOk_iff : s.rangeOk k = true ↔
    s.rangeState k = 0 ∧ k ∉ s.crypto.enabling ∧ s.crypto.slots.any (fun p => decide (p.1 = k)) = true ∧ s.rd PC_MAP.FINAL ≠ 0 ∧
    (1 ≤ s.rd EN_RANGE_BASE.LEN 0 k ∧ s.rd EN_RANGE_BASE.LEN 0 k ≤ 524288) ∧
    (1 ≤ s.rd EN_RANGE_TREE.LEN 0 k ∧ s.rd EN_RANGE_TREE.LEN 0 k ≤ 524288) ∧
    (s.rangeSpan k).2 ≤ s.rd PC_AREA.BASE * 2 ^ 21 ∧ (s.treeSpan k).2 ≤ s.rd PC_AREA.BASE * 2 ^ 21 ∧
    spansMeet (s.rangeSpan k) (s.treeSpan k) = false ∧
    (∀ j, j < 16 → j ≠ k → (s.rangeState j ≠ 0 ∨ j ∈ s.crypto.enabling) →
      spansMeet (s.rangeSpan k) (s.rangeSpan j) = false ∧ spansMeet (s.rangeSpan k) (s.treeSpan j) = false ∧
      spansMeet (s.treeSpan k) (s.rangeSpan j) = false ∧ spansMeet (s.treeSpan k) (s.treeSpan j) = false) ∧
    treeBytes (s.rd EN_RANGE_BASE.LEN 0 k * 2 ^ 14) ≤ s.rd EN_RANGE_TREE.LEN 0 k * 2 ^ 21 := by
  unfold State.rangeOk
  simp only [Bool.and_eq_true, decide_eq_true_eq, Bool.not_eq_true', State.on_iff, List.all_eq_true, List.mem_filter, List.mem_range,
    Bool.or_eq_true, List.contains_eq_mem, decide_eq_false_iff_not, and_imp, and_assoc]

/-! ### Spans that read zero (15 R394, R395) -/

/-- The span covers the block of the page that holds the address. -/
def State.spanHits (s : State) (sp : Nat × Nat) (a : Nat) : Bool :=
  s.blockMeets sp (s.pagePlace (a / 128)).1 (s.pagePlace (a / 128)).2.1

theorem State.clearSpan_meets (s : State) (sp : Nat × Nat) :
    (s.clearSpan sp).mem = s.mem.filter (fun m => decide (2 ^ 40 ≤ m.1) || !s.spanHits sp m.1) ∧
    (s.clearSpan sp).crypto = s.crypto ∧ (s.clearSpan sp).dram.heldReqs = s.dram.heldReqs ∧
    ∀ f : Fld, f.blk ≠ .dc → ∀ u j, (s.clearSpan sp).rd f u j = s.rd f u j := by
  unfold State.clearSpan
  extract_lets hit cut empty
  have hfresh := State.showFresh_moves_only (List.range 8) empty
  have hheld : ((List.range 8).foldl (fun t c => t.showFresh c) empty).dram.heldReqs = empty.dram.heldReqs :=
    congrArg Dram.heldReqs (hfresh.parts .dram (partsMask_not (by decide)))
  exact ⟨hfresh.mem rfl, hfresh.parts .crypto (partsMask_not (by decide)), hheld,
    fun f hf u j => hfresh.rd_kept (by simpa using hf) u j⟩

theorem State.byte_clearSpan_hit (ha : a < 2 ^ 40) (h : s.spanHits sp a = true) : (s.clearSpan sp).byte a = 0 := by
  rw [State.byte, (s.clearSpan_meets sp).1]
  exact Tab.get_filter_drop _ fun v => by simp [h]; omega

theorem State.byte_clearSpan_zero (h : s.byte a = 0) : (s.clearSpan sp).byte a = 0 := by
  rw [State.byte, (s.clearSpan_meets sp).1]
  cases hkeep : decide (2 ^ 40 ≤ a) || !s.spanHits sp a with
  | false => exact Tab.get_filter_drop _ fun _ => hkeep
  | true => exact (Tab.get_filter _ fun _ => hkeep).trans h

/-- The channels of the map are apart. -/
theorem State.channels_nodup (s : State) : s.channels.Nodup := List.Nodup.filter _ List.nodup_range

/-- A granule's channel and channel address (14 R368). -/
theorem State.dramPlace_granule (hc : s.channels ≠ []) (a : Nat) : ∃ h : a / 4096 % s.channels.length < s.channels.length,
    s.dramPlace a = (s.channels[a / 4096 % s.channels.length], a / 4096 / s.channels.length * 4096 + a % 4096) := by
  have hpos : 0 < s.channels.length := List.length_pos_iff.2 hc
  have hlt := Nat.mod_lt (a / 4096) hpos
  refine ⟨hlt, ?_⟩
  obtain ⟨m, hm⟩ := Nat.exists_eq_succ_of_ne_zero hpos.ne'
  simp only [State.dramPlace, hm]
  rw [List.getD_eq_getElem _ _ (hm ▸ hlt)]

/-- The block of an address meets every span of whole granules that holds the address (14 R368, R385). -/
theorem State.spanHits_of_inSpan (hc : s.channels ≠ []) (h1 : sp.1 % 4096 = 0) (h2 : sp.2 % 4096 = 0) (h : inSpan sp a = true) :
    s.spanHits sp a = true := by
  obtain ⟨hlt, hplace⟩ := State.dramPlace_granule hc (a / 128 * 128)
  have hgran : a / 128 * 128 / 4096 = a / 4096 := by omega
  have hpos : 0 < s.channels.length := List.length_pos_iff.2 hc
  simp only [hgran] at hlt hplace
  have hfind : s.channels.findIdx? (fun x => decide (x = s.channels[a / 4096 % s.channels.length])) = some (a / 4096 % s.channels.length) := by
    rw [List.findIdx?_eq_some_iff_getElem]
    refine ⟨hlt, decide_eq_true rfl, fun j hj => ?_⟩
    rw [decide_eq_true_eq, s.channels_nodup.getElem_inj_iff]
    omega
  have hblock : (a / 4096 / s.channels.length * 4096 + a / 128 * 128 % 4096) / 65536 = a / 4096 / s.channels.length / 16 := by omega
  rw [State.spanHits, State.pagePlace, hplace]
  dsimp only
  rw [hblock, State.blockMeets]
  rw [hfind]
  dsimp only
  rw [List.any_eq_true]
  refine ⟨a / 4096 / s.channels.length % 16, List.mem_range.2 (Nat.mod_lt _ (by decide)), ?_⟩
  have hback : (16 * (a / 4096 / s.channels.length / 16) + a / 4096 / s.channels.length % 16) * s.channels.length +
      a / 4096 % s.channels.length = a / 4096 := by
    rw [Nat.div_add_mod, Nat.mul_comm, Nat.div_add_mod]
  rw [hback]
  rw [inSpan, Bool.and_eq_true, decide_eq_true_eq, decide_eq_true_eq] at h ⊢
  omega

theorem State.rangeSpan_aligned (s : State) (k : Nat) : (s.rangeSpan k).1 % 4096 = 0 ∧ (s.rangeSpan k).2 % 4096 = 0 := by
  unfold State.rangeSpan
  omega

/-! ### What a cleared range leaves -/

theorem State.counter_zeroCounters (s : State) (k l i : Nat) : (s.zeroCounters k).counter k l i = 0 :=
  Tab.get_filter_drop _ fun _ => by simp

/-- The state in which a range's data and tree read zero and its counters are gone. -/
def State.rangeCleared (s : State) (k : Nat) : State := ((s.clearSpan (s.rangeSpan k)).clearSpan (s.treeSpan k)).zeroCounters k

theorem State.rangeCleared_meets (s : State) (k : Nat) : (s.rangeCleared k).crypto.slots = s.crypto.slots ∧
    (s.rangeCleared k).crypto.enabling = s.crypto.enabling ∧ (s.rangeCleared k).dram.heldReqs = s.dram.heldReqs ∧
    ∀ f : Fld, f.blk ≠ .dc → ∀ u j, (s.rangeCleared k).rd f u j = s.rd f u j := by
  obtain ⟨-, hc, hd, hr⟩ := s.clearSpan_meets (s.rangeSpan k)
  obtain ⟨-, hc', hd', hr'⟩ := (s.clearSpan (s.rangeSpan k)).clearSpan_meets (s.treeSpan k)
  have hslots := congrArg Crypto.slots (hc'.trans hc)
  have henabling := congrArg Crypto.enabling (hc'.trans hc)
  rw [State.rangeCleared]
  generalize (s.clearSpan (s.rangeSpan k)).clearSpan (s.treeSpan k) = y at *
  exact ⟨hslots, henabling, hd'.trans hd, fun f hf u j => (hr' f hf u j).trans (hr f hf u j)⟩

theorem State.byte_rangeCleared (hc : s.channels ≠ []) (ha : a < 2 ^ 40) (h : inSpan (s.rangeSpan k) a = true) :
    (s.rangeCleared k).byte a = 0 := by
  have hzero := State.byte_clearSpan_zero (sp := s.treeSpan k) (State.byte_clearSpan_hit ha
    (State.spanHits_of_inSpan hc (s.rangeSpan_aligned k).1 (s.rangeSpan_aligned k).2 h))
  rw [State.rangeCleared]
  generalize (s.clearSpan (s.rangeSpan k)).clearSpan (s.treeSpan k) = y at *
  exact hzero

theorem State.rd_showRange_other (hd : f.id ≠ EN_RANGE_STAT.DIRTY.id) (hf : f.id ≠ EN_RANGE_STAT.FAULTS.id) (s : State) (k u j : Nat) :
    (s.showRange k).rd f u j = s.rd f u j := by rw [State.showRange, State.rd_wr_other _ hf, State.rd_wr_other _ hd]

theorem State.releaseHeld_nil (h : s.dram.heldReqs = []) : s.releaseHeld = s := by
  have hkeep : { s.dram with heldReqs := [] } = s.dram := by rw [← h]
  rw [State.releaseHeld, h, List.foldl_nil, State.dr, hkeep]

/-- The range ON with its height, in a state whose spans are cleared. -/
def State.rangeOn (s : State) (k h : Nat) : State :=
  (((s.en fun c => { c with enabling := c.enabling.filter fun j => decide (j ≠ k) }).wr EN_RANGE_CTRL.HEIGHT h 0 k).wr
    EN_RANGE_CTRL.STATE 1 0 k).showRange k

theorem State.rangeOn_meets (s : State) (k h : Nat) : (s.rangeOn k h).rangeState k = 1 ∧ (s.rangeOn k h).rd EN_RANGE_CTRL.HEIGHT 0 k = h % 16 ∧
    k ∉ (s.rangeOn k h).crypto.enabling ∧ (∀ l i, (s.rangeOn k h).counter k l i = s.counter k l i) ∧
    (∀ a, (s.rangeOn k h).byte a = s.byte a) ∧ (s.rangeOn k h).dram = s.dram := by
  refine ⟨?_, ?_, fun hm => of_decide_eq_true (List.mem_filter.1 hm).2 rfl, fun _ _ => rfl, fun _ => rfl, rfl⟩
  · rw [State.rangeState, State.rangeOn, State.rd_showRange_other (by decide) (by decide)]
    exact State.rd_wr_fit (by decide)
  · rw [State.rangeOn, State.rd_showRange_other (by decide) (by decide), State.rd_wr_other _ (by decide), State.rd_wr_same]
    rfl

theorem exec_rangeEnableDone_ends (hk : k < 16) (h : k ∈ s.crypto.enabling) :
    exec (.rangeEnableDone k) s = .next ((s.rangeCleared k).rangeOn k (treeHeight ((s.rangeCleared k).rd EN_RANGE_BASE.LEN 0 k * 2 ^ 14))).releaseHeld := by
  rw [exec_rangeEnableDone, execRangeEnableDone, need_pos (decide_eq_true hk), if_pos (List.elem_iff.2 h)]
  rfl

theorem exec_rangeEnableDone_none (hk : k < 16) (h : k ∉ s.crypto.enabling) : exec (.rangeEnableDone k) s = .next s := by
  rw [exec_rangeEnableDone, execRangeEnableDone, need_pos (decide_eq_true hk), if_neg (fun he => h (List.elem_iff.1 he))]

theorem rangeEnableDone_meets (hk : k < 16) (h : k ∈ s.crypto.enabling) (hh : s.dram.heldReqs = []) : ∃ t,
    exec (.rangeEnableDone k) s = .next t ∧ t.rangeState k = 1 ∧
      t.rd EN_RANGE_CTRL.HEIGHT 0 k = treeHeight (s.rd EN_RANGE_BASE.LEN 0 k * 2 ^ 14) % 16 ∧ k ∉ t.crypto.enabling ∧
      (∀ l i, t.counter k l i = 0) ∧ (s.channels ≠ [] → ∀ a, inSpan (s.rangeSpan k) a = true → a < 2 ^ 40 → t.byte a = 0) := by
  obtain ⟨-, -, hheld, hrd⟩ := s.rangeCleared_meets k
  have hcounter (l i : Nat) : (s.rangeCleared k).counter k l i = 0 := State.counter_zeroCounters ..
  have hexec := exec_rangeEnableDone_ends hk h
  rw [hrd _ (by decide)] at hexec
  have hzero (hc : s.channels ≠ []) (a : Nat) (ha : inSpan (s.rangeSpan k) a = true) (ha40 : a < 2 ^ 40) := State.byte_rangeCleared hc ha40 ha
  obtain ⟨h, hheight⟩ : ∃ h, h = treeHeight (s.rd EN_RANGE_BASE.LEN 0 k * 2 ^ 14) := ⟨_, rfl⟩
  rw [← hheight] at hexec ⊢
  generalize s.rangeCleared k = y at *
  obtain ⟨hon, hshown, hgone, hcounter', hbyte, hdram⟩ := y.rangeOn_meets k h
  have hnone : (y.rangeOn k h).releaseHeld = y.rangeOn k h := State.releaseHeld_nil ((congrArg Dram.heldReqs hdram).trans (hheld.trans hh))
  exact ⟨y.rangeOn k h, hexec.trans (congrArg _ hnone), hon, hshown, hgone, fun l i => (hcounter' l i).trans (hcounter l i),
    fun hc a ha ha40 => (hbyte a).trans (hzero hc a ha ha40)⟩

/-! ### The end of RETIRE (15 R395) -/

/-- Record `i` goes where it is one of the key id's. -/
def State.dropFault (k : Nat) (s : State) (i : Nat) : State :=
  if s.rd EN_FAULT.KEY_ID 0 i = k ∧ s.on EN_FAULT.VALID 0 i then EN_FAULT.regs.foldl (fun t f => t.wr f 0 0 i) s else s

theorem State.rd_foldl_wr_idx {l : List Fld} {v u i j : Nat} (h : j ≠ i) (s : State) :
    (l.foldl (fun t g => t.wr g v u i) s).rd f u j = s.rd f u j := by
  induction l generalizing s with
  | nil => rfl
  | cons g l ih => exact (ih _).trans (State.rd_wr_ne s fun e => h (congrArg Key.idx e))

theorem State.rd_dropFault_ne {i j : Nat} (h : j ≠ i) (s : State) : (s.dropFault k i).rd f 0 j = s.rd f 0 j := by
  unfold State.dropFault
  split_ifs
  · exact State.rd_foldl_wr_idx h s
  · rfl

theorem State.rd_dropFault_other (h : ∀ g ∈ EN_FAULT.regs, f.id ≠ g.id) (s : State) (i u j : Nat) : (s.dropFault k i).rd f u j = s.rd f u j := by
  unfold State.dropFault
  split_ifs
  · exact State.rd_foldl_wr_other (g := fun f => f) h s
  · rfl

theorem State.dropFault_gone (s : State) (i : Nat) (h : (s.dropFault k i).rd EN_FAULT.VALID 0 i ≠ 0) :
    (s.dropFault k i).rd EN_FAULT.KEY_ID 0 i ≠ k := by
  have hzero : (EN_FAULT.regs.foldl (fun t f => t.wr f 0 0 i) s).rd EN_FAULT.VALID 0 i = 0 := by
    rw [EN_FAULT.regs]
    simp (disch := decide) only [List.foldl_cons, List.foldl_nil, State.rd_wr_other, State.rd_wr_same]
    rfl
  unfold State.dropFault at h ⊢
  by_cases hc : s.rd EN_FAULT.KEY_ID 0 i = k ∧ s.on EN_FAULT.VALID 0 i
  · rw [if_pos hc] at h
    exact absurd hzero h
  · rw [if_neg hc] at h ⊢
    exact fun hk => hc ⟨hk, (s.on_iff ..).2 h⟩

theorem State.foldl_dropFault_gone (s : State) (k n : Nat) {i : Nat} (hi : i < n)
    (h : ((List.range n).foldl (State.dropFault k) s).rd EN_FAULT.VALID 0 i ≠ 0) :
    ((List.range n).foldl (State.dropFault k) s).rd EN_FAULT.KEY_ID 0 i ≠ k := by
  induction n with
  | zero => omega
  | succ n ih =>
    rw [List.range_succ, List.foldl_append, List.foldl_cons, List.foldl_nil] at h ⊢
    rcases Nat.lt_succ_iff_lt_or_eq.1 hi with hlt | rfl
    · rw [State.rd_dropFault_ne (by omega)] at h ⊢
      exact ih hlt h
    · exact State.dropFault_gone _ _ h

theorem State.foldl_dropFault_keeps (k : Nat) (l : List Nat) (s : State) : (l.foldl (State.dropFault k) s).crypto = s.crypto ∧
    (l.foldl (State.dropFault k) s).dram = s.dram ∧
    ∀ f : Fld, (∀ g ∈ EN_FAULT.regs, f.id ≠ g.id) → ∀ u j, (l.foldl (State.dropFault k) s).rd f u j = s.rd f u j := by
  induction l generalizing s with
  | nil => exact ⟨rfl, rfl, fun _ _ _ _ => rfl⟩
  | cons i l ih =>
    obtain ⟨hc, hd, hr⟩ := ih (s.dropFault k i)
    have hone : (s.dropFault k i).crypto = s.crypto ∧ (s.dropFault k i).dram = s.dram := by
      unfold State.dropFault
      split_ifs <;> exact ⟨rfl, rfl⟩
    exact ⟨hc.trans hone.1, hd.trans hone.2, fun f hf u j => (hr f hf u j).trans (State.rd_dropFault_other hf s i u j)⟩

/-- The range OFF and its slot empty, in a state whose spans and fault records are cleared. -/
def State.rangeOff (s : State) (k : Nat) : State :=
  (((((s.en fun c => { c with slots := Tab.erase c.slots k }).showKeys.wr EN_RANGE_CTRL.STATE 0 0 k).wr EN_RANGE_CTRL.HEIGHT 0 0 k).showRange
    k).showFaulted)

theorem State.rangeOff_meets (s : State) (k : Nat) : (s.rangeOff k).rangeState k = 0 ∧ (s.rangeOff k).rd EN_RANGE_CTRL.HEIGHT 0 k = 0 ∧
    (s.rangeOff k).crypto.slots.any (fun p => decide (p.1 = k)) = false ∧ (∀ l i, (s.rangeOff k).counter k l i = s.counter k l i) ∧
    (s.rangeOff k).dram = s.dram ∧ ∀ f ∈ EN_FAULT.regs, ∀ i, (s.rangeOff k).rd f 0 i = s.rd f 0 i := by
  refine ⟨?_, ?_, List.any_eq_false.2 fun p hp => by simpa using Tab.erase_absent _ k p hp, fun _ _ => rfl, rfl, fun f hf i => ?_⟩
  · rw [State.rangeState, State.rangeOff, State.showFaulted, State.rd_put_other (by decide), State.rd_showRange_other (by decide) (by decide),
      State.rd_wr_other _ (by decide)]
    exact State.rd_wr_fit (by decide)
  · rw [State.rangeOff, State.showFaulted, State.rd_put_other (by decide), State.rd_showRange_other (by decide) (by decide)]
    exact State.rd_wr_fit (by decide)
  · have hs : ∀ g ∈ [EN_RANGE_CTRL.STATE, EN_RANGE_CTRL.HEIGHT, EN_RANGE_STAT.DIRTY, EN_RANGE_STAT.FAULTS, EN_STATUS.FAULTED,
        EN_KEY_STATUS.FILLED], f.id ≠ g.id := by
      revert f
      decide
    simp only [List.forall_mem_cons] at hs
    obtain ⟨h1, h2, h3, h4, h5, h6, -⟩ := hs
    rw [State.rangeOff, State.showFaulted, State.rd_put_other h5, State.rd_showRange_other h3 h4, State.rd_wr_other _ h2, State.rd_wr_other _ h1,
      State.showKeys, State.rd_wr_other _ h6]
    rfl

/-- The state in which a retired range's spans read zero and its counters and records are gone. -/
def State.rangeDropped (s : State) (k : Nat) : State := (List.range 64).foldl (State.dropFault k) (s.rangeCleared k)

theorem State.rangeDropped_meets (s : State) (k : Nat) : (∀ l i, (s.rangeDropped k).counter k l i = 0) ∧
    (s.rangeDropped k).dram.heldReqs = s.dram.heldReqs ∧
    ∀ i, i < 64 → (s.rangeDropped k).rd EN_FAULT.VALID 0 i ≠ 0 → (s.rangeDropped k).rd EN_FAULT.KEY_ID 0 i ≠ k := by
  obtain ⟨hcrypto, hdram, -⟩ := State.foldl_dropFault_keeps k (List.range 64) (s.rangeCleared k)
  obtain ⟨-, -, hheld, -⟩ := s.rangeCleared_meets k
  rw [State.rangeDropped]
  refine ⟨fun l i => ?_, by rw [hdram, hheld], fun i hi h => State.foldl_dropFault_gone _ k 64 hi h⟩
  rw [State.counter, hcrypto]
  exact State.counter_zeroCounters ..

theorem exec_rangeRetireDone_none (hk : k < 16) (h : s.rangeState k ≠ 2) : exec (.rangeRetireDone k) s = .next s := by
  rw [exec_rangeRetireDone, execRangeRetireDone, need_pos (decide_eq_true hk), if_neg fun hc => h hc.1]

theorem exec_rangeRetireDone_ends (hk : k < 16) (h : s.rangeState k = 2) (hw : s.crypto.waiting = []) :
    exec (.rangeRetireDone k) s = .next ((s.rangeDropped k).rangeOff k).releaseHeld := by
  rw [exec_rangeRetireDone, execRangeRetireDone, need_pos (decide_eq_true hk), if_pos ⟨h, by rw [hw]; rfl⟩]
  rfl

theorem rangeRetireDone_meets (hk : k < 16) (h : s.rangeState k = 2) (hw : s.crypto.waiting = []) (hh : s.dram.heldReqs = []) : ∃ t,
    exec (.rangeRetireDone k) s = .next t ∧ t.rangeState k = 0 ∧ t.rd EN_RANGE_CTRL.HEIGHT 0 k = 0 ∧
      t.crypto.slots.any (fun p => decide (p.1 = k)) = false ∧ (∀ l i, t.counter k l i = 0) ∧
      (∀ i, i < 64 → t.rd EN_FAULT.VALID 0 i ≠ 0 → t.rd EN_FAULT.KEY_ID 0 i ≠ k) := by
  obtain ⟨hcounter, hheld, hrecord⟩ := s.rangeDropped_meets k
  have hexec := exec_rangeRetireDone_ends hk h hw
  generalize s.rangeDropped k = y at *
  obtain ⟨hoff, hheight, hslot, hcounter', hdram, hrd⟩ := y.rangeOff_meets k
  have hnone : (y.rangeOff k).releaseHeld = y.rangeOff k := State.releaseHeld_nil ((congrArg Dram.heldReqs hdram).trans (hheld.trans hh))
  refine ⟨y.rangeOff k, hexec.trans (congrArg _ hnone), hoff, hheight, hslot, fun l i => (hcounter' l i).trans (hcounter l i), fun i hi hv => ?_⟩
  rw [hrd _ (by decide)] at hv ⊢
  exact hrecord i hi hv

end Sys2Proof.Machine
end


section
/-! PROOF. Accesses to protected pages and the fetches of their nodes (O40; 15 R396 to R403). -/

namespace Sys2Proof.Machine

variable {s t u : State} {k a n page : Nat} {f : Fld} {r : DramReq} {v : DramView}

/-! ### What the encryption stage's own bookkeeping leaves -/

/-- A change of the stage's own state: the counts, the cache and the page counters. -/
abbrev State.stageOnly (s t : State) : Prop := Moves (Foot.only [.regs .en, .crypto]) s t

theorem State.stageOnly.mem (h : s.stageOnly t) : t.mem = s.mem := Moves.mem h rfl

theorem State.stageOnly.byte (h : s.stageOnly t) (a : Nat) : t.byte a = s.byte a := congrArg (fun m => Tab.get 0 m a) h.mem

theorem State.stageOnly.loadBytes (h : s.stageOnly t) (a n : Nat) : t.loadBytes a n = s.loadBytes a n := by
  simp only [State.loadBytes, h.byte]

theorem State.stageOnly.dram (h : s.stageOnly t) : t.dram = s.dram := Moves.parts h .dram (partsMask_not (by decide))

theorem State.stageOnly.sent (h : s.stageOnly t) : t.sent = s.sent := Moves.parts h .sent (partsMask_not (by decide))

theorem State.stageOnly.rd (h : s.stageOnly t) (hf : f.blk ≠ .en) (u j : Nat) : t.rd f u j = s.rd f u j :=
  Moves.rd_kept h (by simpa using hf) u j

theorem State.stageOnly.dramPlace (h : s.stageOnly t) (a : Nat) : t.dramPlace a = s.dramPlace a := State.dramPlace_congr (h.rd (by decide) 0 0) a

theorem State.stageOnly.storedPage (h : s.stageOnly t) (page : Nat) : t.page page = s.page page :=
  congrArg (fun d : Dram => Tab.get Page.clean d.pages page) h.dram

theorem State.stageOnly.decodePage (h : s.stageOnly t) (page : Nat) (v : DramView) : t.decodePage page v = s.decodePage page v := by
  have htouch : t.touches page = s.touches page := by
    have hlive (c b : Nat) : t.isLive c b = s.isLive c b := by rw [State.isLive, State.isLive, h.dram]
    rw [State.touches, State.touches, State.pagePlace, State.pagePlace, h.dramPlace]
    dsimp only
    rw [hlive, h.dram]
  have hlevel : t.pageT = s.pageT := by rw [State.pageT, State.pageT, h.rd (by decide)]
  rw [State.decodePage, State.decodePage, htouch, h.storedPage, hlevel]

theorem State.rd_touchNode_other (hd : f.id ≠ EN_RANGE_STAT.DIRTY.id) (hf : f.id ≠ EN_RANGE_STAT.FAULTS.id) (s : State) (k l i : Nat) (b : Bool)
    (u j : Nat) : (s.touchNode k l i b).rd f u j = s.rd f u j := by
  unfold State.touchNode
  split
  · exact State.rd_showRange_other hd hf _ k u j
  · rfl

theorem State.touchNode_counters (s : State) (k l i : Nat) (b : Bool) : (s.touchNode k l i b).crypto.counters = s.crypto.counters := by
  unfold State.touchNode
  split <;> rfl

theorem State.touchNode_stageOnly (s : State) (k l i : Nat) (b : Bool) : s.stageOnly (s.touchNode k l i b) :=
  State.touchNode_moves (Sub.list rfl rfl) Moves.refl

/-- The registers of the ranges say which range protects an address. -/
theorem State.protectedBy_congr (h : ∀ f ∈ [EN_RANGE_CTRL.STATE, EN_RANGE_BASE.BASE, EN_RANGE_BASE.LEN], ∀ j, t.rd f 0 j = s.rd f 0 j) (a : Nat) :
    t.protectedBy a = s.protectedBy a ∧ ∀ k page, t.rangePage k page = s.rangePage k page := by
  have hspan (j : Nat) : t.rangeSpan j = s.rangeSpan j := by
    simp only [State.rangeSpan, h EN_RANGE_BASE.BASE (by simp), h EN_RANGE_BASE.LEN (by simp)]
  have hstate (j : Nat) : t.rangeState j = s.rangeState j := h EN_RANGE_CTRL.STATE (by simp) j
  have hpred : (fun j => decide (t.rangeState j = 1 ∨ t.rangeState j = 3) && inSpan (t.rangeSpan j) a) =
      fun j => decide (s.rangeState j = 1 ∨ s.rangeState j = 3) && inSpan (s.rangeSpan j) a := funext fun j => by rw [hstate, hspan]
  exact ⟨by rw [State.protectedBy, State.protectedBy, hpred], fun k page => by rw [State.rangePage, State.rangePage, hspan]⟩

/-! ### The counter stage (15 R401) -/

/-- A page whose leaf node is used: the hit is counted, and the node is the most recently used. -/
def State.nodeUsed (s : State) (k i : Nat) : State := (s.count EN_CACHE.HITS).touchNode k 1 i false

theorem State.nodeUsed_stageOnly (s : State) (k i : Nat) : s.stageOnly (s.nodeUsed k i) :=
  State.touchNode_moves (Sub.list rfl rfl) (State.count_moves (by decide) Moves.refl)

theorem State.nodeUsed_hits (s : State) (k i : Nat) : (s.nodeUsed k i).rd EN_CACHE.HITS = min (s.rd EN_CACHE.HITS + 1) (2 ^ 32 - 1) :=
  (State.rd_touchNode_other (by decide) (by decide) ..).trans (s.rd_count_one ..)

theorem State.nodeUsed_counter (s : State) (k i j l n : Nat) : (s.nodeUsed k i).counter j l n = s.counter j l n :=
  congrArg (fun c => Tab.get 0 c (⟨l, j, n⟩ : Key)) (State.touchNode_counters ..)

theorem State.nodeUsed_protectedBy (s : State) (k i a : Nat) : (s.nodeUsed k i).protectedBy a = s.protectedBy a ∧
    ∀ k' page, (s.nodeUsed k i).rangePage k' page = s.rangePage k' page := by
  refine State.protectedBy_congr (fun f hf j => ?_) a
  obtain ⟨hd, hs, hh⟩ : f.id ≠ EN_RANGE_STAT.DIRTY.id ∧ f.id ≠ EN_RANGE_STAT.FAULTS.id ∧ f.id ≠ EN_CACHE.HITS.id := by
    revert f
    decide
  exact (State.rd_touchNode_other hd hs ..).trans (State.rd_count_other hh)

theorem State.counterStage_hit (hp : s.protectedBy (pageOf r * 128) = some k) (hf : s.pageFaulted (pageOf r) = false) (hw : s.crypto.waiting = [])
    (hn : s.nodeHeld k 1 (s.rangePage k (pageOf r) / 8) = true) :
    s.counterStage r v = (s.nodeUsed k (s.rangePage k (pageOf r) / 8)).servePage r v := by
  rw [State.counterStage, hp]
  simp only [hf, hw, hn, List.any_nil, Bool.false_eq_true, if_false, if_true]
  rfl

/-- A read of a page whose leaf node is not held waits for it. -/
theorem State.counterStage_miss (hp : s.protectedBy (pageOf r * 128) = some k) (hf : s.pageFaulted (pageOf r) = false)
    (hw : s.crypto.waiting = []) (hn : s.nodeHeld k 1 (s.rangePage k (pageOf r) / 8) = false) (hr : r.data = []) (hpost : r.posted = false) :
    s.counterStage r v = (s.count EN_CACHE.MISSES).en fun c => { c with waiting := c.waiting ++ [⟨r, v⟩] } := by
  have hread : isWrite r = false := by rw [isWrite, hr]; rfl
  have hsame : { r with posted := r.posted || false } = r := by
    rw [hpost]
    show { r with posted := false } = r
    rw [← hpost]
  rw [State.counterStage, hp]
  simp only [hf, hw, hn, hread, List.any_nil, Bool.false_eq_true, if_false, Bool.false_and]
  rw [hsame]

theorem State.en_waiting (s : State) (w : CounterWait) (h : s.crypto.waiting = []) :
    ((s.count EN_CACHE.MISSES).en fun c => { c with waiting := c.waiting ++ [w] }).crypto.waiting = [w] := by
  show s.crypto.waiting ++ [w] = [w]
  rw [h]
  rfl

/-- An access that a free controller brings to the counter stage. -/
theorem State.dramAccess_stage (h : s.Accepts r) (hq : s.dram.queue = []) (hb : v.busy = false) (hc : s.dram.combiner = [])
    (hw : (s.on DC_SCHED.WC_EN (s.dramPlace r.addr).1 && isHalf r) = false) : s.dramAccess r v = s.counterStage r v := by
  rw [State.dramAccess_performed h hq hb, State.combine_pass hc h.running hw]

/-! ### Reads and writes with the counter known (15 R397, R399) -/

/-- A clean read of a protected page whose leaf node is held. -/
theorem State.nodeUsed_read (hd : s.decodePage (pageOf r) v = .clean) (ht : v.tampered = false) (hp : (s.page (pageOf r)).poison = false)
    (hc : r.addr % 128 + r.len ≤ 128) (hr : r.data = []) (hpost : r.posted = false) (k i : Nat) :
    ((s.nodeUsed k i).servePage r v).rd EN_CACHE.HITS = min (s.rd EN_CACHE.HITS + 1) (2 ^ 32 - 1) ∧
    ((s.nodeUsed k i).servePage r v).sent =
      s.sent ++ [.response (645 + (s.dramPlace r.addr).1) r.src r.tag 0 (bytesNat (s.loadBytes r.addr r.len)) false] := by
  have h := s.nodeUsed_stageOnly k i
  rw [State.servePage_read hr, State.readPage_clean ((h.decodePage _ v).trans hd) ht (by rw [h.storedPage]; exact hp) hc,
    State.dramAnswer_nonposted hpost, h.sent, h.dramPlace, h.loadBytes]
  exact ⟨s.nodeUsed_hits k i, rfl⟩

/-- A page stored whole where its counter rises to the state `u`, without a flip and with the journal off. -/
theorem State.storePage_counted (hr : s.raiseCounter page = (true, u)) (hu : s.stageOnly u) (hpj : s.rd WD_SMP_CTRL.PJ_EN = 0)
    (harm : s.rd DC_FLIP_CTRL.ARM (s.pagePlace page).1 = 0) (mask : Nat) (data : List Nat) (poison : Bool) : ∃ t,
    s.storePage page mask data poison = some t ∧ (∀ b, t.byte b = (s.storeMasked (page * 128) data mask).byte b) ∧ t.crypto = u.crypto := by
  have hplace : u.pagePlace page = s.pagePlace page := by rw [State.pagePlace, State.pagePlace, hu.dramPlace]
  have hflip : u.flipOf page = none := State.flipOf_unarmed (by rw [hplace, hu.rd (by decide), harm])
  obtain ⟨y, hy⟩ : ∃ y, y = (u.storeMasked (page * 128) data mask).dr (fun d => { d with
    pages := Tab.set natLt .clean d.pages page ⟨poison, [], true⟩
    writebacks := d.writebacks.filter (fun q => decide (q ≠ page)) }) := ⟨_, rfl⟩
  have hmark : Moves (Foot.only [.regs .dc, .dram]) y (y.markWritten page) := State.markWritten_moves (Sub.list rfl rfl) Moves.refl
  have hstore : (u.storeMasked (page * 128) data mask).crypto = u.crypto :=
    (State.storeMasked_moves (F := ⟨true, false, false, false, false, 0⟩) rfl Moves.refl).parts .crypto rfl
  refine ⟨y.markWritten page, ?_, fun b => ?_, ?_⟩
  · rw [State.storePage, State.journalPage_off hpj]
    simp only [hr, hflip, Option.isSome_none, Bool.false_eq_true, if_false, Option.getD_none, hy]
  · have hbyte : (y.markWritten page).byte b = (u.storeMasked (page * 128) data mask).byte b := by
      rw [State.byte, hmark.mem rfl, hy]
      rfl
    rw [hbyte, State.byte_storeMasked, State.byte_storeMasked, hu.byte]
  · rw [hmark.parts .crypto (partsMask_not (by decide)), hy]
    exact hstore

theorem State.storePage_refused {b : State} (hr : s.raiseCounter page = (false, b)) (hpj : s.rd WD_SMP_CTRL.PJ_EN = 0) (mask : Nat)
    (data : List Nat) (poison : Bool) : s.storePage page mask data poison = none := by
  rw [State.storePage, State.journalPage_off hpj]
  simp only [hr]

/-- The page as a partial write makes it: the written bytes over those that it held. -/
def State.mergedPage (s : State) (r : DramReq) : List Nat :=
  (List.range 128).map fun i => if (pageMask r).testBit i then (pageData r).getD i 0 else (s.loadBytes (pageOf r * 128) 128).getD i 0

/-- A partial write of a clean page stores the merged page, or is refused where its counter may not rise. -/
theorem State.writePage_merged (hpart : pageMask r ≠ ones 128) (hd : s.decodePage (pageOf r) v = .clean) (ht : v.tampered = false)
    (hp : (s.page (pageOf r)).poison = false) :
    (∀ t, s.storePage (pageOf r) (ones 128) (s.mergedPage r) r.poison = some t → s.writePage r v = t.dramAnswer r 0 0 false) ∧
    (s.storePage (pageOf r) (ones 128) (s.mergedPage r) r.poison = none →
      s.writePage r v = (s.raiseCounter (pageOf r)).2.dramAnswer r 1 0 false) := by
  have hf := s.tagFails_untampered (page := pageOf r) (v := v) (by simp [hd]) ht
  have hwrite : s.writePage r v = match s.storePage (pageOf r) (ones 128) (s.mergedPage r) r.poison with
      | none => (s.raiseCounter (pageOf r)).2.dramAnswer r 1 0 false
      | some t => t.dramAnswer r 0 0 false := by
    simp only [State.writePage, if_neg hpart, hf, Bool.false_eq_true, if_false, hd, State.pageBytes, ht, Bool.false_and, State.eccCount,
      hp, Bool.or_false]
    rfl
  exact ⟨fun t h => by rw [hwrite, h], fun h => by rw [hwrite, h]⟩

theorem State.mergedPage_byte (hfit : r.addr % 128 + r.data.length ≤ 128) (b : Nat) :
    (s.storeMasked (pageOf r * 128) (s.mergedPage r) (ones 128)).byte b = s.writtenByte r b := by
  refine State.byte_storeMasked_merged hfit (by simp [State.mergedPage]) (fun i hi => ?_) b
  simp only [State.mergedPage, List.getD_eq_getElem?_getD, List.getElem?_map, List.getElem?_range hi, Option.map_some, Option.getD_some]
  split
  · rfl
  · simp [State.loadBytes, hi]

/-- A write of at most a line is no whole page. -/
theorem pageMask_partial (h : r.addr % 64 + r.data.length ≤ 64) : pageMask r ≠ ones 128 := by
  intro hm
  have h0 := ones_testBit (i := 0) (w := 128) (by decide)
  have h127 := ones_testBit (i := 127) (w := 128) (by decide)
  rw [← hm, pageMask_testBit] at h0 h127
  omega

/-- The counter of a protected page rises, and its leaf node is dirty (15 R399, R401). -/
theorem State.raiseCounter_rises (hp : s.protectedBy (page * 128) = some k) (hc : s.counter k 0 (s.rangePage k page) ≠ 2 ^ 64 - 1) :
    s.raiseCounter page = (true, (s.setCounter k 0 (s.rangePage k page) (s.counter k 0 (s.rangePage k page) + 1)).touchNode k 1
      (s.rangePage k page / 8) true) := by
  rw [State.raiseCounter, hp]
  exact if_neg hc

theorem State.raiseCounter_ends (hp : s.protectedBy (page * 128) = some k) (hc : s.counter k 0 (s.rangePage k page) = 2 ^ 64 - 1) :
    s.raiseCounter page = (false, s.rangeFault k) := by
  rw [State.raiseCounter, hp]
  exact if_pos hc

theorem State.counter_raised (s : State) (k i n j : Nat) : ((s.setCounter k 0 i n).touchNode k 1 j true).counter k 0 i = n := by
  rw [State.counter, State.touchNode_counters]
  exact Tab.get_set_same ..

theorem State.raised_stageOnly (s : State) (k i n j : Nat) : s.stageOnly ((s.setCounter k 0 i n).touchNode k 1 j true) :=
  State.touchNode_moves (Sub.list rfl rfl) (State.setCounter_moves (Sub.list rfl rfl) Moves.refl)

/-- A write whose counter can rise: its bytes are stored and the counter is one more. -/
theorem State.nodeUsed_write (hl : 0 < r.data.length) (hfit : r.addr % 64 + r.data.length ≤ 64) (hd : s.decodePage (pageOf r) v = .clean)
    (ht : v.tampered = false) (hp : (s.page (pageOf r)).poison = false) (hpj : s.rd WD_SMP_CTRL.PJ_EN = 0)
    (harm : s.rd DC_FLIP_CTRL.ARM (s.dramPlace r.addr).1 = 0) (hprot : s.protectedBy (pageOf r * 128) = some k)
    (hc : s.counter k 0 (s.rangePage k (pageOf r)) ≠ 2 ^ 64 - 1) (j : Nat) :
    ∃ t : State, (s.nodeUsed k j).servePage r v = t.dramAnswer r 0 0 false ∧ (∀ b, t.byte b = s.writtenByte r b) ∧
      t.counter k 0 (s.rangePage k (pageOf r)) = s.counter k 0 (s.rangePage k (pageOf r)) + 1 := by
  have h := s.nodeUsed_stageOnly k j
  obtain ⟨hprot', hpage⟩ := s.nodeUsed_protectedBy k j (pageOf r * 128)
  have hcount := s.nodeUsed_counter k j
  generalize s.nodeUsed k j = y at *
  have hrise := State.raiseCounter_rises (s := y) (page := pageOf r) (hprot'.trans hprot) (by rw [hpage, hcount]; exact hc)
  rw [hpage, hcount] at hrise
  have hch : y.rd DC_FLIP_CTRL.ARM (y.pagePlace (pageOf r)).1 = 0 := by
    rw [show (y.pagePlace (pageOf r)).1 = (y.dramPlace r.addr).1 from y.pagePlace_channel r.addr, h.dramPlace, h.rd (by decide), harm]
  obtain ⟨t, hsome, hbyte, hcrypto⟩ := State.storePage_counted hrise (y.raised_stageOnly ..) ((h.rd (by decide) 0 0).trans hpj) hch (ones 128)
    (y.mergedPage r) r.poison
  refine ⟨t, ?_, fun b => ?_, ?_⟩
  · rw [State.servePage_write hl]
    exact (State.writePage_merged (pageMask_partial hfit) ((h.decodePage _ v).trans hd) ht (by rw [h.storedPage]; exact hp)).1 t hsome
  · rw [hbyte, State.mergedPage_byte (by omega), State.writtenByte, State.writtenByte, h.byte]
  · rw [State.counter, hcrypto]
    exact State.counter_raised ..

theorem State.rangeFault_meets (s : State) (k : Nat) : (s.rangeFault k).rangeState k = 3 ∧ (s.rangeFault k).mem = s.mem ∧
    (s.rangeFault k).sent = s.sent ∧ (s.rangeFault k).crypto = s.crypto ∧ ∀ a, (s.rangeFault k).dramPlace a = s.dramPlace a := by
  have hmv : s.stageOnly (s.rangeFault k) := State.rangeFault_moves (Sub.list rfl rfl) Moves.refl
  refine ⟨?_, rfl, rfl, rfl, hmv.dramPlace⟩
  rw [State.rangeState, State.rangeFault, State.showFaulted, State.rd_put_other (by decide)]
  exact State.rd_wr_fit (by decide)

/-- A write whose counter has reached its end is dropped and answered TARGET, and the range enters FAULT (15 R399). -/
theorem State.nodeUsed_write_ends (hl : 0 < r.data.length) (hfit : r.addr % 64 + r.data.length ≤ 64) (hd : s.decodePage (pageOf r) v = .clean)
    (ht : v.tampered = false) (hp : (s.page (pageOf r)).poison = false) (hpj : s.rd WD_SMP_CTRL.PJ_EN = 0)
    (hprot : s.protectedBy (pageOf r * 128) = some k) (hc : s.counter k 0 (s.rangePage k (pageOf r)) = 2 ^ 64 - 1) (hpost : r.posted = false)
    (j : Nat) : ((s.nodeUsed k j).servePage r v).rangeState k = 3 ∧ ((s.nodeUsed k j).servePage r v).mem = s.mem ∧
      ((s.nodeUsed k j).servePage r v).counter k 0 (s.rangePage k (pageOf r)) = s.counter k 0 (s.rangePage k (pageOf r)) ∧
      ((s.nodeUsed k j).servePage r v).sent = s.sent ++ [.response (645 + (s.dramPlace r.addr).1) r.src r.tag 1 0 false] := by
  have h := s.nodeUsed_stageOnly k j
  obtain ⟨hprot', hpage⟩ := s.nodeUsed_protectedBy k j (pageOf r * 128)
  have hcount := s.nodeUsed_counter k j
  generalize s.nodeUsed k j = y at *
  have hend := State.raiseCounter_ends (s := y) (page := pageOf r) (hprot'.trans hprot) (by rw [hpage, hcount]; exact hc)
  have hwrite := (State.writePage_merged (pageMask_partial hfit) ((h.decodePage _ v).trans hd) ht (by rw [h.storedPage]; exact hp)).2
    (State.storePage_refused hend ((h.rd (by decide) 0 0).trans hpj) _ _ _)
  obtain ⟨hstate, hmem, hsent, hcrypto, hplace⟩ := y.rangeFault_meets k
  rw [State.servePage_write hl, hwrite, hend]
  dsimp only
  generalize y.rangeFault k = z at *
  rw [State.dramAnswer_nonposted hpost, hsent, h.sent, hplace, h.dramPlace]
  refine ⟨hstate, hmem.trans h.mem, ?_, rfl⟩
  rw [← hcount]
  exact congrArg (fun c : Crypto => Tab.get 0 c.counters ⟨0, k, s.rangePage k (pageOf r)⟩) hcrypto

/-! ### Fetches of nodes (15 R397, R401, R403) -/

/-- The next node lies on the page's path, within the tree. -/
theorem State.nextNode_path {l i : Nat} (h : s.nextNode k page = some (l, i)) :
    1 ≤ l ∧ l ≤ s.rd EN_RANGE_CTRL.HEIGHT 0 k ∧ i = s.rangePage k page / 8 ^ l := by
  rw [State.nextNode, Option.map_eq_some_iff] at h
  obtain ⟨m, hm, he⟩ := h
  obtain ⟨rfl, rfl⟩ := Prod.mk.inj he
  have hlt : m < s.rd EN_RANGE_CTRL.HEIGHT 0 k := List.mem_range.1 (List.mem_reverse.1 (List.mem_of_find?_eq_some hm))
  exact ⟨by omega, hlt, rfl⟩

/-- What fetches a node for the oldest waiting request. -/
structure State.Fetches (s : State) (w : CounterWait) (k l i : Nat) : Prop where
  waits : s.crypto.waiting = [w]
  range : s.protectedBy (pageOf w.req * 128) = some k
  next : s.nextNode k (pageOf w.req) = some (l, i)

theorem exec_nodeFetchDone_none (h : s.crypto.waiting = []) (v : DramView) : exec (.nodeFetchDone v) s = .next s := by
  rw [exec_nodeFetchDone, execNodeFetchDone, h]

/-- What the node read decides: a failed tag halts, an uncorrectable node faults, a clean one is held. -/
theorem State.Fetches.exec {w : CounterWait} {l i : Nat} (h : s.Fetches w k l i) (v : DramView) :
    (s.tagFails (s.nodeAddr k l i / 128) v = true → exec (.nodeFetchDone v) s = .next (s.haltPart 2 1 k 0x3FF (s.nodeAddr k l i))) ∧
    (∀ e, s.decodePage (s.nodeAddr k l i / 128) v = .uncorrectable e → exec (.nodeFetchDone v) s =
      .next ((s.eccCount (s.nodeAddr k l i / 128) 0x3FF (.uncorrectable e)).nodeFault k l i).retryWaiting) ∧
    (s.decodePage (s.nodeAddr k l i / 128) v = .clean → v.tampered = false →
      exec (.nodeFetchDone v) s = .next (s.holdNode k l i).retryWaiting) := by
  obtain ⟨hw, hr, hn⟩ := h
  rw [exec_nodeFetchDone, execNodeFetchDone, hw]
  dsimp only
  rw [hr]
  dsimp only
  rw [hn]
  dsimp only
  refine ⟨fun h => by rw [if_pos h], fun e h => ?_, fun h ht => ?_⟩
  · rw [if_neg (Bool.eq_false_iff.1 (State.tagFails_uncorrectable h)), h]
    rfl
  · rw [if_neg (Bool.eq_false_iff.1 (State.tagFails_untampered (by rw [h]; simp) ht)), h]
    rfl

theorem State.haltPart_crypto (s : State) (kind pkind key src addr : Nat) : (s.haltPart kind pkind key src addr).crypto.waiting = [] ∧
    (s.haltPart kind pkind key src addr).crypto.slots = [] := by
  have hpins : ∀ (l : List (Nat × Pin)) (g : Pin → Pin) (t : State),
      (l.foldl (fun t p => t.updPin (p.1 / 48) (p.1 % 48) g) t).crypto = t.crypto := by
    intro l g
    induction l with
    | nil => exact fun _ => rfl
    | cons p l ih => exact fun t => ih _
  have hlevel (t : State) : (if t.rd LP_STATUS.LEVEL = 2 then t.wr LP_STATUS.LEVEL 1 else t).crypto = t.crypto := by split_ifs <;> rfl
  have hpost (t : State) : ((t.emit .errFatal).post 4 0x0040 3 addr).crypto = t.crypto := rfl
  unfold State.haltPart
  rw [hpost, hpins, hlevel]
  exact ⟨rfl, rfl⟩

/-- A node that fails its tag halts the part (15 R397, R405). -/
theorem State.haltPart_node_meets (hk : k < 16) (s : State) (src a : Nat) : (s.haltPart 2 1 k src a).halted = true ∧
    (s.haltPart 2 1 k src a).rd EN_HALT.KIND = 2 ∧ (s.haltPart 2 1 k src a).rd EN_HALT.PKIND = 1 ∧
    (s.haltPart 2 1 k src a).rd EN_HALT.KEY_ID = k := by
  rw [State.halted, State.on_iff, State.rd_haltPart (by decide), State.rd_haltPart (by decide), State.rd_haltPart (by decide),
    State.rd_haltPart (by decide)]
  simp (disch := decide) only [State.rd_wr_other, State.rd_wr_same]
  exact ⟨by decide, rfl, rfl, Nat.mod_eq_of_lt hk⟩

/-- The one request that waits, under a fault, ends without a change of the stage's registers. -/
theorem State.retryWaiting_faulted {w : CounterWait} (hw : s.crypto.waiting = [w]) (hh : s.halted = false)
    (hf : s.pageFaulted (pageOf w.req) = true) : ∀ f : Fld, ∀ u j, s.retryWaiting.rd f u j = s.rd f u j := by
  obtain ⟨y, hy⟩ : ∃ y, y = s.en fun c => { c with waiting := [] } := ⟨_, rfl⟩
  have hone : s.retryWaiting = if isWrite w.req ∧ w.req.posted then y.post 4 0x0042 2 w.req.addr else y.faultAnswer w.req := by
    rw [State.retryWaiting, hw, ← hy]
    dsimp only
    rw [List.foldl_cons, List.foldl_nil, if_neg (show ¬ y.halted = true by rw [hy]; exact Bool.eq_false_iff.1 hh),
      if_pos (show y.pageFaulted (pageOf w.req) = true by rw [hy]; exact hf)]
  intro f u j
  rw [hone]
  split_ifs
  · rw [hy]
    rfl
  · have hmv : Moves (Foot.only [.events, .sent]) y (y.faultAnswer w.req) := State.faultAnswer_moves (Sub.list rfl rfl) Moves.refl
    rw [hmv.rd_kept (by simp) u j, hy]
    rfl

/-- The one request that waits for a node above the leaf that has come waits on. -/
theorem State.retryWaiting_waits {w : CounterWait} (hw : s.crypto.waiting = [w]) (hh : s.halted = false)
    (hf : s.pageFaulted (pageOf w.req) = false) (hp : s.protectedBy (pageOf w.req * 128) = some k)
    (hn : s.nodeHeld k 1 (s.rangePage k (pageOf w.req) / 8) = false) : s.retryWaiting = s := by
  obtain ⟨y, hy⟩ : ∃ y, y = s.en fun c => { c with waiting := [] } := ⟨_, rfl⟩
  have hone : s.retryWaiting = y.en fun c => { c with waiting := c.waiting ++ [w] } := by
    rw [State.retryWaiting, hw, ← hy]
    dsimp only
    rw [List.foldl_cons, List.foldl_nil, if_neg (show ¬ y.halted = true by rw [hy]; exact Bool.eq_false_iff.1 hh),
      if_neg (show ¬ y.pageFaulted (pageOf w.req) = true by rw [hy]; exact Bool.eq_false_iff.1 hf),
      show y.protectedBy (pageOf w.req * 128) = some k by rw [hy]; exact hp]
    dsimp only
    rw [if_neg]
    rintro ⟨hheld, -⟩
    rw [hy] at hheld
    exact Bool.eq_false_iff.1 hn hheld
  rw [hone, hy]
  show { s with crypto := { s.crypto with waiting := [] ++ [w] } } = s
  rw [List.nil_append, ← hw]

/-- The cache that was empty holds the node. -/
theorem State.holdNode_first (h : s.crypto.cache = []) (k l i : Nat) :
    s.holdNode k l i = { s with crypto := { s.crypto with cache := [⟨k, l, i, false⟩] } } := by
  rw [State.holdNode, h]
  show s.en _ = _
  rw [State.en, h]
  rfl

/-- A good node above the leaf is held, and its request waits for the next one. -/
theorem State.Fetches.holds {w : CounterWait} {l i : Nat} (h : s.Fetches w k l i) (hh : s.halted = false) (hc : s.crypto.cache = [])
    (hf : s.pageFaulted (pageOf w.req) = false) (hl : 1 < l) :
    (s.holdNode k l i).retryWaiting = { s with crypto := { s.crypto with cache := [⟨k, l, i, false⟩] } } := by
  obtain ⟨hw, hr, hn⟩ := h
  obtain ⟨-, hheight, -⟩ := State.nextNode_path hn
  rw [State.holdNode_first hc]
  refine State.retryWaiting_waits hw hh hf hr ?_
  rw [State.nodeHeld, Bool.or_eq_false_iff]
  refine ⟨decide_eq_false (show ¬ s.rd EN_RANGE_CTRL.HEIGHT 0 k < 1 by omega), ?_⟩
  have hne : ¬ (k = k ∧ l = 1 ∧ i = s.rangePage k (pageOf w.req) / 8) := by omega
  exact (List.any_cons).trans (by rw [Bool.or_eq_false_iff]; exact ⟨decide_eq_false hne, rfl⟩)

/-- The first fault record filled for a node, the loss counted. -/
def State.faultRecorded (s : State) (k l i : Nat) : State :=
  ((((s.count EN_STATUS.NODE_UE).wr EN_FAULT.VALID 1 0 0).wr EN_FAULT.KEY_ID k 0 0).wr EN_FAULT.LEVEL l 0 0).wr EN_FAULT.INDEX i 0 0

/-- A node's fault, while the first record is free. -/
theorem State.nodeFault_free (hv : s.rd EN_FAULT.VALID = 0) (k l i : Nat) : s.nodeFault k l i =
    (((s.faultRecorded k l i).showRange k).showFaulted).post 4 0x0041 2 ((s.faultRecorded k l i).raw EN_FAULT.regs) := by
  obtain ⟨c, hc⟩ : ∃ c, c = s.count EN_STATUS.NODE_UE := ⟨_, rfl⟩
  have hfree : (List.range 64).find? (fun i => !c.on EN_FAULT.VALID 0 i) = some 0 := by
    have h0 : c.on EN_FAULT.VALID 0 0 = false := c.on_eq_false (by rw [hc, State.rd_count_other (by decide), hv])
    rw [show List.range 64 = 0 :: (List.range 63).map Nat.succ from List.range_succ_eq_map, List.find?_cons, h0]
    rfl
  rw [State.nodeFault, State.faultRecorded, ← hc]
  dsimp only
  rw [hfree]

theorem State.rd_nodeFault_free (hv : s.rd EN_FAULT.VALID = 0) (h1 : f.id ≠ EN_RANGE_STAT.DIRTY.id) (h2 : f.id ≠ EN_RANGE_STAT.FAULTS.id)
    (h3 : f.id ≠ EN_STATUS.FAULTED.id) (k l i u j : Nat) : (s.nodeFault k l i).rd f u j = (s.faultRecorded k l i).rd f u j := by
  rw [State.nodeFault_free hv, State.rd_post, State.showFaulted, State.rd_put_other h3]
  exact State.rd_showRange_other h1 h2 ..

/-- What the filled record says. -/
theorem State.faultRecorded_meets (hk : k < 16) {l i : Nat} (hl : l < 16) (hi : i < 2 ^ 30) (s : State) :
    (s.faultRecorded k l i).rd EN_STATUS.NODE_UE = min (s.rd EN_STATUS.NODE_UE + 1) (2 ^ 16 - 1) ∧
    (s.faultRecorded k l i).rd EN_FAULT.VALID = 1 ∧ (s.faultRecorded k l i).rd EN_FAULT.KEY_ID = k ∧
    (s.faultRecorded k l i).rd EN_FAULT.LEVEL = l ∧ (s.faultRecorded k l i).rd EN_FAULT.INDEX = i := by
  refine ⟨?_, ?_, ?_, ?_, State.rd_wr_fit hi⟩
  all_goals unfold State.faultRecorded; simp (disch := decide) only [State.rd_wr_other]
  · exact s.rd_count_one ..
  · exact State.rd_wr_fit (by decide)
  · exact State.rd_wr_fit hk
  · exact State.rd_wr_fit hl

/-- A fault record for a node, in the first record, that is free. -/
theorem State.nodeFault_meets (hv : s.rd EN_FAULT.VALID = 0) (hk : k < 16) {l i : Nat} (hl : l < 16) (hi : i < 2 ^ 30) :
    (s.nodeFault k l i).rd EN_STATUS.NODE_UE = min (s.rd EN_STATUS.NODE_UE + 1) (2 ^ 16 - 1) ∧
    (s.nodeFault k l i).rd EN_FAULT.VALID = 1 ∧ (s.nodeFault k l i).rd EN_FAULT.KEY_ID = k ∧
    (s.nodeFault k l i).rd EN_FAULT.LEVEL = l ∧ (s.nodeFault k l i).rd EN_FAULT.INDEX = i ∧
    (s.nodeFault k l i).rd EN_STATUS.FAULTED = 1 := by
  obtain ⟨hue, hvalid, hkey, hlevel, hindex⟩ := State.faultRecorded_meets hk hl hi s
  refine ⟨(State.rd_nodeFault_free hv (by decide) (by decide) (by decide) ..).trans hue,
    (State.rd_nodeFault_free hv (by decide) (by decide) (by decide) ..).trans hvalid,
    (State.rd_nodeFault_free hv (by decide) (by decide) (by decide) ..).trans hkey,
    (State.rd_nodeFault_free hv (by decide) (by decide) (by decide) ..).trans hlevel,
    (State.rd_nodeFault_free hv (by decide) (by decide) (by decide) ..).trans hindex, ?_⟩
  have hon : ((s.faultRecorded k l i).showRange k).on EN_FAULT.VALID 0 0 = true :=
    State.on_of_rd_eq_one ((State.rd_showRange_other (by decide) (by decide) ..).trans hvalid)
  rw [State.nodeFault_free hv, State.rd_post, State.showFaulted, State.rd_put_flag (by decide),
    List.any_eq_true.2 ⟨0, List.mem_range.2 (by decide), hon⟩]
  rfl

/-- The request under the new record is faulted. -/
theorem State.nodeFault_faults (hv : s.rd EN_FAULT.VALID = 0) (hk : k < 16) {l i : Nat} (hl : l < 16) (hi : i < 2 ^ 30)
    (hp : s.protectedBy (page * 128) = some k) (he : i = s.rangePage k page / 8 ^ l) :
    (s.nodeFault k l i).pageFaulted page = true ∧ (s.nodeFault k l i).halted = s.halted ∧ (s.nodeFault k l i).crypto = s.crypto := by
  have hother (f : Fld) (h : f ∈ [EN_RANGE_CTRL.STATE, EN_RANGE_BASE.BASE, EN_RANGE_BASE.LEN, EN_STATUS.HALTED]) (j : Nat) :
      (s.nodeFault k l i).rd f 0 j = s.rd f 0 j := by
    obtain ⟨h1, h2, h3, h4, h5, h6, h7, h8⟩ : f.id ≠ EN_RANGE_STAT.DIRTY.id ∧ f.id ≠ EN_RANGE_STAT.FAULTS.id ∧ f.id ≠ EN_STATUS.FAULTED.id ∧
        f.id ≠ EN_FAULT.VALID.id ∧ f.id ≠ EN_FAULT.KEY_ID.id ∧ f.id ≠ EN_FAULT.LEVEL.id ∧ f.id ≠ EN_FAULT.INDEX.id ∧
        f.id ≠ EN_STATUS.NODE_UE.id := by
      revert f
      decide
    rw [State.rd_nodeFault_free hv h1 h2 h3, State.faultRecorded, State.rd_wr_other _ h7, State.rd_wr_other _ h6,
      State.rd_wr_other _ h5, State.rd_wr_other _ h4, State.rd_count_other h8]
  obtain ⟨-, hvalid, hkey, hlevel, hindex, -⟩ := State.nodeFault_meets hv hk hl hi
  obtain ⟨hprot, hpage⟩ := State.protectedBy_congr (fun f hf j => hother f (by simp at hf ⊢; tauto) j) (page * 128)
  have hmv : Moves (Foot.only [.regs .en, .events]) s (s.nodeFault k l i) := State.nodeFault_moves (Sub.list rfl rfl) Moves.refl
  refine ⟨?_, ?_, hmv.parts .crypto (partsMask_not (by decide))⟩
  · rw [State.pageFaulted, hprot, hp]
    dsimp only
    rw [Bool.or_eq_true, List.any_eq_true]
    refine Or.inr ⟨0, List.mem_range.2 (by decide), ?_⟩
    rw [State.on_of_rd_eq_one hvalid, hkey, hlevel, hindex, hpage, he]
    simp
  · rw [State.halted, State.halted, State.on, State.on, hother _ (by simp)]

/-- An uncorrectable node leaves a fault record, and its request ends (15 R403). -/
theorem State.Fetches.faults {w : CounterWait} {l i : Nat} (h : s.Fetches w k l i) (hh : s.halted = false) (hv : s.rd EN_FAULT.VALID = 0)
    (hk : k < 16) (hl : l < 16) (hi : i < 2 ^ 30) (page src : Nat) (d : Decoded) (t : State)
    (ht : t = ((s.eccCount page src d).nodeFault k l i).retryWaiting) :
    t.rd EN_STATUS.NODE_UE = min (s.rd EN_STATUS.NODE_UE + 1) (2 ^ 16 - 1) ∧ t.rd EN_FAULT.VALID = 1 ∧ t.rd EN_FAULT.KEY_ID = k ∧
    t.rd EN_FAULT.LEVEL = l ∧ t.rd EN_FAULT.INDEX = i ∧ t.rd EN_STATUS.FAULTED = 1 := by
  obtain ⟨hw, hr, hn⟩ := h
  obtain ⟨-, -, he⟩ := State.nextNode_path hn
  have hmv : Moves ⟨false, false, false, true, false, 2252074691596288⟩ s (s.eccCount page src d) :=
    State.eccCount_moves rfl (fun _ h => h) Moves.refl
  generalize s.eccCount page src d = z at *
  have hrd (f : Fld) (hf : f.blk = .en) (j : Nat) : z.rd f 0 j = s.rd f 0 j := hmv.parts (.regs .en) rfl f 0 j hf
  obtain ⟨hprot, hpage⟩ := State.protectedBy_congr (s := s) (t := z) (fun f hf j => hrd f (by
    revert f
    decide) j) (pageOf w.req * 128)
  obtain ⟨hfaulted, hhalt, hcrypto⟩ := State.nodeFault_faults (s := z) ((hrd _ rfl 0).trans hv) hk hl hi (hprot.trans hr)
    (by rw [hpage]; exact he)
  have hkeep := State.retryWaiting_faulted (by rw [hcrypto, hmv.parts .crypto rfl]; exact hw)
    (hhalt.trans (by rw [State.halted, State.on, hrd _ rfl]; exact hh)) hfaulted
  obtain ⟨hue, hmeets⟩ := State.nodeFault_meets (s := z) ((hrd _ rfl 0).trans hv) hk hl hi
  rw [ht, hkeep, hkeep, hkeep, hkeep, hkeep, hkeep, ← hrd EN_STATUS.NODE_UE rfl 0]
  exact ⟨hue, hmeets⟩

end Sys2Proof.Machine
end

section
/-! PROOF. Protected ranges settled (O40; 15 R392 to R407). -/

namespace Sys2Proof.Machine

variable {s : State} {k page : Nat} {r : DramReq} {v : DramView}

/-- A command of the range that is refused shows in `RANGE_ERR` alone. -/
theorem State.rangeErr_meets (s : State) (k : Nat) : (s.wr EN_RANGE_CTRL.RANGE_ERR 1 0 k).rd EN_RANGE_CTRL.RANGE_ERR 0 k = 1 ∧
    s.regsKeptBut (s.wr EN_RANGE_CTRL.RANGE_ERR 1 0 k) [EN_RANGE_CTRL.RANGE_ERR.key 0 k] ∧
    { s.wr EN_RANGE_CTRL.RANGE_ERR 1 0 k with regs := s.regs } = s :=
  ⟨State.rd_wr_fit (by decide), State.regsKeptBut.refl.wr (by simp), rfl⟩

/-- An access to a page of an ON range, that nothing holds up before the counter stage. -/
structure State.Protected (s : State) (r : DramReq) (k : Nat) : Prop extends s.Accepts r where
  idle : s.dram.queue = []
  halves : s.dram.combiner = []
  range : s.protectedBy (pageOf r * 128) = some k
  sound : s.pageFaulted (pageOf r) = false
  alone : s.crypto.waiting = []

/-- A read whose counter is not held waits for it (15 R401). -/
theorem State.Protected.read_misses (h : s.Protected (readOf r) k) (hr : r.addr < 2 ^ 40) (hb : v.busy = false)
    (hn : s.nodeHeld k 1 (s.rangePage k (pageOf r) / 8) = false) : ∃ t, exec (.dramRead r v) s = .next t ∧
      t.rd EN_CACHE.MISSES = min (s.rd EN_CACHE.MISSES + 1) (2 ^ 32 - 1) ∧ t.sent = s.sent ∧
      t.crypto.waiting = [⟨{ r with data := [], posted := false }, v⟩] ∧ s.regsKeptBut t [EN_CACHE.MISSES.key] := by
  have hexec := exec_dramRead_access hr s v
  rw [State.dramAccess_stage h.toAccepts h.idle hb h.halves (by simp [isHalf]), State.counterStage_miss h.range h.sound h.alone hn rfl rfl]
    at hexec
  exact ⟨_, hexec, s.rd_count_one .., rfl, s.en_waiting _ h.alone, (State.regsKeptBut.refl.count (by simp)).hidden rfl⟩

/-- A clean read whose counter is held is answered with the stored bytes. -/
theorem State.Protected.read_hits (h : s.Protected (readOf r) k) (hr : r.addr < 2 ^ 40) (hb : v.busy = false)
    (hn : s.nodeHeld k 1 (s.rangePage k (pageOf r) / 8) = true) (hd : s.decodePage (pageOf r) v = .clean) (ht : v.tampered = false)
    (hp : (s.page (pageOf r)).poison = false) : ∃ t, exec (.dramRead r v) s = .next t ∧
      t.rd EN_CACHE.HITS = min (s.rd EN_CACHE.HITS + 1) (2 ^ 32 - 1) ∧
      t.sent = s.sent ++ [.response (645 + (s.dramPlace r.addr).1) r.src r.tag 0 (bytesNat (s.loadBytes r.addr r.len)) false] := by
  have hexec := exec_dramRead_access hr s v
  have hblock : r.addr % 64 + r.len ≤ 64 := h.block
  rw [State.dramAccess_stage h.toAccepts h.idle hb h.halves (by simp [isHalf]), State.counterStage_hit h.range h.sound h.alone hn] at hexec
  exact ⟨_, hexec, State.nodeUsed_read (r := readOf r) hd ht hp (by show r.addr % 128 + r.len ≤ 128; omega) rfl rfl ..⟩

/-- What a write needs besides: its controller joins no halves, the page reads clean, and no journal and no flip is armed. -/
structure State.Writes (s : State) (r : DramReq) (k : Nat) (v : DramView) : Prop extends s.Protected (writeOf r) k where
  short : r.addr < 2 ^ 40
  bytes : 0 < r.data.length
  available : v.busy = false
  single : s.rd DC_SCHED.WC_EN (s.dramPlace r.addr).1 = 0
  held : s.nodeHeld k 1 (s.rangePage k (pageOf r) / 8) = true
  clean : s.decodePage (pageOf r) v = .clean
  untampered : v.tampered = false
  whole : (s.page (pageOf r)).poison = false
  journal : s.rd WD_SMP_CTRL.PJ_EN = 0

theorem State.Writes.exec (h : s.Writes r k v) : exec (.dramWrite r v) s =
    .next ((s.nodeUsed k (s.rangePage k (pageOf r) / 8)).servePage (writeOf r) v) := by
  rw [exec_dramWrite_access h.short h.bytes, State.dramAccess_stage h.toAccepts h.idle h.available h.halves (by rw [s.on_eq_false h.single]; rfl),
    State.counterStage_hit h.range h.sound h.alone h.held]
  rfl

/-- A write whose counter can rise (15 R399). -/
theorem State.Writes.rises (h : s.Writes r k v) (harm : s.rd DC_FLIP_CTRL.ARM (s.dramPlace r.addr).1 = 0)
    (hc : s.counter k 0 (s.rangePage k (pageOf r)) < 2 ^ 64 - 1) : ∃ t, Machine.exec (.dramWrite r v) s = .next t ∧
      t.counter k 0 (s.rangePage k (pageOf r)) = s.counter k 0 (s.rangePage k (pageOf r)) + 1 ∧
      ∀ b, b < r.data.length → r.be.testBit b = true → t.byte (r.addr + b) = BitVec.ofNat 8 (r.data.getD b 0) := by
  obtain ⟨t, hserve, hbyte, hcounter⟩ := State.nodeUsed_write (r := writeOf r) (k := k) h.bytes h.block h.clean h.untampered h.whole h.journal
    harm h.range (by exact Nat.ne_of_lt hc) (s.rangePage k (pageOf r) / 8)
  refine ⟨t.dramAnswer (writeOf r) 0 0 false, h.exec.trans (congrArg _ hserve), ?_, fun b hb hbe => ?_⟩
  · rw [State.dramAnswer_done]
    exact hcounter
  · rw [State.dramAnswer_done]
    exact (hbyte _).trans (State.writtenByte_enabled (r := writeOf r) hb hbe)

/-- A write whose counter has reached its end (15 R399). -/
theorem State.Writes.ends (h : s.Writes r k v) (hpost : r.posted = false) (hc : s.counter k 0 (s.rangePage k (pageOf r)) = 2 ^ 64 - 1) :
    ∃ t, Machine.exec (.dramWrite r v) s = .next t ∧ t.rangeState k = 3 ∧ t.mem = s.mem ∧
      t.counter k 0 (s.rangePage k (pageOf r)) = s.counter k 0 (s.rangePage k (pageOf r)) ∧
      t.sent = s.sent ++ [.response (645 + (s.dramPlace r.addr).1) r.src r.tag 1 0 false] :=
  ⟨_, h.exec, State.nodeUsed_write_ends (r := writeOf r) (k := k) h.bytes h.block h.clean h.untampered h.whole h.journal h.range hc hpost _⟩

/-- What keeps ENABLE from being taken, one reason at a time (15 R394). -/
theorem State.rangeOk_refused (h : s.rangeState k ≠ 0 ∨ k ∈ s.crypto.enabling ∨ s.crypto.slots.any (fun p => decide (p.1 = k)) = false ∨
      s.rd PC_MAP.FINAL = 0 ∨ s.rd EN_RANGE_BASE.LEN 0 k = 0 ∨ 524288 < s.rd EN_RANGE_BASE.LEN 0 k ∨ s.rd EN_RANGE_TREE.LEN 0 k = 0 ∨
      524288 < s.rd EN_RANGE_TREE.LEN 0 k ∨
      s.rd PC_AREA.BASE < s.rd EN_RANGE_BASE.BASE 0 k + s.rd EN_RANGE_BASE.LEN 0 k ∨
      s.rd PC_AREA.BASE < s.rd EN_RANGE_TREE.BASE 0 k + s.rd EN_RANGE_TREE.LEN 0 k ∨ spansMeet (s.rangeSpan k) (s.treeSpan k) = true ∨
      (∃ j, j < 16 ∧ j ≠ k ∧ s.rangeState j ≠ 0 ∧ (spansMeet (s.rangeSpan k) (s.rangeSpan j) = true ∨
        spansMeet (s.rangeSpan k) (s.treeSpan j) = true ∨ spansMeet (s.treeSpan k) (s.rangeSpan j) = true ∨
        spansMeet (s.treeSpan k) (s.treeSpan j) = true)) ∨
      s.rd EN_RANGE_TREE.LEN 0 k * 2 ^ 21 < treeBytes (s.rd EN_RANGE_BASE.LEN 0 k * 2 ^ 14)) : s.rangeOk k = false := by
  refine Bool.eq_false_iff.2 fun hok => ?_
  obtain ⟨hoff, henabling, hslot, hfinal, ⟨hlen, hlen'⟩, ⟨htree, htree'⟩, hbase, htbase, hown, hothers, hbytes⟩ := State.rangeOk_iff.1 hok
  have hspans : s.rd EN_RANGE_BASE.BASE 0 k + s.rd EN_RANGE_BASE.LEN 0 k ≤ s.rd PC_AREA.BASE ∧
      s.rd EN_RANGE_TREE.BASE 0 k + s.rd EN_RANGE_TREE.LEN 0 k ≤ s.rd PC_AREA.BASE :=
    ⟨Nat.le_of_mul_le_mul_right hbase (by decide), Nat.le_of_mul_le_mul_right htbase (by decide)⟩
  rcases h with h | h | h | h | h | h | h | h | h | h | h | ⟨j, hj, hne, hst, hmeet⟩ | h
  · exact h hoff
  · exact henabling h
  · exact Bool.eq_false_iff.1 h hslot
  · exact hfinal h
  · omega
  · omega
  · omega
  · omega
  · omega
  · omega
  · exact Bool.eq_false_iff.1 hown h
  · obtain ⟨h1, h2, h3, h4⟩ := hothers j hj hne (.inl hst)
    simp [h1, h2, h3, h4] at hmeet
  · omega

/-- Settles O40: ENABLE and RETIRE by what R394 asks, accesses by the counter stage, fetched nodes by what the node reads. -/
theorem protectedRanges : Obligations.ProtectedRanges := by
  unfold Obligations.ProtectedRanges
  intro s k hk
  refine ⟨fun h => ⟨_, exec_rangeEnable_refused hk (State.rangeOk_refused h), s.rangeErr_meets k⟩,
    fun h hh hq => ⟨_, exec_rangeEnable_taken hk h hh hq, rfl⟩, exec_rangeEnableDone_none hk, fun h hh _ => rangeEnableDone_meets hk h hh,
    fun h => ⟨_, exec_rangeRetire_refused hk h, s.rangeErr_meets k⟩,
    fun h hh hq hc => ⟨_, exec_rangeRetire_taken hk h hh hq hc, State.rd_wr_fit (by decide), State.regsKeptBut.refl.wr (by simp), rfl⟩,
    exec_rangeRetireDone_none hk, rangeRetireDone_meets hk, ?_, exec_nodeFetchDone_none, ?_⟩
  · rintro r v c page i rfl rfl rfl hr hh h0 hb hrd htop hfree hrest htree hq hbusy hcmb hprot hsound hwait
    have hread : s.Protected (readOf r) k := ⟨⟨⟨hh, h0, hb, hrd⟩, htop, hfree, hrest, htree⟩, hq, hcmb, hprot, hsound, hwait⟩
    refine ⟨hread.read_misses hr hbusy, hread.read_hits hr hbusy, fun hn hlen hwc hd ht hp hpj harm => ?_⟩
    have hlen0 : 0 < r.data.length := hlen ▸ h0
    have hblock : r.addr % 64 + r.data.length ≤ 64 := hlen ▸ hb
    have hwrite : s.Writes r k v := ⟨⟨⟨⟨hh, hlen0, hblock, hrd⟩, htop, hfree, hrest, htree⟩, hq, hcmb, hprot, hsound, hwait⟩, hr,
      hlen0, hbusy, hwc, hn, hd, ht, hp, hpj⟩
    rw [← hlen]
    exact ⟨hwrite.rises harm, fun hc hpost => hwrite.ends hpost hc⟩
  · rintro w v page l i a hw rfl hprot hnext rfl hh
    have hfetch : s.Fetches w k l i := ⟨hw, hprot, hnext⟩
    obtain ⟨hfail, hbad, hgood⟩ := hfetch.exec v
    refine ⟨fun h => ?_, fun e h hv hl hi => ⟨_, hbad e h, hfetch.faults hh hv hk hl hi _ _ _ _ rfl⟩,
      fun h ht hc hf hl => ⟨_, (hgood h ht).trans (congrArg _ (hfetch.holds hh hc hf hl)), rfl⟩⟩
    obtain ⟨hhalt, hkind, hpkind, hkey⟩ := State.haltPart_node_meets hk s 0x3FF (s.nodeAddr k l i)
    exact ⟨_, hfail h, hhalt, hkind, hpkind, hkey, State.haltPart_crypto ..⟩

end Sys2Proof.Machine
end


section
/-! PROOF. How samples fail, complete and are acknowledged (O28; 11 R286, R290, R299). -/

namespace Sys2Proof.Machine

variable {s t : State} {f : Fld} {slot k n : Nat}

/-! ### Shared steps -/

/-- A share that is done writes the result of a command alone. -/
theorem State.rd_cmdLocalDone_other (h : ∀ g ∈ finishFields, f.id ≠ g.id) (s : State) (r u j : Nat) :
    (s.cmdLocalDone r).rd f u j = s.rd f u j := by
  have hfinish (x : State) (n : Nat) : (x.cmdFinish n).rd f u j = x.rd f u j := by
    rw [State.cmdFinish, State.rd_wdIrq_other (h _ (by decide)), State.rd_wd, State.rd_wr_other _ (h _ (by decide)),
      State.rd_wr_other _ (h _ (by decide)), State.rd_wr_other _ (h _ (by decide))]
  unfold State.cmdLocalDone
  split
  · extract_lets result
    split
    · exact hfinish ..
    · rfl
  · split
    · rfl
    · rfl

/-- What is left of the Winder besides its command and its duty, of the sampler and of the controllers. -/
theorem State.cmdLocalDone_keeps (s : State) (r : Nat) : (s.cmdLocalDone r).sampler = s.sampler ∧ (s.cmdLocalDone r).dram = s.dram ∧
    (s.cmdLocalDone r).winder.lateBound = s.winder.lateBound ∧ (s.cmdLocalDone r).winder.prevTrig = s.winder.prevTrig := by
  have hmv : Moves (Foot.only [.regs .wd, .msix, .winder, .sent]) s (s.cmdLocalDone r) := State.cmdLocalDone_moves (Sub.list rfl rfl) Moves.refl
  refine ⟨hmv.parts .sampler (partsMask_not (by decide)), hmv.parts .dram (partsMask_not (by decide)), ?_⟩
  unfold State.cmdLocalDone
  split
  · extract_lets result
    split
    · rw [State.cmdFinish_winder]
      exact ⟨rfl, rfl⟩
    · exact ⟨rfl, rfl⟩
  · split
    · exact ⟨rfl, rfl⟩
    · exact ⟨rfl, rfl⟩

theorem State.lateSpoil_none (h : s.winder.lateBound = none) : s.lateSpoil = s := by rw [State.lateSpoil, h]

/-! ### A failed sample (11 R290) -/

/-- The Corers stop and the memories of the stopes disarm. -/
def State.corersStopped (s : State) (l : List Nat) : State :=
  (List.range 4).foldl (fun t k => (((t.wr CR_STATUS.DRAIN 0 k).wr CR_STATUS.COPY 0 k).wr CR_STATUS.STOPES_LEFT 0 k).scrubResume k)
    (l.foldl (fun t m => (t.updStope m (fun x => { x with journals := [] })).wr ST_MEM_JRNL.ARMED 0 m) s)

theorem State.corersStopped_moves_only (s : State) (l : List Nat) :
    Moves (Foot.only [.regs .st, .regs .cr, .regs .sb, .scrubs, .stopes]) s (s.corersStopped l) :=
  Moves.foldl (Moves.foldl Moves.refl fun _ _ _ h => State.wr_moves rfl (State.updStope_moves (Sub.list rfl rfl) h)) fun _ _ _ h =>
    State.scrubResume_moves (Sub.list rfl rfl) (State.wr_moves rfl (State.wr_moves rfl (State.wr_moves rfl h)))

theorem State.failSample_some (h : s.sampler.draining = some slot) (cause : Nat) : s.failSample cause =
    (((((s.wr WD_SLOT.STATE 3 0 slot).wr WD_SLOT.FAIL_CAUSE cause 0 slot).corersStopped (s.slotData slot).stopes).samplerReady).smp
      fun x => { x with noticeSample := 0 }) := by
  rw [State.failSample, h]
  rfl

/-- A failed sample shows its cause, and no sample drains. -/
theorem State.failSample_meets (h : s.sampler.draining = some slot) {cause : Nat} (hc : cause < 8) :
    (s.failSample cause).rd WD_SLOT.STATE 0 slot = 3 ∧ (s.failSample cause).rd WD_SLOT.FAIL_CAUSE 0 slot = cause ∧
    (s.failSample cause).sampler.draining = none ∧ (s.failSample cause).rd WD_SMP_STATUS.READY = 1 := by
  obtain ⟨y, hy⟩ : ∃ y, y = (s.wr WD_SLOT.STATE 3 0 slot).wr WD_SLOT.FAIL_CAUSE cause 0 slot := ⟨_, rfl⟩
  have hmv := y.corersStopped_moves_only (s.slotData slot).stopes
  rw [State.failSample_some h, ← hy]
  generalize y.corersStopped (s.slotData slot).stopes = z at *
  have hready (f : Fld) (h1 : f.id ≠ WD_SMP_STATUS.READY.id) (h2 : f.id ≠ WD_SMP_STATUS.DRAINING.id) (hf : f.blk = .wd) (j : Nat) :
      (z.samplerReady.smp fun x => { x with noticeSample := 0 }).rd f 0 j = y.rd f 0 j := by
    show ((z.wr WD_SMP_STATUS.READY 1).wr WD_SMP_STATUS.DRAINING 0).rd f 0 j = _
    rw [State.rd_wr_other _ h2, State.rd_wr_other _ h1]
    exact hmv.rd_kept (by rw [hf]; decide) 0 j
  refine ⟨?_, ?_, rfl, ?_⟩
  · rw [hready _ (by decide) (by decide) rfl, hy, State.rd_wr_other _ (by decide)]
    exact State.rd_wr_fit (by decide)
  · rw [hready _ (by decide) (by decide) rfl, hy]
    exact State.rd_wr_fit hc
  · show ((z.wr WD_SMP_STATUS.READY 1).wr WD_SMP_STATUS.DRAINING 0).rd WD_SMP_STATUS.READY = 1
    rw [State.rd_wr_other _ (by decide)]
    exact State.rd_wr_fit (by decide)

/-- The Winder's fields that a failed sample writes. -/
def failFields : List Fld := [WD_SLOT.STATE, WD_SLOT.FAIL_CAUSE, WD_SMP_STATUS.READY, WD_SMP_STATUS.DRAINING]

theorem State.rd_failSample_other (hf : f.blk = .wd) (h : ∀ g ∈ failFields, f.id ≠ g.id) (s : State) (cause u j : Nat) :
    (s.failSample cause).rd f u j = s.rd f u j := by
  cases hd : s.sampler.draining with
  | none => rw [State.failSample, hd]
  | some slot =>
    obtain ⟨y, hy⟩ : ∃ y, y = (s.wr WD_SLOT.STATE 3 0 slot).wr WD_SLOT.FAIL_CAUSE cause 0 slot := ⟨_, rfl⟩
    have hmv := y.corersStopped_moves_only (s.slotData slot).stopes
    rw [State.failSample_some hd, ← hy]
    generalize y.corersStopped (s.slotData slot).stopes = z at *
    show ((z.wr WD_SMP_STATUS.READY 1).wr WD_SMP_STATUS.DRAINING 0).rd f u j = _
    rw [State.rd_wr_other _ (h _ (by decide)), State.rd_wr_other _ (h _ (by decide)), hmv.rd_kept (by rw [hf]; decide) u j, hy,
      State.rd_wr_other _ (h _ (by decide)), State.rd_wr_other _ (h _ (by decide))]

/-- An emptied slot writes the slot's own fields. -/
theorem State.rd_emptySlot_other (h : ∀ g ∈ [WD_SLOT.STATE, WD_SLOT.AUTO, WD_SLOT.TAINTED, WD_SLOT.STALE_CFG, WD_SLOT.FAIL_CAUSE], f.id ≠ g.id)
    (s : State) (n u j : Nat) : (s.emptySlot n).rd f u j = s.rd f u j := by
  show (((((s.wr WD_SLOT.STATE 0 0 n).wr WD_SLOT.AUTO 0 0 n).wr WD_SLOT.TAINTED 0 0 n).wr WD_SLOT.STALE_CFG 0 0 n).wr
    WD_SLOT.FAIL_CAUSE 0 0 n).rd f u j = _
  rw [State.rd_wr_other _ (h _ (by simp)), State.rd_wr_other _ (h _ (by simp)), State.rd_wr_other _ (h _ (by simp)),
    State.rd_wr_other _ (h _ (by simp)), State.rd_wr_other _ (h _ (by simp))]

/-! ### A completed sample (11 R290) -/

theorem exec_sampleComplete_none (h : s.sampler.draining = none ∨ s.sampler.drain ≠ [] ∨ s.sampler.noticeSample ≠ 0) :
    exec .sampleComplete s = .next s := by
  rw [exec_sampleComplete, execSampleComplete]
  cases hd : s.sampler.draining with
  | none => rfl
  | some slot =>
    have hbusy : s.sampleDone slot = false := by
      rw [hd] at h
      rw [State.sampleDone, Bool.and_eq_false_iff, Bool.and_eq_false_iff]
      rcases h with h | h | h
      · cases h
      · exact .inl (.inl (by simpa using h))
      · exact .inr (decide_eq_false h)
    simp only [hbusy, Bool.false_eq_true, if_false]

theorem exec_sampleComplete_done (h : s.sampler.draining = some slot) (hd : s.sampler.drain = [])
    (ha : ∀ n ∈ (s.slotData slot).stopes, s.rd ST_MEM_JRNL.ARMED n = 0) (hn : s.sampler.noticeSample = 0) : ∃ t,
    exec .sampleComplete s = .next t ∧ t.rd WD_SLOT.STATE 0 slot = 2 ∧ t.rd WD_SMP_STATUS.READY = 1 ∧
      t.rd WD_SMP_STATUS.DRAINING = 0 ∧ t.sampler.draining = none := by
  have hdone : s.sampleDone slot = true := by
    rw [State.sampleDone, Bool.and_eq_true, Bool.and_eq_true, hd]
    exact ⟨⟨rfl, List.all_eq_true.2 fun n hn => by rw [s.on_eq_false (ha n hn)]; rfl⟩, decide_eq_true hn⟩
  obtain ⟨y, hy⟩ : ∃ y, y = (s.wr WD_SLOT.STATE 2 0 slot).samplerReady := ⟨_, rfl⟩
  have hexec : exec .sampleComplete s = .next ((List.range 4).foldl (fun t k => t.wr CR_STATUS.COPY 0 k) y) := by
    rw [exec_sampleComplete, execSampleComplete, h, hy]
    dsimp only
    rw [if_pos hdone]
  have hmv : Moves (Foot.only [.regs .cr]) y ((List.range 4).foldl (fun t k => t.wr CR_STATUS.COPY 0 k) y) :=
    Moves.foldl Moves.refl fun _ _ _ h => State.wr_moves rfl h
  generalize (List.range 4).foldl (fun t k => t.wr CR_STATUS.COPY 0 k) y = z at *
  refine ⟨z, hexec, ?_, ?_, ?_, (congrArg Sampler.draining (hmv.parts .sampler (partsMask_not (by decide)))).trans (by rw [hy]; rfl)⟩
  all_goals rw [hmv.rd_kept (by decide), hy]
  · show ((((s.wr WD_SLOT.STATE 2 0 slot).wr WD_SMP_STATUS.READY 1).wr WD_SMP_STATUS.DRAINING 0)).rd WD_SLOT.STATE 0 slot = 2
    rw [State.rd_wr_other _ (by decide), State.rd_wr_other _ (by decide)]
    exact State.rd_wr_fit (by decide)
  · show ((((s.wr WD_SLOT.STATE 2 0 slot).wr WD_SMP_STATUS.READY 1).wr WD_SMP_STATUS.DRAINING 0)).rd WD_SMP_STATUS.READY = 1
    rw [State.rd_wr_other _ (by decide)]
    exact State.rd_wr_fit (by decide)
  · show ((((s.wr WD_SLOT.STATE 2 0 slot).wr WD_SMP_STATUS.READY 1).wr WD_SMP_STATUS.DRAINING 0)).rd WD_SMP_STATUS.DRAINING = 0
    exact State.rd_wr_fit (by decide)

/-! ### Engines (11 R290, R299) -/

theorem exec_engLimitExpiry_late (hn : s.sampler.noticeSample ≠ 0) (hr : s.sampler.noticeRestore = 0) (h : s.sampler.draining = some slot) :
    exec .engLimitExpiry s = .next (s.failSample 4) := by
  rw [exec_engLimitExpiry, execEngLimitExpiry, if_neg (by simpa using hr), if_pos ⟨by rw [h]; rfl, hn⟩]

theorem exec_engLimitExpiry_none (hn : s.sampler.noticeSample = 0) (hr : s.sampler.noticeRestore = 0) : exec .engLimitExpiry s = .next s := by
  rw [exec_engLimitExpiry, execEngLimitExpiry, if_neg (by simpa using hr), if_neg fun h => h.2 hn]

theorem clearMask_two_pow (v : Nat) {e : Nat} (he : e < 64) : (clearMask v (2 ^ e % 2 ^ 64)).testBit e = false := by
  rw [Nat.mod_eq_of_lt (Nat.pow_lt_pow_right (by decide) he)]
  rw [clearMask, Nat.and_two_pow, Nat.testBit_eq_decide_div_mod_eq]
  cases hb : v.testBit e with
  | false =>
    rw [Nat.testBit_eq_decide_div_mod_eq] at hb
    simpa using hb
  | true =>
    have hq := of_decide_eq_true ((Nat.testBit_eq_decide_div_mod_eq ..).symm.trans hb)
    have hdiv := Nat.sub_mul_div v (2 ^ e) 1
    rw [Bool.toNat_true, Nat.one_mul]
    rw [Nat.mul_one] at hdiv
    rw [hdiv]
    exact decide_eq_false (by omega)

/-- An acknowledgement clears the engine's notices, and nothing else. -/
theorem exec_engineAck_meets {e : Nat} (he : e < 64) (h : s.sampler.noticeRestore = 0) : ∃ t, exec (.engineAck (2 ^ e)) s = .next t ∧
    t.sampler.noticeSample.testBit e = false ∧ t.sampler.noticePend.testBit e = false ∧ { t with sampler := s.sampler } = s := by
  refine ⟨s.smp fun x => { x with
    noticeSample := clearMask x.noticeSample (2 ^ e % 2 ^ 64), noticeRestore := clearMask x.noticeRestore (2 ^ e % 2 ^ 64),
    noticePend := clearMask x.noticePend (2 ^ e % 2 ^ 64) }, ?_, clearMask_two_pow _ he, clearMask_two_pow _ he, rfl⟩
  rw [exec_engineAck, execEngineAck, State.engineAck]
  rw [if_neg fun hc => hc.1 h]

end Sys2Proof.Machine
end


section
/-! PROOF. The Corers' drain of shadow frames (O28; 11 R288, R290). -/

namespace Sys2Proof.Machine

variable {s t : State} {f : Fld} {slot k n a : Nat} {r : List Nat}

/-! ### Stores over several pages outside the page journal -/

/-- The registers of the Winder say which ranges are journalled. -/
theorem State.journalled_congr (h : ∀ f : Fld, f.blk = .wd → ∀ u j, t.rd f u j = s.rd f u j) (a : Nat) : t.journalled a = s.journalled a := by
  simp only [State.journalled, State.on, h _ (show WD_SMP_CTRL.PJ_EN.blk = .wd from rfl), h _ (show WD_PJ_RANGE.EN.blk = .wd from rfl),
    h _ (show WD_PJ_RANGE.BASE.blk = .wd from rfl), h _ (show WD_PJ_RANGE.LEN.blk = .wd from rfl)]

theorem storeFoot_wd (h : Moves storeFoot s t) (hf : f.blk = .wd) (u j : Nat) : t.rd f u j = s.rd f u j :=
  h.parts (.regs .wd) (partsMask_not (by decide)) f u j hf

/-- A store whose pages all lie outside the journalled ranges. -/
theorem State.agentStore_moves_unjournalled {data : List Nat}
    (h : ∀ i < (a + data.length + 127) / 128 - a / 128, s.journalled ((a / 128 + i) * 128) = false) :
    Moves storeFoot s (s.agentStore a data) := by
  unfold State.agentStore
  extract_lets first
  refine Moves.foldl Moves.refl fun t i hi ht => ?_
  have hpage : t.journalled ((first + i) * 128) = false :=
    (State.journalled_congr (fun f hf u j => storeFoot_wd ht hf u j) _).trans (h i (List.mem_range.1 hi))
  extract_lets page here mask bytes old bad
  rw [Option.getD.eq_def]
  split
  · rename_i e
    exact ht.trans (State.storePage_moves_unjournalled hpage e)
  · exact ht

/-! ### One frame -/

/-- Where the Corer of a seam puts its next frame of stope `n`. -/
def State.framePlace (s : State) (slot n k : Nat) : Nat :=
  s.slotBase slot + 0x400000 + n * 0x12000 + Tab.get 0 s.sampler.drainFrame k * 512

/-- The bytes of the seam's next frame. -/
def State.frameBytes (s : State) (n k : Nat) : List Nat :=
  ((List.range 64).map fun w => Config.stateFrame (s.stope n) (shadowFrame (Tab.get 0 s.sampler.drainFrame k)) w % 2 ^ 64).flatMap wordBytes

/-- The frame is in the slot and counted. -/
def State.frameStored (s : State) (slot n k : Nat) : State :=
  (s.agentStore (s.framePlace slot n k) (s.frameBytes n k)).countWrap CR_STATUS.FRAMES 1 k

theorem State.frameBytes_length (s : State) (n k : Nat) : (s.frameBytes n k).length = 512 := by
  rw [State.frameBytes, List.length_flatMap, List.map_map]
  have hword : ((fun a => (wordBytes a).length) ∘ fun w => Config.stateFrame (s.stope n) (shadowFrame (Tab.get 0 s.sampler.drainFrame k)) w % 2 ^ 64) =
      fun _ => 8 := funext fun w => by simp [wordBytes]
  rw [hword]
  rfl

theorem State.framePlace_aligned (s : State) (slot n k : Nat) : s.framePlace slot n k % 128 = 0 := by
  simp only [State.framePlace, State.slotBase, slotBytes]
  omega

/-- None of the frame's four pages is journalled. -/
def State.FrameFree (s : State) (slot n k : Nat) : Prop :=
  (List.range 4).all (fun i => !s.journalled (s.framePlace slot n k + 128 * i)) = true

theorem State.FrameFree.moves (h : s.FrameFree slot n k) : Moves storeFoot s (s.agentStore (s.framePlace slot n k) (s.frameBytes n k)) := by
  have halign := s.framePlace_aligned slot n k
  refine State.agentStore_moves_unjournalled fun i hi => ?_
  rw [State.frameBytes_length] at hi
  have hpage := List.all_eq_true.1 h i (List.mem_range.2 (by omega))
  rw [show (s.framePlace slot n k / 128 + i) * 128 = s.framePlace slot n k + 128 * i by omega]
  simpa using hpage

theorem State.frameStored_moves (s : State) (slot n k : Nat) :
    Moves (Foot.only [.regs .cr]) (s.agentStore (s.framePlace slot n k) (s.frameBytes n k)) (s.frameStored slot n k) :=
  State.countWrap_moves (by decide) Moves.refl

/-- Beside the bytes of DRAM a stored frame changes the parts of a store and the Corers' registers. -/
theorem State.FrameFree.kept (h : s.FrameFree slot n k) {p : Part} (hp : p ∉ .regs .cr :: storeParts) : s.partKept (s.frameStored slot n k) p := by
  rw [List.mem_cons, not_or] at hp
  exact (h.moves.parts p (partsMask_not hp.2)).trans ((s.frameStored_moves slot n k).parts p (partsMask_not (by simpa using hp.1)))

theorem State.FrameFree.fabMem (h : s.FrameFree slot n k) : (s.frameStored slot n k).fabMem = s.fabMem :=
  ((s.frameStored_moves slot n k).fabMem rfl).1.trans (h.moves.fabMem rfl).1

theorem State.FrameFree.sampler (h : s.FrameFree slot n k) : (s.frameStored slot n k).sampler = s.sampler := h.kept (p := .sampler) (by decide)

/-- The stored frame is counted. -/
theorem State.FrameFree.frames (h : s.FrameFree slot n k) :
    (s.frameStored slot n k).rd CR_STATUS.FRAMES k = (s.rd CR_STATUS.FRAMES k + 1) % 2 ^ 32 := by
  rw [State.frameStored, State.rd_countWrap_same, h.moves.parts (.regs .cr) (partsMask_not (by decide)) CR_STATUS.FRAMES k 0 rfl,
    show CR_STATUS.FRAMES.wid = 32 from rfl]

/-! ### The frames of a seam in turn -/

/-- What drains: a slot, and a seam's stopes in turn. -/
structure State.Drains (s : State) (k slot n : Nat) (r : List Nat) : Prop where
  seam : k < 4
  draining : s.sampler.draining = some slot
  stopes : Tab.get [] s.sampler.drain k = n :: r

/-- A frame that reads uncorrectable, or whose store fails, fails the sample. -/
theorem State.Drains.fails (h : s.Drains k slot n r) (ue : Bool) :
    exec (.corerDrainFrame k ue true) s = .next (s.failSample (if ue then 1 else 2)) := by
  rw [exec_corerDrainFrame, execCorerDrainFrame, need_pos (decide_eq_true h.seam), h.draining, h.stopes]
  cases ue <;> rfl

/-- The drain moves to the stope's next frame. -/
def State.nextShadow (s : State) (k : Nat) (t : State) : State :=
  t.smp fun y => { y with drainFrame := Tab.set natLt 0 y.drainFrame k (Tab.get 0 s.sampler.drainFrame k + 1) }

theorem State.Drains.moves_on (h : s.Drains k slot n r) (hj : Tab.get 0 s.sampler.drainFrame k < 143) :
    exec (.corerDrainFrame k false false) s = .next (s.nextShadow k (s.frameStored slot n k)) := by
  rw [exec_corerDrainFrame, execCorerDrainFrame, need_pos (decide_eq_true h.seam), h.draining, h.stopes]
  dsimp only
  rw [if_neg (by simp), if_neg (by simp), if_pos hj]
  rfl

theorem State.nextShadow_meets (s : State) (k : Nat) {y : State} (h : y.sampler = s.sampler) :
    Tab.get 0 (s.nextShadow k y).sampler.drainFrame k = Tab.get 0 s.sampler.drainFrame k + 1 ∧
    (s.nextShadow k y).sampler.drain = s.sampler.drain ∧ (s.nextShadow k y).sampler.draining = s.sampler.draining := by
  refine ⟨?_, ?_, ?_⟩
  · show Tab.get 0 (Tab.set natLt 0 y.sampler.drainFrame k (Tab.get 0 s.sampler.drainFrame k + 1)) k = _
    exact Tab.get_set_same ..
  · show y.sampler.drain = s.sampler.drain
    rw [h]
  · show y.sampler.draining = s.sampler.draining
    rw [h]

/-- The drain's own step changes the sampler alone. -/
theorem State.nextShadow_rest (s : State) (k : Nat) (y : State) : (∀ f u j, (s.nextShadow k y).rd f u j = y.rd f u j) ∧
    (s.nextShadow k y).fabMem = y.fabMem ∧ (s.nextShadow k y).stopes = y.stopes ∧ (s.nextShadow k y).winder = y.winder :=
  ⟨fun _ _ _ => rfl, rfl, rfl, rfl⟩

/-- A frame before a stope's last goes to its place, and the drain moves on. -/
theorem State.Drains.middle (h : s.Drains k slot n r) (hj : Tab.get 0 s.sampler.drainFrame k < 143) (hfree : s.FrameFree slot n k) : ∃ t,
    exec (.corerDrainFrame k false false) s = .next t ∧
      Tab.get 0 t.sampler.drainFrame k = Tab.get 0 s.sampler.drainFrame k + 1 ∧
      t.rd CR_STATUS.FRAMES k = (s.rd CR_STATUS.FRAMES k + 1) % 2 ^ 32 ∧ t.sampler.drain = s.sampler.drain ∧
      t.sampler.draining = some slot ∧ t.fabMem = s.fabMem ∧ t.stopes = s.stopes ∧ t.winder = s.winder := by
  obtain ⟨hframe, hdrain, hdraining⟩ := s.nextShadow_meets k hfree.sampler
  obtain ⟨hrd, hfab, hstopes, hwinder⟩ := s.nextShadow_rest k (s.frameStored slot n k)
  exact ⟨_, h.moves_on hj, hframe, (hrd ..).trans hfree.frames, hdrain, hdraining.trans h.draining, hfab.trans hfree.fabMem,
    hstopes.trans (hfree.kept (p := .stopes) (by decide)), hwinder.trans (hfree.kept (p := .winder) (by decide))⟩

/-- A stope's shadow is whole: the slot holds it, and the drain goes to the next stope. -/
def State.shadowHeld (s : State) (slot k n : Nat) (r : List Nat) (t : State) : State :=
  (((t.setSlot slot { t.slotData slot with
      shadows := (t.slotData slot).shadows ++ [(n, ⟨(s.stope n).shadow, (s.stope n).shadowPorts⟩)] }).smp fun y => { y with
    drainFrame := Tab.set natLt 0 y.drainFrame k 0, drain := Tab.set natLt [] y.drain k r }).wr CR_STATUS.STOPES_LEFT r.length k)

/-- The Corer of a seam without a stope left ends its drain. -/
def State.seamDrained (t : State) (k : Nat) (r : List Nat) : State :=
  if r.isEmpty then (t.wr CR_STATUS.DRAIN 0 k).scrubResume k else t

theorem State.Drains.ends_stope (h : s.Drains k slot n r) (hj : Tab.get 0 s.sampler.drainFrame k = 143) :
    exec (.corerDrainFrame k false false) s = .next ((s.shadowHeld slot k n r (s.frameStored slot n k)).seamDrained k r) := by
  rw [exec_corerDrainFrame, execCorerDrainFrame, need_pos (decide_eq_true h.seam), h.draining, h.stopes]
  dsimp only
  rw [if_neg (by simp), if_neg (by simp), if_neg (by omega)]
  rfl

theorem State.seamDrained_keeps (t : State) (k : Nat) (r : List Nat) : (t.seamDrained k r).sampler = t.sampler ∧
    (t.seamDrained k r).rd CR_STATUS.STOPES_LEFT k = t.rd CR_STATUS.STOPES_LEFT k := by
  unfold State.seamDrained
  split
  · have hmv : Moves (Foot.only [.regs .sb, .scrubs]) (t.wr CR_STATUS.DRAIN 0 k) ((t.wr CR_STATUS.DRAIN 0 k).scrubResume k) :=
      State.scrubResume_moves (Sub.list rfl rfl) Moves.refl
    exact ⟨hmv.parts .sampler (partsMask_not (by decide)), (hmv.rd_kept (by decide) k 0).trans (State.rd_wr_other _ (by decide))⟩
  · exact ⟨rfl, rfl⟩

theorem State.shadowHeld_meets (s : State) (slot k n : Nat) (r : List Nat) {y : State} (h : y.sampler = s.sampler) :
    Tab.get [] (s.shadowHeld slot k n r y).sampler.drain k = r ∧
    (s.shadowHeld slot k n r y).rd CR_STATUS.STOPES_LEFT k = r.length % 2 ^ 8 ∧
    ((s.shadowHeld slot k n r y).slotData slot).shadows =
      (s.slotData slot).shadows ++ [(n, ⟨(s.stope n).shadow, (s.stope n).shadowPorts⟩)] := by
  refine ⟨?_, State.rd_wr_same .., ?_⟩
  · show Tab.get [] (Tab.set natLt [] y.sampler.drain k r) k = r
    exact Tab.get_set_same ..
  · have hslot : y.slotData slot = s.slotData slot := congrArg (fun x : Sampler => Tab.get SlotData.none x.slots slot) h
    rw [← hslot]
    exact congrArg SlotData.shadows (Tab.get_set_same ..)

/-- A stope's last frame ends its drain. -/
theorem State.Drains.last (h : s.Drains k slot n r) (hj : Tab.get 0 s.sampler.drainFrame k = 143) (hfree : s.FrameFree slot n k) : ∃ t,
    exec (.corerDrainFrame k false false) s = .next t ∧ Tab.get [] t.sampler.drain k = r ∧
      t.rd CR_STATUS.STOPES_LEFT k = r.length % 2 ^ 8 ∧
      (t.slotData slot).shadows = (s.slotData slot).shadows ++ [(n, ⟨(s.stope n).shadow, (s.stope n).shadowPorts⟩)] := by
  obtain ⟨hdrain, hleft, hshadows⟩ := s.shadowHeld_meets slot k n r hfree.sampler
  obtain ⟨hkeep, hkept⟩ := (s.shadowHeld slot k n r (s.frameStored slot n k)).seamDrained_keeps k r
  refine ⟨_, h.ends_stope hj, (congrArg (fun x : Sampler => Tab.get [] x.drain k) hkeep).trans hdrain, hkept.trans hleft, ?_⟩
  rw [State.slotData, hkeep]
  exact hshadows

end Sys2Proof.Machine
end


section
/-! PROOF. The copy-out of a sample (O28; 11 R287, R291). -/

namespace Sys2Proof.Machine

variable {s t : State} {f : Fld} {ev : SchedEvent} {n : Nat}

/-! ### What a due sample leaves of the schedule (08 R213, R225) -/

/-- The event is gone from the schedule. -/
def State.eventGone (s : State) (ev : SchedEvent) : State :=
  s.wd fun w => { w with events := w.events.filter fun e => decide (e ≠ ev) }

/-- A sample that is over runs on, with no stop due, or ends the command that asked for it. -/
theorem State.sampleOver_cases
    (he : ∀ e ∈ s.winder.events, e.kind = .sample ∨ s.rd WD_TALLY.TALLY < e.e) (ev : SchedEvent) (r : Nat) :
    s.sampleOver ev r = s.eventGone ev ∨ s.sampleOver ev r = (s.eventGone ev).cmdLocalDone r := by
  have hdue : (s.eventGone ev).NoStopDue := .inr fun e h => he e (List.mem_of_mem_filter h)
  have hover : s.sampleOver ev r = if (s.eventGone ev).wdState = 1 then
      (if ev.cause = 2 then (s.eventGone ev).cmdLocalDone r else s.eventGone ev) else (s.eventGone ev).settle := rfl
  rw [hover, hdue.settle]
  split_ifs
  · exact .inr rfl
  · exact .inl rfl
  · exact .inl rfl

theorem State.sampleOver_keeps
    (he : ∀ e ∈ s.winder.events, e.kind = .sample ∨ s.rd WD_TALLY.TALLY < e.e) (ev : SchedEvent) (r : Nat) :
    (∀ f : Fld, (∀ g ∈ finishFields, f.id ≠ g.id) → ∀ u j, (s.sampleOver ev r).rd f u j = s.rd f u j) ∧
    (s.sampleOver ev r).sampler = s.sampler ∧ (s.sampleOver ev r).winder.lateBound = s.winder.lateBound := by
  rcases State.sampleOver_cases he ev r with h | h
  · rw [h]
    exact ⟨fun _ _ _ _ => rfl, rfl, rfl⟩
  · obtain ⟨hsampler, -, hlate, -⟩ := (s.eventGone ev).cmdLocalDone_keeps r
    rw [h]
    exact ⟨fun f hf u j => State.rd_cmdLocalDone_other hf _ r u j, hsampler, hlate⟩

/-! ### A sample that is not taken -/

theorem exec_sampleCopyOut_waits (h : s.sampleDue = none ∨ s.rd WD_SMP_STATUS.READY = 0 ∨ s.masterOut = true) :
    exec .sampleCopyOut s = .next s := by
  rw [exec_sampleCopyOut, execSampleCopyOut]
  cases hd : s.sampleDue with
  | none => rfl
  | some ev =>
    dsimp only
    rw [if_neg]
    rintro ⟨-, hready, hmaster⟩
    rcases h with h | h | h
    · rw [hd] at h
      cases h
    · rw [s.on_eq_false h] at hready
      cases hready
    · rw [h] at hmaster
      cases hmaster

/-- A due sample whose Winder, sampler and masters are ready. -/
structure State.CopiesOut (s : State) (ev : SchedEvent) : Prop where
  due : s.sampleDue = some ev
  state : s.rd WD_STATUS.STATE = 1 ∨ s.rd WD_STATUS.STATE = 2
  ready : s.rd WD_SMP_STATUS.READY ≠ 0
  masters : s.masterOut = false

theorem State.CopiesOut.exec (h : s.CopiesOut ev) : Machine.exec .sampleCopyOut s =
    .next (if s.slotUsable ev.slot ∧ s.rd WD_SMP_SEQ.SEQ < ones 32 then s.takeSample ev else s.sampleOver ev 7).lateSpoil := by
  rw [exec_sampleCopyOut, execSampleCopyOut, h.due]
  dsimp only
  rw [if_pos ⟨h.state, (s.on_iff ..).2 h.ready, by rw [h.masters]; rfl⟩]

/-- A slot that holds no sample, or a sequence at its end, takes none: the event is gone, and nothing else. -/
theorem State.CopiesOut.skips (h : s.CopiesOut ev) (h1 : s.rd WD_STATUS.STATE = 1)
    (hno : s.slotUsable ev.slot = false ∨ s.rd WD_SMP_SEQ.SEQ = 2 ^ 32 - 1) (hl : s.winder.lateBound = none) (hc : ev.cause ≠ 2) :
    Machine.exec .sampleCopyOut s = .next (s.eventGone ev) := by
  have hover : s.sampleOver ev 7 = s.eventGone ev := by
    show (if (s.eventGone ev).wdState = 1 then (if ev.cause = 2 then (s.eventGone ev).cmdLocalDone 7 else s.eventGone ev)
      else (s.eventGone ev).settle) = _
    rw [if_pos (show (s.eventGone ev).wdState = 1 from h1), if_neg hc]
  rw [h.exec, if_neg, hover, (show (s.eventGone ev).lateSpoil = s.eventGone ev from State.lateSpoil_none hl)]
  rintro ⟨hu, hq⟩
  rcases hno with hno | hno
  · rw [hno] at hu
    cases hu
  · rw [hno] at hq
    exact absurd hq (by decide)

/-! ### A sample that is taken (11 R287 steps 3 to 5) -/

/-- The shadows of the stopes in use are taken, and their memories armed. -/
def State.shadowsTaken (s : State) : State :=
  s.usedStopes.foldl (fun t m => (List.range 18).foldl (fun t k => t.armMemory m k) (t.copyOutStope m)) s

theorem State.shadowsTaken_moves (s : State) : Moves (Foot.only [.regs .st, .stopes]) s s.shadowsTaken :=
  Moves.foldl Moves.refl fun _ _ _ h => Moves.foldl (State.copyOutStope_moves (Sub.list rfl rfl) h) fun _ _ _ h =>
    State.armMemory_moves (Sub.list rfl rfl) h

/-- What the slot of a sample notes as it is taken. -/
def State.sampleData (s : State) : SlotData :=
  { stopes := s.usedStopes, f := s.rd CF_LOADED.F, k := s.rd CF_LOADED.K, crc := s.lineCrc, trig := s.winder.prevTrig
    shadows := [], mems := [], hist := s.xp.map (fun p => (p.1, p.2.history)), upSeq := s.queueSeqs true
    logPos := s.queueSeqs false }

/-- The used stopes of each seam. -/
def seamsOf (l : List Nat) : List (Nat × List Nat) := (List.range 4).map fun k => (k, l.filter fun m => decide (m / 160 = k))

/-- The slot's registers, as the sample with number `q` at tally `e` writes them. -/
def State.slotMarked (t : State) (ev : SchedEvent) (q e : Nat) : State :=
  ((((((((t.wr WD_SLOT.STATE 1 0 ev.slot).put WD_SLOT.AUTO (decide (ev.cause = 1)) 0 ev.slot).wr WD_SLOT.SEQ q 0 ev.slot).wr
    WD_SLOT_TALLY.TALLY e 0 ev.slot).wr WD_SMP_SEQ.SEQ q).wr WD_SMP_STATUS.READY 0).wr WD_SMP_STATUS.DRAINING 1).wr
    WD_SMP_STATUS.LAST_SLOT ev.slot)

/-- The slot of the sample is empty but for what it notes. -/
def State.slotNoted (s : State) (ev : SchedEvent) : State := (s.shadowsTaken.emptySlot ev.slot).setSlot ev.slot s.sampleData

/-- The sampler drains the slot. -/
def State.drainBegun (s : State) (ev : SchedEvent) (t : State) : State :=
  t.smp fun x => { x with
    epoch := s.rd WD_SMP_SEQ.SEQ + 1, draining := some ev.slot, drain := (seamsOf s.usedStopes).filter (fun p => !p.2.isEmpty), drainFrame := []
    pjDropping := false, logDropping := false, noticeSample := s.rd WD_SMP_ENG.MASK }

/-- The seams with a stope in use pause their scrubbers and start their Corers. -/
def State.seamsPaused (t : State) (l : List (Nat × List Nat)) : State :=
  l.foldl (fun t p =>
    if p.2.isEmpty then t
    else ((((t.scrubPause p.1).wr CR_STATUS.DRAIN 1 p.1).wr CR_STATUS.COPY 1 p.1).wr CR_STATUS.STOPES_LEFT p.2.length p.1)) t

theorem State.seamsPaused_moves (t : State) (l : List (Nat × List Nat)) : Moves (Foot.only [.regs .sb, .regs .cr, .scrubs]) t (t.seamsPaused l) := by
  refine Moves.foldl Moves.refl fun u p _ h => ?_
  split
  · exact h
  · exact State.wr_moves rfl (State.wr_moves rfl (State.wr_moves rfl (State.scrubPause_moves (Sub.list rfl rfl) h)))

/-- The sample is open, its hold counted, in a state `m` that shows its slot. -/
def State.sampleOpened (s : State) (ev : SchedEvent) (m : State) : State :=
  ((s.drainBegun ev m).seamsPaused (seamsOf s.usedStopes)).countWrap WD_HOLDS_SAMPLE.COUNT

/-- The slot of the sample as its registers show it. -/
def State.slotShown (s : State) (ev : SchedEvent) : State := (s.slotNoted ev).slotMarked ev (s.rd WD_SMP_SEQ.SEQ + 1) s.tally

theorem State.takeSample_eq (s : State) (ev : SchedEvent) :
    s.takeSample ev = ((s.sampleOpened ev (s.slotShown ev)).sysNotices 1 ev.slot s.tally).sampleOver ev 0 := rfl

theorem State.sysNotices_keeps (s : State) (kind slot tally : Nat) :
    (s.sysNotices kind slot tally).sampler.draining = s.sampler.draining ∧ (s.sysNotices kind slot tally).sampler.slots = s.sampler.slots ∧
    (s.sysNotices kind slot tally).sampler.restoring = s.sampler.restoring ∧
    (s.sysNotices kind slot tally).sampler.noticeRestore = s.sampler.noticeRestore := by
  have hone (t : State) (e : Nat) : ∃ y : State, y.sampler = t.sampler ∧ t.sysNotice kind slot tally e =
      y.smp fun x => { x with noticePend := setBit x.noticePend e } := by
    unfold State.sysNotice
    extract_lets u v
    refine ⟨v, ?_, rfl⟩
    show (if t.sampler.noticePend.testBit e = true then u.wr TR_SYSNOTE.OVR 1 e else u).sampler = t.sampler
    split <;> rfl
  unfold State.sysNotices
  generalize (List.range 64).filter (fun e => s.bit WD_SMP_ENG.MASK e) = l
  induction l generalizing s with
  | nil => exact ⟨rfl, rfl, rfl, rfl⟩
  | cons e l ih =>
    obtain ⟨y, hy, he⟩ := hone s e
    obtain ⟨h1, h2, h3, h4⟩ := ih (s.sysNotice kind slot tally e)
    have hsampler : (s.sysNotice kind slot tally e).sampler = { s.sampler with noticePend := setBit s.sampler.noticePend e } := by
      rw [he, ← hy]
      rfl
    rw [hsampler] at h1 h2 h3 h4
    exact ⟨h1, h2, h3, h4⟩

/-- The fields that show the sample taken. -/
def takenFields : List Fld := [WD_SLOT.STATE, WD_SLOT.AUTO, WD_SLOT.SEQ, WD_SLOT_TALLY.TALLY, WD_SMP_SEQ.SEQ, WD_SMP_STATUS.READY,
  WD_SMP_STATUS.DRAINING, WD_SMP_STATUS.LAST_SLOT]

theorem State.rd_slotMarked_other (h : ∀ g ∈ takenFields, f.id ≠ g.id) (t : State) (ev : SchedEvent) (q e u j : Nat) :
    (t.slotMarked ev q e).rd f u j = t.rd f u j := by
  unfold State.slotMarked
  rw [State.rd_wr_other _ (h _ (by decide)), State.rd_wr_other _ (h _ (by decide)), State.rd_wr_other _ (h _ (by decide)),
    State.rd_wr_other _ (h _ (by decide)), State.rd_wr_other _ (h _ (by decide)), State.rd_wr_other _ (h _ (by decide)),
    State.rd_put_other (h _ (by decide)), State.rd_wr_other _ (h _ (by decide))]

theorem State.slotMarked_meets (t : State) {ev : SchedEvent} (hs : ev.slot < 16) (q e : Nat) :
    (t.slotMarked ev q e).rd WD_SLOT.STATE 0 ev.slot = 1 ∧ (t.slotMarked ev q e).rd WD_SLOT.SEQ 0 ev.slot = q % 2 ^ 32 ∧
    (t.slotMarked ev q e).rd WD_SLOT_TALLY.TALLY 0 ev.slot = e % 2 ^ 64 ∧ (t.slotMarked ev q e).rd WD_SMP_SEQ.SEQ = q % 2 ^ 32 ∧
    (t.slotMarked ev q e).rd WD_SMP_STATUS.READY = 0 ∧ (t.slotMarked ev q e).rd WD_SMP_STATUS.DRAINING = 1 ∧
    (t.slotMarked ev q e).rd WD_SMP_STATUS.LAST_SLOT = ev.slot := by
  unfold State.slotMarked
  simp (disch := decide) only [State.rd_wr_other, State.rd_put_other, State.rd_wr_same]
  exact ⟨rfl, rfl, rfl, rfl, rfl, rfl, Nat.mod_eq_of_lt hs⟩

theorem State.slotNoted_meets (s : State) (ev : SchedEvent) : (s.slotNoted ev).slotData ev.slot = s.sampleData ∧
    (s.slotNoted ev).winder = s.winder ∧ (s.slotNoted ev).rd WD_STATUS.STATE = s.rd WD_STATUS.STATE ∧
    (s.slotNoted ev).rd WD_TALLY.TALLY = s.rd WD_TALLY.TALLY := by
  have hmv := s.shadowsTaken_moves
  unfold State.slotNoted
  generalize s.sampleData = d
  generalize s.shadowsTaken = y at *
  have hrd (f : Fld) (hf : f.blk = .wd) : y.rd f = s.rd f := by
    rw [hmv.rd_kept (by rw [hf]; decide)]
  refine ⟨Tab.get_set_same .., hmv.winder_kept (by decide), ?_, ?_⟩
  · exact (State.rd_emptySlot_other (by decide) y ev.slot 0 0).trans (hrd _ rfl)
  · exact (State.rd_emptySlot_other (by decide) y ev.slot 0 0).trans (hrd _ rfl)

/-- What the open sample shows besides the registers of its slot. -/
theorem State.seamsPaused_meets (y : State) (l : List (Nat × List Nat)) :
    (∀ f : Fld, f.blk = .wd → f.id ≠ WD_HOLDS_SAMPLE.COUNT.id → ∀ u j,
      ((y.seamsPaused l).countWrap WD_HOLDS_SAMPLE.COUNT).rd f u j = y.rd f u j) ∧
    ((y.seamsPaused l).countWrap WD_HOLDS_SAMPLE.COUNT).sampler = y.sampler ∧
    ((y.seamsPaused l).countWrap WD_HOLDS_SAMPLE.COUNT).winder = y.winder := by
  have hmv := y.seamsPaused_moves l
  generalize y.seamsPaused l = z at *
  refine ⟨fun f hf hc u j => ?_, hmv.parts .sampler (partsMask_not (by decide)), hmv.winder_kept (by decide)⟩
  rw [State.rd_countWrap_other hc, hmv.rd_kept (by rw [hf]; decide)]

theorem State.slotMarked_rest (t : State) (ev : SchedEvent) (q e : Nat) : (t.slotMarked ev q e).sampler = t.sampler ∧
    (t.slotMarked ev q e).winder = t.winder := ⟨rfl, rfl⟩

/-- What begins to drain changes the sampler alone. -/
theorem State.drainBegun_meets (s : State) (ev : SchedEvent) (t : State) : (∀ f u j, (s.drainBegun ev t).rd f u j = t.rd f u j) ∧
    (s.drainBegun ev t).sampler.draining = some ev.slot ∧ (s.drainBegun ev t).sampler.slots = t.sampler.slots ∧
    (s.drainBegun ev t).winder = t.winder := ⟨fun _ _ _ => rfl, rfl, rfl, rfl⟩

/-- The open sample before its notices go out. -/
theorem State.sampleOpened_meets (s : State) (ev : SchedEvent) (m : State) :
    (∀ f : Fld, f.blk = .wd → f.id ≠ WD_HOLDS_SAMPLE.COUNT.id → ∀ u j, (s.sampleOpened ev m).rd f u j = m.rd f u j) ∧
    (s.sampleOpened ev m).sampler.draining = some ev.slot ∧ (s.sampleOpened ev m).sampler.slots = m.sampler.slots ∧
    (s.sampleOpened ev m).winder = m.winder := by
  obtain ⟨hbrd, hdrain, hslots, hbwinder⟩ := s.drainBegun_meets ev m
  unfold State.sampleOpened
  generalize s.drainBegun ev m = b at *
  obtain ⟨hprd, hpsampler, hpwinder⟩ := b.seamsPaused_meets (seamsOf s.usedStopes)
  generalize (b.seamsPaused (seamsOf s.usedStopes)).countWrap WD_HOLDS_SAMPLE.COUNT = z at *
  exact ⟨fun f hf hc u j => (hprd f hf hc u j).trans (hbrd ..), (congrArg Sampler.draining hpsampler).trans hdrain,
    (congrArg Sampler.slots hpsampler).trans hslots, hpwinder.trans hbwinder⟩

/-- What shows of the sample with its slot. -/
theorem State.slotShown_meets (s : State) {ev : SchedEvent} (hs : ev.slot < 16) : (s.slotShown ev).rd WD_SLOT.STATE 0 ev.slot = 1 ∧
    (s.slotShown ev).rd WD_SLOT.SEQ 0 ev.slot = (s.rd WD_SMP_SEQ.SEQ + 1) % 2 ^ 32 ∧
    (s.slotShown ev).rd WD_SLOT_TALLY.TALLY 0 ev.slot = s.rd WD_TALLY.TALLY % 2 ^ 64 ∧
    (s.slotShown ev).rd WD_SMP_SEQ.SEQ = (s.rd WD_SMP_SEQ.SEQ + 1) % 2 ^ 32 ∧ (s.slotShown ev).rd WD_SMP_STATUS.READY = 0 ∧
    (s.slotShown ev).rd WD_SMP_STATUS.DRAINING = 1 ∧ (s.slotShown ev).rd WD_SMP_STATUS.LAST_SLOT = ev.slot :=
  (s.slotNoted ev).slotMarked_meets hs (s.rd WD_SMP_SEQ.SEQ + 1) s.tally

theorem State.slotShown_rest (s : State) (ev : SchedEvent) : (s.slotShown ev).slotData ev.slot = s.sampleData ∧
    (s.slotShown ev).winder = s.winder ∧ (s.slotShown ev).rd WD_TALLY.TALLY = s.rd WD_TALLY.TALLY := by
  obtain ⟨hslot, hwinder, -, htally⟩ := s.slotNoted_meets ev
  obtain ⟨hmsampler, hmwinder⟩ := (s.slotNoted ev).slotMarked_rest ev (s.rd WD_SMP_SEQ.SEQ + 1) s.tally
  have hmtally : (s.slotShown ev).rd WD_TALLY.TALLY = _ := State.rd_slotMarked_other (by decide) (s.slotNoted ev) ev _ _ 0 0
  exact ⟨(congrArg (fun x : Sampler => Tab.get SlotData.none x.slots ev.slot) hmsampler).trans hslot, hmwinder.trans hwinder,
    hmtally.trans htally⟩

/-- The sample is taken: its slot drains, with its number and its tally (11 R287). -/
theorem State.CopiesOut.takes (h : s.CopiesOut ev) (hs : ev.slot < 16) (hu : s.slotUsable ev.slot = true)
    (hq : s.rd WD_SMP_SEQ.SEQ < 2 ^ 32 - 1) (hl : s.winder.lateBound = none)
    (he : ∀ e ∈ s.winder.events, e.kind = .sample ∨ s.rd WD_TALLY.TALLY < e.e) : ∃ t, Machine.exec .sampleCopyOut s = .next t ∧
      t.rd WD_SLOT.STATE 0 ev.slot = 1 ∧ t.rd WD_SLOT.SEQ 0 ev.slot = (s.rd WD_SMP_SEQ.SEQ + 1) % 2 ^ 32 ∧
      t.rd WD_SLOT_TALLY.TALLY 0 ev.slot = s.rd WD_TALLY.TALLY % 2 ^ 64 ∧ t.rd WD_SMP_SEQ.SEQ = (s.rd WD_SMP_SEQ.SEQ + 1) % 2 ^ 32 ∧
      t.rd WD_SMP_STATUS.READY = 0 ∧ t.rd WD_SMP_STATUS.DRAINING = 1 ∧ t.rd WD_SMP_STATUS.LAST_SLOT = ev.slot ∧
      t.sampler.draining = some ev.slot ∧ (t.slotData ev.slot).stopes = s.usedStopes := by
  have hexec := h.exec
  rw [if_pos ⟨hu, hq⟩, State.takeSample_eq] at hexec
  have hshown := s.slotShown_meets hs
  obtain ⟨hmslot, hmwinder, hmtally⟩ := s.slotShown_rest ev
  generalize s.slotShown ev = m at *
  obtain ⟨hord, hodrain, hoslots, howinder⟩ := s.sampleOpened_meets ev m
  generalize s.sampleOpened ev m = o at *
  have hnmv : Moves (Foot.only [.regs .tr, .sampler]) o (o.sysNotices 1 ev.slot s.tally) := State.sysNotices_moves (Sub.list rfl rfl) Moves.refl
  obtain ⟨hndrain, hnslots, -, -⟩ := o.sysNotices_keeps 1 ev.slot s.tally
  generalize o.sysNotices 1 ev.slot s.tally = z at *
  have hwinder : z.winder = s.winder := (hnmv.winder_kept (by decide)).trans (howinder.trans hmwinder)
  have hrd (f : Fld) (hf : f.blk = .wd) (hc : f.id ≠ WD_HOLDS_SAMPLE.COUNT.id) (u j : Nat) : z.rd f u j = m.rd f u j :=
    (hnmv.rd_kept (by rw [hf]; decide) u j).trans (hord f hf hc u j)
  obtain ⟨hfrd, hfsampler, hflate⟩ := State.sampleOver_keeps (s := z)
    (by rw [hwinder, hrd _ rfl (by decide), hmtally]; exact he) ev 0
  rw [State.lateSpoil_none (by rw [hflate, hwinder]; exact hl)] at hexec
  generalize z.sampleOver ev 0 = t at *
  have hall (f : Fld) (hf : f.blk = .wd) (hc : f.id ≠ WD_HOLDS_SAMPLE.COUNT.id) (hg : ∀ g ∈ finishFields, f.id ≠ g.id) (u j : Nat) :
      t.rd f u j = m.rd f u j := (hfrd f hg u j).trans (hrd f hf hc u j)
  refine ⟨t, hexec, ?_⟩
  rw [hall _ rfl (by decide) (by decide), hall _ rfl (by decide) (by decide), hall _ rfl (by decide) (by decide),
    hall _ rfl (by decide) (by decide), hall _ rfl (by decide) (by decide), hall _ rfl (by decide) (by decide),
    hall _ rfl (by decide) (by decide)]
  obtain ⟨h1, h2, h3, h4, h5, h6, h7⟩ := hshown
  refine ⟨h1, h2, h3, h4, h5, h6, h7, by rw [hfsampler, hndrain, hodrain], ?_⟩
  have hdata : t.slotData ev.slot = m.slotData ev.slot := by
    rw [State.slotData, State.slotData, hfsampler, hnslots, hoslots]
  rw [hdata, hmslot, State.sampleData]

end Sys2Proof.Machine
end


section
/-! PROOF. Restores that fail, and the seams of a restore (O28; 11 R301, R302). -/

namespace Sys2Proof.Machine

variable {s t : State} {f : Fld} {slot k n : Nat}

/-! ### A failed group restore (11 R301, R310) -/

/-- The fields that the end of a silent recovery writes. -/
def recoveryFields : List Fld := [WD_STATUS.STOP_CAUSE, WD_SMP_STATUS.RECOVERY_FAIL] ++ finishFields

theorem State.rd_recoveryFail_other (h : ∀ g ∈ recoveryFields, f.id ≠ g.id) (s : State) (u j : Nat) : s.recoveryFail.rd f u j = s.rd f u j := by
  have hfinish (x : State) (r : Nat) : (x.cmdFinish r).rd f u j = x.rd f u j := by
    rw [State.cmdFinish, State.rd_wdIrq_other (h _ (by decide)), State.rd_wd, State.rd_wr_other _ (h _ (by decide)),
      State.rd_wr_other _ (h _ (by decide)), State.rd_wr_other _ (h _ (by decide))]
  obtain ⟨y, hy⟩ : ∃ y, y = ((s.wr WD_STATUS.STOP_CAUSE 3).wr WD_SMP_STATUS.RECOVERY_FAIL 1).wd
    (fun w => { w with recovery := none, lateBound := none }) := ⟨_, rfl⟩
  have hpost : ((y.wdIrq 1).post 7 0x0070 1 1).rd f u j = s.rd f u j := by
    rw [State.rd_post, State.rd_wdIrq_other (h _ (by decide)), hy, State.rd_wd, State.rd_wr_other _ (h _ (by decide)),
      State.rd_wr_other _ (h _ (by decide))]
  unfold State.recoveryFail
  rw [← hy]
  dsimp only
  generalize (y.wdIrq 1).post 7 0x0070 1 1 = z at *
  split
  · split
    · exact (hfinish ..).trans hpost
    · exact hpost
  · exact hpost

/-- Every stope is unconfigured. -/
def State.stopesDropped (s : State) : State :=
  (List.range 640).foldl (fun t n => if t.configured n then (t.leaveUse n).unconfigure n else t) s

theorem State.stopesDropped_moves (s : State) : Moves ⟨false, false, true, false, false,
    partsMask [.regs .st, .regs .cf, .regs .sb, .scrubs, .stopes, .pins, .events, .sent]⟩ s s.stopesDropped := by
  refine Moves.foldl Moves.refl fun t n _ h => ?_
  split
  · exact State.unconfigure_moves rfl (Sub.list rfl rfl) (State.leaveUse_moves (Sub.list rfl rfl) h)
  · exact h

/-- Every slot is empty. -/
def State.slotsEmptied (s : State) : State := (List.range 16).foldl (fun t k => t.emptySlot k) s

theorem State.slotsEmptied_keeps (s : State) : s.slotsEmptied.rd WD_STATUS.STATE = s.rd WD_STATUS.STATE ∧
    s.slotsEmptied.rd CF_LOADED.VALID = s.rd CF_LOADED.VALID := by
  have hfold (f : Fld) (hf : ∀ g ∈ [WD_SLOT.STATE, WD_SLOT.AUTO, WD_SLOT.TAINTED, WD_SLOT.STALE_CFG, WD_SLOT.FAIL_CAUSE], f.id ≠ g.id)
      (l : List Nat) (s : State) : (l.foldl (fun t k => t.emptySlot k) s).rd f = s.rd f := by
    induction l generalizing s with
    | nil => rfl
    | cons k l ih => rw [List.foldl_cons, ih, State.rd_emptySlot_other hf]
  exact ⟨hfold _ (by decide) _ s, hfold _ (by decide) _ s⟩

/-- A Winder that is not HALTED goes to the state (08 R207). -/
theorem State.windTo_left (h : s.rd WD_STATUS.STATE ≠ 4) (v : Nat) : s.windTo v = s.wr WD_STATUS.STATE v := if_neg h

/-- The Winder is UNLOADED, and no restore runs. -/
def State.unloaded (s : State) : State :=
  (List.range 4).foldl (fun t k => t.wr CR_STATUS.RESTORE 0 k) ((s.windTo 0).smp fun x => { x with restoring := none, noticeRestore := 0 })

theorem State.unloaded_meets (h : s.rd WD_STATUS.STATE ≠ 4) : s.unloaded.rd WD_STATUS.STATE = 0 ∧
    s.unloaded.rd CF_LOADED.VALID = s.rd CF_LOADED.VALID ∧ s.unloaded.sampler.restoring = none := by
  have hcr (y : State) : Moves (Foot.only [.regs .cr]) y ((List.range 4).foldl (fun t k => t.wr CR_STATUS.RESTORE 0 k) y) :=
    Moves.foldl Moves.refl fun _ _ _ h => State.wr_moves rfl h
  have hmv := hcr ((s.windTo 0).smp fun x => { x with restoring := none, noticeRestore := 0 })
  refine ⟨(hmv.rd_kept (by decide) 0 0).trans ?_, (hmv.rd_kept (by decide) 0 0).trans ?_,
    congrArg Sampler.restoring (hmv.parts .sampler (partsMask_not (by decide)))⟩
  · show (s.windTo 0).rd WD_STATUS.STATE = 0
    rw [State.windTo_left h]
    exact State.rd_wr_fit (by decide)
  · show (s.windTo 0).rd CF_LOADED.VALID = _
    rw [State.windTo_left h, State.rd_wr_other _ (by decide)]

/-- The stopes are unconfigured, and the image is no longer in force. -/
def State.imageDropped (s : State) : State := s.stopesDropped.wr CF_LOADED.VALID 0

theorem State.imageDropped_meets (s : State) : s.imageDropped.rd WD_STATUS.STATE = s.rd WD_STATUS.STATE ∧
    s.imageDropped.rd CF_LOADED.VALID = 0 :=
  ⟨(State.rd_wr_other _ (by decide)).trans (s.stopesDropped_moves.parts (.regs .wd) (partsMask_not (by decide)) WD_STATUS.STATE 0 0 rfl),
    State.rd_wr_fit (by decide)⟩

theorem State.failSample_keeps (s : State) (cause : Nat) : (s.failSample cause).rd WD_STATUS.STATE = s.rd WD_STATUS.STATE ∧
    (s.failSample cause).rd CF_LOADED.VALID = s.rd CF_LOADED.VALID := by
  have hmv : Moves (Foot.only [.regs .st, .regs .sb, .regs .wd, .regs .cr, .sampler, .scrubs, .stopes]) s (s.failSample cause) :=
    State.failSample_moves (Sub.list rfl rfl) Moves.refl
  exact ⟨State.rd_failSample_other rfl (by decide) s cause 0 0, hmv.rd_kept (by decide) 0 0⟩

/-- What a failed restore leaves before the command ends. -/
def State.restoreDropped (s : State) : State := (s.imageDropped.failSample 5).slotsEmptied.unloaded

theorem State.restoreFail_eq (s : State) :
    s.restoreFail = if s.restoreDropped.winder.recovery.isSome then s.restoreDropped.recoveryFail else s.restoreDropped.cmdLocalDone 7 := by
  unfold State.restoreFail State.restoreDropped State.unloaded State.slotsEmptied State.imageDropped State.stopesDropped
  dsimp only

theorem State.restoreDropped_meets (h : s.rd WD_STATUS.STATE = 3) : s.restoreDropped.rd WD_STATUS.STATE = 0 ∧
    s.restoreDropped.rd CF_LOADED.VALID = 0 ∧ s.restoreDropped.sampler.restoring = none := by
  obtain ⟨histate, hivalid⟩ := s.imageDropped_meets
  obtain ⟨hfstate, hfvalid⟩ := s.imageDropped.failSample_keeps 5
  obtain ⟨hestate, hevalid⟩ := (s.imageDropped.failSample 5).slotsEmptied_keeps
  have hstate := hestate.trans (hfstate.trans (histate.trans h))
  obtain ⟨hustate, huvalid, hrestoring⟩ := State.unloaded_meets (s := (s.imageDropped.failSample 5).slotsEmptied) (by rw [hstate]; decide)
  exact ⟨hustate, huvalid.trans (hevalid.trans (hfvalid.trans hivalid)), hrestoring⟩

/-- A failed group restore leaves the Winder UNLOADED and no image in force. -/
theorem exec_restoreDone_fails (h : s.sampler.restoring = some (slot, false)) (hs : s.rd WD_STATUS.STATE = 3)
    (hn : s.sampler.noticeRestore = 0) (hh : s.dram.heldReqs = []) : ∃ t, exec (.restoreDone true) s = .next t ∧
      t.rd WD_STATUS.STATE = 0 ∧ t.rd CF_LOADED.VALID = 0 ∧ t.sampler.restoring = none := by
  have hexec : exec (.restoreDone true) s = .next s.restoreFail.releaseHeld := by
    rw [exec_restoreDone, execRestoreDone, h]
    dsimp only
    rw [if_neg (by rw [State.wdState, hs]; simp [hn]), if_pos rfl]
  have hmv : Moves ⟨false, false, true, false, false, 15766060439438256⟩ s s.restoreFail := State.restoreFail_moves rfl (fun _ h => h) Moves.refl
  rw [State.releaseHeld_nil ((congrArg Dram.heldReqs (hmv.parts .dram rfl)).trans hh), State.restoreFail_eq] at hexec
  obtain ⟨hstate, hvalid, hrestoring⟩ := State.restoreDropped_meets hs
  refine ⟨_, hexec, ?_⟩
  generalize s.restoreDropped = y at *
  split
  · have hrec : Moves (Foot.only [.regs .wd, .msix, .winder, .events, .sent]) y y.recoveryFail := State.recoveryFail_moves (Sub.list rfl rfl) Moves.refl
    exact ⟨(State.rd_recoveryFail_other (by decide) y 0 0).trans hstate, (State.rd_recoveryFail_other (by decide) y 0 0).trans hvalid,
      (congrArg Sampler.restoring (hrec.parts .sampler (partsMask_not (by decide)))).trans hrestoring⟩
  · obtain ⟨hsampler, -, -, -⟩ := y.cmdLocalDone_keeps 7
    exact ⟨(State.rd_cmdLocalDone_other (by decide) y 7 0 0).trans hstate, (State.rd_cmdLocalDone_other (by decide) y 7 0 0).trans hvalid,
      (congrArg Sampler.restoring hsampler).trans hrestoring⟩

/-! ### The seams of a restore of some stopes (11 R302) -/

theorem State.restoreStope_sampler (s : State) (d : SlotData) (n : Nat) : (s.restoreStope d n).sampler.backfill = s.sampler.backfill ∧
    (s.restoreStope d n).sampler.restoring = s.sampler.restoring := ⟨rfl, rfl⟩

theorem State.foldl_restoreStope_sampler (s : State) (d : SlotData) (l : List Nat) :
    (l.foldl (fun t n => t.restoreStope d n) s).sampler.backfill = s.sampler.backfill ∧
    (l.foldl (fun t n => t.restoreStope d n) s).sampler.restoring = s.sampler.restoring := by
  induction l generalizing s with
  | nil => exact ⟨rfl, rfl⟩
  | cons n l ih =>
    obtain ⟨hb, hr⟩ := ih (s.restoreStope d n)
    obtain ⟨hb', hr'⟩ := s.restoreStope_sampler d n
    exact ⟨hb.trans hb', hr.trans hr'⟩

/-- The seam's stopes have the slot's state. -/
def State.seamRestored (s : State) (slot k : Nat) : State :=
  (((s.sampler.backfill.filter (fun n => decide (n / 160 = k))).foldl (fun t n => t.restoreStope (s.slotData slot) n) s).smp
    fun x => { x with backfill := x.backfill.filter (fun n => decide (n / 160 ≠ k)) }).wr CR_STATUS.RESTORE 0 k

theorem State.seamRestored_meets (s : State) (slot k : Nat) :
    (s.seamRestored slot k).sampler.backfill = s.sampler.backfill.filter (fun n => decide (n / 160 ≠ k)) ∧
    (s.seamRestored slot k).sampler.restoring = s.sampler.restoring ∧ (s.seamRestored slot k).rd CR_STATUS.RESTORE k = 0 := by
  obtain ⟨hb, hr⟩ := s.foldl_restoreStope_sampler (s.slotData slot) (s.sampler.backfill.filter (fun n => decide (n / 160 = k)))
  unfold State.seamRestored
  generalize (s.sampler.backfill.filter (fun n => decide (n / 160 = k))).foldl (fun t n => t.restoreStope (s.slotData slot) n) s = y at *
  refine ⟨?_, hr, State.rd_wr_fit (by decide)⟩
  show y.sampler.backfill.filter _ = _
  rw [hb]

theorem exec_stopeBackfillDone_seam (hk : k < 4) (h : s.sampler.restoring = some (slot, true))
    (hb : s.sampler.backfill.filter (fun n => decide (n / 160 = k)) ≠ [] ∨ s.sampler.backfill = []) :
    exec (.stopeBackfillDone k) s = .next (if (s.seamRestored slot k).sampler.backfill.isEmpty then
      ((s.seamRestored slot k).smp fun x => { x with restoring := none }).cmdEnd else s.seamRestored slot k) := by
  rw [exec_stopeBackfillDone, execStopeBackfillDone, need_pos (decide_eq_true hk), h]
  dsimp only
  rw [if_neg]
  · rfl
  · rintro ⟨hempty, hne⟩
    exact hb.elim (fun h => h (List.isEmpty_iff.1 hempty)) hne

/-- A seam that others still follow leaves the mask. -/
theorem exec_stopeBackfillDone_more (hk : k < 4) (h : s.sampler.restoring = some (slot, true))
    (hother : s.sampler.backfill.any (fun n => n / 160 != k) = true) (hhere : s.sampler.backfill.any (fun n => n / 160 == k) = true) : ∃ t,
    exec (.stopeBackfillDone k) s = .next t ∧ t.sampler.backfill = s.sampler.backfill.filter (fun n => decide (n / 160 ≠ k)) ∧
      t.rd CR_STATUS.RESTORE k = 0 ∧ t.sampler.restoring = some (slot, true) := by
  obtain ⟨a, ha, hak⟩ := List.any_eq_true.1 hhere
  obtain ⟨b, hb, hbk⟩ := List.any_eq_true.1 hother
  have hexec := exec_stopeBackfillDone_seam hk h (.inl (List.ne_nil_of_mem (List.mem_filter.2 ⟨ha, by simpa using hak⟩)))
  obtain ⟨hback, hrestoring, hrd⟩ := s.seamRestored_meets slot k
  generalize s.seamRestored slot k = y at *
  have hleft : y.sampler.backfill.isEmpty = false := by
    rw [hback]
    exact List.isEmpty_eq_false_iff.2 (List.ne_nil_of_mem (List.mem_filter.2 ⟨hb, by simpa using hbk⟩))
  rw [hleft, if_neg (by simp)] at hexec
  exact ⟨y, hexec, hback, hrd, hrestoring.trans h⟩

/-- The last seam ends the command. -/
theorem exec_stopeBackfillDone_last (hk : k < 4) (h : s.sampler.restoring = some (slot, true))
    (hall : ∀ n ∈ s.sampler.backfill, n / 160 = k) : ∃ t, exec (.stopeBackfillDone k) s = .next t ∧ t.sampler.backfill = [] ∧
      t.sampler.restoring = none ∧ t.rd WD_CMD_STATUS.DONE = 1 ∧ t.rd WD_CMD_STATUS.BUSY = 0 := by
  have hkeep : s.sampler.backfill.filter (fun n => decide (n / 160 = k)) = s.sampler.backfill :=
    List.filter_eq_self.2 fun n hn => decide_eq_true (hall n hn)
  have hnone : s.sampler.backfill.filter (fun n => decide (n / 160 ≠ k)) = [] :=
    List.filter_eq_nil_iff.2 fun n hn => by simp [hall n hn]
  have hexec := exec_stopeBackfillDone_seam hk h (by rw [hkeep]; exact (em _).symm)
  obtain ⟨hback, -, -⟩ := s.seamRestored_meets slot k
  generalize s.seamRestored slot k = y at *
  rw [hnone] at hback
  rw [hback, if_pos List.isEmpty_nil] at hexec
  obtain ⟨z, hz⟩ : ∃ z, z = y.smp fun x => { x with restoring := none } := ⟨_, rfl⟩
  have hend : z.cmdEnd.sampler = z.sampler ∧ z.cmdEnd.rd WD_CMD_STATUS.DONE = 1 ∧ z.cmdEnd.rd WD_CMD_STATUS.BUSY = 0 := by
    unfold State.cmdEnd
    generalize (z.winder.cmd.map (fun c => c.result)).getD 0 = r
    have hmv : Moves (Foot.only [.regs .wd, .msix, .winder, .sent]) z (z.cmdFinish r) := State.cmdFinish_moves (Sub.list rfl rfl) Moves.refl
    refine ⟨hmv.parts .sampler (partsMask_not (by decide)), ?_, ?_⟩
    · rw [State.cmdFinish, State.rd_wdIrq_other (by decide), State.rd_wd, State.rd_wr_other _ (by decide)]
      exact State.rd_wr_fit (by decide)
    · rw [State.cmdFinish, State.rd_wdIrq_other (by decide), State.rd_wd, State.rd_wr_other _ (by decide), State.rd_wr_other _ (by decide)]
      exact State.rd_wr_fit (by decide)
  obtain ⟨hsampler, hdone, hbusy⟩ := hend
  rw [← hz] at hexec
  refine ⟨z.cmdEnd, hexec, ?_, ?_, hdone, hbusy⟩
  · rw [hsampler, hz]
    exact hback
  · rw [hsampler, hz]
    rfl

end Sys2Proof.Machine
end


section
/-! PROOF. Group restores that complete (O28; 11 R301, R309). -/

namespace Sys2Proof.Machine

variable {s t u : State} {f : Fld} {slot k n : Nat}

/-! ### What every phase of a restore carries on -/

/-- The Winder's state and tally, the engines' mask, the Winder, and the accesses held at the controllers are in `t` as in `s`. -/
structure Carries (s t : State) : Prop where
  rd : ∀ f ∈ [WD_STATUS.STATE, WD_TALLY.TALLY, WD_SMP_ENG.MASK], t.rd f = s.rd f
  winder : t.winder = s.winder
  held : t.dram.heldReqs = s.dram.heldReqs

theorem Carries.refl : Carries s s := ⟨fun _ _ => rfl, rfl, rfl⟩

theorem Carries.trans (h : Carries s t) (k : Carries t u) : Carries s u :=
  ⟨fun f hf => (k.rd f hf).trans (h.rd f hf), k.winder.trans h.winder, k.held.trans h.held⟩

theorem Carries.moves {F : Foot} (h : Moves F s t) (hr : F.parts.testBit (Part.regs .wd).code = false)
    (hw : F.parts.testBit Part.winder.code = false) (hd : F.parts.testBit Part.dram.code = false) : Carries s t := by
  refine ⟨fun f hf => ?_, h.parts .winder hw, congrArg Dram.heldReqs (h.parts .dram hd)⟩
  have hblk : f.blk = .wd := by
    revert f
    decide
  exact h.parts (.regs .wd) hr f 0 0 hblk

theorem Carries.wr (h : Carries s t) (hf : ∀ g ∈ [WD_STATUS.STATE, WD_TALLY.TALLY, WD_SMP_ENG.MASK], g.id ≠ f.id) (v u j : Nat) :
    Carries s (t.wr f v u j) :=
  ⟨fun g hg => (State.rd_wr_other t (hf g hg)).trans (h.rd g hg), h.winder, h.held⟩

theorem Carries.smp (h : Carries s t) (g : Sampler → Sampler) : Carries s (t.smp g) := ⟨h.rd, h.winder, h.held⟩

theorem Carries.foldl {α : Type} {g : State → α → State} (h : Carries s t) (k : ∀ t a, Carries t (g t a)) (l : List α) :
    Carries s (l.foldl g t) := by
  induction l generalizing t with
  | nil => exact h
  | cons a l ih => exact ih (h.trans (k t a))

/-- The stored bytes of a page put back. -/
theorem Carries.storeBytes (h : Carries s t) (a : Nat) (l : List Nat) : Carries s (t.storeBytes a l) :=
  h.trans (Carries.moves (F := ⟨true, false, false, false, false, 0⟩) (State.storeBytes_moves rfl Moves.refl) rfl rfl rfl)

theorem State.applyJournal_carries (s : State) (q : Nat) : Carries s (s.applyJournal q) := by
  have hraise {t x : State} {page : Nat} {b : Bool} (hb : t.raiseCounter page = (b, x)) : Carries t x :=
    Carries.moves (F := Foot.only [.regs .en, .crypto]) (State.raiseCounter_moves' (Sub.list rfl rfl) hb Moves.refl)
      (partsMask_not (by decide)) (partsMask_not (by decide)) (partsMask_not (by decide))
  unfold State.applyJournal
  extract_lets undo undone trimmed
  have hundone : Carries s undone := by
    refine Carries.refl.foldl (fun t e => ?_) _
    split
    · exact hraise ‹_›
    · have hstored := (hraise ‹_›).storeBytes (e.page * 128) e.old
      exact ⟨hstored.rd, hstored.winder, hstored.held⟩
  exact Carries.wr (t := trimmed) ⟨hundone.rd, hundone.winder, hundone.held⟩ (by decide) _ _ _

/-! ### The phases of a group restore (11 R301 steps 1 to 4) -/

/-- The page journal is applied, and the stopes of the slot have its state. -/
def State.stopesRestored (s : State) (slot : Nat) : State :=
  (s.slotData slot).stopes.foldl (fun t n => t.restoreStope (s.slotData slot) n)
    ((List.range 640).foldl (fun t n => t.endTargets n) (s.applyJournal (s.rd WD_SLOT.SEQ 0 slot)))

theorem State.stopesRestored_carries (s : State) (slot : Nat) : Carries s (s.stopesRestored slot) := by
  have htargets (t : State) (n : Nat) : Carries t (t.endTargets n) :=
    Carries.moves (F := Foot.only [.events, .sent, .stopes]) (State.endTargets_moves (Sub.list rfl rfl) Moves.refl)
      (partsMask_not (by decide)) (partsMask_not (by decide)) (partsMask_not (by decide))
  have hstope (t : State) (d : SlotData) (n : Nat) : Carries t (t.restoreStope d n) :=
    Carries.moves (F := ⟨false, true, false, false, false, partsMask [.sampler, .stopes]⟩)
      (State.restoreStope_moves rfl (Sub.list rfl rfl) Moves.refl) (partsMask_not (by decide)) (partsMask_not (by decide))
      (partsMask_not (by decide))
  exact ((s.applyJournal_carries _).foldl htargets _).foldl (fun t n => hstope t _ n) _

/-- The tally and the histories are the slot's. -/
def State.tallySet (t : State) (e : Nat) (d : SlotData) : State :=
  ((t.wr WD_TALLY.TALLY e).wd (fun w => { w with prevTrig := d.trig })).xpReset e d.hist false

/-- The queues, the log and the bin links go back. -/
def State.queuesBack (t : State) (e : Nat) (d : SlotData) (rewind : Bool) : State :=
  let t := t.queuesDrop
  let log := t.sampler.log
  let t := t.smp (fun x => { x with
    moved := []
    replay := if rewind then log.filter (fun r => decide (e ≤ r.tally)) else []
    log := if rewind then log else log.filter (fun r => decide (r.tally < e)) })
  let t := t.wr WD_SMP_USE.LOG_KIB (min ((t.logBytes + 1023) / 1024) (ones 32))
  let t := (t.cage.bins.map (fun p => p.1)).foldl (fun t k => t.openLink k.unit k.idx) t
  let t := t.queuesRestore d.upSeq rewind
  (List.range 4).foldl (fun t k => t.wr CR_STATUS.RESTORE 0 k) t

/-- The engines that take part are told. -/
def State.enginesTold (t : State) (slot e : Nat) : State :=
  (t.smp (fun x => { x with noticeRestore := t.rd WD_SMP_ENG.MASK })).sysNotices 2 slot e

theorem State.restoreAll_eq (s : State) (slot : Nat) : s.restoreAll slot =
    (((s.stopesRestored slot).tallySet (s.rd WD_SLOT_TALLY.TALLY 0 slot) (s.slotData slot)).queuesBack (s.rd WD_SLOT_TALLY.TALLY 0 slot)
      (s.slotData slot) (s.on WD_STATUS.REPLAY_ARMED)).enginesTold slot (s.rd WD_SLOT_TALLY.TALLY 0 slot) := by
  unfold State.restoreAll State.enginesTold State.queuesBack State.tallySet State.stopesRestored
  dsimp only

theorem State.tallySet_meets (t : State) (e : Nat) (d : SlotData) : (t.tallySet e d).rd WD_TALLY.TALLY = e % 2 ^ 64 ∧
    (t.tallySet e d).rd WD_STATUS.STATE = t.rd WD_STATUS.STATE ∧ (t.tallySet e d).rd WD_SMP_ENG.MASK = t.rd WD_SMP_ENG.MASK ∧
    (t.tallySet e d).winder = { t.winder with prevTrig := d.trig } ∧ (t.tallySet e d).dram = t.dram := by
  obtain ⟨y, hy⟩ : ∃ y, y = (t.wr WD_TALLY.TALLY e).wd (fun w => { w with prevTrig := d.trig }) := ⟨_, rfl⟩
  have hmv : Moves (Foot.only [.regs .xcp, .lanes, .xp, .sent]) y (y.xpReset e d.hist false) := State.xpReset_moves (Sub.list rfl rfl) Moves.refl
  unfold State.tallySet
  rw [← hy]
  generalize y.xpReset e d.hist false = z at *
  refine ⟨(hmv.rd_kept (by decide) 0 0).trans ?_, (hmv.rd_kept (by decide) 0 0).trans ?_, (hmv.rd_kept (by decide) 0 0).trans ?_,
    (hmv.winder_kept (by decide)).trans ?_, Eq.trans (hmv.parts .dram (partsMask_not (by decide))) ?_⟩
  · rw [hy, State.rd_wd]
    exact State.rd_wr_same ..
  · rw [hy, State.rd_wd, State.rd_wr_other _ (by decide)]
  · rw [hy, State.rd_wd, State.rd_wr_other _ (by decide)]
  · rw [hy]
    rfl
  · rw [hy]
    rfl

theorem State.queuesBack_carries (t : State) (e : Nat) (d : SlotData) (rewind : Bool) : Carries t (t.queuesBack e d rewind) := by
  have hdrop : Carries t t.queuesDrop :=
    Carries.moves (F := ⟨true, false, false, false, false, partsMask [.regs .qu, .sampler, .cage]⟩)
      (State.queuesDrop_moves rfl (Sub.list rfl rfl) Moves.refl) (partsMask_not (by decide)) (partsMask_not (by decide))
      (partsMask_not (by decide))
  have hlink (x : State) (k : Key) : Carries x (x.openLink k.unit k.idx) :=
    Carries.moves (F := Foot.only [.cage]) (State.openLink_moves (Sub.list rfl rfl) Moves.refl) (partsMask_not (by decide))
      (partsMask_not (by decide)) (partsMask_not (by decide))
  have hrestore (x : State) : Carries x (x.queuesRestore d.upSeq rewind) :=
    Carries.moves (F := Foot.only [.regs .qu, .cage]) (State.queuesRestore_moves (Sub.list rfl rfl) Moves.refl) (partsMask_not (by decide))
      (partsMask_not (by decide)) (partsMask_not (by decide))
  unfold State.queuesBack
  extract_lets dropped log trimmed shown linked restored
  have htrimmed : Carries t trimmed := hdrop.smp _
  have hshown : Carries t shown := htrimmed.wr (by decide) _ _ _
  have hlinked : Carries t linked := hshown.foldl hlink _
  exact (hlinked.trans (hrestore linked)).foldl (fun x k => Carries.refl.wr (by decide) _ _ _) _

/-- With no engine that takes part, no notice waits. -/
theorem State.enginesTold_meets (h : t.rd WD_SMP_ENG.MASK = 0) (slot e : Nat) : Carries t (t.enginesTold slot e) ∧
    (t.enginesTold slot e).sampler.noticeRestore = 0 := by
  obtain ⟨y, hy⟩ : ∃ y, y = t.smp (fun x => { x with noticeRestore := t.rd WD_SMP_ENG.MASK }) := ⟨_, rfl⟩
  have hmv : Carries y (y.sysNotices 2 slot e) :=
    Carries.moves (F := Foot.only [.regs .tr, .sampler]) (State.sysNotices_moves (Sub.list rfl rfl) Moves.refl) (partsMask_not (by decide))
      (partsMask_not (by decide)) (partsMask_not (by decide))
  obtain ⟨-, -, -, hnotice⟩ := y.sysNotices_keeps 2 slot e
  unfold State.enginesTold
  rw [← hy]
  refine ⟨Carries.trans ?_ hmv, hnotice.trans ?_⟩
  · rw [hy]
    exact ⟨fun _ _ => rfl, rfl, rfl⟩
  · rw [hy]
    exact h

/-- What the phases leave: the slot's tally, and no access or notice that waits. -/
theorem State.restoreAll_meets (hs : s.rd WD_STATUS.STATE = 3) (hm : s.rd WD_SMP_ENG.MASK = 0) (hh : s.dram.heldReqs = []) (slot : Nat) :
    (s.restoreAll slot).rd WD_STATUS.STATE = 3 ∧ (s.restoreAll slot).rd WD_TALLY.TALLY = s.rd WD_SLOT_TALLY.TALLY 0 slot % 2 ^ 64 ∧
    (s.restoreAll slot).winder = { s.winder with prevTrig := (s.slotData slot).trig } ∧ (s.restoreAll slot).dram.heldReqs = [] ∧
    (s.restoreAll slot).sampler.noticeRestore = 0 := by
  rw [State.restoreAll_eq]
  generalize s.rd WD_SLOT_TALLY.TALLY 0 slot = e
  generalize s.slotData slot = d
  have hstopes := s.stopesRestored_carries slot
  generalize s.stopesRestored slot = a at *
  obtain ⟨htally, hstate, hmask, hwinder, hdram⟩ := a.tallySet_meets e d
  generalize a.tallySet e d = b at *
  have hqueues := b.queuesBack_carries e d (s.on WD_STATUS.REPLAY_ARMED)
  generalize b.queuesBack e d (s.on WD_STATUS.REPLAY_ARMED) = c at *
  obtain ⟨htold, hnotice⟩ := State.enginesTold_meets (t := c)
    (by rw [hqueues.rd _ (by simp), hmask, hstopes.rd _ (by simp), hm]) slot e
  have hall := hqueues.trans htold
  refine ⟨?_, ?_, ?_, ?_, hnotice⟩
  · rw [hall.rd _ (by simp), hstate, hstopes.rd _ (by simp), hs]
  · rw [hall.rd _ (by simp), htally]
  · rw [hall.winder, hwinder, hstopes.winder]
  · rw [hall.held, hdram, hstopes.held, hh]

end Sys2Proof.Machine
end


section
/-! PROOF. The end of a group restore, and core samples settled (O28; 11 R286 to R290, R299 to R302, R310). -/

namespace Sys2Proof.Machine

variable {s t : State} {f : Fld} {slot k n : Nat}

/-! ### The end of a group restore (11 R301 steps 5 and 6) -/

/-- The fields that the slot's new epoch writes. -/
def epochFields : List Fld := failFields ++ [WD_SLOT.AUTO, WD_SLOT.TAINTED, WD_SLOT.STALE_CFG, WD_SMP_SEQ.SEQ, WD_SLOT.SEQ,
  WD_SMP_STATUS.RESTORED_SLOT]

theorem State.rd_restoreEpoch_other (hf : f.blk = .wd) (h : ∀ g ∈ epochFields, f.id ≠ g.id) (s : State) (slot : Nat) :
    (s.restoreEpoch slot).rd f = s.rd f := by
  have hempty (l : List Nat) (x : State) : (l.foldl (fun t k => t.emptySlot k) x).rd f = x.rd f := by
    induction l generalizing x with
    | nil => rfl
    | cons k l ih =>
      rw [List.foldl_cons, ih]
      exact State.rd_emptySlot_other (fun g hg => h g (by revert g; decide)) x k 0 0
  have hfail (x : State) : (x.failSample 5).rd f = x.rd f :=
    State.rd_failSample_other hf (fun g hg => h g (List.mem_append_left _ hg)) x 5 0 0
  have hwrites (x : State) (q : Nat) :
      ((((x.wr WD_SMP_SEQ.SEQ q).wr WD_SLOT.SEQ q 0 slot).wr WD_SMP_STATUS.RESTORED_SLOT slot).smp fun y => { y with epoch := q }).rd f = x.rd f := by
    show (((x.wr WD_SMP_SEQ.SEQ q).wr WD_SLOT.SEQ q 0 slot).wr WD_SMP_STATUS.RESTORED_SLOT slot).rd f = x.rd f
    rw [State.rd_wr_other _ (h _ (by decide)), State.rd_wr_other _ (h _ (by decide)), State.rd_wr_other _ (h _ (by decide))]
  unfold State.restoreEpoch
  dsimp only
  rw [hwrites, hempty]
  split
  · exact hfail s
  · rfl

/-- The slot's epoch where the restore was of one. -/
def State.epochBegun (s : State) : State :=
  match s.sampler.restoring with
  | some (slot, _) => s.restoreEpoch slot
  | none => s

theorem State.epochBegun_meets (s : State) : s.epochBegun.rd WD_STATUS.STATE = s.rd WD_STATUS.STATE ∧
    s.epochBegun.rd WD_TALLY.TALLY = s.rd WD_TALLY.TALLY ∧ s.epochBegun.winder = s.winder ∧ s.epochBegun.dram = s.dram := by
  unfold State.epochBegun
  split
  · rename_i slot _ _
    have hmv : Moves (Foot.only [.regs .st, .regs .sb, .regs .wd, .regs .cr, .sampler, .scrubs, .stopes]) s (s.restoreEpoch slot) :=
      State.restoreEpoch_moves (Sub.list rfl rfl) Moves.refl
    exact ⟨State.rd_restoreEpoch_other rfl (by decide) s slot, State.rd_restoreEpoch_other rfl (by decide) s slot,
      hmv.winder_kept (by decide), hmv.parts .dram (partsMask_not (by decide))⟩
  · exact ⟨rfl, rfl, rfl, rfl⟩

/-- The Winder stops, and no restore runs. -/
def State.restoreStopped (s : State) : State := ((s.windTo 1).smp (fun x => { x with restoring := none })).refreshReplaying

theorem State.restoreStopped_meets (h : s.rd WD_STATUS.STATE ≠ 4) : s.restoreStopped.rd WD_STATUS.STATE = 1 ∧
    s.restoreStopped.rd WD_TALLY.TALLY = s.rd WD_TALLY.TALLY ∧ s.restoreStopped.sampler.restoring = none ∧
    s.restoreStopped.winder = s.winder ∧ s.restoreStopped.dram = s.dram := by
  rw [State.restoreStopped, State.windTo_left h, State.refreshReplaying]
  refine ⟨?_, ?_, rfl, rfl, rfl⟩
  · rw [State.rd_put_other (by decide)]
    show (s.wr WD_STATUS.STATE 1).rd WD_STATUS.STATE = 1
    exact State.rd_wr_fit (by decide)
  · rw [State.rd_put_other (by decide)]
    show (s.wr WD_STATUS.STATE 1).rd WD_TALLY.TALLY = _
    exact State.rd_wr_other _ (by decide)

/-- Without a recovery and a duty the restore ends on this part with its share of the command. -/
theorem State.restoreFinish_eq (hr : s.epochBegun.restoreStopped.winder.recovery = none) (hd : s.epochBegun.restoreStopped.winder.duty = none) :
    s.restoreFinish = s.epochBegun.restoreStopped.cmdLocalDone 0 := by
  have hfinish : s.restoreFinish = match s.epochBegun.restoreStopped.winder.recovery with
      | some r =>
        let t := s.epochBegun.restoreStopped
        let t := t.winder.spoiled.foldl (fun t n => t.clearSpoil n) t
        (t.wd (fun w => { w with spoiled := [], recovery := some { r with ownDone := true } })).recoveryProceed
      | none =>
        let t := s.epochBegun.restoreStopped
        let t := if t.winder.duty = some 14 then t.winder.spoiled.foldl (fun t n => t.clearSpoil n) t else t
        t.cmdLocalDone 0 := rfl
  rw [hfinish, hr]
  dsimp only
  rw [hd, if_neg (by simp)]

theorem State.restoreFinish_meets (hs : s.rd WD_STATUS.STATE = 3) (hr : s.winder.recovery = none) (hd : s.winder.duty = none) :
    s.restoreFinish.rd WD_STATUS.STATE = 1 ∧ s.restoreFinish.rd WD_TALLY.TALLY = s.rd WD_TALLY.TALLY ∧
    s.restoreFinish.sampler.restoring = none ∧ s.restoreFinish.winder.prevTrig = s.winder.prevTrig ∧
    s.restoreFinish.winder.lateBound = s.winder.lateBound ∧ s.restoreFinish.dram = s.dram := by
  obtain ⟨hestate, hetally, hewinder, hedram⟩ := s.epochBegun_meets
  have heq := State.restoreFinish_eq (s := s)
  generalize s.epochBegun = y at *
  obtain ⟨hstate, htally, hrestoring, hwinder, hdram⟩ := State.restoreStopped_meets (s := y) (by rw [hestate, hs]; decide)
  generalize y.restoreStopped = z at *
  rw [heq (by rw [hwinder, hewinder, hr]) (by rw [hwinder, hewinder, hd])]
  obtain ⟨hcsampler, hcdram, hclate, hctrig⟩ := z.cmdLocalDone_keeps 0
  refine ⟨(State.rd_cmdLocalDone_other (by decide) z 0 0 0).trans hstate,
    (State.rd_cmdLocalDone_other (by decide) z 0 0 0).trans (htally.trans hetally), by rw [hcsampler, hrestoring], ?_, ?_, ?_⟩
  · rw [hctrig, hwinder, hewinder]
  · rw [hclate, hwinder, hewinder]
  · rw [hcdram, hdram, hedram]

/-- A good group restore without engines stops the Winder at the slot's tally. -/
theorem exec_restoreDone_good (h : s.sampler.restoring = some (slot, false)) (hs : s.rd WD_STATUS.STATE = 3)
    (hn : s.sampler.noticeRestore = 0) (hm : s.rd WD_SMP_ENG.MASK = 0) (hr : s.winder.recovery = none) (hd : s.winder.duty = none)
    (hl : s.winder.lateBound = none) (hh : s.dram.heldReqs = []) : ∃ t, exec (.restoreDone false) s = .next t ∧
      t.rd WD_STATUS.STATE = 1 ∧ t.rd WD_TALLY.TALLY = s.rd WD_SLOT_TALLY.TALLY 0 slot % 2 ^ 64 ∧ t.sampler.restoring = none ∧
      t.winder.prevTrig = (s.slotData slot).trig := by
  have hexec : exec (.restoreDone false) s = .next (if (s.restoreAll slot).sampler.noticeRestore = 0 then (s.restoreAll slot).restoreFinish
      else s.restoreAll slot).releaseHeld.lateSpoil := by
    rw [exec_restoreDone, execRestoreDone, h]
    dsimp only
    rw [if_neg (by rw [State.wdState, hs]; simp [hn]), if_neg (by simp)]
  obtain ⟨hstate, htally, hwinder, hheld, hnotice⟩ := State.restoreAll_meets hs hm hh slot
  generalize s.restoreAll slot = y at *
  rw [if_pos hnotice] at hexec
  obtain ⟨hfstate, hftally, hfrestoring, hftrig, hflate, hfdram⟩ := State.restoreFinish_meets hstate (by rw [hwinder]; exact hr)
    (by rw [hwinder]; exact hd)
  generalize y.restoreFinish = z at *
  rw [State.releaseHeld_nil (by rw [hfdram, hheld]), State.lateSpoil_none (by rw [hflate, hwinder]; exact hl)] at hexec
  exact ⟨z, hexec, hfstate, hftally.trans htally, hfrestoring, by rw [hftrig, hwinder]⟩

/-! ### Core samples settled -/

/-- Settles O28: the copy-out, the drain, the ends of a sample and of its notices, and restores, each by its own lemma. -/
theorem coreSamples : Obligations.CoreSamples := by
  unfold Obligations.CoreSamples
  intro s
  refine ⟨fun ev hdue hslot hst hready hm hu hq hl he => State.CopiesOut.takes ⟨hdue, hst, hready, hm⟩ hslot hu hq hl he,
    fun ev hdue hst hready hm hno hl hc => ⟨_, State.CopiesOut.skips ⟨hdue, .inl hst, hready, hm⟩ hst hno hl hc, rfl⟩,
    exec_sampleCopyOut_waits, fun k slot n r ue hk hd hdrain _ => ?_, fun k slot n r hk hd hdrain hj hfree => ?_,
    fun k slot n r hk hd hdrain hj hfree => ?_, fun slot h hd ha hn => exec_sampleComplete_done h hd ha hn, exec_sampleComplete_none,
    fun slot h hn hr => ?_, exec_engLimitExpiry_none, fun e he h => exec_engineAck_meets he h,
    fun slot h hs hn hh => exec_restoreDone_fails h hs hn hh,
    fun slot h hs hn hm hr hd hl hh => exec_restoreDone_good h hs hn hm hr hd hl hh,
    fun k slot hk h hother hhere => exec_stopeBackfillDone_more hk h hother hhere,
    fun k slot hk h hall => exec_stopeBackfillDone_last hk h hall⟩
  · have hdrains : s.Drains k slot n r := ⟨hk, hd, hdrain⟩
    exact ⟨_, hdrains.fails ue, State.failSample_meets hd (by split <;> decide)⟩
  · have hdrains : s.Drains k slot n r := ⟨hk, hd, hdrain⟩
    exact hdrains.middle hj hfree
  · have hdrains : s.Drains k slot n r := ⟨hk, hd, hdrain⟩
    exact hdrains.last hj hfree
  · obtain ⟨hstate, hcause, hdraining, -⟩ := State.failSample_meets h (cause := 4) (by decide)
    exact ⟨_, exec_engLimitExpiry_late hn hr h, hstate, hcause, hdraining⟩

end Sys2Proof.Machine
end
